-- ==== Sys2Proof/Word.lean ====
section
/-! DEFINITION. The two word types of the ZT-192: a 32-bit register word (R6) and a byte of memory (R16). -/

namespace Sys2Proof

/-- A register word (R6). -/
abbrev Word := BitVec 32

/-- A byte of memory, the smallest unit the address map of R16 names. -/
abbrev Byte := BitVec 8

end Sys2Proof
end

