-- ==== Sys2Proof/Syntax.lean ====
section
/-! DEFINITION. The commands of the ZT-192: one constructor for each row of spec/opcode_table.json, in the table's order. -/

namespace Sys2Proof

/-- Bits that an upset has flipped in the stored codeword of the block at a byte address (R18): what happens to memory
from outside, which the reader of the block then finds under R21. -/
structure Upset where
  addr : Nat
  bits : BitVec 280
  deriving DecidableEq, Repr

/-- When a command takes place: the true time in ns, and the upsets that have struck memory since the last command.
Log entry 5 (DESIGN CHOICE). -/
structure At where
  ns     : Nat
  upsets : List Upset
  deriving DecidableEq, Repr

/-- Who makes an access (R17, R441): SUP itself, the service path through SUP, a program core, or another unit by its page. -/
inductive Accessor where
  | sup
  | service
  | core (n : Nat)
  | unit (page : Nat)
  deriving DecidableEq, Repr

/-- A CAN frame as it stands on the wire (R309): identifier, extended, remote, FD, bit rate switch, error state, DLC, payload,
and the ns since its start of frame. -/
structure CanWire where
  ident  : Nat
  xtd    : Bool
  remote : Bool
  fdf    : Bool
  brs    : Bool
  esi    : Bool
  dlc    : Nat
  data   : List Byte
  age    : Nat
  deriving DecidableEq, Repr

/-- The commands. Every one comes at its time. A command of the schedule names the span by its index; a write of a register of its own
names its accessor, the instance of a page and the value; what the outside delivers (levels of lines, voltages, frames, samples, the
outcome of a write's read-back) comes as operands. -/
inductive Instr where
  /-- POWER_ON (R418). -/
  | powerOn (at_ : At) (strapA strapB : Option Nat)
  /-- BOOT_COMPLETE (R421). -/
  | bootComplete (at_ : At)
  /-- RING_SEARCH_DONE (R405). -/
  | ringSearchDone (at_ : At)
  /-- COMMANDED_RESET (R420). -/
  | commandedReset (at_ : At) (acc : Accessor) (value : Word) (strapA strapB : Option Nat)
  /-- GO_READY (R419). -/
  | goReady (at_ : At) (acc : Accessor)
  /-- GO_RUN (R418). -/
  | goRun (at_ : At) (acc : Accessor)
  /-- STOP (R418). -/
  | stop (at_ : At) (acc : Accessor)
  /-- GO_CONFIG (R418). -/
  | goConfig (at_ : At) (acc : Accessor)
  /-- GO_SERVICE (R418). -/
  | goService (at_ : At) (acc : Accessor)
  /-- SAVE_CFG (R425). -/
  | saveCfg (at_ : At) (acc : Accessor) (windows : List (Nat × Nat × Nat)) (ok : Bool)
  /-- STATE_TRANSITION (R418). -/
  | stateTransition (at_ : At)
  /-- HOLDUP_EXHAUSTED (R397). -/
  | holdupExhausted (at_ : At)
  /-- SUP_FETCH_FAULT (R424). -/
  | supFetchFault (at_ : At)
  /-- REGISTER_WRITE (R8). -/
  | registerWrite (at_ : At) (acc : Accessor) (addr width : Nat) (value : Word)
  /-- ISLAND_ACCESS_TIMEOUT (R15). -/
  | islandAccessTimeout (at_ : At) (acc : Accessor) (read : Bool)
  /-- MEMORY_ACCESS (R17). -/
  | memoryAccess (at_ : At) (acc : Accessor) (addr len : Nat) (data : Option (List Byte))
  /-- SOFT_RESET (R433). -/
  | softReset (at_ : At) (acc : Accessor) (page : Fin 86) (value : Word)
  /-- FREEZE (R433). -/
  | freeze (at_ : At) (acc : Accessor) (page : Fin 86) (on : Bool)
  /-- PAGE_ERR_CLR (R434). -/
  | pageErrClr (at_ : At) (acc : Accessor) (page : Fin 86) (same : Option Nat)
  /-- HANDSHAKE_TIMEOUT (R14). -/
  | handshakeTimeout (at_ : At) (page : Fin 86) (consumer : Option (Fin 86))
  /-- PLL_LOCK_LOSS (R15). -/
  | pllLockLoss (at_ : At) (island : Fin 12)
  /-- REFERENCE_LOSS (R15). -/
  | referenceLoss (at_ : At)
  /-- FIRKIN_PUSH (R30). -/
  | firkinPush (at_ : At) (unit : Nat) (firkin : Fin 64) (value : Word) (poisoned : Bool)
  /-- FIRKIN_PUSH_END (R30). -/
  | firkinPushEnd (at_ : At) (unit : Nat) (firkin : Fin 64) (value : Word) (poisoned : Bool)
  /-- FIRKIN_POP (R31). -/
  | firkinPop (at_ : At) (unit : Nat) (firkin : Fin 64) (upset : BitVec 4)
  /-- FIRKIN_FLUSH_REQUEST (R33). -/
  | firkinFlushRequest (at_ : At) (acc : Accessor) (half : Fin 2) (value : Word)
  /-- FIRKIN_FLUSH_EFFECT (R33). -/
  | firkinFlushEffect (at_ : At) (firkin : Fin 64)
  /-- FIRKIN_DISABLE (R30). -/
  | firkinDisable (at_ : At) (acc : Accessor) (value : Word)
  /-- FATHOM_START (R49). -/
  | fathomStart (at_ : At)
  /-- SPAN_COMPLETION (R46). -/
  | spanCompletion (at_ : At) (idx : Nat) (result : Bool)
  /-- SPAN_DEADLINE (R57). -/
  | spanDeadline (at_ : At) (idx : Nat)
  /-- SPAN_STORE (R51). -/
  | spanStore (at_ : At) (acc : Accessor) (value : Word)
  /-- SHADOW_COUNT_WRITE (R51). -/
  | shadowCountWrite (at_ : At) (acc : Accessor) (value : Word)
  /-- SWAP_REQUEST (R53). -/
  | swapRequest (at_ : At) (acc : Accessor)
  /-- FURLONG_SWAP (R54). -/
  | furlongSwap (at_ : At)
  /-- PUB_SEL_WRITE (R62). -/
  | pubSelWrite (at_ : At) (acc : Accessor) (value : Word)
  /-- LATCH (R44). -/
  | latch (at_ : At) (idx : Nat) (lines : BitVec 24)
  /-- SAMPLE_ARRIVAL (R66). -/
  | sampleArrival (at_ : At) (unit sel : Nat) (stamp val : Int)
  /-- RESAMPLE (R77). -/
  | resample (at_ : At) (idx : Nat)
  /-- COEF_DATA_WRITE (R71). -/
  | coefDataWrite (at_ : At) (acc : Accessor) (value : Word)
  /-- ESTIMATE (R92). -/
  | estimate (at_ : At) (idx : Nat)
  /-- ADMIT (R102). -/
  | admitObs (at_ : At) (acc : Accessor)
  /-- WITHDRAW (R102). -/
  | withdraw (at_ : At) (acc : Accessor)
  /-- REINIT (R98). -/
  | reinit (at_ : At) (acc : Accessor)
  /-- POINT_DATAGRAM (R107). -/
  | pointDatagram (at_ : At) (src dport : Nat) (frag : Bool) (data : List Byte)
  /-- BINNING (R111). -/
  | binning (at_ : At)
  /-- UPDATE (R129). -/
  | update (at_ : At) (idx : Nat)
  /-- UPDATE_FINAL_WRITE (R129). -/
  | updateFinalWrite (at_ : At) (idx : Nat)
  /-- SEED (R119). -/
  | seed (at_ : At) (acc : Accessor)
  /-- ANTENNA_OPEN (R136). -/
  | antennaOpen (at_ : At) (bank : Fin 2) (mA : Nat)
  /-- ANTENNA_SHORT (R136). -/
  | antennaShort (at_ : At) (bank : Fin 2) (held : Bool)
  /-- ANTENNA_SUPPLY_RETRY (R136). -/
  | antennaSupplyRetry (at_ : At) (bank : Fin 2)
  /-- FRONT_END_UNLOCK (R136). -/
  | frontEndUnlock (at_ : At) (bank : Fin 2)
  /-- CODE_EPOCH (R139). -/
  | codeEpoch (at_ : At) (bank : Fin 2) (chan : Fin 24) (dump : List Word) (served : Bool)
  /-- ACQ_TIMEOUT (R141). -/
  | acqTimeout (at_ : At) (bank : Fin 2) (chan : Fin 24)
  /-- PULLIN_TIMEOUT (R141). -/
  | pullinTimeout (at_ : At) (bank : Fin 2) (chan : Fin 24)
  /-- MEASUREMENT_LATCH (R142). -/
  | measurementLatch (at_ : At) (phases : List (Nat × Nat × Word × Word))
  /-- PVT (R143). -/
  | pvt (at_ : At) (idx : Nat)
  /-- PPS_PULSE (R147). -/
  | ppsPulse (at_ : At)
  /-- PPS_PULSE_END (R147). -/
  | ppsPulseEnd (at_ : At)
  /-- SNAPSHOT_START (R151). -/
  | snapshotStart (at_ : At) (acc : Accessor)
  /-- SNAPCAP (R151). -/
  | snapcap (at_ : At) (idx : Nat)
  /-- SNAPSHOT_CAPTURE_END (R152). -/
  | snapshotCaptureEnd (at_ : At) (samples : List Byte)
  /-- EXPORT (R153). -/
  | gnssExport (at_ : At) (acc : Accessor)
  /-- SNAPSHOT_EXPORT_END (R153). -/
  | snapshotExportEnd (at_ : At) (packets : Nat)
  /-- PROCESS (R154). -/
  | process (at_ : At) (acc : Accessor)
  /-- SNAPSHOT_FIX_DONE (R154). -/
  | snapshotFixDone (at_ : At)
  /-- LOOPS (R186). -/
  | loops (at_ : At) (idx : Nat)
  /-- INSTANCE_WINDOW_WRITE (R175). -/
  | instanceWindowWrite (at_ : At) (acc : Accessor) (engine : Fin 2) (value : Word)
  /-- SWAP (R183). -/
  | swap (at_ : At) (acc : Accessor) (engine : Fin 2)
  /-- SWAP_ALL (R183). -/
  | swapAll (at_ : At) (acc : Accessor) (engine : Fin 2)
  /-- ASSEMBLE (R208). -/
  | assemble (at_ : At) (idx : Nat)
  /-- ALC_PARAM_WRITE (R194). -/
  | alcParamWrite (at_ : At) (acc : Accessor) (value : Word)
  /-- ALC_SWAP (R195). -/
  | alcSwap (at_ : At) (acc : Accessor)
  /-- ALLOCATE (R223). -/
  | allocate (at_ : At) (idx : Nat)
  /-- IMAGE_WINDOW_WRITE (R222). -/
  | imageWindowWrite (at_ : At) (acc : Accessor) (value : Word)
  /-- IMAGE_SWAP (R222). -/
  | imageSwap (at_ : At) (acc : Accessor)
  /-- COLD (R224). -/
  | cold (at_ : At) (acc : Accessor)
  /-- SOL1_MEM_WRITE (R232). -/
  | sol1MemWrite (at_ : At) (acc : Accessor) (value : Word)
  /-- TASK_INPUT_COPY_DONE (R245). -/
  | taskInputCopyDone (at_ : At) (task : Fin 48)
  /-- TASK_CYCLE_END (R246). -/
  | taskCycleEnd (at_ : At) (task : Fin 48) (writes : List (Nat × Byte))
  /-- TASK_RUNTIME_ERROR (R247). -/
  | taskRuntimeError (at_ : At) (task : Fin 48) (kind : Nat)
  /-- TASK_FETCH_FAULT (R247). -/
  | taskFetchFault (at_ : At) (task : Fin 48)
  /-- STOP_TASK (R258). -/
  | stopTask (at_ : At) (acc : Accessor)
  /-- START_TASK (R258). -/
  | startTask (at_ : At) (acc : Accessor)
  /-- CLR_TASK_STATS (R258). -/
  | clrTaskStats (at_ : At) (acc : Accessor)
  /-- RETAIN_SAVE_PERIOD (R250). -/
  | retainSavePeriod (at_ : At)
  /-- SAVE (R250). -/
  | save (at_ : At) (acc : Accessor)
  /-- RETAIN_SAVE_DONE (R250). -/
  | retainSaveDone (at_ : At) (ok : Bool)
  /-- FORCE_COMMIT (R252). -/
  | forceCommit (at_ : At) (acc : Accessor) (value : Word)
  /-- CHECK (R254). -/
  | check (at_ : At) (acc : Accessor)
  /-- CHANGE (R254). -/
  | change (at_ : At) (acc : Accessor)
  /-- ABORT (R254). -/
  | abort (at_ : At) (acc : Accessor)
  /-- CHANGE_POINT (R255). -/
  | changePoint (at_ : At)
  /-- CHANGE_WAIT_EXPIRY (R255). -/
  | changeWaitExpiry (at_ : At)
  /-- HEARTBEAT (R266). -/
  | heartbeat (at_ : At) (idx : Nat)
  /-- MIRROR (R271). -/
  | mirror (at_ : At) (idx : Nat)
  /-- JUDGMENT (R267). -/
  | judgment (at_ : At)
  /-- HEARTBEAT_RECEIVE (R263). -/
  | heartbeatReceive (at_ : At) (port : Fin 2) (frame : List Byte)
  /-- VERDICT_RECEIVE (R275). -/
  | verdictReceive (at_ : At) (port : Fin 2) (frame : List Byte)
  /-- PUB_RECEIVE (R270). -/
  | pubReceive (at_ : At) (port : Fin 2) (frame : List Byte)
  /-- OUTPUT_RECEIVE (R273). -/
  | outputReceive (at_ : At) (port : Fin 2) (frame : List Byte)
  /-- INPUT_RECEIVE (R272). -/
  | inputReceive (at_ : At) (port : Fin 2) (frame : List Byte)
  /-- SAMPLE_RECEIVE (R268). -/
  | sampleReceive (at_ : At) (port : Fin 2) (frame : List Byte)
  /-- DATAGRAM_RECEIVE (R269). -/
  | datagramReceive (at_ : At) (port : Fin 2) (frame : List Byte)
  /-- STATE_RECEIVE (R282). -/
  | stateReceive (at_ : At) (port : Fin 2) (frame : List Byte)
  /-- OP_RECEIVE (R284). -/
  | opReceive (at_ : At) (port : Fin 2) (frame : List Byte)
  /-- ACK_RECEIVE (R284). -/
  | ackReceive (at_ : At) (port : Fin 2) (frame : List Byte)
  /-- SAMPLE_TICK (R268). -/
  | sampleTick (at_ : At)
  /-- MIRROR_PUBLICATION (R270). -/
  | mirrorPublication (at_ : At)
  /-- GO (R284). -/
  | go (at_ : At) (acc : Accessor)
  /-- CHAIN_OP_TIMEOUT (R284). -/
  | chainOpTimeout (at_ : At)
  /-- CLR (R286). -/
  | clr (at_ : At) (acc : Accessor)
  /-- REJOIN (R282). -/
  | rejoin (at_ : At) (acc : Accessor)
  /-- PTP_SYNC_RECEIVE (R290). -/
  | ptpSyncReceive (at_ : At) (port : Fin 4) (frame : List Byte)
  /-- PTP_ANNOUNCE_RECEIVE (R294). -/
  | ptpAnnounceReceive (at_ : At) (port : Fin 4) (frame : List Byte)
  /-- PTP_DELAY_EXCHANGE (R297). -/
  | ptpDelayExchange (at_ : At) (port : Fin 4) (turnNs : Nat) (frame : List Byte)
  /-- PTP_TRANSPARENT_FORWARD (R295). -/
  | ptpTransparentForward (at_ : At) (port : Fin 2) (residenceNs : Nat) (frame : List Byte)
  /-- PTP_SYNC_SEND (R296). -/
  | ptpSyncSend (at_ : At)
  /-- PPS_IN_EDGE (R290). -/
  | ppsInEdge (at_ : At)
  /-- SOURCE_LAPSE (R290). -/
  | sourceLapse (at_ : At) (source : Fin 4)
  /-- PRIMARY_RESELECT (R290). -/
  | primaryReselect (at_ : At)
  /-- TIME_STEP (R292). -/
  | timeStep (at_ : At) (lines : BitVec 24)
  /-- TIME_MATCH_ARM (R293). -/
  | timeMatchArm (at_ : At) (acc : Accessor) (value : Word) (lines : BitVec 24)
  /-- TIME_MATCH_FIRE (R293). -/
  | timeMatchFire (at_ : At) (lines : BitVec 24)
  /-- TRIG_OUT_END (R293). -/
  | trigOutEnd (at_ : At)
  /-- TRIG_IN_EDGE (R293). -/
  | trigInEdge (at_ : At)
  /-- LINK_DOWN (R298). -/
  | linkDown (at_ : At) (port : Fin 4)
  /-- LINK_UP (R298). -/
  | linkUp (at_ : At) (port : Fin 4) (speed : Nat) (half : Bool)
  /-- PRP_FRAME_RECEIVE (R299). -/
  | prpFrameReceive (at_ : At) (lan : Fin 2) (frame : List Byte)
  /-- PRP_SUPERVISION_SEND (R299). -/
  | prpSupervisionSend (at_ : At)
  /-- PRP_LAN_LOSS (R299). -/
  | prpLanLoss (at_ : At) (lan : Fin 2)
  /-- ARP_ICMP_REQUEST (R300). -/
  | arpIcmpRequest (at_ : At) (frame : List Byte)
  /-- UDPBC_DATAGRAM (R301). -/
  | udpbcDatagram (at_ : At) (group port : Nat) (data : List Byte)
  /-- HELLO (R302). -/
  | hello (at_ : At) (frame : List Byte)
  /-- READ (R442). -/
  | read (at_ : At) (within : Nat) (frame : List Byte)
  /-- WRITE (R304). -/
  | write (at_ : At) (within : Nat) (frame : List Byte)
  /-- CLOSE (R302). -/
  | close (at_ : At) (frame : List Byte)
  /-- KEY_SET (R303). -/
  | keySet (at_ : At) (ok : Bool) (frame : List Byte)
  /-- OPEN (R426). -/
  | transferOpen (at_ : At) (frame : List Byte)
  /-- DATA (R426). -/
  | transferData (at_ : At) (ok : Bool) (frame : List Byte)
  /-- COMMIT (R426). -/
  | transferCommit (at_ : At) (frame : List Byte)
  /-- TRANSFER_READ (R426). -/
  | transferRead (at_ : At) (frame : List Byte)
  /-- TRANSFER_CLOSE (R426). -/
  | transferClose (at_ : At) (frame : List Byte)
  /-- SESSION_TIMEOUT (R302). -/
  | sessionTimeout (at_ : At) (session : Nat)
  /-- SEND_SET (R324). -/
  | sendSet (at_ : At) (idx : Nat) (wire : Option (Fin 64))
  /-- CAN_TX_PACKET_LOAD (R313). -/
  | canTxPacketLoad (at_ : At) (bus : Fin 4) (firkin : Fin 64) (wire : Option (Fin 64))
  /-- CAN_TRANSMIT_END (R315). -/
  | canTransmitEnd (at_ : At) (bus : Fin 4) (obj : Fin 64) (outcome tdcv : Nat)
  /-- CAN_FRAME_RECEIVE (R317). -/
  | canFrameReceive (at_ : At) (bus : Fin 4) (rx : CanWire)
  /-- RECOVER (R316). -/
  | recover (at_ : At) (acc : Accessor) (bus : Fin 4)
  /-- BUSOFF_RECOVERY_END (R316). -/
  | busoffRecoveryEnd (at_ : At) (bus : Fin 4)
  /-- SLEEP (R318). -/
  | sleep (at_ : At) (acc : Accessor) (bus : Fin 4)
  /-- SLEEP_ENTER (R318). -/
  | sleepEnter (at_ : At) (bus : Fin 4)
  /-- WAKE_WRITE (R319). -/
  | wakeWrite (at_ : At) (acc : Accessor) (bus : Fin 4)
  /-- BUS_WAKE (R319). -/
  | busWake (at_ : At) (bus : Fin 4) (rx : Option CanWire)
  /-- FIELD_REFRESH (R331). -/
  | fieldRefresh (at_ : At) (group : Fin 12) (good : Bool) (raw back : BitVec 16) (volts : List Nat) (lplus : Nat)
  /-- LOGIC_SIDE_SILENT (R339). -/
  | logicSideSilent (at_ : At) (group : Fin 12)
  /-- GROUP_SIDE_HOLD (R339). -/
  | groupSideHold (at_ : At) (group : Fin 12)
  /-- HOLD_EXPIRY (R339). -/
  | holdExpiry (at_ : At) (group : Fin 12)
  /-- OUTPUT_OVERLOAD (R337). -/
  | outputOverload (at_ : At) (group : Fin 12) (chan : Fin 16)
  /-- OPEN_LOAD (R337). -/
  | openLoad (at_ : At) (group : Fin 12) (chan : Fin 16)
  /-- INRUSH_GRANT_EXPIRY (R398). -/
  | inrushGrantExpiry (at_ : At) (group : Fin 12) (chan : Fin 16)
  /-- OUT_SET (R335). -/
  | outSet (at_ : At) (acc : Accessor) (group : Fin 12) (value : Word)
  /-- OUT_CLR (R335). -/
  | outClr (at_ : At) (acc : Accessor) (group : Fin 12) (value : Word)
  /-- SENTENCE_RECEIVE (R344). -/
  | sentenceReceive (at_ : At) (port : Fin 12) (bad : Bool) (ageNs : Nat) (chars : List Byte)
  /-- SERIAL_TX_PACKET (R348). -/
  | serialTxPacket (at_ : At) (port : Fin 12) (firkin : Fin 64)
  /-- SERIAL_TX_DONE (R343). -/
  | serialTxDone (at_ : At) (port : Fin 12) (collision : Bool)
  /-- REQUEST (R352). -/
  | request (at_ : At) (idx : Nat) (line : Bool)
  /-- SSI_REQ_WRITE (R352). -/
  | ssiReqWrite (at_ : At) (acc : Accessor) (chan : Fin 24) (line : Bool)
  /-- SSI_FRAME_END (R354). -/
  | ssiFrameEnd (at_ : At) (chan : Fin 24) (word : Nat) (high : Bool)
  /-- QUAD_TRANSITION (R356). -/
  | quadTransition (at_ : At) (chan : Fin 24) (a b : Bool)
  /-- COUNT_PRESET (R357). -/
  | countPreset (at_ : At) (acc : Accessor) (chan : Fin 24) (value : Word)
  /-- COMPARE_ARM (R360). -/
  | compareArm (at_ : At) (acc : Accessor) (chan : Fin 24) (cfg : Bool) (value : Word)
  /-- SAFC_CYCLE (R365). -/
  | safcCycle (at_ : At) (raw : BitVec 32) (work : Nat)
  /-- SAFETY_INPUT_CHANGE (R367). -/
  | safetyInputChange (at_ : At) (raw : BitVec 32)
  /-- DISCREPANCY_TIMEOUT (R370). -/
  | discrepancyTimeout (at_ : At) (inst : Fin 16)
  /-- TWOHAND_SYNC_TIMEOUT (R369). -/
  | twohandSyncTimeout (at_ : At) (inst : Fin 16)
  /-- SAFETY_OSC_FAULT (R366). -/
  | safetyOscFault (at_ : At) (khz : Nat)
  /-- SAFC_ALIVE_MISSING (R366). -/
  | safcAliveMissing (at_ : At)
  /-- SAFC_SELF_TEST_FAIL (R366). -/
  | safcSelfTestFail (at_ : At) (block : Bool)
  /-- SAFH_PARITY_FAIL (R366). -/
  | safhParityFail (at_ : At)
  /-- SFO_TEST_PULSE (R373). -/
  | sfoTestPulse (at_ : At) (out : Fin 8) (low : Bool) (vp vm sl mA : Nat)
  /-- READBACK_MISMATCH (R373). -/
  | readbackMismatch (at_ : At) (out : Fin 8) (low : Bool)
  /-- SAFETY_OUTPUT_OVERLOAD (R374). -/
  | safetyOutputOverload (at_ : At) (out : Fin 8)
  /-- SL_UNDERVOLTAGE (R374). -/
  | slUndervoltage (at_ : At) (sl : Nat)
  /-- SL_RECOVERY (R374). -/
  | slRecovery (at_ : At) (sl : Nat)
  /-- DEGRADED_EXPIRY (R381). -/
  | degradedExpiry (at_ : At) (inst : Fin 16)
  /-- RESET_TAKEN (R382). -/
  | resetTaken (at_ : At) (input : Fin 32)
  /-- RESET_HELD (R382). -/
  | resetHeld (at_ : At) (input : Fin 32)
  /-- STAGING_WRITE (R379). -/
  | stagingWrite (at_ : At) (acc : Accessor) (value : Word)
  /-- SAFETY_PARAM_CHECK (R379). -/
  | safetyParamCheck (at_ : At) (acc : Accessor)
  /-- CONFIRM (R379). -/
  | confirm (at_ : At) (acc : Accessor) (value : Word)
  /-- REQ_REFRESH (R384). -/
  | reqRefresh (at_ : At) (toC toH : Bool)
  /-- REQ_LOSS (R384). -/
  | reqLoss (at_ : At) (safc : Bool)
  /-- SUPPLY_SAMPLE (R390). -/
  | supplySample (at_ : At) (mV : Nat)
  /-- CEILING_RISE (R390). -/
  | ceilingRise (at_ : At)
  /-- GRANT_DECISION (R395). -/
  | grantDecision (at_ : At)
  /-- SUPPLY_WARNING (R397). -/
  | supplyWarning (at_ : At)
  /-- SUPPLY_RECOVERY (R397). -/
  | supplyRecovery (at_ : At)
  /-- OVERVOLTAGE_DISCONNECT (R389). -/
  | overvoltageDisconnect (at_ : At)
  /-- SUPPLY_RECONNECT (R389). -/
  | supplyReconnect (at_ : At)
  /-- RECORD_WRITE (R403). -/
  | recordWrite (at_ : At) (ring shelf : Bool)
  /-- OPTIME_SAVE (R404). -/
  | optimeSave (at_ : At)
  /-- SHELF_CLR (R408). -/
  | shelfClr (at_ : At) (acc : Accessor) (ok : Bool)
  /-- SNAP_TRIG (R409). -/
  | snapTrig (at_ : At) (acc : Accessor)
  /-- SUP_BOOT_WRITE (R429). -/
  | supBootWrite (at_ : At) (acc : Accessor) (value : Word)
  /-- CHANGE_CHECK_DONE (R254). -/
  | changeCheckDone (at_ : At)
  /-- FRONT_END_RELOCK (R136). -/
  | frontEndRelock (at_ : At) (bank : Fin 2)
  /-- CAN_RECEIVE_ERROR (R316). -/
  | canReceiveError (at_ : At) (bus : Fin 4)
  /-- CAN_INTEGRATION_DONE (R310). -/
  | canIntegrationDone (at_ : At) (bus : Fin 4)
  /-- RS485_IDLE_WAIT_END (R343). -/
  | rs485IdleWaitEnd (at_ : At) (port : Fin 12)
  /-- ES_FUSE_TRIP (R449). -/
  | esFuseTrip (at_ : At) (out : Fin 4)
  /-- ES_FUSE_RETRY (R449). -/
  | esFuseRetry (at_ : At) (out : Fin 4)
  /-- PTP_ANNOUNCE_SEND (R294). -/
  | ptpAnnounceSend (at_ : At)
  /-- PTP_DELAY_REQ_SEND (R297). -/
  | ptpDelayReqSend (at_ : At) (port : Fin 4)
  /-- PTP_ANNOUNCE_RECEIPT_TIMEOUT (R294). -/
  | ptpAnnounceReceiptTimeout (at_ : At) (port : Fin 4)
  deriving DecidableEq, Repr

end Sys2Proof
end

