-- ==== Sys2Proof/Decode.lean ====
section
/-! DEFINITION. The command a word spells. spec/opcode_table.json gives no row of this block any bits: its commands are happenings and
accesses, not words, so no word spells one. -/

namespace Sys2Proof

/-- The command that a word of nbits bits spells by the table's bits: none, since no row gives bits (DEDUCED, log entry 1). -/
def decodeTableWord (_nbits _w : Nat) : Option Instr := none

end Sys2Proof
end

