-- ==== Sys2Proof/Config.lean ====
section
/-! DEFINITION. What an implementation fixes and the spec leaves open: constants without a body, so that no proof can
see a value of them. -/

namespace Sys2Proof.Config

/-- The free value number n: a word the spec leaves open (the counter `State.free` gives each use its own n; log entry 26). -/
opaque freeWord : Nat → Word

/-- A byte of the boot ROM (R16), whose content the spec does not give (log entry 26). -/
opaque bootRom : Nat → BitVec 8

/-- What the module's own measurement of loads, levels and line activity shows at a register cell (first) at a true time in ns (second)
(R156, R258, R307, R328, R350; log entry 84). -/
opaque measured : Nat → Nat → Word

/-! ## EST (R83–R100): what the model image fixes, whose layout is the tool's (R83; log entry 37) -/

/-- The number of blocks of the model image at a block of SOL1 local memory. -/
opaque estModelBlocks : List (Nat × BitVec 8) → Nat → Nat
/-- Whether the CRC-32 of the model image is right (R83, R104). -/
opaque estModelOk : List (Nat × BitVec 8) → Nat → Bool
/-- The covariance the model image starts from (R98). -/
opaque estInitCov : List (Nat × BitVec 8) → Nat → List Int
/-- One one-fathom transition of state and covariance under a thrust and a wind (R85, R99). -/
opaque estStep : List (Nat × BitVec 8) → Nat → List Int → List Int → List Int → List Int × List Int
/-- The state predicted to the fathom start, by one step of length FLT_GDELAY (R86). -/
opaque estPredict : List (Nat × BitVec 8) → Nat → Nat → List Int → List Int → List Int → List Int
/-- The normalised innovation q in Q7.8 of a measurement (group, innovation, variances) (R95). -/
opaque estNis : List Int → List Int → Nat → List Int → List Int → Nat
/-- State and covariance after the update by a measurement (group, innovation, variances) (R85). -/
opaque estUpdate : List Int → List Int → Nat → List Int → List Int → List Int × List Int
/-- The standard deviations of the states of a covariance (R86). -/
opaque estSigma : List Int → List Int

/-! ## GNSS (R137–R154): the numerics of the loops and solutions, which the spec does not state (log entries 34, 42) -/

/-- The satellite the almanac gives an idle channel (bank, channel, seconds of module time); 0 for none (R141). -/
opaque gnsAssign : Nat → Nat → Nat → Nat
/-- A satellite's elevation in degrees at a second of module time (R141). -/
opaque gnsElevation : Nat → Nat → Int
/-- Whether a dump record shows a correlation peak (R141). -/
opaque gnsPeak : List (BitVec 32) → Bool
/-- Whether a channel (bank, channel, epoch count) has phase lock and secondary-code synchronisation (R141). -/
opaque gnsLock : Nat → Nat → Nat → List (BitVec 32) → Bool
/-- Whether a channel's E1-B page is synchronised (GNSn_CH_STAT.NAV_SYNC). -/
opaque gnsNav : Nat → Nat → Nat → List (BitVec 32) → Bool
/-- C/N0 of a dump record in dB-Hz. -/
opaque gnsCn0 : List (BitVec 32) → Nat
/-- New carrier and code words of the loops from GNSC_LOOP, the old words and a dump record (R140, R141). -/
opaque gnsLoop : BitVec 32 → BitVec 32 → BitVec 32 → List (BitVec 32) → BitVec 32 × BitVec 32
/-- The position, velocity and time solution from the origin, mask and measurements (R143, R144): position valid,
velocity valid, time valid (0 or 1), north, east, height, velocity north, velocity east, horizontal standard deviation,
time offset in ns, satellites used, standard deviation of the time in ns. -/
opaque gnsSolve : List (BitVec 32) → List Int → List Int
/-- The heading solution (R146): azimuth, elevation, standard deviation, ratio Q4.4, length error in mm, and 1 when every
double difference stays within 0.15 cycle of its prediction. -/
opaque gnsHeading : List (BitVec 32) → List Int → List Int
/-- The coarse-time fix of a snapshot (R154): valid (0 or 1), north, east, time offset, satellites, standard deviation. -/
opaque gnsFix : List (Nat × BitVec 8) → Int → List Int
/-- Work time of a PVT run in µs (GNSC_RUN), a measured value. -/
opaque gnsRun : Nat → Nat

/-! ## The allocator (R217–R225): the numerics of the solve, whose block exponents and tile maxima stand in the tool's
layout (R221; log entry 48) -/

/-- The outcome of a solve from the ALC output, the demand record, the plant record, the solver image, SOL0's settings,
the start (warm store and x_0) and the iteration limit, as four lists: scalars (optimum reached, iterations, regularisations, singular
pivot, overflow, its position, warm start rejected, hard rows relaxed, groups relaxed at step 1, groups relaxed at any
step, time guard reached, row count relaxed at step 1), the solution of all steps (forces in Q21.10 kN, power in Q21.10
kW, joint moment in Q25.6 kN·m), the working sets, and the rows relaxed at step 1. -/
opaque allocSolve : List (List (BitVec 32)) → List Int → Nat → List (List Int)

/-! ## TIM (R291; log entry 58) -/

/-- FREQ after an offset, from FREQ, SLEW, the offset and the one before, the ns between them and TC: its law of drift
is stated, its discrete form is not. -/
opaque freqServo : Int → Int → Int → Int → Int → Nat → Int

/-! ## Signatures and tags (R234, R302, R303, R421): cryptography whose numerics the spec names and does not state (log entry 78) -/

/-- Whether an Ed25519 signature (third) of a message (second) is valid under a public key (first). -/
opaque ed25519 : List (BitVec 8) → List (BitVec 8) → List (BitVec 8) → Bool
/-- What SUP finds of a firmware copy whose MAGIC is right (R421), from the bytes and error patterns that memory lists in the copy and the
copy's base address: its version when length and signature are sound, none when not. The copy's layout is the vendor's. -/
opaque firmware : List (Nat × BitVec 8) → List (Nat × BitVec 280) → Nat → Option Nat
/-- The 32 bytes of HMAC-SHA-256 of a message (second) under a secret (first) (R302). -/
opaque hmacTag : List (BitVec 8) → List (BitVec 8) → Vector (BitVec 8) 32
/-- HMAC-SHA-256 of a message under a secret, as bytes. -/
def hmacSha256 (key message : List (BitVec 8)) : List (BitVec 8) := (hmacTag key message).toList

/-! ## Position interfaces (R358; log entry 69) -/

/-- POSn_SPEED for a number of intervals in a number of ns whose speed lies beyond Q25.6. -/
opaque posSpeed : Nat → Nat → BitVec 32

/-! ## The safety layer (R382; log entry 72) -/

/-- The word that names the reason of a refused reset in a payload: FAULT_PRESENT (true) or DEMAND (false), whose codes the spec does not give. -/
opaque safResetReason : Bool → BitVec 32

/-! ## The recorder (R408; log entry 77) -/

/-- Byte i of the pattern that a retest of a ring slot writes. -/
opaque recTest : Nat → BitVec 8

end Sys2Proof.Config
end

