-- ==== Sys2Proof/Machine/Bits.lean ====
section
/-! DEFINITION. Bit fields of a register word (R3, the notation [msb:lsb] of the spec's register tables), signed
and saturating arithmetic, and little-endian bytes (R4). -/

namespace Sys2Proof.Machine

/-- The field [hi:lo] of a word, as a number. -/
def bits (w : Word) (hi lo : Nat) : Nat := (w.toNat >>> lo) % 2 ^ (hi + 1 - lo)

/-- Bit i of a word. -/
def bit (w : Word) (i : Nat) : Bool := w.getLsbD i

/-- The word with 2^n − 1 at [hi:lo] and 0 elsewhere. -/
def maskOf (hi lo : Nat) : Word := BitVec.ofNat 32 ((2 ^ (hi + 1 - lo) - 1) <<< lo)

/-- The word with its field [hi:lo] replaced by the low bits of v. -/
def putBits (w : Word) (hi lo v : Nat) : Word :=
  (w &&& ~~~(maskOf hi lo)) ||| BitVec.ofNat 32 ((v % 2 ^ (hi + 1 - lo)) <<< lo)

/-- The word with bit i set to b. -/
def putBit (w : Word) (i : Nat) (b : Bool) : Word :=
  if b then w ||| BitVec.twoPow 32 i else w &&& ~~~(BitVec.twoPow 32 i)

/-- The word of a number, modulo 2^32. -/
def wd (n : Nat) : Word := BitVec.ofNat 32 n

/-- The word of an integer, two's complement (R3). -/
def wi (n : Int) : Word := BitVec.ofInt 32 n

/-- A Bool as the number 1 or 0. -/
def b2n (b : Bool) : Nat := if b then 1 else 0

/-- The low n bits of x as a signed number (R3). -/
def signed (n x : Nat) : Int :=
  let y := x % 2 ^ n
  if y < 2 ^ (n - 1) then (y : Int) else (y : Int) - (2 ^ n : Nat)

/-- A word as a signed number (R3). -/
def sw (w : Word) : Int := w.toInt

/-- n limited to [lo, hi]. -/
def clampI (lo hi n : Int) : Int := if n < lo then lo else if hi < n then hi else n

/-- Saturation to a signed 32-bit number. -/
def sat32 (n : Int) : Int := clampI (-2147483648) 2147483647 n

/-- The saturated word. -/
def satW (n : Int) : Word := wi (sat32 n)

/-- One more, saturating at the largest number of w bits. -/
def satInc (w n : Nat) : Nat := if n + 1 < 2 ^ w then n + 1 else 2 ^ w - 1

/-- A 32-bit counter, one more, saturating. -/
def incW (w : Word) : Word := wd (satInc 32 w.toNat)

/-- A 32-bit counter raised by k, saturating. -/
def addSatW (w : Word) (k : Nat) : Word := wd (min (w.toNat + k) 0xFFFFFFFF)

/-- The field [hi:lo] of a word, one more, saturating. -/
def incSatField (w : Word) (hi lo : Nat) : Word := putBits w hi lo (satInc (hi + 1 - lo) (bits w hi lo))

/-- The field [hi:lo] of a word, one more, wrapping. -/
def incWrapField (w : Word) (hi lo : Nat) : Word := putBits w hi lo (bits w hi lo + 1)

/-- Division rounding toward minus infinity, for a positive divisor. -/
def fdiv (a : Int) (b : Int) : Int := Int.fdiv a b

/-- a shifted right by n places, rounding to nearest, halves upward. -/
def roundShift (a : Int) (n : Nat) : Int :=
  if n = 0 then a else Int.fdiv (a + (2 ^ (n - 1) : Nat)) ((2 ^ n : Nat) : Int)

/-- The four bytes of a word, least significant first (R4). -/
def wordBytes (w : Word) : List Byte :=
  [w.extractLsb' 0 8, w.extractLsb' 8 8, w.extractLsb' 16 8, w.extractLsb' 24 8]

/-- The number a list of bytes spells, least significant first (R4). -/
def leNat : List Byte → Nat
  | [] => 0
  | b :: bs => b.toNat + 256 * leNat bs

/-- The number a list of bytes spells, most significant first (network order). -/
def beNat (bs : List Byte) : Nat := bs.foldl (fun a b => a * 256 + b.toNat) 0

/-- The n bytes of a number, least significant first. -/
def leBytes : Nat → Nat → List Byte
  | 0, _ => []
  | n + 1, v => BitVec.ofNat 8 v :: leBytes n (v / 256)

/-- The n bytes of a number, most significant first. -/
def beBytes (n v : Nat) : List Byte := (leBytes n v).reverse

/-- The bytes from place i, n of them. -/
def sliceB (bs : List Byte) (i n : Nat) : List Byte := (bs.drop i).take n

/-- Byte i of a list, 0 past its end. -/
def byteAt (bs : List Byte) (i : Nat) : Nat := (bs.getD i 0).toNat

/-- The words a list of bytes spells, little-endian; a short tail is filled with zeros. -/
def toWords : Nat → List Byte → List Word
  | 0, _ => []
  | n + 1, bs => wd (leNat (bs.take 4)) :: toWords n (bs.drop 4)

/-- Word i of a list, 0 past its end. -/
def wordAt (ws : List Word) (i : Nat) : Word := ws.getD i 0

/-- The numbers 0 … n − 1. -/
def upto (n : Nat) : List Nat := List.range n

/-- Element i of a list replaced. -/
def setAt {α : Type} : List α → Nat → α → List α
  | [], _, _ => []
  | _ :: xs, 0, v => v :: xs
  | x :: xs, i + 1, v => x :: setAt xs i v

/-- The number of bits set in a word. -/
def popCount (w : Word) : Nat := ((upto 32).filter (fun i => bit w i)).length

/-- The index of the lowest bit set, if any. -/
def lowestBit (w : Word) : Option Nat := (upto 32).find? (fun i => bit w i)

/-- One bit step of the reflected CRC-32 (polynomial 0xEDB88320). -/
def crc32Bit (c : Word) : Word := if bit c 0 then (c >>> 1) ^^^ 0xEDB88320#32 else c >>> 1

/-- One byte step of the CRC-32. -/
def crc32Byte (c : Word) (b : Byte) : Word :=
  crc32Bit (crc32Bit (crc32Bit (crc32Bit (crc32Bit (crc32Bit (crc32Bit (crc32Bit (c ^^^ b.setWidth 32))))))))

/-- The CRC-32 of a list of bytes, the Ethernet one (IEEE 802.3): the spec names "CRC-32" and this is that code. -/
def crc32 (bs : List Byte) : Word := ~~~(bs.foldl crc32Byte 0xFFFFFFFF#32)

end Sys2Proof.Machine
end

