-- ==== Sys2Proof/Machine/Code.lean ====
section
/-! DEFINITION. The 280/256 code of R18–R21, on error patterns. The code is linear, so what a reader sees of a stored
codeword follows from the data as last written and from the pattern of bits in which the stored codeword differs from
the sound codeword of that data: the model keeps those two. A poison mark (R20) is the pattern `poisonPattern`. -/

namespace Sys2Proof.Machine

/-- A 280-bit codeword, or a pattern of its bits (R18). -/
abbrev Codeword := BitVec 280

/-- One multiplication by α in GF(2^9) with the primitive polynomial x^9 + x^4 + 1 (R18). -/
def gfMulA (x : Nat) : Nat := if x < 256 then 2 * x else (2 * x) % 512 ^^^ 0x11

/-- α^n for n < 2^k, by repeated steps. -/
def gfPow : Nat → Nat
  | 0 => 1
  | n + 1 => gfMulA (gfPow n)

/-- The product of two elements of GF(2^9), over n bits of the second. -/
def gfMul : Nat → Nat → Nat → Nat
  | 0, _, _ => 0
  | n + 1, a, b => (if b % 2 = 1 then a else 0) ^^^ gfMul n (gfMulA a) (b / 2)

/-- The product of two elements of GF(2^9). -/
def gfm (a b : Nat) : Nat := gfMul 9 a b

/-- The codeword bit that holds the coefficient of x^j: the remainder in bits 256–273 (R18), data bit k at x^(18+k),
fold bits at x^274–x^278 in bits 275–279. -/
def coefBit (j : Nat) : Nat := if j < 18 then 256 + j else if j < 274 then j - 18 else j + 1

/-- The number of coefficients of the shortened code: 18 check bits and 261 information bits. -/
def coefCount : Nat := 279

/-- The syndromes S1 and S3 of a pattern, from coefficient j on, with a1 = α^j and a3 = α^(3j). -/
def syndromesFrom (e : Codeword) : Nat → Nat → Nat → Nat → Nat × Nat
  | 0, _, _, _ => (0, 0)
  | n + 1, j, a1, a3 =>
    let r := syndromesFrom e n (j + 1) (gfMulA a1) (gfMulA (gfMulA (gfMulA a3)))
    if e.getLsbD (coefBit j) then (r.1 ^^^ a1, r.2 ^^^ a3) else r

/-- The syndromes S1 and S3 of a pattern (R18: the generator is m1·m3). -/
def syndromes (e : Codeword) : Nat × Nat := syndromesFrom e coefCount 0 1 1

/-- The parity of all 280 bits: true when odd (R18, bit 274). -/
def parityOdd (e : Codeword) : Bool := (upto 280).foldl (fun p i => p != e.getLsbD i) false

/-- The coefficients j whose single error has the syndromes given, searched from j on. -/
def findOne (s1 s3 : Nat) : Nat → Nat → Nat → Nat → Option Nat
  | 0, _, _, _ => none
  | n + 1, j, a1, a3 =>
    if a1 = s1 ∧ a3 = s3 then some j
    else findOne s1 s3 n (j + 1) (gfMulA a1) (gfMulA (gfMulA (gfMulA a3)))

/-- Two coefficients whose pair of errors has the syndromes given: for each j the partner must be α^j + S1. -/
def findTwo (s1 s3 : Nat) : Nat → Nat → Nat → Nat → Option (Nat × Nat)
  | 0, _, _, _ => none
  | n + 1, j, a1, a3 =>
    match findOne (s1 ^^^ a1) (s3 ^^^ a3) coefCount 0 1 1 with
    | some k => if k = j then findTwo s1 s3 n (j + 1) (gfMulA a1) (gfMulA (gfMulA (gfMulA a3))) else some (j, k)
    | none => findTwo s1 s3 n (j + 1) (gfMulA a1) (gfMulA (gfMulA (gfMulA a3)))

/-- One bit of a codeword. -/
def cwBit (i : Nat) : Codeword := BitVec.twoPow 280 i

/-- What the first stage of R21 finds of a pattern: the number of bits in error it corrects and the pattern that
remains after the correction, or none when it detects three or more. -/
def firstStage (e : Codeword) : Option (Nat × Codeword) :=
  let (s1, s3) := syndromes e
  let odd := parityOdd e
  if s1 = 0 ∧ s3 = 0 then
    if odd then some (1, e ^^^ cwBit 274) else some (0, e)
  else
    match findOne s1 s3 coefCount 0 1 1 with
    | some j => if odd then some (1, e ^^^ cwBit (coefBit j)) else some (2, e ^^^ cwBit (coefBit j) ^^^ cwBit 274)
    | none =>
      if odd then none
      else
        match findTwo s1 s3 coefCount 0 1 1 with
        | some (j, k) => some (2, e ^^^ cwBit (coefBit j) ^^^ cwBit (coefBit k))
        | none => none

/-- The generator polynomial m1·m3 of R18: m1 = x^9 + x^4 + 1, m3 = x^9 + x^6 + x^4 + x^3 + 1. -/
def bchGenerator : Nat := 0x495C9

/-- One step of the division of R18: the remainder register takes the next information bit, highest first. -/
def bchStep (r : Nat) (b : Bool) : Nat :=
  if decide (r / 131072 % 2 = 1) != b then (2 * r) % 262144 ^^^ (bchGenerator % 262144) else (2 * r) % 262144

/-- The information bits of R18, highest coefficient first: fold bits 4–0, then data bits 255–0. -/
def infoBits (d : BitVec 256) (fold : Nat) : List Bool :=
  (upto 5).reverse.map (fun i => fold.testBit i) ++ (upto 256).reverse.map (fun i => d.getLsbD i)

/-- The codeword of a block (R18): data, check bits, overall even parity, fold bits. -/
def encodeBlock (d : BitVec 256) (fold : Nat) : Codeword :=
  let c : Codeword :=
    d.setWidth 280 ||| BitVec.ofNat 280 (((infoBits d fold).foldl bchStep 0) <<< 256)
      ||| BitVec.ofNat 280 ((fold % 32) <<< 275)
  if parityOdd c then c ||| cwBit 274 else c

/-- The address-fold bits of a block address (R19): fold bit i is the exclusive OR of the bits j with j mod 5 = i. -/
def foldBits : Nat → Nat → Nat
  | 0, _ => 0
  | n + 1, a => (a % 32) ^^^ foldBits n (a / 32)

/-- The fold bits of the block at a byte offset in its region (R19). -/
def foldOfOffset (off : Nat) : Nat := foldBits 8 (off / 32)

/-- The pattern a poison mark makes (R20): the five fold bits complemented, with check and parity bits to match. It is
`encodeBlock 0 31`, written out. -/
def poisonPattern : Codeword := 0xfdf75a0000000000000000000000000000000000000000000000000000000000000000#280

/-- The outcome of a block read: the rows of R21. -/
inductive ReadOutcome where
  /-- Three or more bits in error: delivered poisoned, class 2, code 0x0C3. -/
  | uncorrectable
  /-- Fold bits the complement of the expected value: delivered poisoned, class 1, code 0x0C5. -/
  | poisoned (corrected : Bool)
  /-- Fold bits wrong in another way: delivered poisoned, class 3, code 0x0C4. -/
  | addressFault (corrected : Bool)
  /-- One or two bits corrected: class 0, code 0x0C1 or class 1, code 0x0C2. -/
  | corrected (n : Nat)
  /-- Sound. -/
  | sound
  deriving DecidableEq, Repr

/-- The fold bits of a pattern, bits 275–279 of the codeword. -/
def foldOf (e : Codeword) : Nat := (e.extractLsb' 275 5).toNat

/-- What a read of a block with error pattern e finds (R21), and the pattern of the delivered data against the data
as written. Log entry 17 (DEDUCED). -/
def decodePattern (e : Codeword) : ReadOutcome × BitVec 256 :=
  if e = 0 then (.sound, 0)
  else
    match firstStage e with
    | none => (.uncorrectable, e.extractLsb' 0 256)
    | some (n, r) =>
      let d := r.extractLsb' 0 256
      if foldOf r = 31 then (.poisoned (decide (n ≠ 0)), d)
      else if foldOf r ≠ 0 then (.addressFault (decide (n ≠ 0)), d)
      else if n = 0 then (.sound, d) else (.corrected n, d)

/-- Whether the outcome delivers the block poisoned. -/
def ReadOutcome.isBad : ReadOutcome → Bool
  | .uncorrectable => true
  | .poisoned _ => true
  | .addressFault _ => true
  | .corrected _ => false
  | .sound => false

/-- Whether the first stage corrected bits. -/
def ReadOutcome.didCorrect : ReadOutcome → Bool
  | .poisoned c => c
  | .addressFault c => c
  | .corrected _ => true
  | .uncorrectable => false
  | .sound => false

/-- The class and code of an outcome (R21), as a PAGE_ERR code; none for a sound read. -/
def ReadOutcome.code : ReadOutcome → Option Nat
  | .uncorrectable => some 0x20C3
  | .poisoned _ => some 0x10C5
  | .addressFault _ => some 0x30C4
  | .corrected n => if n = 1 then some 0x00C1 else some 0x10C2
  | .sound => none

end Sys2Proof.Machine
end

