-- ==== Sys2Proof/Machine/RegTable.lean ====
section
/-! DEFINITION. The registers of the 86 pages as data (R6-R8, R11, R431, R432 and each chapter's register table):
for every layout its first page, its count of pages, PAGE_FEAT, the PAGE_EVT flags, the island, and one row per
register: offset, value at reset, and the bits of each access code. An entry the spec gives as X, Stored, Factory,
Strap or Key block stands here as 0 (DESIGN CHOICE, assumption 3). Bits that are in no mask are RO, RS or reserved. -/
namespace Sys2Proof.Machine
/-- One register of a layout: its offset in the page, its reset value (R11), the bits each access code of R8 covers,
and the offset of the SEL register that windows it (0: not windowed) with the count of windows. -/
structure RegRow where
  off   : Nat
  reset : Nat
  rw    : Nat
  rwl   : Nat
  w1c   : Nat
  wo    : Nat
  sc    : Nat
  sel   : Nat
  cnt   : Nat
  deriving DecidableEq, Repr

/-- A page layout (R431): the first page index, the number of pages that share it, PAGE_FEAT, the PAGE_EVT flags
that exist, whether PAGE_CTRL.ENABLE is fixed at 1 (R433), the island that holds it (R12), and its registers. -/
structure PageLayout where
  page0   : Nat
  count   : Nat
  feat    : Nat
  evt     : Nat
  enFixed : Bool
  island  : Nat
  rows    : List RegRow
  deriving DecidableEq, Repr

namespace Reg

/-! Registers of SUP, page 0x01. -/
abbrev SUP_CTRL : Nat := 0x440
abbrev SUP_STAT : Nat := 0x444
abbrev SUP_REFUSE : Nat := 0x448
abbrev SUP_RESET : Nat := 0x44C
abbrev SUP_RESET_CAUSE : Nat := 0x450
abbrev SUP_BOOT : Nat := 0x454
abbrev SUP_FW_VER : Nat := 0x458
abbrev SUP_IMG_A : Nat := 0x45C
abbrev SUP_IMG_B : Nat := 0x460
abbrev SUP_CFG_SEQ : Nat := 0x464
abbrev SUP_BOOT_MS : Nat := 0x468

/-! Registers of PWR, page 0x02. -/
abbrev PWR_VIN : Nat := 0x840
abbrev PWR_CEIL : Nat := 0x844
abbrev PWR_LIMIT : Nat := 0x848
abbrev PWR_FLOOR : Nat := 0x84C
abbrev PWR_USED : Nat := 0x850
abbrev PWR_STAT : Nat := 0x854
abbrev PWR_WARN : Nat := 0x858
abbrev PWR_SEL : Nat := 0x85C
abbrev PWR_R_CFG : Nat := 0x860
abbrev PWR_R_STAT : Nat := 0x864
abbrev PWR_CNT_CUT : Nat := 0x868
abbrev PWR_CUT_SET : Nat := 0x86C
abbrev PWR_FSEL : Nat := 0x870
abbrev PWR_F_USE : Nat := 0x874
abbrev PWR_F_CNT : Nat := 0x878
abbrev PWR_WARN_CNT : Nat := 0x87C
abbrev PWR_HOLD : Nat := 0x880

/-! Registers of SNAP, page 0x03. -/
abbrev SNAP_CFG : Nat := 0xC40
abbrev SNAP_TRIG : Nat := 0xC44
abbrev SNAP_LAST_ID : Nat := 0xC48
abbrev SNAP_LAST_SRC : Nat := 0xC4C
abbrev SNAP_LAST_T_L : Nat := 0xC50
abbrev SNAP_LAST_T_H : Nat := 0xC54
abbrev SNAP_LAST_EPOCH : Nat := 0xC58
abbrev SNAP_MISSED : Nat := 0xC5C
abbrev SNAP_REFUSED : Nat := 0xC60
abbrev SNAP_SAVE_STAT : Nat := 0xC64

/-! Registers of SEQ, page 0x04. -/
abbrev SEQ_FATHOM : Nat := 0x1040
abbrev SEQ_PHASE : Nat := 0x1044
abbrev SEQ_FNO : Nat := 0x1048
abbrev SEQ_TICK : Nat := 0x104C
abbrev SEQ_LAST_LEN : Nat := 0x1050
abbrev SEQ_ACT : Nat := 0x1054
abbrev SEQ_SHADOW_CNT : Nat := 0x1058
abbrev SEQ_SPAN_IDX : Nat := 0x105C
abbrev SEQ_SPAN_W0 : Nat := 0x1060
abbrev SEQ_SPAN_W1 : Nat := 0x1064
abbrev SEQ_SPAN_W2 : Nat := 0x1068
abbrev SEQ_SPAN_W3 : Nat := 0x106C
abbrev SEQ_SPAN_W4 : Nat := 0x1070
abbrev SEQ_SPAN_W5 : Nat := 0x1074
abbrev SEQ_SPAN_W6 : Nat := 0x1078
abbrev SEQ_SPAN_W7 : Nat := 0x107C
abbrev SEQ_SWAP : Nat := 0x1080
abbrev SEQ_SWAP_AT : Nat := 0x1084
abbrev SEQ_SWAP_STAT : Nat := 0x1088
abbrev SEQ_SWAP_FNO : Nat := 0x108C
abbrev SEQ_MISS_TOTAL : Nat := 0x1090
abbrev SEQ_MISS_LAST : Nat := 0x1094
abbrev SEQ_MISS_SEL : Nat := 0x1098
abbrev SEQ_MISS_CNT : Nat := 0x109C
abbrev SEQ_PUB_SEL : Nat := 0x10A0
abbrev SEQ_PUB_FNO : Nat := 0x10A4
abbrev SEQ_SLACK_MIN : Nat := 0x10A8
abbrev SEQ_ADJ_CNT : Nat := 0x10AC
abbrev SEQ_FNO_H : Nat := 0x10B0

/-! Registers of TIM, page 0x05. -/
abbrev TIM_RAW_L : Nat := 0x1440
abbrev TIM_RAW_H : Nat := 0x1444
abbrev TIM_NOW_L : Nat := 0x1448
abbrev TIM_NOW_H : Nat := 0x144C
abbrev TIM_OFFSET_L : Nat := 0x1450
abbrev TIM_OFFSET_H : Nat := 0x1454
abbrev TIM_ANCHOR_L : Nat := 0x1458
abbrev TIM_ANCHOR_H : Nat := 0x145C
abbrev TIM_RATE : Nat := 0x1460
abbrev TIM_FREQ : Nat := 0x1464
abbrev TIM_EPOCH : Nat := 0x1468
abbrev TIM_SRC : Nat := 0x146C
abbrev TIM_SERVO : Nat := 0x1470
abbrev TIM_OK_LIM : Nat := 0x1474
abbrev TIM_STAT : Nat := 0x1478
abbrev TIM_OFS_LAST : Nat := 0x147C
abbrev TIM_STEP_L : Nat := 0x1480
abbrev TIM_STEP_H : Nat := 0x1484
abbrev TIM_STEP_FNO : Nat := 0x1488
abbrev TIM_STEP_CNT : Nat := 0x148C
abbrev TIM_TM_SEL : Nat := 0x1490
abbrev TIM_TM_CFG : Nat := 0x1494
abbrev TIM_TM_L : Nat := 0x1498
abbrev TIM_TM_H : Nat := 0x149C
abbrev TIM_TM_PER : Nat := 0x14A0
abbrev TIM_TM_STAT : Nat := 0x14A4
abbrev TIM_TRIGOUT : Nat := 0x14A8
abbrev TIM_TRIGIN_L : Nat := 0x14AC
abbrev TIM_TRIGIN_H : Nat := 0x14B0
abbrev TIM_TRIGIN_CNT : Nat := 0x14B4

/-! Registers of NVS, page 0x06. -/
abbrev NVS_STAT : Nat := 0x1840
abbrev NVS_SEL : Nat := 0x1844
abbrev NVS_R_BASE : Nat := 0x1848
abbrev NVS_R_SIZE : Nat := 0x184C
abbrev NVS_R_STAT : Nat := 0x1850
abbrev NVS_R_WRITES : Nat := 0x1854

/-! Registers of REC, page 0x07. -/
abbrev REC_CFG : Nat := 0x1C40
abbrev REC_STAT : Nat := 0x1C44
abbrev REC_SEQ_NEXT : Nat := 0x1C48
abbrev REC_SEQ_OLD : Nat := 0x1C4C
abbrev REC_OPTIME_L : Nat := 0x1C50
abbrev REC_OPTIME_H : Nat := 0x1C54
abbrev REC_PCYC : Nat := 0x1C58
abbrev REC_CURSOR : Nat := 0x1C5C
abbrev REC_WIN0 : Nat := 0x1C60
abbrev REC_WIN1 : Nat := 0x1C64
abbrev REC_WIN2 : Nat := 0x1C68
abbrev REC_WIN3 : Nat := 0x1C6C
abbrev REC_WIN4 : Nat := 0x1C70
abbrev REC_WIN5 : Nat := 0x1C74
abbrev REC_WIN6 : Nat := 0x1C78
abbrev REC_WIN7 : Nat := 0x1C7C
abbrev REC_WIN8 : Nat := 0x1C80
abbrev REC_WIN9 : Nat := 0x1C84
abbrev REC_WIN10 : Nat := 0x1C88
abbrev REC_WIN11 : Nat := 0x1C8C
abbrev REC_WIN12 : Nat := 0x1C90
abbrev REC_WIN13 : Nat := 0x1C94
abbrev REC_WIN14 : Nat := 0x1C98
abbrev REC_WIN15 : Nat := 0x1C9C
abbrev REC_LOST : Nat := 0x1CA0
abbrev REC_FAILS : Nat := 0x1CA4
abbrev REC_FAIL_SLOT : Nat := 0x1CA8
abbrev REC_CTRL : Nat := 0x1CAC

/-! Registers of PRG, page 0x08 (the first of 3). -/
abbrev PRG_IMG_STAT : Nat := 0x2040
abbrev PRG_IMG_ID : Nat := 0x2044
abbrev PRG_IMG_CRC : Nat := 0x2048
abbrev PRG_CHG_CTRL : Nat := 0x204C
abbrev PRG_CHG_AT : Nat := 0x2050
abbrev PRG_CHG_WAIT : Nat := 0x2054
abbrev PRG_CHG_STAT : Nat := 0x2058
abbrev PRG_CHG_FNO : Nat := 0x205C
abbrev PRG_CHG_CNT_A : Nat := 0x2060
abbrev PRG_CHG_CNT_B : Nat := 0x2064
abbrev PRG_REP_IDX : Nat := 0x2068
abbrev PRG_REP_ID : Nat := 0x206C
abbrev PRG_REP_KIND : Nat := 0x2070
abbrev PRG_TSEL : Nat := 0x2074
abbrev PRG_T_CFG : Nat := 0x2078
abbrev PRG_T_ARG : Nat := 0x207C
abbrev PRG_T_STAT : Nat := 0x2080
abbrev PRG_T_CTRL : Nat := 0x2084
abbrev PRG_T_IDLE : Nat := 0x2088
abbrev PRG_T_IDLE_MIN : Nat := 0x208C
abbrev PRG_T_EXEC : Nat := 0x2090
abbrev PRG_T_EXEC_MAX : Nat := 0x2094
abbrev PRG_T_CNT : Nat := 0x2098
abbrev PRG_T_TRIG : Nat := 0x209C
abbrev PRG_FRC_SEL : Nat := 0x20A0
abbrev PRG_FRC_PAIR : Nat := 0x20A4
abbrev PRG_FRC_MASK : Nat := 0x20A8
abbrev PRG_FRC_VAL : Nat := 0x20AC
abbrev PRG_FRC_WORD : Nat := 0x20B0
abbrev PRG_FRC_CNT : Nat := 0x20B4
abbrev PRG_RET_CTRL : Nat := 0x20B8
abbrev PRG_RET_PERIOD : Nat := 0x20BC
abbrev PRG_RET_STAT : Nat := 0x20C0
abbrev PRG_BUDGET : Nat := 0x2100
abbrev PRG_STAT : Nat := 0x2104
abbrev PRG_LOAD : Nat := 0x2108

/-! Registers of SAFC, page 0x0B. -/
abbrev SAFC_STAT : Nat := 0x2C40
abbrev SAFC_CHECK : Nat := 0x2C44
abbrev SAFC_CONFIRM : Nat := 0x2C48
abbrev SAFC_CONF_STAT : Nat := 0x2C4C
abbrev SAFC_ACTIVE : Nat := 0x2C50
abbrev SAFC_SEL : Nat := 0x2C54
abbrev SAFC_I_STAT : Nat := 0x2C58
abbrev SAFC_I_BOUND : Nat := 0x2C5C
abbrev SAFC_I_DEG : Nat := 0x2C60
abbrev SAFC_I_CNT : Nat := 0x2C64
abbrev SAFC_IN : Nat := 0x2C68
abbrev SAFC_RST_STAT : Nat := 0x2C6C
abbrev SAFC_P_WIN : Nat := 0x2C70
abbrev SAFC_P_DATA : Nat := 0x2C74
abbrev SAFC_P_LOAD : Nat := 0x2C78
abbrev SAFC_CYCLE : Nat := 0x2C7C

/-! Registers of SAFH, page 0x0C. -/
abbrev SAFH_STAT : Nat := 0x3040
abbrev SAFH_CHECK : Nat := 0x3044
abbrev SAFH_IN : Nat := 0x3048
abbrev SAFH_PERMIT : Nat := 0x304C
abbrev SAFH_XCMP : Nat := 0x3050
abbrev SAFH_OSC : Nat := 0x3054

/-! Registers of SFO, page 0x0D. -/
abbrev SFO_REQ : Nat := 0x3440
abbrev SFO_STAT : Nat := 0x3444
abbrev SFO_SUPPLY : Nat := 0x3448
abbrev SFO_SEL : Nat := 0x344C
abbrev SFO_O_STAT : Nat := 0x3450
abbrev SFO_O_CNT : Nat := 0x3454
abbrev SFO_O_I : Nat := 0x3458

/-! Registers of FQ, page 0x0E. -/
abbrev FQ_SEL : Nat := 0x3840
abbrev FQ_CFG : Nat := 0x3844
abbrev FQ_STAT : Nat := 0x3848
abbrev FQ_COUNT : Nat := 0x384C
abbrev FQ_PERR : Nat := 0x3850
abbrev FQ_FLUSH0 : Nat := 0x3858
abbrev FQ_FLUSH1 : Nat := 0x385C
abbrev FQ_NOTICE0 : Nat := 0x3860
abbrev FQ_NOTICE1 : Nat := 0x3864
abbrev FQ_NOTICE_EN0 : Nat := 0x3868
abbrev FQ_NOTICE_EN1 : Nat := 0x386C
abbrev FQ_OVF0 : Nat := 0x3870
abbrev FQ_OVF1 : Nat := 0x3874
abbrev FQ_DEPTH_SUM : Nat := 0x3878
abbrev FQ_CODE_SEL : Nat := 0x3880
abbrev FQ_CODE_CTRL : Nat := 0x3884
abbrev FQ_CODE_CORR : Nat := 0x3888
abbrev FQ_CODE_UNCORR : Nat := 0x388C
abbrev FQ_CODE_POISON : Nat := 0x3890
abbrev FQ_CODE_WB : Nat := 0x3894
abbrev FQ_CODE_ADDR : Nat := 0x3898

/-! Registers of CHN, page 0x0F. -/
abbrev CHN_CFG : Nat := 0x3C40
abbrev CHN_BASE : Nat := 0x3C44
abbrev CHN_WINDOW : Nat := 0x3C48
abbrev CHN_SMP : Nat := 0x3C4C
abbrev CHN_PUB_AT : Nat := 0x3C50
abbrev CHN_ARB : Nat := 0x3C54
abbrev CHN_SLAVE : Nat := 0x3C58
abbrev CHN_CTRL : Nat := 0x3C5C
abbrev CHN_STATE : Nat := 0x3C60
abbrev CHN_STONE : Nat := 0x3C64
abbrev CHN_TOP : Nat := 0x3C68
abbrev CHN_ROUND : Nat := 0x3C6C
abbrev CHN_GAP : Nat := 0x3C70
abbrev CHN_JOIN_STAT : Nat := 0x3C74
abbrev CHN_VERDICT : Nat := 0x3C78
abbrev CHN_VERDICT_FNO : Nat := 0x3C7C
abbrev CHN_DISP : Nat := 0x3C80
abbrev CHN_CNT_BAD : Nat := 0x3C84
abbrev CHN_MEM_SEL : Nat := 0x3C88
abbrev CHN_MEM_STAT : Nat := 0x3C8C
abbrev CHN_MIR_SEL : Nat := 0x3C90
abbrev CHN_MIR_SRC : Nat := 0x3C94
abbrev CHN_PUB_SEL : Nat := 0x3C98
abbrev CHN_PUB_CFG : Nat := 0x3C9C
abbrev CHN_ST_SEL : Nat := 0x3CA0
abbrev CHN_ST_CFG : Nat := 0x3CA4
abbrev CHN_ST_STAT : Nat := 0x3CA8
abbrev CHN_OP_CODE : Nat := 0x3CB0
abbrev CHN_OP_ARG_L : Nat := 0x3CB4
abbrev CHN_OP_ARG_H : Nat := 0x3CB8
abbrev CHN_OP_GO : Nat := 0x3CBC
abbrev CHN_OP_STAT : Nat := 0x3CC0
abbrev CHN_OP_SEL : Nat := 0x3CC4
abbrev CHN_OP_TGT : Nat := 0x3CC8
abbrev CHN_OP_ACK : Nat := 0x3CCC
abbrev CHN_OP_NAK : Nat := 0x3CD0
abbrev CHN_DIG_EST : Nat := 0x3CD4
abbrev CHN_DIG_DEM : Nat := 0x3CD8
abbrev CHN_DIG_SOL : Nat := 0x3CDC

/-! Registers of ETH, page 0x10 (the first of 4). -/
abbrev ETH_CTRL : Nat := 0x4040
abbrev ETH_STAT : Nat := 0x4044
abbrev ETH_MAC_L : Nat := 0x4048
abbrev ETH_MAC_H : Nat := 0x404C
abbrev ETH_TS_INGR_1G : Nat := 0x4050
abbrev ETH_TS_EGR_1G : Nat := 0x4054
abbrev ETH_TS_INGR_100 : Nat := 0x4058
abbrev ETH_TS_EGR_100 : Nat := 0x405C
abbrev ETH_RX_CNT : Nat := 0x4060
abbrev ETH_TX_CNT : Nat := 0x4064
abbrev ETH_ERR_CNT : Nat := 0x4068
abbrev ETH_LINK_CNT : Nat := 0x406C

/-! Registers of PRP, page 0x14. -/
abbrev PRP_CTRL : Nat := 0x5040
abbrev PRP_IP : Nat := 0x5044
abbrev PRP_MASK : Nat := 0x5048
abbrev PRP_GW : Nat := 0x504C
abbrev PRP_CNT_A : Nat := 0x5050
abbrev PRP_CNT_B : Nat := 0x5054
abbrev PRP_CNT_DUP : Nat := 0x5058
abbrev PRP_CNT_ERR : Nat := 0x505C
abbrev PRP_LAN_STAT : Nat := 0x5060
abbrev PRP_MC_SEL : Nat := 0x5064
abbrev PRP_MC_GRP : Nat := 0x5068
abbrev PRP_MC_PORT : Nat := 0x506C
abbrev PRP_F_SEL : Nat := 0x5070
abbrev PRP_F_ADDR : Nat := 0x5074
abbrev PRP_F_CFG : Nat := 0x5078
abbrev PRP_F_STAT : Nat := 0x507C
abbrev PRP_SVC_STAT : Nat := 0x5080
abbrev PRP_SVC_CNT : Nat := 0x5084

/-! Registers of PTP, page 0x15. -/
abbrev PTP_CFG : Nat := 0x5440
abbrev PTP_STAT : Nat := 0x5444
abbrev PTP_PARENT_L : Nat := 0x5448
abbrev PTP_PARENT_H : Nat := 0x544C
abbrev PTP_OFS : Nat := 0x5450
abbrev PTP_MPD : Nat := 0x5454
abbrev PTP_PSEL : Nat := 0x5458
abbrev PTP_P_CFG : Nat := 0x545C
abbrev PTP_P_STAT : Nat := 0x5460
abbrev PTP_P_LINKDLY : Nat := 0x5464
abbrev PTP_P_CNT : Nat := 0x5468
abbrev PTP_TC_CNT : Nat := 0x546C

/-! Registers of CAN, page 0x16 (the first of 4). -/
abbrev CAN_CTRL : Nat := 0x5840
abbrev CAN_STAT : Nat := 0x5844
abbrev CAN_ERRC : Nat := 0x5848
abbrev CAN_NBT : Nat := 0x584C
abbrev CAN_DBT : Nat := 0x5850
abbrev CAN_TDC : Nat := 0x5854
abbrev CAN_WAKE_ID : Nat := 0x5858
abbrev CAN_WAKE_IDM : Nat := 0x585C
abbrev CAN_WAKE_PAT_L : Nat := 0x5860
abbrev CAN_WAKE_PAT_H : Nat := 0x5864
abbrev CAN_WAKE_MSK_L : Nat := 0x5868
abbrev CAN_WAKE_MSK_H : Nat := 0x586C
abbrev CAN_TX_SEL : Nat := 0x5870
abbrev CAN_TX_CFG : Nat := 0x5874
abbrev CAN_TX_ID : Nat := 0x5878
abbrev CAN_TX_SRC : Nat := 0x587C
abbrev CAN_TX_STAT : Nat := 0x5880
abbrev CAN_RX_SEL : Nat := 0x5884
abbrev CAN_RX_ID : Nat := 0x5888
abbrev CAN_RX_MASK : Nat := 0x588C
abbrev CAN_RX_CFG : Nat := 0x5890
abbrev CAN_RX_STAT : Nat := 0x5894
abbrev CAN_SS_STAT : Nat := 0x5898
abbrev CAN_LOAD : Nat := 0x589C
abbrev CAN_CNT_TX : Nat := 0x58A0
abbrev CAN_CNT_RX : Nat := 0x58A4
abbrev CAN_CNT_ERR : Nat := 0x58A8

/-! Registers of FLT, page 0x1A. -/
abbrev FLT_GDELAY : Nat := 0x6840
abbrev FLT_TAKE : Nat := 0x6844
abbrev FLT_SLOTS : Nat := 0x6848
abbrev FLT_RUN : Nat := 0x684C
abbrev FLT_SEL : Nat := 0x6850
abbrev FLT_S_SRC : Nat := 0x6854
abbrev FLT_S_ALT : Nat := 0x6858
abbrev FLT_S_PERIOD : Nat := 0x685C
abbrev FLT_S_LAT : Nat := 0x6860
abbrev FLT_S_FAST : Nat := 0x6864
abbrev FLT_S_STEP : Nat := 0x6868
abbrev FLT_S_STALE : Nat := 0x686C
abbrev FLT_S_STAT : Nat := 0x6870
abbrev FLT_S_REC : Nat := 0x6874
abbrev FLT_S_DLV : Nat := 0x6878
abbrev FLT_ALT0 : Nat := 0x6880
abbrev FLT_ALT1 : Nat := 0x6884
abbrev FLT_ALT2 : Nat := 0x6888
abbrev FLT_ALT3 : Nat := 0x688C
abbrev FLT_ALT4 : Nat := 0x6890
abbrev FLT_ALT5 : Nat := 0x6894
abbrev FLT_ALT6 : Nat := 0x6898
abbrev FLT_ALT7 : Nat := 0x689C
abbrev FLT_COEF_SEL : Nat := 0x68A0
abbrev FLT_COEF_DATA : Nat := 0x68A4
abbrev FLT_COEF_LEAD : Nat := 0x68A8
abbrev FLT_CNT_SAT : Nat := 0x68AC
abbrev FLT_CNT_DROP : Nat := 0x68B0
abbrev FLT_CNT_RESTART : Nat := 0x68B4
abbrev FLT_CNT_LATE : Nat := 0x68B8

/-! Registers of EST, page 0x1B. -/
abbrev EST_CTRL : Nat := 0x6C40
abbrev EST_STAT : Nat := 0x6C44
abbrev EST_IN_FNO : Nat := 0x6C48
abbrev EST_BERTH_BLK : Nat := 0x6C4C
abbrev EST_BERTH_LAT : Nat := 0x6C50
abbrev EST_MODEL_BLK : Nat := 0x6C54
abbrev EST_VOTE_LIM : Nat := 0x6C58
abbrev EST_VOTE_HLIM : Nat := 0x6C5C
abbrev EST_DISP_GATE : Nat := 0x6C60
abbrev EST_TWIN : Nat := 0x6C64
abbrev EST_P_FLOOR : Nat := 0x6C68
abbrev EST_SEL : Nat := 0x6C6C
abbrev EST_R_CFG : Nat := 0x6C70
abbrev EST_R_STRM : Nat := 0x6C74
abbrev EST_R_LEVER_X : Nat := 0x6C78
abbrev EST_R_LEVER_Y : Nat := 0x6C7C
abbrev EST_R_LEVER_Z : Nat := 0x6C80
abbrev EST_R_OFFS : Nat := 0x6C84
abbrev EST_R_VAR : Nat := 0x6C88
abbrev EST_R_GATE : Nat := 0x6C8C
abbrev EST_R_CTRL : Nat := 0x6C90
abbrev EST_R_STAT : Nat := 0x6C94
abbrev EST_R_DRIFT : Nat := 0x6C98
abbrev EST_R_INNOV : Nat := 0x6C9C
abbrev EST_R_ADM_N : Nat := 0x6CA0
abbrev EST_R_ADM_E : Nat := 0x6CA4
abbrev EST_R_ADM_PSI : Nat := 0x6CA8
abbrev EST_CNT_NUM : Nat := 0x6CAC
abbrev EST_DIGEST : Nat := 0x6CB0

/-! Registers of FUS0, page 0x1C. -/
abbrev FUS0_CTRL : Nat := 0x7040
abbrev FUS0_PORT : Nat := 0x7044
abbrev FUS0_BIN_AT : Nat := 0x7048
abbrev FUS0_EST_BLK : Nat := 0x704C
abbrev FUS0_HBAND : Nat := 0x7050
abbrev FUS0_SRC_SEL : Nat := 0x7054
abbrev FUS0_SEL : Nat := 0x7058
abbrev FUS0_SC_CFG : Nat := 0x705C
abbrev FUS0_SC_ADDR : Nat := 0x7060
abbrev FUS0_SC_LEV_X : Nat := 0x7064
abbrev FUS0_SC_LEV_Y : Nat := 0x7068
abbrev FUS0_SC_LEV_Z : Nat := 0x706C
abbrev FUS0_SC_YAW : Nat := 0x7070
abbrev FUS0_SC_PITCH : Nat := 0x7074
abbrev FUS0_SC_ROLL : Nat := 0x7078
abbrev FUS0_SC_DSEQ : Nat := 0x707C
abbrev FUS0_SC_CNT : Nat := 0x7080
abbrev FUS0_CNT_BAD : Nat := 0x7084
abbrev FUS0_CNT_LATE : Nat := 0x7088
abbrev FUS0_CNT_OUT : Nat := 0x708C
abbrev FUS0_WIN_PTS : Nat := 0x7090
abbrev FUS0_GRID_N : Nat := 0x7094
abbrev FUS0_GRID_E : Nat := 0x7098
abbrev FUS0_GRID_FNO : Nat := 0x709C
abbrev FUS0_NET_CFG : Nat := 0x70A0
abbrev FUS0_NET_CRC : Nat := 0x70A4
abbrev FUS0_RUN : Nat := 0x70A8
abbrev FUS0_MARGIN : Nat := 0x70AC
abbrev FUS0_UPD_CNT : Nat := 0x70B0

/-! Registers of FUS1, page 0x1D. -/
abbrev FUS1_MAP_SEL : Nat := 0x7440
abbrev FUS1_SEED : Nat := 0x7444
abbrev FUS1_SEED_X : Nat := 0x7448
abbrev FUS1_SEED_Y : Nat := 0x744C
abbrev FUS1_SEED_PSI : Nat := 0x7450
abbrev FUS1_REG_CFG : Nat := 0x7454
abbrev FUS1_REG_LOST : Nat := 0x7458
abbrev FUS1_REG_STAT : Nat := 0x745C
abbrev FUS1_MAP_CNT : Nat := 0x7460
abbrev FUS1_MAP_CRC : Nat := 0x7464
abbrev FUS1_TRK_CTRL : Nat := 0x7468
abbrev FUS1_TRK_GATE : Nat := 0x746C
abbrev FUS1_TRK_LIFE : Nat := 0x7470
abbrev FUS1_TRK_AB : Nat := 0x7474
abbrev FUS1_AUC_CFG : Nat := 0x7478
abbrev FUS1_AUC_LIM : Nat := 0x747C
abbrev FUS1_AUC_STAT : Nat := 0x7480
abbrev FUS1_TRK_STAT : Nat := 0x7484
abbrev FUS1_TRK_DROP : Nat := 0x7488
abbrev FUS1_TRK_NEXTID : Nat := 0x748C

/-! Registers of GNS, page 0x1E (the first of 2). -/
abbrev GNS_CTRL : Nat := 0x7840
abbrev GNS_STAT : Nat := 0x7844
abbrev GNS_ANT_I : Nat := 0x7848
abbrev GNS_LEVEL : Nat := 0x784C
abbrev GNS_SEL : Nat := 0x7850
abbrev GNS_CH_CFG : Nat := 0x7854
abbrev GNS_CH_STAT : Nat := 0x7858
abbrev GNS_CH_CARR : Nat := 0x785C
abbrev GNS_CH_CODE : Nat := 0x7860
abbrev GNS_CH_CPH : Nat := 0x7864
abbrev GNS_CH_CARPH : Nat := 0x7868
abbrev GNS_CH_DUMPS : Nat := 0x786C

/-! Registers of GNSC, page 0x20. -/
abbrev GNSC_CTRL : Nat := 0x8040
abbrev GNSC_STAT : Nat := 0x8044
abbrev GNSC_ORG_LAT : Nat := 0x8048
abbrev GNSC_ORG_LON : Nat := 0x804C
abbrev GNSC_ORG_H : Nat := 0x8050
abbrev GNSC_MASK : Nat := 0x8054
abbrev GNSC_LOOP : Nat := 0x8058
abbrev GNSC_BASE_LEN : Nat := 0x805C
abbrev GNSC_BASE_CFG : Nat := 0x8060
abbrev GNSC_HDG_STAT : Nat := 0x8064
abbrev GNSC_TOFS : Nat := 0x8068
abbrev GNSC_HOLD_CFG : Nat := 0x806C
abbrev GNSC_HOLD_K : Nat := 0x8070
abbrev GNSC_HOLD_UNC : Nat := 0x8074
abbrev GNSC_HOLD_TIME : Nat := 0x8078
abbrev GNSC_PPS_CFG : Nat := 0x807C
abbrev GNSC_SNAP_CTRL : Nat := 0x8080
abbrev GNSC_SNAP_CFG : Nat := 0x8084
abbrev GNSC_SNAP_STAT : Nat := 0x8088
abbrev GNSC_SNAP_T_L : Nat := 0x808C
abbrev GNSC_SNAP_T_H : Nat := 0x8090
abbrev GNSC_SFIX_N : Nat := 0x8094
abbrev GNSC_SFIX_E : Nat := 0x8098
abbrev GNSC_SFIX_STAT : Nat := 0x809C
abbrev GNSC_SFIX_TOFS : Nat := 0x80A0
abbrev GNSC_RUN : Nat := 0x80A4
abbrev GNSC_SV : Nat := 0x80A8

/-! Registers of CTL, page 0x21 (the first of 2). -/
abbrev CTL_INST_CNT : Nat := 0x8440
abbrev CTL_PAIR1 : Nat := 0x8444
abbrev CTL_PAIR2 : Nat := 0x8448
abbrev CTL_PAIR3 : Nat := 0x844C
abbrev CTL_PAIR4 : Nat := 0x8450
abbrev CTL_PAIR5 : Nat := 0x8454
abbrev CTL_PAIR6 : Nat := 0x8458
abbrev CTL_HELD_W : Nat := 0x845C
abbrev CTL_SEL : Nat := 0x8460
abbrev CTL_I_WIN : Nat := 0x8464
abbrev CTL_I_DATA : Nat := 0x8468
abbrev CTL_I_SWAP : Nat := 0x846C
abbrev CTL_I_STAT : Nat := 0x8470
abbrev CTL_I_OUT : Nat := 0x8474
abbrev CTL_CNT_SAT : Nat := 0x8478
abbrev CTL_CNT_SWAP : Nat := 0x847C
abbrev CTL_RUN : Nat := 0x8480
abbrev CTL_STAT : Nat := 0x8484

/-! Registers of SOL0, page 0x23. -/
abbrev SOL0_CTRL : Nat := 0x8C40
abbrev SOL0_PLANT_BLK : Nat := 0x8C44
abbrev SOL0_PLANT_AGE : Nat := 0x8C48
abbrev SOL0_PIVOT : Nat := 0x8C4C
abbrev SOL0_REG : Nat := 0x8C50
abbrev SOL0_TMIN : Nat := 0x8C54
abbrev SOL0_GUARD : Nat := 0x8C58
abbrev SOL0_IMG_WIN : Nat := 0x8C5C
abbrev SOL0_IMG_DATA : Nat := 0x8C60
abbrev SOL0_IMG_SWAP : Nat := 0x8C64
abbrev SOL0_IMG_STAT : Nat := 0x8C68
abbrev SOL0_WARM_CTRL : Nat := 0x8C6C
abbrev SOL0_WARM_STAT : Nat := 0x8C70
abbrev SOL0_STAT : Nat := 0x8C74
abbrev SOL0_ITER : Nat := 0x8C78
abbrev SOL0_HASH : Nat := 0x8C7C
abbrev SOL0_RUN : Nat := 0x8C80
abbrev SOL0_CNT_HELD : Nat := 0x8C84
abbrev SOL0_CNT_INFEAS : Nat := 0x8C88
abbrev SOL0_CNT_COLD : Nat := 0x8C8C
abbrev SOL0_HELD_RUN : Nat := 0x8C90
abbrev SOL0_RELAX_SET : Nat := 0x8C94

/-! Registers of SOL1, page 0x24. -/
abbrev SOL1_MEM_WIN : Nat := 0x9040
abbrev SOL1_MEM_DATA : Nat := 0x9044
abbrev SOL1_STAT : Nat := 0x9048
abbrev SOL1_RUN : Nat := 0x904C
abbrev SOL1_CNT_SOLO : Nat := 0x9050

/-! Registers of ALC, page 0x25. -/
abbrev ALC_P_WIN : Nat := 0x9440
abbrev ALC_P_DATA : Nat := 0x9444
abbrev ALC_SWAP : Nat := 0x9448
abbrev ALC_BANK : Nat := 0x944C
abbrev ALC_UNIT_OFF : Nat := 0x9450
abbrev ALC_OUT_BLK : Nat := 0x9454
abbrev ALC_STAT : Nat := 0x9458
abbrev ALC_HASH : Nat := 0x945C
abbrev ALC_FROZEN : Nat := 0x9460
abbrev ALC_FLOOR : Nat := 0x9464
abbrev ALC_ENG : Nat := 0x9468
abbrev ALC_LOAD : Nat := 0x946C
abbrev ALC_RANGE_CNT : Nat := 0x9470
abbrev ALC_RANGE_LAST : Nat := 0x9474
abbrev ALC_RUN : Nat := 0x9478
abbrev ALC_U_SEL : Nat := 0x947C
abbrev ALC_U_ANG : Nat := 0x9480
abbrev ALC_U_TEFF : Nat := 0x9484

/-! Registers of SER, page 0x26 (the first of 12). -/
abbrev SER_CFG : Nat := 0x9840
abbrev SER_BAUD : Nat := 0x9844
abbrev SER_STAT : Nat := 0x9848
abbrev SER_FQ : Nat := 0x984C
abbrev SER_F_SEL : Nat := 0x9850
abbrev SER_F_ADDR : Nat := 0x9854
abbrev SER_F_CFG : Nat := 0x9858
abbrev SER_F_STAT : Nat := 0x985C
abbrev SER_F_CONV_SEL : Nat := 0x9860
abbrev SER_F_CONV : Nat := 0x9864
abbrev SER_LAST_TS_L : Nat := 0x9868
abbrev SER_LAST_TS_H : Nat := 0x986C
abbrev SER_CNT_RX : Nat := 0x9870
abbrev SER_CNT_ERR : Nat := 0x9874
abbrev SER_CNT_TX : Nat := 0x9878
abbrev SER_CNT_NOMATCH : Nat := 0x987C

/-! Registers of FIO, page 0x32 (the first of 12). -/
abbrev FIO_CTRL : Nat := 0xC840
abbrev FIO_STAT : Nat := 0xC844
abbrev FIO_LPLUS : Nat := 0xC848
abbrev FIO_IN_BLK : Nat := 0xC84C
abbrev FIO_OUT_BLK : Nat := 0xC850
abbrev FIO_IN : Nat := 0xC854
abbrev FIO_OUT : Nat := 0xC858
abbrev FIO_OUT_SET : Nat := 0xC85C
abbrev FIO_OUT_CLR : Nat := 0xC860
abbrev FIO_OUT_RB : Nat := 0xC864
abbrev FIO_FAULT : Nat := 0xC868
abbrev FIO_CH_SEL : Nat := 0xC86C
abbrev FIO_CH_CFG : Nat := 0xC870
abbrev FIO_CH_AUX : Nat := 0xC874
abbrev FIO_CH_CNT : Nat := 0xC878
abbrev FIO_CH_ANA : Nat := 0xC87C
abbrev FIO_CH_ETIME_L : Nat := 0xC880
abbrev FIO_CH_ETIME_H : Nat := 0xC884
abbrev FIO_CNT_LINK : Nat := 0xC888
abbrev FIO_CNT_OVL : Nat := 0xC88C

/-! Registers of POS, page 0x3E (the first of 24). -/
abbrev POS_CFG : Nat := 0xF840
abbrev POS_SSI : Nat := 0xF844
abbrev POS_SSI_FMT : Nat := 0xF848
abbrev POS_MINT : Nat := 0xF84C
abbrev POS_MOD : Nat := 0xF850
abbrev POS_STOP : Nat := 0xF854
abbrev POS_IN_BLK : Nat := 0xF858
abbrev POS_COUNT : Nat := 0xF85C
abbrev POS_REVS : Nat := 0xF860
abbrev POS_SPEED : Nat := 0xF864
abbrev POS_SSI_POS : Nat := 0xF868
abbrev POS_SSI_RAW : Nat := 0xF86C
abbrev POS_TS_L : Nat := 0xF870
abbrev POS_TS_H : Nat := 0xF874
abbrev POS_FAULT : Nat := 0xF878
abbrev POS_SSI_ERR : Nat := 0xF87C
abbrev POS_REQ : Nat := 0xF880
abbrev POS_CMP : Nat := 0xF884
abbrev POS_CMP_CFG : Nat := 0xF888
abbrev POS_CMP_STAT : Nat := 0xF88C
abbrev POS_CMP_T_L : Nat := 0xF890
abbrev POS_CMP_T_H : Nat := 0xF894
abbrev POS_DIV : Nat := 0xF898
abbrev POS_DIV_CFG : Nat := 0xF89C
abbrev POS_DIV_CNT : Nat := 0xF8A0
abbrev POS_STAT : Nat := 0xF8A4

/-! Registers of ID, page 0x00. -/
abbrev DEV_CODE : Nat := 0x40
abbrev DEV_REV : Nat := 0x44
abbrev SERIAL_LO : Nat := 0x48
abbrev SERIAL_HI : Nat := 0x4C
abbrev FEAT_OFFER0 : Nat := 0x60
abbrev FEAT_OFFER1 : Nat := 0x64
abbrev FEAT_OFFER2 : Nat := 0x68
abbrev FEAT_OFFER3 : Nat := 0x6C
abbrev FEAT_OFFER4 : Nat := 0x70
abbrev FEAT_OFFER5 : Nat := 0x74
abbrev FEAT_OFFER6 : Nat := 0x78
abbrev FEAT_OFFER7 : Nat := 0x7C
abbrev FEAT_ACCEPT0 : Nat := 0x80
abbrev FEAT_ACCEPT1 : Nat := 0x84
abbrev FEAT_ACCEPT2 : Nat := 0x88
abbrev FEAT_ACCEPT3 : Nat := 0x8C
abbrev FEAT_ACCEPT4 : Nat := 0x90
abbrev FEAT_ACCEPT5 : Nat := 0x94
abbrev FEAT_ACCEPT6 : Nat := 0x98
abbrev FEAT_ACCEPT7 : Nat := 0x9C
abbrev FEAT_STATUS : Nat := 0xA0
abbrev EVT_SUM0 : Nat := 0xB0
abbrev EVT_SUM1 : Nat := 0xB4
abbrev EVT_SUM2 : Nat := 0xB8
abbrev ERR_SUM0 : Nat := 0xC0
abbrev ERR_SUM1 : Nat := 0xC4
abbrev ERR_SUM2 : Nat := 0xC8

end Reg

/-- Rows of the register table of SUP (R429). -/
def rowsSUP : List RegRow :=
  [⟨0x40, 0x0, 0x0, 0x0, 0x0, 0x0, 0x3F, 0, 1⟩,
   ⟨0x44, 0x1, 0x0, 0x0, 0x0, 0x0, 0x0, 0, 1⟩,
   ⟨0x48, 0x0, 0x0, 0x0, 0x0, 0x0, 0x0, 0, 1⟩,
   ⟨0x4C, 0x0, 0x0, 0x0, 0x0, 0xFFFFFFFF, 0x0, 0, 1⟩,
   ⟨0x50, 0x1, 0x0, 0x0, 0x0, 0x0, 0x0, 0, 1⟩,
   ⟨0x54, 0x0, 0x7, 0x0, 0x0, 0x0, 0x0, 0, 1⟩,
   ⟨0x58, 0x0, 0x0, 0x0, 0x0, 0x0, 0x0, 0, 1⟩,
   ⟨0x5C, 0x0, 0x0, 0x0, 0x0, 0x0, 0x0, 0, 1⟩,
   ⟨0x60, 0x0, 0x0, 0x0, 0x0, 0x0, 0x0, 0, 1⟩,
   ⟨0x64, 0x0, 0x0, 0x0, 0x0, 0x0, 0x0, 0, 1⟩,
   ⟨0x68, 0x0, 0x0, 0x0, 0x0, 0x0, 0x0, 0, 1⟩]

/-- Rows of the register table of PWR (R399). -/
def rowsPWR : List RegRow :=
  [⟨0x40, 0x0, 0x0, 0x0, 0x0, 0x0, 0x0, 0, 1⟩,
   ⟨0x44, 0x514, 0x0, 0x0, 0x0, 0x0, 0x0, 0, 1⟩,
   ⟨0x48, 0x0, 0x0, 0x7FF, 0x0, 0x0, 0x0, 0, 1⟩,
   ⟨0x4C, 0x320, 0x0, 0x0, 0x0, 0x0, 0x0, 0, 1⟩,
   ⟨0x50, 0x0, 0x0, 0x0, 0x0, 0x0, 0x0, 0, 1⟩,
   ⟨0x54, 0x0, 0x0, 0x0, 0x0, 0x0, 0x0, 0, 1⟩,
   ⟨0x58, 0x157C, 0x0, 0x1FFF, 0x0, 0x0, 0x0, 0, 1⟩,
   ⟨0x5C, 0x0, 0x1F, 0x0, 0x0, 0x0, 0x0, 0, 1⟩,
   ⟨0x60, 0x0, 0x0, 0xF, 0x0, 0x0, 0x0, 0x5C, 23⟩,
   ⟨0x64, 0x0, 0x0, 0x0, 0x0, 0x0, 0x0, 0x5C, 23⟩,
   ⟨0x68, 0x0, 0x0, 0x0, 0x0, 0x0, 0x0, 0, 1⟩,
   ⟨0x6C, 0x0, 0x0, 0x0, 0x0, 0x0, 0x0, 0, 1⟩,
   ⟨0x70, 0x0, 0xF, 0x0, 0x0, 0x0, 0x0, 0, 1⟩,
   ⟨0x74, 0x0, 0x0, 0x0, 0x0, 0x0, 0x0, 0x70, 12⟩,
   ⟨0x78, 0x0, 0x0, 0x0, 0x0, 0x0, 0x0, 0x70, 12⟩,
   ⟨0x7C, 0x0, 0x0, 0x0, 0x0, 0x0, 0x0, 0, 1⟩] ++
  [⟨0x80, 0x0, 0x0, 0x0, 0x0, 0x0, 0x0, 0, 1⟩]

/-- Rows of the register table of SNAP (R416). -/
def rowsSNAP : List RegRow :=
  [⟨0x40, 0x40, 0xFFFF00FF, 0x0, 0x0, 0x0, 0x0, 0, 1⟩,
   ⟨0x44, 0x0, 0x0, 0x0, 0x0, 0x0, 0x1, 0, 1⟩,
   ⟨0x48, 0x0, 0x0, 0x0, 0x0, 0x0, 0x0, 0, 1⟩,
   ⟨0x4C, 0x0, 0x0, 0x0, 0x0, 0x0, 0x0, 0, 1⟩,
   ⟨0x50, 0x0, 0x0, 0x0, 0x0, 0x0, 0x0, 0, 1⟩,
   ⟨0x54, 0x0, 0x0, 0x0, 0x0, 0x0, 0x0, 0, 1⟩,
   ⟨0x58, 0x0, 0x0, 0x0, 0x0, 0x0, 0x0, 0, 1⟩,
   ⟨0x5C, 0x0, 0x0, 0x0, 0x0, 0x0, 0x0, 0, 1⟩,
   ⟨0x60, 0x0, 0x0, 0x0, 0x0, 0x0, 0x0, 0, 1⟩,
   ⟨0x64, 0x0, 0x0, 0x0, 0x0, 0x0, 0x0, 0, 1⟩]

/-- Rows of the register table of SEQ (R62). -/
def rowsSEQ : List RegRow :=
  [⟨0x40, 0x9C4, 0x0, 0x7FFF, 0x0, 0x0, 0x0, 0, 1⟩,
   ⟨0x44, 0x0, 0x0, 0x7FFF, 0x0, 0x0, 0x0, 0, 1⟩,
   ⟨0x48, 0x0, 0x0, 0x0, 0x0, 0x0, 0x0, 0, 1⟩,
   ⟨0x4C, 0x0, 0x0, 0x0, 0x0, 0x0, 0x0, 0, 1⟩,
   ⟨0x50, 0x0, 0x0, 0x0, 0x0, 0x0, 0x0, 0, 1⟩,
   ⟨0x54, 0x0, 0x0, 0x0, 0x0, 0x0, 0x0, 0, 1⟩,
   ⟨0x58, 0x0, 0x7FF, 0x0, 0x0, 0x0, 0x0, 0, 1⟩,
   ⟨0x5C, 0x0, 0x103FF, 0x0, 0x0, 0x0, 0x0, 0, 1⟩,
   ⟨0x60, 0x0, 0xFFFFFFFF, 0x0, 0x0, 0x0, 0x0, 0, 1⟩,
   ⟨0x64, 0x0, 0xFFFFFFFF, 0x0, 0x0, 0x0, 0x0, 0, 1⟩,
   ⟨0x68, 0x0, 0xFFFFFFFF, 0x0, 0x0, 0x0, 0x0, 0, 1⟩,
   ⟨0x6C, 0x0, 0xFFFFFFFF, 0x0, 0x0, 0x0, 0x0, 0, 1⟩,
   ⟨0x70, 0x0, 0xFFFFFFFF, 0x0, 0x0, 0x0, 0x0, 0, 1⟩,
   ⟨0x74, 0x0, 0xFFFFFFFF, 0x0, 0x0, 0x0, 0x0, 0, 1⟩,
   ⟨0x78, 0x0, 0xFFFFFFFF, 0x0, 0x0, 0x0, 0x0, 0, 1⟩,
   ⟨0x7C, 0x0, 0xFFFFFFFF, 0x0, 0x0, 0x0, 0x0, 0, 1⟩] ++
  [⟨0x80, 0x0, 0x0, 0x0, 0x0, 0x0, 0x1, 0, 1⟩,
   ⟨0x84, 0x0, 0xFFFFFFFF, 0x0, 0x0, 0x0, 0x0, 0, 1⟩,
   ⟨0x88, 0x0, 0x0, 0x0, 0x0, 0x0, 0x0, 0, 1⟩,
   ⟨0x8C, 0x0, 0x0, 0x0, 0x0, 0x0, 0x0, 0, 1⟩,
   ⟨0x90, 0x0, 0x0, 0x0, 0x0, 0x0, 0x0, 0, 1⟩,
   ⟨0x94, 0x0, 0x0, 0x0, 0x0, 0x0, 0x0, 0, 1⟩,
   ⟨0x98, 0x0, 0xFF, 0x0, 0x0, 0x0, 0x0, 0, 1⟩,
   ⟨0x9C, 0x0, 0x0, 0x0, 0x0, 0x0, 0x0, 0x98, 256⟩,
   ⟨0xA0, 0x0, 0x3FF, 0x0, 0x0, 0x0, 0x0, 0, 1⟩,
   ⟨0xA4, 0xFFFFFFFF, 0x0, 0x0, 0x0, 0x0, 0x0, 0xA0, 1024⟩,
   ⟨0xA8, 0xFFFFF, 0x0, 0x0, 0x0, 0x0, 0x0, 0xA0, 1024⟩,
   ⟨0xAC, 0x0, 0x0, 0x0, 0x0, 0x0, 0x0, 0, 1⟩,
   ⟨0xB0, 0x0, 0x0, 0x0, 0x0, 0x0, 0x0, 0, 1⟩]

/-- Rows of the register table of TIM (R305). -/
def rowsTIM : List RegRow :=
  [⟨0x40, 0x0, 0x0, 0x0, 0x0, 0x0, 0x0, 0, 1⟩,
   ⟨0x44, 0x0, 0x0, 0x0, 0x0, 0x0, 0x0, 0, 1⟩,
   ⟨0x48, 0x0, 0x0, 0x0, 0x0, 0x0, 0x0, 0, 1⟩,
   ⟨0x4C, 0x0, 0x0, 0x0, 0x0, 0x0, 0x0, 0, 1⟩,
   ⟨0x50, 0x0, 0x0, 0x0, 0x0, 0x0, 0x0, 0, 1⟩,
   ⟨0x54, 0x0, 0x0, 0x0, 0x0, 0x0, 0x0, 0, 1⟩,
   ⟨0x58, 0x0, 0x0, 0x0, 0x0, 0x0, 0x0, 0, 1⟩,
   ⟨0x5C, 0x0, 0x0, 0x0, 0x0, 0x0, 0x0, 0, 1⟩,
   ⟨0x60, 0x0, 0x0, 0x0, 0x0, 0x0, 0x0, 0, 1⟩,
   ⟨0x64, 0x0, 0x0, 0x0, 0x0, 0x0, 0x0, 0, 1⟩,
   ⟨0x68, 0x0, 0x0, 0x0, 0x0, 0x0, 0x0, 0, 1⟩,
   ⟨0x6C, 0x9, 0x0, 0xF, 0x0, 0x0, 0x0, 0, 1⟩,
   ⟨0x70, 0x840464, 0x0, 0xFFFFFFF, 0x0, 0x0, 0x0, 0, 1⟩,
   ⟨0x74, 0x3E8, 0x0, 0xFFFF, 0x0, 0x0, 0x0, 0, 1⟩,
   ⟨0x78, 0x0, 0x0, 0x0, 0x0, 0x0, 0x0, 0, 1⟩,
   ⟨0x7C, 0x0, 0x0, 0x0, 0x0, 0x0, 0x0, 0, 1⟩] ++
  [⟨0x80, 0x0, 0x0, 0x0, 0x0, 0x0, 0x0, 0, 1⟩,
   ⟨0x84, 0x0, 0x0, 0x0, 0x0, 0x0, 0x0, 0, 1⟩,
   ⟨0x88, 0x0, 0x0, 0x0, 0x0, 0x0, 0x0, 0, 1⟩,
   ⟨0x8C, 0x0, 0x0, 0x0, 0x0, 0x0, 0x0, 0, 1⟩,
   ⟨0x90, 0x0, 0xF, 0x0, 0x0, 0x0, 0x0, 0, 1⟩,
   ⟨0x94, 0x0, 0xFF0F, 0x0, 0x0, 0x0, 0x0, 0x90, 16⟩,
   ⟨0x98, 0x0, 0xFFFFFFFF, 0x0, 0x0, 0x0, 0x0, 0x90, 16⟩,
   ⟨0x9C, 0x0, 0xFFFFFFFF, 0x0, 0x0, 0x0, 0x0, 0x90, 16⟩,
   ⟨0xA0, 0x0, 0xFFFFFFFF, 0x0, 0x0, 0x0, 0x0, 0x90, 16⟩,
   ⟨0xA4, 0x0, 0x0, 0x0, 0x0, 0x0, 0x0, 0x90, 16⟩,
   ⟨0xA8, 0xA, 0xFFFF, 0x0, 0x0, 0x0, 0x0, 0, 1⟩,
   ⟨0xAC, 0x0, 0x0, 0x0, 0x0, 0x0, 0x0, 0, 1⟩,
   ⟨0xB0, 0x0, 0x0, 0x0, 0x0, 0x0, 0x0, 0, 1⟩,
   ⟨0xB4, 0x0, 0x0, 0x0, 0x0, 0x0, 0x0, 0, 1⟩]

/-- Rows of the register table of NVS (R430). -/
def rowsNVS : List RegRow :=
  [⟨0x40, 0x0, 0x0, 0x0, 0x0, 0x0, 0x0, 0, 1⟩,
   ⟨0x44, 0x0, 0xF, 0x0, 0x0, 0x0, 0x0, 0, 1⟩,
   ⟨0x48, 0x0, 0x0, 0x0, 0x0, 0x0, 0x0, 0x44, 13⟩,
   ⟨0x4C, 0x200000, 0x0, 0x0, 0x0, 0x0, 0x0, 0x44, 13⟩,
   ⟨0x50, 0x0, 0x0, 0x0, 0x0, 0x0, 0x0, 0x44, 13⟩,
   ⟨0x54, 0x0, 0x0, 0x0, 0x0, 0x0, 0x0, 0x44, 13⟩]

/-- Rows of the register table of REC (R415). -/
def rowsREC : List RegRow :=
  [⟨0x40, 0x0, 0x0, 0x7, 0x0, 0x0, 0x0, 0, 1⟩,
   ⟨0x44, 0x0, 0x0, 0x0, 0x0, 0x0, 0x0, 0, 1⟩,
   ⟨0x48, 0x0, 0x0, 0x0, 0x0, 0x0, 0x0, 0, 1⟩,
   ⟨0x4C, 0x0, 0x0, 0x0, 0x0, 0x0, 0x0, 0, 1⟩,
   ⟨0x50, 0x0, 0x0, 0x0, 0x0, 0x0, 0x0, 0, 1⟩,
   ⟨0x54, 0x0, 0x0, 0x0, 0x0, 0x0, 0x0, 0, 1⟩,
   ⟨0x58, 0x0, 0x0, 0x0, 0x0, 0x0, 0x0, 0, 1⟩,
   ⟨0x5C, 0x0, 0x8007FFFF, 0x0, 0x0, 0x0, 0x0, 0, 1⟩,
   ⟨0x60, 0x0, 0x0, 0x0, 0x0, 0x0, 0x0, 0, 1⟩,
   ⟨0x64, 0x0, 0x0, 0x0, 0x0, 0x0, 0x0, 0, 1⟩,
   ⟨0x68, 0x0, 0x0, 0x0, 0x0, 0x0, 0x0, 0, 1⟩,
   ⟨0x6C, 0x0, 0x0, 0x0, 0x0, 0x0, 0x0, 0, 1⟩,
   ⟨0x70, 0x0, 0x0, 0x0, 0x0, 0x0, 0x0, 0, 1⟩,
   ⟨0x74, 0x0, 0x0, 0x0, 0x0, 0x0, 0x0, 0, 1⟩,
   ⟨0x78, 0x0, 0x0, 0x0, 0x0, 0x0, 0x0, 0, 1⟩,
   ⟨0x7C, 0x0, 0x0, 0x0, 0x0, 0x0, 0x0, 0, 1⟩] ++
  [⟨0x80, 0x0, 0x0, 0x0, 0x0, 0x0, 0x0, 0, 1⟩,
   ⟨0x84, 0x0, 0x0, 0x0, 0x0, 0x0, 0x0, 0, 1⟩,
   ⟨0x88, 0x0, 0x0, 0x0, 0x0, 0x0, 0x0, 0, 1⟩,
   ⟨0x8C, 0x0, 0x0, 0x0, 0x0, 0x0, 0x0, 0, 1⟩,
   ⟨0x90, 0x0, 0x0, 0x0, 0x0, 0x0, 0x0, 0, 1⟩,
   ⟨0x94, 0x0, 0x0, 0x0, 0x0, 0x0, 0x0, 0, 1⟩,
   ⟨0x98, 0x0, 0x0, 0x0, 0x0, 0x0, 0x0, 0, 1⟩,
   ⟨0x9C, 0x0, 0x0, 0x0, 0x0, 0x0, 0x0, 0, 1⟩,
   ⟨0xA0, 0x0, 0x0, 0x0, 0x0, 0x0, 0x0, 0, 1⟩,
   ⟨0xA4, 0x0, 0x0, 0x0, 0x0, 0x0, 0x0, 0, 1⟩,
   ⟨0xA8, 0x0, 0x0, 0x0, 0x0, 0x0, 0x0, 0, 1⟩,
   ⟨0xAC, 0x0, 0x0, 0x0, 0x0, 0x0, 0x1, 0, 1⟩]

/-- Rows of the register table of PRG (R258). -/
def rowsPRG : List RegRow :=
  [⟨0x40, 0x0, 0x0, 0x0, 0x0, 0x0, 0x0, 0, 1⟩,
   ⟨0x44, 0x0, 0x0, 0x0, 0x0, 0x0, 0x0, 0, 1⟩,
   ⟨0x48, 0x0, 0x0, 0x0, 0x0, 0x0, 0x0, 0, 1⟩,
   ⟨0x4C, 0x0, 0x0, 0x0, 0x0, 0x0, 0x7, 0, 1⟩,
   ⟨0x50, 0x0, 0xFFFFFFFF, 0x0, 0x0, 0x0, 0x0, 0, 1⟩,
   ⟨0x54, 0x190, 0xFFFF, 0x0, 0x0, 0x0, 0x0, 0, 1⟩,
   ⟨0x58, 0x0, 0x0, 0x0, 0x0, 0x0, 0x0, 0, 1⟩,
   ⟨0x5C, 0x0, 0x0, 0x0, 0x0, 0x0, 0x0, 0, 1⟩,
   ⟨0x60, 0x0, 0x0, 0x0, 0x0, 0x0, 0x0, 0, 1⟩,
   ⟨0x64, 0x0, 0x0, 0x0, 0x0, 0x0, 0x0, 0, 1⟩,
   ⟨0x68, 0x0, 0xFFFF, 0x0, 0x0, 0x0, 0x0, 0, 1⟩,
   ⟨0x6C, 0x0, 0x0, 0x0, 0x0, 0x0, 0x0, 0x68, 65536⟩,
   ⟨0x70, 0x0, 0x0, 0x0, 0x0, 0x0, 0x0, 0x68, 65536⟩,
   ⟨0x74, 0x0, 0x3F, 0x0, 0x0, 0x0, 0x0, 0, 1⟩,
   ⟨0x78, 0x0, 0x0, 0x0, 0x0, 0x0, 0x0, 0x74, 48⟩,
   ⟨0x7C, 0x0, 0x0, 0x0, 0x0, 0x0, 0x0, 0x74, 48⟩] ++
  [⟨0x80, 0x0, 0x0, 0x0, 0x0, 0x0, 0x0, 0x74, 48⟩,
   ⟨0x84, 0x0, 0x0, 0x0, 0x0, 0x0, 0x7, 0x74, 48⟩,
   ⟨0x88, 0x0, 0x0, 0x0, 0x0, 0x0, 0x0, 0x74, 48⟩,
   ⟨0x8C, 0xFFFFFFFF, 0x0, 0x0, 0x0, 0x0, 0x0, 0x74, 48⟩,
   ⟨0x90, 0x0, 0x0, 0x0, 0x0, 0x0, 0x0, 0x74, 48⟩,
   ⟨0x94, 0x0, 0x0, 0x0, 0x0, 0x0, 0x0, 0x74, 48⟩,
   ⟨0x98, 0x0, 0x0, 0x0, 0x0, 0x0, 0x0, 0x74, 48⟩,
   ⟨0x9C, 0x0, 0x0, 0x0, 0x0, 0x0, 0x0, 0x74, 48⟩,
   ⟨0xA0, 0x0, 0x3FF, 0x0, 0x0, 0x0, 0x0, 0, 1⟩,
   ⟨0xA4, 0x0, 0x7FFFF, 0x0, 0x0, 0x0, 0x0, 0xA0, 1024⟩,
   ⟨0xA8, 0x0, 0xFFFFFFFF, 0x0, 0x0, 0x0, 0x0, 0xA0, 1024⟩,
   ⟨0xAC, 0x0, 0xFFFFFFFF, 0x0, 0x0, 0x0, 0x0, 0xA0, 1024⟩,
   ⟨0xB0, 0x0, 0x8001FFFF, 0x0, 0x0, 0x0, 0x0, 0xA0, 1024⟩,
   ⟨0xB4, 0x0, 0x0, 0x0, 0x0, 0x0, 0x0, 0, 1⟩,
   ⟨0xB8, 0x0, 0x0, 0x0, 0x0, 0x0, 0x1, 0, 1⟩,
   ⟨0xBC, 0xA, 0x0, 0xFFF, 0x0, 0x0, 0x0, 0, 1⟩] ++
  [⟨0xC0, 0x0, 0x0, 0x0, 0x0, 0x0, 0x0, 0, 1⟩,
   ⟨0x100, 0x32, 0x0, 0x7F, 0x0, 0x0, 0x0, 0, 1⟩,
   ⟨0x104, 0xFF00, 0x0, 0x0, 0x0, 0x0, 0x0, 0, 1⟩,
   ⟨0x108, 0x0, 0x0, 0x0, 0x0, 0x0, 0x0, 0, 1⟩]

/-- Rows of the register table of SAFC (R386). -/
def rowsSAFC : List RegRow :=
  [⟨0x40, 0x0, 0x0, 0x0, 0x0, 0x0, 0x0, 0, 1⟩,
   ⟨0x44, 0x0, 0x0, 0x0, 0x0, 0x0, 0x0, 0, 1⟩,
   ⟨0x48, 0x0, 0x0, 0x0, 0x0, 0xFFFFFFFF, 0x0, 0, 1⟩,
   ⟨0x4C, 0x0, 0x0, 0x0, 0x0, 0x0, 0x0, 0, 1⟩,
   ⟨0x50, 0x0, 0x0, 0x0, 0x0, 0x0, 0x0, 0, 1⟩,
   ⟨0x54, 0x0, 0xF, 0x0, 0x0, 0x0, 0x0, 0, 1⟩,
   ⟨0x58, 0x0, 0x0, 0x0, 0x0, 0x0, 0x0, 0x54, 16⟩,
   ⟨0x5C, 0x0, 0x0, 0x0, 0x0, 0x0, 0x0, 0x54, 16⟩,
   ⟨0x60, 0x0, 0x0, 0x0, 0x0, 0x0, 0x0, 0x54, 16⟩,
   ⟨0x64, 0x0, 0x0, 0x0, 0x0, 0x0, 0x0, 0x54, 16⟩,
   ⟨0x68, 0x0, 0x0, 0x0, 0x0, 0x0, 0x0, 0, 1⟩,
   ⟨0x6C, 0x0, 0x0, 0x0, 0x0, 0x0, 0x0, 0, 1⟩,
   ⟨0x70, 0x0, 0x1FF, 0x0, 0x0, 0x0, 0x0, 0, 1⟩,
   ⟨0x74, 0x0, 0xFFFFFFFF, 0x0, 0x0, 0x0, 0x0, 0, 1⟩,
   ⟨0x78, 0x0, 0x0, 0x0, 0x0, 0x0, 0x1, 0, 1⟩,
   ⟨0x7C, 0x0, 0x0, 0x0, 0x0, 0x0, 0x0, 0, 1⟩]

/-- Rows of the register table of SAFH (R387). -/
def rowsSAFH : List RegRow :=
  [⟨0x40, 0x0, 0x0, 0x0, 0x0, 0x0, 0x0, 0, 1⟩,
   ⟨0x44, 0x0, 0x0, 0x0, 0x0, 0x0, 0x0, 0, 1⟩,
   ⟨0x48, 0x0, 0x0, 0x0, 0x0, 0x0, 0x0, 0, 1⟩,
   ⟨0x4C, 0x0, 0x0, 0x0, 0x0, 0x0, 0x0, 0, 1⟩,
   ⟨0x50, 0x0, 0x0, 0x0, 0x0, 0x0, 0x0, 0, 1⟩,
   ⟨0x54, 0x0, 0x0, 0x0, 0x0, 0x0, 0x0, 0, 1⟩]

/-- Rows of the register table of SFO (R388). -/
def rowsSFO : List RegRow :=
  [⟨0x40, 0x0, 0xFF, 0x0, 0x0, 0x0, 0x0, 0, 1⟩,
   ⟨0x44, 0x0, 0x0, 0x0, 0x0, 0x0, 0x0, 0, 1⟩,
   ⟨0x48, 0x0, 0x0, 0x0, 0x0, 0x0, 0x0, 0, 1⟩,
   ⟨0x4C, 0x0, 0x7, 0x0, 0x0, 0x0, 0x0, 0, 1⟩,
   ⟨0x50, 0x0, 0x0, 0x0, 0x0, 0x0, 0x0, 0x4C, 8⟩,
   ⟨0x54, 0x0, 0x0, 0x0, 0x0, 0x0, 0x0, 0x4C, 8⟩,
   ⟨0x58, 0x0, 0x0, 0x0, 0x0, 0x0, 0x0, 0x4C, 8⟩]

/-- Rows of the register table of FQ (R36). -/
def rowsFQ : List RegRow :=
  [⟨0x40, 0x0, 0x3F, 0x0, 0x0, 0x0, 0x0, 0, 1⟩,
   ⟨0x44, 0x6, 0x0, 0xFFFF1F, 0x0, 0x0, 0x0, 0x40, 64⟩,
   ⟨0x48, 0x0, 0x0, 0x0, 0x0, 0x0, 0x0, 0x40, 64⟩,
   ⟨0x4C, 0x0, 0x0, 0x0, 0x0, 0x0, 0x0, 0x40, 64⟩,
   ⟨0x50, 0x0, 0x0, 0x0, 0x0, 0x0, 0x0, 0x40, 64⟩,
   ⟨0x58, 0x0, 0x0, 0x0, 0x0, 0x0, 0xFFFFFFFF, 0, 1⟩,
   ⟨0x5C, 0x0, 0x0, 0x0, 0x0, 0x0, 0xFFFFFFFF, 0, 1⟩,
   ⟨0x60, 0x0, 0x0, 0x0, 0xFFFFFFFF, 0x0, 0x0, 0, 1⟩,
   ⟨0x64, 0x0, 0x0, 0x0, 0xFFFFFFFF, 0x0, 0x0, 0, 1⟩,
   ⟨0x68, 0x0, 0xFFFFFFFF, 0x0, 0x0, 0x0, 0x0, 0, 1⟩,
   ⟨0x6C, 0x0, 0xFFFFFFFF, 0x0, 0x0, 0x0, 0x0, 0, 1⟩,
   ⟨0x70, 0x0, 0x0, 0x0, 0xFFFFFFFF, 0x0, 0x0, 0, 1⟩,
   ⟨0x74, 0x0, 0x0, 0x0, 0xFFFFFFFF, 0x0, 0x0, 0, 1⟩,
   ⟨0x78, 0x0, 0x0, 0x0, 0x0, 0x0, 0x0, 0, 1⟩,
   ⟨0x80, 0x0, 0xF, 0x0, 0x0, 0x0, 0x0, 0, 1⟩,
   ⟨0x84, 0x0, 0x1, 0x0, 0x0, 0x0, 0x0, 0x80, 9⟩] ++
  [⟨0x88, 0x0, 0x0, 0x0, 0x0, 0x0, 0x0, 0x80, 9⟩,
   ⟨0x8C, 0x0, 0x0, 0x0, 0x0, 0x0, 0x0, 0x80, 9⟩,
   ⟨0x90, 0x0, 0x0, 0x0, 0x0, 0x0, 0x0, 0x80, 9⟩,
   ⟨0x94, 0x0, 0x0, 0x0, 0x0, 0x0, 0x0, 0x80, 9⟩,
   ⟨0x98, 0x0, 0x0, 0x0, 0x0, 0x0, 0x0, 0x80, 9⟩]

/-- Rows of the register table of CHN (R286). -/
def rowsCHN : List RegRow :=
  [⟨0x40, 0x28000, 0x0, 0xFFFF1F, 0x0, 0x0, 0x0, 0, 1⟩,
   ⟨0x44, 0x0, 0x0, 0x0, 0x0, 0x0, 0x0, 0, 1⟩,
   ⟨0x48, 0x190, 0x0, 0xFFFF, 0x0, 0x0, 0x0, 0, 1⟩,
   ⟨0x4C, 0xFA, 0x0, 0x3FF, 0x0, 0x0, 0x0, 0, 1⟩,
   ⟨0x50, 0x258, 0x0, 0x7FFF, 0x0, 0x0, 0x0, 0, 1⟩,
   ⟨0x54, 0x408, 0x0, 0xFFF, 0x0, 0x0, 0x0, 0, 1⟩,
   ⟨0x58, 0x0, 0x0, 0xFFFF, 0x0, 0x0, 0x0, 0, 1⟩,
   ⟨0x5C, 0x0, 0x0, 0x0, 0x0, 0x0, 0x3, 0, 1⟩,
   ⟨0x60, 0x0, 0x0, 0x0, 0x0, 0x0, 0x0, 0, 1⟩,
   ⟨0x64, 0x0, 0x0, 0x0, 0x0, 0x0, 0x0, 0, 1⟩,
   ⟨0x68, 0x0, 0x0, 0x0, 0x0, 0x0, 0x0, 0, 1⟩,
   ⟨0x6C, 0x0, 0x0, 0x0, 0x0, 0x0, 0x0, 0, 1⟩,
   ⟨0x70, 0x0, 0x0, 0x0, 0x0, 0x0, 0x0, 0, 1⟩,
   ⟨0x74, 0x0, 0x0, 0x0, 0x0, 0x0, 0x0, 0, 1⟩,
   ⟨0x78, 0x0, 0x0, 0x0, 0x0, 0x0, 0x0, 0, 1⟩,
   ⟨0x7C, 0x0, 0x0, 0x0, 0x0, 0x0, 0x0, 0, 1⟩] ++
  [⟨0x80, 0x0, 0x0, 0x0, 0x0, 0x0, 0x0, 0, 1⟩,
   ⟨0x84, 0x0, 0x0, 0x0, 0x0, 0x0, 0x0, 0, 1⟩,
   ⟨0x88, 0x0, 0xFF, 0x0, 0x0, 0x0, 0x0, 0, 1⟩,
   ⟨0x8C, 0x0, 0x0, 0x0, 0x0, 0x0, 0x0, 0x88, 256⟩,
   ⟨0x90, 0x0, 0xFF, 0x0, 0x0, 0x0, 0x0, 0, 1⟩,
   ⟨0x94, 0x0, 0x0, 0xFFFF00FF, 0x0, 0x0, 0x0, 0x90, 256⟩,
   ⟨0x98, 0x0, 0x7, 0x0, 0x0, 0x0, 0x0, 0, 1⟩,
   ⟨0x9C, 0x0, 0x0, 0x8FFFFFFF, 0x0, 0x0, 0x0, 0x98, 8⟩,
   ⟨0xA0, 0x0, 0x1F, 0x0, 0x0, 0x0, 0x0, 0, 1⟩,
   ⟨0xA4, 0x0, 0x0, 0x87FFFFFF, 0x0, 0x0, 0x0, 0xA0, 32⟩,
   ⟨0xA8, 0x0, 0x0, 0x0, 0x0, 0x0, 0x0, 0xA0, 32⟩,
   ⟨0xB0, 0x0, 0xFF, 0x0, 0x0, 0x0, 0x0, 0, 1⟩,
   ⟨0xB4, 0x0, 0xFFFFFFFF, 0x0, 0x0, 0x0, 0x0, 0, 1⟩,
   ⟨0xB8, 0x0, 0xFFFFFFFF, 0x0, 0x0, 0x0, 0x0, 0, 1⟩,
   ⟨0xBC, 0x0, 0x0, 0x0, 0x0, 0x0, 0x1, 0, 1⟩,
   ⟨0xC0, 0x0, 0x0, 0x0, 0x0, 0x0, 0x0, 0, 1⟩] ++
  [⟨0xC4, 0x0, 0x7, 0x0, 0x0, 0x0, 0x0, 0, 1⟩,
   ⟨0xC8, 0x0, 0x0, 0x0, 0x0, 0x0, 0x0, 0xC4, 8⟩,
   ⟨0xCC, 0x0, 0x0, 0x0, 0x0, 0x0, 0x0, 0xC4, 8⟩,
   ⟨0xD0, 0x0, 0x0, 0x0, 0x0, 0x0, 0x0, 0xC4, 8⟩,
   ⟨0xD4, 0x0, 0x0, 0x8007FFFF, 0x0, 0x0, 0x0, 0, 1⟩,
   ⟨0xD8, 0x0, 0x0, 0x8007FFFF, 0x0, 0x0, 0x0, 0, 1⟩,
   ⟨0xDC, 0x0, 0x0, 0x8007FFFF, 0x0, 0x0, 0x0, 0, 1⟩]

/-- Rows of the register table of ETH (R307). -/
def rowsETH : List RegRow :=
  [⟨0x40, 0x1, 0x0, 0x3, 0x0, 0x0, 0x0, 0, 1⟩,
   ⟨0x44, 0x0, 0x0, 0x0, 0x0, 0x0, 0x0, 0, 1⟩,
   ⟨0x48, 0x0, 0x0, 0x0, 0x0, 0x0, 0x0, 0, 1⟩,
   ⟨0x4C, 0x0, 0x0, 0x0, 0x0, 0x0, 0x0, 0, 1⟩,
   ⟨0x50, 0xDA, 0xFFFFFFFF, 0x0, 0x0, 0x0, 0x0, 0, 1⟩,
   ⟨0x54, 0x5C, 0xFFFFFFFF, 0x0, 0x0, 0x0, 0x0, 0, 1⟩,
   ⟨0x58, 0x126, 0xFFFFFFFF, 0x0, 0x0, 0x0, 0x0, 0, 1⟩,
   ⟨0x5C, 0x7E, 0xFFFFFFFF, 0x0, 0x0, 0x0, 0x0, 0, 1⟩,
   ⟨0x60, 0x0, 0x0, 0x0, 0x0, 0x0, 0x0, 0, 1⟩,
   ⟨0x64, 0x0, 0x0, 0x0, 0x0, 0x0, 0x0, 0, 1⟩,
   ⟨0x68, 0x0, 0x0, 0x0, 0x0, 0x0, 0x0, 0, 1⟩,
   ⟨0x6C, 0x0, 0x0, 0x0, 0x0, 0x0, 0x0, 0, 1⟩]

/-- Rows of the register table of PRP (R308). -/
def rowsPRP : List RegRow :=
  [⟨0x40, 0x3, 0x0, 0x3, 0x0, 0x0, 0x0, 0, 1⟩,
   ⟨0x44, 0x0, 0x0, 0xFFFFFFFF, 0x0, 0x0, 0x0, 0, 1⟩,
   ⟨0x48, 0xFFFFFF00, 0x0, 0xFFFFFFFF, 0x0, 0x0, 0x0, 0, 1⟩,
   ⟨0x4C, 0x0, 0x0, 0xFFFFFFFF, 0x0, 0x0, 0x0, 0, 1⟩,
   ⟨0x50, 0x0, 0x0, 0x0, 0x0, 0x0, 0x0, 0, 1⟩,
   ⟨0x54, 0x0, 0x0, 0x0, 0x0, 0x0, 0x0, 0, 1⟩,
   ⟨0x58, 0x0, 0x0, 0x0, 0x0, 0x0, 0x0, 0, 1⟩,
   ⟨0x5C, 0x0, 0x0, 0x0, 0x0, 0x0, 0x0, 0, 1⟩,
   ⟨0x60, 0x0, 0x0, 0x0, 0x0, 0x0, 0x0, 0, 1⟩,
   ⟨0x64, 0x0, 0x7, 0x0, 0x0, 0x0, 0x0, 0, 1⟩,
   ⟨0x68, 0x0, 0x0, 0xFFFFFFFF, 0x0, 0x0, 0x0, 0x64, 8⟩,
   ⟨0x6C, 0x0, 0x0, 0x8000FFFF, 0x0, 0x0, 0x0, 0x64, 8⟩,
   ⟨0x70, 0x0, 0x1F, 0x0, 0x0, 0x0, 0x0, 0, 1⟩,
   ⟨0x74, 0x0, 0x0, 0xFFFFFFFF, 0x0, 0x0, 0x0, 0x70, 32⟩,
   ⟨0x78, 0x0, 0x0, 0x7FFFF, 0x0, 0x0, 0x0, 0x70, 32⟩,
   ⟨0x7C, 0x0, 0x0, 0x0, 0x0, 0x0, 0x0, 0x70, 32⟩] ++
  [⟨0x80, 0x0, 0x0, 0x0, 0x0, 0x0, 0x0, 0, 1⟩,
   ⟨0x84, 0x0, 0x0, 0x0, 0x0, 0x0, 0x0, 0, 1⟩]

/-- Rows of the register table of PTP (R306). -/
def rowsPTP : List RegRow :=
  [⟨0x40, 0x80800000, 0x0, 0xFFFF0FFF, 0x0, 0x0, 0x0, 0, 1⟩,
   ⟨0x44, 0x0, 0x0, 0x0, 0x0, 0x0, 0x0, 0, 1⟩,
   ⟨0x48, 0x0, 0x0, 0x0, 0x0, 0x0, 0x0, 0, 1⟩,
   ⟨0x4C, 0x0, 0x0, 0x0, 0x0, 0x0, 0x0, 0, 1⟩,
   ⟨0x50, 0x0, 0x0, 0x0, 0x0, 0x0, 0x0, 0, 1⟩,
   ⟨0x54, 0x0, 0x0, 0x0, 0x0, 0x0, 0x0, 0, 1⟩,
   ⟨0x58, 0x0, 0x3, 0x0, 0x0, 0x0, 0x0, 0, 1⟩,
   ⟨0x5C, 0x1D1, 0x0, 0xFFF1, 0x0, 0x0, 0x0, 0x58, 4⟩,
   ⟨0x60, 0x0, 0x0, 0x0, 0x0, 0x0, 0x0, 0x58, 4⟩,
   ⟨0x64, 0x0, 0x0, 0x0, 0x0, 0x0, 0x0, 0x58, 4⟩,
   ⟨0x68, 0x0, 0x0, 0x0, 0x0, 0x0, 0x0, 0x58, 4⟩,
   ⟨0x6C, 0x0, 0x0, 0x0, 0x0, 0x0, 0x0, 0, 1⟩]

/-- Rows of the register table of CAN (R328). -/
def rowsCAN : List RegRow :=
  [⟨0x40, 0x1, 0x18, 0x23, 0x0, 0x0, 0x4, 0, 1⟩,
   ⟨0x44, 0x0, 0x0, 0x0, 0x0, 0x0, 0x0, 0, 1⟩,
   ⟨0x48, 0x0, 0x0, 0x0, 0x0, 0x0, 0x0, 0, 1⟩,
   ⟨0x4C, 0x3E0F0F00, 0x0, 0xFF7F7F1F, 0x0, 0x0, 0x0, 0, 1⟩,
   ⟨0x50, 0x6010100, 0x0, 0x1F0F0F1F, 0x0, 0x0, 0x0, 0, 1⟩,
   ⟨0x54, 0x801, 0x0, 0x7F01, 0x0, 0x0, 0x0, 0, 1⟩,
   ⟨0x58, 0x0, 0x3FFFFFFF, 0x0, 0x0, 0x0, 0x0, 0, 1⟩,
   ⟨0x5C, 0x1FFFFFFF, 0x1FFFFFFF, 0x0, 0x0, 0x0, 0x0, 0, 1⟩,
   ⟨0x60, 0x0, 0xFFFFFFFF, 0x0, 0x0, 0x0, 0x0, 0, 1⟩,
   ⟨0x64, 0x0, 0xFFFFFFFF, 0x0, 0x0, 0x0, 0x0, 0, 1⟩,
   ⟨0x68, 0x0, 0xFFFFFFFF, 0x0, 0x0, 0x0, 0x0, 0, 1⟩,
   ⟨0x6C, 0x0, 0xFFFFFFFF, 0x0, 0x0, 0x0, 0x0, 0, 1⟩,
   ⟨0x70, 0x0, 0x3F, 0x0, 0x0, 0x0, 0x0, 0, 1⟩,
   ⟨0x74, 0xF00, 0x0, 0x3FF7F, 0x0, 0x0, 0x0, 0x70, 64⟩,
   ⟨0x78, 0x0, 0x0, 0x1FFFFFFF, 0x0, 0x0, 0x0, 0x70, 64⟩,
   ⟨0x7C, 0xFFFFFFFF, 0x0, 0xFFFFFFFF, 0x0, 0x0, 0x0, 0x70, 64⟩] ++
  [⟨0x80, 0x0, 0x0, 0x0, 0x0, 0x0, 0x0, 0x70, 64⟩,
   ⟨0x84, 0x0, 0x7F, 0x0, 0x0, 0x0, 0x0, 0, 1⟩,
   ⟨0x88, 0x0, 0x0, 0x3FFFFFFF, 0x0, 0x0, 0x0, 0x84, 128⟩,
   ⟨0x8C, 0x1FFFFFFF, 0x0, 0x1FFFFFFF, 0x0, 0x0, 0x0, 0x84, 128⟩,
   ⟨0x90, 0x0, 0x0, 0x7FF, 0x0, 0x0, 0x0, 0x84, 128⟩,
   ⟨0x94, 0x0, 0x0, 0x0, 0x0, 0x0, 0x0, 0x84, 128⟩,
   ⟨0x98, 0x0, 0x0, 0x0, 0x0, 0x0, 0x0, 0, 1⟩,
   ⟨0x9C, 0x0, 0x0, 0x0, 0x0, 0x0, 0x0, 0, 1⟩,
   ⟨0xA0, 0x0, 0x0, 0x0, 0x0, 0x0, 0x0, 0, 1⟩,
   ⟨0xA4, 0x0, 0x0, 0x0, 0x0, 0x0, 0x0, 0, 1⟩,
   ⟨0xA8, 0x0, 0x0, 0x0, 0x0, 0x0, 0x0, 0, 1⟩]

/-- Rows of the register table of FLT (R82). -/
def rowsFLT : List RegRow :=
  [⟨0x40, 0x2710, 0x0, 0xFFFFF, 0x0, 0x0, 0x0, 0, 1⟩,
   ⟨0x44, 0x2, 0x0, 0xFFFF, 0x0, 0x0, 0x0, 0, 1⟩,
   ⟨0x48, 0x0, 0x0, 0x0, 0x0, 0x0, 0x0, 0, 1⟩,
   ⟨0x4C, 0x0, 0x0, 0x0, 0x0, 0x0, 0x0, 0, 1⟩,
   ⟨0x50, 0x0, 0xFF, 0x0, 0x0, 0x0, 0x0, 0, 1⟩,
   ⟨0x54, 0x0, 0x0, 0xFFFFFF07, 0x0, 0x0, 0x0, 0x50, 256⟩,
   ⟨0x58, 0x0, 0x0, 0xFFFFFF00, 0x0, 0x0, 0x0, 0x50, 256⟩,
   ⟨0x5C, 0x2710, 0x0, 0xFFFFFF, 0x0, 0x0, 0x0, 0x50, 256⟩,
   ⟨0x60, 0x0, 0x0, 0xFFFFF, 0x0, 0x0, 0x0, 0x50, 256⟩,
   ⟨0x64, 0x210, 0x0, 0xFFF, 0x0, 0x0, 0x0, 0x50, 256⟩,
   ⟨0x68, 0x0, 0x0, 0xFFFFFFFF, 0x0, 0x0, 0x0, 0x50, 256⟩,
   ⟨0x6C, 0x186A0, 0x0, 0xFFFFFF, 0x0, 0x0, 0x0, 0x50, 256⟩,
   ⟨0x70, 0x0, 0x0, 0x0, 0x0, 0x0, 0x0, 0x50, 256⟩,
   ⟨0x74, 0x0, 0x0, 0x0, 0x0, 0x0, 0x0, 0x50, 256⟩,
   ⟨0x78, 0x2, 0x0, 0xFFFFF, 0x0, 0x0, 0x0, 0x50, 256⟩,
   ⟨0x80, 0x0, 0xFFFFFFFF, 0x0, 0x0, 0x0, 0x0, 0, 1⟩] ++
  [⟨0x84, 0x0, 0xFFFFFFFF, 0x0, 0x0, 0x0, 0x0, 0, 1⟩,
   ⟨0x88, 0x0, 0xFFFFFFFF, 0x0, 0x0, 0x0, 0x0, 0, 1⟩,
   ⟨0x8C, 0x0, 0xFFFFFFFF, 0x0, 0x0, 0x0, 0x0, 0, 1⟩,
   ⟨0x90, 0x0, 0xFFFFFFFF, 0x0, 0x0, 0x0, 0x0, 0, 1⟩,
   ⟨0x94, 0x0, 0xFFFFFFFF, 0x0, 0x0, 0x0, 0x0, 0, 1⟩,
   ⟨0x98, 0x0, 0xFFFFFFFF, 0x0, 0x0, 0x0, 0x0, 0, 1⟩,
   ⟨0x9C, 0x0, 0xFFFFFFFF, 0x0, 0x0, 0x0, 0x0, 0, 1⟩,
   ⟨0xA0, 0x0, 0x0, 0x3FF, 0x0, 0x0, 0x0, 0, 1⟩,
   ⟨0xA4, 0x0, 0x0, 0xFFFFFFFF, 0x0, 0x0, 0x0, 0, 1⟩,
   ⟨0xA8, 0x2888, 0x0, 0xFF, 0x0, 0x0, 0x0, 0, 1⟩,
   ⟨0xAC, 0x0, 0x0, 0x0, 0x0, 0x0, 0x0, 0, 1⟩,
   ⟨0xB0, 0x0, 0x0, 0x0, 0x0, 0x0, 0x0, 0, 1⟩,
   ⟨0xB4, 0x0, 0x0, 0x0, 0x0, 0x0, 0x0, 0, 1⟩,
   ⟨0xB8, 0x0, 0x0, 0x0, 0x0, 0x0, 0x0, 0, 1⟩]

/-- Rows of the register table of EST (R105). -/
def rowsEST : List RegRow :=
  [⟨0x40, 0x0, 0x2, 0x0, 0x0, 0x0, 0x1, 0, 1⟩,
   ⟨0x44, 0x0, 0x0, 0x0, 0x0, 0x0, 0x0, 0, 1⟩,
   ⟨0x48, 0x0, 0x0, 0x0, 0x0, 0x0, 0x0, 0, 1⟩,
   ⟨0x4C, 0x0, 0x0, 0x8007FFFF, 0x0, 0x0, 0x0, 0, 1⟩,
   ⟨0x50, 0xEA60, 0x0, 0xFFFFF, 0x0, 0x0, 0x0, 0, 1⟩,
   ⟨0x54, 0x0, 0x0, 0xFFFF, 0x0, 0x0, 0x0, 0, 1⟩,
   ⟨0x58, 0x400, 0x0, 0xFFFFFFFF, 0x0, 0x0, 0x0, 0, 1⟩,
   ⟨0x5C, 0xB60B61, 0x0, 0xFFFFFFFF, 0x0, 0x0, 0x0, 0, 1⟩,
   ⟨0x60, 0x300, 0x0, 0xFFFF, 0x0, 0x0, 0x0, 0, 1⟩,
   ⟨0x64, 0x190, 0x0, 0xFFFF, 0x0, 0x0, 0x0, 0, 1⟩,
   ⟨0x68, 0x1, 0x0, 0xFFFF, 0x0, 0x0, 0x0, 0, 1⟩,
   ⟨0x6C, 0x0, 0x1F, 0x0, 0x0, 0x0, 0x0, 0, 1⟩,
   ⟨0x70, 0x0, 0x0, 0xFFFF07FF, 0x0, 0x0, 0x0, 0x6C, 18⟩,
   ⟨0x74, 0x0, 0x0, 0xFFFFFF, 0x0, 0x0, 0x0, 0x6C, 18⟩,
   ⟨0x78, 0x0, 0x0, 0xFFFFFFFF, 0x0, 0x0, 0x0, 0x6C, 18⟩,
   ⟨0x7C, 0x0, 0x0, 0xFFFFFFFF, 0x0, 0x0, 0x0, 0x6C, 18⟩] ++
  [⟨0x80, 0x0, 0x0, 0xFFFFFFFF, 0x0, 0x0, 0x0, 0x6C, 18⟩,
   ⟨0x84, 0x0, 0x0, 0xFFFFFFFF, 0x0, 0x0, 0x0, 0x6C, 18⟩,
   ⟨0x88, 0x10000, 0x0, 0xFFFFFFFF, 0x0, 0x0, 0x0, 0x6C, 18⟩,
   ⟨0x8C, 0x40500, 0x0, 0xFFFFFF, 0x0, 0x0, 0x0, 0x6C, 18⟩,
   ⟨0x90, 0x0, 0x0, 0x0, 0x0, 0x0, 0x3, 0x6C, 18⟩,
   ⟨0x94, 0x0, 0x0, 0x0, 0x0, 0x0, 0x0, 0x6C, 18⟩,
   ⟨0x98, 0x0, 0x0, 0x0, 0x0, 0x0, 0x0, 0x6C, 18⟩,
   ⟨0x9C, 0x0, 0x0, 0x0, 0x0, 0x0, 0x0, 0x6C, 18⟩,
   ⟨0xA0, 0x0, 0x0, 0x0, 0x0, 0x0, 0x0, 0x6C, 18⟩,
   ⟨0xA4, 0x0, 0x0, 0x0, 0x0, 0x0, 0x0, 0x6C, 18⟩,
   ⟨0xA8, 0x0, 0x0, 0x0, 0x0, 0x0, 0x0, 0x6C, 18⟩,
   ⟨0xAC, 0x0, 0x0, 0x0, 0x0, 0x0, 0x0, 0, 1⟩,
   ⟨0xB0, 0x0, 0x0, 0x0, 0x0, 0x0, 0x0, 0, 1⟩]

/-- Rows of the register table of FUS0 (R133). -/
def rowsFUS0 : List RegRow :=
  [⟨0x40, 0x0, 0x3, 0x0, 0x0, 0x0, 0x0, 0, 1⟩,
   ⟨0x44, 0x75BC, 0x0, 0xFFFF, 0x0, 0x0, 0x0, 0, 1⟩,
   ⟨0x48, 0x64, 0x0, 0x7FFF, 0x0, 0x0, 0x0, 0, 1⟩,
   ⟨0x4C, 0x0, 0x0, 0x8007FFFF, 0x0, 0x0, 0x0, 0, 1⟩,
   ⟨0x50, 0x7F81, 0x0, 0xFFFF, 0x0, 0x0, 0x0, 0, 1⟩,
   ⟨0x54, 0x0, 0x3F, 0x0, 0x0, 0x0, 0x0, 0, 1⟩,
   ⟨0x58, 0x0, 0x7, 0x0, 0x0, 0x0, 0x0, 0, 1⟩,
   ⟨0x5C, 0x800, 0x0, 0xFFFF3F, 0x0, 0x0, 0x0, 0x58, 6⟩,
   ⟨0x60, 0x0, 0x0, 0xFFFFFFFF, 0x0, 0x0, 0x0, 0x58, 6⟩,
   ⟨0x64, 0x0, 0x0, 0xFFFFFFFF, 0x0, 0x0, 0x0, 0x58, 6⟩,
   ⟨0x68, 0x0, 0x0, 0xFFFFFFFF, 0x0, 0x0, 0x0, 0x58, 6⟩,
   ⟨0x6C, 0x0, 0x0, 0xFFFFFFFF, 0x0, 0x0, 0x0, 0x58, 6⟩,
   ⟨0x70, 0x0, 0x0, 0xFFFFFFFF, 0x0, 0x0, 0x0, 0x58, 6⟩,
   ⟨0x74, 0x0, 0x0, 0xFFFFFFFF, 0x0, 0x0, 0x0, 0x58, 6⟩,
   ⟨0x78, 0x0, 0x0, 0xFFFFFFFF, 0x0, 0x0, 0x0, 0x58, 6⟩,
   ⟨0x7C, 0x0, 0x0, 0x0, 0x0, 0x0, 0x0, 0x58, 6⟩] ++
  [⟨0x80, 0x0, 0x0, 0x0, 0x0, 0x0, 0x0, 0x58, 6⟩,
   ⟨0x84, 0x0, 0x0, 0x0, 0x0, 0x0, 0x0, 0, 1⟩,
   ⟨0x88, 0x0, 0x0, 0x0, 0x0, 0x0, 0x0, 0, 1⟩,
   ⟨0x8C, 0x0, 0x0, 0x0, 0x0, 0x0, 0x0, 0, 1⟩,
   ⟨0x90, 0x0, 0x0, 0x0, 0x0, 0x0, 0x0, 0, 1⟩,
   ⟨0x94, 0x0, 0x0, 0x0, 0x0, 0x0, 0x0, 0, 1⟩,
   ⟨0x98, 0x0, 0x0, 0x0, 0x0, 0x0, 0x0, 0, 1⟩,
   ⟨0x9C, 0x0, 0x0, 0x0, 0x0, 0x0, 0x0, 0, 1⟩,
   ⟨0xA0, 0x0, 0x0, 0x0, 0x0, 0x0, 0x0, 0, 1⟩,
   ⟨0xA4, 0x0, 0x0, 0x0, 0x0, 0x0, 0x0, 0, 1⟩,
   ⟨0xA8, 0x0, 0x0, 0x0, 0x0, 0x0, 0x0, 0, 1⟩,
   ⟨0xAC, 0xFFFFF, 0x0, 0x0, 0x0, 0x0, 0x0, 0, 1⟩,
   ⟨0xB0, 0x0, 0x0, 0x0, 0x0, 0x0, 0x0, 0, 1⟩]

/-- Rows of the register table of FUS1 (R134). -/
def rowsFUS1 : List RegRow :=
  [⟨0x40, 0x0, 0x1F, 0x0, 0x0, 0x0, 0x0, 0, 1⟩,
   ⟨0x44, 0x0, 0x0, 0x0, 0x0, 0x0, 0x1, 0, 1⟩,
   ⟨0x48, 0x0, 0xFFFFFFFF, 0x0, 0x0, 0x0, 0x0, 0, 1⟩,
   ⟨0x4C, 0x0, 0xFFFFFFFF, 0x0, 0x0, 0x0, 0x0, 0, 1⟩,
   ⟨0x50, 0x0, 0xFFFFFFFF, 0x0, 0x0, 0x0, 0x0, 0, 1⟩,
   ⟨0x54, 0xE6800808, 0x0, 0xFFFF3F3F, 0x0, 0x0, 0x0, 0, 1⟩,
   ⟨0x58, 0xA, 0x0, 0xFF, 0x0, 0x0, 0x0, 0, 1⟩,
   ⟨0x5C, 0x0, 0x0, 0x0, 0x0, 0x0, 0x0, 0, 1⟩,
   ⟨0x60, 0x0, 0x0, 0x0, 0x0, 0x0, 0x0, 0, 1⟩,
   ⟨0x64, 0x0, 0x0, 0x0, 0x0, 0x0, 0x0, 0, 1⟩,
   ⟨0x68, 0x44040, 0x0, 0xFFFFF1, 0x0, 0x0, 0x0, 0, 1⟩,
   ⟨0x6C, 0x14, 0x0, 0xFF, 0x0, 0x0, 0x0, 0, 1⟩,
   ⟨0x70, 0xA53, 0x0, 0xFFFF, 0x0, 0x0, 0x0, 0, 1⟩,
   ⟨0x74, 0xCCD2000, 0x0, 0xFFFFFFFF, 0x0, 0x0, 0x0, 0, 1⟩,
   ⟨0x78, 0x40400, 0x0, 0xFFFFF, 0x0, 0x0, 0x0, 0, 1⟩,
   ⟨0x7C, 0xFFFF, 0x0, 0xFFFFF, 0x0, 0x0, 0x0, 0, 1⟩] ++
  [⟨0x80, 0x0, 0x0, 0x0, 0x0, 0x0, 0x0, 0, 1⟩,
   ⟨0x84, 0x0, 0x0, 0x0, 0x0, 0x0, 0x0, 0, 1⟩,
   ⟨0x88, 0x0, 0x0, 0x0, 0x0, 0x0, 0x0, 0, 1⟩,
   ⟨0x8C, 0x1, 0x0, 0x0, 0x0, 0x0, 0x0, 0, 1⟩]

/-- Rows of the register table of GNS (R156). -/
def rowsGNS : List RegRow :=
  [⟨0x40, 0x0, 0x7, 0x0, 0x0, 0x0, 0x0, 0, 1⟩,
   ⟨0x44, 0x0, 0x0, 0x0, 0x0, 0x0, 0x0, 0, 1⟩,
   ⟨0x48, 0x0, 0x0, 0x0, 0x0, 0x0, 0x0, 0, 1⟩,
   ⟨0x4C, 0x0, 0x0, 0x0, 0x0, 0x0, 0x0, 0, 1⟩,
   ⟨0x50, 0x0, 0x1F, 0x0, 0x0, 0x0, 0x0, 0, 1⟩,
   ⟨0x54, 0xF000, 0x0, 0x3FFFF, 0x0, 0x0, 0x0, 0x50, 24⟩,
   ⟨0x58, 0x0, 0x0, 0x0, 0x0, 0x0, 0x0, 0x50, 24⟩,
   ⟨0x5C, 0x1999999A, 0x0, 0x0, 0x0, 0x0, 0x0, 0x50, 24⟩,
   ⟨0x60, 0x8888889, 0x0, 0x0, 0x0, 0x0, 0x0, 0x50, 24⟩,
   ⟨0x64, 0x0, 0x0, 0x0, 0x0, 0x0, 0x0, 0x50, 24⟩,
   ⟨0x68, 0x0, 0x0, 0x0, 0x0, 0x0, 0x0, 0x50, 24⟩,
   ⟨0x6C, 0x0, 0x0, 0x0, 0x0, 0x0, 0x0, 0x50, 24⟩]

/-- Rows of the register table of GNSC (R157). -/
def rowsGNSC : List RegRow :=
  [⟨0x40, 0x300, 0xD, 0x302, 0x0, 0x0, 0x0, 0, 1⟩,
   ⟨0x44, 0x0, 0x0, 0x0, 0x0, 0x0, 0x0, 0, 1⟩,
   ⟨0x48, 0x0, 0x0, 0xFFFFFFFF, 0x0, 0x0, 0x0, 0, 1⟩,
   ⟨0x4C, 0x0, 0x0, 0xFFFFFFFF, 0x0, 0x0, 0x0, 0, 1⟩,
   ⟨0x50, 0x0, 0x0, 0xFFFFFFFF, 0x0, 0x0, 0x0, 0, 1⟩,
   ⟨0x54, 0x1E0A, 0x0, 0xFFFF, 0x0, 0x0, 0x0, 0, 1⟩,
   ⟨0x58, 0x28143C, 0x0, 0xFFFFFF, 0x0, 0x0, 0x0, 0, 1⟩,
   ⟨0x5C, 0x0, 0x0, 0xFFFFFFFF, 0x0, 0x0, 0x0, 0, 1⟩,
   ⟨0x60, 0x630001E, 0x0, 0xFFFFFFF, 0x0, 0x0, 0x0, 0, 1⟩,
   ⟨0x64, 0x0, 0x0, 0x0, 0x0, 0x0, 0x0, 0, 1⟩,
   ⟨0x68, 0x0, 0x0, 0x0, 0x0, 0x0, 0x0, 0, 1⟩,
   ⟨0x6C, 0xA0A, 0x0, 0xFFFF, 0x0, 0x0, 0x0, 0, 1⟩,
   ⟨0x70, 0xA03E8, 0x0, 0xFFFFFFFF, 0x0, 0x0, 0x0, 0, 1⟩,
   ⟨0x74, 0x0, 0x0, 0x0, 0x0, 0x0, 0x0, 0, 1⟩,
   ⟨0x78, 0x0, 0x0, 0x0, 0x0, 0x0, 0x0, 0, 1⟩,
   ⟨0x7C, 0x191, 0xFFD, 0x0, 0x0, 0x0, 0x0, 0, 1⟩] ++
  [⟨0x80, 0x0, 0x0, 0x0, 0x0, 0x0, 0x7, 0, 1⟩,
   ⟨0x84, 0x8A, 0x7F01FF, 0x0, 0x0, 0x0, 0x0, 0, 1⟩,
   ⟨0x88, 0x0, 0x0, 0x0, 0x0, 0x0, 0x0, 0, 1⟩,
   ⟨0x8C, 0x0, 0x0, 0x0, 0x0, 0x0, 0x0, 0, 1⟩,
   ⟨0x90, 0x0, 0x0, 0x0, 0x0, 0x0, 0x0, 0, 1⟩,
   ⟨0x94, 0x0, 0x0, 0x0, 0x0, 0x0, 0x0, 0, 1⟩,
   ⟨0x98, 0x0, 0x0, 0x0, 0x0, 0x0, 0x0, 0, 1⟩,
   ⟨0x9C, 0x0, 0x0, 0x0, 0x0, 0x0, 0x0, 0, 1⟩,
   ⟨0xA0, 0x0, 0x0, 0x0, 0x0, 0x0, 0x0, 0, 1⟩,
   ⟨0xA4, 0x0, 0x0, 0x0, 0x0, 0x0, 0x0, 0, 1⟩,
   ⟨0xA8, 0x0, 0x0, 0x0, 0x0, 0x0, 0x0, 0, 1⟩]

/-- Rows of the register table of CTL (R191). -/
def rowsCTL : List RegRow :=
  [⟨0x40, 0x0, 0x0, 0x3FF, 0x0, 0x0, 0x0, 0, 1⟩,
   ⟨0x44, 0x0, 0x0, 0xFFFFFFF, 0x0, 0x0, 0x0, 0, 1⟩,
   ⟨0x48, 0x0, 0x0, 0xFFFFFFF, 0x0, 0x0, 0x0, 0, 1⟩,
   ⟨0x4C, 0x0, 0x0, 0xFFFFFFF, 0x0, 0x0, 0x0, 0, 1⟩,
   ⟨0x50, 0x0, 0x0, 0xFFFFFFF, 0x0, 0x0, 0x0, 0, 1⟩,
   ⟨0x54, 0x0, 0x0, 0xFFFFFFF, 0x0, 0x0, 0x0, 0, 1⟩,
   ⟨0x58, 0x0, 0x0, 0xFFFFFFF, 0x0, 0x0, 0x0, 0, 1⟩,
   ⟨0x5C, 0x0, 0x0, 0x8000FFFF, 0x0, 0x0, 0x0, 0, 1⟩,
   ⟨0x60, 0x0, 0x1FF, 0x0, 0x0, 0x0, 0x0, 0, 1⟩,
   ⟨0x64, 0x0, 0x7F, 0x0, 0x0, 0x0, 0x0, 0x60, 512⟩,
   ⟨0x68, 0x0, 0xFFFFFFFF, 0x0, 0x0, 0x0, 0x0, 0, 1⟩,
   ⟨0x6C, 0x0, 0x0, 0x0, 0x0, 0x0, 0x3, 0, 1⟩,
   ⟨0x70, 0x0, 0x0, 0x0, 0x0, 0x0, 0x0, 0x60, 512⟩,
   ⟨0x74, 0x0, 0x0, 0x0, 0x0, 0x0, 0x0, 0x60, 512⟩,
   ⟨0x78, 0x0, 0x0, 0x0, 0x0, 0x0, 0x0, 0, 1⟩,
   ⟨0x7C, 0x0, 0x0, 0x0, 0x0, 0x0, 0x0, 0, 1⟩] ++
  [⟨0x80, 0x0, 0x0, 0x0, 0x0, 0x0, 0x0, 0, 1⟩,
   ⟨0x84, 0x0, 0x0, 0x0, 0x0, 0x0, 0x0, 0, 1⟩]

/-- Rows of the register table of SOL0 (R231). -/
def rowsSOL0 : List RegRow :=
  [⟨0x40, 0x0, 0x0, 0x3, 0x0, 0x0, 0x0, 0, 1⟩,
   ⟨0x44, 0x0, 0x0, 0x8007FFFF, 0x0, 0x0, 0x0, 0, 1⟩,
   ⟨0x48, 0x0, 0x0, 0xFFFF, 0x0, 0x0, 0x0, 0, 1⟩,
   ⟨0x4C, 0x400, 0x0, 0xFFFFFFFF, 0x0, 0x0, 0x0, 0, 1⟩,
   ⟨0x50, 0x4000010, 0x0, 0xF0FFFFF, 0x0, 0x0, 0x0, 0, 1⟩,
   ⟨0x54, 0x400, 0x0, 0xFFFFFFFF, 0x0, 0x0, 0x0, 0, 1⟩,
   ⟨0x58, 0x14, 0x0, 0xFFFF, 0x0, 0x0, 0x0, 0, 1⟩,
   ⟨0x5C, 0x0, 0x17FFF, 0x0, 0x0, 0x0, 0x0, 0, 1⟩,
   ⟨0x60, 0x0, 0xFFFFFFFF, 0x0, 0x0, 0x0, 0x0, 0, 1⟩,
   ⟨0x64, 0x0, 0x0, 0x0, 0x0, 0x0, 0x1, 0, 1⟩,
   ⟨0x68, 0x0, 0x0, 0x0, 0x0, 0x0, 0x0, 0, 1⟩,
   ⟨0x6C, 0x0, 0x0, 0x0, 0x0, 0x0, 0x1, 0, 1⟩,
   ⟨0x70, 0x0, 0x0, 0x0, 0x0, 0x0, 0x0, 0, 1⟩,
   ⟨0x74, 0x0, 0x0, 0x0, 0x0, 0x0, 0x0, 0, 1⟩,
   ⟨0x78, 0x0, 0x0, 0x0, 0x0, 0x0, 0x0, 0, 1⟩,
   ⟨0x7C, 0x0, 0x0, 0x0, 0x0, 0x0, 0x0, 0, 1⟩] ++
  [⟨0x80, 0x0, 0x0, 0x0, 0x0, 0x0, 0x0, 0, 1⟩,
   ⟨0x84, 0x0, 0x0, 0x0, 0x0, 0x0, 0x0, 0, 1⟩,
   ⟨0x88, 0x0, 0x0, 0x0, 0x0, 0x0, 0x0, 0, 1⟩,
   ⟨0x8C, 0x0, 0x0, 0x0, 0x0, 0x0, 0x0, 0, 1⟩,
   ⟨0x90, 0x0, 0x0, 0x0, 0x0, 0x0, 0x0, 0, 1⟩,
   ⟨0x94, 0x0, 0x0, 0x0, 0x0, 0x0, 0x0, 0, 1⟩]

/-- Rows of the register table of SOL1 (R232). -/
def rowsSOL1 : List RegRow :=
  [⟨0x40, 0x0, 0x7FFFF, 0x0, 0x0, 0x0, 0x0, 0, 1⟩,
   ⟨0x44, 0x0, 0xFFFFFFFF, 0x0, 0x0, 0x0, 0x0, 0, 1⟩,
   ⟨0x48, 0x0, 0x0, 0x0, 0x0, 0x0, 0x0, 0, 1⟩,
   ⟨0x4C, 0x0, 0x0, 0x0, 0x0, 0x0, 0x0, 0, 1⟩,
   ⟨0x50, 0x0, 0x0, 0x0, 0x0, 0x0, 0x0, 0, 1⟩]

/-- Rows of the register table of ALC (R213). -/
def rowsALC : List RegRow :=
  [⟨0x40, 0x0, 0x107FF, 0x0, 0x0, 0x0, 0x0, 0, 1⟩,
   ⟨0x44, 0x0, 0xFFFFFFFF, 0x0, 0x0, 0x0, 0x0, 0, 1⟩,
   ⟨0x48, 0x0, 0x0, 0x0, 0x0, 0x0, 0x1, 0, 1⟩,
   ⟨0x4C, 0x0, 0x0, 0x0, 0x0, 0x0, 0x0, 0, 1⟩,
   ⟨0x50, 0x0, 0xFFFFFF, 0x0, 0x0, 0x0, 0x0, 0, 1⟩,
   ⟨0x54, 0x0, 0x0, 0x0, 0x0, 0x0, 0x0, 0, 1⟩,
   ⟨0x58, 0x0, 0x0, 0x0, 0x0, 0x0, 0x0, 0, 1⟩,
   ⟨0x5C, 0x0, 0x0, 0x0, 0x0, 0x0, 0x0, 0, 1⟩,
   ⟨0x60, 0x0, 0x0, 0x0, 0x0, 0x0, 0x0, 0, 1⟩,
   ⟨0x64, 0x0, 0x0, 0x0, 0x0, 0x0, 0x0, 0, 1⟩,
   ⟨0x68, 0x0, 0x0, 0x0, 0x0, 0x0, 0x0, 0, 1⟩,
   ⟨0x6C, 0x0, 0x0, 0x0, 0x0, 0x0, 0x0, 0, 1⟩,
   ⟨0x70, 0x0, 0x0, 0x0, 0x0, 0x0, 0x0, 0, 1⟩,
   ⟨0x74, 0x0, 0x0, 0x0, 0x0, 0x0, 0x0, 0, 1⟩,
   ⟨0x78, 0x0, 0x0, 0x0, 0x0, 0x0, 0x0, 0, 1⟩,
   ⟨0x7C, 0x0, 0x1F, 0x0, 0x0, 0x0, 0x0, 0, 1⟩] ++
  [⟨0x80, 0x0, 0x0, 0x0, 0x0, 0x0, 0x0, 0x7C, 24⟩,
   ⟨0x84, 0x0, 0x0, 0x0, 0x0, 0x0, 0x0, 0x7C, 24⟩]

/-- Rows of the register table of SER (R350). -/
def rowsSER : List RegRow :=
  [⟨0x40, 0x100, 0x0, 0xF1FF, 0x0, 0x0, 0x0, 0, 1⟩,
   ⟨0x44, 0x12C0, 0x0, 0xFFFFF, 0x0, 0x0, 0x0, 0, 1⟩,
   ⟨0x48, 0x0, 0x0, 0x0, 0x0, 0x0, 0x0, 0, 1⟩,
   ⟨0x4C, 0x0, 0x0, 0x7F7F, 0x0, 0x0, 0x0, 0, 1⟩,
   ⟨0x50, 0x0, 0xF, 0x0, 0x0, 0x0, 0x0, 0, 1⟩,
   ⟨0x54, 0x0, 0x0, 0xFFFFFFFF, 0x0, 0x0, 0x0, 0x50, 16⟩,
   ⟨0x58, 0x0, 0x0, 0x1FFFFF, 0x0, 0x0, 0x0, 0x50, 16⟩,
   ⟨0x5C, 0x0, 0x0, 0x0, 0x0, 0x0, 0x0, 0x50, 16⟩,
   ⟨0x60, 0x0, 0x7, 0x0, 0x0, 0x0, 0x0, 0, 1⟩,
   ⟨0x64, 0x0, 0x0, 0x1FFF, 0x0, 0x0, 0x0, 0x50, 16⟩,
   ⟨0x68, 0x0, 0x0, 0x0, 0x0, 0x0, 0x0, 0, 1⟩,
   ⟨0x6C, 0x0, 0x0, 0x0, 0x0, 0x0, 0x0, 0, 1⟩,
   ⟨0x70, 0x0, 0x0, 0x0, 0x0, 0x0, 0x0, 0, 1⟩,
   ⟨0x74, 0x0, 0x0, 0x0, 0x0, 0x0, 0x0, 0, 1⟩,
   ⟨0x78, 0x0, 0x0, 0x0, 0x0, 0x0, 0x0, 0, 1⟩,
   ⟨0x7C, 0x0, 0x0, 0x0, 0x0, 0x0, 0x0, 0, 1⟩]

/-- Rows of the register table of FIO (R349). -/
def rowsFIO : List RegRow :=
  [⟨0x40, 0x0, 0x0, 0x3F01, 0x0, 0x0, 0x0, 0, 1⟩,
   ⟨0x44, 0x0, 0x0, 0x0, 0x0, 0x0, 0x0, 0, 1⟩,
   ⟨0x48, 0x0, 0x0, 0x0, 0x0, 0x0, 0x0, 0, 1⟩,
   ⟨0x4C, 0x0, 0x0, 0x8007FFFF, 0x0, 0x0, 0x0, 0, 1⟩,
   ⟨0x50, 0x0, 0x0, 0x87FFFFFF, 0x0, 0x0, 0x0, 0, 1⟩,
   ⟨0x54, 0x0, 0x0, 0x0, 0x0, 0x0, 0x0, 0, 1⟩,
   ⟨0x58, 0x0, 0xFFFF, 0x0, 0x0, 0x0, 0x0, 0, 1⟩,
   ⟨0x5C, 0x0, 0x0, 0x0, 0x0, 0xFFFF, 0x0, 0, 1⟩,
   ⟨0x60, 0x0, 0x0, 0x0, 0x0, 0xFFFF, 0x0, 0, 1⟩,
   ⟨0x64, 0x0, 0x0, 0x0, 0x0, 0x0, 0x0, 0, 1⟩,
   ⟨0x68, 0x0, 0x0, 0x0, 0xFFFFFFFF, 0x0, 0x0, 0, 1⟩,
   ⟨0x6C, 0x0, 0xF, 0x0, 0x0, 0x0, 0x0, 0, 1⟩,
   ⟨0x70, 0x30, 0x0, 0xFF7, 0x0, 0x0, 0x0, 0x6C, 16⟩,
   ⟨0x74, 0x10A0A, 0x0, 0x1FFFFFF, 0x0, 0x0, 0x0, 0x6C, 16⟩,
   ⟨0x78, 0x0, 0x0, 0x0, 0x0, 0x0, 0x0, 0x6C, 16⟩,
   ⟨0x7C, 0x0, 0x0, 0x0, 0x0, 0x0, 0x0, 0x6C, 16⟩] ++
  [⟨0x80, 0x0, 0x0, 0x0, 0x0, 0x0, 0x0, 0x6C, 16⟩,
   ⟨0x84, 0x0, 0x0, 0x0, 0x0, 0x0, 0x0, 0x6C, 16⟩,
   ⟨0x88, 0x0, 0x0, 0x0, 0x0, 0x0, 0x0, 0, 1⟩,
   ⟨0x8C, 0x0, 0x0, 0x0, 0x0, 0x0, 0x0, 0, 1⟩]

/-- Rows of the register table of POS (R364). -/
def rowsPOS : List RegRow :=
  [⟨0x40, 0x0, 0x0, 0xF, 0x0, 0x0, 0x0, 0, 1⟩,
   ⟨0x44, 0x190050, 0x0, 0xFF3F03FF, 0x0, 0x0, 0x0, 0, 1⟩,
   ⟨0x48, 0x1E0000, 0x0, 0xFFFF011F, 0x0, 0x0, 0x0, 0, 1⟩,
   ⟨0x4C, 0x64, 0x0, 0x3FFF, 0x0, 0x0, 0x0, 0, 1⟩,
   ⟨0x50, 0x0, 0x0, 0xFFFFFFFF, 0x0, 0x0, 0x0, 0, 1⟩,
   ⟨0x54, 0x2710, 0x0, 0xFFFFFF, 0x0, 0x0, 0x0, 0, 1⟩,
   ⟨0x58, 0x0, 0x0, 0x8007FFFF, 0x0, 0x0, 0x0, 0, 1⟩,
   ⟨0x5C, 0x0, 0xFFFFFFFF, 0x0, 0x0, 0x0, 0x0, 0, 1⟩,
   ⟨0x60, 0x0, 0x0, 0x0, 0x0, 0x0, 0x0, 0, 1⟩,
   ⟨0x64, 0x0, 0x0, 0x0, 0x0, 0x0, 0x0, 0, 1⟩,
   ⟨0x68, 0x0, 0x0, 0x0, 0x0, 0x0, 0x0, 0, 1⟩,
   ⟨0x6C, 0x0, 0x0, 0x0, 0x0, 0x0, 0x0, 0, 1⟩,
   ⟨0x70, 0x0, 0x0, 0x0, 0x0, 0x0, 0x0, 0, 1⟩,
   ⟨0x74, 0x0, 0x0, 0x0, 0x0, 0x0, 0x0, 0, 1⟩,
   ⟨0x78, 0x0, 0x0, 0x0, 0x0, 0x0, 0x0, 0, 1⟩,
   ⟨0x7C, 0x0, 0x0, 0x0, 0x0, 0x0, 0x0, 0, 1⟩] ++
  [⟨0x80, 0x0, 0x0, 0x0, 0x0, 0x0, 0x1, 0, 1⟩,
   ⟨0x84, 0x0, 0xFFFFFFFF, 0x0, 0x0, 0x0, 0x0, 0, 1⟩,
   ⟨0x88, 0x0, 0xF, 0x0, 0x0, 0x0, 0x0, 0, 1⟩,
   ⟨0x8C, 0x0, 0x0, 0x0, 0x0, 0x0, 0x0, 0, 1⟩,
   ⟨0x90, 0x0, 0x0, 0x0, 0x0, 0x0, 0x0, 0, 1⟩,
   ⟨0x94, 0x0, 0x0, 0x0, 0x0, 0x0, 0x0, 0, 1⟩,
   ⟨0x98, 0x10001, 0x0, 0xFFFFFFFF, 0x0, 0x0, 0x0, 0, 1⟩,
   ⟨0x9C, 0x0, 0x0, 0x3, 0x0, 0x0, 0x0, 0, 1⟩,
   ⟨0xA0, 0x0, 0x0, 0x0, 0x0, 0x0, 0x0, 0, 1⟩,
   ⟨0xA4, 0x0, 0x0, 0x0, 0x0, 0x0, 0x0, 0, 1⟩]

/-- Rows of the register table of ID (R437). -/
def rowsID : List RegRow :=
  [⟨0x40, 0x5A7C0192, 0x0, 0x0, 0x0, 0x0, 0x0, 0, 1⟩,
   ⟨0x44, 0x0, 0x0, 0x0, 0x0, 0x0, 0x0, 0, 1⟩,
   ⟨0x48, 0x0, 0x0, 0x0, 0x0, 0x0, 0x0, 0, 1⟩,
   ⟨0x4C, 0x0, 0x0, 0x0, 0x0, 0x0, 0x0, 0, 1⟩,
   ⟨0x60, 0x0, 0x0, 0x0, 0x0, 0x0, 0x0, 0, 1⟩,
   ⟨0x64, 0x0, 0x0, 0x0, 0x0, 0x0, 0x0, 0, 1⟩,
   ⟨0x68, 0x0, 0x0, 0x0, 0x0, 0x0, 0x0, 0, 1⟩,
   ⟨0x6C, 0x0, 0x0, 0x0, 0x0, 0x0, 0x0, 0, 1⟩,
   ⟨0x70, 0x0, 0x0, 0x0, 0x0, 0x0, 0x0, 0, 1⟩,
   ⟨0x74, 0x0, 0x0, 0x0, 0x0, 0x0, 0x0, 0, 1⟩,
   ⟨0x78, 0x0, 0x0, 0x0, 0x0, 0x0, 0x0, 0, 1⟩,
   ⟨0x7C, 0x0, 0x0, 0x0, 0x0, 0x0, 0x0, 0, 1⟩,
   ⟨0x80, 0x0, 0x0, 0xFFFFFFFF, 0x0, 0x0, 0x0, 0, 1⟩,
   ⟨0x84, 0x0, 0x0, 0xFFFFFFFF, 0x0, 0x0, 0x0, 0, 1⟩,
   ⟨0x88, 0x0, 0x0, 0xFFFFFFFF, 0x0, 0x0, 0x0, 0, 1⟩,
   ⟨0x8C, 0x0, 0x0, 0xFFFFFFFF, 0x0, 0x0, 0x0, 0, 1⟩] ++
  [⟨0x90, 0x0, 0x0, 0xFFFFFFFF, 0x0, 0x0, 0x0, 0, 1⟩,
   ⟨0x94, 0x0, 0x0, 0xFFFFFFFF, 0x0, 0x0, 0x0, 0, 1⟩,
   ⟨0x98, 0x0, 0x0, 0xFFFFFFFF, 0x0, 0x0, 0x0, 0, 1⟩,
   ⟨0x9C, 0x0, 0x0, 0xFFFFFFFF, 0x0, 0x0, 0x0, 0, 1⟩,
   ⟨0xA0, 0x0, 0x0, 0x0, 0x0, 0x0, 0x0, 0, 1⟩,
   ⟨0xB0, 0x0, 0x0, 0x0, 0x0, 0x0, 0x0, 0, 1⟩,
   ⟨0xB4, 0x0, 0x0, 0x0, 0x0, 0x0, 0x0, 0, 1⟩,
   ⟨0xB8, 0x0, 0x0, 0x0, 0x0, 0x0, 0x0, 0, 1⟩,
   ⟨0xC0, 0x0, 0x0, 0x0, 0x0, 0x0, 0x0, 0, 1⟩,
   ⟨0xC4, 0x0, 0x0, 0x0, 0x0, 0x0, 0x0, 0, 1⟩,
   ⟨0xC8, 0x0, 0x0, 0x0, 0x0, 0x0, 0x0, 0, 1⟩]

/-- The page layouts of R431, in ascending page index. Log entry 3 (DESIGN CHOICE). -/
def layouts : List PageLayout :=
  [⟨0x0, 1, 0x1, 0x0, true, 1, rowsID⟩,
   ⟨0x1, 1, 0x1, 0x3, true, 1, rowsSUP⟩,
   ⟨0x2, 1, 0x1, 0x1F, true, 0, rowsPWR⟩,
   ⟨0x3, 1, 0x10001, 0x7, true, 0, rowsSNAP⟩,
   ⟨0x4, 1, 0x1, 0xF, true, 2, rowsSEQ⟩,
   ⟨0x5, 1, 0x1, 0xF, true, 8, rowsTIM⟩,
   ⟨0x6, 1, 0x1, 0x1, true, 0, rowsNVS⟩,
   ⟨0x7, 1, 0x10001, 0x7, true, 0, rowsREC⟩,
   ⟨0x8, 3, 0x801, 0x7F, false, 1, rowsPRG⟩,
   ⟨0xB, 1, 0x1001, 0x3F, true, 11, rowsSAFC⟩,
   ⟨0xC, 1, 0x1001, 0x3, true, 11, rowsSAFH⟩,
   ⟨0xD, 1, 0x1001, 0x7, true, 11, rowsSFO⟩,
   ⟨0xE, 1, 0x1, 0x0, false, 2, rowsFQ⟩,
   ⟨0xF, 1, 0xC001, 0xFF, false, 8, rowsCHN⟩,
   ⟨0x10, 4, 0x1, 0x1, false, 8, rowsETH⟩,
   ⟨0x14, 1, 0x2001, 0x3, false, 8, rowsPRP⟩,
   ⟨0x15, 1, 0x3, 0x1, false, 8, rowsPTP⟩,
   ⟨0x16, 4, 0xD, 0x7F, false, 9, rowsCAN⟩,
   ⟨0x1A, 1, 0x1, 0x3F, false, 5, rowsFLT⟩,
   ⟨0x1B, 1, 0x1, 0x1FF, false, 3, rowsEST⟩,
   ⟨0x1C, 1, 0x81, 0x3F, false, 6, rowsFUS0⟩,
   ⟨0x1D, 1, 0x181, 0x1F, false, 6, rowsFUS1⟩,
   ⟨0x1E, 2, 0x1, 0xF, false, 7, rowsGNS⟩,
   ⟨0x20, 1, 0x601, 0x7F, false, 7, rowsGNSC⟩,
   ⟨0x21, 2, 0x1, 0x1F, false, 4, rowsCTL⟩,
   ⟨0x23, 1, 0x31, 0xFF, false, 3, rowsSOL0⟩,
   ⟨0x24, 1, 0x11, 0x0, false, 3, rowsSOL1⟩,
   ⟨0x25, 1, 0x41, 0xFF, false, 3, rowsALC⟩,
   ⟨0x26, 12, 0x1, 0x7, false, 9, rowsSER⟩,
   ⟨0x32, 12, 0x1, 0xFF, false, 10, rowsFIO⟩,
   ⟨0x3E, 24, 0x1, 0xF, false, 9, rowsPOS⟩]

end Sys2Proof.Machine
end

