-- ==== Sys2Proof/Machine/Sparse.lean ====
section
/-! DEFINITION. A sparse map as plain data: a list of (key, value) pairs in ONE canonical form, keys strictly rising
and no entry equal to what an unlisted key reads as. Memory (R16) and the register cells (R6) are held so. -/

namespace Sys2Proof.Machine

/-- What key k reads as: its listed value, or the value d gives an unlisted key. -/
def sget {V : Type} (d : Nat → V) : List (Nat × V) → Nat → V
  | [], k => d k
  | (a, v) :: m, k => if k = a then v else sget d m k

/-- A pair put before the first larger key. -/
def sins {V : Type} : List (Nat × V) → Nat → V → List (Nat × V)
  | [], k, v => [(k, v)]
  | (a, x) :: m, k, v => if k < a then (k, v) :: (a, x) :: m else (a, x) :: sins m k v

/-- The map without key k. -/
def sdel {V : Type} : List (Nat × V) → Nat → List (Nat × V)
  | [], _ => []
  | (a, x) :: m, k => if k = a then sdel m k else (a, x) :: sdel m k

/-- The map with key k at value v. Writing what an unlisted key reads as removes the entry. -/
def sset {V : Type} [DecidableEq V] (d : Nat → V) (m : List (Nat × V)) (k : Nat) (v : V) : List (Nat × V) :=
  if v = d k then sdel m k else sins (sdel m k) k v

/-- Every key above b, strictly rising, and no value that an unlisted key would read as. -/
def swfFrom {V : Type} [DecidableEq V] (d : Nat → V) : Option Nat → List (Nat × V) → Bool
  | _, [] => true
  | b, (a, x) :: m =>
    (match b with
     | none => true
     | some b => decide (b < a)) && decide (x ≠ d a) && swfFrom d (some a) m

/-- The canonical form. -/
def swf {V : Type} [DecidableEq V] (d : Nat → V) (m : List (Nat × V)) : Bool := swfFrom d none m

/-- A run of consecutive keys from k set to the values of a list. -/
def ssetRun {V : Type} [DecidableEq V] (d : Nat → V) (m : List (Nat × V)) (k : Nat) : List V → List (Nat × V)
  | [] => m
  | v :: vs => ssetRun d (sset d m k v) (k + 1) vs

/-- The map without the keys that p holds of. -/
def sdrop {V : Type} (p : Nat → Bool) (m : List (Nat × V)) : List (Nat × V) := m.filter (fun e => !p e.1)

end Sys2Proof.Machine
end

