-- ==== Sys2Proof/Machine/State.lean ====
section
/-! DEFINITION. The state of the ZT-192 as plain data: everything the spec gives the module, and the queue of commands
that wait. Each unit's structure holds its register cells and the state behind them. -/

namespace Sys2Proof.Machine

/-- The module state of R417. -/
inductive Mode where
  | off | boot | config | ready | run | service | halt
  deriving DecidableEq, Repr

/-- The STATE code of SUP_STAT (R429); OFF has none and reads 0. -/
def Mode.code : Mode → Nat
  | .off => 0 | .boot => 1 | .config => 2 | .ready => 3 | .run => 4 | .service => 5 | .halt => 6

/-- Register cells: the registers of the 86 pages that differ from their reset value, keyed by the byte offset from
0x4000_0000 plus 0x20000 × the window index. -/
abbrev RMap := List (Nat × Word)

/-- Memory (R16): the bytes as last written, and per 32-byte block the pattern of bits in which the stored codeword
differs from the sound codeword of those bytes (upsets, and poison marks under R20). Log entry 17 (DEDUCED). -/
structure Mem where
  bytes : List Host.Cell
  flips : List (Nat × Codeword)
  deriving DecidableEq, Repr

/-- A code to be recorded in a page's PAGE_ERR (R434) and offered to REC (R402): class × 0x1000 + code, the payload
words, and whether the chapter states it is recorded "in REC" whatever its class. -/
structure Code where
  page    : Nat
  code    : Nat
  payload : List Word
  inRec   : Bool
  deriving DecidableEq, Repr

/-- Bytes stored into memory as whole or partial blocks (R24): by which page's unit, where, what, and whether the
stored block carries a poison mark (R20). -/
structure Store where
  page   : Nat
  addr   : Nat
  data   : List Byte
  poison : Bool
  deriving DecidableEq, Repr

/-- A sample a source unit delivers to FLT (R64): the source identifier and selector of R63, the receive timestamp in
ns of module time, and the signed value. -/
structure Sample where
  unit  : Nat
  sel   : Nat
  stamp : Int
  value : Int
  deriving DecidableEq, Repr

/-- A whole packet a unit pushes into a firkin (R30), each word with a flag that its block came poisoned (R31). -/
structure Push where
  unit   : Nat
  firkin : Nat
  words  : List (Word × Bool)
  deriving DecidableEq, Repr

/-- An event trigger for event tasks (R238, R240): TYPE, UNIT and SEL as the trigger word codes them; for a field edge
SEL is the channel plus 16 for a rising and 32 for a falling edge. -/
structure Trigger where
  kind : Nat
  unit : Nat
  sel  : Nat
  deriving DecidableEq, Repr

/-- A frame, message or reply the module sends, by the port it leaves on. -/
inductive Emit where
  /-- A Chain or PTP frame on ETH0 or ETH1, or a plant frame on ETH2 or ETH3: the bytes sent. -/
  | eth (port : Nat) (data : List Byte)
  /-- A service reply (R302): the bytes before the tag. -/
  | reply (data : List Byte)
  /-- A CAN frame queued on a bus: identifier word and data. -/
  | can (bus : Nat) (ident : Nat) (data : List Byte)
  /-- A serial packet on a port. -/
  | serial (port : Nat) (data : List Byte)
  /-- What a read returned to its accessor: the words. -/
  | readData (words : List Word)
  deriving DecidableEq, Repr

/-- What a unit's work asks of the rest of the module: codes recorded, event flags set (page, flag), blocks read by a
page's unit (page, byte address), samples for FLT, packets for firkins, event triggers, snapshot triggers (source bit
of R409), frames sent, and blocks (by byte address) of a unit's private memory written whole. -/
structure Fx where
  codes    : List Code
  evts     : List (Nat × Nat)
  reads    : List (Nat × Nat)
  samples  : List Sample
  pushes   : List Push
  triggers : List Trigger
  snaps    : List Nat
  emits    : List Emit
  heals    : List Nat
  deriving DecidableEq, Repr

/-- A record waiting in REC's queue (R401–R403): everything but the sequence number, which is given at the write. -/
structure Record where
  src     : Nat
  flags   : Nat
  code    : Nat
  fno     : Nat
  payload : List Word
  epoch   : Nat
  opt     : Nat
  deriving DecidableEq, Repr

/-- REC (R400–R408, R415). -/
structure Rec where
  regs      : RMap
  /-- The queue of at most 256 records, oldest first (R403). -/
  queue     : List Record
  /-- Records lost since the last code 0x171 (R403). -/
  lostSince : Nat
  /-- Sequence of the next record and the oldest held in the ring (R400). -/
  nextSeq   : Nat
  /-- Records written to the ring so far, counting up to the size of the ring. -/
  ringCount : Nat
  /-- Ring slots that failed one after another, up to three (R407). -/
  failRun   : Nat
  /-- Operating time in ns of module power, and the power-cycle count (R404). -/
  onNs      : Nat
  pcyc      : Nat
  /-- The two stored copies of OPTIME (0.1 s) and PCYC and which is newer (R404). -/
  copyA     : Nat × Nat
  copyB     : Nat × Nat
  copyLast  : Bool
  /-- The ring search of R405 has been done since power-on. -/
  searched  : Bool
  /-- Save records of R413 waiting until 64 queue entries are free, oldest first. -/
  saving    : List Record
  deriving DecidableEq, Repr

/-- SNAP (R409–R416): the snapshot count and the last trigger instant (ns of module time), with whether a refusal
was recorded since. -/
structure Snap where
  regs     : RMap
  count    : Nat
  lastAt   : Option Int
  refusedRecorded : Bool
  deriving DecidableEq, Repr

/-- A request of SUP_CTRL that waits for its grid instant or fathom start (R418). -/
inductive Request where
  | goReady | goRun | stop | goService
  deriving DecidableEq, Repr

/-- SUP (R417–R424, R429) with the ID page (R437): the module state, the request that waits, whether the check list
has been passed with no RWL write since (R419), the islands stopped under R15 (one bit each), whether SUP itself has
stopped (R424), the AUTO_RUN request of R422 still to come, the time of power-on, the module time in µs of the request that
waits, and the running firmware copy (R421). -/
structure Sup where
  regs     : RMap
  request  : Option Request
  reqUs    : Int
  copy     : Option Nat
  passed   : Bool
  stopped  : BitVec 12
  refLost  : Bool
  dead     : Bool
  autoRun  : Bool
  bootAt   : Nat
  deriving DecidableEq, Repr

/-- A unit after its work, with what the work asks of the rest of the module and the bytes it stores. -/
structure W (U : Type) where
  u  : U
  fx : Fx
  st : List Store

/-- A step of module time confirmed under R292: the offset e, and the module time from which a fathom start takes it
(none: the next fathom start). -/
structure PendingStep where
  e        : Int
  earliest : Option Int
  deriving DecidableEq, Repr

/-- TIM (R287–R293): its page; the ns counted by the 25 MHz reference since power-on, whose whole multiples of 4 are
TIM_RAW; TIM_OFFSET, TIM_ANCHOR, FREQ and SLEW; the high words latched by reads of TIM_RAW_L and TIM_NOW_L; the last
offset slewed with its instant; which sources are valid (PTP, GNSS, PPS IN); the instant of the last PPS IN edge; TIM_RAW since
when the primary has been valid without a break; the last four offsets; the confirmations of R292 (count, last offset,
last sequenceId); the step that waits; the amount of the step made at this fathom start; the comparators armed, with the
target in force; the last TRIG IN edge; and the end of the TRIG OUT pulse that runs. -/
structure Tim where
  regs      : RMap
  refNs     : Nat
  offset    : Int
  anchor    : Nat
  freq      : Int
  slew      : Int
  rawHigh   : Nat
  nowHigh   : Nat
  lastE     : Option (Int × Int)
  valid     : List Nat
  ppsLast   : Option Int
  primSince : Option Nat
  offsets   : List Int
  confirms  : Nat
  confE     : Int
  confSeq   : Option Nat
  pend      : Option PendingStep
  armed     : List (Nat × Int)
  trigLast  : Option Int
  trigOut   : Option Int
  deriving DecidableEq, Repr

/-- TIM at power-on. Log entry 86 (DESIGN CHOICE). -/
def Tim.fresh : Tim :=
  { regs := [], refNs := 0, offset := 0, anchor := 0, freq := 0, slew := 0, rawHigh := 0, nowHigh := 0, lastE := none
    valid := [], ppsLast := none, primSince := none, offsets := [], confirms := 0, confE := 0, confSeq := none, pend := none
    armed := [], trigLast := none, trigOut := none }

/-- An announcement held for a port (R294): its comparison vector, best first, with the parent it names. -/
structure Announce where
  port   : Nat
  vector : List Nat
  source : Nat
  deriving DecidableEq, Repr

/-- PTP (R294–R297, R306): its page; the announcements per port and the parent's portIdentity; what the transparent clock
has forwarded (portIdentity, messageType, sequenceId, instant); the two-step Sync that waits for its Follow_Up (sequenceId,
ingress time, correction, epoch); the last Sync's offset without the path delay with its epoch; requests in progress per port
(sequenceId, egress t1, epoch); the peer response that waits for its follow-up (port, sequenceId, t2, t4, correction); and
the sequence numbers this clock sends (Sync, Announce, delay requests). -/
structure Ptp where
  regs      : RMap
  announces : List Announce
  parent    : Option Nat
  forwarded : List (Nat × Nat × Nat × Int)
  syncWait  : Option (Nat × Int × Int × Nat)
  syncLast  : Option (Int × Nat)
  requests  : List (Nat × Nat × Int × Nat)
  responses : List (Nat × Nat × Int × Int × Int)
  seqSync   : Nat
  seqAnn    : Nat
  seqDelay  : Nat
  deriving DecidableEq, Repr

/-- PTP at reset. -/
def Ptp.fresh (regs : RMap) : Ptp := ⟨regs, [], none, [], none, none, [], [], 0, 0, 0⟩

/-- A session of the service protocol (R302): its number, the key slot (0xFF: keyless), the session key, the last SEQ
accepted, and the module time of its last request. -/
structure Session where
  number : Nat
  slot   : Nat
  key    : List Byte
  seq    : Nat
  last   : Int
  deriving DecidableEq, Repr

/-- ETH0–ETH3, PRP and the service path (R298–R304, R307, R308): their pages; the plant frames accepted within the entry
forget time (source, sequence, instant); the instants of the last frame of each LAN; the sequence of frames sent; sentences
per filter entry since the last LATCH; the sessions; the sessions opened so far. -/
structure Net where
  regs      : RMap
  seen      : List (Nat × Nat × Int)
  lastA     : Option Int
  lastB     : Option Int
  seqOut    : Nat
  sentences : List (Nat × Nat)
  sessions  : List Session
  opened    : Nat
  deriving DecidableEq, Repr

/-- ETH, PRP and the service path at reset. -/
def Net.fresh (regs : RMap) : Net := ⟨regs, [], none, none, 0, [], [], 0⟩

/-- The fields of a span (R42). -/
structure Span where
  start    : Nat
  en       : Bool
  unit     : Nat
  opcode   : Nat
  deadline : Nat
  div      : Nat
  phase    : Nat
  arg      : Word
  src      : Nat
  dst      : Nat
  srcLen   : Nat
  dstLen   : Nat
  /-- A reserved field is not 0 (reason 0x8 of R52). -/
  reserved : Bool
  deriving DecidableEq, Repr

/-- A span in flight (R46, R57): its index in the active bank, its fields, the fathom count in which it started,
whether the unit's work gives a result, and the tick count since the span's fathom start at which completion was
reported, if it was. -/
structure Run where
  idx     : Nat
  span    : Span
  count   : Nat
  result  : Bool
  doneAt  : Option Nat
  deriving DecidableEq, Repr

/-- SEQ (R37–R62). -/
structure Seq where
  regs     : RMap
  /-- The fathom count of R39 and whether it has been set since reset. -/
  count    : Nat
  counted  : Bool
  /-- Module time in µs at which the fathom in progress began, and the grid in force (R38, R39). -/
  startUs  : Int
  lenUs    : Nat
  phaseUs  : Nat
  /-- Which bank is active (false A, true B), and its span count. -/
  bank     : Bool
  active   : Nat
  /-- The shadow has been loaded since it last became the shadow (R55). -/
  loaded   : Bool
  /-- A swap request waits, with the value of SEQ_SWAP_AT when it was made (R53). -/
  swapAt   : Option Nat
  /-- The Furlong that the exit from CONFIG will make active is the shadow (R55). -/
  settle   : Bool
  /-- Indexes whose START has been issued or refused in the fathom in progress (R49). -/
  issued   : List Nat
  runs     : List Run
  /-- Units that an island stop left not idle until a reset (R58). -/
  stuck    : List Nat
  /-- Units aborted, with the fathom count and tick of the abort (R57). -/
  aborts   : List (Nat × Nat × Nat)
  /-- The high word of the fathom count latched by a read of SEQ_FNO (R62). -/
  fnoHigh  : Nat
  deriving DecidableEq, Repr

/-- A word in a firkin: the word, whether it is the last of its packet, and the stored parity bits that are wrong (R28, R31).
Log entry 19 (DEDUCED). -/
structure QWord where
  word : Word
  last : Bool
  bad  : BitVec 4
  deriving DecidableEq, Repr

/-- One firkin (R28–R35): committed words oldest first, the open packet, and whether pushes are discarded up to the
next end (R30). -/
structure Firkin where
  committed : List QWord
  opened    : List QWord
  dropping  : Bool
  deriving DecidableEq, Repr

/-- An empty firkin. -/
def Firkin.empty : Firkin := ⟨[], [], false⟩

/-- FQ (R28–R36). -/
structure Fq where
  regs : RMap
  fifo : List (Nat × Firkin)
  deriving DecidableEq, Repr

/-- A sample waiting in FLT's intake (R65): when it is due, its effective instant τ, and its value. -/
structure Waiting where
  due : Int
  tau : Int
  x   : Int
  deriving DecidableEq, Repr

/-- One stream of FLT (R63–R76): its history newest first (τ, x), the samples waiting in arrival order, SETTLE_LEFT,
DROPS, the FLT_ALT bit at the last slot opening, the take-in instant of the last opening, whether the stream is stale,
the record of the visible half (R74) and the record of the run in progress. -/
structure Stream where
  hist     : List (Int × Int)
  wait     : List Waiting
  settle   : Nat
  drops    : Nat
  alt      : Bool
  lastTake : Option Int
  stale    : Bool
  record   : Word × Word
  work     : Word × Word
  deriving DecidableEq, Repr

/-- A stream as the exit from CONFIG leaves it (R73). -/
def Stream.fresh (settle : Nat) : Stream := ⟨[], [], settle, 0, false, none, false, (0, 0), (0, 0)⟩

/-- FLT (R63–R82): the streams, the loaded taps of sets 2 and 3 keyed by 512 × set + 16 × phase + tap, and the count
of samples of the present second of module time (R66). -/
structure Flt where
  regs    : RMap
  streams : List (Nat × Stream)
  taps    : List (Nat × Int)
  second  : Int
  inRate  : Nat
  deriving DecidableEq, Repr

/-- An entry of a task's input or output map (R238): the pair's block, the first word in a half, the word count, the
byte offset in the core's data bank. -/
structure MapEntry where
  blk   : Nat
  word  : Nat
  count : Nat
  off   : Nat
  deriving DecidableEq, Repr

/-- A task of an image (R238). -/
structure Task where
  idx    : Nat
  event  : Bool
  core   : Nat
  prio   : Nat
  tid    : Nat
  period : Nat
  phase  : Nat
  ovrN   : Nat
  trig   : Word
  inMap  : List MapEntry
  outMap : List MapEntry
  deriving DecidableEq, Repr

/-- An entry of an image's identity table (R237). -/
structure Ident where
  ident  : Word
  type   : Nat
  core   : Nat
  retain : Bool
  reinit : Bool
  owner  : Nat
  off    : Nat
  size   : Nat
  deriving DecidableEq, Repr

/-- A DATA or RETAIN section's initial bytes in a core's data bank (R235). -/
structure InitBytes where
  core   : Nat
  off    : Nat
  data   : List Byte
  retain : Bool
  deriving DecidableEq, Repr

/-- An image as SUP has loaded it into a run slot (R234–R239). -/
structure Image where
  imageId : Word
  crc     : Word
  lenUs   : Nat
  tasks   : List Task
  idents  : List Ident
  inits   : List InitBytes
  deriving DecidableEq, Repr

/-- The states of PRG_T_STAT.STATE that a defined task can be in (R258). -/
inductive TaskPhase where
  | idle | ready | running | stopped | faulted
  deriving DecidableEq, Repr

/-- What a task's core keeps of it: its phase, whether its input copy still runs, the release waiting behind the
present cycle (event tasks), the module time in µs and the fathom count of its release, the order in which it became
ready, releases skipped in a row (R242), the requests of PRG_T_CTRL, and its task clock in µs (R248). -/
structure TaskState where
  phase    : TaskPhase
  copying  : Bool
  again    : Bool
  released : Int
  relCount : Nat
  order    : Nat
  skips    : Nat
  stopReq  : Bool
  startReq : Bool
  clock    : Nat
  deriving DecidableEq, Repr

/-- A task that has never run. -/
def TaskState.fresh : TaskState := ⟨.idle, false, false, 0, 0, 0, 0, false, false, 0⟩

/-- A committed entry of the force table (R251). -/
structure Force where
  pair   : Nat
  word   : Nat
  output : Bool
  mask   : Word
  val    : Word
  en     : Bool
  active : Bool
  deriving DecidableEq, Repr

/-- An entry that has never been committed. -/
def Force.empty : Force := ⟨0, 0, false, 0, 0, false, false⟩

/-- PRG0–PRG2 (R233–R258). -/
structure Prg where
  regs     : RMap
  image    : Option Image
  slot     : Bool
  /-- The image that CHECK has accepted for the other slot, and the report of R256 (kind, ID or TID). -/
  other    : Option Image
  report   : List (Nat × Word)
  tasks    : List (Nat × TaskState)
  /-- The data banks of the cores, keyed by 0x100000 × core + 0x80000 × slot + offset, and the retained shadow, keyed
  by 0x100000 × core + offset (R233, R250). -/
  banks    : List Host.Cell
  shadow   : List Host.Cell
  /-- Exchange pairs marked written, with their half lengths in blocks (R246). -/
  written  : List (Nat × Nat)
  forces   : List (Nat × Force)
  /-- The order number of the next task to become ready, and each core's tie token (R241, R26). -/
  nextOrder : Nat
  tokens   : List Nat
  /-- The fathom count at entry into RUN, F0 of R248. -/
  f0       : Nat

  /-- A save is in progress, with the shadow it took, and another follows it (R250). -/
  saving   : Option (List Host.Cell)
  saveNext : Bool
  /-- The two retained copies in the nonvolatile store (R250): IMAGE_ID, sequence number, objects; none is invalid. -/
  copyA    : Option (Word × Nat × List Host.Cell)
  copyB    : Option (Word × Nat × List Host.Cell)
  deriving DecidableEq, Repr

/-- A reference slot of EST (R87–R96): whether it is admitted, its frozen offset (R91), its time trust and the counts of
R96 and of clean fathoms, and EST_R_STAT as of its last ESTIMATE. -/
structure EstSlot where
  admitted : Bool
  offN     : Int
  offE     : Int
  offPsi   : Int
  trusted  : Bool
  count    : Nat
  clean    : Nat
  stat     : Word
  deriving DecidableEq, Repr

/-- A slot as the exit from CONFIG leaves it (R91): not admitted, trusted. -/
def EstSlot.fresh : EstSlot := ⟨false, 0, 0, 0, true, 0, 0, 0⟩

/-- What an ESTIMATE hands to the next one (R99, R101): whether it is initialised, the filtered state (15 values, R84),
the square-root covariance with its 15 diagonal elements first, the predictions of the last 64 fathoms (N, E, ψ, ξN,
ξE, ξψ; newest first, R90), the slots, DR_FATHOMS, the fathom number of word 47, the motion slots used last, the voted wind, and t_out
of the berth pose last applied. -/
structure EstData where
  init      : Bool
  x         : List Int
  cov       : List Int
  hist      : List (Nat × List Int)
  slots     : List (Nat × EstSlot)
  dr        : Nat
  lastFno   : Nat
  mruUsed   : List Nat
  wind      : List Int
  berthSeen : Option Int
  deriving DecidableEq, Repr

/-- The estimator before its first ESTIMATE. -/
def EstData.fresh : EstData := ⟨false, List.replicate 15 0, [], [], [], 0, 0, [], [0, 0], none⟩

/-- EST (R83–R105): the data of the last published ESTIMATE, those of the run in progress, whether an ESTIMATE has run
since CONFIG, and the requests of EST_CTRL and EST_R_CTRL that wait (R102). -/
structure Est where
  regs      : RMap
  data      : EstData
  work      : Option EstData
  ran       : Bool
  reinit    : Bool
  admits    : List Nat
  withdraw  : List Nat
  deriving DecidableEq, Repr

/-- An accepted point datagram that waits for binning (R110, R111): its scanner slot, its receive timestamp in ns of
module time, and the bytes of its points. -/
structure PointData where
  slot  : Nat
  stamp : Int
  data  : List Byte
  deriving DecidableEq, Repr

/-- A track in use (R126, R127): STATE 1 TENTATIVE, 2 CONFIRMED, 3 COASTING. -/
structure Track where
  ident  : Nat
  state  : Nat
  hits   : Nat
  misses : Nat
  age    : Nat
  n      : Int
  e      : Int
  vn     : Int
  ve     : Int
  extN   : Nat
  extE   : Nat
  cells  : Nat
  cost   : Nat
  deriving DecidableEq, Repr

/-- What an UPDATE hands to the next one (R119, R120, R126, R131): STATE, INVALID_RUN, the last valid map pose with the
estimate used for it (x, y, ψ, N, E, ψ_e), the tracks by slot, the next identifier and the UPDATE count. -/
structure FusData where
  state   : Nat
  invalid : Nat
  pose    : List Int
  tracks  : List (Nat × Track)
  nextId  : Nat
  updates : Nat
  deriving DecidableEq, Repr

/-- FUS (R106–R134): both register pages, the datagrams that wait, the last DSEQ per slot (R108), the points accepted in
a receive fathom and whether an excess was recorded in it (R109), whether plane B fills (R113), the grid centre, points,
slots and skipped binnings of the window, the data of the last publication and of the UPDATE in progress, and whether a
seed waits. Log entry 94 (DEDUCED). -/
structure Fus where
  regs    : RMap
  pool    : List PointData
  last    : List (Nat × Nat)
  rateFno : Nat
  ratePts : Nat
  rateRec : Bool
  planeB  : Bool
  centre  : Option (Int × Int)
  winPts  : Nat
  winMap  : Nat
  winNo   : Bool
  data    : FusData
  work    : Option FusData
  workPose : List Word
  seed    : Bool
  /-- FUS0_SRC_SEL and MIRROR_OUT as the last binning tick took them (R132). -/
  srcSel  : Word
  mirrorOut : Bool
  deriving DecidableEq, Repr

/-- A tracking channel (R137–R141): its state, satellite, synchronisation and cut flags, C/N0, the runs of low C/N0 and
of side-peak power, the code epoch count, whether its dump record is unread, oscillator words waiting for the next code
epoch, and whether the present epoch runs with new words. -/
structure GnsChan where
  state   : Nat
  prn     : Nat
  sec     : Bool
  nav     : Bool
  cut     : Bool
  cn0     : Nat
  low     : Nat
  side    : Nat
  epochs  : Nat
  unread  : Bool
  pend    : Option (Word × Word)
  applied : Bool
  deriving DecidableEq, Repr

/-- A channel in IDLE. -/
def GnsChan.idle : GnsChan := ⟨0, 0, false, false, false, 0, 0, 0, 0, false, none, false⟩

/-- What the measurement latch takes of one channel (R142): bank, channel, PRN, code phase, carrier phase, carrier word. -/
structure GnsMeas where
  bank  : Nat
  chan  : Nat
  prn   : Nat
  cph   : Word
  carph : Word
  carr  : Word
  deriving DecidableEq, Repr

/-- A latched epoch (R142). -/
structure GnsEpoch where
  t       : Int
  stepped : Bool
  meas    : List GnsMeas
  deriving DecidableEq, Repr

/-- What a PVT run changes before its publication (R143, R149, R150): the holdover counts and offsets, the last valid epoch,
u₀, the heading state and the solution registers. -/
structure GnsKept where
  noTime    : Nat
  agree     : Nat
  agreeLo   : Int
  agreeHi   : Int
  lastValid : Option Int
  sigma0    : Nat
  hdg       : Nat
  cells     : List (Nat × Word)
  deriving DecidableEq, Repr

/-- GNS0, GNS1 and GNSC (R135–R157): the three pages, the channels (24 × bank + channel), the antenna supplies switched
off and the cuts recorded (one bit per bank), the newest epoch no run has used, whether the next one is the first after
a step, the consecutive epochs without and with agreeing TIME_VALID and the range of the latter's offsets, the last
valid epoch and u₀, the heading state, what the run in progress delivers at its deadline and whether it has ended a holdover, the PPS OUT pin and when its
last pulse began, the capture in progress (t₀, LEN_MS, antennas, time epoch) the packets the export has
pushed, and what the solution was before the PVT run in progress. -/
structure Gns where
  regs      : RMap
  chans     : List (Nat × GnsChan)
  supplyOff : Nat
  cutRec    : Nat
  epoch     : Option GnsEpoch
  stepped   : Bool
  noTime    : Nat
  agree     : Nat
  agreeLo   : Int
  agreeHi   : Int
  lastValid : Option Int
  sigma0    : Nat
  hdg       : Nat
  samples   : List Sample
  offset    : Option Int
  returned  : Bool
  pps       : Bool
  ppsAt     : Option Int
  capture   : Option (Int × Nat × Nat × Nat)
  exported  : Nat
  kept      : Option GnsKept
  deriving DecidableEq, Repr

/-- A mode request that waits for the release of the ramp (R168): mode, CAPTURE, FALLBACK, whether it is internal. -/
structure ModeRequest where
  mode     : Nat
  capture  : Bool
  fallback : Nat
  internal : Bool
  deriving DecidableEq, Repr

/-- The setpoint stage (R158–R172): mode, last requested mode, REQ_ID last evaluated, RESULT, FALLBACK_TAKEN, FALLBACK,
the pending request, whether F has reached 0 since, SEQ_FNO at entry, CAPTURED and whether a fallback captured it, the
target, the last accepted command, which axes were auto, the blends (last auto demand, k), the demands and the shaped
setpoint of the last publication, F, the lost count, and the onsets already recorded. -/
structure Stage where
  mode     : Nat
  reqMode  : Nat
  lastId   : Nat
  result   : Nat
  fbTaken  : Bool
  fallback : Nat
  pend     : Option ModeRequest
  fZero    : Bool
  entry    : Nat
  captured : Bool
  fbCap    : Bool
  target   : List Int
  cmd      : Option (List Word)
  auto     : List Bool
  blend    : List (Option (Int × Nat))
  dem      : List Int
  sp       : List Int
  force    : Int
  lost     : Nat
  refLost  : Bool
  stale    : Bool
  deriving DecidableEq, Repr

/-- The stage as the module enters RUN: IDLE, REQ_ID last evaluated 0 (R158, R162). -/
def Stage.fresh : Stage :=
  ⟨0, 0, 0, 0, false, 0, none, false, 0, false, false, [0, 0, 0], none, [false, false, false], [none, none, none],
   [0, 0, 0], [0, 0, 0], 0, 0, false, false⟩

/-- What a LOOPS run of an engine commits at its publication (R171, R189): bytes for the instance memory, the instances
whose shaper has started, the outputs by instance, and the stage. -/
structure CtlWork where
  stores  : List (Nat × List Byte)
  started : List Nat
  outs    : List (Nat × Word)
  stage   : Option Stage
  deriving DecidableEq, Repr

/-- CTL0 and CTL1 (R173–R191): both pages, the bank swaps requested and the instances whose shaper has started since
CONFIG (512 × engine + instance), the runs in progress by engine, and the setpoint stage. -/
structure Ctl where
  regs    : RMap
  swaps   : List Nat
  started : List Nat
  work    : List (Nat × CtlWork)
  stage   : Stage
  deriving DecidableEq, Repr

/-- What an ASSEMBLE hands to the next one (R208): the last angle of each azimuth unit, the FROZEN, OFF and FLOOR bits
already reported, the engagement count and state, LOAD_DEV and the hash last published. -/
structure AlcData where
  angles  : List (Nat × Int)
  frozen  : Nat
  off     : Nat
  floor   : Nat
  engN    : Nat
  engaged : Bool
  loadDev : Bool
  hash    : Option Word
  deriving DecidableEq, Repr

/-- ALC (R192–R213): its page, the data of the last publication and of the run in progress, a validated bank that waits
for START in RUN, and whether a bank has ever been validated. -/
structure Alc where
  regs  : RMap
  data  : AlcData
  work  : Option AlcData
  pend  : Bool
  valid : Bool
  deriving DecidableEq, Repr

/-- ALC's data on leaving CONFIG. -/
def AlcData.fresh : AlcData := ⟨[], 0, 0, 0, 0, false, false, none⟩

/-- The warm-start store of SOL0 (R224): the problem hash, the solution of all steps, the working sets, and the fathom
it was written in. -/
structure WarmStore where
  hash : Word
  xs   : List Int
  sets : List Int
  fno  : Nat
  deriving DecidableEq, Repr

/-- What an ALLOCATE hands to the next one (R217, R218, R224–R226): the store, x_0, the last plant record accepted, the
status of the last run and the consecutive held results. -/
structure SolData where
  store   : Option WarmStore
  x0      : List Int
  plant   : Option (List Word)
  status  : Word
  heldRun : Nat
  deriving DecidableEq, Repr

/-- SOL0 and SOL1 (R214–R232): both pages, the data of the last publication and of the run in progress, a cold start
requested, a validated image that waits for START in RUN, and whether an image has ever been valid. -/
structure Sol where
  regs  : RMap
  data  : SolData
  work  : Option SolData
  cold  : Bool
  pend  : Bool
  valid : Bool
  deriving DecidableEq, Repr

/-- SOL0's data at reset. -/
def SolData.fresh : SolData := ⟨none, [], none, 0, 0⟩

/-- A heartbeat as heard (R264, R266): its fathom number, the stone of its frame, the fields of its body, and the ports
it came in on (west ETH0, east ETH1). -/
structure Heartbeat where
  fno      : Word
  stone    : Word
  role     : Nat
  flags    : Nat
  prio     : Nat
  forceCnt : Nat
  fault    : Nat
  digests  : List Word
  image    : Word
  serial   : Word
  cfgDig   : Word
  west     : Bool
  east     : Bool
  deriving DecidableEq, Repr

/-- A member of the Chain as this member knows it (R263, R267, R278): the heartbeats not yet judged, the last one heard,
whether it was present at the last judgment and the one before, consecutive missing judgments, whether its last 64
heartbeats carried a FAULT of class 3 or 4, whether it is heard on one path only, whether it is a neighbour, and the ports
it was heard on at the last judgment. -/
structure Member where
  heard     : List Heartbeat
  last      : Option Heartbeat
  now       : Bool
  before    : Bool
  missRun   : Nat
  faults    : List Bool
  single    : Bool
  neighbour : Bool
  west      : Bool
  east      : Bool
  deriving DecidableEq, Repr

/-- A member never heard. -/
def Member.unknown : Member := ⟨[], none, false, false, 0, [], false, false, false, false⟩

/-- A verdict (R264, R278): FAILED, SUCCESSOR, REASON, EPOCH, FNO judged. -/
structure VerdictMsg where
  failed    : Nat
  successor : Nat
  reason    : Nat
  epoch     : Nat
  fno       : Word
  deriving DecidableEq, Repr

/-- What a join carries (R283), by unit: FLT streams; the estimator, ALC, SOL0 and FUS data; the stage and the instance
memory of CTL0 and CTL1; and the visible output. Log entry 53 (DESIGN CHOICE). -/
structure JoinState where
  streams : List (Nat × Stream)
  est     : Option EstData
  stage   : Option Stage
  stores  : List (Nat × List Byte)
  alc     : Option AlcData
  sol     : Option SolData
  fus     : Option FusData
  output  : List Byte
  deriving DecidableEq, Repr

/-- A part of a join in reception (R282): the unit, how many frames it has, and the frames received by number. -/
structure JoinPart where
  unit  : Nat
  parts : Nat
  got   : List (Nat × List Byte)
  deriving DecidableEq, Repr

/-- CHN (R259–R286): its page; the role state (0 none, 1 ACTIVE, 2 STANDBY, 3 ARBITER, 4 IO), whether a STANDBY is synced
and whether the claim was a self claim; the own stone, E_max, and the stones heard with the fathom of hearing; the frame
sequence sent, and per origin the newest FSEQ and the last 64 accepted; the members, the own heartbeats sent, and the
stone of the ACTIVE last present; the last fathom judged; the
highest-class code since the last heartbeat; the consecutive judgments without an arbiter and of the self-claim
condition; the active as the arbiter knows it and the verdict it repeats; the join of this member (sync fathom, parts,
FUS part, fathoms of installation and of failure) and the one it serves (base, sync fathom, units sent; refused bases with
the next fathom; the base that waits for its FUS part); samples of mirror entries not yet sent (entry, value, timestamp);
PUB frames received (entry, FNO, parts, frames) and the entries not published in this fathom; INPUT frames by base (FNO, 39
words); the OUTPUT frame accepted since the last latch (stone, words), the stone last applied, the outputs applied, the
latches held, whether the slaved outputs are off, whether a lower stone was recorded, and the stations recorded STALE;
the operation in progress (OP_ID, fathom of GO), the operation answered last, the base heard
twice; and the 39 words of station inputs as the last LATCH froze them (R271, R272). -/
structure Chn where
  regs      : RMap
  role      : Nat
  synced    : Bool
  selfClaimed : Bool
  stone     : Word
  eMax      : Nat
  stones    : List (Nat × Word)
  fseq      : Nat
  seen      : List (Nat × Nat × List Nat)
  members   : List (Nat × Member)
  own       : List Heartbeat
  actStone  : Option Word
  judged    : Option Nat
  fault     : Nat
  arbMiss   : Nat
  selfRun   : Nat
  active    : Option Nat
  verdict   : Option VerdictMsg
  sync      : Option Nat
  parts     : List JoinPart
  fusPart   : List JoinPart
  confFrom  : Nat
  failedAt  : Option Nat
  serving   : Option (Nat × Nat × List Nat)
  refused   : List (Nat × Nat)
  fusDue    : Option (Nat × Nat)
  samples   : List (Nat × Sample)
  pubParts  : List (Nat × Word × Nat × List Nat)
  pubMiss   : Nat
  inputs    : List (Nat × Word × List Word)
  output    : Option (Word × List Word)
  applied   : Word
  slaved    : Option (List Word)
  held      : Nat
  slaveOff  : Bool
  lowerRec  : Bool
  stale     : List Nat
  opId      : Nat
  opFno     : Nat
  twice     : Bool
  latched   : List Word
  deriving DecidableEq, Repr

/-- CHN at reset: no role, the base's stone is set with the strap at power-on. -/
def Chn.fresh (regs : RMap) (base : Word) : Chn :=
  { regs := regs, role := 0, synced := false, selfClaimed := false, stone := base, eMax := 0, stones := [], fseq := 0
    seen := [], members := [], own := [], actStone := none, judged := none, fault := 0, arbMiss := 0, selfRun := 0, active := none, verdict := none
    sync := none, parts := [], fusPart := [], confFrom := 0, failedAt := none, serving := none, refused := []
    fusDue := none, samples := [], pubParts := [], pubMiss := 0, inputs := [], output := none, applied := 0
    slaved := none, held := 0, slaveOff := false, lowerRec := false, stale := [], opId := 0, opFno := 0, twice := false
    latched := List.replicate 39 0#32 }

/-- The content of a transmit object (R313): payload, FD and bit-rate-switching flags, the FNO it carries, and whether
SEND_SET built it. -/
structure CanFrame where
  data : List Byte
  fdf  : Bool
  brs  : Bool
  fno  : Nat
  span : Bool
  deriving DecidableEq, Repr

/-- A transmit object (R313–R315): its pending content, the content that waits for the transmission on the bus to end,
and the attempts of the present frame. -/
structure TxObject where
  frame   : Option CanFrame
  next    : Option CanFrame
  retries : Nat
  deriving DecidableEq, Repr

/-- An object never loaded. -/
def TxObject.idle : TxObject := ⟨none, none, 0⟩

/-- A frame on a bus as a controller sees it (R309, R317): identifier, extended, remote, FD, bit rate switched, ESI, DLC,
payload, and the ns since its start-of-frame edge. -/
structure CanRx where
  ident  : Nat
  xtd    : Bool
  remote : Bool
  fdf    : Bool
  brs    : Bool
  esi    : Bool
  dlc    : Nat
  data   : List Byte
  age    : Nat
  deriving DecidableEq, Repr

/-- A CAN controller beside its page (R313–R320): its objects, TEC and REC, whether bus-off recovery has begun, whether a
sleep request waits for the end of the present frame, the module time of the last wake, frames taken per filter since the
last latch, and the fathom in which a replacement was recorded. -/
structure CanBus where
  objs     : List (Nat × TxObject)
  tec      : Nat
  rec_     : Nat
  recover  : Bool
  sleepReq : Bool
  wokenAt  : Option Int
  taken    : List (Nat × Nat)
  replFno  : Option Nat
  deriving DecidableEq, Repr

/-- A controller at reset. -/
def CanBus.fresh : CanBus := ⟨[], 0, 0, false, false, none, [], none⟩

/-- CAN0–CAN3: the four pages and the controllers. -/
structure Can where
  regs  : RMap
  buses : List (Nat × CanBus)
  deriving DecidableEq, Repr

/-- A field channel beside its registers (R333, R335–R342): the level that may become the new filtered state with the
refreshes it has held and the instant of its first sample; the analogue samples of the filter time, newest first; divider pulses
that wait, refreshes left of the pulse and of the low time after it. -/
structure FieldChan where
  run    : Nat
  first  : Int
  analog : List Nat
  pulses : Nat
  high   : Nat
  low    : Nat
  deriving DecidableEq, Repr

/-- A channel at rest. -/
def FieldChan.rest : FieldChan := ⟨0, 0, [], 0, 0, 0⟩

/-- A field group beside its page (R331–R342): its channels; the drivers on; outputs blocked after an overload, and
outputs that wait for a new command (their WAIT bits); the inrush grants in force (channel, end, drams), the channels that wait for one,
and the tie token; consecutive refreshes below 16 V, below 12 V and at or above 17 V; whether the group side holds, since when, and
whether its hold limit has expired unreported; consecutive refreshes that failed at the logic side; the instant of the last good
refresh; edges since the last LATCH; the word of OSRC 1 and the Chain-slaved word; the time-match captures that wait; and the inrush grants made
(R398). -/
structure FieldGroup where
  chans    : List (Nat × FieldChan)
  drv      : BitVec 16
  blocked  : BitVec 16
  grants   : List (Nat × Int × Nat)
  waiting  : BitVec 16
  token    : Nat
  below16  : Nat
  below12  : Nat
  above17  : Nat
  holding  : Option Int
  expired  : Bool
  missed   : Nat
  lastGood : Int
  rising   : BitVec 16
  falling  : BitVec 16
  word1    : BitVec 16
  captures : List Int
  granted  : Nat
  deriving DecidableEq, Repr

/-- A group as reset leaves it. -/
def FieldGroup.fresh : FieldGroup := ⟨[], 0, 0, [], 0, 0, 0, 0, 0, none, false, 0, 0, 0, 0, 0, [], 0⟩

/-- FIO0–FIO11: the twelve pages and the groups. -/
structure Fio where
  regs   : RMap
  groups : List (Nat × FieldGroup)
  deriving DecidableEq, Repr

/-- A serial port beside its page (R343–R348): packets to send, oldest first; whether the first is being sent, or waits for an idle line;
sentences per filter since the last LATCH; and the second of module time in which each of the codes 0xF50–0xF52 was
last recorded. -/
structure SerialPort where
  queue  : List (List Byte)
  active : Bool
  wait   : Bool
  taken  : List (Nat × Nat)
  coded  : List (Nat × Int)
  deriving DecidableEq, Repr

/-- A port at reset. -/
def SerialPort.fresh : SerialPort := ⟨[], false, false, [], []⟩

/-- SER0–SER11: the twelve pages and the ports. -/
structure Ser where
  regs  : RMap
  ports : List (Nat × SerialPort)
  deriving DecidableEq, Repr

/-- A position channel beside its page (R351–R363): the reference state of its lines (A + 2 × B); the transitions already
counted as too fast, by line; whether the last transition was too fast, or double; the instant of the last accepted edge (true ns);
whether the next interval is discarded; the valid intervals since the last LATCH and the sum of their ns; the divider
accumulator; the timestamp of the frame that runs; the true time to which recovery runs; whether the last request was
refused, and whether a frame or request has failed since the last good frame. -/
structure PosChan where
  ref     : BitVec 2
  fast    : BitVec 2
  fastRun : Bool
  dblRun  : Bool
  edgeAt  : Option Nat
  skip    : Bool
  edges   : Nat
  span    : Nat
  acc     : Int
  frame   : Option Int
  recover : Option Nat
  refused : Bool
  failed  : Bool
  deriving DecidableEq, Repr

/-- A channel at reset. Log entry 68 (DEDUCED). -/
def PosChan.fresh : PosChan := ⟨0, 0, false, false, none, false, 0, 0, 0, none, none, false, false⟩

/-- POS0–POS23: the 24 pages and the channels. -/
structure Pos where
  regs  : RMap
  chans : List (Nat × PosChan)
  deriving DecidableEq, Repr

/-- A function instance as one channel evaluates it (R368–R371): its state (0 DISABLED … 6 WAIT_RELEASE), DISCREP, XCMP
and SYNC, whether a demand is present, since when the pairs A, B and C, D disagree, for TWOHAND whether both buttons have been seen
released in STOP and when the first arrived, since when it is DEGRADED, consecutive cycles of disagreement between the channels,
and the counts of demands and faults. -/
structure SafInst where
  state   : Nat
  discrep : Bool
  xcmp    : Bool
  sync    : Bool
  demand  : Bool
  pairAB  : Option Nat
  pairCD  : Option Nat
  ready   : Bool
  firstAt : Option Nat
  degAt   : Option Nat
  xRun    : Nat
  demands : Nat
  faults  : Nat
  deriving DecidableEq, Repr

/-- An instance that is not in use. -/
def SafInst.off : SafInst := ⟨0, false, false, false, false, none, none, false, none, none, 0, 0, 0⟩

/-- A channel of the safety layer (R365, R367, R384): the raw levels of inputs 0–31, the instants of their last change, the
filtered states, the instants at which they closed; its instances; and the request bits it last received, when, and whether they are lost. -/
structure SafChan where
  raw      : BitVec 32
  since    : List (Nat × Nat)
  filt     : BitVec 32
  closedAt : List (Nat × Nat)
  insts    : List (Nat × SafInst)
  req      : BitVec 8
  reqAt    : Nat
  lost     : Bool
  deriving DecidableEq, Repr

/-- A channel at reset. -/
def SafChan.fresh : SafChan := ⟨0, [], 0, [], [], 0, 0, false⟩

/-- A safety output (R372–R374): its switch faults (high side does not open, does not close; low side the same), consecutive
passes of each switch's test, OVERLOAD and SL_UV, whether it waits for its request to be seen 0 and then 1, and has seen
the 0; the last read-back of both terminals, and the load current in mA. -/
structure SafOut where
  hsOn   : Bool
  hsOff  : Bool
  lsOn   : Bool
  lsOff  : Bool
  hsPass : Nat
  lsPass : Nat
  ovl    : Bool
  uv     : Bool
  wait   : Bool
  seen0  : Bool
  rbHs   : Bool
  rbLs   : Bool
  deriving DecidableEq, Repr

/-- An output at reset. -/
def SafOut.fresh : SafOut := ⟨false, false, false, false, 0, 0, false, false, false, false, false, false⟩

/-- The safety layer (R365–R388): the three pages; LAYER (0 OFF, 1 NOSET, 2 RUN, 3 LOCKED); the words of the set in force;
SAFC, SAFH and the outputs; the staging copy; which region of the nonvolatile store is marked active, and the confirmed values
stored with regions A and B; the reset inputs whose press has been released in time and not yet taken; and the presses shorter than
0.1 s. Log entry 73 (DESIGN CHOICE). -/
structure Saf where
  regs    : RMap
  layer   : Nat
  set     : List Word
  c       : SafChan
  h       : SafChan
  outs    : List (Nat × SafOut)
  staging : List (Nat × Word)
  active  : Option Bool
  valueA  : Word
  valueB  : Word
  pressed : BitVec 32
  short   : Nat
  deriving DecidableEq, Repr

/-- PWR (R389–R399): its page; the state of each requester (0 idle, 1 granted, 2 cut, 3 waiting) and its cuts; the decision at
which each that waits began to, and the number of decisions; the tie token of the logic pool; the samples of the last 1 ms, newest first
(true ns, mV); a higher ceiling that holds, with since when; since when V has been below PWR_WARN, above 6 V, above 48 V,
and at 48 V or below; whether the input protection has disconnected; WARN with its beginning; and BELOW_FLOOR. -/
structure Pwr where
  regs      : RMap
  st        : List (Nat × Nat)
  cuts      : List (Nat × Nat)
  waits     : List (Nat × Nat)
  decisions : Nat
  token     : Nat
  samples   : List (Nat × Nat)
  rise      : Option (Nat × Nat)
  lowAt     : Option Nat
  upAt      : Option Nat
  overAt    : Option Nat
  okAt      : Option Nat
  cutOff    : Bool
  warn      : Bool
  warnAt    : Nat
  below     : Bool
  deriving DecidableEq, Repr

/-- PWR as the end of OFF leaves it. -/
def Pwr.fresh : Pwr :=
  ⟨[], [], [], [], 0, 0, [], none, none, none, none, none, false, false, 0, false⟩


/-- An open transfer (R426): its session, region, offset and length. -/
structure Transfer where
  session : Nat
  region  : Nat
  offset  : Nat
  length  : Nat
  deriving DecidableEq, Repr

/-- NVS (R425, R426, R430): its page; the transfer open; what the key block holds (R303): service keys and image keys by slot, and
the boot options of SUP_BOOT; the regions whose content was found sound (one bit each); and the true time of the last failed
write in the recorder bank. -/
structure Nvs where
  regs     : RMap
  transfer : Option Transfer
  keys     : List (Nat × List Byte)
  images   : List (Nat × List Byte)
  boot     : Word
  sound    : BitVec 16
  lastFail : Option Nat
  deriving DecidableEq, Repr

/-! ## The units as a reset leaves them (R11, R420) -/

/-- SUP at reset, with the time of power-on. -/
def Sup.fresh (bootAt : Nat) : Sup :=
  { regs := [], request := none, reqUs := 0, copy := none, passed := false, stopped := 0, refLost := false, dead := false
    autoRun := false, bootAt := bootAt }

/-- SNAP at reset: the snapshot count is cleared (R420). -/
def Snap.fresh : Snap := ⟨[], 0, none, false⟩

/-- A recorder whose store holds nothing (R400, R404): the power-cycle count as the entry into BOOT leaves it.
Log entry 86 (DESIGN CHOICE). -/
def Rec.fresh : Rec :=
  { regs := [], queue := [], lostSince := 0, nextSeq := 0, ringCount := 0, failRun := 0, onNs := 0, pcyc := 1, copyA := (0, 0)
    copyB := (0, 0), copyLast := false, searched := false, saving := [] }

/-- SEQ at reset: both banks empty, no fathom counted (R39, R55). Log entry 86 (DESIGN CHOICE). -/
def Seq.fresh : Seq :=
  { regs := [], count := 0, counted := false, startUs := 0, lenUs := 2500, phaseUs := 0, bank := false, active := 0
    loaded := false, swapAt := none, settle := false, issued := [], runs := [], stuck := [], aborts := [], fnoHigh := 0 }

/-- FQ at reset: every firkin empty. -/
def Fq.fresh : Fq := ⟨[], []⟩

/-- FLT at reset. -/
def Flt.fresh : Flt := ⟨[], [], [], 0, 0⟩

/-- PRG at reset: no image, the force table cleared (R420), with the retained copies of the nonvolatile store.
Log entry 86 (DESIGN CHOICE). -/
def Prg.fresh (a b : Option (Word × Nat × List Host.Cell)) : Prg :=
  { regs := [], image := none, slot := false, other := none, report := [], tasks := [], banks := [], shadow := [], written := []
    forces := [], nextOrder := 0, tokens := [0, 0, 0], f0 := 0, saving := none, saveNext := false, copyA := a, copyB := b }

/-- EST at reset. -/
def Est.fresh : Est := ⟨[], EstData.fresh, none, false, false, [], []⟩

/-- FUS's data at reset. -/
def FusData.fresh : FusData := ⟨0, 0, [], [], 0, 0⟩

/-- FUS at reset. -/
def Fus.fresh : Fus :=
  { regs := [], pool := [], last := [], rateFno := 0, ratePts := 0, rateRec := false, planeB := false, centre := none, winPts := 0
    winMap := 0, winNo := false, data := FusData.fresh, work := none, workPose := [], seed := false, srcSel := 0, mirrorOut := false }

/-- GNS0, GNS1 and GNSC at reset. -/
def Gns.fresh : Gns :=
  { regs := [], chans := [], supplyOff := 0, cutRec := 0, epoch := none, stepped := false, noTime := 0, agree := 0, agreeLo := 0
    agreeHi := 0, lastValid := none, sigma0 := 0, hdg := 0, samples := [], offset := none, returned := false, pps := false
    ppsAt := none, capture := none, exported := 0, kept := none }

/-- CTL0 and CTL1 at reset. -/
def Ctl.fresh : Ctl := ⟨[], [], [], [], Stage.fresh⟩

/-- ALC at reset. -/
def Alc.fresh : Alc := ⟨[], AlcData.fresh, none, false, false⟩

/-- SOL0 and SOL1 at reset. -/
def Sol.fresh : Sol := ⟨[], SolData.fresh, none, false, false, false⟩

/-- The safety layer at reset, with which region of the store is active and the confirmed values of both (R379).
Log entry 86 (DESIGN CHOICE). -/
def Saf.fresh (active : Option Bool) (a b : Word) : Saf :=
  { regs := [], layer := 0, set := [], c := SafChan.fresh, h := SafChan.fresh, outs := [], staging := [], active := active
    valueA := a, valueB := b, pressed := 0, short := 0 }

/-- NVS at reset, with what the key block holds (R303, R425). Log entry 86 (DESIGN CHOICE). -/
def Nvs.fresh (keys images : List (Nat × List Byte)) (boot : Word) : Nvs :=
  { regs := [], transfer := none, keys := keys, images := images, boot := boot, sound := 0, lastFail := none }

/-- The state of the module (R417 and every chapter), with the queue of commands that wait. Log entry 85 (DESIGN CHOICE). -/
structure State where
  /-- True time in ns since the model's beginning, as the commands name it. -/
  now     : Nat
  mode    : Mode
  mem     : Mem
  /-- For each buffer pair (R46), by its block index, where the visible half lies: so many blocks after the first half
  (0: the first half itself). -/
  second  : List (Nat × Nat)
  /-- The cells of the common headers of all pages (R432), and the frozen copies of R433. -/
  hdr     : RMap
  frozen  : RMap
  sup     : Sup
  log     : Rec
  snap    : Snap
  tim     : Tim
  ptp     : Ptp
  net     : Net
  seq     : Seq
  fq      : Fq
  flt     : Flt
  prg     : Prg
  est     : Est
  fus     : Fus
  gns     : Gns
  ctl     : Ctl
  alc     : Alc
  sol     : Sol
  chn     : Chn
  can     : Can
  fio     : Fio
  ser     : Ser
  pos     : Pos
  saf     : Saf
  pwr     : Pwr
  nvs     : Nvs
  /-- ES+ outputs that a fuse has switched off (R449). -/
  esOff   : BitVec 4
  /-- What the module has sent, newest first, and what its last read returned: the model's own fields. -/
  outbox  : List Emit
  /-- The counter that gives each free value its own argument: the model's own field. -/
  free    : Nat
  pending : List Instr
  deriving DecidableEq, Repr

/-- Why a command stops the model. No command of the spec does: the type has one reason, which no meaning raises. -/
inductive Fault where
  /-- Raised by nothing (safe). -/
  | none
  deriving DecidableEq, Repr

/-- Why a command has no meaning. -/
inductive Refusal where
  /-- The command of this mnemonic is not modelled yet: raised by an arm of Dispatch only (safe). -/
  | notModelled (mnemonic : String)
  deriving DecidableEq, Repr

/-- The machine right after the reset at power-on (R417, R420): BOOT, every register at its reset value, no memory written, an
empty nonvolatile store. Log entry 86 (DESIGN CHOICE). -/
def State.reset : State :=
  { now := 0, mode := .boot, mem := ⟨[], []⟩, second := [], hdr := [], frozen := [], sup := Sup.fresh 0, log := Rec.fresh
    snap := Snap.fresh, tim := Tim.fresh, ptp := Ptp.fresh [], net := Net.fresh [], seq := Seq.fresh, fq := Fq.fresh
    flt := Flt.fresh, prg := Prg.fresh none none, est := Est.fresh, fus := Fus.fresh, gns := Gns.fresh, ctl := Ctl.fresh
    alc := Alc.fresh, sol := Sol.fresh, chn := Chn.fresh [] 0, can := ⟨[], []⟩, fio := ⟨[], []⟩, ser := ⟨[], []⟩
    pos := ⟨[], []⟩, saf := Saf.fresh none 0 0, pwr := Pwr.fresh, nvs := Nvs.fresh [] [] 0, esOff := 0, outbox := [], free := 0
    pending := [] }

end Sys2Proof.Machine
end

