-- ==== Sys2Proof/Machine/Ops.lean ====
section
/-! DEFINITION. The named operations over registers and memory: register cells and their reset values (R6–R11),
the islands (R12, R15), the address map and the 280/256 code at its reads and writes (R16–R24), buffer pairs (R46),
module time (R287–R288), and what a unit's work asks for (`Fx`). -/

namespace Sys2Proof.Machine

/-! ## Pages and register cells -/

/-- The pages of R431 by name. -/
abbrev Pg.ID : Nat := 0x00
abbrev Pg.SUP : Nat := 0x01
abbrev Pg.PWR : Nat := 0x02
abbrev Pg.SNAP : Nat := 0x03
abbrev Pg.SEQ : Nat := 0x04
abbrev Pg.TIM : Nat := 0x05
abbrev Pg.NVS : Nat := 0x06
abbrev Pg.REC : Nat := 0x07
abbrev Pg.PRG : Nat := 0x08
abbrev Pg.SAFC : Nat := 0x0B
abbrev Pg.SAFH : Nat := 0x0C
abbrev Pg.SFO : Nat := 0x0D
abbrev Pg.FQ : Nat := 0x0E
abbrev Pg.CHN : Nat := 0x0F
abbrev Pg.ETH : Nat := 0x10
abbrev Pg.PRP : Nat := 0x14
abbrev Pg.PTP : Nat := 0x15
abbrev Pg.CAN : Nat := 0x16
abbrev Pg.FLT : Nat := 0x1A
abbrev Pg.EST : Nat := 0x1B
abbrev Pg.FUS0 : Nat := 0x1C
abbrev Pg.FUS1 : Nat := 0x1D
abbrev Pg.GNS : Nat := 0x1E
abbrev Pg.GNSC : Nat := 0x20
abbrev Pg.CTL : Nat := 0x21
abbrev Pg.SOL0 : Nat := 0x23
abbrev Pg.SOL1 : Nat := 0x24
abbrev Pg.ALC : Nat := 0x25
abbrev Pg.SER : Nat := 0x26
abbrev Pg.FIO : Nat := 0x32
abbrev Pg.POS : Nat := 0x3E

/-- The number of pages. -/
def pageCount : Nat := 0x56

/-- The layout of a page (R431). -/
def layoutOf (page : Nat) : Option PageLayout :=
  layouts.find? (fun l => decide (l.page0 ≤ page) && decide (page < l.page0 + l.count))

/-- The island a page lives in (R12, R15). -/
def islandOf (page : Nat) : Nat := match layoutOf page with | some l => l.island | none => 0

/-- The row of a register of a page, by its offset in the page. Log entry 3 (DESIGN CHOICE). -/
def rowOf (page off : Nat) : Option RegRow :=
  match layoutOf page with
  | some l => l.rows.find? (fun r => r.off == off)
  | none => none

/-- PAGE_ID of a page (R431, R432). -/
def pageId (page : Nat) : Word :=
  match layoutOf page with
  | some l => wd ((0x5A00 + l.page0) * 0x10000 + (page - l.page0) * 0x100 + 1)
  | none => 0

/-- The reset value of a header register (R432). -/
def headerReset (page off : Nat) : Word :=
  if off = 0 then pageId page
  else if off = 4 then (match layoutOf page with | some l => wd l.feat | none => 0)
  else if off = 8 then 1#32
  else 0

/-- The CUT_RANK a requester of the logic pool resets to (R393). -/
def cutRankReset (w : Nat) : Nat :=
  if w = 19 then 5 else if w = 18 then 4 else if w = 16 then 3 else if w = 15 then 2 else if w = 14 then 1
  else if w = 20 then 1 else 0

/-- The register cell at offset off of page p, window w, as a key of a cell map. -/
def cellKey (page off w : Nat) : Nat := page * 0x400 + off + 0x20000 * w

/-- A register cell of a named register: its offset from 0x4000_0000, the instance n of its page and the window w. -/
def rk (r n w : Nat) : Nat := r + 0x400 * n + 0x20000 * w

/-- FEAT_OFFER0 (R427). -/
def featOffer0 : Nat := 0x0001FFFF

/-- What a cell reads as that nothing has written: its reset value (R11). Log entry 3 (DESIGN CHOICE). -/
def regReset (k : Nat) : Word :=
  let page := k % 0x20000 / 0x400
  let off := k % 0x400
  if off < 0x40 then headerReset page off
  else if k = Reg.FEAT_OFFER0 then wd featOffer0
  else if k % 0x20000 = Reg.PWR_R_CFG then wd (cutRankReset (k / 0x20000))
  else match rowOf page off with
    | some r => wd r.reset
    | none => 0

/-- The value of a register cell. -/
def rget (m : RMap) (k : Nat) : Word := sget regReset m k

/-- The cells with cell k at v. -/
def rset (m : RMap) (k : Nat) (v : Word) : RMap := sset regReset m k v

/-- Cell k changed by f. -/
def rmod (m : RMap) (k : Nat) (f : Word → Word) : RMap := rset m k (f (rget m k))

/-- Several cells set in order. -/
def rsets (m : RMap) : List (Nat × Word) → RMap
  | [] => m
  | (k, v) :: kvs => rsets (rset m k v) kvs

/-- A field of a register cell. -/
def rfld (m : RMap) (k hi lo : Nat) : Nat := bits (rget m k) hi lo

/-- A bit of a register cell. -/
def rbit (m : RMap) (k i : Nat) : Bool := bit (rget m k) i

/-- A 64-bit value in two cells, low word first. -/
def rset64 (m : RMap) (kl kh : Nat) (v : Int) : RMap :=
  rset (rset m kl (wi v)) kh (wi (v / 4294967296))

/-- A 64-bit value of two cells. -/
def rget64 (m : RMap) (kl kh : Nat) : Nat := (rget m kl).toNat + 4294967296 * (rget m kh).toNat

/-- The cells of a page returned to their reset values. -/
def clearPage (m : RMap) (page : Nat) : RMap := sdrop (fun k => k % 0x20000 / 0x400 == page) m

/-! ## The common header (R432–R436) -/

/-- A code recorded in a page's PAGE_ERR (R434): CODE, and COUNT saturating at 0x7FFF. -/
def hdrCode (h : RMap) (page code : Nat) : RMap :=
  rmod h (cellKey page 0x18 0) (fun w => wd (code % 0x10000 + 0x10000 * satInc 15 (bits w 30 16)))

/-- A PAGE_EVT flag set (R436). Log entry 87 (DESIGN CHOICE). -/
def hdrEvt (h : RMap) (page flag : Nat) : RMap :=
  rmod h (cellKey page 0x10 0) (fun w => putBit w flag true)

/-- PAGE_SEQ of a page, one more (R435). -/
def hdrSeq (h : RMap) (page : Nat) : RMap :=
  rmod h (cellKey page 0x1C 0) (fun w => w + 1#32)

/-- PAGE_CTRL.ENABLE of a page (R433). -/
def hdrEnabled (h : RMap) (page : Nat) : Bool := rbit h (cellKey page 8 0) 0

/-! ## Module time (R287, R288) -/

/-- TIM_RAW (R287). -/
def Tim.raw (t : Tim) : Nat := 4 * (t.refNs / 4)

/-- Module time in ns (R288). Log entry 5 (DESIGN CHOICE). -/
def Tim.time (t : Tim) : Int :=
  t.offset + (t.raw : Int) + Int.fdiv (((t.raw : Int) - t.anchor) * (t.freq + t.slew)) 1099511627776

/-- Module time in µs: the tick of R38. -/
def Tim.us (t : Tim) : Int := Int.fdiv t.time 1000

/-- The rate changed to a new FREQ and SLEW, the old rate folded into the offset (R288). -/
def Tim.setRate (t : Tim) (freq slew : Int) : Tim :=
  { t with
    offset := t.offset + Int.fdiv (((t.raw : Int) - t.anchor) * (t.freq + t.slew)) 1099511627776,
    anchor := t.raw, freq := freq, slew := slew }

/-! ## Islands and what is powered (R12, R15, R417) -/

/-- Whether an island is running: in BOOT I2–I11 are held in reset, in HALT only I0, I1 and I8 run (R417), and a
stopped island stays stopped until the next reset (R15). -/
def State.islandUp (s : State) (i : Nat) : Bool :=
  (match s.mode with
   | .off => false
   | .boot => decide (i ≤ 1)
   | .halt => decide (i = 0) || decide (i = 1) || decide (i = 8)
   | _ => true) && !(s.sup.stopped.getLsbD i)

/-- The islands of the requesters whose silence stops a page's answers (R15). -/
def State.pageUp (s : State) (page : Nat) : Bool := s.islandUp (islandOf page)

/-- A feature accepted by a successful negotiation (R2, R427). Log entry 12 (DEDUCED). -/
def State.feature (s : State) (k : Nat) : Bool :=
  rbit s.sup.regs Reg.FEAT_STATUS 0 && rbit s.sup.regs (rk Reg.FEAT_ACCEPT0 0 0 + 4 * (k / 32)) (k % 32)

/-- Fathoms are counted (R55): in every state but BOOT, once the first exit from CONFIG has been made. -/
def State.counting (s : State) : Bool :=
  s.seq.counted && (match s.mode with | .off => false | .boot => false | .halt => false | _ => true)

/-- The fathom number: the low word of the fathom count (R39). -/
def State.fno (s : State) : Word := wd s.seq.count

/-- Ticks since the fathom in progress began. -/
def State.tick (s : State) : Nat := (s.tim.us - s.seq.startUs).toNat

/-! ## Memory (R16–R24) -/

/-- What an unlisted byte of memory reads as: 0 (assumption 2). Log entry 2 (DESIGN CHOICE). -/
def memDefault (_ : Nat) : Byte := 0

/-- What an unlisted block's error pattern is: none. Log entry 2 (DESIGN CHOICE). -/
def noFlips (_ : Nat) : Codeword := 0

/-- A byte as last written. Log entry 2 (DESIGN CHOICE). -/
def Mem.byte (m : Mem) (a : Nat) : Byte := sget memDefault m.bytes a

/-- The error pattern of the block a byte address lies in. -/
def Mem.flip (m : Mem) (a : Nat) : Codeword := sget noFlips m.flips (a / 32)

/-- n bytes as last written, from a. -/
def Mem.bytesAt (m : Mem) (a : Nat) : Nat → List Byte
  | 0 => []
  | n + 1 => m.byte a :: m.bytesAt (a + 1) n

/-- A word as last written (R4). -/
def Mem.word (m : Mem) (a : Nat) : Word := wd (leNat (m.bytesAt a 4))

/-- The canonical form of memory: both lists strictly rising, no entry equal to what an unlisted one reads as. -/
def Mem.wf (m : Mem) : Bool := swf memDefault m.bytes && swf noFlips m.flips

/-- The outcome of reading the block at a byte address (R21), and the pattern of the delivered data. Log entry 17 (DEDUCED). -/
def Mem.outcome (m : Mem) (a : Nat) : ReadOutcome × BitVec 256 := decodePattern (m.flip a)

/-- Whether the block at a byte address is delivered poisoned. -/
def Mem.isBad (m : Mem) (a : Nat) : Bool := (m.outcome a).1.isBad

/-- Byte i of a 256-bit pattern. -/
def patternByte (d : BitVec 256) (i : Nat) : Byte := d.extractLsb' (8 * i) 8

/-- A byte as a reader gets it (R21). -/
def Mem.readByte (m : Mem) (a : Nat) : Byte := m.byte a ^^^ patternByte (m.outcome a).2 (a % 32)

/-- n bytes as a reader gets them. -/
def Mem.readBytes (m : Mem) (a : Nat) : Nat → List Byte
  | 0 => []
  | n + 1 => m.readByte a :: m.readBytes (a + 1) n

/-- A word as a reader gets it. -/
def Mem.readWord (m : Mem) (a : Nat) : Word := wd (leNat (m.readBytes a 4))

/-- n words as a reader gets them. -/
def Mem.readWords (m : Mem) (a : Nat) : Nat → List Word
  | 0 => []
  | n + 1 => m.readWord a :: m.readWords (a + 4) n

/-- Whether any of n blocks from a byte address is delivered poisoned. -/
def Mem.anyBad (m : Mem) (a : Nat) : Nat → Bool
  | 0 => false
  | n + 1 => m.isBad a || m.anyBad (a + 32) n

/-- The bytes of memory with a run of bytes stored from a. -/
def storeBytes (b : List Host.Cell) (a : Nat) (d : List Byte) : List Host.Cell := ssetRun memDefault b a d

/-- The error pattern of a block set. -/
def setFlip (f : List (Nat × Codeword)) (blk : Nat) (e : Codeword) : List (Nat × Codeword) := sset noFlips f blk e

/-- The blocks (block numbers) that a store of n bytes from a touches. -/
def blocksOf (a n : Nat) : List Nat :=
  if n = 0 then [] else (upto ((a + n - 1) / 32 + 1 - a / 32)).map (fun i => a / 32 + i)

/-- Whether a store covers a block whole (R24). -/
def coversBlock (a n blk : Nat) : Bool := decide (a ≤ 32 * blk) && decide (32 * blk + 32 ≤ a + n)

/-- What a store leaves in the error pattern of a block it touches (R24): a whole-block write clears an earlier mark,
a partial write stores the block sound when it read sound and poisoned when it did not. -/
def flipAfterStore (m : Mem) (st : Store) (blk : Nat) : Codeword :=
  if st.poison then poisonPattern
  else if coversBlock st.addr st.data.length blk then 0
  else if m.isBad (32 * blk) then poisonPattern else 0

/-- The error patterns after a store. -/
def storeFlips (m : Mem) (st : Store) : List (Nat × Codeword) :=
  (blocksOf st.addr st.data.length).foldl (fun f blk => setFlip f blk (flipAfterStore m st blk)) m.flips

/-- Memory after a store. -/
def Mem.store (m : Mem) (st : Store) : Mem :=
  { bytes := storeBytes m.bytes st.addr st.data, flips := storeFlips m st }

/-- Memory after several stores, in order. -/
def Mem.stores (m : Mem) (sts : List Store) : Mem := sts.foldl Mem.store m

/-- The blocks a store reads before it writes (R24): those it does not cover whole. -/
def readsOfStore (st : Store) : List (Nat × Nat) :=
  ((blocksOf st.addr st.data.length).filter (fun blk => !coversBlock st.addr st.data.length blk)).map
    (fun blk => (st.page, 32 * blk))

/-- Upsets that have struck memory since the last command. Log entry 17 (DEDUCED). -/
def Mem.strike (m : Mem) (ups : List Upset) : Mem :=
  { m with flips := ups.foldl (fun f u => setFlip f (u.addr / 32) (sget noFlips f (u.addr / 32) ^^^ u.bits)) m.flips }

/-! ## The address map (R16) and the coded memories outside it (R21) -/

/-- The regions of R16. -/
inductive Region where
  | bootRom | program | shared | nonvolatile | pages | sol0 | sol1 | fusion | snapshot | firkins
  deriving DecidableEq, Repr

/-- The region an address lies in; none is unmapped. -/
def regionOf (a : Nat) : Option Region :=
  if a < 0x20000 then some .bootRom
  else if 0x10000000 ≤ a ∧ a < 0x10800000 then some .program
  else if 0x20000000 ≤ a ∧ a < 0x21000000 then some .shared
  else if 0x30000000 ≤ a ∧ a < 0x34000000 then some .nonvolatile
  else if 0x40000000 ≤ a ∧ a < 0x40015800 then some .pages
  else if 0x50000000 ≤ a ∧ a < 0x50200000 then some .sol0
  else if 0x51000000 ≤ a ∧ a < 0x51200000 then some .sol1
  else if 0x52000000 ≤ a ∧ a < 0x54000000 then some .fusion
  else if 0x54000000 ≤ a ∧ a < 0x54400000 then some .snapshot
  else if 0x58000000 ≤ a ∧ a < 0x58000400 then some .firkins
  else none

/-- Where the memories outside the address map lie in the model's memory: above 4 GiB, one range each (R21). Log entry 16 (DEDUCED). -/
abbrev furlongBase : Nat := 0x100000000
abbrev ctlBase     : Nat := 0x110000000
abbrev alcBase     : Nat := 0x120000000
abbrev fltBase     : Nat := 0x130000000
abbrev dumpBase    : Nat := 0x140000000
abbrev prgBase     : Nat := 0x150000000
abbrev shelfBase   : Nat := 0x160000000
/-- The base of shared SRAM. -/
abbrev sramBase    : Nat := 0x20000000

/-- The base address of the memory an address belongs to. -/
def memBaseOf (a : Nat) : Nat :=
  if a < 0x100000000 then
    (match regionOf a with
     | some .bootRom => 0
     | some .program => 0x10000000
     | some .shared => 0x20000000
     | some .nonvolatile => 0x30000000
     | some .pages => 0x40000000
     | some .sol0 => 0x50000000
     | some .sol1 => 0x51000000
     | some .fusion => 0x52000000
     | some .snapshot => 0x54000000
     | some .firkins => 0x58000000
     | none => 0)
  else a / 0x10000000 * 0x10000000

/-- The index of FQ_CODE_SEL of the memory an address belongs to (R36). -/
def codeIndexOf (a : Nat) : Nat :=
  match regionOf a with
  | some .program => 0
  | some .shared => 1
  | some .sol0 => 2
  | some .sol1 => 3
  | some .fusion => 4
  | some .snapshot => 5
  | some .nonvolatile => 6
  | some .bootRom => 8
  | _ => 7

/-- The block address of an address within its memory (R19, R36). -/
def blockAddrOf (a : Nat) : Nat := (a - memBaseOf a) / 32

/-! ## Buffer pairs in shared SRAM (R46) -/

/-- The byte address of a block of shared SRAM. -/
def sramAddr (blk : Nat) : Nat := sramBase + 32 * blk

/-- How many blocks after the pair's block the visible half lies. -/
def pairShift (v : List (Nat × Nat)) (blk : Nat) : Nat := sget (fun _ => 0) v blk

/-- The halves of the pair at a block, of len blocks each, exchanged: its publication (R46). -/
def pairSwap (v : List (Nat × Nat)) (blk len : Nat) : List (Nat × Nat) :=
  sset (fun _ => 0) v blk (if pairShift v blk = 0 then len else 0)

/-- The byte address of the visible half of the pair at a block. -/
def State.visible (s : State) (blk : Nat) : Nat := sramAddr (blk + pairShift s.second blk)

/-- The byte address of the hidden half of a pair of len blocks per half. -/
def State.hidden (s : State) (blk len : Nat) : Nat :=
  sramAddr (if pairShift s.second blk = 0 then blk + len else blk)

/-! ## Ties (R26) -/

/-- The order in which a tie token serves tied requesters of n indexes (listed ascending), and the token after it: of two or
more that remain, the one at or next above the token wins and the token moves to the index above; one alone is no tie.
Log entry 66 (DEDUCED). -/
def tieOrder (n token : Nat) (l : List Nat) : List Nat × Nat :=
  let o := l.filter (fun c => decide (token ≤ c)) ++ l.filter (fun c => decide (c < token))
  (o, match o.dropLast.getLast? with | some c => (c + 1) % n | none => token)

/-! ## What a unit's work asks for -/

/-- Nothing asked. -/
def Fx.none : Fx := ⟨[], [], [], [], [], [], [], [], []⟩

/-- Both, the first before the second. -/
def Fx.app (a b : Fx) : Fx :=
  ⟨a.codes ++ b.codes, a.evts ++ b.evts, a.reads ++ b.reads, a.samples ++ b.samples, a.pushes ++ b.pushes,
   a.triggers ++ b.triggers, a.snaps ++ b.snaps, a.emits ++ b.emits, a.heals ++ b.heals⟩

/-- A unit that asks for nothing. -/
def W.of {U : Type} (u : U) : W U := ⟨u, Fx.none, []⟩

/-- The unit changed. -/
def W.map {U : Type} (f : U → U) (w : W U) : W U := { w with u := f w.u }

/-- A code recorded in a page (R434). -/
def W.code {U : Type} (page code : Nat) (payload : List Word) (w : W U) : W U :=
  { w with fx := { w.fx with codes := w.fx.codes ++ [⟨page, code, payload, false⟩] } }

/-- A code recorded in a page and in REC whatever its class (R402). -/
def W.codeRec {U : Type} (page code : Nat) (payload : List Word) (w : W U) : W U :=
  { w with fx := { w.fx with codes := w.fx.codes ++ [⟨page, code, payload, true⟩] } }

/-- A PAGE_EVT flag set. -/
def W.evt {U : Type} (page flag : Nat) (w : W U) : W U :=
  { w with fx := { w.fx with evts := w.fx.evts ++ [(page, flag)] } }

/-- A block read by a page's unit. Log entry 18 (DEDUCED). -/
def W.read {U : Type} (page addr : Nat) (w : W U) : W U :=
  { w with fx := { w.fx with reads := w.fx.reads ++ [(page, addr)] } }

/-- n blocks read from a byte address: those that hold an error, since a sound read leaves nothing (R21). -/
def W.readN {U : Type} (m : Mem) (page addr n : Nat) (w : W U) : W U :=
  { w with fx := { w.fx with reads := w.fx.reads ++
      (((upto n).map (fun i => addr + 32 * i)).filter (fun a => m.flip a != 0)).map (fun a => (page, a)) } }

/-- A sample delivered to FLT. -/
def W.sample {U : Type} (x : Sample) (w : W U) : W U :=
  { w with fx := { w.fx with samples := w.fx.samples ++ [x] } }

/-- A packet pushed into a firkin. -/
def W.push {U : Type} (x : Push) (w : W U) : W U :=
  { w with fx := { w.fx with pushes := w.fx.pushes ++ [x] } }

/-- An event trigger. -/
def W.trigger {U : Type} (x : Trigger) (w : W U) : W U :=
  { w with fx := { w.fx with triggers := w.fx.triggers ++ [x] } }

/-- A snapshot trigger from a source of R409. -/
def W.snapTrig {U : Type} (src : Nat) (w : W U) : W U :=
  { w with fx := { w.fx with snaps := w.fx.snaps ++ [src] } }

/-- A frame or reply sent. Log entry 85 (DESIGN CHOICE). -/
def W.emit {U : Type} (x : Emit) (w : W U) : W U :=
  { w with fx := { w.fx with emits := w.fx.emits ++ [x] } }

/-- n blocks of a private memory written whole, which clears an earlier mark (R24). -/
def W.heal {U : Type} (addr n : Nat) (w : W U) : W U :=
  { w with fx := { w.fx with heals := w.fx.heals ++ (upto n).map (fun i => addr + 32 * i) } }

/-- Bytes stored by a page's unit. -/
def W.store {U : Type} (page addr : Nat) (data : List Byte) (w : W U) : W U :=
  { w with st := w.st ++ [⟨page, addr, data, false⟩] }

/-- Bytes stored, with the block marked poisoned when it came so (R20). -/
def W.storeP {U : Type} (page addr : Nat) (data : List Byte) (poison : Bool) (w : W U) : W U :=
  { w with st := w.st ++ [⟨page, addr, data, poison⟩] }

/-- A step taken only when a condition holds. -/
def W.when {U : Type} (c : Bool) (f : W U → W U) (w : W U) : W U := if c then f w else w

/-- The bytes of a list of words (R4). -/
def wordsBytes (ws : List Word) : List Byte := ws.flatMap wordBytes

/-- A 64-bit value as its low and its high word. -/
def lo32 (v : Int) : Word := wi v
/-- The high word of a 64-bit value. -/
def hi32 (v : Int) : Word := wi (v / 4294967296)

end Sys2Proof.Machine
end

