-- ==== Sys2Proof/Machine/Trig.lean ====
section
/-! DEFINITION. The sines of R85, binary angles, planar rotations, medians and integer square roots that several
engines share, and what a span hands its unit. -/

namespace Sys2Proof.Machine

/-- π scaled by 2^120. -/
def piQ : Int := 4175892906503776358826876457663557747

/-- One term of the sine series at scale 2^120. -/
def sinTerm (x t : Int) (n : Nat) : Int :=
  fdiv (fdiv (-(fdiv (t * x) (2 ^ 120 : Nat)) * x) (2 ^ 120 : Nat)) ((2 * n * (2 * n + 1) : Nat) : Int)

/-- The sum of fuel terms of the sine series. -/
def sinSum (x : Int) : Nat → Nat → Int → Int
  | 0, _, _ => 0
  | fuel + 1, n, t => t + sinSum x fuel (n + 1) (sinTerm x t n)

/-- Entry s_k of the table of R85: round(2^30 × sin(π k / 8,192)), from the sine series carried at 2^120; s_4,096
stands for 2^30. -/
def sinTab (k : Nat) : Int :=
  if k = 4096 then 1073741824
  else
    let x := fdiv (piQ * k) 8192
    fdiv (sinSum x 24 1 x + (2 ^ 89 : Nat)) (2 ^ 90 : Nat)

/-- sin of a binary angle, Q1.30 (R85). -/
def binSin (a : Int) : Int :=
  let a := (a % 4294967296).toNat
  let r := a % 1073741824
  let r := if a.testBit 30 then 1073741824 - r else r
  let k := r / 262144
  let f := r % 262144
  let v := if k = 4096 then 1073741824 else sinTab k + fdiv ((sinTab (k + 1) - sinTab k) * f + 131072) 262144
  if a.testBit 31 then -v else v

/-- cos of a binary angle, Q1.30 (R85). -/
def binCos (a : Int) : Int := binSin (a + 1073741824)

/-- The planar rotation of (x, y) by a binary angle, rounded to nearest. -/
def rot2 (a : Int) (p : Int × Int) : Int × Int :=
  (roundShift (binCos a * p.1 - binSin a * p.2) 30, roundShift (binSin a * p.1 + binCos a * p.2) 30)

/-- A binary angle difference in (−180°, +180°]. -/
def angleDiff (a : Int) : Int :=
  let r := a % 4294967296
  if 2147483648 < r then r - 4294967296 else r

/-- A signed binary angle in Q3.28 rad, rounded to nearest. -/
def angleToRad (a : Int) : Int := fdiv (a * piQ + (2 ^ 122 : Nat)) (2 ^ 123 : Nat)

/-- A Q3.28 angle in rad as a binary angle, rounded to nearest. -/
def radToAngle (r : Int) : Int := fdiv (2 * r * (2 ^ 123 : Nat) + piQ) (2 * piQ)

/-- A number put before the first larger one. -/
def insertI (x : Int) : List Int → List Int
  | [] => [x]
  | y :: ys => if x < y then x :: y :: ys else y :: insertI x ys

/-- A list of numbers in rising order. -/
def sortI (l : List Int) : List Int := l.foldl (fun acc x => insertI x acc) []

/-- The median; with an even count the mean of the two middle values, rounded to nearest (R93). -/
def medianI (l : List Int) : Int :=
  let s := sortI l
  let n := s.length
  if n = 0 then 0
  else if n % 2 = 1 then s.getD (n / 2) 0
  else fdiv (s.getD (n / 2 - 1) 0 + s.getD (n / 2) 0 + 1) 2

/-- The bits of the integer square root found so far, from bit `fuel − 1` down. -/
def isqrtFrom (n : Nat) : Nat → Nat → Nat
  | 0, r => r
  | fuel + 1, r => isqrtFrom n fuel (if (r + 2 ^ fuel) * (r + 2 ^ fuel) ≤ n then r + 2 ^ fuel else r)

/-- The integer square root of a number below 2^160. -/
def isqrt (n : Nat) : Nat := isqrtFrom n 80 0

/-- What a span hands its unit at START: memory, module time in ns, the fathom count, its start (µs) and LEN_US, the
visible half of any pair, the operands of R42 with SRC and DST resolved to byte addresses (R46), DIV and
DEADLINE of the span, and a free value -/
structure SpanIn where
  mem     : Mem
  now     : Int
  fno     : Nat
  startUs : Int
  lenUs   : Nat
  vis     : Nat → Nat
  src     : Nat
  dst     : Nat
  srcLen  : Nat
  dstLen  : Nat
  srcBlk  : Nat
  dstBlk  : Nat
  arg     : Word
  div     : Nat
  ddl     : Nat
  free    : Word

/-- A unit's work under a span: the unit after it, what it asks for, and whether there is a result (R23). -/
structure R (U : Type) where
  w  : W U
  ok : Bool

/-- Work with a result. -/
def R.good {U : Type} (w : W U) : R U := ⟨w, true⟩

/-- Work that ends without a result (R23, R58). -/
def R.bad {U : Type} (w : W U) : R U := ⟨w, false⟩

/-- A signed word of a list. -/
def swAt (ws : List Word) (i : Nat) : Int := sw (wordAt ws i)

end Sys2Proof.Machine
end

