-- ==== Sys2Proof/Machine/Can.lean ====
section
/-! DEFINITION. The CAN FD controllers and the Dalsen drive profile (R309–R328). -/

namespace Sys2Proof.Machine

/-- What a controller nothing has touched is. -/
def canDefault (_ : Nat) : CanBus := CanBus.fresh

/-- Controller n. -/
def Can.bus (u : Can) (n : Nat) : CanBus := sget canDefault u.buses n

/-- Controller n set. -/
def Can.putBus (u : Can) (n : Nat) (b : CanBus) : Can := { u with buses := sset canDefault u.buses n b }

/-- An object nobody has loaded. -/
def txDefault (_ : Nat) : TxObject := TxObject.idle

/-- Object o of controller n. -/
def Can.obj (u : Can) (n o : Nat) : TxObject := sget txDefault (u.bus n).objs o

/-- Object o of controller n set. -/
def Can.putObj (u : Can) (n o : Nat) (x : TxObject) : Can :=
  u.putBus n { u.bus n with objs := sset txDefault (u.bus n).objs o x }

/-- A cell of controller n changed. -/
def Can.mod (u : Can) (r n w : Nat) (f : Word → Word) : Can := { u with regs := rmod u.regs (rk r n w) f }

/-- CANn_TX_CFG of an object. -/
def Can.txCfg (u : Can) (n o : Nat) : Word := rget u.regs (rk Reg.CAN_TX_CFG n o)

/-- STATE of CANn_STAT: 0 disabled, 1 integrating, 2 error-active, 3 error-passive, 4 bus-off, 5 asleep. -/
def Can.state (u : Can) (n : Nat) : Nat := rfld u.regs (rk Reg.CAN_STAT n 0) 3 0

/-- STATE of CANn_STAT set. -/
def Can.setState (u : Can) (n st : Nat) : Can := u.mod Reg.CAN_STAT n 0 (fun w => putBits w 3 0 st)

/-- STATE of CANn_TX_STAT of an object set. Log entry 64 (DEDUCED). -/
def Can.txState (u : Can) (n o st : Nat) : Can := u.mod Reg.CAN_TX_STAT n o (fun w => putBits w 3 0 st)

/-- CANn_ERRC brought up to date. -/
def Can.showErr (u : Can) (n : Nat) : Can :=
  let b := u.bus n
  u.mod Reg.CAN_ERRC n 0 (fun w => putBits (putBits w 7 0 (min b.tec 255)) 14 8 (min b.rec_ 127))

/-- The number of bytes a DLC stands for (ISO 11898-1, R309). -/
def dlcBytes (fdf : Bool) (dlc : Nat) : Nat :=
  if dlc ≤ 8 then dlc else if !fdf then 8 else [12, 16, 20, 24, 32, 48, 64].getD (dlc - 9) 64

/-! ## The queue (R313–R315) -/

/-- The place of an object's identifier in arbitration (R314): base part, extended, the rest, object index. -/
def Can.rank (u : Can) (n o : Nat) : Nat :=
  let id := (rget u.regs (rk Reg.CAN_TX_ID n o)).toNat
  let xtd := bit (u.txCfg n o) 4
  let base := if xtd then id / 262144 % 2048 else id % 2048
  (((base * 2 + b2n xtd) * 262144) + (if xtd then id % 262144 else 0)) * 64 + o

/-- The pending objects of a controller. -/
def Can.pendings (u : Can) (n : Nat) : List Nat := ((u.bus n).objs.filter (fun e => e.2.frame.isSome)).map (·.1)

/-- The object at the head of the queue (R314). -/
def Can.head (u : Can) (n : Nat) : Option Nat :=
  (u.pendings n).foldl (fun a o => match a with
    | none => some o
    | some b => if u.rank n o < u.rank n b then some o else some b) none

/-- Content loaded into an object (R314); `wire` is the object whose transmission is on the bus. Log entry 63 (DEDUCED). -/
def Can.load (n o : Nat) (wire : Option Nat) (fno : Nat) (f : CanFrame) (w : W Can) : W Can :=
  let x := w.u.obj n o
  match x.frame with
  | none => w.map (fun u => (u.putObj n o ⟨some f, none, 0⟩).mod Reg.CAN_TX_STAT n o (fun c => putBits c 7 0 1))
  | some old =>
    if wire = some o then w.map (fun u => u.putObj n o { x with next := some f })
    else if f.span && old.span then
      let first := decide ((w.u.bus n).replFno ≠ some fno)
      let w := w.map (fun u => (u.putObj n o ⟨some f, none, 0⟩).mod Reg.CAN_TX_STAT n o (fun c =>
        incSatField (putBits c 7 0 4) 15 8))
      let w := w.map (fun u => u.putBus n { u.bus n with replFno := some fno })
      w.when first (·.code (Pg.CAN + n) 0x1E34 [wd o])
    else w.map (fun u => (u.putObj n o ⟨some f, none, 0⟩).mod Reg.CAN_TX_STAT n o (fun c => putBits c 7 0 1))

/-! ## SEND_SET (R321–R324) -/

/-- GUARD (R321): over the 11-bit identifier as a little-endian word and bytes 0–27. Log entry 64 (DEDUCED). -/
def dalsenGuard (ident : Nat) (data : List Byte) : Word := crc32 (leBytes 4 (ident % 2048) ++ data.take 28)

/-- A version 2 setpoint frame (R321). -/
def setpointV2 (ident node cmd : Nat) (stone fno : Word) (sets : List Word) : List Byte :=
  let d := wordBytes stone ++ wordBytes fno ++ leBytes 1 cmd ++ leBytes 1 node ++ leBytes 2 0 ++ wordsBytes (sets.take 4)
  d ++ wordBytes (dalsenGuard ident d)

/-- A version 1 setpoint frame (R323). -/
def setpointV1 (cmd : Nat) (stone fno : Word) (sets : List Word) : List Byte :=
  leBytes 2 (wordAt sets 0).toNat ++ leBytes 2 (wordAt sets 1).toNat ++ leBytes 1 cmd ++ leBytes 2 stone.toNat ++ leBytes 1 fno.toNat

/-- The setpoint words an object names: none for 0xFF (R324). -/
def Can.sources (u : Can) (n o : Nat) : List (Option Nat) :=
  let s := rget u.regs (rk Reg.CAN_TX_SRC n o)
  (upto 4).map (fun j => let b := bits s (8 * j + 7) (8 * j); if b = 255 then none else some b)

/-- The objects SEND_SET deals with: in use, with SPAN. -/
def Can.spanObjs (u : Can) (n : Nat) : List Nat := (upto 64).filter (fun o => bit (u.txCfg n o) 0 && bit (u.txCfg n o) 3)

/-- A field of CANn_SS_STAT, one more. -/
def Can.ssCount (n hi lo : Nat) (u : Can) : Can := u.mod Reg.CAN_SS_STAT n 0 (fun c => incSatField c hi lo)

/-- One object of a SEND_SET (R324). -/
def Can.sendOne (n : Nat) (active : Bool) (stone : Word) (wire : Option Nat) (i : SpanIn) (w : W Can) (o : Nat) : W Can :=
  let page := Pg.CAN + n
  let skip := fun (st : Nat) (w : W Can) => w.map (fun u => Can.ssCount n 31 24 (u.txState n o st))
  if !active then skip 6 w
  else if w.u.state n = 5 then skip 7 w
  else
    let src := w.u.sources n o
    let at_ := fun (k : Nat) => i.src + 4 * k
    let blocks := (src.filterMap id).map (fun k => at_ k / 32 * 32)
    let w := blocks.eraseDups.foldl (fun w a => w.readN i.mem page a 1) w
    if blocks.any i.mem.isBad then (skip 5 w).code page 0x20C3 [wd o]
    else
      let sets := src.map (fun k => match k with | some k => i.mem.readWord (at_ k) | none => 0)
      let cmd := if bit i.arg 31 then bits (i.mem.readWord (i.vis (bits i.arg 18 0) + 4 * o)) 7 0 else 0
      let cfg := w.u.txCfg n o
      let ident := rfld w.u.regs (rk Reg.CAN_TX_ID n o) 28 0
      let v1 := bits cfg 2 1 == 1
      let data := if v1 then setpointV1 cmd stone (wd i.fno) sets
        else setpointV2 ident (bits cfg 17 12) cmd stone (wd i.fno) sets
      let f : CanFrame := ⟨data, !v1, !v1, i.fno % 4294967296, true⟩
      (Can.load n o wire i.fno f w).map (Can.ssCount n 7 0)

/-- SEND_SET (R324): whether the module is ACTIVE, its stone, and the object on the bus. -/
def Can.sendSet (n : Nat) (active : Bool) (stone : Word) (wire : Option Nat) (i : SpanIn) (u : Can) : R Can :=
  let u := { u with regs := rset u.regs (rk Reg.CAN_SS_STAT n 0) 0 }
  let w := W.of u
  let w := w.when (bit i.arg 31) (·.readN i.mem (Pg.CAN + n) (i.vis (bits i.arg 18 0)) 8)
  let w := (u.spanObjs n).foldl (Can.sendOne n active stone wire i) w
  let v1 := active && decide (u.state n ≠ 5) && decide (65535 < stone.toNat)
    && (u.spanObjs n).any (fun o => bits (u.txCfg n o) 2 1 == 1)
  R.good (w.when v1 (·.code (Pg.CAN + n) 0x2E31 []))

/-! ## Raw objects from firkins (R313) -/

/-- A committed packet, as its words with a flag for each that came with a parity error (R31). Log entry 63 (DEDUCED). -/
def Can.packet (n : Nat) (wire : Option Nat) (fno : Nat) (ws : List (Word × Bool)) (u : Can) : W Can :=
  let w0 := match ws with | x :: _ => x.1 | [] => 0
  let o := bits w0 5 0
  let dlc := bits w0 11 8
  let cfg := u.txCfg n o
  let fdf := bit cfg 5
  let len := dlcBytes fdf dlc
  let payload := (ws.drop 1).map (·.1)
  if bits cfg 2 1 ≠ 0 ∨ bit cfg 0 = false ∨ 4 * payload.length < len ∨ ws.any (·.2) then (W.of u).code (Pg.CAN + n) 0x1E14 [wd o]
  else Can.load n o wire fno ⟨(wordsBytes payload).take len, fdf, bit cfg 6, 0, false⟩ (W.of u)

/-! ## Transmission and error states (R315, R316) -/

/-- Bus-off entered (R316): `o` is the object being retried. -/
def Can.busOff (n o : Nat) (w : W Can) : W Can :=
  let page := Pg.CAN + n
  let u := w.u
  let w := w.map (fun u => u.putObj n o { u.obj n o with retries := 0 })
  let h := (u.head n).getD o
  let w := w.map (fun u => (u.setState n 4).mod Reg.CAN_STAT n 0 (fun c => putBits (putBit c 4 true) 13 8 h))
  let w := w.map (fun u => (u.mod Reg.CAN_ERRC n 0 (fun c => incSatField c 31 16)).mod Reg.CAN_TX_STAT n o (fun c => putBits c 7 4 0))
  let w := w.map (fun u => u.putBus n { u.bus n with recover := rbit u.regs (rk Reg.CAN_CTRL n 0) 1 })
  (w.evt page 2).code page 0x2E12 [wd h]

/-- Error-active or error-passive by the counters (R316). -/
def Can.passive (n : Nat) (w : W Can) : W Can :=
  let b := w.u.bus n
  let p := decide (128 ≤ b.tec) || decide (128 ≤ b.rec_)
  if w.u.state n = 2 ∧ p then (((w.map (fun u => u.setState n 3)).evt (Pg.CAN + n) 1).code (Pg.CAN + n) 0x1E11 [])
  else if w.u.state n = 3 ∧ !p then w.map (fun u => u.setState n 2)
  else w

/-- The content that waited for a transmission to end becomes pending (R314). -/
def Can.promote (n o : Nat) (u : Can) : Can :=
  match (u.obj n o).next with
  | some f => (u.putObj n o ⟨some f, none, 0⟩).mod Reg.CAN_TX_STAT n o (fun c => putBits c 7 0 1)
  | none => u

/-- The delay measurement of a frame with bit rate switching (R312). -/
def Can.tdc (n tdcv : Nat) (w : W Can) : W Can :=
  let k := rk Reg.CAN_TDC n 0
  if rbit w.u.regs k 0 then
    if 127 < tdcv then
      let onset := !rbit w.u.regs k 23
      (w.map (fun u => { u with regs := rmod u.regs k (fun c => putBit c 23 true) })).when onset (·.code (Pg.CAN + n) 0x1E15 [wd tdcv])
    else w.map (fun u => { u with regs := rmod u.regs k (fun c => putBit (putBits c 22 16 tdcv) 23 false) })
  else w

/-- An attempt that did not send the frame (R315): retried, replaced, or abandoned beyond RETRY. Log entry 62 (PRESUMED). -/
def Can.retry (n o : Nat) (w : W Can) : W Can :=
  let x := w.u.obj n o
  if x.next.isSome then w.map (Can.promote n o)
  else
    let k := x.retries + 1
    if bits (w.u.txCfg n o) 11 8 < k then
      let w := w.map (fun u => (u.putObj n o ⟨none, none, 0⟩).mod Reg.CAN_TX_STAT n o (fun c => putBits (putBits c 3 0 3) 7 4 (min k 15)))
      let w := w.map (fun u => u.mod Reg.CAN_CNT_ERR n 0 (fun c => incSatField c 23 16))
      let span := match x.frame with | some f => f.span | none => false
      ((w.when span (·.map (Can.ssCount n 23 16))).evt (Pg.CAN + n) 0).code (Pg.CAN + n) 0x1E10 [wd o]
    else w.map (fun u => (u.putObj n o { x with retries := k }).mod Reg.CAN_TX_STAT n o (fun c => putBits c 7 4 k))

/-- A transmission ends (R315, R316): outcome 0 sent, 1 arbitration lost, else an error frame; tdcv is the delay measured.
Log entries 62 (PRESUMED), 63 (DEDUCED). -/
def Can.transmitEnd (n o outcome tdcv : Nat) (u : Can) : W Can :=
  let x := u.obj n o
  let b := u.bus n
  let live := decide (u.state n = 2) || decide (u.state n = 3)
  match x.frame with
  | none => W.of u
  | some f =>
    if !live || rbit u.regs (rk Reg.CAN_CTRL n 0) 5 then W.of u
    else
      let w := W.of u
      let w := w.when f.brs (Can.tdc n tdcv)
      if outcome = 0 then
        let w := w.map (fun u => (u.putBus n { u.bus n with tec := b.tec - 1 }).putObj n o ⟨none, x.next, 0⟩)
        let w := w.map (fun u => (u.mod Reg.CAN_TX_STAT n o (fun c =>
          putBits (putBits c 7 0 2) 31 16 (if f.span then f.fno else bits c 31 16))).mod Reg.CAN_CNT_TX n 0 (· + 1#32))
        let w := w.when f.span (·.map (Can.ssCount n 15 8))
        let w := w.emit (.can n (rfld u.regs (rk Reg.CAN_TX_ID n o) 28 0 + 0x20000000 * b2n (bit (u.txCfg n o) 4)) f.data)
        Can.passive n (w.map (fun u => (Can.promote n o u).showErr n))
      else if outcome = 1 then Can.retry n o w
      else
        let w := w.map (fun u => ((u.putBus n { u.bus n with tec := b.tec + 8 }).showErr n).mod Reg.CAN_CNT_ERR n 0
          (fun c => incSatField c 15 0))
        if 255 < b.tec + 8 then
          Can.busOff n o (w.when x.next.isSome (·.map (Can.promote n o)))
        else Can.passive n (Can.retry n o w)

/-- A bus error while receiving (R316): REC rises, an error frame is counted. Log entries 62 (PRESUMED), 63 (DEDUCED). -/
def Can.receiveError (n : Nat) (u : Can) : W Can :=
  if u.state n = 2 ∨ u.state n = 3 then
    let b := u.bus n
    Can.passive n (W.of (((u.putBus n { b with rec_ := min (b.rec_ + 1) 135 }).showErr n).mod Reg.CAN_CNT_ERR n 0
      (fun c => incSatField c 15 0)))
  else W.of u

/-- RECOVER (R316): recovery begins in bus-off. -/
def Can.recoverStart (n : Nat) (u : Can) : Can := if u.state n = 4 then u.putBus n { u.bus n with recover := true } else u

/-- The end of recovery (R316). Log entry 63 (DEDUCED). -/
def Can.recoverEnd (n : Nat) (u : Can) : W Can :=
  if u.state n = 4 ∧ (u.bus n).recover then
    let u := u.putBus n { u.bus n with tec := 0, rec_ := 0, recover := false }
    let u := ((u.setState n 2).mod Reg.CAN_STAT n 0 (fun c => putBit c 4 false)).showErr n
    ((W.of u).evt (Pg.CAN + n) 3).code (Pg.CAN + n) 0x0E13 []
  else W.of u

/-- Integration complete (R310): error-active, or error-passive by the counters. -/
def Can.integrated (n : Nat) (u : Can) : W Can :=
  if u.state n = 1 then Can.passive n (W.of (u.setState n 2)) else W.of u

/-- A controller takes part from now on, or not (R310). -/
def Can.takePart (n : Nat) (on : Bool) (u : Can) : Can :=
  if on then (if u.state n = 0 then u.setState n 1 else u)
  else if u.state n = 0 then u
  else ((u.setState n 0).putBus n { u.bus n with recover := false, sleepReq := false }).mod Reg.CAN_CTRL n 0 (fun c => putBit c 3 false)

/-! ## Receiving (R317, R326) -/

/-- The first enabled filter that takes a frame (R317). -/
def Can.filterOf (u : Can) (n : Nat) (f : CanRx) : Option Nat :=
  (upto 128).find? (fun k =>
    let id := rget u.regs (rk Reg.CAN_RX_ID n k)
    rbit u.regs (rk Reg.CAN_RX_CFG n k) 0 && bit id 29 == f.xtd
    && (wd f.ident ^^^ (id &&& 0x1FFFFFFF#32)) &&& rget u.regs (rk Reg.CAN_RX_MASK n k) == 0#32)

/-- Byte i of a payload, 0 past its end. -/
def CanRx.byte (f : CanRx) (i : Nat) : Nat := byteAt f.data i

/-- The words a filter's format delivers to FLT (R317, R326). -/
def CanRx.words (f : CanRx) (format : Nat) : List Int :=
  if format = 1 then [signed 16 (f.byte 0 + 256 * f.byte 1), signed 16 (f.byte 2 + 256 * f.byte 3), (f.byte 4 : Int)]
  else (upto (f.data.length / 4)).map (fun i => sw (wd (leNat (sliceB f.data (4 * i) 4))))

/-- A frame delivered by its filter along every path enabled (R317). -/
def Can.deliver (n k : Nat) (stamp : Int) (f : CanRx) (w : W Can) : W Can :=
  let cfg := rget w.u.regs (rk Reg.CAN_RX_CFG n k)
  let xs := f.words (bits cfg 2 1)
  let w := w.when (bit cfg 3) (fun w =>
    ((upto xs.length).zip xs).foldl (fun w x => w.sample ⟨0x22 + n, 256 * k + x.1, stamp, x.2⟩) w)
  let head := wd (k + 256 * f.dlc + 4096 * b2n f.fdf + 8192 * b2n f.brs + 16384 * b2n f.esi + 32768 * b2n f.xtd)
  let body := toWords ((f.data.length + 3) / 4) f.data
  let w := w.when (bit cfg 4) (·.push ⟨0x22 + n, bits cfg 10 5,
    ([head, lo32 stamp, hi32 stamp, wd f.ident] ++ body).map (fun x => (x, false))⟩)
  let w := w.map (fun u => u.putBus n { u.bus n with
    taken := sset (fun _ => 0) (u.bus n).taken k (sget (fun _ => 0) (u.bus n).taken k + 1) })
  w.trigger ⟨2, n, k⟩

/-- A received frame matched and checked (R317, R326). Log entry 64 (DEDUCED). -/
def Can.match_ (n : Nat) (active : Bool) (stone : Word) (now : Int) (f : CanRx) (w : W Can) : W Can :=
  let page := Pg.CAN + n
  let stamp := now - f.age
  match w.u.filterOf n f with
  | none => w
  | some k =>
    let fmt := rfld w.u.regs (rk Reg.CAN_RX_CFG n k) 2 1
    if fmt = 2 then
      if f.dlc ≠ 13 ∨ wd (leNat (sliceB f.data 28 4)) ≠ dalsenGuard f.ident f.data then
        ((w.map (fun u => u.mod Reg.CAN_RX_STAT n k (fun c => incSatField c 30 16))).evt page 5).code page 0x1E32 [wd k]
      else
        let foreign := active && decide (wd (leNat (f.data.take 4)) ≠ stone)
        let onset := foreign && !rbit w.u.regs (rk Reg.CAN_RX_STAT n k) 31
        let w := w.map (fun u => u.mod Reg.CAN_RX_STAT n k (fun c => putBit c 31 foreign))
        let w := w.when onset (fun w => (w.evt page 6).code page 0x1E33 [wd k])
        Can.deliver n k stamp f w
    else Can.deliver n k stamp f w

/-- A frame received (R309, R317). -/
def Can.receive (n : Nat) (active : Bool) (stone : Word) (now : Int) (f : CanRx) (u : Can) : W Can :=
  if !(u.state n = 2 || u.state n = 3) then W.of u
  else if f.fdf && !rbit u.regs (rk Reg.CAN_CTRL n 0) 0 then Can.receiveError n u
  else
    let b := u.bus n
    let u := (u.putBus n { b with rec_ := if 127 < b.rec_ then 127 else b.rec_ - 1 }).showErr n
    let u := u.mod Reg.CAN_CNT_RX n 0 (· + 1#32)
    let w := Can.passive n (W.of u)
    if f.remote then w.map (fun u => u.mod Reg.CAN_CNT_ERR n 0 (fun c => incSatField c 31 24))
    else Can.match_ n active stone now f w

/-- A LATCH with ARG[3] (R317). -/
def Can.latch (u : Can) (n : Nat) : Can :=
  let counts := (u.bus n).taken
  let u := { u with regs := (upto 128).foldl (fun m k =>
    rmod m (rk Reg.CAN_RX_STAT n k) (fun c => putBits c 15 0 (min (sget (fun _ => 0) counts k) 65535))) u.regs }
  u.putBus n { u.bus n with taken := [] }

/-! ## Sleep and wake (R318–R320) -/

/-- SLEEP written 1 (R318, R320): refused in bus-off or in the cycle of a wake. -/
def Can.sleep (n : Nat) (now : Int) (u : Can) : W Can :=
  if u.state n = 4 ∨ (u.bus n).wokenAt = some now then
    (W.of (u.mod Reg.CAN_CTRL n 0 (fun c => putBit c 3 false))).code (Pg.CAN + n) 0x1E22 []
  else if u.state n = 5 then W.of u
  else W.of ((u.mod Reg.CAN_CTRL n 0 (fun c => putBit c 3 true)).putBus n { u.bus n with sleepReq := true })

/-- The present frame has ended and the controller sleeps (R318). -/
def Can.sleepEnter (n : Nat) (u : Can) : W Can :=
  if (u.bus n).sleepReq ∧ (u.state n = 1 ∨ u.state n = 2 ∨ u.state n = 3) then
    (W.of ((u.setState n 5).putBus n { u.bus n with sleepReq := false })).code (Pg.CAN + n) 0x0E20 []
  else W.of u

/-- A controller woken by a cause of R319. -/
def Can.wake (n cause : Nat) (now : Int) (u : Can) : W Can :=
  let u := (u.mod Reg.CAN_CTRL n 0 (fun c => putBit c 3 false)).putBus n { u.bus n with sleepReq := false, wokenAt := some now }
  ((W.of (u.setState n 1)).evt (Pg.CAN + n) 4).code (Pg.CAN + n) 0x0E21 [wd cause]

/-- SLEEP written 0 (R319): it wakes a sleeping controller and withdraws a request. -/
def Can.wakeWrite (n : Nat) (now : Int) (u : Can) : W Can :=
  if u.state n = 5 then u.wake n 3 now
  else W.of ((u.mod Reg.CAN_CTRL n 0 (fun c => putBit c 3 false)).putBus n { u.bus n with sleepReq := false })

/-- Whether a frame is the wake frame (R319). -/
def Can.wakes (u : Can) (n : Nat) (f : CanRx) : Bool :=
  let id := rget u.regs (rk Reg.CAN_WAKE_ID n 0)
  let pat := wordBytes (rget u.regs (rk Reg.CAN_WAKE_PAT_L n 0)) ++ wordBytes (rget u.regs (rk Reg.CAN_WAKE_PAT_H n 0))
  let msk := wordBytes (rget u.regs (rk Reg.CAN_WAKE_MSK_L n 0)) ++ wordBytes (rget u.regs (rk Reg.CAN_WAKE_MSK_H n 0))
  bit id 29 == f.xtd && (wd f.ident ^^^ (id &&& 0x1FFFFFFF#32)) &&& rget u.regs (rk Reg.CAN_WAKE_IDM n 0) == 0#32
  && (upto 8).all (fun k => ((f.data.getD k 0) ^^^ (pat.getD k 0)) &&& (msk.getD k 0) == 0#8)

/-- A dominant phase of more than 5 µs, or with WAKE_MODE 1 a frame, on the bus of a sleeping controller (R319). -/
def Can.busWake (n : Nat) (active : Bool) (stone : Word) (now : Int) (f : Option CanRx) (u : Can) : W Can :=
  if u.state n ≠ 5 then W.of u
  else if !rbit u.regs (rk Reg.CAN_CTRL n 0) 4 then u.wake n 1 now
  else match f with
    | none => W.of u
    | some f =>
      if u.wakes n f then
        Can.match_ n active stone now f ((u.wake n 2 now).map (fun u => u.mod Reg.CAN_CNT_RX n 0 (· + 1#32)))
      else W.of u

/-! ## Leaving CONFIG -/

/-- The bit timing of R311: both phases within their ranges, the data rate at least the nominal rate. -/
def Can.timingOk (u : Can) (n : Nat) : Bool :=
  let a := rget u.regs (rk Reg.CAN_NBT n 0)
  let d := rget u.regs (rk Reg.CAN_DBT n 0)
  let na := (bits a 4 0 + 1) * (3 + bits a 31 24 + bits a 22 16)
  let nd := (bits d 4 0 + 1) * (3 + bits d 28 24 + bits d 19 16)
  decide (1 ≤ bits a 31 24) && decide (bits a 14 8 ≤ bits a 22 16) && decide (bits d 11 8 ≤ bits d 19 16)
  && decide (80 ≤ na) && decide (na ≤ 640) && decide (10 ≤ nd) && decide (nd ≤ na)

/-- Whether the feature of a FORMAT is accepted. -/
def formatOk (feat2 feat3 : Bool) (fmt : Nat) : Bool := (fmt != 1 || feat2) && (fmt != 2 || feat3) && fmt != 3

/-- The first check that fails: the object or filter in the payload; 0 for the timing. -/
def Can.exitCheck (feat2 feat3 : Bool) (n : Nat) (u : Can) : Option Nat :=
  let fd := rbit u.regs (rk Reg.CAN_CTRL n 0) 0
  if !u.timingOk n then some 0
  else
    let objs := (upto 64).filter (fun o => bit (u.txCfg n o) 0)
    let flts := (upto 128).filter (fun k => rbit u.regs (rk Reg.CAN_RX_CFG n k) 0)
    match objs.find? (fun o => !formatOk feat2 feat3 (bits (u.txCfg n o) 2 1)) with
    | some o => some o
    | none => match flts.find? (fun k => !formatOk feat2 feat3 (rfld u.regs (rk Reg.CAN_RX_CFG n k) 2 1)) with
      | some k => some k
      | none => match objs.find? (fun o => bit (u.txCfg n o) 3 && bits (u.txCfg n o) 17 12 == 0) with
        | some o => some o
        | none => objs.find? (fun o => (bit (u.txCfg n o) 5 || bit (u.txCfg n o) 6) && !fd)

end Sys2Proof.Machine
end

