-- ==== Sys2Proof/Machine/Chain.lean ====
section
/-! DEFINITION. The Chain (R259–R277): frames, forwarding and acceptance, roles, stones and claims, heartbeats. -/

namespace Sys2Proof.Machine

/-- What CHN sees of the rest of the module at an instant: whether it is a member of a Chain that works, whether the
module is in HALT, in RUN, and in a state in which E_max is kept (READY, RUN, SERVICE); the fathom count, tick, length,
the START of the HEARTBEAT span, module time in ns, and SERIAL_LO. -/
structure ChnEnv where
  on      : Bool
  halt    : Bool
  run     : Bool
  keeps   : Bool
  count   : Nat
  tick    : Nat
  lenUs   : Nat
  hbStart : Nat
  time    : Int
  serial  : Word

/-- A Chain frame (R262). -/
structure ChainFrame where
  subtype : Nat
  origin  : Nat
  hops    : Nat
  stone   : Word
  fno     : Word
  fseq    : Nat
  body    : List Byte

/-- A big-endian 32-bit field at byte i. -/
def be32 (bs : List Byte) (i : Nat) : Word := wd (beNat (sliceB bs i 4))

/-- A big-endian 16-bit field at byte i. -/
def be16 (bs : List Byte) (i : Nat) : Nat := beNat (sliceB bs i 2)

/-- The payload CRC of a frame without its CRC: over bytes 0–2 and from byte 4 (R262). -/
def pcrc (bs : List Byte) : Word := crc32 (bs.take 3 ++ bs.drop 4)

/-- A frame read from the bytes after the EtherType; none when PCRC, VERSION or BLEN is wrong (R262). -/
def parseFrame (bs : List Byte) : Option ChainFrame :=
  let n := bs.length
  if n < 20 then none
  else if byteAt bs 1 ≠ 1 ∨ be16 bs 14 + 20 ≠ n then none
  else if be32 bs (n - 4) ≠ pcrc (bs.take (n - 4)) then none
  else some ⟨byteAt bs 0, byteAt bs 2, byteAt bs 3, be32 bs 4, be32 bs 8, be16 bs 12, sliceB bs 16 (n - 20)⟩

/-- The bytes of a frame (R262). -/
def buildFrame (f : ChainFrame) : List Byte :=
  let h := beBytes 1 f.subtype ++ beBytes 1 1 ++ beBytes 1 f.origin ++ beBytes 1 f.hops ++ beBytes 4 f.stone.toNat
    ++ beBytes 4 f.fno.toNat ++ beBytes 2 f.fseq ++ beBytes 2 f.body.length ++ f.body
  h ++ beBytes 4 (pcrc h).toNat

/-! ## Settings and cells -/

/-- CHN_CFG. -/
def Chn.cfg (u : Chn) : Word := rget u.regs Reg.CHN_CFG

/-- The member's base (R259). -/
def Chn.base (u : Chn) : Nat := rfld u.regs Reg.CHN_BASE 7 0

/-- CHN_WINDOW. -/
def Chn.window (u : Chn) : Nat := rfld u.regs Reg.CHN_WINDOW 15 0

/-- What a member nobody has heard is. -/
def memberDefault (_ : Nat) : Member := Member.unknown

/-- The member at a base. -/
def Chn.member (u : Chn) (b : Nat) : Member := sget memberDefault u.members b

/-- CHN_MEM_STAT of a member (R286). -/
def Member.stat (m : Member) : Word :=
  let hb := m.last
  let fl := match hb with | some h => h.flags | none => 0
  let role := match hb with | some h => h.role | none => 0
  let fc := match hb with | some h => h.forceCnt | none => 0
  wd (b2n m.west + 2 * b2n m.east + 4 * (role % 8) + 32 * (fl % 2) + 64 * (fl / 2 % 2) + 128 * b2n m.neighbour + 256 * min m.missRun 255
    + 0x10000 * (fc % 65536))

/-- The member at a base set, with CHN_MEM_STAT. -/
def Chn.putMember (u : Chn) (b : Nat) (m : Member) : Chn :=
  { u with
    members := sset memberDefault u.members b m
    regs := rset u.regs (rk Reg.CHN_MEM_STAT 0 b) m.stat }

/-- A cell changed. -/
def Chn.mod (u : Chn) (k : Nat) (f : Word → Word) : Chn := { u with regs := rmod u.regs k f }

/-- CHN_TOP (R274): the highest stone heard in the last 4 fathoms, the own one included. -/
def Chn.top (u : Chn) (count : Nat) : Word :=
  (u.stones.filter (fun e => decide (count < e.1 + 4))).foldl
    (fun (a : Word) e => if a.toNat < e.2.toNat then e.2 else a) u.stone

/-- CHN_STATE, CHN_STONE and CHN_TOP brought up to date (R286). -/
def Chn.refresh (count : Nat) (u : Chn) : Chn :=
  let top := u.top count
  { u with
    stones := u.stones.filter (fun e => decide (count < e.1 + 4))
    regs := rset (rset (rmod u.regs Reg.CHN_STATE (fun w =>
      putBits (putBit (putBits w 2 0 u.role) 3 u.synced) 15 8 (top.toNat % 256))) Reg.CHN_STONE u.stone) Reg.CHN_TOP top }

/-- A Chain event (R285) as a trigger of TYPE 0x05. -/
def W.chainEvent (code : Nat) (w : W Chn) : W Chn := w.trigger ⟨5, 0, code⟩

/-! ## Sending (R263) -/

/-- A frame of this member sent on both ports, when it is a member of a Chain (R260, R263). -/
def Chn.send (e : ChnEnv) (subtype : Nat) (body : List Byte) (w : W Chn) : W Chn :=
  if e.on then
    let seq := (w.u.fseq + 1) % 65536
    let f : ChainFrame := ⟨subtype, w.u.base, bits w.u.cfg 23 16, w.u.stone, wd e.count, seq, body⟩
    ((w.map (fun u => { u with fseq := seq })).emit (.eth 0 (buildFrame f))).emit (.eth 1 (buildFrame f))
  else w

/-! ## Roles, claims and stones (R260, R274–R277) -/

/-- The role state changed at once (R277): the stone follows, CHN_PAGE_ERR records the code given. -/
def Chn.setRole (e : ChnEnv) (role epoch code : Nat) (w : W Chn) : W Chn :=
  let w := w.map (fun u => Chn.refresh e.count { u with
    role := role
    synced := if role = 2 ∨ role = 0 then false else u.synced
    selfClaimed := decide (code = 0x1C24)
    stone := if role = 1 then wd (256 * (epoch % 0x1000000) + u.base) else wd u.base
    eMax := if role = 1 then max u.eMax (epoch % 0x1000000) else u.eMax })
  ((w.evt Pg.CHN 0).code Pg.CHN code [wd role]).chainEvent 1

/-- A claim of ACTIVE (R275): E_max + 1, or the epoch of a verdict if that is higher; not made above 0xFF_FFFF. Log entry 55 (DEDUCED). -/
def Chn.claim (e : ChnEnv) (epoch code : Nat) (w : W Chn) : W Chn :=
  let ep := max (w.u.eMax + 1) epoch
  if 0xFFFFFF < ep then w.code Pg.CHN 0x3C32 [] else Chn.setRole e 1 ep code w

/-- Entry into RUN (R260, R275). -/
def Chn.enterRun (e : ChnEnv) (u : Chn) : W Chn :=
  let w := W.of { u with judged := none, fault := 0 }
  let role := bits u.cfg 2 1
  if !e.on then Chn.setRole e 1 1 0x0C20 w
  else if role = 1 then Chn.setRole e 3 0 0x0C20 w
  else if role = 2 then Chn.setRole e 4 0 0x0C20 w
  else if u.stones.any (fun s => decide (e.count < s.1 + 4) && decide (256 ≤ s.2.toNat)) then Chn.setRole e 2 0 0x0C20 w
  else if 0xFFFFFF ≤ u.eMax then Chn.setRole e 2 0 0x0C20 (w.code Pg.CHN 0x3C32 [])
  else Chn.claim e 0 0x0C20 w

/-- The end of RUN: no role. -/
def Chn.leaveRun (e : ChnEnv) (u : Chn) : W Chn :=
  Chn.setRole e 0 0 0x0C20 (W.of { u with
    sync := none, parts := [], fusPart := [], serving := none, fusDue := none, verdict := none
    regs := rset u.regs Reg.CHN_JOIN_STAT 0 })

/-- A stone heard (R274): E_max, CHN_TOP, and the Chain event of a new ACTIVE stone. Log entry 55 (DEDUCED). -/
def Chn.hear (e : ChnEnv) (stone : Word) (w : W Chn) : W Chn :=
  let new := decide (256 ≤ stone.toNat) && decide ((w.u.top e.count).toNat < stone.toNat)
  let w := w.map (fun u => Chn.refresh e.count { u with
    stones := (e.count, stone) :: u.stones
    eMax := if e.keeps then max u.eMax (stone.toNat / 256) else u.eMax })
  w.when new (·.chainEvent 2)

/-- An ACTIVE that hears of a higher stone becomes an unsynced STANDBY (R275). -/
def Chn.depose (e : ChnEnv) (stone : Word) (w : W Chn) : W Chn :=
  w.when (decide (w.u.role = 1) && e.on && decide (w.u.stone.toNat < stone.toNat)) (Chn.setRole e 2 0 0x1C21)

/-! ## Receiving (R262, R263) -/

/-- Whether a copy is the first of its (ORIGIN, FSEQ) (R263). -/
def Chn.first (u : Chn) (origin fseq : Nat) : Bool :=
  match u.seen.find? (fun x => x.1 == origin) with
  | none => true
  | some x => !x.2.2.contains fseq && decide ((fseq + 65536 - x.2.1) % 65536 < 32768)

/-- An accepted (ORIGIN, FSEQ) remembered among the last 64 (R263). -/
def Chn.remember (origin fseq : Nat) (u : Chn) : Chn :=
  let old := match u.seen.find? (fun x => x.1 == origin) with | some x => x.2.2 | none => []
  { u with seen := (origin, fseq, (fseq :: old).take 64) :: u.seen.filter (fun x => x.1 != origin) }

/-- The frame forwarded to the other port with HOPS decremented (R263). Log entry 54 (DEDUCED). -/
def Chn.forward (port : Nat) (bs : List Byte) (w : W Chn) : W Chn :=
  let hops := byteAt bs 3
  w.when (decide (hops ≠ 0) && decide (byteAt bs 2 ≠ w.u.base))
    (·.emit (.eth (1 - port) (setAt bs 3 (BitVec.ofNat 8 (hops - 1)))))

/-- The reception of a frame (R262, R263): forwarded, checked, its neighbour marked, and accepted or not. `go` acts on an
accepted frame; `dup` on every sound frame of another origin, for the path bits of R267. -/
def Chn.receive (e : ChnEnv) (port : Nat) (bs : List Byte) (dup : ChainFrame → W Chn → W Chn)
    (go : ChainFrame → W Chn → W Chn) (u : Chn) : W Chn :=
  if !(e.on || e.halt) then W.of u
  else
    let w := Chn.forward port bs (W.of u)
    match parseFrame bs with
    | none => (w.map (fun u => u.mod Reg.CHN_CNT_BAD (fun c => incSatField c 15 0))).code Pg.CHN 0x1C10 []
    | some f =>
      if f.origin = u.base then
        -- R261: the own base with another serial number
        w.when (decide (f.subtype = 1) && decide (be32 f.body 24 ≠ e.serial)) (·.map (fun u => { u with twice := true }))
      else if !e.on then w
      else
        let w := w.when (f.hops == bits u.cfg 23 16)
          (·.map (fun u => u.putMember f.origin { u.member f.origin with neighbour := true }))
        let w := dup f w
        if u.first f.origin f.fseq then go f ((Chn.hear e f.stone w).map (Chn.remember f.origin f.fseq)) else w

/-- The frame a reception accepts, if it accepts one (R262, R263). Log entry 54 (DEDUCED). -/
def Chn.accepts (e : ChnEnv) (bs : List Byte) (u : Chn) : Option ChainFrame :=
  match parseFrame bs with
  | some f => if e.on && f.origin != u.base && u.first f.origin f.fseq then some f else none
  | none => none

/-! ## Heartbeats (R266, R267) -/

/-- The fields of a heartbeat frame's body (R266). -/
def readHeartbeat (f : ChainFrame) (port : Nat) : Heartbeat :=
  let b := f.body
  { fno := f.fno, stone := f.stone, role := byteAt b 0, flags := byteAt b 1, prio := byteAt b 2, forceCnt := be16 b 4
    fault := be16 b 6, digests := [be32 b 8, be32 b 12, be32 b 16], image := be32 b 20, serial := be32 b 24
    cfgDig := be32 b 40, west := decide (port = 0), east := decide (port = 1) }

/-- The body of a heartbeat (R266), with TOP, PUB_MISS and GAP. -/
def heartbeatBody (h : Heartbeat) (top : Word) (pubMiss gap : Nat) : List Byte :=
  beBytes 1 h.role ++ beBytes 1 h.flags ++ beBytes 1 h.prio ++ beBytes 1 0 ++ beBytes 2 h.forceCnt ++ beBytes 2 h.fault
  ++ h.digests.flatMap (fun d => beBytes 4 d.toNat) ++ beBytes 4 h.image.toNat ++ beBytes 4 h.serial.toNat
  ++ beBytes 4 top.toNat ++ beBytes 4 pubMiss ++ beBytes 4 gap ++ beBytes 4 h.cfgDig.toNat ++ beBytes 4 0

/-- The fathom count whose heartbeat tick has passed last, and whether its judgment instant has passed too (R267). -/
def ChnEnv.expected (e : ChnEnv) (window : Nat) : Nat × Bool :=
  let f := if e.hbStart ≤ e.tick then e.count else e.count - 1
  let since := if e.hbStart ≤ e.tick then e.tick - e.hbStart else e.tick + e.lenUs - e.hbStart
  (f, decide (window ≤ since))

/-- Every sound copy of a heartbeat marks the path it came on (R267). -/
def Chn.markPath (port : Nat) (f : ChainFrame) (w : W Chn) : W Chn :=
  let m := w.u.member f.origin
  let mark := fun (h : Heartbeat) =>
    if h.fno = f.fno then { h with west := h.west || decide (port = 0), east := h.east || decide (port = 1) } else h
  w.map (fun u => { u with members := u.members.map (fun x =>
    if x.1 = f.origin then (x.1, { m with heard := m.heard.map mark }) else x) })

/-- The interval from the heartbeat tick to a heartbeat accepted (R265). -/
def Chn.round (e : ChnEnv) (u : Chn) : Chn :=
  if e.hbStart ≤ e.tick then
    let t := min (e.tick - e.hbStart) 65535
    u.mod Reg.CHN_ROUND (fun w => putBits (putBits w 15 0 t) 31 16 (max (bits w 31 16) t))
  else u

/-- An accepted heartbeat (R267, R275, R285). Log entry 54 (DEDUCED). -/
def Chn.takeHeartbeat (e : ChnEnv) (port : Nat) (f : ChainFrame) (w : W Chn) : W Chn :=
  if f.body.length ≠ 48 then
    (w.map (fun u => u.mod Reg.CHN_CNT_BAD (fun c => incSatField c 15 0))).code Pg.CHN 0x1C10 []
  else
    let h := readHeartbeat f port
    let b := f.origin
    let m := w.u.member b
    let w := w.map (Chn.round e)
    let w := w.when m.last.isNone (·.chainEvent 4)
    let forced := match m.last with | some l => decide (l.forceCnt ≠ h.forceCnt) | none => decide (h.forceCnt ≠ 0)
    let w := w.when forced (·.chainEvent 9)
    let shelf := (h.flags / 2 % 2 == 1) && (match m.last with | some l => l.flags / 2 % 2 == 0 | none => true)
    let w := w.when (shelf && m.neighbour) (·.code Pg.CHN 0x1C28 [wd b])
    let (ex, past) := e.expected w.u.window
    let matches_ := (f.fno == wd ex) || (past && f.fno == wd (ex + 1))
    let late := match w.u.judged with | some j => decide (f.fno = wd j) | none => false
    let w := w.map (fun u => u.putMember b { u.member b with last := some h })
    let w :=
      if e.run && !matches_ then w.code Pg.CHN 0x3C14 [wd b, f.fno]
      else if e.run && late then
        (w.map (fun u => u.mod Reg.CHN_CNT_BAD (fun c => incSatField c 23 16))).code Pg.CHN 0x1C13 [wd b, f.fno]
      else w.map (fun u => u.putMember b
        { u.member b with heard := h :: (u.member b).heard.take 3, faults := (decide (3 ≤ h.fault / 4096) :: (u.member b).faults).take 64 })
    if h.role = 1 then Chn.depose e f.stone w else w

/-! ## Verdicts (R264, R275, R278) -/

/-- The body of a verdict (R264). -/
def verdictBody (v : VerdictMsg) : List Byte :=
  beBytes 1 v.failed ++ beBytes 1 v.successor ++ beBytes 1 v.reason ++ beBytes 1 0 ++ beBytes 4 v.epoch ++ beBytes 4 v.fno.toNat

/-- The verdict a body spells. -/
def readVerdict (b : List Byte) : VerdictMsg := ⟨byteAt b 0, byteAt b 1, byteAt b 2, (be32 b 4).toNat % 0x1000000, be32 b 8⟩

/-- CHN_VERDICT and CHN_VERDICT_FNO of a verdict (R286). -/
def Chn.showVerdict (v : VerdictMsg) (u : Chn) : Chn :=
  { u with regs := rsets u.regs [(Reg.CHN_VERDICT, wd (v.failed + 256 * v.successor + 0x10000 * (v.reason % 8))),
      (Reg.CHN_VERDICT_FNO, v.fno)] }

/-- An accepted verdict (R275, R278): the successor claims, a lower ACTIVE is deposed, all take note. A verdict repeated
word for word is recorded once. Log entry 55 (DEDUCED). -/
def Chn.takeVerdict (e : ChnEnv) (f : ChainFrame) (w : W Chn) : W Chn :=
  let v := readVerdict f.body
  let word := wd (v.failed + 256 * v.successor + 0x10000 * (v.reason % 8))
  let same := rget w.u.regs Reg.CHN_VERDICT == word && rget w.u.regs Reg.CHN_VERDICT_FNO == v.fno
  let w := w.when (!same) (fun w => ((w.map (Chn.showVerdict v)).evt Pg.CHN 2).code Pg.CHN 0x1C22 [wd v.failed, wd v.successor])
  let w0 := w
  let w := w.map (fun u => { u with eMax := if e.keeps then max u.eMax v.epoch else u.eMax })
  if v.successor = w.u.base ∧ w.u.role = 2 then
    -- the claim is E_max + 1 or the verdict's EPOCH, with E_max as it stood before the verdict
    Chn.claim e v.epoch 0x0C20 (w.map (fun u => { u with eMax := w0.u.eMax }))
  else if v.successor = w.u.base then w
  else Chn.depose e (wd (256 * v.epoch + v.successor)) w

/-! ## The check on leaving CONFIG (R261) -/

/-- The first of R261's checks that fails: its code. -/
def Chn.exitCheck (feat14 feat15 : Bool) (u : Chn) : Option Nat :=
  let role := bits u.cfg 2 1
  let win := u.window
  let smp := rfld u.regs Reg.CHN_SMP 9 0
  let dispN := rfld u.regs Reg.CHN_ARB 7 0
  let selfN := rfld u.regs Reg.CHN_ARB 11 8
  let hold := rfld u.regs Reg.CHN_SLAVE 15 0
  if role = 3 ∨ (role = 1 ∧ !feat15) ∨ (role = 2 ∧ !feat14) then some 0x1C01
  else if win < 50 ∨ 2000 < win ∨ smp < 50 ∨ 500 < smp ∨ dispN = 0 ∨ selfN < 4 ∨ 6 < selfN ∨ (hold ≠ 0 ∧ hold < 7) then some 0x1C01
  else if bits u.cfg 23 16 = 0 then some 0x1C01
  else if u.twice then some 0x3C02 else none

end Sys2Proof.Machine
end

