-- ==== Sys2Proof/Machine/Judgment.lean ====
section
/-! DEFINITION. The judgment of the heartbeats of a fathom (R267), the gap (R280, R281), the arbiter (R278, R279), the
self claim (R281) and the course of a join (R282). -/

namespace Sys2Proof.Machine

/-- The heartbeats of fathom F present at its judgment, by base, the own one included (R267). -/
def Chn.present (u : Chn) (f : Nat) : List (Nat × Heartbeat) :=
  let others := u.members.filterMap (fun x => (x.2.heard.find? (fun h => h.fno == wd f)).map (fun h => (x.1, h)))
  match u.own.find? (fun h => h.fno == wd f) with
  | some h => (u.base, h) :: others
  | none => others

/-- One member judged (R267). -/
def Chn.judgeMember (f : Nat) (w : W Chn) (b : Nat) : W Chn :=
  let m := w.u.member b
  match m.heard.find? (fun h => h.fno == wd f) with
  | some h =>
    let single := h.west != h.east
    let w := w.map (fun u => u.putMember b { m with
      last := some h, now := true, before := m.now, missRun := 0, single := single, west := h.west, east := h.east
      heard := m.heard.filter (fun x => x.fno != wd f) })
    w.when (single && !m.single) (·.code Pg.CHN 0x1C11 [wd b])
  | none =>
    let n := min (m.missRun + 1) 255
    let w := w.map (fun u => u.putMember b { m with
      now := false, before := m.now, missRun := n, single := false, west := false, east := false })
    w.when (n == 2) (fun w => ((w.code Pg.CHN 0x2C12 [wd b]).evt Pg.CHN 1).chainEvent 3)

/-- The present heartbeat of the highest ACTIVE stone. -/
def topActive (ps : List (Nat × Heartbeat)) : Option (Nat × Heartbeat) :=
  (ps.filter (fun p => p.2.role == 1)).foldl (fun a p => match a with
    | none => some p
    | some q => if q.2.stone.toNat < p.2.stone.toNat then some p else some q) none

/-- GAP, the handovers and DOUBLE_FAULT (R281). -/
def Chn.judgeGap (e : ChnEnv) (ps : List (Nat × Heartbeat)) (w : W Chn) : W Chn :=
  let top := w.u.top e.count
  let hit := decide (256 ≤ top.toNat) && ps.any (fun p => p.2.role == 1 && p.2.stone == top)
  if hit then
    let new := match w.u.actStone with | some s => s != top | none => false
    w.map (fun u =>
      let u1 : Chn := { u with actStone := some top }
      let u2 := if new then u1.mod Reg.CHN_GAP (fun g => incSatField g 31 16) else u1
      (u2.mod Reg.CHN_GAP (fun g => putBits g 7 0 0)).mod Reg.CHN_STATE (fun x => putBit x 6 false))
  else
    let g := satInc 8 (rfld w.u.regs Reg.CHN_GAP 7 0)
    let onset := decide (6 < g) && !rbit w.u.regs Reg.CHN_STATE 6
    let w := w.map (fun u => u.mod Reg.CHN_GAP (fun x => putBits (putBits x 7 0 g) 15 8 (max (bits x 15 8) g)))
    w.when onset (fun w => (((w.map (fun u => u.mod Reg.CHN_STATE (fun x => putBit x 6 true))).evt Pg.CHN 7).chainEvent 7).code
      Pg.CHN 0x3C30 [])

/-- ARB_LOST (R279). -/
def Chn.judgeArbiter (ps : List (Nat × Heartbeat)) (w : W Chn) : W Chn :=
  if w.u.role = 1 ∨ w.u.role = 2 then
    if ps.any (fun p => p.2.role == 3) then
      w.map (fun u => { u with arbMiss := 0, regs := rmod u.regs Reg.CHN_STATE (fun x => putBit x 4 false) })
    else
      let n := min (w.u.arbMiss + 1) 255
      let onset := decide (2 ≤ n) && !rbit w.u.regs Reg.CHN_STATE 4
      let w := w.map (fun u => { u with arbMiss := n })
      w.when onset (fun w => ((w.map (fun u => u.mod Reg.CHN_STATE (fun x => putBit x 4 true))).code Pg.CHN 0x2C25 []).chainEvent 10)
  else w

/-- Whether the fathom is disputed (R279): the ACTIVE and a synced STANDBY present, neither SOLO, digests differ. -/
def disputed (ps : List (Nat × Heartbeat)) : Bool :=
  match topActive ps with
  | none => false
  | some a => a.2.flags / 4 % 2 == 0 && ps.any (fun p =>
      p.2.role == 2 && p.2.flags / 32 % 2 == 1 && p.2.flags / 4 % 2 == 0 && p.2.digests != a.2.digests)

/-- CHN_DISP and the onset of a series (R279). -/
def Chn.judgeDispute (d : Bool) (w : W Chn) : W Chn :=
  let onset := d && !rbit w.u.regs Reg.CHN_STATE 5
  let w := w.map (fun u => (u.mod Reg.CHN_STATE (fun x => putBit x 5 d)).mod Reg.CHN_DISP (fun x =>
    let x := if d then incSatField x 15 0 else putBits x 15 0 0
    if onset then incSatField x 31 16 else x))
  let w := w.when onset (fun w => (w.evt Pg.CHN 3).chainEvent 5)
  w.when (onset && decide (w.u.role ≠ 4)) (·.code Pg.CHN 0x1C23 [])

/-! ## The arbiter (R278) -/

/-- Why a member fails at this judgment (R278): 2 for a FAULT of class 3 or 4, 1 for silence at F and F − 1, 0 not. -/
def Chn.failing (u : Chn) (ps : List (Nat × Heartbeat)) (b : Nat) : Nat :=
  match ps.find? (fun p => p.1 == b) with
  | some p => if 3 ≤ p.2.fault / 4096 then 2 else 0
  | none => if !(u.member b).before then 1 else 0

/-- Whether a member may be named successor (R278). -/
def Chn.eligible (u : Chn) (failed : Nat) (p : Nat × Heartbeat) : Bool :=
  let m := u.member p.1
  decide (p.1 ≠ failed) && decide (p.1 ≠ u.base) && p.2.role == 2 && p.2.flags / 32 % 2 == 1 && m.now && m.before
  && m.faults.all (fun x => !x)

/-- The successor (R278): the lowest PRIO, ties to the higher base. -/
def Chn.successor (u : Chn) (ps : List (Nat × Heartbeat)) (failed : Nat) : Option Nat :=
  ((ps.filter (u.eligible failed)).foldl (fun a p => match a with
    | none => some p
    | some q => if p.2.prio < q.2.prio ∨ (p.2.prio = q.2.prio ∧ q.1 < p.1) then some p else some q) none).map (·.1)

/-- A verdict sent (R278). Log entry 55 (DEDUCED). -/
def Chn.sendVerdict (e : ChnEnv) (v : VerdictMsg) (w : W Chn) : W Chn :=
  (Chn.send e 2 (verdictBody v) (w.map (Chn.showVerdict v))).evt Pg.CHN 2

/-- A member declared failed at J(F) (R278, R279). -/
def Chn.declare (e : ChnEnv) (f failed reason : Nat) (ps : List (Nat × Heartbeat)) (w : W Chn) : W Chn :=
  match w.u.successor ps failed with
  | none => (w.map (fun u => { u with verdict := none })).code Pg.CHN 0x2C12 [wd failed]
  | some s =>
    let ep := w.u.eMax + 1
    if 0xFFFFFF < ep then w.code Pg.CHN 0x3C32 []
    else
      let v : VerdictMsg := ⟨failed, s, reason, ep, wd f⟩
      Chn.sendVerdict e v ((w.map (fun u => { u with eMax := ep, verdict := some v })).code Pg.CHN 0x1C22 [wd failed, wd s])

/-- The arbiter at J(F) (R278, R279). -/
def Chn.arbitrate (e : ChnEnv) (f : Nat) (ps : List (Nat × Heartbeat)) (w : W Chn) : W Chn :=
  match w.u.verdict with
  | some v =>
    let taken := ps.any (fun p => p.1 == v.successor && p.2.role == 1 && p.2.stone.toNat / 256 == v.epoch)
    if taken then w.map (fun u => { u with verdict := none, active := some v.successor })
    else
      let why := w.u.failing ps v.successor
      if why ≠ 0 then Chn.declare e f v.successor why ps w else Chn.sendVerdict e v w
  | none =>
    let w : W Chn := match topActive ps with
      | some a => w.map (fun u => { u with active := some a.1 })
      | none => w
    match w.u.active with
    | none => w
    | some a =>
      let why := w.u.failing ps a
      let run := rfld w.u.regs Reg.CHN_DISP 15 0
      let sw := bit w.u.cfg 4 && rbit w.u.regs Reg.CHN_STATE 5 && decide (rfld w.u.regs Reg.CHN_ARB 7 0 ≤ run)
      if why ≠ 0 then Chn.declare e f a why ps w
      else if sw then Chn.declare e f a 3 ps w
      else w

/-! ## The self claim (R281) -/

/-- A synced STANDBY at J(F) (R281). Log entry 55 (DEDUCED). -/
def Chn.selfClaim (e : ChnEnv) (f : Nat) (ps : List (Nat × Heartbeat)) (w : W Chn) : W Chn :=
  let others := ps.filter (fun p => p.1 != w.u.base)
  let ok := w.u.synced && bit w.u.cfg 3 && !others.isEmpty && !(others.any (fun p => p.2.role == 1 || p.2.role == 3))
  let n := if ok then w.u.selfRun + 1 else 0
  let own := ps.any (fun p => p.1 == w.u.base)
  if ok && own && decide (rfld w.u.regs Reg.CHN_ARB 11 8 ≤ n) then
    let v : VerdictMsg := ⟨w.u.active.getD 0, w.u.base, 4, 0, wd f⟩
    Chn.claim e 0 0x1C24 (w.map (fun u => Chn.showVerdict v { u with selfRun := 0 }))
  else w.map (fun u => { u with selfRun := n })

/-! ## Joins (R282) -/

/-- The fields of CHN_JOIN_STAT. -/
def Chn.joinStat (u : Chn) (state reason unit equal : Nat) : Chn :=
  { u with regs := rset u.regs Reg.CHN_JOIN_STAT (wd (state + 16 * reason + 256 * unit + 0x10000 * min equal 255)) }

/-- STATE of CHN_JOIN_STAT. Log entry 56 (DEDUCED). -/
def Chn.joinState (u : Chn) : Nat := rfld u.regs Reg.CHN_JOIN_STAT 2 0

/-- A failed join (R282). -/
def Chn.joinFail (f reason unit : Nat) (w : W Chn) : W Chn :=
  ((w.map (fun u => { u.joinStat 5 reason unit 0 with sync := none, parts := [], failedAt := some f })).code Pg.CHN 0x1C26
    [wd reason, wd unit]).evt Pg.CHN 5

/-- The ACTIVE at J(F) (R282): it serves one join at a time, in order of base. An attempt ends when the joiner is synced
or gone, or at J(S + 6), so that a new sync fathom follows 8 fathoms after a failed one. Log entry 56 (DEDUCED). -/
def Chn.serveJoins (f : Nat) (ps : List (Nat × Heartbeat)) (w : W Chn) : W Chn :=
  let wants := fun (p : Nat × Heartbeat) => p.1 != w.u.base && p.2.role == 2 && p.2.flags / 32 % 2 == 0
  let busy := match w.u.serving with
    | some s => ps.any (fun p => p.1 == s.1 && wants p) && decide (f < s.2.1 + 6)
    | none => false
  if busy then w
  else
    let ready := (ps.filter (fun p => wants p && !(w.u.refused.any (fun r => r.1 == p.1 && decide (f < r.2))))).foldl
      (fun (a : Option (Nat × Heartbeat)) p => match a with
        | none => some p
        | some q => if p.1 < q.1 then some p else some q) none
    match ready with
    | none => w.map (fun u => { u with serving := none })
    | some p =>
      let same := ps.any (fun q => q.1 == w.u.base && q.2.cfgDig == p.2.cfgDig)
      if same then w.map (fun u => { u with serving := some (p.1, f + 2, []), fusDue := some (p.1, f + 2) })
      else w.map (fun u => { u with serving := none, refused := (p.1, f + 8) :: u.refused.filter (fun r => r.1 != p.1) })

/-- A STANDBY that joins, at J(F) (R282). Log entry 56 (DEDUCED). -/
def Chn.joiner (f : Nat) (ps : List (Nat × Heartbeat)) (w : W Chn) : W Chn :=
  let w := w.map (fun u => match topActive ps with | some a => { u with active := some a.1 } | none => u)
  if w.u.synced then w
  else
    let w := w.map (fun u => if u.joinState = 0 ∨ u.joinState = 4 then u.joinStat 1 0 0 0 else u)
    let st := w.u.joinState
    let own := ps.find? (fun p => p.1 == w.u.base)
    let act := topActive ps
    let lost := match w.u.active with | some a => decide (2 ≤ (w.u.member a).missRun) | none => false
    let cooled := match w.u.failedAt with | some x => decide (x + 8 ≤ f) | none => true
    let differ := match own, act with | some o, some a => o.2.cfgDig != a.2.cfgDig | _, _ => false
    let equal := match own, act with | some o, some a => o.2.digests == a.2.digests | _, _ => false
    if decide (st = 2 ∨ st = 3) && lost then Chn.joinFail f 5 0 w
    else if decide (st = 1 ∨ st = 5) && differ && cooled then Chn.joinFail f 1 0 w
    else if st = 3 then
      let n := if equal then rfld w.u.regs Reg.CHN_JOIN_STAT 23 16 + 1 else 0
      if 4 ≤ n then
        (((w.map (fun u => { u.joinStat 4 0 0 n with synced := true })).code Pg.CHN 0x0C27 []).evt Pg.CHN 5).chainEvent 4
      else if w.u.confFrom + 64 ≤ f then Chn.joinFail f 3 0 w
      else w.map (fun u => u.joinStat 3 0 0 n)
    else w

/-! ## The judgment -/

/-- The fathom whose judgment instant has passed last (R267). Log entry 54 (DEDUCED). -/
def ChnEnv.judgeable (e : ChnEnv) (window : Nat) : Nat :=
  if e.hbStart + window ≤ e.tick then e.count
  else e.count - (e.hbStart + window - e.tick + e.lenUs - 1) / e.lenUs

/-- J(F) (R267, R278–R282). A judgment already made changes nothing. -/
def Chn.judge (e : ChnEnv) (u : Chn) : W Chn :=
  let f := e.judgeable u.window
  let due := match u.judged with | some j => decide (j < f) | none => true
  if e.on && e.run && due then
    let ps := u.present f
    let w := (u.members.map (·.1)).foldl (Chn.judgeMember f) (W.of { u with judged := some f })
    let w := w.map (fun u => { u with
      own := u.own.filter (fun h => h.fno != wd f)
      regs := rmod u.regs Reg.CHN_STATE (fun x => putBits x 31 24 (min 255 ((ps.filter (fun p => p.1 != u.base)).length + 1))) })
    let w := Chn.judgeArbiter ps (Chn.judgeGap e ps w)
    let w := Chn.judgeDispute (disputed ps) w
    let w :=
      if w.u.role = 3 then Chn.arbitrate e f ps w
      else if w.u.role = 1 then Chn.serveJoins f ps w
      else if w.u.role = 2 then Chn.selfClaim e f ps (Chn.joiner f ps w)
      else w
    w.map (Chn.refresh e.count)
  else W.of u

/-- REJOIN (R282): a synced STANDBY becomes unsynced. -/
def Chn.rejoin (count : Nat) (u : Chn) : Chn :=
  if u.role = 2 ∧ u.synced then Chn.refresh count ({ u with synced := false, sync := none, parts := [] }.joinStat 1 0 0 0) else u

/-- CLR (R286): the counters and maxima cleared. -/
def Chn.clear (u : Chn) : Chn :=
  { u with regs := rmod (rmod (rmod (rset u.regs Reg.CHN_CNT_BAD 0) Reg.CHN_ROUND (fun w => putBits w 31 16 0))
      Reg.CHN_GAP (fun w => w &&& 0xFF#32)) Reg.CHN_DISP (fun w => putBits w 31 16 0) }

end Sys2Proof.Machine
end

