-- ==== Sys2Proof/Machine/ChainIo.lean ====
section
/-! DEFINITION. What the Chain carries (R268–R273, R282–R284): mirrored samples, publication entries, station records and
remote outputs, the state frames of a join, and Chain operations. -/

namespace Sys2Proof.Config

/-- The bytes of a unit's state in STATE frames, whose layout the spec does not give (R282, R283). -/
opaque joinEncode : Nat → Sys2Proof.Machine.JoinState → List (BitVec 8)
/-- The unit's state that received bytes spell; none when they spell none. -/
opaque joinDecode : Nat → List (BitVec 8) → Option Sys2Proof.Machine.JoinState

end Sys2Proof.Config

namespace Sys2Proof.Machine

/-! ## Mirrored samples (R268) -/

/-- The mirror entries that name a source. -/
def Chn.mirrorEntries (u : Chn) (unit sel : Nat) : List Nat :=
  if unit = 0x20 ∨ unit = 0 then []
  else (upto 256).filter (fun n =>
    let w := rget u.regs (rk Reg.CHN_MIR_SRC 0 n)
    bits w 7 0 == unit && bits w 31 16 == sel)

/-- A local sample kept for the next sample tick (R268). -/
def Chn.mirrorSample (x : Sample) (u : Chn) : Chn :=
  { u with samples := u.samples ++ (u.mirrorEntries x.unit x.sel).map (fun n => (n, x)) }

/-- The entries of a SAMPLE frame (R264). -/
def sampleBody (xs : List (Nat × Sample)) : List Byte :=
  beBytes 1 xs.length ++ beBytes 3 0 ++ xs.flatMap (fun x =>
    beBytes 1 x.1 ++ beBytes 3 0 ++ beBytes 4 (wi x.2.value).toNat ++ beBytes 8 (x.2.stamp % 18446744073709551616).toNat)

/-- Samples sent in frames of at most 120 (R264), at most n frames. Log entry 57 (DEDUCED). -/
def Chn.sendSamples (e : ChnEnv) : Nat → List (Nat × Sample) → W Chn → W Chn
  | 0, _, w => w
  | n + 1, xs, w => if xs = [] then w else Chn.sendSamples e n (xs.drop 120) (Chn.send e 6 (sampleBody (xs.take 120)) w)

/-- A sample tick (R268): the samples whose timestamps lie in the preceding period. -/
def Chn.sampleTick (e : ChnEnv) (u : Chn) : W Chn :=
  let p : Int := 1000 * (rfld u.regs Reg.CHN_SMP 9 0 : Nat)
  let now := u.samples.filter (fun x => decide (e.time - p ≤ x.2.stamp) && decide (x.2.stamp < e.time))
  let later := u.samples.filter (fun x => decide (e.time ≤ x.2.stamp))
  Chn.sendSamples e (now.length + 1) now (W.of { u with samples := later })

/-- The samples of an accepted SAMPLE frame, for FLT as source 0x20 (R268). -/
def readSamples (f : ChainFrame) : List Sample :=
  (upto (min (byteAt f.body 0) ((f.body.length - 4) / 16))).map (fun i =>
    let a := 4 + 16 * i
    { unit := 0x20, sel := 256 * f.origin + byteAt f.body a, stamp := (beNat (sliceB f.body (a + 8) 8) : Int)
      value := signed 32 (beNat (sliceB f.body (a + 4) 4)) })

/-- An accepted SAMPLE frame (R268). -/
def Chn.takeSamples (f : ChainFrame) (w : W Chn) : W Chn := (readSamples f).foldl (fun w x => w.sample x) w

/-! ## Publication entries (R270) -/

/-- CHN_PUB_CFG of entry n: block, blocks per half, enabled. -/
def Chn.pub (u : Chn) (n : Nat) : Nat × Nat × Bool :=
  let w := rget u.regs (rk Reg.CHN_PUB_CFG 0 n)
  (bits w 18 0, bits w 27 19, bit w 31)

/-- The enabled publication entries. -/
def Chn.pubs (u : Chn) : List Nat := (upto 8).filter (fun n => (u.pub n).2.2 && decide ((u.pub n).2.1 ≠ 0))

/-- The block of the pair a span of this member reads for the pair at a block (R270): the mirror pair in STANDBY. -/
def Chn.redirect (u : Chn) (blk : Nat) : Nat :=
  if u.role = 2 then
    match u.pubs.find? (fun n => (u.pub n).1 == blk) with
    | some n => blk + 2 * (u.pub n).2.1
    | none => blk
  else blk

/-- The frames of a visible half, 1,920 bytes each (R264). -/
def Chn.sendPub (s : State) (e : ChnEnv) (w : W Chn) (n : Nat) : W Chn :=
  let (blk, len, _) := w.u.pub n
  let a := s.visible blk
  let parts := (32 * len + 1919) / 1920
  let w := w.readN s.mem Pg.CHN a len
  (upto parts).foldl (fun w p =>
    let size := min 1920 (32 * len - 1920 * p)
    Chn.send e 3 (beBytes 1 n ++ beBytes 1 p ++ beBytes 1 parts ++ beBytes 1 0 ++ beBytes 4 (e.count % 4294967296)
      ++ s.mem.readBytes (a + 1920 * p) size) w) w

/-- PUB_SEND of a fathom start (R270): the ACTIVE sends every enabled entry. -/
def Chn.sendPubs (s : State) (e : ChnEnv) (w : W Chn) : W Chn :=
  if w.u.role = 1 then w.u.pubs.foldl (Chn.sendPub s e) w else w

/-- An accepted PUB frame (R270): written into the hidden half of the entry's mirror pair. Log entry 57 (DEDUCED). -/
def Chn.takePub (s : State) (e : ChnEnv) (f : ChainFrame) (w : W Chn) : W Chn :=
  let n := byteAt f.body 0
  let part := byteAt f.body 1
  let data := f.body.drop 8
  let (blk, len, _) := w.u.pub n
  if e.run && decide (n ∈ w.u.pubs) && decide (w.u.role ≠ 1) && decide (1920 * part + data.length ≤ 32 * len) then
    let fno := be32 f.body 4
    let got := match w.u.pubParts.find? (fun x => x.1 == n && x.2.1 == fno) with | some x => x.2.2.2 | none => []
    (w.store Pg.CHN (s.hidden (blk + 2 * len) len + 1920 * part) data).map (fun u => { u with
      pubParts := (n, fno, byteAt f.body 2, part :: got.filter (· != part)) :: u.pubParts.filter (fun x => x.1 != n) })
  else w

/-- Whether all frames of entry n's publication of this fathom have arrived. -/
def Chn.pubComplete (u : Chn) (count n : Nat) : Bool :=
  u.pubParts.any (fun x => x.1 == n && x.2.1 == wd count && x.2.2.2.length == x.2.2.1
    && x.2.2.1 == (32 * (u.pub n).2.1 + 1919) / 1920)

/-- Tick CHN_PUB_AT (R270): the entries whose mirror pairs are exchanged, and CHN after it. -/
def Chn.publishMirrors (e : ChnEnv) (u : Chn) : W Chn × List (Nat × Nat) :=
  if e.on && e.run && decide (u.role ≠ 1) then
    let done := u.pubs.filter (u.pubComplete e.count)
    let miss := u.pubs.filter (fun n => !u.pubComplete e.count n)
    let w := W.of { u with pubParts := [], pubMiss := miss.foldl (fun a n => a + 2 ^ n) 0 }
    (miss.foldl (fun w n => w.code Pg.CHN 0x1C15 [wd n]) w, done.map (fun n => ((u.pub n).1 + 2 * (u.pub n).2.1, (u.pub n).2.1)))
  else (W.of u, [])

/-! ## Remote I/O (R271–R273) -/

/-- The big-endian bytes of words. -/
def beWords (ws : List Word) : List Byte := ws.flatMap (fun w => beBytes 4 w.toNat)

/-- The words a list of bytes spells, big-endian. -/
def readBeWords (n : Nat) (bs : List Byte) : List Word := (upto n).map (fun i => be32 bs (4 * i))

/-- A MIRROR span (R271): an OUTPUT frame of the enabled station entries of the image, an INPUT frame, or nothing. -/
def Chn.mirror (e : ChnEnv) (image inputs : List Word) (u : Chn) : W Chn :=
  if u.role = 1 then
    let stations := (upto (image.length / 8)).map (fun i => (image.drop (8 * i)).take 8)
    Chn.send e 4 (beWords (stations.filter (fun st => bit (wordAt st 0) 31)).flatten) (W.of u)
  else if u.role = 4 then Chn.send e 5 (beWords inputs) (W.of u)
  else W.of u

/-- An accepted OUTPUT frame at an IO member (R273). -/
def Chn.takeOutput (e : ChnEnv) (f : ChainFrame) (w : W Chn) : W Chn :=
  if w.u.role ≠ 4 then w
  else if f.stone = w.u.top e.count then
    w.map (fun u => { u with output := some (f.stone, readBeWords (f.body.length / 4) f.body), lowerRec := false })
  else
    let onset := !w.u.lowerRec
    let w := w.map (fun u => { u.mod Reg.CHN_CNT_BAD (fun c => incSatField c 31 24) with lowerRec := true })
    w.when onset (·.code Pg.CHN 0x1C29 [wd f.origin])

/-- An accepted INPUT frame kept for the next station record (R272). -/
def Chn.takeInput (f : ChainFrame) (w : W Chn) : W Chn :=
  if f.body.length = 156 then
    w.map (fun u => { u with
      inputs := (f.origin, f.fno, readBeWords 39 f.body) :: u.inputs.filter (fun x => x.1 != f.origin) })
  else w

/-- The Chain-slaved outputs of an IO member at a LATCH with ARG[4] (R273). -/
def Chn.latchOutputs (u : Chn) : W Chn :=
  match u.output with
  | some (stone, ws) =>
    let stations := (upto (ws.length / 8)).map (fun i => (ws.drop (8 * i)).take 8)
    let mine := stations.find? (fun st => bits (wordAt st 0) 7 0 == u.base && bit (wordAt st 0) 31)
    W.of { u with
      output := none, held := 0
      slaved := match mine with | some st => some ((st.drop 1).take 6) | none => u.slaved
      slaveOff := match mine with | some _ => false | none => u.slaveOff
      applied := match mine with | some _ => stone | none => u.applied }
  | none =>
    let n := u.held + 1
    let lim := rfld u.regs Reg.CHN_SLAVE 15 0
    let off := decide (lim ≠ 0) && decide (lim ≤ n)
    (W.of { u with held := n, slaveOff := u.slaveOff || off }).when (off && !u.slaveOff) (·.code Pg.CHN 0x2C2A [])

/-- The station entry n: base and pair block when enabled. -/
def Chn.station (u : Chn) (n : Nat) : Option (Nat × Nat) :=
  let w := rget u.regs (rk Reg.CHN_ST_CFG 0 n)
  if bit w 31 then some (bits w 7 0, bits w 26 8) else none

/-- The station record of entry n written at a LATCH with ARG[4] (R272). Log entry 57 (DEDUCED). -/
def Chn.stationRecord (s : State) (e : ChnEnv) (w : W Chn) (n : Nat) : W Chn :=
  match w.u.station n with
  | none => w
  | some (base, blk) =>
    let old := s.mem.readWords (s.visible blk) 40
    let m := w.u.member base
    let hbMiss := b2n (decide (m.missRun ≠ 0) || m.last.isNone)
    let fresh := w.u.inputs.find? (fun x => x.1 == base && x.2.1 == wd (e.count - 1))
    let run := match fresh with | some _ => 0 | none => satInc 16 (bits (wordAt old 0) 31 16)
    let body := match fresh with | some x => x.2.2 | none => old.drop 1
    let applied := b2n (wordAt body 1 == w.u.stone)
    let w0 := wd (b2n fresh.isSome + 2 * b2n fresh.isNone + 4 * applied + 8 * hbMiss + 256 * base + 0x10000 * run)
    let w := (w.readN s.mem Pg.CHN (s.visible blk) 5).store Pg.CHN (s.hidden blk 5) (wordsBytes ((w0 :: body).take 40))
    let onset := fresh.isNone && !w.u.stale.contains n
    let w := w.map (fun u => { u with
      stale := if fresh.isNone then (if u.stale.contains n then u.stale else n :: u.stale) else u.stale.filter (· != n)
      regs := rset u.regs (rk Reg.CHN_ST_STAT 0 n) w0 })
    w.when onset (fun w => ((w.code Pg.CHN 0x1C16 [wd base]).evt Pg.CHN 4).chainEvent 6)

/-- The station records of all enabled entries (R272). -/
def Chn.stations (s : State) (e : ChnEnv) (u : Chn) : W Chn := (upto 32).foldl (Chn.stationRecord s e) (W.of u)

/-- The pairs of the station records, with their half lengths. -/
def Chn.stationPairs (u : Chn) : List (Nat × Nat) := (upto 32).filterMap (fun n => (u.station n).map (fun x => (x.2, 5)))

/-! ## The state frames of a join (R282, R283) -/

/-- The units of the join table (R283). -/
def joinUnits : List Nat := [0x14, 0x11, 0x12, 0x17, 0x10, 0x13, 0x15]

/-- A unit's state sent in STATE frames to a joiner (R282). -/
def Chn.sendState (e : ChnEnv) (target unit sync : Nat) (x : JoinState) (w : W Chn) : W Chn :=
  let bs := Config.joinEncode unit x
  let parts := max 1 ((bs.length + 1919) / 1920)
  (upto parts).foldl (fun w p =>
    Chn.send e 8 (beBytes 1 target ++ beBytes 1 unit ++ beBytes 2 p ++ beBytes 2 parts ++ beBytes 2 0
      ++ beBytes 4 (sync % 4294967296) ++ sliceB bs (1920 * p) 1920) w) w

/-- After a publication of a unit on the ACTIVE (R282): its part is sent in the sync fathom; FUS after its first one. -/
def Chn.publication (e : ChnEnv) (unit : Nat) (x : JoinState) (u : Chn) : W Chn :=
  if u.role ≠ 1 then W.of u
  else if unit = 0x15 then
    match u.fusDue with
    | some (b, f) => if f ≤ e.count then (Chn.sendState e b unit f x (W.of u)).map (fun u => { u with fusDue := none }) else W.of u
    | none => W.of u
  else
    match u.serving with
    | some (b, f, sent) =>
      if joinUnits.contains unit && f == e.count && !sent.contains unit then
        (Chn.sendState e b unit f x (W.of u)).map (fun u => { u with serving := some (b, f, unit :: sent) })
      else W.of u
    | none => W.of u

/-- A frame of a part in reception. -/
def addPart (ps : List JoinPart) (unit parts n : Nat) (d : List Byte) : List JoinPart :=
  let old := match ps.find? (fun p => p.unit == unit) with | some p => p.got | none => []
  ⟨unit, parts, (n, d) :: old.filter (fun g => g.1 != n)⟩ :: ps.filter (fun p => p.unit != unit)

/-- Whether a part is complete, and its bytes in order. -/
def JoinPart.complete (p : JoinPart) : Bool := (upto p.parts).all (fun i => p.got.any (fun g => g.1 == i))

/-- The bytes of a part in order. -/
def JoinPart.bytes (p : JoinPart) : List Byte :=
  (upto p.parts).flatMap (fun i => match p.got.find? (fun g => g.1 == i) with | some g => g.2 | none => [])

/-- An accepted STATE frame (R282). -/
def Chn.takeState (e : ChnEnv) (f : ChainFrame) (w : W Chn) : W Chn :=
  let b := f.body
  if byteAt b 0 ≠ w.u.base ∨ w.u.role ≠ 2 ∨ w.u.synced then w
  else
    let unit := byteAt b 1
    let sync := (be32 b 8).toNat
    let s := e.count - e.count % 4294967296 + sync
    if unit = 0x15 then w.map (fun u => { u with fusPart := addPart u.fusPart unit (be16 b 4) (be16 b 2) (b.drop 12) })
    else
      let w := w.when (decide (w.u.sync ≠ some s)) (·.map (fun u => { u.joinStat 2 0 0 0 with sync := some s, parts := [] }))
      w.map (fun u => { u with parts := addPart u.parts unit (be16 b 4) (be16 b 2) (b.drop 12) })

/-- The first fathom start after the sync fathom (R282): what is installed, and CHN after it. `need` are the units whose
spans were due in the sync fathom. -/
def Chn.install (count : Nat) (need : List Nat) (u : Chn) : W Chn × List (Nat × JoinState) :=
  let fus := u.fusPart.filter (·.complete)
  let fusIn := fus.filterMap (fun p => (Config.joinDecode p.unit p.bytes).map (fun x => (p.unit, x)))
  let u1 : Chn := { u with fusPart := if fus.isEmpty then u.fusPart else [] }
  match u.sync with
  | some s =>
    if u.role = 2 ∧ count = s + 1 ∧ u.joinState = 2 then
      let got := u.parts.filter (·.complete)
      let ins := got.filterMap (fun p => (Config.joinDecode p.unit p.bytes).map (fun x => (p.unit, x)))
      let late := need.find? (fun n => !got.any (fun p => p.unit == n))
      let bad := need.find? (fun n => !ins.any (fun p => p.1 == n))
      let w := W.of { u1 with parts := [] }
      let w :=
        match late, bad with
        | some n, _ => Chn.joinFail s 2 n w
        | none, some n => Chn.joinFail s 4 n w
        | none, none => w.map (fun u => { u.joinStat 3 0 0 0 with sync := none, confFrom := count })
      (w, ins ++ fusIn)
    else (W.of u1, fusIn)
  | none => (W.of u1, fusIn)

/-! ## Chain operations (R284) -/

/-- A bit of a base in one of the bitmaps of eight words whose register is r. -/
def baseCell (r b : Nat) : Nat := rk r 0 (b / 32)

/-- The targets: the members present at the last judgment, this one included. Log entry 57 (DEDUCED). -/
def Chn.targets (u : Chn) : List Nat := u.base :: ((u.members.filter (fun x => x.2.now)).map (·.1))

/-- The bases marked in a bitmap. -/
def Chn.marked (u : Chn) (r : Nat) : List Nat := (upto 256).filter (fun b => rbit u.regs (baseCell r b) (b % 32))

/-- A base marked in a bitmap. -/
def Chn.mark (r b : Nat) (u : Chn) : Chn := u.mod (baseCell r b) (fun w => putBit w (b % 32) true)

/-- An operation started by GO (R284), up to its own part. -/
def Chn.opStart (e : ChnEnv) (u : Chn) : W Chn :=
  let op := rfld u.regs Reg.CHN_OP_CODE 7 0
  let ts := u.targets
  let clear := fun (m : RMap) => (upto 8).foldl (fun m j =>
    rsets m [(rk Reg.CHN_OP_TGT 0 j, 0), (rk Reg.CHN_OP_ACK 0 j, 0), (rk Reg.CHN_OP_NAK 0 j, 0)]) m
  let id := (u.opId + 1) % 256
  let u1 : Chn := { u with
    opId := id, opFno := e.count
    regs := rset (clear u.regs) Reg.CHN_OP_STAT (wd (1 + 256 * op + 0x10000 * ts.length)) }
  let u2 := ts.foldl (fun u b => u.mark Reg.CHN_OP_TGT b) u1
  Chn.send e 9 (beBytes 1 op ++ beBytes 1 id ++ beBytes 2 0 ++ beBytes 4 (rget u.regs Reg.CHN_OP_ARG_H).toNat
    ++ beBytes 4 (rget u.regs Reg.CHN_OP_ARG_L).toNat) (W.of u2)

/-- Whether an operation is BUSY. -/
def Chn.opBusy (u : Chn) : Bool := rbit u.regs Reg.CHN_OP_STAT 0

/-- The operation finished when every target has answered, or timed out (R284). -/
def Chn.opFinish (timeout : Bool) (w : W Chn) : W Chn :=
  let u := w.u
  let open_ := (u.marked Reg.CHN_OP_TGT).filter (fun b =>
    !rbit u.regs (baseCell Reg.CHN_OP_ACK b) (b % 32) && !rbit u.regs (baseCell Reg.CHN_OP_NAK b) (b % 32))
  if u.opBusy && (open_.isEmpty || timeout) then
    let nak := rbit u.regs Reg.CHN_OP_STAT 3
    let w := w.map (fun u => u.mod Reg.CHN_OP_STAT (fun x => putBit (putBit (putBit x 0 false) 1 true) 2 (!open_.isEmpty)))
    ((w.evt Pg.CHN 6).chainEvent 8).when (nak || !open_.isEmpty) (·.code Pg.CHN 0x1C31 [])
  else w

/-- The answer of a target recorded (R284). -/
def Chn.opAnswer (b result : Nat) (w : W Chn) : W Chn :=
  if w.u.opBusy && rbit w.u.regs (baseCell Reg.CHN_OP_TGT b) (b % 32) then
    let w := w.map (fun u =>
      if result = 0 then u.mark Reg.CHN_OP_ACK b
      else (u.mark Reg.CHN_OP_NAK b).mod Reg.CHN_OP_STAT (fun x => putBit x 3 true))
    Chn.opFinish false w
  else w

/-- An accepted ACK (R284). -/
def Chn.takeAck (f : ChainFrame) (w : W Chn) : W Chn :=
  if byteAt f.body 0 = rfld w.u.regs Reg.CHN_OP_STAT 15 8 ∧ byteAt f.body 1 = w.u.opId then
    Chn.opAnswer f.origin (byteAt f.body 2) w
  else w

/-- The ACK of a target (R264, R284). -/
def Chn.sendAck (e : ChnEnv) (op id result error : Nat) (w : W Chn) : W Chn :=
  Chn.send e 10 (beBytes 1 op ++ beBytes 1 id ++ beBytes 1 result ++ beBytes 1 0 ++ beBytes 2 error) w

/-- CHAIN_OP_TIMEOUT (R284): 4 fathoms after GO. -/
def Chn.opTimeout (e : ChnEnv) (u : Chn) : W Chn :=
  if u.opFno + 4 ≤ e.count then Chn.opFinish true (W.of u) else W.of u

/-! ## The heartbeat span (R266) -/

/-- HEARTBEAT (R266): sent in RUN, with what the rest of the module gives: FLAGS but for DOUBLE_FAULT, SYNCED and
SELF_CLAIMED, the force count, the digests, IMAGE_ID and the configuration digest. -/
def Chn.heartbeat (e : ChnEnv) (flags forceCnt : Nat) (digests : List Word) (image cfgDig : Word) (u : Chn) : W Chn :=
  let fl := flags + 8 * b2n (rbit u.regs Reg.CHN_STATE 6) + 32 * b2n u.synced + 64 * b2n (u.selfClaimed && u.role == 1)
  let h : Heartbeat := {
    fno := wd e.count, stone := u.stone, role := u.role, flags := fl, prio := bits u.cfg 15 8, forceCnt := forceCnt
    fault := u.fault, digests := digests, image := image, serial := e.serial, cfgDig := cfgDig, west := true, east := true }
  let body := heartbeatBody h (u.top e.count) u.pubMiss (rfld u.regs Reg.CHN_GAP 7 0)
  (Chn.send e 1 body (W.of u)).map (fun u => { u with fault := 0, own := h :: u.own.take 3 })

/-- A recorded code for the heartbeat's FAULT (R266): the highest class since the last heartbeat, the first of its class.
Log entry 54 (DEDUCED). -/
def Chn.noteFault (code : Nat) (u : Chn) : Chn :=
  if u.fault / 4096 < code / 4096 ∨ u.fault = 0 then { u with fault := code } else u

end Sys2Proof.Machine
end

