-- ==== Sys2Proof/Machine/Tasks.lean ====
section
/-! DEFINITION. The task side of PRG0–PRG2: releases, the I/O image, forcing, scheduling, cycle ends, retained data
(R240–R252). What a task computes is not in the spec (R233): the command that ends a cycle carries the bytes the task
has written to its core's data bank. -/

namespace Sys2Proof.Machine

/-- What a task nothing has touched is. -/
def taskDefault (_ : Nat) : TaskState := TaskState.fresh

/-- The state of task i. -/
def Prg.task (u : Prg) (i : Nat) : TaskState := sget taskDefault u.tasks i

/-- The tasks of the running image. -/
def Prg.defs (u : Prg) : List Task := match u.image with | some im => im.tasks | none => []

/-- The definition of task i, if the running image has it. -/
def Prg.defn (u : Prg) (i : Nat) : Option Task := u.defs.find? (fun t => t.idx == i)

/-- STATE of PRG_T_STAT (R258). -/
def TaskPhase.code : TaskPhase → Nat
  | .idle => 1 | .ready => 2 | .running => 3 | .stopped => 4 | .faulted => 5

/-- Task i set, with STATE in PRG_T_STAT. -/
def Prg.putTask (u : Prg) (i : Nat) (t : TaskState) : Prg :=
  { u with
    tasks := sset taskDefault u.tasks i t
    regs := rmod u.regs (rk Reg.PRG_T_STAT 0 i) (fun w => putBits w 2 0 t.phase.code) }

/-- A bit of PRG_T_STAT of task i. -/
def Prg.taskFlag (u : Prg) (i b : Nat) (v : Bool) : Prg :=
  { u with regs := rmod u.regs (rk Reg.PRG_T_STAT 0 i) (fun w => putBit w b v) }

/-- A register cell of task i changed. -/
def Prg.taskCell (u : Prg) (r i : Nat) (f : Word → Word) : Prg :=
  { u with regs := rmod u.regs (rk r 0 i) f }

/-- The base of a core's data bank for a run slot in the bank bytes. -/
def bankBase (core : Nat) (slot : Bool) : Nat := 0x100000 * core + 0x80000 * b2n slot

/-! ## Forcing (R251, R252) -/

/-- What an uncommitted force entry is. -/
def forceDefault (_ : Nat) : Force := Force.empty

/-- The word after the enabled entries on it, in index order (R251). -/
def forceWord (fs : List (Nat × Force)) (output : Bool) (pair word : Nat) (x : Word) : Word :=
  fs.foldl (fun x e =>
    if e.2.en && (e.2.output == output) && (e.2.pair == pair) && (e.2.word == word) then
      (x &&& ~~~e.2.mask) ||| (e.2.val &&& e.2.mask)
    else x) x

/-- The entries applied by a copy of count words of a pair, marked ACTIVE (R251). -/
def Prg.markForced (u : Prg) (output : Bool) (e : MapEntry) : Prg :=
  let hit := fun (f : Force) =>
    f.en && (f.output == output) && (f.pair == e.blk) && decide (e.word ≤ f.word) && decide (f.word < e.word + e.count)
  let idxs := (u.forces.filter (fun f => hit f.2)).map (·.1)
  { u with
    forces := u.forces.map (fun f => if hit f.2 then (f.1, { f.2 with active := true }) else f)
    regs := idxs.foldl (fun m i => rmod m (rk Reg.PRG_FRC_WORD 0 i) (fun w => putBit w 30 true)) u.regs }

/-- PRG_FRC_CNT: the enabled entries (R253). -/
def Prg.forceCount (u : Prg) : Nat := (u.forces.filter (fun f => f.2.en)).length

/-! ## Input and output copies (R245, R246) -/

/-- One word of an input entry copied into the bank; a word of a poisoned block keeps its content (R247). -/
def copyInWord (s : State) (u : Prg) (base : Nat) (e : MapEntry) (b : List Host.Cell) (i : Nat) : List Host.Cell :=
  let a := s.visible e.blk + 4 * (e.word + i)
  if s.mem.isBad a then b
  else ssetRun memDefault b (base + e.off + 4 * i)
    (wordBytes (forceWord u.forces false e.blk (e.word + i) (s.mem.readWord a)))

/-- The blocks of an input entry in the visible half. -/
def entryBlocks (s : State) (e : MapEntry) : List Nat :=
  (blocksOf (s.visible e.blk + 4 * e.word) (4 * e.count)).map (fun b => 32 * b)

/-- One input entry copied at a task's release (R245, R247, R251). -/
def Prg.copyIn (s : State) (t : Task) (w : W Prg) (e : MapEntry) : W Prg :=
  let base := bankBase t.core w.u.slot
  let bad := (entryBlocks s e).any s.mem.isBad
  let w := w.map (fun u => { u with banks := (upto e.count).foldl (copyInWord s u base e) u.banks })
  let w := w.map (fun u => u.markForced false e)
  let w := (entryBlocks s e).foldl (fun w a => w.readN s.mem (Pg.PRG + t.core) a 1) w
  w.when bad (fun w => (w.map (fun u => u.taskFlag t.idx 5 true)).code (Pg.PRG + t.core) 0x20C3 [wd t.idx])

/-- The input copy of a task's release: POISON_IN starts anew, every entry is copied. -/
def Prg.copyInputs (s : State) (t : Task) (w : W Prg) : W Prg :=
  t.inMap.foldl (Prg.copyIn s t) (w.map (fun u => u.taskFlag t.idx 5 false))

/-- The words of an output entry, with forced outputs applied (R246, R251). -/
def outWords (u : Prg) (t : Task) (e : MapEntry) : List Word :=
  (upto e.count).map (fun i =>
    let base := bankBase t.core u.slot + e.off + 4 * i
    let x := wd (leNat ((upto 4).map (fun j => sget memDefault u.banks (base + j))))
    forceWord u.forces true e.blk i x)

/-- The half length of an output entry's pair in blocks: the entry covers the whole half (R238). -/
def MapEntry.half (e : MapEntry) : Nat := (e.count + 7) / 8

/-- One output entry copied into the hidden half of its pair, which is marked written (R246). -/
def Prg.copyOut (s : State) (t : Task) (w : W Prg) (e : MapEntry) : W Prg :=
  let data := wordsBytes (outWords w.u t e)
  let w := w.store (Pg.PRG + t.core) (s.hidden e.blk e.half) data
  w.map (fun u =>
    { (u.markForced true e) with written := u.written.filter (fun p => p.1 != e.blk) ++ [(e.blk, e.half)] })

/-! ## Scheduling (R241) -/

/-- Whether a task counts for its core's choice: ready with its copy done, or started. -/
def Prg.runnable (u : Prg) (t : Task) : Bool :=
  match (u.task t.idx).phase with
  | .ready => !(u.task t.idx).copying
  | .running => true
  | _ => false

/-- Whether task a goes before task b on their core (R241): higher priority, then started first, then ready first,
then the tie token (R26). -/
def Prg.before (u : Prg) (token : Nat) (a b : Task) : Bool :=
  let sa := u.task a.idx
  let sb := u.task b.idx
  let na := b2n (decide (sa.phase ≠ .running))
  let nb := b2n (decide (sb.phase ≠ .running))
  if a.prio ≠ b.prio then decide (a.prio < b.prio)
  else if na ≠ nb then decide (na < nb)
  else if sa.order ≠ sb.order then decide (sa.order < sb.order)
  else decide ((a.idx + 48 - token % 48) % 48 < (b.idx + 48 - token % 48) % 48)

/-- The task a core runs. -/
def Prg.choose (u : Prg) (core : Nat) : Option Task :=
  let token := u.tokens.getD core 0
  ((u.defs.filter (fun t => t.core == core && u.runnable t)).foldl
    (fun best t => match best with
      | none => some t
      | some b => if u.before token t b then some t else some b) none)

/-- Whether the start of task t on its core was decided by the tie token. -/
def Prg.tied (u : Prg) (t : Task) : Bool :=
  u.defs.any (fun a => a.core == t.core && a.idx != t.idx && a.prio == t.prio && u.runnable a
    && decide ((u.task a.idx).phase = .ready) && decide ((u.task t.idx).phase = .ready)
    && (u.task a.idx).order == (u.task t.idx).order)

/-- A core takes up the task it now chooses; RUNNING of PRGn_STAT names it (R241, R258). Log entry 51 (DEDUCED). -/
def Prg.schedule (core : Nat) (u : Prg) : Prg :=
  match u.choose core with
  | none => { u with regs := rmod u.regs (rk Reg.PRG_STAT core 0) (fun w => putBits w 15 8 0xFF) }
  | some t =>
    let tokens := if u.tied t then setAt u.tokens core ((t.idx + 1) % 48) else u.tokens
    let u := u.putTask t.idx { u.task t.idx with phase := .running }
    { u with
      tokens := tokens
      regs := rmod u.regs (rk Reg.PRG_STAT core 0) (fun w => putBits w 15 8 t.idx) }

/-- All three cores. -/
def Prg.scheduleAll (u : Prg) : Prg := Prg.schedule 2 (Prg.schedule 1 (Prg.schedule 0 u))

/-! ## Releases (R240, R242) -/

/-- The task clock of a release in µs (R248). -/
def State.taskClock (s : State) (u : Prg) : Nat := (s.seq.count - u.f0) * s.seq.lenUs

/-- An event task released (R240): its inputs are copied at once and it is ready. -/
def Prg.releaseEvent (s : State) (t : Task) (w : W Prg) : W Prg :=
  let w := Prg.copyInputs s t w
  w.map (fun u => u.putTask t.idx { u.task t.idx with
    phase := .ready, copying := false, again := false, released := s.tim.us, relCount := s.seq.count,
    order := u.nextOrder, clock := s.taskClock u })

/-- Whether a trigger is the one a trigger word names (R238). -/
def triggerMatches (word : Word) (x : Trigger) : Bool :=
  let sel := bits word 31 16
  bits word 7 0 == x.kind && bits word 15 8 == x.unit &&
  (if x.kind = 3 then sel % 16 == x.sel % 16 && decide ((sel / 16 % 4) &&& (x.sel / 16 % 4) ≠ 0)
   else if x.kind = 4 ∨ x.kind = 5 then sel == 0xFFFF || sel == x.sel
   else sel == x.sel)

/-- A trigger meeting one event task (R240): release, coalescing, or a release behind the running cycle. -/
def Prg.triggerTask (s : State) (w : W Prg) (t : Task) : W Prg :=
  let st := w.u.task t.idx
  let count := fun (w : W Prg) => w.map (fun u => u.taskCell Reg.PRG_T_TRIG t.idx (fun c => incWrapField c 15 0))
  let coalesce := fun (w : W Prg) => w.map (fun u => u.taskCell Reg.PRG_T_TRIG t.idx (fun c => incSatField c 31 16))
  match st.phase with
  | .idle => Prg.releaseEvent s t (count w)
  | .ready => coalesce (count w)
  | .running => if st.again then coalesce (count w) else (count w).map (fun u => u.putTask t.idx { st with again := true })
  | .stopped => if st.startReq then Prg.releaseEvent s t
      ((count w).map (fun u => u.putTask t.idx { st with startReq := false })) else w
  | .faulted => w

/-- A trigger (R240): every event task that names it, in RUN; tasks it makes ready become so in the same cycle. -/
def Prg.trigger (s : State) (w : W Prg) (x : Trigger) : W Prg :=
  if s.mode = .run ∧ s.islandUp 1 then
    let w := (w.u.defs.filter (fun t => t.event && hdrEnabled s.hdr (Pg.PRG + t.core) && triggerMatches t.trig x)).foldl (Prg.triggerTask s) w
    w.map (fun u => Prg.scheduleAll { u with nextOrder := u.nextOrder + 1 })
  else w

/-- A cyclic task due at a fathom start (R240, R242, R245). -/
def Prg.releaseCyclic (s : State) (w : W Prg) (t : Task) : W Prg :=
  let st := w.u.task t.idx
  let page := Pg.PRG + t.core
  let start := fun (w : W Prg) =>
    Prg.copyInputs s t (w.map (fun u => (u.putTask t.idx { st with
      phase := .ready, copying := true, startReq := false, skips := 0, released := s.tim.us, relCount := s.seq.count,
      clock := s.taskClock u }).taskFlag t.idx 3 false))
  match st.phase with
  | .idle => start w
  | .stopped => if st.startReq then start w else w
  | .faulted => w
  | _ =>
    let n := st.skips + 1
    let stop := decide (t.ovrN ≠ 0) && decide (t.ovrN ≤ n)
    let w := w.map (fun u => (u.putTask t.idx { st with skips := n, stopReq := st.stopReq || stop }).taskFlag t.idx 3 true)
    let w := w.map (fun u => u.taskCell Reg.PRG_T_CNT t.idx (fun c => incSatField c 15 0))
    (w.evt page 0).code page 0x2B10 [wd t.idx]

/-- The cyclic tasks due at the fathom count of the state (R240). -/
def Prg.dueTasks (u : Prg) (count : Nat) : List Task :=
  u.defs.filter (fun t => !t.event && decide (t.period ≠ 0) && count % t.period == t.phase)

/-- The releases of a fathom start (R240). Log entry 9 (DEDUCED). -/
def Prg.releaseDue (s : State) (w : W Prg) : W Prg :=
  ((w.u.dueTasks s.seq.count).filter (fun t => hdrEnabled s.hdr (Pg.PRG + t.core))).foldl (Prg.releaseCyclic s) w

/-- A task's input copy complete (R241, R245): the task is ready. -/
def Prg.copyDone (i : Nat) (u : Prg) : Prg :=
  let st := u.task i
  if st.copying then
    Prg.scheduleAll { (u.putTask i { st with copying := false, order := u.nextOrder }) with nextOrder := u.nextOrder + 1 }
  else u

/-! ## The end of a cycle (R243, R246–R250) -/

/-- EXEC and IDLE of a cycle ended now (R243). -/
def Prg.measure (s : State) (t : Task) (u : Prg) : Prg :=
  let st := u.task t.idx
  let exec := (s.tim.us - st.released).toNat
  let next := s.seq.startUs + (((st.relCount + t.period : Nat) : Int) - (s.seq.count : Int)) * (s.seq.lenUs : Int)
  let idle := (next - s.tim.us).toNat
  let u := u.taskCell Reg.PRG_T_EXEC t.idx (fun _ => wd exec)
  let u := u.taskCell Reg.PRG_T_EXEC_MAX t.idx (fun w => wd (max w.toNat exec))
  if t.event then u
  else (u.taskCell Reg.PRG_T_IDLE t.idx (fun _ => wd idle)).taskCell Reg.PRG_T_IDLE_MIN t.idx (fun w => wd (min w.toNat idle))

/-- The identity table of the running image. -/
def Prg.idents (u : Prg) : List Ident := match u.image with | some im => im.idents | none => []

/-- The retained objects a task owns copied into the shadow (R250). -/
def Prg.commitRetained (t : Task) (u : Prg) : Prg :=
  let ids := u.idents.filter (fun o => o.retain && o.owner == t.idx)
  { u with
    shadow := ids.foldl (fun sh o =>
      ssetRun memDefault sh (0x100000 * o.core + o.off)
        ((upto o.size).map (fun j => sget memDefault u.banks (bankBase o.core u.slot + o.off + j)))) u.shadow }

/-- A task after its cycle: released again, stopped, or idle (R240, R242, R258). -/
def Prg.afterCycle (s : State) (t : Task) (w : W Prg) : W Prg :=
  let st := w.u.task t.idx
  if st.stopReq then
    let w := w.map (fun u => u.putTask t.idx { st with phase := .stopped, stopReq := false, again := false, skips := 0 })
    w.when (decide (t.ovrN ≠ 0) && decide (t.ovrN ≤ st.skips)) (·.code (Pg.PRG + t.core) 0x2B11 [wd t.idx])
  else if st.again then Prg.releaseEvent s t (w.map (fun u => u.putTask t.idx { st with phase := .idle, again := false }))
  else w.map (fun u => u.putTask t.idx { st with phase := .idle })

/-- The bytes a task has written in its core's data bank. Log entry 51 (DEDUCED). -/
def Prg.progWrites (core : Nat) (ws : List (Nat × Byte)) (u : Prg) : Prg :=
  { u with banks := ws.foldl (fun b e => sset memDefault b (bankBase core u.slot + e.1) e.2) u.banks }

/-- The end of task i's cycle (R243, R246, R250), with the bytes its core has written. Log entry 51 (DEDUCED). -/
def Prg.cycleEnd (s : State) (i : Nat) (ws : List (Nat × Byte)) (u : Prg) : W Prg :=
  match u.defn i with
  | none => W.of u
  | some t =>
    if (u.task i).phase = .running then
      let w := W.of (Prg.progWrites t.core ws u)
      let w := t.outMap.foldl (Prg.copyOut s t) w
      let w := w.map (fun u => ((Prg.commitRetained t u).measure s t).taskFlag i 4 false)
      (Prg.afterCycle s t w).map (fun u => Prg.scheduleAll { u with nextOrder := u.nextOrder + 1 })
    else W.of u

/-- A run-time error or a poisoned data load (R247): the cycle is aborted. `kind` 0 is the poisoned load. -/
def Prg.runtimeError (s : State) (i kind : Nat) (u : Prg) : W Prg :=
  match u.defn i with
  | none => W.of u
  | some t =>
    if (u.task i).phase = .running then
      let page := Pg.PRG + t.core
      let w := W.of ((u.measure s t).taskFlag i 4 true)
      let w := w.map (fun u => u.taskCell Reg.PRG_T_CNT i (fun c => incSatField c 31 16))
      let w := (w.evt page 1).code page (if kind = 0 then 0x20C3 else 0x2B12) [wd kind, wd i]
      (Prg.afterCycle s t w).map (fun u => Prg.scheduleAll { u with nextOrder := u.nextOrder + 1 })
    else W.of u

/-- An uncorrectable instruction fetch (R247): the task is FAULTED until an online change or a reset. -/
def Prg.fetchFault (i : Nat) (u : Prg) : W Prg :=
  match u.defn i with
  | none => W.of u
  | some t =>
    let page := Pg.PRG + t.core
    let w := W.of (u.putTask i { u.task i with phase := .faulted, copying := false, again := false })
    let w := w.map (fun u => { u with regs := rmod u.regs (rk Reg.PRG_STAT t.core 0) (fun x => putBit x 1 true) })
    ((w.evt page 2).code page 0x40C6 [wd i]).map Prg.scheduleAll

/-- Whether a task of the running image is released but unfinished, or a copy is in progress (R255). -/
def Prg.busy (u : Prg) : Bool :=
  u.defs.any (fun t => (u.task t.idx).copying || decide ((u.task t.idx).phase = .ready)
    || decide ((u.task t.idx).phase = .running))

/-! ## Retained saves (R250) -/

/-- A retained save requested: it takes the shadow, or follows the one in progress (R250). -/
def Prg.requestSave (u : Prg) : Prg :=
  match u.saving with
  | some _ => { u with saveNext := true }
  | none => { u with
      saving := some u.shadow
      regs := rmod (rmod u.regs Reg.PRG_RET_STAT (fun w => putBit w 2 true)) Reg.PRG_RET_CTRL (fun w => putBit w 0 true) }

/-- The sequence number of a copy, 0 when there is none. -/
def copySeq (c : Option (Word × Nat × List Host.Cell)) : Nat := match c with | some x => x.2.1 | none => 0

/-- A retained save finished (R250): the older copy holds the shadow it took, or the save failed with 0xB40. -/
def Prg.saveDone (ok : Bool) (u : Prg) : W Prg :=
  match u.saving with
  | none => W.of u
  | some sh =>
    let toB := decide (copySeq u.copyB < copySeq u.copyA) || decide (u.copyA.isSome ∧ u.copyB.isNone)
    let rec_ : Option (Word × Nat × List Host.Cell) :=
      some ((match u.image with | some im => im.imageId | none => 0), max (copySeq u.copyA) (copySeq u.copyB) + 1, sh)
    let u1 : Prg :=
      if ok then { u with copyA := if toB then u.copyA else rec_, copyB := if toB then rec_ else u.copyB } else u
    let stat := fun (x : Word) =>
      if ok then putBits (putBit (putBit (putBit x 2 false) 0 toB) 1 true) 31 16 (bits x 31 16 + 1) else putBit x 2 false
    let u2 : Prg := { u1 with
      saving := none, saveNext := false
      regs := rmod (rmod u1.regs Reg.PRG_RET_STAT stat) Reg.PRG_RET_CTRL (fun w => putBit w 0 false) }
    let w := W.of (if u.saveNext then u2.requestSave else u2)
    w.when (!ok) (fun w => (w.evt Pg.PRG 6).code Pg.PRG 0x1B40 [])

/-- The initial bytes of an image put into the banks of a slot (R235). -/
def loadInits (im : Image) (slot retained : Bool) (b : List Host.Cell) : List Host.Cell :=
  im.inits.foldl (fun b x =>
    if x.retain && !retained then b else ssetRun memDefault b (bankBase x.core slot + x.off) x.data) b

/-- The initial bytes of the retained sections in the shadow. -/
def initShadow (im : Image) : List Host.Cell :=
  im.inits.foldl (fun b x => if x.retain then ssetRun memDefault b (0x100000 * x.core + x.off) x.data else b) []

/-- The newer valid copy whose IMAGE_ID is the running image's (R250). -/
def Prg.bestCopy (u : Prg) (im : Image) : Option (List Host.Cell) :=
  let ok := fun (c : Option (Word × Nat × List Host.Cell)) => match c with
    | some x => if x.1 = im.imageId then some x else none
    | none => none
  match ok u.copyA, ok u.copyB with
  | some a, some b => if a.2.1 < b.2.1 then some b.2.2 else some a.2.2
  | some a, none => some a.2.2
  | none, some b => some b.2.2
  | none, none => none

/-- The retained objects of an image copied from shadow bytes into the banks. -/
def restoreBanks (im : Image) (slot : Bool) (sh b : List Host.Cell) : List Host.Cell :=
  (im.idents.filter (·.retain)).foldl (fun b o =>
    ssetRun memDefault b (bankBase o.core slot + o.off)
      ((upto o.size).map (fun j => sget memDefault sh (0x100000 * o.core + o.off + j)))) b

/-- Entry into RUN (R248, R250): F₀, and the retained objects from the newer valid copy or their initial values. -/
def Prg.enterRun (count : Nat) (u : Prg) : W Prg :=
  let u := { u with f0 := count }
  match u.image with
  | none => W.of u
  | some im =>
    let u := { u with regs := rmod u.regs Reg.PRG_IMG_STAT (fun w => putBit w 1 true) }
    match u.bestCopy im with
    | some sh => W.of { u with
        shadow := sh, banks := restoreBanks im u.slot sh u.banks
        regs := rmod u.regs Reg.PRG_RET_STAT (fun w => putBit w 3 true) }
    | none =>
      ((W.of { u with
        shadow := initShadow im
        banks := restoreBanks im u.slot (initShadow im) u.banks
        regs := rmod u.regs Reg.PRG_RET_STAT (fun w => putBit w 3 false) }).evt Pg.PRG 6).code Pg.PRG 0x1B41 []

/-- Leaving RUN: no task is released outside RUN, and cycles in progress end there (assumption 9). Log entry 9 (DEDUCED). -/
def Prg.leaveRun (u : Prg) : Prg :=
  let u := { u with regs := rmod u.regs Reg.PRG_IMG_STAT (fun w => putBit w 1 false) }
  Prg.scheduleAll (u.defs.foldl (fun u t =>
    let st := u.task t.idx
    match st.phase with
    | .stopped => u
    | .faulted => u
    | _ => u.putTask t.idx { st with phase := .idle, copying := false, again := false }) u)

end Sys2Proof.Machine
end

