-- ==== Sys2Proof/Machine/Images.lean ====
section
/-! DEFINITION. Program images (R234–R239): the header, the section, task, identity and relocation tables, the checks
of R239 in its order, and loading into a run slot. -/

namespace Sys2Proof.Machine

/-- An image as bytes of memory: where it begins. -/
structure ImageAt where
  mem  : Mem
  base : Nat

/-- The word at a byte offset of an image. -/
def ImageAt.word (x : ImageAt) (off : Nat) : Word := x.mem.readWord (x.base + off)

/-- Header word i (R234). -/
def ImageAt.head (x : ImageAt) (i : Nat) : Word := x.word (4 * i)

/-- LENGTH (R234). -/
def ImageAt.length (x : ImageAt) : Nat := (x.head 1).toNat

/-- A section table entry (R235): KIND, CORE, offset in the image, load offset, length. -/
structure Section_ where
  kind : Nat
  core : Nat
  off  : Nat
  load : Nat
  len  : Nat

/-- The sections of an image (R235). -/
def ImageAt.sections (x : ImageAt) : List Section_ :=
  (upto (bits (x.head 5) 5 0)).map (fun i =>
    let a := (x.head 6).toNat + 16 * i
    ⟨bits (x.word a) 7 0, bits (x.word a) 9 8, (x.word (a + 4)).toNat, (x.word (a + 8)).toNat, (x.word (a + 12)).toNat⟩)

/-- The map entries at a byte offset (R238). -/
def ImageAt.mapEntries (x : ImageAt) (off count : Nat) : List MapEntry :=
  (upto count).map (fun i =>
    let a := off + 16 * i
    ⟨bits (x.word a) 18 0, (x.word (a + 4)).toNat, (x.word (a + 8)).toNat, (x.word (a + 12)).toNat⟩)

/-- Task table entry number `pos` read as task idx (R238). -/
def ImageAt.task (x : ImageAt) (idx pos : Nat) : Task :=
  let a := (x.head 7).toNat + 32 * pos
  let w0 := x.word a
  let w1 := x.word (a + 4)
  let w2 := x.word (a + 8)
  { idx := idx, event := decide (16 ≤ idx), core := bits w0 2 1, prio := bits w0 7 3, tid := bits w0 31 16
    period := if idx < 16 then bits w1 11 0 else 0
    phase := if idx < 16 then bits w2 11 0 else 0
    ovrN := if idx < 16 then bits w2 31 16 else 0
    trig := if idx < 16 then 0 else w1
    inMap := x.mapEntries (x.word (a + 16)).toNat (min (x.word (a + 20)).toNat 16384)
    outMap := x.mapEntries (x.word (a + 24)).toNat (min (x.word (a + 28)).toNat 16384) }

/-- The tasks of an image: the cyclic tasks from 0 and the event tasks from 16, in table order (R234, R238). -/
def ImageAt.tasks (x : ImageAt) : List Task :=
  let c := bits (x.head 3) 12 8
  let e := bits (x.head 3) 21 16
  (upto c).map (fun i => x.task i i) ++ (upto e).map (fun i => x.task (16 + i) (c + i))

/-- The identity table (R237). -/
def ImageAt.idents (x : ImageAt) : List Ident :=
  (upto (min (x.head 9).toNat 524288)).map (fun i =>
    let a := (x.head 8).toNat + 16 * i
    let w := x.word (a + 4)
    ⟨x.word a, bits w 15 0, bits w 17 16, bit w 18, bit w 19, bits w 29 24, (x.word (a + 8)).toNat, (x.word (a + 12)).toNat⟩)

/-- The relocation table: byte offsets in the run slot (R236). -/
def ImageAt.relocs (x : ImageAt) : List Nat :=
  (upto (min (x.head 11).toNat 2097152)).map (fun i => bits (x.word ((x.head 10).toNat + 4 * i)) 21 0)

/-- The initial bytes of the DATA and RETAIN sections (R235). -/
def ImageAt.inits (x : ImageAt) : List InitBytes :=
  (x.sections.filter (fun t => decide (t.kind = 3 ∨ t.kind = 4))).map
    (fun t => ⟨t.core, t.load, x.mem.readBytes (x.base + t.off) t.len, decide (t.kind = 4)⟩)

/-! ## The checks of R239 -/

/-- MAGIC, LENGTH and layout (R234): the part of check 1 that is cheap to test, and tested first. -/
def ImageAt.headOk (x : ImageAt) : Bool :=
  let h3 := x.head 3
  x.head 0 == 0x5A7C5706#32 && decide (256 ≤ x.length) && decide (x.length ≤ 8388608) && x.length % 4 == 0
  && bits h3 7 0 == 1 && decide (bits h3 12 8 ≤ 16) && decide (bits h3 21 16 ≤ 32)
  && bits h3 15 13 == 0 && bits h3 31 22 == 0
  && decide (1 ≤ bits (x.head 5) 5 0) && decide (bits (x.head 5) 5 0 ≤ 32) && bits (x.head 5) 31 6 == 0

/-- The CRC of header word 12 over bytes 64 to LENGTH − 65 (R234), and that every block came sound. -/
def ImageAt.crcOk (x : ImageAt) : Bool :=
  !(x.mem.anyBad x.base ((x.length + 31) / 32))
  && crc32 (x.mem.readBytes (x.base + 64) (x.length - 128)) == x.head 12

/-- The Ed25519 signature over bytes 0 to LENGTH − 65 under one of the image keys (R234, R303, R422). -/
def ImageAt.signed (x : ImageAt) (keys : List (List Byte)) : Bool :=
  keys.any (fun k => Config.ed25519 k (x.mem.readBytes x.base (x.length - 64))
    (x.mem.readBytes (x.base + (x.length - 64)) 64))

/-- Whether two ranges are apart. -/
def apart (a n b m : Nat) : Bool := decide (a + n ≤ b) || decide (b + m ≤ a)

/-- Whether p holds between each element of a list and every later one. -/
def pairwiseB {α : Type} (p : α → α → Bool) : List α → Bool
  | [] => true
  | x :: xs => xs.all (p x) && pairwiseB p xs

/-- The memory a section is loaded into: the run slot, or a core's data bank. -/
def Section_.space (t : Section_) : Nat := if t.kind ≤ 2 then 3 else t.core

/-- Check 3: every section fits its slot or bank without overlap. -/
def ImageAt.sectionsFit (x : ImageAt) : Bool :=
  let ss := x.sections
  ss.all (fun t => decide (1 ≤ t.kind) && decide (t.kind ≤ 4) && (decide (t.kind ≤ 2) || decide (t.core ≤ 2))
    && decide (t.off + t.len ≤ x.length - 64)
    && decide (t.load + t.len ≤ (if t.kind ≤ 2 then 0x400000 else 0x80000)))
  && pairwiseB (fun a b => a.space != b.space || apart a.load a.len b.load b.len) ss

/-- Check 4: RETAIN sections total at most 64 KiB. -/
def ImageAt.retainFits (x : ImageAt) : Bool :=
  decide (((x.sections.filter (fun t => t.kind == 4)).map (·.len)).foldl (· + ·) 0 ≤ 65536)

/-- Whether a trigger word names a unit that exists (R238). -/
def triggerUnitOk (w : Word) : Bool :=
  let t := bits w 7 0
  let u := bits w 15 8
  let sel := bits w 31 16
  (t == 1 && decide (u < 64)) || (t == 2 && decide (u < 4) && decide (sel < 128)) || (t == 3 && decide (u < 12))
  || (t == 4 && u == 0 && (decide (sel < 16) || sel == 0xFFFF)) || (t == 5 && u == 0)

/-- Check 6: every trigger word names a unit that exists, and every firkin trigger a firkin whose consumer is the core
of the task (R29: cores are 0x02–0x04). -/
def triggersOk (fq : RMap) (ts : List Task) : Bool :=
  (ts.filter (·.event)).all (fun t => triggerUnitOk t.trig
    && (bits t.trig 7 0 != 1 || rfld fq (rk Reg.FQ_CFG 0 (bits t.trig 15 8)) 23 16 == 2 + t.core))

/-- The pairs a task writes, without repeats. -/
def Task.pairs (t : Task) : List Nat := (t.outMap.map (·.blk)).eraseDups

/-- Check 7: no exchange pair appears in the output maps of two tasks. -/
def outputsApart (ts : List Task) : Bool :=
  pairwiseB (fun (a b : Task) => a.pairs.all (fun p => !b.pairs.contains p)) ts

/-- The number of the first check of R239 that an image fails; 0 when it holds all. Log entry 50 (DEDUCED). -/
def ImageAt.firstFailure (x : ImageAt) (keys : List (List Byte)) (lenUs : Nat) (fq : RMap) : Nat :=
  if !x.headOk then 1
  else if !x.signed keys || !x.crcOk then 1
  else if (x.head 4).toNat ≠ lenUs then 2
  else if !x.sectionsFit then 3
  else if !x.retainFits then 4
  else if !pairwiseB (fun (a b : Task) => a.tid != b.tid) x.tasks then 5
  else if !(triggersOk fq x.tasks && x.tasks.all (fun t => decide (t.core ≤ 2))) then 6
  else if !outputsApart x.tasks then 7
  else if !pairwiseB (fun (a b : Ident) => a.ident != b.ident) x.idents then 8
  else 0

/-- The reason of R257 for an image that fails a check: a header that cannot be read comes before the signature. -/
def ImageAt.reason (x : ImageAt) (keys : List (List Byte)) (check : Nat) : Nat :=
  if check = 1 then (if x.headOk && !x.signed keys then 2 else 3)
  else if check = 2 then 4
  else if check = 3 then 3
  else 5

/-- The image as SUP has checked it. -/
def ImageAt.image (x : ImageAt) : Image :=
  { imageId := x.head 2, crc := x.head 12, lenUs := (x.head 4).toNat, tasks := x.tasks, idents := x.idents, inits := x.inits }

/-! ## Loading -/

/-- The base of a run slot (R233). -/
def runSlotBase (slot : Bool) : Nat := if slot then 0x10400000 else 0x10000000

/-- The CODE and CONST sections as stores into a run slot (R239). -/
def ImageAt.codeStores (x : ImageAt) (slot : Bool) : List Store :=
  (x.sections.filter (fun t => decide (t.kind ≤ 2))).map
    (fun t => ⟨Pg.SUP, runSlotBase slot + t.load, x.mem.readBytes (x.base + t.off) t.len, false⟩)

/-- One relocation applied to memory (R236). -/
def relocate (slot : Bool) (m : Mem) (off : Nat) : Mem :=
  let a := runSlotBase slot + off
  m.store ⟨Pg.SUP, a, wordBytes (m.readWord a + wd (runSlotBase slot)), false⟩

/-- Memory after SUP has copied an image's sections into a run slot and relocated them (R236, R239). -/
def ImageAt.loadInto (x : ImageAt) (slot : Bool) (m : Mem) : Mem :=
  x.relocs.foldl (relocate slot) (m.stores (x.codeStores slot))

/-- The cells of PRG_T_CFG, PRG_T_ARG and PRG_T_STAT of a task of a running image (R258). -/
def taskCells (m : RMap) (t : Task) : RMap :=
  rsets m [(rk Reg.PRG_T_CFG 0 t.idx, wd (1 + 2 * b2n t.event + 4 * t.core + 16 * t.prio + 0x10000 * t.period)),
    (rk Reg.PRG_T_ARG 0 t.idx, if t.event then t.trig else wd (t.phase + 0x10000 * t.ovrN)),
    (rk Reg.PRG_T_STAT 0 t.idx, 1#32)]

/-- The registers that name the running image and its tasks, for all 48 tasks and three cores (R258). -/
def imageCells (m : RMap) (im : Image) (slot running : Bool) : RMap :=
  let m := (upto 48).foldl (fun m i =>
    rsets m [(rk Reg.PRG_T_CFG 0 i, 0), (rk Reg.PRG_T_ARG 0 i, 0), (rk Reg.PRG_T_STAT 0 i, 0)]) m
  let m := im.tasks.foldl taskCells m
  let m := (upto 3).foldl (fun m c =>
    rmod m (rk Reg.PRG_STAT c 0) (fun w =>
      putBits (putBits (putBit w 1 false) 15 8 0xFF) 20 16 ((im.tasks.filter (fun t => t.core == c)).length))) m
  rsets m [(Reg.PRG_IMG_STAT, wd (b2n slot + 2 * b2n running)), (Reg.PRG_IMG_ID, im.imageId), (Reg.PRG_IMG_CRC, im.crc)]

/-- An image made the running one in run slot 0 at boot (R239). Log entry 50 (DEDUCED). -/
def Prg.bootImage (u : Prg) (im : Image) : Prg :=
  { u with
    image := some im, slot := false, tasks := []
    banks := loadInits im false true u.banks
    shadow := initShadow im
    regs := imageCells u.regs im false false }

/-- The checks of R239 that the settings can break after the load, at the exit from CONFIG: LEN_US and the firkin
consumers. 0 when none is broken or no image is loaded. Log entry 50 (DEDUCED). -/
def Prg.exitCheck (u : Prg) (lenUs : Nat) (fq : RMap) : Nat :=
  match u.image with
  | none => 0
  | some im => if im.lenUs ≠ lenUs then 2 else if !triggersOk fq im.tasks then 6 else 0

end Sys2Proof.Machine
end

