-- ==== Sys2Proof/Machine/Change.lean ====
section
/-! DEFINITION. Online change (R254–R257), the force table's commits (R251–R253) and the commands of PRG_T_CTRL
(R258). -/

namespace Sys2Proof.Machine

/-! ## Forcing (R252, R253) -/

/-- A write of PRG_FRC_WORD for entry i commits the entry composed in its cells (R252, R253). Log entry 51 (DEDUCED). -/
def Prg.forceCommit (i : Nat) (v : Word) (u : Prg) : W Prg :=
  let was := (sget forceDefault u.forces i).en
  let f : Force := {
    pair := rfld u.regs (rk Reg.PRG_FRC_PAIR 0 i) 18 0, word := bits v 15 0, output := bit v 16
    mask := rget u.regs (rk Reg.PRG_FRC_MASK 0 i), val := rget u.regs (rk Reg.PRG_FRC_VAL 0 i)
    en := bit v 31, active := false }
  let u1 : Prg := { u with
    forces := sset forceDefault u.forces i f
    regs := rset u.regs (rk Reg.PRG_FRC_WORD 0 i) (v &&& 0x8001FFFF#32) }
  let u2 : Prg := { u1 with regs := rset u1.regs Reg.PRG_FRC_CNT (wd u1.forceCount) }
  let w := (W.of u2).evt Pg.PRG 5
  if f.en then w.code Pg.PRG 0x1B20 [wd i] else w.when was (·.code Pg.PRG 0x0B21 [wd i])

/-! ## PRG_T_CTRL (R258) -/

/-- STOP: the task is stopped at the end of its cycle, at once when it has none in progress. Log entry 51 (DEDUCED). -/
def Prg.stopTask (i : Nat) (u : Prg) : Prg :=
  match u.defn i with
  | none => u
  | some _ =>
    let st := u.task i
    match st.phase with
    | .idle => u.putTask i { st with phase := .stopped, startReq := false }
    | .stopped => u.putTask i { st with startReq := false }
    | .faulted => u
    | .ready => u.putTask i { st with stopReq := true }
    | .running => u.putTask i { st with stopReq := true }

/-- START: a stopped task starts at its next release. Log entry 51 (DEDUCED). -/
def Prg.startTask (i : Nat) (u : Prg) : Prg :=
  match u.defn i with
  | none => u
  | some _ =>
    let st := u.task i
    match st.phase with
    | .stopped => u.putTask i { st with startReq := true }
    | .idle => u
    | .faulted => u
    | .ready => u.putTask i { st with stopReq := false }
    | .running => u.putTask i { st with stopReq := false }

/-- CLR: the minima, maxima and counts of a task return to their reset values. -/
def Prg.clearStats (i : Nat) (u : Prg) : Prg :=
  { u with regs := rsets u.regs [(rk Reg.PRG_T_IDLE_MIN 0 i, 0xFFFFFFFF#32), (rk Reg.PRG_T_EXEC_MAX 0 i, 0),
      (rk Reg.PRG_T_CNT 0 i, 0), (rk Reg.PRG_T_TRIG 0 i, 0)] }

/-! ## Online change -/

/-- STATE of PRG_CHG_STAT. -/
def Prg.chgState (u : Prg) : Nat := rfld u.regs Reg.PRG_CHG_STAT 2 0

/-- STATE set, and nothing else of PRG_CHG_STAT. -/
def Prg.putState (u : Prg) (st : Nat) : Prg :=
  { u with regs := rmod u.regs Reg.PRG_CHG_STAT (fun w => putBits w 2 0 st) }

/-- A change refused with a reason (R257). -/
def Prg.refuse (reason : Nat) (u : Prg) : W Prg :=
  let u := { u with
    other := none
    regs := rmod u.regs Reg.PRG_CHG_STAT (fun w => putBits (putBits w 2 0 5) 7 4 reason) }
  ((W.of u).evt Pg.PRG 4).code Pg.PRG 0x1B02 [wd reason]

/-- A write into the run slot that is not running sets STATE to EMPTY (R254). -/
def Prg.slotWritten (addr : Nat) (u : Prg) : Prg :=
  if decide (0x10000000 ≤ addr) && decide (addr < 0x10800000) && (decide (0x10400000 ≤ addr) != u.slot) then
    { (u.putState 0) with other := none }
  else u

/-- CHECK (R254): STATE reads CHECKING, and the report of the last one is gone. Log entry 50 (DEDUCED). -/
def Prg.check (feat11 inRun : Bool) (u : Prg) : W Prg :=
  if !feat11 then u.refuse 1
  else if !inRun then u.refuse 8
  else W.of { u with
    other := none, report := []
    regs := rset u.regs Reg.PRG_CHG_STAT 1#32 }

/-- What mapping finds of an object of the new image (R256): 0 carried, or the kind of the report. -/
def mapKind (old : List Ident) (o : Ident) : Nat :=
  match old.find? (fun p => p.ident == o.ident) with
  | none => 1
  | some p => if p.type = o.type ∧ p.size = o.size then 0 else if o.reinit then 3 else 4

/-- The change report (R256): the entries of the new identity table that are not carried, the objects deleted, the event
tasks deleted. Log entry 52 (DEDUCED). -/
def changeReport (old new : Image) : List (Nat × Word) :=
  ((new.idents.map (fun o => (mapKind old.idents o, o.ident))).filter (fun e => e.1 != 0))
  ++ ((old.idents.filter (fun o => !new.idents.any (fun n => n.ident == o.ident))).map (fun o => (2, o.ident)))
  ++ ((old.tasks.filter (fun t => t.event && !new.tasks.any (fun n => n.tid == t.tid))).map (fun t => (5, wd t.tid)))

/-- The number of report entries of a kind. -/
def reportCount (r : List (Nat × Word)) (k : Nat) : Nat := (r.filter (fun e => e.1 == k)).length

/-- The cells of PRG_CHG_CNT_A and PRG_CHG_CNT_B for a report (R256, R258). -/
def reportCells (old new : Image) (m : RMap) : RMap :=
  let r := changeReport old new
  let carried := (new.idents.filter (fun o => mapKind old.idents o == 0)).length
  rsets m [(Reg.PRG_CHG_CNT_A, wd (carried % 65536 + 0x10000 * reportCount r 1)),
    (Reg.PRG_CHG_CNT_B, wd (reportCount r 2 % 65536 + 0x10000 * reportCount r 3))]

/-- An image of no task and no object, against which a check without a running image maps. -/
def Image.empty : Image := ⟨0, 0, 0, [], [], []⟩

/-- The end of CHECK (R254, R256): the image in the other run slot is checked under R239, loaded and mapped. -/
def Prg.checkDone (x : ImageAt) (keys : List (List Byte)) (lenUs : Nat) (fq : RMap) (u : Prg) : W Prg :=
  if u.chgState ≠ 1 then W.of u
  else
    let n := x.firstFailure keys lenUs fq
    if n ≠ 0 then u.refuse (x.reason keys n)
    else
      let new := x.image
      let old := u.image.getD Image.empty
      let u := { u with report := changeReport old new, regs := reportCells old new u.regs }
      if reportCount (changeReport old new) 4 ≠ 0 then u.refuse 6
      else W.of { (u.putState 2) with other := some new }

/-- CHANGE (R254, R257). Log entry 52 (DEDUCED). -/
def Prg.change (feat11 inRun : Bool) (u : Prg) : W Prg :=
  if !feat11 then u.refuse 1
  else if !inRun || decide (u.chgState ≠ 2) then u.refuse 8
  else W.of { (u.putState 3) with regs := rmod (u.putState 3).regs Reg.PRG_CHG_STAT (fun w => putBits w 31 16 0) }

/-- ABORT in CHECKING or WAITING (R254). -/
def Prg.abort (u : Prg) : W Prg := if u.chgState = 1 ∨ u.chgState = 3 then u.refuse 9 else W.of u

/-- A change in WAITING is sought at this fathom start: from PRG_CHG_AT onward (R254), compared in the low 32 bits. -/
def Prg.seeking (count : Nat) (u : Prg) : Bool :=
  decide (u.chgState = 3) &&
  (rget u.regs Reg.PRG_CHG_AT == 0 ||
    decide ((count + 4294967296 - (rget u.regs Reg.PRG_CHG_AT).toNat) % 4294967296 < 2147483648))

/-- Whether this fathom start is the change point (R255). Log entry 31 (DEDUCED). -/
def Prg.atChangePoint (count : Nat) (u : Prg) : Bool := u.seeking count && !u.busy

/-- A fathom start passed over counts in WAITED (R255, R258). -/
def Prg.passOver (count : Nat) (u : Prg) : Prg :=
  if u.seeking count && u.busy then
    { u with regs := rmod u.regs Reg.PRG_CHG_STAT (fun w => incSatField w 31 16) }
  else u

/-- PRG_CHG_WAIT fathom starts have passed without a change point (R255): reason 0x7. -/
def Prg.waitExpired (u : Prg) : Bool :=
  decide (u.chgState = 3) && decide (rfld u.regs Reg.PRG_CHG_WAIT 15 0 ≤ rfld u.regs Reg.PRG_CHG_STAT 31 16)

/-- CHANGE_WAIT_EXPIRY (R255, R257). -/
def Prg.expire (u : Prg) : W Prg := if u.waitExpired then u.refuse 7 else W.of u

/-- One object carried over into the new bank, and a retained one into the shadow too (R256). -/
def carryOne (old : List Ident) (slot : Bool) (b : List Host.Cell × List Host.Cell) (o : Ident) :
    List Host.Cell × List Host.Cell :=
  match old.find? (fun p => p.ident == o.ident) with
  | none => b
  | some p =>
    if p.type = o.type ∧ p.size = o.size then
      let bytes := (upto o.size).map (fun j => sget memDefault b.1 (bankBase p.core slot + p.off + j))
      (ssetRun memDefault b.1 (bankBase o.core (!slot) + o.off) bytes,
        if o.retain then ssetRun memDefault b.2 (0x100000 * o.core + o.off) bytes else b.2)
    else b

/-- The change made at a change point (R255–R257): the new image's banks and shadow, its input copies, the exchange and
the releases, and the retained save that follows at once. Log entry 52 (DEDUCED). -/
def Prg.changePoint (s : State) (u : Prg) : W Prg :=
  match u.other with
  | none => W.of u
  | some new =>
    if s.tick = 0 ∧ u.atChangePoint s.seq.count then
      let fresh := loadInits new (!u.slot) true u.banks
      let carried := new.idents.foldl (carryOne u.idents u.slot) (fresh, initShadow new)
      let regs := imageCells u.regs new (!u.slot) true
      let regs := rset (rmod regs Reg.PRG_CHG_STAT (fun w => putBits (putBits w 2 0 4) 7 4 0)) Reg.PRG_CHG_FNO s.fno
      let v : Prg := { u with
        image := some new, slot := !u.slot, other := none, tasks := [], banks := carried.1, shadow := carried.2
        regs := regs }
      let due := new.tasks.filter (fun t => !t.event && hdrEnabled s.hdr (Pg.PRG + t.core) && decide (s.seq.count % t.period = t.phase))
      let w := due.foldl (Prg.releaseCyclic s) (W.of v)
      ((w.map (fun u => Prg.scheduleAll u.requestSave)).evt Pg.PRG 4).code Pg.PRG 0x0B03 []
    else W.of u

/-- Leaving RUN: tasks end, and a change being checked or waiting is refused, since it runs in RUN only (R254, R257).
Log entry 52 (DEDUCED). -/
def Prg.exitRun (u : Prg) : W Prg :=
  if u.chgState = 1 ∨ u.chgState = 3 then u.leaveRun.refuse 8 else W.of u.leaveRun

/-- The report entry of PRG_REP_IDX: its ID or TID, and its kind (R258). -/
def Prg.reportEntry (u : Prg) (i : Nat) : Nat × Word := u.report.getD i (0, 0)

/-! ## The budget (R244) -/

/-- A core's rate cut to RES, or restored (R244): `cut` is the state from now on. -/
def Prg.rateCut (core : Nat) (cut : Bool) (u : Prg) : W Prg :=
  if rbit u.regs (rk Reg.PRG_STAT core 0) 0 = cut then W.of u
  else
    ((W.of { u with regs := rmod u.regs (rk Reg.PRG_STAT core 0) (fun w => putBit w 0 cut) }).evt (Pg.PRG + core) 3).code
      (Pg.PRG + core) (if cut then 0x1B30 else 0x0B31) []

end Sys2Proof.Machine
end

