-- ==== Sys2Proof/Machine/Filter.lean ====
section
/-! DEFINITION. FLT: intake, histories, the polyphase interpolator and the RESAMPLE span (R63–R82). -/

namespace Sys2Proof.Machine

/-- The taps of set 0 (R69), phase by phase: the Kaiser-windowed sinc of R69 scaled by 16,384, rounded, the residual
given to the tap of largest magnitude. -/
def kaiserA : List (List Int) :=
  [[0, 0, 0, 0, 0, 0, 0, 16384, 0, 0, 0, 0, 0, 0, 0, 0],
   [-6, 15, -33, 63, -115, 213, -475, 16358, 508, -222, 120, -66, 35, -16, 6, -1],
   [-11, 30, -64, 124, -225, 415, -915, 16277, 1048, -451, 243, -134, 70, -33, 13, -3],
   [-16, 43, -94, 181, -329, 605, -1319, 16145, 1617, -685, 368, -203, 107, -50, 19, -5],
   [-20, 55, -121, 234, -426, 782, -1686, 15961, 2212, -923, 494, -273, 144, -68, 26, -7],
   [-24, 66, -145, 283, -515, 944, -2016, 15722, 2833, -1162, 620, -342, 181, -86, 34, -9],
   [-27, 76, -168, 327, -596, 1090, -2306, 15437, 3474, -1400, 744, -411, 218, -104, 41, -11],
   [-29, 84, -187, 366, -668, 1221, -2558, 15100, 4134, -1634, 865, -478, 254, -122, 49, -13],
   [-31, 91, -204, 400, -731, 1334, -2772, 14719, 4809, -1862, 983, -543, 289, -139, 56, -15],
   [-33, 97, -218, 428, -785, 1430, -2947, 14294, 5497, -2082, 1095, -605, 323, -156, 63, -17],
   [-34, 101, -229, 452, -829, 1508, -3084, 13829, 6192, -2291, 1200, -663, 354, -172, 70, -20],
   [-35, 104, -237, 470, -863, 1569, -3184, 13323, 6892, -2487, 1297, -717, 384, -187, 77, -22],
   [-35, 106, -243, 483, -888, 1612, -3249, 12783, 7594, -2666, 1384, -765, 410, -201, 83, -24],
   [-35, 107, -246, 490, -903, 1638, -3279, 12211, 8292, -2828, 1461, -808, 434, -213, 89, -26],
   [-34, 106, -246, 492, -908, 1647, -3276, 11608, 8984, -2968, 1526, -843, 454, -224, 94, -28],
   [-33, 104, -244, 489, -905, 1639, -3241, 10984, 9665, -3085, 1578, -872, 470, -233, 98, -30]]

/-- Phases 16–31 of set 0. -/
def kaiserB : List (List Int) :=
  [[-32, 102, -239, 482, -892, 1616, -3177, 10332, 10332, -3177, 1616, -892, 482, -239, 102, -32],
   [-30, 98, -233, 470, -872, 1578, -3085, 9665, 10984, -3241, 1639, -905, 489, -244, 104, -33],
   [-28, 94, -224, 454, -843, 1526, -2968, 8984, 11608, -3276, 1647, -908, 492, -246, 106, -34],
   [-26, 89, -213, 434, -808, 1461, -2828, 8292, 12211, -3279, 1638, -903, 490, -246, 107, -35],
   [-24, 83, -201, 410, -765, 1384, -2666, 7594, 12783, -3249, 1612, -888, 483, -243, 106, -35],
   [-22, 77, -187, 384, -717, 1297, -2487, 6892, 13323, -3184, 1569, -863, 470, -237, 104, -35],
   [-20, 70, -172, 354, -663, 1200, -2291, 6192, 13829, -3084, 1508, -829, 452, -229, 101, -34],
   [-17, 63, -156, 323, -605, 1095, -2082, 5497, 14294, -2947, 1430, -785, 428, -218, 97, -33],
   [-15, 56, -139, 289, -543, 983, -1862, 4809, 14719, -2772, 1334, -731, 400, -204, 91, -31],
   [-13, 49, -122, 254, -478, 865, -1634, 4134, 15100, -2558, 1221, -668, 366, -187, 84, -29],
   [-11, 41, -104, 218, -411, 744, -1400, 3474, 15437, -2306, 1090, -596, 327, -168, 76, -27],
   [-9, 34, -86, 181, -342, 620, -1162, 2833, 15722, -2016, 944, -515, 283, -145, 66, -24],
   [-7, 26, -68, 144, -273, 494, -923, 2212, 15961, -1686, 782, -426, 234, -121, 55, -20],
   [-5, 19, -50, 107, -203, 368, -685, 1617, 16145, -1319, 605, -329, 181, -94, 43, -16],
   [-3, 13, -33, 70, -134, 243, -451, 1048, 16277, -915, 415, -225, 124, -64, 30, -11],
   [-1, 6, -16, 35, -66, 120, -222, 508, 16358, -475, 213, -115, 63, -33, 15, -6]]

/-- Tap i of phase p of set 0 (R69). Log entry 36 (DEDUCED). -/
def kaiserTap (p i : Nat) : Int := ((kaiserA ++ kaiserB).getD p []).getD i 0

/-- A rational n/d rounded to nearest, halves away from zero, d positive (R69). -/
def roundAway (n d : Int) : Int :=
  if 0 ≤ n then Int.fdiv (2 * n + d) (2 * d) else -(Int.fdiv (2 * (-n) + d) (2 * d))

/-- The four taps 12–15 of set 1 before the residual (R69): the Lagrange cubic at μ = p/32, scaled by 16,384. -/
def lagrangeRaw (p : Nat) : List Int :=
  let m : Int := p
  [ roundAway (-(m * (m - 32) * (m - 64)) * 16384) 196608,
    roundAway ((m + 32) * (m - 32) * (m - 64) * 16384) 65536,
    roundAway (-((m + 32) * m * (m - 64)) * 16384) 65536,
    roundAway ((m + 32) * m * (m - 32) * 16384) 196608 ]

/-- The index of the tap of largest magnitude, the lower on a tie. -/
def largestTap (l : List Int) : Nat :=
  (upto l.length).foldl (fun b i => if (l.getD b 0).natAbs < (l.getD i 0).natAbs then i else b) 0

/-- Tap i of phase p of set 1 (R69). Log entry 36 (DEDUCED). -/
def lagrangeTap (p i : Nat) : Int :=
  let l := lagrangeRaw p
  let res := 16384 - l.foldl (· + ·) 0
  let b := largestTap l
  if i < 12 then 0 else l.getD (i - 12) 0 + (if i - 12 = b then res else 0)

/-- What an unwritten tap of sets 2 and 3 reads as: set 0 (R69). -/
def tapDefault (k : Nat) : Int := kaiserTap (k % 512 / 16) (k % 16)

/-- Tap i of phase p of a coefficient set (R69). Log entry 36 (DEDUCED). -/
def Flt.tap (u : Flt) (set p i : Nat) : Int :=
  if set = 0 then kaiserTap p i
  else if set = 1 then lagrangeTap p i
  else sget tapDefault u.taps (512 * set + 16 * p + i)

/-- The lead of a set (R69, FLT_COEF_LEAD). -/
def Flt.lead (u : Flt) (set : Nat) : Nat :=
  if set = 0 then 8 else if set = 1 then 2
  else if set = 2 then rfld u.regs Reg.FLT_COEF_LEAD 3 0 else rfld u.regs Reg.FLT_COEF_LEAD 7 4

/-- FIRST of a set: the lowest tap index that is non-zero in any phase, 15 when there is none (R69). -/
def Flt.first (u : Flt) (set : Nat) : Nat :=
  if set = 0 then 0 else if set = 1 then 12
  else ((upto 16).find? (fun i => (upto 32).any (fun p => u.tap set p i != 0))).getD 15

/-- What a stream nothing has touched is. -/
def streamDefault (_ : Nat) : Stream := Stream.fresh 16

/-- Stream k. -/
def Flt.stream (u : Flt) (k : Nat) : Stream := sget streamDefault u.streams k

/-- The enabled streams (R63), in index order: FLT_S_SRC resets to 0, so only written cells can be enabled. -/
def Flt.enabled (u : Flt) : List Nat :=
  (u.regs.filter (fun e => e.1 % 0x20000 == Reg.FLT_S_SRC && bit e.2 0)).map (fun e => e.1 / 0x20000)

/-- FLT_SLOTS: one more than the highest enabled stream index (R77). -/
def Flt.slots (u : Flt) : Nat := u.enabled.foldl (fun a k => max a (k + 1)) 0

/-- The stream's bit in FLT_ALT0–7. -/
def Flt.altBit (u : Flt) (k : Nat) : Bool := rbit u.regs (Reg.FLT_ALT0 + 4 * (k / 32)) (k % 32)

/-- The source word in force for a stream: FLT_S_SRC, or FLT_S_ALT when the alternate is selected (R66, R75). -/
def Flt.source (u : Flt) (k : Nat) : Word :=
  if (u.stream k).alt then rget u.regs (rk Reg.FLT_S_ALT 0 k) else rget u.regs (rk Reg.FLT_S_SRC 0 k)

/-- SETTLE of a stream. -/
def Flt.settleOf (u : Flt) (k : Nat) : Nat := rfld u.regs (rk Reg.FLT_S_FAST 0 k) 7 0

/-- FLT_S_STAT of a stream's present state. -/
def Stream.stat (st : Stream) : Word :=
  wd (min st.hist.length 32 + 0x100 * (st.settle % 256) + 0x10000 * (min st.drops 0xFFFF))

/-- Stream k set, with FLT_S_STAT. -/
def Flt.putStream (u : Flt) (k : Nat) (st : Stream) : Flt :=
  { u with streams := sset streamDefault u.streams k st, regs := rset u.regs (rk Reg.FLT_S_STAT 0 k) st.stat }

/-- A counter register of FLT, one more. -/
def Flt.count (u : Flt) (r : Nat) : Flt := { u with regs := rmod u.regs r incW }

/-- A sample put among the waiting ones in order of effective instant; of more than 32 the oldest leaves (R65). -/
def insertWaiting (l : List Waiting) (x : Waiting) : List Waiting :=
  let l2 := l.filter (fun y => decide (y.tau ≤ x.tau)) ++ [x] ++ l.filter (fun y => decide (x.tau < y.tau))
  l2.drop (l2.length - 32)

/-- A sample arriving for stream k (R65, R66): the intake rate first, then lateness, then the intake. -/
def Flt.arriveAt (now : Int) (x : Sample) (w : W Flt) (k : Nat) : W Flt :=
  let sec := Int.fdiv now 1000000000
  let w := w.map (fun u => if sec = u.second then u else { u with second := sec, inRate := 0 })
  let u := w.u
  if 1000000 ≤ u.inRate then
    (w.map (·.count Reg.FLT_CNT_DROP)).evt Pg.FLT 2 |>.code Pg.FLT 0x1311 [wd k]
  else
    let st := u.stream k
    let due := x.stamp + 1000 * (rfld u.regs (rk Reg.FLT_S_DLV 0 k) 19 0 : Int)
    let tau := x.stamp - 1000 * (rfld u.regs (rk Reg.FLT_S_LAT 0 k) 19 0 : Int)
    let late := match st.lastTake with | some t => decide (due ≤ t) | none => false
    let w := w.map (fun u => { u with inRate := u.inRate + 1 })
    if late then
      (w.map (fun u => (u.putStream k { st with drops := satInc 16 st.drops }).count Reg.FLT_CNT_LATE)).evt Pg.FLT 2
        |>.code Pg.FLT 0x1316 [wd k]
    else w.map (fun u => u.putStream k { st with wait := insertWaiting st.wait ⟨due, tau, x.value⟩ })

/-- The streams that take a sample: enabled, with this source selected (R66). -/
def Flt.takers (u : Flt) (x : Sample) : List Nat :=
  u.enabled.filter (fun k => bits (u.source k) 15 8 == x.unit && bits (u.source k) 31 16 == x.sel)

/-- A sample arriving at FLT (R64–R66). -/
def Flt.arrive (now : Int) (x : Sample) (w : W Flt) : W Flt :=
  (w.u.takers x).foldl (Flt.arriveAt now x) w

/-- What a take-in has done to a stream: the stream, the record flags STEP and GAP, samples taken in, samples dropped
out of order, restarts. -/
structure TakeIn where
  st       : Stream
  step     : Bool
  gap      : Bool
  taken    : Nat
  dropped  : Nat
  restarts : Nat
  deriving DecidableEq, Repr

/-- Whether a new sample is a step against the history (R73): the extrapolation compared exactly. -/
def isStep (hist : List (Int × Int)) (limit : Nat) (tau x : Int) : Bool :=
  decide (limit ≠ 0) &&
  (match hist with
   | [] => false
   | [(_, a)] => decide ((limit : Int) < ((x - a).natAbs : Int))
   | (t1, a) :: (t2, b) :: _ =>
     decide ((limit : Int) * (t1 - t2) < ((((x - a) * (t1 - t2) - (a - b) * (tau - t1)).natAbs : Nat) : Int)))

/-- Whether the interval to a new sample is a gap (R73): outside 0.75–1.25 × FLT_S_PERIOD. -/
def isGap (hist : List (Int × Int)) (periodUs : Nat) (tau : Int) : Bool :=
  match hist with
  | [] => false
  | (t1, _) :: _ =>
    decide (4 * (tau - t1) < 3000 * (periodUs : Int)) || decide (5000 * (periodUs : Int) < 4 * (tau - t1))

/-- One sample entering a history (R66, R73). -/
def enterSample (settle stepLim periodUs : Nat) (r : TakeIn) (x : Waiting) : TakeIn :=
  let old := match r.st.hist with | [] => false | (t1, _) :: _ => decide (x.tau ≤ t1)
  if old then { r with st := { r.st with drops := satInc 16 r.st.drops }, dropped := r.dropped + 1 }
  else
    let stp := isStep r.st.hist stepLim x.tau x.x
    let gap := isGap r.st.hist periodUs x.tau
    if stp || gap then
      { r with st := { r.st with hist := [(x.tau, x.x)], settle := settle - 1 },
               step := r.step || stp, gap := r.gap || gap, taken := r.taken + 1, restarts := r.restarts + 1 }
    else
      { r with st := { r.st with hist := ((x.tau, x.x) :: r.st.hist).take 32, settle := r.st.settle - 1 },
               taken := r.taken + 1 }

/-- How a slot obtained its value (R74). -/
inductive Path where
  | poisoned | stale | fine (phase : Nat) | held | extrap
  deriving DecidableEq, Repr

/-- The fine path at position j of the history (newest first), phase p (R69, R70): the saturated sum, when every
sample of the support is present. -/
def fineAt (u : Flt) (hist : List (Int × Int)) (set j p : Nat) : Option (Int × Bool) :=
  let lead := u.lead set
  let first := u.first set
  if lead ≤ j ∧ j + 15 < hist.length + first + lead then
    let x := fun i => (hist.getD (j + 15 - lead - i) (0, 0)).2
    let sum := ((upto 16).drop first).foldl (fun a i => a + u.tap set p i * x i) 0
    let v := Int.fdiv (sum + 8192) 16384
    some (sat32 v, decide (sat32 v ≠ v))
  else none

/-- The fine path of a slot, if its samples are present (R70, R74). -/
def finePath (u : Flt) (hist : List (Int × Int)) (set : Nat) (rep : Int) : Option (Nat × Int × Bool) :=
  match (upto hist.length).find? (fun j => decide ((hist.getD j (0, 0)).1 ≤ rep)) with
  | none => none
  | some 0 => none
  | some (j + 1) =>
    let tm := (hist.getD (j + 1) (0, 0)).1
    let tn := (hist.getD j (0, 0)).1
    let p := (Int.fdiv (64 * (rep - tm) + (tn - tm)) (2 * (tn - tm))).toNat
    if p < 32 then (fineAt u hist set (j + 1) p).map (fun v => (p, v.1, v.2))
    else (fineAt u hist set j 0).map (fun v => (0, v.1, v.2))

/-- First-order extrapolation from the two newest samples (R74). Log entry 35 (DEDUCED). -/
def extrapolate (tl xl tq xq rep : Int) (limitNs : Int) : Int × Bool :=
  let dt := min (rep - tl) limitNs
  let v := xl + Int.fdiv (2 * ((xl - xq) * dt) + (tl - tq)) (2 * (tl - tq))
  (sat32 v, decide (sat32 v ≠ v))

/-- The value of a slot and how it was obtained (R74). -/
def slotValue (u : Flt) (k : Nat) (st : Stream) (poison : Bool) (rep : Int) : Path × Int × Bool :=
  let prev := sw st.record.1
  let xlim := rfld u.regs (rk Reg.FLT_S_FAST 0 k) 11 8
  let period := rfld u.regs (rk Reg.FLT_S_PERIOD 0 k) 23 0
  let staleUs := rfld u.regs (rk Reg.FLT_S_STALE 0 k) 23 0
  if poison then (.poisoned, prev, false)
  else match st.hist with
    | [] => (.stale, prev, false)
    | (tl, xl) :: rest =>
      if 1000 * (staleUs : Int) < rep - tl then (.stale, prev, false)
      else
        match (if st.settle = 0 then finePath u st.hist (rfld u.regs (rk Reg.FLT_S_SRC 0 k) 2 1) rep else none) with
        | some (p, v, s) => (.fine p, v, s)
        | none =>
          match rest with
          | [] => (.held, xl, false)
          | (tq, xq) :: _ =>
            if rep < tl ∨ xlim = 0 then (.held, xl, false)
            else
              let e := extrapolate tl xl tq xq rep (1000 * ((xlim * period : Nat) : Int))
              (.extrap, e.1, e.2)

/-- The STATUS word of a record (R80). -/
def statusWord (path : Path) (sat switched step gap : Bool) (settle taken : Nat) : Word :=
  let fine := match path with | .fine _ => true | _ => false
  let ph := match path with | .fine p => p | _ => 0
  let ext := decide (path = .extrap)
  let held := decide (path = .held) || decide (path = .stale) || decide (path = .poisoned)
  wd (b2n fine + 2 * b2n ext + 4 * b2n held + 8 * b2n (decide (path = .stale)) + 16 * b2n sat
    + 32 * b2n (decide (path = .poisoned)) + 64 * b2n switched + 128 * b2n step + 256 * b2n gap + 512
    + 1024 * ph + 0x10000 * (settle % 256) + 0x1000000 * min taken 255)

/-- The blocks of stream k's history in FLT's intake memory (R64: 128 KiB, 512 bytes a stream). -/
def histAddr (k : Nat) : Nat := fltBase + 512 * k

/-- n events of one kind: a counter, an event flag and a code each. -/
def Flt.times (n r flag code k : Nat) (w : W Flt) : W Flt :=
  (upto n).foldl (fun w _ => ((w.map (·.count r)).evt Pg.FLT flag).code Pg.FLT code [wd k]) w

/-- The slot of an enabled stream (R65, R73–R76): take-in, restarts, value, record. Log entry 35 (DEDUCED). -/
def Flt.slot (m : Mem) (takeIn rep : Int) (w : W Flt) (k : Nat) : W Flt :=
  let u := w.u
  let st := u.stream k
  let settle := u.settleOf k
  let poison := m.anyBad (histAddr k) 16
  let switched := u.altBit k != st.alt
  let st1 : Stream :=
    if switched then { st with hist := [], wait := [], settle := settle, alt := u.altBit k }
    else if poison then { st with hist := [], settle := settle } else st
  let due := if switched then [] else st1.wait.filter (fun x => decide (x.due ≤ takeIn))
  let r := due.foldl
    (enterSample settle (rget u.regs (rk Reg.FLT_S_STEP 0 k)).toNat (rfld u.regs (rk Reg.FLT_S_PERIOD 0 k) 23 0))
    ⟨{ st1 with wait := st1.wait.filter (fun x => !decide (x.due ≤ takeIn)), lastTake := some takeIn },
      false, false, 0, 0, 0⟩
  let v := slotValue u k r.st poison rep
  let stale := decide (v.1 = .stale)
  let word := statusWord v.1 v.2.2 switched r.step r.gap r.st.settle r.taken
  let w := w.map (fun u => u.putStream k { r.st with stale := stale, work := (wi v.2.1, word) })
  let w := (w.readN m Pg.FLT (histAddr k) 16).when poison (fun w => (w.heal (histAddr k) 16).evt Pg.FLT 5)
  let w := w.when poison (fun w => w.code Pg.FLT 0x20C3 [wd k])
  let w := Flt.times r.dropped Reg.FLT_CNT_DROP 2 0x1314 k w
  let w := Flt.times (r.restarts + b2n switched + b2n (poison && !switched)) Reg.FLT_CNT_RESTART 3 0x0312 k w
  let w := Flt.times (b2n v.2.2) Reg.FLT_CNT_SAT 1 0x1310 k w
  w.when (stale && !st.stale) (fun w => (w.evt Pg.FLT 4).code Pg.FLT 0x1313 [wd k])

/-- The record of stream k of the run in progress; a disabled stream's is 0 (R77). Log entry 34 (DESIGN CHOICE). -/
def Flt.workRecord (u : Flt) (k : Nat) : List Byte :=
  if u.enabled.contains k then wordBytes (u.stream k).work.1 ++ wordBytes (u.stream k).work.2 else leBytes 8 0

/-- RESAMPLE (R77, R78): the slots in order, and the records into the hidden half at dst, of dstLen blocks. Log entry 35 (DEDUCED). -/
def Flt.resample (m : Mem) (startUs : Int) (dst dstLen : Nat) (u : Flt) : W Flt :=
  let takeIn := 1000 * (startUs - (rfld u.regs Reg.FLT_TAKE 15 0 : Int))
  let rep := 1000 * (startUs - (rfld u.regs Reg.FLT_GDELAY 19 0 : Int))
  let n := u.slots
  let w := u.enabled.foldl (Flt.slot m takeIn rep) (W.of u)
  let fit := min n (4 * dstLen)
  let w := w.map (fun u => { u with regs := rset (rset u.regs Reg.FLT_SLOTS (wd n)) Reg.FLT_RUN (wd ((375 * n + 1) / 2)) })
  let w := w.when (decide (4 * dstLen < n)) (·.code Pg.FLT 0x1315 [])
  w.store Pg.FLT dst ((upto fit).flatMap w.u.workRecord)

/-- The publication of a RESAMPLE (R47): the records of the run become those of the visible half. -/
def Flt.publish (u : Flt) : Flt :=
  u.enabled.foldl (fun u k =>
    let st := u.stream k
    let u := u.putStream k { st with record := st.work }
    { u with regs := rset u.regs (rk Reg.FLT_S_REC 0 k) st.work.2 }) u

/-- Every history emptied with SETTLE_LEFT at SETTLE, as at the exit from CONFIG (R73); the visible records stay. -/
def Flt.restartAll (u : Flt) : Flt :=
  u.enabled.foldl (fun u k =>
    u.putStream k { Stream.fresh (u.settleOf k) with
      drops := (u.stream k).drops, alt := u.altBit k, record := (u.stream k).record, work := (u.stream k).work }) u

/-- FIRST2 and FIRST3 derived, as on leaving CONFIG (R69, FLT_COEF_LEAD). Log entry 35 (DEDUCED). -/
def Flt.derive (u : Flt) : Flt :=
  { u with
    regs := rset (rmod u.regs Reg.FLT_COEF_LEAD (fun w => putBits (putBits w 19 16 (u.first 2)) 23 20 (u.first 3)))
      Reg.FLT_SLOTS (wd u.slots) }

/-- A time step added to every stored timestamp (R68), in ns. -/
def Flt.shift (d : Int) (u : Flt) : Flt :=
  { u with streams := u.streams.map (fun e => (e.1, { e.2 with
      hist := e.2.hist.map (fun h => (h.1 + d, h.2)),
      wait := e.2.wait.map (fun x => { x with due := x.due + d, tau := x.tau + d }),
      lastTake := e.2.lastTake.map (· + d) })) }

/-- The source identifiers R63 admits. -/
def fltSourceOk (unit : Nat) : Bool :=
  unit == 0x16 || unit == 0x20 || unit == 0x21 || (decide (0x22 ≤ unit) && decide (unit ≤ 0x25))
    || (decide (0x30 ≤ unit) && decide (unit ≤ 0x3B)) || (decide (0x50 ≤ unit) && decide (unit ≤ 0x5B))
    || (decide (0x60 ≤ unit) && decide (unit ≤ 0x77))

/-- Whether every phase of a loaded set sums to 16,384 ± 8 and its lead is 1–8 (R72). -/
def Flt.setOk (u : Flt) (set : Nat) : Bool :=
  decide (set < 2) ||
  (decide (1 ≤ u.lead set) && decide (u.lead set ≤ 8) &&
    (upto 32).all (fun p =>
      let s := (upto 16).foldl (fun a i => a + u.tap set p i) 0
      decide (16376 ≤ s) && decide (s ≤ 16392)))

/-- The checks of R72 on one enabled stream. -/
def Flt.streamOk (lenUs : Nat) (u : Flt) (k : Nat) : Bool :=
  let period := rfld u.regs (rk Reg.FLT_S_PERIOD 0 k) 23 0
  let take := rfld u.regs Reg.FLT_TAKE 15 0
  let src := rget u.regs (rk Reg.FLT_S_SRC 0 k)
  decide (50 ≤ period) && decide (period ≤ 10000000)
    && decide (rfld u.regs Reg.FLT_GDELAY 19 0 ≤ 1000000)
    && decide (2 ≤ take) && decide (take ≤ lenUs - 1)
    && decide (rfld u.regs (rk Reg.FLT_S_DLV 0 k) 19 0 ≤ 1000000)
    && fltSourceOk (bits src 15 8) && u.setOk (bits src 2 1)

/-- The first enabled stream that fails R72. Log entry 35 (DEDUCED). -/
def Flt.exitCheck (lenUs : Nat) (u : Flt) : Option Nat := u.enabled.find? (fun k => !u.streamOk lenUs k)

/-- A write of FLT_COEF_DATA (R71): two taps stored and the window advanced, or discarded for sets 0 and 1. -/
def Flt.coefWrite (v : Word) (u : Flt) : W Flt :=
  let sel := rget u.regs Reg.FLT_COEF_SEL
  let set := bits sel 1 0
  let pos := 8 * bits sel 6 2 + bits sel 9 7
  if set < 2 then (W.of u).code Pg.FLT 0x1302 []
  else
    let k := 512 * set + 16 * bits sel 6 2 + 2 * bits sel 9 7
    let next := (pos + 1) % 256
    W.of { u with
      taps := sset tapDefault (sset tapDefault u.taps k (signed 16 (bits v 15 0))) (k + 1) (signed 16 (bits v 31 16)),
      regs := rset u.regs Reg.FLT_COEF_SEL (putBits (putBits sel 6 2 (next / 8)) 9 7 (next % 8)) }

/-- What a read of FLT_COEF_DATA returns (R71). -/
def Flt.coefRead (u : Flt) : Word :=
  let sel := rget u.regs Reg.FLT_COEF_SEL
  let t := fun j => ((u.tap (bits sel 1 0) (bits sel 6 2) (2 * bits sel 9 7 + j)) % 65536).toNat
  wd (t 0 + 0x10000 * t 1)

end Sys2Proof.Machine
end

