-- ==== Sys2Proof/Machine/Estimator.lean ====
section
/-! DEFINITION. EST: one fathom of estimation, the reference slots, votes, disputes, gates, time trust, modes and
initialisation (R83–R105). What only the model image fixes (its layout is the tool's) stands in Config. -/

namespace Sys2Proof.Machine

/-- The slots of R87. -/
def estSlots : Nat := 18

/-- Slot k of the data of an ESTIMATE. -/
def EstData.slot (d : EstData) (k : Nat) : EstSlot := sget (fun _ => EstSlot.fresh) d.slots k

/-- Slot k set. -/
def EstData.put (d : EstData) (k : Nat) (v : EstSlot) : EstData :=
  { d with slots := sset (fun _ => EstSlot.fresh) d.slots k v }

/-- EST_R_CFG of slot k. -/
def Est.cfg (u : Est) (k : Nat) : Word := rget u.regs (rk Reg.EST_R_CFG 0 k)

/-- KIND of slot k. -/
def Est.kind (u : Est) (k : Nat) : Nat := bits (u.cfg k) 3 1

/-- EN of slot k. -/
def Est.en (u : Est) (k : Nat) : Bool := bit (u.cfg k) 0

/-- The group of a slot: 0 position, 1 heading, 2 motion reference unit, 3 wind (R87). -/
def estGroup (k : Nat) : Nat := if k < 8 then 0 else if k < 12 then 1 else if k < 15 then 2 else 3

/-- Whether a slot measures in a frame of its own (R91). -/
def Est.relative (u : Est) (k : Nat) : Bool := u.kind k == 1 || u.kind k == 2

/-- Whether slot k is a member of a group: a KIND 2 slot belongs to position and heading (R87). -/
def Est.member (u : Est) (g k : Nat) : Bool := estGroup k == g || (g == 1 && estGroup k == 0 && u.kind k == 2)

/-- EST_R_VAR of a slot in the variance format of its group: Q15.16 for positions and wind, Q3.28 rad² otherwise. Log entry 39 (DEDUCED). -/
def Est.var (u : Est) (g k : Nat) : Int :=
  let v : Int := (rget u.regs (rk Reg.EST_R_VAR 0 k)).toNat
  if g = 1 ∨ g = 2 then v * 4096 else v

/-- The stream numbers A, B, C a slot uses (R87). -/
def Est.streams (u : Est) (k : Nat) : List Nat :=
  let w := rget u.regs (rk Reg.EST_R_STRM 0 k)
  match estGroup k with
  | 0 => if u.kind k = 2 then [] else [bits w 7 0, bits w 15 8]
  | 1 => [bits w 7 0]
  | 2 => [bits w 7 0, bits w 15 8, bits w 23 16]
  | _ => [bits w 7 0, bits w 15 8]

/-- The record of a stream in the FLT pair: value and STATUS (R80). -/
def estRecord (i : SpanIn) (stream : Nat) : Int × Word :=
  (sw (i.mem.readWord (i.src + 8 * stream)), i.mem.readWord (i.src + 8 * stream + 4))

/-- Whether a record may be used (R89): EN set, neither STALE nor POISON. -/
def recordUsable (st : Word) : Bool := bit st 9 && !bit st 3 && !bit st 5

/-- Whether a record makes its slot fast (R89): EXTRAP, or HELD without STALE. -/
def recordFast (st : Word) : Bool := bit st 1 || (bit st 2 && !bit st 3)

/-- The berth pose pair as the estimator finds it (R90): the 16 words, whether a pose is there that has not been applied
yet, how many fathoms back its validity fathom lies. -/
structure Berth where
  words : List Word
  fresh : Bool
  back  : Nat
  deriving DecidableEq, Repr

/-- t_out of a pose record (R122). -/
def poseTime (ws : List Word) : Int := (wordAt ws 8).toNat + 4294967296 * (wordAt ws 9).toNat

/-- How many fathoms before this one an instant of module time lies (R90); 0 within it. Log entry 38 (DEDUCED). -/
def fathomsBack (startUs : Int) (lenUs : Nat) (t : Int) : Nat :=
  (fdiv (1000 * startUs - t + 1000 * lenUs - 1) (1000 * lenUs)).toNat

/-- The berth pair read (R90, R122). -/
def Est.berth (u : Est) (d : EstData) (i : SpanIn) : Option Berth :=
  let b := rget u.regs Reg.EST_BERTH_BLK
  if bit b 31 then
    let ws := i.mem.readWords (i.vis (bits b 18 0)) 16
    let t := poseTime ws
    let f := fathomsBack i.startUs i.lenUs (t - 1000 * (rfld u.regs Reg.EST_BERTH_LAT 19 0 : Int))
    some ⟨ws, bit (wordAt ws 7) 0 && decide (d.berthSeen ≠ some t), f⟩
  else none

/-- Whether slot k is usable (R89); a KIND 2 slot when the berth pair holds a pose at most 63 fathoms old (R90). -/
def Est.usable (u : Est) (i : SpanIn) (b : Option Berth) (k : Nat) : Bool :=
  if u.kind k = 2 ∧ k < 8 then
    (match b with | some b => bit (wordAt b.words 7) 0 && decide (b.back ≤ 63) | none => false)
  else (u.streams k).all (fun s => recordUsable (estRecord i s).2)

/-- Whether slot k is fast (R89). -/
def Est.fast (u : Est) (i : SpanIn) (k : Nat) : Bool := (u.streams k).any (fun s => recordFast (estRecord i s).2)

/-- The values of a slot's streams. Log entry 39 (DEDUCED). -/
def Est.values (u : Est) (i : SpanIn) (k : Nat) : List Int := (u.streams k).map (fun s => (estRecord i s).1)

/-! ## Time trust (R96) -/

/-- The time offsets d_k of the slots that take part in the comparison. -/
def Est.timeOffsets (u : Est) (i : SpanIn) : List (Nat × Int) :=
  ((upto estSlots).filter (fun k => u.en k && bit (u.cfg k) 9 &&
      (let st := (estRecord i (bits (u.cfg k) 31 24)).2; !bit st 3 && !bit st 5))).map
    (fun k => (k, (estRecord i (bits (u.cfg k) 31 24)).1))

/-- F_k: the period of the slot's stream A, µs. -/
def estPeriod (flt : RMap) (u : Est) (k : Nat) : Int :=
  (rfld flt (rk Reg.FLT_S_PERIOD 0 (rfld u.regs (rk Reg.EST_R_STRM 0 k) 7 0)) 23 0 : Nat)

/-- The comparison of slot k: the reference value m_k and whether the slot is to be marked when it is trusted. -/
def timeCompare (flt : RMap) (u : Est) (d : EstData) (offs : List (Nat × Int)) (k : Nat) (dk : Int) :
    Option (Int × Bool) :=
  let trusted := offs.filter (fun e => (d.slot e.1).trusted)
  let others := trusted.filter (fun e => e.1 != k)
  match others with
  | [] => none
  | [(_, da)] =>
    if (d.slot k).trusted then some (da, decide (da < dk) && decide (estPeriod flt u k < dk - da))
    else some (da, false)
  | _ =>
    let m := medianI (trusted.map (·.2))
    some (m, decide (estPeriod flt u k < (((dk - m).natAbs : Nat) : Int)))

/-- Time trust of slot k updated (R96). -/
def timeSlot (flt : RMap) (before : EstData) (offs : List (Nat × Int)) (w : W (Est × EstData)) (e : Nat × Int) :
    W (Est × EstData) :=
  match timeCompare flt w.u.1 before offs e.1 e.2 with
  | none => w
  | some (m, mark) =>
    let s := w.u.2.slot e.1
    let drift := wi (e.2 - m)
    let setDrift := fun (p : Est × EstData) =>
      ({ p.1 with regs := rset p.1.regs (rk Reg.EST_R_DRIFT 0 e.1) drift }, p.2)
    let setSlot := fun (v : EstSlot) (p : Est × EstData) => (p.1, p.2.put e.1 v)
    if s.trusted then
      if mark then
        (((w.map setDrift).map (setSlot { s with trusted := false, count := 0 })).evt Pg.EST 4).code Pg.EST 0x1413
          [wd e.1, drift]
      else w
    else
      let near := decide ((((e.2 - m).natAbs : Nat) : Int) ≤ estPeriod flt w.u.1 e.1)
      let n := if near then s.count + 1 else 0
      let w := w.map setDrift
      if rfld w.u.1.regs Reg.EST_TWIN 15 0 ≤ n ∧ near then
        ((w.map (setSlot { s with trusted := true, count := 0 })).evt Pg.EST 4).code Pg.EST 0x0414 [wd e.1]
      else w.map (setSlot { s with count := n })

/-- Time trust of every slot with TIME_EN (R96); the trust before the fathom decides who is compared with whom. Log entry 38 (DEDUCED). -/
def timeTrust (flt : RMap) (i : SpanIn) (w : W (Est × EstData)) : W (Est × EstData) :=
  let offs := w.u.1.timeOffsets i
  offs.foldl (timeSlot flt w.u.2 offs) w

/-! ## State and measurement models (R84, R88) -/

/-- The state in its formats: heading modulo one turn, every other value saturated (R84, R85). -/
def estNorm (x : List Int) : List Int :=
  (upto 15).map (fun i => if i = 2 then x.getD 2 0 % 4294967296 else sat32 (x.getD i 0))

/-- The lever arm of a slot under roll φ and pitch θ, in the plane (R88). -/
def Est.lever (u : Est) (k : Nat) (roll pitch : Int) : Int × Int :=
  let l := fun r => sw (rget u.regs (rk r 0 k))
  (l Reg.EST_R_LEVER_X + roundShift (l Reg.EST_R_LEVER_Z * binSin (radToAngle pitch)) 30,
   l Reg.EST_R_LEVER_Y - roundShift (l Reg.EST_R_LEVER_Z * binSin (radToAngle roll)) 30)

/-- The predicted position measurement of a slot from (N, E, ψ, ξN, ξE, ξψ) (R88). -/
def Est.predPos (u : Est) (k : Nat) (p : List Int) (roll pitch : Int) : Int × Int :=
  let l := rot2 (p.getD 2 0) (u.lever k roll pitch)
  (p.getD 0 0 + p.getD 3 0 + l.1, p.getD 1 0 + p.getD 4 0 + l.2)

/-- The predicted heading measurement of a slot (R88), a binary angle. -/
def Est.predHdg (u : Est) (k : Nat) (p : List Int) : Int :=
  p.getD 2 0 + radToAngle (p.getD 5 0) + ((rget u.regs (rk Reg.EST_R_OFFS 0 k)).toNat : Int)

/-- The six values of a state that R90 keeps. -/
def estSix (x : List Int) : List Int := [x.getD 0 0, x.getD 1 0, x.getD 2 0, x.getD 9 0, x.getD 10 0, x.getD 11 0]

/-- The prediction a slot's measurement is compared with: the present one, or that of the berth pose's validity fathom
(R90). -/
def Est.predFor (u : Est) (i : SpanIn) (d : EstData) (b : Option Berth) (k : Nat) : List Int :=
  match b with
  | some b =>
    if u.kind k = 2 ∧ k < 8 then
      (match d.hist.find? (fun h => h.1 + b.back == i.fno) with
       | some h => h.2
       | none => estSix d.x)
    else estSix d.x
  | none => estSix d.x

/-- The slot's own position measurement: streams A and B, or the pose (R87, R122). -/
def Est.rawPos (u : Est) (i : SpanIn) (b : Option Berth) (k : Nat) : Int × Int :=
  if u.kind k = 2 then
    (match b with | some b => (swAt b.words 0, swAt b.words 1) | none => (0, 0))
  else ((u.values i k).getD 0 0, (u.values i k).getD 1 0)

/-- The slot's own heading measurement, a binary angle. -/
def Est.rawHdg (u : Est) (i : SpanIn) (b : Option Berth) (k : Nat) : Int :=
  if u.kind k = 2 ∧ k < 8 then (match b with | some b => ((wordAt b.words 2).toNat : Int) | none => 0)
  else (u.values i k).getD 0 0

/-- A position measurement carried into the earth frame by the frozen offset (R91). -/
def EstSlot.transform (s : EstSlot) (p : Int × Int) : Int × Int :=
  ((rot2 s.offPsi p).1 + s.offN, (rot2 s.offPsi p).2 + s.offE)

/-- Wind components (speed × cos, speed × sin) of a slot (R88). -/
def Est.wind (u : Est) (i : SpanIn) (k : Nat) : List Int :=
  let v := (u.values i k).getD 0 0
  let a := (u.values i k).getD 1 0
  [roundShift (v * binCos a) 30, roundShift (v * binSin a) 30]

/-- A candidate of a group (R92): the slot, its innovation, its variances after FASTMUL, whether it is fast. -/
structure Cand where
  slot : Nat
  nu   : List Int
  var  : List Int
  deriving DecidableEq, Repr

/-- The variance of a slot in a group, with FASTMUL for a fast one (R89) and the pose's own where it is valid (R88). -/
def Est.vars (u : Est) (i : SpanIn) (b : Option Berth) (g k : Nat) : List Int :=
  let v := u.var g k * (if u.fast i k then (rfld u.regs (rk Reg.EST_R_GATE 0 k) 23 16 : Int) else 1)
  let own : List Int := if g = 0 ∨ g = 3 then [v, v] else [v]
  if u.kind k = 2 ∧ k < 8 then
    (match b with
     | some b =>
       if bit (wordAt b.words 7) 1 then
         (if g = 0 then [((wordAt b.words 3).toNat : Int), ((wordAt b.words 4).toNat : Int)]
          else [((wordAt b.words 5).toNat : Int)])
       else own
     | none => own)
  else own

/-- The innovation of a slot in a group (R88, R92): Q21.10 m, a signed binary angle, Q3.28 rad/s, or wind in Q15.16. -/
def Est.innovation (u : Est) (i : SpanIn) (d : EstData) (b : Option Berth) (roll pitch : Int) (g k : Nat) : List Int :=
  let s := d.slot k
  match g with
  | 0 =>
    let y := s.transform (u.rawPos i b k)
    let p := u.predPos k (u.predFor i d b k) roll pitch
    [y.1 - p.1, y.2 - p.2]
  | 1 => [angleDiff (u.rawHdg i b k + s.offPsi - u.predHdg k (u.predFor i d b k))]
  | 2 => [(u.values i k).getD 0 0 - (d.x.getD 5 0 + d.x.getD 14 0)]
  | _ => u.wind i k

/-- The candidates of a group: enabled, admitted, time-trusted and usable, a KIND 2 slot only with a fresh pose. -/
def Est.candidates (u : Est) (i : SpanIn) (d : EstData) (b : Option Berth) (roll pitch : Int) (g : Nat) : List Cand :=
  ((upto estSlots).filter (fun k =>
      u.member g k && u.en k && (d.slot k).admitted && (!bit (u.cfg k) 9 || (d.slot k).trusted) && u.usable i b k &&
      (if u.kind k = 2 ∧ k < 8 then (match b with | some b => b.fresh | none => false) else true))).map
    (fun k => ⟨k, u.innovation i d b roll pitch g k, u.vars i b g k⟩)

/-- An innovation in the format its variance is for: headings in rad. -/
def scaled (g : Nat) (nu : List Int) : List Int := if g = 1 then nu.map angleToRad else nu

/-- Sum of squares. -/
def sumSq (l : List Int) : Int := l.foldl (fun a x => a + x * x) 0

/-- Componentwise difference. -/
def subL (a b : List Int) : List Int := List.zipWith (· - ·) a b

/-- The median innovation of a group, component by component (R93). -/
def medianNu (cs : List Cand) : List Int :=
  let n := match cs with | c :: _ => c.nu.length | [] => 0
  (upto n).map (fun j => medianI (cs.map (fun c => c.nu.getD j 0)))

/-- Whether a candidate lies beyond the group's vote limit from the median (R93). Log entry 38 (DEDUCED). -/
def Est.votedOut (u : Est) (g : Nat) (med : List Int) (c : Cand) : Bool :=
  let d2 := sumSq (subL c.nu med)
  let gate : Int := (rfld u.regs (rk Reg.EST_R_GATE 0 c.slot) 15 0 : Nat)
  match g with
  | 0 => let l := sw (rget u.regs Reg.EST_VOTE_LIM); decide (l * l < d2)
  | 1 => let l : Int := (rget u.regs Reg.EST_VOTE_HLIM).toNat; decide (l * l < d2)
  | 2 => decide (gate * gate * u.var 2 c.slot * 4096 < d2)
  | _ => decide (gate * gate * u.var 3 c.slot < d2)

/-- Whether two candidates contradict (R94): Σ ν²/σ² above G², as exact fractions. Log entry 38 (DEDUCED). -/
def Est.contradict (u : Est) (g : Nat) (a b : Cand) : Bool :=
  let gg : Int := (rfld u.regs Reg.EST_DISP_GATE 15 0 : Nat)
  let n := List.zipWith (· - ·) (scaled g a.nu) (scaled g b.nu)
  let v := List.zipWith (· + ·) a.var b.var
  let f : Int := if g = 0 then 4096 else 1
  let h : Int := if g = 1 ∨ g = 2 then 4096 else 1
  match n, v with
  | [n0], [v0] => decide (gg * gg * v0 * h < n0 * n0 * f)
  | [n0, n1], [v0, v1] => decide (gg * gg * v0 * v1 * h < (n0 * n0 * v1 + n1 * n1 * v0) * f)
  | _, _ => false

/-- What a group's voting, dispute and gates decide for a slot: verdict 2 USED, 5 VOTED_OUT, 6 DISPUTED, 7 GATED,
whether by preference, and q (R95). -/
structure Verdict where
  cand    : Cand
  code    : Nat
  pref    : Bool
  q       : Option Nat
  deriving DecidableEq, Repr

/-- The gate of a candidate (R95); wind has no model and no gate (R88). -/
def Est.gateOf (u : Est) (d : EstData) (g : Nat) (pref : Bool) (c : Cand) : Verdict :=
  if g = 3 then ⟨c, 2, pref, none⟩
  else
    let q := min (Config.estNis d.x d.cov g (scaled g c.nu) c.var) 0xFFFF
    ⟨c, if rfld u.regs (rk Reg.EST_R_GATE 0 c.slot) 15 0 < q then 7 else 2, pref, some q⟩

/-- The verdicts of a group (R92–R95). Log entry 38 (DEDUCED). -/
def Est.judge (u : Est) (d : EstData) (g : Nat) (cs : List Cand) : List Verdict :=
  match cs with
  | [a, b] =>
    if u.contradict g a b then
      let pa := bits (u.cfg a.slot) 7 4
      let pb := bits (u.cfg b.slot) 7 4
      if pa = pb then [⟨a, 6, false, none⟩, ⟨b, 6, false, none⟩]
      else if pa ≠ 0 ∧ (pb = 0 ∨ pa < pb) then [u.gateOf d g true a, ⟨b, 6, false, none⟩]
      else [⟨a, 6, false, none⟩, u.gateOf d g true b]
    else [u.gateOf d g false a, u.gateOf d g false b]
  | _ =>
    if 3 ≤ cs.length then
      let med := medianNu cs
      cs.map (fun c => if u.votedOut g med c then ⟨c, 5, false, none⟩ else u.gateOf d g false c)
    else cs.map (u.gateOf d g false)

/-- The verdict of a slot that is no candidate (R95): disabled, withdrawn, untrusted, or stale; a KIND 2 slot between two
poses keeps the verdict of its last pose. -/
def Est.passive (u : Est) (i : SpanIn) (d : EstData) (b : Option Berth) (k : Nat) (last : Nat) : Nat :=
  if !u.en k then 0
  else if !(d.slot k).admitted then 1
  else if bit (u.cfg k) 9 && !(d.slot k).trusted then 3
  else if !u.usable i b k then 4
  else last

/-- What a slot was and is, and what that reports: codes 0x410 and 0x411 once on entry (R93, R95). -/
def verdictReport (k : Nat) (was is_ : Nat) (w : W (Est × EstData)) : W (Est × EstData) :=
  let w := w.when (is_ == 7 && was != 7) (fun w => (w.evt Pg.EST 1).code Pg.EST 0x1410 [wd k])
  w.when (is_ == 5 && was != 5) (fun w => (w.evt Pg.EST 2).code Pg.EST 0x1411 [wd k])

/-- EST_R_STAT of a slot set from its verdicts (R105), q and REJECTS in EST_R_INNOV (R95). -/
def setVerdict (i : SpanIn) (b : Option Berth) (vs : List (Nat × Verdict)) (k : Nat) (w : W (Est × EstData)) :
    W (Est × EstData) :=
  let u := w.u.1
  let d := w.u.2
  let s := d.slot k
  let own := if estGroup k = 0 then 0 else estGroup k
  let find := fun g => vs.find? (fun v => v.1 == g && v.2.cand.slot == k)
  let st := match find own with | some v => v.2.code | none => u.passive i d b k (bits s.stat 3 0)
  let berth := u.kind k == 2 && decide (k < 8)
  let h := if berth then (match find 1 with | some v => v.2.code | none => u.passive i d b k (bits s.stat 11 8)) else 0
  let pref := match find own with | some v => v.2.pref && v.2.code == 2 | none => false
  let stat := wd (st + 16 * b2n (u.en k && u.fast i k && u.usable i b k) + 32 * b2n pref + 64 * b2n (bit (u.cfg k) 10)
    + 256 * h + 0x10000 * (s.count % 65536))
  let rej := u.en k && s.admitted && st != 2 && (find own).isSome || (u.en k && s.admitted && (st == 3 || st == 4))
  let inn := rk Reg.EST_R_INNOV 0 k
  let w := verdictReport k (bits s.stat 3 0) st w
  let w := w.when berth (verdictReport k (bits s.stat 11 8) h)
  w.map (fun p =>
    ({ p.1 with
      regs := rset (rmod p.1.regs inn (fun x =>
        let x := match find own with
          | some v => (match v.2.q with | some q => putBits x 15 0 q | none => x)
          | none => x
        if rej then incSatField x 31 16 else x)) (rk Reg.EST_R_STAT 0 k) stat },
     p.2.put k { p.2.slot k with stat := stat }))

/-- A new dispute in a group is recorded once, with both slot indexes (R94). -/
def disputeReport (before : EstData) (vs : List (Nat × Verdict)) (g : Nat) (w : W (Est × EstData)) : W (Est × EstData) :=
  let mine := vs.filter (fun v => v.1 == g)
  let was := fun (k : Nat) => if g = 1 ∧ k < 8 then bits (before.slot k).stat 11 8 else bits (before.slot k).stat 3 0
  let new := mine.any (fun v => v.2.code == 6 && was v.2.cand.slot != 6)
  w.when new (fun w => (w.evt Pg.EST 3).code Pg.EST 0x1412 (mine.map (fun v => wd v.2.cand.slot)))

/-! ## Admission, initialisation and propagation (R91, R98, R99) -/

/-- Slot k admitted (R91): with zero offset, or for KIND 1 and 2 with the offset that makes the measurement equal its
prediction from the present state. -/
def admitSlot (i : SpanIn) (b : Option Berth) (roll pitch : Int) (k : Nat) (w : W (Est × EstData)) : W (Est × EstData) :=
  let u := w.u.1
  let d := w.u.2
  let rel := u.relative k && decide (k < 8)
  if rel && (!u.usable i b k || !d.init) then w
  else
    let six := estSix d.x
    let dpsi := if rel && u.kind k == 2 then angleDiff (u.predHdg k six - u.rawHdg i b k) else 0
    let r := rot2 dpsi (u.rawPos i b k)
    let p := u.predPos k six roll pitch
    let off := if rel then (p.1 - r.1, p.2 - r.2) else ((0, 0) : Int × Int)
    let s := { d.slot k with admitted := true, offN := off.1, offE := off.2, offPsi := dpsi, clean := 0 }
    ((w.map (fun q =>
        ({ q.1 with
          regs := rsets q.1.regs [(rk Reg.EST_R_ADM_N 0 k, satW off.1), (rk Reg.EST_R_ADM_E 0 k, satW off.2),
            (rk Reg.EST_R_ADM_PSI 0 k, wi dpsi)] },
         q.2.put k s))).evt Pg.EST 8).code Pg.EST 0x0418 [wd k, satW off.1, satW off.2, wi dpsi]

/-- The count of clean fathoms of a slot, and its automatic admission (R91). -/
def autoAdmit (i : SpanIn) (b : Option Berth) (roll pitch : Int) (w : W (Est × EstData)) (k : Nat) : W (Est × EstData) :=
  let u := w.u.1
  let s := w.u.2.slot k
  let clean := if u.usable i b k && !u.fast i k then s.clean + 1 else 0
  let due := u.en k && u.relative k && bit (u.cfg k) 8 && !s.admitted && decide (bits (u.cfg k) 23 16 ≤ clean)
    && decide (1 ≤ clean)
  let w := w.map (fun p => (p.1, p.2.put k { p.2.slot k with clean := min clean 255 }))
  w.when due (admitSlot i b roll pitch k)

/-- The usable KIND 0 slots of positions or headings (R98); a heading slot must be admitted. -/
def Est.absolute (u : Est) (i : SpanIn) (d : EstData) (b : Option Berth) (g : Nat) : List Nat :=
  (upto estSlots).filter (fun k => estGroup k == g && u.en k && u.kind k == 0 && u.usable i b k
    && (g == 0 || (d.slot k).admitted))

/-- The model image as an argument of the functions of Config: the bytes of SOL1 local memory. -/
def solCells (m : Mem) : List Host.Cell := m.bytes.filter (fun c => decide (0x51000000 ≤ c.1) && decide (c.1 < 0x51200000))

/-- Initialisation attempted (R98). Log entry 39 (DEDUCED). -/
def estInit (i : SpanIn) (b : Option Berth) (w : W (Est × EstData)) : W (Est × EstData) :=
  let u := w.u.1
  let d := w.u.2
  let hs := u.absolute i d b 1
  let ps := u.absolute i d b 0
  let needPos := (upto 8).any (fun k => u.en k && u.kind k == 0)
  if hs.isEmpty || (needPos && ps.isEmpty) then w
  else
    let h0 := u.rawHdg i b (hs.getD 0 0)
    let offs := fun k => ((rget u.regs (rk Reg.EST_R_OFFS 0 k)).toNat : Int)
    let psi := (h0 + medianI (hs.map (fun k => angleDiff (u.rawHdg i b k - offs k - h0)))) % 4294967296
    let at0 := fun k => rot2 psi (u.lever k 0 0)
    let n := medianI (ps.map (fun k => (u.rawPos i b k).1 - (at0 k).1))
    let e := medianI (ps.map (fun k => (u.rawPos i b k).2 - (at0 k).2))
    let x := estNorm ([n, e, psi] ++ List.replicate 12 0)
    let cov := Config.estInitCov (solCells i.mem) (rfld u.regs Reg.EST_MODEL_BLK 15 0)
    ((w.map (fun p => (p.1, { p.2 with init := true, x := x, cov := cov, hist := [(i.fno, estSix x)] }))).evt Pg.EST 7).code
      Pg.EST 0x041B []

/-- n one-fathom transitions, each of which adds its prediction to the history of R90. -/
def propagate (cells : List Host.Cell) (blk : Nat) (thr wind : List Int) : Nat → Nat → EstData → EstData
  | 0, _, d => d
  | n + 1, f, d =>
    let s := Config.estStep cells blk (d.x ++ d.cov) thr wind
    let x := estNorm s.1
    propagate cells blk thr wind n (f + 1) { d with x := x, cov := s.2, hist := ((f, estSix x) :: d.hist).take 64 }

/-- REINIT (R98): INIT again, every KIND 1 and 2 slot withdrawn, time trust kept. -/
def estReinit (u : Est) (d : EstData) : EstData :=
  (upto 8).foldl (fun d k => if u.relative k then d.put k { d.slot k with admitted := false, clean := 0 } else d)
    { d with init := false, x := List.replicate 15 0, cov := [], hist := [], dr := 0 }

/-- The requests of R102 taken: first WITHDRAW and REINIT; ADMIT comes after initialisation. Log entry 39 (DEDUCED). -/
def takeWithdraws (u : Est) (d : EstData) : EstData :=
  u.withdraw.foldl (fun d k => d.put k { d.slot k with admitted := false, clean := 0 }) (if u.reinit then estReinit u d else d)

/-- One surviving measurement applied (R92). -/
def applyOne (g : Nat) (d : EstData) (c : Cand) : EstData :=
  let r := Config.estUpdate d.x d.cov g (scaled g c.nu) c.var
  { d with x := estNorm r.1, cov := r.2 }

/-- The surviving measurements in the order of R92: the berth pose first, then position, heading and MRU slots. -/
def applyAll (u : Est) (vs : List (Nat × Verdict)) (d : EstData) : EstData :=
  let used := vs.filter (fun v => v.2.code == 2 && decide (v.1 < 3))
  let isBerth := fun (v : Nat × Verdict) => u.kind v.2.cand.slot == 2 && decide (v.2.cand.slot < 8)
  let d := (used.filter isBerth).foldl (fun d v => applyOne v.1 d v.2.cand) d
  (used.filter (fun v => !isBerth v)).foldl (fun d v => applyOne v.1 d v.2.cand) d

/-- One diagonal element raised to the floor (R100). -/
def floorOne (w : W (Est × EstData)) (j : Nat) : W (Est × EstData) :=
  let fl : Int := (rfld w.u.1.regs Reg.EST_P_FLOOR 15 0 : Nat)
  if w.u.2.cov.getD j 0 < fl ∧ j < w.u.2.cov.length then
    ((w.map (fun p => ({ p.1 with regs := rmod p.1.regs Reg.EST_CNT_NUM incW },
      { p.2 with cov := setAt p.2.cov j fl }))).evt Pg.EST 6).code Pg.EST 0x2417 [wd j]
  else w

/-- MODE of R97. -/
def estMode (init pos hdg : Bool) : Nat :=
  if !init then 0 else if pos && hdg then 1 else if hdg then 2 else if pos then 3 else 4

/-- The codes of R97 on entry to dead reckoning. -/
def modeReport (was is_ : Nat) (w : W (Est × EstData)) : W (Est × EstData) :=
  let pos := (is_ == 2 || is_ == 4) && !(was == 2 || was == 4)
  let hdg := (is_ == 3 || is_ == 4) && !(was == 3 || was == 4)
  let w := w.when pos (fun w => (w.evt Pg.EST 5).code Pg.EST 0x1415 [])
  w.when hdg (fun w => (w.evt Pg.EST 5).code Pg.EST 0x1416 [])

/-- The 72 words of R86. -/
def estWords (u : Est) (d : EstData) (pred : List Int) (stat : Word) (fno : Nat) (sig : List Int) (wind : List Int)
    (roll pitch : Int) : List Word :=
  let head := if d.init then (upto 15).map (fun i => wi (pred.getD i 0)) ++ [stat] ++ (upto 15).map (fun i => wi (d.x.getD i 0))
    else List.replicate 31 0#32
  head ++ [crc32 (wordsBytes head)] ++ (upto 15).map (fun i => wi (sig.getD i 0)) ++ [wd fno]
    ++ (upto estSlots).map (fun k => rget u.regs (rk Reg.EST_R_STAT 0 k))
    ++ [satW (wind.getD 0 0), satW (wind.getD 1 0), wi roll, wi pitch, 0#32, 0#32]

/-- The steps of R92 from initialisation on, over tentative data: the words of the output with the tentative data. -/
def Est.fathom (flt : RMap) (i : SpanIn) (thr : List Int) (w0 : W (Est × EstData)) : W (Est × EstData) :=
  let u0 := w0.u.1
  let cells := solCells i.mem
  let blk := rfld u0.regs Reg.EST_MODEL_BLK 15 0
  let before := w0.u.2
  let b := u0.berth before i
  let windFF := rbit u0.regs Reg.EST_CTRL 1
  -- requests, initialisation
  let w := w0.map (fun p => (p.1, takeWithdraws p.1 p.2))
  let gap := i.fno - before.lastFno
  let late := w.u.2.init && decide (8 < gap)
  let w := w.when late (fun w =>
    (w.map (fun p => (p.1, { p.2 with init := false }))).code Pg.EST 0x241A [])
  let fresh := !w.u.2.init
  let w := w.when fresh (estInit i b)
  -- time trust, propagation
  let w := timeTrust flt i w
  let prevWind := if windFF then before.wind else [0, 0]
  let w := w.when (!fresh) (fun w => w.map (fun p =>
    (p.1, propagate cells blk thr prevWind gap (before.lastFno + 1) p.2)))
  -- lever angles
  let mru := before.mruUsed
  let roll := medianI (mru.map (fun k => (u0.values i k).getD 1 0))
  let pitch := medianI (mru.map (fun k => (u0.values i k).getD 2 0))
  -- admissions
  let adm := u0.admits.filter (fun k => !u0.withdraw.contains k)
  let w := adm.foldl (fun w k => admitSlot i b roll pitch k w) w
  let w := (upto 8).foldl (autoAdmit i b roll pitch) w
  let w := w.map (fun p => ({ p.1 with reinit := false, admits := [], withdraw := [] }, p.2))
  -- votes, disputes, gates
  let old := match b with
    | some b => b.fresh && decide (63 < b.back)
    | none => false
  let w := w.when old (·.code Pg.EST 0x1419 [])
  let u := w.u.1
  let d := w.u.2
  let vs : List (Nat × Verdict) :=
    if d.init then (upto 4).flatMap (fun g => (u.judge d g (u.candidates i d b roll pitch g)).map (fun v => (g, v))) else []
  let w := (upto 4).foldl (fun w g => disputeReport d vs g w) w
  let w := (upto estSlots).foldl (fun w k => setVerdict i b vs k w) w
  let winds := (vs.filter (fun v => v.1 == 3 && v.2.code == 2)).map (fun v => v.2.cand.nu)
  let wind := if winds.isEmpty then [0, 0] else
    [medianI (winds.map (fun l => l.getD 0 0)), medianI (winds.map (fun l => l.getD 1 0))]
  -- updates
  let w := w.map (fun p => (p.1, applyAll p.1 vs p.2))
  let w := (upto 15).foldl floorOne w
  let posN := (vs.filter (fun v => v.1 == 0 && v.2.code == 2)).length
  let hdgN := (vs.filter (fun v => v.1 == 1 && v.2.code == 2)).length
  let mode := estMode w.u.2.init (decide (0 < posN)) (decide (0 < hdgN))
  let w := modeReport (rfld u0.regs Reg.EST_STAT 2 0) mode w
  let dr := if mode = 1 ∨ mode = 0 then 0 else satInc 16 before.dr
  let num := decide (rget w.u.1.regs Reg.EST_CNT_NUM ≠ rget u0.regs Reg.EST_CNT_NUM)
  let stat := wd (mode + 16 * b2n num + 32 * b2n mru.isEmpty + 64 * b2n winds.isEmpty + 256 * (posN % 16)
    + 4096 * (hdgN % 16) + 0x10000 * dr)
  let seen := match b with | some b => if b.fresh then some (poseTime b.words) else before.berthSeen | none => before.berthSeen
  let mruNow := (vs.filter (fun v => v.1 == 2 && v.2.code == 2)).map (fun v => v.2.cand.slot)
  let w := w.map (fun p =>
    ({ p.1 with
      ran := true,
      regs := rset (rset p.1.regs Reg.EST_STAT stat) Reg.EST_IN_FNO (wd i.fno) },
     { p.2 with dr := dr, lastFno := i.fno, mruUsed := mruNow, wind := wind, berthSeen := seen }))
  let tau := if windFF then wind else [0, 0]
  let pred := estNorm (Config.estPredict cells blk (rfld flt Reg.FLT_GDELAY 19 0) w.u.2.x thr tau)
  let out := estWords w.u.1 w.u.2 pred stat i.fno (Config.estSigma w.u.2.cov) wind roll pitch
  w.store Pg.EST i.dst (wordsBytes out)

/-- ESTIMATE (R83, R92): operands too short, or a poisoned input, give no result (R23, R83). -/
def Est.estimate (flt : RMap) (slots : Nat) (i : SpanIn) (u : Est) : R Est :=
  let cells := solCells i.mem
  let blk := rfld u.regs Reg.EST_MODEL_BLK 15 0
  let thrAt := i.vis (bits i.arg 18 0)
  let model := 0x51000000 + 32 * blk
  let nModel := Config.estModelBlocks cells blk
  let bb := rget u.regs Reg.EST_BERTH_BLK
  let w := (W.of u).readN i.mem Pg.EST i.src i.srcLen
  let w := w.when (bit i.arg 31) (·.readN i.mem Pg.EST thrAt 1)
  let w := w.when (bit bb 31) (·.readN i.mem Pg.EST (i.vis (bits bb 18 0)) 2)
  let w := w.readN i.mem Pg.EST model nModel
  let bad := i.mem.anyBad i.src i.srcLen || (bit i.arg 31 && i.mem.anyBad thrAt 1)
    || (bit bb 31 && i.mem.anyBad (i.vis (bits bb 18 0)) 2) || i.mem.anyBad model nModel
  let setMiss := fun (u : Est) => { u with regs := rmod u.regs Reg.EST_STAT (fun x => putBit x 3 true) }
  if 4 * i.srcLen < slots ∨ i.dstLen < 9 then
    R.bad ((((W.of u).map setMiss).evt Pg.EST 0).code Pg.EST 0x2402 [])
  else if bad then R.bad (((w.map setMiss).evt Pg.EST 0).code Pg.EST 0x20C3 [])
  else
    let thr := if bit i.arg 31 then (i.mem.readWords thrAt 8).map sw else []
    let w2 := Est.fathom flt i thr ⟨(u, u.data), w.fx, w.st⟩
    R.good ⟨{ w2.u.1 with work := some w2.u.2 }, w2.fx, w2.st⟩

/-- The publication of an ESTIMATE: its data become those the next one starts from, and EST_DIGEST its word 31. Log entry 38 (DEDUCED). -/
def Est.publish (digest : Word) (u : Est) : Est :=
  match u.work with
  | some d => { u with data := d, work := none, regs := rset u.regs Reg.EST_DIGEST digest }
  | none => u

/-- A missed ESTIMATE (R99): MISS set, the run's data dropped. Log entry 33 (DEDUCED). -/
def Est.miss (u : Est) : W Est :=
  (W.of { u with work := none, regs := rmod u.regs Reg.EST_STAT (fun x => putBit x 3 true) }).evt Pg.EST 0

/-- The exit from CONFIG (R91): the estimator in INIT, every enabled slot of KIND 0 admitted with zero offset. Log entry 38 (DEDUCED). -/
def Est.start (u : Est) : Est :=
  { u with
    data := (upto estSlots).foldl (fun d k =>
      if u.en k && !(decide (k < 8) && u.relative k) then d.put k { EstSlot.fresh with admitted := true } else d) EstData.fresh,
    work := none, ran := false }

/-- The enabled slots that share a non-zero PREF with an earlier slot of their group (R104). -/
def Est.prefClash (u : Est) (k : Nat) : Bool :=
  let p := bits (u.cfg k) 7 4
  p != 0 && (upto k).any (fun j => u.en j && estGroup j == estGroup k && bits (u.cfg j) 7 4 == p)

/-- The checks of R104 on one enabled slot. -/
def Est.slotOk (flt : Flt) (feat7 : Bool) (u : Est) (k : Nat) : Bool :=
  (u.streams k).all (fun s => flt.enabled.contains s)
    && (!bit (u.cfg k) 9 || flt.enabled.contains (bits (u.cfg k) 31 24))
    && decide (rget u.regs (rk Reg.EST_R_VAR 0 k) ≠ 0#32)
    && (decide (k < 8) || u.kind k == 0) && decide (u.kind k ≤ 2)
    && (u.kind k != 2 || (feat7 && rbit u.regs Reg.EST_BERTH_BLK 31 && !(upto k).any (fun j => u.en j && u.kind j == 2)))
    && !u.prefClash k

/-- The first check of R104 that fails: the slot, or 0xFF for the floor and the model image. Log entry 92 (DEDUCED). -/
def Est.exitCheck (m : Mem) (flt : Flt) (feat7 : Bool) (u : Est) : Option Nat :=
  match ((upto estSlots).filter u.en).find? (fun k => !u.slotOk flt feat7 k) with
  | some k => some k
  | none =>
    if rfld u.regs Reg.EST_P_FLOOR 15 0 = 0 then some 0xFF
    else if Config.estModelOk (solCells m) (rfld u.regs Reg.EST_MODEL_BLK 15 0) then none else some 0xFF

/-- The slots with verdict USED (R105, SNAP_4). -/
def Est.usedMap (u : Est) : Word :=
  wd ((upto estSlots).foldl (fun a k => if rfld u.regs (rk Reg.EST_R_STAT 0 k) 3 0 = 2 then a + 2 ^ k else a) 0)

end Sys2Proof.Machine
end

