-- ==== Sys2Proof/Machine/Field.lean ====
section
/-! DEFINITION. The field channels (R329–R342, R349): the refresh every 20 µs with filtering, counting, thresholds,
grants and drivers; overloads, silence, divider pulses, and the input record of a LATCH. -/

namespace Sys2Proof.Machine

/-- What a group nothing has touched is. -/
def groupDefault (_ : Nat) : FieldGroup := FieldGroup.fresh

/-- Group n. -/
def Fio.group (u : Fio) (n : Nat) : FieldGroup := sget groupDefault u.groups n

/-- Group n set. -/
def Fio.putGroup (u : Fio) (n : Nat) (g : FieldGroup) : Fio := { u with groups := sset groupDefault u.groups n g }

/-- A cell of group n changed. -/
def Fio.mod (u : Fio) (r n w : Nat) (f : Word → Word) : Fio := { u with regs := rmod u.regs (rk r n w) f }

/-- A channel nothing has touched. -/
def chanDefault (_ : Nat) : FieldChan := FieldChan.rest

/-- Channel c of a group. -/
def FieldGroup.chan (g : FieldGroup) (c : Nat) : FieldChan := sget chanDefault g.chans c

/-- Channel c of a group set. -/
def FieldGroup.putChan (g : FieldGroup) (c : Nat) (x : FieldChan) : FieldGroup := { g with chans := sset chanDefault g.chans c x }

/-- FIOn_CH_CFG of a channel. -/
def Fio.cfg (u : Fio) (n c : Nat) : Word := rget u.regs (rk Reg.FIO_CH_CFG n c)

/-- MODE of a channel (R329). -/
def Fio.mode (u : Fio) (n c : Nat) : Nat := bits (u.cfg n c) 2 0

/-- IRATE of a channel. -/
def Fio.irate (u : Fio) (n c : Nat) : Nat := rfld u.regs (rk Reg.FIO_CH_AUX n c) 7 0
/-- IINR of a channel. -/
def Fio.iinr (u : Fio) (n c : Nat) : Nat := rfld u.regs (rk Reg.FIO_CH_AUX n c) 15 8

/-- The refreshes of a filter time (R333). -/
def filterSamples (filt : Nat) : Nat := [1, 5, 25, 50, 150, 250, 500, 1000].getD filt 1

/-- A bit of a 16-bit mask set to b. -/
def put16 (m : BitVec 16) (c : Nat) (b : Bool) : BitVec 16 :=
  if b then m ||| BitVec.twoPow 16 c else m &&& ~~~(BitVec.twoPow 16 c)

/-- What a refresh brings from the group side (R331): the raw input samples, the read-back of the drivers, the pin
voltages of the sixteen channels in mV, and L+ in mV. -/
structure RefreshIn where
  raw   : BitVec 16
  back  : BitVec 16
  volts : List Nat
  lplus : Nat

/-! ## Inputs (R333) -/

/-- A digital input at a refresh: the filtered state, its instant, edges, count and event trigger. -/
def Fio.input (n : Nat) (now : Int) (raw : BitVec 16) (w : W Fio) (c : Nat) : W Fio :=
  let u := w.u
  let g := u.group n
  let x := g.chan c
  let old := rbit u.regs (rk Reg.FIO_IN n 0) c
  let v := raw.getLsbD c
  if v = old then w.map (fun u => u.putGroup n (g.putChan c { x with run := 0 }))
  else
    let first := if x.run = 0 then now else x.first
    let k := x.run + 1
    if k < filterSamples (bits (u.cfg n c) 6 4) then w.map (fun u => u.putGroup n (g.putChan c { x with run := k, first := first }))
    else
      let g := g.putChan c { x with run := 0 }
      let g := if v then { g with rising := put16 g.rising c true } else { g with falling := put16 g.falling c true }
      let w := w.map (fun u => (u.putGroup n g).mod Reg.FIO_IN n 0 (fun i => putBit i c v))
      let w := w.map (fun u => { u with regs := rset64 u.regs (rk Reg.FIO_CH_ETIME_L n c) (rk Reg.FIO_CH_ETIME_H n c) first })
      let w := w.when (v && u.mode n c == 3) (·.map (fun u => u.mod Reg.FIO_CH_CNT n c (· + 1#32)))
      w.trigger ⟨3, n, c + (if v then 16 else 32)⟩

/-- The mean of samples, rounded to nearest. -/
def meanNat (l : List Nat) : Nat := if l.length = 0 then 0 else (2 * l.foldl (· + ·) 0 + l.length) / (2 * l.length)

/-- A channel's input side at a refresh, by its mode (R329). Log entry 65 (DEDUCED). -/
def Fio.inputSide (n : Nat) (now : Int) (r : RefreshIn) (w : W Fio) (c : Nat) : W Fio :=
  let m := w.u.mode n c
  if m = 1 ∨ m = 2 ∨ m = 3 then Fio.input n now r.raw w c
  else if m = 4 then
    w.map (fun u =>
      let g := u.group n
      let x := g.chan c
      let l := (min (r.volts.getD c 0) 36000 :: x.analog).take (filterSamples (bits (u.cfg n c) 6 4))
      ((u.putGroup n (g.putChan c { x with analog := l })).mod Reg.FIO_CH_ANA n c (fun _ => wd (meanNat l))).mod Reg.FIO_IN n 0
        (fun i => putBit i c false))
  else w.map (fun u => u.mod Reg.FIO_IN n 0 (fun i => putBit i c (decide (5 ≤ m) && r.back.getLsbD c)))

/-! ## Commanded values and drivers (R335–R338, R342) -/

/-- What the module gives a group for its outputs: the Chain-slaved word of the group when an accepted frame stands
(R273), and whether OSRC 2 outputs are off. -/
structure SlavedIn where
  word : Option (BitVec 16)
  off  : Bool

/-- The commanded value of a lead or single output (R335). -/
def Fio.commanded (u : Fio) (n c : Nat) (sl : SlavedIn) : Bool :=
  let src := bits (u.cfg n c) 9 8
  if src = 0 then rbit u.regs (rk Reg.FIO_OUT n 0) c
  else if src = 1 then rbit u.regs (rk Reg.FIO_OUT_BLK n 0) 31 && (u.group n).word1.getLsbD c
  else if src = 2 then !sl.off && (match sl.word with | some w => w.getLsbD c | none => false)
  else false

/-- The members of the set led by channel c (R338), the lead included. -/
def Fio.members (u : Fio) (n c : Nat) : List Nat :=
  c :: ((upto (bits (u.cfg n c) 11 10)).map (fun i => c + 1 + i)).filter (fun j => decide (j < 16) && u.mode n j == 6)

/-- Drivers of a set switched (R338). -/
def Fio.drive (u : Fio) (n c : Nat) (on : Bool) : Fio :=
  let g := u.group n
  u.putGroup n { g with drv := (u.members n c).foldl (fun m j => put16 m j on) g.drv }

/-- The divider pulse of a channel advanced by one refresh (R342): whether the output is high. -/
def FieldChan.tick (x : FieldChan) (width : Nat) : FieldChan :=
  if 1 < x.high then { x with high := x.high - 1 }
  else if x.high = 1 then { x with high := 0, low := width }
  else if 1 < x.low then { x with low := x.low - 1 }
  else if 0 < x.pulses then { x with low := 0, pulses := x.pulses - 1, high := width }
  else { x with low := 0 }

/-- DIV_W of a channel, at least 1. -/
def Fio.divW (u : Fio) (n c : Nat) : Nat := max 1 (rfld u.regs (rk Reg.FIO_CH_AUX n c) 24 21)

/-- The drams in use of a group's pool (R336): the shares of outputs on, divider channels included, and the grants in
force. -/
def Fio.poolUsed (u : Fio) (n : Nat) : Nat :=
  let g := u.group n
  let shares := (upto 16).map (fun c =>
    if (u.mode n c = 5 ∧ g.drv.getLsbD c) ∨ u.mode n c = 7 then u.irate n c else 0)
  shares.foldl (· + ·) 0 + (g.grants.map (fun x => x.2.2)).foldl (· + ·) 0

/-- A switch-on granted at a refresh (R336). -/
def Fio.switchOn (n : Nat) (now : Int) (u : Fio) (c : Nat) : Fio :=
  let u := u.drive n c true
  let g := u.group n
  u.putGroup n { g with
    grants := (c, now + 10000000, u.iinr n c) :: g.grants.filter (fun x => x.1 != c)
    waiting := put16 g.waiting c false
    granted := g.granted + 1 }

/-- Whether the switch-on of channel c fits the pool of 480 drams (R336). -/
def Fio.fits (u : Fio) (n c : Nat) : Bool := decide (u.poolUsed n + u.irate n c + u.iinr n c ≤ 480)

/-- The switch-ons wanted at a refresh, in the order of R26 from the tie token: each that fits is granted, the others wait.
Log entry 66 (DEDUCED). -/
def Fio.grantAll (n : Nat) (now : Int) (want : List Nat) (w : W Fio) : W Fio :=
  let total := (want.map (fun c => w.u.irate n c + w.u.iinr n c)).foldl (· + ·) 0
  let fit := decide (w.u.poolUsed n + total ≤ 480)
  let ord : List Nat × Nat := if fit then (want, (w.u.group n).token) else tieOrder 16 (w.u.group n).token want
  let w := w.map (fun u => u.putGroup n { u.group n with token := ord.2 })
  let one := fun (w : W Fio) (c : Nat) =>
    if w.u.fits n c then w.map (fun u => Fio.switchOn n now u c)
    else
      let g := w.u.group n
      let new := !g.waiting.getLsbD c
      let onset := g.waiting == 0#16
      let w := w.map (fun u => u.putGroup n { g with waiting := put16 g.waiting c true })
      let w := w.when new (·.map (fun u => u.mod Reg.FIO_CNT_OVL n 0 (fun x => incSatField x 31 16)))
      w.when onset (·.code (Pg.FIO + n) 0x1F15 [wd c])
  ord.1.foldl one w

/-- The outputs of a group at a good refresh (R335–R342). -/
def Fio.outputs (n : Nat) (now : Int) (sl : SlavedIn) (w : W Fio) : W Fio :=
  let uv := rbit w.u.regs (rk Reg.FIO_STAT n 0) 1
  let leads := (upto 16).filter (fun c => w.u.mode n c == 5)
  -- a channel that waits or is blocked is released once its commanded value has been 0 (R337, R340)
  let release := fun (u : Fio) (c : Nat) =>
    if u.commanded n c sl then u
    else
      let g := u.group n
      let ovl := rbit u.regs (rk Reg.FIO_FAULT n 0) c
      (u.putGroup n { g with blocked := if ovl then g.blocked else put16 g.blocked c false, waiting := put16 g.waiting c false }).mod
        Reg.FIO_OUT_RB n 0 (fun x => putBit x (16 + c) false)
  let w := w.map (fun u => leads.foldl release u)
  let u := w.u
  let g := u.group n
  let may := fun (c : Nat) => u.commanded n c sl && !uv && !g.blocked.getLsbD c && !rbit u.regs (rk Reg.FIO_OUT_RB n 0) (16 + c)
  let w := w.map (fun u => (leads.filter (fun c => !may c)).foldl (fun u c => u.drive n c false) u)
  let w := Fio.grantAll n now (leads.filter (fun c => may c && !g.drv.getLsbD c)) w
  let div := fun (u : Fio) (c : Nat) =>
    let g := u.group n
    let x := (g.chan c).tick (u.divW n c)
    u.putGroup n { g.putChan c x with drv := put16 g.drv c (decide (0 < x.high) && !uv) }
  let w := w.map (fun u => ((upto 16).filter (fun c => u.mode n c == 7)).foldl div u)
  w.map (fun u => u.mod Reg.FIO_STAT n 0 (fun x => putBit x 4 (decide ((u.group n).waiting ≠ 0#16))))

/-! ## L+ (R340) and silence (R339) -/

/-- Every output commanded on waits for a new command: its WAIT bit. Log entry 65 (DEDUCED). -/
def Fio.waitAll (n : Nat) (sl : SlavedIn) (u : Fio) : Fio :=
  ((upto 16).filter (fun c => u.mode n c == 5 && u.commanded n c sl)).foldl (fun u c =>
    u.mod Reg.FIO_OUT_RB n 0 (fun x => putBit x (16 + c) true)) u

/-- L+ measured at a refresh (R340). -/
def Fio.supply (n lplus : Nat) (sl : SlavedIn) (w : W Fio) : W Fio :=
  let page := Pg.FIO + n
  let g := w.u.group n
  let k16 := if lplus < 16000 then min (g.below16 + 1) 3 else 0
  let k12 := if lplus < 12000 then min (g.below12 + 1) 3 else 0
  let k17 := if 17000 ≤ lplus then min (g.above17 + 1) 50 else 0
  let sag := rbit w.u.regs (rk Reg.FIO_STAT n 0) 0
  let uv := rbit w.u.regs (rk Reg.FIO_STAT n 0) 1
  let w := w.map (fun u => (u.putGroup n { g with below16 := k16, below12 := k12, above17 := k17 }).mod Reg.FIO_LPLUS n 0
    (fun _ => wd (lplus % 65536)))
  let w := w.when (decide (k16 = 3) && !sag) (fun w =>
    ((w.map (fun u => u.mod Reg.FIO_STAT n 0 (fun x => putBit x 0 true))).evt page 0).code page 0x1F10 [])
  let w := w.when (decide (k12 = 3) && !uv) (fun w =>
    ((w.map (fun u => (u.mod Reg.FIO_STAT n 0 (fun x => putBit x 1 true)).putGroup n { u.group n with drv := 0 })).evt page 1).code
      page 0x2F11 [])
  w.when (decide (k17 = 50) && (sag || uv)) (fun w =>
    let w := w.map (fun u => u.mod Reg.FIO_STAT n 0 (fun x => putBit (putBit x 0 false) 1 false))
    let w := w.when (uv && !rbit w.u.regs (rk Reg.FIO_CTRL n 0) 0) (·.map (Fio.waitAll n sl))
    (w.evt page 2).code page 0x0F12 [])

/-- The first good refresh after a silence (R339). Log entry 65 (DEDUCED). -/
def Fio.resume (n : Nat) (now : Int) (sl : SlavedIn) (w : W Fio) : W Fio :=
  let page := Pg.FIO + n
  let g := w.u.group n
  let w := w.map (fun u => (u.putGroup n { g with holding := none, expired := false, missed := 0 }).mod Reg.FIO_STAT n 0
    (fun x => putBit x 2 false))
  let w := match g.holding with
    | some t => (w.evt page 6).code page 0x2F17 [wd (fdiv (now - t) 1000000).toNat]
    | none => w
  let w := w.when g.expired (fun w =>
    ((w.map (fun u => (Fio.waitAll n sl u).mod Reg.FIO_STAT n 0 (fun x => putBit x 3 true))).evt page 6).code page 0x3F18 [])
  let clear := rbit w.u.regs (rk Reg.FIO_STAT n 0) 3 && rfld w.u.regs (rk Reg.FIO_OUT_RB n 0) 31 16 == 0 && !g.expired
  w.when clear (·.map (fun u => u.mod Reg.FIO_STAT n 0 (fun x => putBit x 3 false)))

/-! ## The refresh (R331) -/

/-- Time-match captures delivered at the first refresh at or after the firing (R334). -/
def Fio.capture (n : Nat) (w : W Fio) : W Fio :=
  let g := w.u.group n
  let v := rfld w.u.regs (rk Reg.FIO_IN n 0) 15 0
  (g.captures.foldl (fun w t => w.sample ⟨0x50 + n, 0x200, t, (v : Int)⟩) w).map (fun u =>
    u.putGroup n { u.group n with captures := [] })

/-- A refresh of group n (R331, R333–R342). A frame that failed its CRC leaves the previous values and is counted. -/
def Fio.refresh (n : Nat) (good : Bool) (now : Int) (r : RefreshIn) (sl : SlavedIn) (u : Fio) : W Fio :=
  if !good then
    let g := u.group n
    W.of ((u.putGroup n { g with missed := min (g.missed + 1) 3 }).mod Reg.FIO_CNT_LINK n 0 (fun x => incSatField x 15 0))
  else
    let w := Fio.resume n now sl (W.of u)
    let w := w.map (fun u => u.putGroup n { u.group n with
      lastGood := now, grants := (u.group n).grants.filter (fun x => decide (now < x.2.1)) })
    let w := w.map (fun u => u.mod Reg.FIO_OUT_RB n 0 (fun x => putBits x 15 0 r.back.toNat))
    let w := (upto 16).foldl (Fio.inputSide n now r) w
    let w := Fio.supply n r.lplus sl w
    Fio.capture n (Fio.outputs n now sl w)

/-- LOGIC_SIDE_SILENT (R339): three consecutive refreshes failed or missing at the logic side. -/
def Fio.silent (n : Nat) (u : Fio) : W Fio :=
  if rbit u.regs (rk Reg.FIO_STAT n 0) 2 then W.of u
  else
    let u := (u.mod Reg.FIO_STAT n 0 (fun x => putBit x 2 true)).mod Reg.FIO_CNT_LINK n 0 (fun x => incSatField x 31 16)
    ((W.of u).evt (Pg.FIO + n) 5).code (Pg.FIO + n) 0x2F16 []

/-- GROUP_SIDE_HOLD (R339): every driver holds its state. -/
def Fio.hold (n : Nat) (now : Int) (u : Fio) : Fio :=
  let g := u.group n
  if g.holding.isSome then u else u.putGroup n { g with holding := some now }

/-- HOLD_EXPIRY (R339): HOLD_S seconds have passed in the hold, and every driver switches off. Log entry 7 (DESIGN CHOICE). -/
def Fio.holdExpiry (n : Nat) (now : Int) (u : Fio) : Fio :=
  let g := u.group n
  let lim : Int := (rfld u.regs (rk Reg.FIO_CTRL n 0) 13 8 : Nat)
  match g.holding with
  | some t => if lim ≠ 0 ∧ lim * 1000000000 ≤ now - t then u.putGroup n { g with drv := 0, expired := true } else u
  | none => u

/-- The lead of the set channel c belongs to. -/
def Fio.lead (u : Fio) (n c : Nat) : Nat := ((upto 16).find? (fun l => u.mode n l == 5 && (u.members n l).contains c)).getD c

/-- OUTPUT_OVERLOAD (R337). -/
def Fio.overload (n c : Nat) (u : Fio) : W Fio :=
  let l := u.lead n c
  let g := u.group n
  if g.drv.getLsbD l then
    let u := u.drive n l false
    let g := u.group n
    let u := u.putGroup n { g with blocked := put16 g.blocked l true, grants := g.grants.filter (fun x => x.1 != l) }
    let u := (u.mod Reg.FIO_FAULT n 0 (fun x => putBit x l true)).mod Reg.FIO_CNT_OVL n 0 (fun x => incSatField x 15 0)
    ((W.of u).evt (Pg.FIO + n) 3).code (Pg.FIO + n) 0x2F13 [wd l]
  else W.of u

/-- OPEN_LOAD (R337): an output that is on, with OPEN_EN. -/
def Fio.openLoad (n c : Nat) (u : Fio) : W Fio :=
  if bit (u.cfg n c) 7 && (u.group n).drv.getLsbD c && !rbit u.regs (rk Reg.FIO_FAULT n 0) (16 + c) then
    ((W.of (u.mod Reg.FIO_FAULT n 0 (fun x => putBit x (16 + c) true))).evt (Pg.FIO + n) 4).code (Pg.FIO + n) 0x1F14 [wd c]
  else W.of u

/-- INRUSH_GRANT_EXPIRY (R398): a grant 10 ms old ends. -/
def Fio.grantEnd (n c : Nat) (now : Int) (u : Fio) : Fio :=
  let g := u.group n
  u.putGroup n { g with grants := g.grants.filter (fun x => x.1 != c || decide (now < x.2.1)) }

/-- Writes of FIOn_OUT_SET and FIOn_OUT_CLR (R335). -/
def Fio.outSet (n : Nat) (v : Word) (u : Fio) : Fio := u.mod Reg.FIO_OUT n 0 (fun x => x ||| (v &&& 0xFFFF#32))
/-- A write of FIOn_OUT_CLR (R335). -/
def Fio.outClr (n : Nat) (v : Word) (u : Fio) : Fio := u.mod Reg.FIO_OUT n 0 (fun x => x &&& ~~~(v &&& 0xFFFF#32))

/-- A divider pulse of a POS channel, for every channel in MODE 7 that repeats it (R342). -/
def Fio.divPulse (pos : Nat) (w : W Fio) (nc : Nat × Nat) : W Fio :=
  let n := nc.1
  let c := nc.2
  let u := w.u
  if u.mode n c = 7 ∧ rfld u.regs (rk Reg.FIO_CH_AUX n c) 20 16 = pos then
    let g := u.group n
    let x := g.chan c
    if x.pulses < 15 then w.map (fun u => u.putGroup n (g.putChan c { x with pulses := x.pulses + 1 }))
    else
      let onset := decide (rget u.regs (rk Reg.FIO_CH_CNT n c) = 0)
      let w := w.map (fun u => u.mod Reg.FIO_CH_CNT n c incW)
      w.when onset (fun w => (w.evt (Pg.FIO + n) 7).code (Pg.FIO + n) 0x1F1A [wd c])
  else w

/-- All channels of all groups. -/
def allChans : List (Nat × Nat) := (upto 12).flatMap (fun n => (upto 16).map (fun c => (n, c)))

/-- The OSRC 1 word of a group read at a fathom start (R335). Log entry 66 (DEDUCED). -/
def Fio.readWord1 (s : State) (n : Nat) (w : W Fio) : W Fio :=
  let b := rget w.u.regs (rk Reg.FIO_OUT_BLK n 0)
  if bit b 31 then
    let a := s.visible (bits b 18 0) + 4 * bits b 26 19
    let w := w.readN s.mem (Pg.FIO + n) (a / 32 * 32) 1
    if s.mem.isBad a then w.code (Pg.FIO + n) 0x20C3 []
    else w.map (fun u => u.putGroup n { u.group n with word1 := BitVec.ofNat 16 (s.mem.readWord a).toNat })
  else w

/-! ## The LATCH (R334) -/

/-- The input pair of a group when enabled: its block; a half has one block. -/
def Fio.inPair (u : Fio) (n : Nat) : Option Nat :=
  let b := rget u.regs (rk Reg.FIO_IN_BLK n 0)
  if bit b 31 then some (bits b 18 0) else none

/-- The input record of a group at a LATCH with ARG[0], and its samples (R334). -/
def Fio.latch (s : State) (w : W Fio) (n : Nat) : W Fio :=
  let u := w.u
  match u.inPair n with
  | none => w
  | some blk =>
    let g := u.group n
    let words := [wd (rfld u.regs (rk Reg.FIO_IN n 0) 15 0), wd (g.rising.toNat + 65536 * g.falling.toNat),
      wd (rfld u.regs (rk Reg.FIO_OUT_RB n 0) 15 0 + 65536 * rfld u.regs (rk Reg.FIO_FAULT n 0) 15 0),
      rget u.regs (rk Reg.FIO_STAT n 0), rget u.regs (rk Reg.FIO_LPLUS n 0), lo32 g.lastGood, hi32 g.lastGood, s.fno]
    (w.store (Pg.FIO + n) (s.hidden blk 1) (wordsBytes words)).map (fun u => u.putGroup n { u.group n with rising := 0, falling := 0 })

/-- The samples of a group's COUNTER and ANALOGUE channels and of L+ at a LATCH (R334). Log entry 65 (DEDUCED). -/
def Fio.latchSamples (w : W Fio) (n : Nat) : W Fio :=
  let u := w.u
  let g := u.group n
  let one := fun (w : W Fio) (c : Nat) =>
    if u.mode n c = 3 then w.sample ⟨0x50 + n, c, g.lastGood, sw (rget u.regs (rk Reg.FIO_CH_CNT n c))⟩
    else if u.mode n c = 4 then w.sample ⟨0x50 + n, 0x100 + c, g.lastGood, (rfld u.regs (rk Reg.FIO_CH_ANA n c) 15 0 : Nat)⟩
    else w
  let w := (upto 16).foldl one w
  w.when (rbit u.regs (rk Reg.FIO_IN_BLK n 0) 31) (·.sample ⟨0x50 + n, 0x201, g.lastGood, (rfld u.regs (rk Reg.FIO_LPLUS n 0) 15 0 : Nat)⟩)

/-- A time match with ACTION 4 on a group (R293, R334). -/
def Fio.captureAt (n : Nat) (t : Int) (u : Fio) : Fio :=
  let g := u.group n
  u.putGroup n { g with captures := g.captures ++ [t] }

/-- The group side held in reset (R332), or let out of it; counts start at 0 when the module leaves CONFIG (R334). -/
def Fio.setReset (on : Bool) (u : Fio) (n : Nat) : Fio :=
  if on then
    (u.putGroup n FieldGroup.fresh).mod Reg.FIO_STAT n 0 (fun x => putBit (x &&& 0xFFFF0000#32) 5 true)
  else
    (upto 16).foldl (fun u c => u.mod Reg.FIO_CH_CNT n c (fun _ => 0)) (u.mod Reg.FIO_STAT n 0 (fun x => putBit x 5 false))

/-! ## Leaving CONFIG (R330) -/

/-- The range of blocks of a group's pairs: input one block per half, output by its word. Log entry 65 (DEDUCED). -/
def Fio.pairRanges (u : Fio) (n : Nat) : List (Nat × Nat) :=
  let i := rget u.regs (rk Reg.FIO_IN_BLK n 0)
  if bit i 31 then [(bits i 18 0, 2)] else []

/-- The channel of the first check of R330 that fails. `safe` are the channels designated safety inputs. -/
def Fio.exitCheck (safe : Word) (ioMember : Bool) (n : Nat) (u : Fio) : Option Nat :=
  let chans := upto 16
  let inSet := fun (c : Nat) => chans.any (fun l => u.mode n l == 5 && decide (l < c) && decide (c ≤ l + bits (u.cfg n l) 11 10))
  let badSet := fun (c : Nat) =>
    (u.mode n c == 5 && (decide (16 ≤ c + bits (u.cfg n c) 11 10) || (upto (bits (u.cfg n c) 11 10)).any (fun i => u.mode n (c + 1 + i) != 6)))
    || (u.mode n c == 6 && !inSet c)
  match chans.find? (fun c => bit safe c && u.mode n c != 1 && u.mode n c != 2) with
  | some c => some c
  | none => match chans.find? badSet with
    | some c => some c
    | none => match chans.find? (fun c => u.mode n c == 5 && bits (u.cfg n c) 9 8 == 2 && !ioMember) with
      | some c => some c
      | none => match chans.find? (fun c => u.mode n c == 7 && decide (23 < rfld u.regs (rk Reg.FIO_CH_AUX n c) 20 16)) with
        | some c => some c
        | none =>
          let used := chans.filter (fun c => u.mode n c == 5 || u.mode n c == 7)
          if 120 < (used.map (u.irate n)).foldl (· + ·) 0 then some (used.getLastD 0) else none

end Sys2Proof.Machine
end

