-- ==== Sys2Proof/Machine/Firkins.lean ====
section
/-! DEFINITION. The firkins (R28–R35): pushes, commits, drops, pops and flushes. -/

namespace Sys2Proof.Machine

/-- What a firkin nothing has touched is. -/
def firkinDefault (_ : Nat) : Firkin := Firkin.empty

/-- Firkin n. -/
def Fq.firkin (u : Fq) (n : Nat) : Firkin := sget firkinDefault u.fifo n

/-- FQ_CFG of firkin n. -/
def Fq.cfg (u : Fq) (n : Nat) : Word := rget u.regs (rk Reg.FQ_CFG 0 n)

/-- The depth of firkin n in words (R28). -/
def Fq.depth (u : Fq) (n : Nat) : Nat := (bits (u.cfg n) 4 1 + 1) * 256

/-- FQ_STAT of a firkin (R36). -/
def Firkin.stat (f : Firkin) : Word :=
  wd (f.committed.length + 0x2000 * b2n (decide (f.opened ≠ [])) + 0x10000 * f.opened.length)

/-- Firkin n set, with its FQ_STAT. -/
def Fq.put (u : Fq) (n : Nat) (f : Firkin) : Fq :=
  { u with
    fifo := sset firkinDefault u.fifo n f
    regs := rset u.regs (rk Reg.FQ_STAT 0 n) f.stat }

/-- The cell and bit of firkin n in a pair of bitmap registers whose first is r. -/
def fqBitmap (r n : Nat) : Nat := r + 4 * (n / 32)

/-- A bit of firkin n in a pair of bitmap registers set to b. Log entry 87 (DESIGN CHOICE). -/
def Fq.setFlag (u : Fq) (r n : Nat) (b : Bool) : Fq :=
  { u with regs := rmod u.regs (fqBitmap r n) (fun w => putBit w (n % 32) b) }

/-- Whether a flush of firkin n is pending (R33). -/
def Fq.flushing (u : Fq) (n : Nat) : Bool := rbit u.regs (fqBitmap Reg.FQ_FLUSH0 n) (n % 32)

/-- The flush takes effect: every committed word is discarded and the bit reads 0 (R33). -/
def Fq.flush (u : Fq) (n : Nat) : Fq :=
  (u.put n { u.firkin n with committed := [] }).setFlag Reg.FQ_FLUSH0 n false

/-- The commit of the open packet (R30, R34): PKTS, the notice bit, the notice to a program core, and a pending flush
after it (R35). -/
def Fq.commit (n : Nat) (w : W Fq) : W Fq :=
  let f := w.u.firkin n
  let w := w.map (fun u => u.put n { f with committed := f.committed ++ f.opened, opened := [] })
  let w := w.map (fun u => { u with regs := rmod u.regs (rk Reg.FQ_COUNT 0 n) (fun c => incWrapField c 15 0) })
  let w := w.map (fun u => u.setFlag Reg.FQ_NOTICE0 n true)
  let en := rbit w.u.regs (fqBitmap Reg.FQ_NOTICE_EN0 n) (n % 32)
  let w := w.when en (·.trigger ⟨1, n, 0⟩)
  w.map (fun u => if u.flushing n then u.flush n else u)

/-- One word pushed into firkin n by a unit (R29, R30): last for FIRKIN_PUSH_END. Log entry 19 (DEDUCED). -/
def Fq.push (unit n : Nat) (x : Word) (last : Bool) (bad : BitVec 4) (w : W Fq) : W Fq :=
  let u := w.u
  let f := u.firkin n
  if bits (u.cfg n) 15 8 ≠ unit ∨ unit = 0 then w.code Pg.FQ 0x30E4 [wd n]
  else if bit (u.cfg n) 0 = false then w.code Pg.FQ 0x10E2 [wd n]
  else if f.dropping then w.map (fun u => u.put n { f with dropping := !last })
  else if u.depth n ≤ f.committed.length + f.opened.length then
    let w := w.map (fun u => u.put n { f with opened := [], dropping := !last })
    let w := w.map (fun u => { u with regs := rmod u.regs (rk Reg.FQ_COUNT 0 n) (fun c => incSatField c 31 16) })
    (w.map (fun u => u.setFlag Reg.FQ_OVF0 n true)).code Pg.FQ 0x10E1 [wd n]
  else
    let w := w.map (fun u => u.put n { f with opened := f.opened ++ [⟨x, last, bad⟩] })
    if last then Fq.commit n w else w

/-- The words of a packet pushed in order, the last with FIRKIN_PUSH_END; a word of a poisoned block is stored with
all four parity bits inverted (R31). -/
def Fq.pushWords (unit n : Nat) : List (Word × Bool) → W Fq → W Fq
  | [], w => w
  | [(x, p)], w => Fq.push unit n x true (if p then 15#4 else 0#4) w
  | (x, p) :: y :: xs, w => Fq.pushWords unit n (y :: xs) (Fq.push unit n x false (if p then 15#4 else 0#4) w)

/-- A whole packet pushed by a unit (R30). -/
def Fq.pushPacket (w : W Fq) (p : Push) : W Fq := Fq.pushWords p.unit p.firkin p.words w

/-- The 64-bit word of a pop (R31): its low and its high half. Log entry 19 (DEDUCED). -/
def popWord (q : QWord) (remain : Nat) : List Word :=
  [q.word, wd (1 + 2 * b2n q.last + 4 * b2n (decide (q.bad ≠ 0)) + 0x10000 * remain)]

/-- A FIRKIN_POP by a unit (R29, R31, R32): the word read, and the firkin after it. `upset` are parity bits that an
upset of the buffer has turned in the word taken. Log entry 19 (DEDUCED). -/
def Fq.pop (unit n : Nat) (upset : BitVec 4) (w : W Fq) : W Fq :=
  let f := w.u.firkin n
  if bits (w.u.cfg n) 23 16 ≠ unit ∨ unit = 0 then (w.code Pg.FQ 0x30E4 [wd n]).emit (.readData [0, 0])
  else
    match f.committed with
    | [] => w.emit (.readData [0, 0])
    | q :: qs =>
      let q := { q with bad := q.bad ^^^ upset }
      let w := w.map (fun u => u.put n { f with committed := qs })
      let w := w.when (decide (q.bad ≠ 0)) (fun w =>
        w.map (fun u => { u with regs := rmod u.regs (rk Reg.FQ_PERR 0 n) (fun c => incSatField c 15 0) }))
      w.emit (.readData (popWord q qs.length))

/-- The flush requests of a write of FQ_FLUSH0 or FQ_FLUSH1 (R33): at once where no packet is open. -/
def Fq.flushRequest (half : Nat) (v : Word) (u : Fq) : Fq :=
  (upto 32).foldl (fun u i =>
    if bit v i then
      let n := 32 * half + i
      let u := u.setFlag Reg.FQ_FLUSH0 n true
      if (u.firkin n).opened = [] then u.flush n else u
    else u) u

/-- FQ_CFG.EN of firkin n cleared (R30, R33): every word it holds is discarded and a pending flush completes. -/
def Fq.disable (n : Nat) (u : Fq) : Fq := (u.put n Firkin.empty).setFlag Reg.FQ_FLUSH0 n false

/-- The sum of the depths of the enabled firkins (R28, FQ_DEPTH_SUM). -/
def Fq.depthSum (u : Fq) : Nat :=
  ((u.regs.filter (fun e => e.1 % 0x20000 == Reg.FQ_CFG && bit e.2 0)).map
    (fun e => u.depth (e.1 / 0x20000))).foldl (· + ·) 0

/-- Whether any firkin is enabled (R36, PAGE_STAT). -/
def Fq.anyEnabled (u : Fq) : Bool := u.regs.any (fun e => e.1 % 0x20000 == Reg.FQ_CFG && bit e.2 0)

/-- The counters of R21 for a read of the block at an address with an outcome other than sound (R21, R22, R36). -/
def Fq.countRead (addr : Nat) (o : ReadOutcome) (u : Fq) : Fq :=
  let i := codeIndexOf addr
  let inc := fun (u : Fq) (r : Nat) => { u with regs := rmod u.regs (rk r 0 i) incW }
  let u := if o.didCorrect then inc u Reg.FQ_CODE_CORR else u
  let u := match o with
    | .uncorrectable => inc u Reg.FQ_CODE_UNCORR
    | .addressFault _ => inc u Reg.FQ_CODE_UNCORR
    | .poisoned _ => inc u Reg.FQ_CODE_POISON
    | .corrected _ => u
    | .sound => u
  match o with
  | .sound => u
  | _ => { u with regs := rset u.regs (rk Reg.FQ_CODE_ADDR 0 i) (wd (blockAddrOf addr % 0x8000000)) }

/-- Whether a read writes the corrected block back (R22). -/
def Fq.writesBack (u : Fq) (addr : Nat) (o : ReadOutcome) : Bool :=
  (match o with | .corrected _ => true | _ => false) && rbit u.regs (rk Reg.FQ_CODE_CTRL 0 (codeIndexOf addr)) 0

/-- FQ_CODE_WB of a memory, one more (R22). -/
def Fq.countBack (addr : Nat) (u : Fq) : Fq :=
  { u with regs := rmod u.regs (rk Reg.FQ_CODE_WB 0 (codeIndexOf addr)) incW }

end Sys2Proof.Machine
end

