-- ==== Sys2Proof/Machine/Fusion.lean ====
section
/-! DEFINITION. FUS: point datagrams, binning, the feature network, registration, tracks and the UPDATE span
(R106–R134). -/

namespace Sys2Proof.Machine

/-- Bases of the FUS memory layout (R114). -/
abbrev fusGrid    : Nat := 0x52000000
abbrev fusPlaneA  : Nat := 0x53000000
abbrev fusPlaneB  : Nat := 0x53200000
abbrev fusWeights : Nat := 0x53400000
abbrev fusMaps    : Nat := 0x53800000
abbrev fusHeader  : Nat := 0x53C00000
abbrev fusMapDir  : Nat := 0x53C01000

/-- FUS0_SC_CFG of a scanner slot. -/
def Fus.cfg (u : Fus) (k : Nat) : Word := rget u.regs (rk Reg.FUS0_SC_CFG 0 k)

/-- A register of FUS changed. -/
def Fus.mod (u : Fus) (k : Nat) (f : Word → Word) : Fus := { u with regs := rmod u.regs k f }

/-- A register of FUS set. -/
def Fus.setR (u : Fus) (k : Nat) (v : Word) : Fus := { u with regs := rset u.regs k v }

/-! ## Point datagrams (R106–R110) -/

/-- COUNT of a datagram. -/
def pdCount (d : List Byte) : Nat := beNat (sliceB d 4 2)

/-- The first check of R107 (1–4) that a datagram fails, or the slot it belongs to. Log entry 40 (DEDUCED). -/
def Fus.checkDatagram (u : Fus) (src : Nat) (d : List Byte) : Nat ⊕ Nat :=
  let n := pdCount d
  if d.length ≠ 32 + 8 * n ∨ n = 0 ∨ 180 < n then .inl 1
  else if beNat (sliceB d 0 2) ≠ 0x5350 ∨ byteAt d 2 ≠ 1 then .inl 2
  else match (upto 6).find? (fun k => bit (u.cfg k) 0 && bits (u.cfg k) 4 1 == byteAt d 3
      && (rget u.regs (rk Reg.FUS0_SC_ADDR 0 k)).toNat == src) with
    | none => .inl 3
    | some k => if wd (beNat (sliceB d (28 + 8 * n) 4)) ≠ crc32 (d.take (28 + 8 * n)) then .inl 4 else .inr k

/-- A datagram discarded by a check (R107). -/
def Fus.discard (check : Nat) (w : W Fus) : W Fus :=
  ((w.map (fun u => u.mod Reg.FUS0_CNT_BAD (fun x => if check = 5 then x else incSatField x 15 0))).evt Pg.FUS0 1).code
    Pg.FUS0 0x1510 [wd check]

/-- The point allowance of a fathom (R109). -/
def pointAllowance (lenUs : Nat) : Nat := (12 * lenUs + 4) / 5

/-- A datagram that has passed checks 1–4, taken for slot k with its receive timestamp in fathom f (R108, R109): the
unit after it and whether it was accepted. -/
def Fus.take (k f lenUs : Nat) (stamp : Int) (d : List Byte) (w : W Fus) : W Fus × Bool :=
  let u := w.u
  let seq := beNat (sliceB d 20 4)
  let n := pdCount d
  let g := match u.last.find? (fun e => e.1 == k) with
    | some e => (seq + 4294967296 - e.2) % 4294967296
    | none => 1
  if g = 0 ∨ 2147483648 ≤ g then
    ((Fus.discard 5 w).map (fun u => u.mod (rk Reg.FUS0_SC_CNT 0 k) (fun x => incSatField x 15 0)), false)
  else
    let w := w.map (fun u => if u.rateFno = f then u else { u with rateFno := f, ratePts := 0, rateRec := false })
    if pointAllowance lenUs < w.u.ratePts + n then
      let w2 := (w.map (fun u => (u.mod Reg.FUS0_CNT_BAD (fun x => incSatField x 31 16)))).evt Pg.FUS0 1
      let w2 := w2.when (!w.u.rateRec) (·.code Pg.FUS0 0x1511 [])
      (w2.map (fun u => { u with rateRec := true }), false)
    else
      let w := w.map (fun u => { (u.setR (rk Reg.FUS0_SC_DSEQ 0 k) (wd seq)) with
        ratePts := u.ratePts + n,
        last := (k, seq) :: u.last.filter (fun e => e.1 != k),
        pool := u.pool ++ [⟨k, stamp, sliceB d 28 (8 * n)⟩] })
      let gap := decide (2 ≤ g)
      let w := w.when gap (fun w =>
        ((w.map (fun u => u.mod (rk Reg.FUS0_SC_CNT 0 k) (fun x => putBits x 31 16 (min (bits x 31 16 + g - 1) 0xFFFF)))).evt
          Pg.FUS0 2).code Pg.FUS0 0x1512 [wd k])
      (w, true)

/-- A point datagram on the plant port (R106, R107): the unit after it, and whether it was accepted (for MIRROR_OUT).
Log entry 40 (DEDUCED). -/
def Fus.datagram (src dport : Nat) (frag : Bool) (now : Int) (f lenUs : Nat) (d : List Byte) (u : Fus) : W Fus × Bool :=
  let w := W.of u
  if frag || dport != rfld u.regs Reg.FUS0_PORT 15 0 || !rbit u.regs Reg.FUS0_CTRL 0 then (w, false)
  else match u.checkDatagram src d with
    | .inr k => if bit u.srcSel k then (w, false) else Fus.take k f lenUs now d w
    | .inl 4 =>
      (match (upto 6).find? (fun k => bit (u.cfg k) 0 && bits (u.cfg k) 4 1 == byteAt d 3
        && (rget u.regs (rk Reg.FUS0_SC_ADDR 0 k)).toNat == src) with
       | some k => if bit u.srcSel k then (w, false) else (Fus.discard 4 w, false)
       | none => (Fus.discard 4 w, false))
    | .inl c => (Fus.discard c w, false)

/-- A point datagram that comes through the Chain from member `base` with that member's timestamp (R110, R111): taken
for the slots whose bit in FUS0_SRC_SEL is 1 and whose ORIGIN names the member. -/
def Fus.chainDatagram (base src : Nat) (stamp : Int) (startUs : Int) (lenUs tick f : Nat) (d : List Byte) (u : Fus) :
    W Fus :=
  let w := W.of u
  if !rbit u.regs Reg.FUS0_CTRL 0 then w
  else match u.checkDatagram src d with
    | .inr k =>
      if !bit u.srcSel k || bits (u.cfg k) 23 16 != base then w
      else
        let back := fathomsBackOf startUs lenUs stamp
        if 2 ≤ back ∨ (back = 1 ∧ rfld u.regs Reg.FUS0_BIN_AT 14 0 < tick) then
          ((w.map (fun u => u.mod Reg.FUS0_CNT_LATE (fun x => incSatField x 15 0))).evt Pg.FUS0 3).code Pg.FUS0 0x1513 [wd k]
        else (Fus.take k (f - back) lenUs stamp d w).1
    | .inl c => Fus.discard c w
where
  /-- How many fathoms before the present one an instant lies. -/
  fathomsBackOf (startUs : Int) (lenUs : Nat) (t : Int) : Nat :=
    (fdiv (1000 * startUs - t + 1000 * lenUs - 1) (1000 * lenUs)).toNat

/-! ## Binning (R111, R112) -/

/-- Three coordinates. -/
abbrev P3 := Int × Int × Int

/-- A point turned about x, then y, then z by binary angles, every product kept whole: the result is scaled by 2^90. -/
def rot3 (roll pitch yaw : Int) (p : P3) : P3 :=
  let (x, y, z) := p
  let one : Int := 1073741824
  let cr := binCos roll
  let sr := binSin roll
  let cp := binCos pitch
  let sp := binSin pitch
  let cy := binCos yaw
  let sy := binSin yaw
  let x1 := x * one
  let y1 := y * cr - z * sr
  let z1 := y * sr + z * cr
  let x2 := x1 * cp + z1 * sp
  let y2 := y1 * one
  let z2 := z1 * cp - x1 * sp
  (x2 * cy - y2 * sy, x2 * sy + y2 * cy, z2 * one)

/-- The vessel's position and attitude that binning takes from the estimate (R111): N, E, ψ, roll, pitch. -/
structure Attitude where
  n : Int
  e : Int
  psi : Int
  roll : Int
  pitch : Int
  deriving DecidableEq, Repr

/-- Where a point of slot k lies (R112): north, east and height in units of Q21.10 m / (25 × 2^180). Log entry 40 (DEDUCED). -/
def Fus.place (u : Fus) (k : Nat) (a : Attitude) (p : P3) : P3 :=
  let ang := fun r => ((rget u.regs (rk r 0 k)).toNat : Int)
  let lev := fun r => 25 * sw (rget u.regs (rk r 0 k)) * (2 ^ 90 : Nat)
  let b := rot3 (ang Reg.FUS0_SC_ROLL) (ang Reg.FUS0_SC_PITCH) (ang Reg.FUS0_SC_YAW)
    (128 * p.1, 128 * p.2.1, 128 * p.2.2)
  let b := (b.1 + lev Reg.FUS0_SC_LEV_X, b.2.1 + lev (Reg.FUS0_SC_LEV_X + 4), b.2.2 + lev (Reg.FUS0_SC_LEV_X + 8))
  let e := rot3 a.roll a.pitch a.psi b
  (e.1 + 25 * a.n * (2 ^ 180 : Nat), e.2.1 + 25 * a.e * (2 ^ 180 : Nat), -e.2.2)

/-- Cells changed by a binning: cell index → HITS, HMAX. -/
abbrev CellMap := List (Nat × (Nat × Int))

/-- What a binning has gathered: changed cells, points binned, slots that contributed, points outside. -/
structure Binned where
  cells : CellMap
  pts   : Nat
  slots : Nat
  out   : Nat
  deriving DecidableEq, Repr

/-- HITS and HMAX of a cell of a plane as stored. -/
def planeCell (m : Mem) (base idx : Nat) : Nat × Int :=
  ((m.readByte (base + 2 * idx)).toNat, signed 8 (m.readByte (base + 2 * idx + 1)).toNat)

/-- One point binned (R112). Log entry 40 (DEDUCED). -/
def Fus.binPoint (m : Mem) (u : Fus) (plane : Nat) (c : Int × Int) (a : Attitude) (k : Nat) (pt : List Byte) (b : Binned) :
    Binned :=
  let fl := byteAt pt 7
  let x := signed 16 (beNat (sliceB pt 0 2))
  let y := signed 16 (beNat (sliceB pt 2 2))
  let z := signed 16 (beNat (sliceB pt 4 2))
  let mr : Int := 50 * (bits (u.cfg k) 15 8 : Nat)
  if !fl.testBit 0 || (fl.testBit 1 && !bit (u.cfg k) 5) || decide (x * x + y * y < mr * mr) then b
  else
    let p := u.place k a (x, y, z)
    let unit : Int := 25 * (2 ^ 180 : Nat)
    let q := clampI (-127) 127 (fdiv p.2.2 (128 * unit))
    let i := fdiv (p.1 - c.1 * unit) (256 * unit) + 512
    let j := fdiv (p.2.1 - c.2 * unit) (256 * unit) + 512
    let lo := signed 8 (rfld u.regs Reg.FUS0_HBAND 7 0)
    let hi := signed 8 (rfld u.regs Reg.FUS0_HBAND 15 8)
    if i < 0 ∨ 1023 < i ∨ j < 0 ∨ 1023 < j ∨ q < lo ∨ hi < q then { b with out := b.out + 1 }
    else
      let idx := (i * 1024 + j).toNat
      let old := sget (planeCell m plane) b.cells idx
      { b with cells := sset (planeCell m plane) b.cells idx (min (old.1 + 1) 255, max old.2 q),
               pts := b.pts + 1, slots := b.slots ||| 2 ^ k }

/-- The points of a datagram, eight bytes each. -/
def pointsOf : Nat → List Byte → List (List Byte)
  | 0, _ => []
  | n + 1, bs => bs.take 8 :: pointsOf n (bs.drop 8)

/-- One datagram binned. -/
def Fus.binOne (m : Mem) (u : Fus) (plane : Nat) (c : Int × Int) (a : Attitude) (b : Binned) (d : PointData) : Binned :=
  (pointsOf (d.data.length / 8) d.data).foldl (fun b pt => u.binPoint m plane c a d.slot pt b) b

/-- The filling plane's base (R113). -/
def Fus.filling (u : Fus) : Nat := if u.planeB then fusPlaneB else fusPlaneA

/-- Binning at tick FUS0_BIN_AT (R111): the datagrams received in the previous fathom, with the estimate visible now.
Log entry 94 (DEDUCED). -/
def Fus.binning (m : Mem) (vis : Nat → Nat) (startUs : Int) (u : Fus) : W Fus :=
  let due := u.pool.filter (fun d => decide (d.stamp < 1000 * startUs))
  let w := W.of { u with
    pool := u.pool.filter (fun d => !decide (d.stamp < 1000 * startUs))
    srcSel := rget u.regs Reg.FUS0_SRC_SEL
    mirrorOut := rbit u.regs Reg.FUS0_CTRL 1 }
  let eb := rget u.regs Reg.FUS0_EST_BLK
  let est := vis (bits eb 18 0)
  let w := w.when (bit eb 31) (·.readN m Pg.FUS0 est 9)
  let usable := bit eb 31 && !m.anyBad est 9 && (bits (m.readWord (est + 60)) 2 0 != 0)
  if !rbit u.regs Reg.FUS0_CTRL 0 then w
  else if !usable then
    ((w.map (fun u => { (u.mod Reg.FUS0_CNT_LATE (fun x => putBits x 31 16 (min (bits x 31 16 + due.length) 0xFFFF))) with
      winNo := true })).evt Pg.FUS0 4).code Pg.FUS0 0x1514 []
  else
    let rd := fun i => m.readWord (est + 4 * i)
    let a : Attitude := ⟨sw (rd 0), sw (rd 1), ((rd 2).toNat : Int), radToAngle (sw (rd 68)), radToAngle (sw (rd 69))⟩
    let c := match u.centre with
      | some c => c
      | none => (256 * fdiv a.n 256, 256 * fdiv a.e 256)
    let b := due.foldl (u.binOne m u.filling c a) ⟨[], 0, 0, 0⟩
    let w := w.map (fun u => { (u.mod Reg.FUS0_CNT_OUT (fun x => addSatW x b.out)) with
      centre := some c, winPts := u.winPts + b.pts, winMap := u.winMap ||| b.slots })
    b.cells.foldl (fun w e =>
      w.store Pg.FUS0 (u.filling + 2 * e.1) [BitVec.ofNat 8 e.2.1, BitVec.ofInt 8 e.2.2]) w

/-! ## The feature network (R115–R117) -/

/-- A layer of the network (R116), with the offset of its weights. -/
structure Layer where
  k     : Nat
  cin   : Nat
  cout  : Nat
  act   : Nat
  shift : Nat
  bias  : Nat
  wts   : Nat
  deriving DecidableEq, Repr

/-- The layers that the header block names. -/
def netLayers (m : Mem) : List Layer :=
  ((upto (min (m.readByte (fusHeader + 8)).toNat 6)).foldl (fun (acc : List Layer × Nat) l =>
    let b := fun i => (m.readByte (fusHeader + i + 8 * l)).toNat
    let y : Layer := ⟨b 16, b 17, b 18, b 19, b 20, fusHeader + 64 + 512 * l, fusWeights + acc.2⟩
    (acc.1 ++ [y], acc.2 + y.k * y.k * y.cin * y.cout)) ([], 0)).1

/-- Saturation to an int8. -/
def sat8 (v : Int) : Int := clampI (-128) 127 v

/-- A layer's output channel o at cell (i, j) from its input (R115). -/
def Layer.out (m : Mem) (y : Layer) (inp : Int → Int → Nat → Int) (i j : Int) (o : Nat) : Int :=
  if i < 0 ∨ 1023 < i ∨ j < 0 ∨ 1023 < j then 0
  else
    let h : Int := ((y.k - 1) / 2 : Nat)
    let terms := (upto y.k).flatMap (fun ky => (upto y.k).flatMap (fun kx => (upto y.cin).map (fun c =>
      signed 8 (m.readByte (y.wts + ((o * y.k + ky) * y.k + kx) * y.cin + c)).toNat * inp (i + ky - h) (j + kx - h) c)))
    let acc := terms.foldl (fun a t => sat32 (a + t)) (sw (m.readWord (y.bias + 4 * o)))
    let v := sat8 (roundShift acc y.shift)
    if y.act = 1 then max 0 v else v

/-- The features of a grid (R115). -/
def netOut (m : Mem) (layers : List Layer) (inp : Int → Int → Nat → Int) : Int → Int → Nat → Int :=
  layers.foldl (fun f y => y.out m f) inp

/-- The two input channels of a plane (R115); a poisoned block counts as 16 empty cells (R131). -/
def planeInput (m : Mem) (base : Nat) (i j : Int) (c : Nat) : Int :=
  if i < 0 ∨ 1023 < i ∨ j < 0 ∨ 1023 < j then 0
  else
    let idx := (i * 1024 + j).toNat
    let cell := if m.isBad (base + 2 * idx) then ((0, -128) : Nat × Int) else planeCell m base idx
    if c = 0 then (min cell.1 127 : Nat) else cell.2

/-- The weight bytes a network needs. -/
def netBytes (ls : List Layer) : Nat := ls.foldl (fun a y => a + y.k * y.k * y.cin * y.cout) 0

/-! ## Registration (R119–R121) -/

/-- What registration compares: the map's size and cells, the grid's features and centre, the estimate. -/
structure RegIn where
  wid  : Nat
  hei  : Nat
  map  : Nat → Nat → Nat → Int
  feat : Int → Int → Nat → Int
  cn   : Int
  ce   : Int
  n    : Int
  e    : Int
  psi  : Int

/-- k steps of 0.25° as a binary angle. -/
def quarterDegrees (k : Int) : Int := fdiv (2 * k * 4294967296 + 1440) 2880

/-- The score of a candidate map pose (R120). -/
def regScore (r : RegIn) (x y psi : Int) : Nat :=
  let sums := (upto r.hei).foldl (fun (acc : Int × Int × Int) (row : Nat) => (upto r.wid).foldl (fun (acc : Int × Int × Int) (col : Nat) =>
    let d := rot2 (r.psi - psi) (256 * row + 128 - x, 256 * col + 128 - y)
    let i := fdiv (r.n + d.1 - r.cn) 256 + 512
    let j := fdiv (r.e + d.2 - r.ce) 256 + 512
    (upto 4).foldl (fun (acc : Int × Int × Int) ch =>
      let g := if i < 0 ∨ 1023 < i ∨ j < 0 ∨ 1023 < j then 0 else r.feat i j ch
      let mv := r.map row col ch
      (acc.1 + g * mv, acc.2.1 + g * g, acc.2.2 + mv * mv)) acc) acc) ((0, 0, 0) : Int × Int × Int)
  let p := sums.1.toNat
  let q := (sums.2.1 * sums.2.2).toNat
  if q = 0 then 0 else isqrt (65025 * p * p / q)

/-- A candidate: heading step, offsets in cells, score. -/
structure RegCand where
  k : Int
  a : Int
  b : Int
  s : Nat
  deriving DecidableEq, Repr

/-- The candidates in the order of R121's ties: lowest k, then offsets row-major. -/
def regCands (r : RegIn) (search rot : Nat) (x y psi : Int) : List RegCand :=
  (upto (2 * rot + 1)).flatMap (fun (ki : Nat) => (upto (2 * search + 1)).flatMap (fun (ai : Nat) => (upto (2 * search + 1)).map (fun (bi : Nat) =>
    let k : Int := ki - rot
    let a : Int := ai - search
    let b : Int := bi - search
    ⟨k, a, b, regScore r (x + 256 * a) (y + 256 * b) (psi + quarterDegrees k)⟩)))

/-- The best candidate: the first of the highest score. Log entry 41 (DEDUCED). -/
def bestCand (cs : List RegCand) : RegCand := cs.foldl (fun b c => if b.s < c.s then c else b) (cs.getD 0 ⟨0, 0, 0, 0⟩)

/-- The score at a candidate's neighbour, if it was searched. -/
def scoreAt (cs : List RegCand) (k a b : Int) : Option Int :=
  (cs.find? (fun c => c.k == k && c.a == a && c.b == b)).map (fun c => (c.s : Int))

/-- The parabola on one axis (R121): numerator and denominator of the vertex, s₊ − s₋ and 2s − s₋ − s₊. -/
def parabola (s : Int) (lo hi : Option Int) : Int × Int :=
  match lo, hi with
  | some l, some h => (h - l, 2 * s - l - h)
  | _, _ => (0, 0)

/-- The vertex in units of a step scaled by `step`, at most half a step. -/
def vertex (step : Int) (p : Int × Int) : Int :=
  if p.2 ≤ 0 then 0 else clampI (-(fdiv step 2)) (fdiv step 2) (fdiv (step * p.1 + p.2) (2 * p.2))

/-- What registration gives (R121): pose, variances, flags, scores. -/
structure RegOut where
  x : Int
  y : Int
  psi : Int
  vx : Int
  vy : Int
  vpsi : Int
  cov : Bool
  ambig : Bool
  edge : Bool
  low : Bool
  score : Nat
  score2 : Nat
  deriving DecidableEq, Repr

/-- Whether the pose is VALID (R121). -/
def RegOut.valid (o : RegOut) : Bool := !o.low && !o.edge && !o.ambig

/-- Registration around a predicted map pose (R120, R121). Log entry 41 (DEDUCED). -/
def register (r : RegIn) (search rot regMin ambig : Nat) (x y psi : Int) : RegOut :=
  let cs := regCands r search rot x y psi
  let b := bestCand cs
  let s : Int := b.s
  let px := parabola s (scoreAt cs b.k (b.a - 1) b.b) (scoreAt cs b.k (b.a + 1) b.b)
  let py := parabola s (scoreAt cs b.k b.a (b.b - 1)) (scoreAt cs b.k b.a (b.b + 1))
  let pk := parabola s (scoreAt cs (b.k - 1) b.a b.b) (scoreAt cs (b.k + 1) b.a b.b)
  let far := cs.filter (fun c => decide (2 < (c.k - b.k).natAbs) || decide (2 < (c.a - b.a).natAbs) || decide (2 < (c.b - b.b).natAbs))
  let s2 := far.foldl (fun m c => max m c.s) 0
  let var := fun (p : Int × Int) => if p.2 ≤ 0 then 0 else fdiv (4096 * s + p.2) (2 * p.2)
  let vpsi := if pk.2 ≤ 0 then 0
    else fdiv (2 * (piQ * piQ * 268435456 * s) + 1036800 * pk.2 * (2 ^ 240 : Nat)) (2 * (1036800 * pk.2 * (2 ^ 240 : Nat)))
  { x := x + 256 * b.a + vertex 256 px, y := y + 256 * b.b + vertex 256 py,
    psi := (psi + quarterDegrees b.k + vertex 2982616 pk) % 4294967296,
    vx := var px, vy := var py, vpsi := vpsi,
    cov := decide (0 < px.2) && decide (0 < py.2) && decide (0 < pk.2),
    ambig := far.any (fun c => decide (b.s * ambig ≤ c.s * 256)) ,
    edge := decide (b.a.natAbs = search) || decide (b.b.natAbs = search) || (decide (0 < rot) && decide (b.k.natAbs = rot)),
    low := decide (b.s < regMin), score := b.s, score2 := s2 }

/-! ## Detections and tracks (R123–R127) -/

/-- A detection (R123): the mean of its cells as a sum over `n` cells of (2 i − 1023, 2 j − 1023), its extents, its first
cell's row-major index. -/
structure Det where
  sn    : Int
  se    : Int
  n     : Nat
  extN  : Nat
  extE  : Nat
  first : Nat
  deriving DecidableEq, Repr

/-- Whether two cells (row-major indexes) touch, corners included. -/
def touches (a b : Nat) : Bool :=
  decide (((a / 1024 : Int) - (b / 1024 : Nat)).natAbs ≤ 1) && decide (((a % 1024 : Int) - (b % 1024 : Nat)).natAbs ≤ 1)

/-- A component grown from its cells by the cells that touch it, `fuel` times. -/
def grow : Nat → List Nat → List Nat → List Nat × List Nat
  | 0, comp, rest => (comp, rest)
  | fuel + 1, comp, rest =>
    let add := rest.filter (fun c => comp.any (touches c))
    if add.isEmpty then (comp, rest) else grow fuel (comp ++ add) (rest.filter (fun c => !comp.any (touches c)))

/-- The 8-connected components of a set of cells in row-major order. -/
def components : Nat → List Nat → List (List Nat)
  | 0, _ => []
  | _, [] => []
  | fuel + 1, c :: cs =>
    let g := grow (cs.length + 1) [c] cs
    g.1 :: components fuel g.2

/-- Span of a list of numbers, in cells. -/
def extentOf (l : List Nat) : Nat :=
  l.foldl max 0 + 1 - l.foldl min 1023

/-- The detection of a component. -/
def detOf (comp : List Nat) : Det :=
  { sn := comp.foldl (fun a c => a + (2 * (c / 1024 : Nat) - 1023 : Int)) 0,
    se := comp.foldl (fun a c => a + (2 * (c % 1024 : Nat) - 1023 : Int)) 0,
    n := comp.length, extN := extentOf (comp.map (· / 1024)), extE := extentOf (comp.map (· % 1024)),
    first := comp.foldl min 1048576 }

/-- Whether detection a comes before b (R123): nearer to the grid centre, ties by the first cell. -/
def detBefore (a b : Det) : Bool :=
  let da := (a.sn * a.sn + a.se * a.se) * ((b.n * b.n : Nat) : Int)
  let db := (b.sn * b.sn + b.se * b.se) * ((a.n * a.n : Nat) : Int)
  decide (da < db) || (decide (da = db) && decide (a.first < b.first))

/-- A detection put in order. -/
def insertDet (d : Det) : List Det → List Det
  | [] => [d]
  | e :: es => if detBefore d e then d :: e :: es else e :: insertDet d es

/-- The detections of a feature channel (R123), all of them in order. Log entry 41 (DEDUCED). -/
def detect (feat : Int → Int → Nat → Int) (obj : Nat) (th : Int) (minCells : Nat) : List Det :=
  let cells := (upto 1048576).filter (fun c => decide (th < feat (c / 1024 : Nat) (c % 1024 : Nat) obj))
  (((components cells.length cells).filter (fun c => decide (minCells ≤ c.length))).map detOf).foldl (fun l d => insertDet d l) []

/-- A detection's position in the earth frame, Q21.10 m. -/
def Det.pos (cn ce : Int) (d : Det) : Int × Int :=
  (cn + fdiv (2 * 128 * d.sn + d.n) (2 * d.n), ce + fdiv (2 * 128 * d.se + d.n) (2 * d.n))

/-- A track's predicted position after p µs (R124). -/
def Track.predict (p : Nat) (t : Track) : Int × Int :=
  (t.n + fdiv (2 * t.vn * p + 64000000) 128000000, t.e + fdiv (2 * t.ve * p + 64000000) 128000000)

/-- The cost of a pair: squared distance in cells², rounded to nearest (R124). -/
def pairCost (a b : Int × Int) : Nat :=
  (fdiv ((a.1 - b.1) * (a.1 - b.1) + (a.2 - b.2) * (a.2 - b.2) + 32768) 65536).toNat

/-- The auction's state (R125): prices per detection, what each track holds (none: unassigned; some none: its dummy;
some j: detection j), bids so far. -/
structure Auction where
  price : List Nat
  hold  : List (Option (Option Nat))
  bids  : Nat
  deriving DecidableEq, Repr

/-- The values of a track: each allowed detection with its scaled benefit less the price. -/
def auctionValues (ben : List (Option Nat)) (price : List Nat) : List (Nat × Int) :=
  (upto ben.length).filterMap (fun j => (ben.getD j none).map (fun a => (j, (a : Int) - (price.getD j 0 : Nat))))

/-- One phase of the auction (R125), at most `fuel` rounds. -/
def auctionPhase (ben : List (List (Option Nat))) (eps lim : Nat) : Nat → Auction → Auction
  | 0, a => a
  | fuel + 1, a =>
    match (upto a.hold.length).find? (fun t => (a.hold.getD t none).isNone) with
    | none => a
    | some t =>
      let vs := auctionValues (ben.getD t []) a.price
      let best := vs.foldl (fun (b : Option (Nat × Int)) v =>
        match b with | none => some v | some x => if x.2 < v.2 then some v else b) none
      match best with
      | none => auctionPhase ben eps lim fuel { a with hold := setAt a.hold t (some none) }
      | some (j, v1) =>
        if v1 < 0 then auctionPhase ben eps lim fuel { a with hold := setAt a.hold t (some none) }
        else if lim ≤ a.bids then a
        else
          let v2 := (vs.filter (fun v => v.1 != j)).foldl (fun m v => max m v.2) 0
          let hold := a.hold.map (fun h => if h = some (some j) then none else h)
          auctionPhase ben eps lim fuel
            { price := setAt a.price j (a.price.getD j 0 + (v1 - v2).toNat + eps),
              hold := setAt hold t (some (some j)), bids := a.bids + 1 }

/-- The phases (R125): ε falling by THETA down to 1, assignments cleared and prices kept; the auction and the number of
phases run. Log entry 41 (DEDUCED). -/
def auctionRun (ben : List (List (Option Nat))) (theta lim : Nat) : Nat → Nat → Auction → Nat → Auction × Nat
  | 0, _, a, n => (a, n)
  | fuel + 1, eps, a, n =>
    let a := auctionPhase ben eps lim (lim + 256) { a with hold := a.hold.map (fun _ => none) }
    if eps ≤ 1 ∨ (lim ≤ a.bids ∧ a.hold.any (·.isNone)) then (a, n + 1)
    else auctionRun ben theta lim fuel (max 1 (eps / theta)) a (n + 1)

/-- A track after assignment to a detection at z, or to none (R126); none when it is freed. -/
def Track.after (p alpha beta confN confM missN : Nat) (t : Track) (z : Option (Det × (Int × Int) × Nat)) : Option Track :=
  let pred := t.predict p
  let t : Track := { t with age := satInc 16 t.age }
  let t : Track := match z with
    | some (d, zp, c) =>
      let rn := zp.1 - pred.1
      let re := zp.2 - pred.2
      let t : Track := { t with extN := d.extN, extE := d.extE, cells := min d.n 0xFFFF, cost := min c 0xFFFF, hits := satInc 8 t.hits }
      if t.state = 1 ∧ t.hits = 2 then
        { t with vn := fdiv (2 * (zp.1 - t.n) * 64000000 + p) (2 * p), ve := fdiv (2 * (zp.2 - t.e) * 64000000 + p) (2 * p),
                 n := zp.1, e := zp.2 }
      else
        { t with
          n := pred.1 + roundShift (alpha * rn) 14, e := pred.2 + roundShift (alpha * re) 14,
          vn := t.vn + fdiv (2 * beta * rn * 64000000 + 16384 * p) (32768 * p),
          ve := t.ve + fdiv (2 * beta * re * 64000000 + 16384 * p) (32768 * p),
          misses := if t.state = 1 then t.misses else 0, state := if t.state = 1 then 1 else 2 }
    | none =>
      { t with n := pred.1, e := pred.2, state := if t.state = 1 then 1 else 3,
               misses := if t.state = 2 then 1 else satInc 8 t.misses }
  let t : Track := if t.state = 1 ∧ confN ≤ t.hits then { t with state := 2, misses := 0 } else t
  if (t.state = 1 ∧ confM ≤ t.age + 1) ∨ (t.state = 3 ∧ missN ≤ t.misses) then none else some t

/-- The eight words of a track record (R127). -/
def Track.words (t : Track) : List Word :=
  [wd (t.ident % 65536 + 0x10000 * t.state + 0x1000000 * t.hits), wi t.n, wi t.e, satW t.vn, satW t.ve,
   wd (t.extN % 65536 + 0x10000 * t.extE), wd (min t.cells 0xFFFF + 0x10000 * (min t.misses 255)),
   wd (t.age % 65536 + 0x10000 * t.cost)]

/-- The lowest free slot. -/
def freeSlot (ts : List (Nat × Track)) : Option Nat := (upto 128).find? (fun k => !ts.any (fun e => e.1 == k))

/-- An unassigned detection starts a track, or is dropped when the table is full (R126). -/
def startTrack (cn ce : Int) (w : W (Fus × FusData)) (d : Det) : W (Fus × FusData) :=
  match freeSlot w.u.2.tracks with
  | some k =>
    w.map (fun p =>
      let z := d.pos cn ce
      let t : Track := ⟨p.2.nextId, 1, 1, 0, 0, z.1, z.2, 0, 0, d.extN, d.extE, min d.n 0xFFFF, 0⟩
      (p.1, { p.2 with
        tracks := (p.2.tracks.filter (fun e => decide (e.1 < k))) ++ [(k, t)] ++ (p.2.tracks.filter (fun e => decide (k < e.1))),
        nextId := if p.2.nextId = 0xFFFF then 1 else p.2.nextId + 1 }))
  | none =>
    ((w.map (fun p => (p.1.mod Reg.FUS1_TRK_DROP (fun x => incSatField x 31 16), p.2))).evt Pg.FUS1 4).code Pg.FUS1 0x1535 []

/-- Tracking in an UPDATE (R123–R126): the data with the tracks after it, and the words of the track blocks (R127). -/
def Fus.track (i : SpanIn) (feat : Int → Int → Nat → Int) (cn ce : Int) (w : W (Fus × FusData)) : W (Fus × FusData) × List Word :=
  let u := w.u.1
  let d := w.u.2
  let ctl := rget u.regs Reg.FUS1_TRK_CTRL
  let p := (i.div + 1) * i.lenUs
  let g := rfld u.regs Reg.FUS1_TRK_GATE 7 0
  let dets := detect feat (bits ctl 7 4) (signed 8 (bits ctl 15 8)) (bits ctl 23 16)
  let kept := dets.take 128
  let w := w.when (decide (128 < dets.length)) (fun w =>
    ((w.map (fun q => (q.1.mod Reg.FUS1_TRK_DROP (fun x => putBits x 15 0 (min (bits x 15 0 + (dets.length - 128)) 0xFFFF)), q.2))).evt
      Pg.FUS1 4).code Pg.FUS1 0x1534 [])
  let n := d.tracks.length
  let costs := d.tracks.map (fun t => kept.map (fun z => pairCost (t.2.predict p) (z.pos cn ce)))
  let ben := costs.map (fun row => row.map (fun c => if c ≤ g * g then some ((g * g + 1 - c) * (n + 1)) else none))
  let lim := rfld u.regs Reg.FUS1_AUC_LIM 19 0
  let a := auctionRun ben (rfld u.regs Reg.FUS1_AUC_CFG 19 16) lim 17 (rfld u.regs Reg.FUS1_AUC_CFG 15 0)
    ⟨kept.map (fun _ => 0), d.tracks.map (fun _ => none), 0⟩ 0
  let subopt := a.1.hold.any (·.isNone)
  let w := w.when subopt (fun w => (w.evt Pg.FUS1 3).code Pg.FUS1 0x1533 [])
  let ab := rget u.regs Reg.FUS1_TRK_AB
  let life := rget u.regs Reg.FUS1_TRK_LIFE
  let held := fun t => match a.1.hold.getD t none with | some (some j) => some j | _ => none
  let after := (upto n).filterMap (fun t =>
    match d.tracks[t]? with
    | none => none
    | some (k, tr) =>
      let z := (held t).bind (fun j => kept[j]?.map (fun z => (z, z.pos cn ce, (costs.getD t []).getD j 0)))
      (tr.after p (bits ab 15 0) (bits ab 31 16) (bits life 3 0) (bits life 7 4) (bits life 15 8) z).map (fun x => (k, x)))
  let assigned := ((upto n).filterMap held).length
  let w := w.map (fun q => (q.1, { q.2 with tracks := after }))
  let w := ((upto kept.length).filter (fun j => !((upto n).any (fun t => held t == some j)))).foldl
    (fun w j => match kept[j]? with | some z => startTrack cn ce w z | none => w) w
  let inUse := w.u.2.tracks.length
  let w := w.map (fun q =>
    ({ q.1 with
      regs := rsets q.1.regs [(Reg.FUS1_AUC_STAT, wd (a.1.bids + 0x100000 * (a.2 % 16) + 0x1000000 * b2n subopt)),
        (Reg.FUS1_TRK_STAT, wd (inUse + 0x100 * kept.length + 0x10000 * assigned)),
        (Reg.FUS1_TRK_NEXTID, wd q.2.nextId)] }, q.2))
  let head := [wd (d.updates + 1), wd inUse, wd kept.length, wd assigned, wd a.1.bids,
    wd (b2n subopt + 2 * (a.2 % 16)), wd i.fno]
  let recs := (upto 128).flatMap (fun k => match w.u.2.tracks.find? (fun e => e.1 == k) with
    | some e => e.2.words
    | none => List.replicate 8 0#32)
  (w, head ++ [crc32 (wordsBytes head)] ++ recs)

/-! ## The UPDATE span (R128–R131) -/

/-- The estimate visible at the UPDATE START: N, E, ψ of the pair in FUS0_EST_BLK (R120). -/
def Fus.estimateNow (i : SpanIn) (u : Fus) : Option (Int × Int × Int) :=
  let eb := rget u.regs Reg.FUS0_EST_BLK
  let a := i.vis (bits eb 18 0)
  if bit eb 31 then some (sw (i.mem.readWord a), sw (i.mem.readWord (a + 4)), ((i.mem.readWord (a + 8)).toNat : Int)) else none

/-- STATE at the UPDATE START after MAP_SEL and SEED are taken (R119). -/
def Fus.stateAtStart (u : Fus) : Nat :=
  if !rbit u.regs Reg.FUS1_MAP_SEL 4 then 0 else if u.seed then 1 else u.data.state

/-- The predicted map pose of R120. -/
def Fus.predPose (u : Fus) (state : Nat) (n e psi : Int) : Int × Int × Int :=
  if state = 1 then
    (sw (rget u.regs Reg.FUS1_SEED_X), sw (rget u.regs Reg.FUS1_SEED_Y), ((rget u.regs Reg.FUS1_SEED_PSI).toNat : Int))
  else
    let p := u.data.pose
    let dpsi := p.getD 2 0 - p.getD 5 0
    let r := rot2 dpsi (n - p.getD 3 0, e - p.getD 4 0)
    (p.getD 0 0 + r.1, p.getD 1 0 + r.2, psi + dpsi)

/-- STATE and INVALID_RUN after an UPDATE (R119), with what it reports. -/
def regTransition (state : Nat) (searched valid : Bool) (lostN : Nat) (w : W (Fus × FusData)) : W (Fus × FusData) :=
  let d := w.u.2
  let inv := if valid then 0 else satInc 8 d.invalid
  let ns := if valid then 2 else if state = 2 ∧ lostN ≤ inv then 3 else state
  let w := w.map (fun p => (p.1, { p.2 with state := ns, invalid := inv }))
  let w := w.when (valid && state != 2) (fun w => (w.evt Pg.FUS1 1).code Pg.FUS1 0x0532 [])
  let w := w.when (!valid) (·.evt Pg.FUS1 0)
  let w := w.when (!valid && searched) (·.code Pg.FUS1 0x1530 [])
  w.when (ns == 3 && state == 2) (fun w => (w.evt Pg.FUS1 2).code Pg.FUS1 0x1531 [])

/-- The work of an UPDATE up to the wait for DEADLINE − 1 (R129, R131): planes swapped, features written, registration,
tracks. A poisoned weight, map or directory block leaves it without a result. Log entry 41 (DEDUCED). -/
def Fus.update (i : SpanIn) (u : Fus) : R Fus :=
  let m := i.mem
  let plane := u.filling
  let other := if u.planeB then fusPlaneA else fusPlaneB
  let centre := u.centre.getD (0, 0)
  let layers := netLayers m
  let idx := rfld u.regs Reg.FUS1_MAP_SEL 3 0
  let state := u.stateAtStart
  let dir := fusMapDir + 16 + 32 * idx
  let wid := leNat (m.readBytes dir 2)
  let hei := leNat (m.readBytes (dir + 2) 2)
  let mapAt := fusMaps + idx * 262144
  let nW := (netBytes layers + 31) / 32
  let nM := (4 * wid * hei + 31) / 32
  let searched := (state == 1 || state == 2) && (u.estimateNow i).isSome
  let w := W.of { u with
    planeB := !u.planeB, centre := none, winPts := 0, winMap := 0, winNo := false, seed := false,
    regs := rsets u.regs [(Reg.FUS0_WIN_PTS, wd u.winPts), (Reg.FUS0_GRID_N, wi centre.1), (Reg.FUS0_GRID_E, wi centre.2),
      (Reg.FUS0_GRID_FNO, wd i.fno), (Reg.FUS0_RUN, wd (i.free.toNat % 0x100000))] }
  let w := w.readN m Pg.FUS0 plane 65536
  let w := (w.readN m Pg.FUS0 fusHeader 128).readN m Pg.FUS0 fusWeights nW
  let w := w.when searched (fun w => (w.readN m Pg.FUS0 fusMapDir 128).readN m Pg.FUS0 mapAt nM)
  let w := w.store Pg.FUS0 other ((upto 1048576).flatMap (fun _ => [0x00#8, 0x80#8]))
  let bad := m.anyBad fusHeader 128 || m.anyBad fusWeights nW || (searched && (m.anyBad fusMapDir 128 || m.anyBad mapAt nM))
  let poison := m.anyBad plane 65536
  let needDst := if bit i.arg 0 then 131 else 2
  if bad || decide (i.dstLen < needDst) then R.bad (((w.evt Pg.FUS0 0).code Pg.FUS0 0x20C3 []).code Pg.FUS0 0x2516 [])
  else
    let w := w.when poison (fun w => ((w.evt Pg.FUS0 5).code Pg.FUS0 0x20C3 []).code Pg.FUS0 0x2515 [])
    let feat := netOut m layers (planeInput m plane)
    let grid := (upto 1048576).flatMap (fun c => (upto 16).map (fun ch =>
      BitVec.ofInt 8 (feat (c / 1024 : Nat) (c % 1024 : Nat) ch)))
    let w := w.store Pg.FUS0 fusGrid grid
    let est := (u.estimateNow i).getD (0, 0, 0)
    let cfg := rget u.regs Reg.FUS1_REG_CFG
    let pp := u.predPose state est.1 est.2.1 est.2.2
    let rin : RegIn := ⟨wid, hei, fun r c ch => signed 8 (m.readByte (mapAt + (r * wid + c) * 4 + ch)).toNat, feat,
      centre.1, centre.2, est.1, est.2.1, est.2.2⟩
    let o := register rin (bits cfg 5 0) (bits cfg 13 8) (bits cfg 23 16) (bits cfg 31 24) pp.1 pp.2.1 pp.2.2
    let valid := searched && o.valid
    let d0 := { u.data with state := state, invalid := if u.seed && state == 1 then 0 else u.data.invalid }
    let wp : W (Fus × FusData) := ⟨(w.u, d0), w.fx, w.st⟩
    let wp := regTransition state searched valid (rfld u.regs Reg.FUS1_REG_LOST 7 0) wp
    let wp := wp.map (fun p =>
      let d := if valid then { p.2 with pose := [o.x, o.y, o.psi, est.1, est.2.1, est.2.2] } else p.2
      ({ p.1 with
          regs := rset p.1.regs Reg.FUS1_REG_STAT (wd (d.state + 0x100 * (if searched then min o.score 255 else 0) + 0x10000 * (if searched then min o.score2 255 else 0)
            + 0x1000000 * d.invalid)) }, d))
    let trk := rbit u.regs Reg.FUS1_TRK_CTRL 0
    let tr := if trk then Fus.track i feat centre.1 centre.2 wp else (wp, [])
    let wp := tr.1.map (fun p => (p.1, { p.2 with updates := p.2.updates + 1 }))
    let d := wp.u.2
    let nomap := d.state == 0 || d.state == 3
    let sel := fun (x : Int) => if searched then wi x else 0#32
    let st := wd (b2n valid + 2 * b2n (searched && o.cov) + 4 * b2n (searched && o.ambig) + 8 * b2n (searched && o.edge)
      + 16 * b2n (searched && o.low) + 32 * b2n nomap + 64 * b2n poison + 128 * b2n u.winNo + 0x100 * idx + 0x1000 * d.state
      + 0x10000 * (if searched then min o.score 255 else 0))
    let pose := [sel o.x, sel o.y, sel o.psi, if searched then satW o.vx else 0, if searched then satW o.vy else 0,
      if searched then satW o.vpsi else 0, 0#32, st, 0#32, 0#32, 0#32, wd i.fno, wd (min u.winPts 0xFFFFFFFF), wd u.winMap,
      wd d.updates]
    let wp := wp.store Pg.FUS0 i.dst (wordsBytes (pose ++ [crc32 (wordsBytes pose)]))
    let wp := wp.when (bit i.arg 0 && trk) (·.store Pg.FUS0 (i.dst + 64) (wordsBytes tr.2))
    R.good ⟨{ wp.u.1 with work := some d, workPose := pose }, wp.fx, wp.st⟩

/-- The registration state and the tracks returned to the last publication (R56, R131). -/
def Fus.restore (u : Fus) : Fus :=
  { u with
    work := none
    regs := rmod u.regs Reg.FUS1_REG_STAT (fun x => putBits (putBits x 7 0 u.data.state) 31 24 u.data.invalid) }

/-- An UPDATE without a grant (R394): the planes are swapped, the window's points are lost, and there is no result.
Log entry 25 (DEDUCED). -/
def Fus.ungranted (u : Fus) : R Fus :=
  let other := if u.planeB then fusPlaneA else fusPlaneB
  let w := W.of { u with planeB := !u.planeB, centre := none, winPts := 0, winMap := 0, winNo := false }
  R.bad (((w.store Pg.FUS0 other ((upto 1048576).flatMap (fun _ => [0x00#8, 0x80#8]))).evt Pg.FUS0 0).code Pg.FUS0 0x2516 [])

/-- A cut of the grant during an UPDATE (R394): its work ends without a result. -/
def Fus.cut (u : Fus) : W Fus := ((W.of u.restore).evt Pg.FUS0 0).code Pg.FUS0 0x2516 []

/-- The final write of an UPDATE at tick DEADLINE − 1 (R129): words 8–10 and the CRC that covers them. Log entry 41 (DEDUCED). -/
def Fus.finalWrite (dst : Nat) (tOut : Int) (fno start ddl : Nat) (u : Fus) : W Fus :=
  let head := u.workPose.take 8 ++ [lo32 tOut, hi32 tOut, wd fno] ++ u.workPose.drop 11
  let run := rfld u.regs Reg.FUS0_RUN 19 0
  let v := u.mod Reg.FUS0_MARGIN (fun x => wd (min x.toNat (ddl - 1 - start - run)))
  let w := W.of { v with workPose := head }
  (w.store Pg.FUS0 (dst + 32) (wordsBytes [lo32 tOut, hi32 tOut, wd fno])).store Pg.FUS0 (dst + 60)
    (wordBytes (crc32 (wordsBytes head)))

/-- The publication of an UPDATE. -/
def Fus.publish (u : Fus) : Fus :=
  match u.work with
  | some d =>
    let v := u.mod Reg.FUS0_UPD_CNT (fun x => x + 1#32)
    { v with data := d, work := none }
  | none => u

/-- A missed UPDATE (R131): registration state and tracks return to the last publication. Log entry 33 (DEDUCED). -/
def Fus.miss (u : Fus) : W Fus :=
  ((W.of u.restore).evt Pg.FUS0 0).code Pg.FUS0 0x2516 []

/-- The limits of R115 and R116 on the weight image. Log entry 40 (DEDUCED). -/
def netOk (m : Mem) : Bool :=
  let ls := netLayers m
  let len := leNat (m.readBytes (fusHeader + 4) 4)
  let l := (m.readByte (fusHeader + 8)).toNat
  let body := m.readBytes (fusHeader + 16) 4080 ++ m.readBytes fusWeights (len - 4096)
  decide (leNat (m.readBytes fusHeader 4) = 0x5A7C5701) && decide (1 ≤ l) && decide (l ≤ 6)
    && decide (m.readWord (fusHeader + 12) = crc32 body) && decide (len = 4096 + netBytes ls) && decide (netBytes ls ≤ 4194304)
    && ls.all (fun y => (y.k == 1 || y.k == 3 || y.k == 5) && decide (1 ≤ y.cin) && decide (y.cin ≤ 128)
        && decide (1 ≤ y.cout) && decide (y.cout ≤ 128) && decide (y.act ≤ 1) && decide (y.shift ≤ 31))
    && (match ls.head? with | some y => y.cin == 2 | none => false)
    && (match ls.getLast? with | some y => y.cout == 16 | none => false)
    && (List.zipWith (fun (a b : Layer) => a.cout == b.cin) ls (ls.drop 1)).all id

/-- The checks of R118 on the berth-map image. -/
def mapsOk (m : Mem) : Bool :=
  let len := leNat (m.readBytes (fusMapDir + 4) 4)
  let n := (m.readByte (fusMapDir + 8)).toNat
  let body := m.readBytes (fusMapDir + 16) 4080 ++ m.readBytes fusMaps (len - 4096)
  decide (leNat (m.readBytes fusMapDir 4) = 0x5A7C5702) && decide (1 ≤ n) && decide (n ≤ 16)
    && decide (m.readWord (fusMapDir + 12) = crc32 body)
    && (upto n).all (fun k =>
        let w := leNat (m.readBytes (fusMapDir + 16 + 32 * k) 2)
        let h := leNat (m.readBytes (fusMapDir + 18 + 32 * k) 2)
        decide (w % 16 = 0) && decide (h % 16 = 0) && decide (w * h ≤ 65536))

/-- Whether an enabled slot repeats the ID and address of an earlier one (code 0x502). -/
def Fus.slotClash (u : Fus) : Bool :=
  (upto 6).any (fun k => bit (u.cfg k) 0 && (upto k).any (fun j => bit (u.cfg j) 0 && bits (u.cfg j) 4 1 == bits (u.cfg k) 4 1
    && rget u.regs (rk Reg.FUS0_SC_ADDR 0 j) == rget u.regs (rk Reg.FUS0_SC_ADDR 0 k)))

/-- The checks of FUS on leaving CONFIG (R116, R118): the page and code of the first that fails. Log entry 92 (DEDUCED). -/
def Fus.exitCheck (m : Mem) (feat7 feat8 : Bool) (u : Fus) : Option (Nat × Nat) :=
  if feat7 && !netOk m then some (Pg.FUS0, 0x1501)
  else if u.slotClash then some (Pg.FUS0, 0x1502)
  else if rbit u.regs Reg.FUS1_MAP_SEL 4 && !mapsOk m then some (Pg.FUS1, 0x1521)
  else if rbit u.regs Reg.FUS1_TRK_CTRL 0 && !feat8 then some (Pg.FUS1, 0x1521)
  else none

/-- What FUS reports of its images on leaving CONFIG (R116, R118), with intake and registration started afresh. -/
def Fus.start (m : Mem) (feat7 : Bool) (u : Fus) : Fus :=
  let ls := netLayers m
  let regs := if feat7 then rsets u.regs [(Reg.FUS0_NET_CFG, wd (ls.length + 0x100 * netBytes ls)),
    (Reg.FUS0_NET_CRC, m.readWord (fusHeader + 12))] else u.regs
  let regs := if rbit u.regs Reg.FUS1_MAP_SEL 4 then rsets regs [(Reg.FUS1_MAP_CNT, wd ((m.readByte (fusMapDir + 8)).toNat)),
    (Reg.FUS1_MAP_CRC, m.readWord (fusMapDir + 12))] else regs
  { u with regs := regs, pool := [], last := [], centre := none, winPts := 0, winMap := 0, winNo := false, work := none }

end Sys2Proof.Machine
end

