-- ==== Sys2Proof/Machine/Gnss.lean ====
section
/-! DEFINITION. GNS0, GNS1 and GNSC: antennas, channels, the PVT span, holdover, PPS OUT and snapshots (R135–R157). -/

namespace Sys2Proof.Machine

/-- A channel of a bank. -/
def Gns.chan (u : Gns) (b c : Nat) : GnsChan := sget (fun _ => GnsChan.idle) u.chans (24 * b + c)

/-- GNSn_CH_STAT of a channel. -/
def GnsChan.stat (c : GnsChan) : Word :=
  wd (c.state + 8 * b2n c.sec + 16 * b2n c.nav + 32 * b2n c.cut + 0x100 * (c.prn % 64) + 0x10000 * min c.cn0 255)

/-- Channels of a bank in TRACK. -/
def Gns.tracking (u : Gns) (b : Nat) : List Nat := (upto 24).filter (fun c => (u.chan b c).state == 3)

/-- A channel set, with its GNSn_CH_STAT and the TRACKING count of its bank. -/
def Gns.put (u : Gns) (b c : Nat) (v : GnsChan) : Gns :=
  let u := { u with chans := sset (fun _ => GnsChan.idle) u.chans (24 * b + c) v }
  { u with
    regs := rmod (rset u.regs (rk Reg.GNS_CH_STAT b c) v.stat) (rk Reg.GNS_STAT b 0)
      (fun x => putBits x 23 16 (u.tracking b).length) }

/-- A register of GNS or GNSC changed. -/
def Gns.mod (u : Gns) (k : Nat) (f : Word → Word) : Gns := { u with regs := rmod u.regs k f }

/-- The page of a bank. -/
def gnsPage (b : Nat) : Nat := Pg.GNS + b

/-! ## Antennas and front ends (R136) -/

/-- Antenna current below 5 mA for 1 s. -/
def Gns.antOpen (b mA : Nat) (u : Gns) : W Gns :=
  let w := W.of (u.mod (rk Reg.GNS_ANT_I b 0) (fun _ => wd (mA % 4096)))
  w.when (rbit u.regs (rk Reg.GNS_CTRL b 0) 0 && decide (mA < 5)) (fun w =>
    ((w.map (·.mod (rk Reg.GNS_STAT b 0) (fun x => putBit x 1 true))).evt (gnsPage b) 0).code (gnsPage b) 0x1610 [])

/-- Antenna current at the 120 mA limit: ANT_SHORT, and the supply off after 1 s. -/
def Gns.antShort (b : Nat) (off : Bool) (u : Gns) : W Gns :=
  (W.of u).when (rbit u.regs (rk Reg.GNS_CTRL b 0) 0) (fun w =>
    let w := w.map (fun u => { (u.mod (rk Reg.GNS_ANT_I b 0) (fun _ => 120#32)) with
      supplyOff := if off then u.supplyOff ||| 2 ^ b else u.supplyOff })
    let new := !rbit u.regs (rk Reg.GNS_STAT b 0) 2
    let w := w.map (·.mod (rk Reg.GNS_STAT b 0) (fun x => putBit x 2 true))
    w.when new (fun w => (w.evt (gnsPage b) 0).code (gnsPage b) 0x2611 []))

/-- A switched-off supply tried again: the limit is seen anew. Log entry 43 (DEDUCED). -/
def Gns.antRetry (b : Nat) (u : Gns) : W Gns :=
  let v := u.mod (rk Reg.GNS_STAT b 0) (fun x => putBit x 2 false)
  if u.supplyOff.testBit b then W.of { v with supplyOff := u.supplyOff ^^^ 2 ^ b } else W.of u

/-- A channel enters LOST (R141). -/
def Gns.lose (b c : Nat) (w : W Gns) : W Gns :=
  ((w.map (fun u => u.put b c { u.chan b c with state := 4, sec := false, nav := false, low := 0, side := 0 })).evt (gnsPage b) 1).code
    (gnsPage b) 0x1613 [wd c, wd (w.u.chan b c).prn]

/-- The front-end synthesiser unlocks: every channel with a satellite goes to LOST. -/
def Gns.unlock (b : Nat) (u : Gns) : W Gns :=
  let w := (W.of (u.mod (rk Reg.GNS_STAT b 0) (fun x => putBit x 0 false))).code (gnsPage b) 0x3615 []
  ((upto 24).filter (fun c => (u.chan b c).state != 0 && (u.chan b c).state != 4)).foldl (fun w c => Gns.lose b c w) w

/-- The front-end synthesiser locks. -/
def Gns.relock (b : Nat) (u : Gns) : W Gns := W.of (u.mod (rk Reg.GNS_STAT b 0) (fun x => putBit x 0 true))

/-! ## Channels (R137–R141) -/

/-- A channel's dump slot in the dump memory: three blocks. -/
def dumpAddr (b c : Nat) : Nat := dumpBase + 96 * (24 * b + c)

/-- Power of a complex correlator of a dump record, both signals together. -/
def dumpPower (d : List Word) (j : Nat) : Int :=
  let p := fun i => swAt d i * swAt d i
  p (2 * j) + p (2 * j + 1) + p (2 * j + 10) + p (2 * j + 11)

/-- Whether a channel draws from class 1 of the budget (R155). -/
def gnsClass1 (b c : Nat) : Bool := b == 1 || decide (12 ≤ c)

/-- GNSC's work on a channel at a code epoch (R140, R141). -/
def Gns.serve (sec : Nat) (b c : Nat) (dump : List Word) (w : W Gns) : W Gns :=
  let u := w.u
  let ch := u.chan b c
  let mask := rget u.regs Reg.GNSC_MASK
  let above := decide ((bits mask 7 0 : Int) ≤ Config.gnsElevation ch.prn sec)
  let cfg := rget u.regs (rk Reg.GNS_CH_CFG b c)
  let manual := bit cfg 1
  let words := Config.gnsLoop (rget u.regs Reg.GNSC_LOOP) (rget u.regs (rk Reg.GNS_CH_CARR b c))
    (rget u.regs (rk Reg.GNS_CH_CODE b c)) dump
  let cn0 := Config.gnsCn0 dump
  let side := max (dumpPower dump 0) (dumpPower dump 4)
  let sideRun := if dumpPower dump 2 < side then ch.side + 1 else 0
  let ch := { ch with unread := false, cn0 := cn0, side := if 5 ≤ sideRun then 0 else sideRun,
                      pend := if manual then ch.pend else some words }
  let put := fun v => w.map (fun u => u.put b c v)
  match ch.state with
  | 0 =>
    if bit cfg 0 && rbit u.regs (rk Reg.GNS_CTRL b 0) 2 && !ch.cut then
      let prn := if manual then bits cfg 7 2 else Config.gnsAssign b c sec
      if prn = 0 then put { ch with pend := none } else put { ch with state := 1, prn := prn % 64 }
    else put { ch with pend := none }
  | 1 => put (if Config.gnsPeak dump then { ch with state := 2 } else ch)
  | 2 => put (if Config.gnsLock b c ch.epochs dump then { ch with state := 3, sec := true } else ch)
  | 3 =>
    let low := if cn0 < bits mask 15 8 then ch.low + 1 else 0
    let w := put { ch with low := low, nav := Config.gnsNav b c ch.epochs dump }
    if 40 ≤ low ∨ !above then Gns.lose b c w else w
  | _ => put (if above then { ch with state := 1 } else { ch with state := 0, prn := 0 })

/-- A code epoch of a channel (R139–R141, R155): the dump record, new oscillator words, and GNSC's work when it serves
the record before the next one. Log entry 43 (DEDUCED). -/
def Gns.codeEpoch (now : Int) (b c : Nat) (dump : List Word) (served cut feLock : Bool) (u : Gns) : W Gns :=
  if 2 ≤ b ∨ 24 ≤ c then W.of u
  else
    let ch := u.chan b c
    let w := W.of u
    let lost := ch.unread
    let w := w.map (fun u => u.mod (rk Reg.GNS_CH_DUMPS b c) (fun x => incWrapField (if lost then incSatField x 31 16 else x) 15 0))
    let w := w.when lost (fun w => (w.evt (gnsPage b) 2).code (gnsPage b) 0x1612 [wd c])
    let rec_ := (upto 20).map (fun i => wordAt dump i) ++ [wd ch.epochs, lo32 now, hi32 now, wd (b2n ch.sec + 2 * b2n ch.applied)]
    let w := w.store (gnsPage b) (dumpAddr b c) (wordsBytes rec_)
    let w := w.map (fun u => u.put b c { ch with epochs := (ch.epochs + 1) % 4294967296, unread := true, pend := none,
                                                 applied := ch.pend.isSome, cut := cut && gnsClass1 b c })
    let w : W Gns := match ch.pend with
      | some (carr, code) => w.map (fun u =>
          (u.mod (rk Reg.GNS_CH_CARR b c) (fun _ => carr)).mod (rk Reg.GNS_CH_CODE b c) (fun _ => code))
      | none => w
    if cut && gnsClass1 b c then
      let w := w.map (fun u => u.put b c { u.chan b c with state := 0, prn := 0, sec := false, nav := false })
      let first := !u.cutRec.testBit b
      (w.map (fun u => { u with cutRec := u.cutRec ||| 2 ^ b })).when first (fun w =>
        (w.evt (gnsPage b) 3).code (gnsPage b) 0x1614 [])
    else
      let w := w.map (fun u => { u with cutRec := if cut then u.cutRec else 0 })
      if served && feLock then Gns.serve (fdiv now 1000000000).toNat b c rec_ w else w

/-- 30 s in ACQ without a peak: IDLE, the satellite released. -/
def Gns.acqTimeout (b c : Nat) (u : Gns) : W Gns :=
  W.of (if (u.chan b c).state = 1 then u.put b c { u.chan b c with state := 0, prn := 0, pend := none } else u)

/-- 2 s in PULLIN without lock: ACQ. -/
def Gns.pullinTimeout (b c : Nat) (u : Gns) : W Gns :=
  W.of (if (u.chan b c).state = 2 then u.put b c { u.chan b c with state := 1 } else u)

/-- Carrier or code word written in the window of a MANUAL channel (R141, R156): it acts at the next code epoch. -/
def Gns.manual (b c : Nat) (carr : Bool) (v : Word) (u : Gns) : Gns :=
  if bit (rget u.regs (rk Reg.GNS_CH_CFG b c)) 1 then
    let old := (u.chan b c).pend.getD (rget u.regs (rk Reg.GNS_CH_CARR b c), rget u.regs (rk Reg.GNS_CH_CODE b c))
    u.put b c { u.chan b c with pend := some (if carr then (v, old.2) else (old.1, v)) }
  else u

/-! ## Epochs and the PVT span (R142–R146, R148–R150) -/

/-- The epoch period in ns (R142). -/
def Gns.period (u : Gns) : Nat :=
  match rfld u.regs Reg.GNSC_CTRL 9 8 with | 0 => 1000000000 | 1 => 500000000 | 2 => 200000000 | _ => 100000000

/-- What one channel shows at the latch instant, as the command names it. -/
abbrev Phases := List (Nat × Nat × Word × Word)

/-- The measurement latch (R142): the phases of every channel in TRACK. Log entry 43 (DEDUCED). -/
def Gns.latch (now : Int) (ph : Phases) (u : Gns) : W Gns :=
  let ms := (upto 48).filterMap (fun k =>
    let b := k / 24
    let c := k % 24
    if (u.chan b c).state = 3 then
      (ph.find? (fun p => p.1 == b && p.2.1 == c)).map (fun p =>
        (⟨b, c, (u.chan b c).prn, p.2.2.1, p.2.2.2, rget u.regs (rk Reg.GNS_CH_CARR b c)⟩ : GnsMeas))
    else none)
  let regs := ms.foldl (fun r x => rset (rset r (rk Reg.GNS_CH_CPH x.bank x.chan) x.cph) (rk Reg.GNS_CH_CARPH x.bank x.chan) x.carph)
    u.regs
  W.of { u with epoch := some ⟨now, u.stepped, ms⟩, stepped := false, regs := regs }

/-- The numbers a solution is computed from. -/
def GnsEpoch.ints (e : GnsEpoch) : List Int :=
  e.t :: e.meas.flatMap (fun x => [(x.bank : Int), x.prn, x.cph.toNat, x.carph.toNat, x.carr.toNat])

/-- Satellites that both banks track (R146). -/
def GnsEpoch.common (e : GnsEpoch) : Nat :=
  (e.meas.filter (fun x => x.bank == 0 && e.meas.any (fun y => y.bank == 1 && y.prn == x.prn))).length

/-- Heading at an epoch (R146): the state and whether a candidate failed the length test. -/
def Gns.heading (u : Gns) (on : Bool) (common : Nat) (h : List Int) : Nat × Bool :=
  let cfg := rget u.regs Reg.GNSC_BASE_CFG
  if !on || decide (common < 4) then (0, false)
  else if common < bits cfg 27 24 then (1, false)
  else if u.hdg = 2 ∧ h.getD 5 0 = 1 then (2, false)
  else if (h.getD 3 0).toNat < bits cfg 23 16 then (1, false)
  else if bits cfg 15 0 < (h.getD 4 0).natAbs then (1, true)
  else (2, false)

/-- Holdover uncertainty after dt ns (R149), rounded to nearest, saturating. -/
def Gns.uncertainty (u : Gns) (dt : Int) : Word :=
  let k1 : Int := (rfld u.regs Reg.GNSC_HOLD_K 15 0 : Nat)
  let k2 : Int := (rfld u.regs Reg.GNSC_HOLD_K 31 16 : Nat)
  let num := k1 * dt * 200 * 1000000000 + k2 * dt * dt
  let den : Int := 20000 * 1000000000000000000
  wd (min (((u.sigma0 : Int) + fdiv (2 * num + den) (2 * den)).toNat) 0xFFFFFFFF)

/-- Holdover and recovery at an epoch (R149, R150), while GNSS is the selected source, and on from a holdover, in which
it cannot be selected (R290). Log entry 44 (DEDUCED). -/
def Gns.hold (selected valid : Bool) (off : Int) (w : W Gns) : W Gns :=
  let u := w.u
  if !selected && !rbit u.regs Reg.GNSC_STAT 5 then w
  else
    let holdover := rbit u.regs Reg.GNSC_STAT 5
    let set := fun (h r : Bool) (u : Gns) => u.mod Reg.GNSC_STAT (fun x => putBit (putBit x 5 h) 6 r)
    let recover := rbit u.regs Reg.GNSC_STAT 6
    if !valid then
      let n := u.noTime + 1
      let w := w.map (fun u => { u with noTime := n, agree := 0 })
      if rfld u.regs Reg.GNSC_HOLD_CFG 7 0 ≤ n ∧ !holdover then
        ((w.map (set true false)).evt Pg.GNSC 3).code Pg.GNSC 0x1640 []
      else w
    else
      let lo := if u.agree = 0 then off else min u.agreeLo off
      let hi := if u.agree = 0 then off else max u.agreeHi off
      let ok := decide (hi - lo ≤ 100)
      let n := if ok then u.agree + 1 else 1
      let w := w.map (fun u => { u with noTime := 0, agree := n, agreeLo := if ok then lo else off, agreeHi := if ok then hi else off })
      if holdover && decide (rfld u.regs Reg.GNSC_HOLD_CFG 15 8 ≤ n) then
        if off.natAbs ≤ 1000000 then
          (((w.map (set false true)).evt Pg.GNSC 3).code Pg.GNSC 0x0641 [lo32 off])
        else
          ((((w.map (set false false)).evt Pg.GNSC 3).evt Pg.GNSC 4).codeRec Pg.GNSC 0x1642 [lo32 off])
      else if recover && decide (off.natAbs < 100) then w.map (set false false)
      else w

/-- The registers of GNSC that a PVT run writes with its solution. -/
def gnsCells : List Nat :=
  [Reg.GNSC_STAT, Reg.GNSC_TOFS, Reg.GNSC_HOLD_UNC, Reg.GNSC_HOLD_TIME, Reg.GNSC_HDG_STAT, Reg.GNSC_SV]

/-- The solution as last published, kept while a run is in progress (R56, R143). -/
def Gns.keep (u : Gns) : Gns :=
  { u with kept := some {
      noTime := u.noTime, agree := u.agree, agreeLo := u.agreeLo, agreeHi := u.agreeHi, lastValid := u.lastValid
      sigma0 := u.sigma0, hdg := u.hdg, cells := gnsCells.map (fun k => (k, rget u.regs k)) } }

/-- The solution returned to its last publication (R56): the run's samples and offset are dropped. -/
def Gns.withdraw (u : Gns) : Gns :=
  match u.kept with
  | none => { u with samples := [], offset := none }
  | some k =>
    { u with
      samples := [], offset := none, kept := none, noTime := k.noTime, agree := k.agree, agreeLo := k.agreeLo
      agreeHi := k.agreeHi, lastValid := k.lastValid, sigma0 := k.sigma0, hdg := k.hdg
      regs := rsets u.regs k.cells }

/-- A PVT run (R143): the newest unused epoch solved, or the previous record with NEW 0. Log entry 44 (DEDUCED). -/
def Gns.pvt (feat9 cut selected : Bool) (i : SpanIn) (u0 : Gns) : R Gns :=
  let u := u0.keep
  if i.dstLen < 2 then R.bad (((W.of u).evt Pg.GNSC 0).code Pg.GNSC 0x2660 [])
  else
    let run := wd (Config.gnsRun i.free.toNat % 0x100000)
    match (if rbit u.regs Reg.GNSC_CTRL 0 then u.epoch else none) with
    | none =>
      let prev := i.mem.readWords (i.vis i.dstBlk) 16
      let head := setAt (prev.take 15) 7 (putBit (wordAt prev 7) 7 false)
      let w := W.of { u with
        samples := [], offset := none,
        regs := rset (rmod u.regs Reg.GNSC_STAT (fun x => putBit x 7 false)) Reg.GNSC_RUN run }
      let w := w.readN i.mem Pg.GNSC (i.vis i.dstBlk) 2
      R.good (w.store Pg.GNSC i.dst (wordsBytes (head ++ [crc32 (wordsBytes head)])))
    | some e =>
      let old := rget u.regs Reg.GNSC_STAT
      let s := Config.gnsSolve [rget u.regs Reg.GNSC_ORG_LAT, rget u.regs Reg.GNSC_ORG_LON, rget u.regs Reg.GNSC_ORG_H,
        rget u.regs Reg.GNSC_MASK, rget u.regs Reg.GNSC_CTRL] e.ints
      let h := Config.gnsHeading [rget u.regs Reg.GNSC_BASE_LEN, rget u.regs Reg.GNSC_BASE_CFG] e.ints
      let n0 := (e.meas.filter (fun x => x.bank == 0)).length
      let n1 := (e.meas.filter (fun x => x.bank == 1)).length
      let used := (s.getD 10 0).toNat
      let pos := s.getD 0 0 == 1
      let vel := s.getD 1 0 == 1
      let time := s.getD 2 0 == 1 && (decide (4 ≤ used) || (decide (1 ≤ used) && rbit u.regs Reg.GNSC_CTRL 3))
      let off := s.getD 9 0
      let hd := u.heading (rbit u.regs Reg.GNSC_CTRL 1 && feat9 && !cut) e.common h
      let w := W.of u
      let w := w.when (bit old 0 && !pos) (fun w => (w.evt Pg.GNSC 1).code Pg.GNSC 0x1630 [])
      let w := w.when (!bit old 0 && pos) (fun w => (w.evt Pg.GNSC 1).code Pg.GNSC 0x0631 [])
      let w := w.when hd.2 (·.code Pg.GNSC 0x1634 [])
      let w := w.when (hd.1 != u.hdg) (·.evt Pg.GNSC 2)
      let w := w.when (hd.1 == 2 && u.hdg != 2) (·.code Pg.GNSC 0x0633 [])
      let w := w.when (hd.1 != 2 && u.hdg == 2) (·.code Pg.GNSC 0x1632 [])
      let w := Gns.hold selected time off w
      let keep := rget w.u.regs Reg.GNSC_STAT
      let lastV := if time then some e.t else u.lastValid
      let w := w.map (fun u => { u with lastValid := lastV, sigma0 := if time then (s.getD 11 0).toNat else u.sigma0, hdg := hd.1 })
      let dt := match lastV with | some t => e.t - t | none => 0
      let unc := w.u.uncertainty dt
      let stat := wd (b2n pos + 2 * b2n vel + 4 * b2n (hd.1 == 2) + 8 * b2n (hd.1 == 1) + 16 * b2n time + 32 * b2n (bit keep 5)
        + 64 * b2n (bit keep 6) + 128 + 256 * b2n e.stepped + 512 * b2n cut)
      let fix := hd.1 == 2
      let head := [wi (s.getD 3 0), wi (s.getD 4 0), wi (s.getD 5 0), wi (s.getD 6 0), wi (s.getD 7 0), wi (h.getD 0 0),
        wi (h.getD 1 0), stat, lo32 e.t, hi32 e.t, wi (s.getD 8 0), wi (h.getD 2 0), satW off, unc,
        wd (used % 256 + 0x100 * (e.common % 256))]
      let smp := fun (c : Bool) (sel : Nat) (v : Word) => if c then [(⟨0x16, sel, e.t, sw v⟩ : Sample)] else []
      let samples := smp pos 1 (wordAt head 0) ++ smp pos 2 (wordAt head 1) ++ smp pos 3 (wordAt head 2)
        ++ smp vel 4 (wordAt head 3) ++ smp vel 5 (wordAt head 4) ++ smp fix 6 (wordAt head 5) ++ smp fix 7 (wordAt head 6)
        ++ smp time 8 (wordAt head 12)
      let w := w.map (fun u => { u with
        epoch := none, samples := samples, offset := if time && rbit u.regs Reg.GNSC_CTRL 2 then some off else none,
        returned := bit old 5 && !bit keep 5,
        regs := rsets u.regs [(Reg.GNSC_STAT, stat), (Reg.GNSC_TOFS, satW off), (Reg.GNSC_HOLD_UNC, unc),
          (Reg.GNSC_HOLD_TIME, wd (min (fdiv dt 1000000000).toNat 0xFFFFFFFF)), (Reg.GNSC_RUN, run),
          (Reg.GNSC_HDG_STAT, wd (hd.1 + 0x100 * (e.common % 256) + 0x10000 * ((h.getD 3 0).toNat % 256))),
          (Reg.GNSC_SV, wd (used % 256 + 0x100 * n0 + 0x10000 * n1 + 0x1000000 * (e.common % 256)))] })
      R.good (w.store Pg.GNSC i.dst (wordsBytes (head ++ [crc32 (wordsBytes head)])))

/-- The publication of a PVT run (R145): its samples to FLT. -/
def Gns.publish (u : Gns) : W Gns :=
  u.samples.foldl (fun w x => w.sample x) (W.of { u with samples := [], kept := none })

/-- A missed PVT (R143). Log entry 33 (DEDUCED). -/
def Gns.miss (u : Gns) : W Gns :=
  ((W.of u.withdraw).evt Pg.GNSC 0).code Pg.GNSC 0x2660 []

/-! ## PPS OUT (R147) -/

/-- A whole second of module time: PPS OUT begins a pulse, in READY, RUN and SERVICE with EN set. -/
def Gns.ppsPulse (now : Int) (states : Bool) (u : Gns) : W Gns :=
  let c := rget u.regs Reg.GNSC_PPS_CFG
  let apart := match u.ppsAt with | some t => decide (500000000 ≤ now - t) | none => true
  let muted := bit c 11 && rbit u.regs Reg.GNSC_STAT 5
  W.of (if states && bit c 0 && apart && !muted then { u with pps := true, ppsAt := some now } else u)

/-- The pulse ends after WIDTH ms. -/
def Gns.ppsEnd (u : Gns) : W Gns := W.of { u with pps := false }

/-! ## Snapshots (R151–R154) -/

/-- Whether a capture, an export or processing is in progress. -/
def Gns.snapBusy (u : Gns) : Bool := rfld u.regs Reg.GNSC_SNAP_STAT 2 0 != 0

/-- A trigger of a capture (R151). Log entry 44 (DEDUCED). -/
def Gns.snapStart (now : Int) (epoch : Nat) (u : Gns) : W Gns :=
  let same := match u.capture with | some (t, _, _, _) => decide (t = now) | none => false
  if u.snapBusy then
    if same then W.of u
    else ((W.of (u.mod Reg.GNSC_SNAP_STAT (fun x => putBit x 7 true))).evt Pg.GNSC 6).code Pg.GNSC 0x1650 []
  else
    let cfg := rget u.regs Reg.GNSC_SNAP_CFG
    W.of { u with
      capture := some (now, bits cfg 6 0, bits cfg 8 7, epoch),
      regs := rsets (rmod u.regs Reg.GNSC_SNAP_STAT (fun x =>
          putBit (putBit (putBit (putBit (putBit x 0 true) 3 false) 4 false) 5 (rbit u.regs Reg.GNSC_STAT 5)) 7 false))
        [(Reg.GNSC_SNAP_T_L, lo32 now), (Reg.GNSC_SNAP_T_H, hi32 now)] }

/-- The export begins with the header packet (R153). Log entry 44 (DEDUCED). -/
def Gns.exportStart (feat10 : Bool) (u : Gns) : Gns :=
  if feat10 && rbit u.regs Reg.GNSC_SNAP_STAT 3 && !u.snapBusy then
    { u with exported := 0, regs := rmod u.regs Reg.GNSC_SNAP_STAT (fun x => putBit (putBit x 1 true) 6 false) }
  else u

/-- The bytes of a buffer of LEN_MS ms and an antenna mask (R152). -/
def snapBytes (lenMs ant : Nat) : Nat := if ant = 3 then lenMs * 30690 else lenMs * 30690 / 2

/-- The end of a capture (R151, R152): header and samples in the buffer, and an automatic export. -/
def Gns.captureEnd (samples : List Byte) (feat10 : Bool) (u : Gns) : W Gns :=
  match u.capture with
  | none => W.of u
  | some (t0, lenMs, ant, epoch) =>
    let n := snapBytes lenMs ant
    let body := (samples ++ List.replicate (n - samples.length) 0#8).take n
    let st := rget u.regs Reg.GNSC_SNAP_STAT
    let head := leBytes 4 0x5A7C5703 ++ leBytes 4 n ++ leBytes 4 (lenMs * 30690) ++ leBytes 1 ant
      ++ leBytes 1 (b2n (bit st 5) + 2 * b2n (bit st 4)) ++ leBytes 2 epoch ++ leBytes 8 (t0 % 18446744073709551616).toNat
      ++ leBytes 4 0 ++ wordBytes (crc32 body)
    let w := W.of { u with
      capture := none,
      regs := rmod u.regs Reg.GNSC_SNAP_STAT (fun x => incWrapField (putBit (putBit x 0 false) 3 true) 31 16) }
    let w := ((w.evt Pg.GNSC 5).code Pg.GNSC 0x0653 []).store Pg.GNSC 0x54000000 (head ++ body)
    w.map (fun u => if rbit u.regs Reg.GNSC_SNAP_CFG 22 then u.exportStart feat10 else u)

/-- Packet k of an export (R153): the header, then 256 words each, the last padded with zeros; each word with the poison
flag of its block. -/
def snapPacket (m : Mem) (k : Nat) : List (Word × Bool) :=
  let n := (m.readWord 0x54000004).toNat
  let word := fun a => (m.readWord a, m.isBad a)
  if k = 0 then (upto 8).map (fun i => word (0x54000000 + 4 * i))
  else (upto 256).map (fun i =>
    let o := 1024 * (k - 1) + 4 * i
    if o < n then word (0x54000020 + o) else (0#32, false))

/-- The number of packets of an export. Log entry 44 (DEDUCED). -/
def snapPackets (m : Mem) : Nat := 1 + ((m.readWord 0x54000004).toNat + 1023) / 1024

/-- An export that has ended, or stopped at a drop (R153). -/
def Gns.exportDone (dropped : Bool) (w : W Gns) : W Gns :=
  let w := w.map (fun u => u.mod Reg.GNSC_SNAP_STAT (fun x => putBit (putBit x 1 false) 6 dropped))
  w.when dropped (fun w => (w.evt Pg.GNSC 6).code Pg.GNSC 0x1651 [])

/-- PROCESS (R154): the background fix on the buffer begins; without the grant of snapshot processing it does not start (R394). -/
def Gns.process (grant : Bool) (u : Gns) : W Gns :=
  if rbit u.regs Reg.GNSC_SNAP_STAT 3 && !u.snapBusy then
    (if grant then W.of (u.mod Reg.GNSC_SNAP_STAT (fun x => putBit x 2 true))
     else ((W.of u).evt Pg.GNSC 6).code Pg.GNSC 0x2652 [])
  else W.of u

/-- The coarse-time fix ends (R154); at least 5 satellites are needed. -/
def Gns.fixDone (m : Mem) (now : Int) (u : Gns) : W Gns :=
  if !rbit u.regs Reg.GNSC_SNAP_STAT 2 then W.of u
  else
    let f := Config.gnsFix (m.bytes.filter (fun c => decide (0x54000000 ≤ c.1) && decide (c.1 < 0x54400000))) now
    let ok := f.getD 0 0 == 1 && decide (5 ≤ f.getD 4 0)
    let w := W.of (u.mod Reg.GNSC_SNAP_STAT (fun x => putBit x 2 false))
    if ok then
      w.map (fun u => { u with
        regs := rsets u.regs [(Reg.GNSC_SFIX_N, wi (f.getD 1 0)), (Reg.GNSC_SFIX_E, wi (f.getD 2 0)),
          (Reg.GNSC_SFIX_TOFS, wi (f.getD 3 0)),
          (Reg.GNSC_SFIX_STAT, wd (1 + 0x100 * ((f.getD 4 0).toNat % 256) + 0x10000 * min (f.getD 5 0).toNat 0xFFFF))] })
    else ((w.map (·.mod Reg.GNSC_SFIX_STAT (fun x => putBit x 0 false))).evt Pg.GNSC 6).code Pg.GNSC 0x2652 []

/-- A time step (R142, R152): the next epoch is marked STEPPED, and so is a capture in progress. -/
def Gns.step (u : Gns) : Gns :=
  let v := if rbit u.regs Reg.GNSC_SNAP_STAT 0 then u.mod Reg.GNSC_SNAP_STAT (fun x => putBit x 4 true) else u
  { v with stepped := true }

/-- The check of a bank on leaving CONFIG (code 0x601). -/
def Gns.bankOk (b : Nat) (u : Gns) : Bool :=
  (upto 24).all (fun c =>
    let cfg := rget u.regs (rk Reg.GNS_CH_CFG b c)
    let els := if bits cfg 11 8 = 0 then 3 else bits cfg 11 8
    let ves := bits cfg 17 12
    !bit cfg 0 || (decide (2 ≤ ves) && decide (ves ≤ 30) && decide (els < ves)
      && (!bit cfg 1 || (decide (1 ≤ bits cfg 7 2) && decide (bits cfg 7 2 ≤ 50)))))

/-- The check of GNSC on leaving CONFIG (code 0x621). -/
def Gns.solverOk (feat9 : Bool) (u : Gns) : Bool :=
  let inR := fun r hi lo a b => decide (a ≤ rfld u.regs r hi lo) && decide (rfld u.regs r hi lo ≤ b)
  decide ((sw (rget u.regs Reg.GNSC_ORG_LAT)).natAbs ≤ 1073741824)
    && inR Reg.GNSC_MASK 7 0 0 60 && inR Reg.GNSC_LOOP 7 0 8 200 && inR Reg.GNSC_LOOP 15 8 2 100 && inR Reg.GNSC_LOOP 23 16 4 200
    && inR Reg.GNSC_HOLD_CFG 7 0 1 255 && inR Reg.GNSC_HOLD_CFG 15 8 1 255
    && (!rbit u.regs Reg.GNSC_CTRL 1 || (feat9 && inR Reg.GNSC_BASE_LEN 31 0 1024 61440 && inR Reg.GNSC_BASE_CFG 15 0 1 1000
        && inR Reg.GNSC_BASE_CFG 27 24 5 12))

end Sys2Proof.Machine
end

