-- ==== Sys2Proof/Machine/Stage.lean ====
section
/-! DEFINITION. The setpoint stage at the head of CTL0's LOOPS: modes, requests, frames, transfer, fallback and the
demand record (R158–R172). -/

namespace Sys2Proof.Machine

/-- What the stage reads in a run (R161): the command words, estimate words 0–15 and 47–65 by index, the status word of
the berth pose record (none without a berth pair), the engagement indication, and what requests are checked against. -/
structure StageIn where
  fno     : Nat
  lenUs   : Nat
  command : List Word
  est     : Nat → Word
  pose    : Option Word
  hinge   : Bool
  feat6   : Bool
  feat7   : Bool
  axes    : List Bool
  standby : Bool

/-- The axes a mode makes auto (R158), PUSH making sway manual in modes 4 and 5. -/
def autoAxes (mode : Nat) (push : Word) : List Bool :=
  match mode with
  | 2 => [false, false, true]
  | 3 => [true, true, true]
  | 4 => [true, push == 0#32, true]
  | 5 => [true, push == 0#32, true]
  | _ => [false, false, false]

/-- Whether any axis is auto. -/
def anyAuto (l : List Bool) : Bool := l.any id

/-- MODE of the estimate summary (R97). -/
def StageIn.estMode (i : StageIn) : Nat := bits (i.est 15) 2 0

/-- The verdict of the berth slot BSLOT in the estimate. -/
def StageIn.berthSlot (i : StageIn) (cmd0 : Word) : Nat := bits (i.est (48 + bits cmd0 23 21)) 3 0

/-- A target carried into the earth frame in modes 4 and 5 (R164). -/
def toEarth (mode : Nat) (t : List Int) (cmd : List Word) : List Int :=
  if mode = 4 ∨ mode = 5 then
    let d : Int := (wordAt cmd 12).toNat
    let r := rot2 d (t.getD 0 0, t.getD 1 0)
    [sat32 (swAt cmd 10 + r.1), sat32 (swAt cmd 11 + r.2), (t.getD 2 0 + d) % 4294967296]
  else [t.getD 0 0, t.getD 1 0, t.getD 2 0 % 4294967296]

/-- The present pose in a mode's frame: the inverse of R164 (R165). -/
def capturePose (mode : Nat) (i : StageIn) (cmd : List Word) : List Int :=
  let n := sw (i.est 0)
  let e := sw (i.est 1)
  let p : Int := (i.est 2).toNat
  if mode = 4 ∨ mode = 5 then
    let d : Int := (wordAt cmd 12).toNat
    let r := rot2 (-d) (n - swAt cmd 10, e - swAt cmd 11)
    [sat32 r.1, sat32 r.2, (p - d) % 4294967296]
  else [n, e, p]

/-- The check of a request, row by row (R163): the RESULT of the first failing row, 0 when all pass. -/
def Stage.check (s : Stage) (i : StageIn) (cmd : List Word) (mode fb : Nat) : Nat :=
  let c0 := wordAt cmd 0
  let berth := mode == 4 || mode == 5
  if 5 < mode ∨ 4 < fb ∨ (fb ≠ 0 ∧ fb = mode) ∨ bits c0 7 4 ≠ 0 ∨ bit c0 17 ∨ bits c0 31 24 ≠ 0
      ∨ (mode = 5 ∧ (bits (wordAt cmd 9) 31 16 = 0 ∨ swAt cmd 7 < 0)) then 6
  else if (berth && !i.feat7) || (mode == 5 && !i.feat6) then 4
  else if mode = 5 ∧ s.mode ≠ 4 ∧ s.mode ≠ 5 then 5
  else if mode = 2 ∧ i.estMode ≠ 1 ∧ i.estMode ≠ 3 then 3
  else if (mode = 3 ∨ berth) ∧ i.estMode ≠ 1 then 3
  else if berth && !((match i.pose with | some p => bit p 0 && bits p 13 12 == 2 | none => false) && decide (2 ≤ i.berthSlot c0)) then 3
  else if mode = 5 ∧ !i.hinge then 3
  else if (mode = 2 && !(i.axes.getD 2 false)) || (decide (3 ≤ mode) && !(i.axes.all id)) then 3
  else 0

/-- The stage after its work so far in a run, with whether a request of the program has changed the mode. -/
structure StageW where
  s       : Stage
  changed : Bool
  codes   : List (Nat × List Word)
  flags   : Nat

/-- A code recorded by the stage in CTL0. -/
def StageW.code (w : StageW) (c : Nat) (p : List Word) : StageW := { w with codes := w.codes ++ [(c, p)] }

/-- A flag of record word 1 set. -/
def StageW.flag (w : StageW) (c : Bool) (b : Nat) : StageW := if c then { w with flags := w.flags ||| 2 ^ b } else w

/-- A mode takes effect (R163, R165, R168). -/
def StageW.apply (w : StageW) (i : StageIn) (cmd : List Word) (r : ModeRequest) : StageW :=
  let s := w.s
  let s : Stage := if r.mode = s.mode then s else { s with mode := r.mode, entry := i.fno, force := 0 }
  let s := { s with
    force := if r.mode = 5 then s.force else 0
    pend := none, fZero := false, fallback := r.fallback, captured := r.capture, fbCap := r.internal && r.capture,
    result := 1,
    target := if r.capture then capturePose r.mode i cmd else s.target }
  { w with s := s, changed := w.changed || (decide (r.mode ≠ w.s.mode) && !r.internal) }.code 0x0710 [wd r.mode]

/-- A request checked and refused, kept pending, or applied (R163, R168). Log entry 45 (DEDUCED). -/
def StageW.request (w : StageW) (i : StageIn) (cmd : List Word) (r : ModeRequest) : StageW :=
  let res := w.s.check i cmd r.mode r.fallback
  if res ≠ 0 then { w with s := { w.s with result := res } }.code 0x1711 [wd res]
  else
    let w := { w with s := { w.s with fbTaken := if r.internal then true else false } }
    if w.s.mode = 5 ∧ r.mode ≠ 0 ∧ r.mode ≠ 5 then { w with s := { w.s with pend := some r, result := 2 } }
    else w.apply i cmd r

/-- The request of the visible command, evaluated once per REQ_ID (R162). -/
def StageW.evaluate (w : StageW) (i : StageIn) (cmd : List Word) : StageW :=
  let c0 := wordAt cmd 0
  if bits c0 15 8 = w.s.lastId then w
  else
    { w with s := { w.s with lastId := bits c0 15 8, reqMode := bits c0 3 0 } }.request i cmd
      ⟨bits c0 3 0, bit c0 16, bits c0 20 18, false⟩

/-- The released mode takes effect in the first fathom after the one in which F reached 0 (R168). -/
def StageW.release (w : StageW) (i : StageIn) (cmd : List Word) : StageW :=
  match w.s.pend with
  | some r => if w.s.fZero then w.apply i cmd r else w
  | none => w

/-- Words 1–3 are the target unless a capture stands (R165, R169). -/
def StageW.retarget (w : StageW) (cmd : List Word) : StageW :=
  if w.s.fbCap || (w.s.captured && bit (wordAt cmd 0) 16) then w
  else { w with s := { w.s with captured := false, target := [swAt cmd 1, swAt cmd 2, ((wordAt cmd 3).toNat : Int)] } }

/-- Whether the required reference is lost (R169), and whether by dead reckoning. Log entry 45 (DEDUCED). -/
def Stage.reference (s : Stage) (i : StageIn) (cmd : List Word) : Bool × Bool :=
  let em := i.estMode
  let dr := (s.mode == 2 && (em == 2 || em == 4)) || (decide (3 ≤ s.mode) && em != 1 && em != 0)
  let berth := (s.mode == 4 || s.mode == 5) &&
    ((match i.pose with | some p => bits p 13 12 == 3 || bit p 5 | none => true) || i.berthSlot (wordAt cmd 0) == 1)
  let hinge := s.mode == 5 && !i.hinge
  if anyAuto (autoAxes s.mode (wordAt cmd 8)) then (em == 0 || dr || berth || hinge, dr) else (false, false)

/-- References lost and fallback (R169). Log entry 45 (DEDUCED). -/
def StageW.loss (w : StageW) (i : StageIn) (cmd : List Word) : StageW :=
  let s := w.s
  let auto := anyAuto (autoAxes s.mode (wordAt cmd 8))
  let (ref, dr) := s.reference i cmd
  let maxAge := bits (wordAt cmd 13) 31 16
  let age := (wd i.fno - wordAt cmd 14).toNat
  let stale := decide (maxAge ≠ 0) && decide (maxAge < age)
  let w := (w.flag ref 0).flag dr 1
  let w := if ref && !s.refLost then w.code 0x1713 [] else w
  let w := w.flag stale 8
  let w := if stale && !s.stale then w.code 0x1716 [] else w
  let w := { w with s := { w.s with refLost := ref, stale := stale } }
  if !(auto && (ref || stale)) then
    let w := if s.lost ≠ 0 then w.code 0x0714 [] else w
    { w with s := { w.s with lost := 0 } }
  else
    let n := satInc 16 s.lost
    let w := { w with s := { w.s with lost := n } }
    let fbN := bits (wordAt cmd 13) 15 0
    let waiting := match s.pend with | some r => r.internal | none => false
    if fbN ≠ 0 ∧ s.fallback ≠ 0 ∧ fbN ≤ n ∧ !w.changed ∧ !waiting then
      (w.code 0x1715 [wd s.fallback]).request i cmd ⟨s.fallback, true, 0, true⟩
    else w

/-- The step of the contact force per fathom (R168). -/
def forceStep (frate lenUs : Nat) : Int := max 1 ((2 * frate * lenUs * 1024 + 10000000) / 20000000 : Nat)

/-- The contact force, one step toward its target (R168). -/
def StageW.ramp (w : StageW) (i : StageIn) (cmd : List Word) : StageW :=
  let s := w.s
  if s.mode ≠ 5 then { w with s := { s with force := 0 } }
  else
    let tgt := if s.pend.isSome then 0 else max 0 (swAt cmd 7)
    let step := forceStep (bits (wordAt cmd 9) 31 16) i.lenUs
    let f := if s.force < tgt then min tgt (s.force + step) else max tgt (s.force - step)
    { w with s := { s with force := f, fZero := s.pend.isSome && decide (f = 0) } }

/-- The manual demand of an axis and its blend after this fathom (R167). -/
def manualDemand (wasAuto : Bool) (lastDem lever : Int) (n : Nat) (b : Option (Int × Nat)) : Int × Option (Int × Nat) :=
  let b := if wasAuto && decide (n ≠ 0) then some (lastDem, 0) else b
  match b with
  | none => (lever, none)
  | some (d, k) =>
    if n ≤ k + 1 then (lever, none)
    else (d + fdiv (2 * (lever - d) * ((k + 1 : Nat) : Int) + n) (2 * n), some (d, k + 1))

/-- The lever word of each axis (R158, R160). -/
def leverWords (mode : Nat) (cmd : List Word) : List Int :=
  [swAt cmd 4, if (mode = 4 ∨ mode = 5) ∧ wordAt cmd 8 ≠ 0#32 then swAt cmd 8 else swAt cmd 5, swAt cmd 6]

/-- The manual demands of a run and the blends after it. -/
def Stage.manual (s : Stage) (auto : List Bool) (cmd : List Word) : List (Int × Option (Int × Nat)) :=
  (upto 3).map (fun a =>
    if s.mode = 0 then (0, none)
    else if auto.getD a false then (0, none)
    else manualDemand (s.auto.getD a false) (s.dem.getD a 0) ((leverWords s.mode cmd).getD a 0) (bits (wordAt cmd 9) 15 0)
      (s.blend.getD a none))

/-- Steps 1 of R186: the command evaluated, references, the contact force and the flags of the record. -/
def Stage.command (s : Stage) (i : StageIn) : StageW :=
  let ok := wordAt i.command 15 == crc32 (wordsBytes (i.command.take 15))
  let w : StageW := ⟨if ok then { s with cmd := some i.command } else s, false, [], 0⟩
  let w := if ok then w else (w.code 0x1712 []).flag true 7
  let w := w.flag i.standby 6
  let cmd := w.s.cmd.getD (List.replicate 16 0#32)
  let w := if w.s.cmd.isSome then w.evaluate i cmd else w
  let w := w.release i cmd
  let w := w.retarget cmd
  let w := w.loss i cmd
  let w := w.ramp i cmd
  let w := w.flag (decide (i.est 47 ≠ wd i.fno)) 5
  let w := w.flag (w.s.mode == 5 && i.hinge) 4
  let w := w.flag w.s.pend.isSome 9
  w.flag w.s.captured 10

/-- The demand record (R170). Log entry 45 (DEDUCED). -/
def Stage.record (s : Stage) (i : StageIn) (flags : Nat) (auto : List Bool) : List Word :=
  let cmd := s.cmd.getD (List.replicate 16 0#32)
  let ax := (upto 3).foldl (fun a k => if auto.getD k false then a + 2 ^ k else a) 0
  let age := min (wd i.fno - wordAt cmd 14).toNat 0xFFFF
  let ws := [wd (s.mode + 0x10 * s.reqMode + 0x100 * s.lastId + 0x10000 * s.result + 0x100000 * ax + 0x800000 * b2n s.fbTaken),
    wd flags, wi (s.sp.getD 0 0), wi (s.sp.getD 1 0), wi (s.sp.getD 2 0), wi (s.dem.getD 0 0), wi (s.dem.getD 1 0),
    wi (s.dem.getD 2 0), wi s.force, wd s.entry, wd (age + 0x10000 * s.lost), wi (s.target.getD 0 0), wi (s.target.getD 1 0),
    wi (s.target.getD 2 0), i.est 47]
  ws ++ [crc32 (wordsBytes ws)]

/-- The entry into RUN (R158, R162): IDLE; the last accepted command stands. -/
def Stage.enterRun (fno : Nat) (s : Stage) : Stage := { Stage.fresh with cmd := s.cmd, entry := fno }

end Sys2Proof.Machine
end

