-- ==== Sys2Proof/Machine/Loops.lean ====
section
/-! DEFINITION. CTL0 and CTL1: instance memory and its window, the loop kinds, the setpoint shaper, bank swaps and the
LOOPS span (R173–R191). -/

namespace Sys2Proof.Machine

/-- The page of an engine. -/
def ctlPage (n : Nat) : Nat := Pg.CTL + n

/-- The byte address of word `word` of block `blk` of instance i of engine n (R175): 11 blocks an instance. -/
def instAddr (n i blk word : Nat) : Nat := ctlBase + 0x100000 * n + 352 * i + 32 * blk + 4 * word

/-- A word of an instance. -/
def instWord (m : Mem) (n i blk word : Nat) : Word := m.readWord (instAddr n i blk word)

/-- A descriptor word of an instance (R176). -/
def descWord (m : Mem) (n i k : Nat) : Word := instWord m n i 0 k

/-- EN of an instance. -/
def instEn (m : Mem) (n i : Nat) : Bool := bit (descWord m n i 0) 0

/-- CTLn_INST_CNT. -/
def Ctl.cnt (u : Ctl) (n : Nat) : Nat := rfld u.regs (rk Reg.CTL_INST_CNT n 0) 9 0

/-- The enabled instances below CTLn_INST_CNT, in order. -/
def Ctl.enabled (m : Mem) (u : Ctl) (n : Nat) : List Nat := (upto (u.cnt n)).filter (instEn m n)

/-! ## Arithmetic (R179) -/

/-- A 64-bit accumulator: its value and whether anything has saturated. -/
structure Acc where
  v   : Int
  sat : Bool
  deriving DecidableEq, Repr

/-- Saturation of an accumulator at ±(2^63 − 1). -/
def acc64 (v : Int) : Acc :=
  let c := clampI (-9223372036854775807) 9223372036854775807 v
  ⟨c, decide (c ≠ v)⟩

/-- The term product T(c, x) (R179). -/
def term (c : Int) (s : Nat) (x : Int) : Int := roundShift (c * x) s

/-- A difference of two inputs (R179): saturated, or modulo 2^32 with WRAP; and whether it saturated. -/
def diff32 (wrap : Bool) (a b : Int) : Int × Bool :=
  if wrap then (signed 32 ((a - b) % 4294967296).toNat, false)
  else (sat32 (a - b), decide (sat32 (a - b) ≠ a - b))

/-- sat32 with its flag. -/
def sat32F (v : Int) : Int × Bool := (sat32 v, decide (sat32 v ≠ v))

/-- Term t of a bank of an instance: coefficient, SHIFT, ROW, COL (R178). -/
structure Term where
  c : Int
  s : Nat
  row : Nat
  col : Nat
  deriving DecidableEq, Repr

/-- Term t of bank b (0 A, 1 B). -/
def termOf (m : Mem) (n i b t : Nat) : Term :=
  let a := instAddr n i (1 + 4 * b) 0 + 8 * t
  let w := m.readWord (a + 4)
  ⟨sw (m.readWord a), bits w 4 0, bits w 11 8, bits w 15 12⟩

/-! ## The setpoint shaper (R184) -/

/-- A shaper's state: p in 2^−16 LSB, v and a. -/
structure Shaper where
  p : Int
  v : Int
  a : Int
  deriving DecidableEq, Repr

/-- The sign of a number. -/
def sgn (x : Int) : Int := if x < 0 then -1 else if x = 0 then 0 else 1

/-- g(x): the largest g with g (g + J) ≤ 2 J x. -/
def limG (j : Nat) (x : Nat) : Nat := (isqrt (j * j + 8 * j * x) - j) / 2

/-- w(x): the largest w with w (w + A) / (2 A) + w ceil(A / J) ≤ x. -/
def limW (a j : Nat) (x : Nat) : Nat :=
  let b := a * (1 + 2 * ((a + j - 1) / j))
  (isqrt (b * b + 8 * a * x) - b) / 2

/-- A number modulo 2^48 as a signed one, −2^47 taken as +2^47. -/
def wrap48 (x : Int) : Int :=
  let y := x % 281474976710656
  if 140737488355328 < y then y - 281474976710656 else y

/-- A shaped setpoint as a data word: modulo 2^32 with WRAP, saturated otherwise. -/
def shapedWord (wrap : Bool) (p : Int) : Int × Bool :=
  let v := fdiv (p + 32768) 65536
  if wrap then (signed 32 (v % 4294967296).toNat, false) else sat32F v

/-- One run of a shaper toward a target word: new state, setpoint, SHAPING, JERK_CLIP, saturation. -/
structure Shaped where
  st      : Shaper
  sp      : Int
  shaping : Bool
  clip    : Bool
  sat     : Bool
  deriving DecidableEq, Repr

/-- The shaper (R184). Log entry 46 (DEDUCED). -/
def shape (vlim alim jlim : Nat) (wrap : Bool) (s : Shaper) (target : Int) : Shaped :=
  let x := 65536 * target
  let d := if wrap then wrap48 (x - s.p) else x - s.p
  let vd := sgn d * (min vlim (limW alim jlim d.natAbs) : Nat)
  let ev := vd - s.v
  let ad := sgn ev * (min alim (limG jlim ev.natAbs) : Nat)
  let a := s.a + clampI (-(jlim : Int)) jlim (ad - s.a)
  let vn := s.v + a
  let v := clampI (-(vlim : Int)) vlim vn
  let clip := decide (v ≠ vn)
  let a := if clip then v - (vn - a) else a
  let p := if wrap then wrap48 (s.p + v) else s.p + v
  let rest := if wrap then wrap48 (x - p) else x - p
  let done := decide (rest.natAbs ≤ jlim) && decide (v.natAbs ≤ jlim) && decide (a.natAbs ≤ jlim)
  let st : Shaper := if done then ⟨if wrap then wrap48 x else x, 0, 0⟩ else ⟨p, v, a⟩
  let w := shapedWord wrap st.p
  ⟨st, w.1, !done && (decide (rest ≠ 0) || decide (v ≠ 0)), clip, w.2⟩

/-- The shaper state of an instance: block 10, words 3–6. -/
def shaperOf (m : Mem) (n i : Nat) : Shaper :=
  let w := fun k => instWord m n i 10 k
  ⟨(signed 64 ((w 3).toNat + 4294967296 * (w 4).toNat)), sw (w 5), sw (w 6)⟩

/-- The bytes of a shaper state. -/
def Shaper.bytes (s : Shaper) : List Byte := wordsBytes [lo32 s.p, hi32 s.p, wi s.v, wi s.a]

/-- The limits of an instance: block 10, words 0–2. -/
def limitsOf (m : Mem) (n i : Nat) : Nat × Nat × Nat :=
  ((instWord m n i 10 0).toNat, (instWord m n i 10 1).toNat, (instWord m n i 10 2).toNat)

/-! ## Loop kinds (R180–R182) -/

/-- What a loop computes with: descriptor clamps, errors and referenced words. -/
structure LoopIn where
  e     : Int
  fb    : Int
  ff    : Int
  dfb   : Option Int
  omax  : Int
  omin  : Int
  wrap  : Bool
  order : Nat
  nterm : Nat
  pre   : Option Int

/-- What a loop gives: its output, the bytes of its state block, whether it saturated. -/
structure LoopOut where
  u   : Int
  st  : List Word
  sat : Bool

/-- The PID (R180), with the preload of R188. -/
def runPid (t : Nat → Term) (st : List Word) (i : LoopIn) : LoopOut :=
  let tp := fun k x => term (t k).c (t k).s x
  let iOld := signed 64 ((wordAt st 0).toNat + 4294967296 * (wordAt st 1).toNat)
  let dPrev := swAt st 2
  let p := tp 0 i.e
  let dfbD := diff32 i.wrap i.fb (swAt st 3)
  let d := match i.dfb with
    | some x => acc64 (-(tp 2 x))
    | none => acc64 (tp 3 dPrev - tp 2 dfbD.1)
  let f := tp 4 i.ff
  let dI := tp 1 i.e
  let it := acc64 (iOld + dI)
  let u0 := acc64 (p + it.v + d.v + f)
  let dSat := sat32F d.v
  match i.pre with
  | some want =>
    let ip := acc64 (want - (p + d.v + f))
    let u := sat32F (p + ip.v + d.v + f)
    ⟨u.1, [lo32 ip.v, hi32 ip.v, wi dSat.1, wi i.fb], d.sat || ip.sat || u.2 || dSat.2⟩
  | none =>
    let a := if (i.omax < u0.v ∧ 0 < dI) ∨ (u0.v < i.omin ∧ dI < 0) then iOld else it.v
    let imax := (t 5).c
    let imin := (t 6).c
    let a := if imax < a ∧ 0 < dI then max iOld imax else a
    let a := if a < imin ∧ dI < 0 then min iOld imin else a
    let sum := acc64 (p + a + d.v + f)
    let u := sat32F (clampI i.omin i.omax sum.v)
    let useD := (match i.dfb with | some _ => false | none => dfbD.2)
    ⟨u.1, [lo32 a, hi32 a, wi dSat.1, wi i.fb], d.sat || it.sat || u0.sat || sum.sat || u.2 || dSat.2 || useD⟩

/-- One section of the cascade: input, state words and saturation so far (R181). -/
def runSection (t : Nat → Term) (st : List Word) (acc : Int × List Word × Bool) (s : Nat) : Int × List Word × Bool :=
  let (x, out, sat) := acc
  let tp := fun k v => term (t (5 * s + k)).c (t (5 * s + k)).s v
  let y := sat32F (tp 0 x + swAt st (2 * s))
  let z1 := sat32F (tp 1 x - tp 3 y.1 + swAt st (2 * s + 1))
  let z2 := sat32F (tp 2 x - tp 4 y.1)
  (y.1, out ++ [wi z1.1, wi z2.1], sat || y.2 || z1.2 || z2.2)

/-- The biquad cascade (R181). -/
def runBiquad (t : Nat → Term) (st : List Word) (i : LoopIn) : LoopOut :=
  let r := (upto i.order).foldl (runSection t st) (i.e, [], false)
  ⟨clampI i.omin i.omax r.1, r.2.1, r.2.2⟩

/-- The state-space block (R182). -/
def runSpace (t : Nat → Term) (st : List Word) (i : LoopIn) : LoopOut :=
  let v := fun k => if k < 8 then swAt st k else i.e
  let row := fun r => ((upto i.nterm).filter (fun k => (t k).row == r)).foldl
    (fun (a : Acc) k => let b := acc64 (a.v + term (t k).c (t k).s (v (t k).col)); ⟨b.v, a.sat || b.sat⟩) ⟨0, false⟩
  let xs := (upto i.order).map (fun r => (sat32F (row r).v, (row r).sat))
  let u := sat32F (row 8).v
  ⟨clampI i.omin i.omax u.1, xs.map (fun x => wi x.1.1), xs.any (fun x => x.1.2 || x.2) || u.2 || (row 8).sat⟩

/-- A loop of a kind (R180–R182). -/
def runKind (kind : Nat) (t : Nat → Term) (st : List Word) (i : LoopIn) : LoopOut :=
  if kind = 0 then runPid t st i else if kind = 1 then runBiquad t st i else runSpace t st i

/-! ## References (R177) -/

/-- A referenced word: its value and whether its block is poisoned; a disabled reference reads 0. -/
def Ctl.refWord (u : Ctl) (n : Nat) (i : SpanIn) (outs : List (Nat × Word)) (r : Word) : Word × Bool :=
  if !bit r 31 then (0, false)
  else
    let w := bits r 15 0
    let pair := bits r 18 16
    if pair = 7 then (((outs.find? (fun e => e.1 == w)).map (·.2)).getD 0, false)
    else
      let base := if pair = 0 then i.src else i.vis (rfld u.regs (rk Reg.CTL_PAIR1 n 0 + 4 * (pair - 1)) 18 0)
      (i.mem.readWord (base + 4 * w), i.mem.isBad (base + 4 * w))

/-- The byte address a reference reads, for the report of R21. -/
def Ctl.refAddr (u : Ctl) (n : Nat) (i : SpanIn) (r : Word) : Option Nat :=
  if !bit r 31 || bits r 18 16 == 7 then none
  else
    let base := if bits r 18 16 = 0 then i.src else i.vis (rfld u.regs (rk Reg.CTL_PAIR1 n 0 + 4 * (bits r 18 16 - 1)) 18 0)
    some (base + 4 * bits r 15 0)

/-- Whether an enabled reference lies within its pair (R173). -/
def Ctl.refFits (u : Ctl) (n : Nat) (i : SpanIn) (r : Word) : Bool :=
  let w := bits r 15 0
  let pair := bits r 18 16
  !bit r 31 ||
    (if pair = 0 then decide (w < 8 * i.srcLen)
     else if pair = 7 then decide (w < 8 * i.dstLen)
     else decide (w < 8 * rfld u.regs (rk Reg.CTL_PAIR1 n 0 + 4 * (pair - 1)) 27 19))

/-- Whether the operands of a LOOPS are long enough (R173). -/
def Ctl.fits (u : Ctl) (n : Nat) (i : SpanIn) : Bool :=
  let stage := bit i.arg 31 && n == 0
  let held := rget u.regs (rk Reg.CTL_HELD_W n 0)
  (!stage || (decide (2 ≤ i.dstLen) && decide (9 ≤ i.srcLen)))
    && (!bit held 31 || decide (bits held 15 0 + (u.cnt n + 31) / 32 ≤ 8 * i.dstLen))
    && (u.enabled i.mem n).all (fun k =>
      (upto 4).all (fun r => u.refFits n i (descWord i.mem n k (1 + r)))
        && (!bit (descWord i.mem n k 5) 31 || decide (bits (descWord i.mem n k 5) 15 0 < 8 * i.dstLen)))

/-! ## Axis instances (R186–R188) -/

/-- The enabled instance that carries an axis (1–3). -/
def Ctl.axisInst (m : Mem) (u : Ctl) (axis : Nat) : Option Nat :=
  (u.enabled m 0).find? (fun k => bits (descWord m 0 k 0) 26 25 == axis)

/-- What the stage hands an axis instance: whether it runs, is held, its setpoint errors, the preload, and the shaper
after the run. -/
structure AxisIn where
  run    : Bool
  held   : Bool
  e      : Int
  dfb    : Int
  pre    : Option Int
  shaped : Option Shaped

/-- Step 2 of R186 for one coordinate: the shaper runs while its axes are auto, and starts at the estimate (R188). -/
def axisShape (m : Mem) (u : Ctl) (axis : Nat) (running first frozen : Bool) (target est : Int) : Option Shaped :=
  match u.axisInst m axis with
  | none => none
  | some k =>
    if !running then none
    else
      let wrap := axis == 3
      let st := if first then (⟨65536 * est, 0, 0⟩ : Shaper) else shaperOf m 0 k
      if frozen then
        let w := shapedWord wrap st.p
        let rest := if wrap then wrap48 (65536 * target - st.p) else 65536 * target - st.p
        some ⟨st, w.1, decide (rest ≠ 0) || decide (st.v ≠ 0), false, w.2⟩
      else
        let l := limitsOf m 0 k
        some (shape l.1 l.2.1 l.2.2 wrap st target)

/-- The stage's part of a run up to the demands (R186): the stage after command, shaping and blends, its flags, the auto
mask, the axis inputs by axis, the manual demands, codes. -/
structure StageRun where
  s      : Stage
  flags  : Nat
  auto   : List Bool
  frozen : Bool
  axes   : List AxisIn
  manual : List Int
  codes  : List (Nat × List Word)

/-- Steps 1 and 2 of R186. -/
def stageRun (m : Mem) (u : Ctl) (i : StageIn) : StageRun :=
  let old := u.stage
  let w := old.command i
  let s := w.s
  let cmd := s.cmd.getD (List.replicate 16 0#32)
  let auto := autoAxes s.mode (wordAt cmd 8)
  let frozen := i.estMode == 0 && anyAuto auto
  let man := s.manual auto cmd
  let first := (upto 3).map (fun a => auto.getD a false && !(old.auto.getD a false) && !frozen)
  let tgt := toEarth s.mode s.target cmd
  let est := [sw (i.est 0), sw (i.est 1), ((i.est 2).toNat : Int)]
  let running := fun a => if a < 2 then auto.getD 0 false || auto.getD 1 false else auto.getD 2 false
  let sh := (upto 3).map (fun a => axisShape m u (a + 1) (running a) (first.getD a false) frozen (tgt.getD a 0) (est.getD a 0))
  let sp := (upto 3).map (fun a => match sh.getD a none with
    | some x => x.sp
    | none => if running a then tgt.getD a 0 else old.sp.getD a 0)
  let dn := sp.getD 0 0 - est.getD 0 0
  let de := sp.getD 1 0 - est.getD 1 0
  let r := rot2 (-(est.getD 2 0)) (dn, de)
  let es := [sat32 r.1, sat32 r.2, angleDiffW (sp.getD 2 0 - est.getD 2 0)]
  let axes := (upto 3).map (fun a =>
    ({ run := auto.getD a false && !frozen, held := auto.getD a false && frozen, e := es.getD a 0, dfb := sw (i.est (3 + a)),
       pre := if first.getD a false then some (old.dem.getD a 0) else none, shaped := sh.getD a none } : AxisIn))
  let shaping := (upto 3).any (fun a => match sh.getD a none with | some x => x.shaping | none => false)
  let blending := man.any (fun x => x.2.isSome)
  let w := (w.flag blending 2).flag shaping 3
  { s := { s with
      auto := (upto 3).map (fun a => auto.getD a false && (!frozen || old.auto.getD a false)),
      blend := man.map (·.2), sp := sp },
    flags := w.flags, auto := auto, frozen := frozen, axes := axes, manual := man.map (·.1), codes := w.codes }
where
  /-- A signed binary angle. -/
  angleDiffW (a : Int) : Int := signed 32 (a % 4294967296).toNat

/-- Step 4 of R186: the demands of the axes. -/
def StageRun.demands (r : StageRun) (old : Stage) (outs : List (Nat × Int)) : List Int :=
  (upto 3).map (fun a =>
    if r.s.mode = 0 then 0
    else if r.auto.getD a false then
      (if r.frozen then old.dem.getD a 0
       else ((outs.find? (fun e => e.1 == a + 1)).map (·.2)).getD (old.dem.getD a 0))
    else r.manual.getD a 0)

/-! ## A LOOPS run (R173, R174, R189) -/

/-- A run so far: output words by word index, axis outputs, outputs by instance, bytes to commit, instances held,
saturated, poisoned, clipped and run, the status words, shapers started, group cost and sum, blocks read. -/
structure LoopRun where
  outs    : List (Nat × Word)
  axis    : List (Nat × Int)
  insts   : List (Nat × Word)
  stores  : List (Nat × List Byte)
  held    : List Nat
  satd    : List Nat
  poison  : Nat
  clips   : List Nat
  ran     : Nat
  stats   : List (Nat × Nat)
  started : List Nat
  cycles  : Nat
  reads   : List Nat

/-- The lane cost of an instance (R174). Log entry 34 (DESIGN CHOICE). -/
def laneCost (m : Mem) (n i : Nat) : Nat :=
  let w0 := descWord m n i 0
  let k := bits w0 2 1
  (if k = 0 then 24 else if k = 1 then 8 + 10 * bits w0 19 16 else 10 + 4 * bits w0 24 20)
    + (if bit w0 3 then 24 else 0)
    + 8 * ((upto 4).filter (fun r => bit (descWord m n i (1 + r)) 31)).length

/-- The fathom's worth of one instance (R174–R189). Log entry 46 (DEDUCED). -/
def Ctl.runInst (u : Ctl) (n : Nat) (i : SpanIn) (lower : List (Nat × Word)) (stage : Option (Option StageRun)) (r : LoopRun)
    (k : Nat) : LoopRun :=
  let m := i.mem
  let w0 := descWord m n k 0
  let wrap := bit w0 4
  let axis := if stage.isSome then bits w0 26 25 else 0
  let ax : Option AxisIn := match stage with
    | some (some s) => if axis = 0 then none else s.axes[axis - 1]?
    | _ => none
  let stageHeld := match stage with | some none => axis != 0 | _ => false
  let ref := fun j => u.refWord n i lower (descWord m n k j)
  let sp := ref 1
  let fb := ref 2
  let ff := ref 3
  let dfb := ref 4
  let poison := sp.2 || fb.2 || ff.2 || dfb.2
  let r := { r with reads := r.reads ++ (upto 4).filterMap (fun j => u.refAddr n i (descWord m n k (1 + j))) }
  let out := descWord m n k 5
  let outW := bits out 15 0
  let put := fun (r : LoopRun) (v : Word) =>
    { r with outs := if bit out 31 then (outW, v) :: r.outs else r.outs, insts := (k, v) :: r.insts }
  -- the shaper of an axis runs with the stage, whether or not its loop runs
  let axSh : Option Shaped := ax.bind (·.shaped)
  let isAxis := decide (axis ≠ 0)
  let shBytes := fun (s : Shaped) => (instAddr n k 10 3, s.st.bytes)
  let axFlags := match axSh with | some s => 32 * b2n s.shaping + 64 * b2n s.clip | none => 0
  let r := match axSh with
    | some s => { r with
        stores := r.stores ++ [shBytes s], clips := if s.clip then r.clips ++ [k] else r.clips,
        satd := if s.sat then r.satd ++ [k] else r.satd }
    | none => r
  let idle := isAxis && !stageHeld && !(match ax with | some a => a.run || a.held | none => true)
  let held := stageHeld || poison || (match ax with | some a => a.held | none => false)
  if idle then { r with stats := (k, axFlags) :: r.stats }
  else if held then
    let old := m.readWord (i.vis i.dstBlk + 4 * outW)
    let keep := if bit out 31 then old else rget u.regs (rk Reg.CTL_I_OUT n k)
    put { r with held := r.held ++ [k], poison := r.poison + b2n poison, stats := (k, 8 + 16 * b2n poison + axFlags) :: r.stats }
      keep
  else
    let isFirst := !(u.started.contains (512 * n + k))
    let sh : Option Shaped :=
      if isAxis then none
      else if bit w0 3 then
        let l := limitsOf m n k
        let tgt := sw sp.1
        let st := if isFirst then (⟨65536 * tgt, 0, 0⟩ : Shaper) else shaperOf m n k
        some (shape l.1 l.2.1 l.2.2 wrap st tgt)
      else none
    let spv := match sh with | some s => s.sp | none => sw sp.1
    let e := match ax with
      | some a => (a.e, false)
      | none => diff32 wrap spv (sw fb.1)
    let dfbV : Option Int := match ax with
      | some a => some a.dfb
      | none => if bit (descWord m n k 4) 31 then some (sw dfb.1) else none
    let bank := b2n (bit w0 5)
    let st := (upto 8).map (fun j => instWord m n k 9 j)
    let o := runKind (bits w0 2 1) (termOf m n k bank) st
      ⟨e.1, sw fb.1, sw ff.1, dfbV, sw (descWord m n k 6), sw (descWord m n k 7), wrap, bits w0 19 16, bits w0 24 20,
        match ax with | some a => a.pre | none => none⟩
    let pre := match ax with | some a => a.pre.isSome | none => false
    let sat := o.sat || e.2 || (match sh with | some s => s.sat | none => false)
    let flags := (match sh with | some s => 32 * b2n s.shaping + 64 * b2n s.clip | none => axFlags) + 128 * b2n pre
    let r := match sh with
      | some s => { r with
          stores := r.stores ++ [shBytes s], clips := if s.clip then r.clips ++ [k] else r.clips,
          started := (512 * n + k) :: r.started }
      | none => r
    let r := { r with
      stores := r.stores ++ [(instAddr n k 9 0, wordsBytes o.st)],
      satd := if sat then r.satd ++ [k] else r.satd, ran := r.ran + 1, stats := (k, flags) :: r.stats,
      axis := if isAxis then (axis, o.u) :: r.axis else r.axis }
    put r (wi o.u)

/-- One group of 16 instances (R174): its members see the outputs of lower groups only. -/
def Ctl.runGroup (u : Ctl) (n : Nat) (i : SpanIn) (stage : Option (Option StageRun)) (r : LoopRun) (g : Nat) : LoopRun :=
  let members := (upto 16).filter (fun l => decide (16 * g + l < u.cnt n) && instEn i.mem n (16 * g + l))
  let lower := r.outs
  let r := members.foldl (fun r l => u.runInst n i lower stage r (16 * g + l)) r
  { r with cycles := r.cycles + members.foldl (fun a l => max a (laneCost i.mem n (16 * g + l))) 0 }

/-- The swaps of engine n that take effect at this START (R183): ABANK inverted in the stored descriptors. Log entry 46 (DEDUCED). -/
def Ctl.swapDue (u : Ctl) (n : Nat) : List Nat := (u.swaps.filter (fun k => k / 512 == n)).map (· % 512)

/-- Memory with ABANK of instance k inverted. -/
def swapBank (m : Mem) (n k : Nat) : Store :=
  ⟨ctlPage n, instAddr n k 0 0, wordBytes (descWord m n k 0 ^^^ 0x20#32), false⟩

/-- CTLn_I_STAT of an instance after a run. -/
def Ctl.setStat (n : Nat) (m : Mem) (r : LoopRun) (regs : RMap) (k : Nat) : RMap :=
  let key := rk Reg.CTL_I_STAT n k
  let fl := ((r.stats.find? (fun e => e.1 == k)).map (·.2)).getD 0
  let sat := r.satd.contains k
  rmod regs key (fun x =>
    let c := if sat then satInc 16 (bits x 31 16) else bits x 31 16
    wd (b2n (bit (descWord m n k 0) 5) + 4 * b2n sat + fl + 0x10000 * c))

/-- The bits of a held bitmap word (R189). -/
def heldWord (held : List Nat) (j : Nat) : Word :=
  wd ((upto 32).foldl (fun a b => if held.contains (32 * j + b) then a + 2 ^ b else a) 0)

/-- LOOPS (R173–R189) of engine n; `stageIn` is what the stage reads, none when it is held, and the reads it makes.
Log entry 46 (DEDUCED). -/
def Ctl.loops (n : Nat) (i0 : SpanIn) (stageOn stageHeld : Bool) (stageIn : StageIn) (stageReads : List Nat) (u : Ctl) : R Ctl :=
  let page := ctlPage n
  let due := u.swapDue n
  let swaps := due.map (swapBank i0.mem n)
  let w := W.of { u with swaps := u.swaps.filter (fun k => k / 512 != n) }
  let w : W Ctl := { w with st := swaps }
  let w := w.when (!due.isEmpty) (fun w =>
    ((w.map (fun u => { u with regs := rmod u.regs (rk Reg.CTL_CNT_SWAP n 0) (fun x => addSatW x due.length) })).evt page 2).code
      page 0x0811 [wd due.length])
  let i : SpanIn := { i0 with mem := i0.mem.stores swaps }
  let miss := fun (u : Ctl) => { u with regs := rmod u.regs (rk Reg.CTL_STAT n 0) (fun x => putBit x 0 true) }
  let ens := u.enabled i.mem n
  let bad := ens.any (fun k => i.mem.anyBad (instAddr n k 0 0) 11)
  let w := ens.foldl (fun w k => w.readN i.mem page (instAddr n k 0 0) 11) w
  if !u.fits n i then R.bad (((w.map miss).evt page 0).code page 0x2802 [])
  else if bad then R.bad (((w.map miss).evt page 0).code page 0x20C3 [])
  else
    let sr : Option StageRun := if stageOn && !stageHeld then some (stageRun i.mem u stageIn) else none
    let stage : Option (Option StageRun) := if stageOn then some sr else none
    let r0 : LoopRun := ⟨[], [], [], [], [], [], 0, [], 0, [], [], 800 + (if stageOn then 4000 else 0), []⟩
    let r := (upto ((u.cnt n + 15) / 16)).foldl (u.runGroup n i stage) r0
    let visRec := i.mem.readWords (i.vis i.dstBlk) 16
    let fin : Option Stage := sr.map (fun s => { s.s with dem := s.demands u.stage r.axis })
    let rec_ : List Word := match sr, fin with
      | some s, some f => f.record stageIn s.flags s.auto
      | _, _ => visRec
    let codes := match sr with | some s => s.codes | none => []
    let w := codes.foldl (fun w c => w.code page c.1 c.2) w
    let w := (stageReads ++ r.reads).foldl (fun w a => w.readN i.mem page a 1) w
    let w := w.when (stageOn && stageHeld) (fun w => (w.code page 0x20C3 []).code page 0x2812 [])
    let w := (upto r.poison).foldl (fun w _ => (w.code page 0x20C3 []).code page 0x2812 []) w
    let w := r.clips.foldl (fun w k => (w.evt page 4).code page 0x1813 [wd k]) w
    let w := w.when (!r.satd.isEmpty) (fun w =>
      ((w.map (fun u => { u with regs := rmod u.regs (rk Reg.CTL_CNT_SAT n 0) incW })).evt page 1).code page 0x1810
        [wd (r.satd.foldl min 512)])
    let w := w.when (decide (0 < r.poison)) (·.evt page 3)
    let stat := wd (2 * b2n (!r.satd.isEmpty) + 4 * b2n (decide (0 < r.poison)) + 8 * b2n stageOn + 16 * b2n (stageOn && stageHeld)
      + 0x10000 * r.ran)
    let w := w.map (fun u => { u with
      regs := ens.foldl (Ctl.setStat n i.mem r) (rsets u.regs [(rk Reg.CTL_STAT n 0, stat), (rk Reg.CTL_RUN n 0, wd r.cycles)]),
      work := (n, ⟨r.stores, r.started, r.insts, fin⟩) :: u.work.filter (fun e => e.1 != n) })
    let w := r.outs.foldl (fun w o => w.store page (i.dst + 4 * o.1) (wordBytes o.2)) w
    let w := w.when stageOn (·.store page i.dst (wordsBytes rec_))
    let hw := rget u.regs (rk Reg.CTL_HELD_W n 0)
    let w := w.when (bit hw 31) (fun w => (upto ((u.cnt n + 31) / 32)).foldl (fun w j =>
      w.store page (i.dst + 4 * (bits hw 15 0 + j)) (wordBytes (heldWord r.held j))) w)
    R.good w

/-- The publication of a LOOPS run (R171, R189): loop and shaper states, outputs and the stage are committed. -/
def Ctl.publish (n : Nat) (u : Ctl) : W Ctl :=
  match u.work.find? (fun e => e.1 == n) with
  | none => W.of u
  | some (_, k) =>
    let regs := k.outs.foldl (fun r o => rset r (rk Reg.CTL_I_OUT n o.1) o.2) u.regs
    let w := W.of { u with
      work := u.work.filter (fun e => e.1 != n), started := k.started ++ u.started, regs := regs, stage := k.stage.getD u.stage }
    k.stores.foldl (fun w s => w.store (ctlPage n) s.1 s.2) w

/-- A missed LOOPS (R189). Log entry 33 (DEDUCED). -/
def Ctl.miss (n : Nat) (u : Ctl) : W Ctl :=
  (W.of { u with
    work := u.work.filter (fun e => e.1 != n), regs := rmod u.regs (rk Reg.CTL_STAT n 0) (fun x => putBit x 0 true) }).evt
    (ctlPage n) 0

/-! ## The window and swap requests (R175, R183) -/

/-- The window position after one more word (R175). -/
def nextWindow (pos : Nat) : Nat := if pos = 87 then 0 else pos + 1

/-- Whether a swap of instance k of engine n waits. -/
def Ctl.swapPending (u : Ctl) (n k : Nat) : Bool := u.swaps.contains (512 * n + k)

/-- A write of CTLn_I_DATA (R175), run telling whether the module is in RUN. Log entry 46 (DEDUCED). -/
def Ctl.dataWrite (m : Mem) (n : Nat) (run : Bool) (v : Word) (u : Ctl) : W Ctl :=
  let k := rfld u.regs (rk Reg.CTL_SEL n 0) 8 0
  let win := rk Reg.CTL_I_WIN n k
  let word := rfld u.regs win 2 0
  let blk := rfld u.regs win 6 3
  let active := b2n (bit (descWord m n k 0) 5)
  let bankOf := if 1 ≤ blk ∧ blk ≤ 4 then some 0 else if 5 ≤ blk ∧ blk ≤ 8 then some 1 else none
  let allowed := if run then (match bankOf with | some b => decide (b ≠ active) | none => false)
    else !(blk == 10 && word == 7)
  let inactive := match bankOf with | some b => decide (b ≠ active) | none => false
  let next := nextWindow (8 * blk + word)
  if 10 < blk ∨ !allowed then (W.of u).code (ctlPage n) 0x1804 []
  else if inactive && u.swapPending n k then (W.of u).code (ctlPage n) 0x1803 []
  else
    (W.of { u with regs := rset u.regs win (wd next) }).store (ctlPage n) (instAddr n k blk word) (wordBytes v)

/-- SWAP_PEND shown in CTLn_I_STAT. -/
def Ctl.showPend (n k : Nat) (u : Ctl) : Ctl := { u with regs := rmod u.regs (rk Reg.CTL_I_STAT n k) (fun x => putBit x 1 true) }

/-- A write of CTLn_I_SWAP.SWAP (R183). -/
def Ctl.swapOne (n : Nat) (u : Ctl) : W Ctl :=
  let k := rfld u.regs (rk Reg.CTL_SEL n 0) 8 0
  W.of (if u.swapPending n k then u else Ctl.showPend n k { u with swaps := u.swaps ++ [512 * n + k] })

/-- A write of CTLn_I_SWAP.ALL (R183): every enabled instance. -/
def Ctl.swapAll (m : Mem) (n : Nat) (u : Ctl) : W Ctl :=
  let new := ((upto 512).filter (fun k => instEn m n k && !u.swapPending n k))
  W.of (new.foldl (fun u k => Ctl.showPend n k u) { u with swaps := u.swaps ++ new.map (512 * n + ·) })

/-! ## The exit from CONFIG (R185, R190) -/

/-- The words an enabled instance of a lower group writes. -/
def Ctl.lowerOut (m : Mem) (u : Ctl) (n k w : Nat) : Bool :=
  (u.enabled m n).any (fun j => decide (j / 16 < k / 16) && bit (descWord m n j 5) 31 && bits (descWord m n j 5) 15 0 == w)

/-- A reference that R190 admits. -/
def Ctl.refOk (m : Mem) (u : Ctl) (n k : Nat) (r : Word) : Bool :=
  let p := bits r 18 16
  !bit r 31 || p == 0 || (p == 7 && u.lowerOut m n k (bits r 15 0))
    || (decide (1 ≤ p) && decide (p ≤ 6) && decide (rfld u.regs (rk Reg.CTL_PAIR1 n 0 + 4 * (p - 1)) 27 19 ≠ 0))

/-- The checks of R190 on one enabled instance. -/
def Ctl.instOk (m : Mem) (stage : Bool) (u : Ctl) (n k : Nat) : Bool :=
  let w0 := descWord m n k 0
  let kind := bits w0 2 1
  let ord := bits w0 19 16
  let nt := bits w0 24 20
  let axis := bits w0 26 25
  let rc := fun x => decide (x < ord) || x == 8
  let l := limitsOf m n k
  kind != 3
    && (if kind = 2 then decide (1 ≤ ord) && decide (ord ≤ 8) && decide (1 ≤ nt) && decide (nt ≤ 16)
        else if kind = 1 then decide (1 ≤ ord) && decide (ord ≤ 3) && nt == 0 else ord == 0 && nt == 0)
    && (kind != 2 || (upto 2).all (fun b => (upto nt).all (fun t => rc (termOf m n k b t).row && rc (termOf m n k b t).col)))
    && decide (swAt [descWord m n k 7] 0 ≤ swAt [descWord m n k 6] 0)
    && (kind != 0 || (upto 2).all (fun b => decide ((termOf m n k b 6).c ≤ (termOf m n k b 5).c)))
    && (!bit w0 3 || (decide (l.1 ≠ 0) && decide (l.2.1 ≠ 0) && decide (l.2.2 ≠ 0)))
    && (upto 4).all (fun r => u.refOk m n k (descWord m n k (1 + r)))
    && (axis == 0 || (n == 0 && kind == 0 && bit w0 3 && !bit (descWord m n k 1) 31 && !bit (descWord m n k 2) 31
        && !(upto k).any (fun j => instEn m n j && bits (descWord m n j 0) 26 25 == axis)))
    && (!bit (descWord m n k 5) 31 ||
        (!(upto k).any (fun j => instEn m n j && bit (descWord m n j 5) 31
            && bits (descWord m n j 5) 15 0 == bits (descWord m n k 5) 15 0)
          && !(stage && n == 0 && decide (bits (descWord m n k 5) 15 0 < 16))))

/-- The first instance of engine n that fails R190; 512 for CTLn_INST_CNT. Log entry 46 (DEDUCED). -/
def Ctl.exitCheck (m : Mem) (stage : Bool) (n : Nat) (u : Ctl) : Option Nat :=
  if 512 < u.cnt n then some 512 else (u.enabled m n).find? (fun k => !u.instOk m stage n k)

/-- The exit from CONFIG (R185): every shaper is to start afresh. -/
def Ctl.start (u : Ctl) : Ctl := { u with started := [], work := [] }

/-- The instances held in the last run (SNAP_4). -/
def Ctl.heldCount (u : Ctl) (n : Nat) : Nat :=
  ((upto 512).filter (fun k => rbit u.regs (rk Reg.CTL_I_STAT n k) 3)).length

end Sys2Proof.Machine
end

