-- ==== Sys2Proof/Machine/Nvs.lean ====
section
/-! DEFINITION. The nonvolatile store (R425, R426, R430): its regions, transfers, configuration sets and the key block (R303). -/

namespace Sys2Proof.Machine

/-! ## Regions (R425) -/

/-- The offset of a region in the window; region 12 has none. -/
def nvsBase (i : Nat) : Nat :=
  [0x0, 0x200000, 0xA00000, 0x1200000, 0x1400000, 0x1600000, 0x1680000, 0x1700000, 0x1F10000, 0x1F12000, 0x1F32000, 0x2000000,
   0xFFFFFFFF].getD i 0

/-- The size of a region in bytes. -/
def nvsSize (i : Nat) : Nat :=
  [0x200000, 0x800000, 0x800000, 0x200000, 0x200000, 0x80000, 0x80000, 0x810000, 0x2000, 0x20000, 0xCE000, 0x2000000, 0x10000].getD i 0

/-- The address of a region in the internal address map. -/
def nvsAddr (i : Nat) : Nat := 0x30000000 + nvsBase i

/-- The region a byte address lies in: 0–11 in the window, 12 in the shelf bank. -/
def nvsRegionOf (a : Nat) : Option Nat :=
  if shelfBase ≤ a ∧ a < shelfBase + 0x10000 then some 12
  else (upto 12).find? (fun i => decide (nvsAddr i ≤ a) && decide (a < nvsAddr i + nvsSize i))

/-- NVS with blocks written counted, per region (R430). -/
def Nvs.countWrites (st : Store) (u : Nvs) : Nvs :=
  match nvsRegionOf st.addr with
  | some r => { u with
      regs := rmod u.regs (rk Reg.NVS_R_WRITES 0 r) (fun x => addSatW x (blocksOf st.addr st.data.length).length) }
  | none => u

/-- A failed write of region r at an offset in it (R426). Log entry 77 (DEDUCED). -/
def Nvs.fail (r off : Nat) (u : Nvs) : W Nvs :=
  let u : Nvs := { u with regs := rmod u.regs (rk Reg.NVS_R_STAT 0 r) (fun x => incSatField x 31 16) }
  ((W.of u).evt Pg.NVS 0).code Pg.NVS 0x1160 [wd r, wd off]

/-- A failed write of a ring slot at true time now (R426): the second within one second fails the recorder bank. Log entry 77 (DEDUCED). -/
def Nvs.ringFail (now slot : Nat) (u : Nvs) : W Nvs :=
  let again := match u.lastFail with | some t => decide (now - t ≤ 1000000000) | none => false
  let w := Nvs.fail 11 (64 * slot) { u with lastFail := some now }
  if again && !rbit u.regs Reg.NVS_STAT 1 then
    (w.map (fun u => { u with regs := rmod u.regs Reg.NVS_STAT (fun x => putBit x 1 true) })).code Pg.NVS 0x3161 []
  else w

/-- The content of a region marked SOUND, or not (R430). -/
def Nvs.mark (r : Nat) (ok : Bool) (u : Nvs) : Nvs := { u with sound := if ok then u.sound ||| BitVec.twoPow 16 r else u.sound &&& ~~~(BitVec.twoPow 16 r) }

/-! ## Configuration sets (R425) -/

/-- The LENGTH of the set at a byte address. -/
def cfgLength (m : Mem) (a : Nat) : Nat := (m.readWord (a + 4)).toNat
/-- Its SEQ. -/
def cfgSeq (m : Mem) (a : Nat) : Nat := (m.readWord (a + 8)).toNat

/-- A copy whose MAGIC and CRC are sound. -/
def cfgSound (m : Mem) (a : Nat) : Bool :=
  let len := cfgLength m a
  m.readWord a == 0x5A7C5708#32 && decide (16 ≤ len) && decide (len ≤ 0x200000)
    && !m.anyBad a ((len + 31) / 32) && m.readWord (a + 12) == crc32 (m.readBytes (a + 16) (len - 16))

/-- The region of the newer copy: the higher SEQ among those that are sound. -/
def cfgNewer (m : Mem) : Option Nat :=
  match cfgSound m (nvsAddr 3), cfgSound m (nvsAddr 4) with
  | false, false => none
  | true, false => some 3
  | false, true => some 4
  | true, true => some (if cfgSeq m (nvsAddr 3) < cfgSeq m (nvsAddr 4) then 4 else 3)

/-- The region of the older copy, the one that is written. -/
def cfgOlder (m : Mem) : Nat := match cfgNewer m with | some 3 => 4 | _ => 3

/-- A record of a set: an access of a register or of bytes, or a record that no access can be made from. -/
inductive CfgRecord where
  | word (addr : Nat) (value : Word)
  | bytes (addr : Nat) (data : List Byte)
  | bad
  deriving DecidableEq, Repr

/-- The records from a byte offset of the set at a, up to KIND 15 or the end of the set. -/
def cfgRecords (m : Mem) (a len : Nat) : Nat → Nat → List CfgRecord
  | 0, _ => []
  | fuel + 1, off =>
    if len ≤ off then []
    else
      let kind := bits (m.readWord (a + off)) 31 28
      if kind = 15 then []
      else if kind = 1 then .word (m.readWord (a + off + 4)).toNat (m.readWord (a + off + 8)) :: cfgRecords m a len fuel (off + 12)
      else if kind = 2 then
        let n := (m.readWord (a + off + 8)).toNat
        .bytes (m.readWord (a + off + 4)).toNat (m.readBytes (a + off + 12) (min n (len - off))) ::
          cfgRecords m a len fuel (off + 12 + 4 * ((n + 3) / 4))
      else [.bad]

/-- The records of the set at a. -/
def cfgSet (m : Mem) (a : Nat) : List CfgRecord := cfgRecords m a (cfgLength m a) (cfgLength m a / 12) 16

/-- The bytes of a set of register values, with SEQ. Log entry 80 (DEDUCED). -/
def cfgBuild (seq : Nat) (l : List (Nat × Word)) : List Byte :=
  let body := wordsBytes (l.flatMap (fun e => [0x10000000#32, wd e.1, e.2]) ++ [0xF0000000#32])
  wordsBytes [0x5A7C5708#32, wd (16 + body.length), wd seq, crc32 body] ++ body

/-! ## The key block (R303) -/

/-- The slots of a list of keys that are set, as a bitmap. -/
def keySlots (l : List (Nat × List Byte)) : Nat := (upto 4).foldl (fun a i => if l.any (fun e => e.1 == i) then a + 2 ^ i else a) 0

/-- The key of a slot. -/
def keyOf (l : List (Nat × List Byte)) (slot : Nat) : Option (List Byte) := (l.find? (fun e => e.1 == slot)).map (·.2)

/-- A key stored, or erased by 32 zero bytes. -/
def keySet (l : List (Nat × List Byte)) (slot : Nat) (k : List Byte) : List (Nat × List Byte) :=
  let rest := l.filter (fun e => e.1 != slot)
  if k.all (· == 0) then rest else rest ++ [(slot, k)]

/-! ## Transfers (R426) -/

/-- Whether a region is never written by a transfer. -/
def nvsClosed (r : Nat) : Bool := !(decide (r ≤ 4) || r == 7)

/-- Whether the module's state admits a transfer's write of a region: image is the slot whose image is loaded, if one is (R425). -/
def nvsAdmits (mode : Mode) (image : Option Nat) (r : Nat) : Bool :=
  match mode with
  | .halt => r == 0
  | .service => true
  | .config => r != 0
  | .ready => r != 0 && r != 7
  | .run => r != 0 && r != 7 && image != some r
  | _ => false

/-- Whether bytes of region r lie in a part that is kept from transfers: the running firmware copy, the newer configuration copy. -/
def nvsKept (m : Mem) (copy : Option Nat) (r off len : Nat) : Bool :=
  if r = 0 then (match copy with
    | some c => decide (off < 0x100000 * (c + 1)) && decide (0x100000 * c < off + len)
    | none => false)
  else (r == 3 || r == 4) && cfgNewer m == some r

/-- The STATUS of a DATA operation of a session (R426): `ok` is the read-back, `grant` whether requester 20 may go on. -/
def Nvs.dataStatus (m : Mem) (mode : Mode) (image copy : Option Nat) (grant ok : Bool) (session off len : Nat) (u : Nvs) : Nat :=
  match u.transfer with
  | none => 1
  | some t =>
    if t.session ≠ session then 1
    else if nvsClosed t.region then 2
    else if !nvsAdmits mode image t.region then 1
    else if off < t.offset ∨ t.offset + t.length < off + len ∨ 1024 < len then 3
    else if nvsKept m copy t.region off len then 2
    else if !grant then 4
    else if !ok then 6
    else 0

/-- An OPEN of a session (R426). -/
def Nvs.openStatus (mode : Mode) (grant : Bool) (r off len : Nat) (u : Nvs) : Nat :=
  if u.transfer.isSome then 1
  else if mode = .halt ∧ r ≠ 0 then 1
  else if 12 < r then 3
  else if nvsSize r < off + len then 3
  else if !grant then 4
  else 0

/-- A READ of a session (R426). -/
def Nvs.readStatus (grant : Bool) (session off len : Nat) (u : Nvs) : Nat :=
  match u.transfer with
  | none => 1
  | some t =>
    if t.session ≠ session then 1
    else if !grant then 4
    else if t.region = 8 ∨ t.region = 11 then 2
    else if off < t.offset ∨ t.offset + t.length < off + len ∨ 1024 < len then 3
    else 0

/-- PAGE_STAT[15:8] of NVS (R430). -/
def Nvs.pageState (ready : Bool) (u : Nvs) : Nat := if !ready then 0 else if rbit u.regs Reg.NVS_STAT 1 then 2 else 1

end Sys2Proof.Machine
end

