-- ==== Sys2Proof/Machine/Plant.lean ====
section
/-! DEFINITION. The Ethernet ports, PRP and the plant interface (R298–R300): links, frames received on the two LANs,
supervision, and answers to ARP and ICMP echo. Frame layouts are those of the standards R298–R300 name (assumption 21). -/

namespace Sys2Proof.Machine

/-- A cell changed. -/
def Net.mod (u : Net) (k : Nat) (f : Word → Word) : Net := { u with regs := rmod u.regs k f }

/-- The MAC address of a port. -/
def Net.mac (u : Net) (port : Nat) : Nat :=
  (rget u.regs (rk Reg.ETH_MAC_L port 0)).toNat + 4294967296 * rfld u.regs (rk Reg.ETH_MAC_H port 0) 15 0

/-- A link lost (R298). -/
def Net.linkDown (port : Nat) (u : Net) : W Net :=
  if rbit u.regs (rk Reg.ETH_STAT port 0) 0 then
    ((W.of ((u.mod (rk Reg.ETH_STAT port 0) (fun w => w &&& ~~~7#32)).mod (rk Reg.ETH_LINK_CNT port 0) incW)).evt
      (Pg.ETH + port) 0).code (Pg.ETH + port) 0x1D40 [wd port]
  else W.of u

/-- A link gained at a speed (1: 100, 2: 1,000 Mbit/s); a half-duplex partner is refused with HALF set (R298). -/
def Net.linkUp (port speed : Nat) (half : Bool) (u : Net) : W Net :=
  let k := rk Reg.ETH_STAT port 0
  if half then W.of (u.mod k (fun w => putBit w 3 true))
  else if rbit u.regs k 0 then W.of u
  else
    ((W.of (u.mod k (fun w => putBit (putBits (putBit w 0 true) 2 1 speed) 3 false))).evt (Pg.ETH + port) 0).code
      (Pg.ETH + port) 0x0D41 [wd port]

/-- Whether ETH2 and ETH3 form a doubly attached node (R299). -/
def Net.prpOn (feat13 : Bool) (u : Net) : Bool := feat13 && rbit u.regs Reg.PRP_CTRL 0

/-- The redundancy control trailer of a frame sent on a LAN. Log entry 21 (PRESUMED). -/
def prpTrailer (seq lan size : Nat) : List Byte := beBytes 2 seq ++ beBytes 2 ((10 + lan) * 4096 + size % 4096) ++ beBytes 2 0x88FB

/-- A plant frame sent: on both LANs with its trailer, or on ETH2 alone (R299). -/
def Net.send (feat13 : Bool) (frame : List Byte) (w : W Net) : W Net :=
  let count := fun (p : Nat) (w : W Net) => w.map (fun u => u.mod (rk Reg.ETH_TX_CNT p 0) (· + 1#32))
  if w.u.prpOn feat13 then
    let seq := w.u.seqOut
    let size := frame.length - 14 + 6
    let w := w.map (fun u => { u with seqOut := (seq + 1) % 65536 })
    ((count 3 (count 2 w)).emit (.eth 2 (frame ++ prpTrailer seq 0 size))).emit (.eth 3 (frame ++ prpTrailer seq 1 size))
  else (count 2 w).emit (.eth 2 frame)

/-- A frame as it is taken (R298): at most 2,000 bytes, untagged, or priority-tagged and then without its tag; none of another VLAN. -/
def untagged (frame : List Byte) : Option (List Byte) :=
  if 2000 < frame.length then none
  else if beNat (sliceB frame 12 2) = 0x8100 then
    (if beNat (sliceB frame 14 2) % 4096 = 0 then some (frame.take 12 ++ frame.drop 16) else none)
  else some frame

/-- Whether a frame is an IPv4 fragment: more fragments to come, or a fragment offset. -/
def isFragment (frame : List Byte) : Bool :=
  beNat (sliceB frame 12 2) == 0x0800 && decide (beNat (sliceB frame 20 2) % 16384 ≠ 0)

/-- A plant frame on LAN A (0) or B (1) (R299, R300): counted; a second copy within 400 ms, a fragment, or a frame on ETH3
without PRP is discarded. Log entry 89 (DEDUCED). -/
def Net.taken (feat13 : Bool) (lan : Nat) (now : Int) (frame : List Byte) (u : Net) : W Net :=
  let port := 2 + lan
  let n := frame.length
  let u := u.mod (rk Reg.ETH_RX_CNT port 0) (· + 1#32)
  let u := u.mod (if lan = 0 then Reg.PRP_CNT_A else Reg.PRP_CNT_B) (· + 1#32)
  let u := { u with lastA := if lan = 0 then some now else u.lastA, lastB := if lan = 0 then u.lastB else some now }
  let u := u.mod Reg.PRP_LAN_STAT (fun w => putBit w lan true)
  let frag := fun (u : Net) => if isFragment frame then u.mod Reg.PRP_CNT_ERR (fun c => incSatField c 31 16) else u
  if !u.prpOn feat13 then W.of (frag u)
  else if beNat (sliceB frame (n - 2) 2) = 0x88FB ∧ 20 ≤ n then
    let id := beNat (sliceB frame (n - 4) 2) / 4096
    let seq := beNat (sliceB frame (n - 6) 2)
    let src := beNat (sliceB frame 6 6)
    let recent := u.seen.filter (fun x => decide (now - x.2.2 < 400000000))
    let w := W.of u
    let w := w.when (decide (id ≠ 10 + lan)) (fun w =>
      ((w.map (fun u => u.mod Reg.PRP_CNT_ERR (fun c => incSatField c 15 0))).evt Pg.PRP 1).code Pg.PRP 0x1D61 [wd lan])
    if recent.any (fun x => x.1 == src && x.2.1 == seq) then
      w.map (fun u => { u.mod Reg.PRP_CNT_DUP (· + 1#32) with seen := recent })
    else w.map (fun u => frag { u with seen := (src, seq, now) :: recent })
  else W.of (frag u)

/-- A plant frame on a LAN (R298, R299); one that is not taken counts as a drop (DEDUCED, log entry 89). Log entry 61 (DEDUCED). -/
def Net.frame (feat13 : Bool) (lan : Nat) (now : Int) (frame : List Byte) (u : Net) : W Net :=
  match untagged frame with
  | some f => Net.taken feat13 lan now f u
  | none => W.of (u.mod (rk Reg.ETH_ERR_CNT (2 + lan) 0) (fun c => incSatField c 31 16))

/-- No frame from a LAN for three supervision intervals (R299). -/
def Net.lanLoss (lan : Nat) (now : Int) (u : Net) : W Net :=
  let last := if lan = 0 then u.lastA else u.lastB
  let silent := match last with | some t => decide (6000000000 ≤ now - t) | none => true
  if silent && rbit u.regs Reg.PRP_LAN_STAT lan then
    ((W.of (u.mod Reg.PRP_LAN_STAT (fun w => putBit w lan false))).evt Pg.PRP 0).code Pg.PRP 0x1D60 [wd lan]
  else W.of u

/-- A supervision frame (R299). Log entry 21 (PRESUMED). -/
def Net.supervise (feat13 : Bool) (u : Net) : W Net :=
  if u.prpOn feat13 && rbit u.regs Reg.PRP_CTRL 1 then
    let mac := beBytes 6 (u.mac 2)
    let body := beBytes 2 1 ++ beBytes 2 u.seqOut ++ beBytes 1 20 ++ beBytes 1 6 ++ mac ++ beBytes 2 0
    Net.send feat13 (beBytes 6 0x01154E000100 ++ mac ++ beBytes 2 0x88FB ++ body) (W.of u)
  else W.of u

/-- The Internet checksum of bytes. Log entry 21 (PRESUMED). -/
def inetChecksum (bs : List Byte) : Nat :=
  let rec sum : List Byte → Nat
    | a :: b :: r => a.toNat * 256 + b.toNat + sum r
    | [a] => a.toNat * 256
    | [] => 0
  let s := sum bs
  let s := s % 65536 + s / 65536
  65535 - (s % 65536 + s / 65536)

/-- An ARP request or ICMP echo for the plant address answered (R300). Log entries 21 (PRESUMED), 89 (DEDUCED). -/
def Net.answer (feat13 : Bool) (whole : List Byte) (u : Net) : W Net :=
  let frame := (untagged whole).getD []
  let ip := (rget u.regs Reg.PRP_IP).toNat
  let mac := beBytes 6 (u.mac 2)
  let from_ := sliceB frame 6 6
  let ty := beNat (sliceB frame 12 2)
  if ip = 0 then W.of u
  else if ty = 0x0806 ∧ beNat (sliceB frame 20 2) = 1 ∧ beNat (sliceB frame 38 4) = ip then
    Net.send feat13 (from_ ++ mac ++ sliceB frame 12 8 ++ beBytes 2 2 ++ mac ++ beBytes 4 ip ++ sliceB frame 22 10) (W.of u)
  else if ty = 0x0800 ∧ byteAt frame 23 = 1 ∧ byteAt frame 34 = 8 ∧ beNat (sliceB frame 30 4) = ip ∧ !isFragment frame then
    let len := beNat (sliceB frame 16 2) - 20
    let data := sliceB frame 38 (len - 4)
    let icmp := beBytes 2 0 ++ beBytes 2 (inetChecksum (beBytes 4 0 ++ data)) ++ data
    let head := sliceB frame 14 10 ++ beBytes 2 0 ++ beBytes 4 ip ++ sliceB frame 26 4
    let head := head.take 10 ++ beBytes 2 (inetChecksum head) ++ head.drop 12
    Net.send feat13 (from_ ++ mac ++ beBytes 2 0x0800 ++ head ++ icmp) (W.of u)
  else W.of u

/-- The checks on leaving CONFIG of the plant interface (R308): an address while a plant port is enabled, and no two
enabled filter entries with equal address and group. Log entry 91 (DEDUCED). -/
def Net.exitOk (u : Net) : Bool :=
  let plant := rbit u.regs (rk Reg.ETH_CTRL 2 0) 0 || rbit u.regs (rk Reg.ETH_CTRL 3 0) 0
  let key := fun (n : Nat) =>
    let c := rget u.regs (rk Reg.PRP_F_CFG 0 n)
    (rget u.regs (rk Reg.PRP_F_ADDR 0 n), bits c 7 0, bits c 11 9)
  let on := (upto 32).filter (fun n => rbit u.regs (rk Reg.PRP_F_CFG 0 n) 8)
  !(plant && rget u.regs Reg.PRP_IP == 0)
  && on.all (fun a => on.all (fun b => a == b || key a != key b))

/-- A LATCH with ARG[5] (R301): each entry's count of sentences since the previous latch. -/
def Net.latch (u : Net) : Net :=
  let put := fun (m : RMap) (n : Nat) =>
    let c := sget (fun _ => 0) u.sentences n
    rmod m (rk Reg.PRP_F_STAT 0 n) (fun w => putBits w 15 0 (min c 65535))
  { u with regs := (upto 32).foldl put u.regs, sentences := [] }

end Sys2Proof.Machine
end

