-- ==== Sys2Proof/Machine/Position.lean ====
section
/-! DEFINITION. The position channels (R351–R364): SSI requests and frames, incremental counting, speed, the compare
unit, the divider, and the record of a LATCH. -/

namespace Sys2Proof.Machine

/-- What a channel nothing has touched is. -/
def posDefault (_ : Nat) : PosChan := PosChan.fresh

/-- Channel n. -/
def Pos.chan (u : Pos) (n : Nat) : PosChan := sget posDefault u.chans n

/-- Channel n set. -/
def Pos.putChan (u : Pos) (n : Nat) (x : PosChan) : Pos := { u with chans := sset posDefault u.chans n x }

/-- A cell of channel n. -/
def Pos.reg (u : Pos) (r n : Nat) : Word := rget u.regs (rk r n 0)

/-- A cell of channel n changed. -/
def Pos.mod (u : Pos) (r n : Nat) (f : Word → Word) : Pos := { u with regs := rmod u.regs (rk r n 0) f }

/-- A 64-bit pair of cells of channel n set. -/
def Pos.put64 (u : Pos) (rl rh n : Nat) (v : Int) : Pos := { u with regs := rset64 u.regs (rk rl n 0) (rk rh n 0) v }

/-- MODE of channel n (R351): 0 OFF, 1 SSI, 2 INCR. -/
def Pos.mode (u : Pos) (n : Nat) : Nat := bits (u.reg Reg.POS_CFG n) 1 0

/-- A bit of POSn_STAT set. -/
def Pos.stat (u : Pos) (n i : Nat) (b : Bool) : Pos := u.mod Reg.POS_STAT n (fun x => putBit x i b)

/-- The states in which a channel's clock driver and decoder work (R351). Log entry 95 (DEDUCED). -/
def posActive (m : Mode) : Bool := match m with
  | .ready => true | .run => true | .service => true
  | .off => false | .boot => false | .config => false | .halt => false

/-! ## SSI (R352–R355) -/

/-- Whether a frame or its recovery time is in progress at a true time: RECOV ends at the cycle after (R363). -/
def PosChan.busy (x : PosChan) (now : Nat) : Bool :=
  x.frame.isSome || (match x.recover with | some t => decide (now ≤ t) | none => false)

/-- A request refused (R355). -/
def Pos.refuse (n : Nat) (u : Pos) : W Pos :=
  let x := u.chan n
  let u := u.mod Reg.POS_SSI_ERR n (fun e => incSatField e 31 16)
  (W.of (u.putChan n { x with refused := true, failed := true })).when (!x.refused) (·.code (Pg.POS + n) 0x1121 [])

/-- An SSI request of a channel in MODE 1 (R352, R353, R355): `line` is the data line at the request, `t` module time.
Log entry 68 (DEDUCED). -/
def Pos.request (m : Mode) (now : Nat) (t : Int) (n : Nat) (line : Bool) (u : Pos) : W Pos :=
  if u.mode n = 1 ∧ posActive m = true then
    let x := u.chan n
    if x.busy now then u.refuse n
    else
      let u := u.stat n 4 (!line)
      if line then W.of (u.putChan n { x with frame := some t, recover := none, refused := false })
      else u.refuse n
  else W.of u

/-- Gray decoding of k bits: each bit becomes the exclusive OR of itself and every bit above it (R354). -/
def grayDecode : Nat → Nat → Nat
  | 0, v => v
  | k + 1, v => grayDecode k (v ^^^ (v >>> 2 ^ k))

/-- The position of a received word (R354). -/
def Pos.position (u : Pos) (n word : Nat) : Nat :=
  let v := word >>> bits (u.reg Reg.POS_SSI_FMT n) 4 0
  if rbit u.regs (rk Reg.POS_CFG n 0) 2 then grayDecode 5 v else v

/-- The end of an SSI frame (R353–R355): the WBITS samples of the word and whether the monoflop sample read high. Log entry 68 (DEDUCED). -/
def Pos.frameEnd (now : Nat) (n word : Nat) (high : Bool) (u : Pos) : W Pos :=
  let x := u.chan n
  match x.frame with
  | none => W.of u
  | some t =>
    let page := Pg.POS + n
    let word := word % 2 ^ bits (u.reg Reg.POS_SSI n) 21 16 % 4294967296
    let fmt := u.reg Reg.POS_SSI_FMT n
    let x := { x with frame := none, recover := some (now + 1000 * bits fmt 31 16) }
    let enc := bit fmt 8 && decide (word % 2 = 1)
    if high || enc then
      let onset := !bit (u.reg Reg.POS_STAT n) 3
      let u := (u.putChan n { x with failed := true }).mod Reg.POS_SSI_ERR n (fun e => incSatField e 15 0)
      let u := (u.stat n 3 true).stat n 5 (!high && enc)
      ((W.of u).evt page 1).when onset (·.code page 0x2120 [])
    else
      let p := u.position n word
      let u := (u.putChan n { x with failed := false }).mod Reg.POS_SSI_RAW n (fun _ => wd word)
      let u := (u.mod Reg.POS_SSI_POS n (fun _ => wd p)).put64 Reg.POS_TS_L Reg.POS_TS_H n t
      let w := W.of ((u.stat n 3 false).stat n 5 false)
      (w.when x.failed (·.code page 0x0122 [])).sample ⟨0x60 + n, 0, t, sw (wd p)⟩

/-! ## Counting (R356, R357) -/

/-- MIN_INT as a number of samples of 6.25 ns (R356). -/
def Pos.minSamples (u : Pos) (n : Nat) : Nat := (bits (u.reg Reg.POS_MINT n) 13 0 * 4 + 24) / 25

/-- The samples of 6.25 ns between two true times, to the nearest. -/
def samplesBetween (t t0 : Nat) : Nat := ((t - t0) * 8 + 25) / 50

/-- Whether a change from one state of the lines (A + 2 × B) to another by one line is A leading B. -/
def aLeads (old new : BitVec 2) : Bool :=
  (old == 0#2 && new == 1#2) || (old == 1#2 && new == 3#2) || (old == 3#2 && new == 2#2) || (old == 2#2 && new == 0#2)

/-- The count moved by one edge, with REVS (R357). -/
def Pos.move (u : Pos) (n : Nat) (up : Bool) : Pos :=
  let md := (u.reg Reg.POS_MOD n).toNat
  let c := (u.reg Reg.POS_COUNT n).toNat
  if md = 0 then u.mod Reg.POS_COUNT n (fun x => if up then x + 1#32 else x - 1#32)
  else if up then
    if c + 1 < md then u.mod Reg.POS_COUNT n (fun _ => wd (c + 1))
    else (u.mod Reg.POS_COUNT n (fun _ => 0)).mod Reg.POS_REVS n (· + 1#32)
  else
    if c = 0 then (u.mod Reg.POS_COUNT n (fun _ => wd (md - 1))).mod Reg.POS_REVS n (· - 1#32)
    else u.mod Reg.POS_COUNT n (fun _ => wd (c - 1))

/-- A write of POSn_COUNT (R357): preset modulo MOD, REVS to 0. -/
def Pos.preset (n : Nat) (v : Word) (u : Pos) : Pos :=
  let md := (u.reg Reg.POS_MOD n).toNat
  (u.mod Reg.POS_COUNT n (fun _ => if md = 0 then v else wd (v.toNat % md))).mod Reg.POS_REVS n (fun _ => 0)

/-! ## Compare unit (R360, R361) -/

/-- Whether an edge has been accepted within the last STOP_T µs (R358). -/
def Pos.moving (u : Pos) (n now : Nat) : Bool :=
  match (u.chan n).edgeAt with
  | some t => decide (now - t ≤ 1000 * bits (u.reg Reg.POS_STOP n) 23 0)
  | none => false

/-- The compare unit armed, and its position classed (R361). -/
def Pos.arm (n now : Nat) (u : Pos) : W Pos :=
  let c := (u.reg Reg.POS_COUNT n).toNat
  let p := (u.reg Reg.POS_CMP n).toNat
  let up := bit (u.reg Reg.POS_STAT n) 0
  let behind := u.moving n now && ((up && decide (p < c)) || (!up && decide (c < p)))
  let w := W.of (u.mod Reg.POS_CMP_STAT n (fun x => putBit (putBit x 0 true) 1 behind))
  w.when behind (fun w => (w.evt (Pg.POS + n) 3).code (Pg.POS + n) 0x1131 [])

/-- A write of POSn_CMP arms (R360). Log entry 68 (DEDUCED). -/
def Pos.writeCmp (n now : Nat) (v : Word) (u : Pos) : W Pos := (u.mod Reg.POS_CMP n (fun _ => v)).arm n now

/-- A write of POSn_CMP_CFG, which arms with EN 1 (R360). -/
def Pos.writeCmpCfg (n now : Nat) (v : Word) (u : Pos) : W Pos :=
  let u := u.mod Reg.POS_CMP_CFG n (fun _ => v &&& 0xF#32)
  if bit v 0 then u.arm n now else W.of u

/-- An accepted edge judged by the compare unit (R360, R361). -/
def Pos.compare (n : Nat) (t : Int) (up : Bool) (w : W Pos) : W Pos :=
  let u := w.u
  let cfg := u.reg Reg.POS_CMP_CFG n
  let dir := bits cfg 2 1
  let allowed := decide (dir = 0) || (up && decide (dir = 1)) || (!up && decide (dir = 2))
  if bit (u.reg Reg.POS_CMP_STAT n) 0 && decide (u.reg Reg.POS_COUNT n = u.reg Reg.POS_CMP n) && allowed then
    let u := u.mod Reg.POS_CMP_STAT n (fun x => incWrapField (putBit (putBit (putBit x 0 false) 1 false) 2 true) 31 16)
    let u := u.put64 Reg.POS_CMP_T_L Reg.POS_CMP_T_H n t
    let w := ((w.map (fun _ => u)).evt (Pg.POS + n) 2).code (Pg.POS + n) 0x0130 []
    w.when (bit cfg 3) (·.sample ⟨0x60 + n, 3, t, sw (u.reg Reg.POS_CMP n)⟩)
  else w

/-! ## Divider (R362) -/

/-- The divider after an accepted edge, and whether it produces a pulse. -/
def Pos.divide (n : Nat) (up : Bool) (u : Pos) : Pos × Bool :=
  let cfg := u.reg Reg.POS_DIV_CFG n
  let nn : Int := (bits (u.reg Reg.POS_DIV n) 15 0 : Nat)
  let mm : Int := (bits (u.reg Reg.POS_DIV n) 31 16 : Nat)
  let x := u.chan n
  if !bit cfg 0 then (u, false)
  else if bit cfg 1 && !up then (u.putChan n { x with acc := max (-mm) (x.acc - nn) }, false)
  else if mm ≤ x.acc + nn then
    ((u.putChan n { x with acc := x.acc + nn - mm }).mod Reg.POS_DIV_CNT n (· + 1#32), true)
  else (u.putChan n { x with acc := x.acc + nn }, false)

/-! ## Transitions (R356, R358) -/

/-- An accepted edge: its interval, the count, the compare unit, and the divider. Log entry 68 (DEDUCED). -/
def Pos.edge (now : Nat) (t : Int) (n : Nat) (new : BitVec 2) (u : Pos) : W Pos × Bool :=
  let x := u.chan n
  let up := aLeads x.ref new != rbit u.regs (rk Reg.POS_CFG n 0) 3
  let x := { x with ref := new, fast := 0, fastRun := false, dblRun := false, edgeAt := some now, skip := false
                    edges := match x.edgeAt with
                      | some _ => if !x.skip && up == bit (u.reg Reg.POS_STAT n) 0 then x.edges + 1 else x.edges
                      | none => x.edges
                    span := match x.edgeAt with
                      | some t0 => if !x.skip && up == bit (u.reg Reg.POS_STAT n) 0 then x.span + (now - t0) else x.span
                      | none => x.span }
  let u := (((u.putChan n x).stat n 0 up).put64 Reg.POS_TS_L Reg.POS_TS_H n t).move n up
  let w := Pos.compare n t up (W.of u)
  let d := w.u.divide n up
  (w.map (fun _ => d.1), d.2)

/-- A sample of the lines A and B (R356), and whether the divider produces a pulse. Log entry 68 (DEDUCED). -/
def Pos.sample (m : Mode) (now : Nat) (t : Int) (n : Nat) (a b : Bool) (u : Pos) : W Pos × Bool :=
  if u.mode n = 2 ∧ posActive m = true then
    let page := Pg.POS + n
    let x := u.chan n
    let new : BitVec 2 := BitVec.ofNat 2 (b2n a + 2 * b2n b)
    let d := x.ref ^^^ new
    if d = 0#2 then (W.of (u.putChan n { x with fast := 0 }), false)
    else if d = 3#2 then
      let u := u.putChan n { x with ref := new, fast := 0, skip := true, dblRun := true }
      let w := (W.of (u.mod Reg.POS_FAULT n (fun f => incSatField f 31 16))).evt page 0
      (w.when (!x.dblRun) (·.code page 0x1111 []), false)
    else
      let soon := match x.edgeAt with | some t0 => decide (samplesBetween now t0 < u.minSamples n) | none => false
      if soon then
        if x.fast &&& d != 0#2 then (W.of u, false)
        else
          let u := u.putChan n { x with fast := d, fastRun := true }
          let w := (W.of (u.mod Reg.POS_FAULT n (fun f => incSatField f 15 0))).evt page 0
          (w.when (!x.fastRun) (·.code page 0x1110 []), false)
      else Pos.edge now t n new u
  else (W.of u, false)

/-! ## The LATCH (R358, R359) -/

/-- a over b, rounded to the nearest whole number. -/
def divNear (a b : Nat) : Nat := (2 * a + b) / (2 * b)

/-- POSn_SPEED at a LATCH, in Q25.6 edges per second (R358). Log entry 69 (DESIGN CHOICE). -/
def Pos.speedAt (u : Pos) (n now : Nat) : Word :=
  let x := u.chan n
  let sgn := fun (v : Nat) (neg : Bool) => if neg then wi (-(v : Int)) else wd v
  let old := sw (u.reg Reg.POS_SPEED n)
  match x.edgeAt with
  | none => 0
  | some t0 =>
    if x.edges ≠ 0 then
      let v := divNear (x.edges * 64000000000) (max 1 x.span)
      if v < 2147483648 then sgn v (!bit (u.reg Reg.POS_STAT n) 0) else Config.posSpeed x.edges x.span
    else if now - t0 ≤ 1000 * bits (u.reg Reg.POS_STOP n) 23 0 then
      sgn (if now = t0 then old.natAbs else min old.natAbs (divNear 64000000000 (now - t0))) (decide (old < 0))
    else 0

/-- POSn_STAT at a true time. -/
def Pos.status (u : Pos) (n now : Nat) : Word :=
  putBit (putBit (u.reg Reg.POS_STAT n) 1 (u.moving n now)) 2 ((u.chan n).busy now)

/-- The record pair of a channel when enabled: its block; a half has one block. -/
def Pos.inPair (u : Pos) (n : Nat) : Option Nat :=
  let b := u.reg Reg.POS_IN_BLK n
  if bit b 31 then some (bits b 18 0) else none

/-- The eight words of a channel's record (R359). -/
def Pos.record (u : Pos) (n now : Nat) (fno : Word) : List Word :=
  let incr := decide (u.mode n = 2)
  let pick := fun (a b : Word) => if incr then a else b
  [pick (u.reg Reg.POS_COUNT n) (u.reg Reg.POS_SSI_POS n), pick (u.reg Reg.POS_REVS n) 0, pick (u.reg Reg.POS_SPEED n) 0,
   u.status n now, u.reg Reg.POS_TS_L n, u.reg Reg.POS_TS_H n, pick (u.reg Reg.POS_FAULT n) (u.reg Reg.POS_SSI_ERR n), fno]

/-- A channel at a LATCH with ARG[1] (R352, R358, R359): the values freeze, the record goes into the hidden half, the
samples go to FLT, and an SSI channel issues a request. -/
def Pos.latch (s : State) (lines : BitVec 24) (w : W Pos) (n : Nat) : W Pos :=
  let u := w.u
  let incr := decide (u.mode n = 2)
  let u := if incr then
      (u.mod Reg.POS_SPEED n (fun _ => u.speedAt n s.now)).putChan n { u.chan n with edges := 0, span := 0 } else u
  let w := w.map (fun _ => u)
  let w := match u.inPair n with
    | some blk => w.store (Pg.POS + n) (s.hidden blk 1) (wordsBytes (u.record n s.now s.fno))
    | none => w
  let t := s.tim.time
  let w := w.when incr (fun w =>
    ((w.sample ⟨0x60 + n, 0, t, sw (u.reg Reg.POS_COUNT n)⟩).sample ⟨0x60 + n, 1, t, sw (u.reg Reg.POS_SPEED n)⟩).sample
      ⟨0x60 + n, 2, t, sw (u.reg Reg.POS_REVS n)⟩)
  let r := u.request s.mode s.now t n (lines.getLsbD n)
  ⟨r.u, w.fx.app r.fx, w.st ++ r.st⟩

/-! ## Leaving CONFIG -/

/-- Whether the settings of a channel are valid (R363). -/
def Pos.settingsOk (u : Pos) (n : Nat) : Bool :=
  let ssi := u.reg Reg.POS_SSI n
  let fmt := u.reg Reg.POS_SSI_FMT n
  let mint := bits (u.reg Reg.POS_MINT n) 13 0
  let nn := bits (u.reg Reg.POS_DIV n) 15 0
  let mm := bits (u.reg Reg.POS_DIV n) 31 16
  u.mode n != 3 && decide (40 ≤ bits ssi 9 0) && decide (bits ssi 9 0 ≤ 800) && decide (8 ≤ bits ssi 21 16)
  && decide (bits ssi 21 16 ≤ 32) && decide (bits fmt 4 0 < bits ssi 21 16) && (!bit fmt 8 || decide (1 ≤ bits fmt 4 0))
  && decide (1 ≤ bits fmt 31 16) && decide (bits fmt 31 16 ≤ 1000) && decide (20 ≤ mint) && decide (mint ≤ 10000)
  && decide (u.reg Reg.POS_MOD n ≠ 1#32) && decide (1 ≤ nn) && decide (nn ≤ mm)

/-- Count, REVS and divider accumulator set to 0 as the module leaves CONFIG (R351). -/
def Pos.begin (u : Pos) (n : Nat) : Pos :=
  ((u.putChan n { u.chan n with acc := 0 }).mod Reg.POS_COUNT n (fun _ => 0)).mod Reg.POS_REVS n (fun _ => 0)

/-- A write of MODE abandons a frame that runs, without report (R363). -/
def Pos.abandon (n : Nat) (u : Pos) : Pos := u.putChan n { u.chan n with frame := none }

end Sys2Proof.Machine
end

