-- ==== Sys2Proof/Machine/Power.lean ====
section
/-! DEFINITION. The supply and the budget arbiter (R389–R399): samples and the ceiling, cuts, decisions, the supply warning
and its end, and the PWR page. -/

namespace Sys2Proof.Machine

/-- The number of requesters of the logic pool (R391). -/
def pwrCount : Nat := 23

/-- The class of a requester (R391). -/
def pwrClass (i : Nat) : Nat := if 14 ≤ i ∧ i ≤ 19 then 1 else if i = 20 ∨ i = 21 then 2 else 0

/-- The amount of a requester in drams; `res` is PRGn_BUDGET.RES by core (R391). -/
def pwrAmount (res : Nat → Nat) (i : Nat) : Nat :=
  let core := (i - 11) % 3
  let reserved := (60 * res core + 99) / 100
  if 11 ≤ i ∧ i ≤ 13 then reserved
  else if 14 ≤ i ∧ i ≤ 16 then 60 - reserved
  else [40, 100, 40, 220, 50, 20, 90, 40, 30, 20, 40, 0, 0, 0, 0, 0, 0, 300, 50, 20, 10, 5, 20].getD i 0

/-- The requesters. -/
def pwrAll : List Nat := upto pwrCount

/-- The sum of some requesters' amounts. -/
def pwrSum (res : Nat → Nat) (l : List Nat) : Nat := (l.map (pwrAmount res)).foldl (· + ·) 0

/-- The class 0 floor (R391). -/
def pwrFloor (res : Nat → Nat) : Nat := pwrSum res (pwrAll.filter (fun i => pwrClass i == 0))

/-- The state of a requester: class 0 is always granted. -/
def Pwr.state (u : Pwr) (i : Nat) : Nat := if pwrClass i = 0 then 1 else sget (fun _ => 0) u.st i

/-- A requester's state set. -/
def Pwr.setState (u : Pwr) (i v : Nat) : Pwr := { u with st := sset (fun _ => 0) u.st i v }

/-- Whether a requester holds its grant (R394). -/
def Pwr.granted (u : Pwr) (i : Nat) : Bool := u.state i == 1

/-- The drams granted: the floor and the grants of classes 1 and 2 (R393). -/
def Pwr.total (res : Nat → Nat) (u : Pwr) : Nat := pwrSum res (pwrAll.filter u.granted)

/-- CUT_RANK of a requester (R393). -/
def Pwr.rank (u : Pwr) (i : Nat) : Nat := rfld u.regs (rk Reg.PWR_R_CFG 0 i) 3 0

/-- A requester put before those of lower rank. -/
def insertRank (u : Pwr) (i : Nat) : List Nat → List Nat
  | [] => [i]
  | j :: l => if u.rank j < u.rank i then i :: j :: l else j :: insertRank u i l

/-- Requesters by descending CUT_RANK. -/
def Pwr.byRank (u : Pwr) (l : List Nat) : List Nat := l.foldl (fun a i => insertRank u i a) []

/-- The requesters of a class in a state, by descending CUT_RANK. Log entry 25 (DEDUCED). -/
def Pwr.held (u : Pwr) (cls st : Nat) : List Nat :=
  u.byRank (pwrAll.filter (fun i => pwrClass i == cls && u.state i == st))

/-- The ceiling in force. -/
def Pwr.ceil (u : Pwr) : Nat := rfld u.regs Reg.PWR_CEIL 10 0

/-- One grant cut (R393). -/
def Pwr.cutOne (w : W Pwr) (i : Nat) : W Pwr :=
  let u := w.u
  let u : Pwr := { u.setState i 2 with
    cuts := sset (fun _ => 0) u.cuts i (satInc 16 (sget (fun _ => 0) u.cuts i))
    regs := rmod u.regs Reg.PWR_CNT_CUT incW }
  ((w.map (fun _ => u)).evt Pg.PWR 0).codeRec Pg.PWR 0x1151 [wd i]

/-- The cuts of R393: class 2 before class 1, by descending rank, until the total fits. -/
def Pwr.cut (res : Nat → Nat) (w : W Pwr) : W Pwr :=
  (w.u.held 2 1 ++ w.u.held 1 1).foldl (fun w i => if w.u.total res ≤ w.u.ceil then w else Pwr.cutOne w i) w

/-! ## The ceiling (R390) -/

/-- PWR_LIMIT as a number: 0 counts as 1,300. -/
def Pwr.limit (u : Pwr) : Nat :=
  let l := rfld u.regs Reg.PWR_LIMIT 10 0
  if l = 0 then 1300 else l

/-- The ceiling that V_mV gives (R390). -/
def Pwr.target (u : Pwr) : Nat := min (min 1300 (15 * rfld u.regs Reg.PWR_VIN 15 0 / 100)) u.limit

/-- BELOW_FLOOR after a change of the ceiling (R392). -/
def Pwr.floorCheck (res : Nat → Nat) (w : W Pwr) : W Pwr :=
  let below := decide (w.u.ceil < pwrFloor res)
  (w.when (below && !w.u.below) (·.code Pg.PWR 0x2154 [])).map (fun u => { u with below := below })

/-- The ceiling brought in line with V_mV and PWR_LIMIT: a fall takes effect at once, a rise waits 1 s (R390, R393). -/
def Pwr.adjust (res : Nat → Nat) (now : Nat) (w : W Pwr) : W Pwr :=
  let u := w.u
  let t := u.target
  if t < u.ceil then
    Pwr.floorCheck res (Pwr.cut res (w.map (fun _ => { u with rise := none, regs := rset u.regs Reg.PWR_CEIL (wd t) })))
  else if t = u.ceil then Pwr.floorCheck res (w.map (fun _ => { u with rise := none }))
  else
    let r := match u.rise with | some (v, since) => if v = t then (v, since) else (t, now) | none => (t, now)
    Pwr.floorCheck res (w.map (fun _ => { u with rise := some r }))

/-- CEILING_RISE (R390): a higher value that has held for 1 s takes effect. Log entry 74 (DEDUCED). -/
def Pwr.ceilingRise (res : Nat → Nat) (now : Nat) (u : Pwr) : W Pwr :=
  match u.rise with
  | some (v, since) =>
    if 1000000000 ≤ now - since then
      Pwr.floorCheck res (W.of { u with rise := none, regs := rset u.regs Reg.PWR_CEIL (wd v) })
    else W.of u
  | none => W.of u

/-- Since when a condition holds. -/
def holdsSince (c : Bool) (now : Nat) (t : Option Nat) : Option Nat :=
  if c then (match t with | some t => some t | none => some now) else none

/-- SUPPLY_SAMPLE (R389, R390): a sample of V in mV. Log entry 74 (DEDUCED). -/
def Pwr.sample (res : Nat → Nat) (now mv : Nat) (u : Pwr) : W Pwr :=
  let keep := (now, mv) :: u.samples.filter (fun x => decide (now < x.1 + 1000000))
  let low := (keep.map (·.2)).foldl min mv
  let above := decide (48000 < mv)
  let onset := above && !rbit u.regs Reg.PWR_STAT 5
  let u : Pwr := { u with
    samples := keep
    regs := rmod (rset u.regs Reg.PWR_VIN (wd (min low 65535))) Reg.PWR_STAT (fun x => putBit x 5 above)
    lowAt := holdsSince (decide (mv < rfld u.regs Reg.PWR_WARN 12 0)) now u.lowAt
    upAt := holdsSince (decide (6000 < mv) && !u.cutOff) now u.upAt
    overAt := holdsSince above now u.overAt
    okAt := holdsSince (!above) now u.okAt }
  Pwr.adjust res now ((W.of u).when onset (fun w => (w.evt Pg.PWR 4).code Pg.PWR 0x1157 []))

/-! ## Decisions (R395) -/

/-- A grant made, or restored. -/
def Pwr.grant (restore : Bool) (w : W Pwr) (i : Nat) : W Pwr :=
  let w := w.map (fun u => { u.setState i 1 with waits := sdel u.waits i })
  w.when restore (fun w => (w.evt Pg.PWR 1).code Pg.PWR 0x0152 [wd i])

/-- Cut grants restored in the order given, up to the first that does not fit: whether one did not. -/
def Pwr.restore (res : Nat → Nat) : List Nat → W Pwr → W Pwr × Bool
  | [], w => (w, false)
  | i :: l, w =>
    if w.u.total res + pwrAmount res i ≤ w.u.ceil then Pwr.restore res l (Pwr.grant true w i) else (w, true)

/-- A request considered: granted when it fits, else it waits (R395). -/
def Pwr.consider (res : Nat → Nat) (w : W Pwr) (i : Nat) : W Pwr :=
  if w.u.total res + pwrAmount res i ≤ w.u.ceil then Pwr.grant false w i
  else if w.u.state i = 3 then w
  else
    let n := w.u.decisions
    ((w.map (fun u => { u.setState i 3 with waits := sset (fun _ => 0) u.waits i n })).evt Pg.PWR 3).code Pg.PWR 0x1153 [wd i]

/-- Equal requests considered, in the order of R26 when they do not all fit. -/
def Pwr.considerAll (res : Nat → Nat) (w : W Pwr) (l : List Nat) : W Pwr :=
  if w.u.total res + pwrSum res l ≤ w.u.ceil then l.foldl (Pwr.consider res) w
  else
    let o := tieOrder pwrCount w.u.token l
    o.1.foldl (Pwr.consider res) (w.map (fun u => { u with token := o.2 }))

/-- The requests of a class: those that wait, by the decision at which each began to, then the new ones (R395). -/
def Pwr.requests (res : Nat → Nat) (act : List Nat) (w : W Pwr) (cls : Nat) : W Pwr :=
  let u := w.u
  let waiting := pwrAll.filter (fun i => pwrClass i == cls && u.state i == 3)
  let new := act.filter (fun i => pwrClass i == cls && u.state i == 0)
  let since := fun (i : Nat) => sget (fun _ => 0) u.waits i
  let groups := (upto u.decisions).map (fun d => waiting.filter (fun i => since i == d))
  ((groups.filter (· != [])) ++ [new]).foldl (Pwr.considerAll res) w

/-- GRANT_DECISION (R395, R396): cut grants are restored, then requests are considered; nothing is granted in a warning. `act`
are the requesters that are active. Log entry 74 (DEDUCED). -/
def Pwr.decision (res : Nat → Nat) (act : List Nat) (u : Pwr) : W Pwr :=
  if u.warn then W.of u
  else
    let u : Pwr := { u with decisions := u.decisions + 1 }
    let r1 := Pwr.restore res (u.held 1 2).reverse (W.of u)
    let r2 := if r1.2 then r1 else Pwr.restore res (r1.1.u.held 2 2).reverse r1.1
    [1, 2].foldl (Pwr.requests res act) r2.1

/-- Requesters that have become idle release their grants at once, and leave the states cut and waiting (R395). -/
def Pwr.release (act : List Nat) (u : Pwr) : Pwr :=
  (pwrAll.filter (fun i => pwrClass i != 0 && !act.contains i && u.state i != 0)).foldl
    (fun u i => { u.setState i 0 with waits := sdel u.waits i }) u

/-! ## Supply warning and hold-up (R389, R397) -/

/-- A supply warning (R397): every class 1 and class 2 grant is cut. -/
def Pwr.warning (now : Nat) (u : Pwr) : W Pwr :=
  let u : Pwr := { u with warn := true, warnAt := now, regs := rmod u.regs Reg.PWR_WARN_CNT incW }
  let w := (u.held 2 1 ++ u.held 1 1).foldl Pwr.cutOne (W.of u)
  (w.evt Pg.PWR 2).codeRec Pg.PWR 0x2155 []

/-- Whether a condition has held for a time. Log entry 7 (DESIGN CHOICE). -/
def heldFor (t : Option Nat) (now ns : Nat) : Bool := match t with | some t => decide (ns ≤ now - t) | none => false

/-- Whether SUPPLY_WARNING is due: V below PWR_WARN for 100 µs, and no warning yet. Log entry 7 (DESIGN CHOICE). -/
def Pwr.warnDue (now : Nat) (u : Pwr) : Bool := !u.warn && heldFor u.lowAt now 100000

/-- Whether OVERVOLTAGE_DISCONNECT is due: V above 60 V, or above 48 V for more than 100 ms. Log entry 74 (DEDUCED). -/
def Pwr.overDue (now : Nat) (u : Pwr) : Bool :=
  !u.cutOff && ((match u.samples.head? with | some x => decide (60000 < x.2) | none => false)
    || (match u.overAt with | some t => decide (100000000 < now - t) | none => false))

/-- The input protection disconnects the supply (R389). -/
def Pwr.disconnect (now : Nat) (u : Pwr) : W Pwr :=
  let u : Pwr := { u with cutOff := true, upAt := none }
  if u.warn then W.of u else u.warning now

/-- SUPPLY_RECONNECT (R389): 1 ms at 48 V or below. -/
def Pwr.reconnect (now : Nat) (u : Pwr) : Pwr :=
  if u.cutOff && heldFor u.okAt now 1000000 then
    { u with cutOff := false, upAt := match u.samples.head? with | some x => if 6000 < x.2 then some now else none | none => none }
  else u

/-- SUPPLY_RECOVERY (R397): V above 6 V for 10 ms before the store is exhausted. -/
def Pwr.recover (now : Nat) (u : Pwr) : W Pwr :=
  if u.warn && heldFor u.upAt now 10000000 then
    let us := min ((now - u.warnAt) / 1000) 65535
    ((W.of { u with warn := false, regs := rset u.regs Reg.PWR_HOLD (wd us) }).evt Pg.PWR 2).code Pg.PWR 0x0156 []
  else W.of u

/-! ## The page (R399) -/

/-- PWR_CUT_SET. -/
def Pwr.cutSet (u : Pwr) : Nat := (pwrAll.filter (fun i => u.state i == 2)).foldl (fun a i => a + 2 ^ i) 0

/-- The registers that follow from PWR's state. -/
def Pwr.settle (res : Nat → Nat) (act : List Nat) (u : Pwr) : Pwr :=
  let anyCut := fun (cls : Nat) => pwrAll.any (fun i => pwrClass i == cls && u.state i == 2)
  let free := min 1300 (15 * rfld u.regs Reg.PWR_VIN 15 0 / 100)
  let demand := pwrFloor res + pwrSum res (act.filter (fun i => pwrClass i != 0))
  let stat := b2n u.warn + 2 * b2n (u.ceil < 1300) + 4 * b2n (anyCut 1) + 8 * b2n (anyCut 2) + 16 * b2n u.below
    + 32 * b2n (rbit u.regs Reg.PWR_STAT 5) + 64 * b2n (u.limit < free)
  let u : Pwr := { u with regs := rsets u.regs [(Reg.PWR_FLOOR, wd (pwrFloor res)), (Reg.PWR_CUT_SET, wd u.cutSet),
    (Reg.PWR_USED, wd (u.total res % 2048 + 65536 * (demand % 2048))), (Reg.PWR_STAT, wd stat)] }
  { u with regs := rsets u.regs (pwrAll.map (fun i =>
      (rk Reg.PWR_R_STAT 0 i, wd (pwrAmount res i + 4096 * pwrClass i + 16384 * u.state i + 65536 * sget (fun _ => 0) u.cuts i)))) }

/-- PAGE_STAT[15:8] of PWR. -/
def Pwr.pageState (u : Pwr) : Nat :=
  let st := rget u.regs Reg.PWR_STAT
  if bit st 0 then 4 else if bit st 2 then 3 else if bit st 3 then 2 else if bit st 1 then 1 else 0

/-- The check on leaving CONFIG (R392). -/
def Pwr.exitOk (res : Nat → Nat) (u : Pwr) : Bool :=
  let l := rfld u.regs Reg.PWR_LIMIT 10 0
  let distinct := fun (cls : Nat) =>
    let r := (pwrAll.filter (fun i => pwrClass i == cls)).map u.rank
    decide (r.eraseDups.length = r.length)
  let warn := rfld u.regs Reg.PWR_WARN 12 0
  decide (pwrFloor res ≤ 900) && (decide (l = 0) || (decide (pwrFloor res ≤ l) && decide (l ≤ 1300))) && distinct 1 && distinct 2
  && decide (5000 ≤ warn) && decide (warn ≤ 5800)

end Sys2Proof.Machine
end

