-- ==== Sys2Proof/Machine/Ptp.lean ====
section
/-! DEFINITION. The PTP engine (R294–R297) on messages in the layout of IEEE 1588-2019, which R294 names and does not
repeat (assumption 21). -/

namespace Sys2Proof.Machine

/-- A cell changed. -/
def Ptp.mod (u : Ptp) (k : Nat) (f : Word → Word) : Ptp := { u with regs := rmod u.regs k f }

/-- messageType of a message. -/
def ptpType (m : List Byte) : Nat := byteAt m 0 % 16
/-- domainNumber. -/
def ptpDomain (m : List Byte) : Nat := byteAt m 4
/-- twoStepFlag. -/
def ptpTwoStep (m : List Byte) : Bool := byteAt m 6 / 2 % 2 == 1
/-- correctionField in whole ns. -/
def ptpCorrection (m : List Byte) : Int := Int.fdiv (signed 64 (beNat (sliceB m 8 8))) 65536
/-- sourcePortIdentity. -/
def ptpSource (m : List Byte) : Nat := beNat (sliceB m 20 10)
/-- sequenceId. -/
def ptpSeq (m : List Byte) : Nat := beNat (sliceB m 30 2)
/-- The timestamp that follows the header, in ns. -/
def ptpStamp (m : List Byte) : Int := ((beNat (sliceB m 34 6) * 1000000000 + beNat (sliceB m 40 4) : Nat) : Int)

/-- The bytes of a timestamp. -/
def stampBytes (t : Int) : List Byte := beBytes 6 (t.toNat / 1000000000) ++ beBytes 4 (t.toNat % 1000000000)

/-- The clockIdentity of this module: the EUI-64 of ETH0's address. -/
def clockIdentity (net : RMap) : Nat :=
  let mac := (rget net (rk Reg.ETH_MAC_L 0 0)).toNat + 4294967296 * rfld net (rk Reg.ETH_MAC_H 0 0) 15 0
  mac / 16777216 * 1099511627776 + 0xFFFE000000 + mac % 16777216

/-- A message of this clock: type, flags, correction, port, sequenceId and what follows the header. Log entry 21 (PRESUMED). -/
def ptpMessage (domain type_ flags : Nat) (corr : Int) (ident port seq : Nat) (body : List Byte) : List Byte :=
  beBytes 1 type_ ++ beBytes 1 2 ++ beBytes 2 (34 + body.length) ++ beBytes 1 domain ++ beBytes 1 0 ++ beBytes 2 flags
  ++ beBytes 8 ((corr * 65536) % 18446744073709551616).toNat ++ beBytes 4 0 ++ beBytes 8 ident ++ beBytes 2 (port + 1)
  ++ beBytes 2 seq ++ beBytes 2 0 ++ body

/-- DOMAIN of PTP_CFG. -/
def Ptp.domain (u : Ptp) : Nat := rfld u.regs Reg.PTP_CFG 7 0

/-- Whether a port takes part, and a message is of this domain. -/
def Ptp.takes (u : Ptp) (port : Nat) (m : List Byte) : Bool :=
  rbit u.regs (rk Reg.PTP_P_CFG 0 port) 0 && ptpDomain m == u.domain && decide (34 ≤ m.length)

/-- An event message counted (R306). -/
def Ptp.countEvent (u : Ptp) (port : Nat) (m : List Byte) : Ptp :=
  if ptpType m ≤ 3 then u.mod (rk Reg.PTP_P_CNT 0 port) (fun c => incWrapField c 15 0) else u

/-- An exchange discarded because its timestamps carry different epochs (R297). -/
def Ptp.discard (u : Ptp) (port : Nat) : Ptp := u.mod (rk Reg.PTP_P_CNT 0 port) (fun c => incSatField c 31 16)

/-- Whether a port measures peer delay: the Chain ports, and the plant ports with PLANT_P2P (R294). -/
def Ptp.peer (u : Ptp) (port : Nat) : Bool := decide (port < 2) || rbit u.regs Reg.PTP_CFG 11

/-- The delay taken from a Sync's offset at a port. -/
def Ptp.delay (u : Ptp) (port : Nat) : Int :=
  if u.peer port then sw (rget u.regs (rk Reg.PTP_P_LINKDLY 0 port)) else sw (rget u.regs Reg.PTP_MPD)

/-- An offset from the master recorded (R290, R306): t2 − t1 − corrections − delay. -/
def Ptp.offset (u : Ptp) (port epoch : Nat) (raw : Int) : Ptp × Int :=
  let e := raw - u.delay port
  ({ u with syncLast := some (raw, epoch), regs := rset u.regs Reg.PTP_OFS (satW e) }, e)

/-- The Sync that waited is done with. -/
def Ptp.forget (u : Ptp) : Ptp := { u with syncWait := none }

/-- A Sync or Follow_Up from the parent (R290, R294): the offset it completes, its sequenceId and
preciseOriginTimestamp. -/
def Ptp.sync (port : Nat) (t2 : Int) (epoch : Nat) (m : List Byte) (u : Ptp) : Ptp × Option (Int × Nat × Int) :=
  if !u.takes port m then (u, none)
  else
    let u := u.countEvent port m
    if u.parent ≠ some (ptpSource m) ∨ rfld u.regs Reg.PTP_STAT 2 0 ≠ port + 1 then (u, none)
    else if ptpType m = 0 then
      if ptpTwoStep m then ({ u with syncWait := some (ptpSeq m, t2, ptpCorrection m, epoch) }, none)
      else
        let (v, e) := u.offset port epoch (t2 - ptpStamp m - ptpCorrection m)
        (v, some (e, ptpSeq m, ptpStamp m))
    else if ptpType m = 8 then
      match u.syncWait with
      | some (seq, t, c, ep) =>
        if seq ≠ ptpSeq m then (u, none)
        else if ep ≠ epoch then ((u.forget).discard port, none)
        else
          let (v, e) := u.forget.offset port epoch (t - ptpStamp m - c - ptpCorrection m)
          (v, some (e, seq, ptpStamp m))
      | none => (u, none)
    else (u, none)

/-! ## The best master clock algorithm (R294) -/

/-- Whether a vector is better than another: the first difference decides, lower is better. -/
def vectorBetter : List Nat → List Nat → Bool
  | a :: as_, b :: bs => if a = b then vectorBetter as_ bs else decide (a < b)
  | [], _ :: _ => true
  | _, [] => false

/-- The order in which ports are preferred on equal announcements: ETH2 first (R294). -/
def portRank (port : Nat) : Nat := if port = 2 then 0 else if port = 3 then 1 else 2 + port

/-- The comparison vector of an Announce: priority1, clockClass, accuracy, variance, priority2, grandmaster,
stepsRemoved, sender, port. Log entry 21 (PRESUMED). -/
def announceVector (port : Nat) (m : List Byte) : List Nat :=
  [byteAt m 47, byteAt m 48, byteAt m 49, beNat (sliceB m 50 2), byteAt m 52, beNat (sliceB m 53 8), beNat (sliceB m 61 2),
   ptpSource m, portRank port]

/-- clockClass of this module as time transmitter (R294). -/
def ownClass (timeOk holdover : Bool) (sel : Nat) : Nat :=
  if timeOk && decide (sel = 1 ∨ sel = 2) then 6 else if holdover then 7 else 248

/-- This module's own comparison vector with CHAIN_GM. Log entry 60 (DEDUCED). -/
def Ptp.ownVector (u : Ptp) (cls ident : Nat) : List Nat :=
  [rfld u.regs Reg.PTP_CFG 23 16, cls, 0xFE, 0xFFFF, rfld u.regs Reg.PTP_CFG 31 24, ident]

/-- The best announcement held. -/
def Ptp.best (u : Ptp) : Option Announce :=
  u.announces.foldl (fun a x => match a with
    | none => some x
    | some y => if vectorBetter x.vector y.vector then some x else some y) none

/-- Whether the module transmits time on the Chain ports: CHAIN_GM, and no better announcement heard on them. -/
def Ptp.transmits (u : Ptp) (cls ident : Nat) : Bool :=
  rbit u.regs Reg.PTP_CFG 8 &&
  !(u.announces.any (fun a => decide (a.port < 2) && vectorBetter a.vector (u.ownVector cls ident)))

/-- The portState of a port as IEEE 1588 encodes it: 3 DISABLED, 4 LISTENING, 6 MASTER, 7 PASSIVE, 9 SLAVE. Log entry 60 (DEDUCED). -/
def Ptp.portState (u : Ptp) (tx : Bool) (port : Nat) : Nat :=
  if !rbit u.regs (rk Reg.PTP_P_CFG 0 port) 0 then 3
  else if u.parent.isSome && rfld u.regs Reg.PTP_STAT 2 0 == port + 1 then 9
  else if decide (port < 2) && tx then 6
  else if u.announces.any (fun a => a.port == port) then 7 else 4

/-- The algorithm run anew: the parent, PTP_STAT and the port states; a change of parent records 0xD22. -/
def Ptp.elect (cls ident : Nat) (w : W Ptp) : W Ptp :=
  let u := w.u
  let best : Option Announce := match u.best with
    | some a => if rbit u.regs Reg.PTP_CFG 8 && decide (a.port < 2) && !vectorBetter a.vector (u.ownVector cls ident) then none
        else some a
    | none => none
  let src : Option Nat := best.map (fun a => a.source)
  let stat := match best with
    | some a => wd (a.port + 1 + 8 + 256 * (a.vector.getD 1 0 % 256) + 0x10000 * ((a.vector.getD 6 0 + 1) % 65536))
    | none => 0
  let id := match src with | some x => x / 65536 | none => 0
  let w := w.map (fun u => { u with
    parent := src, syncWait := if src = u.parent then u.syncWait else none
    regs := rset64 (rset u.regs Reg.PTP_STAT stat) Reg.PTP_PARENT_L Reg.PTP_PARENT_H (id : Nat) })
  let w := w.map (fun u => { u with regs := (upto 4).foldl (fun m p =>
    rset m (rk Reg.PTP_P_STAT 0 p) (wd (u.portState (u.transmits cls ident) p))) u.regs })
  w.when (decide (src ≠ u.parent)) (fun w => (w.evt Pg.PTP 0).code Pg.PTP 0x1D22 [])

/-- An Announce (R294). -/
def Ptp.announce (cls ident port : Nat) (m : List Byte) (u : Ptp) : W Ptp :=
  if u.takes port m && ptpType m == 11 then
    let a : Announce := ⟨port, announceVector port m, ptpSource m⟩
    Ptp.elect cls ident (W.of { u with announces := a :: u.announces.filter (fun x => x.port != port) })
  else W.of u

/-- The announce receipt timeout of a port (R294). -/
def Ptp.announceTimeout (cls ident port : Nat) (u : Ptp) : W Ptp :=
  Ptp.elect cls ident (W.of { u with announces := u.announces.filter (fun x => x.port != port) })

/-! ## Delay measurement (R294, R297) -/

/-- A delay request sent on a port at egress time t1: peer delay, or delay request on the receiving plant port. -/
def Ptp.requestDelay (ident port : Nat) (t1 : Int) (epoch : Nat) (u : Ptp) : W Ptp :=
  let peer := u.peer port
  if !rbit u.regs (rk Reg.PTP_P_CFG 0 port) 0 then W.of u
  else if !peer && rfld u.regs Reg.PTP_STAT 2 0 != port + 1 then W.of u
  else
    let seq := (u.seqDelay + 1) % 65536
    let body := stampBytes 0 ++ (if peer then beBytes 10 0 else [])
    (W.of { u with
      seqDelay := seq
      requests := (port, seq, t1, epoch) :: u.requests.filter (fun r => r.1 != port) }).emit
      (.eth port (ptpMessage u.domain (if peer then 2 else 1) 0 0 ident port seq body))

/-- meanLinkDelay of a completed peer measurement. -/
def Ptp.linkDelay (u : Ptp) (port : Nat) (t1 t4 turn : Int) : Ptp :=
  { u with regs := rset u.regs (rk Reg.PTP_P_LINKDLY 0 port) (wi (max 0 (Int.fdiv (t4 - t1 - turn) 2))) }

/-- A delay or peer delay message received at ingress time t, answered or taken (R294, R297); t3 is the egress time of an
answer. -/
def Ptp.delayMessage (ident port : Nat) (t t3 : Int) (epoch : Nat) (m : List Byte) (u : Ptp) : W Ptp :=
  if !u.takes port m then W.of u
  else
    let u := u.countEvent port m
    let seq := ptpSeq m
    let ty := ptpType m
    if ty = 2 then
      let who := sliceB m 20 10
      (((W.of u).emit (.eth port (ptpMessage u.domain 3 0x200 0 ident port seq (stampBytes t ++ who)))).emit
        (.eth port (ptpMessage u.domain 10 0 (ptpCorrection m) ident port seq (stampBytes t3 ++ who))))
    else
      match u.requests.find? (fun r => r.1 == port && r.2.1 == seq) with
      | none => W.of u
      | some (_, _, t1, ep) =>
        let done : Ptp := { u with
          requests := u.requests.filter (fun r => r.1 != port), responses := u.responses.filter (fun r => r.1 != port) }
        if ep ≠ epoch then W.of (done.discard port)
        else if ty = 3 ∧ ptpTwoStep m then
          W.of { u with responses := (port, seq, ptpStamp m, t, ptpCorrection m) :: u.responses.filter (fun r => r.1 != port) }
        else if ty = 3 then W.of (done.linkDelay port t1 t (ptpCorrection m))
        else if ty = 10 then
          match u.responses.find? (fun r => r.1 == port && r.2.1 == seq) with
          | some (_, _, t2, t4, c) => W.of (done.linkDelay port t1 t4 (ptpStamp m - t2 + c + ptpCorrection m))
          | none => W.of u
        else if ty = 9 then
          match u.syncLast with
          | some (raw, e2) =>
            if e2 ≠ epoch then W.of (done.discard port)
            else
              let d := max 0 (Int.fdiv (raw + (ptpStamp m - t1 - ptpCorrection m)) 2)
              W.of { done with regs := rset done.regs Reg.PTP_MPD (wi d) }
          | none => W.of done
        else W.of u

/-! ## The transparent clock and what this clock sends (R295, R296) -/

/-- A message forwarded between the Chain ports (R295), unless it is a peer delay message or was forwarded in the last
second. Log entry 60 (DEDUCED). -/
def Ptp.forward (port : Nat) (now residence : Int) (m : List Byte) (u : Ptp) : W Ptp :=
  let ty := ptpType m
  let key := (ptpSource m, ty, ptpSeq m)
  let recent := u.forwarded.filter (fun f => decide (now - f.2.2.2 < 1000000000))
  if 1 < port ∨ ty = 2 ∨ ty = 3 ∨ ty = 10 ∨ m.length < 34 then W.of u
  else if recent.any (fun f => (f.1, f.2.1, f.2.2.1) == key) then W.of { u with forwarded := recent }
  else
    let add := residence + sw (rget u.regs (rk Reg.PTP_P_LINKDLY 0 port))
    let corr := (beNat (sliceB m 8 8) + (add * 65536 % 18446744073709551616).toNat) % 18446744073709551616
    let out := if ty = 0 then m.take 8 ++ beBytes 8 corr ++ m.drop 16 else m
    let u1 : Ptp := { u with forwarded := (key.1, key.2.1, key.2.2, now) :: recent }
    let u2 := if ty = 0 then u1.mod Reg.PTP_TC_CNT (· + 1#32) else u1
    (W.of u2).emit (.eth (1 - port) out)

/-- A Sync of this clock on both Chain ports (R296): one-step, or two-step with its Follow_Up; `t` is each port's egress time. -/
def Ptp.sendSync (cls ident : Nat) (oneStep : Bool) (t : Nat → Int) (u : Ptp) : W Ptp :=
  if !u.transmits cls ident then W.of u
  else
    let seq := (u.seqSync + 1) % 65536
    let w := W.of { u with seqSync := seq }
    (upto 2).foldl (fun w p =>
      if oneStep then w.emit (.eth p (ptpMessage u.domain 0 0 0 ident p seq (stampBytes (t p))))
      else (w.emit (.eth p (ptpMessage u.domain 0 0x200 0 ident p seq (stampBytes 0)))).emit
        (.eth p (ptpMessage u.domain 8 0 0 ident p seq (stampBytes (t p))))) w

/-- An Announce of this clock on both Chain ports (R294). -/
def Ptp.sendAnnounce (cls ident : Nat) (t : Int) (u : Ptp) : W Ptp :=
  if !u.transmits cls ident then W.of u
  else
    let seq := (u.seqAnn + 1) % 65536
    let body := stampBytes t ++ beBytes 2 37 ++ beBytes 1 0 ++ beBytes 1 (rfld u.regs Reg.PTP_CFG 23 16) ++ beBytes 1 cls
      ++ beBytes 1 0xFE ++ beBytes 2 0xFFFF ++ beBytes 1 (rfld u.regs Reg.PTP_CFG 31 24) ++ beBytes 8 ident ++ beBytes 2 0
      ++ beBytes 1 0xA0
    (upto 2).foldl (fun w p => w.emit (.eth p (ptpMessage u.domain 11 8 0 ident p seq body))) (W.of { u with seqAnn := seq })

/-- The ingress correction of a port at its speed (R297). -/
def ingressCorrection (net : RMap) (port : Nat) : Int :=
  if rfld net (rk Reg.ETH_STAT port 0) 2 1 = 1 then sw (rget net (rk Reg.ETH_TS_INGR_100 port 0))
  else sw (rget net (rk Reg.ETH_TS_INGR_1G port 0))

/-- The egress correction of a port at its speed (R297). -/
def egressCorrection (net : RMap) (port : Nat) : Int :=
  if rfld net (rk Reg.ETH_STAT port 0) 2 1 = 1 then sw (rget net (rk Reg.ETH_TS_EGR_100 port 0))
  else sw (rget net (rk Reg.ETH_TS_EGR_1G port 0))

end Sys2Proof.Machine
end

