-- ==== Sys2Proof/Machine/Recorder.lean ====
section
/-! DEFINITION. The recorder (R400–R408, R413, R415): the queue, the ring and the shelf, the search at power-on, OPTIME and
PCYC, and the part of SNAP that holds off and refuses triggers (R411). -/

namespace Sys2Proof.Machine

/-- The byte address of the record ring in the nonvolatile window (R425 region 11). -/
abbrev ringBase : Nat := 0x32000000

/-- The slots of the ring, of the queue and of the shelf. -/
abbrev ringSlots : Nat := 524288
/-- The entries of the queue (R403). -/
abbrev queueMax : Nat := 256
/-- The slots of the shelf (R407). -/
abbrev shelfMax : Nat := 64

/-- OPTIME in 0.1 s (R404). -/
def Rec.optime (u : Rec) : Nat := u.onNs / 100000000 % 2 ^ 40

/-- A bit of REC_STAT. -/
def Rec.flag (u : Rec) (i : Nat) : Bool := rbit u.regs Reg.REC_STAT i

/-- A bit of REC_STAT set. -/
def Rec.setFlag (u : Rec) (i : Nat) (b : Bool) : Rec := { u with regs := rmod u.regs Reg.REC_STAT (fun x => putBit x i b) }

/-- SHELF_USED. -/
def Rec.shelfUsed (u : Rec) : Nat := rfld u.regs Reg.REC_STAT 23 17

/-- The registers that follow from REC's state. -/
def Rec.settle (u : Rec) : Rec :=
  { u with regs := rset (rmod u.regs Reg.REC_STAT (fun x => putBits x 16 8 u.queue.length)) Reg.REC_SEQ_NEXT (wd u.nextSeq) }

/-- One record discarded (R403, R407). -/
def Rec.lose (full : Bool) (w : W Rec) : W Rec :=
  (w.map (fun u => { u with
    regs := rmod u.regs Reg.REC_LOST incW, lostSince := if full then u.lostSince + 1 else u.lostSince })).evt Pg.REC 1

/-- A record offered to the queue (R403, R407). Log entry 76 (DEDUCED). -/
def Rec.offer (r : Record) (w : W Rec) : W Rec :=
  if w.u.flag 3 then Rec.lose false w
  else if queueMax ≤ w.u.queue.length then Rec.lose true (w.map (fun u => u.setFlag 5 true))
  else w.map (fun u => ({ u with queue := u.queue ++ [r] } : Rec).settle)

/-- The sixteen words of a record (R401). -/
def Rec.words (seq pcyc : Nat) (shelf : Bool) (r : Record) : List Word :=
  let p := (r.payload ++ List.replicate 10 (0 : Word)).take 10
  let flags := if shelf then r.flags ||| 2 else r.flags
  [wd seq, wd r.opt, wd (r.opt / 4294967296 % 256 + 256 * (pcyc % 16777216)), wd (r.src + 256 * flags + 65536 * r.code), wd r.fno]
    ++ p ++ [wd (r.epoch % 65536 + 65536 * 0x5A3C)]

/-- A record stored at a byte address in the three block writes of R403. -/
def storeRecord (a : Nat) (ws : List Word) (w : W Rec) : W Rec :=
  let b := wordsBytes ws
  let tail := b.drop 32
  let unmarked := tail.take 30 ++ [0, 0]
  ((w.store Pg.REC (a + 32) unmarked).store Pg.REC a (b.take 32)).store Pg.REC (a + 32) tail

/-- A record written to the shelf; `ok` is its read-back (R407). -/
def Rec.toShelf (ok : Bool) (r : Record) (seq : Nat) (w : W Rec) : W Rec :=
  let used := w.u.shelfUsed
  if ok then
    let w := storeRecord (shelfBase + 64 * used) (Rec.words seq w.u.pcyc true r) w
    let first := !w.u.flag 0
    let w := w.map (fun u => { u with regs := rmod u.regs Reg.REC_STAT (fun x =>
      putBit (putBit (putBits x 23 17 (used + 1)) 0 true) 2 (decide (shelfMax ≤ used + 1))) })
    w.when first (·.evt Pg.REC 0)
  else
    let lost := w.u.queue.length
    let w := (upto lost).foldl (fun w _ => Rec.lose false w) (w.map (fun u => ({ u with queue := [], saving := [] } : Rec).setFlag 3 true))
    w.code Pg.REC 0x4172 []

/-- Save records moved into the queue while 64 entries are free (R413), at most fuel of them. -/
def Rec.feed : Nat → W Rec → W Rec
  | 0, w => w
  | n + 1, w =>
    match w.u.saving with
    | [] => w
    | r :: rest =>
      if w.u.queue.length + 64 ≤ queueMax then Rec.feed n (Rec.offer r (w.map (fun u => { u with saving := rest }))) else w

/-- What follows a write: code 0x171 once 64 entries are free, and the save that waits (R403, R413). -/
def Rec.afterWrite (w : W Rec) : W Rec :=
  let n := w.u.lostSince
  let tell := decide (n ≠ 0) && decide (w.u.queue.length + 64 ≤ queueMax) && !w.u.flag 3
  let w := w.when tell (fun w => (w.map (fun u => ({ u with lostSince := 0 } : Rec).setFlag 5 false)).codeRec Pg.REC 0x1171 [wd n])
  Rec.feed 87 w

/-- RECORD_WRITE (R400, R403, R407): the oldest record of the queue into its ring slot, or to the shelf; `ring` and `shelf`
are what the read-backs find. Log entry 76 (DEDUCED). -/
def Rec.write (ring shelf : Bool) (u : Rec) : W Rec :=
  match u.queue with
  | [] => W.of u
  | r :: rest =>
    if !u.searched then W.of u
    else
      let u : Rec := { u with queue := rest }
      let marked := r.flags.testBit 1
      if (u.flag 1 || marked) && decide (shelfMax ≤ u.shelfUsed) then
        (Rec.afterWrite (Rec.lose false (W.of (u.setFlag 2 true)))).map Rec.settle
      else
        let seq := u.nextSeq
        let slot := seq % ringSlots
        let u : Rec := { u with nextSeq := (seq + 1) % 4294967296 }
        if u.flag 1 || marked then (Rec.afterWrite (Rec.toShelf shelf r seq (W.of u))).map Rec.settle
        else if ring then
          let old := (rget u.regs Reg.REC_SEQ_OLD).toNat
          let new := if u.ringCount = 0 then seq
            else if ringSlots ≤ (seq + 4294967296 - old) % 4294967296 then (seq + 4294967297 - ringSlots) % 4294967296 else old
          let u : Rec := { u with ringCount := u.ringCount + 1, failRun := 0, regs := rset u.regs Reg.REC_SEQ_OLD (wd new) }
          (Rec.afterWrite (storeRecord (ringBase + 64 * slot) (Rec.words seq u.pcyc false r) (W.of u))).map Rec.settle
        else
          let run := u.failRun + 1
          let u : Rec := { u with failRun := run, regs := rset (rmod u.regs Reg.REC_FAILS incW) Reg.REC_FAIL_SLOT (wd slot) }
          let u := if 3 ≤ run then u.setFlag 1 true else u
          let w := (W.of u).evt Pg.REC 2
          let w := if shelfMax ≤ u.shelfUsed then Rec.lose false (w.map (fun u => u.setFlag 2 true)) else Rec.toShelf shelf r seq w
          (Rec.afterWrite (w.codeRec Pg.REC 0x3170 [wd slot])).map Rec.settle

/-- SHELF_CLR in SERVICE (R408): REC_FAIL_SLOT and the two slots after it are written and read back; `ok` is whether all pass.
Log entry 76 (DEDUCED). -/
def Rec.shelfClear (ok : Bool) (u : Rec) : W Rec :=
  let s := (rget u.regs Reg.REC_FAIL_SLOT).toNat
  let w := (upto 3).foldl (fun (w : W Rec) k =>
    w.store Pg.REC (ringBase + 64 * ((s + k) % ringSlots)) ((upto 64).map (fun i => Config.recTest i))) (W.of u)
  if ok then
    let w := w.map (fun u => ({ u with failRun := 0, regs := rmod u.regs Reg.REC_STAT (fun x =>
      putBits (putBit (putBit (putBit x 0 false) 1 false) 2 false) 23 17 0) } : Rec))
    let erased := (upto 128).foldl (fun (w : W Rec) k => w.store Pg.REC (shelfBase + 32 * k) (List.replicate 32 0)) w
    erased.code Pg.REC 0x0174 []
  else (w.codeRec Pg.REC 0x3170 [wd s])

/-! ## The search of R405 -/

/-- Whether the slot at a byte address holds a valid record, and its SEQ. -/
def slotSeq (m : Mem) (slot : Nat) : Option Nat :=
  let a := ringBase + 64 * slot
  if (m.readWord (a + 60)).toNat / 65536 = 0x5A3C then some (m.readWord a).toNat else none

/-- The ring slots of which memory lists a byte. -/
def listedSlots (m : Mem) : List Nat :=
  ((m.bytes.map (·.1)).filter (fun a => decide (ringBase ≤ a) && decide (a < ringBase + 64 * ringSlots))).map
    (fun a => (a - ringBase) / 64) |>.eraseDups

/-- a less b modulo 2^32, as a signed number. -/
def seqDiff (a b : Nat) : Int := signed 32 (a + 4294967296 - b)

/-- The newest and the oldest valid SEQ of the ring, when there is one. -/
def ringSpan (m : Mem) : Option (Nat × Nat) :=
  match (listedSlots m).filterMap (slotSeq m) with
  | [] => none
  | s :: rest => some (rest.foldl (fun (p : Nat × Nat) x =>
      (if 0 < seqDiff x p.1 then x else p.1, if seqDiff x p.2 < 0 then x else p.2)) (s, s))

/-- RING_SEARCH_DONE (R405): REC_SEQ_NEXT is the newest SEQ plus one, and the record of code 0x173 goes first. -/
def Rec.searchDone (m : Mem) (first : Nat → Record) (u : Rec) : W Rec :=
  if u.searched then W.of u
  else
    let next := match ringSpan m with | some (n, _) => (n + 1) % 4294967296 | none => u.nextSeq
    let old := match ringSpan m with | some (_, o) => o | none => u.nextSeq
    let u : Rec := { u with
      searched := true, nextSeq := next, ringCount := if (ringSpan m).isSome then 1 else 0
      queue := first next :: u.queue, regs := rset u.regs Reg.REC_SEQ_OLD (wd old) }
    W.of u.settle

/-! ## OPTIME and PCYC (R404) -/

/-- OPTIME_SAVE (R404): the older of the two copies is written. -/
def Rec.saveOptime (u : Rec) : Rec :=
  let c := (u.optime, u.pcyc)
  if u.copyLast then { u with copyA := c, copyLast := false } else { u with copyB := c, copyLast := true }

/-- Entry into BOOT from OFF (R404): OPTIME from the newer copy, PCYC one more; the queue starts empty. -/
def Rec.powerOn (u : Rec) : Rec :=
  let c := if u.copyLast then u.copyB else u.copyA
  ({ u with
    onNs := c.1 * 100000000, pcyc := (c.2 + 1) % 16777216, searched := false, queue := [], saving := [], lostSince := 0
    regs := rmod u.regs Reg.REC_STAT (fun x => putBit x 5 false) } : Rec).settle

/-- A reset (R420): REC's registers return to their reset values; what the store holds, and the queue, stand. Log entry 76 (DEDUCED). -/
def Rec.reset (u : Rec) : Rec :=
  let keep := rget u.regs Reg.REC_STAT
  let old := rget u.regs Reg.REC_SEQ_OLD
  ({ u with regs := rsets [] [(Reg.REC_STAT, keep &&& 0xFFFFFFEF#32), (Reg.REC_SEQ_OLD, old)] } : Rec).settle

/-- PAGE_STAT[15:8] of REC. -/
def Rec.pageState (u : Rec) : Nat := if u.flag 3 then 3 else if !u.searched then 0 else if u.flag 0 then 2 else 1

/-! ## SNAP (R409, R411) -/

/-- Whether a trigger is refused (R411): within HOLDOFF of the last trigger instant, or during a save. -/
def Snap.holds (t : Int) (saving : Bool) (u : Snap) : Bool :=
  saving || (match u.lastAt with
    | some p => decide (t - p < 1000 * (rfld u.regs Reg.SNAP_CFG 31 16 : Nat))
    | none => false)

/-- A refused trigger (R411): counted, and recorded once per holdoff. -/
def Snap.refuse (u : Snap) : W Snap :=
  let w := (W.of { u with refusedRecorded := true, regs := rmod u.regs Reg.SNAP_REFUSED incW }).evt Pg.SNAP 1
  w.when (!u.refusedRecorded) (·.code Pg.SNAP 0x1182 [])

/-- The snapshot count after one more: it wraps from 0xFFFF_FFFF to 1 (R410). -/
def Snap.next (u : Snap) : Nat := if u.count = 0xFFFFFFFF then 1 else u.count + 1

/-- A source of R409 enabled in SNAP_CFG: 0 REG, 1 PIN, 2 TM, 3 CHAIN, 4 FAULT. -/
def Snap.enabled (u : Snap) (src : Nat) : Bool :=
  if src = 0 then rbit u.regs Reg.SNAP_CFG 0
  else if src = 1 then rbit u.regs Reg.SNAP_CFG 1
  else if src = 2 ∨ src = 3 then rbit u.regs Reg.SNAP_CFG 2
  else decide (rfld u.regs Reg.SNAP_CFG 5 3 ≠ 0)

/-- The fields of SNAP after a snapshot (R410, R411). Log entry 81 (DEDUCED). -/
def Snap.take (t : Int) (epoch srcs code missed : Nat) (u : Snap) : Snap :=
  { u with
    count := u.next, lastAt := some t, refusedRecorded := false
    regs := rsets (rset64 u.regs Reg.SNAP_LAST_T_L Reg.SNAP_LAST_T_H t) [(Reg.SNAP_LAST_ID, wd u.next),
      (Reg.SNAP_LAST_SRC, wd (srcs + 65536 * code)), (Reg.SNAP_LAST_EPOCH, wd (epoch % 65536)), (Reg.SNAP_MISSED, wd missed)] }

/-- PAGE_STAT[15:8] of SNAP. -/
def Snap.pageState (saving : Bool) (u : Snap) : Nat := if saving then 2 else if u.count = 0 then 0 else 1

end Sys2Proof.Machine
end

