-- ==== Sys2Proof/Machine/SafetyLayer.lean ====
section
/-! DEFINITION. The safety layer (R365–R388): the parameter set and its confirmation, the two channels' inputs and
functions, the outputs with their tests and faults, resets, and the standard request. -/

namespace Sys2Proof.Machine

/-- What an instance nothing has touched is. -/
def safInstDefault (_ : Nat) : SafInst := SafInst.off
/-- What an output nothing has touched is. -/
def safOutDefault (_ : Nat) : SafOut := SafOut.fresh

/-- Instance i of a channel. -/
def SafChan.inst (c : SafChan) (i : Nat) : SafInst := sget safInstDefault c.insts i
/-- Instance i of a channel set. -/
def SafChan.putInst (c : SafChan) (i : Nat) (x : SafInst) : SafChan := { c with insts := sset safInstDefault c.insts i x }

/-- The channels: SAFC (true) and SAFH (false). -/
def Saf.chan (u : Saf) (isC : Bool) : SafChan := if isC then u.c else u.h
/-- A channel set. -/
def Saf.putChan (u : Saf) (isC : Bool) (c : SafChan) : Saf := if isC then { u with c := c } else { u with h := c }
/-- The page of a channel. -/
def safPage (isC : Bool) : Nat := if isC then Pg.SAFC else Pg.SAFH

/-- Output k. -/
def Saf.out (u : Saf) (k : Nat) : SafOut := sget safOutDefault u.outs k
/-- Output k set. -/
def Saf.putOut (u : Saf) (k : Nat) (o : SafOut) : Saf := { u with outs := sset safOutDefault u.outs k o }

/-! ## The parameter set (R377, R378) -/

/-- Word i of a set. -/
def setWord (p : List Word) (i : Nat) : Word := wordAt p i
/-- Word j of instance record i. -/
def recWord (p : List Word) (i j : Nat) : Word := wordAt p (64 + 16 * i + j)
/-- KIND of safety input c (R367). -/
def inKind (p : List Word) (c : Nat) : Nat := bits (setWord p (16 + c)) 1 0
/-- The filter time of safety input c in ns (R367): 3 ms while no set is in force. -/
def inFilter (p : List Word) (c : Nat) : Nat :=
  let f := bits (setWord p (16 + c)) 15 8
  100000 * (if f = 0 then 30 else f)
/-- TYPE of instance i (R368). -/
def recType (p : List Word) (i : Nat) : Nat := bits (recWord p i 0) 3 1
/-- EN of instance i. -/
def recEn (p : List Word) (i : Nat) : Bool := bit (recWord p i 0) 0
/-- The output mask of instance i. -/
def recSo (p : List Word) (i : Nat) : Nat := bits (recWord p i 0) 23 16
/-- Input number k (0 A … 3 D) of instance i. -/
def recIn (p : List Word) (i k : Nat) : Nat := bits (recWord p i 1) (8 * k + 7) (8 * k)
/-- The reset input of instance i. -/
def recRst (p : List Word) (i : Nat) : Nat := bits (recWord p i 2) 7 0
/-- SO_EN of a set. -/
def setSoEn (p : List Word) (k : Nat) : Bool := bit (setWord p 3) (16 + k)

/-- The inputs instance i uses (R368), as numbers of IN_A–IN_D. -/
def usedIns (p : List Word) (i : Nat) : List Nat :=
  let t := recType p i
  let w := recWord p i 0
  if t = 1 then 0 :: (if bit w 4 then [1] else [])
  else if t = 2 then 0 :: 1 :: (if bit w 6 then [2] else [])
  else if t = 3 then [0, 1, 2, 3]
  else [0, 1]

/-- The bound of an instance in µs (R375, R376): F + 1,500 µs, and T_EXT with PST_MODE. -/
def setBound (p : List Word) (i : Nat) : Nat :=
  let f := ((usedIns p i).map (fun k => inFilter p (recIn p i k) / 1000)).foldl max 0
  f + 1500 + (if bit (recWord p i 0) 9 then (recWord p i 5).toNat else 0)

/-- The check value of a set (R377): the CRC-32 of its 1,280 bytes. -/
def checkValue (p : List Word) : Word := crc32 (wordsBytes p)

/-- Whether reserved bits of a word are 0: the word has no bit outside the mask. -/
def onlyBits (w mask : Word) : Bool := (w &&& ~~~mask) == 0#32

/-- Whether MAGIC, LENGTH, layout and the reserved fields are right (R377, R378). -/
def setShapeOk (p : List Word) : Bool :=
  setWord p 0 == 0x5A7C5707#32 && setWord p 1 == 1280#32 && bits (setWord p 2) 7 0 == 1 && onlyBits (setWord p 2) 0x1FFF#32
  && onlyBits (setWord p 3) 0x01FF01FF#32 && (upto 12).all (fun i => setWord p (4 + i) == 0#32)
  && (upto 32).all (fun c => onlyBits (setWord p (16 + c)) 0xFF03#32) && (upto 16).all (fun i => setWord p (48 + i) == 0#32)
  && (upto 16).all (fun i => onlyBits (recWord p i 0) 0xFF03FF#32 && onlyBits (recWord p i 2) 0xFFFF00FF#32
      && onlyBits (recWord p i 3) 0x7FF#32 && (upto 10).all (fun j => recWord p i (6 + j) == 0#32))

/-- The instances a set uses. -/
def setInsts (p : List Word) : List Nat := (upto 16).filter (fun i => recEn p i)

/-- The most instances of a type (R368). -/
def typeLimit (t : Nat) : Nat := if t = 1 ∨ t = 2 then 8 else if t = 3 ∨ t = 4 then 4 else 0

/-- The safety inputs instance i uses. -/
def instInputs (p : List Word) (i : Nat) : List Nat := (usedIns p i).map (recIn p i)

/-- The inputs at which reason 0x3 of R379 fails, or none. -/
def setInputFault (p : List Word) : Option Nat :=
  let used := (setInsts p).flatMap (instInputs p)
  let kind3 := (upto 32).filter (fun c => inKind p c == 3)
  (upto 32).find? (fun c =>
    (inKind p c != 0 && (decide (bits (setWord p (16 + c)) 15 8 < 2) || decide (200 < bits (setWord p (16 + c)) 15 8)))
    || (inKind p c == 3 && kind3.head? != some c)
    || (used.contains c && inKind p c != 1) || decide (1 < (used.filter (· == c)).length))

/-- Whether the fields of an instance are within range (reason 0x4 of R379). -/
def recOk (p : List Word) (i : Nat) : Bool :=
  let ins := instInputs p i
  let disc := bits (recWord p i 2) 31 16
  let deg := bits (recWord p i 3) 10 0
  decide (1 ≤ recType p i) && decide (recType p i ≤ 4) && ins.all (fun c => decide (c < 32)) && decide (ins.eraseDups.length = ins.length)
  && decide (10 ≤ disc) && decide (disc ≤ 3000) && (!bit (recWord p i 0) 8 || (decide (1 ≤ deg) && decide (deg ≤ 1800)))
  && (recType p i != 4 || ins.all (fun c => decide (10 ≤ bits (setWord p (16 + c)) 15 8)))
  && decide (recRst p i < 32) && inKind p (recRst p i) == 2

/-- The validation of R379: the VREASON (0 when passed) and the instance or input concerned. -/
def validate (p : List Word) : Nat × Nat :=
  let n := bits (setWord p 2) 12 8
  let insts := setInsts p
  if !setShapeOk p then (1, 0)
  else if n = 0 ∨ 16 < n ∨ insts.length ≠ n ∨ [1, 2, 3, 4].any (fun t => decide (typeLimit t < (insts.filter (fun i => recType p i == t)).length)) then (2, 0)
  else match setInputFault p with
    | some c => (3, c)
    | none => match insts.find? (fun i => !recOk p i) with
      | some i => (4, i)
      | none => match insts.find? (fun i => decide (recSo p i = 0) || (upto 8).any (fun k => (recSo p i).testBit k && !setSoEn p k)) with
        | some i => (5, i)
        | none =>
          if (upto 8).any (fun k => setSoEn p k && !insts.any (fun i => (recSo p i).testBit k)) then (5, 0)
          else if bits (setWord p 3) 8 0 < 100 ∨ 400 < bits (setWord p 3) 8 0 then (6, 0) else (0, 0)

/-! ## Functions (R368, R370) -/

/-- Whether input k of instance i is closed (high) in the filtered states. -/
def insLevel (p : List Word) (f : BitVec 32) (i k : Nat) : Bool := decide (recIn p i k < 32) && f.getLsbD (recIn p i k)

/-- Whether every used input is in its permit state (R368). -/
def permitState (p : List Word) (f : BitVec 32) (i : Nat) : Bool :=
  let t := recType p i
  let w := recWord p i 0
  let l := insLevel p f i
  if t = 1 then l 0 && (!bit w 4 || l 1)
  else if t = 2 then l 0 && (l 1 != bit w 5) && (!bit w 6 || l 2)
  else if t = 3 then l 0 && l 2 && !l 1 && !l 3
  else l 0 && l 1

/-- Whether the pair A, B agrees, after the inversions (R370). -/
def agreeAB (p : List Word) (f : BitVec 32) (i : Nat) : Bool :=
  let t := recType p i
  let w := recWord p i 0
  let l := insLevel p f i
  if t = 1 then !bit w 4 || l 0 == l 1
  else if t = 2 then l 0 == (l 1 != bit w 5)
  else if t = 3 then l 0 != l 1
  else l 0 == l 1

/-- Whether the pair C, D agrees. -/
def agreeCD (p : List Word) (f : BitVec 32) (i : Nat) : Bool :=
  if recType p i = 3 then insLevel p f i 2 != insLevel p f i 3 else true

/-- An instance of a channel changed. -/
def Saf.modInst (isC : Bool) (i : Nat) (g : SafInst → SafInst) (u : Saf) : Saf :=
  let c := u.chan isC
  u.putChan isC (c.putInst i (g (c.inst i)))

/-- An instance enters a state (R369, R381, R385): the event of the change, and what entry into LOCKOUT or DEGRADED
records. -/
def Saf.goto (isC : Bool) (now i st : Nat) (w : W Saf) : W Saf :=
  let page := safPage isC
  if ((w.u.chan isC).inst i).state = st then w
  else
    let deg : Option Nat := if st = 4 then some now else none
    let w := w.map (Saf.modInst isC i (fun x => { x with state := st, degAt := deg, ready := false, firstAt := none }))
    let w := w.when isC (fun w => (w.evt page 0).trigger ⟨4, 0, i⟩)
    let w := w.when (decide (st = 5)) (fun w => (w.codeRec page 0x21B3 [wd i]).when isC (·.evt page 1))
    w.when (decide (st = 4)) (fun w => (w.code page 0x21B5 [wd i]).when isC (·.evt page 2))

/-- A fault of an instance counted. Log entry 71 (DEDUCED). -/
def Saf.countFault (isC : Bool) (i : Nat) (w : W Saf) : W Saf :=
  w.map (Saf.modInst isC i (fun x => { x with faults := satInc 16 x.faults }))

/-- TWOHAND (R369). -/
def Saf.twoHand (isC : Bool) (now i : Nat) (w : W Saf) : W Saf :=
  let u := w.u
  let f := (u.chan isC).filt
  let x := (u.chan isC).inst i
  let l := insLevel u.set f i
  let b1 := l 0 && !l 1
  let b2 := l 2 && !l 3
  let released := !l 0 && l 1 && !l 2 && l 3
  let miss := fun (w : W Saf) =>
    Saf.goto isC now i 6 ((w.map (Saf.modInst isC i (fun x => { x with sync := true }))).code (safPage isC) 0x11B4 [wd i])
  if x.state = 1 then
    if released then w.map (Saf.modInst isC i (fun x => { x with ready := true, firstAt := none }))
    else if b1 && b2 then
      match x.firstAt with
      | some t => if now - t ≤ 500000000
          then Saf.goto isC now i 3 (w.map (Saf.modInst isC i (fun x => { x with sync := false })))
          else miss w
      | none => if x.ready then Saf.goto isC now i 3 (w.map (Saf.modInst isC i (fun x => { x with sync := false }))) else w
    else if (b1 || b2) && x.ready && x.firstAt.isNone then w.map (Saf.modInst isC i (fun x => { x with firstAt := some now }))
    else w
  else if x.state = 3 then (if b1 && b2 then w else Saf.goto isC now i 6 w)
  else if x.state = 4 then (if b1 && b2 then w else Saf.goto isC now i 5 (w.code (safPage isC) 0x21B7 [wd i]))
  else if x.state = 6 then
    (if released then (Saf.goto isC now i 1 w).map (Saf.modInst isC i (fun x => { x with ready := true })) else w)
  else w

/-- An instance evaluated by a channel on its filtered states (R368–R370). -/
def Saf.evalInst (isC : Bool) (now : Nat) (w : W Saf) (i : Nat) : W Saf :=
  let u := w.u
  let p := u.set
  let f := (u.chan isC).filt
  if !recEn p i then w
  else
    let x := (u.chan isC).inst i
    let dem := !permitState p f i
    let ab := if agreeAB p f i then none else (match x.pairAB with | some t => some t | none => some now)
    let cd := if agreeCD p f i then none else (match x.pairCD with | some t => some t | none => some now)
    let w := w.map (Saf.modInst isC i (fun x => { x with
      demand := dem, pairAB := ab, pairCD := cd, demands := if dem && !x.demand then x.demands + 1 else x.demands }))
    if recType p i = 3 then Saf.twoHand isC now i w
    else if x.state = 1 then
      (if !dem && ab.isNone then Saf.goto isC now i (if bit (recWord p i 0) 7 then 2 else 3) w else w)
    else if x.state = 2 ∨ x.state = 3 then (if dem then Saf.goto isC now i 1 w else w)
    else if x.state = 4 then (if dem then Saf.goto isC now i 5 (w.code (safPage isC) 0x21B7 [wd i]) else w)
    else w

/-- A channel's evaluation of every instance, while the layer is in RUN. -/
def Saf.evaluate (isC : Bool) (now : Nat) (w : W Saf) : W Saf :=
  if w.u.layer = 2 then (upto 16).foldl (Saf.evalInst isC now) w else w

/-! ## Outputs (R372–R374) -/

/-- Whether instance i permits its outputs in a channel. Log entry 71 (DEDUCED). -/
def SafInst.permits (x : SafInst) : Bool := decide (x.state = 3) || decide (x.state = 4)

/-- The request bits a channel uses (R384). -/
def Saf.request (u : Saf) (isC : Bool) : BitVec 8 :=
  let c := u.chan isC
  if c.lost && !bit (setWord u.set 3) 24 then 0 else c.req

/-- Whether a channel closes its switch of output k (R372). -/
def Saf.closes (u : Saf) (isC : Bool) (k : Nat) : Bool :=
  decide (u.layer = 2) && setSoEn u.set k
  && (setInsts u.set).all (fun i => !(recSo u.set i).testBit k || ((u.chan isC).inst i).permits)
  && (u.request isC).getLsbD k && !(u.out k).ovl && !(u.out k).uv && !(u.out k).wait

/-- Whether a switch of output k conducts: its command, or a switch that does not open or close (R374). -/
def Saf.switchClosed (u : Saf) (isC : Bool) (k : Nat) : Bool :=
  let o := u.out k
  if isC then (u.closes true k || o.hsOn) && !o.hsOff else (u.closes false k || o.lsOn) && !o.lsOff

/-- Whether output k conducts. -/
def Saf.conducts (u : Saf) (k : Nat) : Bool := u.switchClosed true k && u.switchClosed false k

/-- Whether an output that instance i maps has a switch that does not open (R381). -/
def Saf.soFault (u : Saf) (i : Nat) : Bool :=
  (upto 8).any (fun k => (recSo u.set i).testBit k && ((u.out k).hsOn || (u.out k).lsOn))

/-- The requests as outputs that wait see them: 0 first, then 1 (R374). -/
def Saf.seeRequests (u : Saf) : Saf :=
  (upto 8).foldl (fun u k =>
    let o := u.out k
    let r := (u.request true).getLsbD k && (u.request false).getLsbD k
    if (o.ovl || o.wait) && !o.uv then
      (if !r then u.putOut k { o with seen0 := true }
       else if o.seen0 then u.putOut k { o with ovl := false, wait := false, seen0 := false } else u)
    else u) u

/-! ## What the pages show -/

/-- A word of flags f 0 … f (n − 1). -/
def flagWord (n : Nat) (f : Nat → Bool) : Nat := (upto n).foldl (fun a i => if f i then a + 2 ^ i else a) 0

/-- The key input's number in the set in force, or in the staging copy when none is. Log entry 71 (DEDUCED). -/
def Saf.keyInput (u : Saf) : Option Nat :=
  let p := if u.set = [] then (upto 320).map (fun i => sget (fun _ => (0 : Word)) u.staging i) else u.set
  (upto 32).find? (fun c => inKind p c == 3)

/-- Whether a channel sees the key closed. -/
def Saf.key (u : Saf) (isC : Bool) : Bool := match u.keyInput with
  | some c => (u.chan isC).filt.getLsbD c
  | none => false

/-- SAFC_STAT and SAFH_STAT. -/
def Saf.statWord (u : Saf) (isC : Bool) : Word :=
  wd (u.layer + 8 * b2n (u.key isC) + 16 * b2n (u.chan isC).lost
    + 65536 * flagWord 16 (fun i => decide (((u.chan isC).inst i).state = 5)))

/-- SAFC_I_STAT of an instance. -/
def Saf.instWord (u : Saf) (i : Nat) : Word :=
  let x := u.c.inst i
  wd (x.state + 8 * b2n x.discrep + 16 * b2n x.xcmp + 32 * b2n (u.soFault i) + 64 * b2n x.sync
    + 256 * (if recEn u.set i then recType u.set i else 0))

/-- SFO_O_STAT of an output. -/
def Saf.outWord (u : Saf) (k : Nat) : Word :=
  let o := u.out k
  let deg := (o.hsOn || o.lsOn) && (setInsts u.set).any (fun i => (recSo u.set i).testBit k && decide ((u.c.inst i).state = 4))
  wd (b2n (u.conducts k) + 2 * b2n o.rbHs + 4 * b2n o.rbLs + 8 * b2n o.hsOn + 16 * b2n o.hsOff + 32 * b2n o.lsOn
    + 64 * b2n o.lsOff + 128 * b2n o.ovl + 256 * b2n o.uv + 512 * b2n deg)

/-- The registers of an instance shown (R386). -/
def Saf.showInst (now : Nat) (u : Saf) (i : Nat) : Saf :=
  let x := u.c.inst i
  let left := match x.degAt with
    | some t => bits (recWord u.set i 3) 10 0 - (now - t) / 1000000000
    | none => 0
  { u with regs := rsets u.regs [(rk Reg.SAFC_I_STAT 0 i, u.instWord i),
      (rk Reg.SAFC_I_DEG 0 i, wd left), (rk Reg.SAFC_I_CNT 0 i, wd (x.demands % 65536 + 65536 * x.faults))] }

/-- SAFC_I_BOUND of every instance of a set (R376). -/
def Saf.showBounds (p : List Word) (u : Saf) : Saf :=
  { u with regs := rsets u.regs ((upto 16).map (fun i => (rk Reg.SAFC_I_BOUND 0 i, if recEn p i then wd (setBound p i) else 0))) }

/-- The registers of the three pages that follow from the layer's state. -/
def Saf.settle (now : Nat) (u : Saf) : Saf :=
  let u := u.seeRequests
  let u := (upto 16).foldl (Saf.showInst now) u
  let u : Saf := { u with regs := rsets u.regs [(Reg.SAFC_STAT, u.statWord true), (Reg.SAFC_IN, u.c.filt),
    (Reg.SAFH_STAT, u.statWord false), (Reg.SAFH_IN, u.h.filt),
    (Reg.SAFH_PERMIT, wd (flagWord 16 (fun i => (u.h.inst i).permits) + 65536 * flagWord 8 (u.closes false))),
    (Reg.SFO_STAT, wd (flagWord 8 u.conducts + 256 * flagWord 8 (u.switchClosed true) + 65536 * flagWord 8 (u.switchClosed false)))] }
  { u with regs := rsets u.regs ((upto 8).map (fun k => (rk Reg.SFO_O_STAT 0 k, u.outWord k))) }

/-! ## Inputs and their filters (R367) -/

/-- The raw levels a channel sees from a true time on. -/
def SafChan.setRaw (c : SafChan) (raw : BitVec 32) (now : Nat) : SafChan :=
  { c with
    raw := raw
    since := ((upto 32).filter (fun i => c.raw.getLsbD i != raw.getLsbD i)).foldl (fun l i => sset (fun _ => 0) l i now) c.since }

/-- The level of input i after a change at a true time (R382): a reset input's press is measured. Log entry 70 (DEDUCED). -/
def Saf.change (isC : Bool) (t i : Nat) (v : Bool) (u : Saf) : Saf :=
  let c := u.chan isC
  let c : SafChan := { c with filt := if v then c.filt ||| BitVec.twoPow 32 i else c.filt &&& ~~~(BitVec.twoPow 32 i) }
  let c : SafChan := if v then { c with closedAt := sset (fun _ => 0) c.closedAt i t } else c
  let u := u.putChan isC c
  if isC then
    if v then u else { u with regs := rmod u.regs Reg.SAFC_RST_STAT (fun x => putBit x i false) }
  else if v then { u with pressed := u.pressed &&& ~~~(BitVec.twoPow 32 i) }
  else
    let d := t - sget (fun _ => 0) c.closedAt i
    let held := rbit u.regs Reg.SAFC_RST_STAT i
    if inKind u.set i ≠ 2 then u
    else if d < 100000000 then { u with short := u.short + 1 }
    else if held || decide (5000000000 < d) then u
    else { u with pressed := u.pressed ||| BitVec.twoPow 32 i }

/-- The filtered states of a channel brought up to a true time: a level that has stood for F counts (R367). SAFH filters
continuously, SAFC at its cycle. Log entry 70 (DEDUCED). -/
def Saf.advance (isC : Bool) (now : Nat) (u : Saf) : Saf :=
  (upto 32).foldl (fun u i =>
    let c := u.chan isC
    let v := c.raw.getLsbD i
    let t := sget (fun _ => 0) c.since i + inFilter u.set i
    if v != c.filt.getLsbD i && decide (t ≤ now) then u.change isC (if isC then now else t) i v else u) u

/-- SAFETY_INPUT_CHANGE (R367): SAFH filters what stood until now, evaluates it, and sees the new levels. Log entry 70 (DEDUCED). -/
def Saf.inputChange (raw : BitVec 32) (now : Nat) (u : Saf) : W Saf :=
  let w := Saf.evaluate false now (W.of (u.advance false now))
  w.map (fun u => ({ u with h := u.h.setRaw raw now }).settle now)

/-- The cross-comparison of an instance (R371). -/
def Saf.crossCompare (now : Nat) (w : W Saf) (i : Nat) : W Saf :=
  let u := w.u
  let differ := (u.c.inst i).permits != (u.h.inst i).permits
  let k := if differ then (u.c.inst i).xRun + 1 else 0
  let w := w.map (Saf.modInst true i (fun x => { x with xRun := k }))
  if k = 3 then
    let set := Saf.modInst true i (fun x => { x with xcmp := true })
    let w := w.map (fun u => Saf.modInst false i (fun x => { x with xcmp := true }) (set u))
    let w := w.map (fun u => { u with regs := rmod u.regs Reg.SAFH_XCMP incW })
    let w := Saf.countFault false i (Saf.countFault true i w)
    let w := ((w.code Pg.SAFC 0x31B2 [wd i]).code Pg.SAFH 0x31B2 [wd i]).evt Pg.SAFH 0
    Saf.goto false now i 5 (Saf.goto true now i 5 w)
  else w

/-- SAFC_CYCLE (R365, R371): sample, evaluate, drive and cross-compare, with the work of the cycle in 0.1 µs. Log entry 70 (DEDUCED). -/
def Saf.cycle (raw : BitVec 32) (now work : Nat) (u : Saf) : W Saf :=
  let u := { u with c := u.c.setRaw raw now }
  let u := (u.advance false now).advance true now
  let w := Saf.evaluate true now (Saf.evaluate false now (W.of u))
  let w := if w.u.layer = 2 then (upto 16).foldl (Saf.crossCompare now) w else w
  w.map (fun u =>
    ({ u with regs := rmod u.regs Reg.SAFC_CYCLE (fun x => putBits x 15 0 (max (bits x 15 0) (work % 2501))) } : Saf).settle now)

/-! ## Timeouts (R369, R370, R381) -/

/-- Whether a pair has disagreed for a time. -/
def overdue (since : Option Nat) (now ns : Nat) : Bool := match since with | some t => decide (ns ≤ now - t) | none => false

/-- DISCREPANCY_TIMEOUT of an instance in a channel (R370). -/
def Saf.discrepancy (now i : Nat) (w : W Saf) (isC : Bool) : W Saf :=
  let u := w.u
  let x := (u.chan isC).inst i
  let disc := 1000000 * bits (recWord u.set i 2) 31 16
  if u.layer = 2 ∧ recEn u.set i = true ∧ (overdue x.pairAB now disc || overdue x.pairCD now disc) = true ∧ x.discrep = false then
    let w := w.map (Saf.modInst isC i (fun x => { x with discrep := true }))
    Saf.goto isC now i 5 ((Saf.countFault isC i w).code (safPage isC) 0x21B1 [wd i])
  else w

/-- TWOHAND_SYNC_TIMEOUT of an instance in a channel (R369). -/
def Saf.syncTimeout (now i : Nat) (w : W Saf) (isC : Bool) : W Saf :=
  let u := w.u
  let x := (u.chan isC).inst i
  if u.layer = 2 ∧ recEn u.set i = true ∧ recType u.set i = 3 ∧ x.state = 1 ∧ overdue x.firstAt now 500000000 = true then
    let w := w.map (Saf.modInst isC i (fun x => { x with sync := true }))
    Saf.goto isC now i 6 (w.code (safPage isC) 0x11B4 [wd i])
  else w

/-- DEGRADED_EXPIRY of an instance in a channel (R381). -/
def Saf.degExpiry (now i : Nat) (w : W Saf) (isC : Bool) : W Saf :=
  let u := w.u
  let x := (u.chan isC).inst i
  if u.layer = 2 ∧ x.state = 4 ∧ overdue x.degAt now (1000000000 * bits (recWord u.set i 3) 10 0) = true then
    Saf.goto isC now i 5 (w.code (safPage isC) 0x31B6 [wd i])
  else w

/-- A step of both channels. -/
def Saf.both (now : Nat) (f : W Saf → Bool → W Saf) (u : Saf) : W Saf := (f (f (W.of u) true) false).map (Saf.settle now)

/-! ## LOCKED (R366) -/

/-- The layer locked: no output conducts until the module is reset. -/
def Saf.lock (page code now : Nat) (u : Saf) : W Saf :=
  let w := ((W.of { u with layer := 3 }).codeRec page code []).evt Pg.SAFH 1
  (w.evt Pg.SAFC 5).map (Saf.settle now)

/-- SAFETY_OSC_FAULT, with the frequency the monitor measured in kHz. -/
def Saf.oscFault (khz now : Nat) (u : Saf) : W Saf :=
  { u with regs := rset u.regs Reg.SAFH_OSC (wd (khz % 65536)) }.lock Pg.SAFH 0x41C0 now

/-! ## Output faults (R373, R374) -/

/-- A counter of an output (SFO_O_CNT): tests and failed tests. -/
def Saf.countTest (k : Nat) (failed : Bool) (u : Saf) : Saf :=
  { u with regs := rmod u.regs (rk Reg.SFO_O_CNT 0 k) (fun x =>
      let y := incWrapField x 15 0
      if failed then incSatField y 31 16 else y) }

/-- The reaction of an instance to a switch that does not open (R381). -/
def Saf.react (now k : Nat) (isC : Bool) (w : W Saf) (i : Nat) : W Saf :=
  let u := w.u
  if recEn u.set i && (recSo u.set i).testBit k then
    let x := (u.chan isC).inst i
    let w := Saf.countFault isC i w
    if bit (recWord u.set i 0) 8 then (if x.state = 3 then Saf.goto isC now i 4 w else w)
    else Saf.goto isC now i 5 w
  else w

/-- A failed test of a switch of output k (R374): it does not open, or it does not close. -/
def Saf.switchFault (now k : Nat) (low conducting : Bool) (u : Saf) : W Saf :=
  let o := u.out k
  let o : SafOut := if low then { o with lsPass := 0 } else { o with hsPass := 0 }
  if conducting then
    let onset := if low then !o.lsOn else !o.hsOn
    let u := u.putOut k (if low then { o with lsOn := true } else { o with hsOn := true })
    let w := (W.of u).when onset (fun w => (w.code Pg.SFO 0x31C4 [wd k]).evt Pg.SFO 0)
    let w := if onset then (upto 16).foldl (Saf.react now k true) w else w
    if onset then (upto 16).foldl (Saf.react now k false) w else w
  else
    let onset := if low then !o.lsOff else !o.hsOff
    let u := u.putOut k (if low then { o with lsOff := true } else { o with hsOff := true })
    (W.of u).when onset (fun w => (w.code Pg.SFO 0x31C5 [wd k]).evt Pg.SFO 0)

/-- A passed test of a switch of output k: two in a row clear its faults. -/
def Saf.switchPass (k : Nat) (low : Bool) (u : Saf) : Saf :=
  let o := u.out k
  if low then
    (if 1 ≤ o.lsPass then u.putOut k { o with lsPass := 2, lsOn := false, lsOff := false } else u.putOut k { o with lsPass := 1 })
  else
    (if 1 ≤ o.hsPass then u.putOut k { o with hsPass := 2, hsOn := false, hsOff := false } else u.putOut k { o with hsPass := 1 })

/-- SFO_TEST_PULSE (R373): the pulse of one switch of output k, with the terminal voltages and SL+ in mV and the load
current in mA read at its end. -/
def Saf.testPulse (now k : Nat) (low : Bool) (vp vm sl ma : Nat) (u : Saf) : W Saf :=
  if u.layer = 2 ∧ setSoEn u.set k = true then
    let on := u.closes true k && u.closes false k
    let pass := if on then (if low then decide (sl < vm + 5000) else decide (vp < 5000))
      else (if low then decide (vm < 2000) else decide (sl < vp + 2000))
    let u := { u with regs := rsets u.regs [(Reg.SFO_SUPPLY, wd (sl % 65536)), (rk Reg.SFO_O_I 0 k, wd (ma % 4096))] }
    let u := (u.putOut k { u.out k with rbHs := decide (sl < vp + 2000), rbLs := decide (vm < 2000) }).countTest k (!pass)
    (if pass then W.of (u.switchPass k low) else u.switchFault now k low on).map (Saf.settle now)
  else W.of u

/-- READBACK_MISMATCH (R373): a failed test of a switch whose terminal differs from its command. -/
def Saf.mismatch (now k : Nat) (low : Bool) (u : Saf) : W Saf :=
  if u.layer = 2 ∧ setSoEn u.set k = true then
    ((u.countTest k true).switchFault now k low (!u.closes (!low) k)).map (Saf.settle now)
  else W.of u

/-- SAFETY_OUTPUT_OVERLOAD (R374). -/
def Saf.overload (now k : Nat) (u : Saf) : W Saf :=
  if u.conducts k then
    (((W.of (u.putOut k { u.out k with ovl := true, seen0 := false })).code Pg.SFO 0x21C6 [wd k]).evt Pg.SFO 1).map (Saf.settle now)
  else W.of u

/-- SL_UNDERVOLTAGE (R374), with SL+ in mV. -/
def Saf.undervoltage (now sl : Nat) (u : Saf) : W Saf :=
  let onset := !(upto 8).any (fun k => (u.out k).uv)
  let u := { u with regs := rset u.regs Reg.SFO_SUPPLY (wd (sl % 65536)) }
  if sl < 16000 then
    let u := (upto 8).foldl (fun u k => u.putOut k { u.out k with uv := true, wait := true, seen0 := false }) u
    ((W.of u).when onset (fun w => (w.code Pg.SFO 0x21C7 []).evt Pg.SFO 2)).map (Saf.settle now)
  else W.of u

/-- SL_RECOVERY (R374): SL_UV clears, and each output waits for its request to be seen 0 and then 1. Log entry 71 (DEDUCED). -/
def Saf.slRecover (now sl : Nat) (u : Saf) : Saf :=
  let u := { u with regs := rset u.regs Reg.SFO_SUPPLY (wd (sl % 65536)) }
  if 17000 ≤ sl then ((upto 8).foldl (fun u k => u.putOut k { u.out k with uv := false }) u).settle now else u

/-! ## Reset (R382, R383) -/

/-- A reset refused (R382). Log entry 72 (DESIGN CHOICE). -/
def Saf.refuseReset (i : Nat) (fault : Bool) (w : W Saf) : W Saf :=
  (w.code Pg.SAFC 0x11B9 [wd i, Config.safResetReason fault]).evt Pg.SAFC 4

/-- A taken reset on an instance of a channel (R382). Refusals are recorded once, by SAFC. Log entry 71 (DEDUCED). -/
def Saf.resetInst (isC : Bool) (now : Nat) (w : W Saf) (i : Nat) : W Saf :=
  let u := w.u
  let x := (u.chan isC).inst i
  let agree := x.pairAB.isNone && x.pairCD.isNone
  let clear := fun (w : W Saf) => w.map (Saf.modInst isC i (fun x => { x with discrep := false, xcmp := false, xRun := 0 }))
  if x.state = 2 then
    if x.demand then w.when isC (Saf.refuseReset i false) else Saf.goto isC now i 3 w
  else if x.state = 5 then
    if u.soFault i then w.when isC (Saf.refuseReset i true)
    else if !agree then w.when isC (Saf.refuseReset i false)
    else Saf.goto isC now i (if x.demand then 1 else 3) (clear w)
  else w

/-- RESET_TAKEN (R382): the release of a press of 0.1–5 s of reset input j. -/
def Saf.resetTaken (now j : Nat) (u : Saf) : W Saf :=
  let u := (u.advance false now).advance true now
  let w := Saf.evaluate true now (Saf.evaluate false now (W.of u))
  if w.u.layer = 2 ∧ w.u.pressed.getLsbD j = true then
    let named := (setInsts w.u.set).filter (fun i => recRst w.u.set i == j)
    let w := w.map (fun u => { u with pressed := u.pressed &&& ~~~(BitVec.twoPow 32 j) })
    let w := named.foldl (Saf.resetInst true now) w
    (named.foldl (Saf.resetInst false now) w).map (Saf.settle now)
  else w.map (Saf.settle now)

/-- RESET_HELD (R382): a press of reset input j that has reached 5 s. -/
def Saf.resetHeld (now j : Nat) (u : Saf) : W Saf :=
  let u := u.advance false now
  if u.layer = 2 ∧ inKind u.set j = 2 ∧ u.h.filt.getLsbD j = true ∧ 5000000000 ≤ now - sget (fun _ => 0) u.h.closedAt j
      ∧ rbit u.regs Reg.SAFC_RST_STAT j = false then
    ((W.of { u with regs := rmod u.regs Reg.SAFC_RST_STAT (fun x => putBit x j true) }).code Pg.SAFC 0x11B8 [wd j]).map (Saf.settle now)
  else W.of (u.settle now)

/-! ## The standard request (R384) -/

/-- REQ_REFRESH (R384): SFO_REQ received along the paths that delivered it. -/
def Saf.refreshReq (now : Nat) (toC toH : Bool) (u : Saf) : Saf :=
  let r := BitVec.ofNat 8 (rfld u.regs Reg.SFO_REQ 7 0)
  let put := fun (isC : Bool) (u : Saf) =>
    let c := u.chan isC
    u.putChan isC { c with req := r, reqAt := now, lost := false }
  let u := if toC then put true u else u
  (if toH then put false u else u).settle now

/-- REQ_LOSS (R384): a channel without a refresh for 1 ms. Log entry 7 (DESIGN CHOICE). -/
def Saf.lossReq (now : Nat) (isC : Bool) (u : Saf) : W Saf :=
  let c := u.chan isC
  if 1 ≤ u.layer ∧ c.lost = false ∧ 1000000 ≤ now - c.reqAt then
    ((W.of (u.putChan isC { c with lost := true })).code (safPage isC) 0x21C8 []).map (Saf.settle now)
  else W.of u

/-! ## The set: staging, check, confirmation, loading (R379, R380) -/

/-- The staging copy. -/
def Saf.stagingSet (u : Saf) : List Word := (upto 320).map (fun i => sget (fun _ => (0 : Word)) u.staging i)

/-- The states in which the staging copy may be written and a set confirmed (R379). -/
def safWritable (m : Mode) : Bool := match m with
  | .config => true | .service => true
  | .off => false | .boot => false | .ready => false | .run => false | .halt => false

/-- STAGING_WRITE (R379). Log entry 71 (DEDUCED). -/
def Saf.stage (m : Mode) (v : Word) (u : Saf) : W Saf :=
  if safWritable m then
    let i := rfld u.regs Reg.SAFC_P_WIN 8 0
    let st := if i < 320 then sset (fun _ => (0 : Word)) u.staging i v else u.staging
    W.of { u with
      staging := st
      regs := rmod (rmod u.regs Reg.SAFC_P_WIN (fun x => putBits x 8 0 (i + 1))) Reg.SAFC_CONF_STAT (fun x => putBit (putBit x 0 false) 1 false) }
  else (W.of u).code Pg.SAFC 0x11A2 []

/-- SAFETY_PARAM_CHECK (R379). -/
def Saf.check (u : Saf) : Saf :=
  let p := u.stagingSet
  let r := validate p
  let cv := checkValue p
  let u := u.showBounds p
  { u with regs := rmod (rsets u.regs [(Reg.SAFC_CHECK, cv), (Reg.SAFH_CHECK, cv)]) Reg.SAFC_CONF_STAT (fun x =>
      putBits (putBits (putBit (putBit x 0 (decide (r.1 = 0))) 1 false) 11 8 r.1) 19 16 r.2) }

/-- The byte address of a safety parameter region (R425): A (false) or B (true). -/
def safRegion (b : Bool) : Nat := if b then 0x31680000 else 0x31600000

/-- The refusal of a confirmation (R379): the REASON with the instance, or none. -/
def Saf.confirmFault (feat12 : Bool) (m : Mode) (v : Word) (u : Saf) : Option (Nat × Nat) :=
  let p := u.stagingSet
  if !feat12 then some (1, 0)
  else if !safWritable m || u.layer == 3 then some (2, 0)
  else if !(u.key true && u.key false) then some (3, 0)
  else if !rbit u.regs Reg.SAFC_CONF_STAT 0 then some (4, 0)
  else if rget u.regs Reg.SAFC_CHECK ≠ rget u.regs Reg.SAFH_CHECK then some (5, 0)
  else if v ≠ rget u.regs Reg.SAFC_CHECK then some (6, 0)
  else match (setInsts p).find? (fun i => bit (recWord p i 0) 9 && decide ((recWord p i 4).toNat < setBound p i)) with
    | some i => some (7, i)
    | none => none

/-- CONFIRM (R379): a write of SAFC_CONFIRM. Log entry 73 (DESIGN CHOICE). -/
def Saf.confirm (feat12 : Bool) (m : Mode) (v : Word) (u : Saf) : W Saf :=
  match u.confirmFault feat12 m v with
  | some (r, i) =>
    let u := { u with regs := rmod u.regs Reg.SAFC_CONF_STAT (fun x =>
      let y := putBits x 7 4 r
      if r = 7 then putBits y 19 16 i else y) }
    ((W.of u).code Pg.SAFC 0x11A1 [wd r]).evt Pg.SAFC 3
  | none =>
    let b := match u.active with | some a => !a | none => false
    let u : Saf := { u with
      active := some b
      valueA := if b then u.valueA else v
      valueB := if b then v else u.valueB
      regs := rmod u.regs Reg.SAFC_CONF_STAT (fun x => putBit (putBit x 1 true) 2 true) }
    (((W.of u).codeRec Pg.SAFC 0x01A0 []).evt Pg.SAFC 3).store Pg.SAFC (safRegion b) (wordsBytes u.stagingSet)

/-- Entry into READY (R369, R380, R382): both channels load the active set; every instance starts in STOP; a reset input
already closed counts as held. Log entry 73 (DESIGN CHOICE). -/
def Saf.enterReady (m : Mem) (feat12 : Bool) (now : Nat) (u : Saf) : W Saf :=
  if !feat12 || u.layer == 3 then W.of (u.settle now)
  else
    let u : Saf := { u with
      c := { u.c with insts := [], reqAt := now, lost := false }, h := { u.h with insts := [], reqAt := now, lost := false }
      pressed := 0, regs := rmod u.regs Reg.SAFC_CONF_STAT (fun x => putBit x 2 false) }
    match u.active with
    | none =>
      let w := (W.of { u with layer := 1, set := [], regs := rset u.regs Reg.SAFC_ACTIVE 0 }).code Pg.SAFC 0x11A9 []
      ((w.code Pg.SAFH 0x11A9 []).evt Pg.SAFC 5).map (Saf.settle now)
    | some b =>
      let a := safRegion b
      let p := m.readWords a 320
      let v := if b then u.valueB else u.valueA
      let w := (W.of u).readN m Pg.SAFC a 40
      if checkValue p ≠ v || m.anyBad a 40 then
        let w := w.map (fun u => { u with layer := 1, set := [], regs := rset u.regs Reg.SAFC_ACTIVE v })
        (((w.codeRec Pg.SAFC 0x41A8 []).codeRec Pg.SAFH 0x41A8 []).evt Pg.SAFC 5).map (Saf.settle now)
      else
        let start : List (Nat × SafInst) := (setInsts p).map (fun i => (i, { SafInst.off with state := 1 }))
        let w := w.map (fun u => { u.showBounds p with
          layer := 2, set := p, regs := rset (u.showBounds p).regs Reg.SAFC_ACTIVE v
          c := { u.c with insts := start }, h := { u.h with insts := start } })
        let closed := (upto 32).filter (fun j => inKind p j == 2 && w.u.h.filt.getLsbD j)
        let w := closed.foldl (fun (w : W Saf) j =>
          (w.map (fun u => { u with regs := rmod u.regs Reg.SAFC_RST_STAT (fun x => putBit x j true) })).code Pg.SAFC 0x11B8 [wd j]) w
        let w := Saf.evaluate true now (Saf.evaluate false now w)
        (w.evt Pg.SAFC 5).map (Saf.settle now)

/-- The layer stopped: both switches of every output open (R366). LOCKED stays until the module is reset. -/
def Saf.stop (now : Nat) (u : Saf) : Saf :=
  let u : Saf := { u with
    layer := if u.layer = 3 then 3 else 0, c := { u.c with insts := [] }, h := { u.h with insts := [] } }
  u.settle now

/-- The designated safety inputs of G10 (false) and G11 (true) in the set in force (R330, R367). -/
def Saf.designated (u : Saf) (g11 : Bool) : Word := wd (flagWord 16 (fun c => decide (inKind u.set (c + (if g11 then 16 else 0)) ≠ 0)))

/-- PAGE_STAT[15:8] of SFO (R388). -/
def Saf.sfoState (u : Saf) : Nat :=
  if (upto 8).any (fun k => (u.out k).hsOn || (u.out k).hsOff || (u.out k).lsOn || (u.out k).lsOff) then 2
  else if (upto 8).any u.conducts then 1 else 0

end Sys2Proof.Machine
end

