-- ==== Sys2Proof/Machine/Sequencer.lean ====
section
/-! DEFINITION. SEQ's own rules (R37–R62): the span format, the validation of R52, the span window, swaps, the grid, and the
count of misses. -/

namespace Sys2Proof.Machine

/-! ## The Furlong banks (R42, R51) -/

/-- The byte address of a span block. -/
def spanAddr (bank : Bool) (idx : Nat) : Nat := furlongBase + 0x8000 * b2n bank + 32 * idx

/-- The fields of a span from its eight words (R42). -/
def spanOf (w : Nat → Word) : Span :=
  { start := bits (w 0) 14 0, en := bit (w 0) 15, unit := bits (w 0) 23 16, opcode := bits (w 0) 31 24
    deadline := bits (w 1) 19 0, div := bits (w 2) 11 0, phase := bits (w 2) 27 16, arg := w 3
    src := bits (w 4) 18 0, dst := bits (w 5) 18 0, srcLen := bits (w 6) 19 0, dstLen := bits (w 7) 19 0
    reserved := decide ((w 1 &&& 0xFFF00000#32) ≠ 0) || decide ((w 2 &&& 0xF000F000#32) ≠ 0)
      || decide ((w 4 &&& 0xFFF80000#32) ≠ 0) || decide ((w 5 &&& 0xFFF80000#32) ≠ 0)
      || decide ((w 6 &&& 0xFFF00000#32) ≠ 0) || decide ((w 7 &&& 0xFFF00000#32) ≠ 0) }

/-- The span at an index of a bank, as its reader gets it. -/
def Mem.span (m : Mem) (bank : Bool) (idx : Nat) : Span := spanOf (fun k => m.readWord (spanAddr bank idx + 4 * k))

/-- The enabled spans of the first n of a bank, with their indexes. -/
def Mem.spans (m : Mem) (bank : Bool) (n : Nat) : List (Nat × Span) :=
  ((upto n).map (fun i => (i, m.span bank i))).filter (fun p => p.2.en)

/-- A long span (R45). -/
def Span.long (x : Span) (lenUs : Nat) : Bool := decide (lenUs < x.deadline)

/-- A LATCH span (R44). -/
def Span.isLatch (x : Span) : Bool := x.unit == 0x7F && x.opcode == 1

/-- What R44 asks of a LATCH span. -/
def Span.latchOk (x : Span) : Bool :=
  x.div == 0 && x.srcLen == 0 && x.dstLen == 0 && (x.arg &&& 0xFFFFFFC0#32) == 0#32 && x.deadline == x.start + 1

/-! ## Units and operations (R29, R43, R61) -/

/-- Units that R43 admits. -/
def unitAdmitted (u : Nat) : Bool :=
  (decide (0x10 ≤ u) && decide (u ≤ 0x19)) || (decide (0x20 ≤ u) && decide (u ≤ 0x25)) || (decide (0x30 ≤ u) && decide (u ≤ 0x3B))
    || u == 0x40 || u == 0x41 || (decide (0x50 ≤ u) && decide (u ≤ 0x5B)) || (decide (0x60 ≤ u) && decide (u ≤ 0x77)) || u == 0x7F

/-- The operations defined for a unit by its chapter. -/
def unitOps (u : Nat) : List Nat :=
  if u = 0x10 then [2]
  else if u = 0x11 ∨ u = 0x20 then [1, 2]
  else if (0x12 ≤ u ∧ u ≤ 0x18) ∨ (0x22 ≤ u ∧ u ≤ 0x25) ∨ (0x60 ≤ u ∧ u ≤ 0x77) ∨ u = 0x7F then [1]
  else []

/-- The feature bit a span's unit rests on, if it rests on one: FUS on 7 (R52 reason 0x6). Log entry 12 (DEDUCED). -/
def spanFeature (x : Span) : Option Nat :=
  if x.unit = 0x15 then some 7 else none

/-- The page of a unit (R29, R43, R431). -/
def unitPage (u opcode : Nat) : Nat :=
  if u = 0x10 then Pg.SOL0
  else if u = 0x11 then (if opcode = 1 then Pg.EST else Pg.SOL1)
  else if u = 0x12 then Pg.CTL
  else if u = 0x13 then Pg.CTL + 1
  else if u = 0x14 then Pg.FLT
  else if u = 0x15 then Pg.FUS0
  else if u = 0x16 then Pg.GNSC
  else if u = 0x17 then Pg.ALC
  else if u = 0x18 ∨ u = 0x19 then Pg.GNS + (u - 0x18)
  else if u = 0x20 then Pg.CHN
  else if u = 0x21 then Pg.PRP
  else if 0x22 ≤ u ∧ u ≤ 0x25 then Pg.CAN + (u - 0x22)
  else if 0x30 ≤ u ∧ u ≤ 0x3B then Pg.SER + (u - 0x30)
  else if u = 0x40 then Pg.REC
  else if u = 0x41 then Pg.SNAP
  else if 0x50 ≤ u ∧ u ≤ 0x5B then Pg.FIO + (u - 0x50)
  else if 0x60 ≤ u ∧ u ≤ 0x77 then Pg.POS + (u - 0x60)
  else Pg.SEQ

/-! ## Validation (R52) -/

/-- What a validation is made against: the fathom length and the features accepted. -/
structure FurlongIn where
  lenUs : Nat
  feat  : Nat → Bool

/-- Whether fathom counts fa of class pa modulo na and fb of class pb modulo nb meet with lo < (fb − fa) × len < hi.
Log entry 12 (DEDUCED). -/
def meets (lo hi : Int) (na pa nb pb len : Nat) : Bool :=
  let g : Int := Nat.gcd na nb
  let r : Int := ((pb : Int) - (pa : Int)) % g
  let k0 := Int.fdiv lo len + 1
  let k := k0 + (r - k0) % g
  decide (k * (len : Int) < hi)

/-- Whether two runs of blocks share one. -/
def blocksMeet (a n b m : Nat) : Bool := decide (a < b + m) && decide (b < a + n)

/-- A source overlaps a pair other than by naming it (reason 0xA). -/
def sourceClash (x y : Span) : Bool :=
  decide (x.srcLen ≠ 0) && decide (y.dstLen ≠ 0) && !(x.src == y.dst && decide (x.srcLen ≤ y.dstLen))
    && blocksMeet x.src x.srcLen y.dst (2 * y.dstLen)

/-- Two destination pairs overlap (reason 0xA). -/
def pairClash (x y : Span) : Bool :=
  decide (x.dstLen ≠ 0) && decide (y.dstLen ≠ 0) && blocksMeet x.dst (2 * x.dstLen) y.dst (2 * y.dstLen)

/-- Two spans of one unit can occupy it at one tick (reason 0xB). -/
def unitClash (len : Nat) (a b : Span) : Bool :=
  a.unit == b.unit && !(a.div == b.div && a.phase != b.phase)
    && meets ((a.start : Int) - b.deadline) ((a.deadline : Int) - b.start) (a.div + 1) a.phase (b.div + 1) b.phase len

/-- A reader r reads a pair that w publishes strictly within one run of r (reason 0xC). -/
def readClash (len : Nat) (r w : Span) : Bool :=
  decide (r.srcLen ≠ 0) && decide (w.dstLen ≠ 0) && r.src == w.dst
    && meets ((r.start : Int) - w.deadline) ((r.deadline : Int) - w.deadline) (r.div + 1) r.phase (w.div + 1) w.phase len

/-- The first index that fails a check on one span. Log entry 28 (DEDUCED). -/
def firstFail (en : List (Nat × Span)) (p : Nat × Span → Bool) : Option Nat := (en.find? p).map (·.1)

/-- The spans before an index. -/
def before (en : List (Nat × Span)) (i : Nat) : List (Nat × Span) := en.filter (fun y => decide (y.1 < i))

/-- The checks of R52 from 0x2 to 0xC on the enabled spans, in the order of the table. Log entry 28 (DEDUCED). -/
def furlongChecks (f : FurlongIn) (en : List (Nat × Span)) : List (Nat × Option Nat) :=
  [(0x2, firstFail en (fun x => (before en x.1).any (fun y => decide (x.2.start < y.2.start)))),
   (0x3, firstFail en (fun x => decide (f.lenUs ≤ x.2.start))),
   (0x4, firstFail en (fun x => decide (x.2.deadline ≤ x.2.start) || (x.2.isLatch && !x.2.latchOk))),
   (0x5, firstFail en (fun x => x.2.long f.lenUs &&
      (!(x.2.unit == 0x15 || x.2.unit == 0x16) || decide ((x.2.div + 1) * f.lenUs < x.2.deadline)))),
   (0x6, firstFail en (fun x => !unitAdmitted x.2.unit || (match spanFeature x.2 with | some k => !f.feat k | none => false))),
   (0x7, firstFail en (fun x => !(unitOps x.2.unit).contains x.2.opcode)),
   (0x8, firstFail en (fun x => decide (x.2.div < x.2.phase) || x.2.reserved)),
   (0x9, firstFail en (fun x => decide (524288 < x.2.src + x.2.srcLen) || decide (524288 < x.2.dst + 2 * x.2.dstLen))),
   (0xA, firstFail en (fun x => (before en x.1).any (fun y => pairClash x.2 y.2) || en.any (fun y => sourceClash x.2 y.2))),
   (0xB, firstFail en (fun x => (before en x.1).any (fun y => unitClash f.lenUs y.2 x.2))),
   (0xC, firstFail en (fun x => en.any (fun y => readClash f.lenUs x.2 y.2)))]

/-- The first of the checks that fails, as REASON and SPAN. Log entry 28 (DEDUCED). -/
def firstReason : List (Nat × Option Nat) → Option (Nat × Nat)
  | [] => none
  | (r, some i) :: _ => some (r, i)
  | (_, none) :: l => firstReason l

/-- The validation of a bank of n spans (R52): REASON and SPAN of the first failure. Log entry 28 (DEDUCED). -/
def validateBank (m : Mem) (f : FurlongIn) (bank : Bool) (n : Nat) : Option (Nat × Nat) :=
  if n = 0 ∨ 1024 < n then some (0x1, 0)
  else match (upto n).find? (fun i => m.isBad (spanAddr bank i)) with
    | some i => some (0xD, i)
    | none => firstReason (furlongChecks f (m.spans bank n))

/-! ## SEQ's registers -/

/-- A field of SEQ_SWAP_STAT changed. -/
def Seq.swapStat (u : Seq) (f : Word → Word) : Seq := { u with regs := rmod u.regs Reg.SEQ_SWAP_STAT f }

/-- The verdict of a validation shown (R52, R62). -/
def Seq.showVerdict (v : Option (Nat × Nat)) (u : Seq) : Seq :=
  u.swapStat (fun x => match v with
    | none => putBits (putBits (putBit x 0 true) 7 4 0) 25 16 0
    | some (r, i) => putBits (putBits (putBit x 0 false) 7 4 r) 25 16 i)

/-- SEQ_SHADOW_CNT. -/
def Seq.shadowCnt (u : Seq) : Nat := rfld u.regs Reg.SEQ_SHADOW_CNT 10 0

/-- The registers of LEN_US and PHASE_US. -/
def Seq.lenReg (u : Seq) : Nat := rfld u.regs Reg.SEQ_FATHOM 14 0
/-- SEQ_PHASE.PHASE_US. -/
def Seq.phaseReg (u : Seq) : Nat := rfld u.regs Reg.SEQ_PHASE 14 0

/-- Whether the fathom length and phase pass R37. -/
def Seq.gridOk (u : Seq) : Bool :=
  decide (u.lenReg % 250 = 0) && decide (1250 ≤ u.lenReg) && decide (u.lenReg ≤ 20000) && decide (u.phaseReg < u.lenReg)

/-- A long span of the active bank is in flight. -/
def Seq.longRun (u : Seq) : Bool := u.runs.any (fun r => r.span.long u.lenUs)

/-- Page state of SEQ (R62). -/
def Seq.pageState (counting run : Bool) (u : Seq) : Nat :=
  if !counting then 0 else if !run then 1 else if u.swapAt.isSome then 3 else 2

/-! ## The grid (R38, R39, R41) -/

/-- The first grid instant at or after t, in µs. Log entry 27 (DEDUCED). -/
def gridFrom (t : Int) (len phase : Nat) : Int := t + (((phase : Int) - t) % (max 1 len : Nat))

/-- The end of the fathom in progress: the first grid instant at least LEN_US after its start. -/
def Seq.endUs (u : Seq) : Int := gridFrom (u.startUs + u.lenUs) u.lenUs u.phaseUs

/-- The count a first exit from CONFIG sets at grid instant t (R39). -/
def firstCount (t : Int) (len phase : Nat) : Nat := (Int.fdiv (t - phase) (max 1 len : Nat)).toNat

/-- A new fathom begins at the end of the one in progress (R39, R41): the count goes up by one, and a lengthened fathom is reported. -/
def Seq.nextFathom (u : Seq) : W Seq :=
  let e := u.endUs
  let len := (e - u.startUs).toNat
  let d := len - u.lenUs
  let v : Seq := { u with
    count := u.count + 1, startUs := e, issued := [], regs := rset u.regs Reg.SEQ_LAST_LEN (wd (len % 65536)) }
  if d = 0 then W.of v
  else ((W.of { v with regs := rmod v.regs Reg.SEQ_ADJ_CNT incW }).evt Pg.SEQ 3).code Pg.SEQ 0x0220 [wd d]

/-! ## Loading and swaps (R51, R53–R55) -/

/-- A swap is pending (R53). Log entry 30 (DEDUCED). -/
def Seq.swapPending (u : Seq) : Bool := u.swapAt.isSome

/-- SPAN_STORE (R51): a write of SEQ_SPAN_W7 stores the eight words at IDX of the shadow. -/
def Seq.spanStore (v : Word) (u : Seq) : W Seq :=
  if u.swapPending then (W.of u).code Pg.SEQ 0x1203 []
  else
    let idx := rfld u.regs Reg.SEQ_SPAN_IDX 9 0
    let ws := (upto 7).map (fun k => rget u.regs (Reg.SEQ_SPAN_W0 + 4 * k)) ++ [v]
    (W.of { u with
      loaded := true
      regs := rmod (rset u.regs Reg.SEQ_SPAN_W7 v) Reg.SEQ_SPAN_IDX (fun x => putBits x 9 0 (idx + 1)) }).store Pg.SEQ
      (spanAddr (!u.bank) idx) (wordsBytes ws)

/-- SHADOW_COUNT_WRITE (R51). -/
def Seq.countWrite (v : Word) (u : Seq) : W Seq :=
  if u.swapPending then (W.of u).code Pg.SEQ 0x1203 []
  else W.of { u with loaded := true, regs := rset u.regs Reg.SEQ_SHADOW_CNT (v &&& 0x7FF#32) }

/-- SWAP_REQUEST (R53): a write of 1 to SEQ_SWAP. Log entry 30 (DEDUCED). -/
def Seq.swapRequest (m : Mem) (f : FurlongIn) (u : Seq) : W Seq :=
  if u.swapPending then W.of u
  else
    let v := validateBank m f (!u.bank) u.shadowCnt
    let u := Seq.showVerdict v u
    match v with
    | none => W.of { (u.swapStat (fun x => putBit x 2 false)) with swapAt := some (rget u.regs Reg.SEQ_SWAP_AT).toNat }
    | some _ => ((W.of (u.swapStat (fun x => putBit x 2 true))).evt Pg.SEQ 1).code Pg.SEQ 0x1201 []

/-- The windows of PUB_FNO and SLACK_MIN returned to their reset values (R54). -/
def Seq.restart (u : Seq) : Seq :=
  { u with regs := sdrop (fun k => k % 0x20000 == Reg.SEQ_PUB_FNO || k % 0x20000 == Reg.SEQ_SLACK_MIN) u.regs }

/-- The swap itself (R54): banks exchanged, with their counts; fno is the number of the fathom that begins. Log entry 30 (DEDUCED). -/
def Seq.swap (fno : Nat) (u : Seq) : W Seq :=
  let v : Seq := u.restart
  (W.of { v with
    bank := !u.bank, active := u.shadowCnt, loaded := false, swapAt := none, settle := false
    regs := rsets v.regs [(Reg.SEQ_SWAP_FNO, wd fno), (Reg.SEQ_SHADOW_CNT, wd u.active)] }).evt Pg.SEQ 0

/-- A request refused at SEQ_SWAP_AT (R53). -/
def Seq.swapRefused (u : Seq) : W Seq :=
  ((W.of { (u.swapStat (fun x => putBit x 2 true)) with swapAt := none }).evt Pg.SEQ 1).code Pg.SEQ 0x1202 []

/-- What a fathom start of number fno does with a pending swap outside CONFIG (R53, R49 step 2): whether a swap was made, too.
Log entry 30 (DEDUCED). -/
def Seq.swapPoint (fno : Nat) (u : Seq) : W Seq × Bool :=
  match u.swapAt with
  | none => (W.of u, false)
  | some at_ =>
    if at_ = 0 then (if u.longRun then (W.of u, false) else (u.swap fno, true))
    else if at_ = fno % 4294967296 then (if u.longRun then (u.swapRefused, false) else (u.swap fno, true))
    else if 0 < signed 32 (at_ + 4294967296 - fno % 4294967296) then (W.of u, false)
    else (u.swapRefused, false)

/-- The number SEQ_SWAP_AT named has gone by (R53), or the swap waits for a long span. -/
def Seq.longWait (u : Seq) : Bool := u.swapAt == some 0 && u.longRun

/-- Which bank an exit from CONFIG will leave active (R55): the shadow when it was loaded or a swap is pending. -/
def Seq.exitBank (u : Seq) : Bool × Nat × Bool :=
  if u.loaded || u.swapPending then (!u.bank, u.shadowCnt, true) else (u.bank, u.active, false)

/-- The validation of R55, at an exit from CONFIG (`leaving`) or a pass of the check list that does not leave CONFIG. -/
def Seq.exitVerdict (m : Mem) (feat : Nat → Bool) (leaving : Bool) (u : Seq) : Option (Nat × Nat) :=
  if leaving then validateBank m ⟨u.lenReg, feat⟩ u.exitBank.1 u.exitBank.2.1
  else validateBank m ⟨u.lenUs, feat⟩ u.bank u.active

/-! ## Misses and publications (R48, R57, R58) -/

/-- A miss counted (R58): the unit or 0x7F, the span index and the cause. -/
def Seq.miss (unit idx cause code : Nat) (w : W Seq) : W Seq :=
  ((w.map (fun u => { u with
    regs := rset (rmod (rmod u.regs Reg.SEQ_MISS_TOTAL incW) (rk Reg.SEQ_MISS_CNT 0 (unit % 256)) incW) Reg.SEQ_MISS_LAST
      (wd (unit + 256 * cause + 65536 * idx)) })).evt Pg.SEQ 2).code Pg.SEQ code [wd unit, wd idx]

/-- The unit is still at work under a span, or an island stop left it not idle (R58). Log entry 29 (DEDUCED). -/
def Seq.unitBusy (u : Seq) (unit : Nat) : Bool :=
  u.stuck.contains unit || u.runs.any (fun r => r.span.unit == unit && r.doneAt.isNone)

/-- A span begun. -/
def Seq.begin (r : Run) (u : Seq) : Seq := { u with runs := u.runs ++ [r], issued := u.issued ++ [r.idx] }

/-- The run of a span index with the earliest start, if one is in flight. -/
def Seq.run (u : Seq) (idx : Nat) : Option Run := u.runs.find? (fun r => r.idx == idx)

/-- A run ended. -/
def Seq.drop (r : Run) (u : Seq) : Seq := { u with runs := u.runs.erase r }

/-- SPAN_COMPLETION (R46, R57): completion reported t ticks after the start of the span's fathom, when that is before its deadline. -/
def Seq.complete (idx t : Nat) (u : Seq) : Seq :=
  { u with runs := u.runs.map (fun r =>
      if r.idx = idx ∧ r.doneAt = none ∧ t < r.span.deadline then { r with doneAt := some t } else r) }

/-- A publication shown (R48, R59). -/
def Seq.published (r : Run) (u : Seq) : Seq :=
  let slack := match r.doneAt with | some t => r.span.deadline - t | none => 0
  let k := rk Reg.SEQ_SLACK_MIN 0 r.idx
  { u with regs := rset (rset u.regs (rk Reg.SEQ_PUB_FNO 0 r.idx) (wd u.count)) k (wd (min (rget u.regs k).toNat slack)) }

/-- PUB_SEL_WRITE (R62): the index selected, its SLACK_MIN restarted. -/
def Seq.pubSel (v : Word) (u : Seq) : Seq :=
  let i := bits v 9 0
  { u with regs := rset (rset u.regs Reg.SEQ_PUB_SEL (wd i)) (rk Reg.SEQ_SLACK_MIN 0 i) 0xFFFFF#32 }

end Sys2Proof.Machine
end

