-- ==== Sys2Proof/Machine/Sentence.lean ====
section
/-! DEFINITION. IEC 61162 sentences (R344, R345): their form, checksum, fields and conversions, shared by the serial ports
and the plant interface (R301). -/

namespace Sys2Proof.Machine

/-- A character code. -/
abbrev Ch.dollar : Nat := 0x24
abbrev Ch.bang : Nat := 0x21
abbrev Ch.star : Nat := 0x2A
abbrev Ch.comma : Nat := 0x2C
abbrev Ch.back : Nat := 0x5C
abbrev Ch.cr : Nat := 0x0D
abbrev Ch.lf : Nat := 0x0A

/-- The characters after a tag block, if one begins the list (R344). -/
def skipTag (cs : List Nat) : List Nat :=
  match cs with
  | 0x5C :: rest => (rest.dropWhile (· != Ch.back)).drop 1
  | _ => cs

/-- The value of a hexadecimal digit, in either case. -/
def hexDigit (c : Nat) : Option Nat :=
  if 0x30 ≤ c ∧ c ≤ 0x39 then some (c - 0x30)
  else if 0x41 ≤ c ∧ c ≤ 0x46 then some (c - 0x37)
  else if 0x61 ≤ c ∧ c ≤ 0x66 then some (c - 0x57)
  else none

/-- The exclusive OR of characters. -/
def xorAll (cs : List Nat) : Nat := cs.foldl Nat.xor 0

/-- A sentence taken apart: the characters between the start character and '*' or the end, and the checksum it carries
(none: it carries none; some none: what follows '*' is no checksum). -/
structure Sentence where
  body  : List Nat
  check : Option (Option Nat)

/-- A sentence from '$' or '!' up to CR LF. -/
def readSentence (cs : List Nat) : Sentence :=
  let inner := (cs.drop 1).filter (fun c => c != Ch.cr && c != Ch.lf)
  let body := inner.takeWhile (· != Ch.star)
  let rest := inner.drop body.length
  match rest with
  | [] => ⟨body, none⟩
  | [_, a, b] => ⟨body, some (match hexDigit a, hexDigit b with | some x, some y => some (16 * x + y) | _, _ => none)⟩
  | _ => ⟨body, some none⟩

/-- Whether the checksum rule of R344 holds. -/
def Sentence.checkOk (s : Sentence) (required : Bool) : Bool :=
  match s.check with
  | none => !required
  | some c => c == some (xorAll s.body)

/-- Characters split at commas. -/
def splitCommas : List Nat → List (List Nat)
  | [] => [[]]
  | c :: cs =>
    if c = Ch.comma then [] :: splitCommas cs
    else match splitCommas cs with
      | x :: xs => (c :: x) :: xs
      | [] => [[c]]

/-- The five-character address field; none when it has another length. -/
def Sentence.address (s : Sentence) : Option (List Nat) :=
  match splitCommas s.body with
  | a :: _ => if a.length = 5 then some a else none
  | [] => none

/-- The fields, numbered from 1, up to 40. -/
def Sentence.fields (s : Sentence) : List (List Nat) := ((splitCommas s.body).drop 1).take 40

/-- Whether an address equals the characters of an address register and a fifth character. -/
def addressMatches (a : List Nat) (reg : Word) (fifth : Nat) : Bool :=
  a == [bits reg 7 0, bits reg 15 8, bits reg 23 16, bits reg 31 24, fifth]

/-! ## Conversions (R345) -/

/-- The value of a list of decimal digits; none when one is no digit. -/
def digits (cs : List Nat) : Option Nat :=
  cs.foldl (fun a c => match a with
    | some n => if 0x30 ≤ c ∧ c ≤ 0x39 then some (10 * n + (c - 0x30)) else none
    | none => none) (some 0)

/-- a / b rounded to nearest, halves away from zero. -/
def roundHalf (a : Int) (b : Nat) : Int :=
  let q := (2 * a.natAbs + b) / (2 * b)
  if a < 0 then - (q : Int) else (q : Int)

/-- A decimal number as numerator and denominator: sign, digits, '.' and fraction (R345 TYPE 0). Log entry 67 (DEDUCED). -/
def decimal (cs : List Nat) : Option (Int × Nat) :=
  let (neg, cs) := match cs with
    | 0x2D :: r => (true, r)
    | 0x2B :: r => (false, r)
    | _ => (false, cs)
  let whole := cs.takeWhile (· != 0x2E)
  let frac := (cs.drop whole.length).drop 1
  if whole = [] ∧ frac = [] then none
  else match digits whole, digits frac with
    | some w, some f =>
      let d := 10 ^ frac.length
      let n : Int := ((w * d + f : Nat) : Int)
      some (if neg then -n else n, d)
    | _, _ => none

/-- TYPE 0 DEC. -/
def convDec (scale : Nat) (cs : List Nat) : Option Int :=
  (decimal cs).map (fun x => roundHalf (x.1 * (10 ^ scale : Nat)) x.2)

/-- TYPE 1 LATLON: degrees and minutes with the hemisphere of the next field, as a binary angle. Log entry 67 (DEDUCED). -/
def convLatLon (cs next : List Nat) : Option Int :=
  let whole := cs.takeWhile (· != 0x2E)
  match decimal cs, next with
  | some (n, d), [h] =>
    if !(whole.length == 4 || whole.length == 5) || decide (n < 0) then none
    else
      let deg := n.toNat / (100 * d)
      let min := n.toNat % (100 * d)
      let v := roundHalf (((deg * 60 * d + min) * 4294967296 : Nat) : Int) (360 * 60 * d)
      if h = 0x4E ∨ h = 0x45 then some v else if h = 0x53 ∨ h = 0x57 then some (-v) else none
  | _, _ => none

/-- TYPE 2 TIME: ms since midnight. Log entry 67 (DEDUCED). -/
def convTime (cs : List Nat) : Option Int :=
  let whole := cs.takeWhile (· != 0x2E)
  match digits whole, decimal (0x30 :: cs.drop whole.length) with
  | some w, some (f, d) =>
    if whole.length = 6 then
      some (((w / 10000 * 3600 + w / 100 % 100 * 60 + w % 100 : Nat) : Int) * 1000 + roundHalf (f * 1000) d)
    else none
  | _, _ => none

/-- TYPE 3 CHAR. -/
def convChar (cs : List Nat) : Option Int := match cs with | [c] => some (c : Int) | _ => none

/-- TYPE 4 HEX. -/
def convHex (cs : List Nat) : Option Int :=
  (cs.foldl (fun (a : Option Nat) c => match a, hexDigit c with | some n, some x => some (16 * n + x) | _, _ => none) (some 0)).map
    (fun n => (n : Int))

/-- A conversion entry: TYPE and SCALE (R345). -/
def convert (type scale : Nat) (cs next : List Nat) : Option Int :=
  if type = 0 then convDec scale cs
  else if type = 1 then convLatLon cs next
  else if type = 2 then convTime cs
  else if type = 3 then convChar cs
  else convHex cs

/-- What a field gives: a value to deliver, and whether it counts as an error. -/
structure FieldValue where
  value : Option Int
  error : Bool

/-- One field (R345): `entry` is the conversion that names it, `hemi` that it is the hemisphere field of a LATLON before
it. -/
def fieldValue (entry : Option (Nat × Nat)) (dscale : Nat) (hemi : Bool) (cs next : List Nat) : FieldValue :=
  if cs = [] ∨ hemi then ⟨none, false⟩
  else match entry with
    | some (t, sc) => match convert t sc cs next with
      | some v => ⟨some (if t = 4 then min v 4294967295 else sat32 v), decide (t = 4 ∧ 4294967295 < v) || decide (t ≠ 4 ∧ sat32 v ≠ v)⟩
      | none => ⟨none, true⟩
    | none => match convDec dscale cs with
      | some v => ⟨some (sat32 v), decide (sat32 v ≠ v)⟩
      | none => ⟨none, false⟩

/-- The fields of a sentence with what each gives, by number from 1. -/
def fieldValues (entry : Nat → Option (Nat × Nat)) (dscale : Nat) (fs : List (List Nat)) : List (Nat × FieldValue) :=
  (upto fs.length).map (fun i =>
    let hemi := decide (0 < i) && (match entry i with | some (1, _) => true | _ => false) && (fs.getD (i - 1) [] != [])
    (i + 1, fieldValue (entry (i + 1)) dscale hemi (fs.getD i []) (fs.getD (i + 1) [])))

/-- The characters of a sentence as packet words, four per word (R346). -/
def charWords (cs : List Nat) : List Word := toWords ((cs.length + 3) / 4) (cs.map (BitVec.ofNat 8))

end Sys2Proof.Machine
end

