-- ==== Sys2Proof/Machine/Serial.lean ====
section
/-! DEFINITION. The serial ports (R343–R348, R350) and the sentences of the plant network (R301). -/

namespace Sys2Proof.Machine

/-- What a port nothing has touched is. -/
def serialDefault (_ : Nat) : SerialPort := SerialPort.fresh

/-- Port n. -/
def Ser.port (u : Ser) (n : Nat) : SerialPort := sget serialDefault u.ports n

/-- Port n set, with TX_ACTIVE and TX_WAIT. -/
def Ser.putPort (u : Ser) (n : Nat) (p : SerialPort) : Ser :=
  { u with
    ports := sset serialDefault u.ports n p
    regs := rmod u.regs (rk Reg.SER_STAT n 0) (fun w => putBit (putBit w 1 p.active) 2 p.wait) }

/-- A cell changed. -/
def Ser.mod (u : Ser) (r n w : Nat) (f : Word → Word) : Ser := { u with regs := rmod u.regs (rk r n w) f }

/-- The conversion entry of a filter that names a field (R345): the first of eight. -/
def Ser.entry (u : Ser) (n k field : Nat) : Option (Nat × Nat) :=
  ((upto 8).find? (fun e => field != 0 && rfld u.regs (rk Reg.SER_F_CONV n (8 * k + e)) 5 0 == field)).map (fun e =>
    let w := rget u.regs (rk Reg.SER_F_CONV n (8 * k + e))
    (bits w 8 6, bits w 12 9))

/-- A discarded sentence (R344): counted in a byte of SERn_CNT_ERR, its code recorded once per second at most. -/
def Ser.discard (n lo code : Nat) (sec : Int) (u : Ser) : W Ser :=
  let p := u.port n
  let quiet := p.coded.any (fun c => c.1 == code && c.2 == sec)
  let u := u.mod Reg.SER_CNT_ERR n 0 (fun c => incSatField c (lo + 7) lo)
  let u := u.putPort n { p with coded := (code, sec) :: p.coded.filter (fun c => c.1 != code) }
  ((W.of u).evt (Pg.SER + n) 0).when (!quiet) (·.code (Pg.SER + n) code [])

/-- The fields of a sentence taken by filter k (R345, R346). -/
def Ser.deliverFields (n k : Nat) (stamp : Int) (toFlt : Bool) (w : W Ser) (f : Nat × FieldValue) : W Ser :=
  let w := w.when f.2.error (fun w =>
    ((w.map (fun u => u.mod Reg.SER_F_STAT n k (fun c => incSatField c 31 16))).evt (Pg.SER + n) 1).code (Pg.SER + n) 0x1F53
      [wd (256 * k + f.1)])
  match f.2.value with
  | some v => w.when toFlt (·.sample ⟨0x30 + n, 256 * k + f.1, stamp, v⟩)
  | none => w

/-- The packet of a sentence (R346). -/
def sentencePacket (k : Nat) (matched : Bool) (stamp : Int) (cs : List Nat) : List (Word × Bool) :=
  ([wd (k + 16 * b2n matched + 256 * cs.length), lo32 stamp, hi32 stamp] ++ charWords cs).map (fun w => (w, false))

/-- A sentence that passed the checks (R345, R346). -/
def Ser.take (n : Nat) (stamp : Int) (cs : List Nat) (s : Sentence) (u : Ser) : W Ser :=
  let u := (u.mod Reg.SER_CNT_RX n 0 (· + 1#32))
  let u := { u with regs := rset64 u.regs (rk Reg.SER_LAST_TS_L n 0) (rk Reg.SER_LAST_TS_H n 0) stamp }
  let hit := (upto 16).find? (fun k =>
    let c := rget u.regs (rk Reg.SER_F_CFG n k)
    bit c 8 && (match s.address with
      | some a => addressMatches a (rget u.regs (rk Reg.SER_F_ADDR n k)) (bits c 7 0)
      | none => false))
  match hit with
  | some k =>
    let c := rget u.regs (rk Reg.SER_F_CFG n k)
    let p := u.port n
    let u := u.putPort n { p with taken := sset (fun _ => 0) p.taken k (sget (fun _ => 0) p.taken k + 1) }
    let w := (fieldValues (u.entry n k) (bits c 20 17) s.fields).foldl (Ser.deliverFields n k stamp (bit c 9)) (W.of u)
    w.when (bit c 10) (·.push ⟨0x30 + n, bits c 16 11, sentencePacket k true stamp cs⟩)
  | none =>
    let q := rget u.regs (rk Reg.SER_FQ n 0)
    (W.of (u.mod Reg.SER_CNT_NOMATCH n 0 (· + 1#32))).when (bit q 6)
      (·.push ⟨0x30 + n, bits q 5 0, sentencePacket 0 false stamp cs⟩)

/-- A sentence received (R344): its characters from the tag block or start character to LF, whether one had a framing or parity
error, and the instant of the start bit of its start character. -/
def Ser.sentence (n : Nat) (bad : Bool) (now start : Int) (chars : List Byte) (u : Ser) : W Ser :=
  let cs := skipTag (chars.map (·.toNat))
  let stamp := Int.fdiv start 1000 * 1000
  let sec := Int.fdiv now 1000000000
  let s := readSentence cs
  if rfld u.regs (rk Reg.SER_CFG n 0) 1 0 = 0 ∨ !(cs.head? == some Ch.dollar || cs.head? == some Ch.bang) then W.of u
  else if bad then u.discard n 8 0x1F51 sec
  else if 82 < cs.length then u.discard n 16 0x1F52 sec
  else if !s.checkOk (rbit u.regs (rk Reg.SER_CFG n 0) 8) then u.discard n 0 0x1F50 sec
  else u.take n stamp cs s

/-- A LATCH with ARG[2] (R346). -/
def Ser.latch (u : Ser) (n : Nat) : Ser :=
  let p := u.port n
  let u := { u with regs := (upto 16).foldl (fun m k =>
    rmod m (rk Reg.SER_F_STAT n k) (fun c => putBits c 15 0 (min (sget (fun _ => 0) p.taken k) 65535))) u.regs }
  u.putPort n { p with taken := [] }

/-! ## Sending (R343, R348) -/

/-- TXCK (R348): the checksum put before CR. -/
def withChecksum (bs : List Byte) : List Byte :=
  let cs := bs.map (·.toNat)
  let n := cs.length
  let starts := cs.head? == some Ch.dollar || cs.head? == some Ch.bang
  if starts && decide (2 < n) && (cs.drop (n - 2) == [Ch.cr, Ch.lf]) && !cs.contains Ch.star then
    let x := xorAll ((cs.take (n - 2)).drop 1)
    let hex := fun (d : Nat) => BitVec.ofNat 8 (if d < 10 then 0x30 + d else 0x37 + d)
    bs.take (n - 2) ++ [BitVec.ofNat 8 Ch.star, hex (x / 16), hex (x % 16)] ++ bs.drop (n - 2)
  else bs

/-- The next packet begins: at once on RS-422, after the idle wait on RS-485 (R343). -/
def Ser.begin (n : Nat) (u : Ser) : Ser :=
  let p := u.port n
  if p.queue = [] ∨ p.active ∨ p.wait then u
  else if rfld u.regs (rk Reg.SER_CFG n 0) 1 0 = 2 then u.putPort n { p with wait := true }
  else u.putPort n { p with active := true }

/-- A packet of the transmit firkin (R348), as its words with a flag for each that came with a parity error. Log entry 67 (DEDUCED). -/
def Ser.packet (n : Nat) (ws : List (Word × Bool)) (u : Ser) : W Ser :=
  let count := match ws with | x :: _ => bits x.1 9 0 | [] => 0
  let body := (ws.drop 1).map (·.1)
  if count = 0 ∨ 1020 < count ∨ 4 * body.length < count ∨ ws.any (·.2) then (W.of u).code (Pg.SER + n) 0x1F55 []
  else
    let data := (wordsBytes body).take count
    let data := if rbit u.regs (rk Reg.SER_CFG n 0) 6 then withChecksum data else data
    let p := u.port n
    W.of (Ser.begin n (u.putPort n { p with queue := p.queue ++ [data] }))

/-- The idle wait of RS-485 is over (R343). -/
def Ser.idleEnd (n : Nat) (u : Ser) : Ser :=
  let p := u.port n
  if p.wait then u.putPort n { p with wait := false, active := true } else u

/-- A transmission ends (R343): sent, or abandoned at a collision. -/
def Ser.txDone (n : Nat) (collision : Bool) (u : Ser) : W Ser :=
  let p := u.port n
  match p.queue with
  | [] => W.of u
  | d :: rest =>
    if !p.active then W.of u
    else
      let u1 := u.putPort n { p with queue := rest, active := false }
      if collision then
        (((W.of (u1.mod Reg.SER_CNT_ERR n 0 (fun c => incSatField c 31 24))).evt (Pg.SER + n) 2).code (Pg.SER + n) 0x1F54 []).map
          (Ser.begin n)
      else
        ((W.of (u1.mod Reg.SER_CNT_TX n 0 (· + 1#32))).emit (.serial n d)).map (Ser.begin n)

/-- Outside READY, RUN and SERVICE drivers are off (R343): nothing is sent. -/
def Ser.stop (u : Ser) (n : Nat) : Ser := u.putPort n { u.port n with queue := [], active := false, wait := false }

/-- The first check of a port that fails: the filter in the payload, or 0xFF. -/
def Ser.exitCheck (fq : RMap) (n : Nat) (u : Ser) : Option Nat :=
  let cfg := rget u.regs (rk Reg.SER_CFG n 0)
  let baud := rfld u.regs (rk Reg.SER_BAUD n 0) 19 0
  let q := rget u.regs (rk Reg.SER_FQ n 0)
  let fc := fun (k : Nat) => rget u.regs (rk Reg.SER_F_CFG n k)
  let conv := fun (k e : Nat) => rget u.regs (rk Reg.SER_F_CONV n (8 * k + e))
  let on := (upto 16).filter (fun k => bit (fc k) 8)
  let producer := fun (f : Nat) => rfld fq (rk Reg.FQ_CFG 0 f) 15 8
  let consumer := fun (f : Nat) => rfld fq (rk Reg.FQ_CFG 0 f) 23 16
  if baud < 4800 ∨ 921600 < baud then some 0xFF
  else if bits cfg 1 0 = 2 ∧ bits cfg 15 12 = 0 then some 0xFF
  else match on.find? (fun k => decide (9 < bits (fc k) 20 17) || (upto 8).any (fun e => decide (9 < bits (conv k e) 12 9))) with
    | some k => some k
    | none => match on.find? (fun k => (upto 8).any (fun e => decide (40 < bits (conv k e) 5 0) || decide (4 < bits (conv k e) 8 6))) with
      | some k => some k
      | none => match on.find? (fun k => on.any (fun j => decide (j < k) && bits (fc j) 7 0 == bits (fc k) 7 0
          && rget u.regs (rk Reg.SER_F_ADDR n j) == rget u.regs (rk Reg.SER_F_ADDR n k))) with
        | some k => some k
        | none => match on.find? (fun k => bit (fc k) 10 && producer (bits (fc k) 16 11) != 0x30 + n) with
          | some k => some k
          | none =>
            if (bit q 6 && producer (bits q 5 0) != 0x30 + n) || (bit q 14 && consumer (bits q 13 8) != 0x30 + n) then some 0xFF
            else none

/-! ## IEC 61162-450 (R301) -/

/-- The sentences of a datagram after its header, at most n: each from '$' or '!' up to the end of its line. -/
def datagramSentences : Nat → List Nat → List (List Nat)
  | 0, _ => []
  | n + 1, cs =>
    match skipTag (cs.dropWhile (fun c => c == Ch.cr || c == Ch.lf)) with
    | [] => []
    | rest =>
      let line := rest.takeWhile (fun c => c != Ch.lf)
      let next := (rest.drop line.length).drop 1
      (line ++ (if next.length < rest.length - line.length then [Ch.lf] else [])) :: datagramSentences n next

/-- A sentence of a datagram received through group entry g (R301). -/
def Net.takeSentence (g : Nat) (stamp : Int) (w : W Net) (cs : List Nat) : W Net :=
  let s := readSentence cs
  let starts := cs.head? == some Ch.dollar || cs.head? == some Ch.bang
  let hit := (upto 32).find? (fun k =>
    let c := rget w.u.regs (rk Reg.PRP_F_CFG 0 k)
    bit c 8 && bits c 11 9 == g && (match s.address with
      | some a => addressMatches a (rget w.u.regs (rk Reg.PRP_F_ADDR 0 k)) (bits c 7 0)
      | none => false))
  match (if starts then hit else none) with
  | none => w
  | some k =>
    if !s.checkOk true then w.map (fun u => u.mod (rk Reg.PRP_F_STAT 0 k) (fun c => incSatField c 31 16))
    else
      let c := rget w.u.regs (rk Reg.PRP_F_CFG 0 k)
      let w := w.map (fun u => { u with sentences := sset (fun _ => 0) u.sentences k (sget (fun _ => 0) u.sentences k + 1) })
      let w := (fieldValues (fun _ => none) 0 s.fields).foldl (fun w f => match f.2.value with
        | some v => w.sample ⟨0x21, 256 * k + f.1, stamp, v⟩
        | none => w) w
      w.when (bit c 18) (·.push ⟨0x21, bits c 17 12, (charWords cs).map (fun x => (x, false))⟩)

/-- A datagram on a joined group (R301): header, tag blocks, sentences. Log entry 67 (DEDUCED). -/
def Net.udpbc (group port : Nat) (stamp : Int) (data : List Byte) (u : Net) : W Net :=
  let cs := data.map (·.toNat)
  let g := (upto 8).find? (fun g => rbit u.regs (rk Reg.PRP_MC_PORT 0 g) 31
    && (rget u.regs (rk Reg.PRP_MC_GRP 0 g)).toNat == group && rfld u.regs (rk Reg.PRP_MC_PORT 0 g) 15 0 == port)
  match g with
  | some g =>
    if cs.take 6 == [0x55, 0x64, 0x50, 0x62, 0x43, 0] then
      (datagramSentences cs.length (cs.drop 6)).foldl (Net.takeSentence g stamp) (W.of u)
    else W.of u
  | none => W.of u

end Sys2Proof.Machine
end

