-- ==== Sys2Proof/Machine/Assembler.lean ====
section
/-! DEFINITION. ALC: parameter banks and their validation, the hinge, columns, rows, the mass matrix and the ASSEMBLE
span (R192–R213). -/

namespace Sys2Proof.Machine

/-- The byte address of a word of parameter bank b (0 A, 1 B; R194). -/
def alcWordAddr (b k : Nat) : Nat := alcBase + 0x2000 * b + 4 * k

/-- The active bank. -/
def Alc.active (u : Alc) : Nat := rfld u.regs Reg.ALC_BANK 0 0

/-- A parameter image as a function of the word index. -/
abbrev Params := Nat → Word

/-- The image in bank b. -/
def alcImage (m : Mem) (b : Nat) : Params := fun k => m.readWord (alcWordAddr b k)

/-- A rational number: numerator and positive denominator. Log entry 47 (DEDUCED). -/
abbrev Frac := Int × Int

/-- A number as a fraction with `n` fractional bits. -/
def fq (v : Int) (n : Nat) : Frac := (v, (2 ^ n : Nat))

/-- The negative of a fraction. -/
def Frac.neg (a : Frac) : Frac := (-a.1, a.2)

/-- The product of fractions. -/
def Frac.mul (a b : Frac) : Frac := (a.1 * b.1, a.2 * b.2)

/-- The sum of fractions. -/
def Frac.add (a b : Frac) : Frac := (a.1 * b.2 + b.1 * a.2, a.2 * b.2)

/-- A mantissa with 30 fractional bits at exponent e, rounded to nearest, halves toward plus infinity (R209). Log entry 47 (DEDUCED). -/
def mantissa (e : Int) (a : Frac) : Int :=
  let n := if e ≤ 30 then a.1 * (2 ^ (30 - e).toNat : Nat) else a.1
  let d := if e ≤ 30 then a.2 else a.2 * (2 ^ (e - 30).toNat : Nat)
  fdiv (2 * n + d) (2 * d)

/-! ## The image (R196–R198) -/

/-- A word of unit record u. -/
def uw (p : Params) (u k : Nat) : Word := p (32 + 24 * u + k)

/-- NUNITS. -/
def nUnits (p : Params) : Nat := bits (p 3) 4 0

/-- HSTEP. -/
def hStep (p : Params) : Nat := bits (p 3) 23 16

/-- The enabled units in index order. -/
def alcUnits (p : Params) : List Nat := (upto (nUnits p)).filter (fun u => bit (uw p u 0) 0)

/-- Whether unit u is an azimuth. -/
def isAz (p : Params) (u : Nat) : Bool := bit (uw p u 0) 1

/-- SECTOR, REV, NPOLY and NCUT of a unit. -/
def uSector (p : Params) (u : Nat) : Bool := bit (uw p u 0) 2
def uRev (p : Params) (u : Nat) : Bool := bit (uw p u 0) 3
def uPoly (p : Params) (u : Nat) : Nat := bits (uw p u 0) 7 4
def uCut (p : Params) (u : Nat) : Nat := bits (uw p u 0) 10 8

/-- Whether a hinge is present, and whether its joint transmits yaw moment. -/
def hingeOn (p : Params) : Bool := bit (p 608) 0
def hingeMoment (p : Params) : Bool := bit (p 608) 1

/-- The streams an image names (R192): angles of azimuths, speeds in use, the hinge's. -/
def alcStreams (p : Params) : List Nat :=
  (alcUnits p).flatMap (fun u =>
    (if isAz p u then [bits (uw p u 9) 7 0] else []) ++ (if bit (uw p u 9) 16 then [bits (uw p u 9) 15 8] else []))
  ++ (if hingeOn p then [bits (p 609) 7 0, bits (p 609) 15 8] ++ (if bit (p 608) 2 then [bits (p 609) 23 16] else []) else [])

/-! ## Columns and rows (R204–R206) -/

/-- The columns: unit (31 hinge) and VAR. -/
def alcColumns (p : Params) : List (Nat × Nat) :=
  (alcUnits p).flatMap (fun u =>
    (if isAz p u then [(u, 0), (u, 1)] else [(u, 2)]) ++ (if 0 < uCut p u then [(u, 3)] else []))
  ++ (if hingeOn p then [(31, 4), (31, 5)] ++ (if hingeMoment p then [(31, 6)] else []) else [])

/-- The column of a variable of a unit. -/
def colOf (cols : List (Nat × Nat)) (u v : Nat) : Nat := (cols.findIdx? (fun c => c == (u, v))).getD 0

/-- A column descriptor (R204). -/
def colDesc (p : Params) (c : Nat × Nat) : Word :=
  let hw := if c.1 = 31 then 0#32 else uw p c.1 0
  wd (c.1 + 0x20 * c.2 + 0x100 * (if c.1 = 31 then 0 else bits hw 13 11) + 0x800 * (if c.1 = 31 then 0 else bits hw 16 14) + 0x4000)

/-- A row: KIND, UNIT, J, coefficients by column, and the bounds b0, b1, bcap. -/
structure AlcRow where
  kind : Nat
  unit : Nat
  j    : Nat
  coef : List (Nat × Frac)
  b0   : Frac
  b1   : Frac
  bcap : Frac

/-- What a run measured of a unit (R200, R203): angle, T_eff, flags. -/
structure UnitMeas where
  unit   : Nat
  alpha  : Int
  teff   : Int
  frozen : Bool
  off    : Bool
  floor  : Bool
  deriving DecidableEq, Repr

/-- Sine and cosine of a binary angle as fractions. -/
def fsin (a : Int) : Frac := fq (binSin a) 30
def fcos (a : Int) : Frac := fq (binCos a) 30

/-- The inequality rows of a unit (R206). -/
def unitRows (p : Params) (cols : List (Nat × Nat)) (hUs : Nat) (x : UnitMeas) : List AlcRow :=
  let u := x.unit
  let zero : Frac := (0, 1)
  let z := fun (f : Frac) => if x.off then zero else f
  let az := isAz p u
  let fx := colOf cols u 0
  let fy := colOf cols u 1
  let ff := colOf cols u 2
  let fp := colOf cols u 3
  let tF := fq (sw (uw p u 4)) 10
  let tR := fq (sw (uw p u 5)) 10
  let np := uPoly p u
  let nc := uCut p u
  let amin : Int := (uw p u 6).toNat
  let amax : Int := (uw p u 7).toNat
  let a := x.alpha
  let turn := fdiv (2 * ((bits (uw p u 8) 15 0 * hUs * 4294967296 : Nat) : Int) + 36000000000) 72000000000
  let te := fq x.teff 10
  let rate := if x.frozen then zero else (te.mul (fsin turn))
  let cp := fcos (fdiv (2147483648 + (np / 2 : Nat)) np)
  let row := fun k j (cs : List (Nat × Frac)) (b0 b1 bc : Frac) => (⟨k, u, j, cs, b0, b1, bc⟩ : AlcRow)
  let s := fun j => fq ((uw p u (14 + 2 * j)).toNat : Int) 16
  let o := fun j => (fq (sw (uw p u (15 + 2 * j))) 10).neg
  let cutF := (upto nc).map (fun j => row 0x16 j
    ((if az then [(fx, (s j).mul (fcos a)), (fy, (s j).mul (fsin a))] else [(ff, s j)]) ++ [(fp, (-1, 1))]) (o j) zero (o j))
  let cutR := if !az || uRev p u then (upto nc).map (fun j => row 0x17 j
    ((if az then [(fx, ((s j).mul (fcos a)).neg), (fy, ((s j).mul (fsin a)).neg)] else [(ff, (s j).neg)]) ++ [(fp, (-1, 1))])
      (o j) zero (o j)) else []
  let pw := if 0 < nc then
    [row 0x18 0 [(fp, (-1, 1))] zero zero zero,
     row 0x19 0 [(fp, (1, 1))] (z (fq (sw (uw p u 12)) 10)) zero (z (fq (sw (uw p u 12)) 10))] else []
  let thrust :=
    if az then
      (upto np).map (fun j =>
        let th := fdiv (2 * ((j * 4294967296 : Nat) : Int) + np) (2 * np)
        row 0x10 j [(fx, fcos th), (fy, fsin th)] (z (tF.mul cp)) zero (z (tF.mul cp)))
      ++ (if uSector p u then
          [row 0x11 0 [(fx, fsin amin), (fy, (fcos amin).neg)] zero zero zero,
           row 0x12 0 [(fx, (fsin amax).neg), (fy, fcos amax)] zero zero zero] else [])
      ++ [row 0x13 0 [(fx, (fsin a).neg), (fy, fcos a)] zero (z rate) (z te),
          row 0x14 0 [(fx, fsin a), (fy, (fcos a).neg)] zero (z rate) (z te)]
      ++ (if uRev p u then [row 0x15 0 [(fx, (fcos a).neg), (fy, (fsin a).neg)] (z tR) zero (z tR)] else [])
    else
      [row 0x1A 0 [(ff, (1, 1))] (z tF) zero (z tF), row 0x1B 0 [(ff, (-1, 1))] (z tR) zero (z tR)]
  thrust ++ cutF ++ cutR ++ pw

/-- The inequality rows of the hinge (R206). -/
def hingeRows (p : Params) (cols : List (Nat × Nat)) (act : Bool) : List AlcRow :=
  let zero : Frac := (0, 1)
  let n := colOf cols 31 4
  let t := colOf cols 31 5
  let z := colOf cols 31 6
  let mu := fq (bits (p 615) 15 0 : Nat) 14
  let mz : Frac := if act then fq (sw (p 616)) 6 else zero
  let row := fun k (cs : List (Nat × Frac)) (b : Frac) => (⟨k, 31, 0, cs, b, zero, b⟩ : AlcRow)
  if hingeOn p then
    [row 0x20 [(n, (-1, 1))] zero, row 0x21 [(t, (1, 1)), (n, mu.neg)] zero, row 0x22 [(t, (-1, 1)), (n, mu.neg)] zero]
      ++ (if hingeMoment p then [row 0x23 [(z, (1, 1))] mz, row 0x24 [(z, (-1, 1))] mz] else [])
  else []

/-- The equality rows (R205); the hinge's coefficients in rows 0–2 are 0 while it is not active. -/
def eqRows (p : Params) (cols : List (Nat × Nat)) (gamma : Int) (act : Bool) : List AlcRow :=
  let zero : Frac := (0, 1)
  let hx := fq (sw (p 610)) 10
  let hy := fq (sw (p 611)) 10
  let s := fsin gamma
  let c := fcos gamma
  let entry := fun (r : Nat) (col : Nat × Nat) =>
    let u := col.1
    let x := fq (sw (uw p u 1)) 10
    let y := fq (sw (uw p u 2)) 10
    let b : Int := (uw p u 3).toNat
    let one : Frac := (1, 1)
    let h := fun (f : Frac) => if act then f else zero
    match r, col.2 with
    | 0, 0 => one
    | 2, 0 => y.neg
    | 1, 1 => one
    | 2, 1 => x
    | 0, 2 => fcos b
    | 1, 2 => fsin b
    | 2, 2 => (x.mul (fsin b)).add ((y.mul (fcos b)).neg)
    | 0, 4 => h c.neg
    | 1, 4 => h s.neg
    | 2, 4 => h ((hx.mul s).add ((hy.mul c).neg)).neg
    | 3, 4 => one
    | 0, 5 => h s
    | 1, 5 => h c.neg
    | 2, 5 => h ((hx.mul c).add (hy.mul s)).neg
    | 2, 6 => h one
    | _, _ => zero
  (upto (if hingeOn p then 4 else 3)).map (fun r =>
    ⟨r, 30, 0, (upto cols.length).map (fun k => (k, entry r (cols.getD k (0, 3)))), zero, zero, zero⟩)

/-- A row descriptor (R206). -/
def rowDesc (r : AlcRow) : Word := wd (r.kind + 0x100 * r.unit + 0x2000 * (r.j % 8))

/-- How many inequality rows an image gives (R206). -/
def rowCount (p : Params) : Nat :=
  (alcUnits p).foldl (fun a u =>
    let nc := uCut p u
    a + (if isAz p u then uPoly p u + 2 * b2n (uSector p u) + 2 + b2n (uRev p u)
          + (if 0 < nc then nc * (1 + b2n (uRev p u)) + 2 else 0)
         else 2 + (if 0 < nc then 2 * nc + 2 else 0))) 0
  + (if hingeOn p then 3 + 2 * b2n (hingeMoment p) else 0)

/-! ## Mass and dynamics (R207) -/

/-- A 3 × 3 matrix of integers, row-major. -/
abbrev M3 := List Int

/-- Entry (i, j). -/
def m3 (a : M3) (i j : Nat) : Int := a.getD (3 * i + j) 0

/-- The mass matrix in units of 0.005 t × 2^−20 (R207). -/
def massMatrix (p : Params) (hinge : Bool) : M3 :=
  let m : Int := (p 8).toNat
  let iz : Int := (p 9).toNat
  let xg := sw (p 10)
  let k : Int := 2097152
  let mr : Int := if hinge then (p 617).toNat else 0
  let hx := sw (p 610)
  let hy := sw (p 611)
  [ (m + (p 11).toNat) * k + mr * 1048576, 0, -(mr * hy * 1024),
    0, (m + (p 12).toNat) * k + mr * 1048576, m * xg * 2048 + sw (p 13) * k + mr * hx * 1024,
    -(mr * hy * 1024), m * xg * 2048 + sw (p 14) * k + mr * hx * 1024,
    (iz + sw (p 15)) * 100 * k + mr * (hx * hx + hy * hy) ]

/-- Cofactor (i, j) of a matrix. -/
def cof (a : M3) (i j : Nat) : Int :=
  let r := fun x => (i + x) % 3
  let c := fun x => (j + x) % 3
  m3 a (r 1) (c 1) * m3 a (r 2) (c 2) - m3 a (r 1) (c 2) * m3 a (r 2) (c 1)

/-- The determinant. -/
def det3 (a : M3) : Int := m3 a 0 0 * cof a 0 0 + m3 a 0 1 * cof a 0 1 + m3 a 0 2 * cof a 0 2

/-- Γ = h_s · M⁻¹, entry (i, j) (R207). -/
def gammaEntry (a : M3) (hUs : Nat) (i j : Nat) : Frac :=
  ((hUs : Int) * 209715200 * cof a j i, 1000000 * det3 a)

/-- Entry (i, j) of the damping matrix (R207). -/
def dampEntry (p : Params) (i j : Nat) : Frac :=
  match i, j with
  | 0, 0 => fq (sw (p 16)) 10
  | 1, 1 => fq (sw (p 17)) 10
  | 1, 2 => fq (sw (p 18)) 10
  | 2, 1 => fq (sw (p 19)) 10
  | 2, 2 => fq (sw (p 20)) 0
  | _, _ => (0, 1)

/-- Φ = I − Γ · D, entry (i, j). -/
def phiEntry (p : Params) (a : M3) (hUs : Nat) (i j : Nat) : Frac :=
  let g := fun k => (gammaEntry a hUs i k).mul (dampEntry p k j)
  Frac.add (if i = j then (1, 1) else (0, 1)) (((g 0).add (g 1)).add (g 2)).neg

/-! ## Scaling (R209) -/

/-- A signed exponent of the range table. -/
def rangeExp (p : Params) (k : Nat) : Int := signed 8 (bits (p k) 7 0)

/-- Saturations of a run: the first saturated position as ALC_RANGE_LAST words it. -/
abbrev RangeHit := Option Word

/-- A value scaled at an exponent and limited to a tile's maximum: the stored word, and the position when it saturated. -/
def scaleTo (e : Int) (mx : Word) (pos : Word) (f : Frac) : Word × RangeHit :=
  let q := mantissa e f
  let lim : Int := mx.toNat
  if lim < q then (wi lim, some pos) else if q < -lim then (wi (-lim), some pos) else (wi q, none)

/-- The words of a list of scaled values, and the first saturated position. -/
def firstHit (l : List (Word × RangeHit)) : RangeHit := (l.find? (fun x => x.2.isSome)).bind (·.2)

/-- A matrix entry of row r, column c. Log entry 47 (DEDUCED). -/
def scaleEntry (p : Params) (r c : Nat) (f : Frac) : Word × RangeHit :=
  scaleTo (rangeExp p (624 + r / 8) + rangeExp p (649 + c / 8)) (p (661 + 9 * (r / 8) + c / 8)) (wd (r + 0x100 * c)) f

/-- A bound of row r. -/
def scaleBound (p : Params) (r k : Nat) (f : Frac) : Word × RangeHit :=
  scaleTo (rangeExp p (624 + r / 8) + rangeExp p 658) (p (886 + r / 8)) (wd (r + 0x100 * k + 0x10000)) f

/-- The 72 words of a row. -/
def rowWords (p : Params) (r : Nat) (x : AlcRow) : List (Word × RangeHit) :=
  (upto 72).map (fun c => match x.coef.find? (fun e => e.1 == c) with
    | some e => scaleEntry p r c e.2
    | none => (0, none))

/-! ## Validation (R199) -/

/-- The reserved bits of an image's words (reason 0x3), as (word, mask). -/
def reservedBits (p : Params) : List (Nat × Nat) :=
  [(3, 0xFF00FFE0), (4, 0xFFFFFFFF), (5, 0xFFFFFFFF), (6, 0xFFFFFFFF), (7, 0xFFFFFFFF)]
  ++ (upto 11).map (fun k => (21 + k, 0xFFFFFFFF))
  ++ (upto (min (nUnits p) 24)).flatMap (fun u =>
      [(32 + 24 * u, 0xFFFE0000), (32 + 24 * u + 8, 0xFFFF0000), (32 + 24 * u + 9, 0xFFFE0000), (32 + 24 * u + 13, 0xFFFFFFFF),
       (32 + 24 * u + 22, 0xFFFFFFFF), (32 + 24 * u + 23, 0xFFFFFFFF)])
  ++ [(608, 0xFFFFFFF8), (609, 0xFF000000), (615, 0xFFFF0000), (620, 0xFFFFFF00), (622, 0xFFFFFFFF), (623, 0xFFFFFFFF)]

/-- Reason 0x4 on one enabled unit: the first failing word. -/
def unitFault (p : Params) (u : Nat) : Option Nat :=
  let b := 32 + 24 * u
  let np := uPoly p u
  let sect := ((uw p u 7) - (uw p u 6)).toNat
  if isAz p u && !(np == 4 || np == 6 || np == 8) then some b
  else if !isAz p u && np != 0 then some b
  else if 4 < uCut p u then some b
  else if uw p u 4 = 0#32 then some (b + 4)
  else if isAz p u && uSector p u && decide (0x80000000 ≤ sect) then some (b + 7)
  else if isAz p u && bits (uw p u 8) 15 0 == 0 then some (b + 8)
  else if sw (uw p u 12) < 0 then some (b + 12)
  else none

/-- Reason 0x9: an exponent out of range, or a maximum of 0 for a tile that holds a structural entry. Log entry 47 (DEDUCED). -/
def rangeFault (p : Params) : Option Nat :=
  let cols := alcColumns p
  let ms := (alcUnits p).map (fun u => (⟨u, 0, 0, false, false, false⟩ : UnitMeas))
  let eqs := eqRows p cols 0 true
  let rows := ms.flatMap (unitRows p cols 1) ++ hingeRows p cols true
  let tiles := (List.zip (upto eqs.length) eqs ++ (List.zip (upto rows.length) rows).map (fun (e : Nat × AlcRow) => (4 + e.1, e.2))).flatMap
    (fun (e : Nat × AlcRow) => e.2.coef.map (fun c => 661 + 9 * (e.1 / 8) + c.1 / 8))
  let vecs := (upto rows.length).map (fun k => 886 + (4 + k) / 8)
  match ((upto 37).map (· + 624)).find? (fun k => decide (rangeExp p k < -64) || decide (63 < rangeExp p k)) with
  | some k => some k
  | none => (tiles ++ vecs ++ [911, 912]).find? (fun k => decide (p k = 0#32) || bit (p k) 31)

/-- The validation of an image (R199): reason and first failing word, none when it passes. Log entry 47 (DEDUCED). -/
def alcValidate (flt : Flt) (feat6 : Bool) (p : Params) : Option (Nat × Nat) :=
  let len := (p 1).toNat
  if p 0 ≠ 0x5A7C5704#32 then some (1, 0)
  else if len < 913 ∨ 2048 < len then some (1, 1)
  else if p 2 ≠ crc32 (wordsBytes ((upto (len - 3)).map (fun k => p (3 + k)))) then some (2, 2)
  else if nUnits p = 0 ∨ 24 < nUnits p ∨ hStep p = 0 ∨ 40 < hStep p then some (3, 3)
  else match (reservedBits p).find? (fun e => (p e.1).toNat &&& e.2 != 0) with
  | some e => some (3, e.1)
  | none => match (alcUnits p).filterMap (unitFault p) with
    | k :: _ => some (4, k)
    | [] => match (alcStreams p).find? (fun s => !flt.enabled.contains s) with
      | some s => some (5, s)
      | none =>
        if 72 < (alcColumns p).length ∨ 192 < rowCount p then some (6, 3)
        else if hingeOn p && (!feat6 || decide (sw (p 614) ≤ sw (p 613)) || decide (sw (p 618) < sw (p 619)) || bits (p 620) 7 0 == 0)
          then some (7, 608)
        else if det3 (massMatrix p false) ≤ 0 ∨ (hingeOn p ∧ det3 (massMatrix p true) ≤ 0) then some (8, 8)
        else (rangeFault p).map (fun k => (9, k))

/-! ## The window and bank swaps (R194, R195) -/

/-- A write of ALC_P_DATA (R194): always to the inactive bank. -/
def Alc.dataWrite (v : Word) (u : Alc) : W Alc :=
  let k := rfld u.regs Reg.ALC_P_WIN 10 0
  if u.pend then (W.of u).code Pg.ALC 0x1904 []
  else (W.of { u with regs := rmod u.regs Reg.ALC_P_WIN (fun x => putBits x 10 0 (k + 1)) }).store Pg.ALC
    (alcWordAddr (1 - u.active) k) (wordBytes v)

/-- What a read of ALC_P_DATA returns. -/
def Alc.dataRead (m : Mem) (u : Alc) : Word :=
  let b := if rbit u.regs Reg.ALC_P_WIN 16 then u.active else 1 - u.active
  m.readWord (alcWordAddr b (rfld u.regs Reg.ALC_P_WIN 10 0))

/-- The inactive bank becomes active. Log entry 47 (DEDUCED). -/
def Alc.flip (w : W Alc) : W Alc :=
  ((w.map (fun u => { u with
      pend := false, valid := true,
      regs := rmod u.regs Reg.ALC_BANK (fun x => putBit (x ^^^ 1#32) 1 false) })).evt Pg.ALC 2).code Pg.ALC 0x0911 []

/-- The result of a validation in ALC_BANK. -/
def Alc.verdict (v : Option (Nat × Nat)) (u : Alc) : Alc :=
  { u with
    regs := rmod u.regs Reg.ALC_BANK (fun x =>
      let x := putBit (putBit x 2 v.isSome) 3 v.isNone
      putBits (putBits x 7 4 (match v with | some e => e.1 | none => 0)) 18 8 (match v with | some e => e.2 | none => 0)) }

/-- A swap request (R195). -/
def Alc.swap (m : Mem) (flt : Flt) (feat6 run : Bool) (u : Alc) : W Alc :=
  if u.pend then W.of u
  else
    let v := alcValidate flt feat6 (alcImage m (1 - u.active))
    let w := W.of (u.verdict v)
    match v with
    | some e => (w.evt Pg.ALC 3).code Pg.ALC 0x1903 [wd e.1, wd e.2]
    | none =>
      if run then w.map (fun u => { u with pend := true, regs := rmod u.regs Reg.ALC_BANK (fun x => putBit x 1 true) })
      else Alc.flip w

/-- The validation of the active bank on leaving CONFIG (R195). Log entry 92 (DEDUCED). -/
def Alc.exitCheck (m : Mem) (flt : Flt) (feat6 : Bool) (u : Alc) : Option (Nat × Nat) :=
  alcValidate flt feat6 (alcImage m u.active)

/-- The exit from CONFIG: no angle is known yet (R200). Log entry 47 (DEDUCED). -/
def Alc.start (u : Alc) : Alc := { (u.verdict none) with data := AlcData.fresh, work := none, valid := true }

/-! ## The ASSEMBLE span (R192, R200–R212) -/

/-- A stream as ALC finds it (R200): its value when usable. -/
def alcStream (i : SpanIn) (s : Nat) : Option Int :=
  let a := i.src + 8 * s
  let st := i.mem.readWord (a + 4)
  if i.mem.isBad a then none
  else if bit st 9 && !bit st 3 && !bit st 5 then some (sw (i.mem.readWord a)) else none

/-- The measurements of a unit (R200, R203). -/
def measureUnit (p : Params) (i : SpanIn) (off : Word) (d : AlcData) (u : Nat) : UnitMeas :=
  let az := isAz p u
  let ang := alcStream i (bits (uw p u 9) 7 0)
  let last := (d.angles.find? (fun e => e.1 == u)).map (·.2)
  let alpha := match ang with
    | some a => some ((a + (uw p u 3).toNat) % 4294967296)
    | none => last
  let spd := if bit (uw p u 9) 16 then alcStream i (bits (uw p u 9) 15 8) else none
  let fl := sw (uw p u 11)
  let teff := match spd with
    | some n => min (sw (uw p u 4)) (max fl (roundShift ((uw p u 10).toNat * n * n) 38))
    | none => fl
  { unit := u, alpha := alpha.getD 0, teff := teff, frozen := az && ang.isNone && last.isSome,
    off := bit off u || (az && alpha.isNone), floor := spd.isNone }

/-- A bitmap of units that p holds of. -/
def unitMap (ms : List UnitMeas) (f : UnitMeas → Bool) : Nat := ms.foldl (fun a x => if f x then a + 2 ^ x.unit else a) 0

/-- Reports of the units whose bit is new in a bitmap. -/
def onset (old new code flag : Nat) (evt : Bool) (w : W Alc) : W Alc :=
  ((upto 24).filter (fun u => new.testBit u && !old.testBit u)).foldl (fun w u =>
    (w.when evt (·.evt Pg.ALC flag)).code Pg.ALC code [wd u]) w

/-- ASSEMBLE (R208). -/
def Alc.assemble (i : SpanIn) (u : Alc) : R Alc :=
  -- a validated bank becomes active at START
  let w0 := W.of { u with regs := rset u.regs Reg.ALC_OUT_BLK (wd (i.dstBlk + 0x80000000)) }
  let w0 := if u.pend then Alc.flip w0 else w0
  let u := w0.u
  let p := alcImage i.mem u.active
  let need := ((alcStreams p).foldl max 0 + 4) / 4
  let fb := bit i.arg 31
  let dem := i.vis (bits i.arg 18 0)
  let bankAt := alcWordAddr u.active 0
  let nBank := ((p 1).toNat % 4096 * 4 + 31) / 32
  let missed := fun (u : Alc) => { u with regs := rmod u.regs Reg.ALC_STAT (fun x => putBit x 0 true) }
  let w := (w0.readN i.mem Pg.ALC bankAt nBank).when fb (·.readN i.mem Pg.ALC dem 2)
  let w := (alcStreams p).foldl (fun w s => w.readN i.mem Pg.ALC (i.src + 32 * (s / 4)) 1) w
  if i.srcLen < need ∨ i.dstLen < 1880 then R.bad (((w0.map missed).evt Pg.ALC 0).code Pg.ALC 0x2902 [])
  else if i.mem.anyBad bankAt nBank || (fb && i.mem.anyBad dem 2) then R.bad (((w.map missed).evt Pg.ALC 0).code Pg.ALC 0x20C3 [])
  else
    let d := u.data
    let ms := (alcUnits p).map (measureUnit p i (rget u.regs Reg.ALC_UNIT_OFF) d)
    let hs := hStep p * i.lenUs
    -- engagement
    let luff := alcStream i (bits (p 609) 7 0)
    let load := alcStream i (bits (p 609) 15 8)
    let slew := if bit (p 608) 2 then alcStream i (bits (p 609) 23 16) else some 0
    let usable := hingeOn p && luff.isSome && load.isSome && slew.isSome
    let inRange := decide (sw (p 613) ≤ luff.getD 0) && decide (luff.getD 0 ≤ sw (p 614))
    let eng := usable && inRange && decide (sw (p 618) ≤ load.getD 0)
    let engN := if eng then min (d.engN + 1) 255 else 0
    let engaged := if d.engaged then usable && inRange && decide (sw (p 619) ≤ load.getD 0) else eng && decide (bits (p 620) 7 0 ≤ engN)
    let mode := if fb then bits (i.mem.readWord dem) 3 0 else 0
    let act := engaged && fb && mode == 5
    let prev8 := sw (i.mem.readWord (dem + 32))
    let dev := act && decide ((sw (p 621)) < ((load.getD 0 - prev8).natAbs : Int))
    let gamma := ((p 612).toNat : Int) + slew.getD 0
    -- columns, rows, hash
    let cols := alcColumns p
    let rows := ms.flatMap (unitRows p cols hs) ++ hingeRows p cols act
    let eqs := eqRows p cols gamma act
    let head0 := wd (1 + 0x100 * cols.length + 0x10000 * rows.length + 0x1000000 * eqs.length)
    let head3 := wd (hStep p + 0x100 * nUnits p)
    let colW := (upto 72).map (fun c => match cols[c]? with | some x => colDesc p x | none => 0#32)
    let rowW := (upto 200).map (fun r =>
      if r < 4 then (match eqs[r]? with | some x => rowDesc x | none => 0#32)
      else (match rows[r - 4]? with | some x => rowDesc x | none => 0#32))
    let hash := crc32 (wordsBytes ([head0, head3] ++ colW ++ rowW))
    -- matrices
    let mm := massMatrix p engaged
    let phi := (upto 9).map (fun k => scaleTo (rangeExp p 659) (p 911) (wd (k / 3 + 0x100 * (k % 3) + 0x20000)) (phiEntry p mm hs (k / 3) (k % 3)))
    let gam := (upto 9).map (fun k => scaleTo (rangeExp p 660) (p 912) (wd (k / 3 + 0x100 * (k % 3) + 0x20000)) (gammaEntry mm hs (k / 3) (k % 3)))
    let eqW := (upto 4).flatMap (fun r => match eqs[r]? with | some x => rowWords p r x | none => List.replicate 72 (0, none))
    let inW := (upto 192).flatMap (fun r => match rows[r]? with | some x => rowWords p (r + 4) x | none => List.replicate 72 (0, none))
    let bdW := (upto 192).flatMap (fun r => match rows[r]? with
      | some x => [scaleBound p (r + 4) 0 x.b0, scaleBound p (r + 4) 1 x.b1, scaleBound p (r + 4) 2 x.bcap]
      | none => List.replicate 3 (0, none))
    let hit := firstHit (phi ++ gam ++ eqW ++ inW ++ bdW)
    let changed := d.hash != some hash
    let frozen := unitMap ms (·.frozen)
    let off := unitMap ms (·.off)
    let floor := unitMap ms (·.floor)
    -- an angle that has never been usable turns its unit off (R200)
    let lostAngle := unitMap ms (fun x => x.frozen || (x.off && !bit (rget u.regs Reg.ALC_UNIT_OFF) x.unit))
    let head := [head0,
      wd (b2n engaged + 2 * b2n act + 4 * b2n hit.isSome + 8 * b2n dev + 16 * b2n changed + 32 * b2n (!fb) + 64 * u.active),
      hash, head3, wd hs, wd frozen, wd off, wd floor, wi (load.getD 0), wi (luff.getD 0), wi gamma, wd i.fno,
      wd (mode + 0x100 * engN), 0#32, 0#32]
    let out := head ++ [crc32 (wordsBytes head)] ++ colW ++ rowW ++ (upto 25).map (fun k => wi (rangeExp p (624 + k)))
      ++ (upto 9).map (fun k => wi (rangeExp p (649 + k))) ++ [wi (rangeExp p 658), wi (rangeExp p 659), wi (rangeExp p 660)]
      ++ phi.map (·.1) ++ gam.map (·.1) ++ List.replicate 9 0#32 ++ eqW.map (·.1) ++ inW.map (·.1) ++ bdW.map (·.1)
    -- reports
    let w := onset d.frozen lostAngle 0x1912 4 true w
    let w := onset d.floor floor 0x1913 0 false w
    let w := w.when (engaged && !d.engaged) (fun w => (w.evt Pg.ALC 5).code Pg.ALC 0x0914 [])
    let w := w.when (!engaged && d.engaged) (fun w => (w.evt Pg.ALC 5).code Pg.ALC 0x1915 [])
    let w := w.when (dev && !d.loadDev) (fun w => (w.evt Pg.ALC 6).code Pg.ALC 0x1916 [])
    let w := w.when changed (fun w => (w.evt Pg.ALC 7).code Pg.ALC 0x0917 [])
    let w := w.when hit.isSome (fun w => (w.evt Pg.ALC 1).code Pg.ALC 0x1910 [hit.getD 0])
    let stat := wd (2 * b2n hit.isSome + 4 * b2n engaged + 8 * b2n act + 16 * b2n dev + 32 * b2n (!fb) + 0x100 * cols.length
      + 0x10000 * rows.length)
    let angles := ms.filterMap (fun x => if isAz p x.unit && !(x.off && !d.angles.any (fun e => e.1 == x.unit) && (alcStream i (bits (uw p x.unit 9) 7 0)).isNone)
      then some (x.unit, x.alpha) else none)
    let engs := rfld u.regs Reg.ALC_ENG 31 16
    let w := w.map (fun u =>
      let r := rsets u.regs [(Reg.ALC_STAT, stat), (Reg.ALC_FROZEN, wd frozen), (Reg.ALC_FLOOR, wd floor),
        (Reg.ALC_ENG, wd (engN + 0x10000 * (if engaged && !d.engaged then satInc 16 engs else engs))),
        (Reg.ALC_LOAD, wi (load.getD 0)), (Reg.ALC_RUN, wd (i.free.toNat % 0x40000))]
      let r := if hit.isSome then rset (rmod r Reg.ALC_RANGE_CNT incW) Reg.ALC_RANGE_LAST (hit.getD 0) else r
      let r := ms.foldl (fun r x => rset (rset r (rk Reg.ALC_U_ANG 0 x.unit) (wi x.alpha)) (rk Reg.ALC_U_TEFF 0 x.unit) (wi x.teff)) r
      { u with regs := r, work := some ⟨angles, lostAngle, off, floor, engN, engaged, dev, some hash⟩ })
    R.good (w.store Pg.ALC i.dst (wordsBytes out))

/-- The publication of an ASSEMBLE. -/
def Alc.publish (u : Alc) : Alc :=
  match u.work with
  | some d => { u with data := d, work := none, regs := rset u.regs Reg.ALC_HASH (d.hash.getD 0) }
  | none => u

/-- A missed ASSEMBLE (R212). Log entry 33 (DEDUCED). -/
def Alc.miss (u : Alc) : W Alc :=
  (W.of { u with work := none, regs := rmod u.regs Reg.ALC_STAT (fun x => putBit x 0 true) }).evt Pg.ALC 0

end Sys2Proof.Machine
end

