-- ==== Sys2Proof/Machine/Solver.lean ====
section
/-! DEFINITION. SOL0 and SOL1: the solver image, the ALLOCATE spans, held results, commands and the memory windows
(R214–R232). The numerics of a solve stand in Config. -/

namespace Sys2Proof.Machine

/-! ## The solver image (R221, R222) -/

/-- Where the image banks lie in SOL0 local memory, 16,896 words each (assumption 20). Log entry 20 (DESIGN CHOICE). -/
def imgAddr (b k : Nat) : Nat := 0x50000000 + 67584 * b + 4 * k

/-- Where the warm-start store lies in SOL0 local memory (assumption 20). Log entry 20 (DESIGN CHOICE). -/
def warmAddr : Nat := 0x50040000

/-- The active image bank. -/
def Sol.active (u : Sol) : Nat := rfld u.regs Reg.SOL0_IMG_STAT 0 0

/-- The image in bank b. -/
def solImage (m : Mem) (b : Nat) : Params := fun k => m.readWord (imgAddr b k)

/-- N, ITER_MAX and ENTRIES of an image. -/
def imgN (p : Params) : Nat := bits (p 3) 5 0
def imgIter (p : Params) : Nat := bits (p 3) 13 8
def imgEntries (p : Params) : Nat := bits (p 3) 18 16

/-- The exponent of a weight word. -/
def weightExp (w : Word) : Int := signed 8 (bits w 31 24)

/-- The words of an image that are weights (R221). -/
def weightWords : List Nat := [5, 6] ++ (upto 6).map (· + 8) ++ [14] ++ (upto 10).map (· + 16) ++ (upto 216).map (· + 32)

/-- The reserved words of an image. -/
def imgReserved : List Nat := [7, 15] ++ (upto 6).map (· + 26) ++ (upto 8).map (· + 248) ++ (upto 232).map (· + 280)

/-- The validation of an image (R222): the reason of the first failure. -/
def imgValidate (feat4 : Bool) (p : Params) : Option Nat :=
  let len := (p 1).toNat
  let ents := imgEntries p
  let entLen := fun e => (p (512 + 4096 * e + 1)).toNat
  if p 0 ≠ 0x5A7C5705#32 ∨ len < 512 ∨ 16896 < len ∨ len < 512 + 4096 * (ents - 1) + 2 then some 1
  else if p 2 ≠ crc32 (wordsBytes ((upto (len - 3)).map (fun k => p (3 + k)))) then some 2
  else if imgN p = 0 ∨ 32 < imgN p ∨ imgIter p = 0 ∨ ents = 0 ∨ 4 < ents ∨ (p 3).toNat &&& 0xFFF8C0C0 ≠ 0
      ∨ bits (p 4) 31 10 ≠ 0 ∨ imgReserved.any (fun k => p k ≠ 0#32) then some 3
  else if weightWords.any (fun k => decide (weightExp (p k) < -64) || decide (63 < weightExp (p k)))
      || (upto 3).any (fun k => bits (p (8 + k)) 23 0 == 0) then some 4
  else if 1 < imgN p ∧ !feat4 then some 5
  else if (upto ents).any (fun e => decide (entLen e < 2) || decide (4096 < entLen e)
      || (upto e).any (fun d => p (512 + 4096 * d) == p (512 + 4096 * e))) then some 6
  else none

/-- ENTRIES, N and ITER_MAX of the active image in SOL0_IMG_STAT. -/
def Sol.showImage (m : Mem) (u : Sol) : Sol :=
  let p := solImage m u.active
  { u with
    regs := rmod u.regs Reg.SOL0_IMG_STAT (fun x => putBits (putBits (putBits x 10 8 (imgEntries p)) 21 16 (imgN p)) 31 24 (imgIter p)) }

/-- The inactive image bank becomes active. -/
def Sol.flip (m : Mem) (w : W Sol) : W Sol :=
  (w.map (fun u => Sol.showImage m { u with
    pend := false, valid := true,
    regs := rmod u.regs Reg.SOL0_IMG_STAT (fun x => putBit (x ^^^ 1#32) 1 false) })).evt Pg.SOL0 5

/-- The result of a validation in SOL0_IMG_STAT. -/
def Sol.verdict (v : Option Nat) (u : Sol) : Sol :=
  { u with
    regs := rmod u.regs Reg.SOL0_IMG_STAT (fun x => putBits (putBit (putBit x 2 v.isSome) 3 v.isNone) 7 4 (v.getD 0)) }

/-- A write of SOL0_IMG_DATA (R222): always to the inactive bank. -/
def Sol.imgWrite (v : Word) (u : Sol) : W Sol :=
  let k := rfld u.regs Reg.SOL0_IMG_WIN 14 0
  if u.pend ∨ 16896 ≤ k then (W.of u).code Pg.SOL0 0x1A04 []
  else (W.of { u with
      regs := rmod u.regs Reg.SOL0_IMG_WIN (fun x => putBits x 14 0 (if k = 16895 then 0 else k + 1)) }).store Pg.SOL0
    (imgAddr (1 - u.active) k) (wordBytes v)

/-- What a read of SOL0_IMG_DATA returns. -/
def Sol.imgRead (m : Mem) (u : Sol) : Word :=
  let b := if rbit u.regs Reg.SOL0_IMG_WIN 16 then u.active else 1 - u.active
  m.readWord (imgAddr b (rfld u.regs Reg.SOL0_IMG_WIN 14 0))

/-- A write of SOL0_IMG_SWAP (R222). -/
def Sol.imgSwap (m : Mem) (feat4 run : Bool) (u : Sol) : W Sol :=
  if u.pend then W.of u
  else
    let v := imgValidate feat4 (solImage m (1 - u.active))
    let w := W.of (u.verdict v)
    match v with
    | some r => (w.evt Pg.SOL0 6).code Pg.SOL0 0x1A03 [wd r]
    | none =>
      if run then w.map (fun u => { u with pend := true, regs := rmod u.regs Reg.SOL0_IMG_STAT (fun x => putBit x 1 true) })
      else Sol.flip m w

/-- A write of SOL0_WARM_CTRL.COLD (R224). -/
def Sol.coldRequest (u : Sol) : W Sol := W.of { u with cold := true }

/-- A write of SOL1_MEM_DATA (R232). -/
def Sol.memWrite (run : Bool) (v : Word) (u : Sol) : W Sol :=
  let k := rfld u.regs Reg.SOL1_MEM_WIN 18 0
  if run then (W.of u).code Pg.SOL1 0x1A04 []
  else (W.of { u with regs := rset u.regs Reg.SOL1_MEM_WIN (wd ((k + 1) % 524288)) }).store Pg.SOL1 (0x51000000 + 4 * k) (wordBytes v)

/-- What a read of SOL1_MEM_DATA returns (R232). -/
def Sol.memRead (m : Mem) (run : Bool) (u : Sol) : Word :=
  if run then 0#32 else m.readWord (0x51000000 + 4 * rfld u.regs Reg.SOL1_MEM_WIN 18 0)

/-! ## From solution to commands (R227) -/

/-- Whether tan of an angle (in 2^−32 degrees, 0–90°) is at most y / x, for y and x not negative. -/
def tanLe (k : Nat) (y x : Int) : Bool :=
  let r := fdiv (piQ * k) (180 * (2 ^ 32 : Nat))
  let q := fdiv (piQ * (90 * (2 ^ 32 : Nat) - k)) (180 * (2 ^ 32 : Nat))
  decide (x * sinSum r 24 1 r ≤ y * sinSum q 24 1 q)

/-- The bits of an arctangent found so far. -/
def atanFrom (y x : Int) : Nat → Nat → Nat
  | 0, r => r
  | fuel + 1, r =>
    atanFrom y x fuel (if r + 2 ^ fuel ≤ 386547056640 ∧ tanLe (r + 2 ^ fuel) y x then r + 2 ^ fuel else r)

/-- atan2 in 2^−32 degrees, in (−180°, +180°]; 0 for the zero vector. Log entry 49 (DEDUCED). -/
def atan2Deg (y x : Int) : Int :=
  if x = 0 ∧ y = 0 then 0
  else
    let a : Int := atanFrom y.natAbs x.natAbs 39 0
    let half : Int := 773094113280
    if 0 ≤ x then (if 0 ≤ y then a else -a) else (if 0 ≤ y then half - a else a - half)

/-- An angle in 2^−32 degrees brought into (−180°, +180°]. -/
def wrapDeg (a : Int) : Int :=
  let t : Int := 1546188226560
  let r := a % t
  if 773094113280 < r then r - t else r

/-- An angle less an offset (binary angle), as Q15.16 degrees rounded to nearest. Log entry 49 (DEDUCED). -/
def angleWord (a ofs : Int) : Int :=
  let d := roundShift (wrapDeg (a - 360 * ofs)) 16
  if d ≤ -11796480 then d + 23592960 else d

/-- √(x² + y²), rounded to nearest. -/
def hypot (x y : Int) : Int :=
  let s := (x * x + y * y).toNat
  let r := isqrt s
  ((if r * r + r < s then r + 1 else r : Nat) : Int)

/-- The ALC output as the lead reads it. -/
structure AlcOut where
  w : Nat → Word

/-- Columns in the ALC output: unit, VAR, BUS, STRING by column index. -/
def AlcOut.cols (a : AlcOut) : List (Nat × Nat × Nat × Nat) :=
  (upto (bits (a.w 0) 15 8)).map (fun c => let d := a.w (16 + c); (bits d 4 0, bits d 7 5, bits d 10 8, bits d 13 11))

/-- The column of a variable of a unit. -/
def AlcOut.col (a : AlcOut) (u v : Nat) : Option Nat := a.cols.findIdx? (fun c => c.1 == u && c.2.1 == v)

/-- The row of a KIND of a unit. -/
def AlcOut.row (a : AlcOut) (kind u : Nat) : Option Nat :=
  (upto 200).find? (fun r => decide (4 ≤ r) && decide (r < 4 + bits (a.w 0) 23 16) && bits (a.w (88 + r)) 7 0 == kind
    && bits (a.w (88 + r)) 12 8 == u)

/-- The exponent of a column's block, and of a row's. -/
def AlcOut.ec (a : AlcOut) (c : Nat) : Int := sw (a.w (313 + c / 8))
def AlcOut.er (a : AlcOut) (r : Nat) : Int := sw (a.w (288 + r / 8))

/-- Whether a unit's direction (Fx, Fy) differs from its present angle by more than 90° (R227), from its RATE_P row. -/
def AlcOut.behind (a : AlcOut) (u : Nat) (fx fy : Int) : Bool :=
  match a.row 0x13 u, a.col u 0, a.col u 1 with
  | some r, some cx, some cy =>
    let qx := sw (a.w (640 + 72 * (r - 4) + cx))
    let qy := sw (a.w (640 + 72 * (r - 4) + cy))
    let sh := fun c => (2 ^ (a.ec c + 64).toNat : Nat)
    decide (fx * qy * (sh cy : Int) - fy * qx * (sh cx : Int) < 0)
  | _, _, _ => false

/-- Row r of the equality rows applied to step 1, as a fraction of kN or kN·m. -/
def AlcOut.apply (a : AlcOut) (r : Nat) (x : List Int) : Frac :=
  (upto (bits (a.w 0) 15 8)).foldl (fun (acc : Frac) c =>
    let e := a.er r + a.ec c + 160
    let q := sw (a.w (352 + 72 * r + c))
    let v : Frac := if (a.cols.getD c (0, 0, 0, 0)).2.1 = 6 then fq (x.getD c 0) 6 else fq (x.getD c 0) 10
    acc.add ((q * (2 ^ e.toNat : Nat) * v.1, v.2 * (2 ^ 190 : Nat)))) (0, 1)

/-- A fraction with n fractional bits, rounded to nearest and saturated. -/
def fracWord (n : Nat) (f : Frac) : Word := satW (fdiv (2 * f.1 * (2 ^ n : Nat) + f.2) (2 * f.2))

/-- The angle and thrust words of unit u (R227). -/
def unitCommand (a : AlcOut) (aofs : Nat → Int) (tmin : Int) (prev : Nat → Word) (x : List Int) (u : Nat) : List Word :=
  let off := bit (a.w 6) u
  let val := fun v => (a.col u v).map (fun c => x.getD c 0)
  if off then [prev (8 + 2 * u), 0#32]
  else match val 0, val 1, val 2 with
    | some fx, some fy, _ =>
      let t := hypot fx fy
      let rev := (a.row 0x15 u).isSome && a.behind u fx fy
      let th := atan2Deg fy fx
      let th := if rev then th + 773094113280 else th
      let ang := if t < tmin then prev (8 + 2 * u) else wi (angleWord th (aofs u))
      [ang, satW (if rev then -t else t)]
    | _, _, some f => [0#32, satW f]
    | _, _, _ => [prev (8 + 2 * u), 0#32]

/-! ## A run (R216–R228) -/

/-- Words 4–100 of a result, and those that frame it. -/
structure AllocResult where
  head : Word
  mid  : List Word

/-- The sum of the power columns that a predicate of BUS and STRING selects. -/
def powerSum (a : AlcOut) (x : List Int) (p : Nat × Nat → Bool) : Int :=
  (upto (bits (a.w 0) 15 8)).foldl (fun acc c =>
    let d := a.cols.getD c (0, 0, 0, 0)
    if d.2.1 = 3 ∧ p d.2.2 then acc + x.getD c 0 else acc) 0

/-- Words 4–95 of a result from the solution of step 1 (R228). Log entry 48 (DESIGN CHOICE). -/
def resultWords (a : AlcOut) (aofs : Nat → Int) (tmin : Int) (prev : Nat → Word) (plant : List Word) (x : List Int) : List Word :=
  [fracWord 10 (a.apply 0 x), fracWord 10 (a.apply 1 x), fracWord 6 (a.apply 2 x),
   (match a.col 31 4 with | some c => satW (x.getD c 0) | none => 0#32)]
  ++ (upto 24).flatMap (unitCommand a aofs tmin prev x)
  ++ (upto 24).map (fun u => match a.col u 3 with | some c => satW (x.getD c 0) | none => 0#32)
  ++ (upto 8).map (fun b => satW (powerSum a x (fun d => d.1 == b)))
  ++ (upto 8).map (fun s => satW (powerSum a x (fun d => d.2 == s) + swAt plant (48 + s)))

/-- Words 4–95 of an IDLE run (R216): no force, no thrust, no power, the angle words kept. Log entry 49 (DEDUCED). -/
def idleWords (prev : Nat → Word) (plant : List Word) : List Word :=
  [0#32, 0#32, 0#32, 0#32] ++ (upto 24).flatMap (fun u => [prev (8 + 2 * u), 0#32]) ++ List.replicate 32 0#32
    ++ (upto 8).map (fun s => wordAt plant (48 + s))

/-- The eight relaxed rows of words 97–100. -/
def relaxWords (rows : List Nat) : List Word :=
  (upto 4).map (fun k => wd (rows.getD (2 * k) 0xFFFF % 65536 + 0x10000 * (rows.getD (2 * k + 1) 0xFFFF % 65536)))

/-- The problem hash (R221). -/
def problemHash (alcHash : Word) (n : Nat) (plant : Option (List Word)) : Word :=
  crc32 (wordsBytes [alcHash, wd n, match plant with | some p => wd (bits (wordAt p 0) 15 0) | none => 0#32])

/-- A code recorded at the onset of a status bit (R225). -/
def onsetCode (old : Word) (b : Nat) (c : Bool) (code : Nat) (w : W Sol) : W Sol :=
  w.when (c && !bit old b) (·.code Pg.SOL0 code [])

/-- The lead's ALLOCATE (R214–R228), partnerOk telling whether SOL1 stood idle or ready as partner at START.
Log entry 48 (DESIGN CHOICE). -/
def Sol.allocate (i : SpanIn) (partnerOk : Bool) (u0 : Sol) : R Sol :=
  let missed := fun (u : Sol) => { u with regs := rmod u.regs Reg.SOL0_STAT (fun x => putBit x 0 true) }
  let w0 := W.of u0
  let w0 := if u0.pend then Sol.flip i.mem w0 else w0
  if i.srcLen < 1880 ∨ i.dstLen < 13 then R.bad (((w0.map missed).evt Pg.SOL0 0).code Pg.SOL0 0x2A02 [])
  else
    let u := w0.u
    let m := i.mem
    let fb := bit i.arg 31
    let demAt := i.vis (bits i.arg 18 0)
    let pb := rget u.regs Reg.SOL0_PLANT_BLK
    let plantAt := i.vis (bits pb 18 0)
    let w := w0.readN m Pg.SOL0 i.src 1880
    let w := w.when fb (·.readN m Pg.SOL0 demAt 2)
    let w := w.when (bit pb 31) (·.readN m Pg.SOL0 plantAt 8)
    let w := w.when u.data.store.isSome (·.readN m Pg.SOL0 warmAddr 1)
    let warmBad := u.data.store.isSome && m.isBad warmAddr
    if m.anyBad i.src 1880 || (fb && m.anyBad demAt 2) || (bit pb 31 && m.anyBad plantAt 8) || warmBad then
      let u1 := fun (u : Sol) => { missed u with data := if warmBad then { u.data with store := none } else u.data }
      R.bad (((w.map u1).evt Pg.SOL0 0).code Pg.SOL0 0x20C3 [])
    else
      let d := u.data
      let old := d.status
      let a : AlcOut := ⟨fun k => m.readWord (i.src + 4 * k)⟩
      let img := solImage m u.active
      let n := bits (a.w 0) 15 8
      let big := imgN img
      let dem := fun k => m.readWord (demAt + 4 * k)
      let prev := fun k => m.readWord (i.vis i.dstBlk + 4 * k)
      -- plant record (R218)
      let rec_ := m.readWords plantAt 64
      let recOk := wordAt rec_ 63 == crc32 (wordsBytes (rec_.take 63))
      let plantBad := bit pb 31 && !recOk
      let plant : Option (List Word) := if bit pb 31 then (if recOk then some rec_ else d.plant) else none
      let pw := plant.getD []
      let age := rfld u.regs Reg.SOL0_PLANT_AGE 15 0
      let stale := bit pb 31 && plant.isSome && decide (age ≠ 0) && decide (age < (wd i.fno - wordAt pw 1).toNat)
      let plantKeep := if bit pb 31 && recOk then some rec_ else d.plant
      -- conditions of the model (R216)
      let idle := !fb || bits (dem 0) 3 0 == 0
      let headOk := bits (a.w 0) 7 0 == 1 && a.w 15 == crc32 (wordsBytes ((upto 15).map a.w))
      let oldModel := headOk && decide (a.w 11 ≠ wd i.fno)
      let range := headOk && bit (a.w 1) 2
      let rangeHold := range && rbit u.regs Reg.SOL0_CTRL 1
      let hash := problemHash (a.w 2) big plant
      let entry := (upto (imgEntries img)).any (fun e => img (512 + 4096 * e) == hash)
      let warm := match d.store with | some s => decide (s.hash = hash) && !u.cold | none => false
      let limit := if partnerOk then imgIter img else max 1 (imgIter img / 2)
      let hingeAct := bit (a.w 1) 1
      let start := match d.store with | some s => if warm then s.xs ++ s.sets else [] | none => []
      let s := Config.allocSolve [(upto 15040).map a.w, (upto 16).map dem, pw, (upto 16896).map img,
        [rget u.regs Reg.SOL0_CTRL, rget u.regs Reg.SOL0_PIVOT, rget u.regs Reg.SOL0_REG, rget u.regs Reg.SOL0_GUARD, b2w warm,
          b2w hingeAct]] (start ++ d.x0) limit
      let sc := fun k => (s.getD 0 []).getD k 0
      let sol := s.getD 1 []
      let sets := s.getD 2 []
      let relaxed := (s.getD 3 []).map Int.toNat
      let flag := fun k => sc k == 1
      let solve := !idle && headOk && !rangeHold && entry
      let singular := solve && flag 3
      let ovf := solve && flag 4
      let held := !idle && (!solve || singular || ovf)
      let iters := if solve then min (sc 1).toNat limit else 0
      let regs_ := if solve then min (sc 2).toNat 15 else 0
      let opt := solve && flag 0 && !singular && !ovf
      let timeLim := solve && flag 10 && !opt && !singular && !ovf
      let iterLim := solve && !opt && !timeLim && !singular && !ovf
      let reject := solve && warm && flag 6
      let cold := solve && !warm
      let infeas := solve && !held && (sc 9 != 0 || flag 7)
      let hardRelax := solve && !held && flag 7
      let st := wd (2 * b2n opt + 4 * b2n iterLim + 8 * b2n timeLim + 16 * b2n cold + 32 * b2n singular + 64 * b2n ovf
        + 128 * b2n infeas + 256 * b2n hardRelax + 512 * b2n (decide (0 < regs_)) + 1024 * b2n held + 2048 * b2n (range && !idle)
        + 4096 * b2n (!idle && headOk && !rangeHold && !entry) + 8192 * b2n idle + 16384 * b2n (!partnerOk) + 32768 * b2n plantBad
        + 65536 * b2n stale + 131072 * b2n oldModel + 262144 * b2n (hingeAct && !idle && headOk) + 524288 * b2n reject
        + 1048576 * b2n (!idle && !headOk))
      -- the record (R228)
      let x1 := sol.take n
      let aofs := fun k => ((img (256 + k)).toNat : Int)
      let tmin := sw (rget u.regs Reg.SOL0_TMIN)
      let mid := if held then (upto 92).map (fun k => prev (4 + k))
        else if idle then idleWords prev pw
        else resultWords a aofs tmin prev pw x1
      let rel := if solve && !held then [wd ((sc 8).toNat % 1024 + 0x10000 * ((sc 9).toNat % 1024))] ++ relaxWords relaxed
        else if held then (upto 5).map (fun k => prev (96 + k)) else [0#32] ++ relaxWords []
      let head := [wd (1 + 0x100 * n + 0x10000 * big), st, hash,
        wd (iters + 0x100 * regs_ + 0x10000 * (if solve && !held then min (sc 11).toNat 255 else 0))]
      let rel := if held then [0#32] ++ relaxWords [] else rel
      let body := head ++ mid ++ rel ++ [wd i.fno, a.w 11]
      let out := body ++ [crc32 (wordsBytes body)]
      -- reports
      let w := w.when cold (fun w => (w.evt Pg.SOL0 3).code Pg.SOL0 0x0A10 [])
      let w := w.when reject (·.code Pg.SOL0 0x1A11 [])
      let w := w.when (decide (0 < regs_)) (·.code Pg.SOL0 0x0A12 [wd regs_])
      let w := w.when singular (·.code Pg.SOL0 0x2A13 [])
      let w := w.when ovf (·.code Pg.SOL0 0x2A14 [wi (sc 5)])
      let w := w.when (!idle && !rangeHold && (!headOk || !entry)) (·.code Pg.SOL0 0x2A15 [])
      let w := onsetCode old 7 infeas 0x1A16 w
      let w := w.when (infeas && !bit old 7) (·.evt Pg.SOL0 2)
      let w := onsetCode old 8 hardRelax 0x1A17 w
      let w := onsetCode old 2 iterLim 0x1A18 w
      let w := w.when timeLim (·.code Pg.SOL0 0x2A19 [])
      let w := w.when (iterLim || timeLim) (·.evt Pg.SOL0 4)
      let w := onsetCode old 11 (range && !idle && !rangeHold) 0x1A1A w
      let w := w.when (rangeHold && !idle) (·.code Pg.SOL0 0x2A1B [])
      let w := onsetCode old 14 (!partnerOk) 0x1A1C w
      let w := w.when (!partnerOk) (·.evt Pg.SOL0 7)
      let w := onsetCode old 15 plantBad 0x1A1D w
      let w := onsetCode old 16 stale 0x1A1E w
      let w := onsetCode old 17 oldModel 0x1A1F w
      let w := w.when held (·.evt Pg.SOL0 1)
      -- what the next run starts from
      let d2 : SolData :=
        { store := if idle then none else if held then d.store else some ⟨hash, sol, sets, i.fno⟩
         
          x0 := if held then d.x0 else if idle then [] else x1,
          plant := plantKeep, status := st, heldRun := if held then satInc 16 d.heldRun else 0 }
      let it := rget u.regs Reg.SOL0_ITER
      let cnt := fun (c : Bool) (r : Nat) (x : RMap) => if c then rmod x r incW else x
      let w := w.map (fun u =>
        let r := rsets u.regs [(Reg.SOL0_STAT, st), (Reg.SOL0_HASH, hash), (Reg.SOL0_RUN, wd (i.free.toNat % 0x100000)),
          (Reg.SOL0_ITER, wd (iters + 0x100 * max (bits it 15 8) iters + 0x10000 * regs_)),
          (Reg.SOL0_HELD_RUN, wd d2.heldRun), (Reg.SOL0_RELAX_SET, wordAt rel 0)]
        let r := cnt held Reg.SOL0_CNT_HELD (cnt infeas Reg.SOL0_CNT_INFEAS (cnt cold Reg.SOL0_CNT_COLD (cnt (!partnerOk) Reg.SOL1_CNT_SOLO r)))
        { u with regs := r, work := some d2, cold := false })
      let w := w.when (!held && !idle) (·.heal warmAddr 1)
      R.good (w.store Pg.SOL0 i.dst (wordsBytes out))
where
  /-- A Bool as a word. -/
  b2w (b : Bool) : Word := if b then 1#32 else 0#32

/-- The partner's ALLOCATE (R214, R215): nothing is written. Log entry 49 (DEDUCED). -/
def Sol.partner (i : SpanIn) (u : Sol) : R Sol :=
  R.good (W.of { u with regs := rsets u.regs [(Reg.SOL1_STAT, wd (1 + 4 * rfld u.regs Reg.SOL1_STAT 2 2)), (Reg.SOL1_RUN, wd (i.free.toNat % 0x100000))] })

/-- The publication of a lead's ALLOCATE. -/
def Sol.publish (u : Sol) : Sol :=
  match u.work with | some d => { u with data := d, work := none } | none => u

/-- A missed lead (R225): the result held, the store as it was. Log entry 33 (DEDUCED). -/
def Sol.miss (u : Sol) : W Sol :=
  (W.of { u with work := none, regs := rmod u.regs Reg.SOL0_STAT (fun x => putBit x 0 true) }).evt Pg.SOL0 0

/-- A missed partner. -/
def Sol.partnerMiss (u : Sol) : W Sol := W.of { u with regs := rmod u.regs Reg.SOL1_STAT (fun x => putBit x 1 true) }

/-- The checks of R230 on leaving CONFIG. Log entry 92 (DEDUCED). -/
def Sol.exitOk (m : Mem) (feat4 feat5 : Bool) (u : Sol) : Bool :=
  let reg := rget u.regs Reg.SOL0_REG
  (imgValidate feat4 (solImage m u.active)).isNone
    && (!rbit u.regs Reg.SOL0_PLANT_BLK 31 || feat5)
    && decide (rget u.regs Reg.SOL0_PIVOT ≠ 0#32)
    && (!rbit u.regs Reg.SOL0_CTRL 0 || decide (1 ≤ bits reg 27 24))
    && decide (rfld u.regs Reg.SOL0_GUARD 15 0 ≤ 1000)

/-- The exit from CONFIG: the active image is in force. -/
def Sol.start (m : Mem) (u : Sol) : Sol := Sol.showImage m { (u.verdict none) with work := none, valid := true }

end Sys2Proof.Machine
end

