-- ==== Sys2Proof/Machine/Time.lean ====
section
/-! DEFINITION. TIM (R287–R293): source selection, steering, steps, time matches and captures. -/

namespace Sys2Proof.Machine

/-- A cell changed. -/
def Tim.mod (u : Tim) (k : Nat) (f : Word → Word) : Tim := { u with regs := rmod u.regs k f }

/-- The primary and the alternate source of TIM_SRC. -/
def Tim.primary (u : Tim) : Nat := rfld u.regs Reg.TIM_SRC 1 0
/-- The alternate source of TIM_SRC. -/
def Tim.alternate (u : Tim) : Nat := rfld u.regs Reg.TIM_SRC 3 2

/-- The selected source: SEL of TIM_STAT. -/
def Tim.selected (u : Tim) : Nat := rfld u.regs Reg.TIM_STAT 1 0

/-- Whether a source has set module time: SET of TIM_STAT. -/
def Tim.isSet (u : Tim) : Bool := rbit u.regs Reg.TIM_STAT 6

/-- TIME_OK (R291): a source is selected and the last four offsets lie within TIM_OK_LIM. -/
def Tim.timeOk (u : Tim) : Bool :=
  decide (u.selected ≠ 0) && decide (4 ≤ u.offsets.length)
  && (u.offsets.take 4).all (fun e => decide (e.natAbs ≤ rfld u.regs Reg.TIM_OK_LIM 15 0))

/-- The registers that show TIM's state brought up to date (R305). -/
def Tim.refresh (u : Tim) : Tim :=
  let stat := fun (w : Word) =>
    putBits (putBit (putBit (putBit w 3 u.timeOk) 4 (decide (u.slew ≠ 0))) 5 u.pend.isSome) 11 8 (min u.confirms 15)
  { u with
    regs := rset64 (rset64 (rsets (rmod u.regs Reg.TIM_STAT stat)
      [(Reg.TIM_RATE, wi (u.freq + u.slew)), (Reg.TIM_FREQ, wi u.freq)]) Reg.TIM_OFFSET_L Reg.TIM_OFFSET_H u.offset)
      Reg.TIM_ANCHOR_L Reg.TIM_ANCHOR_H u.anchor }

/-! ## Sources (R290) -/

/-- The source to select: the primary while valid, but while the alternate is selected only after 10 s without a break;
else the alternate while valid; else none. -/
def Tim.choose (u : Tim) : Nat :=
  let ok := fun (c : Nat) => c != 0 && u.valid.contains c
  let p := u.primary
  let a := u.alternate
  let since := match u.primSince with | some t => decide (t + 10000000000 ≤ u.raw) | none => false
  let held := u.selected == a && ok a && a != p && !since
  if ok p && !held then p else if ok a then a else 0

/-- The selection made anew (R290). Log entry 59 (DEDUCED). -/
def Tim.reselect (w : W Tim) : W Tim :=
  let u := w.u
  let c := u.choose
  if c = u.selected then w.map Tim.refresh
  else
    let w := w.map (fun u => u.mod Reg.TIM_STAT (fun x => putBits x 1 0 c))
    let w := (w.evt Pg.TIM 0).code Pg.TIM 0x0D10 [wd c]
    let holdover := rbit u.regs Reg.TIM_STAT 2
    let w :=
      if c = 0 then
        let w := w.map (fun u => u.setRate u.freq 0)
        w.when u.isSet (fun w => ((w.map (fun u => u.mod Reg.TIM_STAT (fun x => putBit x 2 true))).evt Pg.TIM 1).code Pg.TIM 0x1D11 [])
      else w.when holdover (fun w =>
        ((w.map (fun u => u.mod Reg.TIM_STAT (fun x => putBit x 2 false))).evt Pg.TIM 1).code Pg.TIM 0x0D12 [])
    w.map Tim.refresh

/-- A source valid or not from now on. -/
def Tim.setValid (c : Nat) (ok : Bool) (u : Tim) : Tim :=
  let was := u.valid.contains c
  { u with
    valid := if ok then (if was then u.valid else c :: u.valid) else u.valid.filter (· != c)
    primSince := if c = u.primary then (if ok then (if was then u.primSince else some u.raw) else none) else u.primSince }

/-- A source stops being valid (R290). -/
def Tim.lapse (c : Nat) (u : Tim) : W Tim := Tim.reselect (W.of (u.setValid c false))

/-! ## Steering and steps (R291, R292) -/

/-- SLEW_MAX in units of 2^−40, rounded to nearest (R288, R291). -/
def Tim.slewMax (u : Tim) : Int := roundDivT ((rfld u.regs Reg.TIM_SERVO 7 0 : Nat) * 1099511627776) 1000000
where
  /-- Division rounded to nearest. -/
  roundDivT (a : Int) (b : Int) : Int := Int.fdiv (2 * a + b) (2 * b)

/-- TC in seconds. -/
def Tim.tc (u : Tim) : Nat := max 1 (rfld u.regs Reg.TIM_SERVO 15 8)

/-- SLEW for an offset (R291). Log entry 59 (DEDUCED). -/
def Tim.slewFor (u : Tim) (e : Int) : Int :=
  if 10000 < e then - u.slewMax
  else if e < -10000 then u.slewMax
  else clampI (- u.slewMax) u.slewMax (- Tim.slewMax.roundDivT (e * 1099511627776) ((u.tc : Int) * 1000000000))

/-- FREQ limited to ±50 ppm (R288). -/
def freqLimit (f : Int) : Int := clampI (-54975581) 54975581 f

/-- An offset within 1 ms slewed (R291), which cancels a step that waits (R292). Log entry 58 (DESIGN CHOICE). -/
def Tim.slewBy (e : Int) (w : W Tim) : W Tim :=
  let w := w.when w.u.pend.isSome (fun w => (w.map (fun u => { u with pend := none })).code Pg.TIM 0x1D14 [])
  w.map (fun u =>
    let t := u.time
    let freq := match u.lastE with
      | some l => freqLimit (Config.freqServo u.freq u.slew l.2 e (t - l.1) u.tc)
      | none => u.freq
    let v := u.setRate freq (u.slewFor e)
    { v.mod Reg.TIM_STAT (fun x => putBit x 6 true) with confirms := 0, lastE := some (t, e) })

/-- The amount of a step: −e rounded to whole µs, halves away from zero (R292). -/
def stepAmount (e : Int) : Int :=
  let q : Int := ((e.natAbs + 500) / 1000 * 1000 : Nat)
  if 0 < e then - q else q

/-- Comparators whose pending target lies in the past: they fire late (R293). -/
def Tim.overdue (u : Tim) : List Nat := (u.armed.filter (fun c => decide (c.2 ≤ u.time))).map (·.1)

/-- LATE set in the comparators of a list, with its event and code (R293). -/
def Tim.lateAll (ns : List Nat) (w : W Tim) : W Tim :=
  let w := w.map (fun u => { u with regs := ns.foldl (fun m n => rmod m (rk Reg.TIM_TM_STAT 0 n) (fun x => putBit x 1 true)) u.regs })
  ns.foldl (fun w n => (w.evt Pg.TIM 3).code Pg.TIM 0x1D15 [wd n]) w

/-- The step made (R292), in fathom fno: TIM_OFFSET takes −e in whole µs, the remainder is slewed, pending targets
stepped over are late. The amount is answered. -/
def Tim.step (fno : Word) (e : Int) (u : Tim) : W Tim × Int :=
  let a := stepAmount e
  let before := u.overdue
  let u1 : Tim := { u with offset := u.offset + a, pend := none, confirms := 0, lastE := none }
  let u2 := u1.setRate u1.freq (u1.slewFor (e + a))
  let u3 : Tim := { u2 with
    regs := rset64 (rmod (rmod (rset (rmod u2.regs Reg.TIM_STAT (fun x => putBit x 6 true)) Reg.TIM_STEP_FNO fno)
      Reg.TIM_STEP_CNT incW) Reg.TIM_EPOCH (fun w => incWrapField w 15 0)) Reg.TIM_STEP_L Reg.TIM_STEP_H a }
  let w := ((W.of u3.refresh).evt Pg.TIM 2).codeRec Pg.TIM 0x1D13 [lo32 a, hi32 a]
  (Tim.lateAll (u3.overdue.filter (fun n => !before.contains n)) w, a)

/-- Whether an offset continues the series of confirmations (R292). -/
def Tim.agrees (u : Tim) (src : Nat) (e : Int) (seq : Option Nat) : Bool :=
  let follows := src != 1 || (match u.confSeq, seq with
    | some a, some b => b == (a + 1) % 65536
    | _, _ => false)
  decide (u.confirms ≠ 0) && decide ((e - u.confE).natAbs ≤ 10000) && follows

/-- An offset above 1 ms (R292): a confirmation; the last one of a series makes the step wait. `done` says that R150 has
confirmed it already; t_c is the preciseOriginTimestamp of a Sync. -/
def Tim.confirm (src : Nat) (e : Int) (seq : Option Nat) (tc : Int) (done : Bool) (w : W Tim) : W Tim :=
  if w.u.pend.isSome then w
  else
    let n := if w.u.agrees src e seq then w.u.confirms + 1 else 1
    let w := w.map (fun u => { u.setRate u.freq 0 with confirms := n, confE := e, confSeq := seq, lastE := none })
    w.when (done || decide (max 1 (rfld w.u.regs Reg.TIM_SERVO 19 16) ≤ n)) (·.map (fun u => { u with
      pend := some ⟨e, if src = 1 then some (tc + e + 20000000) else none⟩ }))

/-- An offset of a source (R290–R292): recorded, and steered by when the source is the selected one. Log entry 59 (DEDUCED). -/
def Tim.offsetFrom (src : Nat) (e : Int) (seq : Option Nat) (tc : Int) (done : Bool) (u : Tim) : W Tim :=
  let w := Tim.reselect (W.of (u.setValid src true))
  if w.u.selected = src then
    let w := w.map (fun u => { u with offsets := (e :: u.offsets).take 4, regs := rset u.regs Reg.TIM_OFS_LAST (satW e) })
    (if e.natAbs ≤ 1000000 then Tim.slewBy e w else Tim.confirm src e seq tc done w).map Tim.refresh
  else w

/-- An edge on PPS IN (R290): valid 1 s ± 100 µs after the last, its offset the distance from the nearest whole second. -/
def Tim.ppsEdge (u : Tim) : W Tim :=
  let t := u.time
  let r := Int.fmod t 1000000000
  let e := if 500000000 < r then r - 1000000000 else r
  let ok := match u.ppsLast with | some p => decide ((t - p - 1000000000).natAbs ≤ 100000) | none => false
  let u := { u with ppsLast := some t }
  if ok then u.offsetFrom 3 e none 0 false else u.lapse 3

/-- Whether the step that waits is due at a fathom that began at startNs of unstepped module time (R292). Log entry 31 (DEDUCED). -/
def Tim.stepDue (startNs : Int) (u : Tim) : Option Int :=
  match u.pend with
  | none => none
  | some p => match p.earliest with
    | none => some p.e
    | some t => if t ≤ startNs then some p.e else none

/-! ## Time matches (R293) -/

/-- ACTION and ARG of a comparator. -/
def Tim.action (u : Tim) (n : Nat) : Nat × Nat :=
  let w := rget u.regs (rk Reg.TIM_TM_CFG 0 n)
  (bits w 3 1, bits w 15 8)

/-- One comparator fires: counted, re-armed when periodic, disarmed otherwise. -/
def Tim.fireOne (u : Tim) (n : Nat) : Tim :=
  let per := (rget u.regs (rk Reg.TIM_TM_PER 0 n)).toNat
  let armed := if per = 0 then u.armed.filter (fun c => c.1 != n)
    else u.armed.map (fun c => if c.1 = n then (n, c.2 + (per : Int)) else c)
  { u with
    armed := armed
    regs := rmod u.regs (rk Reg.TIM_TM_STAT 0 n) (fun x => incWrapField (putBit x 0 (decide (per ≠ 0))) 31 16) }

/-- The start of a TRIG OUT pulse (R293): a firing during a pulse restarts it. -/
def Tim.pulse (u : Tim) : Tim := { u with trigOut := some (u.time + 1000 * (rfld u.regs Reg.TIM_TRIGOUT 15 0 : Nat)) }

/-- Comparators that fire in one cycle: the actions they cause, one each, and TIM after it. Log entry 59 (DEDUCED). -/
def Tim.fire (ns : List Nat) (u : Tim) : Tim × List (Nat × Nat) :=
  let acts := (ns.map u.action).eraseDups
  let v := ns.foldl Tim.fireOne u
  (if acts.any (fun a => a.1 == 0) then v.pulse else v, acts)

/-- Every comparator whose target has been reached fires (R293). -/
def Tim.matchFire (u : Tim) : Tim × List (Nat × Nat) := u.fire u.overdue

/-- Comparator n armed on a target (R293): one already passed fires at once, late. -/
def Tim.armOn (n : Nat) (target : Int) (u : Tim) : W Tim × List (Nat × Nat) :=
  let v : Tim := { u with
    armed := (n, target) :: u.armed.filter (fun c => c.1 != n)
    regs := rmod u.regs (rk Reg.TIM_TM_STAT 0 n) (fun x => putBit (putBit x 0 true) 1 false) }
  if target ≤ u.time then
    let w := Tim.lateAll [n] (W.of v)
    let (x, acts) := w.u.fire [n]
    (w.map (fun _ => x), acts)
  else (W.of v, [])

/-- A write of TIM_TM_CFG (R293): EN 1 arms on TIM_TM_L/H, EN 0 disarms. -/
def Tim.matchArm (n : Nat) (v : Word) (u : Tim) : W Tim × List (Nat × Nat) :=
  let u := { u with regs := rset u.regs (rk Reg.TIM_TM_CFG 0 n) v }
  if bit v 0 then
    u.armOn n (rget64 u.regs (rk Reg.TIM_TM_L 0 n) (rk Reg.TIM_TM_H 0 n) : Nat)
  else
    (W.of { u with
      armed := u.armed.filter (fun c => c.1 != n)
      regs := rmod u.regs (rk Reg.TIM_TM_STAT 0 n) (fun x => putBit x 0 false) }, [])

/-- The end of a TRIG OUT pulse (R293). -/
def Tim.trigOutEnd (u : Tim) : Tim :=
  match u.trigOut with
  | some t => if t ≤ u.time then { u with trigOut := none } else u
  | none => u

/-- A filtered edge on TRIG IN (R293). Of two edges closer than 1 µs the first is stored. Log entry 59 (DEDUCED). -/
def Tim.trigIn (u : Tim) : Tim :=
  let t := u.time
  let far := match u.trigLast with | some p => decide (1000 ≤ t - p) | none => true
  let m := rmod u.regs Reg.TIM_TRIGIN_CNT (· + 1#32)
  if far then { u with trigLast := some t, regs := rset64 m Reg.TIM_TRIGIN_L Reg.TIM_TRIGIN_H t }
  else { u with regs := m }

/-- The check on leaving CONFIG (R308): SLEW_MAX, TC, STEP_N and HOLD_N within their ranges. -/
def Tim.servoOk (u : Tim) : Bool :=
  let w := rget u.regs Reg.TIM_SERVO
  decide (1 ≤ bits w 7 0) && decide (bits w 7 0 ≤ 100) && decide (1 ≤ bits w 15 8) && decide (1 ≤ bits w 19 16)
  && decide (1 ≤ bits w 27 20)

/-- PAGE_STAT[15:8] of TIM (R305). -/
def Tim.pageState (u : Tim) : Nat :=
  if u.pend.isSome then 3 else if !u.isSet then 0 else if rbit u.regs Reg.TIM_STAT 2 then 1 else 2

end Sys2Proof.Machine
end

