-- ==== Sys2Proof/Machine/Live.lean ====
section
/-! DEFINITION. Reading registers (R6–R10, R432–R437): which unit's cells a page reads, the registers that follow from the state
rather than stand in a cell, PAGE_STAT, the snapshot words of each page, and the side effects of a read. -/

namespace Sys2Proof.Machine

/-! ## Pages and units -/

/-- The page whose registers an offset of a page names: the module-wide part of PRG0–PRG2 is one (R258). -/
def homePage (page off : Nat) : Nat := if (page = 9 ∨ page = 0xA) ∧ 0x40 ≤ off ∧ off < 0x100 then Pg.PRG else page

/-- PRGn_BUDGET.RES by core (R244). -/
def State.res (s : State) (core : Nat) : Nat := rfld s.prg.regs (rk Reg.PRG_BUDGET core 0) 6 0

/-- The requesters of classes 1 and 2 that are active (R395). Log entry 74 (DEDUCED). -/
def State.active (s : State) : List Nat :=
  let on := fun (b : Bool) (i : Nat) => if b then [i] else []
  let trk := fun (b : Nat) => rbit s.gns.regs (rk Reg.GNS_CTRL b 0) 2
  ([14, 15, 16].filter (fun i => decide (pwrAmount s.res i ≠ 0)))
    ++ on (rbit s.fus.regs Reg.FUS0_CTRL 0) 17 ++ on (trk 0 || trk 1) 18
    ++ on (rbit s.gns.regs Reg.GNSC_CTRL 1 || rbit s.gns.regs Reg.GNSC_SNAP_STAT 2) 19
    ++ on s.nvs.transfer.isSome 20 ++ on (rbit s.gns.regs Reg.GNSC_SNAP_STAT 1) 21

/-- The cells of the unit a page belongs to. -/
def State.cells (s : State) (page : Nat) : RMap :=
  if page ≤ 1 then s.sup.regs
  else if page = Pg.PWR then (s.pwr.settle s.res s.active).regs
  else if page = Pg.SNAP then s.snap.regs
  else if page = Pg.SEQ then s.seq.regs
  else if page = Pg.TIM then s.tim.regs
  else if page = Pg.NVS then s.nvs.regs
  else if page = Pg.REC then s.log.regs
  else if page ≤ 0xA then s.prg.regs
  else if page ≤ Pg.SFO then s.saf.regs
  else if page = Pg.FQ then s.fq.regs
  else if page = Pg.CHN then s.chn.regs
  else if page ≤ Pg.PRP then s.net.regs
  else if page = Pg.PTP then s.ptp.regs
  else if page ≤ 0x19 then s.can.regs
  else if page = Pg.FLT then s.flt.regs
  else if page = Pg.EST then s.est.regs
  else if page ≤ Pg.FUS1 then s.fus.regs
  else if page ≤ Pg.GNSC then s.gns.regs
  else if page ≤ 0x22 then s.ctl.regs
  else if page ≤ Pg.SOL1 then s.sol.regs
  else if page = Pg.ALC then s.alc.regs
  else if page ≤ 0x31 then s.ser.regs
  else if page ≤ 0x3D then s.fio.regs
  else s.pos.regs

/-- The cells of the unit a page belongs to, replaced. -/
def State.setCells (s : State) (page : Nat) (m : RMap) : State :=
  if page ≤ 1 then { s with sup := { s.sup with regs := m } }
  else if page = Pg.PWR then { s with pwr := { s.pwr with regs := m } }
  else if page = Pg.SNAP then { s with snap := { s.snap with regs := m } }
  else if page = Pg.SEQ then { s with seq := { s.seq with regs := m } }
  else if page = Pg.TIM then { s with tim := { s.tim with regs := m } }
  else if page = Pg.NVS then { s with nvs := { s.nvs with regs := m } }
  else if page = Pg.REC then { s with log := { s.log with regs := m } }
  else if page ≤ 0xA then { s with prg := { s.prg with regs := m } }
  else if page ≤ Pg.SFO then { s with saf := { s.saf with regs := m } }
  else if page = Pg.FQ then { s with fq := { s.fq with regs := m } }
  else if page = Pg.CHN then { s with chn := { s.chn with regs := m } }
  else if page ≤ Pg.PRP then { s with net := { s.net with regs := m } }
  else if page = Pg.PTP then { s with ptp := { s.ptp with regs := m } }
  else if page ≤ 0x19 then { s with can := { s.can with regs := m } }
  else if page = Pg.FLT then { s with flt := { s.flt with regs := m } }
  else if page = Pg.EST then { s with est := { s.est with regs := m } }
  else if page ≤ Pg.FUS1 then { s with fus := { s.fus with regs := m } }
  else if page ≤ Pg.GNSC then { s with gns := { s.gns with regs := m } }
  else if page ≤ 0x22 then { s with ctl := { s.ctl with regs := m } }
  else if page ≤ Pg.SOL1 then { s with sol := { s.sol with regs := m } }
  else if page = Pg.ALC then { s with alc := { s.alc with regs := m } }
  else if page ≤ 0x31 then { s with ser := { s.ser with regs := m } }
  else if page ≤ 0x3D then { s with fio := { s.fio with regs := m } }
  else { s with pos := { s.pos with regs := m } }

/-- The window a windowed register stands at (R440), none past the windows there are: its page's SEL register; SERn_F_CONV takes
SERn_F_SEL and SERn_F_CONV_SEL together. Log entry 82 (DEDUCED). -/
def State.windowOf (s : State) (page : Nat) (r : RegRow) : Option Nat :=
  if r.sel = 0 then some 0
  else
    let v := (rget (s.cells page) (cellKey page r.sel 0)).toNat
    let conv := Reg.SER_F_CONV % 0x400
    if 0x26 ≤ page ∧ page ≤ 0x31 ∧ r.off = conv then
      some (8 * (v % 16) + (rget (s.cells page) (cellKey page (Reg.SER_F_CONV_SEL % 0x400) 0)).toNat % 8)
    else if v < r.cnt then some v else none

/-! ## Registers that follow from the state -/

/-- SUP_STAT (R429). -/
def State.supStat (s : State) : Word :=
  let w := putBits (rget s.sup.regs Reg.SUP_STAT) 2 0 s.mode.code
  putBit (putBit w 3 s.sup.request.isSome) 4 (decide (s.prg.forceCount ≠ 0))

/-- A summary word j of the ID page: bit p mod 32 of page p (R437). -/
def sumWord (j : Nat) (f : Nat → Bool) : Word :=
  wd ((upto 32).foldl (fun a i => if decide (32 * j + i < pageCount) && f (32 * j + i) then a + 2 ^ i else a) 0)

/-- The summary bit of a page (R436). -/
def State.evtBit (s : State) (p : Nat) : Bool := (rget s.hdr (cellKey p 0x10 0) &&& rget s.hdr (cellKey p 0x14 0)) != 0#32
/-- Whether PAGE_ERR.COUNT of a page is not 0 (R437). -/
def State.errBit (s : State) (p : Nat) : Bool := rfld s.hdr (cellKey p 0x18 0) 30 16 != 0

/-- The word of the record window at index k (R406): its byte address and what is read. -/
def State.recAddr (s : State) (k : Nat) : Nat :=
  let c := rget s.log.regs Reg.REC_CURSOR
  if bit c 31 then shelfBase + 64 * bits c 5 0 + 4 * k else ringBase + 64 * bits c 18 0 + 4 * k

/-- Pending actions of an SC register, as its bits (R8). -/
def State.pendingBits (s : State) (reg n w : Nat) : Option Word :=
  let b := fun (l : List (Bool × Nat)) => some (wd (l.foldl (fun a x => if x.1 then a + 2 ^ x.2 else a) 0))
  if reg = Reg.SUP_CTRL then b [(s.sup.request == some .goReady, 0), (s.sup.request == some .goRun, 1), (s.sup.request == some .stop, 2),
    (s.sup.request == some .goService, 4)]
  else if reg = Reg.SEQ_SWAP then b [(s.seq.swapPending, 0)]
  else if reg = Reg.PRG_CHG_CTRL then b [(s.prg.chgState == 1, 0), (s.prg.chgState == 3, 1)]
  else if reg = Reg.PRG_T_CTRL then b [((s.prg.task w).stopReq, 0), ((s.prg.task w).startReq, 1)]
  else if reg = Reg.PRG_RET_CTRL then b [(s.prg.saving.isSome, 0)]
  else if reg = Reg.EST_R_CTRL then b [(s.est.admits.contains w, 0), (s.est.withdraw.contains w, 1)]
  else if reg = Reg.FUS1_SEED then b [(s.fus.seed, 0)]
  else if reg = Reg.GNSC_SNAP_CTRL then b [(rbit s.gns.regs Reg.GNSC_SNAP_STAT 0, 0), (rbit s.gns.regs Reg.GNSC_SNAP_STAT 1, 1),
    (rbit s.gns.regs Reg.GNSC_SNAP_STAT 2, 2)]
  else if reg = Reg.CTL_I_SWAP then b [(s.ctl.swapPending n (rfld s.ctl.regs (rk Reg.CTL_SEL n 0) 8 0), 0)]
  else if reg = Reg.SOL0_IMG_SWAP then b [(s.sol.pend, 0)]
  else if reg = Reg.SOL0_WARM_CTRL then b [(s.sol.cold, 0)]
  else if reg = Reg.ALC_SWAP then b [(s.alc.pend, 0)]
  else if reg = Reg.CHN_OP_GO then b [(s.chn.opBusy, 0)]
  else if reg = Reg.SNAP_TRIG ∨ reg = Reg.REC_CTRL ∨ reg = Reg.SAFC_P_LOAD ∨ reg = Reg.CHN_CTRL ∨ reg = Reg.POS_REQ then some 0#32
  else none

/-- Registers whose value is read from memory at the window position (R51, R71, R175, R194, R222, R232, R379, R406).
Log entry 3 (DESIGN CHOICE). -/
def State.windowWord (s : State) (reg n : Nat) : Option Word :=
  if Reg.SEQ_SPAN_W0 ≤ reg ∧ reg ≤ Reg.SEQ_SPAN_W7 then
    let bank := if rbit s.seq.regs Reg.SEQ_SPAN_IDX 16 then s.seq.bank else !s.seq.bank
    some (s.mem.readWord (spanAddr bank (rfld s.seq.regs Reg.SEQ_SPAN_IDX 9 0) + (reg - Reg.SEQ_SPAN_W0)))
  else if reg = Reg.FLT_COEF_DATA then some s.flt.coefRead
  else if reg = Reg.CTL_I_DATA then
    let i := rfld s.ctl.regs (rk Reg.CTL_SEL n 0) 8 0
    let win := rget s.ctl.regs (rk Reg.CTL_I_WIN n i)
    some (instWord s.mem n i (bits win 6 3) (bits win 2 0))
  else if reg = Reg.ALC_P_DATA then some (s.alc.dataRead s.mem)
  else if reg = Reg.SOL0_IMG_DATA then some (s.sol.imgRead s.mem)
  else if reg = Reg.SOL1_MEM_DATA then some (s.sol.memRead s.mem (s.mode == .run))
  else if reg = Reg.SAFC_P_DATA then some (sget (fun _ => (0 : Word)) s.saf.staging (rfld s.saf.regs Reg.SAFC_P_WIN 8 0))
  else if Reg.REC_WIN0 ≤ reg ∧ reg ≤ Reg.REC_WIN15 then
    let a := s.recAddr ((reg - Reg.REC_WIN0) / 4)
    some (if s.mem.isBad a then 0#32 else s.mem.readWord a)
  else none

/-- Registers that follow from the state (R48, R53, R62, R287, R398, R404, R429, R430, R437), and those that show a measurement (log
entry 84). Log entry 3 (DESIGN CHOICE). -/
def State.derived (s : State) (reg n w : Nat) : Option Word :=
  if reg = Reg.SUP_STAT then some s.supStat
  else if reg = Reg.SUP_BOOT then some s.nvs.boot
  else if Reg.EVT_SUM0 ≤ reg ∧ reg ≤ Reg.EVT_SUM2 then some (sumWord ((reg - Reg.EVT_SUM0) / 4) s.evtBit)
  else if Reg.ERR_SUM0 ≤ reg ∧ reg ≤ Reg.ERR_SUM2 then some (sumWord ((reg - Reg.ERR_SUM0) / 4) s.errBit)
  else if reg = Reg.PWR_F_USE then
    let shares := ((upto 16).filter (fun c => s.fio.mode w c == 5 || s.fio.mode w c == 7)).map (fun c => s.fio.irate w c)
    some (wd (shares.foldl (· + ·) 0 % 256 + 65536 * s.fio.poolUsed w))
  else if reg = Reg.PWR_F_CNT then
    some (wd ((s.fio.group w).granted % 65536 + 65536 * rfld s.fio.regs (rk Reg.FIO_CNT_OVL w 0) 31 16))
  else if reg = Reg.SNAP_SAVE_STAT then some (putBit (rget s.snap.regs Reg.SNAP_SAVE_STAT) 0 (!s.log.saving.isEmpty))
  else if reg = Reg.SEQ_FNO then some (if s.seq.counted then wd s.seq.count else 0#32)
  else if reg = Reg.SEQ_FNO_H then some (wd s.seq.fnoHigh)
  else if reg = Reg.SEQ_TICK then some (if s.counting then wd (s.tick % 65536) else 0#32)
  else if reg = Reg.SEQ_ACT then some (wd (b2n s.seq.bank + 65536 * s.seq.active))
  else if reg = Reg.SEQ_SWAP_STAT then
    some (putBit (putBit (rget s.seq.regs Reg.SEQ_SWAP_STAT) 1 s.seq.swapPending) 31 s.seq.longWait)
  else if reg = Reg.TIM_RAW_L then some (wd s.tim.raw)
  else if reg = Reg.TIM_RAW_H then some (wd s.tim.rawHigh)
  else if reg = Reg.TIM_NOW_L then some (lo32 s.tim.time)
  else if reg = Reg.TIM_NOW_H then some (wd s.tim.nowHigh)
  else if reg = Reg.NVS_STAT then
    some (wd (b2n (s.mode != .off) + (rget s.nvs.regs Reg.NVS_STAT).toNat / 2 % 2 * 2 + 4 * b2n s.prg.saving.isSome
      + 8 * b2n s.nvs.transfer.isSome))
  else if reg = Reg.NVS_R_BASE then some (wd (nvsBase w))
  else if reg = Reg.NVS_R_SIZE then some (wd (nvsSize w))
  else if reg = Reg.NVS_R_STAT then
    let image := if rbit s.sup.regs Reg.SUP_STAT 7 then some (1 + b2n (rbit s.sup.regs Reg.SUP_STAT 6)) else none
    let lock := nvsClosed w || !nvsAdmits s.mode image w || ((w == 3 || w == 4) && cfgNewer s.mem == some w)
    some (putBit (putBit (rget s.nvs.regs (rk Reg.NVS_R_STAT 0 w)) 0 (s.nvs.sound.getLsbD w)) 1 lock)
  else if reg = Reg.REC_OPTIME_L then some (wd s.log.optime)
  else if reg = Reg.REC_OPTIME_H then some (wd (s.log.optime / 4294967296))
  else if reg = Reg.REC_PCYC then some (wd s.log.pcyc)
  else if reg = Reg.PRG_REP_ID then some (s.prg.reportEntry (rfld s.prg.regs Reg.PRG_REP_IDX 15 0)).2
  else if reg = Reg.PRG_REP_KIND then some (wd (s.prg.reportEntry (rfld s.prg.regs Reg.PRG_REP_IDX 15 0)).1)
  else if reg = Reg.FQ_DEPTH_SUM then some (wd s.fq.depthSum)
  else if reg = Reg.PRP_SVC_STAT then some (wd (s.net.sessions.length + 16 * keySlots s.nvs.keys))
  else if reg = Reg.SOL0_WARM_STAT then
    some (match s.sol.data.store with
      | some x => wd (1 + 65536 * min (s.seq.count - x.fno) 65535)
      | none => 0#32)
  else if reg = Reg.EST_CTRL then some (putBit (rget s.est.regs Reg.EST_CTRL) 0 s.est.reinit)
  else if reg = Reg.CAN_CTRL then some (putBit (rget s.can.regs (rk Reg.CAN_CTRL n 0)) 2 (s.can.bus n).recover)
  else if reg = Reg.POS_STAT then some (s.pos.status n s.now)
  else if reg = Reg.GNS_LEVEL ∨ reg = Reg.PRG_LOAD ∨ reg = Reg.CAN_LOAD then some (Config.measured (rk reg n 0) s.now &&& 0xFFFF#32)
  else if reg = Reg.SER_STAT then some (putBit (rget s.ser.regs (rk reg n 0)) 0 (bit (Config.measured (rk reg n 0) s.now) 0))
  else if reg = Reg.ETH_ERR_CNT then some (putBits (rget s.net.regs (rk reg n 0)) 15 0 (bits (Config.measured (rk reg n 0) s.now) 15 0))
  else none

/-- The register of a layout: its offset from 0x4000_0000 in the first page that shares it, and the instance of a page. -/
def regOf (page off : Nat) : Nat × Nat :=
  match layoutOf page with
  | some l => (0x400 * l.page0 + off, page - l.page0)
  | none => (0x400 * page + off, 0)

/-- The value of a listed register at its window, without the copy of R433. Log entry 82 (DEDUCED). -/
def State.regWord (s : State) (page off : Nat) (r : RegRow) : Word :=
  match s.windowOf page r with
  | none => 0#32
  | some w =>
    let x := regOf page off
    match s.pendingBits x.1 x.2 w with
    | some v => v
    | none => match s.windowWord x.1 x.2 with
      | some v => v
      | none => match s.derived x.1 x.2 w with
        | some v => v
        | none => rget (s.cells page) (cellKey page off w)

/-! ## PAGE_STAT (R432) -/

/-- The STATE code of a page, per chapter. -/
def State.pageCode (s : State) (page : Nat) : Nat :=
  let run := decide (s.mode = .run)
  let any := fun (unit op : Nat) => s.seq.runs.any (fun r => r.span.unit == unit && r.span.opcode == op && r.doneAt.isNone)
  if page ≤ 1 then s.mode.code
  else if page = Pg.PWR then (s.pwr.settle s.res s.active).pageState
  else if page = Pg.SNAP then s.snap.pageState (!s.log.saving.isEmpty)
  else if page = Pg.SEQ then s.seq.pageState s.counting run
  else if page = Pg.TIM then s.tim.pageState
  else if page = Pg.NVS then s.nvs.pageState (s.mode != .off)
  else if page = Pg.REC then s.log.pageState
  else if page ≤ 0xA then (if s.prg.image.isNone then 0 else if !run then 1 else if s.prg.chgState = 3 then 3 else 2)
  else if page = Pg.SAFC then rfld s.saf.regs Reg.SAFC_STAT 2 0
  else if page = Pg.SAFH then rfld s.saf.regs Reg.SAFH_STAT 2 0
  else if page = Pg.SFO then s.saf.sfoState
  else if page = Pg.FQ then b2n s.fq.anyEnabled
  else if page = Pg.CHN then s.chn.role
  else if page ≤ 0x13 then rfld s.net.regs (rk Reg.ETH_STAT (page - Pg.ETH) 0) 2 1
  else if page = Pg.PRP then rfld s.net.regs Reg.PRP_LAN_STAT 1 0
  else if page = Pg.PTP then rfld s.ptp.regs Reg.PTP_STAT 3 3
  else if page ≤ 0x19 then s.can.state (page - Pg.CAN)
  else if page = Pg.FLT then (if s.flt.enabled.isEmpty then 0 else if any 0x14 1 then 2 else 1)
  else if page = Pg.EST then (if !s.est.ran then 0 else rfld s.est.regs Reg.EST_STAT 2 0 + 1)
  else if page = Pg.FUS0 then (if any 0x15 1 then 2 else b2n (rbit s.fus.regs Reg.FUS0_CTRL 0))
  else if page = Pg.FUS1 then rfld s.fus.regs Reg.FUS1_REG_STAT 1 0
  else if page ≤ 0x1F then
    (let b := page - Pg.GNS
     if !rbit s.gns.regs (rk Reg.GNS_CTRL b 0) 1 then 0 else if (s.gns.tracking b).isEmpty then 1 else 2)
  else if page = Pg.GNSC then
    (let st := rget s.gns.regs Reg.GNSC_STAT
     if !rbit s.gns.regs Reg.GNSC_CTRL 0 then 0 else if bit st 5 then 3 else if bit st 4 then 2 else 1)
  else if page ≤ 0x22 then
    (let n := page - Pg.CTL
     if (s.ctl.enabled s.mem n).isEmpty then 0 else if any (0x12 + n) 1 then 2 else 1)
  else if page = Pg.SOL0 then (if !s.sol.valid then 0 else if any 0x10 2 then 2 else 1)
  else if page = Pg.SOL1 then (if any 0x11 2 then 3 else if any 0x11 1 then 2 else 1)
  else if page = Pg.ALC then (if !s.alc.valid then 0 else if any 0x17 1 then 2 else 1)
  else if page ≤ 0x31 then b2n (rfld s.ser.regs (rk Reg.SER_CFG (page - Pg.SER) 0) 1 0 != 0)
  else if page ≤ 0x3D then
    (let st := rget s.fio.regs (rk Reg.FIO_STAT (page - Pg.FIO) 0)
     if bit st 5 then 0 else if bit st 2 then 4 else if bit st 1 then 3 else if bit st 0 then 2 else 1)
  else s.pos.mode (page - Pg.POS)

/-- FAULT as the chapter of the page states it (R320, R388). -/
def State.pageFault (s : State) (page : Nat) : Bool :=
  if page = Pg.SAFC then rfld s.saf.regs Reg.SAFC_STAT 31 16 != 0
  else if 0x16 ≤ page ∧ page ≤ 0x19 then s.can.state (page - Pg.CAN) == 4
  else false

/-- PAGE_STAT (R432). -/
def State.pageStat (s : State) (page : Nat) : Word :=
  let cls := rfld s.hdr (cellKey page 0x18 0) 15 12
  wd (b2n (hdrEnabled s.hdr page) + 2 * b2n (s.pageFault page || decide (cls = 3 ∨ cls = 4))
    + 8 * b2n (rget s.hdr (cellKey page 0x20 0) != 0#32) + 256 * (s.pageCode page % 256))

/-! ## Reading a register -/

/-- A register that only reads: no field of another access code. -/
def RegRow.readOnly (r : RegRow) : Bool := r.rw == 0 && r.rwl == 0 && r.w1c == 0 && r.wo == 0 && r.sc == 0

/-- Whether FREEZE holds the read image of a register of a page (R433): PAGE_STAT, and RO registers that are not windowed.
Log entry 83 (DEDUCED). -/
def frozenReg (page off : Nat) : Bool :=
  off == 0xC || (decide (0x40 ≤ off) && !(page == Pg.REC && decide (0x60 ≤ off) && decide (off < 0xA0)) &&
    (match rowOf page off with | some r => r.readOnly && r.sel == 0 | none => false))

/-- The feature whose function a register serves alone (R2 and the openings of the chapters); none for the others. Log entry 12 (DEDUCED). -/
def featureOf (page off : Nat) : Option Nat :=
  if off < 0x40 then none
  else if page = Pg.FUS0 then some 7
  else if page = Pg.FUS1 then some (if 0x68 ≤ off then 8 else 7)
  else if Pg.SAFC ≤ page ∧ page ≤ Pg.SFO then some 12
  else if page = Pg.PRG ∧ 0x4C ≤ off ∧ off ≤ 0x70 then some 11
  else if page = Pg.GNSC ∧ 0x5C ≤ off ∧ off ≤ 0x64 then some 9
  else if page = Pg.PRP ∧ (off = 0x40 ∨ off = 0x58) then some 13
  else if page = Pg.SNAP ∧ off = 0x64 then some 16
  else if page = Pg.SOL0 ∧ (off = 0x44 ∨ off = 0x48) then some 5
  else if page = Pg.ALC ∧ (off = 0x68 ∨ off = 0x6C) then some 6
  else none

/-- Whether a register belongs to a function that is absent (R2): it reads as its reset value. Log entry 12 (DEDUCED). -/
def State.hides (s : State) (page off : Nat) : Bool :=
  match featureOf page off with
  | some k => !s.feature k
  | none => false

/-- The value a register holds now, whether its function is present or not. -/
def State.heldReg (s : State) (page off : Nat) : Word :=
  if off = 0xC then s.pageStat page
  else if off < 0x40 then rget s.hdr (cellKey page off 0)
  else
    let page := homePage page off
    match rowOf page off with
    | some r => if r.wo = 0xFFFFFFFF then 0#32 else s.regWord page off r
    | none => 0#32

/-- The value a register has now: its reset value while its function is absent (R2). -/
def State.liveReg (s : State) (page off : Nat) : Word :=
  let home := homePage page off
  if s.hides home off then regReset (cellKey home off 0) else s.heldReg page off

/-- PAGE_CTRL.FREEZE of a page. -/
def State.freeze (s : State) (page : Nat) : Bool := rbit s.hdr (cellKey page 8 0) 2

/-- What a read of a register returns (R433). -/
def State.peek (s : State) (page off : Nat) : Word :=
  if s.freeze page && frozenReg page off then sget (fun _ => (0 : Word)) s.frozen (cellKey page off 0) else s.liveReg page off

/-- The copy that a write of 1 to FREEZE takes (R433). Log entry 83 (DEDUCED). -/
def State.takeCopy (s : State) (page : Nat) : State :=
  let offs := 0xC :: (match layoutOf page with | some l => (l.rows.map (·.off)).filter (frozenReg page) | none => [])
  { s with frozen := offs.foldl (fun m o => sset (fun _ => (0 : Word)) m (cellKey page o 0) (s.liveReg page o)) s.frozen }

/-- The state after a read of a register (R39, R62, R287, R406): the high words it latches, RD_POISON. -/
def State.readEffect (s : State) (page off : Nat) : State :=
  let reg := 0x400 * page + off
  if reg = Reg.SEQ_FNO then { s with seq := { s.seq with fnoHigh := s.seq.count / 4294967296 % 4294967296 } }
  else if reg = Reg.TIM_RAW_L then { s with tim := { s.tim with rawHigh := s.tim.raw / 4294967296 } }
  else if reg = Reg.TIM_NOW_L then { s with tim := { s.tim with nowHigh := (hi32 s.tim.time).toNat } }
  else if Reg.REC_WIN0 ≤ reg ∧ reg ≤ Reg.REC_WIN15 then
    { s with log := s.log.setFlag 4 (s.mem.isBad (s.recAddr ((reg - Reg.REC_WIN0) / 4))) }
  else s

/-! ## Snapshot words (R410 and the header section of each chapter) -/

/-- A named register as a page's snapshot latches it. -/
def State.snapReg (s : State) (n reg : Nat) : Word := s.liveReg (reg / 0x400 + n) (reg % 0x400)

/-- SNAP_0–SNAP_4 of a page. -/
def State.snapWords (s : State) (page : Nat) : List Word :=
  let g := fun (n : Nat) (l : List Nat) => l.map (s.snapReg n)
  if page = Pg.ID then g 0 [Reg.DEV_REV, Reg.FEAT_STATUS, Reg.EVT_SUM0, Reg.EVT_SUM1, Reg.EVT_SUM2]
  else if page = Pg.SUP then g 0 [Reg.SUP_STAT, Reg.SUP_REFUSE, Reg.SUP_CFG_SEQ]
  else if page = Pg.PWR then g 0 [Reg.PWR_VIN, Reg.PWR_CEIL, Reg.PWR_USED, Reg.PWR_CUT_SET, Reg.PWR_STAT]
  else if page = Pg.SNAP then g 0 [Reg.SNAP_CFG, Reg.SNAP_LAST_SRC, Reg.SNAP_MISSED, Reg.SNAP_REFUSED, Reg.SNAP_SAVE_STAT]
  else if page = Pg.SEQ then g 0 [Reg.SEQ_FNO, Reg.SEQ_TICK, Reg.SEQ_MISS_TOTAL, Reg.SEQ_ACT, Reg.SEQ_SWAP_STAT]
  else if page = Pg.TIM then g 0 [Reg.TIM_STAT, Reg.TIM_EPOCH, Reg.TIM_OFS_LAST, Reg.TIM_RATE, Reg.TIM_STEP_CNT]
  else if page = Pg.NVS then g 0 [Reg.NVS_STAT]
  else if page = Pg.REC then g 0 [Reg.REC_STAT, Reg.REC_SEQ_NEXT, Reg.REC_LOST, Reg.REC_OPTIME_L, Reg.REC_PCYC]
  else if page ≤ 0xA then
    let n := page - Pg.PRG
    [s.snapReg 0 Reg.PRG_IMG_ID, s.snapReg n Reg.PRG_STAT, s.snapReg n Reg.PRG_LOAD, s.snapReg 0 Reg.PRG_FRC_CNT,
     s.snapReg 0 Reg.PRG_CHG_STAT]
  else if page = Pg.SAFC then g 0 [Reg.SAFC_STAT, Reg.SAFC_IN, Reg.SAFC_ACTIVE, Reg.SAFC_CONF_STAT, Reg.SAFC_CYCLE]
  else if page = Pg.SAFH then g 0 [Reg.SAFH_STAT, Reg.SAFH_IN, Reg.SAFH_PERMIT, Reg.SAFH_XCMP]
  else if page = Pg.SFO then
    let bad := fun (k : Nat) => let o := s.saf.out k; o.hsOn || o.hsOff || o.lsOn || o.lsOff || o.ovl || o.uv
    g 0 [Reg.SFO_REQ, Reg.SFO_STAT, Reg.SFO_SUPPLY] ++ [wd (flagWord 8 bad)]
  else if page = Pg.FQ then
    let sum := (upto 9).foldl (fun a i => a + (rget s.fq.regs (rk Reg.FQ_CODE_UNCORR 0 i)).toNat) 0
    g 0 [Reg.FQ_NOTICE0, Reg.FQ_NOTICE1, Reg.FQ_OVF0, Reg.FQ_OVF1] ++ [wd (min sum 0xFFFFFFFF)]
  else if page = Pg.CHN then g 0 [Reg.CHN_STATE, Reg.CHN_STONE, Reg.CHN_TOP, Reg.CHN_ROUND, Reg.CHN_GAP]
  else if page ≤ 0x13 then g (page - Pg.ETH) [Reg.ETH_STAT, Reg.ETH_ERR_CNT, Reg.ETH_LINK_CNT]
  else if page = Pg.PRP then g 0 [Reg.PRP_LAN_STAT, Reg.PRP_CNT_DUP, Reg.PRP_CNT_ERR, Reg.PRP_SVC_STAT]
  else if page = Pg.PTP then g 0 [Reg.PTP_STAT, Reg.PTP_OFS, Reg.PTP_MPD, Reg.PTP_TC_CNT]
  else if page ≤ 0x19 then g (page - Pg.CAN) [Reg.CAN_STAT, Reg.CAN_ERRC, Reg.CAN_SS_STAT, Reg.CAN_LOAD, Reg.CAN_CNT_ERR]
  else if page = Pg.FLT then g 0 [Reg.FLT_SLOTS, Reg.FLT_RUN, Reg.FLT_CNT_SAT, Reg.FLT_CNT_DROP, Reg.FLT_CNT_RESTART]
  else if page = Pg.EST then g 0 [Reg.EST_STAT, Reg.EST_IN_FNO, Reg.EST_DIGEST, Reg.EST_CNT_NUM] ++ [s.est.usedMap]
  else if page = Pg.FUS0 then g 0 [Reg.FUS0_WIN_PTS, Reg.FUS0_CNT_BAD, Reg.FUS0_GRID_FNO, Reg.FUS0_RUN, Reg.FUS0_UPD_CNT]
  else if page = Pg.FUS1 then g 0 [Reg.FUS1_REG_STAT, Reg.FUS1_TRK_STAT, Reg.FUS1_AUC_STAT, Reg.FUS1_TRK_DROP, Reg.FUS1_TRK_NEXTID]
  else if page ≤ 0x1F then
    let b := page - Pg.GNS
    let lost := (upto 24).foldl (fun a c => a + rfld s.gns.regs (rk Reg.GNS_CH_DUMPS b c) 31 16) 0
    g b [Reg.GNS_STAT, Reg.GNS_LEVEL] ++ [wd (flagWord 24 (fun c => (s.gns.tracking b).contains c)), wd lost] ++ g b [Reg.GNS_ANT_I]
  else if page = Pg.GNSC then g 0 [Reg.GNSC_STAT, Reg.GNSC_TOFS, Reg.GNSC_HOLD_UNC, Reg.GNSC_HDG_STAT, Reg.GNSC_SV]
  else if page ≤ 0x22 then
    let n := page - Pg.CTL
    g n [Reg.CTL_STAT, Reg.CTL_RUN, Reg.CTL_CNT_SAT, Reg.CTL_CNT_SWAP] ++ [wd (s.ctl.heldCount n)]
  else if page = Pg.SOL0 then g 0 [Reg.SOL0_STAT, Reg.SOL0_ITER, Reg.SOL0_HASH, Reg.SOL0_RUN, Reg.SOL0_HELD_RUN]
  else if page = Pg.SOL1 then g 0 [Reg.SOL1_STAT, Reg.SOL1_RUN, Reg.SOL1_CNT_SOLO]
  else if page = Pg.ALC then g 0 [Reg.ALC_STAT, Reg.ALC_HASH, Reg.ALC_FROZEN, Reg.ALC_LOAD, Reg.ALC_RANGE_CNT]
  else if page ≤ 0x31 then g (page - Pg.SER) [Reg.SER_STAT, Reg.SER_CNT_RX, Reg.SER_CNT_ERR, Reg.SER_LAST_TS_L, Reg.SER_CNT_NOMATCH]
  else if page ≤ 0x3D then g (page - Pg.FIO) [Reg.FIO_IN, Reg.FIO_OUT_RB, Reg.FIO_FAULT, Reg.FIO_STAT, Reg.FIO_LPLUS]
  else g (page - Pg.POS) [Reg.POS_COUNT, Reg.POS_SPEED, Reg.POS_STAT, Reg.POS_FAULT, Reg.POS_SSI_POS]

end Sys2Proof.Machine
end

