-- ==== Sys2Proof/Machine/Commit.lean ====
section
/-! DEFINITION. What a unit's work leaves in the rest of the module: blocks read and stored (R20–R24), samples, packets, event
triggers, codes in PAGE_ERR and in REC (R402, R434), event flags (R436), snapshots (R409–R413) and what is sent. -/

namespace Sys2Proof.Machine

/-! ## Blocks (R20–R24) -/

/-- TIM_EPOCH (R289). -/
def State.epoch (s : State) : Nat := rfld s.tim.regs Reg.TIM_EPOCH 15 0

/-- A block read by a page's unit: the counters of R21, the code, and the write-back of R22. Log entry 18 (DEDUCED). -/
def State.readBlock (page a : Nat) (s : State) : State × List Code :=
  let o := (s.mem.outcome a).1
  match o.code with
  | none => (s, [])
  | some c =>
    let fq := s.fq.countRead a o
    let s : State := if s.fq.writesBack a o then
        { s with fq := fq.countBack a, mem := { s.mem with flips := setFlip s.mem.flips (a / 32) 0 } }
      else { s with fq := fq }
    (s, [⟨page, c, [], false⟩])

/-- Blocks read, in order. Log entry 18 (DEDUCED). -/
def State.readBlocks : List (Nat × Nat) → State → State × List Code
  | [], s => (s, [])
  | (p, a) :: l, s =>
    let x := s.readBlock p a
    let y := x.1.readBlocks l
    (y.1, x.2 ++ y.2)

/-- The read of a partial write (R24): its outcome, and code 0x0C7 after it when the block reads poisoned; no write-back. -/
def State.readForStore (page a : Nat) (s : State) : State × List Code :=
  let o := (s.mem.outcome a).1
  match o.code with
  | none => (s, [])
  | some c => ({ s with fq := s.fq.countRead a o }, [⟨page, c, [], false⟩] ++ (if o.isBad then [⟨page, 0x20C7, [], false⟩] else []))

/-- A store into memory (R24). -/
def State.store1 (st : Store) (s : State) : State × List Code :=
  let x := (readsOfStore st).foldl (fun (x : State × List Code) r => let y := x.1.readForStore r.1 r.2; (y.1, x.2 ++ y.2)) (s, [])
  ({ x.1 with mem := x.1.mem.store st, nvs := x.1.nvs.countWrites st }, x.2)

/-- Stores, in order. -/
def State.storeAll : List Store → State → State × List Code
  | [], s => (s, [])
  | st :: l, s =>
    let x := s.store1 st
    let y := x.1.storeAll l
    (y.1, x.2 ++ y.2)

/-- Blocks of a private memory written whole (R24). -/
def State.healAll (l : List Nat) (s : State) : State :=
  { s with mem := { s.mem with flips := l.foldl (fun f a => setFlip f (a / 32) 0) s.mem.flips } }

/-! ## The recorder -/

/-- PAGE_EVT flags set. -/
def State.flags (l : List (Nat × Nat)) (s : State) : State := { s with hdr := l.foldl (fun h e => hdrEvt h e.1 e.2) s.hdr }

/-- REC after a change, with SNAP_SAVE_STAT following its save records (R413). -/
def State.setLog (l : Rec) (s : State) : State :=
  let was := s.log.saving
  let s : State := { s with log := l }
  if was.isEmpty && l.saving.isEmpty then s
  else
    let gone := l.flag 3 && l.saving.isEmpty
    let n := if gone then rfld s.snap.regs Reg.SNAP_SAVE_STAT 15 8 else 87 - l.saving.length
    { s with snap := { s.snap with
      regs := rmod s.snap.regs Reg.SNAP_SAVE_STAT (fun x => putBits (if gone then putBit x 1 true else x) 15 8 n) } }

/-- A record of a code as REC queues it (R401): fathom number, epoch and NOTIME at the time of queueing. -/
def State.recordOf (s : State) (c : Code) : Record :=
  { src := c.page, code := c.code, payload := c.payload, epoch := s.epoch, opt := s.log.optime
    fno := if s.counting then s.seq.count % 4294967296 else 0
    flags := (if s.tim.isSet then 0 else 4) + (if c.code % 0x1000 = 0x170 && c.page == Pg.REC then 2 else 0) }

/-- A record offered to REC (R402, R403). -/
def State.offer (r : Record) (s : State) : State :=
  let w := Rec.offer r (W.of s.log)
  (s.setLog w.u).flags w.fx.evts

/-- Whether REC takes a code (R402): its class, or its chapter's word; code 0x172 is in PAGE_ERR only (R407). -/
def State.recTakes (s : State) (c : Code) : Bool :=
  (c.inRec || decide (rfld s.log.regs Reg.REC_CFG 2 0 ≤ c.code / 0x1000)) && decide (c.code ≠ 0x4172)

/-- A code recorded in PAGE_ERR (R434), noted for the heartbeat (R266) and offered to REC. -/
def State.record (c : Code) (s : State) : State :=
  let s : State := { s with hdr := hdrCode s.hdr c.page c.code, chn := s.chn.noteFault c.code }
  if s.recTakes c then s.offer (s.recordOf c) else s

/-- A code put before the first one of a higher page. -/
def insertCode (c : Code) : List Code → List Code
  | [] => [c]
  | d :: l => if c.page < d.page then c :: d :: l else d :: insertCode c l

/-- The codes of one command in ascending page index (R402). Log entry 76 (DEDUCED). -/
def sortCodes (l : List Code) : List Code := l.foldl (fun a c => insertCode c a) []

/-- Codes recorded. -/
def State.recordAll (l : List Code) (s : State) : State := (sortCodes l).foldl (fun s c => s.record c) s

/-! ## Snapshots (R409–R413) -/

/-- The code that triggers a snapshot, when one of these does (R409): that of the lowest page. -/
def State.faultTrigger (s : State) (l : List Code) : Option Nat :=
  let f := rfld s.snap.regs Reg.SNAP_CFG 5 3
  ((sortCodes l).find? (fun c => decide (f ≠ 0) && decide (f ≤ c.code / 0x1000) &&
    !(decide (0x180 ≤ c.code % 0x1000) && decide (c.code % 0x1000 ≤ 0x184)))).map (·.code)

/-- Islands that do not run, as a bitmap. -/
def State.missedMap (s : State) : Nat := (upto 12).foldl (fun a i => if s.islandUp i then a else a + 2 ^ i) 0

/-- The RS words of a page latched (R410). -/
def State.latchPage (id : Nat) (t : Int) (s : State) (h : RMap) (page : Nat) : RMap :=
  if s.pageUp page then
    let ws := s.snapWords page
    rsets h ([(cellKey page 0x20 0, wd id), (cellKey page 0x24 0, lo32 t), (cellKey page 0x28 0, hi32 t)]
      ++ (upto 5).map (fun k => (cellKey page (0x2C + 4 * k) 0, wordAt ws k)))
  else h

/-- The payload of R411. -/
def Snap.payload (u : Snap) : List Word :=
  [Reg.SNAP_LAST_ID, Reg.SNAP_LAST_SRC, Reg.SNAP_LAST_T_L, Reg.SNAP_LAST_T_H, Reg.SNAP_MISSED].map (rget u.regs)

/-- The records of a save (R413). Log entry 81 (DEDUCED). -/
def State.saveRecords (s : State) : List Record :=
  let r := fun (src : Nat) (p : List Word) =>
    let x := s.recordOf ⟨src, 0x0181, p, false⟩
    ({ x with flags := x.flags + 1 } : Record)
  r Pg.SNAP s.snap.payload :: (upto pageCount).map (fun p =>
    r p ((upto 8).map (fun k => rget s.hdr (cellKey p (0x20 + 4 * k) 0))))

/-- A save begins (R413). Log entry 81 (DEDUCED). -/
def State.beginSave (s : State) : State :=
  let recs := s.saveRecords
  let s : State := { s with snap := { s.snap with
    regs := rmod s.snap.regs Reg.SNAP_SAVE_STAT (fun x => putBits (putBit x 1 false) 15 8 0) } }
  let w := Rec.feed 87 (W.of { s.log with saving := recs })
  ({ s with log := { s.log with saving := recs } } : State).setLog w.u

/-- A snapshot from the sources of a bitmap, with the code of a fault trigger (R410, R411, R413). Log entry 81 (DEDUCED). -/
def State.snapshot (srcs code : Nat) (s : State) : State :=
  let t := s.tim.time
  if s.snap.holds t (!s.log.saving.isEmpty) then
    let w := s.snap.refuse
    (({ s with snap := w.u } : State).flags w.fx.evts).recordAll w.fx.codes
  else
    let missed := s.missedMap
    let s : State := { s with snap := s.snap.take t s.epoch srcs code missed }
    let s : State := { s with hdr := (upto pageCount).foldl (s.latchPage s.snap.count t) s.hdr }
    let s := s.flags ([(Pg.SNAP, 0)] ++ (if missed = 0 then [] else [(Pg.SNAP, 2)]))
    let s := s.recordAll ((if rbit s.snap.regs Reg.SNAP_CFG 6 then [⟨Pg.SNAP, 0x0180, s.snap.payload, false⟩] else [])
      ++ (if missed = 0 then [] else [⟨Pg.SNAP, 0x1183, [wd missed], false⟩]))
    if rbit s.snap.regs Reg.SNAP_CFG 7 && s.feature 16 then s.beginSave else s

/-- What triggers of a command make of a snapshot (R409): one, with all their sources. -/
def State.snapTriggers (srcs : List Nat) (codes : List Code) (s : State) : State :=
  let on := (upto 4).filter (fun i => srcs.contains i && s.snap.enabled i)
  let f := s.faultTrigger codes
  let m := on.foldl (fun a i => a + 2 ^ i) 0 + (if f.isSome then 16 else 0)
  if m = 0 then s else s.snapshot m (f.getD 0)

/-! ## The commit -/

/-- A unit's sub-step: its state put back, its blocks read, its requests added to those that wait. -/
def State.absorb {U : Type} (put : U → State → State) (w : W U) (x : State × Fx) : State × Fx :=
  let y := (put w.u x.1).storeAll w.st
  let z := y.1.readBlocks w.fx.reads
  (z.1.healAll w.fx.heals, x.2.app { w.fx with reads := [], heals := [], codes := y.2 ++ z.2 ++ w.fx.codes })

/-- Samples reach FLT's intake (R64) and the Chain's mirror entries (R268). -/
def State.takeSample (x : State × Fx) (p : Sample) : State × Fx :=
  let s : State := { x.1 with chn := x.1.chn.mirrorSample p }
  if s.islandUp 5 && hdrEnabled s.hdr Pg.FLT then
    State.absorb (fun u s => { s with flt := u }) (Flt.arrive s.tim.time p (W.of s.flt)) (s, x.2)
  else (s, x.2)

/-- Packets reach their firkins (R30). -/
def State.takePacket (x : State × Fx) (p : Push) : State × Fx :=
  if x.1.islandUp 2 then State.absorb (fun u s => { s with fq := u }) (Fq.pushPacket (W.of x.1.fq) p) x else x

/-- Event triggers reach the program (R240). -/
def State.takeTrigger (x : State × Fx) (t : Trigger) : State × Fx :=
  if x.1.mode = .run ∧ x.1.islandUp 1 = true then
    State.absorb (fun u s => { s with prg := u }) (Prg.trigger x.1 (W.of x.1.prg) t) x
  else x

/-- What a unit's work asks for, done: stores, reads, samples, packets, triggers, codes, flags, snapshots, frames. -/
def State.commit (fx : Fx) (st : List Store) (s : State) : State :=
  let x := State.absorb (fun (u : State) _ => u) ⟨s, fx, st⟩ (s, Fx.none)
  let x := fx.samples.foldl State.takeSample x
  let x := fx.pushes.foldl State.takePacket x
  let x := x.2.triggers.foldl State.takeTrigger x
  let s := (x.1.flags x.2.evts).recordAll x.2.codes
  let s := s.snapTriggers x.2.snaps x.2.codes
  { s with outbox := x.2.emits.reverse ++ s.outbox }

/-! ## Units at work -/

/-- SEQ's work. -/
def State.onSeq (f : Seq → W Seq) (s : State) : State := let w := f s.seq; ({ s with seq := w.u } : State).commit w.fx w.st
/-- FQ's work. -/
def State.onFq (f : Fq → W Fq) (s : State) : State := let w := f s.fq; ({ s with fq := w.u } : State).commit w.fx w.st
/-- FLT's work. -/
def State.onFlt (f : Flt → W Flt) (s : State) : State := let w := f s.flt; ({ s with flt := w.u } : State).commit w.fx w.st
/-- The program's work. -/
def State.onPrg (f : Prg → W Prg) (s : State) : State := let w := f s.prg; ({ s with prg := w.u } : State).commit w.fx w.st
/-- EST's work. -/
def State.onEst (f : Est → W Est) (s : State) : State := let w := f s.est; ({ s with est := w.u } : State).commit w.fx w.st
/-- FUS's work. -/
def State.onFus (f : Fus → W Fus) (s : State) : State := let w := f s.fus; ({ s with fus := w.u } : State).commit w.fx w.st
/-- GNS0's, GNS1's and GNSC's work. -/
def State.onGns (f : Gns → W Gns) (s : State) : State := let w := f s.gns; ({ s with gns := w.u } : State).commit w.fx w.st
/-- CTL0's and CTL1's work. -/
def State.onCtl (f : Ctl → W Ctl) (s : State) : State := let w := f s.ctl; ({ s with ctl := w.u } : State).commit w.fx w.st
/-- ALC's work; a bank swap counts in PAGE_SEQ (R435). -/
def State.onAlc (f : Alc → W Alc) (s : State) : State :=
  let w := f s.alc
  ({ s with
    alc := w.u
    hdr := if w.u.active = s.alc.active then s.hdr else hdrSeq s.hdr Pg.ALC } : State).commit w.fx w.st
/-- SOL0's and SOL1's work; a swap of the image banks counts in PAGE_SEQ (R435). -/
def State.onSol (f : Sol → W Sol) (s : State) : State :=
  let w := f s.sol
  ({ s with
    sol := w.u
    hdr := if w.u.active = s.sol.active then s.hdr else hdrSeq s.hdr Pg.SOL0 } : State).commit w.fx w.st
/-- CHN's work. -/
def State.onChn (f : Chn → W Chn) (s : State) : State := let w := f s.chn; ({ s with chn := w.u } : State).commit w.fx w.st
/-- TIM's work. -/
def State.onTim (f : Tim → W Tim) (s : State) : State := let w := f s.tim; ({ s with tim := w.u } : State).commit w.fx w.st
/-- PTP's work. -/
def State.onPtp (f : Ptp → W Ptp) (s : State) : State := let w := f s.ptp; ({ s with ptp := w.u } : State).commit w.fx w.st
/-- The work of ETH, PRP and the service path. -/
def State.onNet (f : Net → W Net) (s : State) : State := let w := f s.net; ({ s with net := w.u } : State).commit w.fx w.st
/-- A CAN controller's work. -/
def State.onCan (f : Can → W Can) (s : State) : State := let w := f s.can; ({ s with can := w.u } : State).commit w.fx w.st
/-- A field group's work. -/
def State.onFio (f : Fio → W Fio) (s : State) : State := let w := f s.fio; ({ s with fio := w.u } : State).commit w.fx w.st
/-- A serial port's work. -/
def State.onSer (f : Ser → W Ser) (s : State) : State := let w := f s.ser; ({ s with ser := w.u } : State).commit w.fx w.st
/-- A position channel's work. -/
def State.onPos (f : Pos → W Pos) (s : State) : State := let w := f s.pos; ({ s with pos := w.u } : State).commit w.fx w.st
/-- The safety layer's work. -/
def State.onSaf (f : Saf → W Saf) (s : State) : State := let w := f s.saf; ({ s with saf := w.u } : State).commit w.fx w.st
/-- NVS's work. -/
def State.onNvs (f : Nvs → W Nvs) (s : State) : State := let w := f s.nvs; ({ s with nvs := w.u } : State).commit w.fx w.st
/-- REC's work. -/
def State.onLog (f : Rec → W Rec) (s : State) : State := let w := f s.log; (s.setLog w.u).commit w.fx w.st

/-- The rates of the program cores after a change of their grants (R244). -/
def State.rates (s : State) : State :=
  (upto 3).foldl (fun s k => s.onPrg (Prg.rateCut k (decide (s.pwr.state (14 + k) = 2) || decide (s.pwr.state (14 + k) = 3)))) s

/-- PWR's work, and what the program cores make of it. -/
def State.onPwr (f : Pwr → W Pwr) (s : State) : State :=
  let w := f s.pwr
  (({ s with pwr := w.u } : State).commit w.fx w.st).rates

/-- A code that no unit's work stands behind. -/
def State.code (page code : Nat) (payload : List Word) (s : State) : State :=
  s.commit { Fx.none with codes := [⟨page, code, payload, false⟩] } []
/-- A code recorded in REC whatever its class. -/
def State.codeRec (page code : Nat) (payload : List Word) (s : State) : State :=
  s.commit { Fx.none with codes := [⟨page, code, payload, true⟩] } []
/-- A PAGE_EVT flag. Log entry 87 (DESIGN CHOICE). -/
def State.event (page flag : Nat) (s : State) : State := s.flags [(page, flag)]

/-- A grant of the logic pool stands: the requester is neither cut nor waiting (R394). -/
def State.grant (s : State) (i : Nat) : Bool := decide (s.pwr.state i ≠ 2) && decide (s.pwr.state i ≠ 3)

/-- The free value of this use, and the counter after it. Log entries 26 (DESIGN CHOICE), 34 (DESIGN CHOICE). -/
def State.fresh (s : State) : Word × State := (Config.freeWord s.free, { s with free := s.free + 1 })

end Sys2Proof.Machine
end

