-- ==== Sys2Proof/Machine/Spans.lean ====
section
/-! DEFINITION. Spans at work (R46–R49, R56–R58): what a unit is handed at START, publication or miss at the deadline, and the
fathom start. -/

namespace Sys2Proof.Machine

/-! ## What units see -/

/-- The visible half of a pair as a span of this member reads it (R46, R270). -/
def State.vis (s : State) (blk : Nat) : Nat := s.visible (s.chn.redirect blk)

/-- What a span hands its unit (R42, R46). -/
def State.spanIn (s : State) (x : Span) (free : Word) : SpanIn :=
  { mem := s.mem, now := s.tim.time, fno := s.seq.count, startUs := s.seq.startUs, lenUs := s.seq.lenUs, vis := s.vis
    src := s.vis x.src, dst := s.hidden x.dst x.dstLen, srcLen := x.srcLen, dstLen := x.dstLen, srcBlk := x.src
    dstBlk := x.dst, arg := x.arg, div := x.div, ddl := x.deadline, free := free }

/-- Whether a unit works: its island runs and its page is enabled (R15, R433). -/
def State.works (s : State) (page : Nat) : Bool := s.pageUp page && hdrEnabled s.hdr page

/-- READY, RUN and SERVICE: the states in which the field side works (R417, R428). Log entry 95 (DEDUCED). -/
def Mode.active : Mode → Bool
  | .ready => true
  | .run => true
  | .service => true
  | _ => false

/-- The START of the HEARTBEAT span of the active Furlong (R266). -/
def State.hbStart (s : State) : Nat :=
  match (s.mem.spans s.seq.bank s.seq.active).find? (fun p => p.2.unit == 0x20 && p.2.opcode == 2) with
  | some p => p.2.start
  | none => 0

/-- What CHN sees of the rest of the module. -/
def State.chnEnv (s : State) : ChnEnv :=
  { on := s.works Pg.CHN && bit s.chn.cfg 0 && s.mode != .boot, halt := s.mode == .halt, run := s.mode == .run
    keeps := s.mode.active, count := s.seq.count, tick := s.tick, lenUs := s.seq.lenUs, hbStart := s.hbStart
    time := s.tim.time, serial := rget s.sup.regs Reg.SERIAL_LO }

/-- A pair published (R46). -/
def State.swapPair (blk len : Nat) (s : State) : State :=
  if len = 0 then s else { s with second := pairSwap s.second blk len }

/-- Several pairs published. -/
def State.swapPairs (l : List (Nat × Nat)) (s : State) : State := l.foldl (fun s p => s.swapPair p.1 p.2) s

/-! ## Time steps and comparators (R41, R68, R142, R292, R293) -/

/-- A snapshot trigger from comparators that fired with ACTION 1 (R409): 15 is the Chain's. -/
def State.matchSnaps (ns : List Nat) (s : State) : State :=
  let one := ns.filter (fun n => (s.tim.action n).1 == 1)
  let srcs := (if one.any (· != 15) then [2] else []) ++ (if one.contains 15 then [3] else [])
  s.commit { Fx.none with snaps := srcs } []

/-- The actions of comparators that fired in one cycle (R293); `lines` are the data lines of the position channels. -/
def State.matchActions (lines : BitVec 24) (acts : List (Nat × Nat)) (s : State) : State :=
  acts.foldl (fun (s : State) a =>
    if a.1 = 0 then (if s.mode.active then s else { s with tim := { s.tim with trigOut := none } })
    else if a.1 = 2 then (if s.works Pg.GNSC then s.onGns (Gns.snapStart s.tim.time s.epoch) else s)
    else if a.1 = 3 then (if a.2 < 24 ∧ s.works (Pg.POS + a.2) = true then s.onPos (Pos.request s.mode s.now s.tim.time a.2 (lines.getLsbD a.2)) else s)
    else if a.1 = 4 then (if a.2 < 12 then { s with fio := s.fio.captureAt a.2 s.tim.time } else s)
    else s) s

/-- Every comparator whose target has been reached fires (R293). -/
def State.matchFire (lines : BitVec 24) (s : State) : State :=
  let ns := s.tim.overdue
  let x := s.tim.matchFire
  (({ s with tim := x.1 } : State).matchActions lines x.2).matchSnaps ns

/-- The step that waits, made (R292): fathom and histories follow it (R41, R68), captures are marked (R142, R152), and the targets it
passed over fire. -/
def State.makeStep (lines : BitVec 24) (s : State) : State :=
  match s.tim.pend with
  | none => s
  | some p =>
    let x := s.tim.step s.fno p.e
    let s := s.onTim (fun _ => x.1)
    let s : State := { s with
      flt := s.flt.shift x.2
      gns := s.gns.step
      sup := { s.sup with reqUs := s.sup.reqUs + Int.fdiv x.2 1000 }
      seq := { s.seq with startUs := s.seq.startUs + Int.fdiv x.2 1000 } }
    s.matchFire lines

/-- An offset handed to TIM; while fathoms are not counted a confirmed step is made at once (R292), the levels of the position channels'
data lines being free. -/
def State.steer (f : Tim → W Tim) (s : State) : State :=
  let s := s.onTim f
  if s.counting || s.tim.pend.isNone then s
  else
    let x := s.fresh
    x.2.makeStep (x.1.setWidth 24)

/-! ## The state a join carries (R283) -/

/-- The visible output of the first enabled span of a unit and operation in the active Furlong. -/
def State.spanOf (s : State) (unit op : Nat) : Option Span :=
  ((s.mem.spans s.seq.bank s.seq.active).find? (fun p => p.2.unit == unit && p.2.opcode == op)).map (·.2)

/-- The operation of a unit of the join table. -/
def joinOp (unit : Nat) : Nat := if unit = 0x10 then 2 else 1

/-- The instance memory of an engine as a join carries it: the loop and shaper states of its enabled instances. -/
def State.loopStores (s : State) (n : Nat) : List (Nat × List Byte) :=
  (s.ctl.enabled s.mem n).map (fun k => (instAddr n k 9 0, s.mem.bytesAt (instAddr n k 9 0) 64))

/-- The descriptors of an engine's enabled instances, whose ABANK bits are the active banks. -/
def State.loopHeads (s : State) (n : Nat) : List (Nat × List Byte) :=
  (s.ctl.enabled s.mem n).map (fun k => (instAddr n k 0 0, s.mem.bytesAt (instAddr n k 0 0) 32))

/-- What a join carries of a unit. -/
def State.joinOf (s : State) (unit : Nat) : JoinState :=
  let out := match s.spanOf unit (joinOp unit) with
    | some x => s.mem.bytesAt (s.visible x.dst) (32 * x.dstLen)
    | none => []
  let j : JoinState := ⟨[], none, none, [], none, none, none, out⟩
  if unit = 0x14 then { j with streams := s.flt.streams }
  else if unit = 0x11 then { j with est := some s.est.data }
  else if unit = 0x12 then { j with stage := some s.ctl.stage, stores := s.loopStores 0 ++ s.loopHeads 0 }
  else if unit = 0x13 then { j with stores := s.loopStores 1 ++ s.loopHeads 1 }
  else if unit = 0x17 then { j with alc := some s.alc.data }
  else if unit = 0x10 then { j with sol := some s.sol.data }
  else if unit = 0x15 then { j with fus := some s.fus.data }
  else j

/-- One part of a join installed (R282, R283). -/
def State.installPart (p : Nat × JoinState) (s : State) : State :=
  let j := p.2
  let s : State :=
    if p.1 = 0x14 then { s with flt := { s.flt with streams := j.streams } }
    else if p.1 = 0x11 then { s with est := { s.est with data := j.est.getD s.est.data } }
    else if p.1 = 0x12 then { s with ctl := { s.ctl with stage := j.stage.getD s.ctl.stage } }
    else if p.1 = 0x17 then { s with alc := { s.alc with data := j.alc.getD s.alc.data } }
    else if p.1 = 0x10 then { s with sol := { s.sol with data := j.sol.getD s.sol.data } }
    else if p.1 = 0x15 then { s with fus := { s.fus with data := j.fus.getD s.fus.data } }
    else s
  let stores := if p.1 = 0x12 ∨ p.1 = 0x13 then j.stores.map (fun x => (⟨Pg.CHN, x.1, x.2, false⟩ : Store)) else []
  let out := match s.spanOf p.1 (joinOp p.1) with
    | some x => [(⟨Pg.CHN, s.visible x.dst, j.output.take (32 * x.dstLen), false⟩ : Store)]
    | none => []
  s.commit Fx.none (stores ++ out)

/-! ## Publication and miss (R46, R57, R58) -/

/-- What a LATCH publishes at its deadline (R272, R334, R359): the input records of the classes in ARG. -/
def State.latchPairs (s : State) (arg : Word) : List (Nat × Nat) :=
  let groups := (upto 12).filter (fun n => s.works (Pg.FIO + n))
  let chans := (upto 24).filter (fun n => s.works (Pg.POS + n))
  (if bit arg 0 then groups.filterMap (fun n => (s.fio.inPair n).map (fun b => (b, 1))) else [])
    ++ (if bit arg 1 then chans.filterMap (fun n => (s.pos.inPair n).map (fun b => (b, 1))) else [])
    ++ (if bit arg 4 && s.works Pg.CHN then s.chn.stationPairs else [])

/-- A unit's own part in a publication. Log entry 32 (DESIGN CHOICE). -/
def State.unitPublish (x : Span) (s : State) : State :=
  let u := x.unit
  let s : State :=
    if u = 0x10 then { s with sol := s.sol.publish }
    else if u = 0x11 then
      (if x.opcode = 1 then { s with est := s.est.publish (s.mem.readWord (s.visible x.dst + 124)) } else s)
    else if u = 0x12 ∨ u = 0x13 then s.onCtl (Ctl.publish (u - 0x12))
    else if u = 0x14 then { s with flt := s.flt.publish }
    else if u = 0x15 then { s with fus := s.fus.publish }
    else if u = 0x16 then
      (let g := s.gns
       let s := s.onGns Gns.publish
       match g.offset with
       | some e => s.steer (Tim.offsetFrom 2 (-e) none 0 g.returned)
       | none => if rbit s.gns.regs Reg.GNSC_STAT 5 || !rbit s.gns.regs Reg.GNSC_STAT 4 then s.onTim (Tim.lapse 2) else s)
    else if u = 0x17 then { s with alc := s.alc.publish }
    else if u = 0x7F then s.swapPairs (s.latchPairs x.arg)
    else s
  s.onChn (Chn.publication s.chnEnv u (s.joinOf u))

/-- The MISS of a unit (R57). Log entry 33 (DEDUCED). -/
def State.unitMiss (x : Span) (s : State) : State :=
  let u := x.unit
  if u = 0x10 then s.onSol Sol.miss
  else if u = 0x11 then (if x.opcode = 1 then s.onEst Est.miss else s.onSol Sol.partnerMiss)
  else if u = 0x12 ∨ u = 0x13 then s.onCtl (Ctl.miss (u - 0x12))
  else if u = 0x14 then s.event Pg.FLT 0
  else if u = 0x15 then s.onFus Fus.miss
  else if u = 0x16 then s.onGns Gns.miss
  else if u = 0x17 then s.onAlc Alc.miss
  else s

/-- A miss as SEQ counts it (R58). -/
def State.seqMiss (unit idx cause code : Nat) (s : State) : State := s.onSeq (fun u => Seq.miss unit idx cause code (W.of u))

/-- Whether the fathom in progress has reached its end; while I2 is stopped, SEQ begins no fathom (R15). -/
def State.gridDue (s : State) : Bool := s.counting && s.islandUp 2 && decide (s.seq.endUs ≤ s.tim.us)

/-- The fathom and tick of the present, the first tick of the next fathom once the one in progress has ended. -/
def State.here (s : State) : Nat × Nat := if s.gridDue then (s.seq.count + 1, 0) else (s.seq.count, s.tick)

/-- A unit aborted at this tick: it is not idle for a START of the same tick (R57, R58, DEDUCED, log entry 29). -/
def State.noteAbort (unit : Nat) (s : State) : State :=
  { s with seq := { s.seq with aborts := s.seq.aborts.filter (fun a => a.2 == s.here) ++ [(unit, s.here)] } }

/-- The page of a span's unit. -/
def Span.page (x : Span) : Nat := unitPage x.unit x.opcode

/-- A run at its deadline (R46, R57, R58): published, or a miss. Log entry 32 (DESIGN CHOICE). -/
def State.endRun (r : Run) (s : State) : State :=
  let s : State := { s with seq := s.seq.drop r }
  match r.doneAt with
  | some _ =>
    if r.result then
      (({ s.swapPair r.span.dst r.span.dstLen with seq := s.seq.published r } : State)).unitPublish r.span
    else s.seqMiss r.span.unit r.idx 4 0x2213
  | none =>
    let s : State := if r.span.long s.seq.lenUs then s else s.noteAbort r.span.unit
    let s := if s.pageUp r.span.page then s.unitMiss r.span else s
    s.seqMiss r.span.unit r.idx 1 0x2210

/-- The fathom and tick of a run's deadline (R45). -/
def Run.due (r : Run) (lenUs : Nat) : Nat × Nat := (r.count + r.span.deadline / max 1 lenUs, r.span.deadline % max 1 lenUs)

/-- Whether a fathom and tick has come at another one. -/
def reached (a b : Nat × Nat) : Bool := decide (a.1 < b.1) || (a.1 == b.1 && decide (a.2 ≤ b.2))

/-- Whether run a ends before run b: by tick, then in table order (R49). -/
def Run.earlier (lenUs : Nat) (a b : Run) : Bool :=
  let x := a.due lenUs
  let y := b.due lenUs
  decide (x.1 < y.1) || (x.1 == y.1 && (decide (x.2 < y.2) || (x.2 == y.2 && decide (a.idx < b.idx))))

/-- A run put in order of its deadline. -/
def insertRun (lenUs : Nat) (r : Run) : List Run → List Run
  | [] => [r]
  | x :: l => if r.earlier lenUs x then r :: x :: l else x :: insertRun lenUs r l

/-- The runs whose deadlines have come, in order; while I2 is stopped, SEQ judges no deadline (R15). -/
def State.dueRuns (s : State) : List Run :=
  if !s.islandUp 2 then [] else (s.seq.runs.filter (fun r => reached (r.due s.seq.lenUs) s.here)).foldl (fun l r => insertRun s.seq.lenUs r l) []

/-- Step 1 of R49: the deadlines that have come. Log entry 6 (DESIGN CHOICE). -/
def State.deadlines (s : State) : State := s.dueRuns.foldl (fun s r => s.endRun r) s

/-- SPAN_DEADLINE (R57) of one span: nothing before its tick. -/
def State.deadline (idx : Nat) (s : State) : State :=
  match s.dueRuns.find? (fun r => r.idx == idx) with
  | some r => s.endRun r
  | none => s

/-! ## Starts (R44, R46, R55, R58) -/

/-- Whether a span starts in the fathom in progress (R42). Log entry 29 (DEDUCED). -/
def Span.dueIn (x : Span) (count : Nat) : Bool := count % (x.div + 1) == x.phase

/-- A unit's sub-step put back, and whether it has a result. -/
def State.ran {U : Type} (put : U → State → State) (r : R U) (s : State) : State × Bool :=
  ((put r.w.u s).commit r.w.fx r.w.st, r.ok)

/-- A START of span idx (R49, R55, R58), for the operations that `ok` takes: `work` is the unit's work at START, `now` whether it is
complete there. A run without a result has completed (DEDUCED, log entry 29). Log entry 32 (DESIGN CHOICE). -/
def State.startSpan (idx : Nat) (ok : Span → Bool) (now : Bool) (work : Span → SpanIn → State → State × Bool) (s : State) : State :=
  let s := s.deadlines
  if s.mode = .run ∧ s.islandUp 2 = true ∧ s.gridDue = false ∧ idx < s.seq.active ∧ s.seq.issued.contains idx = false then
    let a := spanAddr s.seq.bank idx
    let marked := fun (s : State) =>
      (({ s with seq := { s.seq with issued := s.seq.issued ++ [idx] } } : State).commit { Fx.none with reads := [(Pg.SEQ, a)] } [])
    if s.mem.isBad a then (marked s).seqMiss 0x7F idx 3 0x3212
    else
      let x := s.mem.span s.seq.bank idx
      if x.en && ok x && x.dueIn s.seq.count && decide (x.start ≤ s.tick) then
        let s := marked s
        if !s.pageUp x.page || s.seq.unitBusy x.unit || s.seq.aborts.contains (x.unit, s.seq.count, s.tick) then
          (if s.pageUp x.page then s.unitMiss x else s).seqMiss x.unit idx 2 0x2211
        else
          let f := s.fresh
          let y := work x (f.2.spanIn x f.1) f.2
          let s := y.1
          { s with seq := { s.seq with
              runs := s.seq.runs ++ [⟨idx, x, s.seq.count, y.2, if now || !y.2 then some s.tick else none⟩] } }
      else s
  else s

/-- SPAN_COMPLETION (R46): the unit of span idx has reported completion; `result` whether with a result. Log entry 32 (DESIGN CHOICE). -/
def State.spanDone (idx : Nat) (result : Bool) (s : State) : State :=
  match s.seq.run idx with
  | none => s
  | some r =>
    let t := (s.seq.count - r.count) * s.seq.lenUs + s.tick
    if s.pageUp r.span.page then
      let q := s.seq.complete idx t
      { s with seq := { q with runs := q.runs.map (fun x => if x.idx = idx ∧ x.doneAt = some t then { x with result := x.result && result } else x) } }
    else s

/-! ## The fathom start (R39, R49, R53, R54) -/

/-- Step 2 of R49: a pending swap, outside CONFIG. -/
def State.swapStep (s : State) : State :=
  if s.mode = .config then s
  else
    let y := s.seq.swapPoint (s.seq.count + 1)
    let s := s.onSeq (fun _ => y.1)
    if y.2 then { s with hdr := hdrSeq s.hdr Pg.SEQ } else s

/-- The units of the join table, FUS apart, that the active Furlong runs. -/
def State.joinNeed (s : State) : List Nat := joinUnits.filter (fun u => u != 0x15 && (s.spanOf u (joinOp u)).isSome)

/-- The words of OSRC 1 read at a fathom start (R335). -/
def State.outputWords (s : State) : State :=
  if s.mode.active then
    s.onFio (fun u => ((upto 12).filter (fun n => s.works (Pg.FIO + n))).foldl (fun w n => Fio.readWord1 s n w) (W.of u))
  else s

/-- Joins installed at a fathom start (R282). -/
def State.installJoins (s : State) : State :=
  let y := s.chn.install s.seq.count s.joinNeed
  y.2.foldl (fun s p => s.installPart p) (s.onChn (fun _ => y.1))

/-- The releases of a fathom start (R240), and the change that waits (R255): at a change point CHANGE_POINT makes them.
Log entries 6 (DESIGN CHOICE), 31 (DEDUCED). -/
def State.releases (s : State) : State :=
  if s.mode = .run ∧ s.islandUp 1 = true then
    if s.prg.atChangePoint s.seq.count then s
    else
      let s : State := { s with prg := s.prg.passOver s.seq.count }
      s.onPrg (fun u => (Prg.releaseDue s (W.of u)).map Prg.scheduleAll)
  else s

/-- Step 3 of R49 and what follows it: the count, the exchange publications, PUB frames, joins, outputs and releases.
Log entry 31 (DEDUCED). -/
def State.beginFathom (s : State) : State :=
  let s := s.onSeq Seq.nextFathom
  let s : State := { s.swapPairs s.prg.written with prg := { s.prg with written := [] } }
  let s : State := { s with chn := s.chn.refresh s.seq.count }
  let s := if s.mode = .run then (s.onChn (fun u => Chn.sendPubs s s.chnEnv (W.of u))).installJoins else s
  s.outputWords.releases

/-- FATHOM_START (R49), at a grid instant that has come. -/
def State.fathomStart (s : State) : State :=
  if s.gridDue then s.deadlines.swapStep.beginFathom else s

/-- FURLONG_SWAP (R53, R54), at a grid instant that has come. -/
def State.furlongSwap (s : State) : State := if s.gridDue then s.deadlines.swapStep else s

end Sys2Proof.Machine
end

