-- ==== Sys2Proof/Machine/Modes.lean ====
section
/-! DEFINITION. Module states (R417–R420): the check list of R419, the requests, the transitions, and the resets. -/

namespace Sys2Proof.Machine

/-! ## Negotiation (R427) -/

/-- Whether feature k is offered (R427). -/
def featOffered (k : Nat) : Bool := decide (k < 32) && bit (wd featOffer0) k

/-- Whether FEAT_ACCEPT accepts feature k. Log entry 12 (DEDUCED). -/
def State.accepts (s : State) (k : Nat) : Bool := rbit s.sup.regs (Reg.FEAT_ACCEPT0 + 4 * (k / 32)) (k % 32)

/-- The bit that refuses a negotiation, if one does: 0 when it is not accepted, else the lowest accepted and not offered. -/
def State.negotiationFault (s : State) : Option Nat :=
  if !s.accepts 0 then some 0 else (upto 256).find? (fun k => s.accepts k && !featOffered k)

/-- FEAT_STATUS after a negotiation. -/
def State.negotiate (s : State) : State :=
  let st := match s.negotiationFault with
    | some k => wd (2 + 256 * k)
    | none => 1#32
  let acc : Word := if (s.negotiationFault).isSome then rget s.sup.regs Reg.FEAT_STATUS &&& 1#32 else 0#32
  { s with sup := { s.sup with regs := rset s.sup.regs Reg.FEAT_STATUS (st ||| acc) } }

/-! ## The checks of leaving CONFIG, page by page (R419) -/

/-- The spans of the Furlong that will be active (R55). -/
def State.nextSpans (leaving : Bool) (s : State) : List (Nat × Span) :=
  if leaving then s.mem.spans s.seq.exitBank.1 s.seq.exitBank.2.1 else s.mem.spans s.seq.bank s.seq.active

/-- The fathom length that will be in force. -/
def State.nextLen (leaving : Bool) (s : State) : Nat := if leaving then s.seq.lenReg else s.seq.lenUs

/-- The words of the confirmed safety set of the nonvolatile store (R380), none without one. -/
def State.safeSet (s : State) : List Word :=
  match s.saf.active with
  | some b => if s.feature 12 then s.mem.readWords (safRegion b) 320 else []
  | none => []

/-- The channels of group n that the confirmed set designates as safety inputs (R330). -/
def State.safeChannels (s : State) (n : Nat) : Word :=
  if n = 10 ∨ n = 11 then
    let set := s.safeSet
    wd (flagWord 16 (fun c => decide (set ≠ []) && decide (inKind set (c + 16 * (n - 10)) ≠ 0)))
  else 0

/-- A refusal on one page: its code and payload. -/
def refusedBy (page code : Nat) (payload : List Word) (c : Bool) : Option Code := if c then some ⟨page, code, payload, false⟩ else none

/-- A refusal that names what fails. -/
def refusedOn {A : Type} (page code : Nat) (payload : A → List Word) (x : Option A) : Option Code :=
  x.map (fun a => ⟨page, code, payload a, false⟩)

/-- A page's own check (R419 step 2), as its chapter states it. Log entries 24 (DEDUCED), 91 (DEDUCED). -/
def State.pageCheck (leaving : Bool) (spans : List (Nat × Span)) (page : Nat) (s : State) : Option Code :=
  let len := s.nextLen leaving
  let f := s.feature
  if page = Pg.PWR then refusedBy page 0x1150 [] (!s.pwr.exitOk s.res)
  else if page = Pg.SEQ then
    refusedBy page 0x1204 [] (!s.seq.gridOk || (s.seq.exitVerdict s.mem f leaving).isSome)
  else if page = Pg.TIM then refusedBy page 0x1D01 [] (!s.tim.servoOk || !s.net.exitOk)
  else if page = Pg.PRG then
    (let n := s.prg.exitCheck len s.fq.regs
     refusedBy page 0x1B01 [wd n] (decide (n ≠ 0)))
  else if page = Pg.FQ then refusedBy page 0x10E3 [] (decide (65536 < s.fq.depthSum))
  else if page = Pg.CHN then (s.chn.exitCheck (f 14) (f 15)).map (fun c => ⟨page, c, [], false⟩)
  else if page = Pg.PTP then refusedBy page 0x1D21 [] (rbit s.ptp.regs Reg.PTP_CFG 9 && !f 1)
  else if Pg.CAN ≤ page ∧ page < Pg.CAN + 4 then
    refusedOn page 0x1E01 (fun x => [wd x]) (s.can.exitCheck (f 2) (f 3) (page - Pg.CAN))
  else if page = Pg.FLT then refusedOn page 0x1301 (fun x => [wd x]) (s.flt.exitCheck len)
  else if page = Pg.EST then refusedOn page 0x1401 (fun x => [wd x]) (s.est.exitCheck s.mem s.flt (f 7))
  else if page = Pg.FUS0 then (s.fus.exitCheck s.mem (f 7) (f 8)).map (fun c => ⟨c.1, c.2, [], false⟩)
  else if page = Pg.GNS ∨ page = Pg.GNS + 1 then refusedBy page 0x1601 [] (!s.gns.bankOk (page - Pg.GNS))
  else if page = Pg.GNSC then refusedBy page 0x1621 [] (!s.gns.solverOk (f 9))
  else if page = Pg.CTL ∨ page = Pg.CTL + 1 then
    (let stage := spans.any (fun p => p.2.unit == 0x12 && bit p.2.arg 31)
     refusedOn page 0x1801 (fun x => [wd x]) (s.ctl.exitCheck s.mem stage (page - Pg.CTL)))
  else if page = Pg.SOL0 then refusedBy page 0x1A01 [] (!s.sol.exitOk s.mem (f 4) (f 5))
  else if page = Pg.ALC then refusedOn page 0x1901 (fun x => [wd x.1]) (s.alc.exitCheck s.mem s.flt (f 6))
  else if Pg.SER ≤ page ∧ page < Pg.SER + 12 then
    refusedOn page 0x1F41 (fun x => [wd x]) (s.ser.exitCheck s.fq.regs (page - Pg.SER))
  else if Pg.FIO ≤ page ∧ page < Pg.FIO + 12 then
    (let n := page - Pg.FIO
     refusedOn page 0x1F01 (fun x => [wd x]) (s.fio.exitCheck (s.safeChannels n) (bits s.chn.cfg 2 1 == 2) n))
  else if Pg.POS ≤ page ∧ page < Pg.POS + 24 then refusedBy page 0x1101 [] (!s.pos.settingsOk (page - Pg.POS))
  else none

/-- A page's checks: first that no enabled span is one of a disabled unit of the page (R433), then its own; a disabled unit does no work
and makes none (R433, DEDUCED, log entry 24). -/
def State.checkPage (leaving : Bool) (spans : List (Nat × Span)) (page : Nat) (s : State) : Option Code :=
  if spans.any (fun p => p.2.page == page) && !hdrEnabled s.hdr page then some ⟨page, 0x1003, [], false⟩
  else if hdrEnabled s.hdr page then s.pageCheck leaving spans page
  else none

/-- The verdicts that a pass of the check list shows in the status registers of the pages it reaches (R52, R195). -/
def State.showChecks (leaving : Bool) (upTo : Nat) (s : State) : State :=
  let s : State :=
    if Pg.SEQ ≤ upTo ∧ s.seq.gridOk = true then { s with seq := s.seq.showVerdict (s.seq.exitVerdict s.mem s.feature leaving) } else s
  if Pg.ALC ≤ upTo ∧ hdrEnabled s.hdr Pg.ALC = true then { s with alc := s.alc.verdict (s.alc.exitCheck s.mem s.flt (s.feature 6)) } else s

/-- The first page of the check list that refuses. -/
def State.firstRefusal (leaving : Bool) (s : State) : Option Code :=
  let spans := s.nextSpans leaving
  (upto pageCount).findSome? (fun p => s.checkPage leaving spans p)

/-- A request refused by the check list (R419): SUP_REFUSE, the failure's own code, and code 0x191. -/
def State.refuseWith (page : Nat) (c : Code) (s : State) : State :=
  let s : State := { s with sup := { s.sup with regs := rset s.sup.regs Reg.SUP_REFUSE (wd (page + 0x10000 * c.code)) } }
  s.commit { Fx.none with
    codes := [c, ⟨Pg.SUP, 0x1191, [wd page, wd c.code], false⟩]
    evts := [(Pg.SUP, 1)] } []

/-- The check list (R419): the state after it, and whether it passes. Log entry 79 (DEDUCED). -/
def State.checkList (leaving : Bool) (s : State) : State × Bool :=
  let s := s.negotiate
  if s.negotiationFault.isSome then (s.refuseWith Pg.ID ⟨Pg.SUP, 0x1197, [], false⟩, false)
  else match s.firstRefusal leaving with
    | some c => ((s.showChecks leaving c.page).refuseWith c.page c, false)
    | none => ({ (s.showChecks leaving pageCount) with sup := { s.sup with passed := true } }, true)

/-! ## Requests (R418) -/

/-- A request that the present state does not allow, or that meets another one (R418). -/
def State.discardRequest (s : State) : State :=
  s.commit { Fx.none with codes := [⟨Pg.SUP, 0x1191, [0, 0], false⟩], evts := [(Pg.SUP, 1)] } []

/-- A request that waits (R418). -/
def State.wait (r : Request) (s : State) : State := { s with sup := { s.sup with request := some r, reqUs := s.tim.us } }

/-- GO_READY (R418, R419). At an exit from CONFIG the Furlong that will be active is settled here (R55). -/
def State.goReady (s : State) : State :=
  if s.sup.dead then s
  else if s.sup.request.isSome then s.discardRequest
  else if s.mode = .config then
    let x := s.checkList true
    if x.2 then ({ x.1 with seq := { x.1.seq with settle := x.1.seq.exitBank.2.2 } } : State).wait .goReady else x.1
  else if s.mode = .service then
    let x := s.checkList false
    if x.2 then x.1.wait .goReady else x.1
  else s.discardRequest

/-- GO_RUN (R418, R419): the list is run unless it was passed on the way to READY and no RWL register has been written since. -/
def State.goRun (s : State) : State :=
  if s.sup.dead then s
  else if s.sup.request.isSome ∨ s.mode ≠ .ready then s.discardRequest
  else if s.sup.passed then s.wait .goRun
  else
    let x := s.checkList false
    if x.2 then x.1.wait .goRun else x.1

/-- STOP (R418). -/
def State.stopRequest (s : State) : State :=
  if s.sup.dead then s else if s.sup.request.isSome ∨ s.mode ≠ .run then s.discardRequest else s.wait .stop

/-- GO_SERVICE (R418). -/
def State.goService (s : State) : State :=
  if s.sup.dead then s else if s.sup.request.isSome ∨ s.mode ≠ .ready then s.discardRequest else s.wait .goService

/-- A module state entered (R418). -/
def State.enter (m : Mode) (s : State) : State :=
  ({ s with mode := m, sup := { s.sup with request := none } } : State).commit
    { Fx.none with codes := [⟨Pg.SUP, 0x0190, [wd m.code], false⟩], evts := [(Pg.SUP, 0)] } []

/-- GO_CONFIG (R418): at once. Drivers go off, group sides into reset, the safety layer stops (R417, R428). -/
def State.goConfig (s : State) : State :=
  if s.sup.dead then s
  else if s.sup.request.isSome ∨ s.mode ≠ .ready then s.discardRequest
  else
    let s := s.enter .config
    let s : State := { s with
      fio := (upto 12).foldl (fun u n => Fio.setReset true u n) s.fio
      ser := (upto 12).foldl (fun u n => Ser.stop u n) s.ser
      can := (upto 4).foldl (fun u n => Can.takePart n false u) s.can
      saf := s.saf.stop s.now
      tim := { s.tim with trigOut := none } }
    s.onGns Gns.ppsEnd

/-! ## Transitions (R39, R55, R418) -/

/-- The first grid instant after a request, when fathoms are not yet counted (R39). Log entry 27 (DEDUCED). -/
def State.firstGrid (s : State) : Int := gridFrom (s.sup.reqUs + 1) s.seq.lenReg s.seq.phaseReg

/-- The first fathom counted begins (R39), at a grid instant that has come. Log entry 27 (DEDUCED). -/
def State.beginCount (s : State) : State :=
  let t := s.firstGrid
  { s with seq := { s.seq with
      counted := true
      count := firstCount t s.seq.lenReg s.seq.phaseReg
      startUs := t
      lenUs := s.seq.lenReg
      phaseUs := s.seq.phaseReg
      issued := [] } }

/-- Whether the instant of a fathom start is the present one, or has come: after the request was made. -/
def State.startDue (s : State) : Bool := s.gridDue || (s.counting && decide (s.tim.us = s.seq.startUs) && decide (s.sup.reqUs < s.seq.startUs))

/-- The Furlong settled at an exit from CONFIG (R55). Log entry 27 (DEDUCED). -/
def State.settle (s : State) : State :=
  if s.seq.settle then
    let s := s.onSeq (Seq.swap s.seq.count)
    { s with hdr := hdrSeq s.hdr Pg.SEQ }
  else s

/-- What the units do as the module leaves CONFIG (R73, R91, R185, R200, R222, R310, R332, R351). -/
def State.startUnits (s : State) : State :=
  { s with
    flt := s.flt.restartAll
    est := s.est.start
    fus := s.fus.start s.mem (s.feature 7)
    ctl := s.ctl.start
    alc := s.alc.start
    sol := s.sol.start s.mem
    chn := { s.chn with eMax := 0 }
    fio := (upto 12).foldl (fun u n => Fio.setReset false u n) s.fio
    can := (upto 4).foldl (fun u n => Can.takePart n (hdrEnabled s.hdr (Pg.CAN + n)) u) s.can
    pos := (upto 24).foldl (fun u n => Pos.begin u n) s.pos }

/-- READY entered: the confirmed safety set is loaded (R419 step 3, R380); AUTO_RUN then requests RUN (R422). Log entry 79 (DEDUCED). -/
def State.enterReady (s : State) : State :=
  let s := s.enter .ready
  let s := s.onSaf (Saf.enterReady s.mem (s.feature 12) s.now)
  if s.sup.autoRun then ({ s with sup := { s.sup with autoRun := false } } : State).goRun else s

/-- A long span withdrawn at the exit from RUN (R56). -/
def State.withdrawRun (r : Run) (s : State) : State :=
  let s : State := { s with seq := s.seq.drop r }
  let s : State :=
    if r.span.unit = 0x15 then { s with fus := s.fus.restore }
    else if r.span.unit = 0x16 then { s with gns := s.gns.withdraw }
    else s
  s.code Pg.SEQ 0x0221 [wd r.span.unit]

/-- The exit from RUN, after the deadlines of the fathom start at which it takes effect (R56). Log entry 9 (DEDUCED). -/
def State.leaveRun (s : State) : State :=
  let s := s.seq.runs.foldl (fun s r => s.withdrawRun r) s
  let s := s.onPrg Prg.exitRun
  s.onChn (Chn.leaveRun s.chnEnv)

/-- RUN entered at a fathom start (R158, R248, R260). -/
def State.enterRun (s : State) : State :=
  let s := s.enter .run
  let s := s.onChn (Chn.enterRun s.chnEnv)
  let s := s.onPrg (Prg.enterRun s.seq.count)
  let s : State := { s with
    ctl := { s.ctl with stage := s.ctl.stage.enterRun s.seq.count }
    seq := { s.seq with issued := [] } }
  if s.tick = 0 then s.releases else s

/-- The fathom start at which a transition acts, made first when it has only come. -/
def State.atStart (s : State) : State := if s.gridDue then s.fathomStart else s

/-- The exit from CONFIG at its grid instant (R39, R55). Log entry 27 (DEDUCED). -/
def State.exitConfig (s : State) : State :=
  if s.seq.counted then
    if s.startDue then
      let s := s.atStart
      let s : State := { s with seq := { s.seq with lenUs := s.seq.lenReg, phaseUs := s.seq.phaseReg } }
      s.settle.startUnits.enterReady
    else s
  else if s.firstGrid ≤ s.tim.us then s.beginCount.settle.startUnits.enterReady
  else s

/-- The exit from RUN at a fathom start (R56): its deadlines, the withdrawals, then the start itself. -/
def State.exitRun (s : State) : State :=
  if s.gridDue then (s.deadlines.leaveRun.enterReady.swapStep).beginFathom else s.leaveRun.enterReady

/-- STATE_TRANSITION (R418): the request that waits takes effect at its instant. -/
def State.transition (s : State) : State :=
  match s.sup.request with
  | none => s
  | some r =>
    match r with
    | .goReady => if s.mode = .config then s.exitConfig else if s.startDue then s.atStart.enterReady else s
    | .goRun => if s.startDue then s.atStart.enterRun else s
    | .stop => if s.startDue then s.exitRun else s
    | .goService => if s.startDue then s.atStart.enter .service else s

/-! ## Resets and power (R397, R418, R420, R444) -/

/-- The level of a strap pin from its resistor in Ω, none for an open pin (R444): the nearest of the 16 ratios. -/
def strapLevel (r : Option Nat) : Nat :=
  match r with
  | none => 15
  | some ohm => (30 * ohm + (ohm + 10000)) / (2 * (ohm + 10000))

/-- The base that two straps spell (R259). -/
def strapBase (a b : Option Nat) : Nat := 16 * strapLevel a + strapLevel b

/-- Whether an address lies in the nonvolatile store, its shelf bank included (R425): what a reset leaves as it was.
Log entry 2 (DESIGN CHOICE). -/
def nonvolatile (a : Nat) : Bool := (decide (0x30000000 ≤ a) && decide (a < 0x34000000)) || decide (0x160000000 ≤ a)

/-- The machine after a reset (R420) of a cause of SUP_RESET_CAUSE, with the base the straps spell: what the nonvolatile store
holds stands, the reference counts on through a commanded reset (R289), and every other field returns to its reset value.
Log entries 2 (DESIGN CHOICE), 14 (DEDUCED). -/
def State.resetTo (cause base : Nat) (s : State) : State :=
  { State.reset with
    now := s.now
    mem := ⟨sdrop (fun a => !nonvolatile a) s.mem.bytes, sdrop (fun b => !nonvolatile (32 * b)) s.mem.flips⟩
    sup := { Sup.fresh s.now with
      regs := rset [] Reg.SUP_RESET_CAUSE (wd cause)
      bootAt := if cause = 1 then s.now else s.sup.bootAt }
    log := if cause = 1 then s.log.powerOn else s.log.reset
    tim := { Tim.fresh with refNs := if cause = 1 then 0 else s.tim.refNs }
    prg := Prg.fresh s.prg.copyA s.prg.copyB
    chn := Chn.fresh (rset [] Reg.CHN_BASE (wd base)) (wd base)
    saf := Saf.fresh s.saf.active s.saf.valueA s.saf.valueB
    nvs := Nvs.fresh s.nvs.keys s.nvs.images s.nvs.boot
    outbox := s.outbox
    free := s.free
    pending := s.pending }

/-- POWER_ON (R418): BOOT is entered from OFF; SUP records the state entered. -/
def State.powerOn (a b : Option Nat) (s : State) : State :=
  if s.mode = .off then (s.resetTo 1 (strapBase a b)).enter .boot else s

/-- A commanded reset (R420), recorded before it acts, with the base then read. -/
def State.commandedReset (base : Nat) (s : State) : State :=
  if s.mode = .off then s else ((s.codeRec Pg.SUP 0x0198 []).resetTo 2 base).enter .boot

/-- A write of SUP_RESET (R420); any other value is discarded. -/
def State.resetWrite (base : Nat) (v : Word) (s : State) : State := if v = 0x5A7C#32 then s.commandedReset base else s

/-- HOLDUP_EXHAUSTED (R397). Log entry 75 (DESIGN CHOICE). -/
def State.holdupExhausted (s : State) : State := if s.mode ≠ .off ∧ s.pwr.warn = true then { s with mode := .off } else s

/-! ## Time passing -/

/-- The time and the upsets a command comes with: true time never runs back; the reference counts while it runs, and module power
is timed (R287, R404). Log entry 5 (DESIGN CHOICE). -/
def State.at_ (a : At) (s : State) : State :=
  let now := max s.now a.ns
  let dt := if s.mode = .off then 0 else now - s.now
  let ref := if s.sup.refLost ∨ s.sup.stopped.getLsbD 8 = true then 0 else dt
  { s with
    now := now
    mem := s.mem.strike a.upsets
    tim := { s.tim with refNs := s.tim.refNs + ref }
    log := { s.log with onNs := s.log.onNs + dt } }

end Sys2Proof.Machine
end

