-- ==== Sys2Proof/Machine/RegWrite.lean ====
section
/-! DEFINITION. Writing registers (R6–R9, R433–R435, R441): who may write, the access codes field by field, the common header, and what
each register's write does. -/

namespace Sys2Proof.Machine

/-! ## Accessors (R17, R441) -/

/-- The page whose PAGE_ERR names an accessor. -/
def accPage : Accessor → Nat
  | .sup => Pg.SUP
  | .service => Pg.SUP
  | .core n => Pg.PRG + n % 3
  | .unit p => p

/-- Whether an accessor makes an access at an offset of a page at all: its island runs; SUP and the service path need SUP (R424), the
service path I8 too; in BOOT it serves nobody, in HALT it takes SUP_RESET alone (R423). -/
def State.alive (s : State) (acc : Accessor) (page off : Nat) : Bool :=
  match acc with
  | .sup => s.islandUp 1 && !s.sup.dead
  | .service => s.islandUp 1 && s.islandUp 8 && !s.sup.dead && s.mode != .boot
      && (s.mode != .halt || 0x400 * page + off == Reg.SUP_RESET)
  | .core _ => s.islandUp 1
  | .unit p => s.pageUp p

/-- Whether an offset of a page holds a SEL register (R440). -/
def isSel (page off : Nat) : Bool :=
  match layoutOf page with
  | some l => l.rows.any (fun r => r.sel == off && r.sel != 0) || (off == Reg.SER_F_CONV_SEL % 0x400 && l.page0 == Pg.SER)
  | none => false

/-- Registers of pages a program core may write in part only (R441). -/
def coreRegs (page : Nat) : Option (List Nat) :=
  if page = Pg.ID ∨ page = Pg.PWR ∨ page = Pg.SAFH ∨ page = Pg.NVS ∨ page = Pg.SAFC then some []
  else if page = Pg.SUP then some [Reg.SUP_RESET]
  else if page = Pg.SNAP then some [Reg.SNAP_TRIG]
  else if page = Pg.REC then some [Reg.REC_CURSOR]
  else if page = Pg.TIM then some [Reg.TIM_TM_CFG, Reg.TIM_TM_L, Reg.TIM_TM_H, Reg.TIM_TM_PER, Reg.TIM_TRIGOUT]
  else if Pg.PRG ≤ page ∧ page ≤ Pg.PRG + 2 then some [Reg.PRG_T_CTRL, Reg.PRG_RET_CTRL, Reg.PRG_REP_IDX]
  else if page = Pg.SFO then some [Reg.SFO_REQ]
  else none

/-- Whether an accessor may write at an offset of a page (R17, R441). Log entry 10 (DEDUCED). -/
def State.mayWrite (s : State) (acc : Accessor) (page off : Nat) : Bool :=
  match acc with
  | .sup => true
  | .service => true
  | .unit _ => false
  | .core _ =>
    if off < 0x40 then
      (coreRegs page).isNone || off == 8 || off == 0x10 || off == 0x14 || off == 0x18
    else
      match coreRegs page with
      | some l => l.contains (0x400 * homePage page off + off) || (isSel (homePage page off) off && off != Reg.PRG_FRC_SEL % 0x400)
      | none => !(page == Pg.CHN && 0x400 * page + off == Reg.CHN_OP_GO && rfld s.chn.regs Reg.CHN_OP_CODE 7 0 == 2)

/-! ## SOFT_RESET and ENABLE (R433) -/

/-- Whether SOFT_RESET has no effect on a page. Log entry 11 (DEDUCED). -/
def softFixed (page : Nat) : Bool :=
  page == Pg.ID || page == Pg.SUP || page == Pg.PWR || page == Pg.REC || page == Pg.NVS || page == Pg.TIM || page == Pg.SAFC
  || page == Pg.SAFH || page == Pg.SFO

/-- Group sides and controllers brought in line with ENABLE and the module's state (R310, R332, R433). -/
def State.enableUnit (page : Nat) (on : Bool) (s : State) : State :=
  let on := on && s.mode.active
  if Pg.CAN ≤ page ∧ page < Pg.CAN + 4 then { s with can := s.can.takePart (page - Pg.CAN) on }
  else if Pg.FIO ≤ page ∧ page < Pg.FIO + 12 then { s with fio := s.fio.setReset (!on) (page - Pg.FIO) }
  else if Pg.SER ≤ page ∧ page < Pg.SER + 12 then (if on then s else { s with ser := s.ser.stop (page - Pg.SER) })
  else if Pg.POS ≤ page ∧ page < Pg.POS + 24 then (if on then s else { s with pos := s.pos.abandon (page - Pg.POS) })
  else if page = Pg.GNSC ∧ on = false then s.onGns Gns.ppsEnd
  else s

/-- SEQ's internal state as after power-on, but for the fathom count and its grid, which only a reset sets back (R39, DEDUCED, log entry 11). -/
def Seq.soften (u : Seq) : Seq :=
  { Seq.fresh with
    regs := u.regs, count := u.count, counted := u.counted, startUs := u.startUs, lenUs := u.lenUs, phaseUs := u.phaseUs
    fnoHigh := u.fnoHigh }

/-- The internal state of a page's unit as after power-on (R433), its registers having returned to their reset values.
Log entry 11 (DEDUCED). -/
def State.softUnit (page : Nat) (s : State) : State :=
  if page = Pg.SNAP then { s with snap := { Snap.fresh with regs := s.snap.regs } }
  else if page = Pg.SEQ then { s with seq := s.seq.soften }
  else if page = Pg.PRG then
    { s with
      prg := { Prg.fresh s.prg.copyA s.prg.copyB with regs := s.prg.regs, f0 := s.prg.f0 }
      sup := { s.sup with regs := rmod s.sup.regs Reg.SUP_STAT (fun w => putBit w 7 false) } }
  else if page = Pg.PRG + 1 ∨ page = Pg.PRG + 2 then { s with prg := { s.prg with tokens := setAt s.prg.tokens (page - Pg.PRG) 0 } }
  else if page = Pg.FQ then { s with fq := { Fq.fresh with regs := s.fq.regs } }
  else if page = Pg.CHN then
    (let base := rfld s.chn.regs Reg.CHN_BASE 7 0
     { s with chn := Chn.fresh s.chn.regs (wd base) })
  else if page = Pg.PRP then { s with net := Net.fresh s.net.regs }
  else if page = Pg.PTP then { s with ptp := Ptp.fresh s.ptp.regs }
  else if Pg.CAN ≤ page ∧ page < Pg.CAN + 4 then
    { s with can := { s.can with buses := sdrop (fun k => k == page - Pg.CAN) s.can.buses } }
  else if page = Pg.FLT then
    (let f := { Flt.fresh with regs := s.flt.regs, taps := s.flt.taps }
     { s with flt := f.restartAll })
  else if page = Pg.EST then { s with est := { Est.fresh with regs := s.est.regs } }
  else if page = Pg.FUS0 then { s with fus := { Fus.fresh with regs := s.fus.regs, data := s.fus.data, seed := s.fus.seed } }
  else if page = Pg.FUS1 then { s with fus := { s.fus with data := FusData.fresh, seed := false } }
  else if page = Pg.GNS ∨ page = Pg.GNS + 1 then
    (let b := page - Pg.GNS
     { s with gns := { s.gns with
         chans := sdrop (fun k => k / 24 == b) s.gns.chans
         supplyOff := s.gns.supplyOff &&& (3 - 2 ^ b)
         cutRec := s.gns.cutRec &&& (3 - 2 ^ b) } })
  else if page = Pg.GNSC then
    { s with gns := { Gns.fresh with
        regs := s.gns.regs, chans := s.gns.chans, supplyOff := s.gns.supplyOff, cutRec := s.gns.cutRec } }
  else if page = Pg.CTL ∨ page = Pg.CTL + 1 then
    (let n := page - Pg.CTL
     { s with ctl := { s.ctl with
         swaps := s.ctl.swaps.filter (fun k => k / 512 != n)
         started := s.ctl.started.filter (fun k => k / 512 != n)
         work := s.ctl.work.filter (fun k => k.1 != n)
         stage := if n = 0 then Stage.fresh else s.ctl.stage } })
  else if page = Pg.SOL0 then { s with sol := { Sol.fresh with regs := s.sol.regs } }
  else if page = Pg.ALC then { s with alc := { Alc.fresh with regs := s.alc.regs } }
  else if Pg.SER ≤ page ∧ page < Pg.SER + 12 then
    { s with ser := { s.ser with ports := sdrop (fun k => k == page - Pg.SER) s.ser.ports } }
  else if Pg.FIO ≤ page ∧ page < Pg.FIO + 12 then
    { s with fio := { s.fio with groups := sdrop (fun k => k == page - Pg.FIO) s.fio.groups } }
  else if Pg.POS ≤ page ∧ page < Pg.POS + 24 then
    { s with pos := { s.pos with chans := sdrop (fun k => k == page - Pg.POS) s.pos.chans } }
  else s

/-- SOFT_RESET of a page (R433): registers, header and internal state; PAGE_SEQ counts on, CHN_BASE keeps the strap value.
Log entry 11 (DEDUCED). -/
def State.softReset (page : Nat) (s : State) : State :=
  let base := rget s.chn.regs Reg.CHN_BASE
  let seq := rget s.hdr (cellKey page 0x1C 0)
  let s := s.setCells page (clearPage (s.cells page) page)
  let s : State := if page = Pg.CHN then { s with chn := { s.chn with regs := rset s.chn.regs Reg.CHN_BASE base } } else s
  let s : State := { s with hdr := rset (clearPage s.hdr page) (cellKey page 0x1C 0) (seq + 1#32) }
  (s.softUnit page).enableUnit page true

/-! ## The common header (R432–R436) -/

/-- A write of PAGE_CTRL (R433). -/
def State.ctrlWrite (acc : Accessor) (page : Nat) (v : Word) (s : State) : State :=
  let fixed := match layoutOf page with | some l => l.enFixed | none => true
  let core := match acc with | .core _ => (coreRegs page).isSome | _ => false
  let run := s.mode == .run
  let enDiff := !fixed && bit v 0 != hdrEnabled s.hdr page
  let soft := bit v 1 && !softFixed page
  if core then
    let s := if enDiff || soft then s.code (accPage acc) 0x30A1 [] else s
    let s : State := { s with hdr := hdrSeq (rmod s.hdr (cellKey page 8 0) (fun w => putBit w 2 (bit v 2))) page }
    if bit v 2 then s.takeCopy page else s
  else if soft && !run then s.softReset page
  else
    let s := if run && (enDiff || soft) then s.code page 0x1001 [] else s
    let s : State := { s with hdr := hdrSeq (rmod s.hdr (cellKey page 8 0) (fun w => putBit w 2 (bit v 2))) page }
    let s := if bit v 2 then s.takeCopy page else s
    if enDiff && !run then
      let s : State := { s with
        hdr := rmod s.hdr (cellKey page 8 0) (fun w => putBit w 0 (bit v 0))
        sup := { s.sup with passed := false } }
      s.enableUnit page (bit v 0)
    else s

/-- A write in the common header of a page: the state after it, and the STATUS of R304. -/
def State.headerWrite (acc : Accessor) (page off : Nat) (v : Word) (s : State) : State × Nat :=
  let evts := match layoutOf page with | some l => wd l.evt | none => 0
  if off = 8 then
    let y := s.ctrlWrite acc page v
    (y, if s.mode == .run && !((match layoutOf page with | some l => l.enFixed | none => true)) && bit v 0 != hdrEnabled s.hdr page then 1 else 0)
  else if off = 0x10 then ({ s with hdr := hdrSeq (rmod s.hdr (cellKey page 0x10 0) (fun w => w &&& ~~~v)) page }, 0)
  else if off = 0x14 then ({ s with hdr := hdrSeq (rset s.hdr (cellKey page 0x14 0) (v &&& evts)) page }, 0)
  else if off = 0x18 then
    if bit v 31 then ({ s with hdr := hdrSeq (rset s.hdr (cellKey page 0x18 0) 0) page }, 0) else (s, 0)
  else (s, 1)

/-! ## Chain operations on the own registers (R284, R412) -/

/-- What a swap request is validated against (R52, R55). -/
def State.furlongIn (s : State) : FurlongIn := ⟨if s.mode = .config then s.seq.lenReg else s.seq.lenUs, s.feature⟩

/-- A swap requested (R53), with its value of SEQ_SWAP_AT. -/
def State.swapRequest (s : State) : State :=
  let f := s.furlongIn
  s.onSeq (fun u => u.swapRequest s.mem f)

/-- Comparators armed or disarmed by a write (R293), the levels of the data lines given. -/
def State.armed (n : Nat) (x : W Tim × List (Nat × Nat)) (lines : BitVec 24) (s : State) : State :=
  let s := ({ s with tim := x.1.u } : State).commit x.1.fx x.1.st
  let s := s.matchActions lines x.2
  if x.2.isEmpty then s else s.matchSnaps [n]

/-- A Chain operation acting on the own registers (R284, R412): RESULT and error code. -/
def State.actOp (op : Nat) (arg : Nat) (s : State) : State × Nat × Nat :=
  if op = 1 then
    let s : State := { s with
      seq := { s.seq with regs := rset s.seq.regs Reg.SEQ_SWAP_AT (wd arg) }
      hdr := hdrSeq s.hdr Pg.SEQ }
    if s.seq.swapPending then (s, 0, 0)
    else
      let s := s.swapRequest
      if s.seq.swapPending then (s, 0, 0) else (s, 1, 0x201)
  else if op = 2 then
    let s : State := { s with
      prg := { s.prg with regs := rset s.prg.regs Reg.PRG_CHG_AT (wd arg) }
      hdr := hdrSeq s.hdr Pg.PRG }
    let s := s.onPrg (Prg.change (s.feature 11) (s.mode == .run))
    if s.prg.chgState = 3 then (s, 0, 0) else (s, 1, 0xB02)
  else if op = 3 then
    let t := signed 64 arg
    if t ≤ s.tim.time then (s, 1, 0x184)
    else
      let regs := rset64 (rset s.tim.regs (rk Reg.TIM_TM_PER 0 15) 0) (rk Reg.TIM_TM_L 0 15) (rk Reg.TIM_TM_H 0 15) t
      let u : Tim := { s.tim with regs := rset regs (rk Reg.TIM_TM_CFG 0 15) 3#32 }
      (s.armed 15 (u.armOn 15 t) 0, 0, 0)
  else (s, 1, 0)

/-- GO (R284): the operation is sent, and this member, a target itself, acts on its own registers. -/
def State.opGo (s : State) : State :=
  if s.chn.opBusy then s.code Pg.CHN 0x1C31 []
  else
    let op := rfld s.chn.regs Reg.CHN_OP_CODE 7 0
    let arg := rget64 s.chn.regs Reg.CHN_OP_ARG_L Reg.CHN_OP_ARG_H
    let e := s.chnEnv
    let s := s.onChn (Chn.opStart e)
    let x := s.actOp op arg
    x.1.onChn (fun u => Chn.opAnswer u.base x.2.1 (W.of u))

/-! ## What a write does beside its cell -/

/-- PWR's work, with an UPDATE that loses its grant cut short (R115, R394). -/
def State.onPower (f : Pwr → W Pwr) (s : State) : State :=
  let had := s.grant 17
  let s := s.onPwr f
  if had && s.pwr.state 17 == 2 && s.seq.runs.any (fun r => r.span.unit == 0x15 && r.doneAt.isNone) then
    let s := s.onFus Fus.cut
    { s with seq := { s.seq with runs := s.seq.runs.map (fun r =>
        if r.span.unit = 0x15 ∧ r.doneAt = none then
          { r with result := false, doneAt := some ((s.seq.count - r.count) * s.seq.lenUs + s.tick) }
        else r) } }
  else s

/-- Requesters that have become idle release their grants at once (R395). -/
def State.releaseIdle (s : State) : State := s.onPower (fun u => W.of (u.release s.active))

/-- A bitmap's lowest four bits as whether each is set. -/
def sc (v : Word) (i : Nat) (f : State → State) (s : State) : State := if bit v i then f s else s

/-- Registers whose write keeps no cell of its own: the action alone says what is stored. -/
def ownCell (reg : Nat) : Bool :=
  [Reg.SEQ_SPAN_W7, Reg.SEQ_SHADOW_CNT, Reg.SEQ_PUB_SEL, Reg.FLT_COEF_DATA, Reg.CTL_I_DATA, Reg.ALC_P_DATA, Reg.SOL0_IMG_DATA,
   Reg.SOL1_MEM_DATA, Reg.SAFC_P_DATA, Reg.PRG_FRC_WORD, Reg.SUP_BOOT, Reg.TIM_TM_CFG, Reg.POS_COUNT, Reg.POS_CMP,
   Reg.POS_CMP_CFG].contains reg

/-- Whether a register's own rule discards a write of value v at window w (R51, R71, R175, R194, R222, R232, R293, R379, R408, R427). -/
def State.discards (s : State) (reg n w : Nat) (v : Word) : Bool :=
  if reg = Reg.SEQ_SPAN_W7 ∨ reg = Reg.SEQ_SHADOW_CNT then s.seq.swapPending
  else if reg = Reg.FLT_COEF_DATA then decide (rfld s.flt.regs Reg.FLT_COEF_SEL 1 0 < 2)
  else if reg = Reg.ALC_P_DATA then s.alc.pend
  else if reg = Reg.CTL_I_DATA then (Ctl.dataWrite s.mem n (s.mode == .run) v s.ctl).st.isEmpty
  else if reg = Reg.SOL0_IMG_DATA then s.sol.pend
  else if reg = Reg.SOL1_MEM_DATA then s.mode == .run
  else if reg = Reg.SAFC_P_DATA then !safWritable s.mode
  else if reg = Reg.REC_CTRL then s.mode != .service
  else if Reg.FEAT_ACCEPT0 ≤ reg ∧ reg ≤ Reg.FEAT_ACCEPT7 then s.mode != .config || rbit s.sup.regs Reg.FEAT_STATUS 0
  else if reg = Reg.TIM_TM_CFG ∨ reg = Reg.TIM_TM_L ∨ reg = Reg.TIM_TM_H ∨ reg = Reg.TIM_TM_PER then
    w == 15 && s.chn.opBusy && rfld s.chn.regs Reg.CHN_OP_CODE 7 0 == 3
  else false

/-- The code of a write that its register's own rule discards, for the registers whose unit does not record it itself. -/
def State.discarded (reg page : Nat) (s : State) : State :=
  if reg = Reg.REC_CTRL ∨ (Reg.FEAT_ACCEPT0 ≤ reg ∧ reg ≤ Reg.FEAT_ACCEPT7) then s.code page 0x1001 []
  else if page = Pg.TIM then s.code page 0x1D16 []
  else s

/-- MANUAL of GNSn_CH_CFG is written in SERVICE only (R141, DEDUCED, log entry 43): elsewhere the field keeps its value. -/
def State.fieldsOf (s : State) (reg : Nat) (old v : Word) : Word :=
  if reg = Reg.GNS_CH_CFG ∧ s.mode ≠ .service then putBit v 1 (bit old 1) else v

/-- The boot options stored in both copies of the key block at once (R429). -/
def State.bootWrite (v : Word) (s : State) : State :=
  let st : Store := ⟨Pg.NVS, nvsAddr 8, List.replicate 32 0, false⟩
  { s with nvs := (s.nvs.countWrites st).countWrites st |> fun u => { u with boot := v &&& 7#32 } }

/-- What writes of SUP_CTRL do (R418, R425), SAVE_CFG given. Log entry 79 (DEDUCED). -/
def State.supCtrl (save : State → State) (v : Word) (s : State) : State :=
  sc v 5 save (sc v 4 State.goService (sc v 3 State.goConfig (sc v 2 State.stopRequest (sc v 1 State.goRun (sc v 0 State.goReady s)))))

/-- SLEEP, RECOVER and AUTO_RECOVER of CANn_CTRL (R316, R318, R319), after the cell has changed. -/
def State.canCtrl (n : Nat) (old v : Word) (s : State) : State :=
  let t := s.tim.time
  let s := if bit v 2 || rbit s.can.regs (rk Reg.CAN_CTRL n 0) 1 then s.onCan (fun u => W.of (u.recoverStart n)) else s
  if bit v 3 && !bit old 3 then s.onCan (fun u => u.sleep n t)
  else if bit old 3 && !bit v 3 then
    s.onCan (fun u => Can.wakeWrite n t { u with regs := rmod u.regs (rk Reg.CAN_CTRL n 0) (fun x => putBit x 3 true) })
  else s

/-- A channel without EN is IDLE (R141), and a MANUAL one runs on what its window holds. Log entry 43 (DEDUCED). -/
def State.gnsChanWrite (b c : Nat) (s : State) : State :=
  let cfg := rget s.gns.regs (rk Reg.GNS_CH_CFG b c)
  if bit cfg 0 then s
  else { s with gns := s.gns.put b c { s.gns.chan b c with state := 0, prn := 0, sec := false, nav := false, pend := none } }

/-- FUS0_SC_CFG (R108): the first datagram after a slot is enabled is always accepted. -/
def State.scanWrite (k : Nat) (old v : Word) (s : State) : State :=
  if bit v 0 != bit old 0 then { s with fus := { s.fus with last := s.fus.last.filter (fun x => x.1 != k) } } else s

/-- A retained save requested (R250): it is lost while SUP has stopped (R424), and there is nothing to save without a running image. -/
def State.requestSave (s : State) : State :=
  if s.islandUp 1 && !s.sup.dead && s.prg.image.isSome then { s with prg := s.prg.requestSave } else s

/-- The effect of a write beside its cell: `reg` with its instance n and window w, the value written and the value before.
Log entry 10 (DEDUCED). -/
def State.act (save : State → State) (reg n w : Nat) (v old : Word) (s : State) : State :=
  if reg = Reg.SUP_CTRL then s.supCtrl save v
  else if reg = Reg.SUP_RESET then s.resetWrite (rfld s.chn.regs Reg.CHN_BASE 7 0) v
  else if reg = Reg.SUP_BOOT then s.bootWrite v
  else if reg = Reg.PWR_LIMIT then s.onPower (fun u => Pwr.adjust s.res s.now (W.of u))
  else if reg = Reg.SNAP_TRIG then sc v 0 (·.commit { Fx.none with snaps := [0] } []) s
  else if reg = Reg.SEQ_SPAN_W7 then s.onSeq (Seq.spanStore v)
  else if reg = Reg.SEQ_SHADOW_CNT then s.onSeq (Seq.countWrite v)
  else if reg = Reg.SEQ_SWAP then sc v 0 State.swapRequest s
  else if reg = Reg.SEQ_PUB_SEL then { s with seq := s.seq.pubSel v }
  else if reg = Reg.TIM_SRC then s.onTim (fun u => Tim.reselect (W.of u))
  else if reg = Reg.TIM_TM_CFG then
    (let f := s.fresh
     f.2.armed w (f.2.tim.matchArm w (v &&& 0xFF0F#32)) (f.1.setWidth 24))
  else if reg = Reg.REC_CTRL then sc v 0 (·.onLog (Rec.shelfClear true)) s
  else if reg = Reg.PRG_CHG_CTRL then
    (let f := s.feature 11
     let r := s.mode == .run
     sc v 2 (·.onPrg Prg.abort) (sc v 1 (·.onPrg (Prg.change f r)) (sc v 0 (·.onPrg (Prg.check f r)) s)))
  else if reg = Reg.PRG_T_CTRL then
    (let p := if bit v 0 then s.prg.stopTask w else s.prg
     let p := if bit v 1 then p.startTask w else p
     { s with prg := if bit v 2 then p.clearStats w else p })
  else if reg = Reg.PRG_RET_CTRL then sc v 0 State.requestSave s
  else if reg = Reg.PRG_FRC_WORD then s.onPrg (Prg.forceCommit w v)
  else if reg = Reg.SAFC_CONFIRM then s.onSaf (Saf.confirm (s.feature 12) s.mode v)
  else if reg = Reg.SAFC_P_DATA then s.onSaf (Saf.stage s.mode v)
  else if reg = Reg.SAFC_P_LOAD then sc v 0 (fun s => { s with saf := s.saf.check }) s
  else if reg = Reg.FQ_FLUSH0 ∨ reg = Reg.FQ_FLUSH1 then { s with fq := s.fq.flushRequest ((reg - Reg.FQ_FLUSH0) / 4) v }
  else if reg = Reg.FQ_CFG then (if bit old 0 && !rbit s.fq.regs (rk Reg.FQ_CFG 0 w) 0 then { s with fq := s.fq.disable w } else s)
  else if reg = Reg.CHN_CTRL then
    sc v 1 (fun s => { s with chn := s.chn.rejoin s.seq.count }) (sc v 0 (fun s => { s with chn := s.chn.clear }) s)
  else if reg = Reg.CHN_OP_GO then sc v 0 State.opGo s
  else if reg = Reg.EST_CTRL then sc v 0 (fun s => { s with est := { s.est with reinit := true } }) s
  else if reg = Reg.EST_R_CTRL then
    sc v 1 (fun s => { s with est := { s.est with withdraw := w :: s.est.withdraw.filter (· != w) } })
      (sc v 0 (fun s => { s with est := { s.est with admits := w :: s.est.admits.filter (· != w) } }) s)
  else if reg = Reg.FUS0_SC_CFG then s.scanWrite w old v
  else if reg = Reg.FUS1_SEED then sc v 0 (fun s => { s with fus := { s.fus with seed := true } }) s
  else if reg = Reg.GNS_CH_CFG then s.gnsChanWrite n w
  else if reg = Reg.GNS_CH_CARR ∨ reg = Reg.GNS_CH_CODE then { s with gns := s.gns.manual n w (reg == Reg.GNS_CH_CARR) v }
  else if reg = Reg.GNSC_SNAP_CTRL then
    sc v 2 (fun s => s.onGns (Gns.process (s.grant 19))) (sc v 1 (fun s => { s with gns := s.gns.exportStart (s.feature 10) })
      (sc v 0 (fun s => s.onGns (Gns.snapStart s.tim.time s.epoch)) s))
  else if reg = Reg.CTL_I_DATA then s.onCtl (Ctl.dataWrite s.mem n (s.mode == .run) v)
  else if reg = Reg.CTL_I_SWAP then sc v 1 (fun s => s.onCtl (Ctl.swapAll s.mem n)) (sc v 0 (·.onCtl (Ctl.swapOne n)) s)
  else if reg = Reg.SOL0_IMG_DATA then s.onSol (Sol.imgWrite v)
  else if reg = Reg.SOL0_IMG_SWAP then sc v 0 (fun s => s.onSol (Sol.imgSwap s.mem (s.feature 4) (s.mode == .run))) s
  else if reg = Reg.SOL0_WARM_CTRL then sc v 0 (·.onSol Sol.coldRequest) s
  else if reg = Reg.SOL1_MEM_DATA then s.onSol (Sol.memWrite (s.mode == .run) v)
  else if reg = Reg.ALC_P_DATA then s.onAlc (Alc.dataWrite v)
  else if reg = Reg.ALC_SWAP then sc v 0 (fun s => s.onAlc (Alc.swap s.mem s.flt (s.feature 6) (s.mode == .run))) s
  else if reg = Reg.FLT_COEF_DATA then s.onFlt (Flt.coefWrite v)
  else if reg = Reg.CAN_CTRL then s.canCtrl n old v
  else if reg = Reg.FIO_OUT_SET then { s with fio := s.fio.outSet n v }
  else if reg = Reg.FIO_OUT_CLR then { s with fio := s.fio.outClr n v }
  else if reg = Reg.POS_CFG then (if bits v 1 0 ≠ bits old 1 0 then { s with pos := s.pos.abandon n } else s)
  else if reg = Reg.POS_COUNT then { s with pos := s.pos.preset n v }
  else if reg = Reg.POS_REQ then
    sc v 0 (fun s =>
      let f := s.fresh
      f.2.onPos (Pos.request f.2.mode f.2.now f.2.tim.time n (bit f.1 0))) s
  else if reg = Reg.POS_CMP then s.onPos (Pos.writeCmp n s.now v)
  else if reg = Reg.POS_CMP_CFG then s.onPos (Pos.writeCmpCfg n s.now (v &&& 0xF#32))
  else s

/-! ## The write itself (R8, R304, R435) -/

/-- The cell of a register after a write (R8): `run` leaves RWL fields as they are. -/
def RegRow.written (r : RegRow) (run : Bool) (old v : Word) : Word :=
  let mask := wd (if run then r.rw else r.rw ||| r.rwl)
  ((old &&& ~~~mask) ||| (v &&& mask)) &&& ~~~(v &&& wd r.w1c)

/-- Whether a write reaches a field that takes it. -/
def RegRow.takes (r : RegRow) (run : Bool) (v : Word) : Bool :=
  (if run then r.rw else r.rw ||| r.rwl) != 0 || r.wo != 0 || v &&& wd (r.w1c ||| r.sc) != 0#32

/-- A write of a listed register of a page at its window; `act` is what it does beside its cell, given instance, window and the value
before. The STATUS of R304 is 0 written, 1 discarded at the page. Log entry 10 (DEDUCED). -/
def State.rowWrite (page off : Nat) (v : Word) (act : Nat → Nat → Word → State → State) (s : State) : State × Nat :=
  let hp := homePage page off
  match rowOf hp off with
  | none => (s, 1)
  | some r =>
    match s.windowOf hp r with
    | none => (s, 1)
    | some w =>
      let x := regOf hp off
      let run := s.mode == .run
      let key := cellKey hp off w
      let shown := s.regWord hp off r
      let v := s.fieldsOf x.1 (rget (s.cells hp) key) v
      let lost := run && (v ^^^ shown) &&& wd r.rwl != 0#32
      let s := if lost then s.code page 0x1001 [] else s
      let manual := (x.1 == Reg.GNS_CH_CARR || x.1 == Reg.GNS_CH_CODE) && s.mode == .service && rbit s.gns.regs (rk Reg.GNS_CH_CFG x.2 w) 1
      if s.discards x.1 x.2 w v then
        (if r.takes run v then ((if ownCell x.1 && x.1 != Reg.TIM_TM_CFG then act x.2 w shown s else s).discarded x.1 page, 1) else (s, 1))
      else if r.takes run v || manual then
        let old := rget (s.cells hp) key
        let s : State := { s with hdr := hdrSeq s.hdr page }
        let s := if r.rwl != 0 && !run then { s with sup := { s.sup with passed := false } } else s
        let s := if ownCell x.1 then s else s.setCells hp (rset (s.cells hp) key (r.written run old v))
        (act x.2 w old s, if lost then 1 else 0)
      else (s, if r.readOnly || lost then 1 else 0)

/-- A register write by an accessor (R6, R15, R17, R441), its effect beside the cell given; with the STATUS of R304.
Log entry 10 (DEDUCED). -/
def State.regWriteWith (act : Nat → Nat → Word → State → State) (acc : Accessor) (page off width : Nat) (v : Word) (s : State) :
    State × Nat :=
  if !s.alive acc page off then (s, 3)
  else if !s.pageUp page then (s.code (accPage acc) 0x30B3 [], 3)
  else if !s.mayWrite acc page off then (s.code (accPage acc) 0x30A1 [], 2)
  else if off % 4 ≠ 0 ∨ width ≠ 4 then (s.code page 0x1002 [], 2)
  else
    let y := if off < 0x40 then s.headerWrite acc page off v else s.rowWrite page off v act
    (y.1.releaseIdle, y.2)

end Sys2Proof.Machine
end

