-- ==== Sys2Proof/Machine/Access.lean ====
section
/-! DEFINITION. Accesses of the internal address map by an accessor (R6, R15–R17, R21–R24, R29, R441): reading registers, reading and
writing memory, the firkin ports, and the configuration set (R425). -/

namespace Sys2Proof.Machine

/-! ## Reading a register (R6, R7, R15) -/

/-- The block of memory that a read of a register reads, and the unit that reads it (R21). -/
def State.windowBlock (s : State) (reg n : Nat) : Option (Nat × Nat) :=
  if Reg.SEQ_SPAN_W0 ≤ reg ∧ reg ≤ Reg.SEQ_SPAN_W7 then
    let bank := if rbit s.seq.regs Reg.SEQ_SPAN_IDX 16 then s.seq.bank else !s.seq.bank
    some (Pg.SEQ, spanAddr bank (rfld s.seq.regs Reg.SEQ_SPAN_IDX 9 0))
  else if reg = Reg.CTL_I_DATA then
    let i := rfld s.ctl.regs (rk Reg.CTL_SEL n 0) 8 0
    let win := rget s.ctl.regs (rk Reg.CTL_I_WIN n i)
    some (ctlPage n, instAddr n i (bits win 6 3) (bits win 2 0))
  else if reg = Reg.ALC_P_DATA then
    let b := if rbit s.alc.regs Reg.ALC_P_WIN 16 then s.alc.active else 1 - s.alc.active
    some (Pg.ALC, alcWordAddr b (rfld s.alc.regs Reg.ALC_P_WIN 10 0))
  else if reg = Reg.SOL0_IMG_DATA then
    let b := if rbit s.sol.regs Reg.SOL0_IMG_WIN 16 then s.sol.active else 1 - s.sol.active
    some (Pg.SOL0, imgAddr b (rfld s.sol.regs Reg.SOL0_IMG_WIN 14 0))
  else if reg = Reg.SOL1_MEM_DATA then
    (if s.mode = .run then none else some (Pg.SOL1, 0x51000000 + 4 * rfld s.sol.regs Reg.SOL1_MEM_WIN 18 0))
  else if Reg.REC_WIN0 ≤ reg ∧ reg ≤ Reg.REC_WIN15 then some (Pg.REC, s.recAddr ((reg - Reg.REC_WIN0) / 4))
  else none

/-- A block read by a page's unit, with what it reports recorded. -/
def State.fetchBlock (page a : Nat) (s : State) : State := s.commit { Fx.none with reads := [(page, a)] } []

/-- What a read of a listed register leaves behind: the block of a window read, the read of R232 in RUN, the words it latches. -/
def State.afterRead (page off : Nat) (s : State) : State :=
  let x := regOf (homePage page off) off
  let s := match s.windowBlock x.1 x.2 with
    | some b => s.fetchBlock b.1 b.2
    | none => if x.1 = Reg.SOL1_MEM_DATA then s.code Pg.SOL1 0x1A04 [] else s
  s.readEffect page off

/-- A register read by an accessor: the state after it, the word returned, and the STATUS of R442. -/
def State.readReg (acc : Accessor) (page off width : Nat) (s : State) : State × Word × Nat :=
  let unit := match acc with | .unit _ => true | _ => false
  if !s.alive acc page off then (s, 0, 3)
  else if !s.pageUp page then (s.code (accPage acc) 0x30B3 [], 0, 3)
  else if unit then (s.code (accPage acc) 0x30A1 [], 0, 2)
  else if off % 4 ≠ 0 ∨ width ≠ 4 then (s.code page 0x1002 [], 0, 2)
  else (s.afterRead page off, s.peek page off, 0)

/-! ## Who reaches a region (R17) -/

/-- The island a region's memory lies in (R16). -/
def Region.island : Region → Nat
  | .bootRom => 1
  | .program => 2
  | .shared => 2
  | .nonvolatile => 0
  | .pages => 0
  | .sol0 => 3
  | .sol1 => 3
  | .fusion => 6
  | .snapshot => 7
  | .firkins => 2

/-- Whether a unit has a span in progress. -/
def State.underSpan (s : State) (page : Nat) : Bool := s.seq.runs.any (fun r => r.span.page == page && r.doneAt.isNone)

/-- Whether n bytes from a lie in the hidden destination half of a span in progress of a page's unit (R17, R46). Log entry 13 (DEDUCED). -/
def State.inHidden (s : State) (page a n : Nat) : Bool :=
  s.seq.runs.any (fun r =>
    let d := s.hidden r.span.dst r.span.dstLen
    r.span.page == page && r.doneAt.isNone && decide (d ≤ a) && decide (a + n ≤ d + 32 * r.span.dstLen))

/-- Whether an accessor may read n bytes from a in a region (R17). Log entry 13 (DEDUCED). -/
def State.mayRead (s : State) (acc : Accessor) (r : Region) (a n : Nat) : Bool :=
  let service := s.mode == .service
  match acc with
  | .sup => (match r with
    | .bootRom => true | .program => true | .shared => true | .nonvolatile => true
    | .sol0 => service | .sol1 => service | .fusion => service | .snapshot => service
    | .pages => false | .firkins => false)
  | .service => (match r with
    | .bootRom => true | .program => true | .shared => true
    | .nonvolatile => decide (a + n ≤ nvsAddr 8) || decide (nvsAddr 9 ≤ a)
    | .sol0 => service | .sol1 => service | .fusion => service | .snapshot => service
    | .pages => false | .firkins => false)
  | .core _ => (match r with
    | .program => true | .shared => true
    | _ => false)
  | .unit p => (match r with
    | .shared => p == Pg.CHN || s.underSpan p
    | .nonvolatile => p == Pg.NVS || p == Pg.REC
    | .sol0 => p == Pg.SOL0 || p == Pg.ALC
    | .sol1 => p == Pg.SOL1 || p == Pg.EST || p == Pg.ALC
    | .fusion => p == Pg.FUS0 || p == Pg.FUS1
    | .snapshot => p == Pg.GNSC
    | _ => false)

/-- Whether n bytes from a lie in the run slot that is not running (R233, R254). -/
def State.inOtherSlot (s : State) (a n : Nat) : Bool :=
  let b := runSlotBase (!s.prg.slot)
  decide (b ≤ a) && decide (a + n ≤ b + 0x400000)

/-- Whether SUP may write n bytes from a in a region in the present state (R17). -/
def State.supWrites (s : State) (r : Region) (a n : Nat) : Bool :=
  match r with
  | .program => s.mode == .boot || s.mode == .config || s.mode == .service
      || ((s.mode == .ready || s.mode == .run) && s.feature 11 && s.prg.image.isSome && s.inOtherSlot a n)
  | .shared => s.mode == .config || s.mode == .service
  | .fusion => s.mode == .config
  | _ => false

/-- Whether an accessor may write n bytes from a in a region (R17). Log entry 13 (DEDUCED). -/
def State.writesMem (s : State) (acc : Accessor) (r : Region) (a n : Nat) : Bool :=
  match acc with
  | .sup => s.supWrites r a n
  | .service => s.supWrites r a n
  | .core _ => false
  | .unit p => (match r with
    | .shared => s.inHidden p a n
    | .sol0 => p == Pg.SOL0 || p == Pg.ALC
    | .sol1 => p == Pg.SOL1 || p == Pg.EST || p == Pg.ALC
    | .fusion => p == Pg.FUS0 || p == Pg.FUS1
    | .snapshot => p == Pg.GNS || p == Pg.GNS + 1
    | _ => false)

/-- The unit identifier of an accessor at a firkin (R29); 0 for none. -/
def firkinId : Accessor → Nat
  | .sup => 1
  | .service => 1
  | .core n => 2 + n % 3
  | .unit p =>
    if p = Pg.SOL0 ∨ p = Pg.SOL1 then 0x10 + (p - Pg.SOL0)
    else if p = Pg.CTL ∨ p = Pg.CTL + 1 then 0x12 + (p - Pg.CTL)
    else if p = Pg.FLT then 0x14
    else if p = Pg.FUS0 ∨ p = Pg.FUS1 then 0x15
    else if p = Pg.GNSC then 0x16
    else if p = Pg.CHN then 0x20
    else if p = Pg.PRP then 0x21
    else if Pg.CAN ≤ p ∧ p < Pg.CAN + 4 then 0x22 + (p - Pg.CAN)
    else if Pg.SER ≤ p ∧ p < Pg.SER + 12 then 0x30 + (p - Pg.SER)
    else if p = Pg.REC then 0x40
    else if p = Pg.SNAP then 0x41
    else 0

/-! ## Reading and writing memory -/

/-- The region of n bytes from a; none when they do not lie in one region. -/
def regionOfRange (a n : Nat) : Option Region :=
  match regionOf a, regionOf (a + n - 1) with
  | some x, some y => if x = y then some x else none
  | _, _ => none

/-- An access that R17 discards. Log entry 13 (DEDUCED). -/
def State.refuseAccess (acc : Accessor) (s : State) : State := s.code (accPage acc) 0x30A1 []

/-- A byte of a region as a reader gets it (R16, R21): the boot ROM's bytes are the implementation's. -/
def State.regionBytes (s : State) (r : Region) (a n : Nat) : List Byte :=
  match r with
  | .bootRom => (upto n).map (fun i => Config.bootRom (a + i) ^^^ s.mem.readByte (a + i))
  | _ => s.mem.readBytes a n

/-- A read of n bytes from a by an accessor (R17): the state after it, the bytes, and the STATUS of R442. -/
def State.readMem (acc : Accessor) (a n : Nat) (s : State) : State × List Byte × Nat :=
  let zeros : List Byte := List.replicate n 0
  if !s.alive acc ((a - 0x40000000) / 0x400) (a % 0x400) then (s, zeros, 3)
  else
    match regionOfRange a n with
    | none => (s.refuseAccess acc, zeros, 2)
    | some .pages =>
      let y := s.readReg acc ((a - 0x40000000) / 0x400) (a % 0x400) n
      (y.1, (wordBytes y.2.1 ++ zeros).take n, y.2.2)
    | some .firkins =>
      if !s.islandUp 2 then (s.code (accPage acc) 0x30B3 [], zeros, 3)
      else if a % 16 = 8 ∧ n = 8 then
        let w := Fq.pop (firkinId acc) (a % 0x400 / 16) 0 (W.of s.fq)
        let data := w.fx.emits.flatMap (fun e => match e with | .readData ws => wordsBytes ws | _ => [])
        (({ s with fq := w.u } : State).commit { w.fx with emits := [] } [], data, 0)
      else (s.refuseAccess acc, zeros, 2)
    | some r =>
      if !s.mayRead acc r a n then (s.refuseAccess acc, zeros, 2)
      else if !s.islandUp r.island then (s.code (accPage acc) 0x30B3 [], zeros, 3)
      else
        let reads := (blocksOf a n).map (fun b => (accPage acc, 32 * b))
        (s.commit { Fx.none with reads := reads } [], s.regionBytes r a n, 0)

/-- A write of bytes from a by an accessor (R17), `act` being what a register write does beside its cell: the state after it, and the
STATUS of R304. -/
def State.writeMemWith (act : Nat → Nat → Nat → Word → Word → State → State) (acc : Accessor) (a : Nat) (data : List Byte) (s : State) :
    State × Nat :=
  let n := data.length
  if !s.alive acc ((a - 0x40000000) / 0x400) (a % 0x400) then (s, 3)
  else
    match regionOfRange a n with
    | none => (s.refuseAccess acc, 2)
    | some .pages =>
      let page := (a - 0x40000000) / 0x400
      let off := a % 0x400
      let reg := (regOf (homePage page off) off).1
      let v := wd (leNat (data.take 4))
      s.regWriteWith (fun n w old => act reg n w v old) acc page off n v
    | some .firkins =>
      if !s.islandUp 2 then (s.code (accPage acc) 0x30B3 [], 3)
      else if (a % 16 = 0 ∨ a % 16 = 4) ∧ n = 4 then
        (s.onFq (fun u => Fq.push (firkinId acc) (a % 0x400 / 16) (wd (leNat data)) (a % 16 == 4) 0 (W.of u)), 0)
      else (s.refuseAccess acc, 2)
    | some r =>
      if !s.writesMem acc r a n then (s.refuseAccess acc, 2)
      else if !s.islandUp r.island then (s.code (accPage acc) 0x30B3 [], 3)
      else
        let s := s.commit Fx.none [⟨accPage acc, a, data, false⟩]
        ({ s with prg := s.prg.slotWritten a }, 0)

/-! ## The configuration set (R425) -/

/-- Registers whose writes reach memory through a window: not registers of the set. -/
def dataWindow (reg : Nat) : Bool :=
  (Reg.SEQ_SPAN_W0 ≤ reg && reg ≤ Reg.SEQ_SPAN_W7) ||
  [Reg.FLT_COEF_DATA, Reg.CTL_I_DATA, Reg.ALC_P_DATA, Reg.SOL0_IMG_DATA, Reg.SOL1_MEM_DATA, Reg.SAFC_P_DATA].contains reg

/-- The address of a register of a page. -/
def regAddr (page off : Nat) : Nat := 0x40000000 + 0x400 * page + off

/-- The rows of a page that a set holds: RW and RWL fields, behind the SEL register at `sel` (0: behind none), each page's own. -/
def savedRows (page sel : Nat) : List RegRow :=
  match layoutOf page with
  | some l => l.rows.filter (fun r => (r.rw ||| r.rwl) != 0 && r.sel == sel && homePage page r.off == page
      && !dataWindow (regOf page r.off).1)
  | none => []

/-- A record of a register's present RW and RWL fields. -/
def State.savedRow (s : State) (page : Nat) (r : RegRow) : Nat × Word :=
  (regAddr page r.off, s.heldReg page r.off &&& wd (r.rw ||| r.rwl))

/-- The records of one window that the tool has declared: its SEL register at that window, then the registers behind it. -/
def State.savedWindow (s : State) (page sel w : Nat) : List (Nat × Word) :=
  let s : State := s.setCells page (rset (s.cells page) (cellKey page sel 0) (wd w))
  (regAddr page sel, wd w) :: (savedRows page sel).map (s.savedRow page)

/-- The records of a page: the windows declared for it, the header, then every register that is not windowed. -/
def State.savedPage (s : State) (windows : List (Nat × Nat × Nat)) (page : Nat) : List (Nat × Word) :=
  (windows.filter (fun x => x.1 == page)).flatMap (fun x => s.savedWindow page x.2.1 x.2.2)
    ++ [(regAddr page 8, rget s.hdr (cellKey page 8 0)), (regAddr page 0x14, rget s.hdr (cellKey page 0x14 0))]
    ++ (savedRows page 0).map (s.savedRow page)

/-- SAVE_CFG (R425): the present settings written as a set into the older copy, `ok` its read-back; `windows` are those the tool
declares, as (page, offset of the SEL register, window). Log entry 80 (DEDUCED). -/
def State.saveCfg (windows : List (Nat × Nat × Nat)) (ok : Bool) (s : State) : State :=
  if s.sup.dead then s
  else
    let r := cfgOlder s.mem
    let seq := match cfgNewer s.mem with | some c => cfgSeq s.mem (nvsAddr c) + 1 | none => 1
    let data := cfgBuild seq ((upto pageCount).flatMap (s.savedPage windows))
    if ok then
      let s := s.commit Fx.none [⟨Pg.NVS, nvsAddr r, data, false⟩]
      { s with nvs := s.nvs.mark r true }
    else s.onNvs (fun u => Nvs.fail r 0 (u.mark r false))

/-! ## Writes of any register -/

/-- What the write of a register does when no row of its own carries more: SAVE_CFG without declared windows, read back well. -/
def State.actPlain (reg n w : Nat) (v old : Word) (s : State) : State := s.act (·.saveCfg [] true) reg n w v old

/-- A write of bytes from a by an accessor. -/
def State.writeMem (acc : Accessor) (a : Nat) (data : List Byte) (s : State) : State × Nat :=
  s.writeMemWith (fun reg n w v old => State.actPlain reg n w v old) acc a data

/-- REGISTER_WRITE (R8): a write of a width to a register of a page. -/
def State.regWrite (acc : Accessor) (page off width : Nat) (v : Word) (s : State) : State × Nat :=
  let reg := (regOf (homePage page off) off).1
  s.regWriteWith (fun n w old => State.actPlain reg n w v old) acc page off width v

/-- A write of a named register (its offset from 0x4000_0000, the instance n of its page), `act` being what it does beside its cell. -/
def State.writeNamed (act : Nat → Nat → Word → State → State) (acc : Accessor) (reg n : Nat) (v : Word) (s : State) : State :=
  (s.regWriteWith act acc (reg / 0x400 + n) (reg % 0x400) 4 v).1

/-- A write of a named register with its plain action. -/
def State.writePlain (acc : Accessor) (reg n : Nat) (v : Word) (s : State) : State :=
  s.writeNamed (fun n w old => State.actPlain reg n w v old) acc reg n v

/-! ## Configuration sets applied (R425) -/

/-- A record applied as an access by SUP (R6–R8, R17); whether it was taken. Log entry 80 (DEDUCED). -/
def State.applyRecord (c : CfgRecord) (s : State) : State × Bool :=
  match c with
  | .word a v => let y := s.writeMem .sup a (wordBytes v); (y.1, y.2 == 0)
  | .bytes a d => if d = [] then (s, true) else let y := s.writeMem .sup a d; (y.1, y.2 == 0)
  | .bad => (s, false)

/-- Records applied in order up to the first that is discarded, whose index is returned. Log entry 80 (DEDUCED). -/
def State.applyRecords : List CfgRecord → Nat → State → State × Option Nat
  | [], _, s => (s, none)
  | c :: l, i, s =>
    let y := s.applyRecord c
    if y.2 then y.1.applyRecords l (i + 1) else (y.1, some i)

/-- Step 1 of R422: the state after it, and whether it is successful. -/
def State.applyCfg (s : State) : State × Bool :=
  if !bit s.nvs.boot 2 then (s, true)
  else
    match cfgNewer s.mem with
    | none => (s.code Pg.SUP 0x1195 [0xFFFFFFFF#32], false)
    | some c =>
      let a := nvsAddr c
      let y := s.applyRecords (cfgSet s.mem a) 0
      match y.2 with
      | some i => (y.1.code Pg.SUP 0x1195 [wd i], false)
      | none =>
        let seq := cfgSeq s.mem a
        let s := y.1
        let s : State := { s with sup := { s.sup with
          regs := rmod (rset s.sup.regs Reg.SUP_CFG_SEQ (wd seq)) Reg.SUP_STAT (fun x => putBit x 8 true) } }
        (s.code Pg.SUP 0x0196 [], true)

end Sys2Proof.Machine
end

