-- ==== Sys2Proof/Machine/Boot.lean ====
section
/-! DEFINITION. BOOT (R405, R421), and what SUP does in CONFIG before any request (R422): the configuration set, the fusion images, the
program image; the firmware copies of the boot region. -/

namespace Sys2Proof.Machine

/-! ## Firmware copies (R421, R425) -/

/-- The base address of firmware copy c. -/
def firmwareBase (c : Nat) : Nat := nvsAddr 0 + 0x100000 * c

/-- The version of firmware copy c when the copy is sound (R421): MAGIC first, then what the vendor's layout lets SUP check.
Log entry 78 (DESIGN CHOICE). -/
def firmwareVersion (m : Mem) (c : Nat) : Option Nat :=
  let a := firmwareBase c
  if m.isBad a || m.readWord a != 0x5A7C5709#32 then none
  else
    let inside := fun (k : Nat) => decide (a ≤ k) && decide (k < a + 0x100000)
    (Config.firmware (m.bytes.filter (fun e => inside e.1)) (m.flips.filter (fun e => inside (32 * e.1))) a).map (· % 65536)

/-- SUP_FW_VER (R429): the version of each copy, 0 for an unsound one. -/
def firmwareWord (m : Mem) : Word :=
  wd ((firmwareVersion m 0).getD 0 + 0x10000 * (firmwareVersion m 1).getD 0)

/-- The copies in the order in which BOOT checks them: the higher version first, FW0 first when both are equal. -/
def firmwareOrder (m : Mem) : List Nat :=
  if (firmwareVersion m 0).getD 0 < (firmwareVersion m 1).getD 0 then [1, 0] else [0, 1]

/-! ## Program images (R234, R239, R422) -/

/-- The image of a slot of the store: 0 A, 1 B. -/
def State.slotImage (s : State) (slot : Nat) : ImageAt := ⟨s.mem, nvsAddr (1 + slot)⟩

/-- The image keys of the key block (R303). -/
def State.imageKeys (s : State) : List (List Byte) := s.nvs.images.map (·.2)

/-- Whether the image of a slot holds every check of R239. -/
def State.slotSound (s : State) (slot : Nat) : Bool :=
  decide ((s.slotImage slot).firstFailure s.imageKeys s.seq.lenReg s.fq.regs = 0)

/-- SUP_IMG_A and SUP_IMG_B (R429): IMAGE_ID of each slot, 0 when unsound. Log entry 78 (DESIGN CHOICE). -/
def State.showImages (s : State) : State :=
  let id := fun (slot : Nat) => if s.slotSound slot then (s.slotImage slot).head 2 else 0#32
  { s with sup := { s.sup with regs := rsets s.sup.regs [(Reg.SUP_IMG_A, id 0), (Reg.SUP_IMG_B, id 1)] } }

/-- A sound image loaded into run slot 0 (R236, R239). -/
def State.loadImage (slot : Nat) (s : State) : State :=
  let x := s.slotImage slot
  { s with
    mem := x.loadInto false s.mem
    prg := s.prg.bootImage x.image
    sup := { s.sup with
      regs := rmod s.sup.regs Reg.SUP_STAT (fun w => putBit (putBit w 6 (slot == 1)) 7 true) } }

/-- Step 3 of R422 over slots in order: the first sound image is taken; whether there was one. -/
def State.takeImage : List Nat → State → State × Bool
  | [], s => (s, false)
  | slot :: l, s =>
    if s.slotSound slot then (s.loadImage slot, true) else (s.code Pg.SUP 0x1194 [wd slot]).takeImage l

/-! ## Fusion images (R116, R118, R422) -/

/-- Where the weight image and the berth maps lie in region 7 (R425). -/
def weightsAt : Nat := nvsAddr 7
/-- The berth-map image in region 7. -/
def mapsAt : Nat := nvsAddr 7 + 0x408000

/-- Whether an image of region 7 has its MAGIC and CRC, and lies within its part (R116, R118). -/
def fusionSound (m : Mem) (a magic : Nat) : Bool :=
  let len := (m.readWord (a + 4)).toNat
  m.readWord a == wd magic && decide (4096 ≤ len) && decide (len ≤ 0x401000) && !m.anyBad a ((len + 31) / 32)
    && m.readWord (a + 12) == crc32 (m.readBytes (a + 16) (len - 16))

/-- The copies of the weight image into FUS memory (R116). -/
def weightStores (m : Mem) : List Store :=
  if fusionSound m weightsAt 0x5A7C5701 then
    let len := (m.readWord (weightsAt + 4)).toNat
    [⟨Pg.SUP, 0x53C00000, m.readBytes weightsAt 4096, false⟩,
     ⟨Pg.SUP, 0x53400000, m.readBytes (weightsAt + 4096) (len - 4096), false⟩]
  else []

/-- The copies of the directory and the maps into FUS memory (R118). -/
def mapStores (m : Mem) : List Store :=
  if fusionSound m mapsAt 0x5A7C5702 then
    let len := (m.readWord (mapsAt + 4)).toNat
    let count := min 16 ((m.readByte (mapsAt + 8)).toNat)
    ⟨Pg.SUP, 0x53C01000, m.readBytes mapsAt 4096, false⟩ ::
      (upto count).map (fun k =>
        let off := 4096 + 0x40000 * k
        ⟨Pg.SUP, 0x53800000 + 0x40000 * k, m.readBytes (mapsAt + off) (min 0x40000 (len - off)), false⟩)
  else []

/-- Step 2 of R422. -/
def State.copyFusion (s : State) : State := s.commit Fx.none ((weightStores s.mem ++ mapStores s.mem).filter (fun st => st.data ≠ []))

/-! ## BOOT (R405, R421) -/

/-- RING_SEARCH_DONE (R405): the record of code 0x173 goes first, and REC's PAGE_ERR holds its code (R401). -/
def State.ringSearched (s : State) : State :=
  if s.mode = .off ∨ s.log.searched = true then s
  else
    let s := s.onLog (Rec.searchDone s.mem (fun next => s.recordOf ⟨Pg.REC, 0x0173, [wd next], true⟩))
    { s with hdr := hdrCode s.hdr Pg.REC 0x0173 }

/-- What SUP does in CONFIG before any request (R422). -/
def State.configStart (s : State) : State :=
  let one := s.applyCfg
  let s := one.1.copyFusion.showImages
  let pref := b2n (bit s.nvs.boot 0)
  let three := s.takeImage [pref, 1 - pref]
  let s := three.1
  if bit s.nvs.boot 1 && one.2 && three.2 then
    let s := s.goReady
    { s with sup := { s.sup with autoRun := s.sup.request.isSome } }
  else s

/-- CONFIG entered with firmware copy c running (R421). -/
def State.bootInto (c : Nat) (s : State) : State :=
  let ms := min 65535 ((s.now - s.sup.bootAt) / 1000000)
  let s : State := { s with sup := { s.sup with
    copy := some c
    regs := rmod (rmod (rset s.sup.regs Reg.SUP_BOOT_MS (wd ms)) Reg.SUP_STAT (fun w => putBit w 5 (c == 1)))
      Reg.DEV_REV (fun w => putBits w 23 8 ((firmwareVersion s.mem c).getD 0)) } }
  (s.enter .config).configStart

/-- The copies checked in order (R421). -/
def State.tryCopies : List Nat → State → State
  | [], s => (s.enter .halt).codeRec Pg.SUP 0x4193 []
  | c :: l, s => if (firmwareVersion s.mem c).isSome then s.bootInto c else (s.code Pg.SUP 0x1192 [wd c]).tryCopies l

/-- BOOT_COMPLETE (R421). -/
def State.bootComplete (s : State) : State :=
  if s.mode = .boot ∧ s.sup.dead = false then
    let s : State := { s with sup := { s.sup with regs := rset s.sup.regs Reg.SUP_FW_VER (firmwareWord s.mem) } }
    s.tryCopies (firmwareOrder s.mem)
  else s

/-- SUP_FETCH_FAULT (R424). Log entry 79 (DEDUCED). -/
def State.supFetchFault (s : State) : State :=
  if s.islandUp 1 then
    ({ s with sup := { s.sup with dead := true, request := none, autoRun := false } } : State).code Pg.SUP 0x40C6 []
  else s

end Sys2Proof.Machine
end

