-- ==== Sys2Proof/Machine/Outcome.lean ====
section
/-! DEFINITION. How a command's effect becomes an outcome: it takes place at its time. -/

namespace Sys2Proof.Machine

/-- A command that comes at a time and has an effect. Log entries 5 (DESIGN CHOICE), 88 (DESIGN CHOICE). -/
def State.does (a : At) (f : State → State) (s : State) : Host.Outcome State Fault Refusal := .next (f (s.at_ a))

/-- A unit's own happening: nothing happens in a page whose island does not run (R12, R15). Log entry 7 (DESIGN CHOICE). -/
def State.upOn (page : Nat) (f : State → State) (s : State) : State := if s.pageUp page then f s else s

/-- A happening of a unit at work: its island runs and its page is enabled (R15, R433). Log entry 7 (DESIGN CHOICE). -/
def State.workOn (page : Nat) (f : State → State) (s : State) : State := if s.works page then f s else s

/-- A happening of a function that a feature brings: nothing happens until the feature is accepted (R2). Log entry 12 (DEDUCED). -/
def State.withFeature (k : Nat) (f : State → State) (s : State) : State := if s.feature k then f s else s

/-- Whether a span is operation op of a unit. -/
def Span.isOp (unit op : Nat) (x : Span) : Bool := x.unit == unit && x.opcode == op

end Sys2Proof.Machine
end

