-- ==== Sys2Proof/Machine/ChainCommands.lean ====
section
/-! DEFINITION. The commands of CHN (R259–R286): its spans, the judgment, the reception of frames, mirror ticks and Chain operations. -/

namespace Sys2Proof.Machine

/-! ## The heartbeat (R266, R282) -/

/-- The bytes of n blocks of a private memory as the digest's CRC takes them. -/
def Mem.crcOf (m : Mem) (a n : Nat) : Word := crc32 (m.readBytes a (32 * n))

/-- The descriptor and the active coefficient bank of an instance (R175). -/
def loopConfig (m : Mem) (n k : Nat) : List Byte :=
  let bank := b2n (bit (descWord m n k 0) 5)
  m.readBytes (instAddr n k 0 0) 32 ++ m.readBytes (instAddr n k (1 + 4 * bank) 0) 128

/-- The configuration digest (R282): the CRC-32 over the CRCs of what is active. -/
def State.configDigest (s : State) : Word :=
  let loops := fun (n : Nat) => crc32 ((upto (s.ctl.cnt n)).flatMap (loopConfig s.mem n))
  crc32 (wordsBytes [s.mem.crcOf (spanAddr s.seq.bank 0) s.seq.active, s.mem.crcOf (alcWordAddr s.alc.active 0) 256,
    s.mem.crcOf (imgAddr s.sol.active 0) 2112, loops 0, loops 1])

/-- A digest register: the byte address of the word it names, in the visible half, when EN is set. -/
def State.digestAt (s : State) (reg word : Nat) : Option Nat :=
  let r := rget s.chn.regs reg
  if bit r 31 then some (s.visible (bits r 18 0) + 4 * word) else none

/-- The three digests of a heartbeat, where they stand. -/
def State.digests (s : State) : List (Option Nat) :=
  [s.digestAt Reg.CHN_DIG_EST 31, s.digestAt Reg.CHN_DIG_DEM 15, s.digestAt Reg.CHN_DIG_SOL 103]

/-- FLAGS of a heartbeat but for DOUBLE_FAULT, SYNCED and SELF_CLAIMED. -/
def State.heartbeatFlags (s : State) : Nat :=
  b2n (decide (s.prg.forceCount ≠ 0)) + 2 * b2n (s.log.flag 0) + 4 * b2n (rbit s.sol.regs Reg.SOL0_STAT 14) + 16 * b2n s.tim.timeOk

/-- The work of a HEARTBEAT span. -/
def State.sendHeartbeat (s : State) : State :=
  let at_ := s.digests
  let ds := at_.map (fun x => match x with | some a => s.mem.readWord a | none => 0#32)
  let reads := at_.filterMap (fun x => x.map (fun a => (Pg.CHN, a / 32 * 32)))
  let s := s.onChn (Chn.heartbeat s.chnEnv s.heartbeatFlags s.prg.forceCount ds (rget s.prg.regs Reg.PRG_IMG_ID) s.configDigest)
  s.commit { Fx.none with reads := reads } []

/-- HEARTBEAT (R266): complete when the frame has left both ports. -/
def execHeartbeat (a : At) (idx : Nat) (s : State) : Host.Outcome State Fault Refusal :=
  s.does a (State.startSpan idx (Span.isOp 0x20 2) false (fun _ _ s => (s.sendHeartbeat, true)))

/-! ## MIRROR (R271) -/

/-- The output image of a MIRROR span without the station entries whose block comes poisoned. -/
def imageOf (i : SpanIn) : List Word :=
  (upto i.srcLen).flatMap (fun k => if i.mem.isBad (i.src + 32 * k) then [] else i.mem.readWords (i.src + 32 * k) 8)

/-- The work of a MIRROR span; a station whose entry comes poisoned is left out (R23, log entry 22). -/
def State.mirrorWork (i : SpanIn) (s : State) : State :=
  let src := s.chn.role == 1
  let reads := if src then (upto i.srcLen).map (fun k => (Pg.CHN, i.src + 32 * k)) else []
  let bad := src && s.mem.anyBad i.src i.srcLen
  let s := s.onChn (Chn.mirror s.chnEnv (imageOf i) s.chn.latched)
  s.commit { Fx.none with
    reads := reads
    codes := if bad then [⟨Pg.CHN, 0x20C3, [], false⟩] else [] } []

/-- MIRROR (R271): a member with nothing to send completes at START. -/
def execMirror (a : At) (idx : Nat) (s : State) : Host.Outcome State Fault Refusal :=
  s.does a (fun s => s.startSpan idx (Span.isOp 0x20 1) (s.chn.role != 1 && s.chn.role != 4) (fun _ i s => (s.mirrorWork i, true)))

/-! ## The judgment (R267, R278–R282) -/

/-- JUDGMENT: J(F). -/
def execJudgment (a : At) (s : State) : Host.Outcome State Fault Refusal :=
  s.does a (State.workOn Pg.CHN (fun s => s.onChn (Chn.judge s.chnEnv)))

/-! ## Reception (R262–R264): `data` are the bytes after the EtherType -/

/-- A frame received on a port, `go` acting on an accepted frame of one subtype. Log entry 61 (DEDUCED). -/
def State.chainFrame (sub : Nat) (port : Fin 2) (data : List Byte) (go : ChainFrame → W Chn → W Chn) (s : State) : State :=
  s.upOn Pg.CHN (fun s =>
    let e := s.chnEnv
    let dup := fun (f : ChainFrame) (w : W Chn) => if f.subtype = 1 then Chn.markPath port.val f w else w
    s.onChn (fun u => u.receive e port.val data dup (fun f w => if f.subtype = sub then go f w else w)))

/-- The accepted frame of a subtype, if a reception accepts one. Log entry 61 (DEDUCED). -/
def State.acceptedOf (s : State) (sub : Nat) (data : List Byte) : Option ChainFrame :=
  if s.pageUp Pg.CHN then (s.chn.accepts s.chnEnv data).filter (fun f => f.subtype == sub) else none

/-- HEARTBEAT_RECEIVE (R267). -/
def execHeartbeatReceive (a : At) (port : Fin 2) (frame : List Byte) (s : State) : Host.Outcome State Fault Refusal :=
  s.does a (fun s => s.chainFrame 1 port frame (Chn.takeHeartbeat s.chnEnv port.val))

/-- VERDICT_RECEIVE (R275, R278). -/
def execVerdictReceive (a : At) (port : Fin 2) (frame : List Byte) (s : State) : Host.Outcome State Fault Refusal :=
  s.does a (fun s => s.chainFrame 2 port frame (Chn.takeVerdict s.chnEnv))

/-- PUB_RECEIVE (R270). -/
def execPubReceive (a : At) (port : Fin 2) (frame : List Byte) (s : State) : Host.Outcome State Fault Refusal :=
  s.does a (fun s => s.chainFrame 3 port frame (Chn.takePub s s.chnEnv))

/-- OUTPUT_RECEIVE (R273). -/
def execOutputReceive (a : At) (port : Fin 2) (frame : List Byte) (s : State) : Host.Outcome State Fault Refusal :=
  s.does a (fun s => s.chainFrame 4 port frame (Chn.takeOutput s.chnEnv))

/-- INPUT_RECEIVE (R272). -/
def execInputReceive (a : At) (port : Fin 2) (frame : List Byte) (s : State) : Host.Outcome State Fault Refusal :=
  s.does a (State.chainFrame 5 port frame Chn.takeInput)

/-- SAMPLE_RECEIVE (R268). -/
def execSampleReceive (a : At) (port : Fin 2) (frame : List Byte) (s : State) : Host.Outcome State Fault Refusal :=
  s.does a (State.chainFrame 6 port frame Chn.takeSamples)

/-- A point datagram that an accepted DATAGRAM frame carries, taken by FUS (R110, R269). -/
def State.takeDatagram (f : ChainFrame) (s : State) : State :=
  let b := f.body
  let data := sliceB b 16 (be16 b 12)
  s.workOn Pg.FUS0 (State.withFeature 7 (fun s =>
    s.onFus (Fus.chainDatagram f.origin (beNat (sliceB b 8 4)) (signed 64 (beNat (sliceB b 0 8))) s.seq.startUs s.seq.lenUs s.tick
      s.seq.count data)))

/-- DATAGRAM_RECEIVE (R110, R264). -/
def execDatagramReceive (a : At) (port : Fin 2) (frame : List Byte) (s : State) : Host.Outcome State Fault Refusal :=
  s.does a (fun s =>
    let f := s.acceptedOf 7 frame
    let s := s.chainFrame 7 port frame (fun _ w => w)
    match f with
    | some f => s.takeDatagram f
    | none => s)

/-- STATE_RECEIVE (R282). -/
def execStateReceive (a : At) (port : Fin 2) (frame : List Byte) (s : State) : Host.Outcome State Fault Refusal :=
  s.does a (fun s => s.chainFrame 8 port frame (Chn.takeState s.chnEnv))

/-- An operation that an accepted OP frame asks for, acted on and answered (R284). -/
def State.takeOp (f : ChainFrame) (s : State) : State :=
  let op := byteAt f.body 0
  let x := s.actOp op (beNat (sliceB f.body 4 8))
  x.1.onChn (fun u => Chn.sendAck x.1.chnEnv op (byteAt f.body 1) x.2.1 x.2.2 (W.of u))

/-- OP_RECEIVE (R284). -/
def execOpReceive (a : At) (port : Fin 2) (frame : List Byte) (s : State) : Host.Outcome State Fault Refusal :=
  s.does a (fun s =>
    let f := s.acceptedOf 9 frame
    let s := s.chainFrame 9 port frame (fun _ w => w)
    match f with
    | some f => s.takeOp f
    | none => s)

/-- ACK_RECEIVE (R284). -/
def execAckReceive (a : At) (port : Fin 2) (frame : List Byte) (s : State) : Host.Outcome State Fault Refusal :=
  s.does a (State.chainFrame 10 port frame Chn.takeAck)

/-! ## Mirror ticks (R268, R270) -/

/-- SAMPLE_TICK (R268). -/
def execSampleTick (a : At) (s : State) : Host.Outcome State Fault Refusal :=
  s.does a (State.workOn Pg.CHN (fun s => s.onChn (Chn.sampleTick s.chnEnv)))

/-- MIRROR_PUBLICATION (R270): tick CHN_PUB_AT. Log entry 57 (DEDUCED). -/
def execMirrorPublication (a : At) (s : State) : Host.Outcome State Fault Refusal :=
  s.does a (State.workOn Pg.CHN (fun s =>
    let x := s.chn.publishMirrors s.chnEnv
    (s.onChn (fun _ => x.1)).swapPairs x.2))

/-! ## Chain operations and the page's actions (R282, R284, R286) -/

/-- GO (R284): a write of CHN_OP_GO. -/
def execGo (a : At) (acc : Accessor) (s : State) : Host.Outcome State Fault Refusal :=
  s.does a (State.writePlain acc Reg.CHN_OP_GO 0 1#32)

/-- CHAIN_OP_TIMEOUT (R284). -/
def execChainOpTimeout (a : At) (s : State) : Host.Outcome State Fault Refusal :=
  s.does a (State.workOn Pg.CHN (fun s => s.onChn (Chn.opTimeout s.chnEnv)))

/-- CLR (R286): a write of CHN_CTRL.CLR. -/
def execClr (a : At) (acc : Accessor) (s : State) : Host.Outcome State Fault Refusal :=
  s.does a (State.writePlain acc Reg.CHN_CTRL 0 1#32)

/-- REJOIN (R282): a write of CHN_CTRL.REJOIN. -/
def execRejoin (a : At) (acc : Accessor) (s : State) : Host.Outcome State Fault Refusal :=
  s.does a (State.writePlain acc Reg.CHN_CTRL 0 2#32)

end Sys2Proof.Machine
end

