-- ==== Sys2Proof/Machine/EngineCommands.lean ====
section
/-! DEFINITION. The commands of the engines: FLT (R63–R82), EST (R83–R105), FUS (R106–R134), CTL0 and CTL1 with the setpoint stage
(R157–R192), ALC (R193–R213), SOL0 and SOL1 (R214–R232). -/

namespace Sys2Proof.Machine

/-! ## FLT -/

/-- SAMPLE_ARRIVAL (R66): a sample of a source, with its timestamp and value. -/
def execSampleArrival (a : At) (unit sel : Nat) (stamp val : Int) (s : State) : Host.Outcome State Fault Refusal :=
  s.does a (fun s => s.commit { Fx.none with samples := [⟨unit, sel, stamp, val⟩] } [])

/-- RESAMPLE (R77). -/
def execResample (a : At) (idx : Nat) (s : State) : Host.Outcome State Fault Refusal :=
  s.does a (State.startSpan idx (Span.isOp 0x14 1) false (fun _ i s =>
    s.ran (fun u s => { s with flt := u }) (R.good (Flt.resample i.mem i.startUs i.dst i.dstLen s.flt))))

/-- COEF_DATA_WRITE (R71): a write of FLT_COEF_DATA. -/
def execCoefDataWrite (a : At) (acc : Accessor) (value : Word) (s : State) : Host.Outcome State Fault Refusal :=
  s.does a (State.writePlain acc Reg.FLT_COEF_DATA 0 value)

/-! ## EST -/

/-- ESTIMATE (R83, R92). -/
def execEstimate (a : At) (idx : Nat) (s : State) : Host.Outcome State Fault Refusal :=
  s.does a (State.startSpan idx (Span.isOp 0x11 1) false (fun _ i s =>
    s.ran (fun u s => { s with est := u }) (Est.estimate s.flt.regs s.flt.slots i s.est)))

/-- ADMIT (R102): a write of EST_R_CTRL.ADMIT. -/
def execAdmit (a : At) (acc : Accessor) (s : State) : Host.Outcome State Fault Refusal :=
  s.does a (State.writePlain acc Reg.EST_R_CTRL 0 1#32)

/-- WITHDRAW (R102): a write of EST_R_CTRL.WITHDRAW. -/
def execWithdraw (a : At) (acc : Accessor) (s : State) : Host.Outcome State Fault Refusal :=
  s.does a (State.writePlain acc Reg.EST_R_CTRL 0 2#32)

/-- REINIT (R98): a write of EST_CTRL with REINIT at 1, its other fields as they stand. -/
def execReinit (a : At) (acc : Accessor) (s : State) : Host.Outcome State Fault Refusal :=
  s.does a (fun s => s.writePlain acc Reg.EST_CTRL 0 (rget s.est.regs Reg.EST_CTRL ||| 1#32))

/-! ## FUS -/

/-- The body of a DATAGRAM frame (R264). -/
def datagramBody (stamp : Int) (src : Nat) (d : List Byte) : List Byte :=
  beBytes 8 stamp.toNat ++ beBytes 4 src ++ beBytes 2 d.length ++ beBytes 2 0 ++ d

/-- POINT_DATAGRAM (R106–R109): taken or discarded, and forwarded on the Chain with MIRROR_OUT (R132, R269). -/
def execPointDatagram (a : At) (src dport : Nat) (frag : Bool) (data : List Byte) (s : State) : Host.Outcome State Fault Refusal :=
  s.does a (State.workOn Pg.FUS0 (State.withFeature 7 (fun s =>
    let t := s.tim.time
    let x := Fus.datagram src dport frag t s.seq.count s.seq.lenUs data s.fus
    let s := s.onFus (fun _ => x.1)
    if x.2 && s.fus.mirrorOut && s.works Pg.CHN then s.onChn (fun u => Chn.send s.chnEnv 7 (datagramBody t src data) (W.of u)) else s)))

/-- BINNING (R111): in READY and RUN. -/
def execBinning (a : At) (s : State) : Host.Outcome State Fault Refusal :=
  s.does a (State.workOn Pg.FUS0 (State.withFeature 7 (fun s =>
    if s.mode = .ready ∨ s.mode = .run then s.onFus (Fus.binning s.mem s.vis s.seq.startUs) else s)))

/-- UPDATE (R113, R129): without its grant, which FUS requests by INGEST_EN only (R395), it has no result (R394; DEDUCED, log entry 25). -/
def execUpdate (a : At) (idx : Nat) (s : State) : Host.Outcome State Fault Refusal :=
  s.does a (State.startSpan idx (Span.isOp 0x15 1) false (fun _ i s =>
    s.ran (fun u s => { s with fus := u }) (if s.pwr.granted 17 then Fus.update i s.fus else Fus.ungranted s.fus)))

/-- The final write of the UPDATE in progress (R129), once tick DEADLINE − 1 has come. -/
def State.finalWrite (idx : Nat) (s : State) : State :=
  match s.seq.run idx with
  | none => s
  | some r =>
    let len := max 1 s.seq.lenUs
    let t := r.span.deadline - 1
    if r.span.unit = 0x15 ∧ r.doneAt = none ∧ s.pageUp Pg.FUS0 = true ∧ reached (r.count + t / len, t % len) s.here = true then
      let dst := s.hidden r.span.dst r.span.dstLen
      let out := 1000 * (s.seq.startUs + (t % len + 1 : Nat))
      let s := s.onFus (Fus.finalWrite dst out s.seq.count r.span.start r.span.deadline)
      s.spanDone idx true
    else s

/-- UPDATE_FINAL_WRITE (R129). -/
def execUpdateFinalWrite (a : At) (idx : Nat) (s : State) : Host.Outcome State Fault Refusal := s.does a (State.finalWrite idx)

/-- SEED (R119): a write of FUS1_SEED. -/
def execSeed (a : At) (acc : Accessor) (s : State) : Host.Outcome State Fault Refusal :=
  s.does a (State.writePlain acc Reg.FUS1_SEED 0 1#32)

/-! ## CTL0 and CTL1 (R157–R192) -/

/-- The blocks that the setpoint stage reads in a run (R161): of the command or mirror pair, of the estimate, and, where the mode or a
request needs them, of the berth pose and of the ALC indication. -/
structure StageReads where
  command  : Nat
  estimate : List Nat
  pose     : Option Nat
  hinge    : Option Nat

/-- Whether the mode, a request or a fallback that is due needs the berth pose. Log entry 45 (DEDUCED). -/
def Stage.needs (st : Stage) (cmd : List Word) (modes : List Nat) : Bool :=
  let w := wordAt cmd 0
  let fbN := bits (wordAt cmd 13) 15 0
  modes.contains st.mode
    || (decide (bits w 15 8 ≠ st.lastId) && modes.contains (bits w 3 0))
    || (match st.pend with | some r => modes.contains r.mode | none => false)
    || (decide (fbN ≠ 0) && decide (fbN ≤ st.lost + 1) && modes.contains st.fallback)

/-- What the stage reads. -/
def State.stageReads (s : State) (i : SpanIn) : StageReads :=
  let standby := s.chn.role == 2
  let cmdAt := s.visible (bits i.arg 18 0 + (if standby then 4 else 0))
  let cmd := s.mem.readWords cmdAt 16
  let bb := rget s.est.regs Reg.EST_BERTH_BLK
  let ab := rget s.alc.regs Reg.ALC_OUT_BLK
  { command := cmdAt
    estimate := [0, 1, 5, 6, 7, 8].map (fun k => i.src + 32 * k)
    pose := if bit bb 31 && s.ctl.stage.needs cmd [4, 5] then some (s.vis (bits bb 18 0)) else none
    hinge := if bit ab 31 && s.ctl.stage.needs cmd [5] then some (s.vis (bits ab 18 0)) else none }

/-- The addresses of the blocks. -/
def StageReads.blocks (r : StageReads) : List Nat := [r.command, r.command + 32] ++ r.estimate ++ r.pose.toList ++ r.hinge.toList

/-- What the stage hands its steps (R161, R163). -/
def State.stageIn (s : State) (i : SpanIn) (r : StageReads) : StageIn :=
  let bb := rget s.est.regs Reg.EST_BERTH_BLK
  let ab := rget s.alc.regs Reg.ALC_OUT_BLK
  { fno := i.fno, lenUs := i.lenUs
    command := s.mem.readWords r.command 16
    est := fun k => s.mem.readWord (i.src + 4 * k)
    pose := if bit bb 31 then some (s.mem.readWord (s.vis (bits bb 18 0) + 28)) else none
    hinge := bit ab 31 && bit (s.mem.readWord (s.vis (bits ab 18 0) + 4)) 0
    feat6 := s.feature 6, feat7 := s.feature 7
    axes := [1, 2, 3].map (fun k => (Ctl.axisInst s.mem s.ctl k).isSome)
    standby := s.chn.role == 2 }

/-- The work of a LOOPS span; a bank swap taken at START counts in PAGE_SEQ (R183, R435). -/
def State.loopsWork (x : Span) (i : SpanIn) (s : State) : State × Bool :=
  let n := x.unit - 0x12
  let swaps := (s.ctl.swapDue n).length
  let s : State := { s with hdr := (upto swaps).foldl (fun h _ => hdrSeq h (ctlPage n)) s.hdr }
  let stage := decide (n = 0) && bit x.arg 31
  let r := s.stageReads i
  let held := stage && r.blocks.any s.mem.isBad
  let reads := if stage then r.blocks else []
  s.ran (fun u s => { s with ctl := u }) (Ctl.loops n i stage held (s.stageIn i r) reads s.ctl)

/-- LOOPS (R173, R186). -/
def execLoops (a : At) (idx : Nat) (s : State) : Host.Outcome State Fault Refusal :=
  s.does a (State.startSpan idx (fun x => Span.isOp 0x12 1 x || Span.isOp 0x13 1 x) false State.loopsWork)

/-- INSTANCE_WINDOW_WRITE (R175): a write of CTLn_I_DATA. -/
def execInstanceWindowWrite (a : At) (acc : Accessor) (engine : Fin 2) (value : Word) (s : State) : Host.Outcome State Fault Refusal :=
  s.does a (State.writePlain acc Reg.CTL_I_DATA engine.val value)

/-- SWAP (R183): a write of CTLn_I_SWAP.SWAP. -/
def execSwap (a : At) (acc : Accessor) (engine : Fin 2) (s : State) : Host.Outcome State Fault Refusal :=
  s.does a (State.writePlain acc Reg.CTL_I_SWAP engine.val 1#32)

/-- SWAP_ALL (R183): a write of CTLn_I_SWAP.ALL. -/
def execSwapAll (a : At) (acc : Accessor) (engine : Fin 2) (s : State) : Host.Outcome State Fault Refusal :=
  s.does a (State.writePlain acc Reg.CTL_I_SWAP engine.val 2#32)

/-! ## ALC -/

/-- ALC put back after a run; a bank swap counts in PAGE_SEQ (R435). -/
def State.putAlc (u : Alc) (s : State) : State :=
  { s with
    alc := u
    hdr := if u.active = s.alc.active then s.hdr else hdrSeq s.hdr Pg.ALC }

/-- ASSEMBLE (R208). -/
def execAssemble (a : At) (idx : Nat) (s : State) : Host.Outcome State Fault Refusal :=
  s.does a (State.startSpan idx (Span.isOp 0x17 1) false (fun _ i s => s.ran State.putAlc (Alc.assemble i s.alc)))

/-- ALC_PARAM_WRITE (R194): a write of ALC_P_DATA. -/
def execAlcParamWrite (a : At) (acc : Accessor) (value : Word) (s : State) : Host.Outcome State Fault Refusal :=
  s.does a (State.writePlain acc Reg.ALC_P_DATA 0 value)

/-- ALC_SWAP (R195). -/
def execAlcSwap (a : At) (acc : Accessor) (s : State) : Host.Outcome State Fault Refusal :=
  s.does a (State.writePlain acc Reg.ALC_SWAP 0 1#32)

/-! ## SOL0 and SOL1 -/

/-- SOL0 and SOL1 put back after a run; a swap of the image banks counts in PAGE_SEQ (R435). -/
def State.putSol (u : Sol) (s : State) : State :=
  { s with
    sol := u
    hdr := if u.active = s.sol.active then s.hdr else hdrSeq s.hdr Pg.SOL0 }

/-- Whether SOL1 is there as a partner at the lead's START (R214, R215): its island runs and it runs nothing but a partner's ALLOCATE.
Log entry 49 (DEDUCED). -/
def State.partnerReady (s : State) : Bool :=
  s.works Pg.SOL1 && !(s.seq.runs.any (fun r => r.span.unit == 0x11 && r.span.opcode != 2 && r.doneAt.isNone))

/-- The work of an ALLOCATE span: the lead's on SOL0, the partner's on SOL1. -/
def State.allocateWork (x : Span) (i : SpanIn) (s : State) : State × Bool :=
  if x.unit = 0x10 then s.ran State.putSol (Sol.allocate i s.partnerReady s.sol) else s.ran State.putSol (Sol.partner i s.sol)

/-- ALLOCATE (R214, R223). -/
def execAllocate (a : At) (idx : Nat) (s : State) : Host.Outcome State Fault Refusal :=
  s.does a (State.startSpan idx (fun x => Span.isOp 0x10 2 x || Span.isOp 0x11 2 x) false State.allocateWork)

/-- IMAGE_WINDOW_WRITE (R222): a write of SOL0_IMG_DATA. -/
def execImageWindowWrite (a : At) (acc : Accessor) (value : Word) (s : State) : Host.Outcome State Fault Refusal :=
  s.does a (State.writePlain acc Reg.SOL0_IMG_DATA 0 value)

/-- IMAGE_SWAP (R222): a write of SOL0_IMG_SWAP. -/
def execImageSwap (a : At) (acc : Accessor) (s : State) : Host.Outcome State Fault Refusal :=
  s.does a (State.writePlain acc Reg.SOL0_IMG_SWAP 0 1#32)

/-- COLD (R224): a write of SOL0_WARM_CTRL.COLD. -/
def execCold (a : At) (acc : Accessor) (s : State) : Host.Outcome State Fault Refusal :=
  s.does a (State.writePlain acc Reg.SOL0_WARM_CTRL 0 1#32)

/-- SOL1_MEM_WRITE (R232): a write of SOL1_MEM_DATA. -/
def execSol1MemWrite (a : At) (acc : Accessor) (value : Word) (s : State) : Host.Outcome State Fault Refusal :=
  s.does a (State.writePlain acc Reg.SOL1_MEM_DATA 0 value)

end Sys2Proof.Machine
end

