-- ==== Sys2Proof/Machine/FieldCommands.lean ====
section
/-! DEFINITION. The commands of the CAN controllers, the field groups, the serial ports and the position channels (R309–R363, R449). -/

namespace Sys2Proof.Machine

/-! ## Packets a unit takes from a firkin (R29, R31) -/

/-- The words of a packet up to its last one, and what follows. -/
def splitPacket : List QWord → List QWord × List QWord
  | [] => ([], [])
  | q :: qs =>
    if q.last then ([q], qs)
    else
      let r := splitPacket qs
      (q :: r.1, r.2)

/-- The oldest committed packet of firkin n taken by its consumer: its words, with a flag for each that came with a parity
error, which FQ_PERR counts. None where the unit is not the consumer or no packet stands committed. -/
def State.packetFor (unit n : Nat) (s : State) : Option (List (Word × Bool)) × State :=
  let f := s.fq.firkin n
  if s.works Pg.FQ && bits (s.fq.cfg n) 23 16 == unit && !f.committed.isEmpty then
    let x := splitPacket f.committed
    let bad := fun (q : QWord) => decide (q.bad ≠ 0#4)
    let q := s.fq.put n { f with committed := x.2 }
    let q : Fq := { q with regs := (x.1.filter bad).foldl (fun m _ => rmod m (rk Reg.FQ_PERR 0 n) (fun c => incSatField c 15 0)) q.regs }
    (some (x.1.map (fun w => (w.word, bad w))), { s with fq := q })
  else (none, s)

/-! ## CAN (R309–R324) -/

/-- Controller n takes part in bus traffic (R310). Log entry 95 (DEDUCED). -/
def State.canOn (s : State) (n : Nat) : Bool := s.works (Pg.CAN + n) && s.mode.active

/-- Whether this module is the ACTIVE (R324). -/
def State.isActive (s : State) : Bool := s.chn.role == 1

/-- The stone this module sends and compares (R259). -/
def State.stone (s : State) : Word := rget s.chn.regs Reg.CHN_STONE

/-- A happening of a controller that takes part. -/
def State.canDoes (n : Nat) (f : State → Can → W Can) (s : State) : State := if s.canOn n then s.onCan (f s) else s

/-- A frame as it stands on the wire, as a controller sees it. -/
def canRx (f : CanWire) : CanRx := ⟨f.ident, f.xtd, f.remote, f.fdf, f.brs, f.esi, f.dlc, f.data, f.age⟩

/-- The work of a SEND_SET span of the controller whose unit it names. -/
def State.sendSetWork (wire : Option (Fin 64)) (x : Span) (i : SpanIn) (s : State) : State × Bool :=
  s.ran (fun u s => { s with can := u }) (s.can.sendSet (x.unit - 0x22) s.isActive s.stone (wire.map (·.val)) i)

/-- SEND_SET (R324); `wire` is the object whose transmission is on the bus. -/
def execSendSet (a : At) (idx : Nat) (wire : Option (Fin 64)) (s : State) : Host.Outcome State Fault Refusal :=
  s.does a (State.startSpan idx (fun x => (decide (0x22 ≤ x.unit) && decide (x.unit ≤ 0x25)) && x.opcode == 1) false (State.sendSetWork wire))

/-- CAN_TX_PACKET_LOAD (R313). -/
def execCanTxPacketLoad (a : At) (bus : Fin 4) (firkin : Fin 64) (wire : Option (Fin 64)) (s : State) :
    Host.Outcome State Fault Refusal :=
  s.does a (fun s =>
    if s.canOn bus.val then
      let x := s.packetFor (0x22 + bus.val) firkin.val
      match x.1 with
      | some ws => x.2.onCan (Can.packet bus.val (wire.map (·.val)) s.seq.count ws)
      | none => s
    else s)

/-- CAN_TRANSMIT_END (R315, R316): outcome 0 sent, 1 arbitration lost, 2 error frame. -/
def execCanTransmitEnd (a : At) (bus : Fin 4) (obj : Fin 64) (outcome tdcv : Nat) (s : State) : Host.Outcome State Fault Refusal :=
  s.does a (State.canDoes bus.val (fun _ u => u.transmitEnd bus.val obj.val outcome tdcv))

/-- CAN_FRAME_RECEIVE (R317). -/
def execCanFrameReceive (a : At) (bus : Fin 4) (rx : CanWire) (s : State) : Host.Outcome State Fault Refusal :=
  s.does a (State.canDoes bus.val (fun s u => u.receive bus.val s.isActive s.stone s.tim.time (canRx rx)))

/-- CAN_RECEIVE_ERROR (R316). -/
def execCanReceiveError (a : At) (bus : Fin 4) (s : State) : Host.Outcome State Fault Refusal :=
  s.does a (State.canDoes bus.val (fun _ u => u.receiveError bus.val))

/-- CAN_INTEGRATION_DONE (R310). -/
def execCanIntegrationDone (a : At) (bus : Fin 4) (s : State) : Host.Outcome State Fault Refusal :=
  s.does a (State.canDoes bus.val (fun _ u => u.integrated bus.val))

/-- A write of CANn_CTRL of one bus with a bit set or cleared and every other field as it stands. -/
def State.canCtrlBit (acc : Accessor) (n i : Nat) (b : Bool) (s : State) : State :=
  s.writePlain acc Reg.CAN_CTRL n (putBit (putBit (rget s.can.regs (rk Reg.CAN_CTRL n 0)) 2 false) i b)

/-- RECOVER (R316): a write of CANn_CTRL.RECOVER. -/
def execRecover (a : At) (acc : Accessor) (bus : Fin 4) (s : State) : Host.Outcome State Fault Refusal :=
  s.does a (State.canCtrlBit acc bus.val 2 true)

/-- BUSOFF_RECOVERY_END (R316). -/
def execBusoffRecoveryEnd (a : At) (bus : Fin 4) (s : State) : Host.Outcome State Fault Refusal :=
  s.does a (State.canDoes bus.val (fun _ u => u.recoverEnd bus.val))

/-- SLEEP (R318): a write of 1 to CANn_CTRL.SLEEP. -/
def execSleep (a : At) (acc : Accessor) (bus : Fin 4) (s : State) : Host.Outcome State Fault Refusal :=
  s.does a (State.canCtrlBit acc bus.val 3 true)

/-- SLEEP_ENTER (R318). -/
def execSleepEnter (a : At) (bus : Fin 4) (s : State) : Host.Outcome State Fault Refusal :=
  s.does a (State.canDoes bus.val (fun _ u => u.sleepEnter bus.val))

/-- WAKE_WRITE (R319): a write of 0 to CANn_CTRL.SLEEP. -/
def execWakeWrite (a : At) (acc : Accessor) (bus : Fin 4) (s : State) : Host.Outcome State Fault Refusal :=
  s.does a (State.canCtrlBit acc bus.val 3 false)

/-- BUS_WAKE (R319): a dominant phase, or a frame. -/
def execBusWake (a : At) (bus : Fin 4) (rx : Option CanWire) (s : State) : Host.Outcome State Fault Refusal :=
  s.does a (State.canDoes bus.val (fun s u => u.busWake bus.val s.isActive s.stone s.tim.time (rx.map canRx)))

/-! ## Field groups (R327–R342) -/

/-- Group n exchanges with its group side: page enabled, in READY, RUN or SERVICE (R332). Log entry 95 (DEDUCED). -/
def State.groupOn (s : State) (n : Nat) : Bool := s.works (Pg.FIO + n) && s.mode.active

/-- A happening of a group whose group side is out of reset. -/
def State.groupDoes (n : Nat) (f : Int → Fio → W Fio) (s : State) : State := if s.groupOn n then s.onFio (f s.tim.time) else s

/-- The Chain-slaved outputs of group n (R273): two groups per word, the even one low. -/
def State.slavedIn (s : State) (n : Nat) : SlavedIn :=
  ⟨s.chn.slaved.map (fun ws => BitVec.ofNat 16 ((wordAt ws (n / 2)).toNat / 65536 ^ (n % 2))), s.chn.slaveOff⟩

/-- FIELD_REFRESH (R331): `good` that the frames passed their CRC, the raw inputs and output read-backs, the analogue inputs in mV
and L+ in mV. -/
def execFieldRefresh (a : At) (group : Fin 12) (good : Bool) (raw back : BitVec 16) (volts : List Nat) (lplus : Nat) (s : State) :
    Host.Outcome State Fault Refusal :=
  s.does a (fun s => s.groupDoes group.val (fun t u => u.refresh group.val good t ⟨raw, back, volts, lplus⟩ (s.slavedIn group.val)))

/-- LOGIC_SIDE_SILENT (R339). -/
def execLogicSideSilent (a : At) (group : Fin 12) (s : State) : Host.Outcome State Fault Refusal :=
  s.does a (State.groupDoes group.val (fun _ u => u.silent group.val))

/-- GROUP_SIDE_HOLD (R339). -/
def execGroupSideHold (a : At) (group : Fin 12) (s : State) : Host.Outcome State Fault Refusal :=
  s.does a (State.groupDoes group.val (fun t u => W.of (u.hold group.val t)))

/-- HOLD_EXPIRY (R339). -/
def execHoldExpiry (a : At) (group : Fin 12) (s : State) : Host.Outcome State Fault Refusal :=
  s.does a (State.groupDoes group.val (fun t u => W.of (u.holdExpiry group.val t)))

/-- OUTPUT_OVERLOAD (R337). -/
def execOutputOverload (a : At) (group : Fin 12) (chan : Fin 16) (s : State) : Host.Outcome State Fault Refusal :=
  s.does a (State.groupDoes group.val (fun _ u => u.overload group.val chan.val))

/-- OPEN_LOAD (R337). -/
def execOpenLoad (a : At) (group : Fin 12) (chan : Fin 16) (s : State) : Host.Outcome State Fault Refusal :=
  s.does a (State.groupDoes group.val (fun _ u => u.openLoad group.val chan.val))

/-- INRUSH_GRANT_EXPIRY (R398). -/
def execInrushGrantExpiry (a : At) (group : Fin 12) (chan : Fin 16) (s : State) : Host.Outcome State Fault Refusal :=
  s.does a (State.groupDoes group.val (fun t u => W.of (u.grantEnd group.val chan.val t)))

/-- OUT_SET (R335): a write of FIOn_OUT_SET. -/
def execOutSet (a : At) (acc : Accessor) (group : Fin 12) (value : Word) (s : State) : Host.Outcome State Fault Refusal :=
  s.does a (State.writePlain acc Reg.FIO_OUT_SET group.val value)

/-- OUT_CLR (R335): a write of FIOn_OUT_CLR. -/
def execOutClr (a : At) (acc : Accessor) (group : Fin 12) (value : Word) (s : State) : Host.Outcome State Fault Refusal :=
  s.does a (State.writePlain acc Reg.FIO_OUT_CLR group.val value)

/-! ## Serial ports (R343–R348) -/

/-- A happening of a port whose drivers are on (R343). Log entry 95 (DEDUCED). -/
def State.portDoes (n : Nat) (f : Ser → W Ser) (s : State) : State := if s.works (Pg.SER + n) && s.mode.active then s.onSer f else s

/-- SENTENCE_RECEIVE (R344): the characters from the tag block or start character to LF, whether one had a framing or parity error, and
the ns since the start bit of the start character. -/
def execSentenceReceive (a : At) (port : Fin 12) (bad : Bool) (ageNs : Nat) (chars : List Byte) (s : State) :
    Host.Outcome State Fault Refusal :=
  s.does a (State.workOn (Pg.SER + port.val) (fun s => s.onSer (Ser.sentence port.val bad s.tim.time (s.tim.time - ageNs) chars)))

/-- SERIAL_TX_PACKET (R348): a packet of the port's transmit firkin. -/
def execSerialTxPacket (a : At) (port : Fin 12) (firkin : Fin 64) (s : State) : Host.Outcome State Fault Refusal :=
  s.does a (fun s =>
    let q := rget s.ser.regs (rk Reg.SER_FQ port.val 0)
    if s.works (Pg.SER + port.val) && s.mode.active && bit q 14 && bits q 13 8 == firkin.val then
      let x := s.packetFor (0x30 + port.val) firkin.val
      match x.1 with
      | some ws => x.2.onSer (Ser.packet port.val ws)
      | none => s
    else s)

/-- SERIAL_TX_DONE (R343). -/
def execSerialTxDone (a : At) (port : Fin 12) (collision : Bool) (s : State) : Host.Outcome State Fault Refusal :=
  s.does a (State.portDoes port.val (Ser.txDone port.val collision))

/-- RS485_IDLE_WAIT_END (R343). -/
def execRs485IdleWaitEnd (a : At) (port : Fin 12) (s : State) : Host.Outcome State Fault Refusal :=
  s.does a (State.portDoes port.val (fun u => W.of (u.idleEnd port.val)))

/-! ## Position channels (R351–R363) -/

/-- A happening of a channel at work. -/
def State.posDoes (n : Nat) (f : State → Pos → W Pos) (s : State) : State := if s.works (Pg.POS + n) then s.onPos (f s) else s

/-- The work of a REQUEST span of the channel whose unit it names, with the level of its data line. -/
def State.requestWork (line : Bool) (x : Span) (_ : SpanIn) (s : State) : State × Bool :=
  (s.posDoes (x.unit - 0x60) (fun s u => u.request s.mode s.now s.tim.time (x.unit - 0x60) line), true)

/-- REQUEST (R352): it completes at its START. -/
def execRequest (a : At) (idx : Nat) (line : Bool) (s : State) : Host.Outcome State Fault Refusal :=
  s.does a (State.startSpan idx (fun x => (decide (0x60 ≤ x.unit) && decide (x.unit ≤ 0x77)) && x.opcode == 1) true (State.requestWork line))

/-- SSI_REQ_WRITE (R352): a write of 1 to POSn_REQ, with the level of the data line. -/
def execSsiReqWrite (a : At) (acc : Accessor) (chan : Fin 24) (line : Bool) (s : State) : Host.Outcome State Fault Refusal :=
  s.does a (State.writeNamed (fun n _ _ s => s.onPos (Pos.request s.mode s.now s.tim.time n line)) acc Reg.POS_REQ chan.val 1#32)

/-- SSI_FRAME_END (R354, R355): the word received and whether the monoflop sample read high. -/
def execSsiFrameEnd (a : At) (chan : Fin 24) (word : Nat) (high : Bool) (s : State) : Host.Outcome State Fault Refusal :=
  s.does a (State.posDoes chan.val (fun s u => u.frameEnd s.now chan.val word high))

/-- A sample of the lines of a channel (R356), its divider pulse handed to the field channels that repeat it (R342, R362). -/
def State.quadrature (n : Nat) (a b : Bool) (s : State) : State :=
  let x := s.pos.sample s.mode s.now s.tim.time n a b
  let s := s.onPos (fun _ => x.1)
  if x.2 then s.onFio (fun u => (allChans.filter (fun c => s.groupOn c.1)).foldl (Fio.divPulse n) (W.of u)) else s

/-- QUAD_TRANSITION (R356): the lines A and B as sampled. -/
def execQuadTransition (at_ : At) (chan : Fin 24) (a b : Bool) (s : State) : Host.Outcome State Fault Refusal :=
  s.does at_ (State.workOn (Pg.POS + chan.val) (State.quadrature chan.val a b))

/-- COUNT_PRESET (R357): a write of POSn_COUNT. -/
def execCountPreset (a : At) (acc : Accessor) (chan : Fin 24) (value : Word) (s : State) : Host.Outcome State Fault Refusal :=
  s.does a (State.writePlain acc Reg.POS_COUNT chan.val value)

/-- COMPARE_ARM (R360): a write of POSn_CMP_CFG (`cfg`) or of POSn_CMP. -/
def execCompareArm (a : At) (acc : Accessor) (chan : Fin 24) (cfg : Bool) (value : Word) (s : State) : Host.Outcome State Fault Refusal :=
  s.does a (State.writePlain acc (if cfg then Reg.POS_CMP_CFG else Reg.POS_CMP) chan.val value)

/-! ## ES encoder supplies (R449) -/

/-- Whether ES+ is there (R428): not in OFF, BOOT and HALT. Log entry 93 (DEDUCED). -/
def Mode.esOn (m : Mode) : Bool := m.active || m == .config

/-- ES_FUSE_TRIP (R449): 10 ms at the limit. Log entry 93 (DEDUCED). -/
def execEsFuseTrip (a : At) (out : Fin 4) (s : State) : Host.Outcome State Fault Refusal :=
  s.does a (fun s => if s.mode.esOn then { s with esOff := s.esOff ||| BitVec.twoPow 4 out.val } else s)

/-- ES_FUSE_RETRY (R449). Log entry 93 (DEDUCED). -/
def execEsFuseRetry (a : At) (out : Fin 4) (s : State) : Host.Outcome State Fault Refusal :=
  s.does a (fun s => { s with esOff := s.esOff &&& ~~~(BitVec.twoPow 4 out.val) })

end Sys2Proof.Machine
end

