-- ==== Sys2Proof/Machine/FirkinCommands.lean ====
section
/-! DEFINITION. The commands of the firkins (R28–R35). -/

namespace Sys2Proof.Machine

/-- One word pushed by a unit (R29, R30); a word of a poisoned block has all four parity bits inverted (R31). -/
def State.firkinPush (unit n : Nat) (v : Word) (last poisoned : Bool) (s : State) : State :=
  s.upOn Pg.FQ (State.onFq (fun u => Fq.push unit n v last (if poisoned then 15#4 else 0#4) (W.of u)))

/-- FIRKIN_PUSH (R30). -/
def execFirkinPush (a : At) (unit : Nat) (firkin : Fin 64) (value : Word) (poisoned : Bool) (s : State) :
    Host.Outcome State Fault Refusal :=
  s.does a (State.firkinPush unit firkin.val value false poisoned)

/-- FIRKIN_PUSH_END (R30, R34). -/
def execFirkinPushEnd (a : At) (unit : Nat) (firkin : Fin 64) (value : Word) (poisoned : Bool) (s : State) :
    Host.Outcome State Fault Refusal :=
  s.does a (State.firkinPush unit firkin.val value true poisoned)

/-- FIRKIN_POP (R31, R32); `upset` are parity bits that an upset of the buffer has turned in the word taken. -/
def execFirkinPop (a : At) (unit : Nat) (firkin : Fin 64) (upset : BitVec 4) (s : State) : Host.Outcome State Fault Refusal :=
  s.does a (State.upOn Pg.FQ (State.onFq (fun u => Fq.pop unit firkin.val upset (W.of u))))

/-- FIRKIN_FLUSH_REQUEST (R33): a write of FQ_FLUSH0 or FQ_FLUSH1. -/
def execFirkinFlushRequest (a : At) (acc : Accessor) (half : Fin 2) (value : Word) (s : State) : Host.Outcome State Fault Refusal :=
  s.does a (State.writePlain acc (if half.val = 0 then Reg.FQ_FLUSH0 else Reg.FQ_FLUSH1) 0 value)

/-- FIRKIN_FLUSH_EFFECT (R33): at a packet boundary. -/
def execFirkinFlushEffect (a : At) (firkin : Fin 64) (s : State) : Host.Outcome State Fault Refusal :=
  s.does a (State.upOn Pg.FQ (fun s =>
    if s.fq.flushing firkin.val && (s.fq.firkin firkin.val).opened.isEmpty then { s with fq := s.fq.flush firkin.val } else s))

/-- FIRKIN_DISABLE (R30, R33): a write of FQ_CFG with EN at 0, of the firkin FQ_SEL names. -/
def execFirkinDisable (a : At) (acc : Accessor) (value : Word) (s : State) : Host.Outcome State Fault Refusal :=
  s.does a (State.writePlain acc Reg.FQ_CFG 0 (value &&& 0xFFFFFFFE#32))

end Sys2Proof.Machine
end

