-- ==== Sys2Proof/Machine/GnssCommands.lean ====
section
/-! DEFINITION. The commands of GNS0, GNS1 and GNSC (R135–R156). -/

namespace Sys2Proof.Machine

/-! ## Antennas and front ends (R136) -/

/-- ANTENNA_OPEN (R136): below 5 mA for 1 s, with the current in mA. -/
def execAntennaOpen (a : At) (bank : Fin 2) (mA : Nat) (s : State) : Host.Outcome State Fault Refusal :=
  s.does a (State.upOn (gnsPage bank.val) (State.onGns (Gns.antOpen bank.val mA)))

/-- ANTENNA_SHORT (R136): at the 120 mA limit for 10 ms, or with `held` for 1 s. -/
def execAntennaShort (a : At) (bank : Fin 2) (held : Bool) (s : State) : Host.Outcome State Fault Refusal :=
  s.does a (State.upOn (gnsPage bank.val) (State.onGns (Gns.antShort bank.val held)))

/-- ANTENNA_SUPPLY_RETRY (R136). -/
def execAntennaSupplyRetry (a : At) (bank : Fin 2) (s : State) : Host.Outcome State Fault Refusal :=
  s.does a (State.upOn (gnsPage bank.val) (State.onGns (Gns.antRetry bank.val)))

/-- FRONT_END_UNLOCK (R136). -/
def execFrontEndUnlock (a : At) (bank : Fin 2) (s : State) : Host.Outcome State Fault Refusal :=
  s.does a (State.upOn (gnsPage bank.val) (State.onGns (Gns.unlock bank.val)))

/-- FRONT_END_RELOCK (R136). -/
def execFrontEndRelock (a : At) (bank : Fin 2) (s : State) : Host.Outcome State Fault Refusal :=
  s.does a (State.upOn (gnsPage bank.val) (State.onGns (Gns.relock bank.val)))

/-! ## Channels (R137–R141, R155) -/

/-- CODE_EPOCH (R139–R141): the dump record's 20 sums, and whether GNSC has read the record before the next one. -/
def execCodeEpoch (a : At) (bank : Fin 2) (chan : Fin 24) (dump : List Word) (served : Bool) (s : State) :
    Host.Outcome State Fault Refusal :=
  s.does a (State.workOn (gnsPage bank.val) (fun s =>
    s.onGns (Gns.codeEpoch s.tim.time bank.val chan.val dump (served && s.works Pg.GNSC) (!s.grant 18)
      (rbit s.gns.regs (rk Reg.GNS_STAT bank.val 0) 0))))

/-- ACQ_TIMEOUT (R141). -/
def execAcqTimeout (a : At) (bank : Fin 2) (chan : Fin 24) (s : State) : Host.Outcome State Fault Refusal :=
  s.does a (State.workOn (gnsPage bank.val) (State.onGns (Gns.acqTimeout bank.val chan.val)))

/-- PULLIN_TIMEOUT (R141). -/
def execPullinTimeout (a : At) (bank : Fin 2) (chan : Fin 24) (s : State) : Host.Outcome State Fault Refusal :=
  s.does a (State.workOn (gnsPage bank.val) (State.onGns (Gns.pullinTimeout bank.val chan.val)))

/-! ## Epochs, solutions, PPS OUT (R142–R150) -/

/-- MEASUREMENT_LATCH (R142): the phases the channels show, as (bank, channel, code phase, carrier phase). -/
def execMeasurementLatch (a : At) (phases : List (Nat × Nat × Word × Word)) (s : State) : Host.Outcome State Fault Refusal :=
  s.does a (State.workOn Pg.GNSC (fun s => s.onGns (Gns.latch s.tim.time phases)))

/-- PVT (R143). -/
def execPvt (a : At) (idx : Nat) (s : State) : Host.Outcome State Fault Refusal :=
  s.does a (State.startSpan idx (Span.isOp 0x16 1) false (fun _ i s =>
    s.ran (fun u s => { s with gns := u }) (Gns.pvt (s.feature 9) (!s.grant 19) (s.tim.selected == 2) i s.gns)))

/-- PPS_PULSE (R147): a whole second of module time. -/
def execPpsPulse (a : At) (s : State) : Host.Outcome State Fault Refusal :=
  s.does a (State.workOn Pg.GNSC (fun s => s.onGns (Gns.ppsPulse s.tim.time s.mode.active)))

/-- PPS_PULSE_END (R147): WIDTH ms after the pulse began. -/
def execPpsPulseEnd (a : At) (s : State) : Host.Outcome State Fault Refusal :=
  s.does a (State.upOn Pg.GNSC (State.onGns Gns.ppsEnd))

/-! ## Snapshots (R151–R154) -/

/-- SNAPSHOT_START (R151): a write of GNSC_SNAP_CTRL.START. -/
def execSnapshotStart (a : At) (acc : Accessor) (s : State) : Host.Outcome State Fault Refusal :=
  s.does a (State.writePlain acc Reg.GNSC_SNAP_CTRL 0 1#32)

/-- SNAPCAP (R151): complete when its first sample is stored. -/
def execSnapcap (a : At) (idx : Nat) (s : State) : Host.Outcome State Fault Refusal :=
  s.does a (State.startSpan idx (Span.isOp 0x18 1) false (fun _ _ s => (s.onGns (Gns.snapStart s.tim.time s.epoch), true)))

/-- SNAPSHOT_CAPTURE_END (R151, R152): the samples stored. -/
def execSnapshotCaptureEnd (a : At) (samples : List Byte) (s : State) : Host.Outcome State Fault Refusal :=
  s.does a (State.upOn Pg.GNSC (fun s => s.onGns (Gns.captureEnd samples (s.feature 10))))

/-- EXPORT (R153): a write of GNSC_SNAP_CTRL.EXPORT. -/
def execGnssExport (a : At) (acc : Accessor) (s : State) : Host.Outcome State Fault Refusal :=
  s.does a (State.writePlain acc Reg.GNSC_SNAP_CTRL 0 2#32)

/-- The next packets of an export, at most n: it ends after the last one, or stops at the first that the firkin drops (R30, R153); the
words of its poisoned blocks go poisoned (R31). -/
def State.exportPackets (fk total : Nat) : Nat → State → State
  | 0, s => if total ≤ s.gns.exported then s.onGns (fun u => Gns.exportDone false (W.of u)) else s
  | n + 1, s =>
    if total ≤ s.gns.exported then s.onGns (fun u => Gns.exportDone false (W.of u))
    else
      let k := s.gns.exported
      let w := Fq.pushPacket (W.of s.fq) ⟨0x16, fk, snapPacket s.mem k⟩
      let left := ((s.mem.readWord 0x54000004).toNat + 31) / 32 - 32 * (k - 1)
      let w := if k = 0 then w.readN s.mem Pg.GNSC 0x54000000 1
        else w.readN s.mem Pg.GNSC (0x54000020 + 1024 * (k - 1)) (min 32 left)
      let s := ({ s with
        fq := w.u
        gns := { s.gns with exported := k + 1 } } : State).commit w.fx w.st
      if w.fx.codes.any (fun c => c.code == 0x10E1) then s.onGns (fun u => Gns.exportDone true (W.of u))
      else s.exportPackets fk total n

/-- SNAPSHOT_EXPORT_END (R153): the packets pushed since the export began or since the last of these commands; it pauses without its
grant (R394). -/
def execSnapshotExportEnd (a : At) (packets : Nat) (s : State) : Host.Outcome State Fault Refusal :=
  s.does a (State.upOn Pg.GNSC (fun s =>
    if rbit s.gns.regs Reg.GNSC_SNAP_STAT 1 && s.grant 21 && s.islandUp 2 then
      s.exportPackets (rfld s.gns.regs Reg.GNSC_SNAP_CFG 21 16) (snapPackets s.mem) packets
    else s))

/-- PROCESS (R154): a write of GNSC_SNAP_CTRL.PROCESS. -/
def execProcess (a : At) (acc : Accessor) (s : State) : Host.Outcome State Fault Refusal :=
  s.does a (State.writePlain acc Reg.GNSC_SNAP_CTRL 0 4#32)

/-- SNAPSHOT_FIX_DONE (R154). -/
def execSnapshotFixDone (a : At) (s : State) : Host.Outcome State Fault Refusal :=
  s.does a (State.upOn Pg.GNSC (fun s => s.onGns (Gns.fixDone s.mem s.tim.time)))

end Sys2Proof.Machine
end

