-- ==== Sys2Proof/Machine/ModuleCommands.lean ====
section
/-! DEFINITION. The commands of the module states, of power and resets, of the islands and of the common page header (R8, R14–R17,
R397, R405, R417–R425, R433, R434). -/

namespace Sys2Proof.Machine

/-- POWER_ON (R418, R444). -/
def execPowerOn (a : At) (strapA strapB : Option Nat) (s : State) : Host.Outcome State Fault Refusal :=
  s.does a (State.powerOn strapA strapB)

/-- BOOT_COMPLETE (R421, R422). -/
def execBootComplete (a : At) (s : State) : Host.Outcome State Fault Refusal := s.does a State.bootComplete

/-- RING_SEARCH_DONE (R405). -/
def execRingSearchDone (a : At) (s : State) : Host.Outcome State Fault Refusal := s.does a State.ringSearched

/-- COMMANDED_RESET (R420): a write of SUP_RESET; the straps are read anew (R444). -/
def execCommandedReset (a : At) (acc : Accessor) (value : Word) (strapA strapB : Option Nat) (s : State) :
    Host.Outcome State Fault Refusal :=
  s.does a (State.writeNamed (fun _ _ _ s => s.resetWrite (strapBase strapA strapB) value) acc Reg.SUP_RESET 0 value)

/-- GO_READY (R418, R419). -/
def execGoReady (a : At) (acc : Accessor) (s : State) : Host.Outcome State Fault Refusal :=
  s.does a (State.writePlain acc Reg.SUP_CTRL 0 0x01#32)

/-- GO_RUN (R418, R419). -/
def execGoRun (a : At) (acc : Accessor) (s : State) : Host.Outcome State Fault Refusal :=
  s.does a (State.writePlain acc Reg.SUP_CTRL 0 0x02#32)

/-- STOP (R418). -/
def execStop (a : At) (acc : Accessor) (s : State) : Host.Outcome State Fault Refusal :=
  s.does a (State.writePlain acc Reg.SUP_CTRL 0 0x04#32)

/-- GO_CONFIG (R418). -/
def execGoConfig (a : At) (acc : Accessor) (s : State) : Host.Outcome State Fault Refusal :=
  s.does a (State.writePlain acc Reg.SUP_CTRL 0 0x08#32)

/-- GO_SERVICE (R418). -/
def execGoService (a : At) (acc : Accessor) (s : State) : Host.Outcome State Fault Refusal :=
  s.does a (State.writePlain acc Reg.SUP_CTRL 0 0x10#32)

/-- SAVE_CFG (R425). -/
def execSaveCfg (a : At) (acc : Accessor) (windows : List (Nat × Nat × Nat)) (ok : Bool) (s : State) :
    Host.Outcome State Fault Refusal :=
  s.does a (State.writeNamed (fun n w old s => s.act (·.saveCfg windows ok) Reg.SUP_CTRL n w 0x20#32 old) acc Reg.SUP_CTRL 0 0x20#32)

/-- STATE_TRANSITION (R418): SUP's doing. -/
def execStateTransition (a : At) (s : State) : Host.Outcome State Fault Refusal := s.does a (State.upOn Pg.SUP State.transition)

/-- HOLDUP_EXHAUSTED (R397). -/
def execHoldupExhausted (a : At) (s : State) : Host.Outcome State Fault Refusal := s.does a State.holdupExhausted

/-- SUP_FETCH_FAULT (R424). -/
def execSupFetchFault (a : At) (s : State) : Host.Outcome State Fault Refusal := s.does a State.supFetchFault

/-- REGISTER_WRITE (R8): a write of `width` bytes to the register at an address of the pages. -/
def execRegisterWrite (a : At) (acc : Accessor) (addr width : Nat) (value : Word) (s : State) : Host.Outcome State Fault Refusal :=
  s.does a (fun s =>
    if 0x40000000 ≤ addr ∧ addr < 0x40015800 then
      (s.regWrite acc ((addr - 0x40000000) / 0x400) (addr % 0x400) width value).1
    else s.upOn (accPage acc) (State.refuseAccess acc))

/-- ISLAND_ACCESS_TIMEOUT (R15): the access completes, a read with 0. Log entry 15 (DEDUCED). -/
def execIslandAccessTimeout (a : At) (acc : Accessor) (read : Bool) (s : State) : Host.Outcome State Fault Refusal :=
  s.does a (State.upOn (accPage acc) (fun s =>
    s.commit { Fx.none with
      codes := [⟨accPage acc, 0x30B3, [], false⟩]
      emits := if read then [.readData [0]] else [] } []))

/-- MEMORY_ACCESS (R17): a write of the bytes given, or a read of `len` bytes. -/
def execMemoryAccess (a : At) (acc : Accessor) (addr len : Nat) (data : Option (List Byte)) (s : State) :
    Host.Outcome State Fault Refusal :=
  s.does a (fun s =>
    match data with
    | some d => (s.writeMem acc addr d).1
    | none =>
      let y := s.readMem acc addr len
      { y.1 with outbox := .readData (toWords ((len + 3) / 4) y.2.1) :: y.1.outbox })

/-- A write of a header register that has no effect beside it. -/
def State.writeHeader (acc : Accessor) (page off : Nat) (v : Word) (s : State) : State :=
  (s.regWriteWith (fun _ _ _ s => s) acc page off 4 v).1

/-- SOFT_RESET (R433): a write of PAGE_CTRL with SOFT_RESET at 1. -/
def execSoftReset (a : At) (acc : Accessor) (page : Fin 86) (value : Word) (s : State) : Host.Outcome State Fault Refusal :=
  s.does a (State.writeHeader acc page.val 8 (value ||| 2#32))

/-- FREEZE (R433): a write of PAGE_CTRL.FREEZE, ENABLE as it stands. -/
def execFreeze (a : At) (acc : Accessor) (page : Fin 86) (on : Bool) (s : State) : Host.Outcome State Fault Refusal :=
  s.does a (fun s => s.writeHeader acc page.val 8 (wd (b2n (hdrEnabled s.hdr page.val) + 4 * b2n on)))

/-- PAGE_ERR_CLR (R434): CODE and COUNT cleared; a code recorded in the same cycle wins (R9). -/
def execPageErrClr (a : At) (acc : Accessor) (page : Fin 86) (same : Option Nat) (s : State) : Host.Outcome State Fault Refusal :=
  s.does a (fun s =>
    let s := s.writeHeader acc page.val 0x18 0x80000000#32
    match same with
    | some c => s.upOn page.val (State.code page.val (c % 0x10000) [])
    | none => s)

/-! ## Islands (R14, R15) -/

/-- A unit that expected a block which does not come (R14): as a missed deadline, its run ends without a result. -/
def State.blockMissing (page : Nat) (s : State) : State :=
  match s.seq.runs.find? (fun r => r.span.page == page && r.doneAt.isNone) with
  | none => s
  | some r =>
    let t := (s.seq.count - r.count) * s.seq.lenUs + s.tick
    let s := s.unitMiss r.span
    { s with seq := { s.seq with runs := s.seq.runs.map (fun x =>
        if x.idx = r.idx ∧ x.doneAt = none then { x with result := false, doneAt := some t } else x) } }

/-- HANDSHAKE_TIMEOUT (R14): the sender reports, and the consumer that expected the block treats it as missing. Log entry 15 (DEDUCED). -/
def execHandshakeTimeout (a : At) (page : Fin 86) (consumer : Option (Fin 86)) (s : State) : Host.Outcome State Fault Refusal :=
  s.does a (fun s =>
    let s := s.upOn page.val (State.code page.val 0x30B1 [])
    match consumer with
    | some p => s.upOn p.val (State.blockMissing p.val)
    | none => s)

/-- The first page of an island: the source page of a code that names the island. Log entry 14 (DEDUCED). -/
def islandPage (i : Nat) : Nat := ((upto pageCount).find? (fun p => islandOf p == i)).getD Pg.REC

/-- PLL_LOCK_LOSS (R15): the island stops until the next reset. I0 and I11 have no PLL (R12). Log entry 14 (DEDUCED). -/
def execPllLockLoss (a : At) (island : Fin 12) (s : State) : Host.Outcome State Fault Refusal :=
  s.does a (fun s =>
    let i := island.val
    if i = 0 ∨ i = 11 ∨ s.islandUp i = false then s
    else
      ({ s with sup := { s.sup with stopped := s.sup.stopped ||| BitVec.twoPow 12 i } } : State).codeRec (islandPage i) 0x40B2 [wd i])

/-- The payload "reference" of R15, as the words of its characters. -/
def referencePayload : List Word := toWords 3 ([0x72, 0x65, 0x66, 0x65, 0x72, 0x65, 0x6E, 0x63, 0x65].map (BitVec.ofNat 8))

/-- REFERENCE_LOSS (R15): I1–I10 stop. Log entry 14 (DEDUCED). -/
def execReferenceLoss (a : At) (s : State) : Host.Outcome State Fault Refusal :=
  s.does a (fun s =>
    if s.mode = .off ∨ s.sup.refLost = true then s
    else
      ({ s with sup := { s.sup with refLost := true, stopped := s.sup.stopped ||| 0x7FE#12 } } : State).codeRec Pg.REC 0x40B2
        referencePayload)

end Sys2Proof.Machine
end

