-- ==== Sys2Proof/Machine/PowerCommands.lean ====
section
/-! DEFINITION. The commands of PWR, REC, SNAP and the boot options (R389–R411, R429). -/

namespace Sys2Proof.Machine

/-! ## Supply and grants (R389–R397) -/

/-- A happening of PWR, given the cores' reservations and the true time. -/
def State.pwrDoes (f : (Nat → Nat) → Nat → Pwr → W Pwr) (s : State) : State :=
  s.upOn Pg.PWR (fun s => s.onPower (f s.res s.now))

/-- What a supply warning asks of SUP and REC (R397, R404): a retained save, and a copy of OPTIME and PCYC. Log entry 75 (DESIGN CHOICE). -/
def State.warned (s : State) : State :=
  let s := s.requestSave
  { s with log := s.log.saveOptime }

/-- SUPPLY_SAMPLE (R390): V in mV. -/
def execSupplySample (a : At) (mV : Nat) (s : State) : Host.Outcome State Fault Refusal :=
  s.does a (State.pwrDoes (fun res now u => u.sample res now mV))

/-- CEILING_RISE (R390). -/
def execCeilingRise (a : At) (s : State) : Host.Outcome State Fault Refusal := s.does a (State.pwrDoes Pwr.ceilingRise)

/-- GRANT_DECISION (R395). -/
def execGrantDecision (a : At) (s : State) : Host.Outcome State Fault Refusal :=
  s.does a (State.upOn Pg.PWR (fun s => s.onPower (Pwr.decision s.res s.active)))

/-- SUPPLY_WARNING (R397): V has been below PWR_WARN for 100 µs. Log entry 75 (DESIGN CHOICE). -/
def execSupplyWarning (a : At) (s : State) : Host.Outcome State Fault Refusal :=
  s.does a (State.upOn Pg.PWR (fun s => if s.pwr.warnDue s.now then (s.onPower (Pwr.warning s.now)).warned else s))

/-- SUPPLY_RECOVERY (R397). -/
def execSupplyRecovery (a : At) (s : State) : Host.Outcome State Fault Refusal :=
  s.does a (State.pwrDoes (fun _ now u => u.recover now))

/-- OVERVOLTAGE_DISCONNECT (R389): treated as a supply warning. -/
def execOvervoltageDisconnect (a : At) (s : State) : Host.Outcome State Fault Refusal :=
  s.does a (State.upOn Pg.PWR (fun s =>
    if s.pwr.overDue s.now then
      let t := s.onPower (Pwr.disconnect s.now)
      if s.pwr.warn then t else t.warned
    else s))

/-- SUPPLY_RECONNECT (R389). -/
def execSupplyReconnect (a : At) (s : State) : Host.Outcome State Fault Refusal :=
  s.does a (State.pwrDoes (fun _ now u => W.of (u.reconnect now)))

/-! ## Recorder (R403–R408) -/

/-- The oldest queued record written (R403, R407), the read-backs of ring and shelf given; what NVS makes of one that differs (R426).
Log entry 77 (DEDUCED). -/
def State.writeRecord (ring shelf : Bool) (s : State) : State :=
  match s.log.queue with
  | [] => s
  | r :: _ =>
    if !s.log.searched then s
    else
      let toRing := !(s.log.flag 1 || r.flags.testBit 1)
      let used := s.log.shelfUsed
      let ok := ring && !rbit s.nvs.regs Reg.NVS_STAT 1
      let toShelf := (!toRing || !ok) && decide (used < shelfMax)
      let s := if toRing && !ring then s.onNvs (Nvs.ringFail s.now (s.log.nextSeq % ringSlots)) else s
      let s := if toShelf && !shelf then s.onNvs (Nvs.fail 12 (64 * used)) else s
      s.onLog (Rec.write ok shelf)

/-- RECORD_WRITE (R403): `ring` and `shelf` are what the read-backs find. -/
def execRecordWrite (a : At) (ring shelf : Bool) (s : State) : Host.Outcome State Fault Refusal :=
  s.does a (State.upOn Pg.REC (State.writeRecord ring shelf))

/-- OPTIME_SAVE (R404). -/
def execOptimeSave (a : At) (s : State) : Host.Outcome State Fault Refusal :=
  s.does a (State.upOn Pg.REC (fun s => { s with log := s.log.saveOptime }))

/-- SHELF_CLR (R408): a write of REC_CTRL.SHELF_CLR; `ok` is what the read-backs find. -/
def execShelfClr (a : At) (acc : Accessor) (ok : Bool) (s : State) : Host.Outcome State Fault Refusal :=
  s.does a (State.writeNamed (fun _ _ _ s =>
    let s := if ok then s else s.onNvs (Nvs.ringFail s.now ((rget s.log.regs Reg.REC_FAIL_SLOT).toNat % ringSlots))
    s.onLog (Rec.shelfClear ok)) acc Reg.REC_CTRL 0 1#32)

/-! ## SNAP and the boot options -/

/-- SNAP_TRIG (R409): a write of SNAP_TRIG. -/
def execSnapTrig (a : At) (acc : Accessor) (s : State) : Host.Outcome State Fault Refusal :=
  s.does a (State.writePlain acc Reg.SNAP_TRIG 0 1#32)

/-- SUP_BOOT_WRITE (R429): a write of SUP_BOOT. -/
def execSupBootWrite (a : At) (acc : Accessor) (value : Word) (s : State) : Host.Outcome State Fault Refusal :=
  s.does a (State.writePlain acc Reg.SUP_BOOT 0 value)

end Sys2Proof.Machine
end

