-- ==== Sys2Proof/Machine/ProgramCommands.lean ====
section
/-! DEFINITION. The commands of PRG0–PRG2 (R233–R258). -/

namespace Sys2Proof.Machine

/-! ## Tasks (R240–R247) -/

/-- A task's own happening: the page of its core is at work. -/
def State.onTask (i : Nat) (f : State → State) (s : State) : State :=
  match s.prg.defn i with
  | some t => s.workOn (Pg.PRG + t.core) f
  | none => s

/-- TASK_INPUT_COPY_DONE (R245). -/
def execTaskInputCopyDone (a : At) (task : Fin 48) (s : State) : Host.Outcome State Fault Refusal :=
  s.does a (State.onTask task.val (fun s => { s with prg := s.prg.copyDone task.val }))

/-- TASK_CYCLE_END (R243, R246, R250): `writes` are the bytes the cycle has written in its core's data bank, by offset. -/
def execTaskCycleEnd (a : At) (task : Fin 48) (writes : List (Nat × Byte)) (s : State) : Host.Outcome State Fault Refusal :=
  s.does a (State.onTask task.val (fun s => s.onPrg (Prg.cycleEnd s task.val writes)))

/-- TASK_RUNTIME_ERROR (R247): `kind` 0 is a data load that delivers a poisoned block. -/
def execTaskRuntimeError (a : At) (task : Fin 48) (kind : Nat) (s : State) : Host.Outcome State Fault Refusal :=
  s.does a (State.onTask task.val (fun s => s.onPrg (Prg.runtimeError s task.val kind)))

/-- TASK_FETCH_FAULT (R247). -/
def execTaskFetchFault (a : At) (task : Fin 48) (s : State) : Host.Outcome State Fault Refusal :=
  s.does a (State.onTask task.val (State.onPrg (Prg.fetchFault task.val)))

/-- STOP (R258): a write of PRG_T_CTRL.STOP for the task that PRG_T_SEL names. -/
def execStopTask (a : At) (acc : Accessor) (s : State) : Host.Outcome State Fault Refusal :=
  s.does a (State.writePlain acc Reg.PRG_T_CTRL 0 1#32)

/-- START (R258). -/
def execStartTask (a : At) (acc : Accessor) (s : State) : Host.Outcome State Fault Refusal :=
  s.does a (State.writePlain acc Reg.PRG_T_CTRL 0 2#32)

/-- CLR (R258). -/
def execClrTaskStats (a : At) (acc : Accessor) (s : State) : Host.Outcome State Fault Refusal :=
  s.does a (State.writePlain acc Reg.PRG_T_CTRL 0 4#32)

/-! ## Retained data (R250) -/

/-- RETAIN_SAVE_PERIOD (R250): PRG_RET_PERIOD seconds have passed. -/
def execRetainSavePeriod (a : At) (s : State) : Host.Outcome State Fault Refusal := s.does a State.requestSave

/-- SAVE (R250): a write of PRG_RET_CTRL.SAVE. -/
def execSave (a : At) (acc : Accessor) (s : State) : Host.Outcome State Fault Refusal :=
  s.does a (State.writePlain acc Reg.PRG_RET_CTRL 0 1#32)

/-- RETAIN_SAVE_DONE (R250): the write has ended, well or not. -/
def execRetainSaveDone (a : At) (ok : Bool) (s : State) : Host.Outcome State Fault Refusal :=
  s.does a (State.upOn Pg.PRG (fun s => if s.sup.dead then s else s.onPrg (Prg.saveDone ok)))

/-! ## Forcing and online change (R251–R257) -/

/-- FORCE_COMMIT (R252): a write of PRG_FRC_WORD. -/
def execForceCommit (a : At) (acc : Accessor) (value : Word) (s : State) : Host.Outcome State Fault Refusal :=
  s.does a (State.writePlain acc Reg.PRG_FRC_WORD 0 value)

/-- CHECK (R254): a write of PRG_CHG_CTRL.CHECK. -/
def execCheck (a : At) (acc : Accessor) (s : State) : Host.Outcome State Fault Refusal :=
  s.does a (State.writePlain acc Reg.PRG_CHG_CTRL 0 1#32)

/-- CHANGE (R254). -/
def execChange (a : At) (acc : Accessor) (s : State) : Host.Outcome State Fault Refusal :=
  s.does a (State.writePlain acc Reg.PRG_CHG_CTRL 0 2#32)

/-- ABORT (R254). -/
def execAbort (a : At) (acc : Accessor) (s : State) : Host.Outcome State Fault Refusal :=
  s.does a (State.writePlain acc Reg.PRG_CHG_CTRL 0 4#32)

/-- CHANGE_POINT (R255): the change that waits is made at a fathom start that is a change point. -/
def execChangePoint (a : At) (s : State) : Host.Outcome State Fault Refusal :=
  s.does a (State.upOn Pg.PRG (fun s => if s.mode = .run then s.onPrg (Prg.changePoint s) else s))

/-- CHANGE_WAIT_EXPIRY (R255). -/
def execChangeWaitExpiry (a : At) (s : State) : Host.Outcome State Fault Refusal :=
  s.does a (State.upOn Pg.PRG (State.onPrg Prg.expire))

/-- The end of SUP's check of the image in the other run slot (R239, R254): an accepted one has its sections copied and relocated. -/
def State.changeChecked (s : State) : State :=
  if s.prg.chgState ≠ 1 ∨ s.sup.dead = true then s
  else
    let x : ImageAt := ⟨s.mem, runSlotBase (!s.prg.slot)⟩
    let t := s.onPrg (Prg.checkDone x s.imageKeys s.seq.lenUs s.fq.regs)
    if t.prg.chgState = 2 then { t with mem := x.loadInto (!s.prg.slot) t.mem } else t

/-- CHANGE_CHECK_DONE (R254, R256, R257). -/
def execChangeCheckDone (a : At) (s : State) : Host.Outcome State Fault Refusal := s.does a (State.upOn Pg.PRG State.changeChecked)

end Sys2Proof.Machine
end

