-- ==== Sys2Proof/Machine/SafetyCommands.lean ====
section
/-! DEFINITION. The commands of the safety layer (R365–R388). -/

namespace Sys2Proof.Machine

/-- A happening of the safety island. -/
def State.safDoes (f : Nat → Saf → W Saf) (s : State) : State := s.upOn Pg.SAFC (fun s => s.onSaf (f s.now))

/-- SAFC_CYCLE (R365): the raw levels of the safety inputs and the work of the cycle in 0.1 µs. -/
def execSafcCycle (a : At) (raw : BitVec 32) (work : Nat) (s : State) : Host.Outcome State Fault Refusal :=
  s.does a (State.safDoes (fun now u => u.cycle raw now work))

/-- SAFETY_INPUT_CHANGE (R367): the raw levels from now on. -/
def execSafetyInputChange (a : At) (raw : BitVec 32) (s : State) : Host.Outcome State Fault Refusal :=
  s.does a (State.safDoes (fun now u => u.inputChange raw now))

/-- DISCREPANCY_TIMEOUT (R370). -/
def execDiscrepancyTimeout (a : At) (inst : Fin 16) (s : State) : Host.Outcome State Fault Refusal :=
  s.does a (State.safDoes (fun now u => u.both now (Saf.discrepancy now inst.val)))

/-- TWOHAND_SYNC_TIMEOUT (R369). -/
def execTwohandSyncTimeout (a : At) (inst : Fin 16) (s : State) : Host.Outcome State Fault Refusal :=
  s.does a (State.safDoes (fun now u => u.both now (Saf.syncTimeout now inst.val)))

/-- SAFETY_OSC_FAULT (R366), with the frequency the monitor measured in kHz. -/
def execSafetyOscFault (a : At) (khz : Nat) (s : State) : Host.Outcome State Fault Refusal :=
  s.does a (State.safDoes (fun now u => u.oscFault khz now))

/-- SAFC_ALIVE_MISSING (R366). -/
def execSafcAliveMissing (a : At) (s : State) : Host.Outcome State Fault Refusal :=
  s.does a (State.safDoes (Saf.lock Pg.SAFH 0x41C1))

/-- SAFC_SELF_TEST_FAIL (R366): `block` that a memory block of SAFC is uncorrectable, else a self-test failed. -/
def execSafcSelfTestFail (a : At) (block : Bool) (s : State) : Host.Outcome State Fault Refusal :=
  s.does a (State.safDoes (Saf.lock Pg.SAFC (if block then 0x40C6 else 0x41C2)))

/-- SAFH_PARITY_FAIL (R366). -/
def execSafhParityFail (a : At) (s : State) : Host.Outcome State Fault Refusal :=
  s.does a (State.safDoes (Saf.lock Pg.SAFH 0x41C3))

/-- SFO_TEST_PULSE (R373): the low-side or high-side switch of an output, the voltages at SOk+ and SOk− and SL+ in mV, and the load
current in mA. -/
def execSfoTestPulse (a : At) (out : Fin 8) (low : Bool) (vp vm sl mA : Nat) (s : State) : Host.Outcome State Fault Refusal :=
  s.does a (State.safDoes (fun now u => u.testPulse now out.val low vp vm sl mA))

/-- READBACK_MISMATCH (R373). -/
def execReadbackMismatch (a : At) (out : Fin 8) (low : Bool) (s : State) : Host.Outcome State Fault Refusal :=
  s.does a (State.safDoes (fun now u => u.mismatch now out.val low))

/-- SAFETY_OUTPUT_OVERLOAD (R374). -/
def execSafetyOutputOverload (a : At) (out : Fin 8) (s : State) : Host.Outcome State Fault Refusal :=
  s.does a (State.safDoes (fun now u => u.overload now out.val))

/-- SL_UNDERVOLTAGE (R374), with SL+ in mV. -/
def execSlUndervoltage (a : At) (sl : Nat) (s : State) : Host.Outcome State Fault Refusal :=
  s.does a (State.safDoes (fun now u => u.undervoltage now sl))

/-- SL_RECOVERY (R374), with SL+ in mV. -/
def execSlRecovery (a : At) (sl : Nat) (s : State) : Host.Outcome State Fault Refusal :=
  s.does a (State.safDoes (fun now u => W.of (u.slRecover now sl)))

/-- DEGRADED_EXPIRY (R381). -/
def execDegradedExpiry (a : At) (inst : Fin 16) (s : State) : Host.Outcome State Fault Refusal :=
  s.does a (State.safDoes (fun now u => u.both now (Saf.degExpiry now inst.val)))

/-- RESET_TAKEN (R382). -/
def execResetTaken (a : At) (input : Fin 32) (s : State) : Host.Outcome State Fault Refusal :=
  s.does a (State.safDoes (fun now u => u.resetTaken now input.val))

/-- RESET_HELD (R382). -/
def execResetHeld (a : At) (input : Fin 32) (s : State) : Host.Outcome State Fault Refusal :=
  s.does a (State.safDoes (fun now u => u.resetHeld now input.val))

/-- STAGING_WRITE (R379): a write of SAFC_P_DATA. -/
def execStagingWrite (a : At) (acc : Accessor) (value : Word) (s : State) : Host.Outcome State Fault Refusal :=
  s.does a (State.writePlain acc Reg.SAFC_P_DATA 0 value)

/-- SAFETY_PARAM_CHECK (R379): a write of SAFC_P_LOAD.CHECK. -/
def execSafetyParamCheck (a : At) (acc : Accessor) (s : State) : Host.Outcome State Fault Refusal :=
  s.does a (State.writePlain acc Reg.SAFC_P_LOAD 0 1#32)

/-- CONFIRM (R379): a write of SAFC_CONFIRM. -/
def execConfirm (a : At) (acc : Accessor) (value : Word) (s : State) : Host.Outcome State Fault Refusal :=
  s.does a (State.writePlain acc Reg.SAFC_CONFIRM 0 value)

/-- REQ_REFRESH (R384): the paths, to SAFC and to SAFH, that delivered SFO_REQ. -/
def execReqRefresh (a : At) (toC toH : Bool) (s : State) : Host.Outcome State Fault Refusal :=
  s.does a (State.safDoes (fun now u => W.of (u.refreshReq now toC toH)))

/-- REQ_LOSS (R384): of SAFC or of SAFH. -/
def execReqLoss (a : At) (safc : Bool) (s : State) : Host.Outcome State Fault Refusal :=
  s.does a (State.safDoes (fun now u => u.lossReq now safc))

end Sys2Proof.Machine
end

