-- ==== Sys2Proof/Machine/SeqCommands.lean ====
section
/-! DEFINITION. The commands of the sequencer (R37–R62) and LATCH (R44). -/

namespace Sys2Proof.Machine

/-- FATHOM_START (R49). -/
def execFathomStart (a : At) (s : State) : Host.Outcome State Fault Refusal := s.does a State.fathomStart

/-- SPAN_COMPLETION (R46). -/
def execSpanCompletion (a : At) (idx : Nat) (result : Bool) (s : State) : Host.Outcome State Fault Refusal :=
  s.does a (State.spanDone idx result)

/-- SPAN_DEADLINE (R57, R58). -/
def execSpanDeadline (a : At) (idx : Nat) (s : State) : Host.Outcome State Fault Refusal := s.does a (State.deadline idx)

/-- SPAN_STORE (R51): a write of SEQ_SPAN_W7. -/
def execSpanStore (a : At) (acc : Accessor) (value : Word) (s : State) : Host.Outcome State Fault Refusal :=
  s.does a (State.writePlain acc Reg.SEQ_SPAN_W7 0 value)

/-- SHADOW_COUNT_WRITE (R51). -/
def execShadowCountWrite (a : At) (acc : Accessor) (value : Word) (s : State) : Host.Outcome State Fault Refusal :=
  s.does a (State.writePlain acc Reg.SEQ_SHADOW_CNT 0 value)

/-- SWAP_REQUEST (R52, R53): a write of 1 to SEQ_SWAP. -/
def execSwapRequest (a : At) (acc : Accessor) (s : State) : Host.Outcome State Fault Refusal :=
  s.does a (State.writePlain acc Reg.SEQ_SWAP 0 1#32)

/-- FURLONG_SWAP (R54). -/
def execFurlongSwap (a : At) (s : State) : Host.Outcome State Fault Refusal := s.does a State.furlongSwap

/-- PUB_SEL_WRITE (R62). -/
def execPubSelWrite (a : At) (acc : Accessor) (value : Word) (s : State) : Host.Outcome State Fault Refusal :=
  s.does a (State.writePlain acc Reg.SEQ_PUB_SEL 0 value)

/-! ## LATCH (R44) -/

/-- The value of a position channel in an input record (R272): the SSI position, or the incremental count. -/
def Pos.latchedValue (u : Pos) (n : Nat) : Word :=
  if u.mode n = 1 then u.reg Reg.POS_SSI_POS n else if u.mode n = 2 then u.reg Reg.POS_COUNT n else 0#32

/-- The field inputs of groups 2k and 2k + 1 as a word of an input record (R272). -/
def Fio.pairWord (u : Fio) (k : Nat) : Word :=
  wd (rfld u.regs (rk Reg.FIO_IN (2 * k) 0) 15 0 + 0x10000 * rfld u.regs (rk Reg.FIO_IN (2 * k + 1) 0) 15 0)

/-- Words 1–39 of an input record after a LATCH (R272): what its classes freeze is new, the rest stands. -/
def State.latchedWords (s : State) (arg : Word) : List Word :=
  let old := s.chn.latched
  [s.fno, s.chn.applied]
    ++ (upto 6).map (fun k => if bit arg 0 then s.fio.pairWord k else wordAt old (2 + k)) ++ [0#32]
    ++ (upto 24).map (fun n => if bit arg 1 then s.pos.latchedValue n else wordAt old (9 + n)) ++ List.replicate 6 0#32

/-- The field groups at a LATCH (R334). -/
def State.latchFields (s : State) : State :=
  let ns := (upto 12).filter (fun n => s.works (Pg.FIO + n))
  s.onFio (fun u => ns.foldl Fio.latchSamples (ns.foldl (Fio.latch s) (W.of u)))

/-- The position channels at a LATCH (R352, R359), with the levels of their data lines. -/
def State.latchPositions (lines : BitVec 24) (s : State) : State :=
  let ns := (upto 24).filter (fun n => s.works (Pg.POS + n))
  s.onPos (fun u => ns.foldl (Pos.latch s lines) (W.of u))

/-- The serial ports and the controllers at a LATCH (R317, R346). -/
def State.latchSerial (s : State) : State :=
  { s with ser := ((upto 12).filter (fun n => s.works (Pg.SER + n))).foldl Ser.latch s.ser }

/-- The CAN controllers at a LATCH (R317). -/
def State.latchCan (s : State) : State :=
  { s with can := ((upto 4).filter (fun n => s.works (Pg.CAN + n))).foldl Can.latch s.can }

/-- The Chain at a LATCH (R272, R273): an IO member applies its outputs, a controller writes its station records. -/
def State.latchChain (s : State) : State :=
  s.workOn Pg.CHN (fun s =>
    let s := if s.chn.role = 4 then s.onChn Chn.latchOutputs else s
    s.onChn (Chn.stations s s.chnEnv))

/-- What a LATCH freezes (R44): the classes of ARG. -/
def State.latchAll (arg : Word) (lines : BitVec 24) (s : State) : State :=
  let s := if bit arg 0 then s.latchFields else s
  let s := if bit arg 1 then s.latchPositions lines else s
  let s := if bit arg 2 then s.latchSerial else s
  let s := if bit arg 3 then s.latchCan else s
  let s := if bit arg 4 then s.latchChain else s
  let s := if bit arg 5 then s.workOn Pg.PRP (fun s => { s with net := s.net.latch }) else s
  { s with chn := { s.chn with latched := s.latchedWords arg } }

/-- LATCH (R44): complete at its START. `lines` are the data lines of the position channels. -/
def execLatch (a : At) (idx : Nat) (lines : BitVec 24) (s : State) : Host.Outcome State Fault Refusal :=
  s.does a (State.startSpan idx Span.isLatch true (fun x _ s => (s.latchAll x.arg lines, true)))

end Sys2Proof.Machine
end

