-- ==== Sys2Proof/Machine/Service.lean ====
section
/-! DEFINITION. The Orrad service protocol (R302–R304, R442) with its transfers (R423, R426): requests and replies as UDP payloads. The
fields inside a body whose places the spec does not give are laid out as log entry 23 says. -/

namespace Sys2Proof.Machine

/-! ## Requests (R302) -/

/-- Whether the service path answers: SUP and I8 run, and the plant interface is at work. Log entry 90 (DEDUCED). -/
def State.serviceUp (s : State) : Bool :=
  s.works Pg.PRP && s.islandUp 1 && !s.sup.dead && s.mode != .boot && s.mode != .off

/-- A request as it is laid out. -/
structure Request_ where
  op      : Nat
  session : Nat
  seq     : Nat
  count   : Nat
  rest    : List Byte
  whole   : List Byte

/-- A payload read as a request; none when MAGIC, VERSION or the length is wrong. Log entry 23 (DESIGN CHOICE). -/
def readRequest (bs : List Byte) : Option Request_ :=
  if bs.length < 16 ∨ beNat (bs.take 2) ≠ 0x4F52 ∨ byteAt bs 2 ≠ 1 then none
  else some ⟨byteAt bs 3, beNat (sliceB bs 4 4), beNat (sliceB bs 8 4), beNat (sliceB bs 12 2), bs.drop 16, bs⟩

/-- Whether a payload's last 32 bytes are its tag under a key. -/
def tagOk (key bs : List Byte) : Bool :=
  decide (48 ≤ bs.length) && Config.hmacSha256 key (bs.take (bs.length - 32)) == bs.drop (bs.length - 32)

/-- A request discarded without reply. -/
def State.reject (s : State) : State :=
  ({ s with net := { s.net with regs := rmod s.net.regs Reg.PRP_SVC_CNT (fun x => incSatField x 31 16) } } : State).code Pg.PRP 0x1D80 []

/-- A request counted as served, its session's SEQ and time taken. Log entry 90 (DEDUCED). -/
def State.served (q : Request_) (s : State) : State :=
  { s with net := { s.net with
      regs := rmod s.net.regs Reg.PRP_SVC_CNT (fun x => incWrapField x 15 0)
      sessions := s.net.sessions.map (fun x => if x.number = q.session then { x with seq := q.seq, last := s.tim.time } else x) } }

/-- A reply sent: the bytes before its tag. -/
def State.reply (op session seq count status : Nat) (body : List Byte) (s : State) : State :=
  { s with outbox := .reply (beBytes 2 0x4F52 ++ beBytes 1 1 ++ beBytes 1 op ++ beBytes 4 session ++ beBytes 4 seq ++ beBytes 2 count
      ++ beBytes 2 status ++ body) :: s.outbox }

/-- A session ended, with the transfer it has open (R426). -/
def State.closeSession (number : Nat) (s : State) : State :=
  let own := match s.nvs.transfer with | some t => t.session == number | none => false
  ({ s with
    net := { s.net with sessions := s.net.sessions.filter (fun x => x.number != number) }
    nvs := if own then { s.nvs with transfer := none } else s.nvs } : State).releaseIdle

/-- Whether the module answers an operation now: in HALT transfers and, for SUP_RESET, WRITE alone (R423). Log entry 90 (DEDUCED). -/
def State.answers (s : State) (op : Nat) : Bool := s.mode != .halt || decide (0x10 ≤ op) || op == 3

/-- A request of a session, after HELLO: checked, then `go` answers it with COUNT, STATUS and body. The keyless session may use KEY_SET
alone; its frames carry no tag. -/
def State.request (op : Nat) (bs : List Byte) (go : Session → Request_ → List Byte → State → State × Nat × Nat × List Byte) (s : State) :
    State :=
  match (if s.serviceUp && s.answers op then readRequest bs else none) with
  | none => s
  | some q =>
    if q.op ≠ op then s
    else match s.net.sessions.find? (fun x => x.number == q.session) with
    | none => s.reject
    | some x =>
      let keyless := decide (x.slot = 0xFF)
      if !(keyless || tagOk x.key bs) || decide (q.seq ≤ x.seq) then s.reject
      else
        let s := s.served q
        let body := if keyless then q.rest else q.rest.take (q.rest.length - 32)
        if keyless ∧ op ≠ 5 then s.reply op q.session q.seq 0 1 []
        else
          let y := go x q body s
          if y.1.serviceUp then y.1.reply op q.session q.seq y.2.1 y.2.2.1 y.2.2.2 else y.1

/-! ## HELLO (R302, R303) -/

/-- Four free words as a nonce, and the state after them. -/
def State.nonce (s : State) : List Byte × State :=
  let a := s.fresh
  let b := a.2.fresh
  let c := b.2.fresh
  let d := c.2.fresh
  (wordsBytes [a.1, b.1, c.1, d.1], d.2)

/-- A session opened under a slot's key. -/
def State.openSession (slot : Nat) (key client : List Byte) (seq : Nat) (s : State) : State :=
  let x := s.nonce
  let s := x.2
  let n := s.net.opened + 1
  let sk := if slot = 0xFF then [] else Config.hmacSha256 key ([0x4F, 0x52, 0x52, 0x41, 0x44].map (BitVec.ofNat 8) ++ client ++ x.1)
  let s : State := { s with net := { s.net with
      regs := rmod s.net.regs Reg.PRP_SVC_CNT (fun x => incWrapField x 15 0)
      opened := n
      sessions := s.net.sessions ++ [⟨n, slot, sk, seq, s.tim.time⟩] } }
  let slots := keySlots s.nvs.keys + 16 * keySlots s.nvs.images
  (s.code Pg.PRP 0x0D81 []).reply 1 n seq 1 0 (x.1 ++ beBytes 1 slots)

/-- HELLO: a key slot and a client nonce. A fifth session is not opened. Log entry 23 (DESIGN CHOICE). -/
def State.hello (bs : List Byte) (s : State) : State :=
  match (if s.serviceUp then readRequest bs else none) with
  | none => s
  | some q =>
    let slot := byteAt q.rest 0
    let client := sliceB q.rest 1 16
    if q.op ≠ 1 then s
    else if slot = 0xFF then
      (if s.mode = .config ∧ s.nvs.keys = [] ∧ s.net.sessions.length < 4 ∧ q.rest.length = 17 then s.openSession slot [] client q.seq
       else s.reject)
    else match keyOf s.nvs.keys slot with
    | none => s.reject
    | some k =>
      if !tagOk k bs || decide (q.rest.length ≠ 49) then s.reject
      else if 4 ≤ s.net.sessions.length then s
      else s.openSession slot k client q.seq

/-! ## READ, WRITE and KEY_SET (R303, R304, R442) -/

/-- The words of a READ: the first n of them are attempted; the words so far come last first, with the highest STATUS. -/
def State.readWords (addr : Nat) : Nat → Nat → List Word × Nat → State → State × List Word × Nat
  | 0, _, acc, s => (s, acc.1.reverse, acc.2)
  | left + 1, n, acc, s =>
    match n with
    | 0 => s.readWords (addr + 4) left 0 (0#32 :: acc.1, max acc.2 4)
    | n + 1 =>
      let y := s.readMem .service addr 4
      y.1.readWords (addr + 4) left n (wd (leNat y.2.1) :: acc.1, max acc.2 y.2.2)

/-- READ: up to 128 words from a start address; `within` of them fall within the request's 2 ms. Log entry 23 (DESIGN CHOICE). -/
def State.serviceRead (within : Nat) (bs : List Byte) (s : State) : State :=
  s.request 2 bs (fun _ q body s =>
    let n := min q.count 128
    let y := s.readWords (beNat (body.take 4)) n within ([], 0)
    (y.1, n, y.2.2, y.2.1.flatMap (fun w => beBytes 4 w.toNat)))

/-- The pairs of a WRITE applied in order, the first n of them; one status a pair. -/
def State.writePairs : List (Nat × Word) → Nat → State → State × List Nat
  | [], _, s => (s, [])
  | _ :: l, 0, s => let y := s.writePairs l 0; (y.1, 4 :: y.2)
  | p :: l, n + 1, s =>
    let y :=
      if p.1 % 4 ≠ 0 ∧ regionOf p.1 ≠ some .pages then (s.refuseAccess .service, 2)
      else s.writeMem .service p.1 (wordBytes p.2)
    let z := y.1.writePairs l n
    (z.1, y.2 :: z.2)

/-- The pairs of a body. Log entry 23 (DESIGN CHOICE). -/
def pairsOf (count : Nat) (body : List Byte) : List (Nat × Word) :=
  (upto (min (min count 64) (body.length / 8))).map (fun i => (beNat (sliceB body (8 * i) 4), wd (beNat (sliceB body (8 * i + 4) 4))))

/-- WRITE: STATUS of the reply is the highest of the pairs. Log entries 23 (DESIGN CHOICE), 88 (DESIGN CHOICE), 90 (DEDUCED). -/
def State.serviceWrite (within : Nat) (bs : List Byte) (s : State) : State :=
  s.request 3 bs (fun _ q body s =>
    let y := s.writePairs (pairsOf q.count body) within
    let worst := y.2.foldl max 0
    let s := if worst ≠ 0 ∧ y.1.serviceUp = true then y.1.code Pg.PRP 0x1D82 [] else y.1
    (s, y.2.length, worst, y.2.flatMap (beBytes 1)))

/-- A key item stored: KIND, slot, key. -/
def State.storeKey (kind slot : Nat) (key : List Byte) (s : State) : State :=
  let nvs : Nvs := if kind = 0 then { s.nvs with keys := keySet s.nvs.keys slot key } else { s.nvs with images := keySet s.nvs.images slot key }
  ({ s with nvs := nvs } : State).codeRec Pg.PRP 0x0D83 [wd kind, wd slot]

/-- KEY_SET: `ok` is the read-back. -/
def State.serviceKeySet (ok : Bool) (bs : List Byte) (s : State) : State :=
  s.request 5 bs (fun x _ body s =>
    let kind := byteAt body 0
    let slot := byteAt body 1
    let key := sliceB body 4 32
    if ¬ (s.mode = .config ∨ s.mode = .service) ∨ ¬ (x.slot = 0 ∨ x.slot = 0xFF) ∨ 1 < kind ∨ 3 < slot ∨ body.length ≠ 36
        ∨ beNat (sliceB body 2 2) ≠ 0 then (s, 0, 1, [])
    else if !ok then (s.onNvs (Nvs.fail 8 (128 * kind + 32 * slot)), 0, 6, [])
    else (s.storeKey kind slot key, 0, 0, []))

/-- CLOSE: the session ends after its reply. -/
def State.serviceClose (bs : List Byte) (s : State) : State :=
  s.request 4 bs (fun x _ _ s => (s.closeSession x.number, 0, 0, []))

/-- SESSION_TIMEOUT: 60 s without a request. -/
def State.sessionTimeout (number : Nat) (s : State) : State :=
  match s.net.sessions.find? (fun x => x.number == number) with
  | some x => if 60000000000 ≤ s.tim.time - x.last then s.closeSession number else s
  | none => s

/-! ## Transfers (R423, R426) -/

/-- The slot whose image is loaded, as a region. -/
def State.imageRegion (s : State) : Option Nat :=
  if rbit s.sup.regs Reg.SUP_STAT 7 then some (1 + b2n (rbit s.sup.regs Reg.SUP_STAT 6)) else none

/-- The byte address of an offset of a region. -/
def regionAddr (r off : Nat) : Nat := if r = 12 then shelfBase + off else nvsAddr r + off

/-- The end of a transfer operation: a STATUS other than 0 records code 0x199. -/
def State.transferred (status : Nat) (body : List Byte) (s : State) : State × Nat × Nat × List Byte :=
  (if status = 0 then s else s.code Pg.SUP 0x1199 [wd status], 0, status, body)

/-- OPEN. -/
def State.transferOpen (bs : List Byte) (s : State) : State :=
  s.request 0x10 bs (fun x _ body s =>
    let r := beNat (sliceB body 0 4)
    let off := beNat (sliceB body 4 4)
    let len := beNat (sliceB body 8 4)
    let st := s.nvs.openStatus s.mode (s.grant 20) r off len
    (if st = 0 then { s with nvs := { s.nvs with transfer := some ⟨x.number, r, off, len⟩ } } else s).transferred st [])

/-- DATA: `ok` is the read-back; a failed write leaves what was there. -/
def State.transferData (ok : Bool) (bs : List Byte) (s : State) : State :=
  s.request 0x11 bs (fun x _ body s =>
    let off := beNat (sliceB body 0 4)
    let d := body.drop 4
    let st := s.nvs.dataStatus s.mem s.mode s.imageRegion s.sup.copy (s.grant 20) ok x.number off d.length
    let r := match s.nvs.transfer with | some t => t.region | none => 0
    let s :=
      if st = 6 then s.onNvs (Nvs.fail r off)
      else if st = 0 ∧ d ≠ [] then
        (let s := s.commit Fx.none [⟨Pg.NVS, nvsAddr r + off, d, false⟩]
         { s with nvs := s.nvs.mark r false })
      else s
    s.transferred st [])

/-- Whether the content a transfer has brought is sound: MAGIC and CRC, and the signature of images. -/
def State.regionSound (s : State) (t : Transfer) : Bool :=
  let part := fun (lo hi : Nat) => decide (t.offset < hi) && decide (lo < t.offset + t.length)
  if t.region = 0 then
    (!part 0 0x100000 || (firmwareVersion s.mem 0).isSome) && (!part 0x100000 0x200000 || (firmwareVersion s.mem 1).isSome)
  else if t.region = 1 ∨ t.region = 2 then
    (let x := s.slotImage (t.region - 1)
     x.headOk && x.crcOk && x.signed s.imageKeys)
  else if t.region = 3 ∨ t.region = 4 then cfgSound s.mem (nvsAddr t.region)
  else if t.region = 7 then
    (!part 0 0x401000 || fusionSound s.mem weightsAt 0x5A7C5701) && (!part 0x408000 0x810000 || fusionSound s.mem mapsAt 0x5A7C5702)
  else false

/-- The registers that show what the store holds, after a COMMIT (R429). -/
def State.showRegion (r : Nat) (s : State) : State :=
  if r = 0 then { s with sup := { s.sup with regs := rset s.sup.regs Reg.SUP_FW_VER (firmwareWord s.mem) } }
  else if r = 1 ∨ r = 2 then s.showImages
  else s

/-- COMMIT. -/
def State.transferCommit (bs : List Byte) (s : State) : State :=
  s.request 0x12 bs (fun x _ _ s =>
    match s.nvs.transfer with
    | none => s.transferred 1 []
    | some t =>
      if t.session ≠ x.number then s.transferred 1 []
      else if nvsClosed t.region then s.transferred 2 []
      else if !nvsAdmits s.mode s.imageRegion t.region then s.transferred 1 []
      else if !s.grant 20 then s.transferred 4 []
      else
        let ok := s.regionSound t
        let s : State := ({ s with nvs := s.nvs.mark t.region ok } : State).showRegion t.region
        s.transferred (if ok then 0 else 5) [])

/-- READ of a transfer. -/
def State.transferRead (bs : List Byte) (s : State) : State :=
  s.request 0x13 bs (fun x _ body s =>
    let off := beNat (sliceB body 0 4)
    let len := beNat (sliceB body 4 4)
    let st := s.nvs.readStatus (s.grant 20) x.number off len
    let a := regionAddr (match s.nvs.transfer with | some t => t.region | none => 0) off
    if st = 0 then
      (s.commit { Fx.none with reads := (blocksOf a len).map (fun b => (Pg.NVS, 32 * b)) } []).transferred 0 (s.mem.readBytes a len)
    else s.transferred st [])

/-- CLOSE of a transfer. -/
def State.transferClose (bs : List Byte) (s : State) : State :=
  s.request 0x14 bs (fun x _ _ s =>
    let own := match s.nvs.transfer with | some t => t.session == x.number | none => false
    if own then (({ s with nvs := { s.nvs with transfer := none } } : State).releaseIdle).transferred 0 []
    else s.transferred 1 [])

end Sys2Proof.Machine
end

