-- ==== Sys2Proof/Machine/ServiceCommands.lean ====
section
/-! DEFINITION. The commands of the service path (R302–R304, R426, R442): each frame is the UDP payload that comes to port 30125. -/

namespace Sys2Proof.Machine

/-- HELLO (R302). -/
def execHello (a : At) (frame : List Byte) (s : State) : Host.Outcome State Fault Refusal := s.does a (State.hello frame)

/-- READ (R442). -/
def execRead (a : At) (within : Nat) (frame : List Byte) (s : State) : Host.Outcome State Fault Refusal :=
  s.does a (State.serviceRead within frame)

/-- WRITE (R304). -/
def execWrite (a : At) (within : Nat) (frame : List Byte) (s : State) : Host.Outcome State Fault Refusal :=
  s.does a (State.serviceWrite within frame)

/-- CLOSE (R302). -/
def execClose (a : At) (frame : List Byte) (s : State) : Host.Outcome State Fault Refusal := s.does a (State.serviceClose frame)

/-- KEY_SET (R303). -/
def execKeySet (a : At) (ok : Bool) (frame : List Byte) (s : State) : Host.Outcome State Fault Refusal :=
  s.does a (State.serviceKeySet ok frame)

/-- OPEN (R426). -/
def execTransferOpen (a : At) (frame : List Byte) (s : State) : Host.Outcome State Fault Refusal := s.does a (State.transferOpen frame)

/-- DATA (R426). -/
def execTransferData (a : At) (ok : Bool) (frame : List Byte) (s : State) : Host.Outcome State Fault Refusal :=
  s.does a (State.transferData ok frame)

/-- COMMIT (R426). -/
def execTransferCommit (a : At) (frame : List Byte) (s : State) : Host.Outcome State Fault Refusal := s.does a (State.transferCommit frame)

/-- READ of a transfer (R426). -/
def execTransferRead (a : At) (frame : List Byte) (s : State) : Host.Outcome State Fault Refusal := s.does a (State.transferRead frame)

/-- CLOSE of a transfer (R426). -/
def execTransferClose (a : At) (frame : List Byte) (s : State) : Host.Outcome State Fault Refusal := s.does a (State.transferClose frame)

/-- SESSION_TIMEOUT (R302). -/
def execSessionTimeout (a : At) (session : Nat) (s : State) : Host.Outcome State Fault Refusal := s.does a (State.sessionTimeout session)

end Sys2Proof.Machine
end

