-- ==== Sys2Proof/Machine/TimeCommands.lean ====
section
/-! DEFINITION. The commands of TIM, PTP, ETH0–ETH3 and the plant interface (R287–R301). -/

namespace Sys2Proof.Machine

/-! ## What PTP takes from the rest of the module (R294, R297) -/

/-- The ingress timestamp of a frame captured now at a port. -/
def State.ingressAt (s : State) (port : Nat) : Int := s.tim.time - ingressCorrection s.net.regs port

/-- The egress timestamp of a frame captured now at a port. -/
def State.egressAt (s : State) (port : Nat) : Int := s.tim.time + egressCorrection s.net.regs port

/-- clockClass of this module. -/
def State.clockClass (s : State) : Nat := ownClass s.tim.timeOk (rbit s.tim.regs Reg.TIM_STAT 2) s.tim.selected

/-- The clockIdentity of this module. -/
def State.clockIdent (s : State) : Nat := clockIdentity s.net.regs

/-- PTP is no valid source while its time receiver has no parent (R290). Log entry 60 (DEDUCED). -/
def State.parentLost (s : State) : State :=
  if s.ptp.parent.isNone && s.tim.valid.contains 1 then s.onTim (Tim.lapse 1) else s

/-! ## PTP: `data` is the PTP message -/

/-- PTP_SYNC_RECEIVE (R290, R294): a Sync or a Follow_Up. -/
def execPtpSyncReceive (a : At) (port : Fin 4) (frame : List Byte) (s : State) : Host.Outcome State Fault Refusal :=
  s.does a (State.workOn Pg.PTP (fun s =>
    let x := s.ptp.sync port.val (s.ingressAt port.val) s.epoch frame
    let s : State := { s with ptp := x.1 }
    match x.2 with
    | some (e, seq, tc) => s.steer (Tim.offsetFrom 1 e (some seq) tc false)
    | none => s))

/-- PTP_ANNOUNCE_RECEIVE (R294). -/
def execPtpAnnounceReceive (a : At) (port : Fin 4) (frame : List Byte) (s : State) : Host.Outcome State Fault Refusal :=
  s.does a (State.workOn Pg.PTP (fun s => (s.onPtp (Ptp.announce s.clockClass s.clockIdent port.val frame)).parentLost))

/-- PTP_DELAY_EXCHANGE (R294, R297): a delay message received; `turnNs` after it an answer leaves. -/
def execPtpDelayExchange (a : At) (port : Fin 4) (turnNs : Nat) (frame : List Byte) (s : State) : Host.Outcome State Fault Refusal :=
  s.does a (State.workOn Pg.PTP (fun s =>
    s.onPtp (Ptp.delayMessage s.clockIdent port.val (s.ingressAt port.val) (s.egressAt port.val + turnNs) s.epoch frame)))

/-- PTP_TRANSPARENT_FORWARD (R295): a message that enters a Chain port, with its residence time. -/
def execPtpTransparentForward (a : At) (port : Fin 2) (residenceNs : Nat) (frame : List Byte) (s : State) :
    Host.Outcome State Fault Refusal :=
  s.does a (State.workOn Pg.PTP (fun s => s.onPtp (Ptp.forward port.val s.tim.time residenceNs frame)))

/-- PTP_SYNC_SEND (R296). -/
def execPtpSyncSend (a : At) (s : State) : Host.Outcome State Fault Refusal :=
  s.does a (State.workOn Pg.PTP (fun s =>
    s.onPtp (Ptp.sendSync s.clockClass s.clockIdent (s.feature 1 && rbit s.ptp.regs Reg.PTP_CFG 9) s.egressAt)))

/-- PTP_ANNOUNCE_SEND (R294). -/
def execPtpAnnounceSend (a : At) (s : State) : Host.Outcome State Fault Refusal :=
  s.does a (State.workOn Pg.PTP (fun s => s.onPtp (Ptp.sendAnnounce s.clockClass s.clockIdent s.tim.time)))

/-- PTP_DELAY_REQ_SEND (R294). -/
def execPtpDelayReqSend (a : At) (port : Fin 4) (s : State) : Host.Outcome State Fault Refusal :=
  s.does a (State.workOn Pg.PTP (fun s => s.onPtp (Ptp.requestDelay s.clockIdent port.val (s.egressAt port.val) s.epoch)))

/-- PTP_ANNOUNCE_RECEIPT_TIMEOUT (R294). -/
def execPtpAnnounceReceiptTimeout (a : At) (port : Fin 4) (s : State) : Host.Outcome State Fault Refusal :=
  s.does a (State.workOn Pg.PTP (fun s => (s.onPtp (Ptp.announceTimeout s.clockClass s.clockIdent port.val)).parentLost))

/-! ## TIM -/

/-- PPS_IN_EDGE (R290). -/
def execPpsInEdge (a : At) (s : State) : Host.Outcome State Fault Refusal :=
  s.does a (State.upOn Pg.TIM (State.steer Tim.ppsEdge))

/-- SOURCE_LAPSE (R290): a source has stopped being valid. -/
def execSourceLapse (a : At) (source : Fin 4) (s : State) : Host.Outcome State Fault Refusal :=
  s.does a (State.upOn Pg.TIM (State.onTim (Tim.lapse source.val)))

/-- PRIMARY_RESELECT (R290): the primary has been valid for 10 s while the alternate is selected. -/
def execPrimaryReselect (a : At) (s : State) : Host.Outcome State Fault Refusal :=
  s.does a (State.upOn Pg.TIM (State.onTim (fun u => Tim.reselect (W.of u))))

/-- A step that is due is made (R292): at once while fathoms are not counted, else at the fathom start it waits for.
Log entry 31 (DEDUCED). -/
def State.stepTime (lines : BitVec 24) (s : State) : State :=
  if !s.counting || (decide (s.tick = 0) && (s.tim.stepDue (1000 * s.seq.startUs)).isSome) then s.makeStep lines else s

/-- TIME_STEP (R292), with the levels of the position channels' data lines. -/
def execTimeStep (a : At) (lines : BitVec 24) (s : State) : Host.Outcome State Fault Refusal :=
  s.does a (State.upOn Pg.TIM (State.stepTime lines))

/-- TIME_MATCH_ARM (R293): a write of TIM_TM_CFG, with the levels of the data lines. -/
def execTimeMatchArm (a : At) (acc : Accessor) (value : Word) (lines : BitVec 24) (s : State) : Host.Outcome State Fault Refusal :=
  s.does a (State.writeNamed (fun _ w _ s => s.armed w (s.tim.matchArm w (value &&& 0xFF0F#32)) lines) acc Reg.TIM_TM_CFG 0 value)

/-- TIME_MATCH_FIRE (R293): every comparator whose target has been reached. -/
def execTimeMatchFire (a : At) (lines : BitVec 24) (s : State) : Host.Outcome State Fault Refusal :=
  s.does a (State.upOn Pg.TIM (State.matchFire lines))

/-- TRIG_OUT_END (R293). -/
def execTrigOutEnd (a : At) (s : State) : Host.Outcome State Fault Refusal :=
  s.does a (State.upOn Pg.TIM (fun s => { s with tim := s.tim.trigOutEnd }))

/-- TRIG_IN_EDGE (R293, R409). -/
def execTrigInEdge (a : At) (s : State) : Host.Outcome State Fault Refusal :=
  s.does a (State.upOn Pg.TIM (fun s => ({ s with tim := s.tim.trigIn } : State).commit { Fx.none with snaps := [1] } []))

/-! ## Ethernet, PRP and the plant interface (R298–R301) -/

/-- LINK_DOWN (R298). -/
def execLinkDown (a : At) (port : Fin 4) (s : State) : Host.Outcome State Fault Refusal :=
  s.does a (State.upOn (Pg.ETH + port.val) (State.onNet (Net.linkDown port.val)))

/-- LINK_UP (R298): `speed` is SPEED of ETHn_STAT, `half` a half-duplex partner. -/
def execLinkUp (a : At) (port : Fin 4) (speed : Nat) (half : Bool) (s : State) : Host.Outcome State Fault Refusal :=
  s.does a (State.upOn (Pg.ETH + port.val) (State.onNet (Net.linkUp port.val speed half)))

/-- PRP_FRAME_RECEIVE (R299, R300): a whole frame on LAN A (0) or B (1). -/
def execPrpFrameReceive (a : At) (lan : Fin 2) (frame : List Byte) (s : State) : Host.Outcome State Fault Refusal :=
  s.does a (State.workOn Pg.PRP (fun s => s.onNet (Net.frame (s.feature 13) lan.val s.tim.time frame)))

/-- PRP_SUPERVISION_SEND (R299). -/
def execPrpSupervisionSend (a : At) (s : State) : Host.Outcome State Fault Refusal :=
  s.does a (State.workOn Pg.PRP (fun s => s.onNet (Net.supervise (s.feature 13))))

/-- PRP_LAN_LOSS (R299). -/
def execPrpLanLoss (a : At) (lan : Fin 2) (s : State) : Host.Outcome State Fault Refusal :=
  s.does a (State.workOn Pg.PRP (fun s => s.onNet (Net.lanLoss lan.val s.tim.time)))

/-- ARP_ICMP_REQUEST (R300): a whole frame. -/
def execArpIcmpRequest (a : At) (frame : List Byte) (s : State) : Host.Outcome State Fault Refusal :=
  s.does a (State.workOn Pg.PRP (fun s => s.onNet (Net.answer (s.feature 13) frame)))

/-- UDPBC_DATAGRAM (R301): through a group entry, to a UDP port. -/
def execUdpbcDatagram (a : At) (group port : Nat) (data : List Byte) (s : State) : Host.Outcome State Fault Refusal :=
  s.does a (State.workOn Pg.PRP (fun s => s.onNet (Net.udpbc group port s.tim.time data)))

end Sys2Proof.Machine
end

