-- ==== Sys2Proof/Machine/Dispatch.lean ====
section
/-! DEFINITION. What each command does to everything but the queue: one arm per command, one call of its meaning. -/

namespace Sys2Proof.Machine

def exec (i : Instr) (s : State) : Host.Outcome State Fault Refusal :=
  match i with
  | .powerOn t strapA strapB => Sys2Proof.Machine.execPowerOn t strapA strapB s
  | .bootComplete t => Sys2Proof.Machine.execBootComplete t s
  | .ringSearchDone t => Sys2Proof.Machine.execRingSearchDone t s
  | .commandedReset t acc value strapA strapB => Sys2Proof.Machine.execCommandedReset t acc value strapA strapB s
  | .goReady t acc => Sys2Proof.Machine.execGoReady t acc s
  | .goRun t acc => Sys2Proof.Machine.execGoRun t acc s
  | .stop t acc => Sys2Proof.Machine.execStop t acc s
  | .goConfig t acc => Sys2Proof.Machine.execGoConfig t acc s
  | .goService t acc => Sys2Proof.Machine.execGoService t acc s
  | .saveCfg t acc windows ok => Sys2Proof.Machine.execSaveCfg t acc windows ok s
  | .stateTransition t => Sys2Proof.Machine.execStateTransition t s
  | .holdupExhausted t => Sys2Proof.Machine.execHoldupExhausted t s
  | .supFetchFault t => Sys2Proof.Machine.execSupFetchFault t s
  | .registerWrite t acc addr width value => Sys2Proof.Machine.execRegisterWrite t acc addr width value s
  | .islandAccessTimeout t acc read => Sys2Proof.Machine.execIslandAccessTimeout t acc read s
  | .memoryAccess t acc addr len data => Sys2Proof.Machine.execMemoryAccess t acc addr len data s
  | .softReset t acc page value => Sys2Proof.Machine.execSoftReset t acc page value s
  | .freeze t acc page on => Sys2Proof.Machine.execFreeze t acc page on s
  | .pageErrClr t acc page same => Sys2Proof.Machine.execPageErrClr t acc page same s
  | .handshakeTimeout t page consumer => Sys2Proof.Machine.execHandshakeTimeout t page consumer s
  | .pllLockLoss t island => Sys2Proof.Machine.execPllLockLoss t island s
  | .referenceLoss t => Sys2Proof.Machine.execReferenceLoss t s
  | .firkinPush t unit firkin value poisoned => Sys2Proof.Machine.execFirkinPush t unit firkin value poisoned s
  | .firkinPushEnd t unit firkin value poisoned => Sys2Proof.Machine.execFirkinPushEnd t unit firkin value poisoned s
  | .firkinPop t unit firkin upset => Sys2Proof.Machine.execFirkinPop t unit firkin upset s
  | .firkinFlushRequest t acc half value => Sys2Proof.Machine.execFirkinFlushRequest t acc half value s
  | .firkinFlushEffect t firkin => Sys2Proof.Machine.execFirkinFlushEffect t firkin s
  | .firkinDisable t acc value => Sys2Proof.Machine.execFirkinDisable t acc value s
  | .fathomStart t => Sys2Proof.Machine.execFathomStart t s
  | .spanCompletion t idx result => Sys2Proof.Machine.execSpanCompletion t idx result s
  | .spanDeadline t idx => Sys2Proof.Machine.execSpanDeadline t idx s
  | .spanStore t acc value => Sys2Proof.Machine.execSpanStore t acc value s
  | .shadowCountWrite t acc value => Sys2Proof.Machine.execShadowCountWrite t acc value s
  | .swapRequest t acc => Sys2Proof.Machine.execSwapRequest t acc s
  | .furlongSwap t => Sys2Proof.Machine.execFurlongSwap t s
  | .pubSelWrite t acc value => Sys2Proof.Machine.execPubSelWrite t acc value s
  | .latch t idx lines => Sys2Proof.Machine.execLatch t idx lines s
  | .sampleArrival t unit sel stamp val => Sys2Proof.Machine.execSampleArrival t unit sel stamp val s
  | .resample t idx => Sys2Proof.Machine.execResample t idx s
  | .coefDataWrite t acc value => Sys2Proof.Machine.execCoefDataWrite t acc value s
  | .estimate t idx => Sys2Proof.Machine.execEstimate t idx s
  | .admitObs t acc => Sys2Proof.Machine.execAdmit t acc s
  | .withdraw t acc => Sys2Proof.Machine.execWithdraw t acc s
  | .reinit t acc => Sys2Proof.Machine.execReinit t acc s
  | .pointDatagram t src dport frag data => Sys2Proof.Machine.execPointDatagram t src dport frag data s
  | .binning t => Sys2Proof.Machine.execBinning t s
  | .update t idx => Sys2Proof.Machine.execUpdate t idx s
  | .updateFinalWrite t idx => Sys2Proof.Machine.execUpdateFinalWrite t idx s
  | .seed t acc => Sys2Proof.Machine.execSeed t acc s
  | .antennaOpen t bank mA => Sys2Proof.Machine.execAntennaOpen t bank mA s
  | .antennaShort t bank held => Sys2Proof.Machine.execAntennaShort t bank held s
  | .antennaSupplyRetry t bank => Sys2Proof.Machine.execAntennaSupplyRetry t bank s
  | .frontEndUnlock t bank => Sys2Proof.Machine.execFrontEndUnlock t bank s
  | .codeEpoch t bank chan dump served => Sys2Proof.Machine.execCodeEpoch t bank chan dump served s
  | .acqTimeout t bank chan => Sys2Proof.Machine.execAcqTimeout t bank chan s
  | .pullinTimeout t bank chan => Sys2Proof.Machine.execPullinTimeout t bank chan s
  | .measurementLatch t phases => Sys2Proof.Machine.execMeasurementLatch t phases s
  | .pvt t idx => Sys2Proof.Machine.execPvt t idx s
  | .ppsPulse t => Sys2Proof.Machine.execPpsPulse t s
  | .ppsPulseEnd t => Sys2Proof.Machine.execPpsPulseEnd t s
  | .snapshotStart t acc => Sys2Proof.Machine.execSnapshotStart t acc s
  | .snapcap t idx => Sys2Proof.Machine.execSnapcap t idx s
  | .snapshotCaptureEnd t samples => Sys2Proof.Machine.execSnapshotCaptureEnd t samples s
  | .gnssExport t acc => Sys2Proof.Machine.execGnssExport t acc s
  | .snapshotExportEnd t packets => Sys2Proof.Machine.execSnapshotExportEnd t packets s
  | .process t acc => Sys2Proof.Machine.execProcess t acc s
  | .snapshotFixDone t => Sys2Proof.Machine.execSnapshotFixDone t s
  | .loops t idx => Sys2Proof.Machine.execLoops t idx s
  | .instanceWindowWrite t acc engine value => Sys2Proof.Machine.execInstanceWindowWrite t acc engine value s
  | .swap t acc engine => Sys2Proof.Machine.execSwap t acc engine s
  | .swapAll t acc engine => Sys2Proof.Machine.execSwapAll t acc engine s
  | .assemble t idx => Sys2Proof.Machine.execAssemble t idx s
  | .alcParamWrite t acc value => Sys2Proof.Machine.execAlcParamWrite t acc value s
  | .alcSwap t acc => Sys2Proof.Machine.execAlcSwap t acc s
  | .allocate t idx => Sys2Proof.Machine.execAllocate t idx s
  | .imageWindowWrite t acc value => Sys2Proof.Machine.execImageWindowWrite t acc value s
  | .imageSwap t acc => Sys2Proof.Machine.execImageSwap t acc s
  | .cold t acc => Sys2Proof.Machine.execCold t acc s
  | .sol1MemWrite t acc value => Sys2Proof.Machine.execSol1MemWrite t acc value s
  | .taskInputCopyDone t task => Sys2Proof.Machine.execTaskInputCopyDone t task s
  | .taskCycleEnd t task writes => Sys2Proof.Machine.execTaskCycleEnd t task writes s
  | .taskRuntimeError t task kind => Sys2Proof.Machine.execTaskRuntimeError t task kind s
  | .taskFetchFault t task => Sys2Proof.Machine.execTaskFetchFault t task s
  | .stopTask t acc => Sys2Proof.Machine.execStopTask t acc s
  | .startTask t acc => Sys2Proof.Machine.execStartTask t acc s
  | .clrTaskStats t acc => Sys2Proof.Machine.execClrTaskStats t acc s
  | .retainSavePeriod t => Sys2Proof.Machine.execRetainSavePeriod t s
  | .save t acc => Sys2Proof.Machine.execSave t acc s
  | .retainSaveDone t ok => Sys2Proof.Machine.execRetainSaveDone t ok s
  | .forceCommit t acc value => Sys2Proof.Machine.execForceCommit t acc value s
  | .check t acc => Sys2Proof.Machine.execCheck t acc s
  | .change t acc => Sys2Proof.Machine.execChange t acc s
  | .abort t acc => Sys2Proof.Machine.execAbort t acc s
  | .changePoint t => Sys2Proof.Machine.execChangePoint t s
  | .changeWaitExpiry t => Sys2Proof.Machine.execChangeWaitExpiry t s
  | .heartbeat t idx => Sys2Proof.Machine.execHeartbeat t idx s
  | .mirror t idx => Sys2Proof.Machine.execMirror t idx s
  | .judgment t => Sys2Proof.Machine.execJudgment t s
  | .heartbeatReceive t port frame => Sys2Proof.Machine.execHeartbeatReceive t port frame s
  | .verdictReceive t port frame => Sys2Proof.Machine.execVerdictReceive t port frame s
  | .pubReceive t port frame => Sys2Proof.Machine.execPubReceive t port frame s
  | .outputReceive t port frame => Sys2Proof.Machine.execOutputReceive t port frame s
  | .inputReceive t port frame => Sys2Proof.Machine.execInputReceive t port frame s
  | .sampleReceive t port frame => Sys2Proof.Machine.execSampleReceive t port frame s
  | .datagramReceive t port frame => Sys2Proof.Machine.execDatagramReceive t port frame s
  | .stateReceive t port frame => Sys2Proof.Machine.execStateReceive t port frame s
  | .opReceive t port frame => Sys2Proof.Machine.execOpReceive t port frame s
  | .ackReceive t port frame => Sys2Proof.Machine.execAckReceive t port frame s
  | .sampleTick t => Sys2Proof.Machine.execSampleTick t s
  | .mirrorPublication t => Sys2Proof.Machine.execMirrorPublication t s
  | .go t acc => Sys2Proof.Machine.execGo t acc s
  | .chainOpTimeout t => Sys2Proof.Machine.execChainOpTimeout t s
  | .clr t acc => Sys2Proof.Machine.execClr t acc s
  | .rejoin t acc => Sys2Proof.Machine.execRejoin t acc s
  | .ptpSyncReceive t port frame => Sys2Proof.Machine.execPtpSyncReceive t port frame s
  | .ptpAnnounceReceive t port frame => Sys2Proof.Machine.execPtpAnnounceReceive t port frame s
  | .ptpDelayExchange t port turnNs frame => Sys2Proof.Machine.execPtpDelayExchange t port turnNs frame s
  | .ptpTransparentForward t port residenceNs frame => Sys2Proof.Machine.execPtpTransparentForward t port residenceNs frame s
  | .ptpSyncSend t => Sys2Proof.Machine.execPtpSyncSend t s
  | .ppsInEdge t => Sys2Proof.Machine.execPpsInEdge t s
  | .sourceLapse t source => Sys2Proof.Machine.execSourceLapse t source s
  | .primaryReselect t => Sys2Proof.Machine.execPrimaryReselect t s
  | .timeStep t lines => Sys2Proof.Machine.execTimeStep t lines s
  | .timeMatchArm t acc value lines => Sys2Proof.Machine.execTimeMatchArm t acc value lines s
  | .timeMatchFire t lines => Sys2Proof.Machine.execTimeMatchFire t lines s
  | .trigOutEnd t => Sys2Proof.Machine.execTrigOutEnd t s
  | .trigInEdge t => Sys2Proof.Machine.execTrigInEdge t s
  | .linkDown t port => Sys2Proof.Machine.execLinkDown t port s
  | .linkUp t port speed half => Sys2Proof.Machine.execLinkUp t port speed half s
  | .prpFrameReceive t lan frame => Sys2Proof.Machine.execPrpFrameReceive t lan frame s
  | .prpSupervisionSend t => Sys2Proof.Machine.execPrpSupervisionSend t s
  | .prpLanLoss t lan => Sys2Proof.Machine.execPrpLanLoss t lan s
  | .arpIcmpRequest t frame => Sys2Proof.Machine.execArpIcmpRequest t frame s
  | .udpbcDatagram t group port data => Sys2Proof.Machine.execUdpbcDatagram t group port data s
  | .hello t frame => Sys2Proof.Machine.execHello t frame s
  | .read t within frame => Sys2Proof.Machine.execRead t within frame s
  | .write t within frame => Sys2Proof.Machine.execWrite t within frame s
  | .close t frame => Sys2Proof.Machine.execClose t frame s
  | .keySet t ok frame => Sys2Proof.Machine.execKeySet t ok frame s
  | .transferOpen t frame => Sys2Proof.Machine.execTransferOpen t frame s
  | .transferData t ok frame => Sys2Proof.Machine.execTransferData t ok frame s
  | .transferCommit t frame => Sys2Proof.Machine.execTransferCommit t frame s
  | .transferRead t frame => Sys2Proof.Machine.execTransferRead t frame s
  | .transferClose t frame => Sys2Proof.Machine.execTransferClose t frame s
  | .sessionTimeout t session => Sys2Proof.Machine.execSessionTimeout t session s
  | .sendSet t idx wire => Sys2Proof.Machine.execSendSet t idx wire s
  | .canTxPacketLoad t bus firkin wire => Sys2Proof.Machine.execCanTxPacketLoad t bus firkin wire s
  | .canTransmitEnd t bus obj outcome tdcv => Sys2Proof.Machine.execCanTransmitEnd t bus obj outcome tdcv s
  | .canFrameReceive t bus rx => Sys2Proof.Machine.execCanFrameReceive t bus rx s
  | .recover t acc bus => Sys2Proof.Machine.execRecover t acc bus s
  | .busoffRecoveryEnd t bus => Sys2Proof.Machine.execBusoffRecoveryEnd t bus s
  | .sleep t acc bus => Sys2Proof.Machine.execSleep t acc bus s
  | .sleepEnter t bus => Sys2Proof.Machine.execSleepEnter t bus s
  | .wakeWrite t acc bus => Sys2Proof.Machine.execWakeWrite t acc bus s
  | .busWake t bus rx => Sys2Proof.Machine.execBusWake t bus rx s
  | .fieldRefresh t group good raw back volts lplus => Sys2Proof.Machine.execFieldRefresh t group good raw back volts lplus s
  | .logicSideSilent t group => Sys2Proof.Machine.execLogicSideSilent t group s
  | .groupSideHold t group => Sys2Proof.Machine.execGroupSideHold t group s
  | .holdExpiry t group => Sys2Proof.Machine.execHoldExpiry t group s
  | .outputOverload t group chan => Sys2Proof.Machine.execOutputOverload t group chan s
  | .openLoad t group chan => Sys2Proof.Machine.execOpenLoad t group chan s
  | .inrushGrantExpiry t group chan => Sys2Proof.Machine.execInrushGrantExpiry t group chan s
  | .outSet t acc group value => Sys2Proof.Machine.execOutSet t acc group value s
  | .outClr t acc group value => Sys2Proof.Machine.execOutClr t acc group value s
  | .sentenceReceive t port bad ageNs chars => Sys2Proof.Machine.execSentenceReceive t port bad ageNs chars s
  | .serialTxPacket t port firkin => Sys2Proof.Machine.execSerialTxPacket t port firkin s
  | .serialTxDone t port collision => Sys2Proof.Machine.execSerialTxDone t port collision s
  | .request t idx line => Sys2Proof.Machine.execRequest t idx line s
  | .ssiReqWrite t acc chan line => Sys2Proof.Machine.execSsiReqWrite t acc chan line s
  | .ssiFrameEnd t chan word high => Sys2Proof.Machine.execSsiFrameEnd t chan word high s
  | .quadTransition t chan a b => Sys2Proof.Machine.execQuadTransition t chan a b s
  | .countPreset t acc chan value => Sys2Proof.Machine.execCountPreset t acc chan value s
  | .compareArm t acc chan cfg value => Sys2Proof.Machine.execCompareArm t acc chan cfg value s
  | .safcCycle t raw work => Sys2Proof.Machine.execSafcCycle t raw work s
  | .safetyInputChange t raw => Sys2Proof.Machine.execSafetyInputChange t raw s
  | .discrepancyTimeout t inst => Sys2Proof.Machine.execDiscrepancyTimeout t inst s
  | .twohandSyncTimeout t inst => Sys2Proof.Machine.execTwohandSyncTimeout t inst s
  | .safetyOscFault t khz => Sys2Proof.Machine.execSafetyOscFault t khz s
  | .safcAliveMissing t => Sys2Proof.Machine.execSafcAliveMissing t s
  | .safcSelfTestFail t block => Sys2Proof.Machine.execSafcSelfTestFail t block s
  | .safhParityFail t => Sys2Proof.Machine.execSafhParityFail t s
  | .sfoTestPulse t out low vp vm sl mA => Sys2Proof.Machine.execSfoTestPulse t out low vp vm sl mA s
  | .readbackMismatch t out low => Sys2Proof.Machine.execReadbackMismatch t out low s
  | .safetyOutputOverload t out => Sys2Proof.Machine.execSafetyOutputOverload t out s
  | .slUndervoltage t sl => Sys2Proof.Machine.execSlUndervoltage t sl s
  | .slRecovery t sl => Sys2Proof.Machine.execSlRecovery t sl s
  | .degradedExpiry t inst => Sys2Proof.Machine.execDegradedExpiry t inst s
  | .resetTaken t input => Sys2Proof.Machine.execResetTaken t input s
  | .resetHeld t input => Sys2Proof.Machine.execResetHeld t input s
  | .stagingWrite t acc value => Sys2Proof.Machine.execStagingWrite t acc value s
  | .safetyParamCheck t acc => Sys2Proof.Machine.execSafetyParamCheck t acc s
  | .confirm t acc value => Sys2Proof.Machine.execConfirm t acc value s
  | .reqRefresh t toC toH => Sys2Proof.Machine.execReqRefresh t toC toH s
  | .reqLoss t safc => Sys2Proof.Machine.execReqLoss t safc s
  | .supplySample t mV => Sys2Proof.Machine.execSupplySample t mV s
  | .ceilingRise t => Sys2Proof.Machine.execCeilingRise t s
  | .grantDecision t => Sys2Proof.Machine.execGrantDecision t s
  | .supplyWarning t => Sys2Proof.Machine.execSupplyWarning t s
  | .supplyRecovery t => Sys2Proof.Machine.execSupplyRecovery t s
  | .overvoltageDisconnect t => Sys2Proof.Machine.execOvervoltageDisconnect t s
  | .supplyReconnect t => Sys2Proof.Machine.execSupplyReconnect t s
  | .recordWrite t ring shelf => Sys2Proof.Machine.execRecordWrite t ring shelf s
  | .optimeSave t => Sys2Proof.Machine.execOptimeSave t s
  | .shelfClr t acc ok => Sys2Proof.Machine.execShelfClr t acc ok s
  | .snapTrig t acc => Sys2Proof.Machine.execSnapTrig t acc s
  | .supBootWrite t acc value => Sys2Proof.Machine.execSupBootWrite t acc value s
  | .changeCheckDone t => Sys2Proof.Machine.execChangeCheckDone t s
  | .frontEndRelock t bank => Sys2Proof.Machine.execFrontEndRelock t bank s
  | .canReceiveError t bus => Sys2Proof.Machine.execCanReceiveError t bus s
  | .canIntegrationDone t bus => Sys2Proof.Machine.execCanIntegrationDone t bus s
  | .rs485IdleWaitEnd t port => Sys2Proof.Machine.execRs485IdleWaitEnd t port s
  | .esFuseTrip t out => Sys2Proof.Machine.execEsFuseTrip t out s
  | .esFuseRetry t out => Sys2Proof.Machine.execEsFuseRetry t out s
  | .ptpAnnounceSend t => Sys2Proof.Machine.execPtpAnnounceSend t s
  | .ptpDelayReqSend t port => Sys2Proof.Machine.execPtpDelayReqSend t port s
  | .ptpAnnounceReceiptTimeout t port => Sys2Proof.Machine.execPtpAnnounceReceiptTimeout t port s

end Sys2Proof.Machine
end

