-- ==== Sys2Proof/Safety.lean ====
section
/-! DEFINITION. What counts as a good state and a good step of the ZT-192, in the terms the statements use: the words of the common header,
the frame of a unit's work, and the invariants. -/

namespace Sys2Proof.Machine

/-! ## The words of a page's header (R432–R436) -/

/-- PAGE_ERR of a page. -/
def State.pageErr (s : State) (page : Nat) : Word := rget s.hdr (cellKey page 0x18 0)

/-- PAGE_ERR.CODE of a page: the class × 0x1000 + code last recorded (R434). -/
def State.errCode (s : State) (page : Nat) : Nat := bits (s.pageErr page) 15 0

/-- PAGE_SEQ of a page (R435). -/
def State.pageSeq (s : State) (page : Nat) : Word := rget s.hdr (cellKey page 0x1C 0)

/-- Flag f of PAGE_EVT of a page (R436). -/
def State.evtSet (s : State) (page f : Nat) : Bool := rbit s.hdr (cellKey page 0x10 0) f

/-! ## What a step leaves alone -/

/-- The state without what the work of any unit may leave behind it beside its own: memory, the firkins' words and counts, the headers,
the fault that CHN notes for its heartbeat and the samples it mirrors, FLT's intake, the program's tasks, the recorder, snapshots, the
counts of NVS and what was sent. -/
def State.shell (s : State) : State :=
  { s with
    mem := ⟨[], []⟩
    fq := Fq.fresh
    hdr := []
    chn := { s.chn with
      fault := 0
      samples := [] }
    flt := Flt.fresh
    prg := Prg.fresh none none
    log := Rec.fresh
    snap := Snap.fresh
    nvs := Nvs.fresh [] [] 0#32
    outbox := [] }

/-- t agrees with s on every register and buffer outside the shell's exceptions. -/
abbrev State.SameShell (s t : State) : Prop := t.shell = s.shell

/-- Every byte of memory, as last written, is in t what it is in s. -/
def State.SameBytes (s t : State) : Prop := ∀ x, t.mem.byte x = s.mem.byte x

/-- Every byte of memory outside the n bytes from a on, as last written, is in t what it is in s. -/
def State.SameBytesBut (s t : State) (a n : Nat) : Prop := ∀ x, (x < a ∨ a + n ≤ x) → t.mem.byte x = s.mem.byte x

/-- Work that delivers no sample, no packet and no event trigger. -/
def W.Quiet {U : Type} (w : W U) : Prop := w.fx.samples = [] ∧ w.fx.pushes = [] ∧ w.fx.triggers = []

/-! ## The START of a span (R44, R46, R49, R55, R58) -/

/-- Span idx of the active Furlong reads soundly as x and starts now: RUN, its START due and not yet issued in the fathom in progress, no
deadline before it, its unit's island running, its unit idle. -/
structure State.Starts (s : State) (idx : Nat) (x : Span) : Prop where
  due    : s.dueRuns = []
  run    : s.mode = .run
  seqUp  : s.islandUp 2 = true
  grid   : s.gridDue = false
  table  : idx < s.seq.active
  first  : s.seq.issued.contains idx = false
  sound  : (s.mem.outcome (spanAddr s.seq.bank idx)).1 = .sound
  span   : s.mem.span s.seq.bank idx = x
  en     : x.en = true
  fathom : x.dueIn s.seq.count = true
  tick   : x.start ≤ s.tick
  unitUp : s.pageUp x.page = true
  idle   : s.seq.unitBusy x.unit = false
  clear  : s.seq.aborts.contains (x.unit, s.seq.count, s.tick) = false

/-- The state in which a unit works at the START of span idx: the START is issued, and a free value has been drawn. -/
def State.begun (s : State) (idx : Nat) : State :=
  { s with
    seq := { s.seq with issued := s.seq.issued ++ [idx] }
    free := s.free + 1 }

/-- What the unit of span x is handed at the START. -/
def State.handed (s : State) (idx : Nat) (x : Span) : SpanIn := (s.begun idx).spanIn x (Config.freeWord s.free)

/-- SEQ after the START of span idx: it is issued, and its run is in progress, with its result, complete already at `done`. -/
def Seq.started (u : Seq) (idx : Nat) (x : Span) (result : Bool) (done : Option Nat) : Seq :=
  { u with
    issued := u.issued ++ [idx]
    runs := u.runs ++ [⟨idx, x, u.count, result, done⟩] }

/-- What a START leaves of SEQ and of memory whose unit's work answers r: the run with its result, complete at once when there is none, a
free value drawn, and the bytes the work stores. -/
def State.Answered {U : Type} (s t : State) (idx : Nat) (x : Span) (r : R U) : Prop :=
  t.seq = s.seq.started idx x r.ok (if r.ok then none else some s.tick) ∧ t.free = s.free + 1 ∧
    ∀ b, t.mem.byte b = (s.mem.stores r.w.st).byte b

/-! ## Whether a write of a register reaches it -/

/-- A whole-word write at an offset of a page by an accessor is made and admitted: the accessor is served, the page's island runs and the
access rules of R17 and R441 let it write there. -/
def State.Admits (s : State) (acc : Accessor) (page off : Nat) : Prop :=
  s.alive acc page off = true ∧ s.pageUp page = true ∧ s.mayWrite acc page off = true

/-- The state in which a taken write's own effect acts: PAGE_SEQ has counted (R435), a write of an RWL field has undone the passed check
list (R8, R419), and the cell at offset off and window w of the page hp, that the page's registers live in, holds the fields the write
reaches (R8), unless the register keeps no cell of its own. -/
def State.written (s : State) (page hp off w reg : Nat) (r : RegRow) (v : Word) : State :=
  let t : State := { s with hdr := hdrSeq s.hdr page }
  let t : State := if r.rwl != 0 && s.mode != .run then { t with sup := { t.sup with passed := false } } else t
  if ownCell reg then t
  else t.setCells hp (rset (t.cells hp) (cellKey hp off w) (r.written (s.mode == .run) (rget (s.cells hp) (cellKey hp off w)) v))

/-! ## Frames of the Chain (R262, R263) -/

/-- The bytes after the EtherType spell a frame f that CHN accepts: its island runs, the member takes part in a Chain, the frame is sound,
of another origin, and the first copy of its FSEQ. -/
def State.Accepts (s : State) (bs : List Byte) (f : ChainFrame) : Prop :=
  s.pageUp Pg.CHN = true ∧ s.chn.accepts s.chnEnv bs = some f

/-- The commands in which a Chain frame comes on a port. -/
def chainReceives (a : At) (port : Fin 2) (bs : List Byte) : List Instr :=
  [.heartbeatReceive a port bs, .verdictReceive a port bs, .pubReceive a port bs, .outputReceive a port bs, .inputReceive a port bs,
   .sampleReceive a port bs, .datagramReceive a port bs, .stateReceive a port bs, .opReceive a port bs, .ackReceive a port bs]

/-! ## Requests of the service path (R302, R442) -/

/-- The frame bs is a request of operation op that SUP takes now: session x under a key made it as q, its tag is right and its SEQ is above
the last. -/
structure State.Asked (s : State) (op : Nat) (bs : List Byte) (x : Session) (q : Request_) : Prop where
  up      : s.serviceUp = true
  answers : s.answers op = true
  read    : readRequest bs = some q
  op      : q.op = op
  session : s.net.sessions.find? (fun y => y.number == q.session) = some x
  keyed   : x.slot ≠ 0xFF
  tag     : tagOk x.key bs = true
  seq     : x.seq < q.seq

/-- The body of a tagged request. -/
def Request_.body (q : Request_) : List Byte := q.rest.take (q.rest.length - 32)

/-- A reply of the service path, before its tag. -/
def replyOf (op session seq count status : Nat) (body : List Byte) : Emit :=
  .reply (beBytes 2 0x4F52 ++ beBytes 1 1 ++ beBytes 1 op ++ beBytes 4 session ++ beBytes 4 seq ++ beBytes 2 count ++ beBytes 2 status
    ++ body)

/-- The sessions after session number n was served a request of sequence q at time t. -/
def sessionsServed (l : List Session) (n q : Nat) (t : Int) : List Session :=
  l.map (fun x => if x.number = n then { x with seq := q, last := t } else x)

/-- The requests of the service path beside HELLO, with their operations. -/
def serviceRequests (a : At) (n : Nat) (ok : Bool) (bs : List Byte) : List (Nat × Instr) :=
  [(2, .read a n bs), (3, .write a n bs), (4, .close a bs), (5, .keySet a ok bs), (0x10, .transferOpen a bs), (0x11, .transferData a ok bs),
   (0x12, .transferCommit a bs), (0x13, .transferRead a bs), (0x14, .transferClose a bs)]

/-- The row of SUP_CTRL. -/
def supCtrlRow : RegRow := ⟨0x40, 0, 0, 0, 0, 0, 63, 0, 1⟩

/-! ## The safety layer (R370, R374, R381, R382) -/

/-- The layer at a true time, both channels' filters brought up to it and their instances evaluated on the filtered states (R365, R367). -/
def Saf.judged (now : Nat) (u : Saf) : Saf :=
  (Saf.evaluate true now (Saf.evaluate false now (W.of ((u.advance false now).advance true now)))).u

/-- In t, every instance that maps output k has reacted to a switch of k that does not open (R381): from PERMIT to DEGRADED with DEG_EN,
to LOCKOUT without it. -/
def Saf.reacted (u t : Saf) (k : Nat) : Prop :=
  ∀ isC i, i < 16 → recEn u.set i = true → (recSo u.set i).testBit k = true →
    (bit (recWord u.set i 0) 8 = false → ((t.chan isC).inst i).state = 5) ∧
    (bit (recWord u.set i 0) 8 = true →
      ((t.chan isC).inst i).state = if ((u.chan isC).inst i).state = 3 then 4 else ((u.chan isC).inst i).state)

/-- The words of t's instances are u's. -/
def Saf.sameInsts (u t : Saf) : Prop := ∀ isC i, (t.chan isC).inst i = (u.chan isC).inst i

/-! ## Module states (R417, R418, R420, R421) -/

/-- The request that waits is one that the module state admits (R418); OFF keeps what was waiting when power went. -/
def State.requestFits (s : State) : Bool :=
  s.mode == .off || (match s.sup.request with
    | none => true
    | some .goReady => s.mode == .config || s.mode == .service
    | some .goRun => s.mode == .ready
    | some .stop => s.mode == .run
    | some .goService => s.mode == .ready)

/-- The changes of module state that the spec knows: those of R418, the entries of R421 and every reset (R420). -/
def modeEdge : Mode → Mode → Bool
  | .off, .boot => true
  | .boot, .config => true
  | .boot, .halt => true
  | .config, .ready => true
  | .ready, .config => true
  | .ready, .run => true
  | .ready, .service => true
  | .run, .ready => true
  | .service, .ready => true
  | .boot, .boot => true
  | .config, .boot => true
  | .ready, .boot => true
  | .run, .boot => true
  | .service, .boot => true
  | .halt, .boot => true
  | m, .off => m != .off
  | _, _ => false

end Sys2Proof.Machine
end

