-- ==== Sys2Proof/Certificates/Slice0/Obligations.lean ====
section
/-! DEFINITION. The statements for the provers. `s.at_ a` is the state at the time a command comes with, the upsets of that time struck;
every command is executed on it. -/

open Sys2Proof Sys2Proof.Machine

/-- With command c at the front of the queue, step is exec of c on the state with the rest of the queue; on an empty queue the block
idles, which is the model's own choice (log entry 4). (00_scope.md, 95_what_each_step_holds.md) -/
def Obligations.StepTakesTheFrontCommand : Prop :=
  (∀ (s : State) (c : Instr) (rest : List Instr), s.pending = c :: rest → step s = exec c { s with pending := rest }) ∧
  (∀ s : State, s.pending = [] → step s = .next s)

/-- POWER_ON in OFF and a write of 0x5A7C to SUP_RESET that is admitted lead to BOOT with the cause in SUP_RESET_CAUSE, the base of the
straps in CHN_BASE, every unit as after power-on and the nonvolatile bytes kept; with a supply warning in force HOLDUP_EXHAUSTED leads
to OFF and changes nothing else. What memory outside the nonvolatile store reads as after a reset is the model's choice (log entry 2).
(R418, R420, R397, R259, R444, 20_startup_and_features.md) -/
def Obligations.PowerAndResets : Prop :=
  (∀ (a : At) (strapA strapB : Option Nat) (s : State), s.mode = .off →
    ∃ t, exec (.powerOn a strapA strapB) s = .next t ∧ t.mode = .boot ∧ rget t.sup.regs Reg.SUP_RESET_CAUSE = 1#32 ∧
      rget t.chn.regs Reg.CHN_BASE = wd (strapBase strapA strapB) ∧ t.seq = Seq.fresh ∧ t.est = Est.fresh ∧ t.fus = Fus.fresh ∧
      t.gns = Gns.fresh ∧ t.ctl = Ctl.fresh ∧ t.alc = Alc.fresh ∧ t.sol = Sol.fresh ∧ t.can = State.reset.can ∧
      t.fio = State.reset.fio ∧ t.ser = State.reset.ser ∧ t.pos = State.reset.pos ∧ t.pwr = State.reset.pwr ∧
      (∀ x, nonvolatile x = true → t.mem.byte x = s.mem.byte x)) ∧
  (∀ (a : At) (acc : Accessor) (strapA strapB : Option Nat) (s : State), s.Admits acc Pg.SUP 0x4C →
    ∃ t, exec (.commandedReset a acc 0x5A7C#32 strapA strapB) s = .next t ∧ t.mode = .boot ∧
      rget t.sup.regs Reg.SUP_RESET_CAUSE = 2#32 ∧ rget t.chn.regs Reg.CHN_BASE = wd (strapBase strapA strapB) ∧
      t.seq = Seq.fresh ∧ t.est = Est.fresh ∧ t.fus = Fus.fresh ∧ t.gns = Gns.fresh ∧ t.ctl = Ctl.fresh ∧ t.alc = Alc.fresh ∧
      t.sol = Sol.fresh ∧ t.can = State.reset.can ∧ t.fio = State.reset.fio ∧ t.ser = State.reset.ser ∧ t.pos = State.reset.pos ∧
      t.sup.stopped = 0#12 ∧ (∀ x, nonvolatile x = true → t.mem.byte x = s.mem.byte x)) ∧
  (∀ (a : At) (s : State), s.mode ≠ .off → s.pwr.warn = true →
    exec (.holdupExhausted a) s = .next { s.at_ a with mode := .off })

/-- With SUP_BOOT.CFG_EN at 0, BOOT_COMPLETE leads from BOOT to CONFIG when a firmware copy is sound and to HALT with code 0x4193 when
none is; RING_SEARCH_DONE ends the search and records 0x0173 in the PAGE_ERR of REC; SUP_FETCH_FAULT stops SUP with code 0x40C6 and
drops the request that waits. (R405, R421, R424, 20_startup_and_features.md) -/
def Obligations.BootOutcome : Prop :=
  (∀ (a : At) (s : State), s.mode = .boot → s.sup.dead = false → bit s.nvs.boot 2 = false →
    ∃ t, exec (.bootComplete a) s = .next t ∧
      (((firmwareVersion (s.at_ a).mem 0).isSome = true ∨ (firmwareVersion (s.at_ a).mem 1).isSome = true) → t.mode = .config) ∧
      ((firmwareVersion (s.at_ a).mem 0 = none ∧ firmwareVersion (s.at_ a).mem 1 = none) →
        t.mode = .halt ∧ t.errCode Pg.SUP = 0x4193)) ∧
  (∀ (a : At) (s : State), s.mode ≠ .off → s.log.searched = false →
    ∃ t, exec (.ringSearchDone a) s = .next t ∧ t.log.searched = true ∧ t.errCode Pg.REC = 0x0173) ∧
  (∀ (a : At) (s : State), s.islandUp 1 = true →
    ∃ t, exec (.supFetchFault a) s = .next t ∧ t.sup.dead = true ∧ t.sup.request = none ∧ t.errCode Pg.SUP = 0x40C6)

/-- An admitted write of the SUP_CTRL bit of GO_READY in CONFIG, GO_RUN in READY with the check list passed, STOP in RUN or GO_SERVICE in
READY, with no request waiting and SUP alive, leaves that request waiting; GO_READY does so when no check of R419 refuses; GO_CONFIG
in READY leads to CONFIG at once and fathom counting continues. A request while another waits is discarded with 0x1191. (R418, R419,
20_startup_and_features.md) -/
def Obligations.StateRequests : Prop :=
  (∀ (a : At) (acc : Accessor) (s : State), s.Admits acc Pg.SUP 0x40 → s.sup.dead = false → s.sup.request = none → s.mode = .config →
    ((s.at_ a).written 1 1 0x40 0 Reg.SUP_CTRL supCtrlRow 1#32).negotiationFault = none →
    ((s.at_ a).written 1 1 0x40 0 Reg.SUP_CTRL supCtrlRow 1#32).negotiate.firstRefusal true = none →
    ∃ t, exec (.goReady a acc) s = .next t ∧ t.sup.request = some .goReady ∧ t.mode = .config ∧
      t.pageSeq Pg.SUP = s.pageSeq Pg.SUP + 1#32) ∧
  (∀ (a : At) (acc : Accessor) (s : State), s.Admits acc Pg.SUP 0x40 → s.sup.dead = false → s.sup.request = none → s.mode = .ready →
    s.sup.passed = true →
    ∃ t, exec (.goRun a acc) s = .next t ∧ t.sup.request = some .goRun ∧ t.mode = .ready ∧ t.pageSeq Pg.SUP = s.pageSeq Pg.SUP + 1#32) ∧
  (∀ (a : At) (acc : Accessor) (s : State), s.Admits acc Pg.SUP 0x40 → s.sup.dead = false → s.sup.request = none → s.mode = .run →
    ∃ t, exec (.stop a acc) s = .next t ∧ t.sup.request = some .stop ∧ t.mode = .run ∧ t.pageSeq Pg.SUP = s.pageSeq Pg.SUP + 1#32) ∧
  (∀ (a : At) (acc : Accessor) (s : State), s.Admits acc Pg.SUP 0x40 → s.sup.dead = false → s.sup.request = none → s.mode = .ready →
    ∃ t, exec (.goService a acc) s = .next t ∧ t.sup.request = some .goService ∧ t.mode = .ready ∧
      t.pageSeq Pg.SUP = s.pageSeq Pg.SUP + 1#32) ∧
  (∀ (a : At) (acc : Accessor) (s : State), s.Admits acc Pg.SUP 0x40 → s.sup.dead = false → s.sup.request = none → s.mode = .ready →
    ∃ t, exec (.goConfig a acc) s = .next t ∧ t.mode = .config ∧ t.sup.request = none ∧ t.seq = s.seq ∧
      t.pageSeq Pg.SUP = s.pageSeq Pg.SUP + 1#32) ∧
  (∀ (a : At) (acc : Accessor) (s : State) (r : Request), s.Admits acc Pg.SUP 0x40 → s.sup.dead = false → s.sup.request = some r →
    ∃ t, exec (.goRun a acc) s = .next t ∧ t.errCode Pg.SUP = 0x1191 ∧ t.sup.request = some r ∧ t.mode = s.mode)

/-- STATE_TRANSITION while SUP's island runs: at a fathom start that has come, GO_RUN leads to RUN, STOP to READY with no long span left
in progress, GO_READY from SERVICE to READY, and GO_SERVICE to SERVICE; GO_READY in CONFIG leads to READY at its first grid instant
when fathoms are not yet counted, and counting begins there; the request no longer waits, unless AUTO_RUN asks for RUN next. (R418,
R56, R158, 20_startup_and_features.md, 02_furlong_sequencer.md) -/
def Obligations.StateTransitions : Prop :=
  (∀ (a : At) (s : State), s.pageUp Pg.SUP = true → s.sup.request = some .goRun → (s.at_ a).startDue = true →
    ∃ t, exec (.stateTransition a) s = .next t ∧ t.mode = .run ∧ t.sup.request = none) ∧
  (∀ (a : At) (s : State), s.pageUp Pg.SUP = true → s.sup.request = some .stop → (s.at_ a).startDue = true → s.sup.autoRun = false →
    ∃ t, exec (.stateTransition a) s = .next t ∧ t.mode = .ready ∧ t.sup.request = none ∧ t.seq.runs = []) ∧
  (∀ (a : At) (s : State), s.pageUp Pg.SUP = true → s.sup.request = some .goService → (s.at_ a).startDue = true →
    ∃ t, exec (.stateTransition a) s = .next t ∧ t.mode = .service ∧ t.sup.request = none) ∧
  (∀ (a : At) (s : State), s.pageUp Pg.SUP = true → s.sup.request = some .goReady → s.mode ≠ .config → (s.at_ a).startDue = true →
    s.sup.autoRun = false →
    ∃ t, exec (.stateTransition a) s = .next t ∧ t.mode = .ready ∧ t.sup.request = none) ∧
  (∀ (a : At) (s : State), s.pageUp Pg.SUP = true → s.sup.request = some .goReady → s.mode = .config → s.seq.counted = false →
    (s.at_ a).firstGrid ≤ (s.at_ a).tim.us → s.sup.autoRun = false →
    ∃ t, exec (.stateTransition a) s = .next t ∧ t.mode = .ready ∧ t.sup.request = none ∧ t.seq.counted = true ∧
      t.seq.startUs = (s.at_ a).firstGrid ∧ t.seq.lenUs = s.seq.lenReg)

/-- An admitted write by SUP in CONFIG to shared SRAM stores its bytes there and no other byte changes; an admitted read of shared SRAM
returns the bytes a reader gets and changes no byte; an access that R17 does not allow is discarded with 0x30A1 at the accessor;
ISLAND_ACCESS_TIMEOUT reports 0x30B3 at the accessor and a read returns 0; HANDSHAKE_TIMEOUT reports 0x30B1 at the sender. (R15, R17,
R14, 01_architecture.md) -/
def Obligations.AccessesOfTheMap : Prop :=
  (∀ (a : At) (addr len : Nat) (d : List Byte) (s : State), s.mode = .config → s.sup.dead = false → s.islandUp 1 = true →
    s.islandUp 2 = true → d ≠ [] → 0x20000000 ≤ addr → addr + d.length ≤ 0x21000000 →
    ∃ t, exec (.memoryAccess a .sup addr len (some d)) s = .next t ∧
      (∀ i (h : i < d.length), t.mem.byte (addr + i) = d[i]) ∧
      (∀ x, (x < addr ∨ addr + d.length ≤ x) → t.mem.byte x = s.mem.byte x)) ∧
  (∀ (a : At) (addr len : Nat) (s : State), s.sup.dead = false → s.islandUp 1 = true → s.islandUp 2 = true →
    0 < len → 0x20000000 ≤ addr → addr + len ≤ 0x21000000 →
    ∃ t, exec (.memoryAccess a .sup addr len none) s = .next t ∧
      t.outbox.head? = some (.readData (toWords ((len + 3) / 4) ((s.at_ a).mem.readBytes addr len))) ∧ s.SameBytes t) ∧
  (∀ (a : At) (addr len : Nat) (d : List Byte) (s : State), s.sup.dead = false → s.islandUp 1 = true → s.mode ≠ .config →
    s.mode ≠ .service → d ≠ [] → 0x20000000 ≤ addr → addr + d.length ≤ 0x21000000 →
    ∃ t, exec (.memoryAccess a .sup addr len (some d)) s = .next t ∧ t.errCode Pg.SUP = 0x30A1 ∧ s.SameBytes t ∧ (s.at_ a).SameShell t) ∧
  (∀ (a : At) (acc : Accessor) (read : Bool) (s : State), s.pageUp (accPage acc) = true → accPage acc ≠ Pg.SNAP →
    ∃ t, exec (.islandAccessTimeout a acc read) s = .next t ∧ t.errCode (accPage acc) = 0x30B3 ∧
      t.outbox = (if read then [.readData [0#32]] else []) ++ s.outbox ∧ (s.at_ a).SameShell t ∧ s.SameBytes t) ∧
  (∀ (a : At) (page : Fin 86) (s : State), s.pageUp page.val = true → page.val ≠ Pg.SNAP →
    ∃ t, exec (.handshakeTimeout a page none) s = .next t ∧ t.errCode page.val = 0x30B1 ∧ (s.at_ a).SameShell t ∧ s.SameBytes t)

/-- PLL_LOCK_LOSS of a running island other than I0 and I11, which have no PLL, stops that island and no other; REFERENCE_LOSS stops I1 to
I10 and leaves I0 and I11 as they were; no other unit's state and no byte of memory changes. (R15, 01_architecture.md) -/
def Obligations.ClockFailures : Prop :=
  (∀ (a : At) (island : Fin 12) (s : State), island.val ≠ 0 → island.val ≠ 11 → s.islandUp island.val = true →
    ∃ t, exec (.pllLockLoss a island) s = .next t ∧ t.islandUp island.val = false ∧
      (∀ j, j < 12 → j ≠ island.val → t.islandUp j = s.islandUp j) ∧
      t.shell = { (s.at_ a).shell with sup := { s.sup with stopped := s.sup.stopped ||| BitVec.twoPow 12 island.val } } ∧ s.SameBytes t) ∧
  (∀ (a : At) (s : State), s.mode ≠ .off → s.sup.refLost = false →
    ∃ t, exec (.referenceLoss a) s = .next t ∧ (∀ j, 1 ≤ j → j ≤ 10 → t.islandUp j = false) ∧
      t.islandUp 0 = s.islandUp 0 ∧ t.islandUp 11 = s.islandUp 11 ∧ t.sup.refLost = true ∧ t.errCode Pg.REC = 0x40B2 ∧
      t.shell = { (s.at_ a).shell with sup := { s.sup with refLost := true, stopped := s.sup.stopped ||| 0x7FE#12 } } ∧ s.SameBytes t)

/-- For every page and every accessor the write is admitted for: a write of PAGE_EVT_EN leaves the flags that exist and counts in
PAGE_SEQ; CLR returns PAGE_ERR to 0, unless a code is recorded in the same cycle, which then stands with COUNT 1; FREEZE takes a copy
of the page and sets its bit; a SOFT_RESET outside RUN, of a page on which it has an effect, returns PAGE_EVT_EN and PAGE_ERR to 0 and
PAGE_CTRL to ENABLE alone, and PAGE_SEQ counts it. (R433, R434, R435, R8, 21_register_directory.md) -/
def Obligations.CommonHeaderWrites : Prop :=
  (∀ (a : At) (acc : Accessor) (page : Nat) (value : Word) (l : PageLayout) (s : State), page < 86 → layoutOf page = some l →
    s.Admits acc page 0x14 →
    ∃ t, exec (.registerWrite a acc (0x40000000 + 0x400 * page + 0x14) 4 value) s = .next t ∧
      rget t.hdr (cellKey page 0x14 0) = value &&& wd l.evt ∧ t.pageSeq page = s.pageSeq page + 1#32 ∧ s.SameBytes t) ∧
  (∀ (a : At) (acc : Accessor) (page : Fin 86) (s : State), s.Admits acc page.val 0x18 → page.val ≠ Pg.SNAP →
    (page.val < 8 ∨ 10 < page.val) →
    ∃ t, exec (.pageErrClr a acc page none) s = .next t ∧ t.pageErr page.val = 0#32 ∧ t.pageSeq page.val = s.pageSeq page.val + 1#32 ∧
      s.SameBytes t) ∧
  (∀ (a : At) (acc : Accessor) (page : Fin 86) (c : Nat) (s : State), s.Admits acc page.val 0x18 → page.val ≠ Pg.SNAP →
    (page.val < 8 ∨ 10 < page.val) →
    ∃ t, exec (.pageErrClr a acc page (some c)) s = .next t ∧ t.pageErr page.val = wd (c % 0x10000 + 0x10000) ∧ s.SameBytes t) ∧
  (∀ (a : At) (acc : Accessor) (page : Fin 86) (on : Bool) (s : State), s.Admits acc page.val 8 →
    ∃ t, exec (.freeze a acc page on) s = .next t ∧ rbit t.hdr (cellKey page.val 8 0) 2 = on ∧
      t.pageSeq page.val = s.pageSeq page.val + 1#32 ∧ s.SameBytes t) ∧
  (∀ (a : At) (acc : Accessor) (page : Fin 86) (value : Word) (s : State), s.Admits acc page.val 8 →
    (∀ n, acc = .core n → coreRegs page.val = none) → s.mode ≠ .run → softFixed page.val = false →
    ∃ t, exec (.softReset a acc page value) s = .next t ∧ rget t.hdr (cellKey page.val 8 0) = 1#32 ∧
      rget t.hdr (cellKey page.val 0x14 0) = 0#32 ∧ t.pageSeq page.val = s.pageSeq page.val + 1#32 ∧ s.SameBytes t)

/-- While FQ's island runs, a push by the owner of an enabled firkin that drops nothing and has room puts the word into the open packet;
FIRKIN_PUSH_END commits the open packet with the word, and, with a flush pending, discards everything; with no notice to the program
enabled it sets the notice bit; a push into a full firkin drops the open packet, discards up to the next end, and records 0x10E1; a
push by another unit records 0x30E4 and leaves the firkins. Other firkins are unchanged, and so is memory unless a notice starts a
task. (R28, R29, R30, R31, R34, 01_architecture.md) -/
def Obligations.FirkinPushes : Prop :=
  (∀ (a : At) (unit : Nat) (n : Fin 64) (v : Word) (p : Bool) (s : State), s.pageUp Pg.FQ = true → unit ≠ 0 →
    bits (s.fq.cfg n.val) 15 8 = unit → bit (s.fq.cfg n.val) 0 = true → (s.fq.firkin n.val).dropping = false →
    (s.fq.firkin n.val).committed.length + (s.fq.firkin n.val).opened.length < s.fq.depth n.val →
    ∃ t, exec (.firkinPush a unit n v p) s = .next t ∧
      t.fq.firkin n.val = { s.fq.firkin n.val with
        opened := (s.fq.firkin n.val).opened ++ [⟨v, false, if p then 15#4 else 0#4⟩] } ∧
      (∀ m, m ≠ n.val → t.fq.firkin m = s.fq.firkin m) ∧ (s.at_ a).SameShell t ∧ s.SameBytes t) ∧
  (∀ (a : At) (unit : Nat) (n : Fin 64) (v : Word) (p : Bool) (s : State), s.pageUp Pg.FQ = true → unit ≠ 0 →
    bits (s.fq.cfg n.val) 15 8 = unit → bit (s.fq.cfg n.val) 0 = true → (s.fq.firkin n.val).dropping = false →
    (s.fq.firkin n.val).committed.length + (s.fq.firkin n.val).opened.length < s.fq.depth n.val →
    ∃ t, exec (.firkinPushEnd a unit n v p) s = .next t ∧
      t.fq.firkin n.val = ⟨if s.fq.flushing n.val then [] else
        (s.fq.firkin n.val).committed ++ ((s.fq.firkin n.val).opened ++ [⟨v, true, if p then 15#4 else 0#4⟩]), [], false⟩ ∧
      (∀ m, m ≠ n.val → t.fq.firkin m = s.fq.firkin m) ∧ (s.at_ a).SameShell t ∧
      (rbit s.fq.regs (fqBitmap Reg.FQ_NOTICE_EN0 n.val) (n.val % 32) = false →
        rbit t.fq.regs (fqBitmap Reg.FQ_NOTICE0 n.val) (n.val % 32) = true ∧ s.SameBytes t)) ∧
  (∀ (a : At) (unit : Nat) (n : Fin 64) (v : Word) (p : Bool) (s : State), s.pageUp Pg.FQ = true → unit ≠ 0 →
    bits (s.fq.cfg n.val) 15 8 = unit → bit (s.fq.cfg n.val) 0 = true → (s.fq.firkin n.val).dropping = false →
    s.fq.depth n.val ≤ (s.fq.firkin n.val).committed.length + (s.fq.firkin n.val).opened.length →
    ∃ t, exec (.firkinPush a unit n v p) s = .next t ∧
      t.fq.firkin n.val = ⟨(s.fq.firkin n.val).committed, [], true⟩ ∧ t.errCode Pg.FQ = 0x10E1 ∧
      rbit t.fq.regs (fqBitmap Reg.FQ_OVF0 n.val) (n.val % 32) = true ∧
      (∀ m, m ≠ n.val → t.fq.firkin m = s.fq.firkin m) ∧ (s.at_ a).SameShell t ∧ s.SameBytes t) ∧
  (∀ (a : At) (unit : Nat) (n : Fin 64) (v : Word) (p : Bool) (s : State), s.pageUp Pg.FQ = true → bits (s.fq.cfg n.val) 15 8 ≠ unit →
    ∃ t, exec (.firkinPush a unit n v p) s = .next t ∧ t.fq = s.fq ∧ t.errCode Pg.FQ = 0x30E4 ∧ (s.at_ a).SameShell t ∧ s.SameBytes t)

/-- While FQ's island runs, the consumer of a firkin with a committed word takes the oldest one and reads it with how many remain; from an
empty firkin it reads 0 and nothing changes; FIRKIN_FLUSH_REQUEST discards the committed words of a named firkin with no open packet
and leaves the flush of one with an open packet pending; FIRKIN_FLUSH_EFFECT carries out a pending flush when no packet is open; a
write of FQ_CFG that clears EN empties the firkin FQ_SEL names. (R29, R31, R32, R33, 01_architecture.md) -/
def Obligations.FirkinPopsFlushesDisable : Prop :=
  (∀ (a : At) (unit : Nat) (n : Fin 64) (u : BitVec 4) (q : QWord) (qs : List QWord) (s : State), s.pageUp Pg.FQ = true → unit ≠ 0 →
    bits (s.fq.cfg n.val) 23 16 = unit → (s.fq.firkin n.val).committed = q :: qs →
    ∃ t, exec (.firkinPop a unit n u) s = .next t ∧ t.fq.firkin n.val = { s.fq.firkin n.val with committed := qs } ∧
      t.outbox = .readData [q.word, wd (1 + 2 * b2n q.last + 4 * b2n (decide (q.bad ^^^ u ≠ 0)) + 0x10000 * qs.length)] :: s.outbox ∧
      (∀ m, m ≠ n.val → t.fq.firkin m = s.fq.firkin m) ∧ (s.at_ a).SameShell t ∧ s.SameBytes t) ∧
  (∀ (a : At) (unit : Nat) (n : Fin 64) (u : BitVec 4) (s : State), s.pageUp Pg.FQ = true → unit ≠ 0 →
    bits (s.fq.cfg n.val) 23 16 = unit → (s.fq.firkin n.val).committed = [] →
    exec (.firkinPop a unit n u) s = .next { s.at_ a with outbox := .readData [0#32, 0#32] :: s.outbox }) ∧
  (∀ (a : At) (acc : Accessor) (half : Fin 2) (n : Fin 32) (s : State),
    s.Admits acc Pg.FQ ((if half.val = 0 then Reg.FQ_FLUSH0 else Reg.FQ_FLUSH1) % 0x400) →
    ∃ t, exec (.firkinFlushRequest a acc half (wd (2 ^ n.val))) s = .next t ∧
      ((s.fq.firkin (32 * half.val + n.val)).opened = [] →
        t.fq.firkin (32 * half.val + n.val) = { s.fq.firkin (32 * half.val + n.val) with committed := [] }) ∧
      ((s.fq.firkin (32 * half.val + n.val)).opened ≠ [] →
        t.fq.firkin (32 * half.val + n.val) = s.fq.firkin (32 * half.val + n.val) ∧ t.fq.flushing (32 * half.val + n.val) = true) ∧
      (∀ m, m ≠ 32 * half.val + n.val → t.fq.firkin m = s.fq.firkin m) ∧ s.SameBytes t) ∧
  (∀ (a : At) (n : Fin 64) (s : State), s.pageUp Pg.FQ = true → s.fq.flushing n.val = true → (s.fq.firkin n.val).opened = [] →
    ∃ t, exec (.firkinFlushEffect a n) s = .next t ∧ t.fq.firkin n.val = { s.fq.firkin n.val with committed := [] } ∧
      t.fq.flushing n.val = false ∧ (∀ m, m ≠ n.val → t.fq.firkin m = s.fq.firkin m) ∧ (s.at_ a).SameShell t ∧ s.SameBytes t) ∧
  (∀ (a : At) (acc : Accessor) (v : Word) (n : Nat) (s : State), s.Admits acc Pg.FQ (Reg.FQ_CFG % 0x400) → n < 64 →
    (rget s.fq.regs Reg.FQ_SEL).toNat = n → bit (s.fq.cfg n) 0 = true → s.mode ≠ .run →
    ∃ t, exec (.firkinDisable a acc v) s = .next t ∧ t.fq.firkin n = Firkin.empty ∧ bit (t.fq.cfg n) 0 = false ∧
      (∀ m, m ≠ n → t.fq.firkin m = s.fq.firkin m) ∧ t.pageSeq Pg.FQ = s.pageSeq Pg.FQ + 1#32 ∧ s.SameBytes t)

/-- With no swap pending, an admitted write of SEQ_SPAN_W7 stores the eight words at SPAN_IDX of the shadow bank, advances the index and
marks the shadow loaded, no other byte changes, and SHADOW_COUNT_WRITE stores the span count; a request of a swap whose shadow passes
the validation waits with SEQ_SWAP_AT, one that fails is refused with 0x1201; a write of SEQ_PUB_SEL selects an index and restarts its
SLACK_MIN. While a swap is pending SPAN_STORE is discarded with 0x1203. (R51, R52, R53, R62, 02_furlong_sequencer.md) -/
def Obligations.FurlongLoading : Prop :=
  (∀ (a : At) (acc : Accessor) (v : Word) (s : State), s.Admits acc Pg.SEQ (Reg.SEQ_SPAN_W7 % 0x400) → s.seq.swapAt = none →
    ∃ t, exec (.spanStore a acc v) s = .next t ∧
      (∀ i (h : i < (wordsBytes ((upto 7).map (fun k => rget s.seq.regs (Reg.SEQ_SPAN_W0 + 4 * k)) ++ [v])).length),
        t.mem.byte (spanAddr (!s.seq.bank) (rfld s.seq.regs Reg.SEQ_SPAN_IDX 9 0) + i) =
          (wordsBytes ((upto 7).map (fun k => rget s.seq.regs (Reg.SEQ_SPAN_W0 + 4 * k)) ++ [v]))[i]) ∧
      s.SameBytesBut t (spanAddr (!s.seq.bank) (rfld s.seq.regs Reg.SEQ_SPAN_IDX 9 0)) 32 ∧
      t.seq.loaded = true ∧ t.seq.bank = s.seq.bank ∧ t.seq.runs = s.seq.runs ∧ t.pageSeq Pg.SEQ = s.pageSeq Pg.SEQ + 1#32) ∧
  (∀ (a : At) (acc : Accessor) (v : Word) (at_ : Nat) (s : State), s.Admits acc Pg.SEQ (Reg.SEQ_SPAN_W7 % 0x400) → s.seq.swapAt = some at_ →
    ∃ t, exec (.spanStore a acc v) s = .next t ∧ t.seq = s.seq ∧ t.errCode Pg.SEQ = 0x1203 ∧ s.SameBytes t) ∧
  (∀ (a : At) (acc : Accessor) (v : Word) (s : State), s.Admits acc Pg.SEQ (Reg.SEQ_SHADOW_CNT % 0x400) → s.seq.swapAt = none →
    ∃ t, exec (.shadowCountWrite a acc v) s = .next t ∧ t.seq.shadowCnt = bits v 10 0 ∧ t.seq.loaded = true ∧ t.seq.bank = s.seq.bank ∧
      t.seq.active = s.seq.active ∧ t.pageSeq Pg.SEQ = s.pageSeq Pg.SEQ + 1#32 ∧ s.SameBytes t) ∧
  (∀ (a : At) (acc : Accessor) (s : State), s.Admits acc Pg.SEQ (Reg.SEQ_SWAP % 0x400) → s.seq.swapAt = none →
    ∃ t, exec (.swapRequest a acc) s = .next t ∧
      (validateBank (s.at_ a).mem s.furlongIn (!s.seq.bank) s.seq.shadowCnt = none →
        t.seq.swapAt = some (rget s.seq.regs Reg.SEQ_SWAP_AT).toNat) ∧
      (∀ r i, validateBank (s.at_ a).mem s.furlongIn (!s.seq.bank) s.seq.shadowCnt = some (r, i) →
        t.seq.swapAt = none ∧ t.errCode Pg.SEQ = 0x1201) ∧
      t.seq.bank = s.seq.bank ∧ t.seq.active = s.seq.active ∧ s.SameBytes t) ∧
  (∀ (a : At) (acc : Accessor) (v : Word) (s : State), s.Admits acc Pg.SEQ (Reg.SEQ_PUB_SEL % 0x400) →
    ∃ t, exec (.pubSelWrite a acc v) s = .next t ∧ rget t.seq.regs Reg.SEQ_PUB_SEL = wd (bits v 9 0) ∧
      rget t.seq.regs (rk Reg.SEQ_SLACK_MIN 0 (bits v 9 0)) = 0xFFFFF#32 ∧ t.seq = { s.seq with regs := t.seq.regs } ∧ s.SameBytes t)

/-- At the end of the fathom in progress with no run at its deadline, FATHOM_START counts one fathom up, begins it at that instant and
issues no START yet; a swap requested with SEQ_SWAP_AT 0 and no long span in flight exchanges the banks and their counts there, one
whose number lies in the past is refused with 0x1202; FURLONG_SWAP is that swap alone. (R39, R41, R49, R53, R54,
02_furlong_sequencer.md) -/
def Obligations.FathomStartsAndSwaps : Prop :=
  (∀ (a : At) (s : State), (s.at_ a).gridDue = true → (s.at_ a).dueRuns = [] → s.seq.swapAt = none →
    ∃ t, exec (.fathomStart a) s = .next t ∧ t.seq.count = s.seq.count + 1 ∧ t.seq.startUs = s.seq.endUs ∧ t.seq.issued = [] ∧
      t.seq.runs = s.seq.runs ∧ t.seq.bank = s.seq.bank ∧ t.seq.active = s.seq.active ∧ t.mode = s.mode) ∧
  (∀ (a : At) (s : State), (s.at_ a).gridDue = true → (s.at_ a).dueRuns = [] → s.seq.swapAt = some 0 → s.seq.longRun = false →
    s.mode ≠ .config →
    ∃ t, exec (.fathomStart a) s = .next t ∧ t.seq.count = s.seq.count + 1 ∧ t.seq.startUs = s.seq.endUs ∧ t.seq.issued = [] ∧
      t.seq.bank = !s.seq.bank ∧ t.seq.active = s.seq.shadowCnt ∧ t.seq.swapAt = none ∧ t.seq.loaded = false) ∧
  (∀ (a : At) (s : State), (s.at_ a).gridDue = true → (s.at_ a).dueRuns = [] → s.seq.swapAt = some 0 → s.seq.longRun = false →
    s.mode ≠ .config →
    ∃ t, exec (.furlongSwap a) s = .next t ∧ t.seq.bank = !s.seq.bank ∧ t.seq.active = s.seq.shadowCnt ∧
      rget t.seq.regs Reg.SEQ_SHADOW_CNT = wd s.seq.active ∧ rget t.seq.regs Reg.SEQ_SWAP_FNO = wd (s.seq.count + 1) ∧
      t.seq.swapAt = none ∧ t.seq.loaded = false ∧ t.seq.count = s.seq.count ∧ t.seq.runs = s.seq.runs ∧
      t.pageSeq Pg.SEQ = s.pageSeq Pg.SEQ + 1#32 ∧ s.SameBytes t) ∧
  (∀ (a : At) (n : Nat) (s : State), (s.at_ a).gridDue = true → (s.at_ a).dueRuns = [] → s.seq.swapAt = some n → n ≠ 0 →
    n ≠ (s.seq.count + 1) % 4294967296 → signed 32 (n + 4294967296 - (s.seq.count + 1) % 4294967296) ≤ 0 → s.mode ≠ .config →
    ∃ t, exec (.furlongSwap a) s = .next t ∧ t.seq.bank = s.seq.bank ∧ t.seq.active = s.seq.active ∧ t.seq.swapAt = none ∧
      t.errCode Pg.SEQ = 0x1202 ∧ s.SameBytes t)

/-- SPAN_COMPLETION before the deadline marks each run of the span that has not completed; other runs stay. At its deadline a completed
run with a result, of a unit other than LATCH, publishes its pair and PUB_FNO, one without completion is a miss with 0x2210 and one
without a result a miss with 0x2213; in each case the run ends and SEQ_MISS_TOTAL counts the misses. (R46, R48, R57, R58,
02_furlong_sequencer.md) -/
def Obligations.SpanCompletionsAndDeadlines : Prop :=
  (∀ (a : At) (idx : Nat) (result : Bool) (r : Run) (s : State), s.seq.run idx = some r → s.pageUp r.span.page = true →
    ∃ t, exec (.spanCompletion a idx result) s = .next t ∧
      (∀ x, x ∈ s.seq.runs → x.idx = idx → x.doneAt = none →
        (s.seq.count - r.count) * s.seq.lenUs + (s.at_ a).tick < x.span.deadline →
        { x with result := x.result && result, doneAt := some ((s.seq.count - r.count) * s.seq.lenUs + (s.at_ a).tick) } ∈ t.seq.runs) ∧
      (∀ x, x ∈ s.seq.runs → x.idx ≠ idx → x ∈ t.seq.runs) ∧
      t.shell = { (s.at_ a).shell with seq := { s.seq with runs := t.seq.runs } } ∧ s.SameBytes t) ∧
  (∀ (a : At) (idx : Nat) (r : Run) (d : Nat) (s : State), (s.at_ a).dueRuns.find? (fun x => x.idx == idx) = some r → r.doneAt = some d →
    r.result = true → r.span.unit ≠ 0x7F → r.span.unit ≠ 0x16 → r.span.dstLen ≠ 0 →
    ∃ t, exec (.spanDeadline a idx) s = .next t ∧ t.second = pairSwap s.second r.span.dst r.span.dstLen ∧
      t.seq.runs = s.seq.runs.erase r ∧ rget t.seq.regs (rk Reg.SEQ_PUB_FNO 0 r.idx) = wd s.seq.count ∧
      rget t.seq.regs Reg.SEQ_MISS_TOTAL = rget s.seq.regs Reg.SEQ_MISS_TOTAL) ∧
  (∀ (a : At) (idx : Nat) (r : Run) (s : State), (s.at_ a).dueRuns.find? (fun x => x.idx == idx) = some r → r.doneAt = none →
    ∃ t, exec (.spanDeadline a idx) s = .next t ∧ t.second = s.second ∧ t.seq.runs = s.seq.runs.erase r ∧ t.errCode Pg.SEQ = 0x2210 ∧
      rget t.seq.regs Reg.SEQ_MISS_TOTAL = incW (rget s.seq.regs Reg.SEQ_MISS_TOTAL)) ∧
  (∀ (a : At) (idx : Nat) (r : Run) (d : Nat) (s : State), (s.at_ a).dueRuns.find? (fun x => x.idx == idx) = some r → r.doneAt = some d →
    r.result = false →
    ∃ t, exec (.spanDeadline a idx) s = .next t ∧ t.second = s.second ∧ t.seq.runs = s.seq.runs.erase r ∧ t.errCode Pg.SEQ = 0x2213 ∧
      rget t.seq.regs Reg.SEQ_MISS_TOTAL = incW (rget s.seq.regs Reg.SEQ_MISS_TOTAL) ∧ s.SameBytes t)

/-- While FLT works, a sample that one stream takes, not late and within the intake rate, waits in that stream with its delivery and
effective instants, and no other stream changes; a late one is dropped with 0x1316. A RESAMPLE that starts computes every enabled
slot, stores the records of the slots in its hidden half and nothing else, and runs with a result. Outside RUN a write of
FLT_COEF_DATA stores two taps of a loaded set. (R65, R66, R71, R77, 03_resampling_engine.md) -/
def Obligations.ResamplerCommands : Prop :=
  (∀ (a : At) (unit sel k : Nat) (stamp val : Int) (s : State), s.islandUp 5 = true → hdrEnabled s.hdr Pg.FLT = true →
    s.flt.takers ⟨unit, sel, stamp, val⟩ = [k] → s.flt.inRate < 1000000 →
    ∃ t, exec (.sampleArrival a unit sel stamp val) s = .next t ∧
      ((match (s.flt.stream k).lastTake with
          | some t0 => decide (stamp + 1000 * (rfld s.flt.regs (rk Reg.FLT_S_DLV 0 k) 19 0 : Int) ≤ t0) | none => false) = false →
        t.flt.stream k = { s.flt.stream k with
          wait := insertWaiting (s.flt.stream k).wait ⟨stamp + 1000 * (rfld s.flt.regs (rk Reg.FLT_S_DLV 0 k) 19 0 : Int),
            stamp - 1000 * (rfld s.flt.regs (rk Reg.FLT_S_LAT 0 k) 19 0 : Int), val⟩ }) ∧
      ((match (s.flt.stream k).lastTake with
          | some t0 => decide (stamp + 1000 * (rfld s.flt.regs (rk Reg.FLT_S_DLV 0 k) 19 0 : Int) ≤ t0) | none => false) = true →
        t.flt.stream k = { s.flt.stream k with drops := satInc 16 (s.flt.stream k).drops } ∧ t.errCode Pg.FLT = 0x1316) ∧
      (∀ j, j ≠ k → t.flt.stream j = s.flt.stream j) ∧ (s.at_ a).SameShell t ∧ s.SameBytes t) ∧
  (∀ (a : At) (idx : Nat) (x : Span) (s : State), (s.at_ a).Starts idx x → x.unit = 0x14 → x.opcode = 1 →
    ∃ t, exec (.resample a idx) s = .next t ∧
      (s.at_ a).Answered t idx x (R.good (Flt.resample (s.at_ a).mem s.seq.startUs (s.hidden x.dst x.dstLen) x.dstLen s.flt)) ∧
      rget t.flt.regs Reg.FLT_SLOTS = wd s.flt.slots ∧
      t.shell = { (s.at_ a).shell with
        seq := s.seq.started idx x true none
        free := s.free + 1 } ∧
      (∀ i (h : i < ((upto (min s.flt.slots (4 * x.dstLen))).flatMap t.flt.workRecord).length),
        t.mem.byte (s.hidden x.dst x.dstLen + i) = ((upto (min s.flt.slots (4 * x.dstLen))).flatMap t.flt.workRecord)[i]) ∧
      s.SameBytesBut t (s.hidden x.dst x.dstLen) ((upto (min s.flt.slots (4 * x.dstLen))).flatMap t.flt.workRecord).length) ∧
  (∀ (a : At) (acc : Accessor) (v : Word) (s : State), s.Admits acc Pg.FLT (Reg.FLT_COEF_DATA % 0x400) → s.mode ≠ .run →
    2 ≤ rfld s.flt.regs Reg.FLT_COEF_SEL 1 0 →
    ∃ t, exec (.coefDataWrite a acc v) s = .next t ∧
      sget tapDefault t.flt.taps (512 * rfld s.flt.regs Reg.FLT_COEF_SEL 1 0 + 16 * rfld s.flt.regs Reg.FLT_COEF_SEL 6 2 +
        2 * rfld s.flt.regs Reg.FLT_COEF_SEL 9 7) = signed 16 (bits v 15 0) ∧
      sget tapDefault t.flt.taps (512 * rfld s.flt.regs Reg.FLT_COEF_SEL 1 0 + 16 * rfld s.flt.regs Reg.FLT_COEF_SEL 6 2 +
        2 * rfld s.flt.regs Reg.FLT_COEF_SEL 9 7 + 1) = signed 16 (bits v 31 16) ∧
      t.flt.streams = s.flt.streams ∧ t.pageSeq Pg.FLT = s.pageSeq Pg.FLT + 1#32 ∧ s.SameBytes t)

/-- An ESTIMATE that starts with too short operands has no result, sets EST_STAT.MISS and records 0x2402; otherwise, with no block of
memory poisoned, it has a result for the fathom in progress in the data that its publication commits and nothing else of the module
changes but the bytes it stores; an admitted write of EST_R_CTRL or EST_CTRL leaves the request of ADMIT, WITHDRAW or REINIT for the
next one. (R83, R92, R98, R102, 04_state_estimator.md) -/
def Obligations.EstimatorCommands : Prop :=
  (∀ (a : At) (idx : Nat) (x : Span) (s : State), (s.at_ a).Starts idx x → x.unit = 0x11 → x.opcode = 1 →
    (4 * x.srcLen < s.flt.slots ∨ x.dstLen < 9) →
    ∃ t, exec (.estimate a idx) s = .next t ∧ t.seq = s.seq.started idx x false (some (s.at_ a).tick) ∧ t.errCode Pg.EST = 0x2402 ∧
      rbit t.est.regs Reg.EST_STAT 3 = true ∧ t.est.data = s.est.data ∧ t.est.work = s.est.work ∧ s.SameBytes t) ∧
  (∀ (a : At) (idx : Nat) (x : Span) (s : State), (s.at_ a).Starts idx x → x.unit = 0x11 → x.opcode = 1 → s.flt.slots ≤ 4 * x.srcLen →
    9 ≤ x.dstLen → (∀ b, (s.at_ a).mem.isBad b = false) →
    ∃ t, exec (.estimate a idx) s = .next t ∧
      (s.at_ a).Answered t idx x (Est.estimate s.flt.regs s.flt.slots ((s.at_ a).handed idx x) s.est) ∧
      t.seq = s.seq.started idx x true none ∧ t.est.ran = true ∧ t.est.work.isSome = true ∧
      rget t.est.regs Reg.EST_IN_FNO = wd s.seq.count ∧
      t.shell = { (s.at_ a).shell with
        seq := s.seq.started idx x true none
        est := t.est
        free := s.free + 1 }) ∧
  (∀ (a : At) (acc : Accessor) (k : Nat) (s : State), s.Admits acc Pg.EST (Reg.EST_R_CTRL % 0x400) →
    (rget s.est.regs Reg.EST_SEL).toNat = k → k < 18 →
    ∃ t, exec (.admitObs a acc) s = .next t ∧ t.est.admits = k :: s.est.admits.filter (· != k) ∧ t.est.withdraw = s.est.withdraw ∧
      t.est.data = s.est.data ∧ t.pageSeq Pg.EST = s.pageSeq Pg.EST + 1#32 ∧ s.SameBytes t) ∧
  (∀ (a : At) (acc : Accessor) (k : Nat) (s : State), s.Admits acc Pg.EST (Reg.EST_R_CTRL % 0x400) →
    (rget s.est.regs Reg.EST_SEL).toNat = k → k < 18 →
    ∃ t, exec (.withdraw a acc) s = .next t ∧ t.est.withdraw = k :: s.est.withdraw.filter (· != k) ∧ t.est.admits = s.est.admits ∧
      t.est.data = s.est.data ∧ t.pageSeq Pg.EST = s.pageSeq Pg.EST + 1#32 ∧ s.SameBytes t) ∧
  (∀ (a : At) (acc : Accessor) (s : State), s.Admits acc Pg.EST (Reg.EST_CTRL % 0x400) →
    ∃ t, exec (.reinit a acc) s = .next t ∧ t.est.reinit = true ∧ t.est.data = s.est.data ∧
      t.pageSeq Pg.EST = s.pageSeq Pg.EST + 1#32 ∧ s.SameBytes t)

/-- While FUS works with feature 7 accepted, a datagram that passes the checks for a slot of its own and fits the point allowance waits
in the pool with its receive time, one that a check of 1 to 3 fails is discarded with 0x1510; BINNING takes the datagrams of the
previous fathom out of the pool, stores only into the filling plane, and without a usable estimate bins none and records 0x1514; an
UPDATE that is granted works on the plane filled, one that is not has no result and records 0x2516; the final write stores words 8 to 10
and the CRC in the hidden half and completes the span; SEED waits for the next UPDATE. (R108, R109, R111, R119, R129,
05_berth_grid_fusion.md) -/
def Obligations.FusionCommands : Prop :=
  (∀ (a : At) (src k : Nat) (d : List Byte) (s : State), s.works Pg.FUS0 = true → s.feature 7 = true →
    rbit s.fus.regs Reg.FUS0_CTRL 0 = true →
    s.fus.checkDatagram src d = .inr k → bit s.fus.srcSel k = false →
    (∀ e, s.fus.last.find? (fun e => e.1 == k) = some e → (beNat (sliceB d 20 4) + 4294967296 - e.2) % 4294967296 = 1) →
    (if s.fus.rateFno = s.seq.count then s.fus.ratePts else 0) + pdCount d ≤ pointAllowance s.seq.lenUs →
    ∃ t, exec (.pointDatagram a src (rfld s.fus.regs Reg.FUS0_PORT 15 0) false d) s = .next t ∧
      t.fus.pool = s.fus.pool ++ [⟨k, (s.at_ a).tim.time, sliceB d 28 (8 * pdCount d)⟩] ∧
      rget t.fus.regs (rk Reg.FUS0_SC_DSEQ 0 k) = wd (beNat (sliceB d 20 4)) ∧
      t.fus.ratePts = (if s.fus.rateFno = s.seq.count then s.fus.ratePts else 0) + pdCount d ∧ t.fus.data = s.fus.data ∧
      (s.fus.mirrorOut = false → t.shell = { (s.at_ a).shell with fus := t.fus } ∧ s.SameBytes t)) ∧
  (∀ (a : At) (src c : Nat) (d : List Byte) (s : State), s.works Pg.FUS0 = true → s.feature 7 = true →
    rbit s.fus.regs Reg.FUS0_CTRL 0 = true →
    s.fus.checkDatagram src d = .inl c → c ≠ 4 →
    ∃ t, exec (.pointDatagram a src (rfld s.fus.regs Reg.FUS0_PORT 15 0) false d) s = .next t ∧ t.fus.pool = s.fus.pool ∧
      t.errCode Pg.FUS0 = 0x1510 ∧ t.shell = { (s.at_ a).shell with fus := t.fus } ∧ s.SameBytes t) ∧
  (∀ (a : At) (s : State), s.works Pg.FUS0 = true → s.feature 7 = true → s.mode = .ready ∨ s.mode = .run →
    ∃ t, exec (.binning a) s = .next t ∧ t.fus.pool = s.fus.pool.filter (fun d => !decide (d.stamp < 1000 * s.seq.startUs)) ∧
      t.fus.srcSel = rget s.fus.regs Reg.FUS0_SRC_SEL ∧ t.fus.mirrorOut = rbit s.fus.regs Reg.FUS0_CTRL 1 ∧ t.fus.data = s.fus.data ∧
      t.shell = { (s.at_ a).shell with fus := t.fus } ∧ s.SameBytesBut t s.fus.filling (2 * 1048576)) ∧
  (∀ (a : At) (s : State), s.works Pg.FUS0 = true → s.feature 7 = true → s.mode = .ready ∨ s.mode = .run →
    rbit s.fus.regs Reg.FUS0_CTRL 0 = true →
    rbit s.fus.regs Reg.FUS0_EST_BLK 31 = false →
    ∃ t, exec (.binning a) s = .next t ∧ t.fus.winNo = true ∧ t.fus.winPts = s.fus.winPts ∧ t.errCode Pg.FUS0 = 0x1514 ∧
      s.SameBytes t) ∧
  (∀ (a : At) (idx : Nat) (x : Span) (s : State), (s.at_ a).Starts idx x → x.unit = 0x15 → x.opcode = 1 → s.pwr.granted 17 = true →
    ∃ t, exec (.update a idx) s = .next t ∧ (s.at_ a).Answered t idx x (Fus.update ((s.at_ a).handed idx x) s.fus) ∧
      t.fus.planeB = !s.fus.planeB ∧ t.fus.data = s.fus.data ∧ t.fus.seed = false ∧
      t.shell = { (s.at_ a).shell with
        seq := t.seq
        fus := t.fus
        free := s.free + 1 }) ∧
  (∀ (a : At) (idx : Nat) (x : Span) (s : State), (s.at_ a).Starts idx x → x.unit = 0x15 → x.opcode = 1 → s.pwr.granted 17 = false →
    ∃ t, exec (.update a idx) s = .next t ∧ t.seq = s.seq.started idx x false (some (s.at_ a).tick) ∧ t.fus.planeB = !s.fus.planeB ∧
      t.fus.data = s.fus.data ∧ t.errCode Pg.FUS0 = 0x2516 ∧
      s.SameBytesBut t (if s.fus.planeB then fusPlaneA else fusPlaneB) (2 * 1048576)) ∧
  (∀ (a : At) (idx : Nat) (r : Run) (s : State), s.seq.run idx = some r → r.span.unit = 0x15 → r.doneAt = none →
    s.pageUp Pg.FUS0 = true →
    reached (r.count + (r.span.deadline - 1) / max 1 s.seq.lenUs, (r.span.deadline - 1) % max 1 s.seq.lenUs) (s.at_ a).here = true →
    ∃ t, exec (.updateFinalWrite a idx) s = .next t ∧
      (∀ i (h : i < (wordBytes (wd s.seq.count)).length),
        t.mem.byte (s.hidden r.span.dst r.span.dstLen + 40 + i) = (wordBytes (wd s.seq.count))[i]) ∧
      (∀ i (h : i < (wordBytes (crc32 (wordsBytes t.fus.workPose))).length),
        t.mem.byte (s.hidden r.span.dst r.span.dstLen + 60 + i) = (wordBytes (crc32 (wordsBytes t.fus.workPose)))[i]) ∧
      ((s.seq.count - r.count) * s.seq.lenUs + (s.at_ a).tick < r.span.deadline → r ∈ s.seq.runs →
        { r with doneAt := some ((s.seq.count - r.count) * s.seq.lenUs + (s.at_ a).tick) } ∈ t.seq.runs) ∧
      t.fus.data = s.fus.data ∧ s.SameBytesBut t (s.hidden r.span.dst r.span.dstLen + 32) 32) ∧
  (∀ (a : At) (acc : Accessor) (s : State), s.Admits acc Pg.FUS1 (Reg.FUS1_SEED % 0x400) →
    ∃ t, exec (.seed a acc) s = .next t ∧ t.fus.seed = true ∧ t.fus.data = s.fus.data ∧ t.pageSeq Pg.FUS1 = s.pageSeq Pg.FUS1 + 1#32 ∧
      s.SameBytes t)

/-- A LOOPS that starts answers what its engine makes of the blocks visible at START: with too short operands no result, MISS and 0x2802,
with every block sound a result that its publication commits. Outside RUN a word written through the window reaches the selected block
and the window moves on; in RUN only the inactive bank of an instance takes it, any other write is discarded with 0x1804. SWAP and
SWAP_ALL leave the requests for the next START. (R173, R175, R183, R189, 08_control_engines.md) -/
def Obligations.ControlCommands : Prop :=
  (∀ (a : At) (idx : Nat) (x : Span) (n : Fin 2) (s : State), (s.at_ a).Starts idx x → x.unit = 0x12 + n.val → x.opcode = 1 →
    ∃ t, exec (.loops a idx) s = .next t ∧
      (s.at_ a).Answered t idx x
        (Ctl.loops n.val ((s.at_ a).handed idx x) (decide (n.val = 0) && bit x.arg 31)
          ((decide (n.val = 0) && bit x.arg 31) &&
            (((s.at_ a).begun idx).stageReads ((s.at_ a).handed idx x)).blocks.any (s.at_ a).mem.isBad)
          (((s.at_ a).begun idx).stageIn ((s.at_ a).handed idx x) (((s.at_ a).begun idx).stageReads ((s.at_ a).handed idx x)))
          (if (decide (n.val = 0) && bit x.arg 31) then (((s.at_ a).begun idx).stageReads ((s.at_ a).handed idx x)).blocks else []) s.ctl) ∧
      t.shell = { (s.at_ a).shell with
        seq := t.seq
        ctl := t.ctl
        free := s.free + 1 }) ∧
  (∀ (a : At) (idx : Nat) (x : Span) (n : Fin 2) (s : State), (s.at_ a).Starts idx x → x.unit = 0x12 + n.val → x.opcode = 1 →
    s.ctl.swapDue n.val = [] → s.ctl.fits n.val ((s.at_ a).handed idx x) = false →
    ∃ t, exec (.loops a idx) s = .next t ∧ t.seq = s.seq.started idx x false (some (s.at_ a).tick) ∧ t.errCode (ctlPage n.val) = 0x2802 ∧
      rbit t.ctl.regs (rk Reg.CTL_STAT n.val 0) 0 = true ∧ t.ctl.stage = s.ctl.stage ∧ s.SameBytes t) ∧
  (∀ (a : At) (idx : Nat) (x : Span) (n : Fin 2) (s : State), (s.at_ a).Starts idx x → x.unit = 0x12 + n.val → x.opcode = 1 →
    s.ctl.swapDue n.val = [] → s.ctl.fits n.val ((s.at_ a).handed idx x) = true → (∀ b, (s.at_ a).mem.isBad b = false) →
    ∃ t, exec (.loops a idx) s = .next t ∧ t.seq = s.seq.started idx x true none ∧ t.ctl.stage = s.ctl.stage ∧
      t.ctl.work.any (fun e => e.1 == n.val) = true ∧ rbit t.ctl.regs (rk Reg.CTL_STAT n.val 0) 0 = false) ∧
  (∀ (a : At) (acc : Accessor) (n : Fin 2) (v : Word) (k blk word : Nat) (s : State),
    s.Admits acc (ctlPage n.val) (Reg.CTL_I_DATA % 0x400) → rfld s.ctl.regs (rk Reg.CTL_SEL n.val 0) 8 0 = k →
    rfld s.ctl.regs (rk Reg.CTL_I_WIN n.val k) 6 3 = blk → rfld s.ctl.regs (rk Reg.CTL_I_WIN n.val k) 2 0 = word →
    s.ctl.swapPending n.val k = false →
    (if s.mode = .run then (1 ≤ blk ∧ blk ≤ 8 ∧ (decide (5 ≤ blk)) ≠ bit (descWord (s.at_ a).mem n.val k 0) 5)
      else blk ≤ 10 ∧ ¬(blk = 10 ∧ word = 7)) →
    ∃ t, exec (.instanceWindowWrite a acc n v) s = .next t ∧
      (∀ i (h : i < (wordBytes v).length), t.mem.byte (instAddr n.val k blk word + i) = (wordBytes v)[i]) ∧
      s.SameBytesBut t (instAddr n.val k blk word) 4 ∧ rget t.ctl.regs (rk Reg.CTL_I_WIN n.val k) = wd (nextWindow (8 * blk + word)) ∧
      t.ctl = { s.ctl with regs := t.ctl.regs } ∧ t.pageSeq (ctlPage n.val) = s.pageSeq (ctlPage n.val) + 1#32) ∧
  (∀ (a : At) (acc : Accessor) (n : Fin 2) (v : Word) (k blk : Nat) (s : State),
    s.Admits acc (ctlPage n.val) (Reg.CTL_I_DATA % 0x400) → rfld s.ctl.regs (rk Reg.CTL_SEL n.val 0) 8 0 = k →
    rfld s.ctl.regs (rk Reg.CTL_I_WIN n.val k) 6 3 = blk → s.mode = .run →
    (blk = 0 ∨ 9 ≤ blk ∨ (decide (5 ≤ blk)) = bit (descWord (s.at_ a).mem n.val k 0) 5) →
    ∃ t, exec (.instanceWindowWrite a acc n v) s = .next t ∧ t.ctl = s.ctl ∧ t.errCode (ctlPage n.val) = 0x1804 ∧
      t.pageSeq (ctlPage n.val) = s.pageSeq (ctlPage n.val) ∧ s.SameBytes t) ∧
  (∀ (a : At) (acc : Accessor) (n : Fin 2) (k : Nat) (s : State), s.Admits acc (ctlPage n.val) (Reg.CTL_I_SWAP % 0x400) →
    rfld s.ctl.regs (rk Reg.CTL_SEL n.val 0) 8 0 = k →
    ∃ t, exec (.swap a acc n) s = .next t ∧
      t.ctl.swaps = (if s.ctl.swapPending n.val k then s.ctl.swaps else s.ctl.swaps ++ [512 * n.val + k]) ∧ t.ctl.stage = s.ctl.stage ∧
      t.pageSeq (ctlPage n.val) = s.pageSeq (ctlPage n.val) + 1#32 ∧ s.SameBytes t) ∧
  (∀ (a : At) (acc : Accessor) (n : Fin 2) (s : State), s.Admits acc (ctlPage n.val) (Reg.CTL_I_SWAP % 0x400) →
    ∃ t, exec (.swapAll a acc n) s = .next t ∧
      t.ctl.swaps = s.ctl.swaps ++
        ((upto 512).filter (fun k => instEn (s.at_ a).mem n.val k && !s.ctl.swapPending n.val k)).map (512 * n.val + ·) ∧
      t.ctl.stage = s.ctl.stage ∧ t.pageSeq (ctlPage n.val) = s.pageSeq (ctlPage n.val) + 1#32 ∧ s.SameBytes t)

/-- An ASSEMBLE that starts names its output pair in ALC_OUT_BLK and answers what the model makes of the visible blocks: with too short
operands no result, MISS and 0x2902, with every block sound a result for its publication. With no swap pending a word written through
the window reaches the inactive bank, and ALC_SWAP validates that bank: outside RUN a valid one becomes active at once, in RUN it
waits, an invalid one is refused with 0x1903. While a swap is pending the window is refused with 0x1904. (R194, R195, R208, R212,
09_multibody_model.md) -/
def Obligations.AssemblerCommands : Prop :=
  (∀ (a : At) (idx : Nat) (x : Span) (s : State), (s.at_ a).Starts idx x → x.unit = 0x17 → x.opcode = 1 →
    ∃ t, exec (.assemble a idx) s = .next t ∧ (s.at_ a).Answered t idx x (Alc.assemble ((s.at_ a).handed idx x) s.alc) ∧
      rget t.alc.regs Reg.ALC_OUT_BLK = wd (x.dst + 0x80000000) ∧ t.alc.data = s.alc.data ∧ t.alc.pend = false ∧
      t.shell = { (s.at_ a).shell with
        seq := t.seq
        alc := t.alc
        free := s.free + 1 }) ∧
  (∀ (a : At) (idx : Nat) (x : Span) (s : State), (s.at_ a).Starts idx x → x.unit = 0x17 → x.opcode = 1 → x.dstLen < 1880 →
    ∃ t, exec (.assemble a idx) s = .next t ∧ t.seq = s.seq.started idx x false (some (s.at_ a).tick) ∧ t.errCode Pg.ALC = 0x2902 ∧
      rbit t.alc.regs Reg.ALC_STAT 0 = true ∧ t.alc.work = s.alc.work ∧ s.SameBytes t) ∧
  (∀ (a : At) (idx : Nat) (x : Span) (s : State), (s.at_ a).Starts idx x → x.unit = 0x17 → x.opcode = 1 → s.alc.pend = false →
    1880 ≤ x.dstLen → ((alcStreams (alcImage (s.at_ a).mem s.alc.active)).foldl max 0 + 4) / 4 ≤ x.srcLen →
    (∀ b, (s.at_ a).mem.isBad b = false) →
    ∃ t, exec (.assemble a idx) s = .next t ∧ t.seq = s.seq.started idx x true none ∧ t.alc.work.isSome = true ∧
      t.alc.active = s.alc.active) ∧
  (∀ (a : At) (acc : Accessor) (v : Word) (k : Nat) (s : State), s.Admits acc Pg.ALC (Reg.ALC_P_DATA % 0x400) → s.alc.pend = false →
    rfld s.alc.regs Reg.ALC_P_WIN 10 0 = k →
    ∃ t, exec (.alcParamWrite a acc v) s = .next t ∧
      (∀ i (h : i < (wordBytes v).length), t.mem.byte (alcWordAddr (1 - s.alc.active) k + i) = (wordBytes v)[i]) ∧
      s.SameBytesBut t (alcWordAddr (1 - s.alc.active) k) 4 ∧ rfld t.alc.regs Reg.ALC_P_WIN 10 0 = (k + 1) % 2048 ∧
      t.alc.active = s.alc.active ∧ t.alc.data = s.alc.data ∧ t.pageSeq Pg.ALC = s.pageSeq Pg.ALC + 1#32) ∧
  (∀ (a : At) (acc : Accessor) (v : Word) (s : State), s.Admits acc Pg.ALC (Reg.ALC_P_DATA % 0x400) → s.alc.pend = true →
    ∃ t, exec (.alcParamWrite a acc v) s = .next t ∧ t.alc = s.alc ∧ t.errCode Pg.ALC = 0x1904 ∧ s.SameBytes t) ∧
  (∀ (a : At) (acc : Accessor) (s : State), s.Admits acc Pg.ALC (Reg.ALC_SWAP % 0x400) → s.alc.pend = false →
    ∃ t, exec (.alcSwap a acc) s = .next t ∧
      (alcValidate s.flt (s.feature 6) (alcImage (s.at_ a).mem (1 - s.alc.active)) = none → s.mode ≠ .run →
        t.alc.active = 1 - s.alc.active ∧ t.alc.valid = true ∧ t.alc.pend = false) ∧
      (alcValidate s.flt (s.feature 6) (alcImage (s.at_ a).mem (1 - s.alc.active)) = none → s.mode = .run →
        t.alc.active = s.alc.active ∧ t.alc.pend = true) ∧
      (∀ e, alcValidate s.flt (s.feature 6) (alcImage (s.at_ a).mem (1 - s.alc.active)) = some e →
        t.alc.active = s.alc.active ∧ t.alc.pend = false ∧ t.errCode Pg.ALC = 0x1903) ∧
      t.alc.data = s.alc.data ∧ s.SameBytes t)

/-- The lead's ALLOCATE answers what the solver makes of the visible blocks: with too short operands no result, MISS and 0x2A02, with
every block sound a result for its publication; the partner's writes nothing and answers at once in SOL1_STAT. With no swap pending a
word written through the image window reaches the inactive bank and SOL0_IMG_SWAP validates that bank: outside RUN a valid one becomes
active at once, in RUN it waits, an invalid one is refused with 0x1A03. COLD waits for the next lead; outside RUN a word written
through SOL1_MEM_DATA reaches the memory of SOL1, in RUN it is refused with 0x1A04. (R214, R222, R223, R224, R232,
10_allocation_solver.md) -/
def Obligations.SolverCommands : Prop :=
  (∀ (a : At) (idx : Nat) (x : Span) (s : State), (s.at_ a).Starts idx x → x.unit = 0x10 → x.opcode = 2 →
    ∃ t, exec (.allocate a idx) s = .next t ∧
      (s.at_ a).Answered t idx x (Sol.allocate ((s.at_ a).handed idx x) ((s.at_ a).begun idx).partnerReady s.sol) ∧
      t.sol.data.x0 = s.sol.data.x0 ∧ t.sol.pend = false ∧
      t.shell = { (s.at_ a).shell with
        seq := t.seq
        sol := t.sol
        free := s.free + 1 }) ∧
  (∀ (a : At) (idx : Nat) (x : Span) (s : State), (s.at_ a).Starts idx x → x.unit = 0x10 → x.opcode = 2 →
    (x.srcLen < 1880 ∨ x.dstLen < 13) →
    ∃ t, exec (.allocate a idx) s = .next t ∧ t.seq = s.seq.started idx x false (some (s.at_ a).tick) ∧ t.errCode Pg.SOL0 = 0x2A02 ∧
      rbit t.sol.regs Reg.SOL0_STAT 0 = true ∧ t.sol.data = s.sol.data ∧ s.SameBytes t) ∧
  (∀ (a : At) (idx : Nat) (x : Span) (s : State), (s.at_ a).Starts idx x → x.unit = 0x10 → x.opcode = 2 → 1880 ≤ x.srcLen →
    13 ≤ x.dstLen → (∀ b, (s.at_ a).mem.isBad b = false) →
    ∃ t, exec (.allocate a idx) s = .next t ∧ t.seq = s.seq.started idx x true none ∧ t.sol.work.isSome = true ∧ t.sol.cold = false ∧
      t.sol.data = s.sol.data) ∧
  (∀ (a : At) (idx : Nat) (x : Span) (s : State), (s.at_ a).Starts idx x → x.unit = 0x11 → x.opcode = 2 →
    ∃ t, exec (.allocate a idx) s = .next t ∧ t.seq = s.seq.started idx x true none ∧
      rbit t.sol.regs Reg.SOL1_STAT 0 = true ∧ rbit t.sol.regs Reg.SOL1_STAT 1 = false ∧
      rbit t.sol.regs Reg.SOL1_STAT 2 = rbit s.sol.regs Reg.SOL1_STAT 2 ∧ t.sol = { s.sol with regs := t.sol.regs } ∧
      t.shell = { (s.at_ a).shell with
        seq := t.seq
        sol := t.sol
        free := s.free + 1 } ∧ s.SameBytes t) ∧
  (∀ (a : At) (acc : Accessor) (v : Word) (k : Nat) (s : State), s.Admits acc Pg.SOL0 (Reg.SOL0_IMG_DATA % 0x400) → s.sol.pend = false →
    rfld s.sol.regs Reg.SOL0_IMG_WIN 14 0 = k → k < 16896 →
    ∃ t, exec (.imageWindowWrite a acc v) s = .next t ∧
      (∀ i (h : i < (wordBytes v).length), t.mem.byte (imgAddr (1 - s.sol.active) k + i) = (wordBytes v)[i]) ∧
      s.SameBytesBut t (imgAddr (1 - s.sol.active) k) 4 ∧
      rfld t.sol.regs Reg.SOL0_IMG_WIN 14 0 = (if k = 16895 then 0 else k + 1) ∧ t.sol.active = s.sol.active ∧ t.sol.data = s.sol.data ∧
      t.pageSeq Pg.SOL0 = s.pageSeq Pg.SOL0 + 1#32) ∧
  (∀ (a : At) (acc : Accessor) (v : Word) (s : State), s.Admits acc Pg.SOL0 (Reg.SOL0_IMG_DATA % 0x400) → s.sol.pend = true →
    ∃ t, exec (.imageWindowWrite a acc v) s = .next t ∧ t.sol = s.sol ∧ t.errCode Pg.SOL0 = 0x1A04 ∧ s.SameBytes t) ∧
  (∀ (a : At) (acc : Accessor) (s : State), s.Admits acc Pg.SOL0 (Reg.SOL0_IMG_SWAP % 0x400) → s.sol.pend = false →
    ∃ t, exec (.imageSwap a acc) s = .next t ∧
      (imgValidate (s.feature 4) (solImage (s.at_ a).mem (1 - s.sol.active)) = none → s.mode ≠ .run →
        t.sol.active = 1 - s.sol.active ∧ t.sol.valid = true ∧ t.sol.pend = false) ∧
      (imgValidate (s.feature 4) (solImage (s.at_ a).mem (1 - s.sol.active)) = none → s.mode = .run →
        t.sol.active = s.sol.active ∧ t.sol.pend = true) ∧
      (∀ r, imgValidate (s.feature 4) (solImage (s.at_ a).mem (1 - s.sol.active)) = some r →
        t.sol.active = s.sol.active ∧ t.sol.pend = false ∧ t.errCode Pg.SOL0 = 0x1A03) ∧
      t.sol.data = s.sol.data ∧ s.SameBytes t) ∧
  (∀ (a : At) (acc : Accessor) (s : State), s.Admits acc Pg.SOL0 (Reg.SOL0_WARM_CTRL % 0x400) →
    ∃ t, exec (.cold a acc) s = .next t ∧ t.sol.cold = true ∧ t.sol.data = s.sol.data ∧ t.sol.active = s.sol.active ∧ t.sol.pend = s.sol.pend ∧ t.pageSeq Pg.SOL0 = s.pageSeq Pg.SOL0 + 1#32 ∧
      s.SameBytes t) ∧
  (∀ (a : At) (acc : Accessor) (v : Word) (k : Nat) (s : State), s.Admits acc Pg.SOL1 (Reg.SOL1_MEM_DATA % 0x400) → s.mode ≠ .run →
    rfld s.sol.regs Reg.SOL1_MEM_WIN 18 0 = k →
    ∃ t, exec (.sol1MemWrite a acc v) s = .next t ∧
      (∀ i (h : i < (wordBytes v).length), t.mem.byte (0x51000000 + 4 * k + i) = (wordBytes v)[i]) ∧
      s.SameBytesBut t (0x51000000 + 4 * k) 4 ∧ rget t.sol.regs Reg.SOL1_MEM_WIN = wd ((k + 1) % 524288) ∧
      t.sol.data = s.sol.data ∧ t.pageSeq Pg.SOL1 = s.pageSeq Pg.SOL1 + 1#32) ∧
  (∀ (a : At) (acc : Accessor) (v : Word) (s : State), s.Admits acc Pg.SOL1 (Reg.SOL1_MEM_DATA % 0x400) → s.mode = .run →
    ∃ t, exec (.sol1MemWrite a acc v) s = .next t ∧ t.sol = s.sol ∧ t.errCode Pg.SOL1 = 0x1A04 ∧ s.SameBytes t)

/-- While a bank's island runs, an open antenna, the current limit, the retry of the supply, and the loss and return of the front end's
lock show in GNSn_STAT, a limit seen first with 0x2611, an open antenna with 0x1610, and an unlock sends every channel with a
satellite to LOST. A code epoch of a channel stores its dump record and counts, and one served in ACQ moves to PULLIN on a peak; a
record that GNSC has not read before the next is reported with 0x1612. The timeouts of ACQ and PULLIN release the satellite and return
to ACQ. A measurement latch keeps only the phases of channels in TRACK. (R136, R139, R140, R141, R142, 06_gnss_baseband.md) -/
def Obligations.GnssBankCommands : Prop :=
  (∀ (a : At) (b : Fin 2) (mA : Nat) (s : State), s.pageUp (gnsPage b.val) = true → rbit s.gns.regs (rk Reg.GNS_CTRL b.val 0) 0 = true →
    mA < 5 →
    ∃ t, exec (.antennaOpen a b mA) s = .next t ∧ rget t.gns.regs (rk Reg.GNS_ANT_I b.val 0) = wd mA ∧
      rbit t.gns.regs (rk Reg.GNS_STAT b.val 0) 1 = true ∧ t.errCode (gnsPage b.val) = 0x1610 ∧
      t.gns = { s.gns with regs := t.gns.regs } ∧ t.shell = { (s.at_ a).shell with gns := t.gns } ∧ s.SameBytes t) ∧
  (∀ (a : At) (b : Fin 2) (held : Bool) (s : State), s.pageUp (gnsPage b.val) = true →
    rbit s.gns.regs (rk Reg.GNS_CTRL b.val 0) 0 = true →
    ∃ t, exec (.antennaShort a b held) s = .next t ∧ rget t.gns.regs (rk Reg.GNS_ANT_I b.val 0) = 120#32 ∧
      rbit t.gns.regs (rk Reg.GNS_STAT b.val 0) 2 = true ∧
      (rbit s.gns.regs (rk Reg.GNS_STAT b.val 0) 2 = false → t.errCode (gnsPage b.val) = 0x2611) ∧
      t.gns.supplyOff = (if held then s.gns.supplyOff ||| 2 ^ b.val else s.gns.supplyOff) ∧ t.gns.chans = s.gns.chans ∧
      t.shell = { (s.at_ a).shell with gns := t.gns } ∧ s.SameBytes t) ∧
  (∀ (a : At) (b : Fin 2) (s : State), s.pageUp (gnsPage b.val) = true → s.gns.supplyOff.testBit b.val = true →
    ∃ t, exec (.antennaSupplyRetry a b) s = .next t ∧ rbit t.gns.regs (rk Reg.GNS_STAT b.val 0) 2 = false ∧
      t.gns.supplyOff = s.gns.supplyOff ^^^ 2 ^ b.val ∧ t.gns.chans = s.gns.chans ∧
      t.shell = { (s.at_ a).shell with gns := t.gns } ∧ s.SameBytes t) ∧
  (∀ (a : At) (b : Fin 2) (s : State), s.pageUp (gnsPage b.val) = true →
    ∃ t, exec (.frontEndUnlock a b) s = .next t ∧ rbit t.gns.regs (rk Reg.GNS_STAT b.val 0) 0 = false ∧
      (∀ c, c < 24 → (t.gns.chan b.val c).state = (if (s.gns.chan b.val c).state = 0 then 0 else 4)) ∧
      (∀ c, c < 24 → t.gns.chan (1 - b.val) c = s.gns.chan (1 - b.val) c) ∧
      ((∀ c, c < 24 → (s.gns.chan b.val c).state = 0 ∨ (s.gns.chan b.val c).state = 4) → t.errCode (gnsPage b.val) = 0x3615) ∧
      t.shell = { (s.at_ a).shell with gns := t.gns } ∧ s.SameBytes t) ∧
  (∀ (a : At) (b : Fin 2) (s : State), s.pageUp (gnsPage b.val) = true →
    ∃ t, exec (.frontEndRelock a b) s = .next t ∧ rbit t.gns.regs (rk Reg.GNS_STAT b.val 0) 0 = true ∧
      t.gns = { s.gns with regs := t.gns.regs } ∧ t.shell = { (s.at_ a).shell with gns := t.gns } ∧ s.SameBytes t) ∧
  (∀ (a : At) (b : Fin 2) (c : Fin 24) (dump : List Word) (served : Bool) (s : State), s.works (gnsPage b.val) = true →
    s.grant 18 = true →
    ∃ t, exec (.codeEpoch a b c dump served) s = .next t ∧
      (∀ i (h : i < (wordsBytes ((upto 20).map (fun i => wordAt dump i))).length),
        t.mem.byte (dumpAddr b.val c.val + i) = (wordsBytes ((upto 20).map (fun i => wordAt dump i)))[i]) ∧
      s.SameBytesBut t (dumpAddr b.val c.val) 96 ∧
      (t.gns.chan b.val c.val).epochs = ((s.gns.chan b.val c.val).epochs + 1) % 4294967296 ∧
      (∀ d, d < 24 → (d ≠ c.val) → t.gns.chan b.val d = s.gns.chan b.val d) ∧
      (served = false → (t.gns.chan b.val c.val).unread = true ∧ (t.gns.chan b.val c.val).state = (s.gns.chan b.val c.val).state ∧
        ((s.gns.chan b.val c.val).unread = true → t.errCode (gnsPage b.val) = 0x1612)) ∧
      (served = true → s.works Pg.GNSC = true → rbit s.gns.regs (rk Reg.GNS_STAT b.val 0) 0 = true →
        (t.gns.chan b.val c.val).unread = false ∧
        ((s.gns.chan b.val c.val).state = 1 → (t.gns.chan b.val c.val).state = 1 ∨ (t.gns.chan b.val c.val).state = 2)) ∧
      t.shell = { (s.at_ a).shell with gns := t.gns }) ∧
  (∀ (a : At) (b : Fin 2) (c : Fin 24) (s : State), s.works (gnsPage b.val) = true → (s.gns.chan b.val c.val).state = 1 →
    ∃ t, exec (.acqTimeout a b c) s = .next t ∧ (t.gns.chan b.val c.val).state = 0 ∧ (t.gns.chan b.val c.val).prn = 0 ∧
      (∀ d, d < 24 → d ≠ c.val → t.gns.chan b.val d = s.gns.chan b.val d) ∧
      t.shell = { (s.at_ a).shell with gns := t.gns } ∧ s.SameBytes t) ∧
  (∀ (a : At) (b : Fin 2) (c : Fin 24) (s : State), s.works (gnsPage b.val) = true → (s.gns.chan b.val c.val).state = 2 →
    ∃ t, exec (.pullinTimeout a b c) s = .next t ∧ t.gns.chan b.val c.val = { s.gns.chan b.val c.val with state := 1 } ∧
      (∀ d, d < 24 → d ≠ c.val → t.gns.chan b.val d = s.gns.chan b.val d) ∧
      t.shell = { (s.at_ a).shell with gns := t.gns } ∧ s.SameBytes t) ∧
  (∀ (a : At) (phases : List (Nat × Nat × Word × Word)) (s : State), s.works Pg.GNSC = true →
    ∃ t, exec (.measurementLatch a phases) s = .next t ∧
      (∃ ms, t.gns.epoch = some ⟨(s.at_ a).tim.time, s.gns.stepped, ms⟩ ∧
        ∀ x, x ∈ ms → (s.gns.chan x.bank x.chan).state = 3 ∧ (x.bank, x.chan, x.cph, x.carph) ∈ phases) ∧
      t.gns.stepped = false ∧ t.gns.chans = s.gns.chans ∧ t.shell = { (s.at_ a).shell with gns := t.gns } ∧ s.SameBytes t)

/-- A PVT that starts with less than two blocks of output has no result and records 0x2660, otherwise it answers what the newest unused
epoch gives. A whole second begins a pulse of PPS OUT where it is enabled, and its end ends it. A capture begins where none of the
buffer's works is in progress and keeps its instant; its end stores header and samples in the buffer and nothing else; an export
pushes its packets in order and a fix clears its busy bit. (R143, R147, R151, R152, R153, R154, 06_gnss_baseband.md) -/
def Obligations.GnssSolutionAndSnapshotCommands : Prop :=
  (∀ (a : At) (idx : Nat) (x : Span) (s : State), (s.at_ a).Starts idx x → x.unit = 0x16 → x.opcode = 1 → x.dstLen < 2 →
    ∃ t, exec (.pvt a idx) s = .next t ∧ t.seq = s.seq.started idx x false (some (s.at_ a).tick) ∧ t.errCode Pg.GNSC = 0x2660 ∧
      t.gns.chans = s.gns.chans ∧ t.gns.epoch = s.gns.epoch ∧ s.SameBytes t) ∧
  (∀ (a : At) (idx : Nat) (x : Span) (s : State), (s.at_ a).Starts idx x → x.unit = 0x16 → x.opcode = 1 → 2 ≤ x.dstLen →
    ∃ t, exec (.pvt a idx) s = .next t ∧
      (s.at_ a).Answered t idx x
        (Gns.pvt (s.feature 9) (!s.grant 19) ((s.at_ a).tim.selected == 2) ((s.at_ a).handed idx x) s.gns) ∧
      t.seq = s.seq.started idx x true none ∧ t.gns.chans = s.gns.chans ∧
      ((rbit s.gns.regs Reg.GNSC_CTRL 0 = true → s.gns.epoch = none) →
        rbit t.gns.regs Reg.GNSC_STAT 7 = false ∧ t.gns.samples = []) ∧
      (rbit s.gns.regs Reg.GNSC_CTRL 0 = true → s.gns.epoch.isSome = true →
        rbit t.gns.regs Reg.GNSC_STAT 7 = true ∧ t.gns.epoch = none) ∧
      s.SameBytesBut t (s.hidden x.dst x.dstLen) 64 ∧
      t.shell = { (s.at_ a).shell with
        seq := t.seq
        gns := t.gns
        free := s.free + 1 }) ∧
  (∀ (a : At) (s : State), s.works Pg.GNSC = true → s.mode.active = true → rbit s.gns.regs Reg.GNSC_PPS_CFG 0 = true →
    rbit s.gns.regs Reg.GNSC_PPS_CFG 11 = false → s.gns.ppsAt = none →
    ∃ t, exec (.ppsPulse a) s = .next t ∧ t.gns.pps = true ∧ t.gns.ppsAt = some (s.at_ a).tim.time ∧ t.gns.regs = s.gns.regs ∧
      t.shell = { (s.at_ a).shell with gns := t.gns } ∧ s.SameBytes t) ∧
  (∀ (a : At) (s : State), rbit s.gns.regs Reg.GNSC_PPS_CFG 0 = false →
    ∃ t, exec (.ppsPulse a) s = .next t ∧ t.gns = s.gns ∧ (s.at_ a).SameShell t ∧ s.SameBytes t) ∧
  (∀ (a : At) (s : State), s.pageUp Pg.GNSC = true →
    ∃ t, exec (.ppsPulseEnd a) s = .next t ∧ t.gns = { s.gns with pps := false } ∧ t.shell = { (s.at_ a).shell with gns := t.gns } ∧
      s.SameBytes t) ∧
  (∀ (a : At) (acc : Accessor) (s : State), s.Admits acc Pg.GNSC (Reg.GNSC_SNAP_CTRL % 0x400) → s.gns.snapBusy = false →
    ∃ t, exec (.snapshotStart a acc) s = .next t ∧
      t.gns.capture = some ((s.at_ a).tim.time, rfld s.gns.regs Reg.GNSC_SNAP_CFG 6 0, rfld s.gns.regs Reg.GNSC_SNAP_CFG 8 7,
        (s.at_ a).epoch) ∧
      rbit t.gns.regs Reg.GNSC_SNAP_STAT 0 = true ∧ rget t.gns.regs Reg.GNSC_SNAP_T_L = lo32 (s.at_ a).tim.time ∧
      t.gns.chans = s.gns.chans ∧ t.pageSeq Pg.GNSC = s.pageSeq Pg.GNSC + 1#32 ∧ s.SameBytes t) ∧
  (∀ (a : At) (acc : Accessor) (s : State), s.Admits acc Pg.GNSC (Reg.GNSC_SNAP_CTRL % 0x400) → s.gns.snapBusy = true →
    s.gns.capture = none →
    ∃ t, exec (.snapshotStart a acc) s = .next t ∧ rbit t.gns.regs Reg.GNSC_SNAP_STAT 7 = true ∧ t.gns.capture = none ∧
      t.errCode Pg.GNSC = 0x1650 ∧ s.SameBytes t) ∧
  (∀ (a : At) (idx : Nat) (x : Span) (s : State), (s.at_ a).Starts idx x → x.unit = 0x18 → x.opcode = 1 → s.gns.snapBusy = false →
    ∃ t, exec (.snapcap a idx) s = .next t ∧ t.seq = s.seq.started idx x true none ∧
      t.gns.capture = some ((s.at_ a).tim.time, rfld s.gns.regs Reg.GNSC_SNAP_CFG 6 0, rfld s.gns.regs Reg.GNSC_SNAP_CFG 8 7,
        (s.at_ a).epoch) ∧ t.gns.chans = s.gns.chans ∧ s.SameBytes t) ∧
  (∀ (a : At) (samples : List Byte) (t0 : Int) (lenMs ant epoch : Nat) (s : State), s.pageUp Pg.GNSC = true →
    s.gns.capture = some (t0, lenMs, ant, epoch) →
    ∃ t, exec (.snapshotCaptureEnd a samples) s = .next t ∧ t.gns.capture = none ∧ rbit t.gns.regs Reg.GNSC_SNAP_STAT 0 = false ∧
      rbit t.gns.regs Reg.GNSC_SNAP_STAT 3 = true ∧ t.errCode Pg.GNSC = 0x0653 ∧
      (∀ i (h : i < samples.length), i < snapBytes lenMs ant → t.mem.byte (0x54000000 + 32 + i) = samples[i]) ∧
      (∀ i (h : i < (leBytes 4 0x5A7C5703).length), t.mem.byte (0x54000000 + i) = (leBytes 4 0x5A7C5703)[i]) ∧
      s.SameBytesBut t 0x54000000 (32 + snapBytes lenMs ant) ∧ t.shell = { (s.at_ a).shell with gns := t.gns }) ∧
  (∀ (a : At) (acc : Accessor) (s : State), s.Admits acc Pg.GNSC (Reg.GNSC_SNAP_CTRL % 0x400) → s.feature 10 = true →
    rbit s.gns.regs Reg.GNSC_SNAP_STAT 3 = true → s.gns.snapBusy = false →
    ∃ t, exec (.gnssExport a acc) s = .next t ∧ rbit t.gns.regs Reg.GNSC_SNAP_STAT 1 = true ∧ t.gns.exported = 0 ∧
      t.gns.capture = s.gns.capture ∧ s.SameBytes t) ∧
  (∀ (a : At) (s : State), s.pageUp Pg.GNSC = true → rbit s.gns.regs Reg.GNSC_SNAP_STAT 1 = true → s.grant 21 = true →
    s.islandUp 2 = true → s.gns.exported < snapPackets (s.at_ a).mem →
    ∃ t, exec (.snapshotExportEnd a 1) s = .next t ∧ t.gns.exported = s.gns.exported + 1 ∧
      t.fq.firkin (rfld s.gns.regs Reg.GNSC_SNAP_CFG 21 16) =
        (Fq.pushPacket (W.of s.fq) ⟨0x16, rfld s.gns.regs Reg.GNSC_SNAP_CFG 21 16, snapPacket (s.at_ a).mem s.gns.exported⟩).u.firkin
          (rfld s.gns.regs Reg.GNSC_SNAP_CFG 21 16) ∧ s.SameBytes t) ∧
  (∀ (a : At) (acc : Accessor) (s : State), s.Admits acc Pg.GNSC (Reg.GNSC_SNAP_CTRL % 0x400) →
    rbit s.gns.regs Reg.GNSC_SNAP_STAT 3 = true → s.gns.snapBusy = false →
    ∃ t, exec (.process a acc) s = .next t ∧
      (s.grant 19 = true → rbit t.gns.regs Reg.GNSC_SNAP_STAT 2 = true) ∧
      (s.grant 19 = false → rbit t.gns.regs Reg.GNSC_SNAP_STAT 2 = rbit s.gns.regs Reg.GNSC_SNAP_STAT 2 ∧ t.errCode Pg.GNSC = 0x2652) ∧
      t.gns.capture = s.gns.capture ∧ t.gns.chans = s.gns.chans ∧ s.SameBytes t) ∧
  (∀ (a : At) (s : State), s.pageUp Pg.GNSC = true → rbit s.gns.regs Reg.GNSC_SNAP_STAT 2 = true →
    ∃ t, exec (.snapshotFixDone a) s = .next t ∧ rbit t.gns.regs Reg.GNSC_SNAP_STAT 2 = false ∧
      t.gns = { s.gns with regs := t.gns.regs } ∧ t.shell = { (s.at_ a).shell with gns := t.gns } ∧ s.SameBytes t)

/-- For a task of the running image whose core works: its input copy ends its copying and gives it the next place in order; the end of a
running cycle puts the bytes it wrote into its core's data bank, stores the words of its output entries into the hidden halves of
their pairs and nothing else, marks the pairs written, and leaves the task idle, or stopped where a stop was asked; a run-time error
ends the cycle with its code and stores nothing, a fetch fault leaves the task FAULTED. STOP, START and CLR act on the task that
PRG_TSEL names. (R243, R245, R246, R247, R258, 11_cyclic_program.md) -/
def Obligations.TaskCommands : Prop :=
  (∀ (a : At) (i : Fin 48) (d : Task) (s : State), s.prg.defn i.val = some d → d.core < 3 → s.works (Pg.PRG + d.core) = true →
    (s.prg.task i.val).copying = true →
    ∃ t, exec (.taskInputCopyDone a i) s = .next t ∧ (t.prg.task i.val).copying = false ∧
      (t.prg.task i.val).order = s.prg.nextOrder ∧ t.prg.nextOrder = s.prg.nextOrder + 1 ∧
      (∀ j, j ≠ i.val → (t.prg.task j).copying = (s.prg.task j).copying) ∧ t.prg.banks = s.prg.banks ∧ t.prg.shadow = s.prg.shadow ∧
      (s.at_ a).SameShell t ∧ s.SameBytes t) ∧
  (∀ (a : At) (i : Fin 48) (d : Task) (writes : List (Nat × Byte)) (s : State), s.prg.defn i.val = some d →
    d.core < 3 → s.works (Pg.PRG + d.core) = true → (s.prg.task i.val).phase = .running → (s.prg.task i.val).again = false →
    ∃ t, exec (.taskCycleEnd a i writes) s = .next t ∧
      t.prg.banks = writes.foldl (fun b e => sset memDefault b (bankBase d.core s.prg.slot + e.1) e.2) s.prg.banks ∧
      (t.prg.task i.val).phase = (if (s.prg.task i.val).stopReq then .stopped else .idle) ∧
      (∀ e, e ∈ d.outMap → ∃ h, (e.blk, h) ∈ t.prg.written) ∧
      rget t.prg.regs (rk Reg.PRG_T_EXEC 0 i.val) = wd ((s.at_ a).tim.us - (s.prg.task i.val).released).toNat ∧
      (∀ b, (∀ e, e ∈ d.outMap → b < s.hidden e.blk e.half ∨ s.hidden e.blk e.half + 4 * e.count ≤ b) → t.mem.byte b = s.mem.byte b) ∧
      (s.at_ a).SameShell t) ∧
  (∀ (a : At) (i : Fin 48) (d : Task) (e : MapEntry) (writes : List (Nat × Byte)) (s : State), s.prg.defn i.val = some d →
    d.core < 3 → s.works (Pg.PRG + d.core) = true → (s.prg.task i.val).phase = .running → d.outMap = [e] →
    ∃ t, exec (.taskCycleEnd a i writes) s = .next t ∧
      (∀ k (h : k < (wordsBytes (outWords (Prg.progWrites d.core writes s.prg) d e)).length),
        t.mem.byte (s.hidden e.blk e.half + k) = (wordsBytes (outWords (Prg.progWrites d.core writes s.prg) d e))[k])) ∧
  (∀ (a : At) (i : Fin 48) (d : Task) (kind : Nat) (s : State), s.prg.defn i.val = some d → d.core < 3 → s.works (Pg.PRG + d.core) = true →
    (s.prg.task i.val).phase = .running → (s.prg.task i.val).again = false → (s.prg.task i.val).stopReq = false →
    ∃ t, exec (.taskRuntimeError a i kind) s = .next t ∧ (t.prg.task i.val).phase = .idle ∧
      rbit t.prg.regs (rk Reg.PRG_T_STAT 0 i.val) 4 = true ∧ t.errCode (Pg.PRG + d.core) = (if kind = 0 then 0x20C3 else 0x2B12) ∧
      t.prg.banks = s.prg.banks ∧ t.prg.written = s.prg.written ∧ (s.at_ a).SameShell t ∧ s.SameBytes t) ∧
  (∀ (a : At) (i : Fin 48) (d : Task) (s : State), s.prg.defn i.val = some d → d.core < 3 → s.works (Pg.PRG + d.core) = true →
    ∃ t, exec (.taskFetchFault a i) s = .next t ∧ (t.prg.task i.val).phase = .faulted ∧
      rbit t.prg.regs (rk Reg.PRG_STAT d.core 0) 1 = true ∧ t.errCode (Pg.PRG + d.core) = 0x40C6 ∧ t.prg.banks = s.prg.banks ∧
      (s.at_ a).SameShell t ∧ s.SameBytes t) ∧
  (∀ (a : At) (acc : Accessor) (i : Nat) (d : Task) (s : State), s.Admits acc Pg.PRG (Reg.PRG_T_CTRL % 0x400) →
    (rget s.prg.regs Reg.PRG_TSEL).toNat = i → i < 48 → s.prg.defn i = some d →
    ∃ t, exec (.stopTask a acc) s = .next t ∧
      ((s.prg.task i).phase = .idle → (t.prg.task i).phase = .stopped) ∧
      ((s.prg.task i).phase = .running ∨ (s.prg.task i).phase = .ready →
        (t.prg.task i).stopReq = true ∧ (t.prg.task i).phase = (s.prg.task i).phase) ∧
      (∀ j, j ≠ i → t.prg.task j = s.prg.task j) ∧ t.prg.banks = s.prg.banks ∧ s.SameBytes t) ∧
  (∀ (a : At) (acc : Accessor) (i : Nat) (d : Task) (s : State), s.Admits acc Pg.PRG (Reg.PRG_T_CTRL % 0x400) →
    (rget s.prg.regs Reg.PRG_TSEL).toNat = i → i < 48 → s.prg.defn i = some d → (s.prg.task i).phase = .stopped →
    ∃ t, exec (.startTask a acc) s = .next t ∧ (t.prg.task i) = { s.prg.task i with startReq := true } ∧
      (∀ j, j ≠ i → t.prg.task j = s.prg.task j) ∧ t.prg.banks = s.prg.banks ∧ s.SameBytes t) ∧
  (∀ (a : At) (acc : Accessor) (i : Nat) (s : State), s.Admits acc Pg.PRG (Reg.PRG_T_CTRL % 0x400) →
    (rget s.prg.regs Reg.PRG_TSEL).toNat = i → i < 48 →
    ∃ t, exec (.clrTaskStats a acc) s = .next t ∧ rget t.prg.regs (rk Reg.PRG_T_IDLE_MIN 0 i) = 0xFFFFFFFF#32 ∧
      rget t.prg.regs (rk Reg.PRG_T_EXEC_MAX 0 i) = 0#32 ∧ rget t.prg.regs (rk Reg.PRG_T_CNT 0 i) = 0#32 ∧
      rget t.prg.regs (rk Reg.PRG_T_TRIG 0 i) = 0#32 ∧ t.prg.tasks = s.prg.tasks ∧ s.SameBytes t)

/-- A retained save takes the shadow where none is in progress and follows it where one is; a save that ends well leaves a copy with the
next sequence number, one that fails leaves the copies and records 0x1B40. FORCE_COMMIT commits the entry composed at PRG_FRC_SEL.
CHECK and CHANGE move the state of the change where it may move and refuse it with 0x1B02 where not, ABORT ends it with reason 9, the
end of the check accepts the image or refuses it, the change point makes the accepted image the running one in the other slot with
0x0B03, and the expiry of the wait refuses with reason 7. (R250, R252, R254, R255, R256, R257, 11_cyclic_program.md) -/
def Obligations.RetainForceAndChangeCommands : Prop :=
  (∀ (a : At) (s : State), s.islandUp 1 = true → s.sup.dead = false → s.prg.image.isSome = true →
    ∃ t, exec (.retainSavePeriod a) s = .next t ∧
      (s.prg.saving = none → t.prg.saving = some s.prg.shadow ∧ rbit t.prg.regs Reg.PRG_RET_STAT 2 = true) ∧
      (s.prg.saving.isSome = true → t.prg = { s.prg with saveNext := true }) ∧ (s.at_ a).SameShell t ∧ s.SameBytes t) ∧
  (∀ (a : At) (acc : Accessor) (s : State), s.Admits acc Pg.PRG (Reg.PRG_RET_CTRL % 0x400) → s.islandUp 1 = true → s.sup.dead = false →
    s.prg.image.isSome = true →
    ∃ t, exec (.save a acc) s = .next t ∧ (s.prg.saving = none → t.prg.saving = some s.prg.shadow) ∧
      (s.prg.saving.isSome = true → t.prg.saving = s.prg.saving ∧ t.prg.saveNext = true) ∧
      t.pageSeq Pg.PRG = s.pageSeq Pg.PRG + 1#32 ∧ s.SameBytes t) ∧
  (∀ (a : At) (sh : List Host.Cell) (s : State), s.pageUp Pg.PRG = true → s.sup.dead = false → s.prg.saving = some sh →
    ∃ t, exec (.retainSaveDone a true) s = .next t ∧
      (t.prg.copyA = some ((match s.prg.image with | some im => im.imageId | none => 0),
          max (copySeq s.prg.copyA) (copySeq s.prg.copyB) + 1, sh) ∧ t.prg.copyB = s.prg.copyB ∨
        t.prg.copyB = some ((match s.prg.image with | some im => im.imageId | none => 0),
          max (copySeq s.prg.copyA) (copySeq s.prg.copyB) + 1, sh) ∧ t.prg.copyA = s.prg.copyA) ∧
      t.prg.saving = (if s.prg.saveNext then some s.prg.shadow else none) ∧ (s.at_ a).SameShell t ∧ s.SameBytes t) ∧
  (∀ (a : At) (sh : List Host.Cell) (s : State), s.pageUp Pg.PRG = true → s.sup.dead = false → s.prg.saving = some sh →
    ∃ t, exec (.retainSaveDone a false) s = .next t ∧ t.prg.copyA = s.prg.copyA ∧ t.prg.copyB = s.prg.copyB ∧
      t.errCode Pg.PRG = 0x1B40 ∧ (s.at_ a).SameShell t ∧ s.SameBytes t) ∧
  (∀ (a : At) (acc : Accessor) (v : Word) (i : Nat) (s : State), s.Admits acc Pg.PRG (Reg.PRG_FRC_WORD % 0x400) →
    (rget s.prg.regs Reg.PRG_FRC_SEL).toNat = i → i < 1024 →
    ∃ t, exec (.forceCommit a acc v) s = .next t ∧
      sget forceDefault t.prg.forces i = ⟨rfld s.prg.regs (rk Reg.PRG_FRC_PAIR 0 i) 18 0, bits v 15 0, bit v 16,
        rget s.prg.regs (rk Reg.PRG_FRC_MASK 0 i), rget s.prg.regs (rk Reg.PRG_FRC_VAL 0 i), bit v 31, false⟩ ∧
      (∀ j, j ≠ i → sget forceDefault t.prg.forces j = sget forceDefault s.prg.forces j) ∧
      rget t.prg.regs Reg.PRG_FRC_CNT = wd t.prg.forceCount ∧ (bit v 31 = true → t.errCode Pg.PRG = 0x1B20) ∧
      (bit v 31 = false → (sget forceDefault s.prg.forces i).en = true → t.errCode Pg.PRG = 0x0B21) ∧ t.prg.banks = s.prg.banks ∧
      s.SameBytes t) ∧
  (∀ (a : At) (acc : Accessor) (s : State), s.Admits acc Pg.PRG (Reg.PRG_CHG_CTRL % 0x400) → s.feature 11 = true →
    ∃ t, exec (.check a acc) s = .next t ∧ (s.mode = .run → t.prg.chgState = 1 ∧ t.prg.other = none) ∧
      (s.mode ≠ .run → t.prg.chgState = 5 ∧ rfld t.prg.regs Reg.PRG_CHG_STAT 7 4 = 8 ∧ t.errCode Pg.PRG = 0x1B02) ∧
      t.prg.image = s.prg.image ∧ s.SameBytes t) ∧
  (∀ (a : At) (acc : Accessor) (s : State), s.Admits acc Pg.PRG (Reg.PRG_CHG_CTRL % 0x400) → s.feature 11 = true →
    ∃ t, exec (.change a acc) s = .next t ∧
      (s.mode = .run → s.prg.chgState = 2 → t.prg.chgState = 3 ∧ rfld t.prg.regs Reg.PRG_CHG_STAT 31 16 = 0 ∧ t.prg.other = s.prg.other) ∧
      (s.mode ≠ .run ∨ s.prg.chgState ≠ 2 → t.prg.chgState = 5 ∧ rfld t.prg.regs Reg.PRG_CHG_STAT 7 4 = 8 ∧ t.errCode Pg.PRG = 0x1B02) ∧
      t.prg.image = s.prg.image ∧ s.SameBytes t) ∧
  (∀ (a : At) (acc : Accessor) (s : State), s.Admits acc Pg.PRG (Reg.PRG_CHG_CTRL % 0x400) →
    ∃ t, exec (.abort a acc) s = .next t ∧
      (s.prg.chgState = 1 ∨ s.prg.chgState = 3 → t.prg.chgState = 5 ∧ rfld t.prg.regs Reg.PRG_CHG_STAT 7 4 = 9) ∧
      (s.prg.chgState ≠ 1 → s.prg.chgState ≠ 3 → t.prg.chgState = s.prg.chgState ∧ t.prg.other = s.prg.other) ∧ t.prg.image = s.prg.image ∧ s.SameBytes t) ∧
  (∀ (a : At) (new : Image) (s : State), s.pageUp Pg.PRG = true → s.mode = .run → s.prg.other = some new → (s.at_ a).tick = 0 →
    s.prg.atChangePoint s.seq.count = true →
    ∃ t, exec (.changePoint a) s = .next t ∧ t.prg.image = some new ∧ t.prg.slot = (!s.prg.slot) ∧ t.prg.chgState = 4 ∧
      t.prg.other = none ∧ t.errCode Pg.PRG = 0x0B03 ∧
      (s.prg.saving = none → t.prg.saving = some t.prg.shadow) ∧ (s.at_ a).SameShell t ∧ s.SameBytes t) ∧
  (∀ (a : At) (s : State), s.pageUp Pg.PRG = true → s.prg.waitExpired = true →
    ∃ t, exec (.changeWaitExpiry a) s = .next t ∧ t.prg.chgState = 5 ∧ rfld t.prg.regs Reg.PRG_CHG_STAT 7 4 = 7 ∧
      t.errCode Pg.PRG = 0x1B02 ∧ t.prg.image = s.prg.image ∧ (s.at_ a).SameShell t ∧ s.SameBytes t) ∧
  (∀ (a : At) (s : State), s.pageUp Pg.PRG = true → s.prg.chgState = 1 → s.sup.dead = false →
    ∃ t, exec (.changeCheckDone a) s = .next t ∧
      ((⟨(s.at_ a).mem, runSlotBase (!s.prg.slot)⟩ : ImageAt).firstFailure (s.at_ a).imageKeys s.seq.lenUs s.fq.regs ≠ 0 →
        t.prg.chgState = 5 ∧ t.prg.other = none ∧ t.errCode Pg.PRG = 0x1B02 ∧ s.SameBytes t) ∧
      ((⟨(s.at_ a).mem, runSlotBase (!s.prg.slot)⟩ : ImageAt).firstFailure (s.at_ a).imageKeys s.seq.lenUs s.fq.regs = 0 →
        reportCount t.prg.report 4 = 0 →
        t.prg.chgState = 2 ∧ t.prg.other = some (⟨(s.at_ a).mem, runSlotBase (!s.prg.slot)⟩ : ImageAt).image ∧
        ∀ b, t.mem.byte b =
          ((⟨(s.at_ a).mem, runSlotBase (!s.prg.slot)⟩ : ImageAt).loadInto (!s.prg.slot) (s.at_ a).mem).byte b) ∧
      t.prg.image = s.prg.image ∧ (s.at_ a).SameShell t)

/-- A frame that PCRC, VERSION or BLEN fails is counted and reported with 0x1C10 and changes nothing else; an accepted frame is
remembered, so that no copy of it is accepted again, and forwarded on the other port while hops remain. Of the accepted ones a
heartbeat becomes the last heard of its member, a verdict shows in CHN_VERDICT and makes its successor ACTIVE, a publication part
fills the hidden half of the entry's mirror pair, outputs under the highest stone wait for the next LATCH, inputs wait for the station
record, samples reach FLT, a datagram reaches FUS, state parts are kept by the joiner, an operation acts on the own registers and is
acknowledged, and an acknowledgement marks its target. (R262, R263, R264, R267, R268, R270, R272, R273, R275, R282, R284,
12_chain_and_stone.md) -/
def Obligations.ChainFramesAndReceives : Prop :=
  (∀ (a : At) (port : Fin 2) (bs : List Byte) (s : State), s.pageUp Pg.CHN = true →
    ((s.at_ a).chnEnv.on = true ∨ (s.at_ a).chnEnv.halt = true) → parseFrame bs = none →
    ∀ c, c ∈ chainReceives a port bs → ∃ t, exec c s = .next t ∧ t.errCode Pg.CHN = 0x1C10 ∧
      rfld t.chn.regs Reg.CHN_CNT_BAD 15 0 = satInc 16 (rfld s.chn.regs Reg.CHN_CNT_BAD 15 0) ∧
      t.chn = { s.chn with
        regs := t.chn.regs
        fault := t.chn.fault } ∧
      t.shell = { (s.at_ a).shell with chn := t.shell.chn } ∧ s.SameBytes t) ∧
  (∀ (a : At) (port : Fin 2) (bs : List Byte) (f : ChainFrame) (s : State), (s.at_ a).Accepts bs f →
    ∀ c, c ∈ chainReceives a port bs → ∃ t, exec c s = .next t ∧ t.chn.first f.origin f.fseq = false ∧
      (f.hops ≠ 0 → Emit.eth (1 - port.val) (setAt bs 3 (BitVec.ofNat 8 (f.hops - 1))) ∈ t.outbox)) ∧
  (∀ (a : At) (port : Fin 2) (bs : List Byte) (f : ChainFrame) (s : State), (s.at_ a).Accepts bs f → f.subtype = 1 →
    f.body.length = 48 →
    ∃ t, exec (.heartbeatReceive a port bs) s = .next t ∧ (t.chn.member f.origin).last = some (readHeartbeat f port.val) ∧
      ((s.mode = .run → f.fno = wd ((s.at_ a).chnEnv.expected s.chn.window).1 ∧ ∀ j, s.chn.judged = some j → f.fno ≠ wd j) →
        ∃ l, (t.chn.member f.origin).heard = readHeartbeat f port.val :: l) ∧
      (∀ b, b ≠ f.origin → t.chn.member b = s.chn.member b) ∧ t.shell = { (s.at_ a).shell with chn := t.shell.chn } ∧ s.SameBytes t) ∧
  (∀ (a : At) (port : Fin 2) (bs : List Byte) (f : ChainFrame) (s : State), (s.at_ a).Accepts bs f → f.subtype = 2 →
    ∃ t, exec (.verdictReceive a port bs) s = .next t ∧
      rget t.chn.regs Reg.CHN_VERDICT = wd ((readVerdict f.body).failed + 256 * (readVerdict f.body).successor +
        0x10000 * ((readVerdict f.body).reason % 8)) ∧
      rget t.chn.regs Reg.CHN_VERDICT_FNO = (readVerdict f.body).fno ∧
      ((readVerdict f.body).successor = s.chn.base → s.chn.role = 2 → s.chn.eMax < 0xFFFFFF → f.stone.toNat < 0xFFFFFF00 →
        t.chn.role = 1 ∧ 256 ≤ t.chn.stone.toNat) ∧
      t.shell = { (s.at_ a).shell with chn := t.shell.chn } ∧ s.SameBytes t) ∧
  (∀ (a : At) (port : Fin 2) (bs : List Byte) (f : ChainFrame) (n blk len : Nat) (s : State), (s.at_ a).Accepts bs f → f.subtype = 3 →
    n = byteAt f.body 0 → s.chn.pub n = (blk, len, true) → n < 8 → len ≠ 0 → s.mode = .run → s.chn.role ≠ 1 →
    1920 * byteAt f.body 1 + (f.body.drop 8).length ≤ 32 * len →
    ∃ t, exec (.pubReceive a port bs) s = .next t ∧
      (∀ i (h : i < (f.body.drop 8).length), t.mem.byte (s.hidden (blk + 2 * len) len + 1920 * byteAt f.body 1 + i) = (f.body.drop 8)[i]) ∧
      s.SameBytesBut t (s.hidden (blk + 2 * len) len + 1920 * byteAt f.body 1) (f.body.drop 8).length ∧
      (∃ p, p ∈ t.chn.pubParts ∧ p.1 = n ∧ p.2.1 = be32 f.body 4 ∧ byteAt f.body 1 ∈ p.2.2.2) ∧
      t.shell = { (s.at_ a).shell with chn := t.shell.chn }) ∧
  (∀ (a : At) (port : Fin 2) (bs : List Byte) (f : ChainFrame) (s : State), (s.at_ a).Accepts bs f → f.subtype = 4 → s.chn.role = 4 →
    ∃ t, exec (.outputReceive a port bs) s = .next t ∧
      ((s.chn.top s.seq.count).toNat ≤ f.stone.toNat →
        t.chn.output = some (f.stone, readBeWords (f.body.length / 4) f.body)) ∧
      (f.stone.toNat < (s.chn.top s.seq.count).toNat → t.chn.output = s.chn.output) ∧
      t.shell = { (s.at_ a).shell with chn := t.shell.chn } ∧ s.SameBytes t) ∧
  (∀ (a : At) (port : Fin 2) (bs : List Byte) (f : ChainFrame) (s : State), (s.at_ a).Accepts bs f → f.subtype = 5 →
    f.body.length = 156 →
    ∃ t, exec (.inputReceive a port bs) s = .next t ∧ (f.origin, f.fno, readBeWords 39 f.body) ∈ t.chn.inputs ∧
      t.shell = { (s.at_ a).shell with chn := t.shell.chn } ∧ s.SameBytes t) ∧
  (∀ (a : At) (port : Fin 2) (bs : List Byte) (f : ChainFrame) (x : Sample) (k : Nat) (s : State), (s.at_ a).Accepts bs f →
    f.subtype = 6 → readSamples f = [x] → s.islandUp 5 = true → hdrEnabled s.hdr Pg.FLT = true → s.flt.takers x = [k] →
    s.flt.inRate < 1000000 → (s.flt.stream k).lastTake = none →
    ∃ t, exec (.sampleReceive a port bs) s = .next t ∧
      t.flt.stream k = { s.flt.stream k with
        wait := insertWaiting (s.flt.stream k).wait ⟨x.stamp + 1000 * (rfld s.flt.regs (rk Reg.FLT_S_DLV 0 k) 19 0 : Int),
          x.stamp - 1000 * (rfld s.flt.regs (rk Reg.FLT_S_LAT 0 k) 19 0 : Int), x.value⟩ } ∧
      (∀ j, j ≠ k → t.flt.stream j = s.flt.stream j) ∧ t.shell = { (s.at_ a).shell with chn := t.shell.chn } ∧ s.SameBytes t) ∧
  (∀ (a : At) (port : Fin 2) (bs d : List Byte) (f : ChainFrame) (k : Nat) (s : State), (s.at_ a).Accepts bs f → f.subtype = 7 →
    d = sliceB f.body 16 (be16 f.body 12) → s.works Pg.FUS0 = true → s.feature 7 = true → rbit s.fus.regs Reg.FUS0_CTRL 0 = true →
    s.fus.checkDatagram (beNat (sliceB f.body 8 4)) d = .inr k → bit s.fus.srcSel k = true → bits (s.fus.cfg k) 23 16 = f.origin →
    1000 * s.seq.startUs ≤ signed 64 (beNat (sliceB f.body 0 8)) →
    (∀ e, s.fus.last.find? (fun e => e.1 == k) = some e → (beNat (sliceB d 20 4) + 4294967296 - e.2) % 4294967296 = 1) →
    (if s.fus.rateFno = s.seq.count then s.fus.ratePts else 0) + pdCount d ≤ pointAllowance s.seq.lenUs →
    ∃ t, exec (.datagramReceive a port bs) s = .next t ∧
      t.fus.pool = s.fus.pool ++ [⟨k, signed 64 (beNat (sliceB f.body 0 8)), sliceB d 28 (8 * pdCount d)⟩] ∧
      t.shell = { (s.at_ a).shell with
        chn := t.shell.chn
        fus := t.fus } ∧ s.SameBytes t) ∧
  (∀ (a : At) (port : Fin 2) (bs : List Byte) (f : ChainFrame) (s : State), (s.at_ a).Accepts bs f → f.subtype = 8 →
    byteAt f.body 0 = s.chn.base → byteAt f.body 1 ≠ 0x15 → s.chn.role = 2 → s.chn.synced = false →
    ∃ t, exec (.stateReceive a port bs) s = .next t ∧
      t.chn.sync = some (s.seq.count - s.seq.count % 4294967296 + (be32 f.body 8).toNat) ∧
      (∃ p, p ∈ t.chn.parts ∧ p.unit = byteAt f.body 1 ∧ (be16 f.body 2, f.body.drop 12) ∈ p.got) ∧
      t.shell = { (s.at_ a).shell with chn := t.shell.chn } ∧ s.SameBytes t) ∧
  (∀ (a : At) (port : Fin 2) (bs : List Byte) (f : ChainFrame) (s : State), (s.at_ a).Accepts bs f → f.subtype = 9 →
    ∃ t, exec (.opReceive a port bs) s = .next t ∧
      (byteAt f.body 0 = 1 → rget t.seq.regs Reg.SEQ_SWAP_AT = wd (beNat (sliceB f.body 4 8))) ∧
      (byteAt f.body 0 = 2 → rget t.prg.regs Reg.PRG_CHG_AT = wd (beNat (sliceB f.body 4 8)) ∧
        (s.feature 11 = true → s.mode = .run → s.prg.chgState = 2 → t.prg.chgState = 3)) ∧
      (∃ g : ChainFrame, g.subtype = 10 ∧ g.origin = s.chn.base ∧ byteAt g.body 0 = byteAt f.body 0 ∧
        byteAt g.body 1 = byteAt f.body 1 ∧ Emit.eth 0 (buildFrame g) ∈ t.outbox ∧ Emit.eth 1 (buildFrame g) ∈ t.outbox) ∧
      s.SameBytes t) ∧
  (∀ (a : At) (port : Fin 2) (bs : List Byte) (f : ChainFrame) (s : State), (s.at_ a).Accepts bs f → f.subtype = 10 →
    byteAt f.body 0 = rfld s.chn.regs Reg.CHN_OP_STAT 15 8 → byteAt f.body 1 = s.chn.opId → s.chn.opBusy = true →
    rbit s.chn.regs (baseCell Reg.CHN_OP_TGT f.origin) (f.origin % 32) = true →
    ∃ t, exec (.ackReceive a port bs) s = .next t ∧
      (byteAt f.body 2 = 0 → rbit t.chn.regs (baseCell Reg.CHN_OP_ACK f.origin) (f.origin % 32) = true) ∧
      (byteAt f.body 2 ≠ 0 → rbit t.chn.regs (baseCell Reg.CHN_OP_NAK f.origin) (f.origin % 32) = true ∧
        rbit t.chn.regs Reg.CHN_OP_STAT 3 = true) ∧
      t.shell = { (s.at_ a).shell with chn := t.shell.chn } ∧ s.SameBytes t)

/-- A HEARTBEAT that starts in a Chain sends the heartbeat of the fathom in progress and keeps it for the judgment; a MIRROR sends a frame
from an ACTIVE or IO member and completes at START elsewhere. The judgment of a fathom marks present every member whose heartbeat of
that fathom was heard and counts the misses of the others. A sample tick keeps the samples not yet due, the mirror publication
exchanges the pairs whose parts are complete, GO starts an operation with its targets, its timeout ends it, CLR clears the counts and
REJOIN makes a synced STANDBY unsynced. (R266, R267, R268, R270, R271, R282, R284, R286, 12_chain_and_stone.md) -/
def Obligations.ChainSpansJudgmentAndOperations : Prop :=
  (∀ (a : At) (idx : Nat) (x : Span) (s : State), (s.at_ a).Starts idx x → x.unit = 0x20 → x.opcode = 2 →
    ∃ t, exec (.heartbeat a idx) s = .next t ∧ t.seq = s.seq.started idx x true none ∧
      (∃ h, t.chn.own = h :: s.chn.own.take 3 ∧ h.fno = wd s.seq.count ∧ h.role = s.chn.role ∧ h.stone = s.chn.stone ∧
        h.fault = s.chn.fault) ∧
      ((s.at_ a).chnEnv.on = true → t.chn.fseq = (s.chn.fseq + 1) % 65536 ∧
        ∃ b, Emit.eth 0 b ∈ t.outbox ∧ Emit.eth 1 b ∈ t.outbox) ∧
      t.chn.members = s.chn.members ∧ s.SameBytes t) ∧
  (∀ (a : At) (idx : Nat) (x : Span) (s : State), (s.at_ a).Starts idx x → x.unit = 0x20 → x.opcode = 1 →
    ∃ t, exec (.mirror a idx) s = .next t ∧
      (s.chn.role = 1 ∨ s.chn.role = 4 → t.seq = s.seq.started idx x true none ∧
        ((s.at_ a).chnEnv.on = true → t.chn.fseq = (s.chn.fseq + 1) % 65536)) ∧
      (s.chn.role ≠ 1 → s.chn.role ≠ 4 → t.seq = s.seq.started idx x true (some (s.at_ a).tick) ∧ t.chn.fseq = s.chn.fseq) ∧
      t.chn.members = s.chn.members ∧ s.SameBytes t) ∧
  (∀ (a : At) (f : Nat) (s : State), s.works Pg.CHN = true → (s.at_ a).chnEnv.on = true → s.mode = .run →
    f = (s.at_ a).chnEnv.judgeable s.chn.window → (∀ j, s.chn.judged = some j → j < f) → (s.chn.members.map (·.1)).Nodup →
    ∃ t, exec (.judgment a) s = .next t ∧ t.chn.judged = some f ∧
      (∀ b, b ∈ s.chn.members.map (·.1) →
        (∀ h, (s.chn.member b).heard.find? (fun h => h.fno == wd f) = some h →
          (t.chn.member b).now = true ∧ (t.chn.member b).missRun = 0 ∧ (t.chn.member b).last = some h) ∧
        ((s.chn.member b).heard.find? (fun h => h.fno == wd f) = none →
          (t.chn.member b).now = false ∧ (t.chn.member b).missRun = min ((s.chn.member b).missRun + 1) 255) ∧
        (t.chn.member b).before = (s.chn.member b).now) ∧
      t.shell = { (s.at_ a).shell with chn := t.shell.chn } ∧ s.SameBytes t) ∧
  (∀ (a : At) (s : State), s.works Pg.CHN = true →
    ∃ t, exec (.sampleTick a) s = .next t ∧
      t.chn.samples = s.chn.samples.filter (fun x => decide ((s.at_ a).tim.time ≤ x.2.stamp)) ∧
      t.chn.members = s.chn.members ∧ t.shell = { (s.at_ a).shell with chn := t.shell.chn } ∧ s.SameBytes t) ∧
  (∀ (a : At) (s : State), s.works Pg.CHN = true → (s.at_ a).chnEnv.on = true → s.mode = .run → s.chn.role ≠ 1 →
    ∃ t, exec (.mirrorPublication a) s = .next t ∧ t.chn.pubParts = [] ∧
      t.second = (s.chn.pubs.filter (s.chn.pubComplete s.seq.count)).foldl
        (fun sec n => pairSwap sec ((s.chn.pub n).1 + 2 * (s.chn.pub n).2.1) (s.chn.pub n).2.1) s.second ∧
      t.chn.members = s.chn.members ∧ s.SameBytes t) ∧
  (∀ (a : At) (acc : Accessor) (s : State), s.Admits acc Pg.CHN (Reg.CHN_OP_GO % 0x400) → s.chn.opBusy = false →
    ∃ t, exec (.go a acc) s = .next t ∧ t.chn.opId = (s.chn.opId + 1) % 256 ∧ t.chn.opFno = s.seq.count ∧
      rfld t.chn.regs Reg.CHN_OP_STAT 15 8 = rfld s.chn.regs Reg.CHN_OP_CODE 7 0 ∧
      (∀ b, b ∈ s.chn.targets → b < 256 → rbit t.chn.regs (baseCell Reg.CHN_OP_TGT b) (b % 32) = true) ∧
      t.chn.members = s.chn.members ∧ s.SameBytes t) ∧
  (∀ (a : At) (acc : Accessor) (s : State), s.Admits acc Pg.CHN (Reg.CHN_OP_GO % 0x400) → s.chn.opBusy = true →
    ∃ t, exec (.go a acc) s = .next t ∧ t.chn.opId = s.chn.opId ∧ t.chn.opBusy = true ∧ t.errCode Pg.CHN = 0x1C31 ∧ s.SameBytes t) ∧
  (∀ (a : At) (s : State), s.works Pg.CHN = true → s.chn.opBusy = true → s.chn.opFno + 4 ≤ s.seq.count →
    ∃ t, exec (.chainOpTimeout a) s = .next t ∧ t.chn.opBusy = false ∧ rbit t.chn.regs Reg.CHN_OP_STAT 1 = true ∧
      t.chn.members = s.chn.members ∧ t.shell = { (s.at_ a).shell with chn := t.shell.chn } ∧ s.SameBytes t) ∧
  (∀ (a : At) (acc : Accessor) (s : State), s.Admits acc Pg.CHN (Reg.CHN_CTRL % 0x400) →
    ∃ t, exec (.clr a acc) s = .next t ∧ rget t.chn.regs Reg.CHN_CNT_BAD = 0#32 ∧ rfld t.chn.regs Reg.CHN_ROUND 31 16 = 0 ∧
      rfld t.chn.regs Reg.CHN_DISP 31 16 = 0 ∧ t.chn.members = s.chn.members ∧ t.chn.role = s.chn.role ∧
      t.pageSeq Pg.CHN = s.pageSeq Pg.CHN + 1#32 ∧ s.SameBytes t) ∧
  (∀ (a : At) (acc : Accessor) (s : State), s.Admits acc Pg.CHN (Reg.CHN_CTRL % 0x400) → s.chn.role = 2 → s.chn.synced = true →
    ∃ t, exec (.rejoin a acc) s = .next t ∧ t.chn.synced = false ∧ t.chn.joinState = 1 ∧ t.chn.sync = none ∧ t.chn.role = 2 ∧
      t.chn.members = s.chn.members ∧ s.SameBytes t)

/-- With PTP working, a one-step Sync of the parent on the port that follows it gives the offset from the master, which steers module time
when PTP is the source to select; a two-step one waits for its Follow_Up. An Announce becomes the one held for its port and the best
one names the parent, and the receipt timeout drops it. A peer delay request is answered, an answer in time gives the link's delay. A
message other than peer delay that enters a Chain port leaves on the other, a Sync with its residence time added. A clock that
transmits sends Sync and Announce on both Chain ports, and a delay request is sent and remembered. (R290, R294, R295, R296,
13_time_and_networks.md) -/
def Obligations.PtpCommands : Prop :=
  (∀ (a : At) (port : Fin 4) (m : List Byte) (s : State), s.works Pg.PTP = true → s.ptp.takes port.val m = true →
    s.ptp.parent = some (ptpSource m) → rfld s.ptp.regs Reg.PTP_STAT 2 0 = port.val + 1 → ptpType m = 0 → ptpTwoStep m = false →
    s.tim.pend = none →
    ∃ t, exec (.ptpSyncReceive a port m) s = .next t ∧
      t.ptp.syncLast = some ((s.at_ a).ingressAt port.val - ptpStamp m - ptpCorrection m, (s.at_ a).epoch) ∧
      rget t.ptp.regs Reg.PTP_OFS =
        satW ((s.at_ a).ingressAt port.val - ptpStamp m - ptpCorrection m - s.ptp.delay port.val) ∧
      (((s.at_ a).tim.setValid 1 true).choose = 1 →
        ((s.at_ a).ingressAt port.val - ptpStamp m - ptpCorrection m - s.ptp.delay port.val).natAbs ≤ 1000000 →
        t.tim.selected = 1 ∧ rget t.tim.regs Reg.TIM_OFS_LAST =
          satW ((s.at_ a).ingressAt port.val - ptpStamp m - ptpCorrection m - s.ptp.delay port.val)) ∧
      1 ∈ t.tim.valid ∧ s.SameBytes t) ∧
  (∀ (a : At) (port : Fin 4) (m : List Byte) (s : State), s.works Pg.PTP = true → s.ptp.takes port.val m = true →
    s.ptp.parent = some (ptpSource m) → rfld s.ptp.regs Reg.PTP_STAT 2 0 = port.val + 1 → ptpType m = 0 → ptpTwoStep m = true →
    ∃ t, exec (.ptpSyncReceive a port m) s = .next t ∧
      t.ptp.syncWait = some (ptpSeq m, (s.at_ a).ingressAt port.val, ptpCorrection m, (s.at_ a).epoch) ∧
      t.ptp.syncLast = s.ptp.syncLast ∧ t.shell = { (s.at_ a).shell with ptp := t.ptp } ∧ s.SameBytes t) ∧
  (∀ (a : At) (port : Fin 4) (m : List Byte) (s : State), s.works Pg.PTP = true → s.ptp.takes port.val m = true → ptpType m = 11 →
    ∃ t, exec (.ptpAnnounceReceive a port m) s = .next t ∧
      t.ptp.announces = ⟨port.val, announceVector port.val m, ptpSource m⟩ :: s.ptp.announces.filter (fun x => x.port != port.val) ∧
      (rbit s.ptp.regs Reg.PTP_CFG 8 = false → t.ptp.parent = t.ptp.best.map (·.source)) ∧
      t.shell = { (s.at_ a).shell with
        ptp := t.ptp
        tim := t.tim } ∧ s.SameBytes t) ∧
  (∀ (a : At) (port : Fin 4) (s : State), s.works Pg.PTP = true →
    ∃ t, exec (.ptpAnnounceReceiptTimeout a port) s = .next t ∧
      t.ptp.announces = s.ptp.announces.filter (fun x => x.port != port.val) ∧
      (rbit s.ptp.regs Reg.PTP_CFG 8 = false → t.ptp.parent = t.ptp.best.map (·.source)) ∧
      t.shell = { (s.at_ a).shell with
        ptp := t.ptp
        tim := t.tim } ∧ s.SameBytes t) ∧
  (∀ (a : At) (port : Fin 4) (turn : Nat) (m : List Byte) (s : State), s.works Pg.PTP = true → s.ptp.takes port.val m = true →
    ptpType m = 2 →
    ∃ t, exec (.ptpDelayExchange a port turn m) s = .next t ∧
      Emit.eth port.val (ptpMessage s.ptp.domain 3 0x200 0 (s.at_ a).clockIdent port.val (ptpSeq m)
        (stampBytes ((s.at_ a).ingressAt port.val) ++ sliceB m 20 10)) ∈ t.outbox ∧
      Emit.eth port.val (ptpMessage s.ptp.domain 10 0 (ptpCorrection m) (s.at_ a).clockIdent port.val (ptpSeq m)
        (stampBytes ((s.at_ a).egressAt port.val + turn) ++ sliceB m 20 10)) ∈ t.outbox ∧
      t.ptp.requests = s.ptp.requests ∧ t.shell = { (s.at_ a).shell with ptp := t.ptp } ∧ s.SameBytes t) ∧
  (∀ (a : At) (port : Fin 4) (turn : Nat) (m : List Byte) (t1 : Int) (s : State), s.works Pg.PTP = true →
    s.ptp.takes port.val m = true → ptpType m = 3 → ptpTwoStep m = false →
    s.ptp.requests.find? (fun r => r.1 == port.val && r.2.1 == ptpSeq m) = some (port.val, ptpSeq m, t1, (s.at_ a).epoch) →
    ∃ t, exec (.ptpDelayExchange a port turn m) s = .next t ∧
      rget t.ptp.regs (rk Reg.PTP_P_LINKDLY 0 port.val) =
        wi (max 0 (Int.fdiv ((s.at_ a).ingressAt port.val - t1 - ptpCorrection m) 2)) ∧
      t.ptp.requests = s.ptp.requests.filter (fun r => r.1 != port.val) ∧ t.shell = { (s.at_ a).shell with ptp := t.ptp } ∧
      s.SameBytes t) ∧
  (∀ (a : At) (port : Fin 2) (residence : Nat) (m : List Byte) (s : State), s.works Pg.PTP = true → 34 ≤ m.length →
    ptpType m ≠ 2 → ptpType m ≠ 3 → ptpType m ≠ 10 → s.ptp.forwarded = [] →
    ∃ t, exec (.ptpTransparentForward a port residence m) s = .next t ∧
      (ptpType m ≠ 0 → Emit.eth (1 - port.val) m ∈ t.outbox ∧ rget t.ptp.regs Reg.PTP_TC_CNT = rget s.ptp.regs Reg.PTP_TC_CNT) ∧
      (ptpType m = 0 → rget t.ptp.regs Reg.PTP_TC_CNT = rget s.ptp.regs Reg.PTP_TC_CNT + 1#32 ∧
        Emit.eth (1 - port.val) (m.take 8 ++ beBytes 8 ((beNat (sliceB m 8 8) +
          ((residence + sw (rget s.ptp.regs (rk Reg.PTP_P_LINKDLY 0 port.val))) * 65536 % 18446744073709551616).toNat)
            % 18446744073709551616) ++ m.drop 16) ∈ t.outbox) ∧
      t.shell = { (s.at_ a).shell with ptp := t.ptp } ∧ s.SameBytes t) ∧
  (∀ (a : At) (s : State), s.works Pg.PTP = true → s.ptp.transmits (s.at_ a).clockClass (s.at_ a).clockIdent = true →
    ∃ t, exec (.ptpSyncSend a) s = .next t ∧ t.ptp.seqSync = (s.ptp.seqSync + 1) % 65536 ∧
      (∀ p, p < 2 → s.feature 1 = true → rbit s.ptp.regs Reg.PTP_CFG 9 = true →
        Emit.eth p (ptpMessage s.ptp.domain 0 0 0 (s.at_ a).clockIdent p ((s.ptp.seqSync + 1) % 65536)
          (stampBytes ((s.at_ a).egressAt p))) ∈ t.outbox) ∧
      (∀ p, p < 2 → rbit s.ptp.regs Reg.PTP_CFG 9 = false →
        Emit.eth p (ptpMessage s.ptp.domain 8 0 0 (s.at_ a).clockIdent p ((s.ptp.seqSync + 1) % 65536)
          (stampBytes ((s.at_ a).egressAt p))) ∈ t.outbox) ∧
      t.shell = { (s.at_ a).shell with ptp := t.ptp } ∧ s.SameBytes t) ∧
  (∀ (a : At) (s : State), s.works Pg.PTP = true → s.ptp.transmits (s.at_ a).clockClass (s.at_ a).clockIdent = true →
    ∃ t, exec (.ptpAnnounceSend a) s = .next t ∧ t.ptp.seqAnn = (s.ptp.seqAnn + 1) % 65536 ∧
      (∀ p, p < 2 → ∃ body, Emit.eth p (ptpMessage s.ptp.domain 11 8 0 (s.at_ a).clockIdent p ((s.ptp.seqAnn + 1) % 65536) body)
        ∈ t.outbox) ∧
      t.shell = { (s.at_ a).shell with ptp := t.ptp } ∧ s.SameBytes t) ∧
  (∀ (a : At) (port : Fin 4) (s : State), s.works Pg.PTP = true → rbit s.ptp.regs (rk Reg.PTP_P_CFG 0 port.val) 0 = true →
    (s.ptp.peer port.val = true ∨ rfld s.ptp.regs Reg.PTP_STAT 2 0 = port.val + 1) →
    ∃ t, exec (.ptpDelayReqSend a port) s = .next t ∧
      t.ptp.requests = (port.val, (s.ptp.seqDelay + 1) % 65536, (s.at_ a).egressAt port.val, (s.at_ a).epoch) ::
        s.ptp.requests.filter (fun r => r.1 != port.val) ∧
      t.shell = { (s.at_ a).shell with ptp := t.ptp } ∧ s.SameBytes t)

/-- An edge on PPS IN within 100 µs of one second after the last makes the source valid and its offset steers when it is the source to
select, any other makes it not valid. A source that lapses is no longer valid, and with none left HOLDOVER is set and reported with
0x1D11 once a source has set the time. A step that is due moves module time and the fathom in progress by its whole microseconds,
begins a new epoch and waits no longer. A comparator armed on an instant to come waits for it, one written disarmed leaves, one on an
instant past fires at once and late, and a firing without a period disarms. The end of a pulse and an edge of TRIG IN show in TIM.
(R290, R291, R292, R293, 13_time_and_networks.md) -/
def Obligations.ModuleTimeCommands : Prop :=
  (∀ (a : At) (p : Int) (s : State), s.pageUp Pg.TIM = true → s.tim.pend = none → s.tim.ppsLast = some p →
    ((s.at_ a).tim.time - p - 1000000000).natAbs ≤ 100000 →
    ∃ t, exec (.ppsInEdge a) s = .next t ∧ t.tim.ppsLast = some (s.at_ a).tim.time ∧ 3 ∈ t.tim.valid ∧
      (({ (s.at_ a).tim with ppsLast := some (s.at_ a).tim.time }.setValid 3 true).choose = 3 →
        (if 500000000 < Int.fmod (s.at_ a).tim.time 1000000000 then Int.fmod (s.at_ a).tim.time 1000000000 - 1000000000
          else Int.fmod (s.at_ a).tim.time 1000000000).natAbs ≤ 1000000 →
        rget t.tim.regs Reg.TIM_OFS_LAST =
          satW (if 500000000 < Int.fmod (s.at_ a).tim.time 1000000000 then Int.fmod (s.at_ a).tim.time 1000000000 - 1000000000
            else Int.fmod (s.at_ a).tim.time 1000000000)) ∧ s.SameBytes t) ∧
  (∀ (a : At) (s : State), s.pageUp Pg.TIM = true → s.tim.pend = none →
    (∀ p, s.tim.ppsLast = some p → 100000 < ((s.at_ a).tim.time - p - 1000000000).natAbs) →
    ∃ t, exec (.ppsInEdge a) s = .next t ∧ t.tim.ppsLast = some (s.at_ a).tim.time ∧ 3 ∉ t.tim.valid ∧
      t.shell = { (s.at_ a).shell with tim := t.tim } ∧ s.SameBytes t) ∧
  (∀ (a : At) (c : Fin 4) (s : State), s.pageUp Pg.TIM = true →
    ∃ t, exec (.sourceLapse a c) s = .next t ∧ t.tim.valid = s.tim.valid.filter (· != c.val) ∧
      (((s.at_ a).tim.setValid c.val false).choose = 0 → s.tim.selected ≠ 0 → t.tim.selected = 0 ∧
        (s.tim.isSet = true → rbit t.tim.regs Reg.TIM_STAT 2 = true ∧ t.errCode Pg.TIM = 0x1D11)) ∧
      t.shell = { (s.at_ a).shell with tim := t.tim } ∧ s.SameBytes t) ∧
  (∀ (a : At) (s : State), s.pageUp Pg.TIM = true →
    ∃ t, exec (.primaryReselect a) s = .next t ∧ t.tim.selected = (s.at_ a).tim.choose ∧ t.tim.valid = s.tim.valid ∧
      t.shell = { (s.at_ a).shell with tim := t.tim } ∧ s.SameBytes t) ∧
  (∀ (a : At) (lines : BitVec 24) (p : PendingStep) (s : State), s.pageUp Pg.TIM = true → s.tim.pend = some p →
    (s.counting = false ∨ ((s.at_ a).tick = 0 ∧ (s.tim.stepDue (1000 * s.seq.startUs)).isSome = true)) →
    ∃ t, exec (.timeStep a lines) s = .next t ∧ t.tim.time = (s.at_ a).tim.time + stepAmount p.e ∧ t.tim.pend = none ∧
      t.seq.startUs = s.seq.startUs + Int.fdiv (stepAmount p.e) 1000 ∧
      rfld t.tim.regs Reg.TIM_EPOCH 15 0 = (rfld s.tim.regs Reg.TIM_EPOCH 15 0 + 1) % 65536 ∧
      rget t.tim.regs Reg.TIM_STEP_FNO = wd s.seq.count ∧ s.SameBytes t) ∧
  (∀ (a : At) (lines : BitVec 24) (s : State), s.counting = true →
    ((s.at_ a).tick ≠ 0 ∨ s.tim.stepDue (1000 * s.seq.startUs) = none) →
    ∃ t, exec (.timeStep a lines) s = .next t ∧ (s.at_ a).SameShell t ∧ s.SameBytes t) ∧
  (∀ (a : At) (acc : Accessor) (v : Word) (lines : BitVec 24) (w : Nat) (s : State), s.Admits acc Pg.TIM (Reg.TIM_TM_CFG % 0x400) →
    (rget s.tim.regs Reg.TIM_TM_SEL).toNat = w → w < 15 →
    ∃ t, exec (.timeMatchArm a acc v lines) s = .next t ∧
      (bit v 0 = false → t.tim.armed = s.tim.armed.filter (fun c => c.1 != w) ∧ rbit t.tim.regs (rk Reg.TIM_TM_STAT 0 w) 0 = false) ∧
      (bit v 0 = true → (s.at_ a).tim.time < (rget64 s.tim.regs (rk Reg.TIM_TM_L 0 w) (rk Reg.TIM_TM_H 0 w) : Nat) →
        t.tim.armed = (w, ((rget64 s.tim.regs (rk Reg.TIM_TM_L 0 w) (rk Reg.TIM_TM_H 0 w) : Nat) : Int)) ::
          s.tim.armed.filter (fun c => c.1 != w) ∧
        rbit t.tim.regs (rk Reg.TIM_TM_STAT 0 w) 0 = true ∧ rbit t.tim.regs (rk Reg.TIM_TM_STAT 0 w) 1 = false) ∧
      (bit v 0 = true → ((rget64 s.tim.regs (rk Reg.TIM_TM_L 0 w) (rk Reg.TIM_TM_H 0 w) : Nat) : Int) ≤ (s.at_ a).tim.time →
        rbit t.tim.regs (rk Reg.TIM_TM_STAT 0 w) 1 = true) ∧
      t.tim.time = (s.at_ a).tim.time ∧ s.SameBytes t) ∧
  (∀ (a : At) (lines : BitVec 24) (s : State), s.pageUp Pg.TIM = true →
    ∃ t, exec (.timeMatchFire a lines) s = .next t ∧
      (∀ n, n ∈ (s.at_ a).tim.overdue → rget s.tim.regs (rk Reg.TIM_TM_PER 0 n) = 0#32 →
        rbit t.tim.regs (rk Reg.TIM_TM_STAT 0 n) 0 = false ∧ ∀ c, c ∈ t.tim.armed → c.1 ≠ n) ∧
      (∀ c, c ∈ s.tim.armed → c.1 ∉ (s.at_ a).tim.overdue → c ∈ t.tim.armed) ∧ t.tim.time = (s.at_ a).tim.time ∧ s.SameBytes t) ∧
  (∀ (a : At) (s : State), s.pageUp Pg.TIM = true →
    ∃ t, exec (.trigOutEnd a) s = .next t ∧
      (∀ e, s.tim.trigOut = some e → t.tim.trigOut = (if e ≤ (s.at_ a).tim.time then none else some e)) ∧
      t.tim.regs = s.tim.regs ∧ t.shell = { (s.at_ a).shell with tim := t.tim } ∧ s.SameBytes t) ∧
  (∀ (a : At) (s : State), s.pageUp Pg.TIM = true →
    ∃ t, exec (.trigInEdge a) s = .next t ∧
      rget t.tim.regs Reg.TIM_TRIGIN_CNT = rget s.tim.regs Reg.TIM_TRIGIN_CNT + 1#32 ∧
      (s.tim.trigLast = none → rget t.tim.regs Reg.TIM_TRIGIN_L = lo32 (s.at_ a).tim.time ∧
        rget t.tim.regs Reg.TIM_TRIGIN_H = hi32 (s.at_ a).tim.time) ∧
      t.shell = { (s.at_ a).shell with tim := t.tim } ∧ s.SameBytes t)

/-- A link that is lost clears LINK and SPEED, counts and records 0x1D40, a link gained sets them and records 0x0D41, and a half-duplex
partner is refused with HALF. A plant frame that is taken counts on its port and its LAN and its LAN is seen, one that is not counts
as a drop; with PRP on, the first copy of a frame is remembered and the second within 400 ms counts as a duplicate, and a wrong LAN
identifier is counted and recorded as 0x1D61. Supervision leaves on both LANs. A LAN silent for three intervals is no longer seen,
with 0x1D60. ARP requests for the plant address are answered. A sentence of a datagram on a joined group counts for the first filter
entry it matches, as a failure when its checksum is wrong. (R298, R299, R300, R301, 13_time_and_networks.md) -/
def Obligations.NetworkCommands : Prop :=
  (∀ (a : At) (port : Fin 4) (s : State), s.pageUp (Pg.ETH + port.val) = true →
    rbit s.net.regs (rk Reg.ETH_STAT port 0) 0 = true →
    ∃ t, exec (.linkDown a port) s = .next t ∧ rfld t.net.regs (rk Reg.ETH_STAT port 0) 2 0 = 0 ∧
      rget t.net.regs (rk Reg.ETH_LINK_CNT port 0) = incW (rget s.net.regs (rk Reg.ETH_LINK_CNT port 0)) ∧
      t.errCode (Pg.ETH + port.val) = 0x1D40 ∧ t.evtSet (Pg.ETH + port.val) 0 = true ∧
      t.shell = { (s.at_ a).shell with net := t.net } ∧ s.SameBytes t) ∧
  (∀ (a : At) (port : Fin 4) (speed : Nat) (s : State), s.pageUp (Pg.ETH + port.val) = true → speed < 4 →
    rbit s.net.regs (rk Reg.ETH_STAT port 0) 0 = false →
    ∃ t, exec (.linkUp a port speed false) s = .next t ∧ rbit t.net.regs (rk Reg.ETH_STAT port 0) 0 = true ∧
      rfld t.net.regs (rk Reg.ETH_STAT port 0) 2 1 = speed ∧ rbit t.net.regs (rk Reg.ETH_STAT port 0) 3 = false ∧
      t.errCode (Pg.ETH + port.val) = 0x0D41 ∧ t.evtSet (Pg.ETH + port.val) 0 = true ∧
      t.shell = { (s.at_ a).shell with net := t.net } ∧ s.SameBytes t) ∧
  (∀ (a : At) (port : Fin 4) (speed : Nat) (s : State), s.pageUp (Pg.ETH + port.val) = true →
    ∃ t, exec (.linkUp a port speed true) s = .next t ∧ rbit t.net.regs (rk Reg.ETH_STAT port 0) 3 = true ∧
      rbit t.net.regs (rk Reg.ETH_STAT port 0) 0 = rbit s.net.regs (rk Reg.ETH_STAT port 0) 0 ∧
      t.shell = { (s.at_ a).shell with net := t.net } ∧ s.SameBytes t) ∧
  (∀ (a : At) (lan : Fin 2) (bs f : List Byte) (s : State), s.works Pg.PRP = true → untagged bs = some f →
    ∃ t, exec (.prpFrameReceive a lan bs) s = .next t ∧
      rget t.net.regs (rk Reg.ETH_RX_CNT (2 + lan.val) 0) = rget s.net.regs (rk Reg.ETH_RX_CNT (2 + lan.val) 0) + 1#32 ∧
      rget t.net.regs Reg.PRP_CNT_A = (if lan.val = 0 then rget s.net.regs Reg.PRP_CNT_A + 1#32 else rget s.net.regs Reg.PRP_CNT_A) ∧
      rget t.net.regs Reg.PRP_CNT_B = (if lan.val = 1 then rget s.net.regs Reg.PRP_CNT_B + 1#32 else rget s.net.regs Reg.PRP_CNT_B) ∧
      rbit t.net.regs Reg.PRP_LAN_STAT lan.val = true ∧
      (s.net.prpOn (s.feature 13) = false → rget t.net.regs Reg.PRP_CNT_DUP = rget s.net.regs Reg.PRP_CNT_DUP ∧ t.net.seen = s.net.seen) ∧
      (s.net.prpOn (s.feature 13) = true → 20 ≤ f.length → beNat (sliceB f (f.length - 2) 2) = 0x88FB →
        (∀ n, (beNat (sliceB f 6 6), beNat (sliceB f (f.length - 6) 2), n) ∈ s.net.seen → 400000000 ≤ (s.at_ a).tim.time - n) →
        (beNat (sliceB f 6 6), beNat (sliceB f (f.length - 6) 2), (s.at_ a).tim.time) ∈ t.net.seen ∧
        rget t.net.regs Reg.PRP_CNT_DUP = rget s.net.regs Reg.PRP_CNT_DUP) ∧
      (∀ n, s.net.prpOn (s.feature 13) = true → 20 ≤ f.length → beNat (sliceB f (f.length - 2) 2) = 0x88FB →
        (beNat (sliceB f 6 6), beNat (sliceB f (f.length - 6) 2), n) ∈ s.net.seen → (s.at_ a).tim.time - n < 400000000 →
        rget t.net.regs Reg.PRP_CNT_DUP = rget s.net.regs Reg.PRP_CNT_DUP + 1#32) ∧
      (s.net.prpOn (s.feature 13) = true → 20 ≤ f.length → beNat (sliceB f (f.length - 2) 2) = 0x88FB →
        beNat (sliceB f (f.length - 4) 2) / 4096 ≠ 10 + lan.val → t.errCode Pg.PRP = 0x1D61 ∧ t.evtSet Pg.PRP 1 = true) ∧
      t.shell = { (s.at_ a).shell with net := t.net } ∧ s.SameBytes t) ∧
  (∀ (a : At) (lan : Fin 2) (bs : List Byte) (s : State), s.works Pg.PRP = true → untagged bs = none →
    ∃ t, exec (.prpFrameReceive a lan bs) s = .next t ∧
      rget t.net.regs (rk Reg.ETH_ERR_CNT (2 + lan.val) 0) = incSatField (rget s.net.regs (rk Reg.ETH_ERR_CNT (2 + lan.val) 0)) 31 16 ∧
      t.net.seen = s.net.seen ∧ t.shell = { (s.at_ a).shell with net := t.net } ∧ s.SameBytes t) ∧
  (∀ (a : At) (s : State), s.works Pg.PRP = true → s.net.prpOn (s.feature 13) = true → rbit s.net.regs Reg.PRP_CTRL 1 = true →
    ∃ t, exec (.prpSupervisionSend a) s = .next t ∧
      (∃ f, f.take 6 = beBytes 6 0x01154E000100 ∧
        Emit.eth 2 (f ++ prpTrailer s.net.seqOut 0 (f.length - 14 + 6)) ∈ t.outbox ∧
        Emit.eth 3 (f ++ prpTrailer s.net.seqOut 1 (f.length - 14 + 6)) ∈ t.outbox) ∧
      t.net.seqOut = (s.net.seqOut + 1) % 65536 ∧
      rget t.net.regs (rk Reg.ETH_TX_CNT 2 0) = rget s.net.regs (rk Reg.ETH_TX_CNT 2 0) + 1#32 ∧
      rget t.net.regs (rk Reg.ETH_TX_CNT 3 0) = rget s.net.regs (rk Reg.ETH_TX_CNT 3 0) + 1#32 ∧
      t.shell = { (s.at_ a).shell with net := t.net } ∧ s.SameBytes t) ∧
  (∀ (a : At) (lan : Fin 2) (s : State), s.works Pg.PRP = true → rbit s.net.regs Reg.PRP_LAN_STAT lan.val = true →
    (∀ n, (if lan.val = 0 then s.net.lastA else s.net.lastB) = some n → 6000000000 ≤ (s.at_ a).tim.time - n) →
    ∃ t, exec (.prpLanLoss a lan) s = .next t ∧ rbit t.net.regs Reg.PRP_LAN_STAT lan.val = false ∧ t.errCode Pg.PRP = 0x1D60 ∧
      t.evtSet Pg.PRP 0 = true ∧ t.shell = { (s.at_ a).shell with net := t.net } ∧ s.SameBytes t) ∧
  (∀ (a : At) (bs f : List Byte) (s : State), s.works Pg.PRP = true → untagged bs = some f → rget s.net.regs Reg.PRP_IP ≠ 0#32 →
    beNat (sliceB f 12 2) = 0x0806 → beNat (sliceB f 20 2) = 1 → beNat (sliceB f 38 4) = (rget s.net.regs Reg.PRP_IP).toNat →
    s.net.prpOn (s.feature 13) = false →
    ∃ t, exec (.arpIcmpRequest a bs) s = .next t ∧
      Emit.eth 2 (sliceB f 6 6 ++ beBytes 6 (s.net.mac 2) ++ sliceB f 12 8 ++ beBytes 2 2 ++ beBytes 6 (s.net.mac 2) ++
        beBytes 4 (rget s.net.regs Reg.PRP_IP).toNat ++ sliceB f 22 10) ∈ t.outbox ∧
      rget t.net.regs (rk Reg.ETH_TX_CNT 2 0) = rget s.net.regs (rk Reg.ETH_TX_CNT 2 0) + 1#32 ∧
      t.shell = { (s.at_ a).shell with net := t.net } ∧ s.SameBytes t) ∧
  (∀ (a : At) (g group port k : Nat) (data : List Byte) (cs : List Nat) (name : List Nat) (s : State), s.works Pg.PRP = true → g < 8 →
    rbit s.net.regs (rk Reg.PRP_MC_PORT 0 g) 31 = true → (rget s.net.regs (rk Reg.PRP_MC_GRP 0 g)).toNat = group →
    rfld s.net.regs (rk Reg.PRP_MC_PORT 0 g) 15 0 = port → (∀ h, h < g → rbit s.net.regs (rk Reg.PRP_MC_PORT 0 h) 31 = false) →
    (data.map (·.toNat)).take 6 = [0x55, 0x64, 0x50, 0x62, 0x43, 0] →
    datagramSentences data.length ((data.map (·.toNat)).drop 6) = [cs] → cs.head? = some Ch.dollar →
    (readSentence cs).address = some name → k < 32 → rbit s.net.regs (rk Reg.PRP_F_CFG 0 k) 8 = true →
    rfld s.net.regs (rk Reg.PRP_F_CFG 0 k) 11 9 = g →
    addressMatches name (rget s.net.regs (rk Reg.PRP_F_ADDR 0 k)) (rfld s.net.regs (rk Reg.PRP_F_CFG 0 k) 7 0) = true →
    (∀ j, j < k → rbit s.net.regs (rk Reg.PRP_F_CFG 0 j) 8 = false) →
    ∃ t, exec (.udpbcDatagram a group port data) s = .next t ∧
      ((readSentence cs).checkOk true = true →
        sget (fun _ => 0) t.net.sentences k = sget (fun _ => 0) s.net.sentences k + 1 ∧ t.net.regs = s.net.regs) ∧
      ((readSentence cs).checkOk true = false → t.net.sentences = s.net.sentences ∧
        rget t.net.regs (rk Reg.PRP_F_STAT 0 k) = incSatField (rget s.net.regs (rk Reg.PRP_F_STAT 0 k)) 31 16) ∧
      t.shell = { (s.at_ a).shell with net := t.net } ∧ s.SameBytes t) ∧
  (∀ (a : At) (group port : Nat) (data : List Byte) (s : State), s.works Pg.PRP = true →
    (data.map (·.toNat)).take 6 ≠ [0x55, 0x64, 0x50, 0x62, 0x43, 0] →
    ∃ t, exec (.udpbcDatagram a group port data) s = .next t ∧ (s.at_ a).SameShell t ∧ t.flt = s.flt ∧ s.SameBytes t)

/-- A tagged HELLO under a stored key opens a session with the session key of R302 and is answered with a nonce and the slots set, and an
untagged one with slot 0xFF does so in CONFIG while no service key is stored. Any request of a session whose tag fails or whose SEQ is
not above the last is discarded without reply, counted in REJECT and recorded as 0x1D80. KEY_SET under key 0 in CONFIG or SERVICE
stores or erases one key and records 0x0D83. CLOSE, and 60 s without a request, end a session with the transfer it has open. (R302,
R303, 13_time_and_networks.md) -/
def Obligations.ServiceSessionsCommands : Prop :=
  (∀ (a : At) (bs k : List Byte) (q : Request_) (s : State), s.serviceUp = true → readRequest bs = some q → q.op = 1 →
    byteAt q.rest 0 ≠ 0xFF → keyOf s.nvs.keys (byteAt q.rest 0) = some k → tagOk k bs = true → q.rest.length = 49 →
    s.net.sessions.length < 4 →
    ∃ t nonce, exec (.hello a bs) s = .next t ∧ nonce.length = 16 ∧
      t.net.sessions = s.net.sessions ++ [⟨s.net.opened + 1, byteAt q.rest 0,
        Config.hmacSha256 k ([0x4F, 0x52, 0x52, 0x41, 0x44] ++ sliceB q.rest 1 16 ++ nonce), q.seq, (s.at_ a).tim.time⟩] ∧
      replyOf 1 (s.net.opened + 1) q.seq 1 0 (nonce ++ beBytes 1 (keySlots s.nvs.keys + 16 * keySlots s.nvs.images)) ∈ t.outbox ∧
      rget t.net.regs Reg.PRP_SVC_CNT = incWrapField (rget s.net.regs Reg.PRP_SVC_CNT) 15 0 ∧ t.errCode Pg.PRP = 0x0D81 ∧
      t.nvs.keys = s.nvs.keys ∧ t.nvs.images = s.nvs.images ∧
      t.shell = { (s.at_ a).shell with
        net := t.net
        free := s.free + 4 } ∧ s.SameBytes t) ∧
  (∀ (a : At) (bs : List Byte) (q : Request_) (s : State), s.serviceUp = true → readRequest bs = some q → q.op = 1 →
    byteAt q.rest 0 = 0xFF → s.mode = .config → s.nvs.keys = [] → q.rest.length = 17 → s.net.sessions.length < 4 →
    ∃ t, exec (.hello a bs) s = .next t ∧
      t.net.sessions = s.net.sessions ++ [⟨s.net.opened + 1, 0xFF, [], q.seq, (s.at_ a).tim.time⟩] ∧ t.errCode Pg.PRP = 0x0D81 ∧
      t.shell = { (s.at_ a).shell with
        net := t.net
        free := s.free + 4 } ∧ s.SameBytes t) ∧
  (∀ (a : At) (bs k : List Byte) (q : Request_) (s : State), s.serviceUp = true → readRequest bs = some q → q.op = 1 →
    byteAt q.rest 0 ≠ 0xFF → keyOf s.nvs.keys (byteAt q.rest 0) = some k → tagOk k bs = false →
    ∃ t, exec (.hello a bs) s = .next t ∧ t.net.sessions = s.net.sessions ∧ t.outbox = s.outbox ∧
      rget t.net.regs Reg.PRP_SVC_CNT = incSatField (rget s.net.regs Reg.PRP_SVC_CNT) 31 16 ∧ t.errCode Pg.PRP = 0x1D80 ∧
      t.shell = { (s.at_ a).shell with net := t.net } ∧ s.SameBytes t) ∧
  (∀ (a : At) (n : Nat) (ok : Bool) (bs : List Byte) (q : Request_) (x : Session) (s : State) (c : Nat × Instr),
    c ∈ serviceRequests a n ok bs → s.serviceUp = true → s.answers c.1 = true → readRequest bs = some q → q.op = c.1 →
    s.net.sessions.find? (fun y => y.number == q.session) = some x →
    ((x.slot ≠ 0xFF ∧ tagOk x.key bs = false) ∨ q.seq ≤ x.seq) →
    ∃ t, exec c.2 s = .next t ∧ t.net.sessions = s.net.sessions ∧ t.outbox = s.outbox ∧
      rget t.net.regs Reg.PRP_SVC_CNT = incSatField (rget s.net.regs Reg.PRP_SVC_CNT) 31 16 ∧ t.errCode Pg.PRP = 0x1D80 ∧
      t.nvs.keys = s.nvs.keys ∧ t.nvs.images = s.nvs.images ∧ t.nvs.transfer = s.nvs.transfer ∧
      t.shell = { (s.at_ a).shell with net := t.net } ∧ s.SameBytes t) ∧
  (∀ (a : At) (bs : List Byte) (x : Session) (q : Request_) (s : State), s.Asked 5 bs x q → (s.mode = .config ∨ s.mode = .service) →
    x.slot = 0 → q.body.length = 36 → byteAt q.body 0 ≤ 1 → byteAt q.body 1 ≤ 3 → beNat (sliceB q.body 2 2) = 0 →
    ∃ t, exec (.keySet a true bs) s = .next t ∧
      (byteAt q.body 0 = 0 → t.nvs.keys = keySet s.nvs.keys (byteAt q.body 1) (sliceB q.body 4 32) ∧ t.nvs.images = s.nvs.images) ∧
      (byteAt q.body 0 = 1 → t.nvs.images = keySet s.nvs.images (byteAt q.body 1) (sliceB q.body 4 32) ∧ t.nvs.keys = s.nvs.keys) ∧
      replyOf 5 q.session q.seq 0 0 [] ∈ t.outbox ∧ t.errCode Pg.PRP = 0x0D83 ∧
      t.net.sessions = sessionsServed s.net.sessions q.session q.seq (s.at_ a).tim.time ∧
      t.shell = { (s.at_ a).shell with net := t.net } ∧ s.SameBytes t) ∧
  (∀ (a : At) (ok : Bool) (bs : List Byte) (x : Session) (q : Request_) (s : State), s.Asked 5 bs x q →
    (s.mode ≠ .config ∧ s.mode ≠ .service ∨ x.slot ≠ 0) →
    ∃ t, exec (.keySet a ok bs) s = .next t ∧ t.nvs.keys = s.nvs.keys ∧ t.nvs.images = s.nvs.images ∧
      replyOf 5 q.session q.seq 0 1 [] ∈ t.outbox ∧ t.shell = { (s.at_ a).shell with net := t.net } ∧ s.SameBytes t) ∧
  (∀ (a : At) (bs : List Byte) (x : Session) (q : Request_) (s : State), s.Asked 4 bs x q →
    ∃ t, exec (.close a bs) s = .next t ∧ (∀ y, y ∈ t.net.sessions → y.number ≠ x.number) ∧
      (∀ y, y ∈ s.net.sessions → y.number ≠ x.number → y ∈ t.net.sessions) ∧
      (∀ v, s.nvs.transfer = some v → v.session = x.number → t.nvs.transfer = none) ∧
      (∀ v, s.nvs.transfer = some v → v.session ≠ x.number → t.nvs.transfer = some v) ∧
      replyOf 4 q.session q.seq 0 0 [] ∈ t.outbox ∧
      t.shell = { (s.at_ a).shell with
        net := t.net
        pwr := t.pwr } ∧ s.SameBytes t) ∧
  (∀ (a : At) (n : Nat) (x : Session) (s : State), s.net.sessions.find? (fun y => y.number == n) = some x →
    ∃ t, exec (.sessionTimeout a n) s = .next t ∧
      (60000000000 ≤ (s.at_ a).tim.time - x.last → t.net.sessions = s.net.sessions.filter (fun y => y.number != n) ∧
        (∀ v, s.nvs.transfer = some v → v.session = n → t.nvs.transfer = none)) ∧
      ((s.at_ a).tim.time - x.last < 60000000000 → t.net.sessions = s.net.sessions ∧ t.nvs.transfer = s.nvs.transfer) ∧
      t.shell = { (s.at_ a).shell with
        net := t.net
        pwr := t.pwr } ∧ s.SameBytes t)

/-- A READ of one word within its time is answered with the word and the status that an access by SUP at that address gives; words past
the 2 ms are 0 with status 4. A WRITE applies its pairs in order as accesses by SUP, those past its time with status 4, and one
refused pair records 0x1D82; a WRITE to shared SRAM in CONFIG leaves the word there and no other byte changed. (R304, R442,
13_time_and_networks.md, 21_register_directory.md) -/
def Obligations.ServiceAccessCommands : Prop :=
  (∀ (a : At) (bs : List Byte) (x : Session) (q : Request_) (s : State) (u : State) (ws : List Byte) (st : Nat),
    s.Asked 2 bs x q → q.count = 1 →
    State.readMem .service (beNat (q.body.take 4)) 4 ((s.at_ a).served q) = (u, ws, st) → u.serviceUp = true → ∀ n,
    ∃ t, exec (.read a (n + 1) bs) s = .next t ∧ t = { u with outbox := replyOf 2 q.session q.seq 1 st (beBytes 4 (leNat ws % 4294967296)) :: u.outbox }) ∧
  (∀ (a : At) (bs : List Byte) (x : Session) (q : Request_) (s : State), s.Asked 2 bs x q → 0 < q.count → q.count ≤ 128 →
    ∃ t, exec (.read a 0 bs) s = .next t ∧
      replyOf 2 q.session q.seq q.count 4 (List.replicate (4 * q.count) 0#8) ∈ t.outbox ∧
      t.net.sessions = sessionsServed s.net.sessions q.session q.seq (s.at_ a).tim.time ∧
      t.shell = { (s.at_ a).shell with net := t.net } ∧ s.SameBytes t) ∧
  (∀ (a : At) (bs : List Byte) (x : Session) (q : Request_) (s : State) (adr : Nat) (v : Word), s.Asked 3 bs x q →
    pairsOf q.count q.body = [(adr, v)] → s.mode = .config → adr % 4 = 0 → 0x20000000 ≤ adr → adr < 0x21000000 →
    s.islandUp 2 = true → ∀ n,
    ∃ t, exec (.write a (n + 1) bs) s = .next t ∧ (∀ k, k < 4 → t.mem.byte (adr + k) = (wordBytes v).getD k 0) ∧
      s.SameBytesBut t adr 4 ∧ replyOf 3 q.session q.seq 1 0 [0#8] ∈ t.outbox ∧
      t.net.sessions = sessionsServed s.net.sessions q.session q.seq (s.at_ a).tim.time ∧
      t.shell = { (s.at_ a).shell with net := t.net }) ∧
  (∀ (a : At) (bs : List Byte) (x : Session) (q : Request_) (s : State) (adr : Nat) (v : Word), s.Asked 3 bs x q →
    pairsOf q.count q.body = [(adr, v)] → (adr % 4 ≠ 0 ∧ regionOf adr ≠ some .pages ∨ (s.mode ≠ .halt ∧ regionOfRange adr 4 = none)) → ∀ n,
    ∃ t, exec (.write a (n + 1) bs) s = .next t ∧ replyOf 3 q.session q.seq 1 2 [2#8] ∈ t.outbox ∧ t.errCode Pg.PRP = 0x1D82 ∧
      t.errCode Pg.SUP = 0x30A1 ∧ t.shell = { (s.at_ a).shell with net := t.net } ∧ s.SameBytes t) ∧
  (∀ (a : At) (bs : List Byte) (x : Session) (q : Request_) (s : State), s.Asked 3 bs x q → pairsOf q.count q.body ≠ [] →
    ∃ t, exec (.write a 0 bs) s = .next t ∧
      replyOf 3 q.session q.seq (pairsOf q.count q.body).length 4 (List.replicate (pairsOf q.count q.body).length 4#8) ∈ t.outbox ∧
      t.errCode Pg.PRP = 0x1D82 ∧ t.shell = { (s.at_ a).shell with net := t.net } ∧ s.SameBytes t)

/-- OPEN begins the one transfer that may be open, DATA stores its bytes into the region within what was opened, and leaves them out with
status 6 when they do not read back, COMMIT checks the content and marks the region, READ answers with the bytes, and CLOSE ends the
transfer. A status other than 0 records 0x1199. (R394, R425, R426, 20_startup_and_features.md) -/
def Obligations.ServiceTransferCommands : Prop :=
  (∀ (a : At) (bs : List Byte) (x : Session) (q : Request_) (s : State), s.Asked 0x10 bs x q →
    ∃ t, exec (.transferOpen a bs) s = .next t ∧
      (∀ r off len, r = beNat (sliceB q.body 0 4) → off = beNat (sliceB q.body 4 4) → len = beNat (sliceB q.body 8 4) →
        (s.nvs.transfer = none → (s.mode = .halt → r = 0) → r ≤ 12 → off + len ≤ nvsSize r → s.grant 20 = true →
          t.nvs.transfer = some ⟨x.number, r, off, len⟩ ∧ replyOf 0x10 q.session q.seq 0 0 [] ∈ t.outbox) ∧
        (s.nvs.transfer ≠ none → t.nvs.transfer = s.nvs.transfer ∧ replyOf 0x10 q.session q.seq 0 1 [] ∈ t.outbox ∧
          t.errCode Pg.SUP = 0x1199) ∧
        (s.nvs.transfer = none → s.mode ≠ .halt → (12 < r ∨ nvsSize r < off + len) → t.nvs.transfer = none ∧
          replyOf 0x10 q.session q.seq 0 3 [] ∈ t.outbox ∧ t.errCode Pg.SUP = 0x1199)) ∧
      t.shell = { (s.at_ a).shell with net := t.net } ∧ s.SameBytes t) ∧
  (∀ (a : At) (ok : Bool) (bs : List Byte) (x : Session) (q : Request_) (v : Transfer) (s : State), s.Asked 0x11 bs x q →
    s.nvs.transfer = some v → v.session = x.number → nvsClosed v.region = false → nvsAdmits s.mode s.imageRegion v.region = true →
    v.offset ≤ beNat (sliceB q.body 0 4) → beNat (sliceB q.body 0 4) + (q.body.drop 4).length ≤ v.offset + v.length →
    (q.body.drop 4).length ≤ 1024 → q.body.drop 4 ≠ [] →
    nvsKept (s.at_ a).mem s.sup.copy v.region (beNat (sliceB q.body 0 4)) (q.body.drop 4).length = false → s.grant 20 = true →
    ∃ t, exec (.transferData a ok bs) s = .next t ∧
      s.SameBytesBut t (nvsAddr v.region + beNat (sliceB q.body 0 4)) (q.body.drop 4).length ∧
      (ok = true → replyOf 0x11 q.session q.seq 0 0 [] ∈ t.outbox ∧
        ∀ i, i < (q.body.drop 4).length → t.mem.byte (nvsAddr v.region + beNat (sliceB q.body 0 4) + i) = (q.body.drop 4).getD i 0) ∧
      (ok = false → replyOf 0x11 q.session q.seq 0 6 [] ∈ t.outbox ∧ s.SameBytes t ∧ t.errCode Pg.SUP = 0x1199 ∧
        t.errCode Pg.NVS = 0x1160) ∧
      t.nvs.transfer = s.nvs.transfer ∧ t.shell = { (s.at_ a).shell with net := t.net }) ∧
  (∀ (a : At) (bs : List Byte) (x : Session) (q : Request_) (v : Transfer) (s : State), s.Asked 0x12 bs x q →
    s.nvs.transfer = some v → v.session = x.number → nvsClosed v.region = false → nvsAdmits s.mode s.imageRegion v.region = true →
    s.grant 20 = true →
    ∃ t, exec (.transferCommit a bs) s = .next t ∧ t.nvs.sound.getLsbD v.region = (s.at_ a).regionSound v ∧
      ((s.at_ a).regionSound v = true → replyOf 0x12 q.session q.seq 0 0 [] ∈ t.outbox) ∧
      ((s.at_ a).regionSound v = false → replyOf 0x12 q.session q.seq 0 5 [] ∈ t.outbox ∧ t.errCode Pg.SUP = 0x1199) ∧
      t.nvs.transfer = s.nvs.transfer ∧
      t.shell = { (s.at_ a).shell with
        net := t.net
        sup := t.sup } ∧ s.SameBytes t) ∧
  (∀ (a : At) (bs : List Byte) (x : Session) (q : Request_) (v : Transfer) (s : State), s.Asked 0x13 bs x q →
    s.nvs.transfer = some v → v.session = x.number → s.grant 20 = true → v.region ≠ 8 → v.region ≠ 11 →
    v.offset ≤ beNat (sliceB q.body 0 4) → beNat (sliceB q.body 0 4) + beNat (sliceB q.body 4 4) ≤ v.offset + v.length →
    beNat (sliceB q.body 4 4) ≤ 1024 →
    ∃ t, exec (.transferRead a bs) s = .next t ∧
      replyOf 0x13 q.session q.seq 0 0
        ((s.at_ a).mem.readBytes (regionAddr v.region (beNat (sliceB q.body 0 4))) (beNat (sliceB q.body 4 4))) ∈ t.outbox ∧
      t.nvs.transfer = s.nvs.transfer ∧ t.shell = { (s.at_ a).shell with net := t.net } ∧ s.SameBytes t) ∧
  (∀ (a : At) (bs : List Byte) (x : Session) (q : Request_) (s : State), s.Asked 0x14 bs x q →
    ∃ t, exec (.transferClose a bs) s = .next t ∧
      (∀ v, s.nvs.transfer = some v → v.session = x.number → t.nvs.transfer = none ∧ replyOf 0x14 q.session q.seq 0 0 [] ∈ t.outbox) ∧
      (∀ v, s.nvs.transfer = some v → v.session ≠ x.number → t.nvs.transfer = some v ∧
        replyOf 0x14 q.session q.seq 0 1 [] ∈ t.outbox ∧ t.errCode Pg.SUP = 0x1199) ∧
      t.shell = { (s.at_ a).shell with
        net := t.net
        pwr := t.pwr } ∧ s.SameBytes t)

/-- SEND_SET answers as its operation says: outside ACTIVE it loads nothing and shows 6 for every object, in ACTIVE an idle version 2
object is loaded with the setpoint frame of R321. A firkin packet loads its raw object or is discarded with 0x1E14. A transmission
that is sent frees its object, lowers TEC and counts; one that loses arbitration is retried up to RETRY and then abandoned with
0x1E10; an error frame raises TEC by 8, and above 255 the controller is bus-off with its frames pending and records 0x2E12. RECOVER
begins recovery in bus-off alone, and its end clears the counters with 0x0E13. A receive error raises REC, and integration ends in
error-active or error-passive. (R310, R313, R314, R315, R316, R321, R324, 14_can_fd_drive_link.md) -/
def Obligations.CanSendingCommands : Prop :=
  (∀ (a : At) (idx : Nat) (wire : Option (Fin 64)) (x : Span) (s : State), (s.at_ a).Starts idx x → 0x22 ≤ x.unit → x.unit ≤ 0x25 →
    x.opcode = 1 →
    ∃ t, exec (.sendSet a idx wire) s = .next t ∧
      (s.at_ a).Answered t idx x (Can.sendSet (x.unit - 0x22) s.isActive s.stone (wire.map (·.val)) ((s.at_ a).handed idx x) s.can) ∧
      t.seq = s.seq.started idx x true none ∧
      (s.isActive = false → t.can.buses = s.can.buses ∧ ∀ o, o ∈ s.can.spanObjs (x.unit - 0x22) →
        rfld t.can.regs (rk Reg.CAN_TX_STAT (x.unit - 0x22) o) 3 0 = 6) ∧
      (∀ o, s.isActive = true → s.can.spanObjs (x.unit - 0x22) = [o] → s.can.state (x.unit - 0x22) ≠ 5 →
        (∀ b, (s.at_ a).mem.isBad b = false) → bits (s.can.txCfg (x.unit - 0x22) o) 2 1 = 2 → bit x.arg 31 = false →
        (s.can.obj (x.unit - 0x22) o).frame = none →
        (t.can.obj (x.unit - 0x22) o).frame = some
          ⟨setpointV2 (rfld s.can.regs (rk Reg.CAN_TX_ID (x.unit - 0x22) o) 28 0) (bits (s.can.txCfg (x.unit - 0x22) o) 17 12) 0 s.stone
            (wd s.seq.count) ((s.can.sources (x.unit - 0x22) o).map (fun k => match k with
              | some k => (s.at_ a).mem.readWord (((s.at_ a).handed idx x).src + 4 * k)
              | none => 0#32)), true, true, s.seq.count % 4294967296, true⟩ ∧
        rfld t.can.regs (rk Reg.CAN_TX_STAT (x.unit - 0x22) o) 3 0 = 1 ∧
        rfld t.can.regs (rk Reg.CAN_SS_STAT (x.unit - 0x22) 0) 7 0 = 1) ∧
      t.shell = { (s.at_ a).shell with
        seq := s.seq.started idx x true none
        can := t.can
        free := s.free + 1 } ∧ s.SameBytes t) ∧
  (∀ (a : At) (n : Fin 4) (q : Fin 64) (wire : Option (Fin 64)) (w0 : Word) (ws : List (Word × Bool)) (s : State), s.canOn n.val = true →
    (s.packetFor (0x22 + n.val) q.val).1 = some ((w0, false) :: ws) → ws.all (fun w => !w.2) = true →
    bits (s.can.txCfg n.val (bits w0 5 0)) 2 1 = 0 → bit (s.can.txCfg n.val (bits w0 5 0)) 0 = true →
    dlcBytes (bit (s.can.txCfg n.val (bits w0 5 0)) 5) (bits w0 11 8) ≤ 4 * ws.length →
    (s.can.obj n.val (bits w0 5 0)).frame = none →
    ∃ t, exec (.canTxPacketLoad a n q wire) s = .next t ∧
      t.can.obj n.val (bits w0 5 0) = ⟨some ⟨(wordsBytes (ws.map (·.1))).take
        (dlcBytes (bit (s.can.txCfg n.val (bits w0 5 0)) 5) (bits w0 11 8)), bit (s.can.txCfg n.val (bits w0 5 0)) 5,
        bit (s.can.txCfg n.val (bits w0 5 0)) 6, 0, false⟩, none, 0⟩ ∧
      rfld t.can.regs (rk Reg.CAN_TX_STAT n.val (bits w0 5 0)) 3 0 = 1 ∧
      (t.fq.firkin q.val).committed = (splitPacket (s.fq.firkin q.val).committed).2 ∧
      t.shell = { (s.at_ a).shell with can := t.can } ∧ s.SameBytes t) ∧
  (∀ (a : At) (n : Fin 4) (q : Fin 64) (wire : Option (Fin 64)) (w0 : Word) (ws : List (Word × Bool)) (s : State), s.canOn n.val = true →
    (s.packetFor (0x22 + n.val) q.val).1 = some ((w0, false) :: ws) →
    (bits (s.can.txCfg n.val (bits w0 5 0)) 2 1 ≠ 0 ∨
      4 * ws.length < dlcBytes (bit (s.can.txCfg n.val (bits w0 5 0)) 5) (bits w0 11 8)) →
    ∃ t, exec (.canTxPacketLoad a n q wire) s = .next t ∧ t.can = s.can ∧ t.errCode (Pg.CAN + n.val) = 0x1E14 ∧
      (t.fq.firkin q.val).committed = (splitPacket (s.fq.firkin q.val).committed).2 ∧ (s.at_ a).SameShell t ∧ s.SameBytes t) ∧
  (∀ (a : At) (n : Fin 4) (o : Fin 64) (tdcv : Nat) (f : CanFrame) (s : State), s.canOn n.val = true →
    (s.can.state n.val = 2 ∨ s.can.state n.val = 3) → rbit s.can.regs (rk Reg.CAN_CTRL n.val 0) 5 = false →
    (s.can.obj n.val o.val).frame = some f →
    (∃ t, exec (.canTransmitEnd a n o 0 tdcv) s = .next t ∧
      t.can.obj n.val o.val = ⟨(s.can.obj n.val o.val).next, none, 0⟩ ∧
      ((s.can.obj n.val o.val).next = none → rfld t.can.regs (rk Reg.CAN_TX_STAT n.val o.val) 3 0 = 2) ∧
      (t.can.bus n.val).tec = (s.can.bus n.val).tec - 1 ∧
      rget t.can.regs (rk Reg.CAN_CNT_TX n.val 0) = rget s.can.regs (rk Reg.CAN_CNT_TX n.val 0) + 1#32 ∧
      Emit.can n.val (rfld s.can.regs (rk Reg.CAN_TX_ID n.val o.val) 28 0 + 0x20000000 * b2n (bit (s.can.txCfg n.val o.val) 4)) f.data
        ∈ t.outbox ∧
      t.shell = { (s.at_ a).shell with can := t.can } ∧ s.SameBytes t) ∧
    (∃ t, exec (.canTransmitEnd a n o 1 tdcv) s = .next t ∧
      ((s.can.obj n.val o.val).next = none → (s.can.obj n.val o.val).retries + 1 ≤ bits (s.can.txCfg n.val o.val) 11 8 →
        t.can.obj n.val o.val = ⟨some f, none, (s.can.obj n.val o.val).retries + 1⟩) ∧
      ((s.can.obj n.val o.val).next = none → bits (s.can.txCfg n.val o.val) 11 8 < (s.can.obj n.val o.val).retries + 1 →
        t.can.obj n.val o.val = ⟨none, none, 0⟩ ∧ rfld t.can.regs (rk Reg.CAN_TX_STAT n.val o.val) 3 0 = 3 ∧
        t.errCode (Pg.CAN + n.val) = 0x1E10 ∧ t.evtSet (Pg.CAN + n.val) 0 = true) ∧
      (t.can.bus n.val).tec = (s.can.bus n.val).tec ∧ t.shell = { (s.at_ a).shell with can := t.can } ∧ s.SameBytes t) ∧
    (∃ t, exec (.canTransmitEnd a n o 2 tdcv) s = .next t ∧ (t.can.bus n.val).tec = (s.can.bus n.val).tec + 8 ∧
      (255 < (s.can.bus n.val).tec + 8 → t.can.state n.val = 4 ∧ rbit t.can.regs (rk Reg.CAN_STAT n.val 0) 4 = true ∧
        (t.can.obj n.val o.val).frame.isSome = true ∧ (t.can.obj n.val o.val).retries = 0 ∧ t.errCode (Pg.CAN + n.val) = 0x2E12 ∧
        t.evtSet (Pg.CAN + n.val) 2 = true) ∧
      ((s.can.bus n.val).tec + 8 ≤ 255 → t.can.state n.val ≠ 4) ∧
      t.shell = { (s.at_ a).shell with can := t.can } ∧ s.SameBytes t)) ∧
  (∀ (a : At) (acc : Accessor) (n : Fin 4) (s : State), s.Admits acc (Pg.CAN + n.val) (Reg.CAN_CTRL % 0x400) →
    ∃ t, exec (.recover a acc n) s = .next t ∧ (s.can.state n.val = 4 → (t.can.bus n.val).recover = true) ∧
      (s.can.state n.val ≠ 4 → t.can.bus n.val = s.can.bus n.val) ∧
      (∀ m, m ≠ n.val → t.can.bus m = s.can.bus m) ∧ s.SameBytes t) ∧
  (∀ (a : At) (n : Fin 4) (s : State), s.canOn n.val = true → s.can.state n.val = 4 → (s.can.bus n.val).recover = true →
    ∃ t, exec (.busoffRecoveryEnd a n) s = .next t ∧ t.can.state n.val = 2 ∧ (t.can.bus n.val).tec = 0 ∧ (t.can.bus n.val).rec_ = 0 ∧
      rbit t.can.regs (rk Reg.CAN_STAT n.val 0) 4 = false ∧ (t.can.bus n.val).objs = (s.can.bus n.val).objs ∧
      t.errCode (Pg.CAN + n.val) = 0x0E13 ∧ t.shell = { (s.at_ a).shell with can := t.can } ∧ s.SameBytes t) ∧
  (∀ (a : At) (n : Fin 4) (s : State), s.canOn n.val = true → (s.can.state n.val = 2 ∨ s.can.state n.val = 3) →
    ∃ t, exec (.canReceiveError a n) s = .next t ∧ (t.can.bus n.val).rec_ = min ((s.can.bus n.val).rec_ + 1) 135 ∧
      (t.can.bus n.val).tec = (s.can.bus n.val).tec ∧
      (128 ≤ (s.can.bus n.val).rec_ + 1 → t.can.state n.val = 3) ∧
      rget t.can.regs (rk Reg.CAN_CNT_ERR n.val 0) = incSatField (rget s.can.regs (rk Reg.CAN_CNT_ERR n.val 0)) 15 0 ∧
      t.shell = { (s.at_ a).shell with can := t.can } ∧ s.SameBytes t) ∧
  (∀ (a : At) (n : Fin 4) (s : State), s.canOn n.val = true → s.can.state n.val = 1 →
    ∃ t, exec (.canIntegrationDone a n) s = .next t ∧
      t.can.state n.val = (if 128 ≤ (s.can.bus n.val).tec ∨ 128 ≤ (s.can.bus n.val).rec_ then 3 else 2) ∧
      t.can.buses = s.can.buses ∧ t.shell = { (s.at_ a).shell with can := t.can } ∧ s.SameBytes t)

/-- A frame received counts and goes to the first filter that takes it, which counts it and delivers a single payload word to FLT when it
says so; a frame no filter takes goes nowhere, and a version 2 frame whose guard fails is counted with 0x1E32 and not delivered. SLEEP
waits for the present frame, and is refused in bus-off with 0x1E22; the controller then sleeps with 0x0E20. A write of 0 wakes it, as
does a dominant phase without WAKE_MODE, with 0x0E21, and with WAKE_MODE a frame that is no wake frame leaves it asleep. (R317, R318,
R319, R320, R326, 14_can_fd_drive_link.md) -/
def Obligations.CanReceivingCommands : Prop :=
  (∀ (a : At) (n : Fin 4) (rx : CanWire) (s : State), s.canOn n.val = true → (s.can.state n.val = 2 ∨ s.can.state n.val = 3) →
    (rx.fdf = true → rbit s.can.regs (rk Reg.CAN_CTRL n.val 0) 0 = true) → rx.remote = false →
    ∃ t, exec (.canFrameReceive a n rx) s = .next t ∧
      rget t.can.regs (rk Reg.CAN_CNT_RX n.val 0) = rget s.can.regs (rk Reg.CAN_CNT_RX n.val 0) + 1#32 ∧
      (s.can.filterOf n.val (canRx rx) = none → (t.can.bus n.val).taken = (s.can.bus n.val).taken ∧ t.flt = s.flt) ∧
      (∀ k, s.can.filterOf n.val (canRx rx) = some k → rfld s.can.regs (rk Reg.CAN_RX_CFG n.val k) 2 1 = 0 →
        (t.can.bus n.val).taken =
          sset (fun _ => 0) (s.can.bus n.val).taken k (sget (fun _ => 0) (s.can.bus n.val).taken k + 1) ∧
        (rbit s.can.regs (rk Reg.CAN_RX_CFG n.val k) 3 = false → t.flt = s.flt) ∧
        (∀ v, rbit s.can.regs (rk Reg.CAN_RX_CFG n.val k) 3 = true → (canRx rx).words 0 = [v] → s.islandUp 5 = true →
          hdrEnabled s.hdr Pg.FLT = true →
          t.flt = (Flt.arrive (s.at_ a).tim.time ⟨0x22 + n.val, 256 * k, (s.at_ a).tim.time - rx.age, v⟩ (W.of s.flt)).u)) ∧
      (∀ k, s.can.filterOf n.val (canRx rx) = some k → rfld s.can.regs (rk Reg.CAN_RX_CFG n.val k) 2 1 = 2 →
        (rx.dlc ≠ 13 ∨ wd (leNat (sliceB rx.data 28 4)) ≠ dalsenGuard rx.ident rx.data) →
        (t.can.bus n.val).taken = (s.can.bus n.val).taken ∧ t.flt = s.flt ∧ t.errCode (Pg.CAN + n.val) = 0x1E32 ∧
        rget t.can.regs (rk Reg.CAN_RX_STAT n.val k) = incSatField (rget s.can.regs (rk Reg.CAN_RX_STAT n.val k)) 30 16) ∧
      t.shell = { (s.at_ a).shell with can := t.can } ∧ s.SameBytes t) ∧
  (∀ (a : At) (acc : Accessor) (n : Fin 4) (s : State), s.Admits acc (Pg.CAN + n.val) (Reg.CAN_CTRL % 0x400) →
    rbit s.can.regs (rk Reg.CAN_CTRL n.val 0) 3 = false →
    ∃ t, exec (.sleep a acc n) s = .next t ∧
      (s.can.state n.val ≠ 4 → s.can.state n.val ≠ 5 → (s.can.bus n.val).wokenAt ≠ some (s.at_ a).tim.time →
        (t.can.bus n.val).sleepReq = true ∧ rbit t.can.regs (rk Reg.CAN_CTRL n.val 0) 3 = true) ∧
      (s.can.state n.val = 4 → rbit t.can.regs (rk Reg.CAN_CTRL n.val 0) 3 = false ∧ t.errCode (Pg.CAN + n.val) = 0x1E22 ∧
        (t.can.bus n.val).sleepReq = (s.can.bus n.val).sleepReq) ∧
      t.can.state n.val = s.can.state n.val ∧ (t.can.bus n.val).objs = (s.can.bus n.val).objs ∧ s.SameBytes t) ∧
  (∀ (a : At) (n : Fin 4) (s : State), s.canOn n.val = true → (s.can.bus n.val).sleepReq = true →
    (s.can.state n.val = 1 ∨ s.can.state n.val = 2 ∨ s.can.state n.val = 3) →
    ∃ t, exec (.sleepEnter a n) s = .next t ∧ t.can.state n.val = 5 ∧ (t.can.bus n.val).sleepReq = false ∧
      (t.can.bus n.val).objs = (s.can.bus n.val).objs ∧ t.errCode (Pg.CAN + n.val) = 0x0E20 ∧
      t.shell = { (s.at_ a).shell with can := t.can } ∧ s.SameBytes t) ∧
  (∀ (a : At) (acc : Accessor) (n : Fin 4) (s : State), s.Admits acc (Pg.CAN + n.val) (Reg.CAN_CTRL % 0x400) →
    rbit s.can.regs (rk Reg.CAN_CTRL n.val 0) 3 = true →
    ∃ t, exec (.wakeWrite a acc n) s = .next t ∧ rbit t.can.regs (rk Reg.CAN_CTRL n.val 0) 3 = false ∧
      (t.can.bus n.val).sleepReq = false ∧
      (s.can.state n.val = 5 → t.can.state n.val = 1 ∧ t.errCode (Pg.CAN + n.val) = 0x0E21) ∧
      (s.can.state n.val ≠ 5 → t.can.state n.val = s.can.state n.val) ∧ (t.can.bus n.val).objs = (s.can.bus n.val).objs ∧
      s.SameBytes t) ∧
  (∀ (a : At) (n : Fin 4) (rx : Option CanWire) (s : State), s.canOn n.val = true → s.can.state n.val = 5 →
    ∃ t, exec (.busWake a n rx) s = .next t ∧
      (rbit s.can.regs (rk Reg.CAN_CTRL n.val 0) 4 = false → t.can.state n.val = 1 ∧ t.errCode (Pg.CAN + n.val) = 0x0E21 ∧
        rbit t.can.regs (rk Reg.CAN_CTRL n.val 0) 3 = false ∧ (t.can.bus n.val).taken = (s.can.bus n.val).taken) ∧
      (rbit s.can.regs (rk Reg.CAN_CTRL n.val 0) 4 = true → (∀ f, rx = some f → s.can.wakes n.val (canRx f) = false) → t.can = s.can) ∧
      (∀ f, rbit s.can.regs (rk Reg.CAN_CTRL n.val 0) 4 = true → rx = some f → s.can.wakes n.val (canRx f) = true →
        t.can.state n.val = 1 ∧
        rget t.can.regs (rk Reg.CAN_CNT_RX n.val 0) = rget s.can.regs (rk Reg.CAN_CNT_RX n.val 0) + 1#32) ∧
      t.shell = { (s.at_ a).shell with can := t.can } ∧ s.SameBytes t)

/-- A refresh whose frame failed counts and leaves the inputs as they were. A good one takes the read-back, L+ and, without filtering, the
digital inputs, switches on a commanded output that fits the pool, and switches every driver off at the third refresh below 12 V with
0x2F11. Silence at the logic side sets its flag with 0x2F16; at the group side the drivers hold and switch off once HOLD_S has passed.
An overload switches its set off and blocks it with 0x2F13, an open load records 0x1F14, an inrush grant ends after its 10 ms, and the
set and clear registers change the named outputs alone. (R331, R333, R335, R336, R337, R339, R340, R398, 15_field_channels.md) -/
def Obligations.FieldCommands : Prop :=
  (∀ (a : At) (g : Fin 12) (raw back : BitVec 16) (volts : List Nat) (lplus : Nat) (s : State), s.groupOn g.val = true →
    ∃ t, exec (.fieldRefresh a g false raw back volts lplus) s = .next t ∧
      rget t.fio.regs (rk Reg.FIO_IN g.val 0) = rget s.fio.regs (rk Reg.FIO_IN g.val 0) ∧
      rget t.fio.regs (rk Reg.FIO_CNT_LINK g.val 0) = incSatField (rget s.fio.regs (rk Reg.FIO_CNT_LINK g.val 0)) 15 0 ∧
      (t.fio.group g.val).drv = (s.fio.group g.val).drv ∧ (t.fio.group g.val).missed = min ((s.fio.group g.val).missed + 1) 3 ∧
      t.shell = { (s.at_ a).shell with fio := t.fio } ∧ s.SameBytes t) ∧
  (∀ (a : At) (g : Fin 12) (raw back : BitVec 16) (volts : List Nat) (lplus : Nat) (s : State), s.groupOn g.val = true →
    ∃ t, exec (.fieldRefresh a g true raw back volts lplus) s = .next t ∧
      rfld t.fio.regs (rk Reg.FIO_OUT_RB g.val 0) 15 0 = back.toNat ∧ (t.fio.group g.val).lastGood = (s.at_ a).tim.time ∧
      rget t.fio.regs (rk Reg.FIO_LPLUS g.val 0) = wd (lplus % 65536) ∧ rbit t.fio.regs (rk Reg.FIO_STAT g.val 0) 2 = false ∧
      (t.fio.group g.val).captures = [] ∧ (t.fio.group g.val).holding = none ∧
      (∀ c, c < 16 → (s.fio.mode g.val c = 1 ∨ s.fio.mode g.val c = 2 ∨ s.fio.mode g.val c = 3) → bits (s.fio.cfg g.val c) 6 4 = 0 →
        rbit t.fio.regs (rk Reg.FIO_IN g.val 0) c = raw.getLsbD c) ∧
      (∀ c, c < 16 → (s.fio.mode g.val c = 1 ∨ s.fio.mode g.val c = 2 ∨ s.fio.mode g.val c = 3) →
        ((s.fio.group g.val).chan c).run + 1 < filterSamples (bits (s.fio.cfg g.val c) 6 4) →
        rbit t.fio.regs (rk Reg.FIO_IN g.val 0) c = rbit s.fio.regs (rk Reg.FIO_IN g.val 0) c) ∧
      (lplus < 12000 → 2 ≤ (s.fio.group g.val).below12 → rbit s.fio.regs (rk Reg.FIO_STAT g.val 0) 1 = false →
        (s.fio.group g.val).captures = [] →
        rbit t.fio.regs (rk Reg.FIO_STAT g.val 0) 1 = true ∧ (t.fio.group g.val).drv = 0#16 ∧ t.errCode (Pg.FIO + g.val) = 0x2F11) ∧
      (∀ c, c < 16 → (∀ d, d < 16 → d ≠ c → s.fio.mode g.val d = 0) → s.fio.mode g.val c = 5 → bits (s.fio.cfg g.val c) 9 8 = 0 →
        rbit s.fio.regs (rk Reg.FIO_OUT g.val 0) c = true → 12000 ≤ lplus → rbit s.fio.regs (rk Reg.FIO_STAT g.val 0) 1 = false →
        (s.fio.group g.val).blocked.getLsbD c = false → rbit s.fio.regs (rk Reg.FIO_OUT_RB g.val 0) (16 + c) = false →
        (s.fio.group g.val).expired = false → (s.fio.group g.val).grants = [] → (s.fio.group g.val).drv = 0#16 →
        s.fio.irate g.val c + s.fio.iinr g.val c ≤ 480 →
        (t.fio.group g.val).drv.getLsbD c = true ∧ (t.fio.group g.val).granted = (s.fio.group g.val).granted + 1 ∧
        (t.fio.group g.val).grants = [(c, (s.at_ a).tim.time + 10000000, s.fio.iinr g.val c)]) ∧
      t.shell = { (s.at_ a).shell with fio := t.fio } ∧ s.SameBytes t) ∧
  (∀ (a : At) (g : Fin 12) (s : State), s.groupOn g.val = true → rbit s.fio.regs (rk Reg.FIO_STAT g.val 0) 2 = false →
    ∃ t, exec (.logicSideSilent a g) s = .next t ∧ rbit t.fio.regs (rk Reg.FIO_STAT g.val 0) 2 = true ∧ t.fio.groups = s.fio.groups ∧
      rget t.fio.regs (rk Reg.FIO_CNT_LINK g.val 0) = incSatField (rget s.fio.regs (rk Reg.FIO_CNT_LINK g.val 0)) 31 16 ∧
      t.errCode (Pg.FIO + g.val) = 0x2F16 ∧ t.evtSet (Pg.FIO + g.val) 5 = true ∧
      t.shell = { (s.at_ a).shell with fio := t.fio } ∧ s.SameBytes t) ∧
  (∀ (a : At) (g : Fin 12) (s : State), s.groupOn g.val = true →
    ∃ t, exec (.groupSideHold a g) s = .next t ∧
      (t.fio.group g.val).holding = some (((s.fio.group g.val).holding).getD (s.at_ a).tim.time) ∧
      (t.fio.group g.val).drv = (s.fio.group g.val).drv ∧ t.fio.regs = s.fio.regs ∧
      t.shell = { (s.at_ a).shell with fio := t.fio } ∧ s.SameBytes t) ∧
  (∀ (a : At) (g : Fin 12) (h : Int) (s : State), s.groupOn g.val = true → (s.fio.group g.val).holding = some h →
    ∃ t, exec (.holdExpiry a g) s = .next t ∧
      (rfld s.fio.regs (rk Reg.FIO_CTRL g.val 0) 13 8 ≠ 0 →
        (rfld s.fio.regs (rk Reg.FIO_CTRL g.val 0) 13 8 : Int) * 1000000000 ≤ (s.at_ a).tim.time - h →
        (t.fio.group g.val).drv = 0#16 ∧ (t.fio.group g.val).expired = true) ∧
      ((rfld s.fio.regs (rk Reg.FIO_CTRL g.val 0) 13 8 = 0 ∨
          (s.at_ a).tim.time - h < (rfld s.fio.regs (rk Reg.FIO_CTRL g.val 0) 13 8 : Int) * 1000000000) → t.fio = s.fio) ∧
      t.fio.regs = s.fio.regs ∧ t.shell = { (s.at_ a).shell with fio := t.fio } ∧ s.SameBytes t) ∧
  (∀ (a : At) (g : Fin 12) (c : Fin 16) (s : State), s.groupOn g.val = true →
    (s.fio.group g.val).drv.getLsbD (s.fio.lead g.val c.val) = true → s.fio.lead g.val c.val < 16 →
    ∃ t, exec (.outputOverload a g c) s = .next t ∧ (t.fio.group g.val).drv.getLsbD (s.fio.lead g.val c.val) = false ∧
      (t.fio.group g.val).blocked.getLsbD (s.fio.lead g.val c.val) = true ∧
      rbit t.fio.regs (rk Reg.FIO_FAULT g.val 0) (s.fio.lead g.val c.val) = true ∧
      rget t.fio.regs (rk Reg.FIO_CNT_OVL g.val 0) = incSatField (rget s.fio.regs (rk Reg.FIO_CNT_OVL g.val 0)) 15 0 ∧
      t.errCode (Pg.FIO + g.val) = 0x2F13 ∧ t.evtSet (Pg.FIO + g.val) 3 = true ∧
      t.shell = { (s.at_ a).shell with fio := t.fio } ∧ s.SameBytes t) ∧
  (∀ (a : At) (g : Fin 12) (c : Fin 16) (s : State), s.groupOn g.val = true → bit (s.fio.cfg g.val c.val) 7 = true →
    (s.fio.group g.val).drv.getLsbD c.val = true → rbit s.fio.regs (rk Reg.FIO_FAULT g.val 0) (16 + c.val) = false →
    ∃ t, exec (.openLoad a g c) s = .next t ∧ rbit t.fio.regs (rk Reg.FIO_FAULT g.val 0) (16 + c.val) = true ∧
      t.fio.groups = s.fio.groups ∧ t.errCode (Pg.FIO + g.val) = 0x1F14 ∧ t.evtSet (Pg.FIO + g.val) 4 = true ∧
      t.shell = { (s.at_ a).shell with fio := t.fio } ∧ s.SameBytes t) ∧
  (∀ (a : At) (g : Fin 12) (c : Fin 16) (s : State), s.groupOn g.val = true →
    ∃ t, exec (.inrushGrantExpiry a g c) s = .next t ∧
      (t.fio.group g.val).grants = (s.fio.group g.val).grants.filter (fun x => x.1 != c.val || decide ((s.at_ a).tim.time < x.2.1)) ∧
      (t.fio.group g.val).drv = (s.fio.group g.val).drv ∧ t.fio.regs = s.fio.regs ∧
      t.shell = { (s.at_ a).shell with fio := t.fio } ∧ s.SameBytes t) ∧
  (∀ (a : At) (acc : Accessor) (g : Fin 12) (v : Word) (s : State), s.Admits acc (Pg.FIO + g.val) (Reg.FIO_OUT_SET % 0x400) →
    ∃ t, exec (.outSet a acc g v) s = .next t ∧
      rget t.fio.regs (rk Reg.FIO_OUT g.val 0) = rget s.fio.regs (rk Reg.FIO_OUT g.val 0) ||| (v &&& 0xFFFF#32) ∧
      t.fio.groups = s.fio.groups ∧ t.pageSeq (Pg.FIO + g.val) = s.pageSeq (Pg.FIO + g.val) + 1#32 ∧ s.SameBytes t) ∧
  (∀ (a : At) (acc : Accessor) (g : Fin 12) (v : Word) (s : State), s.Admits acc (Pg.FIO + g.val) (Reg.FIO_OUT_CLR % 0x400) →
    ∃ t, exec (.outClr a acc g v) s = .next t ∧
      rget t.fio.regs (rk Reg.FIO_OUT g.val 0) = rget s.fio.regs (rk Reg.FIO_OUT g.val 0) &&& ~~~(v &&& 0xFFFF#32) ∧
      t.fio.groups = s.fio.groups ∧ t.pageSeq (Pg.FIO + g.val) = s.pageSeq (Pg.FIO + g.val) + 1#32 ∧ s.SameBytes t)

/-- A sentence that passes the checks counts and is stamped, and counts for the first filter its address matches or as no match; one with
a bad character, too long or with a wrong checksum counts in its own field and records its code once a second. A packet of the
transmit firkin is queued, and begins at once on RS-422 and after the idle wait on RS-485; a malformed one is discarded with 0x1F55. A
transmission that ends is sent and counted, or abandoned at a collision with 0x1F54. (R343, R344, R345, R346, R348,
15_field_channels.md) -/
def Obligations.SerialCommands : Prop :=
  (∀ (a : At) (n : Fin 12) (age : Nat) (chars : List Byte) (s : State), s.works (Pg.SER + n.val) = true →
    rfld s.ser.regs (rk Reg.SER_CFG n.val 0) 1 0 ≠ 0 → (skipTag (chars.map (·.toNat))).head? = some Ch.dollar →
    (skipTag (chars.map (·.toNat))).length ≤ 82 →
    (readSentence (skipTag (chars.map (·.toNat)))).checkOk (rbit s.ser.regs (rk Reg.SER_CFG n.val 0) 8) = true →
    ∃ t, exec (.sentenceReceive a n false age chars) s = .next t ∧
      rget t.ser.regs (rk Reg.SER_CNT_RX n.val 0) = rget s.ser.regs (rk Reg.SER_CNT_RX n.val 0) + 1#32 ∧
      rget t.ser.regs (rk Reg.SER_CNT_ERR n.val 0) = rget s.ser.regs (rk Reg.SER_CNT_ERR n.val 0) ∧
      rget t.ser.regs (rk Reg.SER_LAST_TS_L n.val 0) = lo32 (Int.fdiv ((s.at_ a).tim.time - age) 1000 * 1000) ∧
      ((∀ k, k < 16 → rbit s.ser.regs (rk Reg.SER_F_CFG n.val k) 8 = false) →
        rget t.ser.regs (rk Reg.SER_CNT_NOMATCH n.val 0) = rget s.ser.regs (rk Reg.SER_CNT_NOMATCH n.val 0) + 1#32 ∧
        (t.ser.port n.val).taken = (s.ser.port n.val).taken ∧ t.flt = s.flt) ∧
      (∀ k name, k < 16 → (∀ j, j < k → rbit s.ser.regs (rk Reg.SER_F_CFG n.val j) 8 = false) →
        rbit s.ser.regs (rk Reg.SER_F_CFG n.val k) 8 = true → (readSentence (skipTag (chars.map (·.toNat)))).address = some name →
        addressMatches name (rget s.ser.regs (rk Reg.SER_F_ADDR n.val k)) (rfld s.ser.regs (rk Reg.SER_F_CFG n.val k) 7 0) = true →
        (t.ser.port n.val).taken =
          sset (fun _ => 0) (s.ser.port n.val).taken k (sget (fun _ => 0) (s.ser.port n.val).taken k + 1) ∧
        rget t.ser.regs (rk Reg.SER_CNT_NOMATCH n.val 0) = rget s.ser.regs (rk Reg.SER_CNT_NOMATCH n.val 0)) ∧
      t.shell = { (s.at_ a).shell with ser := t.ser } ∧ s.SameBytes t) ∧
  (∀ (a : At) (n : Fin 12) (bad : Bool) (age lo code : Nat) (chars : List Byte) (s : State), s.works (Pg.SER + n.val) = true →
    rfld s.ser.regs (rk Reg.SER_CFG n.val 0) 1 0 ≠ 0 → (skipTag (chars.map (·.toNat))).head? = some Ch.dollar →
    (bad = true ∧ lo = 8 ∧ code = 0x1F51 ∨
      bad = false ∧ 82 < (skipTag (chars.map (·.toNat))).length ∧ lo = 16 ∧ code = 0x1F52 ∨
      bad = false ∧ (skipTag (chars.map (·.toNat))).length ≤ 82 ∧
        (readSentence (skipTag (chars.map (·.toNat)))).checkOk (rbit s.ser.regs (rk Reg.SER_CFG n.val 0) 8) = false ∧
        lo = 0 ∧ code = 0x1F50) →
    ∃ t, exec (.sentenceReceive a n bad age chars) s = .next t ∧
      rget t.ser.regs (rk Reg.SER_CNT_ERR n.val 0) = incSatField (rget s.ser.regs (rk Reg.SER_CNT_ERR n.val 0)) (lo + 7) lo ∧
      rget t.ser.regs (rk Reg.SER_CNT_RX n.val 0) = rget s.ser.regs (rk Reg.SER_CNT_RX n.val 0) ∧
      (t.ser.port n.val).taken = (s.ser.port n.val).taken ∧ t.flt = s.flt ∧
      ((∀ c, c ∈ (s.ser.port n.val).coded → c.1 ≠ code) → t.errCode (Pg.SER + n.val) = code) ∧
      ((code, Int.fdiv (s.at_ a).tim.time 1000000000) ∈ (s.ser.port n.val).coded →
        t.pageErr (Pg.SER + n.val) = s.pageErr (Pg.SER + n.val)) ∧
      t.shell = { (s.at_ a).shell with ser := t.ser } ∧ s.SameBytes t) ∧
  (∀ (a : At) (n : Fin 12) (q : Fin 64) (w0 : Word) (ws : List (Word × Bool)) (s : State), s.works (Pg.SER + n.val) = true →
    s.mode.active = true → rbit s.ser.regs (rk Reg.SER_FQ n.val 0) 14 = true →
    rfld s.ser.regs (rk Reg.SER_FQ n.val 0) 13 8 = q.val → (s.packetFor (0x30 + n.val) q.val).1 = some ((w0, false) :: ws) →
    ∃ t, exec (.serialTxPacket a n q) s = .next t ∧
      (t.fq.firkin q.val).committed = (splitPacket (s.fq.firkin q.val).committed).2 ∧
      (1 ≤ bits w0 9 0 → bits w0 9 0 ≤ 1020 → bits w0 9 0 ≤ 4 * ws.length → ws.all (fun w => !w.2) = true →
        rbit s.ser.regs (rk Reg.SER_CFG n.val 0) 6 = false →
        (t.ser.port n.val).queue = (s.ser.port n.val).queue ++ [(wordsBytes (ws.map (·.1))).take (bits w0 9 0)] ∧
        ((s.ser.port n.val).active = false → (s.ser.port n.val).wait = false →
          ((t.ser.port n.val).wait = true ↔ rfld s.ser.regs (rk Reg.SER_CFG n.val 0) 1 0 = 2) ∧
          ((t.ser.port n.val).active = true ↔ rfld s.ser.regs (rk Reg.SER_CFG n.val 0) 1 0 ≠ 2))) ∧
      ((bits w0 9 0 = 0 ∨ 1020 < bits w0 9 0 ∨ 4 * ws.length < bits w0 9 0 ∨ ws.any (·.2) = true) →
        t.ser = s.ser ∧ t.errCode (Pg.SER + n.val) = 0x1F55) ∧
      t.shell = { (s.at_ a).shell with ser := t.ser } ∧ s.SameBytes t) ∧
  (∀ (a : At) (n : Fin 12) (col : Bool) (d : List Byte) (rest : List (List Byte)) (s : State), s.works (Pg.SER + n.val) = true →
    s.mode.active = true → (s.ser.port n.val).queue = d :: rest → (s.ser.port n.val).active = true →
    ∃ t, exec (.serialTxDone a n col) s = .next t ∧ (t.ser.port n.val).queue = rest ∧
      (rest = [] → (t.ser.port n.val).active = false) ∧
      (col = false → Emit.serial n.val d ∈ t.outbox ∧
        rget t.ser.regs (rk Reg.SER_CNT_TX n.val 0) = rget s.ser.regs (rk Reg.SER_CNT_TX n.val 0) + 1#32) ∧
      (col = true → t.outbox = s.outbox ∧ t.errCode (Pg.SER + n.val) = 0x1F54 ∧
        rget t.ser.regs (rk Reg.SER_CNT_ERR n.val 0) = incSatField (rget s.ser.regs (rk Reg.SER_CNT_ERR n.val 0)) 31 24) ∧
      t.shell = { (s.at_ a).shell with ser := t.ser } ∧ s.SameBytes t) ∧
  (∀ (a : At) (n : Fin 12) (s : State), s.works (Pg.SER + n.val) = true → s.mode.active = true →
    ∃ t, exec (.rs485IdleWaitEnd a n) s = .next t ∧ (t.ser.port n.val).wait = false ∧
      ((s.ser.port n.val).wait = true → (t.ser.port n.val).active = true) ∧
      ((s.ser.port n.val).wait = false → t.ser = s.ser) ∧ t.shell = { (s.at_ a).shell with ser := t.ser } ∧ s.SameBytes t)

/-- An SSI request, by a REQUEST span or by a write, starts a frame, and is refused with 0x1121 while a frame runs or its line is low. A
good frame gives the position and its timestamp, a bad one leaves the position and records 0x2120. A sample on which both lines
changed leaves the count and counts as DOUBLE, one edge moves the count by one in its direction, and one within MIN_INT counts as
FAST. A preset sets the count modulo MOD and REVS to 0 without firing the compare unit; writes of the compare registers arm it. A
tripped encoder supply is off until its retry. (R352, R353, R354, R355, R356, R357, R360, R449, 16_position_interfaces.md) -/
def Obligations.PositionCommands : Prop :=
  (∀ (a : At) (idx : Nat) (line : Bool) (x : Span) (s : State), (s.at_ a).Starts idx x → 0x60 ≤ x.unit → x.unit ≤ 0x77 → x.opcode = 1 →
    s.works (Pg.POS + (x.unit - 0x60)) = true → s.pos.mode (x.unit - 0x60) = 1 →
    ∃ t, exec (.request a idx line) s = .next t ∧ t.seq = s.seq.started idx x true (some (s.at_ a).tick) ∧
      ((s.pos.chan (x.unit - 0x60)).busy (s.at_ a).now = false → line = true →
        (t.pos.chan (x.unit - 0x60)).frame = some (s.at_ a).tim.time ∧
        rbit t.pos.regs (rk Reg.POS_STAT (x.unit - 0x60) 0) 4 = false) ∧
      ((s.pos.chan (x.unit - 0x60)).busy (s.at_ a).now = true ∨ line = false →
        (t.pos.chan (x.unit - 0x60)).frame = (s.pos.chan (x.unit - 0x60)).frame ∧
        rget t.pos.regs (rk Reg.POS_SSI_ERR (x.unit - 0x60) 0) =
          incSatField (rget s.pos.regs (rk Reg.POS_SSI_ERR (x.unit - 0x60) 0)) 31 16 ∧
        ((s.pos.chan (x.unit - 0x60)).refused = false → t.errCode (Pg.POS + (x.unit - 0x60)) = 0x1121)) ∧
      t.shell = { (s.at_ a).shell with
        seq := t.seq
        pos := t.pos
        free := s.free + 1 } ∧ s.SameBytes t) ∧
  (∀ (a : At) (acc : Accessor) (n : Fin 24) (line : Bool) (s : State), s.Admits acc (Pg.POS + n.val) (Reg.POS_REQ % 0x400) →
    s.pos.mode n.val = 1 → posActive s.mode = true →
    ∃ t, exec (.ssiReqWrite a acc n line) s = .next t ∧
      ((s.pos.chan n.val).busy (s.at_ a).now = false → line = true → (t.pos.chan n.val).frame = some (s.at_ a).tim.time) ∧
      ((s.pos.chan n.val).busy (s.at_ a).now = true ∨ line = false →
        (t.pos.chan n.val).frame = (s.pos.chan n.val).frame ∧
        rget t.pos.regs (rk Reg.POS_SSI_ERR n.val 0) = incSatField (rget s.pos.regs (rk Reg.POS_SSI_ERR n.val 0)) 31 16) ∧
      (∀ m, m ≠ n.val → t.pos.chan m = s.pos.chan m) ∧ s.SameBytes t) ∧
  (∀ (a : At) (n : Fin 24) (word : Nat) (high : Bool) (f : Int) (s : State), s.works (Pg.POS + n.val) = true →
    (s.pos.chan n.val).frame = some f → word < 2 ^ rfld s.pos.regs (rk Reg.POS_SSI n.val 0) 21 16 → word < 4294967296 →
    ∃ t, exec (.ssiFrameEnd a n word high) s = .next t ∧ (t.pos.chan n.val).frame = none ∧
      (high = false → rbit s.pos.regs (rk Reg.POS_SSI_FMT n.val 0) 8 = false →
        rget t.pos.regs (rk Reg.POS_SSI_RAW n.val 0) = wd word ∧
        rget t.pos.regs (rk Reg.POS_SSI_POS n.val 0) = wd (s.pos.position n.val word) ∧
        rget t.pos.regs (rk Reg.POS_TS_L n.val 0) = lo32 f ∧ rget t.pos.regs (rk Reg.POS_TS_H n.val 0) = hi32 f ∧
        rbit t.pos.regs (rk Reg.POS_STAT n.val 0) 3 = false ∧
        ((s.pos.chan n.val).failed = true → t.errCode (Pg.POS + n.val) = 0x0122)) ∧
      (high = true →
        rget t.pos.regs (rk Reg.POS_SSI_POS n.val 0) = rget s.pos.regs (rk Reg.POS_SSI_POS n.val 0) ∧
        rget t.pos.regs (rk Reg.POS_SSI_ERR n.val 0) = incSatField (rget s.pos.regs (rk Reg.POS_SSI_ERR n.val 0)) 15 0 ∧
        rbit t.pos.regs (rk Reg.POS_STAT n.val 0) 3 = true ∧ t.flt = s.flt ∧
        (rbit s.pos.regs (rk Reg.POS_STAT n.val 0) 3 = false → t.errCode (Pg.POS + n.val) = 0x2120)) ∧
      t.shell = { (s.at_ a).shell with pos := t.pos } ∧ s.SameBytes t) ∧
  (∀ (at_ : At) (n : Fin 24) (a b : Bool) (s : State), s.works (Pg.POS + n.val) = true → s.pos.mode n.val = 2 → posActive s.mode = true →
    ∃ t, exec (.quadTransition at_ n a b) s = .next t ∧
      ((s.pos.chan n.val).ref = BitVec.ofNat 2 (b2n a + 2 * b2n b) → t.pos.regs = s.pos.regs ∧ t.fio = s.fio) ∧
      ((s.pos.chan n.val).ref ^^^ BitVec.ofNat 2 (b2n a + 2 * b2n b) = 3#2 →
        rget t.pos.regs (rk Reg.POS_COUNT n.val 0) = rget s.pos.regs (rk Reg.POS_COUNT n.val 0) ∧
        rget t.pos.regs (rk Reg.POS_FAULT n.val 0) = incSatField (rget s.pos.regs (rk Reg.POS_FAULT n.val 0)) 31 16 ∧
        (t.pos.chan n.val).ref = BitVec.ofNat 2 (b2n a + 2 * b2n b) ∧ t.fio = s.fio ∧
        ((s.pos.chan n.val).dblRun = false → t.errCode (Pg.POS + n.val) = 0x1111)) ∧
      (((s.pos.chan n.val).ref ^^^ BitVec.ofNat 2 (b2n a + 2 * b2n b) = 1#2 ∨
          (s.pos.chan n.val).ref ^^^ BitVec.ofNat 2 (b2n a + 2 * b2n b) = 2#2) →
        (∀ e, (s.pos.chan n.val).edgeAt = some e → s.pos.minSamples n.val ≤ samplesBetween (s.at_ at_).now e) →
        rget s.pos.regs (rk Reg.POS_MOD n.val 0) = 0#32 →
        rget t.pos.regs (rk Reg.POS_COUNT n.val 0) = rget s.pos.regs (rk Reg.POS_COUNT n.val 0) +
          (if aLeads (s.pos.chan n.val).ref (BitVec.ofNat 2 (b2n a + 2 * b2n b)) != rbit s.pos.regs (rk Reg.POS_CFG n.val 0) 3
            then 1#32 else 0xFFFFFFFF#32) ∧
        (t.pos.chan n.val).ref = BitVec.ofNat 2 (b2n a + 2 * b2n b) ∧ (t.pos.chan n.val).edgeAt = some (s.at_ at_).now) ∧
      (((s.pos.chan n.val).ref ^^^ BitVec.ofNat 2 (b2n a + 2 * b2n b) = 1#2 ∨
          (s.pos.chan n.val).ref ^^^ BitVec.ofNat 2 (b2n a + 2 * b2n b) = 2#2) →
        (∃ e, (s.pos.chan n.val).edgeAt = some e ∧ samplesBetween (s.at_ at_).now e < s.pos.minSamples n.val) →
        (s.pos.chan n.val).fast = 0#2 →
        rget t.pos.regs (rk Reg.POS_COUNT n.val 0) = rget s.pos.regs (rk Reg.POS_COUNT n.val 0) ∧
        rget t.pos.regs (rk Reg.POS_FAULT n.val 0) = incSatField (rget s.pos.regs (rk Reg.POS_FAULT n.val 0)) 15 0 ∧
        (t.pos.chan n.val).ref = (s.pos.chan n.val).ref ∧
        ((s.pos.chan n.val).fastRun = false → t.errCode (Pg.POS + n.val) = 0x1110)) ∧
      t.shell = { (s.at_ at_).shell with
        pos := t.pos
        fio := t.fio } ∧ s.SameBytes t) ∧
  (∀ (a : At) (acc : Accessor) (n : Fin 24) (v : Word) (s : State), s.Admits acc (Pg.POS + n.val) (Reg.POS_COUNT % 0x400) →
    ∃ t, exec (.countPreset a acc n v) s = .next t ∧
      rget t.pos.regs (rk Reg.POS_COUNT n.val 0) =
        (if rget s.pos.regs (rk Reg.POS_MOD n.val 0) = 0#32 then v
          else wd (v.toNat % (rget s.pos.regs (rk Reg.POS_MOD n.val 0)).toNat)) ∧
      rget t.pos.regs (rk Reg.POS_REVS n.val 0) = 0#32 ∧
      rget t.pos.regs (rk Reg.POS_CMP_STAT n.val 0) = rget s.pos.regs (rk Reg.POS_CMP_STAT n.val 0) ∧
      t.pos.chans = s.pos.chans ∧ t.pageSeq (Pg.POS + n.val) = s.pageSeq (Pg.POS + n.val) + 1#32 ∧ s.SameBytes t) ∧
  (∀ (a : At) (acc : Accessor) (n : Fin 24) (cfg : Bool) (v : Word) (s : State),
    s.Admits acc (Pg.POS + n.val) ((if cfg then Reg.POS_CMP_CFG else Reg.POS_CMP) % 0x400) →
    ∃ t, exec (.compareArm a acc n cfg v) s = .next t ∧
      (cfg = false → rget t.pos.regs (rk Reg.POS_CMP n.val 0) = v ∧ rbit t.pos.regs (rk Reg.POS_CMP_STAT n.val 0) 0 = true) ∧
      (cfg = true → rget t.pos.regs (rk Reg.POS_CMP_CFG n.val 0) = v &&& 0xF#32 ∧
        rbit t.pos.regs (rk Reg.POS_CMP_STAT n.val 0) 0 = (bit v 0 || rbit s.pos.regs (rk Reg.POS_CMP_STAT n.val 0) 0)) ∧
      rbit t.pos.regs (rk Reg.POS_CMP_STAT n.val 0) 2 = rbit s.pos.regs (rk Reg.POS_CMP_STAT n.val 0) 2 ∧
      rget t.pos.regs (rk Reg.POS_COUNT n.val 0) = rget s.pos.regs (rk Reg.POS_COUNT n.val 0) ∧ t.pos.chans = s.pos.chans ∧
      s.SameBytes t) ∧
  (∀ (a : At) (o : Fin 4) (s : State), ∃ t, exec (.esFuseTrip a o) s = .next t ∧
    t = { s.at_ a with esOff := t.esOff } ∧
    (s.mode.esOn = true → ∀ k, k < 4 → t.esOff.getLsbD k = (decide (k = o.val) || s.esOff.getLsbD k)) ∧
    (s.mode.esOn = false → t.esOff = s.esOff)) ∧
  (∀ (a : At) (o : Fin 4) (s : State), ∃ t, exec (.esFuseRetry a o) s = .next t ∧
    t = { s.at_ a with esOff := t.esOff } ∧ ∀ k, k < 4 → t.esOff.getLsbD k = (decide (k ≠ o.val) && s.esOff.getLsbD k))

/-- A LATCH completes at its START. The input record takes the fathom number and, of the classes its ARG names, the present field inputs
and counts, and keeps the rest; a class whose bit is 0 stays as it was, and the counts of sentences and frames since the last latch
are frozen and begin anew. (R44, R272, R301, R317, R346, R359, 02_furlong_sequencer.md) -/
def Obligations.LatchCommand : Prop :=
  ∀ (a : At) (idx : Nat) (lines : BitVec 24) (x : Span) (s : State), (s.at_ a).Starts idx x → x.unit = 0x7F → x.opcode = 1 →
    ∃ t, exec (.latch a idx lines) s = .next t ∧ t.seq = s.seq.started idx x true (some (s.at_ a).tick) ∧
      wordAt t.chn.latched 0 = wd s.seq.count ∧ wordAt t.chn.latched 1 = t.chn.applied ∧
      (∀ k, k < 6 → wordAt t.chn.latched (2 + k) =
        (if bit x.arg 0 then s.fio.pairWord k else wordAt s.chn.latched (2 + k))) ∧
      (∀ n, n < 24 → wordAt t.chn.latched (9 + n) =
        (if bit x.arg 1 then s.pos.latchedValue n else wordAt s.chn.latched (9 + n))) ∧
      (bit x.arg 0 = false → t.fio = s.fio) ∧ (bit x.arg 1 = false → t.pos = s.pos) ∧
      (∀ n, bit x.arg 1 = true → n < 24 → s.works (Pg.POS + n) = true → s.pos.mode n = 2 →
        rget t.pos.regs (rk Reg.POS_SPEED n 0) = s.pos.speedAt n (s.at_ a).now ∧ (t.pos.chan n).edges = 0 ∧ (t.pos.chan n).span = 0) ∧
      (bit x.arg 2 = false → t.ser = s.ser) ∧
      (∀ n, bit x.arg 2 = true → n < 12 → s.works (Pg.SER + n) = true → (t.ser.port n).taken = [] ∧
        ∀ k, k < 16 → rfld t.ser.regs (rk Reg.SER_F_STAT n k) 15 0 = min (sget (fun _ => 0) (s.ser.port n).taken k) 65535) ∧
      (bit x.arg 3 = false → t.can = s.can) ∧
      (∀ n, bit x.arg 3 = true → n < 4 → s.works (Pg.CAN + n) = true → (t.can.bus n).taken = [] ∧
        ∀ k, k < 128 → rfld t.can.regs (rk Reg.CAN_RX_STAT n k) 15 0 = min (sget (fun _ => 0) (s.can.bus n).taken k) 65535) ∧
      (bit x.arg 5 = false → t.net = s.net) ∧
      (bit x.arg 5 = true → s.works Pg.PRP = true → t.net.sentences = [] ∧
        ∀ k, k < 32 → rfld t.net.regs (rk Reg.PRP_F_STAT 0 k) 15 0 = min (sget (fun _ => 0) s.net.sentences k) 65535) ∧
      t.second = s.second ∧
      t.shell = { (s.at_ a).shell with
        seq := t.seq
        fio := t.fio
        pos := t.pos
        ser := t.ser
        can := t.can
        net := t.net
        chn := t.shell.chn
        free := s.free + 1 }

/-- At a SAFC cycle a raw level that has stood for its filter time is the filtered state and a new level is not yet; in RUN no instance
whose used inputs are not in their permit state permits its outputs, in either channel. A pair that disagrees beyond DISC goes to
LOCKOUT with DISCREP, a two-hand control whose second button is late goes to SYNC with its flag, a DEGRADED instance whose time is
over goes to LOCKOUT. A taken reset acts on exactly the instances that name the reset input: WAIT without demand permits, LOCKOUT
clears to PERMIT or STOP unless an output has a switch that does not open or a pair still disagrees. A press held for 5 s is reported
once as 0x11B8 and resets nothing. (R365, R367, R368, R369, R370, R371, R381, R382, 17_safety_layer.md) -/
def Obligations.SafetyFunctionCommands : Prop :=
  (∀ (a : At) (raw : BitVec 32) (work : Nat) (s : State), s.pageUp Pg.SAFC = true →
    ∃ t, exec (.safcCycle a raw work) s = .next t ∧ t.saf.c.raw = raw ∧ t.saf.layer = s.saf.layer ∧ t.saf.set = s.saf.set ∧
      (∀ i, i < 32 → s.saf.c.raw.getLsbD i = raw.getLsbD i →
        sget (fun _ => 0) s.saf.c.since i + inFilter s.saf.set i ≤ (s.at_ a).now → t.saf.c.filt.getLsbD i = raw.getLsbD i) ∧
      (∀ i, i < 32 → s.saf.c.raw.getLsbD i ≠ raw.getLsbD i → t.saf.c.filt.getLsbD i = s.saf.c.filt.getLsbD i) ∧
      (∀ isC i, i < 16 → s.saf.layer = 2 → recEn s.saf.set i = true → permitState s.saf.set (t.saf.chan isC).filt i = false →
        ((t.saf.chan isC).inst i).permits = false) ∧
      (s.saf.layer ≠ 2 → s.saf.sameInsts t.saf) ∧ t.shell = { (s.at_ a).shell with saf := t.saf } ∧ s.SameBytes t) ∧
  (∀ (a : At) (raw : BitVec 32) (s : State), s.pageUp Pg.SAFC = true →
    ∃ t, exec (.safetyInputChange a raw) s = .next t ∧ t.saf.h.raw = raw ∧ t.saf.c = s.saf.c ∧
      (∀ i, i < 32 → sget (fun _ => 0) s.saf.h.since i + inFilter s.saf.set i ≤ (s.at_ a).now →
        t.saf.h.filt.getLsbD i = s.saf.h.raw.getLsbD i) ∧
      (∀ i, i < 32 → (s.at_ a).now < sget (fun _ => 0) s.saf.h.since i + inFilter s.saf.set i →
        t.saf.h.filt.getLsbD i = s.saf.h.filt.getLsbD i) ∧
      (∀ i, i < 16 → s.saf.layer = 2 → recEn s.saf.set i = true → permitState s.saf.set t.saf.h.filt i = false →
        (t.saf.h.inst i).permits = false) ∧ t.shell = { (s.at_ a).shell with saf := t.saf } ∧ s.SameBytes t) ∧
  (∀ (a : At) (n : Fin 16) (s : State), s.pageUp Pg.SAFC = true →
    ∃ t, exec (.discrepancyTimeout a n) s = .next t ∧
      (∀ isC disc, disc = 1000000 * bits (recWord s.saf.set n.val 2) 31 16 →
        (s.saf.layer = 2 → recEn s.saf.set n.val = true → ((s.saf.chan isC).inst n.val).discrep = false →
          (overdue ((s.saf.chan isC).inst n.val).pairAB (s.at_ a).now disc = true ∨
            overdue ((s.saf.chan isC).inst n.val).pairCD (s.at_ a).now disc = true) →
          ((t.saf.chan isC).inst n.val).state = 5 ∧ ((t.saf.chan isC).inst n.val).discrep = true ∧
          ((t.saf.chan isC).inst n.val).faults = satInc 16 ((s.saf.chan isC).inst n.val).faults) ∧
        (overdue ((s.saf.chan isC).inst n.val).pairAB (s.at_ a).now disc = false →
          overdue ((s.saf.chan isC).inst n.val).pairCD (s.at_ a).now disc = false →
          (t.saf.chan isC).inst n.val = (s.saf.chan isC).inst n.val)) ∧
      (∀ isC i, i ≠ n.val → (t.saf.chan isC).inst i = (s.saf.chan isC).inst i) ∧ t.shell = { (s.at_ a).shell with saf := t.saf } ∧ s.SameBytes t) ∧
  (∀ (a : At) (n : Fin 16) (s : State), s.pageUp Pg.SAFC = true →
    ∃ t, exec (.twohandSyncTimeout a n) s = .next t ∧
      (∀ isC, s.saf.layer = 2 → recEn s.saf.set n.val = true → recType s.saf.set n.val = 3 →
        ((s.saf.chan isC).inst n.val).state = 1 → overdue ((s.saf.chan isC).inst n.val).firstAt (s.at_ a).now 500000000 = true →
        ((t.saf.chan isC).inst n.val).state = 6 ∧ ((t.saf.chan isC).inst n.val).sync = true) ∧
      (∀ isC, overdue ((s.saf.chan isC).inst n.val).firstAt (s.at_ a).now 500000000 = false →
        (t.saf.chan isC).inst n.val = (s.saf.chan isC).inst n.val) ∧
      (∀ isC i, i ≠ n.val → (t.saf.chan isC).inst i = (s.saf.chan isC).inst i) ∧ t.shell = { (s.at_ a).shell with saf := t.saf } ∧ s.SameBytes t) ∧
  (∀ (a : At) (n : Fin 16) (s : State), s.pageUp Pg.SAFC = true →
    ∃ t, exec (.degradedExpiry a n) s = .next t ∧
      (∀ isC limit, limit = 1000000000 * bits (recWord s.saf.set n.val 3) 10 0 →
        (s.saf.layer = 2 → ((s.saf.chan isC).inst n.val).state = 4 →
          overdue ((s.saf.chan isC).inst n.val).degAt (s.at_ a).now limit = true → ((t.saf.chan isC).inst n.val).state = 5) ∧
        (overdue ((s.saf.chan isC).inst n.val).degAt (s.at_ a).now limit = false →
          (t.saf.chan isC).inst n.val = (s.saf.chan isC).inst n.val)) ∧
      (∀ isC i, i ≠ n.val → (t.saf.chan isC).inst i = (s.saf.chan isC).inst i) ∧ t.shell = { (s.at_ a).shell with saf := t.saf } ∧ s.SameBytes t) ∧
  (∀ (a : At) (j : Fin 32) (s : State), s.pageUp Pg.SAFC = true →
    ∃ t u, exec (.resetTaken a j) s = .next t ∧ u = s.saf.judged (s.at_ a).now ∧
      (∀ isC i x, x = (u.chan isC).inst i → s.saf.layer = 2 → u.pressed.getLsbD j.val = true → i < 16 → recEn s.saf.set i = true →
        recRst s.saf.set i = j.val →
        (x.state = 2 → ((t.saf.chan isC).inst i).state = if x.demand then 2 else 3) ∧
        (x.state = 5 → u.soFault i = true → (t.saf.chan isC).inst i = x) ∧
        (x.state = 5 → (x.pairAB ≠ none ∨ x.pairCD ≠ none) → (t.saf.chan isC).inst i = x) ∧
        (x.state = 5 → u.soFault i = false → x.pairAB = none → x.pairCD = none →
          ((t.saf.chan isC).inst i).state = (if x.demand then 1 else 3) ∧ ((t.saf.chan isC).inst i).discrep = false ∧
          ((t.saf.chan isC).inst i).xcmp = false) ∧
        (x.state ≠ 2 → x.state ≠ 5 → (t.saf.chan isC).inst i = x)) ∧
      (∀ isC i, (recEn s.saf.set i = false ∨ recRst s.saf.set i ≠ j.val ∨ u.pressed.getLsbD j.val = false) →
        (t.saf.chan isC).inst i = (u.chan isC).inst i) ∧
      (s.saf.layer = 2 → t.saf.pressed.getLsbD j.val = false) ∧ t.shell = { (s.at_ a).shell with saf := t.saf } ∧ s.SameBytes t) ∧
  (∀ (a : At) (j : Fin 32) (s : State), s.pageUp Pg.SAFC = true →
    ∃ t u, exec (.resetHeld a j) s = .next t ∧ u = s.saf.advance false (s.at_ a).now ∧
      (s.saf.layer = 2 → inKind s.saf.set j.val = 2 → u.h.filt.getLsbD j.val = true →
        5000000000 ≤ (s.at_ a).now - sget (fun _ => 0) u.h.closedAt j.val → rbit s.saf.regs Reg.SAFC_RST_STAT j.val = false →
        rbit t.saf.regs Reg.SAFC_RST_STAT j.val = true ∧ t.errCode Pg.SAFC = 0x11B8) ∧
      s.saf.sameInsts t.saf ∧ t.shell = { (s.at_ a).shell with saf := t.saf } ∧ s.SameBytes t)

/-- A lost oscillator, a missing alive signal, a failed self-test or parity locks the layer: no channel closes any switch from then on. A
test of a switch that fails marks it as one that does not open (and every instance that maps the output reacts) or one that does not
close, two passes clear its marks; SFO_SUPPLY shows SL+. An overload or SL+ below 16 V opens both switches of the output until its
request has been seen 0 and then 1, the latter also until SL+ is back at 17 V. (R365, R366, R372, R373, R374, R381, R387,
17_safety_layer.md) -/
def Obligations.SafetyOutputCommands : Prop :=
  (∀ (a : At) (khz : Nat) (s : State), s.pageUp Pg.SAFC = true →
    ∃ t, exec (.safetyOscFault a khz) s = .next t ∧ t.saf.layer = 3 ∧ (∀ isC k, t.saf.closes isC k = false) ∧ t.errCode Pg.SAFH = 0x41C0 ∧
      rget t.saf.regs Reg.SAFH_OSC = wd (khz % 65536) ∧
      t.shell = { (s.at_ a).shell with saf := t.saf } ∧ s.SameBytes t) ∧
  (∀ (a : At) (s : State), s.pageUp Pg.SAFC = true →
    ∃ t, exec (.safcAliveMissing a) s = .next t ∧ t.saf.layer = 3 ∧ (∀ isC k, t.saf.closes isC k = false) ∧ t.errCode Pg.SAFH = 0x41C1 ∧
      t.shell = { (s.at_ a).shell with saf := t.saf } ∧ s.SameBytes t) ∧
  (∀ (a : At) (block : Bool) (s : State), s.pageUp Pg.SAFC = true →
    ∃ t, exec (.safcSelfTestFail a block) s = .next t ∧ t.saf.layer = 3 ∧ (∀ isC k, t.saf.closes isC k = false) ∧ t.errCode Pg.SAFC = (if block then 0x40C6 else 0x41C2) ∧
      t.shell = { (s.at_ a).shell with saf := t.saf } ∧ s.SameBytes t) ∧
  (∀ (a : At) (s : State), s.pageUp Pg.SAFC = true →
    ∃ t, exec (.safhParityFail a) s = .next t ∧ t.saf.layer = 3 ∧ (∀ isC k, t.saf.closes isC k = false) ∧ t.errCode Pg.SAFH = 0x41C3 ∧
      t.shell = { (s.at_ a).shell with saf := t.saf } ∧ s.SameBytes t) ∧
  (∀ (a : At) (k : Fin 8) (low : Bool) (vp vm sl mA : Nat) (on pass : Bool) (s : State), s.pageUp Pg.SAFC = true → s.saf.layer = 2 →
    setSoEn s.saf.set k.val = true → on = (s.saf.closes true k.val && s.saf.closes false k.val) →
    pass = (if on then (if low then decide (sl < vm + 5000) else decide (vp < 5000))
      else if low then decide (vm < 2000) else decide (sl < vp + 2000)) →
    ∃ t, exec (.sfoTestPulse a k low vp vm sl mA) s = .next t ∧ rget t.saf.regs Reg.SFO_SUPPLY = wd (sl % 65536) ∧
      rget t.saf.regs (rk Reg.SFO_O_I 0 k.val) = wd (mA % 4096) ∧
      (pass = false → on = true →
        (if low then (t.saf.out k.val).lsOn else (t.saf.out k.val).hsOn) = true ∧
        ((if low then (s.saf.out k.val).lsOn else (s.saf.out k.val).hsOn) = false → s.saf.reacted t.saf k.val)) ∧
      (pass = false → on = false →
        (if low then (t.saf.out k.val).lsOff else (t.saf.out k.val).hsOff) = true ∧ s.saf.sameInsts t.saf) ∧
      (pass = true → s.saf.sameInsts t.saf) ∧
      (pass = true → low = false → 1 ≤ (s.saf.out k.val).hsPass →
        (t.saf.out k.val).hsOn = false ∧ (t.saf.out k.val).hsOff = false) ∧
      (pass = true → low = true → 1 ≤ (s.saf.out k.val).lsPass →
        (t.saf.out k.val).lsOn = false ∧ (t.saf.out k.val).lsOff = false) ∧
      (pass = true → low = false → (s.saf.out k.val).hsPass = 0 →
        (t.saf.out k.val).hsOn = (s.saf.out k.val).hsOn ∧ (t.saf.out k.val).hsPass = 1) ∧
      t.shell = { (s.at_ a).shell with saf := t.saf } ∧ s.SameBytes t) ∧
  (∀ (a : At) (k : Fin 8) (low : Bool) (s : State), s.pageUp Pg.SAFC = true → s.saf.layer = 2 → setSoEn s.saf.set k.val = true →
    ∃ t, exec (.readbackMismatch a k low) s = .next t ∧
      rget t.saf.regs (rk Reg.SFO_O_CNT 0 k.val) =
        incSatField (incWrapField (rget s.saf.regs (rk Reg.SFO_O_CNT 0 k.val)) 15 0) 31 16 ∧
      (s.saf.closes (!low) k.val = false →
        (if low then (t.saf.out k.val).lsOn else (t.saf.out k.val).hsOn) = true ∧
        ((if low then (s.saf.out k.val).lsOn else (s.saf.out k.val).hsOn) = false → s.saf.reacted t.saf k.val)) ∧
      (s.saf.closes (!low) k.val = true →
        (if low then (t.saf.out k.val).lsOff else (t.saf.out k.val).hsOff) = true ∧ s.saf.sameInsts t.saf) ∧
      t.shell = { (s.at_ a).shell with saf := t.saf } ∧ s.SameBytes t) ∧
  (∀ (a : At) (k : Fin 8) (s : State), s.pageUp Pg.SAFC = true →
    ∃ t, exec (.safetyOutputOverload a k) s = .next t ∧
      (s.saf.conducts k.val = true → (t.saf.out k.val).ovl = true ∧ (∀ isC, t.saf.closes isC k.val = false) ∧
        t.errCode Pg.SFO = 0x21C6) ∧
      (s.saf.conducts k.val = false → t.saf = s.saf ∧ t.pageErr Pg.SFO = s.pageErr Pg.SFO) ∧ s.saf.sameInsts t.saf ∧
      t.shell = { (s.at_ a).shell with saf := t.saf } ∧ s.SameBytes t) ∧
  (∀ (a : At) (sl : Nat) (s : State), s.pageUp Pg.SAFC = true →
    ∃ t, exec (.slUndervoltage a sl) s = .next t ∧ rget t.saf.regs Reg.SFO_SUPPLY = wd (sl % 65536) ∧ s.saf.sameInsts t.saf ∧
      (sl < 16000 → (∀ k, k < 8 → (t.saf.out k).uv = true ∧ (t.saf.out k).wait = true ∧ ∀ isC, t.saf.closes isC k = false) ∧
        ((∀ k, k < 8 → (s.saf.out k).uv = false) → t.errCode Pg.SFO = 0x21C7)) ∧
      (16000 ≤ sl → t.saf.outs = s.saf.outs) ∧
      t.shell = { (s.at_ a).shell with saf := t.saf } ∧ s.SameBytes t) ∧
  (∀ (a : At) (sl : Nat) (s : State), s.pageUp Pg.SAFC = true →
    ∃ t, exec (.slRecovery a sl) s = .next t ∧ rget t.saf.regs Reg.SFO_SUPPLY = wd (sl % 65536) ∧ s.saf.sameInsts t.saf ∧
      (17000 ≤ sl → ∀ k, k < 8 → (t.saf.out k).uv = false ∧
        ((s.saf.out k).wait = true → (s.saf.out k).seen0 = false → (t.saf.out k).wait = true ∧ ∀ isC, t.saf.closes isC k = false)) ∧
      (sl < 17000 → t.saf.outs = s.saf.outs) ∧
      t.shell = { (s.at_ a).shell with saf := t.saf } ∧ s.SameBytes t)

/-- In CONFIG and SERVICE a write of SAFC_P_DATA stores into the staging copy at the window, which moves on, and undoes CHECKED and
CONFIRMED; elsewhere it changes nothing and records 0x11A2. A check shows the check value of the staging copy to both channels and the
result of the validation. A confirmation refused gives its REASON and 0x11A1 and stores nothing; one accepted stores the 1,280 bytes
in the region not active, which becomes the active one. A refresh gives the request bits to the channels it reached; a channel without
one for 1 ms reports 0x21C8 and, with REQ_LOSS 0, opens its switches. (R377, R378, R379, R384, R425, 17_safety_layer.md) -/
def Obligations.SafetySetCommands : Prop :=
  (∀ (a : At) (acc : Accessor) (v : Word) (i : Nat) (s : State), s.Admits acc Pg.SAFC (Reg.SAFC_P_DATA % 0x400) →
    i = rfld s.saf.regs Reg.SAFC_P_WIN 8 0 →
    ∃ t, exec (.stagingWrite a acc v) s = .next t ∧
      ((s.mode = .config ∨ s.mode = .service) →
        t.saf.staging = (if i < 320 then sset (fun _ => (0 : Word)) s.saf.staging i v else s.saf.staging) ∧
        rfld t.saf.regs Reg.SAFC_P_WIN 8 0 = (i + 1) % 512 ∧ rbit t.saf.regs Reg.SAFC_CONF_STAT 0 = false ∧
        rbit t.saf.regs Reg.SAFC_CONF_STAT 1 = false) ∧
      (s.mode ≠ .config → s.mode ≠ .service → t.saf.staging = s.saf.staging ∧ t.errCode Pg.SAFC = 0x11A2) ∧
      t.saf.layer = s.saf.layer ∧ t.saf.set = s.saf.set ∧ t.saf.active = s.saf.active ∧ s.saf.sameInsts t.saf ∧ s.SameBytes t) ∧
  (∀ (a : At) (acc : Accessor) (s : State), s.Admits acc Pg.SAFC (Reg.SAFC_P_LOAD % 0x400) →
    ∃ t, exec (.safetyParamCheck a acc) s = .next t ∧ rget t.saf.regs Reg.SAFC_CHECK = checkValue s.saf.stagingSet ∧
      rget t.saf.regs Reg.SAFH_CHECK = checkValue s.saf.stagingSet ∧
      rbit t.saf.regs Reg.SAFC_CONF_STAT 0 = decide ((validate s.saf.stagingSet).1 = 0) ∧
      rbit t.saf.regs Reg.SAFC_CONF_STAT 1 = false ∧ rfld t.saf.regs Reg.SAFC_CONF_STAT 11 8 = (validate s.saf.stagingSet).1 ∧
      t.saf.staging = s.saf.staging ∧ t.saf.layer = s.saf.layer ∧ t.saf.set = s.saf.set ∧ t.saf.active = s.saf.active ∧
      s.saf.sameInsts t.saf ∧ s.SameBytes t) ∧
  (∀ (a : At) (acc : Accessor) (v : Word) (s : State), s.Admits acc Pg.SAFC (Reg.SAFC_CONFIRM % 0x400) →
    ∃ t, exec (.confirm a acc v) s = .next t ∧
      (∀ r i, s.saf.confirmFault (s.feature 12) s.mode v = some (r, i) →
        rfld t.saf.regs Reg.SAFC_CONF_STAT 7 4 = r ∧ t.errCode Pg.SAFC = 0x11A1 ∧ t.saf.active = s.saf.active ∧
        t.saf.valueA = s.saf.valueA ∧ t.saf.valueB = s.saf.valueB ∧ s.SameBytes t) ∧
      (s.saf.confirmFault (s.feature 12) s.mode v = none →
        ∃ b, b = (s.saf.active == some false) ∧ t.saf.active = some b ∧ (if b then t.saf.valueB else t.saf.valueA) = v ∧
        (if b then t.saf.valueA = s.saf.valueA else t.saf.valueB = s.saf.valueB) ∧
        rbit t.saf.regs Reg.SAFC_CONF_STAT 1 = true ∧ rbit t.saf.regs Reg.SAFC_CONF_STAT 2 = true ∧ t.errCode Pg.SAFC = 0x01A0 ∧
        (∀ k, k < 1280 → t.mem.byte (safRegion b + k) = (wordsBytes s.saf.stagingSet).getD k 0) ∧
        s.SameBytesBut t (safRegion b) 1280) ∧
      t.saf.staging = s.saf.staging ∧ t.saf.layer = s.saf.layer ∧ t.saf.set = s.saf.set ∧ s.saf.sameInsts t.saf) ∧
  (∀ (a : At) (toC toH : Bool) (s : State), s.pageUp Pg.SAFC = true →
    ∃ t, exec (.reqRefresh a toC toH) s = .next t ∧
      (∀ isC, (if isC then toC else toH) = true →
        (t.saf.chan isC).req = BitVec.ofNat 8 (rfld s.saf.regs Reg.SFO_REQ 7 0) ∧ (t.saf.chan isC).reqAt = (s.at_ a).now ∧
        (t.saf.chan isC).lost = false) ∧
      (∀ isC, (if isC then toC else toH) = false → t.saf.chan isC = s.saf.chan isC) ∧ s.saf.sameInsts t.saf ∧
      t.shell = { (s.at_ a).shell with saf := t.saf } ∧ s.SameBytes t) ∧
  (∀ (a : At) (isC : Bool) (s : State), s.pageUp Pg.SAFC = true →
    ∃ t, exec (.reqLoss a isC) s = .next t ∧
      (1 ≤ s.saf.layer → (s.saf.chan isC).lost = false → 1000000 ≤ (s.at_ a).now - (s.saf.chan isC).reqAt →
        (t.saf.chan isC).lost = true ∧ t.errCode (safPage isC) = 0x21C8 ∧
        (bit (setWord s.saf.set 3) 24 = false → ∀ k, t.saf.closes isC k = false)) ∧
      ((s.at_ a).now - (s.saf.chan isC).reqAt < 1000000 → t.saf = s.saf) ∧
      t.saf.chan (!isC) = s.saf.chan (!isC) ∧ s.saf.sameInsts t.saf ∧
      t.shell = { (s.at_ a).shell with saf := t.saf } ∧ s.SameBytes t)

/-- PWR_VIN is the lowest sample of the last millisecond. A lower ceiling takes effect at once and cuts grants until the total fits, class
2 before class 1 and higher CUT_RANK first; a higher one waits 1 s. A decision grants only what fits under the ceiling, takes no grant
away, and answers every active requester with granted or waiting; a supply warning suspends it. A warning that is due cuts every class
1 and class 2 grant, records 0x2155 and stores OPTIME and PCYC in the older copy; it ends once V has been above 6 V for 10 ms. The
input protection disconnects above its limits and reconnects after 1 ms at 48 V or below. An UPDATE whose grant is cut ends without a
result. (R389, R390, R392, R393, R394, R395, R397, R404, 18_power_and_budget.md) -/
def Obligations.SupplyCommands : Prop :=
  (∀ (a : At) (mV V tgt : Nat) (s : State), s.pageUp Pg.PWR = true →
    V = min (((((s.at_ a).now, mV) :: s.pwr.samples.filter (fun x => decide ((s.at_ a).now < x.1 + 1000000))).map (·.2)).foldl min mV) 65535 →
    tgt = min (min 1300 (15 * V / 100)) s.pwr.limit →
    ∃ t, exec (.supplySample a mV) s = .next t ∧ t.pwr.samples.head? = some ((s.at_ a).now, mV) ∧
      rget t.pwr.regs Reg.PWR_VIN = wd V ∧ rbit t.pwr.regs Reg.PWR_STAT 5 = decide (48000 < mV) ∧
      (tgt < s.pwr.ceil → t.pwr.ceil = tgt ∧ t.pwr.rise = none ∧
        (t.pwr.total s.res ≤ tgt ∨ ∀ i, pwrClass i ≠ 0 → i < pwrCount → t.pwr.state i ≠ 1)) ∧
      (tgt = s.pwr.ceil → t.pwr.ceil = s.pwr.ceil ∧ t.pwr.rise = none ∧ t.pwr.st = s.pwr.st) ∧
      (s.pwr.ceil < tgt → t.pwr.ceil = s.pwr.ceil ∧ t.pwr.st = s.pwr.st ∧
        ∃ since, t.pwr.rise = some (tgt, since) ∧ (s.pwr.rise = some (tgt, since) ∨ since = (s.at_ a).now)) ∧
      (∀ i, t.pwr.state i = s.pwr.state i ∨ s.pwr.state i = 1 ∧ t.pwr.state i = 2) ∧
      (∀ i j, i < pwrCount → j < pwrCount → s.pwr.state i = 1 → t.pwr.state i = 2 → pwrClass j ≠ 0 → t.pwr.state j = 1 →
        pwrClass j ≤ pwrClass i ∧ (pwrClass i = pwrClass j → s.pwr.rank j ≤ s.pwr.rank i)) ∧
      (s.pwr.state 17 = 1 → t.pwr.state 17 = 2 → ∀ r, r ∈ t.seq.runs → r.span.unit = 0x15 → r.doneAt ≠ none) ∧
      t.shell = { (s.at_ a).shell with
        pwr := t.pwr
        fus := t.fus
        seq := t.seq } ∧
      ((s.pwr.state 17 = 2 ∨ s.pwr.state 17 = 3 ∨ t.pwr.state 17 ≠ 2) → t.fus = s.fus ∧ t.seq = s.seq) ∧ s.SameBytes t) ∧
  (∀ (a : At) (s : State), s.pageUp Pg.PWR = true →
    ∃ t, exec (.ceilingRise a) s = .next t ∧ t.pwr.st = s.pwr.st ∧
      (∀ v since, s.pwr.rise = some (v, since) →
        (1000000000 ≤ (s.at_ a).now - since → rget t.pwr.regs Reg.PWR_CEIL = wd v ∧ t.pwr.rise = none) ∧
        ((s.at_ a).now - since < 1000000000 → t.pwr = s.pwr)) ∧
      (s.pwr.rise = none → t.pwr = s.pwr) ∧
      t.shell = { (s.at_ a).shell with
        pwr := t.pwr
        fus := t.fus
        seq := t.seq } ∧
      ((s.pwr.state 17 = 2 ∨ s.pwr.state 17 = 3 ∨ t.pwr.state 17 ≠ 2) → t.fus = s.fus ∧ t.seq = s.seq) ∧ s.SameBytes t) ∧
  (∀ (a : At) (s : State), s.pageUp Pg.PWR = true →
    ∃ t, exec (.grantDecision a) s = .next t ∧ (s.pwr.warn = true → t.pwr = s.pwr) ∧
      (s.pwr.warn = false → t.pwr.decisions = s.pwr.decisions + 1 ∧ rget t.pwr.regs Reg.PWR_CEIL = rget s.pwr.regs Reg.PWR_CEIL ∧
        (s.pwr.total s.res ≤ s.pwr.ceil → t.pwr.total s.res ≤ s.pwr.ceil) ∧
        (∀ i, s.pwr.state i = 1 → t.pwr.state i = 1) ∧
        (∀ i, i < pwrCount → i ∈ s.active → s.pwr.state i = 0 → t.pwr.state i = 1 ∨ t.pwr.state i = 3)) ∧
      t.shell = { (s.at_ a).shell with
        pwr := t.pwr
        fus := t.fus
        seq := t.seq } ∧
      ((s.pwr.state 17 = 2 ∨ s.pwr.state 17 = 3 ∨ t.pwr.state 17 ≠ 2) → t.fus = s.fus ∧ t.seq = s.seq) ∧ s.SameBytes t) ∧
  (∀ (a : At) (s : State), s.pageUp Pg.PWR = true →
    ∃ t, exec (.supplyWarning a) s = .next t ∧
      (s.pwr.warnDue (s.at_ a).now = true → t.pwr.warn = true ∧ t.pwr.warnAt = (s.at_ a).now ∧
        (∀ i, i < pwrCount → pwrClass i ≠ 0 → t.pwr.state i ≠ 1) ∧
        rget t.pwr.regs Reg.PWR_WARN_CNT = incW (rget s.pwr.regs Reg.PWR_WARN_CNT) ∧ t.errCode Pg.PWR = 0x2155 ∧
        t.log.copyLast = !s.log.copyLast ∧
        (if s.log.copyLast then t.log.copyA else t.log.copyB) = ((s.at_ a).log.optime, s.log.pcyc)) ∧
      (s.pwr.warnDue (s.at_ a).now = false → t = s.at_ a) ∧
      (s.pwr.state 17 = 1 → t.pwr.state 17 = 2 → ∀ r, r ∈ t.seq.runs → r.span.unit = 0x15 → r.doneAt ≠ none) ∧
      t.shell = { (s.at_ a).shell with
        pwr := t.pwr
        fus := t.fus
        seq := t.seq } ∧
      ((s.pwr.state 17 = 2 ∨ s.pwr.state 17 = 3 ∨ t.pwr.state 17 ≠ 2) → t.fus = s.fus ∧ t.seq = s.seq) ∧ s.SameBytes t) ∧
  (∀ (a : At) (s : State), s.pageUp Pg.PWR = true →
    ∃ t, exec (.supplyRecovery a) s = .next t ∧
      (s.pwr.warn = true → heldFor s.pwr.upAt (s.at_ a).now 10000000 = true → t.pwr.warn = false ∧
        rget t.pwr.regs Reg.PWR_HOLD = wd (min (((s.at_ a).now - s.pwr.warnAt) / 1000) 65535) ∧ t.errCode Pg.PWR = 0x0156) ∧
      ((s.pwr.warn = false ∨ heldFor s.pwr.upAt (s.at_ a).now 10000000 = false) → t.pwr = s.pwr) ∧ t.pwr.st = s.pwr.st ∧
      t.shell = { (s.at_ a).shell with
        pwr := t.pwr
        fus := t.fus
        seq := t.seq } ∧
      ((s.pwr.state 17 = 2 ∨ s.pwr.state 17 = 3 ∨ t.pwr.state 17 ≠ 2) → t.fus = s.fus ∧ t.seq = s.seq) ∧ s.SameBytes t) ∧
  (∀ (a : At) (s : State), s.pageUp Pg.PWR = true →
    ∃ t, exec (.overvoltageDisconnect a) s = .next t ∧
      (s.pwr.overDue (s.at_ a).now = true → t.pwr.cutOff = true ∧ t.pwr.warn = true ∧ t.pwr.upAt = none ∧
        (s.pwr.warn = false → (∀ i, i < pwrCount → pwrClass i ≠ 0 → t.pwr.state i ≠ 1) ∧ t.errCode Pg.PWR = 0x2155)) ∧
      (s.pwr.overDue (s.at_ a).now = false → t = s.at_ a) ∧
      t.shell = { (s.at_ a).shell with
        pwr := t.pwr
        fus := t.fus
        seq := t.seq } ∧
      ((s.pwr.state 17 = 2 ∨ s.pwr.state 17 = 3 ∨ t.pwr.state 17 ≠ 2) → t.fus = s.fus ∧ t.seq = s.seq) ∧ s.SameBytes t) ∧
  (∀ (a : At) (s : State), s.pageUp Pg.PWR = true →
    ∃ t, exec (.supplyReconnect a) s = .next t ∧
      (heldFor s.pwr.okAt (s.at_ a).now 1000000 = true → t.pwr.cutOff = false) ∧
      (heldFor s.pwr.okAt (s.at_ a).now 1000000 = false → t.pwr = s.pwr) ∧ t.pwr.st = s.pwr.st ∧ t.pwr.warn = s.pwr.warn ∧
      t.shell = { (s.at_ a).shell with
        pwr := t.pwr
        fus := t.fus
        seq := t.seq } ∧
      ((s.pwr.state 17 = 2 ∨ s.pwr.state 17 = 3 ∨ t.pwr.state 17 ≠ 2) → t.fus = s.fus ∧ t.seq = s.seq) ∧ s.SameBytes t)

/-- The oldest queued record goes, with the next sequence number, as 64 bytes into the ring slot of that number modulo 524,288; a failed
read-back counts, names the slot, sends the record to the shelf, and the third in a row turns the ring off. OPTIME and PCYC are saved
in the older of two copies. SHELF_CLR works in SERVICE only: after a good read-back the shelf and its flags are cleared and 0x0174
recorded, after a bad one 0x3170; elsewhere the write is discarded. (R400, R401, R403, R404, R407, R408, R426,
19_recorder_and_snapshot.md) -/
def Obligations.RecorderCommands : Prop :=
  (∀ (a : At) (ring shelf : Bool) (r : Record) (rest : List Record) (s : State), s.pageUp Pg.REC = true → s.log.searched = true →
    s.log.queue = r :: rest →
    s.log.flag 1 = false → r.flags.testBit 1 = false → rbit s.nvs.regs Reg.NVS_STAT 1 = false →
    ∃ t, exec (.recordWrite a ring shelf) s = .next t ∧ t.log.nextSeq = (s.log.nextSeq + 1) % 4294967296 ∧
      (ring = true →
        (∀ k, k < 64 → t.mem.byte (ringBase + 64 * (s.log.nextSeq % ringSlots) + k) =
          (wordsBytes (Rec.words s.log.nextSeq s.log.pcyc false r)).getD k 0) ∧
        s.SameBytesBut t (ringBase + 64 * (s.log.nextSeq % ringSlots)) 64 ∧ t.log.failRun = 0 ∧
        rget t.log.regs Reg.REC_FAILS = rget s.log.regs Reg.REC_FAILS ∧
        (s.log.saving = [] → s.log.lostSince = 0 → t.log.queue = rest)) ∧
      (ring = false → rget t.log.regs Reg.REC_FAILS = incW (rget s.log.regs Reg.REC_FAILS) ∧
        rget t.log.regs Reg.REC_FAIL_SLOT = wd (s.log.nextSeq % ringSlots) ∧ t.log.failRun = s.log.failRun + 1 ∧
        (2 ≤ s.log.failRun → t.log.flag 1 = true) ∧ (s.log.lostSince = 0 → t.errCode Pg.REC = 0x3170) ∧ t.errCode Pg.NVS ≠ 0 ∧
        (shelf = true → s.log.shelfUsed < shelfMax →
          (∀ k, k < 64 → t.mem.byte (shelfBase + 64 * s.log.shelfUsed + k) =
            (wordsBytes (Rec.words s.log.nextSeq s.log.pcyc true r)).getD k 0) ∧
          s.SameBytesBut t (shelfBase + 64 * s.log.shelfUsed) 64 ∧ t.log.shelfUsed = s.log.shelfUsed + 1 ∧ t.log.flag 0 = true)) ∧
      t.shell = (s.at_ a).shell) ∧
  (∀ (a : At) (ring shelf : Bool) (s : State), s.pageUp Pg.REC = true → (s.log.searched = false ∨ s.log.queue = []) →
    exec (.recordWrite a ring shelf) s = .next (s.at_ a)) ∧
  (∀ (a : At) (s : State), s.pageUp Pg.REC = true →
    ∃ t, exec (.optimeSave a) s = .next t ∧ t.log.copyLast = !s.log.copyLast ∧
      (s.log.copyLast = true → t.log.copyA = ((s.at_ a).log.optime, s.log.pcyc) ∧ t.log.copyB = s.log.copyB) ∧
      (s.log.copyLast = false → t.log.copyB = ((s.at_ a).log.optime, s.log.pcyc) ∧ t.log.copyA = s.log.copyA) ∧
      t.log.queue = s.log.queue ∧ t.log.nextSeq = s.log.nextSeq ∧ t.shell = (s.at_ a).shell ∧ s.SameBytes t) ∧
  (∀ (a : At) (acc : Accessor) (ok : Bool) (slot : Nat) (s : State), s.Admits acc Pg.REC (Reg.REC_CTRL % 0x400) →
    slot = (rget s.log.regs Reg.REC_FAIL_SLOT).toNat →
    ∃ t, exec (.shelfClr a acc ok) s = .next t ∧
      (s.mode = .service → ok = true →
        (∀ j k, j < 3 → k < 64 → t.mem.byte (ringBase + 64 * ((slot + j) % ringSlots) + k) = Config.recTest k) ∧
        (∀ k, k < 4096 → t.mem.byte (shelfBase + k) = 0) ∧ t.log.shelfUsed = 0 ∧ t.log.flag 0 = false ∧ t.log.flag 1 = false ∧
        t.log.flag 2 = false ∧ t.log.failRun = 0 ∧ t.errCode Pg.REC = 0x0174 ∧
        (∀ x, (∀ j k, j < 3 → k < 64 → x ≠ ringBase + 64 * ((slot + j) % ringSlots) + k) → (∀ k, k < 4096 → x ≠ shelfBase + k) →
          t.mem.byte x = s.mem.byte x)) ∧
      (s.mode = .service → ok = false → t.log.shelfUsed = s.log.shelfUsed ∧ t.log.flag 1 = s.log.flag 1 ∧ t.errCode Pg.REC = 0x3170) ∧
      (s.mode ≠ .service → t.log.shelfUsed = s.log.shelfUsed ∧ t.log.flag 1 = s.log.flag 1 ∧ t.errCode Pg.REC = 0x1001 ∧
        s.SameBytes t))

/-- With faults off as a source, a write of SNAP_TRIG does nothing unless SNAP_CFG.REG is set, is refused and counted within the holdoff
or during a save, and else takes a snapshot: its id and instant stand in the latched words of every page whose island runs. SUP_BOOT
stores three bits in both copies of the key block. SAVE_CFG writes the present settings as a set, one sequence number on, into the
older copy; a failed read-back leaves memory alone and records 0x1160. (R409, R410, R411, R425, R426, R429,
19_recorder_and_snapshot.md, 20_startup_and_features.md) -/
def Obligations.SnapshotBootAndSaveCommands : Prop :=
  (∀ (a : At) (acc : Accessor) (s : State), s.Admits acc Pg.SNAP (Reg.SNAP_TRIG % 0x400) → rfld s.snap.regs Reg.SNAP_CFG 5 3 = 0 →
    ∃ t, exec (.snapTrig a acc) s = .next t ∧
      (rbit s.snap.regs Reg.SNAP_CFG 0 = false → t.snap.count = s.snap.count ∧ t.snap.lastAt = s.snap.lastAt ∧
        rget t.snap.regs Reg.SNAP_REFUSED = rget s.snap.regs Reg.SNAP_REFUSED) ∧
      (rbit s.snap.regs Reg.SNAP_CFG 0 = true → s.snap.holds (s.at_ a).tim.time (!s.log.saving.isEmpty) = true →
        t.snap.count = s.snap.count ∧ t.snap.lastAt = s.snap.lastAt ∧
        rget t.snap.regs Reg.SNAP_REFUSED = incW (rget s.snap.regs Reg.SNAP_REFUSED)) ∧
      (rbit s.snap.regs Reg.SNAP_CFG 0 = true → s.snap.holds (s.at_ a).tim.time (!s.log.saving.isEmpty) = false →
        t.snap.count = s.snap.next ∧ t.snap.lastAt = some (s.at_ a).tim.time ∧ rget t.snap.regs Reg.SNAP_LAST_ID = wd s.snap.next ∧
        rget t.snap.regs Reg.SNAP_LAST_SRC = 1#32 ∧ rget t.snap.regs Reg.SNAP_LAST_T_L = lo32 (s.at_ a).tim.time ∧
        rget t.snap.regs Reg.SNAP_LAST_T_H = hi32 (s.at_ a).tim.time ∧ rget t.snap.regs Reg.SNAP_MISSED = wd s.missedMap ∧
        (∀ p, p < pageCount → s.pageUp p = true → rget t.hdr (cellKey p 0x20 0) = wd s.snap.next ∧
          rget t.hdr (cellKey p 0x24 0) = lo32 (s.at_ a).tim.time ∧ rget t.hdr (cellKey p 0x28 0) = hi32 (s.at_ a).tim.time) ∧
        (∀ p o, p < pageCount → s.pageUp p = false → 0x20 ≤ o → o < 0x40 → rget t.hdr (cellKey p o 0) = rget s.hdr (cellKey p o 0))) ∧
      s.SameBytes t) ∧
  (∀ (a : At) (acc : Accessor) (v : Word) (s : State), s.Admits acc Pg.SUP (Reg.SUP_BOOT % 0x400) →
    ∃ t, exec (.supBootWrite a acc v) s = .next t ∧ t.nvs.boot = v &&& 7#32 ∧
      rget t.nvs.regs (rk Reg.NVS_R_WRITES 0 8) = addSatW (addSatW (rget s.nvs.regs (rk Reg.NVS_R_WRITES 0 8)) 1) 1 ∧
      t.mode = s.mode ∧ s.SameBytes t) ∧
  (∀ (a : At) (acc : Accessor) (windows : List (Nat × Nat × Nat)) (ok : Bool) (y : State) (data : List Byte) (s : State),
    s.Admits acc Pg.SUP (Reg.SUP_CTRL % 0x400) → s.sup.dead = false →
    y = (s.at_ a).written 1 1 0x40 0 Reg.SUP_CTRL supCtrlRow 0x20#32 →
    data = cfgBuild (match cfgNewer y.mem with | some c => cfgSeq y.mem (nvsAddr c) + 1 | none => 1)
      ((upto pageCount).flatMap (y.savedPage windows)) →
    ∃ t, exec (.saveCfg a acc windows ok) s = .next t ∧ t.mode = s.mode ∧
      (ok = true → (∀ k, k < data.length → t.mem.byte (nvsAddr (cfgOlder y.mem) + k) = data.getD k 0) ∧
        s.SameBytesBut t (nvsAddr (cfgOlder y.mem)) data.length ∧ t.nvs.sound.getLsbD (cfgOlder y.mem) = true) ∧
      (ok = false → t.errCode Pg.NVS = 0x1160 ∧ t.nvs.sound.getLsbD (cfgOlder y.mem) = false ∧ s.SameBytes t))

/-- A FIRKIN_POP by the consumer of a firkin without committed words returns 64 zero bits at once and changes nothing else in the module.
(R32) -/
def Obligations.EmptyFirkinPopReturnsZeros : Prop :=
  (∀ (a : At) (unit : Nat) (n : Fin 64) (u : BitVec 4) (s : State), s.pageUp Pg.FQ = true → unit ≠ 0 →
    bits (s.fq.cfg n.val) 23 16 = unit → (s.fq.firkin n.val).committed = [] →
    exec (.firkinPop a unit n u) s = .next { s.at_ a with outbox := .readData [0#32, 0#32] :: s.outbox })

/-- Each admitted write of FLT_COEF_DATA outside RUN with set 2 or 3 selected stores the two taps of the selected phase and pair and moves
PAIR on by one, carrying into PHASE and wrapping from phase 31, pair 7; with set 0 or 1 selected it is discarded and recorded as
0x1302; in RUN, where the register is locked, no tap changes; a read of it changes nothing in FLT. (R71) -/
def Obligations.CoefficientWindowWrites : Prop :=
  (∀ (a : At) (acc : Accessor) (v : Word) (set phase pair : Nat) (s : State), s.Admits acc Pg.FLT (Reg.FLT_COEF_DATA % 0x400) →
    set = rfld s.flt.regs Reg.FLT_COEF_SEL 1 0 → phase = rfld s.flt.regs Reg.FLT_COEF_SEL 6 2 →
    pair = rfld s.flt.regs Reg.FLT_COEF_SEL 9 7 →
    ∃ t, exec (.coefDataWrite a acc v) s = .next t ∧
      (s.mode ≠ .run → 2 ≤ set →
        t.flt.tap set phase (2 * pair) = signed 16 (bits v 15 0) ∧ t.flt.tap set phase (2 * pair + 1) = signed 16 (bits v 31 16) ∧
        (∀ k, k ≠ 512 * set + 16 * phase + 2 * pair → k ≠ 512 * set + 16 * phase + 2 * pair + 1 →
          sget tapDefault t.flt.taps k = sget tapDefault s.flt.taps k) ∧
        rfld t.flt.regs Reg.FLT_COEF_SEL 1 0 = set ∧ rfld t.flt.regs Reg.FLT_COEF_SEL 9 7 = (pair + 1) % 8 ∧
        rfld t.flt.regs Reg.FLT_COEF_SEL 6 2 = (phase + if pair = 7 then 1 else 0) % 32) ∧
      (s.mode ≠ .run → set < 2 → t.flt.taps = s.flt.taps ∧ rget t.flt.regs Reg.FLT_COEF_SEL = rget s.flt.regs Reg.FLT_COEF_SEL ∧
        t.errCode Pg.FLT = 0x1302) ∧
      (s.mode = .run → t.flt.taps = s.flt.taps ∧ rget t.flt.regs Reg.FLT_COEF_SEL = rget s.flt.regs Reg.FLT_COEF_SEL)) ∧
  (∀ (a : At) (acc : Accessor) (s : State),
    ∃ t, exec (.memoryAccess a acc (0x40000000 + 0x400 * Pg.FLT + Reg.FLT_COEF_DATA % 0x400) 4 none) s = .next t ∧ t.flt = s.flt)

/-- A datagram taken for a slot is accepted as the first after the slot is enabled, is discarded when its DSEQ is the last one or lies
2^31 or more ahead, and is otherwise accepted within the point allowance; a gap of g adds g - 1 to GAPS, which stands at its largest
value when that overflows, and is recorded as 0x1512. Enabling a slot forgets its last DSEQ. (R108) -/
def Obligations.DatagramSequenceNumbers : Prop :=
  (∀ (k f lenUs : Nat) (stamp : Int) (d : List Byte) (seq : Nat) (u : Fus), seq = beNat (sliceB d 20 4) →
    (u.last.find? (fun e => e.1 == k) = none →
      (if u.rateFno = f then u.ratePts else 0) + pdCount d ≤ pointAllowance lenUs →
      (Fus.take k f lenUs stamp d (W.of u)).2 = true ∧
      (Fus.take k f lenUs stamp d (W.of u)).1.u.last.find? (fun e => e.1 == k) = some (k, seq)) ∧
    (∀ last g, last < 4294967296 → u.last.find? (fun e => e.1 == k) = some (k, last) →
      (g : Int) = ((seq : Int) - (last : Int)) % 4294967296 →
      ((g = 0 ∨ 2147483648 ≤ g) →
        (Fus.take k f lenUs stamp d (W.of u)).2 = false ∧ (Fus.take k f lenUs stamp d (W.of u)).1.u.last = u.last ∧
        (Fus.take k f lenUs stamp d (W.of u)).1.u.pool = u.pool) ∧
      (1 ≤ g → g < 2147483648 → (if u.rateFno = f then u.ratePts else 0) + pdCount d ≤ pointAllowance lenUs →
        (Fus.take k f lenUs stamp d (W.of u)).2 = true ∧
        (Fus.take k f lenUs stamp d (W.of u)).1.u.last.find? (fun e => e.1 == k) = some (k, seq) ∧
        rfld (Fus.take k f lenUs stamp d (W.of u)).1.u.regs (rk Reg.FUS0_SC_CNT 0 k) 31 16 =
          min (rfld u.regs (rk Reg.FUS0_SC_CNT 0 k) 31 16 + (g - 1)) 65535 ∧
        (2 ≤ g → ⟨Pg.FUS0, 0x1512, [wd k], false⟩ ∈ (Fus.take k f lenUs stamp d (W.of u)).1.fx.codes)))) ∧
  (∀ (a : At) (acc : Accessor) (v : Word) (k : Nat) (s : State), s.Admits acc Pg.FUS0 (Reg.FUS0_SC_CFG % 0x400) → s.mode ≠ .run →
    (rget s.fus.regs Reg.FUS0_SEL).toNat = k → k < 6 → rbit s.fus.regs (rk Reg.FUS0_SC_CFG 0 k) 0 = false → bit v 0 = true →
    ∃ t, exec (.registerWrite a acc (0x40000000 + 0x400 * Pg.FUS0 + Reg.FUS0_SC_CFG % 0x400) 4 v) s = .next t ∧
      t.fus.last.find? (fun e => e.1 == k) = none)

/-- A parameter check publishes F + 1,500 µs for every instance in use, with T_EXT added under PST_MODE, F being the longest filter time
of its inputs; a confirmation that nothing else refuses is refused with REASON 7 when the bound of an instance with PST_MODE exceeds
its PST, and stores nothing. (R376) -/
def Obligations.ProcessSafetyTimeBounds : Prop :=
  (∀ (a : At) (acc : Accessor) (i f : Nat) (s : State), s.Admits acc Pg.SAFC (Reg.SAFC_P_LOAD % 0x400) → i < 16 →
    f = ((usedIns s.saf.stagingSet i).map (fun k => inFilter s.saf.stagingSet (recIn s.saf.stagingSet i k) / 1000)).foldl max 0 →
    ∃ t, exec (.safetyParamCheck a acc) s = .next t ∧
      rget t.saf.regs (rk Reg.SAFC_I_BOUND 0 i) =
        if recEn s.saf.stagingSet i then
          wd (f + 1500 + if bit (recWord s.saf.stagingSet i 0) 9 then (recWord s.saf.stagingSet i 5).toNat else 0)
        else 0#32) ∧
  (∀ (a : At) (acc : Accessor) (v : Word) (i f : Nat) (s : State), s.Admits acc Pg.SAFC (Reg.SAFC_CONFIRM % 0x400) →
    s.feature 12 = true → safWritable s.mode = true → s.saf.layer ≠ 3 → s.saf.key true = true → s.saf.key false = true →
    rbit s.saf.regs Reg.SAFC_CONF_STAT 0 = true → rget s.saf.regs Reg.SAFC_CHECK = v → rget s.saf.regs Reg.SAFH_CHECK = v →
    i < 16 → recEn s.saf.stagingSet i = true → bit (recWord s.saf.stagingSet i 0) 9 = true →
    f = ((usedIns s.saf.stagingSet i).map (fun k => inFilter s.saf.stagingSet (recIn s.saf.stagingSet i k) / 1000)).foldl max 0 →
    (recWord s.saf.stagingSet i 4).toNat < (recWord s.saf.stagingSet i 5).toNat + f + 1500 →
    ∃ t, exec (.confirm a acc v) s = .next t ∧ rfld t.saf.regs Reg.SAFC_CONF_STAT 7 4 = 7 ∧ t.errCode Pg.SAFC = 0x11A1 ∧
      t.saf.active = s.saf.active ∧ s.SameBytes t)

/-- With V the lowest sample of the last millisecond and PWR_LIMIT 0 counting as 1,300, C is the least of 1,300, floor(0.15 V) and the
limit: a sample that lowers C lowers the ceiling at once; a higher C is noted with the instant since which it holds, noted anew when
it changes, given up when C falls back, and takes effect only at a CEILING_RISE 1 s later. At 9,000 mV the formula gives 1,350, at
6,000 mV 900. (R390) -/
def Obligations.CeilingFollowsTheSupply : Prop :=
  (∀ (a : At) (mV V lim tgt : Nat) (s : State), s.pageUp Pg.PWR = true →
    V = ((((s.at_ a).now, mV) :: s.pwr.samples.filter (fun x => decide ((s.at_ a).now < x.1 + 1000000))).map (·.2)).foldl min mV →
    V < 65536 → lim = (if rfld s.pwr.regs Reg.PWR_LIMIT 10 0 = 0 then 1300 else rfld s.pwr.regs Reg.PWR_LIMIT 10 0) →
    tgt = min (min 1300 (15 * V / 100)) lim →
    ∃ t, exec (.supplySample a mV) s = .next t ∧
      rfld t.pwr.regs Reg.PWR_CEIL 10 0 = min tgt (rfld s.pwr.regs Reg.PWR_CEIL 10 0) ∧
      (tgt ≤ rfld s.pwr.regs Reg.PWR_CEIL 10 0 → t.pwr.rise = none) ∧
      (rfld s.pwr.regs Reg.PWR_CEIL 10 0 < tgt → ∀ since,
        (s.pwr.rise = some (tgt, since) → t.pwr.rise = some (tgt, since)) ∧
        ((∀ since, s.pwr.rise ≠ some (tgt, since)) → t.pwr.rise = some (tgt, (s.at_ a).now)))) ∧
  (∀ (a : At) (v since : Nat) (s : State), s.pageUp Pg.PWR = true → s.pwr.rise = some (v, since) →
    ∃ t, exec (.ceilingRise a) s = .next t ∧
      rget t.pwr.regs Reg.PWR_CEIL = if 1000000000 ≤ (s.at_ a).now - since then wd v else rget s.pwr.regs Reg.PWR_CEIL) ∧
  15 * 9000 / 100 = 1350 ∧ 15 * 6000 / 100 = 900

/-- A codeword with any one of its 280 bits in error reads as corrected with the data as written, a poisoned one with any one bit in error
as poisoned with the data as written; the poison mark is the codeword of zero data under complemented fold bits; a reader of a block
with one bit in error gets every byte as last written. (R18, R19, R20, R21, 01_architecture.md) -/
def Obligations.BlockReadOutcomes : Prop :=
  (∀ i, i < 280 → decodePattern (cwBit i) = (.corrected 1, 0#256)) ∧
  (∀ i, i < 280 → decodePattern (poisonPattern ^^^ cwBit i) = (.poisoned true, 0#256)) ∧
  decodePattern poisonPattern = (.poisoned false, 0#256) ∧ encodeBlock 0#256 31 = poisonPattern ∧
  (∀ (m : Mem) (a i : Nat), i < 280 → m.flip a = cwBit i → m.readByte a = m.byte a ∧ m.isBad a = false)

/-- For every content of a block and every value of its five fold bits the codeword of R18 holds that content and those fold bits, has
zero syndromes and even parity: the first stage of the decoder finds no bit in error and changes none. (R18, R19, R20,
01_architecture.md) -/
def Obligations.EveryEncodedBlockIsSound : Prop :=
  ∀ (d : BitVec 256) (fold : Nat), fold < 32 → (encodeBlock d fold).extractLsb' 0 256 = d ∧ foldOf (encodeBlock d fold) = fold ∧
    syndromes (encodeBlock d fold) = (0, 0) ∧ parityOdd (encodeBlock d fold) = false ∧
    firstStage (encodeBlock d fold) = some (0, encodeBlock d fold)

/-- Reset leaves the module in BOOT with no request waiting, no island stopped, time at zero, no command waiting, no span bank, and the
registers at the values of the register tables. The values for registers that the spec gives no reset value, and what unwritten memory
reads as, are choices of the model (log entries 2 and 3) and not stated here. (R11, R37, R238, R274, R287, R291, R400, R405, R417,
R418, 20_startup_and_features.md, 21_register_directory.md) -/
def Obligations.StateAfterReset : Prop :=
  State.reset.mode = .boot ∧ State.reset.sup.request = none ∧ State.reset.sup.stopped = 0#12 ∧ State.reset.now = 0 ∧
  State.reset.tim.refNs = 0 ∧ State.reset.pending = [] ∧ State.reset.seq.active = 0 ∧ State.reset.log.queue = [] ∧
  State.reset.log.searched = false ∧ State.reset.saf.layer = 0 ∧ State.reset.chn.role = 0 ∧
  rget State.reset.seq.regs Reg.SEQ_FATHOM = 2500#32 ∧ rget State.reset.pwr.regs Reg.PWR_CEIL = 1300#32 ∧
  rget State.reset.pwr.regs Reg.PWR_WARN = 5500#32 ∧ rget State.reset.snap.regs Reg.SNAP_CFG = 0x40#32 ∧
  rget State.reset.tim.regs Reg.TIM_SRC = 9#32 ∧ rget State.reset.tim.regs Reg.TIM_SERVO = 0x00840464#32 ∧
  rget State.reset.ptp.regs Reg.PTP_CFG = 0x80800000#32 ∧ rget State.reset.chn.regs Reg.CHN_CFG = 0x00028000#32 ∧
  rget State.reset.flt.regs Reg.FLT_GDELAY = 10000#32 ∧ rget State.reset.fus.regs Reg.FUS0_PORT = 30140#32 ∧
  rget State.reset.gns.regs Reg.GNSC_MASK = 0x1E0A#32 ∧ rget State.reset.sol.regs Reg.SOL0_REG = 0x04000010#32 ∧
  (∀ k, k < 3 → rget State.reset.prg.regs (rk Reg.PRG_BUDGET k 0) = 50#32) ∧
  (∀ n, n < 64 → rget State.reset.fq.regs (rk Reg.FQ_CFG 0 n) = 6#32) ∧
  (∀ n, n < 4 → rget State.reset.net.regs (rk Reg.ETH_CTRL n 0) = 1#32 ∧ rget State.reset.can.regs (rk Reg.CAN_NBT n 0) = 0x3E0F0F00#32) ∧
  (∀ k, k < 16 → rget State.reset.est.regs (rk Reg.EST_R_GATE 0 k) = 0x00040500#32) ∧
  (∀ n, n < 12 → rget State.reset.ser.regs (rk Reg.SER_BAUD n 0) = 4800#32 ∧
    ∀ k, k < 16 → rget State.reset.fio.regs (rk Reg.FIO_CH_CFG n k) = 0x30#32) ∧
  (∀ n, n < 24 → rget State.reset.pos.regs (rk Reg.POS_SSI n 0) = 0x00190050#32)

/-- Every command, with any operands in any state, leads to a next state. (00_scope.md, 95_what_each_step_holds.md) -/
def Obligations.EveryCommandCompletes : Prop :=
  (∀ (i : Instr) (s : State), ∃ t, exec i s = .next t) ∧ (∀ s : State, ∃ t, step s = .next t)

/-- At reset memory is in its canonical form, the waiting request fits the module state, and the stone carries no epoch. (R274, R417,
R418, 01_architecture.md) -/
def Obligations.ResetMeetsTheInvariants : Prop :=
  State.reset.mem.wf = true ∧ State.reset.requestFits = true ∧ State.reset.chn.role = 0 ∧ State.reset.chn.stone.toNat < 256 ∧
    State.reset.pending = []

/-- From every state whose memory lists its bytes and its upset codewords at strictly rising addresses, none of them equal to what an
unlisted one reads as, a step leads to such a state. (R16, R21, 01_architecture.md) -/
def Obligations.MemoryKeepsItsForm : Prop :=
  ∀ (s t : State), s.mem.wf = true → step s = .next t → t.mem.wf = true

/-- A step never takes true time back, and takes exactly the command at the front off the queue, adding none. (R287, 00_scope.md) -/
def Obligations.TimeAndTheQueueMoveOn : Prop :=
  ∀ (s t : State), step s = .next t → s.now ≤ t.now ∧ t.pending = s.pending.tail

/-- If the request that waits is one that the module state admits, then it is so after every step, in every state but OFF. (R418,
20_startup_and_features.md) -/
def Obligations.TheWaitingRequestFitsTheState : Prop :=
  ∀ (s t : State), s.requestFits = true → step s = .next t → t.requestFits = true

/-- In a state whose waiting request fits, a step leaves the module state or changes it along a row of R418, an entry of R421, a reset of
R420 or the end of hold-up of R397. (R397, R417, R418, R420, R421, 20_startup_and_features.md) -/
def Obligations.StateChangesFollowTheTable : Prop :=
  ∀ (s t : State), s.requestFits = true → step s = .next t → t.mode = s.mode ∨ modeEdge s.mode t.mode = true

/-- An island stopped under R15 is stopped after every step that does not end in BOOT, the state that a reset leads to. (R15, R420,
01_architecture.md) -/
def Obligations.StoppedIslandsStayStopped : Prop :=
  ∀ (s t : State) (i : Nat), s.sup.stopped.getLsbD i = true → step s = .next t → t.mode ≠ .boot → t.sup.stopped.getLsbD i = true

/-- In LOCKED no channel closes the switch of any output, and the layer is still LOCKED after every step that does not end in BOOT, the
state that a reset leads to. (R366, R420, 17_safety_layer.md) -/
def Obligations.TheLockedLayerStaysLocked : Prop :=
  (∀ (s t : State), s.saf.layer = 3 → step s = .next t → t.mode ≠ .boot → t.saf.layer = 3) ∧
  (∀ (u : Saf) (isC : Bool) (k : Nat), u.layer = 3 → u.closes isC k = false)

/-- The role is one of none, ACTIVE, STANDBY, ARBITER and IO, and a member that is not ACTIVE has a stone of its base alone: every step
keeps this. (R274, R277, R260, 12_chain_and_stone.md) -/
def Obligations.OnlyAnActiveSendsAnEpoch : Prop :=
  ∀ (s t : State), (s.chn.role ≤ 4 ∧ (s.chn.role ≠ 1 → s.chn.stone.toNat < 256)) → step s = .next t →
    t.chn.role ≤ 4 ∧ (t.chn.role ≠ 1 → t.chn.stone.toNat < 256)
end

