-- ==== Sys2Proof/Laws/Sparse.lean ====
section
/-! SUPPORT. Laws of sparse maps: what a key reads as after an update, and that every update keeps the canonical form. -/

namespace Sys2Proof.Machine

variable {V : Type}

theorem sget_sdel (d : Nat → V) (m : List (Nat × V)) (k j : Nat) :
    sget d (sdel m k) j = if j = k then d j else sget d m j := by
  induction m with
  | nil => simp [sdel, sget]
  | cons e m ih =>
    obtain ⟨a, x⟩ := e
    by_cases h : k = a
    · subst h
      by_cases hj : j = k
      · subst hj; simpa [sdel] using ih
      · simp [sdel, sget, ih, hj]
    · by_cases hj : j = a
      · subst hj
        simp [sdel, sget, h, Ne.symm h]
      · simp [sdel, sget, ih, h, hj]

theorem sget_sins (d : Nat → V) (m : List (Nat × V)) (k : Nat) (v : V) (j : Nat) :
    sget d (sins m k v) j = if j = k then (if (m.map Prod.fst).all (fun a => k < a || a != k) then v else sget d (sins m k v) j)
      else sget d m j := by
  induction m with
  | nil => by_cases h : j = k <;> simp [sins, sget, h]
  | cons e m ih =>
    obtain ⟨a, x⟩ := e
    by_cases h : k < a
    · by_cases hj : j = k <;> simp [sins, sget, h, hj]
    · by_cases hj : j = k
      · subst hj
        by_cases ha : j = a
        · subst ha; simp [sins, sget]
        · simp [sins, sget, h, ha, Ne.symm ha] at ih ⊢
          intro hh
          exact ih hh
      · by_cases ha : j = a
        · subst ha; simp [sins, sget, h, hj]
        · simp [sins, sget, h, hj, ha, ih]

/-- No entry of a map with key k removed has key k. -/
theorem sdel_keys (m : List (Nat × V)) (k : Nat) : ∀ a ∈ (sdel m k).map Prod.fst, a ≠ k := by
  induction m with
  | nil => simp [sdel]
  | cons e m ih =>
    obtain ⟨a, x⟩ := e
    by_cases h : k = a
    · simpa [sdel, h] using ih
    · intro b hb
      simp only [sdel, h, if_false, List.map_cons, List.mem_cons] at hb
      rcases hb with rfl | hb
      · exact Ne.symm h
      · exact ih b hb

/-- A key reads as the value it was set to, every other key as before. -/
@[simp] theorem sget_sset [DecidableEq V] (d : Nat → V) (m : List (Nat × V)) (k : Nat) (v : V) (j : Nat) :
    sget d (sset d m k v) j = if j = k then v else sget d m j := by
  unfold sset
  by_cases hv : v = d k
  · rw [if_pos hv, sget_sdel]
    by_cases hj : j = k <;> simp [hj, hv]
  · rw [if_neg hv, sget_sins, sget_sdel]
    have hk : ((sdel m k).map Prod.fst).all (fun a => decide (k < a) || a != k) = true := by
      rw [List.all_eq_true]
      intro a ha
      simp [sdel_keys m k a ha]
    by_cases hj : j = k
    · simp only [hj, if_true, hk]
    · simp [hj]

theorem sget_sset_self [DecidableEq V] (d : Nat → V) (m : List (Nat × V)) (k : Nat) (v : V) : sget d (sset d m k v) k = v := by simp

theorem sget_sset_ne [DecidableEq V] (d : Nat → V) (m : List (Nat × V)) {k j : Nat} (v : V) (h : j ≠ k) :
    sget d (sset d m k v) j = sget d m j := by simp [h]

/-- A key of a run reads as its value, a key outside it as before. -/
theorem sget_ssetRun [DecidableEq V] (d : Nat → V) (vs : List V) (m : List (Nat × V)) (k j : Nat) :
    sget d (ssetRun d m k vs) j = if k ≤ j then (vs[j - k]?).getD (sget d m j) else sget d m j := by
  induction vs generalizing m k with
  | nil => simp [ssetRun]
  | cons v vs ih =>
    rw [ssetRun, ih, sget_sset]
    by_cases h : k + 1 ≤ j
    · have h1 : j - k = (j - (k + 1)) + 1 := by omega
      have h2 : j ≠ k := by omega
      have h3 : k ≤ j := by omega
      simp [h, h1, h2, h3]
    · by_cases h2 : j = k
      · subst h2
        have h4 : ¬ j + 1 ≤ j := by omega
        simp [h4]
      · have h3 : ¬ k ≤ j := by omega
        simp [h, h2, h3]

/-- The map without some keys reads those as unlisted ones. -/
theorem sget_sdrop (d : Nat → V) (p : Nat → Bool) (m : List (Nat × V)) (k : Nat) :
    sget d (sdrop p m) k = if p k = true then d k else sget d m k := by
  induction m with
  | nil => simp [sdrop, sget]
  | cons e m ih =>
    obtain ⟨a, x⟩ := e
    unfold sdrop at ih ⊢
    by_cases ha : p a = true
    · by_cases hk : k = a
      · subst hk; simp [ha, ih]
      · simp [ha, ih, sget, hk]
    · by_cases hk : k = a
      · subst hk; simp [ha, sget]
      · simp [ha, sget, hk, ih]

/-! ## The canonical form -/

variable [DecidableEq V]

/-- Whether key a lies above a lower bound. -/
def sbelow (b : Option Nat) (a : Nat) : Bool := match b with | none => true | some b => decide (b < a)

theorem swfFrom_cons (d : Nat → V) (b : Option Nat) (a : Nat) (x : V) (m : List (Nat × V)) :
    swfFrom d b ((a, x) :: m) = (sbelow b a && decide (x ≠ d a) && swfFrom d (some a) m) := by cases b <;> rfl

theorem swfFrom_weaken (d : Nat → V) {b c : Option Nat} (m : List (Nat × V)) (h : ∀ a, sbelow b a = true → sbelow c a = true)
    (hm : swfFrom d b m = true) : swfFrom d c m = true := by
  cases m with
  | nil => rfl
  | cons e m =>
    obtain ⟨a, x⟩ := e
    simp only [swfFrom_cons, Bool.and_eq_true] at hm ⊢
    exact ⟨⟨h a hm.1.1, hm.1.2⟩, hm.2⟩

theorem swfFrom_trans (d : Nat → V) {b : Option Nat} {a : Nat} (m : List (Nat × V)) (h : sbelow b a = true)
    (hm : swfFrom d (some a) m = true) : swfFrom d b m = true := by
  refine swfFrom_weaken d m (fun c hc => ?_) hm
  cases b with
  | none => rfl
  | some b =>
    simp only [sbelow, decide_eq_true_eq] at *
    omega

theorem swfFrom_sdel (d : Nat → V) (b : Option Nat) (m : List (Nat × V)) (k : Nat) (h : swfFrom d b m = true) :
    swfFrom d b (sdel m k) = true := by
  induction m generalizing b with
  | nil => rfl
  | cons e m ih =>
    obtain ⟨a, x⟩ := e
    simp only [swfFrom_cons, Bool.and_eq_true] at h
    unfold sdel
    by_cases hk : k = a
    · rw [if_pos hk]; exact ih b (swfFrom_trans d m h.1.1 h.2)
    · rw [if_neg hk, swfFrom_cons]
      simp only [Bool.and_eq_true]
      exact ⟨h.1, ih _ h.2⟩

theorem swfFrom_sins (d : Nat → V) (b : Option Nat) (m : List (Nat × V)) (k : Nat) (v : V) (hv : v ≠ d k)
    (hb : sbelow b k = true) (hk : ∀ a ∈ m.map Prod.fst, a ≠ k) (h : swfFrom d b m = true) : swfFrom d b (sins m k v) = true := by
  induction m generalizing b with
  | nil => simp [sins, swfFrom_cons, hb, hv, swfFrom]
  | cons e m ih =>
    obtain ⟨a, x⟩ := e
    simp only [swfFrom_cons, Bool.and_eq_true] at h
    have ha : a ≠ k := hk a (by simp)
    unfold sins
    by_cases hlt : k < a
    · rw [if_pos hlt]
      simp only [swfFrom_cons, Bool.and_eq_true]
      exact ⟨⟨hb, by simpa using hv⟩, ⟨by simpa [sbelow] using hlt, h.1.2⟩, h.2⟩
    · rw [if_neg hlt]
      simp only [swfFrom_cons, Bool.and_eq_true]
      refine ⟨h.1, ih (some a) ?_ (fun c hc => hk c (by simp [hc])) h.2⟩
      simp only [sbelow, decide_eq_true_eq]
      omega

/-- Setting a key keeps the canonical form. -/
theorem swf_sset (d : Nat → V) (m : List (Nat × V)) (k : Nat) (v : V) (h : swf d m = true) : swf d (sset d m k v) = true := by
  unfold sset
  split
  · exact swfFrom_sdel d none m k h
  · rename_i hv
    exact swfFrom_sins d none _ k v hv rfl (sdel_keys m k) (swfFrom_sdel d none m k h)

/-- Setting a run of keys keeps the canonical form. -/
theorem swf_ssetRun (d : Nat → V) (vs : List V) (m : List (Nat × V)) (k : Nat) (h : swf d m = true) :
    swf d (ssetRun d m k vs) = true := by
  induction vs generalizing m k with
  | nil => exact h
  | cons v vs ih => exact ih _ _ (swf_sset d m k v h)

theorem swfFrom_sdrop (d : Nat → V) (p : Nat → Bool) (b : Option Nat) (m : List (Nat × V)) (h : swfFrom d b m = true) :
    swfFrom d b (sdrop p m) = true := by
  induction m generalizing b with
  | nil => rfl
  | cons e m ih =>
    obtain ⟨a, x⟩ := e
    simp only [swfFrom_cons, Bool.and_eq_true] at h
    have hs : sdrop p ((a, x) :: m) = if p a = true then sdrop p m else (a, x) :: sdrop p m := by
      by_cases ha : p a = true <;> simp [sdrop, ha]
    rw [hs]
    split
    · exact ih b (swfFrom_trans d m h.1.1 h.2)
    · rw [swfFrom_cons]
      simp only [Bool.and_eq_true]
      exact ⟨h.1, ih _ h.2⟩

/-- Dropping keys keeps the canonical form. -/
theorem swf_sdrop (d : Nat → V) (p : Nat → Bool) (m : List (Nat × V)) (h : swf d m = true) : swf d (sdrop p m) = true :=
  swfFrom_sdrop d p none m h

end Sys2Proof.Machine
end

