-- ==== Sys2Proof/Laws/Memory.lean ====
section
/-! SUPPORT. Laws of memory (R16–R24): what a byte reads as after an operation, and that every operation keeps the canonical form. -/

namespace Sys2Proof.Machine

/-- A fold keeps what each of its steps keeps. -/
theorem foldl_keeps {A B : Type} (P : A → Prop) (f : A → B → A) (h : ∀ a b, P a → P (f a b)) (l : List B) (a : A) (ha : P a) :
    P (l.foldl f a) := by
  induction l generalizing a with
  | nil => exact ha
  | cons b l ih => exact ih _ (h a b ha)

/-- A fold keeps what each step on a member of its list keeps. -/
theorem foldl_keeps_mem {A B : Type} (P : A → Prop) (f : A → B → A) (l : List B) (h : ∀ a, ∀ b ∈ l, P a → P (f a b)) (a : A)
    (ha : P a) : P (l.foldl f a) := by
  induction l generalizing a with
  | nil => exact ha
  | cons b l ih => exact ih (fun a c hc => h a c (by simp [hc])) _ (h a b (by simp) ha)

theorem mem_wf_iff (m : Mem) : m.wf = true ↔ swf memDefault m.bytes = true ∧ swf noFlips m.flips = true := by
  simp [Mem.wf]

theorem swf_setFlip (f : List (Nat × Codeword)) (blk : Nat) (e : Codeword) (h : swf noFlips f = true) :
    swf noFlips (setFlip f blk e) = true := swf_sset _ _ _ _ h

theorem swf_storeFlips (m : Mem) (st : Store) (h : swf noFlips m.flips = true) : swf noFlips (storeFlips m st) = true :=
  foldl_keeps _ _ (fun f blk hf => swf_setFlip f blk _ hf) _ _ h

/-- A store keeps the canonical form. -/
theorem wf_store (m : Mem) (st : Store) (h : m.wf = true) : (m.store st).wf = true := by
  rw [mem_wf_iff] at *
  exact ⟨swf_ssetRun _ _ _ _ h.1, swf_storeFlips m st h.2⟩

/-- Stores keep the canonical form. -/
theorem wf_stores (m : Mem) (sts : List Store) (h : m.wf = true) : (m.stores sts).wf = true :=
  foldl_keeps _ _ wf_store _ _ h

/-- Upsets keep the canonical form. -/
theorem wf_strike (m : Mem) (ups : List Upset) (h : m.wf = true) : (m.strike ups).wf = true := by
  rw [mem_wf_iff] at *
  exact ⟨h.1, foldl_keeps _ _ (fun f u hf => swf_setFlip f _ _ hf) _ _ h.2⟩

/-- Memory with an error pattern changed keeps the canonical form. -/
theorem wf_flips (m : Mem) (f : List (Nat × Codeword)) (h : m.wf = true) (hf : swf noFlips f = true) :
    ({ m with flips := f } : Mem).wf = true := by
  rw [mem_wf_iff] at *
  exact ⟨h.1, hf⟩

theorem wf_flips_of (m : Mem) (h : m.wf = true) : swf noFlips m.flips = true := ((mem_wf_iff m).mp h).2

/-- What a reset leaves of memory keeps the canonical form. -/
theorem wf_sdrop (p q : Nat → Bool) (m : Mem) (h : m.wf = true) : (⟨sdrop p m.bytes, sdrop q m.flips⟩ : Mem).wf = true := by
  rw [mem_wf_iff] at *
  exact ⟨swf_sdrop _ _ _ h.1, swf_sdrop _ _ _ h.2⟩

/-- Loading an image keeps the canonical form. -/
theorem wf_loadInto (x : ImageAt) (slot : Bool) (m : Mem) (h : m.wf = true) : (x.loadInto slot m).wf = true :=
  foldl_keeps _ _ (fun m _ hm => wf_store m _ hm) _ _ (wf_stores m _ h)

/-- A byte after a store: the byte stored where the store covers it, as before elsewhere. -/
theorem byte_store (m : Mem) (st : Store) (x : Nat) :
    (m.store st).byte x =
      if st.addr ≤ x then (st.data[x - st.addr]?).getD (m.byte x) else m.byte x :=
  sget_ssetRun _ _ _ _ _

/-- A byte outside a store is as before. -/
theorem byte_store_outside (m : Mem) (st : Store) (x : Nat) (h : x < st.addr ∨ st.addr + st.data.length ≤ x) :
    (m.store st).byte x = m.byte x := by
  rw [byte_store]
  split
  · rw [List.getElem?_eq_none (by omega)]; rfl
  · rfl

/-- A byte inside a store is the byte stored. -/
theorem byte_store_inside (m : Mem) (st : Store) (i : Nat) (h : i < st.data.length) :
    (m.store st).byte (st.addr + i) = st.data[i] := by
  rw [byte_store]
  simp [h]

/-- Upsets change no byte as last written. -/
@[simp] theorem byte_strike (m : Mem) (ups : List Upset) (x : Nat) : (m.strike ups).byte x = m.byte x := rfl

/-- An error pattern changes no byte as last written. -/
@[simp] theorem byte_flips (m : Mem) (f : List (Nat × Codeword)) (x : Nat) : ({ m with flips := f } : Mem).byte x = m.byte x := rfl

end Sys2Proof.Machine
end

