-- ==== Sys2Proof/Laws/State.lean ====
section
/-! SUPPORT. What the updates of State leave in each field: the time and upsets a command comes with (`State.at_`), and what a unit's
work may touch beside the unit itself (`State.shell`). -/

namespace Sys2Proof.Machine

/-! ## The time a command comes with -/

section
variable (a : At) (s : State)

@[simp] theorem at_now : (s.at_ a).now = max s.now a.ns := rfl
@[simp] theorem at_mode : (s.at_ a).mode = s.mode := rfl
@[simp] theorem at_mem : (s.at_ a).mem = s.mem.strike a.upsets := rfl
@[simp] theorem at_second : (s.at_ a).second = s.second := rfl
@[simp] theorem at_hdr : (s.at_ a).hdr = s.hdr := rfl
@[simp] theorem at_frozen : (s.at_ a).frozen = s.frozen := rfl
@[simp] theorem at_sup : (s.at_ a).sup = s.sup := rfl
@[simp] theorem at_snap : (s.at_ a).snap = s.snap := rfl
@[simp] theorem at_ptp : (s.at_ a).ptp = s.ptp := rfl
@[simp] theorem at_net : (s.at_ a).net = s.net := rfl
@[simp] theorem at_seq : (s.at_ a).seq = s.seq := rfl
@[simp] theorem at_fq : (s.at_ a).fq = s.fq := rfl
@[simp] theorem at_flt : (s.at_ a).flt = s.flt := rfl
@[simp] theorem at_prg : (s.at_ a).prg = s.prg := rfl
@[simp] theorem at_est : (s.at_ a).est = s.est := rfl
@[simp] theorem at_fus : (s.at_ a).fus = s.fus := rfl
@[simp] theorem at_gns : (s.at_ a).gns = s.gns := rfl
@[simp] theorem at_ctl : (s.at_ a).ctl = s.ctl := rfl
@[simp] theorem at_alc : (s.at_ a).alc = s.alc := rfl
@[simp] theorem at_sol : (s.at_ a).sol = s.sol := rfl
@[simp] theorem at_chn : (s.at_ a).chn = s.chn := rfl
@[simp] theorem at_can : (s.at_ a).can = s.can := rfl
@[simp] theorem at_fio : (s.at_ a).fio = s.fio := rfl
@[simp] theorem at_ser : (s.at_ a).ser = s.ser := rfl
@[simp] theorem at_pos : (s.at_ a).pos = s.pos := rfl
@[simp] theorem at_saf : (s.at_ a).saf = s.saf := rfl
@[simp] theorem at_pwr : (s.at_ a).pwr = s.pwr := rfl
@[simp] theorem at_nvs : (s.at_ a).nvs = s.nvs := rfl
@[simp] theorem at_esOff : (s.at_ a).esOff = s.esOff := rfl
@[simp] theorem at_outbox : (s.at_ a).outbox = s.outbox := rfl
@[simp] theorem at_free : (s.at_ a).free = s.free := rfl
@[simp] theorem at_pending : (s.at_ a).pending = s.pending := rfl
@[simp] theorem at_timRegs : (s.at_ a).tim.regs = s.tim.regs := rfl
@[simp] theorem at_logRegs : (s.at_ a).log.regs = s.log.regs := rfl
@[simp] theorem at_islandUp (i : Nat) : (s.at_ a).islandUp i = s.islandUp i := rfl
@[simp] theorem at_pageUp (p : Nat) : (s.at_ a).pageUp p = s.pageUp p := rfl
@[simp] theorem at_feature (k : Nat) : (s.at_ a).feature k = s.feature k := rfl

/-- A command that comes at a time has the effect f gives on the state of that time. -/
@[simp] theorem does_eq (f : State → State) : s.does a f = .next (f (s.at_ a)) := rfl
/-- A happening of a present function takes place, and one of an absent function changes nothing. -/
theorem withFeature_present {k : Nat} {f : State → State} (h : s.feature k = true) : State.withFeature k f s = f s := by
  simp [State.withFeature, h]
theorem withFeature_absent {k : Nat} {f : State → State} (h : s.feature k = false) : State.withFeature k f s = s := by
  simp [State.withFeature, h]

end

/-! ## States of one shell -/

section
variable {s t : State} (h : t.shell = s.shell)
include h
theorem now_of_shell : t.now = s.now := (congrArg State.now h :)
theorem mode_of_shell : t.mode = s.mode := (congrArg State.mode h :)
theorem second_of_shell : t.second = s.second := (congrArg State.second h :)
theorem frozen_of_shell : t.frozen = s.frozen := (congrArg State.frozen h :)
theorem sup_of_shell : t.sup = s.sup := (congrArg State.sup h :)
theorem tim_of_shell : t.tim = s.tim := (congrArg State.tim h :)
theorem ptp_of_shell : t.ptp = s.ptp := (congrArg State.ptp h :)
theorem net_of_shell : t.net = s.net := (congrArg State.net h :)
theorem seq_of_shell : t.seq = s.seq := (congrArg State.seq h :)
theorem est_of_shell : t.est = s.est := (congrArg State.est h :)
theorem fus_of_shell : t.fus = s.fus := (congrArg State.fus h :)
theorem gns_of_shell : t.gns = s.gns := (congrArg State.gns h :)
theorem ctl_of_shell : t.ctl = s.ctl := (congrArg State.ctl h :)
theorem alc_of_shell : t.alc = s.alc := (congrArg State.alc h :)
theorem sol_of_shell : t.sol = s.sol := (congrArg State.sol h :)
theorem can_of_shell : t.can = s.can := (congrArg State.can h :)
theorem fio_of_shell : t.fio = s.fio := (congrArg State.fio h :)
theorem ser_of_shell : t.ser = s.ser := (congrArg State.ser h :)
theorem pos_of_shell : t.pos = s.pos := (congrArg State.pos h :)
theorem saf_of_shell : t.saf = s.saf := (congrArg State.saf h :)
theorem pwr_of_shell : t.pwr = s.pwr := (congrArg State.pwr h :)
theorem esOff_of_shell : t.esOff = s.esOff := (congrArg State.esOff h :)
theorem free_of_shell : t.free = s.free := (congrArg State.free h :)
theorem pending_of_shell : t.pending = s.pending := (congrArg State.pending h :)

/-- Two states of one shell have the same Chain, but for the fault it notes for its heartbeat and the samples it mirrors. -/
theorem chn_of_shell : t.chn = { s.chn with fault := t.chn.fault, samples := t.chn.samples } :=
  congrArg (fun c : Chn => { c with fault := t.chn.fault, samples := t.chn.samples }) (congrArg State.chn h)

theorem islandUp_of_shell (i : Nat) : t.islandUp i = s.islandUp i := by
  simp only [State.islandUp, mode_of_shell h, sup_of_shell h]
theorem pageUp_of_shell (p : Nat) : t.pageUp p = s.pageUp p := islandUp_of_shell h _
theorem feature_of_shell (k : Nat) : t.feature k = s.feature k := by simp only [State.feature, sup_of_shell h]
theorem counting_of_shell : t.counting = s.counting := by simp only [State.counting, seq_of_shell h, mode_of_shell h]
end

end Sys2Proof.Machine
end

