-- ==== Sys2Proof/Laws/Commit.lean ====
section
/-! SUPPORT. What a unit's work leaves in the rest of the module: the whole of what `State.commit` may change is outside the shell; it
keeps memory's canonical form, and where nothing is stored every byte. -/

namespace Sys2Proof.Machine

/-! ## The shell -/

@[simp] theorem shell_readBlock (page a : Nat) (s : State) : (s.readBlock page a).1.shell = s.shell := by
  unfold State.readBlock
  dsimp only
  split
  · rfl
  · dsimp only; split <;> rfl

@[simp] theorem shell_readBlocks (l : List (Nat × Nat)) (s : State) : (State.readBlocks l s).1.shell = s.shell := by
  induction l generalizing s with
  | nil => rfl
  | cons p l ih =>
    unfold State.readBlocks
    dsimp only
    rw [ih, shell_readBlock]

@[simp] theorem shell_readForStore (page a : Nat) (s : State) : (s.readForStore page a).1.shell = s.shell := by
  unfold State.readForStore
  dsimp only
  split <;> rfl

@[simp] theorem shell_store1 (st : Store) (s : State) : (s.store1 st).1.shell = s.shell := by
  have h := foldl_keeps (fun x : State × List Code => x.1.shell = s.shell)
    (fun (x : State × List Code) (r : Nat × Nat) => ((x.1.readForStore r.1 r.2).1, x.2 ++ (x.1.readForStore r.1 r.2).2))
    (fun x r hx => by rw [shell_readForStore]; exact hx) (readsOfStore st) (s, []) rfl
  exact h

@[simp] theorem shell_storeAll (l : List Store) (s : State) : (State.storeAll l s).1.shell = s.shell := by
  induction l generalizing s with
  | nil => rfl
  | cons st l ih =>
    unfold State.storeAll
    dsimp only
    rw [ih, shell_store1]

@[simp] theorem shell_healAll (l : List Nat) (s : State) : (s.healAll l).shell = s.shell := rfl

@[simp] theorem shell_flags (l : List (Nat × Nat)) (s : State) : (s.flags l).shell = s.shell := rfl

@[simp] theorem shell_setLog (l : Rec) (s : State) : (s.setLog l).shell = s.shell := by
  unfold State.setLog
  dsimp only
  split <;> rfl

@[simp] theorem shell_offer (r : Record) (s : State) : (s.offer r).shell = s.shell := by
  unfold State.offer
  rw [shell_flags, shell_setLog]

@[simp] theorem shell_noteFault (c : Nat) (h : RMap) (s : State) :
    ({ s with hdr := h, chn := s.chn.noteFault c } : State).shell = s.shell := by
  unfold Chn.noteFault
  split <;> rfl

@[simp] theorem shell_record (c : Code) (s : State) : (s.record c).shell = s.shell := by
  unfold State.record
  dsimp only
  split
  · rw [shell_offer, shell_noteFault]
  · rw [shell_noteFault]

@[simp] theorem shell_recordAll (l : List Code) (s : State) : (s.recordAll l).shell = s.shell :=
  foldl_keeps (fun x : State => x.shell = s.shell) _ (fun x c hx => by rw [shell_record]; exact hx) _ _ rfl

@[simp] theorem shell_beginSave (s : State) : s.beginSave.shell = s.shell := by
  unfold State.beginSave
  dsimp only
  rw [shell_setLog]
  rfl

@[simp] theorem shell_snapshot (srcs code : Nat) (s : State) : (s.snapshot srcs code).shell = s.shell := by
  unfold State.snapshot
  extract_lets t w missed s1 s2 s3 s4
  have h4 : s4.shell = s.shell := by
    rw [shell_recordAll, shell_flags]
    rfl
  rw [apply_ite State.shell, shell_recordAll, shell_flags, apply_ite State.shell, shell_beginSave, ite_self, h4]
  exact ite_self _

@[simp] theorem shell_snapTriggers (srcs : List Nat) (codes : List Code) (s : State) :
    (s.snapTriggers srcs codes).shell = s.shell := by
  unfold State.snapTriggers
  extract_lets on f m
  rw [apply_ite State.shell, shell_snapshot]
  exact ite_self _

/-- A unit's sub-step leaves in the shell what putting the unit's state back leaves there. -/
theorem shell_absorb {U : Type} (put : U → State → State) (w : W U) (x : State × Fx) :
    (State.absorb put w x).1.shell = (put w.u x.1).shell := by
  unfold State.absorb
  dsimp only
  rw [shell_healAll, shell_readBlocks, shell_storeAll]

@[simp] theorem shell_takeSample (x : State × Fx) (p : Sample) : (State.takeSample x p).1.shell = x.1.shell := by
  unfold State.takeSample
  dsimp only
  split
  · rw [shell_absorb]; rfl
  · rfl

@[simp] theorem shell_takePacket (x : State × Fx) (p : Push) : (State.takePacket x p).1.shell = x.1.shell := by
  unfold State.takePacket
  split
  · rw [shell_absorb]; rfl
  · rfl

@[simp] theorem shell_takeTrigger (x : State × Fx) (t : Trigger) : (State.takeTrigger x t).1.shell = x.1.shell := by
  unfold State.takeTrigger
  split
  · rw [shell_absorb]; rfl
  · rfl

theorem shell_outbox (o : List Emit) (s : State) : ({ s with outbox := o } : State).shell = s.shell := rfl

/-- A unit's work leaves the shell of the rest of the module as it was. -/
@[simp] theorem shell_commit (fx : Fx) (st : List Store) (s : State) : (s.commit fx st).shell = s.shell := by
  unfold State.commit
  dsimp only
  rw [shell_outbox, shell_snapTriggers, shell_recordAll, shell_flags]
  have h1 := shell_absorb (fun (u : State) _ => u) ⟨s, fx, st⟩ (s, Fx.none)
  have k : ∀ {B : Type} (f : State × Fx → B → State × Fx), (∀ x b, (f x b).1.shell = x.1.shell) →
      ∀ (l : List B) (x : State × Fx), x.1.shell = s.shell → (l.foldl f x).1.shell = s.shell :=
    fun f hf l x hx => foldl_keeps (fun x : State × Fx => x.1.shell = s.shell) f (fun a b ha => by rw [hf]; exact ha) l x hx
  exact k _ shell_takeTrigger _ _ (k _ shell_takePacket _ _ (k _ shell_takeSample _ _ h1))

section
variable (fx : Fx) (st : List Store) (s : State)
@[simp] theorem commit_now : (s.commit fx st).now = s.now := now_of_shell (shell_commit fx st s)
@[simp] theorem commit_mode : (s.commit fx st).mode = s.mode := mode_of_shell (shell_commit fx st s)
@[simp] theorem commit_second : (s.commit fx st).second = s.second := second_of_shell (shell_commit fx st s)
@[simp] theorem commit_frozen : (s.commit fx st).frozen = s.frozen := frozen_of_shell (shell_commit fx st s)
@[simp] theorem commit_sup : (s.commit fx st).sup = s.sup := sup_of_shell (shell_commit fx st s)
@[simp] theorem commit_tim : (s.commit fx st).tim = s.tim := tim_of_shell (shell_commit fx st s)
@[simp] theorem commit_ptp : (s.commit fx st).ptp = s.ptp := ptp_of_shell (shell_commit fx st s)
@[simp] theorem commit_net : (s.commit fx st).net = s.net := net_of_shell (shell_commit fx st s)
@[simp] theorem commit_seq : (s.commit fx st).seq = s.seq := seq_of_shell (shell_commit fx st s)
@[simp] theorem commit_est : (s.commit fx st).est = s.est := est_of_shell (shell_commit fx st s)
@[simp] theorem commit_fus : (s.commit fx st).fus = s.fus := fus_of_shell (shell_commit fx st s)
@[simp] theorem commit_gns : (s.commit fx st).gns = s.gns := gns_of_shell (shell_commit fx st s)
@[simp] theorem commit_ctl : (s.commit fx st).ctl = s.ctl := ctl_of_shell (shell_commit fx st s)
@[simp] theorem commit_alc : (s.commit fx st).alc = s.alc := alc_of_shell (shell_commit fx st s)
@[simp] theorem commit_sol : (s.commit fx st).sol = s.sol := sol_of_shell (shell_commit fx st s)
@[simp] theorem commit_can : (s.commit fx st).can = s.can := can_of_shell (shell_commit fx st s)
@[simp] theorem commit_fio : (s.commit fx st).fio = s.fio := fio_of_shell (shell_commit fx st s)
@[simp] theorem commit_ser : (s.commit fx st).ser = s.ser := ser_of_shell (shell_commit fx st s)
@[simp] theorem commit_pos : (s.commit fx st).pos = s.pos := pos_of_shell (shell_commit fx st s)
@[simp] theorem commit_saf : (s.commit fx st).saf = s.saf := saf_of_shell (shell_commit fx st s)
@[simp] theorem commit_pwr : (s.commit fx st).pwr = s.pwr := pwr_of_shell (shell_commit fx st s)
@[simp] theorem commit_esOff : (s.commit fx st).esOff = s.esOff := esOff_of_shell (shell_commit fx st s)
@[simp] theorem commit_free : (s.commit fx st).free = s.free := free_of_shell (shell_commit fx st s)
@[simp] theorem commit_pending : (s.commit fx st).pending = s.pending := pending_of_shell (shell_commit fx st s)

/-- The Chain after a unit's work elsewhere: all but the fault it notes for its heartbeat and the samples it mirrors stands. -/
theorem commit_chn : (s.commit fx st).chn =
    { s.chn with fault := (s.commit fx st).chn.fault, samples := (s.commit fx st).chn.samples } :=
  chn_of_shell (shell_commit fx st s)

@[simp] theorem commit_islandUp (i : Nat) : (s.commit fx st).islandUp i = s.islandUp i := islandUp_of_shell (shell_commit fx st s) i
@[simp] theorem commit_pageUp (p : Nat) : (s.commit fx st).pageUp p = s.pageUp p := pageUp_of_shell (shell_commit fx st s) p
@[simp] theorem commit_feature (k : Nat) : (s.commit fx st).feature k = s.feature k := feature_of_shell (shell_commit fx st s) k
@[simp] theorem commit_counting : (s.commit fx st).counting = s.counting := counting_of_shell (shell_commit fx st s)
end

/-! ## Memory -/

/-- A property of memory that every change of an error pattern and every store keeps. -/
structure MemStable (P : Mem → Prop) : Prop where
  flip : ∀ m a e, P m → P { m with flips := setFlip m.flips a e }
  store : ∀ m st, P m → P (m.store st)

theorem memStable_wf : MemStable (fun m => m.wf = true) :=
  ⟨fun m a e h => wf_flips m _ h (swf_setFlip _ a e (wf_flips_of m h)), fun m st h => wf_store m st h⟩

section
variable {P : Mem → Prop} (hP : ∀ m a e, P m → P { m with flips := setFlip m.flips a e })
include hP

theorem mem_readBlock (page a : Nat) (s : State) (h : P s.mem) : P (s.readBlock page a).1.mem := by
  unfold State.readBlock
  extract_lets o
  split
  · exact h
  · show P (State.mem (if _ then _ else _))
    split
    · exact hP _ _ _ h
    · exact h

theorem mem_readBlocks (l : List (Nat × Nat)) (s : State) (h : P s.mem) : P (State.readBlocks l s).1.mem := by
  induction l generalizing s with
  | nil => exact h
  | cons p l ih => exact ih _ (mem_readBlock hP _ _ _ h)

omit hP in
theorem mem_readForStore (page a : Nat) (s : State) : (s.readForStore page a).1.mem = s.mem := by
  unfold State.readForStore
  dsimp only
  split <;> rfl

omit hP in
theorem mem_store1 (st : Store) (s : State) : (s.store1 st).1.mem = s.mem.store st := by
  have h := foldl_keeps (fun x : State × List Code => x.1.mem = s.mem)
    (fun (x : State × List Code) (r : Nat × Nat) => ((x.1.readForStore r.1 r.2).1, x.2 ++ (x.1.readForStore r.1 r.2).2))
    (fun x r hx => by rw [mem_readForStore]; exact hx) (readsOfStore st) (s, []) rfl
  exact congrArg (fun m : Mem => m.store st) h

omit hP in
/-- Stores of a unit's work, in memory. -/
theorem mem_storeAll (l : List Store) (s : State) : (State.storeAll l s).1.mem = s.mem.stores l := by
  induction l generalizing s with
  | nil => rfl
  | cons st l ih =>
    unfold State.storeAll
    dsimp only
    rw [ih, mem_store1]
    rfl

theorem mem_healAll (l : List Nat) (s : State) (h : P s.mem) : P (s.healAll l).mem := by
  have k := foldl_keeps (fun f => P { s.mem with flips := f }) (fun f a => setFlip f (a / 32) 0)
    (fun f a hf => hP { s.mem with flips := f } (a / 32) 0 hf) l s.mem.flips h
  exact k

omit hP in
@[simp] theorem mem_setLog (l : Rec) (s : State) : (s.setLog l).mem = s.mem := by
  unfold State.setLog
  dsimp only
  split <;> rfl

omit hP in
@[simp] theorem mem_record (c : Code) (s : State) : (s.record c).mem = s.mem := by
  unfold State.record
  dsimp only
  split
  · unfold State.offer State.flags
    dsimp only
    rw [mem_setLog]
  · rfl

omit hP in
@[simp] theorem mem_recordAll (l : List Code) (s : State) : (s.recordAll l).mem = s.mem :=
  foldl_keeps (fun x : State => x.mem = s.mem) _ (fun x c hx => by rw [mem_record]; exact hx) _ _ rfl

omit hP in
@[simp] theorem mem_flags (l : List (Nat × Nat)) (s : State) : (s.flags l).mem = s.mem := rfl

omit hP in
@[simp] theorem mem_snapshot (srcs code : Nat) (s : State) : (s.snapshot srcs code).mem = s.mem := by
  unfold State.snapshot
  extract_lets t w missed s1 s2 s3 s4
  have h4 : s4.mem = s.mem := by
    show (State.recordAll _ _).mem = _
    rw [mem_recordAll]
    rfl
  have h5 : s4.beginSave.mem = s4.mem := by
    unfold State.beginSave
    dsimp only
    rw [mem_setLog]
  rw [apply_ite State.mem, mem_recordAll, apply_ite State.mem, h5, ite_self, h4]
  exact ite_self _

omit hP in
@[simp] theorem mem_snapTriggers (srcs : List Nat) (codes : List Code) (s : State) : (s.snapTriggers srcs codes).mem = s.mem := by
  unfold State.snapTriggers
  extract_lets on f m
  rw [apply_ite State.mem, mem_snapshot]
  exact ite_self _

end

theorem mem_absorb {P : Mem → Prop} (hP : MemStable P) {U : Type} (put : U → State → State) (w : W U) (x : State × Fx)
    (h : P (put w.u x.1).mem) : P (State.absorb put w x).1.mem := by
  unfold State.absorb
  dsimp only
  refine mem_healAll hP.flip _ _ (mem_readBlocks hP.flip _ _ ?_)
  rw [mem_storeAll]
  exact foldl_keeps P _ hP.store _ _ h

/-- A unit's work keeps what every error pattern and every store keeps of memory. -/
theorem mem_commit {P : Mem → Prop} (hP : MemStable P) (fx : Fx) (st : List Store) (s : State) (h : P s.mem) :
    P (s.commit fx st).mem := by
  unfold State.commit
  dsimp only
  rw [mem_snapTriggers, mem_recordAll, mem_flags]
  have k : ∀ {B : Type} (f : State × Fx → B → State × Fx), (∀ x b, P x.1.mem → P (f x b).1.mem) →
      ∀ (l : List B) (x : State × Fx), P x.1.mem → P (l.foldl f x).1.mem :=
    fun f hf l x hx => foldl_keeps (fun x : State × Fx => P x.1.mem) f hf l x hx
  refine k _ (fun x t hx => ?_) _ _ (k _ (fun x p hx => ?_) _ _ (k _ (fun x p hx => ?_) _ _ (mem_absorb hP _ _ _ h)))
  · unfold State.takeTrigger
    split
    · exact mem_absorb hP _ _ _ hx
    · exact hx
  · unfold State.takePacket
    split
    · exact mem_absorb hP _ _ _ hx
    · exact hx
  · unfold State.takeSample
    dsimp only
    split
    · exact mem_absorb hP _ _ _ hx
    · exact hx

/-- A unit's work keeps memory's canonical form. -/
theorem wf_commit (fx : Fx) (st : List Store) (s : State) (h : s.mem.wf = true) : (s.commit fx st).mem.wf = true :=
  mem_commit memStable_wf fx st s h

/-- A unit's work without samples, packets or event triggers stores what it says and nothing else. -/
theorem byte_commit (fx : Fx) (st : List Store) (s : State) (h1 : fx.samples = []) (h2 : fx.pushes = []) (h3 : fx.triggers = [])
    (x : Nat) : (s.commit fx st).mem.byte x = (s.mem.stores st).byte x := by
  unfold State.commit
  dsimp only
  rw [mem_snapTriggers, mem_recordAll, mem_flags, h1, h2]
  have hfx : (State.absorb (fun (u : State) _ => u) ⟨s, fx, st⟩ (s, Fx.none)).2.triggers = [] := by
    unfold State.absorb Fx.app Fx.none
    simp [h3]
  have hm : ∀ m a e, (fun m : Mem => m.byte x = (s.mem.stores st).byte x) m →
      (fun m : Mem => m.byte x = (s.mem.stores st).byte x) { m with flips := setFlip m.flips a e } := fun m a e h => h
  simp only [List.foldl_nil, hfx]
  unfold State.absorb
  dsimp only
  refine mem_healAll hm _ _ (mem_readBlocks hm _ _ ?_)
  rw [mem_storeAll]

end Sys2Proof.Machine
end

