-- ==== Sys2Proof/Laws/Quiet.lean ====
section
/-! SUPPORT. Work put together: what each step of a unit's work leaves of the unit, of its stores, and that it stays quiet. -/

namespace Sys2Proof.Machine

section
variable {U : Type} (w : W U)

@[simp] theorem u_map (f : U → U) : (W.map f w).u = f w.u := rfl
@[simp] theorem st_map (f : U → U) : (W.map f w).st = w.st := rfl
theorem W.Quiet.map {w : W U} (f : U → U) (h : w.Quiet) : (W.map f w).Quiet := h
@[simp] theorem u_code (p c : Nat) (l : List Word) : (W.code p c l w).u = w.u := rfl
@[simp] theorem st_code (p c : Nat) (l : List Word) : (W.code p c l w).st = w.st := rfl
theorem W.Quiet.code {w : W U} (p c : Nat) (l : List Word) (h : w.Quiet) : (W.code p c l w).Quiet := h
@[simp] theorem u_codeRec (p c : Nat) (l : List Word) : (W.codeRec p c l w).u = w.u := rfl
@[simp] theorem st_codeRec (p c : Nat) (l : List Word) : (W.codeRec p c l w).st = w.st := rfl
theorem W.Quiet.codeRec {w : W U} (p c : Nat) (l : List Word) (h : w.Quiet) : (W.codeRec p c l w).Quiet := h
@[simp] theorem u_evt (p f : Nat) : (W.evt p f w).u = w.u := rfl
@[simp] theorem st_evt (p f : Nat) : (W.evt p f w).st = w.st := rfl
theorem W.Quiet.evt {w : W U} (p f : Nat) (h : w.Quiet) : (W.evt p f w).Quiet := h
@[simp] theorem u_read (p a : Nat) : (W.read p a w).u = w.u := rfl
@[simp] theorem st_read (p a : Nat) : (W.read p a w).st = w.st := rfl
theorem W.Quiet.read {w : W U} (p a : Nat) (h : w.Quiet) : (W.read p a w).Quiet := h
@[simp] theorem u_readN (m : Mem) (p a n : Nat) : (W.readN m p a n w).u = w.u := rfl
@[simp] theorem st_readN (m : Mem) (p a n : Nat) : (W.readN m p a n w).st = w.st := rfl
theorem W.Quiet.readN {w : W U} (m : Mem) (p a n : Nat) (h : w.Quiet) : (W.readN m p a n w).Quiet := h
@[simp] theorem u_sample (x : Sample) : (W.sample x w).u = w.u := rfl
@[simp] theorem st_sample (x : Sample) : (W.sample x w).st = w.st := rfl
@[simp] theorem u_push (x : Push) : (W.push x w).u = w.u := rfl
@[simp] theorem st_push (x : Push) : (W.push x w).st = w.st := rfl
@[simp] theorem u_trigger (x : Trigger) : (W.trigger x w).u = w.u := rfl
@[simp] theorem st_trigger (x : Trigger) : (W.trigger x w).st = w.st := rfl
@[simp] theorem u_snapTrig (n : Nat) : (W.snapTrig n w).u = w.u := rfl
@[simp] theorem st_snapTrig (n : Nat) : (W.snapTrig n w).st = w.st := rfl
theorem W.Quiet.snapTrig {w : W U} (n : Nat) (h : w.Quiet) : (W.snapTrig n w).Quiet := h
@[simp] theorem u_emit (e : Emit) : (W.emit e w).u = w.u := rfl
@[simp] theorem st_emit (e : Emit) : (W.emit e w).st = w.st := rfl
theorem W.Quiet.emit {w : W U} (e : Emit) (h : w.Quiet) : (W.emit e w).Quiet := h
@[simp] theorem u_heal (a n : Nat) : (W.heal a n w).u = w.u := rfl
@[simp] theorem st_heal (a n : Nat) : (W.heal a n w).st = w.st := rfl
theorem W.Quiet.heal {w : W U} (a n : Nat) (h : w.Quiet) : (W.heal a n w).Quiet := h
@[simp] theorem u_store (p a : Nat) (d : List Byte) : (W.store p a d w).u = w.u := rfl
@[simp] theorem st_store (p a : Nat) (d : List Byte) : (W.store p a d w).st = w.st ++ [⟨p, a, d, false⟩] := rfl
theorem W.Quiet.store {w : W U} (p a : Nat) (d : List Byte) (h : w.Quiet) : (W.store p a d w).Quiet := h
@[simp] theorem u_storeP (p a : Nat) (d : List Byte) (b : Bool) : (W.storeP p a d b w).u = w.u := rfl
@[simp] theorem st_storeP (p a : Nat) (d : List Byte) (b : Bool) : (W.storeP p a d b w).st = w.st ++ [⟨p, a, d, b⟩] := rfl
theorem W.Quiet.storeP {w : W U} (p a : Nat) (d : List Byte) (b : Bool) (h : w.Quiet) : (W.storeP p a d b w).Quiet := h
end

theorem quiet_of {U : Type} (u : U) : (W.of u).Quiet := ⟨rfl, rfl, rfl⟩
@[simp] theorem u_of {U : Type} (u : U) : (W.of u).u = u := rfl
@[simp] theorem st_of {U : Type} (u : U) : (W.of u).st = [] := rfl

/-- A conditional step stays quiet. -/
theorem W.Quiet.when {U : Type} {w : W U} {c : Bool} {f : W U → W U} (h : w.Quiet) (hf : ∀ v : W U, v.Quiet → (f v).Quiet) :
    (W.when c f w).Quiet := by
  unfold W.when
  split
  · exact hf w h
  · exact h

/-- A fold of quiet steps is quiet. -/
theorem quiet_foldl {U B : Type} (f : W U → B → W U) (hf : ∀ (v : W U) b, v.Quiet → (f v b).Quiet) (l : List B) (w : W U) (h : w.Quiet) :
    (l.foldl f w).Quiet :=
  foldl_keeps (fun v : W U => v.Quiet) f (fun v b hv => hf v b hv) l w h

/-- A conditional step that stores nothing. -/
theorem st_when {U : Type} (w : W U) (c : Bool) (f : W U → W U) (hf : ∀ v : W U, (f v).st = v.st) : (W.when c f w).st = w.st := by
  unfold W.when
  split
  · exact hf w
  · rfl

/-- A fold of steps that store nothing. -/
theorem st_foldl {U B : Type} (f : W U → B → W U) (hf : ∀ (v : W U) b, (f v b).st = v.st) (l : List B) (w : W U) : (l.foldl f w).st = w.st :=
  foldl_keeps (fun v : W U => v.st = w.st) f (fun v b hv => (hf v b).trans hv) l w rfl

end Sys2Proof.Machine
end

