-- ==== Sys2Proof/Laws/Bytes.lean ====
section
/-! SUPPORT. The bytes of memory after a unit's work: samples, packets and event triggers store nothing. -/

namespace Sys2Proof.Machine

/-! ## What samples, packets and triggers store: nothing -/

theorem st_arriveAt (now : Int) (x : Sample) (w : W Flt) (k : Nat) : (Flt.arriveAt now x w k).st = w.st := by
  unfold Flt.arriveAt
  extract_lets sec w1 u st due tau late w2
  split
  · rfl
  split <;> rfl

theorem st_arrive (now : Int) (x : Sample) (w : W Flt) : (Flt.arrive now x w).st = w.st :=
  st_foldl _ (fun v k => st_arriveAt now x v k) _ w

theorem st_commitPacket (n : Nat) (w : W Fq) : (Fq.commit n w).st = w.st := by
  unfold Fq.commit
  dsimp only
  rw [st_map, st_when _ _ _ (by intro v; rfl)]
  rfl

theorem st_pushWord (unit n : Nat) (x : Word) (last : Bool) (bad : BitVec 4) (w : W Fq) : (Fq.push unit n x last bad w).st = w.st := by
  unfold Fq.push
  dsimp only
  split
  · rfl
  split
  · rfl
  split
  · rfl
  split
  · rfl
  split
  · rw [st_commitPacket]; rfl
  · rfl

theorem st_pushWords (unit n : Nat) (l : List (Word × Bool)) (w : W Fq) : (Fq.pushWords unit n l w).st = w.st := by
  induction l generalizing w with
  | nil => rfl
  | cons p l ih =>
    cases l with
    | nil => exact st_pushWord ..
    | cons q l =>
      show (Fq.pushWords unit n (q :: l) _).st = _
      rw [ih, st_pushWord]

theorem st_pushPacket (w : W Fq) (p : Push) : (Fq.pushPacket w p).st = w.st := st_pushWords ..

theorem st_copyIn (s : State) (t : Task) (w : W Prg) (e : MapEntry) : (Prg.copyIn s t w e).st = w.st := by
  unfold Prg.copyIn
  dsimp only
  rw [st_when _ _ _ (by intro v; rfl)]
  apply st_foldl
  intro v b
  rfl

theorem st_copyInputs (s : State) (t : Task) (w : W Prg) : (Prg.copyInputs s t w).st = w.st :=
  (st_foldl _ (fun v e => st_copyIn s t v e) _ _).trans rfl

theorem st_releaseEvent (s : State) (t : Task) (w : W Prg) : (Prg.releaseEvent s t w).st = w.st := by
  unfold Prg.releaseEvent
  dsimp only
  rw [st_map, st_copyInputs]

theorem st_triggerTask (s : State) (w : W Prg) (t : Task) : (Prg.triggerTask s w t).st = w.st := by
  unfold Prg.triggerTask
  dsimp only
  split
  · rw [st_releaseEvent]; rfl
  · rfl
  · split <;> rfl
  · split
    · rw [st_releaseEvent]; rfl
    · rfl
  · rfl

theorem st_programTrigger (s : State) (w : W Prg) (x : Trigger) : (Prg.trigger s w x).st = w.st := by
  unfold Prg.trigger
  split
  · dsimp only
    rw [st_map]
    exact st_foldl _ (fun v t => st_triggerTask s v t) _ _
  · rfl

/-! ## The commit -/

/-- What a sub-step leaves of the bytes: its stores, whatever it reads and heals. -/
theorem bytes_absorb {U : Type} (put : U → State → State) (w : W U) (x : State × Fx) (h : (put w.u x.1).mem = x.1.mem) (b : Nat) :
    (State.absorb put w x).1.mem.byte b = (x.1.mem.stores w.st).byte b := by
  unfold State.absorb
  dsimp only
  refine mem_healAll (P := fun m => m.byte b = (x.1.mem.stores w.st).byte b) (fun m a e hm => hm) _ _
    (mem_readBlocks (P := fun m => m.byte b = (x.1.mem.stores w.st).byte b) (fun m a e hm => hm) _ _ ?_)
  rw [mem_storeAll, h]

/-- A unit's work stores what it says and nothing else. -/
theorem bytes_commit (fx : Fx) (st : List Store) (s : State) (b : Nat) : (s.commit fx st).mem.byte b = (s.mem.stores st).byte b := by
  unfold State.commit
  dsimp only
  rw [mem_snapTriggers, mem_recordAll, mem_flags]
  have k : ∀ {B : Type} (f : State × Fx → B → State × Fx), (∀ x c, (f x c).1.mem.byte b = x.1.mem.byte b) →
      ∀ (l : List B) (x : State × Fx), (l.foldl f x).1.mem.byte b = x.1.mem.byte b :=
    fun f hf l x => foldl_keeps (fun y : State × Fx => y.1.mem.byte b = x.1.mem.byte b) f (fun y c hy => (hf y c).trans hy) l x rfl
  refine (k _ (fun x t => ?_) _ _).trans ((k _ (fun x p => ?_) _ _).trans ((k _ (fun x p => ?_) _ _).trans (bytes_absorb _ _ _ rfl b)))
  · unfold State.takeTrigger
    split
    · refine (bytes_absorb _ _ _ rfl b).trans ?_
      rw [st_programTrigger]; rfl
    · rfl
  · unfold State.takePacket
    split
    · refine (bytes_absorb _ _ _ rfl b).trans ?_
      rw [st_pushPacket]; rfl
    · rfl
  · unfold State.takeSample
    dsimp only
    split
    · refine (bytes_absorb _ _ _ rfl b).trans ?_
      rw [st_arrive]; rfl
    · rfl

end Sys2Proof.Machine
end

