-- ==== Sys2Proof/Laws/Header.lean ====
section
/-! SUPPORT. Laws of register cells and of the common header (R432–R436): what a unit's work changes in a header are its event flags, its
PAGE_ERR and the words of a snapshot; and what PAGE_ERR shows after a code. -/

namespace Sys2Proof.Machine

/-! ## Register cells -/

@[simp] theorem rget_rset (m : RMap) (k : Nat) (v : Word) (j : Nat) : rget (rset m k v) j = if j = k then v else rget m j :=
  sget_sset _ _ _ _ _

@[simp] theorem rget_rmod (m : RMap) (k : Nat) (f : Word → Word) (j : Nat) :
    rget (rmod m k f) j = if j = k then f (rget m k) else rget m j := rget_rset _ _ _ _

/-- A register cell that a list of writes does not name stands. -/
theorem rget_rsets_of_ne (m : RMap) (l : List (Nat × Word)) (j : Nat) (h : ∀ p ∈ l, p.1 ≠ j) : rget (rsets m l) j = rget m j := by
  induction l generalizing m with
  | nil => rfl
  | cons p l ih =>
    obtain ⟨k, v⟩ := p
    have hk : j ≠ k := fun e => h (k, v) (by simp) e.symm
    rw [rsets, ih _ (fun q hq => h q (by simp [hq])), rget_rset, if_neg hk]

/-- Register cells of different pages or offsets are different. -/
theorem cellKey_inj {p o q r : Nat} (ho : o < 0x400) (hr : r < 0x400) : cellKey p o 0 = cellKey q r 0 ↔ p = q ∧ o = r := by
  unfold cellKey
  omega

/-! ## What a unit's work changes in the headers -/

/-- A property of the headers that an event flag, a code and the words of a snapshot keep. -/
structure HdrStable (Q : RMap → Prop) : Prop where
  evt : ∀ h p f, Q h → Q (hdrEvt h p f)
  code : ∀ h p c, Q h → Q (hdrCode h p c)
  latch : ∀ h p o v, 0x20 ≤ o → o < 0x40 → Q h → Q (rset h (cellKey p o 0) v)

/-- The same where the codes are of one page: what a snapshot does. -/
structure SnapStable (Q : RMap → Prop) : Prop where
  evt : ∀ h p f, Q h → Q (hdrEvt h p f)
  code : ∀ h c, Q h → Q (hdrCode h Pg.SNAP c)
  latch : ∀ h p o v, 0x20 ≤ o → o < 0x40 → Q h → Q (rset h (cellKey p o 0) v)

theorem HdrStable.snap {Q : RMap → Prop} (h : HdrStable Q) : SnapStable Q := ⟨h.evt, fun m c => h.code m _ c, h.latch⟩

section
variable {Q : RMap → Prop}

theorem hdr_flags (he : ∀ h p f, Q h → Q (hdrEvt h p f)) (l : List (Nat × Nat)) (s : State) (h : Q s.hdr) : Q (s.flags l).hdr :=
  foldl_keeps Q (fun h (e : Nat × Nat) => hdrEvt h e.1 e.2) (fun h e hh => he h e.1 e.2 hh) l s.hdr h

@[simp] theorem hdr_setLog (l : Rec) (s : State) : (s.setLog l).hdr = s.hdr := by
  unfold State.setLog
  dsimp only
  split <;> rfl

/-- The headers after a code: PAGE_ERR of its page, and event flags of REC. -/
theorem hdr_record (he : ∀ h p f, Q h → Q (hdrEvt h p f)) (c : Code) (s : State) (h : Q (hdrCode s.hdr c.page c.code)) :
    Q (s.record c).hdr := by
  unfold State.record
  extract_lets s1
  split
  · unfold State.offer
    dsimp only
    refine hdr_flags he _ _ ?_
    rw [hdr_setLog]
    exact h
  · exact h

theorem hdr_recordAll (he : ∀ h p f, Q h → Q (hdrEvt h p f)) (l : List Code) (hc : ∀ h, ∀ c ∈ l, Q h → Q (hdrCode h c.page c.code))
    (s : State) (h : Q s.hdr) : Q (l.foldl (fun s c => s.record c) s).hdr := by
  induction l generalizing s with
  | nil => exact h
  | cons c l ih =>
    exact ih (fun h d hd => hc h d (by simp [hd])) _ (hdr_record he _ _ (hc _ c (by simp) h))

theorem hdr_rsets (hl : ∀ h p o v, 0x20 ≤ o → o < 0x40 → Q h → Q (rset h (cellKey p o 0) v)) (page : Nat) (l : List (Nat × Word))
    (hk : ∀ e ∈ l, ∃ o, 0x20 ≤ o ∧ o < 0x40 ∧ e.1 = cellKey page o 0) (h : RMap) (hh : Q h) : Q (rsets h l) := by
  induction l generalizing h with
  | nil => exact hh
  | cons e l ih =>
    obtain ⟨k, v⟩ := e
    obtain ⟨o, h1, h2, h3⟩ := hk (k, v) (by simp)
    refine ih (fun e he => hk e (by simp [he])) _ ?_
    simp only at h3
    rw [h3]
    exact hl _ _ _ _ h1 h2 hh

theorem hdr_latchPage (hl : ∀ h p o v, 0x20 ≤ o → o < 0x40 → Q h → Q (rset h (cellKey p o 0) v)) (id : Nat) (t : Int) (s : State)
    (h : RMap) (page : Nat) (hh : Q h) : Q (s.latchPage id t h page) := by
  unfold State.latchPage
  dsimp only
  split
  · refine hdr_rsets hl page _ ?_ h hh
    intro e he
    rcases List.mem_append.mp he with he | he
    · simp only [List.mem_cons, List.not_mem_nil, or_false] at he
      rcases he with rfl | rfl | rfl
      · exact ⟨0x20, by omega, by omega, rfl⟩
      · exact ⟨0x24, by omega, by omega, rfl⟩
      · exact ⟨0x28, by omega, by omega, rfl⟩
    · obtain ⟨k, hk, rfl⟩ := List.mem_map.mp he
      have hk5 : k < 5 := List.mem_range.mp hk
      exact ⟨0x2C + 4 * k, by omega, by omega, rfl⟩
  · exact hh

theorem hdr_beginSave (s : State) : s.beginSave.hdr = s.hdr := by
  unfold State.beginSave
  dsimp only
  rw [hdr_setLog]

theorem mem_insertCode (c : Code) (l : List Code) (d : Code) : d ∈ insertCode c l ↔ d = c ∨ d ∈ l := by
  induction l with
  | nil => simp [insertCode]
  | cons e l ih =>
    unfold insertCode
    split
    · simp
    · simp only [List.mem_cons, ih]
      exact or_left_comm

theorem mem_sortCodes (l : List Code) (d : Code) : d ∈ sortCodes l ↔ d ∈ l := by
  have h : ∀ (l a : List Code), d ∈ l.foldl (fun a c => insertCode c a) a ↔ d ∈ l ∨ d ∈ a := by
    intro l
    induction l with
    | nil => simp
    | cons c l ih =>
      intro a
      rw [List.foldl_cons, ih, mem_insertCode, List.mem_cons, or_left_comm, or_assoc]
  simpa [sortCodes] using h l []

/-- The headers after a snapshot. -/
theorem hdr_snapshot (hQ : SnapStable Q) (srcs code : Nat) (s : State) (h : Q s.hdr) : Q (s.snapshot srcs code).hdr := by
  unfold State.snapshot
  extract_lets t w missed s1 s2 s3 s4
  have h2 : Q s2.hdr :=
    foldl_keeps Q _ (fun h p hh => hdr_latchPage hQ.latch _ _ _ h p hh) _ _ h
  have hcodes : ∀ (l : List Code), (∀ c ∈ l, c.page = Pg.SNAP) → ∀ x : State, Q x.hdr → Q (x.recordAll l).hdr := by
    intro l hl x hx
    refine hdr_recordAll hQ.evt _ (fun h c hc hh => ?_) x hx
    rw [hl c ((mem_sortCodes l c).mp hc)]
    exact hQ.code h _ hh
  have h4 : Q s4.hdr := by
    refine hcodes _ ?_ _ (hdr_flags hQ.evt _ _ h2)
    intro c hc
    rcases List.mem_append.mp hc with hc | hc
    · split at hc
      · simp only [List.mem_singleton] at hc; rw [hc]
      · exact absurd hc (List.not_mem_nil)
    · split at hc
      · exact absurd hc (List.not_mem_nil)
      · simp only [List.mem_singleton] at hc; rw [hc]
  have hw : ∀ c ∈ w.fx.codes, c.page = Pg.SNAP := by
    have hw' : w.fx.codes = if s.snap.refusedRecorded then [] else [⟨Pg.SNAP, 0x1182, [], false⟩] := by
      show (Snap.refuse s.snap).fx.codes = _
      unfold Snap.refuse
      cases s.snap.refusedRecorded <;> rfl
    intro c hc
    rw [hw'] at hc
    split at hc
    · exact absurd hc (List.not_mem_nil)
    · simp only [List.mem_singleton] at hc; rw [hc]
  split
  · exact hcodes _ hw _ (hdr_flags hQ.evt _ _ h)
  · split
    · rw [hdr_beginSave]; exact h4
    · exact h4

theorem hdr_snapTriggers (hQ : SnapStable Q) (srcs : List Nat) (codes : List Code) (s : State) (h : Q s.hdr) :
    Q (s.snapTriggers srcs codes).hdr := by
  unfold State.snapTriggers
  extract_lets on f m
  split
  · exact h
  · exact hdr_snapshot hQ _ _ s h

theorem hdr_readBlock (page a : Nat) (s : State) : (s.readBlock page a).1.hdr = s.hdr := by
  unfold State.readBlock
  dsimp only
  split
  · rfl
  · dsimp only; split <;> rfl

theorem hdr_readBlocks (l : List (Nat × Nat)) (s : State) : (State.readBlocks l s).1.hdr = s.hdr := by
  induction l generalizing s with
  | nil => rfl
  | cons p l ih =>
    unfold State.readBlocks
    dsimp only
    rw [ih, hdr_readBlock]

theorem hdr_store1 (st : Store) (s : State) : (s.store1 st).1.hdr = s.hdr := by
  have h := foldl_keeps (fun x : State × List Code => x.1.hdr = s.hdr)
    (fun (x : State × List Code) (r : Nat × Nat) => ((x.1.readForStore r.1 r.2).1, x.2 ++ (x.1.readForStore r.1 r.2).2))
    (fun x r hx => by
      have : (x.1.readForStore r.1 r.2).1.hdr = x.1.hdr := by
        unfold State.readForStore
        dsimp only
        split <;> rfl
      rw [this]; exact hx) (readsOfStore st) (s, []) rfl
  exact h

theorem hdr_storeAll (l : List Store) (s : State) : (State.storeAll l s).1.hdr = s.hdr := by
  induction l generalizing s with
  | nil => rfl
  | cons st l ih =>
    unfold State.storeAll
    dsimp only
    rw [ih, hdr_store1]

theorem hdr_absorb {U : Type} (put : U → State → State) (w : W U) (x : State × Fx) :
    (State.absorb put w x).1.hdr = (put w.u x.1).hdr := by
  show (State.healAll _ _).hdr = _
  show (State.readBlocks _ _).1.hdr = _
  rw [hdr_readBlocks, hdr_storeAll]

/-- What the intakes and triggers of a unit's work leave in the headers: nothing. -/
theorem hdr_intake (fx : Fx) (x : State × Fx) :
    ((x.2.triggers.foldl State.takeTrigger x).1.hdr = x.1.hdr) ∧ ((fx.pushes.foldl State.takePacket x).1.hdr = x.1.hdr)
      ∧ ((fx.samples.foldl State.takeSample x).1.hdr = x.1.hdr) := by
  refine ⟨foldl_keeps (fun y : State × Fx => y.1.hdr = x.1.hdr) _ (fun y t hy => ?_) _ _ rfl,
    foldl_keeps (fun y : State × Fx => y.1.hdr = x.1.hdr) _ (fun y t hy => ?_) _ _ rfl,
    foldl_keeps (fun y : State × Fx => y.1.hdr = x.1.hdr) _ (fun y t hy => ?_) _ _ rfl⟩
  · unfold State.takeTrigger
    split
    · rw [hdr_absorb]; exact hy
    · exact hy
  · unfold State.takePacket
    split
    · rw [hdr_absorb]; exact hy
    · exact hy
  · unfold State.takeSample
    dsimp only
    split
    · rw [hdr_absorb]; exact hy
    · exact hy

/-- A unit's work keeps of the headers what event flags, codes and snapshots keep. -/
theorem hdr_commit (hQ : HdrStable Q) (fx : Fx) (st : List Store) (s : State) (h : Q s.hdr) : Q (s.commit fx st).hdr := by
  unfold State.commit
  extract_lets x0 x1 x2 x3 s4
  have h0 : x0.1.hdr = s.hdr := hdr_absorb _ _ _
  have h1 : x1.1.hdr = s.hdr := ((hdr_intake fx x0).2.2).trans h0
  have h2 : x2.1.hdr = s.hdr := ((hdr_intake fx x1).2.1).trans h1
  have h3 : x3.1.hdr = s.hdr := ((hdr_intake fx x2).1).trans h2
  have h4 : Q s4.hdr := hdr_recordAll hQ.evt _ (fun m c _ hm => hQ.code m _ _ hm) _ (hdr_flags hQ.evt _ _ (by rw [h3]; exact h))
  exact hdr_snapTriggers hQ.snap _ _ _ h4

end

/-- Of a header, a unit's work leaves PAGE_ID, PAGE_FEAT, PAGE_CTRL, EVT_MASK and PAGE_SEQ. -/
theorem hdrCell_commit (fx : Fx) (st : List Store) (s : State) (q o : Nat) (ho : o < 0x20) (h1 : o ≠ 0x10) (h2 : o ≠ 0x18) :
    rget (s.commit fx st).hdr (cellKey q o 0) = rget s.hdr (cellKey q o 0) := by
  refine hdr_commit (Q := fun h => rget h (cellKey q o 0) = rget s.hdr (cellKey q o 0)) ⟨?_, ?_, ?_⟩ fx st s rfl
  · intro h p f hh
    simp only [hdrEvt]
    rw [rget_rmod, if_neg, hh]
    rw [cellKey_inj (by omega) (by omega)]; omega
  · intro h p c hh
    simp only [hdrCode]
    rw [rget_rmod, if_neg, hh]
    rw [cellKey_inj (by omega) (by omega)]; omega
  · intro h p o' v _ _ hh
    rw [rget_rset, if_neg, hh]
    rw [cellKey_inj (by omega) (by omega)]; omega

/-! ## PAGE_ERR after a code (R434) -/

/-- PAGE_ERR with a code recorded: CODE, and COUNT one more. -/
def errWord (w : Word) (code : Nat) : Word := wd (code % 0x10000 + 0x10000 * satInc 15 (bits w 30 16))

/-- PAGE_ERR of every page but SNAP's after work that only records codes, raises flags, triggers snapshots and sends: the codes of that
page in order. -/
theorem pageErr_commit (fx : Fx) (s : State) (q : Nat) (hq : q ≠ Pg.SNAP) (h1 : fx.reads = []) (h2 : fx.samples = [])
    (h3 : fx.pushes = []) (h4 : fx.triggers = []) :
    rget (s.commit fx []).hdr (cellKey q 0x18 0) =
      ((sortCodes fx.codes).filter (fun c => c.page == q)).foldl (fun w c => errWord w c.code) (rget s.hdr (cellKey q 0x18 0)) := by
  unfold State.commit
  rw [h2, h3]
  extract_lets x0 x1 x2 x3 s4
  have hx : x0.2.codes = fx.codes ∧ x0.2.triggers = [] := by
    show (State.absorb _ _ _).2.codes = _ ∧ (State.absorb _ _ _).2.triggers = []
    simp [State.absorb, State.storeAll, State.readBlocks, Fx.app, Fx.none, h1, h4]
  have e3 : x3 = x0 := by
    show x0.2.triggers.foldl _ x0 = x0
    rw [hx.2]; rfl
  have h0 : x3.1.hdr = s.hdr := by rw [e3]; exact hdr_absorb _ _ _
  have evtQ : ∀ (v : Word) (h : RMap) (p f : Nat), rget h (cellKey q 0x18 0) = v → rget (hdrEvt h p f) (cellKey q 0x18 0) = v := by
    intro v h p f hh
    simp only [hdrEvt]
    rw [rget_rmod, if_neg, hh]
    rw [cellKey_inj (by omega) (by omega)]; omega
  have rec1 : ∀ (l : List Code) (x : State), rget ((l.foldl (fun s c => s.record c) x).hdr) (cellKey q 0x18 0) =
      (l.filter (fun c => c.page == q)).foldl (fun w c => errWord w c.code) (rget x.hdr (cellKey q 0x18 0)) := by
    intro l
    induction l with
    | nil => intro x; rfl
    | cons c l ih =>
      intro x
      rw [List.foldl_cons, ih]
      have hc : rget (x.record c).hdr (cellKey q 0x18 0) =
          if c.page = q then errWord (rget x.hdr (cellKey q 0x18 0)) c.code else rget x.hdr (cellKey q 0x18 0) := by
        refine hdr_record (Q := fun h => rget h (cellKey q 0x18 0) = _) (evtQ _) c x ?_
        simp only [hdrCode]
        rw [rget_rmod]
        by_cases hp : c.page = q
        · subst hp; simp [errWord]
        · rw [if_neg (by rw [cellKey_inj (by omega) (by omega)]; omega), if_neg hp]
      rw [hc]
      by_cases hp : c.page = q
      · simp [hp]
      · simp [hp]
  refine hdr_snapTriggers (Q := fun h => rget h (cellKey q 0x18 0) = _) ⟨evtQ _, ?_, ?_⟩ _ _ s4 ?_
  · intro h c hh
    simp only [hdrCode]
    rw [rget_rmod, if_neg, hh]
    rw [cellKey_inj (by omega) (by omega)]; omega
  · intro h p o v h1 h2 hh
    rw [rget_rset, if_neg, hh]
    rw [cellKey_inj (by omega) (by omega)]; omega
  · show rget ((sortCodes x3.2.codes).foldl (fun s c => s.record c) (x3.1.flags x3.2.evts)).hdr (cellKey q 0x18 0) = _
    rw [rec1, e3, hx.1]
    congr 1
    refine hdr_flags (Q := fun h => rget h (cellKey q 0x18 0) = rget s.hdr (cellKey q 0x18 0)) (evtQ _) _ _ ?_
    rw [← e3, h0]

/-- PAGE_ERR of a page after a code of it. -/
theorem pageErr_code (page code : Nat) (payload : List Word) (s : State) (hp : page ≠ Pg.SNAP) :
    rget (s.code page code payload).hdr (cellKey page 0x18 0) = errWord (rget s.hdr (cellKey page 0x18 0)) code := by
  unfold State.code
  rw [pageErr_commit _ s page hp rfl rfl rfl rfl]
  simp [sortCodes, insertCode]

/-- PAGE_ERR of a page after a code of it that is recorded in REC whatever its class. -/
theorem pageErr_codeRec (page code : Nat) (payload : List Word) (s : State) (hp : page ≠ Pg.SNAP) :
    rget (s.codeRec page code payload).hdr (cellKey page 0x18 0) = errWord (rget s.hdr (cellKey page 0x18 0)) code := by
  unfold State.codeRec
  rw [pageErr_commit _ s page hp rfl rfl rfl rfl]
  simp [sortCodes, insertCode]

/-- CODE of PAGE_ERR after a code. -/
theorem bits_errWord (w : Word) (code : Nat) : bits (errWord w code) 15 0 = code % 0x10000 := by
  unfold errWord bits wd
  have h : satInc 15 (bits w 30 16) ≤ 0x7FFF := by
    unfold satInc
    split <;> omega
  have h2 : code % 0x10000 < 0x10000 := Nat.mod_lt _ (by omega)
  simp only [BitVec.toNat_ofNat, Nat.shiftRight_zero]
  unfold bits at h
  omega

end Sys2Proof.Machine
end

