-- ==== Sys2Proof/Laws/Units.lean ====
section
/-! SUPPORT. What each unit's work leaves: its own state as the work says, the shell of everything else as it was; and what work that only
records, raises flags, takes snapshots and sends leaves of memory, the firkins, FLT, the program and NVS. -/

namespace Sys2Proof.Machine

/-! ## Work that stores nothing and delivers nothing -/

/-- Work that reads no block, delivers no sample, packet or trigger and heals no block. -/
structure Fx.Plain (fx : Fx) : Prop where
  reads : fx.reads = []
  samples : fx.samples = []
  pushes : fx.pushes = []
  triggers : fx.triggers = []
  heals : fx.heals = []

/-- What records, flags and snapshots leave alone outside the shell. -/
def State.inner (s : State) : Mem × Fq × Flt × Prg × Nvs × List Emit := (s.mem, s.fq, s.flt, s.prg, s.nvs, s.outbox)

@[simp] theorem inner_flags (l : List (Nat × Nat)) (s : State) : (s.flags l).inner = s.inner := rfl

@[simp] theorem inner_setLog (l : Rec) (s : State) : (s.setLog l).inner = s.inner := by
  unfold State.setLog
  dsimp only
  split <;> rfl

@[simp] theorem inner_record (c : Code) (s : State) : (s.record c).inner = s.inner := by
  unfold State.record
  dsimp only
  split
  · unfold State.offer
    dsimp only
    rw [inner_flags, inner_setLog]
    rfl
  · rfl

@[simp] theorem inner_recordAll (l : List Code) (s : State) : (s.recordAll l).inner = s.inner :=
  foldl_keeps (fun x : State => x.inner = s.inner) _ (fun x c hx => by rw [inner_record]; exact hx) _ _ rfl

@[simp] theorem inner_snapTriggers (srcs : List Nat) (codes : List Code) (s : State) : (s.snapTriggers srcs codes).inner = s.inner := by
  unfold State.snapTriggers
  extract_lets on f m
  have hs : ∀ a b, (s.snapshot a b).inner = s.inner := by
    intro a b
    unfold State.snapshot
    extract_lets t w missed s1 s2 s3 s4
    have h4 : s4.inner = s.inner := by
      show (State.recordAll _ _).inner = _
      rw [inner_recordAll]
      rfl
    have h5 : s4.beginSave.inner = s4.inner := by
      unfold State.beginSave
      dsimp only
      rw [inner_setLog]
      rfl
    rw [apply_ite State.inner, inner_recordAll, apply_ite State.inner, h5, ite_self, h4]
    exact ite_self _
  rw [apply_ite State.inner, hs]
  exact ite_self _

/-- Plain work leaves memory, the firkins, FLT, the program and NVS as they were, and sends what it emits. -/
theorem inner_commit (fx : Fx) (h : fx.Plain) (s : State) :
    (s.commit fx []).inner = (s.mem, s.fq, s.flt, s.prg, s.nvs, fx.emits.reverse ++ s.outbox) := by
  unfold State.commit
  rw [h.samples, h.pushes]
  extract_lets x0 x1 x2 x3 s4 s5
  have hx : x0.2.triggers = [] := by
    show (State.absorb _ _ _).2.triggers = []
    simp [State.absorb, State.storeAll, State.readBlocks, Fx.app, Fx.none, h.reads, h.triggers]
  have e3 : x3 = x0 := by
    show x0.2.triggers.foldl _ x0 = x0
    rw [hx]; rfl
  have h0 : x0.1.inner = s.inner := by
    show (State.absorb _ _ _).1.inner = _
    simp only [State.absorb, State.storeAll, State.readBlocks, h.reads, h.heals]
    rfl
  have hs : s5.inner = s.inner := by
    show (State.snapTriggers _ _ _).inner = _
    rw [inner_snapTriggers]
    show (State.recordAll _ _).inner = _
    rw [inner_recordAll, inner_flags, e3, h0]
  have he : x3.2.emits = fx.emits := by
    rw [e3]
    show (State.absorb _ _ _).2.emits = _
    simp [State.absorb, State.storeAll, Fx.app, Fx.none]
  obtain ⟨a1, a2, a3, a4, a5, a6⟩ : _ ∧ _ ∧ _ ∧ _ ∧ _ ∧ _ := by
    simpa [State.inner] using hs
  simp only [State.inner]
  rw [a1, a2, a3, a4, a5, a6, he]

section
variable (fx : Fx) (h : fx.Plain) (s : State)
include h
theorem plain_mem : (s.commit fx []).mem = s.mem := congrArg (·.1) (inner_commit fx h s)
theorem plain_fq : (s.commit fx []).fq = s.fq := congrArg (·.2.1) (inner_commit fx h s)
theorem plain_flt : (s.commit fx []).flt = s.flt := congrArg (·.2.2.1) (inner_commit fx h s)
theorem plain_prg : (s.commit fx []).prg = s.prg := congrArg (·.2.2.2.1) (inner_commit fx h s)
theorem plain_nvs : (s.commit fx []).nvs = s.nvs := congrArg (·.2.2.2.2.1) (inner_commit fx h s)
theorem plain_outbox : (s.commit fx []).outbox = fx.emits.reverse ++ s.outbox := congrArg (·.2.2.2.2.2) (inner_commit fx h s)
end

/-! ## The firkins -/

section
variable {Q : Fq → Prop} (hc : ∀ u a o, Q u → Q (u.countRead a o)) (hb : ∀ u a, Q u → Q (u.countBack a))
include hc hb

theorem fq_readBlock (page a : Nat) (s : State) (h : Q s.fq) : Q (s.readBlock page a).1.fq := by
  unfold State.readBlock
  dsimp only
  split
  · exact h
  · dsimp only
    split
    · exact hb _ _ (hc _ _ _ h)
    · exact hc _ _ _ h

theorem fq_readBlocks (l : List (Nat × Nat)) (s : State) (h : Q s.fq) : Q (State.readBlocks l s).1.fq := by
  induction l generalizing s with
  | nil => exact h
  | cons p l ih => exact ih _ (fq_readBlock hc hb _ _ _ h)

omit hb in
theorem fq_store1 (st : Store) (s : State) (h : Q s.fq) : Q (s.store1 st).1.fq :=
  foldl_keeps (fun x : State × List Code => Q x.1.fq)
    (fun (x : State × List Code) (r : Nat × Nat) => ((x.1.readForStore r.1 r.2).1, x.2 ++ (x.1.readForStore r.1 r.2).2))
    (fun x r hx => by
      unfold State.readForStore
      dsimp only
      split
      · exact hx
      · exact hc _ _ _ hx) (readsOfStore st) (s, []) h

omit hb in
theorem fq_storeAll (l : List Store) (s : State) (h : Q s.fq) : Q (State.storeAll l s).1.fq := by
  induction l generalizing s with
  | nil => exact h
  | cons st l ih => exact ih _ (fq_store1 hc _ _ h)

theorem fq_absorb {U : Type} (put : U → State → State) (w : W U) (x : State × Fx) (h : Q (put w.u x.1).fq) :
    Q (State.absorb put w x).1.fq :=
  fq_readBlocks hc hb _ _ (fq_storeAll hc _ _ h)

/-- Work that pushes no packet leaves of the firkins what the counters of R21 and R22 leave. -/
theorem fq_commit (fx : Fx) (st : List Store) (s : State) (hp : fx.pushes = []) (h : Q s.fq) : Q (s.commit fx st).fq := by
  unfold State.commit
  rw [hp]
  extract_lets x0 x1 x2 x3 s4 s5
  have h0 : Q x0.1.fq := fq_absorb hc hb _ _ _ h
  have h1 : Q x1.1.fq := by
    refine foldl_keeps (fun x : State × Fx => Q x.1.fq) _ (fun x p hx => ?_) _ _ h0
    unfold State.takeSample
    dsimp only
    split
    · exact fq_absorb hc hb _ _ _ hx
    · exact hx
  have h3 : Q x3.1.fq := by
    refine foldl_keeps (fun x : State × Fx => Q x.1.fq) _ (fun x p hx => ?_) _ _ h1
    unfold State.takeTrigger
    split
    · exact fq_absorb hc hb _ _ _ hx
    · exact hx
  have h4 : s4.fq = x3.1.fq := by
    have := inner_recordAll x3.2.codes (x3.1.flags x3.2.evts)
    exact congrArg (·.2.1) this
  have h5 : s5.fq = s4.fq := congrArg (·.2.1) (inner_snapTriggers x3.2.snaps x3.2.codes s4)
  show Q s5.fq
  rw [h5, h4]
  exact h3
end

/-- Work that pushes no packet leaves what every firkin holds. -/
theorem firkin_commit (fx : Fx) (st : List Store) (s : State) (hp : fx.pushes = []) (n : Nat) :
    (s.commit fx st).fq.firkin n = s.fq.firkin n := by
  refine fq_commit (Q := fun u => u.firkin n = s.fq.firkin n) (fun u a o h => ?_) (fun u a h => h) fx st s hp rfl
  rw [← h]
  unfold Fq.countRead Fq.firkin
  cases o <;> dsimp only <;> first | rfl | (split <;> rfl)

/-! ## FLT -/

theorem flt_readBlock (page a : Nat) (s : State) : (s.readBlock page a).1.flt = s.flt := by
  unfold State.readBlock; dsimp only; split
  · rfl
  · dsimp only; split <;> rfl
theorem flt_readBlocks (l : List (Nat × Nat)) (s : State) : (State.readBlocks l s).1.flt = s.flt := by
  induction l generalizing s with
  | nil => rfl
  | cons p l ih => unfold State.readBlocks; dsimp only; rw [ih, flt_readBlock]
theorem flt_store1 (st : Store) (s : State) : (s.store1 st).1.flt = s.flt :=
  foldl_keeps (fun x : State × List Code => x.1.flt = s.flt)
    (fun (x : State × List Code) (r : Nat × Nat) => ((x.1.readForStore r.1 r.2).1, x.2 ++ (x.1.readForStore r.1 r.2).2))
    (fun x r hx => by
      rw [← hx]; unfold State.readForStore; dsimp only; split <;> rfl) (readsOfStore st) (s, []) rfl
theorem flt_storeAll (l : List Store) (s : State) : (State.storeAll l s).1.flt = s.flt := by
  induction l generalizing s with
  | nil => rfl
  | cons p l ih => unfold State.storeAll; dsimp only; rw [ih, flt_store1]
theorem flt_absorb {U : Type} (put : U → State → State) (w : W U) (x : State × Fx) : (State.absorb put w x).1.flt = (put w.u x.1).flt := by
  unfold State.absorb
  dsimp only
  show (State.readBlocks _ _).1.flt = _
  rw [flt_readBlocks, flt_storeAll]

/-- Work that delivers no sample leaves FLT. -/
theorem flt_commit (fx : Fx) (st : List Store) (s : State) (hp : fx.samples = []) : (s.commit fx st).flt = s.flt := by
  unfold State.commit
  rw [hp]
  extract_lets x0 x1 x2 x3 s4 s5
  have h0 : x0.1.flt = s.flt := flt_absorb _ _ _
  have h2 : x2.1.flt = s.flt := by
    refine foldl_keeps (fun x : State × Fx => x.1.flt = s.flt) _ (fun x p hx => ?_) _ _ h0
    unfold State.takePacket
    split
    · rw [flt_absorb]; exact hx
    · exact hx
  have h3 : x3.1.flt = s.flt := by
    refine foldl_keeps (fun x : State × Fx => x.1.flt = s.flt) _ (fun x p hx => ?_) _ _ h2
    unfold State.takeTrigger
    split
    · rw [flt_absorb]; exact hx
    · exact hx
  have h4 : s4.flt = x3.1.flt := by
    have := inner_recordAll x3.2.codes (x3.1.flags x3.2.evts)
    exact congrArg (·.2.2.1) this
  have h5 : s5.flt = s4.flt := congrArg (·.2.2.1) (inner_snapTriggers x3.2.snaps x3.2.codes s4)
  show s5.flt = _
  rw [h5, h4, h3]

@[simp] theorem inner_code (page code : Nat) (payload : List Word) (s : State) : (s.code page code payload).inner = s.inner :=
  inner_commit _ ⟨rfl, rfl, rfl, rfl, rfl⟩ s
@[simp] theorem inner_codeRec (page code : Nat) (payload : List Word) (s : State) : (s.codeRec page code payload).inner = s.inner :=
  inner_commit _ ⟨rfl, rfl, rfl, rfl, rfl⟩ s
@[simp] theorem shell_code (page code : Nat) (payload : List Word) (s : State) : (s.code page code payload).shell = s.shell :=
  shell_commit _ _ s
@[simp] theorem shell_codeRec (page code : Nat) (payload : List Word) (s : State) : (s.codeRec page code payload).shell = s.shell :=
  shell_commit _ _ s

/-! ## The units -/

/-- Seq after its work. -/
@[simp] theorem onSeq_seq (f : Seq → W Seq) (s : State) : (s.onSeq f).seq = (f s.seq).u := commit_seq _ _ _
/-- The rest after Seq's work. -/
@[simp] theorem shell_onSeq (f : Seq → W Seq) (s : State) : (s.onSeq f).shell = { s.shell with seq := (f s.seq).u } := shell_commit _ _ _
/-- Est after its work. -/
@[simp] theorem onEst_est (f : Est → W Est) (s : State) : (s.onEst f).est = (f s.est).u := commit_est _ _ _
/-- The rest after Est's work. -/
@[simp] theorem shell_onEst (f : Est → W Est) (s : State) : (s.onEst f).shell = { s.shell with est := (f s.est).u } := shell_commit _ _ _
/-- Fus after its work. -/
@[simp] theorem onFus_fus (f : Fus → W Fus) (s : State) : (s.onFus f).fus = (f s.fus).u := commit_fus _ _ _
/-- The rest after Fus's work. -/
@[simp] theorem shell_onFus (f : Fus → W Fus) (s : State) : (s.onFus f).shell = { s.shell with fus := (f s.fus).u } := shell_commit _ _ _
/-- Gns after its work. -/
@[simp] theorem onGns_gns (f : Gns → W Gns) (s : State) : (s.onGns f).gns = (f s.gns).u := commit_gns _ _ _
/-- The rest after Gns's work. -/
@[simp] theorem shell_onGns (f : Gns → W Gns) (s : State) : (s.onGns f).shell = { s.shell with gns := (f s.gns).u } := shell_commit _ _ _
/-- Ctl after its work. -/
@[simp] theorem onCtl_ctl (f : Ctl → W Ctl) (s : State) : (s.onCtl f).ctl = (f s.ctl).u := commit_ctl _ _ _
/-- The rest after Ctl's work. -/
@[simp] theorem shell_onCtl (f : Ctl → W Ctl) (s : State) : (s.onCtl f).shell = { s.shell with ctl := (f s.ctl).u } := shell_commit _ _ _
/-- Tim after its work. -/
@[simp] theorem onTim_tim (f : Tim → W Tim) (s : State) : (s.onTim f).tim = (f s.tim).u := commit_tim _ _ _
/-- The rest after Tim's work. -/
@[simp] theorem shell_onTim (f : Tim → W Tim) (s : State) : (s.onTim f).shell = { s.shell with tim := (f s.tim).u } := shell_commit _ _ _
/-- Ptp after its work. -/
@[simp] theorem onPtp_ptp (f : Ptp → W Ptp) (s : State) : (s.onPtp f).ptp = (f s.ptp).u := commit_ptp _ _ _
/-- The rest after Ptp's work. -/
@[simp] theorem shell_onPtp (f : Ptp → W Ptp) (s : State) : (s.onPtp f).shell = { s.shell with ptp := (f s.ptp).u } := shell_commit _ _ _
/-- Net after its work. -/
@[simp] theorem onNet_net (f : Net → W Net) (s : State) : (s.onNet f).net = (f s.net).u := commit_net _ _ _
/-- The rest after Net's work. -/
@[simp] theorem shell_onNet (f : Net → W Net) (s : State) : (s.onNet f).shell = { s.shell with net := (f s.net).u } := shell_commit _ _ _
/-- Can after its work. -/
@[simp] theorem onCan_can (f : Can → W Can) (s : State) : (s.onCan f).can = (f s.can).u := commit_can _ _ _
/-- The rest after Can's work. -/
@[simp] theorem shell_onCan (f : Can → W Can) (s : State) : (s.onCan f).shell = { s.shell with can := (f s.can).u } := shell_commit _ _ _
/-- Fio after its work. -/
@[simp] theorem onFio_fio (f : Fio → W Fio) (s : State) : (s.onFio f).fio = (f s.fio).u := commit_fio _ _ _
/-- The rest after Fio's work. -/
@[simp] theorem shell_onFio (f : Fio → W Fio) (s : State) : (s.onFio f).shell = { s.shell with fio := (f s.fio).u } := shell_commit _ _ _
/-- Ser after its work. -/
@[simp] theorem onSer_ser (f : Ser → W Ser) (s : State) : (s.onSer f).ser = (f s.ser).u := commit_ser _ _ _
/-- The rest after Ser's work. -/
@[simp] theorem shell_onSer (f : Ser → W Ser) (s : State) : (s.onSer f).shell = { s.shell with ser := (f s.ser).u } := shell_commit _ _ _
/-- Pos after its work. -/
@[simp] theorem onPos_pos (f : Pos → W Pos) (s : State) : (s.onPos f).pos = (f s.pos).u := commit_pos _ _ _
/-- The rest after Pos's work. -/
@[simp] theorem shell_onPos (f : Pos → W Pos) (s : State) : (s.onPos f).shell = { s.shell with pos := (f s.pos).u } := shell_commit _ _ _
/-- Saf after its work. -/
@[simp] theorem onSaf_saf (f : Saf → W Saf) (s : State) : (s.onSaf f).saf = (f s.saf).u := commit_saf _ _ _
/-- The rest after Saf's work. -/
@[simp] theorem shell_onSaf (f : Saf → W Saf) (s : State) : (s.onSaf f).shell = { s.shell with saf := (f s.saf).u } := shell_commit _ _ _
/-- Alc after its work. -/
@[simp] theorem onAlc_alc (f : Alc → W Alc) (s : State) : (s.onAlc f).alc = (f s.alc).u := commit_alc _ _ _
/-- The rest after Alc's work. -/
@[simp] theorem shell_onAlc (f : Alc → W Alc) (s : State) : (s.onAlc f).shell = { s.shell with alc := (f s.alc).u } := shell_commit _ _ _
/-- Sol after its work. -/
@[simp] theorem onSol_sol (f : Sol → W Sol) (s : State) : (s.onSol f).sol = (f s.sol).u := commit_sol _ _ _
/-- The rest after Sol's work. -/
@[simp] theorem shell_onSol (f : Sol → W Sol) (s : State) : (s.onSol f).shell = { s.shell with sol := (f s.sol).u } := shell_commit _ _ _
/-- The shell after Fq's work. -/
@[simp] theorem shell_onFq (f : Fq → W Fq) (s : State) : (s.onFq f).shell = s.shell := shell_commit _ _ _
/-- The shell after Flt's work. -/
@[simp] theorem shell_onFlt (f : Flt → W Flt) (s : State) : (s.onFlt f).shell = s.shell := shell_commit _ _ _
/-- The shell after Prg's work. -/
@[simp] theorem shell_onPrg (f : Prg → W Prg) (s : State) : (s.onPrg f).shell = s.shell := shell_commit _ _ _
/-- The shell after Nvs's work. -/
@[simp] theorem shell_onNvs (f : Nvs → W Nvs) (s : State) : (s.onNvs f).shell = s.shell := shell_commit _ _ _
/-- The shell after REC's work. -/
@[simp] theorem shell_onLog (f : Rec → W Rec) (s : State) : (s.onLog f).shell = s.shell := by
  unfold State.onLog
  dsimp only
  rw [shell_commit, shell_setLog]
/-- The rest after CHN's work. -/
@[simp] theorem shell_onChn (f : Chn → W Chn) (s : State) :
    (s.onChn f).shell = { s.shell with chn := { (f s.chn).u with
      fault := 0
      samples := [] } } := shell_commit _ _ _
/-- CHN after its work, but for the fault it notes and the samples it mirrors. -/
theorem onChn_chn (f : Chn → W Chn) (s : State) :
    (s.onChn f).chn = { (f s.chn).u with
      fault := (s.onChn f).chn.fault
      samples := (s.onChn f).chn.samples } := commit_chn _ _ _

/-! ### What each unit's work leaves of the module's own fields -/

section
variable (s : State)
@[simp] theorem onSeq_now (f : Seq → W Seq) : (s.onSeq f).now = s.now := commit_now _ _ _
@[simp] theorem onSeq_mode (f : Seq → W Seq) : (s.onSeq f).mode = s.mode := commit_mode _ _ _
@[simp] theorem onSeq_second (f : Seq → W Seq) : (s.onSeq f).second = s.second := commit_second _ _ _
@[simp] theorem onSeq_frozen (f : Seq → W Seq) : (s.onSeq f).frozen = s.frozen := commit_frozen _ _ _
@[simp] theorem onSeq_sup (f : Seq → W Seq) : (s.onSeq f).sup = s.sup := commit_sup _ _ _
@[simp] theorem onSeq_tim (f : Seq → W Seq) : (s.onSeq f).tim = s.tim := commit_tim _ _ _
@[simp] theorem onSeq_pwr (f : Seq → W Seq) : (s.onSeq f).pwr = s.pwr := commit_pwr _ _ _
@[simp] theorem onSeq_saf (f : Seq → W Seq) : (s.onSeq f).saf = s.saf := commit_saf _ _ _
@[simp] theorem onSeq_esOff (f : Seq → W Seq) : (s.onSeq f).esOff = s.esOff := commit_esOff _ _ _
@[simp] theorem onSeq_free (f : Seq → W Seq) : (s.onSeq f).free = s.free := commit_free _ _ _
@[simp] theorem onSeq_pending (f : Seq → W Seq) : (s.onSeq f).pending = s.pending := commit_pending _ _ _
@[simp] theorem onEst_now (f : Est → W Est) : (s.onEst f).now = s.now := commit_now _ _ _
@[simp] theorem onEst_mode (f : Est → W Est) : (s.onEst f).mode = s.mode := commit_mode _ _ _
@[simp] theorem onEst_second (f : Est → W Est) : (s.onEst f).second = s.second := commit_second _ _ _
@[simp] theorem onEst_frozen (f : Est → W Est) : (s.onEst f).frozen = s.frozen := commit_frozen _ _ _
@[simp] theorem onEst_sup (f : Est → W Est) : (s.onEst f).sup = s.sup := commit_sup _ _ _
@[simp] theorem onEst_tim (f : Est → W Est) : (s.onEst f).tim = s.tim := commit_tim _ _ _
@[simp] theorem onEst_seq (f : Est → W Est) : (s.onEst f).seq = s.seq := commit_seq _ _ _
@[simp] theorem onEst_pwr (f : Est → W Est) : (s.onEst f).pwr = s.pwr := commit_pwr _ _ _
@[simp] theorem onEst_saf (f : Est → W Est) : (s.onEst f).saf = s.saf := commit_saf _ _ _
@[simp] theorem onEst_esOff (f : Est → W Est) : (s.onEst f).esOff = s.esOff := commit_esOff _ _ _
@[simp] theorem onEst_free (f : Est → W Est) : (s.onEst f).free = s.free := commit_free _ _ _
@[simp] theorem onEst_pending (f : Est → W Est) : (s.onEst f).pending = s.pending := commit_pending _ _ _
@[simp] theorem onFus_now (f : Fus → W Fus) : (s.onFus f).now = s.now := commit_now _ _ _
@[simp] theorem onFus_mode (f : Fus → W Fus) : (s.onFus f).mode = s.mode := commit_mode _ _ _
@[simp] theorem onFus_second (f : Fus → W Fus) : (s.onFus f).second = s.second := commit_second _ _ _
@[simp] theorem onFus_frozen (f : Fus → W Fus) : (s.onFus f).frozen = s.frozen := commit_frozen _ _ _
@[simp] theorem onFus_sup (f : Fus → W Fus) : (s.onFus f).sup = s.sup := commit_sup _ _ _
@[simp] theorem onFus_tim (f : Fus → W Fus) : (s.onFus f).tim = s.tim := commit_tim _ _ _
@[simp] theorem onFus_seq (f : Fus → W Fus) : (s.onFus f).seq = s.seq := commit_seq _ _ _
@[simp] theorem onFus_pwr (f : Fus → W Fus) : (s.onFus f).pwr = s.pwr := commit_pwr _ _ _
@[simp] theorem onFus_saf (f : Fus → W Fus) : (s.onFus f).saf = s.saf := commit_saf _ _ _
@[simp] theorem onFus_esOff (f : Fus → W Fus) : (s.onFus f).esOff = s.esOff := commit_esOff _ _ _
@[simp] theorem onFus_free (f : Fus → W Fus) : (s.onFus f).free = s.free := commit_free _ _ _
@[simp] theorem onFus_pending (f : Fus → W Fus) : (s.onFus f).pending = s.pending := commit_pending _ _ _
@[simp] theorem onGns_now (f : Gns → W Gns) : (s.onGns f).now = s.now := commit_now _ _ _
@[simp] theorem onGns_mode (f : Gns → W Gns) : (s.onGns f).mode = s.mode := commit_mode _ _ _
@[simp] theorem onGns_second (f : Gns → W Gns) : (s.onGns f).second = s.second := commit_second _ _ _
@[simp] theorem onGns_frozen (f : Gns → W Gns) : (s.onGns f).frozen = s.frozen := commit_frozen _ _ _
@[simp] theorem onGns_sup (f : Gns → W Gns) : (s.onGns f).sup = s.sup := commit_sup _ _ _
@[simp] theorem onGns_tim (f : Gns → W Gns) : (s.onGns f).tim = s.tim := commit_tim _ _ _
@[simp] theorem onGns_seq (f : Gns → W Gns) : (s.onGns f).seq = s.seq := commit_seq _ _ _
@[simp] theorem onGns_pwr (f : Gns → W Gns) : (s.onGns f).pwr = s.pwr := commit_pwr _ _ _
@[simp] theorem onGns_saf (f : Gns → W Gns) : (s.onGns f).saf = s.saf := commit_saf _ _ _
@[simp] theorem onGns_esOff (f : Gns → W Gns) : (s.onGns f).esOff = s.esOff := commit_esOff _ _ _
@[simp] theorem onGns_free (f : Gns → W Gns) : (s.onGns f).free = s.free := commit_free _ _ _
@[simp] theorem onGns_pending (f : Gns → W Gns) : (s.onGns f).pending = s.pending := commit_pending _ _ _
@[simp] theorem onCtl_now (f : Ctl → W Ctl) : (s.onCtl f).now = s.now := commit_now _ _ _
@[simp] theorem onCtl_mode (f : Ctl → W Ctl) : (s.onCtl f).mode = s.mode := commit_mode _ _ _
@[simp] theorem onCtl_second (f : Ctl → W Ctl) : (s.onCtl f).second = s.second := commit_second _ _ _
@[simp] theorem onCtl_frozen (f : Ctl → W Ctl) : (s.onCtl f).frozen = s.frozen := commit_frozen _ _ _
@[simp] theorem onCtl_sup (f : Ctl → W Ctl) : (s.onCtl f).sup = s.sup := commit_sup _ _ _
@[simp] theorem onCtl_tim (f : Ctl → W Ctl) : (s.onCtl f).tim = s.tim := commit_tim _ _ _
@[simp] theorem onCtl_seq (f : Ctl → W Ctl) : (s.onCtl f).seq = s.seq := commit_seq _ _ _
@[simp] theorem onCtl_pwr (f : Ctl → W Ctl) : (s.onCtl f).pwr = s.pwr := commit_pwr _ _ _
@[simp] theorem onCtl_saf (f : Ctl → W Ctl) : (s.onCtl f).saf = s.saf := commit_saf _ _ _
@[simp] theorem onCtl_esOff (f : Ctl → W Ctl) : (s.onCtl f).esOff = s.esOff := commit_esOff _ _ _
@[simp] theorem onCtl_free (f : Ctl → W Ctl) : (s.onCtl f).free = s.free := commit_free _ _ _
@[simp] theorem onCtl_pending (f : Ctl → W Ctl) : (s.onCtl f).pending = s.pending := commit_pending _ _ _
@[simp] theorem onTim_now (f : Tim → W Tim) : (s.onTim f).now = s.now := commit_now _ _ _
@[simp] theorem onTim_mode (f : Tim → W Tim) : (s.onTim f).mode = s.mode := commit_mode _ _ _
@[simp] theorem onTim_second (f : Tim → W Tim) : (s.onTim f).second = s.second := commit_second _ _ _
@[simp] theorem onTim_frozen (f : Tim → W Tim) : (s.onTim f).frozen = s.frozen := commit_frozen _ _ _
@[simp] theorem onTim_sup (f : Tim → W Tim) : (s.onTim f).sup = s.sup := commit_sup _ _ _
@[simp] theorem onTim_seq (f : Tim → W Tim) : (s.onTim f).seq = s.seq := commit_seq _ _ _
@[simp] theorem onTim_pwr (f : Tim → W Tim) : (s.onTim f).pwr = s.pwr := commit_pwr _ _ _
@[simp] theorem onTim_saf (f : Tim → W Tim) : (s.onTim f).saf = s.saf := commit_saf _ _ _
@[simp] theorem onTim_esOff (f : Tim → W Tim) : (s.onTim f).esOff = s.esOff := commit_esOff _ _ _
@[simp] theorem onTim_free (f : Tim → W Tim) : (s.onTim f).free = s.free := commit_free _ _ _
@[simp] theorem onTim_pending (f : Tim → W Tim) : (s.onTim f).pending = s.pending := commit_pending _ _ _
@[simp] theorem onPtp_now (f : Ptp → W Ptp) : (s.onPtp f).now = s.now := commit_now _ _ _
@[simp] theorem onPtp_mode (f : Ptp → W Ptp) : (s.onPtp f).mode = s.mode := commit_mode _ _ _
@[simp] theorem onPtp_second (f : Ptp → W Ptp) : (s.onPtp f).second = s.second := commit_second _ _ _
@[simp] theorem onPtp_frozen (f : Ptp → W Ptp) : (s.onPtp f).frozen = s.frozen := commit_frozen _ _ _
@[simp] theorem onPtp_sup (f : Ptp → W Ptp) : (s.onPtp f).sup = s.sup := commit_sup _ _ _
@[simp] theorem onPtp_tim (f : Ptp → W Ptp) : (s.onPtp f).tim = s.tim := commit_tim _ _ _
@[simp] theorem onPtp_seq (f : Ptp → W Ptp) : (s.onPtp f).seq = s.seq := commit_seq _ _ _
@[simp] theorem onPtp_pwr (f : Ptp → W Ptp) : (s.onPtp f).pwr = s.pwr := commit_pwr _ _ _
@[simp] theorem onPtp_saf (f : Ptp → W Ptp) : (s.onPtp f).saf = s.saf := commit_saf _ _ _
@[simp] theorem onPtp_esOff (f : Ptp → W Ptp) : (s.onPtp f).esOff = s.esOff := commit_esOff _ _ _
@[simp] theorem onPtp_free (f : Ptp → W Ptp) : (s.onPtp f).free = s.free := commit_free _ _ _
@[simp] theorem onPtp_pending (f : Ptp → W Ptp) : (s.onPtp f).pending = s.pending := commit_pending _ _ _
@[simp] theorem onNet_now (f : Net → W Net) : (s.onNet f).now = s.now := commit_now _ _ _
@[simp] theorem onNet_mode (f : Net → W Net) : (s.onNet f).mode = s.mode := commit_mode _ _ _
@[simp] theorem onNet_second (f : Net → W Net) : (s.onNet f).second = s.second := commit_second _ _ _
@[simp] theorem onNet_frozen (f : Net → W Net) : (s.onNet f).frozen = s.frozen := commit_frozen _ _ _
@[simp] theorem onNet_sup (f : Net → W Net) : (s.onNet f).sup = s.sup := commit_sup _ _ _
@[simp] theorem onNet_tim (f : Net → W Net) : (s.onNet f).tim = s.tim := commit_tim _ _ _
@[simp] theorem onNet_seq (f : Net → W Net) : (s.onNet f).seq = s.seq := commit_seq _ _ _
@[simp] theorem onNet_pwr (f : Net → W Net) : (s.onNet f).pwr = s.pwr := commit_pwr _ _ _
@[simp] theorem onNet_saf (f : Net → W Net) : (s.onNet f).saf = s.saf := commit_saf _ _ _
@[simp] theorem onNet_esOff (f : Net → W Net) : (s.onNet f).esOff = s.esOff := commit_esOff _ _ _
@[simp] theorem onNet_free (f : Net → W Net) : (s.onNet f).free = s.free := commit_free _ _ _
@[simp] theorem onNet_pending (f : Net → W Net) : (s.onNet f).pending = s.pending := commit_pending _ _ _
@[simp] theorem onCan_now (f : Can → W Can) : (s.onCan f).now = s.now := commit_now _ _ _
@[simp] theorem onCan_mode (f : Can → W Can) : (s.onCan f).mode = s.mode := commit_mode _ _ _
@[simp] theorem onCan_second (f : Can → W Can) : (s.onCan f).second = s.second := commit_second _ _ _
@[simp] theorem onCan_frozen (f : Can → W Can) : (s.onCan f).frozen = s.frozen := commit_frozen _ _ _
@[simp] theorem onCan_sup (f : Can → W Can) : (s.onCan f).sup = s.sup := commit_sup _ _ _
@[simp] theorem onCan_tim (f : Can → W Can) : (s.onCan f).tim = s.tim := commit_tim _ _ _
@[simp] theorem onCan_seq (f : Can → W Can) : (s.onCan f).seq = s.seq := commit_seq _ _ _
@[simp] theorem onCan_pwr (f : Can → W Can) : (s.onCan f).pwr = s.pwr := commit_pwr _ _ _
@[simp] theorem onCan_saf (f : Can → W Can) : (s.onCan f).saf = s.saf := commit_saf _ _ _
@[simp] theorem onCan_esOff (f : Can → W Can) : (s.onCan f).esOff = s.esOff := commit_esOff _ _ _
@[simp] theorem onCan_free (f : Can → W Can) : (s.onCan f).free = s.free := commit_free _ _ _
@[simp] theorem onCan_pending (f : Can → W Can) : (s.onCan f).pending = s.pending := commit_pending _ _ _
@[simp] theorem onFio_now (f : Fio → W Fio) : (s.onFio f).now = s.now := commit_now _ _ _
@[simp] theorem onFio_mode (f : Fio → W Fio) : (s.onFio f).mode = s.mode := commit_mode _ _ _
@[simp] theorem onFio_second (f : Fio → W Fio) : (s.onFio f).second = s.second := commit_second _ _ _
@[simp] theorem onFio_frozen (f : Fio → W Fio) : (s.onFio f).frozen = s.frozen := commit_frozen _ _ _
@[simp] theorem onFio_sup (f : Fio → W Fio) : (s.onFio f).sup = s.sup := commit_sup _ _ _
@[simp] theorem onFio_tim (f : Fio → W Fio) : (s.onFio f).tim = s.tim := commit_tim _ _ _
@[simp] theorem onFio_seq (f : Fio → W Fio) : (s.onFio f).seq = s.seq := commit_seq _ _ _
@[simp] theorem onFio_pwr (f : Fio → W Fio) : (s.onFio f).pwr = s.pwr := commit_pwr _ _ _
@[simp] theorem onFio_saf (f : Fio → W Fio) : (s.onFio f).saf = s.saf := commit_saf _ _ _
@[simp] theorem onFio_esOff (f : Fio → W Fio) : (s.onFio f).esOff = s.esOff := commit_esOff _ _ _
@[simp] theorem onFio_free (f : Fio → W Fio) : (s.onFio f).free = s.free := commit_free _ _ _
@[simp] theorem onFio_pending (f : Fio → W Fio) : (s.onFio f).pending = s.pending := commit_pending _ _ _
@[simp] theorem onSer_now (f : Ser → W Ser) : (s.onSer f).now = s.now := commit_now _ _ _
@[simp] theorem onSer_mode (f : Ser → W Ser) : (s.onSer f).mode = s.mode := commit_mode _ _ _
@[simp] theorem onSer_second (f : Ser → W Ser) : (s.onSer f).second = s.second := commit_second _ _ _
@[simp] theorem onSer_frozen (f : Ser → W Ser) : (s.onSer f).frozen = s.frozen := commit_frozen _ _ _
@[simp] theorem onSer_sup (f : Ser → W Ser) : (s.onSer f).sup = s.sup := commit_sup _ _ _
@[simp] theorem onSer_tim (f : Ser → W Ser) : (s.onSer f).tim = s.tim := commit_tim _ _ _
@[simp] theorem onSer_seq (f : Ser → W Ser) : (s.onSer f).seq = s.seq := commit_seq _ _ _
@[simp] theorem onSer_pwr (f : Ser → W Ser) : (s.onSer f).pwr = s.pwr := commit_pwr _ _ _
@[simp] theorem onSer_saf (f : Ser → W Ser) : (s.onSer f).saf = s.saf := commit_saf _ _ _
@[simp] theorem onSer_esOff (f : Ser → W Ser) : (s.onSer f).esOff = s.esOff := commit_esOff _ _ _
@[simp] theorem onSer_free (f : Ser → W Ser) : (s.onSer f).free = s.free := commit_free _ _ _
@[simp] theorem onSer_pending (f : Ser → W Ser) : (s.onSer f).pending = s.pending := commit_pending _ _ _
@[simp] theorem onPos_now (f : Pos → W Pos) : (s.onPos f).now = s.now := commit_now _ _ _
@[simp] theorem onPos_mode (f : Pos → W Pos) : (s.onPos f).mode = s.mode := commit_mode _ _ _
@[simp] theorem onPos_second (f : Pos → W Pos) : (s.onPos f).second = s.second := commit_second _ _ _
@[simp] theorem onPos_frozen (f : Pos → W Pos) : (s.onPos f).frozen = s.frozen := commit_frozen _ _ _
@[simp] theorem onPos_sup (f : Pos → W Pos) : (s.onPos f).sup = s.sup := commit_sup _ _ _
@[simp] theorem onPos_tim (f : Pos → W Pos) : (s.onPos f).tim = s.tim := commit_tim _ _ _
@[simp] theorem onPos_seq (f : Pos → W Pos) : (s.onPos f).seq = s.seq := commit_seq _ _ _
@[simp] theorem onPos_pwr (f : Pos → W Pos) : (s.onPos f).pwr = s.pwr := commit_pwr _ _ _
@[simp] theorem onPos_saf (f : Pos → W Pos) : (s.onPos f).saf = s.saf := commit_saf _ _ _
@[simp] theorem onPos_esOff (f : Pos → W Pos) : (s.onPos f).esOff = s.esOff := commit_esOff _ _ _
@[simp] theorem onPos_free (f : Pos → W Pos) : (s.onPos f).free = s.free := commit_free _ _ _
@[simp] theorem onPos_pending (f : Pos → W Pos) : (s.onPos f).pending = s.pending := commit_pending _ _ _
@[simp] theorem onSaf_now (f : Saf → W Saf) : (s.onSaf f).now = s.now := commit_now _ _ _
@[simp] theorem onSaf_mode (f : Saf → W Saf) : (s.onSaf f).mode = s.mode := commit_mode _ _ _
@[simp] theorem onSaf_second (f : Saf → W Saf) : (s.onSaf f).second = s.second := commit_second _ _ _
@[simp] theorem onSaf_frozen (f : Saf → W Saf) : (s.onSaf f).frozen = s.frozen := commit_frozen _ _ _
@[simp] theorem onSaf_sup (f : Saf → W Saf) : (s.onSaf f).sup = s.sup := commit_sup _ _ _
@[simp] theorem onSaf_tim (f : Saf → W Saf) : (s.onSaf f).tim = s.tim := commit_tim _ _ _
@[simp] theorem onSaf_seq (f : Saf → W Saf) : (s.onSaf f).seq = s.seq := commit_seq _ _ _
@[simp] theorem onSaf_pwr (f : Saf → W Saf) : (s.onSaf f).pwr = s.pwr := commit_pwr _ _ _
@[simp] theorem onSaf_esOff (f : Saf → W Saf) : (s.onSaf f).esOff = s.esOff := commit_esOff _ _ _
@[simp] theorem onSaf_free (f : Saf → W Saf) : (s.onSaf f).free = s.free := commit_free _ _ _
@[simp] theorem onSaf_pending (f : Saf → W Saf) : (s.onSaf f).pending = s.pending := commit_pending _ _ _
@[simp] theorem onAlc_now (f : Alc → W Alc) : (s.onAlc f).now = s.now := commit_now _ _ _
@[simp] theorem onAlc_mode (f : Alc → W Alc) : (s.onAlc f).mode = s.mode := commit_mode _ _ _
@[simp] theorem onAlc_second (f : Alc → W Alc) : (s.onAlc f).second = s.second := commit_second _ _ _
@[simp] theorem onAlc_frozen (f : Alc → W Alc) : (s.onAlc f).frozen = s.frozen := commit_frozen _ _ _
@[simp] theorem onAlc_sup (f : Alc → W Alc) : (s.onAlc f).sup = s.sup := commit_sup _ _ _
@[simp] theorem onAlc_tim (f : Alc → W Alc) : (s.onAlc f).tim = s.tim := commit_tim _ _ _
@[simp] theorem onAlc_seq (f : Alc → W Alc) : (s.onAlc f).seq = s.seq := commit_seq _ _ _
@[simp] theorem onAlc_pwr (f : Alc → W Alc) : (s.onAlc f).pwr = s.pwr := commit_pwr _ _ _
@[simp] theorem onAlc_saf (f : Alc → W Alc) : (s.onAlc f).saf = s.saf := commit_saf _ _ _
@[simp] theorem onAlc_esOff (f : Alc → W Alc) : (s.onAlc f).esOff = s.esOff := commit_esOff _ _ _
@[simp] theorem onAlc_free (f : Alc → W Alc) : (s.onAlc f).free = s.free := commit_free _ _ _
@[simp] theorem onAlc_pending (f : Alc → W Alc) : (s.onAlc f).pending = s.pending := commit_pending _ _ _
@[simp] theorem onSol_now (f : Sol → W Sol) : (s.onSol f).now = s.now := commit_now _ _ _
@[simp] theorem onSol_mode (f : Sol → W Sol) : (s.onSol f).mode = s.mode := commit_mode _ _ _
@[simp] theorem onSol_second (f : Sol → W Sol) : (s.onSol f).second = s.second := commit_second _ _ _
@[simp] theorem onSol_frozen (f : Sol → W Sol) : (s.onSol f).frozen = s.frozen := commit_frozen _ _ _
@[simp] theorem onSol_sup (f : Sol → W Sol) : (s.onSol f).sup = s.sup := commit_sup _ _ _
@[simp] theorem onSol_tim (f : Sol → W Sol) : (s.onSol f).tim = s.tim := commit_tim _ _ _
@[simp] theorem onSol_seq (f : Sol → W Sol) : (s.onSol f).seq = s.seq := commit_seq _ _ _
@[simp] theorem onSol_pwr (f : Sol → W Sol) : (s.onSol f).pwr = s.pwr := commit_pwr _ _ _
@[simp] theorem onSol_saf (f : Sol → W Sol) : (s.onSol f).saf = s.saf := commit_saf _ _ _
@[simp] theorem onSol_esOff (f : Sol → W Sol) : (s.onSol f).esOff = s.esOff := commit_esOff _ _ _
@[simp] theorem onSol_free (f : Sol → W Sol) : (s.onSol f).free = s.free := commit_free _ _ _
@[simp] theorem onSol_pending (f : Sol → W Sol) : (s.onSol f).pending = s.pending := commit_pending _ _ _
@[simp] theorem onFq_now (f : Fq → W Fq) : (s.onFq f).now = s.now := commit_now _ _ _
@[simp] theorem onFq_mode (f : Fq → W Fq) : (s.onFq f).mode = s.mode := commit_mode _ _ _
@[simp] theorem onFq_second (f : Fq → W Fq) : (s.onFq f).second = s.second := commit_second _ _ _
@[simp] theorem onFq_frozen (f : Fq → W Fq) : (s.onFq f).frozen = s.frozen := commit_frozen _ _ _
@[simp] theorem onFq_sup (f : Fq → W Fq) : (s.onFq f).sup = s.sup := commit_sup _ _ _
@[simp] theorem onFq_tim (f : Fq → W Fq) : (s.onFq f).tim = s.tim := commit_tim _ _ _
@[simp] theorem onFq_seq (f : Fq → W Fq) : (s.onFq f).seq = s.seq := commit_seq _ _ _
@[simp] theorem onFq_pwr (f : Fq → W Fq) : (s.onFq f).pwr = s.pwr := commit_pwr _ _ _
@[simp] theorem onFq_saf (f : Fq → W Fq) : (s.onFq f).saf = s.saf := commit_saf _ _ _
@[simp] theorem onFq_esOff (f : Fq → W Fq) : (s.onFq f).esOff = s.esOff := commit_esOff _ _ _
@[simp] theorem onFq_free (f : Fq → W Fq) : (s.onFq f).free = s.free := commit_free _ _ _
@[simp] theorem onFq_pending (f : Fq → W Fq) : (s.onFq f).pending = s.pending := commit_pending _ _ _
@[simp] theorem onFlt_now (f : Flt → W Flt) : (s.onFlt f).now = s.now := commit_now _ _ _
@[simp] theorem onFlt_mode (f : Flt → W Flt) : (s.onFlt f).mode = s.mode := commit_mode _ _ _
@[simp] theorem onFlt_second (f : Flt → W Flt) : (s.onFlt f).second = s.second := commit_second _ _ _
@[simp] theorem onFlt_frozen (f : Flt → W Flt) : (s.onFlt f).frozen = s.frozen := commit_frozen _ _ _
@[simp] theorem onFlt_sup (f : Flt → W Flt) : (s.onFlt f).sup = s.sup := commit_sup _ _ _
@[simp] theorem onFlt_tim (f : Flt → W Flt) : (s.onFlt f).tim = s.tim := commit_tim _ _ _
@[simp] theorem onFlt_seq (f : Flt → W Flt) : (s.onFlt f).seq = s.seq := commit_seq _ _ _
@[simp] theorem onFlt_pwr (f : Flt → W Flt) : (s.onFlt f).pwr = s.pwr := commit_pwr _ _ _
@[simp] theorem onFlt_saf (f : Flt → W Flt) : (s.onFlt f).saf = s.saf := commit_saf _ _ _
@[simp] theorem onFlt_esOff (f : Flt → W Flt) : (s.onFlt f).esOff = s.esOff := commit_esOff _ _ _
@[simp] theorem onFlt_free (f : Flt → W Flt) : (s.onFlt f).free = s.free := commit_free _ _ _
@[simp] theorem onFlt_pending (f : Flt → W Flt) : (s.onFlt f).pending = s.pending := commit_pending _ _ _
@[simp] theorem onPrg_now (f : Prg → W Prg) : (s.onPrg f).now = s.now := commit_now _ _ _
@[simp] theorem onPrg_mode (f : Prg → W Prg) : (s.onPrg f).mode = s.mode := commit_mode _ _ _
@[simp] theorem onPrg_second (f : Prg → W Prg) : (s.onPrg f).second = s.second := commit_second _ _ _
@[simp] theorem onPrg_frozen (f : Prg → W Prg) : (s.onPrg f).frozen = s.frozen := commit_frozen _ _ _
@[simp] theorem onPrg_sup (f : Prg → W Prg) : (s.onPrg f).sup = s.sup := commit_sup _ _ _
@[simp] theorem onPrg_tim (f : Prg → W Prg) : (s.onPrg f).tim = s.tim := commit_tim _ _ _
@[simp] theorem onPrg_seq (f : Prg → W Prg) : (s.onPrg f).seq = s.seq := commit_seq _ _ _
@[simp] theorem onPrg_pwr (f : Prg → W Prg) : (s.onPrg f).pwr = s.pwr := commit_pwr _ _ _
@[simp] theorem onPrg_saf (f : Prg → W Prg) : (s.onPrg f).saf = s.saf := commit_saf _ _ _
@[simp] theorem onPrg_esOff (f : Prg → W Prg) : (s.onPrg f).esOff = s.esOff := commit_esOff _ _ _
@[simp] theorem onPrg_free (f : Prg → W Prg) : (s.onPrg f).free = s.free := commit_free _ _ _
@[simp] theorem onPrg_pending (f : Prg → W Prg) : (s.onPrg f).pending = s.pending := commit_pending _ _ _
@[simp] theorem onNvs_now (f : Nvs → W Nvs) : (s.onNvs f).now = s.now := commit_now _ _ _
@[simp] theorem onNvs_mode (f : Nvs → W Nvs) : (s.onNvs f).mode = s.mode := commit_mode _ _ _
@[simp] theorem onNvs_second (f : Nvs → W Nvs) : (s.onNvs f).second = s.second := commit_second _ _ _
@[simp] theorem onNvs_frozen (f : Nvs → W Nvs) : (s.onNvs f).frozen = s.frozen := commit_frozen _ _ _
@[simp] theorem onNvs_sup (f : Nvs → W Nvs) : (s.onNvs f).sup = s.sup := commit_sup _ _ _
@[simp] theorem onNvs_tim (f : Nvs → W Nvs) : (s.onNvs f).tim = s.tim := commit_tim _ _ _
@[simp] theorem onNvs_seq (f : Nvs → W Nvs) : (s.onNvs f).seq = s.seq := commit_seq _ _ _
@[simp] theorem onNvs_pwr (f : Nvs → W Nvs) : (s.onNvs f).pwr = s.pwr := commit_pwr _ _ _
@[simp] theorem onNvs_saf (f : Nvs → W Nvs) : (s.onNvs f).saf = s.saf := commit_saf _ _ _
@[simp] theorem onNvs_esOff (f : Nvs → W Nvs) : (s.onNvs f).esOff = s.esOff := commit_esOff _ _ _
@[simp] theorem onNvs_free (f : Nvs → W Nvs) : (s.onNvs f).free = s.free := commit_free _ _ _
@[simp] theorem onNvs_pending (f : Nvs → W Nvs) : (s.onNvs f).pending = s.pending := commit_pending _ _ _
@[simp] theorem onChn_now (f : Chn → W Chn) : (s.onChn f).now = s.now := commit_now _ _ _
@[simp] theorem onChn_mode (f : Chn → W Chn) : (s.onChn f).mode = s.mode := commit_mode _ _ _
@[simp] theorem onChn_second (f : Chn → W Chn) : (s.onChn f).second = s.second := commit_second _ _ _
@[simp] theorem onChn_frozen (f : Chn → W Chn) : (s.onChn f).frozen = s.frozen := commit_frozen _ _ _
@[simp] theorem onChn_sup (f : Chn → W Chn) : (s.onChn f).sup = s.sup := commit_sup _ _ _
@[simp] theorem onChn_tim (f : Chn → W Chn) : (s.onChn f).tim = s.tim := commit_tim _ _ _
@[simp] theorem onChn_seq (f : Chn → W Chn) : (s.onChn f).seq = s.seq := commit_seq _ _ _
@[simp] theorem onChn_pwr (f : Chn → W Chn) : (s.onChn f).pwr = s.pwr := commit_pwr _ _ _
@[simp] theorem onChn_saf (f : Chn → W Chn) : (s.onChn f).saf = s.saf := commit_saf _ _ _
@[simp] theorem onChn_esOff (f : Chn → W Chn) : (s.onChn f).esOff = s.esOff := commit_esOff _ _ _
@[simp] theorem onChn_free (f : Chn → W Chn) : (s.onChn f).free = s.free := commit_free _ _ _
@[simp] theorem onChn_pending (f : Chn → W Chn) : (s.onChn f).pending = s.pending := commit_pending _ _ _
@[simp] theorem onLog_now (f : Rec → W Rec) : (s.onLog f).now = s.now := now_of_shell (shell_onLog f s)
@[simp] theorem code_now (p c : Nat) (l : List Word) : (s.code p c l).now = s.now := commit_now _ _ _
@[simp] theorem codeRec_now (p c : Nat) (l : List Word) : (s.codeRec p c l).now = s.now := commit_now _ _ _
@[simp] theorem onLog_mode (f : Rec → W Rec) : (s.onLog f).mode = s.mode := mode_of_shell (shell_onLog f s)
@[simp] theorem code_mode (p c : Nat) (l : List Word) : (s.code p c l).mode = s.mode := commit_mode _ _ _
@[simp] theorem codeRec_mode (p c : Nat) (l : List Word) : (s.codeRec p c l).mode = s.mode := commit_mode _ _ _
@[simp] theorem onLog_second (f : Rec → W Rec) : (s.onLog f).second = s.second := second_of_shell (shell_onLog f s)
@[simp] theorem code_second (p c : Nat) (l : List Word) : (s.code p c l).second = s.second := commit_second _ _ _
@[simp] theorem codeRec_second (p c : Nat) (l : List Word) : (s.codeRec p c l).second = s.second := commit_second _ _ _
@[simp] theorem onLog_frozen (f : Rec → W Rec) : (s.onLog f).frozen = s.frozen := frozen_of_shell (shell_onLog f s)
@[simp] theorem code_frozen (p c : Nat) (l : List Word) : (s.code p c l).frozen = s.frozen := commit_frozen _ _ _
@[simp] theorem codeRec_frozen (p c : Nat) (l : List Word) : (s.codeRec p c l).frozen = s.frozen := commit_frozen _ _ _
@[simp] theorem onLog_sup (f : Rec → W Rec) : (s.onLog f).sup = s.sup := sup_of_shell (shell_onLog f s)
@[simp] theorem code_sup (p c : Nat) (l : List Word) : (s.code p c l).sup = s.sup := commit_sup _ _ _
@[simp] theorem codeRec_sup (p c : Nat) (l : List Word) : (s.codeRec p c l).sup = s.sup := commit_sup _ _ _
@[simp] theorem onLog_tim (f : Rec → W Rec) : (s.onLog f).tim = s.tim := tim_of_shell (shell_onLog f s)
@[simp] theorem code_tim (p c : Nat) (l : List Word) : (s.code p c l).tim = s.tim := commit_tim _ _ _
@[simp] theorem codeRec_tim (p c : Nat) (l : List Word) : (s.codeRec p c l).tim = s.tim := commit_tim _ _ _
@[simp] theorem onLog_seq (f : Rec → W Rec) : (s.onLog f).seq = s.seq := seq_of_shell (shell_onLog f s)
@[simp] theorem code_seq (p c : Nat) (l : List Word) : (s.code p c l).seq = s.seq := commit_seq _ _ _
@[simp] theorem codeRec_seq (p c : Nat) (l : List Word) : (s.codeRec p c l).seq = s.seq := commit_seq _ _ _
@[simp] theorem onLog_pwr (f : Rec → W Rec) : (s.onLog f).pwr = s.pwr := pwr_of_shell (shell_onLog f s)
@[simp] theorem code_pwr (p c : Nat) (l : List Word) : (s.code p c l).pwr = s.pwr := commit_pwr _ _ _
@[simp] theorem codeRec_pwr (p c : Nat) (l : List Word) : (s.codeRec p c l).pwr = s.pwr := commit_pwr _ _ _
@[simp] theorem onLog_saf (f : Rec → W Rec) : (s.onLog f).saf = s.saf := saf_of_shell (shell_onLog f s)
@[simp] theorem code_saf (p c : Nat) (l : List Word) : (s.code p c l).saf = s.saf := commit_saf _ _ _
@[simp] theorem codeRec_saf (p c : Nat) (l : List Word) : (s.codeRec p c l).saf = s.saf := commit_saf _ _ _
@[simp] theorem onLog_esOff (f : Rec → W Rec) : (s.onLog f).esOff = s.esOff := esOff_of_shell (shell_onLog f s)
@[simp] theorem code_esOff (p c : Nat) (l : List Word) : (s.code p c l).esOff = s.esOff := commit_esOff _ _ _
@[simp] theorem codeRec_esOff (p c : Nat) (l : List Word) : (s.codeRec p c l).esOff = s.esOff := commit_esOff _ _ _
@[simp] theorem onLog_free (f : Rec → W Rec) : (s.onLog f).free = s.free := free_of_shell (shell_onLog f s)
@[simp] theorem code_free (p c : Nat) (l : List Word) : (s.code p c l).free = s.free := commit_free _ _ _
@[simp] theorem codeRec_free (p c : Nat) (l : List Word) : (s.codeRec p c l).free = s.free := commit_free _ _ _
@[simp] theorem onLog_pending (f : Rec → W Rec) : (s.onLog f).pending = s.pending := pending_of_shell (shell_onLog f s)
@[simp] theorem code_pending (p c : Nat) (l : List Word) : (s.code p c l).pending = s.pending := commit_pending _ _ _
@[simp] theorem codeRec_pending (p c : Nat) (l : List Word) : (s.codeRec p c l).pending = s.pending := commit_pending _ _ _
end

/-- The program's rates leave the shell. -/
@[simp] theorem shell_rates (s : State) : s.rates.shell = s.shell :=
  foldl_keeps (fun x : State => x.shell = s.shell) _ (fun x k hx => by rw [shell_onPrg]; exact hx) _ _ rfl

/-- The rest after PWR's work. -/
@[simp] theorem shell_onPwr (f : Pwr → W Pwr) (s : State) : (s.onPwr f).shell = { s.shell with pwr := (f s.pwr).u } := by
  unfold State.onPwr
  dsimp only
  rw [shell_rates, shell_commit]
  rfl

@[simp] theorem onPwr_pwr (f : Pwr → W Pwr) (s : State) : (s.onPwr f).pwr = (f s.pwr).u :=
  pwr_of_shell (s := { s with pwr := (f s.pwr).u }) (shell_onPwr f s)

end Sys2Proof.Machine
end

