-- ==== Sys2Proof/Laws/Write.lean ====
section
/-! SUPPORT. Register writes: an admitted write is the row's own effect and then the release of idle requesters (R395), and what that
release leaves alone. -/

namespace Sys2Proof.Machine

/-! ## Work that asks for nothing -/

/-- No trigger and no code, no snapshot. -/
theorem snapTriggers_nil (s : State) : s.snapTriggers [] [] = s := by
  have hf : s.faultTrigger [] = none := rfl
  unfold State.snapTriggers
  rw [hf]
  rfl

/-- Nothing asked leaves everything. -/
@[simp] theorem commit_none (s : State) : s.commit Fx.none [] = s := by
  have e : s.commit Fx.none [] = { (s.snapTriggers [] []) with outbox := (s.snapTriggers [] []).outbox } := rfl
  rw [e, snapTriggers_nil]

/-! ## The release of idle requesters -/

theorem release_state (act : List Nat) (u : Pwr) (i : Nat) : (u.release act).state i = u.state i ∨ (u.release act).state i = 0 := by
  unfold Pwr.release
  refine foldl_keeps (fun v : Pwr => v.state i = u.state i ∨ v.state i = 0) _ (fun v j hv => ?_) _ _ (.inl rfl)
  unfold Pwr.state at *
  by_cases hc : pwrClass i = 0
  · left; simp [hc]
  · simp only [hc, if_false, Pwr.setState] at hv ⊢
    by_cases hj : i = j
    · right; simp [hj]
    · simpa [hj] using hv

/-- The release of idle requesters cuts no UPDATE. -/
theorem releaseIdle_eq (s : State) : s.releaseIdle = ({ s with pwr := s.pwr.release s.active } : State).rates := by
  have h1 : s.onPwr (fun u => W.of (u.release s.active)) = ({ s with pwr := s.pwr.release s.active } : State).rates := by
    unfold State.onPwr W.of
    simp
  have hp : (({ s with pwr := s.pwr.release s.active } : State).rates).pwr = s.pwr.release s.active :=
    pwr_of_shell (s := { s with pwr := s.pwr.release s.active }) (shell_rates _)
  unfold State.releaseIdle State.onPower
  simp only [h1, hp]
  rw [if_neg]
  intro h
  simp only [Bool.and_eq_true, beq_iff_eq, State.grant, decide_eq_true_eq] at h
  obtain ⟨⟨⟨h2, -⟩, h3⟩, -⟩ := h
  rcases release_state s.active s.pwr 17 with e | e <;> rw [e] at h3
  · exact h2 h3
  · exact absurd h3 (by decide)

/-- The work of a core's rate asks for codes and flags only, and changes PRG_STAT only. -/
theorem rateCut_plain (k : Nat) (cut : Bool) (u : Prg) :
    (Prg.rateCut k cut u).fx.Plain ∧ (Prg.rateCut k cut u).st = [] ∧ ∃ m, (Prg.rateCut k cut u).u = { u with regs := m } ∧
      ∀ j, j ≠ rk Reg.PRG_STAT k 0 → rget m j = rget u.regs j := by
  unfold Prg.rateCut
  split
  · exact ⟨⟨rfl, rfl, rfl, rfl, rfl⟩, rfl, u.regs, rfl, fun _ _ => rfl⟩
  · exact ⟨⟨rfl, rfl, rfl, rfl, rfl⟩, rfl, _, rfl, fun j hj => by rw [rget_rmod, if_neg hj]⟩

/-- What the rates of the cores leave outside the shell: all but PRG_STAT of the cores. -/
structure State.RatesOnly (s x : State) : Prop where
  mem : x.mem = s.mem
  fq : x.fq = s.fq
  flt : x.flt = s.flt
  nvs : x.nvs = s.nvs
  prg : ∃ m, x.prg = { s.prg with regs := m } ∧ ∀ j, (∀ k, j ≠ rk Reg.PRG_STAT k 0) → rget m j = rget s.prg.regs j

theorem rateCut_only (s x : State) (k : Nat) (b : Bool) (h : s.RatesOnly x) : s.RatesOnly (x.onPrg (Prg.rateCut k b)) := by
  obtain ⟨hf, hst, m, hu, hm⟩ := rateCut_plain k b x.prg
  have e : x.onPrg (Prg.rateCut k b) = ({ x with prg := (Prg.rateCut k b x.prg).u } : State).commit (Prg.rateCut k b x.prg).fx [] := by
    unfold State.onPrg
    dsimp only
    rw [hst]
  obtain ⟨n, hn, hn'⟩ := h.prg
  rw [e]
  refine ⟨(plain_mem _ hf _).trans h.mem, (plain_fq _ hf _).trans h.fq, (plain_flt _ hf _).trans h.flt, (plain_nvs _ hf _).trans h.nvs,
    m, ?_, fun j hj => ?_⟩
  · rw [plain_prg _ hf, hu, hn]
  · rw [hm j (hj k), hn]
    exact hn' j hj

theorem rates_inner (s : State) : s.RatesOnly s.rates :=
  foldl_keeps (fun x : State => s.RatesOnly x) _ (fun x k hx => rateCut_only s x k _ hx) _ _ ⟨rfl, rfl, rfl, rfl, s.prg.regs, rfl, fun _ _ => rfl⟩

/-- The headers after the rates of the cores: PAGE_ID, PAGE_FEAT, PAGE_CTRL, EVT_MASK and PAGE_SEQ stand. -/
theorem rates_hdrCell (s : State) (q o : Nat) (ho : o < 0x20) (h1 : o ≠ 0x10) (h2 : o ≠ 0x18) :
    rget s.rates.hdr (cellKey q o 0) = rget s.hdr (cellKey q o 0) :=
  foldl_keeps (fun x : State => rget x.hdr (cellKey q o 0) = rget s.hdr (cellKey q o 0)) _
    (fun x k hx => by
      unfold State.onPrg
      dsimp only
      rw [hdrCell_commit _ _ _ q o ho h1 h2]
      exact hx) _ _ rfl

/-- PAGE_ERR of the pages that are neither a core's nor SNAP's stands when the rates of the cores change. -/
theorem rates_pageErr (s : State) (q : Nat) (hq : q < Pg.PRG ∨ Pg.PRG + 2 < q) (hs : q ≠ Pg.SNAP) :
    s.rates.pageErr q = s.pageErr q := by
  refine foldl_keeps_mem (fun x : State => x.pageErr q = s.pageErr q) _ _ (fun x k hk hx => ?_) _ rfl
  have hk3 : k < 3 := List.mem_range.mp hk
  rw [← hx]
  unfold State.onPrg Prg.rateCut State.pageErr
  dsimp only
  split
  · exact congrArg (fun y : State => rget y.hdr (cellKey q 0x18 0)) (commit_none _)
  · have hne : ¬ (Pg.PRG + k == q) = true := by
      simp only [beq_iff_eq]
      omega
    refine (pageErr_commit _ _ q hs rfl rfl rfl rfl).trans ?_
    simp [W.of, W.evt, W.code, Fx.none, sortCodes, insertCode, hne]

/-! ## What releaseIdle leaves alone -/

section
variable (s : State)

@[simp] theorem shell_releaseIdle : s.releaseIdle.shell = { s.shell with pwr := s.pwr.release s.active } := by
  rw [releaseIdle_eq, shell_rates]
  rfl

@[simp] theorem releaseIdle_mem : s.releaseIdle.mem = s.mem := by rw [releaseIdle_eq]; exact (rates_inner _).mem
@[simp] theorem releaseIdle_fq : s.releaseIdle.fq = s.fq := by rw [releaseIdle_eq]; exact (rates_inner _).fq
@[simp] theorem releaseIdle_flt : s.releaseIdle.flt = s.flt := by rw [releaseIdle_eq]; exact (rates_inner _).flt
@[simp] theorem releaseIdle_nvs : s.releaseIdle.nvs = s.nvs := by rw [releaseIdle_eq]; exact (rates_inner _).nvs

/-- The program after the release: all but PRG_STAT of the cores. -/
theorem releaseIdle_prg : ∃ m, s.releaseIdle.prg = { s.prg with regs := m } ∧
    ∀ j, (∀ k, j ≠ rk Reg.PRG_STAT k 0) → rget m j = rget s.prg.regs j := by
  rw [releaseIdle_eq]; exact (rates_inner _).prg

@[simp] theorem releaseIdle_pageSeq (q : Nat) : s.releaseIdle.pageSeq q = s.pageSeq q := by
  unfold State.pageSeq
  rw [releaseIdle_eq]
  exact rates_hdrCell _ q 0x1C (by omega) (by omega) (by omega)

theorem releaseIdle_pageErr (q : Nat) (hq : q < Pg.PRG ∨ Pg.PRG + 2 < q) (hs : q ≠ Pg.SNAP) : s.releaseIdle.pageErr q = s.pageErr q := by
  rw [releaseIdle_eq]
  exact rates_pageErr _ q hq hs

theorem releaseIdle_hdrCell (q o : Nat) (ho : o < 0x20) (h1 : o ≠ 0x10) (h2 : o ≠ 0x18) :
    rget s.releaseIdle.hdr (cellKey q o 0) = rget s.hdr (cellKey q o 0) := by
  rw [releaseIdle_eq]
  exact rates_hdrCell _ q o ho h1 h2
@[simp] theorem releaseIdle_now : s.releaseIdle.now = s.now :=
  now_of_shell (s := { s with pwr := s.pwr.release s.active }) (shell_releaseIdle s)
@[simp] theorem releaseIdle_mode : s.releaseIdle.mode = s.mode :=
  mode_of_shell (s := { s with pwr := s.pwr.release s.active }) (shell_releaseIdle s)
@[simp] theorem releaseIdle_second : s.releaseIdle.second = s.second :=
  second_of_shell (s := { s with pwr := s.pwr.release s.active }) (shell_releaseIdle s)
@[simp] theorem releaseIdle_frozen : s.releaseIdle.frozen = s.frozen :=
  frozen_of_shell (s := { s with pwr := s.pwr.release s.active }) (shell_releaseIdle s)
@[simp] theorem releaseIdle_sup : s.releaseIdle.sup = s.sup :=
  sup_of_shell (s := { s with pwr := s.pwr.release s.active }) (shell_releaseIdle s)
@[simp] theorem releaseIdle_tim : s.releaseIdle.tim = s.tim :=
  tim_of_shell (s := { s with pwr := s.pwr.release s.active }) (shell_releaseIdle s)
@[simp] theorem releaseIdle_ptp : s.releaseIdle.ptp = s.ptp :=
  ptp_of_shell (s := { s with pwr := s.pwr.release s.active }) (shell_releaseIdle s)
@[simp] theorem releaseIdle_net : s.releaseIdle.net = s.net :=
  net_of_shell (s := { s with pwr := s.pwr.release s.active }) (shell_releaseIdle s)
@[simp] theorem releaseIdle_seq : s.releaseIdle.seq = s.seq :=
  seq_of_shell (s := { s with pwr := s.pwr.release s.active }) (shell_releaseIdle s)
@[simp] theorem releaseIdle_est : s.releaseIdle.est = s.est :=
  est_of_shell (s := { s with pwr := s.pwr.release s.active }) (shell_releaseIdle s)
@[simp] theorem releaseIdle_fus : s.releaseIdle.fus = s.fus :=
  fus_of_shell (s := { s with pwr := s.pwr.release s.active }) (shell_releaseIdle s)
@[simp] theorem releaseIdle_gns : s.releaseIdle.gns = s.gns :=
  gns_of_shell (s := { s with pwr := s.pwr.release s.active }) (shell_releaseIdle s)
@[simp] theorem releaseIdle_ctl : s.releaseIdle.ctl = s.ctl :=
  ctl_of_shell (s := { s with pwr := s.pwr.release s.active }) (shell_releaseIdle s)
@[simp] theorem releaseIdle_alc : s.releaseIdle.alc = s.alc :=
  alc_of_shell (s := { s with pwr := s.pwr.release s.active }) (shell_releaseIdle s)
@[simp] theorem releaseIdle_sol : s.releaseIdle.sol = s.sol :=
  sol_of_shell (s := { s with pwr := s.pwr.release s.active }) (shell_releaseIdle s)
@[simp] theorem releaseIdle_can : s.releaseIdle.can = s.can :=
  can_of_shell (s := { s with pwr := s.pwr.release s.active }) (shell_releaseIdle s)
@[simp] theorem releaseIdle_fio : s.releaseIdle.fio = s.fio :=
  fio_of_shell (s := { s with pwr := s.pwr.release s.active }) (shell_releaseIdle s)
@[simp] theorem releaseIdle_ser : s.releaseIdle.ser = s.ser :=
  ser_of_shell (s := { s with pwr := s.pwr.release s.active }) (shell_releaseIdle s)
@[simp] theorem releaseIdle_pos : s.releaseIdle.pos = s.pos :=
  pos_of_shell (s := { s with pwr := s.pwr.release s.active }) (shell_releaseIdle s)
@[simp] theorem releaseIdle_saf : s.releaseIdle.saf = s.saf :=
  saf_of_shell (s := { s with pwr := s.pwr.release s.active }) (shell_releaseIdle s)
@[simp] theorem releaseIdle_esOff : s.releaseIdle.esOff = s.esOff :=
  esOff_of_shell (s := { s with pwr := s.pwr.release s.active }) (shell_releaseIdle s)
@[simp] theorem releaseIdle_free : s.releaseIdle.free = s.free :=
  free_of_shell (s := { s with pwr := s.pwr.release s.active }) (shell_releaseIdle s)
@[simp] theorem releaseIdle_pending : s.releaseIdle.pending = s.pending :=
  pending_of_shell (s := { s with pwr := s.pwr.release s.active }) (shell_releaseIdle s)

/-- CHN after the release: all but the fault it notes and the samples it mirrors. -/
theorem releaseIdle_chn : s.releaseIdle.chn =
    { s.chn with
      fault := s.releaseIdle.chn.fault
      samples := s.releaseIdle.chn.samples } :=
  chn_of_shell (s := { s with pwr := s.pwr.release s.active }) (shell_releaseIdle s)

end

/-! ## An admitted write -/

/-- An admitted whole-word write of a register beyond the header: the row's effect, then the release. -/
theorem writeNamed_admitted (act : Nat → Nat → Word → State → State) (acc : Accessor) (reg n : Nat) (v : Word) (s : State)
    (h : s.Admits acc (reg / 0x400 + n) (reg % 0x400)) (h4 : reg % 4 = 0) (h40 : 0x40 ≤ reg % 0x400) :
    s.writeNamed act acc reg n v = ((s.rowWrite (reg / 0x400 + n) (reg % 0x400) v act).1).releaseIdle := by
  obtain ⟨h1, h2, h3⟩ := h
  unfold State.writeNamed State.regWriteWith
  have e1 : reg % 0x400 % 4 = 0 := by omega
  have e2 : ¬ reg % 0x400 < 0x40 := by omega
  simp [h1, h2, h3, e1, e2]

/-- A taken write of a listed register: PAGE_SEQ counts, the cell takes its fields, then the register's own effect. -/
theorem rowWrite_taken (page off : Nat) (v : Word) (act : Nat → Nat → Word → State → State) (s : State) (r : RegRow) (w : Nat)
    (hr : rowOf (homePage page off) off = some r) (hw : s.windowOf (homePage page off) r = some w)
    (hl : r.rwl = 0 ∨ s.mode ≠ .run) (hg : (regOf (homePage page off) off).1 ≠ Reg.GNS_CH_CFG)
    (hd : s.discards (regOf (homePage page off) off).1 (regOf (homePage page off) off).2 w v = false)
    (ht : r.takes (s.mode == .run) v = true) :
    (s.rowWrite page off v act).1 =
      act (regOf (homePage page off) off).2 w (rget (s.cells (homePage page off)) (cellKey (homePage page off) off w))
        (s.written page (homePage page off) off w (regOf (homePage page off) off).1 r v) := by
  have hf : s.fieldsOf (regOf (homePage page off) off).1 (rget (s.cells (homePage page off)) (cellKey (homePage page off) off w)) v = v := by
    unfold State.fieldsOf
    rw [if_neg (fun h => hg h.1)]
  have hlost : ((s.mode == .run) && ((v ^^^ s.regWord (homePage page off) off r) &&& wd r.rwl != 0#32)) = false := by
    rcases hl with hl | hl
    · have h0 : wd r.rwl = 0#32 := by rw [hl]; rfl
      rw [h0]
      simp
    · have h0 : (s.mode == .run) = false := by simpa using hl
      rw [h0]
      rfl
  unfold State.rowWrite State.written
  dsimp only
  rw [hr]
  dsimp only
  rw [hw]
  dsimp only
  rw [hf, hlost]
  simp only [Bool.false_eq_true, if_false]
  rw [hd]
  simp only [Bool.false_eq_true, if_false, ht, Bool.true_or, if_true]
  rfl

/-- An admitted write of a named register that its row takes: PAGE_SEQ counts, the cell takes its fields, the register's own effect
follows, then the release of idle requesters. -/
theorem writeNamed_taken (act : Nat → Nat → Word → State → State) (acc : Accessor) (reg n : Nat) (v : Word) (s : State)
    (h : s.Admits acc (reg / 0x400 + n) (reg % 0x400)) (h4 : reg % 4 = 0) (h40 : 0x40 ≤ reg % 0x400) (r : RegRow) (w : Nat)
    (hh : homePage (reg / 0x400 + n) (reg % 0x400) = reg / 0x400 + n)
    (hr : rowOf (reg / 0x400 + n) (reg % 0x400) = some r) (hx : regOf (reg / 0x400 + n) (reg % 0x400) = (reg, n))
    (hw : s.windowOf (reg / 0x400 + n) r = some w) (hl : r.rwl = 0 ∨ s.mode ≠ .run) (hg : reg ≠ Reg.GNS_CH_CFG)
    (hd : s.discards reg n w v = false) (ht : r.takes (s.mode == .run) v = true) :
    s.writeNamed act acc reg n v =
      (act n w (rget (s.cells (reg / 0x400 + n)) (cellKey (reg / 0x400 + n) (reg % 0x400) w))
        (s.written (reg / 0x400 + n) (reg / 0x400 + n) (reg % 0x400) w reg r v)).releaseIdle := by
  rw [writeNamed_admitted act acc reg n v s h h4 h40,
    rowWrite_taken (r := r) (w := w) _ _ _ _ _ (by rw [hh]; exact hr) (by rw [hh]; exact hw) hl (by rw [hh, hx]; exact hg)
      (by rw [hh, hx]; exact hd) ht]
  rw [hh, hx]

/-- An admitted write that the register's own rule discards: what the unit makes of it, and its code. -/
theorem writePlain_discarded (acc : Accessor) (reg n : Nat) (v : Word) (s : State)
    (h : s.Admits acc (reg / 0x400 + n) (reg % 0x400)) (h4 : reg % 4 = 0) (h40 : 0x40 ≤ reg % 0x400) (r : RegRow) (w : Nat)
    (hh : homePage (reg / 0x400 + n) (reg % 0x400) = reg / 0x400 + n)
    (hr : rowOf (reg / 0x400 + n) (reg % 0x400) = some r) (hx : regOf (reg / 0x400 + n) (reg % 0x400) = (reg, n))
    (hw : s.windowOf (reg / 0x400 + n) r = some w) (hl : r.rwl = 0 ∨ s.mode ≠ .run) (hg : reg ≠ Reg.GNS_CH_CFG)
    (hd : s.discards reg n w v = true) (ht : r.takes (s.mode == .run) v = true) :
    s.writePlain acc reg n v =
      (State.discarded reg (reg / 0x400 + n) (if ownCell reg && reg != Reg.TIM_TM_CFG then
        State.actPlain reg n w v (s.regWord (reg / 0x400 + n) (reg % 0x400) r) s else s)).releaseIdle := by
  unfold State.writePlain
  rw [writeNamed_admitted _ acc reg n v s h h4 h40]
  have hf : s.fieldsOf reg (rget (s.cells (reg / 0x400 + n)) (cellKey (reg / 0x400 + n) (reg % 0x400) w)) v = v := by
    unfold State.fieldsOf
    rw [if_neg (fun h => hg h.1)]
  have hlost : ((s.mode == .run) && ((v ^^^ s.regWord (reg / 0x400 + n) (reg % 0x400) r) &&& wd r.rwl != 0#32)) = false := by
    rcases hl with hl | hl
    · have h0 : wd r.rwl = 0#32 := by rw [hl]; rfl
      rw [h0]
      simp
    · have h0 : (s.mode == .run) = false := by simpa using hl
      rw [h0]
      rfl
  unfold State.rowWrite
  dsimp only
  rw [hh, hr]
  dsimp only
  rw [hw]
  dsimp only
  rw [hx]
  dsimp only
  rw [hf, hlost]
  simp only [Bool.false_eq_true, if_false]
  rw [hd, ht]
  rfl

/-- The same for a write with its plain action. -/
theorem writePlain_taken (acc : Accessor) (reg n : Nat) (v : Word) (s : State)
    (h : s.Admits acc (reg / 0x400 + n) (reg % 0x400)) (h4 : reg % 4 = 0) (h40 : 0x40 ≤ reg % 0x400) (r : RegRow) (w : Nat)
    (hh : homePage (reg / 0x400 + n) (reg % 0x400) = reg / 0x400 + n)
    (hr : rowOf (reg / 0x400 + n) (reg % 0x400) = some r) (hx : regOf (reg / 0x400 + n) (reg % 0x400) = (reg, n))
    (hw : s.windowOf (reg / 0x400 + n) r = some w) (hl : r.rwl = 0 ∨ s.mode ≠ .run) (hg : reg ≠ Reg.GNS_CH_CFG)
    (hd : s.discards reg n w v = false) (ht : r.takes (s.mode == .run) v = true) :
    s.writePlain acc reg n v =
      (State.actPlain reg n w v (rget (s.cells (reg / 0x400 + n)) (cellKey (reg / 0x400 + n) (reg % 0x400) w))
        (s.written (reg / 0x400 + n) (reg / 0x400 + n) (reg % 0x400) w reg r v)).releaseIdle :=
  writeNamed_taken (fun n w old => State.actPlain reg n w v old) acc reg n v s h h4 h40 r w hh hr hx hw hl hg hd ht

/-! ## Writes of the common header -/

/-- An admitted whole-word write in the common header: its effect, then the release. -/
theorem writeHeader_admitted (acc : Accessor) (page off : Nat) (v : Word) (s : State) (h : s.Admits acc page off) (h4 : off % 4 = 0)
    (h40 : off < 0x40) : s.writeHeader acc page off v = (s.headerWrite acc page off v).1.releaseIdle := by
  obtain ⟨h1, h2, h3⟩ := h
  unfold State.writeHeader State.regWriteWith
  simp [h1, h2, h3, h4, h40]

/-- PAGE_SEQ counts (R435). -/
theorem pageSeq_hdrSeq (h : RMap) (p : Nat) : rget (hdrSeq h p) (cellKey p 0x1C 0) = rget h (cellKey p 0x1C 0) + 1#32 := by
  unfold hdrSeq
  simp

/-- Cells of one page at different offsets are different. -/
theorem cellKey_ne {p o q : Nat} (ho : o < 0x400) (hq : q < 0x400) (h : o ≠ q) : cellKey p o 0 ≠ cellKey p q 0 := by
  rw [Ne, cellKey_inj ho hq]
  omega

/-- Counting in PAGE_SEQ leaves the page's other header cells. -/
theorem rget_hdrSeq_ne (h : RMap) (p o : Nat) (ho : o < 0x400) (h1 : o ≠ 0x1C) :
    rget (hdrSeq h p) (cellKey p o 0) = rget h (cellKey p o 0) := by
  unfold hdrSeq
  rw [rget_rmod, if_neg (cellKey_ne ho (by omega) h1)]

/-- PAGE_SEQ through a unit's work. -/
theorem commit_pageSeq (fx : Fx) (st : List Store) (s : State) (q : Nat) : (s.commit fx st).pageSeq q = s.pageSeq q :=
  hdrCell_commit _ _ _ _ _ (by omega) (by omega) (by omega)

end Sys2Proof.Machine
end

