-- ==== Sys2Proof/Laws/Modes.lean ====
section
/-! SUPPORT. Entering a module state and resets (R418, R420): what they change, and what they leave as it was. -/

namespace Sys2Proof.Machine

/-- Work that only records, raises flags, takes snapshots and sends is plain. -/
theorem plain_of_codes (c : List Code) (e : List (Nat × Nat)) (n : List Nat) (m : List Emit) : (Fx.mk c e [] [] [] [] n m []).Plain :=
  ⟨rfl, rfl, rfl, rfl, rfl⟩

/-- A module state entered: the mode, and no request waiting; nothing else but what a record leaves. -/
theorem shell_enter (m : Mode) (s : State) :
    (s.enter m).shell = ({ s with mode := m, sup := { s.sup with request := none } } : State).shell := shell_commit _ _ _

@[simp] theorem enter_mode (m : Mode) (s : State) : (s.enter m).mode = m := mode_of_shell (shell_enter m s)
@[simp] theorem enter_sup (m : Mode) (s : State) : (s.enter m).sup = { s.sup with request := none } := sup_of_shell (shell_enter m s)
@[simp] theorem enter_seq (m : Mode) (s : State) : (s.enter m).seq = s.seq := (seq_of_shell (shell_enter m s) :)
@[simp] theorem enter_now (m : Mode) (s : State) : (s.enter m).now = s.now := (now_of_shell (shell_enter m s) :)
@[simp] theorem enter_pending (m : Mode) (s : State) : (s.enter m).pending = s.pending := (pending_of_shell (shell_enter m s) :)

theorem inner_enter (m : Mode) (s : State) : (s.enter m).inner = s.inner := inner_commit _ (plain_of_codes _ _ _ _) _

@[simp] theorem enter_mem (m : Mode) (s : State) : (s.enter m).mem = s.mem := congrArg (·.1) (inner_enter m s)

/-- A reset keeps the bytes of the nonvolatile store (R420, R425). -/
theorem byte_resetTo (cause base : Nat) (s : State) (x : Nat) (h : nonvolatile x = true) :
    (s.resetTo cause base).mem.byte x = s.mem.byte x := by
  have e : (s.resetTo cause base).mem.bytes = sdrop (fun a => !nonvolatile a) s.mem.bytes := rfl
  unfold Mem.byte
  rw [e, sget_sdrop, h]
  rfl

theorem wf_resetTo (cause base : Nat) (s : State) (h : s.mem.wf = true) : (s.resetTo cause base).mem.wf = true := wf_sdrop _ _ _ h

end Sys2Proof.Machine
end

