-- ==== Sys2Proof/Laws/Spans.lean ====
section
/-! SUPPORT. What fathoms and spans leave alone: the true time, the module state, SUP but for the instant a request is counted from, PWR,
the safety layer, the serial ports, the ES outputs and the queue. -/

namespace Sys2Proof.Machine

/-- What fathoms and spans leave alone. -/
def State.outer (s : State) : Nat × Mode × Sup × Pwr × Saf × Ser × BitVec 4 × List Instr :=
  (s.now, s.mode, { s.sup with reqUs := 0 }, s.pwr, s.saf, s.ser, s.esOff, s.pending)

section
variable {s t : State} (h : t.outer = s.outer)
include h
theorem now_of_outer : t.now = s.now := congrArg (·.1) h
theorem mode_of_outer : t.mode = s.mode := congrArg (·.2.1) h
theorem sup_of_outer : t.sup = { s.sup with reqUs := t.sup.reqUs } :=
  congrArg (fun u : Sup => { u with reqUs := t.sup.reqUs }) (congrArg (·.2.2.1) h : { t.sup with reqUs := 0 } = { s.sup with reqUs := 0 })
theorem pwr_of_outer : t.pwr = s.pwr := congrArg (·.2.2.2.1) h
theorem saf_of_outer : t.saf = s.saf := congrArg (·.2.2.2.2.1) h
theorem pending_of_outer : t.pending = s.pending := congrArg (·.2.2.2.2.2.2.2) h
end

theorem outer_of_shell {s t : State} (h : t.shell = s.shell) : t.outer = s.outer := by
  unfold State.outer
  rw [now_of_shell h, mode_of_shell h, sup_of_shell h, pwr_of_shell h, saf_of_shell h, ser_of_shell h, esOff_of_shell h, pending_of_shell h]

@[simp] theorem outer_commit (fx : Fx) (st : List Store) (s : State) : (s.commit fx st).outer = s.outer := outer_of_shell (shell_commit fx st s)
@[simp] theorem outer_code (p c : Nat) (l : List Word) (s : State) : (s.code p c l).outer = s.outer := outer_commit _ _ _
@[simp] theorem outer_codeRec (p c : Nat) (l : List Word) (s : State) : (s.codeRec p c l).outer = s.outer := outer_commit _ _ _
@[simp] theorem outer_onSeq (f : Seq → W Seq) (s : State) : (s.onSeq f).outer = s.outer := outer_commit _ _ _
@[simp] theorem outer_onEst (f : Est → W Est) (s : State) : (s.onEst f).outer = s.outer := outer_commit _ _ _
@[simp] theorem outer_onFus (f : Fus → W Fus) (s : State) : (s.onFus f).outer = s.outer := outer_commit _ _ _
@[simp] theorem outer_onGns (f : Gns → W Gns) (s : State) : (s.onGns f).outer = s.outer := outer_commit _ _ _
@[simp] theorem outer_onCtl (f : Ctl → W Ctl) (s : State) : (s.onCtl f).outer = s.outer := outer_commit _ _ _
@[simp] theorem outer_onTim (f : Tim → W Tim) (s : State) : (s.onTim f).outer = s.outer := outer_commit _ _ _
@[simp] theorem outer_onFio (f : Fio → W Fio) (s : State) : (s.onFio f).outer = s.outer := outer_commit _ _ _
@[simp] theorem outer_onPos (f : Pos → W Pos) (s : State) : (s.onPos f).outer = s.outer := outer_commit _ _ _
@[simp] theorem outer_onCan (f : Can → W Can) (s : State) : (s.onCan f).outer = s.outer := outer_commit _ _ _
@[simp] theorem outer_onChn (f : Chn → W Chn) (s : State) : (s.onChn f).outer = s.outer := outer_commit _ _ _
@[simp] theorem outer_onNet (f : Net → W Net) (s : State) : (s.onNet f).outer = s.outer := outer_commit _ _ _
@[simp] theorem outer_onPtp (f : Ptp → W Ptp) (s : State) : (s.onPtp f).outer = s.outer := outer_commit _ _ _
@[simp] theorem outer_onPrg (f : Prg → W Prg) (s : State) : (s.onPrg f).outer = s.outer := outer_commit _ _ _
@[simp] theorem outer_onFlt (f : Flt → W Flt) (s : State) : (s.onFlt f).outer = s.outer := outer_commit _ _ _
@[simp] theorem outer_onFq (f : Fq → W Fq) (s : State) : (s.onFq f).outer = s.outer := outer_commit _ _ _
@[simp] theorem outer_onAlc (f : Alc → W Alc) (s : State) : (s.onAlc f).outer = s.outer := outer_commit _ _ _
@[simp] theorem outer_onSol (f : Sol → W Sol) (s : State) : (s.onSol f).outer = s.outer := outer_commit _ _ _
@[simp] theorem outer_event (p f : Nat) (s : State) : (s.event p f).outer = s.outer := rfl
@[simp] theorem outer_seqMiss (u i c k : Nat) (s : State) : (s.seqMiss u i c k).outer = s.outer := outer_commit _ _ _

@[simp] theorem outer_swapPair (b l : Nat) (s : State) : (s.swapPair b l).outer = s.outer := by
  unfold State.swapPair
  split <;> rfl

@[simp] theorem outer_swapPairs (l : List (Nat × Nat)) (s : State) : (s.swapPairs l).outer = s.outer :=
  foldl_keeps (fun x : State => x.outer = s.outer) _ (fun x p hx => by rw [outer_swapPair]; exact hx) _ _ rfl

@[simp] theorem outer_matchSnaps (l : List Nat) (s : State) : (s.matchSnaps l).outer = s.outer := outer_commit _ _ _

@[simp] theorem outer_matchActions (lines : BitVec 24) (l : List (Nat × Nat)) (s : State) : (s.matchActions lines l).outer = s.outer := by
  refine foldl_keeps (fun x : State => x.outer = s.outer) _ (fun x p hx => ?_) _ _ rfl
  rw [← hx]
  simp only [apply_ite State.outer, outer_onGns, outer_onPos]
  have h1 : ∀ y : State, ({ x with tim := { x.tim with trigOut := none } } : State).outer = x.outer := fun _ => rfl
  have h2 : ({ x with fio := x.fio.captureAt p.2 x.tim.time } : State).outer = x.outer := rfl
  rw [h1 x, h2]
  simp only [ite_self]

@[simp] theorem outer_matchFire (lines : BitVec 24) (s : State) : (s.matchFire lines).outer = s.outer := by
  unfold State.matchFire
  dsimp only
  rw [outer_matchSnaps, outer_matchActions]
  rfl

@[simp] theorem outer_makeStep (lines : BitVec 24) (s : State) : (s.makeStep lines).outer = s.outer := by
  unfold State.makeStep
  split
  · rfl
  · rename_i p hp
    have k : ∀ (y : State) (fl : Flt) (g : Gns) (r : Int) (q : Seq),
        ({ y with flt := fl, gns := g, sup := { y.sup with reqUs := r }, seq := q } : State).outer = y.outer := fun _ _ _ _ _ => rfl
    dsimp only
    rw [outer_matchFire, k, outer_onTim]

@[simp] theorem outer_steer (f : Tim → W Tim) (s : State) : (s.steer f).outer = s.outer := by
  unfold State.steer
  extract_lets s1 x
  split
  · exact outer_onTim _ _
  · rw [outer_makeStep]
    exact outer_onTim f s

@[simp] theorem outer_installPart (p : Nat × JoinState) (s : State) : (s.installPart p).outer = s.outer := by
  unfold State.installPart
  extract_lets j s1 st out
  rw [outer_commit]
  show State.outer (if _ then _ else _) = _
  simp only [apply_ite State.outer]
  simp only [State.outer, ite_self]

@[simp] theorem outer_unitPublish (x : Span) (s : State) : (s.unitPublish x).outer = s.outer := by
  unfold State.unitPublish
  extract_lets u s1
  rw [outer_onChn]
  show State.outer (if _ then _ else _) = _
  split
  · rfl
  split
  · split <;> rfl
  split
  · exact outer_onCtl _ _
  split
  · rfl
  split
  · rfl
  split
  · split
    · rw [outer_steer, outer_onGns]
    · split
      · rw [outer_onTim, outer_onGns]
      · rw [outer_onGns]
  split
  · rfl
  split
  · exact outer_swapPairs _ _
  · rfl

@[simp] theorem outer_unitMiss (x : Span) (s : State) : (s.unitMiss x).outer = s.outer := by
  unfold State.unitMiss
  simp only [apply_ite State.outer, outer_onSol, outer_onEst, outer_onCtl, outer_event, outer_onFus, outer_onGns, outer_onAlc, ite_self]

@[simp] theorem outer_endRun (r : Run) (s : State) : (s.endRun r).outer = s.outer := by
  unfold State.endRun
  extract_lets s1 s2 s3
  have h1 : s1.outer = s.outer := rfl
  split
  · split
    · rw [outer_unitPublish]
      exact (outer_swapPair _ _ s1).trans h1
    · rw [outer_seqMiss, h1]
  · have h2 : ∀ y : State, y.outer = s.outer → ∀ (c : Bool), State.outer (if c then y else y.noteAbort r.span.unit) = s.outer := by
      intro y hy c
      cases c
      · exact hy
      · exact hy
    have h3 : ∀ y : State, y.outer = s.outer → ∀ (c : Bool), State.outer (if c then y.unitMiss r.span else y) = s.outer := by
      intro y hy c
      cases c
      · exact hy
      · exact (outer_unitMiss _ _).trans hy
    rw [outer_seqMiss]
    exact h3 _ (h2 _ h1 _) _

@[simp] theorem outer_deadlines (s : State) : s.deadlines.outer = s.outer :=
  foldl_keeps (fun x : State => x.outer = s.outer) _ (fun x r hx => by rw [outer_endRun]; exact hx) _ _ rfl

@[simp] theorem outer_deadline (i : Nat) (s : State) : (s.deadline i).outer = s.outer := by
  unfold State.deadline
  split
  · exact outer_endRun _ _
  · rfl

@[simp] theorem outer_swapStep (s : State) : s.swapStep.outer = s.outer := by
  unfold State.swapStep
  split
  · rfl
  · have k : ∀ (y : State) (h : RMap), ({ y with hdr := h } : State).outer = y.outer := fun _ _ => rfl
    dsimp only
    split
    · rw [k, outer_onSeq]
    · rw [outer_onSeq]

@[simp] theorem outer_outputWords (s : State) : s.outputWords.outer = s.outer := by
  unfold State.outputWords
  split
  · exact outer_onFio _ _
  · rfl

@[simp] theorem outer_installJoins (s : State) : s.installJoins.outer = s.outer := by
  unfold State.installJoins
  extract_lets y
  refine foldl_keeps (fun x : State => x.outer = s.outer) _ (fun x r hx => by rw [outer_installPart]; exact hx) _ _ ?_
  rw [outer_onChn]

@[simp] theorem outer_releases (s : State) : s.releases.outer = s.outer := by
  unfold State.releases
  split
  · split
    · rfl
    · exact outer_onPrg _ _
  · rfl

@[simp] theorem outer_beginFathom (s : State) : s.beginFathom.outer = s.outer := by
  have k : ∀ (y : State) (p : Prg) (c : Chn), ({ y with prg := p, chn := c } : State).outer = y.outer := fun _ _ _ => rfl
  unfold State.beginFathom
  dsimp only
  rw [outer_releases, outer_outputWords]
  split
  · rw [outer_installJoins, outer_onChn, k, outer_swapPairs, outer_onSeq]
  · rw [k, outer_swapPairs, outer_onSeq]

@[simp] theorem outer_fathomStart (s : State) : s.fathomStart.outer = s.outer := by
  unfold State.fathomStart
  split
  · rw [outer_beginFathom, outer_swapStep, outer_deadlines]
  · rfl

@[simp] theorem outer_furlongSwap (s : State) : s.furlongSwap.outer = s.outer := by
  unfold State.furlongSwap
  split
  · rw [outer_swapStep, outer_deadlines]
  · rfl

/-- A START leaves alone what its work leaves alone. -/
theorem outer_startSpan (idx : Nat) (ok : Span → Bool) (now : Bool) (work : Span → SpanIn → State → State × Bool)
    (hw : ∀ x i s, (work x i s).1.outer = s.outer) (s : State) : (s.startSpan idx ok now work).outer = s.outer := by
  have k : ∀ (y : State) (q : Seq), ({ y with seq := q } : State).outer = y.outer := fun _ _ => rfl
  have kf : ∀ y : State, y.fresh.2.outer = y.outer := fun _ => rfl
  unfold State.startSpan
  dsimp only
  split
  · split
    · rw [outer_seqMiss, outer_commit, k, outer_deadlines]
    · split
      · split
        · rw [outer_seqMiss]
          split
          · rw [outer_unitMiss, outer_commit, k, outer_deadlines]
          · rw [outer_commit, k, outer_deadlines]
        · rw [k, hw, kf, outer_commit, k, outer_deadlines]
      · exact outer_deadlines s
  · exact outer_deadlines s

/-- Where no deadline has come, nothing happens at the deadlines. -/
theorem deadlines_none {s : State} (h : s.dueRuns = []) : s.deadlines = s := by
  unfold State.deadlines
  rw [h]
  rfl

/-- Reading sound blocks changes nothing. -/
theorem commit_sound (page a : Nat) (s : State) (h : (s.mem.outcome a).1 = .sound) :
    s.commit { Fx.none with reads := [(page, a)] } [] = s := by
  have hr : State.readBlocks [(page, a)] s = (s, []) := by
    simp [State.readBlocks, State.readBlock, h, ReadOutcome.code]
  have e : State.absorb (fun (u : State) _ => u) ⟨s, { Fx.none with reads := [(page, a)] }, []⟩ (s, Fx.none) = (s, Fx.none) := by
    unfold State.absorb
    simp only [State.storeAll]
    rw [hr]
    rfl
  unfold State.commit
  rw [e]
  dsimp only
  exact (snapTriggers_nil _)

/-- A START that is taken: the unit's work on what it is handed, and the run in progress. -/
theorem startSpan_taken {s : State} {idx : Nat} {x : Span} (h : s.Starts idx x) (ok : Span → Bool) (hok : ok x = true) (now : Bool)
    (work : Span → SpanIn → State → State × Bool) :
    s.startSpan idx ok now work =
      (let y := work x (s.handed idx x) (s.begun idx)
       { y.1 with seq := { y.1.seq with
          runs := y.1.seq.runs ++ [⟨idx, x, y.1.seq.count, y.2, if now || !y.2 then some y.1.tick else none⟩] } }) := by
  have hb : s.mem.isBad (spanAddr s.seq.bank idx) = false := by
    unfold Mem.isBad
    rw [h.sound]
    rfl
  have hm : ∀ l, (({ s with seq := { s.seq with issued := l } } : State).commit
      { Fx.none with reads := [(Pg.SEQ, spanAddr s.seq.bank idx)] } []) = { s with seq := { s.seq with issued := l } } :=
    fun l => commit_sound _ _ _ h.sound
  unfold State.startSpan
  rw [deadlines_none h.due]
  dsimp only
  rw [if_pos ⟨h.run, h.seqUp, h.grid, h.table, h.first⟩, hb, if_neg (by decide), h.span, if_pos (by simp [h.en, hok, h.fathom, h.tick])]
  simp only [hm]
  rw [if_neg]
  · rfl
  · have h1 : ({ s with seq := { s.seq with issued := s.seq.issued ++ [idx] } } : State).pageUp x.page = true := h.unitUp
    have h2 : ({ s with seq := { s.seq with issued := s.seq.issued ++ [idx] } } : State).seq.unitBusy x.unit = false := h.idle
    have h3 : ({ s with seq := { s.seq with issued := s.seq.issued ++ [idx] } } : State).seq.aborts.contains
        (x.unit, s.seq.count, ({ s with seq := { s.seq with issued := s.seq.issued ++ [idx] } } : State).tick) = false := h.clear
    rw [h1, h2, h3]
    decide

/-- A START that is taken, of a unit whose work answers r: what the work leaves, and the run. -/
theorem startSpan_ran {U : Type} {s : State} {idx : Nat} {x : Span} (h : s.Starts idx x) (ok : Span → Bool) (hok : ok x = true)
    (put : U → State → State) (hput : ∀ u z, (put u z).seq = z.seq ∧ (put u z).tim = z.tim) (F : Span → SpanIn → State → R U) :
    s.startSpan idx ok false (fun x i z => z.ran put (F x i z)) =
      { (put (F x (s.handed idx x) (s.begun idx)).w.u (s.begun idx)).commit (F x (s.handed idx x) (s.begun idx)).w.fx
          (F x (s.handed idx x) (s.begun idx)).w.st with
        seq := s.seq.started idx x (F x (s.handed idx x) (s.begun idx)).ok
          (if (F x (s.handed idx x) (s.begun idx)).ok then none else some s.tick) } := by
  rw [startSpan_taken h ok hok]
  unfold State.ran
  generalize F x (s.handed idx x) (s.begun idx) = r
  dsimp only
  have hs : ((put r.w.u (s.begun idx)).commit r.w.fx r.w.st).seq = (s.begun idx).seq := by rw [commit_seq]; exact (hput _ _).1
  have ht : ((put r.w.u (s.begun idx)).commit r.w.fx r.w.st).tick = s.tick := by
    unfold State.tick
    rw [hs, commit_tim, (hput _ _).2]
    rfl
  rw [hs, ht, Bool.false_or]
  cases r.ok <;> rfl

@[simp] theorem outer_spanDone (i : Nat) (r : Bool) (s : State) : (s.spanDone i r).outer = s.outer := by
  unfold State.spanDone
  split
  · rfl
  · dsimp only
    split <;> rfl

end Sys2Proof.Machine
end

