-- ==== Sys2Proof/Laws/Firkins.lean ====
section
/-! SUPPORT. The firkins (R28–R35): what a push, a commit, a flush and a pop leave in each firkin. -/

namespace Sys2Proof.Machine

/-- A firkin set. -/
theorem firkin_put (u : Fq) (n : Nat) (f : Firkin) (m : Nat) : (u.put n f).firkin m = if m = n then f else u.firkin m := by
  unfold Fq.put Fq.firkin
  exact sget_sset ..

/-- A flag of a bitmap register leaves every firkin. -/
@[simp] theorem firkin_setFlag (u : Fq) (r n : Nat) (b : Bool) (m : Nat) : (u.setFlag r n b).firkin m = u.firkin m := rfl

/-- The flag set. -/
theorem flag_setFlag (u : Fq) (r n : Nat) (b : Bool) : rbit (u.setFlag r n b).regs (fqBitmap r n) (n % 32) = b := by
  unfold Fq.setFlag rbit
  dsimp only
  rw [rget_rmod, if_pos rfl]
  have : n % 32 < 32 := Nat.mod_lt _ (by decide)
  cases b <;> simp [putBit, bit, this]

/-- A push that is taken: the word enters the open packet, and an end commits it. -/
theorem push_taken (unit n : Nat) (v : Word) (last : Bool) (bad : BitVec 4) (u : Fq) (h0 : unit ≠ 0) (h1 : bits (u.cfg n) 15 8 = unit)
    (h2 : bit (u.cfg n) 0 = true) (h3 : (u.firkin n).dropping = false) (h4 : (u.firkin n).committed.length + (u.firkin n).opened.length < u.depth n) :
    Fq.push unit n v last bad (W.of u) = (let w := (W.of u).map (fun u => u.put n { u.firkin n with opened := (u.firkin n).opened ++ [⟨v, last, bad⟩] })
      if last then Fq.commit n w else w) := by
  unfold Fq.push
  dsimp only [W.of]
  rw [if_neg (by simp [h1, h0]), if_neg (by simp [h2]), if_neg (by simp [h3]), if_neg (by omega)]
  rfl

/-- A commit: the open packet joins the committed words, unless a flush waits, and the notice bit is set. -/
theorem commit_firkin (u : Fq) (n : Nat) (hn : n < 64) : ∃ r w, Fq.commit n { u := u, fx := Fx.none, st := [] } = { u := r, fx := w, st := [] } ∧ w.pushes = [] ∧ w.samples = [] ∧
        r.firkin n = ⟨if u.flushing n then [] else (u.firkin n).committed ++ (u.firkin n).opened, [], (u.firkin n).dropping⟩ ∧
        (∀ m, m ≠ n → r.firkin m = u.firkin m) ∧ (rbit u.regs (fqBitmap Reg.FQ_NOTICE_EN0 n) (n % 32) = false → w = Fx.none ∧ rbit r.regs (fqBitmap Reg.FQ_NOTICE0 n) (n % 32) = true) := by
  have kb : ∀ (m : RMap) (r : Nat) (f : Word → Word) (k : Nat), r ≠ k → rget (rmod m k f) r = rget m r := fun m r f k h => by rw [rget_rmod, if_neg h]
  have ks : ∀ (m : RMap) (r : Nat) (v : Word) (k : Nat), r ≠ k → rget (rset m k v) r = rget m r := fun m r f k h => by rw [rget_rset, if_neg h]
  have hd : n / 32 = 0 ∨ n / 32 = 1 := by omega
  obtain ⟨u3, hu3⟩ : ∃ u3, u3 = ({ (u.put n { u.firkin n with committed := (u.firkin n).committed ++ (u.firkin n).opened, opened := [] }) with
      regs := rmod (u.put n { u.firkin n with committed := (u.firkin n).committed ++ (u.firkin n).opened, opened := [] }).regs (rk Reg.FQ_COUNT 0 n) (fun c => incWrapField c 15 0) } : Fq).setFlag Reg.FQ_NOTICE0 n true := ⟨_, rfl⟩
  have f3 : ∀ m, u3.firkin m = if m = n then { u.firkin n with committed := (u.firkin n).committed ++ (u.firkin n).opened, opened := [] } else u.firkin m := by
    intro m; rw [hu3, firkin_setFlag]; exact firkin_put ..
  have en3 : rbit u3.regs (fqBitmap Reg.FQ_NOTICE_EN0 n) (n % 32) = rbit u.regs (fqBitmap Reg.FQ_NOTICE_EN0 n) (n % 32) := by
    rw [hu3]; unfold rbit Fq.setFlag Fq.put
    dsimp only
    rw [kb, kb, ks] <;> simp only [fqBitmap, rk, Reg.FQ_STAT, Reg.FQ_COUNT, Reg.FQ_NOTICE0, Reg.FQ_NOTICE_EN0] <;> omega
  have fl3 : u3.flushing n = u.flushing n := by
    rw [hu3]; unfold Fq.flushing rbit Fq.setFlag Fq.put
    dsimp only
    rw [kb, kb, ks] <;> simp only [fqBitmap, rk, Reg.FQ_STAT, Reg.FQ_COUNT, Reg.FQ_NOTICE0, Reg.FQ_FLUSH0] <;> omega
  have no3 : rbit u3.regs (fqBitmap Reg.FQ_NOTICE0 n) (n % 32) = true := by rw [hu3]; exact flag_setFlag ..
  have noF : rbit (u3.flush n).regs (fqBitmap Reg.FQ_NOTICE0 n) (n % 32) = true := by
    rw [← no3]; unfold rbit Fq.flush Fq.setFlag Fq.put
    dsimp only
    rw [kb, ks] <;> simp only [fqBitmap, rk, Reg.FQ_STAT, Reg.FQ_NOTICE0, Reg.FQ_FLUSH0] <;> omega
  have e : Fq.commit n { u := u, fx := Fx.none, st := [] } = ⟨if u3.flushing n then u3.flush n else u3, if rbit u3.regs (fqBitmap Reg.FQ_NOTICE_EN0 n) (n % 32) then { Fx.none with triggers := [⟨1, n, 0⟩] } else Fx.none, []⟩ := by
    rw [hu3]
    unfold Fq.commit W.map W.when W.trigger
    dsimp only
    split <;> rfl
  refine ⟨_, _, e, ?_, ?_, ?_, ?_, ?_⟩
  · split <;> rfl
  · split <;> rfl
  · rw [fl3]
    split
    · unfold Fq.flush; rw [firkin_setFlag, firkin_put, if_pos rfl, f3, if_pos rfl]
    · rw [f3, if_pos rfl]
  · intro m hm
    split
    · unfold Fq.flush; rw [firkin_setFlag, firkin_put, if_neg hm, f3, if_neg hm]
    · rw [f3, if_neg hm]
  · intro h
    rw [en3, h]
    refine ⟨rfl, ?_⟩
    split
    · exact noF
    · exact no3

/-- A fold that does something at one element only. -/
theorem foldl_one {A : Type} (n : Nat) (f : A → Nat → A) (hf : ∀ i u, i ≠ n → f u i = u) :
    ∀ (l : List Nat), l.Nodup → n ∈ l → ∀ u, l.foldl f u = f u n := by
  have h0 : ∀ (l : List Nat), n ∉ l → ∀ u, l.foldl f u = u := by
    intro l; induction l with
    | nil => intros; rfl
    | cons a l ih =>
      intro h u
      simp at h
      rw [List.foldl_cons, hf a u (by omega)]; exact ih h.2 u
  intro l; induction l with
  | nil => intro _ h; simp at h
  | cons a l ih =>
    intro hn h u
    rw [List.nodup_cons] at hn
    rw [List.foldl_cons]
    by_cases e : a = n
    · subst e; exact h0 l hn.1 _
    · rw [hf a u e]; simp at h; exact ih hn.2 (by rcases h with h | h; exact absurd h.symm e; exact h) u

/-- A flush request for one firkin. -/
theorem flushRequest_one (u : Fq) (half n : Nat) (hn : n < 32) :
    let r := Fq.flushRequest half (wd (2 ^ n)) u
    ((u.firkin (32 * half + n)).opened = [] → r.firkin (32 * half + n) = { u.firkin (32 * half + n) with committed := [] }) ∧
      ((u.firkin (32 * half + n)).opened ≠ [] → r.firkin (32 * half + n) = u.firkin (32 * half + n) ∧ r.flushing (32 * half + n) = true) ∧
      (∀ m, m ≠ 32 * half + n → r.firkin m = u.firkin m) := by
  have hb : ∀ i, i ≠ n → bit (wd (2 ^ n)) i = false := by
    intro i hi
    unfold bit wd
    rw [BitVec.getLsbD_ofNat, Nat.testBit_two_pow]; simp; intro _ h; exact hi h.symm
  have hb' : bit (wd (2 ^ n)) n = true := by
    unfold bit wd
    rw [BitVec.getLsbD_ofNat, Nat.testBit_two_pow]; simp [hn]
  have e : Fq.flushRequest half (wd (2 ^ n)) u = (let v := u.setFlag Reg.FQ_FLUSH0 (32 * half + n) true
      if (v.firkin (32 * half + n)).opened = [] then v.flush (32 * half + n) else v) := by
    unfold Fq.flushRequest
    rw [foldl_one n _ ?_ _ (by decide : (upto 32).Nodup) (by unfold upto; simp; exact hn)]
    · dsimp only; rw [hb', if_pos rfl]
    · intro i u hi; dsimp only; rw [hb i hi, if_neg (by decide)]
  have f : ∀ m, (u.setFlag Reg.FQ_FLUSH0 (32 * half + n) true).firkin m = u.firkin m := fun m => rfl
  dsimp only at e ⊢
  rw [e, f]
  refine ⟨fun h => ?_, fun h => ?_, fun m hm => ?_⟩
  · rw [if_pos h]; unfold Fq.flush; rw [firkin_setFlag, firkin_put, if_pos rfl, f]
  · rw [if_neg h]; refine ⟨rfl, ?_⟩; exact flag_setFlag ..
  · split
    · unfold Fq.flush; rw [firkin_setFlag, firkin_put, if_neg hm, f]
    · rfl

/-- Work that asks for nothing but that something be sent. -/
theorem commit_emits (s : State) (l : List Emit) :
    s.commit { Fx.none with emits := l } [] = { s with outbox := l.reverse ++ s.outbox } := by
  unfold State.commit
  simp only [State.absorb, State.storeAll, State.readBlocks, Fx.app, Fx.none, List.foldl_nil, List.nil_append, List.append_nil]
  rw [snapTriggers_nil]
  rfl

end Sys2Proof.Machine
end

