-- ==== Sys2Proof/Laws/Fathoms.lean ====
section
/-! SUPPORT. What a fathom start leaves of SEQ (R39, R49, R53, R54): the swap, the count, and nothing else of it. -/

namespace Sys2Proof.Machine

/-- Event releases and cyclic releases leave SEQ. -/
@[simp] theorem seq_releases (s : State) : s.releases.seq = s.seq := by
  unfold State.releases
  split
  · split
    · rfl
    · rw [onPrg_seq]
  · rfl

/-- The output words leave SEQ. -/
@[simp] theorem seq_outputWords (s : State) : s.outputWords.seq = s.seq := by
  unfold State.outputWords
  split
  · rw [onFio_seq]
  · rfl

/-- An installed part leaves SEQ. -/
@[simp] theorem seq_installPart (p : Nat × JoinState) (s : State) : (s.installPart p).seq = s.seq := by
  unfold State.installPart
  dsimp only
  rw [commit_seq]
  simp only [apply_ite State.seq, ite_self]

/-- Installed joins leave SEQ. -/
@[simp] theorem seq_installJoins (s : State) : s.installJoins.seq = s.seq := by
  unfold State.installJoins
  extract_lets z
  refine foldl_keeps (fun x : State => x.seq = s.seq) _ (fun x r hx => by rw [seq_installPart]; exact hx) _ _ ?_
  rw [onChn_seq]

/-- Published pairs leave SEQ. -/
@[simp] theorem seq_swapPairs (l : List (Nat × Nat)) (s : State) : (s.swapPairs l).seq = s.seq :=
  foldl_keeps (fun x : State => x.seq = s.seq) _ (fun x r hx => by rw [← hx]; unfold State.swapPair; split <;> rfl) _ _ rfl

/-- SEQ after a fathom has begun. -/
theorem seq_beginFathom (s : State) : s.beginFathom.seq = (Seq.nextFathom s.seq).u := by
  have k : ∀ (y : State) (p : Prg) (c : Chn), ({ y with prg := p, chn := c } : State).seq = y.seq := fun _ _ _ => rfl
  have e : (s.onSeq Seq.nextFathom).seq = (Seq.nextFathom s.seq).u := onSeq_seq _ _
  unfold State.beginFathom
  dsimp only
  rw [seq_releases, seq_outputWords]
  split
  · rw [seq_installJoins, onChn_seq, k, seq_swapPairs, e]
  · rw [k, seq_swapPairs, e]

/-- The count, the start and the STARTs of the fathom that begins, and what stays. -/
theorem nextFathom_fields (u : Seq) :
    (Seq.nextFathom u).u.count = u.count + 1 ∧ (Seq.nextFathom u).u.startUs = u.endUs ∧ (Seq.nextFathom u).u.issued = [] ∧
      (Seq.nextFathom u).u.runs = u.runs ∧ (Seq.nextFathom u).u.bank = u.bank ∧ (Seq.nextFathom u).u.active = u.active ∧
      (Seq.nextFathom u).u.swapAt = u.swapAt ∧ (Seq.nextFathom u).u.loaded = u.loaded := by
  unfold Seq.nextFathom
  dsimp only
  split <;> exact ⟨rfl, rfl, rfl, rfl, rfl, rfl, rfl, rfl⟩

/-- SEQ after the step of a fathom start that takes a pending swap. -/
theorem seq_swapStep (s : State) (h : s.mode ≠ .config) : s.swapStep.seq = (s.seq.swapPoint (s.seq.count + 1)).1.u := by
  have k : ∀ (y : State) (h : RMap), ({ y with hdr := h } : State).seq = y.seq := fun _ _ => rfl
  have e : ∀ f, (s.onSeq f).seq = (f s.seq).u := fun f => onSeq_seq _ _
  unfold State.swapStep
  rw [if_neg h]
  dsimp only
  split
  · rw [k, e]
  · rw [e]

/-- A swap for the next fathom start, with no long span in flight. -/
theorem swapPoint_swaps (u : Seq) (fno : Nat) (h : u.swapAt = some 0) (hl : u.longRun = false) : u.swapPoint fno = (u.swap fno, true) := by
  unfold Seq.swapPoint
  rw [h]
  dsimp only
  rw [if_pos rfl, hl]
  rfl

/-- A swap whose number lies in the past is refused. -/
theorem swapPoint_refuses (u : Seq) (fno n : Nat) (h : u.swapAt = some n) (h0 : n ≠ 0) (h1 : n ≠ fno % 4294967296)
    (h2 : signed 32 (n + 4294967296 - fno % 4294967296) ≤ 0) : u.swapPoint fno = (u.swapRefused, false) := by
  unfold Seq.swapPoint
  rw [h]
  dsimp only
  rw [if_neg h0, if_neg h1, if_neg (by omega)]

/-- Without a request nothing is swapped. -/
theorem swapStep_none (s : State) (h : s.seq.swapAt = none) : s.swapStep = s := by
  unfold State.swapStep
  split
  · rfl
  · have e : s.seq.swapPoint (s.seq.count + 1) = (W.of s.seq, false) := by
      unfold Seq.swapPoint
      rw [h]
    rw [e]
    unfold State.onSeq W.of
    dsimp only
    rw [if_neg (by decide)]
    exact commit_none _

end Sys2Proof.Machine
end

