-- ==== Sys2Proof/WellFormed.lean ====
section
/-! DEFINITION. What a command may carry: operands within the ranges the spec gives them. Ranges that a type holds already (a bus, a
firkin, a channel) need no check. A meaning is total and gives an ill-formed command an effect of its own making; statements that need
the ranges say so. -/

namespace Sys2Proof

/-- An upset strikes the address space (R16) or a coded memory outside it (R21), which the model keeps from 4 GiB on. -/
def Upset.ok (u : Upset) : Bool := decide (u.addr < 0x160010000)

/-- A command's time: its upsets lie in the address space. -/
def At.ok (t : At) : Bool := t.upsets.all Upset.ok

/-- An accessor that exists (R17, R441): three cores, 86 pages. -/
def Accessor.ok : Accessor → Bool
  | .sup => true
  | .service => true
  | .core n => decide (n < 3)
  | .unit page => decide (page < 86)

/-- The payload length of a DLC (ISO 11898-1, R309). -/
def wireBytes (fdf : Bool) (dlc : Nat) : Nat :=
  if dlc ≤ 8 then dlc else if !fdf then 8 else [12, 16, 20, 24, 32, 48, 64].getD (dlc - 9) 64

/-- A frame as ISO 11898-1 has it (R309): identifier, DLC and payload fit, a remote frame carries no payload and is none of CAN FD. -/
def CanWire.ok (f : CanWire) : Bool :=
  decide (f.ident < if f.xtd then 536870912 else 2048) && decide (f.dlc ≤ 15)
  && decide (f.data.length = if f.remote then 0 else wireBytes f.fdf f.dlc) && !(f.remote && f.fdf) && (f.fdf || !f.brs)

/-- A wake with or without a frame. -/
def wireOk : Option CanWire → Bool
  | some f => f.ok
  | none => true

/-- A strap's resistor in Ω (R444): none stands for an open pin, 10 MΩ or more. -/
def strapOk : Option Nat → Bool
  | some v => decide (v < 10000000)
  | none => true

/-- A code of PAGE_ERR where there is one. -/
def codeOk : Option Nat → Bool
  | some c => decide (c < 65536)
  | none => true

/-- The widths of an access in bytes. -/
def widthOk (w : Nat) : Bool := decide (w = 1) || decide (w = 2) || decide (w = 4) || decide (w = 8) || decide (w = 32)

/-- The bytes of a memory access: those it writes, or those it asks for. -/
def accessLen (len : Nat) : Option (List Byte) → Nat
  | some d => d.length
  | none => len

/-- A signed 32-bit value. -/
def word32 (v : Int) : Bool := decide (-2147483648 ≤ v) && decide (v ≤ 2147483647)

/-- Whether a command's operands are within their ranges. Log entry 8 (DESIGN CHOICE). -/
def Instr.wf : Instr → Bool
  | .powerOn t strapA strapB => t.ok && strapOk strapA && strapOk strapB
  | .bootComplete t => t.ok
  | .ringSearchDone t => t.ok
  | .commandedReset t acc _ strapA strapB => t.ok && acc.ok && strapOk strapA && strapOk strapB
  | .goReady t acc => t.ok && acc.ok
  | .goRun t acc => t.ok && acc.ok
  | .stop t acc => t.ok && acc.ok
  | .goConfig t acc => t.ok && acc.ok
  | .goService t acc => t.ok && acc.ok
  | .saveCfg t acc windows _ =>
    t.ok && acc.ok && windows.all (fun x => decide (x.1 < 86) && decide (x.2.1 < 1024) && decide (x.2.1 % 4 = 0) && decide (x.2.2 < 4096))
  | .stateTransition t => t.ok
  | .holdupExhausted t => t.ok
  | .supFetchFault t => t.ok
  | .registerWrite t acc addr width _ => t.ok && acc.ok && decide (addr < 4294967296) && widthOk width
  | .islandAccessTimeout t acc _ => t.ok && acc.ok
  | .memoryAccess t acc addr len data =>
    t.ok && acc.ok && decide (addr < 4294967296) && decide (addr + accessLen len data ≤ 4294967296) && decide (0 < accessLen len data)
  | .softReset t acc _ _ => t.ok && acc.ok
  | .freeze t acc _ _ => t.ok && acc.ok
  | .pageErrClr t acc _ same => t.ok && acc.ok && codeOk same
  | .handshakeTimeout t _ _ => t.ok
  | .pllLockLoss t _ => t.ok
  | .referenceLoss t => t.ok
  | .firkinPush t unit _ _ _ => t.ok && decide (unit < 256)
  | .firkinPushEnd t unit _ _ _ => t.ok && decide (unit < 256)
  | .firkinPop t unit _ _ => t.ok && decide (unit < 256)
  | .firkinFlushRequest t acc _ _ => t.ok && acc.ok
  | .firkinFlushEffect t _ => t.ok
  | .firkinDisable t acc _ => t.ok && acc.ok
  | .fathomStart t => t.ok
  | .spanCompletion t idx _ => t.ok && decide (idx < 1024)
  | .spanDeadline t idx => t.ok && decide (idx < 1024)
  | .spanStore t acc _ => t.ok && acc.ok
  | .shadowCountWrite t acc _ => t.ok && acc.ok
  | .swapRequest t acc => t.ok && acc.ok
  | .furlongSwap t => t.ok
  | .pubSelWrite t acc _ => t.ok && acc.ok
  | .latch t idx _ => t.ok && decide (idx < 1024)
  | .sampleArrival t unit sel _ val => t.ok && decide (unit < 256) && decide (sel < 65536) && word32 val
  | .resample t idx => t.ok && decide (idx < 1024)
  | .coefDataWrite t acc _ => t.ok && acc.ok
  | .estimate t idx => t.ok && decide (idx < 1024)
  | .admitObs t acc => t.ok && acc.ok
  | .withdraw t acc => t.ok && acc.ok
  | .reinit t acc => t.ok && acc.ok
  | .pointDatagram t src dport _ data => t.ok && decide (src < 4294967296) && decide (dport < 65536) && decide (data.length ≤ 65507)
  | .binning t => t.ok
  | .update t idx => t.ok && decide (idx < 1024)
  | .updateFinalWrite t idx => t.ok && decide (idx < 1024)
  | .seed t acc => t.ok && acc.ok
  | .antennaOpen t _ mA => t.ok && decide (mA < 5)
  | .antennaShort t _ _ => t.ok
  | .antennaSupplyRetry t _ => t.ok
  | .frontEndUnlock t _ => t.ok
  | .codeEpoch t _ _ dump _ => t.ok && decide (dump.length = 20)
  | .acqTimeout t _ _ => t.ok
  | .pullinTimeout t _ _ => t.ok
  | .measurementLatch t phases => t.ok && phases.all (fun x => decide (x.1 < 2) && decide (x.2.1 < 24))
  | .pvt t idx => t.ok && decide (idx < 1024)
  | .ppsPulse t => t.ok
  | .ppsPulseEnd t => t.ok
  | .snapshotStart t acc => t.ok && acc.ok
  | .snapcap t idx => t.ok && decide (idx < 1024)
  | .snapshotCaptureEnd t _ => t.ok
  | .gnssExport t acc => t.ok && acc.ok
  | .snapshotExportEnd t _ => t.ok
  | .process t acc => t.ok && acc.ok
  | .snapshotFixDone t => t.ok
  | .loops t idx => t.ok && decide (idx < 1024)
  | .instanceWindowWrite t acc _ _ => t.ok && acc.ok
  | .swap t acc _ => t.ok && acc.ok
  | .swapAll t acc _ => t.ok && acc.ok
  | .assemble t idx => t.ok && decide (idx < 1024)
  | .alcParamWrite t acc _ => t.ok && acc.ok
  | .alcSwap t acc => t.ok && acc.ok
  | .allocate t idx => t.ok && decide (idx < 1024)
  | .imageWindowWrite t acc _ => t.ok && acc.ok
  | .imageSwap t acc => t.ok && acc.ok
  | .cold t acc => t.ok && acc.ok
  | .sol1MemWrite t acc _ => t.ok && acc.ok
  | .taskInputCopyDone t _ => t.ok
  | .taskCycleEnd t _ writes => t.ok && writes.all (fun x => decide (x.1 < 524288))
  | .taskRuntimeError t _ kind => t.ok && decide (kind < 8)
  | .taskFetchFault t _ => t.ok
  | .stopTask t acc => t.ok && acc.ok
  | .startTask t acc => t.ok && acc.ok
  | .clrTaskStats t acc => t.ok && acc.ok
  | .retainSavePeriod t => t.ok
  | .save t acc => t.ok && acc.ok
  | .retainSaveDone t _ => t.ok
  | .forceCommit t acc _ => t.ok && acc.ok
  | .check t acc => t.ok && acc.ok
  | .change t acc => t.ok && acc.ok
  | .abort t acc => t.ok && acc.ok
  | .changePoint t => t.ok
  | .changeWaitExpiry t => t.ok
  | .heartbeat t idx => t.ok && decide (idx < 1024)
  | .mirror t idx => t.ok && decide (idx < 1024)
  | .judgment t => t.ok
  | .heartbeatReceive t _ frame => t.ok && decide (frame.length ≤ 1518)
  | .verdictReceive t _ frame => t.ok && decide (frame.length ≤ 1518)
  | .pubReceive t _ frame => t.ok && decide (frame.length ≤ 1518)
  | .outputReceive t _ frame => t.ok && decide (frame.length ≤ 1518)
  | .inputReceive t _ frame => t.ok && decide (frame.length ≤ 1518)
  | .sampleReceive t _ frame => t.ok && decide (frame.length ≤ 1518)
  | .datagramReceive t _ frame => t.ok && decide (frame.length ≤ 1518)
  | .stateReceive t _ frame => t.ok && decide (frame.length ≤ 1518)
  | .opReceive t _ frame => t.ok && decide (frame.length ≤ 1518)
  | .ackReceive t _ frame => t.ok && decide (frame.length ≤ 1518)
  | .sampleTick t => t.ok
  | .mirrorPublication t => t.ok
  | .go t acc => t.ok && acc.ok
  | .chainOpTimeout t => t.ok
  | .clr t acc => t.ok && acc.ok
  | .rejoin t acc => t.ok && acc.ok
  | .ptpSyncReceive t _ frame => t.ok && decide (frame.length ≤ 1518)
  | .ptpAnnounceReceive t _ frame => t.ok && decide (frame.length ≤ 1518)
  | .ptpDelayExchange t _ _ frame => t.ok && decide (frame.length ≤ 1518)
  | .ptpTransparentForward t _ _ frame => t.ok && decide (frame.length ≤ 1518)
  | .ptpSyncSend t => t.ok
  | .ppsInEdge t => t.ok
  | .sourceLapse t _ => t.ok
  | .primaryReselect t => t.ok
  | .timeStep t _ => t.ok
  | .timeMatchArm t acc _ _ => t.ok && acc.ok
  | .timeMatchFire t _ => t.ok
  | .trigOutEnd t => t.ok
  | .trigInEdge t => t.ok
  | .linkDown t _ => t.ok
  | .linkUp t _ speed _ => t.ok && decide (1 ≤ speed) && decide (speed ≤ 2)
  | .prpFrameReceive t _ frame => t.ok && decide (frame.length ≤ 1518)
  | .prpSupervisionSend t => t.ok
  | .prpLanLoss t _ => t.ok
  | .arpIcmpRequest t frame => t.ok && decide (frame.length ≤ 1518)
  | .udpbcDatagram t group port data => t.ok && decide (group < 4294967296) && decide (port < 65536) && decide (data.length ≤ 65507)
  | .hello t frame => t.ok && decide (frame.length ≤ 1518)
  | .read t _ frame => t.ok && decide (frame.length ≤ 1518)
  | .write t _ frame => t.ok && decide (frame.length ≤ 1518)
  | .close t frame => t.ok && decide (frame.length ≤ 1518)
  | .keySet t _ frame => t.ok && decide (frame.length ≤ 1518)
  | .transferOpen t frame => t.ok && decide (frame.length ≤ 1518)
  | .transferData t _ frame => t.ok && decide (frame.length ≤ 1518)
  | .transferCommit t frame => t.ok && decide (frame.length ≤ 1518)
  | .transferRead t frame => t.ok && decide (frame.length ≤ 1518)
  | .transferClose t frame => t.ok && decide (frame.length ≤ 1518)
  | .sessionTimeout t session => t.ok && decide (session < 65536)
  | .sendSet t idx _ => t.ok && decide (idx < 1024)
  | .canTxPacketLoad t _ _ _ => t.ok
  | .canTransmitEnd t _ _ outcome tdcv => t.ok && decide (outcome ≤ 2) && decide (tdcv < 256)
  | .canFrameReceive t _ rx => t.ok && rx.ok
  | .recover t acc _ => t.ok && acc.ok
  | .busoffRecoveryEnd t _ => t.ok
  | .sleep t acc _ => t.ok && acc.ok
  | .sleepEnter t _ => t.ok
  | .wakeWrite t acc _ => t.ok && acc.ok
  | .busWake t _ rx => t.ok && wireOk rx
  | .fieldRefresh t _ _ _ _ volts lplus =>
    t.ok && decide (volts.length = 16) && volts.all (fun v => decide (v < 65536)) && decide (lplus < 65536)
  | .logicSideSilent t _ => t.ok
  | .groupSideHold t _ => t.ok
  | .holdExpiry t _ => t.ok
  | .outputOverload t _ _ => t.ok
  | .openLoad t _ _ => t.ok
  | .inrushGrantExpiry t _ _ => t.ok
  | .outSet t acc _ _ => t.ok && acc.ok
  | .outClr t acc _ _ => t.ok && acc.ok
  | .sentenceReceive t _ _ _ _ => t.ok
  | .serialTxPacket t _ _ => t.ok
  | .serialTxDone t _ _ => t.ok
  | .request t idx _ => t.ok && decide (idx < 1024)
  | .ssiReqWrite t acc _ _ => t.ok && acc.ok
  | .ssiFrameEnd t _ word _ => t.ok && decide (word < 4294967296)
  | .quadTransition t _ _ _ => t.ok
  | .countPreset t acc _ _ => t.ok && acc.ok
  | .compareArm t acc _ _ _ => t.ok && acc.ok
  | .safcCycle t _ work => t.ok && decide (work < 65536)
  | .safetyInputChange t _ => t.ok
  | .discrepancyTimeout t _ => t.ok
  | .twohandSyncTimeout t _ => t.ok
  | .safetyOscFault t khz => t.ok && decide (khz < 65536)
  | .safcAliveMissing t => t.ok
  | .safcSelfTestFail t _ => t.ok
  | .safhParityFail t => t.ok
  | .sfoTestPulse t _ _ vp vm sl mA => t.ok && decide (vp < 65536) && decide (vm < 65536) && decide (sl < 65536) && decide (mA < 65536)
  | .readbackMismatch t _ _ => t.ok
  | .safetyOutputOverload t _ => t.ok
  | .slUndervoltage t sl => t.ok && decide (sl < 65536)
  | .slRecovery t sl => t.ok && decide (sl < 65536)
  | .degradedExpiry t _ => t.ok
  | .resetTaken t _ => t.ok
  | .resetHeld t _ => t.ok
  | .stagingWrite t acc _ => t.ok && acc.ok
  | .safetyParamCheck t acc => t.ok && acc.ok
  | .confirm t acc _ => t.ok && acc.ok
  | .reqRefresh t _ _ => t.ok
  | .reqLoss t _ => t.ok
  | .supplySample t mV => t.ok && decide (mV < 131072)
  | .ceilingRise t => t.ok
  | .grantDecision t => t.ok
  | .supplyWarning t => t.ok
  | .supplyRecovery t => t.ok
  | .overvoltageDisconnect t => t.ok
  | .supplyReconnect t => t.ok
  | .recordWrite t _ _ => t.ok
  | .optimeSave t => t.ok
  | .shelfClr t acc _ => t.ok && acc.ok
  | .snapTrig t acc => t.ok && acc.ok
  | .supBootWrite t acc _ => t.ok && acc.ok
  | .changeCheckDone t => t.ok
  | .frontEndRelock t _ => t.ok
  | .canReceiveError t _ => t.ok
  | .canIntegrationDone t _ => t.ok
  | .rs485IdleWaitEnd t _ => t.ok
  | .esFuseTrip t _ => t.ok
  | .esFuseRetry t _ => t.ok
  | .ptpAnnounceSend t => t.ok
  | .ptpDelayReqSend t _ => t.ok
  | .ptpAnnounceReceiptTimeout t _ => t.ok

/-- When a command takes place. -/
def Instr.time : Instr → At
  | .powerOn t _ _ => t
  | .bootComplete t => t
  | .ringSearchDone t => t
  | .commandedReset t _ _ _ _ => t
  | .goReady t _ => t
  | .goRun t _ => t
  | .stop t _ => t
  | .goConfig t _ => t
  | .goService t _ => t
  | .saveCfg t _ _ _ => t
  | .stateTransition t => t
  | .holdupExhausted t => t
  | .supFetchFault t => t
  | .registerWrite t _ _ _ _ => t
  | .islandAccessTimeout t _ _ => t
  | .memoryAccess t _ _ _ _ => t
  | .softReset t _ _ _ => t
  | .freeze t _ _ _ => t
  | .pageErrClr t _ _ _ => t
  | .handshakeTimeout t _ _ => t
  | .pllLockLoss t _ => t
  | .referenceLoss t => t
  | .firkinPush t _ _ _ _ => t
  | .firkinPushEnd t _ _ _ _ => t
  | .firkinPop t _ _ _ => t
  | .firkinFlushRequest t _ _ _ => t
  | .firkinFlushEffect t _ => t
  | .firkinDisable t _ _ => t
  | .fathomStart t => t
  | .spanCompletion t _ _ => t
  | .spanDeadline t _ => t
  | .spanStore t _ _ => t
  | .shadowCountWrite t _ _ => t
  | .swapRequest t _ => t
  | .furlongSwap t => t
  | .pubSelWrite t _ _ => t
  | .latch t _ _ => t
  | .sampleArrival t _ _ _ _ => t
  | .resample t _ => t
  | .coefDataWrite t _ _ => t
  | .estimate t _ => t
  | .admitObs t _ => t
  | .withdraw t _ => t
  | .reinit t _ => t
  | .pointDatagram t _ _ _ _ => t
  | .binning t => t
  | .update t _ => t
  | .updateFinalWrite t _ => t
  | .seed t _ => t
  | .antennaOpen t _ _ => t
  | .antennaShort t _ _ => t
  | .antennaSupplyRetry t _ => t
  | .frontEndUnlock t _ => t
  | .codeEpoch t _ _ _ _ => t
  | .acqTimeout t _ _ => t
  | .pullinTimeout t _ _ => t
  | .measurementLatch t _ => t
  | .pvt t _ => t
  | .ppsPulse t => t
  | .ppsPulseEnd t => t
  | .snapshotStart t _ => t
  | .snapcap t _ => t
  | .snapshotCaptureEnd t _ => t
  | .gnssExport t _ => t
  | .snapshotExportEnd t _ => t
  | .process t _ => t
  | .snapshotFixDone t => t
  | .loops t _ => t
  | .instanceWindowWrite t _ _ _ => t
  | .swap t _ _ => t
  | .swapAll t _ _ => t
  | .assemble t _ => t
  | .alcParamWrite t _ _ => t
  | .alcSwap t _ => t
  | .allocate t _ => t
  | .imageWindowWrite t _ _ => t
  | .imageSwap t _ => t
  | .cold t _ => t
  | .sol1MemWrite t _ _ => t
  | .taskInputCopyDone t _ => t
  | .taskCycleEnd t _ _ => t
  | .taskRuntimeError t _ _ => t
  | .taskFetchFault t _ => t
  | .stopTask t _ => t
  | .startTask t _ => t
  | .clrTaskStats t _ => t
  | .retainSavePeriod t => t
  | .save t _ => t
  | .retainSaveDone t _ => t
  | .forceCommit t _ _ => t
  | .check t _ => t
  | .change t _ => t
  | .abort t _ => t
  | .changePoint t => t
  | .changeWaitExpiry t => t
  | .heartbeat t _ => t
  | .mirror t _ => t
  | .judgment t => t
  | .heartbeatReceive t _ _ => t
  | .verdictReceive t _ _ => t
  | .pubReceive t _ _ => t
  | .outputReceive t _ _ => t
  | .inputReceive t _ _ => t
  | .sampleReceive t _ _ => t
  | .datagramReceive t _ _ => t
  | .stateReceive t _ _ => t
  | .opReceive t _ _ => t
  | .ackReceive t _ _ => t
  | .sampleTick t => t
  | .mirrorPublication t => t
  | .go t _ => t
  | .chainOpTimeout t => t
  | .clr t _ => t
  | .rejoin t _ => t
  | .ptpSyncReceive t _ _ => t
  | .ptpAnnounceReceive t _ _ => t
  | .ptpDelayExchange t _ _ _ => t
  | .ptpTransparentForward t _ _ _ => t
  | .ptpSyncSend t => t
  | .ppsInEdge t => t
  | .sourceLapse t _ => t
  | .primaryReselect t => t
  | .timeStep t _ => t
  | .timeMatchArm t _ _ _ => t
  | .timeMatchFire t _ => t
  | .trigOutEnd t => t
  | .trigInEdge t => t
  | .linkDown t _ => t
  | .linkUp t _ _ _ => t
  | .prpFrameReceive t _ _ => t
  | .prpSupervisionSend t => t
  | .prpLanLoss t _ => t
  | .arpIcmpRequest t _ => t
  | .udpbcDatagram t _ _ _ => t
  | .hello t _ => t
  | .read t _ _ => t
  | .write t _ _ => t
  | .close t _ => t
  | .keySet t _ _ => t
  | .transferOpen t _ => t
  | .transferData t _ _ => t
  | .transferCommit t _ => t
  | .transferRead t _ => t
  | .transferClose t _ => t
  | .sessionTimeout t _ => t
  | .sendSet t _ _ => t
  | .canTxPacketLoad t _ _ _ => t
  | .canTransmitEnd t _ _ _ _ => t
  | .canFrameReceive t _ _ => t
  | .recover t _ _ => t
  | .busoffRecoveryEnd t _ => t
  | .sleep t _ _ => t
  | .sleepEnter t _ => t
  | .wakeWrite t _ _ => t
  | .busWake t _ _ => t
  | .fieldRefresh t _ _ _ _ _ _ => t
  | .logicSideSilent t _ => t
  | .groupSideHold t _ => t
  | .holdExpiry t _ => t
  | .outputOverload t _ _ => t
  | .openLoad t _ _ => t
  | .inrushGrantExpiry t _ _ => t
  | .outSet t _ _ _ => t
  | .outClr t _ _ _ => t
  | .sentenceReceive t _ _ _ _ => t
  | .serialTxPacket t _ _ => t
  | .serialTxDone t _ _ => t
  | .request t _ _ => t
  | .ssiReqWrite t _ _ _ => t
  | .ssiFrameEnd t _ _ _ => t
  | .quadTransition t _ _ _ => t
  | .countPreset t _ _ _ => t
  | .compareArm t _ _ _ _ => t
  | .safcCycle t _ _ => t
  | .safetyInputChange t _ => t
  | .discrepancyTimeout t _ => t
  | .twohandSyncTimeout t _ => t
  | .safetyOscFault t _ => t
  | .safcAliveMissing t => t
  | .safcSelfTestFail t _ => t
  | .safhParityFail t => t
  | .sfoTestPulse t _ _ _ _ _ _ => t
  | .readbackMismatch t _ _ => t
  | .safetyOutputOverload t _ => t
  | .slUndervoltage t _ => t
  | .slRecovery t _ => t
  | .degradedExpiry t _ => t
  | .resetTaken t _ => t
  | .resetHeld t _ => t
  | .stagingWrite t _ _ => t
  | .safetyParamCheck t _ => t
  | .confirm t _ _ => t
  | .reqRefresh t _ _ => t
  | .reqLoss t _ => t
  | .supplySample t _ => t
  | .ceilingRise t => t
  | .grantDecision t => t
  | .supplyWarning t => t
  | .supplyRecovery t => t
  | .overvoltageDisconnect t => t
  | .supplyReconnect t => t
  | .recordWrite t _ _ => t
  | .optimeSave t => t
  | .shelfClr t _ _ => t
  | .snapTrig t _ => t
  | .supBootWrite t _ _ => t
  | .changeCheckDone t => t
  | .frontEndRelock t _ => t
  | .canReceiveError t _ => t
  | .canIntegrationDone t _ => t
  | .rs485IdleWaitEnd t _ => t
  | .esFuseTrip t _ => t
  | .esFuseRetry t _ => t
  | .ptpAnnounceSend t => t
  | .ptpDelayReqSend t _ => t
  | .ptpAnnounceReceiptTimeout t _ => t

end Sys2Proof
end

