-- ==== Sys2Proof/Laws/PerInstr.lean ====
section
/-! SUPPORT. The statements made per command: a family F has Sys2Proof.Laws.F.Statement and one lemma for each constructor. -/

namespace Sys2Proof.Laws

namespace UpsetsInSpace

/-- A well-formed command comes with upsets that strike memory that exists (R16, R21). -/
def Statement (i : Instr) : Prop := i.wf = true → ∀ u, u ∈ i.time.upsets → u.addr < 0x160010000

/-- What the time of a command says of its upsets. -/
theorem of_time (t : At) (h : t.ok = true) : ∀ u, u ∈ t.upsets → u.addr < 0x160010000 := by
  intro u hu
  have := List.all_eq_true.mp h u hu
  exact of_decide_eq_true this

/-- The first of two checks that hold. -/
theorem left_of_and {a b : Bool} (h : (a && b) = true) : a = true := by cases a <;> simp_all

/-- What holds of the time of every well-formed command. -/
theorem all (i : Instr) : Statement i := by
  intro h
  apply of_time
  cases i <;> first
    | exact h
    | exact left_of_and h
    | exact left_of_and (left_of_and h)
    | exact left_of_and (left_of_and (left_of_and h))
    | exact left_of_and (left_of_and (left_of_and (left_of_and h)))

theorem powerOn (t : At) (strapA strapB : Option Nat) : Statement (.powerOn t strapA strapB) := all _
theorem bootComplete (t : At) : Statement (.bootComplete t) := all _
theorem ringSearchDone (t : At) : Statement (.ringSearchDone t) := all _
theorem commandedReset (t : At) (acc : Accessor) (value : Word) (strapA strapB : Option Nat) : Statement (.commandedReset t acc value strapA strapB) := all _
theorem goReady (t : At) (acc : Accessor) : Statement (.goReady t acc) := all _
theorem goRun (t : At) (acc : Accessor) : Statement (.goRun t acc) := all _
theorem stop (t : At) (acc : Accessor) : Statement (.stop t acc) := all _
theorem goConfig (t : At) (acc : Accessor) : Statement (.goConfig t acc) := all _
theorem goService (t : At) (acc : Accessor) : Statement (.goService t acc) := all _
theorem saveCfg (t : At) (acc : Accessor) (windows : List (Nat × Nat × Nat)) (ok : Bool) : Statement (.saveCfg t acc windows ok) := all _
theorem stateTransition (t : At) : Statement (.stateTransition t) := all _
theorem holdupExhausted (t : At) : Statement (.holdupExhausted t) := all _
theorem supFetchFault (t : At) : Statement (.supFetchFault t) := all _
theorem registerWrite (t : At) (acc : Accessor) (addr width : Nat) (value : Word) : Statement (.registerWrite t acc addr width value) := all _
theorem islandAccessTimeout (t : At) (acc : Accessor) (read : Bool) : Statement (.islandAccessTimeout t acc read) := all _
theorem memoryAccess (t : At) (acc : Accessor) (addr len : Nat) (data : Option (List Byte)) : Statement (.memoryAccess t acc addr len data) := all _
theorem softReset (t : At) (acc : Accessor) (page : Fin 86) (value : Word) : Statement (.softReset t acc page value) := all _
theorem freeze (t : At) (acc : Accessor) (page : Fin 86) (on : Bool) : Statement (.freeze t acc page on) := all _
theorem pageErrClr (t : At) (acc : Accessor) (page : Fin 86) (same : Option Nat) : Statement (.pageErrClr t acc page same) := all _
theorem handshakeTimeout (t : At) (page : Fin 86) (consumer : Option (Fin 86)) : Statement (.handshakeTimeout t page consumer) := all _
theorem pllLockLoss (t : At) (island : Fin 12) : Statement (.pllLockLoss t island) := all _
theorem referenceLoss (t : At) : Statement (.referenceLoss t) := all _
theorem firkinPush (t : At) (unit : Nat) (firkin : Fin 64) (value : Word) (poisoned : Bool) : Statement (.firkinPush t unit firkin value poisoned) := all _
theorem firkinPushEnd (t : At) (unit : Nat) (firkin : Fin 64) (value : Word) (poisoned : Bool) : Statement (.firkinPushEnd t unit firkin value poisoned) := all _
theorem firkinPop (t : At) (unit : Nat) (firkin : Fin 64) (upset : BitVec 4) : Statement (.firkinPop t unit firkin upset) := all _
theorem firkinFlushRequest (t : At) (acc : Accessor) (half : Fin 2) (value : Word) : Statement (.firkinFlushRequest t acc half value) := all _
theorem firkinFlushEffect (t : At) (firkin : Fin 64) : Statement (.firkinFlushEffect t firkin) := all _
theorem firkinDisable (t : At) (acc : Accessor) (value : Word) : Statement (.firkinDisable t acc value) := all _
theorem fathomStart (t : At) : Statement (.fathomStart t) := all _
theorem spanCompletion (t : At) (idx : Nat) (result : Bool) : Statement (.spanCompletion t idx result) := all _
theorem spanDeadline (t : At) (idx : Nat) : Statement (.spanDeadline t idx) := all _
theorem spanStore (t : At) (acc : Accessor) (value : Word) : Statement (.spanStore t acc value) := all _
theorem shadowCountWrite (t : At) (acc : Accessor) (value : Word) : Statement (.shadowCountWrite t acc value) := all _
theorem swapRequest (t : At) (acc : Accessor) : Statement (.swapRequest t acc) := all _
theorem furlongSwap (t : At) : Statement (.furlongSwap t) := all _
theorem pubSelWrite (t : At) (acc : Accessor) (value : Word) : Statement (.pubSelWrite t acc value) := all _
theorem latch (t : At) (idx : Nat) (lines : BitVec 24) : Statement (.latch t idx lines) := all _
theorem sampleArrival (t : At) (unit sel : Nat) (stamp val : Int) : Statement (.sampleArrival t unit sel stamp val) := all _
theorem resample (t : At) (idx : Nat) : Statement (.resample t idx) := all _
theorem coefDataWrite (t : At) (acc : Accessor) (value : Word) : Statement (.coefDataWrite t acc value) := all _
theorem estimate (t : At) (idx : Nat) : Statement (.estimate t idx) := all _
theorem admitObs (t : At) (acc : Accessor) : Statement (.admitObs t acc) := all _
theorem withdraw (t : At) (acc : Accessor) : Statement (.withdraw t acc) := all _
theorem reinit (t : At) (acc : Accessor) : Statement (.reinit t acc) := all _
theorem pointDatagram (t : At) (src dport : Nat) (frag : Bool) (data : List Byte) : Statement (.pointDatagram t src dport frag data) := all _
theorem binning (t : At) : Statement (.binning t) := all _
theorem update (t : At) (idx : Nat) : Statement (.update t idx) := all _
theorem updateFinalWrite (t : At) (idx : Nat) : Statement (.updateFinalWrite t idx) := all _
theorem seed (t : At) (acc : Accessor) : Statement (.seed t acc) := all _
theorem antennaOpen (t : At) (bank : Fin 2) (mA : Nat) : Statement (.antennaOpen t bank mA) := all _
theorem antennaShort (t : At) (bank : Fin 2) (held : Bool) : Statement (.antennaShort t bank held) := all _
theorem antennaSupplyRetry (t : At) (bank : Fin 2) : Statement (.antennaSupplyRetry t bank) := all _
theorem frontEndUnlock (t : At) (bank : Fin 2) : Statement (.frontEndUnlock t bank) := all _
theorem codeEpoch (t : At) (bank : Fin 2) (chan : Fin 24) (dump : List Word) (served : Bool) : Statement (.codeEpoch t bank chan dump served) := all _
theorem acqTimeout (t : At) (bank : Fin 2) (chan : Fin 24) : Statement (.acqTimeout t bank chan) := all _
theorem pullinTimeout (t : At) (bank : Fin 2) (chan : Fin 24) : Statement (.pullinTimeout t bank chan) := all _
theorem measurementLatch (t : At) (phases : List (Nat × Nat × Word × Word)) : Statement (.measurementLatch t phases) := all _
theorem pvt (t : At) (idx : Nat) : Statement (.pvt t idx) := all _
theorem ppsPulse (t : At) : Statement (.ppsPulse t) := all _
theorem ppsPulseEnd (t : At) : Statement (.ppsPulseEnd t) := all _
theorem snapshotStart (t : At) (acc : Accessor) : Statement (.snapshotStart t acc) := all _
theorem snapcap (t : At) (idx : Nat) : Statement (.snapcap t idx) := all _
theorem snapshotCaptureEnd (t : At) (samples : List Byte) : Statement (.snapshotCaptureEnd t samples) := all _
theorem gnssExport (t : At) (acc : Accessor) : Statement (.gnssExport t acc) := all _
theorem snapshotExportEnd (t : At) (packets : Nat) : Statement (.snapshotExportEnd t packets) := all _
theorem process (t : At) (acc : Accessor) : Statement (.process t acc) := all _
theorem snapshotFixDone (t : At) : Statement (.snapshotFixDone t) := all _
theorem loops (t : At) (idx : Nat) : Statement (.loops t idx) := all _
theorem instanceWindowWrite (t : At) (acc : Accessor) (engine : Fin 2) (value : Word) : Statement (.instanceWindowWrite t acc engine value) := all _
theorem swap (t : At) (acc : Accessor) (engine : Fin 2) : Statement (.swap t acc engine) := all _
theorem swapAll (t : At) (acc : Accessor) (engine : Fin 2) : Statement (.swapAll t acc engine) := all _
theorem assemble (t : At) (idx : Nat) : Statement (.assemble t idx) := all _
theorem alcParamWrite (t : At) (acc : Accessor) (value : Word) : Statement (.alcParamWrite t acc value) := all _
theorem alcSwap (t : At) (acc : Accessor) : Statement (.alcSwap t acc) := all _
theorem allocate (t : At) (idx : Nat) : Statement (.allocate t idx) := all _
theorem imageWindowWrite (t : At) (acc : Accessor) (value : Word) : Statement (.imageWindowWrite t acc value) := all _
theorem imageSwap (t : At) (acc : Accessor) : Statement (.imageSwap t acc) := all _
theorem cold (t : At) (acc : Accessor) : Statement (.cold t acc) := all _
theorem sol1MemWrite (t : At) (acc : Accessor) (value : Word) : Statement (.sol1MemWrite t acc value) := all _
theorem taskInputCopyDone (t : At) (task : Fin 48) : Statement (.taskInputCopyDone t task) := all _
theorem taskCycleEnd (t : At) (task : Fin 48) (writes : List (Nat × Byte)) : Statement (.taskCycleEnd t task writes) := all _
theorem taskRuntimeError (t : At) (task : Fin 48) (kind : Nat) : Statement (.taskRuntimeError t task kind) := all _
theorem taskFetchFault (t : At) (task : Fin 48) : Statement (.taskFetchFault t task) := all _
theorem stopTask (t : At) (acc : Accessor) : Statement (.stopTask t acc) := all _
theorem startTask (t : At) (acc : Accessor) : Statement (.startTask t acc) := all _
theorem clrTaskStats (t : At) (acc : Accessor) : Statement (.clrTaskStats t acc) := all _
theorem retainSavePeriod (t : At) : Statement (.retainSavePeriod t) := all _
theorem save (t : At) (acc : Accessor) : Statement (.save t acc) := all _
theorem retainSaveDone (t : At) (ok : Bool) : Statement (.retainSaveDone t ok) := all _
theorem forceCommit (t : At) (acc : Accessor) (value : Word) : Statement (.forceCommit t acc value) := all _
theorem check (t : At) (acc : Accessor) : Statement (.check t acc) := all _
theorem change (t : At) (acc : Accessor) : Statement (.change t acc) := all _
theorem abort (t : At) (acc : Accessor) : Statement (.abort t acc) := all _
theorem changePoint (t : At) : Statement (.changePoint t) := all _
theorem changeWaitExpiry (t : At) : Statement (.changeWaitExpiry t) := all _
theorem heartbeat (t : At) (idx : Nat) : Statement (.heartbeat t idx) := all _
theorem mirror (t : At) (idx : Nat) : Statement (.mirror t idx) := all _
theorem judgment (t : At) : Statement (.judgment t) := all _
theorem heartbeatReceive (t : At) (port : Fin 2) (frame : List Byte) : Statement (.heartbeatReceive t port frame) := all _
theorem verdictReceive (t : At) (port : Fin 2) (frame : List Byte) : Statement (.verdictReceive t port frame) := all _
theorem pubReceive (t : At) (port : Fin 2) (frame : List Byte) : Statement (.pubReceive t port frame) := all _
theorem outputReceive (t : At) (port : Fin 2) (frame : List Byte) : Statement (.outputReceive t port frame) := all _
theorem inputReceive (t : At) (port : Fin 2) (frame : List Byte) : Statement (.inputReceive t port frame) := all _
theorem sampleReceive (t : At) (port : Fin 2) (frame : List Byte) : Statement (.sampleReceive t port frame) := all _
theorem datagramReceive (t : At) (port : Fin 2) (frame : List Byte) : Statement (.datagramReceive t port frame) := all _
theorem stateReceive (t : At) (port : Fin 2) (frame : List Byte) : Statement (.stateReceive t port frame) := all _
theorem opReceive (t : At) (port : Fin 2) (frame : List Byte) : Statement (.opReceive t port frame) := all _
theorem ackReceive (t : At) (port : Fin 2) (frame : List Byte) : Statement (.ackReceive t port frame) := all _
theorem sampleTick (t : At) : Statement (.sampleTick t) := all _
theorem mirrorPublication (t : At) : Statement (.mirrorPublication t) := all _
theorem go (t : At) (acc : Accessor) : Statement (.go t acc) := all _
theorem chainOpTimeout (t : At) : Statement (.chainOpTimeout t) := all _
theorem clr (t : At) (acc : Accessor) : Statement (.clr t acc) := all _
theorem rejoin (t : At) (acc : Accessor) : Statement (.rejoin t acc) := all _
theorem ptpSyncReceive (t : At) (port : Fin 4) (frame : List Byte) : Statement (.ptpSyncReceive t port frame) := all _
theorem ptpAnnounceReceive (t : At) (port : Fin 4) (frame : List Byte) : Statement (.ptpAnnounceReceive t port frame) := all _
theorem ptpDelayExchange (t : At) (port : Fin 4) (turnNs : Nat) (frame : List Byte) : Statement (.ptpDelayExchange t port turnNs frame) := all _
theorem ptpTransparentForward (t : At) (port : Fin 2) (residenceNs : Nat) (frame : List Byte) : Statement (.ptpTransparentForward t port residenceNs frame) := all _
theorem ptpSyncSend (t : At) : Statement (.ptpSyncSend t) := all _
theorem ppsInEdge (t : At) : Statement (.ppsInEdge t) := all _
theorem sourceLapse (t : At) (source : Fin 4) : Statement (.sourceLapse t source) := all _
theorem primaryReselect (t : At) : Statement (.primaryReselect t) := all _
theorem timeStep (t : At) (lines : BitVec 24) : Statement (.timeStep t lines) := all _
theorem timeMatchArm (t : At) (acc : Accessor) (value : Word) (lines : BitVec 24) : Statement (.timeMatchArm t acc value lines) := all _
theorem timeMatchFire (t : At) (lines : BitVec 24) : Statement (.timeMatchFire t lines) := all _
theorem trigOutEnd (t : At) : Statement (.trigOutEnd t) := all _
theorem trigInEdge (t : At) : Statement (.trigInEdge t) := all _
theorem linkDown (t : At) (port : Fin 4) : Statement (.linkDown t port) := all _
theorem linkUp (t : At) (port : Fin 4) (speed : Nat) (half : Bool) : Statement (.linkUp t port speed half) := all _
theorem prpFrameReceive (t : At) (lan : Fin 2) (frame : List Byte) : Statement (.prpFrameReceive t lan frame) := all _
theorem prpSupervisionSend (t : At) : Statement (.prpSupervisionSend t) := all _
theorem prpLanLoss (t : At) (lan : Fin 2) : Statement (.prpLanLoss t lan) := all _
theorem arpIcmpRequest (t : At) (frame : List Byte) : Statement (.arpIcmpRequest t frame) := all _
theorem udpbcDatagram (t : At) (group port : Nat) (data : List Byte) : Statement (.udpbcDatagram t group port data) := all _
theorem hello (t : At) (frame : List Byte) : Statement (.hello t frame) := all _
theorem read (t : At) (within : Nat) (frame : List Byte) : Statement (.read t within frame) := all _
theorem write (t : At) (within : Nat) (frame : List Byte) : Statement (.write t within frame) := all _
theorem close (t : At) (frame : List Byte) : Statement (.close t frame) := all _
theorem keySet (t : At) (ok : Bool) (frame : List Byte) : Statement (.keySet t ok frame) := all _
theorem transferOpen (t : At) (frame : List Byte) : Statement (.transferOpen t frame) := all _
theorem transferData (t : At) (ok : Bool) (frame : List Byte) : Statement (.transferData t ok frame) := all _
theorem transferCommit (t : At) (frame : List Byte) : Statement (.transferCommit t frame) := all _
theorem transferRead (t : At) (frame : List Byte) : Statement (.transferRead t frame) := all _
theorem transferClose (t : At) (frame : List Byte) : Statement (.transferClose t frame) := all _
theorem sessionTimeout (t : At) (session : Nat) : Statement (.sessionTimeout t session) := all _
theorem sendSet (t : At) (idx : Nat) (wire : Option (Fin 64)) : Statement (.sendSet t idx wire) := all _
theorem canTxPacketLoad (t : At) (bus : Fin 4) (firkin : Fin 64) (wire : Option (Fin 64)) : Statement (.canTxPacketLoad t bus firkin wire) := all _
theorem canTransmitEnd (t : At) (bus : Fin 4) (obj : Fin 64) (outcome tdcv : Nat) : Statement (.canTransmitEnd t bus obj outcome tdcv) := all _
theorem canFrameReceive (t : At) (bus : Fin 4) (rx : CanWire) : Statement (.canFrameReceive t bus rx) := all _
theorem recover (t : At) (acc : Accessor) (bus : Fin 4) : Statement (.recover t acc bus) := all _
theorem busoffRecoveryEnd (t : At) (bus : Fin 4) : Statement (.busoffRecoveryEnd t bus) := all _
theorem sleep (t : At) (acc : Accessor) (bus : Fin 4) : Statement (.sleep t acc bus) := all _
theorem sleepEnter (t : At) (bus : Fin 4) : Statement (.sleepEnter t bus) := all _
theorem wakeWrite (t : At) (acc : Accessor) (bus : Fin 4) : Statement (.wakeWrite t acc bus) := all _
theorem busWake (t : At) (bus : Fin 4) (rx : Option CanWire) : Statement (.busWake t bus rx) := all _
theorem fieldRefresh (t : At) (group : Fin 12) (good : Bool) (raw back : BitVec 16) (volts : List Nat) (lplus : Nat) : Statement (.fieldRefresh t group good raw back volts lplus) := all _
theorem logicSideSilent (t : At) (group : Fin 12) : Statement (.logicSideSilent t group) := all _
theorem groupSideHold (t : At) (group : Fin 12) : Statement (.groupSideHold t group) := all _
theorem holdExpiry (t : At) (group : Fin 12) : Statement (.holdExpiry t group) := all _
theorem outputOverload (t : At) (group : Fin 12) (chan : Fin 16) : Statement (.outputOverload t group chan) := all _
theorem openLoad (t : At) (group : Fin 12) (chan : Fin 16) : Statement (.openLoad t group chan) := all _
theorem inrushGrantExpiry (t : At) (group : Fin 12) (chan : Fin 16) : Statement (.inrushGrantExpiry t group chan) := all _
theorem outSet (t : At) (acc : Accessor) (group : Fin 12) (value : Word) : Statement (.outSet t acc group value) := all _
theorem outClr (t : At) (acc : Accessor) (group : Fin 12) (value : Word) : Statement (.outClr t acc group value) := all _
theorem sentenceReceive (t : At) (port : Fin 12) (bad : Bool) (ageNs : Nat) (chars : List Byte) : Statement (.sentenceReceive t port bad ageNs chars) := all _
theorem serialTxPacket (t : At) (port : Fin 12) (firkin : Fin 64) : Statement (.serialTxPacket t port firkin) := all _
theorem serialTxDone (t : At) (port : Fin 12) (collision : Bool) : Statement (.serialTxDone t port collision) := all _
theorem request (t : At) (idx : Nat) (line : Bool) : Statement (.request t idx line) := all _
theorem ssiReqWrite (t : At) (acc : Accessor) (chan : Fin 24) (line : Bool) : Statement (.ssiReqWrite t acc chan line) := all _
theorem ssiFrameEnd (t : At) (chan : Fin 24) (word : Nat) (high : Bool) : Statement (.ssiFrameEnd t chan word high) := all _
theorem quadTransition (t : At) (chan : Fin 24) (a b : Bool) : Statement (.quadTransition t chan a b) := all _
theorem countPreset (t : At) (acc : Accessor) (chan : Fin 24) (value : Word) : Statement (.countPreset t acc chan value) := all _
theorem compareArm (t : At) (acc : Accessor) (chan : Fin 24) (cfg : Bool) (value : Word) : Statement (.compareArm t acc chan cfg value) := all _
theorem safcCycle (t : At) (raw : BitVec 32) (work : Nat) : Statement (.safcCycle t raw work) := all _
theorem safetyInputChange (t : At) (raw : BitVec 32) : Statement (.safetyInputChange t raw) := all _
theorem discrepancyTimeout (t : At) (inst : Fin 16) : Statement (.discrepancyTimeout t inst) := all _
theorem twohandSyncTimeout (t : At) (inst : Fin 16) : Statement (.twohandSyncTimeout t inst) := all _
theorem safetyOscFault (t : At) (khz : Nat) : Statement (.safetyOscFault t khz) := all _
theorem safcAliveMissing (t : At) : Statement (.safcAliveMissing t) := all _
theorem safcSelfTestFail (t : At) (block : Bool) : Statement (.safcSelfTestFail t block) := all _
theorem safhParityFail (t : At) : Statement (.safhParityFail t) := all _
theorem sfoTestPulse (t : At) (out : Fin 8) (low : Bool) (vp vm sl mA : Nat) : Statement (.sfoTestPulse t out low vp vm sl mA) := all _
theorem readbackMismatch (t : At) (out : Fin 8) (low : Bool) : Statement (.readbackMismatch t out low) := all _
theorem safetyOutputOverload (t : At) (out : Fin 8) : Statement (.safetyOutputOverload t out) := all _
theorem slUndervoltage (t : At) (sl : Nat) : Statement (.slUndervoltage t sl) := all _
theorem slRecovery (t : At) (sl : Nat) : Statement (.slRecovery t sl) := all _
theorem degradedExpiry (t : At) (inst : Fin 16) : Statement (.degradedExpiry t inst) := all _
theorem resetTaken (t : At) (input : Fin 32) : Statement (.resetTaken t input) := all _
theorem resetHeld (t : At) (input : Fin 32) : Statement (.resetHeld t input) := all _
theorem stagingWrite (t : At) (acc : Accessor) (value : Word) : Statement (.stagingWrite t acc value) := all _
theorem safetyParamCheck (t : At) (acc : Accessor) : Statement (.safetyParamCheck t acc) := all _
theorem confirm (t : At) (acc : Accessor) (value : Word) : Statement (.confirm t acc value) := all _
theorem reqRefresh (t : At) (toC toH : Bool) : Statement (.reqRefresh t toC toH) := all _
theorem reqLoss (t : At) (safc : Bool) : Statement (.reqLoss t safc) := all _
theorem supplySample (t : At) (mV : Nat) : Statement (.supplySample t mV) := all _
theorem ceilingRise (t : At) : Statement (.ceilingRise t) := all _
theorem grantDecision (t : At) : Statement (.grantDecision t) := all _
theorem supplyWarning (t : At) : Statement (.supplyWarning t) := all _
theorem supplyRecovery (t : At) : Statement (.supplyRecovery t) := all _
theorem overvoltageDisconnect (t : At) : Statement (.overvoltageDisconnect t) := all _
theorem supplyReconnect (t : At) : Statement (.supplyReconnect t) := all _
theorem recordWrite (t : At) (ring shelf : Bool) : Statement (.recordWrite t ring shelf) := all _
theorem optimeSave (t : At) : Statement (.optimeSave t) := all _
theorem shelfClr (t : At) (acc : Accessor) (ok : Bool) : Statement (.shelfClr t acc ok) := all _
theorem snapTrig (t : At) (acc : Accessor) : Statement (.snapTrig t acc) := all _
theorem supBootWrite (t : At) (acc : Accessor) (value : Word) : Statement (.supBootWrite t acc value) := all _
theorem changeCheckDone (t : At) : Statement (.changeCheckDone t) := all _
theorem frontEndRelock (t : At) (bank : Fin 2) : Statement (.frontEndRelock t bank) := all _
theorem canReceiveError (t : At) (bus : Fin 4) : Statement (.canReceiveError t bus) := all _
theorem canIntegrationDone (t : At) (bus : Fin 4) : Statement (.canIntegrationDone t bus) := all _
theorem rs485IdleWaitEnd (t : At) (port : Fin 12) : Statement (.rs485IdleWaitEnd t port) := all _
theorem esFuseTrip (t : At) (out : Fin 4) : Statement (.esFuseTrip t out) := all _
theorem esFuseRetry (t : At) (out : Fin 4) : Statement (.esFuseRetry t out) := all _
theorem ptpAnnounceSend (t : At) : Statement (.ptpAnnounceSend t) := all _
theorem ptpDelayReqSend (t : At) (port : Fin 4) : Statement (.ptpDelayReqSend t port) := all _
theorem ptpAnnounceReceiptTimeout (t : At) (port : Fin 4) : Statement (.ptpAnnounceReceiptTimeout t port) := all _

end UpsetsInSpace

end Sys2Proof.Laws
end

