-- ==== Sys2Proof/Laws/Starts.lean ====
section
/-! SUPPORT. What the START of a span leaves: the answer of the unit's work, the run of SEQ, and nothing else outside the shell. -/

namespace Sys2Proof.Machine

/-- A START that is taken, of a unit whose work answers r: SEQ, the free value drawn, the bytes stored, and the shell. -/
theorem startSpan_answers {U : Type} {s : State} {idx : Nat} {x : Span} (h : s.Starts idx x) (ok : Span → Bool) (hok : ok x = true)
    (put : U → State → State)
    (hput : ∀ u z, (put u z).seq = z.seq ∧ (put u z).tim = z.tim ∧ (put u z).mem = z.mem ∧ (put u z).free = z.free)
    (F : Span → SpanIn → State → R U) :
    let t := s.startSpan idx ok false (fun x i z => z.ran put (F x i z))
    s.Answered t idx x (F x (s.handed idx x) (s.begun idx)) ∧
      t.shell = { (put (F x (s.handed idx x) (s.begun idx)).w.u (s.begun idx)).shell with seq := t.seq } := by
  have e := startSpan_ran h ok hok put (fun u z => ⟨(hput u z).1, (hput u z).2.1⟩) F
  generalize F x (s.handed idx x) (s.begun idx) = r at e ⊢
  have p := hput r.w.u (s.begun idx)
  generalize put r.w.u (s.begun idx) = y at e p ⊢
  have f1 : (y.commit r.w.fx r.w.st).free = s.free + 1 := (commit_free _ _ y).trans p.2.2.2
  have f2 : ∀ b, (y.commit r.w.fx r.w.st).mem.byte b = (s.mem.stores r.w.st).byte b := fun b => by
    have q : y.mem = s.mem := p.2.2.1
    rw [bytes_commit, q]
  have f3 : (y.commit r.w.fx r.w.st).shell = y.shell := shell_commit r.w.fx r.w.st y
  generalize y.commit r.w.fx r.w.st = z at e f1 f2 f3
  intro t
  have et : t = { z with seq := s.seq.started idx x r.ok (if r.ok then none else some s.tick) } := e
  clear_value t
  subst et
  refine ⟨⟨rfl, f1, f2⟩, ?_⟩
  rw [← f3]
  rfl

end Sys2Proof.Machine
end

