-- ==== Sys2Proof/Laws/Work.lean ====
section
/-! SUPPORT. The bytes a unit's work leaves, and the code it leaves in a page's PAGE_ERR. -/

namespace Sys2Proof.Machine

/-- PAGE_ERR.CODE of a page after work whose last code of that page is c. -/
theorem errCode_commit (fx : Fx) (s : State) (q : Nat) (c : Code) (hq : q ≠ Pg.SNAP) (h1 : fx.reads = []) (h2 : fx.samples = [])
    (h3 : fx.pushes = []) (h4 : fx.triggers = []) (hc : ((sortCodes fx.codes).filter (fun c => c.page == q)).getLast? = some c) :
    (s.commit fx []).errCode q = c.code % 0x10000 := by
  unfold State.errCode State.pageErr
  rw [pageErr_commit fx s q hq h1 h2 h3 h4]
  obtain ⟨l, hl⟩ := List.getLast?_eq_some_iff.mp hc
  rw [hl, List.foldl_append]
  exact bits_errWord _ _

/-- PAGE_ERR.CODE of a page after work that records no code of that page. -/
theorem errCode_commit_other (fx : Fx) (s : State) (q : Nat) (hq : q ≠ Pg.SNAP) (h1 : fx.reads = []) (h2 : fx.samples = [])
    (h3 : fx.pushes = []) (h4 : fx.triggers = []) (hc : (sortCodes fx.codes).filter (fun c => c.page == q) = []) :
    (s.commit fx []).errCode q = s.errCode q := by
  unfold State.errCode State.pageErr
  rw [pageErr_commit fx s q hq h1 h2 h3 h4, hc]
  rfl

/-- PAGE_ERR.CODE after one code. -/
theorem errCode_code (page code : Nat) (payload : List Word) (s : State) (hp : page ≠ Pg.SNAP) :
    (s.code page code payload).errCode page = code % 0x10000 :=
  errCode_commit _ _ _ ⟨page, code, payload, false⟩ hp rfl rfl rfl rfl (by simp [sortCodes, insertCode])

/-- PAGE_ERR.CODE after one code that REC takes whatever its class. -/
theorem errCode_codeRec (page code : Nat) (payload : List Word) (s : State) (hp : page ≠ Pg.SNAP) :
    (s.codeRec page code payload).errCode page = code % 0x10000 :=
  errCode_commit _ _ _ ⟨page, code, payload, true⟩ hp rfl rfl rfl rfl (by simp [sortCodes, insertCode])

/-- The bytes after a code. -/
theorem byte_code (page code : Nat) (payload : List Word) (s : State) : s.SameBytes (s.code page code payload) :=
  fun x => byte_commit _ _ _ rfl rfl rfl x

/-- The bytes after Seq's work. -/
theorem byte_onSeq (f : Seq → W Seq) (s : State) (x : Nat) : (s.onSeq f).mem.byte x = (s.mem.stores (f s.seq).st).byte x :=
  bytes_commit _ _ _ x

/-- The code Seq's work leaves in a page. -/
theorem errCode_onSeq (f : Seq → W Seq) (s : State) (q : Nat) (c : Code) (hq : q ≠ Pg.SNAP) (hs : (f s.seq).st = [])
    (h1 : (f s.seq).fx.reads = []) (h2 : (f s.seq).fx.samples = []) (h3 : (f s.seq).fx.pushes = []) (h4 : (f s.seq).fx.triggers = [])
    (hc : ((sortCodes (f s.seq).fx.codes).filter (fun c => c.page == q)).getLast? = some c) :
    (s.onSeq f).errCode q = c.code % 0x10000 := by
  unfold State.onSeq
  dsimp only
  rw [hs]
  exact errCode_commit _ _ q c hq h1 h2 h3 h4 hc

/-- The bytes after Fq's work. -/
theorem byte_onFq (f : Fq → W Fq) (s : State) (x : Nat) : (s.onFq f).mem.byte x = (s.mem.stores (f s.fq).st).byte x :=
  bytes_commit _ _ _ x

/-- The code Fq's work leaves in a page. -/
theorem errCode_onFq (f : Fq → W Fq) (s : State) (q : Nat) (c : Code) (hq : q ≠ Pg.SNAP) (hs : (f s.fq).st = [])
    (h1 : (f s.fq).fx.reads = []) (h2 : (f s.fq).fx.samples = []) (h3 : (f s.fq).fx.pushes = []) (h4 : (f s.fq).fx.triggers = [])
    (hc : ((sortCodes (f s.fq).fx.codes).filter (fun c => c.page == q)).getLast? = some c) :
    (s.onFq f).errCode q = c.code % 0x10000 := by
  unfold State.onFq
  dsimp only
  rw [hs]
  exact errCode_commit _ _ q c hq h1 h2 h3 h4 hc

/-- The bytes after Flt's work. -/
theorem byte_onFlt (f : Flt → W Flt) (s : State) (x : Nat) : (s.onFlt f).mem.byte x = (s.mem.stores (f s.flt).st).byte x :=
  bytes_commit _ _ _ x

/-- The code Flt's work leaves in a page. -/
theorem errCode_onFlt (f : Flt → W Flt) (s : State) (q : Nat) (c : Code) (hq : q ≠ Pg.SNAP) (hs : (f s.flt).st = [])
    (h1 : (f s.flt).fx.reads = []) (h2 : (f s.flt).fx.samples = []) (h3 : (f s.flt).fx.pushes = []) (h4 : (f s.flt).fx.triggers = [])
    (hc : ((sortCodes (f s.flt).fx.codes).filter (fun c => c.page == q)).getLast? = some c) :
    (s.onFlt f).errCode q = c.code % 0x10000 := by
  unfold State.onFlt
  dsimp only
  rw [hs]
  exact errCode_commit _ _ q c hq h1 h2 h3 h4 hc

/-- The bytes after Prg's work. -/
theorem byte_onPrg (f : Prg → W Prg) (s : State) (x : Nat) : (s.onPrg f).mem.byte x = (s.mem.stores (f s.prg).st).byte x :=
  bytes_commit _ _ _ x

/-- The code Prg's work leaves in a page. -/
theorem errCode_onPrg (f : Prg → W Prg) (s : State) (q : Nat) (c : Code) (hq : q ≠ Pg.SNAP) (hs : (f s.prg).st = [])
    (h1 : (f s.prg).fx.reads = []) (h2 : (f s.prg).fx.samples = []) (h3 : (f s.prg).fx.pushes = []) (h4 : (f s.prg).fx.triggers = [])
    (hc : ((sortCodes (f s.prg).fx.codes).filter (fun c => c.page == q)).getLast? = some c) :
    (s.onPrg f).errCode q = c.code % 0x10000 := by
  unfold State.onPrg
  dsimp only
  rw [hs]
  exact errCode_commit _ _ q c hq h1 h2 h3 h4 hc

/-- The bytes after Est's work. -/
theorem byte_onEst (f : Est → W Est) (s : State) (x : Nat) : (s.onEst f).mem.byte x = (s.mem.stores (f s.est).st).byte x :=
  bytes_commit _ _ _ x

/-- The code Est's work leaves in a page. -/
theorem errCode_onEst (f : Est → W Est) (s : State) (q : Nat) (c : Code) (hq : q ≠ Pg.SNAP) (hs : (f s.est).st = [])
    (h1 : (f s.est).fx.reads = []) (h2 : (f s.est).fx.samples = []) (h3 : (f s.est).fx.pushes = []) (h4 : (f s.est).fx.triggers = [])
    (hc : ((sortCodes (f s.est).fx.codes).filter (fun c => c.page == q)).getLast? = some c) :
    (s.onEst f).errCode q = c.code % 0x10000 := by
  unfold State.onEst
  dsimp only
  rw [hs]
  exact errCode_commit _ _ q c hq h1 h2 h3 h4 hc

/-- The bytes after Fus's work. -/
theorem byte_onFus (f : Fus → W Fus) (s : State) (x : Nat) : (s.onFus f).mem.byte x = (s.mem.stores (f s.fus).st).byte x :=
  bytes_commit _ _ _ x

/-- The code Fus's work leaves in a page. -/
theorem errCode_onFus (f : Fus → W Fus) (s : State) (q : Nat) (c : Code) (hq : q ≠ Pg.SNAP) (hs : (f s.fus).st = [])
    (h1 : (f s.fus).fx.reads = []) (h2 : (f s.fus).fx.samples = []) (h3 : (f s.fus).fx.pushes = []) (h4 : (f s.fus).fx.triggers = [])
    (hc : ((sortCodes (f s.fus).fx.codes).filter (fun c => c.page == q)).getLast? = some c) :
    (s.onFus f).errCode q = c.code % 0x10000 := by
  unfold State.onFus
  dsimp only
  rw [hs]
  exact errCode_commit _ _ q c hq h1 h2 h3 h4 hc

/-- The bytes after Gns's work. -/
theorem byte_onGns (f : Gns → W Gns) (s : State) (x : Nat) : (s.onGns f).mem.byte x = (s.mem.stores (f s.gns).st).byte x :=
  bytes_commit _ _ _ x

/-- The code Gns's work leaves in a page. -/
theorem errCode_onGns (f : Gns → W Gns) (s : State) (q : Nat) (c : Code) (hq : q ≠ Pg.SNAP) (hs : (f s.gns).st = [])
    (h1 : (f s.gns).fx.reads = []) (h2 : (f s.gns).fx.samples = []) (h3 : (f s.gns).fx.pushes = []) (h4 : (f s.gns).fx.triggers = [])
    (hc : ((sortCodes (f s.gns).fx.codes).filter (fun c => c.page == q)).getLast? = some c) :
    (s.onGns f).errCode q = c.code % 0x10000 := by
  unfold State.onGns
  dsimp only
  rw [hs]
  exact errCode_commit _ _ q c hq h1 h2 h3 h4 hc

/-- The bytes after Ctl's work. -/
theorem byte_onCtl (f : Ctl → W Ctl) (s : State) (x : Nat) : (s.onCtl f).mem.byte x = (s.mem.stores (f s.ctl).st).byte x :=
  bytes_commit _ _ _ x

/-- The code Ctl's work leaves in a page. -/
theorem errCode_onCtl (f : Ctl → W Ctl) (s : State) (q : Nat) (c : Code) (hq : q ≠ Pg.SNAP) (hs : (f s.ctl).st = [])
    (h1 : (f s.ctl).fx.reads = []) (h2 : (f s.ctl).fx.samples = []) (h3 : (f s.ctl).fx.pushes = []) (h4 : (f s.ctl).fx.triggers = [])
    (hc : ((sortCodes (f s.ctl).fx.codes).filter (fun c => c.page == q)).getLast? = some c) :
    (s.onCtl f).errCode q = c.code % 0x10000 := by
  unfold State.onCtl
  dsimp only
  rw [hs]
  exact errCode_commit _ _ q c hq h1 h2 h3 h4 hc

/-- The bytes after Alc's work. -/
theorem byte_onAlc (f : Alc → W Alc) (s : State) (x : Nat) : (s.onAlc f).mem.byte x = (s.mem.stores (f s.alc).st).byte x :=
  bytes_commit _ _ _ x

/-- The code Alc's work leaves in a page. -/
theorem errCode_onAlc (f : Alc → W Alc) (s : State) (q : Nat) (c : Code) (hq : q ≠ Pg.SNAP) (hs : (f s.alc).st = [])
    (h1 : (f s.alc).fx.reads = []) (h2 : (f s.alc).fx.samples = []) (h3 : (f s.alc).fx.pushes = []) (h4 : (f s.alc).fx.triggers = [])
    (hc : ((sortCodes (f s.alc).fx.codes).filter (fun c => c.page == q)).getLast? = some c) :
    (s.onAlc f).errCode q = c.code % 0x10000 := by
  unfold State.onAlc
  dsimp only
  rw [hs]
  exact errCode_commit _ _ q c hq h1 h2 h3 h4 hc

/-- The bytes after Sol's work. -/
theorem byte_onSol (f : Sol → W Sol) (s : State) (x : Nat) : (s.onSol f).mem.byte x = (s.mem.stores (f s.sol).st).byte x :=
  bytes_commit _ _ _ x

/-- The code Sol's work leaves in a page. -/
theorem errCode_onSol (f : Sol → W Sol) (s : State) (q : Nat) (c : Code) (hq : q ≠ Pg.SNAP) (hs : (f s.sol).st = [])
    (h1 : (f s.sol).fx.reads = []) (h2 : (f s.sol).fx.samples = []) (h3 : (f s.sol).fx.pushes = []) (h4 : (f s.sol).fx.triggers = [])
    (hc : ((sortCodes (f s.sol).fx.codes).filter (fun c => c.page == q)).getLast? = some c) :
    (s.onSol f).errCode q = c.code % 0x10000 := by
  unfold State.onSol
  dsimp only
  rw [hs]
  exact errCode_commit _ _ q c hq h1 h2 h3 h4 hc

/-- The bytes after Chn's work. -/
theorem byte_onChn (f : Chn → W Chn) (s : State) (x : Nat) : (s.onChn f).mem.byte x = (s.mem.stores (f s.chn).st).byte x :=
  bytes_commit _ _ _ x

/-- The code Chn's work leaves in a page. -/
theorem errCode_onChn (f : Chn → W Chn) (s : State) (q : Nat) (c : Code) (hq : q ≠ Pg.SNAP) (hs : (f s.chn).st = [])
    (h1 : (f s.chn).fx.reads = []) (h2 : (f s.chn).fx.samples = []) (h3 : (f s.chn).fx.pushes = []) (h4 : (f s.chn).fx.triggers = [])
    (hc : ((sortCodes (f s.chn).fx.codes).filter (fun c => c.page == q)).getLast? = some c) :
    (s.onChn f).errCode q = c.code % 0x10000 := by
  unfold State.onChn
  dsimp only
  rw [hs]
  exact errCode_commit _ _ q c hq h1 h2 h3 h4 hc

/-- The bytes after Tim's work. -/
theorem byte_onTim (f : Tim → W Tim) (s : State) (x : Nat) : (s.onTim f).mem.byte x = (s.mem.stores (f s.tim).st).byte x :=
  bytes_commit _ _ _ x

/-- The code Tim's work leaves in a page. -/
theorem errCode_onTim (f : Tim → W Tim) (s : State) (q : Nat) (c : Code) (hq : q ≠ Pg.SNAP) (hs : (f s.tim).st = [])
    (h1 : (f s.tim).fx.reads = []) (h2 : (f s.tim).fx.samples = []) (h3 : (f s.tim).fx.pushes = []) (h4 : (f s.tim).fx.triggers = [])
    (hc : ((sortCodes (f s.tim).fx.codes).filter (fun c => c.page == q)).getLast? = some c) :
    (s.onTim f).errCode q = c.code % 0x10000 := by
  unfold State.onTim
  dsimp only
  rw [hs]
  exact errCode_commit _ _ q c hq h1 h2 h3 h4 hc

/-- The bytes after Ptp's work. -/
theorem byte_onPtp (f : Ptp → W Ptp) (s : State) (x : Nat) : (s.onPtp f).mem.byte x = (s.mem.stores (f s.ptp).st).byte x :=
  bytes_commit _ _ _ x

/-- The code Ptp's work leaves in a page. -/
theorem errCode_onPtp (f : Ptp → W Ptp) (s : State) (q : Nat) (c : Code) (hq : q ≠ Pg.SNAP) (hs : (f s.ptp).st = [])
    (h1 : (f s.ptp).fx.reads = []) (h2 : (f s.ptp).fx.samples = []) (h3 : (f s.ptp).fx.pushes = []) (h4 : (f s.ptp).fx.triggers = [])
    (hc : ((sortCodes (f s.ptp).fx.codes).filter (fun c => c.page == q)).getLast? = some c) :
    (s.onPtp f).errCode q = c.code % 0x10000 := by
  unfold State.onPtp
  dsimp only
  rw [hs]
  exact errCode_commit _ _ q c hq h1 h2 h3 h4 hc

/-- The bytes after Net's work. -/
theorem byte_onNet (f : Net → W Net) (s : State) (x : Nat) : (s.onNet f).mem.byte x = (s.mem.stores (f s.net).st).byte x :=
  bytes_commit _ _ _ x

/-- The code Net's work leaves in a page. -/
theorem errCode_onNet (f : Net → W Net) (s : State) (q : Nat) (c : Code) (hq : q ≠ Pg.SNAP) (hs : (f s.net).st = [])
    (h1 : (f s.net).fx.reads = []) (h2 : (f s.net).fx.samples = []) (h3 : (f s.net).fx.pushes = []) (h4 : (f s.net).fx.triggers = [])
    (hc : ((sortCodes (f s.net).fx.codes).filter (fun c => c.page == q)).getLast? = some c) :
    (s.onNet f).errCode q = c.code % 0x10000 := by
  unfold State.onNet
  dsimp only
  rw [hs]
  exact errCode_commit _ _ q c hq h1 h2 h3 h4 hc

/-- The bytes after Can's work. -/
theorem byte_onCan (f : Can → W Can) (s : State) (x : Nat) : (s.onCan f).mem.byte x = (s.mem.stores (f s.can).st).byte x :=
  bytes_commit _ _ _ x

/-- The code Can's work leaves in a page. -/
theorem errCode_onCan (f : Can → W Can) (s : State) (q : Nat) (c : Code) (hq : q ≠ Pg.SNAP) (hs : (f s.can).st = [])
    (h1 : (f s.can).fx.reads = []) (h2 : (f s.can).fx.samples = []) (h3 : (f s.can).fx.pushes = []) (h4 : (f s.can).fx.triggers = [])
    (hc : ((sortCodes (f s.can).fx.codes).filter (fun c => c.page == q)).getLast? = some c) :
    (s.onCan f).errCode q = c.code % 0x10000 := by
  unfold State.onCan
  dsimp only
  rw [hs]
  exact errCode_commit _ _ q c hq h1 h2 h3 h4 hc

/-- The bytes after Fio's work. -/
theorem byte_onFio (f : Fio → W Fio) (s : State) (x : Nat) : (s.onFio f).mem.byte x = (s.mem.stores (f s.fio).st).byte x :=
  bytes_commit _ _ _ x

/-- The code Fio's work leaves in a page. -/
theorem errCode_onFio (f : Fio → W Fio) (s : State) (q : Nat) (c : Code) (hq : q ≠ Pg.SNAP) (hs : (f s.fio).st = [])
    (h1 : (f s.fio).fx.reads = []) (h2 : (f s.fio).fx.samples = []) (h3 : (f s.fio).fx.pushes = []) (h4 : (f s.fio).fx.triggers = [])
    (hc : ((sortCodes (f s.fio).fx.codes).filter (fun c => c.page == q)).getLast? = some c) :
    (s.onFio f).errCode q = c.code % 0x10000 := by
  unfold State.onFio
  dsimp only
  rw [hs]
  exact errCode_commit _ _ q c hq h1 h2 h3 h4 hc

/-- The bytes after Ser's work. -/
theorem byte_onSer (f : Ser → W Ser) (s : State) (x : Nat) : (s.onSer f).mem.byte x = (s.mem.stores (f s.ser).st).byte x :=
  bytes_commit _ _ _ x

/-- The code Ser's work leaves in a page. -/
theorem errCode_onSer (f : Ser → W Ser) (s : State) (q : Nat) (c : Code) (hq : q ≠ Pg.SNAP) (hs : (f s.ser).st = [])
    (h1 : (f s.ser).fx.reads = []) (h2 : (f s.ser).fx.samples = []) (h3 : (f s.ser).fx.pushes = []) (h4 : (f s.ser).fx.triggers = [])
    (hc : ((sortCodes (f s.ser).fx.codes).filter (fun c => c.page == q)).getLast? = some c) :
    (s.onSer f).errCode q = c.code % 0x10000 := by
  unfold State.onSer
  dsimp only
  rw [hs]
  exact errCode_commit _ _ q c hq h1 h2 h3 h4 hc

/-- The bytes after Pos's work. -/
theorem byte_onPos (f : Pos → W Pos) (s : State) (x : Nat) : (s.onPos f).mem.byte x = (s.mem.stores (f s.pos).st).byte x :=
  bytes_commit _ _ _ x

/-- The code Pos's work leaves in a page. -/
theorem errCode_onPos (f : Pos → W Pos) (s : State) (q : Nat) (c : Code) (hq : q ≠ Pg.SNAP) (hs : (f s.pos).st = [])
    (h1 : (f s.pos).fx.reads = []) (h2 : (f s.pos).fx.samples = []) (h3 : (f s.pos).fx.pushes = []) (h4 : (f s.pos).fx.triggers = [])
    (hc : ((sortCodes (f s.pos).fx.codes).filter (fun c => c.page == q)).getLast? = some c) :
    (s.onPos f).errCode q = c.code % 0x10000 := by
  unfold State.onPos
  dsimp only
  rw [hs]
  exact errCode_commit _ _ q c hq h1 h2 h3 h4 hc

/-- The bytes after Saf's work. -/
theorem byte_onSaf (f : Saf → W Saf) (s : State) (x : Nat) : (s.onSaf f).mem.byte x = (s.mem.stores (f s.saf).st).byte x :=
  bytes_commit _ _ _ x

/-- The code Saf's work leaves in a page. -/
theorem errCode_onSaf (f : Saf → W Saf) (s : State) (q : Nat) (c : Code) (hq : q ≠ Pg.SNAP) (hs : (f s.saf).st = [])
    (h1 : (f s.saf).fx.reads = []) (h2 : (f s.saf).fx.samples = []) (h3 : (f s.saf).fx.pushes = []) (h4 : (f s.saf).fx.triggers = [])
    (hc : ((sortCodes (f s.saf).fx.codes).filter (fun c => c.page == q)).getLast? = some c) :
    (s.onSaf f).errCode q = c.code % 0x10000 := by
  unfold State.onSaf
  dsimp only
  rw [hs]
  exact errCode_commit _ _ q c hq h1 h2 h3 h4 hc

/-- The bytes after Nvs's work. -/
theorem byte_onNvs (f : Nvs → W Nvs) (s : State) (x : Nat) : (s.onNvs f).mem.byte x = (s.mem.stores (f s.nvs).st).byte x :=
  bytes_commit _ _ _ x

/-- The code Nvs's work leaves in a page. -/
theorem errCode_onNvs (f : Nvs → W Nvs) (s : State) (q : Nat) (c : Code) (hq : q ≠ Pg.SNAP) (hs : (f s.nvs).st = [])
    (h1 : (f s.nvs).fx.reads = []) (h2 : (f s.nvs).fx.samples = []) (h3 : (f s.nvs).fx.pushes = []) (h4 : (f s.nvs).fx.triggers = [])
    (hc : ((sortCodes (f s.nvs).fx.codes).filter (fun c => c.page == q)).getLast? = some c) :
    (s.onNvs f).errCode q = c.code % 0x10000 := by
  unfold State.onNvs
  dsimp only
  rw [hs]
  exact errCode_commit _ _ q c hq h1 h2 h3 h4 hc

end Sys2Proof.Machine
end

