-- ==== Sys2Proof/Tests/Slice0.lean ====
section
/-! SUPPORT. Witnesses of the statements, the smoke test of WellFormed, and worked examples. -/

namespace Sys2Proof.Tests

open Sys2Proof Sys2Proof.Machine

set_option Elab.async false

/-! ## Small states -/

/-- The moment 0, with no upset. -/
def t0 : At := ⟨0, []⟩

/-- The state after reset, brought into a module state. -/
def inMode (m : Mode) : State := { State.reset with mode := m }

/-- A register cell at a value, in the page its key names. -/
def poke (k : Nat) (v : Word) (s : State) : State :=
  let page := k % 0x20000 / 0x400
  s.setCells page (rset (s.cells page) k v)

/-- RUN, a fathom past its length. -/
def fathomOver : State := { inMode .run with seq := { Seq.fresh with count := 4, counted := true, startUs := -5000, settle := false }
                                             sup := { Sup.fresh 0 with reqUs := -6000 } }

/-- A feature accepted by a successful negotiation. -/
def accepted (k : Nat) (s : State) : State :=
  poke (Reg.FEAT_ACCEPT0 + 4 * (k / 32)) (wd (2 ^ (k % 32))) (poke Reg.FEAT_STATUS 1#32 s)

/-- CONFIG, with EST, SOL0 and ALC disabled, one span that is not enabled, and what the check list asks of the rest: it passes. -/
def ranked : State :=
  poke Reg.PRP_IP 0x0A000001#32 (accepted 0
    { inMode .config with
      seq := { Seq.fresh with active := 1 }
      hdr := [(cellKey Pg.EST 8 0, 0#32), (cellKey Pg.SOL0 8 0, 0#32), (cellKey Pg.ALC 8 0, 0#32)] })

/-- RUN in fathom 4, with one span in bank A: enabled, START 0, deadline 10. -/
def spanState (unit op srcLen dstLen : Nat) : State :=
  { inMode .run with
    mem := ⟨storeBytes [] (spanAddr false 0)
      ([0x8000 + 0x10000 * unit + 0x1000000 * op, 10, 0, 0, 0, 0, srcLen, dstLen].flatMap (fun x => leBytes 4 x)), []⟩
    seq := { Seq.fresh with count := 4, counted := true, active := 1 } }

/-- A stream 0 of FLT that takes CAN0's decode 3. -/
def taker : State := poke Reg.FLT_S_SRC 0x00032A01#32 (inMode .run)

/-- A point datagram of one point, with its sequence number. -/
def pointData (seq : Nat) : List Byte :=
  let h := beBytes 2 0x5350 ++ [1, 0] ++ beBytes 2 1 ++ List.replicate 14 0 ++ beBytes 4 seq ++ List.replicate 12 0
  h ++ beBytes 4 (crc32 h).toNat

/-- A Chain frame of origin 1. -/
def frame (sub : Nat) (body : List Byte) : ChainFrame := ⟨sub, 1, 0, 0, 0, 0, body⟩

/-- CONFIG, with the unit of the Chain enabled. -/
def chained : State := poke Reg.CHN_CFG 1#32 (inMode .config)

/-- Task 47 of core 2, with one word of output. -/
def task47 : Task := ⟨47, false, 2, 0, 1, 1, 0, 0, 0, [], [⟨64, 0, 1, 0⟩]⟩

/-- An image with task 47. -/
def image47 : Image := ⟨1, 0, 2500, [task47], [], []⟩

/-- RUN, with the image of task 47. -/
def tasked (ts : TaskState) : State := { inMode .run with prg := { Prg.fresh none none with image := some image47, tasks := [(47, ts)] } }

/-- RUN at a change point, with an accepted image. -/
def changing : State :=
  poke Reg.PRG_CHG_STAT 3#32 { inMode .run with prg := { Prg.fresh none none with image := some image47, other := some image47 } }

/-- A change that has waited PRG_CHG_WAIT fathoms. -/
def expired : State := poke Reg.PRG_CHG_STAT 0xFFFF0003#32 (inMode .run)

/-- RUN, with scanner slot 5 enabled. -/
def withScanner (s : State) : State :=
  poke Reg.FUS0_CTRL 1#32 (poke (rk Reg.FUS0_SC_ADDR 0 5) 0xC0A80001#32 (poke (rk Reg.FUS0_SC_CFG 0 5) 0x00010001#32 (accepted 7 s)))

/-- RUN, with scanner slot 5 enabled. -/
def scanner : State := withScanner (inMode .run)

/-- RUN, with the unit of the Chain enabled and pair 7 a published one of one block. -/
def chainPub : State := poke (rk Reg.CHN_PUB_CFG 0 7) 0x80080002#32 (poke Reg.CHN_CFG 1#32 (inMode .run))

/-- The body of a SAMPLE frame with one sample. -/
def sampleBody : List Byte := [1, 0, 0, 0] ++ List.replicate 16 0

/-- A member of the Chain whose stream 0 takes entry 0 of the mirror of base 1. -/
def chainTaker : State := poke Reg.FLT_S_SRC 0x01002001#32 chained

/-- The body of a DATAGRAM frame with a point datagram. -/
def datagramBody : List Byte := List.replicate 8 0 ++ beBytes 4 0xC0A80001 ++ beBytes 2 44 ++ [0, 0] ++ pointData 0

/-- A member of the Chain that takes the datagrams of slot 5 from base 1. -/
def chainScanner : State :=
  let s := withScanner chained
  { s with fus := { s.fus with srcSel := 0x20 } }

/-- A PTP message of domain 0 from portIdentity 0. -/
def ptpMessage (ty flags : Nat) : List Byte := [BitVec.ofNat 8 ty, 0, 0, 0, 0, 0, BitVec.ofNat 8 flags] ++ List.replicate 57 0

/-- A PTP clock whose parent is heard on port 3. -/
def ptpSlave : State :=
  let s := poke (rk Reg.PTP_P_CFG 0 3) 1#32 (poke Reg.PTP_STAT 4#32 (inMode .run))
  { s with ptp := { s.ptp with parent := some 0 } }

/-- A PTP clock that may be master. -/
def ptpMaster : State := poke Reg.PTP_CFG 0x100#32 (inMode .run)

/-- An ARP request for 192.168.0.1. -/
def arpFrame : List Byte :=
  List.replicate 12 0 ++ beBytes 2 0x0806 ++ List.replicate 6 0 ++ beBytes 2 1 ++ List.replicate 16 0 ++ beBytes 4 0xC0A80001

/-- A datagram of one sentence, $GPZDA. -/
def udpData : List Byte := [0x55, 0x64, 0x50, 0x62, 0x43, 0, 36, 71, 80, 90, 68, 65]

/-- Group entry 0 receives 239.192.0.1 port 60001, filter entry 0 takes GPZDA. -/
def udpState : State :=
  poke Reg.PRP_MC_GRP 0xEFC00001#32 (poke Reg.PRP_MC_PORT 0x8000EA61#32
    (poke Reg.PRP_F_ADDR 0x445A5047#32 (poke Reg.PRP_F_CFG 0x141#32 (inMode .run))))

/-- Firkin 63, of consumer `unit`, holds a packet. -/
def packeted (unit : Nat) (s : State) (words : List Word) : State :=
  let s := poke (rk Reg.FQ_CFG 0 63) (wd (0x10000 * unit + 1)) s
  let n := words.length
  { s with fq := { s.fq with fifo := [(63, ⟨(upto n).map (fun i => ⟨words.getD i 0, decide (i + 1 = n), 0⟩), [], false⟩)] } }

/-- CONFIG, a staging set whose instance 15 asks a process safety time that is too short, its check values equal, the key turned. -/
def confirmable : State :=
  let s := accepted 12 (inMode .config)
  let s := poke Reg.SAFC_CONF_STAT 1#32 (poke Reg.SAFC_CHECK 7#32 (poke Reg.SAFH_CHECK 7#32 s))
  { s with saf := { s.saf with
      staging := [(16, 3), (304, 0x201)]
      c := { SafChan.fresh with filt := 0xFFFFFFFF }
      h := { SafChan.fresh with filt := 0xFFFFFFFF } } }

/-- Memory without upsets reads soundly everywhere. -/
theorem sound_of_noFlips (m : Mem) (h : m.flips = []) (b : Nat) : m.isBad b = false := by
  have e : m.flip b = 0#280 := by unfold Mem.flip; rw [h]; rfl
  have d : (decodePattern 0#280).1.isBad = false := by decide +kernel
  unfold Mem.isBad Mem.outcome
  rw [e, d]

/-- The fields of a frame. -/
def frameFields (f : ChainFrame) : List Nat × List Word × List Byte :=
  ([f.subtype, f.origin, f.hops, f.fseq], [f.stone, f.fno], f.body)

/-- A frame that parses, of another origin and new, is accepted. -/
theorem accepted_frame {s : State} {bs : List Byte} {f : ChainFrame} (up : s.pageUp Pg.CHN = true)
    (parse : (parseFrame bs).map frameFields = some (frameFields f)) (on : s.chnEnv.on = true)
    (other : (f.origin != s.chn.base) = true) (new : s.chn.first f.origin f.fseq = true) : s.Accepts bs f := by
  have p : parseFrame bs = some f := by
    cases e : parseFrame bs with
    | none => rw [e] at parse; cases parse
    | some g =>
      rw [e] at parse
      cases f; cases g
      simp_all [frameFields]
  refine ⟨up, ?_⟩
  unfold Chn.accepts
  rw [p]
  simp [on, other, new]

/-- The header of an INPUT frame of 39 words of zeros, without HOPS. -/
def inputHead : List Byte := [5, 1, 1, 0, 0, 0, 0, 0, 0, 0, 0, 0, 0, 0, 156]

/-- A sixth of its body. -/
def zeros : List Byte := List.replicate 26 0

/-- The CRC of that frame, in seven parts. -/
theorem inputFrame_crc : crc32 (inputHead ++ zeros ++ zeros ++ zeros ++ zeros ++ zeros ++ zeros) = 2192376113#32 := by
  have h0 : inputHead.foldl crc32Byte 0xFFFFFFFF#32 = 2727060751#32 := by decide +kernel
  have h1 : zeros.foldl crc32Byte 2727060751#32 = 3985997549#32 := by decide +kernel
  have h2 : zeros.foldl crc32Byte 3985997549#32 = 3631370684#32 := by decide +kernel
  have h3 : zeros.foldl crc32Byte 3631370684#32 = 1065479666#32 := by decide +kernel
  have h4 : zeros.foldl crc32Byte 1065479666#32 = 3419235143#32 := by decide +kernel
  have h5 : zeros.foldl crc32Byte 3419235143#32 = 197060129#32 := by decide +kernel
  have h6 : zeros.foldl crc32Byte 197060129#32 = 2102591182#32 := by decide +kernel
  unfold crc32
  simp only [List.foldl_append, h0, h1, h2, h3, h4, h5, h6]
  decide +kernel

/-- That frame parses. -/
theorem inputFrame_parses : (parseFrame (buildFrame (frame 5 (List.replicate 156 0)))).map frameFields
    = some (frameFields (frame 5 (List.replicate 156 0))) := by
  have head : ∀ h : List Byte, (h.take 3 ++ h.drop 4) = inputHead ++ zeros ++ zeros ++ zeros ++ zeros ++ zeros ++ zeros →
      pcrc h = 2192376113#32 := fun h e => by
    unfold pcrc
    rw [e, inputFrame_crc]
  unfold buildFrame
  extract_lets h
  have ch : pcrc h = 2192376113#32 := head h (by decide +kernel)
  rw [ch]
  unfold parseFrame
  extract_lets n
  rw [if_neg (by decide +kernel), if_neg (by decide +kernel), if_neg]
  · decide +kernel
  · rw [head _ (by decide +kernel)]
    decide +kernel

/-- A key of the service path. -/
def serviceKey : List Byte := List.replicate 32 7

/-- A request of session 1 with SEQ 1, before its tag. -/
def request (op count : Nat) (body : List Byte) : List Byte :=
  [0x4F, 0x52, 1, BitVec.ofNat 8 op, 0, 0, 0, 1, 0, 0, 0, 1] ++ beBytes 2 count ++ [0, 0] ++ body

/-- That request with its tag. -/
def taggedRequest (op count : Nat) (body : List Byte) : List Byte :=
  request op count body ++ Config.hmacSha256 serviceKey (request op count body)

/-- What its receiver reads. -/
def ask (op count : Nat) (body : List Byte) : Request_ :=
  ⟨op, 1, 1, count, body ++ Config.hmacSha256 serviceKey (request op count body), taggedRequest op count body⟩

/-- A tag has 32 bytes. -/
theorem hmac_length (k m : List Byte) : (Config.hmacSha256 k m).length = 32 := by
  unfold Config.hmacSha256
  exact Vector.length_toList

/-- The body is what stands before the tag. -/
theorem ask_body (op count : Nat) (body : List Byte) : (ask op count body).body = body := by
  simp [ask, Request_.body, hmac_length]

/-- The tag is right. -/
theorem request_tagOk (op count : Nat) (body : List Byte) : tagOk serviceKey (taggedRequest op count body) = true := by
  simp [tagOk, taggedRequest, hmac_length, request, beBytes, leBytes]

/-- The request is read as it was made. -/
theorem request_read (op count : Nat) (body : List Byte) (ho : op < 256) (hc : count < 65536) :
    readRequest (taggedRequest op count body) = some (ask op count body) := by
  unfold readRequest taggedRequest ask request
  simp [beBytes, leBytes, byteAt, sliceB, beNat, taggedRequest, request]
  omega

/-- Without its tag it is read too. -/
theorem request_plain (op count : Nat) (body : List Byte) (ho : op < 256) (hc : count < 65536) :
    readRequest (request op count body) = some ⟨op, 1, 1, count, body, request op count body⟩ := by
  unfold readRequest request
  simp [beBytes, leBytes, byteAt, sliceB, beNat]
  omega

/-- RUN or another state, with session 1 open under key 0. -/
def sessioned (m : Mode) : State :=
  { inMode m with
    net := { Net.fresh [] with sessions := [⟨1, 0, serviceKey, 0, 0⟩] }
    nvs := Nvs.fresh [(0, serviceKey)] [] 0 }

/-- That state with a transfer of a region open. -/
def transferring (m : Mode) (region : Nat) : State :=
  { sessioned m with nvs := { (sessioned m).nvs with transfer := some ⟨1, region, 0, 0x100⟩ } }

/-- A request of that session is one that SUP takes. -/
theorem asked_request {s : State} {op count : Nat} {body : List Byte} (up : s.serviceUp = true) (answers : s.answers op = true)
    (session : s.net.sessions.find? (fun y => y.number == 1) = some ⟨1, 0, serviceKey, 0, 0⟩) (ho : op < 256) (hc : count < 65536) :
    s.Asked op (taggedRequest op count body) ⟨1, 0, serviceKey, 0, 0⟩ (ask op count body) :=
  ⟨up, answers, request_read op count body ho hc, rfl, session, by decide, request_tagOk op count body, Nat.one_pos⟩

/-- States and operands that meet the hypotheses of StepTakesTheFrontCommand. -/
theorem witness_StepTakesTheFrontCommand :
    (∃ (s : State) (c : Instr) (rest : List Instr), s.pending = c :: rest) ∧
    (∃ (s : State), s.pending = []) :=
  ⟨⟨{ State.reset with pending := [.fathomStart t0] }, (.fathomStart t0), [], by decide +kernel⟩,
    ⟨State.reset, by decide +kernel⟩⟩

/-- States and operands that meet the hypotheses of PowerAndResets. -/
theorem witness_PowerAndResets :
    (∃ (s : State), s.mode = .off) ∧
    (∃ (acc : Accessor) (s : State), s.Admits acc Pg.SUP 0x4C) ∧
    (∃ (s : State), s.mode ≠ .off ∧ s.pwr.warn = true) :=
  ⟨⟨(inMode .off), by decide +kernel⟩,
    ⟨.sup, (inMode .run), by unfold State.Admits; decide +kernel⟩,
    ⟨{ inMode .run with pwr := { Pwr.fresh with warn := true } }, by decide +kernel⟩⟩

/-- States and operands that meet the hypotheses of BootOutcome. -/
theorem witness_BootOutcome :
    (∃ (s : State), s.mode = .boot ∧ s.sup.dead = false ∧ bit s.nvs.boot 2 = false) ∧
    (∃ (s : State), s.mode ≠ .off ∧ s.log.searched = false) ∧
    (∃ (s : State), s.islandUp 1 = true) :=
  ⟨⟨State.reset, by decide +kernel⟩,
    ⟨State.reset, by decide +kernel⟩,
    ⟨State.reset, by decide +kernel⟩⟩

/-- States and operands that meet the hypotheses of StateRequests. -/
theorem witness_StateRequests :
    (∃ (a : At) (acc : Accessor) (s : State), s.Admits acc Pg.SUP 0x40 ∧ s.sup.dead = false ∧ s.sup.request = none ∧ s.mode = .config ∧
      ((s.at_ a).written 1 1 0x40 0 Reg.SUP_CTRL supCtrlRow 1#32).negotiationFault = none ∧
      ((s.at_ a).written 1 1 0x40 0 Reg.SUP_CTRL supCtrlRow 1#32).negotiate.firstRefusal true = none) ∧
    (∃ (acc : Accessor) (s : State), s.Admits acc Pg.SUP 0x40 ∧ s.sup.dead = false ∧ s.sup.request = none ∧ s.mode = .ready ∧ s.sup.passed = true) ∧
    (∃ (acc : Accessor) (s : State), s.Admits acc Pg.SUP 0x40 ∧ s.sup.dead = false ∧ s.sup.request = none ∧ s.mode = .run) ∧
    (∃ (acc : Accessor) (s : State), s.Admits acc Pg.SUP 0x40 ∧ s.sup.dead = false ∧ s.sup.request = none ∧ s.mode = .ready) ∧
    (∃ (acc : Accessor) (s : State), s.Admits acc Pg.SUP 0x40 ∧ s.sup.dead = false ∧ s.sup.request = none ∧ s.mode = .ready) ∧
    (∃ (acc : Accessor) (s : State) (r : Request), s.Admits acc Pg.SUP 0x40 ∧ s.sup.dead = false ∧ s.sup.request = some r) :=
  ⟨⟨t0, .sup, ranked, by unfold State.Admits; decide +kernel, by decide +kernel⟩,
    ⟨.sup, { inMode .ready with sup := { Sup.fresh 0 with passed := true } }, by unfold State.Admits; decide +kernel, by decide +kernel⟩,
    ⟨.service, (inMode .run), by unfold State.Admits; decide +kernel, by decide +kernel⟩,
    ⟨.sup, (inMode .ready), by unfold State.Admits; decide +kernel, by decide +kernel⟩,
    ⟨.sup, (inMode .ready), by unfold State.Admits; decide +kernel, by decide +kernel⟩,
    ⟨.sup, { inMode .ready with sup := { Sup.fresh 0 with request := some .goRun } }, .goRun, by unfold State.Admits; decide +kernel,
      by decide +kernel⟩⟩

/-- States and operands that meet the hypotheses of StateTransitions. -/
theorem witness_StateTransitions :
    (∃ (a : At) (s : State), s.pageUp Pg.SUP = true ∧ s.sup.request = some .goRun ∧ (s.at_ a).startDue = true) ∧
    (∃ (a : At) (s : State), s.pageUp Pg.SUP = true ∧ s.sup.request = some .stop ∧ (s.at_ a).startDue = true ∧ s.sup.autoRun = false) ∧
    (∃ (a : At) (s : State), s.pageUp Pg.SUP = true ∧ s.sup.request = some .goService ∧ (s.at_ a).startDue = true) ∧
    (∃ (a : At) (s : State), s.pageUp Pg.SUP = true ∧ s.sup.request = some .goReady ∧ s.mode ≠ .config ∧ (s.at_ a).startDue = true ∧
      s.sup.autoRun = false) ∧
    (∃ (a : At) (s : State), s.pageUp Pg.SUP = true ∧ s.sup.request = some .goReady ∧ s.mode = .config ∧ s.seq.counted = false ∧
      (s.at_ a).firstGrid ≤ (s.at_ a).tim.us ∧ s.sup.autoRun = false) :=
  ⟨⟨t0, { fathomOver with mode := .ready, sup := { Sup.fresh 0 with request := some .goRun } }, by decide +kernel⟩,
    ⟨t0, { fathomOver with mode := .run, sup := { Sup.fresh 0 with request := some .stop } }, by decide +kernel⟩,
    ⟨t0, { fathomOver with mode := .ready, sup := { Sup.fresh 0 with request := some .goService } }, by decide +kernel⟩,
    ⟨t0, { fathomOver with mode := .service, sup := { Sup.fresh 0 with request := some .goReady } }, by decide +kernel⟩,
    ⟨(⟨5000000, []⟩), { inMode .config with sup := { Sup.fresh 0 with request := some .goReady } }, by decide +kernel⟩⟩

/-- States and operands that meet the hypotheses of AccessesOfTheMap. -/
theorem witness_AccessesOfTheMap :
    (∃ (addr : Nat) (d : List Byte) (s : State), s.mode = .config ∧ s.sup.dead = false ∧ s.islandUp 1 = true ∧ s.islandUp 2 = true ∧ d ≠ [] ∧
      0x20000000 ≤ addr ∧ addr + d.length ≤ 0x21000000) ∧
    (∃ (addr : Nat) (len : Nat) (s : State), s.sup.dead = false ∧ s.islandUp 1 = true ∧ s.islandUp 2 = true ∧ 0 < len ∧ 0x20000000 ≤ addr ∧
      addr + len ≤ 0x21000000) ∧
    (∃ (addr : Nat) (d : List Byte) (s : State), s.sup.dead = false ∧ s.islandUp 1 = true ∧ s.mode ≠ .config ∧ s.mode ≠ .service ∧ d ≠ [] ∧
      0x20000000 ≤ addr ∧ addr + d.length ≤ 0x21000000) ∧
    (∃ (acc : Accessor) (s : State), s.pageUp (accPage acc) = true ∧ accPage acc ≠ Pg.SNAP) ∧
    (∃ (page : Fin 86) (s : State), s.pageUp page.val = true ∧ page.val ≠ Pg.SNAP) :=
  ⟨⟨0x20FFFFFF, [7], (inMode .config), by decide +kernel⟩,
    ⟨0x20FFFFFF, 1, (inMode .run), by decide +kernel⟩,
    ⟨0x20000000, [7], (inMode .run), by decide +kernel⟩,
    ⟨(.core 2), (inMode .run), by decide +kernel⟩,
    ⟨85, (inMode .run), by decide +kernel⟩⟩

/-- States and operands that meet the hypotheses of ClockFailures. -/
theorem witness_ClockFailures :
    (∃ (island : Fin 12) (s : State), island.val ≠ 0 ∧ island.val ≠ 11 ∧ s.islandUp island.val = true) ∧
    (∃ (s : State), s.mode ≠ .off ∧ s.sup.refLost = false) :=
  ⟨⟨10, (inMode .run), by decide +kernel⟩,
    ⟨(inMode .run), by decide +kernel⟩⟩

/-- States and operands that meet the hypotheses of CommonHeaderWrites. -/
theorem witness_CommonHeaderWrites :
    (∃ (acc : Accessor) (page : Nat) (l : PageLayout) (s : State), page < 86 ∧ layoutOf page = some l ∧ s.Admits acc page 0x14) ∧
    (∃ (acc : Accessor) (page : Fin 86) (s : State), s.Admits acc page.val 0x18 ∧ page.val ≠ Pg.SNAP ∧ (page.val < 8 ∨ 10 < page.val)) ∧
    (∃ (acc : Accessor) (page : Fin 86) (s : State), s.Admits acc page.val 0x18 ∧ page.val ≠ Pg.SNAP ∧ (page.val < 8 ∨ 10 < page.val)) ∧
    (∃ (acc : Accessor) (page : Fin 86) (s : State), s.Admits acc page.val 8) ∧
    (∃ (acc : Accessor) (page : Fin 86) (s : State), s.Admits acc page.val 8 ∧ (∀ n, acc = .core n → coreRegs page.val = none) ∧ s.mode ≠ .run ∧
      softFixed page.val = false) :=
  ⟨⟨.sup, 85, ((layoutOf 85).get (by decide)), (inMode .run), by decide +kernel, by decide +kernel, by unfold State.Admits; decide +kernel⟩,
    ⟨.sup, 11, (inMode .run), by unfold State.Admits; decide +kernel, by decide +kernel⟩,
    ⟨.sup, 7, (inMode .run), by unfold State.Admits; decide +kernel, by decide +kernel⟩,
    ⟨(.core 0), 85, (inMode .run), by unfold State.Admits; decide +kernel⟩,
    ⟨.sup, 0x1A, (inMode .config), by unfold State.Admits; decide +kernel, (by intro n h; cases h), by decide +kernel, by decide +kernel⟩⟩

/-- States and operands that meet the hypotheses of FirkinPushes. -/
theorem witness_FirkinPushes :
    (∃ (unit : Nat) (n : Fin 64) (s : State), s.pageUp Pg.FQ = true ∧ unit ≠ 0 ∧ bits (s.fq.cfg n.val) 15 8 = unit ∧ bit (s.fq.cfg n.val) 0 = true ∧
      (s.fq.firkin n.val).dropping = false ∧ (s.fq.firkin n.val).committed.length + (s.fq.firkin n.val).opened.length < s.fq.depth n.val) ∧
    (∃ (unit : Nat) (n : Fin 64) (s : State), s.pageUp Pg.FQ = true ∧ unit ≠ 0 ∧ bits (s.fq.cfg n.val) 15 8 = unit ∧ bit (s.fq.cfg n.val) 0 = true ∧
      (s.fq.firkin n.val).dropping = false ∧ (s.fq.firkin n.val).committed.length + (s.fq.firkin n.val).opened.length < s.fq.depth n.val) ∧
    (∃ (unit : Nat) (n : Fin 64) (s : State), s.pageUp Pg.FQ = true ∧ unit ≠ 0 ∧ bits (s.fq.cfg n.val) 15 8 = unit ∧ bit (s.fq.cfg n.val) 0 = true ∧
      (s.fq.firkin n.val).dropping = false ∧ s.fq.depth n.val ≤ (s.fq.firkin n.val).committed.length + (s.fq.firkin n.val).opened.length) ∧
    (∃ (unit : Nat) (n : Fin 64) (s : State), s.pageUp Pg.FQ = true ∧ bits (s.fq.cfg n.val) 15 8 ≠ unit) :=
  ⟨⟨0x25, 63,
      { poke (rk Reg.FQ_CFG 0 63) 0x00102501#32 (inMode .run) with fq := { (poke (rk Reg.FQ_CFG 0 63) 0x00102501#32 (inMode .run)).fq with fifo := [(63, Firkin.empty)] } }, by decide +kernel⟩,
    ⟨0x25, 63,
      { poke (rk Reg.FQ_CFG 0 63) 0x00102501#32 (inMode .run) with fq := { (poke (rk Reg.FQ_CFG 0 63) 0x00102501#32 (inMode .run)).fq with fifo := [(63, ⟨[], [⟨0, false, 0⟩], false⟩)] } }, by decide +kernel⟩,
    ⟨0x25, 63,
      { poke (rk Reg.FQ_CFG 0 63) 0x00102501#32 (inMode .run) with fq := { (poke (rk Reg.FQ_CFG 0 63) 0x00102501#32 (inMode .run)).fq with fifo := [(63, ⟨List.replicate 256 ⟨0, true, 0⟩, [], false⟩)] } }, by decide +kernel⟩,
    ⟨0x26, 63,
      { poke (rk Reg.FQ_CFG 0 63) 0x00102501#32 (inMode .run) with fq := { (poke (rk Reg.FQ_CFG 0 63) 0x00102501#32 (inMode .run)).fq with fifo := [(63, Firkin.empty)] } }, by decide +kernel⟩⟩

/-- States and operands that meet the hypotheses of FirkinPopsFlushesDisable. -/
theorem witness_FirkinPopsFlushesDisable :
    (∃ (unit : Nat) (n : Fin 64) (q : QWord) (qs : List QWord) (s : State), s.pageUp Pg.FQ = true ∧ unit ≠ 0 ∧ bits (s.fq.cfg n.val) 23 16 = unit ∧
      (s.fq.firkin n.val).committed = q :: qs) ∧
    (∃ (unit : Nat) (n : Fin 64) (s : State), s.pageUp Pg.FQ = true ∧ unit ≠ 0 ∧ bits (s.fq.cfg n.val) 23 16 = unit ∧
      (s.fq.firkin n.val).committed = []) ∧
    (∃ (acc : Accessor) (half : Fin 2) (s : State), s.Admits acc Pg.FQ ((if half.val = 0 then Reg.FQ_FLUSH0 else Reg.FQ_FLUSH1) % 0x400)) ∧
    (∃ (n : Fin 64) (s : State), s.pageUp Pg.FQ = true ∧ s.fq.flushing n.val = true ∧ (s.fq.firkin n.val).opened = []) ∧
    (∃ (acc : Accessor) (n : Nat) (s : State), s.Admits acc Pg.FQ (Reg.FQ_CFG % 0x400) ∧ n < 64 ∧ (rget s.fq.regs Reg.FQ_SEL).toNat = n ∧
      bit (s.fq.cfg n) 0 = true ∧ s.mode ≠ .run) :=
  ⟨⟨0x10, 63, (⟨5, true, 0⟩), [],
      { poke (rk Reg.FQ_CFG 0 63) 0x00102501#32 (inMode .run) with fq := { (poke (rk Reg.FQ_CFG 0 63) 0x00102501#32 (inMode .run)).fq with fifo := [(63, ⟨[⟨5, true, 0⟩], [], false⟩)] } }, by decide +kernel⟩,
    ⟨0x10, 63,
      { poke (rk Reg.FQ_CFG 0 63) 0x00102501#32 (inMode .run) with fq := { (poke (rk Reg.FQ_CFG 0 63) 0x00102501#32 (inMode .run)).fq with fifo := [(63, Firkin.empty)] } }, by decide +kernel⟩,
    ⟨(.core 1), 1, (inMode .run), by unfold State.Admits; decide +kernel⟩,
    ⟨63, (poke Reg.FQ_FLUSH1 0x80000000#32 (inMode .run)), by decide +kernel⟩,
    ⟨.sup, 63, (poke Reg.FQ_SEL 63#32 (poke (rk Reg.FQ_CFG 0 63) 1#32 (inMode .config))), by unfold State.Admits; decide +kernel,
      by decide +kernel⟩⟩

/-- States and operands that meet the hypotheses of FurlongLoading. -/
theorem witness_FurlongLoading :
    (∃ (acc : Accessor) (s : State), s.Admits acc Pg.SEQ (Reg.SEQ_SPAN_W7 % 0x400) ∧ s.seq.swapAt = none) ∧
    (∃ (acc : Accessor) (at_ : Nat) (s : State), s.Admits acc Pg.SEQ (Reg.SEQ_SPAN_W7 % 0x400) ∧ s.seq.swapAt = some at_) ∧
    (∃ (acc : Accessor) (s : State), s.Admits acc Pg.SEQ (Reg.SEQ_SHADOW_CNT % 0x400) ∧ s.seq.swapAt = none) ∧
    (∃ (acc : Accessor) (s : State), s.Admits acc Pg.SEQ (Reg.SEQ_SWAP % 0x400) ∧ s.seq.swapAt = none) ∧
    (∃ (acc : Accessor) (s : State), s.Admits acc Pg.SEQ (Reg.SEQ_PUB_SEL % 0x400)) :=
  ⟨⟨.sup, (inMode .config), by unfold State.Admits; decide +kernel, by decide +kernel⟩,
    ⟨.sup, 7, { inMode .run with seq := { Seq.fresh with swapAt := some 7 } }, by unfold State.Admits; decide +kernel, by decide +kernel⟩,
    ⟨.sup, (inMode .config), by unfold State.Admits; decide +kernel, by decide +kernel⟩,
    ⟨.service, (inMode .run), by unfold State.Admits; decide +kernel, by decide +kernel⟩,
    ⟨.sup, (inMode .config), by unfold State.Admits; decide +kernel⟩⟩

/-- States and operands that meet the hypotheses of FathomStartsAndSwaps. -/
theorem witness_FathomStartsAndSwaps :
    (∃ (a : At) (s : State), (s.at_ a).gridDue = true ∧ (s.at_ a).dueRuns = [] ∧ s.seq.swapAt = none) ∧
    (∃ (a : At) (s : State), (s.at_ a).gridDue = true ∧ (s.at_ a).dueRuns = [] ∧ s.seq.swapAt = some 0 ∧ s.seq.longRun = false ∧ s.mode ≠ .config) ∧
    (∃ (a : At) (s : State), (s.at_ a).gridDue = true ∧ (s.at_ a).dueRuns = [] ∧ s.seq.swapAt = some 0 ∧ s.seq.longRun = false ∧ s.mode ≠ .config) ∧
    (∃ (a : At) (n : Nat) (s : State), (s.at_ a).gridDue = true ∧ (s.at_ a).dueRuns = [] ∧ s.seq.swapAt = some n ∧ n ≠ 0 ∧
      n ≠ (s.seq.count + 1) % 4294967296 ∧ signed 32 (n + 4294967296 - (s.seq.count + 1) % 4294967296) ≤ 0 ∧ s.mode ≠ .config) :=
  ⟨⟨t0, fathomOver, by decide +kernel⟩,
    ⟨t0, { fathomOver with seq := { fathomOver.seq with swapAt := some 0 } }, by decide +kernel⟩,
    ⟨t0, { fathomOver with seq := { fathomOver.seq with swapAt := some 0 } }, by decide +kernel⟩,
    ⟨t0, 4294967294, { fathomOver with seq := { fathomOver.seq with swapAt := some 4294967294 } }, by decide +kernel⟩⟩

/-- States and operands that meet the hypotheses of SpanCompletionsAndDeadlines. -/
theorem witness_SpanCompletionsAndDeadlines :
    (∃ (idx : Nat) (r : Run) (s : State), s.seq.run idx = some r ∧ s.pageUp r.span.page = true) ∧
    (∃ (a : At) (idx : Nat) (r : Run) (d : Nat) (s : State), (s.at_ a).dueRuns.find? (fun x => x.idx == idx) = some r ∧ r.doneAt = some d ∧
      r.result = true ∧ r.span.unit ≠ 0x7F ∧ r.span.unit ≠ 0x16 ∧ r.span.dstLen ≠ 0) ∧
    (∃ (a : At) (idx : Nat) (r : Run) (s : State), (s.at_ a).dueRuns.find? (fun x => x.idx == idx) = some r ∧ r.doneAt = none) ∧
    (∃ (a : At) (idx : Nat) (r : Run) (d : Nat) (s : State), (s.at_ a).dueRuns.find? (fun x => x.idx == idx) = some r ∧ r.doneAt = some d ∧
      r.result = false) :=
  ⟨⟨7, (⟨7, ⟨0, true, 0x11, 1, 10, 0, 0, 0, 0, 0, 0, 9, false⟩, 4, true, none⟩),
      { fathomOver with seq := { fathomOver.seq with runs := [⟨7, ⟨0, true, 0x11, 1, 10, 0, 0, 0, 0, 0, 0, 9, false⟩, 4, true, none⟩] } },
      by decide +kernel⟩,
    ⟨t0, 7, (⟨7, ⟨0, true, 0x11, 1, 10, 0, 0, 0, 0, 0, 0, 9, false⟩, 4, true, some 3⟩), 3,
      { fathomOver with seq := { fathomOver.seq with runs := [⟨7, ⟨0, true, 0x11, 1, 10, 0, 0, 0, 0, 0, 0, 9, false⟩, 4, true, some 3⟩] } },
      by decide +kernel⟩,
    ⟨t0, 7, (⟨7, ⟨0, true, 0x11, 1, 10, 0, 0, 0, 0, 0, 0, 9, false⟩, 4, true, none⟩),
      { fathomOver with seq := { fathomOver.seq with runs := [⟨7, ⟨0, true, 0x11, 1, 10, 0, 0, 0, 0, 0, 0, 9, false⟩, 4, true, none⟩] } },
      by decide +kernel⟩,
    ⟨t0, 7, (⟨7, ⟨0, true, 0x11, 1, 10, 0, 0, 0, 0, 0, 0, 9, false⟩, 4, false, some 3⟩), 3,
      { fathomOver with seq := { fathomOver.seq with runs := [⟨7, ⟨0, true, 0x11, 1, 10, 0, 0, 0, 0, 0, 0, 9, false⟩, 4, false, some 3⟩] } },
      by decide +kernel⟩⟩

/-- States and operands that meet the hypotheses of ResamplerCommands. -/
theorem witness_ResamplerCommands :
    (∃ (unit : Nat) (sel : Nat) (k : Nat) (stamp : Int) (val : Int) (s : State), s.islandUp 5 = true ∧ hdrEnabled s.hdr Pg.FLT = true ∧
      s.flt.takers ⟨unit, sel, stamp, val⟩ = [k] ∧ s.flt.inRate < 1000000) ∧
    (∃ (a : At) (idx : Nat) (x : Span) (s : State), (s.at_ a).Starts idx x ∧ x.unit = 0x14 ∧ x.opcode = 1) ∧
    (∃ (acc : Accessor) (s : State), s.Admits acc Pg.FLT (Reg.FLT_COEF_DATA % 0x400) ∧ s.mode ≠ .run ∧ 2 ≤ rfld s.flt.regs Reg.FLT_COEF_SEL 1 0) :=
  ⟨⟨0x2A, 3, 0, 0, 0, taker, by decide +kernel⟩,
    ⟨t0, 0, (Mem.span (spanState 0x14 1 0 0).mem false 0), (spanState 0x14 1 0 0), by constructor <;> decide +kernel, by decide +kernel⟩,
    ⟨.sup, (poke Reg.FLT_COEF_SEL 2#32 (inMode .config)), by unfold State.Admits; decide +kernel, by decide +kernel⟩⟩

/-- States and operands that meet the hypotheses of EstimatorCommands. -/
theorem witness_EstimatorCommands :
    (∃ (a : At) (idx : Nat) (x : Span) (s : State), (s.at_ a).Starts idx x ∧ x.unit = 0x11 ∧ x.opcode = 1 ∧
      (4 * x.srcLen < s.flt.slots ∨ x.dstLen < 9)) ∧
    (∃ (a : At) (idx : Nat) (x : Span) (s : State), (s.at_ a).Starts idx x ∧ x.unit = 0x11 ∧ x.opcode = 1 ∧ s.flt.slots ≤ 4 * x.srcLen ∧
      9 ≤ x.dstLen ∧ (∀ b, (s.at_ a).mem.isBad b = false)) ∧
    (∃ (acc : Accessor) (k : Nat) (s : State), s.Admits acc Pg.EST (Reg.EST_R_CTRL % 0x400) ∧ (rget s.est.regs Reg.EST_SEL).toNat = k ∧ k < 18) ∧
    (∃ (acc : Accessor) (k : Nat) (s : State), s.Admits acc Pg.EST (Reg.EST_R_CTRL % 0x400) ∧ (rget s.est.regs Reg.EST_SEL).toNat = k ∧ k < 18) ∧
    (∃ (acc : Accessor) (s : State), s.Admits acc Pg.EST (Reg.EST_CTRL % 0x400)) :=
  ⟨⟨t0, 0, (Mem.span (spanState 0x11 1 0 0).mem false 0), (spanState 0x11 1 0 0), by constructor <;> decide +kernel, by decide +kernel⟩,
    ⟨t0, 0, (Mem.span (spanState 0x11 1 256 9).mem false 0), (spanState 0x11 1 256 9), by constructor <;> decide +kernel, by decide +kernel,
      by decide +kernel, by decide +kernel, by decide +kernel, sound_of_noFlips _ (by decide +kernel)⟩,
    ⟨.sup, 17, (poke Reg.EST_SEL 17#32 (inMode .run)), by unfold State.Admits; decide +kernel, by decide +kernel⟩,
    ⟨.sup, 17, (poke Reg.EST_SEL 17#32 (inMode .run)), by unfold State.Admits; decide +kernel, by decide +kernel⟩,
    ⟨.service, (inMode .run), by unfold State.Admits; decide +kernel⟩⟩

/-- States and operands that meet the hypotheses of FusionCommands. -/
theorem witness_FusionCommands :
    (∃ (src : Nat) (k : Nat) (d : List Byte) (s : State), s.works Pg.FUS0 = true ∧ s.feature 7 = true ∧ rbit s.fus.regs Reg.FUS0_CTRL 0 = true ∧
      s.fus.checkDatagram src d = .inr k ∧ bit s.fus.srcSel k = false ∧ (∀ e,
      s.fus.last.find? (fun e => e.1 == k) = some e → (beNat (sliceB d 20 4) + 4294967296 - e.2) % 4294967296 = 1) ∧
      (if s.fus.rateFno = s.seq.count then s.fus.ratePts else 0) + pdCount d ≤ pointAllowance s.seq.lenUs) ∧
    (∃ (src : Nat) (c : Nat) (d : List Byte) (s : State), s.works Pg.FUS0 = true ∧ s.feature 7 = true ∧ rbit s.fus.regs Reg.FUS0_CTRL 0 = true ∧
      s.fus.checkDatagram src d = .inl c ∧ c ≠ 4) ∧
    (∃ (s : State), s.works Pg.FUS0 = true ∧ s.feature 7 = true ∧ (s.mode = .ready ∨ s.mode = .run)) ∧
    (∃ (s : State), s.works Pg.FUS0 = true ∧ s.feature 7 = true ∧ (s.mode = .ready ∨ s.mode = .run) ∧ rbit s.fus.regs Reg.FUS0_CTRL 0 = true ∧
      rbit s.fus.regs Reg.FUS0_EST_BLK 31 = false) ∧
    (∃ (a : At) (idx : Nat) (x : Span) (s : State), (s.at_ a).Starts idx x ∧ x.unit = 0x15 ∧ x.opcode = 1 ∧ s.pwr.granted 17 = true) ∧
    (∃ (a : At) (idx : Nat) (x : Span) (s : State), (s.at_ a).Starts idx x ∧ x.unit = 0x15 ∧ x.opcode = 1 ∧ s.pwr.granted 17 = false) ∧
    (∃ (a : At) (idx : Nat) (r : Run) (s : State), s.seq.run idx = some r ∧ r.span.unit = 0x15 ∧ r.doneAt = none ∧ s.pageUp Pg.FUS0 = true ∧
      reached (r.count + (r.span.deadline - 1) / max 1 s.seq.lenUs, (r.span.deadline - 1) % max 1 s.seq.lenUs) (s.at_ a).here = true) ∧
    (∃ (acc : Accessor) (s : State), s.Admits acc Pg.FUS1 (Reg.FUS1_SEED % 0x400)) :=
  ⟨⟨0xC0A80001, 5, (pointData 0), scanner, by decide +kernel, by decide +kernel, by decide +kernel, by decide +kernel, by decide +kernel,
      (by intro e h; cases h), by decide +kernel⟩,
    ⟨0xC0A80001, 1, [0], scanner, by decide +kernel⟩,
    ⟨(accepted 7 (inMode .run)), by decide +kernel⟩,
    ⟨(poke Reg.FUS0_CTRL 1#32 (accepted 7 (inMode .run))), by decide +kernel⟩,
    ⟨t0, 0, (Mem.span ({ spanState 0x15 1 0 0 with pwr := { Pwr.fresh with st := [(17, 1)] } }).mem false 0),
      { spanState 0x15 1 0 0 with pwr := { Pwr.fresh with st := [(17, 1)] } }, by constructor <;> decide +kernel, by decide +kernel⟩,
    ⟨t0, 0, (Mem.span (spanState 0x15 1 0 0).mem false 0), (spanState 0x15 1 0 0), by constructor <;> decide +kernel, by decide +kernel⟩,
    ⟨t0, 7, (⟨7, ⟨0, true, 0x15, 1, 10, 0, 0, 0, 0, 0, 0, 9, false⟩, 4, true, none⟩),
      { fathomOver with seq := { fathomOver.seq with runs := [⟨7, ⟨0, true, 0x15, 1, 10, 0, 0, 0, 0, 0, 0, 9, false⟩, 4, true, none⟩] } },
      by decide +kernel⟩,
    ⟨.sup, (inMode .run), by unfold State.Admits; decide +kernel⟩⟩

/-- States and operands that meet the hypotheses of ControlCommands. -/
theorem witness_ControlCommands :
    (∃ (a : At) (idx : Nat) (x : Span) (n : Fin 2) (s : State), (s.at_ a).Starts idx x ∧ x.unit = 0x12 + n.val ∧ x.opcode = 1) ∧
    (∃ (a : At) (idx : Nat) (x : Span) (n : Fin 2) (s : State), (s.at_ a).Starts idx x ∧ x.unit = 0x12 + n.val ∧ x.opcode = 1 ∧
      s.ctl.swapDue n.val = [] ∧ s.ctl.fits n.val ((s.at_ a).handed idx x) = false) ∧
    (∃ (a : At) (idx : Nat) (x : Span) (n : Fin 2) (s : State), (s.at_ a).Starts idx x ∧ x.unit = 0x12 + n.val ∧ x.opcode = 1 ∧
      s.ctl.swapDue n.val = [] ∧ s.ctl.fits n.val ((s.at_ a).handed idx x) = true ∧ (∀ b, (s.at_ a).mem.isBad b = false)) ∧
    (∃ (a : At) (acc : Accessor) (n : Fin 2) (k : Nat) (blk : Nat) (word : Nat) (s : State), s.Admits acc (ctlPage n.val) (Reg.CTL_I_DATA % 0x400) ∧
      rfld s.ctl.regs (rk Reg.CTL_SEL n.val 0) 8 0 = k ∧ rfld s.ctl.regs (rk Reg.CTL_I_WIN n.val k) 6 3 = blk ∧
      rfld s.ctl.regs (rk Reg.CTL_I_WIN n.val k) 2 0 = word ∧ s.ctl.swapPending n.val k = false ∧ (if s.mode = .run then (1 ≤ blk ∧ blk ≤ 8 ∧
      (decide (5 ≤ blk)) ≠ bit (descWord (s.at_ a).mem n.val k 0) 5) else blk ≤ 10 ∧ ¬(blk = 10 ∧ word = 7))) ∧
    (∃ (a : At) (acc : Accessor) (n : Fin 2) (k : Nat) (blk : Nat) (s : State), s.Admits acc (ctlPage n.val) (Reg.CTL_I_DATA % 0x400) ∧
      rfld s.ctl.regs (rk Reg.CTL_SEL n.val 0) 8 0 = k ∧ rfld s.ctl.regs (rk Reg.CTL_I_WIN n.val k) 6 3 = blk ∧ s.mode = .run ∧
      (blk = 0 ∨ 9 ≤ blk ∨ (decide (5 ≤ blk)) = bit (descWord (s.at_ a).mem n.val k 0) 5)) ∧
    (∃ (acc : Accessor) (n : Fin 2) (k : Nat) (s : State), s.Admits acc (ctlPage n.val) (Reg.CTL_I_SWAP % 0x400) ∧
      rfld s.ctl.regs (rk Reg.CTL_SEL n.val 0) 8 0 = k) ∧
    (∃ (acc : Accessor) (n : Fin 2) (s : State), s.Admits acc (ctlPage n.val) (Reg.CTL_I_SWAP % 0x400)) :=
  ⟨⟨t0, 0, (Mem.span (spanState 0x13 1 0 0).mem false 0), 1, (spanState 0x13 1 0 0), by constructor <;> decide +kernel, by decide +kernel⟩,
    ⟨t0, 0, (Mem.span (poke (rk Reg.CTL_HELD_W 1 0) 0x80000001#32 (spanState 0x13 1 0 0)).mem false 0), 1,
      (poke (rk Reg.CTL_HELD_W 1 0) 0x80000001#32 (spanState 0x13 1 0 0)), by constructor <;> decide +kernel, by decide +kernel⟩,
    ⟨t0, 0, (Mem.span (spanState 0x13 1 0 0).mem false 0), 1, (spanState 0x13 1 0 0), by constructor <;> decide +kernel, by decide +kernel,
      by decide +kernel, by decide +kernel, by decide +kernel, sound_of_noFlips _ (by decide +kernel)⟩,
    ⟨t0, .sup, 1, 511, 10, 6, (poke (rk Reg.CTL_I_WIN 1 511) 0x56#32 (poke (rk Reg.CTL_SEL 1 0) 511#32 (inMode .config))),
      by unfold State.Admits; decide +kernel, by decide +kernel⟩,
    ⟨t0, .sup, 1, 511, 9, (poke (rk Reg.CTL_I_WIN 1 511) 0x48#32 (poke (rk Reg.CTL_SEL 1 0) 511#32 (inMode .run))),
      by unfold State.Admits; decide +kernel, by decide +kernel⟩,
    ⟨.sup, 1, 511, (poke (rk Reg.CTL_SEL 1 0) 511#32 (inMode .run)), by unfold State.Admits; decide +kernel, by decide +kernel⟩,
    ⟨.sup, 1, (inMode .run), by unfold State.Admits; decide +kernel⟩⟩

/-- States and operands that meet the hypotheses of AssemblerCommands. -/
theorem witness_AssemblerCommands :
    (∃ (a : At) (idx : Nat) (x : Span) (s : State), (s.at_ a).Starts idx x ∧ x.unit = 0x17 ∧ x.opcode = 1) ∧
    (∃ (a : At) (idx : Nat) (x : Span) (s : State), (s.at_ a).Starts idx x ∧ x.unit = 0x17 ∧ x.opcode = 1 ∧ x.dstLen < 1880) ∧
    (∃ (a : At) (idx : Nat) (x : Span) (s : State), (s.at_ a).Starts idx x ∧ x.unit = 0x17 ∧ x.opcode = 1 ∧ s.alc.pend = false ∧ 1880 ≤ x.dstLen ∧
      ((alcStreams (alcImage (s.at_ a).mem s.alc.active)).foldl max 0 + 4) / 4 ≤ x.srcLen ∧ (∀ b, (s.at_ a).mem.isBad b = false)) ∧
    (∃ (acc : Accessor) (k : Nat) (s : State), s.Admits acc Pg.ALC (Reg.ALC_P_DATA % 0x400) ∧ s.alc.pend = false ∧
      rfld s.alc.regs Reg.ALC_P_WIN 10 0 = k) ∧
    (∃ (acc : Accessor) (s : State), s.Admits acc Pg.ALC (Reg.ALC_P_DATA % 0x400) ∧ s.alc.pend = true) ∧
    (∃ (acc : Accessor) (s : State), s.Admits acc Pg.ALC (Reg.ALC_SWAP % 0x400) ∧ s.alc.pend = false) :=
  ⟨⟨t0, 0, (Mem.span (spanState 0x17 1 0 0).mem false 0), (spanState 0x17 1 0 0), by constructor <;> decide +kernel, by decide +kernel⟩,
    ⟨t0, 0, (Mem.span (spanState 0x17 1 0 1879).mem false 0), (spanState 0x17 1 0 1879), by constructor <;> decide +kernel, by decide +kernel⟩,
    ⟨t0, 0, (Mem.span (spanState 0x17 1 300 1880).mem false 0), (spanState 0x17 1 300 1880), by constructor <;> decide +kernel, by decide +kernel,
      by decide +kernel, by decide +kernel, by decide +kernel, by decide +kernel, sound_of_noFlips _ (by decide +kernel)⟩,
    ⟨.sup, 2047, (poke Reg.ALC_P_WIN 2047#32 (inMode .run)), by unfold State.Admits; decide +kernel, by decide +kernel⟩,
    ⟨.sup, { inMode .run with alc := { Alc.fresh with pend := true } }, by unfold State.Admits; decide +kernel, by decide +kernel⟩,
    ⟨.sup, (inMode .run), by unfold State.Admits; decide +kernel, by decide +kernel⟩⟩

/-- States and operands that meet the hypotheses of SolverCommands. -/
theorem witness_SolverCommands :
    (∃ (a : At) (idx : Nat) (x : Span) (s : State), (s.at_ a).Starts idx x ∧ x.unit = 0x10 ∧ x.opcode = 2) ∧
    (∃ (a : At) (idx : Nat) (x : Span) (s : State), (s.at_ a).Starts idx x ∧ x.unit = 0x10 ∧ x.opcode = 2 ∧ (x.srcLen < 1880 ∨ x.dstLen < 13)) ∧
    (∃ (a : At) (idx : Nat) (x : Span) (s : State), (s.at_ a).Starts idx x ∧ x.unit = 0x10 ∧ x.opcode = 2 ∧ 1880 ≤ x.srcLen ∧ 13 ≤ x.dstLen ∧ (∀ b,
      (s.at_ a).mem.isBad b = false)) ∧
    (∃ (a : At) (idx : Nat) (x : Span) (s : State), (s.at_ a).Starts idx x ∧ x.unit = 0x11 ∧ x.opcode = 2) ∧
    (∃ (acc : Accessor) (k : Nat) (s : State), s.Admits acc Pg.SOL0 (Reg.SOL0_IMG_DATA % 0x400) ∧ s.sol.pend = false ∧
      rfld s.sol.regs Reg.SOL0_IMG_WIN 14 0 = k ∧ k < 16896) ∧
    (∃ (acc : Accessor) (s : State), s.Admits acc Pg.SOL0 (Reg.SOL0_IMG_DATA % 0x400) ∧ s.sol.pend = true) ∧
    (∃ (acc : Accessor) (s : State), s.Admits acc Pg.SOL0 (Reg.SOL0_IMG_SWAP % 0x400) ∧ s.sol.pend = false) ∧
    (∃ (acc : Accessor) (s : State), s.Admits acc Pg.SOL0 (Reg.SOL0_WARM_CTRL % 0x400)) ∧
    (∃ (acc : Accessor) (k : Nat) (s : State), s.Admits acc Pg.SOL1 (Reg.SOL1_MEM_DATA % 0x400) ∧ s.mode ≠ .run ∧
      rfld s.sol.regs Reg.SOL1_MEM_WIN 18 0 = k) ∧
    (∃ (acc : Accessor) (s : State), s.Admits acc Pg.SOL1 (Reg.SOL1_MEM_DATA % 0x400) ∧ s.mode = .run) :=
  ⟨⟨t0, 0, (Mem.span (spanState 0x10 2 0 0).mem false 0), (spanState 0x10 2 0 0), by constructor <;> decide +kernel, by decide +kernel⟩,
    ⟨t0, 0, (Mem.span (spanState 0x10 2 1880 12).mem false 0), (spanState 0x10 2 1880 12), by constructor <;> decide +kernel, by decide +kernel⟩,
    ⟨t0, 0, (Mem.span (spanState 0x10 2 1880 13).mem false 0), (spanState 0x10 2 1880 13), by constructor <;> decide +kernel, by decide +kernel,
      by decide +kernel, by decide +kernel, by decide +kernel, sound_of_noFlips _ (by decide +kernel)⟩,
    ⟨t0, 0, (Mem.span (spanState 0x11 2 0 0).mem false 0), (spanState 0x11 2 0 0), by constructor <;> decide +kernel, by decide +kernel⟩,
    ⟨.sup, 16895, (poke Reg.SOL0_IMG_WIN 16895#32 (inMode .run)), by unfold State.Admits; decide +kernel, by decide +kernel⟩,
    ⟨.sup, { inMode .run with sol := { Sol.fresh with pend := true } }, by unfold State.Admits; decide +kernel, by decide +kernel⟩,
    ⟨.sup, (inMode .run), by unfold State.Admits; decide +kernel, by decide +kernel⟩,
    ⟨.sup, (inMode .run), by unfold State.Admits; decide +kernel⟩,
    ⟨.sup, 524287, (poke Reg.SOL1_MEM_WIN 0x7FFFF#32 (inMode .config)), by unfold State.Admits; decide +kernel, by decide +kernel⟩,
    ⟨.sup, (inMode .run), by unfold State.Admits; decide +kernel, by decide +kernel⟩⟩

/-- States and operands that meet the hypotheses of GnssBankCommands. -/
theorem witness_GnssBankCommands :
    (∃ (b : Fin 2) (mA : Nat) (s : State), s.pageUp (gnsPage b.val) = true ∧ rbit s.gns.regs (rk Reg.GNS_CTRL b.val 0) 0 = true ∧ mA < 5) ∧
    (∃ (b : Fin 2) (s : State), s.pageUp (gnsPage b.val) = true ∧ rbit s.gns.regs (rk Reg.GNS_CTRL b.val 0) 0 = true) ∧
    (∃ (b : Fin 2) (s : State), s.pageUp (gnsPage b.val) = true ∧ s.gns.supplyOff.testBit b.val = true) ∧
    (∃ (b : Fin 2) (s : State), s.pageUp (gnsPage b.val) = true) ∧
    (∃ (b : Fin 2) (s : State), s.pageUp (gnsPage b.val) = true) ∧
    (∃ (b : Fin 2) (s : State), s.works (gnsPage b.val) = true ∧ s.grant 18 = true) ∧
    (∃ (b : Fin 2) (c : Fin 24) (s : State), s.works (gnsPage b.val) = true ∧ (s.gns.chan b.val c.val).state = 1) ∧
    (∃ (b : Fin 2) (c : Fin 24) (s : State), s.works (gnsPage b.val) = true ∧ (s.gns.chan b.val c.val).state = 2) ∧
    (∃ (s : State), s.works Pg.GNSC = true) :=
  ⟨⟨1, 4, (poke (rk Reg.GNS_CTRL 1 0) 1#32 (inMode .run)), by decide +kernel⟩,
    ⟨1, (poke (rk Reg.GNS_CTRL 1 0) 1#32 (inMode .run)), by decide +kernel⟩,
    ⟨1, { inMode .run with gns := { Gns.fresh with supplyOff := 2 } }, by decide +kernel⟩,
    ⟨1, (inMode .run), by decide +kernel⟩,
    ⟨1, (inMode .run), by decide +kernel⟩,
    ⟨1, (inMode .run), by decide +kernel⟩,
    ⟨1, 23, { inMode .run with gns := Gns.fresh.put 1 23 { GnsChan.idle with state := 1 } }, by decide +kernel⟩,
    ⟨1, 23, { inMode .run with gns := Gns.fresh.put 1 23 { GnsChan.idle with state := 2 } }, by decide +kernel⟩,
    ⟨(inMode .run), by decide +kernel⟩⟩

/-- States and operands that meet the hypotheses of GnssSolutionAndSnapshotCommands. -/
theorem witness_GnssSolutionAndSnapshotCommands :
    (∃ (a : At) (idx : Nat) (x : Span) (s : State), (s.at_ a).Starts idx x ∧ x.unit = 0x16 ∧ x.opcode = 1 ∧ x.dstLen < 2) ∧
    (∃ (a : At) (idx : Nat) (x : Span) (s : State), (s.at_ a).Starts idx x ∧ x.unit = 0x16 ∧ x.opcode = 1 ∧ 2 ≤ x.dstLen) ∧
    (∃ (s : State), s.works Pg.GNSC = true ∧ s.mode.active = true ∧ rbit s.gns.regs Reg.GNSC_PPS_CFG 0 = true ∧
      rbit s.gns.regs Reg.GNSC_PPS_CFG 11 = false ∧ s.gns.ppsAt = none) ∧
    (∃ (s : State), rbit s.gns.regs Reg.GNSC_PPS_CFG 0 = false) ∧
    (∃ (s : State), s.pageUp Pg.GNSC = true) ∧
    (∃ (acc : Accessor) (s : State), s.Admits acc Pg.GNSC (Reg.GNSC_SNAP_CTRL % 0x400) ∧ s.gns.snapBusy = false) ∧
    (∃ (acc : Accessor) (s : State), s.Admits acc Pg.GNSC (Reg.GNSC_SNAP_CTRL % 0x400) ∧ s.gns.snapBusy = true ∧ s.gns.capture = none) ∧
    (∃ (a : At) (idx : Nat) (x : Span) (s : State), (s.at_ a).Starts idx x ∧ x.unit = 0x18 ∧ x.opcode = 1 ∧ s.gns.snapBusy = false) ∧
    (∃ (t0 : Int) (lenMs : Nat) (ant : Nat) (epoch : Nat) (s : State), s.pageUp Pg.GNSC = true ∧ s.gns.capture = some (t0, lenMs, ant, epoch)) ∧
    (∃ (acc : Accessor) (s : State), s.Admits acc Pg.GNSC (Reg.GNSC_SNAP_CTRL % 0x400) ∧ s.feature 10 = true ∧
      rbit s.gns.regs Reg.GNSC_SNAP_STAT 3 = true ∧ s.gns.snapBusy = false) ∧
    (∃ (a : At) (s : State), s.pageUp Pg.GNSC = true ∧ rbit s.gns.regs Reg.GNSC_SNAP_STAT 1 = true ∧ s.grant 21 = true ∧ s.islandUp 2 = true ∧
      s.gns.exported < snapPackets (s.at_ a).mem) ∧
    (∃ (acc : Accessor) (s : State), s.Admits acc Pg.GNSC (Reg.GNSC_SNAP_CTRL % 0x400) ∧ rbit s.gns.regs Reg.GNSC_SNAP_STAT 3 = true ∧
      s.gns.snapBusy = false) ∧
    (∃ (s : State), s.pageUp Pg.GNSC = true ∧ rbit s.gns.regs Reg.GNSC_SNAP_STAT 2 = true) :=
  ⟨⟨t0, 0, (Mem.span (spanState 0x16 1 0 1).mem false 0), (spanState 0x16 1 0 1), by constructor <;> decide +kernel, by decide +kernel⟩,
    ⟨t0, 0, (Mem.span (spanState 0x16 1 0 2).mem false 0), (spanState 0x16 1 0 2), by constructor <;> decide +kernel, by decide +kernel⟩,
    ⟨(inMode .run), by decide +kernel⟩,
    ⟨(poke Reg.GNSC_PPS_CFG 0#32 (inMode .run)), by decide +kernel⟩,
    ⟨(inMode .run), by decide +kernel⟩,
    ⟨.sup, (inMode .run), by unfold State.Admits; decide +kernel, by decide +kernel⟩,
    ⟨.sup, (poke Reg.GNSC_SNAP_STAT 2#32 (inMode .run)), by unfold State.Admits; decide +kernel, by decide +kernel⟩,
    ⟨t0, 0, (Mem.span (spanState 0x18 1 0 0).mem false 0), (spanState 0x18 1 0 0), by constructor <;> decide +kernel, by decide +kernel⟩,
    ⟨0, 1, 3, 0, { inMode .run with gns := { Gns.fresh with capture := some (0, 1, 3, 0) } }, by decide +kernel⟩,
    ⟨.sup, (accepted 10 (poke Reg.GNSC_SNAP_STAT 8#32 (inMode .run))), by unfold State.Admits; decide +kernel, by decide +kernel⟩,
    ⟨t0, { poke Reg.GNSC_SNAP_STAT 2#32 (inMode .run) with mem := ⟨storeBytes [] 0x54000000 (List.replicate 64 255), []⟩ }, by decide +kernel⟩,
    ⟨.sup, (poke Reg.GNSC_SNAP_STAT 8#32 (inMode .run)), by unfold State.Admits; decide +kernel, by decide +kernel⟩,
    ⟨(poke Reg.GNSC_SNAP_STAT 4#32 (inMode .run)), by decide +kernel⟩⟩

/-- States and operands that meet the hypotheses of TaskCommands. -/
theorem witness_TaskCommands :
    (∃ (i : Fin 48) (d : Task) (s : State), s.prg.defn i.val = some d ∧ d.core < 3 ∧ s.works (Pg.PRG + d.core) = true ∧
      (s.prg.task i.val).copying = true) ∧
    (∃ (i : Fin 48) (d : Task) (s : State), s.prg.defn i.val = some d ∧ d.core < 3 ∧ s.works (Pg.PRG + d.core) = true ∧
      (s.prg.task i.val).phase = .running ∧ (s.prg.task i.val).again = false) ∧
    (∃ (i : Fin 48) (d : Task) (e : MapEntry) (s : State), s.prg.defn i.val = some d ∧ d.core < 3 ∧ s.works (Pg.PRG + d.core) = true ∧
      (s.prg.task i.val).phase = .running ∧ d.outMap = [e]) ∧
    (∃ (i : Fin 48) (d : Task) (s : State), s.prg.defn i.val = some d ∧ d.core < 3 ∧ s.works (Pg.PRG + d.core) = true ∧
      (s.prg.task i.val).phase = .running ∧ (s.prg.task i.val).again = false ∧ (s.prg.task i.val).stopReq = false) ∧
    (∃ (i : Fin 48) (d : Task) (s : State), s.prg.defn i.val = some d ∧ d.core < 3 ∧ s.works (Pg.PRG + d.core) = true) ∧
    (∃ (acc : Accessor) (i : Nat) (d : Task) (s : State), s.Admits acc Pg.PRG (Reg.PRG_T_CTRL % 0x400) ∧ (rget s.prg.regs Reg.PRG_TSEL).toNat = i ∧
      i < 48 ∧ s.prg.defn i = some d) ∧
    (∃ (acc : Accessor) (i : Nat) (d : Task) (s : State), s.Admits acc Pg.PRG (Reg.PRG_T_CTRL % 0x400) ∧ (rget s.prg.regs Reg.PRG_TSEL).toNat = i ∧
      i < 48 ∧ s.prg.defn i = some d ∧ (s.prg.task i).phase = .stopped) ∧
    (∃ (acc : Accessor) (i : Nat) (s : State), s.Admits acc Pg.PRG (Reg.PRG_T_CTRL % 0x400) ∧ (rget s.prg.regs Reg.PRG_TSEL).toNat = i ∧ i < 48) :=
  ⟨⟨47, task47, (tasked { TaskState.fresh with copying := true }), by decide +kernel⟩,
    ⟨47, task47, (tasked { TaskState.fresh with phase := .running }), by decide +kernel⟩,
    ⟨47, task47, (⟨64, 0, 1, 0⟩), (tasked { TaskState.fresh with phase := .running }), by decide +kernel⟩,
    ⟨47, task47, (tasked { TaskState.fresh with phase := .running }), by decide +kernel⟩,
    ⟨47, task47, (tasked { TaskState.fresh with phase := .running }), by decide +kernel⟩,
    ⟨(.core 0), 47, task47, (poke Reg.PRG_TSEL 47#32 (tasked { TaskState.fresh with phase := .running })), by unfold State.Admits; decide +kernel,
      by decide +kernel⟩,
    ⟨(.core 0), 47, task47, (poke Reg.PRG_TSEL 47#32 (tasked { TaskState.fresh with phase := .stopped })), by unfold State.Admits; decide +kernel,
      by decide +kernel⟩,
    ⟨.sup, 47, (poke Reg.PRG_TSEL 47#32 (inMode .run)), by unfold State.Admits; decide +kernel, by decide +kernel⟩⟩

/-- States and operands that meet the hypotheses of RetainForceAndChangeCommands. -/
theorem witness_RetainForceAndChangeCommands :
    (∃ (s : State), s.islandUp 1 = true ∧ s.sup.dead = false ∧ s.prg.image.isSome = true) ∧
    (∃ (acc : Accessor) (s : State), s.Admits acc Pg.PRG (Reg.PRG_RET_CTRL % 0x400) ∧ s.islandUp 1 = true ∧ s.sup.dead = false ∧
      s.prg.image.isSome = true) ∧
    (∃ (sh : List Host.Cell) (s : State), s.pageUp Pg.PRG = true ∧ s.sup.dead = false ∧ s.prg.saving = some sh) ∧
    (∃ (sh : List Host.Cell) (s : State), s.pageUp Pg.PRG = true ∧ s.sup.dead = false ∧ s.prg.saving = some sh) ∧
    (∃ (acc : Accessor) (i : Nat) (s : State), s.Admits acc Pg.PRG (Reg.PRG_FRC_WORD % 0x400) ∧ (rget s.prg.regs Reg.PRG_FRC_SEL).toNat = i ∧
      i < 1024) ∧
    (∃ (acc : Accessor) (s : State), s.Admits acc Pg.PRG (Reg.PRG_CHG_CTRL % 0x400) ∧ s.feature 11 = true) ∧
    (∃ (acc : Accessor) (s : State), s.Admits acc Pg.PRG (Reg.PRG_CHG_CTRL % 0x400) ∧ s.feature 11 = true) ∧
    (∃ (acc : Accessor) (s : State), s.Admits acc Pg.PRG (Reg.PRG_CHG_CTRL % 0x400)) ∧
    (∃ (a : At) (new : Image) (s : State), s.pageUp Pg.PRG = true ∧ s.mode = .run ∧ s.prg.other = some new ∧ (s.at_ a).tick = 0 ∧
      s.prg.atChangePoint s.seq.count = true) ∧
    (∃ (s : State), s.pageUp Pg.PRG = true ∧ s.prg.waitExpired = true) ∧
    (∃ (s : State), s.pageUp Pg.PRG = true ∧ s.prg.chgState = 1 ∧ s.sup.dead = false) :=
  ⟨⟨(tasked TaskState.fresh), by decide +kernel⟩,
    ⟨(.core 2), (tasked TaskState.fresh), by unfold State.Admits; decide +kernel, by decide +kernel⟩,
    ⟨[], { inMode .run with prg := { Prg.fresh none none with saving := some [] } }, by decide +kernel⟩,
    ⟨[], { inMode .run with prg := { Prg.fresh none none with saving := some [] } }, by decide +kernel⟩,
    ⟨.sup, 1023, (poke Reg.PRG_FRC_SEL 1023#32 (inMode .run)), by unfold State.Admits; decide +kernel, by decide +kernel⟩,
    ⟨.sup, (accepted 11 (inMode .run)), by unfold State.Admits; decide +kernel, by decide +kernel⟩,
    ⟨.sup, (accepted 11 (inMode .run)), by unfold State.Admits; decide +kernel, by decide +kernel⟩,
    ⟨.sup, (inMode .run), by unfold State.Admits; decide +kernel⟩,
    ⟨t0, image47, changing, by decide +kernel⟩,
    ⟨expired, by decide +kernel⟩,
    ⟨(poke Reg.PRG_CHG_STAT 1#32 (inMode .run)), by decide +kernel⟩⟩

/-- States and operands that meet the hypotheses of ChainFramesAndReceives. -/
theorem witness_ChainFramesAndReceives :
    (∃ (a : At) (bs : List Byte) (s : State), s.pageUp Pg.CHN = true ∧ ((s.at_ a).chnEnv.on = true ∨ (s.at_ a).chnEnv.halt = true) ∧
      parseFrame bs = none) ∧
    (∃ (a : At) (bs : List Byte) (f : ChainFrame) (s : State), (s.at_ a).Accepts bs f) ∧
    (∃ (a : At) (bs : List Byte) (f : ChainFrame) (s : State), (s.at_ a).Accepts bs f ∧ f.subtype = 1 ∧ f.body.length = 48) ∧
    (∃ (a : At) (bs : List Byte) (f : ChainFrame) (s : State), (s.at_ a).Accepts bs f ∧ f.subtype = 2) ∧
    (∃ (a : At) (bs : List Byte) (f : ChainFrame) (n : Nat) (blk : Nat) (len : Nat) (s : State), (s.at_ a).Accepts bs f ∧ f.subtype = 3 ∧
      n = byteAt f.body 0 ∧ s.chn.pub n = (blk, len, true) ∧ n < 8 ∧ len ≠ 0 ∧ s.mode = .run ∧ s.chn.role ≠ 1 ∧
      1920 * byteAt f.body 1 + (f.body.drop 8).length ≤ 32 * len) ∧
    (∃ (a : At) (bs : List Byte) (f : ChainFrame) (s : State), (s.at_ a).Accepts bs f ∧ f.subtype = 4 ∧ s.chn.role = 4) ∧
    (∃ (a : At) (bs : List Byte) (f : ChainFrame) (s : State), (s.at_ a).Accepts bs f ∧ f.subtype = 5 ∧ f.body.length = 156) ∧
    (∃ (a : At) (bs : List Byte) (f : ChainFrame) (x : Sample) (k : Nat) (s : State), (s.at_ a).Accepts bs f ∧ f.subtype = 6 ∧ readSamples f = [x] ∧
      s.islandUp 5 = true ∧ hdrEnabled s.hdr Pg.FLT = true ∧ s.flt.takers x = [k] ∧ s.flt.inRate < 1000000 ∧ (s.flt.stream k).lastTake = none) ∧
    (∃ (a : At) (bs : List Byte) (d : List Byte) (f : ChainFrame) (k : Nat) (s : State), (s.at_ a).Accepts bs f ∧ f.subtype = 7 ∧
      d = sliceB f.body 16 (be16 f.body 12) ∧ s.works Pg.FUS0 = true ∧ s.feature 7 = true ∧ rbit s.fus.regs Reg.FUS0_CTRL 0 = true ∧
      s.fus.checkDatagram (beNat (sliceB f.body 8 4)) d = .inr k ∧ bit s.fus.srcSel k = true ∧ bits (s.fus.cfg k) 23 16 = f.origin ∧
      1000 * s.seq.startUs ≤ signed 64 (beNat (sliceB f.body 0 8)) ∧ (∀ e,
      s.fus.last.find? (fun e => e.1 == k) = some e → (beNat (sliceB d 20 4) + 4294967296 - e.2) % 4294967296 = 1) ∧
      (if s.fus.rateFno = s.seq.count then s.fus.ratePts else 0) + pdCount d ≤ pointAllowance s.seq.lenUs) ∧
    (∃ (a : At) (bs : List Byte) (f : ChainFrame) (s : State), (s.at_ a).Accepts bs f ∧ f.subtype = 8 ∧ byteAt f.body 0 = s.chn.base ∧
      byteAt f.body 1 ≠ 0x15 ∧ s.chn.role = 2 ∧ s.chn.synced = false) ∧
    (∃ (a : At) (bs : List Byte) (f : ChainFrame) (s : State), (s.at_ a).Accepts bs f ∧ f.subtype = 9) ∧
    (∃ (a : At) (bs : List Byte) (f : ChainFrame) (s : State), (s.at_ a).Accepts bs f ∧ f.subtype = 10 ∧
      byteAt f.body 0 = rfld s.chn.regs Reg.CHN_OP_STAT 15 8 ∧ byteAt f.body 1 = s.chn.opId ∧ s.chn.opBusy = true ∧
      rbit s.chn.regs (baseCell Reg.CHN_OP_TGT f.origin) (f.origin % 32) = true) :=
  ⟨⟨t0, [0], chained, by decide +kernel⟩,
    ⟨t0, (buildFrame (frame 1 [])), (frame 1 []), chained,
      accepted_frame (by decide +kernel) (by decide +kernel) (by decide +kernel) (by decide +kernel) (by decide +kernel)⟩,
    ⟨t0, (buildFrame (frame 1 (List.replicate 48 0))), (frame 1 (List.replicate 48 0)), chained,
      accepted_frame (by decide +kernel) (by decide +kernel) (by decide +kernel) (by decide +kernel) (by decide +kernel), by decide +kernel⟩,
    ⟨t0, (buildFrame (frame 2 [])), (frame 2 []), chained,
      accepted_frame (by decide +kernel) (by decide +kernel) (by decide +kernel) (by decide +kernel) (by decide +kernel), by decide +kernel⟩,
    ⟨t0, (buildFrame (frame 3 ([7] ++ List.replicate 8 0))), (frame 3 ([7] ++ List.replicate 8 0)), 7, 2, 1, chainPub,
      accepted_frame (by decide +kernel) (by decide +kernel) (by decide +kernel) (by decide +kernel) (by decide +kernel), by decide +kernel⟩,
    ⟨t0, (buildFrame (frame 4 [])), (frame 4 []), { chained with chn := { chained.chn with role := 4 } },
      accepted_frame (by decide +kernel) (by decide +kernel) (by decide +kernel) (by decide +kernel) (by decide +kernel), by decide +kernel⟩,
    ⟨t0, (buildFrame (frame 5 (List.replicate 156 0))), (frame 5 (List.replicate 156 0)), chained,
      accepted_frame (by decide +kernel) inputFrame_parses (by decide +kernel) (by decide +kernel) (by decide +kernel), by decide +kernel⟩,
    ⟨t0, (buildFrame (frame 6 sampleBody)), (frame 6 sampleBody), (⟨0x20, 0x100, 0, 0⟩), 0, chainTaker,
      accepted_frame (by decide +kernel) (by decide +kernel) (by decide +kernel) (by decide +kernel) (by decide +kernel), by decide +kernel⟩,
    ⟨t0, (buildFrame (frame 7 datagramBody)), (pointData 0), (frame 7 datagramBody), 5, chainScanner,
      accepted_frame (by decide +kernel) (by decide +kernel) (by decide +kernel) (by decide +kernel) (by decide +kernel), by decide +kernel,
      by decide +kernel, by decide +kernel, by decide +kernel, by decide +kernel, by decide +kernel, by decide +kernel, by decide +kernel,
      by decide +kernel, (by intro e h; cases h), by decide +kernel⟩,
    ⟨t0, (buildFrame (frame 8 [0, 0])), (frame 8 [0, 0]), { chained with chn := { chained.chn with role := 2 } },
      accepted_frame (by decide +kernel) (by decide +kernel) (by decide +kernel) (by decide +kernel) (by decide +kernel), by decide +kernel⟩,
    ⟨t0, (buildFrame (frame 9 [1])), (frame 9 [1]), chained,
      accepted_frame (by decide +kernel) (by decide +kernel) (by decide +kernel) (by decide +kernel) (by decide +kernel), by decide +kernel⟩,
    ⟨t0, (buildFrame (frame 10 [0, 0])), (frame 10 [0, 0]), (poke (baseCell Reg.CHN_OP_TGT 1) 2#32 (poke Reg.CHN_OP_STAT 1#32 chained)),
      accepted_frame (by decide +kernel) (by decide +kernel) (by decide +kernel) (by decide +kernel) (by decide +kernel), by decide +kernel⟩⟩

/-- States and operands that meet the hypotheses of ChainSpansJudgmentAndOperations. -/
theorem witness_ChainSpansJudgmentAndOperations :
    (∃ (a : At) (idx : Nat) (x : Span) (s : State), (s.at_ a).Starts idx x ∧ x.unit = 0x20 ∧ x.opcode = 2) ∧
    (∃ (a : At) (idx : Nat) (x : Span) (s : State), (s.at_ a).Starts idx x ∧ x.unit = 0x20 ∧ x.opcode = 1) ∧
    (∃ (a : At) (f : Nat) (s : State), s.works Pg.CHN = true ∧ (s.at_ a).chnEnv.on = true ∧ s.mode = .run ∧
      f = (s.at_ a).chnEnv.judgeable s.chn.window ∧ (∀ j, s.chn.judged = some j → j < f) ∧ (s.chn.members.map (·.1)).Nodup) ∧
    (∃ (s : State), s.works Pg.CHN = true) ∧
    (∃ (a : At) (s : State), s.works Pg.CHN = true ∧ (s.at_ a).chnEnv.on = true ∧ s.mode = .run ∧ s.chn.role ≠ 1) ∧
    (∃ (acc : Accessor) (s : State), s.Admits acc Pg.CHN (Reg.CHN_OP_GO % 0x400) ∧ s.chn.opBusy = false) ∧
    (∃ (acc : Accessor) (s : State), s.Admits acc Pg.CHN (Reg.CHN_OP_GO % 0x400) ∧ s.chn.opBusy = true) ∧
    (∃ (s : State), s.works Pg.CHN = true ∧ s.chn.opBusy = true ∧ s.chn.opFno + 4 ≤ s.seq.count) ∧
    (∃ (acc : Accessor) (s : State), s.Admits acc Pg.CHN (Reg.CHN_CTRL % 0x400)) ∧
    (∃ (acc : Accessor) (s : State), s.Admits acc Pg.CHN (Reg.CHN_CTRL % 0x400) ∧ s.chn.role = 2 ∧ s.chn.synced = true) :=
  ⟨⟨t0, 0, (Mem.span (spanState 0x20 2 0 0).mem false 0), (spanState 0x20 2 0 0), by constructor <;> decide +kernel, by decide +kernel⟩,
    ⟨t0, 0, (Mem.span (spanState 0x20 1 0 0).mem false 0), (spanState 0x20 1 0 0), by constructor <;> decide +kernel, by decide +kernel⟩,
    ⟨t0, ((({ chained with mode := .run } : State).at_ t0).chnEnv.judgeable 400), { chained with mode := .run }, by decide +kernel,
      by decide +kernel, rfl, by decide +kernel, (by intro j h; cases h), List.nodup_nil⟩,
    ⟨(inMode .run), by decide +kernel⟩,
    ⟨t0, { chained with mode := .run }, by decide +kernel⟩,
    ⟨(.core 1), (inMode .run), by unfold State.Admits; decide +kernel, by decide +kernel⟩,
    ⟨.sup, (poke Reg.CHN_OP_STAT 1#32 (inMode .run)), by unfold State.Admits; decide +kernel, by decide +kernel⟩,
    ⟨{ poke Reg.CHN_OP_STAT 1#32 (inMode .run) with seq := { Seq.fresh with count := 4 } }, by decide +kernel⟩,
    ⟨.sup, (inMode .run), by unfold State.Admits; decide +kernel⟩,
    ⟨.sup, { inMode .run with chn := { Chn.fresh [] 0 with role := 2, synced := true } }, by unfold State.Admits; decide +kernel,
      by decide +kernel⟩⟩

/-- States and operands that meet the hypotheses of PtpCommands. -/
theorem witness_PtpCommands :
    (∃ (port : Fin 4) (m : List Byte) (s : State), s.works Pg.PTP = true ∧ s.ptp.takes port.val m = true ∧ s.ptp.parent = some (ptpSource m) ∧
      rfld s.ptp.regs Reg.PTP_STAT 2 0 = port.val + 1 ∧ ptpType m = 0 ∧ ptpTwoStep m = false ∧ s.tim.pend = none) ∧
    (∃ (port : Fin 4) (m : List Byte) (s : State), s.works Pg.PTP = true ∧ s.ptp.takes port.val m = true ∧ s.ptp.parent = some (ptpSource m) ∧
      rfld s.ptp.regs Reg.PTP_STAT 2 0 = port.val + 1 ∧ ptpType m = 0 ∧ ptpTwoStep m = true) ∧
    (∃ (port : Fin 4) (m : List Byte) (s : State), s.works Pg.PTP = true ∧ s.ptp.takes port.val m = true ∧ ptpType m = 11) ∧
    (∃ (s : State), s.works Pg.PTP = true) ∧
    (∃ (port : Fin 4) (m : List Byte) (s : State), s.works Pg.PTP = true ∧ s.ptp.takes port.val m = true ∧ ptpType m = 2) ∧
    (∃ (a : At) (port : Fin 4) (m : List Byte) (t1 : Int) (s : State), s.works Pg.PTP = true ∧ s.ptp.takes port.val m = true ∧ ptpType m = 3 ∧
      ptpTwoStep m = false ∧ s.ptp.requests.find? (fun r => r.1 == port.val && r.2.1 == ptpSeq m) = some (port.val, ptpSeq m, t1,
      (s.at_ a).epoch)) ∧
    (∃ (m : List Byte) (s : State), s.works Pg.PTP = true ∧ 34 ≤ m.length ∧ ptpType m ≠ 2 ∧ ptpType m ≠ 3 ∧ ptpType m ≠ 10 ∧ s.ptp.forwarded = []) ∧
    (∃ (a : At) (s : State), s.works Pg.PTP = true ∧ s.ptp.transmits (s.at_ a).clockClass (s.at_ a).clockIdent = true) ∧
    (∃ (a : At) (s : State), s.works Pg.PTP = true ∧ s.ptp.transmits (s.at_ a).clockClass (s.at_ a).clockIdent = true) ∧
    (∃ (port : Fin 4) (s : State), s.works Pg.PTP = true ∧ rbit s.ptp.regs (rk Reg.PTP_P_CFG 0 port.val) 0 = true ∧
      (s.ptp.peer port.val = true ∨ rfld s.ptp.regs Reg.PTP_STAT 2 0 = port.val + 1)) :=
  ⟨⟨3, (ptpMessage 0 0), ptpSlave, by decide +kernel⟩,
    ⟨3, (ptpMessage 0 2), ptpSlave, by decide +kernel⟩,
    ⟨3, (ptpMessage 11 0), ptpSlave, by decide +kernel⟩,
    ⟨(inMode .run), by decide +kernel⟩,
    ⟨3, (ptpMessage 2 0), ptpSlave, by decide +kernel⟩,
    ⟨t0, 3, (ptpMessage 3 0), 0, { ptpSlave with ptp := { ptpSlave.ptp with requests := [(3, 0, 0, 0)] } }, by decide +kernel⟩,
    ⟨(ptpMessage 0 0), (inMode .run), by decide +kernel⟩,
    ⟨t0, ptpMaster, by decide +kernel⟩,
    ⟨t0, ptpMaster, by decide +kernel⟩,
    ⟨3, ptpSlave, by decide +kernel⟩⟩

/-- States and operands that meet the hypotheses of ModuleTimeCommands. -/
theorem witness_ModuleTimeCommands :
    (∃ (a : At) (p : Int) (s : State), s.pageUp Pg.TIM = true ∧ s.tim.pend = none ∧ s.tim.ppsLast = some p ∧
      ((s.at_ a).tim.time - p - 1000000000).natAbs ≤ 100000) ∧
    (∃ (a : At) (s : State), s.pageUp Pg.TIM = true ∧ s.tim.pend = none ∧ (∀ p,
      s.tim.ppsLast = some p → 100000 < ((s.at_ a).tim.time - p - 1000000000).natAbs)) ∧
    (∃ (s : State), s.pageUp Pg.TIM = true) ∧
    (∃ (s : State), s.pageUp Pg.TIM = true) ∧
    (∃ (a : At) (p : PendingStep) (s : State), s.pageUp Pg.TIM = true ∧ s.tim.pend = some p ∧ (s.counting = false ∨ ((s.at_ a).tick = 0 ∧
      (s.tim.stepDue (1000 * s.seq.startUs)).isSome = true))) ∧
    (∃ (a : At) (s : State), s.counting = true ∧ ((s.at_ a).tick ≠ 0 ∨ s.tim.stepDue (1000 * s.seq.startUs) = none)) ∧
    (∃ (acc : Accessor) (w : Nat) (s : State), s.Admits acc Pg.TIM (Reg.TIM_TM_CFG % 0x400) ∧ (rget s.tim.regs Reg.TIM_TM_SEL).toNat = w ∧ w < 15) ∧
    (∃ (s : State), s.pageUp Pg.TIM = true) ∧
    (∃ (s : State), s.pageUp Pg.TIM = true) ∧
    (∃ (s : State), s.pageUp Pg.TIM = true) :=
  ⟨⟨t0, -1000100000, { inMode .run with tim := { Tim.fresh with ppsLast := some (-1000100000) } }, by decide +kernel⟩,
    ⟨t0, (inMode .run), by decide +kernel, rfl, (by intro p h; cases h)⟩,
    ⟨(inMode .run), by decide +kernel⟩,
    ⟨(inMode .run), by decide +kernel⟩,
    ⟨t0, (⟨5000, none⟩), { inMode .config with tim := { Tim.fresh with pend := some ⟨5000, none⟩ } }, by decide +kernel⟩,
    ⟨t0, { inMode .run with seq := { Seq.fresh with counted := true } }, by decide +kernel⟩,
    ⟨(.core 0), 14, (poke Reg.TIM_TM_SEL 14#32 (inMode .run)), by unfold State.Admits; decide +kernel, by decide +kernel⟩,
    ⟨(inMode .run), by decide +kernel⟩,
    ⟨(inMode .run), by decide +kernel⟩,
    ⟨(inMode .run), by decide +kernel⟩⟩

/-- States and operands that meet the hypotheses of NetworkCommands. -/
theorem witness_NetworkCommands :
    (∃ (port : Fin 4) (s : State), s.pageUp (Pg.ETH + port.val) = true ∧ rbit s.net.regs (rk Reg.ETH_STAT port 0) 0 = true) ∧
    (∃ (port : Fin 4) (speed : Nat) (s : State), s.pageUp (Pg.ETH + port.val) = true ∧ speed < 4 ∧
      rbit s.net.regs (rk Reg.ETH_STAT port 0) 0 = false) ∧
    (∃ (port : Fin 4) (s : State), s.pageUp (Pg.ETH + port.val) = true) ∧
    (∃ (bs : List Byte) (f : List Byte) (s : State), s.works Pg.PRP = true ∧ untagged bs = some f) ∧
    (∃ (bs : List Byte) (s : State), s.works Pg.PRP = true ∧ untagged bs = none) ∧
    (∃ (s : State), s.works Pg.PRP = true ∧ s.net.prpOn (s.feature 13) = true ∧ rbit s.net.regs Reg.PRP_CTRL 1 = true) ∧
    (∃ (a : At) (lan : Fin 2) (s : State), s.works Pg.PRP = true ∧ rbit s.net.regs Reg.PRP_LAN_STAT lan.val = true ∧ (∀ n,
      (if lan.val = 0 then s.net.lastA else s.net.lastB) = some n → 6000000000 ≤ (s.at_ a).tim.time - n)) ∧
    (∃ (bs : List Byte) (f : List Byte) (s : State), s.works Pg.PRP = true ∧ untagged bs = some f ∧ rget s.net.regs Reg.PRP_IP ≠ 0#32 ∧
      beNat (sliceB f 12 2) = 0x0806 ∧ beNat (sliceB f 20 2) = 1 ∧ beNat (sliceB f 38 4) = (rget s.net.regs Reg.PRP_IP).toNat ∧
      s.net.prpOn (s.feature 13) = false) ∧
    (∃ (g : Nat) (group : Nat) (port : Nat) (k : Nat) (data : List Byte) (cs : List Nat) (name : List Nat) (s : State), s.works Pg.PRP = true ∧
      g < 8 ∧ rbit s.net.regs (rk Reg.PRP_MC_PORT 0 g) 31 = true ∧ (rget s.net.regs (rk Reg.PRP_MC_GRP 0 g)).toNat = group ∧
      rfld s.net.regs (rk Reg.PRP_MC_PORT 0 g) 15 0 = port ∧ (∀ h, h < g → rbit s.net.regs (rk Reg.PRP_MC_PORT 0 h) 31 = false) ∧
      (data.map (·.toNat)).take 6 = [0x55, 0x64, 0x50, 0x62, 0x43, 0] ∧ datagramSentences data.length ((data.map (·.toNat)).drop 6) = [cs] ∧
      cs.head? = some Ch.dollar ∧ (readSentence cs).address = some name ∧ k < 32 ∧ rbit s.net.regs (rk Reg.PRP_F_CFG 0 k) 8 = true ∧
      rfld s.net.regs (rk Reg.PRP_F_CFG 0 k) 11 9 = g ∧
      addressMatches name (rget s.net.regs (rk Reg.PRP_F_ADDR 0 k)) (rfld s.net.regs (rk Reg.PRP_F_CFG 0 k) 7 0) = true ∧ (∀ j,
      j < k → rbit s.net.regs (rk Reg.PRP_F_CFG 0 j) 8 = false)) ∧
    (∃ (data : List Byte) (s : State), s.works Pg.PRP = true ∧ (data.map (·.toNat)).take 6 ≠ [0x55, 0x64, 0x50, 0x62, 0x43, 0]) :=
  ⟨⟨3, (poke (rk Reg.ETH_STAT 3 0) 1#32 (inMode .run)), by decide +kernel⟩,
    ⟨3, 2, (inMode .run), by decide +kernel⟩,
    ⟨3, (inMode .run), by decide +kernel⟩,
    ⟨(List.replicate 64 0), (List.replicate 64 0), (inMode .run), by decide +kernel⟩,
    ⟨((List.replicate 12 0 ++ [0x81, 0, 0, 1])), (inMode .run), by decide +kernel⟩,
    ⟨(accepted 13 (inMode .run)), by decide +kernel⟩,
    ⟨(⟨6000000000, []⟩), 1,
      { poke Reg.PRP_LAN_STAT 2#32 (inMode .run) with net := { (poke Reg.PRP_LAN_STAT 2#32 (inMode .run)).net with lastB := some 0 } },
      by decide +kernel, by decide +kernel, (by intro n h; cases h; decide +kernel)⟩,
    ⟨arpFrame, arpFrame, (poke Reg.PRP_IP 0xC0A80001#32 (inMode .run)), by decide +kernel⟩,
    ⟨0, 0xEFC00001, 60001, 0, udpData, [36, 71, 80, 90, 68, 65], [71, 80, 90, 68, 65], udpState, by decide +kernel, by decide +kernel,
      by decide +kernel, by decide +kernel, by decide +kernel, (by intro j h; exact absurd h (by omega)), by decide +kernel, by decide +kernel,
      by decide +kernel, by decide +kernel, by decide +kernel, by decide +kernel, by decide +kernel, by decide +kernel,
      (by intro j h; exact absurd h (by omega))⟩,
    ⟨[0], (inMode .run), by decide +kernel⟩⟩

/-- States and operands that meet the hypotheses of ServiceSessionsCommands. -/
theorem witness_ServiceSessionsCommands :
    (∃ (bs : List Byte) (k : List Byte) (q : Request_) (s : State), s.serviceUp = true ∧ readRequest bs = some q ∧ q.op = 1 ∧ byteAt q.rest 0 ≠ 0xFF ∧
      keyOf s.nvs.keys (byteAt q.rest 0) = some k ∧ tagOk k bs = true ∧ q.rest.length = 49 ∧ s.net.sessions.length < 4) ∧
    (∃ (bs : List Byte) (q : Request_) (s : State), s.serviceUp = true ∧ readRequest bs = some q ∧ q.op = 1 ∧ byteAt q.rest 0 = 0xFF ∧
      s.mode = .config ∧ s.nvs.keys = [] ∧ q.rest.length = 17 ∧ s.net.sessions.length < 4) ∧
    (∃ (bs : List Byte) (k : List Byte) (q : Request_) (s : State), s.serviceUp = true ∧ readRequest bs = some q ∧ q.op = 1 ∧
      byteAt q.rest 0 ≠ 0xFF ∧ keyOf s.nvs.keys (byteAt q.rest 0) = some k ∧ tagOk k bs = false) ∧
    (∃ (a : At) (n : Nat) (ok : Bool) (bs : List Byte) (q : Request_) (x : Session) (s : State) (c : Nat × Instr), c ∈ serviceRequests a n ok bs ∧
      s.serviceUp = true ∧ s.answers c.1 = true ∧ readRequest bs = some q ∧ q.op = c.1 ∧
      s.net.sessions.find? (fun y => y.number == q.session) = some x ∧ ((x.slot ≠ 0xFF ∧ tagOk x.key bs = false) ∨ q.seq ≤ x.seq)) ∧
    (∃ (bs : List Byte) (x : Session) (q : Request_) (s : State), s.Asked 5 bs x q ∧ (s.mode = .config ∨ s.mode = .service) ∧ x.slot = 0 ∧
      q.body.length = 36 ∧ byteAt q.body 0 ≤ 1 ∧ byteAt q.body 1 ≤ 3 ∧ beNat (sliceB q.body 2 2) = 0) ∧
    (∃ (bs : List Byte) (x : Session) (q : Request_) (s : State), s.Asked 5 bs x q ∧ (s.mode ≠ .config ∧ s.mode ≠ .service ∨ x.slot ≠ 0)) ∧
    (∃ (bs : List Byte) (x : Session) (q : Request_) (s : State), s.Asked 4 bs x q) ∧
    (∃ (n : Nat) (x : Session) (s : State), s.net.sessions.find? (fun y => y.number == n) = some x) :=
  ⟨⟨(taggedRequest 1 0 ([0] ++ List.replicate 16 5)), serviceKey, (ask 1 0 ([0] ++ List.replicate 16 5)),
      { inMode .config with nvs := Nvs.fresh [(0, serviceKey)] [] 0 }, by decide +kernel, request_read _ _ _ (by decide) (by decide),
      by decide +kernel, by decide +kernel, by decide +kernel, request_tagOk _ _ _, (by simp [ask, hmac_length]), by decide +kernel⟩,
    ⟨(request 1 0 (0xFF :: List.replicate 16 5)), (⟨1, 1, 1, 0, 0xFF :: List.replicate 16 5, request 1 0 (0xFF :: List.replicate 16 5)⟩),
      (inMode .config), by decide +kernel, request_plain _ _ _ (by decide) (by decide), by decide +kernel⟩,
    ⟨(request 1 0 [0]), serviceKey, (⟨1, 1, 1, 0, [0], request 1 0 [0]⟩), { inMode .config with nvs := Nvs.fresh [(0, serviceKey)] [] 0 },
      by decide +kernel, request_plain _ _ _ (by decide) (by decide), by decide +kernel⟩,
    ⟨t0, 0, true, (request 4 0 []), (⟨4, 1, 1, 0, [], request 4 0 []⟩), (⟨1, 0, serviceKey, 0, 0⟩), (sessioned .run), ((4,
      .close t0 (request 4 0 []))), by decide +kernel, by decide +kernel, by decide +kernel, request_plain _ _ _ (by decide) (by decide),
      by decide +kernel⟩,
    ⟨(taggedRequest 5 0 ([1, 3, 0, 0] ++ List.replicate 32 9)), (⟨1, 0, serviceKey, 0, 0⟩), (ask 5 0 ([1, 3, 0, 0] ++ List.replicate 32 9)),
      (sessioned .service), asked_request (by decide +kernel) (by decide +kernel) (by decide +kernel) (by decide) (by decide), by decide +kernel,
      by decide +kernel, (by rw [ask_body]; decide +kernel), (by rw [ask_body]; decide +kernel), (by rw [ask_body]; decide +kernel),
      (by rw [ask_body]; decide +kernel)⟩,
    ⟨(taggedRequest 5 0 []), (⟨1, 0, serviceKey, 0, 0⟩), (ask 5 0 []), (sessioned .run),
      asked_request (by decide +kernel) (by decide +kernel) (by decide +kernel) (by decide) (by decide), by decide +kernel⟩,
    ⟨(taggedRequest 4 0 []), (⟨1, 0, serviceKey, 0, 0⟩), (ask 4 0 []), (sessioned .run),
      asked_request (by decide +kernel) (by decide +kernel) (by decide +kernel) (by decide) (by decide)⟩,
    ⟨1, (⟨1, 0, serviceKey, 0, 0⟩), (sessioned .run), by decide +kernel⟩⟩

/-- States and operands that meet the hypotheses of ServiceAccessCommands. -/
theorem witness_ServiceAccessCommands :
    (∃ (a : At) (bs : List Byte) (x : Session) (q : Request_) (s : State) (u : State) (ws : List Byte) (st : Nat), s.Asked 2 bs x q ∧ q.count = 1 ∧
      State.readMem .service (beNat (q.body.take 4)) 4 ((s.at_ a).served q) = (u, ws, st) ∧ u.serviceUp = true) ∧
    (∃ (bs : List Byte) (x : Session) (q : Request_) (s : State), s.Asked 2 bs x q ∧ 0 < q.count ∧ q.count ≤ 128) ∧
    (∃ (bs : List Byte) (x : Session) (q : Request_) (s : State) (adr : Nat) (v : Word), s.Asked 3 bs x q ∧ pairsOf q.count q.body = [(adr, v)] ∧
      s.mode = .config ∧ adr % 4 = 0 ∧ 0x20000000 ≤ adr ∧ adr < 0x21000000 ∧ s.islandUp 2 = true) ∧
    (∃ (bs : List Byte) (x : Session) (q : Request_) (s : State) (adr : Nat) (v : Word), s.Asked 3 bs x q ∧ pairsOf q.count q.body = [(adr, v)] ∧
      (adr % 4 ≠ 0 ∧ regionOf adr ≠ some .pages ∨ (s.mode ≠ .halt ∧ regionOfRange adr 4 = none))) ∧
    (∃ (bs : List Byte) (x : Session) (q : Request_) (s : State), s.Asked 3 bs x q ∧ pairsOf q.count q.body ≠ []) :=
  ⟨⟨t0, (taggedRequest 2 1 [0x20, 0, 0, 0]), (⟨1, 0, serviceKey, 0, 0⟩), (ask 2 1 [0x20, 0, 0, 0]), (sessioned .run),
      ((State.readMem .service (beNat ((ask 2 1 [0x20, 0, 0, 0]).body.take 4)) 4 (((sessioned .run).at_ t0).served (ask 2 1 [0x20, 0, 0, 0]))).1),
      ((State.readMem .service (beNat ((ask 2 1 [0x20, 0, 0, 0]).body.take 4)) 4 (((sessioned .run).at_ t0).served (ask 2 1 [0x20, 0, 0, 0]))).2.1),
      ((State.readMem .service (beNat ((ask 2 1 [0x20, 0, 0, 0]).body.take 4)) 4 (((sessioned .run).at_ t0).served (ask 2 1 [0x20, 0, 0, 0]))).2.2),
      asked_request (by decide +kernel) (by decide +kernel) (by decide +kernel) (by decide) (by decide), by decide +kernel, rfl,
      (by rw [ask_body]; decide +kernel)⟩,
    ⟨(taggedRequest 2 128 []), (⟨1, 0, serviceKey, 0, 0⟩), (ask 2 128 []), (sessioned .run),
      asked_request (by decide +kernel) (by decide +kernel) (by decide +kernel) (by decide) (by decide), by decide +kernel⟩,
    ⟨(taggedRequest 3 1 [0x20, 0xFF, 0xFF, 0xFC, 0, 0, 0, 5]), (⟨1, 0, serviceKey, 0, 0⟩), (ask 3 1 [0x20, 0xFF, 0xFF, 0xFC, 0, 0, 0, 5]),
      (sessioned .config), 0x20FFFFFC, 5#32, asked_request (by decide +kernel) (by decide +kernel) (by decide +kernel) (by decide) (by decide),
      (by rw [ask_body]; decide +kernel), by decide +kernel⟩,
    ⟨(taggedRequest 3 1 [0x20, 0, 0, 2, 0, 0, 0, 5]), (⟨1, 0, serviceKey, 0, 0⟩), (ask 3 1 [0x20, 0, 0, 2, 0, 0, 0, 5]), (sessioned .config),
      0x20000002, 5#32, asked_request (by decide +kernel) (by decide +kernel) (by decide +kernel) (by decide) (by decide),
      (by rw [ask_body]; decide +kernel), by decide +kernel⟩,
    ⟨(taggedRequest 3 1 [0x20, 0, 0, 0, 0, 0, 0, 5]), (⟨1, 0, serviceKey, 0, 0⟩), (ask 3 1 [0x20, 0, 0, 0, 0, 0, 0, 5]), (sessioned .config),
      asked_request (by decide +kernel) (by decide +kernel) (by decide +kernel) (by decide) (by decide), (by rw [ask_body]; decide +kernel)⟩⟩

/-- States and operands that meet the hypotheses of ServiceTransferCommands. -/
theorem witness_ServiceTransferCommands :
    (∃ (bs : List Byte) (x : Session) (q : Request_) (s : State), s.Asked 0x10 bs x q) ∧
    (∃ (a : At) (bs : List Byte) (x : Session) (q : Request_) (v : Transfer) (s : State), s.Asked 0x11 bs x q ∧ s.nvs.transfer = some v ∧
      v.session = x.number ∧ nvsClosed v.region = false ∧ nvsAdmits s.mode s.imageRegion v.region = true ∧ v.offset ≤ beNat (sliceB q.body 0 4) ∧
      beNat (sliceB q.body 0 4) + (q.body.drop 4).length ≤ v.offset + v.length ∧ (q.body.drop 4).length ≤ 1024 ∧ q.body.drop 4 ≠ [] ∧
      nvsKept (s.at_ a).mem s.sup.copy v.region (beNat (sliceB q.body 0 4)) (q.body.drop 4).length = false ∧ s.grant 20 = true) ∧
    (∃ (bs : List Byte) (x : Session) (q : Request_) (v : Transfer) (s : State), s.Asked 0x12 bs x q ∧ s.nvs.transfer = some v ∧
      v.session = x.number ∧ nvsClosed v.region = false ∧ nvsAdmits s.mode s.imageRegion v.region = true ∧ s.grant 20 = true) ∧
    (∃ (bs : List Byte) (x : Session) (q : Request_) (v : Transfer) (s : State), s.Asked 0x13 bs x q ∧ s.nvs.transfer = some v ∧
      v.session = x.number ∧ s.grant 20 = true ∧ v.region ≠ 8 ∧ v.region ≠ 11 ∧ v.offset ≤ beNat (sliceB q.body 0 4) ∧
      beNat (sliceB q.body 0 4) + beNat (sliceB q.body 4 4) ≤ v.offset + v.length ∧ beNat (sliceB q.body 4 4) ≤ 1024) ∧
    (∃ (bs : List Byte) (x : Session) (q : Request_) (s : State), s.Asked 0x14 bs x q) :=
  ⟨⟨(taggedRequest 16 0 []), (⟨1, 0, serviceKey, 0, 0⟩), (ask 16 0 []), (sessioned .run),
      asked_request (by decide +kernel) (by decide +kernel) (by decide +kernel) (by decide) (by decide)⟩,
    ⟨t0, (taggedRequest 17 0 [0, 0, 0, 255, 7]), (⟨1, 0, serviceKey, 0, 0⟩), (ask 17 0 [0, 0, 0, 255, 7]), (⟨1, 1, 0, 0x100⟩),
      (transferring .service 1), asked_request (by decide +kernel) (by decide +kernel) (by decide +kernel) (by decide) (by decide),
      by decide +kernel, by decide +kernel, by decide +kernel, by decide +kernel, (by rw [ask_body]; decide +kernel),
      (by rw [ask_body]; decide +kernel), (by rw [ask_body]; decide +kernel), (by rw [ask_body]; decide +kernel),
      (by rw [ask_body]; decide +kernel), by decide +kernel⟩,
    ⟨(taggedRequest 18 0 []), (⟨1, 0, serviceKey, 0, 0⟩), (ask 18 0 []), (⟨1, 1, 0, 0x100⟩), (transferring .service 1),
      asked_request (by decide +kernel) (by decide +kernel) (by decide +kernel) (by decide) (by decide), by decide +kernel⟩,
    ⟨(taggedRequest 19 0 [0, 0, 0, 0, 0, 0, 1, 0]), (⟨1, 0, serviceKey, 0, 0⟩), (ask 19 0 [0, 0, 0, 0, 0, 0, 1, 0]), (⟨1, 1, 0, 0x100⟩),
      (transferring .run 1), asked_request (by decide +kernel) (by decide +kernel) (by decide +kernel) (by decide) (by decide), by decide +kernel,
      by decide +kernel, by decide +kernel, by decide +kernel, by decide +kernel, (by rw [ask_body]; decide +kernel),
      (by rw [ask_body]; decide +kernel), (by rw [ask_body]; decide +kernel)⟩,
    ⟨(taggedRequest 20 0 []), (⟨1, 0, serviceKey, 0, 0⟩), (ask 20 0 []), (sessioned .run),
      asked_request (by decide +kernel) (by decide +kernel) (by decide +kernel) (by decide) (by decide)⟩⟩

/-- States and operands that meet the hypotheses of CanSendingCommands. -/
theorem witness_CanSendingCommands :
    (∃ (a : At) (idx : Nat) (x : Span) (s : State), (s.at_ a).Starts idx x ∧ 0x22 ≤ x.unit ∧ x.unit ≤ 0x25 ∧ x.opcode = 1) ∧
    (∃ (n : Fin 4) (q : Fin 64) (w0 : Word) (ws : List (Word × Bool)) (s : State), s.canOn n.val = true ∧
      (s.packetFor (0x22 + n.val) q.val).1 = some ((w0, false) :: ws) ∧ ws.all (fun w => !w.2) = true ∧
      bits (s.can.txCfg n.val (bits w0 5 0)) 2 1 = 0 ∧ bit (s.can.txCfg n.val (bits w0 5 0)) 0 = true ∧
      dlcBytes (bit (s.can.txCfg n.val (bits w0 5 0)) 5) (bits w0 11 8) ≤ 4 * ws.length ∧ (s.can.obj n.val (bits w0 5 0)).frame = none) ∧
    (∃ (n : Fin 4) (q : Fin 64) (w0 : Word) (ws : List (Word × Bool)) (s : State), s.canOn n.val = true ∧
      (s.packetFor (0x22 + n.val) q.val).1 = some ((w0, false) :: ws) ∧
      (bits (s.can.txCfg n.val (bits w0 5 0)) 2 1 ≠ 0 ∨ 4 * ws.length < dlcBytes (bit (s.can.txCfg n.val (bits w0 5 0)) 5) (bits w0 11 8))) ∧
    (∃ (n : Fin 4) (o : Fin 64) (f : CanFrame) (s : State), s.canOn n.val = true ∧ (s.can.state n.val = 2 ∨ s.can.state n.val = 3) ∧
      rbit s.can.regs (rk Reg.CAN_CTRL n.val 0) 5 = false ∧ (s.can.obj n.val o.val).frame = some f) ∧
    (∃ (acc : Accessor) (n : Fin 4) (s : State), s.Admits acc (Pg.CAN + n.val) (Reg.CAN_CTRL % 0x400)) ∧
    (∃ (n : Fin 4) (s : State), s.canOn n.val = true ∧ s.can.state n.val = 4 ∧ (s.can.bus n.val).recover = true) ∧
    (∃ (n : Fin 4) (s : State), s.canOn n.val = true ∧ (s.can.state n.val = 2 ∨ s.can.state n.val = 3)) ∧
    (∃ (n : Fin 4) (s : State), s.canOn n.val = true ∧ s.can.state n.val = 1) :=
  ⟨⟨t0, 0, (Mem.span (spanState 0x25 1 0 0).mem false 0), (spanState 0x25 1 0 0), by constructor <;> decide +kernel, by decide +kernel⟩,
    ⟨3, 63, 0x0000003F#32, [(1#32, false)], (packeted 0x25 (poke (rk Reg.CAN_TX_CFG 3 63) 1#32 (inMode .run)) [0x0000003F#32, 1#32]),
      by decide +kernel⟩,
    ⟨3, 63, 0x0000003F#32, [(1#32, false)], (packeted 0x25 (poke (rk Reg.CAN_TX_CFG 3 63) 3#32 (inMode .run)) [0x0000003F#32, 1#32]),
      by decide +kernel⟩,
    ⟨3, 63, (⟨[], false, false, 0, true⟩),
      { poke (rk Reg.CAN_STAT 3 0) 2#32 (inMode .run) with can := { (poke (rk Reg.CAN_STAT 3 0) 2#32 (inMode .run)).can with buses := [(3, { CanBus.fresh with objs := [(63, ⟨some ⟨[], false, false, 0, true⟩, none, 0⟩)] })] } }, by decide +kernel⟩,
    ⟨.sup, 3, (inMode .run), by unfold State.Admits; decide +kernel⟩,
    ⟨3, { poke (rk Reg.CAN_STAT 3 0) 4#32 (inMode .run) with can := { (poke (rk Reg.CAN_STAT 3 0) 4#32 (inMode .run)).can with buses := [(3, { CanBus.fresh with recover := true })] } }, by decide +kernel⟩,
    ⟨3, (poke (rk Reg.CAN_STAT 3 0) 3#32 (inMode .run)), by decide +kernel⟩,
    ⟨3, (poke (rk Reg.CAN_STAT 3 0) 1#32 (inMode .run)), by decide +kernel⟩⟩

/-- States and operands that meet the hypotheses of CanReceivingCommands. -/
theorem witness_CanReceivingCommands :
    (∃ (n : Fin 4) (rx : CanWire) (s : State), s.canOn n.val = true ∧ (s.can.state n.val = 2 ∨ s.can.state n.val = 3) ∧
      (rx.fdf = true → rbit s.can.regs (rk Reg.CAN_CTRL n.val 0) 0 = true) ∧ rx.remote = false) ∧
    (∃ (acc : Accessor) (n : Fin 4) (s : State), s.Admits acc (Pg.CAN + n.val) (Reg.CAN_CTRL % 0x400) ∧
      rbit s.can.regs (rk Reg.CAN_CTRL n.val 0) 3 = false) ∧
    (∃ (n : Fin 4) (s : State), s.canOn n.val = true ∧ (s.can.bus n.val).sleepReq = true ∧
      (s.can.state n.val = 1 ∨ s.can.state n.val = 2 ∨ s.can.state n.val = 3)) ∧
    (∃ (acc : Accessor) (n : Fin 4) (s : State), s.Admits acc (Pg.CAN + n.val) (Reg.CAN_CTRL % 0x400) ∧
      rbit s.can.regs (rk Reg.CAN_CTRL n.val 0) 3 = true) ∧
    (∃ (n : Fin 4) (s : State), s.canOn n.val = true ∧ s.can.state n.val = 5) :=
  ⟨⟨3, (⟨0x7FF, false, false, true, true, false, 15, List.replicate 64 0, 0⟩), (poke (rk Reg.CAN_STAT 3 0) 2#32 (inMode .run)), by decide +kernel,
      by decide +kernel, by decide +kernel, rfl⟩,
    ⟨.sup, 3, (inMode .run), by unfold State.Admits; decide +kernel, by decide +kernel⟩,
    ⟨3, { poke (rk Reg.CAN_STAT 3 0) 3#32 (inMode .run) with can := { (poke (rk Reg.CAN_STAT 3 0) 3#32 (inMode .run)).can with buses := [(3, { CanBus.fresh with sleepReq := true })] } }, by decide +kernel⟩,
    ⟨.sup, 3, (poke (rk Reg.CAN_CTRL 3 0) 9#32 (inMode .run)), by unfold State.Admits; decide +kernel, by decide +kernel⟩,
    ⟨3, (poke (rk Reg.CAN_STAT 3 0) 5#32 (inMode .run)), by decide +kernel⟩⟩

/-- States and operands that meet the hypotheses of FieldCommands. -/
theorem witness_FieldCommands :
    (∃ (g : Fin 12) (s : State), s.groupOn g.val = true) ∧
    (∃ (g : Fin 12) (s : State), s.groupOn g.val = true) ∧
    (∃ (g : Fin 12) (s : State), s.groupOn g.val = true ∧ rbit s.fio.regs (rk Reg.FIO_STAT g.val 0) 2 = false) ∧
    (∃ (g : Fin 12) (s : State), s.groupOn g.val = true) ∧
    (∃ (g : Fin 12) (h : Int) (s : State), s.groupOn g.val = true ∧ (s.fio.group g.val).holding = some h) ∧
    (∃ (g : Fin 12) (c : Fin 16) (s : State), s.groupOn g.val = true ∧ (s.fio.group g.val).drv.getLsbD (s.fio.lead g.val c.val) = true ∧
      s.fio.lead g.val c.val < 16) ∧
    (∃ (g : Fin 12) (c : Fin 16) (s : State), s.groupOn g.val = true ∧ bit (s.fio.cfg g.val c.val) 7 = true ∧
      (s.fio.group g.val).drv.getLsbD c.val = true ∧ rbit s.fio.regs (rk Reg.FIO_FAULT g.val 0) (16 + c.val) = false) ∧
    (∃ (g : Fin 12) (s : State), s.groupOn g.val = true) ∧
    (∃ (acc : Accessor) (g : Fin 12) (s : State), s.Admits acc (Pg.FIO + g.val) (Reg.FIO_OUT_SET % 0x400)) ∧
    (∃ (acc : Accessor) (g : Fin 12) (s : State), s.Admits acc (Pg.FIO + g.val) (Reg.FIO_OUT_CLR % 0x400)) :=
  ⟨⟨11, (inMode .run), by decide +kernel⟩,
    ⟨11, (inMode .run), by decide +kernel⟩,
    ⟨11, (inMode .run), by decide +kernel⟩,
    ⟨11, (inMode .run), by decide +kernel⟩,
    ⟨11, 0, { inMode .run with fio := ⟨[], [(11, { FieldGroup.fresh with holding := some 0 })]⟩ }, by decide +kernel⟩,
    ⟨11, 15, { inMode .run with fio := ⟨[], [(11, { FieldGroup.fresh with drv := 0x8000 })]⟩ }, by decide +kernel⟩,
    ⟨11, 15, (poke (rk Reg.FIO_CH_CFG 11 15) 0x80#32 ({ inMode .run with fio := ⟨[], [(11, { FieldGroup.fresh with drv := 0x8000 })]⟩ })),
      by decide +kernel⟩,
    ⟨11, (inMode .run), by decide +kernel⟩,
    ⟨(.core 0), 11, (inMode .run), by unfold State.Admits; decide +kernel⟩,
    ⟨(.core 0), 11, (inMode .run), by unfold State.Admits; decide +kernel⟩⟩

/-- States and operands that meet the hypotheses of SerialCommands. -/
theorem witness_SerialCommands :
    (∃ (n : Fin 12) (chars : List Byte) (s : State), s.works (Pg.SER + n.val) = true ∧ rfld s.ser.regs (rk Reg.SER_CFG n.val 0) 1 0 ≠ 0 ∧
      (skipTag (chars.map (·.toNat))).head? = some Ch.dollar ∧ (skipTag (chars.map (·.toNat))).length ≤ 82 ∧
      (readSentence (skipTag (chars.map (·.toNat)))).checkOk (rbit s.ser.regs (rk Reg.SER_CFG n.val 0) 8) = true) ∧
    (∃ (n : Fin 12) (bad : Bool) (lo : Nat) (code : Nat) (chars : List Byte) (s : State), s.works (Pg.SER + n.val) = true ∧
      rfld s.ser.regs (rk Reg.SER_CFG n.val 0) 1 0 ≠ 0 ∧ (skipTag (chars.map (·.toNat))).head? = some Ch.dollar ∧ (bad = true ∧ lo = 8 ∧
      code = 0x1F51 ∨ bad = false ∧ 82 < (skipTag (chars.map (·.toNat))).length ∧ lo = 16 ∧ code = 0x1F52 ∨ bad = false ∧
      (skipTag (chars.map (·.toNat))).length ≤ 82 ∧
      (readSentence (skipTag (chars.map (·.toNat)))).checkOk (rbit s.ser.regs (rk Reg.SER_CFG n.val 0) 8) = false ∧ lo = 0 ∧ code = 0x1F50)) ∧
    (∃ (n : Fin 12) (q : Fin 64) (w0 : Word) (ws : List (Word × Bool)) (s : State), s.works (Pg.SER + n.val) = true ∧ s.mode.active = true ∧
      rbit s.ser.regs (rk Reg.SER_FQ n.val 0) 14 = true ∧ rfld s.ser.regs (rk Reg.SER_FQ n.val 0) 13 8 = q.val ∧
      (s.packetFor (0x30 + n.val) q.val).1 = some ((w0, false) :: ws)) ∧
    (∃ (n : Fin 12) (d : List Byte) (rest : List (List Byte)) (s : State), s.works (Pg.SER + n.val) = true ∧ s.mode.active = true ∧
      (s.ser.port n.val).queue = d :: rest ∧ (s.ser.port n.val).active = true) ∧
    (∃ (n : Fin 12) (s : State), s.works (Pg.SER + n.val) = true ∧ s.mode.active = true) :=
  ⟨⟨11, [36, 71, 80], (poke (rk Reg.SER_CFG 11 0) 1#32 (inMode .run)), by decide +kernel⟩,
    ⟨11, false, 16, 0x1F52, (36 :: List.replicate 82 65), (poke (rk Reg.SER_CFG 11 0) 1#32 (inMode .run)), by decide +kernel⟩,
    ⟨11, 63, 4#32, [(1#32, false)], (packeted 0x3B (poke (rk Reg.SER_FQ 11 0) 0x7F00#32 (inMode .run)) [4#32, 1#32]), by decide +kernel⟩,
    ⟨11, [1], [[2]], { inMode .run with ser := ⟨[], [(11, { SerialPort.fresh with queue := [[1], [2]], active := true })]⟩ }, by decide +kernel⟩,
    ⟨11, (inMode .run), by decide +kernel⟩⟩

/-- States and operands that meet the hypotheses of PositionCommands. -/
theorem witness_PositionCommands :
    (∃ (a : At) (idx : Nat) (x : Span) (s : State), (s.at_ a).Starts idx x ∧ 0x60 ≤ x.unit ∧ x.unit ≤ 0x77 ∧ x.opcode = 1 ∧
      s.works (Pg.POS + (x.unit - 0x60)) = true ∧ s.pos.mode (x.unit - 0x60) = 1) ∧
    (∃ (acc : Accessor) (n : Fin 24) (s : State), s.Admits acc (Pg.POS + n.val) (Reg.POS_REQ % 0x400) ∧ s.pos.mode n.val = 1 ∧
      posActive s.mode = true) ∧
    (∃ (n : Fin 24) (word : Nat) (f : Int) (s : State), s.works (Pg.POS + n.val) = true ∧ (s.pos.chan n.val).frame = some f ∧
      word < 2 ^ rfld s.pos.regs (rk Reg.POS_SSI n.val 0) 21 16 ∧ word < 4294967296) ∧
    (∃ (n : Fin 24) (s : State), s.works (Pg.POS + n.val) = true ∧ s.pos.mode n.val = 2 ∧ posActive s.mode = true) ∧
    (∃ (acc : Accessor) (n : Fin 24) (s : State), s.Admits acc (Pg.POS + n.val) (Reg.POS_COUNT % 0x400)) ∧
    (∃ (acc : Accessor) (n : Fin 24) (cfg : Bool) (s : State),
      s.Admits acc (Pg.POS + n.val) ((if cfg then Reg.POS_CMP_CFG else Reg.POS_CMP) % 0x400)) :=
  ⟨⟨t0, 0, (Mem.span (poke (rk Reg.POS_CFG 23 0) 1#32 (spanState 0x77 1 0 0)).mem false 0), (poke (rk Reg.POS_CFG 23 0) 1#32 (spanState 0x77 1 0 0)),
      by constructor <;> decide +kernel, by decide +kernel⟩,
    ⟨(.core 2), 23, (poke (rk Reg.POS_CFG 23 0) 1#32 (inMode .run)), by unfold State.Admits; decide +kernel, by decide +kernel⟩,
    ⟨23, 0x1FFFFFF, 0,
      { poke (rk Reg.POS_CFG 23 0) 1#32 (inMode .run) with pos := { (poke (rk Reg.POS_CFG 23 0) 1#32 (inMode .run)).pos with chans := [(23, { PosChan.fresh with frame := some 0 })] } }, by decide +kernel⟩,
    ⟨23, (poke (rk Reg.POS_CFG 23 0) 2#32 (inMode .run)), by decide +kernel⟩,
    ⟨(.core 0), 23, (poke (rk Reg.POS_CFG 23 0) 2#32 (inMode .run)), by unfold State.Admits; decide +kernel⟩,
    ⟨(.core 0), 23, true, (poke (rk Reg.POS_CFG 23 0) 2#32 (inMode .run)), by unfold State.Admits; decide +kernel⟩⟩

/-- States and operands that meet the hypotheses of SafetyFunctionCommands. -/
theorem witness_SafetyFunctionCommands :
    (∃ (s : State), s.pageUp Pg.SAFC = true) ∧
    (∃ (s : State), s.pageUp Pg.SAFC = true) ∧
    (∃ (s : State), s.pageUp Pg.SAFC = true) ∧
    (∃ (s : State), s.pageUp Pg.SAFC = true) ∧
    (∃ (s : State), s.pageUp Pg.SAFC = true) ∧
    (∃ (s : State), s.pageUp Pg.SAFC = true) ∧
    (∃ (s : State), s.pageUp Pg.SAFC = true) :=
  ⟨⟨(inMode .run), by decide +kernel⟩,
    ⟨(inMode .run), by decide +kernel⟩,
    ⟨(inMode .run), by decide +kernel⟩,
    ⟨(inMode .run), by decide +kernel⟩,
    ⟨(inMode .run), by decide +kernel⟩,
    ⟨(inMode .run), by decide +kernel⟩,
    ⟨(inMode .run), by decide +kernel⟩⟩

/-- States and operands that meet the hypotheses of SafetyOutputCommands. -/
theorem witness_SafetyOutputCommands :
    (∃ (s : State), s.pageUp Pg.SAFC = true) ∧
    (∃ (s : State), s.pageUp Pg.SAFC = true) ∧
    (∃ (s : State), s.pageUp Pg.SAFC = true) ∧
    (∃ (s : State), s.pageUp Pg.SAFC = true) ∧
    (∃ (k : Fin 8) (low : Bool) (vp : Nat) (vm : Nat) (sl : Nat) (on : Bool) (pass : Bool) (s : State), s.pageUp Pg.SAFC = true ∧ s.saf.layer = 2 ∧
      setSoEn s.saf.set k.val = true ∧ on = (s.saf.closes true k.val && s.saf.closes false k.val) ∧
      pass = (if on then (if low then decide (sl < vm + 5000) else decide (vp < 5000)) else if low then decide (vm < 2000) else decide (sl < vp + 2000))) ∧
    (∃ (k : Fin 8) (s : State), s.pageUp Pg.SAFC = true ∧ s.saf.layer = 2 ∧ setSoEn s.saf.set k.val = true) ∧
    (∃ (s : State), s.pageUp Pg.SAFC = true) ∧
    (∃ (s : State), s.pageUp Pg.SAFC = true) ∧
    (∃ (s : State), s.pageUp Pg.SAFC = true) :=
  ⟨⟨(inMode .run), by decide +kernel⟩,
    ⟨(inMode .run), by decide +kernel⟩,
    ⟨(inMode .run), by decide +kernel⟩,
    ⟨(inMode .run), by decide +kernel⟩,
    ⟨7, true, 0, 2000, 24000, false, false, { inMode .run with saf := { Saf.fresh none 0 0 with layer := 2, set := [0, 0, 0, 0x00800000] } },
      by decide +kernel⟩,
    ⟨7, { inMode .run with saf := { Saf.fresh none 0 0 with layer := 2, set := [0, 0, 0, 0x00800000] } }, by decide +kernel⟩,
    ⟨(inMode .run), by decide +kernel⟩,
    ⟨(inMode .run), by decide +kernel⟩,
    ⟨(inMode .run), by decide +kernel⟩⟩

/-- States and operands that meet the hypotheses of SafetySetCommands. -/
theorem witness_SafetySetCommands :
    (∃ (acc : Accessor) (i : Nat) (s : State), s.Admits acc Pg.SAFC (Reg.SAFC_P_DATA % 0x400) ∧ i = rfld s.saf.regs Reg.SAFC_P_WIN 8 0) ∧
    (∃ (acc : Accessor) (s : State), s.Admits acc Pg.SAFC (Reg.SAFC_P_LOAD % 0x400)) ∧
    (∃ (acc : Accessor) (s : State), s.Admits acc Pg.SAFC (Reg.SAFC_CONFIRM % 0x400)) ∧
    (∃ (s : State), s.pageUp Pg.SAFC = true) ∧
    (∃ (s : State), s.pageUp Pg.SAFC = true) :=
  ⟨⟨.sup, 319, (poke Reg.SAFC_P_WIN 319#32 (inMode .config)), by unfold State.Admits; decide +kernel, by decide +kernel⟩,
    ⟨.sup, (inMode .config), by unfold State.Admits; decide +kernel⟩,
    ⟨.service, (inMode .config), by unfold State.Admits; decide +kernel⟩,
    ⟨(inMode .run), by decide +kernel⟩,
    ⟨(inMode .run), by decide +kernel⟩⟩

/-- States and operands that meet the hypotheses of SupplyCommands. -/
theorem witness_SupplyCommands :
    (∃ (a : At) (mV : Nat) (V : Nat) (tgt : Nat) (s : State), s.pageUp Pg.PWR = true ∧ V = min (((((s.at_ a).now,
      mV) :: s.pwr.samples.filter (fun x => decide ((s.at_ a).now < x.1 + 1000000))).map (·.2)).foldl min mV) 65535 ∧
      tgt = min (min 1300 (15 * V / 100)) s.pwr.limit) ∧
    (∃ (s : State), s.pageUp Pg.PWR = true) ∧
    (∃ (s : State), s.pageUp Pg.PWR = true) ∧
    (∃ (s : State), s.pageUp Pg.PWR = true) ∧
    (∃ (s : State), s.pageUp Pg.PWR = true) ∧
    (∃ (s : State), s.pageUp Pg.PWR = true) ∧
    (∃ (s : State), s.pageUp Pg.PWR = true) :=
  ⟨⟨t0, 6000, 6000, 900, (inMode .run), by decide +kernel⟩,
    ⟨(inMode .run), by decide +kernel⟩,
    ⟨(inMode .run), by decide +kernel⟩,
    ⟨(inMode .run), by decide +kernel⟩,
    ⟨(inMode .run), by decide +kernel⟩,
    ⟨(inMode .run), by decide +kernel⟩,
    ⟨(inMode .run), by decide +kernel⟩⟩

/-- States and operands that meet the hypotheses of RecorderCommands. -/
theorem witness_RecorderCommands :
    (∃ (r : Record) (rest : List Record) (s : State), s.pageUp Pg.REC = true ∧ s.log.searched = true ∧ s.log.queue = r :: rest ∧ s.log.flag 1 = false ∧
      r.flags.testBit 1 = false ∧ rbit s.nvs.regs Reg.NVS_STAT 1 = false) ∧
    (∃ (s : State), s.pageUp Pg.REC = true ∧ (s.log.searched = false ∨ s.log.queue = [])) ∧
    (∃ (s : State), s.pageUp Pg.REC = true) ∧
    (∃ (acc : Accessor) (slot : Nat) (s : State), s.Admits acc Pg.REC (Reg.REC_CTRL % 0x400) ∧ slot = (rget s.log.regs Reg.REC_FAIL_SLOT).toNat) :=
  ⟨⟨(⟨7, 0, 0x0173, 0, [], 0, 0⟩), [], { inMode .run with log := { Rec.fresh with searched := true, queue := [⟨7, 0, 0x0173, 0, [], 0, 0⟩] } },
      by decide +kernel⟩,
    ⟨(inMode .run), by decide +kernel⟩,
    ⟨(inMode .run), by decide +kernel⟩,
    ⟨.sup, 0, (inMode .service), by unfold State.Admits; decide +kernel, by decide +kernel⟩⟩

/-- States and operands that meet the hypotheses of SnapshotBootAndSaveCommands. -/
theorem witness_SnapshotBootAndSaveCommands :
    (∃ (acc : Accessor) (s : State), s.Admits acc Pg.SNAP (Reg.SNAP_TRIG % 0x400) ∧ rfld s.snap.regs Reg.SNAP_CFG 5 3 = 0) ∧
    (∃ (acc : Accessor) (s : State), s.Admits acc Pg.SUP (Reg.SUP_BOOT % 0x400)) ∧
    (∃ (a : At) (acc : Accessor) (windows : List (Nat × Nat × Nat)) (y : State) (data : List Byte) (s : State),
      s.Admits acc Pg.SUP (Reg.SUP_CTRL % 0x400) ∧ s.sup.dead = false ∧ y = (s.at_ a).written 1 1 0x40 0 Reg.SUP_CTRL supCtrlRow 0x20#32 ∧
      data = cfgBuild (match cfgNewer y.mem with | some c => cfgSeq y.mem (nvsAddr c) + 1 | none => 1) ((upto pageCount).flatMap (y.savedPage windows))) :=
  ⟨⟨(.core 1), (inMode .run), by unfold State.Admits; decide +kernel, by decide +kernel⟩,
    ⟨.sup, (inMode .run), by unfold State.Admits; decide +kernel⟩,
    ⟨t0, .sup, [], _, _, (inMode .config), by unfold State.Admits; decide +kernel, rfl, rfl, rfl⟩⟩

/-- States and operands that meet the hypotheses of EmptyFirkinPopReturnsZeros. -/
theorem witness_EmptyFirkinPopReturnsZeros :
    (∃ (unit : Nat) (n : Fin 64) (s : State), s.pageUp Pg.FQ = true ∧ unit ≠ 0 ∧ bits (s.fq.cfg n.val) 23 16 = unit ∧
      (s.fq.firkin n.val).committed = []) :=
  ⟨0x10, 63,
      { poke (rk Reg.FQ_CFG 0 63) 0x00102501#32 (inMode .run) with fq := { (poke (rk Reg.FQ_CFG 0 63) 0x00102501#32 (inMode .run)).fq with fifo := [(63, Firkin.empty)] } }, by decide +kernel⟩

/-- States and operands that meet the hypotheses of CoefficientWindowWrites. -/
theorem witness_CoefficientWindowWrites :
    (∃ (acc : Accessor) (set : Nat) (phase : Nat) (pair : Nat) (s : State), s.Admits acc Pg.FLT (Reg.FLT_COEF_DATA % 0x400) ∧
      set = rfld s.flt.regs Reg.FLT_COEF_SEL 1 0 ∧ phase = rfld s.flt.regs Reg.FLT_COEF_SEL 6 2 ∧ pair = rfld s.flt.regs Reg.FLT_COEF_SEL 9 7) :=
  ⟨.sup, 3, 31, 7, (poke Reg.FLT_COEF_SEL 0x3FF#32 (inMode .config)), by unfold State.Admits; decide +kernel, by decide +kernel⟩

/-- States and operands that meet the hypotheses of DatagramSequenceNumbers. -/
theorem witness_DatagramSequenceNumbers :
    (∃ (d : List Byte) (seq : Nat), seq = beNat (sliceB d 20 4)) ∧
    (∃ (acc : Accessor) (v : Word) (k : Nat) (s : State), s.Admits acc Pg.FUS0 (Reg.FUS0_SC_CFG % 0x400) ∧ s.mode ≠ .run ∧
      (rget s.fus.regs Reg.FUS0_SEL).toNat = k ∧ k < 6 ∧ rbit s.fus.regs (rk Reg.FUS0_SC_CFG 0 k) 0 = false ∧ bit v 0 = true) :=
  ⟨⟨(pointData 0), (beNat (sliceB (pointData 0) 20 4)), rfl⟩,
    ⟨.sup, 1#32, 5, (poke Reg.FUS0_SEL 5#32 (inMode .config)), by unfold State.Admits; decide +kernel, by decide +kernel⟩⟩

/-- States and operands that meet the hypotheses of ProcessSafetyTimeBounds. -/
theorem witness_ProcessSafetyTimeBounds :
    (∃ (acc : Accessor) (i : Nat) (f : Nat) (s : State), s.Admits acc Pg.SAFC (Reg.SAFC_P_LOAD % 0x400) ∧ i < 16 ∧
      f = ((usedIns s.saf.stagingSet i).map (fun k => inFilter s.saf.stagingSet (recIn s.saf.stagingSet i k) / 1000)).foldl max 0) ∧
    (∃ (acc : Accessor) (v : Word) (i : Nat) (f : Nat) (s : State), s.Admits acc Pg.SAFC (Reg.SAFC_CONFIRM % 0x400) ∧ s.feature 12 = true ∧
      safWritable s.mode = true ∧ s.saf.layer ≠ 3 ∧ s.saf.key true = true ∧ s.saf.key false = true ∧ rbit s.saf.regs Reg.SAFC_CONF_STAT 0 = true ∧
      rget s.saf.regs Reg.SAFC_CHECK = v ∧ rget s.saf.regs Reg.SAFH_CHECK = v ∧ i < 16 ∧ recEn s.saf.stagingSet i = true ∧
      bit (recWord s.saf.stagingSet i 0) 9 = true ∧
      f = ((usedIns s.saf.stagingSet i).map (fun k => inFilter s.saf.stagingSet (recIn s.saf.stagingSet i k) / 1000)).foldl max 0 ∧
      (recWord s.saf.stagingSet i 4).toNat < (recWord s.saf.stagingSet i 5).toNat + f + 1500) :=
  ⟨⟨.sup, 15, 3000, (inMode .config), by unfold State.Admits; decide +kernel, by decide +kernel⟩,
    ⟨.sup, 7#32, 15, 3000, confirmable, by unfold State.Admits; decide +kernel, by decide +kernel⟩⟩

/-- States and operands that meet the hypotheses of CeilingFollowsTheSupply. -/
theorem witness_CeilingFollowsTheSupply :
    (∃ (a : At) (mV : Nat) (V : Nat) (lim : Nat) (tgt : Nat) (s : State), s.pageUp Pg.PWR = true ∧ V = ((((s.at_ a).now,
      mV) :: s.pwr.samples.filter (fun x => decide ((s.at_ a).now < x.1 + 1000000))).map (·.2)).foldl min mV ∧ V < 65536 ∧
      lim = (if rfld s.pwr.regs Reg.PWR_LIMIT 10 0 = 0 then 1300 else rfld s.pwr.regs Reg.PWR_LIMIT 10 0) ∧
      tgt = min (min 1300 (15 * V / 100)) lim) ∧
    (∃ (v : Nat) (since : Nat) (s : State), s.pageUp Pg.PWR = true ∧ s.pwr.rise = some (v, since)) :=
  ⟨⟨t0, 65535, 65535, 1300, 1300, (inMode .run), by decide +kernel⟩,
    ⟨1300, 0, { inMode .run with pwr := { Pwr.fresh with rise := some (1300, 0) } }, by decide +kernel⟩⟩

/-- States and operands that meet the hypotheses of BlockReadOutcomes. -/
theorem witness_BlockReadOutcomes :
    (∃ (i : Nat), i < 280) ∧
    (∃ (i : Nat), i < 280) ∧
    (∃ (m : Mem) (a : Nat) (i : Nat), i < 280 ∧ m.flip a = cwBit i) :=
  ⟨⟨279, by decide +kernel⟩,
    ⟨279, by decide +kernel⟩,
    ⟨(⟨[], [(0, cwBit 279)]⟩), 0, 279, by decide +kernel⟩⟩

/-- States and operands that meet the hypotheses of EveryEncodedBlockIsSound. -/
theorem witness_EveryEncodedBlockIsSound :
    (∃ (fold : Nat), fold < 32) :=
  ⟨31, by decide +kernel⟩

/-- States and operands that meet the hypotheses of MemoryKeepsItsForm. -/
theorem witness_MemoryKeepsItsForm :
    (∃ (s : State) (t : State), s.mem.wf = true ∧ step s = .next t) :=
  ⟨State.reset, State.reset, by decide +kernel, rfl⟩

/-- States and operands that meet the hypotheses of TimeAndTheQueueMoveOn. -/
theorem witness_TimeAndTheQueueMoveOn :
    (∃ (s : State) (t : State), step s = .next t) :=
  ⟨State.reset, State.reset, rfl⟩

/-- States and operands that meet the hypotheses of TheWaitingRequestFitsTheState. -/
theorem witness_TheWaitingRequestFitsTheState :
    (∃ (s : State) (t : State), s.requestFits = true ∧ step s = .next t) :=
  ⟨State.reset, State.reset, by decide +kernel, rfl⟩

/-- States and operands that meet the hypotheses of StateChangesFollowTheTable. -/
theorem witness_StateChangesFollowTheTable :
    (∃ (s : State) (t : State), s.requestFits = true ∧ step s = .next t) :=
  ⟨State.reset, State.reset, by decide +kernel, rfl⟩

/-- States and operands that meet the hypotheses of StoppedIslandsStayStopped. -/
theorem witness_StoppedIslandsStayStopped :
    (∃ (s : State) (t : State) (i : Nat), s.sup.stopped.getLsbD i = true ∧ step s = .next t ∧ t.mode ≠ .boot) :=
  ⟨{ inMode .run with sup := { Sup.fresh 0 with stopped := 0x800 } }, { inMode .run with sup := { Sup.fresh 0 with stopped := 0x800 } }, 11,
      by decide +kernel, rfl, by decide +kernel⟩

/-- States and operands that meet the hypotheses of TheLockedLayerStaysLocked. -/
theorem witness_TheLockedLayerStaysLocked :
    (∃ (s : State) (t : State), s.saf.layer = 3 ∧ step s = .next t ∧ t.mode ≠ .boot) ∧
    (∃ (u : Saf), u.layer = 3) :=
  ⟨⟨{ inMode .run with saf := { Saf.fresh none 0 0 with layer := 3 } }, { inMode .run with saf := { Saf.fresh none 0 0 with layer := 3 } }, rfl, rfl,
      by decide +kernel⟩,
    ⟨{ Saf.fresh none 0 0 with layer := 3 }, rfl⟩⟩

/-- States and operands that meet the hypotheses of OnlyAnActiveSendsAnEpoch. -/
theorem witness_OnlyAnActiveSendsAnEpoch :
    (∃ (s : State) (t : State), (s.chn.role ≤ 4 ∧ (s.chn.role ≠ 1 → s.chn.stone.toNat < 256)) ∧ step s = .next t) :=
  ⟨State.reset, State.reset, by decide +kernel, rfl⟩

/-! ## LATCH (R44) -/

/-- RUN in fathom 4, with a LATCH of every class at tick 0, and position channel 23 an incremental one. -/
def latchState : State :=
  poke (rk Reg.POS_CFG 23 0) 2#32
    { inMode .run with
      mem := ⟨storeBytes [] (spanAddr false 0) ([0x017F8000, 1, 0, 0x3F, 0, 0, 0, 0].flatMap (fun x => leBytes 4 x)), []⟩
      seq := { Seq.fresh with count := 4, counted := true, active := 1 } }

/-- A state and operands that meet the hypotheses of LatchCommand, those of its clauses among them. -/
theorem witness_LatchCommand :
    ∃ x : Span, (latchState.at_ t0).Starts 0 x ∧ x.unit = 0x7F ∧ x.opcode = 1 ∧ bit x.arg 1 = true ∧ latchState.works (Pg.POS + 23) = true ∧
      latchState.pos.mode 23 = 2 ∧ bit x.arg 2 = true ∧ latchState.works (Pg.SER + 11) = true ∧ bit x.arg 3 = true ∧
      latchState.works (Pg.CAN + 3) = true ∧ bit x.arg 5 = true ∧ latchState.works Pg.PRP = true :=
  ⟨latchState.mem.span false 0, by constructor <;> decide +kernel, by decide +kernel, by decide +kernel, by decide +kernel, by decide +kernel,
    by decide +kernel, by decide +kernel, by decide +kernel, by decide +kernel, by decide +kernel, by decide +kernel, by decide +kernel⟩

/-! ## WellFormed refuses -/

/-- An ill-formed command for each check of WellFormed. -/
def illFormed : List Instr :=
  [.bootComplete ⟨0, [⟨0x160010000, 1#280⟩]⟩, .powerOn t0 (some 10000000) none, .powerOn t0 none (some 10000000), .goReady t0 (.core 3),
   .goReady t0 (.unit 86), .saveCfg t0 .sup [(86, 0x5C, 0)] true, .saveCfg t0 .sup [(4, 0x400, 0)] true,
   .saveCfg t0 .sup [(4, 0x5D, 0)] true, .saveCfg t0 .sup [(4, 0x5C, 4096)] true, .registerWrite t0 .sup 0x100000000 4 0,
   .registerWrite t0 .sup 0x40000440 3 0, .memoryAccess t0 .sup 0x100000000 4 none, .memoryAccess t0 .sup 0xFFFFFFFE 4 none,
   .memoryAccess t0 .sup 0x20000000 0 none, .memoryAccess t0 .sup 0x20000000 4 (some []), .pageErrClr t0 .sup 1 (some 65536),
   .firkinPush t0 256 0 0 false, .resample t0 1024, .sampleArrival t0 256 0 0 0, .sampleArrival t0 0x31 65536 0 0,
   .sampleArrival t0 0x31 0 0 2147483648, .sampleArrival t0 0x31 0 0 (-2147483649)] ++
  [.pointDatagram t0 4294967296 0 false [], .pointDatagram t0 0 65536 false [], .antennaOpen t0 0 5, .codeEpoch t0 0 0 [] true,
   .measurementLatch t0 [(2, 0, 0, 0)], .measurementLatch t0 [(0, 24, 0, 0)], .taskCycleEnd t0 0 [(524288, 0)], .taskRuntimeError t0 0 8,
   .heartbeatReceive t0 0 (List.replicate 1519 0), .linkUp t0 0 0 true, .linkUp t0 0 3 true, .udpbcDatagram t0 4294967296 0 [],
   .udpbcDatagram t0 0 65536 [], .sessionTimeout t0 65536, .canTransmitEnd t0 0 0 3 0, .canTransmitEnd t0 0 0 0 256,
   .fieldRefresh t0 0 false 0 0 [] 0, .fieldRefresh t0 0 false 0 0 (List.replicate 16 65536) 0,
   .fieldRefresh t0 0 false 0 0 (List.replicate 16 0) 65536, .ssiFrameEnd t0 0 4294967296 true, .safcCycle t0 0 65536,
   .safetyOscFault t0 65536, .supplySample t0 131072] ++
  [.canFrameReceive t0 0 ⟨2048, false, false, false, false, false, 0, [], 0⟩,
   .canFrameReceive t0 0 ⟨536870912, true, false, false, false, false, 0, [], 0⟩,
   .canFrameReceive t0 0 ⟨0, false, false, false, false, false, 16, List.replicate 8 0, 0⟩,
   .canFrameReceive t0 0 ⟨0, false, false, false, false, false, 1, [], 0⟩,
   .canFrameReceive t0 0 ⟨0, false, true, true, false, false, 0, [], 0⟩,
   .canFrameReceive t0 0 ⟨0, false, false, false, true, false, 0, [], 0⟩,
   .busWake t0 0 (some ⟨2048, false, false, false, false, false, 0, [], 0⟩)]

/-- Each is refused. -/
theorem test_illFormed_refused : illFormed.all (fun i => !i.wf) = true := by decide +kernel

/-- And commands at the ends of their ranges pass. -/
theorem test_wellFormed_passes :
    ([.bootComplete ⟨0, [⟨0x16000FFFF, 1#280⟩]⟩, .powerOn t0 (some 9999999) none, .goReady t0 (.unit 85), .registerWrite t0 .service 0xFFFFFFFF 32 0,
      .memoryAccess t0 .sup 0xFFFFFFFF 1 none, .resample t0 1023, .sampleArrival t0 255 65535 0 (-2147483648),
      .canFrameReceive t0 3 ⟨0x1FFFFFFF, true, false, true, true, true, 15, List.replicate 64 0, 0⟩] : List Instr).all Instr.wf = true := by
  decide +kernel

/-! ## The spec's worked examples -/

/-- 01_architecture.md: the fold bits of the block at byte offset 0x1240 are 0x16, and stored poisoned the block carries 0x09. -/
theorem test_fold_bits : foldOfOffset 0x1240 = 0x16 ∧ foldOf (encodeBlock 0 0x16 ^^^ poisonPattern) = 0x09 := by decide +kernel

/-- 02_furlong_sequencer.md: the FUS span of the ferry, word by word. -/
theorem test_span_words :
    spanOf (fun k => [0x01158992#32, 0x0000CCE2#32, 0x00000027#32, 0, 0, 0x00002000#32, 0, 0x00000002#32].getD k 0)
      = ⟨2450, true, 0x15, 1, 52450, 39, 0, 0, 0, 0x2000, 0, 2, false⟩ := by decide +kernel

/-- 03_resampling_engine.md: stream 5 through the Lagrange set: phase 22, value 215,715. -/
theorem test_fine_path :
    finePath Flt.fresh [(3593115000, 228000), (3583120000, 224000), (3573130000, 218000), (3563110000, 210000), (3553120000, 200000)] 1
      3570000000 = some (22, 215715, false) := by decide +kernel

/-- 05_berth_grid_fusion.md: the auction takes 8 bids and ends with T0–D1, T1–D0, T2–D2. -/
theorem test_auction :
    auctionPhase [[some 1504, some 1348, none], [some 1540, some 1280, none], [none, some 1460, some 1028]] 1 1000 40
      ⟨[0, 0, 0], [none, none, none], 0⟩ = ⟨[694, 539, 108], [some (some 1), some (some 0), some (some 2)], 8⟩ := by decide +kernel

/-- 08_control_engines.md: the first three runs of the azimuth ramp. -/
theorem test_shaper :
    (let s1 := shape 0x0A000000 0x03000000 0x01000000 false ⟨0, 0, 0⟩ 0x3E800
     let s2 := shape 0x0A000000 0x03000000 0x01000000 false s1.st 0x3E800
     let s3 := shape 0x0A000000 0x03000000 0x01000000 false s2.st 0x3E800
     [s1.sp, s2.sp, s3.sp]) = [256, 1024, 2560] := by decide +kernel

/-- 13_time_and_networks.md: the master 3.2 ms behind makes a step of −3,200,000 ns. -/
theorem test_step_amount : stepAmount 3200000 = -3200000 := by decide

/-- 15_field_channels.md: the MRU's sentence $PQXRM,1.25,218.000,-0.82*6E. -/
def mru : List Nat :=
  [0x24, 0x50, 0x51, 0x58, 0x52, 0x4D, 0x2C, 0x31, 0x2E, 0x32, 0x35, 0x2C, 0x32, 0x31, 0x38, 0x2E, 0x30, 0x30, 0x30, 0x2C, 0x2D, 0x30, 0x2E,
   0x38, 0x32, 0x2A, 0x36, 0x45, 0x0D, 0x0A]

/-- Its checksum is right, filter 0 takes it, and its fields give 1,250, 218,000 and −820 at DSCALE 3. -/
theorem test_mru_sentence :
    (readSentence mru).checkOk true = true ∧ (readSentence mru).address.map (fun a => addressMatches a 0x52585150#32 0x4D) = some true ∧
      (readSentence mru).fields.map (convDec 3) = [some 1250, some 218000, some (-820)] := by decide +kernel

/-- 16_position_interfaces.md: 100 edges in 2,500,000 ns read 40,000 × 64 in POS5_SPEED. -/
theorem test_speed :
    (let u : Pos := ⟨rset [] (rk Reg.POS_STAT 5 0) 1#32, [(5, { PosChan.fresh with edgeAt := some 0, edges := 100, span := 2500000 })]⟩
     u.speedAt 5 2500000) = 0x00271000#32 := by decide +kernel

/-- 17_safety_layer.md: the set of the bow ramp, its words by index. -/
def bowRamp : List Word :=
  (upto 320).map (fun i => sget (fun _ => (0 : Word))
    [(2, 0x201), (3, 0x3012C), (16, 0x1E01), (17, 0x1E01), (18, 0x1401), (19, 0x1401), (20, 0x1E02), (47, 0x1E03), (64, 0x30193),
     (65, 0xFFFF0100), (66, 0x640004), (67, 0x258), (80, 0x20289), (81, 0xFFFF0302), (82, 0x320004), (84, 0x1D4C0), (85, 0x12110)] i)

/-- The bounds of the process safety times of its two instances are 4,500 µs and 77,500 µs. -/
theorem test_safety_bounds : setBound bowRamp 0 = 4500 ∧ setBound bowRamp 1 = 77500 := by decide +kernel

/-- 18_power_and_budget.md: at 7.6 V the ceiling is 1,140 drams, and requesters 15, 16, 18, 19, 20 and 21 are cut. -/
theorem test_sag :
    (let u : Pwr := { Pwr.fresh with
      st := [(14, 1), (15, 1), (16, 1), (17, 1), (18, 1), (19, 1), (20, 1), (21, 1)]
      regs := rset [] Reg.PWR_CEIL 1300#32 }
     let w := u.sample (fun _ => 50) 0 7600
     (w.u.ceil, w.u.cutSet)) = (1140, 0x003D8000) := by decide +kernel

/-- 20_startup_and_features.md: the first commissioning's refused GO_READY. -/
theorem test_commissioning :
    (match exec (.goReady t0 .sup) (poke Reg.FEAT_ACCEPT0 0x00023AF9#32 (inMode .config)) with
     | .next t => (rget t.sup.regs Reg.FEAT_STATUS, rget t.sup.regs Reg.SUP_REFUSE, t.mode)
     | _ => (0, 0, .off)) = (0x00001102#32, 0x11970000#32, .config) := by decide +kernel

/-- 22_connectors_and_ratings.md: the straps of the three members of the handover example, and both pins open. -/
theorem test_straps :
    [strapBase (some 715) (some 715), strapBase (some 715) (some 1540), strapBase (some 1540) (some 0), strapBase none none]
      = [0x11, 0x12, 0x20, 0xFF] := by decide

/-- 00_scope.md: a read of 0x4000_600E is not aligned; it returns zeros and CAN2 records class 1, code 0x002. -/
theorem test_unaligned_read :
    (match exec (.memoryAccess t0 .sup 0x4000600E 4 none) (inMode .config) with
     | .next t => (t.outbox.head?, t.errCode 0x18)
     | _ => (none, 0)) = (some (.readData [0]), 0x1002) := by decide +kernel

end Sys2Proof.Tests
end

section
/-! The machine right after reset: what a register cell reads as that nothing has written (R11), the pages that share a layout (R431)
and the windows of one register (R36, R63) alike, and the state that the reset at power-on leaves (R417, R420). -/

namespace Sys2Proof.Proofs

open Sys2Proof Sys2Proof.Machine

/-! ## The pages of a layout (R431) -/

/-- The page ranges of the layouts do not meet: each page of a layout finds that layout. -/
theorem layoutOf_page : ∀ l ∈ layouts, ∀ i < l.count, layoutOf (l.page0 + i) = some l := by decide +kernel

/-- R431 gives 86 pages, and no layout reaches past the last. -/
theorem layout_page_bound : ∀ l ∈ layouts, l.page0 + l.count ≤ pageCount := by decide

/-- A layout found for a page is one of the table, and its range holds the page. -/
theorem layoutOf_eq_some {p : Nat} {l : PageLayout} (h : layoutOf p = some l) :
    l ∈ layouts ∧ l.page0 ≤ p ∧ p < l.page0 + l.count := by
  have hp := List.find?_some h
  simp only [Bool.and_eq_true, decide_eq_true_eq] at hp
  exact ⟨List.mem_of_find?_eq_some h, hp⟩

/-- A later page within the range of a layout has that layout too. -/
theorem layoutOf_add {p n : Nat} {l : PageLayout} (h : layoutOf p = some l) (hn : p + n < l.page0 + l.count) :
    layoutOf (p + n) = some l := by
  obtain ⟨hl, hlo, -⟩ := layoutOf_eq_some h
  have hpage := layoutOf_page l hl (p + n - l.page0) (by omega)
  rwa [show l.page0 + (p + n - l.page0) = p + n by omega] at hpage

/-! ## Reset values of register cells (R11) -/

/-- With no cell written, every cell reads as its reset value. -/
@[simp] theorem rget_nil (k : Nat) : rget [] k = regReset k := rfl

/-- The page of a cell key, which neither the instance nor the window moves out of the 17 low bits. -/
theorem rk_page {r n : Nat} (w : Nat) (h : r / 0x400 + n < 0x80) : rk r n w % 0x20000 / 0x400 = r / 0x400 + n := by
  unfold rk; omega

/-- The offset of a cell key in its page is that of the register. -/
theorem rk_offset (r n w : Nat) : rk r n w % 0x400 = r % 0x400 := by
  unfold rk; omega

/-- Past PWR, whose CUT_RANK differs by window (R393), a cell outside the common header resets to what the row of its register says. -/
theorem regReset_of_row {k : Nat} (hpage : Pg.PWR < k % 0x20000 / 0x400) (hoff : 0x40 ≤ k % 0x400) :
    regReset k = (rowOf (k % 0x20000 / 0x400) (k % 0x400)).elim 0 (fun r => wd r.reset) := by
  have hoffer : k ≠ Reg.FEAT_OFFER0 := by rintro rfl; exact absurd hpage (by decide)
  have hrank : k % 0x20000 ≠ Reg.PWR_R_CFG := by intro h; rw [h] at hpage; exact absurd hpage (by decide)
  simp only [regReset, Nat.not_lt.mpr hoff, hoffer, hrank, if_false]
  cases rowOf (k % 0x20000 / 0x400) (k % 0x400) <;> rfl

/-- Past PWR, a register resets alike in every page that shares its layout and in every window. -/
theorem regReset_rk {r n : Nat} {l : PageLayout} (w : Nat) (hr : Pg.PWR < r / 0x400) (hoff : 0x40 ≤ r % 0x400)
    (hl : layoutOf (r / 0x400) = some l) (hn : r / 0x400 + n < l.page0 + l.count) : regReset (rk r n w) = regReset r := by
  have hbound := layout_page_bound l (layoutOf_eq_some hl).1
  have hcount : pageCount = 0x56 := rfl
  have hrow : rowOf (r / 0x400 + n) (r % 0x400) = rowOf (r / 0x400) (r % 0x400) := by
    simp only [rowOf, layoutOf_add hl hn, hl]
  have hpage := rk_page (r := r) (n := n) w (by omega)
  have hself : r % 0x20000 / 0x400 = r / 0x400 := by omega
  rw [regReset_of_row (by omega) (by rw [rk_offset]; exact hoff), regReset_of_row (k := r) (by omega) hoff, hpage, rk_offset, hself, hrow]

/-- Settles O51: the scalar fields and the single registers by evaluation of the reset state; the registers of several pages or windows
by `regReset_rk`, which leaves the first of each to evaluate. -/
theorem stateAfterReset : Obligations.StateAfterReset := by
  unfold Obligations.StateAfterReset
  refine ⟨rfl, rfl, rfl, rfl, rfl, rfl, rfl, rfl, rfl, rfl, rfl, by decide, by decide, by decide, by decide, by decide, by decide,
    by decide, by decide, by decide, by decide, by decide, by decide, fun n hn => ?budget, fun n _ => ?firkin,
    fun n hn => ⟨?eth, ?can⟩, fun k _ => ?gate, fun n hn => ⟨?baud, fun k _ => ?channel⟩, fun n hn => ?ssi⟩
  case budget | eth | can | baud | channel | ssi =>
    exact (regReset_rk _ (by decide) (by decide) rfl (Nat.add_lt_add_left hn _)).trans (by decide)
  case firkin | gate => exact (regReset_rk _ (by decide) (by decide) rfl (by decide)).trans (by decide)

end Sys2Proof.Proofs
end

section
/-! The 280/256 code (R18–R21). A pattern is read as the list of its coefficients, lowest first, and its syndromes are the values of that
polynomial at α and at α³ (`syndromes_eq`). The check bits of R18 are the remainder of a division by a polynomial that both are roots of
(`generator_roots`), so the syndromes of a codeword vanish (`evalBits_remainder`). -/

namespace Sys2Proof.Proofs

open Sys2Proof Sys2Proof.Machine

-- One proof after another: many at once wait for the kernel in threads of their own, which the check's memory limit does not hold.
set_option Elab.async false

/-! ## Multiplication by a fixed element of GF(2^9) -/

/-- A map of GF(2^9) to itself that respects its addition: the exclusive OR of numbers below 512. -/
structure GfLinear (A : Nat → Nat) : Prop where
  lt : ∀ x, x < 512 → A x < 512
  add : ∀ x y, x < 512 → y < 512 → A (x ^^^ y) = A x ^^^ A y

/-- Multiplication by α as a shift, with what the primitive polynomial makes of the bit shifted out. -/
theorem gfMulA_eq (x : Nat) (h : x < 512) : gfMulA x = (x <<< 1) % 2 ^ 9 ^^^ (if x.testBit 8 then 0x11 else 0) := by
  have hb : x.testBit 8 = decide (256 ≤ x) := by
    rw [Nat.testBit_eq_decide_div_mod_eq]
    congr 1
    simp only [eq_iff_iff]
    omega
  unfold gfMulA
  rw [hb, Nat.shiftLeft_eq]
  by_cases hx : x < 256
  · rw [if_pos hx, if_neg (by simp; omega), Nat.mod_eq_of_lt (by omega), Nat.xor_zero]
    omega
  · rw [if_neg hx, if_pos (by simp; omega), Nat.mul_comm]
    rfl

/-- Multiplication by α is linear. -/
theorem gfLinear_gfMulA : GfLinear gfMulA where
  lt x h := by
    rw [gfMulA_eq x h]
    exact Nat.xor_lt_two_pow (n := 9) (Nat.mod_lt _ (by decide)) (by split <;> decide)
  add x y hx hy := by
    rw [gfMulA_eq x hx, gfMulA_eq y hy, gfMulA_eq _ (Nat.xor_lt_two_pow (n := 9) hx hy), Nat.shiftLeft_xor_distrib, Nat.xor_mod_two_pow,
      Nat.testBit_xor]
    cases x.testBit 8 <;> cases y.testBit 8 <;> simp [Nat.xor_comm, Nat.xor_left_comm]

/-- Multiplication by α³. -/
def gfCube (x : Nat) : Nat := gfMulA (gfMulA (gfMulA x))

theorem gfLinear_gfCube : GfLinear gfCube where
  lt x h := gfLinear_gfMulA.lt _ (gfLinear_gfMulA.lt _ (gfLinear_gfMulA.lt _ h))
  add x y hx hy := by
    have l := gfLinear_gfMulA
    unfold gfCube
    rw [l.add x y hx hy, l.add _ _ (l.lt x hx) (l.lt y hy), l.add _ _ (l.lt _ (l.lt x hx)) (l.lt _ (l.lt y hy))]

section
variable {A : Nat → Nat} (hA : GfLinear A)
include hA

theorem GfLinear.zero : A 0 = 0 := by
  have h := hA.add 0 0 (by decide) (by decide)
  rwa [Nat.xor_self, Nat.xor_self] at h

theorem GfLinear.ite (b : Bool) (v : Nat) : A (if b then v else 0) = if b then A v else 0 := by
  cases b
  · exact hA.zero
  · rfl

/-- A power of a linear map is linear. -/
theorem GfLinear.iterate : ∀ n, GfLinear A^[n]
  | 0 => ⟨fun _ h => h, fun _ _ _ _ => rfl⟩
  | n + 1 => by
    have ih := GfLinear.iterate n
    exact ⟨fun x h => ih.lt _ (hA.lt x h), fun x y hx hy => by
      rw [Function.iterate_succ_apply, hA.add x y hx hy]; exact ih.add _ _ (hA.lt x hx) (hA.lt y hy)⟩

/-! ## The value of a polynomial -/

omit hA in
/-- The value of a polynomial, its coefficients given lowest first, at the element that A multiplies by, times v. -/
def evalBits (A : Nat → Nat) (v : Nat) : List Bool → Nat
  | [] => 0
  | b :: l => (if b then v else 0) ^^^ A (evalBits A v l)

theorem evalBits_lt (v : Nat) (hv : v < 512) (l : List Bool) : evalBits A v l < 512 := by
  induction l with
  | nil => exact Nat.zero_lt_succ _
  | cons b l ih => exact Nat.xor_lt_two_pow (n := 9) (by split <;> omega) (hA.lt _ ih)

/-- The factor v may be multiplied first. -/
theorem evalBits_apply (v : Nat) (hv : v < 512) (l : List Bool) : evalBits A (A v) l = A (evalBits A v l) := by
  induction l with
  | nil => exact hA.zero.symm
  | cons b l ih =>
    rw [evalBits, evalBits, ih, hA.add _ _ (by split <;> omega) (hA.lt _ (evalBits_lt hA v hv l)), hA.ite]

/-- A polynomial cut in two: the higher part counts times as many powers as the lower part is long. -/
theorem evalBits_append (v : Nat) (hv : v < 512) (l k : List Bool) :
    evalBits A v (l ++ k) = evalBits A v l ^^^ A^[l.length] (evalBits A v k) := by
  induction l with
  | nil => exact (Nat.zero_xor _).symm
  | cons b l ih =>
    rw [List.cons_append, evalBits, evalBits, ih, hA.add _ _ (evalBits_lt hA v hv l)
      ((hA.iterate _).lt _ (evalBits_lt hA v hv k)), List.length_cons, Function.iterate_succ_apply', Nat.xor_assoc]

/-- The sum of two polynomials has the sum of their values. -/
theorem evalBits_xor (v : Nat) (hv : v < 512) (f g : Nat → Bool) (l : List Nat) :
    evalBits A v (l.map (fun i => f i ^^ g i)) = evalBits A v (l.map f) ^^^ evalBits A v (l.map g) := by
  induction l with
  | nil => exact (Nat.xor_self 0).symm
  | cons i l ih =>
    simp only [List.map_cons, evalBits, ih, hA.add _ _ (evalBits_lt hA v hv _) (evalBits_lt hA v hv _)]
    cases f i <;> cases g i <;> simp [Nat.xor_assoc, Nat.xor_left_comm]

/-- The zero polynomial has the value 0. -/
theorem evalBits_zero (v : Nat) (l : List Nat) : evalBits A v (l.map (fun _ => false)) = 0 := by
  induction l with
  | nil => rfl
  | cons i l ih =>
    rw [List.map_cons, evalBits, ih, hA.zero, Nat.xor_zero]
    rfl

/-! ## The division of R18 -/

omit hA in
/-- The coefficients of a remainder, lowest first. -/
def remBits (r : Nat) : List Bool := (List.range 18).map r.testBit

omit hA in
/-- A step of the division shifts the remainder up and takes the generator off it when a bit leaves it or comes in, but not both. -/
theorem bchStep_eq (r : Nat) (b : Bool) :
    bchStep r b = (r <<< 1) % 2 ^ 18 ^^^ (if r.testBit 17 ^^ b then bchGenerator % 2 ^ 18 else 0) := by
  unfold bchStep
  rw [Nat.testBit_eq_decide_div_mod_eq, Nat.shiftLeft_eq, Nat.mul_comm r]
  show (if (decide (r / 2 ^ 17 % 2 = 1) ^^ b) = true then _ else _) = _
  split
  · rfl
  · exact (Nat.xor_zero _).symm

omit hA in
theorem bchStep_lt (r : Nat) (b : Bool) : bchStep r b < 2 ^ 18 := by
  rw [bchStep_eq]
  exact Nat.xor_lt_two_pow (Nat.mod_lt _ (by decide)) (by split <;> decide)

omit hA in
theorem foldl_bchStep_lt (l : List Bool) : l.foldl bchStep 0 < 2 ^ 18 :=
  foldl_keeps (fun r => r < 2 ^ 18) bchStep (fun r b _ => bchStep_lt r b) l 0 (by decide)

omit hA in
theorem remBits_xor (r q : Nat) : remBits (r ^^^ q) = (List.range 18).map (fun i => r.testBit i ^^ q.testBit i) := by
  exact List.map_congr_left (fun i _ => Nat.testBit_xor r q i)

theorem evalBits_zero_remBits (v : Nat) : evalBits A v (remBits 0) = 0 := by
  rw [remBits, List.map_congr_left (fun i _ => Nat.zero_testBit i)]
  exact evalBits_zero hA v _

/-- The remainder shifted up: its value times the element, but for the bit shifted out. -/
theorem evalBits_shift (v : Nat) (hv : v < 512) (r : Nat) :
    evalBits A v (remBits ((r <<< 1) % 2 ^ 18)) =
      A (evalBits A v (remBits r)) ^^^ (if r.testBit 17 then A^[18] v else 0) := by
  have hs : remBits ((r <<< 1) % 2 ^ 18) = false :: (List.range 17).map r.testBit := by
    rw [remBits, List.range_succ_eq_map, List.map_cons, List.map_map]
    congr 1
    · simp
    · refine List.map_congr_left (fun i hi => ?_)
      have hi17 : i < 17 := List.mem_range.mp hi
      rw [Function.comp_apply, Nat.testBit_mod_two_pow, Nat.testBit_shiftLeft]
      simp [show i + 1 < 18 by omega]
  have hr : remBits r = (List.range 17).map r.testBit ++ [r.testBit 17] := by
    simp only [remBits, List.range_succ (n := 17), List.map_append, List.map_cons, List.map_nil]
  have h1 : evalBits A v [r.testBit 17] = if r.testBit 17 then v else 0 := by
    rw [evalBits, evalBits, hA.zero, Nat.xor_zero]
  rw [hs, hr, evalBits_append hA v hv, h1, evalBits, List.length_map, List.length_range, (hA.iterate 17).ite,
    hA.add _ _ (evalBits_lt hA v hv _) (by split; exact (hA.iterate 17).lt v hv; decide), hA.ite, ← Function.iterate_succ_apply' A 17,
    Nat.xor_assoc, Nat.xor_self, Nat.xor_zero]
  exact Nat.zero_xor _

/-- Where the generator vanishes, a step of the division multiplies the value of the remainder and adds x^18 times the bit that came in. -/
theorem evalBits_bchStep (v : Nat) (hv : v < 512) (hg : evalBits A v (remBits (bchGenerator % 2 ^ 18)) = A^[18] v) (r : Nat) (b : Bool) :
    evalBits A v (remBits (bchStep r b)) = A (evalBits A v (remBits r)) ^^^ (if b then A^[18] v else 0) := by
  rw [bchStep_eq, remBits_xor, evalBits_xor hA v hv]
  show evalBits A v (remBits _) ^^^ evalBits A v (remBits _) = _
  rw [evalBits_shift hA v hv, apply_ite (fun q => evalBits A v (remBits q)), hg, evalBits_zero_remBits hA v]
  cases r.testBit 17 <;> cases b <;> simp

/-- Where the generator vanishes, the remainder of the division has the value of the information times x^18. -/
theorem evalBits_remainder (v : Nat) (hv : v < 512) (hg : evalBits A v (remBits (bchGenerator % 2 ^ 18)) = A^[18] v) (l : List Bool) :
    evalBits A v (remBits (l.foldl bchStep 0)) = A^[18] (evalBits A v l.reverse) := by
  induction l using List.reverseRecOn with
  | nil =>
    rw [List.foldl_nil, List.reverse_nil, evalBits, (hA.iterate 18).zero]
    exact evalBits_zero_remBits hA v
  | append_singleton l b ih =>
    have hl := evalBits_lt hA v hv l.reverse
    rw [List.foldl_append, List.foldl_cons, List.foldl_nil, evalBits_bchStep hA v hv hg, ih, List.reverse_append, List.reverse_singleton,
      List.singleton_append, evalBits, (hA.iterate 18).add _ _ (by split <;> omega) (hA.lt _ hl), (hA.iterate 18).ite,
      ← Function.iterate_succ_apply A 18, Function.iterate_succ_apply' A 18, Nat.xor_comm]

end

/-- α and α³ are roots of the generator of R18. -/
theorem generator_roots : evalBits gfMulA 1 (remBits (bchGenerator % 2 ^ 18)) = gfMulA^[18] 1 ∧
    evalBits gfCube 1 (remBits (bchGenerator % 2 ^ 18)) = gfCube^[18] 1 := by decide +kernel

/-! ## The syndromes -/

/-- Coefficients of a pattern from coefficient j on, n of them. -/
def coefBits (e : Codeword) (j n : Nat) : List Bool := (List.range' j n).map (fun i => e.getLsbD (coefBit i))

theorem syndromesFrom_eq (e : Codeword) (n j a1 a3 : Nat) (h1 : a1 < 512) (h3 : a3 < 512) :
    syndromesFrom e n j a1 a3 = (evalBits gfMulA a1 (coefBits e j n), evalBits gfCube a3 (coefBits e j n)) := by
  induction n generalizing j a1 a3 with
  | zero => rfl
  | succ n ih =>
    have e1 := evalBits_apply gfLinear_gfMulA a1 h1 (coefBits e (j + 1) n)
    have e3 := evalBits_apply gfLinear_gfCube a3 h3 (coefBits e (j + 1) n)
    have hb : coefBits e j (n + 1) = e.getLsbD (coefBit j) :: coefBits e (j + 1) n := rfl
    have hrec := ih (j + 1) (gfMulA a1) (gfCube a3) (gfLinear_gfMulA.lt a1 h1) (gfLinear_gfCube.lt a3 h3)
    rw [hb, evalBits, evalBits, ← e1, ← e3]
    show (if e.getLsbD (coefBit j) then
      ((syndromesFrom e n (j + 1) (gfMulA a1) (gfCube a3)).1 ^^^ a1, (syndromesFrom e n (j + 1) (gfMulA a1) (gfCube a3)).2 ^^^ a3)
      else syndromesFrom e n (j + 1) (gfMulA a1) (gfCube a3)) = _
    rw [hrec]
    cases e.getLsbD (coefBit j)
    · simp
    · simp [Nat.xor_comm]

/-- The syndromes of a pattern are its values at α and at α³. -/
theorem syndromes_eq (e : Codeword) :
    syndromes e = (evalBits gfMulA 1 (coefBits e 0 coefCount), evalBits gfCube 1 (coefBits e 0 coefCount)) :=
  syndromesFrom_eq e coefCount 0 1 1 (by decide) (by decide)

/-- The syndromes of a sum of patterns. -/
theorem syndromes_xor (e f : Codeword) :
    syndromes (e ^^^ f) = ((syndromes e).1 ^^^ (syndromes f).1, (syndromes e).2 ^^^ (syndromes f).2) := by
  have hb : coefBits (e ^^^ f) 0 coefCount =
      (List.range' 0 coefCount).map (fun i => e.getLsbD (coefBit i) ^^ f.getLsbD (coefBit i)) :=
    List.map_congr_left (fun i _ => BitVec.getLsbD_xor)
  rw [syndromes_eq, syndromes_eq, syndromes_eq, hb, evalBits_xor gfLinear_gfMulA 1 (by decide),
    evalBits_xor gfLinear_gfCube 1 (by decide)]
  rfl

/-- The parity of a sum of patterns. -/
theorem parityOdd_xor (e f : Codeword) : parityOdd (e ^^^ f) = (parityOdd e ^^ parityOdd f) := by
  have h : ∀ (l : List Nat) (p q : Bool), l.foldl (fun p i => p != (e ^^^ f).getLsbD i) (p ^^ q) =
      (l.foldl (fun p i => p != e.getLsbD i) p ^^ l.foldl (fun p i => p != f.getLsbD i) q) := by
    intro l
    induction l with
    | nil => exact fun _ _ => rfl
    | cons i l ih =>
      intro p q
      rw [List.foldl_cons, List.foldl_cons, List.foldl_cons, ← ih, BitVec.getLsbD_xor]
      congr 1
      cases p <;> cases q <;> cases e.getLsbD i <;> cases f.getLsbD i <;> rfl
  exact h (upto 280) false false

/-! ## The codeword of a block -/

/-- The codeword of a block before its parity bit. -/
def checkedBlock (d : BitVec 256) (fold : Nat) : Codeword :=
  d.setWidth 280 ||| BitVec.ofNat 280 (((infoBits d fold).foldl bchStep 0) <<< 256) ||| BitVec.ofNat 280 ((fold % 32) <<< 275)

theorem encodeBlock_eq (d : BitVec 256) (fold : Nat) :
    encodeBlock d fold = if parityOdd (checkedBlock d fold) then checkedBlock d fold ||| cwBit 274 else checkedBlock d fold := rfl

/-- The bits of a codeword before its parity bit: data, check bits, fold bits. -/
theorem checkedBlock_bit (d : BitVec 256) (fold i : Nat) (hi : i < 280) :
    (checkedBlock d fold).getLsbD i =
      if i < 256 then d.getLsbD i else if i < 274 then ((infoBits d fold).foldl bchStep 0).testBit (i - 256)
      else if i = 274 then false else fold.testBit (i - 275) := by
  have hr := foldl_bchStep_lt (infoBits d fold)
  unfold checkedBlock
  generalize (infoBits d fold).foldl bchStep 0 = r at hr ⊢
  have hlow : ∀ j, 18 ≤ j → r.testBit j = false := fun j hj =>
    Nat.testBit_lt_two_pow (Nat.lt_of_lt_of_le hr (Nat.pow_le_pow_right (by decide) hj))
  have hmod : ∀ j, (fold % 32).testBit j = (decide (j < 5) && fold.testBit j) := fun j => Nat.testBit_mod_two_pow fold 5 j
  simp only [BitVec.getLsbD_or, BitVec.getLsbD_setWidth, BitVec.getLsbD_ofNat, Nat.testBit_shiftLeft, hi, hmod,
    decide_true, Bool.true_and]
  have hd : 256 ≤ i → d.getLsbD i = false := fun h => BitVec.getLsbD_of_ge d i h
  split_ifs with h1 h2 h3
  · simp [show ¬ 256 ≤ i by omega, show ¬ 275 ≤ i by omega]
  · simp [show 256 ≤ i by omega, show ¬ 275 ≤ i by omega]
  · simp [hd (by omega), hlow (i - 256) (by omega), show ¬ 275 ≤ i by omega]
  · simp [hd (by omega), hlow (i - 256) (by omega), show 275 ≤ i by omega, show i - 275 < 5 by omega]

/-- The parity bit added to a codeword flips bit 274, which was 0. -/
theorem encodeBlock_xor (d : BitVec 256) (fold : Nat) :
    encodeBlock d fold = checkedBlock d fold ^^^ if parityOdd (checkedBlock d fold) then cwBit 274 else 0#280 := by
  rw [encodeBlock_eq]
  split
  · refine BitVec.eq_of_getLsbD_eq (fun i hi => ?_)
    rw [BitVec.getLsbD_or, BitVec.getLsbD_xor]
    by_cases h : i = 274
    · rw [h, checkedBlock_bit d fold 274 (by decide)]
      simp
    · simp [cwBit, BitVec.getLsbD_twoPow, Ne.symm h]
  · exact (BitVec.xor_zero).symm

/-- A data bit of a codeword. -/
theorem checkedBlock_data (d : BitVec 256) (fold : Nat) {i : Nat} (hi : i < 256) :
    (checkedBlock d fold).getLsbD i = d.getLsbD i := by
  rw [checkedBlock_bit d fold i (by omega), if_pos hi]

/-- A fold bit of a codeword. -/
theorem checkedBlock_fold (d : BitVec 256) (fold : Nat) {i : Nat} (hi : i < 5) :
    (checkedBlock d fold).getLsbD (275 + i) = fold.testBit i := by
  rw [checkedBlock_bit d fold _ (by omega), if_neg (by omega), if_neg (by omega), if_neg (by omega), Nat.add_sub_cancel_left]

/-- A check bit of a codeword. -/
theorem checkedBlock_check (d : BitVec 256) (fold : Nat) {i : Nat} (hi : i < 18) :
    (checkedBlock d fold).getLsbD (256 + i) = ((infoBits d fold).foldl bchStep 0).testBit i := by
  rw [checkedBlock_bit d fold _ (by omega), if_neg (by omega), if_pos (by omega), Nat.add_sub_cancel_left]

/-- A run of coefficients of a pattern, read from the codeword bits that hold them. -/
theorem coefBits_eq_map (e : Codeword) {j n : Nat} {f : Nat → Bool} (h : ∀ i < n, e.getLsbD (coefBit (j + i)) = f i) :
    coefBits e j n = (List.range n).map f := by
  rw [coefBits, List.range'_eq_map_range, List.map_map]
  exact List.map_congr_left (fun i hi => h i (List.mem_range.mp hi))

/-- The coefficients of a codeword: those of the remainder, then the information bits from the lowest. -/
theorem coefBits_checkedBlock (d : BitVec 256) (fold : Nat) :
    coefBits (checkedBlock d fold) 0 coefCount =
      remBits ((infoBits d fold).foldl bchStep 0) ++ (infoBits d fold).reverse := by
  have hsplit : coefBits (checkedBlock d fold) 0 coefCount =
      coefBits (checkedBlock d fold) 0 18 ++ (coefBits (checkedBlock d fold) 18 256 ++ coefBits (checkedBlock d fold) 274 5) := by
    rw [coefBits, coefBits, coefBits, coefBits, ← List.map_append, ← List.map_append, List.range'_append_1, List.range'_append_1]
    rfl
  have hinfo : (infoBits d fold).reverse = (List.range 256).map d.getLsbD ++ (List.range 5).map fold.testBit := by
    simp only [infoBits, upto, List.reverse_append, ← List.map_reverse, List.reverse_reverse]
  have hcheck : coefBits (checkedBlock d fold) 0 18 = remBits ((infoBits d fold).foldl bchStep 0) :=
    coefBits_eq_map _ (fun i hi => by
      rw [coefBit, if_pos (by omega), Nat.zero_add]
      exact checkedBlock_check d fold hi)
  have hdata : coefBits (checkedBlock d fold) 18 256 = (List.range 256).map d.getLsbD :=
    coefBits_eq_map _ (fun i hi => by
      rw [coefBit, if_neg (by omega), if_pos (by omega), Nat.add_sub_cancel_left]
      exact checkedBlock_data d fold hi)
  have hfold : coefBits (checkedBlock d fold) 274 5 = (List.range 5).map fold.testBit :=
    coefBits_eq_map _ (fun i hi => by
      rw [coefBit, if_neg (by omega), if_neg (by omega), show 274 + i + 1 = 275 + i by omega]
      exact checkedBlock_fold d fold hi)
  rw [hsplit, hinfo, hcheck, hdata, hfold]

/-- The syndromes of a codeword vanish: its polynomial is a multiple of the generator. -/
theorem syndromes_checkedBlock (d : BitVec 256) (fold : Nat) : syndromes (checkedBlock d fold) = (0, 0) := by
  have key : ∀ {A : Nat → Nat}, GfLinear A → evalBits A 1 (remBits (bchGenerator % 2 ^ 18)) = A^[18] 1 →
      evalBits A 1 (remBits ((infoBits d fold).foldl bchStep 0) ++ (infoBits d fold).reverse) = 0 := by
    intro A hA hg
    rw [evalBits_append hA 1 (by decide), evalBits_remainder hA 1 (by decide) hg]
    have hl : (remBits ((infoBits d fold).foldl bchStep 0)).length = 18 := by simp [remBits]
    rw [hl, Nat.xor_self]
  rw [syndromes_eq, coefBits_checkedBlock, key gfLinear_gfMulA generator_roots.1, key gfLinear_gfCube generator_roots.2]

/-! ## The code of R18 -/

/-- A codeword of R18: zero syndromes and even parity. -/
def IsCodeword (c : Codeword) : Prop := syndromes c = (0, 0) ∧ parityOdd c = false

theorem isCodeword_encodeBlock (d : BitVec 256) (fold : Nat) : IsCodeword (encodeBlock d fold) := by
  have hs : syndromes (cwBit 274) = (0, 0) := by decide +kernel
  have hp : parityOdd (cwBit 274) = true := by decide +kernel
  have hs0 : syndromes 0#280 = (0, 0) := by decide +kernel
  have hp0 : parityOdd 0#280 = false := by decide +kernel
  rw [IsCodeword, encodeBlock_xor, syndromes_xor, parityOdd_xor, syndromes_checkedBlock]
  cases parityOdd (checkedBlock d fold)
  · simp [hs0, hp0]
  · simp [hs, hp]

/-- The first stage of the decoder changes nothing of a codeword. -/
theorem IsCodeword.firstStage_eq {c : Codeword} (h : IsCodeword c) : firstStage c = some (0, c) := by
  obtain ⟨hs, hp⟩ := h
  simp [firstStage, hs, hp]

/-- Outside its parity bit a codeword is what it was before that bit was added. -/
theorem encodeBlock_bit (d : BitVec 256) (fold : Nat) {i : Nat} (hi : i ≠ 274) :
    (encodeBlock d fold).getLsbD i = (checkedBlock d fold).getLsbD i := by
  rw [encodeBlock_xor, BitVec.getLsbD_xor]
  split
  · simp [cwBit, BitVec.getLsbD_twoPow, Ne.symm hi]
  · simp

theorem encodeBlock_data (d : BitVec 256) (fold : Nat) : (encodeBlock d fold).extractLsb' 0 256 = d := by
  refine BitVec.eq_of_getLsbD_eq (fun i hi => ?_)
  rw [BitVec.getLsbD_extractLsb', Nat.zero_add, encodeBlock_bit d fold (by omega), checkedBlock_data d fold hi]
  simp [hi]

theorem foldOf_encodeBlock (d : BitVec 256) {fold : Nat} (h : fold < 32) : foldOf (encodeBlock d fold) = fold := by
  have hbits : (encodeBlock d fold).extractLsb' 275 5 = BitVec.ofNat 5 fold := by
    refine BitVec.eq_of_getLsbD_eq (fun i hi => ?_)
    rw [BitVec.getLsbD_extractLsb', encodeBlock_bit d fold (by omega), checkedBlock_fold d fold hi, BitVec.getLsbD_ofNat]
  rw [foldOf, hbits, BitVec.toNat_ofNat, Nat.mod_eq_of_lt h]

/-- Settles O50: the codeword carries the data and the fold bits in its own bits; its polynomial is a multiple of the generator, and its
parity bit makes the parity even. -/
theorem everyEncodedBlockIsSound : Obligations.EveryEncodedBlockIsSound := by
  unfold Obligations.EveryEncodedBlockIsSound
  intro d fold hfold
  have hc := isCodeword_encodeBlock d fold
  exact ⟨encodeBlock_data d fold, foldOf_encodeBlock d hfold, hc.1, hc.2, hc.firstStage_eq⟩

/-! ## One bit in error (R21) -/

/-- The code is linear: the first stage finds of an error in a codeword what it finds of the error alone. -/
theorem IsCodeword.firstStage_xor {c : Codeword} (h : IsCodeword c) (e : Codeword) :
    firstStage (c ^^^ e) = (firstStage e).map (fun f => (f.1, c ^^^ f.2)) := by
  obtain ⟨hs, hp⟩ := h
  have hse : syndromes (c ^^^ e) = syndromes e := by rw [syndromes_xor, hs, Nat.zero_xor, Nat.zero_xor]
  have hpe : parityOdd (c ^^^ e) = parityOdd e := by rw [parityOdd_xor, hp, Bool.false_xor]
  unfold firstStage
  rw [hse, hpe]
  obtain ⟨s1, s3⟩ := syndromes e
  dsimp only
  by_cases hz : s1 = 0 ∧ s3 = 0
  · cases parityOdd e <;> simp [hz, BitVec.xor_assoc]
  · rw [if_neg hz, if_neg hz]
    cases findOne s1 s3 coefCount 0 1 1 with
    | some j => cases parityOdd e <;> simp [BitVec.xor_assoc]
    | none =>
      cases findTwo s1 s3 coefCount 0 1 1 <;> cases parityOdd e <;> simp [BitVec.xor_assoc]

/-- The parity of one bit. -/
theorem parityOdd_cwBit {i : Nat} (hi : i < 280) : parityOdd (cwBit i) = true := by
  have hfold : ∀ (l : List Nat) (p : Bool), (∀ j ∈ l, j < 280) →
      l.foldl (fun p j => p != (cwBit i).getLsbD j) p = (p ^^ decide (l.count i % 2 = 1)) := by
    intro l
    induction l with
    | nil => exact fun p _ => (Bool.xor_false p).symm
    | cons j l ih =>
      intro p hl
      rw [List.foldl_cons, ih _ (fun k hk => hl k (List.mem_cons_of_mem _ hk)), cwBit, BitVec.getLsbD_twoPow, List.count_cons]
      by_cases h : i = j
      · have hodd : decide ((l.count j + 1) % 2 = 1) = !decide (l.count j % 2 = 1) := by
          rw [← decide_not]
          exact decide_eq_decide.mpr (by omega)
        subst h
        rw [decide_eq_true hi, decide_eq_true rfl, beq_self_eq_true, if_pos rfl, hodd]
        cases p <;> simp
      · simp [h, Ne.symm h]
  have hcount : (List.range 280).count i = 1 := List.count_eq_one_of_mem List.nodup_range (List.mem_range.mpr hi)
  unfold parityOdd upto
  rw [hfold _ _ (fun j hj => List.mem_range.mp hj), hcount]
  rfl

/-- The value of one power. -/
theorem evalBits_single {A : Nat → Nat} (hA : GfLinear A) (j n k : Nat) (hj : k ≤ j) (hn : j < k + n) :
    evalBits A 1 ((List.range' k n).map (fun i => decide (j = i))) = A^[j - k] 1 := by
  induction n generalizing k with
  | zero => omega
  | succ n ih =>
    rw [List.range'_succ, List.map_cons, evalBits]
    by_cases h : j = k
    · have hrest : (List.range' (k + 1) n).map (fun i => decide (j = i)) = (List.range' (k + 1) n).map (fun _ => false) :=
        List.map_congr_left (fun i hi => decide_eq_false (by have := List.mem_range'_1.mp hi; omega))
      rw [hrest, evalBits_zero hA, hA.zero, h, Nat.sub_self]
      simp
    · rw [ih (k + 1) (by omega) (by omega), decide_eq_false h, show j - k = (j - (k + 1)) + 1 by omega, Function.iterate_succ_apply']
      exact Nat.zero_xor _

theorem iterate_gfMulA (j : Nat) : gfMulA^[j] 1 = gfPow j := by
  induction j with
  | zero => rfl
  | succ j ih => rw [Function.iterate_succ_apply', ih, gfPow]

theorem iterate_gfCube (j : Nat) : gfCube^[j] 1 = gfPow (3 * j) := by
  induction j with
  | zero => rfl
  | succ j ih => rw [Function.iterate_succ_apply', ih, gfCube, show 3 * (j + 1) = 3 * j + 1 + 1 + 1 by ring, gfPow, gfPow, gfPow]

/-- Each coefficient has a codeword bit of its own. -/
theorem coefBit_inj {i j : Nat} (hi : i < coefCount) (hj : j < coefCount) : coefBit i = coefBit j ↔ i = j := by
  have hcount : coefCount = 279 := rfl
  unfold coefBit
  split_ifs <;> omega

/-- The syndromes of the coefficient of x^j alone. -/
theorem syndromes_coefficient {j : Nat} (hj : j < coefCount) : syndromes (cwBit (coefBit j)) = (gfPow j, gfPow (3 * j)) := by
  have hbits : coefBits (cwBit (coefBit j)) 0 coefCount = (List.range' 0 coefCount).map (fun i => decide (j = i)) := by
    refine List.map_congr_left (fun i hi => ?_)
    have hi' : i < coefCount := by have := List.mem_range'_1.mp hi; omega
    have hlt : coefBit j < 280 := by
      have hcount : coefCount = 279 := rfl
      unfold coefBit
      split_ifs <;> omega
    rw [cwBit, BitVec.getLsbD_twoPow, decide_eq_true hlt, Bool.true_and]
    exact decide_eq_decide.mpr (coefBit_inj hj hi')
  rw [syndromes_eq, hbits, evalBits_single gfLinear_gfMulA j _ 0 (by omega) (by omega),
    evalBits_single gfLinear_gfCube j _ 0 (by omega) (by omega), Nat.sub_zero, iterate_gfMulA, iterate_gfCube]

/-- The search finds each coefficient by its syndromes: the powers of α up to the length of the code differ. -/
theorem findOne_gfPow : ∀ j < coefCount, gfPow j ≠ 0 ∧ findOne (gfPow j) (gfPow (3 * j)) coefCount 0 1 1 = some j := by decide +kernel

/-- Every codeword bit but the parity bit holds a coefficient. -/
theorem exists_coefBit {i : Nat} (hi : i < 280) (hp : i ≠ 274) : ∃ j < coefCount, coefBit j = i := by
  have hcount : coefCount = 279 := rfl
  refine ⟨if i < 256 then i + 18 else if i < 274 then i - 256 else i - 1, ?_, ?_⟩
  · split_ifs <;> omega
  · unfold coefBit
    split_ifs <;> omega

/-- The first stage corrects any one bit in error. -/
theorem firstStage_cwBit {i : Nat} (hi : i < 280) : firstStage (cwBit i) = some (1, 0) := by
  have hodd := parityOdd_cwBit hi
  by_cases hp : i = 274
  · have hs : syndromes (cwBit 274) = (0, 0) := by decide +kernel
    subst hp
    simp [firstStage, hs, hodd]
  · obtain ⟨j, hj, rfl⟩ := exists_coefBit hi hp
    obtain ⟨hne, hfind⟩ := findOne_gfPow j hj
    simp [firstStage, syndromes_coefficient hj, hodd, hne, hfind]

/-- It corrects one bit in error of any codeword. -/
theorem IsCodeword.firstStage_xor_cwBit {c : Codeword} (h : IsCodeword c) {i : Nat} (hi : i < 280) :
    firstStage (c ^^^ cwBit i) = some (1, c) := by
  rw [h.firstStage_xor, firstStage_cwBit hi]
  simp

/-- R20's poison mark is a codeword: zero data under the complement of fold bits 0. -/
theorem encodeBlock_poison : encodeBlock 0#256 31 = poisonPattern := by decide +kernel

theorem isCodeword_poisonPattern : IsCodeword poisonPattern := encodeBlock_poison ▸ isCodeword_encodeBlock 0#256 31

/-- What a read finds of a poisoned block whose bits in error the first stage corrects. -/
theorem decodePattern_poison {e : Codeword} {n : Nat} (h : firstStage e = some (n, poisonPattern)) :
    decodePattern e = (.poisoned (decide (n ≠ 0)), 0#256) := by
  have hne : e ≠ 0 := fun he => by
    have h0 : firstStage 0 = some (0, 0) := by decide +kernel
    rw [he, h0] at h
    exact absurd (congrArg Prod.snd (Option.some.inj h)) (by decide +kernel : (0 : Codeword) ≠ poisonPattern)
  have hfold : foldOf poisonPattern = 31 := encodeBlock_poison ▸ foldOf_encodeBlock 0#256 (by decide)
  have hdata : poisonPattern.extractLsb' 0 256 = 0#256 := encodeBlock_poison ▸ encodeBlock_data 0#256 31
  simp only [decodePattern, if_neg hne, h, hfold, hdata, if_true]

/-- A sound block with one bit in error reads as corrected, and its data as written. -/
theorem decodePattern_cwBit {i : Nat} (hi : i < 280) : decodePattern (cwBit i) = (.corrected 1, 0#256) := by
  have hne : cwBit i ≠ 0 := by
    intro h0
    have hb : (cwBit i).getLsbD i = false := by rw [h0]; exact BitVec.getLsbD_zero
    rw [cwBit, BitVec.getLsbD_twoPow, decide_eq_true hi, decide_eq_true rfl] at hb
    exact Bool.noConfusion hb
  have hfold : foldOf 0 = 0 := by simp [foldOf]
  have hdata : (0 : Codeword).extractLsb' 0 256 = 0#256 := by simp
  simp only [decodePattern, if_neg hne, firstStage_cwBit hi, hfold, hdata]
  simp

/-- A reader of a block with one bit in error gets its bytes as last written. -/
theorem read_of_flip_cwBit {m : Mem} {a i : Nat} (hi : i < 280) (h : m.flip a = cwBit i) :
    m.readByte a = m.byte a ∧ m.isBad a = false := by
  have ho : m.outcome a = (.corrected 1, 0#256) := by rw [Mem.outcome, h, decodePattern_cwBit hi]
  rw [Mem.readByte, Mem.isBad, ho]
  refine ⟨?_, rfl⟩
  have hz : patternByte 0#256 (a % 32) = 0#8 := by simp [patternByte]
  rw [hz, BitVec.xor_zero]

/-- Settles O49: by linearity of the code, one bit in error of a codeword is found as it is alone, and there by evaluation of its 280
places. -/
theorem blockReadOutcomes : Obligations.BlockReadOutcomes := by
  unfold Obligations.BlockReadOutcomes
  refine ⟨fun i hi => decodePattern_cwBit hi, fun i hi => ?_, ?_, encodeBlock_poison, fun m a i hi h => read_of_flip_cwBit hi h⟩
  · exact decodePattern_poison (isCodeword_poisonPattern.firstStage_xor_cwBit hi)
  · exact decodePattern_poison isCodeword_poisonPattern.firstStage_eq

end Sys2Proof.Proofs
end

section
/-! What every command keeps (R15, R16, R21): one walk over the operations of the model. `Keeps s t` says what the work of a command leaves
of s in t; each operation has one lemma, whose proof follows the operation's own definition, and a command's is put together from
them. -/

namespace Sys2Proof.Proofs

open Sys2Proof Sys2Proof.Machine

-- One proof after another: many at once wait for the kernel in threads of their own, which the check's memory limit does not hold.
set_option Elab.async false

/-! ## The relation -/

/-- What the work of a command keeps: the true time and the queue, memory's canonical form, a module in BOOT, and, unless it ends in BOOT,
the stopped islands. -/
structure Keeps (s t : State) : Prop where
  now : t.now = s.now
  pending : t.pending = s.pending
  wf : s.mem.wf = true → t.mem.wf = true
  boot : s.mode = .boot → t.mode = .boot
  stopped : t.mode ≠ .boot → ∀ i, s.sup.stopped.getLsbD i = true → t.sup.stopped.getLsbD i = true

/-- The parts of the state that `Keeps` speaks of. -/
def State.kept (s : State) : Nat × List Instr × Mem × Mode × BitVec 12 := (s.now, s.pending, s.mem, s.mode, s.sup.stopped)

theorem Keeps.refl (s : State) : Keeps s s := ⟨rfl, rfl, id, id, fun _ _ h => h⟩

section
variable {s t u : State}

theorem Keeps.trans (h : Keeps s t) (k : Keeps t u) : Keeps s u where
  now := k.now.trans h.now
  pending := k.pending.trans h.pending
  wf := fun w => k.wf (h.wf w)
  boot := fun b => k.boot (h.boot b)
  stopped := fun m i hi => k.stopped m i (h.stopped (fun b => m (k.boot b)) i hi)

/-- Work that touches none of the parts. -/
theorem Keeps.rest (h : Keeps s t) (e : State.kept u = State.kept t := by dsimp only [State.kept]) : Keeps s u := by
  simp only [State.kept, Prod.mk.injEq] at e
  obtain ⟨hnow, hpending, hmem, hmode, hstopped⟩ := e
  exact h.trans ⟨hnow, hpending, fun w => hmem ▸ w, fun b => hmode.trans b, fun _ _ hi => hstopped ▸ hi⟩

/-- Work that leaves the shell and keeps memory's form. -/
theorem Keeps.of_shell (h : Keeps s t) (e : u.shell = t.shell) (w : t.mem.wf = true → u.mem.wf = true) : Keeps s u :=
  h.trans ⟨now_of_shell e, pending_of_shell e, w, fun b => (mode_of_shell e).trans b, fun _ _ hi => (sup_of_shell e).symm ▸ hi⟩

theorem Keeps.ite {a b : State} {c : Prop} [Decidable c] (ha : Keeps s a) (hb : Keeps s b) : Keeps s (if c then a else b) := by
  split
  · exact ha
  · exact hb

/-- A fold of work. -/
theorem Keeps.foldl {B : Type} {f : State → B → State} (hf : ∀ t b, Keeps s t → Keeps s (f t b)) (l : List B) (h : Keeps s t) :
    Keeps s (l.foldl f t) :=
  foldl_keeps (Keeps s) f hf l t h

/-- A free value drawn. -/
theorem Keeps.fresh (h : Keeps s t) : Keeps s t.fresh.2 := h.trans ⟨rfl, rfl, id, id, fun _ _ => id⟩

theorem Keeps.withSeq (h : Keeps s t) (q : Seq) : Keeps s { t with seq := q } := h.rest
theorem Keeps.withHdr (h : Keeps s t) (m : RMap) : Keeps s { t with hdr := m } := h.rest

theorem Keeps.withMem (h : Keeps s t) {m : Mem} (w : t.mem.wf = true → m.wf = true) : Keeps s { t with mem := m } :=
  h.trans ⟨rfl, rfl, w, id, fun _ _ => id⟩

/-! ## Units at work -/

theorem Keeps.commit (h : Keeps s t) (fx : Fx) (st : List Store) : Keeps s (t.commit fx st) :=
  h.of_shell (shell_commit fx st t) (wf_commit fx st t)

theorem Keeps.code (h : Keeps s t) (p c : Nat) (l : List Word) : Keeps s (t.code p c l) := h.commit _ _
theorem Keeps.codeRec (h : Keeps s t) (p c : Nat) (l : List Word) : Keeps s (t.codeRec p c l) := h.commit _ _
theorem Keeps.event (h : Keeps s t) (p f : Nat) : Keeps s (t.event p f) := h.rest rfl

theorem Keeps.onSeq (h : Keeps s t) (f : Seq → W Seq) : Keeps s (t.onSeq f) := Keeps.commit h.rest _ _
theorem Keeps.onFq (h : Keeps s t) (f : Fq → W Fq) : Keeps s (t.onFq f) := Keeps.commit h.rest _ _
theorem Keeps.onFlt (h : Keeps s t) (f : Flt → W Flt) : Keeps s (t.onFlt f) := Keeps.commit h.rest _ _
theorem Keeps.onPrg (h : Keeps s t) (f : Prg → W Prg) : Keeps s (t.onPrg f) := Keeps.commit h.rest _ _
theorem Keeps.onEst (h : Keeps s t) (f : Est → W Est) : Keeps s (t.onEst f) := Keeps.commit h.rest _ _
theorem Keeps.onFus (h : Keeps s t) (f : Fus → W Fus) : Keeps s (t.onFus f) := Keeps.commit h.rest _ _
theorem Keeps.onGns (h : Keeps s t) (f : Gns → W Gns) : Keeps s (t.onGns f) := Keeps.commit h.rest _ _
theorem Keeps.onCtl (h : Keeps s t) (f : Ctl → W Ctl) : Keeps s (t.onCtl f) := Keeps.commit h.rest _ _
theorem Keeps.onAlc (h : Keeps s t) (f : Alc → W Alc) : Keeps s (t.onAlc f) := Keeps.commit h.rest _ _
theorem Keeps.onSol (h : Keeps s t) (f : Sol → W Sol) : Keeps s (t.onSol f) := Keeps.commit h.rest _ _
theorem Keeps.onChn (h : Keeps s t) (f : Chn → W Chn) : Keeps s (t.onChn f) := Keeps.commit h.rest _ _
theorem Keeps.onTim (h : Keeps s t) (f : Tim → W Tim) : Keeps s (t.onTim f) := Keeps.commit h.rest _ _
theorem Keeps.onPtp (h : Keeps s t) (f : Ptp → W Ptp) : Keeps s (t.onPtp f) := Keeps.commit h.rest _ _
theorem Keeps.onNet (h : Keeps s t) (f : Net → W Net) : Keeps s (t.onNet f) := Keeps.commit h.rest _ _
theorem Keeps.onCan (h : Keeps s t) (f : Can → W Can) : Keeps s (t.onCan f) := Keeps.commit h.rest _ _
theorem Keeps.onFio (h : Keeps s t) (f : Fio → W Fio) : Keeps s (t.onFio f) := Keeps.commit h.rest _ _
theorem Keeps.onSer (h : Keeps s t) (f : Ser → W Ser) : Keeps s (t.onSer f) := Keeps.commit h.rest _ _
theorem Keeps.onPos (h : Keeps s t) (f : Pos → W Pos) : Keeps s (t.onPos f) := Keeps.commit h.rest _ _
theorem Keeps.onSaf (h : Keeps s t) (f : Saf → W Saf) : Keeps s (t.onSaf f) := Keeps.commit h.rest _ _
theorem Keeps.onNvs (h : Keeps s t) (f : Nvs → W Nvs) : Keeps s (t.onNvs f) := Keeps.commit h.rest _ _

theorem Keeps.onLog (h : Keeps s t) (f : Rec → W Rec) : Keeps s (t.onLog f) :=
  Keeps.commit (h.of_shell (shell_setLog _ t) (fun w => (mem_setLog (f t.log).u t).symm ▸ w)) _ _

theorem Keeps.rates (h : Keeps s t) : Keeps s t.rates := Keeps.foldl (fun _ _ k => k.onPrg _) _ h

theorem Keeps.onPwr (h : Keeps s t) (f : Pwr → W Pwr) : Keeps s (t.onPwr f) := (Keeps.commit h.rest _ _).rates

theorem Keeps.onPower (h : Keeps s t) (f : Pwr → W Pwr) : Keeps s (t.onPower f) :=
  .ite (((h.onPwr f).onFus _).rest) (h.onPwr f)

theorem Keeps.releaseIdle (h : Keeps s t) : Keeps s t.releaseIdle := h.onPower _

/-! ## A happening of a unit -/

theorem Keeps.upOn {f : State → State} (hf : ∀ {t}, Keeps s t → Keeps s (f t)) (h : Keeps s t) (page : Nat) : Keeps s (t.upOn page f) :=
  .ite (hf h) h

theorem Keeps.workOn {f : State → State} (hf : ∀ {t}, Keeps s t → Keeps s (f t)) (h : Keeps s t) (page : Nat) :
    Keeps s (t.workOn page f) :=
  .ite (hf h) h

theorem Keeps.withFeature {f : State → State} (hf : ∀ {t}, Keeps s t → Keeps s (f t)) (h : Keeps s t) (k : Nat) :
    Keeps s (t.withFeature k f) :=
  .ite (hf h) h

/-! ## Spans and fathoms (R39, R46, R49, R53–R58) -/

theorem Keeps.swapPair (h : Keeps s t) (b l : Nat) : Keeps s (t.swapPair b l) := .ite h h.rest
theorem Keeps.swapPairs (h : Keeps s t) (l : List (Nat × Nat)) : Keeps s (t.swapPairs l) := h.foldl (fun _ _ k => k.swapPair _ _) l

theorem Keeps.matchSnaps (h : Keeps s t) (l : List Nat) : Keeps s (t.matchSnaps l) := h.commit _ _

theorem Keeps.matchActions (h : Keeps s t) (lines : BitVec 24) (l : List (Nat × Nat)) : Keeps s (t.matchActions lines l) :=
  h.foldl (fun _ _ k => .ite (.ite k k.rest) <| .ite (.ite (k.onGns _) k) <| .ite (.ite (k.onPos _) k) <|
    .ite (.ite k.rest k) k) l

theorem Keeps.matchFire (h : Keeps s t) (lines : BitVec 24) : Keeps s (t.matchFire lines) :=
  (Keeps.matchActions h.rest lines _).matchSnaps _

theorem Keeps.makeStep (h : Keeps s t) (lines : BitVec 24) : Keeps s (t.makeStep lines) := by
  unfold State.makeStep
  split
  · exact h
  · exact Keeps.matchFire ((h.onTim _).rest) lines

theorem Keeps.steer (h : Keeps s t) (f : Tim → W Tim) : Keeps s (t.steer f) :=
  .ite (h.onTim f) ((h.onTim f).fresh.makeStep _)

theorem Keeps.installPart (h : Keeps s t) (p : Nat × JoinState) : Keeps s (t.installPart p) :=
  Keeps.commit (.ite h.rest <| .ite h.rest <| .ite h.rest <| .ite h.rest <| .ite h.rest <|
    .ite h.rest h) _ _

theorem Keeps.unitPublish (h : Keeps s t) (x : Span) : Keeps s (t.unitPublish x) := by
  refine Keeps.onChn (.ite h.rest <| .ite (.ite h.rest h) <| .ite (h.onCtl _) <| .ite h.rest <|
    .ite h.rest <| .ite ?pvt <| .ite h.rest <| .ite (h.swapPairs _) h) _
  case pvt =>
    dsimp only
    split
    · exact (h.onGns _).steer _
    · exact .ite ((h.onGns _).onTim _) (h.onGns _)

theorem Keeps.unitMiss (h : Keeps s t) (x : Span) : Keeps s (t.unitMiss x) :=
  .ite (h.onSol _) <| .ite (.ite (h.onEst _) (h.onSol _)) <| .ite (h.onCtl _) <| .ite (h.event _ _) <| .ite (h.onFus _) <|
    .ite (h.onGns _) <| .ite (h.onAlc _) h

theorem Keeps.seqMiss (h : Keeps s t) (unit idx cause code : Nat) : Keeps s (t.seqMiss unit idx cause code) := h.onSeq _

theorem Keeps.noteAbort (h : Keeps s t) (unit : Nat) : Keeps s (t.noteAbort unit) := h.withSeq _

theorem Keeps.endRun (h : Keeps s t) (r : Run) : Keeps s (t.endRun r) := by
  unfold State.endRun
  have hdrop : Keeps s { t with seq := t.seq.drop r } := h.rest
  split
  · exact .ite (Keeps.unitPublish ((hdrop.swapPair _ _).rest) _) (hdrop.seqMiss _ _ _ _)
  · have habort : Keeps s (if r.span.long (t.seq.drop r).lenUs then ({ t with seq := t.seq.drop r } : State)
        else ({ t with seq := t.seq.drop r } : State).noteAbort r.span.unit) := .ite hdrop (hdrop.noteAbort _)
    exact Keeps.seqMiss (.ite (habort.unitMiss _) habort) _ _ _ _

theorem Keeps.deadlines (h : Keeps s t) : Keeps s t.deadlines := h.foldl (fun _ _ k => k.endRun _) _

theorem Keeps.deadline (h : Keeps s t) (idx : Nat) : Keeps s (t.deadline idx) := by
  unfold State.deadline
  split
  · exact h.endRun _
  · exact h

theorem Keeps.ran {U : Type} {put : U → State → State} (hput : ∀ {t} u, Keeps s t → Keeps s (put u t)) (h : Keeps s t) (r : R U) :
    Keeps s (t.ran put r).1 :=
  (hput _ h).commit _ _

theorem Keeps.startSpan {work : Span → SpanIn → State → State × Bool} (hw : ∀ {t} x i, Keeps s t → Keeps s (work x i t).1)
    (h : Keeps s t) (idx : Nat) (ok : Span → Bool) (now : Bool) : Keeps s (t.startSpan idx ok now work) := by
  have hd := h.deadlines
  have hmark : Keeps s (({ t.deadlines with seq := { t.deadlines.seq with issued := t.deadlines.seq.issued ++ [idx] } } : State).commit
      { Fx.none with reads := [(Pg.SEQ, spanAddr t.deadlines.seq.bank idx)] } []) := Keeps.commit hd.rest _ _
  exact .ite (.ite (hmark.seqMiss _ _ _ _) <| .ite (.ite (Keeps.seqMiss (.ite (hmark.unitMiss _) hmark) _ _ _ _)
    (Keeps.withSeq (hw _ _ hmark.fresh) _)) hd) hd

theorem Keeps.spanDone (h : Keeps s t) (idx : Nat) (result : Bool) : Keeps s (t.spanDone idx result) := by
  unfold State.spanDone
  split
  · exact h
  · exact .ite h.rest h

theorem Keeps.swapStep (h : Keeps s t) : Keeps s t.swapStep := .ite h (.ite ((h.onSeq _).rest) (h.onSeq _))

theorem Keeps.outputWords (h : Keeps s t) : Keeps s t.outputWords := .ite (h.onFio _) h

theorem Keeps.installJoins (h : Keeps s t) : Keeps s t.installJoins := (h.onChn _).foldl (fun _ _ k => k.installPart _) _

theorem Keeps.releases (h : Keeps s t) : Keeps s t.releases :=
  .ite (.ite h (Keeps.onPrg (t := { t with prg := t.prg.passOver t.seq.count }) h.rest _)) h

theorem Keeps.beginFathom (h : Keeps s t) : Keeps s t.beginFathom := by
  have hpub : Keeps s ((t.onSeq Seq.nextFathom).swapPairs (t.onSeq Seq.nextFathom).prg.written) := (h.onSeq _).swapPairs _
  exact Keeps.releases (Keeps.outputWords (.ite (Keeps.installJoins (Keeps.onChn hpub.rest _)) hpub.rest))

theorem Keeps.fathomStart (h : Keeps s t) : Keeps s t.fathomStart := .ite h.deadlines.swapStep.beginFathom h
theorem Keeps.furlongSwap (h : Keeps s t) : Keeps s t.furlongSwap := .ite h.deadlines.swapStep h

end

section
variable {s t u : State}

/-! ## Module states and requests (R417–R420) -/

/-- A module state entered from another than BOOT. -/
theorem Keeps.enter (h : Keeps s t) (hm : t.mode ≠ .boot) (m : Mode) : Keeps s (t.enter m) where
  now := (enter_now m t).trans h.now
  pending := (enter_pending m t).trans h.pending
  wf := fun w => (enter_mem m t).symm ▸ h.wf w
  boot := fun b => absurd (h.boot b) hm
  stopped := fun _ i hi => (enter_sup m t).symm ▸ h.stopped hm i hi

/-- A reset, which ends in BOOT. -/
theorem Keeps.reset (h : Keeps s t) (cause base : Nat) : Keeps s ((t.resetTo cause base).enter .boot) where
  now := (enter_now _ _).trans h.now
  pending := (enter_pending _ _).trans h.pending
  wf := fun w => (enter_mem _ _).symm ▸ wf_resetTo cause base t (h.wf w)
  boot := fun _ => enter_mode _ _
  stopped := fun m => absurd (enter_mode _ _) m

theorem Keeps.commandedReset (h : Keeps s t) (base : Nat) : Keeps s (t.commandedReset base) := .ite h ((h.codeRec _ _ _).reset _ _)

theorem Keeps.resetWrite (h : Keeps s t) (base : Nat) (v : Word) : Keeps s (t.resetWrite base v) := .ite (h.commandedReset _) h

theorem Keeps.negotiate (h : Keeps s t) : Keeps s t.negotiate := h.rest rfl

theorem Keeps.showChecks (h : Keeps s t) (leaving : Bool) (upTo : Nat) : Keeps s (t.showChecks leaving upTo) := by
  have hseq : Keeps s (if Pg.SEQ ≤ upTo ∧ t.seq.gridOk = true then
      { t with seq := t.seq.showVerdict (t.seq.exitVerdict t.mem t.feature leaving) } else t) := .ite h.rest h
  exact .ite (hseq.rest rfl) hseq

/-- The verdicts shown leave SUP. -/
theorem sup_showChecks (s : State) (leaving : Bool) (upTo : Nat) : (s.showChecks leaving upTo).sup = s.sup := by
  unfold State.showChecks
  simp only [apply_ite State.sup, ite_self]

theorem Keeps.refuseWith (h : Keeps s t) (page : Nat) (c : Code) : Keeps s (t.refuseWith page c) := Keeps.commit h.rest _ _

theorem Keeps.checkList (h : Keeps s t) (leaving : Bool) : Keeps s (t.checkList leaving).1 := by
  unfold State.checkList
  dsimp only
  split
  · exact h.negotiate.refuseWith _ _
  · split
    · exact (h.negotiate.showChecks _ _).refuseWith _ _
    · refine Keeps.rest (h.negotiate.showChecks leaving pageCount) ?_
      simp only [State.kept, sup_showChecks]

theorem Keeps.discardRequest (h : Keeps s t) : Keeps s t.discardRequest := h.commit _ _

theorem Keeps.wait (h : Keeps s t) (r : Request) : Keeps s (t.wait r) := h.rest rfl

theorem Keeps.goReady (h : Keeps s t) : Keeps s t.goReady :=
  .ite h <| .ite h.discardRequest <| .ite (.ite (Keeps.wait (Keeps.withSeq (h.checkList _) _) _) (h.checkList _)) <|
    .ite (.ite ((h.checkList _).wait _) (h.checkList _)) h.discardRequest

theorem Keeps.goRun (h : Keeps s t) : Keeps s t.goRun :=
  .ite h <| .ite h.discardRequest <| .ite (h.wait _) <| .ite ((h.checkList _).wait _) (h.checkList _)

theorem Keeps.stopRequest (h : Keeps s t) : Keeps s t.stopRequest := .ite h <| .ite h.discardRequest (h.wait _)
theorem Keeps.goService (h : Keeps s t) : Keeps s t.goService := .ite h <| .ite h.discardRequest (h.wait _)

/-- GO_CONFIG acts in READY alone. -/
theorem Keeps.goConfig (h : Keeps s t) : Keeps s t.goConfig := by
  unfold State.goConfig
  split
  · exact h
  split
  · exact h.discardRequest
  next hready =>
    have hm : t.mode ≠ .boot := by
      intro hb
      exact hready (.inr (by rw [hb]; decide))
    exact Keeps.onGns ((h.enter hm .config).rest) _

/-- What a write does to a check list that was passed. -/
theorem Keeps.unpassed (h : Keeps s t) (m : RMap) : Keeps s { t with hdr := m, sup := { t.sup with passed := false } } := h.rest

/-! ## Register writes (R6–R9, R433–R435, R441) -/

theorem Keeps.setCells (h : Keeps s t) (page : Nat) (m : RMap) : Keeps s (t.setCells page m) := by
  refine h.rest ?_
  unfold State.setCells
  simp only [apply_ite State.kept]
  simp only [State.kept, ite_self]

theorem Keeps.enableUnit (h : Keeps s t) (page : Nat) (on : Bool) : Keeps s (t.enableUnit page on) :=
  .ite h.rest <| .ite h.rest <| .ite (.ite h h.rest) <| .ite (.ite h h.rest) <| .ite (h.onGns _) h

theorem Keeps.softUnit (h : Keeps s t) (page : Nat) : Keeps s (t.softUnit page) := by
  refine h.rest ?_
  unfold State.softUnit
  simp only [apply_ite State.kept]
  simp only [State.kept, ite_self]

theorem Keeps.softReset (h : Keeps s t) (page : Nat) : Keeps s (t.softReset page) := by
  have hcells : Keeps s (t.setCells page (clearPage (t.cells page) page)) := h.setCells _ _
  exact Keeps.enableUnit (Keeps.softUnit (Keeps.withHdr (.ite hcells.rest hcells) _) _) _ _

theorem Keeps.takeCopy (h : Keeps s t) (page : Nat) : Keeps s (t.takeCopy page) := h.rest rfl

theorem Keeps.ctrlWrite (h : Keeps s t) (acc : Accessor) (page : Nat) (v : Word) : Keeps s (t.ctrlWrite acc page v) := by
  have hcopy : ∀ (x : State) (m : RMap), Keeps s x →
      Keeps s (if bit v 2 then ({ x with hdr := m } : State).takeCopy page else { x with hdr := m }) :=
    fun _ _ hx => .ite ((hx.withHdr _).takeCopy _) (hx.withHdr _)
  exact .ite (hcopy _ _ (.ite (h.code _ _ _) h)) <| .ite (h.softReset _) <|
    .ite (Keeps.enableUnit (Keeps.unpassed (hcopy _ _ (.ite (h.code _ _ _) h)) _) _ _) (hcopy _ _ (.ite (h.code _ _ _) h))

theorem Keeps.iteFst {A : Type} {a b : State × A} {c : Prop} [Decidable c] (ha : Keeps s a.1) (hb : Keeps s b.1) :
    Keeps s (if c then a else b).1 := by
  split
  · exact ha
  · exact hb

theorem Keeps.headerWrite (h : Keeps s t) (acc : Accessor) (page off : Nat) (v : Word) : Keeps s (t.headerWrite acc page off v).1 :=
  .iteFst (h.ctrlWrite _ _ _) <| .iteFst h.rest <| .iteFst h.rest <| .iteFst (.iteFst h.rest h) h

theorem Keeps.swapRequest (h : Keeps s t) : Keeps s t.swapRequest := h.onSeq _

theorem Keeps.armed (h : Keeps s t) (n : Nat) (x : W Tim × List (Nat × Nat)) (lines : BitVec 24) : Keeps s (t.armed n x lines) := by
  have hacts := Keeps.matchActions (Keeps.commit (t := { t with tim := x.1.u }) h.rest x.1.fx x.1.st) lines x.2
  exact .ite hacts (hacts.matchSnaps _)

theorem Keeps.actOp (h : Keeps s t) (op arg : Nat) : Keeps s (t.actOp op arg).1 := by
  have hswap : Keeps s { t with
      seq := { t.seq with regs := rset t.seq.regs Reg.SEQ_SWAP_AT (wd arg) }
      hdr := hdrSeq t.hdr Pg.SEQ } := h.rest
  have hchange : Keeps s { t with
      prg := { t.prg with regs := rset t.prg.regs Reg.PRG_CHG_AT (wd arg) }
      hdr := hdrSeq t.hdr Pg.PRG } := h.rest
  exact .iteFst (.iteFst hswap <| .iteFst hswap.swapRequest hswap.swapRequest) <|
    .iteFst (.iteFst (hchange.onPrg _) (hchange.onPrg _)) <| .iteFst (.iteFst h (h.armed _ _ _)) h

theorem Keeps.opGo (h : Keeps s t) : Keeps s t.opGo := .ite (h.code _ _ _) (Keeps.onChn ((h.onChn _).actOp _ _) _)

theorem Keeps.sc {f : State → State} (hf : ∀ {t}, Keeps s t → Keeps s (f t)) (h : Keeps s t) {v : Word} {i : Nat} : Keeps s (sc v i f t) :=
  .ite (hf h) h

theorem Keeps.discarded (h : Keeps s t) (reg page : Nat) : Keeps s (t.discarded reg page) :=
  .ite (h.code _ _ _) <| .ite (h.code _ _ _) h

theorem Keeps.bootWrite (h : Keeps s t) (v : Word) : Keeps s (t.bootWrite v) := h.rest rfl

theorem Keeps.supCtrl {save : State → State} (hs : ∀ {t}, Keeps s t → Keeps s (save t)) (h : Keeps s t) (v : Word) :
    Keeps s (t.supCtrl save v) :=
  .sc hs <| .sc .goService <| .sc .goConfig <| .sc .stopRequest <| .sc .goRun <| .sc .goReady h

theorem Keeps.canCtrl (h : Keeps s t) (n : Nat) (old v : Word) : Keeps s (t.canCtrl n old v) := by
  have hrecover : Keeps s (if bit v 2 || rbit t.can.regs (rk Reg.CAN_CTRL n 0) 1 then
      t.onCan (fun u => W.of (u.recoverStart n)) else t) := .ite (h.onCan _) h
  exact .ite (hrecover.onCan _) <| .ite (hrecover.onCan _) hrecover

theorem Keeps.gnsChanWrite (h : Keeps s t) (b c : Nat) : Keeps s (t.gnsChanWrite b c) := .ite h h.rest

theorem Keeps.scanWrite (h : Keeps s t) (k : Nat) (old v : Word) : Keeps s (t.scanWrite k old v) := .ite h.rest h

theorem Keeps.requestSave (h : Keeps s t) : Keeps s t.requestSave := .ite h.rest h

/-- The effect of a write beside its cell: one case per register that has one. -/
theorem Keeps.act {save : State → State} (hs : ∀ {t}, Keeps s t → Keeps s (save t)) (h : Keeps s t) (reg n w : Nat) (v old : Word) :
    Keeps s (t.act save reg n w v old) :=
  .ite (h.supCtrl hs v) <| .ite (h.resetWrite _ v) <| .ite (h.bootWrite v) <| .ite (h.onPower _) <|
  .ite (.sc (fun k => k.commit _ _) h) <| .ite (h.onSeq _) <| .ite (h.onSeq _) <| .ite (.sc .swapRequest h) <| .ite h.rest <|
  .ite (h.onTim _) <| .ite (h.fresh.armed _ _ _) <| .ite (.sc (fun k => k.onLog _) h) <|
  .ite (.sc (fun k => k.onPrg _) <| .sc (fun k => k.onPrg _) <| .sc (fun k => k.onPrg _) h) <| .ite h.rest <|
  .ite (.sc .requestSave h) <| .ite (h.onPrg _) <| .ite (h.onSaf _) <| .ite (h.onSaf _) <| .ite (.sc (fun k => k.rest) h) <|
  .ite h.rest <| .ite (.ite h.rest h) <| .ite (.sc (fun k => k.rest) <| .sc (fun k => k.rest) h) <| .ite (.sc .opGo h) <|
  .ite (.sc (fun k => k.rest) h) <| .ite (.sc (fun k => k.rest) <| .sc (fun k => k.rest) h) <| .ite (h.scanWrite _ _ _) <|
  .ite (.sc (fun k => k.rest) h) <| .ite (h.gnsChanWrite _ _) <| .ite h.rest <|
  .ite (.sc (fun k => k.onGns _) <| .sc (fun k => k.rest) <| .sc (fun k => k.onGns _) h) <| .ite (h.onCtl _) <|
  .ite (.sc (fun k => k.onCtl _) <| .sc (fun k => k.onCtl _) h) <| .ite (h.onSol _) <| .ite (.sc (fun k => k.onSol _) h) <|
  .ite (.sc (fun k => k.onSol _) h) <| .ite (h.onSol _) <| .ite (h.onAlc _) <| .ite (.sc (fun k => k.onAlc _) h) <|
  .ite (h.onFlt _) <| .ite (h.canCtrl _ _ _) <| .ite h.rest <| .ite h.rest <| .ite (.ite h.rest h) <| .ite h.rest <|
  .ite (.sc (fun k => k.fresh.onPos _) h) <| .ite (h.onPos _) <| .ite (h.onPos _) h

/-- A write of a listed register: its cell, and what the write does beside it. -/
theorem Keeps.rowWrite {act : Nat → Nat → Word → State → State} (ha : ∀ {t} n w old, Keeps s t → Keeps s (act n w old t)) (h : Keeps s t)
    (page off : Nat) (v : Word) : Keeps s (t.rowWrite page off v act).1 := by
  have hlost : ∀ c : Bool, Keeps s (if c then t.code page 0x1001 [] else t) := fun c => .ite (h.code _ _ _) h
  unfold State.rowWrite
  dsimp only
  split
  · exact h
  split
  · exact h
  have hmark : ∀ (c d : Bool) (m : RMap), Keeps s
      (if d then { (if c then t.code page 0x1001 [] else t) with
          hdr := m, sup := { (if c then t.code page 0x1001 [] else t).sup with passed := false } }
        else { (if c then t.code page 0x1001 [] else t) with hdr := m }) :=
    fun c _ _ => .ite (Keeps.unpassed (hlost c) _) (Keeps.withHdr (hlost c) _)
  exact .iteFst (.iteFst (Keeps.discarded (.ite (ha _ _ _ (hlost _)) (hlost _)) _ _) (hlost _)) <|
    .iteFst (ha _ _ _ (.ite (hmark _ _ _) (Keeps.setCells (hmark _ _ _) _ _))) (hlost _)

theorem Keeps.regWriteWith {act : Nat → Nat → Word → State → State} (ha : ∀ {t} n w old, Keeps s t → Keeps s (act n w old t))
    (h : Keeps s t) (acc : Accessor) (page off width : Nat) (v : Word) : Keeps s (t.regWriteWith act acc page off width v).1 :=
  .iteFst h <| .iteFst (h.code _ _ _) <| .iteFst (h.code _ _ _) <| .iteFst (h.code _ _ _) <|
    Keeps.releaseIdle (.iteFst (h.headerWrite _ _ _ _) (h.rowWrite ha _ _ _))

end

section
variable {s t u : State}

/-! ## Transitions (R39, R55, R56, R418) -/

theorem mode_ne_boot_of_startDue (h : t.startDue = true) : t.mode ≠ .boot := by
  intro hb
  simp [State.startDue, State.gridDue, State.counting, hb] at h

theorem mode_atStart (t : State) : t.atStart.mode = t.mode := by
  unfold State.atStart
  split
  · exact mode_of_outer (outer_fathomStart t)
  · rfl

theorem mode_settle (t : State) : t.settle.mode = t.mode := by
  unfold State.settle
  split
  · dsimp only
    rw [onSeq_mode]
  · rfl

theorem mode_leaveRun (t : State) : t.leaveRun.mode = t.mode := by
  have hrun : ∀ (x : State) (r : Run), (x.withdrawRun r).mode = x.mode := fun x r => by
    unfold State.withdrawRun
    dsimp only
    rw [code_mode]
    split
    · rfl
    · split <;> rfl
  unfold State.leaveRun
  dsimp only
  rw [onChn_mode, onPrg_mode]
  exact foldl_keeps (fun x : State => x.mode = t.mode) _ (fun x r hx => (hrun x r).trans hx) _ _ rfl

theorem Keeps.beginCount (h : Keeps s t) : Keeps s t.beginCount := h.rest rfl
theorem Keeps.settle (h : Keeps s t) : Keeps s t.settle := .ite ((h.onSeq _).withHdr _) h
theorem Keeps.startUnits (h : Keeps s t) : Keeps s t.startUnits := h.rest rfl
theorem Keeps.atStart (h : Keeps s t) : Keeps s t.atStart := .ite h.fathomStart h

theorem Keeps.enterReady (h : Keeps s t) (hm : t.mode ≠ .boot) : Keeps s t.enterReady := by
  have hready := (h.enter hm .ready).onSaf (Saf.enterReady (t.enter .ready).mem ((t.enter .ready).feature 12) (t.enter .ready).now)
  exact .ite (Keeps.goRun hready.rest) hready

theorem Keeps.withdrawRun (h : Keeps s t) (r : Run) : Keeps s (t.withdrawRun r) :=
  Keeps.code (.ite h.rest (.ite h.rest h.rest)) _ _ _

theorem Keeps.leaveRun (h : Keeps s t) : Keeps s t.leaveRun := ((h.foldl (fun _ _ k => k.withdrawRun _) _).onPrg _).onChn _

theorem Keeps.enterRun (h : Keeps s t) (hm : t.mode ≠ .boot) : Keeps s t.enterRun := by
  have hrun := ((h.enter hm .run).onChn (Chn.enterRun (t.enter .run).chnEnv)).onPrg
    (Prg.enterRun ((t.enter .run).onChn (Chn.enterRun (t.enter .run).chnEnv)).seq.count)
  unfold State.enterRun
  dsimp only
  split
  · exact Keeps.releases hrun.rest
  · exact hrun.rest

theorem Keeps.exitConfig (h : Keeps s t) (hm : t.mode = .config) : Keeps s t.exitConfig := by
  have hne : t.mode ≠ .boot := by rw [hm]; decide
  have hready : ∀ {x : State}, Keeps s x → x.mode = t.mode → Keeps s x.settle.startUnits.enterReady := fun hx e =>
    hx.settle.startUnits.enterReady (by
      show (State.settle _).mode ≠ _
      rw [mode_settle, e]
      exact hne)
  exact .ite (.ite (hready (h.atStart.withSeq _) (mode_atStart t)) h) (.ite (hready h.beginCount rfl) h)

theorem Keeps.exitRun (h : Keeps s t) (hm : t.mode ≠ .boot) : Keeps s t.exitRun := by
  refine .ite (Keeps.beginFathom (Keeps.swapStep (h.deadlines.leaveRun.enterReady ?_))) (h.leaveRun.enterReady ?_)
  · rw [mode_leaveRun, mode_of_outer (outer_deadlines t)]
    exact hm
  · rw [mode_leaveRun]
    exact hm

theorem Keeps.iteOf {a b : State} {c : Prop} [Decidable c] (ha : c → Keeps s a) (hb : Keeps s b) : Keeps s (if c then a else b) := by
  split
  next hc => exact ha hc
  · exact hb

theorem Keeps.transition (h : Keeps s t) : Keeps s t.transition := by
  have hstart : t.startDue = true → t.atStart.mode ≠ .boot := fun hd => by
    rw [mode_atStart]
    exact mode_ne_boot_of_startDue hd
  unfold State.transition
  split
  · exact h
  next r _ =>
    cases r with
    | goReady => exact .iteOf (fun hm => h.exitConfig hm) (.iteOf (fun hd => h.atStart.enterReady (hstart hd)) h)
    | goRun => exact .iteOf (fun hd => h.atStart.enterRun (hstart hd)) h
    | stop => exact .iteOf (fun hd => h.exitRun (mode_ne_boot_of_startDue hd)) h
    | goService => exact .iteOf (fun hd => h.atStart.enter (hstart hd) _) h

/-! ## Accesses (R6, R15–R17, R29, R425) -/

theorem Keeps.fetchBlock (h : Keeps s t) (page a : Nat) : Keeps s (t.fetchBlock page a) := h.commit _ _

theorem Keeps.readEffect (h : Keeps s t) (page off : Nat) : Keeps s (t.readEffect page off) :=
  .ite h.rest <| .ite h.rest <| .ite h.rest <| .ite h.rest h

theorem Keeps.afterRead (h : Keeps s t) (page off : Nat) : Keeps s (t.afterRead page off) := by
  unfold State.afterRead
  dsimp only
  split
  · exact (h.fetchBlock _ _).readEffect _ _
  · exact Keeps.readEffect (.ite (h.code _ _ _) h) _ _

theorem Keeps.readReg (h : Keeps s t) (acc : Accessor) (page off width : Nat) : Keeps s (t.readReg acc page off width).1 :=
  .iteFst h <| .iteFst (h.code _ _ _) <| .iteFst (h.code _ _ _) <| .iteFst (h.code _ _ _) (h.afterRead _ _)

theorem Keeps.refuseAccess (h : Keeps s t) (acc : Accessor) : Keeps s (t.refuseAccess acc) := h.code _ _ _

theorem Keeps.readMem (h : Keeps s t) (acc : Accessor) (a n : Nat) : Keeps s (t.readMem acc a n).1 := by
  unfold State.readMem
  refine .iteFst h ?_
  split
  · exact h.refuseAccess _
  · exact h.readReg _ _ _ _
  · exact .iteFst (h.code _ _ _) <| .iteFst (Keeps.commit h.rest _ _) (h.refuseAccess _)
  · exact .iteFst (h.refuseAccess _) <| .iteFst (h.code _ _ _) (h.commit _ _)

theorem Keeps.writeMemWith {act : Nat → Nat → Nat → Word → Word → State → State}
    (ha : ∀ {t} reg n w v old, Keeps s t → Keeps s (act reg n w v old t)) (h : Keeps s t) (acc : Accessor) (a : Nat) (data : List Byte) :
    Keeps s (t.writeMemWith act acc a data).1 := by
  unfold State.writeMemWith
  refine .iteFst h ?_
  split
  · exact h.refuseAccess _
  · exact h.regWriteWith (fun n w old k => ha _ n w _ old k) _ _ _ _ _
  · refine .iteFst (h.code _ _ _) <| .iteFst ?_ (h.refuseAccess _)
    dsimp only
    exact h.onFq _
  · exact .iteFst (h.refuseAccess _) <| .iteFst (h.code _ _ _) (h.commit _ _).rest

theorem Keeps.saveCfg (h : Keeps s t) (windows : List (Nat × Nat × Nat)) (ok : Bool) : Keeps s (t.saveCfg windows ok) :=
  .ite h <| .ite (h.commit _ _).rest (h.onNvs _)

theorem Keeps.actPlain (h : Keeps s t) (reg n w : Nat) (v old : Word) : Keeps s (t.actPlain reg n w v old) :=
  h.act (fun k => k.saveCfg _ _) _ _ _ _ _

theorem Keeps.writeMem (h : Keeps s t) (acc : Accessor) (a : Nat) (data : List Byte) : Keeps s (t.writeMem acc a data).1 :=
  h.writeMemWith (fun _ _ _ _ _ k => k.actPlain _ _ _ _ _) _ _ _

theorem Keeps.regWrite (h : Keeps s t) (acc : Accessor) (page off width : Nat) (v : Word) :
    Keeps s (t.regWrite acc page off width v).1 :=
  h.regWriteWith (fun _ _ _ k => k.actPlain _ _ _ _ _) _ _ _ _ _

theorem Keeps.writeNamed {act : Nat → Nat → Word → State → State} (ha : ∀ {t} n w old, Keeps s t → Keeps s (act n w old t))
    (h : Keeps s t) (acc : Accessor) (reg n : Nat) (v : Word) : Keeps s (t.writeNamed act acc reg n v) :=
  h.regWriteWith ha _ _ _ _ _

theorem Keeps.writePlain (h : Keeps s t) (acc : Accessor) (reg n : Nat) (v : Word) : Keeps s (t.writePlain acc reg n v) :=
  h.writeNamed (fun _ _ _ k => k.actPlain _ _ _ _ _) _ _ _ _

theorem Keeps.writeHeader (h : Keeps s t) (acc : Accessor) (page off : Nat) (v : Word) : Keeps s (t.writeHeader acc page off v) :=
  h.regWriteWith (fun _ _ _ k => k) _ _ _ _ _

theorem Keeps.applyRecord (h : Keeps s t) (c : CfgRecord) : Keeps s (t.applyRecord c).1 := by
  cases c with
  | word a v => exact h.writeMem _ _ _
  | bytes a d => exact .iteFst h (h.writeMem _ _ _)
  | bad => exact h

theorem Keeps.applyRecords (h : Keeps s t) (l : List CfgRecord) (i : Nat) : Keeps s (t.applyRecords l i).1 := by
  induction l generalizing t i with
  | nil => exact h
  | cons c l ih => exact .iteFst (ih (h.applyRecord c) _) (h.applyRecord c)

theorem Keeps.applyCfg (h : Keeps s t) : Keeps s t.applyCfg.1 := by
  unfold State.applyCfg
  refine .iteFst h ?_
  split
  · exact h.code _ _ _
  · dsimp only
    split
    · exact (h.applyRecords _ _).code _ _ _
    · exact Keeps.code (Keeps.rest (h.applyRecords _ _)) _ _ _

/-! ## What SUP does in CONFIG (R422) -/

theorem Keeps.copyFusion (h : Keeps s t) : Keeps s t.copyFusion := h.commit _ _

theorem Keeps.showImages (h : Keeps s t) : Keeps s t.showImages := h.rest rfl

theorem Keeps.loadImage (h : Keeps s t) (slot : Nat) : Keeps s (t.loadImage slot) :=
  h.trans ⟨rfl, rfl, wf_loadInto _ _ _, id, fun _ _ => id⟩

theorem Keeps.takeImage (h : Keeps s t) (l : List Nat) : Keeps s (t.takeImage l).1 := by
  induction l generalizing t with
  | nil => exact h
  | cons slot l ih => exact .iteFst (h.loadImage slot) (ih (h.code _ _ _))

theorem Keeps.configStart (h : Keeps s t) : Keeps s t.configStart := by
  have himage := (h.applyCfg.copyFusion.showImages).takeImage [b2n (bit t.applyCfg.1.copyFusion.showImages.nvs.boot 0),
    1 - b2n (bit t.applyCfg.1.copyFusion.showImages.nvs.boot 0)]
  exact .ite (Keeps.rest himage.goReady) himage

end

section
variable {s t u : State}

/-! ## The Chain (R259–R286) -/

theorem Keeps.sendHeartbeat (h : Keeps s t) : Keeps s t.sendHeartbeat := (h.onChn _).commit _ _

theorem Keeps.mirrorWork (h : Keeps s t) (i : SpanIn) : Keeps s (t.mirrorWork i) := (h.onChn _).commit _ _

theorem Keeps.chainFrame (h : Keeps s t) (sub : Nat) (port : Fin 2) (data : List Byte) (go : ChainFrame → W Chn → W Chn) :
    Keeps s (t.chainFrame sub port data go) :=
  h.upOn (fun k => k.onChn _) _

theorem Keeps.takeDatagram (h : Keeps s t) (f : ChainFrame) : Keeps s (t.takeDatagram f) := by
  refine h.workOn (fun k => ?_) _
  refine k.withFeature (fun k => ?_) _
  exact k.onFus _

theorem Keeps.takeOp (h : Keeps s t) (f : ChainFrame) : Keeps s (t.takeOp f) := by
  unfold State.takeOp
  exact (h.actOp _ _).onChn _

/-! ## Engines, packets and the field side -/

theorem Keeps.finalWrite (h : Keeps s t) (idx : Nat) : Keeps s (t.finalWrite idx) := by
  unfold State.finalWrite
  split
  · exact h
  · exact .ite ((h.onFus _).spanDone _ _) h

theorem Keeps.putAlc (h : Keeps s t) (v : Alc) : Keeps s (t.putAlc v) := h.rest rfl
theorem Keeps.putSol (h : Keeps s t) (v : Sol) : Keeps s (t.putSol v) := h.rest rfl

theorem Keeps.loopsWork (h : Keeps s t) (x : Span) (i : SpanIn) : Keeps s (t.loopsWork x i).1 := by
  unfold State.loopsWork
  exact Keeps.ran (fun _ k => k.rest) (h.withHdr _) _

theorem Keeps.allocateWork (h : Keeps s t) (x : Span) (i : SpanIn) : Keeps s (t.allocateWork x i).1 :=
  .iteFst (Keeps.ran (fun _ k => k.putSol _) h _) (Keeps.ran (fun _ k => k.putSol _) h _)

theorem Keeps.packetFor (h : Keeps s t) (unit n : Nat) : Keeps s (t.packetFor unit n).2 := by
  unfold State.packetFor
  dsimp only
  split
  · exact h.rest
  · exact h

theorem Keeps.canDoes (h : Keeps s t) (n : Nat) (f : State → Can → W Can) : Keeps s (t.canDoes n f) := .ite (h.onCan _) h

theorem Keeps.groupDoes (h : Keeps s t) (n : Nat) (f : Int → Fio → W Fio) : Keeps s (t.groupDoes n f) := .ite (h.onFio _) h

theorem Keeps.portDoes (h : Keeps s t) (n : Nat) (f : Ser → W Ser) : Keeps s (t.portDoes n f) := .ite (h.onSer _) h

theorem Keeps.posDoes (h : Keeps s t) (n : Nat) (f : State → Pos → W Pos) : Keeps s (t.posDoes n f) := .ite (h.onPos _) h

theorem Keeps.requestWork (h : Keeps s t) (line : Bool) (x : Span) (i : SpanIn) : Keeps s (t.requestWork line x i).1 := by
  unfold State.requestWork
  dsimp only
  exact h.posDoes _ _

theorem Keeps.safDoes (h : Keeps s t) (f : Nat → Saf → W Saf) : Keeps s (t.safDoes f) := h.upOn (fun k => k.onSaf _) _

theorem Keeps.pwrDoes (h : Keeps s t) (f : (Nat → Nat) → Nat → Pwr → W Pwr) : Keeps s (t.pwrDoes f) := h.upOn (fun k => k.onPower _) _

theorem Keeps.quadrature (h : Keeps s t) (n : Nat) (a b : Bool) : Keeps s (t.quadrature n a b) := .ite ((h.onPos _).onFio _) (h.onPos _)

theorem Keeps.exportPackets (h : Keeps s t) (fk total n : Nat) : Keeps s (t.exportPackets fk total n) := by
  induction n generalizing t with
  | zero => exact .ite (h.onGns _) h
  | succ n ih =>
    unfold State.exportPackets
    exact .ite (h.onGns _) <| .ite (Keeps.onGns (Keeps.commit h.rest _ _) _) (ih (Keeps.commit h.rest _ _))

theorem Keeps.onTask {f : State → State} (hf : ∀ {t}, Keeps s t → Keeps s (f t)) (h : Keeps s t) (i : Nat) : Keeps s (t.onTask i f) := by
  unfold State.onTask
  split
  · exact h.workOn hf _
  · exact h

theorem Keeps.changeChecked (h : Keeps s t) : Keeps s t.changeChecked := by
  have hdone := h.onPrg (Prg.checkDone ⟨t.mem, runSlotBase (!t.prg.slot)⟩ t.imageKeys t.seq.lenUs t.fq.regs)
  unfold State.changeChecked
  dsimp only
  split
  · exact h
  split
  · exact hdone.withMem (wf_loadInto _ _ _)
  · exact hdone

/-! ## The module's own happenings -/

theorem Keeps.ringSearched (h : Keeps s t) : Keeps s t.ringSearched := .ite h ((h.onLog _).withHdr _)

theorem Keeps.supFetchFault (h : Keeps s t) : Keeps s t.supFetchFault := .ite (Keeps.code h.rest _ _ _) h

theorem Keeps.blockMissing (h : Keeps s t) (page : Nat) : Keeps s (t.blockMissing page) := by
  unfold State.blockMissing
  split
  · exact h
  · exact (h.unitMiss _).withSeq _

theorem Keeps.warned (h : Keeps s t) : Keeps s t.warned := by
  unfold State.warned
  exact Keeps.rest h.requestSave

theorem Keeps.writeRecord (h : Keeps s t) (ring shelf : Bool) : Keeps s (t.writeRecord ring shelf) := by
  unfold State.writeRecord
  split
  · exact h
  · have hring : ∀ {x : State} (c : Bool) (f : Nvs → W Nvs), Keeps s x → Keeps s (if c then x.onNvs f else x) :=
      fun _ _ hx => .ite (hx.onNvs _) hx
    exact .ite h (Keeps.onLog (hring _ _ (hring _ _ h)) _)

/-- A stop of islands, which no step but a reset takes back. -/
theorem Keeps.stopIslands (h : Keeps s t) (v : BitVec 12) (lost : Bool) :
    Keeps s { t with sup := { t.sup with refLost := lost, stopped := t.sup.stopped ||| v } } :=
  h.trans ⟨rfl, rfl, id, id, fun _ i hi => by
    show (t.sup.stopped ||| v).getLsbD i = true
    rw [BitVec.getLsbD_or, hi, Bool.true_or]⟩

theorem Keeps.parentLost (h : Keeps s t) : Keeps s t.parentLost := .ite (h.onTim _) h

theorem Keeps.stepTime (h : Keeps s t) (lines : BitVec 24) : Keeps s (t.stepTime lines) := .ite (h.makeStep _) h

theorem Keeps.latchFields (h : Keeps s t) : Keeps s t.latchFields := by
  unfold State.latchFields
  exact h.onFio _

theorem Keeps.latchPositions (h : Keeps s t) (lines : BitVec 24) : Keeps s (t.latchPositions lines) := by
  unfold State.latchPositions
  exact h.onPos _

theorem Keeps.latchSerial (h : Keeps s t) : Keeps s t.latchSerial := h.rest rfl
theorem Keeps.latchCan (h : Keeps s t) : Keeps s t.latchCan := h.rest rfl

theorem Keeps.latchChain (h : Keeps s t) : Keeps s t.latchChain := h.workOn (fun k => Keeps.onChn (.ite (k.onChn _) k) _) _

theorem Keeps.latchAll (h : Keeps s t) (arg : Word) (lines : BitVec 24) : Keeps s (t.latchAll arg lines) := by
  unfold State.latchAll
  extract_lets fields positions serial can chain plant
  have hfields : Keeps s fields := .ite h.latchFields h
  have hpositions : Keeps s positions := .ite (hfields.latchPositions _) hfields
  have hserial : Keeps s serial := .ite hpositions.latchSerial hpositions
  have hcan : Keeps s can := .ite hserial.latchCan hserial
  have hcha : Keeps s chain := .ite hcan.latchChain hcan
  have hplant : Keeps s plant := .ite (hcha.workOn (fun k => k.rest) _) hcha
  exact hplant.rest

/-! ## The service path (R302–R304, R426, R442) -/

theorem Keeps.reject (h : Keeps s t) : Keeps s t.reject := Keeps.code h.rest _ _ _
theorem Keeps.served (h : Keeps s t) (q : Request_) : Keeps s (t.served q) := h.rest rfl

theorem Keeps.reply (h : Keeps s t) (op session seq count status : Nat) (body : List Byte) :
    Keeps s (t.reply op session seq count status body) := h.rest rfl

theorem Keeps.closeSession (h : Keeps s t) (number : Nat) : Keeps s (t.closeSession number) := Keeps.releaseIdle h.rest

theorem Keeps.request {go : Session → Request_ → List Byte → State → State × Nat × Nat × List Byte}
    (hgo : ∀ {t} x q body, Keeps s t → Keeps s (go x q body t).1) (h : Keeps s t) (op : Nat) (bs : List Byte) :
    Keeps s (t.request op bs go) := by
  unfold State.request
  split
  · exact h
  · refine .ite h ?_
    split
    · exact h.reject
    · exact .ite h.reject <| .ite ((h.served _).reply _ _ _ _ _ _) <|
        .ite ((hgo _ _ _ (h.served _)).reply _ _ _ _ _ _) (hgo _ _ _ (h.served _))

theorem Keeps.nonce (h : Keeps s t) : Keeps s t.nonce.2 := h.fresh.fresh.fresh.fresh

theorem Keeps.openSession (h : Keeps s t) (slot : Nat) (key client : List Byte) (seq : Nat) :
    Keeps s (t.openSession slot key client seq) :=
  Keeps.reply (Keeps.code (Keeps.rest (t := t.nonce.2) h.nonce) _ _ _) _ _ _ _ _ _

theorem Keeps.hello (h : Keeps s t) (bs : List Byte) : Keeps s (t.hello bs) := by
  unfold State.hello
  split
  · exact h
  · refine .ite h (.ite (.ite (h.openSession _ _ _ _) h.reject) ?_)
    split
    · exact h.reject
    · exact .ite h.reject <| .ite h (h.openSession _ _ _ _)

theorem Keeps.readWords (h : Keeps s t) (addr left n : Nat) (acc : List Word × Nat) : Keeps s (t.readWords addr left n acc).1 := by
  induction left generalizing t addr n acc with
  | zero => exact h
  | succ left ih =>
    cases n with
    | zero => exact ih h _ _ _
    | succ n => exact ih (h.readMem _ _ _) _ _ _

theorem Keeps.writePairs (h : Keeps s t) (l : List (Nat × Word)) (n : Nat) : Keeps s (t.writePairs l n).1 := by
  induction l generalizing t n with
  | nil => exact h
  | cons p l ih =>
    cases n with
    | zero => exact ih h _
    | succ n => exact ih (.iteFst (h.refuseAccess _) (h.writeMem _ _ _)) _

theorem Keeps.transferred (h : Keeps s t) (status : Nat) (body : List Byte) : Keeps s (t.transferred status body).1 :=
  .ite h (h.code _ _ _)

theorem Keeps.storeKey (h : Keeps s t) (kind slot : Nat) (key : List Byte) : Keeps s (t.storeKey kind slot key) :=
  Keeps.codeRec h.rest _ _ _

theorem Keeps.showRegion (h : Keeps s t) (r : Nat) : Keeps s (t.showRegion r) := .ite h.rest <| .ite h.showImages h

theorem Keeps.serviceRead (h : Keeps s t) (within : Nat) (bs : List Byte) : Keeps s (t.serviceRead within bs) :=
  h.request (fun _ _ _ k => k.readWords _ _ _ _) _ _

theorem Keeps.serviceWrite (h : Keeps s t) (within : Nat) (bs : List Byte) : Keeps s (t.serviceWrite within bs) :=
  h.request (fun _ _ _ k => .ite ((k.writePairs _ _).code _ _ _) (k.writePairs _ _)) _ _

theorem Keeps.serviceKeySet (h : Keeps s t) (ok : Bool) (bs : List Byte) : Keeps s (t.serviceKeySet ok bs) :=
  h.request (fun _ _ _ k => .iteFst k <| .iteFst (k.onNvs _) (k.storeKey _ _ _)) _ _

theorem Keeps.serviceClose (h : Keeps s t) (bs : List Byte) : Keeps s (t.serviceClose bs) :=
  h.request (fun _ _ _ k => k.closeSession _) _ _

theorem Keeps.sessionTimeout (h : Keeps s t) (number : Nat) : Keeps s (t.sessionTimeout number) := by
  unfold State.sessionTimeout
  split
  · exact .ite (h.closeSession _) h
  · exact h

theorem Keeps.transferOpen (h : Keeps s t) (bs : List Byte) : Keeps s (t.transferOpen bs) :=
  h.request (fun _ _ _ k => Keeps.transferred (.ite k.rest k) _ _) _ _

theorem Keeps.transferData (h : Keeps s t) (ok : Bool) (bs : List Byte) : Keeps s (t.transferData ok bs) :=
  h.request (fun _ _ _ k => Keeps.transferred (.ite (k.onNvs _) <| .ite (k.commit _ _).rest k) _ _) _ _

theorem Keeps.transferCommit (h : Keeps s t) (bs : List Byte) : Keeps s (t.transferCommit bs) := by
  refine h.request (fun {x} _ _ _ k => ?_) _ _
  split
  · exact k.transferred _ _
  · refine .iteFst (k.transferred _ _) <| .iteFst (k.transferred _ _) <| .iteFst (k.transferred _ _) <| .iteFst (k.transferred _ _) ?_
    exact Keeps.transferred (Keeps.showRegion (t := { x with nvs := _ }) k.rest _) _ _

theorem Keeps.transferRead (h : Keeps s t) (bs : List Byte) : Keeps s (t.transferRead bs) :=
  h.request (fun _ _ _ k => .iteFst ((k.commit _ _).transferred _ _) (k.transferred _ _)) _ _

theorem Keeps.transferClose (h : Keeps s t) (bs : List Byte) : Keeps s (t.transferClose bs) :=
  h.request (fun _ _ _ k => .iteFst (Keeps.transferred (Keeps.releaseIdle k.rest) _ _) (k.transferred _ _)) _ _

end

/-! ## Commands -/

/-- What a command keeps: as `Keeps`, but true time may move on, and BOOT and the module's power may end. -/
structure Leads (s t : State) : Prop where
  now : s.now ≤ t.now
  pending : t.pending = s.pending
  wf : s.mem.wf = true → t.mem.wf = true
  stopped : t.mode ≠ .boot → ∀ i, s.sup.stopped.getLsbD i = true → t.sup.stopped.getLsbD i = true

section
variable {s t u : State}

/-- The time and the upsets a command comes with. -/
theorem leads_at (a : At) (s : State) : Leads s (s.at_ a) :=
  ⟨Nat.le_max_left _ _, rfl, wf_strike s.mem a.upsets, fun _ _ h => h⟩

theorem Leads.trans_keeps (h : Leads s t) (k : Keeps t u) : Leads s u where
  now := k.now ▸ h.now
  pending := k.pending.trans h.pending
  wf := fun w => k.wf (h.wf w)
  stopped := fun m i hi => k.stopped m i (h.stopped (fun b => m (k.boot b)) i hi)

/-- A module state entered from any other, BOOT included, with the islands stopped as they were. -/
theorem Leads.enter (h : Leads s t) (e : t.sup.stopped = s.sup.stopped) (m : Mode) : Leads s (t.enter m) where
  now := (enter_now m t).symm ▸ h.now
  pending := (enter_pending m t).trans h.pending
  wf := fun w => (enter_mem m t).symm ▸ h.wf w
  stopped := fun _ i hi => by
    rw [enter_sup]
    exact e.symm ▸ hi

/-- The copies checked in order: the first sound one ends BOOT in CONFIG, and none ends it in HALT. -/
theorem Leads.tryCopies (h : Leads s t) (e : t.sup.stopped = s.sup.stopped) (l : List Nat) : Leads s (t.tryCopies l) := by
  induction l generalizing t with
  | nil => exact (h.enter e .halt).trans_keeps ((Keeps.refl _).codeRec _ _ _)
  | cons c l ih =>
    unfold State.tryCopies
    split
    · have hsup : ∀ v : Sup, v.stopped = s.sup.stopped → Leads s (({ t with sup := v } : State).enter .config).configStart :=
        fun v hv => (Leads.enter (t := { t with sup := v }) ⟨h.now, h.pending, h.wf, fun _ _ hi => hv.symm ▸ hi⟩ hv .config).trans_keeps
          (Keeps.refl _).configStart
      exact hsup _ e
    · exact ih (h.trans_keeps ((Keeps.refl _).code _ _ _)) (by rw [code_sup]; exact e)

theorem Leads.bootComplete (h : Leads s t) (e : t.sup = s.sup) : Leads s t.bootComplete := by
  have hs : t.sup.stopped = s.sup.stopped := congrArg Sup.stopped e
  unfold State.bootComplete
  split
  · exact Leads.tryCopies (t := { t with sup := { t.sup with regs := rset t.sup.regs Reg.SUP_FW_VER (firmwareWord t.mem) } })
      ⟨h.now, h.pending, h.wf, fun _ _ hi => hs.symm ▸ hi⟩ hs _
  · exact h

/-- The end of hold-up, which takes the module's power and leaves the rest as it is. -/
theorem Leads.holdupExhausted (h : Leads s t) (e : t.sup = s.sup) : Leads s t.holdupExhausted := by
  unfold State.holdupExhausted
  split
  · exact ⟨h.now, h.pending, h.wf, fun _ _ hi => e.symm ▸ hi⟩
  · exact h

theorem Leads.does {a : At} {f : State → State} (h : s.does a f = .next t) (hf : Keeps (s.at_ a) (f (s.at_ a))) : Leads s t := by
  rw [does_eq] at h
  cases h
  exact (leads_at a s).trans_keeps hf

theorem Leads.does_of {a : At} {f : State → State} (h : s.does a f = .next t) (hf : Leads s (f (s.at_ a))) : Leads s t := by
  rw [does_eq] at h
  cases h
  exact hf

/-- A command that is a write of a named register. -/
theorem Leads.written {a : At} {acc : Accessor} {reg n : Nat} {v : Word} (h : s.does a (State.writePlain acc reg n v) = .next t) :
    Leads s t :=
  .does h ((Keeps.refl _).writePlain _ _ _ _)

/-- A command that starts a span. -/
theorem Leads.started {a : At} {idx : Nat} {ok : Span → Bool} {now : Bool} {work : Span → SpanIn → State → State × Bool}
    (h : s.does a (State.startSpan idx ok now work) = .next t)
    (hw : ∀ {x y : State} p i, Keeps x y → Keeps x (work p i y).1) : Leads s t :=
  .does h ((Keeps.refl _).startSpan (fun p i => hw p i) _ _ _)

end

/-- Every command, by what it is: a write of a register, a span's START, a unit's happening, or one of the module. -/
theorem exec_leads (i : Instr) (s t : State) (h : exec i s = .next t) : Leads s t := by
  have r := Keeps.refl
  unfold exec at h
  cases i with
  | powerOn => exact .does h (.ite ((r _).reset _ _) (r _))
  | bootComplete a => exact .does_of h ((leads_at a s).bootComplete rfl)
  | ringSearchDone => exact .does h (r _).ringSearched
  | commandedReset => exact .does h ((r _).writeNamed (fun _ _ _ k => k.resetWrite _ _) _ _ _ _)
  | holdupExhausted a => exact .does_of h ((leads_at a s).holdupExhausted rfl)
  | saveCfg => exact .does h ((r _).writeNamed (fun _ _ _ k => k.act (fun k => k.saveCfg _ _) _ _ _ _ _) _ _ _ _)
  | stateTransition => exact .does h ((r _).upOn .transition _)
  | supFetchFault => exact .does h (r _).supFetchFault
  | goReady | goRun | stop | goConfig | goService | firkinFlushRequest | firkinDisable | spanStore | shadowCountWrite | swapRequest
    | pubSelWrite | coefDataWrite | admitObs | withdraw | seed | snapshotStart | gnssExport | process | instanceWindowWrite | swap
    | swapAll | alcParamWrite | alcSwap | imageWindowWrite | imageSwap | cold | sol1MemWrite | stopTask | startTask | clrTaskStats
    | save | forceCommit | check | change | abort | go | clr | rejoin | outSet | outClr | countPreset | compareArm | stagingWrite
    | safetyParamCheck | confirm | snapTrig | supBootWrite => exact .written h
  | reinit => exact .does h ((r _).writePlain _ _ _ _)
  | recover | sleep | wakeWrite => exact .does h ((r _).writePlain _ _ _ _)
  | registerWrite => exact .does h (.ite ((r _).regWrite _ _ _ _ _) ((r _).upOn (fun k => k.refuseAccess _) _))
  | islandAccessTimeout => exact .does h ((r _).upOn (fun k => k.commit _ _) _)
  | memoryAccess _ acc addr len data =>
    refine .does h ?_
    cases data with
    | none => exact Keeps.rest ((r _).readMem acc addr len)
    | some d => exact (r _).writeMem acc addr d
  | softReset | freeze => exact .does h ((r _).writeHeader _ _ _ _)
  | pageErrClr _ _ _ same =>
    refine .does h ?_
    cases same with
    | none => exact (r _).writeHeader _ _ _ _
    | some c => exact ((r _).writeHeader _ _ _ _).upOn (fun k => k.code _ _ _) _
  | handshakeTimeout _ _ consumer =>
    refine .does h ?_
    cases consumer with
    | none => exact (r _).upOn (fun k => k.code _ _ _) _
    | some p => exact ((r _).upOn (fun k => k.code _ _ _) _).upOn (fun k => k.blockMissing _) _
  | pllLockLoss => exact .does h (.ite (r _) (((r _).stopIslands _ _).codeRec _ _ _))
  | referenceLoss => exact .does h (.ite (r _) (((r _).stopIslands _ _).codeRec _ _ _))
  | firkinPush | firkinPushEnd | firkinPop => exact .does h ((r _).upOn (fun k => k.onFq _) _)
  | firkinFlushEffect => exact .does h ((r _).upOn (fun k => .ite k.rest k) _)
  | fathomStart => exact .does h (r _).fathomStart
  | spanCompletion => exact .does h ((r _).spanDone _ _)
  | spanDeadline => exact .does h ((r _).deadline _)
  | furlongSwap => exact .does h (r _).furlongSwap
  | latch => exact .started h (fun _ _ k => k.latchAll _ _)
  | sampleArrival => exact .does h ((r _).commit _ _)
  | resample | estimate | update | pvt | sendSet => exact .started h (fun _ _ k => Keeps.ran (fun _ k => k.rest) k _)
  | assemble => exact .started h (fun _ _ k => Keeps.ran (fun _ k => k.putAlc _) k _)
  | allocate => exact .started h (fun _ _ k => k.allocateWork _ _)
  | loops => exact .started h (fun _ _ k => k.loopsWork _ _)
  | snapcap => exact .started h (fun _ _ k => k.onGns _)
  | heartbeat => exact .started h (fun _ _ k => k.sendHeartbeat)
  | mirror => exact .does h ((r _).startSpan (fun _ _ k => k.mirrorWork _) _ _ _)
  | request => exact .started h (fun _ _ k => k.requestWork _ _ _)
  | pointDatagram =>
    exact .does h ((r _).workOn (fun k => k.withFeature (fun k => .ite ((k.onFus _).onChn _) (k.onFus _)) _) _)
  | binning => exact .does h ((r _).workOn (fun k => k.withFeature (fun k => .ite (k.onFus _) k) _) _)
  | updateFinalWrite => exact .does h ((r _).finalWrite _)
  | antennaOpen | antennaShort | antennaSupplyRetry | frontEndUnlock | frontEndRelock | ppsPulseEnd | snapshotCaptureEnd
    | snapshotFixDone => exact .does h ((r _).upOn (fun k => k.onGns _) _)
  | codeEpoch | acqTimeout | pullinTimeout | measurementLatch | ppsPulse => exact .does h ((r _).workOn (fun k => k.onGns _) _)
  | snapshotExportEnd => exact .does h ((r _).upOn (fun k => .ite (k.exportPackets _ _ _) k) _)
  | taskInputCopyDone => exact .does h ((r _).onTask (fun k => k.rest) _)
  | taskCycleEnd | taskRuntimeError | taskFetchFault => exact .does h ((r _).onTask (fun k => k.onPrg _) _)
  | retainSavePeriod => exact .does h (r _).requestSave
  | retainSaveDone => exact .does h ((r _).upOn (fun k => .ite k (k.onPrg _)) _)
  | changePoint => exact .does h ((r _).upOn (fun k => .ite (k.onPrg _) k) _)
  | changeWaitExpiry => exact .does h ((r _).upOn (fun k => k.onPrg _) _)
  | changeCheckDone => exact .does h ((r _).upOn .changeChecked _)
  | judgment | sampleTick | chainOpTimeout => exact .does h ((r _).workOn (fun k => k.onChn _) _)
  | heartbeatReceive | verdictReceive | pubReceive | outputReceive | inputReceive | sampleReceive | stateReceive | ackReceive =>
    exact .does h ((r _).chainFrame _ _ _ _)
  | datagramReceive =>
    refine .does h ?_
    dsimp only
    split
    · exact ((r _).chainFrame _ _ _ _).takeDatagram _
    · exact (r _).chainFrame _ _ _ _
  | opReceive =>
    refine .does h ?_
    dsimp only
    split
    · exact ((r _).chainFrame _ _ _ _).takeOp _
    · exact (r _).chainFrame _ _ _ _
  | mirrorPublication => exact .does h ((r _).workOn (fun k => (k.onChn _).swapPairs _) _)
  | ptpSyncReceive =>
    refine .does h ((r _).workOn (fun {x} k => ?_) _)
    dsimp only
    split
    · exact Keeps.steer k.rest _
    · exact k.rest
  | ptpAnnounceReceive | ptpAnnounceReceiptTimeout => exact .does h ((r _).workOn (fun k => (k.onPtp _).parentLost) _)
  | ptpDelayExchange | ptpTransparentForward | ptpSyncSend | ptpAnnounceSend | ptpDelayReqSend =>
    exact .does h ((r _).workOn (fun k => k.onPtp _) _)
  | ppsInEdge => exact .does h ((r _).upOn (fun k => k.steer _) _)
  | sourceLapse | primaryReselect => exact .does h ((r _).upOn (fun k => k.onTim _) _)
  | timeStep => exact .does h ((r _).upOn (fun k => k.stepTime _) _)
  | timeMatchArm => exact .does h ((r _).writeNamed (fun _ _ _ k => k.armed _ _ _) _ _ _ _)
  | timeMatchFire => exact .does h ((r _).upOn (fun k => k.matchFire _) _)
  | trigOutEnd => exact .does h ((r _).upOn (fun k => k.rest) _)
  | trigInEdge => exact .does h ((r _).upOn (fun k => Keeps.commit k.rest _ _) _)
  | linkDown | linkUp => exact .does h ((r _).upOn (fun k => k.onNet _) _)
  | prpFrameReceive | prpSupervisionSend | prpLanLoss | arpIcmpRequest | udpbcDatagram =>
    exact .does h ((r _).workOn (fun k => k.onNet _) _)
  | hello => exact .does h ((r _).hello _)
  | read => exact .does h ((r _).serviceRead _ _)
  | write => exact .does h ((r _).serviceWrite _ _)
  | close => exact .does h ((r _).serviceClose _)
  | keySet => exact .does h ((r _).serviceKeySet _ _)
  | transferOpen => exact .does h ((r _).transferOpen _)
  | transferData => exact .does h ((r _).transferData _ _)
  | transferCommit => exact .does h ((r _).transferCommit _)
  | transferRead => exact .does h ((r _).transferRead _)
  | transferClose => exact .does h ((r _).transferClose _)
  | sessionTimeout => exact .does h ((r _).sessionTimeout _)
  | canTxPacketLoad =>
    refine .does h (.ite ?_ (r _))
    dsimp only
    split
    · exact ((r _).packetFor _ _).onCan _
    · exact r _
  | canTransmitEnd | canFrameReceive | canReceiveError | canIntegrationDone | busoffRecoveryEnd | sleepEnter | busWake =>
    exact .does h ((r _).canDoes _ _)
  | fieldRefresh => exact .does h ((r _).groupDoes _ _)
  | logicSideSilent | groupSideHold | holdExpiry | outputOverload | openLoad | inrushGrantExpiry =>
    exact .does h ((r _).groupDoes _ _)
  | sentenceReceive => exact .does h ((r _).workOn (fun k => k.onSer _) _)
  | serialTxPacket =>
    refine .does h (.ite ?_ (r _))
    dsimp only
    split
    · exact ((r _).packetFor _ _).onSer _
    · exact r _
  | serialTxDone | rs485IdleWaitEnd => exact .does h ((r _).portDoes _ _)
  | ssiReqWrite => exact .does h ((r _).writeNamed (fun _ _ _ k => k.onPos _) _ _ _ _)
  | ssiFrameEnd => exact .does h ((r _).posDoes _ _)
  | quadTransition => exact .does h ((r _).workOn (fun k => k.quadrature _ _ _) _)
  | esFuseTrip => exact .does h (.ite (r _).rest (r _))
  | esFuseRetry => exact .does h (r _).rest
  | safcCycle | safetyInputChange | discrepancyTimeout | twohandSyncTimeout | safetyOscFault | safcAliveMissing | safcSelfTestFail
    | safhParityFail | sfoTestPulse | readbackMismatch | safetyOutputOverload | slUndervoltage | slRecovery | degradedExpiry
    | resetTaken | resetHeld | reqRefresh | reqLoss => exact .does h ((r _).safDoes _)
  | supplySample | ceilingRise | supplyRecovery | supplyReconnect => exact .does h ((r _).pwrDoes _)
  | grantDecision => exact .does h ((r _).upOn (fun k => k.onPower _) _)
  | supplyWarning => exact .does h ((r _).upOn (fun k => .ite (k.onPower _).warned k) _)
  | overvoltageDisconnect => exact .does h ((r _).upOn (fun k => .ite (.ite (k.onPower _) (k.onPower _).warned) k) _)
  | recordWrite => exact .does h ((r _).upOn (fun k => k.writeRecord _ _) _)
  | optimeSave => exact .does h ((r _).upOn (fun k => k.rest) _)
  | shelfClr => exact .does h ((r _).writeNamed (fun _ _ _ k => Keeps.onLog (.ite k (k.onNvs _)) _) _ _ _ _)

/-- A step of the block: the command at the front of the queue, or nothing. -/
theorem step_keeps (s t : State) (h : step s = .next t) : (s.mem.wf = true → t.mem.wf = true) ∧
    (t.mode ≠ .boot → ∀ i, s.sup.stopped.getLsbD i = true → t.sup.stopped.getLsbD i = true) := by
  unfold step at h
  split at h
  · cases h
    exact ⟨id, fun _ _ hi => hi⟩
  next c rest _ =>
    have hc := exec_leads c { s with pending := rest } t h
    exact ⟨hc.wf, hc.stopped⟩

/-- Settles O54: every operation of the model changes memory by stores, upsets, read corrections, the loading of an image or a reset, and
each keeps the canonical form. -/
theorem memoryKeepsItsForm : Obligations.MemoryKeepsItsForm := by
  unfold Obligations.MemoryKeepsItsForm
  exact fun s t hw h => (step_keeps s t h).1 hw

/-- Settles O58: only a reset clears a stopped island, and it leads to BOOT, which nothing in the same command leaves. -/
theorem stoppedIslandsStayStopped : Obligations.StoppedIslandsStayStopped := by
  unfold Obligations.StoppedIslandsStayStopped
  exact fun s t i hi h hm => (step_keeps s t h).2 hm i hi

end Sys2Proof.Proofs
end

section
/-! The pop of an empty firkin (R32) and the clocks that fail (R15). -/

namespace Sys2Proof.Proofs

open Sys2Proof Sys2Proof.Machine

-- One proof after another: many at once wait for the kernel in threads of their own, which the check's memory limit does not hold.
set_option Elab.async false

/-! ## A page whose island runs -/

theorem upOn_up {page : Nat} {s : State} (f : State → State) (h : s.pageUp page = true) : s.upOn page f = f s := if_pos h

/-- FQ's work, by what it leaves of FQ, asks for and stores. -/
theorem onFq_eq {f : Fq → W Fq} {s : State} {w : W Fq} (h : f s.fq = w) : s.onFq f = ({ s with fq := w.u } : State).commit w.fx w.st := by
  subst h
  rfl

/-! ## The pop of an empty firkin (R32) -/

/-- The consumer's pop of a firkin without committed words. -/
theorem pop_empty {u : Fq} {unit n : Nat} (up : BitVec 4) (h0 : unit ≠ 0) (hc : bits (u.cfg n) 23 16 = unit)
    (he : (u.firkin n).committed = []) : Fq.pop unit n up (W.of u) = ⟨u, { Fx.none with emits := [.readData [0, 0]] }, []⟩ := by
  have hg : ¬(bits ((W.of u).u.cfg n) 23 16 ≠ unit ∨ unit = 0) := not_or.mpr ⟨not_not.mpr hc, h0⟩
  have he' : ((W.of u).u.firkin n).committed = [] := he
  unfold Fq.pop
  rw [if_neg hg, he']
  rfl

/-- FIRKIN_POP by the consumer of a firkin without committed words. -/
theorem firkinPop_empty (a : At) {unit : Nat} {n : Fin 64} (up : BitVec 4) {s : State} (hp : s.pageUp Pg.FQ = true) (h0 : unit ≠ 0)
    (hc : bits (s.fq.cfg n.val) 23 16 = unit) (he : (s.fq.firkin n.val).committed = []) :
    exec (.firkinPop a unit n up) s = .next { s.at_ a with outbox := .readData [0#32, 0#32] :: s.outbox } := by
  have h : (s.at_ a).upOn Pg.FQ (State.onFq (fun u => Fq.pop unit n.val up (W.of u))) =
      { s.at_ a with outbox := .readData [0#32, 0#32] :: s.outbox } := by
    rw [upOn_up (s := s.at_ a) _ hp, onFq_eq (s := s.at_ a) (pop_empty up h0 hc he)]
    exact commit_emits (s.at_ a) _
  exact congrArg Host.Outcome.next h

/-- Settles O44: the pop finds no committed word and only the two zero words are sent. -/
theorem emptyFirkinPopReturnsZeros : Obligations.EmptyFirkinPopReturnsZeros :=
  fun a _ _ u _ hp h0 hc he => firkinPop_empty a u hp h0 hc he

/-! ## Islands that stop (R15) -/

/-- The state once the islands of a mask have stopped; `lost` says whether the reference is gone. -/
def halt (s : State) (lost : Bool) (m : BitVec 12) : State :=
  { s with sup := { s.sup with refLost := lost, stopped := s.sup.stopped ||| m } }

/-- An island runs after a stop as before, unless the mask names it. -/
theorem halt_islandUp (s : State) (lost : Bool) (m : BitVec 12) (j : Nat) :
    (halt s lost m).islandUp j = (s.islandUp j && !m.getLsbD j) := by
  unfold State.islandUp halt
  dsimp only
  rw [BitVec.getLsbD_or, Bool.not_or, Bool.and_assoc]

/-- The code that a stop records leaves the shell and the bytes of the state in which the islands stand still. -/
theorem halt_codeRec {s : State} (a : At) (lost : Bool) (m : BitVec 12) (page code : Nat) (l : List Word) :
    ((halt (s.at_ a) lost m).codeRec page code l).shell =
        { (s.at_ a).shell with sup := { s.sup with refLost := lost, stopped := s.sup.stopped ||| m } } ∧
      (∀ j, ((halt (s.at_ a) lost m).codeRec page code l).islandUp j = (s.islandUp j && !m.getLsbD j)) ∧
      s.SameBytes ((halt (s.at_ a) lost m).codeRec page code l) := by
  have hs := shell_codeRec page code l (halt (s.at_ a) lost m)
  refine ⟨hs, fun j => ?_, fun x => ?_⟩
  · rw [islandUp_of_shell hs, halt_islandUp, at_islandUp]
  · exact (byte_commit _ _ _ rfl rfl rfl x).trans (byte_strike ..)

/-- PLL_LOCK_LOSS of a running island that has a PLL. -/
theorem pllLockLoss_runs (a : At) {island : Fin 12} {s : State} (h0 : island.val ≠ 0) (h11 : island.val ≠ 11)
    (hu : s.islandUp island.val = true) : exec (.pllLockLoss a island) s =
      .next ((halt (s.at_ a) s.sup.refLost (BitVec.twoPow 12 island.val)).codeRec (islandPage island.val) 0x40B2 [wd island.val]) :=
  congrArg Host.Outcome.next (if_neg (by simp [h0, h11, hu]))

/-- REFERENCE_LOSS while the reference is there. -/
theorem referenceLoss_runs (a : At) {s : State} (h0 : s.mode ≠ .off) (hr : s.sup.refLost = false) :
    exec (.referenceLoss a) s = .next ((halt (s.at_ a) true 0x7FE#12).codeRec Pg.REC 0x40B2 referencePayload) :=
  congrArg Host.Outcome.next (if_neg (by simp [h0, hr]))

/-- The islands that stop without the reference: I1 to I10. -/
theorem getLsbD_referenceMask {j : Nat} (hj : 1 ≤ j ∧ j ≤ 10) : (0x7FE#12).getLsbD j = true := by
  obtain ⟨h1, h2⟩ := hj
  interval_cases j <;> rfl

/-- Settles O7: each loss stops the islands of its mask and records one code in REC. -/
theorem clockFailures : Obligations.ClockFailures := by
  unfold Obligations.ClockFailures
  refine ⟨fun a island s h0 h11 hu => ?_, fun a s h0 hr => ?_⟩
  · obtain ⟨hs, hi, hb⟩ := halt_codeRec (s := s) a s.sup.refLost (BitVec.twoPow 12 island.val) (islandPage island.val) 0x40B2
      [wd island.val]
    refine ⟨_, pllLockLoss_runs a h0 h11 hu, ?_, fun j hj hne => ?_, hs, hb⟩
    · rw [hi]
      simp
    · rw [hi, BitVec.getLsbD_twoPow]
      simp [Ne.symm hne]
  · obtain ⟨hs, hi, hb⟩ := halt_codeRec (s := s) a true 0x7FE#12 Pg.REC 0x40B2 referencePayload
    refine ⟨_, referenceLoss_runs a h0 hr, fun j h1 h10 => ?_, ?_, ?_, ?_, ?_, hs, hb⟩
    · rw [hi, getLsbD_referenceMask ⟨h1, h10⟩, Bool.not_true, Bool.and_false]
    · rw [hi]
      exact Bool.and_true _
    · rw [hi]
      exact Bool.and_true _
    · exact congrArg (·.sup.refLost) hs
    · exact errCode_codeRec _ _ _ _ (by decide)

end Sys2Proof.Proofs
end

section
/-! The firkins (R28–R34): what a push, a pop, a flush and a disabling leave of every firkin, of the other units and of memory. -/

namespace Sys2Proof.Proofs

open Sys2Proof Sys2Proof.Machine

-- One proof after another: many at once wait for the kernel in threads of their own, which the check's memory limit does not hold.
set_option Elab.async false

/-! ## What FQ's work leaves -/

/-- FQ changed at a command's time, nothing else of the module. -/
def fqAt (a : At) (s : State) (u : Fq) : State := { s.at_ a with fq := u }

theorem fqAt_shell (a : At) (s : State) (u : Fq) : (s.at_ a).SameShell (fqAt a s u) := rfl

theorem fqAt_bytes (a : At) (s : State) (u : Fq) : s.SameBytes (fqAt a s u) := fun _ => byte_strike ..

/-- What FQ asks for leaves the other units as they were. -/
theorem fqAt_commit_shell (a : At) (s : State) (u : Fq) (fx : Fx) : (s.at_ a).SameShell ((fqAt a s u).commit fx []) :=
  (shell_commit ..).trans (fqAt_shell a s u)

/-- What FQ asks for changes no byte, unless it stores one. -/
theorem fqAt_commit_bytes (a : At) (s : State) (u : Fq) (fx : Fx) : s.SameBytes ((fqAt a s u).commit fx []) :=
  fun x => (bytes_commit _ _ _ x).trans (fqAt_bytes a s u x)

/-- What FQ reports leaves the firkins and their registers. -/
theorem fqAt_code_fq (a : At) (s : State) (u : Fq) (p c : Nat) (l : List Word) : ((fqAt a s u).code p c l).fq = u :=
  plain_fq _ (plain_of_codes _ _ _ _) _

/-- FQ's work in a command while its island runs. -/
theorem upOn_onFq (a : At) {s : State} {f : Fq → W Fq} {w : W Fq} (hp : s.pageUp Pg.FQ = true) (hw : f s.fq = w) :
    (s.at_ a).upOn Pg.FQ (State.onFq f) = (fqAt a s w.u).commit w.fx w.st := by
  rw [upOn_up (s := s.at_ a) _ hp, onFq_eq (s := s.at_ a) hw]
  rfl

/-! ## Pushes (R28–R31) -/

/-- The parity bits a pushed word is stored with (R31). -/
abbrev pushBits (p : Bool) : BitVec 4 := if p then 15#4 else 0#4

/-- Writing a firkin leaves a bitmap register. -/
theorem rbit_put (u : Fq) (n : Nat) (f : Firkin) {r m : Nat} (i : Nat) (h : fqBitmap r m ≠ rk Reg.FQ_STAT 0 n) :
    rbit (u.put n f).regs (fqBitmap r m) i = rbit u.regs (fqBitmap r m) i := by
  unfold rbit Fq.put
  dsimp only
  rw [rget_rset, if_neg h]

theorem fqBitmap_ne_stat {r n : Nat} (h1 : Reg.FQ_STAT + 4 < r) (h2 : r < 0x20000) :
    fqBitmap r n ≠ rk Reg.FQ_STAT 0 n := by
  unfold fqBitmap rk
  simp only [Reg.FQ_STAT] at h1 ⊢
  omega

/-- A word that is no end joins the open packet (R30). -/
theorem push_open {u : Fq} {unit n : Nat} (v : Word) (bad : BitVec 4) (h0 : unit ≠ 0) (ho : bits (u.cfg n) 15 8 = unit)
    (he : bit (u.cfg n) 0 = true) (hd : (u.firkin n).dropping = false)
    (hr : (u.firkin n).committed.length + (u.firkin n).opened.length < u.depth n) :
    Fq.push unit n v false bad (W.of u) =
      W.of (u.put n { u.firkin n with opened := (u.firkin n).opened ++ [⟨v, false, bad⟩] }) :=
  push_taken unit n v false bad u h0 ho he hd hr

/-- An end joins the open packet and commits it (R30). -/
theorem push_end {u : Fq} {unit n : Nat} (v : Word) (bad : BitVec 4) (h0 : unit ≠ 0) (ho : bits (u.cfg n) 15 8 = unit)
    (he : bit (u.cfg n) 0 = true) (hd : (u.firkin n).dropping = false)
    (hr : (u.firkin n).committed.length + (u.firkin n).opened.length < u.depth n) :
    Fq.push unit n v true bad (W.of u) =
      Fq.commit n (W.of (u.put n { u.firkin n with opened := (u.firkin n).opened ++ [⟨v, true, bad⟩] })) :=
  push_taken unit n v true bad u h0 ho he hd hr

/-- FIRKIN_PUSH and FIRKIN_PUSH_END by the work of FQ. -/
theorem firkinPush_runs (a : At) {unit : Nat} {n : Fin 64} {v : Word} {last p : Bool} {s : State} {w : W Fq} (hp : s.pageUp Pg.FQ = true)
    (hw : Fq.push unit n.val v last (pushBits p) (W.of s.fq) = w) :
    State.firkinPush unit n.val v last p (s.at_ a) = (fqAt a s w.u).commit w.fx w.st := upOn_onFq a hp hw

/-- FIRKIN_PUSH when FQ's work is a change of FQ and one code. -/
theorem firkinPush_reports (a : At) {unit c : Nat} {n : Fin 64} {v : Word} {last p : Bool} {s : State} {u : Fq} {l : List Word}
    (hp : s.pageUp Pg.FQ = true) (hw : Fq.push unit n.val v last (pushBits p) (W.of s.fq) = (W.of u).code Pg.FQ c l) :
    State.firkinPush unit n.val v last p (s.at_ a) = (fqAt a s u).code Pg.FQ c l := by
  rw [firkinPush_runs a hp hw]
  rfl

/-- A push into a full firkin (R30): the open packet is dropped, and what follows up to the next end. -/
def Fq.overflow (u : Fq) (n : Nat) (last : Bool) : Fq :=
  let u := u.put n { u.firkin n with opened := [], dropping := !last }
  ({ u with regs := rmod u.regs (rk Reg.FQ_COUNT 0 n) (fun c => incSatField c 31 16) } : Fq).setFlag Reg.FQ_OVF0 n true

theorem push_full {u : Fq} {unit n : Nat} (v : Word) (last : Bool) (bad : BitVec 4) (h0 : unit ≠ 0) (ho : bits (u.cfg n) 15 8 = unit)
    (he : bit (u.cfg n) 0 = true) (hd : (u.firkin n).dropping = false)
    (hr : u.depth n ≤ (u.firkin n).committed.length + (u.firkin n).opened.length) :
    Fq.push unit n v last bad (W.of u) = (W.of (Fq.overflow u n last)).code Pg.FQ 0x10E1 [wd n] := by
  have hg : ¬(bits ((W.of u).u.cfg n) 15 8 ≠ unit ∨ unit = 0) := not_or.mpr ⟨not_not.mpr ho, h0⟩
  have he' : ¬bit ((W.of u).u.cfg n) 0 = false := fun h => Bool.false_ne_true (h.symm.trans he)
  have hd' : ¬((W.of u).u.firkin n).dropping = true := fun h => Bool.false_ne_true (hd.symm.trans h)
  have hr' : (W.of u).u.depth n ≤ ((W.of u).u.firkin n).committed.length + ((W.of u).u.firkin n).opened.length := hr
  unfold Fq.push
  rw [if_neg hg, if_neg he', if_neg hd', if_pos hr']
  rfl

/-- A push by a unit that the firkin does not name as its owner (R29). -/
theorem push_stranger {u : Fq} {unit n : Nat} (v : Word) (last : Bool) (bad : BitVec 4) (ho : bits (u.cfg n) 15 8 ≠ unit) :
    Fq.push unit n v last bad (W.of u) = (W.of u).code Pg.FQ 0x30E4 [wd n] := by
  unfold Fq.push
  exact if_pos (Or.inl ho)

theorem firkin_overflow (u : Fq) (n : Nat) (last : Bool) (m : Nat) : (Fq.overflow u n last).firkin m =
    if m = n then { u.firkin n with opened := [], dropping := !last } else u.firkin m := firkin_put ..

/-- Settles O9: each case of a push leaves FQ as its own lemma says, and what FQ then asks for touches no other unit and stores nothing. -/
theorem firkinPushes : Obligations.FirkinPushes := by
  unfold Obligations.FirkinPushes
  refine ⟨fun a unit n v p s hp h0 ho he hd hr => ?_, fun a unit n v p s hp h0 ho he hd hr => ?_,
    fun a unit n v p s hp h0 ho he hd hr => ?_, fun a unit n v p s hp ho => ?_⟩
  case refine_1 =>
    refine ⟨_, congrArg Host.Outcome.next ((firkinPush_runs a hp (push_open v (pushBits p) h0 ho he hd hr)).trans (commit_none _)), ?_,
      fun m hm => ?_, fqAt_shell a s _, fqAt_bytes a s _⟩
    · exact (firkin_put ..).trans (if_pos rfl)
    · exact (firkin_put ..).trans (if_neg hm)
  case refine_2 =>
    obtain ⟨f, hf⟩ : ∃ f : Firkin, { s.fq.firkin n.val with
      opened := (s.fq.firkin n.val).opened ++ [⟨v, true, pushBits p⟩] } = f := ⟨_, rfl⟩
    have hend := push_end v (pushBits p) h0 ho he hd hr
    rw [hf] at hend
    obtain ⟨r, fx, hw, hpush, -, hn, hm, hnotice⟩ := commit_firkin (s.fq.put n.val f) n.val n.isLt
    have hk : ∀ m, ((fqAt a s r).commit fx []).fq.firkin m = r.firkin m := firkin_commit fx [] (fqAt a s r) hpush
    refine ⟨_, congrArg Host.Outcome.next (firkinPush_runs a hp (hend.trans hw)), ?_, fun m hne => ?_, fqAt_commit_shell ..,
      fun hen => ?_⟩
    · rw [hk, hn, firkin_put, if_pos rfl, Fq.flushing, rbit_put _ _ _ _ (fqBitmap_ne_stat (by decide) (by decide)), ← hf, hd]
      rfl
    · rw [hk, hm _ hne, firkin_put, if_neg hne]
    · rw [← rbit_put _ _ f _ (fqBitmap_ne_stat (by decide) (by decide))] at hen
      obtain ⟨rfl, hb⟩ := hnotice hen
      rw [commit_none]
      exact ⟨hb, fqAt_bytes a s r⟩
  case refine_3 =>
    refine ⟨_, congrArg Host.Outcome.next (firkinPush_reports a hp (push_full v false (pushBits p) h0 ho he hd hr)), ?_,
      errCode_code _ _ _ _ (by decide), ?_, fun m hm => ?_, fqAt_commit_shell a s _ _, fqAt_commit_bytes a s _ _⟩
    · rw [fqAt_code_fq, firkin_overflow, if_pos rfl]
      rfl
    · rw [fqAt_code_fq]
      exact flag_setFlag ..
    · rw [fqAt_code_fq, firkin_overflow, if_neg hm]
  case refine_4 =>
    exact ⟨_, congrArg Host.Outcome.next (firkinPush_reports a hp (push_stranger v false (pushBits p) ho)), fqAt_code_fq ..,
      errCode_code _ _ _ _ (by decide), fqAt_commit_shell a s _ _, fqAt_commit_bytes a s _ _⟩

/-! ## Pops (R31, R32) -/

/-- A pop by the consumer of a firkin with a committed word takes the oldest one (R31). -/
theorem pop_word {u : Fq} {unit n : Nat} (up : BitVec 4) {q : QWord} {qs : List QWord} (h0 : unit ≠ 0)
    (hc : bits (u.cfg n) 23 16 = unit) (he : (u.firkin n).committed = q :: qs) :
    ∃ x, Fq.pop unit n up (W.of u) =
        ⟨x, { Fx.none with emits := [.readData (popWord { q with bad := q.bad ^^^ up } qs.length)] }, []⟩ ∧
      ∀ m, x.firkin m = if m = n then { u.firkin n with committed := qs } else u.firkin m := by
  have hg : ¬(bits ((W.of u).u.cfg n) 23 16 ≠ unit ∨ unit = 0) := not_or.mpr ⟨not_not.mpr hc, h0⟩
  have he' : ((W.of u).u.firkin n).committed = q :: qs := he
  unfold Fq.pop
  rw [if_neg hg, he']
  cases hb : decide (q.bad ^^^ up ≠ 0) with
  | false => exact ⟨u.put n { u.firkin n with committed := qs }, by simp only [W.when, hb]; rfl, firkin_put _ _ _⟩
  | true =>
    exact ⟨{ u.put n { u.firkin n with committed := qs } with
      regs := rmod (u.put n { u.firkin n with committed := qs }).regs (rk Reg.FQ_PERR 0 n) (fun c => incSatField c 15 0) },
      by simp only [W.when, hb]; rfl, firkin_put _ _ _⟩

/-- FIRKIN_POP by the consumer of a firkin with a committed word. -/
theorem firkinPop_word (a : At) {unit : Nat} {n : Fin 64} (up : BitVec 4) {q : QWord} {qs : List QWord} {s : State}
    (hp : s.pageUp Pg.FQ = true) (h0 : unit ≠ 0) (hc : bits (s.fq.cfg n.val) 23 16 = unit)
    (he : (s.fq.firkin n.val).committed = q :: qs) :
    ∃ x, exec (.firkinPop a unit n up) s =
        .next { fqAt a s x with outbox := .readData (popWord { q with bad := q.bad ^^^ up } qs.length) :: s.outbox } ∧
      ∀ m, x.firkin m = if m = n.val then { s.fq.firkin n.val with committed := qs } else s.fq.firkin m := by
  obtain ⟨x, hw, hx⟩ := pop_word up h0 hc he
  refine ⟨x, congrArg Host.Outcome.next ?_, hx⟩
  rw [upOn_onFq a hp hw]
  exact commit_emits (fqAt a s x) _

/-! ## Writes of FQ's registers -/

/-- FQ with the cell of a register at window w as a taken write leaves it. -/
def Fq.cell (u : Fq) (run : Bool) (off w : Nat) (r : RegRow) (v : Word) : Fq :=
  { u with regs := rset u.regs (cellKey Pg.FQ off w) (r.written run (rget u.regs (cellKey Pg.FQ off w)) v) }

/-- A taken write of a register of FQ: the cell, PAGE_SEQ, and no byte. -/
theorem written_fq (s : State) (off w reg : Nat) (r : RegRow) (v : Word) (h : ownCell reg = false) :
    let t := s.written Pg.FQ Pg.FQ off w reg r v
    t.fq = Fq.cell s.fq (s.mode == .run) off w r v ∧ t.hdr = hdrSeq s.hdr Pg.FQ ∧ t.mem = s.mem := by
  unfold State.written
  dsimp only
  rw [h]
  cases r.rwl != 0 && s.mode != .run <;> exact ⟨rfl, rfl, rfl⟩

/-- A taken write of a register of FQ whose own effect is a change of FQ: FQ, PAGE_SEQ (R435) and memory after it and after the release. -/
theorem writeFq_taken (acc : Accessor) {reg w : Nat} {v : Word} {s : State} {r : RegRow} {f : Word → Fq → Fq}
    (h : s.Admits acc (reg / 0x400 + 0) (reg % 0x400)) (hq : reg / 0x400 = Pg.FQ) (h4 : reg % 4 = 0) (h40 : 0x40 ≤ reg % 0x400)
    (hr : rowOf Pg.FQ (reg % 0x400) = some r) (hx : regOf Pg.FQ (reg % 0x400) = (reg, 0)) (hw : s.windowOf Pg.FQ r = some w)
    (hl : r.rwl = 0 ∨ s.mode ≠ .run) (hg : reg ≠ Reg.GNS_CH_CFG) (hd : s.discards reg 0 w v = false)
    (ht : r.takes (s.mode == .run) v = true) (ho : ownCell reg = false)
    (hf : ∀ old t, State.actPlain reg 0 w v old t = { t with fq := f old t.fq }) :
    let x := s.writePlain acc reg 0 v
    x.fq = f (rget s.fq.regs (cellKey Pg.FQ (reg % 0x400) w)) (Fq.cell s.fq (s.mode == .run) (reg % 0x400) w r v) ∧
      x.pageSeq Pg.FQ = s.pageSeq Pg.FQ + 1#32 ∧ x.mem = s.mem := by
  obtain ⟨h1, h2, h3⟩ := written_fq s (reg % 0x400) w reg r v ho
  have hp : reg / 0x400 + 0 = Pg.FQ := hq
  have hh : homePage Pg.FQ (reg % 0x400) = Pg.FQ := if_neg (fun c => absurd c.1 (by decide))
  dsimp only
  rw [writePlain_taken acc reg 0 v s h h4 h40 r w (by rw [hp, hh]) (by rw [hp]; exact hr) (by rw [hp]; exact hx) (by rw [hp]; exact hw)
    hl hg hd ht, hp, hf]
  refine ⟨?_, ?_, ?_⟩
  · rw [releaseIdle_fq]
    exact congrArg _ h1
  · rw [releaseIdle_pageSeq]
    unfold State.pageSeq
    dsimp only
    rw [h2, pageSeq_hdrSeq]
  · rw [releaseIdle_mem]
    exact h3

/-! ## Flushes (R33) -/

/-- The register of a flush request for one half of the firkins. -/
abbrev flushReg (half : Fin 2) : Nat := if half.val = 0 then Reg.FQ_FLUSH0 else Reg.FQ_FLUSH1

/-- Its row: bits that act when written with 1. -/
abbrev flushRow (half : Fin 2) : RegRow := ⟨flushReg half % 0x400, 0, 0, 0, 0, 0, 0xFFFFFFFF, 0, 1⟩

theorem rowOf_flushReg : ∀ half : Fin 2, rowOf Pg.FQ (flushReg half % 0x400) = some (flushRow half) := by decide

theorem regOf_flushReg : ∀ half : Fin 2, regOf Pg.FQ (flushReg half % 0x400) = (flushReg half, 0) := by decide

theorem actPlain_flushReg (half : Fin 2) (n w : Nat) (v old : Word) (s : State) :
    State.actPlain (flushReg half) n w v old s = { s with fq := s.fq.flushRequest half.val v } := by
  fin_cases half <;> rfl

/-- A write of one bit of a flush register is taken. -/
theorem takes_flushRow (half : Fin 2) (run : Bool) (n : Fin 32) : (flushRow half).takes run (wd (2 ^ n.val)) = true := by
  have h : ∀ n : Fin 32, (wd (2 ^ n.val) &&& wd (0 ||| 0xFFFFFFFF) != 0#32) = true := by decide
  unfold RegRow.takes
  dsimp only
  rw [h n, Bool.or_true]

/-- No rule of its own discards a write of a flush register. -/
theorem discards_flushReg (s : State) (half : Fin 2) (n w : Nat) (v : Word) : s.discards (flushReg half) n w v = false := by
  fin_cases half <;> rfl

/-- FIRKIN_FLUSH_REQUEST for one firkin. -/
theorem firkinFlushRequest_runs (a : At) (acc : Accessor) (half : Fin 2) (n : Fin 32) {s : State}
    (h : s.Admits acc Pg.FQ (flushReg half % 0x400)) :
    ∃ t u, exec (.firkinFlushRequest a acc half (wd (2 ^ n.val))) s = .next t ∧ t.mem = (s.at_ a).mem ∧
      t.fq = Fq.flushRequest half.val (wd (2 ^ n.val)) u ∧ ∀ m, u.firkin m = s.fq.firkin m := by
  have hq : ∀ half : Fin 2, flushReg half / 0x400 = Pg.FQ ∧ flushReg half % 4 = 0 ∧ 0x40 ≤ flushReg half % 0x400 ∧
    flushReg half ≠ Reg.GNS_CH_CFG ∧ ownCell (flushReg half) = false := by decide
  obtain ⟨hp, h4, h40, hg, ho⟩ := hq half
  obtain ⟨h1, -, h3⟩ := writeFq_taken (s := s.at_ a) acc (v := wd (2 ^ n.val)) (f := fun _ u => u.flushRequest half.val (wd (2 ^ n.val)))
    (by rw [hp]; exact h) hp h4 h40 (rowOf_flushReg half) (regOf_flushReg half) rfl (.inl rfl) hg (discards_flushReg ..)
    (takes_flushRow half _ n) ho (fun old t => actPlain_flushReg half 0 0 _ old t)
  exact ⟨_, _, rfl, h3, h1, fun _ => rfl⟩

/-- The flush of a firkin that waits for no open packet (R33). -/
theorem firkinFlushEffect_runs (a : At) {n : Fin 64} {s : State} (hp : s.pageUp Pg.FQ = true) (hf : s.fq.flushing n.val = true)
    (he : (s.fq.firkin n.val).opened = []) : exec (.firkinFlushEffect a n) s = .next (fqAt a s (s.fq.flush n.val)) := by
  refine congrArg Host.Outcome.next ((upOn_up (s := s.at_ a) _ hp).trans (if_pos ?_))
  simp [hf, he]

theorem firkin_flush (u : Fq) (n m : Nat) : (u.flush n).firkin m = if m = n then { u.firkin n with committed := [] } else u.firkin m :=
  firkin_put ..

theorem flushing_flush (u : Fq) (n : Nat) : (u.flush n).flushing n = false := flag_setFlag ..

/-! ## The disabling of a firkin (R30, R33) -/

/-- FQ_CFG's row: locked in RUN, one window per firkin. -/
abbrev cfgRow : RegRow := ⟨Reg.FQ_CFG % 0x400, 6, 0, 0xFFFF1F, 0, 0, 0, Reg.FQ_SEL % 0x400, 64⟩

theorem firkin_disable (u : Fq) (n m : Nat) : (u.disable n).firkin m = if m = n then Firkin.empty else u.firkin m := by
  unfold Fq.disable
  rw [firkin_setFlag]
  exact firkin_put ..

/-- Disabling a firkin leaves its settings. -/
theorem cfg_disable (u : Fq) (n : Nat) : (u.disable n).cfg n = u.cfg n := by
  unfold Fq.disable Fq.setFlag Fq.put Fq.cfg
  dsimp only
  rw [rget_rmod, if_neg, rget_rset, if_neg] <;> simp only [fqBitmap, rk, Reg.FQ_CFG, Reg.FQ_STAT, Reg.FQ_FLUSH0] <;> omega

theorem rk_cfg (n : Nat) : rk Reg.FQ_CFG 0 n = cellKey Pg.FQ (Reg.FQ_CFG % 0x400) n := by
  simp only [rk, cellKey, Reg.FQ_CFG, Pg.FQ]

/-- A write of FQ_CFG outside RUN with EN at 0 leaves EN at 0. -/
theorem cfg_cell (u : Fq) (n : Nat) (v : Word) :
    bit ((Fq.cell u false (Reg.FQ_CFG % 0x400) n cfgRow (v &&& 0xFFFFFFFE#32)).cfg n) 0 = false := by
  unfold Fq.cell Fq.cfg
  dsimp only
  rw [rk_cfg, rget_rset, if_pos rfl]
  simp [RegRow.written, bit, wd]

/-- FIRKIN_DISABLE outside RUN of an enabled firkin. -/
theorem firkinDisable_runs (a : At) (acc : Accessor) (v : Word) {n : Nat} {s : State} (h : s.Admits acc Pg.FQ (Reg.FQ_CFG % 0x400)) (hn : n < 64)
    (hs : (rget s.fq.regs Reg.FQ_SEL).toNat = n) (he : bit (s.fq.cfg n) 0 = true) (hm : s.mode ≠ .run) :
    ∃ t u, exec (.firkinDisable a acc v) s = .next t ∧ t.mem = (s.at_ a).mem ∧ t.pageSeq Pg.FQ = s.pageSeq Pg.FQ + 1#32 ∧
      t.fq = Fq.disable n u ∧ bit (u.cfg n) 0 = false ∧ ∀ m, u.firkin m = s.fq.firkin m := by
  have hw : (s.at_ a).windowOf Pg.FQ cfgRow = some n := by
    show (if (rget s.fq.regs Reg.FQ_SEL).toNat < 64 then some (rget s.fq.regs Reg.FQ_SEL).toNat else none) = some n
    rw [hs, if_pos hn]
  have hr : (s.mode == .run) = false := by simpa using hm
  obtain ⟨h1, h2, h3⟩ := writeFq_taken (s := s.at_ a) acc (reg := Reg.FQ_CFG) (v := v &&& 0xFFFFFFFE#32)
    (f := fun old u => if bit old 0 && !bit (u.cfg n) 0 then u.disable n else u) h rfl rfl (by decide) (by decide) (by decide) hw
    (.inr hm) (by decide) rfl (by unfold RegRow.takes; rw [at_mode, hr]; rfl) (by decide)
    (fun old t => by
      show (if bit old 0 && !bit (t.fq.cfg n) 0 then { t with fq := t.fq.disable n } else t) = _
      split <;> rfl)
  have hc := cfg_cell s.fq n v
  have ho : bit (rget s.fq.regs (cellKey Pg.FQ (Reg.FQ_CFG % 0x400) n)) 0 = true := by
    rw [← rk_cfg]
    exact he
  refine ⟨_, Fq.cell s.fq false (Reg.FQ_CFG % 0x400) n cfgRow (v &&& 0xFFFFFFFE#32), rfl, h3, h2, ?_, hc, fun _ => rfl⟩
  refine h1.trans ?_
  rw [at_fq, at_mode, hr, ho, hc]
  rfl

/-- Settles O10: each command by its own lemma; a firkin other than the one named is left by every one of them. -/
theorem firkinPopsFlushesDisable : Obligations.FirkinPopsFlushesDisable := by
  unfold Obligations.FirkinPopsFlushesDisable
  refine ⟨fun a unit n up q qs s hp h0 hc he => ?_, fun a unit n up s hp h0 hc he => firkinPop_empty a up hp h0 hc he,
    fun a acc half n s h => ?_, fun a n s hp hf he => ?_, fun a acc v n s h hn hs he hm => ?_⟩
  case refine_1 =>
    obtain ⟨x, hx, hk⟩ := firkinPop_word a up hp h0 hc he
    exact ⟨_, hx, (hk _).trans (if_pos rfl), rfl, fun m hm => (hk m).trans (if_neg hm), fqAt_shell a s x, fqAt_bytes a s x⟩
  case refine_2 =>
    obtain ⟨t, u, hx, hm, hfq, hu⟩ := firkinFlushRequest_runs a acc half n h
    obtain ⟨h1, h2, h3⟩ := flushRequest_one u half.val n.val n.isLt
    rw [← hfq, hu] at h1 h2
    refine ⟨t, hx, h1, h2, fun m hne => ?_, fun x => ?_⟩
    · rw [hfq, h3 m hne, hu]
    · rw [hm]
      exact byte_strike ..
  case refine_3 =>
    exact ⟨_, firkinFlushEffect_runs a hp hf he, (firkin_flush ..).trans (if_pos rfl), flushing_flush ..,
      fun m hm => (firkin_flush ..).trans (if_neg hm), fqAt_shell a s _, fqAt_bytes a s _⟩
  case refine_4 =>
    obtain ⟨t, u, hx, hmem, hseq, hfq, hb, hu⟩ := firkinDisable_runs a acc v h hn hs he hm
    refine ⟨t, hx, ?_, ?_, fun m hne => ?_, hseq, fun x => ?_⟩
    · rw [hfq, firkin_disable, if_pos rfl]
    · rw [hfq, cfg_disable, hb]
    · rw [hfq, firkin_disable, if_neg hne, hu]
    · rw [hmem]
      exact byte_strike ..

end Sys2Proof.Proofs
end

section
/-! Accesses of the internal address map (R15, R17) and a block's handshake that is not acknowledged (R14). -/

namespace Sys2Proof.Proofs

open Sys2Proof Sys2Proof.Machine

-- One proof after another: many at once wait for the kernel in threads of their own, which the check's memory limit does not hold.
set_option Elab.async false

/-! ## Shared SRAM in the map (R16, R17) -/

theorem regionOf_shared {x : Nat} (h1 : 0x20000000 ≤ x) (h2 : x < 0x21000000) : regionOf x = some .shared := by
  unfold regionOf
  rw [if_neg (by omega), if_neg (by omega), if_pos ⟨h1, h2⟩]

/-- A range of bytes that shared SRAM holds whole. -/
theorem regionOfRange_shared {x n : Nat} (hn : 0 < n) (h1 : 0x20000000 ≤ x) (h2 : x + n ≤ 0x21000000) :
    regionOfRange x n = some .shared := by
  unfold regionOfRange
  rw [regionOf_shared h1 (by omega), regionOf_shared (x := x + n - 1) (by omega) (by omega)]
  rfl

/-- SUP makes its accesses while I1 runs and SUP has not stopped (R424). -/
theorem alive_sup {s : State} (hd : s.sup.dead = false) (h1 : s.islandUp 1 = true) (page off : Nat) : s.alive .sup page off = true := by
  unfold State.alive
  dsimp only
  rw [hd, h1]
  rfl

/-! ## SUP at shared SRAM -/

/-- The store of a write by SUP. -/
abbrev supStore (addr : Nat) (d : List Byte) : Store := ⟨Pg.SUP, addr, d, false⟩

/-- A write of shared SRAM by SUP in CONFIG or SERVICE is made (R17). -/
theorem writeMem_shared {s : State} {addr : Nat} {d : List Byte} (hm : s.mode = .config ∨ s.mode = .service) (hd : s.sup.dead = false)
    (h1 : s.islandUp 1 = true) (h2 : s.islandUp 2 = true) (hr : regionOfRange addr d.length = some .shared) :
    (s.writeMem .sup addr d).1.mem = (s.commit Fx.none [supStore addr d]).mem := by
  have hw : s.writesMem .sup .shared addr d.length = true := by
    show (s.mode == .config || s.mode == .service) = true
    rcases hm with hm | hm <;> rw [hm] <;> rfl
  have hi : s.islandUp (Region.island .shared) = true := h2
  unfold State.writeMem State.writeMemWith
  dsimp only
  rw [alive_sup hd h1, hr]
  dsimp only
  simp only [hw, hi, Bool.not_true, Bool.false_eq_true, if_false]
  rfl

/-- A write of shared SRAM by SUP in another state is discarded (R17). -/
theorem writeMem_refused {s : State} {addr : Nat} {d : List Byte} (hc : s.mode ≠ .config) (hs : s.mode ≠ .service) (hd : s.sup.dead = false)
    (h1 : s.islandUp 1 = true) (hr : regionOfRange addr d.length = some .shared) :
    (s.writeMem .sup addr d).1 = s.code Pg.SUP 0x30A1 [] := by
  have hw : s.writesMem .sup .shared addr d.length = false := by
    show (s.mode == .config || s.mode == .service) = false
    simp [hc, hs]
  unfold State.writeMem State.writeMemWith
  dsimp only
  rw [alive_sup hd h1, hr]
  dsimp only
  rw [hw]
  rfl

/-- A read of shared SRAM by SUP: the blocks it touches are read, and it gets their bytes. -/
theorem readMem_shared {s : State} {addr n : Nat} (hd : s.sup.dead = false) (h1 : s.islandUp 1 = true) (h2 : s.islandUp 2 = true)
    (hr : regionOfRange addr n = some .shared) :
    s.readMem .sup addr n =
      (s.commit { Fx.none with reads := (blocksOf addr n).map (fun b => (Pg.SUP, 32 * b)) } [], s.mem.readBytes addr n, 0) := by
  have hi : s.islandUp (Region.island .shared) = true := h2
  have hm : s.mayRead .sup .shared addr n = true := rfl
  unfold State.readMem
  dsimp only
  rw [alive_sup hd h1, hr]
  dsimp only
  rw [hm, hi]
  rfl

/-! ## An access that times out (R15) -/

/-- What ISLAND_ACCESS_TIMEOUT asks for: its code, and the zero that a read completes with. -/
abbrev timeoutFx (page : Nat) (read : Bool) : Fx :=
  { Fx.none with
    codes := [⟨page, 0x30B3, [], false⟩]
    emits := if read then [.readData [0]] else [] }

theorem islandAccessTimeout_runs (a : At) {acc : Accessor} (read : Bool) {s : State} (h : s.pageUp (accPage acc) = true) :
    exec (.islandAccessTimeout a acc read) s = .next ((s.at_ a).commit (timeoutFx (accPage acc) read) []) :=
  congrArg Host.Outcome.next (upOn_up (s := s.at_ a) _ h)

/-- Settles O6: SUP's accesses of shared SRAM by what the map says of them, the two time-outs by the code each records. -/
theorem accessesOfTheMap : Obligations.AccessesOfTheMap := by
  unfold Obligations.AccessesOfTheMap
  refine ⟨fun a addr len d s hm hd h1 h2 hne hlo hhi => ?_, fun a addr len s hd h1 h2 hn hlo hhi => ?_,
    fun a addr len d s hd h1 hc hs hne hlo hhi => ?_, fun a acc read s h hp => ?_, fun a page s h hp => ?_⟩
  case refine_1 =>
    have hr := regionOfRange_shared (List.length_pos_iff.mpr hne) hlo hhi
    have hmem := writeMem_shared (s := s.at_ a) (.inl hm) hd h1 h2 hr
    have hb : ∀ x, ((s.at_ a).writeMem .sup addr d).1.mem.byte x = ((s.at_ a).mem.store (supStore addr d)).byte x := fun x => by
      rw [hmem]
      exact bytes_commit _ _ _ x
    refine ⟨_, rfl, fun i h => ?_, fun x hx => ?_⟩
    · exact (hb _).trans (byte_store_inside _ (supStore addr d) i h)
    · exact (hb x).trans (byte_store_outside _ (supStore addr d) x hx)
  case refine_2 =>
    have hr := readMem_shared (s := s.at_ a) hd h1 h2 (regionOfRange_shared hn hlo hhi)
    refine ⟨_, rfl, ?_, fun x => ?_⟩
    · exact congrArg (fun y => some (Emit.readData (toWords ((len + 3) / 4) y.2.1))) hr
    · exact (congrArg (fun y => y.1.mem.byte x) hr).trans (bytes_commit _ _ _ x)
  case refine_3 =>
    have hr := writeMem_refused (s := s.at_ a) hc hs hd h1 (regionOfRange_shared (List.length_pos_iff.mpr hne) hlo hhi)
    exact ⟨_, congrArg Host.Outcome.next hr, errCode_code _ _ _ _ (by decide), byte_code _ _ _ (s.at_ a), shell_code ..⟩
  case refine_4 =>
    refine ⟨_, islandAccessTimeout_runs a read h, ?_, ?_, shell_commit .., fun x => bytes_commit _ _ _ x⟩
    · exact errCode_commit _ _ _ ⟨accPage acc, 0x30B3, [], false⟩ hp rfl rfl rfl rfl (by simp [sortCodes, insertCode])
    · refine (plain_outbox (timeoutFx (accPage acc) read) (plain_of_codes _ _ _ _) _).trans ?_
      cases read <;> rfl
  case refine_5 =>
    exact ⟨_, congrArg Host.Outcome.next (upOn_up (s := s.at_ a) _ h), errCode_code _ _ _ _ hp, shell_code .., byte_code _ _ _ (s.at_ a)⟩

end Sys2Proof.Proofs
end

section
/-! The sequencer's fathom starts and swaps (R39, R49, R53, R54), and how a span's run ends (R46, R48, R57, R58). -/

namespace Sys2Proof.Proofs

open Sys2Proof Sys2Proof.Machine

-- One proof after another: many at once wait for the kernel in threads of their own, which the check's memory limit does not hold.
set_option Elab.async false

/-! ## Fathom starts and swaps (R39, R49, R53, R54) -/

/-- FATHOM_START at the end of the fathom in progress, with no run at its deadline: the swap step, and the fathom begins. -/
theorem fathomStart_runs {a : At} {s : State} (hg : (s.at_ a).gridDue = true) (hd : (s.at_ a).dueRuns = []) :
    exec (.fathomStart a) s = .next (s.at_ a).swapStep.beginFathom :=
  congrArg Host.Outcome.next ((if_pos hg).trans (by rw [deadlines_none hd]))

/-- FURLONG_SWAP at the end of the fathom in progress, with no run at its deadline: the swap step alone. -/
theorem furlongSwap_runs {a : At} {s : State} (hg : (s.at_ a).gridDue = true) (hd : (s.at_ a).dueRuns = []) :
    exec (.furlongSwap a) s = .next (s.at_ a).swapStep :=
  congrArg Host.Outcome.next ((if_pos hg).trans (by rw [deadlines_none hd]))

/-- SEQ after a swap (R54): the banks and their counts exchanged, the request gone, the grid and the runs as they were. -/
theorem swap_fields (u : Seq) (fno : Nat) :
    (u.swap fno).u.bank = !u.bank ∧ (u.swap fno).u.active = u.shadowCnt ∧ (u.swap fno).u.swapAt = none ∧ (u.swap fno).u.loaded = false ∧
      (u.swap fno).u.count = u.count ∧ (u.swap fno).u.runs = u.runs ∧ (u.swap fno).u.endUs = u.endUs ∧
      rget (u.swap fno).u.regs Reg.SEQ_SHADOW_CNT = wd u.active ∧ rget (u.swap fno).u.regs Reg.SEQ_SWAP_FNO = wd fno := by
  have hregs : (u.swap fno).u.regs = rset (rset u.restart.regs Reg.SEQ_SWAP_FNO (wd fno)) Reg.SEQ_SHADOW_CNT (wd u.active) := rfl
  refine ⟨rfl, rfl, rfl, rfl, rfl, rfl, rfl, ?_, ?_⟩
  · rw [hregs, rget_rset, if_pos rfl]
  · rw [hregs, rget_rset, if_neg (by decide), rget_rset, if_pos rfl]

/-- SEQ's work that stores nothing changes no byte. -/
theorem bytes_onSeq {f : Seq → W Seq} {s : State} (h : (f s.seq).st = []) : s.SameBytes (s.onSeq f) := fun x => by
  unfold State.onSeq
  rw [bytes_commit, h]
  rfl

/-- PAGE_SEQ of a page once it has counted (R435). -/
theorem pageSeq_counted (s : State) (page : Nat) :
    ({ s with hdr := hdrSeq s.hdr page } : State).pageSeq page = s.pageSeq page + 1#32 := pageSeq_hdrSeq ..

/-- The swap step that swaps: SEQ's swap, and PAGE_SEQ counts. -/
theorem swapStep_eq {s : State} (hm : s.mode ≠ .config) (hs : s.seq.swapAt = some 0) (hl : s.seq.longRun = false) :
    s.swapStep = { s.onSeq (fun _ => s.seq.swap (s.seq.count + 1)) with
      hdr := hdrSeq (s.onSeq (fun _ => s.seq.swap (s.seq.count + 1))).hdr Pg.SEQ } := by
  unfold State.swapStep
  rw [if_neg hm, swapPoint_swaps s.seq (s.seq.count + 1) hs hl]
  exact if_pos rfl

/-- The swap step that swaps: SEQ as after the swap, PAGE_SEQ counted (R435), no byte changed. -/
theorem swapStep_swaps {s : State} (hm : s.mode ≠ .config) (hs : s.seq.swapAt = some 0) (hl : s.seq.longRun = false) :
    s.swapStep.seq = (s.seq.swap (s.seq.count + 1)).u ∧ s.swapStep.pageSeq Pg.SEQ = s.pageSeq Pg.SEQ + 1#32 ∧
      s.SameBytes s.swapStep := by
  have hbytes : s.SameBytes (s.onSeq fun _ => s.seq.swap (s.seq.count + 1)) := bytes_onSeq rfl
  refine ⟨(seq_swapStep s hm).trans (by rw [swapPoint_swaps s.seq (s.seq.count + 1) hs hl]), ?_⟩
  rw [swapStep_eq hm hs hl, pageSeq_counted]
  exact ⟨congrArg (· + 1#32) (commit_pageSeq (s.seq.swap _).fx [] _ Pg.SEQ), fun x => hbytes x⟩

/-- The swap step that refuses: the request gone with 0x1202, no byte changed. -/
theorem swapStep_refuses {s : State} {n : Nat} (hm : s.mode ≠ .config) (hs : s.seq.swapAt = some n) (h0 : n ≠ 0)
    (h1 : n ≠ (s.seq.count + 1) % 4294967296) (h2 : signed 32 (n + 4294967296 - (s.seq.count + 1) % 4294967296) ≤ 0) :
    s.swapStep.seq = s.seq.swapRefused.u ∧ s.swapStep.errCode Pg.SEQ = 0x1202 ∧ s.SameBytes s.swapStep := by
  have hp := swapPoint_refuses s.seq (s.seq.count + 1) n hs h0 h1 h2
  refine ⟨(seq_swapStep s hm).trans (by rw [hp]), ?_⟩
  unfold State.swapStep
  rw [if_neg hm, hp]
  exact ⟨errCode_commit _ _ _ ⟨Pg.SEQ, 0x1202, [], false⟩ (by decide) rfl rfl rfl rfl rfl, bytes_onSeq rfl⟩

/-- Settles O12: a fathom start is its swap step and `nextFathom` on SEQ; the three outcomes of the swap step by their own lemmas. -/
theorem fathomStartsAndSwaps : Obligations.FathomStartsAndSwaps := by
  unfold Obligations.FathomStartsAndSwaps
  refine ⟨fun a s hg hd hs => ?_, fun a s hg hd hs hl hm => ?_, fun a s hg hd hs hl hm => ?_,
    fun a n s hg hd hs h0 h1 h2 hm => ?_⟩
  case refine_1 =>
    refine ⟨_, fathomStart_runs hg hd, ?_⟩
    rw [swapStep_none (s.at_ a) hs, seq_beginFathom]
    obtain ⟨hcount, hstart, hissued, hruns, hbank, hactive, -⟩ := nextFathom_fields s.seq
    exact ⟨hcount, hstart, hissued, hruns, hbank, hactive, (mode_of_outer (outer_beginFathom (s.at_ a))).trans rfl⟩
  case refine_2 =>
    obtain ⟨hseq, -⟩ := swapStep_swaps (s := s.at_ a) hm hs hl
    obtain ⟨hbank, hactive, hat, hloaded, hcount, -, hend, -⟩ := swap_fields s.seq (s.seq.count + 1)
    obtain ⟨kcount, kstart, kissued, -, kbank, kactive, kat, kloaded⟩ := nextFathom_fields (s.seq.swap (s.seq.count + 1)).u
    refine ⟨_, fathomStart_runs hg hd, ?_⟩
    rw [seq_beginFathom, hseq]
    exact ⟨kcount.trans (congrArg (· + 1) hcount), kstart.trans hend, kissued, kbank.trans hbank, kactive.trans hactive, kat.trans hat,
      kloaded.trans hloaded⟩
  case refine_3 =>
    obtain ⟨hseq, hpage, hbytes⟩ := swapStep_swaps (s := s.at_ a) hm hs hl
    obtain ⟨hbank, hactive, hat, hloaded, hcount, hruns, -, hshadow, hfno⟩ := swap_fields s.seq (s.seq.count + 1)
    refine ⟨_, furlongSwap_runs hg hd, ?_⟩
    rw [hseq]
    exact ⟨hbank, hactive, hshadow, hfno, hat, hloaded, hcount, hruns, hpage, hbytes⟩
  case refine_4 =>
    obtain ⟨hseq, hcode, hbytes⟩ := swapStep_refuses (s := s.at_ a) hm hs h0 h1 h2
    refine ⟨_, furlongSwap_runs hg hd, ?_⟩
    rw [hseq]
    exact ⟨rfl, rfl, rfl, hcode, hbytes⟩

/-! ## The units' parts in a publication and in a miss (R46, R57) -/

/-- A unit's part in a publication leaves SEQ and the halves of the pairs, but for GNSC, whose offset may step module time, and LATCH. -/
theorem unitPublish_seq_second {x : Span} (s : State) (hg : x.unit ≠ 0x16) (hl : x.unit ≠ 0x7F) :
    (s.unitPublish x).seq = s.seq ∧ (s.unitPublish x).second = s.second := by
  unfold State.unitPublish
  extract_lets u g w y
  rw [onChn_seq, onChn_second]
  unfold y u
  rw [if_neg hg, if_neg hl]
  split
  case isTrue => exact ⟨rfl, rfl⟩
  split
  case isTrue => split <;> exact ⟨rfl, rfl⟩
  split
  case isTrue => exact ⟨onCtl_seq .., onCtl_second ..⟩
  split
  case isTrue => exact ⟨rfl, rfl⟩
  split
  case isTrue => exact ⟨rfl, rfl⟩
  split <;> exact ⟨rfl, rfl⟩

/-- A unit's miss leaves SEQ and the halves of the pairs. -/
theorem unitMiss_seq_second (x : Span) (s : State) : (s.unitMiss x).seq = s.seq ∧ (s.unitMiss x).second = s.second := by
  have hevent : ∀ p f, (s.event p f).seq = s.seq ∧ (s.event p f).second = s.second := fun _ _ => ⟨rfl, rfl⟩
  unfold State.unitMiss
  constructor
  · simp only [apply_ite State.seq, onSol_seq, onEst_seq, onCtl_seq, hevent, onFus_seq, onGns_seq, onAlc_seq, ite_self]
  · simp only [apply_ite State.second, onSol_second, onEst_second, onCtl_second, hevent, onFus_second, onGns_second, onAlc_second, ite_self]

/-! ## The end of a run (R46, R57, R58) -/

/-- A window of SEQ_MISS_CNT is no cell of SEQ_MISS_TOTAL. -/
theorem missTotal_ne_missCnt (w : Nat) : Reg.SEQ_MISS_TOTAL ≠ rk Reg.SEQ_MISS_CNT 0 w := by
  simp only [rk, Reg.SEQ_MISS_TOTAL, Reg.SEQ_MISS_CNT]
  omega

/-- A miss in SEQ (R58): the total counted and the code recorded; the runs, the pairs and the bytes stand. -/
theorem seqMiss_counts (unit idx cause code : Nat) (s : State) :
    (s.seqMiss unit idx cause code).second = s.second ∧ (s.seqMiss unit idx cause code).seq.runs = s.seq.runs ∧
      (s.seqMiss unit idx cause code).errCode Pg.SEQ = code % 0x10000 ∧
      rget (s.seqMiss unit idx cause code).seq.regs Reg.SEQ_MISS_TOTAL = incW (rget s.seq.regs Reg.SEQ_MISS_TOTAL) ∧
      s.SameBytes (s.seqMiss unit idx cause code) := by
  unfold State.seqMiss
  rw [onSeq_second, onSeq_seq]
  refine ⟨rfl, rfl, ?_, ?_, bytes_onSeq rfl⟩
  · exact errCode_commit _ _ _ ⟨Pg.SEQ, code, [wd unit, wd idx], false⟩ (by decide) rfl rfl rfl rfl rfl
  · have hregs : (Seq.miss unit idx cause code (W.of s.seq)).u.regs = rset (rmod (rmod s.seq.regs Reg.SEQ_MISS_TOTAL incW)
        (rk Reg.SEQ_MISS_CNT 0 (unit % 256)) incW) Reg.SEQ_MISS_LAST (wd (unit + 256 * cause + 65536 * idx)) := rfl
    rw [hregs, rget_rset, if_neg (by decide), rget_rmod, if_neg (missTotal_ne_missCnt _), rget_rmod, if_pos rfl]

/-- SEQ after a publication (R48, R59): PUB_FNO of the span's index takes the fathom number; the runs and SEQ_MISS_TOTAL stand. -/
theorem published_fields (r : Run) (u : Seq) :
    (u.published r).runs = u.runs ∧ rget (u.published r).regs (rk Reg.SEQ_PUB_FNO 0 r.idx) = wd u.count ∧
      rget (u.published r).regs Reg.SEQ_MISS_TOTAL = rget u.regs Reg.SEQ_MISS_TOTAL := by
  refine ⟨rfl, ?_, ?_⟩
  · refine (rget_rset ..).trans ((if_neg ?_).trans ((rget_rset ..).trans (if_pos rfl)))
    simp [rk, Reg.SEQ_PUB_FNO, Reg.SEQ_SLACK_MIN]
  · refine (rget_rset ..).trans ((if_neg ?_).trans ((rget_rset ..).trans (if_neg ?_))) <;>
      simp only [rk, Reg.SEQ_PUB_FNO, Reg.SEQ_SLACK_MIN, Reg.SEQ_MISS_TOTAL] <;> omega

/-- A completed run with a result ends in its publication. -/
theorem endRun_publishes {r : Run} {d : Nat} (s : State) (hd : r.doneAt = some d) (hr : r.result = true) :
    s.endRun r = ({ ({ s with seq := s.seq.drop r } : State).swapPair r.span.dst r.span.dstLen with
      seq := (s.seq.drop r).published r } : State).unitPublish r.span := by
  unfold State.endRun
  simp only [hd, hr, if_true]

/-- A completed run without a result ends in a miss of cause 4. -/
theorem endRun_resultless {r : Run} {d : Nat} (s : State) (hd : r.doneAt = some d) (hr : r.result = false) :
    s.endRun r = ({ s with seq := s.seq.drop r } : State).seqMiss r.span.unit r.idx 4 0x2213 := by
  unfold State.endRun
  simp only [hd, hr, Bool.false_eq_true, if_false]

/-- A run without completion ends in a miss of cause 1, after the unit's own miss; before SEQ counts it, SEQ's registers and the pairs
stand. -/
theorem endRun_uncompleted {r : Run} (s : State) (hd : r.doneAt = none) : ∃ z : State, s.endRun r = z.seqMiss r.span.unit r.idx 1 0x2210 ∧
    z.second = s.second ∧ z.seq.runs = s.seq.runs.erase r ∧ z.seq.regs = s.seq.regs := by
  unfold State.endRun
  extract_lets y0 _ y z
  have hy : y.second = s.second ∧ y.seq.runs = s.seq.runs.erase r ∧ y.seq.regs = s.seq.regs := by
    unfold y
    split <;> exact ⟨rfl, rfl, rfl⟩
  obtain ⟨hseq, hsecond⟩ := unitMiss_seq_second r.span y
  rw [hd]
  refine ⟨z, rfl, ?_⟩
  unfold z
  split
  · rwa [hseq, hsecond]
  · exact hy

/-- SPAN_DEADLINE of a span whose run's deadline has come. -/
theorem spanDeadline_runs {a : At} {idx : Nat} {r : Run} {s : State} (h : (s.at_ a).dueRuns.find? (fun x => x.idx == idx) = some r) :
    exec (.spanDeadline a idx) s = .next ((s.at_ a).endRun r) := by
  refine congrArg Host.Outcome.next ?_
  unfold State.deadline
  rw [h]

/-! ## Completions (R46) -/

/-- A run after completion of span idx at tick t was reported with or without a result. -/
def Run.reported (idx t : Nat) (result : Bool) (x : Run) : Run :=
  let y := if x.idx = idx ∧ x.doneAt = none ∧ t < x.span.deadline then { x with doneAt := some t } else x
  if y.idx = idx ∧ y.doneAt = some t then { y with result := y.result && result } else y

theorem reported_open {idx t : Nat} {x : Run} (result : Bool) (hi : x.idx = idx) (hd : x.doneAt = none) (ht : t < x.span.deadline) :
    Run.reported idx t result x = { x with result := x.result && result, doneAt := some t } := by
  simp [Run.reported, hi, hd, ht]

theorem reported_other {idx t : Nat} {x : Run} (result : Bool) (hi : x.idx ≠ idx) : Run.reported idx t result x = x := by
  simp [Run.reported, hi]

/-- SPAN_COMPLETION of a span with a run in flight, while its unit's island runs. -/
theorem spanCompletion_runs (a : At) {idx : Nat} (result : Bool) {r : Run} {s : State} (hr : s.seq.run idx = some r)
    (hp : s.pageUp r.span.page = true) : exec (.spanCompletion a idx result) s =
      .next { s.at_ a with seq := { s.seq with
        runs := s.seq.runs.map (Run.reported idx ((s.seq.count - r.count) * s.seq.lenUs + (s.at_ a).tick) result) } } := by
  refine congrArg Host.Outcome.next ?_
  unfold State.spanDone
  rw [at_seq, hr]
  refine (if_pos (c := (s.at_ a).pageUp r.span.page = true) hp).trans ?_
  unfold Seq.complete
  dsimp only
  rw [List.map_map]
  rfl

/-- Settles O13: the completion run by run; the end of a run by the lemma of its case. -/
theorem spanCompletionsAndDeadlines : Obligations.SpanCompletionsAndDeadlines := by
  unfold Obligations.SpanCompletionsAndDeadlines
  refine ⟨fun a idx result r s hr hp => ?_, fun a idx r d s hfind hd hr hl hg hlen => ?_, fun a idx r s hfind hd => ?_,
    fun a idx r d s hfind hd hr => ?_⟩
  case refine_1 =>
    refine ⟨_, spanCompletion_runs a result hr hp, fun x hx hi hd ht => ?_, fun x hx hi => ?_, rfl, fun x => byte_strike ..⟩
    · exact reported_open result hi hd ht ▸ List.mem_map_of_mem hx
    · exact List.mem_map.mpr ⟨x, hx, reported_other result hi⟩
  case refine_2 =>
    obtain ⟨hseq, hsecond⟩ := unitPublish_seq_second ({ ({ s.at_ a with seq := s.seq.drop r } : State).swapPair r.span.dst r.span.dstLen with
      seq := (s.seq.drop r).published r } : State) hg hl
    obtain ⟨hruns, hfno, htotal⟩ := published_fields r (s.seq.drop r)
    refine ⟨_, (spanDeadline_runs hfind).trans (congrArg Host.Outcome.next (endRun_publishes _ hd hr)), ?_⟩
    rw [at_seq, hseq, hsecond]
    refine ⟨?_, hruns, hfno, htotal⟩
    unfold State.swapPair
    rw [if_neg hlen]
    rfl
  case refine_3 =>
    obtain ⟨z, hz, hsecond, hruns, hregs⟩ := endRun_uncompleted (s.at_ a) hd
    obtain ⟨ksecond, kruns, kcode, ktotal, -⟩ := seqMiss_counts r.span.unit r.idx 1 0x2210 z
    refine ⟨_, (spanDeadline_runs hfind).trans (congrArg Host.Outcome.next hz), ksecond.trans hsecond, kruns.trans hruns, kcode, ?_⟩
    rw [ktotal, hregs]
    rfl
  case refine_4 =>
    exact ⟨_, (spanDeadline_runs hfind).trans (congrArg Host.Outcome.next (endRun_resultless _ hd hr)), seqMiss_counts ..⟩

end Sys2Proof.Proofs
end

section
/-! LATCH (R44): what each class of its ARG freezes, and what a class whose bit is 0 leaves. -/

namespace Sys2Proof.Proofs

open Sys2Proof Sys2Proof.Machine

-- One proof after another: many at once wait for the kernel in threads of their own, which the check's memory limit does not hold.
set_option Elab.async false

/-! ## Folds over a unit's pages -/

/-- A fold that visits n once: what holds before the visit (P) and after it (Q), when no other visit disturbs either. -/
theorem foldl_visits {A : Type} {f : A → Nat → A} {n : Nat} {l : List Nat} (hd : l.Nodup) (hn : n ∈ l) {P Q : A → Prop}
    (hbefore : ∀ a, ∀ i ∈ l, i ≠ n → P a → P (f a i)) (hat : ∀ a, P a → Q (f a n))
    (hafter : ∀ a, ∀ i ∈ l, i ≠ n → Q a → Q (f a i)) {a : A} (ha : P a) : Q (l.foldl f a) := by
  induction l generalizing a with
  | nil => cases hn
  | cons b l ih =>
    obtain ⟨hb, hl⟩ := List.nodup_cons.mp hd
    have htail : ∀ i ∈ l, i ∈ b :: l := fun i hi => List.mem_cons_of_mem b hi
    by_cases hbn : b = n
    · subst hbn
      exact foldl_keeps_mem Q f l (fun a i hi => hafter a i (htail i hi) (fun e => hb (e ▸ hi))) _ (hat a ha)
    · exact ih hl ((List.mem_cons.mp hn).resolve_left (Ne.symm hbn)) (fun a i hi => hbefore a i (htail i hi))
        (fun a i hi => hafter a i (htail i hi)) (hbefore a b (by simp) hbn ha)

/-- The units of a page range that work at a LATCH: each once. -/
theorem nodup_working (s : State) (page c : Nat) : ((upto c).filter (fun n => s.works (page + n))).Nodup := List.nodup_range.filter _

theorem mem_working {s : State} {page c n : Nat} (hn : n < c) (hw : s.works (page + n) = true) :
    n ∈ (upto c).filter (fun n => s.works (page + n)) := List.mem_filter.mpr ⟨List.mem_range.mpr hn, hw⟩

/-- Its page lies within the range. -/
theorem working_page {s : State} {page c b i : Nat} (hi : i ∈ (upto c).filter (fun n => s.works (page + n))) (hb : page + c ≤ b) :
    page + i < b := by
  have := List.mem_range.mp (List.mem_filter.mp hi).1
  omega

/-! ## Counts frozen (R301, R317, R346) -/

/-- Field [15:0] of a word after it was put there. -/
theorem bits_putBits_low (w : Word) (v : Nat) : bits (putBits w 15 0 v) 15 0 = v % 65536 := by
  have hmask : (~~~(maskOf 15 0)).toNat % 2 ^ 16 = 0 := by decide
  have hclear : (w &&& ~~~(maskOf 15 0)).toNat % 2 ^ 16 = 0 := by
    rw [BitVec.toNat_and, Nat.and_mod_two_pow, hmask, Nat.and_zero]
  show (putBits w 15 0 v).toNat % 2 ^ 16 = v % 2 ^ 16
  unfold putBits
  rw [BitVec.toNat_or, Nat.or_mod_two_pow, hclear, Nat.zero_or, BitVec.toNat_ofNat]
  simp only [Nat.shiftLeft_zero, Nat.reduceAdd, Nat.reduceSub]
  omega

/-- The counts of c windows of a register frozen in its field [15:0]. -/
def frozenCounts (r n c : Nat) (counts : List (Nat × Nat)) (m : RMap) : RMap :=
  (upto c).foldl (fun m k => rmod m (rk r n k) (fun w => putBits w 15 0 (min (sget (fun _ => 0) counts k) 65535))) m

/-- Cells of one register are different when their pages or windows are. -/
theorem rk_inj {r n m k j : Nat} (hn : r / 0x400 + n < 0x80) (hm : r / 0x400 + m < 0x80) : rk r n k = rk r m j ↔ n = m ∧ k = j := by
  unfold rk
  omega

theorem rfld_frozenCounts {r n c k : Nat} (counts : List (Nat × Nat)) (m : RMap) (hn : r / 0x400 + n < 0x80) (hk : k < c) :
    rfld (frozenCounts r n c counts m) (rk r n k) 15 0 = min (sget (fun _ => 0) counts k) 65535 := by
  refine foldl_visits (P := fun _ => True) (Q := fun m => rfld m (rk r n k) 15 0 = min (sget (fun _ => 0) counts k) 65535)
    List.nodup_range (List.mem_range.mpr hk) (fun _ _ _ _ _ => trivial) (fun m _ => ?_) (fun m i _ hi h => ?_) trivial
  · unfold rfld
    rw [rget_rmod, if_pos rfl, bits_putBits_low]
    omega
  · unfold rfld
    rw [rget_rmod, if_neg (fun e => hi ((rk_inj hn hn).mp e).2.symm)]
    exact h

theorem rget_frozenCounts {r n c j : Nat} (counts : List (Nat × Nat)) (m : RMap) (h : ∀ k, j ≠ rk r n k) :
    rget (frozenCounts r n c counts m) j = rget m j :=
  foldl_keeps (fun x => rget x j = rget m j) _ (fun x k hx => by rw [rget_rmod, if_neg (h k)]; exact hx) _ _ rfl

/-- A unit whose latch of page i freezes the counts taken there: after the latches of a list of pages those of each are frozen, and
begin anew. -/
theorem foldl_freezes {U : Type} {f : U → Nat → U} {taken : U → Nat → List (Nat × Nat)} {regs : U → RMap} {r c : Nat}
    (htaken : ∀ u i n, taken (f u i) n = if n = i then [] else taken u n)
    (hregs : ∀ u i n k, rget (regs (f u i)) (rk r n k) = rget (frozenCounts r i c (taken u i) (regs u)) (rk r n k))
    {l : List Nat} {n : Nat} (hd : l.Nodup) (hn : n ∈ l) (hl : ∀ i ∈ l, r / 0x400 + i < 0x80) (u : U) :
    taken (l.foldl f u) n = [] ∧
      ∀ k, k < c → rfld (regs (l.foldl f u)) (rk r n k) 15 0 = min (sget (fun _ => 0) (taken u n) k) 65535 := by
  refine foldl_visits (P := fun v => taken v n = taken u n)
    (Q := fun v => taken v n = [] ∧ ∀ k, k < c → rfld (regs v) (rk r n k) 15 0 = min (sget (fun _ => 0) (taken u n) k) 65535)
    hd hn (fun v i _ hi h => ?_) (fun v h => ⟨?_, fun k hk => ?_⟩) (fun v i hmem hi h => ⟨?_, fun k hk => ?_⟩) rfl
  · rw [htaken, if_neg (Ne.symm hi), h]
  · rw [htaken, if_pos rfl]
  · unfold rfld
    rw [hregs, h]
    exact rfld_frozenCounts _ _ (hl n hn) hk
  · rw [htaken, if_neg (Ne.symm hi), h.1]
  · unfold rfld
    rw [hregs, rget_frozenCounts _ _ (fun j e => hi ((rk_inj (hl n hn) (hl i hmem)).mp e).1.symm)]
    exact h.2 k hk

/-- A serial port's latch, by its counts (R346). -/
theorem serLatch_counts (u : Ser) (i n k : Nat) : ((u.latch i).port n).taken = (if n = i then [] else (u.port n).taken) ∧
    rget (u.latch i).regs (rk Reg.SER_F_STAT n k) =
      rget (frozenCounts Reg.SER_F_STAT i 16 (u.port i).taken u.regs) (rk Reg.SER_F_STAT n k) := by
  constructor
  · have hport : (u.latch i).port n = if n = i then { u.port i with taken := [] } else u.port n := sget_sset ..
    rw [hport, apply_ite SerialPort.taken]
  · have hregs : (u.latch i).regs = rmod (frozenCounts Reg.SER_F_STAT i 16 (u.port i).taken u.regs) (rk Reg.SER_STAT i 0)
        (fun w => putBit (putBit w 1 (u.port i).active) 2 (u.port i).wait) := by
      dsimp only [Ser.latch, Ser.putPort, frozenCounts]
    rw [hregs, rget_rmod, if_neg]
    simp only [rk, Reg.SER_F_STAT, Reg.SER_STAT]
    omega

/-- A CAN controller's latch, by its counts (R317). -/
theorem canLatch_counts (u : Can) (i n k : Nat) : ((u.latch i).bus n).taken = (if n = i then [] else (u.bus n).taken) ∧
    rget (u.latch i).regs (rk Reg.CAN_RX_STAT n k) =
      rget (frozenCounts Reg.CAN_RX_STAT i 128 (u.bus i).taken u.regs) (rk Reg.CAN_RX_STAT n k) := by
  have hput : ∀ m : RMap, let v : Can := { u with regs := m }
      ((v.putBus i { v.bus i with taken := [] }).bus n).taken = (if n = i then [] else (u.bus n).taken) ∧
        (v.putBus i { v.bus i with taken := [] }).regs = m := fun m => by
    have hbus : (({ u with regs := m } : Can).putBus i { u.bus i with taken := [] }).bus n =
      if n = i then { u.bus i with taken := [] } else u.bus n := sget_sset ..
    exact ⟨(congrArg CanBus.taken hbus).trans (apply_ite ..), rfl⟩
  obtain ⟨htaken, hregs⟩ := hput (frozenCounts Reg.CAN_RX_STAT i 128 (u.bus i).taken u.regs)
  exact ⟨htaken, congrArg (fun m => rget m (rk Reg.CAN_RX_STAT n k)) hregs⟩

/-- The serial ports at a LATCH (R346): those that work freeze their counts. -/
theorem latchSerial_counts {s : State} {n : Nat} (hn : n < 12) (hw : s.works (Pg.SER + n) = true) :
    (s.latchSerial.ser.port n).taken = [] ∧ ∀ k, k < 16 →
      rfld s.latchSerial.ser.regs (rk Reg.SER_F_STAT n k) 15 0 = min (sget (fun _ => 0) (s.ser.port n).taken k) 65535 := by
  have hser : s.latchSerial.ser = ((upto 12).filter (fun n => s.works (Pg.SER + n))).foldl Ser.latch s.ser := rfl
  have hpage : Reg.SER_F_STAT / 0x400 = Pg.SER := by decide
  rw [hser]
  exact foldl_freezes (f := Ser.latch) (taken := fun u n => (u.port n).taken) (regs := Ser.regs)
    (fun u i n => (serLatch_counts u i n 0).1) (fun u i n k => (serLatch_counts u i n k).2) (nodup_working ..) (mem_working hn hw)
    (fun i hi => hpage ▸ working_page hi (by decide)) s.ser

/-- The CAN controllers at a LATCH (R317): those that work freeze their counts. -/
theorem latchCan_counts {s : State} {n : Nat} (hn : n < 4) (hw : s.works (Pg.CAN + n) = true) :
    (s.latchCan.can.bus n).taken = [] ∧ ∀ k, k < 128 →
      rfld s.latchCan.can.regs (rk Reg.CAN_RX_STAT n k) 15 0 = min (sget (fun _ => 0) (s.can.bus n).taken k) 65535 := by
  have hcan : s.latchCan.can = ((upto 4).filter (fun n => s.works (Pg.CAN + n))).foldl Can.latch s.can := rfl
  have hpage : Reg.CAN_RX_STAT / 0x400 = Pg.CAN := by decide
  rw [hcan]
  exact foldl_freezes (f := Can.latch) (taken := fun u n => (u.bus n).taken) (regs := Can.regs)
    (fun u i n => (canLatch_counts u i n 0).1) (fun u i n k => (canLatch_counts u i n k).2) (nodup_working ..) (mem_working hn hw)
    (fun i hi => hpage ▸ working_page hi (by decide)) s.can

/-- PRP at a LATCH (R301): the counts of sentences frozen. -/
theorem netLatch_counts (u : Net) : u.latch.sentences = [] ∧ ∀ k, k < 32 →
    rfld u.latch.regs (rk Reg.PRP_F_STAT 0 k) 15 0 = min (sget (fun _ => 0) u.sentences k) 65535 := by
  have hregs : u.latch.regs = frozenCounts Reg.PRP_F_STAT 0 32 u.sentences u.regs := by
    unfold Net.latch frozenCounts
    rfl
  refine ⟨rfl, fun k hk => ?_⟩
  rw [hregs]
  exact rfld_frozenCounts _ _ (by decide) hk

/-! ## The field groups (R272, R334) -/

/-- What a LATCH does to the field groups leaves their registers. -/
theorem fioLatch_regs (s : State) (ns ms : List Nat) (u : Fio) :
    (ms.foldl Fio.latchSamples (ns.foldl (Fio.latch s) (W.of u))).u.regs = u.regs := by
  have hrecord : ∀ (w : W Fio) n, (Fio.latch s w n).u.regs = w.u.regs := fun w n => by
    unfold Fio.latch
    dsimp only
    split <;> rfl
  have hsamples : ∀ (w : W Fio) n, (Fio.latchSamples w n).u = w.u := fun w n => by
    unfold Fio.latchSamples
    extract_lets u g one w'
    have hw' : w'.u = w.u := foldl_keeps (fun v : W Fio => v.u = w.u) one (fun v c hv => by
      unfold one
      split
      · exact hv
      · split <;> exact hv) _ _ rfl
    unfold W.when
    split <;> exact hw'
  refine foldl_keeps (fun w : W Fio => w.u.regs = u.regs) _ (fun w n hw => by rw [hsamples]; exact hw) _ _ ?_
  exact foldl_keeps (fun w : W Fio => w.u.regs = u.regs) _ (fun w n hw => (hrecord w n).trans hw) _ _ rfl

/-- The words of a record that the field groups give stand when they are latched. -/
theorem latchFields_pairWord (s : State) (k : Nat) : s.latchFields.fio.pairWord k = s.fio.pairWord k := by
  have hregs : s.latchFields.fio.regs = s.fio.regs := by
    unfold State.latchFields
    rw [onFio_fio]
    exact fioLatch_regs ..
  unfold Fio.pairWord
  rw [hregs]

/-! ## The position channels (R352, R355, R358, R359) -/

/-- v differs from u in channel n at most, and there, of the registers, in SPEED, STAT and SSI_ERR. -/
structure Pos.Touches (n : Nat) (u v : Pos) : Prop where
  cell : ∀ k, k ≠ rk Reg.POS_SPEED n 0 → k ≠ rk Reg.POS_STAT n 0 → k ≠ rk Reg.POS_SSI_ERR n 0 → rget v.regs k = rget u.regs k
  chan : ∀ m, m ≠ n → v.chan m = u.chan m

section
variable {n : Nat} {u v : Pos}

theorem Pos.Touches.refl (n : Nat) (u : Pos) : Pos.Touches n u u := ⟨fun _ _ _ _ => rfl, fun _ _ => rfl⟩

theorem Pos.Touches.putChan (h : Pos.Touches n u v) (x : PosChan) : Pos.Touches n u (v.putChan n x) where
  cell := h.cell
  chan := fun m hm => (sget_sset_ne _ _ _ hm).trans (h.chan m hm)

theorem Pos.Touches.mod (h : Pos.Touches n u v) {r : Nat} (hr : r = Reg.POS_SPEED ∨ r = Reg.POS_STAT ∨ r = Reg.POS_SSI_ERR)
    (f : Word → Word) : Pos.Touches n u (v.mod r n f) where
  cell := fun k h1 h2 h3 => by
    have hk : k ≠ rk r n 0 := by rcases hr with rfl | rfl | rfl <;> assumption
    exact (rget_rmod ..).trans ((if_neg hk).trans (h.cell k h1 h2 h3))
  chan := h.chan

theorem Pos.Touches.trans {w : Pos} (h : Pos.Touches n u v) (k : Pos.Touches n v w) : Pos.Touches n u w where
  cell := fun j h1 h2 h3 => (k.cell j h1 h2 h3).trans (h.cell j h1 h2 h3)
  chan := fun m hm => (k.chan m hm).trans (h.chan m hm)

/-- The registers of a channel other than those three stand in every channel. -/
theorem Pos.Touches.reg (h : Pos.Touches n u v) {r : Nat} (hr : r ∈ [Reg.POS_CFG, Reg.POS_COUNT, Reg.POS_SSI_POS]) (m : Nat) :
    v.reg r m = u.reg r m := by
  simp only [List.mem_cons, List.not_mem_nil, or_false] at hr
  refine h.cell _ ?_ ?_ ?_ <;> rcases hr with rfl | rfl | rfl <;>
    simp only [rk, Reg.POS_CFG, Reg.POS_COUNT, Reg.POS_SSI_POS, Reg.POS_SPEED, Reg.POS_STAT, Reg.POS_SSI_ERR] <;> omega

/-- Every register of another channel stands. -/
theorem Pos.Touches.reg_other (h : Pos.Touches n u v) {r m : Nat} (hr : r / 0x400 = Pg.POS) (hm : m ≠ n) : v.reg r m = u.reg r m := by
  have hpos : Pg.POS = 0x3E := rfl
  refine h.cell _ ?_ ?_ ?_ <;> simp only [rk, Reg.POS_SPEED, Reg.POS_STAT, Reg.POS_SSI_ERR] <;> omega

theorem Pos.Touches.mode (h : Pos.Touches n u v) (m : Nat) : v.mode m = u.mode m := by
  unfold Pos.mode
  rw [h.reg (by decide)]

theorem Pos.Touches.latchedValue (h : Pos.Touches n u v) (m : Nat) : v.latchedValue m = u.latchedValue m := by
  unfold Pos.latchedValue
  rw [h.mode, h.reg (by decide), h.reg (by decide)]

theorem Pos.Touches.speedAt (h : Pos.Touches n u v) {m : Nat} (hm : m ≠ n) (now : Nat) : v.speedAt m now = u.speedAt m now := by
  unfold Pos.speedAt
  rw [h.chan m hm, h.reg_other (by decide) hm, h.reg_other (by decide) hm, h.reg_other (by decide) hm]

end

/-- A refused request touches its channel alone. -/
theorem touches_refuse (n : Nat) (u : Pos) : Pos.Touches n u (u.refuse n).u := by
  have hu : (u.refuse n).u = (u.mod Reg.POS_SSI_ERR n (fun e => incSatField e 31 16)).putChan n
      { u.chan n with refused := true, failed := true } := by
    unfold Pos.refuse W.when
    dsimp only
    split <;> rfl
  exact hu ▸ ((Pos.Touches.refl n u).mod (.inr (.inr rfl)) _).putChan _

/-- A request touches its channel alone (R355). -/
theorem touches_request (m : Mode) (now : Nat) (t : Int) (n : Nat) (line : Bool) (u : Pos) :
    Pos.Touches n u (u.request m now t n line).u := by
  have hstat : Pos.Touches n u (u.stat n 4 (!line)) := (Pos.Touches.refl n u).mod (.inr (.inl rfl)) _
  unfold Pos.request
  split
  case isFalse => exact .refl n u
  dsimp only
  split
  case isTrue => exact touches_refuse n u
  split
  case isTrue => exact hstat.putChan _
  case isFalse => exact hstat.trans (touches_refuse ..)

/-- A channel that a LATCH finds in mode INCR: its speed shown, its edges counted anew (R352, R358). -/
def latchSpeed (u : Pos) (n now : Nat) : Pos :=
  if u.mode n = 2 then (u.mod Reg.POS_SPEED n (fun _ => u.speedAt n now)).putChan n { u.chan n with edges := 0, span := 0 } else u

/-- A channel's LATCH, by what it leaves of the channels. -/
theorem posLatch_u (s : State) (lines : BitVec 24) (w : W Pos) (n : Nat) :
    (Pos.latch s lines w n).u = ((latchSpeed w.u n s.now).request s.mode s.now s.tim.time n (lines.getLsbD n)).u := by
  unfold Pos.latch latchSpeed
  simp only [decide_eq_true_eq]

theorem touches_latchSpeed (u : Pos) (n now : Nat) : Pos.Touches n u (latchSpeed u n now) := by
  unfold latchSpeed
  split
  · exact ((Pos.Touches.refl n u).mod (.inl rfl) _).putChan _
  · exact .refl n u

/-- A request on a channel that is not in mode SSI does nothing (R355). -/
theorem request_notSsi {m : Mode} {now : Nat} {t : Int} {n : Nat} {line : Bool} {u : Pos} (h : u.mode n ≠ 1) :
    (u.request m now t n line).u = u := by
  unfold Pos.request
  rw [if_neg (fun c => h c.1)]
  rfl

/-- A channel's LATCH touches that channel alone. -/
theorem touches_posLatch (s : State) (lines : BitVec 24) (w : W Pos) (n : Nat) : Pos.Touches n w.u (Pos.latch s lines w n).u :=
  posLatch_u s lines w n ▸ (touches_latchSpeed w.u n s.now).trans (touches_request ..)

/-- The LATCH of a channel in mode INCR (R358). -/
theorem posLatch_incr (s : State) (lines : BitVec 24) {w : W Pos} {n : Nat} (h : w.u.mode n = 2) :
    (Pos.latch s lines w n).u.reg Reg.POS_SPEED n = w.u.speedAt n s.now ∧
      (Pos.latch s lines w n).u.chan n = { w.u.chan n with edges := 0, span := 0 } := by
  have hmode : (latchSpeed w.u n s.now).mode n ≠ 1 := by
    rw [(touches_latchSpeed w.u n s.now).mode, h]
    decide
  rw [posLatch_u, request_notSsi hmode]
  unfold latchSpeed
  rw [if_pos h]
  exact ⟨(rget_rmod w.u.regs (rk Reg.POS_SPEED n 0) (fun _ => w.u.speedAt n s.now) _).trans (if_pos rfl), sget_sset_self ..⟩

/-- The position channels after a LATCH of all that work: what a record takes of them stands. -/
theorem latchPositions_latchedValue (s : State) (lines : BitVec 24) (n : Nat) :
    (s.latchPositions lines).pos.latchedValue n = s.pos.latchedValue n := by
  unfold State.latchPositions
  rw [onPos_pos]
  exact foldl_keeps (fun w : W Pos => w.u.latchedValue n = s.pos.latchedValue n) _
    (fun w i hw => ((touches_posLatch s lines w i).latchedValue n).trans hw) _ _ rfl

/-- A LATCH shows the speed of each channel that works in mode INCR, and its edges count anew. -/
theorem latchPositions_incr {s : State} (lines : BitVec 24) {n : Nat} (hn : n < 24) (hw : s.works (Pg.POS + n) = true)
    (hm : s.pos.mode n = 2) : rget (s.latchPositions lines).pos.regs (rk Reg.POS_SPEED n 0) = s.pos.speedAt n s.now ∧
      ((s.latchPositions lines).pos.chan n).edges = 0 ∧ ((s.latchPositions lines).pos.chan n).span = 0 := by
  unfold State.latchPositions
  rw [onPos_pos]
  refine foldl_visits (P := fun w : W Pos => w.u.mode n = 2 ∧ w.u.speedAt n s.now = s.pos.speedAt n s.now)
    (Q := fun w : W Pos => w.u.reg Reg.POS_SPEED n = s.pos.speedAt n s.now ∧ (w.u.chan n).edges = 0 ∧ (w.u.chan n).span = 0)
    (nodup_working ..) (mem_working hn hw) (fun w i _ hi h => ?_) (fun w h => ?_) (fun w i _ hi h => ?_) ⟨hm, rfl⟩
  · have ht := touches_posLatch s lines w i
    exact ⟨(ht.mode n).trans h.1, (ht.speedAt hi.symm _).trans h.2⟩
  · obtain ⟨hspeed, hchan⟩ := posLatch_incr s lines h.1
    exact ⟨hspeed.trans h.2, by rw [hchan], by rw [hchan]⟩
  · have ht := touches_posLatch s lines w i
    rwa [ht.reg_other (by decide) hi.symm, ht.chan n hi.symm]

/-! ## The Chain (R272, R273) -/

/-- A conditional step leaves what its step leaves. -/
theorem u_when {U V : Type} {g : U → V} {f : W U → W U} (hf : ∀ v : W U, g (f v).u = g v.u) (c : Bool) (w : W U) :
    g (W.when c f w).u = g w.u := by
  unfold W.when
  split
  · exact hf w
  · rfl

/-- The station records leave the words of the input record. -/
theorem stations_latched (s : State) (e : ChnEnv) (u : Chn) : (Chn.stations s e u).u.latched = u.latched :=
  foldl_keeps (fun w : W Chn => w.u.latched = u.latched) _ (fun w n hw => by
    unfold Chn.stationRecord
    split
    · exact hw
    · exact (u_when (g := Chn.latched) (by intro v; rfl) _ _).trans hw) _ _ rfl

/-- An IO member's outputs applied leave the words of the input record. -/
theorem latchOutputs_latched (u : Chn) : (Chn.latchOutputs u).u.latched = u.latched := by
  unfold Chn.latchOutputs
  split
  · rfl
  · exact u_when (g := Chn.latched) (by intro v; rfl) _ _

theorem onChn_latched {f : Chn → W Chn} (hf : ∀ u, (f u).u.latched = u.latched) (s : State) : (s.onChn f).chn.latched = s.chn.latched := by
  rw [onChn_chn]
  exact hf s.chn

/-! ## What the LATCH of a class leaves -/

/-- Whether a unit works stands when its island and its PAGE_CTRL do (R433). -/
theorem works_commit (fx : Fx) (st : List Store) (s : State) (p : Nat) : (s.commit fx st).works p = s.works p := by
  unfold State.works hdrEnabled rbit
  rw [commit_pageUp, hdrCell_commit _ _ _ _ _ (by decide) (by decide) (by decide)]

theorem works_onChn (f : Chn → W Chn) (s : State) (p : Nat) : (s.onChn f).works p = s.works p := works_commit ..

theorem shell_latchFields (s : State) : s.latchFields.shell = { s.shell with fio := s.latchFields.fio } := by
  unfold State.latchFields
  rw [shell_onFio, onFio_fio]

theorem shell_latchPositions (lines : BitVec 24) (s : State) :
    (s.latchPositions lines).shell = { s.shell with pos := (s.latchPositions lines).pos } := by
  unfold State.latchPositions
  rw [shell_onPos, onPos_pos]

/-- CHN's work by the shell: CHN alone. -/
theorem shell_onChn_chn (f : Chn → W Chn) (s : State) : (s.onChn f).shell = { s.shell with chn := (s.onChn f).shell.chn } := by
  rw [shell_onChn]

/-- The Chain at a LATCH changes CHN alone, and there not the words of the input record. -/
theorem latchChain_frame (s : State) : s.latchChain.shell = { s.shell with chn := s.latchChain.shell.chn } ∧
    (∀ p, s.latchChain.works p = s.works p) ∧ s.latchChain.chn.latched = s.chn.latched := by
  unfold State.latchChain State.workOn
  split
  case isFalse => exact ⟨rfl, fun _ => rfl, rfl⟩
  dsimp only
  split
  case isTrue =>
    refine ⟨?_, fun p => by rw [works_onChn, works_onChn], ?_⟩
    · rw [shell_onChn_chn, shell_onChn]
    · rw [onChn_latched (fun u => stations_latched ..), onChn_latched latchOutputs_latched]
  case isFalse => exact ⟨shell_onChn_chn .., fun p => works_onChn .., onChn_latched (fun u => stations_latched ..) s⟩

/-! ## The words of the input record (R272) -/

theorem latchedWords_fields (s : State) (arg : Word) {k : Nat} (hk : k < 6) : wordAt (s.latchedWords arg) (2 + k) =
    if bit arg 0 then s.fio.pairWord k else wordAt s.chn.latched (2 + k) := by
  have hi : 2 + k = k + 1 + 1 := by omega
  simp [State.latchedWords, wordAt, upto, hi, List.getElem?_append, hk]

theorem latchedWords_positions (s : State) (arg : Word) {n : Nat} (hn : n < 24) : wordAt (s.latchedWords arg) (9 + n) =
    if bit arg 1 then s.pos.latchedValue n else wordAt s.chn.latched (9 + n) := by
  have hi : 9 + n = n + 1 + 6 + 1 + 1 := by omega
  have hpast : ¬n + 7 < 6 := by omega
  simp [State.latchedWords, wordAt, upto, hi, List.getElem?_append, hn, hpast]

/-! ## LATCH (R44) -/

/-- t is s after a LATCH of the classes in arg. -/
structure Latches (arg : Word) (s t : State) : Prop where
  fno : wordAt t.chn.latched 0 = s.fno
  applied : wordAt t.chn.latched 1 = t.chn.applied
  fieldWords : ∀ k, k < 6 → wordAt t.chn.latched (2 + k) = if bit arg 0 then s.fio.pairWord k else wordAt s.chn.latched (2 + k)
  positionWords : ∀ n, n < 24 →
    wordAt t.chn.latched (9 + n) = if bit arg 1 then s.pos.latchedValue n else wordAt s.chn.latched (9 + n)
  fields : bit arg 0 = false → t.fio = s.fio
  positions : bit arg 1 = false → t.pos = s.pos
  speeds : ∀ n, bit arg 1 = true → n < 24 → s.works (Pg.POS + n) = true → s.pos.mode n = 2 →
    rget t.pos.regs (rk Reg.POS_SPEED n 0) = s.pos.speedAt n s.now ∧ (t.pos.chan n).edges = 0 ∧ (t.pos.chan n).span = 0
  serial : bit arg 2 = false → t.ser = s.ser
  serialCounts : ∀ n, bit arg 2 = true → n < 12 → s.works (Pg.SER + n) = true → (t.ser.port n).taken = [] ∧
    ∀ k, k < 16 → rfld t.ser.regs (rk Reg.SER_F_STAT n k) 15 0 = min (sget (fun _ => 0) (s.ser.port n).taken k) 65535
  can : bit arg 3 = false → t.can = s.can
  canCounts : ∀ n, bit arg 3 = true → n < 4 → s.works (Pg.CAN + n) = true → (t.can.bus n).taken = [] ∧
    ∀ k, k < 128 → rfld t.can.regs (rk Reg.CAN_RX_STAT n k) 15 0 = min (sget (fun _ => 0) (s.can.bus n).taken k) 65535
  net : bit arg 5 = false → t.net = s.net
  netCounts : bit arg 5 = true → s.works Pg.PRP = true → t.net.sentences = [] ∧
    ∀ k, k < 32 → rfld t.net.regs (rk Reg.PRP_F_STAT 0 k) 15 0 = min (sget (fun _ => 0) s.net.sentences k) 65535
  rest : t.shell = { s.shell with fio := t.fio, pos := t.pos, ser := t.ser, can := t.can, net := t.net, chn := t.shell.chn }

/-- The states of a LATCH as it takes its classes one after another: y1 after the field groups, and so on to y6 after PRP. -/
structure LatchStages (arg : Word) (lines : BitVec 24) (s y1 y2 y3 y4 y5 y6 : State) : Prop where
  fields : y1 = if bit arg 0 then s.latchFields else s
  positions : y2 = if bit arg 1 then y1.latchPositions lines else y1
  serial : y3 = if bit arg 2 then y2.latchSerial else y2
  can : y4 = if bit arg 3 then y3.latchCan else y3
  chain : y5 = if bit arg 4 then y4.latchChain else y4
  net : y6 = if bit arg 5 then y5.workOn Pg.PRP (fun z => { z with net := z.net.latch }) else y5

section
variable {arg : Word} {lines : BitVec 24} {s y1 y2 y3 y4 y5 y6 : State} (h : LatchStages arg lines s y1 y2 y3 y4 y5 y6)
include h

/-- Each class changes its own unit alone, and which units work stands. -/
theorem LatchStages.fields_frame : y1.shell = { s.shell with fio := y1.fio } ∧ ∀ p, y1.works p = s.works p := by
  rw [h.fields]
  split
  · exact ⟨shell_latchFields s, fun p => works_commit ..⟩
  · exact ⟨rfl, fun _ => rfl⟩

theorem LatchStages.positions_frame :
    y2.shell = { s.shell with fio := y1.fio, pos := y2.pos } ∧ ∀ p, y2.works p = s.works p := by
  obtain ⟨hs, hw⟩ := h.fields_frame
  have hstep : y2.shell = { y1.shell with pos := y2.pos } ∧ ∀ p, y2.works p = y1.works p := by
    rw [h.positions]
    split
    · exact ⟨shell_latchPositions lines y1, fun p => works_commit ..⟩
    · exact ⟨rfl, fun _ => rfl⟩
  exact ⟨by rw [hstep.1, hs], fun p => (hstep.2 p).trans (hw p)⟩

theorem LatchStages.serial_frame :
    y3.shell = { s.shell with fio := y1.fio, pos := y2.pos, ser := y3.ser } ∧ ∀ p, y3.works p = s.works p := by
  obtain ⟨hs, hw⟩ := h.positions_frame
  have hstep : y3.shell = { y2.shell with ser := y3.ser } ∧ ∀ p, y3.works p = y2.works p := by
    rw [h.serial]
    split <;> exact ⟨rfl, fun _ => rfl⟩
  exact ⟨by rw [hstep.1, hs], fun p => (hstep.2 p).trans (hw p)⟩

theorem LatchStages.can_frame :
    y4.shell = { s.shell with fio := y1.fio, pos := y2.pos, ser := y3.ser, can := y4.can } ∧ ∀ p, y4.works p = s.works p := by
  obtain ⟨hs, hw⟩ := h.serial_frame
  have hstep : y4.shell = { y3.shell with can := y4.can } ∧ ∀ p, y4.works p = y3.works p := by
    rw [h.can]
    split <;> exact ⟨rfl, fun _ => rfl⟩
  exact ⟨by rw [hstep.1, hs], fun p => (hstep.2 p).trans (hw p)⟩

theorem LatchStages.chain_frame :
    y5.shell = { s.shell with fio := y1.fio, pos := y2.pos, ser := y3.ser, can := y4.can, chn := y5.shell.chn } ∧
      (∀ p, y5.works p = s.works p) ∧ y5.chn.latched = s.chn.latched := by
  obtain ⟨hs, hw⟩ := h.can_frame
  have hstep : y5.shell = { y4.shell with chn := y5.shell.chn } ∧ (∀ p, y5.works p = y4.works p) ∧
      y5.chn.latched = y4.chn.latched := by
    rw [h.chain]
    split
    · exact latchChain_frame y4
    · exact ⟨rfl, fun _ => rfl, rfl⟩
  obtain ⟨kshell, kworks, klatched⟩ := hstep
  have hchn : y4.chn.latched = s.chn.latched := (congrArg (fun z : State => z.chn.latched) hs :)
  exact ⟨by rw [kshell, hs], fun p => (kworks p).trans (hw p), klatched.trans hchn⟩

/-- After the last class, each unit is as its own class left it. -/
theorem LatchStages.net_frame :
    y6.shell = { s.shell with
      fio := y1.fio, pos := y2.pos, ser := y3.ser, can := y4.can, chn := y5.shell.chn, net := y6.net } ∧
      y6.chn.latched = s.chn.latched := by
  obtain ⟨hs, -, hlatched⟩ := h.chain_frame
  have hstep : y6.shell = { y5.shell with net := y6.net } := by
    rw [h.net]
    unfold State.workOn
    split
    · split <;> rfl
    · rfl
  have hchn : y6.chn.latched = y5.chn.latched := (congrArg (fun z : State => z.chn.latched) hstep :)
  exact ⟨by rw [hstep, hs], hchn.trans hlatched⟩

/-- The field groups are found as the LATCH found them, and give the record what they held. -/
theorem LatchStages.fieldGroups : (bit arg 0 = false → y1.fio = s.fio) ∧ ∀ k, y1.fio.pairWord k = s.fio.pairWord k := by
  rw [h.fields]
  split
  case isTrue hb => exact ⟨fun hn => absurd (hn.symm.trans hb) (by decide), latchFields_pairWord s⟩
  case isFalse => exact ⟨fun _ => rfl, fun _ => rfl⟩

/-- The position channels likewise; those in mode INCR show their speeds. -/
theorem LatchStages.channels : (bit arg 1 = false → y2.pos = s.pos) ∧ (∀ n, y2.pos.latchedValue n = s.pos.latchedValue n) ∧
    ∀ n, bit arg 1 = true → n < 24 → s.works (Pg.POS + n) = true → s.pos.mode n = 2 →
      rget y2.pos.regs (rk Reg.POS_SPEED n 0) = s.pos.speedAt n s.now ∧ (y2.pos.chan n).edges = 0 ∧ (y2.pos.chan n).span = 0 := by
  obtain ⟨hs, hw⟩ := h.fields_frame
  have hpos : y1.pos = s.pos := (congrArg State.pos hs :)
  have hnow : y1.now = s.now := (congrArg State.now hs :)
  rw [h.positions, ← hpos, ← hnow]
  split
  case isTrue hb =>
    exact ⟨fun hn => absurd (hn.symm.trans hb) (by decide), latchPositions_latchedValue y1 lines,
      fun n _ hn hwork hm => latchPositions_incr lines hn ((hw _).trans hwork) hm⟩
  case isFalse hb => exact ⟨fun _ => rfl, fun _ => rfl, fun n hn => absurd hn hb⟩

theorem LatchStages.ports : (bit arg 2 = false → y3.ser = s.ser) ∧
    ∀ n, bit arg 2 = true → n < 12 → s.works (Pg.SER + n) = true → (y3.ser.port n).taken = [] ∧
      ∀ k, k < 16 → rfld y3.ser.regs (rk Reg.SER_F_STAT n k) 15 0 = min (sget (fun _ => 0) (s.ser.port n).taken k) 65535 := by
  obtain ⟨hs, hw⟩ := h.positions_frame
  have hser : y2.ser = s.ser := (congrArg State.ser hs :)
  rw [h.serial, ← hser]
  split
  case isTrue hb =>
    exact ⟨fun hn => absurd (hn.symm.trans hb) (by decide), fun n _ hn hwork => latchSerial_counts hn ((hw _).trans hwork)⟩
  case isFalse hb => exact ⟨fun _ => rfl, fun n hn => absurd hn hb⟩

theorem LatchStages.buses : (bit arg 3 = false → y4.can = s.can) ∧
    ∀ n, bit arg 3 = true → n < 4 → s.works (Pg.CAN + n) = true → (y4.can.bus n).taken = [] ∧
      ∀ k, k < 128 → rfld y4.can.regs (rk Reg.CAN_RX_STAT n k) 15 0 = min (sget (fun _ => 0) (s.can.bus n).taken k) 65535 := by
  obtain ⟨hs, hw⟩ := h.serial_frame
  have hcan : y3.can = s.can := (congrArg State.can hs :)
  rw [h.can, ← hcan]
  split
  case isTrue hb =>
    exact ⟨fun hn => absurd (hn.symm.trans hb) (by decide), fun n _ hn hwork => latchCan_counts hn ((hw _).trans hwork)⟩
  case isFalse hb => exact ⟨fun _ => rfl, fun n hn => absurd hn hb⟩

theorem LatchStages.prp : (bit arg 5 = false → y6.net = s.net) ∧
    (bit arg 5 = true → s.works Pg.PRP = true → y6.net.sentences = [] ∧
      ∀ k, k < 32 → rfld y6.net.regs (rk Reg.PRP_F_STAT 0 k) 15 0 = min (sget (fun _ => 0) s.net.sentences k) 65535) := by
  obtain ⟨hs, hw, -⟩ := h.chain_frame
  have hnet : y5.net = s.net := (congrArg State.net hs :)
  rw [h.net, ← hnet]
  split
  case isTrue hb =>
    refine ⟨fun hn => absurd (hn.symm.trans hb) (by decide), fun _ hwork => ?_⟩
    rw [State.workOn, if_pos ((hw _).trans hwork)]
    exact netLatch_counts y5.net
  case isFalse hb => exact ⟨fun _ => rfl, fun hn => absurd hn hb⟩

end

/-- The classes one after another, and then the words of the input record. -/
theorem latchAll_stages (arg : Word) (lines : BitVec 24) (s : State) : ∃ y1 y2 y3 y4 y5 y6,
    LatchStages arg lines s y1 y2 y3 y4 y5 y6 ∧
      s.latchAll arg lines = { y6 with chn := { y6.chn with latched := y6.latchedWords arg } } :=
  ⟨_, _, _, _, _, _, ⟨rfl, rfl, rfl, rfl, rfl, rfl⟩, rfl⟩

/-- A LATCH of the classes in arg does what `Latches` says. -/
theorem latchAll_latches (arg : Word) (lines : BitVec 24) (s : State) : Latches arg s (s.latchAll arg lines) := by
  obtain ⟨y1, y2, y3, y4, y5, y6, h, hall⟩ := latchAll_stages arg lines s
  obtain ⟨hs, hlatched⟩ := h.net_frame
  have hfio : y6.fio = y1.fio := (congrArg State.fio hs :)
  have hpos : y6.pos = y2.pos := (congrArg State.pos hs :)
  have hser : y6.ser = y3.ser := (congrArg State.ser hs :)
  have hcan : y6.can = y4.can := (congrArg State.can hs :)
  rw [← hfio, ← hpos, ← hser, ← hcan] at hs
  obtain ⟨fields, pairWords⟩ := h.fieldGroups
  obtain ⟨positions, values, speeds⟩ := h.channels
  obtain ⟨serial, serialCounts⟩ := h.ports
  obtain ⟨can, canCounts⟩ := h.buses
  obtain ⟨net, netCounts⟩ := h.prp
  rw [← hfio] at fields pairWords
  rw [← hpos] at positions values speeds
  rw [← hser] at serial serialCounts
  rw [← hcan] at can canCounts
  rw [hall]
  exact {
    fields, positions, speeds, serial, serialCounts, can, canCounts, net, netCounts
    fno := (congrArg State.fno hs :)
    applied := rfl
    fieldWords := fun k hk => (latchedWords_fields y6 arg hk).trans (by rw [pairWords, hlatched])
    positionWords := fun n hn => (latchedWords_positions y6 arg hn).trans (by rw [values, hlatched])
    rest := by
      show ({ y6.shell with chn := _ } : State) = _
      rw [hs]
      rfl }

/-- The START of a LATCH: its classes latched, and its run complete at once with a result. -/
theorem latch_runs {a : At} {idx : Nat} (lines : BitVec 24) {x : Span} {s : State} (h : (s.at_ a).Starts idx x) (hu : x.unit = 0x7F)
    (ho : x.opcode = 1) : exec (.latch a idx lines) s =
      .next { ((s.at_ a).begun idx).latchAll x.arg lines with seq := s.seq.started idx x true (some (s.at_ a).tick) } := by
  have hlatch : Span.isLatch x = true := by
    unfold Span.isLatch
    rw [hu, ho]
    rfl
  have hrest := (latchAll_latches x.arg lines ((s.at_ a).begun idx)).rest
  have hseq : (((s.at_ a).begun idx).latchAll x.arg lines).seq = ((s.at_ a).begun idx).seq := (congrArg State.seq hrest :)
  have htick : (((s.at_ a).begun idx).latchAll x.arg lines).tick = (s.at_ a).tick := (congrArg State.tick hrest :)
  refine congrArg Host.Outcome.next ((startSpan_taken h Span.isLatch hlatch true _).trans ?_)
  dsimp only
  rw [hseq, htick]
  rfl

/-- Settles O37: the START latches the classes of ARG in the state in which it is issued; each clause is one of `Latches`. -/
theorem latchCommand : Obligations.LatchCommand := by
  unfold Obligations.LatchCommand
  intro a idx lines x s hs hunit hop
  have hl := latchAll_latches x.arg lines ((s.at_ a).begun idx)
  refine ⟨_, latch_runs lines hs hunit hop, rfl, hl.fno, hl.applied, hl.fieldWords, hl.positionWords, hl.fields, hl.positions, hl.speeds,
    hl.serial, hl.serialCounts, hl.can, hl.canCounts, hl.net, hl.netCounts, (congrArg State.second hl.rest :), ?_⟩
  exact congrArg (fun z : State => { z with seq := s.seq.started idx x true (some (s.at_ a).tick) }) hl.rest

end Sys2Proof.Proofs
end

section
/-! FLT's coefficient window (R71): writes of FLT_COEF_DATA outside RUN and in it, and reads of registers. -/

namespace Sys2Proof.Proofs

open Sys2Proof Sys2Proof.Machine

-- One proof after another: many at once wait for the kernel in threads of their own, which the check's memory limit does not hold.
set_option Elab.async false

/-! ## Fields of a word -/

/-- A field of a word bit by bit. -/
theorem testBit_bits (w : Word) (hi lo i : Nat) : (bits w hi lo).testBit i = (decide (i < hi + 1 - lo) && w.getLsbD (lo + i)) := by
  unfold bits
  rw [Nat.testBit_mod_two_pow, Nat.testBit_shiftRight, BitVec.testBit_toNat]

/-- A word bit by bit after its field [hi:lo] was replaced. -/
theorem getLsbD_putBits (w : Word) (hi lo v : Nat) {i : Nat} (hlo : lo ≤ hi) (hi32 : i < 32) :
    (putBits w hi lo v).getLsbD i = if lo ≤ i ∧ i ≤ hi then v.testBit (i - lo) else w.getLsbD i := by
  unfold putBits maskOf
  simp only [BitVec.getLsbD_or, BitVec.getLsbD_and, BitVec.getLsbD_not, BitVec.getLsbD_ofNat, Nat.testBit_shiftLeft,
    Nat.testBit_two_pow_sub_one, Nat.testBit_mod_two_pow, hi32, decide_true, Bool.true_and]
  by_cases h1 : lo ≤ i
  · by_cases h2 : i ≤ hi
    · have h3 : i - lo < hi + 1 - lo := by omega
      simp [h1, h2, h3]
    · have h3 : ¬ i - lo < hi + 1 - lo := by omega
      simp [h1, h2, h3]
  · simp [h1]

/-- The field that was replaced. -/
theorem bits_putBits_same (w : Word) {hi lo : Nat} (v : Nat) (hlo : lo ≤ hi) (hhi : hi < 32) :
    bits (putBits w hi lo v) hi lo = v % 2 ^ (hi + 1 - lo) := by
  refine Nat.eq_of_testBit_eq fun i => ?_
  rw [testBit_bits, Nat.testBit_mod_two_pow]
  by_cases h : i < hi + 1 - lo
  · rw [getLsbD_putBits _ _ _ _ hlo (by omega), if_pos (by omega), Nat.add_sub_cancel_left]
  · simp [h]

/-- A field apart from the one that was replaced. -/
theorem bits_putBits_apart (w : Word) {hi lo h l : Nat} (v : Nat) (hlo : lo ≤ hi) (h32 : h < 32) (ha : h < lo ∨ hi < l) :
    bits (putBits w hi lo v) h l = bits w h l := by
  refine Nat.eq_of_testBit_eq fun i => ?_
  rw [testBit_bits, testBit_bits]
  by_cases hi' : i < h + 1 - l
  · rw [getLsbD_putBits _ _ _ _ hlo (by omega), if_neg (by omega)]
  · simp [hi']

/-! ## The coefficient window (R71) -/

/-- FLT after a write of FLT_COEF_DATA with a loaded set selected: two taps stored, and the window at the next pair. -/
def Flt.coefStored (v : Word) (u : Flt) : Flt :=
  let sel := rget u.regs Reg.FLT_COEF_SEL
  let place := 512 * bits sel 1 0 + 16 * bits sel 6 2 + 2 * bits sel 9 7
  let next := (8 * bits sel 6 2 + bits sel 9 7 + 1) % 256
  { u with
    taps := sset tapDefault (sset tapDefault u.taps place (signed 16 (bits v 15 0))) (place + 1) (signed 16 (bits v 31 16))
    regs := rset u.regs Reg.FLT_COEF_SEL (putBits (putBits sel 6 2 (next / 8)) 9 7 (next % 8)) }

/-- A write with a loaded set selected stores. -/
theorem coefWrite_loaded {u : Flt} (v : Word) (h : 2 ≤ rfld u.regs Reg.FLT_COEF_SEL 1 0) :
    Flt.coefWrite v u = W.of (Flt.coefStored v u) := if_neg (Nat.not_lt.mpr h)

/-- A write with set 0 or 1 selected is recorded alone. -/
theorem coefWrite_fixed {u : Flt} (v : Word) (h : rfld u.regs Reg.FLT_COEF_SEL 1 0 < 2) :
    Flt.coefWrite v u = (W.of u).code Pg.FLT 0x1302 [] := if_pos h

section
variable (v : Word) {u : Flt} {set phase pair : Nat} (hset : set = rfld u.regs Reg.FLT_COEF_SEL 1 0)
  (hphase : phase = rfld u.regs Reg.FLT_COEF_SEL 6 2) (hpair : pair = rfld u.regs Reg.FLT_COEF_SEL 9 7)
include hset hphase hpair

/-- The taps after the store: those of the selected pair, and the others as they were. -/
theorem coefStored_taps (k : Nat) : sget tapDefault (Flt.coefStored v u).taps k =
    if k = 512 * set + 16 * phase + 2 * pair + 1 then signed 16 (bits v 31 16)
    else if k = 512 * set + 16 * phase + 2 * pair then signed 16 (bits v 15 0) else sget tapDefault u.taps k := by
  subst hset hphase hpair
  exact (sget_sset ..).trans (if_congr .rfl rfl (sget_sset ..))

/-- The window after the store: the same set, at the next pair, the phase one more after pair 7, and phase 0 after phase 31. -/
theorem coefStored_window : rfld (Flt.coefStored v u).regs Reg.FLT_COEF_SEL 1 0 = set ∧
    rfld (Flt.coefStored v u).regs Reg.FLT_COEF_SEL 9 7 = (pair + 1) % 8 ∧
    rfld (Flt.coefStored v u).regs Reg.FLT_COEF_SEL 6 2 = (phase + if pair = 7 then 1 else 0) % 32 := by
  have hp : pair < 8 := hpair ▸ Nat.mod_lt _ (by decide)
  unfold rfld at *
  have hsel : rget (Flt.coefStored v u).regs Reg.FLT_COEF_SEL =
      putBits (putBits (rget u.regs Reg.FLT_COEF_SEL) 6 2 ((8 * phase + pair + 1) % 256 / 8)) 9 7 ((8 * phase + pair + 1) % 256 % 8) := by
    rw [hphase, hpair]
    exact (rget_rset ..).trans (if_pos rfl)
  rw [hsel, hset]
  refine ⟨?_, ?_, ?_⟩
  · rw [bits_putBits_apart _ _ (by decide) (by decide) (by decide), bits_putBits_apart _ _ (by decide) (by decide) (by decide)]
  · rw [bits_putBits_same _ _ (by decide) (by decide)]
    simp only [Nat.reduceAdd, Nat.reduceSub, Nat.reducePow]
    omega
  · rw [bits_putBits_apart _ _ (by decide) (by decide) (by decide), bits_putBits_same _ _ (by decide) (by decide)]
    simp only [Nat.reduceAdd, Nat.reduceSub, Nat.reducePow]
    split <;> omega

end

/-- FLT_COEF_DATA's row: locked in RUN (R8), not windowed. -/
abbrev coefRow : RegRow := ⟨Reg.FLT_COEF_DATA % 0x400, 0, 0, 0xFFFFFFFF, 0, 0, 0, 0, 1⟩

theorem takes_coefRow (run : Bool) (v : Word) : coefRow.takes run v = !run := by
  have h : v &&& wd 0 = 0#32 := BitVec.and_zero
  cases run
  · rfl
  · show (v &&& wd 0 != 0#32) = false
    rw [h]
    rfl

/-- FLT's work that asks for nothing. -/
theorem onFlt_of {f : Flt → W Flt} {s : State} {u : Flt} (h : f s.flt = W.of u) : s.onFlt f = { s with flt := u } := by
  unfold State.onFlt
  rw [h]
  exact commit_none _

/-- FLT's work that records a code alone. -/
theorem onFlt_code {f : Flt → W Flt} {s : State} {u : Flt} {code : Nat} {l : List Word} (h : f s.flt = (W.of u).code Pg.FLT code l) :
    s.onFlt f = State.code Pg.FLT code l { s with flt := u } := by
  unfold State.onFlt
  rw [h]
  rfl

theorem code_flt (page code : Nat) (l : List Word) (s : State) : (s.code page code l).flt = s.flt :=
  plain_flt _ (plain_of_codes _ _ _ _) _

/-- What the write does in a state in which it takes effect. -/
theorem actPlain_coefData (v old : Word) (s : State) : State.actPlain Reg.FLT_COEF_DATA 0 0 v old s = s.onFlt (Flt.coefWrite v) := rfl

/-- A taken write of a register that keeps no cell of its own: PAGE_SEQ counts (R435), and FLT and memory stand. -/
theorem written_ownCell (s : State) (page hp off w : Nat) {reg : Nat} (r : RegRow) (v : Word) (h : ownCell reg = true) :
    let t := s.written page hp off w reg r v
    t.flt = s.flt ∧ t.hdr = hdrSeq s.hdr page ∧ t.mem = s.mem := by
  unfold State.written
  dsimp only
  rw [h]
  cases r.rwl != 0 && s.mode != .run <;> exact ⟨rfl, rfl, rfl⟩

/-- COEF_DATA_WRITE outside RUN with a loaded set selected. -/
theorem coefDataWrite_loaded (a : At) (acc : Accessor) (v : Word) {s : State} (h : s.Admits acc Pg.FLT (Reg.FLT_COEF_DATA % 0x400))
    (hm : s.mode ≠ .run) (h2 : 2 ≤ rfld s.flt.regs Reg.FLT_COEF_SEL 1 0) : ∃ t, exec (.coefDataWrite a acc v) s = .next t ∧
      t.flt = Flt.coefStored v s.flt ∧ t.pageSeq Pg.FLT = s.pageSeq Pg.FLT + 1#32 ∧ s.SameBytes t := by
  have hr : (s.mode == .run) = false := by simpa using hm
  have hd : (s.at_ a).discards Reg.FLT_COEF_DATA 0 0 v = false := decide_eq_false (Nat.not_lt.mpr h2)
  have ht : coefRow.takes ((s.at_ a).mode == .run) v = true := by rw [takes_coefRow, at_mode, hr]; rfl
  have hwrite := writePlain_taken (s := s.at_ a) acc Reg.FLT_COEF_DATA 0 v h rfl (by decide) coefRow 0 rfl (by decide) (by decide) rfl (.inr hm)
    (by decide) hd ht
  obtain ⟨hflt, hhdr, hmem⟩ := written_ownCell (s.at_ a) (Reg.FLT_COEF_DATA / 0x400 + 0) (Reg.FLT_COEF_DATA / 0x400 + 0)
    (Reg.FLT_COEF_DATA % 0x400) 0 (reg := Reg.FLT_COEF_DATA) coefRow v (by decide)
  rw [actPlain_coefData] at hwrite
  generalize (s.at_ a).written _ _ _ _ _ _ _ = z at hwrite hflt hhdr hmem
  have hwork : Flt.coefWrite v z.flt = W.of (Flt.coefStored v s.flt) := by
    rw [hflt]
    exact coefWrite_loaded v h2
  rw [onFlt_of hwork] at hwrite
  refine ⟨_, congrArg Host.Outcome.next hwrite, releaseIdle_flt _, (releaseIdle_pageSeq ..).trans ?_, fun x => ?_⟩
  · unfold State.pageSeq
    dsimp only
    rw [hhdr]
    exact pageSeq_hdrSeq ..
  · rw [releaseIdle_mem, hmem]
    exact byte_strike ..

/-- COEF_DATA_WRITE outside RUN with a set selected that is not loaded: only its code is left (R71). -/
theorem coefDataWrite_fixed (a : At) (acc : Accessor) (v : Word) {s : State} (h : s.Admits acc Pg.FLT (Reg.FLT_COEF_DATA % 0x400))
    (hm : s.mode ≠ .run) (h2 : rfld s.flt.regs Reg.FLT_COEF_SEL 1 0 < 2) : ∃ t, exec (.coefDataWrite a acc v) s = .next t ∧
      t.flt = s.flt ∧ t.errCode Pg.FLT = 0x1302 := by
  have hr : (s.mode == .run) = false := by simpa using hm
  have hd : (s.at_ a).discards Reg.FLT_COEF_DATA 0 0 v = true := decide_eq_true h2
  have ht : coefRow.takes ((s.at_ a).mode == .run) v = true := by rw [takes_coefRow, at_mode, hr]; rfl
  have hwrite := writePlain_discarded (s := s.at_ a) acc Reg.FLT_COEF_DATA 0 v h rfl (by decide) coefRow 0 rfl (by decide) (by decide) rfl
    (.inr hm) (by decide) hd ht
  have hcode := onFlt_code (s := s.at_ a) (coefWrite_fixed v h2)
  refine ⟨_, congrArg Host.Outcome.next (hwrite.trans (congrArg State.releaseIdle hcode)), ?_, ?_⟩
  · rw [releaseIdle_flt, code_flt]
    rfl
  · unfold State.errCode
    rw [releaseIdle_pageErr _ _ (by decide) (by decide)]
    exact errCode_code _ _ _ _ (by decide)

/-- A write that reaches no field of its register, in RUN (R8): at most a code is recorded. -/
theorem rowWrite_locked {page off : Nat} {v : Word} {act : Nat → Nat → Word → State → State} {s : State} {r : RegRow}
    (hr : rowOf (homePage page off) off = some r) (ht : ∀ v, r.takes (s.mode == .run) v = false)
    (hc : (regOf (homePage page off) off).1 ≠ Reg.GNS_CH_CARR) (hd : (regOf (homePage page off) off).1 ≠ Reg.GNS_CH_CODE) :
    (s.rowWrite page off v act).1 = s ∨ (s.rowWrite page off v act).1 = s.code page 0x1001 [] := by
  have hn : ((regOf (homePage page off) off).1 == Reg.GNS_CH_CARR || (regOf (homePage page off) off).1 == Reg.GNS_CH_CODE) = false := by
    simp [hc, hd]
  unfold State.rowWrite
  extract_lets hp x run
  have ht' : ∀ v, r.takes run v = false := ht
  have hn' : (x.1 == Reg.GNS_CH_CARR || x.1 == Reg.GNS_CH_CODE) = false := hn
  rw [hr]
  dsimp only
  split
  · exact .inl rfl
  · simp only [ht', hn', Bool.false_and, Bool.false_or, Bool.false_eq_true, if_false]
    rw [apply_ite Prod.fst, ite_self]
    split
    · exact .inr rfl
    · exact .inl rfl

/-- COEF_DATA_WRITE in RUN: the register is locked. -/
theorem coefDataWrite_locked (a : At) (acc : Accessor) (v : Word) {s : State} (h : s.Admits acc Pg.FLT (Reg.FLT_COEF_DATA % 0x400))
    (hm : s.mode = .run) : ∃ t, exec (.coefDataWrite a acc v) s = .next t ∧ t.flt = s.flt := by
  have ht : ∀ v, coefRow.takes ((s.at_ a).mode == .run) v = false := fun v => by rw [takes_coefRow, at_mode, hm]; rfl
  refine ⟨_, congrArg Host.Outcome.next (writeNamed_admitted (s := s.at_ a) _ acc Reg.FLT_COEF_DATA 0 v h rfl (by decide)), ?_⟩
  rw [releaseIdle_flt]
  obtain hw | hw := rowWrite_locked (page := Reg.FLT_COEF_DATA / 0x400 + 0) (off := Reg.FLT_COEF_DATA % 0x400) (v := v)
    (act := fun n w old => State.actPlain Reg.FLT_COEF_DATA n w v old) (s := s.at_ a) (r := coefRow) (by decide) ht (by decide) (by decide)
  · rw [hw, at_flt]
  · rw [hw, code_flt, at_flt]

/-! ### Reads of registers -/

/-- A read of a register leaves FLT. -/
theorem readReg_flt (acc : Accessor) (page off width : Nat) (s : State) : (s.readReg acc page off width).1.flt = s.flt := by
  have heffect : ∀ t : State, (t.readEffect page off).flt = t.flt := fun t => by
    unfold State.readEffect
    dsimp only
    repeat' split
    all_goals rfl
  have hafter : (s.afterRead page off).flt = s.flt := by
    unfold State.afterRead
    dsimp only
    rw [heffect]
    split
    · exact flt_commit _ _ _ rfl
    · split
      · exact code_flt ..
      · rfl
  unfold State.readReg
  dsimp only
  split
  · rfl
  split
  · exact code_flt ..
  split
  · exact code_flt ..
  split
  · exact code_flt ..
  split
  · exact code_flt ..
  · exact hafter

/-- A read of a register through the map leaves FLT. -/
theorem readMem_flt {acc : Accessor} {addr n : Nat} {s : State} (hr : regionOfRange addr n = some .pages) :
    (s.readMem acc addr n).1.flt = s.flt := by
  unfold State.readMem
  dsimp only
  split
  · rfl
  · rw [hr]
    exact readReg_flt ..

/-- Settles O45: the three kinds of write by their own lemmas; a read of any register leaves FLT. -/
theorem coefficientWindowWrites : Obligations.CoefficientWindowWrites := by
  unfold Obligations.CoefficientWindowWrites
  refine ⟨fun a acc v set phase pair s h hset hphase hpair => ?_, fun a acc s => ?_⟩
  case refine_1 =>
    by_cases hm : s.mode = .run
    · obtain ⟨t, hx, hflt⟩ := coefDataWrite_locked a acc v h hm
      exact ⟨t, hx, fun hn => absurd hm hn, fun hn => absurd hm hn, fun _ => ⟨by rw [hflt], by rw [hflt]⟩⟩
    by_cases h2 : set < 2
    · obtain ⟨t, hx, hflt, hcode⟩ := coefDataWrite_fixed a acc v h hm (hset ▸ h2)
      exact ⟨t, hx, fun _ hn => absurd h2 (Nat.not_lt.mpr hn), fun _ _ => ⟨by rw [hflt], by rw [hflt], hcode⟩, fun hn => absurd hn hm⟩
    · obtain ⟨t, hx, hflt, -, -⟩ := coefDataWrite_loaded a acc v h hm (hset ▸ Nat.not_lt.mp h2)
      have htaps := coefStored_taps v hset hphase hpair
      have htap : ∀ i, t.flt.tap set phase i = sget tapDefault t.flt.taps (512 * set + 16 * phase + i) := fun i => by
        unfold Flt.tap
        rw [if_neg (by omega), if_neg (by omega)]
      rw [← hflt] at htaps
      refine ⟨t, hx, fun _ _ => ⟨?_, ?_, fun k h0 h1 => ?_, hflt ▸ coefStored_window v hset hphase hpair⟩, fun _ hn => absurd hn h2,
        fun hn => absurd hn hm⟩
      · rw [htap, htaps, if_neg (by omega), if_pos rfl]
      · rw [htap, htaps, if_pos (by omega)]
      · rw [htaps, if_neg h1, if_neg h0]
  case refine_2 =>
    exact ⟨_, rfl, readMem_flt (s := s.at_ a) (by decide)⟩

end Sys2Proof.Proofs
end

section
/-! FLT's intake (R64–R66) and the START of a RESAMPLE (R77). -/

namespace Sys2Proof.Proofs

open Sys2Proof Sys2Proof.Machine

-- One proof after another: many at once wait for the kernel in threads of their own, which the check's memory limit does not hold.
set_option Elab.async false

/-! ## A sample at one stream (R65) -/

/-- A stream after one was set. -/
theorem stream_putStream (u : Flt) (k j : Nat) (st : Stream) : (u.putStream k st).stream j = if j = k then st else u.stream j := sget_sset ..

/-- A sample as it waits in a stream, with its delivery and effective instants. -/
def Flt.waiting (u : Flt) (x : Sample) (k : Nat) : Waiting :=
  ⟨x.stamp + 1000 * (rfld u.regs (rk Reg.FLT_S_DLV 0 k) 19 0 : Int), x.stamp - 1000 * (rfld u.regs (rk Reg.FLT_S_LAT 0 k) 19 0 : Int), x.value⟩

/-- Whether a sample comes after the take-in that it was due at. -/
def Flt.late (u : Flt) (x : Sample) (k : Nat) : Bool :=
  match (u.stream k).lastTake with
  | some t => decide ((Flt.waiting u x k).due ≤ t)
  | none => false

/-- FLT with a late sample dropped. -/
def Flt.dropLate (k : Nat) (u : Flt) : Flt :=
  (u.putStream k { u.stream k with drops := satInc 16 (u.stream k).drops }).count Reg.FLT_CNT_LATE

/-- FLT with a sample waiting in a stream. -/
def Flt.addWaiting (x : Sample) (k : Nat) (u : Flt) : Flt :=
  u.putStream k { u.stream k with wait := insertWaiting (u.stream k).wait (Flt.waiting u x k) }

/-- A sample within the intake rate, which only the rate's own count notes beside its stream. -/
theorem arriveAt_withinRate (now : Int) (x : Sample) (k : Nat) {u : Flt} (hr : u.inRate < 1000000) :
    ∃ sec n, Flt.arriveAt now x (W.of u) k =
      if Flt.late u x k then
        ((W.of (Flt.dropLate k { u with second := sec, inRate := n })).evt Pg.FLT 2).code Pg.FLT 0x1316 [wd k]
      else W.of (Flt.addWaiting x k { u with second := sec, inRate := n }) := by
  unfold Flt.arriveAt
  dsimp only [W.map, W.of]
  by_cases hs : Int.fdiv now 1000000000 = u.second
  · rw [if_pos hs, if_neg (Nat.not_le.mpr hr)]
    exact ⟨u.second, u.inRate + 1, rfl⟩
  · rw [if_neg hs, if_neg (by simp)]
    exact ⟨Int.fdiv now 1000000000, 0 + 1, rfl⟩

theorem stream_count (u : Flt) (r k : Nat) : (u.count r).stream k = u.stream k := rfl

theorem stream_dropLate (u : Flt) (k j : Nat) :
    (Flt.dropLate k u).stream j = if j = k then { u.stream k with drops := satInc 16 (u.stream k).drops } else u.stream j := by
  unfold Flt.dropLate
  rw [stream_count, stream_putStream]

theorem stream_addWaiting (x : Sample) (u : Flt) (k j : Nat) : (Flt.addWaiting x k u).stream j =
    if j = k then { u.stream k with wait := insertWaiting (u.stream k).wait (Flt.waiting u x k) } else u.stream j :=
  stream_putStream ..

/-! ## SAMPLE_ARRIVAL (R64, R66) -/

/-- What becomes of what work and its intakes ask for: flags, codes, snapshots and frames. -/
def State.reports (x : State × Fx) : State :=
  let t := ((x.1.flags x.2.evts).recordAll x.2.codes).snapTriggers x.2.snaps x.2.codes
  { t with outbox := x.2.emits.reverse ++ t.outbox }

theorem reports_congr {x y : State × Fx} (h : x.1 = y.1) (hc : x.2.codes = y.2.codes) (he : x.2.evts = y.2.evts) (hs : x.2.snaps = y.2.snaps)
    (hm : x.2.emits = y.2.emits) : State.reports x = State.reports y := by
  unfold State.reports
  rw [h, hc, he, hs, hm]

/-- Work that delivers no packet, its samples taken without triggers: what is left is to report. -/
theorem commit_reports {fx : Fx} {st : List Store} {s : State} {x : State × Fx} (hp : fx.pushes = [])
    (hx : fx.samples.foldl State.takeSample (State.absorb (fun (u : State) _ => u) ⟨s, fx, st⟩ (s, Fx.none)) = x) (ht : x.2.triggers = []) :
    s.commit fx st = State.reports x := by
  have h : x.2.triggers.foldl State.takeTrigger x = x := by rw [ht]; rfl
  unfold State.commit
  extract_lets x0 x1 x2
  have h2 : x2 = x := by rw [show x2 = fx.pushes.foldl State.takePacket x1 from rfl, hp]; exact hx
  show State.reports (x2.2.triggers.foldl State.takeTrigger x2) = _
  rw [h2, h]

/-- A sample delivered while FLT works is FLT's work, after the Chain's mirror entries have taken it (R268). -/
theorem commit_sample {x : Sample} {s : State} (hi : s.islandUp 5 = true) (he : hdrEnabled s.hdr Pg.FLT = true)
    (hq : (Flt.arrive s.tim.time x (W.of s.flt)).Quiet) :
    s.commit { Fx.none with samples := [x] } [] =
      State.onFlt (fun u => Flt.arrive s.tim.time x (W.of u)) { s with chn := s.chn.mirrorSample x } := by
  obtain ⟨hsamples, hpushes, htriggers⟩ := hq
  have htake : State.takeSample (s, { Fx.none with samples := [x] }) x =
      State.absorb (fun u s => { s with flt := u }) (Flt.arrive s.tim.time x (W.of s.flt))
        ({ s with chn := s.chn.mirrorSample x }, { Fx.none with samples := [x] }) :=
    if_pos (by rw [Bool.and_eq_true]; exact ⟨hi, he⟩)
  rw [commit_reports (fx := { Fx.none with samples := [x] }) (st := []) (s := s) rfl htake htriggers, State.onFlt]
  dsimp only
  generalize Flt.arrive s.tim.time x (W.of s.flt) = w at *
  rw [commit_reports hpushes (by rw [hsamples, List.foldl_nil]) htriggers]
  exact reports_congr rfl rfl rfl rfl rfl

/-- FLT after work that raises a flag and records a code. -/
theorem onFlt_evtCode {f : Flt → W Flt} {s : State} {u : Flt} {flag code : Nat} {l : List Word}
    (h : f s.flt = ((W.of u).evt Pg.FLT flag).code Pg.FLT code l) (hc : code < 0x10000) :
    (s.onFlt f).flt = u ∧ (s.onFlt f).errCode Pg.FLT = code := by
  unfold State.onFlt
  rw [h]
  exact ⟨flt_commit _ _ _ rfl, (errCode_commit _ _ Pg.FLT ⟨Pg.FLT, code, l, false⟩ (by decide) rfl rfl rfl rfl
    (by simp [W.code, W.evt, W.of, Fx.none, sortCodes, insertCode])).trans (Nat.mod_eq_of_lt hc)⟩

/-- A sample that one stream takes comes to that stream alone. -/
theorem arrive_oneTaker (now : Int) {x : Sample} {k : Nat} {u : Flt} (h : u.takers x = [k]) :
    Flt.arrive now x (W.of u) = Flt.arriveAt now x (W.of u) k := by
  unfold Flt.arrive
  rw [u_of, h]
  rfl

/-- SAMPLE_ARRIVAL of a sample that one stream takes, within the intake rate: dropped with its code when late, taken in otherwise. -/
theorem sampleArrival_runs (a : At) {x : Sample} {k : Nat} {s : State} (hi : s.islandUp 5 = true) (he : hdrEnabled s.hdr Pg.FLT = true)
    (ht : s.flt.takers x = [k]) (hr : s.flt.inRate < 1000000) :
    ∃ t sec n, exec (.sampleArrival a x.unit x.sel x.stamp x.value) s = .next t ∧ (s.at_ a).SameShell t ∧ s.SameBytes t ∧
      (Flt.late s.flt x k = false → t.flt = Flt.addWaiting x k { s.flt with second := sec, inRate := n }) ∧
      (Flt.late s.flt x k = true → t.flt = Flt.dropLate k { s.flt with second := sec, inRate := n } ∧ t.errCode Pg.FLT = 0x1316) := by
  obtain ⟨sec, n, hwork⟩ := arriveAt_withinRate (s.at_ a).tim.time x k hr
  rw [← arrive_oneTaker _ ht] at hwork
  refine ⟨(s.at_ a).commit { Fx.none with samples := [x] } [], sec, n, rfl, shell_commit .., fun b => bytes_commit _ _ _ b, fun hl => ?_,
    fun hl => ?_⟩
  case refine_1 =>
    rw [hl, if_neg (by decide)] at hwork
    rw [commit_sample (s := s.at_ a) hi he (hwork ▸ quiet_of _), onFlt_of hwork]
  case refine_2 =>
    rw [hl, if_pos rfl] at hwork
    rw [commit_sample (s := s.at_ a) hi he (hwork ▸ ((quiet_of _).evt _ _).code _ _ _)]
    exact onFlt_evtCode hwork (by decide)

/-! ## RESAMPLE (R77) -/

theorem quiet_times (n r flag code k : Nat) {w : W Flt} (h : w.Quiet) : (Flt.times n r flag code k w).Quiet :=
  quiet_foldl _ (fun _ _ hv => ((hv.map _).evt _ _).code _ _ _) _ _ h

theorem st_times (n r flag code k : Nat) (w : W Flt) : (Flt.times n r flag code k w).st = w.st :=
  st_foldl _ (by intro _ _; rfl) _ _

/-- The work on one slot delivers nothing. -/
theorem quiet_slot (m : Mem) (takeIn rep : Int) {w : W Flt} (k : Nat) (h : w.Quiet) : (Flt.slot m takeIn rep w k).Quiet := by
  unfold Flt.slot
  refine W.Quiet.when (quiet_times _ _ _ _ _ (quiet_times _ _ _ _ _ (quiet_times _ _ _ _ _ ?_))) (fun _ hv => (hv.evt _ _).code _ _ _)
  exact (((h.map _).readN _ _ _ _).when (fun _ hv => (hv.heal _ _).evt _ _)).when (fun _ hv => hv.code _ _ _)

/-- The work on one slot stores nothing. -/
theorem st_slot (m : Mem) (takeIn rep : Int) (w : W Flt) (k : Nat) : (Flt.slot m takeIn rep w k).st = w.st := by
  unfold Flt.slot
  dsimp only
  rw [st_when, st_times, st_times, st_times, st_when, st_when, st_readN, st_map]
  all_goals exact fun _ => rfl

/-- The records of slots 0 to n − 1 of the run in progress (R77). -/
def Flt.records (u : Flt) (n : Nat) : List Byte := (upto n).flatMap u.workRecord

/-- A RESAMPLE delivers nothing, stores the records of the slots that fit and nothing else, and shows the number of slots. -/
theorem resample_work (m : Mem) (startUs : Int) (dst dstLen : Nat) (u : Flt) :
    let w := Flt.resample m startUs dst dstLen u
    w.Quiet ∧ w.st = [⟨Pg.FLT, dst, Flt.records w.u (min u.slots (4 * dstLen)), false⟩] ∧ rget w.u.regs Reg.FLT_SLOTS = wd u.slots := by
  unfold Flt.resample
  extract_lets takeIn rep n w0 fit w1 w2
  have hquiet : w0.Quiet := quiet_foldl _ (fun _ k hv => quiet_slot _ _ _ k hv) _ _ (quiet_of u)
  have hst : w0.st = [] := st_foldl _ (fun v k => st_slot _ _ _ v k) _ (W.of u)
  have hst2 : w2.st = [] := (st_when _ _ _ (by intro _; rfl)).trans hst
  have hu2 : w2.u = w1.u := u_when (g := id) (by intro _; rfl) _ _
  refine ⟨((hquiet.map _).when (fun _ hv => hv.code _ _ _)).store _ _ _, ?_, ?_⟩
  · rw [st_store, hst2]
    rfl
  · rw [u_store, hu2]
    exact (rget_rset ..).trans ((if_neg (by decide)).trans ((rget_rset ..).trans (if_pos rfl)))

/-- FLT put back after its work under a span. -/
def putFlt (u : Flt) (s : State) : State := { s with flt := u }

/-- FLT after a START whose work is FLT's and delivers no sample. -/
theorem startSpan_flt {s : State} {idx : Nat} {x : Span} (h : s.Starts idx x) (ok : Span → Bool) (hok : ok x = true)
    (F : Span → SpanIn → State → R Flt) (hq : (F x (s.handed idx x) (s.begun idx)).w.fx.samples = []) :
    (s.startSpan idx ok false (fun x i z => z.ran putFlt (F x i z))).flt = (F x (s.handed idx x) (s.begun idx)).w.u := by
  rw [startSpan_ran h ok hok putFlt (fun _ _ => ⟨rfl, rfl⟩) F]
  generalize F x (s.handed idx x) (s.begun idx) = r at *
  dsimp only
  rw [flt_commit _ _ _ hq]
  rfl

/-- The work of a RESAMPLE on what its START hands it. -/
def resampleWork (_ : Span) (i : SpanIn) (s : State) : R Flt := R.good (Flt.resample i.mem i.startUs i.dst i.dstLen s.flt)

/-- The START of a RESAMPLE: the answer of its work, its records stored, and the rest of the module as it was. -/
theorem resample_runs {a : At} {idx : Nat} {x : Span} {s : State} (h : (s.at_ a).Starts idx x) (hu : x.unit = 0x14) (ho : x.opcode = 1) :
    ∃ t, exec (.resample a idx) s = .next t ∧
      (s.at_ a).Answered t idx x (resampleWork x ((s.at_ a).handed idx x) ((s.at_ a).begun idx)) ∧
      t.flt = (resampleWork x ((s.at_ a).handed idx x) ((s.at_ a).begun idx)).w.u ∧
      t.shell = { (s.at_ a).shell with
        seq := s.seq.started idx x true none
        free := s.free + 1 } := by
  have hok : Span.isOp 0x14 1 x = true := by
    unfold Span.isOp
    rw [hu, ho]
    rfl
  obtain ⟨ha, hshell⟩ := startSpan_answers h (Span.isOp 0x14 1) hok putFlt (fun _ _ => ⟨rfl, rfl, rfl, rfl⟩) resampleWork
  have ⟨⟨hsamples, _, _⟩, _, _⟩ := resample_work (s.at_ a).mem s.seq.startUs (s.hidden x.dst x.dstLen) x.dstLen s.flt
  have ⟨hseq, _, _⟩ := ha
  refine ⟨_, rfl, ha, startSpan_flt h _ hok resampleWork hsamples, hshell.trans ?_⟩
  rw [hseq]
  rfl

/-- Settles O14: a sample by what it becomes at its one stream, a RESAMPLE by what its work stores, the window as in O45. -/
theorem resamplerCommands : Obligations.ResamplerCommands := by
  unfold Obligations.ResamplerCommands
  refine ⟨fun a unit sel k stamp val s hi he ht hr => ?_, fun a idx x s hs hu ho => ?_, fun a acc v s h hm h2 => ?_⟩
  case refine_1 =>
    obtain ⟨t, sec, n, hx, hshell, hbytes, hin, hlate⟩ := sampleArrival_runs (x := ⟨unit, sel, stamp, val⟩) a hi he ht hr
    refine ⟨t, hx, fun hl => ?_, fun hl => ?_, fun j hj => ?_, hshell, hbytes⟩
    · rw [hin hl, stream_addWaiting, if_pos rfl]
      rfl
    · obtain ⟨hflt, hcode⟩ := hlate hl
      rw [hflt, stream_dropLate, if_pos rfl]
      exact ⟨rfl, hcode⟩
    · cases hl : Flt.late s.flt ⟨unit, sel, stamp, val⟩ k
      · rw [hin hl, stream_addWaiting, if_neg hj]
        rfl
      · rw [(hlate hl).1, stream_dropLate, if_neg hj]
        rfl
  case refine_2 =>
    obtain ⟨t, hx, ha, hflt, hshell⟩ := resample_runs hs hu ho
    obtain ⟨-, hst, hslots⟩ := resample_work (s.at_ a).mem s.seq.startUs (s.hidden x.dst x.dstLen) x.dstLen s.flt
    have hbytes : ∀ b, t.mem.byte b = ((s.at_ a).mem.store
        ⟨Pg.FLT, s.hidden x.dst x.dstLen, Flt.records t.flt (min s.flt.slots (4 * x.dstLen)), false⟩).byte b := fun b => by
      have ⟨_, _, hstored⟩ := ha
      refine (hstored b).trans ?_
      rw [hflt]
      exact congrArg (fun l => ((s.at_ a).mem.stores l).byte b) hst
    refine ⟨t, hx, ha, hflt ▸ hslots, hshell, fun i hlen => ?_, fun b hb => ?_⟩
    · exact (hbytes _).trans (byte_store_inside _ _ i hlen)
    · exact (hbytes b).trans (byte_store_outside _ _ b hb)
  case refine_3 =>
    obtain ⟨t, hx, hflt, hseq, hbytes⟩ := coefDataWrite_loaded a acc v h hm h2
    have htaps := coefStored_taps v (u := s.flt) rfl rfl rfl
    rw [← hflt] at htaps
    refine ⟨t, hx, ?_, ?_, by rw [hflt]; rfl, hseq, hbytes⟩
    · rw [htaps, if_neg (by omega), if_pos rfl]
    · rw [htaps, if_pos rfl]

end Sys2Proof.Proofs
end

section
/-! EST: the START of an ESTIMATE (R83, R92), and the requests of ADMIT, WITHDRAW and REINIT (R98, R102). -/

namespace Sys2Proof.Proofs

open Sys2Proof Sys2Proof.Machine

-- One proof after another: many at once wait for the kernel in threads of their own, which the check's memory limit does not hold.
set_option Elab.async false

/-! ## The work of an ESTIMATE (R83, R92) -/

/-- EST with EST_STAT.MISS at 1. -/
def Est.missed (u : Est) : Est := { u with regs := rmod u.regs Reg.EST_STAT (fun x => putBit x 3 true) }

theorem rbit_missed (u : Est) : rbit (Est.missed u).regs Reg.EST_STAT 3 = true := by
  simp [Est.missed, rbit, putBit, bit]

/-- A range of sound blocks holds no poisoned one. -/
theorem anyBad_sound {m : Mem} (h : ∀ b, m.isBad b = false) (a n : Nat) : m.anyBad a n = false := by
  induction n generalizing a with
  | zero => rfl
  | succ n ih => rw [Mem.anyBad, h, ih]; rfl

section
variable {flt : RMap} {slots : Nat} {i : SpanIn} {u : Est}

/-- Operands too short: no result, MISS and its code, and nothing stored (R83). -/
theorem estimate_short (h : 4 * i.srcLen < slots ∨ i.dstLen < 9) :
    Est.estimate flt slots i u = R.bad (((W.of (Est.missed u)).evt Pg.EST 0).code Pg.EST 0x2402 []) := if_pos h

/-- What every fathom of estimation shows of itself: that one has run, and the number of the fathom it was for. -/
theorem fathom_shows (thr : List Int) (w : W (Est × EstData)) :
    (Est.fathom flt i thr w).u.1.ran = true ∧ rget (Est.fathom flt i thr w).u.1.regs Reg.EST_IN_FNO = wd i.fno := by
  unfold Est.fathom
  extract_lets
  exact ⟨rfl, (rget_rset ..).trans (if_pos rfl)⟩

/-- Operands long enough and every input sound: the result of a fathom of estimation, whose data are kept for the publication (R92). -/
theorem estimate_sound (hs : slots ≤ 4 * i.srcLen) (hd : 9 ≤ i.dstLen) (hm : ∀ b, i.mem.isBad b = false) : ∃ thr fx st,
    let w := Est.fathom flt i thr ⟨(u, u.data), fx, st⟩
    Est.estimate flt slots i u = R.good ⟨{ w.u.1 with work := some w.u.2 }, w.fx, w.st⟩ := by
  have hlong : ¬ (4 * i.srcLen < slots ∨ i.dstLen < 9) := by omega
  unfold Est.estimate
  extract_lets cells blk thrAt model nModel bb w0 w1 w2 w3 bad
  have hbad : ¬ bad = true := by simp only [bad, anyBad_sound hm, Bool.and_false, Bool.or_self, Bool.false_eq_true, not_false_eq_true]
  exact ⟨_, w3.fx, w3.st, (if_neg hlong).trans (if_neg hbad)⟩

end

/-! ## ESTIMATE -/

/-- EST put back after its work under a span. -/
def putEst (u : Est) (s : State) : State := { s with est := u }

/-- The work of an ESTIMATE on what its START hands it. -/
def estimateWork (_ : Span) (i : SpanIn) (s : State) : R Est := Est.estimate s.flt.regs s.flt.slots i s.est

theorem isOp_estimate {x : Span} (hu : x.unit = 0x11) (ho : x.opcode = 1) : Span.isOp 0x11 1 x = true := by
  unfold Span.isOp
  rw [hu, ho]
  rfl

/-- EST and the codes after a START whose work is EST's. -/
theorem startSpan_est {s : State} {idx : Nat} {x : Span} (h : s.Starts idx x) (ok : Span → Bool) (hok : ok x = true)
    (F : Span → SpanIn → State → R Est) :
    let r := F x (s.handed idx x) (s.begun idx)
    let t := s.startSpan idx ok false (fun x i z => z.ran putEst (F x i z))
    t.est = r.w.u ∧ ∀ q, t.errCode q = ((putEst r.w.u (s.begun idx)).commit r.w.fx r.w.st).errCode q := by
  dsimp only
  rw [startSpan_ran h ok hok putEst (fun _ _ => ⟨rfl, rfl⟩) F]
  generalize F x (s.handed idx x) (s.begun idx) = r
  have hest : ((putEst r.w.u (s.begun idx)).commit r.w.fx r.w.st).est = r.w.u := commit_est _ _ _
  generalize (putEst r.w.u (s.begun idx)).commit r.w.fx r.w.st = z at hest
  exact ⟨hest, fun _ => rfl⟩

/-- The START of an ESTIMATE: the answer of its work, EST and the codes as the work leaves them, and the rest of the module as it was. -/
theorem estimate_runs {a : At} {idx : Nat} {x : Span} {s : State} {r : R Est} (h : (s.at_ a).Starts idx x) (hu : x.unit = 0x11)
    (ho : x.opcode = 1) (hr : Est.estimate s.flt.regs s.flt.slots ((s.at_ a).handed idx x) s.est = r) :
    ∃ t, exec (.estimate a idx) s = .next t ∧ (s.at_ a).Answered t idx x r ∧ t.est = r.w.u ∧
      (∀ q, t.errCode q = ((putEst r.w.u ((s.at_ a).begun idx)).commit r.w.fx r.w.st).errCode q) ∧
      t.shell = { (s.at_ a).shell with
        seq := t.seq
        est := t.est
        free := s.free + 1 } := by
  have hr' : estimateWork x ((s.at_ a).handed idx x) ((s.at_ a).begun idx) = r := hr
  have hok := isOp_estimate hu ho
  obtain ⟨hest, hcodes⟩ := startSpan_est h (Span.isOp 0x11 1) hok estimateWork
  obtain ⟨ha, hshell⟩ := startSpan_answers h (Span.isOp 0x11 1) hok putEst (fun _ _ => ⟨rfl, rfl, rfl, rfl⟩) estimateWork
  rw [hr'] at hest hcodes ha hshell
  refine ⟨_, rfl, ha, hest, hcodes, hshell.trans ?_⟩
  rw [← hest]
  rfl

/-! ## Writes of EST's registers -/

/-- A register of EST with its row, none of whose fields is locked in RUN. -/
structure IsEstRow (reg : Nat) (r : RegRow) : Prop where
  page : reg / 0x400 = Pg.EST
  aligned : reg % 4 = 0
  own : 0x40 ≤ reg % 0x400
  row : rowOf Pg.EST (reg % 0x400) = some r
  named : regOf Pg.EST (reg % 0x400) = (reg, 0)
  cell : ownCell reg = false
  unlocked : r.rwl = 0

/-- A taken write of a register of EST: its cell, PAGE_SEQ, and no byte. -/
theorem written_est (s : State) (off w reg : Nat) (r : RegRow) (v : Word) (h : ownCell reg = false) (hl : r.rwl = 0) :
    let t := s.written Pg.EST Pg.EST off w reg r v
    (∃ m, t.est = { s.est with regs := m }) ∧ t.hdr = hdrSeq s.hdr Pg.EST ∧ t.mem = s.mem := by
  unfold State.written
  dsimp only
  rw [h, hl]
  exact ⟨⟨_, rfl⟩, rfl, rfl⟩

/-- A taken write of a register of EST whose own effect is a change of EST: EST, PAGE_SEQ (R435) and memory after it. -/
theorem writeEst_taken (acc : Accessor) {reg w : Nat} {v : Word} {s : State} {r : RegRow} {f : Est → Est} (hreg : IsEstRow reg r)
    (h : s.Admits acc Pg.EST (reg % 0x400)) (hw : s.windowOf Pg.EST r = some w) (hd : s.discards reg 0 w v = false)
    (ht : r.takes (s.mode == .run) v = true) (hf : ∀ old t, State.actPlain reg 0 w v old t = { t with est := f t.est }) :
    let x := s.writePlain acc reg 0 v
    (∃ m, x.est = f { s.est with regs := m }) ∧ x.pageSeq Pg.EST = s.pageSeq Pg.EST + 1#32 ∧ x.mem = s.mem := by
  obtain ⟨hpage, h4, h40, hrow, hcell, hown, hrwl⟩ := hreg
  have hp : reg / 0x400 + 0 = Pg.EST := hpage
  have hh : homePage Pg.EST (reg % 0x400) = Pg.EST := if_neg (fun c => absurd c.1 (by decide))
  have hg : reg ≠ Reg.GNS_CH_CFG := fun c => absurd (c ▸ hpage) (by decide)
  obtain ⟨⟨m, hest⟩, hhdr, hmem⟩ := written_est s (reg % 0x400) w reg r v hown hrwl
  dsimp only
  rw [writePlain_taken acc reg 0 v s (hp ▸ h) h4 h40 r w (by rw [hp, hh]) (by rw [hp]; exact hrow) (by rw [hp]; exact hcell)
    (by rw [hp]; exact hw) (.inl hrwl) hg hd ht, hp, hf]
  refine ⟨⟨m, ?_⟩, ?_, ?_⟩
  · rw [releaseIdle_est]
    exact congrArg f hest
  · rw [releaseIdle_pageSeq]
    unfold State.pageSeq
    dsimp only
    rw [hhdr, pageSeq_hdrSeq]
  · rw [releaseIdle_mem]
    exact hmem

/-! ## The requests (R98, R102) -/

/-- EST_R_CTRL's row: ADMIT and WITHDRAW act when written with 1, for the slot of EST_SEL. -/
abbrev slotCtrlRow : RegRow := ⟨Reg.EST_R_CTRL % 0x400, 0, 0, 0, 0, 0, 3, 0x6C, 18⟩

theorem isEstRow_slotCtrl : IsEstRow Reg.EST_R_CTRL slotCtrlRow := by constructor <;> decide

/-- EST_CTRL's row: REINIT acts when written with 1. -/
abbrev estCtrlRow : RegRow := ⟨Reg.EST_CTRL % 0x400, 0, 2, 0, 0, 0, 1, 0, 1⟩

theorem isEstRow_estCtrl : IsEstRow Reg.EST_CTRL estCtrlRow := by constructor <;> decide

/-- EST with the admission of slot k asked for. -/
def Est.askAdmit (k : Nat) (u : Est) : Est := { u with admits := k :: u.admits.filter (· != k) }

/-- EST with the withdrawal of slot k asked for. -/
def Est.askWithdraw (k : Nat) (u : Est) : Est := { u with withdraw := k :: u.withdraw.filter (· != k) }

/-- EST with its initialisation asked for. -/
def Est.askReinit (u : Est) : Est := { u with reinit := true }

theorem actPlain_admit (k : Nat) (old : Word) (t : State) :
    State.actPlain Reg.EST_R_CTRL 0 k 1#32 old t = { t with est := Est.askAdmit k t.est } := rfl

theorem actPlain_withdraw (k : Nat) (old : Word) (t : State) :
    State.actPlain Reg.EST_R_CTRL 0 k 2#32 old t = { t with est := Est.askWithdraw k t.est } := rfl

theorem actPlain_reinit (v old : Word) (t : State) :
    State.actPlain Reg.EST_CTRL 0 0 (v ||| 1#32) old t = { t with est := Est.askReinit t.est } := by
  have h : bit (v ||| 1#32) 0 = true := by simp [bit]
  exact if_pos h

/-- The window of EST_R_CTRL is the slot that EST_SEL selects. -/
theorem windowOf_slotCtrl {s : State} {k : Nat} (hk : (rget s.est.regs Reg.EST_SEL).toNat = k) (h18 : k < 18) :
    s.windowOf Pg.EST slotCtrlRow = some k := by
  subst hk
  exact if_pos h18

/-- A taken write of EST_R_CTRL leaves the request f of the selected slot. -/
theorem slotCtrl_taken (acc : Accessor) {k : Nat} {v : Word} {s : State} {f : Est → Est} (h : s.Admits acc Pg.EST (Reg.EST_R_CTRL % 0x400))
    (hk : (rget s.est.regs Reg.EST_SEL).toNat = k) (h18 : k < 18) (ht : ∀ run, slotCtrlRow.takes run v = true)
    (hf : ∀ old t, State.actPlain Reg.EST_R_CTRL 0 k v old t = { t with est := f t.est }) :
    let x := s.writePlain acc Reg.EST_R_CTRL 0 v
    (∃ m, x.est = f { s.est with regs := m }) ∧ x.pageSeq Pg.EST = s.pageSeq Pg.EST + 1#32 ∧ x.mem = s.mem :=
  writeEst_taken acc isEstRow_slotCtrl h (windowOf_slotCtrl hk h18) rfl (ht _) hf

/-- A taken write of EST_CTRL with REINIT at 1 leaves that request. -/
theorem reinit_taken (acc : Accessor) (v : Word) {s : State} (h : s.Admits acc Pg.EST (Reg.EST_CTRL % 0x400)) :
    let x := s.writePlain acc Reg.EST_CTRL 0 (v ||| 1#32)
    (∃ m, x.est = Est.askReinit { s.est with regs := m }) ∧ x.pageSeq Pg.EST = s.pageSeq Pg.EST + 1#32 ∧ x.mem = s.mem :=
  writeEst_taken acc isEstRow_estCtrl h rfl rfl (by cases s.mode == .run <;> rfl) (actPlain_reinit v)

/-- The bytes after a command that leaves memory as its upsets struck it. -/
theorem sameBytes_of_mem {a : At} {s t : State} (h : t.mem = (s.at_ a).mem) : s.SameBytes t := fun x => by
  rw [h]
  exact byte_strike ..

/-- Settles O15: an ESTIMATE by what its work answers on short operands and on sound ones, each request by the write that leaves it. -/
theorem estimatorCommands : Obligations.EstimatorCommands := by
  unfold Obligations.EstimatorCommands
  refine ⟨fun a idx x s hs hu ho hshort => ?_, fun a idx x s hs hu ho hlen hdst hm => ?_, fun a acc k s h hk h18 => ?_,
    fun a acc k s h hk h18 => ?_, fun a acc s h => ?_⟩
  case refine_1 =>
    obtain ⟨t, hx, ⟨hseq, -, hbytes⟩, hest, hcodes, -⟩ := estimate_runs hs hu ho (estimate_short hshort)
    refine ⟨t, hx, hseq, (hcodes _).trans ?_, ?_, ?_, ?_, fun b => (hbytes b).trans (byte_strike ..)⟩
    · exact errCode_commit _ _ Pg.EST ⟨Pg.EST, 0x2402, [], false⟩ (by decide) rfl rfl rfl rfl rfl
    · rw [hest]
      exact rbit_missed s.est
    · rw [hest]
      rfl
    · rw [hest]
      rfl
  case refine_2 =>
    obtain ⟨thr, fx, st, hr⟩ := estimate_sound (flt := s.flt.regs) (u := s.est) (i := (s.at_ a).handed idx x) hlen hdst hm
    obtain ⟨hran, hfno⟩ := fathom_shows (flt := s.flt.regs) (i := (s.at_ a).handed idx x) thr ⟨(s.est, s.est.data), fx, st⟩
    obtain ⟨t, hx, ha, hest, -, hshell⟩ := estimate_runs hs hu ho hr
    have ⟨hseq, _, _⟩ := ha
    exact ⟨t, hx, hr ▸ ha, hseq, hest ▸ hran, hest ▸ rfl, hest ▸ hfno, hshell.trans (by rw [hseq]; rfl)⟩
  case refine_3 =>
    obtain ⟨⟨m, hest⟩, hseq, hmem⟩ := slotCtrl_taken (s := s.at_ a) acc h hk h18 (by decide) (actPlain_admit k)
    exact ⟨_, rfl, (congrArg Est.admits hest :), (congrArg Est.withdraw hest :), (congrArg Est.data hest :), hseq, sameBytes_of_mem hmem⟩
  case refine_4 =>
    obtain ⟨⟨m, hest⟩, hseq, hmem⟩ := slotCtrl_taken (s := s.at_ a) acc h hk h18 (by decide) (actPlain_withdraw k)
    exact ⟨_, rfl, (congrArg Est.withdraw hest :), (congrArg Est.admits hest :), (congrArg Est.data hest :), hseq, sameBytes_of_mem hmem⟩
  case refine_5 =>
    obtain ⟨⟨m, hest⟩, hseq, hmem⟩ := reinit_taken (s := s.at_ a) acc (rget s.est.regs Reg.EST_CTRL) h
    exact ⟨_, rfl, (congrArg Est.reinit hest :), (congrArg Est.data hest :), hseq, sameBytes_of_mem hmem⟩

end Sys2Proof.Proofs
end

section
/-! FUS's point datagrams (R107–R109): their sequence numbers, and the enabling of a scanner slot. -/

namespace Sys2Proof.Proofs

open Sys2Proof Sys2Proof.Machine

-- One proof after another: many at once wait for the kernel in threads of their own, which the check's memory limit does not hold.
set_option Elab.async false

/-! ## How far a datagram lies ahead of the last one accepted (R108) -/

/-- The number that n bytes spell is below 256^n. -/
theorem beNat_lt (l : List Byte) : beNat l < 256 ^ l.length := by
  induction l using List.reverseRecOn with
  | nil => decide
  | append_singleton l b ih =>
    have hb := b.isLt
    unfold beNat at *
    rw [List.foldl_append, List.length_append, List.length_singleton, Nat.pow_succ, List.foldl_cons, List.foldl_nil]
    omega

/-- DSEQ of a datagram (R106). -/
def pdSeq (d : List Byte) : Nat := beNat (sliceB d 20 4)

theorem pdSeq_lt (d : List Byte) : pdSeq d < 4294967296 :=
  (beNat_lt _).trans_le (Nat.pow_le_pow_right (by decide) (List.length_take_le ..) : _ ≤ 256 ^ 4)

/-- The g of R108 for slot k: how far DSEQ lies ahead of the last one accepted, and 1 for the first datagram. -/
def Fus.gap (u : Fus) (k : Nat) (d : List Byte) : Nat :=
  match u.last.find? (fun e => e.1 == k) with
  | some e => (pdSeq d + 4294967296 - e.2) % 4294967296
  | none => 1

/-- The points accepted in receive fathom f so far (R109). -/
def Fus.ptsIn (u : Fus) (f : Nat) : Nat := if u.rateFno = f then u.ratePts else 0

/-- FUS as it counts the points of receive fathom f. -/
def Fus.inFathom (f : Nat) (u : Fus) : Fus :=
  if u.rateFno = f then u else { u with rateFno := f, ratePts := 0, rateRec := false }

/-- FUS with a datagram accepted for slot k. -/
def Fus.accept (k : Nat) (stamp : Int) (d : List Byte) (u : Fus) : Fus :=
  { (u.setR (rk Reg.FUS0_SC_DSEQ 0 k) (wd (pdSeq d))) with
    ratePts := u.ratePts + pdCount d
    last := (k, pdSeq d) :: u.last.filter (fun e => e.1 != k)
    pool := u.pool ++ [⟨k, stamp, sliceB d 28 (8 * pdCount d)⟩] }

/-- A gap of g of slot k counted in GAPS and recorded. -/
def Fus.noteGap (k g : Nat) (w : W Fus) : W Fus :=
  ((w.map (fun u => u.mod (rk Reg.FUS0_SC_CNT 0 k) (fun x => putBits x 31 16 (min (bits x 31 16 + g - 1) 0xFFFF)))).evt Pg.FUS0 2).code
    Pg.FUS0 0x1512 [wd k]

/-- What only the points of a fathom change. -/
theorem inFathom_eq (f : Nat) (u : Fus) :
    ∃ b, Fus.inFathom f u = { u with rateFno := f, ratePts := Fus.ptsIn u f, rateRec := b } := by
  unfold Fus.inFathom Fus.ptsIn
  by_cases h : u.rateFno = f
  · subst h
    exact ⟨u.rateRec, by simp⟩
  · exact ⟨false, by simp [h]⟩

section
variable {u : Fus} {k f lenUs : Nat} {stamp : Int} {d : List Byte}

theorem gap_first (h : u.last.find? (fun e => e.1 == k) = none) : Fus.gap u k d = 1 := by
  unfold Fus.gap
  rw [h]

theorem gap_after {last : Nat} (hl : last < 4294967296) (h : u.last.find? (fun e => e.1 == k) = some (k, last)) :
    (Fus.gap u k d : Int) = ((pdSeq d : Int) - (last : Int)) % 4294967296 := by
  unfold Fus.gap
  rw [h]
  dsimp only
  omega

/-- A datagram that is a duplicate or out of order is counted and recorded, and nothing of it is kept. -/
theorem take_discards (h : Fus.gap u k d = 0 ∨ 2147483648 ≤ Fus.gap u k d) : Fus.take k f lenUs stamp d (W.of u) =
    ((Fus.discard 5 (W.of u)).map (fun u => u.mod (rk Reg.FUS0_SC_CNT 0 k) (fun x => incSatField x 15 0)), false) := if_pos h

/-- A datagram ahead of the last one, within the point allowance, is accepted, its gap noted. -/
theorem take_accepts (h1 : 1 ≤ Fus.gap u k d) (h2 : Fus.gap u k d < 2147483648)
    (hp : Fus.ptsIn u f + pdCount d ≤ pointAllowance lenUs) : Fus.take k f lenUs stamp d (W.of u) =
      ((W.of (Fus.accept k stamp d (Fus.inFathom f u))).when (decide (2 ≤ Fus.gap u k d)) (Fus.noteGap k (Fus.gap u k d)), true) := by
  have hg : ¬ (Fus.gap u k d = 0 ∨ 2147483648 ≤ Fus.gap u k d) := by omega
  have hf : ¬ pointAllowance lenUs < (Fus.inFathom f u).ratePts + pdCount d := by
    obtain ⟨b, hb⟩ := inFathom_eq f u
    rw [hb]
    exact Nat.not_lt.mpr hp
  exact (if_neg hg).trans (if_neg hf)

end

/-- The last DSEQ of a slot after a datagram was accepted for it. -/
theorem last_accept (k : Nat) (stamp : Int) (d : List Byte) (u : Fus) (c : Bool) (g : Nat) :
    ((W.of (Fus.accept k stamp d u)).when c (Fus.noteGap k g)).u.last.find? (fun e => e.1 == k) = some (k, pdSeq d) := by
  rw [u_when (g := Fus.last) (f := Fus.noteGap k g) (fun _ => rfl)]
  exact List.find?_cons_of_pos (beq_self_eq_true k)

/-- GAPS after a gap of g, noted from 2 on. -/
theorem gaps_noted {k g : Nat} (w : W Fus) (hg : 1 ≤ g) :
    rfld (w.when (decide (2 ≤ g)) (Fus.noteGap k g)).u.regs (rk Reg.FUS0_SC_CNT 0 k) 31 16 =
      min (rfld w.u.regs (rk Reg.FUS0_SC_CNT 0 k) 31 16 + (g - 1)) 65535 := by
  have hlt : rfld w.u.regs (rk Reg.FUS0_SC_CNT 0 k) 31 16 < 65536 := Nat.mod_lt _ (by decide)
  by_cases h : 2 ≤ g
  · have hregs : (w.when (decide (2 ≤ g)) (Fus.noteGap k g)).u.regs = rmod w.u.regs (rk Reg.FUS0_SC_CNT 0 k)
        (fun x => putBits x 31 16 (min (bits x 31 16 + g - 1) 0xFFFF)) := by
      rw [W.when, if_pos (decide_eq_true h)]
      rfl
    rw [hregs, rfld, rget_rmod, if_pos rfl, bits_putBits_same _ _ (by decide) (by decide), ← rfld]
    generalize rfld w.u.regs (rk Reg.FUS0_SC_CNT 0 k) 31 16 = n
    rw [Nat.add_sub_assoc hg, Nat.mod_eq_of_lt ((min_le_right _ _).trans_lt (by decide))]
  · have h1 : g - 1 = 0 := by omega
    rw [W.when, if_neg (by simpa using h), h1]
    exact (min_eq_left (Nat.le_of_lt_succ hlt)).symm

/-- Accepting a datagram leaves GAPS. -/
theorem gaps_accept (k f : Nat) (stamp : Int) (d : List Byte) (u : Fus) :
    rfld (Fus.accept k stamp d (Fus.inFathom f u)).regs (rk Reg.FUS0_SC_CNT 0 k) 31 16 = rfld u.regs (rk Reg.FUS0_SC_CNT 0 k) 31 16 := by
  obtain ⟨b, hb⟩ := inFathom_eq f u
  have hne : rk Reg.FUS0_SC_CNT 0 k ≠ rk Reg.FUS0_SC_DSEQ 0 k := by
    simp only [rk, Reg.FUS0_SC_CNT, Reg.FUS0_SC_DSEQ]
    omega
  rw [hb, rfld]
  exact congrArg (bits · 31 16) ((rget_rset ..).trans (if_neg hne))

/-! ## Writes of FUS's registers -/

/-- A register of one of FUS's pages with its row. -/
structure IsFusRow (page reg : Nat) (r : RegRow) : Prop where
  fus : page = Pg.FUS0 ∨ page = Pg.FUS1
  base : reg / 0x400 = page
  aligned : reg % 4 = 0
  own : 0x40 ≤ reg % 0x400
  row : rowOf page (reg % 0x400) = some r
  named : regOf page (reg % 0x400) = (reg, 0)
  cell : ownCell reg = false

/-- A taken write of a register of FUS: its cell, PAGE_SEQ, and no byte. -/
theorem written_fus (s : State) {page : Nat} (off w reg : Nat) (r : RegRow) (v : Word) (hp : page = Pg.FUS0 ∨ page = Pg.FUS1)
    (h : ownCell reg = false) :
    let t := s.written page page off w reg r v
    (∃ m, t.fus = { s.fus with regs := m }) ∧ t.hdr = hdrSeq s.hdr page ∧ t.mem = s.mem := by
  unfold State.written
  dsimp only
  rw [h]
  obtain rfl | rfl := hp <;> cases r.rwl != 0 && s.mode != .run <;> exact ⟨⟨_, rfl⟩, rfl, rfl⟩

/-- The cells of FUS's pages are FUS's. -/
theorem cells_fus (s : State) {page : Nat} (hp : page = Pg.FUS0 ∨ page = Pg.FUS1) : s.cells page = s.fus.regs := by
  obtain rfl | rfl := hp <;> rfl

/-- A taken write of a register of FUS whose own effect is a change of FUS: FUS, PAGE_SEQ (R435) and memory after it. -/
theorem writeFus_taken (acc : Accessor) {page reg w : Nat} {v : Word} {s : State} {r : RegRow} {f : Word → Fus → Fus}
    (hreg : IsFusRow page reg r) (h : s.Admits acc page (reg % 0x400)) (hw : s.windowOf page r = some w)
    (hl : r.rwl = 0 ∨ s.mode ≠ .run) (hd : s.discards reg 0 w v = false) (ht : r.takes (s.mode == .run) v = true)
    (hf : ∀ old t, State.actPlain reg 0 w v old t = { t with fus := f old t.fus }) :
    let x := s.writePlain acc reg 0 v
    (∃ m, x.fus = f (rget s.fus.regs (cellKey page (reg % 0x400) w)) { s.fus with regs := m }) ∧
      x.pageSeq page = s.pageSeq page + 1#32 ∧ x.mem = s.mem := by
  obtain ⟨hfus, hpage, h4, h40, hrow, hcell, hown⟩ := hreg
  have hp : reg / 0x400 + 0 = page := hpage
  have hh : homePage page (reg % 0x400) = page := if_neg (fun c => by obtain rfl | rfl := hfus <;> exact absurd c.1 (by decide))
  have hg : reg ≠ Reg.GNS_CH_CFG := fun c => by
    rw [c] at hpage
    obtain rfl | rfl := hfus <;> exact absurd hpage (by decide)
  obtain ⟨⟨m, hu⟩, hhdr, hmem⟩ := written_fus s (reg % 0x400) w reg r v hfus hown
  dsimp only
  rw [writePlain_taken acc reg 0 v s (hp ▸ h) h4 h40 r w (by rw [hp, hh]) (by rw [hp]; exact hrow) (by rw [hp]; exact hcell)
    (by rw [hp]; exact hw) hl hg hd ht, hp, hf, cells_fus s hfus]
  refine ⟨⟨m, ?_⟩, ?_, ?_⟩
  · rw [releaseIdle_fus]
    exact congrArg (f _) hu
  · rw [releaseIdle_pageSeq]
    unfold State.pageSeq
    dsimp only
    rw [hhdr, pageSeq_hdrSeq]
  · rw [releaseIdle_mem]
    exact hmem

/-! ## The enabling of a scanner slot (R108) -/

/-- FUS0_SC_CFG's row: locked in RUN, one window per scanner slot. -/
abbrev scanRow : RegRow := ⟨Reg.FUS0_SC_CFG % 0x400, 0x800, 0, 0xFFFF3F, 0, 0, 0, Reg.FUS0_SEL % 0x400, 6⟩

theorem isFusRow_scan : IsFusRow Pg.FUS0 Reg.FUS0_SC_CFG scanRow := by constructor <;> decide

/-- FUS after EN of slot k was written: the last DSEQ is forgotten when EN changed. -/
def Fus.enSlot (k : Nat) (v old : Word) (u : Fus) : Fus :=
  if bit v 0 != bit old 0 then { u with last := u.last.filter (fun x => x.1 != k) } else u

theorem actPlain_scan (k : Nat) (v old : Word) (t : State) :
    State.actPlain Reg.FUS0_SC_CFG 0 k v old t = { t with fus := Fus.enSlot k v old t.fus } := by
  show t.scanWrite k old v = _
  unfold State.scanWrite Fus.enSlot
  split <;> rfl

theorem last_forgotten (l : List (Nat × Nat)) (k : Nat) : (l.filter (fun x => x.1 != k)).find? (fun e => e.1 == k) = none := by
  rw [List.find?_eq_none]
  intro e he
  simpa using List.of_mem_filter he

/-- The window of FUS0_SC_CFG is the slot that FUS0_SEL selects. -/
theorem windowOf_scan {s : State} {k : Nat} (hk : (rget s.fus.regs Reg.FUS0_SEL).toNat = k) (h6 : k < 6) :
    s.windowOf Pg.FUS0 scanRow = some k := by
  subst hk
  exact if_pos h6

/-- A write of FUS0_SC_CFG that enables a slot forgets the last DSEQ of it. -/
theorem scanEnabled_forgets (acc : Accessor) {v : Word} {k : Nat} {s : State} (h : s.Admits acc Pg.FUS0 (Reg.FUS0_SC_CFG % 0x400))
    (hm : s.mode ≠ .run) (hk : (rget s.fus.regs Reg.FUS0_SEL).toNat = k) (h6 : k < 6)
    (ho : rbit s.fus.regs (rk Reg.FUS0_SC_CFG 0 k) 0 = false) (hv : bit v 0 = true) :
    (s.writePlain acc Reg.FUS0_SC_CFG 0 v).fus.last.find? (fun e => e.1 == k) = none := by
  have hr : (s.mode == .run) = false := by simpa using hm
  have hold : bit (rget s.fus.regs (cellKey Pg.FUS0 (Reg.FUS0_SC_CFG % 0x400) k)) 0 = false := ho
  obtain ⟨⟨m, hu⟩, -, -⟩ := writeFus_taken acc isFusRow_scan h (windowOf_scan hk h6) (.inr hm) rfl (by rw [hr]; rfl) (actPlain_scan k v)
  rw [hu, Fus.enSlot, hv, hold]
  exact last_forgotten _ k

/-- Settles O46: by g, which says whether a datagram is taken and what its gap is; the enabling of a slot by the write's own effect. -/
theorem datagramSequenceNumbers : Obligations.DatagramSequenceNumbers := by
  unfold Obligations.DatagramSequenceNumbers
  refine ⟨fun k f lenUs stamp d seq u hseq => ⟨fun hnone hfit => ?_, fun last g hlt hlast hg => ?_⟩,
    fun a acc v k s h hm hk h6 ho hv => ?_⟩
  case refine_1 =>
    have hgap := gap_first (d := d) hnone
    rw [take_accepts hgap.ge (hgap ▸ by decide) hfit, hseq]
    exact ⟨rfl, last_accept ..⟩
  case refine_2 =>
    subst hseq
    obtain rfl : g = Fus.gap u k d := hg.trans (gap_after hlt hlast).symm
    refine ⟨fun hout => ?_, fun h1 h2 hfit => ?_⟩
    · rw [take_discards (by omega)]
      exact ⟨rfl, rfl, rfl⟩
    · have h1' : 1 ≤ Fus.gap u k d := by omega
      rw [take_accepts h1' (by omega) hfit]
      refine ⟨rfl, last_accept .., ?_, fun hg2 => ?_⟩
      · rw [gaps_noted _ h1', u_of, gaps_accept]
        push_cast [h1']
        rfl
      · rw [W.when, if_pos (decide_eq_true (by omega))]
        exact List.mem_singleton_self _
  case refine_3 =>
    exact ⟨_, rfl, scanEnabled_forgets (s := s.at_ a) acc h hm hk h6 ho hv⟩

end Sys2Proof.Proofs
end

section
/-! FUS: point datagrams (R107), BINNING (R111), UPDATE and its final write (R129), and SEED (R119). -/

namespace Sys2Proof.Proofs

open Sys2Proof Sys2Proof.Machine

-- One proof after another: many at once wait for the kernel in threads of their own, which the check's memory limit does not hold.
set_option Elab.async false

/-! ## Stores -/

/-- A byte that no store of a list covers is as before. -/
theorem byte_stores_outside (m : Mem) (sts : List Store) (x : Nat) (h : ∀ st ∈ sts, x < st.addr ∨ st.addr + st.data.length ≤ x) :
    (m.stores sts).byte x = m.byte x :=
  foldl_keeps_mem (fun y : Mem => y.byte x = m.byte x) Mem.store sts (fun y st hst hy => (byte_store_outside y st x (h st hst)).trans hy)
    m rfl

/-- A store of whole blocks reads none of them (R24). -/
theorem readsOfStore_whole {st : Store} (ha : st.addr % 32 = 0) (hn : st.data.length % 32 = 0) : readsOfStore st = [] := by
  have hcover : ∀ blk ∈ blocksOf st.addr st.data.length, coversBlock st.addr st.data.length blk = true := fun blk hblk => by
    unfold blocksOf at hblk
    split at hblk
    case isTrue => exact absurd hblk List.not_mem_nil
    case isFalse h0 =>
      obtain ⟨i, hi, rfl⟩ := List.mem_map.mp hblk
      have hi' := List.mem_range.mp hi
      simp only [coversBlock, Bool.and_eq_true, decide_eq_true_eq]
      omega
  unfold readsOfStore
  rw [List.filter_eq_nil_iff.mpr (fun blk hblk => by rw [hcover blk hblk]; decide)]
  rfl

/-- Work with one store of whole blocks is the work without it on memory that holds it. -/
theorem commit_whole {fx : Fx} {st : Store} {s : State} (h : readsOfStore st = []) :
    s.commit fx [st] = ({ s with mem := s.mem.store st, nvs := s.nvs.countWrites st } : State).commit fx [] := by
  have hstore : s.store1 st = ({ s with mem := s.mem.store st, nvs := s.nvs.countWrites st }, []) := by
    unfold State.store1
    rw [h]
    rfl
  have habsorb : State.absorb (fun (u : State) _ => u) ⟨s, fx, [st]⟩ (s, Fx.none) =
      State.absorb (fun (u : State) _ => u) ⟨{ s with mem := s.mem.store st, nvs := s.nvs.countWrites st }, fx, []⟩
        ({ s with mem := s.mem.store st, nvs := s.nvs.countWrites st }, Fx.none) := by
    unfold State.absorb State.storeAll
    dsimp only
    rw [hstore]
    rfl
  unfold State.commit
  rw [habsorb]

/-! ## Point datagrams (R107) -/

theorem workOn_works {page : Nat} {s : State} (f : State → State) (h : s.works page = true) : s.workOn page f = f s := if_pos h

section
variable {u : Fus} {src k c f lenUs : Nat} {now : Int} {d : List Byte}

/-- The first datagram of a slot and the one after the last accepted have the gap 1. -/
theorem gap_next (h : ∀ e, u.last.find? (fun e => e.1 == k) = some e → (pdSeq d + 4294967296 - e.2) % 4294967296 = 1) :
    Fus.gap u k d = 1 := by
  unfold Fus.gap
  split
  · exact h _ ‹_›
  · rfl

/-- A datagram without a gap, within the point allowance, is accepted, and nothing is recorded. -/
theorem take_next (hg : Fus.gap u k d = 1) (hp : Fus.ptsIn u f + pdCount d ≤ pointAllowance lenUs) : ∃ b,
    Fus.take k f lenUs now d (W.of u) =
      (W.of (Fus.accept k now d { u with rateFno := f, ratePts := Fus.ptsIn u f, rateRec := b }), true) := by
  obtain ⟨b, hb⟩ := inFathom_eq f u
  rw [take_accepts hg.ge (hg ▸ by decide) hp, hg, hb]
  exact ⟨b, rfl⟩

/-- A datagram that passes the checks for a slot of its own is taken for it. -/
theorem datagram_passed (he : rbit u.regs Reg.FUS0_CTRL 0 = true) (hc : u.checkDatagram src d = .inr k) (hs : bit u.srcSel k = false) :
    Fus.datagram src (rfld u.regs Reg.FUS0_PORT 15 0) false now f lenUs d u = Fus.take k f lenUs now d (W.of u) := by
  unfold Fus.datagram
  simp [he, hc, hs]

/-- A datagram that fails one of the checks 1 to 3 is discarded. -/
theorem datagram_failed (he : rbit u.regs Reg.FUS0_CTRL 0 = true) (hc : u.checkDatagram src d = .inl c) (h4 : c ≠ 4) :
    Fus.datagram src (rfld u.regs Reg.FUS0_PORT 15 0) false now f lenUs d u = (Fus.discard c (W.of u), false) := by
  unfold Fus.datagram
  simp only [he, hc, bne_self_eq_false, Bool.not_true, Bool.or_self, Bool.false_eq_true, if_false]

end

theorem onChn_fus (f : Chn → W Chn) (s : State) : (s.onChn f).fus = s.fus := commit_fus _ _ _

/-- POINT_DATAGRAM while FUS works: FUS's work, and a frame of the Chain when the datagram was accepted and is mirrored. -/
theorem pointDatagram_runs (a : At) (src dport : Nat) {frag : Bool} {d : List Byte} {s : State} {x : W Fus × Bool}
    (hw : s.works Pg.FUS0 = true) (hf : s.feature 7 = true)
    (hx : Fus.datagram src dport frag (s.at_ a).tim.time s.seq.count s.seq.lenUs d s.fus = x) :
    ∃ t, exec (.pointDatagram a src dport frag d) s = .next t ∧ t.fus = x.1.u ∧
      ((x.2 && x.1.u.mirrorOut) = false → t = (s.at_ a).onFus (fun _ => x.1)) := by
  subst hx
  generalize hx : Fus.datagram src dport frag (s.at_ a).tim.time s.seq.count s.seq.lenUs d s.fus = x
  refine ⟨_, rfl, ?_, fun hm => ?_⟩
  all_goals
    rw [workOn_works (s := s.at_ a) _ hw, withFeature_present (s := s.at_ a) hf]
    dsimp only
    rw [at_fus, at_seq, hx, onFus_fus]
  · split
    · rw [onChn_fus, onFus_fus]
    · exact onFus_fus ..
  · rw [hm]
    rfl

/-! ## Binning (R111, R112) -/

/-- An entry of a map with one key set is of that key or an old one. -/
theorem mem_sset {V : Type} [DecidableEq V] {d : Nat → V} {m : List (Nat × V)} {k : Nat} {v : V} {e : Nat × V} (h : e ∈ sset d m k v) :
    e.1 = k ∨ e ∈ m := by
  have hdel : ∀ l : List (Nat × V), e ∈ sdel l k → e ∈ l := fun l => by
    induction l with
    | nil => exact id
    | cons x l ih =>
      intro hx
      unfold sdel at hx
      split at hx
      · exact List.mem_cons_of_mem _ (ih hx)
      · exact List.mem_cons.mpr ((List.mem_cons.mp hx).imp_right ih)
  have hins : ∀ l : List (Nat × V), e ∈ sins l k v → e.1 = k ∨ e ∈ l := fun l => by
    induction l with
    | nil => exact fun hx => .inl (congrArg Prod.fst (List.mem_singleton.mp hx))
    | cons x l ih =>
      intro hx
      unfold sins at hx
      split at hx
      · exact (List.mem_cons.mp hx).imp_left (congrArg Prod.fst)
      · obtain hx | hx := List.mem_cons.mp hx
        · exact .inr (hx ▸ List.mem_cons_self)
        · exact (ih hx).imp_right (List.mem_cons_of_mem _)
  unfold sset at h
  split at h
  · exact .inr (hdel m h)
  · exact (hins _ h).imp_right (hdel m)

/-- Every cell gathered lies in the grid of 1,024 × 1,024 cells. -/
def Binned.InGrid (b : Binned) : Prop := ∀ e ∈ b.cells, e.1 < 1048576

theorem binPoint_inGrid (m : Mem) (u : Fus) (plane : Nat) (c : Int × Int) (a : Attitude) (k : Nat) (pt : List Byte) {b : Binned}
    (h : Binned.InGrid b) : Binned.InGrid (Fus.binPoint m u plane c a k pt b) := by
  unfold Fus.binPoint
  extract_lets fl x y z mr p unit q i j lo hi idx old
  split
  · exact h
  split
  · exact h
  · intro e he
    obtain hk | hold := mem_sset he
    · omega
    · exact h e hold

theorem binOne_inGrid (m : Mem) (u : Fus) (plane : Nat) (c : Int × Int) (a : Attitude) {b : Binned} (d : PointData)
    (h : Binned.InGrid b) : Binned.InGrid (Fus.binOne m u plane c a b d) :=
  foldl_keeps Binned.InGrid _ (fun _ pt hb => binPoint_inGrid m u plane c a d.slot pt hb) _ b h

/-- The work of a binning at startUs: the datagrams of the previous fathom are out of the pool, FUS0_SRC_SEL and MIRROR_OUT are taken
(R132), the data of the last publication stand, and every store lies in the filling plane. -/
structure Fus.Bins (u : Fus) (startUs : Int) (w : W Fus) : Prop where
  pool : w.u.pool = u.pool.filter (fun d => !decide (d.stamp < 1000 * startUs))
  srcSel : w.u.srcSel = rget u.regs Reg.FUS0_SRC_SEL
  mirror : w.u.mirrorOut = rbit u.regs Reg.FUS0_CTRL 1
  data : w.u.data = u.data
  stores : ∀ st ∈ w.st, u.filling ≤ st.addr ∧ st.addr + st.data.length ≤ u.filling + 2 * 1048576

theorem binning_bins (m : Mem) (vis : Nat → Nat) (startUs : Int) (u : Fus) : Fus.Bins u startUs (Fus.binning m vis startUs u) := by
  unfold Fus.binning
  extract_lets due w0 eb est w1 usable rd att c b w2
  have hst : w1.st = [] := st_when _ _ _ (by intro _; rfl)
  have hu : w1.u = w0.u := u_when (g := id) (by intro _; rfl) _ _
  have hnone : ∀ st ∈ w1.st, u.filling ≤ st.addr ∧ st.addr + st.data.length ≤ u.filling + 2 * 1048576 := by
    rw [hst]
    exact fun _ h => absurd h List.not_mem_nil
  have hpool := congrArg Fus.pool hu
  have hsel := congrArg Fus.srcSel hu
  have hmirror := congrArg Fus.mirrorOut hu
  have hdata := congrArg Fus.data hu
  split
  · exact ⟨hpool, hsel, hmirror, hdata, hnone⟩
  split
  · exact ⟨hpool, hsel, hmirror, hdata, hnone⟩
  have hgrid : Binned.InGrid b := foldl_keeps Binned.InGrid _ (fun _ d hb => binOne_inGrid m u u.filling c att d hb) due _
    (fun _ h => absurd h List.not_mem_nil)
  refine foldl_keeps_mem (Fus.Bins u startUs) _ b.cells (fun w e he hw => ?_) w2 ⟨hpool, hsel, hmirror, hdata, hnone⟩
  refine ⟨hw.pool, hw.srcSel, hw.mirror, hw.data, fun st hst => ?_⟩
  obtain hst | hst := List.mem_append.mp hst
  · exact hw.stores st hst
  · have hlt := hgrid e he
    rw [List.mem_singleton.mp hst]
    exact ⟨Nat.le_add_right .., by simp only [List.length_cons, List.length_nil]; omega⟩

/-- A binning without an estimate bins none, and records it. -/
theorem binning_blind (m : Mem) (vis : Nat → Nat) (startUs : Int) {u : Fus} (he : rbit u.regs Reg.FUS0_CTRL 0 = true)
    (hb : rbit u.regs Reg.FUS0_EST_BLK 31 = false) : ∃ v, Fus.binning m vis startUs u = ((W.of v).evt Pg.FUS0 4).code Pg.FUS0 0x1514 [] ∧
      v.winNo = true ∧ v.winPts = u.winPts := by
  have hb' : bit (rget u.regs Reg.FUS0_EST_BLK) 31 = false := hb
  unfold Fus.binning
  simp only [he, hb', W.when, Bool.not_true, Bool.false_and, Bool.not_false, Bool.false_eq_true, if_false, if_true]
  exact ⟨_, rfl, rfl, rfl⟩

/-- BINNING in READY and RUN while FUS works. -/
theorem binning_runs (a : At) {s : State} (hw : s.works Pg.FUS0 = true) (hf : s.feature 7 = true) (hm : s.mode = .ready ∨ s.mode = .run) :
    exec (.binning a) s = .next ((s.at_ a).onFus (Fus.binning (s.at_ a).mem (s.at_ a).vis s.seq.startUs)) :=
  congrArg Host.Outcome.next
    (((workOn_works (s := s.at_ a) _ hw).trans (withFeature_present (s := s.at_ a) hf)).trans (if_pos (c := (s.at_ a).mode = _ ∨ _) hm))

end Sys2Proof.Proofs
end

section
/-! FUS: UPDATE and its final write (R129), SEED (R119), and the settling of its commands. -/

namespace Sys2Proof.Proofs

open Sys2Proof Sys2Proof.Machine

-- One proof after another: many at once wait for the kernel in threads of their own, which the check's memory limit does not hold.
set_option Elab.async false

/-! ## The work of an UPDATE (R113, R129) -/

/-- FUS changed in its registers alone. -/
def Fus.OnlyRegs (u v : Fus) : Prop := v = { u with regs := v.regs }

theorem onlyRegs_set (u : Fus) (m : RMap) : Fus.OnlyRegs u { u with regs := m } := rfl

theorem Fus.OnlyRegs.trans {u v x : Fus} (h : Fus.OnlyRegs u v) (k : Fus.OnlyRegs v x) : Fus.OnlyRegs u x := by
  unfold Fus.OnlyRegs at *
  rw [k, h]

section
variable {w : W (Fus × FusData)}

/-- A conditional step that changes registers alone. -/
theorem onlyRegs_when {c : Bool} {f : W (Fus × FusData) → W (Fus × FusData)} (hf : ∀ v, Fus.OnlyRegs v.u.1 (f v).u.1) :
    Fus.OnlyRegs w.u.1 (w.when c f).u.1 := by
  unfold W.when
  split
  · exact hf w
  · rfl

theorem onlyRegs_startTrack (cn ce : Int) (d : Det) : Fus.OnlyRegs w.u.1 (startTrack cn ce w d).u.1 := by
  unfold startTrack
  split <;> rfl

/-- Tracking changes registers of FUS and the data of the UPDATE alone. -/
theorem onlyRegs_track (i : SpanIn) (feat : Int → Int → Nat → Int) (cn ce : Int) :
    Fus.OnlyRegs w.u.1 (Fus.track i feat cn ce w).1.u.1 := by
  unfold Fus.track
  extract_lets u d ctl p g dets kept w1 n costs ben lim a subopt w2 ab life held after assigned w3 w4 inUse w5 head recs
  -- What is detected, assigned and kept is left as it is: nothing here rests on what it computes.
  clear_value dets a
  have h1 : Fus.OnlyRegs w.u.1 w1.u.1 := onlyRegs_when (fun _ => rfl)
  clear_value w1
  have h2 : Fus.OnlyRegs w1.u.1 w2.u.1 := onlyRegs_when (fun _ => rfl)
  clear_value w2
  have h3 : Fus.OnlyRegs w2.u.1 w3.u.1 := rfl
  clear_value w3
  have h4 : Fus.OnlyRegs w3.u.1 w4.u.1 := by
    refine foldl_keeps (fun v : W (Fus × FusData) => Fus.OnlyRegs w3.u.1 v.u.1) _ (fun v j hv => ?_) _ w3 rfl
    split
    · exact hv.trans (onlyRegs_startTrack ..)
    · exact hv
  clear_value w4
  have h5 : Fus.OnlyRegs w4.u.1 w5.u.1 := rfl
  exact (((h1.trans h2).trans h3).trans h4).trans h5

/-- The transition of the registration state leaves FUS. -/
theorem regTransition_fus (state : Nat) (searched valid : Bool) (lostN : Nat) :
    (regTransition state searched valid lostN w).u.1 = w.u.1 := by
  unfold regTransition
  extract_lets d inv ns w1 w2 w3 w4
  have h2 : w2.u.1 = w1.u.1 := u_when (g := Prod.fst) (by intro _; rfl) _ _
  have h3 : w3.u.1 = w2.u.1 := u_when (g := Prod.fst) (by intro _; rfl) _ _
  have h4 : w4.u.1 = w3.u.1 := u_when (g := Prod.fst) (by intro _; rfl) _ _
  exact (u_when (g := Prod.fst) (by intro _; rfl) _ _).trans (h4.trans (h3.trans h2))

end

/-- FUS after the START of an UPDATE of u: the other plane fills, the data of the last publication stand, and no seed waits. -/
structure Fus.Updating (u v : Fus) : Prop where
  plane : v.planeB = !u.planeB
  data : v.data = u.data
  seed : v.seed = false

theorem Fus.Updating.onlyRegs {u v x : Fus} (h : Fus.Updating u v) (k : Fus.OnlyRegs v x) : Fus.Updating u x := by
  obtain ⟨hplane, hdata, hseed⟩ := h
  rw [k]
  exact ⟨hplane, hdata, hseed⟩

theorem update_updating (i : SpanIn) (u : Fus) : Fus.Updating u (Fus.update i u).w.u := by
  unfold Fus.update
  extract_lets m plane other centre layers idx state dir wid hei mapAt nW nM searched w0 w1 w2 w3 w4 bad poison needDst w5 feat grid w6
    est cfg pp rin o valid dataAtStart d0 wp0 wp1 wp2 trk tr wp3 d nomap sel st pose wp4 wp5
  have h4 : Fus.Updating u w4.u := by
    have h3 : w3.u = w2.u := u_when (g := id) (by intro _; rfl) _ _
    exact (show w4.u = w0.u from h3) ▸ ⟨rfl, rfl, rfl⟩
  by_cases hbad : (bad || decide (i.dstLen < needDst)) = true
  · rw [if_pos hbad]
    exact h4
  rw [if_neg hbad]
  have h5 : w5.u = w4.u := u_when (g := id) (by intro _; rfl) _ _
  have h1 : wp1.u.1 = w4.u := (regTransition_fus (w := wp0) state searched valid _).trans h5
  have h3 : Fus.OnlyRegs wp2.u.1 wp3.u.1 := by
    show Fus.OnlyRegs wp2.u.1 (if trk then _ else _ : W (Fus × FusData) × List Word).1.u.1
    split
    · exact onlyRegs_track ..
    · rfl
  have hp5 : wp5.u.1 = wp4.u.1 := u_when (g := Prod.fst) (by intro _; rfl) _ _
  have h : Fus.Updating u wp5.u.1 := hp5 ▸ ((h1 ▸ h4).onlyRegs (x := wp2.u.1) rfl).onlyRegs h3
  exact ⟨h.plane, h.data, h.seed⟩

/-- The bytes of n empty cells of an input plane (R113). -/
@[irreducible] def emptyCells (n : Nat) : List Byte := (upto n).flatMap (fun _ => [0x00#8, 0x80#8])

theorem length_emptyCells (n : Nat) : (emptyCells n).length = 2 * n := by
  unfold emptyCells upto
  induction n with
  | zero => rfl
  | succ n ih =>
    rw [List.range_succ, List.flatMap_append, List.length_append, ih]
    rfl

/-- The base of the plane that becomes the filling one at the START of an UPDATE (R113). -/
def Fus.nextPlane (u : Fus) : Nat := if u.planeB then fusPlaneA else fusPlaneB

/-- An UPDATE without its grant: the planes change over, the one that fills is cleared, and the code is left (R394). -/
theorem ungranted_eq (u : Fus) : Fus.ungranted u = R.bad ((((W.of { u with
    planeB := !u.planeB, centre := none, winPts := 0, winMap := 0, winNo := false }).store Pg.FUS0 (Fus.nextPlane u) (emptyCells 1048576)).evt
      Pg.FUS0 0).code Pg.FUS0 0x2516 []) := by
  rw [emptyCells]
  rfl

/-- The clearing of a plane writes whole blocks. -/
theorem readsOfStore_cleared (u : Fus) : readsOfStore ⟨Pg.FUS0, Fus.nextPlane u, (emptyCells 1048576), false⟩ = [] := by
  refine readsOfStore_whole ?_ ?_
  · show Fus.nextPlane u % 32 = 0
    unfold Fus.nextPlane
    split <;> rfl
  · show (emptyCells 1048576).length % 32 = 0
    rw [length_emptyCells]

/-! ## UPDATE -/

/-- FUS put back after its work under a span. -/
def putFus (u : Fus) (s : State) : State := { s with fus := u }

/-- The work of an UPDATE on what its START hands it. -/
def updateWork (_ : Span) (i : SpanIn) (s : State) : R Fus := if s.pwr.granted 17 then Fus.update i s.fus else Fus.ungranted s.fus

/-- FUS and the codes after a START whose work is FUS's. -/
theorem startSpan_fus {s : State} {idx : Nat} {x : Span} (h : s.Starts idx x) (ok : Span → Bool) (hok : ok x = true)
    (F : Span → SpanIn → State → R Fus) :
    let r := F x (s.handed idx x) (s.begun idx)
    let t := s.startSpan idx ok false (fun x i z => z.ran putFus (F x i z))
    t.fus = r.w.u ∧ ∀ q, t.errCode q = ((putFus r.w.u (s.begun idx)).commit r.w.fx r.w.st).errCode q := by
  dsimp only
  rw [startSpan_ran h ok hok putFus (fun _ _ => ⟨rfl, rfl⟩) F]
  generalize F x (s.handed idx x) (s.begun idx) = r
  have hfus : ((putFus r.w.u (s.begun idx)).commit r.w.fx r.w.st).fus = r.w.u := commit_fus _ _ _
  generalize (putFus r.w.u (s.begun idx)).commit r.w.fx r.w.st = z at hfus
  exact ⟨hfus, fun _ => rfl⟩

/-- The START of an UPDATE: the answer of its work, FUS and the codes as the work leaves them, and the rest of the module as it was. -/
theorem update_runs {a : At} {idx : Nat} {x : Span} {s : State} {r : R Fus} (h : (s.at_ a).Starts idx x) (hu : x.unit = 0x15)
    (ho : x.opcode = 1) (hr : updateWork x ((s.at_ a).handed idx x) ((s.at_ a).begun idx) = r) :
    ∃ t, exec (.update a idx) s = .next t ∧ (s.at_ a).Answered t idx x r ∧ t.fus = r.w.u ∧
      (∀ q, t.errCode q = ((putFus r.w.u ((s.at_ a).begun idx)).commit r.w.fx r.w.st).errCode q) ∧
      t.shell = { (s.at_ a).shell with
        seq := t.seq
        fus := t.fus
        free := s.free + 1 } := by
  have hok : Span.isOp 0x15 1 x = true := by
    unfold Span.isOp
    rw [hu, ho]
    rfl
  obtain ⟨hfus, hcodes⟩ := startSpan_fus h (Span.isOp 0x15 1) hok updateWork
  obtain ⟨ha, hshell⟩ := startSpan_answers h (Span.isOp 0x15 1) hok putFus (fun _ _ => ⟨rfl, rfl, rfl, rfl⟩) updateWork
  rw [hr] at hfus hcodes ha hshell
  refine ⟨_, rfl, ha, hfus, hcodes, hshell.trans ?_⟩
  rw [← hfus]
  rfl

/-! ## UPDATE_FINAL_WRITE (R129) -/

/-- A completion reported while the unit's island runs. -/
theorem spanDone_reports {idx : Nat} {result : Bool} {r : Run} {s : State} (hr : s.seq.run idx = some r)
    (hp : s.pageUp r.span.page = true) : s.spanDone idx result =
      { s with seq := { s.seq with
        runs := s.seq.runs.map (Run.reported idx ((s.seq.count - r.count) * s.seq.lenUs + s.tick) result) } } := by
  unfold State.spanDone
  rw [hr]
  refine (if_pos hp).trans ?_
  unfold Seq.complete
  dsimp only
  rw [List.map_map]
  rfl

/-- The pose of an UPDATE with words 8 to 10 filled in. -/
def Fus.finalPose (u : Fus) (tOut : Int) (fno : Nat) : List Word :=
  u.workPose.take 8 ++ [lo32 tOut, hi32 tOut, wd fno] ++ u.workPose.drop 11

/-- The two stores of the final write, into the output at dst. -/
def Fus.finalStores (u : Fus) (dst : Nat) (tOut : Int) (fno : Nat) : List Store :=
  [⟨Pg.FUS0, dst + 32, wordsBytes [lo32 tOut, hi32 tOut, wd fno], false⟩,
   ⟨Pg.FUS0, dst + 60, wordBytes (crc32 (wordsBytes (Fus.finalPose u tOut fno))), false⟩]

section
variable (m : Mem) (u : Fus) (dst : Nat) (tOut : Int) (fno : Nat)

/-- Word 10 of the output after the final write is the fathom count. -/
theorem finalStores_fno (i : Nat) (h : i < (wordBytes (wd fno)).length) :
    (m.stores (Fus.finalStores u dst tOut fno)).byte (dst + 40 + i) = (wordBytes (wd fno))[i] := by
  have h4 : i < 4 := h
  have hout : (m.stores (Fus.finalStores u dst tOut fno)).byte (dst + 40 + i) =
      (m.store ⟨Pg.FUS0, dst + 32, wordsBytes [lo32 tOut, hi32 tOut, wd fno], false⟩).byte (dst + 40 + i) :=
    byte_store_outside _ _ _ (.inl (by show dst + 40 + i < dst + 60; omega))
  rw [hout, show dst + 40 + i = dst + 32 + (8 + i) by omega, byte_store_inside _ _ (8 + i) (by show 8 + i < 12; omega)]
  interval_cases i <;> rfl

/-- Word 15 of the output after the final write is the CRC. -/
theorem finalStores_crc (i : Nat) (h : i < (wordBytes (crc32 (wordsBytes (Fus.finalPose u tOut fno)))).length) :
    (m.stores (Fus.finalStores u dst tOut fno)).byte (dst + 60 + i) = (wordBytes (crc32 (wordsBytes (Fus.finalPose u tOut fno))))[i] :=
  byte_store_inside _ ⟨Pg.FUS0, dst + 60, wordBytes (crc32 (wordsBytes (Fus.finalPose u tOut fno))), false⟩ i h

/-- The final write stores into words 8 to 15 of the output only. -/
theorem finalStores_within (x : Nat) (h : x < dst + 32 ∨ dst + 32 + 32 ≤ x) :
    (m.stores (Fus.finalStores u dst tOut fno)).byte x = m.byte x := by
  refine byte_stores_outside _ _ _ (fun st hst => ?_)
  obtain rfl | hst := List.mem_cons.mp hst
  · show x < dst + 32 ∨ dst + 32 + 12 ≤ x
    omega
  · rw [List.mem_singleton.mp hst]
    show x < dst + 60 ∨ dst + 60 + 4 ≤ x
    omega

end

/-- UPDATE_FINAL_WRITE once its tick has come: FUS's work, then the completion of the span. -/
theorem finalWrite_runs (a : At) {idx : Nat} {r : Run} {s : State} (hr : s.seq.run idx = some r) (hu : r.span.unit = 0x15)
    (hd : r.doneAt = none) (hp : s.pageUp Pg.FUS0 = true)
    (ht : reached (r.count + (r.span.deadline - 1) / max 1 s.seq.lenUs, (r.span.deadline - 1) % max 1 s.seq.lenUs) (s.at_ a).here = true) :
    ∃ t tOut, exec (.updateFinalWrite a idx) s = .next t ∧ t.fus.workPose = Fus.finalPose s.fus tOut s.seq.count ∧
      t.fus.data = s.fus.data ∧
      t.seq.runs = s.seq.runs.map (Run.reported idx ((s.seq.count - r.count) * s.seq.lenUs + (s.at_ a).tick) true) ∧
      ∀ b, t.mem.byte b =
        ((s.at_ a).mem.stores (Fus.finalStores s.fus (s.hidden r.span.dst r.span.dstLen) tOut s.seq.count)).byte b := by
  have hstep : (s.at_ a).finalWrite idx = ((s.at_ a).onFus (Fus.finalWrite (s.hidden r.span.dst r.span.dstLen)
      (1000 * (s.seq.startUs + ((r.span.deadline - 1) % max 1 s.seq.lenUs + 1 : Nat))) s.seq.count r.span.start
      r.span.deadline)).spanDone idx true := by
    unfold State.finalWrite
    rw [at_seq, hr]
    exact if_pos ⟨hu, hd, hp, ht⟩
  generalize 1000 * (s.seq.startUs + ((r.span.deadline - 1) % max 1 s.seq.lenUs + 1 : Nat)) = tOut at hstep
  generalize hf : Fus.finalWrite (s.hidden r.span.dst r.span.dstLen) tOut s.seq.count r.span.start r.span.deadline = f at hstep
  have hpage : ((s.at_ a).onFus f).pageUp r.span.page = true := by
    rw [Span.page, hu]
    exact (pageUp_of_shell (s := { s.at_ a with fus := (f s.fus).u }) (shell_onFus ..) _).trans hp
  have htick : ((s.at_ a).onFus f).tick = (s.at_ a).tick := by
    unfold State.tick
    rw [onFus_seq, onFus_tim]
  have hdone := spanDone_reports (s := (s.at_ a).onFus f) (result := true) (by rw [onFus_seq]; exact hr) hpage
  refine ⟨_, tOut, congrArg Host.Outcome.next (hstep.trans hdone), ?_, ?_, ?_, fun b => ?_⟩
  · show ((s.at_ a).onFus f).fus.workPose = _
    rw [onFus_fus, ← hf]
    rfl
  · show ((s.at_ a).onFus f).fus.data = _
    rw [onFus_fus, ← hf]
    rfl
  · show List.map _ _ = _
    rw [htick, onFus_seq]
    rfl
  · refine (byte_onFus f (s.at_ a) b).trans ?_
    rw [← hf]
    rfl

/-! ## SEED (R119) -/

/-- FUS1_SEED's row: SEED acts when written with 1. -/
abbrev seedRow : RegRow := ⟨Reg.FUS1_SEED % 0x400, 0, 0, 0, 0, 0, 1, 0, 1⟩

theorem isFusRow_seed : IsFusRow Pg.FUS1 Reg.FUS1_SEED seedRow := by constructor <;> decide

/-- FUS with a seed waiting for the next UPDATE. -/
def Fus.askSeed (u : Fus) : Fus := { u with seed := true }

theorem actPlain_seed (old : Word) (t : State) : State.actPlain Reg.FUS1_SEED 0 0 1#32 old t = { t with fus := Fus.askSeed t.fus } := rfl

/-- A taken write of FUS1_SEED leaves the request. -/
theorem seed_taken (acc : Accessor) {s : State} (h : s.Admits acc Pg.FUS1 (Reg.FUS1_SEED % 0x400)) :
    let x := s.writePlain acc Reg.FUS1_SEED 0 1#32
    (∃ m, x.fus = Fus.askSeed { s.fus with regs := m }) ∧ x.pageSeq Pg.FUS1 = s.pageSeq Pg.FUS1 + 1#32 ∧ x.mem = s.mem :=
  writeFus_taken (f := fun _ => Fus.askSeed) acc isFusRow_seed h rfl (.inl rfl) rfl (by cases s.mode == .run <;> rfl) actPlain_seed

/-- Settles O16: a datagram by what becomes of it, a binning and the two UPDATEs by what their work keeps and stores, the final write by
its two stores, SEED by the write that leaves it. -/
theorem fusionCommands : Obligations.FusionCommands := by
  unfold Obligations.FusionCommands
  refine ⟨fun a src k d s hw hf he hc hs hlast hfit => ?_, fun a src c d s hw hf he hc h4 => ?_, fun a s hw hf hm => ?_,
    fun a s hw hf hm he hb => ?_, fun a idx x s hs hu ho hg => ?_, fun a idx x s hs hu ho hg => ?_, fun a idx r s hr hu hd hp ht => ?_,
    fun a acc s h => ?_⟩
  case refine_1 =>
    obtain ⟨b, htake⟩ := take_next (now := (s.at_ a).tim.time) (gap_next hlast) hfit
    obtain ⟨t, hx, hfus, hquiet⟩ := pointDatagram_runs a src _ hw hf ((datagram_passed he hc hs).trans htake)
    refine ⟨t, hx, hfus ▸ rfl, ?_, hfus ▸ rfl, hfus ▸ rfl, fun hmirror => ?_⟩
    · rw [hfus]
      exact (rget_rset ..).trans (if_pos rfl)
    · obtain rfl := hquiet hmirror
      exact ⟨by rw [shell_onFus, onFus_fus], fun x => (byte_onFus _ _ x).trans (byte_strike ..)⟩
  case refine_2 =>
    obtain ⟨t, hx, hfus, hquiet⟩ := pointDatagram_runs a src _ hw hf (datagram_failed he hc h4)
    obtain rfl := hquiet rfl
    refine ⟨_, hx, hfus ▸ rfl, ?_, by rw [shell_onFus, onFus_fus], fun x => (byte_onFus _ _ x).trans (byte_strike ..)⟩
    exact errCode_onFus _ _ Pg.FUS0 ⟨Pg.FUS0, 0x1510, [wd c], false⟩ (by decide) rfl rfl rfl rfl rfl rfl
  case refine_3 =>
    obtain ⟨hpool, hsel, hmirror, hdata, hstores⟩ := binning_bins (s.at_ a).mem (s.at_ a).vis s.seq.startUs s.fus
    refine ⟨_, binning_runs a hw hf hm, ?_⟩
    rw [shell_onFus, onFus_fus]
    refine ⟨hpool, hsel, hmirror, hdata, rfl, fun x hx => ?_⟩
    refine (byte_onFus _ _ x).trans ((byte_stores_outside _ _ _ fun st hst => ?_).trans (byte_strike ..))
    obtain ⟨hlow, hhigh⟩ := hstores st hst
    exact hx.imp (fun h => h.trans_le hlow) hhigh.trans
  case refine_4 =>
    obtain ⟨v, hbin, hno, hpts⟩ := binning_blind (s.at_ a).mem (s.at_ a).vis s.seq.startUs he hb
    have hwork : Fus.binning (s.at_ a).mem (s.at_ a).vis s.seq.startUs (s.at_ a).fus = _ := hbin
    refine ⟨_, binning_runs a hw hf hm, ?_⟩
    rw [onFus_fus, hwork]
    refine ⟨hno, hpts, ?_, fun x => ?_⟩
    · unfold State.onFus
      dsimp only
      rw [hwork]
      exact errCode_commit _ _ Pg.FUS0 ⟨Pg.FUS0, 0x1514, [], false⟩ (by decide) rfl rfl rfl rfl rfl
    · rw [byte_onFus, hwork]
      exact byte_strike ..
  case refine_5 =>
    obtain ⟨t, hx, ha, hfus, -, hshell⟩ := update_runs (r := Fus.update ((s.at_ a).handed idx x) s.fus) hs hu ho (if_pos hg)
    obtain ⟨hplane, hdata, hseed⟩ := update_updating ((s.at_ a).handed idx x) s.fus
    exact ⟨t, hx, ha, hfus ▸ hplane, hfus ▸ hdata, hfus ▸ hseed, hshell⟩
  case refine_6 =>
    have hwork : updateWork x ((s.at_ a).handed idx x) ((s.at_ a).begun idx) = Fus.ungranted s.fus :=
      if_neg (ne_true_of_eq_false hg)
    obtain ⟨t, hx, ⟨hseq, -, hbytes⟩, hfus, hcodes, -⟩ := update_runs hs hu ho (hwork.trans (ungranted_eq s.fus))
    refine ⟨t, hx, hseq, hfus ▸ rfl, hfus ▸ rfl, (hcodes _).trans ?_, fun b hb => (hbytes b).trans ?_⟩
    · refine (congrArg (State.errCode · Pg.FUS0) (commit_whole (readsOfStore_cleared s.fus))).trans ?_
      exact errCode_commit _ _ Pg.FUS0 ⟨Pg.FUS0, 0x2516, [], false⟩ (by decide) rfl rfl rfl rfl rfl
    · refine (byte_store_outside _ ⟨Pg.FUS0, Fus.nextPlane s.fus, (emptyCells 1048576), false⟩ b ?_).trans (byte_strike ..)
      show b < Fus.nextPlane s.fus ∨ Fus.nextPlane s.fus + (emptyCells 1048576).length ≤ b
      rw [length_emptyCells]
      exact hb
  case refine_7 =>
    obtain ⟨t, tOut, hx, hpose, hdata, hruns, hbytes⟩ := finalWrite_runs a hr hu hd hp ht
    refine ⟨t, hx, fun i h => ?_, ?_, fun htick hmem => ?_, hdata, fun x h => ?_⟩
    · exact (hbytes _).trans (finalStores_fno ..)
    · rw [hpose]
      exact fun i h => (hbytes _).trans (finalStores_crc ..)
    · have hi : r.idx = idx := by simpa using List.find?_some hr
      have hrep := reported_open true hi hd htick
      rw [Bool.and_true] at hrep
      rw [hruns, ← hrep]
      exact List.mem_map_of_mem hmem
    · exact (hbytes x).trans ((finalStores_within _ _ _ _ _ x h).trans (byte_strike ..))
  case refine_8 =>
    obtain ⟨⟨m, hfus⟩, hseq, hmem⟩ := seed_taken (s := s.at_ a) acc h
    exact ⟨_, rfl, (congrArg Fus.seed hfus :), (congrArg Fus.data hfus :), hseq, sameBytes_of_mem hmem⟩

end Sys2Proof.Proofs
end

section
/-! GNSC: the START of a PVT (R143) and PPS OUT (R147). -/

namespace Sys2Proof.Proofs

open Sys2Proof Sys2Proof.Machine

-- One proof after another: many at once wait for the kernel in threads of their own, which the check's memory limit does not hold.
set_option Elab.async false

/-! ## Bits and cells -/

/-- A bit of a word after one bit was set or cleared. -/
theorem bit_putBit (w : Word) (i : Nat) (b : Bool) {j : Nat} (hj : j < 32) :
    bit (putBit w i b) j = if j = i then b else bit w j := by
  unfold bit putBit
  by_cases h : j = i
  · subst h
    cases b <;> simp [hj]
  · cases b <;> simp [hj, h]

/-- A bit of a cell in which one bit was set or cleared. -/
theorem rbit_putBit (m : RMap) (k i : Nat) (b : Bool) {j : Nat} (hj : j < 32) :
    rbit (rmod m k (fun x => putBit x i b)) k j = if j = i then b else rbit m k j := by
  rw [rbit, rget_rmod, if_pos rfl, bit_putBit _ _ _ hj, rbit]

/-- The first of several cells written, where no later write names it. -/
theorem rget_rsets_first {m : RMap} {k : Nat} {v : Word} {l : List (Nat × Word)} (h : ∀ p ∈ l, p.1 ≠ k) :
    rget (rsets m ((k, v) :: l)) k = v := by
  rw [rsets, rget_rsets_of_ne _ _ _ h, rget_rset, if_pos rfl]

theorem length_setAt {A : Type} (l : List A) (i : Nat) (v : A) : (setAt l i v).length = l.length := by
  induction l generalizing i with
  | nil => rfl
  | cons x l ih =>
    cases i with
    | zero => rfl
    | succ i => exact congrArg (· + 1) (ih i)

theorem length_readWords (m : Mem) (a n : Nat) : (m.readWords a n).length = n := by
  induction n generalizing a with
  | zero => rfl
  | succ n ih => exact congrArg (· + 1) (ih _)

theorem length_wordsBytes (l : List Word) : (wordsBytes l).length = 4 * l.length := by
  induction l with
  | nil => rfl
  | cons w l ih =>
    rw [wordsBytes, List.flatMap_cons, List.length_append, ← wordsBytes, ih, List.length_cons]
    exact Nat.add_comm 4 _

/-! ## The work of a PVT (R143) -/

/-- Steps of a PVT that leave the channels and store nothing. -/
structure Gns.Leaves (w v : W Gns) : Prop where
  chans : v.u.chans = w.u.chans
  st : v.st = w.st

theorem Gns.Leaves.when {w v : W Gns} (h : Gns.Leaves w v) (c : Bool) {f : W Gns → W Gns} (hf : ∀ x, Gns.Leaves x (f x)) :
    Gns.Leaves w (v.when c f) :=
  ⟨(u_when (g := Gns.chans) (fun x => (hf x).chans) c v).trans h.chans, (st_when v c f fun x => (hf x).st).trans h.st⟩

theorem Gns.Leaves.hold {w v : W Gns} (h : Gns.Leaves w v) (selected valid : Bool) (off : Int) :
    Gns.Leaves w (Gns.hold selected valid off v) := by
  unfold Gns.hold
  dsimp only
  split_ifs <;> exact ⟨h.chans, h.st⟩

/-- The answer of a PVT that has its two blocks of output: a result, the channels as they were, NEW as `new` says, no samples where it is 0,
the epoch used up where it is 1, and one record of 64 bytes at dst. -/
structure Gns.Solves (u : Gns) (i : SpanIn) (new : Bool) (r : R Gns) : Prop where
  ok : r.ok = true
  chans : r.w.u.chans = u.chans
  shown : rbit r.w.u.regs Reg.GNSC_STAT 7 = new
  silent : new = false → r.w.u.samples = []
  spent : new = true → r.w.u.epoch = none
  stores : ∃ d, r.w.st = [⟨Pg.GNSC, i.dst, d, false⟩] ∧ d.length = 64

/-- A record of 15 words and their CRC has 64 bytes. -/
theorem length_sealed {head : List Word} (h : head.length = 15) : (wordsBytes (head ++ [crc32 (wordsBytes head)])).length = 64 := by
  rw [length_wordsBytes, List.length_append, h]
  rfl

/-- Bit 7 of a sum of powers of two that holds 128 once. -/
theorem bit_seven {lo hi : Nat} (h : lo < 128) : bit (wd (lo + 128 + 256 * hi)) 7 = true := by
  unfold bit wd
  rw [BitVec.getLsbD_ofNat, Nat.testBit_eq_decide_div_mod_eq]
  simp only [Bool.and_eq_true, decide_eq_true_eq]
  omega

theorem b2n_le (b : Bool) : b2n b ≤ 1 := by cases b <;> decide

section
variable {feat9 cut selected : Bool} {i : SpanIn} {u : Gns}

/-- Less than two blocks of output: no result, its code, and nothing stored. -/
theorem pvt_short (h : i.dstLen < 2) :
    Gns.pvt feat9 cut selected i u = R.bad (((W.of u.keep).evt Pg.GNSC 0).code Pg.GNSC 0x2660 []) := if_pos h

/-- No unused epoch, or GNSC_CTRL.EN at 0: the previous record with NEW at 0. -/
theorem pvt_without_epoch (h : 2 ≤ i.dstLen) (he : rbit u.regs Reg.GNSC_CTRL 0 = true → u.epoch = none) :
    Gns.Solves u i false (Gns.pvt feat9 cut selected i u) := by
  have hnone : (if rbit u.keep.regs Reg.GNSC_CTRL 0 then u.keep.epoch else none) = none := by
    split
    · exact he ‹_›
    · rfl
  have hlen : ∀ v, (setAt ((i.mem.readWords (i.vis i.dstBlk) 16).take 15) 7 v).length = 15 := fun v => by
    rw [length_setAt, List.length_take, length_readWords]
    rfl
  unfold Gns.pvt
  extract_lets u1 run
  rw [if_neg (Nat.not_lt.mpr h), show (if rbit u1.regs Reg.GNSC_CTRL 0 then u1.epoch else none) = none from hnone]
  refine ⟨rfl, rfl, ?_, fun _ => rfl, fun hnew => absurd hnew (by decide), _, rfl, length_sealed (hlen _)⟩
  show bit (rget (rset _ Reg.GNSC_RUN run) Reg.GNSC_STAT) 7 = false
  rw [rget_rset, if_neg (by decide)]
  exact (rbit_putBit _ _ _ _ (by decide)).trans (if_pos rfl)

/-- The newest unused epoch: it is used up, and NEW is 1. -/
theorem pvt_of_epoch {e : GnsEpoch} (h : 2 ≤ i.dstLen) (hc : rbit u.regs Reg.GNSC_CTRL 0 = true) (he : u.epoch = some e) :
    Gns.Solves u i true (Gns.pvt feat9 cut selected i u) := by
  have hsome : (if rbit u.keep.regs Reg.GNSC_CTRL 0 then u.keep.epoch else none) = some e := (if_pos hc).trans he
  unfold Gns.pvt
  extract_lets u1 run _ _ _ _ old w0
  rw [if_neg (Nat.not_lt.mpr h), show (if rbit u1.regs Reg.GNSC_CTRL 0 then u1.epoch else none) = some e from hsome]
  dsimp -zeta only
  extract_lets s sh n0 n1 used pos vel time off hd w1 w2 w3 w4 w5 w6 w7 keep lastV w8 dt unc stat fix head smp samples w9
  have h0 : Gns.Leaves w0 w0 := ⟨rfl, rfl⟩
  have h1 : Gns.Leaves w0 w1 := h0.when _ fun _ => ⟨rfl, rfl⟩
  have h2 : Gns.Leaves w0 w2 := h1.when _ fun _ => ⟨rfl, rfl⟩
  have h3 : Gns.Leaves w0 w3 := h2.when _ fun _ => ⟨rfl, rfl⟩
  have h4 : Gns.Leaves w0 w4 := h3.when _ fun _ => ⟨rfl, rfl⟩
  have h5 : Gns.Leaves w0 w5 := h4.when _ fun _ => ⟨rfl, rfl⟩
  have h6 : Gns.Leaves w0 w6 := h5.when _ fun _ => ⟨rfl, rfl⟩
  have hw : Gns.Leaves w0 w7 := h6.hold selected time off
  refine ⟨rfl, hw.chans, ?_, fun hnew => absurd hnew (by decide), fun _ => rfl, _, congrArg (· ++ [_]) hw.st, length_sealed rfl⟩
  have hstat : rget w9.u.regs Reg.GNSC_STAT = stat := rget_rsets_first (by simp)
  have hlow : b2n pos + 2 * b2n vel + 4 * b2n (hd.1 == 2) + 8 * b2n (hd.1 == 1) + 16 * b2n time + 32 * b2n (bit keep 5)
      + 64 * b2n (bit keep 6) < 128 := by
    linarith [b2n_le pos, b2n_le vel, b2n_le (hd.1 == 2), b2n_le (hd.1 == 1), b2n_le time, b2n_le (bit keep 5), b2n_le (bit keep 6)]
  have h7 := bit_seven (hi := b2n e.stepped + 2 * b2n cut) hlow
  rw [rbit, R.good, u_store, hstat, ← h7]
  simp only [stat]
  congr 2
  ring

end

/-! ## Spans of GNSC -/

/-- GNS put back after its work under a span. -/
def putGns (u : Gns) (s : State) : State := { s with gns := u }

theorem isOp_of {unit op : Nat} {x : Span} (hu : x.unit = unit) (ho : x.opcode = op) : Span.isOp unit op x = true := by
  unfold Span.isOp
  rw [hu, ho, beq_self_eq_true, beq_self_eq_true]
  rfl

/-- A START whose work is GNS's: its answer, GNS and the codes as the work leaves them, and the rest of the module as it was. -/
theorem startSpan_gns {s : State} {idx : Nat} {x : Span} {ok : Span → Bool} {F : Span → SpanIn → State → R Gns} {r : R Gns}
    (h : s.Starts idx x) (hok : ok x = true) (hr : F x (s.handed idx x) (s.begun idx) = r) :
    let t := s.startSpan idx ok false (fun x i z => z.ran putGns (F x i z))
    s.Answered t idx x r ∧ t.gns = r.w.u ∧ (∀ q, t.errCode q = ((putGns r.w.u (s.begun idx)).commit r.w.fx r.w.st).errCode q) ∧
      t.shell = { s.shell with
        seq := t.seq
        gns := t.gns
        free := s.free + 1 } := by
  have hran := startSpan_ran h ok hok putGns (fun _ _ => ⟨rfl, rfl⟩) F
  obtain ⟨ha, hshell⟩ := startSpan_answers h ok hok putGns (fun _ _ => ⟨rfl, rfl, rfl, rfl⟩) F
  rw [hr] at hran ha hshell
  have hgns : ((putGns r.w.u (s.begun idx)).commit r.w.fx r.w.st).gns = r.w.u := commit_gns ..
  generalize (putGns r.w.u (s.begun idx)).commit r.w.fx r.w.st = z at hran hgns ⊢
  generalize s.startSpan idx ok false (fun x i z => z.ran putGns (F x i z)) = t at hran ha hshell ⊢
  subst hran
  exact ⟨ha, hgns, fun _ => rfl, hshell.trans (hgns ▸ rfl)⟩

/-- What a PVT answers on what its START hands it. -/
abbrev pvtAnswer (a : At) (idx : Nat) (x : Span) (s : State) : R Gns :=
  Gns.pvt (s.feature 9) (!s.grant 19) ((s.at_ a).tim.selected == 2) ((s.at_ a).handed idx x) s.gns

/-- The START of a PVT. -/
theorem pvt_runs {a : At} {idx : Nat} {x : Span} {s : State} (h : (s.at_ a).Starts idx x) (hu : x.unit = 0x16) (ho : x.opcode = 1)
    {r : R Gns} (hr : pvtAnswer a idx x s = r) :
    ∃ t, exec (.pvt a idx) s = .next t ∧ (s.at_ a).Answered t idx x r ∧ t.gns = r.w.u ∧
      (∀ q, t.errCode q = ((putGns r.w.u ((s.at_ a).begun idx)).commit r.w.fx r.w.st).errCode q) ∧
      t.shell = { (s.at_ a).shell with
        seq := t.seq
        gns := t.gns
        free := s.free + 1 } :=
  ⟨_, rfl, startSpan_gns (F := fun _ i z => Gns.pvt (z.feature 9) (!z.grant 19) (z.tim.selected == 2) i z.gns) h (isOp_of hu ho) hr⟩

/-- What a PVT that has its two blocks of output leaves. -/
theorem pvt_solves {feat9 cut selected : Bool} {i : SpanIn} {u : Gns} (h : 2 ≤ i.dstLen) :
    ∃ new, Gns.Solves u i new (Gns.pvt feat9 cut selected i u) ∧
      ((rbit u.regs Reg.GNSC_CTRL 0 = true → u.epoch = none) → new = false) ∧
      (rbit u.regs Reg.GNSC_CTRL 0 = true → u.epoch.isSome = true → new = true) := by
  by_cases hc : rbit u.regs Reg.GNSC_CTRL 0 = true
  · cases he : u.epoch with
    | none => exact ⟨false, pvt_without_epoch h fun _ => he, fun _ => rfl, fun _ hsome => absurd hsome (by decide)⟩
    | some e => exact ⟨true, pvt_of_epoch h hc he, fun hnone => absurd (hnone hc) (by simp), fun _ _ => rfl⟩
  · exact ⟨false, pvt_without_epoch h fun hon => absurd hon hc, fun _ => rfl, fun hon => absurd hon hc⟩

/-! ## PPS OUT (R147) -/

section
variable {now : Int} {states : Bool} {u : Gns}

/-- A whole second begins a pulse where EN is at 1, MUTE at 0 and none began before. -/
theorem ppsPulse_begins (he : rbit u.regs Reg.GNSC_PPS_CFG 0 = true) (hm : rbit u.regs Reg.GNSC_PPS_CFG 11 = false)
    (hn : u.ppsAt = none) : Gns.ppsPulse now true u = W.of { u with pps := true, ppsAt := some now } := by
  rw [rbit] at he hm
  unfold Gns.ppsPulse
  simp only [he, hm, hn, Bool.and_true, Bool.false_and, Bool.not_false, if_true]

/-- No pulse begins with EN at 0. -/
theorem ppsPulse_disabled (he : rbit u.regs Reg.GNSC_PPS_CFG 0 = false) : Gns.ppsPulse now states u = W.of u := by
  rw [rbit] at he
  unfold Gns.ppsPulse
  simp only [he, Bool.and_false, Bool.false_and, Bool.false_eq_true, if_false]

end

/-- GNS after work that stores nothing, with the rest of the module and every byte as they were. -/
theorem onGns_leaves {a : At} {s : State} {f : Gns → W Gns} {w : W Gns} (h : f s.gns = w) (hst : w.st = []) :
    let t := (s.at_ a).onGns f
    t.gns = w.u ∧ t.shell = { (s.at_ a).shell with gns := t.gns } ∧ s.SameBytes t := by
  subst h
  exact ⟨onGns_gns .., by rw [shell_onGns, onGns_gns], fun b => (byte_onGns f (s.at_ a) b).trans (by rw [at_gns, hst]; rfl)⟩

end Sys2Proof.Proofs
end

section
/-! GNSC: the snapshot buffer (R151–R154), and the settling of its commands. -/

namespace Sys2Proof.Proofs

open Sys2Proof Sys2Proof.Machine

-- One proof after another: many at once wait for the kernel in threads of their own, which the check's memory limit does not hold.
set_option Elab.async false

/-! ## The code that work leaves whatever it reads and stores (R402, R434) -/

theorem sorted_insertCode (c : Code) {l : List Code} (h : l.Pairwise (fun d e => d.page ≤ e.page)) :
    (insertCode c l).Pairwise (fun d e => d.page ≤ e.page) := by
  induction l with
  | nil => exact List.pairwise_singleton _ c
  | cons d l ih =>
    obtain ⟨hd, hl⟩ := List.pairwise_cons.mp h
    unfold insertCode
    split
    case isTrue hlt =>
      refine List.pairwise_cons.mpr ⟨fun e he => ?_, h⟩
      obtain rfl | he := List.mem_cons.mp he
      · exact hlt.le
      · exact hlt.le.trans (hd e he)
    case isFalse hge =>
      refine List.pairwise_cons.mpr ⟨fun e he => ?_, ih hl⟩
      obtain rfl | he := (mem_insertCode c l e).mp he
      · exact Nat.not_lt.mp hge
      · exact hd e he

theorem sorted_sortCodes (l : List Code) : (sortCodes l).Pairwise (fun d e => d.page ≤ e.page) :=
  foldl_keeps (fun a : List Code => a.Pairwise (fun d e => d.page ≤ e.page)) _ (fun _ c h => sorted_insertCode c h) l [] .nil

/-- A code comes after all those of its page. -/
theorem last_insertCode (c : Code) {l : List Code} (h : l.Pairwise (fun d e => d.page ≤ e.page)) :
    ((insertCode c l).filter (fun d => d.page == c.page)).getLast? = some c := by
  induction l with
  | nil => simp [insertCode]
  | cons d l ih =>
    obtain ⟨hd, hl⟩ := List.pairwise_cons.mp h
    unfold insertCode
    split
    case isTrue hlt =>
      have hnone : (d :: l).filter (fun e => e.page == c.page) = [] := by
        refine List.filter_eq_nil_iff.mpr fun e he => ?_
        have hle : d.page ≤ e.page := by
          obtain rfl | he := List.mem_cons.mp he
          · exact le_rfl
          · exact hd e he
        simp only [beq_iff_eq]
        omega
      rw [List.filter_cons_of_pos (p := fun d : Code => d.page == c.page) (beq_self_eq_true c.page), hnone]
      rfl
    case isFalse =>
      rw [List.filter_cons]
      split
      · rw [List.getLast?_cons, ih hl]
        rfl
      · exact ih hl

/-- Work that reads and stores is work that does neither on what the reads and stores leave, their codes before its own. -/
theorem commit_stored (fx : Fx) (st : List Store) (s : State) :
    ∃ (z : State) (l : List Code), s.commit fx st = z.commit { fx with reads := [], codes := l ++ fx.codes } [] := by
  let y := s.storeAll st
  let z := y.1.readBlocks fx.reads
  have h : State.absorb (fun (u : State) _ => u) ⟨s, fx, st⟩ (s, Fx.none) =
      State.absorb (fun (u : State) _ => u) ⟨z.1, { fx with reads := [], codes := y.2 ++ z.2 ++ fx.codes }, []⟩ (z.1, Fx.none) := rfl
  refine ⟨z.1, y.2 ++ z.2, ?_⟩
  unfold State.commit
  rw [h]

/-- PAGE_ERR.CODE of a page after work whose last code is of that page, whatever its reads and stores record before it. -/
theorem errCode_commit_last {fx : Fx} (st : List Store) (s : State) {l : List Code} {c : Code} (hc : fx.codes = l ++ [c])
    (hq : c.page ≠ Pg.SNAP) (h2 : fx.samples = []) (h3 : fx.pushes = []) (h4 : fx.triggers = []) :
    (s.commit fx st).errCode c.page = c.code % 0x10000 := by
  obtain ⟨z, l', hz⟩ := commit_stored fx st s
  rw [hz]
  refine errCode_commit _ _ c.page c hq rfl h2 h3 h4 ?_
  dsimp only
  rw [hc, ← List.append_assoc, sortCodes, List.foldl_append]
  exact last_insertCode c (sorted_sortCodes _)

/-! ## Triggers and captures (R151, R152) -/

section
variable {now : Int} {epoch : Nat} {u : Gns}

/-- GNS with a capture begun at an instant. -/
def Gns.captureBegun (now : Int) (epoch : Nat) (u : Gns) : Gns :=
  { u with
    capture := some (now, rfld u.regs Reg.GNSC_SNAP_CFG 6 0, rfld u.regs Reg.GNSC_SNAP_CFG 8 7, epoch)
    regs := rsets (rmod u.regs Reg.GNSC_SNAP_STAT (fun x =>
        putBit (putBit (putBit (putBit (putBit x 0 true) 3 false) 4 false) 5 (rbit u.regs Reg.GNSC_STAT 5)) 7 false))
      [(Reg.GNSC_SNAP_T_L, lo32 now), (Reg.GNSC_SNAP_T_H, hi32 now)] }

/-- A trigger while none of the buffer's works is in progress begins a capture. -/
theorem snapStart_idle (h : u.snapBusy = false) : Gns.snapStart now epoch u = W.of (Gns.captureBegun now epoch u) :=
  if_neg (by rw [h]; decide)

/-- A trigger while the buffer exports or is processed is shown and recorded as missed. -/
theorem snapStart_busy (h : u.snapBusy = true) (hc : u.capture = none) : Gns.snapStart now epoch u =
    ((W.of (u.mod Reg.GNSC_SNAP_STAT (fun x => putBit x 7 true))).evt Pg.GNSC 6).code Pg.GNSC 0x1650 [] := by
  unfold Gns.snapStart
  simp only [h, hc, if_true, Bool.false_eq_true, if_false]

/-- A capture in progress shows CAPTURING and its instant. -/
theorem captureBegun_shown : rbit (Gns.captureBegun now epoch u).regs Reg.GNSC_SNAP_STAT 0 = true ∧
    rget (Gns.captureBegun now epoch u).regs Reg.GNSC_SNAP_T_L = lo32 now := by
  refine ⟨?_, rget_rsets_first (l := [(Reg.GNSC_SNAP_T_H, hi32 now)]) (by simp)⟩
  have hstat : rget (Gns.captureBegun now epoch u).regs Reg.GNSC_SNAP_STAT =
      putBit (putBit (putBit (putBit (putBit (rget u.regs Reg.GNSC_SNAP_STAT) 0 true) 3 false) 4 false) 5
        (rbit u.regs Reg.GNSC_STAT 5)) 7 false := by
    refine (rget_rsets_of_ne _ _ _ (by simp)).trans ?_
    rw [rget_rmod, if_pos rfl]
  rw [rbit, hstat]
  simp [bit_putBit]

/-- EXPORT leaves the capture and all of GNSC_SNAP_STAT but EXPORTING and DROPPED. -/
theorem exportStart_leaves (feat10 : Bool) (u : Gns) : (u.exportStart feat10).capture = u.capture ∧
    ∀ i, i < 32 → i ≠ 1 → i ≠ 6 → rbit (u.exportStart feat10).regs Reg.GNSC_SNAP_STAT i = rbit u.regs Reg.GNSC_SNAP_STAT i := by
  unfold Gns.exportStart
  split
  · refine ⟨rfl, fun i hi h1 h6 => ?_⟩
    dsimp only
    rw [rbit, rget_rmod, if_pos rfl, bit_putBit _ _ _ hi, if_neg h6, bit_putBit _ _ _ hi, if_neg h1, rbit]
  · exact ⟨rfl, fun _ _ _ _ => rfl⟩

/-- The n bytes of samples that a capture leaves in the buffer: those it was given, then zeros. -/
def snapBody (n : Nat) (samples : List Byte) : List Byte := (samples ++ List.replicate (n - samples.length) 0#8).take n

theorem length_snapBody (n : Nat) (samples : List Byte) : (snapBody n samples).length = n := by
  unfold snapBody
  rw [List.length_take, List.length_append, List.length_replicate]
  omega

theorem getElem?_snapBody {n i : Nat} {samples : List Byte} (hn : i < n) (h : i < samples.length) :
    (snapBody n samples)[i]? = some samples[i] := by
  unfold snapBody
  rw [List.getElem?_take_of_lt hn, List.getElem?_append_left h, List.getElem?_eq_getElem h]

/-- The store that ends a capture: a header, and n bytes of samples after it. -/
def captureStore (head : List Byte) (n : Nat) (samples : List Byte) : Store :=
  ⟨Pg.GNSC, 0x54000000, head ++ snapBody n samples, false⟩

/-- The end of a capture stores the header, its sync word first, and the samples after it (R152). -/
theorem captureEnd_stores {t0 : Int} {lenMs ant : Nat} (samples : List Byte) (feat10 : Bool) (h : u.capture = some (t0, lenMs, ant, epoch)) :
    ∃ v head, Gns.captureEnd samples feat10 u =
        ⟨v, (((W.of u).evt Pg.GNSC 5).code Pg.GNSC 0x0653 []).fx, [captureStore head (snapBytes lenMs ant) samples]⟩ ∧
      head.length = 32 ∧ head.take 4 = leBytes 4 0x5A7C5703 ∧ v.capture = none ∧ rbit v.regs Reg.GNSC_SNAP_STAT 0 = false ∧
      rbit v.regs Reg.GNSC_SNAP_STAT 3 = true := by
  let v : Gns := { u with
    capture := none
    regs := rmod u.regs Reg.GNSC_SNAP_STAT (fun x => incWrapField (putBit (putBit x 0 false) 3 true) 31 16) }
  have hbits : ∀ i, i < 16 → rbit v.regs Reg.GNSC_SNAP_STAT i = if i = 3 then true else if i = 0 then false else
      rbit u.regs Reg.GNSC_SNAP_STAT i := fun i hi => by
    have hlow : ∀ w : Word, bit (incWrapField w 31 16) i = bit w i := fun w =>
      (getLsbD_putBits _ _ _ _ (by decide) (by omega)).trans (if_neg (by omega))
    rw [rbit, rget_rmod, if_pos rfl, hlow, bit_putBit _ _ _ (by omega), bit_putBit _ _ _ (by omega), rbit]
  obtain ⟨hcapture, hkeeps⟩ := exportStart_leaves feat10 v
  unfold Gns.captureEnd
  rw [h]
  refine ⟨if rbit v.regs Reg.GNSC_SNAP_CFG 22 then v.exportStart feat10 else v, _, rfl, rfl, rfl, ?_⟩
  split
  · rw [hcapture, hkeeps 0 (by decide) (by decide) (by decide), hkeeps 3 (by decide) (by decide) (by decide), hbits 0 (by decide),
      hbits 3 (by decide)]
    exact ⟨rfl, rfl, rfl⟩
  · rw [hbits 0 (by decide), hbits 3 (by decide)]
    exact ⟨rfl, rfl, rfl⟩

end

/-- A byte stored. -/
theorem byte_store_at {m : Mem} {st : Store} {i : Nat} {b : Byte} (h : st.data[i]? = some b) : (m.store st).byte (st.addr + i) = b := by
  rw [byte_store, if_pos (Nat.le_add_right ..), Nat.add_sub_cancel_left, h]
  rfl

section
variable {m : Mem} {head samples : List Byte} {n i : Nat} (h32 : head.length = 32)
include h32

/-- The samples in the buffer after the end of a capture. -/
theorem byte_captureStore_sample (hn : i < n) (h : i < samples.length) :
    (m.store (captureStore head n samples)).byte (0x54000000 + 32 + i) = samples[i] := by
  rw [Nat.add_assoc]
  refine byte_store_at (st := captureStore head n samples) ?_
  show (head ++ snapBody n samples)[32 + i]? = some samples[i]
  rw [List.getElem?_append_right (by omega), h32, Nat.add_sub_cancel_left, getElem?_snapBody hn h]

/-- The sync word in the buffer after the end of a capture. -/
theorem byte_captureStore_sync {sync : List Byte} (hs : head.take 4 = sync) (h : i < sync.length) :
    (m.store (captureStore head n samples)).byte (0x54000000 + i) = sync[i] := by
  have h4 : i < 4 ∧ i < head.length := by
    rw [← hs, List.length_take] at h
    omega
  refine byte_store_at (st := captureStore head n samples) ?_
  show (head ++ snapBody n samples)[i]? = some sync[i]
  rw [List.getElem?_append_left h4.2, ← List.getElem?_take_of_lt h4.1, hs, List.getElem?_eq_getElem h]

/-- The bytes outside the buffer's header and samples after the end of a capture. -/
theorem byte_captureStore_outside (h : i < 0x54000000 ∨ 0x54000000 + (32 + n) ≤ i) :
    (m.store (captureStore head n samples)).byte i = m.byte i := by
  refine byte_store_outside _ _ _ ?_
  show i < 0x54000000 ∨ 0x54000000 + (head ++ snapBody n samples).length ≤ i
  rw [List.length_append, h32, length_snapBody]
  exact h

end

/-- SNAPSHOT_CAPTURE_END of a capture in progress. -/
theorem snapshotCaptureEnd_runs (a : At) {samples : List Byte} {t0 : Int} {lenMs ant epoch : Nat} {s : State} (hp : s.pageUp Pg.GNSC = true)
    (hc : s.gns.capture = some (t0, lenMs, ant, epoch)) :
    ∃ t head, exec (.snapshotCaptureEnd a samples) s = .next t ∧ head.length = 32 ∧ head.take 4 = leBytes 4 0x5A7C5703 ∧
      t.gns.capture = none ∧ rbit t.gns.regs Reg.GNSC_SNAP_STAT 0 = false ∧ rbit t.gns.regs Reg.GNSC_SNAP_STAT 3 = true ∧
      t.errCode Pg.GNSC = 0x0653 ∧ t.shell = { (s.at_ a).shell with gns := t.gns } ∧ ∀ b, t.mem.byte b =
        ((s.at_ a).mem.store (captureStore head (snapBytes lenMs ant) samples)).byte b := by
  obtain ⟨v, head, hwork, h32, h4, hcapture, h0, h3⟩ := captureEnd_stores samples (s.feature 10) hc
  have hx : exec (.snapshotCaptureEnd a samples) s = .next ((s.at_ a).onGns (Gns.captureEnd samples (s.feature 10))) :=
    congrArg Host.Outcome.next (upOn_up (s := s.at_ a) _ hp)
  have hgns : ((s.at_ a).onGns (Gns.captureEnd samples (s.feature 10))).gns = v := by rw [onGns_gns, at_gns, hwork]
  refine ⟨_, head, hx, h32, h4, hgns ▸ hcapture, hgns ▸ h0, hgns ▸ h3, ?_, ?_, fun b => ?_⟩
  · unfold State.onGns
    rw [at_gns, hwork]
    exact errCode_commit_last (l := []) (c := ⟨Pg.GNSC, 0x0653, [], false⟩) _ _ rfl (by decide) rfl rfl rfl
  · rw [shell_onGns, onGns_gns]
  · rw [byte_onGns, at_gns, hwork]
    rfl

/-! ## Writes of GNSC_SNAP_CTRL (R151, R153, R154) -/

/-- GNSC_SNAP_CTRL's row: START, EXPORT and PROCESS act when written with 1. -/
abbrev snapCtrlRow : RegRow := ⟨Reg.GNSC_SNAP_CTRL % 0x400, 0, 0, 0, 0, 0, 7, 0, 1⟩

/-- GNS with the cell of GNSC_SNAP_CTRL as a taken write leaves it. -/
def Gns.snapCell (run : Bool) (v : Word) (u : Gns) : Gns :=
  { u with regs := rset u.regs Reg.GNSC_SNAP_CTRL (snapCtrlRow.written run (rget u.regs Reg.GNSC_SNAP_CTRL) v) }

section
variable (run : Bool) (v : Word) (u : Gns)

theorem rget_snapCell {k : Nat} (h : k ≠ Reg.GNSC_SNAP_CTRL) : rget (Gns.snapCell run v u).regs k = rget u.regs k :=
  (rget_rset ..).trans (if_neg h)

theorem rbit_snapCell {k : Nat} (i : Nat) (h : k ≠ Reg.GNSC_SNAP_CTRL) : rbit (Gns.snapCell run v u).regs k i = rbit u.regs k i :=
  congrArg (bit · i) (rget_snapCell run v u h)

theorem snapBusy_snapCell : (Gns.snapCell run v u).snapBusy = u.snapBusy :=
  congrArg (fun w => bits w 2 0 != 0) (rget_snapCell run v u (by decide))

end

/-- What a write of GNSC_SNAP_CTRL whose own effect is work w of GNS makes of s: GNS and the codes as the work leaves them, PAGE_SEQ
counted (R435), and the bytes it stores. -/
structure State.TakesSnap (s : State) (w : W Gns) (t : State) : Prop where
  gns : t.gns = w.u
  counted : t.pageSeq Pg.GNSC = s.pageSeq Pg.GNSC + 1#32
  errCode : ∃ z : State, t.errCode Pg.GNSC = (z.commit w.fx w.st).errCode Pg.GNSC
  byte : ∀ b, t.mem.byte b = (s.mem.stores w.st).byte b

/-- A taken write of GNSC_SNAP_CTRL whose own effect on t is the work g t of GNS. -/
theorem snapCtrl_taken (acc : Accessor) {v : Word} {s : State} {g : State → Gns → W Gns} {w : W Gns}
    (h : s.Admits acc Pg.GNSC (Reg.GNSC_SNAP_CTRL % 0x400)) (ht : ∀ run, snapCtrlRow.takes run v = true)
    (hf : ∀ old t, State.actPlain Reg.GNSC_SNAP_CTRL 0 0 v old t = t.onGns (g t))
    (hg : ∀ hdr gns, g { s with hdr := hdr, gns := gns } = g s) (hw : g s (Gns.snapCell (s.mode == .run) v s.gns) = w) :
    State.TakesSnap s w (s.writePlain acc Reg.GNSC_SNAP_CTRL 0 v) := by
  let z : State := { s with
    hdr := hdrSeq s.hdr Pg.GNSC
    gns := Gns.snapCell (s.mode == .run) v s.gns }
  have hx : s.writePlain acc Reg.GNSC_SNAP_CTRL 0 v = (z.onGns (g s)).releaseIdle := by
    refine (writePlain_taken acc Reg.GNSC_SNAP_CTRL 0 v s h (by decide) (by decide) snapCtrlRow 0 (by decide) (by decide) (by decide) rfl
      (.inl rfl) (by decide) rfl (ht _)).trans ?_
    rw [hf, ← hg z.hdr z.gns]
    rfl
  have hz : g s z.gns = w := hw
  rw [hx]
  refine ⟨?_, ?_, ⟨{ z with gns := w.u }, ?_⟩, fun b => ?_⟩
  · rw [releaseIdle_gns, onGns_gns, hz]
  · rw [releaseIdle_pageSeq]
    exact (commit_pageSeq ..).trans (pageSeq_hdrSeq ..)
  · unfold State.errCode
    rw [releaseIdle_pageErr _ _ (by decide) (by decide), State.onGns, hz]
  · rw [releaseIdle_mem, byte_onGns, hz]

section
variable (acc : Accessor) {s : State} {w : W Gns} (h : s.Admits acc Pg.GNSC (Reg.GNSC_SNAP_CTRL % 0x400))
include h

/-- A write of START is a trigger (R151). -/
theorem start_taken (hw : Gns.snapStart s.tim.time s.epoch (Gns.snapCell (s.mode == .run) 1#32 s.gns) = w) :
    State.TakesSnap s w (s.writePlain acc Reg.GNSC_SNAP_CTRL 0 1#32) :=
  snapCtrl_taken (g := fun t => Gns.snapStart t.tim.time t.epoch) acc h (by decide) (fun _ _ => rfl) (fun _ _ => rfl) hw

/-- A write of EXPORT begins the sending of the buffer (R153). -/
theorem export_taken : State.TakesSnap s (W.of ((Gns.snapCell (s.mode == .run) 2#32 s.gns).exportStart (s.feature 10)))
    (s.writePlain acc Reg.GNSC_SNAP_CTRL 0 2#32) :=
  snapCtrl_taken (g := fun t u => W.of (u.exportStart (t.feature 10))) acc h (by decide) (fun _ _ => (commit_none _).symm)
    (fun _ _ => rfl) rfl

/-- A write of PROCESS begins the fix (R154). -/
theorem process_taken (hw : Gns.process (s.grant 19) (Gns.snapCell (s.mode == .run) 4#32 s.gns) = w) :
    State.TakesSnap s w (s.writePlain acc Reg.GNSC_SNAP_CTRL 0 4#32) :=
  snapCtrl_taken (g := fun t => Gns.process (t.grant 19)) acc h (by decide) (fun _ _ => rfl) (fun _ _ => rfl) hw

end

/-! ## Exports (R153) -/

/-- EXPORT of a filled buffer begins with its header packet. -/
theorem exportStart_begins {u : Gns} {feat10 : Bool} (h10 : feat10 = true) (h3 : rbit u.regs Reg.GNSC_SNAP_STAT 3 = true)
    (hb : u.snapBusy = false) :
    (u.exportStart feat10).exported = 0 ∧ rbit (u.exportStart feat10).regs Reg.GNSC_SNAP_STAT 1 = true := by
  unfold Gns.exportStart
  rw [h10, h3, hb, if_pos (by decide)]
  exact ⟨rfl, by rw [rbit, rget_rmod, if_pos rfl]; simp [bit_putBit]⟩

theorem pushes_commitPacket (n : Nat) (w : W Fq) : (Fq.commit n w).fx.pushes = w.fx.pushes := by
  unfold Fq.commit W.when
  dsimp only
  split <;> rfl

theorem pushes_pushWord (unit n : Nat) (x : Word) (last : Bool) (bad : BitVec 4) (w : W Fq) :
    (Fq.push unit n x last bad w).fx.pushes = w.fx.pushes := by
  unfold Fq.push
  dsimp only
  split
  · rfl
  split
  · rfl
  split
  · rfl
  split
  · rfl
  split
  · exact pushes_commitPacket ..
  · rfl

/-- A packet that enters its firkin asks for no packet. -/
theorem pushes_pushWords (unit n : Nat) (l : List (Word × Bool)) (w : W Fq) : (Fq.pushWords unit n l w).fx.pushes = w.fx.pushes := by
  induction l generalizing w with
  | nil => rfl
  | cons p l ih =>
    cases l with
    | nil => exact pushes_pushWord ..
    | cons q l => exact (ih _).trans (pushes_pushWord ..)

/-- t has of s what the firkins hold, the bytes of memory and the count of packets sent. -/
structure State.SameSent (s t : State) : Prop where
  firkin : ∀ n, t.fq.firkin n = s.fq.firkin n
  byte : s.SameBytes t
  exported : t.gns.exported = s.gns.exported

theorem sameSent_done (dropped : Bool) (s : State) : State.SameSent s (s.onGns (fun u => Gns.exportDone dropped (W.of u))) := by
  have hwork : ∀ u : Gns, let w := Gns.exportDone dropped (W.of u)
      w.u.exported = u.exported ∧ w.st = [] ∧ w.fx.pushes = [] := fun u => by
    unfold Gns.exportDone
    cases dropped <;> exact ⟨rfl, rfl, rfl⟩
  obtain ⟨hexported, hst, hpushes⟩ := hwork s.gns
  refine ⟨fun n => firkin_commit _ _ _ hpushes n, fun b => ?_, ?_⟩
  · rw [byte_onGns, hst]
    rfl
  · rw [onGns_gns, hexported]

/-- One packet sent (R153): it is pushed into its firkin, counted, and nothing is stored. -/
theorem exportPackets_one {fk total : Nat} {s : State} (h : s.gns.exported < total) :
    let t := s.exportPackets fk total 1
    t.gns.exported = s.gns.exported + 1 ∧
      (∀ n, t.fq.firkin n = (Fq.pushPacket (W.of s.fq) ⟨0x16, fk, snapPacket s.mem s.gns.exported⟩).u.firkin n) ∧ s.SameBytes t := by
  unfold State.exportPackets
  rw [if_neg (Nat.not_le.mpr h)]
  extract_lets k w left w' _ s1 t
  have hw : w'.u = w.u ∧ w'.st = w.st ∧ w'.fx.pushes = w.fx.pushes := by
    show (ite _ _ _ : W Fq).u = _ ∧ (ite _ _ _ : W Fq).st = _ ∧ (ite _ _ _ : W Fq).fx.pushes = _
    split <;> exact ⟨rfl, rfl, rfl⟩
  obtain ⟨hu, hst, hpushes⟩ := hw
  have h1 : s1.gns.exported = s.gns.exported + 1 := congrArg Gns.exported (commit_gns ..)
  have h2 : ∀ n, s1.fq.firkin n = w.u.firkin n := fun n =>
    (firkin_commit _ _ _ (hpushes.trans (pushes_pushWords ..)) n).trans (congrArg (Fq.firkin · n) hu)
  have h3 : s.SameBytes s1 := fun b => by
    refine (bytes_commit ..).trans ?_
    rw [hst, st_pushPacket]
    rfl
  have ht : State.SameSent s1 t := by
    show State.SameSent s1 (if _ then _ else _)
    split
    · exact sameSent_done true s1
    · unfold State.exportPackets
      split
      · exact sameSent_done false s1
      · exact ⟨fun _ => rfl, fun _ => rfl, rfl⟩
  exact ⟨ht.exported.trans h1, fun n => (ht.firkin n).trans (h2 n), fun b => (ht.byte b).trans (h3 b)⟩

/-! ## Processing (R154) -/

section
variable {u : Gns}

/-- PROCESS on a filled buffer begins the fix with its grant. -/
theorem process_granted (h3 : rbit u.regs Reg.GNSC_SNAP_STAT 3 = true) (hb : u.snapBusy = false) :
    Gns.process true u = W.of (u.mod Reg.GNSC_SNAP_STAT (fun x => putBit x 2 true)) := by
  unfold Gns.process
  rw [h3, hb]
  rfl

/-- PROCESS on a filled buffer without its grant leaves its code (R394). -/
theorem process_ungranted (h3 : rbit u.regs Reg.GNSC_SNAP_STAT 3 = true) (hb : u.snapBusy = false) :
    Gns.process false u = ((W.of u).evt Pg.GNSC 6).code Pg.GNSC 0x2652 [] := by
  unfold Gns.process
  rw [h3, hb]
  rfl

/-- The end of a fix clears PROCESSING, changes no more than registers, and stores nothing. -/
theorem fixDone_ends (m : Mem) (now : Int) (h : rbit u.regs Reg.GNSC_SNAP_STAT 2 = true) :
    ∃ r, (Gns.fixDone m now u).u = { u with regs := r } ∧ rbit r Reg.GNSC_SNAP_STAT 2 = false ∧ (Gns.fixDone m now u).st = [] := by
  let r := rmod u.regs Reg.GNSC_SNAP_STAT (fun x => putBit x 2 false)
  have hr : rbit r Reg.GNSC_SNAP_STAT 2 = false := (rbit_putBit _ _ _ _ (by decide)).trans (if_pos rfl)
  unfold Gns.fixDone
  rw [h, if_neg (by decide)]
  extract_lets f ok w
  split
  · refine ⟨rsets r _, rfl, ?_, rfl⟩
    rw [rbit, rget_rsets_of_ne _ _ _ (by simp)]
    exact hr
  · refine ⟨rmod r Reg.GNSC_SFIX_STAT (fun x => putBit x 0 false), rfl, ?_, rfl⟩
    rw [rbit, rget_rmod, if_neg (by decide)]
    exact hr

end

/-- Settles O21: the two PVTs by what their work answers, PPS OUT and the fix by what GNS's work leaves, the commands of GNSC_SNAP_CTRL by
the work their write does, the end of a capture by its one store, and a packet by the push it is. -/
theorem gnssSolutionAndSnapshotCommands : Obligations.GnssSolutionAndSnapshotCommands := by
  unfold Obligations.GnssSolutionAndSnapshotCommands
  refine ⟨fun a idx x s hs hu ho hshort => ?_, fun a idx x s hs hu ho hlong => ?_, fun a s hw hm he h11 hn => ?_, fun a s he => ?_,
    fun a s hp => ?_, fun a acc s h hb => ?_, fun a acc s h hb hc => ?_, fun a idx x s hs hu ho hb => ?_,
    fun a samples t0 lenMs ant epoch s hp hc => ?_, fun a acc s h h10 h3 hb => ?_, fun a s hp h1 hg hi hlt => ?_,
    fun a acc s h h3 hb => ?_, fun a s hp h2 => ?_⟩
  case refine_1 =>
    obtain ⟨t, hx, ⟨hseq, -, hbytes⟩, hgns, hcodes, -⟩ := pvt_runs hs hu ho (pvt_short hshort)
    refine ⟨t, hx, hseq, (hcodes _).trans ?_, hgns ▸ rfl, hgns ▸ rfl, fun b => (hbytes b).trans (byte_strike ..)⟩
    exact errCode_commit _ _ Pg.GNSC ⟨Pg.GNSC, 0x2660, [], false⟩ (by decide) rfl rfl rfl rfl rfl
  case refine_2 =>
    obtain ⟨new, hsolves, hunused, hused⟩ := pvt_solves (feat9 := s.feature 9) (cut := !s.grant 19)
      (selected := (s.at_ a).tim.selected == 2) (i := (s.at_ a).handed idx x) (u := s.gns) hlong
    obtain ⟨hok, hchans, hshown, hsilent, hspent, d, hst, hd⟩ := hsolves
    obtain ⟨t, hx, ha, hgns, -, hshell⟩ := pvt_runs hs hu ho rfl
    have ⟨hseq, _, hbytes⟩ := ha
    refine ⟨t, hx, ha, by rw [hseq, hok]; rfl, hgns ▸ hchans, fun he => ?_, fun hc he => ?_, fun b hb => ?_, hshell⟩
    · exact hgns ▸ ⟨hshown.trans (hunused he), hsilent (hunused he)⟩
    · exact hgns ▸ ⟨hshown.trans (hused hc he), hspent (hused hc he)⟩
    · rw [hbytes, hst]
      exact (byte_store_outside _ _ _ (hd.symm ▸ hb)).trans (byte_strike ..)
  case refine_3 =>
    obtain ⟨hgns, hshell, hbytes⟩ := onGns_leaves (a := a) (f := Gns.ppsPulse (s.at_ a).tim.time s.mode.active)
      ((congrArg (Gns.ppsPulse _ · _) hm).trans (ppsPulse_begins he h11 hn)) rfl
    exact ⟨_, congrArg Host.Outcome.next (workOn_works (s := s.at_ a) _ hw), hgns ▸ rfl, hgns ▸ rfl, hgns ▸ rfl, hshell, hbytes⟩
  case refine_4 =>
    obtain ⟨hgns, hshell, hbytes⟩ := onGns_leaves (a := a) (ppsPulse_disabled (now := (s.at_ a).tim.time) (states := s.mode.active) he) rfl
    by_cases hw : s.works Pg.GNSC = true
    · exact ⟨_, congrArg Host.Outcome.next (workOn_works (s := s.at_ a) _ hw), hgns, hshell.trans (hgns ▸ rfl), hbytes⟩
    · exact ⟨s.at_ a, congrArg Host.Outcome.next (if_neg (c := (s.at_ a).works _ = true) hw), rfl, rfl, fun _ => byte_strike ..⟩
  case refine_5 =>
    obtain ⟨hgns, hshell, hbytes⟩ := onGns_leaves (a := a) (f := Gns.ppsEnd) (s := s) rfl rfl
    exact ⟨_, congrArg Host.Outcome.next (upOn_up (s := s.at_ a) _ hp), hgns, hshell, hbytes⟩
  case refine_6 =>
    obtain ⟨hgns, hseq, -, hbytes⟩ := start_taken (s := s.at_ a) acc h (snapStart_idle ((snapBusy_snapCell ..).trans hb))
    obtain ⟨hshown, htime⟩ := captureBegun_shown (now := (s.at_ a).tim.time) (epoch := (s.at_ a).epoch)
      (u := Gns.snapCell (s.mode == .run) 1#32 s.gns)
    refine ⟨_, rfl, ?_, hgns ▸ hshown, hgns ▸ htime, hgns ▸ rfl, hseq, hbytes⟩
    rw [hgns, u_of, Gns.captureBegun, rfld, rfld, rget_snapCell _ _ _ (by decide)]
    rfl
  case refine_7 =>
    obtain ⟨hgns, -, ⟨z, hcode⟩, hbytes⟩ := start_taken (s := s.at_ a) acc h (snapStart_busy ((snapBusy_snapCell ..).trans hb) hc)
    refine ⟨_, rfl, ?_, hgns ▸ hc, hcode.trans ?_, hbytes⟩
    · rw [hgns]
      exact (rbit_putBit _ _ _ _ (by decide)).trans (if_pos rfl)
    · exact errCode_commit _ _ Pg.GNSC ⟨Pg.GNSC, 0x1650, [], false⟩ (by decide) rfl rfl rfl rfl rfl
  case refine_8 =>
    obtain ⟨⟨hseq, -, hbytes⟩, hgns, -, -⟩ := startSpan_gns (F := fun _ _ z => R.good (Gns.snapStart z.tim.time z.epoch z.gns)) hs
      (isOp_of hu ho) (congrArg R.good (snapStart_idle hb))
    exact ⟨_, rfl, hseq, hgns ▸ rfl, hgns ▸ rfl, hbytes⟩
  case refine_9 =>
    obtain ⟨t, head, hx, h32, h4, hcapture, h0, h3, hcode, hshell, hbytes⟩ := snapshotCaptureEnd_runs a (samples := samples) hp hc
    exact ⟨t, hx, hcapture, h0, h3, hcode, fun i h hn => (hbytes _).trans (byte_captureStore_sample h32 hn h),
      fun i h => (hbytes _).trans (byte_captureStore_sync h32 h4 h),
      fun b hb => (hbytes b).trans ((byte_captureStore_outside h32 hb).trans (byte_strike ..)), hshell⟩
  case refine_10 =>
    have hb' := (snapBusy_snapCell (s.mode == .run) 2#32 s.gns).trans hb
    obtain ⟨hgns, -, -, hbytes⟩ := export_taken (s := s.at_ a) acc h
    obtain ⟨hexported, hshown⟩ := exportStart_begins h10 ((rbit_snapCell _ _ _ 3 (by decide)).trans h3) hb'
    exact ⟨_, rfl, hgns ▸ hshown, hgns ▸ hexported, hgns ▸ (exportStart_leaves _ _).1, hbytes⟩
  case refine_11 =>
    obtain ⟨hexported, hfirkin, hbytes⟩ := exportPackets_one (s := s.at_ a) (fk := rfld s.gns.regs Reg.GNSC_SNAP_CFG 21 16) hlt
    refine ⟨_, congrArg Host.Outcome.next ((upOn_up (s := s.at_ a) _ hp).trans (if_pos ?_)), hexported, hfirkin _, hbytes⟩
    simp only [Bool.and_eq_true]
    exact ⟨⟨h1, hg⟩, hi⟩
  case refine_12 =>
    have hb' := (snapBusy_snapCell (s.mode == .run) 4#32 s.gns).trans hb
    have h3' := (rbit_snapCell (s.mode == .run) 4#32 s.gns 3 (by decide)).trans h3
    have hstat := rbit_snapCell (s.mode == .run) 4#32 s.gns 2 (k := Reg.GNSC_SNAP_STAT) (by decide)
    cases hg : s.grant 19 with
    | true =>
      obtain ⟨hgns, -, -, hbytes⟩ := process_taken (s := s.at_ a) acc h ((congrArg (Gns.process · _) hg).trans (process_granted h3' hb'))
      refine ⟨_, rfl, fun _ => ?_, fun hf => absurd hf (by decide), hgns ▸ rfl, hgns ▸ rfl, hbytes⟩
      rw [hgns]
      exact (rbit_putBit _ _ _ _ (by decide)).trans (if_pos rfl)
    | false =>
      obtain ⟨hgns, -, ⟨z, hcode⟩, hbytes⟩ := process_taken (s := s.at_ a) acc h
        ((congrArg (Gns.process · _) hg).trans (process_ungranted h3' hb'))
      refine ⟨_, rfl, fun hf => absurd hf (by decide), fun _ => ⟨hgns ▸ hstat, hcode.trans ?_⟩, hgns ▸ rfl, hgns ▸ rfl, hbytes⟩
      exact errCode_commit _ _ Pg.GNSC ⟨Pg.GNSC, 0x2652, [], false⟩ (by decide) rfl rfl rfl rfl rfl
  case refine_13 =>
    obtain ⟨r, hu, hshown, hst⟩ := fixDone_ends (s.at_ a).mem (s.at_ a).tim.time h2
    obtain ⟨hgns, hshell, hbytes⟩ := onGns_leaves (a := a) (s := s) (f := Gns.fixDone (s.at_ a).mem (s.at_ a).tim.time) rfl hst
    rw [hu] at hgns
    exact ⟨_, congrArg Host.Outcome.next (upOn_up (s := s.at_ a) _ hp), hgns ▸ hshown, hgns ▸ rfl, hshell, hbytes⟩

end Sys2Proof.Proofs
end

section
/-! CTL0 and CTL1: the START of a LOOPS (R173, R183, R189). -/

namespace Sys2Proof.Proofs

open Sys2Proof Sys2Proof.Machine

-- One proof after another: many at once wait for the kernel in threads of their own, which the check's memory limit does not hold.
set_option Elab.async false

/-! ## The work of a LOOPS (R173, R189) -/

/-- CTL with CTLn_STAT.MISS of engine n at 1. -/
def Ctl.missed (n : Nat) (u : Ctl) : Ctl := { u with regs := rmod u.regs (rk Reg.CTL_STAT n 0) (fun x => putBit x 0 true) }

theorem rbit_ctlMissed (n : Nat) (u : Ctl) : rbit (Ctl.missed n u).regs (rk Reg.CTL_STAT n 0) 0 = true :=
  (rbit_putBit _ _ _ _ (by decide)).trans (if_pos rfl)

/-- An even word has bit 0 at 0. -/
theorem bit_zero_even (k : Nat) : bit (wd (2 * k)) 0 = false := by
  unfold bit wd
  rw [BitVec.getLsbD_ofNat, Nat.testBit_zero, Nat.mul_mod_right]
  rfl

/-- CTLn_I_STAT set for a list of instances leaves the cells of other registers. -/
theorem rget_setStats {n j : Nat} (m : Mem) (r : LoopRun) (ks : List Nat) (regs : RMap) (h : ∀ k, j ≠ rk Reg.CTL_I_STAT n k) :
    rget (ks.foldl (Ctl.setStat n m r) regs) j = rget regs j :=
  foldl_keeps (fun x : RMap => rget x j = rget regs j) (Ctl.setStat n m r)
    (fun x k hx => by
      unfold Ctl.setStat
      rw [rget_rmod, if_neg (h k), hx]) ks regs rfl

/-- Steps that leave a part of the unit leave it one after another. -/
theorem u_foldl {U V B : Type} {g : U → V} {f : W U → B → W U} (hf : ∀ v b, g (f v b).u = g v.u) (l : List B) (w : W U) :
    g (l.foldl f w).u = g w.u :=
  foldl_keeps (fun v : W U => g v.u = g w.u) f (fun v b hv => (hf v b).trans hv) l w rfl

/-- Cells of registers at different offsets of their pages are different. -/
theorem rk_ne {r q n m w : Nat} (v : Nat) (h : r % 0x400 ≠ q % 0x400) : rk r n w ≠ rk q m v := fun e =>
  h (by rw [← rk_offset r n w, e, rk_offset])

section
variable {n : Nat} {i : SpanIn} {on held : Bool} {stageIn : StageIn} {reads : List Nat} {u : Ctl}

/-- Operands too short (R173): no result, MISS, the code last of all, and nothing stored. -/
theorem loops_short (hdue : u.swapDue n = []) (hfit : u.fits n i = false) :
    ∃ w : W Ctl, Ctl.loops n i on held stageIn reads u = R.bad ((w.evt (ctlPage n) 0).code (ctlPage n) 0x2802 []) ∧
      w.u = Ctl.missed n { u with swaps := u.swaps.filter (fun k => k / 512 != n) } ∧ w.st = [] ∧ w.Quiet := by
  unfold Ctl.loops
  rw [hdue]
  extract_lets page due swaps w0 w1 w2 i1 miss ens bad w3
  have hread : w3.u = w2.u := u_foldl (g := id) (by intro _ _; rfl) ens w2
  have hstored : w3.st = [] := st_foldl _ (by intro _ _; rfl) ens w2
  have hquiet : w3.Quiet := quiet_foldl _ (fun _ _ h => h.readN ..) ens w2 (quiet_of _)
  have hshort : (!u.fits n i1) = true := congrArg not hfit
  exact ⟨w3.map miss, if_pos hshort, congrArg miss hread, hstored, hquiet.map miss⟩

/-- Every block of the run sound (R173): a result, whose loop states wait for the publication, the setpoint stage as it was, and MISS at
0. -/
theorem loops_sound (hdue : u.swapDue n = []) (hfit : u.fits n i = true) (hm : ∀ b, i.mem.isBad b = false) :
    ∃ w : W Ctl, Ctl.loops n i on held stageIn reads u = R.good w ∧ w.u.stage = u.stage ∧ w.u.work.any (fun e => e.1 == n) = true ∧
      rbit w.u.regs (rk Reg.CTL_STAT n 0) 0 = false := by
  unfold Ctl.loops
  rw [hdue]
  extract_lets page due swaps w0 w1 w2 i1 miss ens bad w3 sr stage r0 r visRec fin rec_ codes w4 w5 w6 w7 w8 w9 w10 stat w11 w12 w13 hw w14
  have hlong : ¬ (!u.fits n i1) = true := by
    rw [show u.fits n i1 = true from hfit]
    decide
  have hsound : ¬ bad = true := by
    simp only [bad, anyBad_sound (show ∀ b, i1.mem.isBad b = false from hm), List.any_eq_true, Bool.false_eq_true, and_false,
      exists_false, not_false_eq_true]
  refine ⟨w14, (if_neg hlong).trans (if_neg hsound), ?_⟩
  have h3 : w3.u.stage = u.stage := u_foldl (g := Ctl.stage) (by intro _ _; rfl) ens w2
  have h5 : w5.u.stage = w3.u.stage := (u_foldl (g := Ctl.stage) (by intro _ _; rfl) _ w4).trans (u_foldl (by intro _ _; rfl) codes w3)
  have h7 : w7.u.stage = w5.u.stage := (u_foldl (g := Ctl.stage) (by intro _ _; rfl) _ w6).trans (u_when (by intro _; rfl) _ w5)
  have h8 : w8.u.stage = w7.u.stage := u_foldl (g := Ctl.stage) (by intro _ _; rfl) _ w7
  have h10 : w10.u.stage = w8.u.stage := (u_when (g := Ctl.stage) (by intro _; rfl) _ w9).trans (u_when (by intro _; rfl) _ w8)
  have h14 : w14.u = w11.u := (u_when (g := id) (by exact fun v => u_foldl (by intro _ _; rfl) _ v) _ w13).trans
    ((u_when (by intro _; rfl) _ w12).trans (u_foldl (by intro _ _; rfl) _ w11))
  rw [h14]
  refine ⟨h10.trans (h8.trans (h7.trans (h5.trans h3))), by simp [w11], ?_⟩
  have hstat : rget w11.u.regs (rk Reg.CTL_STAT n 0) = stat :=
    (rget_setStats i1.mem r ens _ (fun k => rk_ne _ (by decide))).trans (rget_rsets_first (by simp [rk]))
  rw [rbit, hstat, ← bit_zero_even (b2n (!r.satd.isEmpty) + 2 * b2n (decide (0 < r.poison)) + 4 * b2n on + 8 * b2n (on && held)
    + 0x8000 * r.ran)]
  simp only [stat]
  congr 2
  ring

end

/-! ## The START of a LOOPS (R173, R183) -/

/-- CTL put back after the work of engine n, with k bank swaps counted in PAGE_SEQ (R435). -/
def putCtl (n k : Nat) (u : Ctl) (s : State) : State :=
  { s with
    ctl := u
    hdr := (upto k).foldl (fun h _ => hdrSeq h (ctlPage n)) s.hdr }

/-- Whether the setpoint stage runs in a LOOPS of engine n (R159). -/
abbrev stageAsked (x : Span) (n : Nat) : Bool := decide (n = 0) && bit x.arg 31

/-- What a LOOPS of engine n answers in the state that its unit works in. -/
abbrev loopsAnswer (n : Nat) (x : Span) (i : SpanIn) (s : State) : R Ctl :=
  Ctl.loops n i (stageAsked x n) (stageAsked x n && (s.stageReads i).blocks.any s.mem.isBad) (s.stageIn i (s.stageReads i))
    (if stageAsked x n then (s.stageReads i).blocks else []) s.ctl

/-- The work of a LOOPS is CTL's on what it finds at START. -/
theorem loopsWork_ran {n : Nat} {x : Span} (hu : x.unit = 0x12 + n) (i : SpanIn) (s : State) :
    State.loopsWork x i s = s.ran (putCtl n (s.ctl.swapDue n).length) (loopsAnswer n x i s) := by
  unfold State.loopsWork
  rw [show x.unit - 0x12 = n by omega]
  rfl

/-- A taken START does what the work does on what it is handed. -/
theorem startSpan_congr {s : State} {idx : Nat} {x : Span} {ok : Span → Bool} {now : Bool} {f g : Span → SpanIn → State → State × Bool}
    (h : s.Starts idx x) (hok : ok x = true) (hfg : f x (s.handed idx x) (s.begun idx) = g x (s.handed idx x) (s.begun idx)) :
    s.startSpan idx ok now f = s.startSpan idx ok now g := by
  rw [startSpan_taken h ok hok, startSpan_taken h ok hok, hfg]

/-- The START of a LOOPS: the answer of its work, CTL and the codes as the work leaves them, and the rest of the module as it was. -/
theorem loops_runs {a : At} {idx n : Nat} {x : Span} {s : State} (h : (s.at_ a).Starts idx x) (hu : x.unit = 0x12 + n) (hn : n < 2)
    (ho : x.opcode = 1) {r : R Ctl} (hr : loopsAnswer n x ((s.at_ a).handed idx x) ((s.at_ a).begun idx) = r) :
    ∃ t, exec (.loops a idx) s = .next t ∧ (s.at_ a).Answered t idx x r ∧ t.ctl = r.w.u ∧
      (∃ z : State, ∀ q, t.errCode q = (z.commit r.w.fx r.w.st).errCode q) ∧
      t.shell = { (s.at_ a).shell with
        seq := t.seq
        ctl := t.ctl
        free := s.free + 1 } := by
  let ok : Span → Bool := fun x => Span.isOp 0x12 1 x || Span.isOp 0x13 1 x
  let k := (s.ctl.swapDue n).length
  have hok : ok x = true := by
    obtain rfl | rfl : n = 0 ∨ n = 1 := by omega
    · exact Bool.or_eq_true_iff.mpr (.inl (isOp_of hu ho))
    · exact Bool.or_eq_true_iff.mpr (.inr (isOp_of hu ho))
  have hx : exec (.loops a idx) s = .next ((s.at_ a).startSpan idx ok false (fun x i z => z.ran (putCtl n k) (loopsAnswer n x i z))) :=
    congrArg Host.Outcome.next (startSpan_congr h hok (loopsWork_ran hu _ _))
  have hran := startSpan_ran h ok hok (putCtl n k) (fun _ _ => ⟨rfl, rfl⟩) (loopsAnswer n)
  obtain ⟨ha, hshell⟩ := startSpan_answers h ok hok (putCtl n k) (fun _ _ => ⟨rfl, rfl, rfl, rfl⟩) (loopsAnswer n)
  rw [hr] at hran ha hshell
  have hctl : ((putCtl n k r.w.u ((s.at_ a).begun idx)).commit r.w.fx r.w.st).ctl = r.w.u := commit_ctl ..
  have hcodes : ∃ z : State, ∀ q, ((putCtl n k r.w.u ((s.at_ a).begun idx)).commit r.w.fx r.w.st).errCode q =
      (z.commit r.w.fx r.w.st).errCode q := ⟨_, fun _ => rfl⟩
  generalize (putCtl n k r.w.u ((s.at_ a).begun idx)).commit r.w.fx r.w.st = z at hran hctl hcodes
  generalize (s.at_ a).startSpan idx ok false (fun x i z => z.ran (putCtl n k) (loopsAnswer n x i z)) = t at hx hran ha hshell
  subst hran
  exact ⟨_, hx, ha, hctl, hcodes, hshell.trans (hctl ▸ rfl)⟩

end Sys2Proof.Proofs
end

section
/-! CTL0 and CTL1: the window of the instance memory (R175), SWAP and SWAP_ALL (R183), and the settling of their commands. -/

namespace Sys2Proof.Proofs

open Sys2Proof Sys2Proof.Machine

-- One proof after another: many at once wait for the kernel in threads of their own, which the check's memory limit does not hold.
set_option Elab.async false

/-! ## The window and the swap requests (R175, R183) -/

/-- The coefficient bank a block of an instance belongs to (R175). -/
def blockBank (blk : Nat) : Option Nat := if 1 ≤ blk ∧ blk ≤ 4 then some 0 else if 5 ≤ blk ∧ blk ≤ 8 then some 1 else none

theorem blockBank_inside {blk : Nat} (h1 : 1 ≤ blk) (h8 : blk ≤ 8) : blockBank blk = some (b2n (decide (5 ≤ blk))) := by
  unfold blockBank
  by_cases h : blk ≤ 4
  · rw [if_pos ⟨h1, h⟩, decide_eq_false (by omega)]
    rfl
  · rw [if_neg (fun c => h c.2), if_pos ⟨by omega, h8⟩, decide_eq_true (by omega)]
    rfl

theorem blockBank_outside {blk : Nat} (h : blk = 0 ∨ 9 ≤ blk) : blockBank blk = none := by
  unfold blockBank
  rw [if_neg (by omega), if_neg (by omega)]

theorem b2n_inj {b c : Bool} : b2n b = b2n c ↔ b = c := by cases b <;> cases c <;> decide

section
variable {m : Mem} {n k blk word : Nat} {u : Ctl}

/-- A word that the window takes is stored at its position, and the window moves on (R175). -/
theorem dataWrite_stores (run : Bool) (v : Word) (hk : rfld u.regs (rk Reg.CTL_SEL n 0) 8 0 = k)
    (hb : rfld u.regs (rk Reg.CTL_I_WIN n k) 6 3 = blk) (hw : rfld u.regs (rk Reg.CTL_I_WIN n k) 2 0 = word)
    (hp : u.swapPending n k = false)
    (ha : if run then 1 ≤ blk ∧ blk ≤ 8 ∧ decide (5 ≤ blk) ≠ bit (descWord m n k 0) 5 else blk ≤ 10 ∧ ¬ (blk = 10 ∧ word = 7)) :
    Ctl.dataWrite m n run v u =
      (W.of { u with regs := rset u.regs (rk Reg.CTL_I_WIN n k) (wd (nextWindow (8 * blk + word))) }).store (ctlPage n)
        (instAddr n k blk word) (wordBytes v) := by
  subst hk hb hw
  unfold Ctl.dataWrite
  extract_lets k win word blk active bankOf allowed inactive next
  have hfree : ¬ (inactive && u.swapPending n k) = true := by
    rw [show u.swapPending n k = false from hp, Bool.and_false]
    decide
  have hallowed : blk ≤ 10 ∧ allowed = true := by
    cases run with
    | true =>
      obtain ⟨h1, h8, hbank⟩ : 1 ≤ blk ∧ blk ≤ 8 ∧ decide (5 ≤ blk) ≠ bit (descWord m n k 0) 5 := ha
      refine ⟨by omega, ?_⟩
      simp only [allowed, show bankOf = some _ from blockBank_inside h1 h8, if_true]
      exact decide_eq_true (b2n_inj.not.mpr hbank)
    | false =>
      obtain ⟨h10, hlast⟩ : blk ≤ 10 ∧ ¬ (blk = 10 ∧ word = 7) := ha
      refine ⟨h10, ?_⟩
      simpa [allowed, imp_iff_not_or] using hlast
  obtain ⟨h10, hallow⟩ := hallowed
  rw [if_neg (not_or.mpr ⟨Nat.not_lt.mpr h10, by rw [hallow]; decide⟩), if_neg hfree]

/-- In RUN a word for a block that is no coefficient bank, or for the active bank, is recorded alone (R175). -/
theorem dataWrite_refused (v : Word) (hk : rfld u.regs (rk Reg.CTL_SEL n 0) 8 0 = k)
    (hb : rfld u.regs (rk Reg.CTL_I_WIN n k) 6 3 = blk) (ha : blk = 0 ∨ 9 ≤ blk ∨ decide (5 ≤ blk) = bit (descWord m n k 0) 5) :
    Ctl.dataWrite m n true v u = (W.of u).code (ctlPage n) 0x1804 [] := by
  subst hk hb
  unfold Ctl.dataWrite
  extract_lets k win word blk active bankOf allowed inactive next
  have hblk : (blk = 0 ∨ 9 ≤ blk) ∨ decide (5 ≤ blk) = bit (descWord m n k 0) 5 := or_assoc.mpr ha
  have hrefused : allowed = false := by
    by_cases h : blk = 0 ∨ 9 ≤ blk
    · simp only [allowed, show bankOf = none from blockBank_outside h, if_true]
    · simp only [allowed, show bankOf = some _ from blockBank_inside (by omega) (by omega), if_true]
      exact decide_eq_false (not_not.mpr (b2n_inj.mpr (hblk.resolve_left h)))
  exact if_pos (.inr (congrArg not hrefused))

end

/-- The pages of CTL come after every page below CTL0's. -/
theorem lt_ctlPage {q n : Nat} (h : q < Pg.CTL) : q < ctlPage n := h.trans_le (Nat.le_add_right ..)

theorem ctlPage_ne {q n : Nat} (h : q < Pg.CTL) : ctlPage n ≠ q := (lt_ctlPage h).ne'

/-- A register of CTL's pages with its row, which is not windowed and whose fields are not locked in RUN. -/
structure IsCtlRow (reg : Nat) (r : RegRow) : Prop where
  page : reg / 0x400 = Pg.CTL
  aligned : reg % 4 = 0
  own : 0x40 ≤ reg % 0x400
  row : ∀ n : Fin 2, rowOf (ctlPage n.val) (reg % 0x400) = some r
  named : ∀ n : Fin 2, regOf (ctlPage n.val) (reg % 0x400) = (reg, n.val)
  plain : r.sel = 0
  unlocked : r.rwl = 0

/-- CTLn_I_DATA's row. -/
abbrev dataRow : RegRow := ⟨Reg.CTL_I_DATA % 0x400, 0, 0xFFFFFFFF, 0, 0, 0, 0, 0, 1⟩

theorem isCtlRow_data : IsCtlRow Reg.CTL_I_DATA dataRow := by constructor <;> decide

/-- CTLn_I_SWAP's row: SWAP and ALL act when written with 1. -/
abbrev swapRow : RegRow := ⟨Reg.CTL_I_SWAP % 0x400, 0, 0, 0, 0, 0, 3, 0, 1⟩

theorem isCtlRow_swap : IsCtlRow Reg.CTL_I_SWAP swapRow := by constructor <;> decide

/-- CTL with the cell of a register as a taken write leaves it. -/
def Ctl.cellWritten (reg n : Nat) (r : RegRow) (run : Bool) (v : Word) (u : Ctl) : Ctl :=
  if ownCell reg then u else { u with regs := rset u.regs (rk reg n 0) (r.written run (rget u.regs (rk reg n 0)) v) }

section
variable {reg : Nat} {r : RegRow} {n : Fin 2}

theorem IsCtlRow.page_eq (h : IsCtlRow reg r) (n : Fin 2) : reg / 0x400 + n.val = ctlPage n.val := by
  rw [h.page]
  rfl

theorem homePage_ctl (n off : Nat) : homePage (ctlPage n) off = ctlPage n :=
  if_neg (fun c => c.1.elim (ctlPage_ne (by decide)) (ctlPage_ne (by decide)))

theorem IsCtlRow.windowOf_eq (h : IsCtlRow reg r) (p : Nat) (s : State) : s.windowOf p r = some 0 := if_pos h.plain

theorem cells_ctl (n : Fin 2) (s : State) : s.cells (ctlPage n.val) = s.ctl.regs := by fin_cases n <;> rfl

theorem setCells_ctl (n : Fin 2) (s : State) (m : RMap) :
    s.setCells (ctlPage n.val) m = { s with ctl := { s.ctl with regs := m } } := by fin_cases n <;> rfl

/-- The state in which a taken write of a register of CTL acts: PAGE_SEQ has counted, and the cell is written. -/
theorem written_ctl (h : IsCtlRow reg r) (s : State) (v : Word) :
    s.written (ctlPage n.val) (ctlPage n.val) (reg % 0x400) 0 reg r v =
      { s with
        hdr := hdrSeq s.hdr (ctlPage n.val)
        ctl := Ctl.cellWritten reg n.val r (s.mode == .run) v s.ctl } := by
  have hkey : cellKey (ctlPage n.val) (reg % 0x400) 0 = rk reg n.val 0 := by
    rw [← h.page_eq]
    unfold cellKey rk
    omega
  unfold State.written Ctl.cellWritten
  rw [hkey, h.unlocked]
  simp only [cells_ctl, setCells_ctl]
  cases ownCell reg <;> rfl

/-- What a write of a register of CTL whose own effect is work w of CTL makes of s: CTL as the work leaves it, PAGE_SEQ of the engine's
page counted (R435), and the bytes it stores. -/
structure State.TakesCtl (s : State) (n : Nat) (w : W Ctl) (t : State) : Prop where
  ctl : t.ctl = w.u
  counted : t.pageSeq (ctlPage n) = s.pageSeq (ctlPage n) + 1#32
  byte : ∀ b, t.mem.byte b = (s.mem.stores w.st).byte b

/-- A taken write of a register of CTL whose own effect on t is the work g t of CTL. -/
theorem writeCtl_taken (acc : Accessor) {v : Word} {s : State} {g : State → Ctl → W Ctl} {w : W Ctl} (hreg : IsCtlRow reg r)
    (h : s.Admits acc (ctlPage n.val) (reg % 0x400)) (hd : s.discards reg n.val 0 v = false) (ht : r.takes (s.mode == .run) v = true)
    (hf : ∀ old t, State.actPlain reg n.val 0 v old t = t.onCtl (g t)) (hg : ∀ hdr ctl, g { s with hdr := hdr, ctl := ctl } = g s)
    (hw : g s (Ctl.cellWritten reg n.val r (s.mode == .run) v s.ctl) = w) :
    State.TakesCtl s n.val w (s.writePlain acc reg n.val v) := by
  have hp := hreg.page_eq n
  have hgns : reg ≠ Reg.GNS_CH_CFG := fun c => absurd (c ▸ hreg.page) (by decide)
  let z : State := { s with
    hdr := hdrSeq s.hdr (ctlPage n.val)
    ctl := Ctl.cellWritten reg n.val r (s.mode == .run) v s.ctl }
  have hx : s.writePlain acc reg n.val v = (z.onCtl (g s)).releaseIdle := by
    rw [writePlain_taken acc reg n.val v s (hp ▸ h) hreg.aligned hreg.own r 0 (hp ▸ homePage_ctl ..) (hp ▸ hreg.row n)
      (hp ▸ hreg.named n) (hreg.windowOf_eq _ s) (.inl hreg.unlocked) hgns hd ht, hf, hp, written_ctl hreg]
    exact congrArg (fun f => (z.onCtl f).releaseIdle) (hg _ _)
  have hz : g s z.ctl = w := hw
  rw [hx]
  refine ⟨?_, ?_, fun b => ?_⟩
  · rw [releaseIdle_ctl, onCtl_ctl, hz]
  · rw [releaseIdle_pageSeq]
    exact (commit_pageSeq ..).trans (pageSeq_hdrSeq ..)
  · rw [releaseIdle_mem, byte_onCtl, hz]

end

/-! ## The writes -/

section
variable (acc : Accessor) {n : Fin 2} {v : Word} {s : State}

/-- A write of CTLn_I_DATA that the window takes. -/
theorem window_taken (h : s.Admits acc (ctlPage n.val) (Reg.CTL_I_DATA % 0x400)) {w : W Ctl}
    (hw : Ctl.dataWrite s.mem n.val (s.mode == .run) v s.ctl = w) (hst : w.st.isEmpty = false) :
    State.TakesCtl s n.val w (s.writePlain acc Reg.CTL_I_DATA n.val v) :=
  writeCtl_taken (g := fun t => Ctl.dataWrite t.mem n.val (t.mode == .run) v) acc isCtlRow_data h
    (show (Ctl.dataWrite s.mem n.val (s.mode == .run) v s.ctl).st.isEmpty = false from hw ▸ hst)
    (by cases s.mode == .run <;> rfl) (fun _ _ => rfl) (fun _ _ => rfl) hw

/-- CTL's work that records a code alone. -/
theorem onCtl_code {f : Ctl → W Ctl} {s : State} {u : Ctl} {page code : Nat} {l : List Word} (h : f s.ctl = (W.of u).code page code l) :
    s.onCtl f = State.code page code l { s with ctl := u } := by
  unfold State.onCtl
  rw [h]
  rfl

/-- A write of CTLn_I_DATA that the window refuses leaves its code alone. -/
theorem window_refused (h : s.Admits acc (ctlPage n.val) (Reg.CTL_I_DATA % 0x400)) {code : Nat}
    (hw : Ctl.dataWrite s.mem n.val (s.mode == .run) v s.ctl = (W.of s.ctl).code (ctlPage n.val) code []) :
    s.writePlain acc Reg.CTL_I_DATA n.val v = (s.code (ctlPage n.val) code []).releaseIdle := by
  have hp := isCtlRow_data.page_eq n
  have hdisc : State.discarded Reg.CTL_I_DATA (ctlPage n.val) = id := by
    fin_cases n <;> rfl
  rw [writePlain_discarded acc Reg.CTL_I_DATA n.val v s (hp ▸ h) isCtlRow_data.aligned isCtlRow_data.own dataRow 0 (hp ▸ homePage_ctl ..)
    (hp ▸ isCtlRow_data.row n) (hp ▸ isCtlRow_data.named n) (isCtlRow_data.windowOf_eq _ s) (.inl rfl) (by decide)
    (show (Ctl.dataWrite s.mem n.val (s.mode == .run) v s.ctl).st.isEmpty = true by rw [hw]; rfl)
    (by cases s.mode == .run <;> rfl), hp, hdisc]
  exact congrArg State.releaseIdle (onCtl_code hw)

/-- A write of CTLn_I_SWAP.SWAP (R183). -/
theorem swap_taken (h : s.Admits acc (ctlPage n.val) (Reg.CTL_I_SWAP % 0x400)) :
    State.TakesCtl s n.val (Ctl.swapOne n.val (Ctl.cellWritten Reg.CTL_I_SWAP n.val swapRow (s.mode == .run) 1#32 s.ctl))
      (s.writePlain acc Reg.CTL_I_SWAP n.val 1#32) :=
  writeCtl_taken (g := fun _ => Ctl.swapOne n.val) acc isCtlRow_swap h rfl (by cases s.mode == .run <;> rfl) (fun _ _ => rfl)
    (fun _ _ => rfl) rfl

/-- A write of CTLn_I_SWAP.ALL (R183). -/
theorem swapAll_taken (h : s.Admits acc (ctlPage n.val) (Reg.CTL_I_SWAP % 0x400)) :
    State.TakesCtl s n.val (Ctl.swapAll s.mem n.val (Ctl.cellWritten Reg.CTL_I_SWAP n.val swapRow (s.mode == .run) 2#32 s.ctl))
      (s.writePlain acc Reg.CTL_I_SWAP n.val 2#32) :=
  writeCtl_taken (g := fun t => Ctl.swapAll t.mem n.val) acc isCtlRow_swap h rfl (by cases s.mode == .run <;> rfl) (fun _ _ => rfl)
    (fun _ _ => rfl) rfl

end

/-- A write of CTLn_I_SWAP leaves the instance that CTLn_SEL names. -/
theorem rfld_cellWritten_sel (run : Bool) (v : Word) (n : Nat) (u : Ctl) :
    rfld (Ctl.cellWritten Reg.CTL_I_SWAP n swapRow run v u).regs (rk Reg.CTL_SEL n 0) 8 0 = rfld u.regs (rk Reg.CTL_SEL n 0) 8 0 :=
  congrArg (bits · 8 0) ((rget_rset ..).trans (if_neg (rk_ne _ (by decide))))

/-- SWAP leaves its request unless one waits already, and the setpoint stage stands. -/
theorem swapOne_requests {n k : Nat} {u : Ctl} (hk : rfld u.regs (rk Reg.CTL_SEL n 0) 8 0 = k) :
    (Ctl.swapOne n u).u.swaps = (if u.swapPending n k then u.swaps else u.swaps ++ [512 * n + k]) ∧ (Ctl.swapOne n u).u.stage = u.stage ∧
      (Ctl.swapOne n u).st = [] := by
  subst hk
  unfold Ctl.swapOne
  dsimp only
  split <;> exact ⟨rfl, rfl, rfl⟩

/-- SWAP_ALL leaves a request for each enabled instance that has none, and the setpoint stage stands. -/
theorem swapAll_requests (m : Mem) (n : Nat) (u : Ctl) :
    (Ctl.swapAll m n u).u.swaps =
        u.swaps ++ ((upto 512).filter (fun k => instEn m n k && !u.swapPending n k)).map (512 * n + ·) ∧
      (Ctl.swapAll m n u).u.stage = u.stage ∧ (Ctl.swapAll m n u).st = [] := by
  unfold Ctl.swapAll
  dsimp only
  generalize (upto 512).filter (fun k => instEn m n k && !u.swapPending n k) = new
  have hshow : ∀ v : Ctl, (new.foldl (fun u k => Ctl.showPend n k u) v).swaps = v.swaps ∧
      (new.foldl (fun u k => Ctl.showPend n k u) v).stage = v.stage := fun v =>
    foldl_keeps (fun x : Ctl => x.swaps = v.swaps ∧ x.stage = v.stage) _ (by intro _ _ h; exact h) new v ⟨rfl, rfl⟩
  obtain ⟨hswaps, hstage⟩ := hshow { u with swaps := u.swaps ++ new.map (512 * n + ·) }
  exact ⟨hswaps, hstage, rfl⟩

/-- The bytes after a command whose work stores nothing. -/
theorem sameBytes_of_stores {a : At} {s t : State} {st : List Store} (h : ∀ b, t.mem.byte b = ((s.at_ a).mem.stores st).byte b)
    (hst : st = []) : s.SameBytes t := fun b => by
  rw [h, hst]
  exact byte_strike ..

/-- Settles O17: the three LOOPS by what their work answers, the window by the word it takes or refuses, SWAP and SWAP_ALL by the
requests they leave. -/
theorem controlCommands : Obligations.ControlCommands := by
  unfold Obligations.ControlCommands
  refine ⟨fun a idx x n s hs hu ho => ?_, fun a idx x n s hs hu ho hdue hfit => ?_, fun a idx x n s hs hu ho hdue hfit hm => ?_,
    fun a acc n v k blk word s h hk hb hw hp ha => ?_, fun a acc n v k blk s h hk hb hm ha => ?_, fun a acc n k s h hk => ?_,
    fun a acc n s h => ?_⟩
  case refine_1 =>
    obtain ⟨t, hx, ha, -, -, hshell⟩ := loops_runs hs hu n.isLt ho rfl
    exact ⟨t, hx, ha, hshell⟩
  case refine_2 =>
    obtain ⟨w, hwork, hw, hst, hsamples, hpushes, htriggers⟩ := loops_short hdue hfit
    obtain ⟨t, hx, ⟨hseq, -, hbytes⟩, hctl, ⟨z, hcodes⟩, -⟩ := loops_runs hs hu n.isLt ho hwork
    have hmissed : t.ctl = _ := hctl.trans hw
    refine ⟨t, hx, hseq, (hcodes _).trans ?_, hmissed ▸ rbit_ctlMissed .., hmissed ▸ rfl, sameBytes_of_stores hbytes hst⟩
    exact errCode_commit_last (c := ⟨ctlPage n.val, 0x2802, [], false⟩) _ _ rfl (ctlPage_ne (by decide)) hsamples hpushes htriggers
  case refine_3 =>
    obtain ⟨w, hwork, hstage, hkept, hmiss⟩ := loops_sound hdue hfit hm
    obtain ⟨t, hx, ⟨hseq, -, -⟩, hctl, -, -⟩ := loops_runs hs hu n.isLt ho hwork
    exact ⟨t, hx, hseq, hctl ▸ hstage, hctl ▸ hkept, hctl ▸ hmiss⟩
  case refine_4 =>
    have hwork := dataWrite_stores (m := (s.at_ a).mem) (s.mode == .run) v hk hb hw hp (by simpa using ha)
    obtain ⟨hctl, hseq, hbytes⟩ := window_taken (s := s.at_ a) acc h hwork rfl
    refine ⟨_, rfl, fun i hi => (hbytes _).trans ?_, fun x hx => (hbytes x).trans ?_, ?_, ?_, hseq⟩
    · exact byte_store_inside _ ⟨ctlPage n.val, instAddr n.val k blk word, wordBytes v, false⟩ i hi
    · exact (byte_store_outside _ ⟨ctlPage n.val, instAddr n.val k blk word, wordBytes v, false⟩ x hx).trans (byte_strike ..)
    · rw [hctl]
      exact (rget_rset ..).trans (if_pos rfl)
    · rw [hctl]
      rfl
  case refine_5 =>
    have hrun : ((s.at_ a).mode == .run) = true := beq_iff_eq.mpr hm
    have hwork := dataWrite_refused (m := (s.at_ a).mem) v hk hb ha
    have hx := window_refused (s := s.at_ a) acc h (by rw [hrun]; exact hwork)
    refine ⟨_, congrArg Host.Outcome.next hx, ?_, ?_, ?_, fun b => ?_⟩
    · rw [releaseIdle_ctl]
      exact commit_ctl ..
    · unfold State.errCode
      rw [releaseIdle_pageErr _ _ (.inr (lt_ctlPage (by decide))) (ctlPage_ne (by decide))]
      exact errCode_code _ _ _ _ (ctlPage_ne (by decide))
    · rw [releaseIdle_pageSeq]
      exact commit_pageSeq ..
    · rw [releaseIdle_mem]
      exact (byte_code _ _ _ (s.at_ a) b).trans (byte_strike ..)
  case refine_6 =>
    obtain ⟨hctl, hseq, hbytes⟩ := swap_taken (s := s.at_ a) acc h
    obtain ⟨hswaps, hstage, hst⟩ := swapOne_requests ((rfld_cellWritten_sel _ _ _ s.ctl).trans hk)
    exact ⟨_, rfl, (congrArg Ctl.swaps hctl).trans hswaps, (congrArg Ctl.stage hctl).trans hstage, hseq,
      sameBytes_of_stores hbytes hst⟩
  case refine_7 =>
    obtain ⟨hctl, hseq, hbytes⟩ := swapAll_taken (s := s.at_ a) acc h
    obtain ⟨hswaps, hstage, hst⟩ := swapAll_requests (s.at_ a).mem n.val
      (Ctl.cellWritten Reg.CTL_I_SWAP n.val swapRow (s.mode == .run) 2#32 s.ctl)
    exact ⟨_, rfl, (congrArg Ctl.swaps hctl).trans hswaps, (congrArg Ctl.stage hctl).trans hstage, hseq,
      sameBytes_of_stores hbytes hst⟩

end Sys2Proof.Proofs
end

section
/-! ALC: the START of an ASSEMBLE (R195, R208, R212). -/

namespace Sys2Proof.Proofs

open Sys2Proof Sys2Proof.Machine

-- One proof after another: many at once wait for the kernel in threads of their own, which the check's memory limit does not hold.
set_option Elab.async false

/-! ## The parameter banks (R195) -/

/-- A field of one bit. -/
theorem bits_low (w : Word) : bits w 0 0 = b2n (bit w 0) := by
  unfold bits bit
  rw [BitVec.getLsbD_eq_getElem (by decide), BitVec.getElem_eq_testBit_toNat, Nat.testBit_zero]
  rcases Nat.mod_two_eq_zero_or_one w.toNat with h | h <;> simp [h, b2n]

/-- ALC_BANK after a bank swap: the other bank is active, and none waits. -/
theorem bits_bankFlipped (w : Word) : bits (putBit (w ^^^ 1#32) 1 false) 0 0 = 1 - bits w 0 0 := by
  rw [bits_low, bits_low, bit_putBit _ _ _ (by decide), if_neg (by decide)]
  have hlow : bit (w ^^^ 1#32) 0 = !bit w 0 := by simp [bit]
  rw [hlow]
  cases bit w 0 <;> rfl

/-- v has of u the data, whether a bank waits, which bank is active, and the pair of ALC_OUT_BLK. -/
structure Alc.SameBanks (u v : Alc) : Prop where
  data : v.data = u.data
  pend : v.pend = u.pend
  bank : rget v.regs Reg.ALC_BANK = rget u.regs Reg.ALC_BANK
  outBlk : rget v.regs Reg.ALC_OUT_BLK = rget u.regs Reg.ALC_OUT_BLK

theorem Alc.SameBanks.active {u v : Alc} (h : Alc.SameBanks u v) : v.active = u.active := congrArg (bits · 0 0) h.bank

/-! ## The work of an ASSEMBLE (R208, R212) -/

/-- ALC with its output pair named in ALC_OUT_BLK. -/
def Alc.named (blk : Nat) (u : Alc) : Alc := { u with regs := rset u.regs Reg.ALC_OUT_BLK (wd (blk + 0x80000000)) }

/-- ALC as the work of an ASSEMBLE finds it: the output pair named, a bank that waited active. -/
def Alc.atStart (blk : Nat) (u : Alc) : W Alc := if u.pend then Alc.flip (W.of (Alc.named blk u)) else W.of (Alc.named blk u)

/-- ALC with ALC_STAT.MISS at 1. -/
def Alc.missed (u : Alc) : Alc := { u with regs := rmod u.regs Reg.ALC_STAT (fun x => putBit x 0 true) }

/-- The blocks of the record of streams that the streams of the active image take. -/
def Alc.streamBlocks (m : Mem) (u : Alc) : Nat := ((alcStreams (alcImage m u.active)).foldl max 0 + 4) / 4

theorem rbit_alcMissed (u : Alc) : rbit (Alc.missed u).regs Reg.ALC_STAT 0 = true :=
  (rbit_putBit _ _ _ _ (by decide)).trans (if_pos rfl)

theorem missed_sameBanks (u : Alc) : Alc.SameBanks u (Alc.missed u) :=
  ⟨rfl, rfl, by rw [Alc.missed, rget_rmod, if_neg (by decide)], by rw [Alc.missed, rget_rmod, if_neg (by decide)]⟩

/-- w has the output pair at blk named in ALC_OUT_BLK and no bank that waits, the data and the result of a run as u has them, and stores
nothing. -/
structure Alc.Begins (blk : Nat) (u : Alc) (w : W Alc) : Prop where
  outBlk : rget w.u.regs Reg.ALC_OUT_BLK = wd (blk + 0x80000000)
  pend : w.u.pend = false
  data : w.u.data = u.data
  work : w.u.work = u.work
  st : w.st = []
  quiet : w.Quiet

theorem atStart_begins (blk : Nat) (u : Alc) : Alc.Begins blk u (Alc.atStart blk u) := by
  have hout : rget (Alc.named blk u).regs Reg.ALC_OUT_BLK = wd (blk + 0x80000000) := by
    rw [Alc.named, rget_rset, if_pos rfl]
  cases u
  unfold Alc.atStart
  split
  case isTrue =>
    refine ⟨?_, rfl, rfl, rfl, rfl, rfl, rfl, rfl⟩
    rw [Alc.flip, u_code, u_evt, u_map, rget_rmod, if_neg (by decide), u_of, hout]
  case isFalse hp => exact ⟨hout, Bool.eq_false_iff.mpr hp, rfl, rfl, rfl, rfl, rfl, rfl⟩

/-- With no bank waiting the active one stands. -/
theorem atStart_active (blk : Nat) {u : Alc} (hp : u.pend = false) : (Alc.atStart blk u).u.active = u.active := by
  unfold Alc.atStart
  rw [if_neg (by rw [hp]; decide), u_of, Alc.active, rfld, Alc.named, rget_rset, if_neg (by decide)]
  rfl

theorem Alc.SameBanks.of_eq {u v v' : Alc} (h : Alc.SameBanks u v) (he : v' = v) : Alc.SameBanks u v' := he ▸ h

section
variable {u : Alc} {w : W Alc} (h : Alc.SameBanks u w.u)
include h

theorem Alc.SameBanks.onset (old new code flag : Nat) (evt : Bool) : Alc.SameBanks u (Machine.onset old new code flag evt w).u := by
  refine foldl_keeps (fun v : W Alc => Alc.SameBanks u v.u) _ (fun v _ hv => hv.of_eq ?_) _ w h
  exact u_when (g := id) (by intro _; rfl) evt v

theorem Alc.SameBanks.report (c : Bool) (flag code : Nat) (l : List Word) :
    Alc.SameBanks u (w.when c (fun w => (w.evt Pg.ALC flag).code Pg.ALC code l)).u :=
  h.of_eq (u_when (g := id) (by intro _; rfl) c w)

end

/-- The results of a run shown, and kept for the publication, in cells other than ALC_BANK and ALC_OUT_BLK. -/
theorem Alc.SameBanks.results {u v : Alc} (h : Alc.SameBanks u v) {m : RMap} {work : Option AlcData}
    (hm : ∀ j, j = Reg.ALC_BANK ∨ j = Reg.ALC_OUT_BLK → rget m j = rget v.regs j) :
    Alc.SameBanks u { v with
      regs := m
      work := work } :=
  ⟨h.data, h.pend, (hm _ (.inl rfl)).trans h.bank, (hm _ (.inr rfl)).trans h.outBlk⟩

/-- The angles and thrusts shown of the units are cells of their own. -/
theorem rget_unitMeasures {j : Nat} (ms : List UnitMeas) (r : RMap) (ha : j % 0x400 ≠ Reg.ALC_U_ANG % 0x400)
    (ht : j % 0x400 ≠ Reg.ALC_U_TEFF % 0x400) :
    rget (ms.foldl (fun r x => rset (rset r (rk Reg.ALC_U_ANG 0 x.unit) (wi x.alpha)) (rk Reg.ALC_U_TEFF 0 x.unit) (wi x.teff)) r) j =
      rget r j :=
  foldl_keeps (fun x : RMap => rget x j = rget r j) _
    (fun x m hx => by
      rw [rget_rset, if_neg (fun e => ht (by rw [e, rk_offset])), rget_rset, if_neg (fun e => ha (by rw [e, rk_offset])), hx]) ms r rfl

/-- A saturation is counted and its position shown in cells of their own. -/
theorem rget_saturated {j : Nat} (hit : RangeHit) (r : RMap) (hc : j ≠ Reg.ALC_RANGE_CNT) (hl : j ≠ Reg.ALC_RANGE_LAST) :
    rget (if hit.isSome then rset (rmod r Reg.ALC_RANGE_CNT incW) Reg.ALC_RANGE_LAST (hit.getD 0) else r) j = rget r j := by
  split
  · rw [rget_rset, if_neg hl, rget_rmod, if_neg hc]
  · rfl

section
variable {i : SpanIn} {u : Alc}

/-- Operands too short (R212): no result, MISS, and the code last of all. -/
theorem assemble_short (h : i.srcLen < Alc.streamBlocks i.mem (Alc.atStart i.dstBlk u).u ∨ i.dstLen < 1880) :
    Alc.assemble i u = R.bad ((((Alc.atStart i.dstBlk u).map Alc.missed).evt Pg.ALC 0).code Pg.ALC 0x2902 []) := if_pos h

/-- Operands long enough: a miss only for a poisoned block (R23, R212), else a result, kept for the publication; either way the banks
stand as the START left them. -/
theorem assemble_long (h : ¬ (i.srcLen < Alc.streamBlocks i.mem (Alc.atStart i.dstBlk u).u ∨ i.dstLen < 1880)) :
    ∃ w : W Alc, Alc.SameBanks (Alc.atStart i.dstBlk u).u w.u ∧
      ((Alc.assemble i u = R.bad w ∧ ∃ b, i.mem.isBad b = true) ∨ (Alc.assemble i u = R.good w ∧ w.u.work.isSome = true)) := by
  unfold Alc.assemble
  extract_lets w00 w0 v p need fb dem bankAt nBank missed w1 w2
  have hlong : ¬ (i.srcLen < need ∨ i.dstLen < 1880) := h
  have hread : w2.u = w0.u := (u_foldl (g := id) (by intro _ _; rfl) _ w1).trans (u_when (g := id) (by intro _; rfl) fb _)
  have hbanks : Alc.SameBanks w0.u w2.u := .of_eq ⟨rfl, rfl, rfl, rfl⟩ hread
  by_cases hbad : (i.mem.anyBad bankAt nBank || fb && i.mem.anyBad dem 2) = true
  · refine ⟨_, ?_, .inl ⟨(if_neg hlong).trans (if_pos hbad), ?_⟩⟩
    · exact hread ▸ missed_sameBanks w2.u
    · by_contra hall
      have hsound : ∀ b, i.mem.isBad b = false := fun b => Bool.eq_false_iff.mpr fun c => hall ⟨b, c⟩
      rw [anyBad_sound hsound, anyBad_sound hsound, Bool.and_false] at hbad
      exact absurd hbad (by decide)
  · refine ⟨_, ?_, .inr ⟨(if_neg hlong).trans (if_neg hbad), rfl⟩⟩
    refine .results (((((((hbanks.onset ..).onset ..).report ..).report ..).report ..).report ..).report ..) fun j hj => ?_
    rw [rget_unitMeasures _ _ (by obtain rfl | rfl := hj <;> decide) (by obtain rfl | rfl := hj <;> decide),
      rget_saturated _ _ (by obtain rfl | rfl := hj <;> decide) (by obtain rfl | rfl := hj <;> decide),
      rget_rsets_of_ne _ _ _ (by obtain rfl | rfl := hj <;> simp)]

/-- Whatever its operands, an ASSEMBLE names its output pair, leaves no bank waiting, and leaves the data of the last publication. -/
theorem assemble_names : rget (Alc.assemble i u).w.u.regs Reg.ALC_OUT_BLK = wd (i.dstBlk + 0x80000000) ∧
    (Alc.assemble i u).w.u.data = u.data ∧ (Alc.assemble i u).w.u.pend = false := by
  have hb := atStart_begins i.dstBlk u
  have hall : Alc.SameBanks (Alc.atStart i.dstBlk u).u (Alc.assemble i u).w.u := by
    by_cases h : i.srcLen < Alc.streamBlocks i.mem (Alc.atStart i.dstBlk u).u ∨ i.dstLen < 1880
    · rw [assemble_short h]
      exact missed_sameBanks _
    · obtain ⟨w, hw, ⟨he, -⟩ | ⟨he, -⟩⟩ := assemble_long h <;> rwa [he]
  exact ⟨hall.outBlk.trans hb.outBlk, hall.data.trans hb.data, hall.pend.trans hb.pend⟩

end

/-! ## The START of an ASSEMBLE -/

/-- The work of an ASSEMBLE on what its START hands it. -/
def assembleWork (_ : Span) (i : SpanIn) (s : State) : R Alc := Alc.assemble i s.alc

/-- The START of an ASSEMBLE: the answer of its work, ALC and the codes as the work leaves them, and the rest of the module as it was. -/
theorem assemble_runs {a : At} {idx : Nat} {x : Span} {s : State} {r : R Alc} (h : (s.at_ a).Starts idx x) (hu : x.unit = 0x17)
    (ho : x.opcode = 1) (hr : Alc.assemble ((s.at_ a).handed idx x) s.alc = r) :
    ∃ t, exec (.assemble a idx) s = .next t ∧ (s.at_ a).Answered t idx x r ∧ t.alc = r.w.u ∧
      (∃ z : State, ∀ q, t.errCode q = (z.commit r.w.fx r.w.st).errCode q) ∧
      t.shell = { (s.at_ a).shell with
        seq := t.seq
        alc := t.alc
        free := s.free + 1 } := by
  have hr' : assembleWork x ((s.at_ a).handed idx x) ((s.at_ a).begun idx) = r := hr
  have hran := startSpan_ran h (Span.isOp 0x17 1) (isOp_of hu ho) State.putAlc (fun _ _ => ⟨rfl, rfl⟩) assembleWork
  obtain ⟨ha, hshell⟩ :=
    startSpan_answers h (Span.isOp 0x17 1) (isOp_of hu ho) State.putAlc (fun _ _ => ⟨rfl, rfl, rfl, rfl⟩) assembleWork
  rw [hr'] at hran ha hshell
  have halc : ((State.putAlc r.w.u ((s.at_ a).begun idx)).commit r.w.fx r.w.st).alc = r.w.u := commit_alc ..
  have hcodes : ∃ z : State, ∀ q, ((State.putAlc r.w.u ((s.at_ a).begun idx)).commit r.w.fx r.w.st).errCode q =
      (z.commit r.w.fx r.w.st).errCode q := ⟨_, fun _ => rfl⟩
  generalize (State.putAlc r.w.u ((s.at_ a).begun idx)).commit r.w.fx r.w.st = z at hran halc hcodes
  have hx : exec (.assemble a idx) s = .next ((s.at_ a).startSpan idx (Span.isOp 0x17 1) false
      (fun x i z => z.ran State.putAlc (assembleWork x i z))) := rfl
  generalize (s.at_ a).startSpan idx (Span.isOp 0x17 1) false (fun x i z => z.ran State.putAlc (assembleWork x i z)) = t
    at hx hran ha hshell
  subst hran
  exact ⟨_, hx, ha, halc, hcodes, hshell.trans (halc ▸ rfl)⟩

end Sys2Proof.Proofs
end

section
/-! ALC: the parameter window (R194), the swap of the parameter banks (R195), and the settling of its commands. -/

namespace Sys2Proof.Proofs

open Sys2Proof Sys2Proof.Machine

-- One proof after another: many at once wait for the kernel in threads of their own, which the check's memory limit does not hold.
set_option Elab.async false

/-! ## The parameter window (R194) -/

section
variable {k : Nat} {u : Alc}

/-- ALC with the parameter window at word k. -/
def Alc.windowAt (k : Nat) (u : Alc) : Alc := { u with regs := rmod u.regs Reg.ALC_P_WIN (fun x => putBits x 10 0 k) }

/-- With no bank waiting a word goes to its place in the inactive bank, and the window moves on. -/
theorem alcWrite_stores (v : Word) (hp : u.pend = false) (hk : rfld u.regs Reg.ALC_P_WIN 10 0 = k) :
    Alc.dataWrite v u = (W.of (Alc.windowAt (k + 1) u)).store Pg.ALC (alcWordAddr (1 - u.active) k) (wordBytes v) := by
  subst hk
  exact if_neg (by rw [hp]; decide)

/-- While a bank waits a word is recorded alone. -/
theorem alcWrite_refused (v : Word) (hp : u.pend = true) : Alc.dataWrite v u = (W.of u).code Pg.ALC 0x1904 [] := if_pos hp

theorem window_windowAt : rfld (Alc.windowAt k u).regs Reg.ALC_P_WIN 10 0 = k % 2048 := by
  rw [rfld, Alc.windowAt, rget_rmod, if_pos rfl]
  exact bits_putBits_same _ k (by decide) (by decide)

theorem active_windowAt : (Alc.windowAt k u).active = u.active := by
  rw [Alc.active, rfld, Alc.windowAt, rget_rmod, if_neg (by decide)]
  rfl

end

/-! ## The swap of the banks (R195) -/

section
variable {m : Mem} {flt : Flt} {feat6 run : Bool} {u : Alc}

/-- ALC with a validated bank that waits for START. -/
def Alc.waiting (u : Alc) : Alc :=
  { u with
    pend := true
    regs := rmod u.regs Reg.ALC_BANK (fun x => putBit x 1 true) }

/-- An invalid bank is shown and recorded (R195). -/
theorem swap_invalid {e : Nat × Nat} (hp : u.pend = false) (hv : alcValidate flt feat6 (alcImage m (1 - u.active)) = some e) :
    Alc.swap m flt feat6 run u = ((W.of (u.verdict (some e))).evt Pg.ALC 3).code Pg.ALC 0x1903 [wd e.1, wd e.2] := by
  unfold Alc.swap
  rw [if_neg (by rw [hp]; decide), hv]

/-- In RUN a valid bank waits (R195). -/
theorem swap_waits (hp : u.pend = false) (hv : alcValidate flt feat6 (alcImage m (1 - u.active)) = none) (hr : run = true) :
    Alc.swap m flt feat6 run u = W.of (Alc.waiting (u.verdict none)) := by
  unfold Alc.swap
  rw [if_neg (by rw [hp]; decide), hv]
  exact if_pos hr

/-- Outside RUN a valid bank becomes active (R195). -/
theorem swap_flips (hp : u.pend = false) (hv : alcValidate flt feat6 (alcImage m (1 - u.active)) = none) (hr : ¬ run = true) :
    Alc.swap m flt feat6 run u = Alc.flip (W.of (u.verdict none)) := by
  unfold Alc.swap
  rw [if_neg (by rw [hp]; decide), hv]
  exact if_neg hr

/-- The result of a validation leaves the number of the active bank. -/
theorem active_verdict (v : Option (Nat × Nat)) : (u.verdict v).active = u.active := by
  unfold Alc.active rfld Alc.verdict
  rw [rget_rmod, if_pos rfl]
  refine (bits_putBits_apart _ _ (by decide) (by decide) (.inl (by decide))).trans ?_
  refine (bits_putBits_apart _ _ (by decide) (by decide) (.inl (by decide))).trans ?_
  rw [bits_low, bit_putBit _ _ _ (by decide), if_neg (by decide), bit_putBit _ _ _ (by decide), if_neg (by decide), ← bits_low]

theorem active_waiting : (Alc.waiting u).active = u.active := by
  rw [Alc.active, rfld, Alc.waiting, rget_rmod, if_pos rfl, bits_low, bit_putBit _ _ _ (by decide), if_neg (by decide), ← bits_low]
  rfl

theorem active_flip (w : W Alc) : (Alc.flip w).u.active = 1 - w.u.active := by
  rw [Alc.active, rfld, Alc.flip, u_code, u_evt, u_map, rget_rmod, if_pos rfl, bits_bankFlipped]
  rfl

end

/-! ## Writes of ALC's registers -/

/-- ALC_P_DATA's row. -/
abbrev paramRow : RegRow := ⟨Reg.ALC_P_DATA % 0x400, 0, 0xFFFFFFFF, 0, 0, 0, 0, 0, 1⟩

/-- ALC_SWAP's row: SWAP acts when written with 1. -/
abbrev bankSwapRow : RegRow := ⟨Reg.ALC_SWAP % 0x400, 0, 0, 0, 0, 0, 1, 0, 1⟩

/-- ALC with the cell of ALC_SWAP as a taken write of SWAP leaves it. -/
def Alc.swapCell (run : Bool) (u : Alc) : Alc :=
  { u with regs := rset u.regs Reg.ALC_SWAP (bankSwapRow.written run (rget u.regs Reg.ALC_SWAP) 1#32) }

theorem active_swapCell (run : Bool) (u : Alc) : (Alc.swapCell run u).active = u.active := by
  rw [Alc.active, rfld, Alc.swapCell, rget_rset, if_neg (by decide)]
  rfl

/-- What a write of a register of ALC whose own effect is work w of ALC makes of s: ALC and the codes as the work leaves them, PAGE_SEQ
counted once where the active bank stands (R435), and the bytes it stores. -/
structure State.TakesAlc (s : State) (w : W Alc) (t : State) : Prop where
  alc : t.alc = w.u
  counted : w.u.active = s.alc.active → t.pageSeq Pg.ALC = s.pageSeq Pg.ALC + 1#32
  errCode : ∃ z : State, t.errCode Pg.ALC = (z.commit w.fx w.st).errCode Pg.ALC
  byte : ∀ b, t.mem.byte b = (s.mem.stores w.st).byte b

/-- ALC's work in a write that has counted in PAGE_SEQ and left ALC as u. -/
theorem takesAlc_onAlc {s : State} {u : Alc} {f : Alc → W Alc} {w : W Alc} (hu : u.active = s.alc.active) (hw : f u = w) :
    State.TakesAlc s w (State.onAlc f { s with
      hdr := hdrSeq s.hdr Pg.ALC
      alc := u }).releaseIdle := by
  subst hw
  refine ⟨?_, fun ha => ?_, ⟨_, congrArg (bits · 15 0) (releaseIdle_pageErr _ _ (by decide) (by decide))⟩, fun b => ?_⟩
  · rw [releaseIdle_alc, onAlc_alc]
  · rw [releaseIdle_pageSeq]
    refine (commit_pageSeq ..).trans ?_
    unfold State.pageSeq
    dsimp only
    rw [if_pos (ha.trans hu.symm), pageSeq_hdrSeq]
  · rw [releaseIdle_mem, byte_onAlc]

section
variable (acc : Accessor) {v : Word} {s : State}

/-- A write of ALC_P_DATA with no bank waiting. -/
theorem paramWrite_taken (h : s.Admits acc Pg.ALC (Reg.ALC_P_DATA % 0x400)) (hp : s.alc.pend = false) {w : W Alc}
    (hw : Alc.dataWrite v s.alc = w) : State.TakesAlc s w (s.writePlain acc Reg.ALC_P_DATA 0 v) := by
  rw [writePlain_taken acc Reg.ALC_P_DATA 0 v s h (by decide) (by decide) paramRow 0 (by decide) (by decide) (by decide) rfl (.inl rfl)
    (by decide) hp (by cases s.mode == .run <;> rfl)]
  exact takesAlc_onAlc rfl hw

/-- ALC's work that records a code alone. -/
theorem onAlc_code {f : Alc → W Alc} {page code : Nat} {l : List Word} (h : f s.alc = (W.of s.alc).code page code l) :
    s.onAlc f = s.code page code l := by
  unfold State.onAlc
  rw [h]
  simp only [u_code, u_of, if_true]
  rfl

/-- A write of ALC_P_DATA while a bank waits leaves its code alone. -/
theorem paramWrite_refused (h : s.Admits acc Pg.ALC (Reg.ALC_P_DATA % 0x400)) (hp : s.alc.pend = true) :
    s.writePlain acc Reg.ALC_P_DATA 0 v = (s.code Pg.ALC 0x1904 []).releaseIdle := by
  rw [writePlain_discarded acc Reg.ALC_P_DATA 0 v s h (by decide) (by decide) paramRow 0 (by decide) (by decide) (by decide) rfl
    (.inl rfl) (by decide) hp (by cases s.mode == .run <;> rfl)]
  exact congrArg State.releaseIdle (onAlc_code (alcWrite_refused v hp))

/-- A write of ALC_SWAP.SWAP. -/
theorem bankSwap_taken (h : s.Admits acc Pg.ALC (Reg.ALC_SWAP % 0x400)) {w : W Alc}
    (hw : Alc.swap s.mem s.flt (s.feature 6) (s.mode == .run) (Alc.swapCell (s.mode == .run) s.alc) = w) :
    State.TakesAlc s w (s.writePlain acc Reg.ALC_SWAP 0 1#32) := by
  rw [writePlain_taken acc Reg.ALC_SWAP 0 1#32 s h (by decide) (by decide) bankSwapRow 0 (by decide) (by decide) (by decide) rfl
    (.inl rfl) (by decide) rfl (by cases s.mode == .run <;> rfl)]
  exact takesAlc_onAlc (active_swapCell ..) hw

end

/-- Settles O18: the ASSEMBLEs by what their work answers on short operands and on sound ones, the window by the word it stores or
refuses, the swap by the three outcomes of the validation. -/
theorem assemblerCommands : Obligations.AssemblerCommands := by
  unfold Obligations.AssemblerCommands
  refine ⟨fun a idx x s hs hu ho => ?_, fun a idx x s hs hu ho hshort => ?_, fun a idx x s hs hu ho hp hdst hsrc hm => ?_,
    fun a acc v k s h hp hk => ?_, fun a acc v s h hp => ?_, fun a acc s h hp => ?_⟩
  case refine_1 =>
    obtain ⟨t, hx, ha, halc, -, hshell⟩ := assemble_runs hs hu ho rfl
    obtain ⟨hout, hdata, hpend⟩ := assemble_names (i := (s.at_ a).handed idx x) (u := s.alc)
    exact ⟨t, hx, ha, halc ▸ hout, halc ▸ hdata, halc ▸ hpend, hshell⟩
  case refine_2 =>
    obtain ⟨t, hx, ⟨hseq, -, hbytes⟩, halc, ⟨z, hcodes⟩, -⟩ := assemble_runs hs hu ho (assemble_short (.inr hshort))
    have hb := atStart_begins x.dst s.alc
    obtain ⟨hsamples, hpushes, htriggers⟩ := hb.quiet
    have hmissed : t.alc = Alc.missed (Alc.atStart x.dst s.alc).u := halc
    refine ⟨t, hx, hseq, (hcodes _).trans ?_, hmissed ▸ rbit_alcMissed _, hmissed ▸ hb.work, sameBytes_of_stores hbytes hb.st⟩
    exact errCode_commit_last (c := ⟨Pg.ALC, 0x2902, [], false⟩) _ _ rfl (by decide) hsamples hpushes htriggers
  case refine_3 =>
    have hactive := atStart_active x.dst hp
    have hlong : ¬ (x.srcLen < Alc.streamBlocks (s.at_ a).mem (Alc.atStart x.dst s.alc).u ∨ x.dstLen < 1880) := by
      unfold Alc.streamBlocks
      rw [hactive]
      exact not_or.mpr ⟨Nat.not_lt.mpr hsrc, Nat.not_lt.mpr hdst⟩
    obtain ⟨w, hbanks, ⟨-, b, hbad⟩ | ⟨hwork, hkept⟩⟩ := assemble_long (i := (s.at_ a).handed idx x) hlong
    · exact absurd hbad (Bool.eq_false_iff.mp (hm b))
    · obtain ⟨t, hx, ⟨hseq, -, -⟩, halc, -, -⟩ := assemble_runs hs hu ho hwork
      exact ⟨t, hx, hseq, halc ▸ hkept, halc ▸ hbanks.active.trans hactive⟩
  case refine_4 =>
    have hwrite := paramWrite_taken (s := s.at_ a) acc h hp (alcWrite_stores v hp hk)
    have hbyte := hwrite.byte
    refine ⟨_, rfl, fun i hi => (hbyte _).trans ?_, fun b hb => (hbyte b).trans ?_, ?_, ?_, ?_, hwrite.counted active_windowAt⟩
    · exact byte_store_inside _ ⟨Pg.ALC, alcWordAddr (1 - s.alc.active) k, wordBytes v, false⟩ i hi
    · exact (byte_store_outside _ ⟨Pg.ALC, alcWordAddr (1 - s.alc.active) k, wordBytes v, false⟩ b hb).trans (byte_strike ..)
    · rw [hwrite.alc]
      exact window_windowAt
    · rw [hwrite.alc]
      exact active_windowAt
    · rw [hwrite.alc]
      rfl
  case refine_5 =>
    refine ⟨_, congrArg Host.Outcome.next (paramWrite_refused (s := s.at_ a) acc h hp), ?_, ?_, fun b => ?_⟩
    · rw [releaseIdle_alc]
      exact commit_alc ..
    · unfold State.errCode
      rw [releaseIdle_pageErr _ _ (by decide) (by decide)]
      exact errCode_code _ _ _ _ (by decide)
    · rw [releaseIdle_mem]
      exact (byte_code _ _ _ (s.at_ a) b).trans (byte_strike ..)
  case refine_6 =>
    let z := s.at_ a
    let u := Alc.swapCell (z.mode == .run) s.alc
    have hu : u.active = s.alc.active := active_swapCell ..
    have hsame : alcValidate z.flt (z.feature 6) (alcImage z.mem (1 - u.active)) =
        alcValidate s.flt (s.feature 6) (alcImage z.mem (1 - s.alc.active)) := by rw [hu]; rfl
    cases hv : alcValidate s.flt (s.feature 6) (alcImage z.mem (1 - s.alc.active)) with
    | some e =>
      obtain ⟨halc, -, ⟨y, hcode⟩, hbyte⟩ := bankSwap_taken (s := z) acc h (swap_invalid (u := u) hp (hsame.trans hv))
      refine ⟨_, rfl, fun hn => ?_, fun hn => ?_, fun _ _ => ⟨?_, ?_, hcode.trans ?_⟩, (congrArg Alc.data halc).trans rfl,
        sameBytes_of_stores hbyte rfl⟩
      · exact absurd hn (Option.some_ne_none e)
      · exact absurd hn (Option.some_ne_none e)
      · exact (congrArg Alc.active halc).trans ((active_verdict _).trans hu)
      · exact (congrArg Alc.pend halc).trans hp
      · exact errCode_commit_last (c := ⟨Pg.ALC, 0x1903, [wd e.1, wd e.2], false⟩) (l := []) _ _ rfl
          (show Pg.ALC ≠ Pg.SNAP by decide) rfl rfl rfl
    | none =>
      by_cases hm : s.mode = .run
      · obtain ⟨halc, -, -, hbyte⟩ := bankSwap_taken (s := z) acc h (swap_waits (u := u) hp (hsame.trans hv) (beq_iff_eq.mpr hm))
        refine ⟨_, rfl, fun _ hn => absurd hm hn, fun _ _ => ⟨?_, congrArg Alc.pend halc⟩,
          fun e he => absurd he.symm (Option.some_ne_none e), (congrArg Alc.data halc).trans rfl, sameBytes_of_stores hbyte rfl⟩
        exact (congrArg Alc.active halc).trans (active_waiting.trans ((active_verdict _).trans hu))
      · obtain ⟨halc, -, -, hbyte⟩ := bankSwap_taken (s := z) acc h (swap_flips (u := u) hp (hsame.trans hv) (mt beq_iff_eq.mp hm))
        refine ⟨_, rfl, fun _ _ => ⟨?_, congrArg Alc.valid halc, congrArg Alc.pend halc⟩, fun _ hr => absurd hr hm,
          fun e he => absurd he.symm (Option.some_ne_none e), (congrArg Alc.data halc).trans rfl, sameBytes_of_stores hbyte rfl⟩
        rw [halc, active_flip, u_of, active_verdict, hu]

end Sys2Proof.Proofs
end

section
/-! SOL0 and SOL1: the START of an ALLOCATE (R214, R215, R222, R225). -/

namespace Sys2Proof.Proofs

open Sys2Proof Sys2Proof.Machine

-- One proof after another: many at once wait for the kernel in threads of their own, which the check's memory limit does not hold.
set_option Elab.async false

/-! ## The lead's ALLOCATE (R214–R225) -/

/-- SOL0 as the work of a lead's ALLOCATE finds it: an image bank that waited is active. -/
def Sol.atStart (m : Mem) (u : Sol) : W Sol := if u.pend then Sol.flip m (W.of u) else W.of u

/-- SOL0 with SOL0_STAT.MISS at 1. -/
def Sol.missed (u : Sol) : Sol := { u with regs := rmod u.regs Reg.SOL0_STAT (fun x => putBit x 0 true) }

theorem rbit_solMissed (u : Sol) : rbit (Sol.missed u).regs Reg.SOL0_STAT 0 = true :=
  (rbit_putBit _ _ _ _ (by decide)).trans (if_pos rfl)

/-- w has no image bank that waits, the data of the last publication as u has them, and stores nothing. -/
structure Sol.Begins (u : Sol) (w : W Sol) : Prop where
  pend : w.u.pend = false
  data : w.u.data = u.data
  st : w.st = []
  quiet : w.Quiet

theorem solAtStart_begins (m : Mem) (u : Sol) : Sol.Begins u (Sol.atStart m u) := by
  unfold Sol.atStart
  split
  case isTrue => exact ⟨rfl, rfl, rfl, rfl, rfl, rfl⟩
  case isFalse hp => exact ⟨Bool.eq_false_iff.mpr hp, rfl, rfl, rfl, rfl, rfl⟩

section
variable {i : SpanIn} {ok : Bool} {u : Sol}

/-- Operands too short (R225): no result, MISS, and the code last of all. -/
theorem allocate_short (h : i.srcLen < 1880 ∨ i.dstLen < 13) :
    Sol.allocate i ok u = R.bad ((((Sol.atStart i.mem u).map Sol.missed).evt Pg.SOL0 0).code Pg.SOL0 0x2A02 []) := if_pos h

/-- SOL0 with the data d of a run that waits for its publication, and the request for a cold start taken. -/
def Sol.solved (regs : RMap) (d : SolData) (u : Sol) : Sol :=
  { u with
    regs := regs
    work := some d
    cold := false }

/-- A conditional read or report of a run leaves the unit as it was. -/
theorem u_report {v : Sol} {w : W Sol} {f : W Sol → W Sol} (c : Bool) (hf : ∀ x : W Sol, (f x).u = x.u) (h : w.u = v) :
    (w.when c f).u = v := (u_when (g := id) hf c w).trans h

/-- Operands long enough: a miss only for a poisoned block (R23), which leaves the solution that the next run starts from, else a result,
kept for the publication. -/
theorem allocate_long (h : ¬ (i.srcLen < 1880 ∨ i.dstLen < 13)) :
    ∃ w : W Sol, (Sol.allocate i ok u = R.bad w ∧ (∃ b, i.mem.isBad b = true) ∧ w.u.pend = (Sol.atStart i.mem u).u.pend ∧
        w.u.data.x0 = (Sol.atStart i.mem u).u.data.x0) ∨
      (Sol.allocate i ok u = R.good w ∧ ∃ regs d, w.u = Sol.solved regs d (Sol.atStart i.mem u).u) := by
  unfold Sol.allocate
  extract_lets missed w00 w0 v m fb demAt pb plantAt w1 w2 w3 w4 warmBad
  have hreads : w4.u = w0.u := by
    refine u_report _ (by intro _; rfl) (u_report _ (by intro _; rfl) (u_report _ (by intro _; rfl) ?_))
    rfl
  by_cases hbad : (m.anyBad i.src 1880 || (fb && m.anyBad demAt 2) || (bit pb 31 && m.anyBad plantAt 8) || warmBad) = true
  · refine ⟨_, .inl ⟨(if_neg h).trans (if_pos hbad), ?_, ?_, ?_⟩⟩
    · by_contra hall
      have hsound : ∀ b, i.mem.isBad b = false := fun b => Bool.eq_false_iff.mpr fun c => hall ⟨b, c⟩
      have hwarm : warmBad = false := (congrArg _ (hsound warmAddr)).trans (Bool.and_false _)
      simp only [show ∀ a n, m.anyBad a n = false from anyBad_sound hsound, hwarm, Bool.and_false, Bool.or_false,
        Bool.false_eq_true] at hbad
    · exact (congrArg Sol.pend hreads :)
    · change (if warmBad then { w4.u.data with store := none } else w4.u.data).x0 = w0.u.data.x0
      rw [hreads]
      split <;> rfl
  · refine ⟨_, .inr ⟨(if_neg h).trans (if_neg hbad), _, _, u_report _ (by intro _; rfl) (congrArg (Sol.solved _ _) ?_)⟩⟩
    -- what is left are the reports of the run, one after another, on the reads
    repeat refine u_report _ (by intro _; rfl) ?_
    rfl

/-- Whatever its operands, a lead's ALLOCATE leaves no image bank waiting and the solution of the last publication as it was. -/
theorem allocate_keeps : (Sol.allocate i ok u).w.u.pend = false ∧ (Sol.allocate i ok u).w.u.data.x0 = u.data.x0 := by
  have hb := solAtStart_begins i.mem u
  have hx0 : (Sol.atStart i.mem u).u.data.x0 = u.data.x0 := congrArg SolData.x0 hb.data
  by_cases h : i.srcLen < 1880 ∨ i.dstLen < 13
  · rw [allocate_short h]
    exact ⟨hb.pend, hx0⟩
  · obtain ⟨w, ⟨he, -, hpend, hdata⟩ | ⟨he, regs, d, hw⟩⟩ := allocate_long (ok := ok) (u := u) h <;> rw [he]
    · exact ⟨hpend.trans hb.pend, hdata.trans hx0⟩
    · rw [R.good, hw]
      exact ⟨hb.pend, hx0⟩

/-! ## The partner's ALLOCATE (R214, R215) -/

/-- A field of one bit is 1 when its bit is. -/
theorem bits_single (w : Word) (k : Nat) : bits w k k = b2n (bit w k) := by
  refine Nat.eq_of_testBit_eq fun j => ?_
  rw [testBit_bits]
  cases j with
  | zero => cases h : bit w k <;> simp_all [bit, b2n]
  | succ j => cases bit w k <;> simp [b2n, Nat.testBit_succ]

/-- SOL1_STAT after a partner's ALLOCATE: ready, no miss, and its third bit as it was. -/
theorem partner_stat : rbit (Sol.partner i u).w.u.regs Reg.SOL1_STAT 0 = true ∧
    rbit (Sol.partner i u).w.u.regs Reg.SOL1_STAT 1 = false ∧
    rbit (Sol.partner i u).w.u.regs Reg.SOL1_STAT 2 = rbit u.regs Reg.SOL1_STAT 2 := by
  have hstat : rget (Sol.partner i u).w.u.regs Reg.SOL1_STAT = wd (1 + 4 * b2n (rbit u.regs Reg.SOL1_STAT 2)) :=
    (rget_rsets_first (by simp)).trans (by rw [rfld, bits_single]; rfl)
  unfold rbit at hstat ⊢
  rw [hstat]
  cases bit (rget u.regs Reg.SOL1_STAT) 2 <;> decide

end

/-! ## The START of an ALLOCATE -/

/-- The work of an ALLOCATE: the lead's on SOL0, the partner's on SOL1. -/
def solverWork (x : Span) (i : SpanIn) (s : State) : R Sol :=
  if x.unit = 0x10 then Sol.allocate i s.partnerReady s.sol else Sol.partner i s.sol

theorem allocateWork_ran : State.allocateWork = fun x i s => s.ran State.putSol (solverWork x i s) := by
  funext x i s
  unfold State.allocateWork solverWork
  split <;> rfl

/-- The START of an ALLOCATE: the answer of its work, SOL and the codes as the work leaves them, and the rest of the module as it was. -/
theorem allocate_runs {a : At} {idx : Nat} {x : Span} {s : State} {r : R Sol} (h : (s.at_ a).Starts idx x)
    (hu : x.unit = 0x10 ∨ x.unit = 0x11) (ho : x.opcode = 2) (hr : solverWork x ((s.at_ a).handed idx x) ((s.at_ a).begun idx) = r) :
    ∃ t, exec (.allocate a idx) s = .next t ∧ (s.at_ a).Answered t idx x r ∧ t.sol = r.w.u ∧
      (∃ z : State, ∀ q, t.errCode q = (z.commit r.w.fx r.w.st).errCode q) ∧
      t.shell = { (s.at_ a).shell with
        seq := t.seq
        sol := t.sol
        free := s.free + 1 } := by
  let ok : Span → Bool := fun x => Span.isOp 0x10 2 x || Span.isOp 0x11 2 x
  have hok : ok x = true := Bool.or_eq_true_iff.mpr (hu.imp (isOp_of · ho) (isOp_of · ho))
  have hx : exec (.allocate a idx) s = .next ((s.at_ a).startSpan idx ok false (fun x i z => z.ran State.putSol (solverWork x i z))) :=
    congrArg (fun work => Host.Outcome.next ((s.at_ a).startSpan idx ok false work)) allocateWork_ran
  have hran := startSpan_ran h ok hok State.putSol (fun _ _ => ⟨rfl, rfl⟩) solverWork
  obtain ⟨ha, hshell⟩ := startSpan_answers h ok hok State.putSol (fun _ _ => ⟨rfl, rfl, rfl, rfl⟩) solverWork
  rw [hr] at hran ha hshell
  have hsol : ((State.putSol r.w.u ((s.at_ a).begun idx)).commit r.w.fx r.w.st).sol = r.w.u := commit_sol ..
  have hcodes : ∃ z : State, ∀ q, ((State.putSol r.w.u ((s.at_ a).begun idx)).commit r.w.fx r.w.st).errCode q =
      (z.commit r.w.fx r.w.st).errCode q := ⟨_, fun _ => rfl⟩
  generalize (State.putSol r.w.u ((s.at_ a).begun idx)).commit r.w.fx r.w.st = z at hran hsol hcodes
  generalize (s.at_ a).startSpan idx ok false (fun x i z => z.ran State.putSol (solverWork x i z)) = t at hx hran ha hshell
  subst hran
  exact ⟨_, hx, ha, hsol, hcodes, hshell.trans (hsol ▸ rfl)⟩

/-- The START of a lead's ALLOCATE. -/
theorem lead_runs {a : At} {idx : Nat} {x : Span} {s : State} {r : R Sol} (h : (s.at_ a).Starts idx x) (hu : x.unit = 0x10)
    (ho : x.opcode = 2) (hr : Sol.allocate ((s.at_ a).handed idx x) ((s.at_ a).begun idx).partnerReady s.sol = r) :
    ∃ t, exec (.allocate a idx) s = .next t ∧ (s.at_ a).Answered t idx x r ∧ t.sol = r.w.u ∧
      (∃ z : State, ∀ q, t.errCode q = (z.commit r.w.fx r.w.st).errCode q) ∧
      t.shell = { (s.at_ a).shell with
        seq := t.seq
        sol := t.sol
        free := s.free + 1 } :=
  allocate_runs h (.inl hu) ho ((if_pos hu).trans hr)

end Sys2Proof.Proofs
end

section
/-! SOL0 and SOL1: the image window and its swap (R222), COLD (R224), the window into the memory of SOL1 (R232), and the settling of
their commands. -/

namespace Sys2Proof.Proofs

open Sys2Proof Sys2Proof.Machine

-- One proof after another: many at once wait for the kernel in threads of their own, which the check's memory limit does not hold.
set_option Elab.async false

/-! ## Cells beside the active image bank -/

/-- v is u but for cells that do not tell the active image bank. -/
structure Sol.SameImages (u v : Sol) : Prop where
  active : v.active = u.active
  data : v.data = u.data
  pend : v.pend = u.pend

theorem sameImages_rset {u : Sol} {reg : Nat} (v : Word) (h : reg ≠ Reg.SOL0_IMG_STAT) :
    Sol.SameImages u { u with regs := rset u.regs reg v } := by
  refine ⟨?_, rfl, rfl⟩
  rw [Sol.active, rfld, rget_rset, if_neg h.symm]
  rfl

/-! ## The image window (R222) and the memory window (R232) -/

section
variable {k : Nat} {u : Sol}

/-- SOL0 with the image window at word k. -/
def Sol.windowAt (k : Nat) (u : Sol) : Sol := { u with regs := rmod u.regs Reg.SOL0_IMG_WIN (fun x => putBits x 14 0 k) }

/-- With no bank waiting a word goes to its place in the inactive bank, and the window moves on, around at the end of a bank. -/
theorem imgWrite_stores (v : Word) (hp : u.pend = false) (hk : rfld u.regs Reg.SOL0_IMG_WIN 14 0 = k) (hlt : k < 16896) :
    Sol.imgWrite v u =
      (W.of (Sol.windowAt (if k = 16895 then 0 else k + 1) u)).store Pg.SOL0 (imgAddr (1 - u.active) k) (wordBytes v) := by
  subst hk
  exact if_neg (by rw [hp, not_or]; exact ⟨by decide, Nat.not_le.mpr hlt⟩)

/-- While a bank waits a word is recorded alone. -/
theorem imgWrite_refused (v : Word) (hp : u.pend = true) : Sol.imgWrite v u = (W.of u).code Pg.SOL0 0x1A04 [] := if_pos (.inl hp)

theorem imgWindow_windowAt (h : k < 32768) : rfld (Sol.windowAt k u).regs Reg.SOL0_IMG_WIN 14 0 = k := by
  rw [rfld, Sol.windowAt, rget_rmod, if_pos rfl]
  exact (bits_putBits_same _ k (by decide) (by decide)).trans (Nat.mod_eq_of_lt h)

theorem sameImages_windowAt : Sol.SameImages u (Sol.windowAt k u) := sameImages_rset _ (by decide)

/-- SOL1 with the memory window at word k. -/
def Sol.memWindowAt (k : Nat) (u : Sol) : Sol := { u with regs := rset u.regs Reg.SOL1_MEM_WIN (wd k) }

/-- Outside RUN a word goes to its place in the memory of SOL1, and the window moves on. -/
theorem memWrite_stores (v : Word) {run : Bool} (hr : ¬ run = true) (hk : rfld u.regs Reg.SOL1_MEM_WIN 18 0 = k) :
    Sol.memWrite run v u =
      (W.of (Sol.memWindowAt ((k + 1) % 524288) u)).store Pg.SOL1 (0x51000000 + 4 * k) (wordBytes v) := by
  subst hk
  exact if_neg hr

/-- In RUN a word is recorded alone. -/
theorem memWrite_refused (v : Word) {run : Bool} (hr : run = true) : Sol.memWrite run v u = (W.of u).code Pg.SOL1 0x1A04 [] := if_pos hr

theorem sameImages_memWindowAt : Sol.SameImages u (Sol.memWindowAt k u) := sameImages_rset _ (by decide)

end

/-! ## The swap of the image banks (R222) -/

section
variable {m : Mem} {feat4 run : Bool} {u : Sol}

/-- SOL0 with a validated image that waits for START. -/
def Sol.waiting (u : Sol) : Sol :=
  { u with
    pend := true
    regs := rmod u.regs Reg.SOL0_IMG_STAT (fun x => putBit x 1 true) }

/-- An invalid image is shown and recorded. -/
theorem imgSwap_invalid {e : Nat} (hp : u.pend = false) (hv : imgValidate feat4 (solImage m (1 - u.active)) = some e) :
    Sol.imgSwap m feat4 run u = ((W.of (u.verdict (some e))).evt Pg.SOL0 6).code Pg.SOL0 0x1A03 [wd e] := by
  unfold Sol.imgSwap
  rw [if_neg (by rw [hp]; decide), hv]

/-- In RUN a valid image waits. -/
theorem imgSwap_waits (hp : u.pend = false) (hv : imgValidate feat4 (solImage m (1 - u.active)) = none) (hr : run = true) :
    Sol.imgSwap m feat4 run u = W.of (Sol.waiting (u.verdict none)) := by
  unfold Sol.imgSwap
  rw [if_neg (by rw [hp]; decide), hv]
  exact if_pos hr

/-- Outside RUN a valid image becomes active. -/
theorem imgSwap_flips (hp : u.pend = false) (hv : imgValidate feat4 (solImage m (1 - u.active)) = none) (hr : ¬ run = true) :
    Sol.imgSwap m feat4 run u = Sol.flip m (W.of (u.verdict none)) := by
  unfold Sol.imgSwap
  rw [if_neg (by rw [hp]; decide), hv]
  exact if_neg hr

/-- Whatever its outcome, a swap leaves the data of the last publication, and stores nothing. -/
theorem imgSwap_frame (hp : u.pend = false) : (Sol.imgSwap m feat4 run u).u.data = u.data ∧ (Sol.imgSwap m feat4 run u).st = [] := by
  cases hv : imgValidate feat4 (solImage m (1 - u.active)) with
  | some e =>
    rw [imgSwap_invalid hp hv]
    exact ⟨rfl, rfl⟩
  | none =>
    by_cases hr : run = true
    · rw [imgSwap_waits hp hv hr]
      exact ⟨rfl, rfl⟩
    · rw [imgSwap_flips hp hv hr]
      exact ⟨rfl, rfl⟩

/-- The result of a validation leaves the number of the active bank. -/
theorem solActive_verdict (v : Option Nat) : (u.verdict v).active = u.active := by
  unfold Sol.active rfld Sol.verdict
  rw [rget_rmod, if_pos rfl]
  refine (bits_putBits_apart _ _ (by decide) (by decide) (.inl (by decide))).trans ?_
  rw [bits_low, bit_putBit _ _ _ (by decide), if_neg (by decide), bit_putBit _ _ _ (by decide), if_neg (by decide), ← bits_low]

theorem solActive_waiting : (Sol.waiting u).active = u.active := by
  rw [Sol.active, rfld, Sol.waiting, rget_rmod, if_pos rfl, bits_low, bit_putBit _ _ _ (by decide), if_neg (by decide), ← bits_low]
  rfl

/-- ENTRIES, N and ITER_MAX shown leave the number of the active bank. -/
theorem solActive_showImage : (Sol.showImage m u).active = u.active := by
  unfold Sol.active rfld Sol.showImage
  rw [rget_rmod, if_pos rfl]
  exact (bits_putBits_apart _ _ (by decide) (by decide) (.inl (by decide))).trans
    ((bits_putBits_apart _ _ (by decide) (by decide) (.inl (by decide))).trans
      (bits_putBits_apart _ _ (by decide) (by decide) (.inl (by decide))))

theorem solActive_flip (w : W Sol) : (Sol.flip m w).u.active = 1 - w.u.active := by
  rw [Sol.flip, u_evt, u_map, solActive_showImage, Sol.active, rfld, rget_rmod, if_pos rfl, bits_bankFlipped]
  rfl

end

/-! ## Writes of the registers of SOL0 and SOL1 -/

/-- SOL0_IMG_DATA's row. -/
abbrev imgDataRow : RegRow := ⟨Reg.SOL0_IMG_DATA % 0x400, 0, 0xFFFFFFFF, 0, 0, 0, 0, 0, 1⟩

/-- SOL1_MEM_DATA's row. -/
abbrev memDataRow : RegRow := ⟨Reg.SOL1_MEM_DATA % 0x400, 0, 0xFFFFFFFF, 0, 0, 0, 0, 0, 1⟩

/-- The row of a register of SOL0 whose lowest bit acts when written with 1: SOL0_IMG_SWAP and SOL0_WARM_CTRL. -/
abbrev solRequestRow (reg : Nat) : RegRow := ⟨reg % 0x400, 0, 0, 0, 0, 0, 1, 0, 1⟩

/-- The cell of such a register, as a taken write of 1 leaves it, does not tell the active bank. -/
theorem sameImages_requestCell {reg : Nat} (run : Bool) (u : Sol) (h : reg ≠ Reg.SOL0_IMG_STAT) :
    Sol.SameImages u { u with regs := rset u.regs reg ((solRequestRow reg).written run (rget u.regs reg) 1#32) } :=
  sameImages_rset _ h

/-- What a write of a register of a page whose own effect is work w of SOL0 and SOL1 makes of s: the units and the codes as the work
leaves them, PAGE_SEQ counted once where the active image bank stands (R435), and the bytes it stores. -/
structure State.TakesSol (s : State) (page : Nat) (w : W Sol) (t : State) : Prop where
  sol : t.sol = w.u
  counted : w.u.active = s.sol.active → t.pageSeq page = s.pageSeq page + 1#32
  errCode : ∃ z : State, t.errCode page = (z.commit w.fx w.st).errCode page
  byte : ∀ b, t.mem.byte b = (s.mem.stores w.st).byte b

/-- The work of SOL0 and SOL1 in a write that has counted in PAGE_SEQ and left the units as u. -/
theorem takesSol_onSol {s : State} {page : Nat} {u : Sol} {f : Sol → W Sol} {w : W Sol} (hpage : page = Pg.SOL0 ∨ page = Pg.SOL1)
    (hu : u.active = s.sol.active) (hw : f u = w) :
    State.TakesSol s page w (State.onSol f { s with
      hdr := hdrSeq s.hdr page
      sol := u }).releaseIdle := by
  subst hw
  have hprg : page < Pg.PRG ∨ Pg.PRG + 2 < page := by obtain rfl | rfl := hpage <;> decide
  have hsnap : page ≠ Pg.SNAP := by obtain rfl | rfl := hpage <;> decide
  refine ⟨?_, fun ha => ?_, ⟨_, congrArg (bits · 15 0) (releaseIdle_pageErr _ _ hprg hsnap)⟩, fun b => ?_⟩
  · rw [releaseIdle_sol, onSol_sol]
  · rw [releaseIdle_pageSeq]
    refine (commit_pageSeq ..).trans ?_
    unfold State.pageSeq
    dsimp only
    rw [if_pos (ha.trans hu.symm), pageSeq_hdrSeq]
  · rw [releaseIdle_mem, byte_onSol]

/-- Work of SOL0 and SOL1 that records a code alone. -/
theorem onSol_code {s : State} {f : Sol → W Sol} {page code : Nat} {l : List Word} (h : f s.sol = (W.of s.sol).code page code l) :
    s.onSol f = s.code page code l := by
  unfold State.onSol
  rw [h]
  simp only [u_code, u_of, if_true]
  rfl

/-- What a refused write leaves: the units and the bytes as they were, and its code. -/
theorem solRefused {a : At} {s : State} {page : Nat} (hpage : page = Pg.SOL0 ∨ page = Pg.SOL1) :
    let t := ((s.at_ a).code page 0x1A04 []).releaseIdle
    t.sol = s.sol ∧ t.errCode page = 0x1A04 ∧ s.SameBytes t := by
  have hprg : page < Pg.PRG ∨ Pg.PRG + 2 < page := by obtain rfl | rfl := hpage <;> decide
  have hsnap : page ≠ Pg.SNAP := by obtain rfl | rfl := hpage <;> decide
  refine ⟨?_, ?_, fun b => ?_⟩
  · rw [releaseIdle_sol]
    exact commit_sol ..
  · unfold State.errCode
    rw [releaseIdle_pageErr _ _ hprg hsnap]
    exact errCode_code _ _ _ _ hsnap
  · rw [releaseIdle_mem]
    exact (byte_code _ _ _ (s.at_ a) b).trans (byte_strike ..)

section
variable (acc : Accessor) {v : Word} {s : State} {w : W Sol}

/-- A write of SOL0_IMG_DATA with no bank waiting. -/
theorem imgWrite_taken (h : s.Admits acc Pg.SOL0 (Reg.SOL0_IMG_DATA % 0x400)) (hp : s.sol.pend = false)
    (hw : Sol.imgWrite v s.sol = w) : State.TakesSol s Pg.SOL0 w (s.writePlain acc Reg.SOL0_IMG_DATA 0 v) := by
  rw [writePlain_taken acc Reg.SOL0_IMG_DATA 0 v s h (by decide) (by decide) imgDataRow 0 (by decide) (by decide) (by decide) rfl
    (.inl rfl) (by decide) hp (by cases s.mode == .run <;> rfl)]
  exact takesSol_onSol (.inl rfl) rfl hw

/-- A write of SOL0_IMG_DATA while a bank waits leaves its code alone. -/
theorem imgWrite_discarded (h : s.Admits acc Pg.SOL0 (Reg.SOL0_IMG_DATA % 0x400)) (hp : s.sol.pend = true) :
    s.writePlain acc Reg.SOL0_IMG_DATA 0 v = (s.code Pg.SOL0 0x1A04 []).releaseIdle := by
  rw [writePlain_discarded acc Reg.SOL0_IMG_DATA 0 v s h (by decide) (by decide) imgDataRow 0 (by decide) (by decide) (by decide) rfl
    (.inl rfl) (by decide) hp (by cases s.mode == .run <;> rfl)]
  exact congrArg State.releaseIdle (onSol_code (imgWrite_refused v hp))

/-- A write of SOL1_MEM_DATA outside RUN. -/
theorem memWrite_taken (h : s.Admits acc Pg.SOL1 (Reg.SOL1_MEM_DATA % 0x400)) (hr : (s.mode == .run) = false)
    (hw : Sol.memWrite (s.mode == .run) v s.sol = w) : State.TakesSol s Pg.SOL1 w (s.writePlain acc Reg.SOL1_MEM_DATA 0 v) := by
  rw [writePlain_taken acc Reg.SOL1_MEM_DATA 0 v s h (by decide) (by decide) memDataRow 0 (by decide) (by decide) (by decide) rfl
    (.inl rfl) (by decide) hr (by cases s.mode == .run <;> rfl)]
  exact takesSol_onSol (.inr rfl) rfl hw

/-- A write of SOL1_MEM_DATA in RUN leaves its code alone. -/
theorem memWrite_discarded (h : s.Admits acc Pg.SOL1 (Reg.SOL1_MEM_DATA % 0x400)) (hr : (s.mode == .run) = true) :
    s.writePlain acc Reg.SOL1_MEM_DATA 0 v = (s.code Pg.SOL1 0x1A04 []).releaseIdle := by
  rw [writePlain_discarded acc Reg.SOL1_MEM_DATA 0 v s h (by decide) (by decide) memDataRow 0 (by decide) (by decide) (by decide) rfl
    (.inl rfl) (by decide) hr (by cases s.mode == .run <;> rfl)]
  exact congrArg State.releaseIdle (onSol_code (memWrite_refused v hr))

/-- A write of SOL0_IMG_SWAP.SWAP. -/
theorem imgSwap_taken (h : s.Admits acc Pg.SOL0 (Reg.SOL0_IMG_SWAP % 0x400)) : ∃ u, Sol.SameImages s.sol u ∧
    State.TakesSol s Pg.SOL0 (Sol.imgSwap s.mem (s.feature 4) (s.mode == .run) u) (s.writePlain acc Reg.SOL0_IMG_SWAP 0 1#32) := by
  have hu := sameImages_requestCell (reg := Reg.SOL0_IMG_SWAP) (s.mode == .run) s.sol (by decide)
  rw [writePlain_taken acc Reg.SOL0_IMG_SWAP 0 1#32 s h (by decide) (by decide) (solRequestRow Reg.SOL0_IMG_SWAP) 0 (by decide)
    (by decide) (by decide) rfl (.inl rfl) (by decide) rfl (by cases s.mode == .run <;> rfl)]
  exact ⟨_, hu, takesSol_onSol (.inl rfl) hu.active rfl⟩

/-- A write of SOL0_WARM_CTRL.COLD. -/
theorem cold_taken (h : s.Admits acc Pg.SOL0 (Reg.SOL0_WARM_CTRL % 0x400)) : ∃ u, Sol.SameImages s.sol u ∧
    State.TakesSol s Pg.SOL0 (Sol.coldRequest u) (s.writePlain acc Reg.SOL0_WARM_CTRL 0 1#32) := by
  have hu := sameImages_requestCell (reg := Reg.SOL0_WARM_CTRL) (s.mode == .run) s.sol (by decide)
  rw [writePlain_taken acc Reg.SOL0_WARM_CTRL 0 1#32 s h (by decide) (by decide) (solRequestRow Reg.SOL0_WARM_CTRL) 0 (by decide)
    (by decide) (by decide) rfl (.inl rfl) (by decide) rfl (by cases s.mode == .run <;> rfl)]
  exact ⟨_, hu, takesSol_onSol (.inl rfl) hu.active rfl⟩

end

/-- Settles O19: the ALLOCATEs by what their work answers on short operands and on sound ones, the windows by the word they store or
refuse, the swap by the three outcomes of the validation, COLD by the request it leaves. -/
theorem solverCommands : Obligations.SolverCommands := by
  unfold Obligations.SolverCommands
  refine ⟨fun a idx x s hs hu ho => ?_, fun a idx x s hs hu ho hshort => ?_, fun a idx x s hs hu ho hsrc hdst hm => ?_,
    fun a idx x s hs hu ho => ?_, fun a acc v k s h hp hk hlt => ?_, fun a acc v s h hp => ?_, fun a acc s h hp => ?_,
    fun a acc s h => ?_, fun a acc v k s h hr hk => ?_, fun a acc v s h hr => ?_⟩
  case refine_1 =>
    obtain ⟨t, hx, ha, hsol, -, hshell⟩ := lead_runs hs hu ho rfl
    obtain ⟨hpend, hx0⟩ := allocate_keeps (i := (s.at_ a).handed idx x) (ok := ((s.at_ a).begun idx).partnerReady) (u := s.sol)
    exact ⟨t, hx, ha, hsol ▸ hx0, hsol ▸ hpend, hshell⟩
  case refine_2 =>
    obtain ⟨t, hx, ⟨hseq, -, hbytes⟩, hsol, ⟨z, hcodes⟩, -⟩ := lead_runs hs hu ho (allocate_short hshort)
    have hb := solAtStart_begins (s.at_ a).mem s.sol
    obtain ⟨hsamples, hpushes, htriggers⟩ := hb.quiet
    have hmissed : t.sol = Sol.missed (Sol.atStart (s.at_ a).mem s.sol).u := hsol
    refine ⟨t, hx, hseq, (hcodes _).trans ?_, hmissed ▸ rbit_solMissed _, hmissed ▸ hb.data, sameBytes_of_stores hbytes hb.st⟩
    exact errCode_commit_last (c := ⟨Pg.SOL0, 0x2A02, [], false⟩) _ _ rfl (by decide) hsamples hpushes htriggers
  case refine_3 =>
    have hlong : ¬ (x.srcLen < 1880 ∨ x.dstLen < 13) := not_or.mpr ⟨Nat.not_lt.mpr hsrc, Nat.not_lt.mpr hdst⟩
    obtain ⟨w, ⟨-, ⟨b, hbad⟩, -⟩ | ⟨hwork, regs, d, hsolved⟩⟩ := allocate_long (i := (s.at_ a).handed idx x) hlong
    · exact absurd hbad (Bool.eq_false_iff.mp (hm b))
    · obtain ⟨t, hx, ⟨hseq, -, -⟩, hsol, -, -⟩ := lead_runs hs hu ho hwork
      have ht : t.sol = Sol.solved regs d (Sol.atStart (s.at_ a).mem s.sol).u := hsol.trans hsolved
      exact ⟨t, hx, hseq, ht ▸ rfl, ht ▸ rfl, ht ▸ (solAtStart_begins (s.at_ a).mem s.sol).data⟩
  case refine_4 =>
    have hwork : solverWork x ((s.at_ a).handed idx x) ((s.at_ a).begun idx) = Sol.partner ((s.at_ a).handed idx x) s.sol :=
      if_neg (by rw [hu]; decide)
    obtain ⟨t, hx, ⟨hseq, -, hbytes⟩, hsol, -, hshell⟩ := allocate_runs hs (.inr hu) ho hwork
    obtain ⟨hready, hmiss, hkept⟩ := partner_stat (i := (s.at_ a).handed idx x) (u := s.sol)
    exact ⟨t, hx, hseq, hsol ▸ hready, hsol ▸ hmiss, hsol ▸ hkept, hsol ▸ rfl, hshell, sameBytes_of_stores hbytes rfl⟩
  case refine_5 =>
    obtain ⟨hsol, hcounted, -, hbyte⟩ := imgWrite_taken (s := s.at_ a) acc h hp (imgWrite_stores v hp hk hlt)
    refine ⟨_, rfl, fun i hi => (hbyte _).trans ?_, fun b hb => (hbyte b).trans ?_, ?_, ?_, (congrArg Sol.data hsol).trans rfl,
      hcounted sameImages_windowAt.active⟩
    · exact byte_store_inside _ ⟨Pg.SOL0, imgAddr (1 - s.sol.active) k, wordBytes v, false⟩ i hi
    · exact (byte_store_outside _ ⟨Pg.SOL0, imgAddr (1 - s.sol.active) k, wordBytes v, false⟩ b hb).trans (byte_strike ..)
    · exact (congrArg (fun u : Sol => rfld u.regs Reg.SOL0_IMG_WIN 14 0) hsol).trans (imgWindow_windowAt (by split <;> omega))
    · exact (congrArg Sol.active hsol).trans sameImages_windowAt.active
  case refine_6 =>
    exact ⟨_, congrArg Host.Outcome.next (imgWrite_discarded (s := s.at_ a) acc h hp), solRefused (.inl rfl)⟩
  case refine_7 =>
    obtain ⟨u, ⟨hactive, hdata, hpend⟩, htakes⟩ := imgSwap_taken (s := s.at_ a) acc h
    simp only [at_sol, at_mode, at_feature] at hactive hdata hpend htakes
    have hup : u.pend = false := hpend.trans hp
    obtain ⟨hsame, hst⟩ := imgSwap_frame (m := (s.at_ a).mem) (feat4 := s.feature 4) (run := s.mode == .run) hup
    refine ⟨_, rfl, fun hv hm => ?_, fun hv hm => ?_, fun e hv => ?_, (congrArg Sol.data htakes.sol).trans (hsame.trans hdata),
      sameBytes_of_stores htakes.byte hst⟩
    all_goals rw [← hactive] at hv
    · rw [imgSwap_flips hup hv (mt beq_iff_eq.mp hm)] at htakes
      have hsol := htakes.sol
      refine ⟨?_, congrArg Sol.valid hsol, congrArg Sol.pend hsol⟩
      rw [hsol, solActive_flip, u_of, solActive_verdict, hactive]
    · rw [imgSwap_waits hup hv (beq_iff_eq.mpr hm)] at htakes
      have hsol := htakes.sol
      exact ⟨(congrArg Sol.active hsol).trans (solActive_waiting.trans ((solActive_verdict _).trans hactive)), congrArg Sol.pend hsol⟩
    · rw [imgSwap_invalid hup hv] at htakes
      obtain ⟨hsol, -, ⟨z, hcode⟩, -⟩ := htakes
      refine ⟨(congrArg Sol.active hsol).trans ((solActive_verdict _).trans hactive), (congrArg Sol.pend hsol).trans hup,
        hcode.trans ?_⟩
      exact errCode_commit_last (c := ⟨Pg.SOL0, 0x1A03, [wd e], false⟩) (l := []) _ _ rfl
        (show Pg.SOL0 ≠ Pg.SNAP by decide) rfl rfl rfl
  case refine_8 =>
    obtain ⟨u, ⟨hactive, hdata, hpend⟩, hsol, hcounted, -, hbyte⟩ := cold_taken (s := s.at_ a) acc h
    exact ⟨_, rfl, congrArg Sol.cold hsol, (congrArg Sol.data hsol).trans hdata, (congrArg Sol.active hsol).trans hactive,
      (congrArg Sol.pend hsol).trans hpend, hcounted hactive, sameBytes_of_stores hbyte rfl⟩
  case refine_9 =>
    have hrun : ((s.at_ a).mode == .run) = false := beq_eq_false_iff_ne.mpr hr
    obtain ⟨hsol, hcounted, -, hbyte⟩ :=
      memWrite_taken (s := s.at_ a) acc h hrun (memWrite_stores v (Bool.eq_false_iff.mp hrun) hk)
    refine ⟨_, rfl, fun i hi => (hbyte _).trans ?_, fun b hb => (hbyte b).trans ?_, ?_, (congrArg Sol.data hsol).trans rfl,
      hcounted sameImages_memWindowAt.active⟩
    · exact byte_store_inside _ ⟨Pg.SOL1, 0x51000000 + 4 * k, wordBytes v, false⟩ i hi
    · exact (byte_store_outside _ ⟨Pg.SOL1, 0x51000000 + 4 * k, wordBytes v, false⟩ b hb).trans (byte_strike ..)
    · exact (congrArg (fun u : Sol => rget u.regs Reg.SOL1_MEM_WIN) hsol).trans ((rget_rset ..).trans (if_pos rfl))
  case refine_10 =>
    exact ⟨_, congrArg Host.Outcome.next (memWrite_discarded (s := s.at_ a) acc h (beq_iff_eq.mpr hr)), solRefused (.inr rfl)⟩

end Sys2Proof.Proofs
end

section
/-! PRG0–PRG2: what the program's work leaves of the rest of the module, and what taking up tasks leaves of the program (R241). -/

namespace Sys2Proof.Proofs

open Sys2Proof Sys2Proof.Machine

-- One proof after another: many at once wait for the kernel in threads of their own, which the check's memory limit does not hold.
set_option Elab.async false

/-! ## What reads and stores leave (R20–R24) -/

/-- t is s but for memory, the counts of the firkins' page and those of NVS. -/
def State.SameUnits (s t : State) : Prop := ∃ m f n, t = { s with
  mem := m
  fq := f
  nvs := n }

theorem State.SameUnits.trans {s t u : State} (h : State.SameUnits s t) (k : State.SameUnits t u) : State.SameUnits s u := by
  obtain ⟨_, _, _, rfl⟩ := h
  obtain ⟨m, f, n, rfl⟩ := k
  exact ⟨m, f, n, rfl⟩

theorem sameUnits_readBlocks (l : List (Nat × Nat)) (s : State) : State.SameUnits s (s.readBlocks l).1 := by
  induction l generalizing s with
  | nil => exact ⟨_, _, _, rfl⟩
  | cons r l ih =>
    refine State.SameUnits.trans ?_ (ih (s.readBlock r.1 r.2).1)
    unfold State.readBlock
    dsimp only
    split
    · exact ⟨_, _, _, rfl⟩
    · dsimp only
      split <;> exact ⟨_, _, _, rfl⟩

theorem sameUnits_store1 (st : Store) (s : State) : State.SameUnits s (s.store1 st).1 := by
  have hread : ∀ (t : State) (r : Nat × Nat), State.SameUnits t (t.readForStore r.1 r.2).1 := fun t r => by
    unfold State.readForStore
    dsimp only
    split <;> exact ⟨_, _, _, rfl⟩
  have hreads := foldl_keeps (fun x : State × List Code => State.SameUnits s x.1)
    (fun x (r : Nat × Nat) => ((x.1.readForStore r.1 r.2).1, x.2 ++ (x.1.readForStore r.1 r.2).2))
    (fun x r hx => hx.trans (hread x.1 r)) (readsOfStore st) (s, []) ⟨_, _, _, rfl⟩
  exact hreads.trans ⟨_, _, _, rfl⟩

theorem sameUnits_storeAll (l : List Store) (s : State) : State.SameUnits s (s.storeAll l).1 := by
  induction l generalizing s with
  | nil => exact ⟨_, _, _, rfl⟩
  | cons st l ih => exact (sameUnits_store1 st s).trans (ih (s.store1 st).1)

/-! ## The program's work -/

/-- The program stands when work is done that releases no task: neither packets nor samples nor triggers. -/
theorem prg_commit {fx : Fx} {st : List Store} {s : State} (h : (⟨s, fx, st⟩ : W State).Quiet) : (s.commit fx st).prg = s.prg := by
  obtain ⟨hsamples, hpushes, htriggers⟩ := h
  dsimp only at hsamples hpushes htriggers
  unfold State.commit
  rw [hsamples, hpushes]
  extract_lets x0 x1 x2 x3 s4 s5
  have h0 : x0.1.prg = s.prg := by
    obtain ⟨m, f, n, hx⟩ := (sameUnits_storeAll st s).trans (sameUnits_readBlocks fx.reads _)
    show (State.readBlocks fx.reads (s.storeAll st).1).1.prg = s.prg
    rw [hx]
  have h3 : x3 = x0 := by
    have hx : x0.2.triggers = [] := by
      simp only [x0, State.absorb, Fx.app, Fx.none, htriggers, List.append_nil]
    show x0.2.triggers.foldl _ x0 = x0
    rw [hx]
    rfl
  have h4 : s4.prg = x3.1.prg := congrArg (·.2.2.2.1) (inner_recordAll x3.2.codes (x3.1.flags x3.2.evts))
  have h5 : s5.prg = s4.prg := congrArg (·.2.2.2.1) (inner_snapTriggers x3.2.snaps x3.2.codes s4)
  show s5.prg = _
  rw [h5, h4, h3, h0]

section
variable {a : At} {s : State} {f : Prg → W Prg} {w : W Prg} (h : f s.prg = w)
include h

theorem onPrg_prg (hq : w.Quiet) : ((s.at_ a).onPrg f).prg = w.u := by
  subst h
  exact prg_commit hq

theorem byte_onPrg_at (b : Nat) : ((s.at_ a).onPrg f).mem.byte b = ((s.at_ a).mem.stores w.st).byte b := by
  rw [byte_onPrg, at_prg, h]

/-- PAGE_ERR.CODE of a page of the program after quiet work whose last code is of that page. -/
theorem errCode_onPrg_at (hq : w.Quiet) {l : List Code} {c : Code} (hc : w.fx.codes = l ++ [c]) (hp : c.page ≠ Pg.SNAP) :
    ((s.at_ a).onPrg f).errCode c.page = c.code % 0x10000 := by
  subst h
  obtain ⟨hsamples, hpushes, htriggers⟩ := hq
  exact errCode_commit_last _ _ hc hp hsamples hpushes htriggers

end

/-! ## A task's own happenings -/

section
variable {a : At} {i : Nat} {d : Task} {s : State}

theorem defn_idx {u : Prg} (h : u.defn i = some d) : d.idx = i := beq_iff_eq.mp (List.find?_some h :)

/-- A happening of a task of the running image takes place while its core works. -/
theorem onTask_works (f : State → State) (h : s.prg.defn i = some d) (hw : s.works (Pg.PRG + d.core) = true) :
    State.onTask i f (s.at_ a) = f (s.at_ a) := by
  unfold State.onTask
  rw [at_prg, h]
  exact workOn_works f hw

end

/-- The page of a core is not SNAP's. -/
theorem corePage_ne_snap (core : Nat) : Pg.PRG + core ≠ Pg.SNAP :=
  ((show Pg.SNAP < Pg.PRG by decide).trans_le (Nat.le_add_right ..)).ne'

/-! ## Cells of the tasks and the cores -/

theorem rget_rmod_ne (m : RMap) {k j : Nat} (f : Word → Word) (h : j ≠ k) : rget (rmod m k f) j = rget m j := (rget_rmod ..).trans (if_neg h)

theorem rbit_rmod_ne (m : RMap) {k j : Nat} (f : Word → Word) (i : Nat) (h : j ≠ k) : rbit (rmod m k f) j i = rbit m j i :=
  congrArg (bit · i) (rget_rmod_ne m f h)

/-- A bit beside the field of a cell that was replaced. -/
theorem rbit_putBits (m : RMap) (k : Nat) {hi lo i : Nat} (v : Nat) (hlo : lo ≤ hi) (h32 : i < 32) (ha : i < lo ∨ hi < i) :
    rbit (rmod m k (fun w => putBits w hi lo v)) k i = rbit m k i := by
  rw [rbit, rget_rmod, if_pos rfl, bit, getLsbD_putBits _ _ _ _ hlo h32, if_neg (by omega), ← bit, ← rbit]

/-- Cells at different offsets of their pages are different. -/
theorem ne_of_offset {j r n w : Nat} (h : j % 0x400 ≠ r % 0x400) : j ≠ rk r n w := fun e => h (by rw [e, rk_offset])

theorem task_putTask (u : Prg) (i : Nat) (st : TaskState) (j : Nat) : (u.putTask i st).task j = if j = i then st else u.task j :=
  sget_sset ..

theorem task_putTask_self (u : Prg) (i : Nat) (st : TaskState) : (u.putTask i st).task i = st := (task_putTask ..).trans (if_pos rfl)

theorem regs_putTask (u : Prg) (i : Nat) (st : TaskState) :
    (u.putTask i st).regs = rmod u.regs (rk Reg.PRG_T_STAT 0 i) (fun w => putBits w 2 0 st.phase.code) := rfl

theorem rget_putTask (u : Prg) (i : Nat) (st : TaskState) {k : Nat} (h : k % 0x400 ≠ Reg.PRG_T_STAT % 0x400) :
    rget (u.putTask i st).regs k = rget u.regs k := by
  rw [regs_putTask, rget_rmod_ne _ _ (ne_of_offset h)]

/-- The flags of PRG_T_STAT, above STATE, stand when a task is set. -/
theorem rbit_putTask (u : Prg) (i : Nat) (st : TaskState) (j : Nat) {b : Nat} (hb : 3 ≤ b) (h32 : b < 32) :
    rbit (u.putTask i st).regs (rk Reg.PRG_T_STAT 0 j) b = rbit u.regs (rk Reg.PRG_T_STAT 0 j) b := by
  rw [regs_putTask]
  by_cases hj : rk Reg.PRG_T_STAT 0 j = rk Reg.PRG_T_STAT 0 i
  · rw [hj, rbit_putBits _ _ _ (by decide) h32 (.inr hb)]
  · rw [rbit_rmod_ne _ _ _ hj]

/-! ## Taking up tasks (R241) -/

/-- What a core that takes up a task leaves of the program: a task may go from READY to RUNNING; of the cells, STATE of PRG_T_STAT and
RUNNING of PRGn_STAT may change. -/
structure Prg.TakesUp (u v : Prg) : Prop where
  rest : v = { u with
    tasks := v.tasks
    tokens := v.tokens
    regs := v.regs }
  task : ∀ i, v.task i = u.task i ∨ (u.task i).phase = .ready ∧ v.task i = { u.task i with phase := .running }
  cell : ∀ k, k % 0x400 ≠ Reg.PRG_T_STAT % 0x400 → k % 0x400 ≠ Reg.PRG_STAT % 0x400 → rget v.regs k = rget u.regs k
  flag : ∀ i b, 3 ≤ b → b < 32 → rbit v.regs (rk Reg.PRG_T_STAT 0 i) b = rbit u.regs (rk Reg.PRG_T_STAT 0 i) b
  coreFlag : ∀ c b, b < 8 → rbit v.regs (rk Reg.PRG_STAT c 0) b = rbit u.regs (rk Reg.PRG_STAT c 0) b

theorem Prg.TakesUp.trans {u v x : Prg} (h : Prg.TakesUp u v) (k : Prg.TakesUp v x) : Prg.TakesUp u x where
  rest := by rw [k.rest, h.rest]
  task i := by
    obtain hk | ⟨hready, hk⟩ := k.task i
    · rw [hk]
      exact h.task i
    · obtain hh | ⟨-, hh⟩ := h.task i
      · rw [hh] at hready hk
        exact .inr ⟨hready, hk⟩
      · rw [hh] at hready
        cases hready
  cell j h1 h2 := (k.cell j h1 h2).trans (h.cell j h1 h2)
  flag i b h1 h2 := (k.flag i b h1 h2).trans (h.flag i b h1 h2)
  coreFlag c b hb := (k.coreFlag c b hb).trans (h.coreFlag c b hb)

section
variable {u v : Prg} (h : Prg.TakesUp u v) {i : Nat}
include h

/-- A task that is not READY stays as it is. -/
theorem Prg.TakesUp.task_of_ne_ready {st : TaskState} (hi : u.task i = st) (hst : st.phase ≠ .ready) : v.task i = st := by
  subst hi
  exact (h.task i).resolve_right fun hr => hst hr.1

theorem Prg.TakesUp.banks : v.banks = u.banks := by rw [h.rest]

theorem Prg.TakesUp.shadow : v.shadow = u.shadow := by rw [h.rest]

theorem Prg.TakesUp.written : v.written = u.written := by rw [h.rest]

theorem Prg.TakesUp.nextOrder : v.nextOrder = u.nextOrder := by rw [h.rest]

theorem Prg.TakesUp.copying_order : (v.task i).copying = (u.task i).copying ∧ (v.task i).order = (u.task i).order := by
  obtain hi | ⟨-, hi⟩ := h.task i <;> rw [hi] <;> exact ⟨rfl, rfl⟩

end

/-- The program with RUNNING of a core's PRGn_STAT at n. -/
def Prg.showRunning (core n : Nat) (u : Prg) : Prg := { u with regs := rmod u.regs (rk Reg.PRG_STAT core 0) (fun w => putBits w 15 8 n) }

theorem regs_showRunning (core n : Nat) (u : Prg) :
    (Prg.showRunning core n u).regs = rmod u.regs (rk Reg.PRG_STAT core 0) (fun w => putBits w 15 8 n) := rfl

theorem takesUp_showRunning (core n : Nat) (u : Prg) : Prg.TakesUp u (Prg.showRunning core n u) where
  rest := rfl
  task _ := .inl rfl
  cell _ _ h := by rw [regs_showRunning, rget_rmod_ne _ _ (ne_of_offset h)]
  flag _ b _ _ := by rw [regs_showRunning, rbit_rmod_ne _ _ b (ne_of_offset (by rw [rk_offset]; decide))]
  coreFlag c b hb := by
    rw [regs_showRunning]
    by_cases hc : rk Reg.PRG_STAT c 0 = rk Reg.PRG_STAT core 0
    · rw [hc, rbit_putBits _ _ _ (by decide) (by omega) (.inl hb)]
    · rw [rbit_rmod_ne _ _ b hc]

theorem takesUp_tokens (l : List Nat) (u : Prg) : Prg.TakesUp u { u with tokens := l } :=
  ⟨rfl, fun _ => .inl rfl, fun _ _ _ => rfl, fun _ _ _ _ => rfl, fun _ _ _ => rfl⟩

/-- A task that counts for its core's choice is READY or RUNNING. -/
theorem phase_of_runnable {u : Prg} {t : Task} (h : u.runnable t = true) : (u.task t.idx).phase = .ready ∨ (u.task t.idx).phase = .running := by
  unfold Prg.runnable at h
  split at h
  case h_1 hp => exact .inl hp
  case h_2 hp => exact .inr hp
  case h_3 => cases h

theorem takesUp_putTask {u : Prg} {t : Task} (h : u.runnable t = true) :
    Prg.TakesUp u (u.putTask t.idx { u.task t.idx with phase := .running }) where
  rest := rfl
  task i := by
    rw [task_putTask]
    split
    case isTrue hi =>
      subst hi
      obtain hp | hp := phase_of_runnable h
      · exact .inr ⟨hp, rfl⟩
      · exact .inl (congrArg (fun p => { u.task t.idx with phase := p }) hp.symm)
    case isFalse => exact .inl rfl
  cell _ h _ := rget_putTask _ _ _ h
  flag i _ h3 h32 := rbit_putTask _ _ _ i h3 h32
  coreFlag _ b _ := by rw [regs_putTask, rbit_rmod_ne _ _ b (ne_of_offset (by rw [rk_offset]; decide))]

/-- The task a core chooses is one that counts for its choice. -/
theorem choose_runnable {u : Prg} {core : Nat} {t : Task} (h : u.choose core = some t) : u.runnable t = true := by
  refine foldl_keeps_mem (fun best : Option Task => ∀ x, best = some x → u.runnable x = true) _ _ (fun best x hx hbest => ?_) none
    (fun _ hn => nomatch hn) t h
  have hrun : u.runnable x = true := (Bool.and_eq_true_iff.mp (List.mem_filter.mp hx).2).2
  intro y hy
  split at hy
  case h_1 => exact Option.some.inj hy ▸ hrun
  case h_2 b =>
    split at hy
    · exact Option.some.inj hy ▸ hrun
    · exact hbest y hy

theorem takesUp_schedule (core : Nat) (u : Prg) : Prg.TakesUp u (Prg.schedule core u) := by
  unfold Prg.schedule
  split
  case h_1 => exact takesUp_showRunning core 0xFF u
  case h_2 t hc =>
    extract_lets tokens st v
    exact ((takesUp_putTask (choose_runnable hc)).trans (takesUp_tokens tokens v)).trans
      (takesUp_showRunning core t.idx { v with tokens := tokens })

theorem takesUp_scheduleAll (u : Prg) : Prg.TakesUp u u.scheduleAll :=
  ((takesUp_schedule 0 u).trans (takesUp_schedule 1 _)).trans (takesUp_schedule 2 _)

end Sys2Proof.Proofs
end

section
/-! PRG0–PRG2: how the cycle of a task ends: its output copy (R246), its measures (R243), the task after it (R240, R242, R258), and the
errors that end it (R247). -/

namespace Sys2Proof.Proofs

open Sys2Proof Sys2Proof.Machine

-- One proof after another: many at once wait for the kernel in threads of their own, which the check's memory limit does not hold.
set_option Elab.async false

/-! ## The output copy (R246) -/

theorem length_outWords (u : Prg) (t : Task) (e : MapEntry) : (outWords u t e).length = e.count :=
  (List.length_map ..).trans List.length_range

/-- What the copies of output entries es leave of a program u: the entries of the force table that acted, the pairs marked written, and
one store per entry, of the words it covers in the hidden half of its pair. -/
structure Prg.CopiesOut (s : State) (es : List MapEntry) (u : Prg) (w : W Prg) : Prop where
  rest : w.u = { u with
    forces := w.u.forces
    regs := w.u.regs
    written := w.u.written }
  fx : w.fx = Fx.none
  stores : ∀ st ∈ w.st, ∃ e ∈ es, st.addr = s.hidden e.blk e.half ∧ st.data.length = 4 * e.count
  marks : ∀ e ∈ es, ∃ h, (e.blk, h) ∈ w.u.written

theorem copyOut_copiesOut {s : State} {es : List MapEntry} {u : Prg} {w : W Prg} (t : Task) (e : MapEntry) (h : Prg.CopiesOut s es u w) :
    Prg.CopiesOut s (es ++ [e]) u (Prg.copyOut s t w e) where
  rest := by
    unfold Prg.copyOut
    rw [u_map, u_store, h.rest]
    rfl
  fx := h.fx
  stores st hst := by
    obtain hst | hst := List.mem_append.mp hst
    · obtain ⟨e', he', hstore⟩ := h.stores st hst
      exact ⟨e', List.mem_append_left _ he', hstore⟩
    · obtain rfl := List.mem_singleton.mp hst
      exact ⟨e, List.mem_append_right _ (List.mem_singleton_self e), rfl, by rw [length_wordsBytes, length_outWords]⟩
  marks e' he' := by
    by_cases hb : e'.blk = e.blk
    · exact ⟨e.half, List.mem_append_right _ (List.mem_singleton.mpr (by rw [hb]))⟩
    · have hin : e' ∈ es := (List.mem_append.mp he').resolve_right fun hs => hb (congrArg MapEntry.blk (List.mem_singleton.mp hs))
      obtain ⟨n, hn⟩ := h.marks e' hin
      exact ⟨n, List.mem_append_left _ (List.mem_filter.mpr ⟨hn, bne_iff_ne.mpr hb⟩)⟩

theorem copyOuts_copiesOut (s : State) (t : Task) (es : List MapEntry) (u : Prg) :
    Prg.CopiesOut s es u (es.foldl (Prg.copyOut s t) (W.of u)) := by
  induction es using List.reverseRecOn with
  | nil => exact ⟨rfl, rfl, fun _ h => absurd h List.not_mem_nil, fun _ h => absurd h List.not_mem_nil⟩
  | append_singleton es e ih =>
    rw [List.foldl_append]
    exact copyOut_copiesOut t e ih

/-! ## The measures of a cycle (R243) -/

/-- The measures of a cycle are cells; EXEC is the time since the task's release. -/
theorem measure_shows (s : State) (t : Task) (u : Prg) : ∃ m, u.measure s t = { u with regs := m } ∧
    rget m (rk Reg.PRG_T_EXEC 0 t.idx) = wd (s.tim.us - (u.task t.idx).released).toNat := by
  have hne : ∀ r, r % 0x400 ≠ Reg.PRG_T_EXEC % 0x400 → rk Reg.PRG_T_EXEC 0 t.idx ≠ rk r 0 t.idx := fun r hr =>
    ne_of_offset (by rw [rk_offset]; exact hr.symm)
  unfold Prg.measure Prg.taskCell
  dsimp only
  split
  · refine ⟨_, rfl, ?_⟩
    rw [rget_rmod_ne _ _ (hne _ (by decide)), rget_rmod, if_pos rfl]
  · refine ⟨_, rfl, ?_⟩
    rw [rget_rmod_ne _ _ (hne _ (by decide)), rget_rmod_ne _ _ (hne _ (by decide)), rget_rmod_ne _ _ (hne _ (by decide)), rget_rmod,
      if_pos rfl]

/-! ## The task after its cycle (R240, R242, R258) -/

/-- A task after a cycle behind which no release waits: stopped where a stop was asked, idle otherwise. -/
def TaskState.ended (st : TaskState) : TaskState :=
  if st.stopReq then { st with phase := .stopped, stopReq := false, again := false, skips := 0 } else { st with phase := .idle }

theorem phase_ended (st : TaskState) : (TaskState.ended st).phase = if st.stopReq then .stopped else .idle := by
  unfold TaskState.ended
  split <;> rfl

section
variable {s : State} {t : Task} {w : W Prg}

/-- A cycle that leaves its task no stop and no release makes it idle and nothing else. -/
theorem afterCycle_idle (hs : (w.u.task t.idx).stopReq = false) (ha : (w.u.task t.idx).again = false) :
    Prg.afterCycle s t w = w.map (fun u => u.putTask t.idx { w.u.task t.idx with phase := .idle }) := by
  unfold Prg.afterCycle
  dsimp only
  rw [if_neg (Bool.eq_false_iff.mp hs), if_neg (Bool.eq_false_iff.mp ha)]

theorem afterCycle_ended (ha : (w.u.task t.idx).again = false) :
    (Prg.afterCycle s t w).u = w.u.putTask t.idx (TaskState.ended (w.u.task t.idx)) ∧ (w.Quiet → (Prg.afterCycle s t w).Quiet) := by
  cases hs : (w.u.task t.idx).stopReq with
  | true =>
    unfold Prg.afterCycle TaskState.ended
    dsimp only
    rw [if_pos hs, if_pos hs]
    exact ⟨u_when (g := id) (by intro v; rfl) _ _, fun hq => (hq.map _).when fun _ hv => hv.code _ _ _⟩
  | false =>
    rw [afterCycle_idle hs ha, TaskState.ended, if_neg (Bool.eq_false_iff.mp hs)]
    exact ⟨rfl, fun hq => hq.map _⟩

/-- What follows a cycle stores nothing. -/
theorem st_afterCycle : (Prg.afterCycle s t w).st = w.st := by
  unfold Prg.afterCycle
  dsimp only
  split
  · exact st_when _ _ _ (by intro v; rfl)
  · split
    · exact st_releaseEvent ..
    · rfl

end

/-! ## The end of a cycle (R243, R246, R250) -/

/-- The program after the output copy of task t's cycle: its retained objects in the shadow, the measures, no run-time error. -/
def Prg.cycled (s : State) (t : Task) (u : Prg) : Prg := ((Prg.commitRetained t u).measure s t).taskFlag t.idx 4 false

/-- All cores take up what they now choose, after the tasks that became ready at once. -/
def Prg.chooseAnew (u : Prg) : Prg := Prg.scheduleAll { u with nextOrder := u.nextOrder + 1 }

theorem chooseAnew_takesUp (u : Prg) : Prg.TakesUp { u with nextOrder := u.nextOrder + 1 } (Prg.chooseAnew u) := takesUp_scheduleAll _

section
variable {s : State} {i : Nat} {d : Task} {u : Prg}

theorem cycleEnd_running (ws : List (Nat × Byte)) (hd : u.defn i = some d) (hp : (u.task i).phase = .running) :
    Prg.cycleEnd s i ws u =
      (Prg.afterCycle s d ((d.outMap.foldl (Prg.copyOut s d) (W.of (Prg.progWrites d.core ws u))).map (Prg.cycled s d))).map
        Prg.chooseAnew := by
  unfold Prg.cycleEnd
  rw [hd]
  dsimp only
  rw [if_pos hp]
  unfold Prg.cycled
  rw [defn_idx hd]
  rfl

/-- The program after a cycle behind which no release waits. -/
structure Prg.EndsCycle (s : State) (i : Nat) (d : Task) (ws : List (Nat × Byte)) (u v : Prg) : Prop where
  banks : v.banks = (Prg.progWrites d.core ws u).banks
  task : v.task i = TaskState.ended (u.task i)
  marks : ∀ e ∈ d.outMap, ∃ h, (e.blk, h) ∈ v.written
  exec : rget v.regs (rk Reg.PRG_T_EXEC 0 i) = wd (s.tim.us - (u.task i).released).toNat

/-- A task whose cycle has ended is not taken up before its next release. -/
theorem ended_ne_ready (st : TaskState) : (TaskState.ended st).phase ≠ .ready := by
  rw [phase_ended]
  split <;> nofun

theorem cycled_shows (t : Task) (u : Prg) : ∃ m sh, Prg.cycled s t u = { u with
    regs := m
    shadow := sh } ∧ rget m (rk Reg.PRG_T_EXEC 0 t.idx) = wd (s.tim.us - (u.task t.idx).released).toNat := by
  obtain ⟨m, hm, hexec⟩ := measure_shows s t (Prg.commitRetained t u)
  unfold Prg.cycled
  rw [hm]
  exact ⟨_, _, rfl, (rget_rmod_ne _ _ (ne_of_offset (by rw [rk_offset]; decide))).trans hexec⟩

theorem cycleEnd_ends {ws : List (Nat × Byte)} (hd : u.defn i = some d) (hp : (u.task i).phase = .running)
    (ha : (u.task i).again = false) :
    Prg.EndsCycle s i d ws u (Prg.cycleEnd s i ws u).u ∧ (Prg.cycleEnd s i ws u).Quiet := by
  rw [cycleEnd_running ws hd hp]
  obtain rfl := defn_idx hd
  have hcopies := copyOuts_copiesOut s d d.outMap (Prg.progWrites d.core ws u)
  generalize d.outMap.foldl (Prg.copyOut s d) (W.of (Prg.progWrites d.core ws u)) = w at hcopies
  obtain ⟨m, sh, hcycled, hexec⟩ := cycled_shows (s := s) d w.u
  have htasks : w.u.tasks = u.tasks := (congrArg Prg.tasks hcopies.rest :)
  have htask : w.u.task d.idx = u.task d.idx := congrArg (sget taskDefault · d.idx) htasks
  have hcycledTask : (w.map (Prg.cycled s d)).u.task d.idx = u.task d.idx := by rw [u_map, hcycled]; exact htask
  obtain ⟨hended, hquiet⟩ := afterCycle_ended (s := s) (w := w.map (Prg.cycled s d)) (hcycledTask ▸ ha)
  have hq : w.Quiet := by rw [W.Quiet, hcopies.fx]; exact ⟨rfl, rfl, rfl⟩
  refine ⟨?_, (hquiet (hq.map _)).map _⟩
  rw [u_map, hended, hcycledTask, u_map, hcycled]
  have hup := chooseAnew_takesUp (Prg.putTask { w.u with regs := m, shadow := sh } d.idx (TaskState.ended (u.task d.idx)))
  have hset := (task_putTask { w.u with regs := m, shadow := sh } d.idx (TaskState.ended (u.task d.idx)) d.idx).trans (if_pos rfl)
  refine ⟨?_, ?_, ?_, ?_⟩
  · exact hup.banks.trans (congrArg Prg.banks hcopies.rest :)
  · exact hup.task_of_ne_ready hset (ended_ne_ready _)
  · rw [hup.written]
    exact hcopies.marks
  · rw [hup.cell _ (by rw [rk_offset]; decide) (by rw [rk_offset]; decide), ← htask]
    exact (rget_putTask _ _ _ (by rw [rk_offset]; decide)).trans hexec

/-- A task with one output entry stores its words in the hidden half of the entry's pair. -/
theorem st_cycleEnd_single {ws : List (Nat × Byte)} {e : MapEntry} (hd : u.defn i = some d) (hp : (u.task i).phase = .running)
    (ho : d.outMap = [e]) : (Prg.cycleEnd s i ws u).st =
      [⟨Pg.PRG + d.core, s.hidden e.blk e.half, wordsBytes (outWords (Prg.progWrites d.core ws u) d e), false⟩] := by
  rw [cycleEnd_running ws hd hp, st_map, st_afterCycle, ho]
  rfl

/-- A cycle's end stores output entries and nothing else. -/
theorem st_cycleEnd {ws : List (Nat × Byte)} {st : Store} (hd : u.defn i = some d) (hp : (u.task i).phase = .running)
    (h : st ∈ (Prg.cycleEnd s i ws u).st) : ∃ e ∈ d.outMap, st.addr = s.hidden e.blk e.half ∧ st.data.length = 4 * e.count := by
  rw [cycleEnd_running ws hd hp, st_map, st_afterCycle] at h
  exact (copyOuts_copiesOut s d d.outMap (Prg.progWrites d.core ws u)).stores st h

/-! ## Errors (R247) -/

/-- The program after a run-time error of task t: the measures of its cycle, RUNTIME_ERR, and the count of errors. -/
def Prg.failed (s : State) (t : Task) (u : Prg) : Prg :=
  ((u.measure s t).taskFlag t.idx 4 true).taskCell Reg.PRG_T_CNT t.idx (fun c => incSatField c 31 16)

theorem failed_shows (s : State) (t : Task) (u : Prg) : ∃ m, Prg.failed s t u = { u with regs := m } ∧
    rbit m (rk Reg.PRG_T_STAT 0 t.idx) 4 = true := by
  obtain ⟨m, hm, -⟩ := measure_shows s t u
  unfold Prg.failed
  rw [hm]
  refine ⟨_, rfl, (rbit_rmod_ne _ _ 4 (ne_of_offset (by rw [rk_offset]; decide))).trans ?_⟩
  exact (rbit_putBit _ _ 4 true (by decide)).trans (if_pos rfl)

/-- A run-time error ends a cycle behind which no release waits and no stop was asked: its code, and the task idle. -/
theorem runtimeError_running (kind : Nat) (hd : u.defn i = some d) (hp : (u.task i).phase = .running) (ha : (u.task i).again = false)
    (hs : (u.task i).stopReq = false) :
    Prg.runtimeError s i kind u =
      ((((W.of (Prg.failed s d u)).evt (Pg.PRG + d.core) 1).code (Pg.PRG + d.core) (if kind = 0 then 0x20C3 else 0x2B12)
        [wd kind, wd i]).map (fun v => v.putTask i { u.task i with phase := .idle })).map Prg.chooseAnew := by
  unfold Prg.runtimeError
  rw [hd]
  dsimp only
  rw [if_pos hp]
  obtain rfl := defn_idx hd
  obtain ⟨m, hm, -⟩ := failed_shows s d u
  have htask : (Prg.failed s d u).task d.idx = u.task d.idx := by rw [hm]; rfl
  have hcycle := afterCycle_idle (s := s) (t := d) (w := ((W.of (Prg.failed s d u)).evt (Pg.PRG + d.core) 1).code (Pg.PRG + d.core)
    (if kind = 0 then 0x20C3 else 0x2B12) [wd kind, wd d.idx]) (by rw [u_code, u_evt, u_of, htask, hs])
    (by rw [u_code, u_evt, u_of, htask, ha])
  rw [u_code, u_evt, u_of, htask] at hcycle
  exact congrArg (W.map Prg.chooseAnew) hcycle

/-- A task whose instruction fetch has failed. -/
def TaskState.faulted (st : TaskState) : TaskState := { st with phase := .faulted, copying := false, again := false }

/-- The program with FAULT of a core's PRGn_STAT at 1. -/
def Prg.showFault (core : Nat) (u : Prg) : Prg := { u with regs := rmod u.regs (rk Reg.PRG_STAT core 0) (fun x => putBit x 1 true) }

theorem task_showFault (core i : Nat) (u : Prg) : (Prg.showFault core u).task i = u.task i := rfl

theorem rbit_showFault (core : Nat) (u : Prg) : rbit (Prg.showFault core u).regs (rk Reg.PRG_STAT core 0) 1 = true :=
  (rbit_putBit u.regs (rk Reg.PRG_STAT core 0) 1 true (by decide)).trans (if_pos rfl)

/-- A fetch fault leaves its code, the task FAULTED and its core's FAULT. -/
theorem fetchFault_faults (hd : u.defn i = some d) :
    Prg.fetchFault i u =
      (((W.of (Prg.showFault d.core (u.putTask i (TaskState.faulted (u.task i))))).evt (Pg.PRG + d.core) 2).code (Pg.PRG + d.core) 0x40C6
        [wd i]).map Prg.scheduleAll := by
  unfold Prg.fetchFault
  rw [hd]
  rfl

/-! ## The end of an input copy (R245) -/

/-- The end of an input copy gives the task the next place in order, and the cores choose anew. -/
theorem copyDone_copying (h : (u.task i).copying = true) :
    u.copyDone i = Prg.chooseAnew (u.putTask i { u.task i with copying := false, order := u.nextOrder }) := if_pos h

end

end Sys2Proof.Proofs
end

section
/-! PRG0–PRG2: writes of PRG_T_CTRL (R258), and the settling of the commands of tasks. -/

namespace Sys2Proof.Proofs

open Sys2Proof Sys2Proof.Machine

-- One proof after another: many at once wait for the kernel in threads of their own, which the check's memory limit does not hold.
set_option Elab.async false

/-! ## STOP, START and CLR (R258) -/

section
variable {u : Prg} {i : Nat} {d : Task}

/-- What STOP and START leave of the program beside the task they name. -/
structure Prg.OnlyTask (i : Nat) (u v : Prg) : Prop where
  task : ∀ j, j ≠ i → v.task j = u.task j
  banks : v.banks = u.banks

theorem onlyTask_putTask (u : Prg) (i : Nat) (st : TaskState) : Prg.OnlyTask i u (u.putTask i st) :=
  ⟨fun j hj => (task_putTask u i st j).trans (if_neg hj), rfl⟩

/-- STOP stops an idle task at once. -/
theorem stopTask_idle (hd : u.defn i = some d) (hp : (u.task i).phase = .idle) :
    u.stopTask i = u.putTask i { u.task i with phase := .stopped, startReq := false } := by
  unfold Prg.stopTask
  simp only [hd, hp]

/-- STOP of a released task is kept until its cycle ends. -/
theorem stopTask_released (hd : u.defn i = some d) (hp : (u.task i).phase = .running ∨ (u.task i).phase = .ready) :
    u.stopTask i = u.putTask i { u.task i with stopReq := true } := by
  unfold Prg.stopTask
  obtain hp | hp := hp <;> simp only [hd, hp]

/-- STOP acts on the task it names. -/
theorem stopTask_onlyTask (u : Prg) (i : Nat) : Prg.OnlyTask i u (u.stopTask i) := by
  unfold Prg.stopTask
  split
  · exact ⟨fun _ _ => rfl, rfl⟩
  · dsimp only
    split
    case h_3 => exact ⟨fun _ _ => rfl, rfl⟩
    all_goals exact onlyTask_putTask ..

/-- START of a stopped task is kept until its next release. -/
theorem startTask_stopped (hd : u.defn i = some d) (hp : (u.task i).phase = .stopped) :
    u.startTask i = u.putTask i { u.task i with startReq := true } := by
  unfold Prg.startTask
  simp only [hd, hp]

/-- Cells set to a list of values without repeats hold them. -/
theorem rget_rsets_of_mem {m : RMap} {l : List (Nat × Word)} (hl : (l.map Prod.fst).Nodup) {k : Nat} {v : Word} (h : (k, v) ∈ l) :
    rget (rsets m l) k = v := by
  induction l generalizing m with
  | nil => exact absurd h List.not_mem_nil
  | cons e l ih =>
    obtain ⟨hnew, hl⟩ := List.nodup_cons.mp hl
    obtain rfl | h := List.mem_cons.mp h
    · exact rget_rsets_first fun p hp he => hnew (List.mem_map.mpr ⟨p, hp, he⟩)
    · exact ih hl h

/-- CLR returns the minima, maxima and counts of its task to their reset values. -/
theorem clearStats_cells (u : Prg) (i : Nat) :
    rget (u.clearStats i).regs (rk Reg.PRG_T_IDLE_MIN 0 i) = 0xFFFFFFFF#32 ∧ rget (u.clearStats i).regs (rk Reg.PRG_T_EXEC_MAX 0 i) = 0#32 ∧
      rget (u.clearStats i).regs (rk Reg.PRG_T_CNT 0 i) = 0#32 ∧ rget (u.clearStats i).regs (rk Reg.PRG_T_TRIG 0 i) = 0#32 := by
  have hnodup : [rk Reg.PRG_T_IDLE_MIN 0 i, rk Reg.PRG_T_EXEC_MAX 0 i, rk Reg.PRG_T_CNT 0 i, rk Reg.PRG_T_TRIG 0 i].Nodup := by simp [rk]
  unfold Prg.clearStats
  refine ⟨?_, ?_, ?_, ?_⟩
  all_goals
    refine rget_rsets_of_mem ?_ (by simp)
    exact hnodup

end

/-! ## Writes of PRG_T_CTRL (R258) -/

/-- PRG_T_CTRL's row: STOP, START and CLR act when written with 1, for the task of PRG_TSEL. -/
abbrev taskCtrlRow : RegRow := ⟨Reg.PRG_T_CTRL % 0x400, 0, 0, 0, 0, 0, 7, Reg.PRG_TSEL % 0x400, 48⟩

/-- The window of PRG_T_CTRL is the task that PRG_TSEL selects. -/
theorem windowOf_taskCtrl {s : State} {i : Nat} (hi : (rget s.prg.regs Reg.PRG_TSEL).toNat = i) (h48 : i < 48) :
    s.windowOf Pg.PRG taskCtrlRow = some i := by
  subst hi
  exact if_pos h48

/-- What a write of PRG_T_CTRL whose own effect leaves the program as u makes of s: its tasks, its banks and its cells, but for PRGn_STAT
of cores whose rate the write restores or cuts, and no byte. -/
structure State.TakesTask (s : State) (u : Prg) (t : State) : Prop where
  tasks : t.prg.tasks = u.tasks
  banks : t.prg.banks = u.banks
  cell : ∀ k, k % 0x400 ≠ Reg.PRG_STAT % 0x400 → rget t.prg.regs k = rget u.regs k
  mem : t.mem = s.mem

theorem State.TakesTask.task {s t : State} {u : Prg} (h : State.TakesTask s u t) (i : Nat) : t.prg.task i = u.task i :=
  congrArg (sget taskDefault · i) h.tasks

theorem taskCtrl_taken (acc : Accessor) {v : Word} {i : Nat} {s : State} {f : Prg → Prg}
    (h : s.Admits acc Pg.PRG (Reg.PRG_T_CTRL % 0x400)) (hi : (rget s.prg.regs Reg.PRG_TSEL).toNat = i) (h48 : i < 48)
    (ht : ∀ run, taskCtrlRow.takes run v = true) (hf : ∀ old t, State.actPlain Reg.PRG_T_CTRL 0 i v old t = { t with prg := f t.prg }) :
    ∃ m, State.TakesTask s (f { s.prg with regs := m }) (s.writePlain acc Reg.PRG_T_CTRL 0 v) := by
  let z := s.written Pg.PRG Pg.PRG (Reg.PRG_T_CTRL % 0x400) i Reg.PRG_T_CTRL taskCtrlRow v
  obtain ⟨n, hn, hcell⟩ := releaseIdle_prg { z with prg := f z.prg }
  rw [writePlain_taken acc Reg.PRG_T_CTRL 0 v s h (by decide) (by decide) taskCtrlRow i (by decide) (by decide) (by decide)
    (windowOf_taskCtrl hi h48) (.inl rfl) (by decide) rfl (ht _), hf]
  refine ⟨z.prg.regs, (congrArg Prg.tasks hn :), (congrArg Prg.banks hn :), fun k hk => ?_, releaseIdle_mem _⟩
  exact (congrArg (fun u : Prg => rget u.regs k) hn).trans (hcell k fun _ => ne_of_offset hk)

/-- Settles O22: the ends of an input copy and of a cycle by what they leave of the program before the cores choose anew, a choice by what
it can change, and STOP, START and CLR by the write of PRG_T_CTRL that makes them. -/
theorem taskCommands : Obligations.TaskCommands := by
  unfold Obligations.TaskCommands
  refine ⟨fun a i d s hd _ hw hcopy => ?_, fun a i d ws s hd _ hw hp ha => ?_, fun a i d e ws s hd _ hw hp ho => ?_,
    fun a i d kind s hd _ hw hp ha hs => ?_, fun a i d s hd _ hw => ?_, fun a acc i d s h hi h48 hd => ?_,
    fun a acc i d s h hi h48 hd hp => ?_, fun a acc i s h hi h48 => ?_⟩
  case refine_1 =>
    refine ⟨{ s.at_ a with prg := s.prg.copyDone i.val }, congrArg Host.Outcome.next (onTask_works _ hd hw), ?_⟩
    dsimp only
    rw [copyDone_copying hcopy]
    have hup := chooseAnew_takesUp (s.prg.putTask i.val { s.prg.task i.val with copying := false, order := s.prg.nextOrder })
    have hset := task_putTask_self s.prg i.val { s.prg.task i.val with copying := false, order := s.prg.nextOrder }
    refine ⟨?_, ?_, ?_, fun j hj => ?_, ?_, ?_, rfl, fun _ => rfl⟩
    · exact hup.copying_order.1.trans (congrArg TaskState.copying hset)
    · exact hup.copying_order.2.trans (congrArg TaskState.order hset)
    · exact hup.nextOrder
    · exact hup.copying_order.1.trans (congrArg TaskState.copying ((onlyTask_putTask ..).task j hj))
    · exact hup.banks
    · exact hup.shadow
  case refine_2 =>
    obtain ⟨⟨hbanks, htask, hmarks, hexec⟩, hq⟩ := cycleEnd_ends (s := s.at_ a) (ws := ws) hd hp ha
    have ht := onPrg_prg (a := a) (f := Prg.cycleEnd (s.at_ a) i.val ws) rfl hq
    refine ⟨_, congrArg Host.Outcome.next (onTask_works _ hd hw), ?_, ?_, ?_, ?_, fun b hb => ?_, shell_onPrg ..⟩
    · exact (congrArg Prg.banks ht).trans hbanks
    · exact (congrArg (fun u : Prg => (u.task i.val).phase) ht).trans ((congrArg TaskState.phase htask).trans (phase_ended _))
    · rw [ht]
      exact hmarks
    · rw [ht]
      exact hexec
    · refine (byte_onPrg_at rfl b).trans ((byte_stores_outside _ _ b fun st hst => ?_).trans (byte_strike ..))
      obtain ⟨e, he, haddr, hlen⟩ := st_cycleEnd hd hp hst
      rw [haddr, hlen]
      exact hb e he
  case refine_3 =>
    refine ⟨_, congrArg Host.Outcome.next (onTask_works _ hd hw), fun k hk => ?_⟩
    rw [byte_onPrg_at rfl, st_cycleEnd_single hd hp ho]
    exact byte_store_inside _ ⟨_, s.hidden e.blk e.half, _, _⟩ k hk
  case refine_4 =>
    have hrun := runtimeError_running (s := s.at_ a) kind hd hp ha hs
    have hup := chooseAnew_takesUp ((Prg.failed (s.at_ a) d s.prg).putTask i.val { s.prg.task i.val with phase := .idle })
    obtain ⟨m, hm, hflag⟩ := failed_shows (s.at_ a) d s.prg
    have ht := onPrg_prg (a := a) hrun ⟨rfl, rfl, rfl⟩
    refine ⟨_, congrArg Host.Outcome.next (onTask_works _ hd hw), ?_, ?_, ?_, ?_, ?_, shell_onPrg .., fun b => ?_⟩
    · rw [ht]
      exact congrArg TaskState.phase (hup.task_of_ne_ready (task_putTask_self ..) nofun)
    · rw [ht]
      refine (hup.flag i.val 4 (by decide) (by decide)).trans ((rbit_putTask _ _ _ _ (by decide) (by decide)).trans ?_)
      rw [hm, ← defn_idx hd]
      exact hflag
    · refine (errCode_onPrg_at hrun ⟨rfl, rfl, rfl⟩ (l := []) rfl (corePage_ne_snap d.core)).trans ?_
      dsimp only
      split <;> rfl
    · rw [ht]
      exact hup.banks.trans (congrArg Prg.banks hm :)
    · rw [ht]
      exact hup.written.trans (congrArg Prg.written hm :)
    · rw [byte_onPrg_at hrun]
      exact byte_strike ..
  case refine_5 =>
    have hrun := fetchFault_faults (u := s.prg) hd
    have hup := takesUp_scheduleAll (Prg.showFault d.core (s.prg.putTask i.val (TaskState.faulted (s.prg.task i.val))))
    have hset := (task_showFault d.core i.val _).trans (task_putTask_self s.prg i.val (TaskState.faulted (s.prg.task i.val)))
    have ht := onPrg_prg (a := a) hrun ⟨rfl, rfl, rfl⟩
    refine ⟨_, congrArg Host.Outcome.next (onTask_works _ hd hw), ?_, ?_, ?_, ?_, shell_onPrg .., fun b => ?_⟩
    · rw [ht]
      exact congrArg TaskState.phase (hup.task_of_ne_ready hset nofun)
    · rw [ht]
      exact (hup.coreFlag d.core 1 (by decide)).trans (rbit_showFault ..)
    · exact (errCode_onPrg_at hrun ⟨rfl, rfl, rfl⟩ (l := []) rfl (corePage_ne_snap d.core)).trans (Nat.mod_eq_of_lt (show 0x40C6 < 0x10000 by decide))
    · rw [ht]
      exact hup.banks
    · rw [byte_onPrg_at hrun]
      exact byte_strike ..
  case refine_6 =>
    obtain ⟨m, ht⟩ := taskCtrl_taken (s := s.at_ a) acc (f := Prg.stopTask i) (v := 1#32) h hi h48 (by decide) (fun _ _ => rfl)
    rw [at_prg] at ht
    obtain ⟨hother, hbanks⟩ := stopTask_onlyTask { s.prg with regs := m } i
    refine ⟨_, rfl, fun hp => ?_, fun hp => ?_, fun j hj => (ht.task j).trans (hother j hj), ht.banks.trans hbanks,
      sameBytes_of_mem ht.mem⟩
    · rw [stopTask_idle (u := { s.prg with regs := m }) hd hp] at ht
      exact congrArg TaskState.phase ((ht.task i).trans (task_putTask_self ..))
    · rw [stopTask_released (u := { s.prg with regs := m }) hd hp] at ht
      have hset := (ht.task i).trans (task_putTask_self ..)
      exact ⟨(congrArg TaskState.stopReq hset :), (congrArg TaskState.phase hset :)⟩
  case refine_7 =>
    obtain ⟨m, ht⟩ := taskCtrl_taken (s := s.at_ a) acc (f := Prg.startTask i) (v := 2#32) h hi h48 (by decide) (fun _ _ => rfl)
    rw [at_prg, startTask_stopped (u := { s.prg with regs := m }) hd hp] at ht
    obtain ⟨hother, hbanks⟩ := onlyTask_putTask { s.prg with regs := m } i { s.prg.task i with startReq := true }
    exact ⟨_, rfl, (ht.task i).trans (task_putTask_self ..), fun j hj => (ht.task j).trans (hother j hj), ht.banks.trans hbanks,
      sameBytes_of_mem ht.mem⟩
  case refine_8 =>
    obtain ⟨m, ht⟩ := taskCtrl_taken (s := s.at_ a) acc (f := Prg.clearStats i) (v := 4#32) h hi h48 (by decide) (fun _ _ => rfl)
    obtain ⟨hidle, hexec, hcnt, htrig⟩ := clearStats_cells { s.prg with regs := m } i
    have hcell : ∀ r, r % 0x400 ≠ Reg.PRG_STAT % 0x400 → _ := fun r hr => ht.cell (rk r 0 i) (by rw [rk_offset]; exact hr)
    exact ⟨_, rfl, (hcell _ (by decide)).trans hidle, (hcell _ (by decide)).trans hexec, (hcell _ (by decide)).trans hcnt,
      (hcell _ (by decide)).trans htrig, ht.tasks, sameBytes_of_mem ht.mem⟩

end Sys2Proof.Proofs
end

section
/-! The force table, the retained saves and the online change (R250–R257): the code that the release of idle requesters leaves after the
own code of a register write. -/

namespace Sys2Proof.Proofs

open Sys2Proof Sys2Proof.Machine

-- One proof after another: many at once wait for the kernel in threads of their own, which the check's memory limit does not hold.
set_option Elab.async false

/-- RUN, with the rate of core 0 cut in PWR and shown as cut in PRG0_STAT, and PRG0_BUDGET.RES at 100 %: nothing is left to ask for
above the reserve, so that the requester is idle, and the next register write releases it (R395). -/
def idleRateCut : State :=
  let shown := rmod State.reset.prg.regs (rk Reg.PRG_STAT 0 0) (fun w => putBit w 0 true)
  { State.reset with
    mode := .run
    prg := { State.reset.prg with regs := rset shown (rk Reg.PRG_BUDGET 0 0) 100#32 }
    pwr := State.reset.pwr.setState 14 2 }

/-- SUP may commit a force entry there. -/
theorem idleRateCut_admits : idleRateCut.Admits .sup Pg.PRG (Reg.PRG_FRC_WORD % 0x400) := by
  unfold State.Admits
  decide +kernel

/-- A commit of force entry 0 with EN at 1 records 0x1B20 and, as the write releases the idle requester, 0x0B31 after it. -/
theorem idleRateCut_forceCommit :
    ((idleRateCut.at_ ⟨0, []⟩).writePlain .sup Reg.PRG_FRC_WORD 0 0x80000000#32).errCode Pg.PRG = 0x0B31 := by
  decide +kernel

/-- Refutes O23: its clause on FORCE_COMMIT leaves out that the write ends with the release of idle requesters (R395), which can restore
the rate of core 0 and record 0x0B31 (R244) in the same PAGE_ERR after the 0x1B20 of the commit (R252). -/
theorem not_retainForceAndChangeCommands : ¬ Obligations.RetainForceAndChangeCommands := by
  unfold Obligations.RetainForceAndChangeCommands
  rintro ⟨-, -, -, -, hforce, -⟩
  obtain ⟨t, hx, -, -, -, hcode, -⟩ := hforce ⟨0, []⟩ .sup 0x80000000#32 0 idleRateCut idleRateCut_admits (by decide +kernel) (by decide)
  obtain rfl := Host.Outcome.next.inj hx
  exact absurd ((hcode (by decide)).symm.trans idleRateCut_forceCommit) (by decide)

end Sys2Proof.Proofs
end

section
/-! Every command completes, true time and the queue move on, and the reset state meets the invariants (R287, R418). -/

namespace Sys2Proof.Proofs

open Sys2Proof Sys2Proof.Machine

-- One proof after another: many at once wait for the kernel in threads of their own, which the check's memory limit does not hold.
set_option Elab.async false

/-! ## The step and the queue -/

theorem step_cons {s : State} {c : Instr} {rest : List Instr} (h : s.pending = c :: rest) : step s = exec c { s with pending := rest } := by
  unfold step
  rw [h]

theorem step_nil {s : State} (h : s.pending = []) : step s = .next s := by
  unfold step
  rw [h]

/-- Settles O1: the two cases of the step's own match. -/
theorem stepTakesTheFrontCommand : Obligations.StepTakesTheFrontCommand := by
  unfold Obligations.StepTakesTheFrontCommand
  exact ⟨fun _ _ _ => step_cons, fun _ => step_nil⟩

/-! ## Every command completes -/

/-- A command of any kind is an effect at its time, which is a next state. -/
theorem exec_completes (i : Instr) (s : State) : ∃ t, exec i s = .next t := by
  cases i <;> exact ⟨_, rfl⟩

/-- Settles O52: every meaning is an effect at the command's time, and a step is a command's or leaves the state. -/
theorem everyCommandCompletes : Obligations.EveryCommandCompletes := by
  unfold Obligations.EveryCommandCompletes
  refine ⟨exec_completes, fun s => ?_⟩
  cases h : s.pending with
  | nil => exact ⟨s, step_nil h⟩
  | cons c rest =>
    rw [step_cons h]
    exact exec_completes c _

/-- Settles O53: each invariant by evaluation of the reset state. -/
theorem resetMeetsTheInvariants : Obligations.ResetMeetsTheInvariants := by
  unfold Obligations.ResetMeetsTheInvariants
  exact ⟨rfl, rfl, rfl, by decide, rfl⟩

/-- Settles O55: a command moves true time on and leaves the rest of the queue, whatever it does else. -/
theorem timeAndTheQueueMoveOn : Obligations.TimeAndTheQueueMoveOn := by
  unfold Obligations.TimeAndTheQueueMoveOn
  intro s t h
  cases hq : s.pending with
  | nil =>
    rw [step_nil hq] at h
    cases h
    exact ⟨le_rfl, hq⟩
  | cons c rest =>
    rw [step_cons hq] at h
    have hc := exec_leads c { s with pending := rest } t h
    exact ⟨hc.now, hc.pending⟩

end Sys2Proof.Proofs
end

section
/-! What the safety layer's work leaves of its settings: the layer, the set in force, the staging copy, the active region and the
confirmed values (R366, R379, R380). Evaluation, outputs, resets and requests leave them all; only the lock, the set's own operations
and the module's states change them. -/

namespace Sys2Proof.Proofs

open Sys2Proof Sys2Proof.Machine

-- One proof after another: many at once wait for the kernel in threads of their own, which the check's memory limit does not hold.
set_option Elab.async false

/-- The safety layer without its channels, outputs and registers. -/
def safSettings (u : Saf) : Nat × List Word × List (Nat × Word) × Option Bool × Word × Word :=
  (u.layer, u.set, u.staging, u.active, u.valueA, u.valueB)

/-- A conditional step leaves what its branch leaves. -/
theorem when_keeps {U : Type} {P : W U → Prop} {c : Bool} {f : W U → W U} (hf : ∀ v, P v → P (f v)) {w : W U} (h : P w) :
    P (w.when c f) := by
  unfold W.when
  split
  · exact hf w h
  · exact h

section
variable (isC : Bool) (u : Saf)

@[simp] theorem safSettings_putChan (c : SafChan) : safSettings (u.putChan isC c) = safSettings u := by cases isC <;> rfl
@[simp] theorem safSettings_putOut (k : Nat) (o : SafOut) : safSettings (u.putOut k o) = safSettings u := rfl
@[simp] theorem safSettings_modInst (i : Nat) (g : SafInst → SafInst) : safSettings (Saf.modInst isC i g u) = safSettings u :=
  safSettings_putChan isC u _

theorem safSettings_seeRequests : safSettings u.seeRequests = safSettings u := by
  refine foldl_keeps (fun v : Saf => safSettings v = safSettings u) _ (fun v k hv => ?_) _ _ rfl
  dsimp only
  simp only [apply_ite safSettings, safSettings_putOut, ite_self, hv]

theorem safSettings_showInst (now i : Nat) : safSettings (Saf.showInst now u i) = safSettings u := rfl

/-- The registers that follow from the layer's state are the whole of what `settle` shows. -/
theorem safSettings_regs (m : RMap) : safSettings { u with regs := m } = safSettings u := rfl

@[simp] theorem safSettings_settle (now : Nat) : safSettings (u.settle now) = safSettings u := by
  have h : safSettings ((upto 16).foldl (Saf.showInst now) u.seeRequests) = safSettings u :=
    foldl_keeps (fun v : Saf => safSettings v = safSettings u) _ (fun v i hv => (safSettings_showInst v now i).trans hv) _ _
      (safSettings_seeRequests u)
  unfold Saf.settle
  dsimp only
  rw [safSettings_regs, safSettings_regs, h]

@[simp] theorem safSettings_showBounds (p : List Word) : safSettings (u.showBounds p) = safSettings u := rfl

theorem safSettings_change (t i : Nat) (v : Bool) : safSettings (Saf.change isC t i v u) = safSettings u := by
  have hpressed : ∀ (x : Saf) (b : BitVec 32), safSettings { x with pressed := b } = safSettings x := fun _ _ => rfl
  have hshort : ∀ (x : Saf) (n : Nat), safSettings { x with short := n } = safSettings x := fun _ _ => rfl
  unfold Saf.change
  dsimp only
  simp only [apply_ite safSettings, safSettings_regs, hpressed, hshort, safSettings_putChan, ite_self]

@[simp] theorem safSettings_advance (now : Nat) : safSettings (u.advance isC now) = safSettings u := by
  refine foldl_keeps (fun v : Saf => safSettings v = safSettings u) _ (fun v k hv => ?_) _ _ rfl
  dsimp only
  simp only [apply_ite safSettings, safSettings_change, ite_self, hv]

@[simp] theorem safSettings_check : safSettings u.check = safSettings u := rfl
@[simp] theorem safSettings_countTest (k : Nat) (failed : Bool) : safSettings (u.countTest k failed) = safSettings u := rfl

@[simp] theorem safSettings_switchPass (k : Nat) (low : Bool) : safSettings (u.switchPass k low) = safSettings u := by
  unfold Saf.switchPass
  dsimp only
  simp only [apply_ite safSettings, safSettings_putOut, ite_self]

@[simp] theorem safSettings_slRecover (now sl : Nat) : safSettings (u.slRecover now sl) = safSettings u := by
  unfold Saf.slRecover
  dsimp only
  split
  · rw [safSettings_settle]
    exact foldl_keeps (fun v : Saf => safSettings v = safSettings u) _ (by intro _ _ hv; exact hv) _ _ rfl
  · rfl

@[simp] theorem safSettings_refreshReq (now : Nat) (toC toH : Bool) : safSettings (u.refreshReq now toC toH) = safSettings u := by
  unfold Saf.refreshReq
  dsimp only
  rw [safSettings_settle]
  simp only [apply_ite safSettings, safSettings_putChan, ite_self]

end

section
variable {isC : Bool} {w : W Saf} {now i : Nat} {k : Nat × List Word × List (Nat × Word) × Option Bool × Word × Word}

/-- Work whose unit has the settings k. -/
def SafHas (k : Nat × List Word × List (Nat × Word) × Option Bool × Word × Word) (w : W Saf) : Prop := safSettings w.u = k

theorem SafHas.modInst (h : SafHas k w) (j : Nat) (g : SafInst → SafInst) : SafHas k (w.map (Saf.modInst isC j g)) :=
  (safSettings_modInst isC w.u j g).trans h

theorem SafHas.settle (h : SafHas k w) (now : Nat) : SafHas k (w.map (Saf.settle now)) := (safSettings_settle w.u now).trans h
theorem SafHas.code (h : SafHas k w) (p c : Nat) (l : List Word) : SafHas k (w.code p c l) := h
theorem SafHas.codeRec (h : SafHas k w) (p c : Nat) (l : List Word) : SafHas k (w.codeRec p c l) := h
theorem SafHas.evt (h : SafHas k w) (p f : Nat) : SafHas k (w.evt p f) := h
theorem SafHas.when (h : SafHas k w) {c : Bool} {f : W Saf → W Saf} (hf : ∀ v, SafHas k v → SafHas k (f v)) : SafHas k (w.when c f) :=
  when_keeps hf h
theorem SafHas.ite (c : Prop) [Decidable c] {v w : W Saf} (hv : SafHas k v) (hw : SafHas k w) : SafHas k (if c then v else w) := by
  split
  · exact hv
  · exact hw

theorem SafHas.goto (h : SafHas k w) (st : Nat) : SafHas k (Saf.goto isC now i st w) :=
  .ite _ h (.when (.when (.when (h.modInst i _) (by intro _ hv; exact hv)) (fun v hv => SafHas.when (w := v.codeRec _ _ _) hv (by intro _ hx; exact hx)))
    (fun v hv => SafHas.when (w := v.code _ _ _) hv (by intro _ hx; exact hx)))

theorem SafHas.countFault (h : SafHas k w) : SafHas k (Saf.countFault isC i w) := h.modInst i _

theorem SafHas.twoHand (h : SafHas k w) : SafHas k (Saf.twoHand isC now i w) := by
  unfold Saf.twoHand
  extract_lets u f x l b1 b2 released miss
  have hmiss : SafHas k (miss w) := ((h.modInst i _).code _ _ _).goto 6
  refine .ite _ (.ite _ (h.modInst i _) (.ite _ ?first (.ite _ (h.modInst i _) h))) (.ite _ (.ite _ h (h.goto 6))
    (.ite _ (.ite _ h ((h.code _ _ _).goto 5)) (.ite _ (.ite _ ((h.goto 1).modInst i _) h) h)))
  case first =>
    split
    · exact .ite _ ((h.modInst i _).goto 3) hmiss
    · exact .ite _ ((h.modInst i _).goto 3) h

theorem SafHas.evalInst (h : SafHas k w) : SafHas k (Saf.evalInst isC now w i) := by
  unfold Saf.evalInst
  extract_lets u p f x dem ab cd
  have hw := h.modInst (isC := isC) i (fun x => { x with
    demand := dem, pairAB := ab, pairCD := cd, demands := if dem && !x.demand then x.demands + 1 else x.demands })
  exact .ite _ h (.ite _ hw.twoHand (.ite _ (.ite _ (hw.goto _) hw) (.ite _ (.ite _ (hw.goto 1) hw)
    (.ite _ (.ite _ ((hw.code _ _ _).goto 5) hw) hw))))

theorem SafHas.foldl (h : SafHas k w) {B : Type} {f : W Saf → B → W Saf} (hf : ∀ v b, SafHas k v → SafHas k (f v b)) (l : List B) :
    SafHas k (l.foldl f w) :=
  foldl_keeps (SafHas k) f hf l w h

theorem SafHas.evaluate (h : SafHas k w) : SafHas k (Saf.evaluate isC now w) := .ite _ (h.foldl (fun _ _ hv => hv.evalInst) _) h

theorem SafHas.crossCompare (h : SafHas k w) : SafHas k (Saf.crossCompare now w i) := by
  unfold Saf.crossCompare
  extract_lets u differ n w1 set w2 w3 w4 w5
  have h1 : SafHas k w1 := h.modInst i _
  have h2 : SafHas k w2 := ((safSettings_modInst ..).trans (safSettings_modInst ..)).trans h1
  have h5 : SafHas k w5 := (SafHas.countFault (SafHas.countFault (w := w3) h2))
  exact .ite _ (SafHas.goto (SafHas.goto h5 5) 5) h1

theorem SafHas.both (u : Saf) {f : W Saf → Bool → W Saf} (hf : ∀ v b, SafHas (safSettings u) v → SafHas (safSettings u) (f v b)) :
    SafHas (safSettings u) (u.both now f) :=
  (hf _ false (hf (W.of u) true rfl)).settle now

theorem SafHas.discrepancy (h : SafHas k w) : SafHas k (Saf.discrepancy now i w isC) :=
  .ite _ ((((h.modInst i _).countFault).code _ _ _).goto 5) h
theorem SafHas.syncTimeout (h : SafHas k w) : SafHas k (Saf.syncTimeout now i w isC) := .ite _ (((h.modInst i _).code _ _ _).goto 6) h
theorem SafHas.degExpiry (h : SafHas k w) : SafHas k (Saf.degExpiry now i w isC) := .ite _ ((h.code _ _ _).goto 5) h

theorem SafHas.react (h : SafHas k w) (o : Nat) : SafHas k (Saf.react now o isC w i) :=
  .ite _ (.ite _ (.ite _ (h.countFault.goto 4) h.countFault) (h.countFault.goto 5)) h

theorem SafHas.resetInst (h : SafHas k w) : SafHas k (Saf.resetInst isC now w i) :=
  .ite _ (.ite _ (h.when (fun _ hv => hv)) (h.goto 3)) <| .ite _ (.ite _ (h.when (fun _ hv => hv)) <|
    .ite _ (h.when (fun _ hv => hv)) ((h.modInst i _).goto _)) h

end

section
variable (u : Saf) (now : Nat)

theorem safSettings_cycle (raw : BitVec 32) (work : Nat) : safSettings (u.cycle raw now work).u = safSettings u := by
  unfold Saf.cycle
  extract_lets u1 u2 w1 w2
  have h1 : SafHas (safSettings u) w1 :=
    SafHas.evaluate (SafHas.evaluate (w := W.of u2) ((safSettings_advance ..).trans (safSettings_advance ..)))
  have h2 : SafHas (safSettings u) w2 := .ite _ (h1.foldl (fun _ _ hv => hv.crossCompare) _) h1
  exact (safSettings_settle ..).trans h2

theorem safSettings_inputChange (raw : BitVec 32) : safSettings (u.inputChange raw now).u = safSettings u := by
  have h : SafHas (safSettings u) (Saf.evaluate false now (W.of (u.advance false now))) :=
    SafHas.evaluate (w := W.of (u.advance false now)) (safSettings_advance ..)
  exact (safSettings_settle ..).trans h

theorem safSettings_switchFault (k : Nat) (low conducting : Bool) : safSettings (u.switchFault now k low conducting).u = safSettings u := by
  unfold Saf.switchFault
  extract_lets o o' onset1 v1 w1 w2 onset2 v2
  have h1 : SafHas (safSettings u) w1 := SafHas.when (w := W.of v1) rfl (fun _ hv => hv)
  have h2 : SafHas (safSettings u) w2 := .ite _ (h1.foldl (fun _ _ hv => hv.react _) _) h1
  exact SafHas.ite _ (.ite _ (h2.foldl (fun _ _ hv => hv.react _) _) h2) (SafHas.when (w := W.of v2) rfl (fun _ hv => hv))

theorem safSettings_testPulse (k : Nat) (low : Bool) (vp vm sl ma : Nat) :
    safSettings (u.testPulse now k low vp vm sl ma).u = safSettings u := by
  unfold Saf.testPulse
  split
  · extract_lets on pass u1 o u2
    have h2 : safSettings u2 = safSettings u := (safSettings_countTest ..).trans (safSettings_putOut ..)
    have hpass : SafHas (safSettings u) (W.of (u2.switchPass k low)) := (safSettings_switchPass ..).trans h2
    have hfail : SafHas (safSettings u) (u2.switchFault now k low on) := (safSettings_switchFault ..).trans h2
    exact (SafHas.ite _ hpass hfail).settle now
  · rfl

theorem safSettings_mismatch (k : Nat) (low : Bool) : safSettings (u.mismatch now k low).u = safSettings u := by
  unfold Saf.mismatch
  split
  · rw [u_map, safSettings_settle, safSettings_switchFault, safSettings_countTest]
  · rfl

theorem safSettings_overload (k : Nat) : safSettings (u.overload now k).u = safSettings u := by
  unfold Saf.overload
  split
  · rw [u_map, safSettings_settle]
    rfl
  · rfl

theorem safSettings_undervoltage (sl : Nat) : safSettings (u.undervoltage now sl).u = safSettings u := by
  unfold Saf.undervoltage
  extract_lets onset u1
  split
  · set u2 := (upto 8).foldl (fun u k => u.putOut k { u.out k with uv := true, wait := true, seen0 := false }) u1
    have h2 : safSettings u2 = safSettings u := foldl_keeps (fun v : Saf => safSettings v = safSettings u) _ (by intro _ _ hv; exact hv) _ _ rfl
    exact (SafHas.when (w := W.of u2) h2 (by intro _ hv; exact hv)).settle now
  · rfl

theorem safSettings_resetTaken (j : Nat) : safSettings (u.resetTaken now j).u = safSettings u := by
  unfold Saf.resetTaken
  extract_lets u1 w1 named w2 w3
  have h1 : SafHas (safSettings u) w1 :=
    SafHas.evaluate (SafHas.evaluate (w := W.of u1) ((safSettings_advance ..).trans (safSettings_advance ..)))
  have h3 : SafHas (safSettings u) w3 := SafHas.foldl (w := w2) h1 (fun _ _ hv => hv.resetInst) _
  exact SafHas.ite _ (SafHas.settle (h3.foldl (fun _ _ hv => hv.resetInst) _) now) (h1.settle now)

theorem safSettings_resetHeld (j : Nat) : safSettings (u.resetHeld now j).u = safSettings u := by
  have h : safSettings (u.advance false now) = safSettings u := safSettings_advance ..
  refine SafHas.ite _ (SafHas.settle ?_ now) ((safSettings_settle ..).trans h)
  exact h

theorem safSettings_lossReq (isC : Bool) : safSettings (u.lossReq now isC).u = safSettings u := by
  unfold Saf.lossReq
  dsimp only
  split
  · rw [u_map, safSettings_settle]
    exact safSettings_putChan ..
  · rfl

end

end Sys2Proof.Proofs
end

section
/-! The role and the stone of a Chain member (R260, R274, R275, R277): only a change of role sets them, and a role that is not ACTIVE
comes with a stone of the base alone. -/

namespace Sys2Proof.Proofs

open Sys2Proof Sys2Proof.Machine

-- One proof after another: many at once wait for the kernel in threads of their own, which the check's memory limit does not hold.
set_option Elab.async false

/-- The role is one of the five, and the stone of a member that is not ACTIVE carries no epoch (R260, R274). -/
def ChnEntitled (u : Chn) : Prop := u.role ≤ 4 ∧ (u.role ≠ 1 → u.stone.toNat < 256)

/-- A field of at most 8 bits is below 256. -/
theorem bits_lt {w : Word} {hi lo n : Nat} (h : hi + 1 - lo ≤ n) : bits w hi lo < 2 ^ n :=
  (Nat.mod_lt _ (Nat.two_pow_pos _)).trans_le (Nat.pow_le_pow_right (by decide) h)

theorem chn_base_lt (u : Chn) : u.base < 256 := bits_lt (n := 8) (by decide)

theorem toNat_wd {n : Nat} (h : n < 4294967296) : (wd n).toNat = n := by
  unfold wd
  rw [BitVec.toNat_ofNat, Nat.mod_eq_of_lt h]

theorem chnEntitled_fresh (m : RMap) {base : Nat} (h : base < 256) : ChnEntitled (Chn.fresh m (wd base)) :=
  ⟨Nat.zero_le 4, fun _ => by
    show (wd base).toNat < 256
    rw [toNat_wd (by omega)]
    exact h⟩

/-- A state of CHN with the role and the stone of an entitled one is entitled. -/
theorem ChnEntitled.of_same {u v : Chn} (h : ChnEntitled u) (hr : v.role = u.role) (hs : v.stone = u.stone) : ChnEntitled v := by
  unfold ChnEntitled
  rw [hr, hs]
  exact h

theorem ChnEntitled.mod {u : Chn} (h : ChnEntitled u) (k : Nat) (f : Word → Word) : ChnEntitled (u.mod k f) := h

theorem ChnEntitled.ite {u v : Chn} {c : Prop} [Decidable c] (hu : ChnEntitled u) (hv : ChnEntitled v) : ChnEntitled (if c then u else v) := by
  split
  · exact hu
  · exact hv

/-! ## Work that leaves the unit entitled -/

/-- Work whose unit is entitled. -/
def ChnOk (w : W Chn) : Prop := ChnEntitled w.u

section
variable {w : W Chn}

theorem ChnOk.map (h : ChnOk w) {f : Chn → Chn} (hf : ∀ u, ChnEntitled u → ChnEntitled (f u) := by exact fun _ hu => hu) :
    ChnOk (w.map f) := hf _ h

theorem ChnOk.code (h : ChnOk w) (p c : Nat) (l : List Word) : ChnOk (w.code p c l) := h
theorem ChnOk.evt (h : ChnOk w) (p f : Nat) : ChnOk (w.evt p f) := h
theorem ChnOk.event (h : ChnOk w) (c : Nat) : ChnOk (w.chainEvent c) := h

theorem ChnOk.when (h : ChnOk w) {c : Bool} {f : W Chn → W Chn} (hf : ∀ v, ChnOk v → ChnOk (f v) := by exact fun _ hv => hv) :
    ChnOk (w.when c f) :=
  when_keeps hf h

theorem ChnOk.ite {c : Prop} [Decidable c] {v w : W Chn} (hv : ChnOk v) (hw : ChnOk w) : ChnOk (if c then v else w) := by
  split
  · exact hv
  · exact hw

theorem ChnOk.foldl (h : ChnOk w) {B : Type} {f : W Chn → B → W Chn} (hf : ∀ v b, ChnOk v → ChnOk (f v b)) (l : List B) :
    ChnOk (l.foldl f w) :=
  foldl_keeps ChnOk f hf l w h

theorem ChnOk.send (h : ChnOk w) (e : ChnEnv) (sub : Nat) (body : List Byte) : ChnOk (Chn.send e sub body w) := .ite h h

/-! ## Roles and claims (R260, R275, R277) -/

/-- A change of role sets the stone that the role calls for. -/
theorem ChnOk.setRole (e : ChnEnv) {role : Nat} (epoch code : Nat) (hr : role ≤ 4) : ChnOk (Chn.setRole e role epoch code w) := by
  refine ⟨hr, fun hne => ?_⟩
  show (if role = 1 then _ else wd w.u.base).toNat < 256
  rw [if_neg (show ¬ role = 1 from hne), toNat_wd (by have := chn_base_lt w.u; omega)]
  exact chn_base_lt _

theorem ChnOk.claim (h : ChnOk w) (e : ChnEnv) (epoch code : Nat) : ChnOk (Chn.claim e epoch code w) := .ite h (.setRole e _ _ (by decide))

theorem ChnOk.hear (h : ChnOk w) (e : ChnEnv) (stone : Word) : ChnOk (Chn.hear e stone w) := .when h.map

theorem ChnOk.depose (h : ChnOk w) (e : ChnEnv) (stone : Word) : ChnOk (Chn.depose e stone w) :=
  h.when (fun _ _ => .setRole e _ _ (by decide))

theorem chnOk_enterRun (e : ChnEnv) {u : Chn} (h : ChnEntitled u) : ChnOk (Chn.enterRun e u) :=
  .ite (.setRole e _ _ (by decide)) <| .ite (.setRole e _ _ (by decide)) <| .ite (.setRole e _ _ (by decide)) <|
    .ite (.setRole e _ _ (by decide)) <| .ite (.setRole e _ _ (by decide)) <| ChnOk.claim (w := W.of { u with judged := none, fault := 0 }) h e _ _

theorem chnOk_leaveRun (e : ChnEnv) (u : Chn) : ChnOk (Chn.leaveRun e u) := .setRole e _ _ (by decide)

/-! ## Receiving (R262–R264) -/

/-- A reception leaves what its action on an accepted frame leaves. -/
theorem chnOk_receive (e : ChnEnv) (port : Nat) (bs : List Byte) {dup go : ChainFrame → W Chn → W Chn}
    (hdup : ∀ f v, ChnOk v → ChnOk (dup f v)) (hgo : ∀ f v, ChnOk v → ChnOk (go f v)) {u : Chn} (h : ChnEntitled u) :
    ChnOk (Chn.receive e port bs dup go u) := by
  have hfor : ChnOk (Chn.forward port bs (W.of u)) := ChnOk.when (w := W.of u) h
  unfold Chn.receive
  refine .ite h ?_
  extract_lets w
  split
  · exact hfor
  · refine .ite (hfor.when) (.ite hfor ?_)
    extract_lets w1 w2
    have h1 : ChnOk w1 := hfor.when
    exact .ite (hgo _ _ (ChnOk.map (ChnOk.hear (hdup _ _ h1) e _))) (hdup _ _ h1)

theorem ChnOk.markPath (h : ChnOk w) (port : Nat) (f : ChainFrame) : ChnOk (Chn.markPath port f w) := h

theorem ChnOk.round {u : Chn} (h : ChnEntitled u) (e : ChnEnv) : ChnEntitled (Chn.round e u) := by
  unfold Chn.round
  split
  · exact h
  · exact h

theorem ChnOk.takeHeartbeat (h : ChnOk w) (e : ChnEnv) (port : Nat) (f : ChainFrame) : ChnOk (Chn.takeHeartbeat e port f w) := by
  unfold Chn.takeHeartbeat
  refine .ite h ?_
  extract_lets hb b m w1 w2 forced w3 shelf w4
  have h1 : ChnOk w1 := h.map (fun _ hu => ChnOk.round hu e)
  have h4 : ChnOk w4 := ((h1.when).when).when
  split
  exact .ite (ChnOk.depose (.ite (h4.map.code _ _ _) (.ite (h4.map.map.code _ _ _) h4.map.map)) e _)
    (.ite (h4.map.code _ _ _) (.ite (h4.map.map.code _ _ _) h4.map.map))

theorem ChnOk.takeVerdict (h : ChnOk w) (e : ChnEnv) (f : ChainFrame) : ChnOk (Chn.takeVerdict e f w) := by
  unfold Chn.takeVerdict
  extract_lets v word same w1 w0 w2
  have h1 : ChnOk w1 := h.when
  exact .ite (ChnOk.claim (ChnOk.map (w := w2) h1) e _ _) (.ite h1 (ChnOk.depose (w := w2) h1 e _))

theorem ChnOk.takeSamples (h : ChnOk w) (f : ChainFrame) : ChnOk (Chn.takeSamples f w) := ChnOk.foldl h (by intro _ _ hv; exact hv) _

theorem ChnOk.takePub (h : ChnOk w) (s : State) (e : ChnEnv) (f : ChainFrame) : ChnOk (Chn.takePub s e f w) := by
  unfold Chn.takePub
  extract_lets n part data
  split
  exact .ite h h

theorem ChnOk.takeOutput (h : ChnOk w) (e : ChnEnv) (f : ChainFrame) : ChnOk (Chn.takeOutput e f w) :=
  .ite h (.ite h (ChnOk.when h.map))

theorem ChnOk.takeInput (h : ChnOk w) (f : ChainFrame) : ChnOk (Chn.takeInput f w) := .ite h h

theorem ChnOk.takeState (h : ChnOk w) (e : ChnEnv) (f : ChainFrame) : ChnOk (Chn.takeState e f w) :=
  .ite h (.ite h (ChnOk.map (h.when)))

/-! ## Operations (R284) -/

theorem ChnEntitled.mark {u : Chn} (h : ChnEntitled u) (r b : Nat) : ChnEntitled (u.mark r b) := h

theorem chnEntitled_marks (r : Nat) (l : List Nat) {u : Chn} (h : ChnEntitled u) : ChnEntitled (l.foldl (fun u b => u.mark r b) u) :=
  foldl_keeps ChnEntitled _ (fun _ b hv => hv.mark r b) l u h

theorem chnOk_opStart (e : ChnEnv) {u : Chn} (h : ChnEntitled u) : ChnOk (Chn.opStart e u) := by
  unfold Chn.opStart
  extract_lets op ts clear id u1 u2
  have h1 : ChnEntitled u1 := h.of_same rfl rfl
  clear_value u1
  have h2 : ChnEntitled u2 := chnEntitled_marks _ ts h1
  exact ChnOk.send (w := W.of u2) h2 e _ _

theorem ChnOk.opFinish (h : ChnOk w) (timeout : Bool) : ChnOk (Chn.opFinish timeout w) := .ite (ChnOk.when ((h.map.evt _ _).event _)) h

theorem ChnOk.opAnswer (h : ChnOk w) (b result : Nat) : ChnOk (Chn.opAnswer b result w) := by
  exact .ite (ChnOk.opFinish (h.map (fun u hu => .ite (hu.mark _ _) ((hu.mark _ _).mod _ _))) _) h

theorem ChnOk.takeAck (h : ChnOk w) (f : ChainFrame) : ChnOk (Chn.takeAck f w) := .ite (h.opAnswer _ _) h

theorem chnOk_opTimeout (e : ChnEnv) {u : Chn} (h : ChnEntitled u) : ChnOk (Chn.opTimeout e u) := .ite (ChnOk.opFinish (w := W.of u) h _) h

/-! ## The judgment (R267, R278–R282) -/

theorem ChnOk.judgeMember (h : ChnOk w) (f b : Nat) : ChnOk (Chn.judgeMember f w b) := by
  unfold Chn.judgeMember
  extract_lets m
  split
  · exact ChnOk.when h.map
  · exact ChnOk.when h.map

theorem ChnOk.judgeGap (h : ChnOk w) (e : ChnEnv) (ps : List (Nat × Heartbeat)) : ChnOk (Chn.judgeGap e ps w) := by
  refine .ite (h.map (fun u hu => ?_)) (ChnOk.when h.map)
  have hact : ∀ c : Bool, ChnEntitled (if c then ({ u with actStone := some (w.u.top e.count) } : Chn).mod Reg.CHN_GAP (fun g => incSatField g 31 16)
      else { u with actStone := some (w.u.top e.count) }) := fun _ => .ite hu hu
  exact ((hact _).mod _ _).mod _ _

theorem ChnOk.judgeArbiter (h : ChnOk w) (ps : List (Nat × Heartbeat)) : ChnOk (Chn.judgeArbiter ps w) :=
  .ite (.ite h (ChnOk.when h.map)) h

theorem ChnOk.judgeDispute (h : ChnOk w) (d : Bool) : ChnOk (Chn.judgeDispute d w) := ChnOk.when (ChnOk.when h.map)

theorem ChnOk.sendVerdict (h : ChnOk w) (e : ChnEnv) (v : VerdictMsg) : ChnOk (Chn.sendVerdict e v w) := ChnOk.send h.map e _ _

theorem ChnOk.declare (h : ChnOk w) (e : ChnEnv) (f failed reason : Nat) (ps : List (Nat × Heartbeat)) :
    ChnOk (Chn.declare e f failed reason ps w) := by
  unfold Chn.declare
  split
  · exact h
  · exact .ite h ((h.map.code _ _ _).sendVerdict e _)

theorem ChnOk.arbitrate (h : ChnOk w) (e : ChnEnv) (f : Nat) (ps : List (Nat × Heartbeat)) : ChnOk (Chn.arbitrate e f ps w) := by
  unfold Chn.arbitrate
  split
  · exact .ite h (.ite (h.declare e _ _ _ _) (h.sendVerdict e _))
  · extract_lets w1
    have h1 : ChnOk w1 := by
      show ChnOk (match topActive ps with | some a => w.map (fun u => { u with active := some a.1 }) | none => w)
      split
      · exact h
      · exact h
    split
    · exact h1
    · exact .ite (h1.declare e _ _ _ _) (.ite (h1.declare e _ _ _ _) h1)

theorem ChnOk.selfClaim (h : ChnOk w) (e : ChnEnv) (f : Nat) (ps : List (Nat × Heartbeat)) : ChnOk (Chn.selfClaim e f ps w) :=
  .ite (ChnOk.claim h.map e _ _) h

theorem ChnOk.joinFail (h : ChnOk w) (f reason unit : Nat) : ChnOk (Chn.joinFail f reason unit w) := h

theorem ChnOk.serveJoins (h : ChnOk w) (f : Nat) (ps : List (Nat × Heartbeat)) : ChnOk (Chn.serveJoins f ps w) := by
  unfold Chn.serveJoins
  dsimp only
  refine .ite h ?_
  split
  · exact h.map
  · exact .ite h.map h.map

theorem ChnOk.joiner (h : ChnOk w) (f : Nat) (ps : List (Nat × Heartbeat)) : ChnOk (Chn.joiner f ps w) := by
  have hact : ∀ u, ChnEntitled u → ChnEntitled (match topActive ps with | some a => { u with active := some a.1 } | none => u) := by
    intro u hu
    split
    · exact hu
    · exact hu
  have hjoin : ∀ u : Chn, ChnEntitled u → ChnEntitled (if u.joinState = 0 ∨ u.joinState = 4 then u.joinStat 1 0 0 0 else u) := by
    intro u hu
    split
    · exact hu
    · exact hu
  unfold Chn.joiner
  extract_lets w1 w2 st own act lost cooled differ equal n
  have h1 : ChnOk w1 := hact _ h
  have h2 : ChnOk w2 := hjoin _ h1
  exact .ite h1 <| .ite (h2.joinFail _ _ _) <| .ite (h2.joinFail _ _ _) <| .ite (.ite h2 <| .ite (h2.joinFail _ _ _) h2) h2

theorem ChnOk.judged (h : ChnOk w) (e : ChnEnv) (f : Nat) (ps : List (Nat × Heartbeat)) :
    ChnOk (if w.u.role = 3 then Chn.arbitrate e f ps w
      else if w.u.role = 1 then Chn.serveJoins f ps w
      else if w.u.role = 2 then Chn.selfClaim e f ps (Chn.joiner f ps w)
      else w) :=
  .ite (h.arbitrate e _ _) <| .ite (h.serveJoins _ _) <| .ite ((h.joiner _ _).selfClaim e _ _) h

theorem chnOk_judge (e : ChnEnv) {u : Chn} (h : ChnEntitled u) : ChnOk (Chn.judge e u) := by
  unfold Chn.judge
  extract_lets f due ps w1 w2 w3 w4
  have h1 : ChnOk w1 := ChnOk.foldl (w := W.of { u with judged := some f }) h (fun _ _ hv => hv.judgeMember _ _) _
  have h4 : ChnOk w4 := ChnOk.judgeDispute (ChnOk.judgeArbiter (ChnOk.judgeGap (w := w2) h1 e _) _) _
  exact .ite (h4.judged e f ps).map h

theorem chnEntitled_rejoin (count : Nat) {u : Chn} (h : ChnEntitled u) : ChnEntitled (u.rejoin count) := by
  unfold Chn.rejoin
  split
  · exact h
  · exact h

/-! ## What the Chain carries (R266, R268–R273, R282) -/

theorem chnOk_sendSamples (e : ChnEnv) (n : Nat) (xs : List (Nat × Sample)) (h : ChnOk w) : ChnOk (Chn.sendSamples e n xs w) := by
  induction n generalizing xs w with
  | zero => exact h
  | succ n ih => exact .ite h (ih _ (h.send e _ _))

theorem chnOk_sampleTick (e : ChnEnv) {u : Chn} (h : ChnEntitled u) : ChnOk (Chn.sampleTick e u) :=
  chnOk_sendSamples (w := W.of _) e _ _ h

theorem ChnOk.sendPub (h : ChnOk w) (s : State) (e : ChnEnv) (n : Nat) : ChnOk (Chn.sendPub s e w n) := by
  unfold Chn.sendPub
  split
  exact ChnOk.foldl (w := W.readN _ _ _ _ w) h (fun _ _ hv => hv.send e _ _) _

theorem ChnOk.sendPubs (h : ChnOk w) (s : State) (e : ChnEnv) : ChnOk (Chn.sendPubs s e w) := .ite (h.foldl (fun _ _ hv => hv.sendPub s e _) _) h

theorem chnOk_publishMirrors (e : ChnEnv) {u : Chn} (h : ChnEntitled u) : ChnOk (Chn.publishMirrors e u).1 := by
  unfold Chn.publishMirrors
  split
  · exact ChnOk.foldl (w := W.of { u with pubParts := [], pubMiss := _ }) h (f := fun w n => w.code Pg.CHN 0x1C15 [wd n]) (fun _ _ hv => hv) _
  · exact h

theorem chnOk_mirror (e : ChnEnv) (image inputs : List Word) {u : Chn} (h : ChnEntitled u) : ChnOk (Chn.mirror e image inputs u) :=
  .ite (ChnOk.send (w := W.of u) h e _ _) (.ite (ChnOk.send (w := W.of u) h e _ _) h)

theorem chnOk_latchOutputs {u : Chn} (h : ChnEntitled u) : ChnOk (Chn.latchOutputs u) := by
  unfold Chn.latchOutputs
  split
  · exact h
  · exact ChnOk.when (w := W.of { u with held := u.held + 1, slaveOff := _ }) (f := (·.code Pg.CHN 0x2C2A [])) h

theorem ChnOk.stationRecord (h : ChnOk w) (s : State) (e : ChnEnv) (n : Nat) : ChnOk (Chn.stationRecord s e w n) := by
  unfold Chn.stationRecord
  split
  · exact h
  · exact ChnOk.when (ChnOk.map (w := W.store _ _ _ (W.readN _ _ _ _ w)) h)

theorem chnOk_stations (s : State) (e : ChnEnv) {u : Chn} (h : ChnEntitled u) : ChnOk (Chn.stations s e u) :=
  ChnOk.foldl (w := W.of u) h (fun _ _ hv => hv.stationRecord s e _) _

theorem ChnOk.sendState (h : ChnOk w) (e : ChnEnv) (target unit sync : Nat) (x : JoinState) :
    ChnOk (Chn.sendState e target unit sync x w) :=
  h.foldl (fun _ _ hv => hv.send e _ _) _

theorem chnOk_publication (e : ChnEnv) (unit : Nat) (x : JoinState) {u : Chn} (h : ChnEntitled u) : ChnOk (Chn.publication e unit x u) := by
  have hsend : ∀ b f, ChnOk (Chn.sendState e b unit f x (W.of u)) := fun b f => ChnOk.sendState (w := W.of u) h e b unit f x
  unfold Chn.publication
  refine .ite h (.ite ?_ ?_)
  · split
    · exact .ite (hsend _ _).map h
    · exact h
  · split
    · exact .ite (hsend _ _).map h
    · exact h

theorem chnOk_install (count : Nat) (need : List Nat) {u : Chn} (h : ChnEntitled u) : ChnOk (Chn.install count need u).1 := by
  unfold Chn.install
  dsimp only
  split
  · split
    · split
      · exact h
      · exact h
      · exact h
    · exact h
  · exact h

theorem chnOk_heartbeat (e : ChnEnv) (flags forceCnt : Nat) (digests : List Word) (image cfgDig : Word) {u : Chn} (h : ChnEntitled u) :
    ChnOk (Chn.heartbeat e flags forceCnt digests image cfgDig u) :=
  ChnOk.map (ChnOk.send (w := W.of u) h e _ _)

end

end Sys2Proof.Proofs
end

section
/-! How the work of a command moves the module's state, the request that waits, the safety layer and the Chain role (R260, R274, R366,
R418): a second walk over the operations of the model, beside that of `Moves`. `Moves s t` says what work of any kind may change of these
in t; SUP's own transitions and the ends of BOOT and of hold-up come on top of it. -/

namespace Sys2Proof.Proofs

open Sys2Proof Sys2Proof.Machine

-- One proof after another: many at once wait for the kernel in threads of their own, which the check's memory limit does not hold.
set_option Elab.async false

/-! ## The relation -/

/-- The changes of module state that a write or other work can make, beside SUP's own transitions: none, GO_CONFIG's, and a reset's. -/
def ModeMove (m n : Mode) : Prop := n = m ∨ (m = .ready ∧ n = .config) ∨ (m ≠ .off ∧ n = .boot)

theorem ModeMove.refl (m : Mode) : ModeMove m m := .inl rfl

theorem ModeMove.trans {k m n : Mode} (h : ModeMove k m) (g : ModeMove m n) : ModeMove k n := by
  obtain rfl | ⟨rfl, rfl⟩ | ⟨hk, rfl⟩ := h
  · exact g
  · obtain rfl | ⟨hm, _⟩ | ⟨_, rfl⟩ := g
    · exact .inr (.inl ⟨rfl, rfl⟩)
    · exact absurd hm (by decide)
    · exact .inr (.inr ⟨by decide, rfl⟩)
  · obtain rfl | ⟨hm, _⟩ | ⟨_, rfl⟩ := g
    · exact .inr (.inr ⟨hk, rfl⟩)
    · exact absurd hm (by decide)
    · exact .inr (.inr ⟨hk, rfl⟩)

/-- BOOT is left by SUP's own transitions alone. -/
theorem ModeMove.of_boot {n : Mode} (h : ModeMove .boot n) : n = .boot := by
  obtain rfl | ⟨hm, _⟩ | ⟨_, rfl⟩ := h
  · rfl
  · exact absurd hm (by decide)
  · rfl

/-- What the work of a command makes of the module state, the waiting request, a LOCKED safety layer and the Chain role. -/
structure Moves (s t : State) : Prop where
  mode : ModeMove s.mode t.mode
  fits : s.requestFits = true → t.requestFits = true
  locked : t.mode ≠ .boot → s.saf.layer = 3 → t.saf.layer = 3
  role : ChnEntitled s.chn → ChnEntitled t.chn

/-- The parts of the state that `Moves` speaks of. -/
def State.course (s : State) : Mode × Option Request × Nat × Nat × Word :=
  (s.mode, s.sup.request, s.saf.layer, s.chn.role, s.chn.stone)

theorem Moves.refl (s : State) : Moves s s := ⟨.refl _, id, fun _ => id, id⟩

/-- A request fits by the module state and the request alone. -/
theorem requestFits_congr {s t : State} (hm : t.mode = s.mode) (hr : t.sup.request = s.sup.request) : t.requestFits = s.requestFits := by
  unfold State.requestFits
  rw [hm, hr]

theorem course_of_shell {s t : State} (h : t.shell = s.shell) : State.course t = State.course s := by
  unfold State.course
  rw [mode_of_shell h, sup_of_shell h, saf_of_shell h, chn_of_shell h]

/-- Entering a module state drops the request (R418). -/
theorem requestFits_none {s : State} (h : s.sup.request = none) : s.requestFits = true := by
  unfold State.requestFits
  rw [h]
  exact Bool.or_true _

theorem requestFits_enter (m : Mode) (s : State) : (s.enter m).requestFits = true := requestFits_none (by rw [enter_sup])

theorem chnEntitled_of_shell {s t : State} (h : t.shell = s.shell) (hs : ChnEntitled s.chn) : ChnEntitled t.chn := by
  rw [chn_of_shell h]
  exact hs

theorem chnEntitled_enter {s : State} (h : ChnEntitled s.chn) (m : Mode) : ChnEntitled (s.enter m).chn :=
  chnEntitled_of_shell (s := { s with mode := m, sup := { s.sup with request := none } }) (shell_commit _ _ _) h

/-! ## A locked safety layer (R366) -/

theorem layer_of_settings {u v : Saf} (h : safSettings v = safSettings u) : v.layer = u.layer := congrArg (·.1) h

theorem layer_stop_locked {u : Saf} (now : Nat) (h : u.layer = 3) : (u.stop now).layer = 3 := by
  unfold Saf.stop
  dsimp only
  rw [layer_of_settings (safSettings_settle _ _)]
  exact if_pos h

theorem layer_check_locked {u : Saf} (h : u.layer = 3) : u.check.layer = 3 := (layer_of_settings (safSettings_check u)).trans h

theorem layer_confirm_locked (f : Bool) (m : Mode) (v : Word) (u : Saf) (h : u.layer = 3) : (Saf.confirm f m v u).u.layer = 3 := by
  unfold Saf.confirm
  split
  · exact h
  · exact h

theorem layer_stage_locked (m : Mode) (v : Word) (u : Saf) (h : u.layer = 3) : (Saf.stage m v u).u.layer = 3 := by
  unfold Saf.stage
  split
  · exact h
  · exact h

theorem layer_lock (page code now : Nat) (u : Saf) : (u.lock page code now).u.layer = 3 :=
  layer_of_settings (safSettings_settle { u with layer := 3 } now)

/-- The confirmed set is not loaded into a locked layer (R366). -/
theorem layer_enterReady_locked (m : Mem) (f : Bool) (now : Nat) (u : Saf) (h : u.layer = 3) : (u.enterReady m f now).u.layer = 3 := by
  unfold Saf.enterReady
  rw [if_pos (by rw [h]; exact Bool.or_true _)]
  exact (layer_of_settings (safSettings_settle u now)).trans h

theorem chnEntitled_refresh (count : Nat) {u : Chn} (h : ChnEntitled u) : ChnEntitled (Chn.refresh count u) := h.of_same rfl rfl

theorem chnEntitled_clear {u : Chn} (h : ChnEntitled u) : ChnEntitled u.clear := h.of_same rfl rfl

section
variable {s t u : State}

theorem Moves.trans (h : Moves s t) (k : Moves t u) : Moves s u where
  mode := h.mode.trans k.mode
  fits := fun f => k.fits (h.fits f)
  locked := fun m l => k.locked m (h.locked (fun b => m (ModeMove.of_boot (b ▸ k.mode))) l)
  role := fun r => k.role (h.role r)

/-- Work that touches none of the parts. -/
theorem Moves.rest (h : Moves s t) (e : State.course u = State.course t := by dsimp only [State.course]) : Moves s u := by
  simp only [State.course, Prod.mk.injEq] at e
  obtain ⟨hmode, hrequest, hlayer, hrole, hstone⟩ := e
  exact h.trans ⟨.inl hmode, fun f => (requestFits_congr hmode hrequest).trans f, fun _ l => hlayer.trans l, fun r => r.of_same hrole hstone⟩

/-- Work that leaves the shell. -/
theorem Moves.of_shell (h : Moves s t) (e : u.shell = t.shell) : Moves s u := h.rest (course_of_shell e)

/-- Work of CHN that keeps its role. -/
theorem Moves.withChn (h : Moves s t) {c : Chn} (hc : ChnEntitled t.chn → ChnEntitled c) : Moves s { t with chn := c } :=
  h.trans ⟨.refl _, id, fun _ => id, hc⟩

/-- Work of the safety layer that keeps a locked layer. -/
theorem Moves.withSaf (h : Moves s t) {v : Saf} (hv : t.saf.layer = 3 → v.layer = 3) : Moves s { t with saf := v } :=
  h.trans ⟨.refl _, id, fun _ => hv, id⟩

theorem Moves.ite {a b : State} {c : Prop} [Decidable c] (ha : Moves s a) (hb : Moves s b) : Moves s (if c then a else b) := by
  split
  · exact ha
  · exact hb

/-- A fold of work. -/
theorem Moves.foldl {B : Type} {f : State → B → State} (hf : ∀ t b, Moves s t → Moves s (f t b)) (l : List B) (h : Moves s t) :
    Moves s (l.foldl f t) :=
  foldl_keeps (Moves s) f hf l t h

/-- A free value drawn. -/
theorem Moves.fresh (h : Moves s t) : Moves s t.fresh.2 := h.rest rfl

theorem Moves.withSeq (h : Moves s t) (q : Seq) : Moves s { t with seq := q } := h.rest
theorem Moves.withHdr (h : Moves s t) (m : RMap) : Moves s { t with hdr := m } := h.rest

theorem Moves.withMem (h : Moves s t) (m : Mem) : Moves s { t with mem := m } := h.rest

/-! ## Units at work -/

theorem Moves.commit (h : Moves s t) (fx : Fx) (st : List Store) : Moves s (t.commit fx st) :=
  h.of_shell (shell_commit fx st t)

theorem Moves.code (h : Moves s t) (p c : Nat) (l : List Word) : Moves s (t.code p c l) := h.commit _ _
theorem Moves.codeRec (h : Moves s t) (p c : Nat) (l : List Word) : Moves s (t.codeRec p c l) := h.commit _ _
theorem Moves.event (h : Moves s t) (p f : Nat) : Moves s (t.event p f) := h.rest rfl

theorem Moves.onSeq (h : Moves s t) (f : Seq → W Seq) : Moves s (t.onSeq f) := Moves.commit h.rest _ _
theorem Moves.onFq (h : Moves s t) (f : Fq → W Fq) : Moves s (t.onFq f) := Moves.commit h.rest _ _
theorem Moves.onFlt (h : Moves s t) (f : Flt → W Flt) : Moves s (t.onFlt f) := Moves.commit h.rest _ _
theorem Moves.onPrg (h : Moves s t) (f : Prg → W Prg) : Moves s (t.onPrg f) := Moves.commit h.rest _ _
theorem Moves.onEst (h : Moves s t) (f : Est → W Est) : Moves s (t.onEst f) := Moves.commit h.rest _ _
theorem Moves.onFus (h : Moves s t) (f : Fus → W Fus) : Moves s (t.onFus f) := Moves.commit h.rest _ _
theorem Moves.onGns (h : Moves s t) (f : Gns → W Gns) : Moves s (t.onGns f) := Moves.commit h.rest _ _
theorem Moves.onCtl (h : Moves s t) (f : Ctl → W Ctl) : Moves s (t.onCtl f) := Moves.commit h.rest _ _
theorem Moves.onAlc (h : Moves s t) (f : Alc → W Alc) : Moves s (t.onAlc f) := Moves.commit h.rest _ _
theorem Moves.onSol (h : Moves s t) (f : Sol → W Sol) : Moves s (t.onSol f) := Moves.commit h.rest _ _
theorem Moves.onChn (h : Moves s t) {f : Chn → W Chn} (hf : ∀ u, ChnEntitled u → ChnOk (f u)) : Moves s (t.onChn f) :=
  Moves.commit (h.withChn (hf _)) _ _
theorem Moves.onTim (h : Moves s t) (f : Tim → W Tim) : Moves s (t.onTim f) := Moves.commit h.rest _ _
theorem Moves.onPtp (h : Moves s t) (f : Ptp → W Ptp) : Moves s (t.onPtp f) := Moves.commit h.rest _ _
theorem Moves.onNet (h : Moves s t) (f : Net → W Net) : Moves s (t.onNet f) := Moves.commit h.rest _ _
theorem Moves.onCan (h : Moves s t) (f : Can → W Can) : Moves s (t.onCan f) := Moves.commit h.rest _ _
theorem Moves.onFio (h : Moves s t) (f : Fio → W Fio) : Moves s (t.onFio f) := Moves.commit h.rest _ _
theorem Moves.onSer (h : Moves s t) (f : Ser → W Ser) : Moves s (t.onSer f) := Moves.commit h.rest _ _
theorem Moves.onPos (h : Moves s t) (f : Pos → W Pos) : Moves s (t.onPos f) := Moves.commit h.rest _ _
theorem Moves.onSaf (h : Moves s t) {f : Saf → W Saf} (hf : ∀ u, u.layer = 3 → (f u).u.layer = 3) : Moves s (t.onSaf f) :=
  Moves.commit (h.withSaf (hf _)) _ _
theorem Moves.onNvs (h : Moves s t) (f : Nvs → W Nvs) : Moves s (t.onNvs f) := Moves.commit h.rest _ _

theorem Moves.onLog (h : Moves s t) (f : Rec → W Rec) : Moves s (t.onLog f) :=
  Moves.commit (h.of_shell (shell_setLog _ t)) _ _

theorem Moves.rates (h : Moves s t) : Moves s t.rates := Moves.foldl (fun _ _ k => k.onPrg _) _ h

theorem Moves.onPwr (h : Moves s t) (f : Pwr → W Pwr) : Moves s (t.onPwr f) := (Moves.commit h.rest _ _).rates

theorem Moves.onPower (h : Moves s t) (f : Pwr → W Pwr) : Moves s (t.onPower f) :=
  .ite (((h.onPwr f).onFus _).rest) (h.onPwr f)

theorem Moves.releaseIdle (h : Moves s t) : Moves s t.releaseIdle := h.onPower _

/-! ## A happening of a unit -/

theorem Moves.upOn {f : State → State} (hf : ∀ {t}, Moves s t → Moves s (f t)) (h : Moves s t) (page : Nat) : Moves s (t.upOn page f) :=
  .ite (hf h) h

theorem Moves.workOn {f : State → State} (hf : ∀ {t}, Moves s t → Moves s (f t)) (h : Moves s t) (page : Nat) :
    Moves s (t.workOn page f) :=
  .ite (hf h) h

theorem Moves.withFeature {f : State → State} (hf : ∀ {t}, Moves s t → Moves s (f t)) (h : Moves s t) (k : Nat) :
    Moves s (t.withFeature k f) :=
  .ite (hf h) h

/-! ## Spans and fathoms (R39, R46, R49, R53–R58) -/

theorem Moves.swapPair (h : Moves s t) (b l : Nat) : Moves s (t.swapPair b l) := .ite h h.rest
theorem Moves.swapPairs (h : Moves s t) (l : List (Nat × Nat)) : Moves s (t.swapPairs l) := h.foldl (fun _ _ k => k.swapPair _ _) l

theorem Moves.matchSnaps (h : Moves s t) (l : List Nat) : Moves s (t.matchSnaps l) := h.commit _ _

theorem Moves.matchActions (h : Moves s t) (lines : BitVec 24) (l : List (Nat × Nat)) : Moves s (t.matchActions lines l) :=
  h.foldl (fun _ _ k => .ite (.ite k k.rest) <| .ite (.ite (k.onGns _) k) <| .ite (.ite (k.onPos _) k) <|
    .ite (.ite k.rest k) k) l

theorem Moves.matchFire (h : Moves s t) (lines : BitVec 24) : Moves s (t.matchFire lines) :=
  (Moves.matchActions h.rest lines _).matchSnaps _

theorem Moves.makeStep (h : Moves s t) (lines : BitVec 24) : Moves s (t.makeStep lines) := by
  unfold State.makeStep
  split
  · exact h
  · exact Moves.matchFire ((h.onTim _).rest) lines

theorem Moves.steer (h : Moves s t) (f : Tim → W Tim) : Moves s (t.steer f) :=
  .ite (h.onTim f) ((h.onTim f).fresh.makeStep _)

theorem Moves.installPart (h : Moves s t) (p : Nat × JoinState) : Moves s (t.installPart p) :=
  Moves.commit (.ite h.rest <| .ite h.rest <| .ite h.rest <| .ite h.rest <| .ite h.rest <|
    .ite h.rest h) _ _

theorem Moves.unitPublish (h : Moves s t) (x : Span) : Moves s (t.unitPublish x) := by
  refine Moves.onChn (.ite h.rest <| .ite (.ite h.rest h) <| .ite (h.onCtl _) <| .ite h.rest <|
    .ite h.rest <| .ite ?pvt <| .ite h.rest <| .ite (h.swapPairs _) h) (fun _ hu => chnOk_publication _ _ _ hu)
  case pvt =>
    dsimp only
    split
    · exact (h.onGns _).steer _
    · exact .ite ((h.onGns _).onTim _) (h.onGns _)

theorem Moves.unitMiss (h : Moves s t) (x : Span) : Moves s (t.unitMiss x) :=
  .ite (h.onSol _) <| .ite (.ite (h.onEst _) (h.onSol _)) <| .ite (h.onCtl _) <| .ite (h.event _ _) <| .ite (h.onFus _) <|
    .ite (h.onGns _) <| .ite (h.onAlc _) h

theorem Moves.seqMiss (h : Moves s t) (unit idx cause code : Nat) : Moves s (t.seqMiss unit idx cause code) := h.onSeq _

theorem Moves.noteAbort (h : Moves s t) (unit : Nat) : Moves s (t.noteAbort unit) := h.withSeq _

theorem Moves.endRun (h : Moves s t) (r : Run) : Moves s (t.endRun r) := by
  unfold State.endRun
  have hdrop : Moves s { t with seq := t.seq.drop r } := h.rest
  split
  · exact .ite (Moves.unitPublish ((hdrop.swapPair _ _).rest) _) (hdrop.seqMiss _ _ _ _)
  · have habort : Moves s (if r.span.long (t.seq.drop r).lenUs then ({ t with seq := t.seq.drop r } : State)
        else ({ t with seq := t.seq.drop r } : State).noteAbort r.span.unit) := .ite hdrop (hdrop.noteAbort _)
    exact Moves.seqMiss (.ite (habort.unitMiss _) habort) _ _ _ _

theorem Moves.deadlines (h : Moves s t) : Moves s t.deadlines := h.foldl (fun _ _ k => k.endRun _) _

theorem Moves.deadline (h : Moves s t) (idx : Nat) : Moves s (t.deadline idx) := by
  unfold State.deadline
  split
  · exact h.endRun _
  · exact h

theorem Moves.ran {U : Type} {put : U → State → State} (hput : ∀ {t} u, Moves s t → Moves s (put u t)) (h : Moves s t) (r : R U) :
    Moves s (t.ran put r).1 :=
  (hput _ h).commit _ _

theorem Moves.startSpan {work : Span → SpanIn → State → State × Bool} (hw : ∀ {t} x i, Moves s t → Moves s (work x i t).1)
    (h : Moves s t) (idx : Nat) (ok : Span → Bool) (now : Bool) : Moves s (t.startSpan idx ok now work) := by
  have hd := h.deadlines
  have hmark : Moves s (({ t.deadlines with seq := { t.deadlines.seq with issued := t.deadlines.seq.issued ++ [idx] } } : State).commit
      { Fx.none with reads := [(Pg.SEQ, spanAddr t.deadlines.seq.bank idx)] } []) := Moves.commit hd.rest _ _
  exact .ite (.ite (hmark.seqMiss _ _ _ _) <| .ite (.ite (Moves.seqMiss (.ite (hmark.unitMiss _) hmark) _ _ _ _)
    (Moves.withSeq (hw _ _ hmark.fresh) _)) hd) hd

theorem Moves.spanDone (h : Moves s t) (idx : Nat) (result : Bool) : Moves s (t.spanDone idx result) := by
  unfold State.spanDone
  split
  · exact h
  · exact .ite h.rest h

theorem Moves.swapStep (h : Moves s t) : Moves s t.swapStep := .ite h (.ite ((h.onSeq _).rest) (h.onSeq _))

theorem Moves.outputWords (h : Moves s t) : Moves s t.outputWords := .ite (h.onFio _) h

theorem Moves.installJoins (h : Moves s t) : Moves s t.installJoins := (h.onChn (fun _ hu => chnOk_install _ _ hu)).foldl (fun _ _ k => k.installPart _) _

theorem Moves.releases (h : Moves s t) : Moves s t.releases :=
  .ite (.ite h (Moves.onPrg (t := { t with prg := t.prg.passOver t.seq.count }) h.rest _)) h

theorem Moves.sendPubs (h : Moves s t) : Moves s (t.onChn (fun u => Chn.sendPubs t t.chnEnv (W.of u))) :=
  h.onChn (fun u hu => ChnOk.sendPubs (w := W.of u) hu _ _)

theorem Moves.refreshStone (h : Moves s t) : Moves s { t with chn := t.chn.refresh t.seq.count } := h.withChn (chnEntitled_refresh _)

theorem Moves.startWork (h : Moves s t) : Moves s (if t.mode = .run then
    (t.onChn (fun u => Chn.sendPubs t t.chnEnv (W.of u))).installJoins else t) := .ite h.sendPubs.installJoins h

theorem Moves.withPrg (h : Moves s t) (p : Prg) : Moves s { t with prg := p } := h.rest

theorem Moves.beginFathom (h : Moves s t) : Moves s t.beginFathom :=
  Moves.releases (Moves.outputWords (Moves.startWork (Moves.refreshStone (Moves.withPrg ((h.onSeq _).swapPairs _) _))))

theorem Moves.fathomStart (h : Moves s t) : Moves s t.fathomStart := .ite h.deadlines.swapStep.beginFathom h
theorem Moves.furlongSwap (h : Moves s t) : Moves s t.furlongSwap := .ite h.deadlines.swapStep h

end


section
variable {s t u : State}

/-! ## Module states and requests (R417–R420) -/

/-- A reset, which ends in BOOT. -/
theorem Moves.reset (h : Moves s t) (hm : t.mode ≠ .off) (cause : Nat) {base : Nat} (hb : base < 256) :
    Moves s ((t.resetTo cause base).enter .boot) :=
  h.trans
    { mode := .inr (.inr ⟨hm, enter_mode _ _⟩)
      fits := fun _ => requestFits_enter _ _
      locked := fun m => absurd (enter_mode _ _) m
      role := fun _ => chnEntitled_enter (chnEntitled_fresh _ hb) _ }

theorem Moves.commandedReset (h : Moves s t) {base : Nat} (hb : base < 256) : Moves s (t.commandedReset base) := by
  unfold State.commandedReset
  split
  · exact h
  next hm => exact (h.codeRec _ _ _).reset (by rw [codeRec_mode]; exact hm) _ hb

theorem Moves.resetWrite (h : Moves s t) {base : Nat} (hb : base < 256) (v : Word) : Moves s (t.resetWrite base v) :=
  .ite (h.commandedReset hb) h

theorem Moves.negotiate (h : Moves s t) : Moves s t.negotiate := h.rest rfl

theorem Moves.showChecks (h : Moves s t) (leaving : Bool) (upTo : Nat) : Moves s (t.showChecks leaving upTo) := by
  have hseq : Moves s (if Pg.SEQ ≤ upTo ∧ t.seq.gridOk = true then
      { t with seq := t.seq.showVerdict (t.seq.exitVerdict t.mem t.feature leaving) } else t) := .ite h.rest h
  exact .ite (hseq.rest rfl) hseq

theorem Moves.refuseWith (h : Moves s t) (page : Nat) (c : Code) : Moves s (t.refuseWith page c) := Moves.commit h.rest _ _

theorem Moves.checkList (h : Moves s t) (leaving : Bool) : Moves s (t.checkList leaving).1 := by
  unfold State.checkList
  dsimp only
  split
  · exact h.negotiate.refuseWith _ _
  · split
    · exact (h.negotiate.showChecks _ _).refuseWith _ _
    · refine Moves.rest (h.negotiate.showChecks leaving pageCount) ?_
      simp only [State.course, sup_showChecks]

theorem mode_showChecks (s : State) (leaving : Bool) (upTo : Nat) : (s.showChecks leaving upTo).mode = s.mode := by
  unfold State.showChecks
  simp only [apply_ite State.mode, ite_self]

theorem mode_refuseWith (s : State) (page : Nat) (c : Code) : (s.refuseWith page c).mode = s.mode := commit_mode _ _ _

theorem mode_checkList (s : State) (leaving : Bool) : (s.checkList leaving).1.mode = s.mode := by
  unfold State.checkList
  dsimp only
  split
  · exact mode_refuseWith _ _ _
  · split
    · exact (mode_refuseWith _ _ _).trans (mode_showChecks _ _ _)
    · exact mode_showChecks _ _ _

theorem Moves.discardRequest (h : Moves s t) : Moves s t.discardRequest := h.commit _ _

/-- A request that the module state admits waits. -/
theorem Moves.wait (h : Moves s t) {r : Request} (hf : (t.wait r).requestFits = true) : Moves s (t.wait r) :=
  h.trans ⟨.refl _, fun _ => hf, fun _ => id, id⟩

theorem Moves.iteOf {a b : State} {c : Prop} [Decidable c] (ha : c → Moves s a) (hb : ¬ c → Moves s b) : Moves s (if c then a else b) := by
  split
  next hc => exact ha hc
  next hc => exact hb hc

/-- The requests fit the states that admit them (R418). -/
theorem requestFits_wait_goReady (h : t.mode = .config ∨ t.mode = .service) : (t.wait .goReady).requestFits = true := by
  show (t.mode == .off || (t.mode == .config || t.mode == .service)) = true
  obtain hm | hm := h <;> rw [hm] <;> rfl

theorem requestFits_wait_goRun (h : t.mode = .ready) : (t.wait .goRun).requestFits = true := by
  show (t.mode == .off || t.mode == .ready) = true
  rw [h]; rfl

theorem requestFits_wait_goService (h : t.mode = .ready) : (t.wait .goService).requestFits = true := by
  show (t.mode == .off || t.mode == .ready) = true
  rw [h]; rfl

theorem requestFits_wait_stop (h : t.mode = .run) : (t.wait .stop).requestFits = true := by
  show (t.mode == .off || t.mode == .run) = true
  rw [h]; rfl

theorem Moves.goReady (h : Moves s t) : Moves s t.goReady := by
  refine .ite h <| .ite h.discardRequest <| .iteOf (fun hm => ?_) (fun _ => .iteOf (fun hm => ?_) (fun _ => h.discardRequest))
  · exact .ite (Moves.wait (Moves.withSeq (h.checkList _) _) (requestFits_wait_goReady (.inl ((mode_checkList t _).trans hm)))) (h.checkList _)
  · exact .ite ((h.checkList _).wait (requestFits_wait_goReady (.inr ((mode_checkList t _).trans hm)))) (h.checkList _)

theorem Moves.goRun (h : Moves s t) : Moves s t.goRun := by
  refine .ite h <| .iteOf (fun _ => h.discardRequest) (fun hc => ?_)
  have hm : t.mode = .ready := Decidable.byContradiction fun hn => hc (.inr hn)
  exact .ite (h.wait (requestFits_wait_goRun hm)) <|
    .ite ((h.checkList _).wait (requestFits_wait_goRun ((mode_checkList t _).trans hm))) (h.checkList _)

theorem Moves.stopRequest (h : Moves s t) : Moves s t.stopRequest :=
  .ite h <| .iteOf (fun _ => h.discardRequest) (fun hc =>
    h.wait (requestFits_wait_stop (Decidable.byContradiction fun hn => hc (.inr hn))))

theorem Moves.goService (h : Moves s t) : Moves s t.goService :=
  .ite h <| .iteOf (fun _ => h.discardRequest) (fun hc =>
    h.wait (requestFits_wait_goService (Decidable.byContradiction fun hn => hc (.inr hn))))

/-- CONFIG entered from READY. -/
theorem Moves.enterConfig (h : Moves s t) (hm : t.mode = .ready) : Moves s (t.enter .config) :=
  h.trans
    { mode := .inr (.inl ⟨hm, enter_mode _ _⟩)
      fits := fun _ => requestFits_enter _ _
      locked := fun _ l => (congrArg Saf.layer (saf_of_shell (shell_enter _ t))).trans l
      role := fun r => chnEntitled_enter r _ }

theorem Moves.goConfig (h : Moves s t) : Moves s t.goConfig := by
  refine .ite h <| .iteOf (fun _ => h.discardRequest) (fun hc => ?_)
  have hm : t.mode = .ready := Decidable.byContradiction fun hn => hc (.inr hn)
  exact Moves.onGns (((h.enterConfig hm).withSaf (fun l => layer_stop_locked _ l)).rest) _

/-- What a write does to a check list that was passed. -/
theorem Moves.unpassed (h : Moves s t) (m : RMap) : Moves s { t with hdr := m, sup := { t.sup with passed := false } } := h.rest

/-! ## Register writes (R6–R9, R433–R435, R441) -/

theorem Moves.setCells (h : Moves s t) (page : Nat) (m : RMap) : Moves s (t.setCells page m) := by
  refine h.rest ?_
  unfold State.setCells
  simp only [apply_ite State.course]
  simp only [State.course, ite_self]

theorem Moves.enableUnit (h : Moves s t) (page : Nat) (on : Bool) : Moves s (t.enableUnit page on) :=
  .ite h.rest <| .ite h.rest <| .ite (.ite h h.rest) <| .ite (.ite h h.rest) <| .ite (h.onGns _) h

theorem Moves.softUnit (h : Moves s t) (page : Nat) : Moves s (t.softUnit page) := by
  have hbase : ∀ m : RMap, ChnEntitled (Chn.fresh m (wd (rfld t.chn.regs Reg.CHN_BASE 7 0))) := fun m => chnEntitled_fresh m (chn_base_lt t.chn)
  unfold State.softUnit
  exact .ite h.rest <| .ite h.rest <| .ite h.rest <| .ite h.rest <| .ite h.rest <| .ite (h.withChn (fun _ => hbase _)) <|
    .ite h.rest <| .ite h.rest <| .ite h.rest <| .ite h.rest <| .ite h.rest <| .ite h.rest <| .ite h.rest <| .ite h.rest <|
    .ite h.rest <| .ite h.rest <| .ite h.rest <| .ite h.rest <| .ite h.rest <| .ite h.rest <| .ite h.rest h

theorem Moves.softReset (h : Moves s t) (page : Nat) : Moves s (t.softReset page) := by
  have hcells : Moves s (t.setCells page (clearPage (t.cells page) page)) := h.setCells _ _
  exact Moves.enableUnit (Moves.softUnit (Moves.withHdr (.ite hcells.rest hcells) _) _) _ _

theorem Moves.takeCopy (h : Moves s t) (page : Nat) : Moves s (t.takeCopy page) := h.rest rfl

theorem Moves.ctrlWrite (h : Moves s t) (acc : Accessor) (page : Nat) (v : Word) : Moves s (t.ctrlWrite acc page v) := by
  have hcopy : ∀ (x : State) (m : RMap), Moves s x →
      Moves s (if bit v 2 then ({ x with hdr := m } : State).takeCopy page else { x with hdr := m }) :=
    fun _ _ hx => .ite ((hx.withHdr _).takeCopy _) (hx.withHdr _)
  exact .ite (hcopy _ _ (.ite (h.code _ _ _) h)) <| .ite (h.softReset _) <|
    .ite (Moves.enableUnit (Moves.unpassed (hcopy _ _ (.ite (h.code _ _ _) h)) _) _ _) (hcopy _ _ (.ite (h.code _ _ _) h))

theorem Moves.iteFst {A : Type} {a b : State × A} {c : Prop} [Decidable c] (ha : Moves s a.1) (hb : Moves s b.1) :
    Moves s (if c then a else b).1 := by
  split
  · exact ha
  · exact hb

theorem Moves.headerWrite (h : Moves s t) (acc : Accessor) (page off : Nat) (v : Word) : Moves s (t.headerWrite acc page off v).1 :=
  .iteFst (h.ctrlWrite _ _ _) <| .iteFst h.rest <| .iteFst h.rest <| .iteFst (.iteFst h.rest h) h

theorem Moves.swapRequest (h : Moves s t) : Moves s t.swapRequest := h.onSeq _

theorem Moves.armed (h : Moves s t) (n : Nat) (x : W Tim × List (Nat × Nat)) (lines : BitVec 24) : Moves s (t.armed n x lines) := by
  have hacts := Moves.matchActions (Moves.commit (t := { t with tim := x.1.u }) h.rest x.1.fx x.1.st) lines x.2
  exact .ite hacts (hacts.matchSnaps _)

theorem Moves.actOp (h : Moves s t) (op arg : Nat) : Moves s (t.actOp op arg).1 := by
  have hswap : Moves s { t with
      seq := { t.seq with regs := rset t.seq.regs Reg.SEQ_SWAP_AT (wd arg) }
      hdr := hdrSeq t.hdr Pg.SEQ } := h.rest
  have hchange : Moves s { t with
      prg := { t.prg with regs := rset t.prg.regs Reg.PRG_CHG_AT (wd arg) }
      hdr := hdrSeq t.hdr Pg.PRG } := h.rest
  exact .iteFst (.iteFst hswap <| .iteFst hswap.swapRequest hswap.swapRequest) <|
    .iteFst (.iteFst (hchange.onPrg _) (hchange.onPrg _)) <| .iteFst (.iteFst h (h.armed _ _ _)) h

theorem Moves.opGo (h : Moves s t) : Moves s t.opGo := 
  .ite (h.code _ _ _) (Moves.onChn ((h.onChn (fun _ hu => chnOk_opStart _ hu)).actOp _ _) (fun u hu => ChnOk.opAnswer (w := W.of u) hu _ _))

theorem Moves.sc {f : State → State} (hf : ∀ {t}, Moves s t → Moves s (f t)) (h : Moves s t) {v : Word} {i : Nat} : Moves s (sc v i f t) :=
  .ite (hf h) h

theorem Moves.discarded (h : Moves s t) (reg page : Nat) : Moves s (t.discarded reg page) :=
  .ite (h.code _ _ _) <| .ite (h.code _ _ _) h

theorem Moves.bootWrite (h : Moves s t) (v : Word) : Moves s (t.bootWrite v) := h.rest rfl

theorem Moves.supCtrl {save : State → State} (hs : ∀ {t}, Moves s t → Moves s (save t)) (h : Moves s t) (v : Word) :
    Moves s (t.supCtrl save v) :=
  .sc hs <| .sc .goService <| .sc .goConfig <| .sc .stopRequest <| .sc .goRun <| .sc .goReady h

theorem Moves.canCtrl (h : Moves s t) (n : Nat) (old v : Word) : Moves s (t.canCtrl n old v) := by
  have hrecover : Moves s (if bit v 2 || rbit t.can.regs (rk Reg.CAN_CTRL n 0) 1 then
      t.onCan (fun u => W.of (u.recoverStart n)) else t) := .ite (h.onCan _) h
  exact .ite (hrecover.onCan _) <| .ite (hrecover.onCan _) hrecover

theorem Moves.gnsChanWrite (h : Moves s t) (b c : Nat) : Moves s (t.gnsChanWrite b c) := .ite h h.rest

theorem Moves.scanWrite (h : Moves s t) (k : Nat) (old v : Word) : Moves s (t.scanWrite k old v) := .ite h.rest h

theorem Moves.requestSave (h : Moves s t) : Moves s t.requestSave := .ite h.rest h

/-- The effect of a write beside its cell: one case per register that has one. -/
theorem Moves.act {save : State → State} (hs : ∀ {t}, Moves s t → Moves s (save t)) (h : Moves s t) (reg n w : Nat) (v old : Word) :
    Moves s (t.act save reg n w v old) :=
  .ite (h.supCtrl hs v) <| .ite (h.resetWrite (chn_base_lt t.chn) v) <| .ite (h.bootWrite v) <| .ite (h.onPower _) <|
  .ite (.sc (fun k => k.commit _ _) h) <| .ite (h.onSeq _) <| .ite (h.onSeq _) <| .ite (.sc .swapRequest h) <| .ite h.rest <|
  .ite (h.onTim _) <| .ite (h.fresh.armed _ _ _) <| .ite (.sc (fun k => k.onLog _) h) <|
  .ite (.sc (fun k => k.onPrg _) <| .sc (fun k => k.onPrg _) <| .sc (fun k => k.onPrg _) h) <| .ite h.rest <|
  .ite (.sc .requestSave h) <| .ite (h.onPrg _) <| .ite (h.onSaf (layer_confirm_locked _ _ v)) <|
  .ite (h.onSaf (layer_stage_locked _ v)) <| .ite (.sc (fun k => k.withSaf (fun l => layer_check_locked l)) h) <|
  .ite h.rest <| .ite (.ite h.rest h) <| .ite (.sc (fun {x} k => k.withChn (chnEntitled_rejoin x.seq.count)) <| .sc (fun k => k.withChn chnEntitled_clear) h) <| .ite (.sc .opGo h) <|
  .ite (.sc (fun k => k.rest) h) <| .ite (.sc (fun k => k.rest) <| .sc (fun k => k.rest) h) <| .ite (h.scanWrite _ _ _) <|
  .ite (.sc (fun k => k.rest) h) <| .ite (h.gnsChanWrite _ _) <| .ite h.rest <|
  .ite (.sc (fun k => k.onGns _) <| .sc (fun k => k.rest) <| .sc (fun k => k.onGns _) h) <| .ite (h.onCtl _) <|
  .ite (.sc (fun k => k.onCtl _) <| .sc (fun k => k.onCtl _) h) <| .ite (h.onSol _) <| .ite (.sc (fun k => k.onSol _) h) <|
  .ite (.sc (fun k => k.onSol _) h) <| .ite (h.onSol _) <| .ite (h.onAlc _) <| .ite (.sc (fun k => k.onAlc _) h) <|
  .ite (h.onFlt _) <| .ite (h.canCtrl _ _ _) <| .ite h.rest <| .ite h.rest <| .ite (.ite h.rest h) <| .ite h.rest <|
  .ite (.sc (fun k => k.fresh.onPos _) h) <| .ite (h.onPos _) <| .ite (h.onPos _) h

/-- A write of a listed register: its cell, and what the write does beside it. -/
theorem Moves.rowWrite {act : Nat → Nat → Word → State → State} (ha : ∀ {t} n w old, Moves s t → Moves s (act n w old t)) (h : Moves s t)
    (page off : Nat) (v : Word) : Moves s (t.rowWrite page off v act).1 := by
  have hlost : ∀ c : Bool, Moves s (if c then t.code page 0x1001 [] else t) := fun c => .ite (h.code _ _ _) h
  unfold State.rowWrite
  dsimp only
  split
  · exact h
  split
  · exact h
  have hmark : ∀ (c d : Bool) (m : RMap), Moves s
      (if d then { (if c then t.code page 0x1001 [] else t) with
          hdr := m, sup := { (if c then t.code page 0x1001 [] else t).sup with passed := false } }
        else { (if c then t.code page 0x1001 [] else t) with hdr := m }) :=
    fun c _ _ => .ite (Moves.unpassed (hlost c) _) (Moves.withHdr (hlost c) _)
  exact .iteFst (.iteFst (Moves.discarded (.ite (ha _ _ _ (hlost _)) (hlost _)) _ _) (hlost _)) <|
    .iteFst (ha _ _ _ (.ite (hmark _ _ _) (Moves.setCells (hmark _ _ _) _ _))) (hlost _)

theorem Moves.regWriteWith {act : Nat → Nat → Word → State → State} (ha : ∀ {t} n w old, Moves s t → Moves s (act n w old t))
    (h : Moves s t) (acc : Accessor) (page off width : Nat) (v : Word) : Moves s (t.regWriteWith act acc page off width v).1 :=
  .iteFst h <| .iteFst (h.code _ _ _) <| .iteFst (h.code _ _ _) <| .iteFst (h.code _ _ _) <|
    Moves.releaseIdle (.iteFst (h.headerWrite _ _ _ _) (h.rowWrite ha _ _ _))

end


section
variable {s t u : State}

/-! ## Accesses (R6, R15–R17, R29, R425) -/

theorem Moves.fetchBlock (h : Moves s t) (page a : Nat) : Moves s (t.fetchBlock page a) := h.commit _ _

theorem Moves.readEffect (h : Moves s t) (page off : Nat) : Moves s (t.readEffect page off) :=
  .ite h.rest <| .ite h.rest <| .ite h.rest <| .ite h.rest h

theorem Moves.afterRead (h : Moves s t) (page off : Nat) : Moves s (t.afterRead page off) := by
  unfold State.afterRead
  dsimp only
  split
  · exact (h.fetchBlock _ _).readEffect _ _
  · exact Moves.readEffect (.ite (h.code _ _ _) h) _ _

theorem Moves.readReg (h : Moves s t) (acc : Accessor) (page off width : Nat) : Moves s (t.readReg acc page off width).1 :=
  .iteFst h <| .iteFst (h.code _ _ _) <| .iteFst (h.code _ _ _) <| .iteFst (h.code _ _ _) (h.afterRead _ _)

theorem Moves.refuseAccess (h : Moves s t) (acc : Accessor) : Moves s (t.refuseAccess acc) := h.code _ _ _

theorem Moves.readMem (h : Moves s t) (acc : Accessor) (a n : Nat) : Moves s (t.readMem acc a n).1 := by
  unfold State.readMem
  refine .iteFst h ?_
  split
  · exact h.refuseAccess _
  · exact h.readReg _ _ _ _
  · exact .iteFst (h.code _ _ _) <| .iteFst (Moves.commit h.rest _ _) (h.refuseAccess _)
  · exact .iteFst (h.refuseAccess _) <| .iteFst (h.code _ _ _) (h.commit _ _)

theorem Moves.writeMemWith {act : Nat → Nat → Nat → Word → Word → State → State}
    (ha : ∀ {t} reg n w v old, Moves s t → Moves s (act reg n w v old t)) (h : Moves s t) (acc : Accessor) (a : Nat) (data : List Byte) :
    Moves s (t.writeMemWith act acc a data).1 := by
  unfold State.writeMemWith
  refine .iteFst h ?_
  split
  · exact h.refuseAccess _
  · exact h.regWriteWith (fun n w old k => ha _ n w _ old k) _ _ _ _ _
  · refine .iteFst (h.code _ _ _) <| .iteFst ?_ (h.refuseAccess _)
    dsimp only
    exact h.onFq _
  · exact .iteFst (h.refuseAccess _) <| .iteFst (h.code _ _ _) (h.commit _ _).rest

theorem Moves.saveCfg (h : Moves s t) (windows : List (Nat × Nat × Nat)) (ok : Bool) : Moves s (t.saveCfg windows ok) :=
  .ite h <| .ite (h.commit _ _).rest (h.onNvs _)

theorem Moves.actPlain (h : Moves s t) (reg n w : Nat) (v old : Word) : Moves s (t.actPlain reg n w v old) :=
  h.act (fun k => k.saveCfg _ _) _ _ _ _ _

theorem Moves.writeMem (h : Moves s t) (acc : Accessor) (a : Nat) (data : List Byte) : Moves s (t.writeMem acc a data).1 :=
  h.writeMemWith (fun _ _ _ _ _ k => k.actPlain _ _ _ _ _) _ _ _

theorem Moves.regWrite (h : Moves s t) (acc : Accessor) (page off width : Nat) (v : Word) :
    Moves s (t.regWrite acc page off width v).1 :=
  h.regWriteWith (fun _ _ _ k => k.actPlain _ _ _ _ _) _ _ _ _ _

theorem Moves.writeNamed {act : Nat → Nat → Word → State → State} (ha : ∀ {t} n w old, Moves s t → Moves s (act n w old t))
    (h : Moves s t) (acc : Accessor) (reg n : Nat) (v : Word) : Moves s (t.writeNamed act acc reg n v) :=
  h.regWriteWith ha _ _ _ _ _

theorem Moves.writePlain (h : Moves s t) (acc : Accessor) (reg n : Nat) (v : Word) : Moves s (t.writePlain acc reg n v) :=
  h.writeNamed (fun _ _ _ k => k.actPlain _ _ _ _ _) _ _ _ _

theorem Moves.writeHeader (h : Moves s t) (acc : Accessor) (page off : Nat) (v : Word) : Moves s (t.writeHeader acc page off v) :=
  h.regWriteWith (fun _ _ _ k => k) _ _ _ _ _

theorem Moves.applyRecord (h : Moves s t) (c : CfgRecord) : Moves s (t.applyRecord c).1 := by
  cases c with
  | word a v => exact h.writeMem _ _ _
  | bytes a d => exact .iteFst h (h.writeMem _ _ _)
  | bad => exact h

theorem Moves.applyRecords (h : Moves s t) (l : List CfgRecord) (i : Nat) : Moves s (t.applyRecords l i).1 := by
  induction l generalizing t i with
  | nil => exact h
  | cons c l ih => exact .iteFst (ih (h.applyRecord c) _) (h.applyRecord c)

theorem Moves.applyCfg (h : Moves s t) : Moves s t.applyCfg.1 := by
  unfold State.applyCfg
  refine .iteFst h ?_
  split
  · exact h.code _ _ _
  · dsimp only
    split
    · exact (h.applyRecords _ _).code _ _ _
    · exact Moves.code (Moves.rest (h.applyRecords _ _)) _ _ _

/-! ## What SUP does in CONFIG (R422) -/

theorem Moves.copyFusion (h : Moves s t) : Moves s t.copyFusion := h.commit _ _

theorem Moves.showImages (h : Moves s t) : Moves s t.showImages := h.rest rfl

theorem Moves.loadImage (h : Moves s t) (slot : Nat) : Moves s (t.loadImage slot) :=
  h.rest rfl

theorem Moves.takeImage (h : Moves s t) (l : List Nat) : Moves s (t.takeImage l).1 := by
  induction l generalizing t with
  | nil => exact h
  | cons slot l ih => exact .iteFst (h.loadImage slot) (ih (h.code _ _ _))

theorem Moves.configStart (h : Moves s t) : Moves s t.configStart := by
  have himage := (h.applyCfg.copyFusion.showImages).takeImage [b2n (bit t.applyCfg.1.copyFusion.showImages.nvs.boot 0),
    1 - b2n (bit t.applyCfg.1.copyFusion.showImages.nvs.boot 0)]
  exact .ite (Moves.rest himage.goReady) himage

end

section
variable {s t u : State}

/-! ## The Chain (R259–R286) -/

theorem Moves.sendHeartbeat (h : Moves s t) : Moves s t.sendHeartbeat :=
  (h.onChn (fun _ hu => chnOk_heartbeat _ _ _ _ _ _ hu)).commit _ _

theorem Moves.mirrorWork (h : Moves s t) (i : SpanIn) : Moves s (t.mirrorWork i) :=
  (h.onChn (fun _ hu => chnOk_mirror _ _ _ hu)).commit _ _

theorem Moves.chainFrame (h : Moves s t) (sub : Nat) (port : Fin 2) (data : List Byte) {go : ChainFrame → W Chn → W Chn}
    (hgo : ∀ f w, ChnOk w → ChnOk (go f w)) : Moves s (t.chainFrame sub port data go) := by
  refine h.upOn (fun k => k.onChn (fun u hu => chnOk_receive _ _ _ (fun f w hw => ?_) (fun f w hw => .ite (hgo f w hw) hw) hu)) _
  exact .ite (hw.markPath _ _) hw

theorem Moves.takeDatagram (h : Moves s t) (f : ChainFrame) : Moves s (t.takeDatagram f) := by
  refine h.workOn (fun k => ?_) _
  refine k.withFeature (fun k => ?_) _
  exact k.onFus _

theorem Moves.takeOp (h : Moves s t) (f : ChainFrame) : Moves s (t.takeOp f) := by
  unfold State.takeOp
  exact (h.actOp _ _).onChn (fun u hu => ChnOk.send (w := W.of u) hu _ _ _)

/-! ## Engines, packets and the field side -/

theorem Moves.finalWrite (h : Moves s t) (idx : Nat) : Moves s (t.finalWrite idx) := by
  unfold State.finalWrite
  split
  · exact h
  · exact .ite ((h.onFus _).spanDone _ _) h

theorem Moves.putAlc (h : Moves s t) (v : Alc) : Moves s (t.putAlc v) := h.rest rfl
theorem Moves.putSol (h : Moves s t) (v : Sol) : Moves s (t.putSol v) := h.rest rfl

theorem Moves.loopsWork (h : Moves s t) (x : Span) (i : SpanIn) : Moves s (t.loopsWork x i).1 := by
  unfold State.loopsWork
  exact Moves.ran (fun _ k => k.rest) (h.withHdr _) _

theorem Moves.allocateWork (h : Moves s t) (x : Span) (i : SpanIn) : Moves s (t.allocateWork x i).1 :=
  .iteFst (Moves.ran (fun _ k => k.putSol _) h _) (Moves.ran (fun _ k => k.putSol _) h _)

theorem Moves.packetFor (h : Moves s t) (unit n : Nat) : Moves s (t.packetFor unit n).2 := by
  unfold State.packetFor
  dsimp only
  split
  · exact h.rest
  · exact h

theorem Moves.canDoes (h : Moves s t) (n : Nat) (f : State → Can → W Can) : Moves s (t.canDoes n f) := .ite (h.onCan _) h

theorem Moves.groupDoes (h : Moves s t) (n : Nat) (f : Int → Fio → W Fio) : Moves s (t.groupDoes n f) := .ite (h.onFio _) h

theorem Moves.portDoes (h : Moves s t) (n : Nat) (f : Ser → W Ser) : Moves s (t.portDoes n f) := .ite (h.onSer _) h

theorem Moves.posDoes (h : Moves s t) (n : Nat) (f : State → Pos → W Pos) : Moves s (t.posDoes n f) := .ite (h.onPos _) h

theorem Moves.requestWork (h : Moves s t) (line : Bool) (x : Span) (i : SpanIn) : Moves s (t.requestWork line x i).1 := by
  unfold State.requestWork
  dsimp only
  exact h.posDoes _ _

theorem Moves.safDoes (h : Moves s t) {f : Nat → Saf → W Saf} (hf : ∀ n u, u.layer = 3 → (f n u).u.layer = 3) : Moves s (t.safDoes f) :=
  h.upOn (fun k => k.onSaf (hf _)) _

theorem Moves.pwrDoes (h : Moves s t) (f : (Nat → Nat) → Nat → Pwr → W Pwr) : Moves s (t.pwrDoes f) := h.upOn (fun k => k.onPower _) _

theorem Moves.quadrature (h : Moves s t) (n : Nat) (a b : Bool) : Moves s (t.quadrature n a b) := .ite ((h.onPos _).onFio _) (h.onPos _)

theorem Moves.exportPackets (h : Moves s t) (fk total n : Nat) : Moves s (t.exportPackets fk total n) := by
  induction n generalizing t with
  | zero => exact .ite (h.onGns _) h
  | succ n ih =>
    unfold State.exportPackets
    exact .ite (h.onGns _) <| .ite (Moves.onGns (Moves.commit h.rest _ _) _) (ih (Moves.commit h.rest _ _))

theorem Moves.onTask {f : State → State} (hf : ∀ {t}, Moves s t → Moves s (f t)) (h : Moves s t) (i : Nat) : Moves s (t.onTask i f) := by
  unfold State.onTask
  split
  · exact h.workOn hf _
  · exact h

theorem Moves.changeChecked (h : Moves s t) : Moves s t.changeChecked := by
  have hdone := h.onPrg (Prg.checkDone ⟨t.mem, runSlotBase (!t.prg.slot)⟩ t.imageKeys t.seq.lenUs t.fq.regs)
  unfold State.changeChecked
  dsimp only
  split
  · exact h
  split
  · exact hdone.withMem _
  · exact hdone

/-! ## The module's own happenings -/

theorem Moves.ringSearched (h : Moves s t) : Moves s t.ringSearched := .ite h ((h.onLog _).withHdr _)

/-- SUP stops, and the request that waits goes. -/
theorem Moves.stopSup (h : Moves s t) :
    Moves s { t with sup := { t.sup with dead := true, request := none, autoRun := false } } :=
  h.trans ⟨.refl _, fun _ => requestFits_none rfl, fun _ => id, id⟩

theorem Moves.supFetchFault (h : Moves s t) : Moves s t.supFetchFault := .ite (Moves.code h.stopSup _ _ _) h

theorem Moves.blockMissing (h : Moves s t) (page : Nat) : Moves s (t.blockMissing page) := by
  unfold State.blockMissing
  split
  · exact h
  · exact (h.unitMiss _).withSeq _

theorem Moves.warned (h : Moves s t) : Moves s t.warned := by
  unfold State.warned
  exact Moves.rest h.requestSave

theorem Moves.writeRecord (h : Moves s t) (ring shelf : Bool) : Moves s (t.writeRecord ring shelf) := by
  unfold State.writeRecord
  split
  · exact h
  · have hring : ∀ {x : State} (c : Bool) (f : Nvs → W Nvs), Moves s x → Moves s (if c then x.onNvs f else x) :=
      fun _ _ hx => .ite (hx.onNvs _) hx
    exact .ite h (Moves.onLog (hring _ _ (hring _ _ h)) _)

theorem Moves.parentLost (h : Moves s t) : Moves s t.parentLost := .ite (h.onTim _) h

theorem Moves.stepTime (h : Moves s t) (lines : BitVec 24) : Moves s (t.stepTime lines) := .ite (h.makeStep _) h

theorem Moves.latchFields (h : Moves s t) : Moves s t.latchFields := by
  unfold State.latchFields
  exact h.onFio _

theorem Moves.latchPositions (h : Moves s t) (lines : BitVec 24) : Moves s (t.latchPositions lines) := by
  unfold State.latchPositions
  exact h.onPos _

theorem Moves.latchSerial (h : Moves s t) : Moves s t.latchSerial := h.rest rfl
theorem Moves.latchCan (h : Moves s t) : Moves s t.latchCan := h.rest rfl

theorem Moves.latchChain (h : Moves s t) : Moves s t.latchChain := by
  refine h.workOn (fun {x} k => Moves.onChn (.ite (k.onChn (fun _ hu => chnOk_latchOutputs hu)) k) (fun _ hu => chnOk_stations _ _ hu)) _

theorem Moves.latchAll (h : Moves s t) (arg : Word) (lines : BitVec 24) : Moves s (t.latchAll arg lines) := by
  unfold State.latchAll
  extract_lets fields positions serial can chain plant
  have hfields : Moves s fields := .ite h.latchFields h
  have hpositions : Moves s positions := .ite (hfields.latchPositions _) hfields
  have hserial : Moves s serial := .ite hpositions.latchSerial hpositions
  have hcan : Moves s can := .ite hserial.latchCan hserial
  have hcha : Moves s chain := .ite hcan.latchChain hcan
  have hplant : Moves s plant := .ite (hcha.workOn (fun k => k.rest) _) hcha
  exact hplant.rest

/-! ## The service path (R302–R304, R426, R442) -/

theorem Moves.reject (h : Moves s t) : Moves s t.reject := Moves.code h.rest _ _ _
theorem Moves.served (h : Moves s t) (q : Request_) : Moves s (t.served q) := h.rest rfl

theorem Moves.reply (h : Moves s t) (op session seq count status : Nat) (body : List Byte) :
    Moves s (t.reply op session seq count status body) := h.rest rfl

theorem Moves.closeSession (h : Moves s t) (number : Nat) : Moves s (t.closeSession number) := Moves.releaseIdle h.rest

theorem Moves.request {go : Session → Request_ → List Byte → State → State × Nat × Nat × List Byte}
    (hgo : ∀ {t} x q body, Moves s t → Moves s (go x q body t).1) (h : Moves s t) (op : Nat) (bs : List Byte) :
    Moves s (t.request op bs go) := by
  unfold State.request
  split
  · exact h
  · refine .ite h ?_
    split
    · exact h.reject
    · exact .ite h.reject <| .ite ((h.served _).reply _ _ _ _ _ _) <|
        .ite ((hgo _ _ _ (h.served _)).reply _ _ _ _ _ _) (hgo _ _ _ (h.served _))

theorem Moves.nonce (h : Moves s t) : Moves s t.nonce.2 := h.fresh.fresh.fresh.fresh

theorem Moves.openSession (h : Moves s t) (slot : Nat) (key client : List Byte) (seq : Nat) :
    Moves s (t.openSession slot key client seq) :=
  Moves.reply (Moves.code (Moves.rest (t := t.nonce.2) h.nonce) _ _ _) _ _ _ _ _ _

theorem Moves.hello (h : Moves s t) (bs : List Byte) : Moves s (t.hello bs) := by
  unfold State.hello
  split
  · exact h
  · refine .ite h (.ite (.ite (h.openSession _ _ _ _) h.reject) ?_)
    split
    · exact h.reject
    · exact .ite h.reject <| .ite h (h.openSession _ _ _ _)

theorem Moves.readWords (h : Moves s t) (addr left n : Nat) (acc : List Word × Nat) : Moves s (t.readWords addr left n acc).1 := by
  induction left generalizing t addr n acc with
  | zero => exact h
  | succ left ih =>
    cases n with
    | zero => exact ih h _ _ _
    | succ n => exact ih (h.readMem _ _ _) _ _ _

theorem Moves.writePairs (h : Moves s t) (l : List (Nat × Word)) (n : Nat) : Moves s (t.writePairs l n).1 := by
  induction l generalizing t n with
  | nil => exact h
  | cons p l ih =>
    cases n with
    | zero => exact ih h _
    | succ n => exact ih (.iteFst (h.refuseAccess _) (h.writeMem _ _ _)) _

theorem Moves.transferred (h : Moves s t) (status : Nat) (body : List Byte) : Moves s (t.transferred status body).1 :=
  .ite h (h.code _ _ _)

theorem Moves.storeKey (h : Moves s t) (kind slot : Nat) (key : List Byte) : Moves s (t.storeKey kind slot key) :=
  Moves.codeRec h.rest _ _ _

theorem Moves.showRegion (h : Moves s t) (r : Nat) : Moves s (t.showRegion r) := .ite h.rest <| .ite h.showImages h

theorem Moves.serviceRead (h : Moves s t) (within : Nat) (bs : List Byte) : Moves s (t.serviceRead within bs) :=
  h.request (fun _ _ _ k => k.readWords _ _ _ _) _ _

theorem Moves.serviceWrite (h : Moves s t) (within : Nat) (bs : List Byte) : Moves s (t.serviceWrite within bs) :=
  h.request (fun _ _ _ k => .ite ((k.writePairs _ _).code _ _ _) (k.writePairs _ _)) _ _

theorem Moves.serviceKeySet (h : Moves s t) (ok : Bool) (bs : List Byte) : Moves s (t.serviceKeySet ok bs) :=
  h.request (fun _ _ _ k => .iteFst k <| .iteFst (k.onNvs _) (k.storeKey _ _ _)) _ _

theorem Moves.serviceClose (h : Moves s t) (bs : List Byte) : Moves s (t.serviceClose bs) :=
  h.request (fun _ _ _ k => k.closeSession _) _ _

theorem Moves.sessionTimeout (h : Moves s t) (number : Nat) : Moves s (t.sessionTimeout number) := by
  unfold State.sessionTimeout
  split
  · exact .ite (h.closeSession _) h
  · exact h

theorem Moves.transferOpen (h : Moves s t) (bs : List Byte) : Moves s (t.transferOpen bs) :=
  h.request (fun _ _ _ k => Moves.transferred (.ite k.rest k) _ _) _ _

theorem Moves.transferData (h : Moves s t) (ok : Bool) (bs : List Byte) : Moves s (t.transferData ok bs) :=
  h.request (fun _ _ _ k => Moves.transferred (.ite (k.onNvs _) <| .ite (k.commit _ _).rest k) _ _) _ _

theorem Moves.transferCommit (h : Moves s t) (bs : List Byte) : Moves s (t.transferCommit bs) := by
  refine h.request (fun {x} _ _ _ k => ?_) _ _
  split
  · exact k.transferred _ _
  · refine .iteFst (k.transferred _ _) <| .iteFst (k.transferred _ _) <| .iteFst (k.transferred _ _) <| .iteFst (k.transferred _ _) ?_
    exact Moves.transferred (Moves.showRegion (t := { x with nvs := _ }) k.rest _) _ _

theorem Moves.transferRead (h : Moves s t) (bs : List Byte) : Moves s (t.transferRead bs) :=
  h.request (fun _ _ _ k => .iteFst ((k.commit _ _).transferred _ _) (k.transferred _ _)) _ _

theorem Moves.transferClose (h : Moves s t) (bs : List Byte) : Moves s (t.transferClose bs) :=
  h.request (fun _ _ _ k => .iteFst (Moves.transferred (Moves.releaseIdle k.rest) _ _) (k.transferred _ _)) _ _

end


end Sys2Proof.Proofs
end

section
/-! SUP's own transitions (R39, R55, R56, R418), the ends of BOOT and of hold-up (R397, R421), and the walk over the commands that ends in the
four invariants. -/

namespace Sys2Proof.Proofs

open Sys2Proof Sys2Proof.Machine

-- One proof after another: many at once wait for the kernel in threads of their own, which the check's memory limit does not hold.
set_option Elab.async false

/-- Work without a reset: what `Moves` keeps, of whatever module state. -/
structure Guards (s t : State) : Prop where
  fits : s.requestFits = true → t.requestFits = true
  locked : s.saf.layer = 3 → t.saf.layer = 3
  role : ChnEntitled s.chn → ChnEntitled t.chn

section
variable {s t u : State}

theorem Guards.refl (s : State) : Guards s s := ⟨id, id, id⟩

theorem Guards.trans_moves (h : Guards s t) (k : Moves t u) (hu : u.mode ≠ .boot) : Guards s u :=
  ⟨fun f => k.fits (h.fits f), fun l => k.locked hu (h.locked l), fun r => k.role (h.role r)⟩

theorem Guards.enter (h : Guards s t) (m : Mode) : Guards s (t.enter m) :=
  ⟨fun _ => requestFits_enter _ _, fun l => (congrArg Saf.layer (saf_of_shell (shell_enter m t))).trans (h.locked l),
    fun r => chnEntitled_enter (h.role r) m⟩

theorem Guards.ite {a b : State} {c : Prop} [Decidable c] (ha : Guards s a) (hb : Guards s b) : Guards s (if c then a else b) := by
  split
  · exact ha
  · exact hb

/-! ## The module state that a transition leads to -/

theorem mode_goRun (s : State) : s.goRun.mode = s.mode := by
  unfold State.goRun
  dsimp only
  have hdiscard : s.discardRequest.mode = s.mode := commit_mode _ _ _
  have hwait : ∀ (x : State) (r : Request), (x.wait r).mode = x.mode := fun _ _ => rfl
  simp only [apply_ite State.mode, hdiscard, hwait, mode_checkList, ite_self]

/-- AUTO_RUN's request leaves the module state (R422). -/
theorem mode_autoRun (s : State) :
    (if s.sup.autoRun then ({ s with sup := { s.sup with autoRun := false } } : State).goRun else s).mode = s.mode := by
  split
  · exact mode_goRun { s with sup := { s.sup with autoRun := false } }
  · rfl

@[simp] theorem mode_enterReady (s : State) : s.enterReady.mode = .ready :=
  (mode_autoRun _).trans ((onSaf_mode _ _).trans (enter_mode _ _))

@[simp] theorem mode_enterRun (s : State) : s.enterRun.mode = .run := by
  unfold State.enterRun
  dsimp only
  have hreleases : ∀ x : State, x.releases.mode = x.mode := fun x => mode_of_outer (outer_releases x)
  simp only [apply_ite State.mode, hreleases, onPrg_mode, onChn_mode, enter_mode, ite_self]

@[simp] theorem mode_exitRun (s : State) : s.exitRun.mode = .ready := by
  have hswap : ∀ x : State, x.swapStep.beginFathom.mode = x.mode := fun x =>
    (mode_of_outer (outer_beginFathom x.swapStep)).trans (mode_of_outer (outer_swapStep x))
  unfold State.exitRun
  simp only [apply_ite State.mode, hswap, mode_enterReady, ite_self]

theorem mode_exitConfig (s : State) : s.exitConfig.mode = s.mode ∨ s.exitConfig.mode = .ready := by
  unfold State.exitConfig
  simp only [apply_ite State.mode, mode_enterReady]
  split
  · split
    · exact .inr rfl
    · exact .inl rfl
  · split
    · exact .inr rfl
    · exact .inl rfl

/-! ## Transitions (R39, R55, R56, R418) -/

theorem Moves.beginCount (h : Moves s t) : Moves s t.beginCount := h.rest rfl
theorem Moves.settle (h : Moves s t) : Moves s t.settle := .ite ((h.onSeq _).withHdr _) h
theorem Moves.startUnits (h : Moves s t) : Moves s t.startUnits := (h.withChn (c := { t.chn with eMax := 0 }) id).rest rfl
theorem Moves.atStart (h : Moves s t) : Moves s t.atStart := .ite h.fathomStart h

theorem Moves.withdrawRun (h : Moves s t) (r : Run) : Moves s (t.withdrawRun r) :=
  Moves.code (.ite h.rest (.ite h.rest h.rest)) _ _ _

theorem Moves.leaveRun (h : Moves s t) : Moves s t.leaveRun :=
  ((h.foldl (fun _ _ k => k.withdrawRun _) _).onPrg _).onChn (fun u _ => chnOk_leaveRun _ u)

theorem Guards.autoRun (h : Guards s t) (hm : t.mode ≠ .boot) :
    Guards s (if t.sup.autoRun then ({ t with sup := { t.sup with autoRun := false } } : State).goRun else t) :=
  h.trans_moves (.ite (Moves.goRun (Moves.refl t).rest) (.refl t)) (by rw [mode_autoRun]; exact hm)

theorem Guards.enterReady (h : Guards s t) : Guards s t.enterReady := by
  have hm : ((t.enter .ready).onSaf (Saf.enterReady (t.enter .ready).mem ((t.enter .ready).feature 12) (t.enter .ready).now)).mode ≠ .boot := by
    rw [onSaf_mode, enter_mode]
    decide
  exact ((h.enter .ready).trans_moves ((Moves.refl _).onSaf (layer_enterReady_locked _ _ _)) hm).autoRun hm

theorem Guards.enterRun (h : Guards s t) : Guards s t.enterRun := by
  have hrun : Moves (t.enter .run) t.enterRun := by
    have hunits := ((Moves.refl (t.enter .run)).onChn (fun _ hu => chnOk_enterRun (t.enter .run).chnEnv hu)).onPrg
      (Prg.enterRun ((t.enter .run).onChn (Chn.enterRun (t.enter .run).chnEnv)).seq.count)
    unfold State.enterRun
    dsimp only
    split
    · exact Moves.releases hunits.rest
    · exact hunits.rest
  exact (h.enter .run).trans_moves hrun (by rw [mode_enterRun]; decide)

theorem Guards.moves (h : Moves s t) (hm : t.mode ≠ .boot) : Guards s t := ⟨h.fits, h.locked hm, h.role⟩

theorem Guards.exitConfig (s : State) (hm : s.mode = .config) : Guards s s.exitConfig := by
  have hne : s.mode ≠ .boot := by rw [hm]; decide
  have hready : ∀ {x : State}, Moves s x → x.mode = s.mode → Guards s x.settle.startUnits.enterReady := fun hx e =>
    (Guards.moves hx.settle.startUnits (by
      show (State.settle _).mode ≠ _
      rw [mode_settle, e]
      exact hne)).enterReady
  exact .ite (.ite (hready ((Moves.refl s).atStart.withSeq _) (mode_atStart s)) (.refl s)) (.ite (hready (Moves.refl s).beginCount rfl) (.refl s))

theorem Guards.exitRun (s : State) (hm : s.mode ≠ .boot) : Guards s s.exitRun := by
  refine .ite (Guards.trans_moves (t := s.deadlines.leaveRun.enterReady) (Guards.enterReady (.moves (Moves.refl s).deadlines.leaveRun ?_))
      (Moves.refl _).swapStep.beginFathom ?_)
    (Guards.enterReady (.moves (Moves.refl s).leaveRun ?_))
  · rw [mode_leaveRun, mode_of_outer (outer_deadlines s)]
    exact hm
  · rw [mode_of_outer (outer_beginFathom _), mode_of_outer (outer_swapStep _), mode_enterReady]
    decide
  · rw [mode_leaveRun]
    exact hm

/-! ## What a command does -/

/-- What a command makes of the module state, the waiting request, a LOCKED safety layer and the Chain role. -/
structure Follows (s t : State) : Prop where
  mode : s.requestFits = true → t.mode = s.mode ∨ modeEdge s.mode t.mode = true
  fits : s.requestFits = true → t.requestFits = true
  locked : t.mode ≠ .boot → s.saf.layer = 3 → t.saf.layer = 3
  role : ChnEntitled s.chn → ChnEntitled t.chn

/-- A move of work is an edge of the table, or none. -/
theorem ModeMove.edge {m n : Mode} (h : ModeMove m n) : n = m ∨ modeEdge m n = true := by
  obtain rfl | ⟨rfl, rfl⟩ | ⟨hm, rfl⟩ := h
  · exact .inl rfl
  · exact .inr rfl
  · cases m
    case off => exact absurd rfl hm
    all_goals exact .inr rfl

theorem Moves.follows (h : Moves s t) : Follows s t := ⟨fun _ => h.mode.edge, h.fits, h.locked, h.role⟩

theorem Guards.follows (h : Guards s t) (hm : s.requestFits = true → t.mode = s.mode ∨ modeEdge s.mode t.mode = true) : Follows s t :=
  ⟨hm, h.fits, fun _ => h.locked, h.role⟩

theorem Follows.refl (s : State) : Follows s s := (Moves.refl s).follows

theorem Follows.iteOf {a b : State} {c : Prop} [Decidable c] (ha : c → Follows s a) (hb : ¬ c → Follows s b) :
    Follows s (if c then a else b) := by
  split
  next hc => exact ha hc
  next hc => exact hb hc

/-- No fathom start is due in OFF. -/
theorem mode_ne_off_of_startDue (h : t.startDue = true) : t.mode ≠ .off := by
  intro hb
  simp [State.startDue, State.gridDue, State.counting, hb] at h

/-- The module states that admit a request (R418). -/
def Request.fits (r : Request) (m : Mode) : Prop :=
  match r with
  | .goReady => m = .config ∨ m = .service
  | .goRun => m = .ready
  | .stop => m = .run
  | .goService => m = .ready

/-- Where a fathom start is due, the request that waits fits the module state itself. -/
theorem fits_of_startDue {r : Request} (hr : s.sup.request = some r) (hs : s.startDue = true) (hf : s.requestFits = true) :
    Request.fits r s.mode := by
  have hoff := mode_ne_off_of_startDue hs
  cases r <;> simpa [State.requestFits, Request.fits, hr, hoff] using hf

theorem transition_follows (s : State) : Follows s s.transition := by
  have hstart : s.startDue = true → Guards s s.atStart := fun hd =>
    .moves (Moves.refl s).atStart (by rw [mode_atStart]; exact mode_ne_boot_of_startDue hd)
  unfold State.transition
  split
  · exact .refl s
  next r hr =>
    have hfits : s.startDue = true → s.requestFits = true → Request.fits r s.mode := fits_of_startDue hr
    cases r with
    | goReady =>
      refine .iteOf (fun hm => (Guards.exitConfig s hm).follows fun _ => ?_) (fun hm =>
        .iteOf (fun hd => (hstart hd).enterReady.follows fun hf => ?_) (fun _ => .refl s))
      · obtain he | he := mode_exitConfig s
        · exact .inl he
        · rw [he, hm]
          exact .inr rfl
      · rw [mode_enterReady, (hfits hd hf).resolve_left hm]
        exact .inr rfl
    | goRun =>
      refine .iteOf (fun hd => (hstart hd).enterRun.follows fun hf => ?_) (fun _ => .refl s)
      rw [mode_enterRun, show s.mode = .ready from hfits hd hf]
      exact .inr rfl
    | stop =>
      refine .iteOf (fun hd => (Guards.exitRun s (mode_ne_boot_of_startDue hd)).follows fun hf => ?_) (fun _ => .refl s)
      rw [mode_exitRun, show s.mode = .run from hfits hd hf]
      exact .inr rfl
    | goService =>
      refine .iteOf (fun hd => ((hstart hd).enter .service).follows fun hf => ?_) (fun _ => .refl s)
      rw [enter_mode, show s.mode = .ready from hfits hd hf]
      exact .inr rfl

end

/-! ## Commands -/

section
variable {s t u : State}

theorem strapLevel_le (r : Option Nat) : strapLevel r ≤ 15 := by
  cases r with
  | none => exact le_rfl
  | some ohm =>
    exact Nat.le_of_lt_succ (Nat.div_lt_of_lt_mul (by omega))

theorem strapBase_lt (a b : Option Nat) : strapBase a b < 256 := by
  have ha := strapLevel_le a
  have hb := strapLevel_le b
  unfold strapBase
  omega

theorem powerOn_follows (a b : Option Nat) (s : State) : Follows s (s.powerOn a b) := by
  refine .iteOf (fun hm => ?_) (fun _ => .refl s)
  exact
    { mode := fun _ => .inr (by rw [enter_mode, hm]; rfl)
      fits := fun _ => requestFits_enter _ _
      locked := fun m => absurd (enter_mode _ _) m
      role := fun _ => chnEntitled_enter (chnEntitled_fresh _ (strapBase_lt a b)) _ }

theorem holdupExhausted_follows (s : State) : Follows s s.holdupExhausted := by
  refine .iteOf (fun hc => ?_) (fun _ => .refl s)
  refine ⟨fun _ => .inr ?_, fun _ => rfl, fun _ => id, id⟩
  obtain ⟨hm, _⟩ := hc
  show modeEdge s.mode .off = true
  generalize s.mode = m at hm ⊢
  cases m
  case off => exact absurd rfl hm
  all_goals rfl

/-- A module state entered from BOOT, and the work done there. -/
theorem Follows.left (hm : s.mode = .boot) {m : Mode} (hedge : ∀ n, ModeMove m n → modeEdge .boot n = true)
    (h : Guards s (t.enter m)) (k : Moves (t.enter m) u) : Follows s u where
  mode := fun _ => .inr (by
    rw [hm]
    have hk := k.mode
    rw [enter_mode] at hk
    exact hedge _ hk)
  fits := fun f => k.fits (h.fits f)
  locked := fun hu l => k.locked hu (h.locked l)
  role := fun r => k.role (h.role r)

theorem bootInto_follows (hm : s.mode = .boot) (h : Guards s t) (c : Nat) : Follows s (t.bootInto c) := by
  have hsup : ∀ v : Sup, v.request = t.sup.request → Guards s { t with sup := v } := fun v e =>
    ⟨fun f => (requestFits_congr (s := t) (t := { t with sup := v }) rfl e).trans (h.fits f), h.locked, h.role⟩
  unfold State.bootInto
  refine .left hm (m := .config) (fun n hn => ?_) ((hsup _ ?_).enter .config) (Moves.refl _).configStart
  · obtain rfl | ⟨hm, _⟩ | ⟨_, rfl⟩ := hn
    · rfl
    · exact absurd hm (by decide)
    · rfl
  · rfl

/-- The copies checked in order: the first sound one ends BOOT in CONFIG, and none ends it in HALT. -/
theorem tryCopies_follows (hm : s.mode = .boot) (h : Guards s t) (l : List Nat) : Follows s (t.tryCopies l) := by
  induction l generalizing t with
  | nil =>
    refine .left hm (m := .halt) (fun n hn => ?_) (h.enter .halt) ((Moves.refl _).codeRec _ _ _)
    obtain rfl | ⟨hm, _⟩ | ⟨_, rfl⟩ := hn
    · rfl
    · exact absurd hm (by decide)
    · rfl
  | cons c l ih =>
    refine .iteOf (fun _ => bootInto_follows hm h c) (fun _ => ih ?_)
    have hcode : (t.code Pg.SUP 0x1192 [wd c]).shell = t.shell := shell_commit _ _ _
    exact ⟨fun f => (requestFits_congr (mode_of_shell hcode) (congrArg Sup.request (sup_of_shell hcode))).trans (h.fits f),
      fun l => (congrArg Saf.layer (saf_of_shell hcode)).trans (h.locked l), fun r => chnEntitled_of_shell hcode (h.role r)⟩

theorem bootComplete_follows (s : State) : Follows s s.bootComplete := by
  refine .iteOf (fun hc => ?_) (fun _ => .refl s)
  obtain ⟨hm, _⟩ := hc
  exact tryCopies_follows (t := { s with sup := { s.sup with regs := rset s.sup.regs Reg.SUP_FW_VER (firmwareWord s.mem) } }) hm
    ⟨id, id, id⟩ _

/-- What follows from a state follows from one of the same course. -/
theorem Follows.of_course (e : State.course t = State.course s) (k : Follows t u) : Follows s u := by
  have h := Moves.rest (.refl s) e
  simp only [State.course, Prod.mk.injEq] at e
  exact ⟨fun f => e.1 ▸ k.mode (h.fits f), fun f => k.fits (h.fits f), fun hu l => k.locked hu (e.2.2.1.trans l), fun r => k.role (h.role r)⟩

theorem Follows.does_of {a : At} {f : State → State} (h : s.does a f = .next t) (hf : Follows (s.at_ a) (f (s.at_ a))) : Follows s t := by
  rw [does_eq] at h
  cases h
  exact .of_course (t := s.at_ a) rfl hf

theorem Follows.does {a : At} {f : State → State} (h : s.does a f = .next t) (hf : Moves (s.at_ a) (f (s.at_ a))) : Follows s t :=
  .does_of h hf.follows

/-- A command that is a write of a named register. -/
theorem Follows.written {a : At} {acc : Accessor} {reg n : Nat} {v : Word} (h : s.does a (State.writePlain acc reg n v) = .next t) :
    Follows s t :=
  .does h ((Moves.refl _).writePlain _ _ _ _)

/-- A command that starts a span. -/
theorem Follows.started {a : At} {idx : Nat} {ok : Span → Bool} {now : Bool} {work : Span → SpanIn → State → State × Bool}
    (h : s.does a (State.startSpan idx ok now work) = .next t)
    (hw : ∀ {x y : State} p i, Moves x y → Moves x (work p i y).1) : Follows s t :=
  .does h ((Moves.refl _).startSpan (fun p i => hw p i) _ _ _)

end

/-- Every command, by what it is: a write of a register, a span's START, a unit's happening, or one of the module. -/
theorem exec_follows (i : Instr) (s t : State) (h : exec i s = .next t) : Follows s t := by
  have r := Moves.refl
  unfold exec at h
  cases i with
  | powerOn => exact .does_of h (powerOn_follows _ _ _)
  | bootComplete => exact .does_of h (bootComplete_follows _)
  | ringSearchDone => exact .does h (r _).ringSearched
  | commandedReset => exact .does h ((r _).writeNamed (fun _ _ _ k => k.resetWrite (strapBase_lt _ _) _) _ _ _ _)
  | holdupExhausted => exact .does_of h (holdupExhausted_follows _)
  | saveCfg => exact .does h ((r _).writeNamed (fun _ _ _ k => k.act (fun k => k.saveCfg _ _) _ _ _ _ _) _ _ _ _)
  | stateTransition => exact .does_of h (.iteOf (fun _ => transition_follows _) (fun _ => .refl _))
  | supFetchFault => exact .does h (r _).supFetchFault
  | goReady | goRun | stop | goConfig | goService | firkinFlushRequest | firkinDisable | spanStore | shadowCountWrite | swapRequest
    | pubSelWrite | coefDataWrite | admitObs | withdraw | seed | snapshotStart | gnssExport | process | instanceWindowWrite | swap
    | swapAll | alcParamWrite | alcSwap | imageWindowWrite | imageSwap | cold | sol1MemWrite | stopTask | startTask | clrTaskStats
    | save | forceCommit | check | change | abort | go | clr | rejoin | outSet | outClr | countPreset | compareArm | stagingWrite
    | safetyParamCheck | confirm | snapTrig | supBootWrite => exact .written h
  | reinit => exact .does h ((r _).writePlain _ _ _ _)
  | recover | sleep | wakeWrite => exact .does h ((r _).writePlain _ _ _ _)
  | registerWrite => exact .does h (.ite ((r _).regWrite _ _ _ _ _) ((r _).upOn (fun k => k.refuseAccess _) _))
  | islandAccessTimeout => exact .does h ((r _).upOn (fun k => k.commit _ _) _)
  | memoryAccess _ acc addr len data =>
    refine .does h ?_
    cases data with
    | none => exact Moves.rest ((r _).readMem acc addr len)
    | some d => exact (r _).writeMem acc addr d
  | softReset | freeze => exact .does h ((r _).writeHeader _ _ _ _)
  | pageErrClr _ _ _ same =>
    refine .does h ?_
    cases same with
    | none => exact (r _).writeHeader _ _ _ _
    | some c => exact ((r _).writeHeader _ _ _ _).upOn (fun k => k.code _ _ _) _
  | handshakeTimeout _ _ consumer =>
    refine .does h ?_
    cases consumer with
    | none => exact (r _).upOn (fun k => k.code _ _ _) _
    | some p => exact ((r _).upOn (fun k => k.code _ _ _) _).upOn (fun k => k.blockMissing _) _
  | pllLockLoss | referenceLoss => exact .does h (.ite (r _) (Moves.codeRec (r _).rest _ _ _))
  | firkinPush | firkinPushEnd | firkinPop => exact .does h ((r _).upOn (fun k => k.onFq _) _)
  | firkinFlushEffect => exact .does h ((r _).upOn (fun k => .ite k.rest k) _)
  | fathomStart => exact .does h (r _).fathomStart
  | spanCompletion => exact .does h ((r _).spanDone _ _)
  | spanDeadline => exact .does h ((r _).deadline _)
  | furlongSwap => exact .does h (r _).furlongSwap
  | latch => exact .started h (fun _ _ k => k.latchAll _ _)
  | sampleArrival => exact .does h ((r _).commit _ _)
  | resample | estimate | update | pvt | sendSet => exact .started h (fun _ _ k => Moves.ran (fun _ k => k.rest) k _)
  | assemble => exact .started h (fun _ _ k => Moves.ran (fun _ k => k.putAlc _) k _)
  | allocate => exact .started h (fun _ _ k => k.allocateWork _ _)
  | loops => exact .started h (fun _ _ k => k.loopsWork _ _)
  | snapcap => exact .started h (fun _ _ k => k.onGns _)
  | heartbeat => exact .started h (fun _ _ k => k.sendHeartbeat)
  | mirror => exact .does h ((r _).startSpan (fun _ _ k => k.mirrorWork _) _ _ _)
  | request => exact .started h (fun _ _ k => k.requestWork _ _ _)
  | pointDatagram =>
    exact .does h ((r _).workOn (fun k => k.withFeature (fun k => .ite ((k.onFus _).onChn (fun u hu => ChnOk.send (w := W.of u) hu _ _ _)) (k.onFus _)) _) _)
  | binning => exact .does h ((r _).workOn (fun k => k.withFeature (fun k => .ite (k.onFus _) k) _) _)
  | updateFinalWrite => exact .does h ((r _).finalWrite _)
  | antennaOpen | antennaShort | antennaSupplyRetry | frontEndUnlock | frontEndRelock | ppsPulseEnd | snapshotCaptureEnd
    | snapshotFixDone => exact .does h ((r _).upOn (fun k => k.onGns _) _)
  | codeEpoch | acqTimeout | pullinTimeout | measurementLatch | ppsPulse => exact .does h ((r _).workOn (fun k => k.onGns _) _)
  | snapshotExportEnd => exact .does h ((r _).upOn (fun k => .ite (k.exportPackets _ _ _) k) _)
  | taskInputCopyDone => exact .does h ((r _).onTask (fun k => k.rest) _)
  | taskCycleEnd | taskRuntimeError | taskFetchFault => exact .does h ((r _).onTask (fun k => k.onPrg _) _)
  | retainSavePeriod => exact .does h (r _).requestSave
  | retainSaveDone => exact .does h ((r _).upOn (fun k => .ite k (k.onPrg _)) _)
  | changePoint => exact .does h ((r _).upOn (fun k => .ite (k.onPrg _) k) _)
  | changeWaitExpiry => exact .does h ((r _).upOn (fun k => k.onPrg _) _)
  | changeCheckDone => exact .does h ((r _).upOn .changeChecked _)
  | judgment => exact .does h ((r _).workOn (fun k => k.onChn (fun _ hu => chnOk_judge _ hu)) _)
  | sampleTick => exact .does h ((r _).workOn (fun k => k.onChn (fun _ hu => chnOk_sampleTick _ hu)) _)
  | chainOpTimeout => exact .does h ((r _).workOn (fun k => k.onChn (fun _ hu => chnOk_opTimeout _ hu)) _)
  | heartbeatReceive => exact .does h ((r _).chainFrame _ _ _ (fun f _ hw => hw.takeHeartbeat _ _ f))
  | verdictReceive => exact .does h ((r _).chainFrame _ _ _ (fun f _ hw => hw.takeVerdict _ f))
  | pubReceive => exact .does h ((r _).chainFrame _ _ _ (fun f _ hw => hw.takePub _ _ f))
  | outputReceive => exact .does h ((r _).chainFrame _ _ _ (fun f _ hw => hw.takeOutput _ f))
  | inputReceive => exact .does h ((r _).chainFrame _ _ _ (fun f _ hw => hw.takeInput f))
  | sampleReceive => exact .does h ((r _).chainFrame _ _ _ (fun f _ hw => hw.takeSamples f))
  | stateReceive => exact .does h ((r _).chainFrame _ _ _ (fun f _ hw => hw.takeState _ f))
  | ackReceive => exact .does h ((r _).chainFrame _ _ _ (fun f _ hw => hw.takeAck f))
  | datagramReceive =>
    refine .does h ?_
    dsimp only
    split
    · exact ((r _).chainFrame _ _ _ (fun _ _ hw => hw)).takeDatagram _
    · exact (r _).chainFrame _ _ _ (fun _ _ hw => hw)
  | opReceive =>
    refine .does h ?_
    dsimp only
    split
    · exact ((r _).chainFrame _ _ _ (fun _ _ hw => hw)).takeOp _
    · exact (r _).chainFrame _ _ _ (fun _ _ hw => hw)
  | mirrorPublication => exact .does h ((r _).workOn (fun k => (k.onChn (fun _ hu => chnOk_publishMirrors _ hu)).swapPairs _) _)
  | ptpSyncReceive =>
    refine .does h ((r _).workOn (fun {x} k => ?_) _)
    dsimp only
    split
    · exact Moves.steer k.rest _
    · exact k.rest
  | ptpAnnounceReceive | ptpAnnounceReceiptTimeout => exact .does h ((r _).workOn (fun k => (k.onPtp _).parentLost) _)
  | ptpDelayExchange | ptpTransparentForward | ptpSyncSend | ptpAnnounceSend | ptpDelayReqSend =>
    exact .does h ((r _).workOn (fun k => k.onPtp _) _)
  | ppsInEdge => exact .does h ((r _).upOn (fun k => k.steer _) _)
  | sourceLapse | primaryReselect => exact .does h ((r _).upOn (fun k => k.onTim _) _)
  | timeStep => exact .does h ((r _).upOn (fun k => k.stepTime _) _)
  | timeMatchArm => exact .does h ((r _).writeNamed (fun _ _ _ k => k.armed _ _ _) _ _ _ _)
  | timeMatchFire => exact .does h ((r _).upOn (fun k => k.matchFire _) _)
  | trigOutEnd => exact .does h ((r _).upOn (fun k => k.rest) _)
  | trigInEdge => exact .does h ((r _).upOn (fun k => Moves.commit k.rest _ _) _)
  | linkDown | linkUp => exact .does h ((r _).upOn (fun k => k.onNet _) _)
  | prpFrameReceive | prpSupervisionSend | prpLanLoss | arpIcmpRequest | udpbcDatagram =>
    exact .does h ((r _).workOn (fun k => k.onNet _) _)
  | hello => exact .does h ((r _).hello _)
  | read => exact .does h ((r _).serviceRead _ _)
  | write => exact .does h ((r _).serviceWrite _ _)
  | close => exact .does h ((r _).serviceClose _)
  | keySet => exact .does h ((r _).serviceKeySet _ _)
  | transferOpen => exact .does h ((r _).transferOpen _)
  | transferData => exact .does h ((r _).transferData _ _)
  | transferCommit => exact .does h ((r _).transferCommit _)
  | transferRead => exact .does h ((r _).transferRead _)
  | transferClose => exact .does h ((r _).transferClose _)
  | sessionTimeout => exact .does h ((r _).sessionTimeout _)
  | canTxPacketLoad =>
    refine .does h (.ite ?_ (r _))
    dsimp only
    split
    · exact ((r _).packetFor _ _).onCan _
    · exact r _
  | canTransmitEnd | canFrameReceive | canReceiveError | canIntegrationDone | busoffRecoveryEnd | sleepEnter | busWake =>
    exact .does h ((r _).canDoes _ _)
  | fieldRefresh => exact .does h ((r _).groupDoes _ _)
  | logicSideSilent | groupSideHold | holdExpiry | outputOverload | openLoad | inrushGrantExpiry =>
    exact .does h ((r _).groupDoes _ _)
  | sentenceReceive => exact .does h ((r _).workOn (fun k => k.onSer _) _)
  | serialTxPacket =>
    refine .does h (.ite ?_ (r _))
    dsimp only
    split
    · exact ((r _).packetFor _ _).onSer _
    · exact r _
  | serialTxDone | rs485IdleWaitEnd => exact .does h ((r _).portDoes _ _)
  | ssiReqWrite => exact .does h ((r _).writeNamed (fun _ _ _ k => k.onPos _) _ _ _ _)
  | ssiFrameEnd => exact .does h ((r _).posDoes _ _)
  | quadTransition => exact .does h ((r _).workOn (fun k => k.quadrature _ _ _) _)
  | esFuseTrip => exact .does h (.ite (r _).rest (r _))
  | esFuseRetry => exact .does h (r _).rest
  | safcCycle => exact .does h ((r _).safDoes (fun n u hu => (layer_of_settings (safSettings_cycle _ _ _ _)).trans hu))
  | safetyInputChange => exact .does h ((r _).safDoes (fun n u hu => (layer_of_settings (safSettings_inputChange _ _ _)).trans hu))
  | discrepancyTimeout => exact .does h ((r _).safDoes (fun n u hu => (layer_of_settings (SafHas.both u (fun _ _ hv => hv.discrepancy))).trans hu))
  | twohandSyncTimeout => exact .does h ((r _).safDoes (fun n u hu => (layer_of_settings (SafHas.both u (fun _ _ hv => hv.syncTimeout))).trans hu))
  | safetyOscFault | safcAliveMissing | safcSelfTestFail | safhParityFail => exact .does h ((r _).safDoes (fun _ _ _ => layer_lock _ _ _ _))
  | sfoTestPulse => exact .does h ((r _).safDoes (fun n u hu => (layer_of_settings (safSettings_testPulse _ _ _ _ _ _ _ _)).trans hu))
  | readbackMismatch => exact .does h ((r _).safDoes (fun n u hu => (layer_of_settings (safSettings_mismatch _ _ _ _)).trans hu))
  | safetyOutputOverload => exact .does h ((r _).safDoes (fun n u hu => (layer_of_settings (safSettings_overload _ _ _)).trans hu))
  | slUndervoltage => exact .does h ((r _).safDoes (fun n u hu => (layer_of_settings (safSettings_undervoltage _ _ _)).trans hu))
  | slRecovery => exact .does h ((r _).safDoes (fun n u hu => (layer_of_settings (safSettings_slRecover _ _ _)).trans hu))
  | degradedExpiry => exact .does h ((r _).safDoes (fun n u hu => (layer_of_settings (SafHas.both u (fun _ _ hv => hv.degExpiry))).trans hu))
  | resetTaken => exact .does h ((r _).safDoes (fun n u hu => (layer_of_settings (safSettings_resetTaken _ _ _)).trans hu))
  | resetHeld => exact .does h ((r _).safDoes (fun n u hu => (layer_of_settings (safSettings_resetHeld _ _ _)).trans hu))
  | reqRefresh => exact .does h ((r _).safDoes (fun n u hu => (layer_of_settings (safSettings_refreshReq _ _ _ _)).trans hu))
  | reqLoss => exact .does h ((r _).safDoes (fun n u hu => (layer_of_settings (safSettings_lossReq _ _ _)).trans hu))
  | supplySample | ceilingRise | supplyRecovery | supplyReconnect => exact .does h ((r _).pwrDoes _)
  | grantDecision => exact .does h ((r _).upOn (fun k => k.onPower _) _)
  | supplyWarning => exact .does h ((r _).upOn (fun k => .ite (k.onPower _).warned k) _)
  | overvoltageDisconnect => exact .does h ((r _).upOn (fun k => .ite (.ite (k.onPower _) (k.onPower _).warned) k) _)
  | recordWrite => exact .does h ((r _).upOn (fun k => k.writeRecord _ _) _)
  | optimeSave => exact .does h ((r _).upOn (fun k => k.rest) _)
  | shelfClr => exact .does h ((r _).writeNamed (fun _ _ _ k => Moves.onLog (.ite k (k.onNvs _)) _) _ _ _ _)

theorem step_follows (s t : State) (h : step s = .next t) : Follows s t := by
  cases hq : s.pending with
  | nil =>
    rw [step_nil hq] at h
    cases h
    exact .refl s
  | cons c rest =>
    rw [step_cons hq] at h
    exact .of_course (t := { s with pending := rest }) rfl (exec_follows c _ t h)

/-! ## The invariants -/

/-- Settles O56: every entry drops the request, and one waits only where the module state admits it. -/
theorem theWaitingRequestFitsTheState : Obligations.TheWaitingRequestFitsTheState := by
  unfold Obligations.TheWaitingRequestFitsTheState
  exact fun s t hf h => (step_follows s t h).fits hf

/-- Settles O57: work moves the module state by GO_CONFIG and resets alone, and SUP's transitions follow the request that waits. -/
theorem stateChangesFollowTheTable : Obligations.StateChangesFollowTheTable := by
  unfold Obligations.StateChangesFollowTheTable
  exact fun s t hf h => (step_follows s t h).mode hf

/-- Settles O59: only a reset sets a LOCKED layer back, and a channel closes a switch in RUN of the layer alone. -/
theorem theLockedLayerStaysLocked : Obligations.TheLockedLayerStaysLocked := by
  unfold Obligations.TheLockedLayerStaysLocked
  refine ⟨fun s t hl h hm => (step_follows s t h).locked hm hl, fun u isC k hl => ?_⟩
  unfold Saf.closes
  rw [hl]
  rfl

/-- Settles O60: the changes of role set the stone that the role calls for, and nothing else sets either. -/
theorem onlyAnActiveSendsAnEpoch : Obligations.OnlyAnActiveSendsAnEpoch := by
  unfold Obligations.OnlyAnActiveSendsAnEpoch
  exact fun s t hr h => (step_follows s t h).role hr

end Sys2Proof.Proofs
end

section
/-! What a unit's work leaves of the recorder (R400–R408): a code, a snapshot or a save may queue records and count losses, and nothing
else of REC changes. -/

namespace Sys2Proof.Proofs

open Sys2Proof Sys2Proof.Machine

-- One proof after another: many at once wait for the kernel in threads of their own, which the check's memory limit does not hold.
set_option Elab.async false

/-- REC without its registers, its queue and the records that wait to be queued: the ring, the clock and the copies of R404. -/
def Rec.store (u : Rec) : Rec := { u with regs := [], queue := [], lostSince := 0, saving := [] }

theorem store_offer (r : Record) (w : W Rec) : Rec.store (Rec.offer r w).u = Rec.store w.u := by
  unfold Rec.offer Rec.lose
  split
  · rfl
  split
  · rfl
  · rfl

theorem store_feed (n : Nat) (w : W Rec) : Rec.store (Rec.feed n w).u = Rec.store w.u := by
  induction n generalizing w with
  | zero => rfl
  | succ n ih =>
    unfold Rec.feed
    split
    · rfl
    · split
      · exact (ih _).trans (store_offer _ _)
      · rfl

@[simp] theorem log_setLog (l : Rec) (s : State) : (s.setLog l).log = l := by
  unfold State.setLog
  simp only [apply_ite State.log, ite_self]

theorem store_record (c : Code) (s : State) : Rec.store (s.record c).log = Rec.store s.log := by
  unfold State.record
  dsimp only
  split
  · exact (congrArg Rec.store (log_setLog _ _)).trans (store_offer _ _)
  · rfl

theorem store_recordAll (l : List Code) (s : State) : Rec.store (s.recordAll l).log = Rec.store s.log :=
  foldl_keeps (fun x : State => Rec.store x.log = Rec.store s.log) _ (fun x c hx => (store_record c x).trans hx) _ _ rfl

theorem store_beginSave (s : State) : Rec.store s.beginSave.log = Rec.store s.log := by
  unfold State.beginSave
  dsimp only
  rw [log_setLog, store_feed]
  rfl

theorem store_snapshot (srcs code : Nat) (s : State) : Rec.store (s.snapshot srcs code).log = Rec.store s.log := by
  have hlog : ∀ (x : State) (u : Snap) (h : RMap) (l : List (Nat × Nat)), (({ x with snap := u, hdr := h } : State).flags l).log = x.log :=
    fun _ _ _ _ => rfl
  unfold State.snapshot
  extract_lets t w missed s1 s2 s3 s4
  have h4 : Rec.store s4.log = Rec.store s.log := (store_recordAll _ _).trans (congrArg Rec.store (hlog s _ _ _))
  split
  · exact (store_recordAll _ _).trans (congrArg Rec.store (hlog s _ s.hdr _))
  · split
    · exact (store_beginSave _).trans h4
    · exact h4

theorem store_snapTriggers (srcs : List Nat) (codes : List Code) (s : State) :
    Rec.store (s.snapTriggers srcs codes).log = Rec.store s.log := by
  unfold State.snapTriggers
  extract_lets on f m
  split
  · rfl
  · exact store_snapshot _ _ _

theorem log_readBlocks (l : List (Nat × Nat)) (s : State) : (State.readBlocks l s).1.log = s.log := by
  induction l generalizing s with
  | nil => rfl
  | cons p l ih =>
    unfold State.readBlocks
    dsimp only
    rw [ih]
    unfold State.readBlock
    dsimp only
    split
    · rfl
    · dsimp only
      split
      · rfl
      · rfl

theorem log_readForStore (page a : Nat) (s : State) : (s.readForStore page a).1.log = s.log := by
  unfold State.readForStore
  dsimp only
  split
  · rfl
  · rfl

theorem log_store1 (st : Store) (s : State) : (s.store1 st).1.log = s.log :=
  foldl_keeps (fun x : State × List Code => x.1.log = s.log)
    (fun (x : State × List Code) (r : Nat × Nat) => ((x.1.readForStore r.1 r.2).1, x.2 ++ (x.1.readForStore r.1 r.2).2))
    (fun _ _ hx => (log_readForStore _ _ _).trans hx) (readsOfStore st) (s, []) rfl

theorem log_storeAll (l : List Store) (s : State) : (State.storeAll l s).1.log = s.log := by
  induction l generalizing s with
  | nil => rfl
  | cons st l ih =>
    unfold State.storeAll
    dsimp only
    rw [ih, log_store1]

/-- A unit's sub-step leaves of REC what putting the unit's state back leaves. -/
theorem log_absorb {U : Type} (put : U → State → State) (w : W U) (x : State × Fx) : (State.absorb put w x).1.log = (put w.u x.1).log :=
  (log_readBlocks _ _).trans (log_storeAll _ _)

theorem log_takeSample (x : State × Fx) (p : Sample) : (State.takeSample x p).1.log = x.1.log := by
  unfold State.takeSample
  dsimp only
  split
  · exact log_absorb _ _ _
  · rfl

theorem log_takePacket (x : State × Fx) (p : Push) : (State.takePacket x p).1.log = x.1.log := by
  unfold State.takePacket
  split
  · exact log_absorb _ _ _
  · rfl

theorem log_takeTrigger (x : State × Fx) (t : Trigger) : (State.takeTrigger x t).1.log = x.1.log := by
  unfold State.takeTrigger
  split
  · exact log_absorb _ _ _
  · rfl

/-- A unit's work leaves the ring, the clock and the copies of REC. -/
theorem store_commit (fx : Fx) (st : List Store) (s : State) : Rec.store (s.commit fx st).log = Rec.store s.log := by
  have k : ∀ {B : Type} (f : State × Fx → B → State × Fx), (∀ x b, (f x b).1.log = x.1.log) →
      ∀ (l : List B) (x : State × Fx), x.1.log = s.log → (l.foldl f x).1.log = s.log :=
    fun f hf l x hx => foldl_keeps (fun x : State × Fx => x.1.log = s.log) f (fun a b ha => (hf a b).trans ha) l x hx
  have h0 := log_absorb (fun (u : State) _ => u) ⟨s, fx, st⟩ (s, Fx.none)
  have hlog : ∀ (x : State × Fx) (l : List (Nat × Nat)), x.1.log = s.log → (x.1.flags l).log = s.log := fun _ _ hx => hx
  unfold State.commit
  dsimp only
  refine (store_snapTriggers _ _ _).trans ((store_recordAll _ _).trans (congrArg Rec.store (hlog _ _ ?_)))
  exact k _ log_takeTrigger _ _ (k _ log_takePacket _ _ (k _ log_takeSample _ _ h0))

end Sys2Proof.Proofs
end

section
/-! BOOT, the ring search and a fetch fault of SUP (R405, R421, R424). -/

namespace Sys2Proof.Proofs

open Sys2Proof Sys2Proof.Machine

-- One proof after another: many at once wait for the kernel in threads of their own, which the check's memory limit does not hold.
set_option Elab.async false

/-! ## What SUP does in CONFIG without a configuration set (R422) -/

theorem mode_takeImage (l : List Nat) (s : State) : (s.takeImage l).1.mode = s.mode := by
  induction l generalizing s with
  | nil => rfl
  | cons slot l ih =>
    unfold State.takeImage
    split
    · rfl
    · rw [ih, code_mode]

theorem mode_goReady (s : State) : s.goReady.mode = s.mode := by
  have hdiscard : s.discardRequest.mode = s.mode := commit_mode _ _ _
  have hwait : ∀ (x : State) (r : Request), (x.wait r).mode = x.mode := fun _ _ => rfl
  unfold State.goReady
  simp only [apply_ite State.mode, hdiscard, hwait, mode_checkList, ite_self]

/-- Without CFG_EN no configuration set is applied. -/
theorem applyCfg_off {s : State} (h : bit s.nvs.boot 2 = false) : s.applyCfg = (s, true) := by
  unfold State.applyCfg
  rw [h]
  rfl

/-- AUTO_RUN's GO_READY leaves the module state (R422). -/
theorem mode_autoReady (c : Bool) (s : State) :
    (if c then ({ s.goReady with sup := { s.goReady.sup with autoRun := s.goReady.sup.request.isSome } } : State) else s).mode = s.mode := by
  split
  · exact mode_goReady s
  · rfl

theorem mode_configStart {s : State} (h : bit s.nvs.boot 2 = false) : s.configStart.mode = s.mode := by
  have hshow : ∀ x : State, x.showImages.mode = x.mode := fun _ => rfl
  have hshown : s.copyFusion.showImages.mode = s.mode := (hshow _).trans (commit_mode Fx.none _ s)
  unfold State.configStart
  rw [applyCfg_off h]
  dsimp only
  rw [mode_autoReady, mode_takeImage, hshown]

/-! ## The copies of the firmware (R421) -/

theorem nvs_enter (m : Mode) (s : State) : (s.enter m).nvs = s.nvs := plain_nvs _ (plain_of_codes _ _ _ _) _

theorem mem_code (p c : Nat) (l : List Word) (s : State) : (s.code p c l).mem = s.mem := plain_mem _ (plain_of_codes _ _ _ _) _

theorem nvs_code (p c : Nat) (l : List Word) (s : State) : (s.code p c l).nvs = s.nvs := plain_nvs _ (plain_of_codes _ _ _ _) _

theorem mode_bootInto (c : Nat) {s : State} (h : bit s.nvs.boot 2 = false) : (s.bootInto c).mode = .config := by
  unfold State.bootInto
  dsimp only
  rw [mode_configStart, enter_mode]
  rw [nvs_enter]
  exact h

/-- A sound copy among those checked ends BOOT in CONFIG. -/
theorem mode_tryCopies {l : List Nat} {s : State} (h : bit s.nvs.boot 2 = false) {c : Nat} (hc : c ∈ l)
    (hv : (firmwareVersion s.mem c).isSome = true) : (s.tryCopies l).mode = .config := by
  induction l generalizing s with
  | nil => exact absurd hc List.not_mem_nil
  | cons d l ih =>
    unfold State.tryCopies
    split
    · exact mode_bootInto d h
    next hd =>
      have hcl : c ∈ l := (List.mem_cons.mp hc).resolve_left (fun e => hd (e ▸ hv))
      refine ih ?_ hcl ?_
      · rw [nvs_code]
        exact h
      · rw [mem_code]
        exact hv

/-- Without a sound copy among those checked BOOT ends in HALT (R421). -/
theorem tryCopies_none {l : List Nat} {s : State} (hv : ∀ c ∈ l, firmwareVersion s.mem c = none) :
    (s.tryCopies l).mode = .halt ∧ (s.tryCopies l).errCode Pg.SUP = 0x4193 := by
  induction l generalizing s with
  | nil =>
    unfold State.tryCopies
    exact ⟨(codeRec_mode _ _ _ _).trans (enter_mode _ _), errCode_codeRec _ _ _ _ (by decide)⟩
  | cons d l ih =>
    unfold State.tryCopies
    rw [hv d List.mem_cons_self, if_neg (by decide)]
    refine ih fun c hc => ?_
    rw [mem_code]
    exact hv c (List.mem_cons_of_mem _ hc)

theorem mem_firmwareOrder (m : Mem) (c : Nat) : c ∈ firmwareOrder m ↔ c = 0 ∨ c = 1 := by
  unfold firmwareOrder
  split
  · simp [or_comm]
  · simp

/-- The search is done and its record queued (R405). -/
theorem searched_onLog_searchDone (m : Mem) (first : Nat → Record) (s : State) (h : s.log.searched = false) :
    (s.onLog (Rec.searchDone m first)).log.searched = true := by
  have hw : ∃ u : Rec, Rec.searchDone m first s.log = W.of u ∧ u.searched = true := by
    unfold Rec.searchDone
    rw [h]
    exact ⟨_, rfl, rfl⟩
  obtain ⟨u, hu, hsearched⟩ := hw
  unfold State.onLog
  rw [hu]
  show ((s.setLog u).commit Fx.none []).log.searched = true
  rw [commit_none, log_setLog]
  exact hsearched

theorem ringSearched_first {s : State} (hm : s.mode ≠ .off) (hs : s.log.searched = false) :
    s.ringSearched.log.searched = true ∧ s.ringSearched.errCode Pg.REC = 0x0173 := by
  have hcond : ¬ (s.mode = .off ∨ s.log.searched = true) := by
    rw [hs]
    simpa using hm
  have hlog : ∀ (x : State) (m : RMap), ({ x with hdr := m } : State).log = x.log := fun _ _ => rfl
  have herr : ∀ x : State, ({ x with hdr := hdrCode x.hdr Pg.REC 0x0173 } : State).errCode Pg.REC = 0x0173 := fun x => by
    unfold State.errCode State.pageErr hdrCode
    dsimp only
    rw [rget_rmod, if_pos rfl]
    exact bits_errWord _ _
  unfold State.ringSearched
  rw [if_neg hcond]
  refine ⟨?_, herr _⟩
  dsimp only
  rw [hlog, searched_onLog_searchDone _ _ _ hs]

/-- Settles O3: the sound copies end BOOT by `mode_tryCopies`; the other two are one record each. -/
theorem bootOutcome : Obligations.BootOutcome := by
  unfold Obligations.BootOutcome
  refine ⟨fun a s hm hd hb => ⟨_, rfl, ?_, ?_⟩, fun a s hm hs => ⟨_, rfl, ?_⟩, fun a s hi => ⟨_, rfl, ?_⟩⟩
  · intro hv
    unfold State.bootComplete
    rw [if_pos ⟨hm, hd⟩]
    obtain hv | hv := hv
    · exact mode_tryCopies hb ((mem_firmwareOrder _ _).mpr (.inl rfl)) hv
    · exact mode_tryCopies hb ((mem_firmwareOrder _ _).mpr (.inr rfl)) hv
  · intro ⟨h0, h1⟩
    unfold State.bootComplete
    rw [if_pos ⟨hm, hd⟩]
    refine tryCopies_none fun c hc => ?_
    obtain rfl | rfl := (mem_firmwareOrder _ _).mp hc
    · exact h0
    · exact h1
  · exact ringSearched_first (s := s.at_ a) hm hs
  · unfold State.supFetchFault
    rw [if_pos (show (s.at_ a).islandUp 1 = true from hi)]
    refine ⟨?_, ?_, errCode_code _ _ _ _ (by decide)⟩
    · rw [code_sup]
    · rw [code_sup]

end Sys2Proof.Proofs
end

section
/-! The supply and the budget arbiter at work (R389–R397): what PWR's work leaves in the rest of the module, the ceiling, and the grants that
cuts and decisions change. -/

namespace Sys2Proof.Proofs

open Sys2Proof Sys2Proof.Machine

-- One proof after another: many at once wait for the kernel in threads of their own, which the check's memory limit does not hold.
set_option Elab.async false

/-! ## PWR's work in the module (R394, R395) -/

/-- FUS's work and SEQ's runs after an UPDATE that has lost its grant (R394). -/
def State.updateCut (l : List Run) (s : State) : State := { s.onFus Fus.cut with seq := { (s.onFus Fus.cut).seq with runs := l } }

/-- An UPDATE in progress ended without a result, any other run left. -/
def Run.ended (s : State) (r : Run) : Run :=
  if r.span.unit = 0x15 ∧ r.doneAt = none then
    { r with result := false, doneAt := some ((s.seq.count - r.count) * s.seq.lenUs + s.tick) }
  else r

/-- No UPDATE is in progress. -/
def updatesDone (l : List Run) : Prop := ∀ r ∈ l, r.span.unit = 0x15 → r.doneAt ≠ none

theorem updatesDone_ended (s : State) (l : List Run) : updatesDone (l.map (Run.ended s)) := by
  intro r hr
  obtain ⟨q, _, rfl⟩ := List.mem_map.mp hr
  unfold Run.ended
  split
  · exact fun _ => Option.some_ne_none _
  next hn => exact fun hu hd => hn ⟨hu, hd⟩

section
variable (f : Pwr → W Pwr) (s : State)

theorem onPwr_seq : (s.onPwr f).seq = s.seq := seq_of_shell (s := { s with pwr := (f s.pwr).u }) (shell_onPwr f s)

theorem onPwr_fus : (s.onPwr f).fus = s.fus := fus_of_shell (s := { s with pwr := (f s.pwr).u }) (shell_onPwr f s)

/-- PWR's work cuts the UPDATE in progress, when there is one whose grant it takes, and does nothing beside the rates else. -/
theorem onPower_cases :
    (s.onPower f = s.onPwr f ∧ (s.grant 17 = true → (f s.pwr).u.state 17 = 2 → updatesDone s.seq.runs)) ∨
    (s.grant 17 = true ∧ (f s.pwr).u.state 17 = 2 ∧ ∃ l, updatesDone l ∧ s.onPower f = State.updateCut l (s.onPwr f)) := by
  by_cases hc : (s.grant 17 && (s.onPwr f).pwr.state 17 == 2 && (s.onPwr f).seq.runs.any (fun r => r.span.unit == 0x15 && r.doneAt.isNone)) = true
  · right
    have hc' := hc
    simp only [onPwr_pwr, Bool.and_eq_true, beq_iff_eq] at hc'
    obtain ⟨⟨hgrant, hcut⟩, _⟩ := hc'
    exact ⟨hgrant, hcut, _, updatesDone_ended ((s.onPwr f).onFus Fus.cut) ((s.onPwr f).onFus Fus.cut).seq.runs, if_pos hc⟩
  · left
    refine ⟨if_neg hc, fun hgrant hcut r hr hu hd => hc ?_⟩
    simp only [onPwr_pwr, onPwr_seq, hgrant, hcut, Bool.and_eq_true, beq_iff_eq, List.any_eq_true, Bool.true_and, true_and]
    exact ⟨r, hr, hu, by rw [hd]; rfl⟩

/-- PWR's work and the rates that follow, where no UPDATE loses its grant. -/
theorem onPower_uncut (h : s.grant 17 = false ∨ (f s.pwr).u.state 17 ≠ 2) : s.onPower f = s.onPwr f := by
  obtain ⟨heq, _⟩ | ⟨hgrant, hcut, _⟩ := onPower_cases f s
  · exact heq
  · obtain h | h := h
    · exact absurd (h.symm.trans hgrant) (by decide)
    · exact absurd hcut h

@[simp] theorem onPower_pwr : (s.onPower f).pwr = (f s.pwr).u := by
  obtain ⟨heq, _⟩ | ⟨_, _, l, _, heq⟩ := onPower_cases f s
  · rw [heq, onPwr_pwr]
  · have hput : ∀ x : State, (State.updateCut l x).pwr = x.pwr := fun x => by
      unfold State.updateCut
      dsimp only
      rw [onFus_pwr]
    rw [heq, hput, onPwr_pwr]

/-- The rest of the module after PWR's work. -/
theorem shell_onPower : (s.onPower f).shell =
    { s.shell with pwr := (f s.pwr).u, fus := (s.onPower f).fus, seq := (s.onPower f).seq } := by
  obtain ⟨heq, _⟩ | ⟨_, _, l, _, heq⟩ := onPower_cases f s
  · rw [heq, onPwr_fus, onPwr_seq]
    exact shell_onPwr f s
  · have hshell : (State.updateCut l (s.onPwr f)).shell =
        { (s.onPwr f).shell with fus := (State.updateCut l (s.onPwr f)).fus, seq := (State.updateCut l (s.onPwr f)).seq } := by
      have hfus := shell_onFus Fus.cut (s.onPwr f)
      have hput : ∀ (x : State) (q : Machine.Seq), ({ x with seq := q } : State).shell = { x.shell with seq := q } := fun _ _ => rfl
      unfold State.updateCut
      rw [hput, hfus, onFus_fus]
    rw [heq, hshell, shell_onPwr]

/-- The UPDATE is done, or in progress as it was. -/
theorem updatesDone_onPower (h : s.grant 17 = true) (hcut : (f s.pwr).u.state 17 = 2) : updatesDone (s.onPower f).seq.runs := by
  obtain ⟨heq, hdone⟩ | ⟨_, _, l, hdone, heq⟩ := onPower_cases f s
  · rw [heq, onPwr_seq]
    exact hdone h hcut
  · rw [heq]
    exact hdone

end

end Sys2Proof.Proofs
end

section
/-! Cuts and the ceiling (R390–R393). -/

namespace Sys2Proof.Proofs

open Sys2Proof Sys2Proof.Machine

-- One proof after another: many at once wait for the kernel in threads of their own, which the check's memory limit does not hold.
set_option Elab.async false

/-- A field of the low bits of a number that fits it. -/
theorem bits_wd_low {n hi : Nat} (h : n < 2 ^ (hi + 1)) (hhi : hi < 32) : bits (wd n) hi 0 = n := by
  unfold bits wd
  have hle : 2 ^ (hi + 1) ≤ 2 ^ 32 := Nat.pow_le_pow_right (by decide) (by omega)
  rw [BitVec.toNat_ofNat, Nat.mod_eq_of_lt (h.trans_le hle), Nat.shiftRight_zero, Nat.sub_zero, Nat.mod_eq_of_lt h]

/-! ## States of requesters -/

theorem state_setState (u : Pwr) (i v j : Nat) (hi : pwrClass i ≠ 0) : (u.setState i v).state j = if j = i then v else u.state j := by
  unfold Pwr.state Pwr.setState
  dsimp only
  rw [sget_sset]
  by_cases hj : j = i
  · rw [if_pos hj, if_pos hj, hj, if_neg hi]
  · rw [if_neg hj, if_neg hj]

theorem mem_insertRank {u : Pwr} {i k : Nat} {l : List Nat} : k ∈ insertRank u i l ↔ k = i ∨ k ∈ l := by
  induction l with
  | nil => simp [insertRank]
  | cons j l ih =>
    unfold insertRank
    split
    · simp
    · rw [List.mem_cons, ih, List.mem_cons]
      tauto

theorem mem_byRank {u : Pwr} {k : Nat} {l : List Nat} : k ∈ u.byRank l ↔ k ∈ l := by
  have h : ∀ (l a : List Nat), k ∈ l.foldl (fun a i => insertRank u i a) a ↔ k ∈ l ∨ k ∈ a := by
    intro l
    induction l with
    | nil => simp
    | cons i l ih =>
      intro a
      rw [List.foldl_cons, ih, mem_insertRank, List.mem_cons]
      tauto
  exact (h l []).trans (by simp)

theorem mem_held {u : Pwr} {cls st i : Nat} : i ∈ u.held cls st ↔ i < pwrCount ∧ pwrClass i = cls ∧ u.state i = st := by
  unfold Pwr.held
  rw [mem_byRank, List.mem_filter]
  simp [pwrAll, upto]

/-- A requester is put where the ranks stay in descending order. -/
theorem pairwise_insertRank {u : Pwr} {i : Nat} {l : List Nat} (h : l.Pairwise (fun a b => u.rank b ≤ u.rank a)) :
    (insertRank u i l).Pairwise (fun a b => u.rank b ≤ u.rank a) := by
  induction l with
  | nil => exact List.pairwise_singleton _ _
  | cons j l ih =>
    obtain ⟨hj, hl⟩ := List.pairwise_cons.mp h
    unfold insertRank
    split
    next hlt =>
      refine List.pairwise_cons.mpr ⟨fun b hb => ?_, h⟩
      obtain rfl | hb := List.mem_cons.mp hb
      · exact hlt.le
      · exact (hj b hb).trans hlt.le
    next hge =>
      refine List.pairwise_cons.mpr ⟨fun b hb => ?_, ih hl⟩
      obtain rfl | hb := mem_insertRank.mp hb
      · exact Nat.le_of_not_lt hge
      · exact hj b hb

theorem pairwise_byRank (u : Pwr) (l : List Nat) : (u.byRank l).Pairwise (fun a b => u.rank b ≤ u.rank a) :=
  foldl_keeps (fun a : List Nat => a.Pairwise (fun a b => u.rank b ≤ u.rank a)) _ (fun _ _ h => pairwise_insertRank h) _ _ List.Pairwise.nil

/-- The order of cuts (R393): class 2 before class 1, by descending rank. -/
def cutsBefore (u : Pwr) (i j : Nat) : Prop := pwrClass j ≤ pwrClass i ∧ (pwrClass i = pwrClass j → u.rank j ≤ u.rank i)

/-- The requesters that hold a grant which a cut can take, in the order of R393. -/
def Pwr.cuttable (u : Pwr) : List Nat := u.held 2 1 ++ u.held 1 1

theorem pairwise_cuttable (u : Pwr) : (Pwr.cuttable u).Pairwise (cutsBefore u) := by
  have hclass : ∀ c : Nat, (u.held c 1).Pairwise (cutsBefore u) := fun c =>
    (pairwise_byRank u _).imp_of_mem fun {a b} ha hb hr => by
      obtain ⟨_, ha, _⟩ := mem_held.mp ha
      obtain ⟨_, hb, _⟩ := mem_held.mp hb
      exact ⟨by rw [ha, hb], fun _ => hr⟩
  refine List.pairwise_append.mpr ⟨hclass 2, hclass 1, fun a ha b hb => ?_⟩
  obtain ⟨_, ha, _⟩ := mem_held.mp ha
  obtain ⟨_, hb, _⟩ := mem_held.mp hb
  unfold cutsBefore
  rw [ha, hb]
  exact ⟨by decide, fun h => absurd h (by decide)⟩

theorem mem_cuttable {u : Pwr} {i : Nat} : i ∈ Pwr.cuttable u ↔ i < pwrCount ∧ pwrClass i ≠ 0 ∧ u.state i = 1 := by
  unfold Pwr.cuttable
  rw [List.mem_append, mem_held, mem_held]
  have hclass : pwrClass i = 0 ∨ pwrClass i = 1 ∨ pwrClass i = 2 := by
    unfold pwrClass
    split
    · exact .inr (.inl rfl)
    · split
      · exact .inr (.inr rfl)
      · exact .inl rfl
  omega

/-! ## Cuts -/

/-- What cuts make of PWR: grants lost, and their counts. -/
structure PwrCut (u v : Pwr) : Prop where
  rest : { v with st := u.st, cuts := u.cuts, regs := u.regs } = u
  regs : ∀ k, k ≠ Reg.PWR_CNT_CUT → rget v.regs k = rget u.regs k
  state : ∀ i, v.state i = u.state i ∨ u.state i = 1 ∧ v.state i = 2

theorem PwrCut.refl (u : Pwr) : PwrCut u u := ⟨rfl, fun _ _ => rfl, fun _ => .inl rfl⟩

theorem PwrCut.ceil {u v : Pwr} (h : PwrCut u v) : v.ceil = u.ceil := congrArg (bits · 10 0) (h.regs _ (by decide))

theorem state_cutOne (w : W Pwr) {i : Nat} (hi : pwrClass i ≠ 0) (j : Nat) :
    (Pwr.cutOne w i).u.state j = if j = i then 2 else w.u.state j :=
  state_setState w.u i 2 j hi

theorem PwrCut.cutOne {u : Pwr} {w : W Pwr} (h : PwrCut u w.u) {i : Nat} (hi : pwrClass i ≠ 0) (h1 : u.state i = 1) :
    PwrCut u (Pwr.cutOne w i).u where
  rest := h.rest
  regs := fun k hk => (rget_rmod_ne _ _ hk).trans (h.regs k hk)
  state := fun j => by
    rw [state_cutOne w hi]
    split
    next hj => exact .inr ⟨hj ▸ h1, rfl⟩
    · exact h.state j

/-- One step of a cut: none while the total fits. -/
def cutStep (res : Nat → Nat) (w : W Pwr) (i : Nat) : W Pwr := if w.u.total res ≤ w.u.ceil then w else Pwr.cutOne w i

theorem cut_eq (res : Nat → Nat) (w : W Pwr) : Pwr.cut res w = (Pwr.cuttable w.u).foldl (cutStep res) w := rfl

section
variable {res : Nat → Nat} {w : W Pwr} {l : List Nat}

/-- Where the total fits, nothing more is cut. -/
theorem foldl_cutStep_fits (h : w.u.total res ≤ w.u.ceil) : l.foldl (cutStep res) w = w := by
  induction l with
  | nil => rfl
  | cons i l ih => rw [List.foldl_cons, cutStep, if_pos h, ih]

theorem foldl_cutStep_keeps {u : Pwr} (hu : ∀ i ∈ l, pwrClass i ≠ 0 ∧ u.state i = 1) (h : PwrCut u w.u) :
    PwrCut u (l.foldl (cutStep res) w).u := by
  refine foldl_keeps_mem (fun w : W Pwr => PwrCut u w.u) _ _ (fun w i hi hw => ?_) w h
  unfold cutStep
  split
  · exact hw
  · exact hw.cutOne (hu i hi).1 (hu i hi).2

/-- A grant cut stays cut. -/
theorem foldl_cutStep_cut {i : Nat} (hl : ∀ j ∈ l, pwrClass j ≠ 0) (h : w.u.state i = 2) : (l.foldl (cutStep res) w).u.state i = 2 := by
  refine foldl_keeps_mem (fun w : W Pwr => w.u.state i = 2) _ _ (fun w j hj hw => ?_) w h
  unfold cutStep
  split
  · exact hw
  · rw [state_cutOne w (hl j hj)]
    split
    · rfl
    · exact hw

/-- The cuts go on until the total fits or nothing is left to cut. -/
theorem foldl_cutStep_total (hl : ∀ j ∈ l, pwrClass j ≠ 0) :
    (l.foldl (cutStep res) w).u.total res ≤ (l.foldl (cutStep res) w).u.ceil ∨ ∀ i ∈ l, (l.foldl (cutStep res) w).u.state i = 2 := by
  induction l generalizing w with
  | nil => exact .inr fun i hi => absurd hi List.not_mem_nil
  | cons i l ih =>
    have hrest : ∀ j ∈ l, pwrClass j ≠ 0 := fun j hj => hl j (List.mem_cons_of_mem _ hj)
    by_cases h : w.u.total res ≤ w.u.ceil
    · rw [foldl_cutStep_fits h]
      exact .inl h
    · rw [List.foldl_cons, cutStep, if_neg h]
      refine (ih hrest).imp_right fun hcut j hj => ?_
      obtain rfl | hj := List.mem_cons.mp hj
      · exact foldl_cutStep_cut hrest ((state_cutOne w (hl j List.mem_cons_self) j).trans (if_pos rfl))
      · exact hcut j hj

/-- What is cut comes before what is not. -/
theorem foldl_cutStep_order {R : Nat → Nat → Prop} (hp : l.Pairwise R) (hl : ∀ k ∈ l, pwrClass k ≠ 0) {i j : Nat} (hi : i ∈ l) (hj : j ∈ l)
    (hwi : w.u.state i = 1) (hci : (l.foldl (cutStep res) w).u.state i = 2) (hcj : (l.foldl (cutStep res) w).u.state j = 1) : R i j := by
  induction l generalizing w with
  | nil => exact absurd hi List.not_mem_nil
  | cons k l ih =>
    obtain ⟨hk, hp⟩ := List.pairwise_cons.mp hp
    have hrest : ∀ j ∈ l, pwrClass j ≠ 0 := fun j hj => hl j (List.mem_cons_of_mem _ hj)
    by_cases h : w.u.total res ≤ w.u.ceil
    · rw [foldl_cutStep_fits h] at hci
      exact absurd (hwi.symm.trans hci) (by decide)
    · rw [List.foldl_cons, cutStep, if_neg h] at hci hcj
      have hstate := state_cutOne w (hl k List.mem_cons_self)
      have hjl : j ∈ l := by
        refine (List.mem_cons.mp hj).resolve_left fun e => ?_
        have hcut := foldl_cutStep_cut (res := res) hrest ((hstate j).trans (if_pos e))
        exact absurd (hcut.symm.trans hcj) (by decide)
      by_cases hik : i = k
      · exact hik ▸ hk j hjl
      · exact ih hp hrest ((List.mem_cons.mp hi).resolve_left hik) hjl ((hstate i).trans (if_neg hik) |>.trans hwi) hci hcj

end

end Sys2Proof.Proofs
end

section
/-! The supply and the budget arbiter (R389–R397): samples, the ceiling, decisions, the warning and its end. -/

namespace Sys2Proof.Proofs

open Sys2Proof Sys2Proof.Machine

-- One proof after another: many at once wait for the kernel in threads of their own, which the check's memory limit does not hold.
set_option Elab.async false

/-! ## The ceiling (R390) -/

theorem target_le (u : Pwr) : u.target ≤ 1300 := (Nat.min_le_left _ _).trans (Nat.min_le_left _ _)

theorem ceil_rset (u : Pwr) {n : Nat} (h : n < 2048) : ({ u with regs := rset u.regs Reg.PWR_CEIL (wd n) } : Pwr).ceil = n := by
  unfold Pwr.ceil rfld
  dsimp only
  rw [rget_rset, if_pos rfl]
  exact bits_wd_low h (by decide)

theorem floorCheck_u (res : Nat → Nat) (w : W Pwr) :
    (Pwr.floorCheck res w).u = { w.u with below := decide (w.u.ceil < pwrFloor res) } := by
  unfold Pwr.floorCheck W.when
  dsimp only
  split
  · rfl
  · rfl

/-- A ceiling that falls takes effect at once, and cuts (R390, R393). -/
theorem adjust_fall (res : Nat → Nat) (now : Nat) {w : W Pwr} (h : w.u.target < w.u.ceil) :
    (Pwr.adjust res now w).u = (Pwr.floorCheck res (Pwr.cut res (w.map (fun _ =>
      { w.u with rise := none, regs := rset w.u.regs Reg.PWR_CEIL (wd w.u.target) })))).u :=
  congrArg W.u (if_pos h)

theorem adjust_same (res : Nat → Nat) (now : Nat) {w : W Pwr} (h : w.u.target = w.u.ceil) :
    (Pwr.adjust res now w).u = { w.u with rise := none, below := decide (w.u.ceil < pwrFloor res) } := by
  unfold Pwr.adjust
  dsimp only
  rw [if_neg (by omega), if_pos h, floorCheck_u]
  rfl

/-- Since when the target has been above the ceiling: noted anew when it changes. -/
def Pwr.risen (now : Nat) (u : Pwr) : Nat × Nat :=
  match u.rise with
  | some (v, since) => if v = u.target then (v, since) else (u.target, now)
  | none => (u.target, now)

theorem adjust_rise (res : Nat → Nat) (now : Nat) {w : W Pwr} (h : w.u.ceil < w.u.target) :
    (Pwr.adjust res now w).u = { w.u with rise := some (Pwr.risen now w.u), below := decide (w.u.ceil < pwrFloor res) } := by
  unfold Pwr.adjust
  dsimp only
  rw [if_neg (by omega), if_neg (by omega), floorCheck_u]
  rfl

theorem risen_kept {now since : Nat} {u : Pwr} (h : u.rise = some (u.target, since)) : Pwr.risen now u = (u.target, since) := by
  unfold Pwr.risen
  rw [h]
  exact if_pos rfl

theorem risen_anew {now : Nat} {u : Pwr} (h : ∀ since, u.rise ≠ some (u.target, since)) : Pwr.risen now u = (u.target, now) := by
  unfold Pwr.risen
  split
  next v since hr => exact if_neg fun hv => h since (by rw [hr, hv])
  · rfl

/-! ## A sample (R389, R390) -/

/-- PWR after a sample, before the ceiling follows it. -/
def Pwr.sampled (now mv : Nat) (u : Pwr) : Pwr :=
  let keep := (now, mv) :: u.samples.filter (fun x => decide (now < x.1 + 1000000))
  { u with
    samples := keep
    regs := rmod (rset u.regs Reg.PWR_VIN (wd (min ((keep.map (·.2)).foldl min mv) 65535))) Reg.PWR_STAT (fun x => putBit x 5 (decide (48000 < mv)))
    lowAt := holdsSince (decide (mv < rfld u.regs Reg.PWR_WARN 12 0)) now u.lowAt
    upAt := holdsSince (decide (6000 < mv) && !u.cutOff) now u.upAt
    overAt := holdsSince (decide (48000 < mv)) now u.overAt
    okAt := holdsSince (!decide (48000 < mv)) now u.okAt }

/-- The lowest of the samples of the last millisecond, as PWR_VIN holds it. -/
def Pwr.lowest (now mv : Nat) (u : Pwr) : Nat :=
  min ((((now, mv) :: u.samples.filter (fun x => decide (now < x.1 + 1000000))).map (·.2)).foldl min mv) 65535

section
variable (res : Nat → Nat) (now mv : Nat) (u : Pwr)

/-- A sample is the state after it and the ceiling that follows. -/
theorem sample_eq : ∃ w : W Pwr, w.u = Pwr.sampled now mv u ∧ w.st = [] ∧ u.sample res now mv = Pwr.adjust res now w := by
  refine ⟨(W.of (Pwr.sampled now mv u)).when (decide (48000 < mv) && !rbit u.regs Reg.PWR_STAT 5)
    (fun w => (w.evt Pg.PWR 4).code Pg.PWR 0x1157 []), ?_, ?_, rfl⟩
  · unfold W.when
    split
    · rfl
    · rfl
  · unfold W.when
    split
    · rfl
    · rfl

theorem vin_sampled : rget (Pwr.sampled now mv u).regs Reg.PWR_VIN = wd (Pwr.lowest now mv u) := by
  unfold Pwr.sampled Pwr.lowest
  dsimp only
  rw [rget_rmod_ne _ _ (by decide), rget_rset, if_pos rfl]

theorem above_sampled : rbit (Pwr.sampled now mv u).regs Reg.PWR_STAT 5 = decide (48000 < mv) := by
  unfold Pwr.sampled rbit
  dsimp only
  rw [rget_rmod, if_pos rfl, bit_putBit _ _ _ (by decide), if_pos rfl]

theorem regs_sampled {k : Nat} (h1 : k ≠ Reg.PWR_VIN) (h2 : k ≠ Reg.PWR_STAT) :
    rget (Pwr.sampled now mv u).regs k = rget u.regs k := by
  unfold Pwr.sampled
  dsimp only
  rw [rget_rmod_ne _ _ h2, rget_rset, if_neg h1]

theorem ceil_sampled : (Pwr.sampled now mv u).ceil = u.ceil := congrArg (bits · 10 0) (regs_sampled now mv u (by decide) (by decide))

theorem limit_sampled : (Pwr.sampled now mv u).limit = u.limit := by
  unfold Pwr.limit rfld
  rw [regs_sampled now mv u (by decide) (by decide)]

theorem target_sampled : (Pwr.sampled now mv u).target = min (min 1300 (15 * Pwr.lowest now mv u / 100)) u.limit := by
  have hlow : Pwr.lowest now mv u < 2 ^ 16 := Nat.lt_succ_of_le (Nat.min_le_right _ _)
  unfold Pwr.target rfld
  rw [vin_sampled, limit_sampled, bits_wd_low hlow (by decide)]

end

/-! ## CEILING_RISE (R390) -/

theorem ceilingRise_taken (res : Nat → Nat) {now v since : Nat} {u : Pwr} (h : u.rise = some (v, since)) (ht : 1000000000 ≤ now - since) :
    u.ceilingRise res now = Pwr.floorCheck res (W.of { u with rise := none, regs := rset u.regs Reg.PWR_CEIL (wd v) }) := by
  unfold Pwr.ceilingRise
  rw [h]
  exact if_pos ht

theorem ceilingRise_early (res : Nat → Nat) {now v since : Nat} {u : Pwr} (h : u.rise = some (v, since)) (ht : now - since < 1000000000) :
    u.ceilingRise res now = W.of u := by
  unfold Pwr.ceilingRise
  rw [h]
  exact if_neg (by omega)

theorem ceilingRise_none (res : Nat → Nat) {now : Nat} {u : Pwr} (h : u.rise = none) : u.ceilingRise res now = W.of u := by
  unfold Pwr.ceilingRise
  rw [h]

/-- A happening of PWR while its island runs. -/
theorem pwrDoes_up {s : State} (h : s.pageUp Pg.PWR = true) (f : (Nat → Nat) → Nat → Pwr → W Pwr) :
    s.pwrDoes f = s.onPower (f s.res s.now) := if_pos h

/-- The registers after the ceiling has followed. -/
theorem rise_adjust (res : Nat → Nat) (now : Nat) (w : W Pwr) : (Pwr.adjust res now w).u.ceil = min w.u.target w.u.ceil ∧
    (w.u.target ≤ w.u.ceil → (Pwr.adjust res now w).u.rise = none) ∧
    (w.u.ceil < w.u.target → (Pwr.adjust res now w).u.rise = some (Pwr.risen now w.u)) := by
  obtain h | h | h := Nat.lt_trichotomy w.u.target w.u.ceil
  · have hcut := foldl_cutStep_keeps (res := res) (w := w.map (fun _ =>
        { w.u with rise := none, regs := rset w.u.regs Reg.PWR_CEIL (wd w.u.target) })) (l := Pwr.cuttable _)
      (fun i hi => (mem_cuttable.mp hi).2) (PwrCut.refl _)
    rw [adjust_fall res now h, floorCheck_u, cut_eq]
    refine ⟨hcut.ceil.trans ?_, fun _ => congrArg Pwr.rise hcut.rest, fun hgt => absurd hgt (by omega)⟩
    exact (ceil_rset { w.u with rise := none } (by have := target_le w.u; omega)).trans (Nat.min_eq_left h.le).symm
  · rw [adjust_same res now h]
    exact ⟨by show w.u.ceil = _; omega, fun _ => rfl, fun hgt => absurd hgt (by omega)⟩
  · rw [adjust_rise res now h]
    exact ⟨(Nat.min_eq_right h.le).symm, fun hle => absurd hle (by omega), fun _ => rfl⟩

/-- Settles O48: the target of the sample taken, and the cases of `Pwr.adjust`. -/
theorem ceilingFollowsTheSupply : Obligations.CeilingFollowsTheSupply := by
  unfold Obligations.CeilingFollowsTheSupply
  refine ⟨fun a mV V lim tgt s hup hV hV16 hlim htgt => ⟨_, rfl, ?_⟩, fun a v since s hup hr => ⟨_, rfl, ?_⟩, rfl, rfl⟩
  · rw [pwrDoes_up (s := s.at_ a) hup, onPower_pwr]
    obtain ⟨w, hw, _, he⟩ := sample_eq (s.at_ a).res (s.at_ a).now mV s.pwr
    have htarget : w.u.target = tgt := by
      have hlow : Pwr.lowest (s.at_ a).now mV s.pwr = V := by
        unfold Pwr.lowest
        rw [← hV]
        omega
      rw [hw, target_sampled, hlow, htgt, hlim]
      rfl
    have hceil : w.u.ceil = s.pwr.ceil := by rw [hw, ceil_sampled]
    have hrise : w.u.rise = s.pwr.rise := by rw [hw]; rfl
    obtain ⟨h1, h2, h3⟩ := rise_adjust (s.at_ a).res (s.at_ a).now w
    rw [htarget, hceil] at h1 h2 h3
    have hpwr : (s.at_ a).pwr = s.pwr := rfl
    rw [hpwr, he]
    refine ⟨h1, h2, fun hlt since => ⟨fun hs => ?_, fun hs => ?_⟩⟩
    · rw [h3 hlt, risen_kept (since := since) (by rw [hrise, htarget]; exact hs), htarget]
    · rw [h3 hlt, risen_anew (by rw [hrise, htarget]; exact hs), htarget]
  · rw [pwrDoes_up (s := s.at_ a) hup, onPower_pwr]
    have hr' : (s.at_ a).pwr.rise = some (v, since) := hr
    split
    next ht =>
      rw [ceilingRise_taken _ hr' ht, floorCheck_u]
      exact (rget_rset _ _ _ _).trans (if_pos rfl)
    next ht =>
      rw [ceilingRise_early _ hr' (by omega)]
      rfl

end Sys2Proof.Proofs
end

section
/-! Decisions of the budget arbiter (R395, R396): a grant is made only where it fits, none is taken away, and every active requester is
answered. -/

namespace Sys2Proof.Proofs

open Sys2Proof Sys2Proof.Machine

-- One proof after another: many at once wait for the kernel in threads of their own, which the check's memory limit does not hold.
set_option Elab.async false

/-! ## The drams granted -/

theorem pwrSum_eq (res : Nat → Nat) (l : List Nat) : pwrSum res l = (l.map (pwrAmount res)).sum := by
  unfold pwrSum
  rw [List.sum_eq_foldl]

/-- Fewer requesters take no more drams. -/
theorem pwrSum_filter_mono (res : Nat → Nat) {p q : Nat → Bool} (h : ∀ j, q j = true → p j = true) (l : List Nat) :
    pwrSum res (l.filter q) ≤ pwrSum res (l.filter p) := by
  rw [pwrSum_eq, pwrSum_eq]
  exact ((List.monotone_filter_right l h).map (pwrAmount res)).sum_le_sum (fun _ _ => Nat.zero_le _)

/-- One requester more takes at most its own amount more. -/
theorem pwrSum_filter_add (res : Nat → Nat) {p q : Nat → Bool} {i : Nat} (h : ∀ j, j ≠ i → q j = p j) {l : List Nat} (hl : l.Nodup) :
    pwrSum res (l.filter q) ≤ pwrSum res (l.filter p) + pwrAmount res i := by
  rw [pwrSum_eq, pwrSum_eq]
  induction l with
  | nil => exact Nat.zero_le _
  | cons j l ih =>
    obtain ⟨hj, hl⟩ := List.nodup_cons.mp hl
    by_cases hji : j = i
    · have hsame : l.filter q = l.filter p := List.filter_congr fun k hk => h k fun e => hj (by rw [hji, ← e]; exact hk)
      rw [List.filter_cons, List.filter_cons, hsame, hji]
      have hsum : ∀ l' : List Nat, ((i :: l').map (pwrAmount res)).sum = pwrAmount res i + (l'.map (pwrAmount res)).sum := fun _ => rfl
      split <;> split <;> (try rw [hsum]) <;> omega
    · have hih := ih hl
      rw [List.filter_cons, List.filter_cons, h j hji]
      split
      · simp only [List.map_cons, List.sum_cons]
        omega
      · exact hih

section
variable (res : Nat → Nat) (u : Pwr) {i : Nat} (hi : pwrClass i ≠ 0)
include hi

theorem total_grant : (u.setState i 1).total res ≤ u.total res + pwrAmount res i := by
  refine pwrSum_filter_add res (fun j hj => ?_) (List.nodup_range)
  unfold Pwr.granted
  rw [state_setState u i 1 j hi, if_neg hj]

theorem total_wait {v : Nat} (hv : v ≠ 1) : (u.setState i v).total res ≤ u.total res := by
  refine pwrSum_filter_mono res (fun j hj => ?_) _
  unfold Pwr.granted at hj ⊢
  rw [state_setState u i v j hi] at hj
  split at hj
  · exact absurd (beq_iff_eq.mp hj) hv
  · exact hj

end

/-! ## One request -/

/-- What the steps of a decision keep of PWR: the registers, the number of the decision, what fits, and that nothing is stored. -/
structure Decides (res : Nat → Nat) (u : Pwr) (w : W Pwr) : Prop where
  regs : w.u.regs = u.regs
  decisions : w.u.decisions = u.decisions
  fits : u.total res ≤ u.ceil → w.u.total res ≤ w.u.ceil
  st : w.st = []

section
variable {res : Nat → Nat} {u : Pwr} {w : W Pwr} {i : Nat}

theorem ceil_of_regs {u v : Pwr} (h : v.regs = u.regs) : v.ceil = u.ceil := by
  unfold Pwr.ceil
  rw [h]

theorem Decides.of (res : Nat → Nat) (u : Pwr) : Decides res u (W.of u) := ⟨rfl, rfl, id, rfl⟩

/-- A state set, with the number of what fits. -/
theorem Decides.set (h : Decides res u w) (hi : pwrClass i ≠ 0) {v : Nat} (l : List (Nat × Nat)) (fx : Fx)
    (hv : v = 1 → w.u.total res + pwrAmount res i ≤ w.u.ceil) : Decides res u ⟨{ w.u.setState i v with waits := l }, fx, w.st⟩ where
  regs := h.regs
  decisions := h.decisions
  fits := fun hu => by
    show (w.u.setState i v).total res ≤ w.u.ceil
    by_cases h1 : v = 1
    · exact h1 ▸ (total_grant res w.u hi).trans (hv h1)
    · exact (total_wait res w.u hi h1).trans (h.fits hu)
  st := h.st

theorem Decides.grant (h : Decides res u w) (restore : Bool) (hi : pwrClass i ≠ 0) (hfit : w.u.total res + pwrAmount res i ≤ w.u.ceil) :
    Decides res u (Pwr.grant restore w i) := by
  unfold Pwr.grant W.when
  dsimp only
  split
  · exact h.set hi _ _ (fun _ => hfit)
  · exact h.set hi _ _ (fun _ => hfit)

theorem Decides.consider (h : Decides res u w) (hi : pwrClass i ≠ 0) : Decides res u (Pwr.consider res w i) := by
  unfold Pwr.consider
  split
  next hfit => exact h.grant false hi hfit
  split
  · exact h
  · exact h.set hi _ _ (fun h31 => absurd h31 (by decide))

/-- A grant makes one requester's state 1 and leaves the others'. -/
theorem state_grant (restore : Bool) (w : W Pwr) (hi : pwrClass i ≠ 0) (j : Nat) :
    (Pwr.grant restore w i).u.state j = if j = i then 1 else w.u.state j := by
  unfold Pwr.grant W.when
  dsimp only
  split
  · exact state_setState w.u i 1 j hi
  · exact state_setState w.u i 1 j hi

/-- A request considered leaves the other requesters' states. -/
theorem state_consider_ne (hi : pwrClass i ≠ 0) {j : Nat} (hj : j ≠ i) : (Pwr.consider res w i).u.state j = w.u.state j := by
  unfold Pwr.consider
  split
  · rw [state_grant false w hi, if_neg hj]
  split
  · rfl
  · exact (state_setState w.u i 3 j hi).trans (if_neg hj)

/-- A request considered is granted or waits. -/
theorem state_consider_self (hi : pwrClass i ≠ 0) : (Pwr.consider res w i).u.state i = 1 ∨ (Pwr.consider res w i).u.state i = 3 := by
  unfold Pwr.consider
  split
  · exact .inl ((state_grant false w hi i).trans (if_pos rfl))
  split
  next h3 => exact .inr h3
  · exact .inr ((state_setState w.u i 3 i hi).trans (if_pos rfl))

/-! ## Several requests -/

theorem Decides.considers {l : List Nat} (hl : ∀ j ∈ l, pwrClass j ≠ 0) (h : Decides res u w) :
    Decides res u (l.foldl (Pwr.consider res) w) :=
  foldl_keeps_mem (Decides res u) _ _ (fun _ j hj hw => hw.consider (hl j hj)) _ h

theorem state_considers_ne {l : List Nat} (hl : ∀ j ∈ l, pwrClass j ≠ 0) {k : Nat} (hk : k ∉ l) :
    (l.foldl (Pwr.consider res) w).u.state k = w.u.state k :=
  foldl_keeps_mem (fun x : W Pwr => x.u.state k = w.u.state k) _ _
    (fun _ j hj hx => (state_consider_ne (hl j hj) (fun e => hk (by rw [e]; exact hj))).trans hx) _ rfl

/-- Every request of the list is answered. -/
theorem state_considers_mem {l : List Nat} (hl : ∀ j ∈ l, pwrClass j ≠ 0) {k : Nat} (hk : k ∈ l) :
    (l.foldl (Pwr.consider res) w).u.state k = 1 ∨ (l.foldl (Pwr.consider res) w).u.state k = 3 := by
  induction l generalizing w with
  | nil => exact absurd hk List.not_mem_nil
  | cons j l ih =>
    have hrest : ∀ j ∈ l, pwrClass j ≠ 0 := fun j hj => hl j (List.mem_cons_of_mem _ hj)
    rw [List.foldl_cons]
    by_cases hkl : k ∈ l
    · exact ih hrest hkl
    · obtain rfl := (List.mem_cons.mp hk).resolve_right hkl
      rw [state_considers_ne hrest hkl]
      exact state_consider_self (hl k List.mem_cons_self)

/-- The order of R26 keeps the requests. -/
theorem mem_tieOrder {n token k : Nat} {l : List Nat} : k ∈ (tieOrder n token l).1 ↔ k ∈ l := by
  unfold tieOrder
  simp only [List.mem_append, List.mem_filter, decide_eq_true_eq]
  rw [← and_or_left, and_iff_left_iff_imp]
  exact fun _ => le_or_gt token k

/-- Equal requests are one list considered in an order. -/
theorem considerAll_eq (res : Nat → Nat) (w : W Pwr) (l : List Nat) : ∃ (o : List Nat) (n : Nat), (∀ k, k ∈ o ↔ k ∈ l) ∧
    Pwr.considerAll res w l = o.foldl (Pwr.consider res) (w.map (fun u => { u with token := n })) := by
  unfold Pwr.considerAll
  split
  · exact ⟨l, w.u.token, fun _ => Iff.rfl, rfl⟩
  · exact ⟨_, _, fun _ => mem_tieOrder, rfl⟩

theorem Decides.token (h : Decides res u w) (n : Nat) : Decides res u (w.map (fun u => { u with token := n })) := ⟨h.regs, h.decisions, h.fits, h.st⟩

theorem Decides.considerAll {l : List Nat} (hl : ∀ j ∈ l, pwrClass j ≠ 0) (h : Decides res u w) : Decides res u (Pwr.considerAll res w l) := by
  obtain ⟨o, n, ho, he⟩ := considerAll_eq res w l
  rw [he]
  exact (h.token n).considers fun j hj => hl j ((ho j).mp hj)

theorem state_considerAll_ne {l : List Nat} (hl : ∀ j ∈ l, pwrClass j ≠ 0) {k : Nat} (hk : k ∉ l) :
    (Pwr.considerAll res w l).u.state k = w.u.state k := by
  obtain ⟨o, n, ho, he⟩ := considerAll_eq res w l
  rw [he]
  exact state_considers_ne (fun j hj => hl j ((ho j).mp hj)) fun hk' => hk ((ho k).mp hk')

theorem state_considerAll_mem {l : List Nat} (hl : ∀ j ∈ l, pwrClass j ≠ 0) {k : Nat} (hk : k ∈ l) :
    (Pwr.considerAll res w l).u.state k = 1 ∨ (Pwr.considerAll res w l).u.state k = 3 := by
  obtain ⟨o, n, ho, he⟩ := considerAll_eq res w l
  rw [he]
  exact state_considers_mem (fun j hj => hl j ((ho j).mp hj)) ((ho k).mpr hk)

/-! ## The requests of a class -/

/-- The groups of waiting requests of a class, by the decision at which they began to wait. -/
def Pwr.waitingGroups (u : Pwr) (cls : Nat) : List (List Nat) :=
  ((upto u.decisions).map (fun d => (pwrAll.filter (fun i => pwrClass i == cls && u.state i == 3)).filter
    (fun i => sget (fun _ => 0) u.waits i == d))).filter (· != [])

/-- The new requests of a class. -/
def Pwr.newRequests (act : List Nat) (u : Pwr) (cls : Nat) : List Nat := act.filter (fun i => pwrClass i == cls && u.state i == 0)

theorem requests_eq (res : Nat → Nat) (act : List Nat) (w : W Pwr) (cls : Nat) : Pwr.requests res act w cls =
    Pwr.considerAll res ((Pwr.waitingGroups w.u cls).foldl (Pwr.considerAll res) w) (Pwr.newRequests act w.u cls) := by
  unfold Pwr.requests
  exact List.foldl_append.trans rfl

theorem mem_waitingGroups {u : Pwr} {cls k : Nat} {g : List Nat} (hg : g ∈ Pwr.waitingGroups u cls) (hk : k ∈ g) :
    pwrClass k = cls ∧ u.state k = 3 := by
  obtain ⟨hg, _⟩ := List.mem_filter.mp hg
  obtain ⟨d, _, rfl⟩ := List.mem_map.mp hg
  obtain ⟨hk, _⟩ := List.mem_filter.mp hk
  obtain ⟨_, hk⟩ := List.mem_filter.mp hk
  simpa using hk

theorem mem_newRequests {act : List Nat} {u : Pwr} {cls k : Nat} :
    k ∈ Pwr.newRequests act u cls ↔ k ∈ act ∧ pwrClass k = cls ∧ u.state k = 0 := by
  unfold Pwr.newRequests
  simp

section
variable {act : List Nat} {cls : Nat} (hcls : cls ≠ 0)
include hcls

theorem Decides.requests (h : Decides res u w) : Decides res u (Pwr.requests res act w cls) := by
  rw [requests_eq]
  refine Decides.considerAll (fun j hj => (mem_newRequests.mp hj).2.1 ▸ hcls) ?_
  exact foldl_keeps_mem (Decides res u) _ _ (fun _ g hg hx => hx.considerAll fun j hj => (mem_waitingGroups hg hj).1 ▸ hcls) _ h

theorem state_waiting_ne {k : Nat} (hk : pwrClass k ≠ cls ∨ w.u.state k ≠ 3) :
    ((Pwr.waitingGroups w.u cls).foldl (Pwr.considerAll res) w).u.state k = w.u.state k :=
  foldl_keeps_mem (fun x : W Pwr => x.u.state k = w.u.state k) _ _ (fun _ g hg hx =>
    (state_considerAll_ne (fun j hj => (mem_waitingGroups hg hj).1 ▸ hcls) (fun hkg => by
      obtain ⟨hc, h3⟩ := mem_waitingGroups hg hkg
      exact hk.elim (· hc) (· h3))).trans hx) _ rfl

/-- A requester of another class, or one that neither waits nor is idle, keeps its state. -/
theorem state_requests_ne {k : Nat} (hk : pwrClass k ≠ cls ∨ w.u.state k = 1) :
    (Pwr.requests res act w cls).u.state k = w.u.state k := by
  rw [requests_eq, state_considerAll_ne (fun j hj => (mem_newRequests.mp hj).2.1 ▸ hcls), state_waiting_ne hcls]
  · exact hk.imp_right fun h h3 => absurd (h.symm.trans h3) (by decide)
  · intro hkn
    obtain ⟨_, hc, h0⟩ := mem_newRequests.mp hkn
    exact hk.elim (· hc) fun h => absurd (h.symm.trans h0) (by decide)

/-- An active requester of the class that was idle is answered. -/
theorem state_requests_new {k : Nat} (hk : k ∈ act) (hc : pwrClass k = cls) (h0 : w.u.state k = 0) :
    (Pwr.requests res act w cls).u.state k = 1 ∨ (Pwr.requests res act w cls).u.state k = 3 := by
  rw [requests_eq]
  exact state_considerAll_mem (fun j hj => (mem_newRequests.mp hj).2.1 ▸ hcls) (mem_newRequests.mpr ⟨hk, hc, h0⟩)

end

/-! ## Restorations and the decision -/

theorem Decides.restore {l : List Nat} (hl : ∀ j ∈ l, pwrClass j ≠ 0) (h : Decides res u w) : Decides res u (Pwr.restore res l w).1 := by
  induction l generalizing w with
  | nil => exact h
  | cons i l ih =>
    unfold Pwr.restore
    split
    next hfit => exact ih (fun j hj => hl j (List.mem_cons_of_mem _ hj)) (h.grant true (hl i List.mem_cons_self) hfit)
    · exact h

theorem state_restore {l : List Nat} (hl : ∀ j ∈ l, pwrClass j ≠ 0) {k : Nat} (hk : k ∉ l ∨ w.u.state k = 1) :
    (Pwr.restore res l w).1.u.state k = w.u.state k := by
  induction l generalizing w with
  | nil => rfl
  | cons i l ih =>
    unfold Pwr.restore
    split
    · have hgrant := state_grant true w (hl i List.mem_cons_self) k
      have hsame : (Pwr.grant true w i).u.state k = w.u.state k := by
        rw [hgrant]
        split
        next hki => exact (hk.resolve_left fun h => h (hki ▸ List.mem_cons_self)).symm
        · rfl
      rw [ih (fun j hj => hl j (List.mem_cons_of_mem _ hj)) (hk.imp (fun h hkl => h (List.mem_cons_of_mem _ hkl)) hsame.trans), hsame]
    · rfl

/-- The restorations of a class leave every requester that holds a grant or is idle. -/
theorem state_restore_held {cls : Nat} (hcls : cls ≠ 0) {k : Nat} (hk : w.u.state k ≠ 2) :
    (Pwr.restore res (w.u.held cls 2).reverse w).1.u.state k = w.u.state k :=
  state_restore (fun _ hj => (mem_held.mp (List.mem_reverse.mp hj)).2.1 ▸ hcls)
    (.inl fun hkl => hk (mem_held.mp (List.mem_reverse.mp hkl)).2.2)

theorem Decides.restoreHeld {cls : Nat} (hcls : cls ≠ 0) (h : Decides res u w) : Decides res u (Pwr.restore res (w.u.held cls 2).reverse w).1 :=
  h.restore fun _ hj => (mem_held.mp (List.mem_reverse.mp hj)).2.1 ▸ hcls

/-- The restorations of a decision: class 1, then class 2 unless one did not fit. -/
def Pwr.restored (res : Nat → Nat) (u : Pwr) : W Pwr :=
  let r1 := Pwr.restore res (u.held 1 2).reverse (W.of u)
  (if r1.2 then r1 else Pwr.restore res (r1.1.u.held 2 2).reverse r1.1).1

theorem decision_eq {u : Pwr} (h : u.warn = false) (res : Nat → Nat) (act : List Nat) : u.decision res act =
    Pwr.requests res act (Pwr.requests res act (Pwr.restored res { u with decisions := u.decisions + 1 }) 1) 2 := by
  unfold Pwr.decision Pwr.restored
  rw [if_neg (by rw [h]; decide)]
  simp only [List.foldl_cons, List.foldl_nil]

theorem Decides.restored (res : Nat → Nat) (u : Pwr) : Decides res u (Pwr.restored res u) := by
  have h1 : Decides res u (Pwr.restore res (u.held 1 2).reverse (W.of u)).1 := (Decides.of res u).restoreHeld (by decide)
  unfold Pwr.restored
  dsimp only
  split
  · exact h1
  · exact h1.restoreHeld (by decide)

theorem state_restored (res : Nat → Nat) {u : Pwr} {k : Nat} (hk : u.state k ≠ 2) : (Pwr.restored res u).u.state k = u.state k := by
  have h1 : (Pwr.restore res (u.held 1 2).reverse (W.of u)).1.u.state k = u.state k := state_restore_held (w := W.of u) (by decide) hk
  unfold Pwr.restored
  dsimp only
  split
  · exact h1
  · rw [state_restore_held (by decide) (by rw [h1]; exact hk), h1]

section
variable {act : List Nat} (hwarn : u.warn = false)
include hwarn

theorem decides_decision : Decides res { u with decisions := u.decisions + 1 } (u.decision res act) := by
  have h0 := Decides.restored res { u with decisions := u.decisions + 1 }
  rw [decision_eq hwarn]
  exact (h0.requests (cls := 1) (by decide)).requests (cls := 2) (by decide)

/-- A decision takes no grant away. -/
theorem state_decision_granted {k : Nat} (h : u.state k = 1) : (u.decision res act).u.state k = 1 := by
  have h0 : (Pwr.restored res { u with decisions := u.decisions + 1 }).u.state k = 1 :=
    (state_restored res (u := { u with decisions := u.decisions + 1 }) (fun h2 => absurd (h.symm.trans h2) (by decide))).trans h
  have h1 := (state_requests_ne (res := res) (act := act) (cls := 1) (by decide) (.inr h0)).trans h0
  rw [decision_eq hwarn]
  exact (state_requests_ne (by decide) (.inr h1)).trans h1

/-- A decision answers every active requester that was idle. -/
theorem state_decision_answered {k : Nat} (hk : k ∈ act) (h : u.state k = 0) :
    (u.decision res act).u.state k = 1 ∨ (u.decision res act).u.state k = 3 := by
  have h0 : (Pwr.restored res { u with decisions := u.decisions + 1 }).u.state k = 0 :=
    (state_restored res (u := { u with decisions := u.decisions + 1 }) (fun h2 => absurd (h.symm.trans h2) (by decide))).trans h
  have hclass : pwrClass k = 0 ∨ pwrClass k = 1 ∨ pwrClass k = 2 := by
    unfold pwrClass
    split
    · exact .inr (.inl rfl)
    · split
      · exact .inr (.inr rfl)
      · exact .inl rfl
  rw [decision_eq hwarn]
  obtain hc | hc | hc := hclass
  · unfold Pwr.state at h
    rw [if_pos hc] at h
    exact absurd h (by decide)
  · rw [state_requests_ne (by decide) (.inl (by rw [hc]; decide))]
    exact state_requests_new (by decide) hk hc h0
  · exact state_requests_new (by decide) hk hc
      ((state_requests_ne (by decide) (.inl (by rw [hc]; decide))).trans h0)

end

end

end Sys2Proof.Proofs
end

section
/-! The commands of the supply and of the budget arbiter (R389–R397, R404). -/

namespace Sys2Proof.Proofs

open Sys2Proof Sys2Proof.Machine

-- One proof after another: many at once wait for the kernel in threads of their own, which the check's memory limit does not hold.
set_option Elab.async false

/-! ## What PWR's work leaves of memory, of the codes and of the rest -/

section
variable {f : Pwr → W Pwr} {s : State}

theorem byte_onPwr (hst : (f s.pwr).st = []) (x : Nat) : (s.onPwr f).mem.byte x = s.mem.byte x := by
  unfold State.onPwr
  dsimp only
  rw [(rates_inner _).mem, bytes_commit, hst]
  rfl

theorem byte_onPower (hst : (f s.pwr).st = []) (x : Nat) : (s.onPower f).mem.byte x = s.mem.byte x := by
  have hput : ∀ (l : List Run) (y : State), (State.updateCut l y).mem = (y.onFus Fus.cut).mem := fun l y => by
    unfold State.updateCut
    dsimp only
  obtain ⟨heq, _⟩ | ⟨_, _, l, _, heq⟩ := onPower_cases f s
  · rw [heq, byte_onPwr hst]
  · rw [heq, hput, byte_onFus]
    exact byte_onPwr hst x

theorem errCode_onPwr {l : List Code} {c : Code} (hc : (f s.pwr).fx.codes = l ++ [c]) (hp : c.page = Pg.PWR) (hq : (f s.pwr).Quiet) :
    (s.onPwr f).errCode Pg.PWR = c.code % 0x10000 := by
  obtain ⟨h1, h2, h3⟩ := hq
  unfold State.onPwr
  dsimp only
  unfold State.errCode
  rw [rates_pageErr _ _ (.inl (by decide)) (by decide), ← hp]
  exact errCode_commit_last _ _ hc (by rw [hp]; decide) h1 h2 h3

/-- An UPDATE cut leaves PAGE_ERR of PWR. -/
theorem errCode_updateCut (l : List Run) (s : State) : (State.updateCut l s).errCode Pg.PWR = s.errCode Pg.PWR := by
  have hfus : s.onFus Fus.cut = ({ s with fus := s.fus.restore } : State).commit
      { Fx.none with codes := [⟨Pg.FUS0, 0x2516, [], false⟩], evts := [(Pg.FUS0, 0)] } [] := rfl
  have hput : ∀ (x : State) (q : Machine.Seq), ({ x with seq := q } : State).errCode Pg.PWR = x.errCode Pg.PWR := fun _ _ => rfl
  unfold State.updateCut
  rw [hput, hfus, errCode_commit_other _ _ _ (by decide) rfl rfl rfl rfl (by decide)]
  rfl

/-- PAGE_ERR of PWR after work whose last code is its own, whether or not an UPDATE is cut. -/
theorem errCode_onPower {l : List Code} {c : Code} (hc : (f s.pwr).fx.codes = l ++ [c]) (hp : c.page = Pg.PWR) (hq : (f s.pwr).Quiet) :
    (s.onPower f).errCode Pg.PWR = c.code % 0x10000 := by
  obtain ⟨heq, _⟩ | ⟨_, _, r, _, heq⟩ := onPower_cases f s
  · rw [heq]
    exact errCode_onPwr hc hp hq
  · rw [heq, errCode_updateCut, errCode_onPwr hc hp hq]

end

/-- What a command of PWR leaves of the rest: the shell but for an UPDATE cut, which takes a grant that requester 17 held, and every byte. -/
def PowerTail (s t : State) (a : At) : Prop :=
  t.shell = { (s.at_ a).shell with
    pwr := t.pwr
    fus := t.fus
    seq := t.seq } ∧
  ((s.pwr.state 17 = 2 ∨ s.pwr.state 17 = 3 ∨ t.pwr.state 17 ≠ 2) → t.fus = s.fus ∧ t.seq = s.seq) ∧ s.SameBytes t

theorem powerTail_at (a : At) (s : State) : PowerTail s (s.at_ a) a := ⟨rfl, fun _ => ⟨rfl, rfl⟩, fun _ => rfl⟩

theorem powerTail_onPower (a : At) (s : State) (f : Pwr → W Pwr) (hst : (f s.pwr).st = []) : PowerTail s ((s.at_ a).onPower f) a := by
  refine ⟨?_, fun h => ?_, fun x => byte_onPower (s := s.at_ a) hst x⟩
  · rw [onPower_pwr]
    exact shell_onPower f (s.at_ a)
  · rw [onPower_pwr] at h
    have hg : (s.at_ a).grant 17 = false ∨ (f (s.at_ a).pwr).u.state 17 ≠ 2 := by
      obtain h | h | h := h
      · exact .inl (by unfold State.grant; rw [show (s.at_ a).pwr.state 17 = 2 from h]; rfl)
      · exact .inl (by unfold State.grant; rw [show (s.at_ a).pwr.state 17 = 3 from h]; rfl)
      · exact .inr h
    rw [onPower_uncut f _ hg]
    exact ⟨onPwr_fus f _, onPwr_seq f _⟩

/-- What a warning asks of SUP and REC leaves the rest of a command of PWR. -/
theorem PowerTail.warned {a : At} {s t : State} (h : PowerTail s t a) : PowerTail s t.warned a := by
  obtain ⟨hshell, hupdate, hbytes⟩ := h
  have hw : t.warned.shell = t.shell ∧ t.warned.mem = t.mem := by
    unfold State.warned State.requestSave
    split
    · exact ⟨rfl, rfl⟩
    · exact ⟨rfl, rfl⟩
  refine ⟨?_, ?_, fun x => (congrArg (Mem.byte · x) hw.2).trans (hbytes x)⟩
  · rw [pwr_of_shell hw.1, fus_of_shell hw.1, seq_of_shell hw.1, hw.1]
    exact hshell
  · rw [pwr_of_shell hw.1, fus_of_shell hw.1, seq_of_shell hw.1]
    exact hupdate

/-! ## The work of PWR stores nothing -/

theorem st_cutOne (w : W Pwr) (i : Nat) : (Pwr.cutOne w i).st = w.st := rfl

theorem st_floorCheck (res : Nat → Nat) (w : W Pwr) : (Pwr.floorCheck res w).st = w.st := by
  unfold Pwr.floorCheck W.when
  dsimp only
  split
  · rfl
  · rfl

theorem st_cut (res : Nat → Nat) (w : W Pwr) : (Pwr.cut res w).st = w.st := by
  refine foldl_keeps (fun x : W Pwr => x.st = w.st) (cutStep res) (fun x i hx => ?_) _ _ rfl
  unfold cutStep
  split
  · exact hx
  · exact hx

theorem st_adjust (res : Nat → Nat) (now : Nat) (w : W Pwr) : (Pwr.adjust res now w).st = w.st := by
  unfold Pwr.adjust
  dsimp only
  split
  · exact (st_floorCheck _ _).trans (st_cut _ _)
  split
  · exact st_floorCheck _ _
  · exact st_floorCheck _ _

theorem st_sample (res : Nat → Nat) (now mv : Nat) (u : Pwr) : (u.sample res now mv).st = [] := by
  obtain ⟨w, _, hst, he⟩ := sample_eq res now mv u
  rw [he, st_adjust, hst]

theorem st_ceilingRise (res : Nat → Nat) (now : Nat) (u : Pwr) : (u.ceilingRise res now).st = [] := by
  unfold Pwr.ceilingRise
  split
  · split
    · exact st_floorCheck _ _
    · rfl
  · rfl

theorem st_decision (res : Nat → Nat) (act : List Nat) (u : Pwr) : (u.decision res act).st = [] := by
  cases hw : u.warn with
  | true =>
    unfold Pwr.decision
    rw [if_pos hw]
    rfl
  | false => exact (decides_decision hw).st

/-! ## The warning (R397) -/

/-- PWR as a warning begins, before the cuts. -/
def Pwr.warned (now : Nat) (u : Pwr) : Pwr := { u with warn := true, warnAt := now, regs := rmod u.regs Reg.PWR_WARN_CNT incW }

section
variable (now : Nat) (u : Pwr)

theorem state_warned (i : Nat) : (Pwr.warned now u).state i = u.state i := rfl

theorem warning_eq : u.warning now =
    (((Pwr.cuttable (Pwr.warned now u)).foldl Pwr.cutOne (W.of (Pwr.warned now u))).evt Pg.PWR 2).codeRec Pg.PWR 0x2155 [] := rfl

/-- The cuts of a warning. -/
theorem warning_cut : PwrCut (Pwr.warned now u) (u.warning now).u :=
  foldl_keeps_mem (fun w : W Pwr => PwrCut (Pwr.warned now u) w.u) _ _
    (fun _ _ hi hw => hw.cutOne (mem_cuttable.mp hi).2.1 (mem_cuttable.mp hi).2.2) _ (PwrCut.refl _)

theorem foldl_cutOne_cut {l : List Nat} (hl : ∀ j ∈ l, pwrClass j ≠ 0) {i : Nat} {w : W Pwr} (hi : i ∈ l ∨ w.u.state i = 2) :
    (l.foldl Pwr.cutOne w).u.state i = 2 := by
  induction l generalizing w with
  | nil => exact hi.resolve_left List.not_mem_nil
  | cons j l ih =>
    refine ih (fun k hk => hl k (List.mem_cons_of_mem _ hk)) ?_
    rw [state_cutOne w (hl j List.mem_cons_self)]
    split
    · exact .inr rfl
    next hij => exact hi.imp_left fun h => (List.mem_cons.mp h).resolve_left hij

/-- A warning takes every grant of classes 1 and 2. -/
theorem warning_ungranted {i : Nat} (hi : i < pwrCount) (hc : pwrClass i ≠ 0) : (u.warning now).u.state i ≠ 1 := by
  intro h1
  obtain h | ⟨_, h2⟩ := (warning_cut now u).state i
  · have hcut : (u.warning now).u.state i = 2 :=
      foldl_cutOne_cut (fun _ hj => (mem_cuttable.mp hj).2.1) (.inl (mem_cuttable.mpr ⟨hi, hc, h.symm.trans h1⟩))
    exact absurd (h1.symm.trans hcut) (by decide)
  · exact absurd (h1.symm.trans h2) (by decide)

theorem warning_fx : (u.warning now).Quiet ∧ (u.warning now).st = [] ∧
    ∃ l, (u.warning now).fx.codes = l ++ [⟨Pg.PWR, 0x2155, [], true⟩] := by
  have hcuts : ∀ l : List Nat, (l.foldl Pwr.cutOne (W.of (Pwr.warned now u))).Quiet ∧ (l.foldl Pwr.cutOne (W.of (Pwr.warned now u))).st = [] :=
    fun l => foldl_keeps (fun w : W Pwr => w.Quiet ∧ w.st = []) Pwr.cutOne (fun _ _ hw => hw) l _ ⟨⟨rfl, rfl, rfl⟩, rfl⟩
  rw [warning_eq]
  exact ⟨(hcuts _).1, (hcuts _).2, _, rfl⟩

end

/-- OPTIME and PCYC as a warning stores them (R404), which the work before it leaves. -/
theorem log_warned (s : State) : s.warned.log = s.log.saveOptime := by
  unfold State.warned State.requestSave
  split
  · rfl
  · rfl

end Sys2Proof.Proofs
end

section
/-! The commands of the supply and of the budget arbiter, settled (R389–R397, R404). -/

namespace Sys2Proof.Proofs

open Sys2Proof Sys2Proof.Machine

-- One proof after another: many at once wait for the kernel in threads of their own, which the check's memory limit does not hold.
set_option Elab.async false

/-! ## The recorder's copies of OPTIME (R404) -/

theorem store_onPrg (f : Prg → W Prg) (s : State) : Rec.store (s.onPrg f).log = Rec.store s.log := store_commit _ _ _

theorem store_onFus (f : Fus → W Fus) (s : State) : Rec.store (s.onFus f).log = Rec.store s.log := store_commit _ _ _

theorem store_rates (s : State) : Rec.store s.rates.log = Rec.store s.log := by
  unfold State.rates
  exact foldl_keeps (fun x : State => Rec.store x.log = Rec.store s.log) _ (fun _ _ hx => (store_onPrg _ _).trans hx) _ _ rfl

theorem store_onPower (f : Pwr → W Pwr) (s : State) : Rec.store (s.onPower f).log = Rec.store s.log := by
  have hpwr : Rec.store (s.onPwr f).log = Rec.store s.log := (store_rates _).trans (store_commit _ _ _)
  obtain ⟨heq, _⟩ | ⟨_, _, l, _, heq⟩ := onPower_cases f s
  · rw [heq, hpwr]
  · have hput : ∀ x : State, Rec.store (State.updateCut l x).log = Rec.store x.log := fun x => by
      unfold State.updateCut
      dsimp only
      exact store_onFus _ _
    rw [heq, hput, hpwr]

/-- The copies after a warning: the older one holds OPTIME and PCYC now, and is the newer. -/
theorem copies_saveOptime {u v : Rec} (h : Rec.store u = Rec.store v) : u.saveOptime.copyLast = !v.copyLast ∧
    (if v.copyLast then u.saveOptime.copyA else u.saveOptime.copyB) = (v.optime, v.pcyc) := by
  have hlast : u.copyLast = v.copyLast := (congrArg Rec.copyLast h :)
  have hnow : u.optime = v.optime := (congrArg Rec.optime h :)
  have hpcyc : u.pcyc = v.pcyc := (congrArg Rec.pcyc h :)
  unfold Rec.saveOptime
  dsimp only
  rw [hlast, hnow, hpcyc]
  cases v.copyLast
  · exact ⟨rfl, rfl⟩
  · exact ⟨rfl, rfl⟩

/-! ## A sample (R389, R390, R393) -/

/-- What a sample makes of the grants: none is made, and a ceiling that falls takes them in the order of R393 until the rest fits. -/
structure SampleCuts (res : Nat → Nat) (u v : Pwr) : Prop where
  state : ∀ i, v.state i = u.state i ∨ u.state i = 1 ∧ v.state i = 2
  order : ∀ i j, i < pwrCount → j < pwrCount → u.state i = 1 → v.state i = 2 → pwrClass j ≠ 0 → v.state j = 1 → cutsBefore u i j
  fits : u.target < u.ceil → v.total res ≤ v.ceil ∨ ∀ i, pwrClass i ≠ 0 → i < pwrCount → v.state i ≠ 1
  rest : u.target < u.ceil ∨ v.st = u.st
  samples : v.samples = u.samples
  vin : rget v.regs Reg.PWR_VIN = rget u.regs Reg.PWR_VIN
  stat : rget v.regs Reg.PWR_STAT = rget u.regs Reg.PWR_STAT

/-- A state in force as another's needs the same words. -/
theorem state_congr {u v : Pwr} (h : v.st = u.st) (i : Nat) : v.state i = u.state i := by
  unfold Pwr.state
  rw [h]

theorem SampleCuts.same {res : Nat → Nat} {u v : Pwr} (hle : u.ceil ≤ u.target) (hst : v.st = u.st) (hs : v.samples = u.samples)
    (hr : v.regs = u.regs) : SampleCuts res u v where
  state := fun i => .inl (state_congr hst i)
  order := fun i _ _ _ h1 h2 _ _ => absurd (h1.symm.trans ((state_congr hst i).symm.trans h2)) (by decide)
  fits := fun h => absurd h (by omega)
  rest := .inr hst
  samples := hs
  vin := by rw [hr]
  stat := by rw [hr]

theorem sampleCuts_adjust (res : Nat → Nat) (now : Nat) (w : W Pwr) : SampleCuts res w.u (Pwr.adjust res now w).u := by
  obtain h | h | h := Nat.lt_trichotomy w.u.target w.u.ceil
  · rw [adjust_fall res now h, floorCheck_u, cut_eq]
    generalize hw : w.map (fun _ => { w.u with rise := none, regs := rset w.u.regs Reg.PWR_CEIL (wd w.u.target) }) = w'
    have hst : w'.u.st = w.u.st := by rw [← hw]; rfl
    have hsamples : w'.u.samples = w.u.samples := by rw [← hw]; rfl
    have hregs : ∀ k, k ≠ Reg.PWR_CEIL → rget w'.u.regs k = rget w.u.regs k := fun k hk => by
      rw [← hw]
      exact (rget_rset _ _ _ _).trans (if_neg hk)
    have hrank : ∀ i, w'.u.rank i = w.u.rank i := fun i =>
      congrArg (bits · 3 0) (hregs _ (rk_ne (r := Reg.PWR_R_CFG) (q := Reg.PWR_CEIL) (n := 0) (m := 0) (w := i) 0 (by decide)))
    have hcut : PwrCut w'.u ((Pwr.cuttable w'.u).foldl (cutStep res) w').u :=
      foldl_cutStep_keeps (fun i hi => (mem_cuttable.mp hi).2) (PwrCut.refl _)
    have hclass : ∀ j ∈ Pwr.cuttable w'.u, pwrClass j ≠ 0 := fun j hj => (mem_cuttable.mp hj).2.1
    have hstate := state_congr hst
    refine ⟨fun i => ?_, fun i j hi hj h1 h2 hc h3 => ?_, fun _ => ?_, .inl h, ?_, ?_, ?_⟩
    · rw [← hstate i]
      exact hcut.state i
    · have hj1 : w'.u.state j = 1 := by
        obtain he | ⟨he, _⟩ := hcut.state j
        · exact he.symm.trans h3
        · exact he
      have hci : pwrClass i ≠ 0 := fun h0 => by
        have h2' : (if pwrClass i = 0 then 1 else _) = 2 := h2
        rw [if_pos h0] at h2'
        exact absurd h2' (by decide)
      have hbefore := foldl_cutStep_order (res := res) (w := w') (pairwise_cuttable w'.u) hclass (mem_cuttable.mpr ⟨hi, hci, (hstate i).trans h1⟩)
        (mem_cuttable.mpr ⟨hj, hc, hj1⟩) ((hstate i).trans h1) h2 h3
      unfold cutsBefore at hbefore ⊢
      rwa [hrank, hrank] at hbefore
    · refine (foldl_cutStep_total (res := res) (w := w') hclass).imp_right fun hall i hc hi h1 => ?_
      have hwi : w'.u.state i = 1 := by
        obtain he | ⟨he, _⟩ := hcut.state i
        · exact he.symm.trans h1
        · exact he
      exact absurd (h1.symm.trans (hall i (mem_cuttable.mpr ⟨hi, hc, hwi⟩))) (by decide)
    · exact (congrArg Pwr.samples hcut.rest).trans hsamples
    · exact (hcut.regs _ (by decide)).trans (hregs _ (by decide))
    · exact (hcut.regs _ (by decide)).trans (hregs _ (by decide))
  · rw [adjust_same res now h]
    exact .same (by omega) rfl rfl rfl
  · rw [adjust_rise res now h]
    exact .same (by omega) rfl rfl rfl

/-! ## The commands -/

/-- An UPDATE whose grant a command of PWR takes ends without a result (R394). -/
theorem updatesDone_cut {a : At} {s : State} {f : Pwr → W Pwr} (h1 : s.pwr.state 17 = 1) (h2 : ((s.at_ a).onPower f).pwr.state 17 = 2) :
    updatesDone ((s.at_ a).onPower f).seq.runs := by
  rw [onPower_pwr] at h2
  refine updatesDone_onPower f _ ?_ h2
  unfold State.grant
  rw [show (s.at_ a).pwr.state 17 = 1 from h1]
  rfl

theorem upOn_pwr {s : State} (h : s.pageUp Pg.PWR = true) (f : State → State) : s.upOn Pg.PWR f = f s := if_pos h

theorem pwr_warned (s : State) : s.warned.pwr = s.pwr := by
  unfold State.warned State.requestSave
  split
  · rfl
  · rfl

theorem errCode_warned (s : State) (p : Nat) : s.warned.errCode p = s.errCode p := by
  unfold State.warned State.requestSave
  split
  · rfl
  · rfl

theorem seq_warned (s : State) : s.warned.seq = s.seq := by
  unfold State.warned State.requestSave
  split
  · rfl
  · rfl

/-- The sample's own clauses: the window, PWR_VIN and bit 5 of PWR_STAT, and what the ceiling makes of the grants. -/
theorem sampleCuts_sample (res : Nat → Nat) (now mv : Nat) (u : Pwr) :
    SampleCuts res (Pwr.sampled now mv u) (u.sample res now mv).u ∧
      (u.sample res now mv).u.ceil = min (Pwr.sampled now mv u).target u.ceil ∧
      ((Pwr.sampled now mv u).target ≤ u.ceil → (u.sample res now mv).u.rise = none) ∧
      (u.ceil < (Pwr.sampled now mv u).target → (u.sample res now mv).u.rise = some (Pwr.risen now (Pwr.sampled now mv u))) := by
  obtain ⟨w, hw, _, he⟩ := sample_eq res now mv u
  obtain ⟨hceil, hnone, hsome⟩ := rise_adjust res now w
  have hcuts := sampleCuts_adjust res now w
  rw [hw, ceil_sampled] at hceil hnone hsome
  rw [hw] at hcuts
  rw [he]
  exact ⟨hcuts, hceil, hnone, hsome⟩

theorem rank_sampled (now mv : Nat) (u : Pwr) (i : Nat) : (Pwr.sampled now mv u).rank i = u.rank i :=
  congrArg (bits · 3 0) (regs_sampled now mv u (rk_ne (r := Reg.PWR_R_CFG) (q := Reg.PWR_VIN) (n := 0) (m := 0) (w := i) 0 (by decide))
    (rk_ne (r := Reg.PWR_R_CFG) (q := Reg.PWR_STAT) (n := 0) (m := 0) (w := i) 0 (by decide)))

/-- Since when a higher ceiling has held: as noted, or from now on. -/
theorem risen_cases (now : Nat) (u : Pwr) : ∃ since, Pwr.risen now u = (u.target, since) ∧ (u.rise = some (u.target, since) ∨ since = now) := by
  by_cases h : ∃ since, u.rise = some (u.target, since)
  · obtain ⟨since, h⟩ := h
    exact ⟨since, risen_kept h, .inl h⟩
  · exact ⟨now, risen_anew fun since hs => h ⟨since, hs⟩, .inr rfl⟩

/-- The warning's own clauses. -/
theorem warning_facts (now : Nat) (u : Pwr) : (u.warning now).u.warn = true ∧ (u.warning now).u.warnAt = now ∧
    rget (u.warning now).u.regs Reg.PWR_WARN_CNT = incW (rget u.regs Reg.PWR_WARN_CNT) ∧ (u.warning now).u.cutOff = u.cutOff ∧
    (u.warning now).u.upAt = u.upAt := by
  have hcut := warning_cut now u
  refine ⟨congrArg Pwr.warn hcut.rest, congrArg Pwr.warnAt hcut.rest, ?_, (congrArg Pwr.cutOff hcut.rest :), (congrArg Pwr.upAt hcut.rest :)⟩
  rw [hcut.regs _ (by decide)]
  exact (rget_rmod _ _ _ _).trans (if_pos rfl)

/-- PAGE_ERR of PWR after a warning, alone or with a disconnection. -/
theorem errCode_warning {s : State} {f : Pwr → W Pwr} {now : Nat} {u : Pwr} (h : f s.pwr = u.warning now) :
    (s.onPower f).errCode Pg.PWR = 0x2155 := by
  obtain ⟨hq, _, l, hc⟩ := warning_fx now u
  exact errCode_onPower (f := f) (s := s) (l := l) (by rw [h]; exact hc) rfl (by rw [h]; exact hq)

/-- A recovery that is due. -/
theorem recover_due {now : Nat} {u : Pwr} (hw : u.warn = true) (ht : heldFor u.upAt now 10000000 = true) : u.recover now =
    ((W.of { u with warn := false, regs := rset u.regs Reg.PWR_HOLD (wd (min ((now - u.warnAt) / 1000) 65535)) }).evt Pg.PWR 2).code
      Pg.PWR 0x0156 [] := by
  unfold Pwr.recover
  rw [hw, ht]
  rfl

theorem recover_not {now : Nat} {u : Pwr} (h : u.warn = false ∨ heldFor u.upAt now 10000000 = false) : u.recover now = W.of u := by
  unfold Pwr.recover
  refine if_neg fun hc => ?_
  rw [Bool.and_eq_true] at hc
  obtain h | h := h
  · exact absurd (h.symm.trans hc.1) (by decide)
  · exact absurd (h.symm.trans hc.2) (by decide)

/-- The input protection disconnects in a warning that is in force. -/
theorem disconnect_warned (now : Nat) {u : Pwr} (h : u.warn = true) : u.disconnect now = W.of { u with cutOff := true, upAt := none } :=
  if_pos h

/-- The input protection disconnects and the supply warning begins. -/
theorem disconnect_warning (now : Nat) {u : Pwr} (h : u.warn = false) :
    u.disconnect now = ({ u with cutOff := true, upAt := none } : Pwr).warning now :=
  if_neg fun hc => absurd (h.symm.trans hc) (by decide)

theorem reconnect_st (now : Nat) (u : Pwr) : (u.reconnect now).st = u.st ∧ (u.reconnect now).warn = u.warn := by
  unfold Pwr.reconnect
  split
  · exact ⟨rfl, rfl⟩
  · exact ⟨rfl, rfl⟩

/-- Settles O41: each command is PWR's work with its tail, and what PWR makes of it is one fact above. -/
theorem supplyCommands : Obligations.SupplyCommands := by
  unfold Obligations.SupplyCommands
  refine ⟨fun a mV V tgt s hup hV htgt => ⟨_, rfl, ?_⟩, fun a s hup => ⟨_, rfl, ?_⟩, fun a s hup => ⟨_, rfl, ?_⟩,
    fun a s hup => ⟨_, rfl, ?_⟩, fun a s hup => ⟨_, rfl, ?_⟩, fun a s hup => ⟨_, rfl, ?_⟩, fun a s hup => ⟨_, rfl, ?_⟩⟩
  · rw [pwrDoes_up (s := s.at_ a) hup]
    obtain ⟨hshell, hupdate, hbytes⟩ := powerTail_onPower a s (fun u => u.sample (s.at_ a).res (s.at_ a).now mV) (st_sample _ _ _ _)
    obtain ⟨hcuts, hceil, hnone, hsome⟩ := sampleCuts_sample (s.at_ a).res (s.at_ a).now mV s.pwr
    have hpwr : ((s.at_ a).onPower (fun u => u.sample (s.at_ a).res (s.at_ a).now mV)).pwr = (s.pwr.sample (s.at_ a).res (s.at_ a).now mV).u :=
      onPower_pwr _ _
    have htarget : (Pwr.sampled (s.at_ a).now mV s.pwr).target = tgt := by
      rw [target_sampled, htgt, hV]
      rfl
    have hcs : (Pwr.sampled (s.at_ a).now mV s.pwr).ceil = s.pwr.ceil := ceil_sampled _ _ _
    have hcut17 : s.pwr.state 17 = 1 → (s.pwr.sample (s.at_ a).res (s.at_ a).now mV).u.state 17 = 2 →
        updatesDone ((s.at_ a).onPower (fun u => u.sample (s.at_ a).res (s.at_ a).now mV)).seq.runs :=
      fun h1 h2 => updatesDone_cut h1 (by rw [hpwr]; exact h2)
    have hfits := hcuts.fits
    have hrest := hcuts.rest
    rw [htarget] at hceil hnone hsome
    rw [htarget, hcs] at hfits hrest
    rw [hpwr] at hshell hupdate ⊢
    refine ⟨congrArg List.head? hcuts.samples, hcuts.vin.trans ((vin_sampled _ _ _).trans (by rw [hV]; rfl)),
      (congrArg (bit · 5) hcuts.stat).trans (above_sampled _ _ _), fun hlt => ?_, fun heq => ?_, fun hgt => ?_, hcuts.state, fun i j hi hj h1 h2 hc h3 => ?_,
      hcut17, hshell, hupdate, hbytes⟩
    · have hlow : (s.pwr.sample (s.at_ a).res (s.at_ a).now mV).u.ceil = tgt := by omega
      refine ⟨hlow, hnone hlt.le, ?_⟩
      rw [← hlow]
      exact hfits hlt
    · exact ⟨by omega, hnone heq.le, hrest.resolve_left (by omega)⟩
    · obtain ⟨since, hrisen, hsince⟩ := risen_cases (s.at_ a).now (Pwr.sampled (s.at_ a).now mV s.pwr)
      rw [htarget] at hrisen hsince
      exact ⟨by omega, hrest.resolve_left (by omega), since, by rw [hsome hgt, hrisen], hsince⟩
    · have horder := hcuts.order i j hi hj h1 h2 hc h3
      unfold cutsBefore at horder
      rwa [rank_sampled, rank_sampled] at horder
  · rw [pwrDoes_up (s := s.at_ a) hup]
    obtain ⟨hshell, hupdate, hbytes⟩ := powerTail_onPower a s (Pwr.ceilingRise (s.at_ a).res (s.at_ a).now) (st_ceilingRise _ _ _)
    have hpwr : ((s.at_ a).onPower (Pwr.ceilingRise (s.at_ a).res (s.at_ a).now)).pwr = (s.pwr.ceilingRise (s.at_ a).res (s.at_ a).now).u :=
      onPower_pwr _ _
    rw [hpwr] at hshell hupdate ⊢
    refine ⟨?_, fun v since hr => ⟨fun ht => ?_, fun ht => ?_⟩, fun hr => ?_, hshell, hupdate, hbytes⟩
    · unfold Pwr.ceilingRise
      split
      · split
        · rw [floorCheck_u]
          rfl
        · rfl
      · rfl
    · rw [ceilingRise_taken _ hr ht, floorCheck_u]
      exact ⟨(rget_rset _ _ _ _).trans (if_pos rfl), rfl⟩
    · rw [ceilingRise_early _ hr ht]
      rfl
    · rw [ceilingRise_none _ hr]
      rfl
  · rw [upOn_pwr (s := s.at_ a) hup]
    obtain ⟨hshell, hupdate, hbytes⟩ := powerTail_onPower a s (Pwr.decision (s.at_ a).res (s.at_ a).active) (st_decision _ _ _)
    have hpwr : ((s.at_ a).onPower (Pwr.decision (s.at_ a).res (s.at_ a).active)).pwr = (s.pwr.decision (s.at_ a).res (s.at_ a).active).u :=
      onPower_pwr _ _
    rw [hpwr] at hshell hupdate ⊢
    refine ⟨fun hw => ?_, fun hw => ?_, hshell, hupdate, hbytes⟩
    · unfold Pwr.decision
      rw [if_pos hw]
      rfl
    · have hd := decides_decision (res := (s.at_ a).res) (act := (s.at_ a).active) hw
      refine ⟨hd.decisions, by rw [hd.regs], fun hle => ?_, fun i => state_decision_granted hw, fun i _ => state_decision_answered hw⟩
      have hfit := hd.fits hle
      rw [ceil_of_regs hd.regs] at hfit
      exact hfit
  · rw [upOn_pwr (s := s.at_ a) hup]
    have hdue : (s.at_ a).pwr.warnDue (s.at_ a).now = s.pwr.warnDue (s.at_ a).now := rfl
    dsimp only
    rw [hdue]
    split
    next hd =>
      obtain ⟨hshell, hupdate, hbytes⟩ := (powerTail_onPower a s (Pwr.warning (s.at_ a).now) (warning_fx _ _).2.1).warned
      have hpwr : ((s.at_ a).onPower (Pwr.warning (s.at_ a).now)).warned.pwr = (s.pwr.warning (s.at_ a).now).u :=
        (pwr_warned _).trans (onPower_pwr _ _)
      obtain ⟨hwarn, hat, hcnt, _, _⟩ := warning_facts (s.at_ a).now s.pwr
      have hcopies := copies_saveOptime (store_onPower (Pwr.warning (s.at_ a).now) (s.at_ a))
      have hcut17 : s.pwr.state 17 = 1 → (s.pwr.warning (s.at_ a).now).u.state 17 = 2 →
          updatesDone ((s.at_ a).onPower (Pwr.warning (s.at_ a).now)).warned.seq.runs := fun h1 h2 => by
        rw [seq_warned]
        exact updatesDone_cut h1 (by rw [onPower_pwr]; exact h2)
      rw [hpwr] at hshell hupdate ⊢
      refine ⟨fun _ => ⟨hwarn, hat, fun i hi hc => warning_ungranted _ _ hi hc, hcnt, ?_, ?_⟩, fun h => absurd (h.symm.trans hd) (by decide), hcut17,
        hshell, hupdate, hbytes⟩
      · rw [errCode_warned]
        exact errCode_warning rfl
      · rw [log_warned]
        exact hcopies
    next hd =>
      obtain ⟨hshell, hupdate, hbytes⟩ := powerTail_at a s
      exact ⟨fun h => absurd h hd, fun _ => rfl, fun h1 h2 => absurd (h1.symm.trans h2) (by decide), hshell, hupdate, hbytes⟩
  · rw [pwrDoes_up (s := s.at_ a) hup]
    have hcases : s.pwr.recover (s.at_ a).now = W.of s.pwr ∨ s.pwr.warn = true ∧ heldFor s.pwr.upAt (s.at_ a).now 10000000 = true := by
      cases hw : s.pwr.warn with
      | false => exact .inl (recover_not (.inl hw))
      | true =>
        cases ht : heldFor s.pwr.upAt (s.at_ a).now 10000000 with
        | false => exact .inl (recover_not (.inr ht))
        | true => exact .inr ⟨rfl, rfl⟩
    have hst : (s.pwr.recover (s.at_ a).now).st = [] ∧ (s.pwr.recover (s.at_ a).now).u.st = s.pwr.st := by
      obtain he | ⟨hw, ht⟩ := hcases
      · rw [he]
        exact ⟨rfl, rfl⟩
      · rw [recover_due hw ht]
        exact ⟨rfl, rfl⟩
    obtain ⟨hshell, hupdate, hbytes⟩ := powerTail_onPower a s (fun u => u.recover (s.at_ a).now) hst.1
    have hpwr : ((s.at_ a).onPower (fun u => u.recover (s.at_ a).now)).pwr = (s.pwr.recover (s.at_ a).now).u := onPower_pwr _ _
    rw [hpwr] at hshell hupdate ⊢
    refine ⟨fun hw ht => ?_, fun hn => by rw [recover_not hn]; rfl, hst.2, hshell, hupdate, hbytes⟩
    have hdue := recover_due hw ht
    refine ⟨by rw [hdue]; rfl, by rw [hdue]; exact (rget_rset _ _ _ _).trans (if_pos rfl), ?_⟩
    exact errCode_onPower (s := s.at_ a) (f := fun u => u.recover (s.at_ a).now) (l := []) (congrArg (fun w : W Pwr => w.fx.codes) hdue) rfl
      (show (s.pwr.recover (s.at_ a).now).Quiet by rw [hdue]; exact ⟨rfl, rfl, rfl⟩)
  · rw [upOn_pwr (s := s.at_ a) hup]
    have hdue : (s.at_ a).pwr.overDue (s.at_ a).now = s.pwr.overDue (s.at_ a).now := rfl
    have hwas : (s.at_ a).pwr.warn = s.pwr.warn := rfl
    dsimp only
    rw [hdue, hwas]
    split
    next hd =>
      split
      next hw =>
        have he : s.pwr.disconnect (s.at_ a).now = W.of { s.pwr with cutOff := true, upAt := none } := disconnect_warned _ hw
        obtain ⟨hshell, hupdate, hbytes⟩ := powerTail_onPower a s (Pwr.disconnect (s.at_ a).now) (by rw [he]; rfl)
        have hpwr : ((s.at_ a).onPower (Pwr.disconnect (s.at_ a).now)).pwr = { s.pwr with cutOff := true, upAt := none } :=
          (onPower_pwr _ _).trans (congrArg W.u he)
        rw [hpwr] at hshell hupdate ⊢
        exact ⟨fun _ => ⟨rfl, hw, rfl, fun h => absurd (h.symm.trans hw) (by decide)⟩, fun h => absurd (h.symm.trans hd) (by decide),
          hshell, hupdate, hbytes⟩
      next hw =>
        have he := disconnect_warning (s.at_ a).now (Bool.eq_false_iff.mpr hw)
        obtain ⟨hshell, hupdate, hbytes⟩ := (powerTail_onPower a s (Pwr.disconnect (s.at_ a).now) (by rw [he]; exact (warning_fx _ _).2.1)).warned
        have hpwr : ((s.at_ a).onPower (Pwr.disconnect (s.at_ a).now)).warned.pwr =
            (({ s.pwr with cutOff := true, upAt := none } : Pwr).warning (s.at_ a).now).u :=
          (pwr_warned _).trans ((onPower_pwr _ _).trans (congrArg W.u he))
        obtain ⟨hwarn, _, _, hcutOff, hupAt⟩ := warning_facts (s.at_ a).now { s.pwr with cutOff := true, upAt := none }
        rw [hpwr] at hshell hupdate ⊢
        refine ⟨fun _ => ⟨hcutOff, hwarn, hupAt, fun _ => ⟨fun i hi hc => warning_ungranted _ _ hi hc, ?_⟩⟩,
          fun h => absurd (h.symm.trans hd) (by decide), hshell, hupdate, hbytes⟩
        rw [errCode_warned]
        exact errCode_warning he
    next hd =>
      obtain ⟨hshell, hupdate, hbytes⟩ := powerTail_at a s
      exact ⟨fun h => absurd h hd, fun _ => rfl, hshell, hupdate, hbytes⟩
  · rw [pwrDoes_up (s := s.at_ a) hup]
    obtain ⟨hshell, hupdate, hbytes⟩ := powerTail_onPower a s (fun u => W.of (u.reconnect (s.at_ a).now)) rfl
    have hpwr : ((s.at_ a).onPower (fun u => W.of (u.reconnect (s.at_ a).now))).pwr = s.pwr.reconnect (s.at_ a).now := onPower_pwr _ _
    rw [hpwr] at hshell hupdate ⊢
    refine ⟨fun ht => ?_, fun ht => ?_, (reconnect_st _ _).1, (reconnect_st _ _).2, hshell, hupdate, hbytes⟩
    · unfold Pwr.reconnect
      rw [ht, Bool.and_true]
      split
      · rfl
      next hc => exact Bool.eq_false_iff.mpr hc
    · unfold Pwr.reconnect
      rw [ht, Bool.and_false]
      rfl

end Sys2Proof.Proofs
end

section
/-! SUPPORT. STATE_TRANSITION: the request that no longer waits and SEQ as each transition leaves it (R39, R55, R56, R418). -/

namespace Sys2Proof.Proofs

open Sys2Proof Sys2Proof.Machine

-- One proof after another: many at once wait for the kernel in threads of their own, which the check's memory limit does not hold.
set_option Elab.async false

/-! ## The request after a transition -/

/-- What leaves the outer part leaves AUTO_RUN. -/
theorem autoRun_of_outer {s t : State} (h : t.outer = s.outer) : t.sup.autoRun = s.sup.autoRun := by
  rw [sup_of_outer h]

/-- What leaves the outer part leaves the request that waits. -/
theorem request_of_outer {s t : State} (h : t.outer = s.outer) : t.sup.request = s.sup.request := by
  rw [sup_of_outer h]

theorem outer_atStart (s : State) : s.atStart.outer = s.outer := by
  unfold State.atStart
  split
  · exact outer_fathomStart s
  · rfl

theorem outer_withdrawRun (r : Run) (s : State) : (s.withdrawRun r).outer = s.outer := by
  unfold State.withdrawRun
  rw [outer_code]
  split
  · rfl
  · split <;> rfl

theorem outer_leaveRun (s : State) : s.leaveRun.outer = s.outer := by
  unfold State.leaveRun
  rw [outer_onChn, outer_onPrg]
  exact foldl_keeps (fun x : State => x.outer = s.outer) _ (fun x r hx => (outer_withdrawRun r x).trans hx) _ _ rfl

/-- READY entered without AUTO_RUN: no request waits, SEQ as it was. -/
theorem enterReady_rests {s : State} (h : s.sup.autoRun = false) :
    s.enterReady.sup.request = none ∧ s.enterReady.seq = s.seq := by
  unfold State.enterReady
  have hsup : ∀ f, ((s.enter .ready).onSaf f).sup = { s.sup with request := none } := fun f => (onSaf_sup _ _).trans (enter_sup _ _)
  have hrest : ∀ f, ((s.enter .ready).onSaf f).sup.autoRun = false := fun f => by rw [hsup]; exact h
  dsimp only
  rw [if_neg (by rw [hrest]; decide)]
  exact ⟨by rw [hsup], by rw [onSaf_seq, enter_seq]⟩

/-- RUN entered: no request waits. -/
theorem request_enterRun (s : State) : s.enterRun.sup.request = none := by
  unfold State.enterRun
  have hreleases : ∀ x : State, x.releases.sup.request = x.sup.request := fun x => request_of_outer (outer_releases x)
  have hput : ∀ (x : State) (c : Ctl) (u : Machine.Seq), ({ x with ctl := c, seq := u } : State).sup = x.sup := fun _ _ _ => rfl
  dsimp only
  rw [apply_ite (fun x : State => x.sup.request), hreleases, ite_self, hput, onPrg_sup, onChn_sup, enter_sup]

/-! ## SEQ at the exit from RUN -/

theorem seq_withdrawRun (r : Run) (s : State) : (s.withdrawRun r).seq = s.seq.drop r := by
  unfold State.withdrawRun
  rw [code_seq]
  split
  · rfl
  · split <;> rfl

/-- Withdrawing each run of a list takes it off the runs. -/
theorem runs_withdrawn (l : List Run) (s : State) :
    (l.foldl (fun s r => s.withdrawRun r) s).seq.runs = l.foldl List.erase s.seq.runs := by
  induction l generalizing s with
  | nil => rfl
  | cons r l ih =>
    rw [List.foldl_cons, List.foldl_cons, ih, seq_withdrawRun]
    rfl

/-- Erasing every entry of a list leaves none. -/
theorem erase_all (l : List Run) : l.foldl List.erase l = [] := by
  induction l with
  | nil => rfl
  | cons r l ih => rw [List.foldl_cons, List.erase_cons_head, ih]

/-- No long span is left after the exit from RUN (R56). -/
theorem runs_leaveRun (s : State) : s.leaveRun.seq.runs = [] := by
  unfold State.leaveRun
  rw [onChn_seq, onPrg_seq, runs_withdrawn, erase_all]

/-- What a fathom start does with a pending swap leaves the runs. -/
theorem runs_swapPoint (u : Seq) (fno : Nat) : (u.swapPoint fno).1.u.runs = u.runs := by
  unfold Seq.swapPoint
  split
  · rfl
  · simp only [apply_ite (fun x : W Seq × Bool => x.1.u.runs)]
    have hswap : (u.swap fno).u.runs = u.runs := rfl
    have hrefused : u.swapRefused.u.runs = u.runs := rfl
    have hstays : (W.of u).u.runs = u.runs := rfl
    simp only [hswap, hrefused, hstays, ite_self]

/-- The exit from RUN without AUTO_RUN: no request waits and no long span is in progress. -/
theorem exitRun_rests {s : State} (h : s.sup.autoRun = false) : s.exitRun.sup.request = none ∧ s.exitRun.seq.runs = [] := by
  unfold State.exitRun
  split
  · have hauto : s.deadlines.leaveRun.sup.autoRun = false :=
      (autoRun_of_outer ((outer_leaveRun _).trans (outer_deadlines s))).trans h
    obtain ⟨hreq, hseq⟩ := enterReady_rests hauto
    have hmode : s.deadlines.leaveRun.enterReady.mode ≠ .config := by rw [mode_enterReady]; decide
    refine ⟨(request_of_outer ((outer_beginFathom _).trans (outer_swapStep _))).trans hreq, ?_⟩
    obtain ⟨-, -, -, hruns, -⟩ := nextFathom_fields s.deadlines.leaveRun.enterReady.swapStep.seq
    rw [seq_beginFathom, hruns, seq_swapStep _ hmode, runs_swapPoint, hseq, runs_leaveRun]
  · obtain ⟨hreq, hseq⟩ := enterReady_rests ((autoRun_of_outer (outer_leaveRun s)).trans h)
    exact ⟨hreq, by rw [hseq, runs_leaveRun]⟩

/-! ## SEQ at the exit from CONFIG -/

/-- The Furlong settled: SUP as it was, and the grid in force. -/
theorem settle_grid (s : State) :
    s.settle.sup = s.sup ∧ s.settle.seq.counted = s.seq.counted ∧ s.settle.seq.startUs = s.seq.startUs ∧
      s.settle.seq.lenUs = s.seq.lenUs := by
  unfold State.settle
  split
  · dsimp only
    rw [onSeq_sup, onSeq_seq]
    exact ⟨rfl, rfl, rfl, rfl⟩
  · exact ⟨rfl, rfl, rfl, rfl⟩

/-- The exit from CONFIG at the first grid instant, without AUTO_RUN: READY, and the count begins there (R39). -/
theorem exitConfig_begins {s : State} (hc : s.seq.counted = false) (hg : s.firstGrid ≤ s.tim.us) (ha : s.sup.autoRun = false) :
    s.exitConfig.mode = .ready ∧ s.exitConfig.sup.request = none ∧ s.exitConfig.seq.counted = true ∧
      s.exitConfig.seq.startUs = s.firstGrid ∧ s.exitConfig.seq.lenUs = s.seq.lenReg := by
  have he : s.exitConfig = s.beginCount.settle.startUnits.enterReady := by
    unfold State.exitConfig
    rw [if_neg (by rw [hc]; decide), if_pos hg]
  obtain ⟨hsup, hcounted, hstart, hlen⟩ := settle_grid s.beginCount
  have hauto : s.beginCount.settle.startUnits.sup.autoRun = false := (congrArg Sup.autoRun hsup).trans ha
  obtain ⟨hreq, hseq⟩ := enterReady_rests hauto
  rw [he, hseq]
  exact ⟨mode_enterReady _, hreq, hcounted, hstart, hlen⟩

/-- STATE_TRANSITION while SUP's island runs. -/
theorem stateTransition_runs {a : At} {s : State} (h : s.pageUp Pg.SUP = true) :
    exec (.stateTransition a) s = .next (s.at_ a).transition := congrArg Host.Outcome.next (if_pos h)

section
variable {s : State}

/-- The transition that GO_RUN waits for, at its fathom start. -/
theorem transition_goRun (h : s.sup.request = some .goRun) (hd : s.startDue = true) : s.transition = s.atStart.enterRun := by
  unfold State.transition
  rw [h]
  exact if_pos hd

/-- The transition that STOP waits for, at its fathom start. -/
theorem transition_stop (h : s.sup.request = some .stop) (hd : s.startDue = true) : s.transition = s.exitRun := by
  unfold State.transition
  rw [h]
  exact if_pos hd

/-- The transition that GO_SERVICE waits for, at its fathom start. -/
theorem transition_goService (h : s.sup.request = some .goService) (hd : s.startDue = true) :
    s.transition = s.atStart.enter .service := by
  unfold State.transition
  rw [h]
  exact if_pos hd

/-- The transition that GO_READY waits for outside CONFIG, at its fathom start. -/
theorem transition_goReady (h : s.sup.request = some .goReady) (hm : s.mode ≠ .config) (hd : s.startDue = true) :
    s.transition = s.atStart.enterReady := by
  unfold State.transition
  rw [h]
  exact (if_neg hm).trans (if_pos hd)

/-- The transition that GO_READY waits for in CONFIG. -/
theorem transition_exitConfig (h : s.sup.request = some .goReady) (hm : s.mode = .config) : s.transition = s.exitConfig := by
  unfold State.transition
  rw [h]
  exact if_pos hm

end

/-- Settles O5: the request names the entry, and each entry by what it leaves of the mode, the request and SEQ. -/
theorem stateTransitions : Obligations.StateTransitions := by
  unfold Obligations.StateTransitions
  refine ⟨fun a s hp hr hd => ?_, fun a s hp hr hd ha => ?_, fun a s hp hr hd => ?_, fun a s hp hr hm hd ha => ?_,
    fun a s hp hr hm hc hg ha => ?_⟩
  · refine ⟨_, stateTransition_runs hp, ?_⟩
    rw [transition_goRun (s := s.at_ a) hr hd]
    exact ⟨mode_enterRun _, request_enterRun _⟩
  · refine ⟨_, stateTransition_runs hp, ?_⟩
    rw [transition_stop (s := s.at_ a) hr hd]
    exact ⟨mode_exitRun _, exitRun_rests (s := s.at_ a) ha⟩
  · refine ⟨_, stateTransition_runs hp, ?_⟩
    rw [transition_goService (s := s.at_ a) hr hd, enter_mode, enter_sup]
    exact ⟨rfl, rfl⟩
  · refine ⟨_, stateTransition_runs hp, ?_⟩
    have hauto : (s.at_ a).atStart.sup.autoRun = false := (autoRun_of_outer (outer_atStart _)).trans ha
    rw [transition_goReady (s := s.at_ a) hr hm hd]
    exact ⟨mode_enterReady _, (enterReady_rests hauto).1⟩
  · refine ⟨_, stateTransition_runs hp, ?_⟩
    rw [transition_exitConfig (s := s.at_ a) hr hm]
    exact exitConfig_begins (s := s.at_ a) hc hg ha

end Sys2Proof.Proofs
end

section
/-! SUPPORT. Writes of SUP_CTRL: the requests that a passed check list or the module state lets wait (R418, R419). -/

namespace Sys2Proof.Proofs

open Sys2Proof Sys2Proof.Machine

-- One proof after another: many at once wait for the kernel in threads of their own, which the check's memory limit does not hold.
set_option Elab.async false

/-! ## The check list that passes -/

/-- A negotiation leaves what FEAT_ACCEPT accepts. -/
theorem accepts_negotiate (s : State) {k : Nat} (hk : k < 256) : s.negotiate.accepts k = s.accepts k := by
  have hregs : ∃ v, s.negotiate.sup.regs = rset s.sup.regs Reg.FEAT_STATUS v := ⟨_, rfl⟩
  obtain ⟨v, hv⟩ := hregs
  have hne : Reg.FEAT_ACCEPT0 + 4 * (k / 32) ≠ Reg.FEAT_STATUS := by
    unfold Reg.FEAT_ACCEPT0 Reg.FEAT_STATUS
    omega
  unfold State.accepts rbit
  rw [hv, rget_rset, if_neg hne]

/-- A negotiation is judged the same after it. -/
theorem negotiationFault_negotiate (s : State) : s.negotiate.negotiationFault = s.negotiationFault := by
  unfold State.negotiationFault
  rw [accepts_negotiate s (by decide : 0 < 256), List.find?_congr (fun k hk => by rw [accepts_negotiate s (List.mem_range.mp hk)])]

/-- The check list after the negotiation, by the page that refuses. -/
def afterNegotiation (leaving : Bool) (s : State) : Option Code → State × Bool
  | some c => ((s.showChecks leaving c.page).refuseWith c.page c, false)
  | none => ({ (s.showChecks leaving pageCount) with sup := { s.sup with passed := true } }, true)

/-- The check list when nothing refuses (R419). -/
theorem checkList_passes {s : State} {leaving : Bool} (hn : s.negotiationFault = none) (hr : s.negotiate.firstRefusal leaving = none) :
    s.checkList leaving = afterNegotiation leaving s.negotiate none :=
  (if_neg (by rw [negotiationFault_negotiate, hn]; decide)).trans (congrArg (afterNegotiation leaving s.negotiate) hr)

theorem hdr_showChecks (s : State) (leaving : Bool) (upTo : Nat) : (s.showChecks leaving upTo).hdr = s.hdr := by
  unfold State.showChecks
  simp only [apply_ite State.hdr, ite_self]

/-- GO_READY in CONFIG when nothing refuses: it waits, the mode and the headers as they were. -/
theorem goReady_waits {s : State} (hd : s.sup.dead = false) (hq : s.sup.request = none) (hm : s.mode = .config)
    (hn : s.negotiationFault = none) (hr : s.negotiate.firstRefusal true = none) :
    s.goReady.sup.request = some .goReady ∧ s.goReady.mode = s.mode ∧ s.goReady.hdr = s.hdr := by
  have he : s.goReady = ({ (s.checkList true).1 with
      seq := { (s.checkList true).1.seq with settle := (s.checkList true).1.seq.exitBank.2.2 } } : State).wait .goReady := by
    unfold State.goReady
    rw [if_neg (by rw [hd]; decide), if_neg (by rw [hq]; decide), if_pos hm]
    exact if_pos (congrArg Prod.snd (checkList_passes hn hr))
  rw [he]
  refine ⟨rfl, mode_checkList s true, ?_⟩
  rw [checkList_passes hn hr]
  exact hdr_showChecks s.negotiate true pageCount

/-! ## The write of SUP_CTRL -/

/-- The state in which a request of SUP_CTRL acts: SUP, the mode and SEQ as they were, PAGE_SEQ counted. -/
theorem written_supCtrl (s : State) (v : Word) :
    let w := s.written 1 1 0x40 0 Reg.SUP_CTRL supCtrlRow v
    w.mode = s.mode ∧ w.seq = s.seq ∧ w.sup = { s.sup with regs := w.sup.regs } ∧ w.hdr = hdrSeq s.hdr 1 := ⟨rfl, rfl, rfl, rfl⟩

/-- An admitted write of SUP_CTRL: its requests act, then the idle consumers are released. -/
theorem supCtrl_taken (acc : Accessor) {v : Word} {s : State} (h : s.Admits acc Pg.SUP 0x40) (ht : ∀ run, supCtrlRow.takes run v = true) :
    s.writePlain acc Reg.SUP_CTRL 0 v =
      ((s.written 1 1 0x40 0 Reg.SUP_CTRL supCtrlRow v).supCtrl (·.saveCfg [] true) v).releaseIdle :=
  writePlain_taken acc Reg.SUP_CTRL 0 v s h (by decide) (by decide) supCtrlRow 0 (by decide) (by decide) (by decide) rfl (.inl rfl)
    (by decide) rfl (ht _)

section
variable {s w : State}

theorem errCode_releaseIdle {q : Nat} (hq : q < Pg.PRG ∨ Pg.PRG + 2 < q) (hs : q ≠ Pg.SNAP) :
    s.releaseIdle.errCode q = s.errCode q := congrArg (bits · 15 0) (releaseIdle_pageErr s q hq hs)

theorem goRun_waits (hd : s.sup.dead = false) (hq : s.sup.request = none) (hm : s.mode = .ready) (hp : s.sup.passed = true) :
    s.goRun = s.wait .goRun := by
  unfold State.goRun
  rw [if_neg (by rw [hd]; decide), if_neg (by rw [hq, hm]; decide), if_pos hp]

theorem stopRequest_waits (hd : s.sup.dead = false) (hq : s.sup.request = none) (hm : s.mode = .run) :
    s.stopRequest = s.wait .stop := by
  unfold State.stopRequest
  rw [if_neg (by rw [hd]; decide), if_neg (by rw [hq, hm]; decide)]

theorem goService_waits (hd : s.sup.dead = false) (hq : s.sup.request = none) (hm : s.mode = .ready) :
    s.goService = s.wait .goService := by
  unfold State.goService
  rw [if_neg (by rw [hd]; decide), if_neg (by rw [hq, hm]; decide)]

theorem goRun_discarded {r : Request} (hd : s.sup.dead = false) (hq : s.sup.request = some r) : s.goRun = s.discardRequest := by
  unfold State.goRun
  rw [if_neg (by rw [hd]; decide), if_pos (.inl (by rw [hq]; rfl))]

theorem pageSeq_of_hdr {t : State} (h : t.hdr = s.hdr) (q : Nat) : t.pageSeq q = s.pageSeq q := congrArg (rget · (cellKey q 0x1C 0)) h

theorem pageSeq_enter (m : Mode) (q : Nat) : (s.enter m).pageSeq q = s.pageSeq q := by
  unfold State.enter
  rw [commit_pageSeq]
  rfl

theorem pageSeq_onGns (f : Gns → W Gns) (q : Nat) : (s.onGns f).pageSeq q = s.pageSeq q := by
  unfold State.onGns
  rw [commit_pageSeq]
  rfl

/-- GO_CONFIG acts at once: CONFIG, no request waiting, SEQ and PAGE_SEQ as they were (R418). -/
theorem goConfig_acts (hd : s.sup.dead = false) (hq : s.sup.request = none) (hm : s.mode = .ready) :
    s.goConfig.mode = .config ∧ s.goConfig.sup.request = none ∧ s.goConfig.seq = s.seq ∧ ∀ q, s.goConfig.pageSeq q = s.pageSeq q := by
  have hput : ∀ (x : State) (f : Fio) (r : Ser) (c : Can) (g : Saf) (z : Tim),
      let y : State := { x with fio := f, ser := r, can := c, saf := g, tim := z }
      y.mode = x.mode ∧ y.sup = x.sup ∧ y.seq = x.seq ∧ y.hdr = x.hdr := fun _ _ _ _ _ _ => ⟨rfl, rfl, rfl, rfl⟩
  unfold State.goConfig
  rw [if_neg (by rw [hd]; decide), if_neg (by rw [hq, hm]; decide)]
  dsimp only
  refine ⟨?_, ?_, ?_, fun q => ?_⟩
  · rw [onGns_mode, (hput _ _ _ _ _ _).1, enter_mode]
  · rw [onGns_sup, (hput _ _ _ _ _ _).2.1, enter_sup]
  · rw [onGns_seq, (hput _ _ _ _ _ _).2.2.1, enter_seq]
  · rw [pageSeq_onGns, pageSeq_of_hdr (hput _ _ _ _ _ _).2.2.2 q, pageSeq_enter]

end

/-- Settles O4: each bit of SUP_CTRL acts by its own request in the state that the write leaves, and the release changes none of it. -/
theorem stateRequests : Obligations.StateRequests := by
  unfold Obligations.StateRequests
  have hexec : ∀ (v : Word) (acc : Accessor) (y : State) (f : State → State), y.Admits acc Pg.SUP 0x40 →
      (∀ run, supCtrlRow.takes run v = true) → (∀ x : State, x.supCtrl (·.saveCfg [] true) v = f x) →
      y.writePlain acc Reg.SUP_CTRL 0 v = (f (y.written 1 1 0x40 0 Reg.SUP_CTRL supCtrlRow v)).releaseIdle :=
    fun v acc y f h ht hf => (supCtrl_taken acc h ht).trans (congrArg State.releaseIdle (hf _))
  have hcount : ∀ (v : Word) (y : State) {x : State}, x.hdr = (y.written 1 1 0x40 0 Reg.SUP_CTRL supCtrlRow v).hdr →
      x.releaseIdle.pageSeq Pg.SUP = y.pageSeq Pg.SUP + 1#32 := fun v y x hx => by
    rw [releaseIdle_pageSeq, pageSeq_of_hdr hx]
    exact pageSeq_hdrSeq _ _
  refine ⟨fun a acc s h hd hq hm hn hr => ?_, fun a acc s h hd hq hm hp => ?_, fun a acc s h hd hq hm => ?_,
    fun a acc s h hd hq hm => ?_, fun a acc s h hd hq hm => ?_, fun a acc s r h hd hq => ?_⟩
  · obtain ⟨hreq, hmode, hhdr⟩ := goReady_waits (s := (s.at_ a).written 1 1 0x40 0 Reg.SUP_CTRL supCtrlRow 1#32) hd hq hm hn hr
    refine ⟨_, congrArg Host.Outcome.next (hexec 1#32 acc (s.at_ a) State.goReady h (by decide) fun _ => rfl), ?_⟩
    rw [releaseIdle_sup, releaseIdle_mode]
    exact ⟨hreq, hmode.trans hm, hcount 1#32 (s.at_ a) hhdr⟩
  · refine ⟨_, congrArg Host.Outcome.next (hexec 2#32 acc (s.at_ a) State.goRun h (by decide) fun _ => rfl), ?_⟩
    rw [goRun_waits (s := (s.at_ a).written 1 1 0x40 0 Reg.SUP_CTRL supCtrlRow 2#32) hd hq hm hp, releaseIdle_sup, releaseIdle_mode]
    exact ⟨rfl, hm, hcount 2#32 (s.at_ a) rfl⟩
  · refine ⟨_, congrArg Host.Outcome.next (hexec 4#32 acc (s.at_ a) State.stopRequest h (by decide) fun _ => rfl), ?_⟩
    rw [stopRequest_waits (s := (s.at_ a).written 1 1 0x40 0 Reg.SUP_CTRL supCtrlRow 4#32) hd hq hm, releaseIdle_sup, releaseIdle_mode]
    exact ⟨rfl, hm, hcount 4#32 (s.at_ a) rfl⟩
  · refine ⟨_, congrArg Host.Outcome.next (hexec 16#32 acc (s.at_ a) State.goService h (by decide) fun _ => rfl), ?_⟩
    rw [goService_waits (s := (s.at_ a).written 1 1 0x40 0 Reg.SUP_CTRL supCtrlRow 16#32) hd hq hm, releaseIdle_sup, releaseIdle_mode]
    exact ⟨rfl, hm, hcount 16#32 (s.at_ a) rfl⟩
  · obtain ⟨hmode, hreq, hseq, hpage⟩ := goConfig_acts (s := (s.at_ a).written 1 1 0x40 0 Reg.SUP_CTRL supCtrlRow 8#32) hd hq hm
    refine ⟨_, congrArg Host.Outcome.next (hexec 8#32 acc (s.at_ a) State.goConfig h (by decide) fun _ => rfl), ?_⟩
    rw [releaseIdle_sup, releaseIdle_mode, releaseIdle_seq, releaseIdle_pageSeq, hpage]
    exact ⟨hmode, hreq, hseq, pageSeq_hdrSeq _ _⟩
  · refine ⟨_, congrArg Host.Outcome.next (hexec 2#32 acc (s.at_ a) State.goRun h (by decide) fun _ => rfl), ?_⟩
    rw [goRun_discarded (s := (s.at_ a).written 1 1 0x40 0 Reg.SUP_CTRL supCtrlRow 2#32) hd hq, releaseIdle_sup, releaseIdle_mode,
      errCode_releaseIdle (by decide) (by decide)]
    unfold State.discardRequest
    rw [commit_sup, commit_mode]
    exact ⟨errCode_commit_last [] _ (l := []) (c := ⟨Pg.SUP, 0x1191, [0, 0], false⟩) rfl (by decide) rfl rfl rfl, hq, rfl⟩

end Sys2Proof.Proofs
end

section
/-! SUPPORT. What power-on and a commanded reset leave (R418, R420, R444): every field fresh but for what survives a reset. -/

namespace Sys2Proof.Proofs

open Sys2Proof Sys2Proof.Machine

-- One proof after another: many at once wait for the kernel in threads of their own, which the check's memory limit does not hold.
set_option Elab.async false

/-- The module in BOOT after a reset of a cause: the base the straps spell, and every unit as at reset. -/
structure AfterReset (cause base : Nat) (t : State) : Prop where
  mode : t.mode = .boot
  cause : rget t.sup.regs Reg.SUP_RESET_CAUSE = wd cause
  base : rget t.chn.regs Reg.CHN_BASE = wd base
  seq : t.seq = Seq.fresh
  est : t.est = Est.fresh
  fus : t.fus = Fus.fresh
  gns : t.gns = Gns.fresh
  ctl : t.ctl = Ctl.fresh
  alc : t.alc = Alc.fresh
  sol : t.sol = Sol.fresh
  can : t.can = State.reset.can
  fio : t.fio = State.reset.fio
  ser : t.ser = State.reset.ser
  pos : t.pos = State.reset.pos
  stopped : t.sup.stopped = 0#12

/-- BOOT entered from the reset state (R418, R420). -/
theorem afterReset_enter (cause base : Nat) (s : State) : AfterReset cause base ((s.resetTo cause base).enter .boot) := by
  have h := shell_enter .boot (s.resetTo cause base)
  exact
    { mode := enter_mode _ _
      cause := by rw [enter_sup]; exact (rget_rset ..).trans (if_pos rfl)
      base := by rw [chn_of_shell h]; exact (rget_rset ..).trans (if_pos rfl)
      seq := (enter_seq _ _).trans rfl
      est := est_of_shell h
      fus := fus_of_shell h
      gns := gns_of_shell h
      ctl := ctl_of_shell h
      alc := alc_of_shell h
      sol := sol_of_shell h
      can := (can_of_shell h :)
      fio := (fio_of_shell h :)
      ser := (ser_of_shell h :)
      pos := (pos_of_shell h :)
      stopped := by rw [enter_sup]; rfl }

/-- PWR after BOOT is entered from the reset state. -/
theorem pwr_enter_resetTo (cause base : Nat) (s : State) : ((s.resetTo cause base).enter .boot).pwr = State.reset.pwr :=
  (pwr_of_shell (shell_enter .boot (s.resetTo cause base)) :)

/-- The bytes of the nonvolatile store stand through a reset and BOOT's entry (R420, R425). -/
theorem byte_enter_resetTo (cause base : Nat) (s : State) {x : Nat} (h : nonvolatile x = true) :
    ((s.resetTo cause base).enter .boot).mem.byte x = s.mem.byte x := by
  rw [enter_mem, byte_resetTo _ _ _ _ h]

/-- The release of idle consumers leaves what a reset leaves. -/
theorem AfterReset.release {cause base : Nat} {t : State} (h : AfterReset cause base t) : AfterReset cause base t.releaseIdle where
  mode := (releaseIdle_mode t).trans h.mode
  cause := by rw [releaseIdle_sup]; exact h.cause
  base := by rw [releaseIdle_chn]; exact h.base
  seq := (releaseIdle_seq t).trans h.seq
  est := (releaseIdle_est t).trans h.est
  fus := (releaseIdle_fus t).trans h.fus
  gns := (releaseIdle_gns t).trans h.gns
  ctl := (releaseIdle_ctl t).trans h.ctl
  alc := (releaseIdle_alc t).trans h.alc
  sol := (releaseIdle_sol t).trans h.sol
  can := (releaseIdle_can t).trans h.can
  fio := (releaseIdle_fio t).trans h.fio
  ser := (releaseIdle_ser t).trans h.ser
  pos := (releaseIdle_pos t).trans h.pos
  stopped := by rw [releaseIdle_sup]; exact h.stopped

/-- An admitted access meets a module that has power. -/
theorem mode_ne_off_of_admits {s : State} {acc : Accessor} {page off : Nat} (h : s.Admits acc page off) : s.mode ≠ .off := by
  obtain ⟨-, hup, -⟩ := h
  intro hm
  simp [State.pageUp, State.islandUp, hm] at hup

/-- The fields of SUP_RESET: one write-only word. -/
def supResetRow : RegRow := ⟨0x4C, 0x0, 0x0, 0x0, 0x0, 0xFFFFFFFF, 0x0, 0, 1⟩

/-- An admitted write of 0x5A7C to SUP_RESET: the reset, from the state that the write and the record of it leave. -/
theorem commandedReset_taken (acc : Accessor) (base : Nat) {s : State} (h : s.Admits acc Pg.SUP 0x4C) :
    s.writeNamed (fun _ _ _ s => s.resetWrite base 0x5A7C#32) acc Reg.SUP_RESET 0 0x5A7C#32 =
      ((((s.written 1 1 0x4C 0 Reg.SUP_RESET supResetRow 0x5A7C#32).codeRec Pg.SUP 0x0198 []).resetTo 2 base).enter .boot).releaseIdle := by
  rw [writeNamed_taken _ acc Reg.SUP_RESET 0 _ s h (by decide) (by decide) supResetRow 0 (by decide) (by decide) (by decide) rfl
    (.inl rfl) (by decide) rfl (by cases s.mode == .run <;> decide)]
  refine congrArg State.releaseIdle ((if_pos rfl).trans (if_neg ?_))
  exact mode_ne_off_of_admits h

/-- Settles O2: both resets enter BOOT from the reset state, which keeps the nonvolatile bytes; the hold-up store only switches off. -/
theorem powerAndResets : Obligations.PowerAndResets := by
  unfold Obligations.PowerAndResets
  refine ⟨fun a A B s hm => ?_, fun a acc A B s h => ?_, fun a s hm hw => congrArg Host.Outcome.next (if_pos ⟨hm, hw⟩)⟩
  · have hr := afterReset_enter 1 (strapBase A B) (s.at_ a)
    exact ⟨_, congrArg Host.Outcome.next (if_pos hm), hr.mode, hr.cause, hr.base, hr.seq, hr.est, hr.fus, hr.gns, hr.ctl, hr.alc, hr.sol,
      hr.can, hr.fio, hr.ser, hr.pos, pwr_enter_resetTo _ _ _, fun x hx => byte_enter_resetTo _ _ (s.at_ a) hx⟩
  · have hr := (afterReset_enter 2 (strapBase A B)
      (((s.at_ a).written 1 1 0x4C 0 Reg.SUP_RESET supResetRow 0x5A7C#32).codeRec Pg.SUP 0x0198 [])).release
    refine ⟨_, congrArg Host.Outcome.next (commandedReset_taken acc (strapBase A B) (s := s.at_ a) h), hr.mode, hr.cause, hr.base, hr.seq,
      hr.est, hr.fus, hr.gns, hr.ctl, hr.alc, hr.sol, hr.can, hr.fio, hr.ser, hr.pos, hr.stopped, fun x hx => ?_⟩
    rw [releaseIdle_mem, byte_enter_resetTo _ _ _ hx]
    exact bytes_commit ..

end Sys2Proof.Proofs
end

section
/-! SUPPORT. The rules of the safety layer's work: what a step of an instance leaves of the layer, and what the pages show (R365–R388). -/

namespace Sys2Proof.Proofs

open Sys2Proof Sys2Proof.Machine

-- One proof after another: many at once wait for the kernel in threads of their own, which the check's memory limit does not hold.
set_option Elab.async false

/-! ## Channels and instances -/

/-- The layer but for what its pages show and what its instances are. -/
def safFrame (u : Saf) : Saf := { u with regs := [], c := { u.c with insts := [] }, h := { u.h with insts := [] } }

section
variable {u v : Saf} (h : safFrame v = safFrame u)
include h
theorem filt_of_frame (b : Bool) : (v.chan b).filt = (u.chan b).filt := by
  cases b
  · exact congrArg (·.h.filt) h
  · exact congrArg (·.c.filt) h
theorem set_of_frame : v.set = u.set := congrArg (·.set) h
theorem layer_of_frame : v.layer = u.layer := congrArg (·.layer) h
theorem outs_of_frame : v.outs = u.outs := congrArg (·.outs) h
theorem pressed_of_frame : v.pressed = u.pressed := congrArg (·.pressed) h
theorem raw_of_frame (b : Bool) : (v.chan b).raw = (u.chan b).raw := by
  cases b
  · exact congrArg (·.h.raw) h
  · exact congrArg (·.c.raw) h
theorem soFault_of_frame (i : Nat) : v.soFault i = u.soFault i := by
  unfold Saf.soFault Saf.out
  rw [set_of_frame h, outs_of_frame h]
end

theorem inst_putInst (c : SafChan) (i j : Nat) (x : SafInst) : (c.putInst i x).inst j = if j = i then x else c.inst j :=
  sget_sset ..

theorem chan_putChan (u : Saf) (b isC : Bool) (c : SafChan) : (u.putChan isC c).chan b = if b = isC then c else u.chan b := by
  cases b <;> cases isC <;> rfl

/-- An instance after a change of one. -/
theorem inst_modInst (u : Saf) (isC b : Bool) (i j : Nat) (g : SafInst → SafInst) :
    ((Saf.modInst isC i g u).chan b).inst j = if b = isC ∧ j = i then g ((u.chan isC).inst i) else (u.chan b).inst j := by
  unfold Saf.modInst
  rw [chan_putChan]
  by_cases hb : b = isC
  · rw [if_pos hb, inst_putInst, hb]
    by_cases hj : j = i
    · rw [if_pos hj, if_pos ⟨rfl, hj⟩]
    · rw [if_neg hj, if_neg fun h => hj h.2]
  · rw [if_neg hb, if_neg fun h => hb h.1]

theorem inst_modInst_same (u : Saf) (isC : Bool) (i : Nat) (g : SafInst → SafInst) :
    ((Saf.modInst isC i g u).chan isC).inst i = g ((u.chan isC).inst i) := (inst_modInst ..).trans (if_pos ⟨rfl, rfl⟩)

theorem frame_modInst (u : Saf) (isC : Bool) (i : Nat) (g : SafInst → SafInst) : safFrame (Saf.modInst isC i g u) = safFrame u := by
  cases isC <;> rfl

/-! ## Work on instances -/

/-- Work that goes on from w to v: nothing stored, and of the layer the instances of T alone changed. -/
structure Touches (T : Bool → Nat → Prop) (w v : W Saf) : Prop where
  st : v.st = w.st
  frame : safFrame v.u = safFrame w.u
  insts : ∀ b j, ¬ T b j → (v.u.chan b).inst j = (w.u.chan b).inst j
  chans : ∀ b, (∀ j, ¬ T b j) → v.u.chan b = w.u.chan b

section
variable {T T' : Bool → Nat → Prop} {w v x : W Saf} {isC : Bool} {i now : Nat}

theorem Touches.refl (w : W Saf) : Touches T w w := ⟨rfl, rfl, fun _ _ _ => rfl, fun _ _ => rfl⟩
theorem Touches.trans (h : Touches T w v) (k : Touches T v x) : Touches T w x :=
  ⟨k.st.trans h.st, k.frame.trans h.frame, fun b j hn => (k.insts b j hn).trans (h.insts b j hn),
    fun b hn => (k.chans b hn).trans (h.chans b hn)⟩
theorem Touches.mono (h : Touches T w v) (hT : ∀ b j, T b j → T' b j) : Touches T' w v :=
  ⟨h.st, h.frame, fun b j hn => h.insts b j fun k => hn (hT b j k), fun b hn => h.chans b fun j k => hn j (hT b j k)⟩
theorem Touches.ite (c : Prop) [Decidable c] (hv : Touches T w v) (hx : Touches T w x) : Touches T w (if c then v else x) := by
  split
  · exact hv
  · exact hx

theorem Touches.code (h : Touches T w v) (p c : Nat) (l : List Word) : Touches T w (v.code p c l) := ⟨h.st, h.frame, h.insts, h.chans⟩
theorem Touches.codeRec (h : Touches T w v) (p c : Nat) (l : List Word) : Touches T w (v.codeRec p c l) := ⟨h.st, h.frame, h.insts, h.chans⟩
theorem Touches.evt (h : Touches T w v) (p f : Nat) : Touches T w (v.evt p f) := ⟨h.st, h.frame, h.insts, h.chans⟩
theorem Touches.trigger (h : Touches T w v) (t : Trigger) : Touches T w (v.trigger t) := ⟨h.st, h.frame, h.insts, h.chans⟩
theorem Touches.when (h : Touches T w v) {c : Bool} {f : W Saf → W Saf} (hf : ∀ y, Touches T w y → Touches T w (f y)) :
    Touches T w (v.when c f) := when_keeps hf h
theorem Touches.foldl (h : Touches T w v) {B : Type} {f : W Saf → B → W Saf} (hf : ∀ y b, Touches T w y → Touches T w (f y b))
    (l : List B) : Touches T w (l.foldl f v) := foldl_keeps (Touches T w) f hf l v h

/-- The page's registers changed. -/
theorem Touches.regs (h : Touches T w v) (m : Saf → RMap) : Touches T w (v.map fun u => { u with regs := m u }) :=
  ⟨h.st, h.frame, fun b j hn => (by cases b <;> rfl : _ = (v.u.chan b).inst j).trans (h.insts b j hn),
    fun b hn => (by cases b <;> rfl : _ = v.u.chan b).trans (h.chans b hn)⟩

theorem Touches.modInst (h : Touches T w v) (hT : T isC i) (g : SafInst → SafInst) : Touches T w (v.map (Saf.modInst isC i g)) :=
  ⟨h.st, (frame_modInst ..).trans h.frame, fun b j hn =>
    ((inst_modInst ..).trans (if_neg fun (e : b = isC ∧ j = i) => hn (by rw [e.1, e.2]; exact hT))).trans (h.insts b j hn),
    fun b hn => ((chan_putChan ..).trans (if_neg fun (e : b = isC) => hn i (by rw [e]; exact hT))).trans (h.chans b hn)⟩

theorem Touches.goto (h : Touches T w v) (hT : T isC i) (st : Nat) : Touches T w (Saf.goto isC now i st v) :=
  .ite _ h (.when (.when (.when (h.modInst hT _) fun _ k => (k.evt _ _).trigger _) fun _ k => (k.codeRec _ _ _).when fun _ m => m.evt _ _)
    fun _ k => (k.code _ _ _).when fun _ m => m.evt _ _)

theorem Touches.countFault (h : Touches T w v) (hT : T isC i) : Touches T w (Saf.countFault isC i v) := h.modInst hT _

theorem Touches.twoHand (h : Touches T w v) (hT : T isC i) : Touches T w (Saf.twoHand isC now i v) := by
  unfold Saf.twoHand
  extract_lets u f x l b1 b2 released miss
  have hmiss : Touches T w (miss v) := ((h.modInst hT _).code _ _ _).goto hT 6
  refine .ite _ (.ite _ (h.modInst hT _) (.ite _ ?first (.ite _ (h.modInst hT _) h))) (.ite _ (.ite _ h (h.goto hT 6))
    (.ite _ (.ite _ h ((h.code _ _ _).goto hT 5)) (.ite _ (.ite _ ((h.goto hT 1).modInst hT _) h) h)))
  case first =>
    split
    · exact .ite _ ((h.modInst hT _).goto hT 3) hmiss
    · exact .ite _ ((h.modInst hT _).goto hT 3) h

theorem Touches.evalInst (h : Touches T w v) (hT : T isC i) : Touches T w (Saf.evalInst isC now v i) := by
  unfold Saf.evalInst
  extract_lets u p f x dem ab cd
  have hw := h.modInst hT (fun x => { x with
    demand := dem, pairAB := ab, pairCD := cd, demands := if dem && !x.demand then x.demands + 1 else x.demands })
  exact .ite _ h (.ite _ (hw.twoHand hT) (.ite _ (.ite _ (hw.goto hT _) hw) (.ite _ (.ite _ (hw.goto hT 1) hw)
    (.ite _ (.ite _ ((hw.code _ _ _).goto hT 5) hw) hw))))

theorem Touches.evaluate (h : Touches T w v) (hT : ∀ i, T isC i) : Touches T w (Saf.evaluate isC now v) :=
  .ite _ (h.foldl (fun _ i k => k.evalInst (hT i)) _) h

theorem Touches.crossCompare (h : Touches T w v) (hT : ∀ b, T b i) : Touches T w (Saf.crossCompare now v i) := by
  unfold Saf.crossCompare
  extract_lets u differ n w1 set w2 w3 w4 w5
  have h1 : Touches T w w1 := h.modInst (hT _) _
  have h2 : Touches T w w2 := (h1.modInst (hT true) (fun x => { x with xcmp := true })).modInst (hT false) fun x => { x with xcmp := true }
  have h3 : Touches T w w3 := h2.regs _
  have h5 : Touches T w w5 := ((((h3.countFault (hT true)).countFault (hT false)).code _ _ _).code _ _ _).evt _ _
  exact .ite _ ((h5.goto (hT true) 5).goto (hT false) 5) h1

theorem Touches.discrepancy (h : Touches T w v) (hT : T isC i) : Touches T w (Saf.discrepancy now i v isC) :=
  .ite _ ((((h.modInst hT _).countFault hT).code _ _ _).goto hT 5) h
theorem Touches.syncTimeout (h : Touches T w v) (hT : T isC i) : Touches T w (Saf.syncTimeout now i v isC) :=
  .ite _ (((h.modInst hT _).code _ _ _).goto hT 6) h
theorem Touches.degExpiry (h : Touches T w v) (hT : T isC i) : Touches T w (Saf.degExpiry now i v isC) :=
  .ite _ ((h.code _ _ _).goto hT 5) h
theorem Touches.refuseReset (h : Touches T w v) (c : Bool) : Touches T w (Saf.refuseReset i c v) := (h.code _ _ _).evt _ _

theorem Touches.resetInst (h : Touches T w v) (hT : T isC i) : Touches T w (Saf.resetInst isC now v i) :=
  .ite _ (.ite _ (h.when fun _ k => k.refuseReset _) (h.goto hT 3))
    (.ite _ (.ite _ (h.when fun _ k => k.refuseReset _) (.ite _ (h.when fun _ k => k.refuseReset _) ((h.modInst hT _).goto hT _))) h)

end

/-! ## What the pages show -/

/-- The layer but for what its pages show and the outputs. -/
def safHidden (u : Saf) : Saf := { u with regs := [], outs := [] }

theorem hidden_seeRequests (u : Saf) : safHidden u.seeRequests = safHidden u := by
  refine foldl_keeps (fun v : Saf => safHidden v = safHidden u) _ (fun v k hv => ?_) _ _ rfl
  have hput : ∀ o : SafOut, safHidden (v.putOut k o) = safHidden v := fun _ => rfl
  dsimp only
  simp only [apply_ite safHidden, hput, ite_self, hv]

/-- What the pages show follows from the layer: `settle` changes the registers and the outputs alone. -/
theorem hidden_settle (now : Nat) (u : Saf) : safHidden (u.settle now) = safHidden u := by
  have hshow : safHidden ((upto 16).foldl (Saf.showInst now) u.seeRequests) = safHidden u :=
    foldl_keeps (fun v : Saf => safHidden v = safHidden u) _ (by intro v i hv; exact hv) _ _ (hidden_seeRequests u)
  have hregs : ∀ (x : Saf) (m : RMap), safHidden { x with regs := m } = safHidden x := fun _ _ => rfl
  unfold Saf.settle
  dsimp only
  rw [hregs, hregs, hshow]

section
variable {u v : Saf} (h : safHidden v = safHidden u)
include h
theorem chan_of_hidden (b : Bool) : v.chan b = u.chan b := by
  cases b
  · exact congrArg (·.h) h
  · exact congrArg (·.c) h
theorem pressed_of_hidden : v.pressed = u.pressed := congrArg (·.pressed) h
theorem set_of_hidden : v.set = u.set := congrArg (·.set) h
theorem layer_of_hidden : v.layer = u.layer := congrArg (·.layer) h
end

@[simp] theorem chan_settle (now : Nat) (u : Saf) (b : Bool) : (u.settle now).chan b = u.chan b := chan_of_hidden (hidden_settle now u) b
@[simp] theorem pressed_settle (now : Nat) (u : Saf) : (u.settle now).pressed = u.pressed := pressed_of_hidden (hidden_settle now u)
@[simp] theorem set_settle (now : Nat) (u : Saf) : (u.settle now).set = u.set := set_of_hidden (hidden_settle now u)
@[simp] theorem layer_settle (now : Nat) (u : Saf) : (u.settle now).layer = u.layer := layer_of_hidden (hidden_settle now u)

theorem regs_seeRequests (u : Saf) : u.seeRequests.regs = u.regs := by
  refine foldl_keeps (fun v : Saf => v.regs = u.regs) _ (fun v k hv => ?_) _ _ rfl
  have hput : ∀ o : SafOut, (v.putOut k o).regs = v.regs := fun _ => rfl
  dsimp only
  simp only [apply_ite Saf.regs, hput, ite_self, hv]

/-- A register that the layer's state does not decide stands. -/
theorem rget_settle (now : Nat) (u : Saf) {k : Nat} (hk : k % 0x400 ∉ [Reg.SAFC_I_STAT % 0x400, Reg.SAFC_I_DEG % 0x400,
      Reg.SAFC_I_CNT % 0x400, Reg.SAFC_STAT % 0x400, Reg.SAFC_IN % 0x400, Reg.SAFH_STAT % 0x400, Reg.SAFH_IN % 0x400,
      Reg.SAFH_PERMIT % 0x400, Reg.SFO_STAT % 0x400, Reg.SFO_O_STAT % 0x400]) :
    rget (u.settle now).regs k = rget u.regs k := by
  have hne : ∀ r w, r % 0x400 ≠ k % 0x400 → rk r 0 w ≠ k := fun r w h e => h (by rw [← e, rk_offset])
  have hne' : ∀ r, r % 0x400 ≠ k % 0x400 → r ≠ k := fun r h e => h (by rw [e])
  simp only [List.mem_cons, List.not_mem_nil, or_false, not_or] at hk
  obtain ⟨h1, h2, h3, h4, h5, h6, h7, h8, h9, h10⟩ := hk
  have hshow : ∀ (l : List Nat) (x : Saf), rget (l.foldl (Saf.showInst now) x).regs k = rget x.regs k := fun l x =>
    foldl_keeps (fun v : Saf => rget v.regs k = rget x.regs k) _ (fun v i hv => (rget_rsets_of_ne _ _ _ (by
      intro p hp
      simp only [List.mem_cons, List.not_mem_nil, or_false] at hp
      rcases hp with rfl | rfl | rfl
      · exact hne _ _ (Ne.symm h1)
      · exact hne _ _ (Ne.symm h2)
      · exact hne _ _ (Ne.symm h3))).trans hv) l x rfl
  unfold Saf.settle
  dsimp only
  rw [rget_rsets_of_ne, rget_rsets_of_ne, hshow, regs_seeRequests]
  · intro p hp
    simp only [List.mem_cons, List.not_mem_nil, or_false] at hp
    rcases hp with rfl | rfl | rfl | rfl | rfl | rfl
    · exact hne' _ (Ne.symm h4)
    · exact hne' _ (Ne.symm h5)
    · exact hne' _ (Ne.symm h6)
    · exact hne' _ (Ne.symm h7)
    · exact hne' _ (Ne.symm h8)
    · exact hne' _ (Ne.symm h9)
  · intro p hp
    obtain ⟨i, -, rfl⟩ := List.mem_map.mp hp
    exact hne _ _ (Ne.symm h10)

end Sys2Proof.Proofs
end

section
/-! SUPPORT. Writes of SAFC's registers: staging, check and confirmation of a set (R376, R379). -/

namespace Sys2Proof.Proofs

open Sys2Proof Sys2Proof.Machine

-- One proof after another: many at once wait for the kernel in threads of their own, which the check's memory limit does not hold.
set_option Elab.async false

/-! ## The writes -/

/-- The fields of SAFC_P_DATA: one word. -/
def stagingRow : RegRow := ⟨0x74, 0x0, 0xFFFFFFFF, 0x0, 0x0, 0x0, 0x0, 0, 1⟩
/-- The fields of SAFC_P_LOAD: CHECK, which clears itself. -/
def paramLoadRow : RegRow := ⟨0x78, 0x0, 0x0, 0x0, 0x0, 0x0, 0x1, 0, 1⟩
/-- The fields of SAFC_CONFIRM: one write-only word. -/
def confirmRow : RegRow := ⟨0x48, 0x0, 0x0, 0x0, 0x0, 0xFFFFFFFF, 0x0, 0, 1⟩

section
variable (acc : Accessor) {v : Word} {s : State}

/-- A write of SAFC_P_DATA in CONFIG and SERVICE. -/
theorem staging_taken (h : s.Admits acc Pg.SAFC (Reg.SAFC_P_DATA % 0x400)) (hm : safWritable s.mode = true) :
    s.writePlain acc Reg.SAFC_P_DATA 0 v =
      (State.onSaf (Saf.stage s.mode v) (s.written 0xB 0xB 0x74 0 Reg.SAFC_P_DATA stagingRow v)).releaseIdle :=
  writePlain_taken acc Reg.SAFC_P_DATA 0 v s h (by decide) (by decide) stagingRow 0 (by decide) (by decide) (by decide) rfl (.inl rfl)
    (by decide) (congrArg Bool.not hm) (by cases s.mode == .run <;> rfl)

/-- A write of SAFC_P_DATA elsewhere leaves its code alone. -/
theorem staging_discarded (h : s.Admits acc Pg.SAFC (Reg.SAFC_P_DATA % 0x400)) (hm : safWritable s.mode = false) :
    s.writePlain acc Reg.SAFC_P_DATA 0 v = (State.onSaf (Saf.stage s.mode v) s).releaseIdle :=
  writePlain_discarded acc Reg.SAFC_P_DATA 0 v s h (by decide) (by decide) stagingRow 0 (by decide) (by decide) (by decide) rfl (.inl rfl)
    (by decide) (congrArg Bool.not hm) (by cases s.mode == .run <;> rfl)

/-- A write of SAFC_P_LOAD.CHECK. -/
theorem paramCheck_taken (h : s.Admits acc Pg.SAFC (Reg.SAFC_P_LOAD % 0x400)) :
    s.writePlain acc Reg.SAFC_P_LOAD 0 1#32 =
      ({ s.written 0xB 0xB 0x78 0 Reg.SAFC_P_LOAD paramLoadRow 1#32 with
        saf := (s.written 0xB 0xB 0x78 0 Reg.SAFC_P_LOAD paramLoadRow 1#32).saf.check } : State).releaseIdle :=
  writePlain_taken acc Reg.SAFC_P_LOAD 0 1#32 s h (by decide) (by decide) paramLoadRow 0 (by decide) (by decide) (by decide) rfl (.inl rfl)
    (by decide) rfl (by cases s.mode == .run <;> rfl)

/-- A write of SAFC_CONFIRM. -/
theorem confirm_taken (h : s.Admits acc Pg.SAFC (Reg.SAFC_CONFIRM % 0x400)) :
    s.writePlain acc Reg.SAFC_CONFIRM 0 v =
      (State.onSaf (Saf.confirm (s.feature 12) s.mode v) (s.written 0xB 0xB 0x48 0 Reg.SAFC_CONFIRM confirmRow v)).releaseIdle :=
  writePlain_taken acc Reg.SAFC_CONFIRM 0 v s h (by decide) (by decide) confirmRow 0 (by decide) (by decide) (by decide) rfl (.inl rfl)
    (by decide) rfl (by cases s.mode == .run <;> rfl)

end

/-! ## The cell that a write leaves -/

/-- The layer with one cell of SAFC's page changed. -/
def withCell (k : Nat) (v : Word) (u : Saf) : Saf := { u with regs := rset u.regs k v }

theorem rget_withCell {k j : Nat} (v : Word) (u : Saf) (h : j ≠ k) : rget (withCell k v u).regs j = rget u.regs j :=
  (rget_rset ..).trans (if_neg h)

/-- The state a taken write of SAFC_P_LOAD acts in. -/
theorem saf_written_load (s : State) (v : Word) : ∃ x, (s.written 0xB 0xB 0x78 0 Reg.SAFC_P_LOAD paramLoadRow v).saf =
    withCell Reg.SAFC_P_LOAD x s.saf := ⟨_, rfl⟩

/-- The state a taken write of SAFC_CONFIRM acts in. -/
theorem saf_written_confirm (s : State) (v : Word) : ∃ x, (s.written 0xB 0xB 0x48 0 Reg.SAFC_CONFIRM confirmRow v).saf =
    withCell Reg.SAFC_CONFIRM x s.saf := ⟨_, rfl⟩

/-! ## Staging (R379) -/

/-- Staging where it is allowed: the word stored, the window moved on, CHECKED and CONFIRMED undone. -/
theorem stage_stores {m : Mode} (hm : safWritable m = true) (v : Word) (u : Saf) :
    let i := rfld u.regs Reg.SAFC_P_WIN 8 0
    let t := (Saf.stage m v u).u
    t.staging = (if i < 320 then sset (fun _ => (0 : Word)) u.staging i v else u.staging) ∧
      rfld t.regs Reg.SAFC_P_WIN 8 0 = (i + 1) % 512 ∧ rbit t.regs Reg.SAFC_CONF_STAT 0 = false ∧
      rbit t.regs Reg.SAFC_CONF_STAT 1 = false ∧ (Saf.stage m v u).st = [] := by
  intro i t
  have ht : Saf.stage m v u = W.of { u with
      staging := if i < 320 then sset (fun _ => (0 : Word)) u.staging i v else u.staging
      regs := rmod (rmod u.regs Reg.SAFC_P_WIN (fun x => putBits x 8 0 (i + 1))) Reg.SAFC_CONF_STAT
        (fun x => putBit (putBit x 0 false) 1 false) } := if_pos hm
  have hu : t = _ := congrArg W.u ht
  rw [hu, ht]
  refine ⟨rfl, ?_, ?_, ?_, rfl⟩
  · unfold rfld
    rw [u_of, rget_rmod_ne _ _ (by decide), rget_rmod, if_pos rfl, bits_putBits_same _ _ (by decide) (by decide)]
    rfl
  · unfold rbit
    rw [u_of, rget_rmod, if_pos rfl, bit_putBit _ _ _ (by decide), if_neg (by decide), bit_putBit _ _ _ (by decide), if_pos rfl]
  · unfold rbit
    rw [u_of, rget_rmod, if_pos rfl, bit_putBit _ _ _ (by decide), if_pos rfl]

/-- Staging leaves everything but the staging copy and the page. -/
theorem stage_keeps (m : Mode) (v : Word) (u : Saf) :
    (Saf.stage m v u).u.layer = u.layer ∧ (Saf.stage m v u).u.set = u.set ∧ (Saf.stage m v u).u.active = u.active ∧
      (∀ b, (Saf.stage m v u).u.chan b = u.chan b) ∧ (Saf.stage m v u).st = [] := by
  unfold Saf.stage
  split
  · exact ⟨rfl, rfl, rfl, fun b => by cases b <;> rfl, rfl⟩
  · exact ⟨rfl, rfl, rfl, fun b => by cases b <;> rfl, rfl⟩

/-- Staging elsewhere records 0x11A2 alone. -/
theorem stage_refused {m : Mode} (hm : safWritable m = false) (v : Word) (u : Saf) :
    Saf.stage m v u = (W.of u).code Pg.SAFC 0x11A2 [] := if_neg (by rw [hm]; decide)

/-! ## The check (R376, R379) -/

/-- What a check shows of a cell that it does not write: nothing. -/
theorem rget_check_bound (u : Saf) {i : Nat} (hi : i < 16) :
    rget u.check.regs (rk Reg.SAFC_I_BOUND 0 i) = if recEn u.stagingSet i then wd (setBound u.stagingSet i) else 0#32 := by
  have hbounds : rget (u.showBounds u.stagingSet).regs (rk Reg.SAFC_I_BOUND 0 i) =
      if recEn u.stagingSet i then wd (setBound u.stagingSet i) else 0#32 := by
    refine rget_rsets_of_mem ?_ (List.mem_map.mpr ⟨i, List.mem_range.mpr hi, rfl⟩)
    rw [List.map_map]
    exact List.Nodup.map_on (fun x _ y _ e => ((rk_inj (by decide) (by decide)).mp e).2) List.nodup_range
  rw [← hbounds]
  have hne : ∀ q : Nat, q % 0x400 ≠ Reg.SAFC_I_BOUND % 0x400 → rk Reg.SAFC_I_BOUND 0 i ≠ q := fun q hq e =>
    hq (by rw [← e, rk_offset])
  unfold Saf.check
  dsimp only
  rw [rget_rmod_ne _ _ (hne _ (by decide)), rget_rsets_of_ne]
  intro p hp
  simp only [List.mem_cons, List.not_mem_nil, or_false] at hp
  rcases hp with rfl | rfl
  · exact (hne Reg.SAFC_CHECK (by decide)).symm
  · exact (hne Reg.SAFH_CHECK (by decide)).symm

/-- What a check shows: the check value to both channels and the result of the validation. -/
theorem check_shows (u : Saf) :
    rget u.check.regs Reg.SAFC_CHECK = checkValue u.stagingSet ∧ rget u.check.regs Reg.SAFH_CHECK = checkValue u.stagingSet ∧
      rbit u.check.regs Reg.SAFC_CONF_STAT 0 = decide ((validate u.stagingSet).1 = 0) ∧
      rbit u.check.regs Reg.SAFC_CONF_STAT 1 = false ∧
      rfld u.check.regs Reg.SAFC_CONF_STAT 11 8 = (validate u.stagingSet).1 % 16 := by
  have hregs : u.check.regs = rmod (rset (rset (u.showBounds u.stagingSet).regs Reg.SAFC_CHECK (checkValue u.stagingSet)) Reg.SAFH_CHECK
      (checkValue u.stagingSet)) Reg.SAFC_CONF_STAT (fun x => putBits (putBits (putBit (putBit x 0
        (decide ((validate u.stagingSet).1 = 0))) 1 false) 11 8 (validate u.stagingSet).1) 19 16 (validate u.stagingSet).2) := rfl
  have hstat : ∀ j, j < 8 → rbit u.check.regs Reg.SAFC_CONF_STAT j = bit (putBit (putBit _ 0
      (decide ((validate u.stagingSet).1 = 0))) 1 false) j := fun j hj => by
    unfold rbit
    rw [hregs, rget_rmod, if_pos rfl, bit, bit, getLsbD_putBits _ _ _ _ (by decide) (by omega), if_neg (by omega),
      getLsbD_putBits _ _ _ _ (by decide) (by omega), if_neg (by omega)]
  refine ⟨?_, ?_, ?_, ?_, ?_⟩
  · rw [hregs, rget_rmod_ne _ _ (by decide), rget_rset, if_neg (by decide), rget_rset, if_pos rfl]
  · rw [hregs, rget_rmod_ne _ _ (by decide), rget_rset, if_pos rfl]
  · rw [hstat 0 (by decide), bit_putBit _ _ _ (by decide), if_neg (by decide), bit_putBit _ _ _ (by decide), if_pos rfl]
  · rw [hstat 1 (by decide), bit_putBit _ _ _ (by decide), if_pos rfl]
  · unfold rfld
    rw [hregs, rget_rmod, if_pos rfl, bits_putBits_apart _ _ (by decide) (by decide) (.inl (by decide)),
      bits_putBits_same _ _ (by decide) (by decide)]
    rfl

/-- A validation answers a reason of R379. -/
theorem validate_lt (p : List Word) : (validate p).1 < 16 := by
  unfold validate
  dsimp only
  split
  · decide
  · split
    · decide
    · split
      · exact (by decide : 3 < 16)
      · split
        · exact (by decide : 4 < 16)
        · split
          · exact (by decide : 5 < 16)
          · split
            · decide
            · split <;> decide

/-! ## The confirmation (R379) -/

/-- A refusal of a confirmation has a reason of R379. -/
theorem confirmFault_lt {f : Bool} {m : Mode} {v : Word} {u : Saf} {r i : Nat} (h : u.confirmFault f m v = some (r, i)) : r < 16 := by
  unfold Saf.confirmFault at h
  dsimp only at h
  split at h
  · cases h; decide
  · split at h
    · cases h; decide
    · split at h
      · cases h; decide
      · split at h
        · cases h; decide
        · split at h
          · cases h; decide
          · split at h
            · cases h; decide
            · split at h
              · cases h; decide
              · cases h

/-- The cell of SAFC_CONFIRM does not bear on the confirmation. -/
theorem confirmFault_withCell (f : Bool) (m : Mode) (v x : Word) (u : Saf) :
    (withCell Reg.SAFC_CONFIRM x u).confirmFault f m v = u.confirmFault f m v := by
  have hkey : ∀ b, (withCell Reg.SAFC_CONFIRM x u).key b = u.key b := fun b => by cases b <;> rfl
  unfold Saf.confirmFault rbit
  rw [rget_withCell _ _ (by decide), rget_withCell _ _ (by decide), rget_withCell _ _ (by decide), hkey, hkey]
  rfl

/-- A confirmation refused: its REASON, and nothing stored. -/
theorem confirm_refused {f : Bool} {m : Mode} {v : Word} {u : Saf} {r i : Nat} (h : u.confirmFault f m v = some (r, i)) :
    ∃ x, Saf.confirm f m v u = ((W.of (withCell Reg.SAFC_CONF_STAT x u)).code Pg.SAFC 0x11A1 [wd r]).evt Pg.SAFC 3 ∧ bits x 7 4 = r := by
  unfold Saf.confirm
  rw [h]
  refine ⟨_, rfl, ?_⟩
  have hr : bits (putBits (rget u.regs Reg.SAFC_CONF_STAT) 7 4 r) 7 4 = r :=
    (bits_putBits_same _ _ (by decide) (by decide)).trans (Nat.mod_eq_of_lt (confirmFault_lt h))
  dsimp only
  split
  · exact (bits_putBits_apart _ _ (by decide) (by decide) (.inl (by decide))).trans hr
  · exact hr

/-- The region that a confirmation stores into: the one not active. -/
def otherRegion (a : Option Bool) : Bool := match a with | some x => !x | none => false

/-- A confirmation accepted: the region not active takes the set and becomes the active one. -/
theorem confirm_accepted {f : Bool} {m : Mode} {v : Word} {u : Saf} (h : u.confirmFault f m v = none) :
    ∃ x, Saf.confirm f m v u = (((W.of { withCell Reg.SAFC_CONF_STAT x u with
        active := some (otherRegion u.active)
        valueA := if otherRegion u.active then u.valueA else v
        valueB := if otherRegion u.active then v else u.valueB }).codeRec Pg.SAFC 0x01A0 []).evt Pg.SAFC 3).store Pg.SAFC
          (safRegion (otherRegion u.active)) (wordsBytes u.stagingSet) ∧ bit x 1 = true ∧ bit x 2 = true := by
  unfold Saf.confirm
  rw [h]
  refine ⟨putBit (putBit (rget u.regs Reg.SAFC_CONF_STAT) 1 true) 2 true, rfl, ?_, ?_⟩
  · rw [bit_putBit _ _ _ (by decide), if_neg (by decide), bit_putBit _ _ _ (by decide), if_pos rfl]
  · rw [bit_putBit _ _ _ (by decide), if_pos rfl]

/-! ## What the writes leave -/

/-- The last code of a page that the layer's work records stands in its PAGE_ERR. -/
theorem errCode_onSaf_last {f : Saf → W Saf} {s : State} {l : List Code} {c : Code} (hc : (f s.saf).fx.codes = l ++ [c])
    (hq : c.page ≠ Pg.SNAP) (h2 : (f s.saf).fx.samples = []) (h3 : (f s.saf).fx.pushes = []) (h4 : (f s.saf).fx.triggers = []) :
    (s.onSaf f).errCode c.page = c.code % 0x10000 := errCode_commit_last _ _ hc hq h2 h3 h4

/-- The layer's work that stores nothing changes no byte. -/
theorem bytes_onSaf {f : Saf → W Saf} {s : State} (h : (f s.saf).st = []) (x : Nat) : (s.onSaf f).mem.byte x = s.mem.byte x := by
  rw [byte_onSaf, h]
  rfl

theorem safWritable_iff (m : Mode) : safWritable m = true ↔ m = .config ∨ m = .service := by cases m <;> decide

/-- SAFC_CONFIRM refused: the REASON shown, 0x11A1 recorded, nothing stored, the rest of the layer as it was. -/
theorem confirm_leaves {acc : Accessor} {v : Word} {s : State} {r i : Nat} (h : s.Admits acc Pg.SAFC (Reg.SAFC_CONFIRM % 0x400))
    (hf : s.saf.confirmFault (s.feature 12) s.mode v = some (r, i)) :
    let t := s.writePlain acc Reg.SAFC_CONFIRM 0 v
    rfld t.saf.regs Reg.SAFC_CONF_STAT 7 4 = r ∧ t.errCode Pg.SAFC = 0x11A1 ∧ s.SameBytes t ∧
      ∃ m, t.saf = { s.saf with regs := m } := by
  obtain ⟨x, hx⟩ := saf_written_confirm s v
  obtain ⟨y, hy, hr⟩ := confirm_refused ((confirmFault_withCell (s.feature 12) s.mode v x s.saf).trans hf)
  have hw : Saf.confirm (s.feature 12) s.mode v (s.written 0xB 0xB 0x48 0 Reg.SAFC_CONFIRM confirmRow v).saf = _ := (congrArg _ hx).trans hy
  intro t
  have ht : t = _ := confirm_taken acc h
  rw [ht, releaseIdle_saf, onSaf_saf, errCode_releaseIdle (by decide) (by decide)]
  refine ⟨?_, ?_, fun b => ?_, ?_⟩
  · rw [hw, rfld, u_evt, u_code, u_of, withCell, rget_rset, if_pos rfl, hr]
  · exact errCode_onSaf_last (l := []) (c := ⟨Pg.SAFC, 0x11A1, [wd r], false⟩) (by rw [hw]; rfl) (by decide : Pg.SAFC ≠ Pg.SNAP) (by rw [hw]; rfl)
      (by rw [hw]; rfl) (by rw [hw]; rfl)
  · rw [releaseIdle_mem, bytes_onSaf (by rw [hw]; rfl)]
    rfl
  · rw [hw]
    exact ⟨_, rfl⟩

/-- The reason that a bound beyond its PST gives, when nothing else refuses. -/
theorem confirmFault_bound {u : Saf} {m : Mode} {v : Word} {i : Nat} (hm : safWritable m = true) (hl : u.layer ≠ 3)
    (hk : u.key true = true) (hk' : u.key false = true) (hc : rbit u.regs Reg.SAFC_CONF_STAT 0 = true)
    (hv : rget u.regs Reg.SAFC_CHECK = v) (hv' : rget u.regs Reg.SAFH_CHECK = v) (hi : i < 16) (he : recEn u.stagingSet i = true)
    (hp : bit (recWord u.stagingSet i 0) 9 = true) (hb : (recWord u.stagingSet i 4).toNat < setBound u.stagingSet i) :
    ∃ j, u.confirmFault true m v = some (7, j) := by
  have hfind : ((setInsts u.stagingSet).find? (fun i => bit (recWord u.stagingSet i 0) 9 &&
      decide ((recWord u.stagingSet i 4).toNat < setBound u.stagingSet i))).isSome = true :=
    List.find?_isSome.mpr ⟨i, List.mem_filter.mpr ⟨List.mem_range.mpr hi, he⟩, by rw [hp, decide_eq_true hb]; rfl⟩
  obtain ⟨j, hj⟩ := Option.isSome_iff_exists.mp hfind
  refine ⟨j, ?_⟩
  unfold Saf.confirmFault
  dsimp only
  rw [if_neg (by decide), if_neg (by rw [hm]; simpa using hl), if_neg (by rw [hk, hk']; decide), if_neg (by rw [hc]; decide),
    if_neg (by rw [hv, hv']; simp), if_neg (by rw [hv]; simp), hj]

/-- Settles O47: the check shows each bound, and a bound beyond its PST is the reason 7 of the confirmation. -/
theorem processSafetyTimeBounds : Obligations.ProcessSafetyTimeBounds := by
  unfold Obligations.ProcessSafetyTimeBounds
  refine ⟨fun a acc i f s h hi hf => ?_, fun a acc v i f s h h12 hm hl hk hk' hc hv hv' hi he hp hf hb => ?_⟩
  · refine ⟨_, congrArg Host.Outcome.next (paramCheck_taken acc (s := s.at_ a) h), ?_⟩
    obtain ⟨x, hx⟩ := saf_written_load (s.at_ a) 1#32
    rw [releaseIdle_saf]
    dsimp only
    rw [hx, rget_check_bound _ hi, hf]
    rfl
  · have hbound : (recWord s.saf.stagingSet i 4).toNat < setBound s.saf.stagingSet i := by
      unfold setBound
      rw [if_pos hp, ← hf]
      dsimp only
      omega
    obtain ⟨j, hj⟩ := confirmFault_bound hm hl hk hk' hc hv hv' hi he hp hbound
    have hfault : (s.at_ a).saf.confirmFault ((s.at_ a).feature 12) (s.at_ a).mode v = some (7, j) :=
      (congrArg (fun f => s.saf.confirmFault f s.mode v) h12).trans hj
    obtain ⟨hr, hcode, hbytes, m, hsaf⟩ := confirm_leaves (acc := acc) (s := s.at_ a) h hfault
    exact ⟨_, rfl, hr, hcode, by rw [hsaf]; rfl, hbytes⟩

/-! ## The standard request (R384) -/

/-- A refresh delivered to a channel. -/
theorem refreshReq_chan (now : Nat) (toC toH isC : Bool) (u : Saf) :
    (u.refreshReq now toC toH).chan isC = if (if isC then toC else toH) then { u.chan isC with
      req := BitVec.ofNat 8 (rfld u.regs Reg.SFO_REQ 7 0)
      reqAt := now
      lost := false } else u.chan isC := by
  unfold Saf.refreshReq
  dsimp only
  rw [chan_settle]
  cases toC <;> cases toH <;> cases isC <;> rfl

/-- A request lost: the channel is marked, reported, and uses no request bit with REQ_LOSS 0. -/
theorem lossReq_lost {now : Nat} {isC : Bool} {u : Saf} (hl : 1 ≤ u.layer) (hn : (u.chan isC).lost = false)
    (ht : 1000000 ≤ now - (u.chan isC).reqAt) :
    u.lossReq now isC =
      ((W.of (u.putChan isC { u.chan isC with lost := true })).code (safPage isC) 0x21C8 []).map (Saf.settle now) :=
  if_pos ⟨hl, hn, ht⟩

/-- The loss of a channel's requests touches `lost` of that channel alone. -/
theorem lossReq_chan (now : Nat) (isC b : Bool) (u : Saf) :
    (b ≠ isC → (u.lossReq now isC).u.chan b = u.chan b) ∧ ((u.lossReq now isC).u.chan b).insts = (u.chan b).insts ∧
      (u.lossReq now isC).st = [] := by
  unfold Saf.lossReq
  dsimp only
  split
  · rw [u_map, u_code, u_of, chan_settle, chan_putChan]
    refine ⟨fun h => if_neg h, ?_, rfl⟩
    split
    · next h => rw [h]
    · rfl
  · exact ⟨fun _ => rfl, rfl, rfl⟩

/-- A channel without requests closes no switch (R384). -/
theorem closes_lost {u : Saf} {isC : Bool} (hl : (u.chan isC).lost = true) (hb : bit (setWord u.set 3) 24 = false) (k : Nat) :
    u.closes isC k = false := by
  have hreq : u.request isC = 0 := by
    unfold Saf.request
    dsimp only
    rw [hl, hb]
    rfl
  unfold Saf.closes
  rw [hreq]
  simp

section
variable {a : At} {acc : Accessor} {s : State}

/-- The safety island's work while it runs. -/
theorem safDoes_runs {f : Nat → Saf → W Saf} (h : s.pageUp Pg.SAFC = true) :
    (s.at_ a).safDoes f = (s.at_ a).onSaf (f (s.at_ a).now) := if_pos h

/-- Staging in the states that allow it. -/
theorem staging_stores {v : Word} (h : s.Admits acc Pg.SAFC (Reg.SAFC_P_DATA % 0x400)) (hm : safWritable s.mode = true) :
    (s.writePlain acc Reg.SAFC_P_DATA 0 v).saf = (Saf.stage s.mode v s.saf).u ∧ s.SameBytes (s.writePlain acc Reg.SAFC_P_DATA 0 v) := by
  obtain ⟨-, -, -, -, hst⟩ := stage_keeps s.mode v s.saf
  rw [staging_taken acc h hm]
  refine ⟨by rw [releaseIdle_saf, onSaf_saf]; rfl, fun x => ?_⟩
  rw [releaseIdle_mem, bytes_onSaf (s := s.written 0xB 0xB 0x74 0 Reg.SAFC_P_DATA stagingRow v) hst]
  rfl

/-- Staging elsewhere. -/
theorem staging_refused {v : Word} (h : s.Admits acc Pg.SAFC (Reg.SAFC_P_DATA % 0x400)) (hm : safWritable s.mode = false) :
    (s.writePlain acc Reg.SAFC_P_DATA 0 v).saf = s.saf ∧ (s.writePlain acc Reg.SAFC_P_DATA 0 v).errCode Pg.SAFC = 0x11A2 ∧
      s.SameBytes (s.writePlain acc Reg.SAFC_P_DATA 0 v) := by
  have hw : Saf.stage s.mode v s.saf = (W.of s.saf).code Pg.SAFC 0x11A2 [] := stage_refused hm v s.saf
  rw [staging_discarded acc h hm]
  refine ⟨by rw [releaseIdle_saf, onSaf_saf, hw]; rfl, ?_, fun x => ?_⟩
  · rw [errCode_releaseIdle (by decide) (by decide)]
    exact errCode_onSaf_last (l := []) (c := ⟨Pg.SAFC, 0x11A2, [], false⟩) (by rw [hw]; rfl) (by decide) (by rw [hw]; rfl) (by rw [hw]; rfl)
      (by rw [hw]; rfl)
  · rw [releaseIdle_mem, bytes_onSaf (by rw [hw]; rfl)]

/-- The layer after an accepted confirmation of value v, with the cells m of its page. -/
def confirmed (m : RMap) (v : Word) (u : Saf) : Saf := { u with
  regs := m
  active := some (otherRegion u.active)
  valueA := if otherRegion u.active then u.valueA else v
  valueB := if otherRegion u.active then v else u.valueB }

theorem otherRegion_eq (x : Option Bool) : otherRegion x = (x == some false) := by
  rcases x with _ | b
  · rfl
  · cases b <;> rfl

/-- The confirmed value stands with its region, the other one as it was. -/
theorem confirmed_values (m : RMap) (v : Word) (u : Saf) :
    (if otherRegion u.active then (confirmed m v u).valueB else (confirmed m v u).valueA) = v ∧
      (if otherRegion u.active then (confirmed m v u).valueA = u.valueA else (confirmed m v u).valueB = u.valueB) := by
  unfold confirmed
  cases h : otherRegion u.active
  · exact ⟨rfl, rfl⟩
  · exact ⟨rfl, rfl⟩

theorem length_stagingBytes (u : Saf) : (wordsBytes u.stagingSet).length = 1280 := by
  rw [length_wordsBytes, Saf.stagingSet, List.length_map, upto, List.length_range]

/-- SAFC_CONFIRM accepted: the region not active takes the set, becomes the active one, and 0x01A0 is recorded. -/
theorem confirm_stores {v : Word} (h : s.Admits acc Pg.SAFC (Reg.SAFC_CONFIRM % 0x400))
    (hf : s.saf.confirmFault (s.feature 12) s.mode v = none) :
    let t := s.writePlain acc Reg.SAFC_CONFIRM 0 v
    let b := otherRegion s.saf.active
    t.errCode Pg.SAFC = 0x01A0 ∧ (∀ k, k < 1280 → t.mem.byte (safRegion b + k) = (wordsBytes s.saf.stagingSet).getD k 0) ∧
      s.SameBytesBut t (safRegion b) 1280 ∧
      ∃ m, rbit m Reg.SAFC_CONF_STAT 1 = true ∧ rbit m Reg.SAFC_CONF_STAT 2 = true ∧ t.saf = confirmed m v s.saf := by
  obtain ⟨x, hx⟩ := saf_written_confirm s v
  obtain ⟨y, hy, h1, h2⟩ := confirm_accepted ((confirmFault_withCell (s.feature 12) s.mode v x s.saf).trans hf)
  have hw : Saf.confirm (s.feature 12) s.mode v (s.written 0xB 0xB 0x48 0 Reg.SAFC_CONFIRM confirmRow v).saf = _ := (congrArg _ hx).trans hy
  have hy' : ∀ i, bit (rget (withCell Reg.SAFC_CONF_STAT y (withCell Reg.SAFC_CONFIRM x s.saf)).regs Reg.SAFC_CONF_STAT) i = bit y i :=
    fun i => congrArg (bit · i) ((rget_rset ..).trans (if_pos rfl))
  have hlen := length_stagingBytes s.saf
  intro t b
  have ht : t = _ := confirm_taken acc h
  have hbyte : ∀ z, t.mem.byte z = (s.mem.store ⟨Pg.SAFC, safRegion b, wordsBytes s.saf.stagingSet, false⟩).byte z := fun z => by
    rw [ht, releaseIdle_mem, byte_onSaf, hw]
    rfl
  refine ⟨?_, fun k hk => ?_, fun z hz => ?_, ?_⟩
  · rw [ht, errCode_releaseIdle (by decide) (by decide)]
    exact errCode_onSaf_last (l := []) (c := ⟨Pg.SAFC, 0x01A0, [], true⟩) (by rw [hw]; rfl) (by decide) (by rw [hw]; rfl)
      (by rw [hw]; rfl) (by rw [hw]; rfl)
  · rw [hbyte, byte_store_inside s.mem ⟨Pg.SAFC, safRegion b, wordsBytes s.saf.stagingSet, false⟩ k (by rw [hlen]; exact hk)]
    exact (List.getD_eq_getElem _ _ _).symm
  · rw [hbyte, byte_store_outside _ _ _ (by rw [hlen]; exact hz)]
  · rw [ht, releaseIdle_saf, onSaf_saf, hw]
    exact ⟨_, (hy' 1).trans h1, (hy' 2).trans h2, rfl⟩

end

section
variable (now : Nat) (s : State)

/-- A refresh delivered along the paths toC and toH. -/
theorem refresh_leaves (toC toH : Bool) :
    let t := s.onSaf fun u => W.of (u.refreshReq now toC toH)
    (∀ isC, (if isC then toC else toH) = true → (t.saf.chan isC).req = BitVec.ofNat 8 (rfld s.saf.regs Reg.SFO_REQ 7 0) ∧
        (t.saf.chan isC).reqAt = now ∧ (t.saf.chan isC).lost = false) ∧
      (∀ isC, (if isC then toC else toH) = false → t.saf.chan isC = s.saf.chan isC) ∧ s.saf.sameInsts t.saf ∧
      t.shell = { s.shell with saf := t.saf } ∧ s.SameBytes t := by
  intro t
  have hchan : ∀ b, t.saf.chan b = _ := fun b =>
    (congrArg (Saf.chan · b) (onSaf_saf (fun u => W.of (u.refreshReq now toC toH)) s)).trans (refreshReq_chan now toC toH b s.saf)
  refine ⟨fun isC hc => ?_, fun isC hc => ?_, fun b j => ?_, ?_, bytes_onSaf rfl⟩
  · rw [hchan, if_pos hc]
    exact ⟨rfl, rfl, rfl⟩
  · rw [hchan, if_neg (by rw [hc]; decide)]
  · rw [hchan]
    by_cases hc : (if b then toC else toH) = true
    · rw [if_pos hc]
      rfl
    · rw [if_neg hc]
  · rw [shell_onSaf, onSaf_saf]

/-- A loss of requests: 0x21C8 and open switches for the channel that lost them, and nothing before 1 ms. -/
theorem loss_leaves (isC : Bool) :
    let t := s.onSaf (Saf.lossReq now isC)
    (1 ≤ s.saf.layer → (s.saf.chan isC).lost = false → 1000000 ≤ now - (s.saf.chan isC).reqAt →
        (t.saf.chan isC).lost = true ∧ t.errCode (safPage isC) = 0x21C8 ∧
        (bit (setWord s.saf.set 3) 24 = false → ∀ k, t.saf.closes isC k = false)) ∧
      (now - (s.saf.chan isC).reqAt < 1000000 → t.saf = s.saf) ∧ t.saf.chan (!isC) = s.saf.chan (!isC) ∧ s.saf.sameInsts t.saf ∧
      t.shell = { s.shell with saf := t.saf } ∧ s.SameBytes t := by
  intro t
  have hsaf : t.saf = (Saf.lossReq now isC s.saf).u := onSaf_saf _ s
  obtain ⟨-, -, hst⟩ := lossReq_chan now isC true s.saf
  refine ⟨fun hl hn ht => ?_, fun ht => ?_, ?_, fun b j => ?_, ?_, bytes_onSaf hst⟩
  · have hw := lossReq_lost hl hn ht
    have hu : t.saf = (s.saf.putChan isC { s.saf.chan isC with lost := true }).settle now := by
      rw [hsaf, hw, u_map, u_code, u_of]
    have hlost : (t.saf.chan isC).lost = true := by rw [hu, chan_settle, chan_putChan, if_pos rfl]
    refine ⟨hlost, ?_, fun hb k => closes_lost hlost ?_ k⟩
    · exact errCode_onSaf_last (l := []) (c := ⟨safPage isC, 0x21C8, [], false⟩) (by rw [hw]; rfl) (by cases isC <;> decide)
        (by rw [hw]; rfl) (by rw [hw]; rfl) (by rw [hw]; rfl)
    · rw [hu, set_settle]
      cases isC <;> exact hb
  · have hw : Saf.lossReq now isC s.saf = W.of s.saf := if_neg fun h => by
      obtain ⟨-, -, h3⟩ := h
      omega
    exact hsaf.trans (congrArg W.u hw)
  · rw [hsaf]
    exact (lossReq_chan now isC (!isC) s.saf).1 (by cases isC <;> decide)
  · rw [hsaf]
    exact congrArg (fun l => sget safInstDefault l j) (lossReq_chan now isC b s.saf).2.1
  · rw [shell_onSaf, onSaf_saf]

end

/-- Settles O40: staging, check and confirmation by what their writes leave, a refresh and a loss by what they leave of the channels. -/
theorem safetySetCommands : Obligations.SafetySetCommands := by
  unfold Obligations.SafetySetCommands
  refine ⟨fun a acc v i s h hi => ⟨_, rfl, ?_⟩, fun a acc s h => ⟨_, congrArg Host.Outcome.next (paramCheck_taken acc (s := s.at_ a) h), ?_⟩,
    fun a acc v s h => ⟨_, rfl, ?_⟩, fun a toC toH s h => ⟨_, congrArg Host.Outcome.next (safDoes_runs h), ?_⟩,
    fun a isC s h => ⟨_, congrArg Host.Outcome.next (safDoes_runs h), ?_⟩⟩
  · obtain ⟨hlayer, hset, hactive, hchan, -⟩ := stage_keeps s.mode v s.saf
    cases hm : safWritable s.mode
    case true =>
      obtain ⟨hsaf, hbytes⟩ := staging_stores (s := s.at_ a) (v := v) h hm
      obtain ⟨h1, h2, h3, h4, -⟩ := stage_stores hm v s.saf
      subst hi
      rw [hsaf]
      refine ⟨fun _ => ⟨h1, h2, h3, h4⟩, fun hc hs => ?_, hlayer, hset, hactive, fun b j => congrArg (SafChan.inst · j) (hchan b), hbytes⟩
      exact absurd ((safWritable_iff _).mp hm) (by simp [hc, hs])
    case false =>
      obtain ⟨hsaf, hcode, hbytes⟩ := staging_refused (s := s.at_ a) (v := v) h hm
      rw [hsaf]
      refine ⟨fun hc => ?_, fun _ _ => ⟨rfl, hcode⟩, rfl, rfl, rfl, fun _ _ => rfl, hbytes⟩
      rw [(safWritable_iff _).mpr hc] at hm
      cases hm
  · obtain ⟨x, hx⟩ := saf_written_load (s.at_ a) 1#32
    obtain ⟨h1, h2, h3, h4, h5⟩ := check_shows (withCell Reg.SAFC_P_LOAD x s.saf)
    rw [releaseIdle_saf]
    dsimp only
    rw [hx]
    refine ⟨h1, h2, h3, h4, h5.trans (Nat.mod_eq_of_lt (validate_lt _)), rfl, rfl, rfl, rfl, fun b j => by cases b <;> rfl, fun z => ?_⟩
    rw [releaseIdle_mem]
    rfl
  · cases hf : s.saf.confirmFault (s.feature 12) s.mode v with
    | some p =>
      obtain ⟨hr, hcode, hbytes, m, hsaf⟩ := confirm_leaves (s := s.at_ a) h hf
      rw [hsaf] at hr ⊢
      refine ⟨fun r i he => ?_, (fun he => by cases he), rfl, rfl, rfl, fun b j => by cases b <;> rfl⟩
      cases he
      exact ⟨hr, hcode, rfl, rfl, rfl, hbytes⟩
    | none =>
      obtain ⟨hcode, hbyte, hrest, m, h1, h2, hsaf⟩ := confirm_stores (s := s.at_ a) h hf
      obtain ⟨hv, hv'⟩ := confirmed_values m v s.saf
      rw [hsaf]
      exact ⟨(fun _ _ he => by cases he), fun _ => ⟨otherRegion s.saf.active, otherRegion_eq _, rfl, hv, hv', h1, h2, hcode, hbyte, hrest⟩,
        rfl, rfl, rfl, fun b j => by cases b <;> rfl⟩
  · exact refresh_leaves (s.at_ a).now (s.at_ a) toC toH
  · exact loss_leaves (s.at_ a).now (s.at_ a) isC

end Sys2Proof.Proofs
end

section
/-! SUPPORT. The safety functions: what filtering, evaluation, timeouts and resets make of the instances (R365–R371, R381, R382). -/

namespace Sys2Proof.Proofs

open Sys2Proof Sys2Proof.Machine

-- One proof after another: many at once wait for the kernel in threads of their own, which the check's memory limit does not hold.
set_option Elab.async false

/-! ## One instance at a time -/

/-- An instance that enters a state (R369, R381). -/
def entered (now st : Nat) (x : SafInst) : SafInst :=
  if x.state = st then x
  else { x with
    state := st
    degAt := if st = 4 then some now else none
    ready := false
    firstAt := none }

theorem state_entered (now st : Nat) (x : SafInst) : (entered now st x).state = st := by
  unfold entered
  split
  · assumption
  · rfl

theorem entered_keeps (now st : Nat) (x : SafInst) :
    (entered now st x).discrep = x.discrep ∧ (entered now st x).xcmp = x.xcmp ∧ (entered now st x).sync = x.sync ∧
      (entered now st x).faults = x.faults := by
  unfold entered
  split <;> exact ⟨rfl, rfl, rfl, rfl⟩

section
variable (isC : Bool) (now i : Nat) (w : W Saf)

/-- The instance that `goto` names. -/
theorem inst_goto (st : Nat) :
    ((Saf.goto isC now i st w).u.chan isC).inst i = entered now st ((w.u.chan isC).inst i) := by
  unfold Saf.goto entered
  dsimp only
  split
  · rfl
  · have hwhen : ∀ (c : Bool) (f : W Saf → W Saf) (v : W Saf), (∀ y : W Saf, (f y).u = y.u) → (v.when c f).u = v.u := fun c f v hf =>
      u_when (g := id) hf c v
    rw [hwhen, hwhen, hwhen, u_map, inst_modInst_same]
    · exact fun _ => rfl
    · exact fun y => (hwhen _ _ _ fun _ => rfl)
    · exact fun y => (hwhen _ _ _ fun _ => rfl)

theorem inst_map (g : SafInst → SafInst) :
    ((w.map (Saf.modInst isC i g)).u.chan isC).inst i = g ((w.u.chan isC).inst i) := inst_modInst_same ..

theorem state_goto (st : Nat) : (((Saf.goto isC now i st w).u.chan isC).inst i).state = st := by
  rw [inst_goto, state_entered]

end

/-- A state that permits nothing. -/
theorem permits_eq_false {x : SafInst} (h3 : x.state ≠ 3) (h4 : x.state ≠ 4) : x.permits = false := by
  unfold SafInst.permits
  simp [h3, h4]

theorem state_ne_of_not_permits {x : SafInst} (h : x.permits = false) : x.state ≠ 3 ∧ x.state ≠ 4 := by
  unfold SafInst.permits at h
  simpa using h

/-- Whether the permit state of a two-hand control is both buttons pressed (R369). -/
theorem permitState_twoHand {p : List Word} {f : BitVec 32} {i : Nat} (ht : recType p i = 3) :
    permitState p f i = (insLevel p f i 0 && insLevel p f i 2 && !insLevel p f i 1 && !insLevel p f i 3) := by
  unfold permitState
  dsimp only
  rw [if_neg (by omega), if_neg (by omega), if_pos ht]

/-- A two-hand control without both buttons permits nothing after its evaluation. -/
theorem twoHand_not_permits {isC : Bool} {now i : Nat} {w : W Saf} (ht : recType w.u.set i = 3)
    (hp : permitState w.u.set (w.u.chan isC).filt i = false) :
    (((Saf.twoHand isC now i w).u.chan isC).inst i).permits = false := by
  rw [permitState_twoHand ht] at hp
  have hgoto : ∀ (v : W Saf) (st : Nat), st ≠ 3 → st ≠ 4 → (((Saf.goto isC now i st v).u.chan isC).inst i).permits = false :=
    fun v st h3 h4 => permits_eq_false (by rw [state_goto]; exact h3) (by rw [state_goto]; exact h4)
  have hmod : ∀ (v : W Saf) (g : SafInst → SafInst), (∀ x, (g x).state = x.state) → ((v.u.chan isC).inst i).state ≠ 3 →
      ((v.u.chan isC).inst i).state ≠ 4 → (((v.map (Saf.modInst isC i g)).u.chan isC).inst i).permits = false := fun v g hg h3 h4 =>
    permits_eq_false (by rw [inst_map, hg]; exact h3) (by rw [inst_map, hg]; exact h4)
  unfold Saf.twoHand
  extract_lets u f x l b1 b2 released miss
  have hb : (b1 && b2) = false := by
    rw [← hp]
    show ((l 0 && !l 1) && (l 2 && !l 3)) = (l 0 && l 2 && !l 1 && !l 3)
    cases l 0 <;> cases l 1 <;> cases l 2 <;> cases l 3 <;> rfl
  have hnone : ¬ (b1 && b2) = true := by rw [hb]; decide
  by_cases h1 : x.state = 1
  · have hx3 : x.state ≠ 3 := by omega
    have hx4 : x.state ≠ 4 := by omega
    rw [if_pos h1, if_neg hnone]
    split
    · exact hmod w _ (fun _ => rfl) hx3 hx4
    · split
      · exact hmod w _ (fun _ => rfl) hx3 hx4
      · exact permits_eq_false hx3 hx4
  · rw [if_neg h1]
    by_cases h3 : x.state = 3
    · rw [if_pos h3, if_neg hnone]
      exact hgoto _ _ (by decide) (by decide)
    · rw [if_neg h3]
      by_cases h4 : x.state = 4
      · rw [if_pos h4, if_neg hnone]
        exact hgoto _ _ (by decide) (by decide)
      · rw [if_neg h4]
        split
        · split
          · exact hmod _ _ (fun _ => rfl) (by rw [state_goto]; decide) (by rw [state_goto]; decide)
          · exact permits_eq_false h3 h4
        · exact permits_eq_false h3 h4

/-- An instance in use whose inputs are not in their permit state permits nothing after its evaluation (R368, R370). -/
theorem evalInst_not_permits {isC : Bool} {now i : Nat} {w : W Saf} (he : recEn w.u.set i = true)
    (hp : permitState w.u.set (w.u.chan isC).filt i = false) :
    (((Saf.evalInst isC now w i).u.chan isC).inst i).permits = false := by
  unfold Saf.evalInst
  extract_lets u p f x dem ab cd v
  have hdem : dem = true := congrArg Bool.not hp
  rw [if_neg (by rw [he]; decide)]
  have hframe : safFrame v.u = safFrame w.u := frame_modInst ..
  have hst : ((v.u.chan isC).inst i).state = x.state := (congrArg SafInst.state (inst_map isC i w _)).trans rfl
  by_cases ht : recType p i = 3
  · rw [if_pos ht]
    exact twoHand_not_permits (by rw [set_of_frame hframe]; exact ht) (by rw [set_of_frame hframe, filt_of_frame hframe]; exact hp)
  · rw [if_neg ht]
    by_cases h1 : x.state = 1
    · rw [if_pos h1, if_neg (by rw [hdem]; simp)]
      exact permits_eq_false (by omega) (by omega)
    · rw [if_neg h1]
      by_cases h2 : x.state = 2 ∨ x.state = 3
      · rw [if_pos h2, if_pos hdem]
        exact permits_eq_false (by rw [state_goto]; decide) (by rw [state_goto]; decide)
      · rw [if_neg h2]
        by_cases h4 : x.state = 4
        · rw [if_pos h4, if_pos hdem]
          exact permits_eq_false (by rw [state_goto]; decide) (by rw [state_goto]; decide)
        · rw [if_neg h4]
          exact permits_eq_false (by omega) (by omega)

/-! ## The evaluation of a channel -/

/-- A fold that a state of the layer stands through, and that reaches Q at one of its entries, ends in Q. -/
theorem foldl_reaches {A B : Type} {P Q : A → Prop} {f : A → B → A} {l : List B} {b : B} (hb : b ∈ l) (hP : ∀ a c, P a → P (f a c))
    (hQ : ∀ a c, P a → Q a → Q (f a c)) (hr : ∀ a, P a → Q (f a b)) {a : A} (ha : P a) : Q (l.foldl f a) := by
  induction l generalizing a with
  | nil => cases hb
  | cons c l ih =>
    rcases List.mem_cons.mp hb with rfl | hl
    · exact (foldl_keeps (fun x => P x ∧ Q x) f (fun x d hx => ⟨hP x d hx.1, hQ x d hx.1 hx.2⟩) l _ ⟨hP a b ha, hr a ha⟩).2
    · exact ih hl (hP a c ha)

/-- After the evaluation of a channel, an instance whose inputs are not in their permit state permits nothing. -/
theorem evaluate_not_permits {isC : Bool} {now i : Nat} {w : W Saf} (hl : w.u.layer = 2) (hi : i < 16) (he : recEn w.u.set i = true)
    (hp : permitState w.u.set (w.u.chan isC).filt i = false) :
    (((Saf.evaluate isC now w).u.chan isC).inst i).permits = false := by
  have hT : ∀ (v : W Saf) (j : Nat), Touches (fun b k => b = isC ∧ k = j) v (Saf.evalInst isC now v j) := fun v j =>
    (Touches.refl v).evalInst ⟨rfl, rfl⟩
  unfold Saf.evaluate
  rw [if_pos hl]
  refine foldl_reaches (P := fun v => safFrame v.u = safFrame w.u) (Q := fun v => ((v.u.chan isC).inst i).permits = false)
    (List.mem_range.mpr hi) (fun v j hv => (hT v j).frame.trans hv) (fun v j hv hq => ?_) (fun v hv => ?_) rfl
  · by_cases hj : i = j
    · subst hj
      exact evalInst_not_permits (by rw [set_of_frame hv]; exact he) (by rw [set_of_frame hv, filt_of_frame hv]; exact hp)
    · rw [(hT v j).insts isC i fun h => hj h.2]
      exact hq
  · exact evalInst_not_permits (by rw [set_of_frame hv]; exact he) (by rw [set_of_frame hv, filt_of_frame hv]; exact hp)

/-- A cross-comparison permits nothing new (R371). -/
theorem crossCompare_not_permits {b : Bool} {now i j : Nat} {w : W Saf} (h : ((w.u.chan b).inst i).permits = false) :
    (((Saf.crossCompare now w j).u.chan b).inst i).permits = false := by
  have hmod : ∀ (c : Bool) (g : SafInst → SafInst) (v : Saf), (∀ x, (g x).state = x.state) → ((v.chan b).inst i).permits = false →
      (((Saf.modInst c j g v).chan b).inst i).permits = false := fun c g v hg hv => by
    obtain ⟨h3, h4⟩ := state_ne_of_not_permits hv
    rw [inst_modInst]
    split
    · next he =>
      obtain ⟨rfl, rfl⟩ := he
      exact permits_eq_false (by rw [hg]; exact h3) (by rw [hg]; exact h4)
    · exact hv
  have hgoto : ∀ (c : Bool) (v : W Saf), ((v.u.chan b).inst i).permits = false → (((Saf.goto c now j 5 v).u.chan b).inst i).permits = false :=
    fun c v hv => by
      by_cases he : b = c ∧ i = j
      · obtain ⟨rfl, rfl⟩ := he
        exact permits_eq_false (by rw [state_goto]; decide) (by rw [state_goto]; decide)
      · rw [((Touches.refl v).goto (T := fun d k => d = c ∧ k = j) ⟨rfl, rfl⟩ 5).insts b i he]
        exact hv
  unfold Saf.crossCompare
  extract_lets u differ n w1 set w2 w3 w4 w5
  have h1 : ((w1.u.chan b).inst i).permits = false := hmod true (fun x => { x with xRun := n }) w.u (fun _ => rfl) h
  have h2 : ((w2.u.chan b).inst i).permits = false := hmod false (fun x => { x with xcmp := true }) _ (fun _ => rfl)
    (hmod true (fun x => { x with xcmp := true }) _ (fun _ => rfl) h1)
  have h3 : ((w3.u.chan b).inst i).permits = false := by
    rw [show w3.u.chan b = w2.u.chan b by cases b <;> rfl]
    exact h2
  have h4 : ((w4.u.chan b).inst i).permits = false := hmod false _ _ (fun _ => rfl) (hmod true _ _ (fun _ => rfl) h3)
  split
  · exact hgoto false _ (hgoto true w5 h4)
  · exact h1

end Sys2Proof.Proofs
end

section
/-! SUPPORT. Filters, timeouts and resets of the safety layer, and the safety functions settled (R367–R371, R381, R382). -/

namespace Sys2Proof.Proofs

open Sys2Proof Sys2Proof.Machine

-- One proof after another: many at once wait for the kernel in threads of their own, which the check's memory limit does not hold.
set_option Elab.async false

/-! ## Filters (R367) -/

/-- The layer but for filtered states, presses and what its pages show. -/
def unfiltered (u : Saf) : Saf :=
  { u with regs := [], pressed := 0, short := 0, c := { u.c with filt := 0, closedAt := [] }, h := { u.h with filt := 0, closedAt := [] } }

section
variable {u v : Saf} (h : unfiltered v = unfiltered u)
include h
theorem set_of_unfiltered : v.set = u.set := congrArg (·.set) h
theorem layer_of_unfiltered : v.layer = u.layer := congrArg (·.layer) h
theorem raw_of_unfiltered (b : Bool) : (v.chan b).raw = (u.chan b).raw := by
  cases b
  · exact congrArg (·.h.raw) h
  · exact congrArg (·.c.raw) h
theorem since_of_unfiltered (b : Bool) : (v.chan b).since = (u.chan b).since := by
  cases b
  · exact congrArg (·.h.since) h
  · exact congrArg (·.c.since) h
theorem insts_of_unfiltered (b : Bool) : (v.chan b).insts = (u.chan b).insts := by
  cases b
  · exact congrArg (·.h.insts) h
  · exact congrArg (·.c.insts) h
theorem inst_of_unfiltered (b : Bool) (i : Nat) : (v.chan b).inst i = (u.chan b).inst i :=
  congrArg (fun l => sget safInstDefault l i) (insts_of_unfiltered h b)
end

/-- A level taken into a filtered state. -/
def withFilt (t i : Nat) (v : Bool) (c : SafChan) : SafChan :=
  let c : SafChan := { c with filt := if v then c.filt ||| BitVec.twoPow 32 i else c.filt &&& ~~~(BitVec.twoPow 32 i) }
  if v then { c with closedAt := sset (fun _ => 0) c.closedAt i t } else c

theorem filt_withFilt (t i : Nat) (v : Bool) (c : SafChan) {j : Nat} (hj : j < 32) :
    (withFilt t i v c).filt.getLsbD j = if j = i then v else c.filt.getLsbD j := by
  cases v
  · show (c.filt &&& ~~~(BitVec.twoPow 32 i)).getLsbD j = _
    by_cases h : j = i
    · subst h
      simp [hj]
    · simp [hj, h]
  · show (c.filt ||| BitVec.twoPow 32 i).getLsbD j = _
    by_cases h : j = i
    · subst h
      simp [hj]
    · have hne : i ≠ j := Ne.symm h
      simp [BitVec.getLsbD_twoPow, h, hne]

section
variable (isC : Bool) (t i : Nat) (v : Bool) (u : Saf)

theorem chan_change (b : Bool) : (Saf.change isC t i v u).chan b = if b = isC then withFilt t i v (u.chan isC) else u.chan b := by
  unfold Saf.change
  extract_lets c c1 c2 u1 d held
  have hc : c2 = withFilt t i v (u.chan isC) := rfl
  have hu : u1.chan b = if b = isC then withFilt t i v (u.chan isC) else u.chan b := by rw [← hc]; exact chan_putChan u b isC c2
  rw [← hu]
  have hregs : ∀ m : RMap, Saf.chan { u1 with regs := m } b = u1.chan b := fun _ => by cases b <;> rfl
  have hpressed : ∀ m : BitVec 32, Saf.chan { u1 with pressed := m } b = u1.chan b := fun _ => by cases b <;> rfl
  have hshort : ∀ m : Nat, Saf.chan { u1 with short := m } b = u1.chan b := fun _ => by cases b <;> rfl
  simp only [apply_ite (fun x : Saf => x.chan b), hregs, hpressed, hshort, ite_self]

theorem unfiltered_change : unfiltered (Saf.change isC t i v u) = unfiltered u := by
  have hfilt : ∀ c : SafChan, ({ withFilt t i v c with filt := 0, closedAt := [] } : SafChan) = { c with filt := 0, closedAt := [] } := fun c => by
    cases v <;> rfl
  unfold Saf.change
  extract_lets c c1 c2 u1 d held
  have hc : c2 = withFilt t i v (u.chan isC) := rfl
  have hu : unfiltered u1 = unfiltered u := by
    show unfiltered (u.putChan isC c2) = _
    rw [hc]
    cases isC
    · exact congrArg (fun x => { unfiltered u with h := x }) (hfilt u.h)
    · exact congrArg (fun x => { unfiltered u with c := x }) (hfilt u.c)
  have hregs : ∀ m : RMap, unfiltered { u1 with regs := m } = unfiltered u1 := fun _ => rfl
  have hpressed : ∀ m : BitVec 32, unfiltered { u1 with pressed := m } = unfiltered u1 := fun _ => rfl
  have hshort : ∀ m : Nat, unfiltered { u1 with short := m } = unfiltered u1 := fun _ => rfl
  simp only [apply_ite unfiltered, hregs, hpressed, hshort, ite_self, hu]

theorem regs_change : (Saf.change false t i v u).regs = u.regs := by
  unfold Saf.change
  extract_lets c c1 c2 u1 d held
  have hu : u1.regs = u.regs := rfl
  simp only [Bool.false_eq_true, if_false, apply_ite Saf.regs, ite_self, hu]

end

/-- One input brought up to a true time. -/
def advanceOne (isC : Bool) (now : Nat) (u : Saf) (i : Nat) : Saf :=
  let c := u.chan isC
  let v := c.raw.getLsbD i
  let t := sget (fun _ => 0) c.since i + inFilter u.set i
  if v != c.filt.getLsbD i && decide (t ≤ now) then u.change isC (if isC then now else t) i v else u

theorem advance_eq (isC : Bool) (now : Nat) (u : Saf) : u.advance isC now = (upto 32).foldl (advanceOne isC now) u := rfl

section
variable {isC : Bool} {now : Nat} {u : Saf}

theorem unfiltered_advanceOne (v : Saf) (i : Nat) : unfiltered (advanceOne isC now v i) = unfiltered v := by
  unfold advanceOne
  dsimp only
  split
  · exact unfiltered_change ..
  · rfl

theorem unfiltered_advance (isC : Bool) (now : Nat) (u : Saf) : unfiltered (u.advance isC now) = unfiltered u :=
  foldl_keeps (fun v => unfiltered v = unfiltered u) _ (fun v i hv => (unfiltered_advanceOne v i).trans hv) _ _ rfl

/-- Filtering of one channel leaves the other. -/
theorem chan_advance_other (isC : Bool) (now : Nat) (u : Saf) {b : Bool} (hb : b ≠ isC) : (u.advance isC now).chan b = u.chan b := by
  refine foldl_keeps (fun v : Saf => v.chan b = u.chan b) (advanceOne isC now) (fun v i hv => ?_) _ _ rfl
  unfold advanceOne
  dsimp only
  split
  · rw [chan_change, if_neg hb]
    exact hv
  · exact hv

/-- SAFH's filtering leaves the page. -/
theorem regs_advance (now : Nat) (u : Saf) : (u.advance false now).regs = u.regs := by
  refine foldl_keeps (fun v : Saf => v.regs = u.regs) (advanceOne false now) (fun v i hv => ?_) _ _ rfl
  unfold advanceOne
  dsimp only
  split
  · exact (regs_change ..).trans hv
  · exact hv

/-- One input's filtering leaves the filtered state of another. -/
theorem filt_advanceOne_ne (v : Saf) {i j : Nat} (hj : j < 32) (h : j ≠ i) :
    ((advanceOne isC now v i).chan isC).filt.getLsbD j = (v.chan isC).filt.getLsbD j := by
  unfold advanceOne
  dsimp only
  split
  · rw [chan_change, if_pos rfl, filt_withFilt _ _ _ _ hj, if_neg h]
  · rfl

/-- A level that has stood for its filter time is the filtered state. -/
theorem filt_advance_due {i : Nat} (hi : i < 32) (hd : sget (fun _ => 0) (u.chan isC).since i + inFilter u.set i ≤ now) :
    ((u.advance isC now).chan isC).filt.getLsbD i = (u.chan isC).raw.getLsbD i := by
  rw [advance_eq]
  refine foldl_reaches (P := fun v => unfiltered v = unfiltered u)
    (Q := fun v => (v.chan isC).filt.getLsbD i = (u.chan isC).raw.getLsbD i) (List.mem_range.mpr hi)
    (fun v j hv => (unfiltered_advanceOne v j).trans hv) (fun v j hv hq => ?_) (fun v hv => ?_) rfl
  · by_cases hj : i = j
    · subst hj
      unfold advanceOne
      dsimp only
      split
      · rw [chan_change, if_pos rfl, filt_withFilt _ _ _ _ hi, if_pos rfl, raw_of_unfiltered hv]
      · exact hq
    · rw [filt_advanceOne_ne v hi hj]
      exact hq
  · have hdue : sget (fun _ => 0) (v.chan isC).since i + inFilter v.set i ≤ now := by
      rw [since_of_unfiltered hv, set_of_unfiltered hv]
      exact hd
    unfold advanceOne
    dsimp only
    split
    · rw [chan_change, if_pos rfl, filt_withFilt _ _ _ _ hi, if_pos rfl, raw_of_unfiltered hv]
    · next hn =>
      rw [decide_eq_true hdue, Bool.and_true, bne_iff_ne, not_not, raw_of_unfiltered hv] at hn
      exact hn.symm

/-- A level that has not stood for its filter time is not the filtered state yet. -/
theorem filt_advance_wait {i : Nat} (hi : i < 32) (hd : now < sget (fun _ => 0) (u.chan isC).since i + inFilter u.set i) :
    ((u.advance isC now).chan isC).filt.getLsbD i = (u.chan isC).filt.getLsbD i := by
  refine (foldl_keeps (fun v : Saf => unfiltered v = unfiltered u ∧ (v.chan isC).filt.getLsbD i = (u.chan isC).filt.getLsbD i)
    (advanceOne isC now) (fun v j hv => ⟨(unfiltered_advanceOne v j).trans hv.1, ?_⟩) _ _ ⟨rfl, rfl⟩).2
  obtain ⟨hv, hq⟩ := hv
  by_cases hj : i = j
  · subst hj
    have hwait : ¬ sget (fun _ => 0) (v.chan isC).since i + inFilter v.set i ≤ now := by
      rw [since_of_unfiltered hv, set_of_unfiltered hv]
      omega
    unfold advanceOne
    dsimp only
    rw [decide_eq_false hwait, Bool.and_false, if_neg (by decide)]
    exact hq
  · rw [filt_advanceOne_ne v hi hj]
    exact hq

end

/-- A filter time is never 0. -/
theorem inFilter_pos (p : List Word) (c : Nat) : 0 < inFilter p c := by
  unfold inFilter
  dsimp only
  split <;> omega

/-- The instants of the last changes after new levels. -/
theorem since_setRaw (c : SafChan) (raw : BitVec 32) (now : Nat) {i : Nat} (hi : i < 32) :
    sget (fun _ => 0) (c.setRaw raw now).since i = if c.raw.getLsbD i = raw.getLsbD i then sget (fun _ => 0) c.since i else now := by
  have hfold : ∀ (l : List Nat) (m : List (Nat × Nat)), sget (fun _ => 0) (l.foldl (fun l i => sset (fun _ => 0) l i now) m) i =
      if i ∈ l then now else sget (fun _ => 0) m i := fun l => by
    induction l with
    | nil => exact fun m => rfl
    | cons j l ih =>
      intro m
      rw [List.foldl_cons, ih, sget_sset]
      by_cases hj : i = j
      · rw [if_pos hj, if_pos (List.mem_cons.mpr (.inl hj)), ite_self]
      · rw [if_neg hj]
        exact if_congr (by rw [List.mem_cons]; exact ⟨.inr, fun h => h.resolve_left hj⟩) rfl rfl
  refine (hfold _ _).trans ?_
  by_cases h : c.raw.getLsbD i = raw.getLsbD i
  · rw [if_pos h, if_neg]
    intro hm
    obtain ⟨-, hne⟩ := List.mem_filter.mp hm
    exact (bne_iff_ne.mp hne) h
  · rw [if_neg h, if_pos]
    exact List.mem_filter.mpr ⟨List.mem_range.mpr hi, bne_iff_ne.mpr h⟩

end Sys2Proof.Proofs
end

section
/-! SUPPORT. The cycles, timeouts and resets of the safety layer, instance by instance (R365–R371, R381, R382). -/

namespace Sys2Proof.Proofs

open Sys2Proof Sys2Proof.Machine

-- One proof after another: many at once wait for the kernel in threads of their own, which the check's memory limit does not hold.
set_option Elab.async false

/-! ## SAFC's cycle and the input changes (R365, R367, R371) -/

/-- Any instance. -/
def anyInst (_ : Bool) (_ : Nat) : Prop := True

/-- What SAFC samples: its new levels, both channels filtered. -/
def sampled (raw : BitVec 32) (now : Nat) (u : Saf) : Saf := ({ u with c := u.c.setRaw raw now }.advance false now).advance true now

/-- The evaluation of both channels and the cross-comparison. -/
def cycleWork (raw : BitVec 32) (now : Nat) (u : Saf) : W Saf :=
  let w := Saf.evaluate true now (Saf.evaluate false now (W.of (sampled raw now u)))
  if w.u.layer = 2 then (upto 16).foldl (Saf.crossCompare now) w else w

theorem cycle_eq (raw : BitVec 32) (now work : Nat) (u : Saf) :
    u.cycle raw now work = (cycleWork raw now u).map fun u =>
      ({ u with regs := rmod u.regs Reg.SAFC_CYCLE (fun x => putBits x 15 0 (max (bits x 15 0) (work % 2501))) } : Saf).settle now := rfl

section
variable (raw : BitVec 32) (now : Nat) (u : Saf)

theorem touches_cycle : Touches anyInst (W.of (sampled raw now u)) (cycleWork raw now u) := by
  have h := ((Touches.refl (T := anyInst) (W.of (sampled raw now u))).evaluate (isC := false) (now := now) fun _ => trivial).evaluate
    (isC := true) (now := now) fun _ => trivial
  unfold cycleWork
  dsimp only
  split
  · exact h.foldl (fun _ _ k => k.crossCompare fun _ => trivial) _
  · exact h

theorem chan_cycle (work : Nat) (b : Bool) : (u.cycle raw now work).u.chan b = (cycleWork raw now u).u.chan b := by
  rw [cycle_eq, u_map, chan_settle]
  cases b <;> rfl

theorem unfiltered_sampled : unfiltered (sampled raw now u) = unfiltered { u with c := u.c.setRaw raw now } :=
  (unfiltered_advance ..).trans (unfiltered_advance ..)

/-- SAFC as it samples: its filter runs on the levels just taken. -/
theorem filt_sampled :
    (∀ i, i < 32 → u.c.raw.getLsbD i = raw.getLsbD i → sget (fun _ => 0) u.c.since i + inFilter u.set i ≤ now →
        ((sampled raw now u).chan true).filt.getLsbD i = raw.getLsbD i) ∧
      (∀ i, i < 32 → u.c.raw.getLsbD i ≠ raw.getLsbD i → ((sampled raw now u).chan true).filt.getLsbD i = u.c.filt.getLsbD i) := by
  have hchan : ({ u with c := u.c.setRaw raw now }.advance false now).chan true = u.c.setRaw raw now :=
    chan_advance_other false now _ (by decide)
  have hset : ({ u with c := u.c.setRaw raw now }.advance false now).set = u.set := (set_of_unfiltered (unfiltered_advance ..)).trans rfl
  refine ⟨fun i hi he hd => ?_, fun i hi hne => ?_⟩
  · refine (filt_advance_due hi ?_).trans ?_
    · rw [hchan, hset, since_setRaw _ _ _ hi, if_pos he]
      exact hd
    · rw [hchan]
      rfl
  · refine (filt_advance_wait hi ?_).trans ?_
    · rw [hchan, hset, since_setRaw _ _ _ hi, if_neg hne]
      have := inFilter_pos u.set i
      omega
    · rw [hchan]
      rfl

/-- After a cycle in RUN, an instance in use whose inputs are not in their permit state permits nothing. -/
theorem cycle_not_permits {isC : Bool} {i : Nat} (hl : u.layer = 2) (hi : i < 16) (he : recEn u.set i = true)
    (hp : permitState u.set ((cycleWork raw now u).u.chan isC).filt i = false) :
    (((cycleWork raw now u).u.chan isC).inst i).permits = false := by
  have hset : (sampled raw now u).set = u.set := (set_of_unfiltered (unfiltered_sampled raw now u)).trans rfl
  have hlayer : (sampled raw now u).layer = 2 := (layer_of_unfiltered (unfiltered_sampled raw now u)).trans hl
  have hwork := touches_cycle raw now u
  rw [filt_of_frame hwork.frame, u_of] at hp
  have h1 := (Touches.refl (T := fun b _ => b = false) (W.of (sampled raw now u))).evaluate (isC := false) (now := now) fun _ => rfl
  have h2 := (Touches.refl (T := fun b _ => b = true) (Saf.evaluate false now (W.of (sampled raw now u)))).evaluate (isC := true)
    (now := now) fun _ => rfl
  have heval : (((Saf.evaluate true now (Saf.evaluate false now (W.of (sampled raw now u)))).u.chan isC).inst i).permits = false := by
    cases isC
    · rw [h2.insts false i (by decide)]
      exact evaluate_not_permits hlayer hi (by rw [u_of, hset]; exact he) (by rw [u_of, hset]; exact hp)
    · refine evaluate_not_permits ((layer_of_frame h1.frame).trans hlayer) hi ?_ ?_
      · rw [set_of_frame h1.frame, u_of, hset]
        exact he
      · rw [set_of_frame h1.frame, filt_of_frame h1.frame, u_of, hset]
        exact hp
  unfold cycleWork
  dsimp only
  split
  · exact foldl_keeps (fun v : W Saf => ((v.u.chan isC).inst i).permits = false) _ (fun v j hv => crossCompare_not_permits hv) _ _ heval
  · exact heval

/-- A layer not in RUN evaluates nothing. -/
theorem cycleWork_idle (hl : u.layer ≠ 2) : cycleWork raw now u = W.of (sampled raw now u) := by
  have hlayer : (sampled raw now u).layer ≠ 2 := fun h => hl ((layer_of_unfiltered (unfiltered_sampled raw now u)).symm.trans h)
  have heval : ∀ b, Saf.evaluate b now (W.of (sampled raw now u)) = W.of (sampled raw now u) := fun b => if_neg hlayer
  unfold cycleWork
  dsimp only
  rw [heval, heval]
  exact if_neg hlayer

end

section
variable (raw : BitVec 32) (now : Nat) (u : Saf)

/-- SAFH's evaluation of what stood until now. -/
def changeWork (now : Nat) (u : Saf) : W Saf := Saf.evaluate false now (W.of (u.advance false now))

theorem touches_change : Touches (fun b _ => b = false) (W.of (u.advance false now)) (changeWork now u) :=
  (Touches.refl _).evaluate fun _ => rfl

theorem inputChange_eq : u.inputChange raw now = (changeWork now u).map fun u => ({ u with h := u.h.setRaw raw now }).settle now := rfl

theorem chan_inputChange (b : Bool) :
    (u.inputChange raw now).u.chan b = if b then (changeWork now u).u.c else (changeWork now u).u.h.setRaw raw now := by
  rw [inputChange_eq, u_map, chan_settle]
  cases b <;> rfl

/-- SAFH's evaluation leaves SAFC. -/
theorem c_changeWork : (changeWork now u).u.c = u.c :=
  ((touches_change now u).chans true fun _ => by decide).trans (chan_advance_other false now u (by decide))

/-- SAFH's filter runs on what stood until now. -/
theorem filt_changeWork :
    (∀ i, i < 32 → sget (fun _ => 0) u.h.since i + inFilter u.set i ≤ now → (changeWork now u).u.h.filt.getLsbD i = u.h.raw.getLsbD i) ∧
      (∀ i, i < 32 → now < sget (fun _ => 0) u.h.since i + inFilter u.set i →
        (changeWork now u).u.h.filt.getLsbD i = u.h.filt.getLsbD i) := by
  have hfilt : (changeWork now u).u.h.filt = ((u.advance false now).chan false).filt := filt_of_frame (touches_change now u).frame false
  refine ⟨fun i hi hd => ?_, fun i hi hd => ?_⟩
  · rw [hfilt]
    exact filt_advance_due hi hd
  · rw [hfilt]
    exact filt_advance_wait hi hd

/-- After SAFH's evaluation in RUN, an instance in use whose inputs are not in their permit state permits nothing. -/
theorem changeWork_not_permits {i : Nat} (hl : u.layer = 2) (hi : i < 16) (he : recEn u.set i = true)
    (hp : permitState u.set (changeWork now u).u.h.filt i = false) : (((changeWork now u).u.chan false).inst i).permits = false := by
  have hset : (u.advance false now).set = u.set := set_of_unfiltered (unfiltered_advance ..)
  have hlayer : (u.advance false now).layer = 2 := (layer_of_unfiltered (unfiltered_advance ..)).trans hl
  have hfilt : (changeWork now u).u.h.filt = ((u.advance false now).chan false).filt := filt_of_frame (touches_change now u).frame false
  refine evaluate_not_permits hlayer hi (by rw [u_of, hset]; exact he) ?_
  rw [u_of, hset, ← hfilt]
  exact hp

end

end Sys2Proof.Proofs
end

section
/-! SUPPORT. Timeouts and resets of the safety layer, and the safety functions settled (R369, R370, R381, R382). -/

namespace Sys2Proof.Proofs

open Sys2Proof Sys2Proof.Machine

-- One proof after another: many at once wait for the kernel in threads of their own, which the check's memory limit does not hold.
set_option Elab.async false

/-! ## Timeouts of an instance in both channels (R369, R370, R381) -/

section
variable {now n : Nat} {u : Saf} {f : W Saf → Bool → W Saf} {g : SafInst → SafInst}

/-- A step of both channels on instance n: each channel's instance as its own step leaves it, the others as they were. -/
theorem both_insts (hf : ∀ v b, Touches (fun c j => c = b ∧ j = n) v (f v b))
    (hg : ∀ v b, safFrame v.u = safFrame u → ((f v b).u.chan b).inst n = g ((v.u.chan b).inst n)) :
    (∀ b, ((u.both now f).u.chan b).inst n = g ((u.chan b).inst n)) ∧
      (∀ b j, j ≠ n → ((u.both now f).u.chan b).inst j = (u.chan b).inst j) ∧ (u.both now f).st = [] := by
  have h1 := hf (W.of u) true
  have h2 := hf (f (W.of u) true) false
  have hchan : ∀ b, (u.both now f).u.chan b = ((f (f (W.of u) true) false).u).chan b := fun b => by
    unfold Saf.both
    rw [u_map, chan_settle]
  refine ⟨fun b => ?_, fun b j hj => ?_, (st_map _ _).trans (h2.st.trans h1.st)⟩
  · rw [hchan]
    cases b
    · rw [hg _ false h1.frame, h1.insts false n fun h => absurd h.1 (by decide), u_of]
    · rw [h2.insts true n fun h => absurd h.1 (by decide), hg (W.of u) true rfl, u_of]
  · rw [hchan, h2.insts b j fun h => hj h.2, h1.insts b j fun h => hj h.2, u_of]

end

section
variable (now n : Nat) (u : Saf)

/-- An instance after its discrepancy timeout (R370). -/
def afterDiscrepancy (x : SafInst) : SafInst :=
  if u.layer = 2 ∧ recEn u.set n = true ∧ (overdue x.pairAB now (1000000 * bits (recWord u.set n 2) 31 16) ||
      overdue x.pairCD now (1000000 * bits (recWord u.set n 2) 31 16)) = true ∧ x.discrep = false then
    entered now 5 { x with
      discrep := true
      faults := satInc 16 x.faults }
  else x

/-- An instance after its synchronisation timeout (R369). -/
def afterSync (x : SafInst) : SafInst :=
  if u.layer = 2 ∧ recEn u.set n = true ∧ recType u.set n = 3 ∧ x.state = 1 ∧ overdue x.firstAt now 500000000 = true then
    entered now 6 { x with sync := true }
  else x

/-- An instance after its time in DEGRADED (R381). -/
def afterDegraded (x : SafInst) : SafInst :=
  if u.layer = 2 ∧ x.state = 4 ∧ overdue x.degAt now (1000000000 * bits (recWord u.set n 3) 10 0) = true then entered now 5 x else x

variable {now n u} {v : W Saf} {b : Bool}

theorem inst_discrepancy (h : safFrame v.u = safFrame u) :
    ((Saf.discrepancy now n v b).u.chan b).inst n = afterDiscrepancy now n u ((v.u.chan b).inst n) := by
  unfold Saf.discrepancy afterDiscrepancy
  dsimp only
  rw [set_of_frame h, layer_of_frame h]
  split
  · rw [inst_goto, u_code, Saf.countFault, inst_map, inst_map]
  · rfl

theorem inst_syncTimeout (h : safFrame v.u = safFrame u) :
    ((Saf.syncTimeout now n v b).u.chan b).inst n = afterSync now n u ((v.u.chan b).inst n) := by
  unfold Saf.syncTimeout afterSync
  dsimp only
  rw [set_of_frame h, layer_of_frame h]
  split
  · rw [inst_goto, u_code, inst_map]
  · rfl

theorem inst_degExpiry (h : safFrame v.u = safFrame u) :
    ((Saf.degExpiry now n v b).u.chan b).inst n = afterDegraded now n u ((v.u.chan b).inst n) := by
  unfold Saf.degExpiry afterDegraded
  dsimp only
  rw [set_of_frame h, layer_of_frame h]
  split
  · rw [inst_goto, u_code]
  · rfl

end

/-! ## A taken reset (R382) -/

/-- An instance after a taken reset of its reset input. -/
def afterReset (now : Nat) (fault : Bool) (x : SafInst) : SafInst :=
  if x.state = 2 then (if x.demand then x else entered now 3 x)
  else if x.state = 5 then
    if fault then x
    else if !(x.pairAB.isNone && x.pairCD.isNone) then x
    else entered now (if x.demand then 1 else 3) { x with
      discrep := false
      xcmp := false
      xRun := 0 }
  else x

section
variable {isC : Bool} {now i : Nat} {w : W Saf}

theorem inst_resetInst : ((Saf.resetInst isC now w i).u.chan isC).inst i = afterReset now (w.u.soFault i) ((w.u.chan isC).inst i) := by
  have hrefuse : ∀ c, (w.when isC (Saf.refuseReset i c)).u = w.u := fun c => u_when (g := id) (f := Saf.refuseReset i c) (fun _ => rfl) isC w
  unfold Saf.resetInst afterReset
  dsimp only
  split
  · split
    · rw [hrefuse]
    · rw [inst_goto]
  · split
    · split
      · rw [hrefuse]
      · split
        · rw [hrefuse]
        · rw [inst_goto, inst_map]
    · rfl

/-- Resets of a list of instances of a channel, each once. -/
theorem inst_resets {l : List Nat} (hl : l.Nodup) : ((l.foldl (Saf.resetInst isC now) w).u.chan isC).inst i =
    if i ∈ l then afterReset now (w.u.soFault i) ((w.u.chan isC).inst i) else (w.u.chan isC).inst i := by
  induction l generalizing w with
  | nil => rfl
  | cons j l ih =>
    obtain ⟨hj, hnd⟩ := List.nodup_cons.mp hl
    have ht := (Touches.refl w).resetInst (T := fun b k => b = isC ∧ k = j) (isC := isC) (now := now) (i := j) ⟨rfl, rfl⟩
    rw [List.foldl_cons, ih hnd, soFault_of_frame ht.frame]
    by_cases h : i = j
    · subst h
      rw [if_neg hj, if_pos (List.mem_cons.mpr (.inl rfl)), inst_resetInst]
    · rw [ht.insts isC i fun e => h e.2]
      exact if_congr (by rw [List.mem_cons]; exact ⟨.inr, fun e => e.resolve_left h⟩) rfl rfl

end

/-- Both channels judged at a true time. -/
def judgedWork (now : Nat) (u : Saf) : W Saf := Saf.evaluate true now (Saf.evaluate false now (W.of ((u.advance false now).advance true now)))

/-- The instances that name a reset input. -/
def namedBy (p : List Word) (j : Nat) : List Nat := (setInsts p).filter (fun i => recRst p i == j)

/-- The resets of the instances that name input j, in both channels, the press taken. -/
def resetWork (now j : Nat) (w : W Saf) : W Saf :=
  let named := namedBy w.u.set j
  named.foldl (Saf.resetInst false now) (named.foldl (Saf.resetInst true now)
    (w.map fun u => { u with pressed := u.pressed &&& ~~~(BitVec.twoPow 32 j) }))

theorem resetTaken_eq (now j : Nat) (u : Saf) :
    u.resetTaken now j = (if (judgedWork now u).u.layer = 2 ∧ (judgedWork now u).u.pressed.getLsbD j = true then
      (resetWork now j (judgedWork now u)).map (Saf.settle now) else (judgedWork now u).map (Saf.settle now)) := rfl

theorem touches_judged (now : Nat) (u : Saf) : Touches anyInst (W.of ((u.advance false now).advance true now)) (judgedWork now u) :=
  ((Touches.refl _).evaluate fun _ => trivial).evaluate fun _ => trivial

theorem judged_settings (now : Nat) (u : Saf) : (judgedWork now u).u.set = u.set ∧ (judgedWork now u).u.layer = u.layer := by
  have h := (unfiltered_advance true now (u.advance false now)).trans (unfiltered_advance false now u)
  have hf := (touches_judged now u).frame
  exact ⟨(set_of_frame hf).trans (set_of_unfiltered h), (layer_of_frame hf).trans (layer_of_unfiltered h)⟩

theorem nodup_namedBy (p : List Word) (j : Nat) : (namedBy p j).Nodup := (List.nodup_range.filter _).filter _

theorem mem_namedBy {p : List Word} {i j : Nat} : i ∈ namedBy p j ↔ (i < 16 ∧ recEn p i = true) ∧ recRst p i = j := by
  unfold namedBy setInsts upto
  rw [List.mem_filter, List.mem_filter, List.mem_range, beq_iff_eq]

section
variable (now j : Nat) (w : W Saf)

/-- The resets: each named instance in each channel as its own reset leaves it, the press gone, nothing stored. -/
theorem resetWork_leaves :
    (∀ b i, (((resetWork now j w).u.chan b).inst i) =
        if i ∈ namedBy w.u.set j then afterReset now (w.u.soFault i) ((w.u.chan b).inst i) else (w.u.chan b).inst i) ∧
      (j < 32 → (resetWork now j w).u.pressed.getLsbD j = false) ∧ (resetWork now j w).st = w.st := by
  have hput : ∀ b i, ((w.map fun u => { u with pressed := u.pressed &&& ~~~(BitVec.twoPow 32 j) }).u.chan b).inst i = (w.u.chan b).inst i :=
    fun b i => by cases b <;> rfl
  have h1 := (Touches.refl (T := fun b _ => b = true) (w.map fun u => { u with pressed := u.pressed &&& ~~~(BitVec.twoPow 32 j) })).foldl
    (f := Saf.resetInst true now) (fun y i k => k.resetInst rfl) (namedBy w.u.set j)
  have h2 := (Touches.refl (T := fun b _ => b = false) ((namedBy w.u.set j).foldl (Saf.resetInst true now)
    (w.map fun u => { u with pressed := u.pressed &&& ~~~(BitVec.twoPow 32 j) }))).foldl
    (f := Saf.resetInst false now) (fun y i k => k.resetInst rfl) (namedBy w.u.set j)
  refine ⟨fun b i => ?_, fun hj => ?_, h2.st.trans h1.st⟩
  · unfold resetWork
    cases b
    · rw [inst_resets (nodup_namedBy _ _), soFault_of_frame h1.frame, h1.insts false i (by decide), hput]
      rfl
    · rw [h2.insts true i (by decide), inst_resets (nodup_namedBy _ _), hput]
      rfl
  · have hp : (resetWork now j w).u.pressed = w.u.pressed &&& ~~~(BitVec.twoPow 32 j) := pressed_of_frame (h2.frame.trans h1.frame)
    rw [hp]
    simp [hj]

end

/-- The layer after a press of reset input j was taken: each instance, the press, and nothing stored. -/
theorem resetTaken_leaves (now j : Nat) (u : Saf) :
    (∀ b i, ((u.resetTaken now j).u.chan b).inst i =
        if (u.layer = 2 ∧ (judgedWork now u).u.pressed.getLsbD j = true) ∧ i ∈ namedBy u.set j
        then afterReset now ((judgedWork now u).u.soFault i) (((judgedWork now u).u.chan b).inst i)
        else ((judgedWork now u).u.chan b).inst i) ∧
      (u.layer = 2 → j < 32 → (u.resetTaken now j).u.pressed.getLsbD j = false) ∧ (u.resetTaken now j).st = [] := by
  obtain ⟨hset, hlayer⟩ := judged_settings now u
  obtain ⟨hinst, hpress, hst⟩ := resetWork_leaves now j (judgedWork now u)
  have hst0 : (judgedWork now u).st = [] := (touches_judged now u).st
  rw [resetTaken_eq, hlayer]
  by_cases hc : u.layer = 2 ∧ (judgedWork now u).u.pressed.getLsbD j = true
  · rw [if_pos hc]
    refine ⟨fun b i => ?_, fun _ hj => ?_, (st_map _ _).trans (hst.trans hst0)⟩
    · rw [u_map, chan_settle, hinst, hset]
      exact if_congr (by rw [and_iff_right hc]) rfl rfl
    · rw [u_map, pressed_settle]
      exact hpress hj
  · rw [if_neg hc]
    refine ⟨fun b i => ?_, fun hl hj => ?_, (st_map _ _).trans hst0⟩
    · rw [u_map, chan_settle, if_neg fun h => hc h.1]
    · rw [u_map, pressed_settle]
      exact Bool.eq_false_iff.mpr fun h => hc ⟨hl, h⟩

/-! ## A held press (R382) -/

/-- A press of input j that has reached 5 s is reported once. -/
theorem resetHeld_reports {now j : Nat} {u : Saf} (hj : j < 32) (h : (u.advance false now).layer = 2 ∧ inKind (u.advance false now).set j = 2 ∧
      (u.advance false now).h.filt.getLsbD j = true ∧ 5000000000 ≤ now - sget (fun _ => 0) (u.advance false now).h.closedAt j ∧
      rbit (u.advance false now).regs Reg.SAFC_RST_STAT j = false) :
    ∃ v, u.resetHeld now j = ((W.of v).code Pg.SAFC 0x11B8 [wd j]).map (Saf.settle now) ∧
      rbit (v.settle now).regs Reg.SAFC_RST_STAT j = true := by
  refine ⟨{ u.advance false now with regs := rmod (u.advance false now).regs Reg.SAFC_RST_STAT (fun x => putBit x j true) }, if_pos h, ?_⟩
  have hcell : ∀ v : Saf, bit (rget v.regs Reg.SAFC_RST_STAT) j = true → rbit (v.settle now).regs Reg.SAFC_RST_STAT j = true := fun v hv => by
    unfold rbit
    rw [rget_settle now _ (by decide)]
    exact hv
  refine hcell _ ?_
  dsimp only
  rw [rget_rmod, if_pos rfl, bit_putBit _ _ _ hj, if_pos rfl]

/-- A held press leaves the instances, and stores nothing. -/
theorem resetHeld_keeps (now j : Nat) (u : Saf) : u.sameInsts (u.resetHeld now j).u ∧ (u.resetHeld now j).st = [] := by
  have hadv : ∀ b i, ((u.advance false now).chan b).inst i = (u.chan b).inst i := inst_of_unfiltered (unfiltered_advance false now u)
  unfold Saf.resetHeld
  dsimp only
  split
  · refine ⟨fun b i => ?_, rfl⟩
    rw [u_map, chan_settle, ← hadv]
    cases b <;> rfl
  · refine ⟨fun b i => ?_, rfl⟩
    rw [u_of, chan_settle]
    exact hadv b i

end Sys2Proof.Proofs
end

section
/-! SUPPORT. The safety functions, command by command (R365–R371, R381, R382). -/

namespace Sys2Proof.Proofs

open Sys2Proof Sys2Proof.Machine

-- One proof after another: many at once wait for the kernel in threads of their own, which the check's memory limit does not hold.
set_option Elab.async false

section
variable {s : State} {f : Saf → W Saf}

/-- The layer's work that stores nothing leaves the rest of the module, and every byte. -/
theorem onSaf_rest (h : (f s.saf).st = []) : (s.onSaf f).shell = { s.shell with saf := (s.onSaf f).saf } ∧ s.SameBytes (s.onSaf f) :=
  ⟨by rw [shell_onSaf, onSaf_saf], bytes_onSaf h⟩

end

variable (now : Nat) (s : State)

theorem set_of_settings {u v : Saf} (h : safSettings v = safSettings u) : v.set = u.set := congrArg (·.2.1) h

/-- SAFC has the levels it samples. -/
theorem raw_sampled (raw : BitVec 32) (u : Saf) : ((sampled raw now u).chan true).raw = raw :=
  raw_of_unfiltered (unfiltered_sampled raw now u) true

/-- SAFC's cycle. -/
theorem safcCycle_leaves (raw : BitVec 32) (work : Nat) :
    let t := s.onSaf (fun u => u.cycle raw now work)
    t.saf.c.raw = raw ∧ t.saf.layer = s.saf.layer ∧ t.saf.set = s.saf.set ∧
      (∀ i, i < 32 → s.saf.c.raw.getLsbD i = raw.getLsbD i → sget (fun _ => 0) s.saf.c.since i + inFilter s.saf.set i ≤ now →
        t.saf.c.filt.getLsbD i = raw.getLsbD i) ∧
      (∀ i, i < 32 → s.saf.c.raw.getLsbD i ≠ raw.getLsbD i → t.saf.c.filt.getLsbD i = s.saf.c.filt.getLsbD i) ∧
      (∀ isC i, i < 16 → s.saf.layer = 2 → recEn s.saf.set i = true → permitState s.saf.set (t.saf.chan isC).filt i = false →
        ((t.saf.chan isC).inst i).permits = false) ∧
      (s.saf.layer ≠ 2 → s.saf.sameInsts t.saf) ∧ t.shell = { s.shell with saf := t.saf } ∧ s.SameBytes t := by
  intro t
  have hsaf : t.saf = (s.saf.cycle raw now work).u := onSaf_saf _ s
  have hchan : ∀ b, t.saf.chan b = (cycleWork raw now s.saf).u.chan b := fun b => by rw [hsaf, chan_cycle]
  have hwork := touches_cycle raw now s.saf
  have hc : t.saf.c = (cycleWork raw now s.saf).u.chan true := hchan true
  have hfilt : t.saf.c.filt = ((sampled raw now s.saf).chan true).filt := by rw [hc, filt_of_frame hwork.frame, u_of]
  have hraw : t.saf.c.raw = raw := by rw [hc, raw_of_frame hwork.frame, u_of, raw_sampled]
  have hsettings := safSettings_cycle s.saf (now := now) raw work
  obtain ⟨hdue, hwait⟩ := filt_sampled raw now s.saf
  refine ⟨hraw, by rw [hsaf]; exact layer_of_settings hsettings, by rw [hsaf]; exact set_of_settings hsettings, ?_, ?_,
    fun isC i hi hl he hp => ?_, fun hl b i => ?_, onSaf_rest ?_⟩
  · rw [hfilt]
    exact hdue
  · rw [hfilt]
    exact hwait
  · rw [hchan] at hp ⊢
    exact cycle_not_permits raw now s.saf hl hi he hp
  · rw [hchan, cycleWork_idle raw now s.saf hl, u_of, inst_of_unfiltered (unfiltered_sampled raw now s.saf)]
    cases b <;> rfl
  · rw [cycle_eq, st_map]
    exact hwork.st

/-- New levels of the safety inputs. -/
theorem inputChange_leaves (raw : BitVec 32) :
    let t := s.onSaf (fun u => u.inputChange raw now)
    t.saf.h.raw = raw ∧ t.saf.c = s.saf.c ∧
      (∀ i, i < 32 → sget (fun _ => 0) s.saf.h.since i + inFilter s.saf.set i ≤ now → t.saf.h.filt.getLsbD i = s.saf.h.raw.getLsbD i) ∧
      (∀ i, i < 32 → now < sget (fun _ => 0) s.saf.h.since i + inFilter s.saf.set i →
        t.saf.h.filt.getLsbD i = s.saf.h.filt.getLsbD i) ∧
      (∀ i, i < 16 → s.saf.layer = 2 → recEn s.saf.set i = true → permitState s.saf.set t.saf.h.filt i = false →
        (t.saf.h.inst i).permits = false) ∧ t.shell = { s.shell with saf := t.saf } ∧ s.SameBytes t := by
  intro t
  have hsaf : t.saf = (s.saf.inputChange raw now).u := onSaf_saf _ s
  have hc : t.saf.c = (changeWork now s.saf).u.c := by
    rw [hsaf]
    exact chan_inputChange raw now s.saf true
  have hh : t.saf.h = (changeWork now s.saf).u.h.setRaw raw now := by
    rw [hsaf]
    exact chan_inputChange raw now s.saf false
  have hfilt : t.saf.h.filt = (changeWork now s.saf).u.h.filt := by rw [hh]; rfl
  obtain ⟨hdue, hwait⟩ := filt_changeWork now s.saf
  refine ⟨by rw [hh]; rfl, hc.trans (c_changeWork now s.saf), ?_, ?_, fun i hi hl he hp => ?_, onSaf_rest ?_⟩
  · rw [hfilt]
    exact hdue
  · rw [hfilt]
    exact hwait
  · rw [hfilt] at hp
    rw [hh]
    exact changeWork_not_permits now s.saf hl hi he hp
  · rw [inputChange_eq, st_map]
    exact (touches_change now s.saf).st

section
variable (n : Nat)

/-- A discrepancy timeout of instance n. -/
theorem discrepancy_leaves :
    let t := s.onSaf (fun u => u.both now (Saf.discrepancy now n))
    (∀ isC disc, disc = 1000000 * bits (recWord s.saf.set n 2) 31 16 →
        (s.saf.layer = 2 → recEn s.saf.set n = true → ((s.saf.chan isC).inst n).discrep = false →
          (overdue ((s.saf.chan isC).inst n).pairAB now disc = true ∨ overdue ((s.saf.chan isC).inst n).pairCD now disc = true) →
          ((t.saf.chan isC).inst n).state = 5 ∧ ((t.saf.chan isC).inst n).discrep = true ∧
          ((t.saf.chan isC).inst n).faults = satInc 16 ((s.saf.chan isC).inst n).faults) ∧
        (overdue ((s.saf.chan isC).inst n).pairAB now disc = false → overdue ((s.saf.chan isC).inst n).pairCD now disc = false →
          (t.saf.chan isC).inst n = (s.saf.chan isC).inst n)) ∧
      (∀ isC i, i ≠ n → (t.saf.chan isC).inst i = (s.saf.chan isC).inst i) ∧ t.shell = { s.shell with saf := t.saf } ∧ s.SameBytes t := by
  intro t
  have hsaf : t.saf = (s.saf.both now (Saf.discrepancy now n)).u := onSaf_saf _ s
  obtain ⟨hinst, hrest, hst⟩ := both_insts (now := now) (n := n) (u := s.saf) (f := Saf.discrepancy now n)
    (fun v b => (Touches.refl v).discrepancy ⟨rfl, rfl⟩) (fun v b hv => inst_discrepancy hv)
  refine ⟨fun isC disc hd => ?_, by rw [hsaf]; exact hrest, onSaf_rest hst⟩
  subst hd
  rw [hsaf, hinst]
  refine ⟨fun hl he hn ho => ?_, fun h1 h2 => ?_⟩
  · unfold afterDiscrepancy
    rw [if_pos ⟨hl, he, by rcases ho with h | h <;> simp [h], hn⟩]
    obtain ⟨hd, -, -, hf⟩ := entered_keeps now 5 { (s.saf.chan isC).inst n with
      discrep := true
      faults := satInc 16 ((s.saf.chan isC).inst n).faults }
    exact ⟨state_entered .., hd, hf⟩
  · unfold afterDiscrepancy
    rw [if_neg fun h => by
      obtain ⟨-, -, h, -⟩ := h
      rw [h1, h2] at h
      cases h]

/-- A synchronisation timeout of instance n. -/
theorem syncTimeout_leaves :
    let t := s.onSaf (fun u => u.both now (Saf.syncTimeout now n))
    (∀ isC, s.saf.layer = 2 → recEn s.saf.set n = true → recType s.saf.set n = 3 → ((s.saf.chan isC).inst n).state = 1 →
        overdue ((s.saf.chan isC).inst n).firstAt now 500000000 = true →
        ((t.saf.chan isC).inst n).state = 6 ∧ ((t.saf.chan isC).inst n).sync = true) ∧
      (∀ isC, overdue ((s.saf.chan isC).inst n).firstAt now 500000000 = false → (t.saf.chan isC).inst n = (s.saf.chan isC).inst n) ∧
      (∀ isC i, i ≠ n → (t.saf.chan isC).inst i = (s.saf.chan isC).inst i) ∧ t.shell = { s.shell with saf := t.saf } ∧ s.SameBytes t := by
  intro t
  have hsaf : t.saf = (s.saf.both now (Saf.syncTimeout now n)).u := onSaf_saf _ s
  obtain ⟨hinst, hrest, hst⟩ := both_insts (now := now) (n := n) (u := s.saf) (f := Saf.syncTimeout now n)
    (fun v b => (Touches.refl v).syncTimeout ⟨rfl, rfl⟩) (fun v b hv => inst_syncTimeout hv)
  refine ⟨fun isC hl he ht h1 ho => ?_, fun isC h => ?_, by rw [hsaf]; exact hrest, onSaf_rest hst⟩
  · rw [hsaf, hinst]
    unfold afterSync
    rw [if_pos ⟨hl, he, ht, h1, ho⟩]
    obtain ⟨-, -, hs, -⟩ := entered_keeps now 6 { (s.saf.chan isC).inst n with sync := true }
    exact ⟨state_entered .., hs⟩
  · rw [hsaf, hinst]
    unfold afterSync
    rw [if_neg fun k => by
      obtain ⟨-, -, -, -, k⟩ := k
      rw [h] at k
      cases k]

/-- The end of the time that instance n may be DEGRADED. -/
theorem degExpiry_leaves :
    let t := s.onSaf (fun u => u.both now (Saf.degExpiry now n))
    (∀ isC limit, limit = 1000000000 * bits (recWord s.saf.set n 3) 10 0 →
        (s.saf.layer = 2 → ((s.saf.chan isC).inst n).state = 4 → overdue ((s.saf.chan isC).inst n).degAt now limit = true →
          ((t.saf.chan isC).inst n).state = 5) ∧
        (overdue ((s.saf.chan isC).inst n).degAt now limit = false → (t.saf.chan isC).inst n = (s.saf.chan isC).inst n)) ∧
      (∀ isC i, i ≠ n → (t.saf.chan isC).inst i = (s.saf.chan isC).inst i) ∧ t.shell = { s.shell with saf := t.saf } ∧ s.SameBytes t := by
  intro t
  have hsaf : t.saf = (s.saf.both now (Saf.degExpiry now n)).u := onSaf_saf _ s
  obtain ⟨hinst, hrest, hst⟩ := both_insts (now := now) (n := n) (u := s.saf) (f := Saf.degExpiry now n)
    (fun v b => (Touches.refl v).degExpiry ⟨rfl, rfl⟩) (fun v b hv => inst_degExpiry hv)
  refine ⟨fun isC limit hd => ?_, by rw [hsaf]; exact hrest, onSaf_rest hst⟩
  subst hd
  rw [hsaf, hinst]
  refine ⟨fun hl h4 ho => ?_, fun h => ?_⟩
  · unfold afterDegraded
    rw [if_pos ⟨hl, h4, ho⟩]
    exact state_entered ..
  · unfold afterDegraded
    rw [if_neg fun k => by
      obtain ⟨-, -, k⟩ := k
      rw [h] at k
      cases k]

end

/-- An instance whose reset was taken, case by case. -/
theorem afterReset_cases (fault : Bool) (x : SafInst) :
    (x.state = 2 → (afterReset now fault x).state = if x.demand then 2 else 3) ∧
      (x.state = 5 → fault = true → afterReset now fault x = x) ∧
      (x.state = 5 → (x.pairAB ≠ none ∨ x.pairCD ≠ none) → afterReset now fault x = x) ∧
      (x.state = 5 → fault = false → x.pairAB = none → x.pairCD = none →
        (afterReset now fault x).state = (if x.demand then 1 else 3) ∧ (afterReset now fault x).discrep = false ∧
        (afterReset now fault x).xcmp = false) ∧
      (x.state ≠ 2 → x.state ≠ 5 → afterReset now fault x = x) := by
  unfold afterReset
  refine ⟨fun h2 => ?_, fun h5 hf => ?_, fun h5 hp => ?_, fun h5 hf hab hcd => ?_, fun h2 h5 => ?_⟩
  · rw [if_pos h2]
    cases hd : x.demand
    · exact state_entered ..
    · exact h2
  · rw [if_neg (by omega), if_pos h5, if_pos hf]
  · have hpair : (!(x.pairAB.isNone && x.pairCD.isNone)) = true := by
      rcases hp with h | h
      · rw [Option.isNone_eq_false_iff.mpr (Option.isSome_iff_ne_none.mpr h)]
        rfl
      · rw [Option.isNone_eq_false_iff.mpr (Option.isSome_iff_ne_none.mpr h), Bool.and_false]
        rfl
    rw [if_neg (by omega), if_pos h5, if_pos hpair, ite_self]
  · rw [if_neg (by omega), if_pos h5, if_neg (by rw [hf]; decide), if_neg (by rw [hab, hcd]; decide)]
    obtain ⟨hdis, hx, -, -⟩ := entered_keeps now (if x.demand then 1 else 3) { x with
      discrep := false
      xcmp := false
      xRun := 0 }
    exact ⟨state_entered .., hdis, hx⟩
  · rw [if_neg h2, if_neg h5]

/-- A press of reset input j taken. -/
theorem resetTaken_state {j : Nat} (hj : j < 32) :
    let t := s.onSaf (fun u => u.resetTaken now j)
    let u := s.saf.judged now
    (∀ isC i x, x = (u.chan isC).inst i → s.saf.layer = 2 → u.pressed.getLsbD j = true → i < 16 → recEn s.saf.set i = true →
        recRst s.saf.set i = j →
        (x.state = 2 → ((t.saf.chan isC).inst i).state = if x.demand then 2 else 3) ∧
        (x.state = 5 → u.soFault i = true → (t.saf.chan isC).inst i = x) ∧
        (x.state = 5 → (x.pairAB ≠ none ∨ x.pairCD ≠ none) → (t.saf.chan isC).inst i = x) ∧
        (x.state = 5 → u.soFault i = false → x.pairAB = none → x.pairCD = none →
          ((t.saf.chan isC).inst i).state = (if x.demand then 1 else 3) ∧ ((t.saf.chan isC).inst i).discrep = false ∧
          ((t.saf.chan isC).inst i).xcmp = false) ∧
        (x.state ≠ 2 → x.state ≠ 5 → (t.saf.chan isC).inst i = x)) ∧
      (∀ isC i, (recEn s.saf.set i = false ∨ recRst s.saf.set i ≠ j ∨ u.pressed.getLsbD j = false) →
        (t.saf.chan isC).inst i = (u.chan isC).inst i) ∧
      (s.saf.layer = 2 → t.saf.pressed.getLsbD j = false) ∧ t.shell = { s.shell with saf := t.saf } ∧ s.SameBytes t := by
  intro t u
  have hsaf : t.saf = (s.saf.resetTaken now j).u := onSaf_saf _ s
  obtain ⟨hinst, hpress, hst⟩ := resetTaken_leaves now j s.saf
  refine ⟨fun isC i x hx hl hp hi he hr => ?_, fun isC i h => ?_, fun hl => ?_, onSaf_rest hst⟩
  · rw [hsaf, hinst, if_pos ⟨⟨hl, hp⟩, mem_namedBy.mpr ⟨⟨hi, he⟩, hr⟩⟩]
    subst hx
    exact afterReset_cases now (u.soFault i) ((u.chan isC).inst i)
  · rw [hsaf, hinst, if_neg]
    · rfl
    · rintro ⟨⟨-, hp⟩, hm⟩
      obtain ⟨⟨-, he⟩, hr⟩ := mem_namedBy.mp hm
      rcases h with h | h | h
      · exact absurd he (by rw [h]; decide)
      · exact h hr
      · exact absurd hp (by rw [show (judgedWork now s.saf).u = u from rfl, h]; decide)
  · rw [hsaf]
    exact hpress hl hj

/-- A press of reset input j held for 5 s. -/
theorem resetHeld_state {j : Nat} (hj : j < 32) :
    let t := s.onSaf (fun u => u.resetHeld now j)
    let u := s.saf.advance false now
    (s.saf.layer = 2 → inKind s.saf.set j = 2 → u.h.filt.getLsbD j = true →
        5000000000 ≤ now - sget (fun _ => 0) u.h.closedAt j → rbit s.saf.regs Reg.SAFC_RST_STAT j = false →
        rbit t.saf.regs Reg.SAFC_RST_STAT j = true ∧ t.errCode Pg.SAFC = 0x11B8) ∧
      s.saf.sameInsts t.saf ∧ t.shell = { s.shell with saf := t.saf } ∧ s.SameBytes t := by
  intro t u
  have hsaf : t.saf = (s.saf.resetHeld now j).u := onSaf_saf _ s
  obtain ⟨hinst, hst⟩ := resetHeld_keeps now j s.saf
  have hfr := unfiltered_advance false now s.saf
  refine ⟨fun hl hk hf ht hr => ?_, by rw [hsaf]; exact hinst, onSaf_rest hst⟩
  obtain ⟨v, hv, hbit⟩ := resetHeld_reports (now := now) (u := s.saf) hj ⟨(layer_of_unfiltered hfr).trans hl,
    by rw [set_of_unfiltered hfr]; exact hk, hf, ht, by rw [regs_advance]; exact hr⟩
  refine ⟨by rw [hsaf, hv, u_map, u_code, u_of]; exact hbit, ?_⟩
  exact errCode_onSaf_last (l := []) (c := ⟨Pg.SAFC, 0x11B8, [wd j], false⟩) (by rw [hv]; rfl) (by decide : Pg.SAFC ≠ Pg.SNAP)
    (by rw [hv]; rfl) (by rw [hv]; rfl) (by rw [hv]; rfl)

/-- Settles O38: each command is the layer's work at its time, and what the work leaves is one lemma each. -/
theorem safetyFunctionCommands : Obligations.SafetyFunctionCommands := by
  unfold Obligations.SafetyFunctionCommands
  refine ⟨fun a raw work s h => ⟨_, congrArg Host.Outcome.next (safDoes_runs h), ?_⟩,
    fun a raw s h => ⟨_, congrArg Host.Outcome.next (safDoes_runs h), ?_⟩,
    fun a n s h => ⟨_, congrArg Host.Outcome.next (safDoes_runs h), ?_⟩,
    fun a n s h => ⟨_, congrArg Host.Outcome.next (safDoes_runs h), ?_⟩,
    fun a n s h => ⟨_, congrArg Host.Outcome.next (safDoes_runs h), ?_⟩,
    fun a j s h => ⟨_, _, congrArg Host.Outcome.next (safDoes_runs h), rfl, ?_⟩,
    fun a j s h => ⟨_, _, congrArg Host.Outcome.next (safDoes_runs h), rfl, ?_⟩⟩
  · exact safcCycle_leaves (s.at_ a).now (s.at_ a) raw work
  · exact inputChange_leaves (s.at_ a).now (s.at_ a) raw
  · exact discrepancy_leaves (s.at_ a).now (s.at_ a) n.val
  · exact syncTimeout_leaves (s.at_ a).now (s.at_ a) n.val
  · exact degExpiry_leaves (s.at_ a).now (s.at_ a) n.val
  · exact resetTaken_state (s.at_ a).now (s.at_ a) j.isLt
  · exact resetHeld_state (s.at_ a).now (s.at_ a) j.isLt

end Sys2Proof.Proofs
end

section
/-! SUPPORT. What the codes, the snapshots and the saves of any work make of REC (R402, R403, R413): records join the queue at its end,
and nothing else of REC changes but the counts that follow from that. -/

namespace Sys2Proof.Proofs

open Sys2Proof Sys2Proof.Machine

-- One proof after another: many at once wait for the kernel in threads of their own, which the check's memory limit does not hold.
set_option Elab.async false

/-- REC's fields of REC_STAT and its registers that offers of records leave alone. -/
structure SameFlags (u v : Rec) : Prop where
  reg : ∀ k, k ≠ Reg.REC_STAT → k ≠ Reg.REC_LOST → k ≠ Reg.REC_SEQ_NEXT → rget v.regs k = rget u.regs k
  flag : ∀ i, i < 32 → i ≠ 5 → (i < 8 ∨ 16 < i) → v.flag i = u.flag i

theorem SameFlags.refl (u : Rec) : SameFlags u u := ⟨fun _ _ _ _ => rfl, fun _ _ _ _ => rfl⟩

theorem SameFlags.trans {u v w : Rec} (h : SameFlags u v) (k : SameFlags v w) : SameFlags u w :=
  ⟨fun j h1 h2 h3 => (k.reg j h1 h2 h3).trans (h.reg j h1 h2 h3), fun i h1 h2 h3 => (k.flag i h1 h2 h3).trans (h.flag i h1 h2 h3)⟩

theorem bits_congr {v w : Word} {hi lo : Nat} (h : ∀ i, lo ≤ i → i ≤ hi → v.getLsbD i = w.getLsbD i) :
    bits v hi lo = bits w hi lo := by
  refine Nat.eq_of_testBit_eq fun i => ?_
  rw [testBit_bits, testBit_bits]
  by_cases hi' : i < hi + 1 - lo
  · rw [h (lo + i) (by omega) (by omega)]
  · simp [hi']

/-- SHELF_USED is among the fields that stand. -/
theorem SameFlags.shelfUsed {u v : Rec} (h : SameFlags u v) : v.shelfUsed = u.shelfUsed :=
  bits_congr fun i h1 h2 => h.flag i (by omega) (by omega) (by omega)

theorem sameFlags_settle (u : Rec) : SameFlags u u.settle :=
  ⟨fun k h1 _ h3 => by
      unfold Rec.settle
      rw [rget_rset, if_neg h3, rget_rmod, if_neg h1],
    fun i h1 _ h3 => by
      unfold Rec.flag Rec.settle rbit
      rw [rget_rset, if_neg (by decide)]
      exact rbit_putBits u.regs Reg.REC_STAT _ (by decide) h1 (by omega)⟩

theorem sameFlags_five (u : Rec) (b : Bool) : SameFlags u (u.setFlag 5 b) :=
  ⟨fun k h1 _ _ => rget_rmod_ne u.regs (fun x => putBit x 5 b) h1, fun i h1 h2 _ => by
    refine (rbit_putBit u.regs Reg.REC_STAT 5 b h1).trans ?_
    rw [if_neg h2]
    rfl⟩

theorem sameFlags_lost (u : Rec) (n : Nat) : SameFlags u { u with regs := rmod u.regs Reg.REC_LOST incW, lostSince := n } :=
  ⟨fun k _ h2 _ => rget_rmod_ne _ _ h2, fun i _ _ _ => rbit_rmod_ne _ _ i (by decide)⟩

/-- REC goes on from u to v: the records waiting at u are still first in the queue, a loss that begins finds the queue full, and else
only what follows from the queue and the losses has changed. -/
structure GoesOn (u v : Rec) : Prop extends SameFlags u v where
  store : Rec.store v = Rec.store u
  queue : ∃ more, v.queue = u.queue ++ more
  full : u.lostSince = 0 → v.lostSince = 0 ∨ queueMax ≤ v.queue.length

theorem GoesOn.refl (u : Rec) : GoesOn u u := ⟨.refl u, rfl, ⟨[], (List.append_nil _).symm⟩, .inl⟩

theorem GoesOn.trans {u v w : Rec} (h : GoesOn u v) (k : GoesOn v w) : GoesOn u w := by
  obtain ⟨m, hm⟩ := h.queue
  obtain ⟨n, hn⟩ := k.queue
  refine ⟨h.toSameFlags.trans k.toSameFlags, k.store.trans h.store, ⟨m ++ n, by rw [hn, hm, List.append_assoc]⟩, fun h0 => ?_⟩
  obtain hv | hv := h.full h0
  · exact k.full hv
  · exact .inr (by rw [hn, List.length_append]; omega)

/-- The records that wait for a save are no part of what goes on. -/
theorem goesOn_saving (u : Rec) (l : List Record) : GoesOn u { u with saving := l } :=
  ⟨⟨fun _ _ _ _ => rfl, fun _ _ _ _ => rfl⟩, rfl, ⟨[], (List.append_nil _).symm⟩, .inl⟩

theorem goesOn_lose (full : Bool) (w : W Rec) (h : full = true → queueMax ≤ w.u.queue.length) : GoesOn w.u (Rec.lose full w).u := by
  unfold Rec.lose
  refine ⟨sameFlags_lost _ _, rfl, ⟨[], (List.append_nil _).symm⟩, fun h0 => ?_⟩
  cases full
  · exact .inl h0
  · exact .inr (h rfl)

theorem goesOn_five (u : Rec) (b : Bool) : GoesOn u (u.setFlag 5 b) := ⟨sameFlags_five u b, rfl, ⟨[], (List.append_nil _).symm⟩, .inl⟩

theorem goesOn_settle (u : Rec) : GoesOn u u.settle := ⟨sameFlags_settle u, rfl, ⟨[], (List.append_nil _).symm⟩, .inl⟩

theorem goesOn_offer (r : Record) (w : W Rec) : GoesOn w.u (Rec.offer r w).u := by
  unfold Rec.offer
  split
  · exact goesOn_lose false w (fun h => absurd h (by decide))
  split
  case isTrue hfull =>
    exact (goesOn_five w.u true).trans (goesOn_lose true (w.map (·.setFlag 5 true)) fun _ => hfull)
  case isFalse =>
    have hjoin : GoesOn w.u { w.u with queue := w.u.queue ++ [r] } :=
      ⟨⟨fun _ _ _ _ => rfl, fun _ _ _ _ => rfl⟩, rfl, ⟨[r], rfl⟩, .inl⟩
    exact hjoin.trans (goesOn_settle _)

theorem goesOn_feed (n : Nat) (w : W Rec) : GoesOn w.u (Rec.feed n w).u := by
  induction n generalizing w with
  | zero => exact .refl _
  | succ n ih =>
    unfold Rec.feed
    split
    · exact .refl _
    · split
      · exact ((goesOn_saving w.u _).trans (goesOn_offer _ (w.map fun u => { u with saving := _ }))).trans (ih _)
      · exact .refl _

theorem goesOn_record (c : Code) (s : State) : GoesOn s.log (s.record c).log := by
  unfold State.record
  dsimp only
  split
  · have h : ∀ (x : State) (r : Record), x.log = s.log → GoesOn s.log (x.offer r).log := fun x r hx =>
      (congrArg (GoesOn s.log) (log_setLog _ _)).mpr (hx ▸ goesOn_offer r (W.of x.log))
    exact h _ _ rfl
  · exact .refl _

theorem goesOn_recordAll (l : List Code) (s : State) : GoesOn s.log (s.recordAll l).log :=
  foldl_keeps (fun x : State => GoesOn s.log x.log) _ (fun x c hx => hx.trans (goesOn_record c x)) _ _ (.refl _)

theorem goesOn_codes {u : Rec} {x : State} (h : x.log = u) (l : List Code) : GoesOn u (x.recordAll l).log := h ▸ goesOn_recordAll l x

theorem goesOn_beginSave (s : State) : GoesOn s.log s.beginSave.log := by
  unfold State.beginSave
  dsimp only
  rw [log_setLog]
  exact (goesOn_saving s.log _).trans (goesOn_feed 87 (W.of _))

theorem goesOn_snapshot (srcs code : Nat) (s : State) : GoesOn s.log (s.snapshot srcs code).log := by
  have hlog : ∀ (x : State) (u : Snap) (h : RMap) (l : List (Nat × Nat)) (c : List Code),
      GoesOn x.log ((({ x with snap := u, hdr := h } : State).flags l).recordAll c).log := fun x u h l c =>
    goesOn_codes (x := ({ x with snap := u, hdr := h } : State).flags l) rfl c
  unfold State.snapshot
  extract_lets t w missed s1 s2 s3 s4
  have h4 : GoesOn s.log s4.log := hlog s _ _ _ _
  split
  · exact hlog s _ s.hdr _ _
  · split
    · exact h4.trans (goesOn_beginSave _)
    · exact h4

theorem goesOn_snapTriggers (srcs : List Nat) (codes : List Code) (s : State) : GoesOn s.log (s.snapTriggers srcs codes).log := by
  unfold State.snapTriggers
  extract_lets on f m
  split
  · exact .refl _
  · exact goesOn_snapshot _ _ _

/-- Any unit's work lets REC go on. -/
theorem goesOn_commit (fx : Fx) (st : List Store) (s : State) : GoesOn s.log (s.commit fx st).log := by
  have k : ∀ {B : Type} (f : State × Fx → B → State × Fx), (∀ x b, (f x b).1.log = x.1.log) →
      ∀ (l : List B) (x : State × Fx), x.1.log = s.log → (l.foldl f x).1.log = s.log :=
    fun f hf l x hx => foldl_keeps (fun x : State × Fx => x.1.log = s.log) f (fun a b ha => (hf a b).trans ha) l x hx
  have h0 := log_absorb (fun (u : State) _ => u) ⟨s, fx, st⟩ (s, Fx.none)
  have hcodes : ∀ (x : State × Fx) (l : List (Nat × Nat)) (c : List Code), x.1.log = s.log → GoesOn s.log ((x.1.flags l).recordAll c).log :=
    fun x l c hx => hx ▸ goesOn_recordAll c (x.1.flags l)
  unfold State.commit
  dsimp only
  refine (hcodes _ _ _ ?_).trans (goesOn_snapTriggers _ _ _)
  exact k _ log_takeTrigger _ _ (k _ log_takePacket _ _ (k _ log_takeSample _ _ h0))

theorem goesOn_work {u : Rec} {x : State} (h : x.log = u) (fx : Fx) (st : List Store) : GoesOn u (x.commit fx st).log :=
  h ▸ goesOn_commit fx st x

theorem goesOn_onNvs (f : Nvs → W Nvs) (s : State) : GoesOn s.log (s.onNvs f).log :=
  goesOn_work (x := { s with nvs := (f s.nvs).u }) rfl _ _

/-- REC's own work, and what goes on from there. -/
theorem goesOn_onLog (f : Rec → W Rec) (s : State) : GoesOn (f s.log).u (s.onLog f).log :=
  goesOn_work (log_setLog _ _) _ _

theorem goesOn_releaseIdle (s : State) : GoesOn s.log s.releaseIdle.log := by
  have hprg : ∀ (x : State) (f : Prg → W Prg), GoesOn x.log (x.onPrg f).log := fun x f =>
    goesOn_work (x := { x with prg := (f x.prg).u }) rfl _ _
  rw [releaseIdle_eq]
  exact foldl_keeps (fun x : State => GoesOn s.log x.log) _ (fun x _ hx => hx.trans (hprg x _)) _ _ (.refl _)

end Sys2Proof.Proofs
end

section
/-! SUPPORT. What the recorder's own work does (R400, R401, R403, R407, R408). -/

namespace Sys2Proof.Proofs

open Sys2Proof Sys2Proof.Machine

-- One proof after another: many at once wait for the kernel in threads of their own, which the check's memory limit does not hold.
set_option Elab.async false

/-! ## Stores of whole blocks -/

/-- Stores of whole blocks record no code. -/
theorem storeAll_whole {sts : List Store} (h : ∀ st ∈ sts, readsOfStore st = []) (s : State) :
    s.storeAll sts = ({ s with mem := s.mem.stores sts, nvs := sts.foldl (fun n st => n.countWrites st) s.nvs }, []) := by
  induction sts generalizing s with
  | nil => rfl
  | cons st l ih =>
    have hone : s.store1 st = ({ s with mem := s.mem.store st, nvs := s.nvs.countWrites st }, []) := by
      unfold State.store1
      rw [h st List.mem_cons_self]
      rfl
    unfold State.storeAll
    dsimp only
    rw [hone, ih (fun x hx => h x (List.mem_cons_of_mem _ hx))]
    rfl

/-- Work whose stores cover whole blocks is the work without them on memory that holds them. -/
theorem commit_wholes (fx : Fx) {sts : List Store} (h : ∀ st ∈ sts, readsOfStore st = []) (s : State) :
    s.commit fx sts =
      ({ s with mem := s.mem.stores sts, nvs := sts.foldl (fun n st => n.countWrites st) s.nvs } : State).commit fx [] := by
  have habsorb : State.absorb (fun (u : State) _ => u) ⟨s, fx, sts⟩ (s, Fx.none) =
      State.absorb (fun (u : State) _ => u)
        ⟨{ s with mem := s.mem.stores sts, nvs := sts.foldl (fun n st => n.countWrites st) s.nvs }, fx, []⟩
        ({ s with mem := s.mem.stores sts, nvs := sts.foldl (fun n st => n.countWrites st) s.nvs }, Fx.none) := by
    unfold State.absorb
    dsimp only
    rw [storeAll_whole h]
    rfl
  unfold State.commit
  rw [habsorb]

/-! ## The stores of a record (R401, R403) -/

/-- The three block writes of a record at an address. -/
def recordStores (a : Nat) (ws : List Word) : List Store :=
  [⟨Pg.REC, a + 32, ((wordsBytes ws).drop 32).take 30 ++ [0, 0], false⟩, ⟨Pg.REC, a, (wordsBytes ws).take 32, false⟩,
    ⟨Pg.REC, a + 32, (wordsBytes ws).drop 32, false⟩]

theorem storeRecord_eq (a : Nat) (ws : List Word) (w : W Rec) : storeRecord a ws w = { w with st := w.st ++ recordStores a ws } := by
  unfold storeRecord W.store recordStores
  simp only [List.append_assoc, List.cons_append, List.nil_append]

theorem length_recordWords (seq pcyc : Nat) (shelf : Bool) (r : Record) : (wordsBytes (Rec.words seq pcyc shelf r)).length = 64 := by
  rw [length_wordsBytes]
  unfold Rec.words
  simp

section
variable {a : Nat} {ws : List Word} (hl : (wordsBytes ws).length = 64)
include hl

theorem recordStores_whole (ha : a % 32 = 0) : ∀ st ∈ recordStores a ws, readsOfStore st = [] := by
  intro st hst
  unfold recordStores at hst
  simp only [List.mem_cons, List.not_mem_nil, or_false] at hst
  obtain rfl | rfl | rfl := hst
  · exact readsOfStore_whole (by dsimp only; omega) (by simp [hl])
  · exact readsOfStore_whole ha (by simp [hl])
  · exact readsOfStore_whole (by dsimp only; omega) (by simp [hl])

theorem byte_recordStores {k : Nat} (hk : k < 64) (m : Mem) : (m.stores (recordStores a ws)).byte (a + k) = (wordsBytes ws).getD k 0 := by
  let first := (m.store ⟨Pg.REC, a + 32, ((wordsBytes ws).drop 32).take 30 ++ [0, 0], false⟩).store ⟨Pg.REC, a, (wordsBytes ws).take 32, false⟩
  change (first.store ⟨Pg.REC, a + 32, (wordsBytes ws).drop 32, false⟩).byte (a + k) = _
  by_cases h : k < 32
  · rw [byte_store_outside _ _ _ (.inl (by dsimp only; omega))]
    refine byte_store_at (st := ⟨Pg.REC, a, (wordsBytes ws).take 32, false⟩) ?_
    rw [List.getElem?_take_of_lt h, List.getElem?_eq_getElem (by omega), List.getD_eq_getElem _ _ (by omega)]
  · have h2 : a + k = (a + 32) + (k - 32) := by omega
    rw [h2]
    refine byte_store_at (st := ⟨Pg.REC, a + 32, (wordsBytes ws).drop 32, false⟩) ?_
    rw [List.getElem?_drop, show 32 + (k - 32) = k by omega, List.getElem?_eq_getElem (by omega), List.getD_eq_getElem _ _ (by omega)]

theorem byte_recordStores_outside {x : Nat} (hx : x < a ∨ a + 64 ≤ x) (m : Mem) : (m.stores (recordStores a ws)).byte x = m.byte x := by
  refine byte_stores_outside _ _ _ fun st hst => ?_
  unfold recordStores at hst
  simp only [List.mem_cons, List.not_mem_nil, or_false] at hst
  obtain rfl | rfl | rfl := hst
  · simp only [List.length_append, List.length_take, List.length_drop, hl, List.length_cons, List.length_nil]
    omega
  · simp only [List.length_take, hl]
    omega
  · simp only [List.length_drop, hl]
    omega

end

/-! ## After a write (R403, R413) -/

/-- Offers and saves ask for flags only. -/
theorem asks_offer (r : Record) (w : W Rec) : (Rec.offer r w).st = w.st ∧ (Rec.offer r w).fx = { w.fx with evts := (Rec.offer r w).fx.evts } := by
  unfold Rec.offer
  split
  · exact ⟨rfl, rfl⟩
  split
  · exact ⟨rfl, rfl⟩
  · exact ⟨rfl, rfl⟩

theorem asks_feed (n : Nat) (w : W Rec) : (Rec.feed n w).st = w.st ∧ (Rec.feed n w).fx = { w.fx with evts := (Rec.feed n w).fx.evts } := by
  induction n generalizing w with
  | zero => exact ⟨rfl, rfl⟩
  | succ n ih =>
    unfold Rec.feed
    split
    · exact ⟨rfl, rfl⟩
    · split
      · obtain ⟨hst, hfx⟩ := asks_offer ‹Record› (w.map fun u => { u with saving := ‹List Record› })
        obtain ⟨ist, ifx⟩ := ih (Rec.offer ‹Record› (w.map fun u => { u with saving := ‹List Record› }))
        exact ⟨ist.trans hst, ifx.trans (by rw [hfx]; rfl)⟩
      · exact ⟨rfl, rfl⟩

/-- Whether code 0x171 is told after a write. -/
def tellsLoss (u : Rec) : Bool := decide (u.lostSince ≠ 0) && decide (u.queue.length + 64 ≤ queueMax) && !u.flag 3

/-- REC before the saves that wait move into the queue after a write. -/
def lossTold (w : W Rec) : W Rec :=
  w.when (tellsLoss w.u) (fun w' => (w'.map (fun u => ({ u with lostSince := 0 } : Rec).setFlag 5 false)).codeRec Pg.REC 0x1171 [wd w.u.lostSince])

theorem afterWrite_eq (w : W Rec) : Rec.afterWrite w = Rec.feed 87 (lossTold w) := rfl

theorem goesOn_told (w : W Rec) : GoesOn w.u (lossTold w).u := by
  unfold lossTold W.when
  split
  · have h : GoesOn w.u { w.u with lostSince := 0 } :=
      ⟨⟨fun _ _ _ _ => rfl, fun _ _ _ _ => rfl⟩, rfl, ⟨[], (List.append_nil _).symm⟩, fun _ => .inl rfl⟩
    exact h.trans (goesOn_five _ false)
  · exact .refl _

theorem told_quiet {w : W Rec} (h : tellsLoss w.u = false) : lossTold w = w := by
  unfold lossTold W.when
  rw [h]
  rfl

/-- What follows a write asks for the code 0x171 at most, and stores nothing. -/
theorem asks_afterWrite (w : W Rec) : (Rec.afterWrite w).st = w.st ∧
    (Rec.afterWrite w).fx = { w.fx with evts := (Rec.afterWrite w).fx.evts, codes := (lossTold w).fx.codes } := by
  obtain ⟨hst, hfx⟩ := asks_feed 87 (lossTold w)
  have h : (lossTold w).st = w.st ∧ (lossTold w).fx = { w.fx with codes := (lossTold w).fx.codes } := by
    unfold lossTold W.when
    split
    · exact ⟨rfl, rfl⟩
    · exact ⟨rfl, rfl⟩
  rw [afterWrite_eq]
  refine ⟨hst.trans h.1, hfx.trans ?_⟩
  rw [h.2]

theorem goesOn_afterWrite (w : W Rec) : GoesOn w.u (Rec.afterWrite w).u := (goesOn_told w).trans (goesOn_feed 87 _)

/-- Nothing follows a write when no loss is to be told and no save waits. -/
theorem afterWrite_rests {w : W Rec} (h0 : w.u.lostSince = 0) (hs : w.u.saving = []) : Rec.afterWrite w = w := by
  have ht : tellsLoss w.u = false := by
    unfold tellsLoss
    rw [h0]
    rfl
  rw [afterWrite_eq, told_quiet ht]
  unfold Rec.feed
  rw [hs]

end Sys2Proof.Proofs
end

section
/-! SUPPORT. A record written to the ring, and what follows a failed write (R400, R403, R407). -/

namespace Sys2Proof.Proofs

open Sys2Proof Sys2Proof.Machine

-- One proof after another: many at once wait for the kernel in threads of their own, which the check's memory limit does not hold.
set_option Elab.async false

/-- A flag of REC_STAT after the register changed. -/
theorem flag_rmod (u : Rec) (f : Word → Word) (i : Nat) :
    Rec.flag { u with regs := rmod u.regs Reg.REC_STAT f } i = bit (f (rget u.regs Reg.REC_STAT)) i := by
  unfold Rec.flag rbit
  rw [rget_rmod, if_pos rfl]

theorem flag_setFlag (u : Rec) (i : Nat) (b : Bool) {j : Nat} (hj : j < 32) : (u.setFlag i b).flag j = if j = i then b else u.flag j :=
  rbit_putBit u.regs Reg.REC_STAT i b hj

/-! ## The ring (R403) -/

/-- REC once the record of the queue's head stands in its ring slot. -/
def ringWritten (rest : List Record) (u : Rec) : Rec :=
  let old := (rget u.regs Reg.REC_SEQ_OLD).toNat
  let new := if u.ringCount = 0 then u.nextSeq
    else if ringSlots ≤ (u.nextSeq + 4294967296 - old) % 4294967296 then (u.nextSeq + 4294967297 - ringSlots) % 4294967296 else old
  { u with
    queue := rest, nextSeq := (u.nextSeq + 1) % 4294967296, ringCount := u.ringCount + 1, failRun := 0
    regs := rset u.regs Reg.REC_SEQ_OLD (wd new) }

/-- The ring slot of the next record. -/
def ringSlotAt (u : Rec) : Nat := ringBase + 64 * (u.nextSeq % ringSlots)

theorem ringSlotAt_whole (u : Rec) : ringSlotAt u % 32 = 0 := by
  unfold ringSlotAt ringBase
  omega

section
variable {u : Rec} {r : Record} {rest : List Record} {shelf : Bool}
variable (hs : u.searched = true) (hq : u.queue = r :: rest) (hf : u.flag 1 = false) (hr : r.flags.testBit 1 = false)
include hs hq hf hr

theorem write_ring : Rec.write true shelf u =
    (Rec.afterWrite (storeRecord (ringSlotAt u) (Rec.words u.nextSeq u.pcyc false r) (W.of (ringWritten rest u)))).map Rec.settle := by
  have hto : ∀ v : Rec, v.regs = u.regs → (v.flag 1 || r.flags.testBit 1) = false := fun v hv => by
    rw [hr, Bool.or_false]
    exact (congrArg (rbit · Reg.REC_STAT 1) hv).trans hf
  have hring : ∀ v : Rec, v.regs = u.regs → ¬ (v.flag 1 || r.flags.testBit 1) = true := fun v hv => by rw [hto v hv]; decide
  have hroom : ∀ (v : Rec) (b : Bool), v.regs = u.regs → ¬ ((v.flag 1 || r.flags.testBit 1) && b) = true := fun v b hv => by
    rw [hto v hv, Bool.false_and]
    decide
  unfold Rec.write
  split
  case h_1 h => exact absurd (h.symm.trans hq) (by simp)
  case h_2 r' rest' h =>
    obtain ⟨rfl, rfl⟩ := List.cons_eq_cons.mp (h.symm.trans hq)
    rw [if_neg (by rw [hs]; decide)]
    dsimp only
    exact (if_neg (by exact hroom _ _ rfl)).trans ((if_neg (by exact hring _ rfl)).trans (if_pos rfl))

/-- REC once the ring slot of the queue's head has failed. -/
def ringFailed (rest : List Record) (u : Rec) : Rec :=
  let v : Rec := { u with
    queue := rest, nextSeq := (u.nextSeq + 1) % 4294967296, failRun := u.failRun + 1
    regs := rset (rmod u.regs Reg.REC_FAILS incW) Reg.REC_FAIL_SLOT (wd (u.nextSeq % ringSlots)) }
  if 3 ≤ u.failRun + 1 then v.setFlag 1 true else v

/-- The record offered to the shelf, when it is not full. -/
def shelved (shelf : Bool) (r : Record) (seq : Nat) (u : Rec) : W Rec :=
  let w := (W.of u).evt Pg.REC 2
  if shelfMax ≤ u.shelfUsed then Rec.lose false (w.map (fun u => u.setFlag 2 true)) else Rec.toShelf shelf r seq w

theorem write_failed : Rec.write false shelf u =
    (Rec.afterWrite ((shelved shelf r u.nextSeq (ringFailed rest u)).codeRec Pg.REC 0x3170 [wd (u.nextSeq % ringSlots)])).map Rec.settle := by
  have hto : ∀ v : Rec, v.regs = u.regs → (v.flag 1 || r.flags.testBit 1) = false := fun v hv => by
    rw [hr, Bool.or_false]
    exact (congrArg (rbit · Reg.REC_STAT 1) hv).trans hf
  have hring : ∀ v : Rec, v.regs = u.regs → ¬ (v.flag 1 || r.flags.testBit 1) = true := fun v hv => by rw [hto v hv]; decide
  have hroom : ∀ (v : Rec) (b : Bool), v.regs = u.regs → ¬ ((v.flag 1 || r.flags.testBit 1) && b) = true := fun v b hv => by
    rw [hto v hv, Bool.false_and]
    decide
  unfold Rec.write
  split
  case h_1 h => exact absurd (h.symm.trans hq) (by simp)
  case h_2 r' rest' h =>
    obtain ⟨rfl, rfl⟩ := List.cons_eq_cons.mp (h.symm.trans hq)
    rw [if_neg (by rw [hs]; decide)]
    dsimp only
    exact (if_neg (by exact hroom _ _ rfl)).trans ((if_neg (by exact hring _ rfl)).trans (if_neg (by decide)))

end

/-! ## The shelf (R407) -/

/-- What the shelf's write leaves of REC. -/
structure ShelfLeaves (u v : Rec) : Prop where
  store : Rec.store v = Rec.store u
  lost : v.lostSince = u.lostSince
  reg : ∀ k, k ≠ Reg.REC_STAT → k ≠ Reg.REC_LOST → rget v.regs k = rget u.regs k
  degraded : v.flag 1 = u.flag 1
  queue : v.queue = u.queue ∨ v.flag 3 = true

theorem shelfLeaves_lose {u : Rec} {w : W Rec} (h : ShelfLeaves u w.u) : ShelfLeaves u (Rec.lose false w).u := by
  obtain ⟨hst, hlost, hreg, hdeg, hqueue⟩ := h
  have hflag : ∀ i, (Rec.lose false w).u.flag i = w.u.flag i := fun i => rbit_rmod_ne w.u.regs incW i (by decide)
  refine ⟨hst, hlost, fun k h1 h2 => (rget_rmod_ne w.u.regs incW h2).trans (hreg k h1 h2), (hflag 1).trans hdeg, ?_⟩
  exact hqueue.imp id (hflag 3).trans

theorem shelfLeaves_stat (u : Rec) (f : Word → Word) (hf : ∀ x, bit (f x) 1 = bit x 1) :
    ShelfLeaves u { u with regs := rmod u.regs Reg.REC_STAT f } :=
  ⟨rfl, rfl, fun _ h1 _ => rget_rmod_ne u.regs f h1, (flag_rmod u f 1).trans (hf _), .inl rfl⟩

theorem bit_shelfStat (x : Word) (n : Nat) (b : Bool) {i : Nat} (hi : i < 17) (h0 : i ≠ 0) (h2 : i ≠ 2) :
    bit (putBit (putBit (putBits x 23 17 n) 0 true) 2 b) i = bit x i := by
  rw [bit_putBit _ _ _ (by omega), if_neg h2, bit_putBit _ _ _ (by omega), if_neg h0]
  refine (getLsbD_putBits x 23 17 n (by decide) (by omega)).trans ?_
  rw [if_neg (by omega)]
  rfl

/-- The shelf's read-back differs: what waits is lost, and the shelf is given up. -/
theorem toShelf_false (r : Record) (seq : Nat) (w : W Rec) :
    ShelfLeaves w.u (Rec.toShelf false r seq w).u ∧ (Rec.toShelf false r seq w).st = w.st := by
  have h0 : ShelfLeaves w.u (({ w.u with queue := [], saving := [] } : Rec).setFlag 3 true) := by
    refine ⟨rfl, rfl, fun k h1 _ => (rget_rmod_ne w.u.regs (fun x => putBit x 3 true) h1 :), ?_, .inr ?_⟩
    · exact flag_setFlag _ 3 true (by decide)
    · exact flag_setFlag _ 3 true (by decide)
  exact ⟨foldl_keeps (fun v : W Rec => ShelfLeaves w.u v.u) _ (fun v _ hv => shelfLeaves_lose hv) _ _ h0,
    st_foldl (fun v _ => Rec.lose false v) (fun _ _ => rfl) _ _⟩

/-- REC after a good write of the shelf. -/
def shelfWritten (u : Rec) : Rec :=
  { u with regs := rmod u.regs Reg.REC_STAT (fun x =>
    putBit (putBit (putBits x 23 17 (u.shelfUsed + 1)) 0 true) 2 (decide (shelfMax ≤ u.shelfUsed + 1))) }

theorem toShelf_true (r : Record) (seq : Nat) (w : W Rec) : ∃ e, Rec.toShelf true r seq w =
    { u := shelfWritten w.u, fx := { w.fx with evts := e }
      st := w.st ++ recordStores (shelfBase + 64 * w.u.shelfUsed) (Rec.words seq w.u.pcyc true r) } := by
  unfold Rec.toShelf
  rw [if_pos rfl]
  dsimp only
  rw [storeRecord_eq]
  unfold W.when W.map W.evt shelfWritten
  split
  · exact ⟨_, rfl⟩
  · exact ⟨_, rfl⟩

theorem shelfUsed_shelfWritten {u : Rec} (h : u.shelfUsed < shelfMax) : (shelfWritten u).shelfUsed = u.shelfUsed + 1 := by
  have hstat : rget (shelfWritten u).regs Reg.REC_STAT = putBit (putBit (putBits (rget u.regs Reg.REC_STAT) 23 17 (u.shelfUsed + 1)) 0 true) 2
      (decide (shelfMax ≤ u.shelfUsed + 1)) := by
    unfold shelfWritten
    rw [rget_rmod, if_pos rfl]
  unfold Rec.shelfUsed rfld
  rw [hstat]
  refine (bits_congr (w := putBits (rget u.regs Reg.REC_STAT) 23 17 (u.shelfUsed + 1)) fun i h1 h2 => ?_).trans
    ((bits_putBits_same _ _ (by decide) (by decide)).trans (Nat.mod_eq_of_lt (show u.shelfUsed + 1 < 128 by unfold shelfMax at h; omega)))
  exact (bit_putBit _ 2 _ (by omega)).trans ((if_neg (by omega)).trans ((bit_putBit _ 0 _ (by omega)).trans (if_neg (by omega))))

theorem flag_shelfWritten (u : Rec) : (shelfWritten u).flag 0 = true := by
  refine (flag_rmod u _ 0).trans ?_
  rw [bit_putBit _ _ _ (by decide), if_neg (by decide), bit_putBit _ _ _ (by decide), if_pos rfl]

/-- The shelf's own code is REC's. -/
theorem asks_toShelf_false (r : Record) (seq : Nat) (w : W Rec) : ∃ e, (Rec.toShelf false r seq w).fx =
    { w.fx with evts := e, codes := w.fx.codes ++ [(⟨Pg.REC, 0x4172, [], false⟩ : Code)] } := by
  have h : ∀ (l : List Nat) (v : W Rec), ∃ e, (l.foldl (fun v _ => Rec.lose false v) v).fx = { v.fx with evts := e } := fun l v =>
    foldl_keeps (fun x : W Rec => ∃ e, x.fx = { v.fx with evts := e }) (fun x _ => Rec.lose false x)
      (by
        intro x _ hx
        obtain ⟨e, he⟩ := hx
        exact ⟨e ++ [(Pg.REC, 1)], congrArg (fun fx : Fx => { fx with evts := fx.evts ++ [(Pg.REC, 1)] }) he⟩)
      l v ⟨v.fx.evts, rfl⟩
  obtain ⟨e, he⟩ := h (upto w.u.queue.length) (w.map (fun u => ({ u with queue := [], saving := [] } : Rec).setFlag 3 true))
  unfold Rec.toShelf
  rw [if_neg (by decide)]
  exact ⟨e, congrArg (fun fx : Fx => { fx with codes := fx.codes ++ [(⟨Pg.REC, 0x4172, [], false⟩ : Code)] }) he⟩

/-- What follows a failed ring slot asks for. -/
structure ShelfAsks (w : W Rec) : Prop where
  bare : w.fx = { Fx.none with evts := w.fx.evts, codes := w.fx.codes }
  page : ∀ c ∈ w.fx.codes, c.page = Pg.REC
  whole : ∀ st ∈ w.st, readsOfStore st = []

/-- What follows a failed ring slot, whatever the shelf makes of it. -/
theorem shelved_leaves (shelf : Bool) (r : Record) (seq : Nat) (u : Rec) :
    ShelfLeaves u (shelved shelf r seq u).u ∧ ShelfAsks (shelved shelf r seq u) := by
  unfold shelved
  dsimp only
  split
  case isTrue =>
    have h : ShelfLeaves u (u.setFlag 2 true) := shelfLeaves_stat u _ fun x => (bit_putBit x 2 true (by decide)).trans (if_neg (by decide))
    exact ⟨shelfLeaves_lose (w := ((W.of u).evt Pg.REC 2).map (fun u => u.setFlag 2 true)) h, rfl, fun _ h => absurd h List.not_mem_nil,
      fun _ h => absurd h List.not_mem_nil⟩
  case isFalse =>
    cases shelf
    case false =>
      obtain ⟨hl, hst⟩ := toShelf_false r seq ((W.of u).evt Pg.REC 2)
      obtain ⟨e, he⟩ := asks_toShelf_false r seq ((W.of u).evt Pg.REC 2)
      refine ⟨hl, by rw [he]; rfl, fun c hc => ?_, fun st h => ?_⟩
      · rw [he] at hc
        obtain rfl := List.mem_singleton.mp hc
        rfl
      · rw [hst] at h
        exact absurd h List.not_mem_nil
    case true =>
      obtain ⟨e, he⟩ := toShelf_true r seq ((W.of u).evt Pg.REC 2)
      rw [he]
      refine ⟨shelfLeaves_stat u _ fun x => bit_shelfStat x _ _ (by decide) (by decide) (by decide), rfl,
        fun c h => absurd h List.not_mem_nil, fun st h => ?_⟩
      refine recordStores_whole (length_recordWords _ _ _ _) ?_ st h
      unfold shelfBase
      omega

end Sys2Proof.Proofs
end

section
/-! The recorder's commands, settled (R400, R401, R403, R404, R407, R408). -/

namespace Sys2Proof.Proofs

open Sys2Proof Sys2Proof.Machine

-- One proof after another: many at once wait for the kernel in threads of their own, which the check's memory limit does not hold.
set_option Elab.async false

/-! ## REC's and NVS's work in the state -/

section
variable {s : State}

theorem bytes_onLog (f : Rec → W Rec) (x : Nat) : (s.onLog f).mem.byte x = (s.mem.stores (f s.log).st).byte x := by
  have hmem : (s.setLog (f s.log).u).mem = s.mem := congrArg (·.1) (inner_setLog _ _)
  exact (bytes_commit _ _ _ x).trans (by rw [hmem])

theorem bytes_onNvs {f : Nvs → W Nvs} (h : (f s.nvs).st = []) (x : Nat) : (s.onNvs f).mem.byte x = s.mem.byte x := by
  have hb : (s.onNvs f).mem.byte x = (s.mem.stores (f s.nvs).st).byte x := bytes_commit _ _ { s with nvs := (f s.nvs).u } x
  rw [hb, h]
  rfl

/-- The last code of REC's work shows in its page. -/
theorem errCode_onLog {f : Rec → W Rec} {l : List Code} {c : Code} (hc : (f s.log).fx.codes = l ++ [c]) (hp : c.page = Pg.REC)
    (hq : (f s.log).Quiet) : (s.onLog f).errCode Pg.REC = c.code % 0x10000 := by
  have h := errCode_commit_last (f s.log).st (s.setLog (f s.log).u) hc (by rw [hp]; decide) hq.1 hq.2.1 hq.2.2
  rw [hp] at h
  exact h

theorem hdr_setLog (l : Rec) (s : State) : (s.setLog l).hdr = s.hdr := by
  unfold State.setLog
  simp only [apply_ite State.hdr, ite_self]

/-- REC's work that stores whole blocks leaves the codes of the other pages. -/
theorem errCode_onLog_other {f : Rec → W Rec} {q : Nat} (hq : q ≠ Pg.SNAP) (hr : q ≠ Pg.REC)
    (hst : ∀ st ∈ (f s.log).st, readsOfStore st = []) (hc : ∀ c ∈ (f s.log).fx.codes, c.page = Pg.REC)
    (hread : (f s.log).fx.reads = []) (hquiet : (f s.log).Quiet) : (s.onLog f).errCode q = s.errCode q := by
  have hnone : (sortCodes (f s.log).fx.codes).filter (fun c => c.page == q) = [] := List.filter_eq_nil_iff.mpr fun c hmem => by
    rw [hc c ((mem_sortCodes _ _).mp hmem), beq_iff_eq]
    exact fun h => hr h.symm
  have heq : s.onLog f = _ := commit_wholes (f s.log).fx hst (s.setLog (f s.log).u)
  have hz : ∀ (x : State) (m : Mem) (n : Nvs), ({ x with mem := m, nvs := n } : State).errCode q = x.errCode q := fun _ _ _ => rfl
  have hset : (s.setLog (f s.log).u).errCode q = s.errCode q :=
    congrArg (fun h => bits (rget h (cellKey q 0x18 0)) 15 0) (hdr_setLog (f s.log).u s)
  rw [heq, errCode_commit_other _ _ _ hq hread hquiet.1 hquiet.2.1 hquiet.2.2 hnone, hz, hset]

end

/-! ## The record of the queue's head (R403, R407) -/

section
variable {s : State} {r : Record} {rest : List Record}
variable (hs : s.log.searched = true) (hq : s.log.queue = r :: rest) (hf : s.log.flag 1 = false) (hr : r.flags.testBit 1 = false)
include hs hq hf hr

/-- A good read-back of the ring: REC's work alone. -/
theorem writeRecord_ring (shelf : Bool) (hn : rbit s.nvs.regs Reg.NVS_STAT 1 = false) :
    s.writeRecord true shelf = s.onLog (Rec.write true shelf) := by
  unfold State.writeRecord
  rw [hq]
  dsimp only
  rw [hs, hf, hr, hn]
  rfl

/-- What the ring's write makes of REC and of memory. -/
theorem ring_written (shelf : Bool) :
    let t := s.onLog (Rec.write true shelf)
    GoesOn (ringWritten rest s.log) t.log ∧
      (∀ k, k < 64 → t.mem.byte (ringSlotAt s.log + k) = (wordsBytes (Rec.words s.log.nextSeq s.log.pcyc false r)).getD k 0) ∧
      s.SameBytesBut t (ringSlotAt s.log) 64 ∧ (s.log.saving = [] → s.log.lostSince = 0 → t.log.queue = rest) := by
  intro t
  have hw := write_ring (shelf := shelf) hs hq hf hr
  let w := storeRecord (ringSlotAt s.log) (Rec.words s.log.nextSeq s.log.pcyc false r) (W.of (ringWritten rest s.log))
  have hst : (Rec.write true shelf s.log).st = recordStores (ringSlotAt s.log) (Rec.words s.log.nextSeq s.log.pcyc false r) := by
    rw [hw, st_map, (asks_afterWrite _).1, storeRecord_eq]
    rfl
  have hu : (Rec.write true shelf s.log).u = (Rec.afterWrite w).u.settle := congrArg W.u hw
  have hb : ∀ x, t.mem.byte x = _ := fun x => (bytes_onLog (s := s) (Rec.write true shelf) x).trans (by rw [hst])
  have hlen := length_recordWords s.log.nextSeq s.log.pcyc false r
  refine ⟨?_, fun k hk => (hb _).trans (byte_recordStores hlen hk s.mem), fun x hx => (hb x).trans (byte_recordStores_outside hlen hx s.mem),
    fun hsv h0 => ?_⟩
  · have h1 : GoesOn (ringWritten rest s.log) (Rec.write true shelf s.log).u := by
      rw [hu]
      exact (goesOn_afterWrite w).trans (goesOn_settle _)
    exact h1.trans (goesOn_onLog _ _)
  · have hrest : Rec.afterWrite w = w := afterWrite_rests h0 hsv
    have hfx : (Rec.write true shelf s.log).fx = Fx.none := by
      rw [hw]
      exact congrArg W.fx hrest
    have heq : t = _ := commit_wholes (Rec.write true shelf s.log).fx (sts := (Rec.write true shelf s.log).st)
      (by rw [hst]; exact recordStores_whole hlen (ringSlotAt_whole _)) (s.setLog (Rec.write true shelf s.log).u)
    have hlog : t.log = (Rec.write true shelf s.log).u := by
      rw [heq, hfx, commit_none]
      exact log_setLog _ _
    rw [hlog, hu, hrest]
    rfl

/-- The last code after a failed ring slot, when the loss that began with it, if any, finds no room to be told. -/
theorem codes_failed (shelf : Bool) (h0 : s.log.lostSince = 0 ∨ queueMax ≤ s.log.queue.length) :
    (Rec.write false shelf s.log).fx.codes =
      (shelved shelf r s.log.nextSeq (ringFailed rest s.log)).fx.codes ++ [⟨Pg.REC, 0x3170, [wd (s.log.nextSeq % ringSlots)], true⟩] := by
  let w := (shelved shelf r s.log.nextSeq (ringFailed rest s.log)).codeRec Pg.REC 0x3170 [wd (s.log.nextSeq % ringSlots)]
  have hw : (Rec.write false shelf s.log).fx.codes = (Rec.afterWrite w).fx.codes := congrArg (·.fx.codes) (write_failed hs hq hf hr)
  have hv : (ringFailed rest s.log).lostSince = s.log.lostSince ∧ (ringFailed rest s.log).queue = rest := by
    unfold ringFailed
    dsimp only
    split
    · exact ⟨rfl, rfl⟩
    · exact ⟨rfl, rfl⟩
  have hl := (shelved_leaves shelf r s.log.nextSeq (ringFailed rest s.log)).1
  have ht : tellsLoss w.u = false := by
    unfold tellsLoss
    change (decide ((shelved shelf r s.log.nextSeq (ringFailed rest s.log)).u.lostSince ≠ 0) && _ && _) = false
    obtain h | h := h0
    · rw [hl.lost, hv.1, h]
      rfl
    · obtain hqu | h3 := hl.queue
      · have hlen : ¬ w.u.queue.length + 64 ≤ queueMax := by
          rw [hq, List.length_cons] at h
          have : w.u.queue.length = rest.length := congrArg List.length (hqu.trans hv.2)
          unfold queueMax at h ⊢
          omega
        rw [decide_eq_false hlen]
        simp
      · have h3' : w.u.flag 3 = true := h3
        rw [h3']
        simp
  rw [hw, (asks_afterWrite w).2]
  dsimp only
  rw [lossTold, ht]
  rfl

end

/-- What a failed ring slot makes of REC's counters. -/
theorem ringFailed_counts (rest : List Record) (u : Rec) :
    let v := ringFailed rest u
    v.nextSeq = (u.nextSeq + 1) % 4294967296 ∧ v.failRun = u.failRun + 1 ∧
      rget v.regs Reg.REC_FAILS = incW (rget u.regs Reg.REC_FAILS) ∧ rget v.regs Reg.REC_FAIL_SLOT = wd (u.nextSeq % ringSlots) ∧
      (2 ≤ u.failRun → v.flag 1 = true) ∧ v.shelfUsed = u.shelfUsed ∧ v.pcyc = u.pcyc := by
  intro v
  let m := rset (rmod u.regs Reg.REC_FAILS incW) Reg.REC_FAIL_SLOT (wd (u.nextSeq % ringSlots))
  have h1 : rget m Reg.REC_FAILS = incW (rget u.regs Reg.REC_FAILS) := by
    rw [rget_rset, if_neg (by decide), rget_rmod, if_pos rfl]
  have h2 : rget m Reg.REC_FAIL_SLOT = wd (u.nextSeq % ringSlots) := by
    rw [rget_rset, if_pos rfl]
  have h3 : rget m Reg.REC_STAT = rget u.regs Reg.REC_STAT := by
    rw [rget_rset, if_neg (by decide), rget_rmod_ne _ _ (by decide)]
  by_cases h : 3 ≤ u.failRun + 1
  case pos =>
    have hv : v = _ := if_pos h
    have hset : ∀ k, k ≠ Reg.REC_STAT → rget v.regs k = rget m k := fun k hk => by
      rw [hv]
      exact rget_rmod_ne m (fun x => putBit x 1 true) hk
    have hstat : rget v.regs Reg.REC_STAT = putBit (rget u.regs Reg.REC_STAT) 1 true := by
      rw [hv]
      exact (rget_rmod m _ (fun x => putBit x 1 true) _).trans ((if_pos rfl).trans (congrArg (putBit · 1 true) h3))
    refine ⟨by rw [hv]; rfl, by rw [hv]; rfl, (hset _ (by decide)).trans h1, (hset _ (by decide)).trans h2, fun _ => ?_, ?_, by rw [hv]; rfl⟩
    · unfold Rec.flag rbit
      rw [hstat]
      exact (bit_putBit _ _ _ (by decide)).trans (if_pos rfl)
    · unfold Rec.shelfUsed rfld
      rw [hstat]
      exact bits_congr fun i h1 h2 => (bit_putBit _ 1 true (by omega)).trans (if_neg (by omega))
  case neg =>
    have hv : v = _ := if_neg h
    refine ⟨by rw [hv], by rw [hv], by rw [hv]; exact h1, by rw [hv]; exact h2, fun h' => absurd h' (by omega), ?_, by rw [hv]⟩
    unfold Rec.shelfUsed rfld
    rw [hv]
    exact congrArg (bits · 23 17) h3

end Sys2Proof.Proofs
end

section
/-! The recorder's commands, settled (R400, R401, R403, R404, R407, R408, R426). -/

namespace Sys2Proof.Proofs

open Sys2Proof Sys2Proof.Machine

-- One proof after another: many at once wait for the kernel in threads of their own, which the check's memory limit does not hold.
set_option Elab.async false

/-! ## A failed ring slot (R403, R407, R426) -/

/-- A failed write of a region leaves its code in NVS's page. -/
theorem failed_nvs (r off : Nat) (s : State) : (s.onNvs (Nvs.fail r off)).errCode Pg.NVS = 0x1160 ∧ (Nvs.fail r off s.nvs).st = [] :=
  ⟨errCode_commit_last (l := []) (c := ⟨Pg.NVS, 0x1160, [wd r, wd off], false⟩) [] _ rfl (by decide : Pg.NVS ≠ Pg.SNAP) rfl rfl rfl, rfl⟩

/-- Work that ends with a code of NVS's page and stores nothing. -/
def FailsInNvs (w : W Nvs) : Prop :=
  w.st = [] ∧ w.Quiet ∧ ∃ l c, w.fx.codes = l ++ [c] ∧ c.page = Pg.NVS ∧ c.code % 0x10000 ≠ 0

theorem failsInNvs_ringFail (now slot : Nat) (u : Nvs) : FailsInNvs (Nvs.ringFail now slot u) := by
  have hagain : ∀ (b : Bool) (w : W Nvs) (f : Nvs → Nvs), FailsInNvs w →
      FailsInNvs (if b = true then (w.map f).code Pg.NVS 0x3161 [] else w) := fun b w f hw => by
    obtain ⟨hst, hquiet, -⟩ := id hw
    split
    · exact ⟨hst, hquiet, _, ⟨Pg.NVS, 0x3161, [], false⟩, rfl, rfl, by simp⟩
    · exact hw
  exact hagain _ _ _ ⟨rfl, ⟨rfl, rfl, rfl⟩, [], ⟨Pg.NVS, 0x1160, [wd 11, wd (64 * slot)], false⟩, rfl, rfl, by simp⟩

/-- A failed ring slot leaves a code in NVS's page, and stores nothing. -/
theorem ringFail_nvs (now slot : Nat) (s : State) :
    (s.onNvs (Nvs.ringFail now slot)).errCode Pg.NVS ≠ 0 ∧ (Nvs.ringFail now slot s.nvs).st = [] := by
  obtain ⟨hst, hquiet, l, c, hc, hp, hne⟩ := failsInNvs_ringFail now slot s.nvs
  have h : ∀ (x : State) (st : List Store), (x.commit (Nvs.ringFail now slot s.nvs).fx st).errCode c.page = c.code % 0x10000 := fun x st =>
    errCode_commit_last st x hc (by rw [hp]; decide) hquiet.1 hquiet.2.1 hquiet.2.2
  rw [hp] at h
  exact ⟨fun h0 => hne ((h { s with nvs := (Nvs.ringFail now slot s.nvs).u } _).symm.trans h0), hst⟩

/-- What NVS makes of the failed read-backs of a record. -/
def recordFailed (shelf : Bool) (s : State) : State :=
  let t := s.onNvs (Nvs.ringFail s.now (s.log.nextSeq % ringSlots))
  if decide (s.log.shelfUsed < shelfMax) && !shelf then t.onNvs (Nvs.fail 12 (64 * s.log.shelfUsed)) else t

theorem recordFailed_leaves (shelf : Bool) (s : State) :
    GoesOn s.log (recordFailed shelf s).log ∧ s.SameBytes (recordFailed shelf s) ∧ (recordFailed shelf s).errCode Pg.NVS ≠ 0 ∧
      (recordFailed shelf s).shell = s.shell := by
  let t := s.onNvs (Nvs.ringFail s.now (s.log.nextSeq % ringSlots))
  obtain ⟨hcode, hst⟩ := ringFail_nvs s.now (s.log.nextSeq % ringSlots) s
  have hgo : GoesOn s.log t.log := goesOn_onNvs _ _
  have hb : s.SameBytes t := fun x => bytes_onNvs hst x
  have hsh : t.shell = s.shell := shell_onNvs _ _
  unfold recordFailed
  dsimp only
  split
  · obtain ⟨hcode2, hst2⟩ := failed_nvs 12 (64 * s.log.shelfUsed) t
    exact ⟨hgo.trans (goesOn_onNvs _ _), fun x => (bytes_onNvs hst2 x).trans (hb x), by rw [hcode2]; decide, (shell_onNvs _ _).trans hsh⟩
  · exact ⟨hgo, hb, hcode, hsh⟩

section
variable {s : State} {r : Record} {rest : List Record}
variable (hs : s.log.searched = true) (hq : s.log.queue = r :: rest) (hf : s.log.flag 1 = false) (hr : r.flags.testBit 1 = false)

include hs hq hf hr in
theorem writeRecord_failed (shelf : Bool) : s.writeRecord false shelf = (recordFailed shelf s).onLog (Rec.write false shelf) := by
  unfold State.writeRecord
  rw [hq]
  dsimp only
  rw [hs, hf, hr]
  rfl

/-- Work of REC on an unshelved record whose ring slot failed. -/
theorem failed_written (hs : s.log.searched = true) (hq : s.log.queue = r :: rest) (hf : s.log.flag 1 = false)
    (hr : r.flags.testBit 1 = false) (shelf : Bool) :
    let t := s.onLog (Rec.write false shelf)
    let w := shelved shelf r s.log.nextSeq (ringFailed rest s.log)
    GoesOn w.u t.log ∧ (∀ x, t.mem.byte x = (s.mem.stores w.st).byte x) ∧
      ((s.log.lostSince = 0 ∨ queueMax ≤ s.log.queue.length) → t.errCode Pg.REC = 0x3170) ∧ t.errCode Pg.NVS = s.errCode Pg.NVS := by
  intro t w
  have hw := write_failed (shelf := shelf) hs hq hf hr
  let w1 := w.codeRec Pg.REC 0x3170 [wd (s.log.nextSeq % ringSlots)]
  have hst : (Rec.write false shelf s.log).st = w.st := by
    rw [hw, st_map, (asks_afterWrite _).1]
    rfl
  have hfx : (Rec.write false shelf s.log).fx = (Rec.afterWrite w1).fx := by
    rw [hw]
    rfl
  obtain ⟨-, hbare, hpage, hwhole⟩ := shelved_leaves shelf r s.log.nextSeq (ringFailed rest s.log)
  have hquiet : (Rec.write false shelf s.log).Quiet ∧ (Rec.write false shelf s.log).fx.reads = [] := by
    unfold W.Quiet
    rw [hfx, (asks_afterWrite w1).2]
    change (w.fx.samples = [] ∧ w.fx.pushes = [] ∧ w.fx.triggers = []) ∧ w.fx.reads = []
    rw [hbare]
    exact ⟨⟨rfl, rfl, rfl⟩, rfl⟩
  have hgo : GoesOn w.u (Rec.write false shelf s.log).u := by
    rw [hw]
    exact (goesOn_afterWrite w1).trans (goesOn_settle _)
  refine ⟨hgo.trans (goesOn_onLog _ _), fun x => (bytes_onLog _ x).trans (by rw [hst]), fun h0 => ?_, ?_⟩
  · exact errCode_onLog (codes_failed hs hq hf hr shelf h0) rfl hquiet.1
  · refine errCode_onLog_other (by decide) (by decide) (by rw [hst]; exact hwhole) ?_ hquiet.2 hquiet.1
    rw [hfx, (asks_afterWrite w1).2]
    intro c hc
    have hc' : c ∈ (lossTold w1).fx.codes := hc
    unfold lossTold W.when at hc'
    have hw1 : ∀ d ∈ w1.fx.codes, d.page = Pg.REC := fun d hd => by
      obtain hd | hd := List.mem_append.mp hd
      · exact hpage d hd
      · obtain rfl := List.mem_singleton.mp hd
        rfl
    split at hc'
    · obtain hd | hd := List.mem_append.mp hc'
      · exact hw1 c hd
      · obtain rfl := List.mem_singleton.mp hd
        rfl
    · exact hw1 c hc'

end

end Sys2Proof.Proofs
end

section
/-! The recorder's commands, settled (R400, R401, R403, R404, R407, R408, R426). -/

namespace Sys2Proof.Proofs

open Sys2Proof Sys2Proof.Machine

-- One proof after another: many at once wait for the kernel in threads of their own, which the check's memory limit does not hold.
set_option Elab.async false

/-! ## RECORD_WRITE (R403, R407) -/

section
variable {u v : Rec} (h : Rec.store v = Rec.store u)
include h

theorem nextSeq_of_store : v.nextSeq = u.nextSeq := congrArg (·.nextSeq) h
theorem pcyc_of_store : v.pcyc = u.pcyc := congrArg (·.pcyc) h
theorem failRun_of_store : v.failRun = u.failRun := congrArg (·.failRun) h
theorem searched_of_store : v.searched = u.searched := congrArg (·.searched) h

end

section
variable {s : State} {r : Record} {rest : List Record}
variable (hs : s.log.searched = true) (hq : s.log.queue = r :: rest) (hf : s.log.flag 1 = false) (hr : r.flags.testBit 1 = false)
include hs hq hf hr

theorem recordWrite_ring (shelf : Bool) (hn : rbit s.nvs.regs Reg.NVS_STAT 1 = false) :
    let t := s.writeRecord true shelf
    t.log.nextSeq = (s.log.nextSeq + 1) % 4294967296 ∧
      (∀ k, k < 64 → t.mem.byte (ringSlotAt s.log + k) = (wordsBytes (Rec.words s.log.nextSeq s.log.pcyc false r)).getD k 0) ∧
      s.SameBytesBut t (ringSlotAt s.log) 64 ∧ t.log.failRun = 0 ∧
      rget t.log.regs Reg.REC_FAILS = rget s.log.regs Reg.REC_FAILS ∧
      (s.log.saving = [] → s.log.lostSince = 0 → t.log.queue = rest) ∧ t.shell = s.shell := by
  rw [writeRecord_ring hs hq hf hr shelf hn]
  intro t
  obtain ⟨hgo, hbytes, hrest, hqueue⟩ := ring_written hs hq hf hr shelf
  refine ⟨nextSeq_of_store hgo.store, hbytes, hrest, failRun_of_store hgo.store, ?_, hqueue, shell_onLog _ _⟩
  rw [hgo.reg _ (by decide) (by decide) (by decide)]
  exact (rget_rset _ _ _ _).trans (if_neg (by decide))

/-- What a failed ring slot leaves in REC and in memory, once NVS has noted it. -/
theorem failed_counted (shelf : Bool) :
    let t := s.onLog (Rec.write false shelf)
    t.log.nextSeq = (s.log.nextSeq + 1) % 4294967296 ∧
      rget t.log.regs Reg.REC_FAILS = incW (rget s.log.regs Reg.REC_FAILS) ∧
      rget t.log.regs Reg.REC_FAIL_SLOT = wd (s.log.nextSeq % ringSlots) ∧ t.log.failRun = s.log.failRun + 1 ∧
      (2 ≤ s.log.failRun → t.log.flag 1 = true) := by
  intro t
  obtain ⟨hgo, -⟩ := failed_written hs hq hf hr shelf
  obtain ⟨hl, -⟩ := shelved_leaves shelf r s.log.nextSeq (ringFailed rest s.log)
  obtain ⟨hnext, hfailRun, hreg, hslot, hdeg, -⟩ := ringFailed_counts rest s.log
  have hstore := hgo.store.trans hl.store
  have hregs : ∀ k, k ≠ Reg.REC_STAT → k ≠ Reg.REC_LOST → k ≠ Reg.REC_SEQ_NEXT →
      rget t.log.regs k = rget (ringFailed rest s.log).regs k := fun k h1 h2 h3 => (hgo.reg k h1 h2 h3).trans (hl.reg k h1 h2)
  exact ⟨(nextSeq_of_store hstore).trans hnext, (hregs _ (by decide) (by decide) (by decide)).trans hreg,
    (hregs _ (by decide) (by decide) (by decide)).trans hslot, (failRun_of_store hstore).trans hfailRun,
    fun h => (hgo.flag 1 (by decide) (by decide) (by decide)).trans (hl.degraded.trans (hdeg h))⟩

/-- The shelf takes the record while it has room and its read-back is good. -/
theorem failed_shelved (hroom : s.log.shelfUsed < shelfMax) :
    let t := s.onLog (Rec.write false true)
    (∀ k, k < 64 → t.mem.byte (shelfBase + 64 * s.log.shelfUsed + k) =
      (wordsBytes (Rec.words s.log.nextSeq s.log.pcyc true r)).getD k 0) ∧
      s.SameBytesBut t (shelfBase + 64 * s.log.shelfUsed) 64 ∧ t.log.shelfUsed = s.log.shelfUsed + 1 ∧ t.log.flag 0 = true := by
  intro t
  obtain ⟨hgo, hbytes, -⟩ := failed_written hs hq hf hr true
  obtain ⟨-, -, -, -, -, hused, hpcyc⟩ := ringFailed_counts rest s.log
  obtain ⟨e, he⟩ := toShelf_true r s.log.nextSeq ((W.of (ringFailed rest s.log)).evt Pg.REC 2)
  have hsh : shelved true r s.log.nextSeq (ringFailed rest s.log) = _ := (if_neg (by rw [hused]; exact Nat.not_le.mpr hroom)).trans he
  have hlen := length_recordWords s.log.nextSeq s.log.pcyc true r
  rw [hsh] at hgo hbytes
  have hbytes' : ∀ x, t.mem.byte x =
      (s.mem.stores (recordStores (shelfBase + 64 * s.log.shelfUsed) (Rec.words s.log.nextSeq s.log.pcyc true r))).byte x := fun x => by
    rw [← hused, ← hpcyc]
    exact hbytes x
  refine ⟨fun k hk => (hbytes' _).trans (byte_recordStores hlen hk s.mem),
    fun x hx => (hbytes' x).trans (byte_recordStores_outside hlen hx s.mem), ?_, ?_⟩
  · exact hgo.shelfUsed.trans ((shelfUsed_shelfWritten (u := ringFailed rest s.log) (hused ▸ hroom)).trans (congrArg (· + 1) hused))
  · exact (hgo.flag 0 (by decide) (by decide) (by decide)).trans (flag_shelfWritten _)

end

section
variable {s z : State} {r : Record} {rest : List Record}
variable (hs : s.log.searched = true) (hq : s.log.queue = r :: rest) (hf : s.log.flag 1 = false)

include hs hq hf in
/-- The record at the head of the queue is the same after NVS has noted the failed slot. -/
theorem head_goesOn (h : GoesOn s.log z.log) : z.log.searched = true ∧ (∃ more, z.log.queue = r :: more) ∧ z.log.flag 1 = false := by
  obtain ⟨more, hmore⟩ := h.queue
  exact ⟨(searched_of_store h.store).trans hs, ⟨rest ++ more, by rw [hmore, hq]; rfl⟩,
    (h.flag 1 (by decide) (by decide) (by decide)).trans hf⟩

theorem recordWrite_failed (hs : s.log.searched = true) (hq : s.log.queue = r :: rest) (hf : s.log.flag 1 = false)
    (hr : r.flags.testBit 1 = false) (shelf : Bool) :
    let t := s.writeRecord false shelf
    t.log.nextSeq = (s.log.nextSeq + 1) % 4294967296 ∧
      rget t.log.regs Reg.REC_FAILS = incW (rget s.log.regs Reg.REC_FAILS) ∧
      rget t.log.regs Reg.REC_FAIL_SLOT = wd (s.log.nextSeq % ringSlots) ∧ t.log.failRun = s.log.failRun + 1 ∧
      (2 ≤ s.log.failRun → t.log.flag 1 = true) ∧ (s.log.lostSince = 0 → t.errCode Pg.REC = 0x3170) ∧ t.errCode Pg.NVS ≠ 0 ∧
      (shelf = true → s.log.shelfUsed < shelfMax →
        (∀ k, k < 64 → t.mem.byte (shelfBase + 64 * s.log.shelfUsed + k) =
          (wordsBytes (Rec.words s.log.nextSeq s.log.pcyc true r)).getD k 0) ∧
        s.SameBytesBut t (shelfBase + 64 * s.log.shelfUsed) 64 ∧ t.log.shelfUsed = s.log.shelfUsed + 1 ∧ t.log.flag 0 = true) ∧
      t.shell = s.shell := by
  rw [writeRecord_failed hs hq hf hr shelf]
  intro t
  obtain ⟨hgo, hb, hcode, hshell⟩ := recordFailed_leaves shelf s
  obtain ⟨hs', ⟨more, hq'⟩, hf'⟩ := head_goesOn hs hq hf hgo
  obtain ⟨hnext, hfails, hslot, hrun, hdeg⟩ := failed_counted hs' hq' hf' hr shelf
  obtain ⟨-, -, hcodeR, hcodeN⟩ := failed_written hs' hq' hf' hr shelf
  have hseq := nextSeq_of_store hgo.store
  have hrun0 := failRun_of_store hgo.store
  rw [hseq] at hnext hslot
  rw [hgo.reg _ (by decide) (by decide) (by decide)] at hfails
  rw [hrun0] at hrun hdeg
  refine ⟨hnext, hfails, hslot, hrun, hdeg, fun h => hcodeR (hgo.full h), fun h => hcode (hcodeN.symm.trans h), ?_,
    (shell_onLog _ _).trans hshell⟩
  rintro rfl hroom
  have hused := hgo.shelfUsed
  have hall := failed_shelved hs' hq' hf' hr (hused ▸ hroom)
  rw [hused, hseq, pcyc_of_store hgo.store] at hall
  obtain ⟨hin, hout, hcount, hflag⟩ := hall
  exact ⟨hin, fun x hx => (hout x hx).trans (hb x), hcount, hflag⟩

end

/-! ## The writes that find nothing, and OPTIME (R403, R404) -/

theorem writeRecord_idle {s : State} (ring shelf : Bool) (h : s.log.searched = false ∨ s.log.queue = []) : s.writeRecord ring shelf = s := by
  unfold State.writeRecord
  split
  · rfl
  case h_2 hq =>
    obtain h | h := h
    · exact if_pos (by rw [h]; rfl)
    · exact absurd (h.symm.trans hq) (by simp)

theorem saveOptime_copies (u : Rec) :
    u.saveOptime.copyLast = !u.copyLast ∧
      (u.copyLast = true → u.saveOptime.copyA = (u.optime, u.pcyc) ∧ u.saveOptime.copyB = u.copyB) ∧
      (u.copyLast = false → u.saveOptime.copyB = (u.optime, u.pcyc) ∧ u.saveOptime.copyA = u.copyA) ∧
      u.saveOptime.queue = u.queue ∧ u.saveOptime.nextSeq = u.nextSeq := by
  unfold Rec.saveOptime
  dsimp only
  split
  case isTrue h => exact ⟨by rw [h]; rfl, fun _ => ⟨rfl, rfl⟩, fun h' => absurd (h.symm.trans h') (by decide), rfl, rfl⟩
  case isFalse h =>
    have h' : u.copyLast = false := by simpa using h
    exact ⟨by rw [h']; rfl, fun h2 => absurd h2 h, fun _ => ⟨rfl, rfl⟩, rfl, rfl⟩

end Sys2Proof.Proofs
end

section
/-! The recorder's commands, settled (R400, R401, R403, R404, R407, R408, R426). -/

namespace Sys2Proof.Proofs

open Sys2Proof Sys2Proof.Machine

-- One proof after another: many at once wait for the kernel in threads of their own, which the check's memory limit does not hold.
set_option Elab.async false

/-! ## SHELF_CLR (R408) -/

/-- Stores in the order of a list. -/
theorem foldl_store {U : Type} (p : Nat) (a : Nat → Nat) (d : Nat → List Byte) (l : List Nat) (w : W U) :
    l.foldl (fun v k => v.store p (a k) (d k)) w = { w with st := w.st ++ l.map (fun k => ⟨p, a k, d k, false⟩) } := by
  induction l generalizing w with
  | nil => exact congrArg (W.mk w.u w.fx) (List.append_nil _).symm
  | cons k l ih =>
    rw [List.foldl_cons, ih]
    exact congrArg (W.mk w.u w.fx) (List.append_assoc w.st [_] _)

/-- A byte on which all the stores that reach it agree. -/
theorem byte_stores_agree (m : Mem) (l : List Store) (x : Nat) (v : Byte) (hin : ∃ st ∈ l, st.addr ≤ x ∧ x < st.addr + st.data.length)
    (hv : ∀ st ∈ l, ∀ i, x = st.addr + i → i < st.data.length → st.data[i]? = some v) : (m.stores l).byte x = v := by
  induction l generalizing m with
  | nil => exact absurd hin (by simp)
  | cons st l ih =>
    by_cases hl : ∃ st ∈ l, st.addr ≤ x ∧ x < st.addr + st.data.length
    · exact ih (m.store st) hl fun y hy => hv y (List.mem_cons_of_mem _ hy)
    · obtain ⟨y, hy, hx1, hx2⟩ := hin
      obtain rfl | hy := List.mem_cons.mp hy
      · have hlast : (m.stores (y :: l)).byte x = (m.store y).byte x := byte_stores_outside (m.store y) l x fun z hz => by
          by_contra hcon
          exact hl ⟨z, hz, by omega, by omega⟩
        have hat := byte_store_at (m := m) (hv y List.mem_cons_self (x - y.addr) (by omega) (by omega))
        rw [show y.addr + (x - y.addr) = x by omega] at hat
        exact hlast.trans hat
      · exact absurd ⟨y, hy, hx1, hx2⟩ hl

/-- The test patterns of three ring slots. -/
def testStores (slot : Nat) : List Store :=
  (upto 3).map (fun k => ⟨Pg.REC, ringBase + 64 * ((slot + k) % ringSlots), (upto 64).map (fun i => Config.recTest i), false⟩)

/-- The erasure of the shelf. -/
def eraseStores : List Store := (upto 128).map (fun k => ⟨Pg.REC, shelfBase + 32 * k, List.replicate 32 0, false⟩)

/-- REC with the shelf and its flags cleared. -/
def shelfCleared (u : Rec) : Rec :=
  { u with failRun := 0, regs := rmod u.regs Reg.REC_STAT (fun x => putBits (putBit (putBit (putBit x 0 false) 1 false) 2 false) 23 17 0) }

/-- The ring slot that failed last. -/
def failSlot (u : Rec) : Nat := (rget u.regs Reg.REC_FAIL_SLOT).toNat

theorem shelfClear_true (u : Rec) : Rec.shelfClear true u =
    (⟨shelfCleared u, Fx.none, testStores (failSlot u) ++ eraseStores⟩ : W Rec).code Pg.REC 0x0174 [] := by
  unfold Rec.shelfClear
  rw [if_pos rfl, foldl_store]
  dsimp only
  rw [foldl_store]
  rfl

theorem shelfClear_false (u : Rec) : Rec.shelfClear false u =
    (⟨u, Fx.none, testStores (failSlot u)⟩ : W Rec).codeRec Pg.REC 0x3170 [wd (failSlot u)] := by
  unfold Rec.shelfClear
  rw [if_neg (by decide), foldl_store]
  rfl

theorem getElem_recTest {i : Nat} (h : i < 64) : ((upto 64).map (fun i => Config.recTest i))[i]? = some (Config.recTest i) := by
  rw [List.getElem?_map, upto, List.getElem?_range h]
  rfl

theorem mem_testStores {slot : Nat} {st : Store} (h : st ∈ testStores slot) :
    ∃ k < 3, st.addr = ringBase + 64 * ((slot + k) % ringSlots) ∧ st.data = (upto 64).map (fun i => Config.recTest i) := by
  obtain ⟨k, hk, rfl⟩ := List.mem_map.mp h
  exact ⟨k, List.mem_range.mp hk, rfl, rfl⟩

theorem mem_eraseStores {st : Store} (h : st ∈ eraseStores) : ∃ k < 128, st.addr = shelfBase + 32 * k ∧ st.data = List.replicate 32 0 := by
  obtain ⟨k, hk, rfl⟩ := List.mem_map.mp h
  exact ⟨k, List.mem_range.mp hk, rfl, rfl⟩

theorem length_recTests : ((upto 64).map (fun i => Config.recTest i)).length = 64 := by rw [List.length_map, upto, List.length_range]

/-- The three ring slots hold the pattern, the shelf holds nothing, and no other byte changes. -/
theorem bytes_cleared (slot : Nat) (m : Mem) :
    let n := m.stores (testStores slot ++ eraseStores)
    (∀ j k, j < 3 → k < 64 → n.byte (ringBase + 64 * ((slot + j) % ringSlots) + k) = Config.recTest k) ∧
      (∀ k, k < 4096 → n.byte (shelfBase + k) = 0) ∧
      (∀ x, (∀ j k, j < 3 → k < 64 → x ≠ ringBase + 64 * ((slot + j) % ringSlots) + k) → (∀ k, k < 4096 → x ≠ shelfBase + k) →
        n.byte x = m.byte x) := by
  intro n
  have hrange : ∀ j : Nat, (slot + j) % ringSlots < 524288 := fun j => Nat.mod_lt _ (by decide)
  have hring : ringBase = 0x32000000 := rfl
  have hshelf : shelfBase = 0x160000000 := rfl
  refine ⟨fun j k hj hk => ?_, fun k hk => ?_, fun x h1 h2 => ?_⟩
  · have hlt := hrange j
    refine byte_stores_agree _ _ _ _ ⟨⟨Pg.REC, ringBase + 64 * ((slot + j) % ringSlots), (upto 64).map (fun i => Config.recTest i), false⟩,
      List.mem_append_left _ (List.mem_map.mpr ⟨j, List.mem_range.mpr hj, rfl⟩), by dsimp only; omega,
      by dsimp only; rw [length_recTests]; omega⟩ fun st hst i hx hi => ?_
    obtain hst | hst := List.mem_append.mp hst
    · obtain ⟨j', -, haddr, hdata⟩ := mem_testStores hst
      rw [hdata, length_recTests] at hi
      rw [haddr] at hx
      rw [hdata, getElem_recTest hi, show i = k by omega]
    · obtain ⟨k', -, haddr, -⟩ := mem_eraseStores hst
      rw [haddr] at hx
      omega
  · refine byte_stores_agree _ _ _ _ ⟨⟨Pg.REC, shelfBase + 32 * (k / 32), List.replicate 32 0, false⟩,
      List.mem_append_right _ (List.mem_map.mpr ⟨k / 32, List.mem_range.mpr (by omega), rfl⟩), by dsimp only; omega,
      by dsimp only; rw [List.length_replicate]; omega⟩ fun st hst i hx hi => ?_
    obtain hst | hst := List.mem_append.mp hst
    · obtain ⟨j', -, haddr, hdata⟩ := mem_testStores hst
      have := hrange j'
      rw [hdata, length_recTests] at hi
      rw [haddr] at hx
      omega
    · obtain ⟨k', -, -, hdata⟩ := mem_eraseStores hst
      rw [hdata, List.length_replicate] at hi
      rw [hdata, List.getElem?_replicate_of_lt hi]
  · refine byte_stores_outside _ _ _ fun st hst => ?_
    by_contra hcon
    obtain hst | hst := List.mem_append.mp hst
    · obtain ⟨j, hj, haddr, hdata⟩ := mem_testStores hst
      rw [hdata, length_recTests, haddr] at hcon
      exact h1 j (x - (ringBase + 64 * ((slot + j) % ringSlots))) hj (by omega) (by omega)
    · obtain ⟨k, hk, haddr, hdata⟩ := mem_eraseStores hst
      rw [hdata, List.length_replicate, haddr] at hcon
      exact h2 (x - shelfBase) (by omega) (by omega)

/-- The flags after the shelf is cleared. -/
theorem shelfCleared_flags (u : Rec) :
    (shelfCleared u).shelfUsed = 0 ∧ ∀ i, i < 3 → (shelfCleared u).flag i = false := by
  have hstat : rget (shelfCleared u).regs Reg.REC_STAT =
      putBits (putBit (putBit (putBit (rget u.regs Reg.REC_STAT) 0 false) 1 false) 2 false) 23 17 0 :=
    (rget_rmod u.regs Reg.REC_STAT (fun x => putBits (putBit (putBit (putBit x 0 false) 1 false) 2 false) 23 17 0) _).trans (if_pos rfl)
  refine ⟨?_, fun i hi => ?_⟩
  · unfold Rec.shelfUsed rfld
    rw [hstat]
    exact bits_putBits_same _ _ (by decide) (by decide)
  · unfold Rec.flag rbit bit
    rw [hstat, getLsbD_putBits _ _ _ _ (by decide) (by omega), if_neg (by omega)]
    change bit (putBit (putBit (putBit (rget u.regs Reg.REC_STAT) 0 false) 1 false) 2 false) i = false
    rw [bit_putBit _ _ _ (by omega), bit_putBit _ _ _ (by omega), bit_putBit _ _ _ (by omega)]
    obtain rfl | rfl | rfl : i = 0 ∨ i = 1 ∨ i = 2 := by omega
    · rfl
    · rfl
    · rfl

/-! ## The write of REC_CTRL (R408) -/

/-- The register row of REC_CTRL. -/
def recCtrlRow : RegRow := ⟨0xAC, 0, 0, 0, 0, 0, 1, 0, 1⟩

/-- What SHELF_CLR does, the read-backs given. -/
def clearAct (ok : Bool) (s : State) : State :=
  (if ok then s else s.onNvs (Nvs.ringFail s.now ((rget s.log.regs Reg.REC_FAIL_SLOT).toNat % ringSlots))).onLog (Rec.shelfClear ok)

/-- A write of REC_CTRL.SHELF_CLR. -/
def shelfWrite (acc : Accessor) (ok : Bool) (s : State) : State :=
  s.writeNamed (fun _ _ _ s => clearAct ok s) acc Reg.REC_CTRL 0 1#32

/-- REC with one cell of its page changed. -/
def withLogCell (k : Nat) (v : Word) (u : Rec) : Rec := { u with regs := rset u.regs k v }

section
variable {acc : Accessor} {s : State}

theorem shelfClr_taken (ok : Bool) (h : s.Admits acc Pg.REC (Reg.REC_CTRL % 0x400)) (hm : s.mode = .service) :
    shelfWrite acc ok s = (clearAct ok (s.written 7 7 0xAC 0 Reg.REC_CTRL recCtrlRow 1#32)).releaseIdle :=
  writeNamed_taken (fun _ _ _ s => clearAct ok s) acc Reg.REC_CTRL 0 1#32 s h (by decide) (by decide) recCtrlRow 0 (by decide) (by decide)
    (by decide) rfl (.inl rfl) (by decide) (by unfold State.discards; rw [hm]; rfl) (by rw [hm]; rfl)

theorem written_recCtrl (s : State) : ∃ x, (s.written 7 7 0xAC 0 Reg.REC_CTRL recCtrlRow 1#32).log = withLogCell Reg.REC_CTRL x s.log ∧
    (s.written 7 7 0xAC 0 Reg.REC_CTRL recCtrlRow 1#32).mem = s.mem := ⟨_, rfl, rfl⟩

theorem sameFlags_withLogCell (x : Word) (u : Rec) {k : Nat} (hk : k ≠ Reg.REC_CTRL) : rget (withLogCell Reg.REC_CTRL x u).regs k = rget u.regs k :=
  (rget_rset _ _ _ _).trans (if_neg hk)

/-- A write outside SERVICE is discarded. -/
theorem shelfClr_discarded (ok : Bool) (h : s.Admits acc Pg.REC (Reg.REC_CTRL % 0x400)) (hm : s.mode ≠ .service) :
    shelfWrite acc ok s = (s.code Pg.REC 0x1001 []).releaseIdle := by
  have hd : s.discards Reg.REC_CTRL 0 0 1#32 = true := by
    unfold State.discards
    exact bne_iff_ne.mpr hm
  have hrow : (s.rowWrite 7 0xAC 1#32 (fun _ _ _ s => clearAct ok s)).1 = s.code Pg.REC 0x1001 [] := by
    have hr : rowOf (homePage 7 0xAC) 0xAC = some recCtrlRow := by decide
    have hw : s.windowOf (homePage 7 0xAC) recCtrlRow = some 0 := rfl
    have hx : regOf (homePage 7 0xAC) 0xAC = (Reg.REC_CTRL, 0) := by decide
    have hl : wd recCtrlRow.rwl = 0#32 := rfl
    unfold State.rowWrite
    dsimp only
    rw [hr]
    dsimp only
    rw [hw]
    dsimp only
    rw [hx]
    dsimp only
    rw [hl, BitVec.and_zero]
    have hf : s.fieldsOf Reg.REC_CTRL (rget (s.cells (homePage 7 0xAC)) (cellKey (homePage 7 0xAC) 0xAC 0)) 1#32 = 1#32 :=
      if_neg fun h => absurd h.1 (by decide)
    have ht : recCtrlRow.takes (s.mode == .run) 1#32 = true := by cases s.mode == .run <;> rfl
    rw [hf, bne_self_eq_false, Bool.and_false]
    simp only [Bool.false_eq_true, if_false]
    rw [hd, ht]
    rfl
  exact (writeNamed_admitted (fun _ _ _ s => clearAct ok s) acc Reg.REC_CTRL 0 1#32 s h (by decide) (by decide)).trans
    (congrArg State.releaseIdle hrow)

end

end Sys2Proof.Proofs
end

section
/-! The recorder's commands, settled (R400, R401, R403, R404, R407, R408, R426). -/

namespace Sys2Proof.Proofs

open Sys2Proof Sys2Proof.Machine

-- One proof after another: many at once wait for the kernel in threads of their own, which the check's memory limit does not hold.
set_option Elab.async false

section
variable {acc : Accessor} {s : State}

/-- REC's registers and flags before the write acts. -/
theorem log_written_recCtrl (s : State) :
    let w := s.written 7 7 0xAC 0 Reg.REC_CTRL recCtrlRow 1#32
    failSlot w.log = failSlot s.log ∧ w.log.shelfUsed = s.log.shelfUsed ∧ w.log.flag 1 = s.log.flag 1 ∧ w.mem = s.mem := by
  intro w
  obtain ⟨x, hx, hmem⟩ := written_recCtrl s
  have hlog : w.log = withLogCell Reg.REC_CTRL x s.log := hx
  have hreg : ∀ k, k ≠ Reg.REC_CTRL → rget w.log.regs k = rget s.log.regs k := fun k hk => by rw [hlog]; exact sameFlags_withLogCell x s.log hk
  exact ⟨congrArg BitVec.toNat (hreg Reg.REC_FAIL_SLOT (by decide)), congrArg (bits · 23 17) (hreg Reg.REC_STAT (by decide)),
    congrArg (bit · 1) (hreg Reg.REC_STAT (by decide)), hmem⟩

/-- SHELF_CLR with a good read-back. -/
theorem shelfClr_good (h : s.Admits acc Pg.REC (Reg.REC_CTRL % 0x400)) (hm : s.mode = .service) :
    let t := shelfWrite acc true s
    (∀ x, t.mem.byte x = (s.mem.stores (testStores (failSlot s.log) ++ eraseStores)).byte x) ∧ t.log.shelfUsed = 0 ∧
      (∀ i, i < 3 → t.log.flag i = false) ∧ t.log.failRun = 0 ∧ t.errCode Pg.REC = 0x0174 := by
  intro t
  let w := s.written 7 7 0xAC 0 Reg.REC_CTRL recCtrlRow 1#32
  obtain ⟨hslot, -, -, hmem⟩ := log_written_recCtrl s
  have ht : t = (w.onLog (Rec.shelfClear true)).releaseIdle := shelfClr_taken true h hm
  have hclear := shelfClear_true w.log
  have hst : (Rec.shelfClear true w.log).st = testStores (failSlot s.log) ++ eraseStores := by
    rw [hclear, ← hslot]
    rfl
  have hgo : GoesOn (shelfCleared w.log) t.log := by
    have hu : (Rec.shelfClear true w.log).u = shelfCleared w.log := by rw [hclear]; rfl
    rw [ht, ← hu]
    exact (goesOn_onLog _ w).trans (goesOn_releaseIdle _)
  obtain ⟨hused, hflags⟩ := shelfCleared_flags w.log
  refine ⟨fun x => ?_, hgo.shelfUsed.trans hused, fun i hi => (hgo.flag i (by omega) (by omega) (by omega)).trans (hflags i hi),
    failRun_of_store hgo.store, ?_⟩
  · rw [ht, releaseIdle_mem, bytes_onLog, hst, ← hmem]
  · rw [ht, errCode_releaseIdle (by decide) (by decide)]
    exact errCode_onLog (l := []) (c := ⟨Pg.REC, 0x0174, [], false⟩) (by rw [hclear]; rfl) rfl (by rw [hclear]; exact ⟨rfl, rfl, rfl⟩)

/-- REC's work after a read-back that differs. -/
theorem shelfClear_fails (z : State) :
    GoesOn z.log (z.onLog (Rec.shelfClear false)).log ∧ (z.onLog (Rec.shelfClear false)).errCode Pg.REC = 0x3170 := by
  have hclear := shelfClear_false z.log
  have hu : (Rec.shelfClear false z.log).u = z.log := congrArg W.u hclear
  refine ⟨(congrArg (GoesOn · _) hu).mp (goesOn_onLog (Rec.shelfClear false) z), ?_⟩
  exact errCode_onLog (l := []) (c := ⟨Pg.REC, 0x3170, [wd (failSlot z.log)], true⟩) (by rw [hclear]; rfl) rfl
    (by rw [hclear]; exact ⟨rfl, rfl, rfl⟩)

theorem clearAct_fails (w : State) : GoesOn w.log (clearAct false w).log ∧ (clearAct false w).errCode Pg.REC = 0x3170 := by
  unfold clearAct
  rw [if_neg (by decide)]
  obtain ⟨hgo, hcode⟩ := shelfClear_fails (w.onNvs (Nvs.ringFail w.now ((rget w.log.regs Reg.REC_FAIL_SLOT).toNat % ringSlots)))
  exact ⟨(goesOn_onNvs _ w).trans hgo, hcode⟩

/-- SHELF_CLR with a read-back that differs. -/
theorem shelfClr_bad (h : s.Admits acc Pg.REC (Reg.REC_CTRL % 0x400)) (hm : s.mode = .service) :
    let t := shelfWrite acc false s
    t.log.shelfUsed = s.log.shelfUsed ∧ t.log.flag 1 = s.log.flag 1 ∧ t.errCode Pg.REC = 0x3170 := by
  intro t
  obtain ⟨-, hused, hflag, -⟩ := log_written_recCtrl s
  have ht : t = _ := shelfClr_taken false h hm
  obtain ⟨hfail, hcode⟩ := clearAct_fails (s.written 7 7 0xAC 0 Reg.REC_CTRL recCtrlRow 1#32)
  have hgo := hfail.trans (goesOn_releaseIdle _)
  rw [← ht] at hgo
  refine ⟨hgo.shelfUsed.trans hused, (hgo.flag 1 (by decide) (by decide) (by decide)).trans hflag, ?_⟩
  rw [ht, errCode_releaseIdle (by decide) (by decide), hcode]

/-- SHELF_CLR outside SERVICE. -/
theorem shelfClr_refused (ok : Bool) (h : s.Admits acc Pg.REC (Reg.REC_CTRL % 0x400)) (hm : s.mode ≠ .service) :
    let t := shelfWrite acc ok s
    t.log.shelfUsed = s.log.shelfUsed ∧ t.log.flag 1 = s.log.flag 1 ∧ t.errCode Pg.REC = 0x1001 ∧ s.SameBytes t := by
  intro t
  have ht : t = (s.code Pg.REC 0x1001 []).releaseIdle := shelfClr_discarded ok h hm
  have hgo : GoesOn s.log t.log := by
    rw [ht]
    exact (goesOn_commit _ _ s).trans (goesOn_releaseIdle _)
  refine ⟨hgo.shelfUsed, hgo.flag 1 (by decide) (by decide) (by decide), ?_, fun x => ?_⟩
  · rw [ht, errCode_releaseIdle (by decide) (by decide), errCode_code _ _ _ _ (by decide)]
  · rw [ht, releaseIdle_mem]
    exact byte_code _ _ _ _ x

end

/-- Settles O42: the record at the head of the queue by the ring's read-back; SHELF_CLR by the state of the module and its read-back. -/
theorem recorderCommands : Obligations.RecorderCommands := by
  unfold Obligations.RecorderCommands
  refine ⟨fun a ring shelf r rest s hup hs hq hf hr hn => ?_, fun a ring shelf s hup h => ?_, fun a s hup => ?_,
    fun a acc ok slot s h hslot => ?_⟩
  · have hexec : exec (.recordWrite a ring shelf) s = .next ((s.at_ a).writeRecord ring shelf) := congrArg Host.Outcome.next (if_pos hup)
    refine ⟨_, hexec, ?_⟩
    cases ring
    case true =>
      obtain ⟨hnext, hbytes, hrest, hrun, hfails, hqueue, hshell⟩ := recordWrite_ring (s := s.at_ a) hs hq hf hr shelf hn
      exact ⟨hnext, fun _ => ⟨hbytes, hrest, hrun, hfails, hqueue⟩, fun h => absurd h (by decide), hshell⟩
    case false =>
      obtain ⟨hnext, hfails, hslot, hrun, hdeg, hcode, hnvs, hshelf, hshell⟩ := recordWrite_failed (s := s.at_ a) hs hq hf hr shelf
      exact ⟨hnext, fun h => absurd h (by decide), fun _ => ⟨hfails, hslot, hrun, hdeg, hcode, hnvs, hshelf⟩, hshell⟩
  · exact congrArg Host.Outcome.next ((if_pos hup).trans (writeRecord_idle (s := s.at_ a) ring shelf h))
  · obtain ⟨hlast, hA, hB, hqueue, hnext⟩ := saveOptime_copies (s.at_ a).log
    have hexec : exec (.optimeSave a) s = .next { s.at_ a with log := (s.at_ a).log.saveOptime } := congrArg Host.Outcome.next (if_pos hup)
    exact ⟨_, hexec, hlast, hA, hB, hqueue, hnext, rfl, fun _ => rfl⟩
  · have hexec : exec (.shelfClr a acc ok) s = .next (shelfWrite acc ok (s.at_ a)) := rfl
    refine ⟨_, hexec, ?_, ?_, fun hm => shelfClr_refused (s := s.at_ a) ok h hm⟩
    · rintro hm rfl
      obtain ⟨hbytes, hused, hflags, hrun, hcode⟩ := shelfClr_good (s := s.at_ a) h hm
      obtain ⟨hring, hzero, hrest⟩ := bytes_cleared slot (s.at_ a).mem
      have hb : ∀ x, (shelfWrite acc true (s.at_ a)).mem.byte x = ((s.at_ a).mem.stores (testStores slot ++ eraseStores)).byte x := by
        rw [hslot]
        exact hbytes
      exact ⟨fun j k hj hk => (hb _).trans (hring j k hj hk), fun k hk => (hb _).trans (hzero k hk), hused, hflags 0 (by decide),
        hflags 1 (by decide), hflags 2 (by decide), hrun, hcode, fun x h1 h2 => (hb x).trans (hrest x h1 h2)⟩
    · rintro hm rfl
      exact shelfClr_bad (s := s.at_ a) h hm

end Sys2Proof.Proofs
end

section
/-! SUPPORT. What work without a trigger leaves of SNAP and of the latched words (R409–R413). -/

namespace Sys2Proof.Proofs

open Sys2Proof Sys2Proof.Machine

-- One proof after another: many at once wait for the kernel in threads of their own, which the check's memory limit does not hold.
set_option Elab.async false

/-- SNAP stands from u to v but for the progress of its save. -/
structure SnapStands (u v : Snap) : Prop where
  count : v.count = u.count
  last : v.lastAt = u.lastAt
  reg : ∀ k, k ≠ Reg.SNAP_SAVE_STAT → rget v.regs k = rget u.regs k

theorem SnapStands.refl (u : Snap) : SnapStands u u := ⟨rfl, rfl, fun _ _ => rfl⟩

theorem SnapStands.trans {u v w : Snap} (h : SnapStands u v) (k : SnapStands v w) : SnapStands u w :=
  ⟨k.count.trans h.count, k.last.trans h.last, fun j hj => (k.reg j hj).trans (h.reg j hj)⟩

theorem stands_saveStat (u : Snap) (f : Word → Word) : SnapStands u { u with regs := rmod u.regs Reg.SNAP_SAVE_STAT f } :=
  ⟨rfl, rfl, fun _ hk => rget_rmod_ne _ _ hk⟩

theorem stands_setLog (l : Rec) (s : State) : SnapStands s.snap (s.setLog l).snap := by
  unfold State.setLog
  dsimp only
  split
  · exact .refl _
  · exact stands_saveStat _ _

/-- A latched word of a page. -/
def latchedAt (s : State) (p o : Nat) : Word := rget s.hdr (cellKey p o 0)

/-- SNAP and the latched words stand from s to t. -/
structure Unlatched (s t : State) : Prop where
  snap : SnapStands s.snap t.snap
  words : ∀ p o, 0x20 ≤ o → o < 0x40 → latchedAt t p o = latchedAt s p o

theorem Unlatched.refl (s : State) : Unlatched s s := ⟨.refl _, fun _ _ _ _ => rfl⟩

theorem Unlatched.trans {s t w : State} (h : Unlatched s t) (k : Unlatched t w) : Unlatched s w :=
  ⟨h.snap.trans k.snap, fun p o h1 h2 => (k.words p o h1 h2).trans (h.words p o h1 h2)⟩

theorem hdrEvt_latched (h : RMap) (p f q o : Nat) (h1 : 0x20 ≤ o) (h2 : o < 0x40) : rget (hdrEvt h p f) (cellKey q o 0) = rget h (cellKey q o 0) :=
  rget_rmod_ne _ _ (by rw [Ne, cellKey_inj (by omega) (by omega)]; omega)

theorem hdrCode_latched (h : RMap) (p c q o : Nat) (h1 : 0x20 ≤ o) (h2 : o < 0x40) : rget (hdrCode h p c) (cellKey q o 0) = rget h (cellKey q o 0) :=
  rget_rmod_ne _ _ (by rw [Ne, cellKey_inj (by omega) (by omega)]; omega)

theorem unlatched_flags (l : List (Nat × Nat)) (s : State) : Unlatched s (s.flags l) :=
  ⟨.refl _, fun p o h1 h2 => hdr_flags (Q := fun h => rget h (cellKey p o 0) = latchedAt s p o)
    (fun h q f hh => (hdrEvt_latched h q f p o h1 h2).trans hh) l s rfl⟩

theorem stands_record (c : Code) (s : State) : SnapStands s.snap (s.record c).snap := by
  have h : ∀ (x : State) (r : Record), x.snap = s.snap → SnapStands s.snap (x.offer r).snap := fun x r hx => hx ▸ stands_setLog _ x
  unfold State.record
  dsimp only
  split
  · exact h _ _ rfl
  · exact .refl _

theorem unlatched_recordAll (l : List Code) (s : State) : Unlatched s (s.recordAll l) :=
  ⟨foldl_keeps (fun x : State => SnapStands s.snap x.snap) _ (fun x c hx => hx.trans (stands_record c x)) _ _ (.refl _),
    fun p o h1 h2 => hdr_recordAll (Q := fun h => rget h (cellKey p o 0) = latchedAt s p o)
      (fun h q f hh => (hdrEvt_latched h q f p o h1 h2).trans hh) _ (fun h _ _ hh => (hdrCode_latched h _ _ p o h1 h2).trans hh) s rfl⟩

theorem unlatched_beginSave (s : State) : Unlatched s s.beginSave := by
  have h : ∀ (x : State) (l : Rec), SnapStands s.snap x.snap → SnapStands s.snap (x.setLog l).snap := fun x l hx => hx.trans (stands_setLog l x)
  refine ⟨?_, fun p o _ _ => congrArg (rget · (cellKey p o 0)) (hdr_beginSave s)⟩
  unfold State.beginSave
  exact h _ _ (stands_saveStat _ _)

/-! ## Work without a trigger -/

/-- Plain work: its codes and flags, its triggers of a snapshot, what it sends. -/
theorem commit_plain {fx : Fx} (h : fx.Plain) (s : State) :
    let t := ((s.flags fx.evts).recordAll fx.codes).snapTriggers fx.snaps fx.codes
    s.commit fx [] = { t with outbox := fx.emits.reverse ++ t.outbox } := by
  obtain ⟨codes, evts, reads, samples, pushes, triggers, snaps, emits, heals⟩ := fx
  obtain ⟨hr, hs, hp, ht, hh⟩ := h
  dsimp only at hr hs hp ht hh
  subst hr hs hp ht hh
  rfl

/-- No code triggers a snapshot while SNAP_CFG turns the faults off. -/
theorem faultTrigger_off {s : State} (h : rfld s.snap.regs Reg.SNAP_CFG 5 3 = 0) (l : List Code) : s.faultTrigger l = none := by
  unfold State.faultTrigger
  rw [h]
  have hnone : ∀ c ∈ sortCodes l, ¬ (decide ((0 : Nat) ≠ 0) && decide (0 ≤ c.code / 0x1000) &&
      !(decide (0x180 ≤ c.code % 0x1000) && decide (c.code % 0x1000 ≤ 0x184))) = true := fun _ _ => by simp
  dsimp only
  rw [List.find?_eq_none.mpr hnone]
  rfl

/-- Plain work that names no source of a snapshot, with the faults off as one, leaves SNAP and the latched words. -/
theorem unlatched_commit {fx : Fx} (h : fx.Plain) (hs : fx.snaps = []) (s : State) (hf : rfld s.snap.regs Reg.SNAP_CFG 5 3 = 0) :
    Unlatched s (s.commit fx []) := by
  have hrec : Unlatched s ((s.flags fx.evts).recordAll fx.codes) := (unlatched_flags _ _).trans (unlatched_recordAll _ _)
  have hf2 : rfld ((s.flags fx.evts).recordAll fx.codes).snap.regs Reg.SNAP_CFG 5 3 = 0 := by
    unfold rfld
    rw [hrec.snap.reg _ (by decide)]
    exact hf
  have hnone : ((s.flags fx.evts).recordAll fx.codes).snapTriggers fx.snaps fx.codes = (s.flags fx.evts).recordAll fx.codes := by
    unfold State.snapTriggers
    rw [faultTrigger_off hf2, hs]
    rfl
  have hout : ∀ (x : State) (o : List Emit), Unlatched s x → Unlatched s { x with outbox := o } := fun _ _ hx => ⟨hx.snap, hx.words⟩
  rw [commit_plain h, hnone]
  exact hout _ _ hrec

theorem unlatched_rateCut {s : State} (hf : rfld s.snap.regs Reg.SNAP_CFG 5 3 = 0) (k : Nat) (b : Bool) :
    Unlatched s (s.onPrg (Prg.rateCut k b)) := by
  obtain ⟨hfx, hst, -⟩ := rateCut_plain k b s.prg
  have hsnaps : (Prg.rateCut k b s.prg).fx.snaps = [] := by
    unfold Prg.rateCut
    split
    · rfl
    · rfl
  have hput : ∀ x : State, x.snap = s.snap → x.hdr = s.hdr → Unlatched x (x.commit (Prg.rateCut k b s.prg).fx []) →
      Unlatched s (x.commit (Prg.rateCut k b s.prg).fx []) := fun x h1 h2 h =>
    ⟨h1 ▸ h.snap, fun p o ho1 ho2 => (h.words p o ho1 ho2).trans (congrArg (rget · (cellKey p o 0)) h2)⟩
  unfold State.onPrg
  dsimp only
  rw [hst]
  exact hput _ rfl rfl (unlatched_commit hfx hsnaps _ hf)

/-- The release after a write leaves SNAP and the latched words while the faults are off as a source. -/
theorem unlatched_releaseIdle {s : State} (hf : rfld s.snap.regs Reg.SNAP_CFG 5 3 = 0) : Unlatched s s.releaseIdle := by
  have hrates : ∀ x : State, rfld x.snap.regs Reg.SNAP_CFG 5 3 = 0 → Unlatched x x.rates := fun x hx =>
    foldl_keeps (fun y : State => Unlatched x y) _ (fun y k hy => hy.trans (unlatched_rateCut
      (by unfold rfld; rw [hy.snap.reg _ (by decide)]; exact hx) k _)) _ _ (.refl _)
  have hpwr : ∀ (x : State) (p : Pwr), Unlatched { x with pwr := p } ({ x with pwr := p } : State).rates →
      Unlatched x ({ x with pwr := p } : State).rates := fun _ _ h => ⟨h.snap, h.words⟩
  rw [releaseIdle_eq]
  exact hpwr s _ (hrates _ hf)

end Sys2Proof.Proofs
end

section
/-! SUPPORT. A snapshot taken or refused, and the write that triggers it (R409–R411). -/

namespace Sys2Proof.Proofs

open Sys2Proof Sys2Proof.Machine

-- One proof after another: many at once wait for the kernel in threads of their own, which the check's memory limit does not hold.
set_option Elab.async false

/-! ## The latched words (R410) -/

section
variable (id : Nat) (t : Int) (s : State)

/-- A page whose island runs latches the snapshot's id and instant. -/
theorem latchPage_up {p : Nat} (hp : s.pageUp p = true) (h : RMap) :
    rget (s.latchPage id t h p) (cellKey p 0x20 0) = wd id ∧ rget (s.latchPage id t h p) (cellKey p 0x24 0) = lo32 t ∧
      rget (s.latchPage id t h p) (cellKey p 0x28 0) = hi32 t := by
  have hne : ∀ {o r : Nat}, o < 0x400 → r < 0x400 → o ≠ r → cellKey p o 0 ≠ cellKey p r 0 := fun ho hr hor he =>
    hor ((cellKey_inj ho hr).mp he).2
  have hlast : ∀ o, o < 0x2C → ∀ x ∈ (upto 5).map (fun k => (cellKey p (0x2C + 4 * k) 0, wordAt (s.snapWords p) k)), x.1 ≠ cellKey p o 0 :=
    fun o ho x hx => by
      obtain ⟨k, hk, rfl⟩ := List.mem_map.mp hx
      have hk5 : k < 5 := List.mem_range.mp hk
      exact hne (by omega) (by omega) (by omega)
  unfold State.latchPage
  rw [if_pos hp]
  refine ⟨rget_rsets_first fun x hx => ?_, ?_, ?_⟩
  · obtain hx | hx := List.mem_append.mp (show x ∈ [(cellKey p 0x24 0, lo32 t), (cellKey p 0x28 0, hi32 t)] ++ _ from hx)
    · simp only [List.mem_cons, List.not_mem_nil, or_false] at hx
      obtain rfl | rfl := hx
      · exact hne (by decide) (by decide) (by decide)
      · exact hne (by decide) (by decide) (by decide)
    · exact hlast _ (by decide) x hx
  · exact rget_rsets_first (m := rset h (cellKey p 0x20 0) (wd id)) fun x hx => by
      obtain rfl | hx := List.mem_cons.mp hx
      · exact hne (by decide) (by decide) (by decide)
      · exact hlast _ (by decide) x hx
  · exact rget_rsets_first (m := rset (rset h (cellKey p 0x20 0) (wd id)) (cellKey p 0x24 0) (lo32 t)) fun x hx => hlast _ (by decide) x hx

/-- A page's latch leaves the words of the other pages. -/
theorem latchPage_other {p q o : Nat} (hpq : p ≠ q) (ho : o < 0x400) (h : RMap) :
    rget (s.latchPage id t h q) (cellKey p o 0) = rget h (cellKey p o 0) := by
  have hne : ∀ {r : Nat}, r < 0x400 → cellKey q r 0 ≠ cellKey p o 0 := fun hr he => hpq ((cellKey_inj hr ho).mp he).1.symm
  unfold State.latchPage
  dsimp only
  split
  · refine rget_rsets_of_ne _ _ _ fun x hx => ?_
    obtain hx | hx := List.mem_append.mp hx
    · simp only [List.mem_cons, List.not_mem_nil, or_false] at hx
      obtain rfl | rfl | rfl := hx
      · exact hne (by decide)
      · exact hne (by decide)
      · exact hne (by decide)
    · obtain ⟨k, hk, rfl⟩ := List.mem_map.mp hx
      have hk5 : k < 5 := List.mem_range.mp hk
      exact hne (by omega)
  · rfl

/-- The latched words after every page whose island runs has latched. -/
theorem latchAll_words (h : RMap) :
    let m := (upto pageCount).foldl (s.latchPage id t) h
    (∀ p, p < pageCount → s.pageUp p = true →
      rget m (cellKey p 0x20 0) = wd id ∧ rget m (cellKey p 0x24 0) = lo32 t ∧ rget m (cellKey p 0x28 0) = hi32 t) ∧
    (∀ p o, s.pageUp p = false → o < 0x40 → rget m (cellKey p o 0) = rget h (cellKey p o 0)) := by
  intro m
  refine ⟨fun p hp hup => ?_, fun p o hdown ho => ?_⟩
  · refine foldl_reaches (P := fun _ : RMap => True) (Q := fun m : RMap => rget m (cellKey p 0x20 0) = wd id ∧
      rget m (cellKey p 0x24 0) = lo32 t ∧ rget m (cellKey p 0x28 0) = hi32 t) (List.mem_range.mpr hp) (fun _ _ _ => trivial)
      (fun m q _ hm => ?_) (fun m _ => latchPage_up id t s hup m) trivial
    by_cases hpq : p = q
    · rw [← hpq]
      exact latchPage_up id t s hup m
    · have hkeep := fun o ho => latchPage_other id t s (o := o) hpq ho m
      exact ⟨(hkeep _ (by decide)).trans hm.1, (hkeep _ (by decide)).trans hm.2.1, (hkeep _ (by decide)).trans hm.2.2⟩
  · refine foldl_keeps (fun m : RMap => rget m (cellKey p o 0) = rget h (cellKey p o 0)) _ (fun m q hm => ?_) _ _ rfl
    by_cases hpq : p = q
    · rw [← hpq, State.latchPage, if_neg (by rw [hdown]; decide)]
      exact hm
    · exact (latchPage_other id t s hpq (by omega) m).trans hm

end

/-! ## The snapshot (R409, R411) -/

section
variable {s : State}

/-- SNAP after a refused trigger. -/
theorem refuse_u (u : Snap) : u.refuse.u = { u with refusedRecorded := true, regs := rmod u.regs Reg.SNAP_REFUSED incW } :=
  u_when (g := id) (f := fun w => w.code Pg.SNAP 0x1182 []) (fun _ => rfl) _ _

/-- A refused trigger. -/
theorem snapshot_refused {srcs code : Nat} (h : s.snap.holds s.tim.time (!s.log.saving.isEmpty) = true) :
    SnapStands s.snap.refuse.u (s.snapshot srcs code).snap := by
  have hput : ∀ (x : State) (u : Snap) (l : List (Nat × Nat)) (c : List Code),
      SnapStands u ((({ x with snap := u } : State).flags l).recordAll c).snap := fun x u l c =>
    ((unlatched_flags l { x with snap := u }).trans (unlatched_recordAll c _)).snap
  unfold State.snapshot
  extract_lets t w missed s1 s2 s3 s4
  rw [if_pos h]
  exact hput _ _ _ _

/-- The state in which the pages have latched. -/
def latchedState (srcs code : Nat) (s : State) : State :=
  let s1 : State := { s with snap := s.snap.take s.tim.time s.epoch srcs code s.missedMap }
  { s1 with hdr := (upto pageCount).foldl (s1.latchPage s1.snap.count s.tim.time) s1.hdr }

/-- A snapshot taken: the pages latch, and what it records leaves that. -/
theorem snapshot_taken {srcs code : Nat} (h : s.snap.holds s.tim.time (!s.log.saving.isEmpty) = false) :
    Unlatched (latchedState srcs code s) (s.snapshot srcs code) := by
  unfold State.snapshot
  extract_lets t w missed s1 s2 s3 s4
  have h4 : Unlatched s2 s4 := (unlatched_flags _ s2).trans (unlatched_recordAll _ _)
  rw [if_neg (by rw [h]; decide)]
  split
  · exact h4.trans (unlatched_beginSave _)
  · exact h4

/-- SNAP's fields after a snapshot. -/
theorem take_fields (t : Int) (epoch srcs code missed : Nat) (u : Snap) :
    let v := u.take t epoch srcs code missed
    v.count = u.next ∧ v.lastAt = some t ∧ rget v.regs Reg.SNAP_LAST_ID = wd u.next ∧
      rget v.regs Reg.SNAP_LAST_SRC = wd (srcs + 65536 * code) ∧ rget v.regs Reg.SNAP_LAST_T_L = lo32 t ∧
      rget v.regs Reg.SNAP_LAST_T_H = hi32 t ∧ rget v.regs Reg.SNAP_MISSED = wd missed ∧
      rget v.regs Reg.SNAP_CFG = rget u.regs Reg.SNAP_CFG := by
  intro v
  have hget : ∀ k, rget v.regs k = rget (rsets (rset (rset u.regs Reg.SNAP_LAST_T_L (lo32 t)) Reg.SNAP_LAST_T_H (hi32 t))
    [(Reg.SNAP_LAST_ID, wd u.next), (Reg.SNAP_LAST_SRC, wd (srcs + 65536 * code)), (Reg.SNAP_LAST_EPOCH, wd (epoch % 65536)),
      (Reg.SNAP_MISSED, wd missed)]) k := fun _ => rfl
  simp only [rsets, rget_rset] at hget
  refine ⟨rfl, rfl, ?_, ?_, ?_, ?_, ?_, ?_⟩
  · exact (hget _).trans rfl
  · exact (hget _).trans rfl
  · exact (hget _).trans rfl
  · exact (hget _).trans rfl
  · exact (hget _).trans rfl
  · exact (hget _).trans rfl

/-- A trigger by a write of SNAP_TRIG, with the faults off as a source. -/
theorem snapTriggers_reg (hf : rfld s.snap.regs Reg.SNAP_CFG 5 3 = 0) :
    s.snapTriggers [0] [] = if rbit s.snap.regs Reg.SNAP_CFG 0 then s.snapshot 1 0 else s := by
  have hon : (upto 4).filter (fun i => [0].contains i && s.snap.enabled i) = if rbit s.snap.regs Reg.SNAP_CFG 0 then [0] else [] := by
    have he : s.snap.enabled 0 = rbit s.snap.regs Reg.SNAP_CFG 0 := rfl
    cases hb : rbit s.snap.regs Reg.SNAP_CFG 0
    · rw [List.filter_eq_nil_iff.mpr]
      · rfl
      · intro i _
        by_cases h0 : i = 0
        · rw [h0, he, hb]
          decide
        · simp [h0]
    · have hpred : (fun i => [0].contains i && s.snap.enabled i) = fun i => decide (i = 0) := funext fun i => by
        by_cases h0 : i = 0
        · rw [h0, he, hb]
          rfl
        · simp [h0]
      rw [hpred]
      decide
  unfold State.snapTriggers
  rw [faultTrigger_off hf, hon]
  split
  · rfl
  · rfl

end

end Sys2Proof.Proofs
end

section
/-! The snapshot trigger, the boot options and SAVE_CFG, settled (R409–R411, R425, R426, R429). -/

namespace Sys2Proof.Proofs

open Sys2Proof Sys2Proof.Machine

-- One proof after another: many at once wait for the kernel in threads of their own, which the check's memory limit does not hold.
set_option Elab.async false

/-! ## SNAP_TRIG (R409) -/

/-- The register rows of SNAP_TRIG and SUP_BOOT. -/
def snapTrigRow : RegRow := ⟨0x44, 0, 0, 0, 0, 0, 1, 0, 1⟩
/-- The register row of SUP_BOOT. -/
def supBootRow : RegRow := ⟨0x54, 0, 7, 0, 0, 0, 0, 0, 1⟩

section
variable {acc : Accessor} {s : State}

theorem snapTrig_taken (h : s.Admits acc Pg.SNAP (Reg.SNAP_TRIG % 0x400)) :
    s.writePlain acc Reg.SNAP_TRIG 0 1#32 =
      ((s.written 3 3 0x44 0 Reg.SNAP_TRIG snapTrigRow 1#32).commit { Fx.none with snaps := [0] } []).releaseIdle :=
  writePlain_taken acc Reg.SNAP_TRIG 0 1#32 s h (by decide) (by decide) snapTrigRow 0 (by decide) (by decide) (by decide) rfl (.inl rfl)
    (by decide) rfl (by cases s.mode == .run <;> rfl)

/-- SNAP with one cell of its page changed. -/
def withSnapCell (k : Nat) (v : Word) (u : Snap) : Snap := { u with regs := rset u.regs k v }

/-- What the write leaves of the state before SNAP acts on it. -/
structure TrigWritten (s w : State) : Prop where
  snap : ∃ x, w.snap = withSnapCell Reg.SNAP_TRIG x s.snap
  hdr : w.hdr = hdrSeq s.hdr Pg.SNAP
  mem : w.mem = s.mem
  log : w.log = s.log
  tim : w.tim = s.tim
  missed : w.missedMap = s.missedMap
  up : ∀ p, w.pageUp p = s.pageUp p

theorem written_snapTrig (s : State) : TrigWritten s (s.written 3 3 0x44 0 Reg.SNAP_TRIG snapTrigRow 1#32) :=
  ⟨⟨_, rfl⟩, rfl, rfl, rfl, rfl, rfl, fun _ => rfl⟩

theorem TrigWritten.reg {w : State} (h : TrigWritten s w) {k : Nat} (hk : k ≠ Reg.SNAP_TRIG) : rget w.snap.regs k = rget s.snap.regs k := by
  obtain ⟨x, hx⟩ := h.snap
  rw [hx]
  exact (rget_rset _ _ _ _).trans (if_neg hk)

theorem TrigWritten.count {w : State} (h : TrigWritten s w) : w.snap.count = s.snap.count ∧ w.snap.lastAt = s.snap.lastAt := by
  obtain ⟨x, hx⟩ := h.snap
  rw [hx]
  exact ⟨rfl, rfl⟩

theorem TrigWritten.next {w : State} (h : TrigWritten s w) : w.snap.next = s.snap.next := by
  unfold Snap.next
  rw [h.count.1]

theorem TrigWritten.holds {w : State} (h : TrigWritten s w) (t : Int) (b : Bool) : w.snap.holds t b = s.snap.holds t b := by
  obtain ⟨x, hx⟩ := h.snap
  have hcfg : rfld w.snap.regs Reg.SNAP_CFG 31 16 = rfld s.snap.regs Reg.SNAP_CFG 31 16 := congrArg (bits · 31 16) (h.reg (by decide))
  unfold Snap.holds
  rw [h.count.2, hcfg]

theorem TrigWritten.latched {w : State} (h : TrigWritten s w) (p o : Nat) (h1 : 0x20 ≤ o) (h2 : o < 0x40) : latchedAt w p o = latchedAt s p o := by
  unfold latchedAt
  rw [h.hdr]
  exact rget_rmod_ne _ _ (by rw [Ne, cellKey_inj (by omega) (by omega)]; omega)

/-- What a trigger by SNAP_TRIG leaves, in the state in which it acts and after the release that ends the write. -/
theorem trigger_leaves {w : State} (hf : rfld w.snap.regs Reg.SNAP_CFG 5 3 = 0) :
    let t := (w.commit { Fx.none with snaps := [0] } []).releaseIdle
    (rbit w.snap.regs Reg.SNAP_CFG 0 = false → SnapStands w.snap t.snap) ∧
      (rbit w.snap.regs Reg.SNAP_CFG 0 = true → w.snap.holds w.tim.time (!w.log.saving.isEmpty) = true → SnapStands w.snap.refuse.u t.snap) ∧
      (rbit w.snap.regs Reg.SNAP_CFG 0 = true → w.snap.holds w.tim.time (!w.log.saving.isEmpty) = false →
        Unlatched (latchedState 1 0 w) t) ∧ t.mem = w.mem := by
  intro t
  have hplain : ({ Fx.none with snaps := [0] } : Fx).Plain := ⟨rfl, rfl, rfl, rfl, rfl⟩
  have hout : ∀ x : State, ({ x with outbox := [] ++ x.outbox } : State) = x := fun _ => rfl
  have hcommit : w.commit { Fx.none with snaps := [0] } [] = w.snapTriggers [0] [] := (commit_plain hplain w).trans (hout _)
  have hrelease : ∀ u : Snap, SnapStands u (w.snapTriggers [0] []).snap → rget u.regs Reg.SNAP_CFG = rget w.snap.regs Reg.SNAP_CFG →
      Unlatched (w.snapTriggers [0] []) t := fun u hu hcfg => by
    have ht : t = (w.snapTriggers [0] []).releaseIdle := congrArg State.releaseIdle hcommit
    rw [ht]
    refine unlatched_releaseIdle ?_
    unfold rfld
    rw [hu.reg _ (by decide), hcfg]
    exact hf
  rw [snapTriggers_reg hf] at hrelease
  refine ⟨fun hb => ?_, fun hb hh => ?_, fun hb hh => ?_, (releaseIdle_mem _).trans (plain_mem _ hplain w)⟩
  · rw [hb, if_neg (by decide)] at hrelease
    exact (hrelease w.snap (.refl _) rfl).snap
  · rw [hb, if_pos rfl] at hrelease
    have hs : SnapStands w.snap.refuse.u (w.snapshot 1 0).snap := snapshot_refused hh
    have hcfg : rget w.snap.refuse.u.regs Reg.SNAP_CFG = rget w.snap.regs Reg.SNAP_CFG := by
      rw [refuse_u]
      exact rget_rmod_ne _ _ (by decide)
    exact hs.trans (hrelease _ hs hcfg).snap
  · rw [hb, if_pos rfl] at hrelease
    have hs : Unlatched (latchedState 1 0 w) (w.snapshot 1 0) := snapshot_taken hh
    obtain ⟨-, -, -, -, -, -, -, hcfg⟩ := take_fields w.tim.time w.epoch 1 0 w.missedMap w.snap
    exact hs.trans (hrelease _ hs.snap hcfg)

/-- A refused trigger counts, and nothing else of SNAP's record of snapshots changes. -/
theorem refuse_counts (u : Snap) : u.refuse.u.count = u.count ∧ u.refuse.u.lastAt = u.lastAt ∧
    rget u.refuse.u.regs Reg.SNAP_REFUSED = incW (rget u.regs Reg.SNAP_REFUSED) := by
  rw [refuse_u]
  exact ⟨rfl, rfl, (rget_rmod _ _ _ _).trans (if_pos rfl)⟩

/-- A write of SNAP_TRIG that takes a snapshot. -/
theorem snapTrig_takes {w : State} (hw : TrigWritten s w) {t : State} (ht : Unlatched (latchedState 1 0 w) t) :
    t.snap.count = s.snap.next ∧ t.snap.lastAt = some s.tim.time ∧ rget t.snap.regs Reg.SNAP_LAST_ID = wd s.snap.next ∧
      rget t.snap.regs Reg.SNAP_LAST_SRC = 1#32 ∧ rget t.snap.regs Reg.SNAP_LAST_T_L = lo32 s.tim.time ∧
      rget t.snap.regs Reg.SNAP_LAST_T_H = hi32 s.tim.time ∧ rget t.snap.regs Reg.SNAP_MISSED = wd s.missedMap ∧
      (∀ p, p < pageCount → s.pageUp p = true → rget t.hdr (cellKey p 0x20 0) = wd s.snap.next ∧
        rget t.hdr (cellKey p 0x24 0) = lo32 s.tim.time ∧ rget t.hdr (cellKey p 0x28 0) = hi32 s.tim.time) ∧
      (∀ p o, p < pageCount → s.pageUp p = false → 0x20 ≤ o → o < 0x40 → rget t.hdr (cellKey p o 0) = rget s.hdr (cellKey p o 0)) := by
  obtain ⟨hstand, hwords⟩ := ht
  have hsnap : (latchedState 1 0 w).snap = w.snap.take s.tim.time w.epoch 1 0 s.missedMap := by
    rw [← hw.tim, ← hw.missed]
    rfl
  have hhdr : (latchedState 1 0 w).hdr = (upto pageCount).foldl (State.latchPage s.snap.next s.tim.time
      { w with snap := w.snap.take w.tim.time w.epoch 1 0 w.missedMap }) w.hdr := by
    rw [← hw.next, ← hw.tim]
    rfl
  obtain ⟨hcount, hlast, hid, hsrc, hl, hh, hmiss, -⟩ := take_fields s.tim.time w.epoch 1 0 s.missedMap w.snap
  rw [hw.next] at hcount hid
  obtain ⟨hup, hdown⟩ := latchAll_words s.snap.next s.tim.time
    { w with snap := w.snap.take w.tim.time w.epoch 1 0 w.missedMap } w.hdr
  rw [← hhdr] at hup hdown
  rw [hsnap] at hstand
  have hreg : ∀ {k : Nat} {v : Word}, k ≠ Reg.SNAP_SAVE_STAT → rget (w.snap.take s.tim.time w.epoch 1 0 s.missedMap).regs k = v →
      rget t.snap.regs k = v := fun hk hv => (hstand.reg _ hk).trans hv
  refine ⟨hstand.count.trans hcount, hstand.last.trans hlast, hreg (by decide) hid, hreg (by decide) hsrc, hreg (by decide) hl,
    hreg (by decide) hh, hreg (by decide) hmiss, fun p hp hpu => ?_, fun p o _ hpd h1 h2 => ?_⟩
  · obtain ⟨ha, hb, hc⟩ := hup p hp ((hw.up p).trans hpu)
    exact ⟨(hwords p _ (by decide) (by decide)).trans ha, (hwords p _ (by decide) (by decide)).trans hb,
      (hwords p _ (by decide) (by decide)).trans hc⟩
  · exact (hwords p o h1 h2).trans ((hdown p o ((hw.up p).trans hpd) h2).trans (hw.latched p o h1 h2))

end

end Sys2Proof.Proofs
end

section
/-! The snapshot trigger, the boot options and SAVE_CFG, settled (R409–R411, R425, R426, R429). -/

namespace Sys2Proof.Proofs

open Sys2Proof Sys2Proof.Machine

-- One proof after another: many at once wait for the kernel in threads of their own, which the check's memory limit does not hold.
set_option Elab.async false

section
variable {acc : Accessor} {s : State}

/-! ## SUP_BOOT (R429) -/

theorem supBoot_taken (v : Word) (h : s.Admits acc Pg.SUP (Reg.SUP_BOOT % 0x400)) :
    s.writePlain acc Reg.SUP_BOOT 0 v = ((s.written 1 1 0x54 0 Reg.SUP_BOOT supBootRow v).bootWrite v).releaseIdle :=
  writePlain_taken acc Reg.SUP_BOOT 0 v s h (by decide) (by decide) supBootRow 0 (by decide) (by decide) (by decide) rfl (.inl rfl)
    (by decide) rfl (by cases s.mode == .run <;> rfl)

/-- A block of the key block written counts once. -/
theorem countWrites_keyBlock (u : Nvs) : u.countWrites ⟨Pg.NVS, nvsAddr 8, List.replicate 32 0, false⟩ =
    { u with regs := rmod u.regs (rk Reg.NVS_R_WRITES 0 8) (fun x => addSatW x 1) } := by
  have hr : nvsRegionOf (nvsAddr 8) = some 8 := by decide
  unfold Nvs.countWrites
  dsimp only
  rw [hr]
  rfl

theorem bootWrite_nvs (v : Word) (w : State) :
    (w.bootWrite v).nvs.boot = v &&& 7#32 ∧ (w.bootWrite v).mem = w.mem ∧ (w.bootWrite v).mode = w.mode ∧
      rget (w.bootWrite v).nvs.regs (rk Reg.NVS_R_WRITES 0 8) = addSatW (addSatW (rget w.nvs.regs (rk Reg.NVS_R_WRITES 0 8)) 1) 1 := by
  refine ⟨rfl, rfl, rfl, ?_⟩
  unfold State.bootWrite
  dsimp only
  rw [countWrites_keyBlock, countWrites_keyBlock]
  dsimp only
  rw [rget_rmod, if_pos rfl, rget_rmod, if_pos rfl]

/-! ## SAVE_CFG (R425) -/

/-- A write of SUP_CTRL.SAVE_CFG. -/
theorem saveCfg_taken (windows : List (Nat × Nat × Nat)) (ok : Bool) (h : s.Admits acc Pg.SUP (Reg.SUP_CTRL % 0x400)) :
    s.writeNamed (fun n w old s => s.act (·.saveCfg windows ok) Reg.SUP_CTRL n w 0x20#32 old) acc Reg.SUP_CTRL 0 0x20#32 =
      ((s.written 1 1 0x40 0 Reg.SUP_CTRL supCtrlRow 0x20#32).saveCfg windows ok).releaseIdle :=
  writeNamed_taken (fun n w old s => s.act (·.saveCfg windows ok) Reg.SUP_CTRL n w 0x20#32 old) acc Reg.SUP_CTRL 0 0x20#32 s h (by decide)
    (by decide) supCtrlRow 0 (by decide) (by decide) (by decide) rfl (.inl rfl) (by decide) rfl (by cases s.mode == .run <;> rfl)

/-- The set that SAVE_CFG writes. -/
def savedSet (windows : List (Nat × Nat × Nat)) (y : State) : List Byte :=
  cfgBuild (match cfgNewer y.mem with | some c => cfgSeq y.mem (nvsAddr c) + 1 | none => 1) ((upto pageCount).flatMap (y.savedPage windows))

theorem cfgOlder_lt (m : Mem) : cfgOlder m < 16 := by
  unfold cfgOlder
  split
  · decide
  · decide

theorem sound_mark (r : Nat) (ok : Bool) (u : Nvs) (hr : r < 16) : (u.mark r ok).sound.getLsbD r = ok := by
  cases ok
  · simp [Nvs.mark, hr]
  · simp [Nvs.mark, hr]

variable {y : State} {windows : List (Nat × Nat × Nat)}

/-- SAVE_CFG with a good read-back. -/
theorem saveCfg_good (hd : y.sup.dead = false) :
    (∀ x, (y.saveCfg windows true).mem.byte x =
      (y.mem.store ⟨Pg.NVS, nvsAddr (cfgOlder y.mem), savedSet windows y, false⟩).byte x) ∧
    (y.saveCfg windows true).mode = y.mode ∧ (y.saveCfg windows true).nvs.sound.getLsbD (cfgOlder y.mem) = true := by
  have heq : ∀ z, z = y.commit Fx.none [⟨Pg.NVS, nvsAddr (cfgOlder y.mem), savedSet windows y, false⟩] →
      y.saveCfg windows true = { z with nvs := z.nvs.mark (cfgOlder y.mem) true } := fun z hz => by
    rw [hz]
    unfold State.saveCfg
    rw [if_neg (by rw [hd]; decide)]
    rfl
  obtain ⟨z, hz⟩ : ∃ z, z = y.commit Fx.none [⟨Pg.NVS, nvsAddr (cfgOlder y.mem), savedSet windows y, false⟩] := ⟨_, rfl⟩
  rw [heq z hz]
  refine ⟨fun x => ?_, ?_, sound_mark _ true _ (cfgOlder_lt _)⟩
  · change z.mem.byte x = _
    rw [hz]
    exact bytes_commit Fx.none _ y x
  · change z.mode = _
    rw [hz]
    exact commit_mode _ _ _

/-- A read-back of SAVE_CFG that differs. -/
theorem saveCfg_bad (hd : y.sup.dead = false) :
    (y.saveCfg windows false).errCode Pg.NVS = 0x1160 ∧ (y.saveCfg windows false).nvs.sound.getLsbD (cfgOlder y.mem) = false ∧
      (y.saveCfg windows false).mem = y.mem ∧ (y.saveCfg windows false).mode = y.mode := by
  let r := cfgOlder y.mem
  have heq : y.saveCfg windows false =
      ({ y with nvs := (Nvs.fail r 0 (y.nvs.mark r false)).u } : State).commit (Nvs.fail r 0 (y.nvs.mark r false)).fx [] := by
    unfold State.saveCfg
    rw [if_neg (by rw [hd]; decide)]
    rfl
  have hplain : (Nvs.fail r 0 (y.nvs.mark r false)).fx.Plain := ⟨rfl, rfl, rfl, rfl, rfl⟩
  rw [heq]
  refine ⟨errCode_commit_last (l := []) (c := ⟨Pg.NVS, 0x1160, [wd r, wd 0], false⟩) [] _ rfl (by decide : Pg.NVS ≠ Pg.SNAP) rfl rfl rfl, ?_,
    plain_mem _ hplain _, commit_mode _ _ _⟩
  rw [plain_nvs _ hplain]
  exact sound_mark r false _ (cfgOlder_lt _)

end

/-- Settles O43: the trigger by SNAP_CFG.REG and the holdoff, the boot options by their own write, SAVE_CFG by its read-back. -/
theorem snapshotBootAndSaveCommands : Obligations.SnapshotBootAndSaveCommands := by
  unfold Obligations.SnapshotBootAndSaveCommands
  refine ⟨fun a acc s h hf => ?_, fun a acc v s h => ?_, fun a acc windows ok y data s h hd hy hdata => ?_⟩
  · have hw := written_snapTrig (s.at_ a)
    have hcfg : rfld ((s.at_ a).written 3 3 0x44 0 Reg.SNAP_TRIG snapTrigRow 1#32).snap.regs Reg.SNAP_CFG 5 3 = 0 :=
      (congrArg (bits · 5 3) (hw.reg (by decide))).trans hf
    have hreg : rbit ((s.at_ a).written 3 3 0x44 0 Reg.SNAP_TRIG snapTrigRow 1#32).snap.regs Reg.SNAP_CFG 0 = rbit s.snap.regs Reg.SNAP_CFG 0 :=
      congrArg (bit · 0) (hw.reg (by decide))
    obtain ⟨hoff, hhold, htake, hmem⟩ := trigger_leaves hcfg
    rw [hreg, hw.log, hw.tim, hw.holds] at hhold htake
    rw [hreg] at hoff
    refine ⟨_, congrArg Host.Outcome.next (snapTrig_taken (s := s.at_ a) h), fun hb => ?_, fun hb hh => ?_, fun hb hh => ?_, fun x => ?_⟩
    · have hs := hoff hb
      exact ⟨hs.count.trans hw.count.1, hs.last.trans hw.count.2, (hs.reg _ (by decide)).trans (hw.reg (by decide))⟩
    · have hs := hhold hb hh
      obtain ⟨hc, hl, hr⟩ := refuse_counts ((s.at_ a).written 3 3 0x44 0 Reg.SNAP_TRIG snapTrigRow 1#32).snap
      exact ⟨hs.count.trans (hc.trans hw.count.1), hs.last.trans (hl.trans hw.count.2),
        (hs.reg _ (by decide)).trans (hr.trans (congrArg incW (hw.reg (by decide))))⟩
    · exact snapTrig_takes hw (htake hb hh)
    · rw [hmem, hw.mem]
      rfl
  · obtain ⟨hboot, hmem, hmode, hcount⟩ := bootWrite_nvs v ((s.at_ a).written 1 1 0x54 0 Reg.SUP_BOOT supBootRow v)
    refine ⟨_, congrArg Host.Outcome.next (supBoot_taken (s := s.at_ a) v h), ?_, ?_, ?_, fun x => ?_⟩
    · rw [releaseIdle_nvs, hboot]
    · rw [releaseIdle_nvs, hcount]
      rfl
    · rw [releaseIdle_mode, hmode]
      rfl
    · rw [releaseIdle_mem, hmem]
      rfl
  · have hexec : exec (.saveCfg a acc windows ok) s = .next (y.saveCfg windows ok).releaseIdle := by
      rw [hy]
      exact congrArg Host.Outcome.next (saveCfg_taken (s := s.at_ a) windows ok h)
    have hydead : y.sup.dead = false := by
      rw [hy]
      exact hd
    have hymode : y.mode = s.mode := by
      rw [hy]
      rfl
    have hymem : ∀ x, y.mem.byte x = s.mem.byte x := fun x => by
      rw [hy]
      rfl
    have hset : data = savedSet windows y := hdata
    refine ⟨_, hexec, ?_, ?_, ?_⟩
    · rw [releaseIdle_mode]
      cases ok
      · exact (saveCfg_bad hydead).2.2.2.trans hymode
      · exact (saveCfg_good hydead).2.1.trans hymode
    · rintro rfl
      obtain ⟨hbytes, -, hsound⟩ := saveCfg_good (windows := windows) hydead
      rw [← hset] at hbytes
      refine ⟨fun k hk => ?_, fun x hx => ?_, by rw [releaseIdle_nvs]; exact hsound⟩
      · rw [releaseIdle_mem, hbytes, List.getD_eq_getElem _ _ hk]
        exact byte_store_at (st := ⟨Pg.NVS, nvsAddr (cfgOlder y.mem), data, false⟩) (List.getElem?_eq_getElem hk)
      · rw [releaseIdle_mem, hbytes, byte_store_outside _ _ _ hx, hymem]
    · rintro rfl
      obtain ⟨hcode, hsound, hmem, -⟩ := saveCfg_bad (windows := windows) hydead
      refine ⟨by rw [errCode_releaseIdle (by decide) (by decide), hcode], by rw [releaseIdle_nvs]; exact hsound, fun x => ?_⟩
      rw [releaseIdle_mem, hmem, hymem]

end Sys2Proof.Proofs
end

section
/-! SUPPORT. What the samples and packets that a unit's work delivers leave in the pages (R30, R64, R434): codes of FLT and FQ alone. -/

namespace Sys2Proof.Proofs

open Sys2Proof Sys2Proof.Machine

-- One proof after another: many at once wait for the kernel in threads of their own, which the check's memory limit does not hold.
set_option Elab.async false

/-- Work of an intake: it stores, reads and triggers nothing, and its codes are of one page. -/
structure IntakeOf {U : Type} (page : Nat) (w : W U) : Prop where
  st : w.st = []
  reads : w.fx.reads = []
  triggers : w.fx.triggers = []
  codes : ∀ c ∈ w.fx.codes, c.page = page

section
variable {U : Type} {page : Nat} {w : W U}

theorem IntakeOf.of (u : U) : IntakeOf page (W.of u) := ⟨rfl, rfl, rfl, fun _ h => absurd h List.not_mem_nil⟩

theorem IntakeOf.map (h : IntakeOf page w) (f : U → U) : IntakeOf page (w.map f) := ⟨h.st, h.reads, h.triggers, h.codes⟩

theorem IntakeOf.evt (h : IntakeOf page w) (p f : Nat) : IntakeOf page (w.evt p f) := ⟨h.st, h.reads, h.triggers, h.codes⟩

theorem IntakeOf.code (h : IntakeOf page w) (c : Nat) (l : List Word) : IntakeOf page (w.code page c l) :=
  ⟨h.st, h.reads, h.triggers, fun d hd => by
    obtain hd | hd := List.mem_append.mp hd
    · exact h.codes d hd
    · obtain rfl := List.mem_singleton.mp hd
      rfl⟩

theorem IntakeOf.when (h : IntakeOf page w) (b : Bool) {f : W U → W U} (hf : ∀ v, IntakeOf page v → IntakeOf page (f v)) :
    IntakeOf page (w.when b f) := by
  unfold W.when
  split
  · exact hf w h
  · exact h

end

theorem intake_arriveAt (now : Int) (x : Sample) {w : W Flt} (h : IntakeOf Pg.FLT w) (k : Nat) : IntakeOf Pg.FLT (Flt.arriveAt now x w k) := by
  unfold Flt.arriveAt
  extract_lets sec w1 u st due tau late w2
  have h1 : IntakeOf Pg.FLT w1 := h.map _
  split
  · exact ((h1.map _).evt _ _).code _ _
  · split
    · exact (((h1.map _).map _).evt _ _).code _ _
    · exact (h1.map _).map _

theorem intake_arrive (now : Int) (x : Sample) (u : Flt) : IntakeOf Pg.FLT (Flt.arrive now x (W.of u)) :=
  foldl_keeps (IntakeOf Pg.FLT) _ (fun _ k hw => intake_arriveAt now x hw k) _ _ (.of u)

/-- The codes of a commit in progress, followed by codes of FLT alone, with no trigger. -/
def CodesThen (codes : List Code) (x : State × Fx) : Prop :=
  x.2.triggers = [] ∧ ∃ more, x.2.codes = codes ++ more ∧ ∀ c ∈ more, c.page = Pg.FLT

theorem codesThen_absorb {U : Type} {w : W U} (hw : IntakeOf Pg.FLT w) (put : U → State → State)
    {codes : List Code} {x : State × Fx} (h : CodesThen codes x) : CodesThen codes (State.absorb put w x) := by
  obtain ⟨ht, more, hc, hmore⟩ := h
  have habsorb : (State.absorb put w x).2 = x.2.app { w.fx with reads := [], heals := [], codes := w.fx.codes } := by
    unfold State.absorb
    rw [hw.st, hw.reads]
    rfl
  unfold CodesThen
  rw [habsorb]
  refine ⟨?_, more ++ w.fx.codes, ?_, fun c hcm => ?_⟩
  · change x.2.triggers ++ w.fx.triggers = []
    rw [ht, hw.triggers]
    rfl
  · change x.2.codes ++ w.fx.codes = _
    rw [hc, List.append_assoc]
  · obtain hcm | hcm := List.mem_append.mp hcm
    · exact hmore c hcm
    · exact hw.codes c hcm

theorem codesThen_takeSample {codes : List Code} {x : State × Fx} (h : CodesThen codes x) (p : Sample) :
    CodesThen codes (State.takeSample x p) := by
  unfold State.takeSample
  dsimp only
  split
  · exact codesThen_absorb (intake_arrive _ _ _) _ (x := (_, x.2)) h
  · exact h

/-- Work without packets and event triggers is plain work on what its stores, reads and samples leave, with their codes around its own. -/
theorem commit_delivers {fx : Fx} (hp : fx.pushes = []) (ht : fx.triggers = []) (st : List Store) (s : State) :
    ∃ (z : State) (pre more : List Code) (evts : List (Nat × Nat)) (snaps : List Nat) (emits : List Emit),
      s.commit fx st = z.commit { Fx.none with codes := pre ++ fx.codes ++ more, evts, snaps, emits } [] ∧
      ∀ c ∈ more, c.page = Pg.FLT := by
  let y := s.storeAll st
  let z := y.1.readBlocks fx.reads
  let x0 := State.absorb (fun (u : State) _ => u) ⟨s, fx, st⟩ (s, Fx.none)
  have h0 : CodesThen (y.2 ++ z.2 ++ fx.codes) x0 := ⟨ht, [], (List.append_nil _).symm, fun _ h => absurd h List.not_mem_nil⟩
  let x := fx.samples.foldl State.takeSample x0
  obtain ⟨htrig, more, hc, hmore⟩ : CodesThen (y.2 ++ z.2 ++ fx.codes) x :=
    foldl_keeps (CodesThen _) _ (fun _ p hx => codesThen_takeSample hx p) _ _ h0
  refine ⟨x.1, y.2 ++ z.2, more, x.2.evts, x.2.snaps, x.2.emits, ?_, hmore⟩
  rw [commit_reports hp rfl htrig, commit_plain ⟨rfl, rfl, rfl, rfl, rfl⟩]
  change State.reports x = _
  unfold State.reports
  rw [hc]

/-- A code put among others leaves those of another page. -/
theorem filter_insertCode {c : Code} {q : Nat} (h : c.page ≠ q) (l : List Code) :
    (insertCode c l).filter (fun d => d.page == q) = l.filter (fun d => d.page == q) := by
  have hc : ¬ (c.page == q) = true := by rw [beq_iff_eq]; exact h
  induction l with
  | nil => exact List.filter_cons_of_neg hc
  | cons d l ih =>
    unfold insertCode
    split
    · exact List.filter_cons_of_neg hc
    · rw [List.filter_cons, List.filter_cons, ih]

theorem filter_sortCodes_append {more : List Code} {q : Nat} (h : ∀ c ∈ more, c.page ≠ q) (l : List Code) :
    (sortCodes (l ++ more)).filter (fun d => d.page == q) = (sortCodes l).filter (fun d => d.page == q) := by
  unfold sortCodes
  rw [List.foldl_append]
  exact foldl_keeps_mem (fun a : List Code => a.filter (fun d => d.page == q) =
    (l.foldl (fun a c => insertCode c a) []).filter (fun d => d.page == q)) _ _
    (fun a c hc ha => (filter_insertCode (h c hc) a).trans ha) _ rfl

/-- PAGE_ERR.CODE of a page after work whose last code is of that page, whatever its reads, stores and samples record. -/
theorem errCode_commit_delivers {fx : Fx} (st : List Store) (s : State) {l : List Code} {c : Code} (hc : fx.codes = l ++ [c])
    (hs : c.page ≠ Pg.SNAP) (hf : c.page ≠ Pg.FLT) (hp : fx.pushes = []) (ht : fx.triggers = []) :
    (s.commit fx st).errCode c.page = c.code % 0x10000 := by
  obtain ⟨z, pre, more, evts, snaps, emits, hz, hmore⟩ := commit_delivers hp ht st s
  rw [hz]
  refine errCode_commit _ _ c.page c hs rfl rfl rfl rfl ?_
  dsimp only
  rw [filter_sortCodes_append (fun d hd => by rw [hmore d hd]; exact hf.symm), hc, ← List.append_assoc, sortCodes, List.foldl_append]
  exact last_insertCode c (sorted_sortCodes _)

end Sys2Proof.Proofs
end

section
/-! SUPPORT. The work of a position channel (R352–R357, R360). -/

namespace Sys2Proof.Proofs

open Sys2Proof Sys2Proof.Machine

-- One proof after another: many at once wait for the kernel in threads of their own, which the check's memory limit does not hold.
set_option Elab.async false

/-! ## Cells and channels -/

section
variable {r n : Nat} {u : Pos}

theorem get_mod (f : Word → Word) : rget (u.mod r n f).regs (rk r n 0) = f (rget u.regs (rk r n 0)) := (rget_rmod ..).trans (if_pos rfl)

theorem get_mod_ne (f : Word → Word) {k : Nat} (h : k ≠ rk r n 0) : rget (u.mod r n f).regs k = rget u.regs k := rget_rmod_ne _ _ h

/-- Another register of the same channel. -/
theorem get_mod_other (f : Word → Word) {q : Nat} (h : q % 0x400 ≠ r % 0x400) : rget (u.mod r n f).regs (rk q n 0) = rget u.regs (rk q n 0) :=
  get_mod_ne f (rk_ne 0 h)

theorem chan_put (x : PosChan) : (u.putChan n x).chan n = x := sget_sset_self ..

theorem chan_mod (f : Word → Word) (m : Nat) : (u.mod r n f).chan m = u.chan m := rfl

theorem chan_stat (i : Nat) (b : Bool) (m : Nat) : (u.stat n i b).chan m = u.chan m := rfl

theorem chan_put64 (rl rh : Nat) (v : Int) (m : Nat) : (u.put64 rl rh n v).chan m = u.chan m := rfl

theorem regs_put (x : PosChan) : (u.putChan n x).regs = u.regs := rfl

theorem chan_put_ne (x : PosChan) {m : Nat} (h : m ≠ n) : (u.putChan n x).chan m = u.chan m := sget_sset_ne _ _ _ h

end

/-! ## Requests (R352, R353, R355) -/

section
variable {n : Nat} {u : Pos}

/-- What a refused request leaves. -/
structure Refused (n : Nat) (u : Pos) (w : W Pos) : Prop where
  frame : (w.u.chan n).frame = (u.chan n).frame
  count : rget w.u.regs (rk Reg.POS_SSI_ERR n 0) = incSatField (rget u.regs (rk Reg.POS_SSI_ERR n 0)) 31 16
  other : ∀ m, m ≠ n → w.u.chan m = u.chan m
  st : w.st = []
  quiet : w.Quiet
  code : (u.chan n).refused = false → w.fx.codes = [⟨Pg.POS + n, 0x1121, [], false⟩]

/-- The channel after a refused request. -/
def refusedChan (n : Nat) (u : Pos) : Pos :=
  (u.mod Reg.POS_SSI_ERR n (fun e => incSatField e 31 16)).putChan n { u.chan n with refused := true, failed := true }

theorem refuse_eq (n : Nat) (u : Pos) :
    u.refuse n = (W.of (refusedChan n u)).when (!(u.chan n).refused) (·.code (Pg.POS + n) 0x1121 []) := rfl

theorem refuse_refused (n : Nat) (u : Pos) : Refused n u (u.refuse n) := by
  have hu : (u.refuse n).u = refusedChan n u := by
    rw [refuse_eq]
    exact u_when (g := id) (f := fun w => w.code (Pg.POS + n) 0x1121 []) (fun _ => rfl) _ _
  refine ⟨?_, ?_, fun m hm => ?_, ?_, ?_, fun hr => ?_⟩
  · rw [hu, refusedChan, chan_put]
  · rw [hu, refusedChan, regs_put, get_mod]
  · rw [hu, refusedChan, chan_put_ne _ hm, chan_mod]
  · exact st_when _ _ _ fun _ => rfl
  · exact (quiet_of (refusedChan n u)).when fun _ hv => hv.code _ _ _
  · rw [refuse_eq, hr]
    rfl

theorem Refused.of_stat {b : Bool} {w : W Pos} (h : Refused n (u.stat n 4 b) w) : Refused n u w :=
  ⟨h.frame, h.count.trans (congrArg (incSatField · 31 16) (get_mod_other _ (by decide))), h.other, h.st, h.quiet, h.code⟩

variable {m : Mode} {now : Nat} {t : Int} {line : Bool}

theorem request_taken (hm : u.mode n = 1) (ha : posActive m = true) (hb : (u.chan n).busy now = false) :
    u.request m now t n true = W.of ((u.stat n 4 false).putChan n { u.chan n with frame := some t, recover := none, refused := false }) := by
  unfold Pos.request
  rw [if_pos ⟨hm, ha⟩]
  dsimp only
  rw [hb]
  rfl

theorem request_refused (hm : u.mode n = 1) (ha : posActive m = true) (hb : (u.chan n).busy now = true ∨ line = false) :
    Refused n u (u.request m now t n line) := by
  unfold Pos.request
  rw [if_pos ⟨hm, ha⟩]
  dsimp only
  split
  · exact refuse_refused n u
  · have hl : line = false := hb.resolve_left ‹_›
    rw [hl, if_neg (by decide)]
    exact (refuse_refused n _).of_stat

/-- Of the other channels a request leaves all, and it stores and delivers nothing. -/
theorem request_quiet : (u.request m now t n line).Quiet ∧ (u.request m now t n line).st = [] ∧
    ∀ k, k ≠ n → (u.request m now t n line).u.chan k = u.chan k := by
  unfold Pos.request
  split
  · dsimp only
    split
    · exact ⟨(refuse_refused n u).quiet, (refuse_refused n u).st, (refuse_refused n u).other⟩
    · split
      · exact ⟨quiet_of _, rfl, fun k hk => chan_put_ne _ hk⟩
      · have h := (refuse_refused n (u.stat n 4 (!line))).of_stat
        exact ⟨h.quiet, h.st, h.other⟩
  · exact ⟨quiet_of _, rfl, fun _ _ => rfl⟩

/-- What a request leaves of its channel's frame. -/
theorem request_frame (hm : u.mode n = 1) (ha : posActive m = true) :
    let w := u.request m now t n line
    ((u.chan n).busy now = false → line = true → (w.u.chan n).frame = some t ∧ rbit w.u.regs (rk Reg.POS_STAT n 0) 4 = false) ∧
      ((u.chan n).busy now = true ∨ line = false → Refused n u w) := by
  refine ⟨fun hb hl => ?_, request_refused hm ha⟩
  rw [hl, request_taken hm ha hb]
  refine ⟨by rw [u_of, chan_put], ?_⟩
  exact (rbit_putBit u.regs (rk Reg.POS_STAT n 0) 4 false (by decide)).trans (if_pos rfl)

end

/-! ## The end of a frame (R353–R355) -/

section
variable {n word now : Nat} {f : Int} {high : Bool} {u : Pos}

/-- What a good frame leaves. -/
structure GoodFrame (n word : Nat) (f : Int) (u : Pos) (w : W Pos) : Prop where
  frame : (w.u.chan n).frame = none
  raw : rget w.u.regs (rk Reg.POS_SSI_RAW n 0) = wd word
  position : rget w.u.regs (rk Reg.POS_SSI_POS n 0) = wd (u.position n word)
  low : rget w.u.regs (rk Reg.POS_TS_L n 0) = lo32 f
  high : rget w.u.regs (rk Reg.POS_TS_H n 0) = hi32 f
  ok : rbit w.u.regs (rk Reg.POS_STAT n 0) 3 = false
  st : w.st = []
  pushes : w.fx.pushes = []
  triggers : w.fx.triggers = []
  code : (u.chan n).failed = true → w.fx.codes = [⟨Pg.POS + n, 0x0122, [], false⟩]

/-- What a bad frame leaves. -/
structure BadFrame (n : Nat) (u : Pos) (w : W Pos) : Prop where
  frame : (w.u.chan n).frame = none
  position : rget w.u.regs (rk Reg.POS_SSI_POS n 0) = rget u.regs (rk Reg.POS_SSI_POS n 0)
  count : rget w.u.regs (rk Reg.POS_SSI_ERR n 0) = incSatField (rget u.regs (rk Reg.POS_SSI_ERR n 0)) 15 0
  failed : rbit w.u.regs (rk Reg.POS_STAT n 0) 3 = true
  st : w.st = []
  quiet : w.Quiet
  plain : w.fx.Plain
  code : rbit u.regs (rk Reg.POS_STAT n 0) 3 = false → w.fx.codes = [⟨Pg.POS + n, 0x2120, [], false⟩]

/-- The status bits of a frame's end. -/
theorem stat_set (u : Pos) (n i : Nat) (b : Bool) {j : Nat} (hj : j < 32) :
    rbit (u.stat n i b).regs (rk Reg.POS_STAT n 0) j = if j = i then b else rbit u.regs (rk Reg.POS_STAT n 0) j :=
  rbit_putBit u.regs (rk Reg.POS_STAT n 0) i b hj

/-- The channel of a frame that ends, its result noted. -/
def frameClosed (n now : Nat) (failed : Bool) (u : Pos) : Pos :=
  u.putChan n { u.chan n with frame := none, recover := some (now + 1000 * bits (u.reg Reg.POS_SSI_FMT n) 31 16), failed := failed }

/-- The channel after a bad frame. -/
def frameFailed (n now : Nat) (enc : Bool) (u : Pos) : Pos :=
  (((frameClosed n now true u).mod Reg.POS_SSI_ERR n (fun e => incSatField e 15 0)).stat n 3 true).stat n 5 enc

/-- The channel after a good frame. -/
def frameTaken (n now word : Nat) (f : Int) (u : Pos) : Pos :=
  (((((frameClosed n now false u).mod Reg.POS_SSI_RAW n (fun _ => wd word)).mod Reg.POS_SSI_POS n
    (fun _ => wd (u.position n word))).put64 Reg.POS_TS_L Reg.POS_TS_H n f).stat n 3 false).stat n 5 false

theorem frameEnd_high (hf : (u.chan n).frame = some f) : u.frameEnd now n word true =
    ((W.of (frameFailed n now false u)).evt (Pg.POS + n) 1).when (!rbit u.regs (rk Reg.POS_STAT n 0) 3) (·.code (Pg.POS + n) 0x2120 []) := by
  unfold Pos.frameEnd
  dsimp only
  rw [hf]
  rfl

theorem frameEnd_bad (hf : (u.chan n).frame = some f) : BadFrame n u (u.frameEnd now n word true) := by
  rw [frameEnd_high hf]
  have hu : (((W.of (frameFailed n now false u)).evt (Pg.POS + n) 1).when (!rbit u.regs (rk Reg.POS_STAT n 0) 3)
      (·.code (Pg.POS + n) 0x2120 [])).u = frameFailed n now false u :=
    u_when (g := id) (f := fun w => w.code (Pg.POS + n) 0x2120 []) (fun _ => rfl) _ _
  refine ⟨?_, ?_, ?_, ?_, ?_, ?_, ?_, fun hs => ?_⟩
  · rw [hu, frameFailed, chan_stat, chan_stat, chan_mod, frameClosed, chan_put]
  · rw [hu, frameFailed, Pos.stat, Pos.stat, get_mod_other _ (by decide), get_mod_other _ (by decide), get_mod_other _ (by decide),
      frameClosed, regs_put]
  · rw [hu, frameFailed, Pos.stat, Pos.stat, get_mod_other _ (by decide), get_mod_other _ (by decide), get_mod, frameClosed, regs_put]
  · rw [hu, frameFailed, stat_set _ _ _ _ (by decide), if_neg (by decide), stat_set _ _ _ _ (by decide), if_pos rfl]
  · exact st_when _ _ _ fun _ => rfl
  · exact ((quiet_of _).evt _ _).when fun _ hv => hv.code _ _ _
  · unfold W.when
    split
    · exact ⟨rfl, rfl, rfl, rfl, rfl⟩
    · exact ⟨rfl, rfl, rfl, rfl, rfl⟩
  · rw [hs]
    rfl

theorem frameEnd_low (hf : (u.chan n).frame = some f) (hw1 : word < 2 ^ rfld u.regs (rk Reg.POS_SSI n 0) 21 16) (hw2 : word < 4294967296)
    (he : rbit u.regs (rk Reg.POS_SSI_FMT n 0) 8 = false) : u.frameEnd now n word false =
      ((W.of (frameTaken n now word f u)).when (u.chan n).failed (·.code (Pg.POS + n) 0x0122 [])).sample
        ⟨0x60 + n, 0, f, sw (wd (u.position n word))⟩ := by
  have hword : word % 2 ^ bits (u.reg Reg.POS_SSI n) 21 16 % 4294967296 = word := by
    rw [Nat.mod_eq_of_lt (show word < 2 ^ bits (u.reg Reg.POS_SSI n) 21 16 from hw1), Nat.mod_eq_of_lt hw2]
  have he' : bit (u.reg Reg.POS_SSI_FMT n) 8 = false := he
  unfold Pos.frameEnd
  dsimp only
  rw [hf]
  dsimp only
  rw [hword, he']
  rfl

/-- A pair of cells that hold a time. -/
theorem get_put64 (rl rh : Nat) (v : Int) (k : Nat) : rget (u.put64 rl rh n v).regs k =
    if k = rk rh n 0 then hi32 v else if k = rk rl n 0 then lo32 v else rget u.regs k := by
  unfold Pos.put64 rset64
  rw [rget_rset, rget_rset]
  rfl

theorem frameEnd_good (hf : (u.chan n).frame = some f) (hw1 : word < 2 ^ rfld u.regs (rk Reg.POS_SSI n 0) 21 16) (hw2 : word < 4294967296)
    (he : rbit u.regs (rk Reg.POS_SSI_FMT n 0) 8 = false) : GoodFrame n word f u (u.frameEnd now n word false) := by
  rw [frameEnd_low hf hw1 hw2 he]
  let w := (W.of (frameTaken n now word f u)).when (u.chan n).failed (·.code (Pg.POS + n) 0x0122 [])
  have hu : (w.sample ⟨0x60 + n, 0, f, sw (wd (u.position n word))⟩).u = frameTaken n now word f u :=
    u_when (g := id) (f := fun w => w.code (Pg.POS + n) 0x0122 []) (fun _ => rfl) _ _
  have hne : ∀ {q r : Nat}, q % 0x400 ≠ r % 0x400 → rk q n 0 ≠ rk r n 0 := fun h => rk_ne 0 h
  have hst : w.st = [] := st_when _ _ _ fun _ => rfl
  have hquiet : w.Quiet := (quiet_of _).when fun _ hv => hv.code _ _ _
  refine ⟨?_, ?_, ?_, ?_, ?_, ?_, hst, hquiet.2.1, hquiet.2.2, fun hfail => ?_⟩
  · rw [hu, frameTaken, chan_stat, chan_stat, chan_put64, chan_mod, chan_mod, frameClosed, chan_put]
  · rw [hu, frameTaken, Pos.stat, Pos.stat, get_mod_other _ (by decide), get_mod_other _ (by decide), get_put64, if_neg (hne (by decide)),
      if_neg (hne (by decide)), get_mod_other _ (by decide), get_mod]
  · rw [hu, frameTaken, Pos.stat, Pos.stat, get_mod_other _ (by decide), get_mod_other _ (by decide), get_put64, if_neg (hne (by decide)),
      if_neg (hne (by decide)), get_mod]
  · rw [hu, frameTaken, Pos.stat, Pos.stat, get_mod_other _ (by decide), get_mod_other _ (by decide), get_put64, if_neg (hne (by decide)),
      if_pos rfl]
  · rw [hu, frameTaken, Pos.stat, Pos.stat, get_mod_other _ (by decide), get_mod_other _ (by decide), get_put64, if_pos rfl]
  · rw [hu, frameTaken, stat_set _ _ _ _ (by decide), if_neg (by decide), stat_set _ _ _ _ (by decide), if_pos rfl]
  · have hcodes : w.fx.codes = [⟨Pg.POS + n, 0x0122, [], false⟩] := by
      change ((W.of (frameTaken n now word f u)).when (u.chan n).failed (·.code (Pg.POS + n) 0x0122 [])).fx.codes = _
      rw [hfail]
      rfl
    exact hcodes

end

end Sys2Proof.Proofs
end

section
/-! SUPPORT. A sample of a position channel's lines, presets and the compare unit (R356, R357, R360–R362). -/

namespace Sys2Proof.Proofs

open Sys2Proof Sys2Proof.Machine

-- One proof after another: many at once wait for the kernel in threads of their own, which the check's memory limit does not hold.
set_option Elab.async false

section
variable {n : Nat} {u : Pos}

/-! ## An accepted edge (R356, R357, R360, R362) -/

/-- What the compare unit and the divider leave of a channel: its count, the state of its lines, the time of its last edge. -/
structure EdgeKept (n : Nat) (u v : Pos) : Prop where
  count : rget v.regs (rk Reg.POS_COUNT n 0) = rget u.regs (rk Reg.POS_COUNT n 0)
  ref : (v.chan n).ref = (u.chan n).ref
  edgeAt : (v.chan n).edgeAt = (u.chan n).edgeAt

theorem edgeKept_compare (t : Int) (up : Bool) (w : W Pos) :
    EdgeKept n w.u (Pos.compare n t up w).u ∧ (Pos.compare n t up w).st = w.st := by
  unfold Pos.compare
  extract_lets u cfg dir allowed v v2 w2
  split
  case isFalse => exact ⟨⟨rfl, rfl, rfl⟩, rfl⟩
  case isTrue =>
    have hu : (w2.when (bit cfg 3) (·.sample ⟨0x60 + n, 3, t, sw (v2.reg Reg.POS_CMP n)⟩)).u = v2 :=
      u_when (g := id) (f := fun w => w.sample ⟨0x60 + n, 3, t, sw (v2.reg Reg.POS_CMP n)⟩) (fun _ => rfl) _ _
    have hv2 : v2 = _ := rfl
    have hv : v = _ := rfl
    rw [hu]
    refine ⟨⟨?_, rfl, rfl⟩, st_when _ _ _ fun _ => rfl⟩
    rw [hv2, get_put64, if_neg (rk_ne 0 (by decide)), if_neg (rk_ne 0 (by decide)), hv, get_mod_other _ (by decide)]

theorem edgeKept_divide (up : Bool) (u : Pos) : EdgeKept n u (u.divide n up).1 := by
  have hput : ∀ a : Int, EdgeKept n u (u.putChan n { u.chan n with acc := a }) := fun a =>
    ⟨rfl, by rw [chan_put], by rw [chan_put]⟩
  have hpulse : ∀ (a : Int) (f : Word → Word), EdgeKept n u ((u.putChan n { u.chan n with acc := a }).mod Reg.POS_DIV_CNT n f) := fun a f =>
    ⟨(get_mod_other f (by decide)).trans (hput a).count, (hput a).ref, (hput a).edgeAt⟩
  unfold Pos.divide
  dsimp only
  split
  · exact ⟨rfl, rfl, rfl⟩
  split
  · exact hput _
  split
  · exact hpulse _ _
  · exact hput _

/-- Whether an edge counts up (R357). -/
def countsUp (n : Nat) (new : BitVec 2) (u : Pos) : Bool := aLeads (u.chan n).ref new != rbit u.regs (rk Reg.POS_CFG n 0) 3

/-- The count moved by one edge without a modulus (R357). -/
theorem move_free (up : Bool) (h : rget u.regs (rk Reg.POS_MOD n 0) = 0#32) :
    u.move n up = u.mod Reg.POS_COUNT n (fun x => if up then x + 1#32 else x - 1#32) :=
  if_pos (congrArg BitVec.toNat h)

theorem edge_accepted {now : Nat} {t : Int} {new : BitVec 2} (hmod : rget u.regs (rk Reg.POS_MOD n 0) = 0#32) :
    let w := (Pos.edge now t n new u).1
    rget w.u.regs (rk Reg.POS_COUNT n 0) =
        (if countsUp n new u then rget u.regs (rk Reg.POS_COUNT n 0) + 1#32 else rget u.regs (rk Reg.POS_COUNT n 0) - 1#32) ∧
      (w.u.chan n).ref = new ∧ (w.u.chan n).edgeAt = some now ∧ w.st = [] := by
  unfold Pos.edge
  extract_lets x up x' v w d
  have hmod' : rget ((((u.putChan n x').stat n 0 up).put64 Reg.POS_TS_L Reg.POS_TS_H n t)).regs (rk Reg.POS_MOD n 0) = 0#32 := by
    rw [get_put64, if_neg (rk_ne 0 (by decide)), if_neg (rk_ne 0 (by decide)), Pos.stat, get_mod_other _ (by decide), regs_put, hmod]
  have hv : v = _ := move_free up hmod'
  obtain ⟨hcomp, hst⟩ := edgeKept_compare (n := n) t up (W.of v)
  have hdiv := edgeKept_divide (n := n) up w.u
  have hcount : rget v.regs (rk Reg.POS_COUNT n 0) =
      if up then rget u.regs (rk Reg.POS_COUNT n 0) + 1#32 else rget u.regs (rk Reg.POS_COUNT n 0) - 1#32 := by
    rw [hv, get_mod, get_put64, if_neg (rk_ne 0 (by decide)), if_neg (rk_ne 0 (by decide)), Pos.stat, get_mod_other _ (by decide), regs_put]
  have hchan : v.chan n = x' := by
    rw [hv, chan_mod, chan_put64, chan_stat, chan_put]
  refine ⟨hdiv.count.trans (hcomp.count.trans hcount), hdiv.ref.trans (hcomp.ref.trans (congrArg PosChan.ref hchan)),
    hdiv.edgeAt.trans (hcomp.edgeAt.trans (congrArg PosChan.edgeAt hchan)), hst⟩

theorem st_edge (now : Nat) (t : Int) (new : BitVec 2) : (Pos.edge now t n new u).1.st = [] := by
  unfold Pos.edge
  exact (edgeKept_compare (n := n) t _ (W.of _)).2

/-! ## A sample (R356) -/

/-- The state of the lines in a sample. -/
def linesOf (a b : Bool) : BitVec 2 := BitVec.ofNat 2 (b2n a + 2 * b2n b)

/-- Whether the last accepted edge is too recent for another. -/
def tooSoon (n now : Nat) (u : Pos) : Bool :=
  match (u.chan n).edgeAt with | some t0 => decide (samplesBetween now t0 < u.minSamples n) | none => false

variable {m : Mode} {now : Nat} {t : Int} {a b : Bool}

theorem st_posSample : (u.sample m now t n a b).1.st = [] := by
  unfold Pos.sample
  split
  · dsimp only
    split
    · rfl
    split
    · exact st_when _ _ _ fun _ => rfl
    · have hsoon : ∀ c : Bool, (if c = true then
          (if (u.chan n).fast &&& ((u.chan n).ref ^^^ linesOf a b) != 0#2 then (W.of u, false)
          else (((W.of ((u.putChan n { u.chan n with fast := (u.chan n).ref ^^^ linesOf a b, fastRun := true }).mod Reg.POS_FAULT n
            (fun f => incSatField f 15 0))).evt (Pg.POS + n) 0).when (!(u.chan n).fastRun) (·.code (Pg.POS + n) 0x1110 []), false))
          else Pos.edge now t n (linesOf a b) u).1.st = [] := fun c => by
        split
        · split
          · rfl
          · exact st_when _ _ _ fun _ => rfl
        · exact st_edge _ _ _
      exact hsoon _
  · rfl

variable (hm : u.mode n = 2) (ha : posActive m = true)
include hm ha

theorem sample_same (h : (u.chan n).ref = linesOf a b) :
    u.sample m now t n a b = (W.of (u.putChan n { u.chan n with fast := 0 }), false) := by
  have hd : (u.chan n).ref ^^^ BitVec.ofNat 2 (b2n a + 2 * b2n b) = 0#2 := by
    rw [h]
    exact BitVec.xor_self
  unfold Pos.sample
  rw [if_pos ⟨hm, ha⟩]
  exact if_pos hd

theorem sample_double (h : (u.chan n).ref ^^^ linesOf a b = 3#2) :
    u.sample m now t n a b = (((W.of ((u.putChan n { u.chan n with ref := linesOf a b, fast := 0, skip := true, dblRun := true }).mod
      Reg.POS_FAULT n (fun f => incSatField f 31 16))).evt (Pg.POS + n) 0).when (!(u.chan n).dblRun) (·.code (Pg.POS + n) 0x1111 []), false) := by
  have h' : (u.chan n).ref ^^^ BitVec.ofNat 2 (b2n a + 2 * b2n b) = 3#2 := h
  unfold Pos.sample
  rw [if_pos ⟨hm, ha⟩]
  dsimp only
  rw [if_neg (by rw [h']; decide), if_pos h']
  rfl

/-- A change of one line. -/
def OneLine (d : BitVec 2) : Prop := d = 1#2 ∨ d = 2#2

theorem sample_edge (h : OneLine ((u.chan n).ref ^^^ linesOf a b)) (hs : tooSoon n now u = false) :
    u.sample m now t n a b = Pos.edge now t n (linesOf a b) u := by
  have h0 : (u.chan n).ref ^^^ BitVec.ofNat 2 (b2n a + 2 * b2n b) ≠ 0#2 ∧ (u.chan n).ref ^^^ BitVec.ofNat 2 (b2n a + 2 * b2n b) ≠ 3#2 := by
    have h' : OneLine ((u.chan n).ref ^^^ BitVec.ofNat 2 (b2n a + 2 * b2n b)) := h
    obtain h' | h' := h' <;> rw [h'] <;> decide
  unfold Pos.sample
  rw [if_pos ⟨hm, ha⟩]
  dsimp only
  rw [if_neg h0.1, if_neg h0.2]
  exact if_neg (fun he => absurd (hs.symm.trans he) (by decide))

theorem sample_fast (h : OneLine ((u.chan n).ref ^^^ linesOf a b)) (hs : tooSoon n now u = true) (hf : (u.chan n).fast = 0#2) :
    u.sample m now t n a b = (((W.of ((u.putChan n { u.chan n with fast := (u.chan n).ref ^^^ linesOf a b, fastRun := true }).mod
      Reg.POS_FAULT n (fun f => incSatField f 15 0))).evt (Pg.POS + n) 0).when (!(u.chan n).fastRun) (·.code (Pg.POS + n) 0x1110 []), false) := by
  have h0 : (u.chan n).ref ^^^ BitVec.ofNat 2 (b2n a + 2 * b2n b) ≠ 0#2 ∧ (u.chan n).ref ^^^ BitVec.ofNat 2 (b2n a + 2 * b2n b) ≠ 3#2 := by
    have h' : OneLine ((u.chan n).ref ^^^ BitVec.ofNat 2 (b2n a + 2 * b2n b)) := h
    obtain h' | h' := h' <;> rw [h'] <;> decide
  unfold Pos.sample
  rw [if_pos ⟨hm, ha⟩]
  dsimp only
  rw [if_neg h0.1, if_neg h0.2]
  refine (if_pos hs).trans ?_
  rw [hf, BitVec.zero_and]
  rfl

end

end Sys2Proof.Proofs
end

section
/-! The position channels' commands, settled (R352–R357, R360, R449). -/

namespace Sys2Proof.Proofs

open Sys2Proof Sys2Proof.Machine

-- One proof after another: many at once wait for the kernel in threads of their own, which the check's memory limit does not hold.
set_option Elab.async false

/-! ## The channels' work in the state -/

theorem bytes_onPos {s : State} {f : Pos → W Pos} (h : (f s.pos).st = []) (x : Nat) : (s.onPos f).mem.byte x = s.mem.byte x :=
  (byte_onPos f s x).trans (by rw [h]; rfl)

theorem posPage (n : Fin 24) : Pg.POS + n.val ≠ Pg.SNAP ∧ Pg.POS + n.val ≠ Pg.FLT := by
  have h1 : Pg.POS = 62 := rfl
  have h2 : Pg.SNAP = 3 := rfl
  have h3 : Pg.FLT = 26 := rfl
  omega

/-- The one code of a channel's work shows in its page. -/
theorem errCode_channel {s : State} {f : Pos → W Pos} {page code : Nat} (hp : page ≠ Pg.SNAP ∧ page ≠ Pg.FLT)
    (hc : (f s.pos).fx.codes = [⟨page, code, [], false⟩]) (hpush : (f s.pos).fx.pushes = []) (ht : (f s.pos).fx.triggers = []) :
    (s.onPos f).errCode page = code % 0x10000 :=
  errCode_commit_delivers (l := []) (c := ⟨page, code, [], false⟩) (f s.pos).st { s with pos := (f s.pos).u } hc hp.1 hp.2 hpush ht

/-- Codes of a channel come to its own page, which is neither SNAP's nor FLT's. -/
theorem unitPage {x : Span} (h1 : 0x60 ≤ x.unit) (h2 : x.unit ≤ 0x77) :
    Pg.POS + (x.unit - 0x60) ≠ Pg.SNAP ∧ Pg.POS + (x.unit - 0x60) ≠ Pg.FLT := posPage ⟨x.unit - 0x60, by omega⟩

/-! ## REQUEST (R352) -/

/-- The START of a REQUEST: the channel's request, and a run complete at once. -/
theorem request_runs {a : At} {idx : Nat} {line : Bool} {x : Span} {s : State} (h : (s.at_ a).Starts idx x) (h1 : 0x60 ≤ x.unit)
    (h2 : x.unit ≤ 0x77) (ho : x.opcode = 1) (hw : s.works (Pg.POS + (x.unit - 0x60)) = true) :
    exec (.request a idx line) s = .next { ((s.at_ a).begun idx).onPos
        (Pos.request (s.at_ a).mode (s.at_ a).now (s.at_ a).tim.time (x.unit - 0x60) line) with
      seq := s.seq.started idx x true (some (s.at_ a).tick) } := by
  have hok : ((decide (0x60 ≤ x.unit) && decide (x.unit ≤ 0x77)) && x.opcode == 1) = true := by
    rw [decide_eq_true h1, decide_eq_true h2, ho]
    rfl
  have hwork : ((s.at_ a).begun idx).posDoes (x.unit - 0x60) (fun s u => u.request s.mode s.now s.tim.time (x.unit - 0x60) line) =
      ((s.at_ a).begun idx).onPos (Pos.request (s.at_ a).mode (s.at_ a).now (s.at_ a).tim.time (x.unit - 0x60) line) := if_pos hw
  refine congrArg Host.Outcome.next ((startSpan_taken h (fun x => (decide (0x60 ≤ x.unit) && decide (x.unit ≤ 0x77)) && x.opcode == 1) hok
    true (State.requestWork line)).trans ?_)
  unfold State.requestWork
  dsimp only
  rw [hwork]
  have htick : (((s.at_ a).begun idx).onPos (Pos.request (s.at_ a).mode (s.at_ a).now (s.at_ a).tim.time (x.unit - 0x60) line)).tick =
      (s.at_ a).tick := by
    unfold State.tick
    rw [onPos_seq, onPos_tim]
    rfl
  rw [onPos_seq, htick]
  rfl

/-! ## Written registers -/

/-- The register rows of POS_REQ, POS_COUNT, POS_CMP and POS_CMP_CFG. -/
def posReqRow : RegRow := ⟨0x80, 0, 0, 0, 0, 0, 1, 0, 1⟩
/-- The register row of POS_COUNT. -/
def posCountRow : RegRow := ⟨0x5C, 0, 0xFFFFFFFF, 0, 0, 0, 0, 0, 1⟩
/-- The register row of POS_CMP. -/
def posCmpRow : RegRow := ⟨0x84, 0, 0xFFFFFFFF, 0, 0, 0, 0, 0, 1⟩
/-- The register row of POS_CMP_CFG. -/
def posCmpCfgRow : RegRow := ⟨0x88, 0, 0xF, 0, 0, 0, 0, 0, 1⟩

section
variable {acc : Accessor} {s : State} {n : Fin 24}

/-- The pages of the position channels. -/
theorem setCells_pos (n : Fin 24) (s : State) (m : RMap) : s.setCells (Pg.POS + n.val) m = { s with pos := { s.pos with regs := m } } := by
  have hp : Pg.POS = 62 := rfl
  unfold State.setCells
  simp only [Pg.PWR, Pg.SNAP, Pg.SEQ, Pg.TIM, Pg.NVS, Pg.REC, Pg.SFO, Pg.FQ, Pg.CHN, Pg.PRP, Pg.PTP, Pg.FLT, Pg.EST, Pg.FUS1, Pg.GNSC,
    Pg.SOL1, Pg.ALC, hp]
  repeat rw [if_neg (by omega)]

theorem cells_pos (n : Fin 24) (s : State) : s.cells (Pg.POS + n.val) = s.pos.regs := by
  have hp : Pg.POS = 62 := rfl
  unfold State.cells
  simp only [Pg.PWR, Pg.SNAP, Pg.SEQ, Pg.TIM, Pg.NVS, Pg.REC, Pg.SFO, Pg.FQ, Pg.CHN, Pg.PRP, Pg.PTP, Pg.FLT, Pg.EST, Pg.FUS1, Pg.GNSC,
    Pg.SOL1, Pg.ALC, hp]
  repeat rw [if_neg (by omega)]

/-- The state in which the write of a register of a channel acts: PAGE_SEQ counted, and of the channels one cell changed at most. -/
structure PosWritten (n : Nat) (k : Nat) (s w : State) : Prop where
  hdr : w.hdr = hdrSeq s.hdr (Pg.POS + n)
  cell : ∀ j, j ≠ k → rget w.pos.regs j = rget s.pos.regs j
  chans : w.pos.chans = s.pos.chans
  mem : w.mem = s.mem
  mode : w.mode = s.mode
  now : w.now = s.now
  time : w.tim = s.tim

theorem written_posReq (s : State) (n : Fin 24) :
    PosWritten n.val (rk Reg.POS_REQ n.val 0) s (s.written (Pg.POS + n.val) (Pg.POS + n.val) 0x80 0 Reg.POS_REQ posReqRow 1#32) := by
  have hkey : cellKey (Pg.POS + n.val) 0x80 0 = rk Reg.POS_REQ n.val 0 := by
    have hp : Pg.POS = 62 := rfl
    unfold cellKey rk Reg.POS_REQ
    omega
  obtain ⟨x, hx⟩ : ∃ x, s.written (Pg.POS + n.val) (Pg.POS + n.val) 0x80 0 Reg.POS_REQ posReqRow 1#32 =
      { s with hdr := hdrSeq s.hdr (Pg.POS + n.val), pos := { s.pos with regs := rset s.pos.regs (rk Reg.POS_REQ n.val 0) x } } := by
    refine ⟨posReqRow.written (s.mode == .run) (rget (s.cells (Pg.POS + n.val)) (cellKey (Pg.POS + n.val) 0x80 0)) 1#32, ?_⟩
    refine (setCells_pos n { s with hdr := hdrSeq s.hdr (Pg.POS + n.val) } _).trans ?_
    rw [cells_pos, hkey]
    rfl
  rw [hx]
  exact ⟨rfl, fun j hj => (rget_rset ..).trans (if_neg hj), rfl, rfl, rfl, rfl, rfl⟩

theorem written_posOwn (s : State) (n reg : Nat) (r : RegRow) (v : Word) (ho : ownCell reg = true) (hr : r.rwl = 0) :
    s.written (reg / 0x400 + n) (reg / 0x400 + n) (reg % 0x400) 0 reg r v = { s with hdr := hdrSeq s.hdr (reg / 0x400 + n) } := by
  unfold State.written
  dsimp only
  rw [ho, hr]
  rfl

theorem posReq_listed : ∀ n : Fin 24,
    homePage (Reg.POS_REQ / 0x400 + n.val) (Reg.POS_REQ % 0x400) = Reg.POS_REQ / 0x400 + n.val ∧
      rowOf (Reg.POS_REQ / 0x400 + n.val) (Reg.POS_REQ % 0x400) = some posReqRow ∧
      regOf (Reg.POS_REQ / 0x400 + n.val) (Reg.POS_REQ % 0x400) = (Reg.POS_REQ, n.val) := by decide

theorem posCount_listed : ∀ n : Fin 24,
    homePage (Reg.POS_COUNT / 0x400 + n.val) (Reg.POS_COUNT % 0x400) = Reg.POS_COUNT / 0x400 + n.val ∧
      rowOf (Reg.POS_COUNT / 0x400 + n.val) (Reg.POS_COUNT % 0x400) = some posCountRow ∧
      regOf (Reg.POS_COUNT / 0x400 + n.val) (Reg.POS_COUNT % 0x400) = (Reg.POS_COUNT, n.val) := by decide

theorem posCmp_listed : ∀ n : Fin 24,
    homePage (Reg.POS_CMP / 0x400 + n.val) (Reg.POS_CMP % 0x400) = Reg.POS_CMP / 0x400 + n.val ∧
      rowOf (Reg.POS_CMP / 0x400 + n.val) (Reg.POS_CMP % 0x400) = some posCmpRow ∧
      regOf (Reg.POS_CMP / 0x400 + n.val) (Reg.POS_CMP % 0x400) = (Reg.POS_CMP, n.val) := by decide

theorem posCmpCfg_listed : ∀ n : Fin 24,
    homePage (Reg.POS_CMP_CFG / 0x400 + n.val) (Reg.POS_CMP_CFG % 0x400) = Reg.POS_CMP_CFG / 0x400 + n.val ∧
      rowOf (Reg.POS_CMP_CFG / 0x400 + n.val) (Reg.POS_CMP_CFG % 0x400) = some posCmpCfgRow ∧
      regOf (Reg.POS_CMP_CFG / 0x400 + n.val) (Reg.POS_CMP_CFG % 0x400) = (Reg.POS_CMP_CFG, n.val) := by decide

/-- A write of POS_REQ: the channel's request. -/
theorem posReq_taken (line : Bool) (h : s.Admits acc (Pg.POS + n.val) (Reg.POS_REQ % 0x400)) :
    s.writeNamed (fun n _ _ s => s.onPos (Pos.request s.mode s.now s.tim.time n line)) acc Reg.POS_REQ n.val 1#32 =
      (let w := s.written (Pg.POS + n.val) (Pg.POS + n.val) 0x80 0 Reg.POS_REQ posReqRow 1#32
       w.onPos (Pos.request w.mode w.now w.tim.time n.val line)).releaseIdle := by
  obtain ⟨hhome, hrow, hreg⟩ := posReq_listed n
  exact writeNamed_taken (fun n _ _ s => s.onPos (Pos.request s.mode s.now s.tim.time n line)) acc Reg.POS_REQ n.val 1#32 s h (by decide)
    (by decide) posReqRow 0 hhome hrow hreg rfl (.inl rfl) (by decide) rfl (by cases s.mode == .run <;> rfl)

/-- A write of POS_COUNT: the preset. -/
theorem posCount_taken (v : Word) (h : s.Admits acc (Pg.POS + n.val) (Reg.POS_COUNT % 0x400)) :
    s.writePlain acc Reg.POS_COUNT n.val v =
      ({ s with hdr := hdrSeq s.hdr (Pg.POS + n.val), pos := s.pos.preset n.val v } : State).releaseIdle := by
  obtain ⟨hhome, hrow, hreg⟩ := posCount_listed n
  refine (writePlain_taken acc Reg.POS_COUNT n.val v s h (by decide) (by decide) posCountRow 0 hhome hrow hreg rfl (.inl rfl) (by decide) rfl
    (by cases s.mode == .run <;> rfl)).trans ?_
  rw [written_posOwn s n.val Reg.POS_COUNT posCountRow v (by decide) rfl]
  rfl

/-- A write of POS_CMP arms. -/
theorem posCmp_taken (v : Word) (h : s.Admits acc (Pg.POS + n.val) (Reg.POS_CMP % 0x400)) :
    s.writePlain acc Reg.POS_CMP n.val v =
      (({ s with hdr := hdrSeq s.hdr (Pg.POS + n.val) } : State).onPos (Pos.writeCmp n.val s.now v)).releaseIdle := by
  obtain ⟨hhome, hrow, hreg⟩ := posCmp_listed n
  refine (writePlain_taken acc Reg.POS_CMP n.val v s h (by decide) (by decide) posCmpRow 0 hhome hrow hreg rfl (.inl rfl) (by decide) rfl
    (by cases s.mode == .run <;> rfl)).trans ?_
  rw [written_posOwn s n.val Reg.POS_CMP posCmpRow v (by decide) rfl]
  rfl

/-- A write of POS_CMP_CFG. -/
theorem posCmpCfg_taken (v : Word) (h : s.Admits acc (Pg.POS + n.val) (Reg.POS_CMP_CFG % 0x400)) :
    s.writePlain acc Reg.POS_CMP_CFG n.val v =
      (({ s with hdr := hdrSeq s.hdr (Pg.POS + n.val) } : State).onPos (Pos.writeCmpCfg n.val s.now (v &&& 0xF#32))).releaseIdle := by
  obtain ⟨hhome, hrow, hreg⟩ := posCmpCfg_listed n
  refine (writePlain_taken acc Reg.POS_CMP_CFG n.val v s h (by decide) (by decide) posCmpCfgRow 0 hhome hrow hreg rfl (.inl rfl) (by decide) rfl
    (by cases s.mode == .run <;> rfl)).trans ?_
  rw [written_posOwn s n.val Reg.POS_CMP_CFG posCmpCfgRow v (by decide) rfl]
  rfl

end

end Sys2Proof.Proofs
end

section
/-! The position channels' commands, settled (R352–R357, R360, R449). -/

namespace Sys2Proof.Proofs

open Sys2Proof Sys2Proof.Machine

-- One proof after another: many at once wait for the kernel in threads of their own, which the check's memory limit does not hold.
set_option Elab.async false

/-! ## The sample of a channel's lines in the state (R356, R362) -/

section
variable {s : State} {n : Nat} {a b : Bool}

theorem st_divPulse (pos : Nat) (w : W Fio) (c : Nat × Nat) : (Fio.divPulse pos w c).st = w.st := by
  unfold Fio.divPulse
  dsimp only
  split
  · split
    · rfl
    · exact st_when _ _ _ fun _ => rfl
  · rfl

/-- What follows a sample that leaves x: a pulse of the divider goes to the field channels that repeat it. -/
def handsPulse (n : Nat) (x : W Pos × Bool) (s : State) : State :=
  let y := s.onPos (fun _ => x.1)
  if x.2 then y.onFio (fun u => (allChans.filter (fun c => y.groupOn c.1)).foldl (Fio.divPulse n) (W.of u)) else y

theorem quadrature_eq (n : Nat) (a b : Bool) (s : State) :
    s.quadrature n a b = handsPulse n (s.pos.sample s.mode s.now s.tim.time n a b) s := rfl

/-- What the work of a channel and of the field channels after it leaves of the state. -/
structure PosFio (p : Pos) (s t : State) : Prop where
  pos : t.pos = p
  shell : t.shell = { s.shell with pos := t.pos, fio := t.fio }
  bytes : s.SameBytes t

theorem posFio_of {p : Pos} {q : Fio} {s t : State} (h : t.shell = { s.shell with pos := p, fio := q }) (hb : s.SameBytes t) : PosFio p s t := by
  have hp : t.pos = p := congrArg (·.pos) h
  have hf : t.fio = q := congrArg (·.fio) h
  exact ⟨hp, by rw [hp, hf, h], hb⟩

variable {x : W Pos × Bool}

theorem handsPulse_none (hx : x.2 = false) : handsPulse n x s = s.onPos (fun _ => x.1) := if_neg (by rw [hx]; decide)

theorem handsPulse_leaves (hst : x.1.st = []) : PosFio x.1.u s (handsPulse n x s) := by
  have hy : (s.onPos (fun _ => x.1)).shell = { s.shell with pos := x.1.u } := shell_onPos _ _
  have hyb : s.SameBytes (s.onPos (fun _ => x.1)) := fun k => bytes_onPos (f := fun _ => x.1) hst k
  cases hx : x.2
  case false =>
    rw [handsPulse_none hx]
    exact posFio_of (q := s.shell.fio) hy hyb
  case true =>
    have hfst : ∀ (l : List (Nat × Nat)) (u : Fio), (l.foldl (Fio.divPulse n) (W.of u)).st = [] := fun l u =>
      st_foldl _ (fun v c => st_divPulse n v c) _ _
    unfold handsPulse
    dsimp only
    rw [hx, if_pos rfl]
    refine posFio_of ((shell_onFio _ _).trans (by rw [hy])) fun k => ?_
    rw [byte_onFio, hfst]
    exact hyb k

end

end Sys2Proof.Proofs
end

section
/-! The position channels' commands, settled (R352–R357, R360, R449). -/

namespace Sys2Proof.Proofs

open Sys2Proof Sys2Proof.Machine

-- One proof after another: many at once wait for the kernel in threads of their own, which the check's memory limit does not hold.
set_option Elab.async false

/-! ## The compare unit and presets (R357, R360) -/

section
variable {n : Nat} {u : Pos}

theorem arm_leaves (now : Nat) :
    (u.arm n now).st = [] ∧ (u.arm n now).u.chans = u.chans ∧
      (∀ q, q % 0x400 ≠ Reg.POS_CMP_STAT % 0x400 → rget (u.arm n now).u.regs (rk q n 0) = rget u.regs (rk q n 0)) ∧
      rbit (u.arm n now).u.regs (rk Reg.POS_CMP_STAT n 0) 0 = true ∧
      rbit (u.arm n now).u.regs (rk Reg.POS_CMP_STAT n 0) 2 = rbit u.regs (rk Reg.POS_CMP_STAT n 0) 2 := by
  unfold Pos.arm
  extract_lets c p up behind w
  have hu : (w.when behind (fun w => (w.evt (Pg.POS + n) 3).code (Pg.POS + n) 0x1131 [])).u =
      u.mod Reg.POS_CMP_STAT n (fun x => putBit (putBit x 0 true) 1 behind) :=
    u_when (g := id) (f := fun w => (w.evt (Pg.POS + n) 3).code (Pg.POS + n) 0x1131 []) (fun _ => rfl) _ _
  rw [hu]
  refine ⟨st_when _ _ _ fun _ => rfl, rfl, fun q hq => get_mod_other _ hq, ?_, ?_⟩
  · rw [rbit, get_mod, bit_putBit _ _ _ (by decide), if_neg (by decide), bit_putBit _ _ _ (by decide), if_pos rfl]
  · rw [rbit, get_mod, bit_putBit _ _ _ (by decide), if_neg (by decide), bit_putBit _ _ _ (by decide), if_neg (by decide), rbit]

theorem writeCmp_leaves (now : Nat) (v : Word) :
    let w := Pos.writeCmp n now v u
    w.st = [] ∧ w.u.chans = u.chans ∧ rget w.u.regs (rk Reg.POS_CMP n 0) = v ∧ rbit w.u.regs (rk Reg.POS_CMP_STAT n 0) 0 = true ∧
      rbit w.u.regs (rk Reg.POS_CMP_STAT n 0) 2 = rbit u.regs (rk Reg.POS_CMP_STAT n 0) 2 ∧
      rget w.u.regs (rk Reg.POS_COUNT n 0) = rget u.regs (rk Reg.POS_COUNT n 0) := by
  unfold Pos.writeCmp
  obtain ⟨hst, hchans, hreg, h0, h2⟩ := arm_leaves (n := n) (u := u.mod Reg.POS_CMP n (fun _ => v)) now
  exact ⟨hst, hchans, (hreg _ (by decide)).trans (get_mod _), h0,
    h2.trans (congrArg (bit · 2) (get_mod_other _ (by decide))), (hreg _ (by decide)).trans (get_mod_other _ (by decide))⟩

theorem writeCmpCfg_leaves (now : Nat) (v : Word) :
    let w := Pos.writeCmpCfg n now (v &&& 0xF#32) u
    w.st = [] ∧ w.u.chans = u.chans ∧ rget w.u.regs (rk Reg.POS_CMP_CFG n 0) = v &&& 0xF#32 ∧
      rbit w.u.regs (rk Reg.POS_CMP_STAT n 0) 0 = (bit v 0 || rbit u.regs (rk Reg.POS_CMP_STAT n 0) 0) ∧
      rbit w.u.regs (rk Reg.POS_CMP_STAT n 0) 2 = rbit u.regs (rk Reg.POS_CMP_STAT n 0) 2 ∧
      rget w.u.regs (rk Reg.POS_COUNT n 0) = rget u.regs (rk Reg.POS_COUNT n 0) := by
  intro w
  let y := u.mod Reg.POS_CMP_CFG n (fun _ => v &&& 0xF#32 &&& 0xF#32)
  have hmask : v &&& 0xF#32 &&& 0xF#32 = v &&& 0xF#32 := by rw [BitVec.and_assoc, BitVec.and_self]
  have hbit : bit (v &&& 0xF#32) 0 = bit v 0 := by simp [bit]
  have hw : w = if bit (v &&& 0xF#32) 0 then y.arm n now else W.of y := rfl
  have hcfg : rget y.regs (rk Reg.POS_CMP_CFG n 0) = v &&& 0xF#32 := (get_mod (u := u) _).trans hmask
  have hother : ∀ q, q % 0x400 ≠ Reg.POS_CMP_CFG % 0x400 → rget y.regs (rk q n 0) = rget u.regs (rk q n 0) := fun q hq => get_mod_other _ hq
  rw [hw, hbit]
  cases bit v 0
  case false =>
    exact ⟨rfl, rfl, hcfg, congrArg (bit · 0) (hother _ (by decide)), congrArg (bit · 2) (hother _ (by decide)), hother _ (by decide)⟩
  case true =>
    obtain ⟨hst, hchans, hreg, h0, h2⟩ := arm_leaves (n := n) (u := y) now
    rw [if_pos rfl]
    exact ⟨hst, hchans, (hreg _ (by decide)).trans hcfg, h0.trans (Bool.true_or _).symm,
      h2.trans (congrArg (bit · 2) (hother _ (by decide))), (hreg _ (by decide)).trans (hother _ (by decide))⟩

theorem preset_leaves (v : Word) :
    rget (u.preset n v).regs (rk Reg.POS_COUNT n 0) =
        (if rget u.regs (rk Reg.POS_MOD n 0) = 0#32 then v else wd (v.toNat % (rget u.regs (rk Reg.POS_MOD n 0)).toNat)) ∧
      rget (u.preset n v).regs (rk Reg.POS_REVS n 0) = 0#32 ∧
      rget (u.preset n v).regs (rk Reg.POS_CMP_STAT n 0) = rget u.regs (rk Reg.POS_CMP_STAT n 0) ∧ (u.preset n v).chans = u.chans := by
  have hzero : ((u.reg Reg.POS_MOD n).toNat = 0) = (rget u.regs (rk Reg.POS_MOD n 0) = 0#32) :=
    propext ⟨fun h => BitVec.eq_of_toNat_eq h, fun h => congrArg BitVec.toNat h⟩
  unfold Pos.preset
  dsimp only
  rw [get_mod_other _ (by decide), get_mod, get_mod, get_mod_other _ (by decide), get_mod_other _ (by decide)]
  refine ⟨?_, rfl, rfl, rfl⟩
  simp only [hzero]
  rfl

end

/-! ## The commands -/

section
variable {s : State} {n : Fin 24}

/-- A write of POS_REQ. -/
theorem ssiReqWrite_leaves {acc : Accessor} (line : Bool) (h : s.Admits acc (Pg.POS + n.val) (Reg.POS_REQ % 0x400))
    (hm : s.pos.mode n.val = 1) (ha : posActive s.mode = true) :
    let t := s.writeNamed (fun n _ _ s => s.onPos (Pos.request s.mode s.now s.tim.time n line)) acc Reg.POS_REQ n.val 1#32
    ((s.pos.chan n.val).busy s.now = false → line = true → (t.pos.chan n.val).frame = some s.tim.time) ∧
      ((s.pos.chan n.val).busy s.now = true ∨ line = false →
        (t.pos.chan n.val).frame = (s.pos.chan n.val).frame ∧
        rget t.pos.regs (rk Reg.POS_SSI_ERR n.val 0) = incSatField (rget s.pos.regs (rk Reg.POS_SSI_ERR n.val 0)) 31 16) ∧
      (∀ m, m ≠ n.val → t.pos.chan m = s.pos.chan m) ∧ s.SameBytes t := by
  intro t
  have hw := written_posReq s n
  have ht : t = _ := posReq_taken line h
  obtain ⟨w, hwdef⟩ : ∃ w, w = s.written (Pg.POS + n.val) (Pg.POS + n.val) 0x80 0 Reg.POS_REQ posReqRow 1#32 := ⟨_, rfl⟩
  rw [← hwdef] at hw ht
  have hchan : ∀ m, w.pos.chan m = s.pos.chan m := fun m => congrArg (sget posDefault · m) hw.chans
  have hmode : w.pos.mode n.val = 1 := (congrArg (bits · 1 0) (hw.cell _ (rk_ne 0 (by decide)))).trans hm
  have hpos : t.pos = (Pos.request s.mode s.now s.tim.time n.val line w.pos).u := by
    rw [ht, releaseIdle_pos, onPos_pos, hw.mode, hw.now, hw.time]
  obtain ⟨-, hst, hother⟩ := request_quiet (n := n.val) (u := w.pos) (m := s.mode) (now := s.now) (t := s.tim.time) (line := line)
  obtain ⟨htaken, hrefused⟩ := request_frame (now := s.now) (t := s.tim.time) (line := line) hmode ha
  rw [hchan] at htaken hrefused
  refine ⟨fun hb hl => ?_, fun hb => ?_, fun m hmn => ?_, fun x => ?_⟩
  · rw [hpos]
    exact (htaken hb hl).1
  · have hr := hrefused hb
    rw [hpos]
    exact ⟨hr.frame.trans (congrArg PosChan.frame (hchan _)), hr.count.trans (congrArg (incSatField · 31 16) (hw.cell _ (rk_ne 0 (by decide))))⟩
  · rw [hpos]
    exact (hother m hmn).trans (hchan m)
  · have hst' : (Pos.request w.mode w.now w.tim.time n.val line w.pos).st = [] := by
      rw [hw.mode, hw.now, hw.time]
      exact hst
    rw [ht, releaseIdle_mem, bytes_onPos hst', hw.mem]

/-- The work of a channel, by what its own work leaves. -/
theorem posDoes_runs {f : State → Pos → W Pos} (h : s.works (Pg.POS + n.val) = true) : s.posDoes n.val f = s.onPos (f s) := if_pos h

end

end Sys2Proof.Proofs
end

section
/-! The position channels' commands, settled (R352–R357, R360, R449). -/

namespace Sys2Proof.Proofs

open Sys2Proof Sys2Proof.Machine

-- One proof after another: many at once wait for the kernel in threads of their own, which the check's memory limit does not hold.
set_option Elab.async false

section
variable {s : State} {n : Fin 24}

/-- The end of a frame in the state. -/
theorem frameEnd_leaves {word : Nat} {f : Int} (high : Bool) (hf : (s.pos.chan n.val).frame = some f)
    (hw1 : word < 2 ^ rfld s.pos.regs (rk Reg.POS_SSI n.val 0) 21 16) (hw2 : word < 4294967296) :
    let t := s.onPos (fun u => u.frameEnd s.now n.val word high)
    (high = false → rbit s.pos.regs (rk Reg.POS_SSI_FMT n.val 0) 8 = false → GoodFrame n.val word f s.pos (s.pos.frameEnd s.now n.val word high) ∧
        ((s.pos.chan n.val).failed = true → t.errCode (Pg.POS + n.val) = 0x0122)) ∧
      (high = true → BadFrame n.val s.pos (s.pos.frameEnd s.now n.val word high) ∧ t.flt = s.flt ∧
        (rbit s.pos.regs (rk Reg.POS_STAT n.val 0) 3 = false → t.errCode (Pg.POS + n.val) = 0x2120)) := by
  refine ⟨?_, ?_⟩
  · rintro rfl he
    have h := frameEnd_good (now := s.now) hf hw1 hw2 he
    exact ⟨h, fun hfail => errCode_channel (f := fun u => u.frameEnd s.now n.val word false) (posPage n) (h.code hfail) h.pushes h.triggers⟩
  · rintro rfl
    have h := frameEnd_bad (now := s.now) (word := word) hf
    refine ⟨h, ?_, fun hs => ?_⟩
    · exact flt_commit _ _ _ h.plain.samples
    · exact errCode_channel (f := fun u => u.frameEnd s.now n.val word true) (posPage n) (h.code hs) h.plain.pushes h.plain.triggers

/-- The end of a frame frees its channel and stores nothing. -/
theorem frameEnd_frees {now word : Nat} {f : Int} {high : Bool} {u : Pos} {k : Nat} (hf : (u.chan k).frame = some f) :
    ((u.frameEnd now k word high).u.chan k).frame = none ∧ (u.frameEnd now k word high).st = [] := by
  unfold Pos.frameEnd
  dsimp only
  rw [hf]
  dsimp only
  split
  · refine ⟨?_, st_when _ _ _ fun _ => rfl⟩
    refine (u_when (g := fun v : Pos => (v.chan k).frame) (f := fun w => w.code (Pg.POS + k) 0x2120 []) (fun _ => rfl) _ _).trans ?_
    exact congrArg PosChan.frame (chan_put (n := k) (u := u) (x := { u.chan k with frame := none, recover := _, failed := true }))
  · refine ⟨?_, st_when _ _ _ fun _ => rfl⟩
    refine (u_when (g := fun v : Pos => (v.chan k).frame) (f := fun w => w.code (Pg.POS + k) 0x0122 []) (fun _ => rfl) _ _).trans ?_
    exact congrArg PosChan.frame (chan_put (n := k) (u := u) (x := { u.chan k with frame := none, recover := _, failed := false }))

/-- A sample in the state: each case of R356. -/
theorem quadrature_cases {a b : Bool} (hm : s.pos.mode n.val = 2) (ha : posActive s.mode = true) :
    let t := s.quadrature n.val a b
    let x := s.pos.chan n.val
    (x.ref = linesOf a b → t.pos.regs = s.pos.regs ∧ t.fio = s.fio) ∧
      (x.ref ^^^ linesOf a b = 3#2 →
        rget t.pos.regs (rk Reg.POS_COUNT n.val 0) = rget s.pos.regs (rk Reg.POS_COUNT n.val 0) ∧
        rget t.pos.regs (rk Reg.POS_FAULT n.val 0) = incSatField (rget s.pos.regs (rk Reg.POS_FAULT n.val 0)) 31 16 ∧
        (t.pos.chan n.val).ref = linesOf a b ∧ t.fio = s.fio ∧ (x.dblRun = false → t.errCode (Pg.POS + n.val) = 0x1111)) ∧
      (OneLine (x.ref ^^^ linesOf a b) → tooSoon n.val s.now s.pos = false → rget s.pos.regs (rk Reg.POS_MOD n.val 0) = 0#32 →
        rget t.pos.regs (rk Reg.POS_COUNT n.val 0) = (if countsUp n.val (linesOf a b) s.pos then
          rget s.pos.regs (rk Reg.POS_COUNT n.val 0) + 1#32 else rget s.pos.regs (rk Reg.POS_COUNT n.val 0) - 1#32) ∧
        (t.pos.chan n.val).ref = linesOf a b ∧ (t.pos.chan n.val).edgeAt = some s.now) ∧
      (OneLine (x.ref ^^^ linesOf a b) → tooSoon n.val s.now s.pos = true → x.fast = 0#2 →
        rget t.pos.regs (rk Reg.POS_COUNT n.val 0) = rget s.pos.regs (rk Reg.POS_COUNT n.val 0) ∧
        rget t.pos.regs (rk Reg.POS_FAULT n.val 0) = incSatField (rget s.pos.regs (rk Reg.POS_FAULT n.val 0)) 15 0 ∧
        (t.pos.chan n.val).ref = x.ref ∧ (x.fastRun = false → t.errCode (Pg.POS + n.val) = 0x1110)) := by
  intro t x
  have hleave : ∀ y : W Pos × Bool, y.1.st = [] → s.pos.sample s.mode s.now s.tim.time n.val a b = y → t.pos = y.1.u :=
    fun y hst hy => (congrArg (fun y => (handsPulse n.val y s).pos) hy).trans (handsPulse_leaves hst).pos
  have hquiet : ∀ w : W Pos, s.pos.sample s.mode s.now s.tim.time n.val a b = (w, false) → t = s.onPos (fun _ => w) ∧ t.fio = s.fio :=
    fun w hy => by
      have ht : t = s.onPos (fun _ => w) := (congrArg (handsPulse n.val · s) hy).trans (handsPulse_none rfl)
      exact ⟨ht, by rw [ht]; exact fio_of_shell (s := { s with pos := w.u }) (shell_onPos _ _)⟩
  refine ⟨fun h => ?_, fun h => ?_, fun h hs hmod => ?_, fun h hs hf => ?_⟩
  · have he := sample_same (now := s.now) (t := s.tim.time) hm ha h
    exact ⟨by rw [hleave _ rfl he]; rfl, (hquiet _ he).2⟩
  · have he := sample_double (now := s.now) (t := s.tim.time) hm ha h
    obtain ⟨ht, hfio⟩ := hquiet _ he
    have hpos : t.pos = _ := (hleave _ (by exact st_when _ _ (fun w : W Pos => w.code (Pg.POS + n.val) 0x1111 []) fun _ => rfl) he).trans
      (u_when (g := id) (f := fun w : W Pos => w.code (Pg.POS + n.val) 0x1111 []) (fun _ => rfl) _ _)
    refine ⟨?_, ?_, ?_, hfio, fun hd => ?_⟩
    · rw [hpos]
      exact (get_mod_other _ (by decide)).trans rfl
    · rw [hpos]
      exact (get_mod _).trans rfl
    · rw [hpos]
      exact congrArg PosChan.ref (chan_put (n := n.val) (u := s.pos)
        (x := { s.pos.chan n.val with ref := linesOf a b, fast := 0, skip := true, dblRun := true }))
    · have hd' : (s.pos.chan n.val).dblRun = false := hd
      rw [hd'] at ht
      rw [ht]
      exact errCode_channel (f := fun _ => _) (code := 0x1111) (posPage n) rfl rfl rfl
  · have he := sample_edge (now := s.now) (t := s.tim.time) hm ha h hs
    obtain ⟨hcount, href, hat, hst⟩ := edge_accepted (now := s.now) (t := s.tim.time) (new := linesOf a b) hmod
    rw [hleave _ hst he]
    exact ⟨hcount, href, hat⟩
  · have he := sample_fast (now := s.now) (t := s.tim.time) hm ha h hs hf
    obtain ⟨ht, hfio⟩ := hquiet _ he
    have hpos : t.pos = _ := (hleave _ (by exact st_when _ _ (fun w : W Pos => w.code (Pg.POS + n.val) 0x1110 []) fun _ => rfl) he).trans
      (u_when (g := id) (f := fun w : W Pos => w.code (Pg.POS + n.val) 0x1110 []) (fun _ => rfl) _ _)
    refine ⟨?_, ?_, ?_, fun hd => ?_⟩
    · rw [hpos]
      exact (get_mod_other _ (by decide)).trans rfl
    · rw [hpos]
      exact (get_mod _).trans rfl
    · rw [hpos]
      have hc := congrArg PosChan.ref (chan_put (n := n.val) (u := s.pos)
        (x := { s.pos.chan n.val with fast := (s.pos.chan n.val).ref ^^^ linesOf a b, fastRun := true }))
      exact hc
    · have hd' : (s.pos.chan n.val).fastRun = false := hd
      rw [hd'] at ht
      rw [ht]
      exact errCode_channel (f := fun _ => _) (code := 0x1110) (posPage n) rfl rfl rfl

end

/-- A time before which an edge is too soon. -/
theorem tooSoon_some {k now e : Nat} {u : Pos} (h : (u.chan k).edgeAt = some e) :
    tooSoon k now u = decide (samplesBetween now e < u.minSamples k) := by
  unfold tooSoon
  rw [h]

theorem tooSoon_of_spaced {k now : Nat} {u : Pos} (h : ∀ e, (u.chan k).edgeAt = some e → u.minSamples k ≤ samplesBetween now e) :
    tooSoon k now u = false := by
  unfold tooSoon
  split
  case h_1 e he => exact decide_eq_false (Nat.not_lt.mpr (h e he))
  case h_2 => rfl

/-- An encoder supply's bit set or cleared. -/
theorem getLsbD_esTrip (x : BitVec 4) (o : Fin 4) {k : Nat} (hk : k < 4) :
    (x ||| BitVec.twoPow 4 o.val).getLsbD k = (decide (k = o.val) || x.getLsbD k) ∧
      (x &&& ~~~(BitVec.twoPow 4 o.val)).getLsbD k = (decide (k ≠ o.val) && x.getLsbD k) := by
  rw [BitVec.getLsbD_or, BitVec.getLsbD_and, BitVec.getLsbD_not, BitVec.getLsbD_twoPow]
  by_cases h : k = o.val
  · simp [h]
  · have h' : o.val ≠ k := fun e => h e.symm
    simp [h, h', hk]

/-- A span's START that does work of the position unit: the span runs, and beyond the unit only its token is taken. -/
theorem begun_onPos {s t : State} {idx : Nat} {q : Seq} {f : Pos → W Pos} (hst : (f s.pos).st = [])
    (ht : t = { (s.begun idx).onPos f with seq := q }) :
    t.seq = q ∧ t.pos = (f s.pos).u ∧ s.SameBytes t ∧ (∀ k, t.errCode k = ((s.begun idx).onPos f).errCode k) ∧
      t.shell = { s.shell with
        seq := t.seq
        pos := t.pos
        free := s.free + 1 } := by
  have hpos : ((s.begun idx).onPos f).pos = (f s.pos).u := onPos_pos f (s.begun idx)
  have hshell := shell_onPos f (s.begun idx)
  have hbytes : ∀ k, ((s.begun idx).onPos f).mem.byte k = (s.begun idx).mem.byte k := bytes_onPos (s := s.begun idx) hst
  generalize (s.begun idx).onPos f = z at *
  subst ht
  refine ⟨rfl, hpos, hbytes, fun _ => rfl, ?_⟩
  have hz : ({ z with seq := q } : State).shell = { z.shell with seq := q } := rfl
  rw [hz, hshell]
  change _ = ({ s.shell with seq := q, pos := z.pos, free := s.free + 1 } : State)
  rw [hpos]
  rfl

/-- A write that the position unit works on, once the release after it is done. -/
theorem written_onPos {s : State} {h : RMap} {f : Pos → W Pos} (hst : (f s.pos).st = []) :
    (({ s with hdr := h } : State).onPos f).releaseIdle.pos = (f s.pos).u ∧
      s.SameBytes (({ s with hdr := h } : State).onPos f).releaseIdle := by
  have hpos : (({ s with hdr := h } : State).onPos f).pos = (f s.pos).u := onPos_pos f _
  have hbytes := fun k => bytes_onPos (s := { s with hdr := h }) hst k
  generalize ({ s with hdr := h } : State).onPos f = z at *
  refine ⟨(releaseIdle_pos z).trans hpos, fun k => ?_⟩
  rw [releaseIdle_mem]
  exact hbytes k

/-- Settles O36: requests and frames by the channel's state, a sample by the lines that changed, and the registers' own writes. -/
theorem positionCommands : Obligations.PositionCommands := by
  unfold Obligations.PositionCommands
  refine ⟨fun a idx line x s h h1 h2 ho hw hm => ?_, fun a acc n line s h hm ha => ?_, fun a n word high f s hw hf hw1 hw2 => ?_,
    fun at_ n a b s hw hm ha => ?_, fun a acc n v s h => ?_, fun a acc n cfg v s h => ?_, fun a o s => ?_, fun a o s => ?_⟩
  · have hrun : posActive (s.at_ a).mode = true := by rw [h.run]; rfl
    obtain ⟨htaken, hrefused⟩ := request_frame (n := x.unit - 0x60) (now := (s.at_ a).now) (t := (s.at_ a).tim.time) (line := line) hm hrun
    obtain ⟨hquiet, hst, -⟩ := request_quiet (n := x.unit - 0x60) (u := s.pos) (m := (s.at_ a).mode) (now := (s.at_ a).now)
      (t := (s.at_ a).tim.time) (line := line)
    obtain ⟨t, ht⟩ : ∃ t, t = _ := ⟨_, rfl⟩
    obtain ⟨hseq, hpos, hbytes, herr, hshell⟩ := begun_onPos (s := s.at_ a) hst ht
    refine ⟨t, (request_runs h h1 h2 ho hw).trans (congrArg Host.Outcome.next ht.symm), hseq, fun hb hl => ?_, fun hb => ?_, hshell, hbytes⟩
    · rw [hpos]
      exact htaken hb hl
    · have hr := hrefused hb
      rw [hpos]
      refine ⟨hr.frame, hr.count, fun hnew => ?_⟩
      rw [herr]
      exact errCode_channel (s := (s.at_ a).begun idx) (unitPage h1 h2) (hr.code hnew) hr.quiet.2.1 hr.quiet.2.2
  · exact ⟨_, rfl, ssiReqWrite_leaves (s := s.at_ a) line h hm ha⟩
  · have hexec : exec (.ssiFrameEnd a n word high) s = .next ((s.at_ a).onPos (fun u => u.frameEnd (s.at_ a).now n.val word high)) :=
      congrArg Host.Outcome.next (if_pos hw)
    obtain ⟨hfree, hst⟩ := frameEnd_frees (now := (s.at_ a).now) (word := word) (high := high) hf
    obtain ⟨hgood, hbad⟩ := frameEnd_leaves (s := s.at_ a) high hf hw1 hw2
    have hpos := onPos_pos (fun u => u.frameEnd (s.at_ a).now n.val word high) (s.at_ a)
    refine ⟨_, hexec, ?_, fun hl he => ?_, fun hh => ?_, ?_, fun k => (bytes_onPos (s := s.at_ a) hst k).trans rfl⟩
    · rw [hpos]
      exact hfree
    · obtain ⟨h, hcode⟩ := hgood hl he
      rw [hpos]
      exact ⟨h.raw, h.position, h.low, h.high, h.ok, hcode⟩
    · obtain ⟨h, hflt, hcode⟩ := hbad hh
      rw [hpos]
      exact ⟨h.position, h.count, h.failed, hflt, hcode⟩
    · rw [shell_onPos, hpos]
  · have hexec : exec (.quadTransition at_ n a b) s = .next ((s.at_ at_).quadrature n.val a b) := congrArg Host.Outcome.next (if_pos hw)
    obtain ⟨hsame, hdouble, hedge, hfast⟩ := quadrature_cases (s := s.at_ at_) (n := n) (a := a) (b := b) hm ha
    have hleft := handsPulse_leaves (s := s.at_ at_) (n := n.val) (st_posSample (n := n.val) (u := s.pos) (m := (s.at_ at_).mode)
      (now := (s.at_ at_).now) (t := (s.at_ at_).tim.time) (a := a) (b := b))
    refine ⟨_, hexec, hsame, hdouble, fun h hs hmod => ?_, fun h hs hf => ?_, hleft.shell, hleft.bytes⟩
    · obtain ⟨hcount, href, hat⟩ := hedge h (tooSoon_of_spaced hs) hmod
      refine ⟨hcount.trans ?_, href, hat⟩
      change (if countsUp n.val (linesOf a b) s.pos then _ else _) = rget s.pos.regs (rk Reg.POS_COUNT n.val 0) +
        (if countsUp n.val (linesOf a b) s.pos then 1#32 else 0xFFFFFFFF#32)
      cases countsUp n.val (linesOf a b) s.pos
      · exact BitVec.sub_eq_add_neg _ _
      · rfl
    · obtain ⟨e, he, hlt⟩ := hs
      exact hfast h ((tooSoon_some he).trans (decide_eq_true hlt)) hf
  · obtain ⟨hcount, hrevs, hstat, hchans⟩ := preset_leaves (n := n.val) (u := s.pos) v
    refine ⟨_, congrArg Host.Outcome.next (posCount_taken (s := s.at_ a) v h), ?_, ?_, ?_, ?_, ?_, fun k => ?_⟩
    · rw [releaseIdle_pos]
      exact hcount
    · rw [releaseIdle_pos]
      exact hrevs
    · rw [releaseIdle_pos]
      exact hstat
    · rw [releaseIdle_pos]
      exact hchans
    · rw [releaseIdle_pageSeq]
      exact pageSeq_hdrSeq _ _
    · rw [releaseIdle_mem]
      rfl
  · cases cfg
    case false =>
      obtain ⟨hst, hchans, hcmp, h0, h2, hcount⟩ := writeCmp_leaves (n := n.val) (u := s.pos) (s.at_ a).now v
      obtain ⟨hpos, hbytes⟩ := written_onPos (s := s.at_ a) (h := hdrSeq (s.at_ a).hdr (Pg.POS + n.val)) hst
      refine ⟨_, congrArg Host.Outcome.next (posCmp_taken (s := s.at_ a) v h), ?_⟩
      rw [hpos]
      exact ⟨fun _ => ⟨hcmp, h0⟩, fun h => absurd h (by decide), h2, hcount, hchans, hbytes⟩
    case true =>
      obtain ⟨hst, hchans, hcfg, h0, h2, hcount⟩ := writeCmpCfg_leaves (n := n.val) (u := s.pos) (s.at_ a).now v
      obtain ⟨hpos, hbytes⟩ := written_onPos (s := s.at_ a) (h := hdrSeq (s.at_ a).hdr (Pg.POS + n.val)) hst
      refine ⟨_, congrArg Host.Outcome.next (posCmpCfg_taken (s := s.at_ a) v h), ?_⟩
      rw [hpos]
      exact ⟨fun h => absurd h (by decide), fun _ => ⟨hcfg, h0⟩, h2, hcount, hchans, hbytes⟩
  · cases hon : s.mode.esOn
    · have hexec : exec (.esFuseTrip a o) s = .next (s.at_ a) := congrArg Host.Outcome.next (if_neg (by rw [at_mode, hon]; decide))
      exact ⟨_, hexec, rfl, fun h => absurd h (by decide), fun _ => rfl⟩
    · have hexec : exec (.esFuseTrip a o) s = .next { s.at_ a with esOff := s.esOff ||| BitVec.twoPow 4 o.val } :=
        congrArg Host.Outcome.next (if_pos hon)
      exact ⟨_, hexec, rfl, fun _ k hk => (getLsbD_esTrip s.esOff o hk).1, fun h => absurd h (by decide)⟩
  · exact ⟨_, rfl, rfl, fun k hk => (getLsbD_esTrip s.esOff o hk).2⟩

end Sys2Proof.Proofs
end

section
/-! SUPPORT. The work of a serial port (R343–R348). -/

namespace Sys2Proof.Proofs

open Sys2Proof Sys2Proof.Machine

-- One proof after another: many at once wait for the kernel in threads of their own, which the check's memory limit does not hold.
set_option Elab.async false

/-! ## Cells and ports -/

section
variable {n : Nat} {u : Ser}

theorem ser_get_mod (r w : Nat) (f : Word → Word) : rget (u.mod r n w f).regs (rk r n w) = f (rget u.regs (rk r n w)) :=
  (rget_rmod ..).trans (if_pos rfl)

/-- Another register of the same port. -/
theorem ser_get_mod_other (r w : Nat) (f : Word → Word) {q : Nat} (v : Nat) (h : q % 0x400 ≠ r % 0x400) :
    rget (u.mod r n w f).regs (rk q n v) = rget u.regs (rk q n v) := rget_rmod_ne _ _ (rk_ne w h)

theorem port_mod (r w : Nat) (f : Word → Word) (m : Nat) : (u.mod r n w f).port m = u.port m := rfl

theorem port_put (p : SerialPort) : (u.putPort n p).port n = p := sget_sset_self ..

/-- A register of the port other than its status. -/
theorem ser_get_put (p : SerialPort) {q : Nat} (v : Nat) (h : q % 0x400 ≠ Reg.SER_STAT % 0x400) :
    rget (u.putPort n p).regs (rk q n v) = rget u.regs (rk q n v) :=
  rget_rmod_ne (k := rk Reg.SER_STAT n 0) u.regs (fun w => putBit (putBit w 1 p.active) 2 p.wait) (rk_ne 0 h)

end

/-! ## A sentence received (R344–R346) -/

/-- The fields of a sentence leave the ports, and every register but the counts of conversion errors. -/
theorem deliverFields_leaves {n k : Nat} {stamp : Int} {b : Bool} (l : List (Nat × FieldValue)) (u : Ser) :
    let w := l.foldl (Ser.deliverFields n k stamp b) (W.of u)
    w.st = [] ∧ w.u.ports = u.ports ∧ ∀ q, q % 0x400 ≠ Reg.SER_F_STAT % 0x400 → rget w.u.regs (rk q n 0) = rget u.regs (rk q n 0) := by
  refine foldl_keeps (fun w : W Ser => w.st = [] ∧ w.u.ports = u.ports ∧
    ∀ q, q % 0x400 ≠ Reg.SER_F_STAT % 0x400 → rget w.u.regs (rk q n 0) = rget u.regs (rk q n 0)) _ ?_ _ _ ⟨rfl, rfl, fun _ _ => rfl⟩
  rintro w ⟨i, ⟨v, e⟩⟩ ⟨hst, hports, hregs⟩
  have herror : ∀ c : Bool, ∀ y : W Ser, y = w.when c (fun w =>
      ((w.map (fun u => u.mod Reg.SER_F_STAT n k (fun c => incSatField c 31 16))).evt (Pg.SER + n) 1).code (Pg.SER + n) 0x1F53
        [wd (256 * k + i)]) →
      y.st = [] ∧ y.u.ports = u.ports ∧ ∀ q, q % 0x400 ≠ Reg.SER_F_STAT % 0x400 → rget y.u.regs (rk q n 0) = rget u.regs (rk q n 0) := by
    rintro c y rfl
    cases c
    · exact ⟨hst, hports, hregs⟩
    · exact ⟨hst, hports, fun q hq => (ser_get_mod_other _ _ _ 0 hq).trans (hregs q hq)⟩
  unfold Ser.deliverFields
  dsimp only
  have hw := herror e _ rfl
  cases v with
  | none => exact hw
  | some v => cases b <;> exact hw

section
variable {n : Nat} {stamp : Int} {cs : List Nat} {x : Sentence} {u : Ser}

/-- A sentence that passed the checks, before its filter. -/
def sentenceCounted (n : Nat) (stamp : Int) (u : Ser) : Ser :=
  let u := u.mod Reg.SER_CNT_RX n 0 (· + 1#32)
  { u with regs := rset64 u.regs (rk Reg.SER_LAST_TS_L n 0) (rk Reg.SER_LAST_TS_H n 0) stamp }

theorem get_sentenceCounted {q : Nat} (w : Nat) (h1 : q % 0x400 ≠ Reg.SER_CNT_RX % 0x400) (h2 : q % 0x400 ≠ Reg.SER_LAST_TS_L % 0x400)
    (h3 : q % 0x400 ≠ Reg.SER_LAST_TS_H % 0x400) : rget (sentenceCounted n stamp u).regs (rk q n w) = rget u.regs (rk q n w) := by
  unfold sentenceCounted rset64
  dsimp only
  rw [rget_rset, if_neg (rk_ne 0 h3), rget_rset, if_neg (rk_ne 0 h2)]
  exact ser_get_mod_other _ _ _ w h1

theorem rx_sentenceCounted : rget (sentenceCounted n stamp u).regs (rk Reg.SER_CNT_RX n 0) = rget u.regs (rk Reg.SER_CNT_RX n 0) + 1#32 := by
  unfold sentenceCounted rset64
  dsimp only
  rw [rget_rset, if_neg (rk_ne 0 (by decide)), rget_rset, if_neg (rk_ne 0 (by decide))]
  exact ser_get_mod _ _ _

theorem stamp_sentenceCounted : rget (sentenceCounted n stamp u).regs (rk Reg.SER_LAST_TS_L n 0) = lo32 stamp := by
  unfold sentenceCounted rset64
  dsimp only
  rw [rget_rset, if_neg (rk_ne 0 (by decide)), rget_rset, if_pos rfl]
  rfl

/-- What a sentence that passed the checks leaves beside its filter. -/
structure SentenceTaken (n : Nat) (stamp : Int) (u : Ser) (w : W Ser) : Prop where
  st : w.st = []
  rx : rget w.u.regs (rk Reg.SER_CNT_RX n 0) = rget u.regs (rk Reg.SER_CNT_RX n 0) + 1#32
  err : rget w.u.regs (rk Reg.SER_CNT_ERR n 0) = rget u.regs (rk Reg.SER_CNT_ERR n 0)
  stamp : rget w.u.regs (rk Reg.SER_LAST_TS_L n 0) = lo32 stamp

/-- The filter takes a sentence of this address. -/
def filterTakes (n : Nat) (a : Option (List Nat)) (u : Ser) (k : Nat) : Bool :=
  let c := rget u.regs (rk Reg.SER_F_CFG n k)
  bit c 8 && (match a with
    | some a => addressMatches a (rget u.regs (rk Reg.SER_F_ADDR n k)) (bits c 7 0)
    | none => false)

theorem filterTakes_counted (a : Option (List Nat)) : filterTakes n a (sentenceCounted n stamp u) = filterTakes n a u := by
  funext k
  unfold filterTakes
  rw [get_sentenceCounted k (by decide) (by decide) (by decide), get_sentenceCounted k (by decide) (by decide) (by decide)]

/-- A sentence that filter k takes. -/
def sentenceMatched (n k : Nat) (stamp : Int) (cs : List Nat) (x : Sentence) (u : Ser) : W Ser :=
  let c := rget u.regs (rk Reg.SER_F_CFG n k)
  let p := u.port n
  let u := u.putPort n { p with taken := sset (fun _ => 0) p.taken k (sget (fun _ => 0) p.taken k + 1) }
  ((fieldValues (u.entry n k) (bits c 20 17) x.fields).foldl (Ser.deliverFields n k stamp (bit c 9)) (W.of u)).when (bit c 10)
    (·.push ⟨0x30 + n, bits c 16 11, sentencePacket k true stamp cs⟩)

/-- A sentence that no filter takes. -/
def sentenceUnmatched (n : Nat) (stamp : Int) (cs : List Nat) (u : Ser) : W Ser :=
  let q := rget u.regs (rk Reg.SER_FQ n 0)
  (W.of (u.mod Reg.SER_CNT_NOMATCH n 0 (· + 1#32))).when (bit q 6) (·.push ⟨0x30 + n, bits q 5 0, sentencePacket 0 false stamp cs⟩)

theorem take_eq : u.take n stamp cs x =
    match (upto 16).find? (filterTakes n x.address (sentenceCounted n stamp u)) with
    | some k => sentenceMatched n k stamp cs x (sentenceCounted n stamp u)
    | none => sentenceUnmatched n stamp cs (sentenceCounted n stamp u) := rfl

theorem sentenceUnmatched_leaves :
    let w := sentenceUnmatched n stamp cs u
    w.st = [] ∧ w.fx.samples = [] ∧ w.u.ports = u.ports ∧
      rget w.u.regs (rk Reg.SER_CNT_NOMATCH n 0) = rget u.regs (rk Reg.SER_CNT_NOMATCH n 0) + 1#32 ∧
      ∀ q, q % 0x400 ≠ Reg.SER_CNT_NOMATCH % 0x400 → rget w.u.regs (rk q n 0) = rget u.regs (rk q n 0) := by
  unfold sentenceUnmatched
  dsimp only
  cases bit (rget u.regs (rk Reg.SER_FQ n 0)) 6
  case false => exact ⟨rfl, rfl, rfl, ser_get_mod _ _ _, fun q hq => ser_get_mod_other _ _ _ 0 hq⟩
  case true => exact ⟨rfl, rfl, rfl, ser_get_mod _ _ _, fun q hq => ser_get_mod_other _ _ _ 0 hq⟩

theorem push_when {U : Type} (w : W U) (c : Bool) (p : Push) : (w.when c (·.push p)).st = w.st ∧ (w.when c (·.push p)).u = w.u := by
  cases c
  case false => exact ⟨rfl, rfl⟩
  case true => exact ⟨rfl, rfl⟩

theorem sentenceMatched_leaves (k : Nat) :
    let w := sentenceMatched n k stamp cs x u
    w.st = [] ∧ (w.u.port n).taken = sset (fun _ => 0) (u.port n).taken k (sget (fun _ => 0) (u.port n).taken k + 1) ∧
      ∀ q, q % 0x400 ≠ Reg.SER_F_STAT % 0x400 → q % 0x400 ≠ Reg.SER_STAT % 0x400 → rget w.u.regs (rk q n 0) = rget u.regs (rk q n 0) := by
  unfold sentenceMatched
  extract_lets c p v w
  obtain ⟨hst, hports, hregs⟩ := deliverFields_leaves (n := n) (k := k) (stamp := stamp) (b := bit c 9)
    (fieldValues (v.entry n k) (bits c 20 17) x.fields) v
  have hport : v.port n = { p with taken := sset (fun _ => 0) p.taken k (sget (fun _ => 0) p.taken k + 1) } := port_put _
  obtain ⟨hpst, hpu⟩ := push_when ((fieldValues (v.entry n k) (bits c 20 17) x.fields).foldl (Ser.deliverFields n k stamp (bit c 9)) (W.of v))
    (bit c 10) ⟨0x30 + n, bits c 16 11, sentencePacket k true stamp cs⟩
  have hst' : w.st = _ := hpst
  have hu : w.u = _ := hpu
  rw [hst', hu]
  refine ⟨hst, ?_, fun q h1 h2 => (hregs q h1).trans (ser_get_put _ 0 h2)⟩
  have hw : Ser.port _ n = v.port n := congrArg (sget serialDefault · n) hports
  rw [hw, hport]

/-- A sentence that no filter takes. -/
theorem take_unmatched (h : (upto 16).find? (filterTakes n x.address u) = none) :
    let w := u.take n stamp cs x
    SentenceTaken n stamp u w ∧ w.fx.samples = [] ∧ (w.u.port n).taken = (u.port n).taken ∧
      rget w.u.regs (rk Reg.SER_CNT_NOMATCH n 0) = rget u.regs (rk Reg.SER_CNT_NOMATCH n 0) + 1#32 := by
  rw [take_eq, filterTakes_counted, h]
  obtain ⟨hst, hsamples, hports, hcount, hregs⟩ := sentenceUnmatched_leaves (n := n) (stamp := stamp) (cs := cs) (u := sentenceCounted n stamp u)
  refine ⟨⟨hst, (hregs _ (by decide)).trans rx_sentenceCounted, (hregs _ (by decide)).trans ?_, (hregs _ (by decide)).trans stamp_sentenceCounted⟩,
    hsamples, congrArg (fun l => (sget serialDefault l n).taken) hports, hcount.trans (congrArg (· + 1#32) ?_)⟩
  · exact get_sentenceCounted 0 (by decide) (by decide) (by decide)
  · exact get_sentenceCounted 0 (by decide) (by decide) (by decide)

/-- A sentence that filter k takes. -/
theorem take_matched {k : Nat} (h : (upto 16).find? (filterTakes n x.address u) = some k) :
    let w := u.take n stamp cs x
    SentenceTaken n stamp u w ∧
      (w.u.port n).taken = sset (fun _ => 0) (u.port n).taken k (sget (fun _ => 0) (u.port n).taken k + 1) ∧
      rget w.u.regs (rk Reg.SER_CNT_NOMATCH n 0) = rget u.regs (rk Reg.SER_CNT_NOMATCH n 0) := by
  rw [take_eq, filterTakes_counted, h]
  obtain ⟨hst, htaken, hregs⟩ := sentenceMatched_leaves (n := n) (stamp := stamp) (cs := cs) (x := x) (u := sentenceCounted n stamp u) k
  refine ⟨⟨hst, (hregs _ (by decide) (by decide)).trans rx_sentenceCounted, (hregs _ (by decide) (by decide)).trans ?_,
    (hregs _ (by decide) (by decide)).trans stamp_sentenceCounted⟩, htaken, (hregs _ (by decide) (by decide)).trans ?_⟩
  · exact get_sentenceCounted 0 (by decide) (by decide) (by decide)
  · exact get_sentenceCounted 0 (by decide) (by decide) (by decide)

/-- Any sentence that passed the checks. -/
theorem take_taken : SentenceTaken n stamp u (u.take n stamp cs x) := by
  cases h : (upto 16).find? (filterTakes n x.address u) with
  | none => exact (take_unmatched h).1
  | some k => exact (take_matched h).1

/-- No filter is enabled. -/
theorem find_filter_none {a : Option (List Nat)} (h : ∀ k, k < 16 → rbit u.regs (rk Reg.SER_F_CFG n k) 8 = false) :
    (upto 16).find? (filterTakes n a u) = none := by
  rw [List.find?_eq_none]
  intro k hk
  have hb : bit (rget u.regs (rk Reg.SER_F_CFG n k)) 8 = false := h k (List.mem_range.mp hk)
  unfold filterTakes
  dsimp only
  rw [hb]
  exact Bool.false_ne_true

/-- Filter k is the first enabled one, and matches. -/
theorem find_filter_first {a : Option (List Nat)} {name : List Nat} {k : Nat} (hk : k < 16)
    (hfirst : ∀ j, j < k → rbit u.regs (rk Reg.SER_F_CFG n j) 8 = false) (hon : rbit u.regs (rk Reg.SER_F_CFG n k) 8 = true)
    (ha : a = some name)
    (hm : addressMatches name (rget u.regs (rk Reg.SER_F_ADDR n k)) (rfld u.regs (rk Reg.SER_F_CFG n k) 7 0) = true) :
    (upto 16).find? (filterTakes n a u) = some k := by
  subst ha
  rw [upto, List.find?_range_eq_some]
  refine ⟨?_, List.mem_range.mpr hk, fun j hj => ?_⟩
  · have hb : bit (rget u.regs (rk Reg.SER_F_CFG n k)) 8 = true := hon
    unfold filterTakes
    dsimp only
    rw [hb]
    exact hm
  · have hb : bit (rget u.regs (rk Reg.SER_F_CFG n j)) 8 = false := hfirst j hj
    unfold filterTakes
    dsimp only
    rw [hb]
    rfl

end

/-! ## A sentence discarded (R344) -/

section
variable {n lo code : Nat} {sec : Int} {u : Ser}

/-- Whether a code is recorded already in this second. -/
def codedNow (n code : Nat) (sec : Int) (u : Ser) : Bool := (u.port n).coded.any (fun c => c.1 == code && c.2 == sec)

/-- What a discarded sentence leaves. -/
structure SentenceDiscarded (n lo code : Nat) (quiet : Bool) (u : Ser) (w : W Ser) : Prop where
  st : w.st = []
  plain : w.fx.Plain
  err : rget w.u.regs (rk Reg.SER_CNT_ERR n 0) = incSatField (rget u.regs (rk Reg.SER_CNT_ERR n 0)) (lo + 7) lo
  rx : rget w.u.regs (rk Reg.SER_CNT_RX n 0) = rget u.regs (rk Reg.SER_CNT_RX n 0)
  taken : (w.u.port n).taken = (u.port n).taken
  codes : w.fx.codes = if quiet then [] else [⟨Pg.SER + n, code, [], false⟩]

theorem discarded_with {p : SerialPort} (hp : p.taken = (u.port n).taken) (quiet : Bool) :
    SentenceDiscarded n lo code quiet u (((W.of ((u.mod Reg.SER_CNT_ERR n 0 (fun c => incSatField c (lo + 7) lo)).putPort n p)).evt
      (Pg.SER + n) 0).when (!quiet) (·.code (Pg.SER + n) code [])) := by
  have herr := (ser_get_put (u := u.mod Reg.SER_CNT_ERR n 0 (fun c => incSatField c (lo + 7) lo)) (n := n) p 0
    (q := Reg.SER_CNT_ERR) (by decide)).trans (ser_get_mod _ _ _)
  have hrx := (ser_get_put (u := u.mod Reg.SER_CNT_ERR n 0 (fun c => incSatField c (lo + 7) lo)) (n := n) p 0
    (q := Reg.SER_CNT_RX) (by decide)).trans (ser_get_mod_other _ _ _ 0 (by decide))
  have htaken := (congrArg SerialPort.taken (port_put (u := u.mod Reg.SER_CNT_ERR n 0 (fun c => incSatField c (lo + 7) lo)) (n := n) p)).trans hp
  cases quiet
  case true => exact ⟨rfl, ⟨rfl, rfl, rfl, rfl, rfl⟩, herr, hrx, htaken, rfl⟩
  case false => exact ⟨rfl, ⟨rfl, rfl, rfl, rfl, rfl⟩, herr, hrx, htaken, rfl⟩

theorem discard_discarded : SentenceDiscarded n lo code (codedNow n code sec u) u (u.discard n lo code sec) :=
  discarded_with (p := { u.port n with coded := (code, sec) :: (u.port n).coded.filter (fun c => c.1 != code) }) rfl (codedNow n code sec u)

/-- A code of an earlier second only, or none. -/
theorem codedNow_false (h : ∀ c, c ∈ (u.port n).coded → c.1 ≠ code) : codedNow n code sec u = false := by
  unfold codedNow
  rw [List.any_eq_false]
  intro c hc
  rw [beq_false_of_ne (h c hc)]
  exact Bool.false_ne_true

theorem codedNow_true (h : (code, sec) ∈ (u.port n).coded) : codedNow n code sec u = true := by
  unfold codedNow
  rw [List.any_eq_true]
  exact ⟨_, h, by simp⟩

end

/-! ## Which sentences are taken (R344) -/

section
variable {n age : Nat} {bad : Bool} {now start : Int} {chars : List Byte} {u : Ser}

/-- The port receives, and the characters after a tag block begin a sentence. -/
structure Begins (n : Nat) (chars : List Byte) (u : Ser) : Prop where
  on : rfld u.regs (rk Reg.SER_CFG n 0) 1 0 ≠ 0
  head : (skipTag (chars.map (·.toNat))).head? = some Ch.dollar

theorem not_idle (h : Begins n chars u) :
    ¬ (rfld u.regs (rk Reg.SER_CFG n 0) 1 0 = 0 ∨
      (!((skipTag (chars.map (·.toNat))).head? == some Ch.dollar || (skipTag (chars.map (·.toNat))).head? == some Ch.bang)) = true) := by
  rintro (hz | hh)
  · exact h.on hz
  · rw [h.head] at hh
    exact absurd hh (by decide)

theorem sentence_taken (h : Begins n chars u) (hlen : (skipTag (chars.map (·.toNat))).length ≤ 82)
    (hcheck : (readSentence (skipTag (chars.map (·.toNat)))).checkOk (rbit u.regs (rk Reg.SER_CFG n 0) 8) = true) :
    u.sentence n false now start chars = u.take n (Int.fdiv start 1000 * 1000) (skipTag (chars.map (·.toNat)))
      (readSentence (skipTag (chars.map (·.toNat)))) := by
  unfold Ser.sentence
  dsimp only
  rw [if_neg (not_idle h), if_neg Bool.false_ne_true, if_neg (by omega), hcheck]
  rfl

/-- Each way in which a sentence fails the checks. -/
theorem sentence_discarded {lo code : Nat} (h : Begins n chars u)
    (hfail : bad = true ∧ lo = 8 ∧ code = 0x1F51 ∨
      bad = false ∧ 82 < (skipTag (chars.map (·.toNat))).length ∧ lo = 16 ∧ code = 0x1F52 ∨
      bad = false ∧ (skipTag (chars.map (·.toNat))).length ≤ 82 ∧
        (readSentence (skipTag (chars.map (·.toNat)))).checkOk (rbit u.regs (rk Reg.SER_CFG n 0) 8) = false ∧
        lo = 0 ∧ code = 0x1F50) :
    u.sentence n bad now start chars = u.discard n lo code (Int.fdiv now 1000000000) := by
  unfold Ser.sentence
  dsimp only
  rw [if_neg (not_idle h)]
  obtain ⟨rfl, rfl, rfl⟩ | ⟨rfl, hlen, rfl, rfl⟩ | ⟨rfl, hlen, hcheck, rfl, rfl⟩ := hfail
  · rfl
  · rw [if_neg Bool.false_ne_true, if_pos hlen]
  · rw [if_neg Bool.false_ne_true, if_neg (by omega), hcheck]
    rfl

end

end Sys2Proof.Proofs
end

section
/-! The serial ports' commands, settled (R343–R346, R348). -/

namespace Sys2Proof.Proofs

open Sys2Proof Sys2Proof.Machine

-- One proof after another: many at once wait for the kernel in threads of their own, which the check's memory limit does not hold.
set_option Elab.async false

/-! ## Sending (R343, R348) -/

section
variable {n : Nat} {u : Ser}

/-- The next packet beginning leaves the queue and every register but the status. -/
theorem begin_leaves : ((u.begin n).port n).queue = (u.port n).queue ∧
    ((u.port n).queue = [] → u.begin n = u) ∧
    ∀ q, q % 0x400 ≠ Reg.SER_STAT % 0x400 → rget (u.begin n).regs (rk q n 0) = rget u.regs (rk q n 0) := by
  unfold Ser.begin
  dsimp only
  split
  · exact ⟨rfl, fun _ => rfl, fun _ _ => rfl⟩
  · next h =>
    have hq : (u.port n).queue ≠ [] := fun e => h (.inl e)
    split
    · exact ⟨by rw [port_put], fun e => absurd e hq, fun q hne => ser_get_put _ 0 hne⟩
    · exact ⟨by rw [port_put], fun e => absurd e hq, fun q hne => ser_get_put _ 0 hne⟩

/-- A packet at an idle port: RS-485 waits, RS-422 sends. -/
theorem begin_idle (hq : (u.port n).queue ≠ []) (ha : (u.port n).active = false) (hw : (u.port n).wait = false) :
    (((u.begin n).port n).wait = true ↔ rfld u.regs (rk Reg.SER_CFG n 0) 1 0 = 2) ∧
      (((u.begin n).port n).active = true ↔ rfld u.regs (rk Reg.SER_CFG n 0) 1 0 ≠ 2) := by
  unfold Ser.begin
  dsimp only
  have hno : ¬ ((u.port n).queue = [] ∨ (u.port n).active = true ∨ (u.port n).wait = true) := by simp [hq, ha, hw]
  rw [if_neg hno]
  split
  · next hc =>
    rw [port_put]
    exact ⟨⟨fun _ => hc, fun _ => rfl⟩, ⟨fun e => absurd (ha.symm.trans e) (by decide), fun e => absurd hc e⟩⟩
  · next hc =>
    rw [port_put]
    exact ⟨⟨fun e => absurd (hw.symm.trans e) (by decide), fun e => absurd e hc⟩, ⟨fun _ => hc, fun _ => rfl⟩⟩

/-- A packet that gives its length and the bytes for it, each word sound. -/
structure PacketSound (w0 : Word) (ws : List (Word × Bool)) : Prop where
  some : 1 ≤ bits w0 9 0
  fits : bits w0 9 0 ≤ 1020
  whole : bits w0 9 0 ≤ 4 * ws.length
  sound : ws.all (fun w => !w.2) = true

/-- The port with a packet put at the end of its queue. -/
def queued (n : Nat) (d : List Byte) (u : Ser) : Ser := u.putPort n { u.port n with queue := (u.port n).queue ++ [d] }

theorem packet_queued {w0 : Word} {ws : List (Word × Bool)} (h : PacketSound w0 ws) (hck : rbit u.regs (rk Reg.SER_CFG n 0) 6 = false) :
    u.packet n ((w0, false) :: ws) = W.of ((queued n ((wordsBytes (ws.map (·.1))).take (bits w0 9 0)) u).begin n) := by
  have hbody : (((w0, false) :: ws).drop 1).map (·.1) = ws.map (·.1) := rfl
  have hany : ((w0, false) :: ws).any (·.2) = false := by
    rw [List.any_cons, List.any_eq_false.mpr fun w hw => ?_]
    · rfl
    · have := List.all_eq_true.mp h.sound w hw
      simpa using this
  obtain ⟨h1, h2, h3, -⟩ := h
  unfold Ser.packet
  dsimp only
  rw [hbody, hany, hck, List.length_map]
  rw [if_neg (by simp; omega), if_neg Bool.false_ne_true]
  rfl

theorem packet_malformed {w0 : Word} {ws : List (Word × Bool)}
    (h : bits w0 9 0 = 0 ∨ 1020 < bits w0 9 0 ∨ 4 * ws.length < bits w0 9 0 ∨ ws.any (·.2) = true) :
    u.packet n ((w0, false) :: ws) = (W.of u).code (Pg.SER + n) 0x1F55 [] := by
  unfold Ser.packet
  dsimp only
  refine if_pos ?_
  rw [List.any_cons, List.drop_one, List.tail_cons, List.length_map]
  simpa using h

/-- A packet leaves memory, the intakes and the program alone. -/
theorem packet_quiet (ws : List (Word × Bool)) : (u.packet n ws).st = [] ∧ (u.packet n ws).fx.Plain := by
  unfold Ser.packet
  extract_lets count body data p
  split
  · exact ⟨rfl, rfl, rfl, rfl, rfl, rfl⟩
  · exact ⟨rfl, rfl, rfl, rfl, rfl, rfl⟩

/-- The queue after a sound packet, and how an idle port begins it. -/
theorem queued_begins (d : List Byte) :
    let v := (queued n d u).begin n
    (v.port n).queue = (u.port n).queue ++ [d] ∧
      ((u.port n).active = false → (u.port n).wait = false →
        ((v.port n).wait = true ↔ rfld u.regs (rk Reg.SER_CFG n 0) 1 0 = 2) ∧
        ((v.port n).active = true ↔ rfld u.regs (rk Reg.SER_CFG n 0) 1 0 ≠ 2)) := by
  have hport : (queued n d u).port n = { u.port n with queue := (u.port n).queue ++ [d] } := port_put _
  have hcfg : rfld (queued n d u).regs (rk Reg.SER_CFG n 0) 1 0 = rfld u.regs (rk Reg.SER_CFG n 0) 1 0 :=
    congrArg (bits · 1 0) (ser_get_put _ 0 (by decide))
  refine ⟨begin_leaves.1.trans (congrArg SerialPort.queue hport), fun ha hw => ?_⟩
  have h := begin_idle (n := n) (u := queued n d u) (by rw [hport]; simp) (by rw [hport]; exact ha) (by rw [hport]; exact hw)
  rw [hcfg] at h
  exact h

/-- The port with its first packet gone. -/
def sentFirst (n : Nat) (rest : List (List Byte)) (u : Ser) : Ser := u.putPort n { u.port n with queue := rest, active := false }

theorem txDone_sent {d : List Byte} {rest : List (List Byte)} (hq : (u.port n).queue = d :: rest) (ha : (u.port n).active = true) :
    u.txDone n false = ((W.of ((sentFirst n rest u).mod Reg.SER_CNT_TX n 0 (· + 1#32))).emit (.serial n d)).map (Ser.begin n) := by
  unfold Ser.txDone
  dsimp only
  rw [hq]
  dsimp only
  rw [ha]
  rfl

theorem txDone_collided {d : List Byte} {rest : List (List Byte)} (hq : (u.port n).queue = d :: rest) (ha : (u.port n).active = true) :
    u.txDone n true = (((W.of ((sentFirst n rest u).mod Reg.SER_CNT_ERR n 0 (fun c => incSatField c 31 24))).evt (Pg.SER + n) 2).code
      (Pg.SER + n) 0x1F54 []).map (Ser.begin n) := by
  unfold Ser.txDone
  dsimp only
  rw [hq]
  dsimp only
  rw [ha]
  rfl

/-- After the first packet's end: the others stand, and an empty port is idle. -/
theorem sentFirst_leaves (rest : List (List Byte)) (r : Nat) (f : Word → Word) (hr : r % 0x400 ≠ Reg.SER_STAT % 0x400) :
    let v := ((sentFirst n rest u).mod r n 0 f).begin n
    (v.port n).queue = rest ∧ (rest = [] → (v.port n).active = false) ∧ rget v.regs (rk r n 0) = f (rget u.regs (rk r n 0)) := by
  have hport : ((sentFirst n rest u).mod r n 0 f).port n = { u.port n with queue := rest, active := false } := port_put _
  have hreg : rget ((sentFirst n rest u).mod r n 0 f).regs (rk r n 0) = f (rget u.regs (rk r n 0)) :=
    (ser_get_mod _ _ _).trans (congrArg f (ser_get_put _ 0 hr))
  obtain ⟨hq, hempty, hregs⟩ := begin_leaves (n := n) (u := (sentFirst n rest u).mod r n 0 f)
  refine ⟨hq.trans (congrArg SerialPort.queue hport), fun h => ?_, (hregs r hr).trans hreg⟩
  rw [hempty ((congrArg SerialPort.queue hport).trans h), hport]

theorem idleEnd_sends (h : (u.port n).wait = true) : ((u.idleEnd n).port n).active = true := by
  unfold Ser.idleEnd
  dsimp only
  rw [if_pos h, port_put]

theorem idleEnd_still (h : (u.port n).wait = false) : u.idleEnd n = u := by
  unfold Ser.idleEnd
  dsimp only
  rw [h]
  rfl

theorem idleEnd_waits : ((u.idleEnd n).port n).wait = false := by
  cases h : (u.port n).wait
  · rw [idleEnd_still h, h]
  · unfold Ser.idleEnd
    dsimp only
    rw [if_pos h, port_put]

end

/-! ## The state (R343) -/

section
variable {s : State} {f : Ser → W Ser}

theorem bytes_onSer (h : (f s.ser).st = []) (x : Nat) : (s.onSer f).mem.byte x = s.mem.byte x :=
  (byte_onSer f s x).trans (by rw [h]; rfl)

theorem serPage (n : Fin 12) : Pg.SER + n.val ≠ Pg.SNAP ∧ Pg.SER + n.val ≠ Pg.FLT := by
  have h1 : Pg.SER = 38 := rfl
  have h2 : Pg.SNAP = 3 := rfl
  have h3 : Pg.FLT = 26 := rfl
  omega

/-- The code a port's work records in its own page. -/
theorem errCode_port {page code : Nat} (hp : page ≠ Pg.SNAP ∧ page ≠ Pg.FLT)
    (hc : (f s.ser).fx.codes = [⟨page, code, [], false⟩]) (h : (f s.ser).fx.Plain) : (s.onSer f).errCode page = code % 0x10000 :=
  errCode_commit_delivers (l := []) (c := ⟨page, code, [], false⟩) (f s.ser).st { s with ser := (f s.ser).u } hc hp.1 hp.2 h.pushes h.triggers

/-- Plain work of a port stores nothing, hands FQ nothing, and records and sends what it names. -/
theorem plain_onSer (hst : (f s.ser).st = []) (h : (f s.ser).fx.Plain) :
    (s.onSer f).fq = s.fq ∧ (s.onSer f).outbox = (f s.ser).fx.emits.reverse ++ s.outbox ∧
      ∀ page, page ≠ Pg.SNAP → (f s.ser).fx.codes = [] → (s.onSer f).pageErr page = s.pageErr page := by
  have hform : s.onSer f = ({ s with ser := (f s.ser).u } : State).commit (f s.ser).fx [] := by
    rw [← hst]
    rfl
  generalize (f s.ser).fx = fx at *
  generalize (f s.ser).u = u at *
  rw [hform]
  refine ⟨plain_fq fx h _, plain_outbox fx h _, fun page hp hc => ?_⟩
  refine (pageErr_commit fx _ page hp h.reads h.samples h.pushes h.triggers).trans ?_
  rw [hc]
  rfl

end

/-- The firkin after a packet of its consumer is taken. -/
theorem packetFor_taken {unit n : Nat} {ws : List (Word × Bool)} {s : State} (h : (s.packetFor unit n).1 = some ws) :
    ∃ q : Fq, (s.packetFor unit n).2 = { s with fq := q } ∧ (q.firkin n).committed = (splitPacket (s.fq.firkin n).committed).2 := by
  unfold State.packetFor at h ⊢
  dsimp only at h ⊢
  split at h
  case isTrue hc =>
    rw [if_pos hc]
    exact ⟨_, rfl, congrArg Firkin.committed (sget_sset_self ..)⟩
  case isFalse => exact absurd h (by simp)


/-- A packet is the same whatever the instant. -/
theorem packetFor_at (unit n : Nat) (a : At) (s : State) : ((s.at_ a).packetFor unit n).1 = (s.packetFor unit n).1 := by
  unfold State.packetFor
  dsimp only
  rw [at_fq, show (s.at_ a).works Pg.FQ = s.works Pg.FQ from rfl]
  split
  · rfl
  · rfl

/-- A page that works, in the state that a command starts from. -/
theorem portDoes_runs {s : State} (n : Fin 12) (f : Ser → W Ser) (hw : s.works (Pg.SER + n.val) = true) (hm : s.mode.active = true) :
    s.portDoes n.val f = s.onSer f := if_pos (by rw [hw, hm]; rfl)

/-- Settles O35: a sentence by the first check it fails or its filter, a packet and a transmission by the port's queue. -/
theorem serialCommands : Obligations.SerialCommands := by
  unfold Obligations.SerialCommands
  refine ⟨fun a n age chars s hw hon hhead hlen hcheck => ?_, fun a n bad age lo code chars s hw hon hhead hfail => ?_,
    fun a n q w0 ws s hw hm hq14 hq hp => ?_, fun a n col d rest s hw hm hq ha => ?_, fun a n s hw hm => ?_⟩
  · have hexec : exec (.sentenceReceive a n false age chars) s =
        .next ((s.at_ a).onSer (Ser.sentence n.val false (s.at_ a).tim.time ((s.at_ a).tim.time - age) chars)) :=
      congrArg Host.Outcome.next (if_pos hw)
    have htake := sentence_taken (u := s.ser) (n := n.val) (now := (s.at_ a).tim.time) (start := (s.at_ a).tim.time - age) ⟨hon, hhead⟩ hlen hcheck
    obtain ⟨hst, hrx, herr, hstamp⟩ := take_taken (n := n.val) (stamp := Int.fdiv ((s.at_ a).tim.time - age) 1000 * 1000)
      (cs := skipTag (chars.map (·.toNat))) (x := readSentence (skipTag (chars.map (·.toNat)))) (u := s.ser)
    have hu := onSer_ser (Ser.sentence n.val false (s.at_ a).tim.time ((s.at_ a).tim.time - age) chars) (s.at_ a)
    have hu' := hu.trans (congrArg W.u htake)
    refine ⟨_, hexec, ?_, ?_, ?_, fun hoff => ?_, fun k name hk hfirst hkon hname hmatch => ?_, ?_, fun k => bytes_onSer ?_ k⟩
    · rw [hu']
      exact hrx
    · rw [hu']
      exact herr
    · rw [hu']
      exact hstamp
    · obtain ⟨-, hsamples, htaken, hcount⟩ := take_unmatched (stamp := Int.fdiv ((s.at_ a).tim.time - age) 1000 * 1000)
        (cs := skipTag (chars.map (·.toNat))) (x := readSentence (skipTag (chars.map (·.toNat)))) (u := s.ser) (n := n.val)
        (find_filter_none hoff)
      rw [hu']
      exact ⟨hcount, htaken, flt_commit _ _ _ ((congrArg (fun w : W Ser => w.fx.samples) htake).trans hsamples)⟩
    · obtain ⟨-, htaken, hcount⟩ := take_matched (stamp := Int.fdiv ((s.at_ a).tim.time - age) 1000 * 1000)
        (cs := skipTag (chars.map (·.toNat))) (x := readSentence (skipTag (chars.map (·.toNat)))) (u := s.ser) (n := n.val)
        (find_filter_first hk hfirst hkon hname hmatch)
      rw [hu']
      exact ⟨htaken, hcount⟩
    · rw [shell_onSer, hu]
    · exact (congrArg W.st htake).trans hst
  · have hexec : exec (.sentenceReceive a n bad age chars) s =
        .next ((s.at_ a).onSer (Ser.sentence n.val bad (s.at_ a).tim.time ((s.at_ a).tim.time - age) chars)) :=
      congrArg Host.Outcome.next (if_pos hw)
    have hdrop := sentence_discarded (u := s.ser) (n := n.val) (now := (s.at_ a).tim.time) (start := (s.at_ a).tim.time - age) ⟨hon, hhead⟩ hfail
    have hform : (s.at_ a).onSer (Ser.sentence n.val bad (s.at_ a).tim.time ((s.at_ a).tim.time - age) chars) =
        (s.at_ a).onSer (fun _ => s.ser.discard n.val lo code (Int.fdiv (s.at_ a).tim.time 1000000000)) :=
      congrArg (fun w => (s.at_ a).onSer (fun _ => w)) hdrop
    obtain ⟨hst, hplain, herr, hrx, htaken, hcodes⟩ := discard_discarded (n := n.val) (lo := lo) (code := code)
      (sec := Int.fdiv (s.at_ a).tim.time 1000000000) (u := s.ser)
    rw [hexec, hform]
    generalize s.ser.discard n.val lo code (Int.fdiv (s.at_ a).tim.time 1000000000) = w at *
    have hu : ((s.at_ a).onSer (fun _ => w)).ser = w.u := onSer_ser _ _
    refine ⟨_, rfl, ?_, ?_, ?_, ?_, fun hnew => ?_, fun hnow => ?_, ?_, fun k => bytes_onSer (s := s.at_ a) hst k⟩
    · rw [hu]
      exact herr
    · rw [hu]
      exact hrx
    · rw [hu]
      exact htaken
    · exact flt_commit _ _ _ hplain.samples
    · rw [codedNow_false hnew] at hcodes
      refine (errCode_port (s := s.at_ a) (serPage n) hcodes hplain).trans (Nat.mod_eq_of_lt ?_)
      obtain ⟨-, -, rfl⟩ | ⟨-, -, -, rfl⟩ | ⟨-, -, -, -, rfl⟩ := hfail
      · decide
      · decide
      · decide
    · rw [codedNow_true hnow] at hcodes
      exact (plain_onSer (s := s.at_ a) hst hplain).2.2 _ (serPage n).1 hcodes
    · rw [shell_onSer, hu]
  · have hgate : (s.works (Pg.SER + n.val) && s.mode.active && bit (rget s.ser.regs (rk Reg.SER_FQ n.val 0)) 14 &&
        bits (rget s.ser.regs (rk Reg.SER_FQ n.val 0)) 13 8 == q.val) = true := by
      have h14 : bit (rget s.ser.regs (rk Reg.SER_FQ n.val 0)) 14 = true := hq14
      have hq' : bits (rget s.ser.regs (rk Reg.SER_FQ n.val 0)) 13 8 = q.val := hq
      rw [hw, hm, h14, hq']
      simp
    have hp' : ((s.at_ a).packetFor (0x30 + n.val) q.val).1 = some ((w0, false) :: ws) := (packetFor_at _ _ a s).trans hp
    obtain ⟨fq, hfq, hcommitted⟩ := packetFor_taken hp'
    have hexec : exec (.serialTxPacket a n q) s = .next (({ s.at_ a with fq := fq } : State).onSer (Ser.packet n.val ((w0, false) :: ws))) := by
      refine congrArg Host.Outcome.next ((if_pos hgate).trans ?_)
      dsimp only
      rw [hp', hfq]
    obtain ⟨hst, hplain⟩ := packet_quiet (n := n.val) (u := s.ser) ((w0, false) :: ws)
    rw [hexec]
    have hform : ({ s.at_ a with fq := fq } : State).onSer (Ser.packet n.val ((w0, false) :: ws)) =
        ({ s.at_ a with fq := fq } : State).onSer (fun _ => s.ser.packet n.val ((w0, false) :: ws)) := rfl
    rw [hform]
    obtain ⟨w, hpacket⟩ : ∃ w, w = s.ser.packet n.val ((w0, false) :: ws) := ⟨_, rfl⟩
    rw [← hpacket] at hst hplain ⊢
    have hu : (({ s.at_ a with fq := fq } : State).onSer (fun _ => w)).ser = w.u := onSer_ser _ _
    obtain ⟨hkeep, -, -⟩ := plain_onSer (s := { s.at_ a with fq := fq }) (f := fun _ => w) hst hplain
    refine ⟨_, rfl, ?_, fun h1 h2 h3 h4 hck => ?_, fun hbad => ?_, ?_, fun k => bytes_onSer (s := { s.at_ a with fq := fq }) hst k⟩
    · rw [hkeep]
      exact hcommitted
    · rw [hu, hpacket, packet_queued ⟨h1, h2, h3, h4⟩ hck]
      exact queued_begins _
    · have hw := hpacket.trans (packet_malformed hbad)
      refine ⟨hu.trans (congrArg W.u hw), ?_⟩
      exact errCode_port (s := { s.at_ a with fq := fq }) (f := fun _ => w) (code := 0x1F55) (serPage n) (congrArg (fun w : W Ser => w.fx.codes) hw) hplain
    · rw [shell_onSer, hu]
      rfl
  · have hexec : exec (.serialTxDone a n col) s = .next ((s.at_ a).onSer (fun _ => s.ser.txDone n.val col)) :=
      congrArg Host.Outcome.next (portDoes_runs (s := s.at_ a) n (Ser.txDone n.val col) hw hm)
    rw [hexec]
    cases col
    case false =>
      rw [txDone_sent hq ha]
      have hu := onSer_ser (fun _ => ((W.of ((sentFirst n.val rest s.ser).mod Reg.SER_CNT_TX n.val 0 (· + 1#32))).emit (.serial n.val d)).map
        (Ser.begin n.val)) (s.at_ a)
      obtain ⟨hrest, hempty, hcount⟩ := sentFirst_leaves (n := n.val) (u := s.ser) rest Reg.SER_CNT_TX (· + 1#32) (by decide)
      refine ⟨_, rfl, ?_, fun h => ?_, fun _ => ⟨?_, ?_⟩, fun h => absurd h (by decide), ?_, fun k => bytes_onSer (s := s.at_ a) rfl k⟩
      · rw [hu]
        exact hrest
      · rw [hu]
        exact hempty h
      · rw [(plain_onSer (s := s.at_ a) rfl ⟨rfl, rfl, rfl, rfl, rfl⟩).2.1]
        exact List.mem_append_left _ (by exact List.mem_singleton_self _)
      · rw [hu]
        exact hcount
      · rw [shell_onSer, hu]
    case true =>
      rw [txDone_collided hq ha]
      have hu := onSer_ser (fun _ => (((W.of ((sentFirst n.val rest s.ser).mod Reg.SER_CNT_ERR n.val 0 (fun c => incSatField c 31 24))).evt
        (Pg.SER + n.val) 2).code (Pg.SER + n.val) 0x1F54 []).map (Ser.begin n.val)) (s.at_ a)
      obtain ⟨hrest, hempty, hcount⟩ := sentFirst_leaves (n := n.val) (u := s.ser) rest Reg.SER_CNT_ERR (fun c => incSatField c 31 24) (by decide)
      refine ⟨_, rfl, ?_, fun h => ?_, fun h => absurd h (by decide), fun _ => ⟨?_, ?_, ?_⟩, ?_, fun k => bytes_onSer (s := s.at_ a) rfl k⟩
      · rw [hu]
        exact hrest
      · rw [hu]
        exact hempty h
      · exact (plain_onSer (s := s.at_ a) rfl ⟨rfl, rfl, rfl, rfl, rfl⟩).2.1
      · exact errCode_port (s := s.at_ a) (code := 0x1F54) (serPage n) rfl ⟨rfl, rfl, rfl, rfl, rfl⟩
      · rw [hu]
        exact hcount
      · rw [shell_onSer, hu]
  · have hexec : exec (.rs485IdleWaitEnd a n) s = .next ((s.at_ a).onSer (fun u => W.of (u.idleEnd n.val))) :=
      congrArg Host.Outcome.next (portDoes_runs (s := s.at_ a) n (fun u => W.of (u.idleEnd n.val)) hw hm)
    have hu := onSer_ser (fun u => W.of (u.idleEnd n.val)) (s.at_ a)
    rw [hexec]
    refine ⟨_, rfl, ?_, fun hwait => ?_, fun hwait => ?_, by rw [shell_onSer, hu], fun k => bytes_onSer (s := s.at_ a) rfl k⟩
    · rw [hu]
      exact idleEnd_waits
    · rw [hu]
      exact idleEnd_sends hwait
    · rw [hu]
      exact idleEnd_still hwait

end Sys2Proof.Proofs
end

section
/-! The field groups' commands (R331, R340): what a refresh records last. -/

namespace Sys2Proof.Proofs

open Sys2Proof Sys2Proof.Machine

-- One proof after another: many at once wait for the kernel in threads of their own, which the check's memory limit does not hold.
set_option Elab.async false

/-- RUN, an image whose one task is that of a core beyond the three: its page number is that of group 0. The task waits for a rising
edge of channel 0 of that group, and reads a poisoned block. L+ of the group has been low for two refreshes. -/
def taskOfGroupPage : State :=
  { State.reset with
    mode := .run
    mem := ⟨[], [(sramAddr 0 / 32, 7)]⟩
    prg := { State.reset.prg with
      image := some ⟨0, 0, 0, [⟨0, true, Pg.FIO - Pg.PRG, 0, 0, 0, 0, 0, 0x00100003#32, [⟨0, 0, 1, 0⟩], []⟩], [], []⟩ }
    fio := ⟨rset State.reset.fio.regs (rk Reg.FIO_CH_CFG 0 0) 1#32, [(0, { FieldGroup.fresh with below12 := 2 })]⟩ }

/-- PAGE_ERR.CODE of a page after a command. -/
def errCodeAfter (c : Instr) (page : Nat) (s : State) : Option Nat :=
  match exec c s with
  | .next t => some (t.errCode page)
  | _ => none

theorem errCodeAfter_next {c : Instr} {page : Nat} {s t : State} (h : exec c s = .next t) : errCodeAfter c page s = some (t.errCode page) := by
  unfold errCodeAfter
  rw [h]

/-- The refresh that switches the drivers off also releases the task, whose poisoned input is recorded after it in the same page. -/
theorem refresh_records_input : errCodeAfter (.fieldRefresh ⟨0, []⟩ 0 true 1 0 [] 0) Pg.FIO taskOfGroupPage = some 0x20C3 := by decide +kernel

/-- Refutes O34: a refresh below 12 V may release a task whose core is any number, and the task's own code then follows 0x2F11 in the page. -/
theorem not_fieldCommands : ¬ Obligations.FieldCommands := by
  unfold Obligations.FieldCommands
  rintro ⟨-, hgood, -⟩
  obtain ⟨t, hexec, -, -, -, -, -, -, -, -, hlow, -⟩ := hgood ⟨0, []⟩ 0 1 0 [] 0 taskOfGroupPage (by decide +kernel)
  obtain ⟨-, -, hcode⟩ := hlow (by decide) (by decide +kernel) (by decide +kernel) (by decide +kernel)
  have h := (errCodeAfter_next (page := Pg.FIO) hexec).symm.trans refresh_records_input
  rw [show t.errCode Pg.FIO = 0x2F11 from hcode] at h
  exact absurd h (by decide)

end Sys2Proof.Proofs
end

section
/-! SUPPORT. The work of a CAN controller: its cells, what reception and sleep leave (R310, R316–R320, R326). -/

namespace Sys2Proof.Proofs

open Sys2Proof Sys2Proof.Machine

-- One proof after another: many at once wait for the kernel in threads of their own, which the check's memory limit does not hold.
set_option Elab.async false

/-- A field of a word apart from the bit that is put. -/
theorem bits_putBit_apart (w : Word) {i h l : Nat} (b : Bool) (h32 : h < 32) (ha : i < l ∨ h < i) : bits (putBit w i b) h l = bits w h l := by
  refine Nat.eq_of_testBit_eq fun k => ?_
  rw [testBit_bits, testBit_bits]
  by_cases hk : k < h + 1 - l
  · have hj := bit_putBit w i b (j := l + k) (by omega)
    rw [if_neg (by omega)] at hj
    unfold bit at hj
    simp [hk, hj]
  · simp [hk]

/-! ## Cells and controllers -/

section
variable {n : Nat} {u : Can}

theorem can_get_mod (r w : Nat) (f : Word → Word) : rget (u.mod r n w f).regs (rk r n w) = f (rget u.regs (rk r n w)) :=
  (rget_rmod ..).trans (if_pos rfl)

/-- Another register of the same controller. -/
theorem can_get_mod_other (r w : Nat) (f : Word → Word) {q : Nat} (v : Nat) (h : q % 0x400 ≠ r % 0x400) :
    rget (u.mod r n w f).regs (rk q n v) = rget u.regs (rk q n v) := rget_rmod_ne _ _ (rk_ne w h)

theorem bus_put (b : CanBus) : (u.putBus n b).bus n = b := sget_sset_self ..

theorem taken_put (b : CanBus) : ((u.putBus n b).bus n).taken = b.taken := by rw [bus_put]

theorem bus_put_ne (b : CanBus) {m : Nat} (h : m ≠ n) : (u.putBus n b).bus m = u.bus m := sget_sset_ne _ _ _ h

theorem obj_put (o : Nat) (x : TxObject) : (u.putObj n o x).obj n o = x := by
  unfold Can.obj Can.putObj
  rw [bus_put]
  exact sget_sset_self ..

theorem bus_putObj (o : Nat) (x : TxObject) : (u.putObj n o x).bus n = { u.bus n with objs := sset txDefault (u.bus n).objs o x } := bus_put _

theorem canState_set {st : Nat} (h : st < 16) : (u.setState n st).state n = st := by
  unfold Can.setState Can.state
  rw [rfld, can_get_mod, bits_putBits_same _ _ (by decide) (by decide)]
  exact Nat.mod_eq_of_lt h

/-- A change of another register leaves STATE. -/
theorem state_mod (r w : Nat) (f : Word → Word) (h : Reg.CAN_STAT % 0x400 ≠ r % 0x400) : (u.mod r n w f).state n = u.state n :=
  congrArg (bits · 3 0) (can_get_mod_other r w f 0 h)

theorem state_ctrl (b : Bool) : (u.mod Reg.CAN_CTRL n 0 (fun c => putBit c 3 b)).state n = u.state n :=
  state_mod Reg.CAN_CTRL 0 (fun c => putBit c 3 b) (by decide)

theorem state_put (b : CanBus) : (u.putBus n b).state n = u.state n := rfl

end

/-! ## Work that differs in codes and flags alone -/

/-- Whatever b asks beside codes and flags, a asks too, and no more. -/
structure AsksLike (a b : Fx) : Prop where
  reads : a.reads = b.reads
  samples : a.samples = b.samples
  pushes : a.pushes = b.pushes
  triggers : a.triggers = b.triggers
  emits : a.emits = b.emits
  heals : a.heals = b.heals

theorem AsksLike.refl (a : Fx) : AsksLike a a := ⟨rfl, rfl, rfl, rfl, rfl, rfl⟩

theorem AsksLike.trans {a b c : Fx} (h : AsksLike a b) (k : AsksLike b c) : AsksLike a c :=
  ⟨h.reads.trans k.reads, h.samples.trans k.samples, h.pushes.trans k.pushes, h.triggers.trans k.triggers, h.emits.trans k.emits,
    h.heals.trans k.heals⟩

theorem AsksLike.plain {a b : Fx} (h : AsksLike a b) (hb : b.Plain) : a.Plain :=
  ⟨h.reads.trans hb.reads, h.samples.trans hb.samples, h.pushes.trans hb.pushes, h.triggers.trans hb.triggers, h.heals.trans hb.heals⟩

/-! ## Error-active and error-passive (R316) -/

/-- What the change between error-active and error-passive leaves. -/
structure PassiveFrom (n : Nat) (w v : W Can) : Prop where
  st : v.st = w.st
  asks : AsksLike v.fx w.fx
  buses : v.u.buses = w.u.buses
  cells : ∀ q x, q % 0x400 ≠ Reg.CAN_STAT % 0x400 → rget v.u.regs (rk q n x) = rget w.u.regs (rk q n x)

/-- Whether the counters make a controller error-passive. -/
def passiveBy (b : CanBus) : Bool := decide (128 ≤ b.tec) || decide (128 ≤ b.rec_)

theorem passive_from (n : Nat) (w : W Can) : PassiveFrom n w (Can.passive n w) := by
  unfold Can.passive
  dsimp only
  split
  · exact ⟨rfl, ⟨rfl, rfl, rfl, rfl, rfl, rfl⟩, rfl, fun q x hq => can_get_mod_other _ _ _ x hq⟩
  · split
    · exact ⟨rfl, ⟨rfl, rfl, rfl, rfl, rfl, rfl⟩, rfl, fun q x hq => can_get_mod_other _ _ _ x hq⟩
    · exact ⟨rfl, .refl _, rfl, fun _ _ _ => rfl⟩

/-- STATE by the counters. -/
theorem passive_state {n : Nat} {w : W Can} (h : w.u.state n = 2 ∨ w.u.state n = 3) :
    (Can.passive n w).u.state n = if passiveBy (w.u.bus n) then 3 else 2 := by
  unfold Can.passive
  dsimp only
  rw [show (decide (128 ≤ (w.u.bus n).tec) || decide (128 ≤ (w.u.bus n).rec_)) = passiveBy (w.u.bus n) from rfl]
  cases passiveBy (w.u.bus n)
  case false =>
    rw [if_neg (fun h => Bool.false_ne_true h.2)]
    obtain h | h := h
    · rw [if_neg (by rw [h]; simp)]
      exact h
    · rw [if_pos ⟨h, rfl⟩]
      exact canState_set (by decide)
  case true =>
    obtain h | h := h
    · rw [if_pos ⟨h, rfl⟩]
      exact canState_set (by decide)
    · rw [if_neg (by rw [h]; simp), if_neg (by simp)]
      exact h

/-! ## A frame delivered (R317, R326) -/

/-- What the delivery of a frame leaves of its controller. -/
structure Delivered (n k : Nat) (w v : W Can) : Prop where
  st : v.st = w.st
  regs : v.u.regs = w.u.regs
  taken : (v.u.bus n).taken = sset (fun _ => 0) (w.u.bus n).taken k (sget (fun _ => 0) (w.u.bus n).taken k + 1)

section
variable {n k : Nat} {stamp : Int} {f : CanRx} {w : W Can}

/-- The samples of a frame. -/
def frameSamples (n k : Nat) (stamp : Int) (xs : List Int) (w : W Can) : W Can :=
  ((upto xs.length).zip xs).foldl (fun w x => w.sample ⟨0x22 + n, 256 * k + x.1, stamp, x.2⟩) w

theorem frameSamples_leaves (xs : List Int) : (frameSamples n k stamp xs w).st = w.st ∧ (frameSamples n k stamp xs w).u = w.u :=
  foldl_keeps (fun v : W Can => v.st = w.st ∧ v.u = w.u) (fun w (x : Nat × Int) => w.sample ⟨0x22 + n, 256 * k + x.1, stamp, x.2⟩)
    (fun _ _ h => h) _ _ ⟨rfl, rfl⟩

/-- The delivery of a frame, along the paths named by its filter. -/
theorem deliver_eq : Can.deliver n k stamp f w =
    let cfg := rget w.u.regs (rk Reg.CAN_RX_CFG n k)
    let y := w.when (bit cfg 3) (frameSamples n k stamp (f.words (bits cfg 2 1)))
    let z := y.when (bit cfg 4) (·.push ⟨0x22 + n, bits cfg 10 5,
      ([wd (k + 256 * f.dlc + 4096 * b2n f.fdf + 8192 * b2n f.brs + 16384 * b2n f.esi + 32768 * b2n f.xtd), lo32 stamp, hi32 stamp,
        wd f.ident] ++ toWords ((f.data.length + 3) / 4) f.data).map (fun x => (x, false))⟩)
    (z.map (fun u => u.putBus n { u.bus n with
      taken := sset (fun _ => 0) (u.bus n).taken k (sget (fun _ => 0) (u.bus n).taken k + 1) })).trigger ⟨2, n, k⟩ := rfl

theorem when_of {U : Type} {P : W U → Prop} {w : W U} (hw : P w) (c : Bool) {g : W U → W U} (hg : P (g w)) : P (w.when c g) := by
  cases c
  case false => exact hw
  case true => exact hg

theorem deliver_delivered : Delivered n k w (Can.deliver n k stamp f w) := by
  rw [deliver_eq]
  extract_lets cfg y z
  have hy : y.st = w.st ∧ y.u = w.u := when_of (P := fun v : W Can => v.st = w.st ∧ v.u = w.u) ⟨rfl, rfl⟩ _ (frameSamples_leaves _)
  have hz : z.st = w.st ∧ z.u = w.u := when_of (P := fun v : W Can => v.st = w.st ∧ v.u = w.u) hy _ hy
  refine ⟨hz.1, ?_, ?_⟩
  · change z.u.regs = w.u.regs
    rw [hz.2]
  · change ((z.u.putBus n _).bus n).taken = _
    rw [bus_put, hz.2]

/-- The samples of a delivery: those of the frame when the filter asks for them. -/
theorem deliver_samples : (Can.deliver n k stamp f w).fx.samples =
    if rbit w.u.regs (rk Reg.CAN_RX_CFG n k) 3 then
      (frameSamples n k stamp (f.words (rfld w.u.regs (rk Reg.CAN_RX_CFG n k) 2 1)) w).fx.samples else w.fx.samples := by
  rw [deliver_eq]
  extract_lets cfg y z
  have hb : rbit w.u.regs (rk Reg.CAN_RX_CFG n k) 3 = bit cfg 3 := rfl
  have hf : rfld w.u.regs (rk Reg.CAN_RX_CFG n k) 2 1 = bits cfg 2 1 := rfl
  have hz : z.fx.samples = y.fx.samples := when_of (P := fun v : W Can => v.fx.samples = y.fx.samples) rfl _ rfl
  rw [hb, hf]
  refine hz.trans ?_
  change (W.when (bit cfg 3) _ w).fx.samples = _
  cases bit cfg 3
  · rfl
  · rfl

theorem deliver_reads : (Can.deliver n k stamp f w).fx.reads = w.fx.reads := by
  rw [deliver_eq]
  extract_lets cfg y z
  have hone : (frameSamples n k stamp (f.words (bits cfg 2 1)) w).fx.reads = w.fx.reads :=
    foldl_keeps (fun v : W Can => v.fx.reads = w.fx.reads)
      (fun w (x : Nat × Int) => w.sample ⟨0x22 + n, 256 * k + x.1, stamp, x.2⟩) (fun _ _ h => h) _ _ rfl
  have hy : y.fx.reads = w.fx.reads := when_of (P := fun v : W Can => v.fx.reads = w.fx.reads) rfl _ hone
  exact when_of (P := fun v : W Can => v.fx.reads = w.fx.reads) hy _ hy

end

/-! ## A frame matched (R317, R326) -/

section
variable {n : Nat} {active : Bool} {stone : Word} {now : Int} {f : CanRx} {w : W Can}

theorem match_none (h : w.u.filterOf n f = none) : Can.match_ n active stone now f w = w := by
  unfold Can.match_
  dsimp only
  rw [h]

theorem match_plain {k : Nat} (h : w.u.filterOf n f = some k) (hf : rfld w.u.regs (rk Reg.CAN_RX_CFG n k) 2 1 ≠ 2) :
    Can.match_ n active stone now f w = Can.deliver n k (now - f.age) f w := by
  unfold Can.match_
  dsimp only
  rw [h]
  dsimp only
  rw [if_neg hf]

theorem match_guard {k : Nat} (h : w.u.filterOf n f = some k) (hf : rfld w.u.regs (rk Reg.CAN_RX_CFG n k) 2 1 = 2)
    (hg : f.dlc ≠ 13 ∨ wd (leNat (sliceB f.data 28 4)) ≠ dalsenGuard f.ident f.data) :
    Can.match_ n active stone now f w =
      ((w.map (fun u => u.mod Reg.CAN_RX_STAT n k (fun c => incSatField c 30 16))).evt (Pg.CAN + n) 5).code (Pg.CAN + n) 0x1E32 [wd k] := by
  unfold Can.match_
  dsimp only
  rw [h]
  dsimp only
  rw [if_pos hf, if_pos hg]

/-- A version 2 frame whose guard holds: FOREIGN by its stone, then the delivery. -/
theorem match_guarded {k : Nat} (h : w.u.filterOf n f = some k) (hf : rfld w.u.regs (rk Reg.CAN_RX_CFG n k) 2 1 = 2)
    (hg : ¬ (f.dlc ≠ 13 ∨ wd (leNat (sliceB f.data 28 4)) ≠ dalsenGuard f.ident f.data)) :
    ∃ (b c : Bool), Can.match_ n active stone now f w = Can.deliver n k (now - f.age) f
      ((w.map (fun u => u.mod Reg.CAN_RX_STAT n k (fun x => putBit x 31 b))).when c
        (fun w => (w.evt (Pg.CAN + n) 6).code (Pg.CAN + n) 0x1E33 [wd k])) := by
  unfold Can.match_
  dsimp only
  rw [h]
  dsimp only
  rw [if_pos hf, if_neg hg]
  exact ⟨_, _, rfl⟩

/-- Whatever a frame matches, nothing is stored, and of the controller's registers only those of the filter change. -/
theorem match_leaves :
    let v := Can.match_ n active stone now f w
    v.st = w.st ∧ ∀ q x, q % 0x400 ≠ Reg.CAN_RX_STAT % 0x400 → rget v.u.regs (rk q n x) = rget w.u.regs (rk q n x) := by
  cases h : w.u.filterOf n f with
  | none =>
    rw [match_none h]
    exact ⟨rfl, fun _ _ _ => rfl⟩
  | some k =>
    by_cases hf : rfld w.u.regs (rk Reg.CAN_RX_CFG n k) 2 1 = 2
    · by_cases hg : f.dlc ≠ 13 ∨ wd (leNat (sliceB f.data 28 4)) ≠ dalsenGuard f.ident f.data
      · rw [match_guard h hf hg]
        exact ⟨rfl, fun q x hq => can_get_mod_other _ _ _ x hq⟩
      · obtain ⟨b, c, he⟩ := match_guarded (active := active) (stone := stone) (now := now) h hf hg
        rw [he]
        obtain ⟨y, hy⟩ : ∃ y, y = (w.map (fun u => u.mod Reg.CAN_RX_STAT n k (fun x => putBit x 31 b))).when c
          (fun w => (w.evt (Pg.CAN + n) 6).code (Pg.CAN + n) 0x1E33 [wd k]) := ⟨_, rfl⟩
        have hyst : y.st = w.st ∧ y.u = w.u.mod Reg.CAN_RX_STAT n k (fun x => putBit x 31 b) := by
          rw [hy]
          cases c
          · exact ⟨rfl, rfl⟩
          · exact ⟨rfl, rfl⟩
        rw [← hy]
        obtain ⟨hst, hregs, -⟩ := deliver_delivered (n := n) (k := k) (stamp := now - f.age) (f := f) (w := y)
        refine ⟨hst.trans hyst.1, fun q x hq => ?_⟩
        rw [hregs, hyst.2]
        exact can_get_mod_other _ _ _ x hq
    · rw [match_plain h hf]
      obtain ⟨hst, hregs, -⟩ := deliver_delivered (n := n) (k := k) (stamp := now - f.age) (f := f) (w := w)
      exact ⟨hst, fun q x _ => by rw [hregs]⟩

end

/-- A filter is found by its registers alone. -/
theorem filterOf_congr {n : Nat} {f : CanRx} {u v : Can}
    (h : ∀ q x, q = Reg.CAN_RX_ID ∨ q = Reg.CAN_RX_CFG ∨ q = Reg.CAN_RX_MASK → rget v.regs (rk q n x) = rget u.regs (rk q n x)) :
    v.filterOf n f = u.filterOf n f := by
  unfold Can.filterOf rbit
  dsimp only
  refine congrArg (fun p => (upto 128).find? p) (funext fun k => ?_)
  rw [h _ _ (.inl rfl), h _ _ (.inr (.inl rfl)), h _ _ (.inr (.inr rfl))]

end Sys2Proof.Proofs
end

section
/-! SUPPORT. The write of CANn_CTRL (R8, R316, R318, R319): in RUN its RWL fields stand, and no field is lost that keeps its value. -/

namespace Sys2Proof.Proofs

open Sys2Proof Sys2Proof.Machine

-- One proof after another: many at once wait for the kernel in threads of their own, which the check's memory limit does not hold.
set_option Elab.async false

/-- Whether a write in RUN tries to change a field that stands there. -/
def losesField (hp off : Nat) (r : RegRow) (v : Word) (s : State) : Bool :=
  (s.mode == .run) && ((v ^^^ s.regWord hp off r) &&& wd r.rwl != 0#32)

/-- An admitted write of a named register that loses no field and whose row takes it. -/
theorem writePlain_keeping (acc : Accessor) (reg n : Nat) (v : Word) (s : State)
    (h : s.Admits acc (reg / 0x400 + n) (reg % 0x400)) (h4 : reg % 4 = 0) (h40 : 0x40 ≤ reg % 0x400) (r : RegRow) (w : Nat)
    (hh : homePage (reg / 0x400 + n) (reg % 0x400) = reg / 0x400 + n)
    (hr : rowOf (reg / 0x400 + n) (reg % 0x400) = some r) (hx : regOf (reg / 0x400 + n) (reg % 0x400) = (reg, n))
    (hw : s.windowOf (reg / 0x400 + n) r = some w) (hl : losesField (reg / 0x400 + n) (reg % 0x400) r v s = false) (hg : reg ≠ Reg.GNS_CH_CFG)
    (hd : s.discards reg n w v = false) (ht : r.takes (s.mode == .run) v = true) :
    s.writePlain acc reg n v =
      (State.actPlain reg n w v (rget (s.cells (reg / 0x400 + n)) (cellKey (reg / 0x400 + n) (reg % 0x400) w))
        (s.written (reg / 0x400 + n) (reg / 0x400 + n) (reg % 0x400) w reg r v)).releaseIdle := by
  unfold State.writePlain
  rw [writeNamed_admitted _ acc reg n v s h h4 h40]
  have hf : s.fieldsOf reg (rget (s.cells (reg / 0x400 + n)) (cellKey (reg / 0x400 + n) (reg % 0x400) w)) v = v := by
    unfold State.fieldsOf
    rw [if_neg (fun h => hg h.1)]
  unfold losesField at hl
  unfold State.rowWrite State.written
  dsimp only
  rw [hh, hr]
  dsimp only
  rw [hw]
  dsimp only
  rw [hx]
  dsimp only
  rw [hf, hl]
  simp only [Bool.false_eq_true, if_false]
  rw [hd]
  simp only [Bool.false_eq_true, if_false, ht, Bool.true_or, if_true]
  rfl

/-- The register row of CANn_CTRL. -/
def canCtrlRow : RegRow := ⟨0x40, 1, 0x18, 0x23, 0, 0, 4, 0, 1⟩

theorem canCtrl_listed : ∀ n : Fin 4,
    homePage (Reg.CAN_CTRL / 0x400 + n.val) (Reg.CAN_CTRL % 0x400) = Reg.CAN_CTRL / 0x400 + n.val ∧
      rowOf (Reg.CAN_CTRL / 0x400 + n.val) (Reg.CAN_CTRL % 0x400) = some canCtrlRow ∧
      regOf (Reg.CAN_CTRL / 0x400 + n.val) (Reg.CAN_CTRL % 0x400) = (Reg.CAN_CTRL, n.val) := by decide

/-- The value written by a command on bit i. -/
def ctrlValue (old : Word) (i : Nat) (b : Bool) : Word := putBit (putBit old 2 false) i b

theorem getLsbD_putBit (w : Word) {i k : Nat} (b : Bool) (hk : k < 32) : (putBit w i b).getLsbD k = if k = i then b else w.getLsbD k := by
  have h := bit_putBit w i b hk
  unfold bit at h
  exact h

/-- The fields that a write takes. -/
def ctrlMask (run : Bool) : Word := if run then 0x18#32 else 0x3B#32

theorem ctrlRow_written (run : Bool) (old v : Word) : canCtrlRow.written run old v = (old &&& ~~~(ctrlMask run)) ||| (v &&& ctrlMask run) := by
  unfold RegRow.written
  dsimp only [canCtrlRow]
  rw [show wd 0 = 0#32 from rfl, BitVec.and_zero, show ~~~(0#32) = BitVec.allOnes 32 from by decide, BitVec.and_allOnes]
  cases run
  · rfl
  · rfl

theorem ctrlMask_bits (run : Bool) : (ctrlMask run).getLsbD 3 = true ∧ (ctrlMask run).getLsbD 2 = false := by
  cases run
  · decide
  · decide

/-- A bit of a word put together under a mask. -/
theorem getLsbD_under (old v m : Word) {k : Nat} (hk : k < 32) :
    ((old &&& ~~~m) ||| (v &&& m)).getLsbD k = if m.getLsbD k then v.getLsbD k else old.getLsbD k := by
  rw [BitVec.getLsbD_or, BitVec.getLsbD_and, BitVec.getLsbD_and, BitVec.getLsbD_not]
  cases m.getLsbD k
  · simp [hk]
  · simp

/-- The written cell keeps every field but SLEEP, which it takes from the value. -/
theorem ctrl_written (run : Bool) (old : Word) (i : Nat) (b : Bool) (h : i = 2 ∨ i = 3) :
    canCtrlRow.written run old (ctrlValue old i b) = if i = 3 then putBit old 3 b else old := by
  refine BitVec.eq_of_getLsbD_eq fun k hk => ?_
  obtain ⟨h3, h2⟩ := ctrlMask_bits run
  rw [ctrlRow_written, getLsbD_under _ _ _ hk]
  unfold ctrlValue
  rw [getLsbD_putBit _ _ hk, getLsbD_putBit _ _ hk]
  by_cases e2 : k = 2
  · subst e2
    rw [h2]
    obtain rfl | rfl := h
    · rfl
    · rw [if_pos (rfl : 3 = 3), getLsbD_putBit _ _ hk]
      rfl
  · obtain rfl | rfl := h
    · rw [if_neg e2, if_neg e2, ite_self]
      rfl
    · rw [if_neg e2, if_pos rfl, getLsbD_putBit _ _ hk]
      by_cases e3 : k = 3
      · subst e3
        rw [h3]
        rfl
      · rw [if_neg e3, ite_self]

/-- The value of a command on SLEEP or RECOVER changes no field that stands in RUN. -/
theorem ctrlValue_keeps (old : Word) (i : Nat) (b c : Bool) (h : i = 2 ∨ i = 3) :
    (ctrlValue old i b ^^^ putBit old 2 c) &&& wd canCtrlRow.rwl = 0#32 := by
  refine BitVec.eq_of_getLsbD_eq fun k hk => ?_
  unfold ctrlValue
  rw [BitVec.getLsbD_and, BitVec.getLsbD_xor, getLsbD_putBit _ _ hk, getLsbD_putBit _ _ hk, getLsbD_putBit _ _ hk, BitVec.getLsbD_zero]
  by_cases e2 : k = 2
  · subst e2
    rw [show (wd canCtrlRow.rwl).getLsbD 2 = false from by decide, Bool.and_false]
  · by_cases e3 : k = 3
    · subst e3
      rw [show (wd canCtrlRow.rwl).getLsbD 3 = false from by decide, Bool.and_false]
    · have ei : k ≠ i := by omega
      rw [if_neg ei, if_neg e2, if_neg e2, Bool.xor_self, Bool.false_and]

section
variable {acc : Accessor} {s : State} {n : Fin 4}

/-- The pages of the CAN controllers. -/
theorem setCells_can (n : Fin 4) (s : State) (m : RMap) : s.setCells (Pg.CAN + n.val) m = { s with can := { s.can with regs := m } } := by
  have hp : Pg.CAN = 22 := rfl
  unfold State.setCells
  simp only [Pg.PWR, Pg.SNAP, Pg.SEQ, Pg.TIM, Pg.NVS, Pg.REC, Pg.SFO, Pg.FQ, Pg.CHN, Pg.PRP, Pg.PTP, Pg.FLT, Pg.EST, Pg.FUS1, Pg.GNSC,
    Pg.SOL1, Pg.ALC, hp]
  repeat rw [if_neg (by omega)]
  rw [if_pos (by omega)]

theorem cells_can (n : Fin 4) (s : State) : s.cells (Pg.CAN + n.val) = s.can.regs := by
  have hp : Pg.CAN = 22 := rfl
  unfold State.cells
  simp only [Pg.PWR, Pg.SNAP, Pg.SEQ, Pg.TIM, Pg.NVS, Pg.REC, Pg.SFO, Pg.FQ, Pg.CHN, Pg.PRP, Pg.PTP, Pg.FLT, Pg.EST, Pg.FUS1, Pg.GNSC,
    Pg.SOL1, Pg.ALC, hp]
  repeat rw [if_neg (by omega)]
  rw [if_pos (by omega)]

/-- CANn_CTRL as it reads: RECOVER shows whether recovery has begun. -/
theorem ctrl_shown (n : Fin 4) (s : State) : s.regWord (Pg.CAN + n.val) 0x40 canCtrlRow =
    putBit (rget s.can.regs (rk Reg.CAN_CTRL n.val 0)) 2 (s.can.bus n.val).recover := by
  unfold State.regWord
  have hreg := (canCtrl_listed n).2.2
  rw [show s.windowOf (Pg.CAN + n.val) canCtrlRow = some 0 from rfl]
  dsimp only
  rw [show regOf (Pg.CAN + n.val) 0x40 = (Reg.CAN_CTRL, n.val) from hreg]
  dsimp only
  rw [show s.pendingBits Reg.CAN_CTRL n.val 0 = none from rfl]
  dsimp only
  rw [show s.windowWord Reg.CAN_CTRL n.val = none from rfl]
  dsimp only
  rw [show s.derived Reg.CAN_CTRL n.val 0 = some (putBit (rget s.can.regs (rk Reg.CAN_CTRL n.val 0)) 2 (s.can.bus n.val).recover) from rfl]

/-- The state in which the write of CANn_CTRL acts: of the controllers one cell changed. -/
structure CtrlWritten (n : Nat) (x : Word) (s w : State) : Prop where
  cell : rget w.can.regs (rk Reg.CAN_CTRL n 0) = x
  other : ∀ j, j ≠ rk Reg.CAN_CTRL n 0 → rget w.can.regs j = rget s.can.regs j
  buses : w.can.buses = s.can.buses
  mem : w.mem = s.mem
  time : w.tim = s.tim

theorem written_canCtrl (v : Word) : CtrlWritten n.val
    (canCtrlRow.written (s.mode == .run) (rget s.can.regs (rk Reg.CAN_CTRL n.val 0)) v) s
    (s.written (Pg.CAN + n.val) (Pg.CAN + n.val) 0x40 0 Reg.CAN_CTRL canCtrlRow v) := by
  have hkey : cellKey (Pg.CAN + n.val) 0x40 0 = rk Reg.CAN_CTRL n.val 0 := by
    have hp : Pg.CAN = 22 := rfl
    unfold cellKey rk Reg.CAN_CTRL
    omega
  obtain ⟨y, hy⟩ : ∃ y : Sup, s.written (Pg.CAN + n.val) (Pg.CAN + n.val) 0x40 0 Reg.CAN_CTRL canCtrlRow v =
      { s with
        hdr := hdrSeq s.hdr (Pg.CAN + n.val)
        sup := y
        can := { s.can with
          regs := rset s.can.regs (rk Reg.CAN_CTRL n.val 0)
            (canCtrlRow.written (s.mode == .run) (rget s.can.regs (rk Reg.CAN_CTRL n.val 0)) v) } } := by
    refine ⟨if (s.mode != .run) = true then { s.sup with passed := false } else s.sup, ?_⟩
    unfold State.written
    dsimp only
    rw [if_neg (show ¬ ownCell Reg.CAN_CTRL = true by decide), setCells_can, cells_can, cells_can, hkey]
    rw [show (canCtrlRow.rwl != 0) = true from rfl, Bool.true_and]
    cases s.mode != .run
    · rfl
    · rfl
  rw [hy]
  exact ⟨(rget_rset ..).trans (if_pos rfl), fun j hj => (rget_rset ..).trans (if_neg hj), rfl, rfl, rfl⟩

/-- A command on SLEEP or RECOVER: the cell, then what CANn_CTRL does. -/
theorem canCtrlBit_taken (i : Nat) (b : Bool) (hi : i = 2 ∨ i = 3) (h : s.Admits acc (Pg.CAN + n.val) (Reg.CAN_CTRL % 0x400)) :
    let old := rget s.can.regs (rk Reg.CAN_CTRL n.val 0)
    ∃ w, CtrlWritten n.val (if i = 3 then putBit old 3 b else old) s w ∧
      s.canCtrlBit acc n.val i b = (w.canCtrl n.val old (ctrlValue old i b)).releaseIdle := by
  intro old
  obtain ⟨hhome, hrow, hreg⟩ := canCtrl_listed n
  have hlost : losesField (Pg.CAN + n.val) 0x40 canCtrlRow (ctrlValue old i b) s = false := by
    unfold losesField
    rw [ctrl_shown, ctrlValue_keeps old i b _ hi]
    simp
  have hw := written_canCtrl (s := s) (n := n) (ctrlValue old i b)
  rw [ctrl_written _ _ _ _ hi] at hw
  refine ⟨_, hw, ?_⟩
  refine (writePlain_keeping acc Reg.CAN_CTRL n.val (ctrlValue old i b) s h (by decide) (by decide) canCtrlRow 0 hhome hrow hreg rfl hlost
    (by decide) rfl (by cases s.mode == .run <;> rfl)).trans ?_
  have hcell : rget (s.cells (Reg.CAN_CTRL / 0x400 + n.val)) (cellKey (Reg.CAN_CTRL / 0x400 + n.val) (Reg.CAN_CTRL % 0x400) 0) = old := by
    have hkey : cellKey (Pg.CAN + n.val) 0x40 0 = rk Reg.CAN_CTRL n.val 0 := by
      have hp : Pg.CAN = 22 := rfl
      unfold cellKey rk Reg.CAN_CTRL
      omega
    exact (congrArg (fun m => rget m (cellKey (Pg.CAN + n.val) 0x40 0)) (cells_can n s)).trans (congrArg (rget s.can.regs) hkey)
  rw [hcell]
  rfl

end

end Sys2Proof.Proofs
end

section
/-! The CAN controllers' reception, sleep and wake, settled (R317–R320, R326). -/

namespace Sys2Proof.Proofs

open Sys2Proof Sys2Proof.Machine

-- One proof after another: many at once wait for the kernel in threads of their own, which the check's memory limit does not hold.
set_option Elab.async false

/-! ## The state -/

section
variable {s : State} {f : Can → W Can}

theorem bytes_onCan (h : (f s.can).st = []) (x : Nat) : (s.onCan f).mem.byte x = s.mem.byte x :=
  (byte_onCan f s x).trans (by rw [h]; rfl)

theorem canPage (n : Fin 4) : Pg.CAN + n.val ≠ Pg.SNAP ∧ Pg.CAN + n.val ≠ Pg.FLT := by
  have h1 : Pg.CAN = 22 := rfl
  have h2 : Pg.SNAP = 3 := rfl
  have h3 : Pg.FLT = 26 := rfl
  omega

theorem errCode_canReleased (n : Fin 4) (z : State) : z.releaseIdle.errCode (Pg.CAN + n.val) = z.errCode (Pg.CAN + n.val) :=
  errCode_releaseIdle (by have h1 : Pg.CAN = 22 := rfl; have h2 : Pg.PRG = 8 := rfl; omega) (canPage n).1

/-- The last code a controller's work records in its own page. -/
theorem errCode_controller {l : List Code} {page code : Nat} {p : List Word} (hp : page ≠ Pg.SNAP ∧ page ≠ Pg.FLT)
    (hc : (f s.can).fx.codes = l ++ [⟨page, code, p, false⟩]) (h : (f s.can).fx.Plain) : (s.onCan f).errCode page = code % 0x10000 :=
  errCode_commit_delivers (l := l) (c := ⟨page, code, p, false⟩) (f s.can).st { s with can := (f s.can).u } hc hp.1 hp.2 h.pushes h.triggers

end

/-- FLT after work that delivers samples: as the samples leave it. -/
theorem flt_commit_samples (fx : Fx) (st : List Store) (s : State) :
    (s.commit fx st).flt = (fx.samples.foldl State.takeSample (State.absorb (fun (u : State) _ => u) ⟨s, fx, st⟩ (s, Fx.none))).1.flt := by
  unfold State.commit
  extract_lets x0 x1 x2 x3 s4 s5
  have h2 : x2.1.flt = x1.1.flt := by
    refine foldl_keeps (fun x : State × Fx => x.1.flt = x1.1.flt) _ (fun x p hx => ?_) _ _ rfl
    unfold State.takePacket
    split
    · rw [flt_absorb]; exact hx
    · exact hx
  have h3 : x3.1.flt = x1.1.flt := by
    refine foldl_keeps (fun x : State × Fx => x.1.flt = x1.1.flt) _ (fun x p hx => ?_) _ _ h2
    unfold State.takeTrigger
    split
    · rw [flt_absorb]; exact hx
    · exact hx
  have h4 : s4.flt = x3.1.flt := congrArg (·.2.2.1) (inner_recordAll x3.2.codes (x3.1.flags x3.2.evts))
  have h5 : s5.flt = s4.flt := congrArg (·.2.2.1) (inner_snapTriggers x3.2.snaps x3.2.codes s4)
  exact (h5.trans h4).trans h3

/-- One sample at FLT while it works. -/
theorem flt_commit_one {fx : Fx} {s : State} {p : Sample} (hs : fx.samples = [p]) (hr : fx.reads = []) (hi : s.islandUp 5 = true)
    (he : hdrEnabled s.hdr Pg.FLT = true) : (s.commit fx []).flt = (Flt.arrive s.tim.time p (W.of s.flt)).u := by
  rw [flt_commit_samples, hs]
  obtain ⟨fx', hx⟩ : ∃ fx', State.absorb (fun (u : State) _ => u) ⟨s, fx, []⟩ (s, Fx.none) = (s.healAll fx.heals, fx') := by
    unfold State.absorb
    dsimp only
    rw [hr]
    exact ⟨_, rfl⟩
  rw [hx]
  change (State.takeSample (s.healAll fx.heals, fx') p).1.flt = _
  unfold State.takeSample
  dsimp only
  rw [if_pos (by exact Bool.and_eq_true_iff.mpr ⟨hi, he⟩), flt_absorb]
  rfl

/-! ## A frame received (R317) -/

section
variable {n : Nat} {active : Bool} {stone : Word} {now : Int} {f : CanRx} {u : Can}

/-- The controller once a frame is counted. -/
def frameCounted (n : Nat) (u : Can) : W Can :=
  Can.passive n (W.of (((u.putBus n { u.bus n with rec_ := if 127 < (u.bus n).rec_ then 127 else (u.bus n).rec_ - 1 }).showErr n).mod
    Reg.CAN_CNT_RX n 0 (· + 1#32)))

theorem receive_taken (hs : u.state n = 2 ∨ u.state n = 3) (hf : f.fdf = true → rbit u.regs (rk Reg.CAN_CTRL n 0) 0 = true)
    (hr : f.remote = false) : u.receive n active stone now f = Can.match_ n active stone now f (frameCounted n u) := by
  have hlive : (!(decide (u.state n = 2) || decide (u.state n = 3))) = false := by
    obtain h | h := hs <;> rw [h] <;> rfl
  have hfd : (f.fdf && !rbit u.regs (rk Reg.CAN_CTRL n 0) 0) = false := by
    cases h : f.fdf
    · rfl
    · rw [hf h]; rfl
  unfold Can.receive
  dsimp only
  rw [hlive, hfd, hr]
  rfl

/-- What counting a frame leaves. -/
structure Counted (n : Nat) (u : Can) (w : W Can) : Prop where
  st : w.st = []
  plain : w.fx.Plain
  rx : rget w.u.regs (rk Reg.CAN_CNT_RX n 0) = rget u.regs (rk Reg.CAN_CNT_RX n 0) + 1#32
  taken : (w.u.bus n).taken = (u.bus n).taken
  cells : ∀ q x, q % 0x400 ≠ Reg.CAN_STAT % 0x400 → q % 0x400 ≠ Reg.CAN_CNT_RX % 0x400 → q % 0x400 ≠ Reg.CAN_ERRC % 0x400 →
    rget w.u.regs (rk q n x) = rget u.regs (rk q n x)

theorem frame_counted (n : Nat) (u : Can) : Counted n u (frameCounted n u) := by
  obtain ⟨hst, hasks, hbuses, hcells⟩ := passive_from n (W.of (((u.putBus n { u.bus n with
    rec_ := if 127 < (u.bus n).rec_ then 127 else (u.bus n).rec_ - 1 }).showErr n).mod Reg.CAN_CNT_RX n 0 (· + 1#32)))
  refine ⟨hst, hasks.plain ⟨rfl, rfl, rfl, rfl, rfl⟩, (hcells _ _ (by decide)).trans ?_, ?_, fun q x h1 h2 h3 => (hcells q x h1).trans ?_⟩
  · exact (can_get_mod _ _ _).trans (congrArg (· + 1#32) (can_get_mod_other _ _ _ 0 (by decide)))
  · exact (congrArg (fun l => (sget canDefault l n).taken) hbuses).trans (taken_put (u := u) _)
  · exact (can_get_mod_other _ _ _ x h2).trans (can_get_mod_other _ _ _ x h3)

theorem filterOf_counted (n : Nat) (u : Can) (f : CanRx) : (frameCounted n u).u.filterOf n f = u.filterOf n f :=
  filterOf_congr fun q x hq => by
    obtain rfl | rfl | rfl := hq
    · exact (frame_counted n u).cells _ x (by decide) (by decide) (by decide)
    · exact (frame_counted n u).cells _ x (by decide) (by decide) (by decide)
    · exact (frame_counted n u).cells _ x (by decide) (by decide) (by decide)

/-- The samples of a frame of one word. -/
theorem frameSamples_one {k : Nat} {stamp v : Int} {w : W Can} (h : w.fx.samples = []) :
    (frameSamples n k stamp [v] w).fx.samples = [⟨0x22 + n, 256 * k, stamp, v⟩] := by
  unfold frameSamples
  change w.fx.samples ++ [⟨0x22 + n, 256 * k + 0, stamp, v⟩] = _
  rw [h]
  rfl

/-! ## Sleep and wake (R318–R320) -/

theorem sleep_refused (h : u.state n = 4) :
    u.sleep n now = (W.of (u.mod Reg.CAN_CTRL n 0 (fun c => putBit c 3 false))).code (Pg.CAN + n) 0x1E22 [] := if_pos (.inl h)

/-- What SLEEP leaves, whatever it decides. -/
structure Slept (n : Nat) (u : Can) (w : W Can) : Prop where
  st : w.st = []
  state : w.u.state n = u.state n
  objs : (w.u.bus n).objs = (u.bus n).objs

theorem sleep_slept (n : Nat) (now : Int) (u : Can) : Slept n u (u.sleep n now) := by
  unfold Can.sleep
  split
  · exact ⟨rfl, state_ctrl false, rfl⟩
  · split
    · exact ⟨rfl, rfl, rfl⟩
    · exact ⟨rfl, state_ctrl true, by rw [u_of, bus_put]⟩

theorem sleep_asked (h4 : u.state n ≠ 4) (h5 : u.state n ≠ 5) (hw : (u.bus n).wokenAt ≠ some now) :
    ((u.sleep n now).u.bus n).sleepReq = true ∧ rbit (u.sleep n now).u.regs (rk Reg.CAN_CTRL n 0) 3 = true := by
  unfold Can.sleep
  rw [if_neg (by rintro (h | h); exacts [h4 h, hw h]), if_neg h5, u_of, bus_put]
  exact ⟨rfl, (rbit_putBit u.regs (rk Reg.CAN_CTRL n 0) 3 true (by decide)).trans (if_pos rfl)⟩

theorem sleepEnter_enters (hq : (u.bus n).sleepReq = true) (hs : u.state n = 1 ∨ u.state n = 2 ∨ u.state n = 3) :
    u.sleepEnter n = (W.of ((u.setState n 5).putBus n { u.bus n with sleepReq := false })).code (Pg.CAN + n) 0x0E20 [] := if_pos ⟨hq, hs⟩

/-- What a wake leaves. -/
structure Woken (n : Nat) (u : Can) (w : W Can) : Prop where
  st : w.st = []
  plain : w.fx.Plain
  state : w.u.state n = 1
  ctrl : rbit w.u.regs (rk Reg.CAN_CTRL n 0) 3 = false
  sleepReq : (w.u.bus n).sleepReq = false
  objs : (w.u.bus n).objs = (u.bus n).objs
  taken : (w.u.bus n).taken = (u.bus n).taken
  codes : ∃ c, w.fx.codes = [⟨Pg.CAN + n, 0x0E21, [wd c], false⟩]
  rx : rget w.u.regs (rk Reg.CAN_CNT_RX n 0) = rget u.regs (rk Reg.CAN_CNT_RX n 0)

/-- The controller of a wake before its state. -/
def awake (n : Nat) (now : Int) (u : Can) : Can :=
  (u.mod Reg.CAN_CTRL n 0 (fun c => putBit c 3 false)).putBus n { u.bus n with sleepReq := false, wokenAt := some now }

theorem wake_eq (cause : Nat) : u.wake n cause now =
    ((W.of ((awake n now u).setState n 1)).evt (Pg.CAN + n) 4).code (Pg.CAN + n) 0x0E21 [wd cause] := rfl

theorem wake_woken (n cause : Nat) (now : Int) (u : Can) : Woken n u (u.wake n cause now) := by
  have hbus : ((awake n now u).setState n 1).bus n = { u.bus n with sleepReq := false, wokenAt := some now } := bus_put _
  have hcell : rget ((awake n now u).setState n 1).regs (rk Reg.CAN_CTRL n 0) = putBit (rget u.regs (rk Reg.CAN_CTRL n 0)) 3 false :=
    (can_get_mod_other (u := awake n now u) _ _ _ 0 (by decide)).trans (can_get_mod (u := u) Reg.CAN_CTRL 0 (fun c => putBit c 3 false))
  rw [wake_eq]
  refine ⟨rfl, ⟨rfl, rfl, rfl, rfl, rfl⟩, canState_set (by decide), ?_, ?_, ?_, ?_, ⟨cause, rfl⟩, ?_⟩
  · change bit (rget ((awake n now u).setState n 1).regs (rk Reg.CAN_CTRL n 0)) 3 = false
    rw [hcell]
    exact (bit_putBit _ 3 false (by decide)).trans (if_pos rfl)
  · change (((awake n now u).setState n 1).bus n).sleepReq = false
    rw [hbus]
  · change (((awake n now u).setState n 1).bus n).objs = _
    rw [hbus]
  · change (((awake n now u).setState n 1).bus n).taken = _
    rw [hbus]
  · exact (can_get_mod_other (u := awake n now u) _ _ _ 0 (by decide)).trans
      (can_get_mod_other (u := u) Reg.CAN_CTRL 0 (fun c => putBit c 3 false) 0 (by decide))

/-- What a write of 0 to SLEEP leaves. -/
theorem wakeWrite_leaves (n : Nat) (now : Int) (u : Can) :
    let w := u.wakeWrite n now
    w.st = [] ∧ rbit w.u.regs (rk Reg.CAN_CTRL n 0) 3 = false ∧ (w.u.bus n).sleepReq = false ∧ (w.u.bus n).objs = (u.bus n).objs ∧
      (u.state n = 5 → w.u.state n = 1 ∧ w.fx.Plain ∧ ∃ c, w.fx.codes = [⟨Pg.CAN + n, 0x0E21, [wd c], false⟩]) ∧
      (u.state n ≠ 5 → w.u.state n = u.state n) := by
  unfold Can.wakeWrite
  split
  case isTrue h =>
    obtain ⟨hst, hplain, hstate, hctrl, hreq, hobjs, -, hcodes, -⟩ := wake_woken n 3 now u
    exact ⟨hst, hctrl, hreq, hobjs, fun _ => ⟨hstate, hplain, hcodes⟩, fun h' => absurd h h'⟩
  case isFalse h =>
    refine ⟨rfl, ?_, ?_, ?_, fun h' => absurd h' h, fun _ => state_ctrl false⟩
    · exact (rbit_putBit u.regs (rk Reg.CAN_CTRL n 0) 3 false (by decide)).trans (if_pos rfl)
    · rw [u_of, bus_put]
    · rw [u_of, bus_put]

theorem busWake_woken (hs : u.state n = 5) {g : Option CanRx} (h : rbit u.regs (rk Reg.CAN_CTRL n 0) 4 = false) :
    u.busWake n active stone now g = u.wake n 1 now := by
  unfold Can.busWake
  rw [if_neg (by simp [hs]), h]
  rfl

theorem busWake_still (hs : u.state n = 5) {g : Option CanRx} (h : rbit u.regs (rk Reg.CAN_CTRL n 0) 4 = true)
    (hg : ∀ f, g = some f → u.wakes n f = false) : u.busWake n active stone now g = W.of u := by
  unfold Can.busWake
  rw [if_neg (by simp [hs]), h]
  cases g with
  | none => rfl
  | some f =>
    dsimp only
    rw [hg f rfl]
    rfl

theorem busWake_frame (hs : u.state n = 5) (h : rbit u.regs (rk Reg.CAN_CTRL n 0) 4 = true) (hg : u.wakes n f = true) :
    u.busWake n active stone now (some f) =
      Can.match_ n active stone now f ((u.wake n 2 now).map (fun u => u.mod Reg.CAN_CNT_RX n 0 (· + 1#32))) := by
  unfold Can.busWake
  rw [if_neg (by simp [hs]), h]
  dsimp only
  rw [hg]
  rfl

end

end Sys2Proof.Proofs
end

section
/-! The CAN controllers' reception, sleep and wake, settled (R316–R320, R326). -/

namespace Sys2Proof.Proofs

open Sys2Proof Sys2Proof.Machine

-- One proof after another: many at once wait for the kernel in threads of their own, which the check's memory limit does not hold.
set_option Elab.async false

/-! ## What CANn_CTRL does (R316, R318, R319) -/

/-- The state after the part of CANn_CTRL that may begin recovery. -/
structure MayRecover (n : Nat) (w z : State) : Prop where
  regs : z.can.regs = w.can.regs
  bus : z.can.bus n = { w.can.bus n with recover := (z.can.bus n).recover }
  others : ∀ m, m ≠ n → z.can.bus m = w.can.bus m
  bytes : ∀ x, z.mem.byte x = w.mem.byte x
  still : w.can.state n ≠ 4 → z.can.bus n = w.can.bus n

theorem MayRecover.keeps {n : Nat} {w z : State} (h : MayRecover n w z) : (z.can.bus n).objs = (w.can.bus n).objs ∧
    (z.can.bus n).sleepReq = (w.can.bus n).sleepReq ∧ (z.can.bus n).wokenAt = (w.can.bus n).wokenAt := by
  rw [h.bus]
  exact ⟨rfl, rfl, rfl⟩

/-- Recovery begun in a controller. -/
theorem recoverStart_mayRecover (n : Nat) (w : State) : MayRecover n w (w.onCan (fun u => W.of (u.recoverStart n))) := by
  have hcan := onCan_can (fun u => W.of (u.recoverStart n)) w
  have hbytes := fun x => bytes_onCan (s := w) (f := fun u => W.of (u.recoverStart n)) rfl x
  generalize w.onCan (fun u => W.of (u.recoverStart n)) = z at *
  have hz : z.can = w.can.recoverStart n := hcan
  unfold Can.recoverStart at hz
  split at hz
  case isTrue h4 =>
    refine ⟨by rw [hz]; rfl, ?_, fun m hm => ?_, hbytes, fun h => absurd h4 h⟩
    · rw [hz, bus_put]
    · rw [hz, bus_put_ne _ hm]
  case isFalse h4 => exact ⟨by rw [hz], by rw [hz], fun m _ => by rw [hz], hbytes, fun _ => by rw [hz]⟩

theorem MayRecover.same (n : Nat) (w : State) : MayRecover n w w := ⟨rfl, rfl, fun _ _ => rfl, fun _ => rfl, fun _ => rfl⟩

/-- CANn_CTRL: recovery, then SLEEP by the change of its bit. -/
theorem canCtrl_does (n : Nat) (old v : Word) (w : State) :
    ∃ z, MayRecover n w z ∧ (bit v 2 = true → w.can.state n = 4 → (z.can.bus n).recover = true) ∧
      w.canCtrl n old v =
        if bit v 3 && !bit old 3 then z.onCan (fun u => u.sleep n w.tim.time)
        else if bit old 3 && !bit v 3 then
          z.onCan (fun u => Can.wakeWrite n w.tim.time { u with regs := rmod u.regs (rk Reg.CAN_CTRL n 0) (fun x => putBit x 3 true) })
        else z := by
  obtain ⟨z, hz⟩ : ∃ z, z = if bit v 2 || rbit w.can.regs (rk Reg.CAN_CTRL n 0) 1 then w.onCan (fun u => W.of (u.recoverStart n)) else w :=
    ⟨_, rfl⟩
  refine ⟨z, ?_, fun h2 h4 => ?_, ?_⟩
  · rw [hz]
    split
    · exact recoverStart_mayRecover n w
    · exact .same n w
  · rw [hz, h2, Bool.true_or, if_pos rfl, onCan_can]
    change ((w.can.recoverStart n).bus n).recover = true
    unfold Can.recoverStart
    rw [if_pos h4, bus_put]
  · rw [hz]
    rfl

section
variable {acc : Accessor} {s : State} {n : Fin 4}

/-- Reads of a register that CANn_CTRL is not. -/
theorem CtrlWritten.state {x : Word} {s w : State} {n : Nat} (h : CtrlWritten n x s w) : w.can.state n = s.can.state n :=
  congrArg (bits · 3 0) (h.other _ (rk_ne 0 (by decide)))

theorem CtrlWritten.bus {x : Word} {s w : State} {n : Nat} (h : CtrlWritten n x s w) (m : Nat) : w.can.bus m = s.can.bus m :=
  congrArg (sget canDefault · m) h.buses

/-- A write of SLEEP or RECOVER that changes SLEEP not. -/
theorem recover_taken (h : s.Admits acc (Pg.CAN + n.val) (Reg.CAN_CTRL % 0x400)) :
    ∃ z w, CtrlWritten n.val (rget s.can.regs (rk Reg.CAN_CTRL n.val 0)) s w ∧ MayRecover n.val w z ∧
      (s.can.state n.val = 4 → (z.can.bus n.val).recover = true) ∧ s.canCtrlBit acc n.val 2 true = z.releaseIdle := by
  obtain ⟨w, hw, he⟩ := canCtrlBit_taken 2 true (.inl rfl) h
  obtain ⟨z, hz, hrec, hdoes⟩ := canCtrl_does n.val (rget s.can.regs (rk Reg.CAN_CTRL n.val 0))
    (ctrlValue (rget s.can.regs (rk Reg.CAN_CTRL n.val 0)) 2 true) w
  have h2 : bit (ctrlValue (rget s.can.regs (rk Reg.CAN_CTRL n.val 0)) 2 true) 2 = true := bit_putBit _ 2 true (by decide)
  have h3 : bit (ctrlValue (rget s.can.regs (rk Reg.CAN_CTRL n.val 0)) 2 true) 3 = bit (rget s.can.regs (rk Reg.CAN_CTRL n.val 0)) 3 :=
    (bit_putBit _ 2 true (by decide)).trans (bit_putBit _ 2 false (by decide))
  refine ⟨z, w, hw, hz, fun h4 => hrec h2 (hw.state.trans h4), he.trans (congrArg State.releaseIdle (hdoes.trans ?_))⟩
  rw [h3]
  cases bit (rget s.can.regs (rk Reg.CAN_CTRL n.val 0)) 3
  · rfl
  · rfl

/-- A write of 1 to SLEEP where it is 0. -/
theorem sleep_taken (h : s.Admits acc (Pg.CAN + n.val) (Reg.CAN_CTRL % 0x400)) (h0 : rbit s.can.regs (rk Reg.CAN_CTRL n.val 0) 3 = false) :
    ∃ z w, CtrlWritten n.val (putBit (rget s.can.regs (rk Reg.CAN_CTRL n.val 0)) 3 true) s w ∧ MayRecover n.val w z ∧
      s.canCtrlBit acc n.val 3 true = (z.onCan (fun u => u.sleep n.val s.tim.time)).releaseIdle := by
  obtain ⟨w, hw, he⟩ := canCtrlBit_taken 3 true (.inr rfl) h
  rw [if_pos rfl] at hw
  obtain ⟨z, hz, -, hdoes⟩ := canCtrl_does n.val (rget s.can.regs (rk Reg.CAN_CTRL n.val 0))
    (ctrlValue (rget s.can.regs (rk Reg.CAN_CTRL n.val 0)) 3 true) w
  have h3 : bit (ctrlValue (rget s.can.regs (rk Reg.CAN_CTRL n.val 0)) 3 true) 3 = true := bit_putBit _ 3 true (by decide)
  have h0' : bit (rget s.can.regs (rk Reg.CAN_CTRL n.val 0)) 3 = false := h0
  refine ⟨z, w, hw, hz, he.trans (congrArg State.releaseIdle (hdoes.trans ?_))⟩
  rw [h3, h0', hw.time]
  rfl

/-- A write of 0 to SLEEP where it is 1. -/
theorem wake_taken (h : s.Admits acc (Pg.CAN + n.val) (Reg.CAN_CTRL % 0x400)) (h1 : rbit s.can.regs (rk Reg.CAN_CTRL n.val 0) 3 = true) :
    ∃ z w, CtrlWritten n.val (putBit (rget s.can.regs (rk Reg.CAN_CTRL n.val 0)) 3 false) s w ∧ MayRecover n.val w z ∧
      s.canCtrlBit acc n.val 3 false = (z.onCan (fun u => Can.wakeWrite n.val s.tim.time
        { u with regs := rmod u.regs (rk Reg.CAN_CTRL n.val 0) (fun x => putBit x 3 true) })).releaseIdle := by
  obtain ⟨w, hw, he⟩ := canCtrlBit_taken 3 false (.inr rfl) h
  rw [if_pos rfl] at hw
  obtain ⟨z, hz, -, hdoes⟩ := canCtrl_does n.val (rget s.can.regs (rk Reg.CAN_CTRL n.val 0))
    (ctrlValue (rget s.can.regs (rk Reg.CAN_CTRL n.val 0)) 3 false) w
  have h3 : bit (ctrlValue (rget s.can.regs (rk Reg.CAN_CTRL n.val 0)) 3 false) 3 = false := bit_putBit _ 3 false (by decide)
  have h1' : bit (rget s.can.regs (rk Reg.CAN_CTRL n.val 0)) 3 = true := h1
  refine ⟨z, w, hw, hz, he.trans (congrArg State.releaseIdle (hdoes.trans ?_))⟩
  rw [h3, h1', hw.time]
  rfl

end

/-- A happening of a controller that takes part. -/
theorem canDoes_runs {n : Nat} (f : State → Can → W Can) {s : State} (h : s.canOn n = true) : s.canDoes n f = s.onCan (f s) := if_pos h

theorem canOn_works {s : State} {n : Nat} (h : s.canOn n = true) : s.works (Pg.CAN + n) = true := (Bool.and_eq_true_iff.mp h).1

end Sys2Proof.Proofs
end

section
/-! The CAN controllers' reception, sleep and wake, settled (R317–R320, R326). -/

namespace Sys2Proof.Proofs

open Sys2Proof Sys2Proof.Machine

-- One proof after another: many at once wait for the kernel in threads of their own, which the check's memory limit does not hold.
set_option Elab.async false

section
variable {s : State} {n : Nat} {active : Bool} {stone : Word} {now : Int} {f : CanRx}

/-- FLT after a controller's work with one sample or none. -/
theorem flt_onCan {g : Can → W Can} (hst : (g s.can).st = []) (hr : (g s.can).fx.reads = []) {p : Sample} (hs : (g s.can).fx.samples = [p])
    (hi : s.islandUp 5 = true) (he : hdrEnabled s.hdr Pg.FLT = true) : (s.onCan g).flt = (Flt.arrive s.tim.time p (W.of s.flt)).u := by
  have hform : s.onCan g = ({ s with can := (g s.can).u } : State).commit (g s.can).fx [] := by
    rw [← hst]
    rfl
  rw [hform]
  exact flt_commit_one (s := { s with can := (g s.can).u }) hs hr hi he

/-- The filter that takes a frame, by format and path: what the controller and FLT keep of it. -/
theorem receive_by_filter (hs : s.can.state n = 2 ∨ s.can.state n = 3) (hfd : f.fdf = true → rbit s.can.regs (rk Reg.CAN_CTRL n 0) 0 = true)
    (hr : f.remote = false) :
    let w := s.can.receive n active stone now f
    let t := s.onCan (fun _ => w)
    w.st = [] ∧ rget w.u.regs (rk Reg.CAN_CNT_RX n 0) = rget s.can.regs (rk Reg.CAN_CNT_RX n 0) + 1#32 ∧
      (s.can.filterOf n f = none → (w.u.bus n).taken = (s.can.bus n).taken ∧ t.flt = s.flt) ∧
      (∀ k, s.can.filterOf n f = some k → rfld s.can.regs (rk Reg.CAN_RX_CFG n k) 2 1 = 0 →
        (w.u.bus n).taken = sset (fun _ => 0) (s.can.bus n).taken k (sget (fun _ => 0) (s.can.bus n).taken k + 1) ∧
        (rbit s.can.regs (rk Reg.CAN_RX_CFG n k) 3 = false → t.flt = s.flt) ∧
        (∀ v, rbit s.can.regs (rk Reg.CAN_RX_CFG n k) 3 = true → f.words 0 = [v] → s.islandUp 5 = true → hdrEnabled s.hdr Pg.FLT = true →
          t.flt = (Flt.arrive s.tim.time ⟨0x22 + n, 256 * k, now - f.age, v⟩ (W.of s.flt)).u)) ∧
      (∀ k, s.can.filterOf n f = some k → rfld s.can.regs (rk Reg.CAN_RX_CFG n k) 2 1 = 2 →
        (f.dlc ≠ 13 ∨ wd (leNat (sliceB f.data 28 4)) ≠ dalsenGuard f.ident f.data) →
        (w.u.bus n).taken = (s.can.bus n).taken ∧ t.flt = s.flt ∧
        (Pg.CAN + n ≠ Pg.SNAP ∧ Pg.CAN + n ≠ Pg.FLT → t.errCode (Pg.CAN + n) = 0x1E32) ∧
        rget w.u.regs (rk Reg.CAN_RX_STAT n k) = incSatField (rget s.can.regs (rk Reg.CAN_RX_STAT n k)) 30 16) := by
  have hc := frame_counted n s.can
  have hfilter := filterOf_counted n s.can f
  have hcfg : ∀ k, rget (frameCounted n s.can).u.regs (rk Reg.CAN_RX_CFG n k) = rget s.can.regs (rk Reg.CAN_RX_CFG n k) :=
    fun k => hc.cells _ k (by decide) (by decide) (by decide)
  have hstat : ∀ k, rget (frameCounted n s.can).u.regs (rk Reg.CAN_RX_STAT n k) = rget s.can.regs (rk Reg.CAN_RX_STAT n k) :=
    fun k => hc.cells _ k (by decide) (by decide) (by decide)
  have htaken := receive_taken (active := active) (stone := stone) (now := now) hs hfd hr
  generalize frameCounted n s.can = c at *
  intro w t
  have hw : w = Can.match_ n active stone now f c := htaken
  clear_value w
  subst hw
  obtain ⟨hst, hregs⟩ := match_leaves (n := n) (active := active) (stone := stone) (now := now) (f := f) (w := c)
  refine ⟨hst.trans hc.st, (hregs _ 0 (by decide)).trans hc.rx, fun h => ?_, fun k h hfmt => ?_, fun k h hfmt hbad => ?_⟩
  · have he := match_none (active := active) (stone := stone) (now := now) (hfilter.trans h)
    refine ⟨by rw [he]; exact hc.taken, flt_commit _ _ _ ?_⟩
    rw [he]
    exact hc.plain.samples
  · have hfmt' : rfld c.u.regs (rk Reg.CAN_RX_CFG n k) 2 1 = 0 := (congrArg (bits · 2 1) (hcfg k)).trans hfmt
    have h3 : rbit c.u.regs (rk Reg.CAN_RX_CFG n k) 3 = rbit s.can.regs (rk Reg.CAN_RX_CFG n k) 3 := congrArg (bit · 3) (hcfg k)
    have he := match_plain (active := active) (stone := stone) (now := now) (hfilter.trans h) (by rw [hfmt']; decide)
    have hd := deliver_delivered (n := n) (k := k) (stamp := now - f.age) (f := f) (w := c)
    have hsamples := deliver_samples (n := n) (k := k) (stamp := now - f.age) (f := f) (w := c)
    rw [hfmt', h3] at hsamples
    refine ⟨?_, fun hoff => ?_, fun v hon hv hi hen => ?_⟩
    · rw [he, hd.taken, hc.taken]
    · rw [hoff] at hsamples
      refine flt_commit _ _ _ ?_
      rw [he]
      exact hsamples.trans hc.plain.samples
    · rw [hon, hv] at hsamples
      refine flt_onCan (s := s) (hst.trans hc.st) ?_ ?_ hi hen
      · rw [he, deliver_reads]
        exact hc.plain.reads
      · rw [he]
        exact hsamples.trans (frameSamples_one hc.plain.samples)
  · have hfmt' : rfld c.u.regs (rk Reg.CAN_RX_CFG n k) 2 1 = 2 := (congrArg (bits · 2 1) (hcfg k)).trans hfmt
    have he := match_guard (active := active) (stone := stone) (now := now) (hfilter.trans h) hfmt' hbad
    have hplain : (Can.match_ n active stone now f c).fx.Plain := by
      rw [he]
      exact ⟨hc.plain.reads, hc.plain.samples, hc.plain.pushes, hc.plain.triggers, hc.plain.heals⟩
    refine ⟨?_, flt_commit _ _ _ hplain.samples, fun hp => ?_, ?_⟩
    · rw [he]
      exact hc.taken
    · exact errCode_controller (f := fun _ => Can.match_ n active stone now f c) (code := 0x1E32) (l := c.fx.codes) hp (by rw [he]; rfl) hplain
    · rw [he]
      exact (can_get_mod _ _ _).trans (congrArg (incSatField · 30 16) (hstat k))

end

section
variable {n : Nat} {active : Bool} {stone : Word} {now : Int} {f : CanRx} {u : Can}

/-- A wake frame wakes its controller and is received. -/
theorem busWake_taken (hs : u.state n = 5) (h : rbit u.regs (rk Reg.CAN_CTRL n 0) 4 = true) (hg : u.wakes n f = true) :
    let w := u.busWake n active stone now (some f)
    w.u.state n = 1 ∧ rget w.u.regs (rk Reg.CAN_CNT_RX n 0) = rget u.regs (rk Reg.CAN_CNT_RX n 0) + 1#32 := by
  rw [busWake_frame hs h hg]
  obtain ⟨-, -, hone, -, -, -, -, -, hrx⟩ := wake_woken n 2 now u
  obtain ⟨-, hregs⟩ := match_leaves (n := n) (active := active) (stone := stone) (now := now) (f := f)
    (w := (u.wake n 2 now).map (fun u => u.mod Reg.CAN_CNT_RX n 0 (· + 1#32)))
  refine ⟨?_, (hregs _ 0 (by decide)).trans ((can_get_mod _ _ _).trans (congrArg (· + 1#32) hrx))⟩
  exact (congrArg (bits · 3 0) (hregs Reg.CAN_STAT 0 (by decide))).trans ((state_mod (u := (u.wake n 2 now).u) Reg.CAN_CNT_RX 0 (· + 1#32) (by decide)).trans hone)

theorem busWake_st {g : Option CanRx} (hs : u.state n = 5) : (u.busWake n active stone now g).st = [] := by
  cases h : rbit u.regs (rk Reg.CAN_CTRL n 0) 4
  case false =>
    rw [busWake_woken hs h]
    exact (wake_woken n 1 now u).st
  case true =>
    cases g with
    | none => rw [busWake_still hs h fun f hf => absurd hf (by simp)]; rfl
    | some f =>
      cases hw : u.wakes n f
      · rw [busWake_still hs h fun g hg => by rw [← Option.some.inj hg]; exact hw]
        rfl
      · rw [busWake_frame hs h hw]
        exact match_leaves.1.trans (wake_woken n 2 now u).st

end

/-- Settles O33: a frame by its filter, SLEEP by its bit, a wake by WAKE_MODE and its frame. -/
theorem canReceivingCommands : Obligations.CanReceivingCommands := by
  unfold Obligations.CanReceivingCommands
  refine ⟨fun a n rx s hon hs hfd hr => ?_, fun a acc n s h h0 => ?_, fun a n s hon hq hs => ?_, fun a acc n s h h1 => ?_,
    fun a n rx s hon hs => ?_⟩
  · obtain ⟨hst, hrx, hnone, hplain, hguard⟩ := receive_by_filter (s := s.at_ a) (n := n.val) (active := (s.at_ a).isActive)
      (stone := (s.at_ a).stone) (now := (s.at_ a).tim.time) (f := canRx rx) hs hfd hr
    refine ⟨_, congrArg Host.Outcome.next (canDoes_runs (s := s.at_ a) _ hon), ?_⟩
    have hu : ((s.at_ a).onCan (fun u => u.receive n.val (s.at_ a).isActive (s.at_ a).stone (s.at_ a).tim.time (canRx rx))).can = _ := onCan_can _ _
    rw [shell_onCan, hu]
    refine ⟨hrx, hnone, hplain, fun k h hfmt hbad => ?_, rfl, fun k => bytes_onCan (s := s.at_ a) hst k⟩
    obtain ⟨htaken, hflt, herr, hstat⟩ := hguard k h hfmt hbad
    exact ⟨htaken, hflt, herr (canPage n), hstat⟩
  · obtain ⟨z, w, hw, hz, he⟩ := sleep_taken (s := s.at_ a) h h0
    refine ⟨_, congrArg Host.Outcome.next he, ?_⟩
    have hstate : z.can.state n.val = s.can.state n.val := (congrArg (fun m => rfld m (rk Reg.CAN_STAT n.val 0) 3 0) hz.regs).trans hw.state
    obtain ⟨hobjs', hreq, hwoken'⟩ := hz.keeps
    rw [hw.bus] at hobjs' hreq hwoken'
    obtain ⟨hst, hkeep, hobjs⟩ := sleep_slept n.val (s.at_ a).tim.time z.can
    rw [releaseIdle_can, onCan_can, errCode_canReleased]
    refine ⟨fun h4 h5 hwoken => ?_, fun h4 => ?_, hkeep.trans hstate, hobjs.trans hobjs', fun k => ?_⟩
    · exact sleep_asked (by rw [hstate]; exact h4) (by rw [hstate]; exact h5) (by rw [hwoken']; exact hwoken)
    · have hsleep := sleep_refused (now := (s.at_ a).tim.time) (hstate.trans h4)
      refine ⟨?_, errCode_controller (s := z) (l := []) (code := 0x1E22) (canPage n) (by rw [hsleep]; rfl) (by rw [hsleep]; exact ⟨rfl, rfl, rfl, rfl, rfl⟩), ?_⟩
      · rw [hsleep]
        exact (rbit_putBit z.can.regs (rk Reg.CAN_CTRL n.val 0) 3 false (by decide)).trans (if_pos rfl)
      · rw [hsleep]
        exact hreq
    · rw [releaseIdle_mem, bytes_onCan hst, hz.bytes, hw.mem]
      rfl
  · have hform := sleepEnter_enters hq hs
    refine ⟨_, congrArg Host.Outcome.next (canDoes_runs (s := s.at_ a) _ hon), ?_⟩
    have hu : ((s.at_ a).onCan (fun u => u.sleepEnter n.val)).can = (s.can.sleepEnter n.val).u := onCan_can _ _
    rw [shell_onCan, hu]
    refine ⟨?_, ?_, ?_, ?_, rfl, fun k => bytes_onCan (s := s.at_ a) (by exact congrArg W.st hform) k⟩
    · rw [hform]
      exact canState_set (by decide)
    · rw [hform, u_code, u_of, bus_put]
    · rw [hform, u_code, u_of, bus_put]
    · exact errCode_controller (s := s.at_ a) (f := fun u => u.sleepEnter n.val) (l := []) (code := 0x0E20) (p := []) (canPage n)
        (by exact congrArg (fun w : W Can => w.fx.codes) hform) (by exact hform ▸ ⟨rfl, rfl, rfl, rfl, rfl⟩)
  · obtain ⟨z, w, hw, hz, he⟩ := wake_taken (s := s.at_ a) h h1
    refine ⟨_, congrArg Host.Outcome.next he, ?_⟩
    have hstate : z.can.state n.val = s.can.state n.val := (congrArg (fun m => rfld m (rk Reg.CAN_STAT n.val 0) 3 0) hz.regs).trans hw.state
    have hobjs : (z.can.bus n.val).objs = (s.can.bus n.val).objs := hz.keeps.1.trans (by rw [hw.bus]; rfl)
    have hpre : ({ z.can with regs := rmod z.can.regs (rk Reg.CAN_CTRL n.val 0) (fun x => putBit x 3 true) } : Can).state n.val =
        z.can.state n.val := state_ctrl true
    obtain ⟨hst, hctrl, hreq, hobjs', hasleep, hawake⟩ := wakeWrite_leaves n.val (s.at_ a).tim.time
      { z.can with regs := rmod z.can.regs (rk Reg.CAN_CTRL n.val 0) (fun x => putBit x 3 true) }
    rw [releaseIdle_can, onCan_can, errCode_canReleased]
    refine ⟨hctrl, hreq, fun h5 => ?_, fun h5 => (hawake (by rw [hpre, hstate]; exact h5)).trans (hpre.trans hstate), hobjs'.trans hobjs, fun k => ?_⟩
    · obtain ⟨hone, hplain, c, hcodes⟩ := hasleep (by rw [hpre, hstate]; exact h5)
      exact ⟨hone, errCode_controller (s := z) (l := []) (code := 0x0E21) (canPage n) hcodes hplain⟩
    · rw [releaseIdle_mem, bytes_onCan hst, hz.bytes, hw.mem]
      rfl
  · refine ⟨_, congrArg Host.Outcome.next (canDoes_runs (s := s.at_ a) _ hon), ?_⟩
    have hu : ((s.at_ a).onCan (fun u => u.busWake n.val (s.at_ a).isActive (s.at_ a).stone (s.at_ a).tim.time (rx.map canRx))).can =
        (s.can.busWake n.val (s.at_ a).isActive (s.at_ a).stone (s.at_ a).tim.time (rx.map canRx)).u := onCan_can _ _
    rw [shell_onCan, hu]
    refine ⟨fun hmode => ?_, fun hmode hnone => ?_, fun f hmode hf hwake => ?_, rfl, fun k => ?_⟩
    · have he := busWake_woken (active := (s.at_ a).isActive) (stone := (s.at_ a).stone) (now := (s.at_ a).tim.time) (g := rx.map canRx) hs hmode
      obtain ⟨-, hplain, hone, hctrl, -, -, htaken, ⟨c, hcodes⟩, -⟩ := wake_woken n.val 1 (s.at_ a).tim.time s.can
      rw [he]
      exact ⟨hone, errCode_controller (s := s.at_ a) (f := fun u => u.busWake n.val (s.at_ a).isActive (s.at_ a).stone (s.at_ a).tim.time (rx.map canRx))
        (l := []) (code := 0x0E21) (canPage n) (by exact (congrArg (fun w : W Can => w.fx.codes) he).trans hcodes)
        (by exact he ▸ hplain), hctrl, htaken⟩
    · refine congrArg W.u (busWake_still hs hmode fun g hg => ?_)
      obtain ⟨f, rfl, rfl⟩ := Option.map_eq_some_iff.mp hg
      exact hnone f rfl
    · subst hf
      obtain ⟨hone, hrx⟩ := busWake_taken (active := (s.at_ a).isActive) (stone := (s.at_ a).stone) (now := (s.at_ a).tim.time) hs hmode hwake
      exact ⟨hone, hrx⟩
    · exact bytes_onCan (s := s.at_ a) (by exact busWake_st hs) k

end Sys2Proof.Proofs
end

section
/-! SUPPORT. Flags that a unit's work raises (R436), and what a CAN controller sends from: SEND_SET and loads (R314, R321, R324). -/

namespace Sys2Proof.Proofs

open Sys2Proof Sys2Proof.Machine

-- One proof after another: many at once wait for the kernel in threads of their own, which the check's memory limit does not hold.
set_option Elab.async false

/-! ## Flags -/

/-- A flag of a page, set in the headers. -/
def flagSet (p k : Nat) (h : RMap) : Prop := rbit h (cellKey p 0x10 0) k = true

theorem flagSet_evt {p k : Nat} (hk : k < 32) (h : RMap) (q f : Nat) (hh : flagSet p k h) : flagSet p k (hdrEvt h q f) := by
  unfold flagSet hdrEvt at *
  by_cases hq : cellKey p 0x10 0 = cellKey q 0x10 0
  · rw [← hq, rbit_putBit _ _ _ _ hk]
    split
    · rfl
    · exact hh
  · rw [rbit_rmod_ne _ _ _ hq]
    exact hh

theorem flagSet_raised {p k : Nat} (hk : k < 32) (h : RMap) : flagSet p k (hdrEvt h p k) :=
  (rbit_putBit h (cellKey p 0x10 0) k true hk).trans (if_pos rfl)

theorem flagSet_stable {p k : Nat} (hk : k < 32) : HdrStable (flagSet p k) := by
  refine ⟨fun h q f hh => flagSet_evt hk h q f hh, fun h q c hh => ?_, fun h q o v h1 h2 hh => ?_⟩
  · exact (rbit_rmod_ne _ _ _ (by rw [Ne, cellKey_inj (by omega) (by omega)]; omega)).trans hh
  · refine (congrArg (bit · k) ((rget_rset ..).trans (if_neg ?_))).trans hh
    rw [cellKey_inj (by omega) (by omega)]
    omega

theorem flagSet_flags {p k : Nat} (hk : k < 32) {l : List (Nat × Nat)} (hl : (p, k) ∈ l) (s : State) : flagSet p k (s.flags l).hdr := by
  have hform : (s.flags l).hdr = l.foldl (fun h e => hdrEvt h e.1 e.2) s.hdr := rfl
  rw [hform]
  obtain ⟨a, b, rfl⟩ := List.append_of_mem hl
  rw [List.foldl_append, List.foldl_cons]
  exact foldl_keeps (flagSet p k) (fun h (e : Nat × Nat) => hdrEvt h e.1 e.2) (fun h e hh => flagSet_evt hk h e.1 e.2 hh) b _
    (flagSet_raised hk _)

/-- A flag that plain work raises is set after it. -/
theorem evtSet_commit {fx : Fx} (h : fx.Plain) {p k : Nat} (hk : k < 32) (hl : (p, k) ∈ fx.evts) (s : State) :
    (s.commit fx []).evtSet p k = true := by
  have hstable := flagSet_stable (p := p) hk
  rw [commit_plain h]
  refine hdr_snapTriggers ⟨hstable.evt, fun h c hh => hstable.code h _ c hh, hstable.latch⟩ _ _ _ ?_
  exact hdr_recordAll hstable.evt _ (fun h _ _ hh => hstable.code h _ _ hh) _ (flagSet_flags hk hl s)

/-! ## Cells and fields -/

/-- Windows of one register. -/
theorem rk_word_ne {r n w v : Nat} (h : w ≠ v) : rk r n w ≠ rk r n v := by
  unfold rk
  omega

/-- A field that begins where the one put begins, and lies within it. -/
theorem bits_putBits_within (w : Word) {hi lo h : Nat} (v : Nat) (hlo : lo ≤ h) (hh : h ≤ hi) (h32 : hi < 32) :
    bits (putBits w hi lo v) h lo = v % 2 ^ (h + 1 - lo) := by
  refine Nat.eq_of_testBit_eq fun i => ?_
  rw [testBit_bits, Nat.testBit_mod_two_pow]
  by_cases hi' : i < h + 1 - lo
  · rw [getLsbD_putBits _ _ _ _ (by omega) (by omega), if_pos (by omega), Nat.add_sub_cancel_left]
  · simp [hi']

section
variable {n : Nat} {u : Can}

/-- TX_STAT of another object. -/
theorem can_get_mod_word (r w : Nat) (f : Word → Word) {v : Nat} (h : v ≠ w) : rget (u.mod r n w f).regs (rk r n v) = rget u.regs (rk r n v) :=
  rget_rmod_ne _ _ (rk_word_ne h)

/-- STATE of an object as CANn_TX_STAT shows it. -/
def txShown (n o : Nat) (u : Can) : Nat := rfld u.regs (rk Reg.CAN_TX_STAT n o) 3 0

/-! ## SEND_SET (R324) -/

theorem sendOne_inactive (stone : Word) (wire : Option Nat) (i : SpanIn) (w : W Can) (o : Nat) :
    Can.sendOne n false stone wire i w o = w.map (fun u => Can.ssCount n 31 24 (u.txState n o 6)) := rfl

/-- An object that is skipped shows why. -/
theorem txShown_skipped {o p : Nat} (hi lo : Nat) {st : Nat} (hst : st < 16) :
    txShown n p (Can.ssCount n hi lo (u.txState n o st)) = if p = o then st else txShown n p u := by
  unfold txShown rfld
  have h : rget (Can.ssCount n hi lo (u.txState n o st)).regs (rk Reg.CAN_TX_STAT n p) = rget (u.txState n o st).regs (rk Reg.CAN_TX_STAT n p) :=
    can_get_mod_other Reg.CAN_SS_STAT 0 _ p (by decide)
  rw [h]
  by_cases hp : p = o
  · subst hp
    rw [if_pos rfl]
    refine (congrArg (bits · 3 0) (can_get_mod _ _ _)).trans ?_
    rw [bits_putBits_same _ _ (by decide) (by decide)]
    exact Nat.mod_eq_of_lt hst
  · rw [if_neg hp]
    exact congrArg (bits · 3 0) (can_get_mod_word _ _ _ hp)

/-- A module that is not ACTIVE loads nothing and shows 6 for every object. -/
theorem sendAll_inactive (stone : Word) (wire : Option Nat) (i : SpanIn) (l : List Nat) (w : W Can) :
    let v := l.foldl (Can.sendOne n false stone wire i) w
    v.st = w.st ∧ v.u.buses = w.u.buses ∧ ∀ p, txShown n p v.u = if p ∈ l then 6 else txShown n p w.u := by
  induction l generalizing w with
  | nil => exact ⟨rfl, rfl, fun _ => rfl⟩
  | cons o l ih =>
    obtain ⟨hst, hbuses, hshown⟩ := ih (Can.sendOne n false stone wire i w o)
    refine ⟨hst, hbuses, fun p => (hshown p).trans ?_⟩
    rw [sendOne_inactive, show (w.map (fun u => Can.ssCount n 31 24 (u.txState n o 6))).u = Can.ssCount n 31 24 (w.u.txState n o 6) from rfl,
      txShown_skipped _ _ (by decide)]
    by_cases hp : p ∈ l
    · simp [hp]
    · by_cases ho : p = o
      · simp [ho]
      · simp [hp, ho]

/-- A load stores nothing in memory. -/
theorem load_st (o : Nat) (wire : Option Nat) (fno : Nat) (f : CanFrame) (w : W Can) : (Can.load n o wire fno f w).st = w.st := by
  unfold Can.load
  dsimp only
  split
  · rfl
  · split
    · rfl
    · split
      · exact st_when _ _ (·.code (Pg.CAN + n) 0x1E34 [wd o]) fun _ => rfl
      · rfl

/-- A load into an object that nothing waits in. -/
theorem load_idle {o : Nat} {wire : Option Nat} {fno : Nat} {f : CanFrame} {w : W Can} (h : (w.u.obj n o).frame = none) :
    Can.load n o wire fno f w = w.map (fun u => (u.putObj n o ⟨some f, none, 0⟩).mod Reg.CAN_TX_STAT n o (fun c => putBits c 7 0 1)) := by
  unfold Can.load
  dsimp only
  rw [h]

/-- What the loaded object shows. -/
theorem loaded_shows (o : Nat) (f : CanFrame) :
    let v := (u.putObj n o ⟨some f, none, 0⟩).mod Reg.CAN_TX_STAT n o (fun c => putBits c 7 0 1)
    v.obj n o = ⟨some f, none, 0⟩ ∧ txShown n o v = 1 := by
  refine ⟨obj_put _ _, (congrArg (bits · 3 0) (can_get_mod _ _ _)).trans ?_⟩
  exact bits_putBits_within _ _ (by decide) (by decide) (by decide)

/-- Blocks read. -/
theorem reads_leave {m : Mem} {page : Nat} (l : List Nat) (w : W Can) :
    let v := l.foldl (fun w a => w.readN m page a 1) w
    v.st = w.st ∧ v.u = w.u :=
  foldl_keeps (fun v : W Can => v.st = w.st ∧ v.u = w.u) (fun w a => w.readN m page a 1) (fun _ _ h => h) _ _ ⟨rfl, rfl⟩

theorem sendOne_st (active : Bool) (stone : Word) (wire : Option Nat) (i : SpanIn) (w : W Can) (o : Nat) :
    (Can.sendOne n active stone wire i w o).st = w.st := by
  unfold Can.sendOne
  dsimp only
  split
  · rfl
  · split
    · rfl
    · split
      · exact (reads_leave _ w).1
      · exact (load_st ..).trans (reads_leave _ w).1

/-- The setpoint frame of R321 that an object of version 2 is loaded with, without a command block. -/
def setpointFrame (n o : Nat) (stone : Word) (i : SpanIn) (u : Can) : CanFrame :=
  ⟨setpointV2 (rfld u.regs (rk Reg.CAN_TX_ID n o) 28 0) (bits (u.txCfg n o) 17 12) 0 stone (wd i.fno)
    ((u.sources n o).map (fun k => match k with | some k => i.mem.readWord (i.src + 4 * k) | none => 0#32)), true, true,
    i.fno % 4294967296, true⟩

theorem sendOne_loads {o : Nat} {stone : Word} {wire : Option Nat} {i : SpanIn} {w : W Can} (h5 : w.u.state n ≠ 5)
    (hmem : ∀ b, i.mem.isBad b = false) (hfmt : bits (w.u.txCfg n o) 2 1 = 2) (harg : bit i.arg 31 = false) (hidle : (w.u.obj n o).frame = none) :
    ∃ v : W Can, v.u = w.u ∧ Can.sendOne n true stone wire i w o =
      (v.map (fun u => (u.putObj n o ⟨some (setpointFrame n o stone i w.u), none, 0⟩).mod Reg.CAN_TX_STAT n o (fun c => putBits c 7 0 1))).map
        (Can.ssCount n 7 0) := by
  obtain ⟨v, hv⟩ : ∃ v, v = (((w.u.sources n o).filterMap id).map (fun k => (i.src + 4 * k) / 32 * 32)).eraseDups.foldl
    (fun w a => w.readN i.mem (Pg.CAN + n) a 1) w := ⟨_, rfl⟩
  have hu : v.u = w.u := by rw [hv]; exact (reads_leave _ w).2
  refine ⟨v, hu, ?_⟩
  have hnobad : (((w.u.sources n o).filterMap id).map (fun k => (i.src + 4 * k) / 32 * 32)).any i.mem.isBad = false :=
    List.any_eq_false.mpr fun b _ => by rw [hmem b]; exact Bool.false_ne_true
  have hv1 : (bits (v.u.txCfg n o) 2 1 == 1) = false := by rw [hu, hfmt]; rfl
  unfold Can.sendOne
  dsimp only
  rw [show (!true) = false from rfl, if_neg Bool.false_ne_true, if_neg h5, hnobad, if_neg Bool.false_ne_true, ← hv, harg, hv1,
    load_idle (by rw [hu]; exact hidle), hu]
  rfl

/-! ## The span (R324) -/

/-- The controller at the start of SEND_SET. -/
def cleared (n : Nat) (u : Can) : Can := { u with regs := rset u.regs (rk Reg.CAN_SS_STAT n 0) 0 }

theorem get_cleared {q : Nat} (x : Nat) (h : q % 0x400 ≠ Reg.CAN_SS_STAT % 0x400) : rget (cleared n u).regs (rk q n x) = rget u.regs (rk q n x) :=
  (rget_rset ..).trans (if_neg (rk_ne 0 h))

theorem txCfg_cleared (o : Nat) : (cleared n u).txCfg n o = u.txCfg n o := get_cleared o (by decide)

theorem spanObjs_cleared : (cleared n u).spanObjs n = u.spanObjs n := by
  unfold Can.spanObjs
  refine congrArg (fun p => (upto 64).filter p) (funext fun o => ?_)
  rw [txCfg_cleared]

/-- The work of SEND_SET over its objects, then the code of version 1. -/
theorem sendSet_runs (active : Bool) (stone : Word) (wire : Option Nat) (i : SpanIn) :
    ∃ (w0 : W Can) (c : Bool), w0.st = [] ∧ w0.u = cleared n u ∧ Can.sendSet n active stone wire i u =
      R.good (((u.spanObjs n).foldl (Can.sendOne n active stone wire i) w0).when c (·.code (Pg.CAN + n) 0x2E31 [])) := by
  obtain ⟨w0, h0⟩ : ∃ w0, w0 = (W.of (cleared n u)).when (bit i.arg 31) (·.readN i.mem (Pg.CAN + n) (i.vis (bits i.arg 18 0)) 8) := ⟨_, rfl⟩
  have hw : w0.st = [] ∧ w0.u = cleared n u := by
    rw [h0]
    cases bit i.arg 31
    · exact ⟨rfl, rfl⟩
    · exact ⟨rfl, rfl⟩
  have hform := spanObjs_cleared (n := n) (u := u)
  refine ⟨w0, active && decide ((cleared n u).state n ≠ 5) && decide (65535 < stone.toNat) &&
    ((cleared n u).spanObjs n).any (fun o => bits ((cleared n u).txCfg n o) 2 1 == 1), hw.1, hw.2, ?_⟩
  rw [h0, ← hform]
  rfl

theorem code_when {U : Type} (w : W U) (c : Bool) (p k : Nat) (l : List Word) :
    (w.when c (·.code p k l)).u = w.u ∧ (w.when c (·.code p k l)).st = w.st := by
  cases c
  · exact ⟨rfl, rfl⟩
  · exact ⟨rfl, rfl⟩

theorem sendSet_st (active : Bool) (stone : Word) (wire : Option Nat) (i : SpanIn) :
    (Can.sendSet n active stone wire i u).w.st = [] ∧ (Can.sendSet n active stone wire i u).ok = true := by
  obtain ⟨w0, c, hst, -, he⟩ := sendSet_runs (n := n) (u := u) active stone wire i
  rw [he]
  refine ⟨(code_when _ c _ _ _).2.trans ?_, rfl⟩
  exact foldl_keeps (fun w : W Can => w.st = []) _ (fun w o hw => (sendOne_st active stone wire i w o).trans hw) _ _ hst

/-- Outside ACTIVE. -/
theorem sendSet_inactive (stone : Word) (wire : Option Nat) (i : SpanIn) :
    let v := (Can.sendSet n false stone wire i u).w.u
    v.buses = u.buses ∧ ∀ o, o ∈ u.spanObjs n → txShown n o v = 6 := by
  obtain ⟨w0, c, -, hu, he⟩ := sendSet_runs (n := n) (u := u) false stone wire i
  obtain ⟨-, hbuses, hshown⟩ := sendAll_inactive (n := n) stone wire i (u.spanObjs n) w0
  rw [he]
  dsimp only [R.good]
  rw [(code_when _ c _ _ _).1]
  refine ⟨hbuses.trans (by rw [hu]; rfl), fun o ho => (hshown o).trans (if_pos ho)⟩

/-- In ACTIVE, one idle object of version 2. -/
theorem sendSet_loads {o : Nat} {stone : Word} {wire : Option Nat} {i : SpanIn} (ho : u.spanObjs n = [o]) (h5 : u.state n ≠ 5)
    (hmem : ∀ b, i.mem.isBad b = false) (hfmt : bits (u.txCfg n o) 2 1 = 2) (harg : bit i.arg 31 = false) (hidle : (u.obj n o).frame = none) :
    let v := (Can.sendSet n true stone wire i u).w.u
    (v.obj n o).frame = some (setpointFrame n o stone i u) ∧ txShown n o v = 1 ∧ rfld v.regs (rk Reg.CAN_SS_STAT n 0) 7 0 = 1 := by
  obtain ⟨w0, c, -, hu, he⟩ := sendSet_runs (n := n) (u := u) true stone wire i
  have hstate : w0.u.state n = u.state n := by rw [hu]; exact congrArg (bits · 3 0) (get_cleared 0 (by decide))
  have hframe : setpointFrame n o stone i w0.u = setpointFrame n o stone i u := by
    rw [hu]
    unfold setpointFrame Can.sources rfld
    rw [txCfg_cleared, get_cleared o (by decide), get_cleared o (by decide)]
  obtain ⟨v, hv, hone⟩ := sendOne_loads (n := n) (o := o) (stone := stone) (wire := wire) (i := i) (w := w0) (by rw [hstate]; exact h5) hmem
    (by rw [hu, txCfg_cleared]; exact hfmt) harg (by rw [hu]; exact hidle)
  rw [he, ho]
  dsimp only [R.good]
  rw [(code_when _ c _ _ _).1, List.foldl_cons, List.foldl_nil, hone, hframe]
  obtain ⟨hobj, hshown⟩ := loaded_shows (n := n) (u := v.u) o (setpointFrame n o stone i u)
  refine ⟨congrArg TxObject.frame hobj, (congrArg (bits · 3 0) (can_get_mod_other Reg.CAN_SS_STAT 0 _ o (by decide))).trans hshown, ?_⟩
  refine (congrArg (bits · 7 0) (can_get_mod Reg.CAN_SS_STAT 0 _)).trans ?_
  have hzero : rget v.u.regs (rk Reg.CAN_SS_STAT n 0) = 0#32 := by
    rw [hv, hu]
    exact (rget_rset ..).trans (if_pos rfl)
  have hcell : rget ((v.u.putObj n o ⟨some (setpointFrame n o stone i u), none, 0⟩).mod Reg.CAN_TX_STAT n o (fun c => putBits c 7 0 1)).regs
      (rk Reg.CAN_SS_STAT n 0) = 0#32 := (can_get_mod_other Reg.CAN_TX_STAT o _ 0 (by decide)).trans hzero
  exact (congrArg (fun x => bits (incSatField x 7 0) 7 0) hcell).trans (by decide)

end

end Sys2Proof.Proofs
end

section
/-! SUPPORT. The ends of transmissions and the error states of a CAN controller (R310, R314–R316). -/

namespace Sys2Proof.Proofs

open Sys2Proof Sys2Proof.Machine

-- One proof after another: many at once wait for the kernel in threads of their own, which the check's memory limit does not hold.
set_option Elab.async false

section
variable {n o : Nat} {u : Can}

/-! ## The start of the work: the delay measurement (R312) -/

/-- Work that has stored and delivered nothing yet, and changed CANn_TDC alone. -/
structure Measured (n : Nat) (u : Can) (w : W Can) : Prop where
  st : w.st = []
  plain : w.fx.Plain
  buses : w.u.buses = u.buses
  cells : ∀ q x, q % 0x400 ≠ Reg.CAN_TDC % 0x400 → rget w.u.regs (rk q n x) = rget u.regs (rk q n x)

theorem tdc_measured (tdcv : Nat) (b : Bool) : Measured n u ((W.of u).when b (Can.tdc n tdcv)) := by
  have hmod : ∀ (f : Word → Word), ∀ q x, q % 0x400 ≠ Reg.CAN_TDC % 0x400 →
      rget (rmod u.regs (rk Reg.CAN_TDC n 0) f) (rk q n x) = rget u.regs (rk q n x) := fun f q x hq => rget_rmod_ne _ _ (rk_ne 0 hq)
  cases b
  case false => exact ⟨rfl, ⟨rfl, rfl, rfl, rfl, rfl⟩, rfl, fun _ _ _ => rfl⟩
  case true =>
    change Measured n u (Can.tdc n tdcv (W.of u))
    unfold Can.tdc
    dsimp only
    split
    · split
      · obtain ⟨c, hc⟩ : ∃ c, c = !rbit (W.of u).u.regs (rk Reg.CAN_TDC n 0) 23 := ⟨_, rfl⟩
        rw [← hc]
        cases c
        · exact ⟨rfl, ⟨rfl, rfl, rfl, rfl, rfl⟩, rfl, hmod (fun c => putBit c 23 true)⟩
        · exact ⟨rfl, ⟨rfl, rfl, rfl, rfl, rfl⟩, rfl, hmod (fun c => putBit c 23 true)⟩
      · exact ⟨rfl, ⟨rfl, rfl, rfl, rfl, rfl⟩, rfl, hmod (fun c => putBit (putBits c 22 16 tdcv) 23 false)⟩
    · exact ⟨rfl, ⟨rfl, rfl, rfl, rfl, rfl⟩, rfl, fun _ _ _ => rfl⟩

theorem Measured.bus {w : W Can} (h : Measured n u w) : w.u.bus n = u.bus n := congrArg (sget canDefault · n) h.buses

theorem Measured.obj {w : W Can} (h : Measured n u w) : w.u.obj n o = u.obj n o := congrArg (fun b : CanBus => sget txDefault b.objs o) h.bus

theorem Measured.txCfg {w : W Can} (h : Measured n u w) : w.u.txCfg n o = u.txCfg n o := h.cells _ o (by decide)

theorem Measured.state {w : W Can} (h : Measured n u w) : w.u.state n = u.state n := congrArg (bits · 3 0) (h.cells _ 0 (by decide))

/-! ## A transmission that is sent (R315) -/

/-- The controller after a frame sent, before the next content and the counters' display. -/
def sentCan (n o : Nat) (f : CanFrame) (tec : Nat) (next : Option CanFrame) (u : Can) : Can :=
  (((u.putBus n { u.bus n with tec := tec - 1 }).putObj n o ⟨none, next, 0⟩).mod Reg.CAN_TX_STAT n o (fun c =>
    putBits (putBits c 7 0 2) 31 16 (if f.span then f.fno else bits c 31 16))).mod Reg.CAN_CNT_TX n 0 (· + 1#32)

/-- What the next content's promotion leaves. -/
theorem promote_leaves : let v := Can.promote n o u
    v.obj n o = (match (u.obj n o).next with | some f => ⟨some f, none, 0⟩ | none => u.obj n o) ∧
      ((u.obj n o).next = none → v = u) ∧ (v.bus n).tec = (u.bus n).tec ∧ (v.bus n).rec_ = (u.bus n).rec_ ∧
      ∀ q x, q % 0x400 ≠ Reg.CAN_TX_STAT % 0x400 → rget v.regs (rk q n x) = rget u.regs (rk q n x) := by
  unfold Can.promote
  dsimp only
  cases h : (u.obj n o).next with
  | none => exact ⟨rfl, fun _ => rfl, rfl, rfl, fun _ _ _ => rfl⟩
  | some f =>
    refine ⟨obj_put _ _, fun h => absurd h (by simp), ?_, ?_, fun q x hq => can_get_mod_other _ _ _ x hq⟩
    · exact (congrArg CanBus.tec (bus_putObj (u := u) (n := n) o ⟨some f, none, 0⟩)).trans rfl
    · exact (congrArg CanBus.rec_ (bus_putObj (u := u) (n := n) o ⟨some f, none, 0⟩)).trans rfl

/-- What a frame sent leaves. -/
structure Sent (n o : Nat) (u : Can) (w : W Can) : Prop where
  st : w.st = []
  plain : w.fx.Plain
  obj : w.u.obj n o = ⟨(u.obj n o).next, none, 0⟩
  shown : (u.obj n o).next = none → txShown n o w.u = 2
  tec : (w.u.bus n).tec = (u.bus n).tec - 1
  count : rget w.u.regs (rk Reg.CAN_CNT_TX n 0) = rget u.regs (rk Reg.CAN_CNT_TX n 0) + 1#32

theorem showErr_get (q x : Nat) (h : q % 0x400 ≠ Reg.CAN_ERRC % 0x400) : rget (u.showErr n).regs (rk q n x) = rget u.regs (rk q n x) :=
  can_get_mod_other Reg.CAN_ERRC 0 _ x h

/-- The counts of a SEND_SET apart. -/
theorem ssCount_get (hi lo q x : Nat) (h : q % 0x400 ≠ Reg.CAN_SS_STAT % 0x400) : rget (Can.ssCount n hi lo u).regs (rk q n x) = rget u.regs (rk q n x) :=
  can_get_mod_other Reg.CAN_SS_STAT 0 _ x h

theorem ssCount_when (b : Bool) (hi lo : Nat) (w : W Can) :
    let v := w.when b (·.map (Can.ssCount n hi lo))
    v.st = w.st ∧ v.fx = w.fx ∧ v.u.buses = w.u.buses ∧
      ∀ q x, q % 0x400 ≠ Reg.CAN_SS_STAT % 0x400 → rget v.u.regs (rk q n x) = rget w.u.regs (rk q n x) := by
  cases b
  · exact ⟨rfl, rfl, rfl, fun _ _ _ => rfl⟩
  · exact ⟨rfl, rfl, rfl, fun q x hq => ssCount_get hi lo q x hq⟩

/-- A controller takes part and is not in LISTEN, and an object's frame is on the bus. -/
structure OnBus (n o : Nat) (f : CanFrame) (u : Can) : Prop where
  live : u.state n = 2 ∨ u.state n = 3
  active : rbit u.regs (rk Reg.CAN_CTRL n 0) 5 = false
  frame : (u.obj n o).frame = some f

theorem OnBus.gate {f : CanFrame} (h : OnBus n o f u) :
    (!(decide (u.state n = 2) || decide (u.state n = 3)) || rbit u.regs (rk Reg.CAN_CTRL n 0) 5) = false := by
  rw [h.active]
  obtain h | h := h.live
  · rw [h]; rfl
  · rw [h]; rfl

/-- The work of a frame sent after the delay measurement. -/
def sentWork (n o : Nat) (f : CanFrame) (u : Can) (w : W Can) : W Can :=
  let w := w.map (sentCan n o f (u.bus n).tec (u.obj n o).next)
  let w := w.when f.span (·.map (Can.ssCount n 15 8))
  let w := w.emit (.can n (rfld u.regs (rk Reg.CAN_TX_ID n o) 28 0 + 0x20000000 * b2n (bit (u.txCfg n o) 4)) f.data)
  Can.passive n (w.map (fun u => (Can.promote n o u).showErr n))

theorem transmitEnd_sent {f : CanFrame} (h : OnBus n o f u) (tdcv : Nat) :
    u.transmitEnd n o 0 tdcv = sentWork n o f u ((W.of u).when f.brs (Can.tdc n tdcv)) := by
  unfold Can.transmitEnd
  dsimp only
  rw [h.frame]
  dsimp only
  rw [h.gate]
  rfl

theorem sentCan_leaves (f : CanFrame) (tec : Nat) (next : Option CanFrame) : let v := sentCan n o f tec next u
    v.obj n o = ⟨none, next, 0⟩ ∧ txShown n o v = 2 ∧ (v.bus n).tec = tec - 1 ∧
      rget v.regs (rk Reg.CAN_CNT_TX n 0) = rget u.regs (rk Reg.CAN_CNT_TX n 0) + 1#32 := by
  refine ⟨obj_put (u := u.putBus n { u.bus n with tec := tec - 1 }) o ⟨none, next, 0⟩, ?_, ?_, ?_⟩
  · refine (congrArg (bits · 3 0) ((can_get_mod_other Reg.CAN_CNT_TX 0 _ o (by decide)).trans (can_get_mod Reg.CAN_TX_STAT o _))).trans ?_
    rw [bits_putBits_apart _ _ (by decide) (by decide) (.inl (by decide))]
    exact bits_putBits_within _ _ (by decide) (by decide) (by decide)
  · change (((u.putBus n { u.bus n with tec := tec - 1 }).putObj n o ⟨none, next, 0⟩).bus n).tec = tec - 1
    rw [bus_putObj, bus_put]
  · exact (can_get_mod Reg.CAN_CNT_TX 0 _).trans (congrArg (· + 1#32) (can_get_mod_other Reg.CAN_TX_STAT o _ 0 (by decide)))

theorem sent_work {f : CanFrame} {w : W Can} (hw : Measured n u w) : Sent n o u (sentWork n o f u w) ∧
    Emit.can n (rfld u.regs (rk Reg.CAN_TX_ID n o) 28 0 + 0x20000000 * b2n (bit (u.txCfg n o) 4)) f.data ∈ (sentWork n o f u w).fx.emits := by
  obtain ⟨hobj, hshown, htec, hcount⟩ := sentCan_leaves (n := n) (o := o) (u := w.u) f (u.bus n).tec (u.obj n o).next
  obtain ⟨hst1, hfx1, hbuses1, hcells1⟩ := ssCount_when (n := n) f.span 15 8 (w.map (sentCan n o f (u.bus n).tec (u.obj n o).next))
  unfold sentWork
  dsimp only
  generalize (w.map (sentCan n o f (u.bus n).tec (u.obj n o).next)).when f.span (·.map (Can.ssCount n 15 8)) = y at *
  have hyobj : y.u.obj n o = ⟨none, (u.obj n o).next, 0⟩ := (congrArg (fun l => sget txDefault (sget canDefault l n).objs o) hbuses1).trans hobj
  have hytec : (y.u.bus n).tec = (u.bus n).tec - 1 := (congrArg (fun l => (sget canDefault l n).tec) hbuses1).trans htec
  have hyshown : txShown n o y.u = 2 := (congrArg (bits · 3 0) (hcells1 _ o (by decide))).trans hshown
  have hycount : rget y.u.regs (rk Reg.CAN_CNT_TX n 0) = rget u.regs (rk Reg.CAN_CNT_TX n 0) + 1#32 :=
    ((hcells1 _ 0 (by decide)).trans hcount).trans (congrArg (· + 1#32) (hw.cells _ 0 (by decide)))
  obtain ⟨hpobj, hpsame, hptec, -, hpcells⟩ := promote_leaves (n := n) (o := o) (u := y.u)
  obtain ⟨e, he⟩ : ∃ e, e = Emit.can n (rfld u.regs (rk Reg.CAN_TX_ID n o) 28 0 + 0x20000000 * b2n (bit (u.txCfg n o) 4)) f.data := ⟨_, rfl⟩
  rw [← he]
  obtain ⟨hst, hasks, hbuses, hcells⟩ := passive_from n ((y.emit e).map (fun u => (Can.promote n o u).showErr n))
  have hplain : y.fx.Plain := by rw [hfx1]; exact hw.plain
  refine ⟨⟨hst.trans (hst1.trans hw.st), hasks.plain ⟨hplain.reads, hplain.samples, hplain.pushes, hplain.triggers, hplain.heals⟩, ?_, fun hn => ?_, ?_, ?_⟩, ?_⟩
  · refine (congrArg (fun l => sget txDefault (sget canDefault l n).objs o) hbuses).trans (hpobj.trans ?_)
    rw [hyobj]
    cases (u.obj n o).next
    · rfl
    · rfl
  · refine (congrArg (bits · 3 0) ((hcells _ o (by decide)).trans (showErr_get _ o (by decide)))).trans ?_
    have hp : Can.promote n o (y.emit e).u = (y.emit e).u := hpsame (by rw [hyobj]; exact hn)
    rw [hp]
    exact hyshown
  · exact (congrArg (fun l => (sget canDefault l n).tec) hbuses).trans (hptec.trans hytec)
  · exact (hcells _ 0 (by decide)).trans ((showErr_get _ 0 (by decide)).trans ((hpcells _ 0 (by decide)).trans hycount))
  · rw [hasks.emits]
    exact List.mem_append_right _ (List.mem_singleton_self _)

/-! ## Attempts that did not send (R315, R316) -/

/-- The end of an attempt by its outcome. -/
theorem transmitEnd_lost {f : CanFrame} (h : OnBus n o f u) (tdcv : Nat) :
    u.transmitEnd n o 1 tdcv = Can.retry n o ((W.of u).when f.brs (Can.tdc n tdcv)) := by
  unfold Can.transmitEnd
  dsimp only
  rw [h.frame]
  dsimp only
  rw [h.gate]
  rfl

/-- The controller after an error frame it sent into. -/
def errored (n tec : Nat) (u : Can) : Can :=
  ((u.putBus n { u.bus n with tec := tec + 8 }).showErr n).mod Reg.CAN_CNT_ERR n 0 (fun c => incSatField c 15 0)

theorem transmitEnd_error {f : CanFrame} (h : OnBus n o f u) (tdcv : Nat) :
    u.transmitEnd n o 2 tdcv =
      let w := ((W.of u).when f.brs (Can.tdc n tdcv)).map (errored n (u.bus n).tec)
      if 255 < (u.bus n).tec + 8 then Can.busOff n o (w.when (u.obj n o).next.isSome (·.map (Can.promote n o)))
      else Can.passive n (Can.retry n o w) := by
  unfold Can.transmitEnd
  dsimp only
  rw [h.frame]
  dsimp only
  rw [h.gate]
  rfl

/-- What a retry leaves, whatever it decides. -/
structure Retried (n : Nat) (w v : W Can) : Prop where
  st : v.st = w.st
  asks : AsksLike v.fx w.fx
  tec : (v.u.bus n).tec = (w.u.bus n).tec
  state : v.u.state n = w.u.state n

/-- An object taken out of the queue, with the counts that show it. -/
def abandoned (n o k : Nat) (u : Can) : Can :=
  ((u.putObj n o ⟨none, none, 0⟩).mod Reg.CAN_TX_STAT n o (fun c => putBits (putBits c 3 0 3) 7 4 (min k 15))).mod Reg.CAN_CNT_ERR n 0
    (fun c => incSatField c 23 16)

section
variable {w : W Can}

theorem retry_again (hn : (w.u.obj n o).next = none) (hk : (w.u.obj n o).retries + 1 ≤ bits (w.u.txCfg n o) 11 8) :
    Can.retry n o w = w.map (fun u => (u.putObj n o { w.u.obj n o with retries := (w.u.obj n o).retries + 1 }).mod Reg.CAN_TX_STAT n o
      (fun c => putBits c 7 4 ((w.u.obj n o).retries + 1))) := by
  unfold Can.retry
  dsimp only
  rw [hn]
  exact (if_neg Bool.false_ne_true).trans (if_neg (by omega))

theorem retry_abandons (hn : (w.u.obj n o).next = none) (hk : bits (w.u.txCfg n o) 11 8 < (w.u.obj n o).retries + 1) :
    ∃ b, Can.retry n o w = (((w.map (abandoned n o ((w.u.obj n o).retries + 1))).when b (·.map (Can.ssCount n 23 16))).evt (Pg.CAN + n) 0).code
      (Pg.CAN + n) 0x1E10 [wd o] := by
  unfold Can.retry
  dsimp only
  rw [hn]
  exact ⟨_, (if_neg Bool.false_ne_true).trans (if_pos hk)⟩

theorem retry_replaced (hn : (w.u.obj n o).next.isSome = true) : Can.retry n o w = w.map (Can.promote n o) := by
  unfold Can.retry
  dsimp only
  rw [hn]
  exact if_pos rfl

theorem tec_putObj (x : TxObject) : ((u.putObj n o x).bus n).tec = (u.bus n).tec := by rw [bus_putObj]

/-- What an abandoned object leaves. -/
theorem abandoned_leaves (k : Nat) : let v := abandoned n o k u
    v.obj n o = ⟨none, none, 0⟩ ∧ txShown n o v = 3 ∧ (v.bus n).tec = (u.bus n).tec ∧ v.state n = u.state n := by
  refine ⟨obj_put (u := u) o ⟨none, none, 0⟩, ?_, tec_putObj _, ?_⟩
  · refine (congrArg (bits · 3 0) ((can_get_mod_other Reg.CAN_CNT_ERR 0 _ o (by decide)).trans (can_get_mod Reg.CAN_TX_STAT o _))).trans ?_
    rw [bits_putBits_apart _ _ (by decide) (by decide) (.inl (by decide))]
    exact bits_putBits_same _ _ (by decide) (by decide)
  · exact congrArg (bits · 3 0) ((can_get_mod_other Reg.CAN_CNT_ERR 0 _ 0 (by decide)).trans (can_get_mod_other Reg.CAN_TX_STAT o _ 0 (by decide)))

theorem retry_retried : Retried n w (Can.retry n o w) := by
  cases hn : (w.u.obj n o).next with
  | some f =>
    rw [retry_replaced (by rw [hn]; rfl)]
    obtain ⟨-, -, htec, -, hcells⟩ := promote_leaves (n := n) (o := o) (u := w.u)
    exact ⟨rfl, .refl _, htec, congrArg (bits · 3 0) (hcells _ 0 (by decide))⟩
  | none =>
    by_cases hk : bits (w.u.txCfg n o) 11 8 < (w.u.obj n o).retries + 1
    · obtain ⟨b, he⟩ := retry_abandons hn hk
      obtain ⟨-, -, htec, hstate⟩ := abandoned_leaves (n := n) (o := o) (u := w.u) ((w.u.obj n o).retries + 1)
      obtain ⟨hst, hfx, hbuses, hcells⟩ := ssCount_when (n := n) b 23 16 (w.map (abandoned n o ((w.u.obj n o).retries + 1)))
      rw [he]
      generalize (w.map (abandoned n o ((w.u.obj n o).retries + 1))).when b (·.map (Can.ssCount n 23 16)) = y at *
      have hy : y.fx = w.fx := hfx
      refine ⟨hst, ?_, ?_, ?_⟩
      · rw [← hy]
        exact ⟨rfl, rfl, rfl, rfl, rfl, rfl⟩
      · exact (congrArg (fun l => (sget canDefault l n).tec) hbuses).trans htec
      · exact (congrArg (bits · 3 0) (hcells _ 0 (by decide))).trans hstate
    · rw [retry_again hn (by omega)]
      refine ⟨rfl, .refl _, ?_, ?_⟩
      · exact tec_putObj (u := w.u) _
      · exact congrArg (bits · 3 0) (can_get_mod_other Reg.CAN_TX_STAT o _ 0 (by decide))

/-! ## Bus-off (R316) -/

/-- What bus-off leaves. -/
structure BusOff (n o : Nat) (w v : W Can) : Prop where
  st : v.st = w.st
  asks : AsksLike v.fx w.fx
  state : v.u.state n = 4
  off : rbit v.u.regs (rk Reg.CAN_STAT n 0) 4 = true
  frame : (v.u.obj n o).frame = (w.u.obj n o).frame
  retries : (v.u.obj n o).retries = 0
  tec : (v.u.bus n).tec = (w.u.bus n).tec
  codes : ∃ h, v.fx.codes = w.fx.codes ++ [⟨Pg.CAN + n, 0x2E12, [wd h], false⟩]
  evts : (Pg.CAN + n, 2) ∈ v.fx.evts

/-- The controller in bus-off, head h of its queue shown, before recovery is decided. -/
def offCan (n o h : Nat) (u : Can) : Can :=
  (((((u.putObj n o { u.obj n o with retries := 0 }).setState n 4).mod Reg.CAN_STAT n 0 (fun c => putBits (putBit c 4 true) 13 8 h)).mod
    Reg.CAN_ERRC n 0 (fun c => incSatField c 31 16)).mod Reg.CAN_TX_STAT n o (fun c => putBits c 7 4 0))

theorem busOff_eq : ∃ h, Can.busOff n o w =
    ((w.map (fun u => (offCan n o h u).putBus n { (offCan n o h u).bus n with recover := rbit (offCan n o h u).regs (rk Reg.CAN_CTRL n 0) 1 })).evt
      (Pg.CAN + n) 2).code (Pg.CAN + n) 0x2E12 [wd h] :=
  ⟨(w.u.head n).getD o, rfl⟩

theorem offCan_leaves (h : Nat) : let v := offCan n o h u
    v.bus n = { u.bus n with objs := sset txDefault (u.bus n).objs o { u.obj n o with retries := 0 } } ∧ v.state n = 4 ∧
      rbit v.regs (rk Reg.CAN_STAT n 0) 4 = true := by
  have hcell : rget (offCan n o h u).regs (rk Reg.CAN_STAT n 0) =
      putBits (putBit (rget ((u.putObj n o { u.obj n o with retries := 0 }).setState n 4).regs (rk Reg.CAN_STAT n 0)) 4 true) 13 8 h :=
    (can_get_mod_other Reg.CAN_TX_STAT o _ 0 (by decide)).trans ((can_get_mod_other Reg.CAN_ERRC 0 _ 0 (by decide)).trans (can_get_mod Reg.CAN_STAT 0 _))
  refine ⟨bus_putObj (u := u) o _, ?_, ?_⟩
  · refine (congrArg (bits · 3 0) hcell).trans ?_
    rw [bits_putBits_apart _ _ (by decide) (by decide) (.inl (by decide)), bits_putBit_apart _ _ (by decide) (.inr (by decide))]
    exact canState_set (u := u.putObj n o { u.obj n o with retries := 0 }) (by decide)
  · refine (congrArg (bit · 4) hcell).trans ?_
    rw [bit, getLsbD_putBits _ _ _ _ (by decide) (by decide), if_neg (by decide), ← bit, bit_putBit _ _ _ (by decide), if_pos rfl]

theorem busOff_off : BusOff n o w (Can.busOff n o w) := by
  obtain ⟨h, he⟩ := busOff_eq (n := n) (o := o) (w := w)
  obtain ⟨hbus, hstate, hoff⟩ := offCan_leaves (n := n) (o := o) (u := w.u) h
  obtain ⟨v, hv⟩ : ∃ v, v = (offCan n o h w.u).putBus n { (offCan n o h w.u).bus n with
    recover := rbit (offCan n o h w.u).regs (rk Reg.CAN_CTRL n 0) 1 } := ⟨_, rfl⟩
  have hobjs : (v.bus n).objs = sset txDefault (w.u.bus n).objs o { w.u.obj n o with retries := 0 } := by rw [hv, bus_put, hbus]
  have htec : (v.bus n).tec = (w.u.bus n).tec := by rw [hv, bus_put, hbus]
  have hobj : v.obj n o = { w.u.obj n o with retries := 0 } := by
    unfold Can.obj
    rw [hobjs]
    exact sget_sset_self ..
  have hframe : (v.obj n o).frame = (w.u.obj n o).frame := by rw [hobj]
  have hretries : (v.obj n o).retries = 0 := by rw [hobj]
  rw [he]
  subst hv
  exact ⟨rfl, ⟨rfl, rfl, rfl, rfl, rfl, rfl⟩, hstate, hoff, hframe, hretries, htec, ⟨h, rfl⟩, List.mem_append_right _ (List.mem_singleton_self _)⟩

end

/-! ## Counters (R310, R316) -/

/-- What an error frame leaves of its controller. -/
theorem errored_leaves (tec : Nat) : let v := errored n tec u
    v.bus n = { u.bus n with tec := tec + 8 } ∧ v.state n = u.state n ∧ v.obj n o = u.obj n o := by
  have hbus : (errored n tec u).bus n = { u.bus n with tec := tec + 8 } := bus_put (u := u) _
  refine ⟨hbus, ?_, ?_⟩
  · exact congrArg (bits · 3 0) ((can_get_mod_other Reg.CAN_CNT_ERR 0 _ 0 (by decide)).trans (can_get_mod_other Reg.CAN_ERRC 0 _ 0 (by decide)))
  · unfold Can.obj
    rw [hbus]

/-- A frame received in error. -/
theorem receiveError_eq (h : u.state n = 2 ∨ u.state n = 3) : u.receiveError n =
    Can.passive n (W.of (((u.putBus n { u.bus n with rec_ := min ((u.bus n).rec_ + 1) 135 }).showErr n).mod Reg.CAN_CNT_ERR n 0
      (fun c => incSatField c 15 0))) := if_pos h

theorem recoverEnd_eq (h4 : u.state n = 4) (hr : (u.bus n).recover = true) : u.recoverEnd n =
    ((W.of ((((u.putBus n { u.bus n with tec := 0, rec_ := 0, recover := false }).setState n 2).mod Reg.CAN_STAT n 0
      (fun c => putBit c 4 false)).showErr n)).evt (Pg.CAN + n) 3).code (Pg.CAN + n) 0x0E13 [] := if_pos ⟨h4, hr⟩

/-- What the end of recovery leaves. -/
theorem recovered_leaves (b : CanBus) :
    let v := (((u.putBus n b).setState n 2).mod Reg.CAN_STAT n 0 (fun c => putBit c 4 false)).showErr n
    v.bus n = b ∧ v.state n = 2 ∧ rbit v.regs (rk Reg.CAN_STAT n 0) 4 = false := by
  have hcell : rget ((((u.putBus n b).setState n 2).mod Reg.CAN_STAT n 0 (fun c => putBit c 4 false)).showErr n).regs (rk Reg.CAN_STAT n 0) =
      putBit (rget ((u.putBus n b).setState n 2).regs (rk Reg.CAN_STAT n 0)) 4 false :=
    (showErr_get _ 0 (by decide)).trans (can_get_mod Reg.CAN_STAT 0 _)
  refine ⟨bus_put (u := u) b, ?_, ?_⟩
  · refine (congrArg (bits · 3 0) hcell).trans ?_
    rw [bits_putBit_apart _ _ (by decide) (.inr (by decide))]
    exact canState_set (u := u.putBus n b) (by decide)
  · refine (congrArg (bit · 4) hcell).trans ?_
    rw [bit_putBit _ _ _ (by decide), if_pos rfl]

theorem integrated_eq (h : u.state n = 1) : u.integrated n = Can.passive n (W.of (u.setState n 2)) := if_pos h

end

end Sys2Proof.Proofs
end

section
/-! The CAN controllers' sending, settled (R310, R313–R316, R321, R324). -/

namespace Sys2Proof.Proofs

open Sys2Proof Sys2Proof.Machine

-- One proof after another: many at once wait for the kernel in threads of their own, which the check's memory limit does not hold.
set_option Elab.async false

/-! ## SEND_SET (R324) -/

/-- The controllers put back. -/
def putCan (u : Can) (s : State) : State := { s with can := u }

/-- The answer of SEND_SET. -/
def sendSetAnswer (wire : Option (Fin 64)) (x : Span) (i : SpanIn) (s : State) : R Can :=
  s.can.sendSet (x.unit - 0x22) s.isActive s.stone (wire.map (·.val)) i

/-- The rest of the module after a START that hands the controllers back. -/
theorem shell_begunCan {s t : State} {idx : Nat} {u : Can} {q : Seq} (hshell : t.shell = { (putCan u (s.begun idx)).shell with seq := t.seq })
    (hseq : t.seq = q) :
    t.can = u ∧ t.shell = { s.shell with
      seq := q
      can := t.can
      free := s.free + 1 } := by
  have hcan : t.can = u := congrArg (·.can) hshell
  refine ⟨hcan, hshell.trans ?_⟩
  rw [hcan, hseq]
  rfl

theorem sendSet_starts {s : State} {idx : Nat} {x : Span} {wire : Option (Fin 64)} (h : s.Starts idx x) (h1 : 0x22 ≤ x.unit)
    (h2 : x.unit ≤ 0x25) (ho : x.opcode = 1) {t : State}
    (ht : t = s.startSpan idx (fun x => (decide (0x22 ≤ x.unit) && decide (x.unit ≤ 0x25)) && x.opcode == 1) false (State.sendSetWork wire)) :
    s.Answered t idx x (sendSetAnswer wire x (s.handed idx x) (s.begun idx)) ∧ t.seq = s.seq.started idx x true none ∧
      t.can = (sendSetAnswer wire x (s.handed idx x) (s.begun idx)).w.u ∧
      t.shell = { s.shell with
        seq := s.seq.started idx x true none
        can := t.can
        free := s.free + 1 } := by
  have hok : ((decide (0x22 ≤ x.unit) && decide (x.unit ≤ 0x25)) && x.opcode == 1) = true := by
    rw [decide_eq_true h1, decide_eq_true h2, ho]
    rfl
  obtain ⟨hanswered, hshell⟩ := startSpan_answers h (fun x => (decide (0x22 ≤ x.unit) && decide (x.unit ≤ 0x25)) && x.opcode == 1) hok putCan
    (fun _ _ => ⟨rfl, rfl, rfl, rfl⟩) (sendSetAnswer wire)
  have hgood : (sendSetAnswer wire x (s.handed idx x) (s.begun idx)).ok = true := (sendSet_st ..).2
  generalize sendSetAnswer wire x (s.handed idx x) (s.begun idx) = r at *
  have ht' : t = s.startSpan idx (fun x => (decide (0x22 ≤ x.unit) && decide (x.unit ≤ 0x25)) && x.opcode == 1) false
    (fun x i z => z.ran putCan (sendSetAnswer wire x i z)) := ht
  rw [← ht'] at hanswered hshell
  obtain ⟨hseq, hfree, hbytes⟩ := hanswered
  have hseq' : t.seq = s.seq.started idx x true none := by
    rw [hseq, hgood]
    rfl
  exact ⟨⟨hseq, hfree, hbytes⟩, hseq', shell_begunCan hshell hseq'⟩

/-! ## The queue (R313, R314) -/

section
variable {n : Nat} {u : Can} {wire : Option Nat} {fno : Nat}

theorem packet_loaded {w0 : Word} {ws : List (Word × Bool)} (hsound : ws.all (fun w => !w.2) = true)
    (hraw : bits (u.txCfg n (bits w0 5 0)) 2 1 = 0) (hen : bit (u.txCfg n (bits w0 5 0)) 0 = true)
    (hlen : dlcBytes (bit (u.txCfg n (bits w0 5 0)) 5) (bits w0 11 8) ≤ 4 * ws.length) :
    u.packet n wire fno ((w0, false) :: ws) = Can.load n (bits w0 5 0) wire fno
      ⟨(wordsBytes (ws.map (·.1))).take (dlcBytes (bit (u.txCfg n (bits w0 5 0)) 5) (bits w0 11 8)), bit (u.txCfg n (bits w0 5 0)) 5,
        bit (u.txCfg n (bits w0 5 0)) 6, 0, false⟩ (W.of u) := by
  have hany : ((w0, false) :: ws).any (·.2) = false := by
    rw [List.any_cons, List.any_eq_false.mpr fun w hw => ?_]
    · rfl
    · have := List.all_eq_true.mp hsound w hw
      simpa using this
  unfold Can.packet
  dsimp only
  rw [hraw, hen, hany, List.drop_one, List.tail_cons, List.length_map]
  exact if_neg (by simp; omega)

theorem packet_discarded {w0 : Word} {ws : List (Word × Bool)} (h : bits (u.txCfg n (bits w0 5 0)) 2 1 ≠ 0 ∨
      4 * ws.length < dlcBytes (bit (u.txCfg n (bits w0 5 0)) 5) (bits w0 11 8)) :
    u.packet n wire fno ((w0, false) :: ws) = (W.of u).code (Pg.CAN + n) 0x1E14 [wd (bits w0 5 0)] := by
  unfold Can.packet
  dsimp only
  refine if_pos ?_
  rw [List.drop_one, List.tail_cons, List.length_map]
  obtain h | h := h
  · exact .inl h
  · exact .inr (.inr (.inl h))

end

section
variable {s : State} {f : Can → W Can}

/-- Plain work of a controller: FQ stands, its frames leave, its flags are raised. -/
theorem plain_onCan (hst : (f s.can).st = []) (h : (f s.can).fx.Plain) :
    (s.onCan f).fq = s.fq ∧ (s.onCan f).outbox = (f s.can).fx.emits.reverse ++ s.outbox ∧
      ∀ p k, k < 32 → (p, k) ∈ (f s.can).fx.evts → (s.onCan f).evtSet p k = true := by
  have hform : s.onCan f = ({ s with can := (f s.can).u } : State).commit (f s.can).fx [] := by
    rw [← hst]
    rfl
  generalize (f s.can).fx = fx at *
  generalize (f s.can).u = u at *
  rw [hform]
  exact ⟨plain_fq fx h _, plain_outbox fx h _, fun p k hk hl => evtSet_commit h hk hl _⟩

end

/-- A packet of a controller's consumer, taken and handed to it. -/
theorem packetLoad_runs {a : At} {n : Fin 4} {q : Fin 64} {wire : Option (Fin 64)} {ws : List (Word × Bool)} {s : State}
    (hon : s.canOn n.val = true) (hp : (s.packetFor (0x22 + n.val) q.val).1 = some ws) :
    ∃ fq : Fq, (fq.firkin q.val).committed = (splitPacket (s.fq.firkin q.val).committed).2 ∧
      exec (.canTxPacketLoad a n q wire) s =
        .next (({ s.at_ a with fq := fq } : State).onCan (fun _ => s.can.packet n.val (wire.map (·.val)) s.seq.count ws)) := by
  have hp' : ((s.at_ a).packetFor (0x22 + n.val) q.val).1 = some ws := (packetFor_at _ _ a s).trans hp
  obtain ⟨fq, hfq, hcommitted⟩ := packetFor_taken hp'
  refine ⟨fq, hcommitted, congrArg Host.Outcome.next ((if_pos hon).trans ?_)⟩
  dsimp only
  rw [hp', hfq]
  rfl

/-- A frame on the bus of a controller that takes part: what each outcome leaves. -/
theorem transmit_outcomes {s : State} {n o : Nat} {f : CanFrame} (h : OnBus n o f s.can) (tdcv : Nat)
    (hpage : Pg.CAN + n ≠ Pg.SNAP ∧ Pg.CAN + n ≠ Pg.FLT) :
    let t := fun k => s.onCan (fun u => u.transmitEnd n o k tdcv)
    let x := s.can.obj n o
    (Sent n o s.can (s.can.transmitEnd n o 0 tdcv) ∧
      Emit.can n (rfld s.can.regs (rk Reg.CAN_TX_ID n o) 28 0 + 0x20000000 * b2n (bit (s.can.txCfg n o) 4)) f.data ∈ (t 0).outbox) ∧
    ((s.can.transmitEnd n o 1 tdcv).st = [] ∧
      (x.next = none → x.retries + 1 ≤ bits (s.can.txCfg n o) 11 8 → (t 1).can.obj n o = ⟨some f, none, x.retries + 1⟩) ∧
      (x.next = none → bits (s.can.txCfg n o) 11 8 < x.retries + 1 →
        (t 1).can.obj n o = ⟨none, none, 0⟩ ∧ txShown n o (t 1).can = 3 ∧ (t 1).errCode (Pg.CAN + n) = 0x1E10 ∧
          (t 1).evtSet (Pg.CAN + n) 0 = true) ∧
      ((t 1).can.bus n).tec = (s.can.bus n).tec) ∧
    ((s.can.transmitEnd n o 2 tdcv).st = [] ∧ ((t 2).can.bus n).tec = (s.can.bus n).tec + 8 ∧
      (255 < (s.can.bus n).tec + 8 → (t 2).can.state n = 4 ∧ rbit (t 2).can.regs (rk Reg.CAN_STAT n 0) 4 = true ∧
        ((t 2).can.obj n o).frame.isSome = true ∧ ((t 2).can.obj n o).retries = 0 ∧ (t 2).errCode (Pg.CAN + n) = 0x2E12 ∧
        (t 2).evtSet (Pg.CAN + n) 2 = true) ∧
      ((s.can.bus n).tec + 8 ≤ 255 → (t 2).can.state n ≠ 4)) := by
  intro t x
  have hm := tdc_measured (n := n) (u := s.can) tdcv f.brs
  have hsent := transmitEnd_sent h tdcv
  have hlost := transmitEnd_lost h tdcv
  have herr := transmitEnd_error h tdcv
  dsimp only at herr
  generalize (W.of s.can).when f.brs (Can.tdc n tdcv) = w at *
  have hnext : w.u.obj n o = x := hm.obj
  have hcan : ∀ k, (t k).can = (s.can.transmitEnd n o k tdcv).u := fun k => onCan_can _ _
  refine ⟨?_, ?_, ?_⟩
  · obtain ⟨hs, hemit⟩ := sent_work (o := o) (f := f) hm
    rw [← hsent] at hs hemit
    refine ⟨hs, ?_⟩
    rw [show (t 0).outbox = _ from (plain_onCan (s := s) hs.st hs.plain).2.1]
    exact List.mem_append_left _ (List.mem_reverse.mpr hemit)
  · have hr := retry_retried (n := n) (o := o) (w := w)
    refine ⟨(congrArg W.st hlost).trans (hr.st.trans hm.st), fun hn hk => ?_, fun hn hk => ?_, ?_⟩
    · have he := retry_again (w := w) (by rw [hnext]; exact hn) (by rw [hnext, hm.txCfg]; exact hk)
      rw [hcan, hlost, he, hnext]
      refine (obj_put (u := w.u) o { x with retries := x.retries + 1 }).trans ?_
      have hf : x.frame = some f := h.frame
      rw [hf, hn]
    · obtain ⟨b, he⟩ := retry_abandons (w := w) (by rw [hnext]; exact hn) (by rw [hnext, hm.txCfg]; exact hk)
      obtain ⟨hobj, hshown, -, -⟩ := abandoned_leaves (n := n) (o := o) (u := w.u) ((w.u.obj n o).retries + 1)
      obtain ⟨hst, hfx, hbuses, hcells⟩ := ssCount_when (n := n) b 23 16 (w.map (abandoned n o ((w.u.obj n o).retries + 1)))
      generalize (w.map (abandoned n o ((w.u.obj n o).retries + 1))).when b (·.map (Can.ssCount n 23 16)) = y at *
      have hall := hlost.trans he
      have hplain : (s.can.transmitEnd n o 1 tdcv).fx.Plain := by
        rw [hlost]
        exact hr.asks.plain hm.plain
      have hempty : (s.can.transmitEnd n o 1 tdcv).st = [] := (congrArg W.st hlost).trans (hr.st.trans hm.st)
      refine ⟨?_, ?_, ?_, ?_⟩
      · rw [hcan, hall]
        exact (congrArg (fun l => sget txDefault (sget canDefault l n).objs o) hbuses).trans hobj
      · rw [hcan, hall]
        exact (congrArg (bits · 3 0) (hcells _ o (by decide))).trans hshown
      · exact errCode_controller (s := s) (f := fun u => u.transmitEnd n o 1 tdcv) (l := y.fx.codes) (code := 0x1E10) (p := [wd o]) hpage
          (by exact congrArg (fun w : W Can => w.fx.codes) hall) hplain
      · refine (plain_onCan (s := s) hempty hplain).2.2 _ _ (by decide) ?_
        rw [show (s.can.transmitEnd n o 1 tdcv).fx.evts = _ from congrArg (fun w : W Can => w.fx.evts) hall]
        exact List.mem_append_right _ (List.mem_singleton_self _)
    · rw [hcan, hlost, hr.tec, hm.bus]
  · obtain ⟨hbus, hstate, hobj⟩ := errored_leaves (n := n) (o := o) (u := w.u) (s.can.bus n).tec
    obtain ⟨v, hv⟩ : ∃ v, v = w.map (errored n (s.can.bus n).tec) := ⟨_, rfl⟩
    have hvu : v.u = errored n (s.can.bus n).tec w.u := by rw [hv]; rfl
    have hvst : v.st = [] := by rw [hv]; exact hm.st
    have hvplain : v.fx.Plain := by rw [hv]; exact hm.plain
    rw [← hv] at herr
    have htec : (v.u.bus n).tec = (s.can.bus n).tec + 8 := by rw [hvu, hbus]
    by_cases hover : 255 < (s.can.bus n).tec + 8
    · rw [if_pos hover] at herr
      obtain ⟨y, hy⟩ : ∃ y, y = v.when (s.can.obj n o).next.isSome (·.map (Can.promote n o)) := ⟨_, rfl⟩
      rw [← hy] at herr
      have hyst : y.st = [] ∧ y.fx = v.fx ∧ (y.u.bus n).tec = (v.u.bus n).tec ∧ (y.u.obj n o).frame.isSome = true := by
        have hframe : (v.u.obj n o).frame = some f := by rw [hvu, hobj, hm.obj]; exact h.frame
        rw [hy]
        cases hn : (s.can.obj n o).next with
        | none => exact ⟨hvst, rfl, rfl, (congrArg Option.isSome hframe).trans rfl⟩
        | some g =>
          obtain ⟨hpobj, -, hptec, -, -⟩ := promote_leaves (n := n) (o := o) (u := v.u)
          have hvn : (v.u.obj n o).next = some g := by rw [hvu, hobj, hm.obj]; exact hn
          rw [hvn] at hpobj
          refine ⟨hvst, rfl, hptec, ?_⟩
          exact (congrArg (fun x : TxObject => x.frame.isSome) hpobj).trans rfl
      obtain ⟨hyst, hyfx, hytec, hyframe⟩ := hyst
      obtain ⟨hst, hasks, hstate4, hoff, hframe, hretries, hbtec, ⟨hd, hcodes⟩, hevts⟩ := busOff_off (n := n) (o := o) (w := y)
      have hplain : (s.can.transmitEnd n o 2 tdcv).fx.Plain := by
        rw [herr]
        exact hasks.plain (by rw [hyfx]; exact hvplain)
      have hempty : (s.can.transmitEnd n o 2 tdcv).st = [] := by rw [herr]; exact hst.trans hyst
      refine ⟨hempty, ?_, fun _ => ⟨?_, ?_, ?_, ?_, ?_, ?_⟩, fun hle => absurd hle (by omega)⟩
      · rw [hcan, herr, hbtec, hytec, htec]
      · rw [hcan, herr]
        exact hstate4
      · rw [hcan, herr]
        exact hoff
      · rw [hcan, herr, hframe]
        exact hyframe
      · rw [hcan, herr]
        exact hretries
      · exact errCode_controller (s := s) (f := fun u => u.transmitEnd n o 2 tdcv) (l := y.fx.codes) (code := 0x2E12) (p := [wd hd]) hpage
          (by exact (congrArg (fun w : W Can => w.fx.codes) herr).trans hcodes) hplain
      · refine (plain_onCan (s := s) hempty hplain).2.2 _ _ (by decide) ?_
        rw [show (s.can.transmitEnd n o 2 tdcv).fx.evts = _ from congrArg (fun w : W Can => w.fx.evts) herr]
        exact hevts
    · rw [if_neg hover] at herr
      have hr := retry_retried (n := n) (o := o) (w := v)
      have hp := passive_from n (Can.retry n o v)
      have hlive : (Can.retry n o v).u.state n = 2 ∨ (Can.retry n o v).u.state n = 3 := by
        rw [hr.state, hvu, hstate, hm.state]
        exact h.live
      refine ⟨?_, ?_, fun h => absurd h hover, fun _ => ?_⟩
      · rw [herr]
        exact hp.st.trans (hr.st.trans hvst)
      · rw [hcan, herr]
        exact (congrArg (fun l => (sget canDefault l n).tec) hp.buses).trans (hr.tec.trans htec)
      · rw [hcan, herr, passive_state hlive]
        split
        · decide
        · decide

section
variable {n : Nat} {u : Can}

/-- What a frame received in error leaves. -/
theorem receiveError_leaves (h : u.state n = 2 ∨ u.state n = 3) : let w := u.receiveError n
    w.st = [] ∧ (w.u.bus n).rec_ = min ((u.bus n).rec_ + 1) 135 ∧ (w.u.bus n).tec = (u.bus n).tec ∧
      (128 ≤ (u.bus n).rec_ + 1 → w.u.state n = 3) ∧
      rget w.u.regs (rk Reg.CAN_CNT_ERR n 0) = incSatField (rget u.regs (rk Reg.CAN_CNT_ERR n 0)) 15 0 := by
  rw [receiveError_eq h]
  obtain ⟨v, hv⟩ : ∃ v, v = ((u.putBus n { u.bus n with rec_ := min ((u.bus n).rec_ + 1) 135 }).showErr n).mod Reg.CAN_CNT_ERR n 0
    (fun c => incSatField c 15 0) := ⟨_, rfl⟩
  have hbus : v.bus n = { u.bus n with rec_ := min ((u.bus n).rec_ + 1) 135 } := by rw [hv]; exact bus_put (u := u) _
  have hstate : v.state n = u.state n := by
    rw [hv]
    exact congrArg (bits · 3 0) ((can_get_mod_other Reg.CAN_CNT_ERR 0 _ 0 (by decide)).trans (showErr_get _ 0 (by decide)))
  have hcount : rget v.regs (rk Reg.CAN_CNT_ERR n 0) = incSatField (rget u.regs (rk Reg.CAN_CNT_ERR n 0)) 15 0 := by
    rw [hv]
    exact (can_get_mod Reg.CAN_CNT_ERR 0 _).trans (congrArg (incSatField · 15 0) (showErr_get _ 0 (by decide)))
  rw [← hv]
  obtain ⟨hst, -, hbuses, hcells⟩ := passive_from n (W.of v)
  have hb : (Can.passive n (W.of v)).u.bus n = v.bus n := congrArg (sget canDefault · n) hbuses
  refine ⟨hst, by rw [hb, hbus], by rw [hb, hbus], fun h128 => ?_, (hcells _ 0 (by decide)).trans hcount⟩
  rw [passive_state (by rw [u_of, hstate]; exact h), u_of]
  refine if_pos ?_
  unfold passiveBy
  rw [hbus]
  simp
  omega

/-- What the end of integration leaves. -/
theorem integrated_leaves (h : u.state n = 1) : let w := u.integrated n
    w.st = [] ∧ w.u.state n = (if 128 ≤ (u.bus n).tec ∨ 128 ≤ (u.bus n).rec_ then 3 else 2) ∧ w.u.buses = u.buses := by
  rw [integrated_eq h]
  obtain ⟨hst, -, hbuses, -⟩ := passive_from n (W.of (u.setState n 2))
  refine ⟨hst, ?_, hbuses⟩
  rw [passive_state (.inl (canState_set (by decide)))]
  have hp : passiveBy ((W.of (u.setState n 2)).u.bus n) = decide (128 ≤ (u.bus n).tec ∨ 128 ≤ (u.bus n).rec_) :=
    (Bool.decide_or _ _).symm
  rw [hp]
  simp

end

/-- Settles O32: SEND_SET over its objects, a packet by its object, a transmission by its outcome, the counters by R316. -/
theorem canSendingCommands : Obligations.CanSendingCommands := by
  unfold Obligations.CanSendingCommands
  refine ⟨fun a idx wire x s h h1 h2 ho => ?_, fun a n q wire w0 ws s hon hp hsound hraw hen hlen hidle => ?_,
    fun a n q wire w0 ws s hon hp hbad => ?_, fun a n o tdcv f s hon hs hl hf => ?_, fun a acc n s h => ?_, fun a n s hon h4 hr => ?_,
    fun a n s hon hs => ?_, fun a n s hon hs => ?_⟩
  · obtain ⟨t, ht⟩ : ∃ t, t = (s.at_ a).startSpan idx (fun x => (decide (0x22 ≤ x.unit) && decide (x.unit ≤ 0x25)) && x.opcode == 1) false
      (State.sendSetWork wire) := ⟨_, rfl⟩
    obtain ⟨hanswered, hseq, hcan, hshell⟩ := sendSet_starts h h1 h2 ho ht
    have hst : (sendSetAnswer wire x ((s.at_ a).handed idx x) ((s.at_ a).begun idx)).w.st = [] := (sendSet_st ..).1
    refine ⟨t, congrArg Host.Outcome.next ht.symm, hanswered, hseq, fun hactive => ?_, fun o hactive hobjs h5 hmem hfmt harg hidle => ?_, hshell, fun b => ?_⟩
    · have hactive' : ((s.at_ a).begun idx).isActive = false := hactive
      rw [hcan, sendSetAnswer, hactive']
      exact sendSet_inactive _ _ _
    · have hactive' : ((s.at_ a).begun idx).isActive = true := hactive
      rw [hcan, sendSetAnswer, hactive']
      exact sendSet_loads (i := (s.at_ a).handed idx x) hobjs h5 hmem hfmt harg hidle
    · refine (hanswered.2.2 b).trans ?_
      rw [hst]
      rfl
  · obtain ⟨fq, hcommitted, hexec⟩ := packetLoad_runs (a := a) (wire := wire) hon hp
    have hw := (packet_loaded (n := n.val) (u := s.can) (wire := wire.map (·.val)) (fno := s.seq.count) hsound hraw hen hlen).trans (load_idle hidle)
    rw [hexec, hw]
    obtain ⟨hobj, hshown⟩ := loaded_shows (n := n.val) (u := s.can) (bits w0 5 0)
      ⟨(wordsBytes (ws.map (·.1))).take (dlcBytes (bit (s.can.txCfg n.val (bits w0 5 0)) 5) (bits w0 11 8)), bit (s.can.txCfg n.val (bits w0 5 0)) 5,
        bit (s.can.txCfg n.val (bits w0 5 0)) 6, 0, false⟩
    refine ⟨_, rfl, ?_, ?_, ?_, ?_, fun k => bytes_onCan (s := { s.at_ a with fq := fq }) rfl k⟩
    · rw [onCan_can]
      exact hobj
    · rw [onCan_can]
      exact hshown
    · rw [(plain_onCan (s := { s.at_ a with fq := fq }) rfl ⟨rfl, rfl, rfl, rfl, rfl⟩).1]
      exact hcommitted
    · rw [shell_onCan, onCan_can]
      rfl
  · obtain ⟨fq, hcommitted, hexec⟩ := packetLoad_runs (a := a) (wire := wire) hon hp
    rw [hexec, packet_discarded hbad]
    refine ⟨_, rfl, onCan_can _ _, ?_, ?_, ?_, fun k => bytes_onCan (s := { s.at_ a with fq := fq }) rfl k⟩
    · exact errCode_controller (s := { s.at_ a with fq := fq }) (l := []) (code := 0x1E14) (canPage n) rfl ⟨rfl, rfl, rfl, rfl, rfl⟩
    · rw [(plain_onCan (s := { s.at_ a with fq := fq }) rfl ⟨rfl, rfl, rfl, rfl, rfl⟩).1]
      exact hcommitted
    · exact (shell_onCan _ _).trans rfl
  · obtain ⟨⟨hsent, hemit⟩, ⟨hst1, hagain, hgone, htec1⟩, hst2, htec2, hover, hunder⟩ :=
      transmit_outcomes (s := s.at_ a) (n := n.val) (o := o.val) ⟨hs, hl, hf⟩ tdcv (canPage n)
    have hshell : ∀ k, ((s.at_ a).onCan (fun u => u.transmitEnd n.val o.val k tdcv)).shell =
        { (s.at_ a).shell with can := ((s.at_ a).onCan (fun u => u.transmitEnd n.val o.val k tdcv)).can } := fun k => by rw [shell_onCan, onCan_can]
    refine ⟨⟨_, congrArg Host.Outcome.next (canDoes_runs (s := s.at_ a) _ hon), ?_⟩,
      ⟨_, congrArg Host.Outcome.next (canDoes_runs (s := s.at_ a) _ hon), hagain, hgone, htec1, hshell 1, fun k => bytes_onCan (s := s.at_ a) hst1 k⟩,
      ⟨_, congrArg Host.Outcome.next (canDoes_runs (s := s.at_ a) _ hon), htec2, hover, hunder, hshell 2, fun k => bytes_onCan (s := s.at_ a) hst2 k⟩⟩
    refine ⟨?_, fun hn => ?_, ?_, ?_, hemit, hshell 0, fun k => bytes_onCan (s := s.at_ a) hsent.st k⟩
    · rw [onCan_can]
      exact hsent.obj
    · rw [onCan_can]
      exact hsent.shown hn
    · rw [onCan_can]
      exact hsent.tec
    · rw [onCan_can]
      exact hsent.count
  · obtain ⟨z, w, hw, hz, hrec, he⟩ := recover_taken (s := s.at_ a) h
    refine ⟨_, congrArg Host.Outcome.next he, ?_⟩
    rw [releaseIdle_can]
    refine ⟨hrec, fun hn4 => ?_, fun m hm => (hz.others m hm).trans (hw.bus m), fun k => ?_⟩
    · exact (hz.still (by rw [hw.state]; exact hn4)).trans (hw.bus _)
    · rw [releaseIdle_mem, hz.bytes, hw.mem]
      rfl
  · have he := recoverEnd_eq h4 hr
    obtain ⟨hbus, hstate, hoff⟩ := recovered_leaves (n := n.val) (u := s.can) { s.can.bus n.val with tec := 0, rec_ := 0, recover := false }
    have hform := canDoes_runs (s := s.at_ a) (fun _ u => u.recoverEnd n.val) hon
    refine ⟨_, congrArg Host.Outcome.next hform, ?_⟩
    have hu : ((s.at_ a).onCan (fun u => u.recoverEnd n.val)).can = (s.can.recoverEnd n.val).u := onCan_can _ _
    rw [shell_onCan, hu, he]
    refine ⟨hstate, congrArg CanBus.tec hbus, congrArg CanBus.rec_ hbus, hoff, ?_, ?_, ?_, fun k => bytes_onCan (s := s.at_ a) ?_ k⟩
    · exact (congrArg CanBus.objs hbus).trans rfl
    · exact errCode_controller (s := s.at_ a) (f := fun u => u.recoverEnd n.val) (l := []) (code := 0x0E13) (p := []) (canPage n)
        (by exact congrArg (fun w : W Can => w.fx.codes) he) (by exact he ▸ ⟨rfl, rfl, rfl, rfl, rfl⟩)
    · exact congrArg (fun v : Can => ({ (s.at_ a).shell with can := v } : State)) (congrArg W.u he)
    · exact congrArg W.st he
  · have hform := canDoes_runs (s := s.at_ a) (fun _ u => u.receiveError n.val) hon
    obtain ⟨hst, hrec, htec, hstate, hcount⟩ := receiveError_leaves hs
    refine ⟨_, congrArg Host.Outcome.next hform, ?_⟩
    have hu : ((s.at_ a).onCan (fun u => u.receiveError n.val)).can = (s.can.receiveError n.val).u := onCan_can _ _
    rw [shell_onCan, hu]
    exact ⟨hrec, htec, hstate, hcount, rfl, fun k => bytes_onCan (s := s.at_ a) hst k⟩
  · have hform := canDoes_runs (s := s.at_ a) (fun _ u => u.integrated n.val) hon
    obtain ⟨hst, hstate, hbuses⟩ := integrated_leaves hs
    refine ⟨_, congrArg Host.Outcome.next hform, ?_⟩
    have hu : ((s.at_ a).onCan (fun u => u.integrated n.val)).can = (s.can.integrated n.val).u := onCan_can _ _
    rw [shell_onCan, hu]
    exact ⟨hstate, hbuses, rfl, fun k => bytes_onCan (s := s.at_ a) hst k⟩

end Sys2Proof.Proofs
end

section
/-! SUPPORT. Requests of the service path (R302): one that SUP takes is answered by its operation's own work and leaves a reply, one whose
tag or SEQ is wrong is discarded; and what work of any unit leaves of NVS's state. -/

namespace Sys2Proof.Proofs

open Sys2Proof Sys2Proof.Machine

-- One proof after another: many at once wait for the kernel in threads of their own, which the check's memory limit does not hold.
set_option Elab.async false

/-! ## NVS beside its registers, after any work -/

/-- NVS without its registers: the keys, the transfer and the marks of its regions. -/
def Nvs.held (u : Nvs) : Nvs := { u with regs := [] }

theorem Nvs.held_countWrites (st : Store) (u : Nvs) : Nvs.held (u.countWrites st) = Nvs.held u := by
  unfold Nvs.countWrites
  split <;> rfl

theorem held_storeAll (l : List Store) (s : State) : Nvs.held (s.storeAll l).1.nvs = Nvs.held s.nvs := by
  have hread : ∀ (l : List (Nat × Nat)) (x : State × List Code),
      (l.foldl (fun (x : State × List Code) r => let y := x.1.readForStore r.1 r.2; (y.1, x.2 ++ y.2)) x).1.nvs = x.1.nvs := fun l x =>
    foldl_keeps (fun y : State × List Code => y.1.nvs = x.1.nvs) _ (fun y r hy => by
      refine Eq.trans ?_ hy
      show (y.1.readForStore r.1 r.2).1.nvs = _
      unfold State.readForStore
      dsimp only
      split <;> rfl) l x rfl
  induction l generalizing s with
  | nil => rfl
  | cons st l ih =>
    refine (ih _).trans ((Nvs.held_countWrites st _).trans ?_)
    rw [hread]

theorem nvs_readBlocks (l : List (Nat × Nat)) (s : State) : (s.readBlocks l).1.nvs = s.nvs := by
  induction l generalizing s with
  | nil => rfl
  | cons p l ih =>
    refine (ih _).trans ?_
    unfold State.readBlock
    dsimp only
    split
    · rfl
    · split <;> rfl

theorem held_absorb {U : Type} (put : U → State → State) (w : W U) (x : State × Fx) (h : (put w.u x.1).nvs = x.1.nvs) :
    Nvs.held (State.absorb put w x).1.nvs = Nvs.held x.1.nvs := by
  unfold State.absorb
  dsimp only
  refine (congrArg Nvs.held (show ((State.readBlocks w.fx.reads _).1.healAll w.fx.heals).nvs = (State.readBlocks w.fx.reads _).1.nvs from rfl)).trans ?_
  rw [nvs_readBlocks, held_storeAll, h]

theorem inner_nvs {s t : State} (h : t.inner = s.inner) : t.nvs = s.nvs := congrArg (fun i : Mem × Fq × Flt × Prg × Nvs × List Emit => i.2.2.2.2.1) h

/-- Work of any unit leaves NVS's keys, transfer and marks; of its registers it counts the writes. -/
theorem held_commit (fx : Fx) (st : List Store) (s : State) : Nvs.held (s.commit fx st).nvs = Nvs.held s.nvs := by
  unfold State.commit
  dsimp only
  rw [inner_nvs (inner_snapTriggers ..), inner_nvs (inner_recordAll ..), inner_nvs (inner_flags ..)]
  have k : ∀ {B : Type} (f : State × Fx → B → State × Fx), (∀ x c, Nvs.held (f x c).1.nvs = Nvs.held x.1.nvs) →
      ∀ (l : List B) (x : State × Fx), Nvs.held (l.foldl f x).1.nvs = Nvs.held x.1.nvs :=
    fun f hf l x => foldl_keeps (fun y : State × Fx => Nvs.held y.1.nvs = Nvs.held x.1.nvs) f (fun y c hy => (hf y c).trans hy) l x rfl
  refine (k _ (fun x t => ?_) _ _).trans ((k _ (fun x p => ?_) _ _).trans ((k _ (fun x p => ?_) _ _).trans (held_absorb _ _ _ rfl)))
  · unfold State.takeTrigger
    split
    · exact held_absorb _ _ _ rfl
    · rfl
  · unfold State.takePacket
    split
    · exact held_absorb _ _ _ rfl
    · rfl
  · unfold State.takeSample
    dsimp only
    split
    · exact held_absorb _ _ _ rfl
    · rfl

theorem transfer_commit (fx : Fx) (st : List Store) (s : State) : (s.commit fx st).nvs.transfer = s.nvs.transfer := by
  have h := held_commit fx st s
  exact (show _ = (Nvs.held (s.commit fx st).nvs).transfer from rfl).trans (by rw [h]; rfl)

/-! ## The service path answers (R302, R303) -/

theorem islandUp_of {s t : State} (hm : t.mode = s.mode) (hs : t.sup = s.sup) (i : Nat) : t.islandUp i = s.islandUp i := by
  unfold State.islandUp
  rw [hm, hs]

theorem serviceUp_of {s t : State} (hw : t.works Pg.PRP = s.works Pg.PRP) (hm : t.mode = s.mode) (hs : t.sup = s.sup) :
    t.serviceUp = s.serviceUp := by
  unfold State.serviceUp
  rw [hw, islandUp_of hm hs 1, hm, hs]

theorem serviceUp_commit (fx : Fx) (st : List Store) (s : State) : (s.commit fx st).serviceUp = s.serviceUp :=
  serviceUp_of (works_commit ..) (commit_mode ..) (commit_sup ..)

theorem serviceUp_releaseIdle (s : State) : s.releaseIdle.serviceUp = s.serviceUp := by
  refine serviceUp_of ?_ (releaseIdle_mode ..) (releaseIdle_sup ..)
  unfold State.works hdrEnabled rbit State.pageUp
  rw [releaseIdle_hdrCell s Pg.PRP 8 (by decide) (by decide) (by decide), islandUp_of (releaseIdle_mode ..) (releaseIdle_sup ..)]

section
variable {s : State} {op : Nat} {bs : List Byte} {x : Session} {q : Request_}

/-- A request is one that SUP takes at whatever time it comes. -/
theorem asked_at (h : s.Asked op bs x q) (a : At) : (s.at_ a).Asked op bs x q :=
  ⟨h.up, h.answers, h.read, h.op, h.session, h.keyed, h.tag, h.seq⟩

/-- A request that SUP takes is answered by its operation. -/
theorem request_asked (h : s.Asked op bs x q) (go : Session → Request_ → List Byte → State → State × Nat × Nat × List Byte) {t : State}
    {count status : Nat} {body : List Byte} (hgo : go x q q.body (s.served q) = (t, count, status, body)) (ht : t.serviceUp = true) :
    s.request op bs go = t.reply op q.session q.seq count status body := by
  obtain ⟨hup, hans, hread, hop, hsession, hkeyed, htag, hseq⟩ := h
  unfold State.request
  simp only [hup, hans, hread, Bool.and_self, if_true, hop, ne_eq, not_true_eq_false, if_false, hsession, htag]
  rw [if_neg (by simp [hkeyed]; omega), if_neg (by simp [hkeyed])]
  have hb : (if decide (x.slot = 255) = true then q.rest else q.rest.take (q.rest.length - 32)) = q.body := if_neg (by simpa using hkeyed)
  rw [hb, hgo]
  exact if_pos ht

/-- A request of a session whose tag or SEQ is wrong is discarded. -/
theorem request_rejected (go : Session → Request_ → List Byte → State → State × Nat × Nat × List Byte) (hup : s.serviceUp = true)
    (hans : s.answers op = true) (hread : readRequest bs = some q) (hop : q.op = op)
    (hsession : s.net.sessions.find? (fun y => y.number == q.session) = some x)
    (hbad : (x.slot ≠ 0xFF ∧ tagOk x.key bs = false) ∨ q.seq ≤ x.seq) : s.request op bs go = s.reject := by
  unfold State.request
  simp only [hup, hans, hread, Bool.and_self, if_true, hop, ne_eq, not_true_eq_false, if_false, hsession]
  refine if_pos ?_
  rcases hbad with ⟨hk, ht⟩ | hseq
  · simp [hk, ht]
  · simp [hseq]

theorem reply_mem (op se sq count status : Nat) (body : List Byte) (t : State) :
    replyOf op se sq count status body ∈ (t.reply op se sq count status body).outbox := List.mem_cons_self

theorem served_sessions (q : Request_) (s : State) : (s.served q).net.sessions = sessionsServed s.net.sessions q.session q.seq s.tim.time := rfl

theorem shell_served (q : Request_) (s : State) : (s.served q).shell = { s.shell with net := (s.served q).net } := rfl

theorem shell_reply (op se sq count status : Nat) (body : List Byte) (t : State) :
    (t.reply op se sq count status body).shell = t.shell := rfl

theorem serviceUp_served (q : Request_) (s : State) : (s.served q).serviceUp = s.serviceUp := rfl

end

/-- What a request discarded leaves: REJECT counts, and the code stands in PRP's page. -/
theorem reject_leaves (s : State) :
    s.reject.net.sessions = s.net.sessions ∧ s.reject.outbox = s.outbox ∧
    rget s.reject.net.regs Reg.PRP_SVC_CNT = incSatField (rget s.net.regs Reg.PRP_SVC_CNT) 31 16 ∧ s.reject.errCode Pg.PRP = 0x1D80 ∧
    s.reject.nvs = s.nvs ∧ s.reject.shell = { s.shell with net := s.reject.net } ∧ s.SameBytes s.reject := by
  obtain ⟨z, hz⟩ : ∃ z : State, z = { s with net := { s.net with regs := rmod s.net.regs Reg.PRP_SVC_CNT (fun x => incSatField x 31 16) } } :=
    ⟨_, rfl⟩
  have hr : s.reject = z.code Pg.PRP 0x1D80 [] := by rw [hz]; rfl
  have hnet : (z.code Pg.PRP 0x1D80 []).net = z.net := net_of_shell (shell_code ..)
  rw [hr, hnet, shell_code, nvs_code]
  refine ⟨by rw [hz], ?_, ?_, errCode_code _ _ _ _ (by decide), by rw [hz], by rw [hz]; rfl, fun b => (byte_code _ _ _ z b).trans (by rw [hz])⟩
  · rw [show (z.code Pg.PRP 0x1D80 []).outbox = z.outbox from plain_outbox _ (plain_of_codes _ _ _ _) z, hz]
  · rw [hz]
    exact (rget_rmod _ _ (fun x => incSatField x 31 16) _).trans (if_pos rfl)

end Sys2Proof.Proofs
end

section
/-! The transfers of the nonvolatile store, settled (R394, R425, R426). -/

namespace Sys2Proof.Proofs

open Sys2Proof Sys2Proof.Machine

-- One proof after another: many at once wait for the kernel in threads of their own, which the check's memory limit does not hold.
set_option Elab.async false

/-! ## The end of a transfer operation (R426) -/

theorem transferred_ok (body : List Byte) (t : State) : t.transferred 0 body = (t, 0, 0, body) := rfl

theorem transferred_failed {st : Nat} (h : st ≠ 0) (body : List Byte) (t : State) :
    t.transferred st body = (t.code Pg.SUP 0x1199 [wd st], 0, st, body) := by
  unfold State.transferred
  rw [if_neg h]

/-- A failed operation leaves its code in SUP's page, and nothing else of the module. -/
structure Failed (s t : State) : Prop where
  code     : t.errCode Pg.SUP = 0x1199
  shell    : t.shell = s.shell
  bytes    : s.SameBytes t
  nvs      : t.nvs = s.nvs
  up       : t.serviceUp = s.serviceUp
  imageMem : t.mem = s.mem

theorem failed_code (l : List Word) (s : State) : Failed s (s.code Pg.SUP 0x1199 l) :=
  ⟨errCode_code _ _ _ _ (by decide), shell_code .., byte_code _ _ _ _, nvs_code .., serviceUp_commit .., mem_code ..⟩

/-- A failed operation, as the reply and the state it leaves. -/
theorem request_failed {s : State} {op : Nat} {bs : List Byte} {x : Session} {q : Request_} (h : s.Asked op bs x q)
    {go : Session → Request_ → List Byte → State → State × Nat × Nat × List Byte} {st : Nat} {u : State}
    (hgo : go x q q.body (s.served q) = u.transferred st []) (hst : st ≠ 0) (hu : u.serviceUp = true) :
    s.request op bs go = (u.code Pg.SUP 0x1199 [wd st]).reply op q.session q.seq 0 st [] :=
  request_asked h go (hgo.trans (transferred_failed hst _ _)) ((serviceUp_commit ..).trans hu)

/-! ## OPEN -/

/-- The STATUS of an OPEN while none is open and the request names no region and part that exist. -/
theorem openStatus_outside {mode : Mode} {grant : Bool} {r off len : Nat} {u : Nvs} (hn : u.transfer = none) (hm : mode ≠ .halt)
    (h : 12 < r ∨ nvsSize r < off + len) : u.openStatus mode grant r off len = 3 := by
  unfold Nvs.openStatus
  rw [hn, if_neg (by simp), if_neg (fun hh => hm hh.1)]
  by_cases hr : 12 < r
  · rw [if_pos hr]
  · rw [if_neg hr, if_pos (h.resolve_left hr)]

theorem openStatus_open {mode : Mode} {grant : Bool} {r off len : Nat} {u : Nvs} (h : u.transfer ≠ none) :
    u.openStatus mode grant r off len = 1 := if_pos (Option.isSome_iff_ne_none.mpr h)

theorem openStatus_ok {mode : Mode} {r off len : Nat} {u : Nvs} (hn : u.transfer = none) (hm : mode = .halt → r = 0) (hr : r ≤ 12)
    (hl : off + len ≤ nvsSize r) : u.openStatus mode true r off len = 0 := by
  unfold Nvs.openStatus
  rw [hn, if_neg (by simp), if_neg (fun hh => hh.2 (hm hh.1)), if_neg (by omega), if_neg (by omega)]
  rfl

theorem at_sameBytes {a : At} {s t : State} (h : (s.at_ a).SameBytes t) : s.SameBytes t := fun x => (h x).trans (byte_strike ..)

section
variable {s : State} {bs : List Byte} {x : Session} {q : Request_} {r off len : Nat}

/-- An OPEN that nothing refuses begins the transfer. -/
theorem transferOpen_opens (h : s.Asked 0x10 bs x q) (hr : r = beNat (sliceB q.body 0 4)) (ho : off = beNat (sliceB q.body 4 4))
    (hl : len = beNat (sliceB q.body 8 4)) (hst : s.nvs.openStatus s.mode (s.grant 20) r off len = 0) :
    s.transferOpen bs =
      ({ s.served q with nvs := { s.nvs with transfer := some ⟨x.number, r, off, len⟩ } } : State).reply 0x10 q.session q.seq 0 0 [] := by
  subst hr ho hl
  refine request_asked h _ (t := { s.served q with nvs := { s.nvs with transfer := some ⟨x.number, _, _, _⟩ } }) ?_ h.up
  exact (congrArg (fun n => State.transferred n []
    (if n = 0 then { s.served q with nvs := { s.nvs with transfer := some ⟨x.number, _, _, _⟩ } } else s.served q)) hst).trans rfl

/-- An OPEN that is refused leaves its status. -/
theorem transferOpen_refused (h : s.Asked 0x10 bs x q) {st : Nat} (hne : st ≠ 0)
    (hst : s.nvs.openStatus s.mode (s.grant 20) (beNat (sliceB q.body 0 4)) (beNat (sliceB q.body 4 4)) (beNat (sliceB q.body 8 4)) = st) :
    s.transferOpen bs = ((s.served q).code Pg.SUP 0x1199 [wd st]).reply 0x10 q.session q.seq 0 st [] := by
  refine request_failed h ?_ hne h.up
  exact (congrArg (fun n => State.transferred n []
    (if n = 0 then { s.served q with nvs := { s.nvs with transfer := some ⟨x.number, _, _, _⟩ } } else s.served q)) hst).trans
    (by rw [if_neg hne])

/-- What a refused operation leaves once its reply is sent. -/
theorem refused_leaves (q : Request_) (op st : Nat) (s : State) {t : State}
    (ht : t = ((s.served q).code Pg.SUP 0x1199 [wd st]).reply op q.session q.seq 0 st []) :
    t.nvs = s.nvs ∧ replyOf op q.session q.seq 0 st [] ∈ t.outbox ∧ t.errCode Pg.SUP = 0x1199 ∧
      t.shell = { s.shell with net := t.net } ∧ s.SameBytes t := by
  obtain ⟨hcode, hshell, hbytes, hnvs, -, -⟩ := failed_code [wd st] (s.served q)
  obtain ⟨u, hu⟩ : ∃ u, u = (s.served q).code Pg.SUP 0x1199 [wd st] := ⟨_, rfl⟩
  rw [← hu] at ht hcode hshell hbytes hnvs
  have hnet : u.net = (s.served q).net := net_of_shell hshell
  subst ht
  refine ⟨hnvs, reply_mem .., hcode, ?_, hbytes⟩
  rw [shell_reply, hshell, shell_served, show (u.reply op q.session q.seq 0 st []).net = u.net from rfl, hnet]

/-- What an OPEN leaves of the rest of the module, whatever its status. -/
theorem transferOpen_frame (h : s.Asked 0x10 bs x q) :
    (s.transferOpen bs).shell = { s.shell with net := (s.transferOpen bs).net } ∧ s.SameBytes (s.transferOpen bs) := by
  by_cases hst : s.nvs.openStatus s.mode (s.grant 20) (beNat (sliceB q.body 0 4)) (beNat (sliceB q.body 4 4)) (beNat (sliceB q.body 8 4)) = 0
  · rw [transferOpen_opens h rfl rfl rfl hst]
    exact ⟨rfl, fun _ => rfl⟩
  · obtain ⟨-, -, -, hshell, hbytes⟩ := refused_leaves q 0x10 _ s (transferOpen_refused h hst rfl)
    exact ⟨hshell, hbytes⟩

end

/-! ## DATA -/

theorem dataStatus_passed {m : Mem} {mode : Mode} {image copy : Option Nat} {ok : Bool} {session off len : Nat} {u : Nvs} {v : Transfer}
    (hv : u.transfer = some v) (hs : v.session = session) (hc : nvsClosed v.region = false) (ha : nvsAdmits mode image v.region = true)
    (h1 : v.offset ≤ off) (h2 : off + len ≤ v.offset + v.length) (h3 : len ≤ 1024) (hk : nvsKept m copy v.region off len = false) :
    u.dataStatus m mode image copy true ok session off len = if ok then 0 else 6 := by
  unfold Nvs.dataStatus
  rw [hv]
  dsimp only
  rw [if_neg (not_not.mpr hs), hc, ha, hk, if_neg (by simp), if_neg (by simp), if_neg (by omega), if_neg (by simp), if_neg (by simp)]
  cases ok <;> rfl

/-- The bytes of a store, where they are stored and elsewhere. -/
theorem byte_stored (m : Mem) (page a : Nat) (d : List Byte) :
    (∀ i, i < d.length → (m.stores [⟨page, a, d, false⟩]).byte (a + i) = d.getD i 0) ∧
    ∀ b, (b < a ∨ a + d.length ≤ b) → (m.stores [⟨page, a, d, false⟩]).byte b = m.byte b := by
  refine ⟨fun i hi => ?_, fun b hb => ?_⟩
  · refine byte_store_at (st := ⟨page, a, d, false⟩) ?_
    rw [List.getElem?_eq_getElem hi, List.getD_eq_getElem _ _ hi]
  · show (m.store ⟨page, a, d, false⟩).byte b = _
    rw [byte_store]
    dsimp only
    split
    · rw [List.getElem?_eq_none (by omega)]
      rfl
    · rfl

section
variable {s : State} {bs : List Byte} {x : Session} {q : Request_} {v : Transfer}

/-- DATA, as the status its checks give. -/
theorem transferData_go (ok : Bool) (hv : s.nvs.transfer = some v) {st : Nat} {off : Nat} (ho : off = beNat (sliceB q.body 0 4))
    (hst : s.nvs.dataStatus s.mem s.mode s.imageRegion s.sup.copy (s.grant 20) ok x.number off (q.body.drop 4).length = st)
    (h : s.Asked 0x11 bs x q) {u : State}
    (hu : u = if st = 6 then (s.served q).onNvs (Nvs.fail v.region off)
      else if st = 0 ∧ q.body.drop 4 ≠ [] then
        { (s.served q).commit Fx.none [⟨Pg.NVS, nvsAddr v.region + off, q.body.drop 4, false⟩] with
          nvs := ((s.served q).commit Fx.none [⟨Pg.NVS, nvsAddr v.region + off, q.body.drop 4, false⟩]).nvs.mark v.region false }
      else s.served q) (hup : (u.transferred st []).1.serviceUp = true) :
    s.transferData ok bs = (u.transferred st []).1.reply 0x11 q.session q.seq 0 st [] := by
  refine request_asked h _ (t := (u.transferred st []).1) (count := 0) (status := st) (body := []) ?_ hup
  subst ho hst hu
  have hr : (match (s.served q).nvs.transfer with | some t => t.region | none => 0) = v.region := by
    rw [show (s.served q).nvs = s.nvs from rfl, hv]
  refine (congrArg (fun r => State.transferred _ [] (if _ = 6 then (s.served q).onNvs (Nvs.fail r _) else if _ = 0 ∧ q.body.drop 4 ≠ [] then
      { (s.served q).commit Fx.none [⟨Pg.NVS, nvsAddr r + _, q.body.drop 4, false⟩] with
          nvs := ((s.served q).commit Fx.none [⟨Pg.NVS, nvsAddr r + _, q.body.drop 4, false⟩]).nvs.mark r false }
      else s.served q)) hr).trans rfl

/-- DATA that reads back: the bytes stand in the region. -/
theorem transferData_stored (h : s.Asked 0x11 bs x q) (hv : s.nvs.transfer = some v) {off : Nat} (ho : off = beNat (sliceB q.body 0 4))
    (hne : q.body.drop 4 ≠ [])
    (hst : s.nvs.dataStatus s.mem s.mode s.imageRegion s.sup.copy (s.grant 20) true x.number off (q.body.drop 4).length = 0) {t : State}
    (ht : t = s.transferData true bs) :
    replyOf 0x11 q.session q.seq 0 0 [] ∈ t.outbox ∧
    (∀ i, i < (q.body.drop 4).length → t.mem.byte (nvsAddr v.region + off + i) = (q.body.drop 4).getD i 0) ∧
    s.SameBytesBut t (nvsAddr v.region + off) (q.body.drop 4).length ∧ t.nvs.transfer = s.nvs.transfer ∧
    t.shell = { s.shell with net := t.net } := by
  obtain ⟨z, hz⟩ : ∃ z, z = (s.served q).commit Fx.none [⟨Pg.NVS, nvsAddr v.region + off, q.body.drop 4, false⟩] := ⟨_, rfl⟩
  have hshell : z.shell = (s.served q).shell := by rw [hz]; exact shell_commit ..
  have hbytes : ∀ b, z.mem.byte b = (s.mem.stores [⟨Pg.NVS, nvsAddr v.region + off, q.body.drop 4, false⟩]).byte b := fun b => by
    rw [hz]; exact bytes_commit ..
  have htransfer : z.nvs.transfer = s.nvs.transfer := by rw [hz]; exact transfer_commit ..
  have hup : z.serviceUp = true := by rw [hz]; exact (serviceUp_commit ..).trans h.up
  have hnet : z.net = (s.served q).net := net_of_shell hshell
  have hgo := transferData_go true hv ho hst h (u := { z with nvs := z.nvs.mark v.region false })
    (by rw [if_neg (by decide), if_pos ⟨rfl, hne⟩, ← hz]) hup
  rw [transferred_ok] at hgo
  obtain ⟨hstored, helse⟩ := byte_stored s.mem Pg.NVS (nvsAddr v.region + off) (q.body.drop 4)
  subst ht
  rw [hgo]
  refine ⟨reply_mem .., fun i hi => (hbytes _).trans (hstored i hi), fun b hb => (hbytes b).trans (helse b hb), htransfer, ?_⟩
  exact (show _ = z.shell from rfl).trans (hshell.trans (by rw [shell_served, ← hnet]; rfl))

/-- DATA that does not read back: the region counts the failure, and no byte changes. -/
theorem transferData_failed (h : s.Asked 0x11 bs x q) (hv : s.nvs.transfer = some v) {off : Nat} (ho : off = beNat (sliceB q.body 0 4))
    (hst : s.nvs.dataStatus s.mem s.mode s.imageRegion s.sup.copy (s.grant 20) false x.number off (q.body.drop 4).length = 6) {t : State}
    (ht : t = s.transferData false bs) :
    replyOf 0x11 q.session q.seq 0 6 [] ∈ t.outbox ∧ s.SameBytes t ∧ t.errCode Pg.SUP = 0x1199 ∧ t.errCode Pg.NVS = 0x1160 ∧
    t.nvs.transfer = s.nvs.transfer ∧ t.shell = { s.shell with net := t.net } := by
  obtain ⟨z, hz⟩ : ∃ z, z = (s.served q).onNvs (Nvs.fail v.region off) := ⟨_, rfl⟩
  obtain ⟨hcode, hst0⟩ := failed_nvs v.region off (s.served q)
  rw [← hz] at hcode
  have hshell : z.shell = (s.served q).shell := by rw [hz]; exact shell_onNvs ..
  have htransfer : z.nvs.transfer = s.nvs.transfer := by rw [hz]; exact transfer_commit ..
  have hup : z.serviceUp = true := by rw [hz]; exact (serviceUp_commit ..).trans h.up
  have hbytes : (s.served q).SameBytes z := by rw [hz]; exact fun b => bytes_onNvs hst0 b
  obtain ⟨hcodeS, hshellS, hbytesS, hnvsS, hupS, -⟩ := failed_code [wd 6] z
  have hkeep : (z.code Pg.SUP 0x1199 [wd 6]).errCode Pg.NVS = 0x1160 :=
    (errCode_commit_other _ z Pg.NVS (by decide) rfl rfl rfl rfl (by decide)).trans hcode
  have hgo := transferData_go false hv ho hst h (u := z) (by rw [if_pos rfl, ← hz])
    (by rw [transferred_failed (by decide)]; exact hupS.trans hup)
  rw [transferred_failed (by decide)] at hgo
  have hnet : (z.code Pg.SUP 0x1199 [wd 6]).net = (s.served q).net := (net_of_shell hshellS).trans (net_of_shell hshell)
  rw [ht, hgo]
  generalize z.code Pg.SUP 0x1199 [wd 6] = c at *
  refine ⟨reply_mem .., fun b => (hbytesS b).trans (hbytes b), hcodeS, hkeep, (congrArg Nvs.transfer hnvsS).trans htransfer, ?_⟩
  exact hshellS.trans (hshell.trans (by rw [shell_served, ← hnet]; rfl))

end

/-! ## COMMIT, READ and CLOSE -/

section
variable {s : State} {bs : List Byte} {x : Session} {q : Request_} {v : Transfer}

theorem mark_getLsbD (u : Nvs) {r : Nat} (hr : r < 16) (ok : Bool) : (u.mark r ok).sound.getLsbD r = ok := by
  unfold Nvs.mark
  cases ok <;> simp [hr]

/-- A COMMIT shows what the store holds in SUP's registers and changes nothing else. -/
theorem showRegion_leaves (r : Nat) (t : State) :
    (t.showRegion r).nvs = t.nvs ∧ (t.showRegion r).mem = t.mem ∧ (t.showRegion r).hdr = t.hdr ∧ (t.showRegion r).mode = t.mode ∧
    (t.showRegion r).sup.dead = t.sup.dead ∧ (t.showRegion r).sup.stopped = t.sup.stopped ∧
    (t.showRegion r).shell = { t.shell with sup := (t.showRegion r).sup } := by
  obtain ⟨m, hm⟩ : ∃ m, t.showRegion r = { t with sup := { t.sup with regs := m } } := by
    unfold State.showRegion
    split
    · exact ⟨_, rfl⟩
    · split <;> exact ⟨_, rfl⟩
  rw [hm]
  exact ⟨rfl, rfl, rfl, rfl, rfl, rfl, rfl⟩

theorem showRegion_up (r : Nat) (t : State) : (t.showRegion r).serviceUp = t.serviceUp := by
  obtain ⟨-, -, hhdr, hmode, hdead, hstopped, -⟩ := showRegion_leaves r t
  unfold State.serviceUp State.works State.pageUp State.islandUp
  rw [hhdr, hmode, hdead, hstopped]

/-- A COMMIT that nothing refuses. -/
theorem transferCommit_go (h : s.Asked 0x12 bs x q) (hv : s.nvs.transfer = some v) (hs : v.session = x.number)
    (hc : nvsClosed v.region = false) (ha : nvsAdmits s.mode s.imageRegion v.region = true) (hg : s.grant 20 = true) {u : State} {st : Nat}
    (hu : u = ({ s.served q with nvs := s.nvs.mark v.region (s.regionSound v) } : State).showRegion v.region)
    (hst : st = if s.regionSound v then 0 else 5) (hup : (u.transferred st []).1.serviceUp = true) :
    s.transferCommit bs = (u.transferred st []).1.reply 0x12 q.session q.seq 0 st [] := by
  refine request_asked h _ (t := (u.transferred st []).1) (count := 0) (status := st) (body := []) ?_ hup
  show (match (s.served q).nvs.transfer with | none => _ | some t => _) = _
  rw [show (s.served q).nvs.transfer = some v from hv]
  dsimp only
  rw [if_neg (not_not.mpr hs), hc, if_neg (by simp), show nvsAdmits (s.served q).mode (s.served q).imageRegion v.region = true from ha,
    if_neg (by simp), show (s.served q).grant 20 = true from hg, if_neg (by simp), hu, hst]
  rfl

/-- A COMMIT marks its region as its content is, and answers so. -/
theorem transferCommit_leaves (h : s.Asked 0x12 bs x q) (hv : s.nvs.transfer = some v) (hs : v.session = x.number)
    (hc : nvsClosed v.region = false) (ha : nvsAdmits s.mode s.imageRegion v.region = true) (hg : s.grant 20 = true) {t : State}
    (ht : t = s.transferCommit bs) :
    t.nvs.sound.getLsbD v.region = s.regionSound v ∧
    (s.regionSound v = true → replyOf 0x12 q.session q.seq 0 0 [] ∈ t.outbox) ∧
    (s.regionSound v = false → replyOf 0x12 q.session q.seq 0 5 [] ∈ t.outbox ∧ t.errCode Pg.SUP = 0x1199) ∧
    t.nvs.transfer = s.nvs.transfer ∧
    t.shell = { s.shell with
      net := t.net
      sup := t.sup } ∧ s.SameBytes t := by
  have hr : v.region < 16 := by
    unfold nvsClosed at hc
    simp at hc
    omega
  obtain ⟨z, hz⟩ : ∃ z : State, z = { s.served q with nvs := s.nvs.mark v.region (s.regionSound v) } := ⟨_, rfl⟩
  obtain ⟨u, hu⟩ : ∃ u, u = z.showRegion v.region := ⟨_, rfl⟩
  obtain ⟨hnvs, hmem, -, -, -, -, hshell⟩ := showRegion_leaves v.region z
  have hup := showRegion_up v.region z
  rw [← hu] at hnvs hmem hshell hup
  have hzup : u.serviceUp = true := hup.trans ((by rw [hz]; rfl : z.serviceUp = s.serviceUp).trans h.up)
  have hzshell : z.shell = { s.shell with net := z.net } := by rw [hz]; rfl
  have hznvs : z.nvs = s.nvs.mark v.region (s.regionSound v) := by rw [hz]
  have hzmem : z.mem = s.mem := by rw [hz]; rfl
  have hunet : u.net = z.net := by
    have := congrArg State.net hshell
    exact this
  have hsound : u.nvs.sound.getLsbD v.region = s.regionSound v := by rw [hnvs, hznvs]; exact mark_getLsbD _ hr _
  have htransfer : u.nvs.transfer = s.nvs.transfer := by rw [hnvs, hznvs]; rfl
  have hframe : u.shell = { s.shell with
      net := u.net
      sup := u.sup } := by rw [hshell, hzshell, hunet]
  rw [ht]
  cases hok : s.regionSound v with
  | true =>
    have hgo := transferCommit_go h hv hs hc ha hg (u := u) (st := 0) (hu.trans (by rw [hz])) (by rw [hok]; rfl) hzup
    rw [hgo, transferred_ok]
    exact ⟨hsound.trans hok, fun _ => reply_mem .., fun hf => by simp at hf, htransfer, hframe, fun b => congrArg (Mem.byte · b) (hmem.trans hzmem)⟩
  | false =>
    obtain ⟨hcode, hfshell, hbytes, hfnvs, hfup, -⟩ := failed_code [wd 5] u
    have hgo := transferCommit_go h hv hs hc ha hg (u := u) (st := 5) (hu.trans (by rw [hz])) (by rw [hok]; rfl)
      (by rw [transferred_failed (by decide)]; exact hfup.trans hzup)
    rw [transferred_failed (by decide)] at hgo
    rw [hgo]
    have hfnet : (u.code Pg.SUP 0x1199 [wd 5]).net = u.net := net_of_shell hfshell
    have hfsup : (u.code Pg.SUP 0x1199 [wd 5]).sup = u.sup := code_sup ..
    generalize u.code Pg.SUP 0x1199 [wd 5] = c at *
    refine ⟨(congrArg (fun n : Nvs => n.sound.getLsbD v.region) hfnvs).trans (hsound.trans hok), fun hf => by simp at hf,
      fun _ => ⟨reply_mem .., hcode⟩, (congrArg Nvs.transfer hfnvs).trans htransfer, ?_,
      fun b => (hbytes b).trans (congrArg (Mem.byte · b) (hmem.trans hzmem))⟩
    exact hfshell.trans (hframe.trans (by rw [← hfnet, ← hfsup]; rfl))

theorem readStatus_passed {session off len : Nat} {u : Nvs} (hv : u.transfer = some v) (hs : v.session = session) (h8 : v.region ≠ 8)
    (h11 : v.region ≠ 11) (h1 : v.offset ≤ off) (h2 : off + len ≤ v.offset + v.length) (h3 : len ≤ 1024) :
    u.readStatus true session off len = 0 := by
  unfold Nvs.readStatus
  rw [hv]
  dsimp only
  rw [if_neg (not_not.mpr hs), if_neg (by simp), if_neg (by simp [h8, h11]), if_neg (by omega)]

/-- A READ of a transfer answers with the bytes of the region. -/
theorem transferRead_leaves (h : s.Asked 0x13 bs x q) (hv : s.nvs.transfer = some v) {off len : Nat} (ho : off = beNat (sliceB q.body 0 4))
    (hl : len = beNat (sliceB q.body 4 4)) (hst : s.nvs.readStatus (s.grant 20) x.number off len = 0) {t : State}
    (ht : t = s.transferRead bs) :
    replyOf 0x13 q.session q.seq 0 0 (s.mem.readBytes (regionAddr v.region off) len) ∈ t.outbox ∧ t.nvs.transfer = s.nvs.transfer ∧
    t.shell = { s.shell with net := t.net } ∧ s.SameBytes t := by
  obtain ⟨fx, hfx⟩ : ∃ fx, fx = { Fx.none with reads := (blocksOf (regionAddr v.region off) len).map (fun b => (Pg.NVS, 32 * b)) } := ⟨_, rfl⟩
  have hbytes : (s.served q).SameBytes ((s.served q).commit fx []) := fun b => bytes_commit ..
  have hshell : ((s.served q).commit fx []).shell = (s.served q).shell := shell_commit ..
  have htransfer : ((s.served q).commit fx []).nvs.transfer = s.nvs.transfer := transfer_commit ..
  have hup : ((s.served q).commit fx []).serviceUp = true := (serviceUp_commit ..).trans h.up
  have hnet : ((s.served q).commit fx []).net = (s.served q).net := net_of_shell hshell
  have hgo : s.transferRead bs = ((s.served q).commit fx []).reply 0x13 q.session q.seq 0 0
      (s.mem.readBytes (regionAddr v.region off) len) := by
    refine request_asked h _ ?_ hup
    rw [hfx]
    subst ho hl
    dsimp only
    rw [show (s.served q).nvs = s.nvs from rfl, show (s.served q).grant 20 = s.grant 20 from rfl, hv, if_pos hst]
    rfl
  rw [ht, hgo]
  generalize (s.served q).commit fx [] = c at *
  exact ⟨reply_mem .., htransfer, hshell.trans (by rw [shell_served, ← hnet]; rfl), hbytes⟩

/-- CLOSE of a session's own transfer ends it. -/
theorem transferClose_own (h : s.Asked 0x14 bs x q) (hv : s.nvs.transfer = some v) (hs : v.session = x.number) {t : State}
    (ht : t = s.transferClose bs) :
    t.nvs.transfer = none ∧ replyOf 0x14 q.session q.seq 0 0 [] ∈ t.outbox ∧
    t.shell = { s.shell with
      net := t.net
      pwr := t.pwr } ∧ s.SameBytes t := by
  obtain ⟨z, hz⟩ : ∃ z : State, z = { s.served q with nvs := { s.nvs with transfer := none } } := ⟨_, rfl⟩
  have hup : z.releaseIdle.serviceUp = true := (serviceUp_releaseIdle z).trans (by rw [hz]; exact h.up)
  have hgo : s.transferClose bs = z.releaseIdle.reply 0x14 q.session q.seq 0 0 [] := by
    refine request_asked h _ ?_ hup
    rw [hz]
    dsimp only
    rw [show (s.served q).nvs = s.nvs from rfl, hv]
    exact if_pos (beq_iff_eq.mpr hs)
  have hnvs : z.releaseIdle.nvs = z.nvs := releaseIdle_nvs z
  have hmem : z.releaseIdle.mem = z.mem := releaseIdle_mem z
  have hnet : z.releaseIdle.net = z.net := releaseIdle_net z
  have hshell : z.releaseIdle.shell = { z.shell with pwr := z.releaseIdle.pwr } := by
    have hpwr : z.releaseIdle.pwr = z.pwr.release z.active := congrArg State.pwr (shell_releaseIdle z)
    exact (shell_releaseIdle z).trans (by rw [hpwr])
  rw [ht, hgo]
  generalize z.releaseIdle = c at *
  refine ⟨(congrArg Nvs.transfer hnvs).trans (by rw [hz]), reply_mem .., ?_, fun b => congrArg (Mem.byte · b) (hmem.trans (by rw [hz]; rfl))⟩
  exact hshell.trans (by rw [show (c.reply 0x14 q.session q.seq 0 0 []).net = z.net from hnet, hz]; rfl)

/-- CLOSE without a transfer of the session's own is refused. -/
theorem transferClose_other (h : s.Asked 0x14 bs x q) (hv : ∀ v, s.nvs.transfer = some v → v.session ≠ x.number) :
    s.transferClose bs = ((s.served q).code Pg.SUP 0x1199 [wd 1]).reply 0x14 q.session q.seq 0 1 [] := by
  refine request_failed h ?_ (by decide) h.up
  dsimp only
  rw [show (s.served q).nvs = s.nvs from rfl]
  cases hn : s.nvs.transfer with
  | none => rfl
  | some v => exact if_neg (fun hh => hv v hn (beq_iff_eq.mp hh))

end

/-- Of a module in which only the service path's state changed, the supply stands. -/
theorem shell_with_pwr {s t : State} (h : t.shell = { s.shell with net := t.net }) :
    t.shell = { s.shell with
      net := t.net
      pwr := t.pwr } := by
  have hpwr : t.pwr = s.pwr := (show t.pwr = t.shell.pwr from rfl).trans (by rw [h]; rfl)
  rw [h, hpwr]
  rfl

/-- Settles O31: each operation of a transfer by the reply of its own work, stored or refused. -/
theorem serviceTransferCommands : Obligations.ServiceTransferCommands := by
  unfold Obligations.ServiceTransferCommands
  refine ⟨?_, ?_, ?_, ?_, ?_⟩
  · intro a bs x q s h
    obtain ⟨hshell, hbytes⟩ := transferOpen_frame (asked_at h a)
    refine ⟨_, rfl, ?_, hshell, at_sameBytes hbytes⟩
    intro r off len hr ho hl
    refine ⟨fun hn hm h12 hsize hg => ?_, fun hn => ?_, fun hn hm hout => ?_⟩
    · rw [transferOpen_opens (asked_at h a) hr ho hl (by
        rw [at_nvs, at_mode, show (s.at_ a).grant 20 = true from hg]
        exact openStatus_ok hn hm h12 hsize)]
      exact ⟨rfl, reply_mem ..⟩
    · obtain ⟨hnvs, hreply, hcode, -, -⟩ := refused_leaves q 0x10 1 (s.at_ a) (transferOpen_refused (asked_at h a) (by decide) (openStatus_open hn))
      exact ⟨congrArg Nvs.transfer hnvs, hreply, hcode⟩
    · subst hr ho hl
      obtain ⟨hnvs, hreply, hcode, -, -⟩ := refused_leaves q 0x10 3 (s.at_ a)
        (transferOpen_refused (asked_at h a) (by decide) (openStatus_outside hn hm hout))
      exact ⟨(congrArg Nvs.transfer hnvs).trans hn, hreply, hcode⟩
  · intro a ok bs x q v s h hv hs hc ha h1 h2 h3 hne hk hg
    have hst : (s.at_ a).nvs.dataStatus (s.at_ a).mem (s.at_ a).mode (s.at_ a).imageRegion (s.at_ a).sup.copy ((s.at_ a).grant 20) ok x.number
        (beNat (sliceB q.body 0 4)) (q.body.drop 4).length = if ok then 0 else 6 := by
      rw [show (s.at_ a).grant 20 = true from hg]
      exact dataStatus_passed hv hs hc ha h1 h2 h3 hk
    refine ⟨_, rfl, ?_⟩
    cases ok with
    | true =>
      obtain ⟨hreply, hstored, hbut, htransfer, hshell⟩ := transferData_stored (asked_at h a) hv rfl hne hst rfl
      exact ⟨fun b hb => (hbut b hb).trans (byte_strike ..), fun _ => ⟨hreply, hstored⟩, fun hf => by simp at hf, htransfer, hshell⟩
    | false =>
      obtain ⟨hreply, hsame, hsup, hnvs, htransfer, hshell⟩ := transferData_failed (asked_at h a) hv rfl hst rfl
      exact ⟨fun b _ => at_sameBytes hsame b, fun hf => by simp at hf, fun _ => ⟨hreply, at_sameBytes hsame, hsup, hnvs⟩, htransfer, hshell⟩
  · intro a bs x q v s h hv hs hc ha hg
    obtain ⟨hsound, hok, hbad, htransfer, hshell, hbytes⟩ := transferCommit_leaves (asked_at h a) hv hs hc ha hg rfl
    exact ⟨_, rfl, hsound, hok, hbad, htransfer, hshell, at_sameBytes hbytes⟩
  · intro a bs x q v s h hv hs hg h8 h11 h1 h2 h3
    obtain ⟨hreply, htransfer, hshell, hbytes⟩ := transferRead_leaves (asked_at h a) hv rfl rfl
      (by rw [show (s.at_ a).grant 20 = true from hg]; exact readStatus_passed hv hs h8 h11 h1 h2 h3) rfl
    exact ⟨_, rfl, hreply, htransfer, hshell, at_sameBytes hbytes⟩
  · intro a bs x q s h
    refine ⟨_, rfl, ?_⟩
    by_cases hown : ∃ v, s.nvs.transfer = some v ∧ v.session = x.number
    · obtain ⟨v, hv, hs⟩ := hown
      obtain ⟨hnone, hreply, hshell, hbytes⟩ := transferClose_own (asked_at h a) hv hs rfl
      refine ⟨fun _ _ _ => ⟨hnone, hreply⟩, fun w hw hne => ?_, hshell, at_sameBytes hbytes⟩
      exact absurd hs (by rw [Option.some.inj (hv.symm.trans hw)]; exact hne)
    · obtain ⟨hnvs, hreply, hcode, hshell, hbytes⟩ := refused_leaves q 0x14 1 (s.at_ a)
        (transferClose_other (asked_at h a) fun v hv hs => hown ⟨v, hv, hs⟩)
      refine ⟨fun v hv hs => absurd ⟨v, hv, hs⟩ hown, fun v hv _ => ⟨(congrArg Nvs.transfer hnvs).trans hv, hreply, hcode⟩, ?_, at_sameBytes hbytes⟩
      exact shell_with_pwr hshell

end Sys2Proof.Proofs
end

section
/-! Sessions of the service path and the key block, settled (R302, R303). -/

namespace Sys2Proof.Proofs

open Sys2Proof Sys2Proof.Machine

-- One proof after another: many at once wait for the kernel in threads of their own, which the check's memory limit does not hold.
set_option Elab.async false

/-! ## HELLO (R302) -/

section
variable {s : State} {bs k : List Byte} {q : Request_}

theorem fresh_snd (s : State) : s.fresh.2 = { s with free := s.free + 1 } := rfl

/-- A nonce is four free words. -/
theorem nonce_leaves (s : State) : s.nonce.1.length = 16 ∧ s.nonce.2 = { s with free := s.free + 4 } := by
  unfold State.nonce
  refine ⟨by simp [wordsBytes, wordBytes], ?_⟩
  dsimp only
  rw [fresh_snd, fresh_snd, fresh_snd, fresh_snd]

/-- The bytes a session key is made from begin with the protocol's name. -/
theorem protocol_name : [0x4F, 0x52, 0x52, 0x41, 0x44].map (BitVec.ofNat 8) = [0x4F, 0x52, 0x52, 0x41, 0x44] := rfl

/-- A session opened: what the code and the reply leave beside it. -/
theorem openSession_leaves (slot : Nat) (key client : List Byte) (seq : Nat) (s : State) {t : State} (ht : t = s.openSession slot key client seq) :
    t.net.sessions = s.net.sessions ++ [⟨s.net.opened + 1, slot, if slot = 0xFF then []
      else Config.hmacSha256 key ([0x4F, 0x52, 0x52, 0x41, 0x44] ++ client ++ s.nonce.1), seq, s.tim.time⟩] ∧
    replyOf 1 (s.net.opened + 1) seq 1 0 (s.nonce.1 ++ beBytes 1 (keySlots s.nvs.keys + 16 * keySlots s.nvs.images)) ∈ t.outbox ∧
    rget t.net.regs Reg.PRP_SVC_CNT = incWrapField (rget s.net.regs Reg.PRP_SVC_CNT) 15 0 ∧ t.errCode Pg.PRP = 0x0D81 ∧
    t.nvs = s.nvs ∧
    t.shell = { s.shell with
      net := t.net
      free := s.free + 4 } ∧ s.SameBytes t := by
  obtain ⟨z, hz⟩ : ∃ z : State, z = { s with
    free := s.free + 4
    net := { s.net with
      regs := rmod s.net.regs Reg.PRP_SVC_CNT (fun x => incWrapField x 15 0)
      opened := s.net.opened + 1
      sessions := s.net.sessions ++ [⟨s.net.opened + 1, slot, if slot = 0xFF then []
        else Config.hmacSha256 key ([0x4F, 0x52, 0x52, 0x41, 0x44] ++ client ++ s.nonce.1), seq, s.tim.time⟩] } } := ⟨_, rfl⟩
  have hopen : s.openSession slot key client seq = (z.code Pg.PRP 0x0D81 []).reply 1 (s.net.opened + 1) seq 1 0
      (s.nonce.1 ++ beBytes 1 (keySlots s.nvs.keys + 16 * keySlots s.nvs.images)) := by
    unfold State.openSession
    dsimp only
    rw [(nonce_leaves s).2, protocol_name, hz]
  have hnet : (z.code Pg.PRP 0x0D81 []).net = z.net := net_of_shell (shell_code ..)
  have hnvs : (z.code Pg.PRP 0x0D81 []).nvs = z.nvs := nvs_code ..
  have hshell : (z.code Pg.PRP 0x0D81 []).shell = z.shell := shell_code ..
  have hbytes : z.SameBytes (z.code Pg.PRP 0x0D81 []) := byte_code _ _ _ _
  have hcode : (z.code Pg.PRP 0x0D81 []).errCode Pg.PRP = 0x0D81 := errCode_code _ _ _ _ (by decide)
  rw [ht, hopen]
  generalize z.code Pg.PRP 0x0D81 [] = c at *
  refine ⟨(congrArg Net.sessions hnet).trans (by rw [hz]), reply_mem .., (congrArg (fun n : Net => rget n.regs Reg.PRP_SVC_CNT) hnet).trans ?_,
    hcode, hnvs.trans (by rw [hz]), ?_, fun b => (hbytes b).trans (by rw [hz])⟩
  · rw [hz]
    exact (rget_rmod _ _ (fun x => incWrapField x 15 0) _).trans (if_pos rfl)
  · refine (show _ = c.shell from rfl).trans (hshell.trans ?_)
    rw [show (c.reply 1 (s.net.opened + 1) seq 1 0 _).net = z.net from hnet, hz]
    rfl

theorem hello_keyed (hup : s.serviceUp = true) (hread : readRequest bs = some q) (hop : q.op = 1) (hslot : byteAt q.rest 0 ≠ 0xFF)
    (hk : keyOf s.nvs.keys (byteAt q.rest 0) = some k) :
    s.hello bs = if !tagOk k bs || decide (q.rest.length ≠ 49) then s.reject
      else if 4 ≤ s.net.sessions.length then s
      else s.openSession (byteAt q.rest 0) k (sliceB q.rest 1 16) q.seq := by
  unfold State.hello
  rw [if_pos hup, hread]
  dsimp only
  rw [if_neg (not_not.mpr hop), if_neg hslot, hk]

theorem hello_keyless (hup : s.serviceUp = true) (hread : readRequest bs = some q) (hop : q.op = 1) (hslot : byteAt q.rest 0 = 0xFF)
    (h : s.mode = .config ∧ s.nvs.keys = [] ∧ s.net.sessions.length < 4 ∧ q.rest.length = 17) :
    s.hello bs = s.openSession 0xFF [] (sliceB q.rest 1 16) q.seq := by
  unfold State.hello
  rw [if_pos hup, hread]
  dsimp only
  rw [if_neg (not_not.mpr hop), if_pos hslot, if_pos h, hslot]

end

/-! ## Requests discarded -/

/-- Every request of the service path with a wrong tag or SEQ is discarded. -/
theorem serviceRequests_rejected {a : At} {n : Nat} {ok : Bool} {bs : List Byte} {q : Request_} {x : Session} {s : State} {c : Nat × Instr}
    (hc : c ∈ serviceRequests a n ok bs) (hup : s.serviceUp = true) (hans : s.answers c.1 = true) (hread : readRequest bs = some q)
    (hop : q.op = c.1) (hsession : s.net.sessions.find? (fun y => y.number == q.session) = some x)
    (hbad : (x.slot ≠ 0xFF ∧ tagOk x.key bs = false) ∨ q.seq ≤ x.seq) : exec c.2 s = .next (s.at_ a).reject := by
  have h : ∀ go, (s.at_ a).request c.1 bs go = (s.at_ a).reject := fun go => request_rejected go hup hans hread hop hsession hbad
  simp only [serviceRequests, List.mem_cons, List.not_mem_nil, or_false] at hc
  rcases hc with rfl | rfl | rfl | rfl | rfl | rfl | rfl | rfl | rfl <;> exact congrArg Host.Outcome.next (h _)

/-! ## KEY_SET (R303) -/

section
variable {s : State} {bs : List Byte} {x : Session} {q : Request_} {ok : Bool}

/-- A KEY_SET that the state or the session does not admit. -/
theorem serviceKeySet_refused (h : s.Asked 5 bs x q) (hno : s.mode ≠ .config ∧ s.mode ≠ .service ∨ x.slot ≠ 0) :
    s.serviceKeySet ok bs = (s.served q).reply 5 q.session q.seq 0 1 [] := by
  refine request_asked h _ ?_ h.up
  refine if_pos ?_
  rcases hno with ⟨h1, h2⟩ | h0
  · exact Or.inl (not_or.mpr ⟨h1, h2⟩)
  · exact Or.inr (Or.inl (not_or.mpr ⟨h0, h.keyed⟩))

/-- A KEY_SET that is admitted and reads back. -/
theorem serviceKeySet_stored (h : s.Asked 5 bs x q) (hm : s.mode = .config ∨ s.mode = .service) (h0 : x.slot = 0) (hl : q.body.length = 36)
    (hk : byteAt q.body 0 ≤ 1) (hslot : byteAt q.body 1 ≤ 3) (hz : beNat (sliceB q.body 2 2) = 0) {t : State}
    (ht : t = (s.served q).storeKey (byteAt q.body 0) (byteAt q.body 1) (sliceB q.body 4 32)) :
    s.serviceKeySet true bs = t.reply 5 q.session q.seq 0 0 [] := by
  refine request_asked h _ ?_ (by rw [ht]; exact (serviceUp_commit ..).trans h.up)
  rw [ht]
  refine (if_neg ?_).trans rfl
  rw [show (s.served q).mode = s.mode from rfl]
  simp only [hm, h0, hl, hz, not_true_eq_false, true_or, ne_eq, or_false, false_or]
  omega

/-- What a key stored leaves. -/
theorem storeKey_leaves (kind slot : Nat) (key : List Byte) (s : State) {t : State} (ht : t = s.storeKey kind slot key) :
    (kind = 0 → t.nvs.keys = keySet s.nvs.keys slot key ∧ t.nvs.images = s.nvs.images) ∧
    (kind = 1 → t.nvs.images = keySet s.nvs.images slot key ∧ t.nvs.keys = s.nvs.keys) ∧
    t.errCode Pg.PRP = 0x0D83 ∧ t.net = s.net ∧ t.shell = s.shell ∧ s.SameBytes t := by
  obtain ⟨u, hu⟩ : ∃ u : Nvs, u = if kind = 0 then { s.nvs with keys := keySet s.nvs.keys slot key }
    else { s.nvs with images := keySet s.nvs.images slot key } := ⟨_, rfl⟩
  obtain ⟨z, hz⟩ : ∃ z : State, z = { s with nvs := u } := ⟨_, rfl⟩
  have hstore : s.storeKey kind slot key = z.codeRec Pg.PRP 0x0D83 [wd kind, wd slot] := by rw [hz, hu]; rfl
  have hnvs : (z.codeRec Pg.PRP 0x0D83 [wd kind, wd slot]).nvs = z.nvs := plain_nvs _ (plain_of_codes _ _ _ _) _
  have hshell : (z.codeRec Pg.PRP 0x0D83 [wd kind, wd slot]).shell = z.shell := shell_commit ..
  have hbytes : z.SameBytes (z.codeRec Pg.PRP 0x0D83 [wd kind, wd slot]) := fun b => bytes_commit ..
  have hcode : (z.codeRec Pg.PRP 0x0D83 [wd kind, wd slot]).errCode Pg.PRP = 0x0D83 := errCode_codeRec _ _ _ _ (by decide)
  rw [ht, hstore]
  generalize z.codeRec Pg.PRP 0x0D83 [wd kind, wd slot] = c at *
  have hu' : c.nvs = u := hnvs.trans (by rw [hz])
  refine ⟨fun h0 => ?_, fun h1 => ?_, hcode, (net_of_shell hshell).trans (by rw [hz]), hshell.trans (by rw [hz]; rfl),
    fun b => (hbytes b).trans (by rw [hz])⟩
  · rw [hu', hu, if_pos h0]
    exact ⟨rfl, rfl⟩
  · rw [hu', hu, if_neg (by omega)]
    exact ⟨rfl, rfl⟩

end

/-! ## The end of a session (R302) -/

section
variable {s : State} {n : Nat}

/-- A session ended, with its own transfer. -/
theorem closeSession_leaves (n : Nat) (s : State) {t : State} (ht : t = s.closeSession n) :
    t.net = { s.net with sessions := s.net.sessions.filter (fun y => y.number != n) } ∧
    (∀ v, s.nvs.transfer = some v → v.session = n → t.nvs.transfer = none) ∧
    (∀ v, s.nvs.transfer = some v → v.session ≠ n → t.nvs.transfer = some v) ∧
    t.serviceUp = s.serviceUp ∧
    t.shell = { s.shell with
      net := t.net
      pwr := t.pwr } ∧ s.SameBytes t := by
  obtain ⟨own, hown⟩ : ∃ own, own = (match s.nvs.transfer with | some t => t.session == n | none => false) := ⟨_, rfl⟩
  obtain ⟨z, hz⟩ : ∃ z : State, z = { s with
    net := { s.net with sessions := s.net.sessions.filter (fun x => x.number != n) }
    nvs := if own then { s.nvs with transfer := none } else s.nvs } := ⟨_, rfl⟩
  have hclose : s.closeSession n = z.releaseIdle := by rw [hz, hown]; rfl
  have hnvs : z.releaseIdle.nvs = z.nvs := releaseIdle_nvs z
  have hmem : z.releaseIdle.mem = z.mem := releaseIdle_mem z
  have hnet : z.releaseIdle.net = z.net := releaseIdle_net z
  have hup : z.releaseIdle.serviceUp = z.serviceUp := serviceUp_releaseIdle z
  have hshell : z.releaseIdle.shell = { z.shell with pwr := z.releaseIdle.pwr } := by
    have hpwr : z.releaseIdle.pwr = z.pwr.release z.active := congrArg State.pwr (shell_releaseIdle z)
    exact (shell_releaseIdle z).trans (by rw [hpwr])
  rw [ht, hclose]
  generalize z.releaseIdle = c at *
  refine ⟨hnet.trans (by rw [hz]), fun v hv hs => ?_, fun v hv hs => ?_, hup.trans (by rw [hz]; rfl), ?_,
    fun b => congrArg (Mem.byte · b) (hmem.trans (by rw [hz]))⟩
  · have ho : own = true := by rw [hown, hv]; exact beq_iff_eq.mpr hs
    rw [hnvs, hz]
    exact congrArg Nvs.transfer (if_pos ho)
  · have ho : ¬ own = true := by rw [hown, hv]; exact fun hh => hs (beq_iff_eq.mp hh)
    rw [hnvs, hz]
    exact (congrArg Nvs.transfer (if_neg ho)).trans hv
  · exact hshell.trans (by rw [show c.net = z.net from hnet, hz]; rfl)

theorem sessionTimeout_eq {x : Session} (h : s.net.sessions.find? (fun y => y.number == n) = some x) :
    s.sessionTimeout n = if 60000000000 ≤ s.tim.time - x.last then s.closeSession n else s := by
  unfold State.sessionTimeout
  rw [h]

/-- The sessions served are the sessions there were, and the served one keeps its number. -/
theorem mem_sessionsServed_ne {l : List Session} {n q : Nat} {t : Int} {y : Session} (hy : y ∈ l) (hn : y.number ≠ n) :
    y ∈ sessionsServed l n q t := List.mem_map.mpr ⟨y, hy, if_neg hn⟩

theorem asked_number {op : Nat} {bs : List Byte} {x : Session} {q : Request_} (h : s.Asked op bs x q) : x.number = q.session := by
  have := List.find?_some h.session
  exact beq_iff_eq.mp this

end

/-- Settles O29: HELLO by the session it opens or the discard, every other request by its discard, KEY_SET by the key it stores, CLOSE and
the time-out by the session they end. -/
theorem serviceSessionsCommands : Obligations.ServiceSessionsCommands := by
  unfold Obligations.ServiceSessionsCommands
  refine ⟨?_, ?_, ?_, ?_, ?_, ?_, ?_, ?_⟩
  · intro a bs k q s hup hread hop hslot hk htag hlen hfour
    obtain ⟨hsessions, hreply, hcnt, hcode, hnvs, hshell, hbytes⟩ := openSession_leaves (byteAt q.rest 0) k (sliceB q.rest 1 16) q.seq (s.at_ a) rfl
    have he : (s.at_ a).hello bs = (s.at_ a).openSession (byteAt q.rest 0) k (sliceB q.rest 1 16) q.seq := by
      rw [hello_keyed (s := s.at_ a) hup hread hop hslot hk, htag, if_neg (by simp [hlen])]
      exact if_neg (Nat.not_le.mpr hfour)
    rw [if_neg hslot] at hsessions
    exact ⟨_, (s.at_ a).nonce.1, congrArg Host.Outcome.next he, (nonce_leaves _).1, hsessions, hreply, hcnt, hcode, congrArg Nvs.keys hnvs,
      congrArg Nvs.images hnvs, hshell, at_sameBytes hbytes⟩
  · intro a bs q s hup hread hop hslot hm hkeys hlen hfour
    obtain ⟨hsessions, -, -, hcode, -, hshell, hbytes⟩ := openSession_leaves 0xFF [] (sliceB q.rest 1 16) q.seq (s.at_ a) rfl
    rw [if_pos rfl] at hsessions
    exact ⟨_, congrArg Host.Outcome.next (hello_keyless (s := s.at_ a) hup hread hop hslot ⟨hm, hkeys, hfour, hlen⟩), hsessions, hcode, hshell,
      at_sameBytes hbytes⟩
  · intro a bs k q s hup hread hop hslot hk htag
    obtain ⟨hsessions, houtbox, hcnt, hcode, -, hshell, hbytes⟩ := reject_leaves (s.at_ a)
    have he : (s.at_ a).hello bs = (s.at_ a).reject := by
      rw [hello_keyed (s := s.at_ a) hup hread hop hslot hk, htag]
      rfl
    exact ⟨_, congrArg Host.Outcome.next he, hsessions, houtbox, hcnt, hcode, hshell, at_sameBytes hbytes⟩
  · intro a n ok bs q x s c hc hup hans hread hop hsession hbad
    obtain ⟨hsessions, houtbox, hcnt, hcode, hnvs, hshell, hbytes⟩ := reject_leaves (s.at_ a)
    exact ⟨_, serviceRequests_rejected hc hup hans hread hop hsession hbad, hsessions, houtbox, hcnt, hcode, congrArg Nvs.keys hnvs,
      congrArg Nvs.images hnvs, congrArg Nvs.transfer hnvs, hshell, at_sameBytes hbytes⟩
  · intro a bs x q s h hm h0 hl hk hslot hz
    obtain ⟨t, ht⟩ : ∃ t, t = ((s.at_ a).served q).storeKey (byteAt q.body 0) (byteAt q.body 1) (sliceB q.body 4 32) := ⟨_, rfl⟩
    obtain ⟨hkeys, himages, hcode, hnet, hshell, hbytes⟩ := storeKey_leaves _ _ _ _ ht
    refine ⟨_, congrArg Host.Outcome.next (serviceKeySet_stored (asked_at h a) hm h0 hl hk hslot hz ht), hkeys, himages, reply_mem .., hcode,
      congrArg Net.sessions hnet, ?_, fun b => at_sameBytes (a := a) (fun b => hbytes b) b⟩
    exact (show _ = t.shell from rfl).trans (hshell.trans (by rw [shell_served, ← hnet]; rfl))
  · intro a ok bs x q s h hno
    exact ⟨_, congrArg Host.Outcome.next (serviceKeySet_refused (asked_at h a) hno), rfl, rfl, reply_mem .., rfl, fun b => byte_strike ..⟩
  · intro a bs x q s h
    obtain ⟨t, ht⟩ : ∃ t, t = ((s.at_ a).served q).closeSession x.number := ⟨_, rfl⟩
    obtain ⟨hnet, hown, hother, hup, hshell, hbytes⟩ := closeSession_leaves _ _ ht
    have he : (s.at_ a).serviceClose bs = t.reply 4 q.session q.seq 0 0 [] := by
      rw [ht]
      rw [ht] at hup
      exact request_asked (asked_at h a) _ rfl (hup.trans h.up)
    refine ⟨_, congrArg Host.Outcome.next he, fun y hy => ?_, fun y hy hne => ?_, hown, hother, reply_mem .., ?_, fun b => at_sameBytes (a := a) (fun b => hbytes b) b⟩
    · have hy' : y ∈ ((s.at_ a).served q).net.sessions.filter (fun y => y.number != x.number) := by
        have hy : y ∈ t.net.sessions := hy
        rw [hnet] at hy
        exact hy
      simpa using (List.mem_filter.mp hy').2
    · have hy' : y ∈ t.net.sessions := by
        rw [hnet]
        exact List.mem_filter.mpr ⟨mem_sessionsServed_ne hy (asked_number h ▸ hne), by simpa using hne⟩
      exact hy'
    · exact (show _ = t.shell from rfl).trans (hshell.trans (by rw [shell_served]; rfl))
  · intro a n x s hx
    refine ⟨_, rfl, ?_⟩
    have he : (s.at_ a).sessionTimeout n = _ := sessionTimeout_eq hx
    by_cases hlate : 60000000000 ≤ (s.at_ a).tim.time - x.last
    · obtain ⟨hnet, hown, -, -, hshell, hbytes⟩ := closeSession_leaves n (s.at_ a) rfl
      rw [if_pos hlate] at he
      rw [he]
      exact ⟨fun _ => ⟨congrArg Net.sessions hnet, hown⟩, fun hh => absurd hlate (by omega), hshell, at_sameBytes hbytes⟩
    · rw [if_neg hlate] at he
      rw [he]
      exact ⟨fun hh => absurd hh hlate, fun _ => ⟨rfl, rfl⟩, rfl, fun b => byte_strike ..⟩

end Sys2Proof.Proofs
end

section
/-! READ and WRITE of the service path, settled (R304, R442). -/

namespace Sys2Proof.Proofs

open Sys2Proof Sys2Proof.Machine

-- One proof after another: many at once wait for the kernel in threads of their own, which the check's memory limit does not hold.
set_option Elab.async false

/-! ## Accesses by the service path -/

section
variable {s : State}

/-- While the service path answers it makes its accesses, in HALT that of SUP_RESET alone (R423). -/
theorem alive_service (h : s.serviceUp = true) {page off : Nat} (hm : s.mode ≠ .halt ∨ 0x400 * page + off = Reg.SUP_RESET) :
    s.alive .service page off = true := by
  unfold State.serviceUp at h
  simp only [Bool.and_eq_true] at h
  obtain ⟨⟨⟨⟨hw, h1⟩, hd⟩, hboot⟩, -⟩ := h
  have h8 : s.islandUp 8 = true := (Bool.and_eq_true_iff.mp hw).1
  unfold State.alive
  dsimp only
  rw [h1, h8, hd, hboot]
  rcases hm with hm | hm <;> simp [hm]

/-- A write of the service path to shared SRAM in CONFIG is made (R17). -/
theorem writeMem_service (h : s.serviceUp = true) (hm : s.mode = .config) (h2 : s.islandUp 2 = true) {adr : Nat} {d : List Byte}
    (hr : regionOfRange adr d.length = some .shared) :
    s.writeMem .service adr d =
      ({ s.commit Fx.none [⟨Pg.SUP, adr, d, false⟩] with prg := (s.commit Fx.none [⟨Pg.SUP, adr, d, false⟩]).prg.slotWritten adr }, 0) := by
  have hw : s.writesMem .service .shared adr d.length = true := by
    show (s.mode == .config || s.mode == .service) = true
    rw [hm]
    rfl
  have hi : s.islandUp (Region.island .shared) = true := h2
  unfold State.writeMem State.writeMemWith
  dsimp only
  rw [alive_service h (Or.inl (by rw [hm]; decide)), hr]
  dsimp only
  rw [hw, hi]
  rfl

/-- A write of the service path to addresses of no region is discarded. -/
theorem writeMem_nowhere (h : s.serviceUp = true) (hm : s.mode ≠ .halt) {adr : Nat} {d : List Byte} (hr : regionOfRange adr d.length = none) :
    s.writeMem .service adr d = (s.refuseAccess .service, 2) := by
  unfold State.writeMem State.writeMemWith
  dsimp only
  rw [alive_service h (Or.inl hm), hr]
  rfl

/-! ## Pairs and words past their time -/

/-- Pairs past their 2 ms are not applied. -/
theorem writePairs_late (l : List (Nat × Word)) (s : State) : s.writePairs l 0 = (s, List.replicate l.length 4) := by
  induction l with
  | nil => rfl
  | cons p l ih =>
    show ((s.writePairs l 0).1, 4 :: (s.writePairs l 0).2) = _
    rw [ih]
    rfl

/-- Words past their 2 ms are 0, with status 4. -/
theorem readWords_late (addr left : Nat) (acc : List Word × Nat) (s : State) :
    s.readWords addr left 0 acc = (s, acc.1.reverse ++ List.replicate left 0#32, if left = 0 then acc.2 else max acc.2 4) := by
  induction left generalizing addr acc with
  | zero => simp [State.readWords]
  | succ left ih =>
    show s.readWords (addr + 4) left 0 (0#32 :: acc.1, max acc.2 4) = _
    rw [ih]
    refine Prod.ext rfl (Prod.ext ?_ ?_)
    · simp [List.replicate_succ]
    · by_cases hl : left = 0 <;> simp [hl]

theorem zeroWords_bytes (n : Nat) : (List.replicate n 0#32).flatMap (fun w => beBytes 4 w.toNat) = List.replicate (4 * n) 0#8 := by
  induction n with
  | zero => rfl
  | succ n ih =>
    rw [List.replicate_succ, List.flatMap_cons, ih, show beBytes 4 (0#32 : Word).toNat = List.replicate 4 0#8 from rfl, List.replicate_append_replicate]
    congr 1
    omega

theorem foldl_max_late (n : Nat) (hn : 0 < n) : (List.replicate n 4).foldl max 0 = 4 := by
  obtain ⟨m, rfl⟩ : ∃ m, n = m + 1 := ⟨n - 1, by omega⟩
  have h : ∀ m, (List.replicate m 4).foldl max 4 = 4 := fun m => by
    induction m with
    | zero => rfl
    | succ m ih => exact ih
  exact h m

theorem lateStatuses_bytes (n : Nat) : (List.replicate n 4).flatMap (beBytes 1) = List.replicate n 4#8 := by
  induction n with
  | zero => rfl
  | succ n ih =>
    rw [List.replicate_succ, List.flatMap_cons, ih]
    rfl

/-! ## A WRITE with a refused pair -/

/-- The code of a WRITE of which a pair was refused. -/
theorem refusedPairs_leaves (op count st : Nat) (q : Request_) (body : List Byte) (s : State) {z t : State} (hz : z.shell = (s.served q).shell)
    (hb : (s.served q).SameBytes z) (ht : t = (z.code Pg.PRP 0x1D82 []).reply op q.session q.seq count st body) :
    replyOf op q.session q.seq count st body ∈ t.outbox ∧ t.errCode Pg.PRP = 0x1D82 ∧ t.errCode Pg.SUP = z.errCode Pg.SUP ∧
      t.shell = { s.shell with net := t.net } ∧ s.SameBytes t := by
  have hcode : (z.code Pg.PRP 0x1D82 []).errCode Pg.PRP = 0x1D82 := errCode_code _ _ _ _ (by decide)
  have hkeep : (z.code Pg.PRP 0x1D82 []).errCode Pg.SUP = z.errCode Pg.SUP :=
    errCode_commit_other _ z Pg.SUP (by decide) rfl rfl rfl rfl (by decide)
  have hshell : (z.code Pg.PRP 0x1D82 []).shell = (s.served q).shell := (shell_code ..).trans hz
  have hbytes : (s.served q).SameBytes (z.code Pg.PRP 0x1D82 []) := fun b => (byte_code _ _ _ _ b).trans (hb b)
  have hnet : (z.code Pg.PRP 0x1D82 []).net = (s.served q).net := net_of_shell hshell
  rw [ht]
  generalize z.code Pg.PRP 0x1D82 [] = c at *
  exact ⟨reply_mem .., hcode, hkeep, hshell.trans (by rw [shell_served, ← hnet]; rfl), hbytes⟩

/-- WRITE, as the pairs it applies and the statuses they have. -/
theorem serviceWrite_refused {bs : List Byte} {x : Session} {q : Request_} (h : s.Asked 3 bs x q) {n : Nat} {z : State} {l : List Nat}
    (hp : (s.served q).writePairs (pairsOf q.count q.body) n = (z, l)) (hworst : l.foldl max 0 ≠ 0) (hup : z.serviceUp = true) :
    s.serviceWrite n bs = (z.code Pg.PRP 0x1D82 []).reply 3 q.session q.seq l.length (l.foldl max 0) (l.flatMap (beBytes 1)) := by
  refine request_asked h _ ?_ ((serviceUp_commit ..).trans hup)
  dsimp only
  rw [hp, if_pos ⟨hworst, hup⟩]

theorem serviceWrite_made {bs : List Byte} {x : Session} {q : Request_} (h : s.Asked 3 bs x q) {n : Nat} {z : State} {l : List Nat}
    (hp : (s.served q).writePairs (pairsOf q.count q.body) n = (z, l)) (hworst : l.foldl max 0 = 0) (hup : z.serviceUp = true) :
    s.serviceWrite n bs = z.reply 3 q.session q.seq l.length 0 (l.flatMap (beBytes 1)) := by
  refine request_asked h _ ?_ hup
  dsimp only
  rw [hp, if_neg (fun hh => hh.1 hworst), hworst]

/-- One pair, refused. -/
theorem writePairs_refused {adr : Nat} {v : Word} (hup : s.serviceUp = true)
    (hbad : adr % 4 ≠ 0 ∧ regionOf adr ≠ some .pages ∨ (s.mode ≠ .halt ∧ regionOfRange adr 4 = none)) (n : Nat) :
    s.writePairs [(adr, v)] (n + 1) = (s.refuseAccess .service, [2]) := by
  have hpair : (if adr % 4 ≠ 0 ∧ regionOf adr ≠ some .pages then (s.refuseAccess .service, 2) else s.writeMem .service adr (wordBytes v)) =
      (s.refuseAccess .service, 2) := by
    by_cases hm : adr % 4 ≠ 0 ∧ regionOf adr ≠ some .pages
    · rw [if_pos hm]
    · obtain ⟨hmode, hr⟩ := hbad.resolve_left hm
      rw [if_neg hm, writeMem_nowhere hup hmode (by exact hr)]
  show ((if adr % 4 ≠ 0 ∧ regionOf adr ≠ some .pages then (s.refuseAccess .service, 2) else s.writeMem .service adr (wordBytes v)).1,
    (if adr % 4 ≠ 0 ∧ regionOf adr ≠ some .pages then (s.refuseAccess .service, 2) else s.writeMem .service adr (wordBytes v)).2 :: []) = _
  rw [hpair]

/-- One pair, applied to shared SRAM. -/
theorem writePairs_shared {adr : Nat} {v : Word} (hup : s.serviceUp = true) (hm : s.mode = .config) (h2 : s.islandUp 2 = true)
    (h4 : adr % 4 = 0) (hlo : 0x20000000 ≤ adr) (hhi : adr < 0x21000000) (n : Nat) :
    s.writePairs [(adr, v)] (n + 1) =
      ({ s.commit Fx.none [⟨Pg.SUP, adr, wordBytes v, false⟩] with
          prg := (s.commit Fx.none [⟨Pg.SUP, adr, wordBytes v, false⟩]).prg.slotWritten adr }, [0]) := by
  show ((if adr % 4 ≠ 0 ∧ regionOf adr ≠ some .pages then (s.refuseAccess .service, 2) else s.writeMem .service adr (wordBytes v)).1,
    (if adr % 4 ≠ 0 ∧ regionOf adr ≠ some .pages then (s.refuseAccess .service, 2) else s.writeMem .service adr (wordBytes v)).2 :: []) = _
  rw [if_neg (fun hh => hh.1 h4), writeMem_service hup hm h2 (by exact regionOfRange_shared (n := 4) (by decide) hlo (by omega))]

end

/-- Settles O30: READ by the words and the status of its accesses, WRITE by its pairs as they are applied, refused or late. -/
theorem serviceAccessCommands : Obligations.ServiceAccessCommands := by
  unfold Obligations.ServiceAccessCommands
  refine ⟨?_, ?_, ?_, ?_, ?_⟩
  · intro a bs x q s u ws st h hc hread hup n
    refine ⟨_, congrArg Host.Outcome.next (request_asked (asked_at h a) _ (t := u) (count := 1) (status := st)
      (body := beBytes 4 (leNat ws % 4294967296)) ?_ hup), rfl⟩
    dsimp only
    rw [hc]
    show ((State.readMem .service (beNat (q.body.take 4)) 4 ((s.at_ a).served q)).1, _) = _
    unfold State.readWords State.readWords
    dsimp only
    rw [hread]
    simp [wd, hread]
  · intro a bs x q s h hlo hhi
    have hgo : (s.at_ a).serviceRead 0 bs = ((s.at_ a).served q).reply 2 q.session q.seq q.count 4 (List.replicate (4 * q.count) 0#8) := by
      refine request_asked (asked_at h a) _ ?_ h.up
      dsimp only
      rw [readWords_late, Nat.min_eq_left hhi, if_neg (by omega)]
      simp only [List.reverse_nil, List.nil_append, zeroWords_bytes]
      rfl
    exact ⟨_, congrArg Host.Outcome.next hgo, reply_mem .., rfl, rfl, fun b => byte_strike ..⟩
  · intro a bs x q s adr v h hp hm h4 hlo hhi h2 n
    obtain ⟨c, hc⟩ : ∃ c, c = ((s.at_ a).served q).commit Fx.none [⟨Pg.SUP, adr, wordBytes v, false⟩] := ⟨_, rfl⟩
    have hshell : c.shell = ((s.at_ a).served q).shell := by rw [hc]; exact shell_commit ..
    have hbytes : ∀ b, c.mem.byte b = ((s.at_ a).mem.stores [⟨Pg.SUP, adr, wordBytes v, false⟩]).byte b := fun b => by rw [hc]; exact bytes_commit ..
    have hup : c.serviceUp = true := by rw [hc]; exact (serviceUp_commit ..).trans h.up
    have hnet : c.net = ((s.at_ a).served q).net := net_of_shell hshell
    obtain ⟨hstored, helse⟩ := byte_stored (s.at_ a).mem Pg.SUP adr (wordBytes v)
    have hpairs : ((s.at_ a).served q).writePairs (pairsOf q.count q.body) (n + 1) = ({ c with prg := c.prg.slotWritten adr }, [0]) := by
      rw [hp, hc]
      exact writePairs_shared (s := (s.at_ a).served q) h.up hm h2 h4 hlo hhi n
    refine ⟨_, congrArg Host.Outcome.next (serviceWrite_made (asked_at h a) hpairs rfl hup), fun k hk => (hbytes _).trans (hstored k hk),
      fun b hb => ((hbytes b).trans (helse b hb)).trans (byte_strike ..), reply_mem .., congrArg Net.sessions hnet, ?_⟩
    exact (show _ = c.shell from rfl).trans (hshell.trans (by rw [shell_served, ← hnet]; rfl))
  · intro a bs x q s adr v h hp hbad n
    have hpairs : ((s.at_ a).served q).writePairs (pairsOf q.count q.body) (n + 1) = (((s.at_ a).served q).refuseAccess .service, [2]) := by
      rw [hp]
      exact writePairs_refused (s := (s.at_ a).served q) h.up hbad n
    have hcode : (((s.at_ a).served q).refuseAccess .service).errCode Pg.SUP = 0x30A1 := errCode_code _ _ _ _ (by decide)
    obtain ⟨hreply, hprp, hsup, hshell, hbytes⟩ := refusedPairs_leaves 3 1 2 q [2#8] (s.at_ a)
      (z := ((s.at_ a).served q).refuseAccess .service) (shell_code ..) (fun b => byte_code _ _ _ _ b) rfl
    exact ⟨_, congrArg Host.Outcome.next (serviceWrite_refused (asked_at h a) hpairs (by decide) ((serviceUp_commit ..).trans h.up)), hreply, hprp,
      hsup.trans hcode, hshell, at_sameBytes hbytes⟩
  · intro a bs x q s h hp
    obtain ⟨l, hl⟩ : ∃ l, l = pairsOf q.count q.body := ⟨_, rfl⟩
    have hlen : 0 < l.length := List.length_pos_iff.mpr (hl ▸ hp)
    have hgo := serviceWrite_refused (asked_at h a) (n := 0) (z := (s.at_ a).served q) (l := List.replicate l.length 4)
      (by rw [← hl]; exact writePairs_late l _) (by rw [foldl_max_late _ hlen]; decide) h.up
    rw [foldl_max_late _ hlen, lateStatuses_bytes, List.length_replicate] at hgo
    obtain ⟨hreply, hprp, -, hshell, hbytes⟩ := refusedPairs_leaves 3 l.length 4 q (List.replicate l.length 4#8) (s.at_ a)
      (z := (s.at_ a).served q) rfl (fun _ => rfl) rfl
    rw [← hl]
    exact ⟨_, congrArg Host.Outcome.next hgo, hreply, hprp, hshell, at_sameBytes hbytes⟩

end Sys2Proof.Proofs
end

section
/-! SUPPORT. The plant network (R298–R301): what work of the links, of PRP and of the plant interface leaves of the module, and what each
kind of frame and datagram makes of its own state. -/

namespace Sys2Proof.Proofs

open Sys2Proof Sys2Proof.Machine

-- One proof after another: many at once wait for the kernel in threads of their own, which the check's memory limit does not hold.
set_option Elab.async false

/-! ## The network's work in the module -/

section
variable {s : State} {f : Net → W Net}

/-- The network's work leaves the rest of the module and, storing nothing, every byte. -/
theorem onNet_frame (hst : (f s.net).st = []) : (s.onNet f).shell = { s.shell with net := (s.onNet f).net } ∧ s.SameBytes (s.onNet f) := by
  have hb : ∀ b, (s.onNet f).mem.byte b = (s.mem.stores (f s.net).st).byte b := fun b => bytes_commit _ _ { s with net := (f s.net).u } b
  refine ⟨by rw [shell_onNet, onNet_net], fun b => ?_⟩
  rw [hb, hst]
  rfl

theorem plain_onNet (hst : (f s.net).st = []) (h : (f s.net).fx.Plain) :
    (s.onNet f).outbox = (f s.net).fx.emits.reverse ++ s.outbox ∧
      ∀ p k, k < 32 → (p, k) ∈ (f s.net).fx.evts → (s.onNet f).evtSet p k = true := by
  have hform : s.onNet f = ({ s with net := (f s.net).u } : State).commit (f s.net).fx [] := by
    rw [← hst]
    rfl
  generalize (f s.net).fx = fx at *
  rw [hform]
  exact ⟨plain_outbox _ h _, fun p k hk hl => evtSet_commit h hk hl _⟩

theorem errCode_network {l : List Code} {page code : Nat} {p : List Word} (hp : page ≠ Pg.SNAP ∧ page ≠ Pg.FLT)
    (hc : (f s.net).fx.codes = l ++ [⟨page, code, p, false⟩]) (h : (f s.net).fx.Plain) : (s.onNet f).errCode page = code % 0x10000 :=
  errCode_commit_delivers (l := l) (c := ⟨page, code, p, false⟩) (f s.net).st { s with net := (f s.net).u } hc hp.1 hp.2 h.pushes h.triggers

end

theorem rget_mod_ne (u : Net) {j k : Nat} (f : Word → Word) (h : j ≠ k) : rget (u.mod k f).regs j = rget u.regs j := rget_rmod_ne _ f h

theorem rget_mod_self (u : Net) (k : Nat) (f : Word → Word) : rget (u.mod k f).regs k = f (rget u.regs k) :=
  (rget_rmod _ _ f _).trans (if_pos rfl)

/-- A cell counted. -/
theorem rget_counted (m : RMap) (k j : Nat) : rget (rmod m k (· + 1#32)) j = if j = k then rget m j + 1#32 else rget m j := by
  rw [rget_rmod]
  split
  · next h => rw [h]
  · rfl

/-! ## Links (R298) -/

theorem ethPage (port : Fin 4) : Pg.ETH + port.val ≠ Pg.SNAP ∧ Pg.ETH + port.val ≠ Pg.FLT := by
  revert port
  decide

section
variable {u : Net} {port : Nat}

theorem linkDown_leaves (h : rbit u.regs (rk Reg.ETH_STAT port 0) 0 = true) :
    rfld (Net.linkDown port u).u.regs (rk Reg.ETH_STAT port 0) 2 0 = 0 ∧
    rget (Net.linkDown port u).u.regs (rk Reg.ETH_LINK_CNT port 0) = incW (rget u.regs (rk Reg.ETH_LINK_CNT port 0)) ∧
    (Net.linkDown port u).st = [] ∧ (Net.linkDown port u).fx =
      { Fx.none with
        codes := [⟨Pg.ETH + port, 0x1D40, [wd port], false⟩]
        evts := [(Pg.ETH + port, 0)] } := by
  have he : Net.linkDown port u = ((W.of ((u.mod (rk Reg.ETH_STAT port 0) (fun w => w &&& ~~~7#32)).mod (rk Reg.ETH_LINK_CNT port 0) incW)).evt
      (Pg.ETH + port) 0).code (Pg.ETH + port) 0x1D40 [wd port] := if_pos h
  rw [he]
  have hne : rk Reg.ETH_STAT port 0 ≠ rk Reg.ETH_LINK_CNT port 0 := rk_ne _ (by decide)
  refine ⟨?_, ?_, rfl, rfl⟩
  · have hcell : rget ((u.mod (rk Reg.ETH_STAT port 0) (fun w => w &&& ~~~7#32)).mod (rk Reg.ETH_LINK_CNT port 0) incW).regs
        (rk Reg.ETH_STAT port 0) = rget u.regs (rk Reg.ETH_STAT port 0) &&& ~~~7#32 :=
      (rget_rmod_ne _ _ hne).trans ((rget_rmod _ _ (fun w => w &&& ~~~7#32) _).trans (if_pos rfl))
    unfold rfld
    refine (congrArg (bits · 2 0) hcell).trans (Nat.eq_of_testBit_eq fun i => ?_)
    rw [testBit_bits, Nat.zero_testBit, BitVec.getLsbD_and]
    by_cases hi : i < 3
    · have h7 : ((~~~7#32 : Word).getLsbD (0 + i)) = false := by
        have hcases : i = 0 ∨ i = 1 ∨ i = 2 := by omega
        rcases hcases with rfl | rfl | rfl <;> rfl
      rw [h7, Bool.and_false, Bool.and_false]
    · simp [hi]
  · exact (rget_rmod _ _ incW _).trans ((if_pos rfl).trans (congrArg incW (rget_rmod_ne _ (fun w => w &&& ~~~7#32) hne.symm)))

theorem linkUp_leaves {speed : Nat} (hs : speed < 4) (h : rbit u.regs (rk Reg.ETH_STAT port 0) 0 = false) :
    rbit (Net.linkUp port speed false u).u.regs (rk Reg.ETH_STAT port 0) 0 = true ∧
    rfld (Net.linkUp port speed false u).u.regs (rk Reg.ETH_STAT port 0) 2 1 = speed ∧
    rbit (Net.linkUp port speed false u).u.regs (rk Reg.ETH_STAT port 0) 3 = false ∧
    (Net.linkUp port speed false u).st = [] ∧ (Net.linkUp port speed false u).fx =
      { Fx.none with
        codes := [⟨Pg.ETH + port, 0x0D41, [wd port], false⟩]
        evts := [(Pg.ETH + port, 0)] } := by
  have he : Net.linkUp port speed false u = ((W.of (u.mod (rk Reg.ETH_STAT port 0)
      (fun w => putBit (putBits (putBit w 0 true) 2 1 speed) 3 false))).evt (Pg.ETH + port) 0).code (Pg.ETH + port) 0x0D41 [wd port] :=
    (show _ = if rbit u.regs (rk Reg.ETH_STAT port 0) 0 = true then W.of u else _ from rfl).trans (if_neg (by rw [h]; decide))
  rw [he]
  have hcell : rget (u.mod (rk Reg.ETH_STAT port 0) (fun w => putBit (putBits (putBit w 0 true) 2 1 speed) 3 false)).regs
      (rk Reg.ETH_STAT port 0) = putBit (putBits (putBit (rget u.regs (rk Reg.ETH_STAT port 0)) 0 true) 2 1 speed) 3 false :=
    (rget_rmod _ _ (fun w => putBit (putBits (putBit w 0 true) 2 1 speed) 3 false) _).trans (if_pos rfl)
  refine ⟨(congrArg (bit · 0) hcell).trans ?_, (congrArg (bits · 2 1) hcell).trans ?_, (congrArg (bit · 3) hcell).trans ?_, rfl, rfl⟩
  · rw [bit_putBit _ _ _ (by decide), if_neg (by decide), bit, getLsbD_putBits _ _ _ _ (by decide) (by decide), if_neg (by decide)]
    exact (bit_putBit _ _ _ (by decide)).trans (if_pos rfl)
  · rw [bits_putBit_apart _ _ (by decide) (by decide), bits_putBits_same _ _ (by decide) (by decide)]
    exact Nat.mod_eq_of_lt hs
  · exact (bit_putBit _ _ _ (by decide)).trans (if_pos rfl)

theorem linkUp_half (speed : Nat) :
    Net.linkUp port speed true u = W.of (u.mod (rk Reg.ETH_STAT port 0) (fun w => putBit w 3 true)) := rfl

end

/-! ## Plant frames (R299) -/

/-- A plant frame counted on its port and its LAN, which is seen. -/
def Net.counted (lan : Nat) (now : Int) (u : Net) : Net :=
  let u := u.mod (rk Reg.ETH_RX_CNT (2 + lan) 0) (· + 1#32)
  let u := u.mod (if lan = 0 then Reg.PRP_CNT_A else Reg.PRP_CNT_B) (· + 1#32)
  let u := { u with lastA := if lan = 0 then some now else u.lastA, lastB := if lan = 0 then u.lastB else some now }
  u.mod Reg.PRP_LAN_STAT (fun w => putBit w lan true)

/-- A fragment counted as an error. -/
def Net.fragmented (frame : List Byte) (u : Net) : Net :=
  if isFragment frame then u.mod Reg.PRP_CNT_ERR (fun c => incSatField c 31 16) else u

/-- The frames remembered that came within the last 400 ms. -/
def Net.recent (now : Int) (u : Net) : List (Nat × Nat × Int) := u.seen.filter (fun x => decide (now - x.2.2 < 400000000))

/-- A frame whose trailer names the other LAN counted and recorded. -/
def Net.misrouted (lan : Nat) (w : W Net) : W Net :=
  ((w.map (fun u => u.mod Reg.PRP_CNT_ERR (fun c => incSatField c 15 0))).evt Pg.PRP 1).code Pg.PRP 0x1D61 [wd lan]

section
variable {feat : Bool} {lan : Nat} {now : Int} {frame : List Byte} {u v : Net} (hv : v = Net.counted lan now u)
include hv

theorem taken_single (h : v.prpOn feat = false) : Net.taken feat lan now frame u = W.of (Net.fragmented frame v) := by
  subst hv
  exact if_pos (show (!(Net.counted lan now u).prpOn feat) = true by rw [h]; rfl)

theorem taken_untrailed (h : v.prpOn feat = true) (hn : ¬ (beNat (sliceB frame (frame.length - 2) 2) = 0x88FB ∧ 20 ≤ frame.length)) :
    Net.taken feat lan now frame u = W.of (Net.fragmented frame v) := by
  subst hv
  exact (if_neg (show ¬ (!(Net.counted lan now u).prpOn feat) = true by rw [h]; decide)).trans (if_neg hn)

theorem taken_doubled (h : v.prpOn feat = true) (ht : beNat (sliceB frame (frame.length - 2) 2) = 0x88FB ∧ 20 ≤ frame.length) :
    Net.taken feat lan now frame u =
      if (Net.recent now v).any (fun x => x.1 == beNat (sliceB frame 6 6) && x.2.1 == beNat (sliceB frame (frame.length - 6) 2)) then
        ((W.of v).when (decide (beNat (sliceB frame (frame.length - 4) 2) / 4096 ≠ 10 + lan)) (Net.misrouted lan)).map
          (fun u => { u.mod Reg.PRP_CNT_DUP (· + 1#32) with seen := Net.recent now v })
      else
        ((W.of v).when (decide (beNat (sliceB frame (frame.length - 4) 2) / 4096 ≠ 10 + lan)) (Net.misrouted lan)).map
          (fun u => Net.fragmented frame
            { u with seen := (beNat (sliceB frame 6 6), beNat (sliceB frame (frame.length - 6) 2), now) :: Net.recent now v }) := by
  subst hv
  exact (if_neg (show ¬ (!(Net.counted lan now u).prpOn feat) = true by rw [h]; decide)).trans (if_pos ht)

omit hv in
/-- The cells that a fragment's or a misrouted frame's count leaves. -/
theorem rget_fragmented (frame : List Byte) (u : Net) {k : Nat} (hk : k ≠ Reg.PRP_CNT_ERR) :
    rget (Net.fragmented frame u).regs k = rget u.regs k ∧ (Net.fragmented frame u).seen = u.seen := by
  unfold Net.fragmented
  split
  · exact ⟨rget_mod_ne u _ hk, rfl⟩
  · exact ⟨rfl, rfl⟩

omit hv in
theorem misrouted_leaves (b : Bool) (v : Net) {k : Nat} (hk : k ≠ Reg.PRP_CNT_ERR) :
    rget ((W.of v).when b (Net.misrouted lan)).u.regs k = rget v.regs k ∧ ((W.of v).when b (Net.misrouted lan)).st = [] ∧
    ((W.of v).when b (Net.misrouted lan)).fx.Plain := by
  cases b with
  | true => exact ⟨rget_mod_ne v (fun c => incSatField c 15 0) hk, rfl, plain_of_codes _ _ _ _⟩
  | false => exact ⟨rfl, rfl, plain_of_codes _ _ _ _⟩

/-- A plant frame taken: what is counted beside its errors and duplicates, and that it stores and delivers nothing. -/
theorem taken_leaves {k : Nat} (he : k ≠ Reg.PRP_CNT_ERR) (hd : k ≠ Reg.PRP_CNT_DUP) :
    rget (Net.taken feat lan now frame u).u.regs k = rget v.regs k ∧ (Net.taken feat lan now frame u).st = [] ∧
    (Net.taken feat lan now frame u).fx.Plain := by
  by_cases h : v.prpOn feat = true
  · by_cases ht : beNat (sliceB frame (frame.length - 2) 2) = 0x88FB ∧ 20 ≤ frame.length
    · obtain ⟨hcell, hst, hplain⟩ := misrouted_leaves (lan := lan) (decide (beNat (sliceB frame (frame.length - 4) 2) / 4096 ≠ 10 + lan)) v he
      rw [taken_doubled hv h ht]
      split
      · exact ⟨(rget_mod_ne _ (· + 1#32) hd).trans hcell, hst, hplain⟩
      · exact ⟨(rget_fragmented frame _ he).1.trans hcell, hst, hplain⟩
    · rw [taken_untrailed hv h ht]
      exact ⟨(rget_fragmented frame v he).1, rfl, plain_of_codes _ _ _ _⟩
  · rw [taken_single hv (Bool.not_eq_true _ ▸ h)]
    exact ⟨(rget_fragmented frame v he).1, rfl, plain_of_codes _ _ _ _⟩

end

theorem rxCount_ne (lan : Fin 2) : rk Reg.ETH_RX_CNT (2 + lan.val) 0 ≠ Reg.PRP_LAN_STAT := by
  revert lan
  decide

/-- What counting a plant frame leaves. -/
theorem counted_leaves (lan : Fin 2) (now : Int) (u : Net) {v : Net} (hv : v = Net.counted lan.val now u) :
    rget v.regs (rk Reg.ETH_RX_CNT (2 + lan.val) 0) = rget u.regs (rk Reg.ETH_RX_CNT (2 + lan.val) 0) + 1#32 ∧
    rget v.regs Reg.PRP_CNT_A = (if lan.val = 0 then rget u.regs Reg.PRP_CNT_A + 1#32 else rget u.regs Reg.PRP_CNT_A) ∧
    rget v.regs Reg.PRP_CNT_B = (if lan.val = 1 then rget u.regs Reg.PRP_CNT_B + 1#32 else rget u.regs Reg.PRP_CNT_B) ∧
    rbit v.regs Reg.PRP_LAN_STAT lan.val = true ∧ rget v.regs Reg.PRP_CNT_DUP = rget u.regs Reg.PRP_CNT_DUP ∧
    (∀ feat, v.prpOn feat = u.prpOn feat) ∧ v.seen = u.seen := by
  obtain ⟨m, hm⟩ : ∃ m, m = rmod (rmod u.regs (rk Reg.ETH_RX_CNT (2 + lan.val) 0) (· + 1#32))
    (if lan.val = 0 then Reg.PRP_CNT_A else Reg.PRP_CNT_B) (· + 1#32) := ⟨_, rfl⟩
  have hregs : v.regs = rmod m Reg.PRP_LAN_STAT (fun w => putBit w lan.val true) := by rw [hv, hm]; rfl
  have hother : ∀ k, k ≠ Reg.PRP_LAN_STAT → rget v.regs k = rget m k := fun k hk => by rw [hregs]; exact rget_rmod_ne _ _ hk
  have hcell : ∀ k, rget m k = (if k = (if lan.val = 0 then Reg.PRP_CNT_A else Reg.PRP_CNT_B) then
      (if k = rk Reg.ETH_RX_CNT (2 + lan.val) 0 then rget u.regs k + 1#32 else rget u.regs k) + 1#32
      else if k = rk Reg.ETH_RX_CNT (2 + lan.val) 0 then rget u.regs k + 1#32 else rget u.regs k) := fun k => by
    rw [hm, rget_counted, rget_counted]
  have hon : rget v.regs Reg.PRP_CTRL = rget u.regs Reg.PRP_CTRL := by
    rw [hother _ (by decide), hcell]
    obtain ⟨i, hi⟩ := lan
    have hc : i = 0 ∨ i = 1 := by omega
    rcases hc with rfl | rfl <;> rfl
  refine ⟨?_, ?_, ?_, ?_, ?_, fun feat => ?_, by rw [hv]; rfl⟩
  · rw [hother _ (rxCount_ne lan), hcell]
    obtain ⟨i, hi⟩ := lan
    have hc : i = 0 ∨ i = 1 := by omega
    rcases hc with rfl | rfl <;> rfl
  · rw [hother _ (by decide), hcell]
    obtain ⟨i, hi⟩ := lan
    have hc : i = 0 ∨ i = 1 := by omega
    rcases hc with rfl | rfl <;> rfl
  · rw [hother _ (by decide), hcell]
    obtain ⟨i, hi⟩ := lan
    have hc : i = 0 ∨ i = 1 := by omega
    rcases hc with rfl | rfl <;> rfl
  · rw [hregs]
    exact (rbit_putBit _ _ _ _ (by omega)).trans (if_pos rfl)
  · rw [hother _ (by decide), hcell]
    obtain ⟨i, hi⟩ := lan
    have hc : i = 0 ∨ i = 1 := by omega
    rcases hc with rfl | rfl <;> rfl
  · unfold Net.prpOn rbit
    rw [hon]

end Sys2Proof.Proofs
end

section
/-! Links, PRP and the plant interface, settled (R298–R301). -/

namespace Sys2Proof.Proofs

open Sys2Proof Sys2Proof.Machine

-- One proof after another: many at once wait for the kernel in threads of their own, which the check's memory limit does not hold.
set_option Elab.async false

/-! ## Duplicates and wrong LANs (R299) -/

section
variable {lan : Fin 2} {now : Int} {frame : List Byte} {u : Net} {feat : Bool}

theorem frame_taken {bs f : List Byte} (h : untagged bs = some f) (lan : Nat) : Net.frame feat lan now bs u = Net.taken feat lan now f u := by
  unfold Net.frame
  rw [h]

/-- Without PRP duplicates and the frames remembered stand. -/
theorem taken_off (h : u.prpOn feat = false) :
    rget (Net.taken feat lan.val now frame u).u.regs Reg.PRP_CNT_DUP = rget u.regs Reg.PRP_CNT_DUP ∧
    (Net.taken feat lan.val now frame u).u.seen = u.seen := by
  obtain ⟨v, hv⟩ : ∃ v, v = Net.counted lan.val now u := ⟨_, rfl⟩
  obtain ⟨-, -, -, -, hdup, hon, hseen⟩ := counted_leaves lan now u hv
  rw [taken_single hv ((hon _).trans h)]
  obtain ⟨hcell, hs⟩ := rget_fragmented frame v (k := Reg.PRP_CNT_DUP) (by decide)
  exact ⟨hcell.trans hdup, hs.trans hseen⟩

section
variable (h : u.prpOn feat = true) (ht : beNat (sliceB frame (frame.length - 2) 2) = 0x88FB ∧ 20 ≤ frame.length)
include h ht

/-- With PRP the first copy of a frame is remembered. -/
theorem taken_first
    (hnew : ∀ n, (beNat (sliceB frame 6 6), beNat (sliceB frame (frame.length - 6) 2), n) ∈ u.seen → 400000000 ≤ now - n) :
    (beNat (sliceB frame 6 6), beNat (sliceB frame (frame.length - 6) 2), now) ∈ (Net.taken feat lan.val now frame u).u.seen ∧
    rget (Net.taken feat lan.val now frame u).u.regs Reg.PRP_CNT_DUP = rget u.regs Reg.PRP_CNT_DUP := by
  obtain ⟨v, hv⟩ : ∃ v, v = Net.counted lan.val now u := ⟨_, rfl⟩
  obtain ⟨-, -, -, -, hdup, hon, hseen⟩ := counted_leaves lan now u hv
  obtain ⟨hcell, -, -⟩ := misrouted_leaves (lan := lan.val) (decide (beNat (sliceB frame (frame.length - 4) 2) / 4096 ≠ 10 + lan.val)) v
    (k := Reg.PRP_CNT_DUP) (by decide)
  have hnone : ¬ (Net.recent now v).any (fun x => x.1 == beNat (sliceB frame 6 6) && x.2.1 == beNat (sliceB frame (frame.length - 6) 2)) = true := by
    intro hany
    obtain ⟨⟨src, seq, n⟩, hx, heq⟩ := List.any_eq_true.mp hany
    obtain ⟨hmem, hlate⟩ := List.mem_filter.mp hx
    simp only [Bool.and_eq_true, beq_iff_eq] at heq
    obtain ⟨rfl, rfl⟩ := heq
    have := hnew n (hseen ▸ hmem)
    simp at hlate
    omega
  rw [taken_doubled hv ((hon _).trans h) ht, if_neg hnone]
  generalize (W.of v).when _ _ = w at *
  obtain ⟨hkeep, hs⟩ := rget_fragmented frame
    { w.u with seen := (beNat (sliceB frame 6 6), beNat (sliceB frame (frame.length - 6) 2), now) :: Net.recent now v } (k := Reg.PRP_CNT_DUP) (by decide)
  refine ⟨?_, hkeep.trans (hcell.trans hdup)⟩
  exact (congrArg (_ ∈ ·) hs).mpr List.mem_cons_self

/-- The second copy within 400 ms counts as a duplicate. -/
theorem taken_second {n : Int} (hold : (beNat (sliceB frame 6 6), beNat (sliceB frame (frame.length - 6) 2), n) ∈ u.seen)
    (hn : now - n < 400000000) :
    rget (Net.taken feat lan.val now frame u).u.regs Reg.PRP_CNT_DUP = rget u.regs Reg.PRP_CNT_DUP + 1#32 := by
  obtain ⟨v, hv⟩ : ∃ v, v = Net.counted lan.val now u := ⟨_, rfl⟩
  obtain ⟨-, -, -, -, hdup, hon, hseen⟩ := counted_leaves lan now u hv
  obtain ⟨hcell, -, -⟩ := misrouted_leaves (lan := lan.val) (decide (beNat (sliceB frame (frame.length - 4) 2) / 4096 ≠ 10 + lan.val)) v
    (k := Reg.PRP_CNT_DUP) (by decide)
  have hany : (Net.recent now v).any (fun x => x.1 == beNat (sliceB frame 6 6) && x.2.1 == beNat (sliceB frame (frame.length - 6) 2)) = true :=
    List.any_eq_true.mpr ⟨_, List.mem_filter.mpr ⟨hseen ▸ hold, decide_eq_true hn⟩, by simp⟩
  rw [taken_doubled hv ((hon _).trans h) ht, if_pos hany]
  generalize (W.of v).when _ _ = w at *
  exact (rget_mod_self w.u Reg.PRP_CNT_DUP (· + 1#32)).trans (by rw [hcell, hdup])

/-- A frame whose trailer names the other LAN is recorded. -/
theorem taken_misrouted (hid : beNat (sliceB frame (frame.length - 4) 2) / 4096 ≠ 10 + lan.val) :
    (Net.taken feat lan.val now frame u).fx.codes = [] ++ [⟨Pg.PRP, 0x1D61, [wd lan.val], false⟩] ∧
    (Pg.PRP, 1) ∈ (Net.taken feat lan.val now frame u).fx.evts := by
  obtain ⟨v, hv⟩ : ∃ v, v = Net.counted lan.val now u := ⟨_, rfl⟩
  obtain ⟨-, -, -, -, hdup, hon, hseen⟩ := counted_leaves lan now u hv
  rw [taken_doubled hv ((hon _).trans h) ht, decide_eq_true hid]
  split <;> exact ⟨rfl, List.mem_singleton_self _⟩

end
end

/-! ## Frames sent (R299, R300) -/

/-- A plant frame sent on ETH2 alone. -/
theorem send_single {u : Net} {feat : Bool} (frame : List Byte) (h : u.prpOn feat = false) :
    Net.send feat frame (W.of u) = (W.of (u.mod (rk Reg.ETH_TX_CNT 2 0) (· + 1#32))).emit (.eth 2 frame) :=
  if_neg (show ¬ u.prpOn feat = true by rw [h]; decide)

/-- A plant frame sent on both LANs. -/
theorem send_doubled {u : Net} {feat : Bool} (frame : List Byte) (h : u.prpOn feat = true) :
    Net.send feat frame (W.of u) = (((W.of ((({ u with seqOut := (u.seqOut + 1) % 65536 } : Net).mod (rk Reg.ETH_TX_CNT 2 0) (· + 1#32)).mod
      (rk Reg.ETH_TX_CNT 3 0) (· + 1#32))).emit (.eth 2 (frame ++ prpTrailer u.seqOut 0 (frame.length - 14 + 6)))).emit
      (.eth 3 (frame ++ prpTrailer u.seqOut 1 (frame.length - 14 + 6)))) :=
  if_pos h

/-! ## Sentences of datagrams (R301) -/

/-- The first of an initial segment of numbers that a test takes. -/
theorem find_upto {p : Nat → Bool} {n k : Nat} (hk : k < n) (h : p k = true) (hbefore : ∀ j, j < k → p j = false) :
    (upto n).find? p = some k := by
  rw [show upto n = List.range n from rfl, List.find?_range_eq_some]
  exact ⟨h, List.mem_range.mpr hk, fun j hj => by simp [hbefore j hj]⟩

section
variable {u : Net} {g group port : Nat} {stamp : Int} {data : List Byte}

theorem udpbc_header (h : (data.map (·.toNat)).take 6 ≠ [0x55, 0x64, 0x50, 0x62, 0x43, 0]) : Net.udpbc group port stamp data u = W.of u := by
  unfold Net.udpbc
  dsimp only
  split
  · exact if_neg (by simpa using h)
  · rfl

theorem udpbc_sentence {cs : List Nat} (hg : g < 8) (hon : rbit u.regs (rk Reg.PRP_MC_PORT 0 g) 31 = true)
    (hgroup : (rget u.regs (rk Reg.PRP_MC_GRP 0 g)).toNat = group) (hport : rfld u.regs (rk Reg.PRP_MC_PORT 0 g) 15 0 = port)
    (hfirst : ∀ h, h < g → rbit u.regs (rk Reg.PRP_MC_PORT 0 h) 31 = false)
    (hhead : (data.map (·.toNat)).take 6 = [0x55, 0x64, 0x50, 0x62, 0x43, 0])
    (hone : datagramSentences data.length ((data.map (·.toNat)).drop 6) = [cs]) :
    Net.udpbc group port stamp data u = Net.takeSentence g stamp (W.of u) cs := by
  have hfind : (upto 8).find? (fun g => rbit u.regs (rk Reg.PRP_MC_PORT 0 g) 31
      && (rget u.regs (rk Reg.PRP_MC_GRP 0 g)).toNat == group && rfld u.regs (rk Reg.PRP_MC_PORT 0 g) 15 0 == port) = some g :=
    find_upto hg (by simp [hon, hgroup, hport]) (fun h hh => by simp [hfirst h hh])
  unfold Net.udpbc
  dsimp only
  rw [hfind]
  dsimp only
  rw [if_pos (by simp [hhead]), List.length_map, hone]
  rfl

/-- Whether filter entry k takes a sentence of group entry g. -/
def Net.takesSentence (u : Net) (g : Nat) (cs : List Nat) (k : Nat) : Bool :=
  let c := rget u.regs (rk Reg.PRP_F_CFG 0 k)
  bit c 8 && bits c 11 9 == g && (match (readSentence cs).address with
    | some a => addressMatches a (rget u.regs (rk Reg.PRP_F_ADDR 0 k)) (bits c 7 0)
    | none => false)

/-- The values of a sentence's fields delivered as samples. -/
def Net.deliverField (k : Nat) (stamp : Int) (w : W Net) (f : Nat × FieldValue) : W Net :=
  match f.2.value with
  | some v => w.sample ⟨0x21, 256 * k + f.1, stamp, v⟩
  | none => w

theorem takeSentence_eq (w : W Net) (cs : List Nat) :
    Net.takeSentence g stamp w cs =
      match (if (cs.head? == some Ch.dollar || cs.head? == some Ch.bang) = true then (upto 32).find? (Net.takesSentence w.u g cs) else none) with
      | none => w
      | some k =>
        if !(readSentence cs).checkOk true then w.map (fun u => u.mod (rk Reg.PRP_F_STAT 0 k) (fun c => incSatField c 31 16))
        else
          ((fieldValues (fun _ => none) 0 (readSentence cs).fields).foldl (Net.deliverField k stamp)
            (w.map (fun u => { u with sentences := sset (fun _ => 0) u.sentences k (sget (fun _ => 0) u.sentences k + 1) }))).when
            (bit (rget w.u.regs (rk Reg.PRP_F_CFG 0 k)) 18)
            (·.push ⟨0x21, bits (rget w.u.regs (rk Reg.PRP_F_CFG 0 k)) 17 12, (charWords cs).map (fun x => (x, false))⟩) := rfl

theorem netDeliverFields_leaves {k : Nat} (l : List (Nat × FieldValue)) (w : W Net) :
    (l.foldl (Net.deliverField k stamp) w).u = w.u ∧ (l.foldl (Net.deliverField k stamp) w).st = w.st :=
  foldl_keeps (fun v : W Net => v.u = w.u ∧ v.st = w.st) (Net.deliverField k stamp) (fun v f hv => by
    unfold Net.deliverField
    split <;> exact hv) l w ⟨rfl, rfl⟩

theorem when_push (b : Bool) (p : Push) (w : W Net) : (w.when b (·.push p)).u = w.u ∧ (w.when b (·.push p)).st = w.st := by
  cases b <;> exact ⟨rfl, rfl⟩

theorem sentences_counted (u : Net) (k : Nat) :
    sget (fun _ => 0) (sset (fun _ => 0) u.sentences k (sget (fun _ => 0) u.sentences k + 1)) k = sget (fun _ => 0) u.sentences k + 1 :=
  sget_sset_self ..

/-- A sentence counts for the entry that takes it, or as that entry's failure. -/
theorem takeSentence_leaves {cs : List Nat} {k : Nat} (hstart : cs.head? = some Ch.dollar) (hk : k < 32) (htakes : Net.takesSentence u g cs k = true)
    (hfirst : ∀ j, j < k → rbit u.regs (rk Reg.PRP_F_CFG 0 j) 8 = false) :
    ((readSentence cs).checkOk true = true →
      sget (fun _ => 0) (Net.takeSentence g stamp (W.of u) cs).u.sentences k = sget (fun _ => 0) u.sentences k + 1 ∧
      (Net.takeSentence g stamp (W.of u) cs).u.regs = u.regs) ∧
    ((readSentence cs).checkOk true = false → (Net.takeSentence g stamp (W.of u) cs).u.sentences = u.sentences ∧
      rget (Net.takeSentence g stamp (W.of u) cs).u.regs (rk Reg.PRP_F_STAT 0 k) = incSatField (rget u.regs (rk Reg.PRP_F_STAT 0 k)) 31 16) ∧
    (Net.takeSentence g stamp (W.of u) cs).st = [] := by
  have hfind : (upto 32).find? (Net.takesSentence u g cs) = some k := find_upto hk htakes fun j hj => by
    have hoff : bit (rget u.regs (rk Reg.PRP_F_CFG 0 j)) 8 = false := hfirst j hj
    simp [Net.takesSentence, hoff]
  rw [takeSentence_eq, if_pos (by rw [hstart]; rfl), show (W.of u).u = u from rfl, hfind]
  dsimp only
  cases hok : (readSentence cs).checkOk true with
  | true =>
    rw [if_neg (by decide)]
    obtain ⟨hu, hst⟩ := netDeliverFields_leaves (k := k) (stamp := stamp) (fieldValues (fun _ => none) 0 (readSentence cs).fields)
      ((W.of u).map (fun u => { u with sentences := sset (fun _ => 0) u.sentences k (sget (fun _ => 0) u.sentences k + 1) }))
    generalize List.foldl (Net.deliverField k stamp) _ _ = w at *
    obtain ⟨hpu, hpst⟩ := when_push (bit (rget u.regs (rk Reg.PRP_F_CFG 0 k)) 18)
      ⟨0x21, bits (rget u.regs (rk Reg.PRP_F_CFG 0 k)) 17 12, (charWords cs).map (fun x => (x, false))⟩ w
    rw [hpu, hpst, hu, hst]
    exact ⟨fun _ => ⟨sentences_counted u k, rfl⟩, fun h => absurd h (by decide), rfl⟩
  | false =>
    rw [if_pos (by decide)]
    exact ⟨fun h => absurd h (by decide), fun _ => ⟨rfl, rget_mod_self u _ (fun c => incSatField c 31 16)⟩, rfl⟩

end

theorem rxCount_free (lan : Fin 2) :
    rk Reg.ETH_RX_CNT (2 + lan.val) 0 ≠ Reg.PRP_CNT_ERR ∧ rk Reg.ETH_RX_CNT (2 + lan.val) 0 ≠ Reg.PRP_CNT_DUP := by
  revert lan
  decide

/-- A plant frame that is taken: the network as PRP leaves it, and nothing else of the module. -/
theorem prpFrame_leaves {s : State} {bs f : List Byte} (hbs : untagged bs = some f) (feat : Bool) (lan : Fin 2) (now : Int) {t : State}
    (ht : t = s.onNet (Net.frame feat lan.val now bs)) :
    t.net = (Net.taken feat lan.val now f s.net).u ∧ t.shell = { s.shell with net := t.net } ∧ s.SameBytes t ∧
    (∀ l page code p, page ≠ Pg.SNAP ∧ page ≠ Pg.FLT → (Net.taken feat lan.val now f s.net).fx.codes = l ++ [⟨page, code, p, false⟩] →
      t.errCode page = code % 0x10000) ∧
    ∀ page k, k < 32 → (page, k) ∈ (Net.taken feat lan.val now f s.net).fx.evts → t.evtSet page k = true := by
  have hframe : Net.frame feat lan.val now bs s.net = Net.taken feat lan.val now f s.net := frame_taken hbs _
  obtain ⟨-, hst, hplain⟩ := taken_leaves (feat := feat) (frame := f) (u := s.net) (now := now) (lan := lan.val) rfl (k := Reg.PRP_CNT_A) (by decide) (by decide)
  rw [← hframe] at hst hplain
  obtain ⟨hshell, hbytes⟩ := onNet_frame hst
  subst ht
  refine ⟨(onNet_net ..).trans (congrArg W.u hframe), hshell, hbytes, fun l page code p hp hc => ?_, fun page k hk he => ?_⟩
  · exact errCode_network hp ((congrArg (fun w : W Net => w.fx.codes) hframe).trans hc) hplain
  · exact (plain_onNet hst hplain).2 page k hk ((congrArg (_ ∈ ·) (congrArg (fun w : W Net => w.fx.evts) hframe)).mpr he)

/-- Settles O28: links by what each leaves in its page, plant frames by their counts, duplicates and errors, what PRP sends by its frames and
datagrams by the sentence they bring. -/
theorem networkCommands : Obligations.NetworkCommands := by
  unfold Obligations.NetworkCommands
  refine ⟨?_, ?_, ?_, ?_, ?_, ?_, ?_, ?_, ?_, ?_⟩
  · intro a port s hp hlink
    obtain ⟨hzero, hcount, hst, hfx⟩ := linkDown_leaves (u := s.net) (port := port.val) hlink
    have hplain : (Net.linkDown port.val s.net).fx.Plain := by rw [hfx]; exact plain_of_codes _ _ _ _
    obtain ⟨hshell, hbytes⟩ := onNet_frame (s := s.at_ a) hst
    refine ⟨_, congrArg Host.Outcome.next (upOn_up (s := s.at_ a) _ hp), ?_, ?_, errCode_network (s := s.at_ a) (l := []) (ethPage port)
      (by exact congrArg Fx.codes hfx) hplain, (plain_onNet (s := s.at_ a) hst hplain).2 _ 0 (by decide) (by rw [at_net, hfx]; exact List.mem_singleton_self _),
      hshell, at_sameBytes hbytes⟩
    · rw [onNet_net]
      exact hzero
    · rw [onNet_net]
      exact hcount
  · intro a port speed s hp hs hlink
    obtain ⟨hup, hspeed, hhalf, hst, hfx⟩ := linkUp_leaves (u := s.net) (port := port.val) hs hlink
    have hplain : (Net.linkUp port.val speed false s.net).fx.Plain := by rw [hfx]; exact plain_of_codes _ _ _ _
    obtain ⟨hshell, hbytes⟩ := onNet_frame (s := s.at_ a) hst
    refine ⟨_, congrArg Host.Outcome.next (upOn_up (s := s.at_ a) _ hp), ?_, ?_, ?_, errCode_network (s := s.at_ a) (l := []) (ethPage port)
      (by exact congrArg Fx.codes hfx) hplain, (plain_onNet (s := s.at_ a) hst hplain).2 _ 0 (by decide) (by rw [at_net, hfx]; exact List.mem_singleton_self _),
      hshell, at_sameBytes hbytes⟩
    · rw [onNet_net]
      exact hup
    · rw [onNet_net]
      exact hspeed
    · rw [onNet_net]
      exact hhalf
  · intro a port speed s hp
    obtain ⟨hshell, hbytes⟩ := onNet_frame (s := s.at_ a) (f := Net.linkUp port.val speed true) rfl
    refine ⟨_, congrArg Host.Outcome.next (upOn_up (s := s.at_ a) _ hp), ?_, ?_, hshell, at_sameBytes hbytes⟩
    · rw [onNet_net, linkUp_half]
      exact (rbit_putBit _ _ _ _ (by decide)).trans (if_pos rfl)
    · rw [onNet_net, linkUp_half]
      exact (rbit_putBit _ _ _ _ (by decide)).trans (if_neg (by decide))
  · intro a lan bs f s hw hbs
    obtain ⟨v, hv⟩ : ∃ v, v = Net.counted lan.val (s.at_ a).tim.time s.net := ⟨_, rfl⟩
    obtain ⟨hrx, hA, hB, hlan, -, -, -⟩ := counted_leaves lan _ s.net hv
    obtain ⟨t, ht⟩ : ∃ t, t = (s.at_ a).onNet (Net.frame (s.feature 13) lan.val (s.at_ a).tim.time bs) := ⟨_, rfl⟩
    obtain ⟨hnet, hshell, hbytes, hcode, hevt⟩ := prpFrame_leaves hbs _ lan _ ht
    have hkeep : ∀ k, k ≠ Reg.PRP_CNT_ERR → k ≠ Reg.PRP_CNT_DUP → rget t.net.regs k = rget v.regs k := fun k he hd => by
      rw [hnet]
      exact (taken_leaves hv he hd).1
    refine ⟨t, congrArg Host.Outcome.next ((workOn_works (s := s.at_ a) _ hw).trans ht.symm), ?_⟩
    refine ⟨(hkeep _ (rxCount_free lan).1 (rxCount_free lan).2).trans hrx, (hkeep _ (by decide) (by decide)).trans hA,
      (hkeep _ (by decide) (by decide)).trans hB, (congrArg (bit · lan.val) (hkeep _ (by decide) (by decide))).trans hlan, fun hoff => ?_,
      fun hon hlen htrail hnew => ?_, fun n hon hlen htrail hold hn => ?_, fun hon hlen htrail hid => ?_, hshell, at_sameBytes hbytes⟩
    · rw [hnet]
      exact taken_off hoff
    · rw [hnet]
      exact taken_first hon ⟨htrail, hlen⟩ hnew
    · rw [hnet]
      exact taken_second hon ⟨htrail, hlen⟩ hold hn
    · obtain ⟨hcodes, hflag⟩ := taken_misrouted (lan := lan) (now := (s.at_ a).tim.time) hon ⟨htrail, hlen⟩ hid
      exact ⟨hcode _ _ _ _ (by decide) hcodes, hevt _ 1 (by decide) hflag⟩
  · intro a lan bs s hw hbs
    have hframe : Net.frame (s.feature 13) lan.val (s.at_ a).tim.time bs s.net =
        W.of (s.net.mod (rk Reg.ETH_ERR_CNT (2 + lan.val) 0) (fun c => incSatField c 31 16)) := by
      unfold Net.frame
      rw [hbs]
    obtain ⟨hshell, hbytes⟩ := onNet_frame (s := s.at_ a) (f := Net.frame (s.feature 13) lan.val (s.at_ a).tim.time bs) (by rw [at_net, hframe]; rfl)
    have hnet : ((s.at_ a).onNet (Net.frame (s.feature 13) lan.val (s.at_ a).tim.time bs)).net = _ := (onNet_net ..).trans (congrArg W.u hframe)
    exact ⟨_, congrArg Host.Outcome.next (workOn_works (s := s.at_ a) _ hw), (congrArg (fun n : Net => rget n.regs _) hnet).trans (rget_mod_self s.net _ (fun c => incSatField c 31 16)),
      (congrArg Net.seen hnet).trans rfl, hshell, at_sameBytes hbytes⟩
  · intro a s hw hon hctl
    obtain ⟨f, hf⟩ : ∃ f, f = beBytes 6 0x01154E000100 ++ beBytes 6 (s.net.mac 2) ++ beBytes 2 0x88FB ++ (beBytes 2 1 ++ beBytes 2 s.net.seqOut ++
      beBytes 1 20 ++ beBytes 1 6 ++ beBytes 6 (s.net.mac 2) ++ beBytes 2 0) := ⟨_, rfl⟩
    have hsend : Net.supervise (s.feature 13) s.net = _ :=
      (show _ = Net.send (s.feature 13) f (W.of s.net) by rw [hf]; exact if_pos (by rw [hon, hctl]; rfl)).trans (send_doubled f hon)
    have hplain : (Net.supervise (s.feature 13) s.net).fx.Plain := by rw [hsend]; exact plain_of_codes _ _ _ _
    have hst : (Net.supervise (s.feature 13) s.net).st = [] := by rw [hsend]; rfl
    obtain ⟨hshell, hbytes⟩ := onNet_frame (s := s.at_ a) hst
    have hout := (plain_onNet (s := s.at_ a) hst hplain).1
    have hemits : (Net.supervise (s.feature 13) s.net).fx.emits = [.eth 2 (f ++ prpTrailer s.net.seqOut 0 (f.length - 14 + 6)),
      .eth 3 (f ++ prpTrailer s.net.seqOut 1 (f.length - 14 + 6))] := by rw [hsend]; rfl
    have hnet : ((s.at_ a).onNet (Net.supervise (s.feature 13))).net = _ := (onNet_net ..).trans (congrArg W.u hsend)
    refine ⟨(s.at_ a).onNet (Net.supervise (s.feature 13)), congrArg Host.Outcome.next (workOn_works (s := s.at_ a) _ hw), ⟨f, by rw [hf]; rfl, ?_, ?_⟩, ?_, ?_, ?_, hshell, at_sameBytes hbytes⟩
    · rw [hout, at_net, hemits]
      simp
    · rw [hout, at_net, hemits]
      simp
    · exact (congrArg Net.seqOut hnet).trans rfl
    · refine (congrArg (fun n : Net => rget n.regs _) hnet).trans ((rget_mod_ne _ (· + 1#32) (by decide)).trans ?_)
      exact rget_mod_self _ _ (· + 1#32)
    · refine (congrArg (fun n : Net => rget n.regs _) hnet).trans ((rget_mod_self _ _ (· + 1#32)).trans ?_)
      exact congrArg (· + 1#32) (rget_mod_ne _ (· + 1#32) (by decide))
  · intro a lan s hw hseen hold
    have hsilent : (match (if lan.val = 0 then s.net.lastA else s.net.lastB) with
        | some t => decide (6000000000 ≤ (s.at_ a).tim.time - t) | none => true) = true := by
      split
      · next t ht => exact decide_eq_true (hold t ht)
      · rfl
    have hloss : Net.lanLoss lan.val (s.at_ a).tim.time s.net =
        ((W.of (s.net.mod Reg.PRP_LAN_STAT (fun w => putBit w lan.val false))).evt Pg.PRP 0).code Pg.PRP 0x1D60 [wd lan.val] := by
      unfold Net.lanLoss
      dsimp only
      exact if_pos (Bool.and_eq_true_iff.mpr ⟨hsilent, hseen⟩)
    have hplain : (Net.lanLoss lan.val (s.at_ a).tim.time s.net).fx.Plain := by rw [hloss]; exact plain_of_codes _ _ _ _
    have hst : (Net.lanLoss lan.val (s.at_ a).tim.time s.net).st = [] := by rw [hloss]; rfl
    obtain ⟨hshell, hbytes⟩ := onNet_frame (s := s.at_ a) hst
    have hnet : ((s.at_ a).onNet (Net.lanLoss lan.val (s.at_ a).tim.time)).net = _ := (onNet_net ..).trans (congrArg W.u hloss)
    exact ⟨_, congrArg Host.Outcome.next (workOn_works (s := s.at_ a) _ hw),
      (congrArg (fun n : Net => rbit n.regs _ _) hnet).trans ((rbit_putBit _ _ _ _ (by omega)).trans (if_pos rfl)),
      errCode_network (s := s.at_ a) (l := []) (by decide) (congrArg (fun w : W Net => w.fx.codes) hloss) hplain,
      (plain_onNet (s := s.at_ a) hst hplain).2 _ 0 (by decide) ((congrArg (_ ∈ ·) (congrArg (fun w : W Net => w.fx.evts) hloss)).mpr (List.mem_singleton_self _)),
      hshell, at_sameBytes hbytes⟩
  · intro a bs f s hw hbs hip hty hop htarget hoff
    have hanswer : Net.answer (s.feature 13) bs s.net = Net.send (s.feature 13) (sliceB f 6 6 ++ beBytes 6 (s.net.mac 2) ++ sliceB f 12 8 ++
        beBytes 2 2 ++ beBytes 6 (s.net.mac 2) ++ beBytes 4 (rget s.net.regs Reg.PRP_IP).toNat ++ sliceB f 22 10) (W.of s.net) := by
      have hne : (rget s.net.regs Reg.PRP_IP).toNat ≠ 0 := fun h => hip (BitVec.eq_of_toNat_eq h)
      unfold Net.answer
      dsimp only
      rw [hbs, if_neg hne]
      exact if_pos ⟨hty, hop, htarget⟩
    have hsend := hanswer.trans (send_single _ hoff)
    have hplain : (Net.answer (s.feature 13) bs s.net).fx.Plain := by rw [hsend]; exact plain_of_codes _ _ _ _
    have hst : (Net.answer (s.feature 13) bs s.net).st = [] := by rw [hsend]; rfl
    obtain ⟨hshell, hbytes⟩ := onNet_frame (s := s.at_ a) hst
    have hnet : ((s.at_ a).onNet (Net.answer (s.feature 13) bs)).net = _ := (onNet_net ..).trans (congrArg W.u hsend)
    refine ⟨(s.at_ a).onNet (Net.answer (s.feature 13) bs), congrArg Host.Outcome.next (workOn_works (s := s.at_ a) _ hw), ?_,
      (congrArg (fun n : Net => rget n.regs _) hnet).trans (rget_mod_self s.net _ (· + 1#32)), hshell, at_sameBytes hbytes⟩
    rw [(plain_onNet (s := s.at_ a) hst hplain).1, at_net, hsend]
    exact List.mem_cons_self
  · intro a g group port k data cs name s hw hg hon hgroup hport hfirst hhead hone hstart haddr hk hcfg hsel hmatch hbefore
    have he : Net.udpbc group port (s.at_ a).tim.time data s.net = Net.takeSentence g (s.at_ a).tim.time (W.of s.net) cs :=
      udpbc_sentence hg hon hgroup hport hfirst hhead hone
    have htakes : Net.takesSentence s.net g cs k = true := by
      unfold Net.takesSentence
      dsimp only
      rw [haddr, show bit (rget s.net.regs (rk Reg.PRP_F_CFG 0 k)) 8 = true from hcfg,
        show bits (rget s.net.regs (rk Reg.PRP_F_CFG 0 k)) 11 9 = g from hsel]
      rw [beq_self_eq_true]
      exact hmatch
    obtain ⟨hgood, hbad, hst⟩ := takeSentence_leaves (stamp := (s.at_ a).tim.time) hstart hk htakes hbefore
    obtain ⟨hshell, hbytes⟩ := onNet_frame (s := s.at_ a) (f := Net.udpbc group port (s.at_ a).tim.time data) (by rw [at_net, he]; exact hst)
    have hnet : ((s.at_ a).onNet (Net.udpbc group port (s.at_ a).tim.time data)).net = _ := (onNet_net ..).trans (congrArg W.u he)
    refine ⟨_, congrArg Host.Outcome.next (workOn_works (s := s.at_ a) _ hw), ?_, ?_, hshell, at_sameBytes hbytes⟩
    · rw [hnet]
      exact hgood
    · rw [hnet]
      exact hbad
  · intro a group port data s hw hhead
    have he : Net.udpbc group port (s.at_ a).tim.time data s.net = W.of s.net := udpbc_header hhead
    have hc : (s.at_ a).onNet (Net.udpbc group port (s.at_ a).tim.time data) = (s.at_ a).commit Fx.none [] :=
      (congrArg (fun w : W Net => ({ s.at_ a with net := w.u } : State).commit w.fx w.st) he).trans rfl
    refine ⟨_, congrArg Host.Outcome.next ((workOn_works (s := s.at_ a) _ hw).trans hc), shell_commit .., plain_flt _ (plain_of_codes _ _ _ _) _, ?_⟩
    exact at_sameBytes fun b => bytes_commit ..

end Sys2Proof.Proofs
end

section
/-! SUPPORT. TIM at work (R288–R293): what its registers show, the selection of a source, the step that waits and the comparators, each by
what it leaves of the unit. -/

namespace Sys2Proof.Proofs

open Sys2Proof Sys2Proof.Machine

-- One proof after another: many at once wait for the kernel in threads of their own, which the check's memory limit does not hold.
set_option Elab.async false

/-! ## The registers that show TIM's state (R305) -/

theorem rget_rset64_ne (m : RMap) {kl kh k : Nat} (v : Int) (hl : k ≠ kl) (hh : k ≠ kh) : rget (rset64 m kl kh v) k = rget m k := by
  unfold rset64
  rw [rget_rset, if_neg hh, rget_rset, if_neg hl]

theorem rget_rset64 (m : RMap) {kl kh : Nat} (v : Int) (h : kl ≠ kh) :
    rget (rset64 m kl kh v) kl = lo32 v ∧ rget (rset64 m kl kh v) kh = hi32 v := by
  unfold rset64
  rw [rget_rset, if_neg h, rget_rset, if_pos rfl, rget_rset, if_pos rfl]
  exact ⟨rfl, rfl⟩

/-- The cells that show TIM's state, beside TIM_STAT. -/
def timShown : List Nat :=
  [Reg.TIM_RATE, Reg.TIM_FREQ, Reg.TIM_OFFSET_L, Reg.TIM_OFFSET_H, Reg.TIM_ANCHOR_L, Reg.TIM_ANCHOR_H]

/-- The bits of TIM_STAT that show TIM's state. -/
def timShownBit (i : Nat) : Bool := i == 3 || i == 4 || i == 5 || (decide (8 ≤ i) && decide (i ≤ 11))

/-- A Tim's registers shown anew: the other cells and the other bits of TIM_STAT stand. -/
theorem timRefresh_leaves (u : Tim) :
    ∃ m, u.refresh = { u with regs := m } ∧ (∀ k, k ∉ timShown → k ≠ Reg.TIM_STAT → rget m k = rget u.regs k) ∧
      ∀ i, i < 32 → timShownBit i = false → rbit m Reg.TIM_STAT i = rbit u.regs Reg.TIM_STAT i := by
  refine ⟨_, rfl, fun k hk hs => ?_, fun i hi hb => ?_⟩
  · simp only [timShown, List.mem_cons, List.not_mem_nil, or_false, not_or] at hk
    obtain ⟨h1, h2, h3, h4, h5, h6⟩ := hk
    rw [rget_rset64_ne _ _ h5 h6, rget_rset64_ne _ _ h3 h4, rget_rsets_of_ne _ _ _ (fun p hp => ?_), rget_rmod_ne _ _ hs]
    simp only [List.mem_cons, List.not_mem_nil, or_false] at hp
    rcases hp with rfl | rfl
    · exact fun h => h1 h.symm
    · exact fun h => h2 h.symm
  · unfold rbit
    rw [rget_rset64_ne _ _ (by decide) (by decide), rget_rset64_ne _ _ (by decide) (by decide), rget_rsets_of_ne _ _ _ (fun p hp => ?_), rget_rmod,
      if_pos rfl]
    · simp only [timShownBit, Bool.or_eq_false_iff, beq_eq_false_iff_ne, Bool.and_eq_false_iff, decide_eq_false_iff_not] at hb
      obtain ⟨⟨⟨h3, h4⟩, h5⟩, h8⟩ := hb
      rw [bit, getLsbD_putBits _ _ _ _ (by decide) hi, if_neg (by omega), ← bit, bit_putBit _ _ _ hi, if_neg h5, bit_putBit _ _ _ hi, if_neg h4,
        bit_putBit _ _ _ hi, if_neg h3]
    · simp only [List.mem_cons, List.not_mem_nil, or_false] at hp
      rcases hp with rfl | rfl
      · exact (by decide : Reg.TIM_RATE ≠ Reg.TIM_STAT)
      · exact (by decide : Reg.TIM_FREQ ≠ Reg.TIM_STAT)

theorem selected_of_bits {u v : Tim} (h : ∀ i, i < 2 → rbit v.regs Reg.TIM_STAT i = rbit u.regs Reg.TIM_STAT i) : v.selected = u.selected :=
  bits_congr fun i _ h2 => h i (by omega)

theorem refresh_selected (u : Tim) : u.refresh.selected = u.selected := by
  obtain ⟨m, hm, -, hbits⟩ := timRefresh_leaves u
  rw [hm]
  refine selected_of_bits fun i hi => hbits i (by omega) ?_
  have hc : i = 0 ∨ i = 1 := by omega
  rcases hc with rfl | rfl <;> rfl

/-! ## Time (R288) -/

theorem time_setRate (u : Tim) (f l : Int) : (u.setRate f l).time = u.time := by
  have hraw : (u.setRate f l).raw = u.raw := rfl
  unfold Tim.time
  rw [hraw]
  simp only [Tim.setRate, Int.sub_self, Int.zero_mul, Int.zero_fdiv, Int.add_zero]
  omega

/-! ## The source selected (R290) -/

theorem choose_lt (u : Tim) : u.choose < 4 := by
  have hp : u.primary < 4 := by unfold Tim.primary rfld; exact bits_lt (n := 2) (by decide)
  have ha : u.alternate < 4 := by unfold Tim.alternate rfld; exact bits_lt (n := 2) (by decide)
  have h : ∀ (b c : Bool) (p q : Nat), p < 4 → q < 4 → (if b = true then p else if c = true then q else 0) < 4 := fun b c p q h1 h2 => by
    cases b
    · cases c
      · exact (by decide : 0 < 4)
      · exact h2
    · exact h1
  exact h _ _ _ _ hp ha

/-- Another source shown in TIM_STAT. -/
def Tim.shows (c : Nat) (w : W Tim) : W Tim :=
  ((w.map (fun u => u.mod Reg.TIM_STAT (fun x => putBits x 1 0 c))).evt Pg.TIM 0).code Pg.TIM 0x0D10 [wd c]

/-- HOLDOVER begun or ended. -/
def Tim.holdover (b : Bool) (code : Nat) (w : W Tim) : W Tim :=
  ((w.map (fun u => u.mod Reg.TIM_STAT (fun x => putBit x 2 b))).evt Pg.TIM 1).code Pg.TIM code []

section
variable {w : W Tim}

theorem reselect_kept (h : w.u.choose = w.u.selected) : Tim.reselect w = w.map Tim.refresh := if_pos h

theorem reselect_none (h : w.u.choose = 0) (hs : w.u.selected ≠ 0) :
    Tim.reselect w = (((Tim.shows 0 w).map (fun u => u.setRate u.freq 0)).when w.u.isSet (Tim.holdover true 0x1D11)).map Tim.refresh := by
  unfold Tim.reselect
  dsimp only
  rw [if_neg (by rw [h]; exact hs.symm), h]
  rfl

theorem reselect_other (h : w.u.choose ≠ 0) (hs : w.u.choose ≠ w.u.selected) :
    Tim.reselect w = ((Tim.shows w.u.choose w).when (rbit w.u.regs Reg.TIM_STAT 2) (Tim.holdover false 0x0D12)).map Tim.refresh := by
  unfold Tim.reselect
  dsimp only
  rw [if_neg hs, if_neg h]
  rfl

/-- What a selection leaves of TIM beside its registers and its rate. -/
structure Tim.SameSources (u v : Tim) : Prop where
  valid   : v.valid = u.valid
  pend    : v.pend = u.pend
  pps     : v.ppsLast = u.ppsLast
  ofsLast : rget v.regs Reg.TIM_OFS_LAST = rget u.regs Reg.TIM_OFS_LAST

theorem Tim.SameSources.trans {u v x : Tim} (h : Tim.SameSources u v) (k : Tim.SameSources v x) : Tim.SameSources u x :=
  ⟨k.valid.trans h.valid, k.pend.trans h.pend, k.pps.trans h.pps, k.ofsLast.trans h.ofsLast⟩

theorem Tim.SameSources.refresh {u v : Tim} (h : Tim.SameSources u v) : Tim.SameSources u v.refresh := by
  obtain ⟨m, hm, hcell, -⟩ := timRefresh_leaves v
  rw [hm]
  exact ⟨h.valid, h.pend, h.pps, (hcell _ (by decide) (by decide)).trans h.ofsLast⟩

theorem Tim.SameSources.stat {u v : Tim} (h : Tim.SameSources u v) (f : Word → Word) : Tim.SameSources u (v.mod Reg.TIM_STAT f) :=
  ⟨h.valid, h.pend, h.pps, (rget_rmod_ne _ f (by decide)).trans h.ofsLast⟩

/-- Work of TIM that goes on from w, storing and delivering no more than w. -/
structure Tim.Still (w v : W Tim) : Prop where
  st    : v.st = w.st
  plain : w.fx.Plain → v.fx.Plain

theorem Tim.Still.shows (w : W Tim) (c : Nat) : Tim.Still w (Tim.shows c w) :=
  ⟨rfl, fun h => ⟨h.reads, h.samples, h.pushes, h.triggers, h.heals⟩⟩

theorem Tim.Still.holdover {v : W Tim} (h : Tim.Still w v) (b c : Bool) (code : Nat) : Tim.Still w (v.when c (Tim.holdover b code)) := by
  cases c with
  | true => exact ⟨h.st, fun hp => ⟨(h.plain hp).reads, (h.plain hp).samples, (h.plain hp).pushes, (h.plain hp).triggers, (h.plain hp).heals⟩⟩
  | false => exact h

theorem Tim.Still.map {v : W Tim} (h : Tim.Still w v) (f : Tim → Tim) : Tim.Still w (v.map f) := ⟨h.st, h.plain⟩

theorem sameSources_shows (w : W Tim) (c : Nat) : Tim.SameSources w.u (Tim.shows c w).u :=
  Tim.SameSources.stat ⟨rfl, rfl, rfl, rfl⟩ _

theorem Tim.SameSources.holdover {u : Tim} {v : W Tim} (h : Tim.SameSources u v.u) (b c : Bool) (code : Nat) :
    Tim.SameSources u (v.when c (Tim.holdover b code)).u := by
  cases c with
  | true => exact h.stat _
  | false => exact h

theorem selected_shows {c : Nat} (hc : c < 4) (w : W Tim) : (Tim.shows c w).u.selected = c := by
  have hcell : rget (Tim.shows c w).u.regs Reg.TIM_STAT = putBits (rget w.u.regs Reg.TIM_STAT) 1 0 c :=
    (rget_rmod _ _ (fun x => putBits x 1 0 c) _).trans (if_pos rfl)
  unfold Tim.selected rfld
  rw [hcell, bits_putBits_same _ _ (by decide) (by decide)]
  exact Nat.mod_eq_of_lt hc

theorem selected_holdover (b c : Bool) (code : Nat) (v : W Tim) : (v.when c (Tim.holdover b code)).u.selected = v.u.selected := by
  cases c with
  | true => exact selected_of_bits fun i hi => (rbit_putBit _ _ _ _ (by omega)).trans (if_neg (by omega))
  | false => rfl

theorem holdover_flag (b : Bool) (code : Nat) (v : W Tim) : rbit (Tim.holdover b code v).u.regs Reg.TIM_STAT 2 = b :=
  (rbit_putBit _ _ _ _ (by decide)).trans (if_pos rfl)

/-- A selection shows the source chosen and leaves the rest of the sources. -/
theorem reselect_leaves (w : W Tim) :
    (Tim.reselect w).u.selected = w.u.choose ∧ Tim.SameSources w.u (Tim.reselect w).u ∧ Tim.Still w (Tim.reselect w) := by
  have hshown := selected_shows (choose_lt w.u) w
  by_cases hk : w.u.choose = w.u.selected
  · rw [reselect_kept hk]
    exact ⟨(refresh_selected _).trans hk.symm, Tim.SameSources.refresh ⟨rfl, rfl, rfl, rfl⟩, ⟨rfl, id⟩⟩
  · by_cases h0 : w.u.choose = 0
    · have hrate : ((Tim.shows 0 w).map (fun u => u.setRate u.freq 0)).u.selected = (Tim.shows 0 w).u.selected := rfl
      have hsources : Tim.SameSources w.u ((Tim.shows 0 w).map (fun u => u.setRate u.freq 0)).u := by
        obtain ⟨h1, h2, h3, h4⟩ := sameSources_shows w 0
        exact ⟨h1, h2, h3, h4⟩
      have hstill : Tim.Still w ((Tim.shows 0 w).map (fun u => u.setRate u.freq 0)) := (Tim.Still.shows w 0).map _
      rw [h0] at hshown
      rw [reselect_none h0 (fun h => hk (h0.trans h.symm))]
      generalize (Tim.shows 0 w).map (fun u => u.setRate u.freq 0) = v at *
      exact ⟨(refresh_selected _).trans ((selected_holdover _ _ _ v).trans (hrate.trans (hshown.trans h0.symm))),
        (hsources.holdover _ _ _).refresh, (hstill.holdover _ _ _).map _⟩
    · have hsources := sameSources_shows w w.u.choose
      have hstill := Tim.Still.shows w w.u.choose
      rw [reselect_other h0 hk]
      generalize Tim.shows w.u.choose w = v at *
      exact ⟨(refresh_selected _).trans ((selected_holdover _ _ _ v).trans hshown), (hsources.holdover _ _ _).refresh, (hstill.holdover _ _ _).map _⟩

/-- With no source left HOLDOVER is set, once a source has set the time. -/
theorem reselect_holdover (h : w.u.choose = 0) (hs : w.u.selected ≠ 0) (hset : w.u.isSet = true) :
    rbit (Tim.reselect w).u.regs Reg.TIM_STAT 2 = true ∧
    ∃ l, (Tim.reselect w).fx.codes = l ++ [⟨Pg.TIM, 0x1D11, [], false⟩] := by
  rw [reselect_none h hs, hset]
  obtain ⟨v, hv⟩ : ∃ v, v = (Tim.shows 0 w).map (fun u => u.setRate u.freq 0) := ⟨_, rfl⟩
  rw [← hv]
  have hflag : rbit (v.when true (Tim.holdover true 0x1D11)).u.regs Reg.TIM_STAT 2 = true := holdover_flag true 0x1D11 v
  obtain ⟨m, hm, -, hbits⟩ := timRefresh_leaves (v.when true (Tim.holdover true 0x1D11)).u
  refine ⟨?_, v.fx.codes, rfl⟩
  show rbit (v.when true (Tim.holdover true 0x1D11)).u.refresh.regs Reg.TIM_STAT 2 = true
  rw [hm]
  exact (hbits 2 (by decide) rfl).trans hflag

end

/-! ## The step that waits (R292) -/

/-- TIM_TM_STAT with LATE set in the comparators of a list. -/
def lateMarks (ns : List Nat) (m : RMap) : RMap := ns.foldl (fun m n => rmod m (rk Reg.TIM_TM_STAT 0 n) (fun x => putBit x 1 true)) m

theorem rget_lateMarks (ns : List Nat) (m : RMap) {k : Nat} (hk : k % 0x400 ≠ Reg.TIM_TM_STAT % 0x400) : rget (lateMarks ns m) k = rget m k :=
  foldl_keeps (fun x : RMap => rget x k = rget m k) _ (fun x _ h => (rget_rmod_ne x _ (ne_of_offset hk)).trans h) ns _ rfl

/-- Comparators stepped over: their late marks alone. -/
theorem lateAll_leaves (ns : List Nat) (w : W Tim) :
    (Tim.lateAll ns w).u = { w.u with regs := lateMarks ns w.u.regs } ∧ Tim.Still w (Tim.lateAll ns w) := by
  refine foldl_keeps (fun v : W Tim => v.u = { w.u with regs := lateMarks ns w.u.regs } ∧ Tim.Still w v)
    (fun (w : W Tim) (n : Nat) => (w.evt Pg.TIM 3).code Pg.TIM 0x1D15 [wd n]) (fun v _ h => ?_) ns
    (w.map (fun u => { u with regs := lateMarks ns u.regs })) ⟨rfl, rfl, id⟩
  obtain ⟨hu, hs⟩ := h
  exact ⟨hu, hs.st, fun hp => ⟨(hs.plain hp).reads, (hs.plain hp).samples, (hs.plain hp).pushes, (hs.plain hp).triggers, (hs.plain hp).heals⟩⟩

theorem rget_lateAll (ns : List Nat) (w : W Tim) {k : Nat} (hk : k % 0x400 ≠ Reg.TIM_TM_STAT % 0x400) :
    rget (Tim.lateAll ns w).u.regs k = rget w.u.regs k := by
  rw [(lateAll_leaves ns w).1]
  exact rget_lateMarks ns _ hk

theorem rget_incWrapField (m : RMap) (k : Nat) : rget (rmod m k (fun w => incWrapField w 15 0)) k = incWrapField (rget m k) 15 0 :=
  (rget_rmod _ _ (fun w => incWrapField w 15 0) _).trans (if_pos rfl)

/-- A step made: module time moves by its whole microseconds, a new epoch begins, and it waits no longer. -/
theorem step_leaves (fno : Word) (e : Int) (u : Tim) :
    (u.step fno e).2 = stepAmount e ∧ (u.step fno e).1.u.time = u.time + stepAmount e ∧ (u.step fno e).1.u.pend = none ∧
    rfld (u.step fno e).1.u.regs Reg.TIM_EPOCH 15 0 = (rfld u.regs Reg.TIM_EPOCH 15 0 + 1) % 65536 ∧
    rget (u.step fno e).1.u.regs Reg.TIM_STEP_FNO = fno ∧ (u.step fno e).1.st = [] ∧
    (u.step fno e).1.u.ppsLast = u.ppsLast ∧ (u.step fno e).1.u.valid = u.valid := by
  obtain ⟨u1, hu1⟩ : ∃ u1 : Tim, u1 = { u with offset := u.offset + stepAmount e, pend := none, confirms := 0, lastE := none } := ⟨_, rfl⟩
  obtain ⟨u2, hu2⟩ : ∃ u2, u2 = u1.setRate u1.freq (u1.slewFor (e + stepAmount e)) := ⟨_, rfl⟩
  obtain ⟨m, hm⟩ : ∃ m, m = rset64 (rmod (rmod (rset (rmod u2.regs Reg.TIM_STAT (fun x => putBit x 6 true)) Reg.TIM_STEP_FNO fno)
    Reg.TIM_STEP_CNT incW) Reg.TIM_EPOCH (fun w => incWrapField w 15 0)) Reg.TIM_STEP_L Reg.TIM_STEP_H (stepAmount e) := ⟨_, rfl⟩
  obtain ⟨u3, hu3⟩ : ∃ u3 : Tim, u3 = { u2 with regs := m } := ⟨_, rfl⟩
  obtain ⟨w, hw⟩ : ∃ w, w = ((W.of u3.refresh).evt Pg.TIM 2).codeRec Pg.TIM 0x1D13 [lo32 (stepAmount e), hi32 (stepAmount e)] := ⟨_, rfl⟩
  have hstep : u.step fno e = (Tim.lateAll (u3.overdue.filter (fun n => !u.overdue.contains n)) w, stepAmount e) := by
    rw [hw, hu3, hm, hu2, hu1]
    rfl
  have htime1 : u1.time = u.time + stepAmount e := by
    rw [hu1]
    unfold Tim.time Tim.raw
    dsimp only
    omega
  have htime2 : u2.time = u1.time := by rw [hu2]; exact time_setRate ..
  have hregs2 : u2.regs = u.regs := by rw [hu2, hu1]; rfl
  obtain ⟨m3, hm3, hcell, -⟩ := timRefresh_leaves u3
  have hwu : w.u = { u3 with regs := m3 } := by rw [hw]; exact hm3
  obtain ⟨hm4, hstill⟩ := lateAll_leaves (u3.overdue.filter (fun n => !u.overdue.contains n)) w
  have hkeep : ∀ k, k % 0x400 ≠ Reg.TIM_TM_STAT % 0x400 → k ∉ timShown → k ≠ Reg.TIM_STAT →
      rget (Tim.lateAll (u3.overdue.filter (fun n => !u.overdue.contains n)) w).u.regs k = rget m k := fun k h1 h2 h3 => by
    rw [rget_lateAll _ _ h1, hwu]
    exact (hcell k h2 h3).trans (by rw [hu3])
  rw [hstep]
  refine ⟨rfl, ?_, ?_, ?_, ?_, ?_, ?_, ?_⟩
  · rw [hm4, hwu, ← htime1, ← htime2, hu3]
    rfl
  · rw [hm4, hwu, hu3, hu2, hu1]
    rfl
  · unfold rfld
    rw [hkeep _ (by decide) (by decide) (by decide), hm, rget_rset64_ne _ _ (by decide) (by decide), rget_incWrapField,
      rget_rmod_ne _ _ (by decide), rget_rset, if_neg (by decide), rget_rmod_ne _ _ (by decide), hregs2]
    exact bits_putBits_same _ _ (by decide) (by decide)
  · rw [hkeep _ (by decide) (by decide) (by decide), hm, rget_rset64_ne _ _ (by decide) (by decide), rget_rmod_ne _ _ (by decide),
      rget_rmod_ne _ _ (by decide), rget_rset, if_pos rfl]
  · rw [hstill.st, hw]
    rfl
  · rw [hm4, hwu, hu3, hu2, hu1]
    rfl
  · rw [hm4, hwu, hu3, hu2, hu1]
    rfl

end Sys2Proof.Proofs
end

section
/-! SUPPORT. Comparators (R293): which are armed after some fire, what their actions leave of the module, and module time and the bytes of memory
beside them. -/

namespace Sys2Proof.Proofs

open Sys2Proof Sys2Proof.Machine

-- One proof after another: many at once wait for the kernel in threads of their own, which the check's memory limit does not hold.
set_option Elab.async false

/-! ## Firing -/

/-- What firing leaves of TIM: everything but the comparators armed, their status and the pulse. -/
structure Tim.SameClock (u v : Tim) : Prop where
  time   : v.time = u.time
  pend   : v.pend = u.pend
  pps    : v.ppsLast = u.ppsLast
  valid  : v.valid = u.valid
  cells  : ∀ k, k % 0x400 ≠ Reg.TIM_TM_STAT % 0x400 → rget v.regs k = rget u.regs k

theorem Tim.SameClock.refl (u : Tim) : Tim.SameClock u u := ⟨rfl, rfl, rfl, rfl, fun _ _ => rfl⟩

theorem Tim.SameClock.trans {u v x : Tim} (h : Tim.SameClock u v) (k : Tim.SameClock v x) : Tim.SameClock u x :=
  ⟨k.time.trans h.time, k.pend.trans h.pend, k.pps.trans h.pps, k.valid.trans h.valid, fun j hj => (k.cells j hj).trans (h.cells j hj)⟩

/-- TIM_TM_STAT of a comparator that fires: counted, and disarmed without a period. -/
def firedStatus (u : Tim) (n : Nat) (x : Word) : Word :=
  incWrapField (putBit x 0 (decide ((rget u.regs (rk Reg.TIM_TM_PER 0 n)).toNat ≠ 0))) 31 16

theorem fireOne_regs (u : Tim) (n : Nat) : (u.fireOne n).regs = rmod u.regs (rk Reg.TIM_TM_STAT 0 n) (firedStatus u n) := rfl

theorem sameClock_fireOne (u : Tim) (n : Nat) : Tim.SameClock u (u.fireOne n) :=
  ⟨rfl, rfl, rfl, rfl, fun _ hk => by rw [fireOne_regs]; exact rget_rmod_ne _ _ (ne_of_offset hk)⟩

theorem sameClock_fires (ns : List Nat) (u : Tim) : Tim.SameClock u (ns.foldl Tim.fireOne u) :=
  foldl_keeps (Tim.SameClock u) Tim.fireOne (fun v n h => h.trans (sameClock_fireOne v n)) ns u (.refl u)

/-- A firing beside its pulse: the comparators fired one after another. -/
theorem fire_leaves (ns : List Nat) (u : Tim) :
    (u.fire ns).1.armed = (ns.foldl Tim.fireOne u).armed ∧ (u.fire ns).1.regs = (ns.foldl Tim.fireOne u).regs ∧ Tim.SameClock u (u.fire ns).1 := by
  have hclock := sameClock_fires ns u
  have hpulse : ∀ v : Tim, Tim.SameClock v v.pulse := fun v => ⟨rfl, rfl, rfl, rfl, fun _ _ => rfl⟩
  have hcases : (u.fire ns).1 = (ns.foldl Tim.fireOne u).pulse ∨ (u.fire ns).1 = ns.foldl Tim.fireOne u := by
    unfold Tim.fire
    dsimp only
    split
    · exact Or.inl rfl
    · exact Or.inr rfl
  generalize ns.foldl Tim.fireOne u = v at *
  rcases hcases with h | h <;> rw [h]
  · exact ⟨rfl, rfl, hclock.trans (hpulse v)⟩
  · exact ⟨rfl, rfl, hclock⟩

section
variable {u : Tim} {n : Nat}

/-- TIM_TM_STAT after one firing. -/
theorem rbit_fireOne (u : Tim) (m n i : Nat) (hi : i < 16) :
    rbit (u.fireOne m).regs (rk Reg.TIM_TM_STAT 0 n) i =
      if n = m ∧ i = 0 then decide ((rget u.regs (rk Reg.TIM_TM_PER 0 m)).toNat ≠ 0) else rbit u.regs (rk Reg.TIM_TM_STAT 0 n) i := by
  by_cases h : n = m
  · subst h
    unfold rbit
    rw [fireOne_regs, rget_rmod, if_pos rfl, firedStatus, incWrapField, bit, getLsbD_putBits _ _ _ _ (by decide) (by omega), if_neg (by omega), ← bit, bit_putBit _ _ _ (by omega)]
    simp
  · rw [if_neg (fun hh => h hh.1)]
    rw [fireOne_regs]
    exact rbit_rmod_ne _ _ _ (rk_word_ne h)

/-- A comparator that has fired without a period is armed no more. -/
theorem fires_disarm (ns : List Nat) (u : Tim) {n : Nat} (hn : n ∈ ns) (hper : rget u.regs (rk Reg.TIM_TM_PER 0 n) = 0#32) :
    rbit (ns.foldl Tim.fireOne u).regs (rk Reg.TIM_TM_STAT 0 n) 0 = false ∧ ∀ c, c ∈ (ns.foldl Tim.fireOne u).armed → c.1 ≠ n := by
  have hzero : ∀ v : Tim, rget v.regs (rk Reg.TIM_TM_PER 0 n) = 0#32 →
      rbit (v.fireOne n).regs (rk Reg.TIM_TM_STAT 0 n) 0 = false ∧ ∀ c, c ∈ (v.fireOne n).armed → c.1 ≠ n := fun v hv => by
    refine ⟨?_, fun c hc => ?_⟩
    · rw [rbit_fireOne _ _ _ _ (by decide), if_pos ⟨rfl, rfl⟩, hv]
      rfl
    · have hc' : c ∈ v.armed.filter (fun c => c.1 != n) := by
        have harm : (v.fireOne n).armed = _ := if_pos (show (rget v.regs (rk Reg.TIM_TM_PER 0 n)).toNat = 0 by rw [hv]; rfl)
        exact harm ▸ hc
      simpa using (List.mem_filter.mp hc').2
  have hperoff : Reg.TIM_TM_PER % 0x400 ≠ Reg.TIM_TM_STAT % 0x400 := by decide
  have hpercell : ∀ v w : Tim, Tim.SameClock v w → rget w.regs (rk Reg.TIM_TM_PER 0 n) = rget v.regs (rk Reg.TIM_TM_PER 0 n) := fun v w h =>
    h.cells _ (by rw [rk_offset]; exact hperoff)
  obtain ⟨a, b, rfl⟩ := List.append_of_mem hn
  rw [List.foldl_append, List.foldl_cons]
  have hfirst := hzero _ ((hpercell _ _ (sameClock_fires a u)).trans hper)
  have hper' := (hpercell _ _ ((sameClock_fires a u).trans (sameClock_fireOne _ n))).trans hper
  generalize Tim.fireOne (List.foldl Tim.fireOne u a) n = v at *
  refine (foldl_keeps (fun w : Tim => rget w.regs (rk Reg.TIM_TM_PER 0 n) = 0#32 ∧ rbit w.regs (rk Reg.TIM_TM_STAT 0 n) 0 = false ∧
    ∀ c, c ∈ w.armed → c.1 ≠ n) Tim.fireOne (fun w m h => ?_) b v ⟨hper', hfirst⟩).2
  obtain ⟨hp, hst, harm⟩ := h
  by_cases hm : m = n
  · subst hm
    exact ⟨(hpercell _ _ (sameClock_fireOne w m)).trans hp, hzero w hp⟩
  · refine ⟨(hpercell _ _ (sameClock_fireOne w m)).trans hp, ?_, fun c hc => ?_⟩
    · rw [rbit_fireOne _ _ _ _ (by decide), if_neg (fun hh => hm hh.1.symm)]
      exact hst
    · by_cases hz : (rget w.regs (rk Reg.TIM_TM_PER 0 m)).toNat = 0
      · have harmed : (w.fireOne m).armed = _ := if_pos hz
        exact harm c (List.mem_filter.mp (harmed ▸ hc)).1
      · have harmed : (w.fireOne m).armed = _ := if_neg hz
        obtain ⟨d, hd, rfl⟩ := List.mem_map.mp (harmed ▸ hc)
        split
        · exact hm
        · exact harm d hd

/-- A comparator that has not fired stays armed. -/
theorem fires_keep (ns : List Nat) (u : Tim) {c : Nat × Int} (hc : c ∈ u.armed) (hn : c.1 ∉ ns) : c ∈ (ns.foldl Tim.fireOne u).armed := by
  induction ns generalizing u with
  | nil => exact hc
  | cons m ns ih =>
    have hm : c.1 ≠ m := fun h => hn (h ▸ List.mem_cons_self)
    refine ih (u.fireOne m) ?_ (fun h => hn (List.mem_cons_of_mem _ h))
    by_cases hz : (rget u.regs (rk Reg.TIM_TM_PER 0 m)).toNat = 0
    · have harmed : (u.fireOne m).armed = _ := if_pos hz
      rw [harmed]
      exact List.mem_filter.mpr ⟨hc, by simpa using hm⟩
    · have harmed : (u.fireOne m).armed = _ := if_neg hz
      rw [harmed]
      exact List.mem_map.mpr ⟨c, hc, if_neg hm⟩

end

/-! ## Actions (R293) -/

/-- What the actions of comparators leave of the module: TIM but for its pulse, the fathom in progress, and every byte. -/
structure Acted (s t : State) : Prop where
  tim   : t.tim = { s.tim with trigOut := t.tim.trigOut }
  seq   : t.seq = s.seq
  bytes : s.SameBytes t

theorem Acted.refl (s : State) : Acted s s := ⟨rfl, rfl, fun _ => rfl⟩

theorem Acted.trans {s t v : State} (h : Acted s t) (k : Acted t v) : Acted s v :=
  ⟨by rw [k.tim, h.tim], k.seq.trans h.seq, fun b => (k.bytes b).trans (h.bytes b)⟩

theorem acted_of {s t : State} (ht : t.tim = s.tim) (hs : t.seq = s.seq) (hb : s.SameBytes t) : Acted s t := ⟨by rw [ht], hs, hb⟩

theorem Acted.clock {s t : State} (h : Acted s t) : Tim.SameClock s.tim t.tim ∧ t.tim.armed = s.tim.armed ∧ t.tim.regs = s.tim.regs := by
  obtain ⟨htim, -, -⟩ := h
  rw [htim]
  exact ⟨⟨rfl, rfl, rfl, rfl, fun _ _ => rfl⟩, rfl, rfl⟩

theorem snapStart_st (now : Int) (epoch : Nat) (u : Gns) : (Gns.snapStart now epoch u).st = [] := by
  cases hb : u.snapBusy with
  | false =>
    rw [snapStart_idle hb]
    rfl
  | true =>
    have hbusy : ∀ same : Bool, (if same = true then W.of u
        else ((W.of (u.mod Reg.GNSC_SNAP_STAT (fun x => putBit x 7 true))).evt Pg.GNSC 6).code Pg.GNSC 0x1650 []).st = [] := fun same => by
      cases same <;> rfl
    unfold Gns.snapStart
    rw [if_pos hb]
    exact hbusy _

theorem acted_matchActions (lines : BitVec 24) (l : List (Nat × Nat)) (s : State) : Acted s (s.matchActions lines l) := by
  unfold State.matchActions
  refine foldl_keeps (Acted s) _ (fun t a h => h.trans ?_) l s (.refl s)
  split
  · split
    · exact .refl t
    · exact ⟨rfl, rfl, fun _ => rfl⟩
  · split
    · split
      · exact acted_of (onGns_tim ..) (onGns_seq ..) fun b => (byte_onGns _ t b).trans (by rw [snapStart_st]; rfl)
      · exact .refl t
    · split
      · split
        · exact acted_of (onPos_tim ..) (onPos_seq ..) fun b => (byte_onPos _ t b).trans (by rw [request_quiet.2.1]; rfl)
        · exact .refl t
      · split
        · split
          · exact acted_of rfl rfl fun _ => rfl
          · exact .refl t
        · exact .refl t

theorem acted_matchSnaps (ns : List Nat) (s : State) : Acted s (s.matchSnaps ns) :=
  acted_of (commit_tim ..) (commit_seq ..) fun b => bytes_commit _ _ s b

/-- Every comparator whose target has been reached fires, and the rest of TIM stands. -/
theorem matchFire_leaves (lines : BitVec 24) (s : State) :
    (s.matchFire lines).tim.armed = (s.tim.overdue.foldl Tim.fireOne s.tim).armed ∧
    (s.matchFire lines).tim.regs = (s.tim.overdue.foldl Tim.fireOne s.tim).regs ∧ Tim.SameClock s.tim (s.matchFire lines).tim ∧
    (s.matchFire lines).seq = s.seq ∧ s.SameBytes (s.matchFire lines) := by
  obtain ⟨harm, hregs, hclock⟩ := fire_leaves s.tim.overdue s.tim
  obtain ⟨z, hz⟩ : ∃ z : State, z = { s with tim := (s.tim.fire s.tim.overdue).1 } := ⟨_, rfl⟩
  have hfire : s.matchFire lines = (z.matchActions lines (s.tim.fire s.tim.overdue).2).matchSnaps s.tim.overdue := by rw [hz]; rfl
  have hacted : Acted z (s.matchFire lines) := by
    rw [hfire]
    exact (acted_matchActions ..).trans (acted_matchSnaps ..)
  obtain ⟨kclock, karm, kregs⟩ := hacted.clock
  have htim : z.tim = (s.tim.fire s.tim.overdue).1 := by rw [hz]
  rw [htim] at kclock karm kregs
  exact ⟨karm.trans harm, kregs.trans hregs, hclock.trans kclock, hacted.seq.trans (by rw [hz]), fun b => (hacted.bytes b).trans (by rw [hz])⟩

/-- The step that waits, made. -/
theorem makeStep_leaves (lines : BitVec 24) {s : State} {p : PendingStep} (h : s.tim.pend = some p) :
    (s.makeStep lines).tim.time = s.tim.time + stepAmount p.e ∧ (s.makeStep lines).tim.pend = none ∧
    (s.makeStep lines).seq.startUs = s.seq.startUs + Int.fdiv (stepAmount p.e) 1000 ∧
    rfld (s.makeStep lines).tim.regs Reg.TIM_EPOCH 15 0 = (rfld s.tim.regs Reg.TIM_EPOCH 15 0 + 1) % 65536 ∧
    rget (s.makeStep lines).tim.regs Reg.TIM_STEP_FNO = wd s.seq.count ∧ (s.makeStep lines).tim.ppsLast = s.tim.ppsLast ∧
    (s.makeStep lines).tim.valid = s.tim.valid ∧ s.SameBytes (s.makeStep lines) := by
  obtain ⟨hamount, htime, hpend, hepoch, hfno, hst, hpps, hvalid⟩ := step_leaves s.fno p.e s.tim
  obtain ⟨x, hx⟩ : ∃ x, x = s.tim.step s.fno p.e := ⟨_, rfl⟩
  rw [← hx] at hamount htime hpend hepoch hfno hst hpps hvalid
  obtain ⟨y, hy⟩ : ∃ y, y = s.onTim (fun _ => x.1) := ⟨_, rfl⟩
  have htim : y.tim = x.1.u := by rw [hy]; exact onTim_tim _ _
  have hseq : y.seq = s.seq := by rw [hy]; exact onTim_seq _ _
  have hbytes : s.SameBytes y := fun b => by rw [hy]; exact (byte_onTim _ s b).trans (by rw [hst]; rfl)
  obtain ⟨z, hz⟩ : ∃ z : State, z = { y with
    flt := y.flt.shift x.2
    gns := y.gns.step
    sup := { y.sup with reqUs := y.sup.reqUs + Int.fdiv x.2 1000 }
    seq := { y.seq with startUs := y.seq.startUs + Int.fdiv x.2 1000 } } := ⟨_, rfl⟩
  have hmake : s.makeStep lines = z.matchFire lines := by
    unfold State.makeStep
    rw [h, hz, hy, hx]
  have hztim : z.tim = x.1.u := by rw [hz]; exact htim
  obtain ⟨-, -, hclock, kseq, kbytes⟩ := matchFire_leaves lines z
  rw [hztim] at hclock
  rw [hmake]
  refine ⟨hclock.time.trans htime, hclock.pend.trans hpend, ?_, ?_, (hclock.cells _ (by decide)).trans hfno, hclock.pps.trans hpps,
    hclock.valid.trans hvalid, fun b => (kbytes b).trans ((by rw [hz] : z.mem.byte b = y.mem.byte b).trans (hbytes b))⟩
  · rw [kseq, hz]
    show y.seq.startUs + _ = _
    rw [hseq, hamount]
  · exact (congrArg (bits · 15 0) (hclock.cells _ (by decide))).trans hepoch

/-- An offset handed to TIM while no step waits after it. -/
theorem steer_still {f : Tim → W Tim} {s : State} (h : (f s.tim).u.pend = none) : s.steer f = s.onTim f := by
  unfold State.steer
  dsimp only
  rw [onTim_tim, h, if_pos (by simp)]

/-- An offset handed to TIM: its source and the instant of its edge stand, whatever step is made. -/
theorem steer_leaves (f : Tim → W Tim) (s : State) (hst : (f s.tim).st = []) :
    (s.steer f).tim.ppsLast = (f s.tim).u.ppsLast ∧ (s.steer f).tim.valid = (f s.tim).u.valid ∧ s.SameBytes (s.steer f) := by
  have htim : (s.onTim f).tim = (f s.tim).u := onTim_tim _ _
  have hbytes : s.SameBytes (s.onTim f) := fun b => (byte_onTim _ s b).trans (by rw [hst]; rfl)
  unfold State.steer
  dsimp only
  generalize s.onTim f = y at *
  split
  · rw [htim]
    exact ⟨rfl, rfl, hbytes⟩
  · next hn =>
    obtain ⟨p, hp⟩ : ∃ p, y.tim.pend = some p := by
      cases hq : y.tim.pend with
      | none => exact absurd (by simp [hq]) hn
      | some p => exact ⟨p, rfl⟩
    obtain ⟨-, -, -, -, -, hpps, hvalid, hb⟩ := makeStep_leaves (s := y.fresh.2) (y.fresh.1.setWidth 24) (p := p) hp
    have hfresh : y.fresh.2.tim = y.tim := rfl
    rw [hfresh, htim] at hpps hvalid
    exact ⟨hpps, hvalid, fun b => (hb b).trans (hbytes b)⟩

end Sys2Proof.Proofs
end

section
/-! Sources of module time, steps, comparators and triggers, settled (R290–R293). -/

namespace Sys2Proof.Proofs

open Sys2Proof Sys2Proof.Machine

-- One proof after another: many at once wait for the kernel in threads of their own, which the check's memory limit does not hold.
set_option Elab.async false

/-! ## TIM's work in the module -/

/-- TIM's work leaves the rest of the module and, storing nothing, every byte. -/
theorem onTim_frame {s : State} {f : Tim → W Tim} (hst : (f s.tim).st = []) :
    (s.onTim f).shell = { s.shell with tim := (s.onTim f).tim } ∧ s.SameBytes (s.onTim f) :=
  ⟨by rw [shell_onTim, onTim_tim], fun b => (byte_onTim _ s b).trans (by rw [hst]; rfl)⟩

theorem errCode_clock {s : State} {f : Tim → W Tim} {l : List Code} {code : Nat} {p : List Word}
    (hc : (f s.tim).fx.codes = l ++ [⟨Pg.TIM, code, p, false⟩]) (h : (f s.tim).fx.Plain) : (s.onTim f).errCode Pg.TIM = code % 0x10000 :=
  errCode_commit_delivers (l := l) (c := ⟨Pg.TIM, code, p, false⟩) (f s.tim).st { s with tim := (f s.tim).u } hc
    (by decide : Pg.TIM ≠ Pg.SNAP) (by decide : Pg.TIM ≠ Pg.FLT) h.pushes h.triggers

/-! ## Edges on PPS IN (R290) -/

/-- The distance of an instant from the nearest whole second. -/
def secondOffset (t : Int) : Int :=
  if 500000000 < Int.fmod t 1000000000 then Int.fmod t 1000000000 - 1000000000 else Int.fmod t 1000000000

section
variable {u : Tim}

theorem ppsEdge_valid {p : Int} (hp : u.ppsLast = some p) (h : (u.time - p - 1000000000).natAbs ≤ 100000) :
    u.ppsEdge = ({ u with ppsLast := some u.time } : Tim).offsetFrom 3 (secondOffset u.time) none 0 false := by
  unfold Tim.ppsEdge
  dsimp only
  rw [hp]
  exact if_pos (decide_eq_true h)

theorem ppsEdge_invalid (h : ∀ p, u.ppsLast = some p → 100000 < (u.time - p - 1000000000).natAbs) :
    u.ppsEdge = ({ u with ppsLast := some u.time } : Tim).lapse 3 := by
  unfold Tim.ppsEdge
  dsimp only
  cases hp : u.ppsLast with
  | none => rfl
  | some p => exact if_neg (by simpa using h p hp)

theorem mem_setValid (u : Tim) (c : Nat) : c ∈ (u.setValid c true).valid := by
  unfold Tim.setValid
  dsimp only
  rw [if_pos rfl]
  split
  · next h => simpa using h
  · exact List.mem_cons_self

/-- The last offsets noted, and the one of TIM_OFS_LAST. -/
def Tim.notes (e : Int) (u : Tim) : Tim := { u with offsets := (e :: u.offsets).take 4, regs := rset u.regs Reg.TIM_OFS_LAST (satW e) }

theorem notes_ofsLast (e : Int) (u : Tim) : rget (Tim.notes e u).regs Reg.TIM_OFS_LAST = satW e := (rget_rset ..).trans (if_pos rfl)

/-- An offset steered by: which sources are valid and the last edge stand. -/
structure Tim.Steered (u v : Tim) : Prop where
  valid   : v.valid = u.valid
  pps     : v.ppsLast = u.ppsLast
  ofsLast : rget v.regs Reg.TIM_OFS_LAST = rget u.regs Reg.TIM_OFS_LAST

theorem Tim.Steered.refresh {u v : Tim} (h : Tim.Steered u v) : Tim.Steered u v.refresh := by
  obtain ⟨m, hm, hcell, -⟩ := timRefresh_leaves v
  rw [hm]
  exact ⟨h.valid, h.pps, (hcell _ (by decide) (by decide)).trans h.ofsLast⟩

theorem slewBy_leaves (e : Int) (w : W Tim) :
    Tim.Steered w.u (Tim.slewBy e w).u ∧ (Tim.slewBy e w).st = w.st ∧ (w.u.pend = none → (Tim.slewBy e w).u.pend = none) := by
  have hlast : ∀ v : Tim, ∀ f l : Int, ∀ n o, Tim.Steered v
      { (v.setRate f l).mod Reg.TIM_STAT (fun x => putBit x 6 true) with
        confirms := n
        lastE := o } := fun v f l n o => ⟨rfl, rfl, rget_rmod_ne v.regs (fun x => putBit x 6 true) (by decide)⟩
  unfold Tim.slewBy
  dsimp only
  cases hp : w.u.pend with
  | none => exact ⟨hlast w.u _ _ _ _, rfl, fun _ => hp⟩
  | some p =>
    refine ⟨?_, rfl, fun h => by simp at h⟩
    obtain ⟨h1, h2, h3⟩ := hlast { w.u with pend := none } (match w.u.lastE with
      | some l => freqLimit (Config.freqServo w.u.freq w.u.slew l.2 e (({ w.u with pend := none } : Tim).time - l.1) ({ w.u with pend := none } : Tim).tc)
      | none => w.u.freq) (({ w.u with pend := none } : Tim).slewFor e) 0 (some (({ w.u with pend := none } : Tim).time, e))
    exact ⟨h1, h2, h3⟩

theorem offsetConfirm_leaves (src : Nat) (e : Int) (seq : Option Nat) (tc : Int) (done : Bool) (w : W Tim) :
    Tim.Steered w.u (Tim.confirm src e seq tc done w).u ∧ (Tim.confirm src e seq tc done w).st = w.st := by
  unfold Tim.confirm
  dsimp only
  split
  · exact ⟨⟨rfl, rfl, rfl⟩, rfl⟩
  · generalize (done || decide (max 1 (rfld _ Reg.TIM_SERVO 19 16) ≤ _)) = b
    cases b <;> exact ⟨⟨rfl, rfl, rfl⟩, rfl⟩

/-- An offset of a source: the source is valid, and the offset is shown when the source is the one selected. -/
theorem offsetFrom_leaves (src : Nat) (e : Int) (seq : Option Nat) (tc : Int) (done : Bool) (u : Tim) {v : W Tim}
    (hv : v = u.offsetFrom src e seq tc done) :
    v.st = [] ∧ v.u.valid = (u.setValid src true).valid ∧ v.u.ppsLast = u.ppsLast ∧
    ((u.setValid src true).choose = src → e.natAbs ≤ 1000000 → rget v.u.regs Reg.TIM_OFS_LAST = satW e) ∧
    (e.natAbs ≤ 1000000 → u.pend = none → v.u.pend = none) := by
  obtain ⟨hsel, hsame, hstill⟩ := reselect_leaves (W.of (u.setValid src true))
  obtain ⟨w, hw⟩ : ∃ w, w = Tim.reselect (W.of (u.setValid src true)) := ⟨_, rfl⟩
  rw [← hw] at hsel hsame hstill
  have hst : w.st = [] := hstill.st
  have hvalid : w.u.valid = (u.setValid src true).valid := hsame.valid
  have hpps : w.u.ppsLast = u.ppsLast := hsame.pps
  have hpend : w.u.pend = u.pend := hsame.pend
  have hform : u.offsetFrom src e seq tc done = if w.u.selected = src then
      (if e.natAbs ≤ 1000000 then Tim.slewBy e (w.map (Tim.notes e)) else Tim.confirm src e seq tc done (w.map (Tim.notes e))).map Tim.refresh
      else w := by rw [hw]; rfl
  rw [hv, hform]
  have hnotes : (w.map (Tim.notes e)).u = Tim.notes e w.u := rfl
  have hnst : (w.map (Tim.notes e)).st = w.st := rfl
  generalize w.map (Tim.notes e) = x at *
  by_cases hs : w.u.selected = src
  · rw [if_pos hs]
    by_cases hsmall : e.natAbs ≤ 1000000
    · rw [if_pos hsmall]
      obtain ⟨hsteer, kst, kpend⟩ := slewBy_leaves e x
      have hr := hsteer.refresh
      refine ⟨(show _ = (Tim.slewBy e x).st from rfl).trans (kst.trans (hnst.trans hst)), hr.valid.trans (by rw [hnotes]; exact hvalid),
        hr.pps.trans (by rw [hnotes]; exact hpps), fun _ _ => hr.ofsLast.trans (by rw [hnotes]; exact notes_ofsLast ..), fun _ hn => ?_⟩
      obtain ⟨m, hm, -, -⟩ := timRefresh_leaves (Tim.slewBy e x).u
      show (Tim.slewBy e x).u.refresh.pend = none
      rw [hm]
      exact kpend (by rw [hnotes]; exact hpend.trans hn)
    · rw [if_neg hsmall]
      obtain ⟨hsteer, kst⟩ := offsetConfirm_leaves src e seq tc done x
      have hr := hsteer.refresh
      exact ⟨(show _ = (Tim.confirm src e seq tc done x).st from rfl).trans (kst.trans (hnst.trans hst)),
        hr.valid.trans (by rw [hnotes]; exact hvalid), hr.pps.trans (by rw [hnotes]; exact hpps), fun _ h => absurd h hsmall, fun h => absurd h hsmall⟩
  · rw [if_neg hs]
    exact ⟨hst, hvalid, hpps, fun hc => absurd (hsel.trans hc) hs, fun _ hn => hpend.trans hn⟩

end

/-! ## Comparators armed (R293) -/

section
variable {u : Tim} {n : Nat} {v : Word}

/-- A comparator's target. -/
def timTarget (u : Tim) (n : Nat) : Int := ((rget64 u.regs (rk Reg.TIM_TM_L 0 n) (rk Reg.TIM_TM_H 0 n) : Nat) : Int)

/-- TIM with TIM_TM_CFG of a comparator written. -/
def timConfigured (u : Tim) (n : Nat) (v : Word) : Tim := { u with regs := rset u.regs (rk Reg.TIM_TM_CFG 0 n) v }

theorem target_configured : timTarget (timConfigured u n v) n = timTarget u n := by
  have h : ∀ r, r % 0x400 ≠ Reg.TIM_TM_CFG % 0x400 → rget (timConfigured u n v).regs (rk r 0 n) = rget u.regs (rk r 0 n) := fun r hr =>
    (rget_rset ..).trans (if_neg (rk_ne _ hr))
  unfold timTarget rget64
  rw [h _ (by decide), h _ (by decide)]

/-- TIM with a comparator armed on a target. -/
def timAimed (u : Tim) (n : Nat) (target : Int) : Tim :=
  { u with
    armed := (n, target) :: u.armed.filter (fun c => c.1 != n)
    regs := rmod u.regs (rk Reg.TIM_TM_STAT 0 n) (fun x => putBit (putBit x 0 true) 1 false) }

theorem aimed_status (u : Tim) (n : Nat) (target : Int) :
    rbit (timAimed u n target).regs (rk Reg.TIM_TM_STAT 0 n) 0 = true ∧ rbit (timAimed u n target).regs (rk Reg.TIM_TM_STAT 0 n) 1 = false := by
  have hcell : rget (timAimed u n target).regs (rk Reg.TIM_TM_STAT 0 n) = putBit (putBit (rget u.regs (rk Reg.TIM_TM_STAT 0 n)) 0 true) 1 false :=
    (rget_rmod _ _ (fun x => putBit (putBit x 0 true) 1 false) _).trans (if_pos rfl)
  unfold rbit
  rw [hcell, bit_putBit _ _ _ (by decide), bit_putBit _ _ _ (by decide), bit_putBit _ _ _ (by decide)]
  exact ⟨rfl, rfl⟩

theorem matchArm_off (h : bit v 0 = false) :
    u.matchArm n v = (W.of { timConfigured u n v with
      armed := u.armed.filter (fun c => c.1 != n)
      regs := rmod (timConfigured u n v).regs (rk Reg.TIM_TM_STAT 0 n) (fun x => putBit x 0 false) }, []) :=
  if_neg (by rw [h]; decide)

theorem matchArm_ahead (h : bit v 0 = true) (ht : u.time < timTarget u n) :
    u.matchArm n v = (W.of (timAimed (timConfigured u n v) n (timTarget u n)), []) := by
  have hlate : ¬ timTarget (timConfigured u n v) n ≤ (timConfigured u n v).time := by
    rw [target_configured]
    exact not_le.mpr ht
  refine (if_pos h).trans ((if_neg hlate).trans ?_)
  show (W.of (timAimed (timConfigured u n v) n (timTarget (timConfigured u n v) n)), []) = _
  rw [target_configured]

theorem matchArm_past (h : bit v 0 = true) (ht : timTarget u n ≤ u.time) {w : W Tim}
    (hw : w = Tim.lateAll [n] (W.of (timAimed (timConfigured u n v) n (timTarget u n)))) :
    u.matchArm n v = (w.map (fun _ => (w.u.fire [n]).1), (w.u.fire [n]).2) := by
  have hlate : timTarget (timConfigured u n v) n ≤ (timConfigured u n v).time := by
    rw [target_configured]
    exact ht
  rw [← target_configured (v := v)] at hw
  subst hw
  exact (if_pos h).trans ((if_pos hlate).trans rfl)

/-- What a write of TIM_TM_CFG makes of TIM. -/
theorem matchArm_leaves (u : Tim) (n : Nat) (v : Word) {x : W Tim × List (Nat × Nat)} (hx : x = u.matchArm n v) :
    x.1.st = [] ∧ x.1.u.time = u.time ∧
    (bit v 0 = false → x.1.u.armed = u.armed.filter (fun c => c.1 != n) ∧ rbit x.1.u.regs (rk Reg.TIM_TM_STAT 0 n) 0 = false) ∧
    (bit v 0 = true → u.time < timTarget u n → x.1.u.armed = (n, timTarget u n) :: u.armed.filter (fun c => c.1 != n) ∧
      rbit x.1.u.regs (rk Reg.TIM_TM_STAT 0 n) 0 = true ∧ rbit x.1.u.regs (rk Reg.TIM_TM_STAT 0 n) 1 = false) ∧
    (bit v 0 = true → timTarget u n ≤ u.time → rbit x.1.u.regs (rk Reg.TIM_TM_STAT 0 n) 1 = true) := by
  by_cases hb : bit v 0 = true
  · by_cases ht : timTarget u n ≤ u.time
    · obtain ⟨w, hw⟩ : ∃ w, w = Tim.lateAll [n] (W.of (timAimed (timConfigured u n v) n (timTarget u n))) := ⟨_, rfl⟩
      obtain ⟨hlate, hstill⟩ := lateAll_leaves [n] (W.of (timAimed (timConfigured u n v) n (timTarget u n)))
      obtain ⟨-, hregs, hclock⟩ := fire_leaves [n] w.u
      rw [← hw] at hlate hstill
      have htime : w.u.time = u.time := by rw [hlate]; rfl
      have hmark : rbit w.u.regs (rk Reg.TIM_TM_STAT 0 n) 1 = true := by
        rw [hlate]
        exact (rbit_putBit _ _ _ _ (by decide)).trans (if_pos rfl)
      rw [hx, matchArm_past hb ht hw]
      refine ⟨hstill.st, hclock.time.trans htime, fun h => by simp [hb] at h, fun _ h => absurd ht (not_le.mpr h), fun _ _ => ?_⟩
      show rbit (w.u.fire [n]).1.regs (rk Reg.TIM_TM_STAT 0 n) 1 = true
      rw [hregs]
      exact (rbit_fireOne w.u n n 1 (by decide)).trans ((if_neg (fun h => by simp at h)).trans hmark)
    · rw [hx, matchArm_ahead hb (not_le.mp ht)]
      obtain ⟨h0, h1⟩ := aimed_status (timConfigured u n v) n (timTarget u n)
      exact ⟨rfl, rfl, fun h => by simp [hb] at h, fun _ _ => ⟨rfl, h0, h1⟩, fun _ h => absurd h ht⟩
  · have hb' : bit v 0 = false := by simpa using hb
    rw [hx, matchArm_off hb']
    exact ⟨rfl, rfl, fun _ => ⟨rfl, (rbit_putBit _ _ _ _ (by decide)).trans (if_pos rfl)⟩, fun h => absurd h hb, fun h => absurd h hb⟩

end

/-- Comparators armed by a write, with the actions of one that fires at once. -/
theorem armed_leaves (n : Nat) (x : W Tim × List (Nat × Nat)) (lines : BitVec 24) {s : State} (hst : x.1.st = []) :
    (s.armed n x lines).tim.armed = x.1.u.armed ∧ (s.armed n x lines).tim.regs = x.1.u.regs ∧ (s.armed n x lines).tim.time = x.1.u.time ∧
    s.SameBytes (s.armed n x lines) := by
  obtain ⟨y, hy⟩ : ∃ y, y = ({ s with tim := x.1.u } : State).commit x.1.fx x.1.st := ⟨_, rfl⟩
  have htim : y.tim = x.1.u := by rw [hy]; exact commit_tim ..
  have hbytes : s.SameBytes y := fun b => by rw [hy, hst]; exact bytes_commit ..
  have hacted : Acted y (s.armed n x lines) := by
    have ha := acted_matchActions lines x.2 y
    have hform : s.armed n x lines = if x.2.isEmpty then y.matchActions lines x.2 else (y.matchActions lines x.2).matchSnaps [n] := by rw [hy]; rfl
    rw [hform]
    split
    · exact ha
    · exact ha.trans (acted_matchSnaps ..)
  obtain ⟨hclock, harm, hregs⟩ := hacted.clock
  rw [htim] at hclock harm hregs
  exact ⟨harm, hregs, hclock.time, fun b => (hacted.bytes b).trans (hbytes b)⟩

/-- The row of TIM_TM_CFG. -/
def tmCfgRow : RegRow := ⟨0x94, 0, 0xFF0F, 0, 0, 0, 0, 0x90, 16⟩

theorem tmCfg_listed : homePage (Reg.TIM_TM_CFG / 0x400 + 0) (Reg.TIM_TM_CFG % 0x400) = Reg.TIM_TM_CFG / 0x400 + 0 ∧
    rowOf (Reg.TIM_TM_CFG / 0x400 + 0) (Reg.TIM_TM_CFG % 0x400) = some tmCfgRow ∧
    regOf (Reg.TIM_TM_CFG / 0x400 + 0) (Reg.TIM_TM_CFG % 0x400) = (Reg.TIM_TM_CFG, 0) := by decide

/-- A write of TIM_TM_CFG of the comparator that TIM_TM_SEL names. -/
theorem timeMatchArm_eq {acc : Accessor} {v : Word} {lines : BitVec 24} {w : Nat} {s : State} (h : s.Admits acc Pg.TIM (Reg.TIM_TM_CFG % 0x400))
    (hw : (rget s.tim.regs Reg.TIM_TM_SEL).toNat = w) (h15 : w < 15) :
    ∃ z : State, z.mem = s.mem ∧
      s.writeNamed (fun _ w _ s => s.armed w (s.tim.matchArm w (v &&& 0xFF0F#32)) lines) acc Reg.TIM_TM_CFG 0 v =
        (z.armed w (s.tim.matchArm w (v &&& 0xFF0F#32)) lines).releaseIdle := by
  obtain ⟨hh, hr, hx⟩ := tmCfg_listed
  have hwin : s.windowOf (Reg.TIM_TM_CFG / 0x400 + 0) tmCfgRow = some w := by
    have hcell : rget (s.cells (Reg.TIM_TM_CFG / 0x400 + 0)) (cellKey (Reg.TIM_TM_CFG / 0x400 + 0) tmCfgRow.sel 0) = rget s.tim.regs Reg.TIM_TM_SEL := rfl
    unfold State.windowOf
    rw [if_neg (by decide)]
    dsimp only
    rw [hcell, hw, if_neg (by decide), if_pos (by show w < 16; omega)]
  have hd : s.discards Reg.TIM_TM_CFG 0 w v = false := by
    have hne : (w == 15) = false := by simp; omega
    unfold State.discards
    repeat rw [if_neg (by decide)]
    rw [if_pos (Or.inl rfl), hne]
    rfl
  have htakes : tmCfgRow.takes (s.mode == .run) v = true := by
    unfold RegRow.takes
    cases (s.mode == .run) <;> rfl
  refine ⟨s.written (Reg.TIM_TM_CFG / 0x400 + 0) (Reg.TIM_TM_CFG / 0x400 + 0) (Reg.TIM_TM_CFG % 0x400) w Reg.TIM_TM_CFG tmCfgRow v, rfl, ?_⟩
  rw [writeNamed_taken _ acc Reg.TIM_TM_CFG 0 v s h (by decide) (by decide) tmCfgRow w hh hr hx hwin (Or.inl rfl) (by decide) hd htakes]
  rfl

/-! ## Edges on TRIG IN (R293) -/

/-- An edge on TRIG IN counts, and the first is stored with its instant. -/
theorem trigIn_leaves (u : Tim) :
    rget u.trigIn.regs Reg.TIM_TRIGIN_CNT = rget u.regs Reg.TIM_TRIGIN_CNT + 1#32 ∧
    (u.trigLast = none → rget u.trigIn.regs Reg.TIM_TRIGIN_L = lo32 u.time ∧ rget u.trigIn.regs Reg.TIM_TRIGIN_H = hi32 u.time) := by
  have hcount : rget (rmod u.regs Reg.TIM_TRIGIN_CNT (· + 1#32)) Reg.TIM_TRIGIN_CNT = rget u.regs Reg.TIM_TRIGIN_CNT + 1#32 :=
    (rget_rmod _ _ (· + 1#32) _).trans (if_pos rfl)
  have hfar : ∀ far : Bool, rget (if far = true then ({ u with
      trigLast := some u.time
      regs := rset64 (rmod u.regs Reg.TIM_TRIGIN_CNT (· + 1#32)) Reg.TIM_TRIGIN_L Reg.TIM_TRIGIN_H u.time } : Tim)
      else { u with regs := rmod u.regs Reg.TIM_TRIGIN_CNT (· + 1#32) }).regs Reg.TIM_TRIGIN_CNT = rget u.regs Reg.TIM_TRIGIN_CNT + 1#32 := fun far => by
    cases far
    · exact hcount
    · exact (rget_rset64_ne _ _ (by decide) (by decide)).trans hcount
  refine ⟨hfar _, fun hnone => ?_⟩
  have he : u.trigIn = { u with
      trigLast := some u.time
      regs := rset64 (rmod u.regs Reg.TIM_TRIGIN_CNT (· + 1#32)) Reg.TIM_TRIGIN_L Reg.TIM_TRIGIN_H u.time } := by
    unfold Tim.trigIn
    rw [hnone]
    rfl
  rw [he]
  exact rget_rset64 _ _ (by decide)

/-- Settles O27: an edge on PPS IN and a source that lapses by the selection they lead to, a step by what it moves, comparators by those that fire,
and TRIG OUT and TRIG IN by TIM's own state. -/
theorem moduleTimeCommands : Obligations.ModuleTimeCommands := by
  unfold Obligations.ModuleTimeCommands
  refine ⟨?_, ?_, ?_, ?_, ?_, ?_, ?_, ?_, ?_, ?_⟩
  · intro a p s hp hpend hlast hnear
    have he := ppsEdge_valid (u := (s.at_ a).tim) hlast hnear
    obtain ⟨hst, hvalid, hpps, hofs, hstill⟩ := offsetFrom_leaves 3 (secondOffset (s.at_ a).tim.time) none 0 false
      { (s.at_ a).tim with ppsLast := some (s.at_ a).tim.time } he
    obtain ⟨kpps, kvalid, kbytes⟩ := steer_leaves Tim.ppsEdge (s.at_ a) hst
    refine ⟨_, congrArg Host.Outcome.next (upOn_up (s := s.at_ a) _ hp), kpps.trans hpps, ?_, fun hchoose hsmall => ?_, at_sameBytes kbytes⟩
    · rw [kvalid, hvalid]
      exact mem_setValid ..
    · rw [steer_still (hstill hsmall hpend), onTim_tim]
      exact hofs hchoose hsmall
  · intro a s hp hpend hfar
    have he := ppsEdge_invalid (u := (s.at_ a).tim) hfar
    obtain ⟨-, hsame, hstill⟩ := reselect_leaves (W.of (({ (s.at_ a).tim with ppsLast := some (s.at_ a).tim.time } : Tim).setValid 3 false))
    have hu : (Tim.ppsEdge (s.at_ a).tim).u.pend = none := by rw [he]; exact hsame.pend.trans hpend
    obtain ⟨hshell, hbytes⟩ := onTim_frame (s := s.at_ a) (f := Tim.ppsEdge) (by rw [he]; exact hstill.st)
    have htim : ((s.at_ a).onTim Tim.ppsEdge).tim = _ := (onTim_tim ..).trans (congrArg W.u he)
    refine ⟨(s.at_ a).onTim Tim.ppsEdge, congrArg Host.Outcome.next ((upOn_up (s := s.at_ a) _ hp).trans (steer_still hu)), ?_, ?_, hshell,
      at_sameBytes hbytes⟩
    · rw [htim]
      exact hsame.pps
    · rw [htim]
      exact fun h => absurd (hsame.valid ▸ h) (by simp [Tim.setValid])
  · intro a c s hp
    obtain ⟨hsel, hsame, hstill⟩ := reselect_leaves (W.of ((s.at_ a).tim.setValid c.val false))
    obtain ⟨hshell, hbytes⟩ := onTim_frame (s := s.at_ a) (f := Tim.lapse c.val) hstill.st
    have htim : ((s.at_ a).onTim (Tim.lapse c.val)).tim = (Tim.reselect (W.of ((s.at_ a).tim.setValid c.val false))).u := onTim_tim ..
    refine ⟨_, congrArg Host.Outcome.next (upOn_up (s := s.at_ a) _ hp), ?_, fun hnone hwas => ⟨?_, fun hset => ?_⟩, hshell, at_sameBytes hbytes⟩
    · rw [htim]
      exact hsame.valid
    · rw [htim]
      exact hsel.trans hnone
    · obtain ⟨hflag, l, hcodes⟩ := reselect_holdover (w := W.of ((s.at_ a).tim.setValid c.val false)) hnone hwas hset
      rw [htim]
      exact ⟨hflag, errCode_clock (s := s.at_ a) (f := Tim.lapse c.val) (code := 0x1D11) hcodes (hstill.plain (plain_of_codes _ _ _ _))⟩
  · intro a s hp
    obtain ⟨hsel, hsame, hstill⟩ := reselect_leaves (W.of (s.at_ a).tim)
    obtain ⟨hshell, hbytes⟩ := onTim_frame (s := s.at_ a) (f := fun u => Tim.reselect (W.of u)) hstill.st
    have htim : ((s.at_ a).onTim (fun u => Tim.reselect (W.of u))).tim = (Tim.reselect (W.of (s.at_ a).tim)).u := onTim_tim ..
    refine ⟨_, congrArg Host.Outcome.next (upOn_up (s := s.at_ a) _ hp), ?_, ?_, hshell, at_sameBytes hbytes⟩
    · rw [htim]
      exact hsel
    · rw [htim]
      exact hsame.valid
  · intro a lines p s hp hpend hdue
    have hmade : (s.at_ a).stepTime lines = (s.at_ a).makeStep lines := by
      refine if_pos ?_
      rcases hdue with hc | ⟨htick, hstep⟩
      · rw [show (s.at_ a).counting = false from hc]
        rfl
      · rw [decide_eq_true htick, show ((s.at_ a).tim.stepDue (1000 * (s.at_ a).seq.startUs)).isSome = true from hstep]
        simp
    obtain ⟨htime, hnone, hstart, hepoch, hfno, -, -, hbytes⟩ := makeStep_leaves (s := s.at_ a) lines hpend
    exact ⟨_, congrArg Host.Outcome.next ((upOn_up (s := s.at_ a) _ hp).trans hmade), htime, hnone, hstart, hepoch, hfno, at_sameBytes hbytes⟩
  · intro a lines s hc hdue
    have hnot : (s.at_ a).stepTime lines = s.at_ a := by
      refine if_neg ?_
      rw [show (s.at_ a).counting = true from hc]
      rcases hdue with htick | hstep
      · simp [htick]
      · rw [show (s.at_ a).tim.stepDue (1000 * (s.at_ a).seq.startUs) = none from hstep]
        simp
    have hall : State.upOn Pg.TIM (State.stepTime lines) (s.at_ a) = s.at_ a := by
      unfold State.upOn
      rw [hnot]
      exact ite_self _
    exact ⟨_, congrArg Host.Outcome.next hall, rfl, fun b => byte_strike ..⟩
  · intro a acc v lines w s h hw h15
    obtain ⟨z, hzmem, he⟩ := timeMatchArm_eq (v := v) (lines := lines) (s := s.at_ a) h hw h15
    obtain ⟨x, hx⟩ : ∃ x, x = (s.at_ a).tim.matchArm w (v &&& 0xFF0F#32) := ⟨_, rfl⟩
    obtain ⟨hst, htime, hoff, hahead, hpast⟩ := matchArm_leaves _ _ _ hx
    obtain ⟨karm, kregs, ktime, kbytes⟩ := armed_leaves w x lines (s := z) hst
    rw [← hx] at he
    have hbit : bit (v &&& 0xFF0F#32) 0 = bit v 0 := by
      unfold bit
      rw [BitVec.getLsbD_and, show (0xFF0F#32 : Word).getLsbD 0 = true from rfl, Bool.and_true]
    rw [hbit] at hoff hahead hpast
    refine ⟨_, congrArg Host.Outcome.next he, ?_⟩
    rw [releaseIdle_tim, karm, kregs, ktime]
    exact ⟨hoff, hahead, hpast, htime, at_sameBytes (a := a) fun b => by rw [releaseIdle_mem, kbytes, hzmem]⟩
  · intro a lines s hp
    obtain ⟨harm, hregs, hclock, -, hbytes⟩ := matchFire_leaves lines (s.at_ a)
    refine ⟨_, congrArg Host.Outcome.next (upOn_up (s := s.at_ a) _ hp), ?_⟩
    rw [harm, hregs]
    exact ⟨fun n hn hper => fires_disarm _ _ hn hper, fun c hc hn => fires_keep _ _ hc hn, hclock.time, at_sameBytes hbytes⟩
  · intro a s hp
    refine ⟨_, congrArg Host.Outcome.next (upOn_up (s := s.at_ a) _ hp), fun e he => ?_, ?_, rfl, fun b => byte_strike ..⟩
    · show (Tim.trigOutEnd (s.at_ a).tim).trigOut = _
      unfold Tim.trigOutEnd
      rw [show (s.at_ a).tim.trigOut = some e from he]
      dsimp only
      split
      · rfl
      · exact he
    · show (Tim.trigOutEnd (s.at_ a).tim).regs = _
      unfold Tim.trigOutEnd
      split
      · split <;> rfl
      · rfl
  · intro a s hp
    obtain ⟨hcount, hfirst⟩ := trigIn_leaves (s.at_ a).tim
    obtain ⟨z, hz⟩ : ∃ z : State, z = { s.at_ a with tim := (s.at_ a).tim.trigIn } := ⟨_, rfl⟩
    have htim : (z.commit { Fx.none with snaps := [1] } []).tim = (s.at_ a).tim.trigIn := (commit_tim ..).trans (by rw [hz])
    refine ⟨z.commit { Fx.none with snaps := [1] } [], congrArg Host.Outcome.next ((upOn_up (s := s.at_ a) _ hp).trans (by rw [hz])), ?_⟩
    rw [htim, shell_commit]
    exact ⟨hcount, hfirst, by rw [hz]; rfl, at_sameBytes (a := a) fun b => (bytes_commit _ _ z b).trans (by rw [hz]; rfl)⟩

end Sys2Proof.Proofs
end

section
/-! SUPPORT. The PTP engine (R294–R297): what its work leaves of the module, and what a Sync, an election, a delay message and a forwarded
message make of its own state. -/

namespace Sys2Proof.Proofs

open Sys2Proof Sys2Proof.Machine

-- One proof after another: many at once wait for the kernel in threads of their own, which the check's memory limit does not hold.
set_option Elab.async false

/-! ## PTP's work in the module -/

section
variable {s : State} {f : Ptp → W Ptp}

/-- PTP's work leaves the rest of the module and, storing nothing, every byte. -/
theorem onPtp_frame (hst : (f s.ptp).st = []) : (s.onPtp f).shell = { s.shell with ptp := (s.onPtp f).ptp } ∧ s.SameBytes (s.onPtp f) :=
  ⟨by rw [shell_onPtp, onPtp_ptp], fun b => (byte_onPtp _ s b).trans (by rw [hst]; rfl)⟩

theorem plain_onPtp (hst : (f s.ptp).st = []) (h : (f s.ptp).fx.Plain) :
    (s.onPtp f).outbox = (f s.ptp).fx.emits.reverse ++ s.outbox := by
  have hform : s.onPtp f = ({ s with ptp := (f s.ptp).u } : State).commit (f s.ptp).fx [] := by
    rw [← hst]
    rfl
  generalize (f s.ptp).fx = fx at *
  rw [hform]
  exact plain_outbox _ h _

end

/-! ## Module time steered, with PTP's own state as it was -/

theorem ptp_matchActions (lines : BitVec 24) (l : List (Nat × Nat)) (s : State) : (s.matchActions lines l).ptp = s.ptp := by
  unfold State.matchActions
  refine foldl_keeps (fun t : State => t.ptp = s.ptp) _ (fun t a h => ?_) l s rfl
  split
  · split
    · exact h
    · exact h
  · split
    · split
      · exact (ptp_of_shell (s := { t with gns := (Gns.snapStart t.tim.time t.epoch t.gns).u }) (shell_onGns ..)).trans h
      · exact h
    · split
      · split
        · exact (ptp_of_shell (s := { t with pos := (Pos.request t.mode t.now t.tim.time a.2 (lines.getLsbD a.2) t.pos).u }) (shell_onPos ..)).trans h
        · exact h
      · split
        · split
          · exact h
          · exact h
        · exact h

theorem ptp_matchFire (lines : BitVec 24) (s : State) : (s.matchFire lines).ptp = s.ptp := by
  have hsnaps : ∀ (ns : List Nat) (z : State), (z.matchSnaps ns).ptp = z.ptp := fun _ _ => commit_ptp ..
  unfold State.matchFire
  exact (hsnaps ..).trans (ptp_matchActions ..)

theorem ptp_onTim (f : Tim → W Tim) (s : State) : (s.onTim f).ptp = s.ptp :=
  ptp_of_shell (s := { s with tim := (f s.tim).u }) (shell_onTim ..)

theorem ptp_makeStep (lines : BitVec 24) (s : State) : (s.makeStep lines).ptp = s.ptp := by
  unfold State.makeStep
  split
  · rfl
  · next p _ =>
    have htim := ptp_onTim (fun _ => (s.tim.step s.fno p.e).1) s
    refine (ptp_matchFire ..).trans ?_
    dsimp only
    exact htim

theorem ptp_steer (f : Tim → W Tim) (s : State) : (s.steer f).ptp = s.ptp := by
  unfold State.steer
  dsimp only
  split
  · exact ptp_onTim ..
  · exact (ptp_makeStep _ (s.onTim f).fresh.2).trans ((rfl : (s.onTim f).fresh.2.ptp = (s.onTim f).ptp).trans (ptp_onTim ..))

/-- A source that lapses with the parent leaves PTP, the rest of the module beside TIM, and every byte. -/
theorem parentLost_leaves (s : State) :
    s.parentLost.ptp = s.ptp ∧ s.parentLost.shell = { s.shell with tim := s.parentLost.tim } ∧ s.SameBytes s.parentLost := by
  unfold State.parentLost
  split
  · obtain ⟨hshell, hbytes⟩ := onTim_frame (s := s) (f := Tim.lapse 1) (reselect_leaves _).2.2.st
    exact ⟨ptp_onTim .., hshell, hbytes⟩
  · exact ⟨rfl, rfl, fun _ => rfl⟩

/-! ## The source that an offset selects (R290) -/

theorem selected_slewBy (e : Int) (w : W Tim) : (Tim.slewBy e w).u.selected = w.u.selected := by
  have hstat : ∀ (v : Tim) (f l : Int) (n : Nat) (o : Option (Int × Int)), v.selected = w.u.selected →
      ({ (v.setRate f l).mod Reg.TIM_STAT (fun x => putBit x 6 true) with
        confirms := n
        lastE := o } : Tim).selected = w.u.selected := fun v f l n o h =>
    (show bits (rget (rmod v.regs Reg.TIM_STAT (fun x => putBit x 6 true)) Reg.TIM_STAT) 1 0 = _ from
      bits_congr fun i _ h2 => (rbit_putBit v.regs _ _ _ (by omega)).trans (if_neg (by omega))).trans h
  unfold Tim.slewBy
  dsimp only
  cases w.u.pend with
  | none => exact hstat w.u _ _ _ _ rfl
  | some p => exact hstat { w.u with pend := none } _ _ _ _ rfl

/-- An offset small enough to slew by leaves the source selected that the selection chose. -/
theorem selected_offsetFrom {src : Nat} {e : Int} (seq : Option Nat) (tc : Int) (done : Bool) (u : Tim) (hsmall : e.natAbs ≤ 1000000) :
    (u.offsetFrom src e seq tc done).u.selected = (u.setValid src true).choose := by
  obtain ⟨hsel, -, -⟩ := reselect_leaves (W.of (u.setValid src true))
  obtain ⟨w, hw⟩ : ∃ w, w = Tim.reselect (W.of (u.setValid src true)) := ⟨_, rfl⟩
  rw [← hw] at hsel
  have hform : u.offsetFrom src e seq tc done = if w.u.selected = src then
      (if e.natAbs ≤ 1000000 then Tim.slewBy e (w.map (Tim.notes e)) else Tim.confirm src e seq tc done (w.map (Tim.notes e))).map Tim.refresh
      else w := by rw [hw]; rfl
  have hnotes : (w.map (Tim.notes e)).u.selected = w.u.selected :=
    congrArg (bits · 1 0) ((rget_rset ..).trans (if_neg (by decide : Reg.TIM_STAT ≠ Reg.TIM_OFS_LAST)))
  rw [hform, if_pos hsmall]
  generalize w.map (Tim.notes e) = x at *
  split
  · exact (refresh_selected _).trans ((selected_slewBy e x).trans (hnotes.trans hsel))
  · exact hsel

/-! ## Messages counted -/

section
variable {u : Ptp} {port : Nat} {m : List Byte}

/-- An event message counted changes PTP_P_CNT alone. -/
theorem countEvent_leaves (u : Ptp) (port : Nat) (m : List Byte) :
    ∃ r, u.countEvent port m = { u with regs := r } ∧ ∀ k, k % 0x400 ≠ Reg.PTP_P_CNT % 0x400 → rget r k = rget u.regs k := by
  unfold Ptp.countEvent
  split
  · exact ⟨_, rfl, fun k hk => rget_rmod_ne _ (fun c => incWrapField c 15 0) (ne_of_offset hk)⟩
  · exact ⟨u.regs, rfl, fun _ _ => rfl⟩

/-- The delay of a port is read from cells other than its counts. -/
theorem delay_congr {r : RMap} (h : ∀ k, k % 0x400 ≠ Reg.PTP_P_CNT % 0x400 → rget r k = rget u.regs k) :
    ({ u with regs := r } : Ptp).delay port = u.delay port := by
  have hlink : rget r (rk Reg.PTP_P_LINKDLY 0 port) = rget u.regs (rk Reg.PTP_P_LINKDLY 0 port) :=
    h _ (by rw [rk_offset]; exact (by decide : Reg.PTP_P_LINKDLY % 0x400 ≠ Reg.PTP_P_CNT % 0x400))
  unfold Ptp.delay Ptp.peer rbit
  dsimp only
  rw [hlink, h Reg.PTP_CFG (by decide), h Reg.PTP_MPD (by decide)]

/-! ## A Sync of the parent (R290, R294) -/

section
variable {t2 : Int} {epoch : Nat} (htakes : u.takes port m = true) (hparent : u.parent = some (ptpSource m))
  (hport : rfld u.regs Reg.PTP_STAT 2 0 = port + 1) (hty : ptpType m = 0)
include htakes hparent hport hty

/-- A Sync of the parent on the port that follows it, by whether a Follow_Up completes it. -/
theorem sync_eq :
    u.sync port t2 epoch m =
      if ptpTwoStep m = true then ({ u.countEvent port m with syncWait := some (ptpSeq m, t2, ptpCorrection m, epoch) }, none)
      else (((u.countEvent port m).offset port epoch (t2 - ptpStamp m - ptpCorrection m)).1,
        some (((u.countEvent port m).offset port epoch (t2 - ptpStamp m - ptpCorrection m)).2, ptpSeq m, ptpStamp m)) := by
  obtain ⟨r, hr, hcell⟩ := countEvent_leaves u port m
  have hstat : rfld r Reg.PTP_STAT 2 0 = port + 1 := by
    unfold rfld
    rw [hcell Reg.PTP_STAT (by decide)]
    exact hport
  have hfollows : ¬ ((u.countEvent port m).parent ≠ some (ptpSource m) ∨ rfld (u.countEvent port m).regs Reg.PTP_STAT 2 0 ≠ port + 1) := by
    rw [hr]
    exact not_or.mpr ⟨not_not.mpr hparent, not_not.mpr hstat⟩
  unfold Ptp.sync
  dsimp only
  rw [if_neg (by rw [htakes]; decide), if_neg hfollows, if_pos hty]

/-- A one-step Sync gives the offset from the master. -/
theorem sync_oneStep (htwo : ptpTwoStep m = false) {raw : Int} (hraw : raw = t2 - ptpStamp m - ptpCorrection m) :
    (u.sync port t2 epoch m).2 = some (raw - u.delay port, ptpSeq m, ptpStamp m) ∧
    (u.sync port t2 epoch m).1.syncLast = some (raw, epoch) ∧
    rget (u.sync port t2 epoch m).1.regs Reg.PTP_OFS = satW (raw - u.delay port) := by
  obtain ⟨r, hr, hcell⟩ := countEvent_leaves u port m
  rw [sync_eq htakes hparent hport hty, if_neg (by rw [htwo]; decide), hr, ← hraw]
  refine ⟨?_, rfl, ?_⟩
  · show some (raw - ({ u with regs := r } : Ptp).delay port, ptpSeq m, ptpStamp m) = _
    rw [delay_congr hcell]
  · refine (rget_rset ..).trans ((if_pos rfl).trans ?_)
    rw [delay_congr hcell]

/-- A two-step Sync waits for its Follow_Up. -/
theorem sync_twoStep (htwo : ptpTwoStep m = true) :
    u.sync port t2 epoch m = ({ u.countEvent port m with syncWait := some (ptpSeq m, t2, ptpCorrection m, epoch) }, none) ∧
    (u.countEvent port m).syncLast = u.syncLast := by
  refine ⟨(sync_eq htakes hparent hport hty).trans (if_pos htwo), ?_⟩
  obtain ⟨r, hr, -⟩ := countEvent_leaves u port m
  rw [hr]

end

/-! ## The best master (R294) -/

/-- An election keeps the announcements held, and without CHAIN_GM the best of them names the parent. -/
theorem elect_leaves (cls ident : Nat) (w : W Ptp) :
    (Ptp.elect cls ident w).u.announces = w.u.announces ∧ (Ptp.elect cls ident w).st = w.st ∧
    (rbit w.u.regs Reg.PTP_CFG 8 = false → (Ptp.elect cls ident w).u.parent = w.u.best.map (·.source)) := by
  have hwhen : ∀ (b : Bool) (v : W Ptp), (v.when b (fun w => (w.evt Pg.PTP 0).code Pg.PTP 0x1D22 [])).u = v.u ∧
      (v.when b (fun w => (w.evt Pg.PTP 0).code Pg.PTP 0x1D22 [])).st = v.st := fun b v => by cases b <;> exact ⟨rfl, rfl⟩
  unfold Ptp.elect
  dsimp only
  rw [(hwhen _ _).1, (hwhen _ _).2]
  refine ⟨rfl, rfl, fun hgm => ?_⟩
  rw [hgm]
  cases hbest : w.u.best with
  | none => simp [W.map]
  | some a => simp [W.map]

theorem best_congr {u v : Ptp} (h : v.announces = u.announces) : v.best = u.best := by
  unfold Ptp.best
  rw [h]

/-- An election over the announcements l. -/
theorem elected (cls ident : Nat) (u : Ptp) (l : List Announce) {v : W Ptp} (hv : v = Ptp.elect cls ident (W.of { u with announces := l })) :
    v.u.announces = l ∧ v.st = [] ∧ (rbit u.regs Reg.PTP_CFG 8 = false → v.u.parent = v.u.best.map (·.source)) := by
  obtain ⟨hann, hst, hparent⟩ := elect_leaves cls ident (W.of { u with announces := l })
  rw [← hv] at hann hst hparent
  exact ⟨hann, hst, fun hgm => (hparent hgm).trans (by rw [best_congr hann])⟩

/-! ## Delay messages (R294, R297) -/

section
variable {ident epoch : Nat} {t t3 : Int} (htakes : u.takes port m = true)
include htakes

/-- A peer delay request is answered with the two responses. -/
theorem delayMessage_request (hty : ptpType m = 2) :
    ∃ v : Ptp, v.requests = u.requests ∧ Ptp.delayMessage ident port t t3 epoch m u =
      ((W.of v).emit (.eth port (ptpMessage u.domain 3 0x200 0 ident port (ptpSeq m) (stampBytes t ++ sliceB m 20 10)))).emit
        (.eth port (ptpMessage u.domain 10 0 (ptpCorrection m) ident port (ptpSeq m) (stampBytes t3 ++ sliceB m 20 10))) := by
  obtain ⟨r, hr, hcell⟩ := countEvent_leaves u port m
  have hdomain : ({ u with regs := r } : Ptp).domain = u.domain := by
    unfold Ptp.domain rfld
    rw [hcell Reg.PTP_CFG (by decide)]
  refine ⟨{ u with regs := r }, rfl, ?_⟩
  unfold Ptp.delayMessage
  dsimp only
  rw [if_neg (by rw [htakes]; decide), if_pos hty, hr, hdomain]

/-- A one-step answer in time gives the link's delay and is the request's last. -/
theorem delayMessage_answer {t1 : Int} (hty : ptpType m = 3) (htwo : ptpTwoStep m = false)
    (hreq : u.requests.find? (fun r => r.1 == port && r.2.1 == ptpSeq m) = some (port, ptpSeq m, t1, epoch)) :
    ∃ v : Ptp, Ptp.delayMessage ident port t t3 epoch m u = W.of v ∧ v.requests = u.requests.filter (fun r => r.1 != port) ∧
      rget v.regs (rk Reg.PTP_P_LINKDLY 0 port) = wi (max 0 (Int.fdiv (t - t1 - ptpCorrection m) 2)) := by
  obtain ⟨r, hr, -⟩ := countEvent_leaves u port m
  refine ⟨({ u with
    regs := r
    requests := u.requests.filter (fun r => r.1 != port)
    responses := u.responses.filter (fun r => r.1 != port) } : Ptp).linkDelay port t1 t (ptpCorrection m), ?_, rfl, ?_⟩
  · unfold Ptp.delayMessage
    dsimp only
    rw [if_neg (by rw [htakes]; decide), if_neg (by rw [hty]; decide), hr]
    dsimp only
    rw [hreq]
    dsimp only
    rw [if_neg (not_not.mpr rfl), if_neg (by rw [htwo]; simp), if_pos hty]
  · exact (rget_rset ..).trans (if_pos rfl)

end

/-! ## What leaves the module (R295, R296) -/

/-- A message other than peer delay that enters a Chain port leaves on the other, a Sync counted and with its residence time. -/
theorem forward_eq {now residence : Int} (hport : port < 2) (hlen : 34 ≤ m.length) (h2 : ptpType m ≠ 2) (h3 : ptpType m ≠ 3)
    (h10 : ptpType m ≠ 10) (hnone : u.forwarded = []) :
    ∃ v : Ptp, v.regs = (if ptpType m = 0 then rmod u.regs Reg.PTP_TC_CNT (· + 1#32) else u.regs) ∧
      Ptp.forward port now residence m u = (W.of v).emit (.eth (1 - port) (if ptpType m = 0 then m.take 8 ++
        beBytes 8 ((beNat (sliceB m 8 8) + ((residence + sw (rget u.regs (rk Reg.PTP_P_LINKDLY 0 port))) * 65536 %
          18446744073709551616).toNat) % 18446744073709551616) ++ m.drop 16 else m)) := by
  unfold Ptp.forward
  dsimp only
  have hchain : ¬ (1 < port ∨ ptpType m = 2 ∨ ptpType m = 3 ∨ ptpType m = 10 ∨ m.length < 34) := by
    simp only [not_or, not_lt]
    exact ⟨Nat.le_of_lt_succ hport, h2, h3, h10, hlen⟩
  rw [if_neg hchain, hnone, List.filter_nil, List.any_nil, if_neg Bool.false_ne_true]
  by_cases h0 : ptpType m = 0
  · rw [if_pos h0, if_pos h0, if_pos h0]
    exact ⟨_, rfl, rfl⟩
  · rw [if_neg h0, if_neg h0, if_neg h0]
    exact ⟨{ u with forwarded := [(ptpSource m, ptpType m, ptpSeq m, now)] }, rfl, rfl⟩

end

end Sys2Proof.Proofs
end

section
/-! Messages of PTP received, forwarded and sent, settled (R290, R294–R296). -/

namespace Sys2Proof.Proofs

open Sys2Proof Sys2Proof.Machine

-- One proof after another: many at once wait for the kernel in threads of their own, which the check's memory limit does not hold.
set_option Elab.async false

/-! ## What this clock sends (R294, R296) -/

section
variable {u : Ptp} {cls ident : Nat}

/-- A Sync sent on both Chain ports: its messages, in order. -/
theorem sendSync_leaves (oneStep : Bool) (t : Nat → Int) (h : u.transmits cls ident = true) {w : W Ptp} (hw : w = Ptp.sendSync cls ident oneStep t u) :
    w.u.seqSync = (u.seqSync + 1) % 65536 ∧ w.st = [] ∧ w.fx.Plain ∧
    ∀ p, p < 2 → Emit.eth p (ptpMessage u.domain (if oneStep = true then 0 else 8) 0 0 ident p ((u.seqSync + 1) % 65536) (stampBytes (t p))) ∈
      w.fx.emits := by
  have he : Ptp.sendSync cls ident oneStep t u = _ := if_neg (by rw [h]; decide)
  rw [hw, he]
  cases oneStep with
  | true =>
    refine ⟨rfl, rfl, ⟨rfl, rfl, rfl, rfl, rfl⟩, fun p hp => ?_⟩
    obtain rfl | rfl : p = 0 ∨ p = 1 := by omega
    · exact List.mem_cons_self
    · exact List.mem_cons_of_mem _ List.mem_cons_self
  | false =>
    refine ⟨rfl, rfl, ⟨rfl, rfl, rfl, rfl, rfl⟩, fun p hp => ?_⟩
    obtain rfl | rfl : p = 0 ∨ p = 1 := by omega
    · exact List.mem_cons_of_mem _ List.mem_cons_self
    · exact List.mem_cons_of_mem _ (List.mem_cons_of_mem _ (List.mem_cons_of_mem _ List.mem_cons_self))

/-- An Announce sent on both Chain ports. -/
theorem sendAnnounce_leaves (t : Int) (h : u.transmits cls ident = true) {w : W Ptp} (hw : w = Ptp.sendAnnounce cls ident t u) :
    w.u.seqAnn = (u.seqAnn + 1) % 65536 ∧ w.st = [] ∧ w.fx.Plain ∧
    ∀ p, p < 2 → ∃ body, Emit.eth p (ptpMessage u.domain 11 8 0 ident p ((u.seqAnn + 1) % 65536) body) ∈ w.fx.emits := by
  have he : Ptp.sendAnnounce cls ident t u = _ := if_neg (by rw [h]; decide)
  rw [hw, he]
  refine ⟨rfl, rfl, ⟨rfl, rfl, rfl, rfl, rfl⟩, fun p hp => ?_⟩
  obtain rfl | rfl : p = 0 ∨ p = 1 := by omega
  · exact ⟨_, List.mem_cons_self⟩
  · exact ⟨_, List.mem_cons_of_mem _ List.mem_cons_self⟩

/-- A delay request sent on a port that measures, which remembers it. -/
theorem requestDelay_eq {port : Nat} {t1 : Int} {epoch : Nat} (hon : rbit u.regs (rk Reg.PTP_P_CFG 0 port) 0 = true)
    (h : u.peer port = true ∨ rfld u.regs Reg.PTP_STAT 2 0 = port + 1) :
    ∃ m, Ptp.requestDelay ident port t1 epoch u = (W.of { u with
      seqDelay := (u.seqDelay + 1) % 65536
      requests := (port, (u.seqDelay + 1) % 65536, t1, epoch) :: u.requests.filter (fun r => r.1 != port) }).emit (.eth port m) := by
  have hmeasures : ¬ (!u.peer port && rfld u.regs Reg.PTP_STAT 2 0 != port + 1) = true := by
    rcases h with hp | hs
    · simp [hp]
    · simp [hs]
  exact ⟨_, (if_neg (by rw [hon]; decide)).trans (if_neg hmeasures)⟩

end

/-! ## A Sync taken (R290) -/

section
variable {a : At} {port : Fin 4} {m : List Byte} {s : State} (hw : s.works Pg.PTP = true) (htakes : s.ptp.takes port.val m = true)
  (hparent : s.ptp.parent = some (ptpSource m)) (hport : rfld s.ptp.regs Reg.PTP_STAT 2 0 = port.val + 1) (hty : ptpType m = 0)
include hw htakes hparent hport hty

theorem oneStep_taken (htwo : ptpTwoStep m = false) (hpend : s.tim.pend = none) {raw e : Int}
    (hraw : raw = (s.at_ a).ingressAt port.val - ptpStamp m - ptpCorrection m) (he : e = raw - s.ptp.delay port.val) :
    ∃ t, exec (.ptpSyncReceive a port m) s = .next t ∧ t.ptp.syncLast = some (raw, (s.at_ a).epoch) ∧ rget t.ptp.regs Reg.PTP_OFS = satW e ∧
      (((s.at_ a).tim.setValid 1 true).choose = 1 → e.natAbs ≤ 1000000 →
        t.tim.selected = 1 ∧ rget t.tim.regs Reg.TIM_OFS_LAST = satW e) ∧
      1 ∈ t.tim.valid ∧ s.SameBytes t := by
  obtain ⟨hofs, hlast, hshown⟩ := sync_oneStep (u := (s.at_ a).ptp) (epoch := (s.at_ a).epoch) htakes hparent hport hty htwo hraw
  have hdelay : (s.at_ a).ptp.delay port.val = s.ptp.delay port.val := rfl
  rw [hdelay, ← he] at hofs hshown
  obtain ⟨x, hx⟩ : ∃ x, x = (s.at_ a).ptp.sync port.val ((s.at_ a).ingressAt port.val) (s.at_ a).epoch m := ⟨_, rfl⟩
  rw [← hx] at hofs hlast hshown
  obtain ⟨z, hz⟩ : ∃ z : State, z = { s.at_ a with ptp := x.1 } := ⟨_, rfl⟩
  have hzp : z.ptp = x.1 := by rw [hz]
  have hztim : z.tim = (s.at_ a).tim := by rw [hz]
  have hexec : exec (.ptpSyncReceive a port m) s = .next (z.steer (Tim.offsetFrom 1 e (some (ptpSeq m)) (ptpStamp m) false)) := by
    refine congrArg Host.Outcome.next ((workOn_works (s := s.at_ a) _ hw).trans ?_)
    dsimp only
    rw [← hx, hofs, hz]
  obtain ⟨hst, hvalid, -, hmeas, hstill⟩ := offsetFrom_leaves 1 e (some (ptpSeq m)) (ptpStamp m) false z.tim rfl
  obtain ⟨-, kvalid, kbytes⟩ := steer_leaves (Tim.offsetFrom 1 e (some (ptpSeq m)) (ptpStamp m) false) z hst
  refine ⟨_, hexec, by rw [ptp_steer, hzp]; exact hlast, by rw [ptp_steer, hzp]; exact hshown, fun hchoose hsmall => ?_, ?_, ?_⟩
  · have hchoose' : (z.tim.setValid 1 true).choose = 1 := by rw [hztim]; exact hchoose
    rw [steer_still (hstill hsmall (by rw [hztim]; exact hpend)), onTim_tim]
    exact ⟨(selected_offsetFrom _ _ _ z.tim hsmall).trans hchoose', hmeas hchoose' hsmall⟩
  · rw [kvalid, hvalid]
    exact mem_setValid ..
  · exact at_sameBytes (a := a) fun b => (kbytes b).trans (by rw [hz])

theorem twoStep_taken (htwo : ptpTwoStep m = true) :
    ∃ t, exec (.ptpSyncReceive a port m) s = .next t ∧
      t.ptp.syncWait = some (ptpSeq m, (s.at_ a).ingressAt port.val, ptpCorrection m, (s.at_ a).epoch) ∧
      t.ptp.syncLast = s.ptp.syncLast ∧ t.shell = { (s.at_ a).shell with ptp := t.ptp } ∧ s.SameBytes t := by
  obtain ⟨hsync, hlast⟩ := sync_twoStep (u := (s.at_ a).ptp) (t2 := (s.at_ a).ingressAt port.val) (epoch := (s.at_ a).epoch) htakes hparent hport
    hty htwo
  refine ⟨{ s.at_ a with
    ptp := { (s.at_ a).ptp.countEvent port.val m with
      syncWait := some (ptpSeq m, (s.at_ a).ingressAt port.val, ptpCorrection m, (s.at_ a).epoch) } }, ?_, rfl, hlast, rfl,
    at_sameBytes (a := a) fun _ => rfl⟩
  refine congrArg Host.Outcome.next ((workOn_works (s := s.at_ a) _ hw).trans ?_)
  dsimp only
  rw [hsync]

end

/-! ## An election in the module (R290, R294) -/

/-- The announcements held replaced, the best master chosen anew, and a source lost with the parent lapsed. -/
theorem election_leaves {s : State} {f : Ptp → W Ptp} {l : List Announce} (cls ident : Nat)
    (h : f s.ptp = Ptp.elect cls ident (W.of { s.ptp with announces := l })) :
    (s.onPtp f).parentLost.ptp.announces = l ∧
    (rbit s.ptp.regs Reg.PTP_CFG 8 = false → (s.onPtp f).parentLost.ptp.parent = (s.onPtp f).parentLost.ptp.best.map (·.source)) ∧
    (s.onPtp f).parentLost.shell = { s.shell with
      ptp := (s.onPtp f).parentLost.ptp
      tim := (s.onPtp f).parentLost.tim } ∧ s.SameBytes (s.onPtp f).parentLost := by
  obtain ⟨hann, hst, hparent⟩ := elected cls ident s.ptp l h
  obtain ⟨hshell, hbytes⟩ := onPtp_frame (s := s) hst
  obtain ⟨kptp, kshell, kbytes⟩ := parentLost_leaves (s.onPtp f)
  rw [kptp]
  refine ⟨by rw [onPtp_ptp]; exact hann, by rw [onPtp_ptp]; exact hparent, ?_, fun b => (kbytes b).trans (hbytes b)⟩
  rw [kshell, hshell]

/-! ## A message answered or sent -/

/-- Work of PTP that records and stores nothing. -/
theorem quiet_ptp {s : State} {f : Ptp → W Ptp} {w : W Ptp} (h : f s.ptp = w) (hst : w.st = []) (hp : w.fx.Plain) :
    (s.onPtp f).ptp = w.u ∧ (s.onPtp f).outbox = w.fx.emits.reverse ++ s.outbox ∧
    (s.onPtp f).shell = { s.shell with ptp := (s.onPtp f).ptp } ∧ s.SameBytes (s.onPtp f) := by
  subst h
  obtain ⟨hshell, hbytes⟩ := onPtp_frame (s := s) hst
  exact ⟨onPtp_ptp .., plain_onPtp hst hp, hshell, hbytes⟩

/-- Settles O26: a Sync by the offset it gives TIM, Announce messages by the election they lead to, the rest by the messages PTP sends and remembers. -/
theorem ptpCommands : Obligations.PtpCommands := by
  unfold Obligations.PtpCommands
  refine ⟨?_, ?_, ?_, ?_, ?_, ?_, ?_, ?_, ?_, ?_⟩
  · intro a port m s hw htakes hparent hport hty htwo hpend
    exact oneStep_taken hw htakes hparent hport hty htwo hpend rfl rfl
  · intro a port m s hw htakes hparent hport hty htwo
    exact twoStep_taken hw htakes hparent hport hty htwo
  · intro a port m s hw htakes hty
    have htaken : (s.ptp.takes port.val m && ptpType m == 11) = true := by rw [htakes, hty]; rfl
    obtain ⟨hann, hparent, hshell, hbytes⟩ := election_leaves (s := s.at_ a) (s.at_ a).clockClass (s.at_ a).clockIdent
      (f := Ptp.announce (s.at_ a).clockClass (s.at_ a).clockIdent port.val m) (if_pos htaken)
    exact ⟨_, congrArg Host.Outcome.next (workOn_works (s := s.at_ a) _ hw), hann, hparent, hshell, at_sameBytes hbytes⟩
  · intro a port s hw
    obtain ⟨hann, hparent, hshell, hbytes⟩ := election_leaves (s := s.at_ a) (s.at_ a).clockClass (s.at_ a).clockIdent
      (f := Ptp.announceTimeout (s.at_ a).clockClass (s.at_ a).clockIdent port.val) rfl
    exact ⟨_, congrArg Host.Outcome.next (workOn_works (s := s.at_ a) _ hw), hann, hparent, hshell, at_sameBytes hbytes⟩
  · intro a port turn m s hw htakes hty
    obtain ⟨v, hreq, he⟩ := delayMessage_request (u := (s.at_ a).ptp) (ident := (s.at_ a).clockIdent) (epoch := (s.at_ a).epoch)
      (t := (s.at_ a).ingressAt port.val) (t3 := (s.at_ a).egressAt port.val + turn) htakes hty
    obtain ⟨hptp, hout, hshell, hbytes⟩ := quiet_ptp he rfl (plain_of_codes _ _ _ _)
    refine ⟨_, congrArg Host.Outcome.next (workOn_works (s := s.at_ a) _ hw), ?_, ?_, (congrArg Ptp.requests hptp).trans hreq, hshell,
      at_sameBytes hbytes⟩
    · rw [hout]
      exact List.mem_cons_of_mem _ List.mem_cons_self
    · rw [hout]
      exact List.mem_cons_self
  · intro a port turn m t1 s hw htakes hty htwo hfind
    obtain ⟨v, he, hreq, hlink⟩ := delayMessage_answer (u := (s.at_ a).ptp) (ident := (s.at_ a).clockIdent) (epoch := (s.at_ a).epoch)
      (t := (s.at_ a).ingressAt port.val) (t3 := (s.at_ a).egressAt port.val + turn) htakes hty htwo hfind
    obtain ⟨hptp, -, hshell, hbytes⟩ := quiet_ptp he rfl (plain_of_codes _ _ _ _)
    exact ⟨_, congrArg Host.Outcome.next (workOn_works (s := s.at_ a) _ hw), (congrArg (fun u : Ptp => rget u.regs _) hptp).trans hlink,
      (congrArg Ptp.requests hptp).trans hreq, hshell, at_sameBytes hbytes⟩
  · intro a port residence m s hw hlen h2 h3 h10 hnone
    obtain ⟨v, hregs, he⟩ := forward_eq (u := (s.at_ a).ptp) (now := (s.at_ a).tim.time) (residence := residence) port.isLt hlen h2 h3 h10 hnone
    obtain ⟨hptp, hout, hshell, hbytes⟩ := quiet_ptp he rfl (plain_of_codes _ _ _ _)
    refine ⟨_, congrArg Host.Outcome.next (workOn_works (s := s.at_ a) _ hw), fun h0 => ?_, fun h0 => ?_, hshell, at_sameBytes hbytes⟩
    · rw [if_neg h0] at hregs hout
      exact ⟨by rw [hout]; exact List.mem_cons_self, (congrArg (fun u : Ptp => rget u.regs Reg.PTP_TC_CNT) hptp).trans (by
        show rget v.regs _ = _
        rw [hregs]
        rfl)⟩
    · rw [if_pos h0] at hregs hout
      exact ⟨(congrArg (fun u : Ptp => rget u.regs Reg.PTP_TC_CNT) hptp).trans (by
        show rget v.regs _ = _
        rw [hregs]
        exact (rget_counted _ _ _).trans (if_pos rfl)), by rw [hout]; exact List.mem_cons_self⟩
  · intro a s hw htx
    obtain ⟨w, he⟩ : ∃ w, w = Ptp.sendSync (s.at_ a).clockClass (s.at_ a).clockIdent (s.feature 1 && rbit s.ptp.regs Reg.PTP_CFG 9) (s.at_ a).egressAt
      (s.at_ a).ptp := ⟨_, rfl⟩
    obtain ⟨hseq, hst, hplain, hsent⟩ := sendSync_leaves (u := (s.at_ a).ptp) _ _ htx he
    obtain ⟨hptp, hout, hshell, hbytes⟩ := quiet_ptp (s := s.at_ a) he.symm hst hplain
    refine ⟨_, congrArg Host.Outcome.next (workOn_works (s := s.at_ a) _ hw), (congrArg Ptp.seqSync hptp).trans hseq, fun p hp hf hone => ?_,
      fun p hp hone => ?_, hshell, at_sameBytes hbytes⟩
    · have h := hsent p hp
      rw [hf, hone] at h
      exact hout ▸ List.mem_append_left _ (List.mem_reverse.mpr h)
    · have h := hsent p hp
      rw [hone, Bool.and_false] at h
      exact hout ▸ List.mem_append_left _ (List.mem_reverse.mpr h)
  · intro a s hw htx
    obtain ⟨w, he⟩ : ∃ w, w = Ptp.sendAnnounce (s.at_ a).clockClass (s.at_ a).clockIdent (s.at_ a).tim.time (s.at_ a).ptp := ⟨_, rfl⟩
    obtain ⟨hseq, hst, hplain, hsent⟩ := sendAnnounce_leaves (u := (s.at_ a).ptp) _ htx he
    obtain ⟨hptp, hout, hshell, hbytes⟩ := quiet_ptp (s := s.at_ a) he.symm hst hplain
    refine ⟨_, congrArg Host.Outcome.next (workOn_works (s := s.at_ a) _ hw), (congrArg Ptp.seqAnn hptp).trans hseq, fun p hp => ?_, hshell,
      at_sameBytes hbytes⟩
    obtain ⟨body, h⟩ := hsent p hp
    exact ⟨body, hout ▸ List.mem_append_left _ (List.mem_reverse.mpr h)⟩
  · intro a port s hw hon hmeas
    obtain ⟨msg, he⟩ := requestDelay_eq (u := (s.at_ a).ptp) (ident := (s.at_ a).clockIdent) (t1 := (s.at_ a).egressAt port.val)
      (epoch := (s.at_ a).epoch) hon hmeas
    obtain ⟨hptp, -, hshell, hbytes⟩ := quiet_ptp he rfl (plain_of_codes _ _ _ _)
    exact ⟨_, congrArg Host.Outcome.next (workOn_works (s := s.at_ a) _ hw), congrArg Ptp.requests hptp, hshell, at_sameBytes hbytes⟩

end Sys2Proof.Proofs
end

section
/-! SUPPORT. What work leaves of the frames sent, of the samples kept for the Chain, and of a change of the program (R240, R254, R268), whatever
it delivers. -/

namespace Sys2Proof.Proofs

open Sys2Proof Sys2Proof.Machine

-- One proof after another: many at once wait for the kernel in threads of their own, which the check's memory limit does not hold.
set_option Elab.async false

/-! ## A sub-step -/

section
variable {U : Type} (put : U → State → State) (w : W U) (x : State × Fx)

/-- A sub-step's reads and stores leave the units as its own state is put back. -/
theorem sameUnits_absorb : State.SameUnits (put w.u x.1) (State.absorb put w x).1 :=
  ((sameUnits_storeAll w.st (put w.u x.1)).trans (sameUnits_readBlocks w.fx.reads _)).trans ⟨_, _, _, rfl⟩

theorem outbox_absorb : (State.absorb put w x).1.outbox = (put w.u x.1).outbox := by
  obtain ⟨_, _, _, h⟩ := sameUnits_absorb put w x
  rw [h]

theorem prg_absorb : (State.absorb put w x).1.prg = (put w.u x.1).prg := by
  obtain ⟨_, _, _, h⟩ := sameUnits_absorb put w x
  rw [h]

theorem emits_absorb : (State.absorb put w x).2.emits = x.2.emits ++ w.fx.emits := rfl

end

/-! ## Frames sent -/

/-- A commit in progress that has sent nothing yet and keeps the frames m to send. -/
def Sends (o m : List Emit) (x : State × Fx) : Prop := x.1.outbox = o ∧ ∀ e ∈ m, e ∈ x.2.emits

theorem Sends.absorb {o m : List Emit} {x : State × Fx} (h : Sends o m x) {U : Type} {put : U → State → State} {w : W U}
    (hput : (put w.u x.1).outbox = x.1.outbox) : Sends o m (State.absorb put w x) :=
  ⟨(outbox_absorb ..).trans (hput.trans h.1), fun e he => by rw [emits_absorb]; exact List.mem_append_left _ (h.2 e he)⟩

/-- Work sends what it emits, after what has been sent. -/
theorem outbox_commit (fx : Fx) (st : List Store) (s : State) :
    ∃ l, (s.commit fx st).outbox = l ++ s.outbox ∧ ∀ e ∈ fx.emits, e ∈ l := by
  unfold State.commit
  extract_lets x0 x1 x2 x3 s4 s5
  have h0 : Sends s.outbox fx.emits x0 := ⟨outbox_absorb .., fun e he => he⟩
  have h1 : Sends s.outbox fx.emits x1 := by
    refine foldl_keeps (Sends s.outbox fx.emits) _ (fun x p hx => ?_) _ _ h0
    unfold State.takeSample
    dsimp only
    split
    · exact Sends.absorb (x := ({ x.1 with chn := x.1.chn.mirrorSample p }, x.2)) (put := fun u s => { s with flt := u }) hx rfl
    · exact hx
  have h2 : Sends s.outbox fx.emits x2 := by
    refine foldl_keeps (Sends s.outbox fx.emits) _ (fun x p hx => ?_) _ _ h1
    unfold State.takePacket
    split
    · exact hx.absorb rfl
    · exact hx
  have h3 : Sends s.outbox fx.emits x3 := by
    refine foldl_keeps (Sends s.outbox fx.emits) _ (fun x p hx => ?_) _ _ h2
    unfold State.takeTrigger
    split
    · exact hx.absorb rfl
    · exact hx
  have h4 : s4.outbox = x3.1.outbox := congrArg (·.2.2.2.2.2) (inner_recordAll x3.2.codes (x3.1.flags x3.2.evts))
  have h5 : s5.outbox = s4.outbox := congrArg (·.2.2.2.2.2) (inner_snapTriggers x3.2.snaps x3.2.codes s4)
  refine ⟨x3.2.emits.reverse, ?_, fun e he => List.mem_reverse.mpr (h3.2 e he)⟩
  show x3.2.emits.reverse ++ s5.outbox = _
  rw [h5, h4, h3.1]

theorem sent_commit {fx : Fx} {e : Emit} (h : e ∈ fx.emits) (st : List Store) (s : State) : e ∈ (s.commit fx st).outbox := by
  obtain ⟨l, hl, hm⟩ := outbox_commit fx st s
  rw [hl]
  exact List.mem_append_left _ (hm e h)

theorem still_sent {s : State} {e : Emit} (h : e ∈ s.outbox) (fx : Fx) (st : List Store) : e ∈ (s.commit fx st).outbox := by
  obtain ⟨l, hl, -⟩ := outbox_commit fx st s
  rw [hl]
  exact List.mem_append_right _ h

/-! ## The state of a change -/

section
variable {u : Prg} {c : Word}

/-- The program with the state of a change c. -/
def ChangeAt (c : Word) (u : Prg) : Prop := rget u.regs Reg.PRG_CHG_STAT = c

/-- A cell of a task, a force entry or a core changed leaves the state of a change. -/
theorem changeAt_rmod {m : RMap} (h : rget m Reg.PRG_CHG_STAT = c) {k : Nat} (f : Word → Word) (hk : k % 0x400 ≠ Reg.PRG_CHG_STAT % 0x400) :
    rget (rmod m k f) Reg.PRG_CHG_STAT = c :=
  (rget_rmod_ne _ f (fun heq => hk (by rw [← heq]))).trans h

theorem ChangeAt.taskCell (h : ChangeAt c u) {r : Nat} (i : Nat) (f : Word → Word) (hr : r % 0x400 ≠ Reg.PRG_CHG_STAT % 0x400) :
    ChangeAt c (u.taskCell r i f) :=
  changeAt_rmod h f (by rw [rk_offset]; exact hr)

theorem ChangeAt.taskFlag (h : ChangeAt c u) (i b : Nat) (v : Bool) : ChangeAt c (u.taskFlag i b v) :=
  changeAt_rmod h (fun w => putBit w b v) (by rw [rk_offset]; decide)

theorem ChangeAt.putTask (h : ChangeAt c u) (i : Nat) (t : TaskState) : ChangeAt c (u.putTask i t) :=
  changeAt_rmod h (fun w => putBits w 2 0 t.phase.code) (by rw [rk_offset]; decide)

theorem ChangeAt.markForced (h : ChangeAt c u) (output : Bool) (e : MapEntry) : ChangeAt c (u.markForced output e) :=
  foldl_keeps (fun m : RMap => rget m Reg.PRG_CHG_STAT = c) _
    (fun _ _ hm => changeAt_rmod hm (fun w => putBit w 30 true) (by rw [rk_offset]; decide)) _ _ h

theorem ChangeAt.schedule (h : ChangeAt c u) {core : Nat} (hc : core < 3) : ChangeAt c (u.schedule core) := by
  have hcore : ∀ n, n < 3 → rk Reg.PRG_STAT n 0 % 0x400 ≠ Reg.PRG_CHG_STAT % 0x400 := by decide
  unfold Prg.schedule
  split
  · exact changeAt_rmod h (fun w => putBits w 15 8 0xFF) (hcore core hc)
  · next t _ => exact changeAt_rmod (h.putTask t.idx _) (fun w => putBits w 15 8 t.idx) (hcore core hc)

theorem ChangeAt.scheduleAll (h : ChangeAt c u) : ChangeAt c u.scheduleAll :=
  ((h.schedule (by decide)).schedule (by decide)).schedule (by decide)

end

section
variable {w : W Prg} {c : Word} {s : State}

theorem changeAt_copyIn (t : Task) (e : MapEntry) (h : ChangeAt c w.u) : ChangeAt c (Prg.copyIn s t w e).u := by
  unfold Prg.copyIn
  extract_lets base bad w1 w2 w3
  have h2 : ChangeAt c w2.u := ChangeAt.markForced (u := w1.u) h _ _
  have h3 : ChangeAt c w3.u := foldl_keeps (fun v : W Prg => ChangeAt c v.u) (fun v a => v.readN s.mem (Pg.PRG + t.core) a 1) (fun _ _ hv => hv) _ w2 h2
  exact when_keeps (P := fun v : W Prg => ChangeAt c v.u) (fun v hv => hv.taskFlag _ _ _) h3

theorem changeAt_releaseEvent (t : Task) (h : ChangeAt c w.u) : ChangeAt c (Prg.releaseEvent s t w).u := by
  have hcopy : ChangeAt c (Prg.copyInputs s t w).u :=
    foldl_keeps (fun v : W Prg => ChangeAt c v.u) _ (fun _ e hv => changeAt_copyIn t e hv) _ _ (h.taskFlag _ _ _)
  exact hcopy.putTask _ _

theorem changeAt_triggerTask (t : Task) (h : ChangeAt c w.u) : ChangeAt c (Prg.triggerTask s w t).u := by
  have hcount : ∀ (v : Prg) (f : Word → Word), ChangeAt c v → ChangeAt c (v.taskCell Reg.PRG_T_TRIG t.idx f) := fun v f hv =>
    hv.taskCell t.idx f (by decide)
  unfold Prg.triggerTask
  dsimp only
  split
  · exact changeAt_releaseEvent t (hcount _ _ h)
  · exact hcount _ _ (hcount _ _ h)
  · split
    · exact hcount _ _ (hcount _ _ h)
    · exact (hcount _ _ h).putTask _ _
  · split
    · exact changeAt_releaseEvent t ((hcount _ _ h).putTask _ _)
    · exact h
  · exact h

/-- An event trigger releases tasks and leaves the state of a change. -/
theorem changeAt_trigger (x : Trigger) (h : ChangeAt c w.u) : ChangeAt c (Prg.trigger s w x).u := by
  unfold Prg.trigger
  split
  · exact ChangeAt.scheduleAll (foldl_keeps (fun v : W Prg => ChangeAt c v.u) _ (fun _ t hv => changeAt_triggerTask t hv) _ _ h)
  · exact h

end

/-- Work of a unit other than the program leaves the state of a change, whatever it delivers. -/
theorem chgState_commit (fx : Fx) (st : List Store) (s : State) : (s.commit fx st).prg.chgState = s.prg.chgState := by
  suffices h : rget (s.commit fx st).prg.regs Reg.PRG_CHG_STAT = rget s.prg.regs Reg.PRG_CHG_STAT by
    unfold Prg.chgState rfld
    rw [h]
  unfold State.commit
  extract_lets x0 x1 x2 x3 s4 s5
  obtain ⟨c, hc⟩ : ∃ c, c = rget s.prg.regs Reg.PRG_CHG_STAT := ⟨_, rfl⟩
  rw [← hc]
  have h0 : ChangeAt c x0.1.prg := by
    rw [show x0.1.prg = s.prg from prg_absorb ..]
    exact hc.symm
  have h1 : ChangeAt c x1.1.prg := by
    refine foldl_keeps (fun x : State × Fx => ChangeAt c x.1.prg) _ (fun x p hx => ?_) _ _ h0
    unfold State.takeSample
    dsimp only
    split
    · rw [prg_absorb]; exact hx
    · exact hx
  have h2 : ChangeAt c x2.1.prg := by
    refine foldl_keeps (fun x : State × Fx => ChangeAt c x.1.prg) _ (fun x p hx => ?_) _ _ h1
    unfold State.takePacket
    split
    · rw [prg_absorb]; exact hx
    · exact hx
  have h3 : ChangeAt c x3.1.prg := by
    refine foldl_keeps (fun x : State × Fx => ChangeAt c x.1.prg) _ (fun x p hx => ?_) _ _ h2
    unfold State.takeTrigger
    split
    · rw [prg_absorb]
      exact changeAt_trigger (w := W.of x.1.prg) p hx
    · exact hx
  have h4 : s4.prg = x3.1.prg := congrArg (·.2.2.2.1) (inner_recordAll x3.2.codes (x3.1.flags x3.2.evts))
  have h5 : s5.prg = s4.prg := congrArg (·.2.2.2.1) (inner_snapTriggers x3.2.snaps x3.2.codes s4)
  show rget s5.prg.regs Reg.PRG_CHG_STAT = c
  rw [h5, h4]
  exact h3

/-! ## Samples kept for the Chain -/

theorem samples_setLog (l : Rec) (s : State) : (s.setLog l).chn.samples = s.chn.samples := by
  unfold State.setLog
  dsimp only
  split <;> rfl

theorem samples_record (c : Code) (s : State) : (s.record c).chn.samples = s.chn.samples := by
  have hnote : (s.chn.noteFault c.code).samples = s.chn.samples := by
    unfold Chn.noteFault
    split <;> rfl
  unfold State.record
  dsimp only
  split
  · exact (samples_setLog ..).trans hnote
  · exact hnote

theorem samples_recordAll (l : List Code) (s : State) : (s.recordAll l).chn.samples = s.chn.samples :=
  foldl_keeps (fun x : State => x.chn.samples = s.chn.samples) _ (fun x c hx => (samples_record c x).trans hx) _ _ rfl

theorem samples_snapshot (srcs code : Nat) (s : State) : (s.snapshot srcs code).chn.samples = s.chn.samples := by
  unfold State.snapshot
  extract_lets t w missed s1 s2 s3 s4
  split
  · exact samples_recordAll ..
  · have h4 : s4.chn.samples = s.chn.samples := samples_recordAll ..
    split
    · exact (samples_setLog ..).trans h4
    · exact h4

theorem samples_snapTriggers (srcs : List Nat) (codes : List Code) (s : State) : (s.snapTriggers srcs codes).chn.samples = s.chn.samples := by
  unfold State.snapTriggers
  extract_lets on f m
  split
  · rfl
  · exact samples_snapshot ..

/-- Plain work leaves the samples kept for the Chain. -/
theorem plain_samples {fx : Fx} (h : fx.Plain) (s : State) : (s.commit fx []).chn.samples = s.chn.samples := by
  rw [commit_plain h]
  exact (samples_snapTriggers ..).trans (samples_recordAll ..)

end Sys2Proof.Proofs
end

section
/-! SUPPORT. A Chain frame received (R262–R264, R274): when it is accepted, what taking it leaves of CHN before its own action, and what the action
keeps of the frames remembered and sent. -/

namespace Sys2Proof.Proofs

open Sys2Proof Sys2Proof.Machine

-- One proof after another: many at once wait for the kernel in threads of their own, which the check's memory limit does not hold.
set_option Elab.async false

/-! ## A frame taken -/

/-- The path bits that a sound copy of a frame leaves. -/
def chainPath (port : Nat) (f : ChainFrame) (w : W Chn) : W Chn := if f.subtype = 1 then Chn.markPath port f w else w

/-- The sender of a frame that has come with all its hops marked as a neighbour. -/
def chainNeighbour (f : ChainFrame) (u : Chn) : Chn := u.putMember f.origin { u.member f.origin with neighbour := true }

/-- CHN once it has forwarded an accepted frame, heard its stone and remembered it. -/
def chainTaken (e : ChnEnv) (port : Nat) (bs : List Byte) (f : ChainFrame) (u : Chn) : W Chn :=
  (Chn.hear e f.stone (chainPath port f ((Chn.forward port bs (W.of u)).when (f.hops == bits u.cfg 23 16) (·.map (chainNeighbour f))))).map
    (Chn.remember f.origin f.fseq)

section
variable {e : ChnEnv} {port : Nat} {bs : List Byte} {f : ChainFrame} {u : Chn}

theorem accepts_iff : u.accepts e bs = some f ↔ parseFrame bs = some f ∧ e.on = true ∧ f.origin ≠ u.base ∧ u.first f.origin f.fseq = true := by
  unfold Chn.accepts
  cases hp : parseFrame bs with
  | none => simp
  | some g =>
    simp only [Bool.and_eq_true, bne_iff_ne, Option.ite_none_right_eq_some, Option.some.injEq]
    constructor
    · rintro ⟨⟨⟨hon, hne⟩, hfirst⟩, rfl⟩
      exact ⟨rfl, hon, hne, hfirst⟩
    · rintro ⟨rfl, hon, hne, hfirst⟩
      exact ⟨⟨⟨hon, hne⟩, hfirst⟩, rfl⟩

/-- The fields of a frame read that its forwarding reads again. -/
theorem parseFrame_fields (h : parseFrame bs = some f) : f.origin = byteAt bs 2 ∧ f.hops = byteAt bs 3 := by
  unfold parseFrame at h
  dsimp only at h
  split at h
  · simp at h
  · split at h
    · simp at h
    · split at h
      · simp at h
      · obtain rfl := Option.some.inj h
        exact ⟨rfl, rfl⟩

/-- A reception acts on an accepted frame after it is taken. -/
theorem receive_accepted (h : u.accepts e bs = some f) (go : ChainFrame → W Chn → W Chn) :
    u.receive e port bs (chainPath port) go = go f (chainTaken e port bs f u) := by
  obtain ⟨hp, hon, hne, hfirst⟩ := accepts_iff.mp h
  unfold Chn.receive
  dsimp only
  rw [hon, hp]
  dsimp only
  rw [if_neg (by simp), if_neg hne, if_neg (by decide), if_pos hfirst]
  rfl

/-- A frame that PCRC, VERSION or BLEN fails is forwarded, counted and recorded. -/
theorem receive_bad (h : e.on = true ∨ e.halt = true) (hp : parseFrame bs = none) (dup go : ChainFrame → W Chn → W Chn) :
    u.receive e port bs dup go =
      ((Chn.forward port bs (W.of u)).map (fun u => u.mod Reg.CHN_CNT_BAD (fun c => incSatField c 15 0))).code Pg.CHN 0x1C10 [] := by
  unfold Chn.receive
  dsimp only
  rw [hp, if_neg (by rcases h with h | h <;> simp [h])]

/-! ## What taking leaves -/

/-- The cells that taking a frame may change. -/
def chainTakenCell (k : Nat) : Prop :=
  k % 0x400 = Reg.CHN_STATE % 0x400 ∨ k % 0x400 = Reg.CHN_STONE % 0x400 ∨ k % 0x400 = Reg.CHN_TOP % 0x400 ∨ k % 0x400 = Reg.CHN_MEM_STAT % 0x400

/-- The registers after CHN_STATE, CHN_STONE and CHN_TOP are brought up to date. -/
theorem chnRefresh_leaves (count : Nat) (u : Chn) :
    ∃ r, Chn.refresh count u = { u with
        stones := u.stones.filter (fun e => decide (count < e.1 + 4))
        regs := r } ∧ ∀ k, k ≠ Reg.CHN_STATE → k ≠ Reg.CHN_STONE → k ≠ Reg.CHN_TOP → rget r k = rget u.regs k :=
  ⟨_, rfl, fun k h1 h2 h3 => by
    rw [rget_rset, if_neg h3, rget_rset, if_neg h2]
    exact rget_rmod_ne _ (fun w => putBits (putBit (putBits w 2 0 u.role) 3 u.synced) 15 8 ((u.top count).toNat % 256)) h1⟩

theorem member_putMember (u : Chn) (b : Nat) (m : Member) (j : Nat) : (u.putMember b m).member j = if j = b then m else u.member j :=
  sget_sset _ _ _ _ _

/-- Members mapped at one base stand at the others. -/
theorem sget_map_ne {V : Type} (d : Nat → V) (l : List (Nat × V)) (g : Nat × V → Nat × V) {b j : Nat} (hj : j ≠ b)
    (hg : ∀ x, (g x).1 = x.1 ∧ (x.1 ≠ b → g x = x)) : sget d (l.map g) j = sget d l j := by
  induction l with
  | nil => rfl
  | cons x l ih =>
    obtain ⟨hfst, hsame⟩ := hg x
    show (if j = (g x).1 then (g x).2 else sget d (l.map g) j) = if j = x.1 then x.2 else sget d l j
    rw [hfst, ih]
    by_cases hx : j = x.1
    · rw [if_pos hx, if_pos hx, hsame (fun h => hj (hx.trans h))]
    · rw [if_neg hx, if_neg hx]

/-- The neighbour mark and the path bits leave everything but the sender's own entry and CHN_MEM_STAT. -/
theorem chainPath_leaves (c : Bool) (port : Nat) (f : ChainFrame) (w : W Chn) :
    ∃ m r, (chainPath port f (w.when c (·.map (chainNeighbour f)))).u = { w.u with
        members := m
        regs := r } ∧
      (∀ k, k % 0x400 ≠ Reg.CHN_MEM_STAT % 0x400 → rget r k = rget w.u.regs k) ∧ (∀ b, b ≠ f.origin → sget memberDefault m b = w.u.member b) ∧
      (chainPath port f (w.when c (·.map (chainNeighbour f)))).st = w.st ∧
      (chainPath port f (w.when c (·.map (chainNeighbour f)))).fx = w.fx := by
  obtain ⟨v, hv⟩ : ∃ v, v = w.when c (·.map (chainNeighbour f)) := ⟨_, rfl⟩
  have hmark : ∃ m r, v.u = { w.u with
        members := m
        regs := r } ∧ (∀ k, k % 0x400 ≠ Reg.CHN_MEM_STAT % 0x400 → rget r k = rget w.u.regs k) ∧
      (∀ b, b ≠ f.origin → sget memberDefault m b = w.u.member b) ∧ v.st = w.st ∧ v.fx = w.fx := by
    rw [hv]
    cases c with
    | true =>
      exact ⟨_, _, rfl, fun k hk => (rget_rset ..).trans (if_neg (ne_of_offset hk)), fun b hb => (member_putMember ..).trans (if_neg hb), rfl, rfl⟩
    | false => exact ⟨w.u.members, w.u.regs, rfl, fun _ _ => rfl, fun _ _ => rfl, rfl, rfl⟩
  obtain ⟨m, r, hu, hcell, hmem, hst, hfx⟩ := hmark
  rw [← hv]
  unfold chainPath
  split
  · refine ⟨_, r, by
      show ({ v.u with members := _ } : Chn) = _
      rw [hu], hcell, fun b hb => ?_, hst, hfx⟩
    refine (sget_map_ne _ _ _ hb fun x => ?_).trans (hmem b hb)
    split
    · next hx => exact ⟨rfl, fun h => absurd hx h⟩
    · exact ⟨rfl, fun _ => rfl⟩
  · exact ⟨m, r, hu, hcell, hmem, hst, hfx⟩

/-- A frame forwarded: sent on while hops remain, unless it is the own one. -/
theorem forward_leaves (port : Nat) (bs : List Byte) (u : Chn) :
    (Chn.forward port bs (W.of u)).u = u ∧ (Chn.forward port bs (W.of u)).st = [] ∧
    (∃ l, (Chn.forward port bs (W.of u)).fx = { Fx.none with emits := l }) ∧
    (byteAt bs 3 ≠ 0 → byteAt bs 2 ≠ u.base → Emit.eth (1 - port) (setAt bs 3 (BitVec.ofNat 8 (byteAt bs 3 - 1))) ∈
      (Chn.forward port bs (W.of u)).fx.emits) := by
  have hw : ∀ c : Bool, ((W.of u).when c (·.emit (.eth (1 - port) (setAt bs 3 (BitVec.ofNat 8 (byteAt bs 3 - 1)))))).u = u ∧
      ((W.of u).when c (·.emit (.eth (1 - port) (setAt bs 3 (BitVec.ofNat 8 (byteAt bs 3 - 1)))))).st = [] ∧
      (∃ l, ((W.of u).when c (·.emit (.eth (1 - port) (setAt bs 3 (BitVec.ofNat 8 (byteAt bs 3 - 1)))))).fx = { Fx.none with emits := l }) ∧
      (c = true → Emit.eth (1 - port) (setAt bs 3 (BitVec.ofNat 8 (byteAt bs 3 - 1))) ∈
        ((W.of u).when c (·.emit (.eth (1 - port) (setAt bs 3 (BitVec.ofNat 8 (byteAt bs 3 - 1)))))).fx.emits) := fun c => by
    cases c with
    | true => exact ⟨rfl, rfl, ⟨_, rfl⟩, fun _ => List.mem_cons_self⟩
    | false => exact ⟨rfl, rfl, ⟨[], rfl⟩, fun h => by simp at h⟩
  obtain ⟨h1, h2, h3, h4⟩ := hw (decide (byteAt bs 3 ≠ 0) && decide (byteAt bs 2 ≠ u.base))
  exact ⟨h1, h2, h3, fun ha hb => h4 (by simp [ha, hb])⟩

/-- What taking an accepted frame leaves of CHN: the stone heard, the frame remembered and sent on. -/
structure Chn.Taken (e : ChnEnv) (port : Nat) (bs : List Byte) (f : ChainFrame) (u : Chn) (w : W Chn) (m : List (Nat × Member)) (r : RMap)
    (q : List (Nat × Nat × List Nat)) : Prop where
  state : w.u = { u with
    members := m
    regs := r
    seen := q
    stones := ((e.count, f.stone) :: u.stones).filter (fun x => decide (e.count < x.1 + 4))
    eMax := if e.keeps then max u.eMax (f.stone.toNat / 256) else u.eMax }
  cells : ∀ k, k % 0x400 ≠ Reg.CHN_MEM_STAT % 0x400 → k ≠ Reg.CHN_STATE → k ≠ Reg.CHN_STONE → k ≠ Reg.CHN_TOP → rget r k = rget u.regs k
  members : ∀ b, b ≠ f.origin → sget memberDefault m b = u.member b
  first : ∀ v : Chn, v.seen = q → v.first f.origin f.fseq = false
  stores : w.st = []
  reads : w.fx.reads = []
  samples : w.fx.samples = []
  sends : f.hops ≠ 0 → Emit.eth (1 - port) (setAt bs 3 (BitVec.ofNat 8 (f.hops - 1))) ∈ w.fx.emits

/-- A frame remembered is no first copy any more. -/
theorem first_remembered (u v : Chn) (o q : Nat) (h : v.seen = (Chn.remember o q u).seen) : v.first o q = false := by
  unfold Chn.first
  rw [h]
  unfold Chn.remember
  dsimp only
  rw [List.find?_cons_of_pos (by simp)]
  dsimp only
  rw [List.take_cons (by decide)]
  simp

theorem chainTaken_leaves (h : u.accepts e bs = some f) :
    ∃ m r q, Chn.Taken e port bs f u (chainTaken e port bs f u) m r q := by
  obtain ⟨hp, -, hne, -⟩ := accepts_iff.mp h
  obtain ⟨horigin, hhops⟩ := parseFrame_fields hp
  obtain ⟨hfu, hfst, ⟨l, hfx⟩, hsent⟩ := forward_leaves port bs u
  obtain ⟨m, r, hu, hcell, hmem, hst, hpfx⟩ := chainPath_leaves (f.hops == bits u.cfg 23 16) port f (Chn.forward port bs (W.of u))
  obtain ⟨v, hv⟩ : ∃ v, v = chainPath port f ((Chn.forward port bs (W.of u)).when (f.hops == bits u.cfg 23 16) (·.map (chainNeighbour f))) := ⟨_, rfl⟩
  rw [← hv] at hu hst hpfx
  rw [hfu] at hu hcell hmem
  obtain ⟨r2, hr2, hcell2⟩ := chnRefresh_leaves e.count { v.u with
    stones := (e.count, f.stone) :: v.u.stones
    eMax := if e.keeps then max v.u.eMax (f.stone.toNat / 256) else v.u.eMax }
  obtain ⟨x, hx⟩ : ∃ x, x = Chn.hear e f.stone v := ⟨_, rfl⟩
  have hheard : x.u = Chn.refresh e.count { v.u with
        stones := (e.count, f.stone) :: v.u.stones
        eMax := if e.keeps then max v.u.eMax (f.stone.toNat / 256) else v.u.eMax } ∧ x.st = v.st ∧ x.fx.reads = v.fx.reads ∧
      x.fx.samples = v.fx.samples ∧ x.fx.emits = v.fx.emits := by
    rw [hx]
    unfold Chn.hear
    dsimp only
    generalize (decide (256 ≤ f.stone.toNat) && decide ((v.u.top e.count).toNat < f.stone.toNat)) = b
    cases b <;> exact ⟨rfl, rfl, rfl, rfl, rfl⟩
  obtain ⟨hxu, hxst, hxreads, hxsamples, hxemits⟩ := hheard
  have htaken : chainTaken e port bs f u = x.map (Chn.remember f.origin f.fseq) := by rw [hx, hv]; rfl
  rw [hr2, hu] at hxu
  rw [hu] at hcell2
  rw [htaken]
  refine ⟨m, r2, (Chn.remember f.origin f.fseq x.u).seen, ?_, fun k h0 h1 h2 h3 => (hcell2 k h1 h2 h3).trans (hcell k h0), hmem,
    fun y hy => first_remembered _ _ _ _ hy, hxst.trans (hst.trans hfst), ?_, ?_, fun hh => ?_⟩
  · show Chn.remember f.origin f.fseq x.u = _
    generalize hq : (Chn.remember f.origin f.fseq x.u).seen = q
    have hrem : Chn.remember f.origin f.fseq x.u = { x.u with seen := q } := by rw [← hq]; rfl
    rw [hrem, hxu]
  · rw [show (x.map (Chn.remember f.origin f.fseq)).fx = x.fx from rfl, hxreads, hpfx, hfx]
    rfl
  · rw [show (x.map (Chn.remember f.origin f.fseq)).fx = x.fx from rfl, hxsamples, hpfx, hfx]
    rfl
  · show _ ∈ x.fx.emits
    rw [hxemits, hpfx, hhops]
    exact hsent (hhops ▸ hh) (horigin ▸ hne)

end

/-! ## What the action on a frame keeps -/

/-- CHN at work with frames q remembered, frames m sent and d stored. -/
structure ChnHolds (q : List (Nat × Nat × List Nat)) (m : List Emit) (d : List Store) (w : W Chn) : Prop where
  seen : w.u.seen = q
  sent : ∀ x ∈ m, x ∈ w.fx.emits
  stored : w.st = d

section
variable {q : List (Nat × Nat × List Nat)} {m : List Emit} {d : List Store} {w : W Chn}

theorem ChnHolds.map (h : ChnHolds q m d w) {g : Chn → Chn} (hg : ∀ u, (g u).seen = u.seen := by exact fun _ => rfl) : ChnHolds q m d (w.map g) :=
  ⟨(hg _).trans h.seen, h.sent, h.stored⟩

theorem ChnHolds.code (h : ChnHolds q m d w) (p c : Nat) (l : List Word) : ChnHolds q m d (w.code p c l) := ⟨h.seen, h.sent, h.stored⟩
theorem ChnHolds.evt (h : ChnHolds q m d w) (p k : Nat) : ChnHolds q m d (w.evt p k) := ⟨h.seen, h.sent, h.stored⟩
theorem ChnHolds.event (h : ChnHolds q m d w) (c : Nat) : ChnHolds q m d (w.chainEvent c) := ⟨h.seen, h.sent, h.stored⟩
theorem ChnHolds.sample (h : ChnHolds q m d w) (x : Sample) : ChnHolds q m d (w.sample x) := ⟨h.seen, h.sent, h.stored⟩

theorem ChnHolds.emit (h : ChnHolds q m d w) (x : Emit) : ChnHolds q m d (w.emit x) :=
  ⟨h.seen, fun y hy => List.mem_append_left _ (h.sent y hy), h.stored⟩

theorem ChnHolds.when (h : ChnHolds q m d w) {c : Bool} {f : W Chn → W Chn} (hf : ∀ v, ChnHolds q m d v → ChnHolds q m d (f v)) :
    ChnHolds q m d (w.when c f) :=
  when_keeps hf h

theorem ChnHolds.ite {c : Prop} [Decidable c] {v w : W Chn} (hv : ChnHolds q m d v) (hw : ChnHolds q m d w) :
    ChnHolds q m d (if c then v else w) := by
  split
  · exact hv
  · exact hw

theorem ChnHolds.send (h : ChnHolds q m d w) (e : ChnEnv) (sub : Nat) (body : List Byte) : ChnHolds q m d (Chn.send e sub body w) :=
  .ite (((h.map).emit _).emit _) h

theorem ChnHolds.setRole (h : ChnHolds q m d w) (e : ChnEnv) (role epoch code : Nat) : ChnHolds q m d (Chn.setRole e role epoch code w) :=
  ((h.map).evt _ _ |>.code _ _ _).event _

theorem ChnHolds.claim (h : ChnHolds q m d w) (e : ChnEnv) (epoch code : Nat) : ChnHolds q m d (Chn.claim e epoch code w) :=
  .ite (h.code _ _ _) (h.setRole e _ _ _)

theorem ChnHolds.depose (h : ChnHolds q m d w) (e : ChnEnv) (stone : Word) : ChnHolds q m d (Chn.depose e stone w) :=
  h.when fun _ hv => hv.setRole e _ _ _

theorem ChnHolds.takeHeartbeat (h : ChnHolds q m d w) (e : ChnEnv) (port : Nat) (f : ChainFrame) :
    ChnHolds q m d (Chn.takeHeartbeat e port f w) := by
  have hround : ∀ u, (Chn.round e u).seen = u.seen := fun u => by
    unfold Chn.round
    split <;> rfl
  unfold Chn.takeHeartbeat
  refine .ite ((h.map).code _ _ _) ?_
  extract_lets hb b m' w1 w2 forced w3 shelf w4
  have h4 : ChnHolds q m d w4 :=
    (((h.map hround).when fun _ hv => hv.event _).when fun _ hv => hv.event _).when fun _ hv => hv.code _ _ _
  split
  exact .ite (ChnHolds.depose (.ite (h4.map.code _ _ _) (.ite (h4.map.map.code _ _ _) h4.map.map)) e _)
    (.ite (h4.map.code _ _ _) (.ite (h4.map.map.code _ _ _) h4.map.map))

theorem ChnHolds.takeVerdict (h : ChnHolds q m d w) (e : ChnEnv) (f : ChainFrame) : ChnHolds q m d (Chn.takeVerdict e f w) := by
  unfold Chn.takeVerdict
  extract_lets v word same w1 w0 w2
  have h1 : ChnHolds q m d w1 := h.when fun _ hv => ((hv.map).evt _ _).code _ _ _
  have h2 : ChnHolds q m d w2 := h1.map
  exact .ite ((h2.map).claim e _ _) (.ite h2 (h2.depose e _))

theorem ChnHolds.takePub (h : ChnHolds q m d w) (s : State) (e : ChnEnv) (f : ChainFrame) : ∃ d', ChnHolds q m d' (Chn.takePub s e f w) := by
  unfold Chn.takePub
  extract_lets n part data
  split
  split
  · exact ⟨_, h.seen, h.sent, rfl⟩
  · exact ⟨d, h⟩

theorem ChnHolds.takeOutput (h : ChnHolds q m d w) (e : ChnEnv) (f : ChainFrame) : ChnHolds q m d (Chn.takeOutput e f w) :=
  .ite h (.ite (h.map) ((h.map).when fun _ hv => hv.code _ _ _))

theorem ChnHolds.takeInput (h : ChnHolds q m d w) (f : ChainFrame) : ChnHolds q m d (Chn.takeInput f w) := .ite (h.map) h

theorem ChnHolds.takeSamples (h : ChnHolds q m d w) (f : ChainFrame) : ChnHolds q m d (Chn.takeSamples f w) :=
  foldl_keeps (ChnHolds q m d) _ (fun _ x hv => hv.sample x) _ _ h

theorem ChnHolds.takeState (h : ChnHolds q m d w) (e : ChnEnv) (f : ChainFrame) : ChnHolds q m d (Chn.takeState e f w) :=
  .ite h (.ite (h.map) ((h.when fun _ hv => hv.map).map))

theorem ChnHolds.opFinish (h : ChnHolds q m d w) (timeout : Bool) : ChnHolds q m d (Chn.opFinish timeout w) :=
  .ite ((((h.map).evt _ _).event _).when fun _ hv => hv.code _ _ _) h

theorem ChnHolds.takeAck (h : ChnHolds q m d w) (f : ChainFrame) : ChnHolds q m d (Chn.takeAck f w) := by
  refine .ite (.ite (.opFinish (h.map fun u => ?_) _) h) h
  split <;> rfl

end

end Sys2Proof.Proofs
end

section
/-! SUPPORT. The action on an accepted Chain frame (R267, R270, R272, R273, R275, R278, R282, R284), by what it leaves of CHN. -/

namespace Sys2Proof.Proofs

open Sys2Proof Sys2Proof.Machine

-- One proof after another: many at once wait for the kernel in threads of their own, which the check's memory limit does not hold.
set_option Elab.async false

/-! ## Records and events -/

theorem u_whenCode {U : Type} (c : Bool) (p code : Nat) (l : List Word) (w : W U) : (w.when c (·.code p code l)).u = w.u := by
  cases c <;> rfl

theorem u_whenEvent (c : Bool) (n : Nat) (w : W Chn) : (w.when c (·.chainEvent n)).u = w.u := by
  cases c <;> rfl

/-! ## Heartbeats (R267) -/

section
variable {e : ChnEnv} {f : ChainFrame} {w : W Chn}

theorem members_depose (stone : Word) : (Chn.depose e stone w).u.members = w.u.members :=
  u_when (g := Chn.members) (f := Chn.setRole e 2 0 0x1C21) (fun _ => rfl) _ _

theorem round_leaves (e : ChnEnv) (u : Chn) :
    ∃ r, Chn.round e u = { u with regs := r } ∧ ∀ k, k ≠ Reg.CHN_ROUND → rget r k = rget u.regs k := by
  unfold Chn.round
  split
  · exact ⟨_, rfl, fun k hk => rget_rmod_ne _ (fun w => putBits (putBits w 15 0 (min (e.tick - e.hbStart) 65535)) 31 16
      (max (bits w 31 16) (min (e.tick - e.hbStart) 65535))) hk⟩
  · exact ⟨u.regs, rfl, fun _ _ => rfl⟩

/-- A heartbeat noted as the last heard of its member. -/
def heartbeatNoted (h : Heartbeat) (b : Nat) (u : Chn) : Chn := u.putMember b { u.member b with last := some h }

/-- A heartbeat in its time kept for the judgment. -/
def heartbeatKept (h : Heartbeat) (b : Nat) (u : Chn) : Chn :=
  u.putMember b { u.member b with
    heard := h :: (u.member b).heard.take 3
    faults := (decide (3 ≤ h.fault / 4096) :: (u.member b).faults).take 64 }

/-- Whether a fathom number is that of the last judgment. -/
def judgedAlready (judged : Option Nat) (fno : Word) : Bool :=
  match judged with
  | some j => decide (fno = wd j)
  | none => false

theorem not_judgedAlready {judged : Option Nat} {fno : Word} (h : ∀ j, judged = some j → fno ≠ wd j) : judgedAlready judged fno = false := by
  cases judged with
  | none => rfl
  | some j => exact decide_eq_false (h j rfl)

/-- A heartbeat noted, and kept unless in RUN it comes out of its time or late. -/
def heartbeatTimed (e : ChnEnv) (window : Nat) (judged : Option Nat) (f : ChainFrame) (h : Heartbeat) (w : W Chn) : W Chn :=
  if e.run && !((f.fno == wd (e.expected window).1) || ((e.expected window).2 && f.fno == wd ((e.expected window).1 + 1))) then
    (w.map (heartbeatNoted h f.origin)).code Pg.CHN 0x3C14 [wd f.origin, f.fno]
  else if e.run && judgedAlready judged f.fno then
    ((w.map (heartbeatNoted h f.origin)).map (fun u => u.mod Reg.CHN_CNT_BAD (fun c => incSatField c 23 16))).code Pg.CHN 0x1C13
      [wd f.origin, f.fno]
  else (w.map (heartbeatNoted h f.origin)).map (heartbeatKept h f.origin)

theorem member_heartbeatNoted (h : Heartbeat) (b : Nat) (u : Chn) :
    ((heartbeatNoted h b u).member b).last = some h ∧ ∀ j, j ≠ b → (heartbeatNoted h b u).member j = u.member j := by
  unfold heartbeatNoted
  exact ⟨by rw [member_putMember, if_pos rfl], fun j hj => (member_putMember ..).trans (if_neg hj)⟩

theorem member_heartbeatKept (h : Heartbeat) (b : Nat) (u : Chn) :
    ((heartbeatKept h b u).member b).last = (u.member b).last ∧ (∃ l, ((heartbeatKept h b u).member b).heard = h :: l) ∧
    ∀ j, j ≠ b → (heartbeatKept h b u).member j = u.member j := by
  unfold heartbeatKept
  refine ⟨by rw [member_putMember, if_pos rfl], ⟨(u.member b).heard.take 3, by rw [member_putMember, if_pos rfl]⟩,
    fun j hj => (member_putMember ..).trans (if_neg hj)⟩

theorem heartbeatTimed_leaves (window : Nat) (judged : Option Nat) (h : Heartbeat) :
    ((heartbeatTimed e window judged f h w).u.member f.origin).last = some h ∧
    ((e.run = true → f.fno = wd (e.expected window).1 ∧ ∀ j, judged = some j → f.fno ≠ wd j) →
      ∃ l, ((heartbeatTimed e window judged f h w).u.member f.origin).heard = h :: l) ∧
    ∀ b, b ≠ f.origin → (heartbeatTimed e window judged f h w).u.member b = w.u.member b := by
  obtain ⟨hlast, hother⟩ := member_heartbeatNoted h f.origin w.u
  obtain ⟨klast, ⟨l, kheard⟩, kother⟩ := member_heartbeatKept h f.origin (heartbeatNoted h f.origin w.u)
  unfold heartbeatTimed
  split
  · next hout =>
    refine ⟨hlast, fun hin => ?_, hother⟩
    obtain ⟨hrun, hmiss⟩ := Bool.and_eq_true_iff.mp hout
    rw [(hin hrun).1] at hmiss
    simp at hmiss
  · split
    · next hlate =>
      refine ⟨hlast, fun hin => ?_, hother⟩
      obtain ⟨hrun, hj⟩ := Bool.and_eq_true_iff.mp hlate
      rw [not_judgedAlready (hin hrun).2] at hj
      simp at hj
    · exact ⟨klast.trans hlast, fun _ => ⟨l, kheard⟩, fun b hb => (kother b hb).trans (hother b hb)⟩

theorem takeHeartbeat_leaves (port : Nat) (hlen : f.body.length = 48) :
    ((Chn.takeHeartbeat e port f w).u.member f.origin).last = some (readHeartbeat f port) ∧
    ((e.run = true → f.fno = wd (e.expected w.u.window).1 ∧ ∀ j, w.u.judged = some j → f.fno ≠ wd j) →
      ∃ l, ((Chn.takeHeartbeat e port f w).u.member f.origin).heard = readHeartbeat f port :: l) ∧
    ∀ b, b ≠ f.origin → (Chn.takeHeartbeat e port f w).u.member b = w.u.member b := by
  obtain ⟨v, hform, hv⟩ : ∃ v : W Chn, Chn.takeHeartbeat e port f w =
      (if (readHeartbeat f port).role = 1 then Chn.depose e f.stone (heartbeatTimed e v.u.window v.u.judged f (readHeartbeat f port) v)
        else heartbeatTimed e v.u.window v.u.judged f (readHeartbeat f port) v) ∧ v.u = Chn.round e w.u := by
    refine ⟨_, if_neg (not_not.mpr hlen), ?_⟩
    exact (u_whenCode ..).trans ((u_whenEvent ..).trans (u_whenEvent ..))
  obtain ⟨r, hr, hcell⟩ := round_leaves e w.u
  have hwindow : v.u.window = w.u.window := by
    rw [hv, hr]
    exact congrArg (bits · 15 0) (hcell Reg.CHN_WINDOW (by decide))
  have hjudged : v.u.judged = w.u.judged := by rw [hv, hr]
  have hmember : ∀ b, v.u.member b = w.u.member b := fun b => by rw [hv, hr]; rfl
  obtain ⟨hlast, hheard, hother⟩ := heartbeatTimed_leaves (e := e) (f := f) (w := v) v.u.window v.u.judged (readHeartbeat f port)
  rw [hwindow, hjudged] at hlast hheard hother hform
  generalize heartbeatTimed e w.u.window w.u.judged f (readHeartbeat f port) v = x at *
  have hall : ∀ b, (Chn.takeHeartbeat e port f w).u.member b = x.u.member b := fun b => by
    rw [hform]
    unfold Chn.member
    split
    · rw [members_depose]
    · rfl
  rw [hall]
  exact ⟨hlast, hheard, fun b hb => (hall b).trans ((hother b hb).trans (hmember b))⟩

/-! ## Verdicts (R275, R278) -/

/-- A change of role sets the role, the stone that goes with it, and of the cells those of CHN_STATE, CHN_STONE and CHN_TOP. -/
theorem setRole_leaves (role epoch code : Nat) :
    (Chn.setRole e role epoch code w).u.role = role ∧
    (role = 1 → (Chn.setRole e role epoch code w).u.stone = wd (256 * (epoch % 0x1000000) + w.u.base)) ∧
    ∀ k, k ≠ Reg.CHN_STATE → k ≠ Reg.CHN_STONE → k ≠ Reg.CHN_TOP → rget (Chn.setRole e role epoch code w).u.regs k = rget w.u.regs k := by
  obtain ⟨r, hr, hcell⟩ := chnRefresh_leaves e.count { w.u with
    role := role
    synced := if role = 2 ∨ role = 0 then false else w.u.synced
    selfClaimed := decide (code = 0x1C24)
    stone := if role = 1 then wd (256 * (epoch % 0x1000000) + w.u.base) else wd w.u.base
    eMax := if role = 1 then max w.u.eMax (epoch % 0x1000000) else w.u.eMax }
  have hu : (Chn.setRole e role epoch code w).u = _ := hr
  rw [hu]
  exact ⟨rfl, fun h => if_pos h, hcell⟩

theorem cells_depose (stone : Word) {k : Nat} (h1 : k ≠ Reg.CHN_STATE) (h2 : k ≠ Reg.CHN_STONE) (h3 : k ≠ Reg.CHN_TOP) :
    rget (Chn.depose e stone w).u.regs k = rget w.u.regs k :=
  u_when (g := fun u : Chn => rget u.regs k) (f := Chn.setRole e 2 0 0x1C21) (fun _ => (setRole_leaves ..).2.2 k h1 h2 h3) _ _

theorem cells_claim (epoch code : Nat) {k : Nat} (h1 : k ≠ Reg.CHN_STATE) (h2 : k ≠ Reg.CHN_STONE) (h3 : k ≠ Reg.CHN_TOP) :
    rget (Chn.claim e epoch code w).u.regs k = rget w.u.regs k := by
  unfold Chn.claim
  dsimp only
  split
  · rfl
  · exact (setRole_leaves ..).2.2 k h1 h2 h3

/-- A claim that the epochs allow makes the member ACTIVE with an epoch of its own. -/
theorem claim_succeeds {epoch code : Nat} (hmax : w.u.eMax < 0xFFFFFF) (hep : epoch ≤ 0xFFFFFF) :
    (Chn.claim e epoch code w).u.role = 1 ∧ 256 ≤ (Chn.claim e epoch code w).u.stone.toNat := by
  have hle : ¬ 0xFFFFFF < max (w.u.eMax + 1) epoch := by omega
  obtain ⟨hrole, hstone, -⟩ := setRole_leaves (e := e) (w := w) 1 (max (w.u.eMax + 1) epoch) code
  have hclaim : Chn.claim e epoch code w = Chn.setRole e 1 (max (w.u.eMax + 1) epoch) code w := if_neg hle
  rw [hclaim]
  refine ⟨hrole, ?_⟩
  have hbase := chn_base_lt w.u
  rw [hstone rfl, toNat_wd (by omega)]
  omega

/-- The word of CHN_VERDICT that shows a verdict. -/
def verdictWord (v : VerdictMsg) : Word := wd (v.failed + 256 * v.successor + 0x10000 * (v.reason % 8))

/-- CHN with a verdict shown, recorded when it is not the one shown before. -/
def verdictNoted (f : ChainFrame) (w : W Chn) : W Chn :=
  w.when (!(rget w.u.regs Reg.CHN_VERDICT == verdictWord (readVerdict f.body) && rget w.u.regs Reg.CHN_VERDICT_FNO == (readVerdict f.body).fno))
    (fun w => ((w.map (Chn.showVerdict (readVerdict f.body))).evt Pg.CHN 2).code Pg.CHN 0x1C22
      [wd (readVerdict f.body).failed, wd (readVerdict f.body).successor])

theorem verdictNoted_leaves (f : ChainFrame) (w : W Chn) :
    ∃ r, (verdictNoted f w).u = { w.u with regs := r } ∧ rget r Reg.CHN_VERDICT = verdictWord (readVerdict f.body) ∧
      rget r Reg.CHN_VERDICT_FNO = (readVerdict f.body).fno ∧ ∀ k, k ≠ Reg.CHN_VERDICT → k ≠ Reg.CHN_VERDICT_FNO → rget r k = rget w.u.regs k := by
  unfold verdictNoted
  by_cases hsame : (rget w.u.regs Reg.CHN_VERDICT == verdictWord (readVerdict f.body) &&
      rget w.u.regs Reg.CHN_VERDICT_FNO == (readVerdict f.body).fno) = true
  · rw [hsame]
    obtain ⟨h1, h2⟩ := Bool.and_eq_true_iff.mp hsame
    exact ⟨w.u.regs, rfl, beq_iff_eq.mp h1, beq_iff_eq.mp h2, fun _ _ _ => rfl⟩
  · rw [Bool.eq_false_iff.mpr hsame]
    refine ⟨rset (rset w.u.regs Reg.CHN_VERDICT (verdictWord (readVerdict f.body))) Reg.CHN_VERDICT_FNO (readVerdict f.body).fno, rfl, ?_, ?_,
      fun k h1 h2 => ?_⟩
    · rw [rget_rset, if_neg (by decide), rget_rset, if_pos rfl]
    · rw [rget_rset, if_pos rfl]
    · rw [rget_rset, if_neg h2, rget_rset, if_neg h1]

/-- A verdict shows, and makes a STANDBY that it names ACTIVE while the epochs allow. -/
theorem takeVerdict_leaves :
    rget (Chn.takeVerdict e f w).u.regs Reg.CHN_VERDICT = verdictWord (readVerdict f.body) ∧
    rget (Chn.takeVerdict e f w).u.regs Reg.CHN_VERDICT_FNO = (readVerdict f.body).fno ∧
    ((readVerdict f.body).successor = w.u.base → w.u.role = 2 → w.u.eMax < 0xFFFFFF →
      (Chn.takeVerdict e f w).u.role = 1 ∧ 256 ≤ (Chn.takeVerdict e f w).u.stone.toNat) := by
  obtain ⟨r, hu, hword, hfno, hcell⟩ := verdictNoted_leaves f w
  obtain ⟨v, hv⟩ : ∃ v, v = verdictNoted f w := ⟨_, rfl⟩
  rw [← hv] at hu
  obtain ⟨x, hx⟩ : ∃ x : W Chn, x = v.map (fun u => { u with eMax := if e.keeps then max u.eMax (readVerdict f.body).epoch else u.eMax }) := ⟨_, rfl⟩
  obtain ⟨y, hy⟩ : ∃ y : W Chn, y = x.map (fun u => { u with eMax := v.u.eMax }) := ⟨_, rfl⟩
  have hvbase : v.u.base = w.u.base := by
    rw [hu]
    exact congrArg (bits · 7 0) (hcell Reg.CHN_BASE (by decide) (by decide))
  have hform : Chn.takeVerdict e f w =
      if (readVerdict f.body).successor = x.u.base ∧ x.u.role = 2 then Chn.claim e (readVerdict f.body).epoch 0x0C20 y
      else if (readVerdict f.body).successor = x.u.base then x
      else Chn.depose e (wd (256 * (readVerdict f.body).epoch + (readVerdict f.body).successor)) x := by
    rw [hy, hx, hv]
    rfl
  have hxregs : x.u.regs = r := by rw [hx, ← show v.u.regs = r by rw [hu]]; rfl
  have hyregs : y.u.regs = r := by rw [hy, ← hxregs]; rfl
  have hcells : ∀ k, k ≠ Reg.CHN_STATE → k ≠ Reg.CHN_STONE → k ≠ Reg.CHN_TOP → rget (Chn.takeVerdict e f w).u.regs k = rget r k := fun k h1 h2 h3 => by
    rw [hform]
    split
    · rw [cells_claim _ _ h1 h2 h3, hyregs]
    · split
      · rw [hxregs]
      · rw [cells_depose _ h1 h2 h3, hxregs]
  refine ⟨(hcells _ (by decide) (by decide) (by decide)).trans hword, (hcells _ (by decide) (by decide) (by decide)).trans hfno,
    fun hs hrole hmax => ?_⟩
  have hxbase : x.u.base = w.u.base := by rw [← hvbase, hx]; rfl
  have hxrole : x.u.role = 2 := by rw [← hrole, ← show v.u.role = w.u.role by rw [hu], hx]; rfl
  have hymax : y.u.eMax = w.u.eMax := by rw [hy, ← show v.u.eMax = w.u.eMax by rw [hu]]; rfl
  rw [hform, if_pos ⟨hs.trans hxbase.symm, hxrole⟩]
  refine claim_succeeds (by rw [hymax]; exact hmax) ?_
  have : (readVerdict f.body).epoch = (be32 f.body 4).toNat % 0x1000000 := rfl
  omega

/-! ## Outputs (R273, R274) -/

/-- The highest of a stone and those of a list. -/
def stoneMax (a : Word) (x : Nat × Word) : Word := if a.toNat < x.2.toNat then x.2 else a

theorem stoneMax_toNat (a : Word) (x : Nat × Word) : (stoneMax a x).toNat = max a.toNat x.2.toNat := by
  unfold stoneMax
  split <;> omega

theorem foldl_stoneMax_toNat (l : List (Nat × Word)) (a : Word) : (l.foldl stoneMax a).toNat = l.foldl (fun m x => max m x.2.toNat) a.toNat := by
  induction l generalizing a with
  | nil => rfl
  | cons x l ih => rw [List.foldl_cons, List.foldl_cons, ih, stoneMax_toNat]

theorem foldl_max (l : List (Nat × Word)) (a b : Nat) :
    l.foldl (fun m x => max m x.2.toNat) (max a b) = max (l.foldl (fun m x => max m x.2.toNat) a) b := by
  induction l generalizing a with
  | nil => rfl
  | cons x l ih =>
    rw [List.foldl_cons, List.foldl_cons, ← ih, Nat.max_right_comm]

/-- CHN_TOP once a stone has been heard: the higher of the two. -/
theorem top_heard (u v : Chn) (count : Nat) (stone : Word) (hs : v.stone = u.stone)
    (hl : v.stones = ((count, stone) :: u.stones).filter (fun x => decide (count < x.1 + 4))) :
    v.top count = if (u.top count).toNat ≤ stone.toNat then stone else u.top count := by
  have htop : ∀ x : Chn, x.top count = (x.stones.filter (fun e => decide (count < e.1 + 4))).foldl stoneMax x.stone := fun _ => rfl
  have hv : (v.top count).toNat = max (u.top count).toNat stone.toNat := by
    rw [htop, htop, hl, hs, List.filter_filter, foldl_stoneMax_toNat, foldl_stoneMax_toNat]
    simp only [Bool.and_self]
    rw [List.filter_cons_of_pos (by simp), List.foldl_cons, foldl_max]
  apply BitVec.eq_of_toNat_eq
  rw [hv]
  split <;> omega

/-- Outputs under the highest stone wait for the next LATCH, others do not. -/
theorem takeOutput_leaves (hrole : w.u.role = 4) :
    (f.stone = w.u.top e.count → (Chn.takeOutput e f w).u.output = some (f.stone, readBeWords (f.body.length / 4) f.body)) ∧
    (f.stone ≠ w.u.top e.count → (Chn.takeOutput e f w).u.output = w.u.output) := by
  have hform : Chn.takeOutput e f w = _ := if_neg (not_not.mpr hrole)
  rw [hform]
  refine ⟨fun h => ?_, fun h => ?_⟩
  · rw [if_pos h]
    rfl
  · rw [if_neg h]
    exact (congrArg Chn.output (u_whenCode ..)).trans rfl

/-! ## State parts (R282) -/

/-- A part of a unit's state is kept by the joiner that it names. -/
theorem takeState_leaves (hbase : byteAt f.body 0 = w.u.base) (hunit : byteAt f.body 1 ≠ 0x15) (hrole : w.u.role = 2) (hsync : w.u.synced = false) :
    (Chn.takeState e f w).u.sync = some (e.count - e.count % 4294967296 + (be32 f.body 8).toNat) ∧
    ∃ p, p ∈ (Chn.takeState e f w).u.parts ∧ p.unit = byteAt f.body 1 ∧ (be16 f.body 2, f.body.drop 12) ∈ p.got := by
  have hform : Chn.takeState e f w = ((w.when (decide (w.u.sync ≠ some (e.count - e.count % 4294967296 + (be32 f.body 8).toNat)))
      (·.map (fun u => { u.joinStat 2 0 0 0 with
        sync := some (e.count - e.count % 4294967296 + (be32 f.body 8).toNat)
        parts := [] }))).map (fun u => { u with parts := addPart u.parts (byteAt f.body 1) (be16 f.body 4) (be16 f.body 2) (f.body.drop 12) })) :=
    (if_neg (by simp [hbase, hrole, hsync])).trans (if_neg hunit)
  rw [hform]
  obtain ⟨S, hS⟩ : ∃ S, S = e.count - e.count % 4294967296 + (be32 f.body 8).toNat := ⟨_, rfl⟩
  rw [← hS]
  refine ⟨?_, ⟨_, List.mem_cons_self, rfl, List.mem_cons_self⟩⟩
  by_cases hs : w.u.sync = some S
  · rw [decide_eq_false (not_not.mpr hs)]
    exact hs
  · rw [decide_eq_true hs]
    rfl

/-! ## Acknowledgements (R284) -/

/-- An operation that finishes keeps the answers marked and NAK of CHN_OP_STAT. -/
theorem opFinish_leaves (w : W Chn) :
    (∀ k, k ≠ Reg.CHN_OP_STAT → rget (Chn.opFinish false w).u.regs k = rget w.u.regs k) ∧
    rbit (Chn.opFinish false w).u.regs Reg.CHN_OP_STAT 3 = rbit w.u.regs Reg.CHN_OP_STAT 3 := by
  have hbit : ∀ b : Bool, bit (putBit (putBit (putBit (rget w.u.regs Reg.CHN_OP_STAT) 0 false) 1 true) 2 b) 3 = bit (rget w.u.regs Reg.CHN_OP_STAT) 3 := fun b => by
    rw [bit_putBit _ _ _ (by decide), if_neg (by decide), bit_putBit _ _ _ (by decide), if_neg (by decide), bit_putBit _ _ _ (by decide),
      if_neg (by decide)]
  have hcell : ∀ b : Bool, rget (rmod w.u.regs Reg.CHN_OP_STAT (fun x => putBit (putBit (putBit x 0 false) 1 true) 2 b)) Reg.CHN_OP_STAT = _ := fun b =>
    (rget_rmod _ _ (fun x => putBit (putBit (putBit x 0 false) 1 true) 2 b) _).trans (if_pos rfl)
  unfold Chn.opFinish
  extract_lets u open_ nak w1
  split
  · refine ⟨fun k hk => (congrArg (fun u : Chn => rget u.regs k) (u_whenCode ..)).trans
      (rget_rmod_ne _ (fun x => putBit (putBit (putBit x 0 false) 1 true) 2 (!open_.isEmpty)) hk), ?_⟩
    refine (congrArg (fun u : Chn => rbit u.regs Reg.CHN_OP_STAT 3) (u_whenCode ..)).trans ?_
    exact (congrArg (bit · 3) (hcell (!open_.isEmpty))).trans (hbit _)
  · exact ⟨fun _ _ => rfl, rfl⟩

theorem baseCell_offset (r b : Nat) : baseCell r b % 0x400 = r % 0x400 := rk_offset r 0 (b / 32)

theorem rbit_mark (r b : Nat) (u : Chn) : rbit (u.mark r b).regs (baseCell r b) (b % 32) = true :=
  (rbit_putBit u.regs (baseCell r b) (b % 32) true (Nat.mod_lt _ (by decide))).trans (if_pos rfl)

/-- An answer to the operation in progress marks its target. -/
theorem takeAck_leaves (hop : byteAt f.body 0 = rfld w.u.regs Reg.CHN_OP_STAT 15 8) (hid : byteAt f.body 1 = w.u.opId) (hbusy : w.u.opBusy = true)
    (htgt : rbit w.u.regs (baseCell Reg.CHN_OP_TGT f.origin) (f.origin % 32) = true) :
    (byteAt f.body 2 = 0 → rbit (Chn.takeAck f w).u.regs (baseCell Reg.CHN_OP_ACK f.origin) (f.origin % 32) = true) ∧
    (byteAt f.body 2 ≠ 0 → rbit (Chn.takeAck f w).u.regs (baseCell Reg.CHN_OP_NAK f.origin) (f.origin % 32) = true ∧
      rbit (Chn.takeAck f w).u.regs Reg.CHN_OP_STAT 3 = true) := by
  have hne : ∀ r, r % 0x400 ≠ Reg.CHN_OP_STAT % 0x400 → baseCell r f.origin ≠ Reg.CHN_OP_STAT := fun r hr h =>
    hr ((baseCell_offset r f.origin).symm.trans (congrArg (· % 0x400) h))
  have hform : Chn.takeAck f w = Chn.opFinish false (w.map (fun u =>
      if byteAt f.body 2 = 0 then u.mark Reg.CHN_OP_ACK f.origin
      else (u.mark Reg.CHN_OP_NAK f.origin).mod Reg.CHN_OP_STAT (fun x => putBit x 3 true))) :=
    (if_pos ⟨hop, hid⟩).trans (if_pos (by rw [hbusy, htgt]; rfl))
  rw [hform]
  obtain ⟨hcell, hnak⟩ := opFinish_leaves (w.map (fun u =>
      if byteAt f.body 2 = 0 then u.mark Reg.CHN_OP_ACK f.origin
      else (u.mark Reg.CHN_OP_NAK f.origin).mod Reg.CHN_OP_STAT (fun x => putBit x 3 true)))
  refine ⟨fun h0 => ?_, fun h0 => ⟨?_, ?_⟩⟩
  · unfold rbit
    rw [hcell _ (hne _ (by decide))]
    simp only [W.map, if_pos h0]
    exact rbit_mark ..
  · unfold rbit
    rw [hcell _ (hne _ (by decide))]
    simp only [W.map, if_neg h0]
    exact (congrArg (bit · _) (rget_rmod_ne _ (fun x => putBit x 3 true) (hne _ (by decide)))).trans (rbit_mark ..)
  · rw [hnak]
    simp only [W.map, if_neg h0]
    exact (rbit_putBit _ _ _ _ (by decide)).trans (if_pos rfl)

end

end Sys2Proof.Proofs
end

section
/-! SUPPORT. A Chain frame received, in the module (R262–R264, R268–R270, R273, R284): what it leaves beside CHN. -/

namespace Sys2Proof.Proofs

open Sys2Proof Sys2Proof.Machine

-- One proof after another: many at once wait for the kernel in threads of their own, which the check's memory limit does not hold.
set_option Elab.async false

/-! ## CHN's work in the module -/

section
variable {s t : State} {w : W Chn}

/-- CHN's work by the module it leaves: CHN as the work says but for the fault noted and the samples mirrored, and the rest as it was. -/
theorem onChn_leaves (w : W Chn) (s : State) (ht : t = s.onChn (fun _ => w)) :
    (∃ x y, t.chn = { w.u with
      fault := x
      samples := y }) ∧ t.shell = { s.shell with chn := t.shell.chn } ∧ (w.st = [] → s.SameBytes t) ∧ (∀ e ∈ w.fx.emits, e ∈ t.outbox) ∧
    (∀ e ∈ s.outbox, e ∈ t.outbox) := by
  have hchn : t.chn = { w.u with
      fault := t.chn.fault
      samples := t.chn.samples } := by rw [ht]; exact onChn_chn _ s
  have hshell : t.shell = { s.shell with chn := t.shell.chn } := by rw [ht]; exact shell_onChn_chn _ s
  refine ⟨⟨t.chn.fault, t.chn.samples, hchn⟩, hshell, fun h b => ?_, fun e he => ?_, fun e he => ?_⟩
  · rw [ht]
    exact (byte_onChn ..).trans (by rw [h]; rfl)
  · rw [ht]
    exact sent_commit he _ _
  · rw [ht]
    exact still_sent (s := { s with chn := w.u }) he _ _

end

/-! ## The frame taken or refused -/

section
variable {s : State} {a : At} {port : Fin 2} {bs : List Byte} {f : ChainFrame}

theorem chainFrame_accepted (h : s.Accepts bs f) (sub : Nat) (go : ChainFrame → W Chn → W Chn) :
    s.chainFrame sub port bs go = s.onChn (fun _ =>
      if f.subtype = sub then go f (chainTaken s.chnEnv port.val bs f s.chn) else chainTaken s.chnEnv port.val bs f s.chn) := by
  obtain ⟨hup, hacc⟩ := h
  have he := receive_accepted (port := port.val) hacc (fun f w => if f.subtype = sub then go f w else w)
  exact (upOn_up _ hup).trans (congrArg (fun w : W Chn => ({ s with chn := w.u } : State).commit w.fx w.st) he)

/-- An accepted frame of its own subtype is acted on. -/
theorem chainFrame_acts (h : s.Accepts bs f) {sub : Nat} (hsub : f.subtype = sub) (go : ChainFrame → W Chn → W Chn) :
    s.chainFrame sub port bs go = s.onChn (fun _ => go f (chainTaken s.chnEnv port.val bs f s.chn)) := by
  rw [chainFrame_accepted h, if_pos hsub]

theorem acceptedOf_accepted (h : s.Accepts bs f) (sub : Nat) : s.acceptedOf sub bs = if f.subtype = sub then some f else none := by
  obtain ⟨hup, hacc⟩ := h
  unfold State.acceptedOf
  rw [if_pos hup, hacc]
  by_cases hs : f.subtype = sub
  · rw [if_pos hs]
    simp [Option.filter, hs]
  · rw [if_neg hs]
    simp [Option.filter, hs]

theorem acceptedOf_bad (hp : parseFrame bs = none) (sub : Nat) : s.acceptedOf sub bs = none := by
  have hacc : s.chn.accepts s.chnEnv bs = none := by
    unfold Chn.accepts
    rw [hp]
  unfold State.acceptedOf
  rw [hacc]
  split <;> rfl

theorem parsed_of_accepts (h : s.Accepts bs f) : parseFrame bs = some f ∧ s.chnEnv.on = true ∧ f.origin ≠ s.chn.base :=
  ⟨(accepts_iff.mp h.2).1, (accepts_iff.mp h.2).2.1, (accepts_iff.mp h.2).2.2.1⟩

/-! ## A frame that fails -/

/-- In whatever command a bad frame comes, it is received and nothing follows. -/
theorem bad_received (hp : parseFrame bs = none) {c : Instr} (hc : c ∈ chainReceives a port bs) :
    ∃ sub go, exec c s = .next ((s.at_ a).chainFrame sub port bs go) := by
  have hafter : ∀ (sub : Nat) (act : ChainFrame → State → State) (t : State),
      (match (s.at_ a).acceptedOf sub bs with | some f => act f t | none => t) = t := fun sub act t => by rw [acceptedOf_bad hp]
  simp only [chainReceives, List.mem_cons, List.not_mem_nil, or_false] at hc
  rcases hc with rfl | rfl | rfl | rfl | rfl | rfl | rfl | rfl | rfl | rfl
  · exact ⟨1, _, rfl⟩
  · exact ⟨2, _, rfl⟩
  · exact ⟨3, _, rfl⟩
  · exact ⟨4, _, rfl⟩
  · exact ⟨5, _, rfl⟩
  · exact ⟨6, _, rfl⟩
  · exact ⟨7, fun _ w => w, congrArg Host.Outcome.next (hafter 7 State.takeDatagram _)⟩
  · exact ⟨8, _, rfl⟩
  · exact ⟨9, fun _ w => w, congrArg Host.Outcome.next (hafter 9 State.takeOp _)⟩
  · exact ⟨10, _, rfl⟩

theorem bits_incSatField (w : Word) : bits (incSatField w 15 0) 15 0 = satInc 16 (bits w 15 0) := by
  have hle : satInc 16 (bits w 15 0) < 65536 := by
    unfold satInc
    split <;> omega
  unfold incSatField
  rw [bits_putBits_same _ _ (by decide) (by decide)]
  exact Nat.mod_eq_of_lt hle

/-- A bad frame is counted and recorded, and changes nothing else. -/
theorem bad_leaves (hup : s.pageUp Pg.CHN = true) (hon : s.chnEnv.on = true ∨ s.chnEnv.halt = true) (hp : parseFrame bs = none) (sub : Nat)
    (go : ChainFrame → W Chn → W Chn) {t : State} (ht : t = s.chainFrame sub port bs go) :
    t.errCode Pg.CHN = 0x1C10 ∧ rfld t.chn.regs Reg.CHN_CNT_BAD 15 0 = satInc 16 (rfld s.chn.regs Reg.CHN_CNT_BAD 15 0) ∧
    t.chn = { s.chn with
      regs := t.chn.regs
      fault := t.chn.fault } ∧
    t.shell = { s.shell with chn := t.shell.chn } ∧ s.SameBytes t := by
  obtain ⟨hu, hst, ⟨l, hfx⟩, -⟩ := forward_leaves port.val bs s.chn
  obtain ⟨v, hv⟩ : ∃ v, v = Chn.forward port.val bs (W.of s.chn) := ⟨_, rfl⟩
  rw [← hv] at hu hst hfx
  obtain ⟨w, hw⟩ : ∃ w, w = (v.map (fun u => u.mod Reg.CHN_CNT_BAD (fun c => incSatField c 15 0))).code Pg.CHN 0x1C10 [] := ⟨_, rfl⟩
  have hchain : t = s.onChn (fun _ => w) := by
    rw [ht, hw, hv]
    exact (upOn_up _ hup).trans (congrArg (fun w : W Chn => ({ s with chn := w.u } : State).commit w.fx w.st)
      (receive_bad (port := port.val) (u := s.chn) hon hp _ _))
  have hwu : w.u = s.chn.mod Reg.CHN_CNT_BAD (fun c => incSatField c 15 0) := by
    rw [hw]
    show v.u.mod _ _ = _
    rw [hu]
  have hwst : w.st = [] := by rw [hw]; exact hst
  have hwfx : w.fx = { Fx.none with
      codes := [⟨Pg.CHN, 0x1C10, [], false⟩]
      emits := l } := by
    rw [hw]
    show ({ v.fx with codes := v.fx.codes ++ [⟨Pg.CHN, 0x1C10, [], false⟩] } : Fx) = _
    rw [hfx]
    rfl
  obtain ⟨⟨x, y, hchn⟩, hshell, hbytes, -, -⟩ := onChn_leaves w s hchain
  have hplain : w.fx.Plain := by rw [hwfx]; exact plain_of_codes _ _ _ _
  have hform : t = ({ s with chn := w.u } : State).commit w.fx [] := by
    rw [hchain, ← hwst]
    rfl
  have hsamples : t.chn.samples = s.chn.samples := by
    rw [hform, plain_samples hplain, hwu]
    rfl
  rw [hwu] at hchn
  have hy : y = s.chn.samples := by rw [← hsamples, hchn]
  refine ⟨?_, ?_, ?_, hshell, hbytes hwst⟩
  · rw [hform]
    exact errCode_commit_delivers (l := []) (c := ⟨Pg.CHN, 0x1C10, [], false⟩) [] { s with chn := w.u } (by rw [hwfx]; rfl)
      (by decide : Pg.CHN ≠ Pg.SNAP) (by decide : Pg.CHN ≠ Pg.FLT) hplain.pushes hplain.triggers
  · rw [hchn]
    exact (congrArg (bits · 15 0) ((rget_rmod _ _ (fun c => incSatField c 15 0) _).trans (if_pos rfl))).trans (bits_incSatField _)
  · rw [hchn, hy]
    rfl

end

/-! ## A Chain operation on the own registers (R284) -/

/-- What an operation on the own registers leaves: CHN, whether it works, the frames sent and every byte. -/
structure OpActed (s t : State) : Prop where
  chn : t.shell.chn = s.shell.chn
  on : t.chnEnv.on = s.chnEnv.on
  sent : ∀ e ∈ s.outbox, e ∈ t.outbox
  bytes : s.SameBytes t

section
variable {s t v : State}

theorem OpActed.refl (s : State) : OpActed s s := ⟨rfl, rfl, fun _ h => h, fun _ => rfl⟩

theorem OpActed.trans (h : OpActed s t) (k : OpActed t v) : OpActed s v :=
  ⟨k.chn.trans h.chn, k.on.trans h.on, fun e he => k.sent e (h.sent e he), fun b => (k.bytes b).trans (h.bytes b)⟩

theorem chnEnv_on (s : State) : s.chnEnv.on = (s.works Pg.CHN && bit s.chn.cfg 0 && s.mode != .boot) := rfl

theorem chnCfg_of_shell (h : t.shell.chn = s.shell.chn) : t.chn.cfg = s.chn.cfg := (congrArg (fun u : Chn => u.cfg) h :)

theorem chnBase_of_shell (h : t.shell.chn = s.shell.chn) : t.chn.base = s.chn.base := (congrArg (fun u : Chn => u.base) h :)

theorem opActed_commit (fx : Fx) (s : State) : OpActed s (s.commit fx []) := by
  have hchn : (s.commit fx []).shell.chn = s.shell.chn := congrArg State.chn (shell_commit fx [] s)
  refine ⟨hchn, ?_, fun e he => still_sent he _ _, fun b => bytes_commit ..⟩
  rw [chnEnv_on, chnEnv_on, works_commit, chnCfg_of_shell hchn, commit_mode]

theorem opActed_seq (x : Machine.Seq) (s : State) : OpActed s { s with seq := x } := ⟨rfl, rfl, fun _ h => h, fun _ => rfl⟩
theorem opActed_prg (x : Prg) (s : State) : OpActed s { s with prg := x } := ⟨rfl, rfl, fun _ h => h, fun _ => rfl⟩
theorem opActed_tim (x : Tim) (s : State) : OpActed s { s with tim := x } := ⟨rfl, rfl, fun _ h => h, fun _ => rfl⟩

/-- PAGE_SEQ of another page counted. -/
theorem opActed_hdrSeq {p : Nat} (h : cellKey Pg.CHN 8 0 ≠ cellKey p 0x1C 0) (s : State) : OpActed s { s with hdr := hdrSeq s.hdr p } := by
  refine ⟨rfl, ?_, fun _ h => h, fun _ => rfl⟩
  have hworks : ({ s with hdr := hdrSeq s.hdr p } : State).works Pg.CHN = s.works Pg.CHN := by
    unfold State.works hdrEnabled rbit hdrSeq
    dsimp only
    rw [rget_rmod_ne s.hdr (fun w => w + 1#32) h]
    rfl
  rw [chnEnv_on, chnEnv_on, hworks]

theorem swapRequest_leaves (m : Mem) (g : FurlongIn) (u : Seq) :
    (Seq.swapRequest m g u).st = [] ∧ rget (Seq.swapRequest m g u).u.regs Reg.SEQ_SWAP_AT = rget u.regs Reg.SEQ_SWAP_AT := by
  have hstat : ∀ (v : Seq) (k : Word → Word), rget (v.swapStat k).regs Reg.SEQ_SWAP_AT = rget v.regs Reg.SEQ_SWAP_AT := fun v k =>
    rget_rmod_ne v.regs k (by decide)
  unfold Seq.swapRequest
  split
  · exact ⟨rfl, rfl⟩
  · dsimp only
    cases validateBank m g (!u.bank) u.shadowCnt with
    | none => exact ⟨rfl, (hstat (Seq.showVerdict none u) (fun x => putBit x 2 false)).trans (hstat ..)⟩
    | some v => exact ⟨rfl, (hstat (Seq.showVerdict (some v) u) (fun x => putBit x 2 true)).trans (hstat ..)⟩

/-- A swap requested by an operation. -/
theorem opActed_swapRequest (z : State) :
    OpActed z z.swapRequest ∧ rget z.swapRequest.seq.regs Reg.SEQ_SWAP_AT = rget z.seq.regs Reg.SEQ_SWAP_AT := by
  obtain ⟨w, hw⟩ : ∃ w, w = Seq.swapRequest z.mem z.furlongIn z.seq := ⟨_, rfl⟩
  obtain ⟨hst, hkeep⟩ := swapRequest_leaves z.mem z.furlongIn z.seq
  rw [← hw] at hst hkeep
  have hform : z.swapRequest = ({ z with seq := w.u } : State).commit w.fx [] := by
    rw [← hst, hw]
    rfl
  rw [hform, commit_seq]
  exact ⟨(opActed_seq w.u z).trans (opActed_commit _ _), hkeep⟩

/-- An operation that asks for a swap sets SEQ_SWAP_AT. -/
theorem actOp_swap (arg : Nat) (s : State) : OpActed s (s.actOp 1 arg).1 ∧ rget (s.actOp 1 arg).1.seq.regs Reg.SEQ_SWAP_AT = wd arg := by
  obtain ⟨y, hy⟩ : ∃ y : State, y = { s with seq := { s.seq with regs := rset s.seq.regs Reg.SEQ_SWAP_AT (wd arg) } } := ⟨_, rfl⟩
  obtain ⟨z, hz⟩ : ∃ z : State, z = { y with hdr := hdrSeq y.hdr Pg.SEQ } := ⟨_, rfl⟩
  have hact : OpActed s z := by
    rw [hz]
    exact OpActed.trans (by rw [hy]; exact opActed_seq _ s) (opActed_hdrSeq (by decide) y)
  have hcell : rget z.seq.regs Reg.SEQ_SWAP_AT = wd arg := by
    rw [hz, hy]
    exact (rget_rset ..).trans (if_pos rfl)
  have hop : s.actOp 1 arg = if z.seq.swapPending then (z, 0, 0)
      else if z.swapRequest.seq.swapPending then (z.swapRequest, 0, 0) else (z.swapRequest, 1, 0x201) := by
    rw [hz, hy]
    exact if_pos rfl
  obtain ⟨hswap, hkeep⟩ := opActed_swapRequest z
  have hboth : OpActed s z.swapRequest ∧ rget z.swapRequest.seq.regs Reg.SEQ_SWAP_AT = wd arg := ⟨hact.trans hswap, hkeep.trans hcell⟩
  rw [hop]
  split
  · exact ⟨hact, hcell⟩
  · split
    · exact hboth
    · exact hboth

/-- A change of the program asked for changes its registers alone and delivers nothing. -/
theorem progChange_leaves (feat inRun : Bool) (u : Prg) :
    (u.change feat inRun).Quiet ∧ (u.change feat inRun).st = [] ∧
    rget (u.change feat inRun).u.regs Reg.PRG_CHG_AT = rget u.regs Reg.PRG_CHG_AT ∧
    (feat = true → inRun = true → u.chgState = 2 → (u.change feat inRun).u.chgState = 3) := by
  have hrefuse : ∀ r, (u.refuse r).Quiet ∧ (u.refuse r).st = [] ∧ rget (u.refuse r).u.regs Reg.PRG_CHG_AT = rget u.regs Reg.PRG_CHG_AT := fun r =>
    ⟨⟨rfl, rfl, rfl⟩, rfl, rget_rmod_ne u.regs (fun w => putBits (putBits w 2 0 5) 7 4 r) (by decide)⟩
  unfold Prg.change
  split
  · next hf =>
    obtain ⟨h1, h2, h3⟩ := hrefuse 1
    exact ⟨h1, h2, h3, fun hfeat => absurd hf (by simp [hfeat])⟩
  · split
    · next hr =>
      obtain ⟨h1, h2, h3⟩ := hrefuse 8
      exact ⟨h1, h2, h3, fun _ hrun hc => absurd hr (by simp [hrun, hc])⟩
    · refine ⟨⟨rfl, rfl, rfl⟩, rfl, ?_, fun _ _ _ => ?_⟩
      · exact (rget_rmod_ne _ (fun w => putBits w 31 16 0) (by decide)).trans (rget_rmod_ne u.regs (fun w => putBits w 2 0 3) (by decide))
      · have hcell : rget (rmod (u.putState 3).regs Reg.PRG_CHG_STAT (fun w => putBits w 31 16 0)) Reg.PRG_CHG_STAT =
            putBits (putBits (rget u.regs Reg.PRG_CHG_STAT) 2 0 3) 31 16 0 :=
          (rget_rmod _ _ (fun w => putBits w 31 16 0) _).trans ((if_pos rfl).trans (congrArg (putBits · 31 16 0)
            ((rget_rmod _ _ (fun w => putBits w 2 0 3) _).trans (if_pos rfl))))
        refine (congrArg (bits · 2 0) hcell).trans ?_
        refine (bits_congr fun i _ h2 => ?_ : _ = bits (putBits (rget u.regs Reg.PRG_CHG_STAT) 2 0 3) 2 0).trans (bits_putBits_same _ _ (by decide) (by decide))
        rw [getLsbD_putBits _ _ _ _ (by decide) (by omega), if_neg (by omega)]

/-- A change requested by an operation. -/
theorem opActed_change (feat inRun : Bool) (z : State) :
    OpActed z (z.onPrg (Prg.change feat inRun)) ∧ (z.onPrg (Prg.change feat inRun)).prg = (z.prg.change feat inRun).u := by
  obtain ⟨hquiet, hst, -, -⟩ := progChange_leaves feat inRun z.prg
  obtain ⟨w, hw⟩ : ∃ w, w = z.prg.change feat inRun := ⟨_, rfl⟩
  rw [← hw] at hquiet hst
  have hform : z.onPrg (Prg.change feat inRun) = ({ z with prg := w.u } : State).commit w.fx [] := by
    rw [← hst, hw]
    rfl
  rw [hform, ← hw]
  exact ⟨(opActed_prg w.u z).trans (opActed_commit _ _), prg_commit hquiet⟩

/-- An operation that asks for a change of the program sets PRG_CHG_AT, and begins to wait where a change may. -/
theorem actOp_change (arg : Nat) (s : State) :
    OpActed s (s.actOp 2 arg).1 ∧ rget (s.actOp 2 arg).1.prg.regs Reg.PRG_CHG_AT = wd arg ∧
    (s.feature 11 = true → s.mode = .run → s.prg.chgState = 2 → (s.actOp 2 arg).1.prg.chgState = 3) := by
  obtain ⟨y, hy⟩ : ∃ y : State, y = { s with prg := { s.prg with regs := rset s.prg.regs Reg.PRG_CHG_AT (wd arg) } } := ⟨_, rfl⟩
  obtain ⟨z, hz⟩ : ∃ z : State, z = { y with hdr := hdrSeq y.hdr Pg.PRG } := ⟨_, rfl⟩
  have hact : OpActed s z := by
    rw [hz]
    exact OpActed.trans (by rw [hy]; exact opActed_prg _ s) (opActed_hdrSeq (by decide) y)
  have hcell : rget z.prg.regs Reg.PRG_CHG_AT = wd arg := by
    rw [hz, hy]
    exact (rget_rset ..).trans (if_pos rfl)
  have hstate : z.prg.chgState = s.prg.chgState := by
    rw [hz, hy]
    exact congrArg (bits · 2 0) ((rget_rset ..).trans (if_neg (by decide)))
  have hmode : z.mode = s.mode := by rw [hz, hy]
  have hfeature : z.feature 11 = s.feature 11 := by rw [hz, hy]; rfl
  obtain ⟨v, hv⟩ : ∃ v, v = z.onPrg (Prg.change (z.feature 11) (z.mode == .run)) := ⟨_, rfl⟩
  have hop : s.actOp 2 arg = if v.prg.chgState = 3 then (v, 0, 0) else (v, 1, 0xB02) := by
    rw [hv, hz, hy]
    exact (if_neg (by decide)).trans (if_pos rfl)
  have hfirst : (s.actOp 2 arg).1 = v := by
    rw [hop]
    split <;> rfl
  obtain ⟨-, -, hkeep, hbegin⟩ := progChange_leaves (z.feature 11) (z.mode == .run) z.prg
  obtain ⟨hchange, hprg⟩ := opActed_change (z.feature 11) (z.mode == .run) z
  rw [← hv] at hchange hprg
  rw [hfirst, hprg]
  exact ⟨hact.trans hchange, hkeep.trans hcell, fun hf hrun hc => hbegin (hfeature.trans hf) (by rw [hmode, hrun]; rfl) (hstate.trans hc)⟩

/-- An operation that asks for a snapshot arms a comparator on an instant to come, or is refused. -/
theorem actOp_other {op : Nat} (h1 : op ≠ 1) (h2 : op ≠ 2) (arg : Nat) (s : State) : OpActed s (s.actOp op arg).1 := by
  obtain ⟨u, hu⟩ : ∃ u : Tim, u = { s.tim with
    regs := rset (rset64 (rset s.tim.regs (rk Reg.TIM_TM_PER 0 15) 0) (rk Reg.TIM_TM_L 0 15) (rk Reg.TIM_TM_H 0 15) (signed 64 arg))
      (rk Reg.TIM_TM_CFG 0 15) 3#32 } := ⟨_, rfl⟩
  have hop : s.actOp op arg = if op = 3 then (if signed 64 arg ≤ s.tim.time then (s, 1, 0x184) else (s.armed 15 (u.armOn 15 (signed 64 arg)) 0, 0, 0))
      else (s, 1, 0) := by
    rw [hu]
    exact (if_neg h1).trans (if_neg h2)
  rw [hop]
  split
  · split
    · exact .refl s
    · next hlate =>
      obtain ⟨v, hv⟩ : ∃ v : Tim, u.armOn 15 (signed 64 arg) = (W.of v, []) := ⟨_, if_neg (by rw [hu]; exact hlate)⟩
      have harmed : s.armed 15 (u.armOn 15 (signed 64 arg)) 0 = ({ s with tim := v } : State).commit Fx.none [] := by
        rw [hv]
        rfl
      rw [harmed]
      exact (opActed_tim v s).trans (opActed_commit _ _)
  · exact .refl s

/-- An operation on the own registers leaves CHN, the frames sent and every byte, whatever it asks for. -/
theorem actOp_leaves (op arg : Nat) (s : State) : OpActed s (s.actOp op arg).1 := by
  by_cases h1 : op = 1
  · subst h1
    exact (actOp_swap arg s).1
  · by_cases h2 : op = 2
    · subst h2
      exact (actOp_change arg s).1
    · exact actOp_other h1 h2 arg s

/-- The frame sent by CHN while it works, on both ports. -/
theorem send_leaves {e : ChnEnv} (hon : e.on = true) (sub : Nat) (body : List Byte) (u : Chn) :
    ∃ g : ChainFrame, g.subtype = sub ∧ g.origin = u.base ∧ g.body = body ∧
      Emit.eth 0 (buildFrame g) ∈ (Chn.send e sub body (W.of u)).fx.emits ∧
      Emit.eth 1 (buildFrame g) ∈ (Chn.send e sub body (W.of u)).fx.emits := by
  have he : Chn.send e sub body (W.of u) = _ := if_pos hon
  rw [he]
  exact ⟨_, rfl, rfl, rfl, List.mem_cons_self, List.mem_cons_of_mem _ List.mem_cons_self⟩

theorem send_keeps (e : ChnEnv) (sub : Nat) (body : List Byte) (u : Chn) : ChnHolds u.seen [] [] (Chn.send e sub body (W.of u)) :=
  ChnHolds.send (w := W.of u) ⟨rfl, fun _ h => absurd h List.not_mem_nil, rfl⟩ _ _ _

end

end Sys2Proof.Proofs
end

section
/-! Frames of the Chain received, settled (R262–R284). -/

namespace Sys2Proof.Proofs

open Sys2Proof Sys2Proof.Machine

-- One proof after another: many at once wait for the kernel in threads of their own, which the check's memory limit does not hold.
set_option Elab.async false

section
variable {s t : State} {port : Fin 2} {bs : List Byte} {f : ChainFrame} (h : s.Accepts bs f)

/-! ## What is common to the commands (R263) -/

/-- A frame of CHN's own action, once it has been taken: CHN as the action leaves it, the rest and every byte as it was, and the frame remembered
and sent on. -/
theorem acted_leaves {q : List (Nat × Nat × List Nat)} {m : List (Nat × Member)} {r : RMap} {v w : W Chn} (ht : t = s.onChn (fun _ => w))
    (hv : Chn.Taken s.chnEnv port.val bs f s.chn v m r q) {d : List Store} (hw : ChnHolds q v.fx.emits d w) :
    (∃ x y, t.chn = { w.u with
      fault := x
      samples := y }) ∧ t.shell = { s.shell with chn := t.shell.chn } ∧ (d = [] → s.SameBytes t) ∧ t.chn.first f.origin f.fseq = false ∧
    (f.hops ≠ 0 → Emit.eth (1 - port.val) (setAt bs 3 (BitVec.ofNat 8 (f.hops - 1))) ∈ t.outbox) := by
  obtain ⟨⟨x, y, hchn⟩, hshell, hbytes, hsent, -⟩ := onChn_leaves w s ht
  refine ⟨⟨x, y, hchn⟩, hshell, fun hd => hbytes (hw.stored.trans hd), hv.first _ ?_, fun hh => hsent _ (hw.sent _ (hv.sends hh))⟩
  rw [hchn]
  exact hw.seen

/-- Taking alone keeps what it remembers and sends. -/
theorem Chn.Taken.holds {e : ChnEnv} {p : Nat} {u : Chn} {v : W Chn} {m : List (Nat × Member)} {r : RMap} {q : List (Nat × Nat × List Nat)}
    (hv : Chn.Taken e p bs f u v m r q) : ChnHolds q v.fx.emits [] v :=
  ⟨by rw [hv.state], fun _ hx => hx, hv.stores⟩

/-- The action of a command on a frame of its own, or none on another. -/
theorem ChnHolds.acts {q : List (Nat × Nat × List Nat)} {m : List Emit} {v : W Chn} (hv : ChnHolds q m [] v) (sub : Nat) {go : ChainFrame → W Chn → W Chn}
    (hgo : ∃ d, ChnHolds q m d (go f v)) : ∃ d, ChnHolds q m d (if f.subtype = sub then go f v else v) := by
  split
  · exact hgo
  · exact ⟨[], hv⟩

section
include h

/-- A frame received with an action that keeps what is remembered and sent. -/
theorem received_leaves (sub : Nat) (go : ChainFrame → W Chn → W Chn)
    (hgo : ∀ q m v, ChnHolds q m [] v → ∃ d, ChnHolds q m d (go f v)) (ht : t = s.chainFrame sub port bs go) :
    t.chn.first f.origin f.fseq = false ∧
    (f.hops ≠ 0 → Emit.eth (1 - port.val) (setAt bs 3 (BitVec.ofNat 8 (f.hops - 1))) ∈ t.outbox) := by
  obtain ⟨m, r, q, hv⟩ := chainTaken_leaves (port := port.val) h.2
  obtain ⟨d, hd⟩ := hv.holds.acts sub (hgo q _ _ hv.holds)
  exact (acted_leaves (ht.trans (chainFrame_accepted h sub go)) hv hd).2.2.2

end

end

/-! ## Work that follows a frame -/

/-- What follows a frame leaves of the frames remembered and sent. -/
structure Passes (s t : State) : Prop where
  seen : t.chn.seen = s.chn.seen
  sent : ∀ e ∈ s.outbox, e ∈ t.outbox

section
variable {s t v : State}

theorem Passes.refl (s : State) : Passes s s := ⟨rfl, fun _ h => h⟩

theorem Passes.trans (h : Passes s t) (k : Passes t v) : Passes s v := ⟨k.seen.trans h.seen, fun e he => k.sent e (h.sent e he)⟩

theorem passes_commit (fx : Fx) (st : List Store) (s : State) : Passes s (s.commit fx st) :=
  ⟨by rw [commit_chn], fun _ he => still_sent he _ _⟩

theorem passes_fus (x : Fus) (s : State) : Passes s { s with fus := x } := ⟨rfl, fun _ h => h⟩

theorem passes_takeDatagram (f : ChainFrame) (s : State) : Passes s (s.takeDatagram f) := by
  have hfus : ∀ g : Fus → W Fus, Passes s (s.onFus g) := fun g => (passes_fus (g s.fus).u s).trans (passes_commit _ _ _)
  unfold State.takeDatagram State.workOn State.withFeature
  dsimp only
  split
  · split
    · exact hfus _
    · exact .refl s
  · exact .refl s

theorem Passes.first (h : Passes s t) {o q : Nat} (hf : s.chn.first o q = false) : t.chn.first o q = false := by
  unfold Chn.first at hf ⊢
  rw [h.seen]
  exact hf

/-! ## Operations (R284) -/

/-- An operation carried out and acknowledged: what it does on the own registers, then the frame that CHN sends. -/
theorem takeOp_eq (f : ChainFrame) {x : State × Nat × Nat} (hx : x = s.actOp (byteAt f.body 0) (beNat (sliceB f.body 4 8))) :
    ∃ body w, byteAt body 0 = byteAt f.body 0 ∧ byteAt body 1 = byteAt f.body 1 ∧ w = Chn.send x.1.chnEnv 10 body (W.of x.1.chn) ∧
      s.takeOp f = x.1.onChn (fun _ => w) ∧ ChnHolds x.1.chn.seen [] [] w ∧ W.Quiet w := by
  have hbyte : ∀ i, byteAt f.body i % 256 = byteAt f.body i := fun i => Nat.mod_eq_of_lt (BitVec.isLt _)
  refine ⟨beBytes 1 (byteAt f.body 0) ++ beBytes 1 (byteAt f.body 1) ++ beBytes 1 x.2.1 ++ beBytes 1 0 ++ beBytes 2 x.2.2, _, hbyte 0, hbyte 1,
    rfl, by rw [hx]; rfl, send_keeps .., ?_⟩
  unfold Chn.send
  split <;> exact ⟨rfl, rfl, rfl⟩

theorem passes_takeOp (f : ChainFrame) (s : State) : Passes s (s.takeOp f) := by
  obtain ⟨body, w, -, -, -, htake, hholds, -⟩ := takeOp_eq (s := s) f rfl
  obtain ⟨hchn, -, hsent, -⟩ := actOp_leaves (byteAt f.body 0) (beNat (sliceB f.body 4 8)) s
  obtain ⟨⟨c, d, htchn⟩, -, -, -, hstill⟩ := onChn_leaves w _ htake
  refine ⟨?_, fun e he => hstill e (hsent e he)⟩
  rw [htchn]
  exact hholds.seen.trans (congrArg (fun u : Chn => u.seen) hchn :)

theorem takeOp_leaves {f : ChainFrame} (hon : s.chnEnv.on = true) (ht : t = s.takeOp f) :
    s.SameBytes t ∧ (byteAt f.body 0 = 1 → rget t.seq.regs Reg.SEQ_SWAP_AT = wd (beNat (sliceB f.body 4 8))) ∧
    (byteAt f.body 0 = 2 → rget t.prg.regs Reg.PRG_CHG_AT = wd (beNat (sliceB f.body 4 8)) ∧
      (s.feature 11 = true → s.mode = .run → s.prg.chgState = 2 → t.prg.chgState = 3)) ∧
    ∃ g : ChainFrame, g.subtype = 10 ∧ g.origin = s.chn.base ∧ byteAt g.body 0 = byteAt f.body 0 ∧
      byteAt g.body 1 = byteAt f.body 1 ∧ Emit.eth 0 (buildFrame g) ∈ t.outbox ∧ Emit.eth 1 (buildFrame g) ∈ t.outbox := by
  have hact := actOp_leaves (byteAt f.body 0) (beNat (sliceB f.body 4 8)) s
  obtain ⟨x, hx⟩ : ∃ x, x = s.actOp (byteAt f.body 0) (beNat (sliceB f.body 4 8)) := ⟨_, rfl⟩
  rw [← hx] at hact
  obtain ⟨hchn, hxon, -, hbytes⟩ := hact
  obtain ⟨body, w, hb0, hb1, hw, htake, hholds, hquiet⟩ := takeOp_eq (s := s) f hx
  rw [← ht] at htake
  obtain ⟨g, hsub, horigin, hbody, h0, h1⟩ := send_leaves (hxon.trans hon) 10 body x.1.chn
  rw [← hw] at h0 h1
  obtain ⟨-, -, kbytes, ksent, -⟩ := onChn_leaves w x.1 htake
  have hseq : t.seq = x.1.seq := by rw [htake]; exact commit_seq ..
  have hprg : t.prg = x.1.prg := by
    rw [htake]
    exact prg_commit (fx := w.fx) (st := w.st) (s := { x.1 with chn := w.u }) hquiet
  refine ⟨fun b => (kbytes hholds.stored b).trans (hbytes b), fun hop => ?_, fun hop => ?_, g, hsub, horigin.trans (chnBase_of_shell hchn),
    hbody ▸ hb0, hbody ▸ hb1, ksent _ h0, ksent _ h1⟩
  · rw [hseq, hx, hop]
    exact (actOp_swap _ s).2
  · rw [hprg, hx, hop]
    exact (actOp_change _ s).2

end

/-! ## Every command in which a frame comes -/

section
variable {s : State} {a : At} {port : Fin 2} {bs : List Byte} {f : ChainFrame} (h : (s.at_ a).Accepts bs f)
include h

/-- What follows an accepted frame, or nothing. -/
theorem follows_accepted {sub : Nat} {act : ChainFrame → State → State} (hact : ∀ g z, Passes z (act g z)) {t : State}
    (ht : t = (match (s.at_ a).acceptedOf sub bs with
      | some f => act f ((s.at_ a).chainFrame sub port bs (fun _ w => w))
      | none => (s.at_ a).chainFrame sub port bs (fun _ w => w))) :
    t.chn.first f.origin f.fseq = false ∧
    (f.hops ≠ 0 → Emit.eth (1 - port.val) (setAt bs 3 (BitVec.ofNat 8 (f.hops - 1))) ∈ t.outbox) := by
  obtain ⟨hfirst, hsent⟩ := received_leaves (port := port) h sub (fun _ w => w) (fun _ _ _ hv => ⟨[], hv⟩) rfl
  generalize State.chainFrame sub port bs (fun _ w => w) (s.at_ a) = z at *
  have hpass : Passes z t := by
    rw [ht]
    split
    · exact hact _ z
    · exact .refl z
  exact ⟨hpass.first hfirst, fun hh => hpass.sent _ (hsent hh)⟩

/-- In whatever command an accepted frame comes, it is remembered and sent on. -/
theorem chainReceives_remember {c : Instr} (hc : c ∈ chainReceives a port bs) :
    ∃ t, exec c s = .next t ∧ t.chn.first f.origin f.fseq = false ∧
      (f.hops ≠ 0 → Emit.eth (1 - port.val) (setAt bs 3 (BitVec.ofNat 8 (f.hops - 1))) ∈ t.outbox) := by
  simp only [chainReceives, List.mem_cons, List.not_mem_nil, or_false] at hc
  rcases hc with rfl | rfl | rfl | rfl | rfl | rfl | rfl | rfl | rfl | rfl
  · exact ⟨_, rfl, received_leaves h 1 (Chn.takeHeartbeat (s.at_ a).chnEnv port.val) (fun _ _ _ hv => ⟨[], hv.takeHeartbeat ..⟩) rfl⟩
  · exact ⟨_, rfl, received_leaves h 2 (Chn.takeVerdict (s.at_ a).chnEnv) (fun _ _ _ hv => ⟨[], hv.takeVerdict ..⟩) rfl⟩
  · exact ⟨_, rfl, received_leaves h 3 (Chn.takePub (s.at_ a) (s.at_ a).chnEnv) (fun _ _ _ hv => hv.takePub ..) rfl⟩
  · exact ⟨_, rfl, received_leaves h 4 (Chn.takeOutput (s.at_ a).chnEnv) (fun _ _ _ hv => ⟨[], hv.takeOutput ..⟩) rfl⟩
  · exact ⟨_, rfl, received_leaves h 5 Chn.takeInput (fun _ _ _ hv => ⟨[], hv.takeInput _⟩) rfl⟩
  · exact ⟨_, rfl, received_leaves h 6 Chn.takeSamples (fun _ _ _ hv => ⟨[], hv.takeSamples _⟩) rfl⟩
  · exact ⟨_, rfl, follows_accepted (port := port) h (sub := 7) passes_takeDatagram rfl⟩
  · exact ⟨_, rfl, received_leaves h 8 (Chn.takeState (s.at_ a).chnEnv) (fun _ _ _ hv => ⟨[], hv.takeState ..⟩) rfl⟩
  · exact ⟨_, rfl, follows_accepted (port := port) h (sub := 9) passes_takeOp rfl⟩
  · exact ⟨_, rfl, received_leaves h 10 Chn.takeAck (fun _ _ _ hv => ⟨[], hv.takeAck _⟩) rfl⟩

end

end Sys2Proof.Proofs
end

section
/-! Frames of the Chain received, settled (R262–R284). -/

namespace Sys2Proof.Proofs

open Sys2Proof Sys2Proof.Machine

-- One proof after another: many at once wait for the kernel in threads of their own, which the check's memory limit does not hold.
set_option Elab.async false

section
variable {s t : State} {port : Fin 2} {bs : List Byte} {f : ChainFrame}

theorem chnEnv_run (s : State) : s.chnEnv.run = true ↔ s.mode = .run := by
  show (s.mode == .run) = true ↔ _
  exact beq_iff_eq

/-- A cell of CHN that taking a frame leaves. -/
theorem taken_cell {e : ChnEnv} {p : Nat} {u : Chn} {v : W Chn} {m : List (Nat × Member)} {r : RMap} {q : List (Nat × Nat × List Nat)}
    (hv : Chn.Taken e p bs f u v m r q) {k : Nat} (hk : k % 0x400 ≠ Reg.CHN_MEM_STAT % 0x400 ∧ k % 0x400 ≠ Reg.CHN_STATE % 0x400 ∧
      k % 0x400 ≠ Reg.CHN_STONE % 0x400 ∧ k % 0x400 ≠ Reg.CHN_TOP % 0x400) : rget v.u.regs k = rget u.regs k := by
  obtain ⟨h0, h1, h2, h3⟩ := hk
  rw [hv.state]
  exact hv.cells k h0 (fun h => h1 (by rw [h])) (fun h => h2 (by rw [h])) (fun h => h3 (by rw [h]))

theorem taken_base {e : ChnEnv} {p : Nat} {u : Chn} {v : W Chn} {m : List (Nat × Member)} {r : RMap} {q : List (Nat × Nat × List Nat)}
    (hv : Chn.Taken e p bs f u v m r q) : v.u.base = u.base := congrArg (bits · 7 0) (taken_cell hv (by decide))

section
variable (h : s.Accepts bs f)
include h

/-! ## Frames that act on CHN alone -/

/-- An accepted heartbeat becomes the last heard of its member. -/
theorem heartbeat_received (hsub : f.subtype = 1) (hlen : f.body.length = 48)
    (ht : t = s.chainFrame 1 port bs (Chn.takeHeartbeat s.chnEnv port.val)) :
    (t.chn.member f.origin).last = some (readHeartbeat f port.val) ∧
    ((s.mode = .run → f.fno = wd (s.chnEnv.expected s.chn.window).1 ∧ ∀ j, s.chn.judged = some j → f.fno ≠ wd j) →
      ∃ l, (t.chn.member f.origin).heard = readHeartbeat f port.val :: l) ∧
    (∀ b, b ≠ f.origin → t.chn.member b = s.chn.member b) ∧ t.shell = { s.shell with chn := t.shell.chn } ∧ s.SameBytes t := by
  obtain ⟨m, r, q, hv⟩ := chainTaken_leaves (port := port) h.2
  obtain ⟨v, hvdef⟩ : ∃ v, v = chainTaken s.chnEnv port.val bs f s.chn := ⟨_, rfl⟩
  rw [chainFrame_acts h hsub, ← hvdef] at ht
  rw [← hvdef] at hv
  obtain ⟨⟨x, y, hchn⟩, hshell, hbytes, -, -⟩ := acted_leaves ht hv (hv.holds.takeHeartbeat s.chnEnv port.val f)
  obtain ⟨hlast, hheard, hother⟩ := takeHeartbeat_leaves (e := s.chnEnv) (w := v) port.val hlen
  have hwindow : v.u.window = s.chn.window := congrArg (bits · 15 0) (taken_cell hv (by decide))
  have hjudged : v.u.judged = s.chn.judged := by rw [hv.state]
  have hmember : ∀ b, b ≠ f.origin → v.u.member b = s.chn.member b := fun b hb => by
    rw [hv.state]
    exact hv.members b hb
  have hall : ∀ b, t.chn.member b = (Chn.takeHeartbeat s.chnEnv port.val f v).u.member b := fun b => by rw [hchn]; rfl
  rw [hwindow, hjudged] at hheard
  rw [hall]
  exact ⟨hlast, fun hin => hheard fun hrun => hin ((chnEnv_run s).mp hrun), fun b hb => (hall b).trans ((hother b hb).trans (hmember b hb)), hshell,
    hbytes rfl⟩

/-- An accepted verdict shows, and makes the STANDBY that it names ACTIVE. -/
theorem verdict_received (hsub : f.subtype = 2) (ht : t = s.chainFrame 2 port bs (Chn.takeVerdict s.chnEnv)) :
    rget t.chn.regs Reg.CHN_VERDICT = verdictWord (readVerdict f.body) ∧ rget t.chn.regs Reg.CHN_VERDICT_FNO = (readVerdict f.body).fno ∧
    ((readVerdict f.body).successor = s.chn.base → s.chn.role = 2 → s.chn.eMax < 0xFFFFFF → f.stone.toNat < 0xFFFFFF00 →
      t.chn.role = 1 ∧ 256 ≤ t.chn.stone.toNat) ∧ t.shell = { s.shell with chn := t.shell.chn } ∧ s.SameBytes t := by
  obtain ⟨m, r, q, hv⟩ := chainTaken_leaves (port := port) h.2
  obtain ⟨v, hvdef⟩ : ∃ v, v = chainTaken s.chnEnv port.val bs f s.chn := ⟨_, rfl⟩
  rw [chainFrame_acts h hsub, ← hvdef] at ht
  rw [← hvdef] at hv
  obtain ⟨⟨x, y, hchn⟩, hshell, hbytes, -, -⟩ := acted_leaves ht hv (hv.holds.takeVerdict s.chnEnv f)
  obtain ⟨hword, hfno, hclaim⟩ := takeVerdict_leaves (e := s.chnEnv) (f := f) (w := v)
  have hrole : v.u.role = s.chn.role := by rw [hv.state]
  have hmax : v.u.eMax = if s.chnEnv.keeps then max s.chn.eMax (f.stone.toNat / 256) else s.chn.eMax := by rw [hv.state]
  rw [taken_base hv, hrole] at hclaim
  rw [hchn]
  refine ⟨hword, hfno, fun hs hr he hstone => hclaim hs hr ?_, hshell, hbytes rfl⟩
  rw [hmax]
  split <;> omega

/-- Outputs under the highest stone wait for the next LATCH, others do not. -/
theorem output_received (hsub : f.subtype = 4) (hrole : s.chn.role = 4) (ht : t = s.chainFrame 4 port bs (Chn.takeOutput s.chnEnv)) :
    ((s.chn.top s.seq.count).toNat ≤ f.stone.toNat → t.chn.output = some (f.stone, readBeWords (f.body.length / 4) f.body)) ∧
    (f.stone.toNat < (s.chn.top s.seq.count).toNat → t.chn.output = s.chn.output) ∧
    t.shell = { s.shell with chn := t.shell.chn } ∧ s.SameBytes t := by
  obtain ⟨m, r, q, hv⟩ := chainTaken_leaves (port := port) h.2
  obtain ⟨v, hvdef⟩ : ∃ v, v = chainTaken s.chnEnv port.val bs f s.chn := ⟨_, rfl⟩
  rw [chainFrame_acts h hsub, ← hvdef] at ht
  rw [← hvdef] at hv
  obtain ⟨⟨x, y, hchn⟩, hshell, hbytes, -, -⟩ := acted_leaves ht hv (hv.holds.takeOutput s.chnEnv f)
  have hvrole : v.u.role = 4 := by rw [hv.state]; exact hrole
  have hvoutput : v.u.output = s.chn.output := by rw [hv.state]
  have hcount : s.chnEnv.count = s.seq.count := rfl
  have htop := top_heard s.chn v.u s.chnEnv.count f.stone (by rw [hv.state]) (by rw [hv.state])
  obtain ⟨htaken, hleft⟩ := takeOutput_leaves (e := s.chnEnv) (f := f) hvrole
  rw [hcount] at htop htaken hleft
  have hout : t.chn.output = (Chn.takeOutput s.chnEnv f v).u.output := by rw [hchn]
  rw [hout]
  refine ⟨fun hle => htaken ?_, fun hlt => (hleft ?_).trans hvoutput, hshell, hbytes rfl⟩
  · rw [htop, if_pos hle]
  · rw [htop, if_neg (Nat.not_le.mpr hlt)]
    exact fun heq => absurd hlt (by rw [heq]; exact Nat.lt_irrefl _)

/-- Inputs wait for the station record. -/
theorem input_received (hsub : f.subtype = 5) (hlen : f.body.length = 156) (ht : t = s.chainFrame 5 port bs Chn.takeInput) :
    (f.origin, f.fno, readBeWords 39 f.body) ∈ t.chn.inputs ∧ t.shell = { s.shell with chn := t.shell.chn } ∧ s.SameBytes t := by
  obtain ⟨m, r, q, hv⟩ := chainTaken_leaves (port := port) h.2
  obtain ⟨v, hvdef⟩ : ∃ v, v = chainTaken s.chnEnv port.val bs f s.chn := ⟨_, rfl⟩
  rw [chainFrame_acts h hsub, ← hvdef] at ht
  rw [← hvdef] at hv
  obtain ⟨⟨x, y, hchn⟩, hshell, hbytes, -, -⟩ := acted_leaves ht hv (hv.holds.takeInput f)
  have hin : Chn.takeInput f v = _ := if_pos hlen
  refine ⟨?_, hshell, hbytes rfl⟩
  rw [hchn, hin]
  exact List.mem_cons_self

/-- State parts are kept by the joiner that they name. -/
theorem state_received (hsub : f.subtype = 8) (hbase : byteAt f.body 0 = s.chn.base) (hunit : byteAt f.body 1 ≠ 0x15) (hrole : s.chn.role = 2)
    (hsync : s.chn.synced = false) (ht : t = s.chainFrame 8 port bs (Chn.takeState s.chnEnv)) :
    t.chn.sync = some (s.seq.count - s.seq.count % 4294967296 + (be32 f.body 8).toNat) ∧
    (∃ p, p ∈ t.chn.parts ∧ p.unit = byteAt f.body 1 ∧ (be16 f.body 2, f.body.drop 12) ∈ p.got) ∧
    t.shell = { s.shell with chn := t.shell.chn } ∧ s.SameBytes t := by
  obtain ⟨m, r, q, hv⟩ := chainTaken_leaves (port := port) h.2
  obtain ⟨v, hvdef⟩ : ∃ v, v = chainTaken s.chnEnv port.val bs f s.chn := ⟨_, rfl⟩
  rw [chainFrame_acts h hsub, ← hvdef] at ht
  rw [← hvdef] at hv
  obtain ⟨⟨x, y, hchn⟩, hshell, hbytes, -, -⟩ := acted_leaves ht hv (hv.holds.takeState s.chnEnv f)
  obtain ⟨hkept, hpart⟩ := takeState_leaves (e := s.chnEnv) (f := f) (w := v) (hbase.trans (taken_base hv).symm) hunit (by rw [hv.state]; exact hrole)
    (by rw [hv.state]; exact hsync)
  refine ⟨?_, ?_, hshell, hbytes rfl⟩
  · rw [hchn]
    exact hkept
  · rw [hchn]
    exact hpart

/-- An acknowledgement marks its target. -/
theorem ack_received (hsub : f.subtype = 10) (hop : byteAt f.body 0 = rfld s.chn.regs Reg.CHN_OP_STAT 15 8) (hid : byteAt f.body 1 = s.chn.opId)
    (hbusy : s.chn.opBusy = true) (htgt : rbit s.chn.regs (baseCell Reg.CHN_OP_TGT f.origin) (f.origin % 32) = true)
    (ht : t = s.chainFrame 10 port bs Chn.takeAck) :
    (byteAt f.body 2 = 0 → rbit t.chn.regs (baseCell Reg.CHN_OP_ACK f.origin) (f.origin % 32) = true) ∧
    (byteAt f.body 2 ≠ 0 → rbit t.chn.regs (baseCell Reg.CHN_OP_NAK f.origin) (f.origin % 32) = true ∧
      rbit t.chn.regs Reg.CHN_OP_STAT 3 = true) ∧
    t.shell = { s.shell with chn := t.shell.chn } ∧ s.SameBytes t := by
  obtain ⟨m, r, q, hv⟩ := chainTaken_leaves (port := port) h.2
  obtain ⟨v, hvdef⟩ : ∃ v, v = chainTaken s.chnEnv port.val bs f s.chn := ⟨_, rfl⟩
  rw [chainFrame_acts h hsub, ← hvdef] at ht
  rw [← hvdef] at hv
  obtain ⟨⟨x, y, hchn⟩, hshell, hbytes, -, -⟩ := acted_leaves ht hv (hv.holds.takeAck f)
  have hstat : rget v.u.regs Reg.CHN_OP_STAT = rget s.chn.regs Reg.CHN_OP_STAT := taken_cell hv (by decide)
  have hcell : rget v.u.regs (baseCell Reg.CHN_OP_TGT f.origin) = rget s.chn.regs (baseCell Reg.CHN_OP_TGT f.origin) :=
    taken_cell hv (by rw [baseCell_offset]; decide)
  obtain ⟨hack, hnak⟩ := takeAck_leaves (f := f) (w := v) (hop.trans (congrArg (bits · 15 8) hstat.symm)) (by rw [hv.state]; exact hid)
    ((congrArg (bit · 0) hstat).trans hbusy) ((congrArg (bit · _) hcell).trans htgt)
  rw [hchn]
  exact ⟨hack, hnak, hshell, hbytes rfl⟩

/-! ## Frames that go on to memory, FLT, FUS and the own registers -/

/-- A publication part fills its place of the hidden half of the entry's mirror pair. -/
theorem pub_received {n blk len : Nat} (hsub : f.subtype = 3) (hn : n = byteAt f.body 0) (hpub : s.chn.pub n = (blk, len, true)) (h8 : n < 8)
    (hlen : len ≠ 0) (hrun : s.mode = .run) (hrole : s.chn.role ≠ 1) (hfits : 1920 * byteAt f.body 1 + (f.body.drop 8).length ≤ 32 * len)
    (ht : t = s.chainFrame 3 port bs (Chn.takePub s s.chnEnv)) :
    (∀ i (hi : i < (f.body.drop 8).length), t.mem.byte (s.hidden (blk + 2 * len) len + 1920 * byteAt f.body 1 + i) = (f.body.drop 8)[i]) ∧
    s.SameBytesBut t (s.hidden (blk + 2 * len) len + 1920 * byteAt f.body 1) (f.body.drop 8).length ∧
    (∃ p, p ∈ t.chn.pubParts ∧ p.1 = n ∧ p.2.1 = be32 f.body 4 ∧ byteAt f.body 1 ∈ p.2.2.2) ∧
    t.shell = { s.shell with chn := t.shell.chn } := by
  obtain ⟨m, r, q, hv⟩ := chainTaken_leaves (port := port) h.2
  obtain ⟨v, hvdef⟩ : ∃ v, v = chainTaken s.chnEnv port.val bs f s.chn := ⟨_, rfl⟩
  rw [chainFrame_acts h hsub, ← hvdef] at ht
  rw [← hvdef] at hv
  have hcell : ∀ k, rget v.u.regs (rk Reg.CHN_PUB_CFG 0 k) = rget s.chn.regs (rk Reg.CHN_PUB_CFG 0 k) := fun k =>
    taken_cell hv (by rw [rk_offset]; decide)
  have hvpub : v.u.pub n = (blk, len, true) := by
    rw [← hpub]
    unfold Chn.pub
    rw [hcell]
  have hmem : n ∈ v.u.pubs := by
    unfold Chn.pubs
    refine List.mem_filter.mpr ⟨List.mem_range.mpr h8, ?_⟩
    rw [hvpub]
    simpa using hlen
  have hvrole : v.u.role ≠ 1 := by rw [hv.state]; exact hrole
  obtain ⟨A, hA⟩ : ∃ A, A = s.hidden (blk + 2 * len) len + 1920 * byteAt f.body 1 := ⟨_, rfl⟩
  obtain ⟨got, hform⟩ : ∃ got, Chn.takePub s s.chnEnv f v = (v.store Pg.CHN A (f.body.drop 8)).map (fun u => { u with
      pubParts := (n, be32 f.body 4, byteAt f.body 2, byteAt f.body 1 :: got) :: u.pubParts.filter (fun x => x.1 != n) }) := by
    unfold Chn.takePub
    dsimp only
    rw [← hn, hvpub, hA]
    dsimp only
    rw [if_pos (by simp [(chnEnv_run s).mpr hrun, hmem, hvrole]; simpa using hfits)]
    exact ⟨_, rfl⟩
  obtain ⟨w, hw⟩ : ∃ w, w = Chn.takePub s s.chnEnv f v := ⟨_, rfl⟩
  rw [← hw] at ht hform
  obtain ⟨⟨x, y, hchn⟩, hshell, -, -, -⟩ := onChn_leaves w s ht
  have hst : w.st = [⟨Pg.CHN, A, f.body.drop 8, false⟩] := by
    rw [hform]
    show v.st ++ _ = _
    rw [hv.stores]
    rfl
  have hbyte : ∀ b, t.mem.byte b = (s.mem.store ⟨Pg.CHN, A, f.body.drop 8, false⟩).byte b := fun b => by
    rw [ht, byte_onChn, hst]
    rfl
  rw [← hA]
  refine ⟨fun i hi => ?_, fun b hb => ?_, ?_, hshell⟩
  · rw [hbyte, byte_store, if_pos (Nat.le_add_right A i)]
    dsimp only
    rw [Nat.add_sub_cancel_left, List.getElem?_eq_getElem hi, Option.getD_some]
  · rw [hbyte]
    exact byte_store_outside s.mem _ _ hb
  · rw [hchn, hform]
    exact ⟨_, List.mem_cons_self, rfl, rfl, List.mem_cons_self⟩

/-- A sample comes to FLT. -/
theorem sample_received {x : Sample} {k : Nat} (hsub : f.subtype = 6) (hx : readSamples f = [x]) (hup : s.islandUp 5 = true)
    (hen : hdrEnabled s.hdr Pg.FLT = true) (htakers : s.flt.takers x = [k]) (hrate : s.flt.inRate < 1000000) (hnew : (s.flt.stream k).lastTake = none)
    (ht : t = s.chainFrame 6 port bs Chn.takeSamples) :
    t.flt.stream k = { s.flt.stream k with
      wait := insertWaiting (s.flt.stream k).wait ⟨x.stamp + 1000 * (rfld s.flt.regs (rk Reg.FLT_S_DLV 0 k) 19 0 : Int),
        x.stamp - 1000 * (rfld s.flt.regs (rk Reg.FLT_S_LAT 0 k) 19 0 : Int), x.value⟩ } ∧
    (∀ j, j ≠ k → t.flt.stream j = s.flt.stream j) ∧ t.shell = { s.shell with chn := t.shell.chn } ∧ s.SameBytes t := by
  obtain ⟨m, r, q, hv⟩ := chainTaken_leaves (port := port) h.2
  obtain ⟨v, hvdef⟩ : ∃ v, v = chainTaken s.chnEnv port.val bs f s.chn := ⟨_, rfl⟩
  rw [chainFrame_acts h hsub, ← hvdef] at ht
  rw [← hvdef] at hv
  have hform : Chn.takeSamples f v = v.sample x := by
    unfold Chn.takeSamples
    rw [hx]
    rfl
  rw [hform] at ht
  obtain ⟨-, hshell, hbytes, -, -⟩ := onChn_leaves (v.sample x) s ht
  have hsam : (v.sample x).fx.samples = [x] := by
    show v.fx.samples ++ [x] = [x]
    rw [hv.samples]
    rfl
  have hflt : t.flt = (Flt.arrive s.tim.time x (W.of s.flt)).u := by
    have hst : (v.sample x).st = [] := hv.stores
    have hcommit : t = ({ s with chn := (v.sample x).u } : State).commit (v.sample x).fx [] := by
      rw [ht, ← hst]
      rfl
    rw [hcommit]
    exact flt_commit_one (s := { s with chn := (v.sample x).u }) hsam hv.reads hup hen
  have hlate : Flt.late s.flt x k = false := by
    unfold Flt.late
    rw [hnew]
  obtain ⟨sec, c, hwork⟩ := arriveAt_withinRate s.tim.time x k hrate
  rw [hlate, if_neg (by decide)] at hwork
  rw [arrive_oneTaker _ htakers, hwork] at hflt
  have hstream : ∀ j, t.flt.stream j = _ := fun j => (congrArg (fun u : Flt => u.stream j) hflt).trans
    (stream_addWaiting x { s.flt with second := sec, inRate := c } k j)
  refine ⟨?_, fun j hj => ?_, hshell, hbytes hv.stores⟩
  · rw [hstream, if_pos rfl]
    rfl
  · rw [hstream, if_neg hj]
    rfl

/-- A datagram reaches FUS. -/
theorem datagram_received {d : List Byte} {k : Nat} (hsub : f.subtype = 7) (hd : d = sliceB f.body 16 (be16 f.body 12))
    (hw : s.works Pg.FUS0 = true) (hf : s.feature 7 = true) (hctrl : rbit s.fus.regs Reg.FUS0_CTRL 0 = true)
    (hcheck : s.fus.checkDatagram (beNat (sliceB f.body 8 4)) d = .inr k) (hsel : bit s.fus.srcSel k = true)
    (horigin : bits (s.fus.cfg k) 23 16 = f.origin) (hstamp : 1000 * s.seq.startUs ≤ signed 64 (beNat (sliceB f.body 0 8)))
    (hgap : ∀ e, s.fus.last.find? (fun e => e.1 == k) = some e → (beNat (sliceB d 20 4) + 4294967296 - e.2) % 4294967296 = 1)
    (hpoints : (if s.fus.rateFno = s.seq.count then s.fus.ratePts else 0) + pdCount d ≤ pointAllowance s.seq.lenUs)
    (ht : t = (s.chainFrame 7 port bs (fun _ w => w)).takeDatagram f) :
    t.fus.pool = s.fus.pool ++ [⟨k, signed 64 (beNat (sliceB f.body 0 8)), sliceB d 28 (8 * pdCount d)⟩] ∧
    t.shell = { s.shell with
      chn := t.shell.chn
      fus := t.fus } ∧ s.SameBytes t := by
  obtain ⟨m, r, q, hv⟩ := chainTaken_leaves (port := port) h.2
  obtain ⟨v, hvdef⟩ : ∃ v, v = chainTaken s.chnEnv port.val bs f s.chn := ⟨_, rfl⟩
  rw [chainFrame_acts h hsub, ← hvdef] at ht
  rw [← hvdef] at hv
  obtain ⟨z, hz⟩ : ∃ z, z = s.onChn (fun _ => v) := ⟨_, rfl⟩
  rw [← hz] at ht
  obtain ⟨-, hshell, hbytes, -, -⟩ := onChn_leaves v s hz
  have hzfus : z.fus = s.fus := by rw [hz]; exact onChn_fus ..
  have hzseq : z.seq = s.seq := by rw [hz]; exact commit_seq ..
  have hzworks : z.works Pg.FUS0 = true := by rw [hz, works_onChn]; exact hw
  have hzfeature : z.feature 7 = true := by
    rw [hz]
    exact (commit_feature ..).trans hf
  obtain ⟨S, hS⟩ : ∃ S, S = signed 64 (beNat (sliceB f.body 0 8)) := ⟨_, rfl⟩
  rw [← hS] at hstamp
  have hback : Fus.chainDatagram.fathomsBackOf s.seq.startUs s.seq.lenUs S = 0 := by
    unfold Fus.chainDatagram.fathomsBackOf fdiv
    have hlen : (0 : Int) ≤ 1000 * (s.seq.lenUs : Int) := by omega
    rcases hlen.eq_or_lt with hzero | hpos
    · rw [← hzero, Int.fdiv_zero]
      rfl
    · have hlt : Int.fdiv (1000 * s.seq.startUs - S + 1000 * (s.seq.lenUs : Int) - 1) (1000 * (s.seq.lenUs : Int)) < 1 := by
        rw [Int.fdiv_eq_ediv_of_nonneg _ hlen]
        exact Int.ediv_lt_of_lt_mul hpos (by omega)
      omega
  obtain ⟨b, htake⟩ := take_next (now := S) (gap_next (u := s.fus) hgap) (show Fus.ptsIn s.fus s.seq.count + pdCount d ≤ _ from hpoints)
  have hchain : Fus.chainDatagram f.origin (beNat (sliceB f.body 8 4)) S s.seq.startUs s.seq.lenUs z.tick s.seq.count d s.fus =
      W.of (Fus.accept k S d { s.fus with rateFno := s.seq.count, ratePts := Fus.ptsIn s.fus s.seq.count, rateRec := b }) := by
    unfold Fus.chainDatagram
    dsimp only
    rw [if_neg (by rw [hctrl]; decide), hcheck]
    dsimp only
    rw [if_neg (by rw [hsel, horigin]; simp), hback, if_neg (by omega), Nat.sub_zero, htake]
  obtain ⟨x, hxdef⟩ : ∃ x, x = Fus.accept k S d { s.fus with rateFno := s.seq.count, ratePts := Fus.ptsIn s.fus s.seq.count, rateRec := b } := ⟨_, rfl⟩
  rw [← hxdef] at hchain
  have htform : t = { z with fus := x } := by
    rw [ht]
    unfold State.takeDatagram
    dsimp only
    rw [workOn_works _ hzworks, withFeature_present _ hzfeature, ← hd, ← hS]
    unfold State.onFus
    dsimp only
    rw [hzfus, hzseq, hchain]
    exact commit_none _
  refine ⟨?_, ?_, fun c => ?_⟩
  · rw [htform, ← hS]
    show x.pool = _
    rw [hxdef]
    rfl
  · rw [htform]
    show ({ z.shell with fus := x } : State) = { s.shell with chn := z.shell.chn, fus := x }
    rw [hshell]
  · rw [htform]
    exact hbytes hv.stores c

/-- An operation acts on the own registers and is acknowledged. -/
theorem op_received (hsub : f.subtype = 9) (ht : t = (s.chainFrame 9 port bs (fun _ w => w)).takeOp f) :
    (byteAt f.body 0 = 1 → rget t.seq.regs Reg.SEQ_SWAP_AT = wd (beNat (sliceB f.body 4 8))) ∧
    (byteAt f.body 0 = 2 → rget t.prg.regs Reg.PRG_CHG_AT = wd (beNat (sliceB f.body 4 8)) ∧
      (s.feature 11 = true → s.mode = .run → s.prg.chgState = 2 → t.prg.chgState = 3)) ∧
    (∃ g : ChainFrame, g.subtype = 10 ∧ g.origin = s.chn.base ∧ byteAt g.body 0 = byteAt f.body 0 ∧
      byteAt g.body 1 = byteAt f.body 1 ∧ Emit.eth 0 (buildFrame g) ∈ t.outbox ∧ Emit.eth 1 (buildFrame g) ∈ t.outbox) ∧
    s.SameBytes t := by
  obtain ⟨m, r, q, hv⟩ := chainTaken_leaves (port := port) h.2
  obtain ⟨-, hon, -⟩ := parsed_of_accepts h
  obtain ⟨v, hvdef⟩ : ∃ v, v = chainTaken s.chnEnv port.val bs f s.chn := ⟨_, rfl⟩
  rw [chainFrame_acts h hsub, ← hvdef] at ht
  rw [← hvdef] at hv
  obtain ⟨z, hz⟩ : ∃ z, z = s.onChn (fun _ => v) := ⟨_, rfl⟩
  rw [← hz] at ht
  obtain ⟨⟨x, y, hchn⟩, -, hbytes, -, -⟩ := onChn_leaves v s hz
  have hzbase : z.chn.base = s.chn.base := by
    rw [hchn]
    exact taken_base hv
  have hzcfg : z.chn.cfg = s.chn.cfg := by
    rw [hchn]
    exact taken_cell hv (by decide)
  have hzmode : z.mode = s.mode := by rw [hz]; exact commit_mode ..
  have hzon : z.chnEnv.on = true := by
    have hzworks : z.works Pg.CHN = s.works Pg.CHN := by rw [hz]; exact works_onChn ..
    rw [chnEnv_on, hzworks, hzcfg, hzmode]
    exact hon
  have hzfeature : z.feature 11 = s.feature 11 := by
    rw [hz]
    exact commit_feature ..
  have hzstate : z.prg.chgState = s.prg.chgState := by
    rw [hz]
    exact chgState_commit v.fx v.st { s with chn := v.u }
  obtain ⟨kbytes, hswap, hchange, g, hg⟩ := takeOp_leaves (f := f) hzon ht
  rw [hzbase] at hg
  rw [hzfeature, hzmode, hzstate] at hchange
  exact ⟨hswap, hchange, ⟨g, hg⟩, fun b => (kbytes b).trans (hbytes hv.stores b)⟩

end

end

/-- Settles O24: a frame received by what taking it leaves of CHN, then by the action on its subtype. -/
theorem chainFramesAndReceives : Obligations.ChainFramesAndReceives := by
  unfold Obligations.ChainFramesAndReceives
  refine ⟨?_, ?_, ?_, ?_, ?_, ?_, ?_, ?_, ?_, ?_, ?_, ?_⟩
  · intro a port bs s hup hon hp c hc
    obtain ⟨sub, go, hexec⟩ := bad_received (s := s) hp hc
    obtain ⟨herr, hbad, hchn, hshell, hbytes⟩ := bad_leaves (s := s.at_ a) hup hon hp sub go rfl
    exact ⟨_, hexec, herr, hbad, hchn, hshell, at_sameBytes hbytes⟩
  · intro a port bs f s h c hc
    exact chainReceives_remember h hc
  · intro a port bs f s h hsub hlen
    obtain ⟨hlast, hheard, hother, hshell, hbytes⟩ := heartbeat_received (port := port) h hsub hlen rfl
    exact ⟨_, rfl, hlast, hheard, hother, hshell, at_sameBytes hbytes⟩
  · intro a port bs f s h hsub
    obtain ⟨hword, hfno, hclaim, hshell, hbytes⟩ := verdict_received (port := port) h hsub rfl
    exact ⟨_, rfl, hword, hfno, hclaim, hshell, at_sameBytes hbytes⟩
  · intro a port bs f n blk len s h hsub hn hpub h8 hlen hrun hrole hfits
    obtain ⟨hin, hout, hpart, hshell⟩ := pub_received (port := port) h hsub hn hpub h8 hlen hrun hrole hfits rfl
    exact ⟨_, rfl, hin, fun b hb => (hout b hb).trans (byte_strike ..), hpart, hshell⟩
  · intro a port bs f s h hsub hrole
    obtain ⟨htaken, hleft, hshell, hbytes⟩ := output_received (port := port) h hsub hrole rfl
    exact ⟨_, rfl, htaken, hleft, hshell, at_sameBytes hbytes⟩
  · intro a port bs f s h hsub hlen
    obtain ⟨hin, hshell, hbytes⟩ := input_received (port := port) h hsub hlen rfl
    exact ⟨_, rfl, hin, hshell, at_sameBytes hbytes⟩
  · intro a port bs f x k s h hsub hx hup hen htakers hrate hnew
    obtain ⟨hstream, hother, hshell, hbytes⟩ := sample_received (port := port) h hsub hx hup hen htakers hrate hnew rfl
    exact ⟨_, rfl, hstream, hother, hshell, at_sameBytes hbytes⟩
  · intro a port bs d f k s h hsub hd hw hf hctrl hcheck hsel horigin hstamp hgap hpoints
    obtain ⟨hpool, hshell, hbytes⟩ := datagram_received (port := port) h hsub hd hw hf hctrl hcheck hsel horigin hstamp hgap hpoints rfl
    refine ⟨_, congrArg Host.Outcome.next ?_, hpool, hshell, at_sameBytes hbytes⟩
    dsimp only
    rw [acceptedOf_accepted h, if_pos hsub]
  · intro a port bs f s h hsub hbase hunit hrole hsync
    obtain ⟨hkept, hpart, hshell, hbytes⟩ := state_received (port := port) h hsub hbase hunit hrole hsync rfl
    exact ⟨_, rfl, hkept, hpart, hshell, at_sameBytes hbytes⟩
  · intro a port bs f s h hsub
    obtain ⟨hswap, hchange, hack, hbytes⟩ := op_received (port := port) h hsub rfl
    refine ⟨_, congrArg Host.Outcome.next ?_, hswap, hchange, hack, at_sameBytes hbytes⟩
    dsimp only
    rw [acceptedOf_accepted h, if_pos hsub]
  · intro a port bs f s h hsub hop hid hbusy htgt
    obtain ⟨hack, hnak, hshell, hbytes⟩ := ack_received (port := port) h hsub hop hid hbusy htgt rfl
    exact ⟨_, rfl, hack, hnak, hshell, at_sameBytes hbytes⟩

end Sys2Proof.Proofs
end
